-- ==== Sys2Proof/Word.lean ====
section
/-! DEFINITION. The word types and index types of the JQ7256 (spec/00_scope.md, Tables SCO-2 and SCO-3). -/

namespace Sys2Proof

abbrev Byte := BitVec 8
/-- One word of the engine space, or one 48-bit field (R4, R151). -/
abbrev Word48 := BitVec 48

/-- A table or memory kept as (index, value) pairs; an index that is not listed holds the table's default. -/
abbrev Sparse (α : Type) := List (Nat × α)

/-! Index ranges of Table SCO-3. -/
abbrev AxisIx := Fin 256
abbrev SegIx := Fin 8
/-- Ring port p = 2n for SEGnA and 2n + 1 for SEGnB (R49). -/
abbrev PortIx := Fin 16
abbrev NodeIx := Fin 128
abbrev FbIx := Fin 16
abbrev StIx := Fin 8
abbrev FqIx := Fin 8
abbrev EngIx := Fin 8
abbrev UnitIx := Fin 8
abbrev GroupIx := Fin 32
abbrev PowerIx := Fin 16
abbrev PairIx := Fin 8
abbrev SlotIx := Fin 8
abbrev PlantIx := Fin 2

end Sys2Proof
end

