-- ==== Sys2Proof/Syntax.lean ====
section
/-! DEFINITION. The commands of the block: one constructor of `Instr` per row of spec/opcode_table.json, and the
operand types they carry.  A row that reports something from outside carries what the device would observe. -/

namespace Sys2Proof

/-- The owner of a task, an observer or a feedback status: an axis or the line master (instance 0x110, R146). -/
inductive Owner where
  | axis (a : AxisIx)
  | line
  deriving DecidableEq, Repr

/-- The two safety channels (Table SAF-1). -/
inductive Chan where
  | p | h
  deriving DecidableEq, Repr

/-- The two barrier channels (R341). -/
inductive Barrier where
  | m | h
  deriving DecidableEq, Repr

/-- A wall time (T80, R4). -/
structure T80 where
  sec : BitVec 48
  ns : BitVec 32
  deriving DecidableEq, Repr

/-- A Futhes frame as a ring port receives it (R50): the bytes H0 to the last CRC byte, whether the frame contained
an error indication (R60), and the SFD stamp, in 0.1 ns after the start of the current head cycle (R412). -/
structure RxFrame where
  port : PortIx
  bytes : List Byte
  error : Bool
  sfd : Int
  deriving DecidableEq, Repr

/-- The fields of the SGMII in-band control word that a port reads (R45): the link, the speed in Mb/s as its code, and the duplex. -/
inductive InBandSpeed where
  | m10 | m100 | m1000
  deriving DecidableEq, Repr

structure InBandWord where
  link : Bool
  speed : InBandSpeed
  fullDuplex : Bool
  deriving DecidableEq, Repr

/-- Where a UDP datagram goes: its destination address and port, and its IEEE 802.1Q tag, 0 for none (R427, R428). -/
structure UdpDest where
  ip : BitVec 32
  port : BitVec 16
  vlan : BitVec 12
  deriving DecidableEq, Repr

/-- A port that reports link up, with the in-band word it has read (R45). -/
structure PortUp where
  port : PortIx
  word : InBandWord
  deriving DecidableEq, Repr

/-- The time that a CSF took around its ring, in 0.1 ns, and whether it was that of the counter train (R100, R115). -/
structure LoopTime where
  counter : Bool
  lam : Nat
  deriving DecidableEq, Repr

/-- When a pin has changed: the stamp of its first sample, and how many samples the new level has stood (R124, R386). -/
structure PinTime where
  held : Nat
  stamp : Int
  deriving DecidableEq, Repr

/-- A level of STn_FLT, and for how many ns it has stood (R235). -/
structure FltLevel where
  level : Bool
  heldNs : Nat
  deriving DecidableEq, Repr

/-- The addresses of a UDP datagram: where it goes, and its source address. -/
structure UdpPath where
  dest : UdpDest
  src : BitVec 32
  deriving DecidableEq, Repr

/-- The IP address that a frame on a plant port asks for, and its tag, 0 for none (R427). -/
structure PlantTarget where
  vlan : BitVec 12
  ip : BitVec 32
  deriving DecidableEq, Repr

/-- The pins that every reset reads: TEST_EN and BOOTSEL (R494, R501). -/
structure ResetPins where
  testEn : Bool
  bootsel : BitVec 2
  deriving DecidableEq, Repr

/-- Where link-down comes from (R48). -/
inductive LinkSource where
  | inBand | codeSync | mdioPoll
  deriving DecidableEq, Repr

/-- The faults of Table SAF-6 that other rows do not detect. -/
inductive FatalCause where
  | secondEngine | supervisor | controlDieSilent | channelP | temperature | islandReset | channelH
  deriving DecidableEq, Repr

/-- What SECDED finds on a read (R151). -/
inductive Ecc where
  | clean | corrected | double
  deriving DecidableEq, Repr

/-- The session and flags of a host command (R416, R418). -/
structure CmdCtx where
  slot : SlotIx
  seq : BitVec 16
  expert : Bool
  atBoundary : Bool
  deriving DecidableEq, Repr

/-- The source of a packet (R430): the PCIe function, or an address and port at a plant port. -/
inductive HostSource where
  | pcie
  | udp (plant : PlantIx) (ip : BitVec 32) (port : BitVec 16)
  deriving DecidableEq, Repr

/-- The crossings that a port-local reset fences (R469). -/
inductive FenceSite where
  | port (p : PortIx)
  | lane (l : Fin 2)
  deriving DecidableEq, Repr

/-- A unit that can hold an enable (R41). -/
inductive EnableUnit where
  | axis (a : AxisIx)
  | output (j : FqIx)
  deriving DecidableEq, Repr

/-- A slot record of a schedule (Table FRM-13). -/
structure SlotRec where
  slot : Nat
  mux : Nat
  phase : Nat
  use : Nat
  axis : Nat
  node : Nat
  lenWords : Nat
  deriving DecidableEq, Repr

/-- A schedule of one segment: the SCH header fields and the records (Tables FRM-13 and SLT-2). -/
structure Schedule where
  ver : Nat
  period : Nat
  staticSlots : Nat
  slotLen : Nat
  headSlots : Nat
  minislots : Nat
  minislotLen : Nat
  guardLen : Nat
  safWd : Nat
  wCode : Nat
  records : List SlotRec
  deriving DecidableEq, Repr

/-- A PVT segment, as its four words (Table PRO-1). -/
structure PvtSeg where
  w0 : Word48
  w1 : Word48
  w2 : Word48
  w3 : Word48
  deriving DecidableEq, Repr

/-- The fields of a move-list entry (Table RUN-1). -/
structure MoveEntry where
  seq : BitVec 32
  trigger : Word48
  action : BitVec 8
  flags : BitVec 8
  seg : BitVec 8
  target : BitVec 8
  channel : BitVec 8
  outAct : BitVec 8
  axis : BitVec 16
  segment : BitVec 16
  lead : BitVec 16
  tol : BitVec 16
  grp : BitVec 8
  deriving DecidableEq, Repr

/-- One host reference of AX_DIRECT (R483). -/
structure DirectRef where
  apply : BitVec 16
  r : Word48
  v : Word48
  deriving DecidableEq, Repr

/-- The envelope of a twin-link message (R356): the lane, whether its CRC-32C is correct, and its reset epoch. -/
structure TwinEnv where
  lane : Fin 2
  crcOk : Bool
  epoch : BitVec 4
  deriving DecidableEq, Repr

/-- HEALTH (Table TWN-1). -/
structure HealthMsg where
  healthy : Bool
  synced : Bool
  onMove : Bool
  key : BitVec 64
  engines : BitVec 8
  hashes : List (BitVec 64)
  serial : BitVec 48
  flags : BitVec 8
  deriving DecidableEq, Repr

/-- LOG (Table TWN-1): a logged command or a trim level (R276). -/
structure LogRec where
  pos : Nat
  cycle : Nat
  slot : SlotIx
  seq : BitVec 16
  opcode : BitVec 16
  params : List Byte
  trim : Option Nat
  deriving DecidableEq, Repr

/-- RELEASE (Table TWN-1). -/
structure ReleaseMsg where
  owner : Owner
  cycle : Nat
  isNew : Bool
  fb : List Word48
  deriving DecidableEq, Repr

/-- What a joining standby receives at boundary b (R362 step 3); `figures`: axis, d, φ and σ of the axes of the schedule in force. -/
structure JoinMsg where
  cycle : Nat
  logPos : Nat
  sec : Nat
  ns : Nat
  rate : Int
  clockState : Nat
  tEpoch : Int
  figures : List (Nat × Nat × Nat × Nat)
  params : List (Nat × Int)
  moves : List (MoveEntry × Nat × Int)
  keys : List (List Byte)
  deriving DecidableEq, Repr

/-- The activity counts that enter P_est beside the engines' busy cycles (R270). -/
structure Activity where
  sram : Nat
  serdes : Nat
  twin : Nat
  sup : Nat
  deriving DecidableEq, Repr

/-- Where the scrubber found a double-bit error (R485). -/
inductive ScrubSite where
  | engineLocal (e : EngIx)
  | shared (word : Nat)
  | channelP
  | supervisor
  deriving DecidableEq, Repr

/-- A parameter item: ID and the twelve value bytes read as a number (R442). -/
structure ParItem where
  id : BitVec 32
  value : BitVec 96
  deriving DecidableEq, Repr

/-- A key slot of KEYS_WRAPPED: its generation number and the wrapped bytes (R436). -/
structure KeySlot where
  gen : Nat
  wrapped : List Byte
  deriving DecidableEq, Repr

/-- What the boot finds in one bank of the flash (R463 to R465): the header and hash checks, and the sections. -/
structure BankImage where
  readable : Bool
  magic : BitVec 32
  format : BitVec 16
  part : BitVec 16
  minRev : BitVec 8
  keyHashOk : Bool
  sigOk : Bool
  sectionsOk : Bool
  imgSeq : BitVec 32
  fwVer : BitVec 32
  hashes : List (BitVec 64)
  programs : List (BitVec 64)
  constants : List Word48
  schedules : List (SegIx × Schedule)
  items : List ParItem
  coefs : List (AxisIx × BitVec 16 × Word48)
  segments : List (BitVec 16 × PvtSeg)
  moves : List MoveEntry
  safety : List Byte
  keys : List KeySlot
  deriving DecidableEq, Repr

/-- A reset pin or monitor that can start a boot (R459, R461). -/
inductive ResetCause where
  | powerOn | resetN | sysReset
  deriving DecidableEq, Repr

/-- The commands: one constructor per row of opcode_table.json. -/
inductive Instr where
  -- The control cycle
  | cycleStart
  | localDispatch
  | engineDispatch (e : EngIx)
  | stillEntry (o : Owner)
  | settlingEnd (o : Owner)
  | fbkFrameReceive (f : RxFrame)
  | fbkRelease (a : AxisIx)
  | axisDeadline (a : AxisIx)
  | ageFault (a : AxisIx)
  | refSeal
  | moveListPass
  | captureEvent (seq : BitVec 32)
  | heatTick (temps : List Int) (act : Activity)
  | dmax (a : AxisIx)
  -- Ring, breaks and healing
  | csfReturn (seg : SegIx) (lam : LoopTime)
  | loopDrift (seg : SegIx)
  | csfReturnMissing (seg : SegIx)
  | portLinkDown (p : PortIx) (src : LinkSource)
  | mdioLinkPoll (p : PortIx) (bmsr : BitVec 16)
  | loopFrameReceive (f : RxFrame)
  | ringRestoreAuto (seg : SegIx)
  | ringRestored (seg : SegIx)
  -- Safety
  | safUplinkReceive (f : RxFrame)
  | uplinkInvalidRun (a : AxisIx)
  | upTimeout (a : AxisIx)
  | ss1Tmax (ch : Chan) (g : GroupIx)
  | standstillConfirm (ch : Chan) (g : GroupIx)
  | speedDiscrepancy (a : AxisIx)
  | islandSeqReport
  | channelPFailure (selfCheck : Bool)
  | channelHFailure (crcUnits : Bool)
  | temperatureTrip (tds : Int)
  | fatalFault (cause : FatalCause)
  | endgameStopAll
  | endgameOutputDrop
  | twinBitExpiry
  | siDiscrepancy (ch : Chan) (i : PairIx)
  | barrierLinkLost (ch : Chan)
  | barrierLinkRecover (ch : Chan)
  | ackWinExpiry
  | safParamActivate
  | safParamDiscard
  -- Field inputs and outputs
  | fieldMUplinkReceive (bytes : List Byte)
  | fieldHUplinkReceive (bytes : List Byte)
  | fieldDownlinkReceive (b : Barrier) (bytes : List Byte)
  | timedOrderFire (tag : BitVec 16)
  | fiSampleWindow (test : Bool) (deciVolts : List Nat)
  | barrierFramePeriod
  | testPulse (k : Fin 2)
  | offPulse (j : FqIx)
  | offPulseJudge (j : FqIx)
  | readbackSample (deciVolts : List Int)
  | overload (j : FqIx) (limiting : Bool)
  | thermalShutdown (j : FqIx) (tj : Int)
  | coolDownEnd (j : FqIx) (tj : Int)
  | demagEnd (j : FqIx) (pinMilliVolts : Int)
  | demagLong (j : FqIx)
  | safetyLinkDisagree (j : FqIx)
  | supplyMeasure (vf : BitVec 16) (vqa : BitVec 16) (vqb : BitVec 16)
  | vfWarn
  | vfLow
  | vfOff (grp : Fin 2)
  | supplyThresholdClear
  | restartOk (grp : Fin 2)
  | fieldDieReset (vf : BitVec 16)
  | fieldWatchdog
  | tHoldExpiry
  | fieldWatchdogClear
  -- Position and speed feedback
  | fbEdge (n : FbIx) (onB : Bool) (level : Bool) (stamp : PinTime)
  | phaseError (n : FbIx) (levelA : Bool) (levelB : Bool) (stamp : PinTime)
  | hallCodeChange (n : FbIx) (code : BitVec 3) (stamp : PinTime)
  | indexMark (n : FbIx) (rising : Bool) (stamp : PinTime)
  | ssiBurstStart (n : FbIx)
  | ssiReading (n : FbIx) (word : BitVec 56)
  -- Axis lifecycle, steppers
  | enableComplete (a : AxisIx)
  | enTimeout (a : AxisIx)
  | stopConfirm (a : AxisIx)
  | brakeTElapsed (a : AxisIx)
  | heldEnableExecute (u : EnableUnit)
  | holdMax (a : AxisIx)
  | stallDetect (a : AxisIx)
  | homeFail (a : AxisIx)
  | homingComplete (a : AxisIx)
  | directMiss (a : AxisIx)
  | stnFlt (n : StIx) (active : FltLevel)
  | stEnDelayElapsed (n : StIx)
  -- Landings
  | coefWriteLand (a : AxisIx)
  | segmentWriteLand
  | parameterWriteLand
  | movAddLand
  -- Line master
  | lineDisagree
  | lineLost
  | lineRevalid
  | switchBack
  | switchBackRequest (c : CmdCtx)
  | disagreeClear (c : CmdCtx)
  | puClear (c : CmdCtx) (o : Owner)
  | statusW1cWrite (c : CmdCtx) (item : ParItem)
  -- Node frames and the dynamic segment
  | iodReceive (f : RxFrame)
  | flushLost (seq : BitVec 32)
  | supStatusReceive (f : RxFrame)
  | admissionRequest (f : RxFrame)
  | diagnosticResponse (f : RxFrame)
  | nodeParameterAccess (f : RxFrame)
  | acknowledge (f : RxFrame)
  | dynTurn (seg : SegIx) (minislot : BitVec 8)
  | dynRepeat (seg : SegIx)
  | surResponse (f : RxFrame)
  | surRequestReturn (seg : SegIx) (portB : Bool)
  | surveyTimeout (seg : SegIx)
  -- The Opening
  | listenEnd
  | claimPeriod
  | clmReceive (f : RxFrame)
  | claimEnd
  | synchroniseEnd (seg : SegIx)
  -- Twin
  | foreignCsfReceive (f : RxFrame)
  | standbyCsfReceive (f : RxFrame)
  | takeoverUndetected
  | healthSend
  | health (env : TwinEnv) (m : HealthMsg)
  | log (env : TwinEnv) (r : LogRec)
  | logAck (env : TwinEnv) (pos : Nat)
  | release (env : TwinEnv) (m : ReleaseMsg)
  | digest (env : TwinEnv) (cycle : Nat) (ds : List (BitVec 32))
  | verdict (env : TwinEnv) (cycle : Nat) (mismatches : List Nat)
  | mismatchTestStart
  | test (env : TwinEnv) (engine : EngIx) (peerPass : Bool)
  | declare (env : TwinEnv) (reason : BitVec 8) (last : Nat) (h : Option Nat)
  | resync (env : TwinEnv) (addr : Nat) (words : List Word48)
  | joinBoundary (env : TwinEnv) (m : JoinMsg)
  | synchronised
  | twinLinkLost
  | twinLaneFail (lane : Fin 2)
  | trigger (env : TwinEnv) (t : T80) (mask : BitVec 8)
  | handoverStart
  | oldTrainForwardEnd
  | swapAbandon
  | revert
  -- Wall time
  | ptpSync (d : Fin 2) (domain : BitVec 8) (twoStep : Bool) (seq : BitVec 16) (origin : Int) (rx : Int)
  | ptpFollowUp (d : Fin 2) (domain : BitVec 8) (seq : BitVec 16) (origin : Int)
  | ptpAnnounce (d : Fin 2) (domain : BitVec 8) (rank : Nat) (source : BitVec 64)
  | ptpDelayResp (d : Fin 2) (domain : BitVec 8) (seq : BitVec 16) (t4 : Int)
  | ptpDelayReqSend (d : Fin 2) (tx : Int)
  | syncLoss (d : Fin 2)
  | ppsEdge (p : Fin 2) (stamp : Int)
  | ppsLoss (p : Fin 2)
  | sourceSwitch
  | sourceTakeover
  | slewEnd
  | timeFault
  | timeStep
  | restepAbandoned
  | ppsOutPulse
  -- Scoresheet
  | scsTick
  | captureDone
  | trgPinEdge (pin : Fin 4) (level : Bool) (stamp : PinTime)
  | trgOutputEnd (pin : Fin 4)
  -- Host interfaces
  | sqTail (value : BitVec 32) (entries : List (List Byte))
  | cqHead (value : BitVec 32)
  | eqHead (value : BitVec 32)
  | ringEn
  | eqEn
  | intStatus (value : BitVec 32)
  | registerWrite (offset : BitVec 16) (value : BitVec 32)
  | msiCoalesceEnd (vector : Fin 4)
  | pcieReset
  | udpDatagram (plant : PlantIx) (ip : UdpPath) (port : BitVec 16) (mf : Bool) (fragOffset : BitVec 13) (bytes : List Byte)
  | arpRequest (plant : PlantIx) (target : PlantTarget)
  | icmpEcho (plant : PlantIx) (target : PlantTarget) (data : List Byte)
  | commandPart (c : CmdCtx) (opcode : BitVec 16) (isPart : Bool) (final : Bool) (data : List Byte)
  | evtPush (c : CmdCtx)
  | challengeTimeout (slot : SlotIx)
  | sesIdle (slot : SlotIx)
  | lockoutEnd (src : HostSource)
  | flashWriteComplete (ok : Bool)
  -- Host commands (Table CMD-3)
  | devInfo (c : CmdCtx)
  | sysEvtMask (c : CmdCtx) (classes : BitVec 16) (minSev : BitVec 8)
  | sysReset (c : CmdCtx) (kind : BitVec 8)
  | sysEvtRead (c : CmdCtx) (start : BitVec 32) (count : BitVec 8)
  | sesHello (src : HostSource) (seq : BitVec 16) (role : BitVec 8) (nonce : List Byte)
  | sesProve (c : CmdCtx) (proof : List Byte)
  | sesClose (c : CmdCtx)
  | sesKeySet (c : CmdCtx) (role : BitVec 8) (wrapped : List Byte)
  | parGet (c : CmdCtx) (ids : List (BitVec 32))
  | parSet (c : CmdCtx) (item : ParItem)
  | parInfo (c : CmdCtx) (id : BitVec 32)
  | axEnable (c : CmdCtx) (axis : BitVec 16)
  | axDisable (c : CmdCtx) (axis : BitVec 16)
  | axFaultReset (c : CmdCtx) (axis : BitVec 16)
  | axMoveAbs (c : CmdCtx) (axis : BitVec 16) (target vm am dm : Word48) (jm : Word48)
  | axHalt (c : CmdCtx) (axis : BitVec 16) (dec : Word48)
  | axHome (c : CmdCtx) (axis : BitVec 16) (dir : BitVec 8)
  | axCoefWrite (c : CmdCtx) (axis : BitVec 16) (offset : BitVec 16) (value : Word48)
  | axPark (c : CmdCtx) (axis : BitVec 16) (on : BitVec 8)
  | axDirect (c : CmdCtx) (axis : BitVec 16) (op : BitVec 8) (refs : List DirectRef)
  | axCoefRead (c : CmdCtx) (axis : BitVec 16) (offset : BitVec 16) (count : BitVec 8)
  | proSegWrite (c : CmdCtx) (first : BitVec 16) (segs : List PvtSeg)
  | proStart (c : CmdCtx) (axis : BitVec 16) (first : BitVec 16) (mode : BitVec 8)
  | proGroupLinear (c : CmdCtx) (group : BitVec 8) (f a dp j : Word48) (targets : List (BitVec 16 × Word48))
  | proContinue (c : CmdCtx) (axis : BitVec 16)
  | proSegRead (c : CmdCtx) (first : BitVec 16) (count : BitVec 8)
  | movAdd (c : CmdCtx) (entries : List MoveEntry)
  | movDelete (c : CmdCtx) (seq : BitVec 32)
  | movClear (c : CmdCtx) (grp : BitVec 8)
  | movResume (c : CmdCtx)
  | movRead (c : CmdCtx) (seq : BitVec 32)
  | netOpening (c : CmdCtx)
  | netSchedLoad (c : CmdCtx) (seg : BitVec 8) (sched : Schedule)
  | netSchedActivate (c : CmdCtx) (seg : BitVec 8)
  | remeasureComplete (seg : SegIx)
  | scheduleActivate (seg : SegIx)
  | netNodeAdmit (c : CmdCtx) (seg : BitVec 8) (addr : BitVec 8) (serial : BitVec 48)
  | netNodeRemove (c : CmdCtx) (seg : BitVec 8) (addr : BitVec 8)
  | netRingRestore (c : CmdCtx) (seg : BitVec 8)
  | netMdio (c : CmdCtx) (bus op phy devad : BitVec 8) (reg data answer : BitVec 16)
  | netMeasure (c : CmdCtx) (seg port hop : BitVec 8)
  | safDemand (c : CmdCtx) (mask : BitVec 32) (kind : BitVec 8)
  | safAck (c : CmdCtx) (mask : BitVec 32)
  | safParamLoad (c : CmdCtx) (sect : List Byte)
  | twnInfo (c : CmdCtx)
  | twnSwap (c : CmdCtx)
  | scsArm (c : CmdCtx)
  | scsForce (c : CmdCtx)
  | scsStop (c : CmdCtx)
  | scsRead (c : CmdCtx) (first : BitVec 32) (count : BitVec 16)
  | timGet (c : CmdCtx)
  | timSrcRead (c : CmdCtx) (src : BitVec 8)
  | timRestep (c : CmdCtx)
  | arbQueueRead (c : CmdCtx) (group : BitVec 8) (start : BitVec 16)
  | arbBudgetSet (c : CmdCtx) (which : BitVec 8) (values : List (BitVec 32))
  | fldOutSet (c : CmdCtx) (mask levels : BitVec 8)
  | fldLatchClear (c : CmdCtx) (mask : BitVec 8)
  | fldRestart (c : CmdCtx)
  | imgWrite (c : CmdCtx) (offset : BitVec 32) (data : List Byte)
  | imgActivate (c : CmdCtx)
  | imgInfo (c : CmdCtx) (bank : BitVec 8)
  | svcEngineRotate (c : CmdCtx) (engine : BitVec 8)
  | svcSegTest (c : CmdCtx) (seg mode : BitVec 8) (duration : BitVec 16)
  -- Service and faults of engines
  | segTestEnd (seg : SegIx) (errors : BitVec 32)
  | rotationDue
  | rotationDone (e : EngIx) (pass : Bool)
  | scrubPeriod (corrected : Nat) (doubles : List ScrubSite)
  | engineFailed (e : EngIx) (selfTest : Bool)
  | engineWatchdog (e : EngIx)
  -- Resets and boot
  | porstN (twinPresent twinRole : Bool) (bootsel : ResetPins)
  | resetN (bootsel : ResetPins)
  | vddHMonitor
  | islandPorRelease
  | controlDieSilent
  | bootComplete (flashOk : Bool) (a b : BankImage)
  -- Engine instructions (Table ENG-12)
  | ceLd (e : EngIx) (d : Fin 32) (a : Fin 8) (pm : Bool) (o : Fin 8) (ecc : Ecc)
  | ceLdq (e : EngIx) (d : Fin 32) (a : Fin 8) (pm : Bool) (o : Fin 8) (ecc : Ecc)
  | ceSt (e : EngIx) (d : Fin 32) (a : Fin 8) (pm : Bool) (o : Fin 8)
  | ceStq (e : EngIx) (d : Fin 32) (a : Fin 8) (pm : Bool) (o : Fin 8)
  | ceLdi (e : EngIx) (d : Fin 32) (imm : Word48)
  | ceLds (e : EngIx) (spr : BitVec 8) (imm : BitVec 32)
  | ceMov (e : EngIx) (d s : Fin 32)
  | ceMva (e : EngIx) (fromSpecial : Bool) (x : Fin 32) (spr : BitVec 8)
  | ceAmod (e : EngIx) (a : Fin 8) (o : Fin 8)
  | ceAdd (e : EngIx) (d s t : Fin 32)
  | ceSub (e : EngIx) (d s t : Fin 32)
  | ceAdds (e : EngIx) (d s t : Fin 32)
  | ceSubs (e : EngIx) (d s t : Fin 32)
  | ceAnd (e : EngIx) (d s t : Fin 32)
  | ceOr (e : EngIx) (d s t : Fin 32)
  | ceXor (e : EngIx) (d s t : Fin 32)
  | ceShl (e : EngIx) (d s : Fin 32) (sh : Fin 64)
  | ceAsr (e : EngIx) (d s : Fin 32) (sh : Fin 64)
  | ceCmp (e : EngIx) (s t : Fin 32)
  | ceMin (e : EngIx) (d s t : Fin 32)
  | ceMax (e : EngIx) (d s t : Fin 32)
  | ceAbs (e : EngIx) (d s : Fin 32)
  | ceNeg (e : EngIx) (d s : Fin 32)
  | ceAddi (e : EngIx) (d s : Fin 32) (imm : BitVec 32)
  | ceWrapm (e : EngIx) (d s t : Fin 32)
  | ceMac (e : EngIx) (acc : Fin 4) (clr neg : Bool) (m n : Fin 32)
  | ceMac4 (e : EngIx) (clr neg bcast : Bool) (m n : Fin 32)
  | ceAcclr (e : EngIx) (mask : BitVec 4)
  | ceAccld (e : EngIx) (acc : Fin 4) (n : Fin 32) (shift : Fin 64)
  | ceMvs (e : EngIx) (d : Fin 32) (acc : Fin 4) (auto : Bool) (s : Fin 64)
  | ceMvs4 (e : EngIx) (d : Fin 32) (auto : Bool) (s : Fin 64)
  | ceBr (e : EngIx) (cond : BitVec 4) (target : BitVec 16)
  | ceLoop (e : EngIx) (lc : Fin 2) (reg : Bool) (xs : Fin 32) (count : BitVec 16) (last : BitVec 16)
  | ceCall (e : EngIx) (target : BitVec 16)
  | ceRet (e : EngIx)
  | ceEnd (e : EngIx)
  | ceTflt (e : EngIx) (code : BitVec 16)
  | ceNop (e : EngIx)
  | ceFence (e : EngIx)
  -- Releases and ends
  | portLinkUp (p : PortUp)
  | resetFenceRelease (site : FenceSite)
  | fieldDieResetRelease (vf : BitVec 16)
  | stepGeneratorTick (n : StIx)
  | ppsOutEnd
  | hsafeOkToggle
  | offPulseEnd (j : FqIx)
  | testPulseEnd (k : Fin 2)
  | safTapReceive (f : RxFrame)
  | surRequestReceive (f : RxFrame)
  deriving DecidableEq, Repr

end Sys2Proof
end

