-- ==== Sys2Proof/Config.lean ====
section
/-! DEFINITION. What one part fixes, and the free values that the spec leaves open.  Every constant here has no body, so
nothing can be proved of its value (log 4, 10). -/

namespace Sys2Proof

/-- The silicon serial (R117, R431). -/
opaque Config.serial : BitVec 48
/-- The device-unique key in the fuses (R436). -/
opaque Config.deviceKey : List Byte
/-- The four fused key hashes (R465). -/
opaque Config.keyHashes : List (List Byte)
/-- Random bytes: session IDs and nonces (R430, R431), by the free counter. -/
opaque Config.randomByte : Nat → Byte
/-- A 48-bit value that the spec leaves open, by the free counter. -/
opaque Config.freeWord : Nat → Word48
/-- A number that the spec leaves open, by the free counter. -/
opaque Config.freeNat : Nat → Nat
/-- What a self-test leaves in an engine's local scratch (R177, R484), by the free counter and the word's address. -/
opaque Config.scratchWord : Nat → Nat → Word48
/-- A word of the context block whose layout the spec does not give (Table LAW-1), as a library task leaves it, by the free counter and
the word's offset. -/
opaque Config.deviceWord : Nat → Nat → Word48
/-- A choice that the spec leaves open, by the free counter. -/
opaque Config.freeBool : Nat → Bool
/-- The leakage power at a temperature in 0.1 °C, in 10 mW (R270). -/
opaque Config.leakage : Int → Nat
/-- The coefficients of P_est (R270), of activity count i, in 2^-20 of 10 mW. -/
opaque Config.powerCoef : Nat → Nat
/-- The rate that the proportional-integral loop of R406 asks for, from θ in 0.1 ns, the source's rate and TIM_BW. -/
opaque Config.loopRate : Int → Int → Nat → Int
/-- The deviation of the island's oscillator from nominal, in 10^-7 (Table SAF-1: limited to ±0.1 %). -/
opaque Config.islandDrift : Int
/-- The engine cycles a library task takes, by the free counter (R173 bounds it by its cost). -/
opaque Config.taskCycles : Nat → Nat
/-- The digest of a task or of the supervisor (R359) where the written words are not the model's. -/
opaque Config.digest : Nat → BitVec 32
/-- A pin of the package the board wires to the die: whether MSI is enabled and how many vectors (R422). -/
opaque Config.msiVectors : Nat

end Sys2Proof
end

