-- ==== Sys2Proof/Machine/Bits.lean ====
section
/-! DEFINITION. Integer arithmetic of the device's formats, byte order and bit fields (spec/00_scope.md R4). -/

namespace Sys2Proof.Machine

/-- The 48-bit word of an integer, wrapping. -/
def w48 (v : Int) : Word48 := BitVec.ofInt 48 v

/-- v limited to the signed 48-bit range. -/
def sat48 (v : Int) : Int := if v < -140737488355328 then -140737488355328 else if v > 140737488355327 then 140737488355327 else v

/-- Whether a value lies in the signed 48-bit range (R160). -/
def fits48 (v : Int) : Bool := decide (-140737488355328 ≤ v) && decide (v ≤ 140737488355327)

/-- v limited to lo to hi. -/
def clampI (lo hi v : Int) : Int := if v < lo then lo else if v > hi then hi else v

/-- Round half up: v / 2^s to the nearest integer, an exact half towards +∞ (R160). -/
def rhu (v : Int) (s : Nat) : Int := if s = 0 then v else (v + 2 ^ (s - 1)) / (2 ^ s : Int)

/-- v / d to the nearest integer, an exact half towards +∞; 0 for d = 0. -/
def rdiv (v d : Int) : Int := if d = 0 then 0 else (2 * v + d) / (2 * d)

/-- ceil(a / b) on naturals. -/
def cdiv (a b : Nat) : Nat := (a + b - 1) / b

/-- A 32-bit counter that saturates (R62, R180, R440 and others). -/
def inc32 (n : Nat) : Nat := if n ≥ 4294967295 then 4294967295 else n + 1

def add32 (n k : Nat) : Nat := if n + k ≥ 4294967295 then 4294967295 else n + k

/-- v reduced modulo 2^n into the signed range. -/
def smod (n : Nat) (v : Int) : Int := (v + 2 ^ (n - 1)) % (2 ^ n : Int) - 2 ^ (n - 1)

/-- `n` bytes of v, big-endian. -/
def be : Nat → Nat → List Byte
  | 0, _ => []
  | n + 1, v => BitVec.ofNat 8 (v / 256 ^ n) :: be n v

/-- `n` bytes of a signed value, big-endian. -/
def beI (n : Nat) (v : Int) : List Byte := be n (v % (256 ^ n : Int)).toNat

/-- The number that big-endian bytes spell. -/
def unbe (bs : List Byte) : Nat := bs.foldl (fun a b => a * 256 + b.toNat) 0

/-- Bytes `off` to `off + n - 1` as a number. -/
def field (bs : List Byte) (off n : Nat) : Nat := unbe ((bs.drop off).take n)

def byteAt (bs : List Byte) (i : Nat) : Byte := bs.getD i 0

/-- Little-endian bytes of v. -/
def le : Nat → Nat → List Byte
  | 0, _ => []
  | n + 1, v => BitVec.ofNat 8 v :: le n (v / 256)

def unle (bs : List Byte) : Nat := bs.foldr (fun b a => a * 256 + b.toNat) 0

/-- Bit i of a number. -/
def nbit (v i : Nat) : Bool := (v / 2 ^ i) % 2 = 1

/-- A number with bit i set to b. -/
def nsetBit (v i : Nat) (b : Bool) : Nat :=
  if nbit v i then (if b then v else v - 2 ^ i) else (if b then v + 2 ^ i else v)

/-- Bits of v from lo on, n of them. -/
def nbits (v lo n : Nat) : Nat := (v / 2 ^ lo) % 2 ^ n

def b2n (b : Bool) : Nat := if b then 1 else 0

/-- A number whose bit i is the i-th Bool. -/
def ofBools : List Bool → Nat
  | [] => 0
  | b :: bs => b2n b + 2 * ofBools bs

/-- The signed value of an n-bit number. -/
def sext (n v : Nat) : Int := smod n (v : Int)

/-- Where a list of bits (index, flag) forms a word. -/
def flagWord (l : List (Nat × Bool)) : Nat := l.foldl (fun a p => a + b2n p.2 * 2 ^ p.1) 0

end Sys2Proof.Machine
end

