-- ==== Sys2Proof/Machine/Crypto.lean ====
section
/-! DEFINITION. The cryptographic functions that the spec names by their standards: SHA-256 and HMAC-SHA-256 (R416, R431),
HKDF-SHA-256 of RFC 5869 (R431), the AES-256 key wrap of RFC 3394 (R436, R437), and the check of an ECDSA P-256 signature
(R465).  PRESUMED from those standards (log 9). -/

namespace Sys2Proof.Machine

abbrev W32 := BitVec 32

/-- The round constants of SHA-256. -/
def shaK : List W32 :=
  [0x428A2F98, 0x71374491, 0xB5C0FBCF, 0xE9B5DBA5, 0x3956C25B, 0x59F111F1, 0x923F82A4, 0xAB1C5ED5,
   0xD807AA98, 0x12835B01, 0x243185BE, 0x550C7DC3, 0x72BE5D74, 0x80DEB1FE, 0x9BDC06A7, 0xC19BF174,
   0xE49B69C1, 0xEFBE4786, 0x0FC19DC6, 0x240CA1CC, 0x2DE92C6F, 0x4A7484AA, 0x5CB0A9DC, 0x76F988DA,
   0x983E5152, 0xA831C66D, 0xB00327C8, 0xBF597FC7, 0xC6E00BF3, 0xD5A79147, 0x06CA6351, 0x14292967] ++
  [0x27B70A85, 0x2E1B2138, 0x4D2C6DFC, 0x53380D13, 0x650A7354, 0x766A0ABB, 0x81C2C92E, 0x92722C85,
   0xA2BFE8A1, 0xA81A664B, 0xC24B8B70, 0xC76C51A3, 0xD192E819, 0xD6990624, 0xF40E3585, 0x106AA070,
   0x19A4C116, 0x1E376C08, 0x2748774C, 0x34B0BCB5, 0x391C0CB3, 0x4ED8AA4A, 0x5B9CCA4F, 0x682E6FF3,
   0x748F82EE, 0x78A5636F, 0x84C87814, 0x8CC70208, 0x90BEFFFA, 0xA4506CEB, 0xBEF9A3F7, 0xC67178F2]

def shaInit : List W32 := [0x6A09E667, 0xBB67AE85, 0x3C6EF372, 0xA54FF53A, 0x510E527F, 0x9B05688C, 0x1F83D9AB, 0x5BE0CD19]

def shaWord (bs : List Byte) (i : Nat) : W32 := BitVec.ofNat 32 (field bs (4 * i) 4)

/-- The message schedule: the last 16 words, newest first, extended n times. -/
def shaExtend : Nat → List W32 → List W32
  | 0, ws => ws
  | n + 1, ws =>
    let a := ws.getD 1 0
    let b := ws.getD 14 0
    let s1 := a.rotateRight 17 ^^^ a.rotateRight 19 ^^^ a >>> 10
    let s0 := b.rotateRight 7 ^^^ b.rotateRight 18 ^^^ b >>> 3
    shaExtend n ((s1 + ws.getD 6 0 + s0 + ws.getD 15 0) :: ws)

def shaRound (v : List W32) (kw : W32 × W32) : List W32 :=
  match v with
  | [a, b, c, d, e, f, g, h] =>
    let s1 := e.rotateRight 6 ^^^ e.rotateRight 11 ^^^ e.rotateRight 25
    let ch := (e &&& f) ^^^ (~~~e &&& g)
    let t1 := h + s1 + ch + kw.1 + kw.2
    let s0 := a.rotateRight 2 ^^^ a.rotateRight 13 ^^^ a.rotateRight 22
    let mj := (a &&& b) ^^^ (a &&& c) ^^^ (b &&& c)
    [t1 + s0 + mj, a, b, c, d + t1, e, f, g]
  | _ => v

def shaBlock (h : List W32) (blk : List Byte) : List W32 :=
  let ws := (shaExtend 48 ((List.range 16).map (shaWord blk)).reverse).reverse
  List.zipWith (· + ·) h ((shaK.zip ws).foldl shaRound h)

def shaBlocks : Nat → List W32 → List Byte → List W32
  | 0, h, _ => h
  | n + 1, h, bs => shaBlocks n (shaBlock h (bs.take 64)) (bs.drop 64)

/-- SHA-256. -/
def sha256 (m : List Byte) : List Byte :=
  let z := (119 - m.length % 64) % 64
  let p := m ++ [0x80] ++ List.replicate z 0 ++ be 8 (8 * m.length)
  (shaBlocks (p.length / 64) shaInit p).flatMap (fun w => be 4 w.toNat)

/-- HMAC-SHA-256. -/
def hmac (key m : List Byte) : List Byte :=
  let k0 := if key.length > 64 then sha256 key else key
  let k := k0 ++ List.replicate (64 - k0.length) 0
  sha256 (k.map (· ^^^ 0x5C) ++ sha256 (k.map (· ^^^ 0x36) ++ m))

/-- HKDF-SHA-256 with an output of 32 bytes. -/
def hkdf32 (ikm salt info : List Byte) : List Byte := (hmac (hmac salt ikm) (info ++ [1])).take 32

/-! AES-256 (FIPS 197).  A block is one number of 128 bits, its first byte the most significant; the S-box and its inverse
stand as the rows of their tables, and a column is multiplied byte by byte in place. -/

/-- The S-box: row x holds the values of 16·x … 16·x + 15, first byte first. -/
def sboxRows : List Nat :=
  [0x637C777BF26B6FC53001672BFED7AB76, 0xCA82C97DFA5947F0ADD4A2AF9CA472C0, 0xB7FD9326363FF7CC34A5E5F171D83115,
   0x04C723C31896059A071280E2EB27B275, 0x09832C1A1B6E5AA0523BD6B329E32F84, 0x53D100ED20FCB15B6ACBBE394A4C58CF,
   0xD0EFAAFB434D338545F9027F503C9FA8, 0x51A3408F929D38F5BCB6DA2110FFF3D2, 0xCD0C13EC5F974417C4A77E3D645D1973,
   0x60814FDC222A908846EEB814DE5E0BDB, 0xE0323A0A4906245CC2D3AC629195E479, 0xE7C8376D8DD54EA96C56F4EA657AAE08,
   0xBA78252E1CA6B4C6E8DD741F4BBD8B8A, 0x703EB5664803F60E613557B986C11D9E, 0xE1F8981169D98E949B1E87E9CE5528DF,
   0x8CA1890DBFE6426841992D0FB054BB16]

/-- The inverse S-box, in the same form. -/
def sboxInvRows : List Nat :=
  [0x52096AD53036A538BF40A39E81F3D7FB, 0x7CE339829B2FFF87348E4344C4DEE9CB, 0x547B9432A6C2233DEE4C950B42FAC34E,
   0x082EA16628D924B2765BA2496D8BD125, 0x72F8F66486689816D4A45CCC5D65B692, 0x6C704850FDEDB9DA5E154657A78D9D84,
   0x90D8AB008CBCD30AF7E45805B8B34506, 0xD02C1E8FCA3F0F02C1AFBD0301138A6B, 0x3A9111414F67DCEA97F2CFCEF0B4E673,
   0x96AC7422E7AD3585E2F937E81C75DF6E, 0x47F11A711D29C5896FB7620EAA18BE1B, 0xFC563E4BC6D279209ADBC0FE78CD5AF4,
   0x1FDDA8338807C731B11210592780EC5F, 0x60517FA919B54A0D2DE57A9F93C99CEF, 0xA0E03B4DAE2AF5B0C8EBBB3C83539961,
   0x172B047EBA77D626E169146355210C7D]

/-- Byte i of a block. -/
def blkByte (s i : Nat) : Nat := (s >>> (8 * (15 - i))) % 256

def boxAt (rows : List Nat) (x : Nat) : Nat := blkByte (rows.getD (x / 16) 0) (x % 16)

/-- SubBytes and ShiftRows together: byte i of the answer is the box's value of byte from i. -/
def subShift (rows : List Nat) (source : Nat → Nat) (s : Nat) : Nat :=
  (List.range 16).foldl (fun a i => a * 256 + boxAt rows (blkByte s (source i))) 0

def shiftFrom (i : Nat) : Nat := (i + 4 * (i % 4)) % 16
def shiftBackFrom (i : Nat) : Nat := (i + 16 - 4 * (i % 4)) % 16

/-- Every byte of a block times 2 in GF(2^8), with the polynomial 0x11B. -/
def gfDouble (s : Nat) : Nat :=
  ((s &&& 0x7F7F7F7F7F7F7F7F7F7F7F7F7F7F7F7F) <<< 1) ^^^ (((s >>> 7) &&& 0x01010101010101010101010101010101) * 0x1B)

/-- Every column turned up by one byte: its byte r takes byte r + 1. -/
def colTurn (s : Nat) : Nat :=
  ((s &&& 0x00FFFFFF00FFFFFF00FFFFFF00FFFFFF) <<< 8) ||| ((s >>> 24) &&& 0x000000FF000000FF000000FF000000FF)

/-- Columns times (k0, k1, k2, k3), from the multiples of the block by each. -/
def mixWith (s0 s1 s2 s3 : Nat) : Nat := s0 ^^^ colTurn (s1 ^^^ colTurn (s2 ^^^ colTurn s3))

/-- MixColumns: 2, 3, 1, 1. -/
def mixCols (s : Nat) : Nat := mixWith (gfDouble s) (gfDouble s ^^^ s) s s

/-- The inverse of MixColumns: 14, 11, 13, 9. -/
def mixColsInv (s : Nat) : Nat :=
  let two := gfDouble s
  let four := gfDouble two
  let eight := gfDouble four
  mixWith (eight ^^^ four ^^^ two) (eight ^^^ two ^^^ s) (eight ^^^ four ^^^ s) (eight ^^^ s)

/-- SubWord: the S-box on each byte of a word of 32 bits. -/
def subWord (w : Nat) : Nat :=
  (List.range 4).foldl (fun a i => a * 256 + boxAt sboxRows ((w >>> (8 * (3 - i))) % 256)) 0

/-- The key schedule: words newest first, n more words, the next of them word i. -/
def aesExpand : Nat → Nat → Nat → List Nat → List Nat
  | 0, _, _, ws => ws
  | n + 1, i, rc, ws =>
    let t := ws.getD 0 0
    let t' := if i % 8 = 0 then subWord ((t <<< 8) % 2 ^ 32 + t >>> 24) ^^^ (rc <<< 24)
      else if i % 8 = 4 then subWord t else t
    aesExpand n (i + 1) (if i % 8 = 0 then gfDouble rc else rc) ((ws.getD 7 0 ^^^ t') :: ws)

/-- Four words of the schedule as one round key. -/
def joinWords (ws : List Nat) : Nat := ws.foldl (fun a w => a * 2 ^ 32 + w) 0

/-- The 15 round keys of a 32-byte key. -/
def aesKeys (key : List Byte) : List Nat :=
  let ws := (aesExpand 52 8 1 ((List.range 8).map (fun i => field key (4 * i) 4)).reverse).reverse
  (List.range 15).map (fun r => joinWords ((ws.drop (4 * r)).take 4))

def aesRounds : List Nat → Nat → Nat
  | [], s => s
  | [k], s => subShift sboxRows shiftFrom s ^^^ k
  | k :: ks, s => aesRounds ks (mixCols (subShift sboxRows shiftFrom s) ^^^ k)

/-- AES-256 of one block under its round keys. -/
def aesEnc (keys : List Nat) (blk : Nat) : Nat := aesRounds (keys.drop 1) (blk ^^^ keys.getD 0 0)

def aesRoundsInv : List Nat → Nat → Nat
  | [], s => s
  | [k], s => subShift sboxInvRows shiftBackFrom s ^^^ k
  | k :: ks, s => aesRoundsInv ks (mixColsInv (subShift sboxInvRows shiftBackFrom s ^^^ k))

/-- The inverse of aesEnc, with the round keys last first. -/
def aesDec (keys : List Nat) (blk : Nat) : Nat := aesRoundsInv (keys.drop 1) (blk ^^^ keys.getD 0 0)

/-- One step of the key wrap: A and the registers, at place i of step t. -/
def wrapStep (keys : List Nat) (st : Nat × List Nat) (ti : Nat × Nat) : Nat × List Nat :=
  let b := aesEnc keys (st.1 * 2 ^ 64 + st.2.getD ti.2 0)
  (b / 2 ^ 64 ^^^ ti.1, st.2.set ti.2 (b % 2 ^ 64))

def unwrapStep (keys : List Nat) (st : Nat × List Nat) (ti : Nat × Nat) : Nat × List Nat :=
  let b := aesDec keys ((st.1 ^^^ ti.1) * 2 ^ 64 + st.2.getD ti.2 0)
  (b / 2 ^ 64, st.2.set ti.2 (b % 2 ^ 64))

def wrapOrder (n : Nat) : List (Nat × Nat) := (List.range (6 * n)).map (fun t => (t + 1, t % n))

/-- The registers of 8 bytes that a byte string holds. -/
def wrapRegs (bs : List Byte) : List Nat := (List.range (bs.length / 8)).map (fun i => field bs (8 * i) 8)

def regBytes (rs : List Nat) : List Byte := rs.flatMap (be 8)

/-- The check value of RFC 3394. -/
def wrapCheck : Nat := 0xA6A6A6A6A6A6A6A6

/-- AES-256 key wrap. -/
def keyWrap (key data : List Byte) : List Byte :=
  let r := (wrapOrder (data.length / 8)).foldl (wrapStep (aesKeys key)) (wrapCheck, wrapRegs data)
  be 8 r.1 ++ regBytes r.2

/-- AES-256 key unwrap, with its integrity check. -/
def keyUnwrap (key data : List Byte) : Option (List Byte) :=
  let n := data.length / 8 - 1
  let r := (wrapOrder n).reverse.foldl (unwrapStep (aesKeys key).reverse) (field data 0 8, wrapRegs (data.drop 8))
  if r.1 = wrapCheck then some (regBytes r.2) else none

/-! ECDSA with P-256. -/

def pP : Nat := 0xFFFFFFFF00000001000000000000000000000000FFFFFFFFFFFFFFFFFFFFFFFF
def pN : Nat := 0xFFFFFFFF00000000FFFFFFFFFFFFFFFFBCE6FAADA7179E84F3B9CAC2FC632551
def pB : Nat := 0x5AC635D8AA3A93E7B3EBBD55769886BC651D06B0CC53B0F63BCE3C3E27D2604B
def pG : Nat × Nat :=
  (0x6B17D1F2E12C4247F8BCE6E563A440F277037D812DEB33A0F4A13945D898C296,
   0x4FE342E2FE1A7F9B8EE7EB4A7C0F9E162BCE33576B315ECECBB6406837BF51F5)

def modPow (m : Nat) : Nat → Nat → Nat → Nat
  | 0, _, _ => 1
  | n + 1, x, e => let r := modPow m n (x * x % m) (e / 2); if e % 2 = 1 then x * r % m else r

def modInv (m x : Nat) : Nat := modPow m 256 x (m - 2)

/-- Addition of affine points; none is the point at infinity. -/
def ecAdd : Option (Nat × Nat) → Option (Nat × Nat) → Option (Nat × Nat)
  | none, q => q
  | p, none => p
  | some (x1, y1), some (x2, y2) =>
    if x1 = x2 ∧ (y1 + y2) % pP = 0 then none
    else
      let l := if x1 = x2 then (3 * x1 * x1 + (pP - 3)) * modInv pP (2 * y1 % pP) % pP
        else (y2 + (pP - y1)) * modInv pP ((x2 + (pP - x1)) % pP) % pP
      let x3 := (l * l + 2 * pP - x1 - x2) % pP
      some (x3, (l * (x1 + (pP - x3)) + (pP - y1)) % pP)

def ecMul : Nat → Nat → Option (Nat × Nat) → Option (Nat × Nat)
  | 0, _, _ => none
  | n + 1, k, p =>
    let r := ecMul n (k / 2) (ecAdd p p)
    if k % 2 = 1 then ecAdd p r else r

/-- Whether the 64-byte signature verifies over the message under the 64-byte key. -/
def ecdsaOk (key sig msg : List Byte) : Bool :=
  let q := (field key 0 32, field key 32 32)
  let r := field sig 0 32
  let s := field sig 32 32
  let onCurve := decide (q.1 < pP ∧ q.2 < pP ∧ q.2 * q.2 % pP = (q.1 * q.1 * q.1 + (pP - 3) * q.1 + pB) % pP)
  if onCurve && decide (0 < r ∧ r < pN ∧ 0 < s ∧ s < pN) then
    let z := unbe (sha256 msg)
    let w := modInv pN s
    match ecAdd (ecMul 256 (z * w % pN) (some pG)) (ecMul 256 (r * w % pN) (some q)) with
    | none => false
    | some (x, _) => decide (x % pN = r)
  else false

end Sys2Proof.Machine
end

