-- ==== Sys2Proof/Machine/Params.lean ====
section
/-! DEFINITION. The parameter tables of the spec: Tables FRM-1, SLT-2, FBK-7, ENG-19, LAW-9, PRO-5, PRO-6, RUN-6, ARB-4,
SAF-7, FLD-6, TWN-5, SCS-6, TIM-6, HST-6 and SVC-3.  A value is the number that its format spells: a fixed-point value is
its raw two's-complement word. -/

namespace Sys2Proof.Machine

/-- A row of a parameter table: the ID of its first instance, how many instances follow at steps of 0x1000, the format
code of Table CMD-2, the range, the default, whether it is expert, and whether it is Live "yes". -/
structure ParamRow where
  base : Nat
  count : Nat
  format : Nat
  lo : Int
  hi : Int
  dflt : Int
  expert : Bool
  live : Bool
  deriving DecidableEq, Repr

/-- DISP_GRACE to LRN_EN. -/
def paramRows0 : List ParamRow := [
  ⟨0x01050001, 1, 2, 2, 80, 10, true, true⟩,
  ⟨0x01050002, 1, 2, 100, 65535, 4000, true, false⟩,
  ⟨0x02000001, 1, 2, 5, 3600, 60, false, true⟩,
  ⟨0x02100001, 2, 3, 0, 4294967295, 0, false, false⟩,
  ⟨0x02100002, 2, 3, 0, 4294967295, 4294967040, false, false⟩,
  ⟨0x02100003, 2, 3, 0, 4294967295, 0, false, false⟩,
  ⟨0x02100004, 2, 2, 0, 4094, 0, false, false⟩,
  ⟨0x02100005, 2, 2, 1024, 65535, 47110, false, false⟩,
  ⟨0x02100006, 2, 1, 0, 1, 1, false, true⟩,
  ⟨0x02100007, 2, 3, 0, 4294967295, 0, true, false⟩,
  ⟨0x04000101, 256, 1, 0, 255, 255, false, false⟩,
  ⟨0x04000102, 256, 2, 10, 8000, 2000, false, true⟩,
  ⟨0x04000103, 256, 2, 1, 1000, 20, false, true⟩,
  ⟨0x04000120, 256, 2, 0, 8191, 0, true, false⟩,
  ⟨0x04000121, 256, 2, 0, 65535, 0, true, false⟩,
  ⟨0x04000130, 256, 1, 0, 2, 1, false, false⟩,
  ⟨0x04000131, 256, 1, 1, 8, 2, false, false⟩,
  ⟨0x04000132, 256, 1, 0, 7, 0, false, false⟩,
  ⟨0x04000133, 256, 1, 1, 17, 1, false, false⟩,
  ⟨0x04000134, 256, 1, 0, 1, 0, false, false⟩,
  ⟨0x04000135, 256, 1, 0, 8, 2, false, true⟩,
  ⟨0x04000136, 256, 1, 0, 1, 1, true, true⟩,
  ⟨0x04000137, 256, 10, 256, 140737488355072, 25600000, false, true⟩,
  ⟨0x04000138, 256, 10, 256, 140737488355072, 102400000, false, true⟩,
  ⟨0x04000139, 256, 9, 0, 140737488289792, 6553600, false, true⟩,
  ⟨0x0400013A, 256, 2, 1, 65535, 32, false, true⟩,
  ⟨0x0400013B, 256, 2, 0, 1000, 50, false, true⟩,
  ⟨0x0400013C, 256, 2, 10, 5000, 500, false, true⟩,
  ⟨0x0400013D, 256, 3, 0, 2147483647, 4096, false, true⟩,
  ⟨0x0400013E, 256, 1, 0, 1, 1, true, true⟩,
  ⟨0x0400013F, 256, 2, 1, 1024, 32, true, true⟩,
  ⟨0x04000140, 256, 1, 1, 4, 1, false, false⟩,
  ⟨0x04000141, 256, 1, 0, 15, 0, false, false⟩,
  ⟨0x04000142, 256, 11, (-140737488355328), 140737488355327, 1048576, false, true⟩,
  ⟨0x04000150, 256, 1, 0, 1, 0, false, false⟩]

/-- LRN_BINS to FB_FILTER. -/
def paramRows1 : List ParamRow := [
  ⟨0x04000151, 256, 2, 256, 8192, 1024, false, false⟩,
  ⟨0x04000152, 256, 8, 0, 140737488355327, 0, false, false⟩,
  ⟨0x04000153, 256, 12, 70368744177664, 140737488355327, 140703128616960, false, true⟩,
  ⟨0x04000154, 256, 11, 0, 1073741824, 1024, false, true⟩,
  ⟨0x04000155, 256, 2, 0, 8191, 4, false, true⟩,
  ⟨0x04000156, 256, 9, 0, 140737488289792, 107347968, false, true⟩,
  ⟨0x04000157, 256, 11, 0, 1099511627776, 274877906944, false, true⟩,
  ⟨0x04000160, 256, 1, 0, 1, 0, false, false⟩,
  ⟨0x04000161, 256, 9, 65536, 140737488289792, 65536000000, false, true⟩,
  ⟨0x04000162, 256, 10, 256, 140737488355072, 2560000000, false, true⟩,
  ⟨0x04000163, 256, 1, 0, 255, 255, false, false⟩,
  ⟨0x04000164, 256, 3, 1, 16777216, 1, false, false⟩,
  ⟨0x04000165, 256, 1, 0, 255, 255, false, false⟩,
  ⟨0x04000166, 256, 2, 1, 256, 16, false, false⟩,
  ⟨0x04000167, 256, 11, 1048576, 70368744177664, 1099511627776, false, false⟩,
  ⟨0x04000168, 256, 3, 0, 1000000, 400, false, true⟩,
  ⟨0x04000169, 256, 3, 0, 1000000, 500, false, true⟩,
  ⟨0x0400016A, 256, 2, 1, 1000, 50, false, true⟩,
  ⟨0x0400016B, 256, 2, 2048, 65535, 26214, false, true⟩,
  ⟨0x0400016C, 256, 2, 4, 256, 24, false, true⟩,
  ⟨0x0400016D, 256, 1, 1, 64, 4, false, true⟩,
  ⟨0x0400016E, 256, 3, 0, 2147483647, 160, false, true⟩,
  ⟨0x0400016F, 256, 3, 1, 2147483647, 1000000, false, true⟩,
  ⟨0x04000170, 256, 2, 2, 256, 12, false, true⟩,
  ⟨0x04000171, 256, 1, 0, 3, 1, false, true⟩,
  ⟨0x040001B0, 256, 1, 1, 16, 1, false, false⟩,
  ⟨0x040001C0, 256, 1, 0, 15, 8, false, true⟩,
  ⟨0x040001C1, 256, 3, 0, 4294967295, 0, false, true⟩,
  ⟨0x040001C2, 256, 3, 0, 4294967295, 0, false, true⟩,
  ⟨0x040001C3, 256, 1, 0, 255, 255, false, false⟩,
  ⟨0x040001C4, 256, 2, 0, 5000, 0, false, true⟩,
  ⟨0x040001C5, 256, 1, 0, 1, 0, true, true⟩,
  ⟨0x040001E0, 256, 1, 1, 64, 4, true, true⟩,
  ⟨0x04100001, 16, 1, 0, 4, 0, false, false⟩,
  ⟨0x04100002, 16, 1, 2, 64, 4, false, false⟩]

/-- FB_INVERT to LINK_POLL. -/
def paramRows2 : List ParamRow := [
  ⟨0x04100003, 16, 1, 0, 1, 0, false, false⟩,
  ⟨0x04100004, 16, 1, 0, 1, 0, false, false⟩,
  ⟨0x04100005, 16, 3, 0, 16777216, 0, false, false⟩,
  ⟨0x04100006, 16, 1, 0, 255, 2, false, true⟩,
  ⟨0x04100007, 16, 1, 0, 1, 0, true, false⟩,
  ⟨0x04100010, 16, 1, 8, 48, 25, false, false⟩,
  ⟨0x04100011, 16, 1, 0, 8, 0, false, false⟩,
  ⟨0x04100012, 16, 1, 0, 2, 0, false, false⟩,
  ⟨0x04100013, 16, 2, 10, 1000, 100, false, false⟩,
  ⟨0x04100014, 16, 2, 0, 2000, 0, true, false⟩,
  ⟨0x04100015, 16, 3, 0, 2147483647, 0, false, true⟩,
  ⟨0x04110101, 1, 1, 0, 255, 255, false, false⟩,
  ⟨0x04110102, 1, 2, 10, 8000, 200, false, true⟩,
  ⟨0x04110103, 1, 2, 1, 1000, 20, false, true⟩,
  ⟨0x04110120, 1, 2, 0, 8191, 0, true, false⟩,
  ⟨0x04110121, 1, 2, 0, 65535, 0, true, false⟩,
  ⟨0x041101D0, 1, 1, 0, 255, 255, false, false⟩,
  ⟨0x041101D1, 1, 1, 0, 255, 0, false, false⟩,
  ⟨0x041101D2, 1, 3, 0, 2147483647, 0, false, false⟩,
  ⟨0x041101D3, 1, 3, 0, 2147483646, 0, false, false⟩,
  ⟨0x041101D4, 1, 2, 1, 65535, 64, false, true⟩,
  ⟨0x041101D5, 1, 2, 1, 65535, 320, false, true⟩,
  ⟨0x041101D6, 1, 1, 0, 8, 2, false, true⟩,
  ⟨0x04200001, 8, 1, 0, 1, 0, false, false⟩,
  ⟨0x04200002, 8, 2, 20, 2500, 100, false, false⟩,
  ⟨0x04200003, 8, 2, 0, 10000, 200, false, false⟩,
  ⟨0x04200004, 8, 1, 0, 15, 4, false, false⟩,
  ⟨0x04200005, 8, 1, 0, 1, 0, false, false⟩,
  ⟨0x04200006, 8, 2, 0, 1000, 10, false, true⟩,
  ⟨0x06000001, 1, 1, 1, 64, 8, false, true⟩,
  ⟨0x06000002, 1, 2, 1, 10000, 20, false, true⟩,
  ⟨0x07000001, 16, 1, 0, 2, 1, false, false⟩,
  ⟨0x07000002, 16, 1, 0, 1, 1, true, false⟩,
  ⟨0x07000003, 16, 1, 0, 31, 0, false, false⟩,
  ⟨0x07000004, 16, 2, 25, 1000, 100, true, true⟩]

/-- TX_SWING to UP_TIMEOUT. -/
def paramRows3 : List ParamRow := [
  ⟨0x07000005, 16, 2, 400, 1200, 800, true, false⟩,
  ⟨0x07000006, 16, 1, 0, 12, 0, true, false⟩,
  ⟨0x07000007, 16, 1, 0, 8, 8, true, false⟩,
  ⟨0x07100010, 1, 1, 0, 2, 0, true, false⟩,
  ⟨0x07101010, 1, 1, 0, 2, 0, true, false⟩,
  ⟨0x07200001, 8, 1, 1, 64, 32, false, false⟩,
  ⟨0x07200002, 8, 2, 40, 4096, 96, false, false⟩,
  ⟨0x07200003, 8, 1, 1, 64, 8, false, false⟩,
  ⟨0x07200004, 8, 2, 0, 256, 8, false, false⟩,
  ⟨0x07200005, 8, 1, 8, 64, 8, true, false⟩,
  ⟨0x07200006, 8, 1, 3, 50, 12, true, false⟩,
  ⟨0x07200007, 8, 1, 11, 255, 20, true, false⟩,
  ⟨0x07300001, 1, 1, 0, 5, 0, false, false⟩,
  ⟨0x07300002, 1, 1, 1, 255, 1, false, false⟩,
  ⟨0x07300003, 8, 1, 0, 1, 0, true, false⟩,
  ⟨0x07300004, 8, 1, 0, 1, 1, false, true⟩,
  ⟨0x07300005, 8, 2, 1, 3600, 10, false, true⟩,
  ⟨0x08000001, 1, 1, 0, 5, 0, false, false⟩,
  ⟨0x08000002, 1, 1, 0, 15, 15, false, false⟩,
  ⟨0x08000003, 1, 2, 1, 60, 10, false, false⟩,
  ⟨0x08000004, 1, 1, 2, 64, 8, true, false⟩,
  ⟨0x08000005, 1, 2, 100, 60000, 5000, false, false⟩,
  ⟨0x08010001, 8, 2, 0, 65535, 4096, false, false⟩,
  ⟨0x08100001, 32, 3, 100, 1000000, 5000, false, false⟩,
  ⟨0x08100002, 32, 3, 1, 100000, 50, false, false⟩,
  ⟨0x08100003, 32, 3, 1, 10000, 10, false, false⟩,
  ⟨0x08100004, 32, 2, 1, 10000, 10, false, false⟩,
  ⟨0x08100005, 32, 2, 10, 60000, 2000, false, false⟩,
  ⟨0x08200001, 256, 1, 0, 31, 0, false, false⟩,
  ⟨0x08200002, 256, 1, 0, 1, 0, false, false⟩,
  ⟨0x08200003, 256, 3, 1, 16777216, 16384, false, false⟩,
  ⟨0x08200004, 256, 11, 1048576, 70368744177664, 1099511627776, false, false⟩,
  ⟨0x08200005, 256, 3, 1, 100000, 100, false, false⟩,
  ⟨0x08200006, 256, 2, 1, 1000, 20, false, false⟩,
  ⟨0x08200007, 256, 2, 2, 1024, 32, false, false⟩]

/-- SI_MODE to TIM_BW. -/
def paramRows4 : List ParamRow := [
  ⟨0x08300001, 8, 1, 0, 2, 0, false, false⟩,
  ⟨0x08300002, 8, 1, 0, 1, 0, false, false⟩,
  ⟨0x08300003, 8, 3, 0, 4294967295, 4294967295, false, false⟩,
  ⟨0x08300004, 8, 2, 5, 500, 20, false, false⟩,
  ⟨0x08400001, 4, 3, 0, 4294967295, 0, false, false⟩,
  ⟨0x08400002, 4, 1, 0, 1, 0, false, false⟩,
  ⟨0x09000001, 1, 1, 0, 1, 1, true, true⟩,
  ⟨0x09000002, 1, 3, 10, 86400, 300, false, true⟩,
  ⟨0x09000003, 1, 1, 4, 64, 8, true, true⟩,
  ⟨0x09000004, 1, 2, 16, 4096, 64, true, true⟩,
  ⟨0x0A000001, 1, 1, 0, 100, 50, false, false⟩,
  ⟨0x0A000002, 1, 1, 0, 255, 255, false, false⟩,
  ⟨0x0A000003, 1, 1, 0, 255, 0, false, false⟩,
  ⟨0x0A000004, 1, 1, 0, 1, 0, false, true⟩,
  ⟨0x0A100001, 64, 2, 0, 65535, 0, false, false⟩,
  ⟨0x0A100002, 64, 1, 1, 64, 1, false, false⟩,
  ⟨0x0A100003, 64, 3, 0, 65536, 0, false, false⟩,
  ⟨0x0A200001, 8, 1, 0, 255, 255, false, false⟩,
  ⟨0x0A200002, 8, 1, 0, 1, 0, false, false⟩,
  ⟨0x0A200003, 8, 1, 1, 64, 1, false, false⟩,
  ⟨0x0A200004, 8, 3, 0, 65536, 0, false, false⟩,
  ⟨0x0A300001, 8, 1, 0, 88, 0, false, false⟩,
  ⟨0x0A300002, 8, 1, 0, 8, 0, false, false⟩,
  ⟨0x0A300003, 8, 1, 0, 2, 0, false, false⟩,
  ⟨0x0A300004, 8, 7, (-140737488355328), 140737488355327, 0, false, false⟩,
  ⟨0x0A300005, 8, 7, (-140737488355328), 140737488355327, 0, false, false⟩,
  ⟨0x0A300006, 8, 4, 0, 140737488355327, 0, false, false⟩,
  ⟨0x0A300007, 8, 3, 0, 4294967295, 0, false, false⟩,
  ⟨0x0A300008, 8, 3, 0, 4294967295, 0, false, false⟩,
  ⟨0x0A400001, 4, 1, 0, 1, 0, false, false⟩,
  ⟨0x0A400002, 4, 1, 0, 1, 0, false, true⟩,
  ⟨0x0A400003, 4, 2, 1, 1000, 10, false, true⟩,
  ⟨0x0B000001, 1, 2, 0, 17476, 4608, false, true⟩,
  ⟨0x0B000002, 1, 2, 10, 5000, 200, true, true⟩,
  ⟨0x0B000003, 1, 2, 10, 1000, 100, true, true⟩]

/-- PPS_WIDTH to SCRUB_PERIOD. -/
def paramRows5 : List ParamRow := [
  ⟨0x0B000004, 1, 2, 1, 500, 100, false, true⟩,
  ⟨0x0B000005, 1, 4, 0, 281474976710655, 0, false, true⟩,
  ⟨0x0B100001, 2, 1, 0, 127, 0, false, false⟩,
  ⟨0x0B100002, 2, 1, 0, 1, 0, false, false⟩,
  ⟨0x0B100003, 2, 1, 0, 1, 0, false, false⟩,
  ⟨0x0B100004, 2, 1, 2, 16, 3, false, true⟩,
  ⟨0x0B100005, 2, 2, 0, 10000, 0, true, false⟩,
  ⟨0x0B100006, 2, 2, 0, 10000, 0, true, false⟩,
  ⟨0x0B200001, 2, 5, (-1000), 1000, 0, true, true⟩,
  ⟨0x0C000001, 1, 2, 400, 1200, 900, false, true⟩,
  ⟨0x0C000002, 1, 5, 600, 1200, 1100, false, true⟩,
  ⟨0x0C000003, 1, 2, 10, 200, 50, true, true⟩,
  ⟨0x0C000004, 1, 2, 10, 200, 50, true, true⟩,
  ⟨0x0C000005, 1, 2, 10, 10000, 100, true, true⟩,
  ⟨0x0C000006, 1, 1, 0, 31, 31, false, true⟩,
  ⟨0x0C000007, 1, 1, 0, 5, 0, true, true⟩,
  ⟨0x0C000008, 1, 3, 1, 10000000, 3200, false, true⟩,
  ⟨0x0C100001, 16, 3, 1, 1000000, 100000, false, true⟩,
  ⟨0x0C100002, 16, 3, 1, 10000000, 100000, false, true⟩,
  ⟨0x0C100003, 16, 3, 0, 1000000, 50000, false, true⟩,
  ⟨0x0C100004, 16, 1, 0, 100, 0, false, true⟩,
  ⟨0x0D000001, 1, 1, 2, 32, 4, false, false⟩,
  ⟨0x0D000002, 1, 2, 10, 1000, 50, false, false⟩,
  ⟨0x0D000003, 1, 1, 30, 50, 40, true, false⟩,
  ⟨0x0D000004, 1, 2, 20, 10000, 1000, false, false⟩,
  ⟨0x0D000005, 1, 2, 170, 300, 200, true, false⟩,
  ⟨0x0D000006, 1, 2, 5, 200, 20, false, false⟩,
  ⟨0x0D000007, 1, 2, 10, 10000, 1000, false, false⟩,
  ⟨0x0D100001, 16, 1, 1, 16, 3, false, true⟩,
  ⟨0x0D100002, 16, 1, 0, 1, 0, true, false⟩,
  ⟨0x0D200001, 8, 1, 0, 1, 1, false, false⟩,
  ⟨0x0D200002, 8, 1, 0, 2, 0, false, true⟩,
  ⟨0x0F000001, 1, 3, 0, 86400, 600, false, true⟩,
  ⟨0x0F000002, 1, 2, 1, 600, 10, true, true⟩]

/-- Every parameter. -/
def paramRows : List ParamRow :=
  paramRows0 ++ paramRows1 ++ paramRows2 ++ paramRows3 ++ paramRows4 ++ paramRows5

/-- The row and instance that an ID names. -/
def paramFind (id : Nat) : Option (ParamRow × Nat) :=
  match paramRows.find? (fun r => decide (r.base ≤ id) && decide ((id - r.base) % 4096 = 0)
      && decide ((id - r.base) / 4096 < r.count)) with
  | none => none
  | some r => some (r, (id - r.base) / 4096)

/-- The default of an ID: the Default column, and the three that depend on the instance (PHY_ADDR: the port's index
within its MDIO bus, Table FRM-1; SEG_SEED: 0x1000 + n, Table SAF-7; PTP_DOMAIN: 0 and 1, Table TIM-6). -/
def paramDefault (id : Nat) : Int :=
  match paramFind id with
  | none => 0
  | some (r, i) =>
    if r.base = 0x07000003 then (i % 8 : Nat)
    else if r.base = 0x08010001 then r.dflt + i
    else if r.base = 0x0B100001 then (i : Nat)
    else r.dflt

/-- The ranges that are no interval: OFF values apart, steps, powers of two and lists of codes. -/
def paramSet (base : Nat) (v : Int) : Bool :=
  if base = 0x04100005 then decide (v = 0 ∨ 16 ≤ v)
  else if base = 0x04100014 ∨ base = 0x04200002 ∨ base = 0x04200003 then decide (v % 5 = 0)
  else if base = 0x04000101 ∨ base = 0x04110101 then decide (v ≤ 15 ∨ v = 0x80 ∨ v = 0xFF)
  else if base = 0x041101D0 then decide (v ≤ 15 ∨ v = 0xFF)
  else if base = 0x04000120 ∨ base = 0x04110120 then decide (v = 0 ∨ 0x1000 ≤ v)
  else if base = 0x04000151 then [256, 512, 1024, 2048, 4096, 8192].contains v
  else if base = 0x04000152 then decide (v = 0 ∨ 64 * 65536 ≤ v)
  else if base = 0x04000163 then decide (v ≤ 31 ∨ v = 0xFF)
  else if base = 0x04000165 then decide (v ≤ 7 ∨ v = 0xFF)
  else if base = 0x04000166 then [1, 2, 4, 8, 16, 32, 64, 128, 256].contains v
  else if base = 0x040001C3 then decide (v ≤ 15 ∨ v = 0xFF)
  else if base = 0x041101D2 then decide (v = 0 ∨ 1024 ≤ v)
  else if base = 0x0A000002 then decide (v ≤ 7 ∨ v = 0xFF)
  else if base = 0x0A100003 ∨ base = 0x0A200004 then decide (v = 0 ∨ 2 ≤ v)
  else if base = 0x0A200001 then decide (v ≤ 15 ∨ v = 0xFF)
  else if base = 0x0A300001 then decide (v ≤ 0x47 ∨ (0x50 ≤ v ∧ v ≤ 0x53) ∨ v = 0x58)
  else if base = 0x0F000001 then decide (v = 0 ∨ 10 ≤ v)
  else if base = 0x0B000001 then
    [4096, 256, 16, 1].all (fun (d : Int) => decide ((v / d) % 16 ≤ 4))
  else if base = 0x02100002 then
    (List.range 33).any (fun n => decide (v = 2 ^ 32 - 2 ^ n))
  else true

/-- Whether a value lies in the range of its row. -/
def ParamRow.admits (r : ParamRow) (v : Int) : Bool :=
  decide (r.lo ≤ v) && decide (v ≤ r.hi) && paramSet r.base v

/-- Whether a format of Table CMD-2 is signed. -/
def formatSigned (f : Nat) : Bool := decide (5 ≤ f ∧ f ≤ 12)

/-- The number that a 12-byte value field carries in a format (R442). -/
def itemValue (format : Nat) (v : BitVec 96) : Int := if formatSigned format then v.toInt else (v.toNat : Int)

/-- A class whose parameters are safety parameters (R312): class 0x08. -/
def isSafetyId (id : Nat) : Bool := decide (id / 16777216 = 8)

end Sys2Proof.Machine
end

