-- ==== Sys2Proof/Machine/Sparse.lean ====
section
/-! DEFINITION. Tables and memories in canonical form: (index, value) pairs with strictly rising indices and no entry
equal to what an unlisted index reads as (`d`). -/

namespace Sys2Proof.Machine

/-- The value at index `k`. -/
def sget {α : Type} (d : Nat → α) : Sparse α → Nat → α
  | [], k => d k
  | (j, v) :: m, k => if k < j then d k else if k = j then v else sget d m k

/-- Whether the listed indices all lie above `k`. -/
def sabove {α : Type} (k : Nat) : Sparse α → Bool
  | [] => true
  | (j, _) :: _ => decide (k < j)

/-- `m` with the value `v` at index `k`; an entry that holds what an unlisted index reads as is removed. -/
def sput {α : Type} [DecidableEq α] (d : Nat → α) : Sparse α → Nat → α → Sparse α
  | [], k, v => if v = d k then [] else [(k, v)]
  | (j, w) :: m, k, v =>
    if k < j then
      if v = d k then (j, w) :: m else (k, v) :: (j, w) :: m
    else if k = j then
      if v = d k ∧ sabove k m = true then m else (k, v) :: m
    else (j, w) :: sput d m k v

/-- Every listed value is changed; what becomes the value of an unlisted index is removed. -/
def smap {α : Type} [DecidableEq α] (d : Nat → α) (f : Nat → α → α) : Sparse α → Sparse α
  | [] => []
  | (j, v) :: m => if f j v = d j then smap d f m else (j, f j v) :: smap d f m

/-- Canonical form from index `lo` on. -/
def swf {α : Type} [DecidableEq α] (d : Nat → α) : Nat → Sparse α → Bool
  | _, [] => true
  | lo, (j, v) :: m => decide (lo ≤ j) && decide (v ≠ d j) && swf d (j + 1) m

/-- Consecutive words from index `k` on. -/
def sputs {α : Type} [DecidableEq α] (d : Nat → α) (m : Sparse α) (k : Nat) : List α → Sparse α
  | [] => m
  | v :: vs => sputs d (sput d m k v) (k + 1) vs

/-- `n` consecutive words from index `k` on. -/
def sgets {α : Type} (d : Nat → α) (m : Sparse α) (k : Nat) : Nat → List α
  | 0 => []
  | n + 1 => sget d m k :: sgets d m (k + 1) n

end Sys2Proof.Machine
end

