-- ==== Sys2Proof/Machine/StateNet.lean ====
section
/-! DEFINITION. State of the ring ports, segments and nodes, the outputs of the device, and the records that wait to
be sent (spec/02_futhes_frames.md, spec/03_futhes_slot_train.md, spec/18_service_without_stopping.md). -/

namespace Sys2Proof.Machine

/-- A REF entry (Table FRM-6): the axis, byte 1, the apply cycle, bytes 4 to 9 and bytes 10 to 15. -/
structure RefEntry where
  axis : Nat
  ctrl : Byte
  apply : Nat
  a : Word48
  b : Word48
  deriving DecidableEq, Repr

/-- A timed record (Table FRM-8) with its fire time as a served time in ns. -/
structure TimedRec where
  seq : Nat
  fire : Int
  channel : Nat
  action : Nat
  deriving DecidableEq, Repr

/-- A REV item waiting in the head (Table FRM-11). -/
inductive RevItem where
  | range (axis : Nat) (first : Nat) (entries : List RefEntry)
  | retime (seq : Nat) (fire : Int)
  | cancel (seq : Nat)
  deriving DecidableEq, Repr

/-- A queued REV item with its affected cycle (R75). -/
structure QueuedRev where
  item : RevItem
  affected : Int
  deriving DecidableEq, Repr

/-- A DYN message of the head: waiting to be sent, or sent and not acknowledged (R76, R89). -/
structure DynMsg where
  msg : Nat
  msgId : Nat
  dest : Nat
  data : List Byte
  deferrable : Bool
  turns : Nat
  more : Bool := false
  frag : Nat := 0
  deriving DecidableEq, Repr

/-- A DYN message of a node of which not every fragment has come (R76): its fragments, each with its number, whether more follow, and its
data. -/
structure DynParts where
  src : Nat
  msg : Nat
  msgId : Nat
  parts : List (Nat × Bool × List Byte)
  deriving DecidableEq, Repr

/-- An admission request held by the head (R481, R489). -/
structure AdmitReq where
  serial : BitVec 48
  kind : Nat
  axes : Nat
  staticBytes : Nat
  deriving DecidableEq, Repr

/-- The twin-link messages that the device sends (Table TWN-1). -/
inductive TwinOut where
  | health (m : HealthMsg)
  | log (r : LogRec)
  | logAck (pos : Nat)
  | release (m : ReleaseMsg)
  | digest (cycle : Nat) (ds : List (BitVec 32))
  | verdict (cycle : Nat) (mismatches : List Nat)
  | test (e : EngIx) (pass : Bool)
  | declare (reason : Nat) (last : Nat) (h : Option Nat)
  | resync (owner : Owner)
  | join (m : JoinMsg)
  | trigger (t : T80) (mask : BitVec 8)
  | refuseJoin
  deriving DecidableEq, Repr

/-- What the device puts on its wires and pins: a frame as it stands on the wire (R50), the part of a frame before an error propagation
(R60, R61), and the two reports of R120, to which the spec gives no carrier (log 145). -/
inductive Output where
  | frame (p : PortIx) (bytes : List Byte)
  | abort (p : PortIx) (bytes : List Byte)
  | twin (m : TwinOut)
  | barrierDown (b : Barrier) (bytes : List Byte)
  | barrierUp (b : Barrier) (bytes : List Byte)
  | reply (dest : HostSource) (bytes : List Byte)
  | push (dest : HostSource) (bytes : List Byte)
  | ringReply (index : Nat) (bytes : List Byte)
  | ringEvent (index : Nat) (bytes : List Byte)
  | msi (vector : Nat)
  | arpReply (plant : PlantIx) (ip : BitVec 32)
  | gratuitousArp (plant : PlantIx) (ip : BitVec 32)
  | icmpReply (plant : PlantIx) (ip : BitVec 32) (data : List Byte)
  | delayReq (d : Fin 2) (seq : BitVec 16)
  | mdio (bus op phy devad : Nat) (reg data : Nat)
  | ssiBurst (n : FbIx) (clocks : Nat)
  | flash (bank : Nat) (offset : Nat) (bytes : List Byte)
  | ringOpen (seg : Nat)
  | ownerUnsynced (seg : Nat) (node : Nat)
  deriving DecidableEq, Repr

/-- One ring port: PORT_STATUS (Table FRM-3), the counters of R62, electrical idle (R367), the fence of R469; `csfRef`: the last CSF that a
forwarding chip saw on it, its cycle, its SFD in 0.1 ns of the chip's own cycle count, and its LOOP bit (R103). -/
structure RingPort where
  link : Bool
  sync : Bool
  anDone : Bool
  loopCycle : Option Nat
  crcErr : Bool
  abort : Bool
  fmtErr : Bool
  late : Bool
  goodCnt : Nat
  crcCnt : Nat
  abortCnt : Nat
  fmtCnt : Nat
  idle : Bool
  fenced : Bool
  upSince : Nat
  mdioNext : Nat
  csfRef : Option (Nat × Int × Bool)
  deriving DecidableEq, Repr

/-- The reset values of Table FRM-3. -/
def RingPort.reset : RingPort :=
  { link := false, sync := false, anDone := false, loopCycle := none, crcErr := false, abort := false, fmtErr := false,
    late := false, goodCnt := 0, crcCnt := 0, abortCnt := 0, fmtCnt := 0, idle := true, fenced := false, upSince := 0,
    mdioNext := 0, csfRef := none }

/-- What the head knows of one node: survey and delays (R97, R119, in 0.1 ns), counts (R105), SUP status (R81),
stop groups read back (R299) and the uplink sequence (R308);
`upA`, `upB`: since when its ports report link up (R113); `schNorm`, `schFold`: the delays of its last SCH (R477); `turnK`: the train of its
last turned frame (R110). -/
structure NodeSt where
  serial : BitVec 48
  kind : Nat
  axes : Nat
  hopA : Nat
  hopB : Nat
  legA : Nat
  legB : Nat
  fwdLat : Nat
  turn : Nat
  delayNorm : Nat
  delayFold : Nat
  edgeCnt : Nat
  missCnt : Nat
  offMin : Int
  offMax : Int
  offSum : Int
  offNum : Nat
  lastDelta : Int
  supA : Byte
  supB : Byte
  supCounts : List Nat
  supSeen : Bool
  loopback : Bool
  synced : Bool
  path : Nat
  groupsRead : List (Nat × Nat)
  upA : Nat
  upB : Nat
  schNorm : Nat
  schFold : Nat
  inStatus : Byte
  inImage : List Byte
  removed : Bool
  turnK : Option Int
  deriving DecidableEq, Repr

def NodeSt.reset : NodeSt :=
  { serial := 0, kind := 0, axes := 0, hopA := 0, hopB := 0, legA := 0, legB := 0, fwdLat := 0, turn := 0, delayNorm := 0,
    delayFold := 0, edgeCnt := 0, missCnt := 0, offMin := 0, offMax := 0, offSum := 0, offNum := 0, lastDelta := 0,
    supA := 0, supB := 0, supCounts := [], supSeen := false, loopback := false, synced := false, path := 0,
    groupsRead := [], upA := 0, upB := 0, schNorm := 0, schFold := 0, inStatus := 0, inImage := [], removed := false, turnK := none }

/-- One place of the receive image (R105): the last accepted payload, the cycle it belongs to, the cycles since it was accepted
(saturating at 255), the FBK frames that wait for their release (R94), each with its cycle and its AGE header field, and how many of the
slot's owned trains in a row have brought an accepted frame (R116). -/
structure ImagePlace where
  payload : List Byte
  cycle : Nat
  since : Nat
  wait : List (Nat × Nat × List Byte)
  run : Nat
  deriving DecidableEq, Repr

def ImagePlace.reset : ImagePlace := { payload := [], cycle := 0, since := 255, wait := [], run := 0 }

/-- The phase of a segment: the phases of Table SLT-5 from Survey on, out of Run (R120), or under test (R474). -/
inductive SegPhase where
  | off | survey | scheduleLoad | synchronise | run | test
  deriving DecidableEq, Repr

/-- A segment under test (R474). -/
structure SegTest where
  mode : Nat
  endTick : Nat
  ctx : CmdCtx
  deriving DecidableEq, Repr

/-- The schedule of Table SLT-2's defaults, with no slot record. -/
def scheduleDefault : Schedule :=
  { ver := 0, period := 0, staticSlots := 32, slotLen := 96, headSlots := 8, minislots := 8, minislotLen := 8,
    guardLen := 20, safWd := 4, wCode := 12, records := [] }

/-- One segment as the head keeps it; `supQ`: SUP payloads, and whether each leaves port B alone; `measure`: a NET_MEASURE that waits for its response, with its hop and port; `ownHopA`,
`ownHopB`: the hop names of this chip as a standby (R353, R480); `loopSide`, `lastCsf`, `lastBeacon`: the chip as a loop node while it
forwards (R107, R108): 1 with the break at port A, 2 at port B, and the cycles of the last CSF and of the last counter-direction mark; `lamR`:
the counter loop (R115); `dynParts`, `reqs`: unfinished messages of nodes, and the requests of the head that await a reply (R76); `edgesNow`, `missNow`: edge violations and missing frames of the cycle (Table SCS-1). -/
structure Segment where
  phase : SegPhase
  phaseTick : Nat
  -- Survey (R119)
  surveyB : Bool
  surveyHop : Nat
  surveyOut : Bool
  surveyRetry : Nat
  surveySent : Nat
  nNodes : Nat
  closed : Bool
  -- Delays, in 0.1 ns (R94, R97, R98)
  lamN : Nat
  lamR : Nat
  lamStandby : Nat
  -- Schedules (R95, R476, R477)
  sched : Schedule
  pending : Option Schedule
  activateAt : Option Nat
  remeasure : List (Nat × Bool)
  activating : Option CmdCtx
  admitting : Option (Nat × BitVec 48 × CmdCtx)
  restoring : Bool
  syncFrom : Nat
  -- Supervision (R100, R107)
  csfMiss : Nat
  csfSeen : Bool
  lamMeas : Nat
  drift : Nat
  -- Healing (R110, R113, R114)
  broken : Bool
  folded : Bool
  sendB : Bool
  breakA : Nat
  breakB : Nat
  second : Bool
  pathFrom : Nat
  restoreAt : Option Nat
  -- Service (R474, R481)
  test : Option SegTest
  admitReq : List AdmitReq
  -- What waits to be sent (R25, R75, R89)
  dynQ : List DynMsg
  dynWait : List DynMsg
  msgId : Nat
  revQ : List QueuedRev
  supQ : List (Bool × List Byte)
  schQ : List (Nat × List Byte)
  outImage : Sparse (List Byte)
  refTrain : List RefEntry
  -- Receive side
  image : Sparse ImagePlace
  nodes : Sparse NodeSt
  measure : Option (CmdCtx × Nat × Bool)
  ownHopA : Nat
  ownHopB : Nat
  loopSide : Nat
  lastCsf : Option Nat
  lastBeacon : Option Nat
  dynParts : List DynParts
  reqs : List (Nat × Nat)
  edgesNow : Nat
  missNow : Nat
  deriving DecidableEq, Repr

def Segment.reset : Segment :=
  { phase := .off, phaseTick := 0, surveyB := false, surveyHop := 0, surveyOut := false, surveyRetry := 0, surveySent := 0,
    nNodes := 0, closed := false, lamN := 0, lamR := 0, lamStandby := 0, sched := scheduleDefault, pending := none,
    activateAt := none, remeasure := [], activating := none, admitting := none, restoring := false, syncFrom := 0,
    csfMiss := 0, csfSeen := false,
    lamMeas := 0, drift := 0, broken := false, folded := false, sendB := false, breakA := 0, breakB := 0, second := false, pathFrom := 0,
    restoreAt := none, test := none, admitReq := [], dynQ := [], dynWait := [], msgId := 0, revQ := [], supQ := [],
    schQ := [], outImage := [], refTrain := [], image := [], nodes := [], measure := none, ownHopA := 0, ownHopB := 0
    loopSide := 0, lastCsf := none, lastBeacon := none, dynParts := [], reqs := [], edgesNow := 0, missNow := 0 }

/-- The chip's part of the Opening (Table SLT-5): whether it contends, and its phase before the segments start. -/
inductive OpenPhase where
  | idle | listen | claim | segments | standby
  deriving DecidableEq, Repr

structure Opening where
  phase : OpenPhase
  since : Nat
  claims : Nat
  periods : Nat
  joinWanted : Bool
  deriving DecidableEq, Repr

def Opening.reset : Opening := { phase := .idle, since := 0, claims := 0, periods := 0, joinWanted := false }

end Sys2Proof.Machine
end

