-- ==== Sys2Proof/Machine/StateAxis.lean ====
section
/-! DEFINITION. State of local feedback ports, observers, axes, profiles, requests and step ports
(spec/04_position_feedback.md, spec/06_axes_and_control_laws.md, spec/07_profiles_and_steppers.md, spec/09_arbiter.md). -/

namespace Sys2Proof.Machine

/-- A counted edge: its stamp as a served time in ns, and its direction (R125). -/
structure Edge where
  stamp : Int
  up : Bool
  deriving DecidableEq, Repr

/-- The readings of a port as they stood at the last cycle boundary (R147). -/
structure FbRead where
  phaseErrs : Nat
  inferCnt : Nat
  idxCnt : Nat
  idxLatch : Int
  idxDev : Int
  ssiErrs : Nat
  hallErrs : Nat
  deriving DecidableEq, Repr

def FbRead.reset : FbRead := { phaseErrs := 0, inferCnt := 0, idxCnt := 0, idxLatch := 0, idxDev := 0, ssiErrs := 0, hallErrs := 0 }

/-- A local feedback port (R122 to R135, R146, R147); `burstFor`: the cycle that its last SSI burst was for (R128). -/
structure FbPort where
  a : Bool
  b : Bool
  z : Bool
  c : Bool
  cDriven : Bool
  count : Int
  e1 : Option Edge
  e2 : Option Edge
  lastUp : Bool
  bothStamp : Option Int
  latched : Int
  latchedE1 : Option Edge
  latchedE2 : Option Edge
  latchedBoth : Option Int
  idxLatch : Int
  idxValid : Bool
  errPending : Bool
  errStamp : Int
  pu : Bool
  qerr : Bool
  inferred : Bool
  drift : Bool
  herr : Bool
  ssiErr : Bool
  phaseErrs : Nat
  inferCnt : Nat
  idxCnt : Nat
  idxDev : Int
  ssiErrs : Nat
  hallErrs : Nat
  hall : Option (BitVec 3)
  hallIllegal : Bool
  ssiPrev : Option Nat
  ssiValid : Bool
  ssiSeen : Bool
  puNow : Bool
  burstFor : Option Nat
  read : FbRead
  deriving DecidableEq, Repr

def FbPort.reset : FbPort :=
  { a := false, b := false, z := false, c := false, cDriven := false, count := 0, e1 := none, e2 := none, lastUp := true,
    bothStamp := none, latched := 0, latchedE1 := none, latchedE2 := none, latchedBoth := none, idxLatch := 0,
    idxValid := false, errPending := false, errStamp := 0, pu := false, qerr := false, inferred := false, drift := false,
    herr := false, ssiErr := false, phaseErrs := 0, inferCnt := 0, idxCnt := 0, idxDev := 0, ssiErrs := 0, hallErrs := 0,
    hall := none, hallIllegal := false, ssiPrev := none, ssiValid := false, ssiSeen := false, puNow := false,
    burstFor := none, read := .reset }

/-- The readings of an observer as they stood at the last cycle boundary (R147). -/
structure ObsRead where
  raw : Int
  fpos : Int
  vHat : Int
  aHat : Int
  sampleErrs : Nat
  deriving DecidableEq, Repr

def ObsRead.reset : ObsRead := { raw := 0, fpos := 0, vHat := 0, aHat := 0, sampleErrs := 0 }

/-- Hysteresis and tracking observer of an axis or the line master (R138, R141, R144, R146, R147).
Positions, speeds and accelerations are raw P48, V48 and A48 values. -/
structure Observer where
  still : Bool
  rawPrev : Int
  stillTimer : Nat
  frozen : Int
  settling : Nat
  settlingFlag : Bool
  fpos : Int
  pHat : Int
  vHat : Int
  aHat : Int
  dir : Bool
  age : Nat
  predicted : Bool
  raw : Int
  qerr : Bool
  sampleErrs : Nat
  tauS : Int
  seen : Bool
  read : ObsRead
  deriving DecidableEq, Repr

def Observer.reset : Observer :=
  { still := false, rawPrev := 0, stillTimer := 0, frozen := 0, settling := 0, settlingFlag := false, fpos := 0, pHat := 0,
    vHat := 0, aHat := 0, dir := false, age := 0, predicted := false, raw := 0, qerr := false, sampleErrs := 0, tauS := 0,
    seen := false, read := .reset }

/-- The last released FBK frame of an axis (Table FRM-7), and for a local stepper its drive status (R236). -/
structure FbkLast where
  status : Byte
  faultCode : BitVec 16
  raw : Int
  tSample : Int
  aux : Word48
  torque : Word48
  vbus : BitVec 16
  temp : Byte
  queued : Byte
  repeats : Byte
  hdrAge : Nat
  valid : Bool
  isNew : Bool
  sampleCycle : Nat
  deriving DecidableEq, Repr

def FbkLast.reset : FbkLast :=
  { status := 0, faultCode := 0, raw := 0, tSample := 0, aux := 0, torque := 0, vbus := 0, temp := 0, queued := 0,
    repeats := 0, hdrAge := 0, valid := false, isNew := false, sampleCycle := 0 }

/-- Table LAW-2. -/
inductive AxState where
  | disabled | enabling | ready | running | stopping | torqueOff | fault
  deriving DecidableEq, Repr

/-- Lifecycle of an axis (R183 to R191, R207, R213); `enabledAt`: the cycle in which an AX_ENABLE was last accepted or held; `enableWait`:
AX_ENABLEs that change nothing, answered at the boundary after the cycle of their arrival (R191; log 163). -/
structure Life where
  state : AxState
  stopKind : Nat
  stopDec : Int
  stoPath : Bool
  held : Option CmdCtx
  enableCtx : Option CmdCtx
  cause : Nat
  ageSeenZero : Bool
  reactDone : Bool
  enteredTick : Nat
  brakeTick : Option Nat
  firstBrake : Option Nat
  confirm : Nat
  holdRun : Nat
  parked : Bool
  direct : Bool
  tlimSat : Bool
  lawSat : Nat
  lrnActive : Bool
  lrnPaused : Bool
  revUntil : Option Nat
  stoPlan : Bool
  lastEnable : Bool
  init : Bool
  enabledAt : Option Nat
  enableWait : List (CmdCtx × Nat)
  drvLog : List (Nat × BitVec 16)
  deriving DecidableEq, Repr

def Life.reset : Life :=
  { state := .disabled, stopKind := 0, stopDec := 0, stoPath := false, held := none, enableCtx := none, cause := 0,
    ageSeenZero := false, reactDone := false, enteredTick := 0, brakeTick := none, firstBrake := none, confirm := 0,
    holdRun := 0, parked := false, direct := false, tlimSat := false, lawSat := 0, lrnActive := false, lrnPaused := false,
    revUntil := none, stoPlan := false, lastEnable := false, init := false, enabledAt := none, enableWait := [], drvLog := [] }

/-- A queued AX_COEF_WRITE (R204). -/
structure CoefWrite where
  ctx : CmdCtx
  offset : Nat
  value : Word48
  cycle : Nat
  deriving DecidableEq, Repr

/-- The reference of one apply cycle, as the plan in force gave it (R258: the last apply cycles are kept). -/
structure RefHist where
  c : Nat
  r : Int
  v : Int
  acc : Int
  deriving DecidableEq, Repr

/-- The filtered position of one sample, and whether its task ran on prediction (R247). -/
structure FposHist where
  n : Nat
  fpos : Int
  predicted : Bool
  deriving DecidableEq, Repr

/-- Schedule figures and law bookkeeping of an axis (R17, R22, R94, R204, R208, R256 to R258).  `tableNext`: the run of the learner
pool that replaces the table in force once no task of the axis runs (R154); `stateCtr`, `devWords`: the device words of the
context block whose layout the spec does not give (R181; log 164), free values counted by `stateCtr` under what a program has
stored; `satNow`: a move of this task has saturated (R194). -/
structure LawSt where
  d : Nat
  phi : Nat
  sigma : Nat
  dMin : Nat
  dFold : Nat
  foldLate : Bool
  coefQ : List CoefWrite
  coefLanded : Option Nat
  lrnBase : Nat
  lrnBins : Nat
  hist : List RefHist
  fposHist : List FposHist
  newest : Option Nat
  sent : Sparse RefEntry
  tableNext : Option (Nat × Nat)
  stateCtr : Nat
  devWords : Sparse Word48
  satNow : Bool
  deriving DecidableEq, Repr

def LawSt.reset : LawSt :=
  { d := 0, phi := 0, sigma := 0, dMin := 1, dFold := 1, foldLate := false, coefQ := [], coefLanded := none, lrnBase := 0, lrnBins := 0,
    hist := [], fposHist := [], newest := none, sent := [], tableNext := none, stateCtr := 0, devWords := [], satNow := false }

/-- What a motion request asks for (R224, R227, R220, R221, R238). -/
inductive ReqKind where
  | profile (first : Nat) (relative : Bool)
  | resume
  | basic (target vm am dm jm : Int)
  | home (positive : Bool)
  | group (g : Nat) (members : List (Nat × Int)) (f a dp j : Int)
  deriving DecidableEq, Repr

/-- AX_PMASS and AX_PFRIC as a request takes them (R278, R288). -/
structure PowerCoef where
  mass : Nat
  fric : Nat
  deriving DecidableEq, Repr

/-- A waiting request of the Arbiter (R278, R282, R285).  Energies are in µJ, powers in W. -/
structure Request where
  kind : ReqKind
  pReq : Nat
  eReq : Nat
  brake : Nat
  prio : Nat
  group : Nat
  cycle : Nat
  defer : Nat
  dmaxDone : Bool
  ctx : Option CmdCtx
  moveSeq : Option Nat
  change : Bool
  coefs : List (Nat × PowerCoef)
  deriving DecidableEq, Repr

/-- The span in force of a motion (R279). -/
structure Span where
  pReq : Nat
  brake : Nat
  group : Nat
  counted : Bool
  deriving DecidableEq, Repr

/-- The phase of a homing (R238). -/
inductive Homing where
  | none | search | stopping | backOff
  deriving DecidableEq, Repr

/-- Profile, homing and stepper state of an axis (R214 to R241, R483). -/
structure Prof where
  running : Bool
  waiting : Bool
  base : Int
  a0 : Nat
  r0 : Int
  v0 : Int
  seg : Nat
  segStart : Int
  p0 : Int
  sv0 : Int
  ramp : Bool
  rampDec : Int
  rampFrom : Nat
  refApply : Nat
  r : Int
  v : Int
  acc : Int
  bank : Nat
  group : Option Nat
  grpDelta : Int
  planDec : Option Int
  grpStopping : Bool
  homing : Homing
  homePos : Bool
  homeDev : Nat
  homeTravel : Int
  homeZero : Int
  pStall : Int
  homed : Bool
  homeFail : Bool
  strong : Bool
  loss : Bool
  grpStopped : Bool
  dirAdj : Bool
  stepDev : Int
  lossCnt : Nat
  stepLate : Nat
  stepOfs : Int
  direct : Sparse (Option (Int × Int))
  directLast : Option (Int × Int)
  directMiss : Nat
  directLate : Nat
  motionCtx : Option CmdCtx
  motionOp : Nat
  ended : Bool
  planAt : Option Nat
  coef : PowerCoef
  deriving DecidableEq, Repr

def Prof.reset : Prof :=
  { running := false, waiting := false, base := 0, a0 := 0, r0 := 0, v0 := 0, seg := 0xFFFF, segStart := 0, p0 := 0, sv0 := 0,
    ramp := false, rampDec := 0, rampFrom := 0, refApply := 0, r := 0, v := 0, acc := 0, bank := 0, group := none,
    grpDelta := 0, planDec := none, grpStopping := false, homing := .none, homePos := false, homeDev := 0, homeTravel := 0, homeZero := 0, pStall := 0,
    homed := false, homeFail := false, strong := false, loss := false, grpStopped := false, dirAdj := false, stepDev := 0,
    lossCnt := 0, stepLate := 0, stepOfs := 0, direct := [], directLast := none, directMiss := 0, directLate := 0,
    motionCtx := none, motionOp := 0, ended := false, planAt := none, coef := ⟨0, 0⟩ }

/-- Task readings of an axis or the line master (Table ENG-21). -/
structure TaskSt where
  cycles : Nat
  maxCycles : Nat
  overruns : Nat
  faults : Nat
  lastEngine : Nat
  costRaised : Bool
  doneCycle : Option Nat
  released : Option Nat
  deriving DecidableEq, Repr

def TaskSt.reset : TaskSt :=
  { cycles := 0, maxCycles := 0, overruns := 0, faults := 0, lastEngine := 0, costRaised := false, doneCycle := none,
    released := none }

/-- One axis. -/
structure Axis where
  obs : Observer
  fbk : FbkLast
  life : Life
  law : LawSt
  prof : Prof
  task : TaskSt
  req : Option Request
  dmaxHit : Bool
  span : Option Span
  deriving DecidableEq, Repr

def Axis.reset : Axis :=
  { obs := .reset, fbk := .reset, life := .reset, law := .reset, prof := .reset, task := .reset, req := none, dmaxHit := false, span := none }

/-- The levels of the four output pins of a step port (Table PRO-4). -/
structure StepPins where
  step : Bool
  dir : Bool
  en : Bool
  mode : Bool
  deriving DecidableEq, Repr

/-- A local step port (R235, R236): pins, the queue of 16 entries, and the step generator. Positions are in
2^-32 microstep. -/
structure StepPort where
  step : Bool
  dir : Bool
  en : Bool
  mode : Bool
  flt : Bool
  enTick : Option Nat
  torqueOn : Bool
  queue : List RefEntry
  cur : Option RefEntry
  curTick : Nat
  p0 : Int
  v0 : Int
  p1 : Int
  v1 : Int
  pos : Int
  emitted : Int
  pulseEnd : Nat
  nextStep : Nat
  dirReady : Nat
  strongWanted : Bool
  aged : Bool
  driven : Bool
  pins : Option StepPins
  deriving DecidableEq, Repr

def StepPort.reset : StepPort :=
  { step := false, dir := false, en := false, mode := false, flt := false, enTick := none, torqueOn := false, queue := [],
    cur := none, curTick := 0, p0 := 0, v0 := 0, p1 := 0, v1 := 0, pos := 0, emitted := 0, pulseEnd := 0, nextStep := 0,
    dirReady := 0, strongWanted := false, aged := false, driven := false, pins := none }

/-- The line values of one cycle, which every task of that cycle reads (R155, R242): the filtered position and the line position L, both
L48, v̂ and â. -/
structure LineAt where
  cycle : Nat
  filtered : Int
  pos : Int
  vel : Int
  acc : Int
  deriving DecidableEq, Repr

/-- The line master (R242 to R246, R266); `remoteObs`, `remoteCycle`: its observer at the last measurement instant of a remote primary, and that sample's
cycle (R243). -/
structure LineSt where
  past : List LineAt
  obs : Observer
  task : TaskSt
  valid : Bool
  onB : Bool
  disagree : Bool
  switched : Bool
  lost : Bool
  lostCause : Nat
  disc : Int
  discRun : Nat
  ofs : Int
  ofsSet : Bool
  noCount : Nat
  switchBack : Bool
  taskFault : Bool
  primaryFault : Bool
  newCount : Bool
  remote : FbkLast
  remoteObs : Observer
  remoteCycle : Nat
  everValid : Bool
  hist : Sparse Int
  deriving DecidableEq, Repr

def LineSt.reset : LineSt :=
  { obs := .reset, task := .reset, valid := false, onB := false, disagree := false, switched := false, lost := false,
    lostCause := 0, disc := 0, discRun := 0, ofs := 0, ofsSet := false, noCount := 0, switchBack := false,
    taskFault := false, primaryFault := false, newCount := false, remote := .reset, remoteObs := .reset, remoteCycle := 0, everValid := false,
    hist := [], past := [] }

/-- Table RUN-3. -/
inductive MoveState where
  | armed | dispatched | committed | done | held | missed
  deriving DecidableEq, Repr

/-- A live move-list entry (R249 to R253, R261, R510).  Times are served times in ns.  `waitTrigger` and `nearSeen`: a
re-armed REPEAT entry waits for the line to reach its trigger; `heldStop`, `blind`: held by a stop, held while the line was
lost; `due`: the exchange in which the record is to leave; `exchanges`: the node's exchanges since the fire time; `deferrals`:
how often the Arbiter has deferred the start; `heldBack`: a step held it back (R405); `watch`: taken
over COMMITTED at a hand-over; `requested`: its start has been put to the Arbiter; `blocked`: the limit of 1024 has kept it
ARMED, which counts in DISP_LATE once (R254). -/
structure MoveItem where
  e : MoveEntry
  state : MoveState
  ts : Int
  tf : Option Int
  resid : Int
  passed : Bool
  waitTrigger : Bool
  nearSeen : Bool
  heldStop : Bool
  blind : Bool
  due : Option Nat
  sent : Bool
  exchanges : Nat
  deferrals : Nat
  watch : Bool
  requested : Bool
  heldBack : Bool
  blocked : Bool
  deriving DecidableEq, Repr

/-- A MOV_ADD whose accepted entries wait for their boundary (R451), with the status of every entry. -/
structure MovWait where
  ctx : CmdCtx
  items : List MoveItem
  statuses : List Nat
  cycle : Nat
  deriving DecidableEq, Repr

/-- A capture that waits for the task of sample `sample` (Table RUN-2): the fire time and L there. -/
structure Capture where
  seq : BitVec 32
  axis : Nat
  fire : Int
  pos : Int
  sample : Nat
  deriving DecidableEq, Repr

/-- The move list and its readings (R247 to R267); `stopMask`: the groups whose stop has withdrawn its entries (R261). -/
structure MoveList where
  items : List MoveItem
  waiting : List MovWait
  captures : List Capture
  stopMask : Nat
  missedAny : Bool
  dispatchedCnt : Nat
  retimeCnt : Nat
  cancelCnt : Nat
  dispLate : Nat
  cancelLate : Nat
  residMax : Nat
  missedCnt : Nat
  flushLost : Nat
  deriving DecidableEq, Repr

def MoveList.reset : MoveList :=
  { items := [], waiting := [], captures := [], stopMask := 0, missedAny := false, dispatchedCnt := 0, retimeCnt := 0, cancelCnt := 0,
    dispLate := 0, cancelLate := 0, residMax := 0, missedCnt := 0, flushLost := 0 }

/-- One power group (R277, R280, R289): E in nJ, P_run in W; `release`, `charge` in W and µJ wait for the next seal. -/
structure PowerGroup where
  e : Int
  pRun : Nat
  dmax : Bool
  blocked : Bool
  deferrals : Nat
  release : Nat
  charge : Nat
  deriving DecidableEq, Repr

def PowerGroup.reset : PowerGroup :=
  { e := 0, pRun := 0, dmax := false, blocked := false, deferrals := 0, release := 0, charge := 0 }

/-- A budget write of ARB_BUDGET_SET waiting for its seal (R287). -/
structure BudgetWrite where
  ctx : CmdCtx
  which : Nat
  values : List Nat
  deriving DecidableEq, Repr

/-- The heat side of the Arbiter (R268 to R276, R289, R290) and the waiting budget writes. -/
structure Arbiter where
  nextTick : Nat
  mask : Nat
  level : Nat
  inForce : Nat
  relax : Nat
  overHeat : Bool
  sensorFault : Bool
  exhausted : Bool
  lastExhausted : Option Nat
  temps : List Int
  valid : BitVec 8
  judged : Bool
  pEst : Nat
  tMax : Int
  budget : List BudgetWrite
  queues : Sparse (List (Nat × Nat × Nat))
  deriving DecidableEq, Repr

def Arbiter.reset : Arbiter :=
  { nextTick := 0, mask := 0x1F, level := 0, inForce := 0, relax := 0, overHeat := false, sensorFault := false, exhausted := false, lastExhausted := none,
    temps := [], valid := 0, judged := false, pEst := 0, tMax := 0, budget := [], queues := [] }

end Sys2Proof.Machine
end

