-- ==== Sys2Proof/Machine/StateEngine.lean ====
section
/-! DEFINITION. State of the control engines and the shared engine memories (spec/05_control_engines.md).
Every field's default is its reset value. -/

namespace Sys2Proof.Machine

/-- An accumulator with its wrap counter (Table ENG-1, R158): the 104-bit register, W, LOST, and the direction of the
wrap that was lost (`lostUp`). -/
structure Acc where
  reg : BitVec 104 := 0
  w : Int := 0
  lost : Bool := false
  lostUp : Bool := false
  deriving DecidableEq, Repr

/-- An active loop (R164): its counter, the body from `first` to `last`. -/
structure LoopRec where
  lc : Fin 2
  first : BitVec 13
  last : BitVec 13
  deriving DecidableEq, Repr

/-- A task that is ready for an engine (R18, R19, R94): its cycle k, the sample's cycle n, whether it carries a new
count or frame, and the reading that its feedback window takes. -/
structure ReadyTask where
  owner : Owner
  cycle : Nat
  sample : Nat
  isNew : Bool
  win : List Word48
  deriving DecidableEq, Repr

/-- The task that an engine runs; `start` is the core tick of its start. -/
structure Running where
  owner : Owner
  cycle : Nat
  apply : Nat
  cycles : Nat
  start : Nat
  arith : Bool
  library : Bool
  written : List (Nat × Word48)
  deriving DecidableEq, Repr

/-- One control engine: the registers of Table ENG-1, its private memories and windows (Table ENG-4), ENG_STATUS
(Table ENG-20) and its readings (Table ENG-21). -/
structure Engine where
  x : Sparse Word48 := []
  acc : Sparse Acc := []
  a : Sparse (BitVec 20) := []
  o : Sparse (BitVec 20) := []
  lc : Sparse (BitVec 16) := []
  scl : Sparse (BitVec 6) := []
  flags : BitVec 16 := 0
  pc : BitVec 13 := 0
  stores : List (Nat × Word48) := []
  ret : List (BitVec 13) := []
  loops : List LoopRec := []
  scratch : Sparse Word48 := []
  scratchCtr : Nat := 0
  consts : Sparse Word48 := []
  prog : Sparse (BitVec 64) := []
  taskWin : Sparse Word48 := []
  fbWin : Sparse Word48 := []
  outWin : Sparse Word48 := []
  task : Option Running := none
  inService : Bool := false
  rotated : Bool := false
  failed : Bool := false
  eccCorr : Bool := false
  eccUnc : Bool := false
  illegal : Bool := false
  addrFault : Bool := false
  arith : Bool := false
  watchdog : Bool := false
  lastTask : Nat := 0
  busyCycles : Nat := 0
  busyNow : Nat := 0
  cycBusy : Nat := 0
  tasks : Nat := 0
  bankStalls : Nat := 0
  rotWait : Bool := false
  rotStart : Nat := 0
  testDue : Option Nat := none
  deriving DecidableEq, Repr

def Engine.reset : Engine := {}

/-- A PRO_SEG_WRITE that waits for its boundary (R218). -/
structure SegWrite where
  ctx : CmdCtx
  first : Nat
  segs : List PvtSeg
  cycle : Nat
  deriving DecidableEq, Repr

/-- The engines, the dispatcher and the shared memories of Table ENG-4. -/
structure EngineSpace where
  eng : Sparse Engine := []
  ready : List ReadyTask := []
  lineDone : Option Nat := none
  lineBlock : Sparse Word48 := []
  context : Sparse Word48 := []
  pool : Sparse Word48 := []
  segPool : Sparse Word48 := []
  segWritten : List Nat := []
  segWaiting : List SegWrite := []
  trains : Sparse (List RefEntry) := []
  digests : Sparse (BitVec 32) := []
  deriving DecidableEq, Repr

def EngineSpace.reset : EngineSpace := {}

end Sys2Proof.Machine
end

