-- ==== Sys2Proof/Machine/StateSafety.lean ====
section
/-! DEFINITION. State of the two safety channels, the stop groups and Endgame mode (spec/10_safety.md).
Every field's default is its reset value. -/

namespace Sys2Proof.Machine

/-- A stop group as one channel keeps it (R296, R297, R305): its state code of Table SAF-2, the cause of its last move
out of NORMAL, and the SS1 monitor, in ns of the channel's own time base. -/
structure ChGroup where
  code : Nat := 2
  cause : Nat := 0
  ss1Start : Option Int := none
  confirmed : Bool := false
  still : Bool := false
  stoAt : Int := 0
  lastDemand : Option Nat := none
  deriving DecidableEq, Repr

def ChGroup.reset : ChGroup := {}

/-- What one channel keeps of one axis (R305 to R308). Speeds are in µm/s (log 13); `belowRun` counts channel P's cycles and
`belowSince` is the arrival of channel H's first estimate of the run. -/
structure AxMon where
  v0 : Int := 0
  v : Int := 0
  belowRun : Nat := 0
  belowSince : Option Int := none
  confirmed : Bool := false
  lastSeq : Option Nat := none
  lastValid : Nat := 0
  lastArrival : Nat := 0
  lastCount : Option (Nat × Nat) := none
  vH : Option Int := none
  vHOk : Bool := false
  discSince : Option Nat := none
  raws : Sparse (Option Int) := []
  invalidRun : Nat := 0
  lost : Bool := false
  wd : Bool := false
  seen : Bool := false
  deriving DecidableEq, Repr

def AxMon.reset : AxMon := {}

/-- A safety input pair as one channel reads it (R301, R302, R329). -/
structure PairSt where
  hist : List (Bool × Bool) := []
  a : Bool := false
  b : Bool := false
  rawA : Bool := false
  rawB : Bool := false
  latch : Bool := false
  sawDemand : Bool := false
  disagreeSince : Option Nat := none
  invalid : Bool := false
  deriving DecidableEq, Repr

def PairSt.reset : PairSt := {}

/-- One safety channel.  `lastWin` is when it took its last window of 125 µs (log 173), and `sectOk` is what it found of the safety section by
itself, its CRC and the ranges (R312). -/
structure Channel where
  ok : Bool := false
  paramOk : Bool := false
  groups : Sparse ChGroup := []
  axes : Sparse AxMon := []
  pairs : Sparse PairSt := []
  lastFrame : Nat := 0
  linkLost : Bool := false
  recover : Nat := 0
  ackHist : List Bool := []
  ackLevel : Bool := false
  ackRise : Option Int := none
  ackEdge : Option Int := none
  ackUsed : Bool := false
  outFault : List Nat := []
  lastSno : Option Nat := none
  lastWin : Option Nat := none
  sectOk : Bool := false
  paramsAt : Nat := 0
  deriving DecidableEq, Repr

def Channel.reset : Channel := {}

/-- The W1C flags of GRP_STATUS and its CAUSE, that of the first demand of the last move out of NORMAL (R298, Table SAF-9). -/
structure GrpFlags where
  envBreak : Bool := false
  tMax : Bool := false
  upLost : Bool := false
  fbDisc : Bool := false
  wdNode : Bool := false
  cause : Nat := 0
  deriving DecidableEq, Repr

def GrpFlags.reset : GrpFlags := {}

/-- Endgame mode (R317): entry time in core ticks, the speeds at entry, and the outputs dropped. -/
structure Endgame where
  entry : Nat
  next : Nat
  v0 : List (Nat × Int)
  confirmed : List Nat
  dropped : Bool
  deriving DecidableEq, Repr

/-- A section loaded by SAF_PARAM_LOAD that waits for its edge (R313). -/
structure PendingSection where
  items : List (Nat × Int)
  since : Int
  raw : List Byte
  deriving DecidableEq, Repr

/-- The part of a SAF frame that channel P seals (R293): its cycle, SEQ, the masks and P_FLAGS. -/
structure SealedPart where
  cycle : Nat
  seq : Nat
  sto : BitVec 32
  ss1 : BitVec 32
  flags : Byte
  arrived : Bool
  deriving DecidableEq, Repr

/-- Safety state of the device. -/
structure Safety where
  p : Channel := {}
  h : Channel := {}
  grpFlags : Sparse GrpFlags := []
  endgame : Option Endgame := none
  silent : Bool := false
  tempTrip : Bool := false
  tds : Int := 0
  twinBit : Bool := false
  twinBitCycle : Nat := 0
  sealed : Option SealedPart := none
  hSto : BitVec 32 := 0
  hSs1 : BitVec 32 := 0
  islandSeq : Option Nat := none
  reported : Option Nat := none
  reportTick : Nat := 0
  missRun : Nat := 0
  injected : Sparse (List Byte) := []
  tapRun : Sparse (Nat × Nat) := []
  tapSeq : Option Nat := none
  pendingSec : Option PendingSection := none
  demandWait : List CmdCtx := []
  pMiss : Nat := 0
  upCrc : Nat := 0
  upSeq : Nat := 0
  ackBad : Nat := 0
  ackBadAt : Option Int := none
  demands : Nat := 0
  hsafe0 : Bool := false
  hsafe1 : Bool := false
  hsafeTick : Nat := 0
  islandRunning : Bool := false
  islandLost : Bool := false
  stopAllAt : Option Nat := none
  readback : Sparse (Nat × Nat) := []
  deriving DecidableEq, Repr

def Safety.reset : Safety := {}

end Sys2Proof.Machine
end

