-- ==== Sys2Proof/Machine/StateField.lean ====
section
/-! DEFINITION. State of the field die, the barrier links and the control die's image of them
(spec/11_field_io.md). Every field's default is its reset value. -/

namespace Sys2Proof.Machine

/-- A timed order (R338, Table FLD-4): TAG, LEVEL, FQ index, and the fire time in core ticks (31.25 ns ticks of the
die's oscillator count as 31.25 ns). -/
structure Order where
  tag : Nat
  level : Bool
  fq : Nat
  fire : Nat
  deriving DecidableEq, Repr

/-- One field output in the die (R330 to R345); `holdOrder` is the TAG of the timed on order that is held (R332). -/
structure Fq where
  on : Bool := false
  permit : Bool := false
  driven : Bool := false
  overload : Bool := false
  therm : Bool := false
  demag : Bool := false
  demagStart : Nat := 0
  demagLong : Bool := false
  shortVf : Bool := false
  wired : Bool := false
  latch : Bool := false
  partner : Nat := 0
  pulse : Option Nat := none
  pulseJudge : Bool := false
  pulseNext : Nat := 0
  readback : Bool := false
  rbRun : Nat := 0
  rbLast : Bool := false
  safe : Bool := false
  safeOn : Bool := false
  offLatch : Bool := false
  holdOrder : Option Nat := none
  disagreeSince : Option Nat := none
  disagreeTold : Bool := false
  deriving DecidableEq, Repr

def Fq.reset : Fq := {}

/-- The field die. Voltages are in 0.1 V; the periods of the tests count from `bootTick`, when the die left reset (R328, R334). -/
structure FieldDie where
  running : Bool := false
  restarted : Bool := false
  level : BitVec 16 := 0
  sno : Nat := 0
  test : Bool := false
  tpSrc : Bool := false
  winNext : Nat := 0
  winNextS : Nat := 0
  invalid : Bool := false
  fq : Sparse Fq := []
  orders : List Order := []
  orderAck : Nat := 0
  vf : Nat := 0
  vqa : Nat := 0
  vqb : Nat := 0
  warn : Bool := false
  warnRun : Nat := 0
  warnClr : Nat := 0
  low : Bool := false
  lowRun : Nat := 0
  lowClr : Nat := 0
  offRunA : Nat := 0
  offRunB : Nat := 0
  aboveA : Option Nat := none
  aboveB : Option Nat := none
  restartOkA : Bool := false
  restartOkB : Bool := false
  wd : Bool := false
  wdAt : Nat := 0
  lastM : Nat := 0
  lastH : Nat := 0
  ftpEn : Bool := false
  ftp0 : Bool := false
  ftp1 : Bool := false
  tpNext0 : Nat := 0
  tpNext1 : Nat := 0
  tpEnd0 : Nat := 0
  tpEnd1 : Nat := 0
  frameStart : Nat := 0
  seqM : Nat := 0
  seqH : Nat := 0
  rxSeqM : Option Nat := none
  rxSeqH : Option Nat := none
  epochM : BitVec 4 := 0
  epochH : BitVec 4 := 0
  config : Sparse Nat := []
  orderPrev : List Nat := []
  zeroM : Bool := false
  zeroH : Bool := false
  bootTick : Nat := 0
  deriving DecidableEq, Repr

def FieldDie.reset : FieldDie := {}

/-- An order of the control die for the field die (R338): what to send and how often it has been sent. -/
structure OutOrder where
  seq : Nat
  op : Nat
  level : Bool
  fq : Nat
  fire : Int
  sent : Nat
  deriving DecidableEq, Repr

/-- A FLD_OUT_SET that waits for its boundary (R453). -/
structure OutWait where
  ctx : CmdCtx
  mask : BitVec 8
  levels : BitVec 8
  deriving DecidableEq, Repr

/-- The control die's side and channel H's side of the barrier.  `winM` is when the last FI_PERIOD window was taken (log 173); `mGaps` and
`hGaps` count the SEQ gaps of both directions (R344). -/
structure FieldCtl where
  cmd : BitVec 8 := 0
  held : Sparse (Option CmdCtx) := []
  outWait : List OutWait := []
  orders : List OutOrder := []
  clr : Option (Nat × Nat) := none
  restart : Nat := 0
  zeroM : Bool := false
  zeroH : Bool := false
  cfgQueue : List (Nat × Nat) := []
  sendAck : Bool := false
  ftpEn : Bool := false
  seqM : Nat := 0
  seqH : Nat := 0
  epochM : BitVec 4 := 0
  epochH : BitVec 4 := 0
  rxSeqM : Option Nat := none
  rxSeqH : Option Nat := none
  lastM : Option Nat := none
  lastH : Option Nat := none
  lastUp : List Byte := []
  up : List Byte := []
  filt : Sparse (Bool × Nat × Int) := []
  fiLevels : BitVec 16 := 0
  fiStamp : Sparse Int := []
  fieldRestarted : Bool := false
  wdExpired : Bool := false
  tpFail : Bool := false
  shortVf : BitVec 8 := 0
  demagLong : BitVec 8 := 0
  mErrs : Nat := 0
  hErrs : Nat := 0
  orderLate : Nat := 0
  orderLost : Nat := 0
  opPulses : Nat := 0
  nextM : Nat := 0
  seenRestarted : Bool := false
  snoM : Option Nat := none
  winM : Option Nat := none
  mGaps : Nat := 0
  hGaps : Nat := 0
  latchPrev : BitVec 8 := 0
  shortPrev : BitVec 8 := 0
  wiredPrev : BitVec 8 := 0
  deriving DecidableEq, Repr

def FieldCtl.reset : FieldCtl := {}

end Sys2Proof.Machine
end

