-- ==== Sys2Proof/Machine/StateTwin.lean ====
section
/-! DEFINITION. State of twin operation (spec/12_twin_operation.md). Every field's default is its reset value. -/

namespace Sys2Proof.Machine

/-- A mismatch test (R364): the owner, the cycle of the mismatch, the engine that ran the task here, and the outcomes. -/
structure MisTest where
  owner : Owner
  cycle : Nat
  engine : EngIx
  started : Bool
  own : Option Bool
  peer : Option Bool
  deriving DecidableEq, Repr

/-- A hand-over whose first cycle is fixed (R366). -/
structure Swap where
  h : Nat
  reason : Nat
  outgoing : Bool
  ctx : Option CmdCtx
  deriving DecidableEq, Repr

/-- A state-changing command that the on-move chip has logged (R357): its log position and whether it is acknowledged. -/
structure LogEntry where
  pos : Nat
  slot : SlotIx
  seq : BitVec 16
  opcode : Nat
  cycle : Nat
  acked : Bool
  deriving DecidableEq, Repr

structure Twin where
  onMove : Bool := false
  standby : Bool := false
  lane0 : Bool := false
  lane1 : Bool := false
  lastMsg : Nat := 0
  txHealth : Nat := 0
  epoch : BitVec 4 := 0
  zero : Bool := false
  peerHealthy : Bool := false
  peerSynced : Bool := false
  peerOnMove : Bool := false
  peerKey : BitVec 64 := 0
  peerEngines : BitVec 8 := 0
  peerHashes : List (BitVec 64) := []
  peerSerial : BitVec 48 := 0
  peerFlags : Byte := 0
  refused : Bool := false
  joining : Bool := false
  joinAt : Option Nat := none
  copies : List (Owner × Nat) := []
  outOfStep : List Owner := []
  cleanVerdicts : Nat := 0
  lastMatch : Bool := false
  synced : Bool := false
  split : Bool := false
  revertLock : Bool := false
  lastReason : Nat := 0
  reverts : List Nat := []
  healthySince : Option Nat := none
  swap : Option Swap := none
  hFlag : Option Nat := none
  missCycles : Nat := 0
  csfSeenA : List Nat := []
  logPos : Nat := 0
  logs : List LogEntry := []
  landed : List LogRec := []
  trimLog : Option Nat := none
  digOwn : Sparse (List (BitVec 32)) := []
  digPeer : Sparse (List (BitVec 32)) := []
  misTests : List MisTest := []
  ofsT : Sparse Int := []
  ofsTSet : List Nat := []
  fwdUntil : Option Nat := none
  cabDelay : Nat := 0
  digMismatch : Nat := 0
  axisCopies : Nat := 0
  handovers : Nat := 0
  logLate : Nat := 0
  linkErrs : Nat := 0
  deriving DecidableEq, Repr

def Twin.reset : Twin := {}

end Sys2Proof.Machine
end

