-- ==== Sys2Proof/Machine/StateScs.lean ====
section
/-! DEFINITION. State of the Scoresheet and of wall time (spec/13_scoresheet.md, spec/14_wall_time.md).
Every field's default is its reset value. -/

namespace Sys2Proof.Machine

/-- R387. -/
inductive ScsPhase where
  | idle | waitMaster | waitFire | post | done
  deriving DecidableEq, Repr

/-- One channel's ring (R383, R390, R392, R397): `samples` counts what has been kept since SCS_ARM (samples, or
intervals of a reduced channel), `count` the samples since the arm. -/
structure ScsChan where
  base : Nat := 0
  len : Nat := 0
  write : Nat := 0
  samples : Nat := 0
  capIdx : Nat := 0xFFFFFFFF
  preCnt : Nat := 0
  post : Nat := 0
  stopped : Bool := true
  rmin : Int := 0
  rmax : Int := 0
  rcount : Nat := 0
  last : Int := 0
  lastFresh : Bool := false
  deriving DecidableEq, Repr

def ScsChan.reset : ScsChan := {}

/-- One trigger unit (R385, R386): the excursion in progress and its sample counts. -/
structure TrigUnit where
  seen : Bool := false
  beyond : Bool := false
  beyondLow : Bool := false
  n : Nat := 0
  reached : Bool := false
  done : Bool := false
  edgeStamp : Int := 0
  fired : Bool := false
  fireStamp : Option Int := none
  deriving DecidableEq, Repr

def TrigUnit.reset : TrigUnit := {}

/-- An entry that waits for the write port (R384): its trace index and its 64 bits. -/
structure ScsWrite where
  rank : Nat
  index : Nat
  entry : BitVec 64
  deriving DecidableEq, Repr

structure Scs where
  phase : ScsPhase := .idle
  preShort : Bool := false
  gaps : Bool := false
  forced : Bool := false
  fireMask : Nat := 0
  first : Option Nat := none
  tick : Int := 0
  cycSample : Option (Int × Nat × List (Int × Bool)) := none
  sealCycle : Nat := 0
  trace : Sparse (BitVec 64) := []
  writes : List ScsWrite := []
  chans : Sparse ScsChan := []
  units : Sparse TrigUnit := []
  recs : Nat := 2
  forceCtx : Option CmdCtx := none
  armTick : Option Int := none
  capTick : Option Int := none
  pinLevel : BitVec 4 := 0
  pinOut : BitVec 4 := 0
  pinEnd : Sparse Nat := []
  armPending : Option CmdCtx := none
  portOvf : Nat := 0
  captures : Nat := 0
  gapRecs : Nat := 0
  fireOvf : Nat := 0
  deriving DecidableEq, Repr

def Scs.reset : Scs := {}

/-- Table TIM-1. -/
inductive ClockState where
  | free | locked | slew | holdover
  deriving DecidableEq, Repr

/-- A time source (R402 to R404). Offsets are in 0.1 ns, the rate in 2^-32; stamps are core ticks. -/
structure TimeSource where
  valid : Bool := false
  validSince : Nat := 0
  theta : Int := 0
  rate : Int := 0
  lastMeas : Option Int := none
  run : Nat := 0
  badRun : Nat := 0
  lastEdge : Option Int := none
  /-- The last edge of the PPS pin, taken or not (R506). -/
  pinAt : Option Int := none
  lastEdgeTick : Nat := 0
  bad : Nat := 0
  deriving DecidableEq, Repr

def TimeSource.reset : TimeSource := {}

/-- The PTP instance of a plant port (R401): its time transmitter, the last Sync, and the delay measurement. -/
structure PtpPort where
  transmitter : Option (Nat × BitVec 64) := none
  lastSync : Option Nat := none
  interval : Nat := 0
  waiting : Option (BitVec 16 × Int) := none
  t1 : Int := 0
  t2 : Int := 0
  reqSeq : BitVec 16 := 0
  reqTx : Option Int := none
  delay : Int := 0
  delayTick : Option Nat := none
  deriving DecidableEq, Repr

def PtpPort.reset : PtpPort := {}

/-- A step that awaits its boundary (R405, R409). -/
structure PendingStep where
  delta : Int
  ctx : Option CmdCtx
  deriving DecidableEq, Repr

/-- The wall-time readings as they stood at the last cycle boundary (R415): RATE and the two counters, and of each source its offset,
its rate and its count. -/
structure TimeRead where
  rate : Int := 0
  timeFaults : Nat := 0
  srcSwitches : Nat := 0
  sources : Sparse (Int × Int × Nat) := []
  deriving DecidableEq, Repr

def TimeRead.reset : TimeRead := {}

structure WallTime where
  sec : Nat := 0
  ns : Nat := 0
  frac : Nat := 0
  rate : Int := 0
  state : ClockState := .free
  timeValid : Bool := false
  step : Option PendingStep := none
  timeFault : Bool := false
  offsetHigh : Bool := false
  faultTold : Bool := false
  selected : Nat := 0
  switched : Bool := false
  slewDir : Int := 0
  sources : Sparse TimeSource := []
  ptp : Sparse PtpPort := []
  tod : Bool := false
  ppsOut : Bool := false
  ppsEnd : Nat := 0
  ppsSec : Nat := 0
  timeFaults : Nat := 0
  srcSwitches : Nat := 0
  read : TimeRead := {}
  deriving DecidableEq, Repr

def WallTime.reset : WallTime := {}

end Sys2Proof.Machine
end

