-- ==== Sys2Proof/Machine/StateHost.lean ====
section
/-! DEFINITION. State of the host interfaces, sessions, events, boot and service (spec/15_host_and_sessions.md,
spec/16_command_set.md, spec/17_startup_and_domains.md, spec/18_service_without_stopping.md).
Every field's default is its reset value. -/

namespace Sys2Proof.Machine

/-- The BAR0 registers of Table HST-3 that are not derived from other state. -/
structure Bar0 where
  hostCtrl : BitVec 32 := 0
  sqStopped : Bool := false
  sqBaseLo : BitVec 32 := 0
  sqBaseHi : BitVec 32 := 0
  sqSize : BitVec 32 := 16
  sqTail : BitVec 32 := 0
  sqHead : BitVec 32 := 0
  cqBaseLo : BitVec 32 := 0
  cqBaseHi : BitVec 32 := 0
  cqSize : BitVec 32 := 16
  cqHead : BitVec 32 := 0
  cqTail : BitVec 32 := 0
  eqBaseLo : BitVec 32 := 0
  eqBaseHi : BitVec 32 := 0
  eqSize : BitVec 32 := 64
  eqHead : BitVec 32 := 0
  eqTail : BitVec 32 := 0
  intStatus : BitVec 32 := 0
  intEnable : BitVec 32 := 0
  intCoal : BitVec 32 := 0
  msiMap : BitVec 32 := 0
  alertMask : BitVec 32 := 0x14
  sqQueue : List (List Byte) := []
  msiLast : Sparse (Option Nat) := []
  msiHeld : BitVec 4 := 0
  deriving DecidableEq, Repr

def Bar0.reset : Bar0 := {}

/-- A session slot's phase (R431). -/
inductive SesPhase where
  | free | challenged | opened
  deriving DecidableEq, Repr

/-- A reply held for resending (R421): the SEQ and the packet. -/
structure HeldReply where
  seq : BitVec 16
  bytes : List Byte
  deriving DecidableEq, Repr

/-- A session slot (R419 to R432, R457). -/
structure Session where
  phase : SesPhase := .free
  id : BitVec 32 := 0
  role : Nat := 0
  source : HostSource := .pcie
  nh : List Byte := []
  nd : List Byte := []
  key : List Byte := []
  lastSeq : BitVec 16 := 0
  replies : List HeldReply := []
  waiting : List (List Byte) := []
  evtClasses : BitVec 16 := 0
  evtSev : Nat := 0
  pushSeq : BitVec 16 := 0
  lastTick : Nat := 0
  partOp : Option Nat := none
  partSeq : BitVec 16 := 0
  partLen : Nat := 0
  partData : List Byte := []
  helloSeq : BitVec 16 := 0
  deriving DecidableEq, Repr

def Session.reset : Session := {}

/-- An entry of the lockout table (R435); times in core ticks, durations in s. -/
structure LockEntry where
  src : HostSource
  fails : Nat
  until_ : Option Nat
  duration : Nat
  lastFail : Nat
  deriving DecidableEq, Repr

/-- A queued parameter write (R444): the session's context, or none for a boot write. -/
structure ParWrite where
  ctx : CmdCtx
  id : Nat
  value : Int
  cycle : Nat
  deriving DecidableEq, Repr

/-- An event record (Table CMD-5), before its 64 bytes are formed. -/
structure Event where
  seq : BitVec 32
  code : Nat
  sev : Nat
  flags : Byte
  sec : Nat
  ns : Nat
  cycle : Nat
  inst : Nat
  status : Nat
  session : BitVec 32
  cmdSeq : BitVec 16
  opcode : Nat
  data : List Byte
  deriving DecidableEq, Repr

/-- A role key of the key store (R436). -/
structure KeyStore where
  keys : Sparse (List Byte) := []
  slots : List (Option KeySlot) := [none, none]
  default : Bool := false
  setMask : Nat := 0
  pendingSet : Option (CmdCtx × Nat × List Byte) := none
  deriving DecidableEq, Repr

/-- Sessions, transports, events.  `boundary` holds the commands with AT_BOUNDARY that wait for the next cycle boundary, in order (R418);
`atBoundary` is set only while they execute. -/
structure HostSt where
  bar0 : Bar0 := {}
  sessions : Sparse Session := []
  lock : List LockEntry := []
  keys : KeyStore := {}
  plantQueue : Sparse (List (List Byte)) := []
  fragDrop : Sparse Nat := []
  queueDrop : Sparse Nat := []
  tagFail : Nat := 0
  replays : Nat := 0
  proveFail : Nat := 0
  lockouts : Nat := 0
  evtLost : Nat := 0
  lostBefore : Bool := false
  evtSeq : BitVec 32 := 0
  history : List Event := []
  /-- The events decided so far at the cycle boundary that is being taken, newest first, which wait for their numbers (R457);
  none outside a cycle boundary. -/
  gathered : Option (List Event) := none
  parQueue : List ParWrite := []
  boundary : List (CmdCtx × Instr) := []
  atBoundary : Bool := false
  deriving DecidableEq, Repr

def HostSt.reset : HostSt := {}

/-- What the device knows of one bank (R463, R465). -/
structure Bank where
  valid : Bool := false
  readable : Bool := false
  imgSeq : Nat := 0
  hashes : List (BitVec 64) := []
  flash : Sparse Byte := []
  written : Bool := false
  deriving DecidableEq, Repr

def Bank.reset : Bank := {}

/-- A warm reset that follows its reply by 10 ms (Table CMD-3, SYS_RESET). -/
structure ResetDue where
  tick : Nat
  deriving DecidableEq, Repr

/-- Boot, straps, image banks and the network parameters that wait for an Opening. -/
structure BootSt where
  ready : Bool := false
  booting : Bool := true
  cause : Nat := 0
  bank : Option Nat := none
  fwVer : BitVec 32 := 0
  imgSeq : BitVec 32 := 0
  initSkipped : Nat := 0
  recovery : Bool := false
  bootsel : BitVec 2 := 0
  testEn : Bool := false
  twinPresent : Bool := false
  twinRole : Bool := false
  bankA : Bank := {}
  bankB : Bank := {}
  resetDue : Option ResetDue := none
  pendingNet : Sparse Int := []
  rotDue : Nat := 0
  rotNext : Nat := 0
  rotReq : Option Nat := none
  rotCtx : Option CmdCtx := none
  openCtx : Option CmdCtx := none
  flashWrite : Option (CmdCtx × Nat × Nat × List Byte) := none
  scrubNext : Nat := 0
  scrubCorr : Nat := 0
  scrubUnc : Nat := 0
  islandEpoch : BitVec 4 := 0
  deriving DecidableEq, Repr

def BootSt.reset : BootSt := {}

/-- The chip's place in the control cycle (R13, R25, R116); `trimNext` is a trim level that lands at the start of cycle `trimAt` or a later one
(R28, R276). -/
structure Cycle where
  cycle : Nat := 0
  running : Bool := false
  tEpoch : Int := 0
  dispatched : Bool := false
  sealedFor : Option Nat := none
  movePassed : Option Nat := none
  trim : Nat := 0
  trimNext : Option Nat := none
  trimAt : Nat := 0
  deriving DecidableEq, Repr

def Cycle.reset : Cycle := {}

end Sys2Proof.Machine
end

