-- ==== Sys2Proof/Machine/State.lean ====
section
/-! DEFINITION. The state of the device, the reasons a step can stop, and the state after reset. -/

namespace Sys2Proof.Machine

/-- Why a step faults.  No meaning of this model faults: every fault that the spec describes is an effect on State
(log 8), so the one constructor has no user; a stop of this kind would be safe. -/
inductive Fault where
  /-- Raised by nobody; safe. -/
  | unreachable
  deriving DecidableEq, Repr

/-- Why a step refuses a command. -/
inductive Refusal where
  /-- Raised by an arm of `exec` whose command has no meaning yet; safe. -/
  | notModelled (mnemonic : String)
  deriving DecidableEq, Repr

/-- The state of the device.  `pending`, `out` and `freeCtr` are the model's own fields (log 1, 3, 4); every table of
axes, ports, nodes and so on is a list of (index, value) pairs whose unlisted entries are at their reset value. -/
structure State where
  pending : List Instr
  out : List Output
  freeCtr : Nat
  coreTicks : Nat
  params : Sparse Int
  cyc : Cycle
  boot : BootSt
  ports : Sparse RingPort
  segs : Sparse Segment
  opening : Opening
  fbs : Sparse FbPort
  axes : Sparse Axis
  steps : Sparse StepPort
  line : LineSt
  moves : MoveList
  arb : Arbiter
  groups : Sparse PowerGroup
  eng : EngineSpace
  saf : Safety
  die : FieldDie
  fld : FieldCtl
  twin : Twin
  scs : Scs
  time : WallTime
  host : HostSt
  deriving DecidableEq, Repr

/-- The machine right after power-on reset (PORST_N), before the boot has run (R467): every field at its reset value,
every table and memory with nothing listed. -/
def State.reset : State :=
  { pending := [], out := [], freeCtr := 0, coreTicks := 0, params := [], cyc := {}, boot := {}, ports := [], segs := [],
    opening := .reset, fbs := [], axes := [], steps := [], line := .reset, moves := .reset, arb := .reset, groups := [],
    eng := {}, saf := {}, die := {}, fld := {}, twin := {}, scs := {}, time := {}, host := {} }

end Sys2Proof.Machine
end

