-- ==== Sys2Proof/Machine/Ops.lean ====
section
/-! DEFINITION. The named operations over State: tables, parameters, time, free values, outputs, interrupts, events and
replies. -/

namespace Sys2Proof.Machine

abbrev Result := Host.Outcome State Fault Refusal

/-! Tables. -/

def State.axis (s : State) (a : Nat) : Axis := sget (fun _ => Axis.reset) s.axes a
def State.setAxis (s : State) (a : Nat) (x : Axis) : State := { s with axes := sput (fun _ => Axis.reset) s.axes a x }
def State.modAxis (s : State) (a : Nat) (f : Axis → Axis) : State := s.setAxis a (f (s.axis a))

def State.port (s : State) (p : Nat) : RingPort := sget (fun _ => RingPort.reset) s.ports p
def State.setPort (s : State) (p : Nat) (x : RingPort) : State :=
  { s with ports := sput (fun _ => RingPort.reset) s.ports p x }
def State.modPort (s : State) (p : Nat) (f : RingPort → RingPort) : State := s.setPort p (f (s.port p))

def State.seg (s : State) (n : Nat) : Segment := sget (fun _ => Segment.reset) s.segs n
def State.setSeg (s : State) (n : Nat) (x : Segment) : State :=
  { s with segs := sput (fun _ => Segment.reset) s.segs n x }
def State.modSeg (s : State) (n : Nat) (f : Segment → Segment) : State := s.setSeg n (f (s.seg n))

def Segment.node (g : Segment) (i : Nat) : NodeSt := sget (fun _ => NodeSt.reset) g.nodes i
def Segment.setNode (g : Segment) (i : Nat) (x : NodeSt) : Segment :=
  { g with nodes := sput (fun _ => NodeSt.reset) g.nodes i x }
def State.modNode (s : State) (n i : Nat) (f : NodeSt → NodeSt) : State :=
  s.modSeg n (fun g => g.setNode i (f (g.node i)))

def State.fb (s : State) (n : Nat) : FbPort := sget (fun _ => FbPort.reset) s.fbs n
def State.setFb (s : State) (n : Nat) (x : FbPort) : State := { s with fbs := sput (fun _ => FbPort.reset) s.fbs n x }
def State.modFb (s : State) (n : Nat) (f : FbPort → FbPort) : State := s.setFb n (f (s.fb n))

def State.stepPort (s : State) (n : Nat) : StepPort := sget (fun _ => StepPort.reset) s.steps n
def State.setStep (s : State) (n : Nat) (x : StepPort) : State :=
  { s with steps := sput (fun _ => StepPort.reset) s.steps n x }
def State.modStep (s : State) (n : Nat) (f : StepPort → StepPort) : State := s.setStep n (f (s.stepPort n))

def State.pgroup (s : State) (g : Nat) : PowerGroup := sget (fun _ => PowerGroup.reset) s.groups g
def State.setPgroup (s : State) (g : Nat) (x : PowerGroup) : State :=
  { s with groups := sput (fun _ => PowerGroup.reset) s.groups g x }

def State.engine (s : State) (e : Nat) : Engine := sget (fun _ => Engine.reset) s.eng.eng e
def State.setEngine (s : State) (e : Nat) (x : Engine) : State :=
  { s with eng := { s.eng with eng := sput (fun _ => Engine.reset) s.eng.eng e x } }
def State.modEngine (s : State) (e : Nat) (f : Engine → Engine) : State := s.setEngine e (f (s.engine e))

def Channel.group (c : Channel) (g : Nat) : ChGroup := sget (fun _ => ChGroup.reset) c.groups g
def Channel.setGroup (c : Channel) (g : Nat) (x : ChGroup) : Channel :=
  { c with groups := sput (fun _ => ChGroup.reset) c.groups g x }
def Channel.mon (c : Channel) (a : Nat) : AxMon := sget (fun _ => AxMon.reset) c.axes a
def Channel.setMon (c : Channel) (a : Nat) (x : AxMon) : Channel :=
  { c with axes := sput (fun _ => AxMon.reset) c.axes a x }
def Channel.pair (c : Channel) (i : Nat) : PairSt := sget (fun _ => PairSt.reset) c.pairs i
def Channel.setPair (c : Channel) (i : Nat) (x : PairSt) : Channel :=
  { c with pairs := sput (fun _ => PairSt.reset) c.pairs i x }
def State.chan (s : State) : Chan → Channel
  | .p => s.saf.p
  | .h => s.saf.h
def State.setChan (s : State) (ch : Chan) (c : Channel) : State :=
  match ch with
  | .p => { s with saf := { s.saf with p := c } }
  | .h => { s with saf := { s.saf with h := c } }
def State.grpFlags (s : State) (g : Nat) : GrpFlags := sget (fun _ => GrpFlags.reset) s.saf.grpFlags g
def State.modGrpFlags (s : State) (g : Nat) (f : GrpFlags → GrpFlags) : State :=
  { s with saf := { s.saf with grpFlags := sput (fun _ => GrpFlags.reset) s.saf.grpFlags g (f (s.grpFlags g)) } }

def State.fq (s : State) (j : Nat) : Fq := sget (fun _ => Fq.reset) s.die.fq j
def State.setFq (s : State) (j : Nat) (x : Fq) : State :=
  { s with die := { s.die with fq := sput (fun _ => Fq.reset) s.die.fq j x } }
def State.modFq (s : State) (j : Nat) (f : Fq → Fq) : State := s.setFq j (f (s.fq j))

def State.source (s : State) (c : Nat) : TimeSource := sget (fun _ => TimeSource.reset) s.time.sources c
def State.setSource (s : State) (c : Nat) (x : TimeSource) : State :=
  { s with time := { s.time with sources := sput (fun _ => TimeSource.reset) s.time.sources c x } }
/-- The wall-time readings as they stand (R415). -/
def WallTime.readNow (t : WallTime) : TimeRead :=
  { rate := t.rate, timeFaults := t.timeFaults, srcSwitches := t.srcSwitches
    sources := [1, 2, 3, 4].foldl (fun m c =>
      let x := sget (fun _ => TimeSource.reset) t.sources c
      sput (fun _ => (0, 0, 0)) m c (x.theta, x.rate, x.bad)) [] }

def State.ptp (s : State) (d : Nat) : PtpPort := sget (fun _ => PtpPort.reset) s.time.ptp d
def State.setPtp (s : State) (d : Nat) (x : PtpPort) : State :=
  { s with time := { s.time with ptp := sput (fun _ => PtpPort.reset) s.time.ptp d x } }

def State.schan (s : State) (i : Nat) : ScsChan := sget (fun _ => ScsChan.reset) s.scs.chans i
def State.setSchan (s : State) (i : Nat) (x : ScsChan) : State :=
  { s with scs := { s.scs with chans := sput (fun _ => ScsChan.reset) s.scs.chans i x } }
def State.tunit (s : State) (u : Nat) : TrigUnit := sget (fun _ => TrigUnit.reset) s.scs.units u
def State.setTunit (s : State) (u : Nat) (x : TrigUnit) : State :=
  { s with scs := { s.scs with units := sput (fun _ => TrigUnit.reset) s.scs.units u x } }

def State.session (s : State) (i : Nat) : Session := sget (fun _ => Session.reset) s.host.sessions i
def State.setSession (s : State) (i : Nat) (x : Session) : State :=
  { s with host := { s.host with sessions := sput (fun _ => Session.reset) s.host.sessions i x } }
def State.modSession (s : State) (i : Nat) (f : Session → Session) : State := s.setSession i (f (s.session i))

/-! Parameters (R441). -/

/-- The value of instance i of the parameter whose first ID is `base`. -/
def State.par (s : State) (base i : Nat) : Int := sget paramDefault s.params (base + i * 4096)
def State.parN (s : State) (base i : Nat) : Nat := (s.par base i).toNat

/-- The levels of the output pins (Table PRO-4): STEP, DIR and EN by ST_POL; MODE is the applied mode, or under ST_MODE_PIN = 1 a 25 kHz
pulse train whose duty is ICUR in 65 535ths, counted on the core clock (log 170); high impedance while the port is not driven. -/
def StepPort.drivePins (p : StepPort) (pol modePin now : Nat) : StepPort :=
  let icur := match p.cur with
    | none => 0
    | some r => r.b.toNat % 65536
  let pwm := decide (now % 40000 * 65535 < icur * 40000)
  let levels : StepPins :=
    { step := p.step != nbit pol 0, dir := p.dir != nbit pol 1, en := p.en != nbit pol 2, mode := if modePin = 1 then pwm else p.mode }
  { p with pins := if p.driven then some levels else none }

/-- A step port with its pins at their levels. -/
def State.putStep (s : State) (n : Nat) (p : StepPort) : State :=
  s.setStep n (p.drivePins (s.parN 0x04200004 n) (s.parN 0x04200005 n) s.coreTicks)

/-- A step port changes, and its pins follow. -/
def State.driveStep (s : State) (n : Nat) (f : StepPort → StepPort) : State := s.putStep n (f (s.stepPort n))
def State.setPar (s : State) (id : Nat) (v : Int) : State := { s with params := sput paramDefault s.params id v }

/-- The line master's instance (R146). -/
def lineInst : Nat := 0x110

def ownerInst : Owner → Nat
  | .axis a => a.val
  | .line => lineInst

/-! Time. -/

/-- Served time in whole ns (R398). -/
def State.now (s : State) : Int := s.time.sec * 1000000000 + s.time.ns

/-- Served time in 0.1 ns. -/
def State.now10 (s : State) : Int := s.now * 10 + s.time.frac * 10 / 4294967296

/-- The cycle period T in ns (Table SLT-1). -/
def periodOf (code : Nat) : Nat :=
  match code with
  | 0 => 125000
  | 1 => 100000
  | 2 => 62500
  | 3 => 50000
  | 4 => 40000
  | _ => 31250

def State.period (s : State) : Nat := periodOf (s.parN 0x07300001 0)

/-- The start of cycle k in served ns (R13). -/
def State.tCycle (s : State) (k : Nat) : Int := s.cyc.tEpoch + k * s.period

/-- The served clock after one tick of the 1 GHz core clock (R399): ADDEND = 2^32 + R is added in units of 2^-32 ns. -/
def WallTime.tick (t : WallTime) : WallTime :=
  let f := (t.frac : Int) + 4294967296 + t.rate
  let ns := t.ns + (f / 4294967296).toNat
  { t with
    frac := (f % 4294967296).toNat
    ns := if ns ≥ 1000000000 then ns - 1000000000 else ns
    sec := if ns ≥ 1000000000 then (t.sec + 1) % 281474976710656 else t.sec }

/-- The number of the next cycle (R5): it wraps from 2^48 − 1 to 0. -/
def State.nextCycle (s : State) : Nat := if s.cyc.running then (s.cyc.cycle + 1) % 281474976710656 else 0

/-- What the block does while no command waits: one tick of the core clock passes (log 1). -/
def State.idleTick (s : State) : State := { s with coreTicks := s.coreTicks + 1, time := s.time.tick }

/-- A served time in ns as the ten bytes of a T80 (R4, R51). -/
def t80Bytes (t : Int) : List Byte := be 6 (t.toNat / 1000000000) ++ be 4 (t.toNat % 1000000000)

def t80ns (t : T80) : Int := t.sec.toNat * 1000000000 + t.ns.toNat

/-! Free values and outputs (log 3, 4). -/

/-- The state with n more free values used. -/
def State.useFree (s : State) (n : Nat) : State := { s with freeCtr := s.freeCtr + n }

/-- n random bytes of the state. -/
def State.random (s : State) (n : Nat) : List Byte := (List.range n).map (fun i => Config.randomByte (s.freeCtr + i))

/-- The state with one more output. -/
def State.put (s : State) (o : Output) : State := { s with out := if s.boot.testEn then s.out else o :: s.out }

/-! Interrupts (R426). -/

/-- The vector of cause i: MSI_MAP's, or 0 beyond the number allocated. -/
def State.msiVector (s : State) (i : Nat) : Nat :=
  let v := nbits s.host.bar0.msiMap.toNat (2 * i) 2
  if v < Config.msiVectors then v else 0

def State.modBar (s : State) (f : Bar0 → Bar0) : State := { s with host := { s.host with bar0 := f s.host.bar0 } }

/-- The last message of a vector. -/
def State.msiLast (s : State) (v : Nat) : Option Nat := sget (fun _ => none) s.host.bar0.msiLast v

/-- A message on a vector, now, or held until the gap of INT_COAL has passed. -/
def State.sendMsi (s : State) (v : Nat) : State :=
  let gap := nbits s.host.bar0.intCoal.toNat 0 16 * 1000
  let free := match s.msiLast v with
    | none => true
    | some t => decide (t + gap ≤ s.coreTicks)
  if free then
    (s.modBar (fun b => { b with msiLast := sput (fun _ => none) b.msiLast v (some s.coreTicks) })).put (.msi v)
  else s.modBar (fun b => { b with msiHeld := b.msiHeld ||| BitVec.ofNat 4 (2 ^ v) })

/-- Cause i of Table HST-4 becomes set. -/
def State.setInt (s : State) (i : Nat) : State :=
  let was := nbit s.host.bar0.intStatus.toNat i
  let s1 := s.modBar (fun b => { b with intStatus := b.intStatus ||| BitVec.ofNat 32 (2 ^ i) })
  if !was && nbit s.host.bar0.intEnable.toNat i then s1.sendMsi (s1.msiVector i) else s1

/-- ALERT_N is low while any selected INT_STATUS bit is set (R426). -/
def State.alertLow (s : State) : Bool := decide (s.host.bar0.intStatus &&& s.host.bar0.alertMask ≠ 0)

/-! Packets and replies (R416, R420, R421, R424, R428). -/

/-- A packet: header, TAG under the key, and parameters.  An empty key gives a TAG of zero. -/
def packet (opcode : Nat) (seq : BitVec 16) (session : BitVec 32) (flags : Nat) (key params : List Byte) : List Byte :=
  let head := [0x4A, 0x51] ++ be 2 opcode ++ be 2 seq.toNat ++ be 2 params.length ++ be 4 session.toNat ++ be 2 flags ++ [0, 0]
  let tag := if key = [] then List.replicate 16 0 else (hmac key (head ++ params)).take 16
  head ++ tag ++ params

/-- A reply on the completion ring: written at CQ_TAIL, which then advances (R424). -/
def State.ringReply (s : State) (bytes : List Byte) : State :=
  let b := s.host.bar0
  let size := b.cqSize.toNat
  let s1 := (s.put (.ringReply b.cqTail.toNat bytes)).modBar (fun b =>
    { b with cqTail := BitVec.ofNat 32 (if size = 0 then 0 else (b.cqTail.toNat + 1) % size) })
  s1.setInt 0

def State.sendTo (s : State) (dest : HostSource) (bytes : List Byte) : State :=
  match dest with
  | .pcie => s.ringReply bytes
  | _ => s.put (.reply dest bytes)

/-- FLAGS of a reply to the command: its own with REPLY set (R420). -/
def replyFlagsOf (c : CmdCtx) : Nat := 0x8000 + b2n c.atBoundary * 2 + b2n c.expert

/-- The reply to the command is sent and kept among the 16 most recent (R420, R421). -/
def State.replyRaw (s : State) (c : CmdCtx) (opcode flags status : Nat) (data : List Byte) : State :=
  let x := s.session c.slot.val
  let bytes := packet opcode c.seq x.id flags x.key (be 2 status ++ data)
  let s1 := s.sendTo x.source bytes
  s1.modSession c.slot.val (fun x =>
    { x with
      replies := (⟨c.seq, bytes⟩ :: x.replies).take 16
      waiting := x.waiting.filter (fun p => field p 4 2 != c.seq.toNat) })

def State.reply (s : State) (c : CmdCtx) (opcode status : Nat) (data : List Byte) : State :=
  s.replyRaw c opcode (replyFlagsOf c) status data

/-! Events (R456, R457). -/

/-- The 64 bytes of a record. -/
def Event.bytes (e : Event) : List Byte :=
  (be 4 e.seq.toNat ++ be 2 e.code ++ be 1 e.sev ++ [e.flags] ++ be 6 e.sec ++ be 4 e.ns ++ be 6 e.cycle ++ be 2 e.inst
    ++ be 2 e.status ++ be 4 e.session.toNat ++ be 2 e.cmdSeq.toNat ++ be 2 e.opcode
    ++ (e.data ++ List.replicate 28 0).take 28)

/-- The record goes to one session by EVT_PUSH. -/
def State.push (s : State) (i : Nat) (e : Event) : State :=
  let x := s.session i
  let s1 := s.put (.push x.source (packet 0x0100 x.pushSeq x.id 0 x.key e.bytes))
  s1.setSession i { x with pushSeq := x.pushSeq + 1 }

/-- Whether a session takes the record by EVT_PUSH: it is open over UDP, and its mask covers the record, or the record
reports the completion of its own command. -/
def Session.wants (x : Session) (e : Event) : Bool :=
  decide (x.phase = .opened) && decide (x.source ≠ .pcie) &&
    (nbit x.evtClasses.toNat (e.code / 256) && decide (x.evtSev ≤ e.sev) || (decide (e.code = 0x0100) && decide (x.id = e.session)))

def State.pushAll (s : State) (e : Event) : State :=
  (List.range 8).foldl (fun s i => if (s.session i).wants e then s.push i e else s) s

/-- The record goes to the event ring while EQ_EN is set (R425). -/
def State.ringEvent (s : State) (e : Event) : State :=
  let b := s.host.bar0
  if nbit b.hostCtrl.toNat 1 then
    let size := b.eqSize.toNat
    let next := if size = 0 then 0 else (b.eqTail.toNat + 1) % size
    if next = b.eqHead.toNat then
      ({ s with host := { s.host with evtLost := inc32 s.host.evtLost, lostBefore := true } }).setInt 2
    else
      ((s.put (.ringEvent b.eqTail.toNat e.bytes)).modBar (fun b => { b with eqTail := BitVec.ofNat 32 next })).setInt 1
  else s

/-- An event takes its number and is delivered (R456, R457). -/
def State.number (s : State) (d : Event) : State :=
  let e : Event :=
    { d with
      seq := s.host.evtSeq
      flags := BitVec.ofNat 8 (b2n s.twin.standby * 128 + b2n s.host.lostBefore * 64) }
  let s1 := { s with host := { s.host with evtSeq := s.host.evtSeq + 1, lostBefore := false
                                           history := (e :: s.host.history).take 256 } }
  let s2 := (s1.ringEvent e).pushAll e
  if e.sev = 2 then s2.setInt 4 else s2

/-- Whether event `d` comes before `e` among the events of one cycle boundary: ascending CODE, then INSTANCE (R457). -/
def Event.before (d e : Event) : Bool := decide (d.code < e.code) || (decide (d.code = e.code) && decide (d.inst < e.inst))

/-- An event in its place behind the events of its own CODE and INSTANCE. -/
def Event.insert (d : Event) : List Event → List Event
  | [] => [d]
  | e :: es => if d.before e then d :: e :: es else e :: d.insert es

/-- A cycle boundary begins to gather its events. -/
def State.gather (s : State) : State := { s with host := { s.host with gathered := some [] } }

/-- The events decided at a cycle boundary are numbered in ascending CODE, then in ascending INSTANCE (R457). -/
def State.numberAll (s : State) : State :=
  let es := (s.host.gathered.getD []).reverse.foldl (fun l e => e.insert l) []
  es.foldl State.number { s with host := { s.host with gathered := none } }

/-- A record is formed; it is numbered and delivered at once, or, while a cycle boundary gathers its events, at the end of
that boundary (R457, log 178). -/
def State.record (s : State) (code sev inst status : Nat) (cmd : Option (CmdCtx × Nat)) (data : List Byte) : State :=
  let ses := match cmd with
    | none => 0
    | some (c, _) => (s.session c.slot.val).id
  let e : Event :=
    { seq := 0, code := code, sev := sev, flags := 0, sec := s.time.sec, ns := s.time.ns, cycle := s.cyc.cycle, inst := inst, status := status, session := ses
      cmdSeq := match cmd with
        | none => 0
        | some (c, _) => c.seq
      opcode := match cmd with
        | none => 0
        | some (_, o) => o
      data := data }
  match s.host.gathered with
  | some es => { s with host := { s.host with gathered := some (e :: es) } }
  | none => s.number e

/-- An event of Table CMD-6. -/
def State.raise (s : State) (code sev inst : Nat) (data : List Byte) : State := s.record code sev inst 0 none data

/-- COMMAND_DONE (0x0100) of a command whose reply was ACCEPTED (R420, R448); a standby's commands come from the log, and the
on-move chip reports them (R357). -/
def State.cmdDone (s : State) (c : CmdCtx) (opcode inst status : Nat) (data : List Byte) : State :=
  if s.twin.standby then s else s.record 0x0100 0 inst status (some (c, opcode)) data

/-- The completion of an optional command. -/
def State.cmdDone? (s : State) (c : Option CmdCtx) (opcode inst status : Nat) : State :=
  match c with
  | none => s
  | some c => s.cmdDone c opcode inst status []

/-! Outcomes of commands. -/

/-- A guard of an event row: the event happens only in states in which the spec lets it; elsewhere nothing changes
(log 2). -/
def whenB (b : Bool) (s s' : State) : Result := .next (if b then s' else s)

end Sys2Proof.Machine
end

