-- ==== Sys2Proof/Machine/SafetyOps.lean ====
section
/-! DEFINITION. Stop groups, demands, safety outputs, silence and Endgame mode as shared operations
(spec/10_safety.md R296 to R298, R314 to R318; spec/12_twin_operation.md R367). -/

namespace Sys2Proof.Machine

/-- Channel H's own time, in ns (Table SAF-1). -/
def State.hTime (s : State) : Int :=
  (s.coreTicks : Int) + s.coreTicks * clampI (-10000) 10000 Config.islandDrift / 10000000

/-- Channel P's time, in ns: head cycles (Table SAF-1). -/
def State.pTime (s : State) : Int := (s.cyc.cycle * s.period : Nat)

def State.chTime (s : State) : Chan → Int
  | .p => s.pTime
  | .h => s.hTime

/-- The axes whose SAF_GROUP names g (R305). -/
def State.groupAxes (s : State) (g : Nat) : List Nat :=
  (List.range 256).filter (fun a => decide (s.parN 0x08200001 a = g))

/-- The group state of GRP_STATUS: the harsher of the two channels (Table SAF-9). -/
def State.groupState (s : State) (g : Nat) : Nat := max (s.saf.p.group g).code (s.saf.h.group g).code

/-- A demand on a group in one channel (R296, R297): a demand on a group already in a harsher state changes nothing, and
a second SS1 demand does not restart the monitor. -/
def ChGroup.demand (x : ChGroup) (sto : Bool) (cause : Nat) (now : Int) (cycle : Nat) : ChGroup :=
  let x := { x with lastDemand := some cycle }
  if x.code = 2 then x
  else if sto then
    if x.code = 0 then { x with code := 2, stoAt := now, cause := cause, still := false } else { x with code := 2, stoAt := now }
  else if x.code = 0 then { x with code := 1, cause := cause, ss1Start := none, confirmed := false, still := false }
  else x

/-- The runs below V_STO of some axes start again. -/
def Channel.restartRuns (c : Channel) (axes : List Nat) : Channel :=
  axes.foldl (fun c a => c.setMon a { c.mon a with belowRun := 0, belowSince := none, confirmed := false }) c

/-- The event and the count of a group whose state changed (Table CMD-6 0x0801, Table SAF-10). -/
def State.groupChanged (s0 s : State) (g : Nat) : State :=
  let a := s0.groupState g
  let b := s.groupState g
  if a = b then s
  else
    let s1 := if a = 0 then { s with saf := { s.saf with demands := inc32 s.saf.demands } } else s
    s1.raise 0x0801 (if b = 2 then 2 else 1) g [BitVec.ofNat 8 b, BitVec.ofNat 8 (s.grpFlags g).cause]

/-- A demand for group g in channel ch (Table SAF-3).  The demand that moves the group out of NORMAL gives CAUSE (R298). -/
def State.demand (s : State) (ch : Chan) (g : Nat) (sto : Bool) (cause : Nat) : State :=
  let c := s.chan ch
  let c1 := if (c.group g).code = 0 then c.restartRuns (s.groupAxes g) else c
  let s1 := s.setChan ch (c1.setGroup g ((c.group g).demand sto cause (s.chTime ch) s.cyc.cycle))
  let s2 := if s.groupState g = 0 then s1.modGrpFlags g (fun f => { f with cause := cause }) else s1
  State.groupChanged s s2 g

/-- A demand for every group of a mask. -/
def State.demandMask (s : State) (ch : Chan) (mask : Nat) (sto : Bool) (cause : Nat) : State :=
  (List.range 32).foldl (fun s g => if nbit mask g then s.demand ch g sto cause else s) s

def allGroups : Nat := 0xFFFFFFFF

/-- Whether pair i is used (SI_MODE ≠ 0). -/
def State.pairUsed (s : State) (i : Nat) : Bool := decide (s.parN 0x08300001 i ≠ 0)

/-- Whether the two levels of pair i are its healthy levels (R301): both high in mode 1; high and low in mode 2. -/
def pairHealthy (mode : Nat) (a b : Bool) : Bool := if mode = 1 then a && b else a && !b

/-- Whether both levels are at the demand level (R302). -/
def pairBothDemand (mode : Nat) (a b : Bool) : Bool := if mode = 1 then !a && !b else !a && b

/-- Whether pair i is in demand in a channel (R301 to R303). -/
def State.pairDemand (s : State) (ch : Chan) (i : Nat) : Bool :=
  let c := s.chan ch
  let x := c.pair i
  s.pairUsed i && (c.linkLost || x.latch || x.invalid || !pairHealthy (s.parN 0x08300001 i) x.a x.b)

/-- Whether the speeds of an axis have disagreed for SAF_DISC_T (R307). -/
def State.discrepant (s : State) (a : Nat) : Bool :=
  match (s.saf.p.mon a).discSince with
  | none => false
  | some c => decide (s.parN 0x08200006 a * 1000000 ≤ (s.cyc.cycle - c) * s.period)

/-- Whether a demand source of Table SAF-3 is active for group g in a channel (R311). -/
def State.demandActive (s : State) (ch : Chan) (g : Nat) : Bool :=
  let c := s.chan ch
  !c.paramOk || s.saf.tempTrip || (decide (ch = .h) && s.saf.endgame.isSome)
  || (List.range 8).any (fun i => s.pairDemand ch i && nbit (s.parN 0x08300003 i) g)
  || (s.groupAxes g).any (fun a =>
      let m := c.mon a
      m.wd || (decide (s.parN 0x08200002 a = 1) && m.lost) || (decide (ch = .p) && s.discrepant a))
  || c.outFault.any (fun j => nbit (s.parN 0x08400001 j) g)

/-- Whether output j lies in a safety pair (R333: SO_GROUPS ≠ 0). -/
def State.safetyOut (s : State) (j : Nat) : Bool := decide (s.parN 0x08400001 (j / 2) ≠ 0)

/-- Whether a channel commands output pair j on (R318): while none of its groups is in STO, and with SO_DROP = 1 after
STO until standstill is confirmed or T_MAX has passed.  In Endgame mode channel H drops the pairs as R317 says. -/
def State.pairOn (s : State) (ch : Chan) (j : Nat) : Bool :=
  let c := s.chan ch
  let mask := s.parN 0x08400001 j
  let hold := decide (s.parN 0x08400002 j = 1)
  let groupsOk := (List.range 32).all (fun g =>
    !nbit mask g || decide ((c.group g).code ≠ 2) ||
      (hold && !(c.group g).still
        && decide (s.chTime ch < (c.group g).stoAt + (s.parN 0x08100005 g : Int) * 1000000)))
  match s.saf.endgame with
  | none => groupsOk && !s.saf.silent
  | some e => match ch with
    | .p => groupsOk
    | .h => hold && !e.dropped

/-- A local axis, by its count or by its step port; it cannot be monitored (R306). -/
def State.safLocal (s : State) (a : Nat) : Bool :=
  decide (s.parN 0x04000101 a ≤ 15) || (decide (s.parN 0x04000160 a = 1) && decide (s.parN 0x04000165 a ≤ 7))

/-- Whether an axis is monitored (SAF_MON = 1). -/
def State.monitored (s : State) (a : Nat) : Bool := decide (s.parN 0x08200002 a = 1)

/-- A port's transmit path idles; a frame in progress ends by error propagation (R60).  What of it has left is not told apart. -/
def State.idlePort (s : State) (p : Nat) : State :=
  if (s.port p).idle then s else (s.modPort p (fun x => { x with idle := true })).put (.abort ⟨p % 16, by omega⟩ [])

/-- The chip goes silent (R367): every ring port at electrical idle with the frame in progress ended by error
propagation, the step ports and SSI clocks released, test pulses off, every field output commanded off. -/
def State.goSilent (s : State) : State :=
  let s1 := (List.range 16).foldl (fun s p =>
    s.idlePort p) s
  let s2 := (List.range 8).foldl (fun s n => s.driveStep n (fun x => { x with driven := false, en := false, torqueOn := false })) s1
  let s3 := (List.range 16).foldl (fun s n => s.modFb n (fun x => { x with cDriven := false })) s2
  { s3 with
    fld := { s3.fld with cmd := 0, held := [] }
    saf := { s3.saf with silent := true, hsafe0 := false, hsafe1 := false }
    twin := { s3.twin with onMove := false, swap := none }
    cyc := { s3.cyc with running := false } }

/-- Endgame mode is entered (R317 steps 1 and 3): the control die's transmit paths idle, the local step ports disabled,
HSAFE_OK low, and every group stopped by channel H with cause 0x0C. -/
def State.enterEndgame (s : State) : State :=
  if s.saf.endgame.isSome || s.saf.silent then s
  else
    let s1 := (List.range 16).foldl (fun s p => s.idlePort p) s
    let s2 := (List.range 8).foldl (fun s n => s.driveStep n (fun x => { x with en := false, torqueOn := false })) s1
    let mons := (List.range 256).filter s2.monitored
    let e : Endgame :=
      { entry := s2.coreTicks, next := s2.coreTicks + s2.period
        v0 := mons.map (fun a => (a, Int.ofNat (s2.saf.h.mon a).v.natAbs)), confirmed := [], dropped := false }
    let s3 := { s2 with
      saf := { s2.saf with endgame := some e, hsafe0 := false, hsafe1 := false }
      cyc := { s2.cyc with running := false }
      twin := { s2.twin with onMove := false } }
    s3.demandMask .h allGroups true 0x0C

/-- A fatal fault of Table SAF-6 (R314, R315, R317): a standby goes silent; with the twin bit set the chip declares a
hand-over and goes silent; otherwise the island enters Endgame mode. -/
def State.fatal (s : State) (reason : Nat) : State :=
  if s.saf.endgame.isSome || s.saf.silent then s
  else if s.twin.standby then s.goSilent
  else if s.saf.twinBit then
    let s1 := (s.put (.twin (.declare reason s.cyc.cycle none))).goSilent
    { s1 with twin := { s1.twin with lastReason := reason, handovers := inc32 s1.twin.handovers } }
  else s.enterEndgame

/-- The number of engines in service. -/
def State.enginesInService (s : State) : Nat := ((List.range 8).filter (fun e => (s.engine e).inService)).length

/-- A segment is active when SEG_ENABLE enables it (Table SLT-2). -/
def State.segActive (s : State) (n : Nat) : Bool := nbit (s.parN 0x07300002 0) n

/-- The chip is healthy (R360). -/
def State.healthy (s : State) : Bool :=
  s.saf.p.ok && s.saf.h.ok && s.saf.p.paramOk && s.saf.h.paramOk && !s.saf.silent && s.saf.endgame.isNone
  && !s.saf.tempTrip && decide (7 ≤ s.enginesInService)
  && (List.range 8).all (fun n => !s.segActive n || ((s.port (2 * n)).link && (s.port (2 * n + 1)).link))
  && (match s.fld.lastM with
    | none => false
    | some t => decide (s.coreTicks < t + 62500))
  && (match s.fld.lastH with
    | none => false
    | some t => decide (s.coreTicks < t + 62500))

/-- The HEALTH output (R461): low from any reset until READY, then high while the chip is healthy; low in recovery, in Endgame mode and
while the chip is silent. -/
def State.healthPin (s : State) : Bool := s.boot.ready && !s.boot.recovery && s.healthy

end Sys2Proof.Machine
end

