-- ==== Sys2Proof/Machine/AxisOps.lean ====
section
/-! DEFINITION. The lifecycle of an axis as shared operations: faults, stops and their precedence
(spec/06_axes_and_control_laws.md R183 to R191), requests dropped (R283), groups stopped (R229). -/

namespace Sys2Proof.Machine

def State.modLife (s : State) (a : Nat) (f : Life → Life) : State := s.modAxis a (fun x => { x with life := f x.life })
def State.modProf (s : State) (a : Nat) (f : Prof → Prof) : State := s.modAxis a (fun x => { x with prof := f x.prof })
def State.modLaw (s : State) (a : Nat) (f : LawSt → LawSt) : State := s.modAxis a (fun x => { x with law := f x.law })
def State.modObs (s : State) (a : Nat) (f : Observer → Observer) : State := s.modAxis a (fun x => { x with obs := f x.obs })
def State.modTask (s : State) (a : Nat) (f : TaskSt → TaskSt) : State := s.modAxis a (fun x => { x with task := f x.task })

def State.axState (s : State) (a : Nat) : AxState := (s.axis a).life.state

/-- The axis index of the line master's remote source: the line master uses it, and it is no axis (R243). -/
def State.isLineAxis (s : State) (a : Nat) : Bool := decide (s.parN 0x04110101 0 = 0x80) && decide (s.parN 0x041101D1 0 = a)

/-- The state code of Table LAW-2. -/
def axCode : AxState → Nat
  | .disabled => 0
  | .enabling => 1
  | .ready => 2
  | .running => 3
  | .stopping => 4
  | .torqueOff => 5
  | .fault => 6

/-- Every axis is DISABLED (Table CMD-3, "no"). -/
def State.allDisabled (s : State) : Bool := (List.range 256).all (fun a => decide (s.axState a = .disabled))

/-- The last released feedback reports READY, FAULT, TORQUE_ON (Table FRM-7: STATUS bits 7, 6, 5). -/
def FbkLast.ready (f : FbkLast) : Bool := f.status.getLsbD 7
def FbkLast.fault (f : FbkLast) : Bool := f.status.getLsbD 6
def FbkLast.torqueOn (f : FbkLast) : Bool := f.status.getLsbD 5

/-- The motion command that was answered ACCEPTED completes with a status (R420). -/
def State.finishMotion (s : State) (a status : Nat) : State :=
  let p := (s.axis a).prof
  let s1 := s.cmdDone? p.motionCtx p.motionOp a status
  s1.modProf a (fun p => { p with motionCtx := none })

/-- The opcode of the command that makes a request of a kind. -/
def ReqKind.opcode : ReqKind → Nat
  | .profile _ _ => 0x0502
  | .resume => 0x0504
  | .basic _ _ _ _ _ => 0x0404
  | .home _ => 0x0406
  | .group _ _ _ _ _ _ => 0x0503

/-- Whether a request is for an axis beside its own: a group request names every member (R286). -/
def Request.names (q : Request) (a : Nat) : Bool :=
  match q.kind with
  | .group _ ms _ _ _ _ => ms.any (fun (m : Nat × Int) => decide (m.1 = a))
  | _ => false

/-- The axis that holds the waiting request of an axis. -/
def State.reqOwner (s : State) (a : Nat) : Option Nat :=
  if (s.axis a).req.isSome then some a
  else (s.axes.find? (fun (p : Nat × Axis) => match p.2.req with
    | none => false
    | some q => q.names a)).map (·.1)

/-- A waiting request is dropped by a stop (0), a fault (1) or AX_DISABLE (2) (R283, 0x0C04); a move-list start raises
START_DROPPED with reason 2 as well, and a command completes with WRONG_STATE. -/
def State.dropRequest (s : State) (a cause : Nat) : State :=
  match s.reqOwner a with
  | none => s
  | some b =>
    match (s.axis b).req with
    | none => s
    | some q =>
      let s1 := (s.modAxis b (fun x => { x with req := none })).raise 0x0C04 1 a [BitVec.ofNat 8 cause]
      let s2 := match q.moveSeq with
        | none => s1
        | some n => s1.raise 0x0603 1 a (be 4 n ++ [2])
      s2.cmdDone? q.ctx q.kind.opcode b 0x0301

/-- NEXT of the last segment of a profile, and the segment in force while no profile runs (Tables PRO-1, PRO-7). -/
def segNone : Nat := 0xFFFF

/-- The deceleration that takes a remaining member to rest along the path (R229): that of the member with the largest |Δ| is
its QSTOP_DEC, and each other member falls in proportion. -/
def State.groupDec (s : State) (others : List Nat) (b : Nat) : Int :=
  let l := others.foldl (fun m c =>
    if (s.axis m).prof.grpDelta.natAbs < (s.axis c).prof.grpDelta.natAbs then c else m) (others.headD b)
  let dl : Int := (s.axis l).prof.grpDelta.natAbs
  max 1 (rdiv (s.par 0x04000138 l * ((s.axis b).prof.grpDelta.natAbs : Int)) dl)

/-- A member leaves a group move (R229): the others stop along the path, GRP_STOPPED is set on them, and the event
GROUP_STOPPED (0x0405) is raised. -/
def State.leaveGroup (s : State) (a : Nat) : State :=
  match (s.axis a).prof.group with
  | none => s
  | some g =>
    let s1 := s.modProf a (fun p => { p with group := none })
    let others := (List.range 256).filter (fun b => decide (b ≠ a) && decide ((s1.axis b).prof.group = some g))
    if others.any (fun b => !(s1.axis b).prof.grpStopping) then
      let s2 := others.foldl (fun s b => s.modProf b (fun p =>
        { p with grpStopping := true, grpStopped := true, planDec := some (s1.groupDec others b), planAt := none })) s1
      s2.raise 0x0405 1 g (be 2 a)
    else s1

/-- The reaction of a fault cause of Table LAW-5: true for STO. -/
def State.reactionSto (s : State) (a cause : Nat) : Bool :=
  match cause with
  | 2 => decide (s.par 0x04000136 a = 0)
  | 5 => decide (s.par 0x0400013E a = 0)
  | 6 => false
  | 7 => decide (s.par 0x04000171 a = 2)
  | 9 => false
  | _ => true

/-- A stop is planned: the motion is left, and the ramp of Table LAW-4 starts at the first apply cycle that its REV
replaces (R187), which the next seal fixes (R258).  A stop never becomes softer (R190). -/
def State.planStop (s : State) (a kind : Nat) (dec : Int) : State :=
  let s1 := (s.leaveGroup a).finishMotion a 0x0301
  let s2 := s1.modLife a (fun l =>
    { l with stopKind := kind, stopDec := max l.stopDec dec })
  s2.modProf a (fun p =>
    { p with
      running := false, waiting := false, homing := .none, direct := [], directLast := none, grpStopping := false, planAt := none, seg := segNone
      planDec := if p.ramp && decide (dec ≤ p.rampDec) then p.planDec else some (max dec (p.planDec.getD dec)) })

/-! The words of a context block that the device writes in a layout of its own (Table LAW-1; log 164). -/

def isDeviceWord (off : Nat) : Bool := decide (off < 2) || decide (0x200 ≤ off ∧ off < 0x300)

/-- What such a word holds that no program has stored: 0 before the axis's first library task (R467), then a free value. -/
def deviceDefault (ctr off : Nat) : Word48 := if ctr = 0 then 0 else Config.deviceWord ctr off

def State.deviceWord (s : State) (a off : Nat) : Word48 := sget (deviceDefault (s.axis a).law.stateCtr) (s.axis a).law.devWords off
def State.setDeviceWord (s : State) (a off : Nat) (v : Word48) : State :=
  s.modLaw a (fun l => { l with devWords := sput (deviceDefault l.stateCtr) l.devWords off v })

/-- A library task has written them. -/
def State.writeDeviceWords (s : State) (a : Nat) : State :=
  (s.modLaw a (fun l => { l with stateCtr := s.freeCtr + 1, devWords := [] })).useFree 1

/-- The axis takes the STO path: ENABLE = 0 and torque 0 from its next task (R188). -/
def State.stoPath (s : State) (a : Nat) : State :=
  let s1 := (s.leaveGroup a).finishMotion a 0x0301
  let s2 := s1.modLife a (fun l => { l with stopKind := 4, stoPath := true, stoPlan := true, direct := false, brakeTick := none })
  s2.modProf a (fun p => { p with running := false, waiting := false, homing := .none, ramp := false, planDec := none, planAt := none, seg := segNone, direct := [], directLast := none })

/-- A held enable is dropped and the event reports it (R43, 0x0402, outcome 2). -/
def State.dropHeld (s : State) (a : Nat) : State :=
  match (s.axis a).life.held with
  | none => s
  | some _ => (s.modLife a (fun l => { l with held := none })).raise 0x0402 0 a [2, 0, 0]

/-- The AX_ENABLE that was answered ACCEPTED completes (R185, R420). -/
def State.finishEnable (s : State) (a status : Nat) : State :=
  let s1 := s.cmdDone? (s.axis a).life.enableCtx 0x0401 a status
  s1.modLife a (fun l => { l with enableCtx := none })

/-- The axis faults (R189, Table LAW-5).  In FAULT a further fault changes nothing, but that one whose reaction is STO takes the axis from
a quick stop to the STO path (R190). -/
def State.axisFault (s : State) (a cause : Nat) : State :=
  if s.axState a = .fault then
    if s.reactionSto a cause && !(s.axis a).life.stoPath && !(s.axis a).life.reactDone then s.stoPath a else s
  else
    let sto := s.reactionSto a cause
    let stopping := s.axState a = .disabled ∨ s.axState a = .torqueOff
    let was := s.axState a
    let s1 := ((s.dropRequest a 1).dropHeld a).finishEnable a 0x0301
    let s2 := if was = .disabled then s1.modLife a (fun l => { l with stoPath := true })
      else if sto || (s.axis a).life.stoPath then s1.stoPath a
      else if decide stopping then s1 else s1.planStop a 2 (s.par 0x04000138 a)
    let s3 := s2.modLife a (fun l =>
      { l with state := .fault, cause := cause, ageSeenZero := false, reactDone := decide (was = .disabled)
               enteredTick := s.coreTicks, confirm := 0, direct := false })
    s3.raise 0x0401 1 a [BitVec.ofNat 8 cause]

/-- TORQUE-OFF on the STO path (Table LAW-3). -/
def State.torqueOffSto (s : State) (a : Nat) : State :=
  let s1 := ((s.dropRequest a 0).finishEnable a 0x0301).stoPath a
  s1.modLife a (fun l => { l with state := .torqueOff, enteredTick := s.coreTicks, confirm := 0 })

/-- A SAF STO demand reaches an axis (Table LAW-3, R190). -/
def State.axisSto (s : State) (a : Nat) : State :=
  match s.axState a with
  | .enabling | .ready | .running | .stopping => s.torqueOffSto a
  | .torqueOff => if (s.axis a).life.stoPath then s else s.stoPath a
  | .fault => if (s.axis a).life.stoPath || (s.axis a).life.reactDone then s else s.stoPath a
  | .disabled => s

/-- STOPPING with a stop kind (Table LAW-3, R187). -/
def State.startStop (s : State) (a kind cause : Nat) (dec : Int) : State :=
  let s1 := (s.dropRequest a cause).planStop a kind dec
  s1.modLife a (fun l => { l with state := .stopping, enteredTick := s.coreTicks, confirm := 0, direct := false })

/-- A SAF SS1 demand reaches an axis (Table LAW-3): it never softens a stop (R190). -/
def State.axisSs1 (s : State) (a : Nat) : State :=
  match s.axState a with
  | .enabling => s.torqueOffSto a
  | .ready | .running => s.startStop a 3 0 (s.par 0x04000138 a)
  | .stopping => s.planStop a 3 (s.par 0x04000138 a)
  | _ => s

/-- The SAF masks of a cycle reach the axes (R32, R191): STO before SS1. -/
def State.safStops (s : State) (sto ss1 : Nat) : State :=
  (List.range 256).foldl (fun s a =>
    let g := s.parN 0x08200001 a
    if nbit sto g then s.axisSto a else if nbit ss1 g then s.axisSs1 a else s) s

end Sys2Proof.Machine
end

