-- ==== Sys2Proof/Machine/HostCmd.lean ====
section
/-! DEFINITION. The frame of a host command: sessions, roles, levels, the twin's log, and the order of checks (R434, R450,
R357, R466, R438, R420). -/

namespace Sys2Proof.Machine

/-- What the checks and effects proper of a command answer: a refusal, its effect with its reply, or an effect whose
reply another step sends. -/
inductive Ans where
  | refuse (status : Nat) (data : List Byte)
  | ok (s : State) (status : Nat) (data : List Byte)
  | quiet (s : State)

/-- The statuses of Table CMD-4. -/
def stDone : Nat := 0x0000
def stAccepted : Nat := 0x0001
def stDeferred : Nat := 0x0002
def stBadLength : Nat := 0x0101
def stBadOpcode : Nat := 0x0102
def stExpert : Nat := 0x0103
def stPart : Nat := 0x0104
def stBadValue : Nat := 0x0105
def stBadId : Nat := 0x0106
def stReadOnly : Nat := 0x0107
def stBadComb : Nat := 0x0108
def stAuth : Nat := 0x0201
def stLocked : Nat := 0x0202
def stRole : Nat := 0x0203
def stNoSession : Nat := 0x0204
def stState : Nat := 0x0301
def stNotStopped : Nat := 0x0302
def stBusy : Nat := 0x0303
def stConflict : Nat := 0x0310
def stNoRoom : Nat := 0x0404
def stLoad : Nat := 0x0405
def stSched : Nat := 0x0406
def stFlash : Nat := 0x0407
def stBudget : Nat := 0x0408
def stAckPending : Nat := 0x0501
def stNoEdge : Nat := 0x0502
def stDemand : Nat := 0x0503
def stSafetyParam : Nat := 0x0504
def stSafetyOut : Nat := 0x0505
def stGroupActive : Nat := 0x0506
def stGroupNotSto : Nat := 0x0507
def stNotOnMove : Nat := 0x0601
def stNoTwin : Nat := 0x0602
def stNotSynced : Nat := 0x0603
def stNotQuiet : Nat := 0x0604
def stSwapPending : Nat := 0x0605

/-- Role codes of Table HST-5. -/
def roleView : Nat := 1
def roleOperate : Nat := 2
def roleEngineer : Nat := 3
def roleSafety : Nat := 4
def roleAdmin : Nat := 5

/-- Whether a role allows an opcode whose least role is `need` (R434, Table HST-5). -/
def roleAllows (role need : Nat) : Bool :=
  match need with
  | 1 => true
  | 2 => decide (role = 2 ∨ role = 3 ∨ role = 5)
  | 3 => decide (role = 3 ∨ role = 5)
  | 4 => decide (role = 4)
  | _ => decide (role = 5)

/-- A row of Table CMD-3: opcode, least role, whether it is expert, whether a standby refuses it (R357), whether the
on-move chip logs it, and its parameter bytes for the log. -/
structure Cmd where
  op : Nat
  need : Nat
  expert : Bool := false
  move : Bool := true
  logged : Bool := true
  params : List Byte := []

/-- The commands that recovery accepts (R466). -/
def recoveryOk (op : Nat) : Bool :=
  [0x0101, 0x0103, 0x0201, 0x0202, 0x0203, 0x0204, 0x0E01, 0x0E02, 0x0E03].contains op

/-- The commands of a session opened under KEYS_DEFAULT (R438). -/
def defaultKeyOk (op : Nat) : Bool := [0x0101, 0x0201, 0x0202, 0x0203, 0x0204].contains op

/-- Whether the log that the standby received names the command (R357). -/
def State.isLogged (s : State) (c : CmdCtx) (op : Nat) : Bool :=
  s.twin.landed.any (fun r => decide (r.slot = c.slot ∧ r.seq = c.seq ∧ r.opcode.toNat = op))

def State.unlog (s : State) (c : CmdCtx) (op : Nat) : State :=
  { s with twin := { s.twin with
      landed := s.twin.landed.filter (fun r => !decide (r.slot = c.slot ∧ r.seq = c.seq ∧ r.opcode.toNat = op)) } }

/-- A synchronised standby exists (R361). -/
def State.standbySynced (s : State) : Bool :=
  s.twin.onMove && (s.twin.lane0 || s.twin.lane1) && s.twin.peerHealthy && s.twin.peerSynced

/-- The log entry of a command. -/
def State.logEntry (s : State) (c : CmdCtx) (op : Nat) : Option LogEntry :=
  s.twin.logs.find? (fun l => decide (l.slot = c.slot ∧ l.seq = c.seq ∧ l.opcode = op))

/-- A state-changing command lands only after its LOG_ACK (R357): its LOG is sent, or it waits, or it lands and a landing
past its boundary counts in LOG_LATE. -/
def State.landLogged (s s' : State) (c : CmdCtx) (k : Cmd) (fin : State → State) : State :=
  if k.logged && s.standbySynced then
    match s.logEntry c k.op with
    | none =>
      let pos := s.twin.logPos + 1
      let rec_ : LogRec :=
        { pos := pos, cycle := s.cyc.cycle + 1, slot := c.slot, seq := c.seq, opcode := BitVec.ofNat 16 k.op, params := k.params
          trim := none }
      let s1 := s.put (.twin (.log rec_))
      { s1 with twin := { s1.twin with
          logPos := pos
          logs := s1.twin.logs ++ [⟨pos, c.slot, c.seq, k.op, s.cyc.cycle + 1, false⟩] } }
    | some l =>
      if l.acked then
        let s1 := fin s'
        { s1 with twin := { s1.twin with
            logs := s1.twin.logs.filter (fun m => decide (m.pos ≠ l.pos))
            logLate := if l.cycle < s.cyc.cycle then inc32 s1.twin.logLate else s1.twin.logLate } }
      else s
  else fin s'

/-- The packets that wait at a plant port (R428). -/
def State.plantQueue (s : State) (p : Nat) : List (List Byte) := sget (fun _ => []) s.host.plantQueue p
def State.setPlantQueue (s : State) (p : Nat) (q : List (List Byte)) : State :=
  let pq := sput (fun _ => []) s.host.plantQueue p q
  { s with host := { s.host with plantQueue := pq } }

/-- The supervisor takes the command's packet from the receive queue of its plant port (R428). -/
def State.takeUp (s : State) (c : CmdCtx) : State :=
  let x := s.session c.slot.val
  match x.source with
  | .pcie => s
  | .udp p _ _ =>
    s.setPlantQueue p.val ((s.plantQueue p.val).filter (fun b =>
      !decide (field b 8 4 = x.id.toNat ∧ field b 4 2 = c.seq.toNat)))

/-- A host command: the checks of R450 in their order, then its own checks and effect, then its one reply. -/
def State.command (s0 : State) (c : CmdCtx) (k : Cmd) (lenOk : Bool) (body : State → Ans) : State :=
  let s := s0.takeUp c
  let x := s.session c.slot.val
  if s.twin.standby && k.move && s.isLogged c k.op then
    match body (s.unlog c k.op) with
    | .refuse _ _ => s.unlog c k.op
    | .ok s' _ _ => s'
    | .quiet s' => s'
  else if x.phase ≠ .opened then
    s.sendTo x.source (packet k.op c.seq x.id (replyFlagsOf c) [] (be 2 stNoSession))
  else if !lenOk then s.reply c k.op stBadLength []
  else if !roleAllows x.role k.need || (s.host.keys.default && !defaultKeyOk k.op) then s.reply c k.op stRole []
  else if k.expert && !c.expert then s.reply c k.op stExpert []
  else if s.twin.standby && k.move then s.reply c k.op stNotOnMove []
  else if s.boot.recovery && !recoveryOk k.op then s.reply c k.op stState []
  else
    match body s with
    | .refuse st d => s.reply c k.op st d
    | .ok s' st d => s.landLogged s' c k (fun t => t.reply c k.op st d)
    | .quiet s' => s.landLogged s' c k (fun t => t)

def State.host_ (s : State) (c : CmdCtx) (k : Cmd) (lenOk : Bool) (body : State → Ans) : Result :=
  .next (s.command c k lenOk body)

/-- The commands that do not change cycle state, by opcode: AT_BOUNDARY delays them (R418). -/
def boundaryOp (op : Nat) : Bool :=
  [0x0101, 0x0102, 0x0103, 0x0104, 0x0203, 0x0301, 0x0303, 0x040A, 0x0505, 0x0605, 0x0707, 0x0708, 0x0901, 0x0A04, 0x0B01, 0x0B02, 0x0C01,
    0x0E01, 0x0E02, 0x0E03].contains op

/-- A command of an open session with AT_BOUNDARY waits for the next cycle boundary while cycles run (R418). -/
def State.waitsBoundary (s : State) (c : CmdCtx) : Bool :=
  c.atBoundary && s.cyc.running && !s.host.atBoundary && decide ((s.session c.slot.val).phase = .opened)

/-- A command waits for the boundary. -/
def State.holdCommand (s : State) (c : CmdCtx) (i : Instr) : State :=
  let t := s.takeUp c
  { t with host := { t.host with boundary := t.host.boundary ++ [(c, i)] } }

/-- A command that does not change cycle state: executed as soon as it is taken, or, with AT_BOUNDARY set, at the next boundary (R418). -/
def State.hostAt (s : State) (c : CmdCtx) (i : Instr) (k : Cmd) (lenOk : Bool) (body : State → Ans) : Result :=
  if s.waitsBoundary c then .next (s.holdCommand c i)
  else s.host_ c k lenOk body

/-- A command answered later (a queued write): its one reply.  On a standby a queued command comes from the log (R357), and
the on-move chip answers it. -/
def State.replyLater (s : State) (c : CmdCtx) (op status : Nat) (data : List Byte) : State :=
  if (s.session c.slot.val).phase = .opened && !s.twin.standby then s.reply c op status data else s

/-- An accepted parameter or status write waits for the next boundary (R444). -/
def State.queuePar (s : State) (c : CmdCtx) (id : Nat) (v : Int) : State :=
  { s with host := { s.host with parQueue := s.host.parQueue ++ [{ ctx := c, id := id, value := v, cycle := s.cyc.cycle }] } }

end Sys2Proof.Machine
end

