-- ==== Sys2Proof/Machine/Crc.lean ====
section
/-! DEFINITION. The check codes of the device: CRC-32 (R55), CRC-32C (R71, R312, R356), the CRC-16 of SIG_H (R71), and the
barrier's CRC-8 and CRC-16 (R344). -/

namespace Sys2Proof.Machine

/-- One bit of a non-reflected CRC of width w. -/
def crcBit (w poly : Nat) (crc : Nat) (b : Bool) : Nat :=
  let top := (crc / 2 ^ (w - 1)) % 2 = 1
  let sh := (crc * 2) % 2 ^ w
  if top != b then sh ^^^ poly else sh

/-- One byte, most significant bit first. -/
def crcByteMsb (w poly crc : Nat) (x : Byte) : Nat :=
  [7, 6, 5, 4, 3, 2, 1, 0].foldl (fun c i => crcBit w poly c (nbit x.toNat i)) crc

/-- One byte, least significant bit first (a reflected CRC, whose register is kept reflected). -/
def crcByteLsb (w poly crc : Nat) (x : Byte) : Nat :=
  [0, 1, 2, 3, 4, 5, 6, 7].foldl (fun c i => crcBit w poly c (nbit x.toNat i)) crc

/-- The n bits of v in reverse order. -/
def reflect : Nat → Nat → Nat
  | 0, _ => 0
  | n + 1, v => (v % 2) * 2 ^ n + reflect n (v / 2)

/-- The IEEE 802.3 CRC-32. -/
def crc32 (bs : List Byte) : Nat :=
  reflect 32 (bs.foldl (crcByteLsb 32 0x04C11DB7) 0xFFFFFFFF ^^^ 0xFFFFFFFF)

/-- CRC-32C. -/
def crc32c (bs : List Byte) : Nat :=
  reflect 32 (bs.foldl (crcByteLsb 32 0x1EDC6F41) 0xFFFFFFFF ^^^ 0xFFFFFFFF)

/-- The CRC-16 with polynomial 0x8BB7 and the segment's seed as initial value. -/
def crc16saf (seed : Nat) (bs : List Byte) : Nat := bs.foldl (crcByteMsb 16 0x8BB7) seed

/-- The CRC-8 of channel M (R344). -/
def crc8m (bs : List Byte) : Nat := (bs.foldl (crcByteMsb 8 0x2F) 0xFF) ^^^ 0xFF

/-- The CRC-16 of channel H (R344). -/
def crc16h (bs : List Byte) : Nat := bs.foldl (crcByteMsb 16 0x1021) 0xFFFF

end Sys2Proof.Machine
end

