-- ==== Sys2Proof/Machine/Frame.lean ====
section
/-! DEFINITION. Futhes frames: header, check code, discards, the judgement of a static slot, and sending
(spec/02_futhes_frames.md R50 to R63; spec/03_futhes_slot_train.md R84 to R105). -/

namespace Sys2Proof.Machine

/-- The header of Table FRM-2. -/
structure Hdr where
  kind : Nat
  ver : Nat := 1
  aged : Bool := false
  loop : Bool := false
  dir : Bool := false
  safe : Bool := false
  takeBack : Bool := false
  seg : Nat
  src : Nat := 0
  slotM : Bool := false
  slotN : Nat
  cyc : Nat
  age : Nat := 0
  len : Nat
  deriving DecidableEq, Repr

/-- SLOT.N of a frame that the head sends at t_k outside the slot train. -/
def slotOutside : Nat := 0x7FFF

def Hdr.bytes (h : Hdr) : List Byte :=
  [BitVec.ofNat 8 (h.kind * 16 + h.ver),
   BitVec.ofNat 8 (flagWord [(7, h.aged), (6, h.loop), (5, h.dir), (4, h.safe), (3, h.takeBack)]),
   BitVec.ofNat 8 h.seg, BitVec.ofNat 8 h.src]
  ++ be 2 (b2n h.slotM * 0x8000 + h.slotN) ++ be 4 h.cyc ++ [BitVec.ofNat 8 h.age, BitVec.ofNat 8 h.len]

def parseHdr (b : List Byte) : Hdr :=
  let h1 := (byteAt b 1).toNat
  let sl := field b 4 2
  { kind := (byteAt b 0).toNat / 16, ver := (byteAt b 0).toNat % 16
    aged := nbit h1 7, loop := nbit h1 6, dir := nbit h1 5, safe := nbit h1 4, takeBack := nbit h1 3
    seg := (byteAt b 2).toNat % 8, src := (byteAt b 3).toNat
    slotM := nbit sl 15, slotN := sl % 0x8000
    cyc := field b 6 4, age := (byteAt b 10).toNat, len := (byteAt b 11).toNat }

/-- H0 to the last CRC byte (R50, R52): the CRC in the byte order of the Ethernet FCS, least significant byte first. -/
def sealFrame (h : Hdr) (payload : List Byte) : List Byte :=
  let body := h.bytes ++ payload
  body ++ le 4 (crc32 body)

/-- Frame type codes of Table FRM-4. -/
def tCsf : Nat := 1
def tRef : Nat := 2
def tFbk : Nat := 3
def tIod : Nat := 4
def tSaf : Nat := 5
def tRev : Nat := 6
def tDyn : Nat := 7
def tClm : Nat := 8
def tSur : Nat := 9
def tSch : Nat := 10
def tSup : Nat := 11

/-- The LEN range of a type (Table FRM-4), from the head (SRC 0) or from a node; `op`: the first payload byte. -/
def lenOk (kind len src op : Nat) : Bool :=
  match kind with
  | 1 => decide (len = 12)
  | 2 => decide (5 ≤ len ∧ len ≤ 253 ∧ len % 4 = 1)
  | 3 => decide (len = 8)
  | 4 => decide (1 ≤ len ∧ len ≤ 255)
  | 5 => decide (len = if src = 0 then 7 else 4)
  | 6 => decide (1 ≤ len ∧ len ≤ 255)
  | 7 => decide (2 ≤ len ∧ len ≤ 255)
  | 8 => decide (len = 4)
  | 9 => decide (len = if 128 ≤ op then 6 else 4)
  | 10 => decide (7 ≤ len ∧ len ≤ 255 ∧ len % 2 = 1)
  | 11 => decide (len = if op = 1 then 6 else 4)
  | _ => false

/-- R54 and R55: whether a receiver on segment n keeps the frame; `op`: the first payload byte. -/
def hdrOk (n : Nat) (h : Hdr) (total op : Nat) : Bool :=
  decide (h.ver = 1) && lenOk h.kind h.len h.src op && decide (h.src < 128)
  && (if h.slotM then decide (h.slotN ≤ 255) else decide (h.slotN ≤ 63 ∨ h.slotN = slotOutside))
  && decide (h.seg = n) && decide (total = 16 + 4 * h.len)
  && (h.safe == decide (h.kind = tSaf)) && (h.takeBack == decide (h.kind = tRev))

/-- Whether the frame's CRC fits (R52). -/
def frameCrcOk (b : List Byte) : Bool :=
  decide (16 ≤ b.length) && decide (unle (b.drop (b.length - 4)) = crc32 (b.take (b.length - 4)))

/-- What a port makes of a frame (R54, R55, R60, R62); a port whose PORT_MODE is off takes nothing (R44). -/
inductive Rx where
  | off
  | abort
  | crc
  | format
  | ok (h : Hdr) (payload : List Byte)
  deriving DecidableEq, Repr

def rxClass (f : RxFrame) : Rx :=
  if f.error then .abort
  else if !frameCrcOk f.bytes then .crc
  else
    let h := parseHdr f.bytes
    if hdrOk (f.port.val / 2) h f.bytes.length (byteAt f.bytes 12).toNat then .ok h ((f.bytes.drop 12).take (4 * h.len)) else .format

/-- What a port makes of a frame; behind a reset fence it is an abort (R469), and the ports of a segment under test are out of ring
service (R474). -/
def State.rx (s : State) (f : RxFrame) : Rx :=
  if s.parN 0x07000001 f.port.val = 0 ∨ (s.seg (f.port.val / 2)).phase = .test then .off else if (s.port f.port.val).fenced then .abort else rxClass f

/-- The header of a frame whose CRC fits and that no error indication damaged. -/
def State.soundHdr (s : State) (f : RxFrame) : Option Hdr :=
  match s.rx f with
  | .ok h _ => some h
  | .format => if 16 ≤ f.bytes.length then some (parseHdr f.bytes) else none
  | _ => none

/-! Port counters (R62, Table FRM-3). -/

def RingPort.onAbort (p : RingPort) : RingPort := { p with abort := true, abortCnt := inc32 p.abortCnt }
def RingPort.onCrc (p : RingPort) : RingPort := { p with crcErr := true, crcCnt := inc32 p.crcCnt }
def RingPort.onFormat (p : RingPort) : RingPort := { p with fmtErr := true, fmtCnt := inc32 p.fmtCnt }
def RingPort.onGood (p : RingPort) : RingPort := { p with goodCnt := inc32 p.goodCnt }

/-- The port counts a frame of a class. -/
def State.countRx (s : State) (p : Nat) (r : Rx) : State :=
  match r with
  | .off => s
  | .abort => s.modPort p RingPort.onAbort
  | .crc => s.modPort p RingPort.onCrc
  | .format => s.modPort p RingPort.onFormat
  | .ok _ _ => s.modPort p RingPort.onGood

/-- LOOP_SEEN (Table FRM-3): a frame with LOOP = 1 arrived, whatever becomes of it. -/
def State.seeLoop (s : State) (f : RxFrame) : State :=
  match s.soundHdr f with
  | some h => if h.loop then s.modPort f.port.val (fun q => { q with loopCycle := some s.cyc.cycle }) else s
  | none => s

/-- The four counters of a port, and the port with each cleared: they clear on read (R62).  The spec gives them no ID, and no command of the
table reads them (log 116). -/
def State.takePortCounts (s : State) (p : Nat) : List Nat × State :=
  let x := s.port p
  ([x.goodCnt, x.crcCnt, x.abortCnt, x.fmtCnt], s.modPort p (fun x => { x with goodCnt := 0, crcCnt := 0, abortCnt := 0, fmtCnt := 0 }))

/-- The counts and the running offset of a node, in 0.1 ns, and the node with the counts cleared (R105, log 116). -/
def State.takeNodeCounts (s : State) (n node : Nat) : List Int × State :=
  let x := (s.seg n).node node
  ([(x.edgeCnt : Int), (x.missCnt : Int), x.offMin, x.offMax, if x.offNum = 0 then 0 else rdiv x.offSum x.offNum],
    s.modNode n node (fun x => { x with edgeCnt := 0, missCnt := 0, offMin := 0, offMax := 0, offSum := 0, offNum := 0 }))

/-- The full cycle number of a header's CYCLE (R58). -/
def State.rebuildCycle (s : State) (low : Nat) : Int := (s.cyc.cycle : Int) + smod 32 ((low : Int) - s.cyc.cycle)

/-! Schedules. -/

/-- The head's schedule of segment n. -/
def State.sched (s : State) (n : Nat) : Schedule := (s.seg n).sched

/-- T_C in ns (R84). -/
def tC : Nat := 584

/-- The owner's record of a static slot in the train of cycle k (R86). -/
def schedOwner (c : Schedule) (slot : Nat) (k : Int) : Option SlotRec :=
  c.records.find? (fun (r : SlotRec) => decide (r.slot = slot) && decide (k % (2 ^ r.mux : Nat) = r.phase))

/-- The USE codes of a slot record. -/
def useFbk : Nat := 1
def useIod : Nat := 2
def useSaf : Nat := 3
def useSup : Nat := 4

/-- Acceptance window W in 0.1 ns (R101). -/
def schedW (c : Schedule) : Int := (c.wCode * 80 : Nat)

/-- The record that gives an axis its FBK slot, with its segment (Table FRM-13). -/
def State.axisSlot (s : State) (a use : Nat) : Option (Nat × SlotRec) :=
  (List.range 8).findSome? (fun n =>
    if s.segActive n then
      match (s.sched n).records.find? (fun (r : SlotRec) => decide (r.use = use ∧ r.axis = a)) with
      | none => none
      | some r => some (n, r)
    else none)

/-- The axes of a node by its FBK and SAF records. -/
def State.nodeAxes (s : State) (n node : Nat) : List Nat :=
  (((s.sched n).records.filter (fun (r : SlotRec) => decide (r.node = node ∧ (r.use = useFbk ∨ r.use = useSaf)))).map (fun (r : SlotRec) => r.axis)).dedup

/-- Whether the chip is the Black one of a twin installation (R351). -/
def State.isBlack (s : State) : Bool := s.boot.twinPresent && s.boot.twinRole

/-- t_tw in 0.1 ns (R354). -/
def State.tTw (s : State) : Nat := s.twin.cabDelay + 5000

/-- Λ_A(j) of a loop at node j, or at the standby twin (R98). -/
def Segment.lamA (g : Segment) (j : Nat) : Int :=
  if j = 0xFF then g.lamStandby else ((g.node j).delayNorm : Int) + (g.node j).legA

/-- Λ_B(j) of a loop at node j (R98). -/
def Segment.lamB (g : Segment) (j : Nat) : Int := ((g.node j).delayFold : Int) + g.lamN - (g.node j).delayNorm

/-- Whether a node lies beyond the break: from breakB on. -/
def Segment.beyond (g : Segment) (node : Nat) : Bool :=
  decide (g.breakB ≠ 0) && decide (g.breakB ≠ 0xFF) && decide ((g.node g.breakB).delayNorm ≤ (g.node node).delayNorm)

/-- The nodes that the other port has to reach (R110, R354). -/
def Segment.cut (g : Segment) (black : Bool) (node : Nat) : Bool :=
  if black then decide (g.breakB ≠ 0xFF) && !g.beyond node else g.beyond node

/-- The loop delay, in 0.1 ns, that a frame of the train of cycle k, from a node and arriving on a port, is checked against (R93, R98, R110,
R115); none: the frame is judged by its slot owner only.  A cut node's frames take the folded delay from the train on whose cycle its path set
names (log 146).  While Black is on move its port A stands for White's port B and launches t_tw late, and its port B reaches the nodes
through White, t_tw each way (R354; log 147). -/
def State.pathDelay (s : State) (n node : Nat) (portB : Bool) (k : Int) : Option Int :=
  let g := s.seg n
  if s.parN 0x07300003 n = 1 then
    (if s.isBlack then some (if portB then g.lamR + s.tTw else g.lamN) else some (if portB then g.lamN else g.lamR))
  else if s.isBlack then
    if !g.folded then (if portB then some (g.lamN + s.tTw) else none)
    else if portB then
      (if g.cut true node && decide ((g.pathFrom : Int) ≤ k) then some (g.lamA g.breakA + 2 * s.tTw) else some (g.lamN + s.tTw))
    else some (if g.breakB = 0xFF then g.lamStandby + s.tTw else g.lamB g.breakB - s.tTw)
  else if !g.folded then (if portB then some g.lamN else none)
  else if portB then (if g.cut false node && decide ((g.pathFrom : Int) ≤ k) then some (g.lamB g.breakB) else some g.lamN)
  else some (g.lamA g.breakA)

/-- Δ of a frame in 0.1 ns: its SFD against an on-time SFD, which passes 56 ns after the slot starts (R85, R93). -/
def State.offset (s : State) (n : Nat) (lam k : Int) (slot : Nat) (sfd : Int) : Int :=
  sfd + ((s.cyc.cycle : Int) - k) * (s.period * 10 : Nat)
    - (lam + ((tC + 8 * slot * (s.sched n).slotLen + 56) * 10 : Nat))

/-- What the head decides on a frame in a static slot (R101, R105). -/
inductive Verdict where
  | bad (r : Rx)
  | discard
  | ownerAbort (r : SlotRec)
  | edge (r : SlotRec)
  | own
  | ok (h : Hdr) (payload : List Byte) (r : SlotRec) (k : Int) (delta : Int)
  deriving DecidableEq, Repr

/-- A frame is too early or too late for the slot of its header.  Where it arrives in another node's slot, its SRC is not the owner of the slot
in which it arrives, and it is a format discard; else it violates the edge of its own (R101, R105). -/
def offEdge (c : Schedule) (h : Hdr) (r : SlotRec) (k d : Int) : Verdict :=
  let width : Int := (8 * c.slotLen * 10 : Nat)
  let at_ := (h.slotN * width + d + schedW c) / width
  if at_ < c.headSlots ∨ (c.staticSlots : Int) ≤ at_ ∨ at_ = h.slotN then .edge r
  else match schedOwner c at_.toNat k with
    | none => .edge r
    | some q => if q.node = h.src then .edge r else .discard

/-- The judgement of a frame of a USE and TYPE in its slot: header and CRC, then owner, TYPE and AXIS, then the edge
window.  A frame of the head itself is a turned or returned copy (R109). -/
def State.judge (s : State) (f : RxFrame) (use kind axisOff : Nat) : Verdict :=
  let n := f.port.val / 2
  match s.rx f with
  | .off => .bad .off
  | .abort =>
    let h := parseHdr f.bytes
    match schedOwner (s.sched n) h.slotN (s.rebuildCycle h.cyc) with
    | none => .bad .abort
    | some r => if 12 ≤ f.bytes.length then .ownerAbort r else .bad .abort
  | .crc => .bad .crc
  | .format => .bad .format
  | .ok h pl =>
    if h.src = 0 then .own
    else
      let k := s.rebuildCycle h.cyc
      match schedOwner (s.sched n) h.slotN k with
      | none => .discard
      | some r =>
        if h.slotM ∨ r.node ≠ h.src ∨ r.use ≠ use ∨ h.kind ≠ kind
            ∨ ((use = useFbk ∨ use = useSaf) ∧ (byteAt pl axisOff).toNat ≠ r.axis) then .discard
        else
          match (if s.twin.standby then none else s.pathDelay n r.node (f.port.val % 2 = 1) k) with
          | none => .ok h pl r k 0
          | some lam =>
            let d := s.offset n lam k h.slotN f.sfd
            let w := schedW (s.sched n)
            if -w ≤ d ∧ d < w then .ok h pl r k d else offEdge (s.sched n) h r k d

/-- A frame whose content breaks its own format is a format discard as well (R62; logs 148, 149). -/
def Verdict.content (v : Verdict) (ok : Hdr → List Byte → Bool) : Verdict :=
  match v with
  | .ok h pl r k d => if ok h pl then .ok h pl r k d else .discard
  | v => v

/-- The place of a slot and phase in the receive image. -/
def imageKey (r : SlotRec) : Nat := r.slot * 64 + r.phase

def Segment.imageAt (g : Segment) (r : SlotRec) : ImagePlace := sget (fun _ => ImagePlace.reset) g.image (imageKey r)

/-- The run of accepted frames of a slot and phase changes (R116). -/
def Segment.setRun (g : Segment) (r : SlotRec) (v : Nat) : Segment :=
  { g with image := sput (fun _ => ImagePlace.reset) g.image (imageKey r) { g.imageAt r with run := v } }

/-- An edge violation of the owner of a slot (R105). -/
def State.edgeViolation (s : State) (n : Nat) (r : SlotRec) : State :=
  (s.modNode n r.node (fun x => { x with edgeCnt := inc32 x.edgeCnt })).modSeg n (fun g =>
    { g.setRun r 0 with edgesNow := g.edgesNow + 1 })

/-- The counts that a verdict leaves (R62, R105).  A frame that is judged by its slot owner only has no Δ: it enters the running offset with 0
(log 150). -/
def State.countVerdict (s0 : State) (f : RxFrame) (v : Verdict) : State :=
  let s := s0.seeLoop f
  let p := f.port.val
  let n := p / 2
  match v with
  | .bad r => s.countRx p r
  | .discard => s.modPort p RingPort.onFormat
  | .ownerAbort r => (s.modPort p RingPort.onAbort).edgeViolation n r
  | .edge r => (s.modPort p RingPort.onGood).edgeViolation n r
  | .own => s.countRx p (s.rx f)
  | .ok h pl r _ d =>
    ((s.countRx p (.ok h pl)).modNode n r.node (fun x =>
      { x with
        offMin := if x.offNum = 0 then d else min x.offMin d
        offMax := if x.offNum = 0 then d else max x.offMax d
        offSum := x.offSum + d, offNum := x.offNum + 1, lastDelta := d })).modSeg n (fun g => g.setRun r ((g.imageAt r).run + 1))

/-- The first accepted copy of a slot and phase enters the receive image (R105, R115); an FBK frame waits there for its release. -/
def State.storeImage (s : State) (n : Nat) (r : SlotRec) (k : Int) (age : Nat) (pl : List Byte) : State :=
  s.modSeg n (fun g =>
    let p := g.imageAt r
    if k.toNat ≤ p.cycle ∧ p.payload ≠ [] then g
    else
      let wait := if r.use = useFbk then p.wait.filter (fun (w : Nat × Nat × List Byte) => decide (k.toNat < w.1 + 8)) ++ [(k.toNat, age, pl)] else []
      let q : ImagePlace := { p with payload := pl, cycle := k.toNat, since := 0, wait := wait }
      { g with image := sput (fun _ => ImagePlace.reset) g.image (imageKey r) q })

/-- The frames of a place up to cycle m wait no longer. -/
def State.dropWait (s : State) (n : Nat) (r : SlotRec) (m : Nat) : State :=
  s.modSeg n (fun g =>
    let p := g.imageAt r
    let q : ImagePlace := { p with wait := p.wait.filter (fun (w : Nat × Nat × List Byte) => decide (m < w.1)) }
    { g with image := sput (fun _ => ImagePlace.reset) g.image (imageKey r) q })

/-! Sending. -/

/-- What stands before H0 on the wire: 7 preamble bytes and the SFD (R50). -/
def preamble : List Byte := List.replicate 7 0x55 ++ [0xD5]

/-- A frame leaves a port, unless the port idles (R367); a reset of the receiver leaves the transmitter as it is (R469). -/
def State.sendFrame (s : State) (p : Nat) (bytes : List Byte) : State :=
  if (s.port p).idle then s else s.put (.frame ⟨p % 16, by omega⟩ (preamble ++ bytes))

/-- A frame that ends with error propagation instead of its last CRC byte (R60, R61). -/
def State.sendAbort (s : State) (p : Nat) (bytes : List Byte) : State :=
  if (s.port p).idle then s else s.put (.abort ⟨p % 16, by omega⟩ (preamble ++ bytes.dropLast))

/-- A frame turned back in loopback: LOOP = 1 and a new CRC (R56, R108). -/
def turned (bytes : List Byte) : List Byte :=
  let body := bytes.take (bytes.length - 4)
  let b := body.set 1 (byteAt body 1 ||| 0x40)
  b ++ le 4 (crc32 b)

/-! Forwarding (R353, R369, Table SLT-5). -/

/-- Whether the chip forwards a frame from one port of a segment to the other: as a standby or in Listen every frame; on move, for
three cycles after a hand-over, the uplink frames that arrive on port A from trains launched before it. -/
def State.relays (s : State) (f : RxFrame) : Bool :=
  s.segActive (f.port.val / 2) &&
    (s.twin.standby || decide (s.opening.phase = .listen)
      || (match s.twin.fwdUntil with
        | none => false
        | some e => s.twin.onMove && decide (f.port.val % 2 = 0) && decide ((parseHdr f.bytes).src ≠ 0)
            && decide (s.rebuildCycle (parseHdr f.bytes).cyc + 4 < e)))

/-- The start of minislot i behind t_k, in ns. -/
def minislotStart (c : Schedule) (i : Nat) : Nat := tC + 8 * (c.staticSlots * c.slotLen + i * c.minislotLen)

/-- The start, behind t_k in ns, of the slot, the run or the minislot that a frame occupies; none outside the slot train (R101, R118). -/
def placeOf (c : Schedule) (h : Hdr) : Option Nat :=
  if h.kind = tCsf ∨ h.kind = tClm ∨ h.kind = tSur ∨ (!h.slotM ∧ h.slotN = slotOutside) then none
  else if h.kind = tSch then some tC
  else if h.slotM then some (minislotStart c h.slotN)
  else if h.src = 0 ∧ h.slotN < c.headSlots then some tC
  else some (tC + 8 * h.slotN * c.slotLen)

/-- A forwarded frame starts earlier than W before its time, told by the CSF that passed on the same path (R103; log 151). -/
def State.tooEarly (s : State) (f : RxFrame) (h : Hdr) : Bool :=
  let c := s.sched (f.port.val / 2)
  let t : Int := (s.period * 10 : Nat)
  match (s.port f.port.val).csfRef, placeOf c h with
  | some (k0, at0, lp), some start =>
    lp == h.loop && decide (f.sfd + s.cyc.cycle * t < at0 + (s.rebuildCycle h.cyc - k0) * t + ((start + 56) * 10 : Nat) - schedW c)
  | _, _ => false

/-- What a forwarding chip takes from a passing frame: the CSF that dates the train, the cycles of the last CSF and of the last
counter-direction mark (R107), and a loop set on its first pass (R108, R109): a clear, or a set of the side whose own link is down
(log 152). -/
def State.passing (s : State) (f : RxFrame) : State :=
  let p := f.port.val
  let n := p / 2
  match s.rx f with
  | .ok h pl =>
    let ref := ((s.rebuildCycle h.cyc).toNat, f.sfd + s.cyc.cycle * (s.period * 10 : Nat), h.loop)
    let s1 := if h.kind = tCsf then s.modPort p (fun x => { x with csfRef := some ref }) else s
    if h.loop ∨ h.src ≠ 0 then s1
    else
      let s2 := s1.modSeg n (fun g =>
        if p % 2 = 0 ∧ h.kind = tCsf then { g with lastCsf := some s.cyc.cycle }
        else if p % 2 = 1 ∧ (h.kind = tCsf ∨ (h.kind = tSup ∧ byteAt pl 0 = 4)) then { g with lastBeacon := some s.cyc.cycle }
        else g)
      if h.kind = tSup ∧ byteAt pl 0 = 3 then
        let act := (byteAt pl 4).toNat
        if act = 0 then s2.modSeg n (fun g => { g with loopSide := 0 })
        else if (act = 1 ∧ (s.port (2 * n)).link = false) ∨ (act = 2 ∧ (s.port (2 * n + 1)).link = false) then
          s2.modSeg n (fun g => { g with loopSide := act })
        else s2
      else s2
  | _ => s

/-- The forwarded frame (R353).  A fault ends the copy with error propagation (R61), an early frame is dropped whole (R103), and a chip that
loops back turns what its intact port brings (R108). -/
def State.relay (s0 : State) (f : RxFrame) : State :=
  if s0.relays f then
    let s := s0.passing f
    let p := f.port.val
    let side := (s0.seg (p / 2)).loopSide
    let back := decide (side ≠ 0)
    let q := if back then p else p / 2 * 2 + (1 - p % 2)
    if back && decide (p % 2 = side - 1) then s
    else match s.rx f with
      | .off => s
      | .abort => s.sendAbort q f.bytes
      | .crc => s.sendAbort q f.bytes
      | .format => s.sendFrame q (if back then turned f.bytes else f.bytes)
      | .ok h _ => if s0.tooEarly f h then s else s.sendFrame q (if back then turned f.bytes else f.bytes)
  else s0

/-- A head frame on a segment's port A or B; Black sets DIR as White would for the port it stands for (R354). -/
def State.sendHead (s : State) (n : Nat) (portB : Bool) (h : Hdr) (payload : List Byte) : State :=
  s.sendFrame (2 * n + b2n portB) (sealFrame { h with seg := n, dir := portB != s.isBlack, len := payload.length / 4 } payload)

/-- A payload padded to a whole number of words (R64). -/
def padWords (bs : List Byte) : List Byte := bs ++ List.replicate ((4 - bs.length % 4) % 4) 0

/-! The payloads of the head. -/

/-- A REF entry (Table FRM-6). -/
def RefEntry.bytes (r : RefEntry) : List Byte :=
  [BitVec.ofNat 8 r.axis, r.ctrl] ++ be 2 (r.apply % 65536) ++ be 6 r.a.toNat ++ be 6 r.b.toNat

/-- A REF frame of at most 63 entries (R66). -/
def refPayload (es : List RefEntry) : List Byte := be 2 es.length ++ [0, 0] ++ es.flatMap RefEntry.bytes

/-- A REV item (Table FRM-11). -/
def RevItem.bytes : RevItem → List Byte
  | .range axis first es =>
    [1, BitVec.ofNat 8 axis] ++ be 2 (first % 65536) ++ [BitVec.ofNat 8 es.length, 0, 0, 0] ++ es.flatMap RefEntry.bytes
  | .retime seq fire => [2, 0, 0, 0] ++ be 4 seq ++ t80Bytes fire ++ [0, 0]
  | .cancel seq => [3, 0, 0, 0] ++ be 4 seq

def revPayload (is : List RevItem) : List Byte := be 2 is.length ++ [0, 0] ++ is.flatMap RevItem.bytes

/-- A timed record (Table FRM-8). -/
def TimedRec.bytes (r : TimedRec) : List Byte :=
  be 4 r.seq ++ t80Bytes r.fire ++ [BitVec.ofNat 8 r.channel, BitVec.ofNat 8 r.action]

/-- A SUP payload of 16 bytes (R81). -/
def supPayload (op : Nat) (rest : List Byte) : List Byte :=
  ([BitVec.ofNat 8 op, 0, 0, 0] ++ rest ++ List.replicate 12 0).take 16

/-- A DYN payload (R76). -/
def dynPayload (m : DynMsg) : List Byte :=
  padWords ([BitVec.ofNat 8 m.msg, BitVec.ofNat 8 (b2n m.more * 128)] ++ be 2 m.msgId ++ [BitVec.ofNat 8 m.dest, BitVec.ofNat 8 m.frag, 0, 0] ++ m.data)

/-- The parts of a message's data that one DYN frame of 255 words holds, numbered, each but the last with MORE = 1 (R76). -/
def dynParts : Nat → Nat → List Byte → List (Nat × Bool × List Byte)
  | 0, _, _ => []
  | fuel + 1, i, data =>
    if data.length ≤ 1012 then [(i, false, data)] else (i, true, data.take 1012) :: dynParts fuel (i + 1) (data.drop 1012)

/-- A SUR request (Table FRM-12). -/
def surRequest (op hop newAddr : Nat) (t : Int) : List Byte :=
  [BitVec.ofNat 8 op, BitVec.ofNat 8 hop, BitVec.ofNat 8 newAddr, 0] ++ t80Bytes t ++ [0, 0]

/-- The SCH payload of one node (Table FRM-13). -/
def schPayload (c : Schedule) (dNorm dFold activate node : Nat) : List Byte :=
  let rs := c.records.filter (fun r => decide (r.node = node))
  be 2 c.ver ++ [BitVec.ofNat 8 c.period, BitVec.ofNat 8 c.staticSlots] ++ be 2 c.slotLen ++ be 2 c.minislots
    ++ [BitVec.ofNat 8 c.minislotLen, BitVec.ofNat 8 c.guardLen, BitVec.ofNat 8 c.safWd, BitVec.ofNat 8 c.wCode]
    ++ be 4 dNorm ++ be 4 dFold ++ be 4 (activate % 4294967296) ++ be 2 rs.length ++ [0, 0]
    ++ rs.flatMap (fun r => [BitVec.ofNat 8 r.slot, BitVec.ofNat 8 r.mux, BitVec.ofNat 8 r.phase, BitVec.ofNat 8 r.use,
        BitVec.ofNat 8 r.axis, 0, 0, 0])

/-- The claim key (R117): the role bit × 2^48 plus the serial.  A single head takes the White role bit (R351). -/
def claimKey (role : Bool) (serial : BitVec 48) : Nat := b2n role * 281474976710656 + serial.toNat

def State.ownKey (s : State) : Nat := claimKey s.isBlack Config.serial

end Sys2Proof.Machine
end

