-- ==== Sys2Proof/Machine/FeedbackOps.lean ====
section
/-! DEFINITION. Local feedback ports, the standstill hysteresis and the tracking observer as shared operations
(spec/04_position_feedback.md). -/

namespace Sys2Proof.Machine

/-- The owner that consumes a local port: the line master by LINE_SRC_A and LINE_SRC_B, or an axis by FB_SOURCE (R122). -/
def State.portOwner (s : State) (n : Nat) : Option Owner :=
  if s.parN 0x04110101 0 = n ∨ s.parN 0x041101D0 0 = n then some .line
  else match (List.range 256).find? (fun a => decide (s.parN 0x04000101 a = n)) with
    | none => none
    | some a => some (.axis ⟨a % 256, by omega⟩)

def State.ownerObs (s : State) (o : Owner) : Observer :=
  match o with
  | .line => s.line.obs
  | .axis a => (s.axis a.val).obs

/-- An observer changes; the line master's with the one behind its remote readings. -/
def State.modOwnerObs (s : State) (o : Owner) (f : Observer → Observer) : State :=
  match o with
  | .line => { s with line := { s.line with obs := f s.line.obs, remoteObs := f s.line.remoteObs } }
  | .axis a => s.modObs a.val f

/-- A counted edge (R125, R126): the count, the last two edges and the direction. -/
def FbPort.counted (x : FbPort) (up : Bool) (stamp : Int) : FbPort :=
  { x with count := smod 48 (x.count + (if up then 1 else -1)), e2 := x.e1, e1 := some ⟨stamp, up⟩, lastUp := up }

/-- The time of the first 5 ns sample that shows a level which came at a stamp (R124). -/
def sampleTime (stamp : Int) : Int := -(-stamp / 5) * 5

/-- A level that stood for `held` consecutive samples passes the port's filter (R124). -/
def State.fbPasses (s : State) (n held : Nat) : Bool := decide (s.parN 0x04100002 n ≤ held)

/-- What the latch of the current cycle holds of a port (R125), and its readings at the boundary (R147). -/
def FbPort.latch (x : FbPort) : FbPort :=
  { x with latched := x.count, latchedE1 := x.e1, latchedE2 := x.e2, latchedBoth := x.bothStamp
           ssiSeen := x.ssiValid, ssiValid := false
           read := { phaseErrs := x.phaseErrs, inferCnt := x.inferCnt, idxCnt := x.idxCnt, idxLatch := x.idxLatch, idxDev := x.idxDev
                     ssiErrs := x.ssiErrs, hallErrs := x.hallErrs } }

/-- The readings of an observer at the boundary (R147). -/
def Observer.latch (x : Observer) : Observer :=
  { x with read := { raw := x.raw, fpos := x.fpos, vHat := x.vHat, aHat := x.aHat, sampleErrs := x.sampleErrs } }

/-- A change at a stamp: the latch of cycle k contains it when the stamp is at or before t_k (R125). -/
def State.changeFb (s : State) (n : Nat) (stamp : Int) (f : FbPort → FbPort) : State :=
  s.modFb n (fun x =>
    let y := f x
    if s.cyc.running && decide (stamp ≤ s.tCycle s.cyc.cycle) then
      { y with latched := y.count, latchedE1 := y.e1, latchedE2 := y.e2, latchedBoth := y.bothStamp }
    else y)

/-- FB_LATCH (R125) of every port, the readings of every observer (R147), and those of wall time (R415). -/
def State.latchAll (s0 : State) : State :=
  let s := (List.range 16).foldl (fun s n => s.modFb n FbPort.latch) s0
  { s with
    axes := smap (fun _ => Axis.reset) (fun _ (x : Axis) => { x with obs := x.obs.latch }) s.axes
    line := { s.line with obs := s.line.obs.latch }
    time := { s.time with read := s.time.readNow } }

/-- The ports in an SSI mode drive FBn_C, high at rest, or release it (R123, R375). -/
def State.driveClocks (s : State) (on : Bool) : State :=
  (List.range 16).foldl (fun s n => if 3 ≤ s.parN 0x04100001 n then s.modFb n (fun x => { x with cDriven := on, c := true }) else s) s

/-- |v̂|, in V48, exceeds a quarter of r_max = min(25 Mcounts/s, 200 MHz / FB_FILTER) (R126, R132). -/
def State.fastCount (s : State) (n : Nat) (v : Int) : Bool :=
  decide (25000000 * 65536 < 4 * v.natAbs) || decide (200000000 * 65536 < 4 * v.natAbs * s.parN 0x04100002 n)

/-- A phase error (R131, R132): the count holds, or moves by 2 in the direction of v̂ in the infer mode.  Where PU still stands after a failed
check, a further error makes the next check the first one after it (log 159). -/
def State.phaseErr (s : State) (n : Nat) (stamp : Int) (a b infer : Bool) : State :=
  let v : Int := match s.portOwner n with
    | none => 0
    | some o => (s.ownerObs o).vHat
  let go := infer && decide (s.parN 0x04100007 n = 1) && s.fastCount n v
  s.changeFb n stamp (fun x =>
    { x with
      a := a, b := b, phaseErrs := inc32 x.phaseErrs, qerr := true, pu := true, errPending := true, errStamp := stamp
      bothStamp := some stamp, puNow := true
      count := if go then smod 48 (x.count + (if v < 0 then -2 else 2)) else x.count
      inferred := x.inferred || go
      inferCnt := if go then inc32 x.inferCnt else x.inferCnt })

/-! Hall sequence (Table FBK-2). -/

def hallStep (code : Nat) : Option Nat :=
  match code with
  | 1 => some 0
  | 3 => some 1
  | 2 => some 2
  | 6 => some 3
  | 4 => some 4
  | 5 => some 5
  | _ => none

/-! SSI (R128, R129). -/

/-- t_SSI in ns, rounded up to 5 ns. -/
def State.tSsi (s : State) (n : Nat) : Nat :=
  let bits := s.parN 0x04100010 n + s.parN 0x04100011 n + 1
  let clk := s.parN 0x04100013 n
  5 * cdiv (bits * 100000 + s.parN 0x04100014 n * clk) (5 * clk)

/-- Reflected Gray code to binary, over n bits. -/
def grayToBin (g : Nat) : Nat → Nat
  | 0 => 0
  | n + 1 =>
    let hi := grayToBin (g / 2) n
    hi * 2 + (if hi % 2 = g % 2 then 0 else 1)

/-! Standstill hysteresis and TO3 (R138 to R144). -/

/-- LOOP_LEN in 2^-16 count; 0 for no loop (R242). -/
def State.loopLen (s : State) : Int := s.par 0x041101D2 0 * 65536

/-- Position differences: modulo 2^32 counts for an axis, modulo the loop length for the line master (R130, R143), in
2^-16 count. -/
def State.wrapPos (s : State) (o : Owner) (d : Int) : Int :=
  match o with
  | .axis _ => smod 48 d
  | .line =>
    let len := s.loopLen
    if len ≤ 0 then smod 48 d
    else
      let m := d % len
      if 2 * m ≥ len then m - len else m

/-- A P48 position in its range. -/
def State.normPos (s : State) (o : Owner) (p : Int) : Int :=
  match o with
  | .axis _ => smod 48 p
  | .line =>
    let len := s.loopLen
    if len ≤ 0 then smod 48 p else p % len

/-- OBS_BW in rad/s. -/
def State.obsBw (s : State) (o : Owner) : Nat :=
  match o with
  | .axis a => s.parN 0x04000102 a.val
  | .line => s.parN 0x04110102 0

/-- n_still (R138). -/
def State.nStill (s : State) (o : Owner) : Nat :=
  let ms := match o with
    | .axis a => s.parN 0x04000103 a.val
    | .line => s.parN 0x04110103 0
  cdiv (ms * 1000000) s.period

/-- n_settle (R138). -/
def State.nSettle (s : State) (o : Owner) : Nat := cdiv 3000000000 (s.obsBw o * s.period)

/-- The preload of R140 in V48: 1 count over the time between the last two edges, on a local quadrature or Hall port. -/
def State.preload (s : State) (n : Nat) : Int :=
  let x := s.fb n
  if s.parN 0x04100001 n = 1 ∨ s.parN 0x04100001 n = 2 then
    match x.latchedE1, x.latchedE2 with
    | some e1, some e2 =>
      let mixed := match x.latchedBoth with
        | none => false
        | some t => decide (e2.stamp < t)
      if e1.up ≠ e2.up ∨ mixed = true ∨ e1.stamp ≤ e2.stamp then 0
      else
        let v := rdiv (65536 * 1000000000) (e1.stamp - e2.stamp)
        if e1.up then v else -v
    | _, _ => 0
  else 0

/-- DIR (R144). -/
def dirOf (old : Bool) (v : Int) : Bool := if v < 0 then true else if v > 0 then false else old

/-- The observer enters STILL at a position in whole counts (R138). -/
def Observer.freeze (x : Observer) (raw : Int) (pos : Int) : Observer :=
  { x with still := true, frozen := raw, fpos := pos, pHat := pos, vHat := 0, aHat := 0 }

/-- TO3 (R141) for one cycle: T in ns, ω in rad/s, τ_s in ns; fpos and p̂ in P48, v̂ in V48, â in A48.  `low` is the order
that trim W5 leaves (ch. 9): the acceleration is held at 0.  Products are rounded half up (log 14). -/
def State.to3 (s : State) (o : Owner) (x : Observer) (isNew low : Bool) (tauNs : Int) : Observer :=
  let t : Int := s.period
  let w : Int := s.obsBw o
  let aHat := if low then 0 else x.aHat
  let vPre := x.vHat + rdiv (aHat * 256 * t) 1000000000
  let pPre := s.normPos o (x.pHat + rdiv (x.vHat * t) 1000000000 + rdiv (aHat * 256 * t * t) 2000000000000000000)
  if isNew then
    let e := s.wrapPos o (x.fpos - (pPre + rdiv (vPre * tauNs) 1000000000))
    let v := sat48 (vPre + rdiv ((if low then 1 else 3) * w * w * t * e) 1000000000)
    let a := if low then 0 else sat48 (aHat + rdiv (w * w * w * t * e) 256000000000)
    { x with pHat := s.normPos o (pPre + rdiv ((if low then 2 else 3) * w * t * e) 1000000000), vHat := v, aHat := a
             dir := dirOf x.dir v }
  else { x with pHat := pPre, vHat := sat48 vPre, aHat := aHat, dir := dirOf x.dir vPre }

/-- One cycle of R138 and R141 on a raw count: hysteresis, preload, and the observer.  At its very first count an axis's observer takes an
update from the reset values as at any other count (log 160). -/
def State.observe (s : State) (o : Owner) (x : Observer) (raw : Int) (isNew low : Bool) (tauNs pre : Int) : Observer :=
  let pos := s.normPos o (raw * 65536)
  let x := { x with settling := x.settling - 1 }
  if !isNew then
    if x.still then { x with age := min 255 (x.age + 1), predicted := true }
    else { s.to3 o x false low tauNs with age := min 255 (x.age + 1), predicted := true }
  else
    let d := s.wrapPos o ((raw - x.frozen) * 65536)
    let y := { x with raw := raw, rawPrev := raw, tauS := tauNs, seen := true, age := 0, predicted := false }
    if x.still then
      if d.natAbs ≥ 131072 then
        { y with still := false, fpos := pos, pHat := pos, vHat := pre, aHat := 0, settling := s.nSettle o, settlingFlag := true
                 stillTimer := 0, dir := dirOf x.dir pre }
      else { y with fpos := s.normPos o (x.frozen * 65536) }
    else
      let timer := if raw ≠ x.rawPrev then 0 else x.stillTimer + 1
      let z := { y with stillTimer := timer, fpos := pos }
      if s.nStill o ≤ timer then z.freeze raw pos else s.to3 o z true low tauNs

end Sys2Proof.Machine
end

