-- ==== Sys2Proof/Machine/LawOps.lean ====
section
/-! DEFINITION. The control laws and the learner on the context block (spec/06_axes_and_control_laws.md R181, R192 to R211).
Words of the context block are read as signed integers; each sum is exact and is moved out once, rounded half up and
saturated (Table LAW-6, R160). -/

namespace Sys2Proof.Machine

/-! The context block (Table LAW-1). -/

def State.ctxWord (s : State) (a off : Nat) : Word48 := sget (fun _ => 0) s.eng.context (a * 1024 + off)

/-- A word as the host reads it. -/
def State.readCtx (s : State) (a off : Nat) : Word48 := if isDeviceWord off then s.deviceWord a off else s.ctxWord a off

def State.ctx (s : State) (a off : Nat) : Int := (s.ctxWord a off).toInt
def State.setCtx (s : State) (a off : Nat) (v : Int) : State :=
  { s with eng := { s.eng with context := sput (fun _ => 0) s.eng.context (a * 1024 + off) (w48 v) } }
def State.setCtxs (s : State) (a off : Nat) : List Int → State
  | [] => s
  | v :: vs => (s.setCtx a off v).setCtxs a (off + 1) vs
def State.ctxs (s : State) (a off n : Nat) : List Int := (List.range n).map (fun i => s.ctx a (off + i))

def State.uHist (s : State) (a : Nat) (c : Nat) : Int := s.ctx a (0x160 + c % 32)
def State.setUHist (s : State) (a c : Nat) (v : Int) : State := s.setCtx a (0x160 + c % 32) v
def State.rHist (s : State) (a : Nat) (c : Nat) : Int := s.ctx a (0x1C0 + c % 32)
def State.setRHist (s : State) (a c : Nat) (v : Int) : State := s.setCtx a (0x1C0 + c % 32) v

/-- A word that the host writes, as the block keeps it: the bits of LAW_FLAGS beside HOLD are reserved and read as 0 (R10, Table LAW-1). -/
def hostWord (off : Nat) (v : Word48) : Word48 := if off = 2 then v &&& 1#48 else v

/-- HOLD of LAW_FLAGS. -/
def State.holdLaw (s : State) (a : Nat) : Bool := (s.ctxWord a 2).getLsbD 0

/-- RUN_AHEAD D. -/
def State.runAhead (s : State) (a : Nat) : Nat := s.parN 0x040001B0 a
/-- The span s = D + σ (R193). -/
def State.span (s : State) (a : Nat) : Nat := s.runAhead a + (s.axis a).law.sigma

/-- A sum moved out at a shift (R194): the value, and whether it saturated. -/
def mvs (v : Int) (shift : Nat) : Int × Bool := (sat48 (rhu v shift), !fits48 (rhu v shift))

def dot (xs ys : List Int) : Int := (List.zipWith (· * ·) xs ys).sum

/-- LAW_SAT rises by the moves that saturated (R194, R213); they and a saturating add set SATF. -/
def State.lawSats (s : State) (a : Nat) (moves adds : List Bool) : State :=
  let n := (moves.filter (fun b => b)).length
  (s.modLife a (fun l => { l with lawSat := add32 l.lawSat n })).modLaw a (fun l =>
    { l with satNow := l.satNow || moves.any (fun b => b) || adds.any (fun b => b) })

/-- The move of the origin of a rotary axis (R196). -/
def State.moveOrigin (s : State) (a np d : Nat) (ra : Int) : State :=
  let ps := s.parN 0x04000132 a
  let off := smod 48 (ra - s.ctx a 3)
  if s.parN 0x04000134 a = 1 ∧ s.ctx a 0x70 = s.ctx a (0x68 + ps) ∧ (off.natAbs : Int) ≥ 1073741824 * 65536 then
    let m := rhu off 40 * 1099511627776
    let s1 := s.setCtx a 3 (smod 48 (s.ctx a 3 + m))
    let s2 := s1.setCtx a (0x150 + ps) (s1.ctx a (0x150 + ps) - m)
    (List.range d).foldl (fun s j => s.setCtx a (0x150 + np + j) (s.ctx a (0x150 + np + j) - m)) s2
  else s

/-- The feed-forward terms of Table LAW-6, each moved out on its own. -/
def State.feedForward (s : State) (a : Nat) (v acc : Int) : (Int × Bool) × (Int × Bool) :=
  (mvs (s.ctx a 0x71 * v) 16, mvs (s.ctx a 0x72 * acc) 8)

/-- SF8 (R193): the state after it and U_LAW. -/
def State.sf8 (s : State) (a k : Nat) (isNew : Bool) (fpos ra va acca : Int) : State × Int :=
  let np := s.parN 0x04000131 a
  let d := (s.axis a).law.d
  let sp := s.span a
  let s := s.moveOrigin a np d ra
  let o := s.ctx a 3
  let xp := s.ctxs a 0x150 np
  let z := s.ctxs a (0x150 + np) d
  let cp := s.ctxs a 0x58 np
  let cx := mvs (dot cp xp) 40
  let ydel := if d = 0 then cx.1 else z.getD (d - 1) 0
  let e := if isNew then smod 48 (fpos - o - ydel) else 0
  let uk := s.uHist a k
  let xn := (List.range np).map (fun i =>
    mvs (dot (s.ctxs a (0x10 + 8 * i) np) xp + s.ctx a (0x50 + i) * uk + s.ctx a (0x60 + i) * e) 40)
  let zn := (List.range d).map (fun j =>
    if j = 0 then mvs (dot cp xp + s.ctx a (0x60 + np) * e) 40
    else mvs (z.getD (j - 1) 0 * 1099511627776 + s.ctx a (0x60 + np + j) * e) 40)
  let xp' := xn.map (·.1)
  let xa := (List.range np).map (fun i =>
    mvs (dot (s.ctxs a (0x80 + 8 * i) np) xp' + ((List.range sp).map (fun j =>
      s.ctx a (0xC0 + 8 * j + i) * s.uHist a (k + 1 + j))).sum) 40)
  let law := mvs (s.ctx a 0x70 * smod 48 (ra - o) - dot (s.ctxs a 0x68 np) (xa.map (·.1))) 16
  let ff := s.feedForward a va acca
  let u1 := law.1 + ff.1.1
  let u2 := sat48 u1 + ff.2.1
  let hold := s.holdLaw a
  let u := if hold then s.uHist a (k + sp) else sat48 u2
  let sats := (cx.2 && decide (d = 0)) :: (xn.map (·.2) ++ zn.map (·.2) ++ xa.map (·.2)
    ++ (if hold then [] else [law.2, ff.1.2, ff.2.2]))
  let adds := if hold then [] else [!fits48 u1, !fits48 u2]
  let s1 := ((s.setCtxs a 0x150 (xp' ++ zn.map (·.1))).setCtxs a 0x158 (xa.map (·.1))).lawSats a sats adds
  (s1.setCtx a 0x1E0 u, u)

/-- One CF4 section (R201): its new state words and its output. -/
def State.cfSection (s : State) (a i : Nat) (x : Int) : State × Int :=
  let base := 0x180 + 16 * i
  let m := if nbit (s.parN 0x04000141 a) i then 3 else 2
  let b := s.ctxs a base (m + 1)
  let as := s.ctxs a (base + 4) m
  let xs := s.ctxs a (base + 8) 3
  let ys := s.ctxs a (base + 11) 3
  let y := clampI (-4398046511103) 4398046511103 (rhu (dot b (x :: xs) - dot as ys) 40)
  ((s.setCtxs a (base + 8) (x :: xs.take 2)).setCtxs a (base + 11) (y :: ys.take 2), y)

/-- CF4 (R201) with the following error of the last released sample. -/
def State.cf4 (s : State) (a k : Nat) (va acca : Int) : State × Int :=
  if s.holdLaw a then
    let u := s.uHist a (k + s.span a)
    (s.setCtx a 0x1E0 u, u)
  else
    let x0 := mvs (s.par 0x04000142 a * s.ctx a 0x1E2) 16
    let r := (List.range (s.parN 0x04000140 a)).foldl (fun (p : State × Int) i => p.1.cfSection a i p.2) (s, x0.1)
    let ff := s.feedForward a va acca
    let u1 := r.2 + ff.1.1
    let u2 := sat48 u1 + ff.2.1
    let u := sat48 u2
    ((r.1.lawSats a [x0.2, ff.1.2, ff.2.2] [!fits48 u1, !fits48 u2]).setCtx a 0x1E0 u, u)

/-! The learner (R208 to R211). -/

/-- The learner's period in 2^-16 count: the loop, 2^32 counts without one, or LRN_PERIOD. -/
def State.lrnPeriod (s : State) (a : Nat) : Int :=
  let p := s.par 0x04000152 a
  if p ≠ 0 then p else if s.loopLen = 0 then 281474976710656 else s.loopLen

def State.bin (s : State) (a i : Nat) : Int := (sget (fun _ => (0 : Word48)) s.eng.pool ((s.axis a).law.lrnBase + i)).toInt
def State.setBin (s : State) (a i : Nat) (v : Int) : State :=
  { s with eng := { s.eng with pool := sput (fun _ => 0) s.eng.pool ((s.axis a).law.lrnBase + i) (w48 v) } }

/-- The learner tables of the other axes, those to come among them: place and length in the pool. -/
def State.otherTables (s : State) (a : Nat) : List (Nat × Nat) :=
  ((List.range 256).filter (fun b => decide (b ≠ a))).flatMap (fun b =>
    let l := (s.axis b).law
    ((l.lrnBase, l.lrnBins) :: l.tableNext.toList).filter (fun (t : Nat × Nat) => decide (t.2 ≠ 0)))

/-- The first place of the learner pool where a contiguous table of n bins fits (R208). -/
def State.tablePlace (s : State) (a n : Nat) : Option Nat :=
  let runs := s.otherTables a
  let free (p : Nat) : Bool := decide (p + n ≤ 262144)
    && runs.all (fun (r : Nat × Nat) => decide (p + n ≤ r.1) || decide (r.1 + r.2 ≤ p))
  ((0 :: runs.map (fun (r : Nat × Nat) => r.1 + r.2)).filter free).foldl (fun m p => match m with
    | none => some p
    | some q => some (min q p)) none

/-- An engine runs a task of the axis. -/
def State.axisBusy (s : State) (a : Nat) : Bool :=
  (List.range 8).any (fun e => match (s.engine e).task with
    | none => false
    | some r => match r.owner with
      | .line => false
      | .axis b => decide (b.val = a))

/-- The table to come replaces the table in force: every word of both runs becomes 0. -/
def State.swapTable (s : State) (a : Nat) : State :=
  let l := (s.axis a).law
  match l.tableNext with
  | none => s
  | some t =>
    let outside (b n p : Nat) : Bool := decide (p < b) || decide (b + n ≤ p)
    let s1 := { s with eng := { s.eng with pool := s.eng.pool.filter (fun (p : Nat × Word48) =>
      outside l.lrnBase l.lrnBins p.1 && outside t.1 t.2 p.1) } }
    s1.modLaw a (fun l => { l with lrnBase := t.1, lrnBins := t.2, tableNext := none })

/-- A table is to come: at once, or where a task of the axis runs at the start of its next task (R154, R169; log 165). -/
def State.changeTable (s : State) (a : Nat) (t : Nat × Nat) : State :=
  let s1 := s.modLaw a (fun l => { l with tableNext := some t })
  if s.axisBusy a then s1 else s1.swapTable a

/-- A learner table is configured: its run of the pool, cleared (R208). -/
def State.configLearner (s : State) (a : Nat) (clear : Bool) : State :=
  let l := (s.axis a).law
  let bins := if s.parN 0x04000150 a = 1 then s.parN 0x04000151 a else 0
  if !clear && decide ((l.tableNext.getD (l.lrnBase, l.lrnBins)).2 = bins) then s
  else
    match s.tablePlace a bins with
    | none => s.changeTable a (0, 0)
    | some p => s.changeTable a (if bins = 0 then 0 else p, bins)

/-- The axis's learner table becomes 0 (Table LAW-5). -/
def State.clearLearner (s : State) (a : Nat) : State :=
  let l := (s.axis a).law
  s.changeTable a (l.tableNext.getD (l.lrnBase, l.lrnBins))

/-- ρ with 47 fraction bits. -/
def rho47 (l p : Int) (bins : Nat) : Nat := (((l % p) * bins * 140737488355328) / p).toNat

/-- The line position L of the line state (R242) in 2^-16 count. -/
def State.linePos (s : State) : Int :=
  let m := if s.loopLen = 0 then 281474976710656 else s.loopLen
  (s.line.obs.pHat - s.par 0x041101D3 0 * 65536) % m

/-- The line values of the observer as it stands, in cycle k. -/
def State.lineNow (s : State) (k : Nat) : LineAt :=
  { cycle := k
    filtered := (s.line.obs.fpos - s.par 0x041101D3 0 * 65536) % (if s.loopLen = 0 then 281474976710656 else s.loopLen)
    pos := s.linePos, vel := s.line.obs.vHat, acc := s.line.obs.aHat }

/-- The line values of cycle k (R155). -/
def State.lineAt (s : State) (k : Nat) : LineAt :=
  (s.line.past.find? (fun (p : LineAt) => decide (p.cycle = k))).getD (s.lineNow k)

/-- The line-master task of cycle k leaves its values: 40 cycles of them stay, of the learner 32 (R210). -/
def State.noteLine (s : State) (k : Nat) : State :=
  { s with line := { s.line with
      past := (s.lineNow k :: s.line.past).take 40
      hist := (sput (fun _ => (0 : Int)) s.line.hist k s.linePos).filter (fun (p : Nat × Int) => decide (k < p.1 + 33)) } }

/-- The repetitive term of apply cycle a0 in the task of cycle k (R209). -/
def State.repTerm (s : State) (a k a0 : Nat) : Int :=
  let h : Int := ((a0 - k) * s.period : Nat)
  let o := s.lineAt k
  let la := o.pos + rdiv (o.vel * h) 1000000000 + rdiv (o.acc * 256 * h * h) 2000000000000000000
  let n := (s.axis a).law.lrnBins
  let r := rho47 la (s.lrnPeriod a) n
  let i := r / 140737488355328
  let f : Int := (r % 140737488355328 : Nat)
  let b0 := s.bin a (i % n)
  sat48 (b0 + rhu (f * (s.bin a ((i + 1) % n) - b0)) 47)

/-- The classes that the mask of the last heat tick allows (R271, R274). -/
def State.arbAllowed (s : State) : List Nat := (List.range 6).filter (fun j => decide (1 ≤ j) && nbit s.arb.mask (j - 1))

/-- Whether class Wj is trimmed at the level in force: the replicated level for W1, W2 and W5, the chip's own for W3 and W4
(R271, R276). -/
def State.trimmed (s : State) (j : Nat) : Bool :=
  let lvl := if j = 3 ∨ j = 4 then s.arb.inForce else s.cyc.trim
  (s.arbAllowed.take lvl).contains j

/-- Whether a take-back for the axis is pending (R211). -/
def State.revPending (s : State) (a : Nat) : Bool := (s.axis a).life.revUntil.isSome

/-- Whether the learner's update in the task of cycle k pauses (Table LAW-8). -/
def State.lrnPause (s : State) (a k : Nat) (isNew : Bool) : Bool :=
  decide (((s.lineAt k).vel.natAbs : Int) < s.par 0x04000156 a) || s.revPending a
    || !(decide (s.axState a = .ready) || decide (s.axState a = .running)) || !isNew || !s.line.valid || s.holdLaw a || s.trimmed 1

/-- The update of one bin from the following error of sample n (R210). -/
def State.lrnUpdate (s : State) (a n : Nat) (fe : Int) : State :=
  let bins := (s.axis a).law.lrnBins
  let j := (((rho47 (sget (fun _ => (0 : Int)) s.line.hist n) (s.lrnPeriod a) bins / 140737488355328 : Nat) : Int)
    - s.par 0x04000155 a) % bins
  let lim := s.par 0x04000157 a
  let v := rhu (s.par 0x04000153 a * s.bin a j.toNat) 47 + rhu (s.par 0x04000154 a * fe) 16
  s.setBin a j.toNat (clampI (-lim) lim v)

end Sys2Proof.Machine
end

