-- ==== Sys2Proof/Machine/ProfileOps.lean ====
section
/-! DEFINITION. Profiles: PVT segments, their evaluation, basic and group moves, their cost, and changes of plan
(spec/07_profiles_and_steppers.md R214 to R231, spec/08_line_time_and_runahead.md R258, spec/09_arbiter.md R278, R279).
Positions and speeds are raw P48 and V48, accelerations raw A48, times ns. -/

namespace Sys2Proof.Machine

/-! Segments (Tables PRO-1, PRO-2). -/

structure SegVal where
  dur : Nat
  flags : Nat
  pEnd : Int
  vEnd : Int
  next : Nat
  deriving DecidableEq, Repr

def pvtVal (g : PvtSeg) : SegVal :=
  { dur := g.w0.toNat / 65536, flags := g.w0.toNat % 65536, pEnd := g.w1.toInt, vEnd := g.w2.toInt
    next := g.w3.toNat / 4294967296 }

def State.segWord (s : State) (i : Nat) : Word48 := sget (fun _ => (0 : Word48)) s.eng.segPool i

def State.pvtAt (s : State) (i : Nat) : PvtSeg :=
  { w0 := s.segWord (4 * i), w1 := s.segWord (4 * i + 1), w2 := s.segWord (4 * i + 2), w3 := s.segWord (4 * i + 3) }

def State.segAt (s : State) (i : Nat) : SegVal := pvtVal (s.pvtAt i)

/-- A segment as the pool keeps it: FLAGS [12:8] and word 3 [31:0] are reserved and read as 0 (R10, Tables PRO-1 and PRO-2). -/
def keptSeg (g : PvtSeg) : PvtSeg := { g with w0 := g.w0 &&& 0xFFFFFFFFE0FF#48, w3 := g.w3 &&& 0xFFFF00000000#48 }

def State.putPvt (s : State) (i : Nat) (g0 : PvtSeg) : State :=
  let g := keptSeg g0
  { s with eng := { s.eng with segPool := sputs (fun _ => 0) s.eng.segPool (4 * i) [g.w0, g.w1, g.w2, g.w3] } }

def SegVal.pvt (g : SegVal) : PvtSeg :=
  { w0 := BitVec.ofNat 48 (g.dur * 65536 + g.flags), w1 := w48 g.pEnd, w2 := w48 g.vEnd
    w3 := BitVec.ofNat 48 (g.next * 4294967296) }

def SegVal.loop (g : SegVal) : Bool := nbit g.flags 15
def SegVal.hold (g : SegVal) : Bool := nbit g.flags 14
def SegVal.event (g : SegVal) : Bool := nbit g.flags 13

/-- The first firmware segment (R218). -/
def segFirm : Nat := 0xF000

/-- The first segment of the firmware bank of an axis (R218). -/
def bankSeg (a bank : Nat) : Nat := segFirm + 16 * a + 8 * bank

/-- A host segment has been written (R218). -/
def State.segIsWritten (s : State) (i : Nat) : Bool := s.eng.segWritten.contains i

/-! Evaluation (R219, Table PRO-3), rounded half up (log 14). -/

/-- A reference: position, velocity, acceleration. -/
structure RefPt where
  r : Int
  v : Int
  acc : Int
  deriving DecidableEq, Repr

/-- The cubic over d units of time from (p0, v0) to (p1, v1), t units in; n units make a second. -/
def hermiteAt (n p0 v0 p1 v1 t d : Int) : RefPt :=
  let dp := smod 48 (p1 - p0)
  { r := smod 48 (p0 + rdiv ((3 * t * t * d - 2 * t * t * t) * dp * n
        + (t * t * t - 2 * t * t * d + t * d * d) * d * v0 + (t * t * t - t * t * d) * d * v1) (d * d * d * n))
    v := sat48 (rdiv ((6 * t * d - 6 * t * t) * dp * n
        + ((3 * t * t - 4 * t * d + d * d) * v0 + (3 * t * t - 2 * t * d) * v1) * d) (d * d * d))
    acc := sat48 (rdiv ((6 * d - 12 * t) * dp * (n * n)
        + ((6 * t - 4 * d) * v0 + (6 * t - 2 * d) * v1) * n * d) (d * d * d * 256)) }

/-- The cubic over d ns, t ns in. -/
def hermite (p0 v0 p1 v1 t d : Int) : RefPt := hermiteAt 1000000000 p0 v0 p1 v1 t d

/-- The cubic over d ns at its middle, u = 0.5. -/
def hermiteMid (p0 v0 p1 v1 d : Int) : RefPt := hermiteAt 2000000000 p0 v0 p1 v1 d (2 * d)

/-- The ramp of R187 from (r0, v0) at a deceleration, dt ns in. -/
def rampAt (r0 v0 dec dt : Int) : RefPt :=
  let sg : Int := if v0 < 0 then -1 else 1
  let drop := rdiv (dec * 256 * dt) 1000000000
  if (v0.natAbs : Int) ≤ drop then { r := smod 48 (r0 + sg * rdiv (v0 * v0) (512 * dec)), v := 0, acc := 0 }
  else
    { r := smod 48 (r0 + rdiv (v0 * dt) 1000000000 - sg * rdiv (dec * 256 * dt * dt) 2000000000000000000)
      v := v0 - sg * drop, acc := -(sg * dec) }

/-! Roots. -/

/-- The largest n below 2^bits above `acc` for which f holds, f monotone and true of `acc`. -/
def largest (f : Nat → Bool) : Nat → Nat → Nat
  | 0, acc => acc
  | b + 1, acc => largest f b (if f (acc + 2 ^ b) then acc + 2 ^ b else acc)

def isqrt (n : Nat) : Nat := largest (fun x => decide (x * x ≤ n)) (n.log2 / 2 + 1) 0
def isqrtUp (n : Nat) : Nat := if isqrt n * isqrt n = n then isqrt n else isqrt n + 1
def icbrtUp (n : Nat) : Nat :=
  let r := largest (fun x => decide (x * x * x ≤ n)) (n.log2 / 3 + 1) 0
  if r * r * r = n then r else r + 1

/-! Basic moves (R224, R225). -/

/-- The limits of a move: speed in V48, accelerations in 2^-16 count/s², jerk in 2^-16 count/s³ (0 for a trapezoid). -/
structure MoveLim where
  vm : Nat
  am : Nat
  dm : Nat
  jm : Nat
  deriving DecidableEq, Repr

/-- The durations of a move: jerk and constant phase of the run-up, cruise, jerk and constant phase of the run-down; or one
Hermite segment. -/
structure Shape where
  tj : Nat
  ta : Nat
  t2 : Nat
  uj : Nat
  ua : Nat
  single : Option Nat
  deriving DecidableEq, Repr

/-- The jerk time and the constant-acceleration time, in ns rounded up, of a speed change dv under a limit and a jerk. -/
def rampTimes (dv lim j : Nat) : Nat × Nat :=
  if dv = 0 then (0, 0)
  else if j = 0 then (0, cdiv (dv * 1000000000) lim)
  else if lim * lim ≤ dv * j then
    let tj := cdiv (lim * 1000000000) j
    (tj, cdiv (dv * 1000000000) lim - tj)
  else (isqrtUp (cdiv (dv * 1000000000000000000) j), 0)

def rampLen (p : Nat × Nat) : Nat := 2 * p.1 + p.2

/-- Twice the travel, times 10^9, of a run-up from x to v and a run-down from v. -/
def travel2 (x v : Nat) (m : MoveLim) : Nat :=
  (x + v) * rampLen (rampTimes (v - x) m.am m.jm) + v * rampLen (rampTimes v m.dm m.jm)

/-- Phases shorter than T join their neighbours (R224): a short cruise joins the run-up at twice its length, so that the
peak speed does not rise; short jerk phases turn a run into one constant acceleration; a short constant phase joins its
jerk phases; a run shorter than T takes the cruise, or the move is one segment. -/
def mergeRun (t : Nat) (p : Nat × Nat) : Nat × Nat :=
  if p.1 = 0 then p
  else if p.1 < t then (0, rampLen p)
  else if p.2 = 0 then p
  else if p.2 < t then (p.1 + p.2, 0)
  else p

def mergeShape (t : Nat) (up : Nat × Nat) (t2 : Nat) (dn : Nat × Nat) (one : Nat) : Shape :=
  let one_ : Shape := { tj := 0, ta := 0, t2 := 0, uj := 0, ua := 0, single := some one }
  let up := mergeRun t up
  let dn := mergeRun t dn
  let short := decide (0 < t2) && decide (t2 < t)
  let up1 := if short then mergeRun t (up.1, up.2 + 2 * t2) else up
  let t2a := if short then 0 else t2
  let upS := decide (0 < rampLen up1) && decide (rampLen up1 < t)
  let up2 := if upS then (0, rampLen up1 + 2 * t2a) else up1
  let t2b := if upS then 0 else t2a
  let dnS := decide (0 < rampLen dn) && decide (rampLen dn < t)
  let dn2 := if dnS then (0, rampLen dn + 2 * t2b) else dn
  let t2c := if dnS then 0 else t2b
  if (0 < rampLen up2 ∧ rampLen up2 < t) ∨ (0 < rampLen dn2 ∧ rampLen dn2 < t) ∨ (rampLen up2 = 0 ∧ t2c = 0)
      ∨ rampLen dn2 = 0 then one_
  else { tj := up2.1, ta := up2.2, t2 := t2c, uj := dn2.1, ua := dn2.2, single := none }

/-- The one Hermite segment of R224: from rest, the least duration within the limits; from a speed x, the constant
deceleration that ends on the target. -/
def singleDur (t x d : Nat) (m : MoveLim) : Nat :=
  if 0 < x then max t (cdiv (2 * d * 1000000000) x)
  else
    let d1 := cdiv (3 * d * 1000000000) (2 * m.vm)
    let d2 := isqrtUp (cdiv (6 * d * 1000000000000000000) (min m.am m.dm))
    let d3 := if m.jm = 0 then 0 else icbrtUp (cdiv (12 * d * 1000000000000000000000000000) m.jm)
    max t (max d1 (max d2 d3))

/-- A run lasts at least T. -/
def atLeast (t : Nat) (p : Nat × Nat) : Nat × Nat := if rampLen p = 0 then p else if rampLen p < t then (0, t) else mergeRun t p

/-- A fall by dv in a run of jerk time tj and constant time ta keeps to a limit and a jerk. -/
def runKeeps (dv : Nat) (p : Nat × Nat) (lim j : Nat) : Bool :=
  decide (dv * 1000000000 ≤ lim * (p.1 + p.2)) && (decide (p.1 = 0) || decide (dv * 1000000000000000000 ≤ j * (p.1 * (p.1 + p.2))))

/-- The speed that a shape gives its middle over d from a speed x. -/
def shapeSpeed (x d up t2 dn : Nat) : Nat := (2 * d * 1000000000 - x * up) / (up + 2 * t2 + dn)

/-- The durations of a move over d from a speed x above v_m (R225): a fall to v_m, longer by e ns than its least, then the rest of the move;
none where it cannot stop on the target so, or where the fall would break a limit. -/
def overShape (t x d : Nat) (m : MoveLim) (e : Nat) : Option Shape :=
  let up0 := atLeast t (rampTimes (x - m.vm) m.dm m.jm)
  let up := if up0.1 = 0 then (0, up0.2 + e) else (up0.1 + e, up0.2)
  let dn := atLeast t (rampTimes m.vm m.dm m.jm)
  let need := (x + m.vm) * rampLen up + m.vm * rampLen dn
  if 2 * d * 1000000000 < need ∨ m.vm = 0 then none
  else
    let t2 := cdiv (2 * d * 1000000000 - need) (2 * m.vm)
    let short := decide (0 < t2) && decide (t2 < t)
    let dn2 := if short then (0, rampLen dn + 2 * t2) else dn
    let t2 := if short then 0 else t2
    if runKeeps (x - shapeSpeed x d (rampLen up) t2 (rampLen dn2)) up m.dm m.jm then
      some { tj := up.1, ta := up.2, t2 := t2, uj := dn2.1, ua := dn2.2, single := none }
    else none

/-- The shape of a move from a speed above v_m with the least of the tried extensions of its fall: the whole nanoseconds of the phases lower
the middle speed a little, and the fall to it must keep d_m and j_m. -/
def overPlan (t x d : Nat) (m : MoveLim) : Option Shape :=
  (0 :: (List.range 40).map (fun i => 2 ^ i)).findSome? (overShape t x d m)

/-- The durations of a move over d from a speed x of at most v_m towards the target, which can stop on it. -/
def planShape (t x d : Nat) (m : MoveLim) : Shape :=
  let vp := if m.vm ≤ x then m.vm
    else largest (fun v => decide (v ≤ m.vm) && (decide (v ≤ x) || decide (travel2 x v m ≤ 2 * d * 1000000000))) 48 0
  let up := if vp < x then rampTimes (x - vp) m.dm m.jm else rampTimes (vp - x) m.am m.jm
  let dn := rampTimes vp m.dm m.jm
  let left := 2 * d * 1000000000 - ((x + vp) * rampLen up + vp * rampLen dn)
  let t2 := if vp = 0 then 0 else cdiv left (2 * vp)
  mergeShape t up t2 dn (singleDur t x d m)

/-- A piece of a move: its duration, end position and end speed. -/
structure Piece where
  dur : Nat
  p : Int
  v : Int
  deriving DecidableEq, Repr

/-- A run from speed x to speed v, with jerk time tj and constant time ta, from position p. -/
def runPieces (p x v : Int) (tj ta : Nat) : List Piece :=
  if tj = 0 then
    if ta = 0 then [] else [⟨ta, p + rdiv ((x + v) * ta) 2000000000, v⟩]
  else
    let dv := v - x
    let h : Int := (tj + ta : Nat)
    let v1 := x + rdiv (dv * tj) (2 * h)
    let v2 := v - rdiv (dv * tj) (2 * h)
    let p1 := p + rdiv (x * tj) 1000000000 + rdiv (dv * tj * tj) (6000000000 * h)
    let p2 := p1 + rdiv ((v1 + v2) * ta) 2000000000
    let p3 := p + rdiv ((x + v) * (2 * tj + ta : Nat)) 2000000000
    ⟨tj, p1, v1⟩ :: ((if ta = 0 then [] else [⟨ta, p2, v2⟩]) ++ [⟨tj, p3, v⟩])

/-- The pieces of a shape over a signed distance from speed x (along the distance), ending exactly on p + dist. -/
def shapePieces (p : Int) (x : Nat) (dist : Int) (h : Shape) : List Piece :=
  let sg : Int := if dist < 0 then -1 else 1
  let d := dist.natAbs
  match h.single with
  | some n => [⟨n, p + dist, 0⟩]
  | none =>
    let up := 2 * h.tj + h.ta
    let dn := 2 * h.uj + h.ua
    let vq : Int := shapeSpeed x d up h.t2 dn
    let a1 := runPieces 0 x vq h.tj h.ta
    let pA := rdiv (((x : Int) + vq) * up) 2000000000
    let pB := (d : Int) - rdiv (vq * dn) 2000000000
    let cr := if h.t2 = 0 then [] else [⟨h.t2, pB, vq⟩]
    let a3 := runPieces (if h.t2 = 0 then pA else pB) vq 0 h.uj h.ua
    let all := a1 ++ cr ++ a3
    let ends := all.dropLast ++ (all.drop (all.length - 1)).map (fun q => { q with p := (d : Int), v := 0 })
    ends.map (fun q => ⟨q.dur, p + sg * q.p, sg * q.v⟩)

/-- The largest DURATION. -/
def maxDur : Nat := 4294967295

/-- One piece split into the fewest equal parts that fit DURATION (R224). -/
def splitPiece (p v : Int) (q : Piece) : List Piece :=
  let n := cdiv q.dur maxDur
  if n ≤ 1 then [q]
  else (List.range n).map (fun i =>
    let t0 := q.dur * i / n
    let t1 := q.dur * (i + 1) / n
    if i + 1 = n then ⟨t1 - t0, q.p, q.v⟩
    else
      let h := hermite p v q.p q.v t1 q.dur
      ⟨t1 - t0, h.r, h.v⟩)

def splitPieces (p v : Int) : List Piece → List Piece
  | [] => []
  | q :: qs => splitPiece p v q ++ splitPieces q.p q.v qs

/-- The shape of a move over d from a speed x towards the target, of any size; none where it cannot stop on the target in phases of at
least T. -/
def movingShape (t x d : Nat) (m : MoveLim) : Option Shape :=
  if m.vm < x then overPlan t x d m
  else if d * 2000000000 < x * (if x = 0 then 0 else max t (rampLen (rampTimes x m.dm m.jm))) then none
  else some (planShape t x d m)

/-- A basic move from (p, v) to a target (R224, R225): a phase to rest when the move starts away from the target or too fast
to stop on it, then the shape. -/
def basicPieces (t : Nat) (p v target : Int) (m : MoveLim) : List Piece :=
  let dist := smod 48 (target - p)
  let away := decide (v * dist < 0) || decide (dist = 0 ∧ v ≠ 0)
  let pieces :=
    match (if away then none else movingShape t v.natAbs dist.natAbs m) with
    | none =>
      let d0 := max t (cdiv (v.natAbs * 1000000000) m.dm)
      let p1 := p + rdiv (v * d0) 2000000000
      let rest := smod 48 (target - p1)
      ⟨d0, p1, 0⟩ :: (if rest = 0 then [] else shapePieces p1 0 rest (planShape t 0 rest.natAbs m))
    | some h => if dist = 0 then [⟨t, p, 0⟩] else shapePieces p v.natAbs dist h
  splitPieces p v pieces

/-- The pieces as segments of a firmware bank. -/
def pieceSegs (first : Nat) : List Piece → List SegVal
  | [] => []
  | [q] => [{ dur := q.dur, flags := 0, pEnd := q.p, vEnd := q.v, next := segNone }]
  | q :: qs => { dur := q.dur, flags := 0, pEnd := q.p, vEnd := q.v, next := first + 1 } :: pieceSegs (first + 1) qs

def State.putSegs (s : State) (first : Nat) (gs : List SegVal) : State :=
  ((List.range gs.length).zip gs).foldl (fun s (p : Nat × SegVal) => s.putPvt (first + p.1) p.2.pvt) s

/-! Cost (R278). -/

/-- The power at a reference under AX_PMASS and AX_PFRIC, in 2^-24 pW. -/
def powerAt (w : PowerCoef) (x : RefPt) : Int := (w.mass : Int) * x.acc * x.v + (w.fric : Int) * 1000000 * 256 * (x.v.natAbs : Int)

/-- AX_PMASS and AX_PFRIC of an axis. -/
def State.powerCoef (s : State) (a : Nat) : PowerCoef := ⟨s.parN 0x040001C1 a, s.parN 0x040001C2 a⟩

/-- Peak power, and six times the energies drawn and returned with the duration in ns. -/
structure Cost where
  peak : Int
  draw : Int
  back : Int
  deriving DecidableEq, Repr

def Cost.zero : Cost := ⟨0, 0, 0⟩
def Cost.add (a b : Cost) : Cost := ⟨max a.peak b.peak, a.draw + b.draw, a.back + b.back⟩

/-- The cost of one segment, from its power at u = 0, 0.5 and 1. -/
def segCost (w : PowerCoef) (p0 v0 p1 v1 : Int) (dur : Nat) : Cost :=
  let e0 := powerAt w (hermite p0 v0 p1 v1 0 dur)
  let em := powerAt w (hermiteMid p0 v0 p1 v1 dur)
  let e1 := powerAt w (hermite p0 v0 p1 v1 dur dur)
  { peak := max e0 (max em e1)
    draw := (max e0 0 + 4 * max em 0 + max e1 0) * dur
    back := (max (-e0) 0 + 4 * max (-em) 0 + max (-e1) 0) * dur }

def wattUnit : Nat := 16777216000000000000
/-- P_req in W, E_req and B in µJ, both whole joules. -/
def Cost.pReq (c : Cost) : Nat := cdiv c.peak.toNat wattUnit
def Cost.eReq (c : Cost) : Nat := cdiv c.draw.toNat (wattUnit * 6000000000) * 1000000
def Cost.brake (c : Cost) : Nat := c.back.toNat / (wattUnit * 6000000000) * 1000000

/-- The cost of pieces from (p, v). -/
def piecesCost (w : PowerCoef) (p v : Int) : List Piece → Cost
  | [] => Cost.zero
  | q :: qs => (segCost w p v q.p q.v q.dur).add (piecesCost w q.p q.v qs)

/-- The cost of the span that starts at segment i (R279), with the base and the start state. -/
def State.spanCost (s : State) (w : PowerCoef) (base : Int) : Nat → Nat → Int → Int → Cost
  | 0, _, _, _ => Cost.zero
  | n + 1, i, p, v =>
    let g := s.segAt i
    if g.loop then Cost.zero
    else
      let c := segCost w p v (base + g.pEnd) g.vEnd g.dur
      if g.hold ∨ g.next = segNone then c
      else if segFirm ≤ g.next ∧ i < segFirm then c
      else c.add (s.spanCost w base n g.next (base + g.pEnd) g.vEnd)

end Sys2Proof.Machine
end

