-- ==== Sys2Proof/Machine/ProfileRun.lean ====
section
/-! DEFINITION. The reference of an axis, cycle by cycle (R214 to R223, R238), and changes of plan (R187, R258 to R260). -/

namespace Sys2Proof.Machine

/-! Spans (R279). -/

/-- The axis's power group; none outside the budget (R277). -/
def State.powerGroup (s : State) (a : Nat) : Option Nat :=
  let g := s.parN 0x040001C3 a
  if g < 16 then some g else none

def State.modPgroup (s : State) (g : Nat) (f : PowerGroup → PowerGroup) : State := s.setPgroup g (f (s.pgroup g))

/-- The PVT run goes beyond the span in force: its P_req is released at the next seal. -/
def State.endSpan (s : State) (a : Nat) : State :=
  match (s.axis a).span with
  | none => s
  | some p =>
    if p.counted then
      (s.modPgroup p.group (fun g => { g with release := g.release + p.pReq })).modAxis a (fun x =>
        { x with span := some { p with counted := false } })
    else s

/-- A motion that was RUNNING comes to rest: READY, and its command completes (Table LAW-3, R220). -/
def State.motionEnds (s : State) (a : Nat) : State :=
  let s1 := s.modProf a (fun p => { p with running := false, waiting := false, seg := segNone, group := none, grpStopping := false })
  if s.axState a = .running then
    ((s1.modLife a (fun l => { l with state := .ready, direct := false })).modProf a (fun p => { p with ended := true })).finishMotion a 0
  else s1

/-! The sources of R214. -/

def State.setRef (s : State) (a c : Nat) (x : RefPt) : State :=
  s.modProf a (fun p => { p with r := x.r, v := x.v, acc := x.acc, refApply := c })

def State.rest (s : State) (a c : Nat) : State := s.modProf a (fun p => { p with v := 0, acc := 0, refApply := c })

/-- A segment comes into force at a profile time from a start state; a loop pass ends the span and is charged (R279). -/
def State.enterSeg (s : State) (a i : Nat) (t p v base : Int) : State :=
  let g := s.segAt i
  let s1 := s.modProf a (fun x => { x with base := base, seg := i, segStart := t, p0 := p, sv0 := v })
  if g.loop then
    match s.powerGroup a with
    | none => s1.endSpan a
    | some q => (s1.endSpan a).modPgroup q (fun w =>
        { w with charge := w.charge + (segCost (s.axis a).prof.coef p v (base + g.pEnd) g.vEnd g.dur).eReq })
  else s1

/-- The profile event of R222: segment, EVT_CODE, and the wall time at which the segment ends. -/
def State.profileEvent (s : State) (a : Nat) (g : SegVal) (tEnd : Int) : State :=
  if g.event then
    let p := (s.axis a).prof
    s.raise 0x0501 0 a (be 2 p.seg ++ [BitVec.ofNat 8 g.flags] ++ t80Bytes (s.tCycle p.a0 + tEnd))
  else s

/-- The running profile at apply cycle c (R219 to R222). -/
def State.advSeg (s : State) (a c : Nat) : Nat → State
  | 0 => s
  | n + 1 =>
    let p := (s.axis a).prof
    let g := s.segAt p.seg
    let t : Int := ((c : Int) - p.a0) * s.period - p.segStart
    let p1 := smod 48 (p.base + g.pEnd)
    if t < g.dur then s.setRef a c (hermite p.p0 p.sv0 p1 g.vEnd t g.dur)
    else
      let tEnd := p.segStart + g.dur
      let s1 := s.profileEvent a g tEnd
      if g.next = segNone then ((s1.endSpan a).setRef a c ⟨p1, 0, 0⟩).motionEnds a
      else if g.hold then
        ((s1.endSpan a).setRef a c ⟨p1, 0, 0⟩).modProf a (fun x => { x with waiting := true })
      else if p.seg < segFirm ∧ (segFirm ≤ g.next ∨ s.segIsWritten g.next = false) then
        (s1.setRef a c ⟨p1, g.vEnd, 0⟩).axisFault a 9
      else (s1.enterSeg a g.next tEnd p1 g.vEnd (if g.loop then p1 else p.base)).advSeg a c n

/-- A direct reference at apply cycle c (R483): the host's, or the last one carried on. -/
def State.directRef (s : State) (a c : Nat) : State :=
  let p := (s.axis a).prof
  match sget (fun _ => (none : Option (Int × Int))) p.direct c with
  | some (r, v) =>
    (s.setRef a c ⟨r, v, 0⟩).modProf a (fun p =>
      { p with direct := p.direct.filter (fun (e : Nat × Option (Int × Int)) => decide (c < e.1)), directLast := some (r, v), directMiss := 0 })
  | none =>
    match p.directLast with
    | none => (s.rest a c).modProf a (fun p => { p with directMiss := p.directMiss + 1 })
    | some (r, v) =>
      let r1 := smod 48 (r + rdiv (v * s.period) 1000000000)
      (s.setRef a c ⟨r1, v, 0⟩).modProf a (fun p => { p with directLast := some (r1, v), directMiss := p.directMiss + 1 })

/-- HOME_VEL in V48. -/
def State.homeVel (s : State) (a : Nat) : Int := (s.parN 0x0400016A a * s.parN 0x04000166 a * 65536 : Nat)

/-- The reference of a homing (R238): towards the stop, and back from where it was when the stall was seen. -/
def State.homingRef (s : State) (a c : Nat) : State :=
  let p := (s.axis a).prof
  let way : Int := rdiv (s.homeVel a * ((c : Int) - p.a0) * s.period) 1000000000
  let dir : Int := if p.homePos then 1 else -1
  match p.homing with
  | .search =>
    if p.homeTravel ≤ way then s.setRef a c ⟨smod 48 (p.r0 + dir * p.homeTravel), 0, 0⟩
    else s.setRef a c ⟨smod 48 (p.r0 + dir * way), dir * s.homeVel a, 0⟩
  | .stopping => s.setRef a c ⟨smod 48 (p.r0 - dir * way), -dir * s.homeVel a, 0⟩
  | .backOff =>
    if dir * smod 48 (p.r0 - p.homeZero) ≤ way then s.setRef a c ⟨p.homeZero, 0, 0⟩
    else s.setRef a c ⟨smod 48 (p.r0 - dir * way), -dir * s.homeVel a, 0⟩
  | .none => s.rest a c

/-- One PVT run: the reference of apply cycle c (R214). -/
def State.advanceRef (s : State) (a c : Nat) : State :=
  let p := (s.axis a).prof
  if p.ramp then
    let x := rampAt p.r0 p.v0 p.rampDec (((c : Int) - p.rampFrom) * s.period)
    let s1 := s.setRef a c x
    if x.v = 0 then (s1.modProf a (fun p => { p with ramp := false })).motionEnds a else s1
  else if (s.axis a).life.direct then s.directRef a c
  else if p.homing ≠ .none ∧ p.a0 ≤ c then s.homingRef a c
  else if p.running && !p.waiting && decide (p.a0 ≤ c) then s.advSeg a c 3
  else s.rest a c

/-! Entries (Table FRM-6). -/

/-- A servo entry: TORQUE and TLIM. -/
def servoEntry (a apply : Nat) (enable brake : Bool) (u tlim : Int) : RefEntry :=
  { axis := a, ctrl := BitVec.ofNat 8 (b2n enable * 16 + b2n brake * 8), apply := apply, a := w48 u, b := w48 tlim }

/-- RATE_END (R231), Q23.8 microsteps/s. -/
def rateEnd (v : Int) : Int := clampI (-2147483648) 2147483647 (rhu v 8)

/-- A stepper entry (R231): STEP_POS and RATE_END at the end of the cycle, and ICUR. -/
def stepEntry (a apply : Nat) (enable strong homing : Bool) (r v : Int) (icur : Nat) : RefEntry :=
  { axis := a, ctrl := BitVec.ofNat 8 (0x20 + b2n enable * 16 + b2n strong * 8 + b2n homing * 4), apply := apply
    a := w48 (rhu r 16)
    b := BitVec.ofNat 48 ((rateEnd v % 4294967296).toNat * 65536 + icur) }

/-- A park entry. -/
def parkEntry (a apply : Nat) : RefEntry := { axis := a, ctrl := 0x40, apply := apply, a := 0, b := 0 }

def State.isStepper (s : State) (a : Nat) : Bool := decide (s.parN 0x04000160 a = 1)

/-- The local step port of a stepper. -/
def State.localPort (s : State) (a : Nat) : Option Nat :=
  let n := s.parN 0x04000165 a
  if s.isStepper a && decide (n < 8) then some n else none

/-- The current mode of R233 from RATE_END, given the mode before. -/
def State.modeStrong (s : State) (a : Nat) (before : Bool) (v : Int) : Bool :=
  let u : Int := (s.parN 0x04000166 a * 256 : Nat)
  let rate : Int := (rateEnd v).natAbs
  if (s.axis a).prof.homing ≠ .none then false
  else if before then !decide (rate < s.par 0x04000168 a * u)
  else decide (s.par 0x04000169 a * u < rate)

/-- ICUR (R231, R238). -/
def State.icur (s : State) (a : Nat) : Nat :=
  if (s.axis a).prof.homing ≠ .none then s.parN 0x0400016B a else 0xFFFF

/-! Changes of plan (R258 to R260). -/

/-- How much later a fold-late axis's entries are tagged (R257). -/
def State.tagShift (s : State) (a : Nat) : Nat :=
  let l := (s.axis a).law
  if l.foldLate then l.dFold - s.runAhead a else 0

/-- Whether the axis's node is on PATH 1 (R110, R354). -/
def State.onFold (s : State) (a : Nat) : Bool :=
  match s.axisSlot a useFbk with
  | none => false
  | some (n, r) => decide (((s.seg n).node r.node).path = 1)

/-- D_p: the minimum run-ahead on the path in force. -/
def State.dPath (s : State) (a : Nat) : Nat :=
  let l := (s.axis a).law
  if s.onFold a then l.dFold else l.dMin

/-- The first replaced apply cycle of a change of plan that lands at boundary k. -/
def State.firstReplaced (s : State) (a k : Nat) : Nat := k + 1 + min (s.runAhead a) (s.dPath a)

/-- The reference that the plan in force gave to apply cycle c. -/
def State.oldRef (s : State) (a c : Nat) : RefPt :=
  match (s.axis a).law.hist.find? (fun (h : RefHist) => decide (h.c = c)) with
  | some h => ⟨h.r, h.v, h.acc⟩
  | none => ⟨(s.axis a).prof.r, (s.axis a).prof.v, (s.axis a).prof.acc⟩

/-- The reference of an apply cycle is kept for changes of plan. -/
def State.noteRef (s : State) (a c : Nat) (x : RefPt) : State :=
  s.modLaw a (fun l => { l with
    hist := ⟨c, x.r, x.v, x.acc⟩ :: l.hist.filter (fun (h : RefHist) => decide (h.c ≠ c) && decide (c < h.c + 40)) })

def State.sentEntry (s : State) (a c : Nat) : RefEntry := sget (fun _ => parkEntry a 0) (s.axis a).law.sent c

/-- An entry exists for apply cycle c. -/
def State.noteEntry (s : State) (r : RefEntry) : State :=
  s.modLaw r.axis (fun l =>
    { l with
      sent := (sput (fun _ => parkEntry r.axis 0) l.sent r.apply r).filter (fun (e : Nat × RefEntry) => decide (r.apply < e.1 + 40))
      newest := match l.newest with
        | none => some r.apply
        | some n => some (max n r.apply) })

/-- Every entry of the trains still to be sent is noted, once; a node keeps the entry that it holds for a cycle (R257). -/
def State.noteTrains (s : State) : State :=
  (s.eng.trains.flatMap (fun (t : Nat × List RefEntry) => t.2)).foldl (fun s r =>
    let held := match (s.axis r.axis).law.newest with
      | none => false
      | some n => decide (r.apply ≤ n)
    if held then s else s.noteEntry r) s

/-- An entry that waits in a train is replaced there; the answer says whether it was. -/
def State.replaceInTrain (s : State) (r : RefEntry) : State × Bool :=
  let hit := s.eng.trains.any (fun (t : Nat × List RefEntry) => t.2.any (fun q => decide (q.axis = r.axis ∧ q.apply = r.apply)))
  if hit then
    ({ s with eng := { s.eng with
        trains := s.eng.trains.map (fun (t : Nat × List RefEntry) =>
          (t.1, t.2.map (fun q => if q.axis = r.axis ∧ q.apply = r.apply then r else q))) } }, true)
  else (s, false)

/-- The servo replacement of R258. -/
def State.servoReplacement (s : State) (a c : Nat) (old new : RefPt) (rOld : Int) : Int :=
  let lim := s.ctx a 0x73
  let n := mvs (s.ctx a 0x70 * smod 48 (new.r - rOld)) 16
  let kv := mvs (s.ctx a 0x71 * (new.v - old.v)) 16
  let ka := mvs (s.ctx a 0x72 * (new.acc - old.acc)) 8
  clampI (-lim) lim (s.uHist a c + n.1 + kv.1 + ka.1)

/-- One replaced apply cycle c of the plan now in the profile state, whose reference is that of c; the run goes on to
c + 1.  Entries that have left are collected. -/
def State.replanOne (s : State) (a c sh : Nat) (sto : Bool) : State × List RefEntry :=
  let old := s.oldRef a c
  let e := s.sentEntry a c
  let new : RefPt := ⟨(s.axis a).prof.r, (s.axis a).prof.v, (s.axis a).prof.acc⟩
  let s1 := s.advanceRef a (c - sh + 1)
  let enable := e.ctrl.getLsbD 4
  let p1 := (s1.axis a).prof
  let r :=
    if s.isStepper a then
      if sto then { stepEntry a c false (e.ctrl.getLsbD 3) false 0 0 0xFFFF with a := e.a }
      else
        let strong := s.modeStrong a ((s.sentEntry a (c - 1)).ctrl.getLsbD 3) p1.v
        stepEntry a c enable strong (decide (p1.homing ≠ .none)) p1.r p1.v (s1.icur a)
    else if sto then servoEntry a c false false 0 (s.ctx a 0x73)
    else
      let u := if enable then s.servoReplacement a c old new (s.rHist a c) else 0
      servoEntry a c enable (e.ctrl.getLsbD 3) u (s.ctx a 0x73)
  let s2 := if s.isStepper a then s1.setRHist a c (r.a.toInt * 65536)
    else if sto then s1.setUHist a c 0
    else (s1.setUHist a c r.a.toInt).setRHist a c new.r
  let s2 := if s.isStepper a then s2.modProf a (fun p => { p with strong := r.ctrl.getLsbD 3 }) else s2
  let s3 := (s2.noteRef a c new).noteEntry r
  let q := s3.replaceInTrain r
  (q.1, if q.2 then [] else [r])

def State.replanGo (s : State) (a sh : Nat) (sto : Bool) : Nat → Nat → State × List RefEntry
  | 0, _ => (s, [])
  | n + 1, c =>
    let p := s.replanOne a c sh sto
    let q := p.1.replanGo a sh sto n (c + 1)
    (q.1, p.2 ++ q.2)

/-- Replacements that have left in a train: a REV reference range (R259), or the local step port's own queue (R236). -/
def State.sendRange (s : State) (a a0 : Nat) (es : List RefEntry) : State :=
  if es = [] then s
  else
    match s.localPort a with
    | some n =>
      s.modStep n (fun p => { p with
        queue := (p.queue.filter (fun (q : RefEntry) => es.all (fun (r : RefEntry) => decide (r.apply ≠ q.apply))) ++ es).take 16 })
    | none =>
      match s.axisSlot a useFbk with
      | none => s
      | some (n, _) =>
        let s1 := s.modSeg n (fun g => { g with revQ := g.revQ ++ [⟨.range a a0 es, a0⟩] })
        s1.modLife a (fun l => { l with revUntil := some (match l.revUntil with
          | none => a0 + es.length - 1
          | some m => max m (a0 + es.length - 1)) })

/-- The replacements of a plan whose first replaced apply cycle is a0; the plan stands in the profile state. -/
def State.replaceFrom (s : State) (a a0 : Nat) (sto : Bool) : State :=
  let sh := s.tagShift a
  match (s.axis a).law.newest with
  | none => s.advanceRef a (s.axis a).prof.refApply
  | some m =>
    if m + 1 < a0 then s
    else
      let p := (s.advanceRef a (a0 - sh)).replanGo a sh sto (m + 1 - a0) a0
      p.1.sendRange a a0 p.2

/-- Where a new plan starts: its first replaced apply cycle, or the next computed one where no entry exists. -/
def State.planStart (s : State) (a k : Nat) : Nat :=
  match (s.axis a).law.newest with
  | none => (s.axis a).prof.refApply
  | some m => if m + 1 < s.firstReplaced a k then (s.axis a).prof.refApply + s.tagShift a else s.firstReplaced a k

/-- The members that a group stop takes to rest start it in one apply cycle, the latest of their first replaced cycles, and so stay on the
line among themselves (R229). -/
def State.alignStops (s : State) (k : Nat) : State :=
  (List.range 256).foldl (fun t a =>
    let p := (s.axis a).prof
    if p.grpStopping && p.planDec.isSome && p.planAt.isNone then
      let at_ := ((List.range 256).filter (fun b =>
        let q := (s.axis b).prof
        q.grpStopping && q.planDec.isSome && decide (q.group = p.group))).foldl (fun m b => max m (s.planStart b k)) 0
      t.modProf a (fun p => { p with planAt := some at_ })
    else t) s

/-- The planned stop or halt of an axis takes effect at the seal of cycle k (R187, R258, R260): an STO at once, or a ramp from the
reference that the replaced plan gave to a0. -/
def State.flushPlan (s : State) (a k : Nat) : State :=
  let x := s.axis a
  let a0 := s.planStart a k
  if x.life.stoPlan then
    let old := s.oldRef a a0
    let s1 := (s.modLife a (fun l => { l with stoPlan := false })).modProf a (fun p =>
      { p with planDec := none, ramp := false, r := old.r, v := 0, acc := 0 })
    s1.replaceFrom a a0 true
  else
    match x.prof.planDec with
    | none => s
    | some dec =>
      if (match x.prof.planAt with
        | none => false
        | some m => decide (a0 < m)) then s else
      let old := s.oldRef a a0
      let s1 := s.modProf a (fun p =>
        { p with planDec := none, planAt := none, ramp := true, rampDec := dec, rampFrom := a0 - s.tagShift a, r0 := old.r, v0 := old.v })
      s1.replaceFrom a a0 false

end Sys2Proof.Machine
end

