-- ==== Sys2Proof/Machine/ArbiterOps.lean ====
section
/-! DEFINITION. Motion starts: what a request plans and costs, and its admission at a REF seal
(spec/07_profiles_and_steppers.md R215, R220 to R228; spec/09_arbiter.md R277 to R287). -/

namespace Sys2Proof.Machine

/-! Plans. -/

/-- A request changes the plan of a moving axis (R225); a resume is a start from rest (R221). -/
def State.isChange (s : State) (a : Nat) (k : ReqKind) : Bool :=
  match k with
  | .resume => false
  | _ => decide (s.axState a = .running)

/-- The start state (R216) of a request admitted at the seal of cycle k. -/
def State.startRef (s : State) (a k : Nat) (kind : ReqKind) : RefPt :=
  if s.isChange a kind then s.oldRef a (s.planStart a k) else ⟨(s.axis a).prof.r, 0, 0⟩

/-- The pieces of a basic move from a start state. -/
def State.basicPlan (s : State) (a : Nat) (x : RefPt) (target vm am dm jm : Int) : List Piece :=
  basicPieces s.period x.r x.v (smod 48 (target + (s.axis a).prof.homeZero))
    { vm := vm.toNat, am := am.toNat * 256, dm := dm.toNat * 256, jm := jm.toNat * 65536 }

/-- The scale k_i of a member (R226). -/
def State.grpScale (s : State) (a : Nat) : Nat := s.parN 0x04000164 a

/-- The longest member of a group move (R227 step 2). -/
def State.longest (s : State) : List (Nat × Int) → Nat × Int
  | [] => (0, 0)
  | [m] => m
  | m :: ms =>
    let n := s.longest ms
    if m.2.natAbs * s.grpScale n.1 ≥ n.2.natAbs * s.grpScale m.1 then m else n

/-- The largest speed and acceleration of pieces from (p, v). -/
def peaks (p v : Int) : List Piece → Nat × Nat
  | [] => (0, 0)
  | q :: qs =>
    let h0 := hermite p v q.p q.v 0 q.dur
    let hm := hermiteMid p v q.p q.v q.dur
    let h1 := hermite p v q.p q.v q.dur q.dur
    let r := peaks q.p q.v qs
    (max r.1 (max h0.v.natAbs (max hm.v.natAbs h1.v.natAbs)), max r.2 (max h0.acc.natAbs h1.acc.natAbs))

/-- A duration multiplied by λ, in 2^-32, and rounded up. -/
def stretch (lam d : Nat) : Nat := cdiv (d * lam) 4294967296

/-- The durations of a group move, stretched (R227 steps 3 and 5).  The members are (axis, Δ). -/
def State.groupShape (s : State) (ms : List (Nat × Int)) (f a dp j : Int) : Shape :=
  let l := s.longest ms
  let kl := s.grpScale l.1
  let dl := l.2.natAbs
  let m : MoveLim := { vm := f.toNat * kl, am := a.toNat * 256 * kl, dm := dp.toNat * 256 * kl, jm := j.toNat * 65536 * kl }
  let h := planShape s.period 0 dl m
  let pk := peaks 0 0 (shapePieces 0 0 dl h)
  let lam := ms.foldl (fun w (q : Nat × Int) =>
    let d := q.2.natAbs
    max w (max (cdiv (d * pk.1 * 4294967296) (dl * s.parN 0x04000161 q.1))
      (isqrtUp (cdiv (d * pk.2 * 18446744073709551616) (dl * s.parN 0x04000162 q.1))))) 4294967296
  { tj := stretch lam h.tj, ta := stretch lam h.ta, t2 := stretch lam h.t2, uj := stretch lam h.uj, ua := stretch lam h.ua
    single := h.single.map (stretch lam) }

def memberPieces (r d : Int) (h : Shape) : List Piece := splitPieces r 0 (shapePieces r 0 d h)

/-! Costs (R278, R279, R286). -/

/-- The base of a resume (R220, R221). -/
def State.resumeBase (s : State) (a : Nat) : Int :=
  let p := (s.axis a).prof
  let g := s.segAt p.seg
  if g.loop then smod 48 (p.base + g.pEnd) else p.base

def profileBase (zero r : Int) (relative : Bool) : Int := if relative then r else zero

/-- The longest chain of distinct segments. -/
def chainFuel : Nat := 65536

/-- The values of Table ARB-4 that a request has taken for an axis (R288), or those in force. -/
def State.coefIn (s : State) (ws : List (Nat × PowerCoef)) (a : Nat) : PowerCoef :=
  match ws.find? (fun (p : Nat × PowerCoef) => decide (p.1 = a)) with
  | none => s.powerCoef a
  | some p => p.2

/-- The axes whose motion a request asks for. -/
def ReqKind.axes (a : Nat) : ReqKind → List Nat
  | .group _ ms _ _ _ _ => ms.map (·.1)
  | _ => [a]

def State.reqCost (s : State) (a k : Nat) (kind : ReqKind) (ws : List (Nat × PowerCoef)) : Cost :=
  let x := s.startRef a k kind
  let w := s.coefIn ws a
  match kind with
  | .profile first rel => s.spanCost w (profileBase (s.axis a).prof.homeZero x.r rel) chainFuel first x.r x.v
  | .resume => s.spanCost w (s.resumeBase a) chainFuel (s.segAt (s.axis a).prof.seg).next x.r 0
  | .basic t vm am dm jm => piecesCost w x.r x.v (s.basicPlan a x t vm am dm jm)
  | .home _ => Cost.zero
  | .group _ ms f ac dp j =>
    let h := s.groupShape ms f ac dp j
    ms.foldl (fun c (m : Nat × Int) =>
      let r := (s.axis m.1).prof.r
      let e := piecesCost (s.coefIn ws m.1) r 0 (memberPieces r m.2 h)
      ⟨c.peak + (e.pReq * wattUnit : Nat), c.draw + (e.eReq / 1000000 * (wattUnit * 6000000000) : Nat),
        c.back + (e.brake / 1000000 * (wattUnit * 6000000000) : Nat)⟩) Cost.zero

/-- A waiting S-curve whose replaced plan accelerates at a0 is not admitted (R225, R284). -/
def State.curveBlocked (s : State) (a k : Nat) (kind : ReqKind) : Bool :=
  match kind with
  | .basic _ _ _ _ jm => decide (jm ≠ 0) && s.isChange a kind && decide ((s.startRef a k kind).acc ≠ 0)
  | _ => false

/-- The limits of a power group in W and J. -/
def State.pgMax (s : State) (g : Nat) : Nat := s.parN 0x0C100001 g
def State.pgEmax (s : State) (g : Nat) : Nat := s.parN 0x0C100002 g

/-- No seal could admit the cost (R285). -/
def State.beyondBudget (s : State) (g : Nat) (c : Cost) : Bool :=
  decide (g < 16) && (decide (s.pgMax g < c.pReq) || decide (s.pgEmax g * 1000000 < c.eReq))

/-- A request of this cycle. -/
def State.makeRequest (s : State) (a : Nat) (kind : ReqKind) (ctx : Option CmdCtx) (seq : Option Nat) : Request :=
  let c := s.reqCost a s.cyc.cycle kind []
  { kind := kind, pReq := c.pReq, eReq := c.eReq, brake := c.brake, prio := s.parN 0x040001C0 a
    group := s.parN 0x040001C3 a, cycle := s.cyc.cycle, defer := 0, dmaxDone := false, ctx := ctx, moveSeq := seq
    change := s.isChange a kind, coefs := (kind.axes a).map (fun b => (b, s.powerCoef b)) }

/-! Starts (R29, R215). -/

/-- The span of an admitted start counts in P_run. -/
def State.setSpan (s : State) (a pReq brake g : Nat) : State :=
  s.modAxis a (fun x => { x with span := some { pReq := pReq, brake := brake, group := g, counted := decide (g < 16) } })

/-- The span in force is released at once: a change of plan is admitted (R284). -/
def State.dropSpan (s : State) (a : Nat) : State :=
  match (s.axis a).span with
  | none => s
  | some p =>
    let s1 := if p.counted then s.modPgroup p.group (fun g => { g with pRun := g.pRun - p.pReq }) else s
    s1.modAxis a (fun x => { x with span := none })

/-- The axis RUNS under a new command; a replaced one completes with WRONG_STATE. -/
def State.takeMotion (s : State) (a op : Nat) (ctx : Option CmdCtx) : State :=
  let s1 := ((s.leaveGroup a).finishMotion a 0x0301).modLife a (fun l => { l with state := .running })
  s1.modProf a (fun p => { p with motionCtx := ctx, motionOp := op, ended := false, grpStopping := false, planDec := none })

/-- A profile runs from segment `first` with a base and a start state, from apply cycle a0 on. -/
def State.runProfile (s : State) (a a0 first : Nat) (base r0 v0 : Int) : State :=
  let s1 := s.modProf a (fun p =>
    { p with running := true, waiting := false, ramp := false, a0 := a0, r0 := r0, v0 := v0 })
  s1.enterSeg a first 0 r0 v0 base

/-- An admitted start of one axis at the seal of cycle k. -/
def State.beginOne (s : State) (a k : Nat) (kind : ReqKind) : State :=
  let change := s.isChange a kind
  let x := s.startRef a k kind
  let tag := s.planStart a k
  let a0 := if change then tag - s.tagShift a else k + 3 + s.span a
  let p := (s.axis a).prof
  let s1 := match kind with
    | .profile first rel => s.runProfile a a0 first (profileBase p.homeZero x.r rel) x.r x.v
    | .resume => s.runProfile a a0 (s.segAt p.seg).next (s.resumeBase a) x.r 0
    | .basic t vm am dm jm =>
      let first := bankSeg a (1 - p.bank)
      ((s.putSegs first (pieceSegs first (s.basicPlan a x t vm am dm jm))).modProf a (fun p => { p with bank := 1 - p.bank })).runProfile
        a a0 first 0 x.r x.v
    | .home pos => s.modProf a (fun p =>
        { p with homing := .search, homePos := pos, homeDev := 0, homed := false, a0 := a0, r0 := x.r, v0 := 0
                 homeTravel := (s.parN 0x0400016F a * 65536 : Nat) })
    | .group _ _ _ _ _ _ => s
  if change then s1.replaceFrom a tag false else s1

/-- An admitted group start (R228): one origin for every member. -/
def State.beginGroup (s : State) (k g : Nat) (ms : List (Nat × Int)) (h : Shape) : State :=
  let a0 := k + 3 + ms.foldl (fun n (m : Nat × Int) => max n (s.span m.1)) 0
  ms.foldl (fun s (m : Nat × Int) =>
    let a := m.1
    let p := (s.axis a).prof
    let first := bankSeg a (1 - p.bank)
    let s1 := (s.putSegs first (pieceSegs first (memberPieces p.r m.2 h))).modProf a (fun p =>
      { p with bank := 1 - p.bank, group := some g, grpDelta := m.2 })
    s1.runProfile a a0 first 0 p.r 0) s

/-- P_req, E_req and B of a request at the seal of cycle k: a change of plan is costed anew, also when the plan that it was to replace has
ended meanwhile (R284); every other request keeps its cost (R278). -/
def State.costNow (s : State) (a k : Nat) (q : Request) : Nat × Nat × Nat :=
  if q.change || s.isChange a q.kind then
    let c := s.reqCost a k q.kind q.coefs
    (c.pReq, c.eReq, c.brake)
  else (q.pReq, q.eReq, q.brake)

/-- A request is admitted at the seal of cycle k (R281): the tokens and the power are taken, and the start proceeds. -/
def State.admitStart (s : State) (a k : Nat) (q : Request) : State :=
  let g := q.group
  let s0 := s.modAxis a (fun x => { x with req := none, dmaxHit := false })
  match q.kind with
  | .group grp ms f ac dp j =>
    let h := s.groupShape ms f ac dp j
    let s1 := ms.foldl (fun s (m : Nat × Int) =>
      let r := (s.axis m.1).prof.r
      let c := piecesCost (s.coefIn q.coefs m.1) r 0 (memberPieces r m.2 h)
      (((s.dropSpan m.1).setSpan m.1 c.pReq c.brake g).modProf m.1 (fun p => { p with coef := s.coefIn q.coefs m.1 })).takeMotion m.1 0x0503
        (if m.1 = a then q.ctx else none)) s0
    let s2 := if g < 16 then s1.modPgroup g (fun w =>
      { w with e := w.e - (q.eReq * 1000 : Nat), pRun := w.pRun + q.pReq }) else s1
    s2.beginGroup k grp ms h
  | kind =>
    let c := s.costNow a k q
    let pReq := c.1
    let eReq := c.2.1
    let s1 := (s0.dropSpan a).setSpan a pReq c.2.2 g
    let s2 := if g < 16 then s1.modPgroup g (fun w => { w with e := w.e - (eReq * 1000 : Nat), pRun := w.pRun + pReq }) else s1
    let s3 := (s2.modProf a (fun p => { p with coef := s.coefIn q.coefs a })).beginOne a k kind
    s3.takeMotion a kind.opcode q.ctx

/-- Whether a request of group g is admitted at the seal of cycle k (R281, R284). -/
def State.fits (s : State) (a k : Nat) (q : Request) : Bool :=
  let w := s.pgroup q.group
  let change := s.isChange a q.kind
  let c := s.costNow a k q
  let pReq := c.1
  let eReq := c.2.1
  let pOld := match (s.axis a).span with
    | none => 0
    | some p => if change && p.counted then p.pReq else 0
  !s.curveBlocked a k q.kind
    && (decide (16 ≤ q.group)
        || (decide ((eReq * 1000 : Nat) ≤ w.e) && decide (w.pRun - pOld + pReq ≤ s.pgMax q.group)))

/-- The order of R40: priority, then age, then axis. -/
def reqBefore (x y : Nat × Request) : Bool :=
  decide (x.2.prio < y.2.prio)
    || (decide (x.2.prio = y.2.prio) && (decide (x.2.cycle < y.2.cycle) || (decide (x.2.cycle = y.2.cycle) && decide (x.1 ≤ y.1))))

def insertReq (x : Nat × Request) : List (Nat × Request) → List (Nat × Request)
  | [] => [x]
  | y :: ys => if reqBefore x y then x :: y :: ys else y :: insertReq x ys

/-- The waiting requests of a group in admission order; group 0xFF stands for the axes outside the budget. -/
def State.waitingReqs (s : State) (g : Nat) : List (Nat × Request) :=
  (s.axes.filterMap (fun (p : Nat × Axis) => p.2.req.map (fun q => (p.1, q)))).foldl (fun l x =>
    if x.2.group = g then insertReq x l else l) []

/-- One request is deferred (R282). -/
def State.defer (s : State) (a g : Nat) : State :=
  (s.modAxis a (fun x => { x with req := x.req.map (fun q => { q with defer := min 0xFFFFFF (q.defer + 1) }) })).modPgroup g (fun w =>
    { w with blocked := true, deferrals := inc32 w.deferrals })

/-- A waiting basic move that, built for this seal, no longer fits its bank of 8 segments (R224, R225). -/
def State.tooLong (s : State) (a k : Nat) (kind : ReqKind) : Bool :=
  match kind with
  | .basic t vm am dm jm => decide (8 < (s.basicPlan a (s.startRef a k kind) t vm am dm jm).length)
  | _ => false

/-- Such a request leaves the queue, and its command completes with BAD_VALUE (log 169). -/
def State.dropLong (s : State) (a : Nat) (q : Request) : State :=
  (s.modAxis a (fun x => { x with req := none, dmaxHit := false })).cmdDone? q.ctx q.kind.opcode a stBadValue

/-- Admission in a group (R281): the first request that does not fit holds up every later one.  Outside the budget a
request waits only where R225 makes an S-curve wait. -/
def State.admitGroup (s : State) (k g : Nat) : State :=
  ((s.waitingReqs g).foldl (fun (p : State × Bool) (x : Nat × Request) =>
    if p.1.tooLong x.1 k x.2.kind then (p.1.dropLong x.1 x.2, p.2)
    else if !p.2 && p.1.fits x.1 k x.2 then (p.1.admitStart x.1 k x.2, false)
    else if g < 16 then (p.1.defer x.1 g, true)
    else (p.1.modAxis x.1 (fun y => { y with req := y.req.map (fun q => { q with defer := min 0xFFFFFF (q.defer + 1) }) }), false)) (s, false)).1

/-- Steps 1 and 2 of R280 for one group. -/
def State.refillGroup (s : State) (g : Nat) : State :=
  s.modPgroup g (fun w =>
    let e1 := min ((s.pgEmax g * 1000000000 : Nat) : Int) (w.e + (s.parN 0x0C100003 g * s.period : Nat))
    { w with e := e1 - (w.charge * 1000 : Nat), pRun := w.pRun - w.release, release := 0, charge := 0, blocked := false })

/-- The holding charge of an axis (R279). -/
def State.holdCharge (s : State) (a : Nat) : State :=
  let x := s.axis a
  match s.powerGroup a with
  | none => s
  | some g =>
    if x.life.lastEnable && !x.life.parked then
      s.modPgroup g (fun w => { w with e := w.e - (s.parN 0x040001C4 a * s.period : Nat) })
    else s

/-- The spans of motions that have ended or were stopped, and the credit, after all charges (R279, R280, R283). -/
def State.settleAxis (s : State) (a : Nat) : State :=
  let x := s.axis a
  if s.axState a = .running then s
  else
    match x.span with
    | none => s.modProf a (fun p => { p with ended := false })
    | some p =>
      let s2 := (s.dropSpan a).modProf a (fun p => { p with ended := false })
      if x.prof.ended && decide (p.group < 16) then
        s2.modPgroup p.group (fun w =>
          { w with e := max w.e (min ((s.pgEmax p.group * 1000000000 : Nat) : Int) (w.e + (s.parN 0x0C100004 p.group * p.brake * 10 : Nat))) })
      else s2

/-- One waiting budget write lands, or loses against a lower slot's write of the same object (R40, R287). -/
def State.landBudgetOne (ws : List BudgetWrite) (s : State) (w : BudgetWrite) : State :=
  if ws.any (fun (v : BudgetWrite) => decide (v.which = w.which ∧ v.ctx.slot < w.ctx.slot)) then s.replyLater w.ctx 0x0C02 stConflict []
  else
    let s1 := match w.values with
      | [p, e, c] =>
        if w.which < 16 then
          ((s.setPar (0x0C100001 + w.which * 4096) p).setPar (0x0C100002 + w.which * 4096) e).setPar (0x0C100003 + w.which * 4096) c
        else s
      | [p] => if w.which = 0xFF then s.setPar 0x0C000001 p else s
      | _ => s
    s1.replyLater w.ctx 0x0C02 stDone []

/-- Budget writes land together before step 1 (R287). -/
def State.landBudget (s : State) : State :=
  s.arb.budget.foldl (State.landBudgetOne s.arb.budget) { s with arb := { s.arb with budget := [] } }

/-- The waiting requests of every group, for ARB_QUEUE_READ (R289). -/
def State.arbQueues (s : State) : Sparse (List (Nat × Nat × Nat)) :=
  ((List.range 16).map (fun g =>
    (g, (s.waitingReqs g).map (fun (x : Nat × Request) => (x.1, x.2.prio, x.2.defer))))).filter (fun q => decide (q.2 ≠ []))

def State.noteQueues (s : State) : State := { s with arb := { s.arb with queues := s.arbQueues } }

/-- The Arbiter at the seal of cycle k (R280). -/
def State.sealArbiter (s : State) (k : Nat) : State :=
  let s1 := s.landBudget
  let s2 := (List.range 16).foldl (fun s g => s.refillGroup g) s1
  let s3 := (List.range 256).foldl (fun s a => s.settleAxis a) ((List.range 256).foldl (fun s a => s.holdCharge a) s2)
  let s4 := (0xFF :: List.range 16).foldl (fun s g => s.admitGroup k g) s3
  s4.noteQueues

end Sys2Proof.Machine
end

