-- ==== Sys2Proof/Machine/Engine.lean ====
section
/-! DEFINITION. The control engines as shared operations: register file, memory map, store buffer, accumulators, flags,
task faults and the end of a task (spec/05_control_engines.md). -/

namespace Sys2Proof.Machine

/-! Registers (Tables ENG-1 to ENG-3). -/

def Engine.xr (x : Engine) (i : Nat) : Word48 := sget (fun _ => 0) x.x i
def Engine.setX (x : Engine) (i : Nat) (v : Word48) : Engine := { x with x := sput (fun _ => 0) x.x i v }
def Engine.ar (x : Engine) (i : Nat) : BitVec 20 := sget (fun _ => 0) x.a i
def Engine.setA (x : Engine) (i : Nat) (v : BitVec 20) : Engine := { x with a := sput (fun _ => 0) x.a i v }
def Engine.or (x : Engine) (i : Nat) : BitVec 20 := sget (fun _ => 0) x.o i
def Engine.setO (x : Engine) (i : Nat) (v : BitVec 20) : Engine := { x with o := sput (fun _ => 0) x.o i v }
def Engine.lcr (x : Engine) (i : Nat) : BitVec 16 := sget (fun _ => 0) x.lc i
def Engine.setLc (x : Engine) (i : Nat) (v : BitVec 16) : Engine := { x with lc := sput (fun _ => 0) x.lc i v }
def Engine.sclr (x : Engine) (i : Nat) : BitVec 6 := sget (fun _ => 0) x.scl i
def Engine.setScl (x : Engine) (i : Nat) (v : BitVec 6) : Engine := { x with scl := sput (fun _ => 0) x.scl i v }
def Engine.accr (x : Engine) (i : Nat) : Acc := sget (fun _ => ({} : Acc)) x.acc i
def Engine.setAcc (x : Engine) (i : Nat) (v : Acc) : Engine := { x with acc := sput (fun _ => ({} : Acc)) x.acc i v }

/-! Flags (Table ENG-2). -/

def flagZ : Nat := 0
def flagN : Nat := 1
def flagV : Nat := 2
def flagResc : Nat := 12
def flagSat : Nat := 13
def flagWrap : Nat := 14
def flagLost : Nat := 15

def Engine.flag (x : Engine) (i : Nat) : Bool := x.flags.getLsbD i

/-- FLAGS with bit i set to b. -/
def putFlag (f : BitVec 16) (i : Nat) (b : Bool) : BitVec 16 :=
  if b then f ||| BitVec.ofNat 16 (2 ^ i) else f &&& ~~~(BitVec.ofNat 16 (2 ^ i))

/-- Z and N of a result. -/
def Engine.setZN (x : Engine) (v : Word48) : Engine :=
  { x with flags := putFlag (putFlag x.flags flagZ (decide (v = 0))) flagN v.msb }

/-- Z, N and V of a result whose exact value is `exact`. -/
def Engine.setZNV (x : Engine) (v : Word48) (exact : Int) : Engine :=
  let y := x.setZN v
  { y with flags := putFlag y.flags flagV (!fits48 exact) }

/-- A sticky flag is set when b holds. -/
def Engine.stick (x : Engine) (i : Nat) (b : Bool) : Engine :=
  if b then { x with flags := putFlag x.flags i true } else x

/-! Memory map (Table ENG-4, R151, R152). -/

/-- What a scratch word holds that no task has written: 0 after the boot's clearing (R467); after a self-test, whatever the
test left there (R153, R177), a free value. -/
def scratchDefault (ctr addr : Nat) : Word48 := if ctr = 0 then 0 else Config.scratchWord ctr addr

/-- The word that an engine reads at an address of Table ENG-4; none is an address fault. -/
def State.wordAt (s : State) (x : Engine) (o : Owner) (addr : Nat) : Option Word48 :=
  if addr < 0xF000 then some (sget (scratchDefault x.scratchCtr) x.scratch addr)
  else if addr < 0x10000 then some (sget (fun _ => 0) x.consts (addr - 0xF000))
  else if addr < 0x10100 then some (sget (fun _ => 0) x.taskWin (addr - 0x10000))
  else if addr < 0x20000 then none
  else if addr < 0x20100 then some (sget (fun _ => 0) x.fbWin (addr - 0x20000))
  else if addr < 0x30000 then none
  else if addr < 0x30400 then
    match o with
    | .line => some (sget (fun _ => 0) s.eng.lineBlock (addr - 0x30000))
    | .axis _ => none
  else if addr < 0x40000 then none
  else if addr < 0x80000 then
    match o with
    | .line => none
    | .axis a =>
      if (addr - 0x40000) / 1024 = a.val then
        some (if isDeviceWord (addr % 1024) then s.deviceWord a.val (addr % 1024) else sget (fun _ => 0) s.eng.context (addr - 0x40000))
      else none
  else if addr < 0xC0000 then
    match o with
    | .line => none
    | .axis a =>
      let l := (s.axis a.val).law
      if l.lrnBase ≤ addr - 0x80000 ∧ addr - 0x80000 < l.lrnBase + l.lrnBins then
        some (sget (fun _ => 0) s.eng.pool (addr - 0x80000))
      else none
  else if addr < 0x100000 then some (sget (fun _ => 0) s.eng.segPool (addr - 0xC0000))
  else none

/-- Whether an engine may write an address of Table ENG-4. -/
def State.writable (s : State) (o : Owner) (addr : Nat) : Bool :=
  if addr < 0xF000 then true
  else if addr < 0x20100 then false
  else if addr < 0x20200 then true
  else if addr < 0x30000 then false
  else if addr < 0x30400 then decide (o = .line)
  else if addr < 0x40000 then false
  else if addr < 0x80000 then
    match o with
    | .line => false
    | .axis a => decide ((addr - 0x40000) / 1024 = a.val)
  else if addr < 0xC0000 then
    match o with
    | .line => false
    | .axis a =>
      let l := (s.axis a.val).law
      decide (l.lrnBase ≤ addr - 0x80000 ∧ addr - 0x80000 < l.lrnBase + l.lrnBins)
  else false

/-- The shared memories: context, learner pool and profile regions (R162), and the line block. -/
def sharedAddr (addr : Nat) : Bool := decide (0x30000 ≤ addr)

/-- A word is written at an address (Table ENG-4); the private regions are the engine's own, and writes to the reserved
words of the output window are discarded (Table ENG-7). -/
def State.writeWord (s : State) (e : Nat) (addr : Nat) (v : Word48) : State :=
  if addr < 0xF000 then s.modEngine e (fun x => { x with scratch := sput (scratchDefault x.scratchCtr) x.scratch addr v })
  else if addr < 0x20100 then s
  else if addr < 0x20110 then s.modEngine e (fun x => { x with outWin := sput (fun _ => 0) x.outWin (addr - 0x20100) v })
  else if addr < 0x30000 then s
  else if addr < 0x30400 then
    { s with eng := { s.eng with lineBlock := sput (fun _ => 0) s.eng.lineBlock (addr - 0x30000) v } }
  else if addr < 0x40000 then s
  else if addr < 0x80000 then
    if isDeviceWord (addr % 1024) then s.setDeviceWord ((addr - 0x40000) / 1024) (addr % 1024) v
    else { s with eng := { s.eng with context := sput (fun _ => 0) s.eng.context (addr - 0x40000) v } }
  else if addr < 0xC0000 then
    { s with eng := { s.eng with pool := sput (fun _ => 0) s.eng.pool (addr - 0x80000) v } }
  else s

/-- The newest buffered value of an address, or the word in memory (R168). -/
def State.loadWord (s : State) (x : Engine) (o : Owner) (addr : Nat) : Option Word48 :=
  match s.wordAt x o addr with
  | none => none
  | some m =>
    match x.stores.reverse.find? (fun p => p.1 == addr) with
    | none => some m
    | some p => some p.2

/-- Stores leave the buffer, oldest first, until n remain (R168). -/
def State.retire (s : State) (e : Nat) : Nat → State
  | 0 => s
  | k + 1 =>
    match (s.engine e).stores with
    | [] => s
    | (addr, v) :: rest => ((s.modEngine e (fun x => { x with stores := rest })).writeWord e addr v).retire e k

/-- The store buffer is empty afterwards. -/
def State.drain (s : State) (e : Nat) : State := s.retire e (s.engine e).stores.length

/-! Accumulators (R158 to R160). -/

/-- p is added exactly; a wrap moves W, or is lost beyond ±3. -/
def Acc.add (c : Acc) (p : Int) : Acc :=
  let v := c.reg.toInt + p
  let r := BitVec.ofInt 104 v
  if v > 2 ^ 103 - 1 then
    if c.w < 3 then { c with reg := r, w := c.w + 1 } else { c with reg := r, lost := true, lostUp := true }
  else if v < -2 ^ 103 then
    if c.w > -3 then { c with reg := r, w := c.w - 1 } else { c with reg := r, lost := true, lostUp := false }
  else { c with reg := r }

/-- The accumulator that holds v, with W and LOST clear. -/
def Acc.load (v : Int) : Acc := { reg := BitVec.ofInt 104 v }

/-- One MAC step (R158, R159). -/
def Acc.mac (c : Acc) (clr neg : Bool) (m n : Word48) : Acc :=
  let p := m.toInt * n.toInt
  let q := if neg then -p else p
  if clr then Acc.load q else c.add q

/-- The least total shift from s on at which the rounded value fits, and that value; at most `fuel` steps more. -/
def autoShift (v : Int) : Nat → Nat → Nat × Int
  | s, 0 => (s, rhu v s)
  | s, fuel + 1 => if fits48 (rhu v s) then (s, rhu v s) else autoShift v (s + 1) fuel

/-- What a move writes and sets (Table ENG-8): the result, SCL, and SATF, RESC, WRAPF, LOSTF.  The table does not state SCL where a move
without AUTO saturates at W = 0: it becomes 0 as in the other rows without added shifts (log 166). -/
structure MoveOut where
  value : Int
  scl : Nat
  sat : Bool
  resc : Bool
  wrap : Bool
  lost : Bool
  deriving DecidableEq, Repr

def Acc.move (c : Acc) (s : Nat) (auto : Bool) : MoveOut :=
  if c.lost then
    { value := if c.lostUp then 140737488355327 else -140737488355328
      scl := 0, sat := true, resc := false, wrap := false, lost := true }
  else if c.w ≠ 0 then
    { value := if c.w > 0 then 140737488355327 else -140737488355328
      scl := 0, sat := true, resc := false, wrap := true, lost := false }
  else if fits48 (rhu c.reg.toInt s) then
    { value := rhu c.reg.toInt s, scl := 0, sat := false, resc := false, wrap := false, lost := false }
  else if auto then
    let r := autoShift c.reg.toInt (s + 1) 57
    { value := r.2, scl := r.1 - s, sat := false, resc := true, wrap := false, lost := false }
  else
    { value := sat48 (rhu c.reg.toInt s), scl := 0, sat := true, resc := false, wrap := false, lost := false }

/-- The task has met an arithmetic fault, which ends it at END (R176). -/
def Engine.arithFault (x : Engine) (b : Bool) : Engine :=
  if b then { x with task := x.task.map (fun r => { r with arith := true }) } else x

/-- A move of ACCi into Xd. -/
def Engine.moveOut (x : Engine) (i d s : Nat) (auto : Bool) : Engine :=
  let r := (x.accr i).move s auto
  let y := (x.setX d (w48 r.value)).setScl i (BitVec.ofNat 6 r.scl)
  ((((y.stick flagSat r.sat).stick flagResc r.resc).stick flagWrap r.wrap).stick flagLost r.lost).arithFault r.lost

/-! Tasks (R169 to R177). -/

/-- The line master's task counts as done, so that the other tasks of the cycle may start (R155). -/
def State.taskEnded (s : State) (o : Owner) (cycle : Nat) : State :=
  match o with
  | .line => { s with eng := { s.eng with lineDone := some cycle } }
  | .axis _ => s

def State.ownerTask (s : State) (o : Owner) : TaskSt :=
  match o with
  | .line => s.line.task
  | .axis a => (s.axis a.val).task

def State.modOwnerTask (s : State) (o : Owner) (f : TaskSt → TaskSt) : State :=
  match o with
  | .line => { s with line := { s.line with task := f s.line.task } }
  | .axis a => s.modTask a.val f

/-- The clocks that a task has lost to shared banks (R168), which its program's cycle count takes in: a free value (log 23). -/
def State.stalled (s : State) (e : Nat) (r : Running) : State × Running :=
  let n := Config.freeNat s.freeCtr
  ((s.modEngine e (fun x => { x with bankStalls := add32 x.bankStalls n })).useFree 1, if r.library then r else { r with cycles := r.cycles + n })

/-- What the readings of Table ENG-21 record of a task that ended. -/
def State.recordTask (s : State) (e : Nat) (r : Running) : State :=
  let s1 := s.modOwnerTask r.owner (fun t =>
    { t with cycles := r.cycles, maxCycles := max t.maxCycles r.cycles, lastEngine := e, doneCycle := some r.cycle })
  (s1.modEngine e (fun x =>
    { x with task := none, busyNow := x.busyNow + r.cycles, cycBusy := x.cycBusy + r.cycles, lastTask := ownerInst r.owner })).taskEnded r.owner r.cycle

/-- The cost that the load model counts for a task (R173): TASK_COST, or the library's sum (Table ENG-16), where a stepper runs TO3 and PVT
only. -/
def State.taskCost (s : State) (o : Owner) : Nat :=
  match o with
  | .line => if s.parN 0x04000120 lineInst = 0 then 60 else s.parN 0x04000121 lineInst
  | .axis a =>
    if s.parN 0x04000120 a.val = 0 then
      if s.parN 0x04000160 a.val = 1 then 140
      else 60 + (match s.parN 0x04000130 a.val with
        | 1 => 560
        | 2 => 240
        | _ => 0)
        + (if s.parN 0x04000150 a.val = 1 then 90 else 0) + 80
    else s.parN 0x04000121 a.val

/-- The cost-exceeded event, once per axis (R173, 0x0103). -/
def State.costEvent (s : State) (r : Running) : State :=
  if r.cycles > s.taskCost r.owner && !(s.ownerTask r.owner).costRaised then
    (s.modOwnerTask r.owner (fun t => { t with costRaised := true })).raise 0x0103 1 (ownerInst r.owner) (be 4 r.cycles)
  else s

/-- An engine without a task leaves service when a rotation waited for it (R177). -/
def State.takeRotation (s : State) (e : Nat) : State :=
  if (s.engine e).rotWait then
    s.modEngine e (fun x => { x with rotWait := false, rotated := true, inService := false, rotStart := s.coreTicks })
  else s

/-- A task fault of Table ENG-18 (R176): the task does not publish, ENG_STATUS and ENG_FAULTS record it, the event carries
cause, PC and CODE, and the axis faults with cause 0x03, or 0x08 for its learner table. -/
def State.taskFault (s : State) (e cause code axCause : Nat) : State :=
  match (s.engine e).task with
  | none => s
  | some r0 =>
    let pc := (s.engine e).pc.toNat
    let q := (s.drain e).stalled e r0
    let r := q.2
    let s1 := q.1.modEngine e (fun x =>
      { x with
        illegal := x.illegal || cause == 0, addrFault := x.addrFault || cause == 1, arith := x.arith || cause == 2
        watchdog := x.watchdog || cause == 3, eccUnc := x.eccUnc || cause == 5 })
    let s2 := (((s1.recordTask e r).modOwnerTask r.owner (fun t => { t with faults := inc32 t.faults })).costEvent r).takeRotation e
    let s3 := s2.raise 0x0104 1 (ownerInst r.owner) ([BitVec.ofNat 8 cause] ++ be 2 pc ++ be 2 code)
    match r.owner with
    | .line => { s3 with line := { s3.line with taskFault := true } }
    | .axis a => s3.axisFault a.val axCause

/-- An engine is marked FAILED (R174, R175): its task ends without publishing and counts as an overrun, the event is
raised, and a second FAILED engine is a fatal fault. -/
def State.engineFail (s : State) (e cause : Nat) : State :=
  if (s.engine e).failed then s
  else
    let s1 := match (s.engine e).task with
      | none => s
      | some r =>
        let q := (s.drain e).stalled e r
        (q.1.recordTask e q.2).modOwnerTask r.owner (fun t => { t with overruns := inc32 t.overruns })
    let s2 := s1.modEngine e (fun x =>
      { x with failed := true, inService := false, rotated := false, rotWait := false, stores := []
               eccUnc := x.eccUnc || cause == 0 })
    let s3 := s2.raise 0x0102 2 e [BitVec.ofNat 8 cause]
    if 2 ≤ ((List.range 8).filter (fun i => (s3.engine i).failed)).length then s3.fatal 0x01 else s3

/-- The REF entry that an output window spells (R156, Table ENG-7). -/
def Engine.refEntry (x : Engine) (axis apply : Nat) : RefEntry :=
  { axis := axis
    ctrl := BitVec.ofNat 8 (sget (fun _ => (0 : Word48)) x.outWin 0).toNat
    apply := apply
    a := sget (fun _ => 0) x.outWin 1
    b := sget (fun _ => 0) x.outWin 2 }

/-- The entry of an axis joins the train of a seal. -/
def State.addTrain (s : State) (sl : Nat) (r : RefEntry) : State :=
  let t := sget (fun _ => []) s.eng.trains sl
  { s with eng := { s.eng with
      trains := sput (fun _ => []) s.eng.trains sl (t.filter (fun q => decide (q.axis ≠ r.axis)) ++ [r]) } }

/-- Whether the seal j has passed (R22). -/
def State.sealPast (s : State) (j : Nat) : Bool :=
  match s.cyc.sealedFor with
  | none => false
  | some m => decide (j ≤ m)

/-- The digest of a task that writes nothing and does not publish: over 16 bytes of 0 (R359). -/
def noDigest : BitVec 32 := BitVec.ofNat 32 (crc32c (List.replicate 16 0))

/-- The digest of a task (R359): over the address and value of every word written, in program order, and the published entry
or 16 bytes of 0 (log 15); of a library task, whose words are not the model's, a free value. -/
def State.noteDigest (s : State) (r : Running) (q : Option RefEntry) : State :=
  let d := if r.library then Config.digest s.freeCtr
    else BitVec.ofNat 32 (crc32c (r.written.flatMap (fun (w : Nat × Word48) => be 4 w.1 ++ be 6 w.2.toNat)
      ++ (match q with
        | none => List.replicate 16 0
        | some q => [BitVec.ofNat 8 q.axis, q.ctrl] ++ be 2 (q.apply % 65536) ++ be 6 q.a.toNat ++ be 6 q.b.toNat)))
  let i := match r.owner with
    | .axis a => a.val
    | .line => 256
  let s1 := if r.library then s.useFree 1 else s
  { s1 with eng := { s1.eng with digests := sput (fun _ => noDigest) s1.eng.digests i d } }

/-- END without a fault (R156, R170): the readings, the published entry in the train of its seal unless the seal has
passed, and the engine leaves service when a rotation waited for it (R177). -/
def State.endTask (s : State) (e : Nat) (r0 : Running) : State :=
  let x := s.engine e
  let pub := decide ((sget (fun _ => (0 : Word48)) x.outWin 3).toNat = 1)
  let st := s.stalled e r0
  let r := st.2
  let s1 := (st.1.recordTask e r).modEngine e (fun x => { x with tasks := inc32 x.tasks })
  let s2 := s1.costEvent r
  let s3 := match r.owner with
    | .line => s2.noteDigest r none
    | .axis a =>
      let sl := r.cycle + (s2.axis a.val).law.sigma
      let q := x.refEntry a.val r.apply
      let s3 := s2.noteDigest r (if pub then some q else none)
      if pub then
        let s4 := s3.modLife a.val (fun l =>
          { l with
            lastEnable := q.ctrl.getLsbD 4
            firstBrake := if decide (l.state = AxState.enabling) && l.firstBrake.isNone && q.ctrl.getLsbD 3 then some r.apply else l.firstBrake })
        if s4.sealPast sl then s4 else s4.addTrain sl q
      else s3
  s3.takeRotation e

/-! The form of an engine instruction. -/

/-- What an instruction does to its engine: the new engine and, for a taken branch or a skipped body, where the PC goes;
or a task fault, or a double-bit error in the engine's own memory (R174). -/
inductive EngOut where
  | go (x : Engine) (pc : Option (BitVec 13)) (written : List (Nat × Word48))
  | fault (cause code axCause : Nat)
  | failed
  deriving Repr

def EngOut.seq (x : Engine) : EngOut := .go x none []
def EngOut.illegal : EngOut := .fault 0 0 3
def EngOut.address : EngOut := .fault 1 0 3

/-- The end of the loop bodies that end at the PC, the innermost first (R164): a counter falls, and its body runs again until it is 0;
then the body around it ends where it ends there too. -/
def Engine.endBodies (x : Engine) : List LoopRec → Engine
  | [] => { x with loops := [], pc := x.pc + 1 }
  | l :: ls =>
    if x.pc = l.last then
      let n := x.lcr l.lc.val - 1
      let y := x.setLc l.lc.val n
      if n = 0 then y.endBodies ls else { y with loops := l :: ls, pc := l.first }
    else { x with loops := l :: ls, pc := x.pc + 1 }

/-- The PC after an instruction that does not branch. -/
def Engine.advance (x : Engine) : Engine := x.endBodies x.loops

/-- The PC goes to a target; loops whose body does not hold it end (R164).  The rule says so of a taken BR; a RET that leaves a body ends
its loop in the same way (log 166). -/
def Engine.goto (x : Engine) (t : BitVec 13) : Engine :=
  { x with pc := t, loops := x.loops.filter (fun l => decide (l.first ≤ t ∧ t ≤ l.last)) }

/-- The result of an instruction comes into force: registers, PC, cycle count, and stores beyond the fourth retire. -/
def State.engApply (s : State) (e cost : Nat) (r : Running) (x : Engine) (pc : Option (BitVec 13))
    (w : List (Nat × Word48)) : State :=
  let y := match pc with
    | none => x.advance
    | some t => x.goto t
  let fault := match x.task with
    | none => false
    | some q => q.arith
  let r' := { r with cycles := r.cycles + cost, arith := r.arith || fault, written := r.written ++ w }
  (s.setEngine e { y with task := some r' }).retire e (y.stores.length - 4)

/-- An instruction of an engine that runs a task; an engine without a task executes nothing (log 11). -/
def State.engineStep (s : State) (e cost : Nat) (f : State → Engine → Running → EngOut) : Result :=
  match (s.engine e).task with
  | none => .next s
  | some r =>
    match f s (s.engine e) r with
    | .go x pc w => .next (s.engApply e cost r x pc w)
    | .fault c code ax => .next (s.taskFault e c code ax)
    | .failed => .next (s.engineFail e 0)

/-- Post-modify (R157). -/
def Engine.postMod (x : Engine) (a o : Nat) (pm : Bool) : Engine := if pm then x.setA a (x.ar a + x.or o) else x

/-- What SECDED finds on a load (R151, R174, R175): a double-bit error in shared memory is an ECC fault of the task, 0x08
in the learner pool; in the engine's own memory the engine has failed. -/
def eccOut (addr : Nat) (ecc : Ecc) (x : Engine) (k : Engine → EngOut) : EngOut :=
  match ecc with
  | .clean => k x
  | .corrected => k { x with eccCorr := true }
  | .double =>
    if sharedAddr addr then .fault 5 0 (if 0x80000 ≤ addr ∧ addr < 0xC0000 then 8 else 3) else .failed

/-- n words from an address on; none where one of them is an address fault. -/
def State.loadWords (s : State) (x : Engine) (o : Owner) (addr : Nat) : Nat → Option (List Word48)
  | 0 => some []
  | n + 1 =>
    match s.loadWord x o (addr % 1048576), s.loadWords x o (addr + 1) n with
    | some v, some vs => some (v :: vs)
    | _, _ => none

def Engine.setXs (x : Engine) (d : Nat) : List Word48 → Engine
  | [] => x
  | v :: vs => (x.setX d v).setXs (d + 1) vs

/-- LD and LDQ. -/
def engLoad (n d a o : Nat) (pm : Bool) (ecc : Ecc) (s : State) (x : Engine) (r : Running) : EngOut :=
  let addr := (x.ar a).toNat
  match s.loadWords x r.owner addr n with
  | none => .address
  | some vs => eccOut addr ecc x (fun x => .seq ((x.setXs d vs).postMod a o pm))

/-- ST and STQ: the words enter the store buffer in order (R168). -/
def engStore (n d a o : Nat) (pm : Bool) (s : State) (x : Engine) (r : Running) : EngOut :=
  let addr := (x.ar a).toNat
  let ws := (List.range n).map (fun i => ((addr + i) % 1048576, x.xr (d + i)))
  if ws.all (fun p => s.writable r.owner p.1) then
    .go ({ x with stores := x.stores ++ ws }.postMod a o pm) none ws
  else .address

/-- An ALU operation with Z and N. -/
def engAlu (d : Nat) (f : Engine → Word48) (x : Engine) : EngOut :=
  let v := f x
  .seq ((x.setX d v).setZN v)

/-- A wrapping ALU operation with Z, N and V. -/
def engWrap (d : Nat) (f : Engine → Int) (x : Engine) : EngOut :=
  let t := f x
  .seq ((x.setX d (w48 t)).setZNV (w48 t) t)

/-- A saturating ALU operation with Z, N, V and SATF. -/
def engSat (d : Nat) (f : Engine → Int) (x : Engine) : EngOut :=
  let t := f x
  let v := w48 (sat48 t)
  .seq (((x.setX d v).setZNV v t).stick flagSat (!fits48 t))

/-- A saturating operation with Z, N and SATF (V is kept). -/
def engSatZN (d : Nat) (f : Engine → Int) (x : Engine) : EngOut :=
  let t := f x
  let v := w48 (sat48 t)
  .seq (((x.setX d v).setZN v).stick flagSat (!fits48 t))

/-- x reduced modulo t into −t/2 ≤ r < t/2 (WRAPM). -/
def wrapMod (v t : Int) : Int :=
  let m := v % t
  if 2 * m ≥ t then m - t else m

/-- A read of a special register (Table ENG-3); none is a reserved number. -/
def Engine.readSpr (x : Engine) (n : Nat) : Option Word48 :=
  if n < 8 then some (BitVec.ofNat 48 (x.ar n).toNat)
  else if n < 16 then some (w48 (x.or (n - 8)).toInt)
  else if n = 0x10 ∨ n = 0x11 then some (BitVec.ofNat 48 (x.lcr (n - 0x10)).toNat)
  else if 0x14 ≤ n ∧ n ≤ 0x17 then some (BitVec.ofNat 48 (x.sclr (n - 0x14)).toNat)
  else if n = 0x18 then some (BitVec.ofNat 48 x.flags.toNat)
  else if 0x1C ≤ n ∧ n ≤ 0x1F then
    let c := x.accr (n - 0x1C)
    some (BitVec.ofNat 48 ((BitVec.ofInt 3 c.w).toNat + b2n c.lost * 8))
  else none

/-- A write of a special register; none is a reserved number or a read-only one.  FLAGS keeps its reserved bits at 0
(R10). -/
def Engine.writeSpr (x : Engine) (n : Nat) (v : Word48) : Option Engine :=
  if n < 8 then some (x.setA n (v.setWidth 20))
  else if n < 16 then some (x.setO (n - 8) (v.setWidth 20))
  else if n = 0x10 ∨ n = 0x11 then some (x.setLc (n - 0x10) (v.setWidth 16))
  else if 0x14 ≤ n ∧ n ≤ 0x17 then some (x.setScl (n - 0x14) (v.setWidth 6))
  else if n = 0x18 then some { x with flags := (v.setWidth 16) &&& 0xF007 }
  else none

/-- The conditions of Table ENG-13; none is a reserved code. -/
def Engine.cond (x : Engine) (c : Nat) : Option Bool :=
  let z := x.flag flagZ
  let n := x.flag flagN
  let v := x.flag flagV
  match c with
  | 0 => some true
  | 1 => some z
  | 2 => some (!z)
  | 3 => some (n != v)
  | 4 => some (n == v)
  | 5 => some (z || n != v)
  | 6 => some (!z && n == v)
  | 7 => some v
  | 8 => some (!v)
  | 9 => some (x.flag flagSat)
  | _ => none

end Sys2Proof.Machine
end

