-- ==== Sys2Proof/Machine/EngineService.lean ====
section
/-! DEFINITION. Engine failures, the engine watchdog, rotation and scrubbing (R171, R174 to R177, R484, R485). -/

namespace Sys2Proof.Machine

/-- The device has a task for the axis: its FB_SOURCE is not none, or it is a stepper without an encoder (R237). -/
def State.axisUsed (s : State) (a : Nat) : Bool :=
  (decide (s.parN 0x04000101 a ≠ 0xFF) || decide (s.parN 0x04000160 a = 1)) && !s.isLineAxis a

/-- The engine cycles of all tasks of one cycle (R36). -/
def State.engineLoad (s : State) : Nat :=
  s.taskCost .line + ((List.range 256).map (fun a =>
    if s.axisUsed a then s.taskCost (.axis ⟨a % 256, by omega⟩) else 0)).sum

/-- The load is at most 87.5 % of 8 × T × 1 GHz (R36). -/
def State.loadOk (s : State) : Bool := decide (s.engineLoad ≤ 7 * s.period)

/-- Why a rotation of engine e is refused (R177): another engine FAILED or rotated, or the load too high. -/
def State.rotateRefusal (s : State) (e : Nat) : Option Nat :=
  if (List.range 8).any (fun i => (s.engine i).failed || (s.engine i).rotated || (s.engine i).rotWait) then some stBusy
  else if !s.loadOk then some stLoad
  else if !(s.engine e).inService then some stBusy
  else none

/-- The engine leaves service, at once or when its task has completed (R177). -/
def State.beginRotation (s : State) (e : Nat) : State :=
  s.modEngine e (fun x =>
    if x.task.isSome then { x with rotWait := true }
    else { x with rotated := true, inService := false, rotStart := s.coreTicks })

/-- A rotation that waits is tried again (R484). -/
def State.retryRotation (s : State) : State :=
  match s.boot.rotReq with
  | none => s
  | some e =>
    if (s.rotateRefusal e).isSome then s
    else
      let s1 := s.beginRotation e
      { s1 with boot := { s1.boot with rotReq := none, rotNext := (e + 1) % 8 } }

/-- ROTATION_DUE (R484). -/
def execRotationDue (s : State) : Result :=
  let auto := s.parN 0x0F000001 0
  if s.boot.ready && decide (auto ≠ 0) && decide (s.boot.rotDue ≤ s.coreTicks) then
    .next ({ s with boot := { s.boot with rotReq := some s.boot.rotNext, rotDue := s.coreTicks + auto * 1000000000 } }).retryRotation
  else .next s

/-- ROTATION_DONE (R484): after 40 ms the engine returns to service, or is FAILED. -/
def execRotationDone (e : EngIx) (pass : Bool) (s : State) : Result :=
  let x := s.engine e.val
  if x.rotated && decide (x.rotStart + 40000000 ≤ s.coreTicks) then
    let s1 := s.modEngine e.val (fun x =>
      { x with rotated := false, inService := pass, scratch := [], scratchCtr := s.freeCtr + 1 })
    let s2 := (s1.useFree 1).raise 0x0105 0 e.val [BitVec.ofNat 8 (b2n (!pass))]
    let s3 := s2.cmdDone? s2.boot.rotCtx 0x0F01 e.val stDone
    let s4 := { s3 with boot := { s3.boot with rotCtx := none } }
    .next (if pass then s4 else s4.engineFail e.val 1)
  else .next s

/-- ENGINE_FAILED (R174, R175). -/
def execEngineFailed (e : EngIx) (selfTest : Bool) (s : State) : Result := .next (s.engineFail e.val (b2n selfTest))

/-- ENGINE_WATCHDOG (R171): a task not ended after TASK_LIMIT engine cycles. -/
def execEngineWatchdog (e : EngIx) (s : State) : Result :=
  match (s.engine e.val).task with
  | none => .next s
  | some r => .next (if s.parN 0x01050002 0 ≤ r.cycles then s.taskFault e.val 3 0 3 else s)

/-- A channel P failure (R314, Table SAF-6): P_OK falls, the event is raised, and the fault is fatal. -/
def State.channelPFails (s : State) : State :=
  if s.saf.p.ok then
    (({ s with saf := { s.saf with p := { s.saf.p with ok := false } } }).raise 0x0803 2 0 [0]).fatal 0x01
  else s

/-- A double-bit error that the scrubber found (R485). -/
def State.scrubError (s : State) (d : ScrubSite) : State :=
  match d with
  | .engineLocal e => s.engineFail e.val 0
  | .shared w =>
    if 0x30000 ≤ w ∧ w < 0x30400 then { s with line := { s.line with taskFault := true } }
    else if 0x40000 ≤ w ∧ w < 0x80000 then s.axisFault ((w - 0x40000) / 1024) 3
    else if 0x80000 ≤ w ∧ w < 0xC0000 then
      (List.range 256).foldl (fun s a =>
        let l := (s.axis a).law
        if l.lrnBase ≤ w - 0x80000 ∧ w - 0x80000 < l.lrnBase + l.lrnBins then s.axisFault a 8 else s) s
    else s
  | .channelP => s.channelPFails
  | .supervisor => s.fatal 0x01

/-- SCRUB_PERIOD (R485). -/
def execScrubPeriod (corrected : Nat) (doubles : List ScrubSite) (s : State) : Result :=
  if decide (s.boot.scrubNext ≤ s.coreTicks) then
    let s1 := { s with boot := { s.boot with
      scrubNext := s.coreTicks + s.parN 0x0F000002 0 * 1000000000
      scrubCorr := add32 s.boot.scrubCorr corrected, scrubUnc := add32 s.boot.scrubUnc doubles.length } }
    .next (doubles.foldl (fun s d => s.scrubError d) s1)
  else .next s

/-- SVC_ENGINE_ROTATE (0x0F01); it acts on the on-move chip only (R484). -/
def execSvcEngineRotate (c : CmdCtx) (engine : BitVec 8) (s : State) : Result :=
  s.host_ c { op := 0x0F01, need := roleEngineer, params := [engine] } true (fun s =>
    if 8 ≤ engine.toNat then .refuse stBadValue []
    else match s.rotateRefusal engine.toNat with
      | some st => .refuse st []
      | none =>
        if s.twin.standby then .quiet s
        else
        let s1 := s.beginRotation engine.toNat
        .ok { s1 with boot := { s1.boot with rotCtx := some c } } stAccepted [])

end Sys2Proof.Machine
end

