-- ==== Sys2Proof/Machine/Arbiter.lean ====
section
/-! DEFINITION. The heat tick, the D_max event, and the Arbiter's commands (spec/09_arbiter.md). -/

namespace Sys2Proof.Machine

def insertInt (x : Int) : List Int → List Int
  | [] => [x]
  | y :: ys => if x ≤ y then x :: y :: ys else y :: insertInt x ys

def sortInts (l : List Int) : List Int := l.foldl (fun m x => insertInt x m) []

/-- Whether sensor i is valid among eight readings in 0.1 °C (R269). -/
def sensorOk (temps : List Int) (i : Nat) : Bool :=
  let t := temps.getD i 0
  let med := (sortInts (temps.eraseIdx i)).getD 3 0
  decide (-500 ≤ t) && decide (t ≤ 1500) && decide ((t - med).natAbs ≤ 150)

/-- P_est in 10 mW (R270). -/
def powerEstimate (tMax : Int) (busy : Nat) (act : Activity) : Nat :=
  Config.leakage tMax + (Config.powerCoef 0 * busy + Config.powerCoef 1 * act.sram + Config.powerCoef 2 * act.serdes
    + Config.powerCoef 3 * act.twin + Config.powerCoef 4 * act.sup) / 1048576

/-- The validity events of a tick (R269): at the first tick an invalid sensor, afterwards every change. -/
def State.sensorEvents (s : State) (oks : List Bool) : State :=
  (List.range 8).foldl (fun s i =>
    let ok := oks.getD i false
    let was := if s.arb.judged then s.arb.valid.getLsbD i else true
    if ok ≠ was then s.raise 0x0C02 1 i [BitVec.ofNat 8 (b2n ok)] else s) s

/-- The trim procedure of R272: the new level and relax count. -/
def trimLevel (fault hot calm : Bool) (allowed least relaxMax level relax : Nat) : Nat × Nat :=
  let p :=
    if fault then (allowed, 0)
    else if hot then (min (level + 1) allowed, 0)
    else if calm then (if relaxMax ≤ relax + 1 then (level - 1, 0) else (level, relax + 1))
    else (level, 0)
  (max p.1 (min least allowed), p.2)

/-- A change of trim level of the chip on move enters the log (R276) and takes effect at the next cycle start (R28). -/
def State.setTrim (s : State) (level : Nat) : State :=
  if s.twin.standby || decide (s.cyc.trimNext.getD s.cyc.trim = level) then s
  else
    let s1 := { s with cyc := { s.cyc with trimNext := some level, trimAt := s.nextCycle } }
    if s.standbySynced then
      let pos := s.twin.logPos + 1
      let r : LogRec := { pos := pos, cycle := s.nextCycle, slot := 0, seq := 0, opcode := 0, params := [], trim := some level }
      let s2 := s1.put (.twin (.log r))
      { s2 with twin := { s2.twin with logPos := pos, trimLog := some pos } }
    else s1

/-- The engines' busy cycles of the last tick become their readings. -/
def State.takeBusy (s : State) : State :=
  (List.range 8).foldl (fun s e => s.modEngine e (fun x => { x with busyCycles := x.busyNow, busyNow := 0 })) s

/-- HEAT_TICK (R268 to R276, R484): eight readings in 0.1 °C and the activity counts of the last millisecond. -/
def execHeatTick (temps : List Int) (act : Activity) (s : State) : Result :=
  if decide (s.arb.nextTick ≤ s.coreTicks) && decide (temps.length = 8) then
    let oks := (List.range 8).map (sensorOk temps)
    let good := (List.range 8).filter (fun i => oks.getD i false)
    let tMax := match good with
      | [] => s.arb.tMax
      | i :: is => is.foldl (fun m j => max m (temps.getD j 0)) (temps.getD i 0)
    let busy := ((List.range 8).map (fun e => (s.engine e).busyNow)).sum
    let pEst := powerEstimate tMax busy act
    let mask := s.parN 0x0C000006 0
    let allowed := ((List.range 5).filter (fun j => nbit mask j)).length
    let fault := decide (good.length < 6)
    let hot := decide (s.parN 0x0C000001 0 < pEst) || (decide (good ≠ []) && decide (s.par 0x0C000002 0 ≤ tMax))
    let calm := decide (pEst + s.parN 0x0C000003 0 ≤ s.parN 0x0C000001 0)
      && (decide (good = []) || decide (tMax ≤ s.par 0x0C000002 0 - s.par 0x0C000004 0))
    let p := trimLevel fault hot calm allowed (s.parN 0x0C000007 0) (s.parN 0x0C000005 0) (min s.arb.level allowed) s.arb.relax
    let exhausted := hot && decide (p.1 = allowed)
    let tell := exhausted && (match s.arb.lastExhausted with
      | none => true
      | some t => decide (t + 1000000000 ≤ s.coreTicks))
    let s1 := (s.sensorEvents oks).takeBusy
    let s2 := { s1 with
      arb := { s1.arb with
        nextTick := s.coreTicks + 1000000, mask := mask, level := p.1, relax := p.2, overHeat := hot, sensorFault := fault
        exhausted := s1.arb.exhausted || exhausted
        lastExhausted := if tell then some s.coreTicks else s.arb.lastExhausted
        inForce := min s.arb.inForce allowed
        temps := temps, valid := BitVec.ofNat 8 (ofBools oks), judged := true, pEst := pEst, tMax := tMax } }
    let s3 := if tell then s2.raise 0x0C01 1 0 (be 2 (min pEst 0xFFFF) ++ beI 2 tMax) else s2
    .next (s3.setTrim p.1).retryRotation
  else .next s

/-- DMAX (R282). -/
def execDmax (a : AxisIx) (s : State) : Result :=
  match (s.axis a.val).req with
  | none => .next s
  | some q =>
    if decide (s.parN 0x0C000008 0 ≤ q.defer) && !q.dmaxDone then
      let s1 := s.modAxis a.val (fun x => { x with req := some { q with dmaxDone := true }, dmaxHit := true })
      let s2 := if q.group < 16 then s1.modPgroup q.group (fun w => { w with dmax := true }) else s1
      .next (s2.raise 0x0C03 1 a.val (be 4 q.defer))
    else .next s

/-- The most items of a reply by transport (R443, Table CMD-3). -/
def State.perPacket (s : State) (c : CmdCtx) (ring udp : Nat) : Nat :=
  match (s.session c.slot.val).source with
  | .pcie => ring
  | .udp _ _ _ => udp

/-- ARB_QUEUE_READ (0x0C01). -/
def execArbQueueRead (c : CmdCtx) (group : BitVec 8) (start : BitVec 16) (s : State) : Result :=
  s.hostAt c (.arbQueueRead c group start) { op := 0x0C01, need := roleView, move := false, logged := false } true (fun s =>
    if 16 ≤ group.toNat then .refuse stBadValue []
    else
      let q := sget (fun _ => ([] : List (Nat × Nat × Nat))) s.arb.queues group.toNat
      let part := (q.drop start.toNat).take (s.perPacket c 27 179)
      .ok s stDone (be 2 q.length ++ be 2 part.length
        ++ part.flatMap (fun (x : Nat × Nat × Nat) => be 2 x.1 ++ be 1 x.2.1 ++ [0] ++ be 4 x.2.2)))

/-- A value lies in the range of the parameter with that ID. -/
def parAdmits (id : Nat) (v : Int) : Bool :=
  match paramFind id with
  | none => false
  | some (r, _) => r.admits v

/-- ARB_BUDGET_SET (0x0C02): the values wait for the next seal, which answers (R287). -/
def execArbBudgetSet (c : CmdCtx) (which : BitVec 8) (values : List (BitVec 32)) (s : State) : Result :=
  let vs := values.map (·.toNat)
  let ok := decide (values.length = (if which = 0xFF then 1 else 3))
  s.host_ c { op := 0x0C02, need := roleEngineer
              params := which :: (if which = 0xFF then values.flatMap (fun v => be 2 v.toNat) else values.flatMap (fun v => be 4 v.toNat)) } ok (fun s =>
    let inRange := match vs with
      | [p, e, r] => decide (which.toNat < 16) && parAdmits 0x0C100001 p && parAdmits 0x0C100002 e && parAdmits 0x0C100003 r
      | [p] => decide (which = 0xFF) && parAdmits 0x0C000001 p
      | _ => false
    if !inRange then .refuse stBadValue []
    else .quiet { s with arb := { s.arb with budget := s.arb.budget ++ [⟨c, which.toNat, vs⟩] } })

end Sys2Proof.Machine
end

