-- ==== Sys2Proof/Machine/FieldOps.lean ====
section
/-! DEFINITION. The field die, its outputs, and the barrier frames as shared operations (spec/11_field_io.md). -/

namespace Sys2Proof.Machine

/-- Suspension of the tests (Table FLD-3, VF_LOW). -/
def State.testsOff (s : State) : Bool := s.die.low

/-- Whether the die lets output j conduct (R330, R332, R333, R336, R340, R344, R345). -/
def State.fqTarget (s : State) (j : Nat) : Bool :=
  let x := s.fq j
  let want := if s.die.wd then x.safeOn else x.on && (!s.safetyOut j || x.permit)
  want && s.die.running && !s.die.restarted && !x.wired && !x.latch && !x.offLatch && !x.therm && (x.driven || x.pulse.isSome || !x.demag)

/-- Output j follows its target; a switch-off starts demagnetisation (R331), and during an off-pulse the switch is off
(R334). -/
def State.fqDrive (s : State) (j : Nat) : State :=
  let t := s.fqTarget j
  s.modFq j (fun x =>
    if x.pulse.isSome then { x with driven := false }
    else if t then { x with driven := true }
    else if x.driven then { x with driven := false, demag := true, demagStart := s.coreTicks, demagLong := false, overload := false }
    else x)

def State.fqDriveAll (s : State) : State := (List.range 8).foldl (fun s j => s.fqDrive j) s

/-- The command bit of output j on the control die. -/
def State.setCmd (s : State) (j : Nat) (b : Bool) : State :=
  { s with fld := { s.fld with cmd := BitVec.ofNat 8 (nsetBit s.fld.cmd.toNat j b) } }

/-! Barrier frames (R341 to R344). -/

/-- The bytes of a barrier frame with its check code. -/
def barrierSeal (b : Barrier) (body : List Byte) : List Byte :=
  match b with
  | .m => body ++ [0, BitVec.ofNat 8 (crc8m body)]
  | .h => body ++ be 2 (crc16h body)

/-- Whether a barrier frame has its 32 bytes and its check code. -/
def barrierCrcOk (b : Barrier) (bytes : List Byte) : Bool :=
  decide (bytes.length = 32) &&
  (match b with
    | .m => decide ((byteAt bytes 31).toNat = crc8m (bytes.take 30))
    | .h => decide (field bytes 30 2 = crc16h (bytes.take 30)))

/-- What a receiver does with the epoch of a frame (R470): its own epoch afterwards, whether it discards its partial data,
whether it uses the frame, and whether the peer is joining. -/
def epochSee (own e : BitVec 4) (zero designated : Bool) : BitVec 4 × Bool × Bool × Bool :=
  if e = 0 then
    if zero then (own, false, false, true)
    else if own = 0 then (if designated then 1 else 0, true, false, true)
    else (if own = 15 then 1 else own + 1, true, false, true)
  else if own = 0 then (e, true, true, false)
  else if e = own then (own, false, true, false)
  else (own, false, false, zero)

def epochOf (bytes : List Byte) : BitVec 4 := BitVec.ofNat 4 ((byteAt bytes 0).toNat / 16)

/-- An order as it crosses on channel M (Table FLD-4). -/
def orderBytes (tag op : Nat) (level : Bool) (fq ofs : Nat) : List Byte :=
  be 2 tag ++ [BitVec.ofNat 8 (op * 64 + b2n level * 32 + fq)] ++ be 3 ofs

/-- 31.25 ns ticks of a time difference in ns. -/
def fireTicks (dt : Int) : Nat := (dt * 32 / 1000).toNat % 16777216

/-- Before in the order of R255: the earlier fire time, then the lower SEQ. -/
def orderBefore (x y : OutOrder) : Bool := decide (x.fire < y.fire) || (decide (x.fire = y.fire) && decide (x.seq ≤ y.seq))

def insertOrder (x : OutOrder) : List OutOrder → List OutOrder
  | [] => [x]
  | y :: ys => if orderBefore x y then x :: y :: ys else y :: insertOrder x ys

def sortOrders (l : List OutOrder) : List OutOrder := l.foldr insertOrder []

/-- The orders that the next frame carries: at most two, each sent in two frames, and none beyond what the die can hold
(R338). -/
def State.ordersToSend (s : State) : List OutOrder :=
  let waiting := sortOrders (s.fld.orders.filter (fun o => decide (o.sent < 2)))
  let room := 16 - (s.fld.orders.filter (fun o => decide (o.sent = 2 ∧ s.now < o.fire))).length
  waiting.take (min 2 room)

/-- FTP_EN as the control die commands it: 1 on a single head, and on the on-move chip of a twin installation (R327). -/
def State.ftpCommand (s : State) : Bool := !s.saf.silent && !s.twin.standby && (!s.boot.twinPresent || s.twin.onMove)

/-- The channel M downlink frame (Table FLD-4). -/
def State.mDownlink (s : State) : List Byte :=
  let f := s.fld
  let os := s.ordersToSend
  let clr := match f.clr with
    | none => 0
    | some (m, _) => m
  let kind := if f.cfgQueue = [] then 1 else 2
  let cmd := if s.saf.silent || s.twin.standby then 0 else ofBools ((List.range 8).map (fun j =>
    if s.safetyOut j then s.saf.p.ok && s.pairOn .p (j / 2) else f.cmd.getLsbD j))
  let cfg := match f.cfgQueue with
    | [] => List.replicate 5 0
    | (a, v) :: _ => be 1 a ++ be 4 v
  let ob := os.flatMap (fun o => orderBytes o.seq o.op o.level o.fq (fireTicks (o.fire - s.now)))
  barrierSeal .m
    ([BitVec.ofNat 8 (f.epochM.toNat * 16 + kind), BitVec.ofNat 8 f.seqM, BitVec.ofNat 8 cmd,
      BitVec.ofNat 8 (b2n (decide (0 < f.restart)) * 128 + b2n f.sendAck * 64 + b2n (decide (clr ≠ 0)) * 32
        + b2n s.ftpCommand * 16)]
      ++ (ob ++ List.replicate 12 0).take 12 ++ cfg ++ be 1 clr ++ List.replicate 8 0)

/-- The channel H downlink frame: the island's permits (R318, R374). -/
def State.hDownlink (s : State) : List Byte :=
  let permits := (List.range 8).map (fun j => s.safetyOut j && s.saf.islandRunning && !s.twin.standby && s.saf.h.ok
    && s.pairOn .h (j / 2))
  barrierSeal .h
    ([BitVec.ofNat 8 (s.fld.epochH.toNat * 16 + 1), BitVec.ofNat 8 s.fld.seqH, BitVec.ofNat 8 (ofBools permits)]
      ++ List.replicate 27 0)

/-- VF_STATE of the die (Table FLD-3). -/
def State.vfState (s : State) : Nat :=
  if (List.range 8).any (fun j => (s.fq j).offLatch) then 3 else if s.die.low then 2 else if s.die.warn then 1 else 0

def State.restartOk (s : State) : Bool := s.die.restartOkA && s.die.restartOkB

/-- An uplink frame of the die (Table FLD-5). -/
def State.dieUplink (s : State) (b : Barrier) : List Byte :=
  let d := s.die
  let ep := match b with
    | .m => d.epochM
    | .h => d.epochH
  let sq := match b with
    | .m => d.seqM
    | .h => d.seqH
  let st := (List.range 8).map (fun j =>
    let x := s.fq j
    BitVec.ofNat 8 (flagWord [(7, x.driven), (6, x.overload), (5, x.therm), (4, x.demag), (3, x.shortVf), (2, x.wired), (1, x.latch)]))
  barrierSeal b
    ([BitVec.ofNat 8 (ep.toNat * 16 + 1), BitVec.ofNat 8 sq] ++ be 2 d.level.toNat ++ [BitVec.ofNat 8 d.sno]
      ++ [BitVec.ofNat 8 (b2n d.invalid * 128 + b2n d.test * 64 + b2n d.tpSrc * 32 + s.vfState * 8 + b2n d.restarted * 4
        + b2n d.wd * 2 + b2n s.restartOk)]
      ++ [BitVec.ofNat 8 (ofBools ((List.range 8).map (fun j => (s.fq j).readback))),
          BitVec.ofNat 8 (ofBools ((List.range 8).map (fun j => (s.fq j).pulse.isSome)))]
      ++ st ++ be 2 d.vf ++ be 2 d.vqa ++ be 2 d.vqb
      ++ (match b with
        | .m => be 2 d.orderAck
        | .h => [0, 0])
      ++ List.replicate 6 0)

/-- The field configuration that crosses on channel M, item by item (R344, R467); the spec gives no coding of ADDR, so an
item's ADDR is its place in this list (log 12). -/
def State.fieldConfig (s : State) : List (Nat × Nat) :=
  let vs := (List.range 7).map (fun i => s.parN (0x0D000001 + i) 0)
    ++ (List.range 16).map (fun n => s.parN 0x0D100002 n)
    ++ (List.range 8).map (fun j => s.parN 0x0D200001 j)
    ++ (List.range 8).map (fun j => s.parN 0x0D200002 j)
    ++ (List.range 8).map (fun i => s.parN 0x08300001 i)
    ++ (List.range 4).map (fun j => b2n (s.safetyOut (2 * j)))
  (List.range vs.length).zip vs

/-- The items of the field configuration that differ from those of an earlier state are sent (R344). -/
def State.queueConfig (s s0 : State) : State :=
  let fresh := s.fieldConfig.filter (fun (p : Nat × Nat) => !s0.fieldConfig.contains p)
  if fresh = [] then s else { s with fld := { s.fld with cfgQueue := s.fld.cfgQueue ++ fresh } }

/-! The safety channels on their barrier links. -/

/-- A filtered level: the common value of the last three windows, or the old level (R301). -/
def filter3 (old : Bool) (h : List Bool) : Bool :=
  match h with
  | [a, b, c] => if a = b ∧ b = c then a else old
  | _ => old

/-- A pair takes a regular window (R301, R302). -/
def PairSt.window (x : PairSt) (mode : Nat) (a b : Bool) (now : Nat) : PairSt :=
  let hist := ((a, b) :: x.hist).take 3
  let fa := filter3 x.a (hist.map (·.1))
  let fb := filter3 x.b (hist.map (·.2))
  let disagree := if mode = 1 then fa != fb else fa == fb
  let saw := x.sawDemand || pairBothDemand mode fa fb
  let clear := saw && pairHealthy mode fa fb
  { x with
    hist := hist, a := fa, b := fb, rawA := a, rawB := b
    disagreeSince := if disagree then (match x.disagreeSince with
      | none => some now
      | some t => some t) else none
    latch := x.latch && !clear
    sawDemand := if x.latch && !clear then saw else false }

/-- Whether a test window fails for a pair (R329). -/
def PairSt.testFails (x : PairSt) (src1 a b : Bool) : Bool :=
  if src1 then x.rawB && (b || (x.rawA && !a)) else x.rawA && (a || (x.rawB && !b))

/-- The demand of pair i in a channel: SI_KIND of its groups. -/
def State.demandPair (s : State) (ch : Chan) (i cause : Nat) (sto : Bool) : State :=
  s.demandMask ch (s.parN 0x08300003 i) sto cause

/-- The acknowledge input in one channel (R310): levels filtered over three windows, edges stamped with the deciding window, taken as the
arrival of the frame that shows it (log 173), and a pulse of 100 ms to 5 s taken as an edge; another pulse counts once in ACK_BAD. -/
def State.ackWindow (s : State) (ch : Chan) (level : Bool) : State :=
  let c := s.chan ch
  let hist := (level :: c.ackHist).take 3
  let f := filter3 c.ackLevel hist
  let stamp := s.now
  let c1 := { c with ackHist := hist, ackLevel := f }
  if f && !c.ackLevel then s.setChan ch { c1 with ackRise := some stamp }
  else if !f && c.ackLevel then
    match c.ackRise with
    | none => s.setChan ch c1
    | some r =>
      if 100000000 ≤ stamp - r ∧ stamp - r ≤ 5000000000 then
        s.setChan ch { c1 with ackEdge := some stamp, ackUsed := false, ackRise := none }
      else
        let s1 := s.setChan ch { c1 with ackRise := none }
        let counted := match s.saf.ackBadAt with
          | none => false
          | some t => decide ((stamp - t).natAbs ≤ 250000)
        if counted then s1
        else { s1 with saf := { s1.saf with ackBad := inc32 s1.saf.ackBad, ackBadAt := some stamp } }
  else s.setChan ch c1

/-- Whether a new window that is no test window is one of those that open every `period` ns, and not one that another input's period opened:
the first, and each that follows the last taken by the period, less half a frame period of jitter (R323, log 173). -/
def windowDue (last : Option Nat) (period now : Nat) : Bool :=
  match last with
  | none => true
  | some t => decide (t + period ≤ now + 7813)

/-- One pair in one channel on a test window, or on a window of 125 µs. -/
def State.pairWindow (s : State) (ch : Chan) (fi flags i : Nat) : State :=
  if s.pairUsed i then
    let c := s.chan ch
    let x := c.pair i
    let a := nbit fi (2 * i)
    let b := nbit fi (2 * i + 1)
    if nbit flags 6 then
      if x.testFails (nbit flags 5) a b then
        let s1 := s.setChan ch (c.setPair i { x with latch := true, sawDemand := false })
        let s2 := s1.demandPair ch i 0x02 true
        { s2 with fld := { s2.fld with tpFail := true } }
      else s
    else s.setChan ch (c.setPair i (x.window (s.parN 0x08300001 i) a b s.coreTicks))
  else s

/-- The demands that a channel's pairs raise now (R301). -/
def State.pairDemands (s : State) (ch : Chan) : State :=
  (List.range 8).foldl (fun s i =>
    if s.pairDemand ch i then
      if ((s.chan ch).pair i).latch then s.demandPair ch i 0x02 true
      else s.demandPair ch i (if (s.chan ch).linkLost then 0x0A else 0x01) (decide (s.parN 0x08300002 i = 0))
    else s) s

/-- The output faults that a channel finds on its link (R335): SS1 of the SO_GROUPS, cause 0x0E. -/
def State.outputDemands (s : State) (ch : Chan) (bytes : List Byte) : State :=
  let bad := (List.range 4).filter (fun k =>
    s.safetyOut (2 * k) && (let st := (byteAt bytes (8 + 2 * k)).toNat ||| (byteAt bytes (9 + 2 * k)).toNat
      nbit st 3 || nbit st 2))
  let s1 := s.setChan ch { s.chan ch with outFault := bad }
  bad.foldl (fun s k => s.demandMask ch (s.parN 0x08400001 k) false 0x0E) s1

/-- The die's INVALID mark on the inputs, taken from every frame (R301). -/
def State.pairsInvalid (s : State) (ch : Chan) (invalid : Bool) : State :=
  s.setChan ch ((List.range 8).foldl (fun (c : Channel) i => if s.pairUsed i then c.setPair i { c.pair i with invalid := invalid } else c) (s.chan ch))

/-- A valid uplink frame in a channel: pairs, tests, acknowledge input and output faults (R301, R310, R329, R335). -/
def State.channelUplink (s : State) (ch : Chan) (bytes : List Byte) : State :=
  let c := s.chan ch
  let sno := (byteAt bytes 4).toNat
  let flags := (byteAt bytes 5).toNat
  let fi := field bytes 2 2
  let fresh := decide (c.lastSno ≠ some sno)
  let s1 := s.setChan ch { c with
    lastFrame := s.coreTicks, lastSno := some sno, recover := if c.linkLost then (if s.coreTicks ≤ c.lastFrame + 23437 then c.recover + 1 else 1) else 0 }
  let regular := fresh && !nbit flags 6 && windowDue c.lastWin 125000 s.coreTicks
  let s2 := if regular then s1.setChan ch { s1.chan ch with lastWin := some s.coreTicks } else s1
  let s3 := if regular || (fresh && nbit flags 6) then (List.range 8).foldl (fun s i => s.pairWindow ch fi flags i) s2 else s2
  let s4 := if regular then s3.ackWindow ch (nbit fi (s3.parN 0x08000002 0)) else s3
  ((s4.pairsInvalid ch (nbit flags 7)).pairDemands ch).outputDemands ch bytes

/-- A channel loses its input history (R471). -/
def State.channelForget (s : State) (ch : Chan) : State :=
  s.setChan ch { s.chan ch with
    pairs := ((s.chan ch).pairs.filter (fun p => p.2.latch)).map (fun p => (p.1, { latch := true }))
    ackHist := [], lastSno := none, lastWin := none, linkLost := true, recover := 0 }

end Sys2Proof.Machine
end

