-- ==== Sys2Proof/Machine/Field.lean ====
section
/-! DEFINITION. The field commands: the field die's events, the barrier frames, and the host's field commands
(spec/11_field_io.md, R470, R471). -/

namespace Sys2Proof.Machine

/-! Barrier frames. -/

/-- BARRIER_FRAME_PERIOD (R341): both links carry one frame each way.  A control die that is still booting is silent on channel M (R467, Table
BOO-2), and so is an island without its supply on channel H (R460). -/
def execBarrierFramePeriod (s : State) : Result :=
  if s.fld.nextM ≤ s.coreTicks then
    let sent := s.ordersToSend
    let s0 := if s.boot.booting then s else s.put (.barrierDown .m s.mDownlink)
    let s1 := if s.saf.islandRunning then s0.put (.barrierDown .h s.hDownlink) else s0
    let s2 := if s.die.running then (s1.put (.barrierUp .m (s.dieUplink .m))).put (.barrierUp .h (s.dieUplink .h)) else s1
    let f := s.fld
    let s3 := { s2 with
      fld := { f with
        ftpEn := s.ftpCommand
        nextM := s.coreTicks + 15625
        seqM := (f.seqM + 1) % 256, seqH := (f.seqH + 1) % 256
        orders := (f.orders.filter (fun (o : OutOrder) => decide (o.sent < 2 ∨ s.now ≤ o.fire))).map (fun (o : OutOrder) =>
          if sent.contains o then { o with sent := o.sent + 1 } else o)
        clr := match f.clr with
          | none => none
          | some (m, n) => if n ≤ 1 then none else some (m, n - 1)
        restart := f.restart - 1
        cfgQueue := f.cfgQueue.drop 1
        sendAck := f.sendAck || (f.seenRestarted && decide (f.cfgQueue.length = 1)) }
      die := { s2.die with frameStart := s.coreTicks, seqM := (s2.die.seqM + 1) % 256, seqH := (s2.die.seqH + 1) % 256 } }
    -- R333: the permit counts as off from the fourth frame period after the last valid H frame.
    let lostH := decide (s3.die.lastH + 62500 ≤ s3.coreTicks)
    let s4 := if lostH then (List.range 8).foldl (fun s j => s.modFq j (fun x => { x with permit := false })) s3 else s3
    .next s4.fqDriveAll
  else .next s

/-- A held order of a TAG is withdrawn: a cancel or a retime of R338 reaches it as it does a pending one (log 181). -/
def State.dropHeldOrder (s : State) (tag : Nat) : State :=
  (List.range 8).foldl (fun s j => if (s.fq j).holdOrder = some tag then s.modFq j (fun x => { x with holdOrder := none }) else s) s

/-- Every held order is withdrawn. -/
def State.dropHeldOrders (s : State) : State := (List.range 8).foldl (fun s j => s.modFq j (fun x => { x with holdOrder := none })) s

/-- How many orders are held. -/
def State.heldOrders (s : State) : Nat := ((List.range 8).filter (fun j => (s.fq j).holdOrder.isSome)).length

/-- One order of a downlink frame reaches the die (R338). -/
def State.takeOrder (s : State) (prev : List Nat) (bytes : List Byte) (off : Nat) : State :=
  let tag := field bytes off 2
  let op := (byteAt bytes (off + 2)).toNat
  let kind := op / 64
  let j := op % 8
  let fire := s.die.frameStart + field bytes (off + 3) 3 * 1000 / 32
  if kind = 2 then ({ s with die := { s.die with orders := s.die.orders.filter (fun o => decide (o.tag ≠ tag)) } }).dropHeldOrder tag
  else if kind = 1 then
    let x := s.fq j
    if x.wired || x.latch || x.offLatch then
      if prev.contains tag then s else { s with fld := { s.fld with orderLost := inc32 s.fld.orderLost } }
    else if prev.contains tag && !(s.die.orders.any (fun o => decide (o.tag = tag))) then s
    else
      let s := s.dropHeldOrder tag
      let o : Order := { tag := tag, level := nbit op 5, fq := j, fire := fire }
      let rest := s.die.orders
      if rest.any (fun p => decide (p.tag = tag)) then
        { s with die := { s.die with orders := rest.map (fun p => if p.tag = tag then o else p) } }
      else if rest.length < 16 then { s with die := { s.die with orders := rest ++ [o] } }
      else s
  else s

/-- LATCH_CLR for one output (R336): both outputs concerned commanded off, and neither reads high. -/
def State.clearLatch (s : State) (j : Nat) : State :=
  let x := s.fq j
  let y := s.fq x.partner
  if (x.wired || x.latch) && !x.on && !y.on && !x.readback && !y.readback then
    s.modFq j (fun x => { x with wired := false, latch := false })
  else s

/-- A counter of SEQ gaps after a valid frame (R344); a frame that begins an epoch has none before it. -/
def seqGap (last : Option Nat) (bytes : List Byte) (n : Nat) : Nat :=
  match last with
  | none => n
  | some q => if (byteAt bytes 1).toNat = (q + 1) % 256 then n else inc32 n

/-- A valid channel M frame in the die. -/
def State.dieTakesM (s : State) (bytes : List Byte) : State :=
  let on := (byteAt bytes 2).toNat
  let ctl := (byteAt bytes 3).toNat
  let tags := [field bytes 4 2, field bytes 10 2]
  let s0 := { s with
    die := { s.die with lastM := s.coreTicks, rxSeqM := some (byteAt bytes 1).toNat }
    fld := { s.fld with mGaps := seqGap s.die.rxSeqM bytes s.fld.mGaps } }
  let s1 := if nbit ctl 6 then { s0 with die := { s0.die with restarted := false } } else s0
  let s2 := (List.range 8).foldl (fun s j => s.modFq j (fun x => { x with on := nbit on j && !s1.die.restarted })) s1
  let s3 := if nbit ctl 5 then
      (List.range 8).foldl (fun s j => if nbit (byteAt bytes 21).toNat j then s.clearLatch j else s) s2
    else s2
  let s4 := if nbit ctl 7 then
      (List.range 8).foldl (fun s j =>
        if (if j < 4 then s3.die.restartOkA else s3.die.restartOkB) then s.modFq j (fun x => { x with offLatch := false }) else s) s3
    else s3
  let en := nbit ctl 4
  let s5 := { s4 with die := { s4.die with
    ftpEn := en
    ftp0 := if en then s4.die.ftp0 || !s4.die.ftpEn else false
    ftp1 := if en then s4.die.ftp1 || !s4.die.ftpEn else false
    config := if (byteAt bytes 0).toNat % 16 = 2 then sput (fun _ => 0) s4.die.config (byteAt bytes 16).toNat (field bytes 17 4)
      else s4.die.config
    orderPrev := tags } }
  ((s5.takeOrder s.die.orderPrev bytes 4).takeOrder s.die.orderPrev bytes 10).fqDriveAll

/-- A valid channel H frame in the die: the permits. -/
def State.dieTakesH (s : State) (bytes : List Byte) : State :=
  let p := (byteAt bytes 2).toNat
  let s0 := { s with
    die := { s.die with lastH := s.coreTicks, rxSeqH := some (byteAt bytes 1).toNat }
    fld := { s.fld with hGaps := seqGap s.die.rxSeqH bytes s.fld.hGaps } }
  let s1 := (List.range 8).foldl (fun s j => s.modFq j (fun x => { x with permit := nbit p j })) s0
  s1.fqDriveAll

/-- Where the command and the permit of safety outputs disagree, since when (R333). -/
def State.trackDisagree (s : State) : State :=
  (List.range 8).foldl (fun s j =>
    s.modFq j (fun x =>
      if s.safetyOut j && x.on != x.permit then
        { x with disagreeSince := match x.disagreeSince with
            | none => some s.coreTicks
            | some t => some t }
      else { x with disagreeSince := none, disagreeTold := false })) s

/-- FIELD_DOWNLINK_RECEIVE (R342, R344, R470, R471). -/
def execFieldDownlinkReceive (b : Barrier) (bytes : List Byte) (s : State) : Result :=
  if s.die.running then
    if barrierCrcOk b bytes then
      match b with
      | .m =>
        let r := epochSee s.die.epochM (epochOf bytes) s.die.zeroM false
        let s1 := { s with die := { s.die with epochM := r.1, zeroM := r.2.2.2 } }
        let s2 := if r.2.1 then ({ s1 with die := { s1.die with orders := [], orderPrev := [], rxSeqM := none } }).dropHeldOrders else s1
        .next (if r.2.2.1 then (s2.dieTakesM bytes).trackDisagree
          else { s2 with fld := { s2.fld with mErrs := inc32 s2.fld.mErrs } })
      | .h =>
        let r := epochSee s.die.epochH (epochOf bytes) s.die.zeroH false
        let s1 := { s with die := { s.die with epochH := r.1, zeroH := r.2.2.2 } }
        let s2 := if r.2.1 then
            ((List.range 8).foldl (fun s j => s.modFq j (fun x => { x with permit := false }))
              ({ s1 with die := { s1.die with rxSeqH := none } } : State)).fqDriveAll else s1
        .next (if r.2.2.1 then (s2.dieTakesH bytes).trackDisagree
          else { s2 with fld := { s2.fld with hErrs := inc32 s2.fld.hErrs } })
    else
      match b with
      | .m => .next { s with fld := { s.fld with mErrs := inc32 s.fld.mErrs } }
      | .h => .next { s with fld := { s.fld with hErrs := inc32 s.fld.hErrs } }
  else .next s

/-- The filter of an input outside safety pairs (R324). -/
def State.filterInput (s : State) (fi n : Nat) : State :=
  let level := nbit fi n
  let cur := sget (fun _ => ((false, 0, 0) : Bool × Nat × Int)) s.fld.filt n
  let run := if cur.1 = level ∧ cur.2.1 ≠ 0 then cur.2.1 + 1 else 1
  let stamp := if run = 1 then s.now else cur.2.2
  let s1 := { s with fld := { s.fld with
    filt := sput (fun _ => ((false, 0, 0) : Bool × Nat × Int)) s.fld.filt n (level, run, stamp) } }
  if s.parN 0x0D100001 n ≤ run && s.fld.fiLevels.getLsbD n != level then
    { s1 with fld := { s1.fld with
        fiLevels := BitVec.ofNat 16 (nsetBit s1.fld.fiLevels.toNat n level)
        fiStamp := sput (fun _ => 0) s1.fld.fiStamp n stamp } }
  else s1

/-- Whether FIn lies in a used safety pair or is the acknowledge input (R323). -/
def State.safetyInput (s : State) (n : Nat) : Bool := s.pairUsed (n / 2) || decide (s.parN 0x08000002 0 = n)

/-- Whether a channel M frame shows a new window of the inputs that FI_PERIOD samples (R323, R324). -/
def State.takesInputs (s : State) (flags : Nat) (fresh : Bool) : Bool :=
  fresh && !nbit flags 6 && !nbit flags 7 && windowDue s.fld.winM (s.parN 0x0D000001 0 * 31250) s.coreTicks

/-- FI_LEVELS after a channel M frame: the filters of R324, and channel P's filtered levels of the safety inputs. -/
def State.takeInputs (s : State) (fi : Nat) (take : Bool) : State :=
  let s0 := if take then { s with fld := { s.fld with winM := some s.coreTicks } } else s
  (List.range 16).foldl (fun s n =>
    if s.pairUsed (n / 2) then
      let x := s.saf.p.pair (n / 2)
      { s with fld := { s.fld with
          fiLevels := BitVec.ofNat 16 (nsetBit s.fld.fiLevels.toNat n (if n % 2 = 0 then x.a else x.b)) } }
    else if s.parN 0x08000002 0 = n then
      { s with fld := { s.fld with fiLevels := BitVec.ofNat 16 (nsetBit s.fld.fiLevels.toNat n s.saf.p.ackLevel) } }
    else if take then s.filterInput fi n
    else s) s0

/-- Whether a channel M frame brings a finding that output j is shorted to VF (R335, R336): the die reports it, and it is new, or the frame
ends an off-pulse of j, or j is off and reads high. -/
def State.shortFound (s : State) (bytes : List Byte) (j : Nat) : Bool :=
  let st := (byteAt bytes (8 + j)).toNat
  nbit st 3 && (!s.fld.shortPrev.getLsbD j
    || (nbit (byteAt s.fld.lastUp 7).toNat j && !nbit (byteAt bytes 7).toNat j)
    || (!nbit st 7 && !nbit st 4 && !nbit (byteAt bytes 7).toNat j && nbit (byteAt bytes 6).toNat j))

/-- The events of output findings that the control die sees for the first time (R335, 0x0D01): 0 short, 1 wired, 2 partner
latched. -/
def State.outputEvents (s : State) (bytes : List Byte) : State :=
  let col (b : Nat) : Nat := ofBools ((List.range 8).map (fun j => nbit (byteAt bytes (8 + j)).toNat b))
  let s1 := (List.range 8).foldl (fun s j =>
    let st := (byteAt bytes (8 + j)).toNat
    let p := BitVec.ofNat 8 (s.fq j).partner
    let s := if nbit st 3 && !s.fld.shortPrev.getLsbD j then s.raise 0x0D01 2 j [0, 0] else s
    let s := if s.shortFound bytes j then { s with fld := { s.fld with shortVf := BitVec.ofNat 8 (nsetBit s.fld.shortVf.toNat j true) } } else s
    let s := if nbit st 2 && !s.fld.wiredPrev.getLsbD j then s.raise 0x0D01 2 j [1, p] else s
    if nbit st 1 && !s.fld.latchPrev.getLsbD j then s.raise 0x0D01 2 j [2, p] else s) s
  { s1 with fld := { s1.fld with
      shortPrev := BitVec.ofNat 8 (col 3), wiredPrev := BitVec.ofNat 8 (col 2), latchPrev := BitVec.ofNat 8 (col 1) } }

def State.heldOut (s : State) (j : Nat) : Option CmdCtx := sget (fun _ => none) s.fld.held j
def State.setHeldOut (s : State) (j : Nat) (c : Option CmdCtx) : State :=
  { s with fld := { s.fld with held := sput (fun _ => none) s.fld.held j c } }

/-- A held enable of output j is dropped, and the event says so (R43). -/
def State.dropHeldOut (s : State) (j : Nat) : State :=
  if (s.heldOut j).isSome then (s.setHeldOut j none).raise 0x0402 0 j [2, 0, 0] else s

/-- RESTARTED is seen for the first time (R344): OUT_ON is cleared, and the held enables with it (log 181), the configuration is sent again,
and RST_ACK follows; the event 0x0D05 is raised. -/
def State.seeRestarted (s : State) (restarted : Bool) : State :=
  if restarted && !s.fld.seenRestarted then
    let s1 := { s with fld := { s.fld with
      seenRestarted := true, cmd := 0, cfgQueue := s.fieldConfig, sendAck := false, fieldRestarted := true } }
    ((List.range 8).foldl (fun s j => s.dropHeldOut j) s1).raise 0x0D05 1 0 []
  else if !restarted && s.fld.seenRestarted then
    { s with fld := { s.fld with seenRestarted := false, sendAck := false } }
  else s

/-- FIELD_M_UPLINK_RECEIVE (R343, R344, R470, R471): the control die and channel P; a control die that is still booting takes none. -/
def execFieldMUplinkReceive (bytes : List Byte) (s : State) : Result :=
  let r := epochSee s.fld.epochM (epochOf bytes) s.fld.zeroM true
  if s.boot.booting then .next s
  else if barrierCrcOk .m bytes then
    let s1 := { s with fld := { s.fld with epochM := r.1, zeroM := r.2.2.2 } }
    let s2 := if r.2.1 then
        { s1 with fld := { s1.fld with filt := [], snoM := none, winM := none, rxSeqM := none, orders := s1.fld.orders.map (fun o => { o with sent := 0 }) } }
      else s1
    if r.2.2.1 then
      let flags := (byteAt bytes 5).toNat
      let sno := (byteAt bytes 4).toNat
      let fresh := decide (s2.fld.snoM ≠ some sno)
      let s3 := { s2 with fld := { s2.fld with
        lastM := some s.coreTicks, lastUp := s2.fld.up, up := bytes, mGaps := seqGap s2.fld.rxSeqM bytes s2.fld.mGaps, snoM := some sno, rxSeqM := some (byteAt bytes 1).toNat
        wdExpired := s2.fld.wdExpired || nbit flags 1
        winM := if nbit flags 7 then none else s2.fld.winM
        filt := if nbit flags 7 then [] else s2.fld.filt } }
      let s4 := s3.channelUplink .p bytes
      let s5 := s4.takeInputs (field bytes 2 2) (s4.takesInputs flags fresh)
      .next ((s5.outputEvents bytes).seeRestarted (nbit flags 2))
    else .next { s2 with fld := { s2.fld with mErrs := inc32 s2.fld.mErrs } }
  else .next { s with fld := { s.fld with mErrs := inc32 s.fld.mErrs } }

/-- FIELD_H_UPLINK_RECEIVE (R343, R470, R471): the island, while it runs, and channel H. -/
def execFieldHUplinkReceive (bytes : List Byte) (s : State) : Result :=
  let r := epochSee s.fld.epochH (epochOf bytes) s.fld.zeroH true
  if !s.saf.islandRunning then .next s
  else if barrierCrcOk .h bytes then
    let s1 := { s with fld := { s.fld with epochH := r.1, zeroH := r.2.2.2 } }
    let s2 := if r.2.1 then ({ s1 with fld := { s1.fld with rxSeqH := none } }).channelForget .h else s1
    if r.2.2.1 then
      let s3 := { s2 with fld := { s2.fld with lastH := some s.coreTicks, hGaps := seqGap s2.fld.rxSeqH bytes s2.fld.hGaps, rxSeqH := some (byteAt bytes 1).toNat } }
      .next (s3.channelUplink .h bytes)
    else .next { s2 with fld := { s2.fld with hErrs := inc32 s2.fld.hErrs } }
  else .next { s with fld := { s.fld with hErrs := inc32 s.fld.hErrs } }

/-! Inputs and tests. -/

/-- The time of a test after `now`, in steps of `per` from `start` (R328, R334): what moves one test moves no later one. -/
def nextTest (start per now : Nat) : Nat := start + ((now - start) / per + 1) * per

/-- Whether a test window may open (R328): 62.5 µs after a regular window, and 15 µs into the pulse. -/
def State.testWindowDue (s : State) : Bool :=
  let d := s.die
  let into (low : Bool) (fin : Nat) : Bool := low && decide (fin + 15000 ≤ s.coreTicks + s.parN 0x0D000003 0 * 1000)
  d.ftpEn && !d.low && decide (d.winNextS ≤ s.coreTicks + 62500) && (into (!d.ftp0) d.tpEnd0 || into (!d.ftp1) d.tpEnd1)

/-- FI_SAMPLE_WINDOW (R322, R323, R328): at or above 11 V high, at or below 5 V low, between the previous reading. -/
def execFiSampleWindow (test : Bool) (deciVolts : List Nat) (s : State) : Result :=
  let d := s.die
  let dueS := decide (d.winNextS ≤ s.coreTicks)
  let dueN := decide (d.winNext ≤ s.coreTicks)
  let ok := d.running && (if test then s.testWindowDue else dueS || dueN)
  let level := ofBools ((List.range 16).map (fun n =>
    let v := deciVolts.getD n 0
    let due := if s.safetyInput n then test || dueS else !test && dueN
    if d.invalid || !due then d.level.getLsbD n
    else if v ≥ 110 then true
    else if v ≤ 50 then false
    else d.level.getLsbD n))
  whenB ok s { s with die := { d with
    level := BitVec.ofNat 16 level, sno := (d.sno + 1) % 256, test := test
    winNextS := if test || !dueS then d.winNextS else s.coreTicks + 125000
    winNext := if test || !dueN then d.winNext else s.coreTicks + s.parN 0x0D000001 0 * 31250 } }

/-- TEST_PULSE (R328): every TP_PERIOD, FTP1 half a period after FTP0, 15 µs before the test window; suspended below VF_LOW. -/
def execTestPulse (k : Fin 2) (s : State) : Result :=
  let d := s.die
  let next := if k = 0 then d.tpNext0 else d.tpNext1
  let per := s.parN 0x0D000002 0 * 1000000
  let fin := s.coreTicks + s.parN 0x0D000003 0 * 1000
  whenB (d.running && d.ftpEn && !d.low && decide (next ≤ s.coreTicks) && decide (d.winNextS ≤ s.coreTicks + 77500)) s
    { s with die :=
        if k = 0 then { d with ftp0 := false, tpSrc := false, tpEnd0 := fin, tpNext0 := nextTest d.bootTick per s.coreTicks }
        else { d with ftp1 := false, tpSrc := true, tpEnd1 := fin, tpNext1 := nextTest (d.bootTick + per / 2) per s.coreTicks } }

/-- TEST_PULSE_END (R328): after TP_WIDTH the output returns to VF. -/
def execTestPulseEnd (k : Fin 2) (s : State) : Result :=
  let d := s.die
  if k = 0 then whenB (d.running && d.ftpEn && !d.ftp0 && decide (d.tpEnd0 ≤ s.coreTicks)) s { s with die := { d with ftp0 := true } }
  else whenB (d.running && d.ftpEn && !d.ftp1 && decide (d.tpEnd1 ≤ s.coreTicks)) s { s with die := { d with ftp1 := true } }

/-! Outputs. -/

/-- The earliest pending order of output j. -/
def State.nextOrder (s : State) (j : Nat) : Option Nat :=
  (s.die.orders.filter (fun o => decide (o.fq = j))).foldl (fun m o =>
    match m with
    | none => some o.fire
    | some t => some (min t o.fire)) none

/-- OFF_PULSE (R334, R337): an output that is on, with FQ_OPTEST = 1 or in a safety pair, at its offset j × OP_PERIOD / 8 in the period; a
pulse within OP_WIDTH + 50 µs before a pending order moves to 100 µs after it. -/
def execOffPulse (j : FqIx) (s : State) : Result :=
  let x := s.fq j.val
  let width := s.parN 0x0D000005 0 * 1000
  let per := s.parN 0x0D000004 0 * 1000000
  let ok := s.die.running && !s.testsOff && x.driven && (s.safetyOut j.val || decide (s.parN 0x0D200001 j.val = 1))
    && decide (x.pulseNext ≤ s.coreTicks) && (List.range 8).all (fun i => !(s.fq i).pulse.isSome)
  let soon := match s.nextOrder j.val with
    | none => none
    | some t => if t < s.coreTicks + width + 50000 then some (t + 100000) else none
  match soon with
  | some t => whenB ok s (s.modFq j.val (fun x => { x with pulseNext := t }))
  | none =>
    whenB ok s ((s.modFq j.val (fun x =>
      { x with pulse := some s.coreTicks, pulseJudge := true, pulseNext := nextTest (s.die.bootTick + j.val * per / 8) per s.coreTicks })).fqDrive j.val)

/-- j is found shorted to VF (R335, Table FLD-2): in a safety pair the partner is forced off and latched. -/
def State.shortToVf (s : State) (j : Nat) : State :=
  let s1 := s.modFq j (fun x => { x with shortVf := true })
  if s.safetyOut j then
    let k := if j % 2 = 0 then j + 1 else j - 1
    ((s1.modFq k (fun x => { x with latch := true, partner := j })).modFq j (fun x => { x with partner := k })).fqDrive k
  else s1

/-- j and k are found wired together (R335, Table FLD-2): both are forced off and latched. -/
def State.wiredTogether (s : State) (j k : Nat) : State :=
  ((s.modFq j (fun x => { x with wired := true, partner := k })).modFq k (fun x => { x with wired := true, partner := j })).fqDriveAll

/-- OFF_PULSE_JUDGE (R335): at 150 µs, unless the tests are suspended (R337). -/
def execOffPulseJudge (j : FqIx) (s : State) : Result :=
  let x := s.fq j.val
  match x.pulse with
  | none => .next s
  | some t =>
    if x.pulseJudge && decide (t + 150000 ≤ s.coreTicks) then
      let s1 := s.modFq j.val (fun x => { x with pulseJudge := false })
      if s.testsOff then .next s1
      else
        let s2 := { s1 with fld := { s1.fld with opPulses := inc32 s1.fld.opPulses } }
        .next (if x.readback then s2.shortToVf j.val else s2.modFq j.val (fun x => { x with shortVf := false }))
    else .next s

/-- OFF_PULSE_END (R334, R337): after OP_WIDTH the output resumes its command. -/
def execOffPulseEnd (j : FqIx) (s : State) : Result :=
  match (s.fq j.val).pulse with
  | none => .next s
  | some t =>
    if t + s.parN 0x0D000005 0 * 1000 ≤ s.coreTicks then
      let go := s.fqTarget j.val
      .next (s.modFq j.val (fun x => { x with pulse := none, pulseJudge := false, driven := go }))
    else .next s

/-- One output's readback sample (R334): high at 9 V or above, low at 4 V or below, a state after three samples. -/
def Fq.sample (x : Fq) (dv : Int) : Fq :=
  let raw := if dv ≥ 90 then true else if dv ≤ 40 then false else x.rbLast
  let run := if raw = x.rbLast then min (x.rbRun + 1) 3 else 1
  { x with rbLast := raw, rbRun := run, readback := if run = 3 then raw else x.readback }

/-- READBACK_SAMPLE (R334, R335). -/
def execReadbackSample (deciVolts : List Int) (s : State) : Result :=
  if s.die.running then
    let s1 := (List.range 8).foldl (fun s j => s.modFq j (fun x => x.sample (deciVolts.getD j 0))) s
    let s2 := (List.range 8).foldl (fun s j =>
      let x := s.fq j
      let off := !x.on && !x.demag && !x.driven && x.pulse.isNone && decide (x.rbRun = 3)
      if off && x.readback && !x.shortVf then s.shortToVf j
      else if off && !x.readback then s.modFq j (fun x => { x with shortVf := false })
      else s) s1
    let pulsing := (List.range 8).filter (fun j => (s2.fq j).pulse.isSome)
    .next (if s2.testsOff then s2 else pulsing.foldl (fun s j =>
      (List.range 8).foldl (fun s k =>
        let y := s.fq k
        if decide (k ≠ j) && y.driven && !y.readback && decide (y.rbRun = 3) && !y.wired then s.wiredTogether j k else s) s) s2)
  else .next s

/-- OVERLOAD (R330). -/
def execOverload (j : FqIx) (limiting : Bool) (s : State) : Result :=
  whenB (s.die.running && ((s.fq j.val).driven || !limiting)) s (s.modFq j.val (fun x => { x with overload := limiting }))

/-- THERMAL_SHUTDOWN (R330): at 175 °C the output switches off and its command is off. -/
def execThermalShutdown (j : FqIx) (tj : Int) (s : State) : Result :=
  whenB (s.die.running && decide (1750 ≤ tj)) s
    (((s.modFq j.val (fun x => { x with therm := true, on := false, pulse := none, pulseJudge := false })).setCmd j.val false).fqDrive j.val)

/-- A held timed order executes when its phase has ended, or is lost to a latch (R332, R338). -/
def State.runHeldOrder (s : State) (j : Nat) : State :=
  let x := s.fq j
  match x.holdOrder with
  | none => s
  | some tag =>
    if x.therm || x.demag then s
    else if x.wired || x.latch || x.offLatch then
      { s.modFq j (fun x => { x with holdOrder := none }) with fld := { s.fld with orderLost := inc32 s.fld.orderLost } }
    else
      let s1 := s.modFq j (fun x => { x with holdOrder := none, on := true })
      (({ s1 with die := { s1.die with orderAck := tag } }).setCmd j true).fqDrive j

/-- COOL_DOWN_END (R330): at 160 °C the cool-down ends, and the command is then off. -/
def execCoolDownEnd (j : FqIx) (tj : Int) (s : State) : Result :=
  whenB ((s.fq j.val).therm && decide (tj ≤ 1600)) s
    (((s.modFq j.val (fun x => { x with therm := false, on := false })).setCmd j.val false).runHeldOrder j.val)

/-- DEMAG_END (R331): the pin rises above −1 V. -/
def execDemagEnd (j : FqIx) (pinMilliVolts : Int) (s : State) : Result :=
  whenB ((s.fq j.val).demag && decide (-1000 < pinMilliVolts)) s
    (((s.modFq j.val (fun x => { x with demag := false })).runHeldOrder j.val).fqDrive j.val)

/-- DEMAG_LONG (R331): more than 20 ms. -/
def execDemagLong (j : FqIx) (s : State) : Result :=
  let x := s.fq j.val
  whenB (x.demag && !x.demagLong && decide (x.demagStart + 20000000 < s.coreTicks)) s
    ({ s.modFq j.val (fun x => { x with demagLong := true }) with
        fld := { s.fld with demagLong := BitVec.ofNat 8 (nsetBit s.fld.demagLong.toNat j.val true) } }.raise 0x0D02 1 j.val [])

/-- SAFETY_LINK_DISAGREE (R333): more than 10 ms, told once. -/
def execSafetyLinkDisagree (j : FqIx) (s : State) : Result :=
  let x := s.fq j.val
  match x.disagreeSince with
  | none => .next s
  | some t => whenB (!x.disagreeTold && decide (t + 10000000 < s.coreTicks)) s
      ((s.modFq j.val (fun x => { x with disagreeTold := true })).raise 0x0D06 1 j.val [])

/-- One order of the field die acts (R338, R332). -/
def State.fireOrder (s : State) (o : Order) : State :=
  let x := s.fq o.fq
  let s1 := { s with die := { s.die with orders := s.die.orders.filter (fun p => decide (p.tag ≠ o.tag)) } }
  if x.wired || x.latch || x.offLatch then { s1 with fld := { s1.fld with orderLost := inc32 s1.fld.orderLost } }
  else if o.level && (x.therm || x.demag) then
    { s1.modFq o.fq (fun x => { x with holdOrder := some o.tag }) with
      fld := { s1.fld with orderLate := inc32 s1.fld.orderLate } }
  else
    let s2 := { s1 with die := { s1.die with orderAck := o.tag } }
    ((s2.modFq o.fq (fun x => { x with on := o.level, holdOrder := none })).setCmd o.fq o.level).fqDrive o.fq

/-- Before in the order in which orders act: the earlier fire time, then the lower SEQ (R255). -/
def dieBefore (x y : Order) : Bool := decide (x.fire < y.fire) || (decide (x.fire = y.fire) && decide (x.tag ≤ y.tag))

def insertDie (x : Order) : List Order → List Order
  | [] => [x]
  | y :: ys => if dieBefore x y then x :: y :: ys else y :: insertDie x ys

/-- TIMED_ORDER_FIRE (R338, R332, R255): a due order acts, behind the orders of its output that come before it. -/
def execTimedOrderFire (tag : BitVec 16) (s : State) : Result :=
  match s.die.orders.find? (fun o => decide (o.tag = tag.toNat)) with
  | none => .next s
  | some o =>
    if o.fire ≤ s.coreTicks && s.die.running then
      .next (((s.die.orders.filter (fun p => decide (p.fq = o.fq) && dieBefore p o)).foldr insertDie []).foldl State.fireOrder s)
    else .next s

/-! Supply (R321, R339, R340). -/

def runBelow (n v lim : Nat) : Nat := if v < lim then n + 1 else 0
def runAbove (n v lim : Nat) : Nat := if lim < v then n + 1 else 0
def sinceAbove (t : Option Nat) (v lim now : Nat) : Option Nat :=
  if lim < v then (match t with
    | none => some now
    | some t => some t) else none

/-- SUPPLY_MEASURE (R321). -/
def execSupplyMeasure (vf : BitVec 16) (vqa : BitVec 16) (vqb : BitVec 16) (s : State) : Result :=
  let d := s.die
  let v := vf.toNat
  let a := min v vqa.toNat
  let b := min v vqb.toNat
  let sa := sinceAbove d.aboveA a 180 s.coreTicks
  let sb := sinceAbove d.aboveB b 180 s.coreTicks
  whenB d.running s { s with die := { d with
    vf := v, vqa := vqa.toNat, vqb := vqb.toNat
    warnRun := runBelow d.warnRun v 190, warnClr := runAbove d.warnClr v 195
    lowRun := runBelow d.lowRun v 160, lowClr := runAbove d.lowClr v 165
    offRunA := runBelow d.offRunA a 120, offRunB := runBelow d.offRunB b 120
    aboveA := sa, aboveB := sb
    restartOkA := d.restartOkA && sa.isSome, restartOkB := d.restartOkB && sb.isSome } }

/-- VF_WARN (R339). -/
def execVfWarn (s : State) : Result :=
  whenB (s.die.running && !s.die.warn && decide (4 ≤ s.die.warnRun)) s
    ({ s with die := { s.die with warn := true } }.raise 0x0D03 1 0
      ([BitVec.ofNat 8 ({ s with die := { s.die with warn := true } } : State).vfState] ++ be 2 s.die.vf))

/-- VF_LOW (R339): the inputs freeze, INVALID is set, and the tests are suspended. -/
def execVfLow (s : State) : Result :=
  whenB (s.die.running && !s.die.low && decide (4 ≤ s.die.lowRun)) s
    { s with die := { s.die with low := true, invalid := true } }

def inGroup (grp : Fin 2) (j : Nat) : Bool := if grp = 0 then decide (j < 4) else decide (4 ≤ j)

/-- VF_OFF (R339): every output of the group switches off and latches, and its pending orders are discarded. -/
def execVfOff (grp : Fin 2) (s : State) : Result :=
  let run := if grp = 0 then s.die.offRunA else s.die.offRunB
  let s1 := { s with die := { s.die with orders := s.die.orders.filter (fun o => !inGroup grp o.fq) } }
  let s2 := (List.range 8).foldl (fun s j => if inGroup grp j then s.modFq j (fun x => { x with offLatch := true, holdOrder := none }) else s) s1
  whenB (s.die.running && decide (4 ≤ run)) s s2.fqDriveAll

/-- SUPPLY_THRESHOLD_CLEAR (R339): the non-safety filters restart when the inputs unfreeze. -/
def execSupplyThresholdClear (s : State) : Result :=
  let d := s.die
  let w := d.warn && decide (4 ≤ d.warnClr)
  let l := d.low && decide (4 ≤ d.lowClr)
  whenB (d.running && (w || l)) s { s with
    die := { d with warn := d.warn && !w, low := d.low && !l, invalid := d.invalid && !l }
    fld := { s.fld with filt := if l then [] else s.fld.filt } }

/-- RESTART_OK (R340): above 18.0 V for 100 ms. -/
def execRestartOk (grp : Fin 2) (s : State) : Result :=
  match (if grp = 0 then s.die.aboveA else s.die.aboveB) with
  | none => .next s
  | some t => whenB (s.die.running && decide (t + 100000000 ≤ s.coreTicks)) s
      { s with die := if grp = 0 then { s.die with restartOkA := true } else { s.die with restartOkB := true } }

/-- FIELD_DIE_RESET (R321): VF below 9.0 V. -/
def execFieldDieReset (vf : BitVec 16) (s : State) : Result :=
  whenB (decide (vf.toNat < 90)) s { s with die := { FieldDie.reset with vf := vf.toNat } }

/-- FIELD_DIE_RESET_RELEASE (R321, R344): VF above 10.0 V; every output off, RESTARTED set. -/
def execFieldDieResetRelease (vf : BitVec 16) (s : State) : Result :=
  let t := s.coreTicks
  let tp := s.parN 0x0D000002 0 * 1000000
  let op := s.parN 0x0D000004 0 * 1000000
  let s1 := { s with die := { FieldDie.reset with
    running := true, restarted := true, bootTick := t, vf := vf.toNat, lastM := t, lastH := t, frameStart := t
    tpNext0 := t + tp, tpNext1 := t + tp + tp / 2 } }
  whenB (!s.die.running && decide (100 < vf.toNat)) s
    ((List.range 8).foldl (fun s j => s.modFq j (fun x => { x with pulseNext := t + op + j * op / 8 })) s1)

/-- FIELD_WATCHDOG (R345). -/
def execFieldWatchdog (s : State) : Result :=
  let d := s.die
  let s1 := { s with
    die := { d with wd := true, wdAt := s.coreTicks, orders := [], ftpEn := false, ftp0 := false, ftp1 := false }
    fld := { s.fld with orderLost := add32 s.fld.orderLost (d.orders.length + s.heldOrders) } }
  let s2 := (List.range 8).foldl (fun s j => s.modFq j (fun x =>
    { x with
      safe := !s1.safetyOut j
      safeOn := !s1.safetyOut j && (match s1.parN 0x0D200002 j with
        | 0 => false
        | 1 => true
        | _ => x.driven || x.pulse.isSome)
      holdOrder := none })) s1
  whenB (d.running && !d.wd && decide (d.lastM + s.parN 0x0D000006 0 * 100000 ≤ s.coreTicks)) s s2.fqDriveAll

/-- T_HOLD_EXPIRY (R345). -/
def execTHoldExpiry (s : State) : Result :=
  whenB (s.die.running && s.die.wd && decide (s.die.wdAt + s.parN 0x0D000007 0 * 1000000 ≤ s.coreTicks)) s
    ((List.range 8).foldl (fun s j => s.modFq j (fun x => { x with safeOn := false })) s).fqDriveAll

/-- FIELD_WATCHDOG_CLEAR (R346): valid channel M frames have returned since the expiry; the control die raises its event. -/
def execFieldWatchdogClear (s : State) : Result :=
  let s1 := { s with die := { s.die with wd := false } }
  let s2 := (List.range 8).foldl (fun s j => s.modFq j (fun x => { x with safe := false, safeOn := false })) s1
  whenB (s.die.running && s.die.wd && decide (s.die.wdAt < s.die.lastM)) s (s2.fqDriveAll.raise 0x0D04 2 0 [])

/-! Host commands. -/

/-- Whether output j is latched (R336). -/
def State.fqLatched (s : State) (j : Nat) : Bool := (s.fq j).wired || (s.fq j).latch

def maskOutputs (mask : Nat) : List Nat := (List.range 8).filter (fun j => nbit mask j)

/-- One output of FLD_OUT_SET (R453, R332, R42). -/
def State.outSet (s : State) (c : CmdCtx) (j : Nat) (level : Bool) : State :=
  let x := s.fq j
  let s := if level then s else s.modFq j (fun x => { x with holdOrder := none })
  if level && (x.therm || x.demag || (s.heldOut j).isSome) then (if (s.heldOut j).isSome then s else s.setHeldOut j (some c))
  else if level then s.setCmd j true
  else (s.dropHeldOut j).setCmd j false

/-- The outputs of a FLD_OUT_SET take their levels; the answer names those whose enable is held (R453). -/
def State.outputsSet (s : State) (w : OutWait) : State × Nat :=
  let js := maskOutputs w.mask.toNat
  (js.foldl (fun s j => s.outSet w.ctx j (w.levels.getLsbD j)) s,
    ofBools ((List.range 8).map (fun j =>
      js.contains j && w.levels.getLsbD j && ((s.fq j).therm || (s.fq j).demag || (s.heldOut j).isSome))))

/-- The reply of a FLD_OUT_SET (R453). -/
def heldStatus (held : Nat) : Nat := if held = 0 then stDone else stDeferred

/-- The FLD_OUT_SETs of a cycle land at the boundary that ends it, in order of arrival, and are answered (R453). -/
def State.landOutputs (s : State) : State :=
  s.fld.outWait.foldl (fun s (w : OutWait) =>
    let t := s.outputsSet w
    t.1.replyLater w.ctx 0x0D01 (heldStatus t.2) (be 1 t.2)) { s with fld := { s.fld with outWait := [] } }

/-- FLD_OUT_SET (0x0D01): it lands at the next boundary, or at once while no cycles run (R453; log 181). -/
def execFldOutSet (c : CmdCtx) (mask levels : BitVec 8) (s : State) : Result :=
  s.host_ c { op := 0x0D01, need := roleOperate, params := [mask, levels] } true (fun s =>
    let js := maskOutputs mask.toNat
    if js.any s.fqLatched then .refuse stState []
    else if js.any s.safetyOut then .refuse stSafetyOut []
    else if s.cyc.running then .quiet { s with fld := { s.fld with outWait := s.fld.outWait ++ [⟨c, mask, levels⟩] } }
    else
      let t := s.outputsSet ⟨c, mask, levels⟩
      .ok t.1 (heldStatus t.2) (be 1 t.2))

/-- FLD_LATCH_CLEAR (0x0D02, R336). -/
def execFldLatchClear (c : CmdCtx) (mask : BitVec 8) (s : State) : Result :=
  s.host_ c { op := 0x0D02, need := roleOperate, params := [mask] } true (fun s =>
    let ok := (maskOutputs mask.toNat).all (fun j =>
      let k := (s.fq j).partner
      !s.fqLatched j || (!s.fld.cmd.getLsbD j && !s.fld.cmd.getLsbD k && !(s.fq j).readback && !(s.fq k).readback))
    if ok then .ok { s with fld := { s.fld with clr := some (mask.toNat, 2) } } stDone [] else .refuse stState [])

/-- FLD_RESTART (0x0D03, R340): the request goes in the next two frames. -/
def execFldRestart (c : CmdCtx) (s : State) : Result :=
  s.host_ c { op := 0x0D03, need := roleOperate } true (fun s =>
    if s.die.restartOkA || s.die.restartOkB then .ok { s with fld := { s.fld with restart := 2 } } stDone []
    else .refuse stState [])

end Sys2Proof.Machine
end

