-- ==== Sys2Proof/Machine/Motion.lean ====
section
/-! DEFINITION. Motion commands, the segment pool's commands and landing, homing and direct references
(spec/07_profiles_and_steppers.md, spec/18_service_without_stopping.md R483). -/

namespace Sys2Proof.Machine

/-- An axis index of a command: 0 to 255 (R8). -/
def axisArg (a : BitVec 16) : Bool := decide (a.toNat < 256)

/-- The axis may take a motion command: READY, or RUNNING under a profile. -/
def State.canMove (s : State) (a : Nat) : Bool :=
  let x := s.axis a
  decide (x.life.state = .ready)
    || (decide (x.life.state = .running) && !x.life.direct && decide (x.prof.homing = .none))

/-- The checks and the request of a start command (R285): its state, a waiting request, what no seal could admit. -/
def State.askStart (s : State) (c : CmdCtx) (a : Nat) (kind : ReqKind) : Ans :=
  let q := s.makeRequest a kind (some c) none
  if s.beyondBudget q.group (s.reqCost a s.cyc.cycle kind []) then .refuse 0x0408 []
  else .ok (s.modAxis a (fun x => { x with req := some q })) stAccepted []

/-- AX_MOVE_ABS (0x0404; R224, R225). -/
def execAxMoveAbs (c : CmdCtx) (axis : BitVec 16) (target vm am dm : Word48) (jm : Word48) (s : State) : Result :=
  s.host_ c { op := 0x0404, need := roleOperate
              params := be 2 axis.toNat ++ [0, 0] ++ be 6 target.toNat ++ be 6 vm.toNat ++ be 6 am.toNat ++ be 6 dm.toNat ++ be 6 jm.toNat } true (fun s =>
    let a := axis.toNat
    let kind : ReqKind := .basic target.toInt vm.toInt am.toInt dm.toInt jm.toNat
    let amax := s.par 0x04000162 a
    if !axisArg axis then .refuse stBadValue []
    else if vm.toInt ≤ 0 ∨ am.toInt ≤ 0 ∨ dm.toInt ≤ 0 ∨ s.par 0x04000161 a < vm.toInt ∨ amax < am.toInt ∨ amax < dm.toInt then
      .refuse stBadValue []
    else if !s.canMove a then .refuse stState []
    else
      let x := s.startRef a s.cyc.cycle kind
      if 8 < (s.basicPlan a x target.toInt vm.toInt am.toInt dm.toInt jm.toNat).length then .refuse stBadValue []
      else if (s.reqOwner a).isSome then .refuse stBusy []
      else if s.curveBlocked a s.cyc.cycle kind then .refuse stState []
      else if s.axState a = .ready ∧ smod 48 (target.toInt + (s.axis a).prof.homeZero - x.r) = 0 then .ok s stDone []
      else s.askStart c a kind)

/-- AX_HALT (0x0405): the reference comes to rest under torque (R184, R258). -/
def execAxHalt (c : CmdCtx) (axis : BitVec 16) (dec : Word48) (s : State) : Result :=
  s.host_ c { op := 0x0405, need := roleOperate, params := be 2 axis.toNat ++ be 6 dec.toNat } true (fun s =>
    let a := axis.toNat
    if !axisArg axis ∨ dec.toInt < 0 then .refuse stBadValue []
    else if s.axState a ≠ .running then .refuse stState []
    else
      let d := if dec = 0 then s.par 0x04000137 a else dec.toInt
      let s1 := (s.planStop a 0 d).modLife a (fun l => { l with stopKind := 0, stopDec := 0, direct := false })
      .ok s1 stDone [])

/-- AX_HOME (0x0406; R237, R238). -/
def execAxHome (c : CmdCtx) (axis : BitVec 16) (dir : BitVec 8) (s : State) : Result :=
  s.host_ c { op := 0x0406, need := roleOperate, params := be 2 axis.toNat ++ [dir] } true (fun s =>
    let a := axis.toNat
    if !axisArg axis ∨ 1 < dir.toNat then .refuse stBadValue []
    else if !s.isStepper a || decide (s.axState a ≠ .ready) || decide (s.parN 0x04000101 a = 0xFF) then .refuse stState []
    else if (match s.localPort a with
        | none => false
        | some n => decide (s.parN 0x04200005 n ≠ 1)) then .refuse stState []
    else if (s.reqOwner a).isSome then .refuse stBusy []
    else s.askStart c a (.home (decide (dir = 0))))

/-- Whether PRO_START would refuse a first segment, and with what (R220). -/
def State.segRefusal (s : State) (i : Nat) : Option Nat :=
  if segFirm ≤ i then some stBadValue else if s.segIsWritten i then none else some stBadId

/-- PRO_START (0x0502; R220). -/
def execProStart (c : CmdCtx) (axis : BitVec 16) (first : BitVec 16) (mode : BitVec 8) (s : State) : Result :=
  s.host_ c { op := 0x0502, need := roleOperate, params := be 2 axis.toNat ++ be 2 first.toNat ++ [mode] } true (fun s =>
    let a := axis.toNat
    if !axisArg axis ∨ 1 < mode.toNat then .refuse stBadValue []
    else match s.segRefusal first.toNat with
      | some st => .refuse st []
      | none =>
        if !s.canMove a then .refuse stState []
        else if (s.reqOwner a).isSome then .refuse stBusy []
        else s.askStart c a (.profile first.toNat (decide (mode = 1))))

/-- The axis rests at the end of a segment with S_HOLD (R221). -/
def State.isWaiting (s : State) (a : Nat) : Bool := decide (s.axState a = .running) && (s.axis a).prof.waiting

/-- PRO_CONTINUE (0x0504; R221). -/
def execProContinue (c : CmdCtx) (axis : BitVec 16) (s : State) : Result :=
  s.host_ c { op := 0x0504, need := roleOperate, params := be 2 axis.toNat } true (fun s =>
    let a := axis.toNat
    if !axisArg axis then .refuse stBadValue []
    else if !s.isWaiting a then .refuse stState []
    else match s.segRefusal (s.segAt (s.axis a).prof.seg).next with
      | some st => .refuse st []
      | none => if (s.reqOwner a).isSome then .refuse stBusy [] else s.askStart c a .resume)

/-- The members of interpolation group g (R226). -/
def State.members (s : State) (g : Nat) : List Nat := (List.range 256).filter (fun a => decide (s.parN 0x04000163 a = g))

/-- PRO_GROUP_LINEAR (0x0503; R226 to R228, R286). -/
def execProGroupLinear (c : CmdCtx) (group : BitVec 8) (f a dp j : Word48) (targets : List (BitVec 16 × Word48)) (s : State) :
    Result :=
  s.host_ c { op := 0x0503, need := roleOperate
              params := [group, BitVec.ofNat 8 targets.length] ++ be 6 f.toNat ++ be 6 a.toNat ++ be 6 dp.toNat ++ be 6 j.toNat
                ++ targets.flatMap (fun (t : BitVec 16 × Word48) => be 2 t.1.toNat ++ be 6 t.2.toNat) } true (fun s =>
    let mem := s.members group.toNat
    let tgt := fun (x : Nat) => (targets.find? (fun (t : BitVec 16 × Word48) => decide (t.1.toNat = x))).map (fun t => t.2.toInt)
    if 32 ≤ group.toNat ∨ f.toInt ≤ 0 ∨ a.toInt ≤ 0 ∨ dp.toInt ≤ 0 ∨ targets.length ≠ mem.length ∨ mem = []
        ∨ mem.any (fun x => (tgt x).isNone) = true then .refuse stBadValue []
    else if mem.any (fun x => decide (s.axState x ≠ .ready)) then .refuse stState []
    else
      let ms := mem.map (fun x => (x, smod 48 ((tgt x).getD 0 + (s.axis x).prof.homeZero - (s.axis x).prof.r)))
      if ms.all (fun (m : Nat × Int) => decide (m.2 = 0)) then .ok s stDone []
      else
        let h := s.groupShape ms f.toInt a.toInt dp.toInt j.toNat
        let lead := mem.headD 0
        if ms.any (fun (m : Nat × Int) => decide (8 < (memberPieces (s.axis m.1).prof.r m.2 h).length)) then .refuse stBadValue []
        else if mem.any (fun x => (s.reqOwner x).isSome) then .refuse stBusy []
        else if mem.any (fun x => decide (s.parN 0x040001C3 x ≠ s.parN 0x040001C3 lead)) then .refuse 0x0408 []
        else s.askStart c lead (.group group.toNat ms f.toInt a.toInt dp.toInt j.toNat))

/-- PRO_SEG_WRITE (0x0501; R218). -/
def execProSegWrite (c : CmdCtx) (first : BitVec 16) (segs : List PvtSeg) (s : State) : Result :=
  s.host_ c { op := 0x0501, need := roleOperate
              params := be 2 first.toNat ++ [BitVec.ofNat 8 segs.length, 0]
                ++ segs.flatMap (fun (g : PvtSeg) => be 6 g.w0.toNat ++ be 6 g.w1.toNat ++ be 6 g.w2.toNat ++ be 6 g.w3.toNat) }
    (decide (1 ≤ segs.length) && decide (segs.length ≤ 9)) (fun s =>
    let n := segs.length
    let bad := segs.any (fun (x : PvtSeg) =>
      let g := pvtVal x
      decide (g.dur < s.period) || ((decide (g.next = segNone) || g.hold) && decide (g.vEnd ≠ 0)))
    let used := (List.range 256).any (fun a =>
      let p := (s.axis a).prof
      p.running && (List.range n).any (fun i =>
        decide (first.toNat + i = p.seg) || decide (first.toNat + i = (s.segAt p.seg).next)))
    if segFirm < first.toNat + n ∨ bad = true then .refuse stBadValue []
    else if used then .refuse stState []
    else .quiet { s with eng := { s.eng with segWaiting := s.eng.segWaiting ++ [⟨c, first.toNat, segs, s.cyc.cycle⟩] } })

/-- A boundary has passed since a write was queued (R218, R444). -/
def State.boundaryPast (s : State) (cycle : Nat) : Bool := !s.cyc.running || decide (cycle < s.cyc.cycle)

/-- Two segment writes meet. -/
def segsMeet (x y : SegWrite) : Bool := decide (x.first < y.first + y.segs.length ∧ y.first < x.first + x.segs.length)

/-- SEGMENT_WRITE_LAND (R218, R40): of two sessions' writes of one segment the lower session lands. -/
def execSegmentWriteLand (s : State) : Result :=
  let now := s.eng.segWaiting.filter (fun (w : SegWrite) => s.boundaryPast w.cycle)
  let later := s.eng.segWaiting.filter (fun (w : SegWrite) => !s.boundaryPast w.cycle)
  .next (now.foldl (fun s (w : SegWrite) =>
    if now.any (fun (v : SegWrite) => decide (v.ctx.slot < w.ctx.slot) && segsMeet v w) then s.replyLater w.ctx 0x0501 stConflict []
    else
      let s1 := ((List.range w.segs.length).zip w.segs).foldl (fun s (p : Nat × PvtSeg) => s.putPvt (w.first + p.1) p.2) s
      let s2 := { s1 with eng := { s1.eng with
        segWritten := s1.eng.segWritten ++ ((List.range w.segs.length).map (w.first + ·)).filter (fun i => !s1.segIsWritten i) } }
      s2.replyLater w.ctx 0x0501 stDone []) { s with eng := { s.eng with segWaiting := later } })

/-- PRO_SEG_READ (0x0505). -/
def execProSegRead (c : CmdCtx) (first : BitVec 16) (count : BitVec 8) (s : State) : Result :=
  s.hostAt c (.proSegRead c first count) { op := 0x0505, need := roleView, move := false, logged := false } true (fun s =>
    let n := count.toNat
    if n = 0 ∨ 9 < n ∨ 65536 < first.toNat + n then .refuse stBadValue []
    else .ok s stDone ((List.range n).flatMap (fun i =>
      let g := s.pvtAt (first.toNat + i)
      be 6 g.w0.toNat ++ be 6 g.w1.toNat ++ be 6 g.w2.toNat ++ be 6 g.w3.toNat)))

/-! Homing (R238). -/

/-- The scaled encoder position of the last sample, in P48 of microsteps (R237). -/
def State.encPos (s : State) (a : Nat) : Int := rhu (s.par 0x04000167 a * (s.axis a).obs.fpos) 40

/-- STALL_DETECT: P_stall is recorded and the zero set; the back-off runs. -/
def execStallDetect (a : AxisIx) (s : State) : Result :=
  let p := (s.axis a.val).prof
  if p.homing = .stopping then
    let stall := smod 48 (s.encPos a.val + p.stepOfs)
    let ofs : Int := (s.parN 0x0400016E a.val * 65536 : Nat)
    .next (s.modProf a.val (fun p =>
      { p with pStall := stall, homeZero := smod 48 (if p.homePos then stall - ofs else stall + ofs), homing := .backOff }))
  else .next s

/-- HOME_FAIL: no stop within HOME_TRAVEL. -/
def execHomeFail (a : AxisIx) (s : State) : Result :=
  let p := (s.axis a.val).prof
  if decide (p.homing = .search) && decide (p.homeTravel ≤ (smod 48 (p.r - p.r0)).natAbs) then
    let s1 := (s.modProf a.val (fun p => { p with homing := .none, homeFail := true, v := 0, acc := 0 })).finishMotion a.val 0x0301
    .next ((s1.motionEnds a.val).raise 0x0404 1 a.val [])
  else .next s

/-- dev of a sample (R237), in P48 of microsteps. -/
def State.stepDeviation (s : State) (a n : Nat) : Int := smod 48 (s.rHist a (n - 1) - (s.axis a).prof.stepOfs - s.encPos a)

/-- STEP_OFS is captured so that dev is 0 at the sample. -/
def State.captureOfs (s : State) (a n : Nat) : State :=
  s.modProf a (fun p => { p with stepOfs := smod 48 (p.stepOfs + s.stepDeviation a n), stepDev := 0 })

/-- HOMING_COMPLETE. -/
def execHomingComplete (a : AxisIx) (s : State) : Result :=
  let p := (s.axis a.val).prof
  if decide (p.homing = .backOff) && decide (p.r = p.homeZero) && decide (p.v = 0) then
    let s1 := (s.captureOfs a.val ((s.axis a.val).fbk.sampleCycle)).modProf a.val (fun p => { p with homing := .none, homed := true })
    .next (s1.motionEnds a.val)
  else .next s

/-! Direct references (R483). -/

/-- DIRECT_MISS: the axis halts at QSTOP_DEC, clears DIRECT and passes to READY. -/
def execDirectMiss (a : AxisIx) (s : State) : Result :=
  let x := s.axis a.val
  if x.life.direct && decide (s.parN 0x040001E0 a.val ≤ x.prof.directMiss) then
    .next ((s.planStop a.val 0 (s.par 0x04000138 a.val)).modLife a.val (fun l => { l with stopKind := 0, stopDec := 0, direct := false }))
  else .next s

/-- The apply cycle that 16 bits name, from the current cycle on (R68). -/
def State.rebuildApply (s : State) (low : Nat) : Nat := s.cyc.cycle + (low + 65536 - s.cyc.cycle % 65536) % 65536

/-- AX_DIRECT (0x0409). -/
def execAxDirect (c : CmdCtx) (axis : BitVec 16) (op : BitVec 8) (refs : List DirectRef) (s : State) : Result :=
  s.host_ c { op := 0x0409, need := roleEngineer, expert := true
              params := be 2 axis.toNat ++ [op, BitVec.ofNat 8 refs.length]
                ++ refs.flatMap (fun (r : DirectRef) => be 2 r.apply.toNat ++ be 6 r.r.toNat ++ be 6 r.v.toNat) }
    (if op = 2 then decide (1 ≤ refs.length ∧ refs.length ≤ s.perPacket c 15 102) else decide (refs = [])) (fun s =>
    let a := axis.toNat
    if !axisArg axis ∨ 2 < op.toNat then .refuse stBadValue []
    else if op = 1 then
      if s.axState a ≠ .ready then .refuse stState []
      else .ok ((s.modLife a (fun l => { l with state := .running, direct := true })).modProf a (fun p =>
        { p with direct := [], directLast := some (p.r, 0), directMiss := 0, ended := false })) stDone []
    else if !(s.axis a).life.direct then .refuse stState []
    else if op = 0 then
      .ok ((s.planStop a 0 (s.par 0x04000137 a)).modLife a (fun l => { l with stopKind := 0, stopDec := 0, direct := false })) stDone []
    else
      .ok (refs.foldl (fun s (r : DirectRef) =>
        let n := s.rebuildApply r.apply.toNat
        if s.cyc.cycle + 2 + s.span a ≤ n then
          s.modProf a (fun p => { p with direct := sput (fun _ => none) p.direct n (some (r.r.toInt, r.v.toInt)) })
        else s.modProf a (fun p => { p with directLate := inc32 p.directLate })) s) stDone [])

end Sys2Proof.Machine
end

