-- ==== Sys2Proof/Machine/MoveOps.lean ====
section
/-! DEFINITION. The move list as shared operations: prediction, horizons, the pass, holds and returns
(spec/08_line_time_and_runahead.md R247 to R264, R510). -/

namespace Sys2Proof.Machine

def actField : Nat := 1
def actNode : Nat := 2
def actStart : Nat := 3
def actCapture : Nat := 4

def MoveItem.act (x : MoveItem) : Nat := x.e.action.toNat
def MoveItem.seqN (x : MoveItem) : Nat := x.e.seq.toNat
def MoveItem.repeats (x : MoveItem) : Bool := x.e.flags.getLsbD 7
def MoveItem.relative (x : MoveItem) : Bool := x.e.flags.getLsbD 6
/-- DISPATCHED or COMMITTED (R254). -/
def MoveItem.inFlight (x : MoveItem) : Bool := decide (x.state = .dispatched) || decide (x.state = .committed)

/-- An entry as the list keeps it: E_FLAGS [5:0] are reserved and read as 0 (R10, Table RUN-1). -/
def keptEntry (e : MoveEntry) : MoveEntry := { e with flags := e.flags &&& 0xC0#8 }

def newItem (e : MoveEntry) : MoveItem :=
  { e := keptEntry e, state := .armed, ts := 0, tf := none, resid := 0, passed := false, waitTrigger := false, nearSeen := false
    heldStop := false, blind := false, due := none, sent := false, exchanges := 0, deferrals := 0, watch := false, requested := false, heldBack := false, blocked := false }

def State.modMoves (s : State) (f : MoveList → MoveList) : State := { s with moves := f s.moves }

/-- The live entry of a SEQ. -/
def State.move (s : State) (seq : Nat) : Option MoveItem := s.moves.items.find? (fun (x : MoveItem) => decide (x.seqN = seq))

/-- The entry of that SEQ becomes x. -/
def State.setMove (s : State) (x : MoveItem) : State :=
  s.modMoves (fun m => { m with items := m.items.map (fun (y : MoveItem) => if y.seqN = x.seqN then x else y) })

/-- The entry frees its place. -/
def State.freeMove (s : State) (seq : Nat) : State :=
  s.modMoves (fun m => { m with items := m.items.filter (fun (y : MoveItem) => decide (y.seqN ≠ seq)) })

/-- An entry back in ARMED. -/
def MoveItem.arm (x : MoveItem) : MoveItem :=
  { x with state := .armed, ts := 0, due := none, sent := false, exchanges := 0, deferrals := 0, watch := false, requested := false, heldBack := false, blocked := false
           heldStop := false, blind := false }

/-- An entry that has fired is DONE (Table RUN-3): a REPEAT entry re-arms and waits for its trigger (R510). -/
def State.moveDone (s : State) (x : MoveItem) : State :=
  if x.repeats then s.setMove { x.arm with waitTrigger := true, passed := false } else s.freeMove x.seqN

/-! Prediction (R250). -/

/-- The range of L: the loop, or 2^32 counts without one (R242). -/
def State.lineSpan (s : State) : Int := if s.loopLen = 0 then 281474976710656 else s.loopLen

/-- The forward distance d of R250. -/
def State.forward (s : State) (e : MoveEntry) : Int := ((e.trigger.toNat : Int) - s.linePos) % s.lineSpan

/-- Whether the trigger lies behind a line without a loop. -/
def State.behind (s : State) (e : MoveEntry) : Bool := decide (s.loopLen = 0) && decide (140737488355328 ≤ s.forward e)

/-- τ in ns, to the nearest, of a forward distance d (2^-16 count), v (V48) and a (A48). -/
def arrival (d v a : Int) : Option Int :=
  if a = 0 then (if 0 < v then some (rdiv (d * 1000000000) v) else none)
  else
    let disc := v * v + 2 * (a * 256) * d
    if disc < 0 ∨ (v ≤ 0 ∧ disc ≤ v * v) then none
    else
      let fits (n : Nat) : Bool :=
        let m : Int := 2 * n - 1
        let r := 4 * d * 1000000000 - m * v
        decide (0 ≤ r) && decide (m * m * disc ≤ r * r)
      some (largest fits 120 0)

/-- The predicted fire time of an entry in the pass of cycle k; none while it is unreachable. -/
def State.predict (s : State) (e : MoveEntry) (k : Nat) : Option Int :=
  if !s.line.valid || s.behind e then none
  else (arrival (s.forward e) s.line.obs.vHat s.line.obs.aHat).map (fun t => s.tCycle k + t - (e.lead.toNat * 1000 : Nat))

/-! Horizons (R251, R252, R263). -/

/-- The exchange slot of a node. -/
def State.exchange (s : State) (n node : Nat) : Option SlotRec :=
  (s.sched n).records.find? (fun (r : SlotRec) => decide (r.use = useIod ∧ r.node = node))

/-- λ of Table RUN-4 in 0.1 ns. -/
def State.latency (s : State) (e : MoveEntry) : Nat :=
  if e.action = 1 then 312500
  else
    let c := s.sched e.seg.toNat
    let x := (s.seg e.seg.toNat).node e.target.toNat
    (tC + 8 * c.headSlots * c.slotLen) * 10 + max x.delayNorm x.delayFold

/-- H_c in cycles. -/
def State.horizon (s : State) (e : MoveEntry) : Nat :=
  if e.action = 1 ∨ e.action = 2 then cdiv (s.latency e) (s.period * 10) + 1
  else if e.action = 3 then 3 + s.span e.axis.toNat
  else 0

/-- H_d in cycles. -/
def State.dispatchAhead (s : State) (e : MoveEntry) : Nat :=
  let h := s.parN 0x06000001 0
  if s.trimmed 2 then min h (s.horizon e + 1) else h

/-- The tolerance in ns. -/
def State.moveTol (s : State) (e : MoveEntry) : Int :=
  ((if e.tol = 0 then s.parN 0x06000002 0 else e.tol.toNat) * 100 : Nat)

/-- The largest LEN of an output IOD (R512). -/
def iodWords (c : Schedule) : Nat := min 255 ((c.slotLen - c.guardLen - c.wCode - 24) / 4)

/-- The timed records that one exchange of a node has room for after its bit image (R254, R512). -/
def State.recordRoom (s : State) (n : Nat) (r : SlotRec) : Nat :=
  let image := sget (fun _ => ([] : List Byte)) (s.seg n).outImage r.node
  (4 * iodWords (s.sched n) - 4 - (padWords image).length) / 16

/-! Orders. -/

/-- The cycle in which a served time falls. -/
def State.cycleOf (s : State) (t : Int) : Int := (t - s.cyc.tEpoch) / s.period

/-- A REV item joins the queue of a segment (R75). -/
def State.queueRev (s : State) (n : Nat) (item : RevItem) (affected : Int) : State :=
  s.modSeg n (fun g => { g with revQ := g.revQ ++ [⟨item, affected⟩] })

/-- An order to the field die (R338): each chip switches only its own outputs (R374). -/
def State.orderField (s : State) (x : MoveItem) (op : Nat) (fire : Int) : State :=
  if s.twin.standby then s
  else
    let o : OutOrder := { seq := x.seqN % 65536, op := op, level := decide (x.e.outAct = 1), fq := x.e.target.toNat % 8, fire := fire, sent := 0 }
    { s with fld := { s.fld with orders := s.fld.orders.filter (fun (p : OutOrder) => decide (p.seq ≠ o.seq)) ++ [o] } }

/-- The entry's order is taken back, when it has left. -/
def State.cancelMove (s : State) (x : MoveItem) : State :=
  if x.act = actField then
    (s.orderField x 2 x.ts).modMoves (fun m => { m with cancelCnt := inc32 m.cancelCnt })
  else if x.act = actNode && x.sent then
    (s.queueRev x.e.seg.toNat (.cancel x.seqN) (s.cycleOf x.ts)).modMoves (fun m => { m with cancelCnt := inc32 m.cancelCnt })
  else s

/-- The order moves to a new fire time (R253). -/
def State.retimeMove (s : State) (x : MoveItem) (t : Int) : State :=
  let s1 := if x.act = actField then s.orderField x 1 t
    else s.queueRev x.e.seg.toNat (.retime x.seqN t) (s.cycleOf (min x.ts t))
  (s1.modMoves (fun m => { m with retimeCnt := inc32 m.retimeCnt })).setMove { x with ts := t }

/-- RESID is logged (R253). -/
def State.logResid (s : State) (x : MoveItem) (r : Int) : State :=
  (s.setMove { x with resid := r }).modMoves (fun m => { m with residMax := min 4294967295 (max m.residMax r.natAbs) })

/-! The pass (R252, R253). -/

def State.inFlightCount (s : State) : Nat := (s.moves.items.filter (fun (x : MoveItem) => x.inFlight)).length

def State.lateDispatch (s : State) (b : Bool) : State :=
  if b then s.modMoves (fun m => { m with dispLate := inc32 m.dispLate }) else s

/-- The limit of 1024 keeps an entry ARMED (R254). -/
def State.blockMove (s : State) (x : MoveItem) : State := (s.lateDispatch (!x.blocked)).setMove { x with blocked := true }

/-- A capture (Table RUN-2): L at the fire time, and the sample nearest it. -/
def State.fireCapture (s : State) (x : MoveItem) (t : Int) (k : Nat) : State :=
  let h := t - s.tCycle k
  let o := s.line.obs
  let pos := (s.linePos + rdiv (o.vHat * h) 1000000000 + rdiv (o.aHat * 256 * h * h) 2000000000000000000) % s.lineSpan
  let c := (2 * (t - s.cyc.tEpoch) - s.period + 2 * s.period - 1) / (2 * s.period)
  (s.modMoves (fun m => { m with captures := m.captures ++ [⟨x.e.seq, x.e.axis.toNat, t, pos, c.toNat⟩] })).moveDone x

/-- The entries already to leave in an exchange. -/
def State.recordsDue (s : State) (n node q : Nat) : Nat :=
  (s.moves.items.filter (fun (x : MoveItem) => decide (x.act = actNode ∧ x.e.seg.toNat = n ∧ x.e.target.toNat = node ∧ x.due = some q))).length

/-- Dispatch of an ARMED entry that is predicted at t, in the pass of cycle k (R252, R254). -/
def State.dispatchNow (s : State) (x : MoveItem) (t : Int) (k : Nat) : State :=
  let inside := (x.heldBack || decide (t < s.tCycle k + (s.horizon x.e * s.period : Nat))) && !x.blocked
  if x.act = actCapture then
    if t < s.tCycle (k + 1) then (s.lateDispatch inside).fireCapture x t k else s
  else if x.act = actField then
    if t < s.tCycle (k + 1) + (s.dispatchAhead x.e * s.period : Nat) then
      if 1024 ≤ s.inFlightCount then s.blockMove x
      else
        let s1 := ((s.lateDispatch inside).orderField x 1 t).setMove { x with state := .dispatched, ts := t, sent := true }
        s1.modMoves (fun m => { m with dispatchedCnt := inc32 m.dispatchedCnt })
    else s
  else if x.act = actNode then
    match s.exchange x.e.seg.toNat x.e.target.toNat with
    | none => s
    | some r =>
      let m := 2 ^ r.mux
      if (k + 1) % m = r.phase ∧ t < s.tCycle (k + 1) + ((s.dispatchAhead x.e + m - 1) * s.period : Nat) then
        if 1024 ≤ s.inFlightCount then s.blockMove x
        else if s.recordRoom x.e.seg.toNat r ≤ s.recordsDue x.e.seg.toNat r.node (k + 1) then s
        else (s.lateDispatch inside).setMove { x with state := .dispatched, ts := t, due := some (k + 1) }
      else s
  else s

/-- While a step waits for its boundary nothing new is dispatched; what is held back counts in DISP_LATE (R405). -/
def State.dispatchMove (s : State) (x : MoveItem) (t : Int) (k : Nat) : State :=
  let s1 := s.dispatchNow x t k
  if s.time.step.isSome then
    (if s1.move x.seqN = s.move x.seqN then s else s.setMove { x with heldBack := true })
  else s1

/-- R510 for a REPEAT entry that waits for its trigger. -/
def State.awaitTrigger (s : State) (x : MoveItem) : MoveItem :=
  let small := decide (2 * s.forward x.e < s.lineSpan)
  let reached := !small && (decide (s.loopLen = 0) || x.nearSeen)
  { x with waitTrigger := !reached, nearSeen := (x.nearSeen || small) && !reached }

/-- A pass has seen the trigger ahead by less than half the loop (R510). -/
def State.seeNear (s : State) (x : MoveItem) : MoveItem :=
  if s.line.valid && decide (2 * s.forward x.e < s.lineSpan) then { x with nearSeen := true } else x

/-- An order that has left is predicted again (R253); RESID keeps the last value before firing. -/
def State.repredict (s : State) (x : MoveItem) (k : Nat) : State :=
  let edge := s.tCycle k + (s.horizon x.e * s.period : Nat)
  if x.act = actNode ∧ x.due.isSome then s
  else if x.act = actField ∧ x.state = .committed ∧ x.ts ≤ s.tCycle k then s.moveDone x
  else
    match x.tf with
    | none =>
      if x.state = .dispatched then
        if edge ≤ x.ts then (s.cancelMove x).setMove x.arm else s.setMove { x with state := .committed }
      else s
    | some t =>
      if x.state = .dispatched then
        if t < edge then s.logResid { x with state := .committed } (t - x.ts)
        else if s.moveTol x.e < (t - x.ts).natAbs then s.retimeMove x t
        else s
      else if x.ts < s.tCycle k then s
      else s.logResid x (t - x.ts + (x.deferrals * s.period : Nat))

/-- One entry in the pass of cycle k. -/
def State.passItem (s : State) (k : Nat) (x0 : MoveItem) : State :=
  let x := { x0 with tf := s.predict x0.e k }
  match x.state with
  | .held =>
    let gone := match x.tf with
      | none => false
      | some t => decide (t < s.tCycle (k + 1))
    let y := if !s.line.valid then x else if x.waitTrigger then s.awaitTrigger x else s.seeNear x
    s.setMove { y with passed := y.passed || gone }
  | .armed =>
    if x.waitTrigger then
      if s.line.valid then s.setMove { s.awaitTrigger x with tf := none } else s.setMove { x with tf := none }
    else
      let y := s.seeNear x
      let s1 := s.setMove y
      match y.tf with
      | none => s1
      | some t => if y.act = actStart then s1 else s1.dispatchMove y t k
  | .dispatched | .committed =>
    let y := s.seeNear x
    (s.setMove y).repredict y k
  | _ => s

/-- Before in the order of R254: the earlier fire time, then the lower SEQ; an entry without one comes last. -/
def moveBefore (x y : MoveItem) : Bool :=
  match x.tf, y.tf with
  | some a, some b => decide (a < b) || (decide (a = b) && decide (x.seqN ≤ y.seqN))
  | some _, none => true
  | none, some _ => false
  | none, none => decide (x.seqN ≤ y.seqN)

def insertMove (x : MoveItem) : List MoveItem → List MoveItem
  | [] => [x]
  | y :: ys => if moveBefore x y then x :: y :: ys else y :: insertMove x ys

def sortMoves (l : List MoveItem) : List MoveItem := l.foldr insertMove []

/-- The pass of cycle k over every entry. -/
def State.movePass (s : State) (k : Nat) : State :=
  (sortMoves (s.moves.items.map (fun (x : MoveItem) => { x with tf := s.predict x.e k }))).foldl (fun s x => s.passItem k x)
    { s with cyc := { s.cyc with movePassed := some k } }

/-! Starts (R247 action 0x03, R252, R285). -/

/-- Why a start of the move list is dropped at its dispatch: the state or the segment (3), a waiting request (0), the
budget (1). -/
def State.startDrop (s : State) (a : Nat) (kind : ReqKind) (q : Request) : Option Nat :=
  let stateOk := match kind with
    | .resume => s.isWaiting a && (s.segRefusal (s.segAt (s.axis a).prof.seg).next).isNone
    | .profile first _ => s.canMove a && (s.segRefusal first).isNone
    | _ => false
  if !stateOk then some 3
  else if (s.reqOwner a).isSome then some 0
  else if s.beyondBudget q.group (s.reqCost a s.cyc.cycle kind []) then some 1
  else none

/-- A start-profile entry is put to the Arbiter at the seal of cycle k. -/
def State.startMove (s : State) (x : MoveItem) (t : Int) (late : Bool) : State :=
  let a := x.e.axis.toNat
  let kind : ReqKind := if x.e.segment = 0xFFFF then .resume else .profile x.e.segment.toNat x.relative
  let q := s.makeRequest a kind none (some x.seqN)
  match s.startDrop a kind q with
  | some r => (s.raise 0x0603 1 a (be 4 x.seqN ++ [BitVec.ofNat 8 r])).moveDone x
  | none =>
    if 1024 ≤ s.inFlightCount then s.blockMove x
    else
      let s1 := ((s.lateDispatch (late && !x.blocked)).modAxis a (fun y => { y with req := some q })).setMove
        { x with state := .committed, ts := t, requested := true, sent := true }
      s1.modMoves (fun m => { m with dispatchedCnt := inc32 m.dispatchedCnt })

/-- A start whose seal has come is put to the Arbiter (R248, R251); a step that waits holds it back (R405). -/
def State.startDue (k : Nat) (s : State) (x : MoveItem) : State :=
  if x.act = actStart ∧ x.state = .armed ∧ x.waitTrigger = false then
    match x.tf with
    | none => s
    | some t =>
      let due := (t - s.cyc.tEpoch + s.period - 1) / s.period - 3 - s.span x.e.axis.toNat
      if due ≤ k then
        (if s.time.step.isSome then s.setMove { x with heldBack := true } else s.startMove x t (x.heldBack || decide (due < k)))
      else s
  else s

/-- The starts due at the seal of cycle k: a0 − 3 − s, a0 the first apply cycle at or after the fire time. -/
def State.startMoves (s : State) (k : Nat) : State :=
  if s.cyc.movePassed ≠ some k then s
  else (sortMoves s.moves.items).foldl (State.startDue k) s

/-- After admission: a start that still waits adds T to its residual, and one that does not is DONE (R253, R285). -/
def State.settleStarts (s : State) : State :=
  s.moves.items.foldl (fun s x =>
    if x.act = actStart ∧ x.state = .committed then
      let waits := match (s.axis x.e.axis.toNat).req with
        | none => false
        | some q => decide (q.moveSeq = some x.seqN)
      if waits then s.logResid { x with deferrals := x.deferrals + 1 } (x.resid + s.period) else s.moveDone x
    else s) s

/-! Exchanges (R88, R254, R255, R264). -/

/-- The records that leave for a node in cycle k, and the list after they have left. -/
def State.takeRecords (s : State) (n node k : Nat) : State × List TimedRec :=
  let go := (sortMoves s.moves.items).filter (fun (x : MoveItem) =>
    decide (x.act = actNode ∧ x.e.seg.toNat = n ∧ x.e.target.toNat = node ∧ x.due = some k) && x.inFlight)
  (go.foldl (fun s x => (s.setMove { x with due := none, sent := true }).modMoves (fun m =>
      { m with dispatchedCnt := if x.sent then m.dispatchedCnt else inc32 m.dispatchedCnt })) s,
    go.map (fun (x : MoveItem) => ⟨x.seqN, x.ts, x.e.channel.toNat, x.e.outAct.toNat⟩))

/-- A node's exchange of cycle k has come: the COMMITTED entries past their fire time count it; after its second one an entry
without an act record is taken as fired, unless it is watched for FLUSH_LOST (R264). -/
def State.noteExchange (s : State) (n node k : Nat) : State :=
  s.moves.items.foldl (fun s x =>
    if x.act = actNode ∧ x.e.seg.toNat = n ∧ x.e.target.toNat = node ∧ x.state = .committed ∧ x.ts < s.tCycle k then
      if 2 ≤ x.exchanges ∧ x.watch = false then s.moveDone x else s.setMove { x with exchanges := x.exchanges + 1 }
    else s) s

/-- An act record of a node names the low 16 bits of a SEQ (R70, R255). -/
def State.moveActed (s : State) (n node tag : Nat) : State :=
  match (sortMoves s.moves.items).find? (fun (x : MoveItem) =>
      decide (x.act = actNode ∧ x.e.seg.toNat = n ∧ x.e.target.toNat = node ∧ x.seqN % 65536 = tag) && x.inFlight && x.sent) with
  | none => s
  | some x => s.moveDone x

/-! Holds and returns (R261, R262). -/

/-- Whether a stop of group g withdraws the entry. -/
def State.moveInGroup (s : State) (x : MoveItem) (g : Nat) : Bool :=
  decide (x.e.grp.toNat = g) || (decide (x.act = actStart) && decide (s.parN 0x08200001 x.e.axis.toNat = g))

/-- The request of a start that is withdrawn leaves the Arbiter's queue, uncharged; the entry is HELD and not dropped (R261; log 172). -/
def State.withdrawStart (s : State) (x : MoveItem) : State :=
  let a := x.e.axis.toNat
  let waits := match (s.axis a).req with
    | none => false
    | some q => decide (q.moveSeq = some x.seqN)
  if x.requested && waits then s.modAxis a (fun y => { y with req := none, dmaxHit := false }) else s

/-- One entry of stop group g is withdrawn (R261). -/
def State.holdMove (g : Nat) (s : State) (x : MoveItem) : State :=
  if s.moveInGroup x g then
    match x.state with
    | .armed => s.setMove { x with state := .held, passed := false, heldStop := true, blind := !s.line.valid }
    | .held => s.setMove { x with heldStop := true }
    | .dispatched | .committed =>
      let late := decide (x.state = .committed) && (decide (x.act = actField) || (decide (x.act = actNode) && x.sent))
      let s1 := ((s.withdrawStart x).cancelMove x).modMoves (fun m => { m with cancelLate := if late then inc32 m.cancelLate else m.cancelLate })
      s1.setMove { x with state := .held, passed := false, heldStop := true, blind := !s.line.valid, due := none, sent := false
                          requested := false }
    | _ => s
  else s

/-- A stop of group g (R261 steps 2 and 3). -/
def State.holdMoves (s : State) (g : Nat) : State := s.moves.items.foldl (State.holdMove g) s

/-- The stops that the SAF frame of a cycle carries newly withdraw entries. -/
def State.holdNewStops (s : State) (mask : Nat) : State :=
  ((List.range 32).foldl (fun s g => if nbit mask g && !nbit s.moves.stopMask g then s.holdMoves g else s) s).modMoves (fun m =>
    { m with stopMask := mask })

/-- The reset of groups returns their HELD entries (R261 step 4). -/
def State.returnMoves (s : State) (mask : Nat) : State :=
  s.moves.items.foldl (fun s x =>
    let named := (List.range 32).any (fun g => nbit mask g && s.moveInGroup x g)
    let clear := (List.range 32).all (fun g => !s.moveInGroup x g || decide (s.groupState g = 0))
    if x.state = .held ∧ x.heldStop = true ∧ named = true ∧ clear = true then
      if x.blind then s.setMove { x with heldStop := false }
      else if x.passed && !x.repeats then
        ((s.setMove { x with state := .missed, heldStop := false }).modMoves (fun m =>
          { m with missedAny := true, missedCnt := inc32 m.missedCnt })).raise 0x0602 1 0 (be 4 x.seqN)
      else s.setMove x.arm
    else s) s

/-- One entry is held because the line is lost (R246). -/
def State.holdBlind (s : State) (x : MoveItem) : State :=
  match x.state with
  | .armed => s.setMove { x with state := .held, passed := false, blind := true }
  | .dispatched => (s.cancelMove x).setMove { x with state := .held, passed := false, blind := true, due := none, sent := false }
  | .held => s.setMove { x with blind := true }
  | _ => s

/-- The line is lost (R262). -/
def State.holdForLine (s : State) : State := s.moves.items.foldl State.holdBlind s

end Sys2Proof.Machine
end

