-- ==== Sys2Proof/Machine/SafetyCmd.lean ====
section
/-! DEFINITION. The safety channels: SAF frames, speed monitors, uplinks, fatal faults, Endgame mode and the safety section
(spec/10_safety.md; spec/19_package_and_electrical.md R502). -/

namespace Sys2Proof.Machine

/-! SAF frames (Table FRM-9, R293, R294). -/

/-- The STO mask of a channel: its groups in STO. -/
def Channel.stoMask (c : Channel) : Nat := ofBools ((List.range 32).map (fun g => decide ((c.group g).code = 2)))
def Channel.ss1Mask (c : Channel) : Nat := ofBools ((List.range 32).map (fun g => decide ((c.group g).code = 1)))

/-- Bytes 0 to 15 of a SAF payload, with CRC_P. -/
def safPPart (sto ss1 seq flags : Nat) : List Byte :=
  let body := be 4 sto ++ be 4 ss1 ++ be 2 seq ++ [BitVec.ofNat 8 flags, 0]
  body ++ be 4 (crc32c body)

/-- The 28 bytes of a downlink SAF payload, with SIG_H under the segment's seed. -/
def safPayload (sto ss1 seq flags hSto hSs1 seed : Nat) : List Byte :=
  let body := safPPart sto ss1 seq flags ++ be 4 hSto ++ be 4 hSs1
  body ++ be 2 (crc16saf seed body) ++ [0, 0]

/-- The seed of a segment (Table SAF-7). -/
def State.segSeed (s : State) (n : Nat) : Nat := s.parN 0x08010001 n

/-- Channel P seals its part and channel H its masks at the REF seal of cycle k, for cycle k + 1 (R293). -/
def State.sealSaf (s : State) : State :=
  if s.saf.silent || s.saf.endgame.isSome then s
  else
    let seq := match s.saf.reported with
      | none => 0
      | some r => (r + 1) % 65535
    let part : SealedPart :=
      { cycle := s.cyc.cycle + 1, seq := seq, sto := BitVec.ofNat 32 s.saf.p.stoMask, ss1 := BitVec.ofNat 32 s.saf.p.ss1Mask
        flags := 0, arrived := s.saf.p.ok }
    { s with saf := { s.saf with
        sealed := some part, hSto := BitVec.ofNat 32 s.saf.h.stoMask, hSs1 := BitVec.ofNat 32 s.saf.h.ss1Mask } }

/-- t_ss1 of the groups whose SS1 bit a channel's masks carry: the monitors start, with v0 the latest speed (R305). -/
def State.startMonitors (s : State) (ch : Chan) (mask : Nat) : State :=
  (List.range 32).foldl (fun s g =>
    let c := s.chan ch
    let x := c.group g
    if nbit mask g && decide (x.code = 1) && x.ss1Start.isNone then
      let axes := s.groupAxes g
      let c1 := (axes.foldl (fun (c : Channel) a => c.setMon a { c.mon a with v0 := ((c.mon a).v.natAbs : Int) }) c).restartRuns axes
      s.setChan ch (c1.setGroup g { c1.group g with ss1Start := some (s.chTime ch) })
    else s) s

/-- A segment whose train runs. -/
def State.segRuns (s : State) (n : Nat) : Bool :=
  s.segActive n && decide ((s.seg n).phase = .run ∨ (s.seg n).phase = .synchronise)

/-- SAF_FRAME_INJECT (R293, R294): the island sends the sealed parts of this cycle on port A of every running segment, and on
port B of a folded one, or counts a P miss; the stops of the frame reach the axes.  A standby's channels stop its axes on their own. -/
def State.injectSaf (s : State) : State :=
  if s.saf.silent || s.saf.endgame.isSome then s
  else if s.twin.standby then
    match s.saf.sealed with
    | none => s
    | some p =>
      if p.cycle = s.cyc.cycle then
        ((s.startMonitors .p p.ss1.toNat).startMonitors .h s.saf.hSs1.toNat).safStops (p.sto ||| s.saf.hSto).toNat (p.ss1 ||| s.saf.hSs1).toNat
      else s
  else if !s.saf.h.ok || !s.saf.islandRunning then s
  else
    let k := s.cyc.cycle
    let ok := match s.saf.sealed with
      | none => none
      | some p =>
        if p.arrived ∧ p.cycle = k ∧ (match s.saf.islandSeq with
          | none => true
          | some q => decide (p.seq = (q + 1) % 65535)) = true then some p else none
    match ok with
    | none => { s with saf := { s.saf with pMiss := inc32 s.saf.pMiss, missRun := s.saf.missRun + 1 } }
    | some p =>
      let s1 := (List.range 8).foldl (fun s n =>
        if s.segRuns n then
          let pl := safPayload p.sto.toNat p.ss1.toNat p.seq p.flags.toNat s.saf.hSto.toNat s.saf.hSs1.toNat (s.segSeed n)
          let h : Hdr := { kind := tSaf, safe := true, dir := s.isBlack, seg := n, slotN := 0, cyc := k % 4294967296, len := 7 }
          let s2 := s.sendHead n false h pl
          let s3 := { s2 with saf := { s2.saf with
            injected := sput (fun _ => []) s2.saf.injected (n * 8 + k % 8) (sealFrame h pl) } }
          if (s.seg n).folded || decide (s.parN 0x07300003 n = 1) then s3.sendHead n true h pl else s3
        else s) s
      let s2 := { s1 with saf := { s1.saf with islandSeq := some p.seq, missRun := 0 } }
      let s3 := (s2.startMonitors .p p.ss1.toNat).startMonitors .h s.saf.hSs1.toNat
      s3.safStops (p.sto ||| s.saf.hSto).toNat (p.ss1 ||| s.saf.hSs1).toNat

/-- The stop-all frame of a segment (R73). -/
def State.stopAllFrame (s : State) (n : Nat) (portB : Bool) (cyc : Nat) : List Byte :=
  let m := 0xFFFFFFFF
  sealFrame { kind := tSaf, safe := true, dir := portB != s.isBlack, seg := n, slotN := 0, cyc := cyc % 4294967296, len := 7 }
    (safPayload m m 0xFFFF 0x80 m m (s.segSeed n))

/-! Speed monitors (R305 to R307). -/

/-- SAF_PERIOD's T in ns. -/
def State.safPeriod (s : State) : Nat := periodOf (s.parN 0x08000001 0)

/-- counts × 1000 / (SAF_SCALE × cycles × T) in µm/s, to the nearest (log 13). -/
def speedOf (counts scale cycles t : Int) : Int := rdiv (counts * 1000000000000000) (scale * cycles * t)

/-- The axis's entry in the flags of its group. -/
def State.flagGroup (s : State) (a : Nat) (f : GrpFlags → GrpFlags) : State := s.modGrpFlags (s.parN 0x08200001 a) f

/-- Whether a speed breaks the SS1 envelope at t ns after t_ss1. -/
def envelopeBroken (v0 v aMon t vM : Int) : Bool :=
  decide ((v.natAbs : Int) * 1000000 > max (v0 * 1000000 - aMon * t) 0 + vM * 1000000000)

/-- A new estimate of a monitored axis in a channel (R305). -/
def State.estimate (s : State) (ch : Chan) (a : Nat) (v : Int) : State :=
  let g := s.parN 0x08200001 a
  let c := s.chan ch
  let m := c.mon a
  let below := decide ((v.natAbs : Int) < s.par 0x08100003 g * 1000)
  let now := s.chTime ch
  let tc := (s.parN 0x08100004 g : Int) * 1000000
  let run := if below then m.belowRun + 1 else 0
  let since := if below then (match m.belowSince with
    | none => some now
    | some t => some t) else none
  let conf := match ch with
    | .p => decide (cdiv tc.toNat s.period ≤ run)
    | .h => (match since with
      | none => false
      | some t => decide (tc ≤ now - t))
  let s1 := s.setChan ch (c.setMon a { m with v := v, seen := true, belowRun := run, belowSince := since, confirmed := conf })
  let x := c.group g
  match x.ss1Start with
  | none => s1
  | some t0 =>
    if x.code = 1 && envelopeBroken m.v0 v (s.par 0x08100001 g) (now - t0) (s.par 0x08100002 g) then
      (s1.flagGroup a (fun f => { f with envBreak := true })).demand ch g true 0x04
    else s1

/-- The raw count of a released new sample of cycle n (R306), kept for 65 cycles. -/
def State.safRaw (s : State) (a n : Nat) (raw : Int) : State :=
  let m := s.saf.p.mon a
  let raws := (sput (fun _ => none) m.raws n (some raw)).filter (fun p => decide (n ≤ p.1 + 65))
  s.setChan .p (s.saf.p.setMon a { m with raws := raws })

/-- Whether the two speeds disagree now (R307): since when. -/
def State.trackDiscrepancy (s : State) (a : Nat) : State :=
  let m := s.saf.p.mon a
  let bad := m.seen && m.vHOk && decide ((s.saf.p.group (s.parN 0x08200001 a)).code ≠ 2)
    && (match m.vH with
      | none => false
      | some vh => decide ((m.v - vh).natAbs > s.parN 0x08200005 a * 1000))
  s.setChan .p (s.saf.p.setMon a { m with
    discSince := if bad then (match m.discSince with
      | none => some s.cyc.cycle
      | some c => some c) else none })

/-- SS1_ESTIMATE_P (R306): in each head cycle channel P forms v_P of each monitored axis from sample n and n − SPD_WIN_P, or
breaks the run of below cycles. -/
def State.estimateP (s : State) (a n : Nat) : State :=
  if s.monitored a then
    let m := s.saf.p.mon a
    let w := s.parN 0x08000004 0
    match sget (fun _ => (none : Option Int)) m.raws n, (if n < w then none else sget (fun _ => (none : Option Int)) m.raws (n - w)) with
    | some r1, some r0 =>
      let v := rdiv (smod 32 (r1 - r0) * s.par 0x08200004 a * 1000000000000000)
        (s.par 0x08200003 a * w * s.period * 1099511627776)
      (s.estimate .p a v).trackDiscrepancy a
    | _, _ => s.setChan .p (s.saf.p.setMon a { m with belowRun := 0, confirmed := false })
  else s

/-- SPEED_DISCREPANCY (R307). -/
def execSpeedDiscrepancy (a : AxisIx) (s : State) : Result :=
  let g := s.parN 0x08200001 a.val
  whenB (s.monitored a.val && s.discrepant a.val && decide ((s.saf.p.group g).code ≠ 2)) s
    ((s.flagGroup a.val (fun f => { f with fbDisc := true })).demand .p g true 0x09)

/-- SS1_TMAX (R305): T_MAX after t_ss1. -/
def execSs1Tmax (ch : Chan) (g : GroupIx) (s : State) : Result :=
  let x := (s.chan ch).group g.val
  match x.ss1Start with
  | none => .next s
  | some t0 =>
    whenB (decide (x.code = 1) && decide (t0 + (s.parN 0x08100005 g.val : Int) * 1000000 ≤ s.chTime ch)) s
      ((s.modGrpFlags g.val (fun f => { f with tMax := true })).demand ch g.val true 0x05)

/-- Whether every axis of the group is monitored and confirmed (R305). -/
def State.groupStill (s : State) (ch : Chan) (g : Nat) : Bool :=
  let axes := s.groupAxes g
  decide (axes ≠ []) && axes.all (fun a => s.monitored a && ((s.chan ch).mon a).confirmed)

/-- STANDSTILL_CONFIRM (R305): in SS1 the group demands STO; in STO the standstill releases outputs held under SO_DROP = 1
(R318). -/
def execStandstillConfirm (ch : Chan) (g : GroupIx) (s : State) : Result :=
  let c := s.chan ch
  let x := c.group g.val
  if s.groupStill ch g.val && decide (x.code = 1) && x.ss1Start.isSome then
    .next ((s.setChan ch (c.setGroup g.val { x with confirmed := true, still := true })).demand ch g.val true 0x06)
  else if s.groupStill ch g.val && decide (x.code = 2) then
    .next (s.setChan ch (c.setGroup g.val { x with still := true }))
  else .next s

/-! Uplinks (R308). -/

/-- How many c in a to b are ≡ p modulo m. -/
def countMod (a b m p : Int) : Int := if b < a then 0 else (b - p) / m - (a - 1 - p) / m

/-- The SAF uplink slots that a node owned strictly between two places, each a cycle and a slot. -/
def State.ownedBetween (s : State) (n node : Nat) (k0 : Int) (s0 : Nat) (k1 : Int) (s1 : Nat) : Int :=
  (((s.sched n).records.filter (fun (r : SlotRec) => decide (r.node = node ∧ r.use = useSaf))).map (fun (r : SlotRec) =>
    let m : Int := (2 ^ r.mux : Nat)
    let full := countMod k0 k1 m r.phase
    let first := if k0 % m = r.phase ∧ r.slot ≤ s0 then 1 else 0
    let last := if k1 % m = r.phase ∧ s1 ≤ r.slot ∧ ¬ (k0 = k1 ∧ r.slot ≤ s0) then 1 else 0
    full - first - last)).sum

/-- The axis under which a channel keeps the NODE_SEQ of a node: the first of its SAF slots. -/
def State.seqKey (s : State) (n node a : Nat) : Nat :=
  match (s.sched n).records.find? (fun (r : SlotRec) => decide (r.node = node ∧ r.use = useSaf)) with
  | none => a
  | some r => r.axis

/-- What a channel finds in the content of an uplink frame. -/
inductive UpContent where
  | crc | seq | axis | valid
  deriving DecidableEq, Repr

/-- CRC_N, AXIS and NODE_SEQ (R308). -/
def State.judgeUplink (s : State) (ch : Chan) (n : Nat) (r : SlotRec) (k : Int) (pl : List Byte) : UpContent :=
  if field pl 12 4 ≠ crc32c (pl.take 12) then .crc
  else if (byteAt pl 0).toNat ≠ r.axis then .axis
  else
    let m := (s.chan ch).mon (s.seqKey n r.node r.axis)
    match m.lastSeq with
    | none => .valid
    | some q =>
      let d := (field pl 10 2 + 65536 - q) % 65536
      let miss := s.ownedBetween n r.node (m.lastValid / 64 : Nat) (m.lastValid % 64) k r.slot
      if 1 ≤ d ∧ (d : Int) ≤ 1 + miss then .valid else .seq

/-- An uplink frame that a channel does not accept. -/
def State.upInvalid (s : State) (ch : Chan) (a : Nat) : State :=
  let c := s.chan ch
  s.setChan ch (c.setMon a { c.mon a with invalidRun := (c.mon a).invalidRun + 1 })

/-- WD_TRIPPED_DEMAND (R308). -/
def State.wdTripped (s : State) (ch : Chan) (n node : Nat) (on : Bool) : State :=
  (s.nodeAxes n node).foldl (fun s a =>
    let c := s.chan ch
    let s1 := s.setChan ch (c.setMon a { c.mon a with wd := on })
    if on then (s1.flagGroup a (fun f => { f with wdNode := true })).demand ch (s.parN 0x08200001 a) true 0x08 else s1) s

/-- A valid uplink frame in a channel: sequence, speed of channel H (in channel P for R307), and WD_TRIPPED. -/
def State.upValid (s : State) (ch : Chan) (n : Nat) (r : SlotRec) (k : Int) (pl : List Byte) : State :=
  let a := r.axis
  let key := s.seqKey n r.node a
  let c := s.chan ch
  let c1 := c.setMon key { c.mon key with lastSeq := some (field pl 10 2), lastValid := k.toNat * 64 + r.slot }
  let m := c1.mon a
  let count := field pl 4 6
  let vh := match m.lastCount with
    | none => none
    | some (c0, k0) =>
      if k ≤ k0 then none
      else some (speedOf (smod 48 ((count : Int) - c0)) (s.par 0x08200003 a) (k - k0) s.safPeriod)
  let c2 := c1.setMon a { m with
    invalidRun := 0, lost := false, lastArrival := s.cyc.cycle, lastCount := some (count, k.toNat), vH := vh, vHOk := vh.isSome }
  let s1 := (s.setChan ch c2).wdTripped ch n r.node (nbit (byteAt pl 1).toNat 6)
  if s.monitored a then
    match ch, vh with
    | .p, _ => s1.trackDiscrepancy a
    | .h, some v => s1.estimate .h a v
    | .h, none => s1
  else s1

/-- An uplink fault in a channel: STO with cause 0x07 unless the group is in STO there. -/
def State.upFault (s : State) (ch : Chan) (a : Nat) : State :=
  let g := s.parN 0x08200001 a
  let c := s.chan ch
  let s1 := s.setChan ch (c.setMon a { c.mon a with lost := true })
  if (c.group g).code = 2 then s1
  else (s1.flagGroup a (fun f => { f with upLost := true })).demand ch g true 0x07

/-- UPLINK_INVALID_RUN (R308). -/
def execUplinkInvalidRun (a : AxisIx) (s : State) : Result :=
  let go (s : State) (ch : Chan) : State :=
    if s.monitored a.val && decide (3 ≤ ((s.chan ch).mon a.val).invalidRun) then s.upFault ch a.val else s
  .next (go (go s .p) .h)

/-- UP_TIMEOUT (R308). -/
def execUpTimeout (a : AxisIx) (s : State) : Result :=
  let lim := s.parN 0x08200007 a.val
  let go (s : State) (ch : Chan) : State :=
    if s.monitored a.val && decide (((s.chan ch).mon a.val).lastArrival + lim ≤ s.cyc.cycle) then s.upFault ch a.val else s
  .next (if s.cyc.running then go (go s .p) .h else s)

/-! The island (R294, R295, R316). -/

/-- ISLAND_SEQ_REPORT (R294). -/
def execIslandSeqReport (s : State) : Result :=
  whenB (s.saf.islandRunning && s.saf.endgame.isNone && !s.saf.silent) s
    { s with saf := { s.saf with reported := s.saf.islandSeq, reportTick := s.coreTicks } }

/-- The run of consecutive cycles with a mismatch on segment n and its last cycle, after the frame of cycle k: a cycle without a
mismatch ends it (R295). -/
def State.tapAfter (s : State) (n k : Nat) (same : Bool) : Nat × Nat :=
  let r := sget (fun _ => ((0, 0) : Nat × Nat)) s.saf.tapRun n
  if same then (0, k) else if r.1 ≠ 0 ∧ r.2 = k then r else if r.1 ≠ 0 ∧ r.2 + 1 = k then (r.1 + 1, k) else (1, k)

/-- SAF_TAP_RECEIVE (R295, R368): the SEQ of a sound frame is recorded, and a frame that returns on port B is compared, damaged or not,
with the one injected in its cycle. -/
def execSafTapReceive (f : RxFrame) (s0 : State) : Result :=
  let s := s0.relay f
  let h := parseHdr f.bytes
  if h.kind = tSaf ∧ h.len = 7 ∧ h.src = 0 ∧ s.rx f ≠ .off then
    let s1 := match s.rx f with
      | .ok _ pl => { s with saf := { s.saf with tapSeq := some (field pl 8 2) } }
      | _ => s
    let n := f.port.val / 2
    let sent := sget (fun _ => ([] : List Byte)) s.saf.injected (n * 8 + h.cyc % 8)
    if f.port.val % 2 = 1 ∧ !h.loop ∧ !s.twin.standby ∧ sent ≠ [] then
      let run := s.tapAfter n (s.rebuildCycle h.cyc).toNat (decide (sent = f.bytes) && !f.error)
      .next { s1 with saf := { s1.saf with tapRun := sput (fun _ => ((0, 0) : Nat × Nat)) s1.saf.tapRun n run } }
    else .next s1
  else .next s

/-- A channel H failure (R316): no more SAF frames; with the twin bit set the chip hands over as well. -/
def State.channelHFails (s : State) : State :=
  if s.saf.h.ok then
    let s1 := ({ s with saf := { s.saf with h := { s.saf.h with ok := false }, hsafe0 := false, hsafe1 := false } }).raise 0x0803 2 0 [1]
    if s1.saf.twinBit && !s1.twin.standby then s1.fatal 0x01 else s1
  else s

/-- CHANNEL_P_FAILURE (R294, R295). -/
def execChannelPFailure (selfCheck : Bool) (s : State) : Result :=
  whenB (selfCheck || decide (2 ≤ s.saf.missRun)) s s.channelPFails

/-- CHANNEL_H_FAILURE (R295, R316). -/
def execChannelHFailure (crcUnits : Bool) (s : State) : Result :=
  whenB (crcUnits || s.saf.tapRun.any (fun p => decide (3 ≤ p.2.1))) s s.channelHFails

/-- TEMPERATURE_TRIP (R314): 128 °C at T_max in channel P, or at TDS in channel H. -/
def execTemperatureTrip (tds : Int) (s : State) : Result :=
  let s0 := { s with saf := { s.saf with tds := tds } }
  let hot := decide (1280 ≤ tds)
  let hotP := decide (1280 ≤ s.arb.tMax) && s.arb.judged
  if hot || hotP then
    let s1 := { s0 with saf := { s0.saf with tempTrip := true } }
    .next ((s1.demandMask (if hotP then .p else .h) allGroups true 0x0B).fatal 0x01)
  else .next s0

/-- The island alone is reset (R316, R460): SAF frames cease, and with the twin bit set the chip hands over. -/
def State.islandDown (s : State) : State :=
  let s1 := { s with saf := { s.saf with
    h := { s.saf.h with ok := false, linkLost := true }, hsafe0 := false, hsafe1 := false, islandRunning := false, islandLost := true
    islandSeq := none, injected := [], tapRun := [] } }
  if s.saf.twinBit && !s.twin.standby && s.saf.endgame.isNone then s1.fatal 0x01 else s1

/-- FATAL_FAULT (R314, R315, R316): each fault of Table SAF-6 where the state shows it; the supervisor's own comparison is the
event itself. -/
def execFatalFault (cause : FatalCause) (s : State) : Result :=
  match cause with
  | .secondEngine => whenB (decide (2 ≤ ((List.range 8).filter (fun i => (s.engine i).failed)).length)) s (s.fatal 0x01)
  | .supervisor => .next (s.fatal 0x01)
  | .controlDieSilent => .next (s.fatal 0x01)
  | .channelP => .next s.channelPFails
  | .temperature => whenB s.saf.tempTrip s (s.fatal 0x01)
  | .islandReset => .next s.islandDown
  | .channelH => .next s.channelHFails

/-- The island's own injection path onto a port, which the control die's idle does not hold; a port whose PORT_MODE is off carries nothing
(R44, R317). -/
def State.injectPort (s : State) (p : Nat) (bytes : List Byte) : State :=
  if s.parN 0x07000001 p = 0 then s else s.put (.frame ⟨p % 16, by omega⟩ (preamble ++ bytes))

/-- ENDGAME_STOP_ALL (R317 step 2): on both ports of every active segment, once per T of the island's clock. -/
def execEndgameStopAll (s : State) : Result :=
  match s.saf.endgame with
  | none => .next s
  | some e =>
    if e.next ≤ s.coreTicks ∧ s.saf.islandRunning = true ∧ s.saf.islandLost = false then
      let cyc := s.cyc.cycle + 1 + (s.coreTicks - e.entry) / s.period
      let s1 := (List.range 8).foldl (fun s n =>
        if s.segActive n then (s.injectPort (2 * n) (s.stopAllFrame n false cyc)).injectPort (2 * n + 1) (s.stopAllFrame n true cyc) else s) s
      .next { s1 with saf := { s1.saf with endgame := some { e with next := e.next + s.period }, stopAllAt := some s.coreTicks } }
    else .next s

/-- ENDGAME_OUTPUT_DROP (R317 steps 4 and 5).  With no monitored axis nothing is confirmed before END_TMAX (log 175). -/
def execEndgameOutputDrop (s : State) : Result :=
  match s.saf.endgame with
  | none => .next s
  | some e =>
    let mons := (List.range 256).filter s.monitored
    let still := decide (mons ≠ []) && mons.all (fun a => (s.saf.h.mon a).confirmed)
    let tmax := decide (e.entry + s.parN 0x08000005 0 * 1000000 ≤ s.coreTicks)
    let rise := e.v0.any (fun p =>
      decide (((s.saf.h.mon p.1).v.natAbs : Int) > p.2 + s.par 0x08100002 (s.parN 0x08200001 p.1) * 1000))
    whenB (still || tmax || rise) s { s with saf := { s.saf with endgame := some { e with dropped := true } } }

/-- TWIN_BIT_EXPIRY (R314): 2 cycles without refresh. -/
def execTwinBitExpiry (s : State) : Result :=
  whenB (s.saf.twinBit && decide (s.saf.twinBitCycle + 2 * s.period ≤ s.coreTicks)) s
    { s with saf := { s.saf with twinBit := false } }

/-- HSAFE_OK_TOGGLE (R502): 1 kHz on the island's oscillator. -/
def execHsafeOkToggle (s : State) : Result :=
  whenB (s.saf.islandRunning && s.saf.endgame.isNone && s.saf.h.ok && !s.saf.silent && decide (s.saf.hsafeTick + 500000 ≤ s.coreTicks)) s
    { s with saf := { s.saf with hsafe0 := true, hsafe1 := !s.saf.hsafe1, hsafeTick := s.coreTicks } }

/-! Input pairs and barrier links (R302, R303). -/

/-- SI_DISCREPANCY (R302). -/
def execSiDiscrepancy (ch : Chan) (i : PairIx) (s : State) : Result :=
  let c := s.chan ch
  let x := c.pair i.val
  match x.disagreeSince with
  | none => .next s
  | some t =>
    whenB (s.pairUsed i.val && !x.latch && decide (t + s.parN 0x08300004 i.val * 1000000 < s.coreTicks)) s
      ((s.setChan ch (c.setPair i.val { x with latch := true, sawDemand := false })).demandPair ch i.val 0x02 true)

/-- BARRIER_LINK_LOST (R303): 4 frame periods without a valid frame. -/
def execBarrierLinkLost (ch : Chan) (s : State) : Result :=
  let c := s.chan ch
  whenB (!c.linkLost && decide (c.lastFrame + 62500 ≤ s.coreTicks)) s
    ((s.setChan ch { c with linkLost := true, recover := 0 }).pairDemands ch)

/-- BARRIER_LINK_RECOVER (R303): 64 consecutive frame periods of valid frames. -/
def execBarrierLinkRecover (ch : Chan) (s : State) : Result :=
  let c := s.chan ch
  whenB (c.linkLost && decide (64 ≤ c.recover)) s (s.setChan ch { c with linkLost := false, recover := 0 })

/-! The acknowledge and the safety section (R310 to R313). -/

/-- Whether an edge is within ACK_WIN. -/
def State.edgeRecent (s : State) (t : Int) : Bool := decide (s.now ≤ t + (s.parN 0x08000003 0 : Int) * 1000000000)

/-- ACK_WIN_EXPIRY (R311). -/
def execAckWinExpiry (s : State) : Result :=
  let clear (c : Channel) : Channel := match c.ackEdge with
    | none => c
    | some t => if s.edgeRecent t then c else { c with ackEdge := none, ackUsed := false }
  .next ((s.setChan .p (clear s.saf.p)).setChan .h (clear s.saf.h))

/-- The items of a SAFETY_PARAMS section (R464, R442). -/
def safetyItems : List Byte → Nat → List (Nat × BitVec 96)
  | _, 0 => []
  | bs, n + 1 => (field bs 0 4, BitVec.ofNat 96 (field bs 4 12)) :: safetyItems (bs.drop 16) n

/-- Whether a section's CRC-32C fits (R312). -/
def sectionCrc (bs : List Byte) : Nat := crc32c (bs.take (bs.length - 4))
def sectionCrcOk (bs : List Byte) : Bool := decide (4 ≤ bs.length) && decide (unbe (bs.drop (bs.length - 4)) = sectionCrc bs)

/-- The values that the items of a section give the safety parameters that they name. -/
def sectionValues (bs : List Byte) : List (Nat × Int) :=
  (safetyItems bs ((bs.length - 4) / 16)).filterMap (fun p =>
    match paramFind p.1 with
    | none => none
    | some (r, _) => if isSafetyId p.1 then some (p.1, itemValue r.format p.2) else none)

/-- Whether every item of a section names a safety parameter and lies in its range. -/
def sectionInRange (bs : List Byte) : Bool :=
  (safetyItems bs ((bs.length - 4) / 16)).all (fun p =>
    match paramFind p.1 with
    | none => false
    | some (r, _) => isSafetyId p.1 && r.admits (itemValue r.format p.2))

/-- The rules that join safety parameters to each other and to the network (Table SAF-7, R306, R312). -/
def State.safetyRules (s : State) : Bool :=
  decide (s.par 0x08000001 0 = s.par 0x07300001 0)
  && (List.range 256).all (fun a => !s.monitored a || ((s.axisSlot a useSaf).isSome && !s.safLocal a))
  && !s.pairUsed (s.parN 0x08000002 0 / 2)
  && (List.range 8).all (fun n => (List.range 8).all (fun m => decide (n = m) || decide (s.segSeed n ≠ s.segSeed m)))

/-- Whether the section is valid is judged again, and an invalid one stops every group (R312): after a section takes force, and after the
cycle period or a schedule has changed. -/
def State.checkSection (s : State) : State :=
  let rules := s.safetyRules
  let s1 := { s with saf := { s.saf with
    p := { s.saf.p with paramOk := s.saf.p.sectOk && rules }
    h := { s.saf.h with paramOk := s.saf.h.sectOk && rules } } }
  let s2 := if s1.saf.p.paramOk then s1 else s1.demandMask .p allGroups true 0x0D
  if s1.saf.h.paramOk then s2 else s2.demandMask .h allGroups true 0x0D

/-- The safety parameters become those of a section, each other one its default; PARAM_OK of both channels follows (R312). -/
def State.applySection (s : State) (bs : List Byte) : State :=
  let cleared := { s with params := s.params.filter (fun p => !isSafetyId p.1) }
  let s1 := (sectionValues bs).foldl (fun s p => s.setPar p.1 p.2) cleared
  let ok := sectionCrcOk bs && sectionInRange bs
  State.checkSection { s1 with saf := { s1.saf with
    p := { s1.saf.p with sectOk := ok, paramsAt := s.cyc.cycle }
    h := { s1.saf.h with sectOk := ok, paramsAt := s.cyc.cycle } } }

/-- Whether both channels have seen an acknowledge edge since t (R313). -/
def State.edgeSince (s : State) (t : Int) : Bool :=
  match s.saf.p.ackEdge, s.saf.h.ackEdge with
  | some a, some b => decide (t ≤ a) && decide (t ≤ b)
  | _, _ => false

/-- SAF_PARAM_ACTIVATE (R313): the edge is not consumed. -/
def execSafParamActivate (s : State) : Result :=
  match s.saf.pendingSec with
  | none => .next s
  | some p =>
    if s.edgeSince p.since && decide (s.now ≤ p.since + 60000000000) then
      let s1 := (({ s with saf := { s.saf with pendingSec := none } }).applySection p.raw).queueConfig s
      .next (s1.raise 0x0802 0 0 ([0] ++ be 4 (sectionCrc p.raw)))
    else .next s

/-- SAF_PARAM_DISCARD (R313). -/
def execSafParamDiscard (s : State) : Result :=
  match s.saf.pendingSec with
  | none => .next s
  | some p =>
    whenB (decide (p.since + 60000000000 < s.now)) s
      (({ s with saf := { s.saf with pendingSec := none } }).raise 0x0802 0 0 ([1] ++ be 4 (sectionCrc p.raw)))

/-- The groups that a change of a safety parameter touches, before and after (R313). -/
def State.touched (s s' : State) (id : Nat) : Nat :=
  match paramFind id with
  | none => 0
  | some (r, j) =>
    if r.base / 65536 = 0x0810 then 2 ^ j
    else if r.base / 65536 = 0x0820 then 2 ^ s.parN 0x08200001 j ||| 2 ^ s'.parN 0x08200001 j
    else if r.base / 65536 = 0x0830 then s.parN 0x08300003 j ||| s'.parN 0x08300003 j
    else if r.base / 65536 = 0x0840 then s.parN 0x08400001 j ||| s'.parN 0x08400001 j
    else allGroups

/-- The groups that a section would touch. -/
def State.touchedMask (s : State) (bs : List Byte) : Nat :=
  let s' := (sectionValues bs).foldl (fun s p => s.setPar p.1 p.2) { s with params := s.params.filter (fun p => !isSafetyId p.1) }
  let ids := ((s.params.map (·.1)).filter isSafetyId) ++ (sectionValues bs).map (·.1)
  ids.foldl (fun m id =>
    if sget paramDefault s.params id = sget paramDefault s'.params id then m else m ||| s.touched s' id) 0

/-- SAF_PARAM_LOAD (0x0803, R313). -/
def execSafParamLoad (c : CmdCtx) (sect : List Byte) (s : State) : Result :=
  s.host_ c { op := 0x0803, need := roleSafety, params := sect } (decide (sect.length % 16 = 4)) (fun s =>
    let mask := s.touchedMask sect
    if s.saf.pendingSec.isSome then .refuse stBusy []
    else if (List.range 256).any (fun a => nbit mask (s.parN 0x08200001 a) && decide (s.axState a ≠ .disabled)) then
      .refuse stGroupActive []
    else
      let crc := be 4 (sectionCrc sect)
      .ok { s with saf := { s.saf with pendingSec := some { items := sectionValues sect, since := s.now, raw := sect } } }
        stAccepted (crc ++ crc))

/-- SAF_DEMAND (0x0801, R300): both channels take the demand; the reply follows once it is sealed. -/
def execSafDemand (c : CmdCtx) (mask : BitVec 32) (kind : BitVec 8) (s : State) : Result :=
  s.host_ c { op := 0x0801, need := roleOperate, params := be 4 mask.toNat ++ [kind] } true (fun s =>
    if 2 ≤ kind.toNat then .refuse stBadValue []
    else
      let sto := decide (kind = 0)
      let s1 := (s.demandMask .p mask.toNat sto 0x03).demandMask .h mask.toNat sto 0x03
      .quiet { s1 with saf := { s1.saf with demandWait := s1.saf.demandWait ++ [c] } })

/-- The sealed SAF_DEMANDs are answered DONE. -/
def State.answerDemands (s : State) : State :=
  s.saf.demandWait.foldl (fun s c => s.replyLater c 0x0801 stDone []) { s with saf := { s.saf with demandWait := [] } }

end Sys2Proof.Machine
end

