-- ==== Sys2Proof/Machine/MoveList.lean ====
section
/-! DEFINITION. The commands and events of the move list, and the reset of stop groups (R247 to R264, R311, R447 to R452). -/

namespace Sys2Proof.Machine

/-- MOVE_LIST_PASS (R27): once the line-master task of the cycle has completed. -/
def execMoveListPass (s : State) : Result :=
  match s.eng.lineDone with
  | none => .next s
  | some k => whenB (s.cyc.running && decide (k = s.cyc.cycle) && decide (s.cyc.movePassed ≠ some k)) s (s.movePass k)

/-- CAPTURE_EVENT (Table RUN-2): the task of the sample has run. -/
def execCaptureEvent (seq : BitVec 32) (s : State) : Result :=
  match s.moves.captures.find? (fun (c : Capture) => decide (c.seq = seq)) with
  | none => .next s
  | some c =>
    let h := (s.axis c.axis).law.fposHist
    if h.any (fun (f : FposHist) => decide (c.sample ≤ f.n)) then
      let f : FposHist := match h.find? (fun (f : FposHist) => decide (f.n ≤ c.sample)) with
        | some f => f
        | none => ⟨c.sample, (s.axis c.axis).obs.fpos, (s.axis c.axis).obs.predicted⟩
      let s1 := s.modMoves (fun m => { m with captures := m.captures.erase c })
      .next (s1.raise 0x0601 0 c.axis (be 4 seq.toNat ++ t80Bytes c.fire ++ beI 6 c.pos ++ beI 6 f.fpos ++ [BitVec.ofNat 8 (b2n f.predicted)]))
    else .next s

/-- FLUSH_LOST (R264): no act record by the end of the node's second exchange after the fire time. -/
def execFlushLost (seq : BitVec 32) (s : State) : Result :=
  match s.move seq.toNat with
  | none => .next s
  | some x =>
    let slotEnd : Int := match s.exchange x.e.seg.toNat x.e.target.toNat with
      | none => s.now
      | some r => s.tCycle s.cyc.cycle + (tC + 8 * (r.slot + 1) * (s.sched x.e.seg.toNat).slotLen
          + (s.seg x.e.seg.toNat).lamN / 10 : Nat)
    whenB (x.watch && decide (x.state = .committed) && (decide (3 ≤ x.exchanges) || (decide (x.exchanges = 2) && decide (slotEnd ≤ s.now)))) s
      ((s.moveDone x).modMoves (fun m => { m with flushLost := inc32 m.flushLost }))

/-! MOV_ADD (R248, R451). -/

/-- The status of one entry, given the SEQs taken before it. -/
def State.moveStatus (s : State) (taken : List Nat) (e : MoveEntry) : Nat :=
  let a := e.action.toNat
  let ax := e.axis.toNat
  let loop := s.loopLen
  let format := decide (e.seq = 0) || taken.contains e.seq.toNat || decide (a = 0) || decide (4 < a)
    || (decide (a = 1) && (decide (7 < e.target.toNat) || decide (1 < e.outAct.toNat)))
    || (decide (a = 2) && (decide (7 < e.seg.toNat) || decide (e.target = 0) || decide (127 < e.target.toNat) || decide (2 < e.outAct.toNat)))
    || ((decide (a = 3) || decide (a = 4)) && decide (255 < ax))
    || (decide (a = 3) && decide (segFirm ≤ e.segment.toNat) && decide (e.segment ≠ 0xFFFF))
    || decide (10000 < e.tol.toNat) || (decide (31 < e.grp.toNat) && decide (e.grp ≠ 0xFF))
    || (decide (loop ≠ 0) && decide (loop ≤ (e.trigger.toNat : Int)))
  if format then stBadValue
  else if a = 2 ∧ ((s.exchange e.seg.toNat e.target.toNat).isNone = true ∨ (s.seg e.seg.toNat).phase = .test) then stState
  else if a = 1 ∧ s.safetyOut e.target.toNat = true then stSafetyOut
  else if 4096 ≤ taken.length then stNoRoom
  else stDone

/-- The statuses of a list of entries, and those accepted. -/
def State.moveStatuses (s : State) : List Nat → List MoveEntry → List (MoveEntry × Nat)
  | _, [] => []
  | taken, e :: es =>
    let st := s.moveStatus taken e
    (e, st) :: s.moveStatuses (if st = stDone then taken ++ [e.seq.toNat] else taken) es

/-- The SEQs of the live and the waiting entries. -/
def State.seqsTaken (s : State) : List Nat :=
  s.moves.items.map (fun (x : MoveItem) => x.seqN)

def firstRefusal (sts : List Nat) : Nat := (sts.find? (fun st => decide (st ≠ stDone))).getD stDone

/-- A move-list entry as 32 bytes (Table RUN-1). -/
def entryBytes (e : MoveEntry) : List Byte :=
  be 4 e.seq.toNat ++ be 6 e.trigger.toNat ++ [e.action, e.flags, e.seg, e.target, e.channel, e.outAct] ++ be 2 e.axis.toNat
    ++ be 2 e.segment.toNat ++ be 2 e.lead.toNat ++ be 2 e.tol.toNat ++ [e.grp] ++ List.replicate 7 0

/-- MOV_ADD (0x0601). -/
def execMovAdd (c : CmdCtx) (entries : List MoveEntry) (s : State) : Result :=
  s.host_ c { op := 0x0601, need := roleOperate, params := [BitVec.ofNat 8 entries.length, 0, 0, 0] ++ entries.flatMap entryBytes }
    (decide (1 ≤ entries.length) && decide (entries.length ≤ s.perPacket c 6 44)) (fun s =>
    let rs := s.moveStatuses s.seqsTaken entries
    let sts := rs.map (·.2)
    let ok := (rs.filter (fun (r : MoveEntry × Nat) => decide (r.2 = stDone))).map (fun (r : MoveEntry × Nat) => newItem r.1)
    if ok = [] then .refuse (firstRefusal sts) (sts.flatMap (be 2))
    else .quiet (s.modMoves (fun m => { m with waiting := m.waiting ++ [⟨c, ok, sts, s.cyc.cycle⟩] })))

/-- The statuses of a MOV_ADD that lands, for entries that passed its checks: SAME_TICK_CONFLICT for a SEQ that another session's
entry has taken (R39, R40), NO_ROOM once the list holds 4096 entries. -/
def landStatuses (taken : List Nat) : Nat → List Nat → List MoveItem → List Nat
  | _, [], _ => []
  | _, st :: sts, [] => st :: sts
  | room, st :: sts, x :: xs =>
    if st ≠ stDone then st :: landStatuses taken room sts (x :: xs)
    else if taken.contains x.seqN then stConflict :: landStatuses taken room sts xs
    else if room = 0 then stNoRoom :: landStatuses taken room sts xs
    else stDone :: landStatuses taken (room - 1) sts xs

/-- One waiting MOV_ADD lands: an entry whose SEQ another session's entry took at this boundary is not applied (R39, R40). -/
def State.landMoves (s : State) (w : MovWait) : State :=
  let taken := s.seqsTaken
  let room := 4096 - taken.length
  let sts := landStatuses taken room w.statuses w.items
  let fits := (w.items.filter (fun (x : MoveItem) => !taken.contains x.seqN)).take room
  (s.modMoves (fun m => { m with items := m.items ++ fits })).replyLater w.ctx 0x0601 (firstRefusal sts) (sts.flatMap (be 2))

/-- Before in the order of R40: the lower session. -/
def insertWait (w : MovWait) : List MovWait → List MovWait
  | [] => [w]
  | v :: vs => if w.ctx.slot ≤ v.ctx.slot then w :: v :: vs else v :: insertWait w vs

/-- MOV_ADD_LAND (R451). -/
def execMovAddLand (s : State) : Result :=
  let now := s.moves.waiting.filter (fun (w : MovWait) => s.boundaryPast w.cycle)
  let later := s.moves.waiting.filter (fun (w : MovWait) => !s.boundaryPast w.cycle)
  .next ((now.foldr insertWait []).foldl (fun s w => s.landMoves w) (s.modMoves (fun m => { m with waiting := later })))

/-- MOV_DELETE (0x0602, R249). -/
def execMovDelete (c : CmdCtx) (seq : BitVec 32) (s : State) : Result :=
  s.host_ c { op := 0x0602, need := roleOperate, params := be 4 seq.toNat } true (fun s =>
    match s.move seq.toNat with
    | none => .refuse stBadValue []
    | some x =>
      if x.state = .committed then .refuse stState []
      else .ok ((if x.state = .dispatched then s.cancelMove x else s).freeMove seq.toNat) stDone [])

/-- MOV_CLEAR (0x0603): COMMITTED entries stay. -/
def execMovClear (c : CmdCtx) (grp : BitVec 8) (s : State) : Result :=
  s.host_ c { op := 0x0603, need := roleOperate, params := [grp] } true (fun s =>
    if 31 < grp.toNat ∧ grp.toNat < 0xFE then .refuse stBadValue []
    else
      let hit := s.moves.items.filter (fun (x : MoveItem) =>
        (decide (grp = 0xFE) || decide (x.e.grp = grp)) && decide (x.state ≠ .committed))
      .ok (hit.foldl (fun s x => (if x.state = .dispatched then s.cancelMove x else s).freeMove x.seqN) s) stDone (be 2 hit.length))

/-- MOV_RESUME (0x0604, R452). -/
def execMovResume (c : CmdCtx) (s : State) : Result :=
  s.host_ c { op := 0x0604, need := roleOperate } true (fun s =>
    let hit := s.moves.items.filter (fun (x : MoveItem) => decide (x.state = .held)
      && (decide (x.e.grp = 0xFF) || decide (s.groupState x.e.grp.toNat = 0))
      && (decide (x.act ≠ actStart) || decide (s.groupState (s.parN 0x08200001 x.e.axis.toNat) = 0)))
    .ok (hit.foldl (fun s x => s.setMove x.arm) s) stDone (be 2 hit.length))

/-- The code of a state, in the order of Table RUN-3. -/
def moveCode : MoveState → Nat
  | .armed => 0
  | .dispatched => 1
  | .committed => 2
  | .done => 3
  | .held => 4
  | .missed => 5

/-- The state of a code of Table RUN-3. -/
def moveOfCode (n : Nat) : MoveState :=
  match n with
  | 1 => .dispatched
  | 2 => .committed
  | 3 => .done
  | 4 => .held
  | 5 => .missed
  | _ => .armed

/-- MOV_READ (0x0605). -/
def execMovRead (c : CmdCtx) (seq : BitVec 32) (s : State) : Result :=
  s.hostAt c (.movRead c seq) { op := 0x0605, need := roleView, move := false, logged := false } true (fun s =>
    match s.move seq.toNat with
    | none => .refuse stBadValue []
    | some x =>
      .ok s stDone (entryBytes x.e ++ be 1 (moveCode x.state) ++ t80Bytes x.ts ++ beI 4 (clampI (-2147483648) 2147483647 x.resid)))

/-! SAF_ACK (R311). -/

/-- Both channels hold an unconsumed edge within ACK_WIN. -/
def State.ackEdgeOk (s : State) : Bool :=
  let one (c : Channel) : Bool := match c.ackEdge with
    | none => false
    | some t => s.edgeRecent t && !c.ackUsed
  one s.saf.p && one s.saf.h

/-- A group in a channel goes to NORMAL. -/
def Channel.resetGroup (c : Channel) (g : Nat) : Channel :=
  c.setGroup g { c.group g with code := 0, ss1Start := none, still := false }

/-- SAF_ACK (0x0802). -/
def execSafAck (c : CmdCtx) (mask : BitVec 32) (s : State) : Result :=
  s.host_ c { op := 0x0802, need := roleOperate, params := be 4 mask.toNat } true (fun s =>
    let gs := (List.range 32).filter (fun g => nbit mask.toNat g)
    let landed (x : ChGroup) : Bool := decide (x.lastDemand = some s.cyc.cycle)
    if gs.any (fun g => decide ((s.saf.p.group g).code ≠ 2) || decide ((s.saf.h.group g).code ≠ 2)) then .refuse 0x0507 []
    else if gs.any (fun g => s.demandActive .p g || s.demandActive .h g || landed (s.saf.p.group g) || landed (s.saf.h.group g)) then
      .refuse 0x0503 []
    else if !s.ackEdgeOk then .refuse 0x0502 []
    else
      let s1 := gs.foldl (fun s g =>
        State.groupChanged s ((s.setChan .p (s.saf.p.resetGroup g)).setChan .h (s.saf.h.resetGroup g)) g) s
      let s2 := { s1 with saf := { s1.saf with p := { s1.saf.p with ackUsed := true }, h := { s1.saf.h with ackUsed := true } } }
      .ok (s2.returnMoves mask.toNat) stDone [])

end Sys2Proof.Machine
end

