-- ==== Sys2Proof/Machine/TaskOps.lean ====
section
/-! DEFINITION. What a task of an axis or of the line master reads and does: readiness, windows, the library's chain
(R18 to R21, R94, R155, R169, R172, R181 to R211, R230 to R238, R243 to R246). -/

namespace Sys2Proof.Machine

/-! Feedback sources. -/

/-- A stepper without an encoder (R237). -/
def State.noEncoder (s : State) (a : Nat) : Bool := s.isStepper a && decide (s.parN 0x04000101 a = 0xFF)

/-- The task is released with the local axes (R18). -/
def State.localAxis (s : State) (a : Nat) : Bool :=
  (decide (s.parN 0x04000101 a < 16) || (s.noEncoder a && (s.localPort a).isSome)) && !s.isLineAxis a

/-- The task is released by an FBK frame. -/
def State.networkAxis (s : State) (a : Nat) : Bool :=
  (decide (s.parN 0x04000101 a = 0x80) || (s.noEncoder a && (s.localPort a).isNone)) && !s.isLineAxis a

/-- A port delivered a count in this cycle (R127, R129, R245). -/
def State.portDelivers (s : State) (n : Nat) : Bool :=
  match s.parN 0x04100001 n with
  | 1 => true
  | 2 => !(s.fb n).hallIllegal
  | 3 => (s.fb n).ssiSeen
  | 4 => (s.fb n).ssiSeen
  | _ => false

/-- τ_s of a port in ns (R137, R141). -/
def State.portTau (s : State) (n : Nat) : Int :=
  if s.parN 0x04100001 n = 3 ∨ s.parN 0x04100001 n = 4 then -(s.tSsi n : Int) else 0

/-- EDGE_DT of a port (Table ENG-6): t_e1 − t_e2, signed by direction; 0 where R140 gives no estimate. -/
def State.edgeDt (s : State) (n : Nat) : Int :=
  match (s.fb n).latchedE1, (s.fb n).latchedE2 with
  | some e1, some e2 =>
    if s.preload n = 0 then 0 else if e1.up then e1.stamp - e2.stamp else e2.stamp - e1.stamp
  | _, _ => 0

/-- The preload speed that an EDGE_DT gives (R140). -/
def preloadOf (dt : Int) : Int :=
  if dt = 0 then 0 else if 0 < dt then rdiv 65536000000000 dt else -rdiv 65536000000000 (-dt)

/-- NODE_STATUS and NODE_MISC of Table ENG-6. -/
def FbkLast.statusWord (f : FbkLast) : Word48 :=
  BitVec.ofNat 48 (f.status.toNat + f.faultCode.toNat * 256 + f.queued.toNat * 16777216 + f.repeats.toNat * 4294967296)
def FbkLast.miscWord (f : FbkLast) : Word48 := BitVec.ofNat 48 (f.vbus.toNat + f.temp.toNat * 65536)

/-- The feedback window of a reading; FPOS is filled in by the hysteresis. -/
def feedbackWords (raw tOff dt : Int) (f : FbkLast) : List Word48 :=
  [w48 raw, 0, w48 tOff, w48 dt, f.aux, f.torque, f.statusWord, f.miscWord]

/-- The window of a local axis. -/
def State.localWindow (s : State) (a : Nat) : List Word48 :=
  let n := s.parN 0x04000101 a
  if n < 16 then feedbackWords (s.fb n).latched (s.portTau n) (s.edgeDt n) { (s.axis a).fbk with aux := 0, torque := 0 }
  else feedbackWords 0 0 0 { (s.axis a).fbk with aux := 0, torque := 0 }

/-- The window of a network axis. -/
def State.remoteWindow (s : State) (a : Nat) : List Word48 :=
  let f := (s.axis a).fbk
  feedbackWords f.raw f.tSample 0 f

/-- The drive status of a local stepper (R236): READY while STn_FLT is inactive, TORQUE_ON after ST_EN_DELAY. -/
def State.localDrive (s : State) (a : Nat) : State :=
  match s.localPort a with
  | none => s
  | some n =>
    let p := s.stepPort n
    s.modAxis a (fun x => { x with fbk := { x.fbk with
      status := BitVec.ofNat 8 (b2n (!p.flt) * 128 + b2n p.flt * 64 + b2n p.torqueOn * 32), valid := true } })

/-- A released report of TORQUE_ON = 0 takes the axis from TORQUE-OFF to DISABLED, on the brake path after the brake step
(R184, R188). -/
def State.torqueReported (s : State) (a : Nat) : State :=
  let x := s.axis a
  if x.life.state = .torqueOff ∧ x.life.stoPath = true ∧ x.fbk.torqueOn = false then
    s.modLife a (fun l =>
      { l with state := .disabled, stopKind := 0, stopDec := 0, stoPath := false, brakeTick := none, firstBrake := none
               enteredTick := s.coreTicks })
  else s

/-! Release to the dispatcher (R18, R94, R358). -/

def State.twinUp (s : State) : Bool := s.boot.twinPresent && (s.twin.lane0 || s.twin.lane1) && !s.twin.refused

/-- The task of cycle k becomes ready; the on-move chip publishes its RELEASE record. -/
def State.makeReady (s : State) (o : Owner) (k sample : Nat) (isNew : Bool) (win : List Word48) : State :=
  let s1 := { s with eng := { s.eng with ready := s.eng.ready ++ [({ owner := o, cycle := k, sample := sample, isNew := isNew, win := win } : ReadyTask)] } }
  let s2 := s1.modOwnerTask o (fun t => { t with released := some k })
  if s.twin.onMove && s.twinUp then s2.put (.twin (.release { owner := o, cycle := k, isNew := isNew, fb := win })) else s2

/-- Whether a task of cycle k has been released. -/
def State.isReleased (s : State) (o : Owner) (k : Nat) : Bool := decide ((s.ownerTask o).released = some k)

/-! The line master's sources (R243 to R246). -/

def State.lineA (s : State) : Nat := s.parN 0x04110101 0
def State.lineB (s : State) : Nat := s.parN 0x041101D0 0

/-- The primary is faulted in this cycle (R245). -/
def State.primaryFaulted (s : State) : Bool :=
  let a := s.lineA
  if a < 16 then (s.fb a).puNow || !s.portDelivers a
  else if a = 0x80 then !s.line.remote.isNew
  else true

def State.primaryDelivers (s : State) : Bool :=
  let a := s.lineA
  if a < 16 then s.portDelivers a else if a = 0x80 then s.line.remote.isNew else false

def State.primaryRaw (s : State) : Int := if s.lineA < 16 then (s.fb s.lineA).latched else s.line.remote.raw

def State.secondaryDelivers (s : State) : Bool := decide (s.lineB < 16) && s.portDelivers s.lineB
def State.secondaryRaw (s : State) : Int := (s.fb s.lineB).latched

/-- disc (R244). -/
def State.lineCompare (s : State) : State :=
  if s.primaryDelivers && s.secondaryDelivers then
    if s.line.ofsSet then
      let d := s.wrapPos .line ((s.primaryRaw - s.secondaryRaw - s.line.ofs) * 65536) / 65536
      { s with line := { s.line with
          disc := d, discRun := if s.par 0x041101D4 0 < (d.natAbs : Int) then s.line.discRun + 1 else 0 } }
    else { s with line := { s.line with ofs := s.primaryRaw - s.secondaryRaw, ofsSet := true, disc := 0, discRun := 0 } }
  else { s with line := { s.line with discRun := 0 } }

/-- LINE_SWITCH (R245, 0x0605). -/
def State.lineSwitch (s : State) : State :=
  if !s.line.onB && s.primaryFaulted && decide (s.lineB < 16) && !s.line.disagree then
    ({ s with line := { s.line with onB := true, switched := true } }).raise 0x0605 1 0 [BitVec.ofNat 8 s.lineB]
  else s

/-- The line-master task of cycle k is released with the count of the source in use; an SSI reading that cannot be used counts in SAMPLE_ERRS
(R147; log 162). -/
def State.releaseLine (s : State) (k : Nat) : State :=
  let s1 := s.lineCompare.lineSwitch
  let b := s1.line.onB
  let isNew := if b then s1.secondaryDelivers else s1.primaryDelivers
  let raw := if b then s1.secondaryRaw + s1.line.ofs else s1.primaryRaw
  let n := if b then s1.lineB else s1.lineA
  let win := if n < 16 then feedbackWords raw (s1.portTau n) (s1.edgeDt n) FbkLast.reset
    else feedbackWords raw s1.line.remote.tSample 0 s1.line.remote
  let ssi := decide (n < 16) && decide (3 ≤ s1.parN 0x04100001 n) && !isNew
  let s1 := if ssi then s1.modOwnerObs .line (fun o => { o with sampleErrs := inc32 o.sampleErrs }) else s1
  let s2 := { s1 with line := { s1.line with
    primaryFault := s1.primaryFaulted, newCount := isNew && (b || !s1.primaryFaulted)
    noCount := if isNew then 0 else s1.line.noCount + 1, remote := { s1.line.remote with isNew := false } } }
  let s3 := (List.range 16).foldl (fun s i => s.modFb i (fun x => { x with puNow := false })) s2
  s3.makeReady .line k k isNew win

/-! Windows and registers at task start (R169, Tables ENG-5 and ENG-6). -/

/-- LRN_BASE and A1: the engine word of the first bin (R169; without a table that of the pool, log 167). -/
def LawSt.base (l : LawSt) : Nat := 0x80000 + l.lrnBase

def State.taskWindow (s : State) (t : ReadyTask) (x : Observer) : List Word48 :=
  let o := s.lineAt t.cycle
  let l : LawSt := match t.owner with
    | .axis a => (s.axis a.val).law
    | .line => LawSt.reset
  let isLocal := match t.owner with
    | .axis a => s.localAxis a.val
    | .line => decide (s.lineA < 16)
  let flags := flagWord [(0, t.isNew), (1, !t.isNew), (2, isLocal), (3, x.still), (4, x.settlingFlag)] + x.age * 256
  [BitVec.ofNat 48 (match t.owner with
      | .axis a => a.val
      | .line => 0x100),
    BitVec.ofNat 48 t.cycle, BitVec.ofNat 48 t.sample, BitVec.ofNat 48 flags,
    w48 o.filtered, w48 o.vel, w48 o.acc,
    w48 (rdiv ((s.period : Int) * 140737488355328) 1000000000), w48 s.loopLen, BitVec.ofNat 48 l.base, BitVec.ofNat 48 l.lrnBins]

def listWin (ws : List Word48) : Sparse Word48 := sputs (fun _ => 0) [] 0 ws

/-- The registers that the dispatcher clears and sets. -/
def State.startRegs (s : State) (t : ReadyTask) (x : Engine) : Engine :=
  let a0 := match t.owner with
    | .axis a => 0x40000 + a.val * 1024
    | .line => 0x30000
  let base := match t.owner with
    | .axis a => (s.axis a.val).law.base
    | .line => LawSt.reset.base
  let y := { x with x := [], acc := [], a := [], o := [], lc := [], scl := [], flags := 0, ret := [], loops := [], stores := []
                    pc := BitVec.ofNat 13 (s.parN 0x04000120 (ownerInst t.owner)) }
  let y := (((y.setA 0 (BitVec.ofNat 20 a0)).setA 1 (BitVec.ofNat 20 base)).setA 2 0x20000).setA 3 0x20100
  (y.setO 0 1).setO 1 (BitVec.ofInt 20 (-1))

/-! Coefficient landings (R204). -/

def landsAtMost : Nat := 4

def State.landCoefs (s : State) (a : Nat) : State :=
  let l := (s.axis a).law
  if s.cyc.running && decide (l.coefLanded = some s.cyc.cycle) then s
  else
    let ready := (l.coefQ.takeWhile (fun (w : CoefWrite) => s.boundaryPast w.cycle)).take landsAtMost
    if ready = [] then s
    else
      let s1 := s.modLaw a (fun l => { l with coefQ := l.coefQ.drop ready.length, coefLanded := some s.cyc.cycle })
      ready.foldl (fun s (w : CoefWrite) =>
        if ready.any (fun (v : CoefWrite) => decide (v.offset = w.offset ∧ v.ctx.slot < w.ctx.slot)) then
          s.replyLater w.ctx 0x0407 stConflict []
        else (s.setCtx a w.offset (hostWord w.offset w.value).toInt).replyLater w.ctx 0x0407 stDone []) s1

/-! The chain of the library (R172): the steps of an axis task. -/

/-- R186: the law at the entry to ENABLING.  A stepper keeps its commanded position and captures STEP_OFS (R237). -/
def State.initLaw (s : State) (a n : Nat) : State :=
  let s := s.modLife a (fun l => { l with init := false })
  if s.isStepper a then s.captureOfs a n
  else
    let fpos := (s.axis a).obs.fpos
    let np := s.parN 0x04000131 a
    let d := (s.axis a).law.d
    let ps := s.parN 0x04000132 a
    let xs := (List.range np).map (fun i => if i = ps then smod 48 (fpos - s.ctx a 3) else 0)
    let z := (mvs (dot (s.ctxs a 0x58 np) xs) 40).1
    let s1 := s.setCtxs a 0x150 (xs ++ List.replicate d z)
    let s2 := (s1.setCtxs a 0x160 (List.replicate 32 0)).setCtxs a 0x1C0 (List.replicate 32 fpos)
    let s3 := (List.range 4).foldl (fun s i => s.setCtxs a (0x180 + 16 * i + 8) [0, 0, 0, 0, 0, 0]) s2
    (s3.modProf a (fun p => { p with r := fpos, v := 0, acc := 0, ramp := false, planDec := none, running := false, waiting := false })).modLaw a
      (fun l => { l with hist := [] })

/-- What the state of an axis publishes (Tables LAW-2, LAW-5): ENABLE, BRAKE_RELEASE, and whether the law's output. -/
def Life.conduct (l : Life) : Bool × Bool × Bool :=
  match l.state with
  | .disabled => (false, false, false)
  | .enabling => (true, l.firstBrake.isSome, l.firstBrake.isSome)
  | .ready | .running | .stopping => (true, true, true)
  | .torqueOff => if l.stoPath then (false, false, false) else (true, false, true)
  | .fault =>
    if l.stoPath || l.reactDone then (false, false, false)
    else if l.brakeTick.isSome then (true, false, true)
    else (true, l.firstBrake.isSome, l.firstBrake.isSome)

/-- The hysteresis and TO3 on the window's reading (R138, R141). -/
def State.observeAxis (s : State) (a : Nat) (t : ReadyTask) : State :=
  let raw := (t.win.getD 0 0).toInt
  let low := s.trimmed 5 && decide (s.parN 0x040001C5 a = 1)
  let x := (s.axis a).obs
  if s.noEncoder a then
    s.modObs a (fun x => { x with age := if t.isNew then 0 else min 255 (x.age + 1), predicted := !t.isNew })
  else
    let y := s.observe (.axis ⟨a % 256, by omega⟩) x raw t.isNew low (t.win.getD 2 0).toInt (preloadOf (t.win.getD 3 0).toInt)
    s.modObs a (fun _ => if s.parN 0x04000120 a = 0 then y else { y with pHat := x.pHat, vHat := x.vHat, aHat := x.aHat, dir := x.dir })

/-- What the dispatcher and the supervisor do around every task of an axis: the sample's position, the drive fault, the ends of
take-backs. -/
def State.taskReadings (s : State) (a : Nat) (t : ReadyTask) : State :=
  let o := (s.axis a).obs
  let s1 := s.modLaw a (fun l => { l with
    fposHist := (⟨t.sample, o.fpos, !t.isNew⟩ :: l.fposHist).take 40 })
  let s2 := if (s1.axis a).fbk.fault && (s1.axis a).fbk.valid then s1.axisFault a 4 else s1
  s2.modLife a (fun l => { l with
    ageSeenZero := l.ageSeenZero || (decide (l.state = .fault) && decide (o.age = 0))
    revUntil := match l.revUntil with
      | none => none
      | some m => if m ≤ t.sample then none else some m })

/-- FE of sample n, and its check (R199). -/
def State.followError (s : State) (a : Nat) (t : ReadyTask) : State :=
  if t.isNew then
    let fe := smod 48 (s.rHist a t.sample - (s.axis a).obs.fpos)
    let s1 := s.setCtx a 0x1E2 fe
    let lim := s.par 0x0400013D a
    if lim ≠ 0 ∧ lim * 65536 < (fe.natAbs : Int) then s1.axisFault a 5 else s1
  else s

/-- The law that LAW_SEL selects. -/
def State.runLaw (s : State) (a : Nat) (t : ReadyTask) : State × Int :=
  let p := (s.axis a).prof
  match s.parN 0x04000130 a with
  | 1 => s.sf8 a t.cycle t.isNew (s.axis a).obs.fpos p.r p.v p.acc
  | 2 => s.cf4 a t.cycle p.v p.acc
  | _ => (s, 0)

/-- The axis has a learner table. -/
def State.lrnOn (s : State) (a : Nat) : Bool := decide (s.parN 0x04000150 a = 1) && decide ((s.axis a).law.lrnBins ≠ 0)

/-- A task that runs no learner: it reads nothing and updates nothing. -/
def State.idleLearner (s : State) (a : Nat) : State := s.modLife a (fun l => { l with lrnActive := false, lrnPaused := s.lrnOn a })

/-- The learner in one task (R209 to R211): U_REP, and the update. -/
def State.runLearner (s : State) (a : Nat) (t : ReadyTask) : State × Int :=
  let on := s.lrnOn a
  let reads := on && s.line.valid && !s.holdLaw a
  let u := if reads then s.repTerm a t.cycle (t.cycle + 1 + s.span a) else 0
  let pause := s.lrnPause a t.cycle t.isNew
  let s1 := s.modLife a (fun l => { l with lrnActive := reads, lrnPaused := on && pause })
  (if on && !pause then s1.lrnUpdate a t.sample (s1.ctx a 0x1E2) else s1, u)

/-- The clamped torque enters U_HIST, and the reference R_HIST, at the tagged cycle, unless that cycle already holds an entry
(R198, R257). -/
def State.commitServo (s : State) (a tag : Nat) (u : Int) : State :=
  let lim := s.ctx a 0x73
  let v := clampI (-lim) lim u
  let s1 := s.modLife a (fun l => { l with tlimSat := l.tlimSat || decide (v ≠ u) })
  let held := match (s.axis a).law.newest with
    | none => false
    | some m => decide (tag ≤ m)
  if held then s1
  else
    let p := (s.axis a).prof
    ((s1.setUHist a tag v).setRHist a tag p.r).noteRef a tag ⟨p.r, p.v, p.acc⟩

/-- Step 1 of the lost-step check and of stall homing (R237, R238). -/
def State.checkSteps (s : State) (a : Nat) (t : ReadyTask) : State :=
  if !t.isNew || s.noEncoder a then s
  else
    let dev := s.stepDeviation a t.sample
    let whole := rhu dev 16
    let per16 : Int := (s.parN 0x04000166 a * 4096 : Nat)
    let s1 := s.modProf a (fun p => { p with stepDev := whole })
    let p := (s1.axis a).prof
    let st := s1.axState a
    if p.homing = .search then
      let n := if s.par 0x0400016C a * per16 < (dev.natAbs : Int) then p.homeDev + 1 else 0
      if s.parN 0x0400016D a ≤ n then
        s1.modProf a (fun p => { p with homeDev := n, homing := .stopping, r0 := p.r, a0 := p.refApply })
      else s1.modProf a (fun p => { p with homeDev := n })
    else if p.homing ≠ .none then s1
    else if (st = .ready ∨ st = .running ∨ st = .stopping) ∧ s.par 0x04000170 a * per16 < (dev.natAbs : Int) then
      let s2 := s1.modProf a (fun p => { p with loss := true, lossCnt := inc32 p.lossCnt })
      let told := s2.raise 0x0403 1 a (beI 4 (clampI (-2147483648) 2147483647 whole))
      match s.parN 0x04000171 a with
      | 0 => told
      | 3 => told.captureOfs a t.sample
      | _ => s2.axisFault a 7
    else s1

/-- The count of cycles that confirm a stop (R184): the ramp has ended and |v̂| is below STOP_VEL. -/
def State.countConfirm (s : State) (a : Nat) : State :=
  let x := s.axis a
  let quick := decide (x.life.state = .fault) && !x.life.stoPath && !x.life.reactDone && x.life.brakeTick.isNone
  let normal := decide (x.life.state = .stopping) && decide (x.life.stopKind ≠ 3)
  if quick || normal then
    let rest := !x.prof.ramp && x.prof.planDec.isNone && decide ((x.obs.vHat.natAbs : Int) < s.par 0x04000139 a)
    s.modLife a (fun l => { l with confirm := if rest then l.confirm + 1 else 0 })
  else s

/-- The entry in the output window. -/
def State.putEntry (s : State) (e : Nat) (r : RefEntry) : State :=
  s.modEngine e (fun x => { x with outWin := listWin [BitVec.ofNat 48 r.ctrl.toNat, r.a, r.b, 1] })

/-- A servo's law, learner and entry. -/
def State.servoTask (s : State) (e a tag : Nat) (t : ReadyTask) : State :=
  let s1 := s.followError a t
  let s2 := s1.modLife a (fun l => { l with holdRun := if s.holdLaw a then l.holdRun + 1 else 0 })
  let l := s2.runLaw a t
  let c := (l.1.axis a).life.conduct
  let q := l.1.runLearner a t
  let u := if c.2.2 then l.2 + q.2 else 0
  let s3 := (q.1.setCtx a 0x1E1 q.2).commitServo a tag u
  let lim := s3.ctx a 0x73
  let s4 := (s3.countConfirm a).advanceRef a (t.cycle + 2 + s.span a)
  s4.putEntry e (servoEntry a tag c.1 c.2.1 (clampI (-lim) lim u) lim)

/-- A stepper's checks and entry. -/
def State.stepperTask (s : State) (e a tag : Nat) (t : ReadyTask) : State :=
  let s1 := (s.checkSteps a t).countConfirm a
  let p0 := (s1.axis a).prof
  let s2 := s1.advanceRef a (t.cycle + 2 + s.span a)
  let p := (s2.axis a).prof
  let c := (s2.axis a).life.conduct
  let strong := s2.modeStrong a p.strong p.v
  let r := stepEntry a tag c.1 strong (decide (p.homing ≠ .none)) p.r p.v (s2.icur a)
  let held := match (s2.axis a).law.newest with
    | none => false
    | some m => decide (tag ≤ m)
  let s3 := s2.modProf a (fun p => { p with strong := strong })
  let s4 := if held then s3 else (s3.setRHist a tag (r.a.toInt * 65536)).noteRef a tag ⟨p0.r, p0.v, p0.acc⟩
  s4.putEntry e r

/-- With AX_ROTARY = 0 the origin stays 0 (R196): one that an earlier rotary use has left goes. -/
def State.zeroOrigin (s : State) (a : Nat) : State :=
  if s.parN 0x04000134 a = 0 ∧ s.ctx a 3 ≠ 0 ∧ s.axState a = .disabled then s.setCtx a 3 0 else s

/-- The library's chain for an axis, whole. -/
def State.axisChain (s : State) (e a : Nat) (t : ReadyTask) : State :=
  let tag := t.cycle + 1 + s.span a + s.tagShift a
  let s := s.zeroOrigin a
  let x := s.axis a
  if x.life.parked then ((s.idleLearner a).advanceRef a (t.cycle + 2 + s.span a)).putEntry e (parkEntry a tag)
  else
    let onTorque := x.fbk.ready && x.fbk.torqueOn
    let s1 := s.modLife a (fun l => { l with
      firstBrake := if decide (l.state = AxState.enabling) && l.firstBrake.isNone && onTorque then some tag else l.firstBrake })
    let s2 := if x.life.init then s1.initLaw a t.sample else s1
    if s.isStepper a then s2.stepperTask e a tag t
    else if x.life.state = .disabled then
      let c := ((s2.idleLearner a).modLife a (fun l => { l with holdRun := 0 })).commitServo a tag 0
      (c.advanceRef a (t.cycle + 2 + s.span a)).putEntry e (servoEntry a tag false false 0 (s2.ctx a 0x73))
    else s2.servoTask e a tag t

/-- An observer's state a whole number of cycles ahead, by the prediction equations of R141. -/
def State.ahead (s : State) (x : Observer) (cycles : Nat) : Observer :=
  let h : Int := (cycles * s.period : Nat)
  { x with
    pHat := s.normPos .line (x.pHat + rdiv (x.vHat * h) 1000000000 + rdiv (x.aHat * 256 * h * h) 2000000000000000000)
    vHat := sat48 (x.vHat + rdiv (x.aHat * 256 * h) 1000000000)
    dir := dirOf x.dir (sat48 (x.vHat + rdiv (x.aHat * 256 * h) 1000000000)) }

/-- A cycle without a new sample of a remote primary: the observer stays at its last measurement instant (R243). -/
def Observer.waits (x : Observer) : Observer :=
  { x with settling := x.settling - 1, age := min 255 (x.age + 1), predicted := true }

/-- The observer of the line master in one cycle (R138, R139, R242, R243, R246): a restart from the first count of an invalid line.  Its very
first count starts it in the same way, without SETTLING (log 160). -/
def State.lineObserve (s : State) (t : ReadyTask) : State :=
  let raw := (t.win.getD 0 0).toInt
  let tau := (t.win.getD 2 0).toInt
  let pre := preloadOf (t.win.getD 3 0).toInt
  let remote := decide (s.lineA = 0x80) && !s.line.onB
  let m := s.line.remote.sampleCycle
  let base := if remote then
      (if t.isNew then s.ahead s.line.remoteObs (m - 1 - s.line.remoteCycle) else s.line.remoteObs)
    else s.line.obs
  let y :=
    if remote && !t.isNew then base.waits
    else if s.line.valid then s.observe .line base raw t.isNew false tau pre
    else if t.isNew && (s.line.newCount || !s.line.everValid) then
      let pos := s.normPos .line (raw * 65536)
      { Observer.reset with
        raw := raw, rawPrev := raw, fpos := pos, pHat := pos, vHat := pre, dir := dirOf base.dir pre, seen := true, tauS := tau
        settling := if s.line.everValid then s.nSettle .line else 0, settlingFlag := s.line.everValid
        sampleErrs := base.sampleErrs, read := base.read }
    else s.observe .line base raw false false tau pre
  let at_ := if t.isNew then m else s.line.remoteCycle
  let z := if remote then { s.ahead y (t.cycle - at_) with read := s.line.obs.read } else y
  let first := !s.line.valid && !s.line.everValid && t.isNew
  { s with line := { s.line with
    obs := z, remoteObs := y, remoteCycle := if remote then at_ else s.line.remoteCycle, valid := s.line.valid || first, everValid := s.line.everValid || first } }

/-! Dispatch (R19, R155, R169). -/

/-- The seal that a task feeds (R22). -/
def State.taskSeal (s : State) (t : ReadyTask) : Nat :=
  match t.owner with
  | .line => t.cycle
  | .axis a => t.cycle + (s.axis a.val).law.sigma

/-- Before in the order of R19. -/
def State.taskBefore (s : State) (x y : ReadyTask) : Bool :=
  match x.owner, y.owner with
  | .line, .line => decide (x.cycle ≤ y.cycle)
  | .line, _ => true
  | _, .line => false
  | .axis a, .axis b => decide (s.taskSeal x < s.taskSeal y) || (decide (s.taskSeal x = s.taskSeal y) && decide (a ≤ b))

/-- No axis task of a cycle starts before that cycle's line-master task has completed (R155). -/
def State.mayStart (s : State) (t : ReadyTask) : Bool :=
  match t.owner with
  | .line => true
  | .axis _ => match s.eng.lineDone with
    | none => false
    | some m => decide (t.cycle ≤ m)

/-- The task that the dispatcher starts next. -/
def State.nextTask (s : State) : Option ReadyTask :=
  (s.eng.ready.filter (fun (t : ReadyTask) => s.mayStart t)).foldl (fun (b : Option ReadyTask) (t : ReadyTask) => match b with
    | none => some t
    | some u => if s.taskBefore u t then some u else some t) none

/-- The task starts on engine e (R169).  The list of the rule does not clear the output window: a new task's own is empty (log 167). -/
def State.startTask (s : State) (e : Nat) (t : ReadyTask) : State :=
  let s := { s with eng := { s.eng with ready := s.eng.ready.erase t } }
  let lib := decide (s.parN 0x04000120 (ownerInst t.owner) = 0)
  let s1 := match t.owner with
    | .line =>
      let x := s.line.obs
      let s1 := s.lineObserve t
      let s2 := if lib then s1
        else { s1 with line := { s1.line with obs := { s1.line.obs with pHat := x.pHat, vHat := x.vHat, aHat := x.aHat, dir := x.dir } } }
      s2.noteLine t.cycle
    | .axis a => (((s.swapTable a.val).landCoefs a.val).observeAxis a.val t).taskReadings a.val t
  let obs := s1.ownerObs t.owner
  let apply := match t.owner with
    | .line => 0
    | .axis a => t.cycle + 1 + s1.span a.val + s1.tagShift a.val
  let cycles := if lib then min (s1.taskCost t.owner - 1) (Config.taskCycles s1.freeCtr) else 0
  let run : Running := { owner := t.owner, cycle := t.cycle, apply := apply, cycles := cycles
                         start := s.coreTicks, arith := false, library := lib, written := [] }
  let s2 := (if lib then s1.useFree 1 else s1).modEngine e (fun x =>
    { s1.startRegs t x with
      taskWin := listWin (s1.taskWindow t obs), fbWin := listWin (t.win.set 1 (w48 obs.fpos)), outWin := [], task := some run })
  match t.owner with
  | .line => s2
  | .axis a =>
    if lib then
      let s3 := (s2.modLaw a.val (fun l => { l with satNow := false })).axisChain e a.val t
      let s4 := if (s3.axis a.val).law.satNow then s3.modEngine e (fun x => x.stick flagSat true) else s3
      s4.writeDeviceWords a.val
    else s2

end Sys2Proof.Machine
end

