-- ==== Sys2Proof/Machine/Task.lean ====
section
/-! DEFINITION. The commands that release and start tasks, and those of the line master (spec/01_control_cycle.md R18 to R21;
spec/03_futhes_slot_train.md R94; spec/08_line_time_and_runahead.md R243 to R246; R204). -/

namespace Sys2Proof.Machine

/-- LOCAL_DISPATCH (R18): 0.4 µs after t_k.  An SSI reading that cannot be used counts in SAMPLE_ERRS (R147; log 162).  A standby dispatches on RELEASE records only (R358). -/
def execLocalDispatch (s : State) : Result :=
  let k := s.cyc.cycle
  if s.cyc.running && !s.cyc.dispatched && decide (s.tCycle k + 400 ≤ s.now) then
    let s0 := { s with cyc := { s.cyc with dispatched := true } }
    if s.twin.standby then .next s0
    else
      let s1 := s0.releaseLine k
      .next ((List.range 256).foldl (fun s a =>
        if s.localAxis a then
          let s2 := (s.localDrive a).torqueReported a
          let n := s.parN 0x04000101 a
          let isNew := s.noEncoder a || s.portDelivers n
          let s2 := if decide (n < 16) && decide (3 ≤ s.parN 0x04100001 n) && !isNew then
              s2.modObs a (fun o => { o with sampleErrs := inc32 o.sampleErrs })
            else s2
          s2.makeReady (.axis ⟨a % 256, by omega⟩) k k isNew (s2.localWindow a)
        else s) s1)
  else .next s

/-- ENGINE_DISPATCH (R19); an engine under a mismatch test is out of dispatch (R364). -/
def execEngineDispatch (e : EngIx) (s : State) : Result :=
  let x := s.engine e.val
  let tested := match x.testDue with
    | none => false
    | some t => decide (s.coreTicks < t)
  if x.inService && x.task.isNone && !x.failed && !tested then
    match s.nextTask with
    | none => .next s
    | some t => .next (s.startTask e.val t)
  else .next s

/-! Network axes (R20, R94, R105, R136, R137). -/

/-- The fields of an FBK payload (Table FRM-7). -/
def fbkOf (pl : List Byte) (hdrAge cycle : Nat) : FbkLast :=
  { status := byteAt pl 1, faultCode := BitVec.ofNat 16 (field pl 2 2), raw := sext 48 (field pl 4 6), tSample := sext 32 (field pl 10 4)
    aux := BitVec.ofNat 48 (field pl 14 6), torque := BitVec.ofNat 48 (field pl 20 6), vbus := BitVec.ofNat 16 (field pl 26 2)
    temp := byteAt pl 28, queued := byteAt pl 29, repeats := byteAt pl 30, hdrAge := hdrAge, valid := true, isNew := true
    sampleCycle := cycle }

/-- Whether a frame supplies a measurement (R137). -/
def FbkLast.measures (f : FbkLast) : Bool := decide (f.tSample.natAbs ≤ 5000) && decide (f.hdrAge = 0)

/-- The status of a released frame: a rising QERR (R136), the frame without a measurement counted (R137), and a new drive fault code logged
as it came (Table FRM-7, log 174). -/
def State.takeFbk (s : State) (a : Nat) (f : FbkLast) : State :=
  let rise := f.status.getLsbD 3 && !(s.axis a).fbk.status.getLsbD 3
  let keep := if f.measures then f else { f with raw := (s.axis a).fbk.raw, tSample := (s.axis a).fbk.tSample }
  let s1 := (s.modAxis a (fun x => { x with fbk := keep })).modObs a (fun o =>
    { o with qerr := o.qerr || rise, sampleErrs := if f.measures then o.sampleErrs else inc32 o.sampleErrs })
  let s2 := if f.measures then s1.safRaw a f.sampleCycle f.raw else s1
  let s2 := if f.faultCode ≠ 0 ∧ f.faultCode ≠ (s.axis a).fbk.faultCode then
      s2.modLife a (fun l => { l with drvLog := (s.cyc.cycle, f.faultCode) :: l.drvLog })
    else s2
  s2.torqueReported a

/-- The sample whose frame the task of cycle k takes (R17). -/
def State.sampleOf (s : State) (a k : Nat) : Nat := k - (s.axis a).law.d

/-- The cycle whose task of an axis is due: where φ + g reaches past T, the deadline and late arrivals of the last cycle's task fall in this
one (R94). -/
def State.dueCycle (s : State) (a : Nat) : Nat :=
  let k := s.cyc.cycle
  let o : Owner := .axis ⟨a % 256, by omega⟩
  let late := decide (s.period < (s.axis a).law.phi + s.parN 0x01050001 0 * 100)
  if late && decide (0 < k) && (s.ownerTask o).released.isSome && !s.isReleased o (k - 1) && !s.isReleased o k then k - 1 else k

/-- The release phase of cycle k has come (R94). -/
def State.phaseReached (s : State) (a k grace : Nat) : Bool :=
  decide (s.tCycle k + ((s.axis a).law.phi + grace : Nat) ≤ s.now)

/-- The frame of a sample that waits in the receive image: its AGE and payload. -/
def State.freshFrame (s : State) (n : Nat) (r : SlotRec) (m : Nat) : Option (Nat × List Byte) :=
  (((s.seg n).imageAt r).wait.find? (fun (w : Nat × Nat × List Byte) => decide (w.1 = m))).map (fun w => w.2)

/-- FBK_RELEASE (R94): the frame of sample k − d. -/
def execFbkRelease (a : AxisIx) (s : State) : Result :=
  let k := s.dueCycle a.val
  match s.axisSlot a.val useFbk with
  | none => .next s
  | some (n, r) =>
    let m := s.sampleOf a.val k
    match s.freshFrame n r m with
    | none => .next s
    | some p =>
      if s.cyc.running && !s.twin.standby && s.phaseReached a.val k 0 && !s.isReleased (.axis a) k then
        let f := fbkOf p.2 p.1 m
        let s1 := s.dropWait n r m
        if s.isLineAxis a.val then
          .next (if f.measures then { s1 with line := { s1.line with remote := f } }
            else s1.modOwnerObs .line (fun o => { o with sampleErrs := inc32 o.sampleErrs }))
        else
          let s2 := s1.takeFbk a.val f
          .next (if s.networkAxis a.val then s2.makeReady (.axis a) k m f.measures (s2.remoteWindow a.val) else s2)
      else .next s

/-- AXIS_DEADLINE (R18, R20): the task runs on prediction; the slot that brought nothing is counted (R105). -/
def execAxisDeadline (a : AxisIx) (s : State) : Result :=
  let k := s.dueCycle a.val
  if s.cyc.running && !s.twin.standby && s.networkAxis a.val && !s.isLineAxis a.val
      && s.phaseReached a.val k (s.parN 0x01050001 0 * 100) && !s.isReleased (.axis a) k then
    let s1 := match s.axisSlot a.val useFbk with
      | none => s
      | some (n, r) =>
        if (s.sampleOf a.val k) % 2 ^ r.mux = r.phase then (s.modNode n r.node (fun x => { x with missCnt := inc32 x.missCnt })).modSeg n (fun g => { g with missNow := g.missNow + 1 }) else s
    let s2 := s1.modAxis a.val (fun x => { x with fbk := { x.fbk with isNew := false } })
    .next (s2.makeReady (.axis a) k (s.sampleOf a.val k) false (s2.remoteWindow a.val))
  else .next s

/-- AGE_FAULT (R21). -/
def execAgeFault (a : AxisIx) (s : State) : Result :=
  let st := s.axState a.val
  whenB (decide (st ≠ .disabled) && decide (st ≠ .fault) && !(s.axis a.val).life.parked
      && decide (s.parN 0x04000135 a.val < (s.axis a.val).obs.age)) s (s.axisFault a.val 2)

/-- COEF_WRITE_LAND (R204), and a learner table that waited; never while a task of the axis runs (R154). -/
def execCoefWriteLand (a : AxisIx) (s : State) : Result :=
  .next (if s.axisBusy a.val then s else (s.swapTable a.val).landCoefs a.val)

/-! The line (R244 to R246). -/

/-- LINE_DISAGREE (R244, 0x0604). -/
def execLineDisagree (s : State) : Result :=
  whenB (!s.line.disagree && decide (s.parN 0x041101D5 0 ≤ s.line.discRun)) s
    (({ s with line := { s.line with disagree := true } }).raise 0x0604 1 0 (beI 4 (clampI (-2147483648) 2147483647 s.line.disc)))

/-- LINE_LOST (R246, 0x0606). -/
def execLineLost (s : State) : Result :=
  let l := s.line
  if l.valid && (l.taskFault || decide (s.parN 0x041101D6 0 < l.noCount)) then
    let cause := if l.taskFault then 0 else 1
    let s1 := { s with line := { l with valid := false, lost := true, lostCause := cause, taskFault := false } }
    .next ((s1.raise 0x0606 2 0 [BitVec.ofNat 8 cause]).holdForLine)
  else .next s

/-- LINE_REVALID (R246): the task of this cycle has restarted the observer from the first count of a healthy source. -/
def execLineRevalid (s : State) : Result :=
  let l := s.line
  whenB (!l.valid && l.everValid && l.newCount && decide (s.eng.lineDone = some s.cyc.cycle)) s
    { s with line := { l with valid := true, taskFault := false } }

/-- OFS is captured again, now or in the next cycle in which both sources deliver a count (R244). -/
def State.captureLineOfs (s : State) : State :=
  if s.primaryDelivers && s.secondaryDelivers then
    { s with line := { s.line with ofs := s.primaryRaw - s.secondaryRaw, ofsSet := true, disc := 0, discRun := 0 } }
  else { s with line := { s.line with ofsSet := false, discRun := 0 } }

/-- SWITCH_BACK (R245): the primary is judged at the boundary after the request. -/
def execSwitchBack (s : State) : Result :=
  if s.line.switchBack then
    let s1 := { s with line := { s.line with switchBack := false } }
    .next (if s.line.onB && s.primaryDelivers && !s.primaryFaulted then
        ({ s1 with line := { s1.line with onB := false, switched := false } }).captureLineOfs
      else s1)
  else .next s

/-- A write of 1 to the W1C bits of LINE_STATUS (Table RUN-7). -/
def State.lineW1c (s : State) (mask : Nat) : State :=
  let s1 := if nbit mask 29 then ({ s with line := { s.line with disagree := false } }).captureLineOfs else s
  let s2 := if nbit mask 28 then
      { s1 with line := { s1.line with switchBack := s1.line.switchBack || s1.line.onB, switched := s1.line.switched && s1.line.onB } }
    else s1
  if nbit mask 27 then { s2 with line := { s2.line with lost := false } } else s2

/-- The ports that an owner consumes. -/
def State.ownerPorts (s : State) (o : Owner) : List Nat :=
  match o with
  | .axis a => if s.parN 0x04000101 a.val < 16 then [s.parN 0x04000101 a.val] else []
  | .line => [s.lineA, s.lineB].filter (fun n => decide (n < 16))

/-- A write of 1 to the W1C bits of FB_STATUS (Table FBK-8, R135). -/
def State.fbW1c (s : State) (o : Owner) (mask : Nat) : State :=
  let s1 := (s.ownerPorts o).foldl (fun s n => s.modFb n (fun x =>
    { x with
      pu := x.pu && !nbit mask 28, errPending := x.errPending && !nbit mask 28, qerr := x.qerr && !nbit mask 27
      inferred := x.inferred && !nbit mask 26, drift := x.drift && !nbit mask 25, herr := x.herr && !nbit mask 24
      ssiErr := x.ssiErr && !nbit mask 23 })) s
  s1.modOwnerObs o (fun x => { x with qerr := x.qerr && !nbit mask 27 })

/-- A PAR_SET that writes 1 to bits of a status word: it lands at the next boundary, as every write of an object does (R444, R40). -/
def State.statusWrite (s : State) (c : CmdCtx) (id value : Nat) : Result :=
  s.host_ c { op := 0x0302, need := roleEngineer, params := be 4 id ++ be 12 value } true (fun s => .quiet (s.queuePar c id value))

/-- SWITCH_BACK_REQUEST (R245). -/
def execSwitchBackRequest (c : CmdCtx) (s : State) : Result := s.statusWrite c 0x041101D8 0x10000000

/-- DISAGREE_CLEAR (R244). -/
def execDisagreeClear (c : CmdCtx) (s : State) : Result := s.statusWrite c 0x041101D8 0x20000000

/-- PU_CLEAR (R135). -/
def execPuClear (c : CmdCtx) (o : Owner) (s : State) : Result := s.statusWrite c (0x04000180 + ownerInst o * 4096) 0x10000000

end Sys2Proof.Machine
end

