-- ==== Sys2Proof/Machine/AxisLife.lean ====
section
/-! DEFINITION. Enables, disables, brake steps, fault reset, coefficient access, parking, and the local step ports
(spec/06_axes_and_control_laws.md R182 to R191, R204, R207; spec/07_profiles_and_steppers.md R233, R235, R236;
spec/01_control_cycle.md R41 to R43; spec/18_service_without_stopping.md R482). -/

namespace Sys2Proof.Machine

/-- A number of ms in core ticks. -/
def msTicks (n : Nat) : Nat := n * 1000000

/-! Transitions of Table LAW-3 that time or a report makes. -/

/-- ENABLE_COMPLETE (R184): BRAKE_T runs from the start of the apply cycle that first released the brake. -/
def execEnableComplete (a : AxisIx) (s : State) : Result :=
  let x := s.axis a.val
  let braked := match x.life.firstBrake with
    | none => false
    | some c => decide (s.tCycle c + (msTicks (s.parN 0x0400013B a.val) : Nat) ≤ s.now)
  whenB (decide (x.life.state = .enabling) && x.fbk.ready && x.fbk.torqueOn && braked) s
    ((s.modLife a.val (fun l => { l with state := AxState.ready, enteredTick := s.coreTicks, confirm := 0 })).finishEnable a.val stDone)

/-- EN_TIMEOUT (R184, cause 0x01). -/
def execEnTimeout (a : AxisIx) (s : State) : Result :=
  let l := (s.axis a.val).life
  whenB (decide (l.state = .enabling ∨ l.state = .torqueOff)
      && decide (l.enteredTick + msTicks (s.parN 0x0400013C a.val) ≤ s.coreTicks)) s (s.axisFault a.val 1)

/-- The brake path of R188 begins. -/
def Life.brakeStep (l : Life) (tick : Nat) (st : AxState) : Life :=
  { l with state := st, brakeTick := some tick, enteredTick := tick, confirm := 0 }

/-- STOP_CONFIRM (R184, R189): a normal stop enters TORQUE-OFF, and the quick stop of a fault its brake step. -/
def execStopConfirm (a : AxisIx) (s : State) : Result :=
  let l := (s.axis a.val).life
  if s.parN 0x0400013A a.val ≤ l.confirm then
    if l.state = .stopping ∧ l.stopKind ≠ 3 then .next (s.modLife a.val (fun l => l.brakeStep s.coreTicks .torqueOff))
    else if l.state = .fault ∧ l.stoPath = false ∧ l.reactDone = false ∧ l.brakeTick = none then
      .next (s.modLife a.val (fun l => l.brakeStep s.coreTicks .fault))
    else .next s
  else .next s

/-- BRAKE_T_ELAPSED (R188): ENABLE = 0 from the next task. -/
def execBrakeTElapsed (a : AxisIx) (s : State) : Result :=
  let l := (s.axis a.val).life
  match l.brakeTick with
  | none => .next s
  | some t =>
    whenB (!l.stoPath && decide (l.state = .torqueOff ∨ l.state = .fault)
        && decide (t + msTicks (s.parN 0x0400013B a.val) ≤ s.coreTicks)) s
      (s.modLife a.val (fun l => { l with stoPath := true }))

/-- HOLD_MAX (R207, cause 0x06). -/
def execHoldMax (a : AxisIx) (s : State) : Result :=
  let l := (s.axis a.val).life
  whenB (decide (l.state ≠ .disabled) && decide (l.state ≠ .fault) && decide (s.parN 0x0400013F a.val < l.holdRun)) s
    (s.axisFault a.val 6)

/-! Enable (R185). -/

/-- FB_SOURCE delivers counts, and the node that carries the axis has synchronised; a network source delivers while the last task of the
axis ran on a measurement (R21). -/
def State.sourceOk (s : State) (a : Nat) : Bool :=
  let n := s.parN 0x04000101 a
  let node := match s.axisSlot a useFbk with
    | none => false
    | some (g, r) => ((s.seg g).node r.node).synced
  if s.isLineAxis a then false
  else if n < 16 then s.portDelivers n && ((s.localPort a).isSome || (s.axisSlot a useFbk).isNone || node)
  else if n = 0x80 then node && (s.axis a).obs.seen && decide ((s.axis a).obs.age = 0)
  else s.noEncoder a && ((s.localPort a).isSome || node)

/-- The stop group of a network axis has been read back from its node (R299). -/
def State.groupRead (s : State) (a : Nat) : Bool :=
  match s.axisSlot a useFbk with
  | none => true
  | some (g, r) => ((s.seg g).node r.node).groupsRead.contains (a, s.parN 0x08200001 a)

/-- Why an enable of a DISABLED or FAULT axis is refused, in the order of R450. -/
def State.enableRefusal (s : State) (a : Nat) : Option Nat :=
  let l := (s.axis a).life
  let sf := decide (s.parN 0x04000130 a = 1) && !s.isStepper a
  if sf && decide (s.parN 0x04000134 a = 1) && decide (s.ctx a 0x70 ≠ s.ctx a (0x68 + s.parN 0x04000132 a)) then some stBadComb
  else if decide (l.state = .fault) || l.parked || !s.groupRead a || !s.sourceOk a
      || (sf && decide (s.parN 0x04000133 a ≠ s.span a)) then some stState
  else if !s.saf.p.paramOk || !s.saf.h.paramOk then some stSafetyParam
  else if s.groupState (s.parN 0x08200001 a) ≠ 0 then some stAckPending
  else none

/-- ENABLING (R184, R186). -/
def State.beginEnable (s : State) (a : Nat) (c : Option CmdCtx) : State :=
  s.modLife a (fun l =>
    { l with
      state := .enabling, init := true, firstBrake := none, brakeTick := none, stoPath := false, stopKind := 0, stopDec := 0
      reactDone := false, enteredTick := s.coreTicks, confirm := 0, enableCtx := c })

/-- An enable of this cycle has been accepted or held. -/
def State.noteEnable (s : State) (a : Nat) : State := s.modLife a (fun l => { l with enabledAt := some s.cyc.cycle })

/-- AX_ENABLE (0x0401).  One that changes nothing is answered at the boundary, behind an AX_DISABLE of the same boundary (R191; log 163). -/
def execAxEnable (c : CmdCtx) (axis : BitVec 16) (s : State) : Result :=
  s.host_ c { op := 0x0401, need := roleOperate, params := be 2 axis.toNat } true (fun s =>
    let a := axis.toNat
    if !axisArg axis then .refuse stBadValue []
    else if (s.axis a).life.held.isSome then .ok (s.noteEnable a) stDeferred []
    else
      match s.axState a with
      | .enabling | .ready | .running => .quiet (s.modLife a (fun l => { l with enableWait := l.enableWait ++ [(c, s.cyc.cycle)] }))
      | .stopping | .torqueOff => .ok ((s.modLife a (fun l => { l with held := some c })).noteEnable a) stDeferred []
      | _ =>
        match s.enableRefusal a with
        | some st => .refuse st []
        | none => .ok ((s.beginEnable a (some c)).noteEnable a) stAccepted [])

/-- An enable that arrived before a disable of the same boundary (R191). -/
def State.enableStands (s : State) (a : Nat) : Bool := s.cyc.running && decide ((s.axis a).life.enabledAt = some s.cyc.cycle)

/-- AX_DISABLE (0x0402): a normal stop, or the drop of a held enable (R42, R184).  It comes before every AX_ENABLE of the same boundary
(R191): an enable that this boundary has already accepted or held stands (log 163). -/
def execAxDisable (c : CmdCtx) (axis : BitVec 16) (s : State) : Result :=
  s.host_ c { op := 0x0402, need := roleOperate, params := be 2 axis.toNat } true (fun s =>
    let a := axis.toNat
    if !axisArg axis then .refuse stBadValue []
    else if s.enableStands a then .ok s stDone []
    else
      match s.axState a with
      | .enabling => .ok (s.torqueOffSto a) stDone []
      | .ready | .running => .ok (s.startStop a 1 2 (s.par 0x04000137 a)) stDone []
      | _ => .ok (s.dropHeld a) stDone [])

/-- The cause of a fault is gone (Table LAW-5). -/
def State.causeGone (s : State) (a : Nat) : Bool :=
  let x := s.axis a
  match x.life.cause with
  | 2 => x.life.ageSeenZero
  | 4 => !x.fbk.fault
  | 6 => !s.holdLaw a
  | _ => true

/-- AX_FAULT_RESET (0x0403, R184, R189). -/
def execAxFaultReset (c : CmdCtx) (axis : BitVec 16) (s : State) : Result :=
  s.host_ c { op := 0x0403, need := roleOperate, params := be 2 axis.toNat } true (fun s =>
    let a := axis.toNat
    let x := s.axis a
    if !axisArg axis then .refuse stBadValue []
    else if x.life.state = .fault ∧ (x.life.stoPath = true ∨ x.life.reactDone = true) ∧ x.fbk.torqueOn = false
        ∧ s.causeGone a = true then
      let s1 := if x.life.cause = 8 then s.clearLearner a else s
      .ok (s1.modLife a (fun l =>
        { l with state := .disabled, cause := 0, stopKind := 0, stopDec := 0, stoPath := false, reactDone := false
                 brakeTick := none, firstBrake := none, enteredTick := s.coreTicks })) stDone []
    else .refuse stState [])

/-- The event of a held enable that has executed (R43, 0x0402). -/
def State.heldOutcome (s : State) (c : CmdCtx) (op inst outcome status : Nat) : State :=
  s.record 0x0402 0 inst 0 (some (c, op)) (be 1 outcome ++ be 2 status)

/-- The answers of the AX_ENABLEs that found nothing to do, at the boundary after their cycle (R185, R191): DONE, or held where an
AX_DISABLE or a fault's stop of that boundary has come first. -/
def State.answerEnables (s : State) (a : Nat) : State :=
  let due := (s.axis a).life.enableWait.filter (fun (w : CmdCtx × Nat) => s.boundaryPast w.2)
  let s1 := s.modLife a (fun l => { l with enableWait := l.enableWait.filter (fun (w : CmdCtx × Nat) => !s.boundaryPast w.2) })
  due.foldl (fun s (w : CmdCtx × Nat) =>
    match s.axState a with
    | .enabling | .ready | .running => s.replyLater w.1 0x0401 stDone []
    | .stopping | .torqueOff =>
      (s.modLife a (fun l => { l with held := some (l.held.getD w.1) })).replyLater w.1 0x0401 stDeferred []
    | _ =>
      match s.enableRefusal a with
      | some st => s.replyLater w.1 0x0401 st []
      | none => (s.beginEnable a (some w.1)).replyLater w.1 0x0401 stAccepted []) s1

/-- HELD_ENABLE_EXECUTE (R43): an axis that has reached DISABLED, or an output whose cool-down and demagnetisation have ended.  The
AX_ENABLEs of the boundary that found nothing to do are answered first (R191; log 163). -/
def execHeldEnableExecute (u : EnableUnit) (s : State) : Result :=
  match u with
  | .axis a =>
    let s := s.answerEnables a.val
    match (s.axis a.val).life.held with
    | none => .next s
    | some c =>
      if s.axState a.val = .disabled then
        let s1 := s.modLife a.val (fun l => { l with held := none })
        match s1.enableRefusal a.val with
        | some st => .next (s1.heldOutcome c 0x0401 a.val 1 st)
        | none => .next ((s1.beginEnable a.val none).heldOutcome c 0x0401 a.val 0 0)
      else .next s
  | .output j =>
    match s.heldOut j.val with
    | none => .next s
    | some c =>
      if (s.fq j.val).therm || (s.fq j.val).demag then .next s
      else
        let s1 := s.setHeldOut j.val none
        if s1.fqLatched j.val then .next (s1.heldOutcome c 0x0D01 j.val 1 stState)
        else if s1.safetyOut j.val then .next (s1.heldOutcome c 0x0D01 j.val 1 stSafetyOut)
        else .next ((s1.setCmd j.val true).heldOutcome c 0x0D01 j.val 0 0)

/-! Coefficients (R182, R204). -/

/-- Who may write a context word (Tables LAW-1 and LAW-7): 0 nobody, 1 the host while DISABLED, 2 the host, 3 an expert. -/
def coefAccess (off : Nat) : Nat :=
  if off = 0x002 then 2
  else if 0x010 ≤ off ∧ off ≤ 0x067 then 1
  else if 0x068 ≤ off ∧ off ≤ 0x073 then 2
  else if 0x080 ≤ off ∧ off ≤ 0x147 then 1
  else if 0x180 ≤ off ∧ off ≤ 0x1BF ∧ off % 16 ≤ 6 then 2
  else if 0x300 ≤ off ∧ off ≤ 0x3FF then 3
  else 0

/-- The queue holds the writes of one cycle in session order. -/
def insertCoef (w : CoefWrite) (q : List CoefWrite) : List CoefWrite :=
  let stays (v : CoefWrite) : Bool := decide (v.cycle < w.cycle) || (decide (v.cycle = w.cycle) && decide (v.ctx.slot ≤ w.ctx.slot))
  q.takeWhile stays ++ w :: q.dropWhile stays

/-- AX_COEF_WRITE (0x0407): the write joins the axis's queue of 16 and is answered when it lands. -/
def execAxCoefWrite (c : CmdCtx) (axis : BitVec 16) (offset : BitVec 16) (value : Word48) (s : State) : Result :=
  let acc := coefAccess offset.toNat
  s.host_ c { op := 0x0407, need := roleEngineer, expert := decide (acc = 3)
              params := be 2 axis.toNat ++ be 2 offset.toNat ++ be 6 value.toNat } true (fun s =>
    let a := axis.toNat
    if !axisArg axis || decide (acc = 0) || (decide (offset = 0x073) && value.msb) then .refuse stBadValue []
    else if acc = 1 ∧ s.axState a ≠ .disabled then .refuse stState []
    else if 16 ≤ (s.axis a).law.coefQ.length then .refuse stNoRoom []
    else
      .quiet (s.modLaw a (fun l => { l with coefQ := insertCoef ⟨c, offset.toNat, value, s.cyc.cycle⟩ l.coefQ })))

/-- AX_COEF_READ (0x040A). -/
def execAxCoefRead (c : CmdCtx) (axis : BitVec 16) (offset : BitVec 16) (count : BitVec 8) (s : State) : Result :=
  s.hostAt c (.axCoefRead c axis offset count) { op := 0x040A, need := roleView, move := false, logged := false } true (fun s =>
    let n := count.toNat
    if !axisArg axis || !decide (1 ≤ n ∧ n ≤ 32 ∧ offset.toNat + n ≤ 0x400) then .refuse stBadValue []
    else .ok s stDone ((List.range n).flatMap (fun i => be 6 (s.readCtx axis.toNat (offset.toNat + i)).toNat)))

/-- AX_PARK (0x0408, R482). -/
def execAxPark (c : CmdCtx) (axis : BitVec 16) (on : BitVec 8) (s : State) : Result :=
  s.host_ c { op := 0x0408, need := roleEngineer, params := be 2 axis.toNat ++ [on] } true (fun s =>
    let a := axis.toNat
    if !axisArg axis || !decide (on.toNat ≤ 1) then .refuse stBadValue []
    else if s.axState a ≠ .disabled then .refuse stState []
    else .ok (s.modLife a (fun l => { l with parked := decide (on = 1) })) stDone [])

/-! Local step ports (R232, R233, R235, R236). -/

/-- The axis whose entries go to a step port. -/
def State.portAxis (s : State) (n : Nat) : Option Nat := (List.range 256).find? (fun a => decide (s.localPort a = some n))

/-- The commanded position of a port at t ns into its cycle, in 2^-32 microstep, rounded down (R232); a repeated reference moves
at its rate. -/
def StepPort.posAt (p : StepPort) (t d : Int) : Int :=
  match p.cur with
  | none => p.pos
  | some _ =>
    let dp := smod 80 (p.p1 - p.p0)
    let v := 16777216 * d
    p.p0 + ((3 * t * t * d - 2 * t * t * t) * dp * 1000000000 + (t * t * t - 2 * t * t * d + t * d * d) * (v * p.v0)
      + (t * t * t - t * t * d) * (v * p.v1)) / (d * d * d * 1000000000)

/-- The whole microstep of a position. -/
def wholeStep (p : Int) : Int := p / 4294967296

/-- A change of STRONG is applied where the port stands on a full-step boundary (R233). -/
def StepPort.applyMode (p : StepPort) (micro : Nat) : StepPort :=
  if p.emitted % (micro : Int) = 0 then { p with mode := p.strongWanted } else p

/-- An entry enters the step generator at a cycle start (R232): the cubic from the port's own position and rate, a repeat at the
last rate, or a stand still under a park entry. -/
def StepPort.load (p : StepPort) (e : Option RefEntry) (d : Int) : StepPort :=
  match e, p.cur with
  | some r, _ =>
    if r.ctrl.toNat / 32 = 2 then { p with cur := some r, aged := false, p0 := p.pos, p1 := p.pos, v0 := 0, v1 := 0 }
    else
      { p with cur := some r, aged := false, p0 := p.pos, v0 := p.v1, p1 := r.a.toInt * 4294967296
               v1 := sext 32 (r.b.toNat / 65536), strongWanted := r.ctrl.getLsbD 3 }
  | none, some _ => { p with aged := true, p0 := p.pos, v0 := p.v1, p1 := p.pos + p.v1 * 16777216 * d / 1000000000 }
  | none, none => p

/-- The driver enable follows the entry's ENABLE bit; a park entry leaves it. -/
def StepPort.loadEnable (p : StepPort) (tick : Nat) : StepPort :=
  match p.cur with
  | none => p
  | some r =>
    if r.ctrl.toNat / 32 = 2 then p
    else if r.ctrl.getLsbD 4 then { p with en := true, enTick := if p.en then p.enTick else some tick }
    else { p with en := false, enTick := none, torqueOn := false }

/-- A port takes its entry for cycle k at t_k (R15, R236); steps not placed are carried and counted.  While the device does not drive
the port its position follows the entries without a step (R374). -/
def State.stepTake (s : State) (k n : Nat) : State :=
  let d : Int := s.period
  let p := s.stepPort n
  let q := { p with pos := p.posAt d d }
  let e := q.queue.find? (fun (r : RefEntry) => decide (r.apply = k))
  let q0 := ({ q with curTick := s.coreTicks, queue := q.queue.filter (fun (r : RefEntry) => decide (k < r.apply)) } : StepPort).load e d
  if s.parN 0x04200001 n = 0 ∨ s.saf.silent = true ∨ s.saf.endgame.isSome = true ∨ s.twin.standby = true ∨ s.boot.testEn = true then
    s.putStep n { q0 with emitted := wholeStep q0.pos, driven := false, en := false, torqueOn := false, enTick := none }
  else
    let carried := (wholeStep q.pos - q.emitted).natAbs
    let q1 := ({ q0 with driven := true } : StepPort).loadEnable s.coreTicks
    match s.portAxis n with
    | none => s.putStep n q1
    | some a =>
      (s.putStep n (q1.applyMode (s.parN 0x04000166 a))).modProf a (fun x => { x with stepLate := add32 x.stepLate carried })

/-- The queued references of a local step port whose axis' group is stopped are discarded (R33, R236). -/
def State.dropStepQueue (mask : Nat) (s : State) (n : Nat) : State :=
  match s.portAxis n with
  | none => s
  | some a => if nbit mask (s.parN 0x08200001 a) then s.modStep n (fun p => { p with queue := [] }) else s

/-- The queued references of the local step ports of stopped groups are discarded (R33, R236). -/
def State.dropStepQueues (s : State) (mask : Nat) : State := (List.range 8).foldl (State.dropStepQueue mask) s

/-- An entry of a sealed train joins the queue of 16 of its port; a held entry stays (R68, R230). -/
def State.queueStep (s : State) (n : Nat) (r : RefEntry) : State :=
  s.modStep n (fun p =>
    if p.queue.any (fun (q : RefEntry) => decide (q.apply = r.apply)) ∨ 16 ≤ p.queue.length then p else { p with queue := p.queue ++ [r] })

/-- One 5 ns tick of a port at `now`, under STEP_WIDTH w, DIR_SETUP and MICROSTEPS; the answer says whether a step had to wait. -/
def StepPort.tick (p : StepPort) (now w setup micro : Nat) (d : Int) : StepPort × Bool :=
  let t : Int := min d (now - p.curTick : Nat)
  let q := { p with pos := p.posAt t d, step := p.step && decide (now < p.pulseEnd) }
  let target := wholeStep q.pos
  if target = q.emitted then (q, false)
  else if q.step || decide (now < q.nextStep) then (q, true)
  else
    let down := decide (target < q.emitted)
    let q1 := if q.dir = down then q else { q with dir := down, dirReady := now + setup }
    if now < q1.dirReady then (q1, true)
    else
      let q2 := { q1 with step := true, pulseEnd := now + w, nextStep := now + max (2 * w) 200
                          emitted := if down then q1.emitted - 1 else q1.emitted + 1 }
      (q2.applyMode micro, false)

/-- STEP_GENERATOR_TICK (R236). -/
def execStepGeneratorTick (n : StIx) (s : State) : Result :=
  let p := s.stepPort n.val
  if p.driven && decide (s.coreTicks % 5 = 0) then
    match s.portAxis n.val with
    | none => .next s
    | some a =>
      let q := p.tick s.coreTicks (s.parN 0x04200002 n.val) (s.parN 0x04200003 n.val) (s.parN 0x04000166 a) s.period
      .next ((s.putStep n.val q.1).modProf a (fun x => { x with dirAdj := x.dirAdj || q.2 }))
  else .next s

/-- STN_FLT (R235, R236): STn_FLT has held a level for some time.  One that passes the filter of 1 µs is the driver's fault, by ST_POL, cause
0x04; a shorter one changes nothing. -/
def execStnFlt (n : StIx) (active : FltLevel) (s : State) : Result :=
  let heldNs := active.heldNs
  let active := active.level == nbit (s.parN 0x04200004 n.val) 3
  if heldNs < 1000 then .next s
  else
    let s1 := s.modStep n.val (fun p => { p with flt := active })
    match s.portAxis n.val with
    | none => .next s1
    | some a => .next (if active then (s1.localDrive a).axisFault a 4 else s1.localDrive a)

/-- ST_EN_DELAY_ELAPSED (R236). -/
def execStEnDelayElapsed (n : StIx) (s : State) : Result :=
  let p := s.stepPort n.val
  match p.enTick with
  | none => .next s
  | some t =>
    whenB (p.en && !p.torqueOn && decide (t + msTicks (s.parN 0x04200006 n.val) ≤ s.coreTicks)) s
      (s.modStep n.val (fun p => { p with torqueOn := true }))

end Sys2Proof.Machine
end

