-- ==== Sys2Proof/Machine/NetOps.lean ====
section
/-! DEFINITION. Segments as shared operations: schedule checks, delays, release phases, the messages that wait for the head
run and the dynamic segment, breaks and healing (spec/03_futhes_slot_train.md R84 to R115; spec/08_line_time_and_runahead.md
R256, R257; spec/18_service_without_stopping.md R476 to R481). -/

namespace Sys2Proof.Machine

def maxOf (l : List Nat) : Nat := l.foldl max 0

/-- The nodes of a segment with an address, by address. -/
def Segment.known (g : Segment) : List (Nat × NodeSt) :=
  g.nodes.filter (fun (p : Nat × NodeSt) => decide (p.1 ≠ 0) && decide (p.2.hopA ≠ 0) && !p.2.removed)

/-! Delays (R94, R97, R98, R115). -/

/-- The loop delays of the normal path and of every single-break path, in 0.1 ns; in dual-send mode those of the two loops (R115). -/
def State.pathDelays (s : State) (n : Nat) : List Nat :=
  let g := s.seg n
  if s.parN 0x07300003 n = 1 then [g.lamN, g.lamR]
  else
    g.lamN :: g.nodes.flatMap (fun (p : Nat × NodeSt) =>
      if p.2.hopA = 0 then [] else [p.2.delayNorm + p.2.legA, p.2.delayFold + g.lamN - p.2.delayNorm])
      ++ (if s.boot.twinPresent then [g.lamStandby] else [])

/-- Λ_w. -/
def State.lamWorst (s : State) (n : Nat) : Nat := maxOf (s.pathDelays n)

/-- The start of a static slot behind t_k, in 0.1 ns. -/
def slotStart (c : Schedule) (slot : Nat) : Nat := (tC + 8 * slot * c.slotLen) * 10

/-- λ_w of a slot of schedule c. -/
def State.landing (s : State) (n : Nat) (c : Schedule) (slot : Nat) : Nat := s.lamWorst n + slotStart c slot

/-- d and φ in ns (R94). -/
def releaseOf (lam period : Nat) : Nat × Nat :=
  let d := lam / (period * 10)
  if d = 0 then (1, 400) else (d, cdiv (lam % (period * 10)) 10)

/-- λ_ref of a node delay under HEAD_SLOTS and S, as cycles of T (R256). -/
def runAheadOf (c : Schedule) (delay period : Nat) : Nat := cdiv ((tC + 8 * c.headSlots * c.slotLen + 1000) * 10 + delay) (period * 10)

/-- σ: the task feeds the seal of its landing cycle when it ends in time, else the next (R22). -/
def State.sealOf (s : State) (a phi grace : Nat) : Nat :=
  if phi + grace + s.taskCost (.axis ⟨a % 256, by omega⟩) ≤ s.period - 1000 then 0 else 1

/-- The figures of one axis are formed; while it is not DISABLED, d and φ stay (R476). -/
def State.setTiming (s : State) (a : Nat) : State :=
  let keep := decide (s.axState a ≠ .disabled)
  let grace := s.parN 0x01050001 0 * 100
  let slot := s.axisSlot a useFbk
  let dphi : Nat × Nat :=
    if s.localAxis a then (0, 400)
    else match slot with
      | none => (0, 400)
      | some (n, r) => releaseOf (s.landing n (s.sched n) r.slot) s.period
  let mins : Nat × Nat :=
    match (s.localPort a), slot with
    | none, some (n, r) =>
      let x := (s.seg n).node r.node
      (max 1 (runAheadOf (s.sched n) x.delayNorm s.period), max 1 (runAheadOf (s.sched n) (max x.delayNorm x.delayFold) s.period))
    | _, _ => (1, 1)
  s.modLaw a (fun l =>
    if keep then { l with dMin := mins.1, dFold := mins.2 }
    else { l with d := dphi.1, phi := dphi.2, sigma := s.sealOf a dphi.2 (if s.localAxis a then 0 else grace), dMin := mins.1, dFold := mins.2 })

def State.setTimings (s : State) : State := (List.range 256).foldl (fun s a => if s.axisUsed a then s.setTiming a else s) s

/-- FOLD_LATE (R257, 0x0406). -/
def State.markFoldLate (s : State) : State :=
  (List.range 256).foldl (fun s a =>
    let l := (s.axis a).law
    let late := s.onFold a && decide (s.runAhead a < l.dFold)
    if late && !l.foldLate then
      (s.modLaw a (fun l => { l with foldLate := true })).raise 0x0406 1 a [BitVec.ofNat 8 (s.runAhead a), BitVec.ofNat 8 l.dFold]
    else if !late && l.foldLate then s.modLaw a (fun l => { l with foldLate := false })
    else s) s

/-! Schedules (R84, R95, R476). -/

/-- The wire bytes of a node frame by its USE (R95). -/
def frameBytes (r : SlotRec) : Nat :=
  24 + 4 * (if r.use = useFbk then 8 else if r.use = useIod then r.lenWords else if r.use = useSaf then 4 else 6)

/-- The byte-times of REF frames for m entries, each with its gap. -/
def refTimes (m : Nat) : Nat := if m = 0 then 0 else 16 * m + cdiv m 63 * (24 + 4 + 8)

/-- Two records meet in some train. -/
def phasesMeet (x y : SlotRec) : Bool := decide (x.phase % 2 ^ min x.mux y.mux = y.phase % 2 ^ min x.mux y.mux)

/-- The ranges of Table FRM-13 and Table SLT-2, and N of each node's SCH (R80). -/
def scheduleForm (c : Schedule) : Bool :=
  decide (c.period ≤ 5) && decide (1 ≤ c.staticSlots ∧ c.staticSlots ≤ 64) && decide (40 ≤ c.slotLen ∧ c.slotLen ≤ 4096)
  && decide (1 ≤ c.headSlots ∧ c.headSlots ≤ 64) && decide (c.minislots ≤ 256) && decide (8 ≤ c.minislotLen ∧ c.minislotLen ≤ 64)
  && decide (c.guardLen ≤ 255) && decide (2 ≤ c.safWd ∧ c.safWd ≤ 16) && decide (3 ≤ c.wCode ∧ c.wCode ≤ 50)
  && c.records.all (fun (r : SlotRec) => decide (r.slot ≤ 63) && decide (r.mux ≤ 6) && decide (r.phase < 2 ^ r.mux)
    && decide (1 ≤ r.use ∧ r.use ≤ 4) && decide (r.axis ≤ 255) && decide (1 ≤ r.node ∧ r.node ≤ 127))
  && c.records.all (fun (r : SlotRec) => decide ((c.records.filter (fun (q : SlotRec) => decide (q.node = r.node))).length ≤ 124))

/-- The conditions of R95 that the layout alone decides. -/
def layoutOk (c : Schedule) : Bool :=
  let own := (c.records.filter (fun (r : SlotRec) => decide (r.use = useFbk))).length
  decide (tC + 8 * (c.staticSlots * c.slotLen + c.minislots * c.minislotLen) + 120 ≤ periodOf c.period)
  && decide (c.wCode + 8 ≤ c.guardLen) && decide (c.headSlots ≤ c.staticSlots)
  && decide (60 + refTimes own + 40 + c.guardLen ≤ c.headSlots * c.slotLen)
  && c.records.all (fun (r : SlotRec) => decide (3200 ≤ tC + 8 * r.slot * c.slotLen) && decide (c.wCode + frameBytes r + c.guardLen ≤ c.slotLen)
    && decide (c.headSlots ≤ r.slot ∧ r.slot < c.staticSlots))
  && c.records.all (fun (x : SlotRec) => c.records.all (fun (y : SlotRec) =>
    decide (x = y) || decide (x.slot ≠ y.slot) || (decide (x.use = y.use) && !phasesMeet x y)))

/-- The parameters with the held network values in place. -/
def State.planned (s : State) : State := s.boot.pendingNet.foldl (fun s (p : Nat × Int) => s.setPar p.1 p.2) s

/-- The layout of a schedule is that of the parameters of Table SLT-2 in a state (R83, R90). -/
def State.layoutFits (s : State) (n : Nat) (c : Schedule) : Bool :=
  decide (c.period = s.parN 0x07300001 0 ∧ c.staticSlots = s.parN 0x07200001 n ∧ c.slotLen = s.parN 0x07200002 n
    ∧ c.headSlots = s.parN 0x07200003 n ∧ c.minislots = s.parN 0x07200004 n ∧ c.minislotLen = s.parN 0x07200005 n
    ∧ c.wCode = s.parN 0x07200006 n ∧ c.guardLen = s.parN 0x07200007 n)

/-- d of an axis under a slot of schedule c. -/
def State.delayOf (s : State) (n : Nat) (c : Schedule) (r : SlotRec) : Nat := (releaseOf (s.landing n c r.slot) (periodOf c.period)).1

/-- A schedule of segment n against R95, R17, R192, R306 and R355. -/
def State.scheduleOk (s : State) (n : Nat) (c : Schedule) : Bool :=
  layoutOk c && decide (s.lamWorst n ≤ 5120000)
  && c.records.all (fun (r : SlotRec) => decide (r.use ≠ useFbk)
    || (decide (s.delayOf n c r ≤ 4) && decide (s.parN 0x04000131 r.axis + s.delayOf n c r ≤ 8)))
  && c.records.all (fun (r : SlotRec) => decide (r.use ≠ useFbk) || !s.monitored r.axis
    || c.records.any (fun (q : SlotRec) => decide (q.use = useSaf ∧ q.axis = r.axis)))
  && (!s.boot.twinPresent || decide (s.tTw + 1000 ≤ s.parN 0x01050001 0 * 1000))

/-- R476 for a schedule that replaces the one in force on a running segment. -/
def State.reloadOk (s : State) (n : Nat) (c : Schedule) : Bool :=
  let o := s.sched n
  let tw := if s.boot.twinPresent then s.tTw else 0
  decide (c.period = o.period ∧ c.staticSlots = o.staticSlots ∧ c.slotLen = o.slotLen ∧ c.headSlots = o.headSlots
    ∧ c.minislots = o.minislots ∧ c.minislotLen = o.minislotLen ∧ c.wCode = o.wCode ∧ c.guardLen = o.guardLen)
  && c.records.all (fun (x : SlotRec) => o.records.all (fun (y : SlotRec) =>
    decide (x.slot ≠ y.slot) || !phasesMeet x y || decide (x.node = y.node) || ((s.seg n).node y.node).removed))
  && s.scheduleOk n c
  && c.records.all (fun (r : SlotRec) =>
    let l := (s.axis r.axis).law
    decide (r.use ≠ useFbk) || decide (s.axState r.axis = .disabled)
      || decide (s.landing n c r.slot + tw + 1000 ≤ (l.d * s.period + l.phi + s.parN 0x01050001 0 * 100) * 10))

/-! What waits to be sent. -/

def State.queueSup (s : State) (n : Nat) (pl : List Byte) : State := s.modSeg n (fun g => { g with supQ := g.supQ ++ [(false, pl)] })

/-- A SUP for the nodes beyond a break, which port B reaches (R110). -/
def State.queueSupB (s : State) (n : Nat) (pl : List Byte) : State := s.modSeg n (fun g => { g with supQ := g.supQ ++ [(true, pl)] })

/-- SUP path set (Table FRM-14). -/
def pathSet (path apply : Nat) : List Byte := supPayload 2 ([BitVec.ofNat 8 path, 0, 0, 0] ++ be 4 (apply % 4294967296))
/-- SUP loop set. -/
def loopSet (action : Nat) : List Byte := supPayload 3 [BitVec.ofNat 8 action]

/-- A DYN message of the head joins its queue, in fragments where its data do not fit one frame (R76). -/
def State.queueDyn (s : State) (n msg dest : Nat) (data : List Byte) (deferrable : Bool) : State :=
  s.modSeg n (fun g =>
    { g with msgId := (g.msgId + 1) % 65536
             dynQ := g.dynQ ++ (dynParts 256 0 data).map (fun (x : Nat × Bool × List Byte) =>
               ({ msg := msg, msgId := g.msgId, dest := dest, data := x.2.2, deferrable := deferrable, turns := 0
                  more := x.2.1, frag := x.1 } : DynMsg)) })

/-- A node parameter access of STOP_GROUP: op 1 reads, op 2 writes (Table FRM-16, R299).  Its reply names it by REQ_ID. -/
def State.queueStopGroup (s : State) (n node a op : Nat) : State :=
  (s.modSeg n (fun g => { g with reqs := g.reqs ++ [(node, g.msgId)] })).queueDyn n 4 node ([BitVec.ofNat 8 op, 0] ++ be 2 1 ++ be 2 a ++ [0, 0] ++ be 8 (if op = 2 then s.parN 0x08200001 a else 0)) false

/-- The stop groups of a node's axes are written (R299). -/
def State.writeGroups (s : State) (n node : Nat) : State :=
  (s.nodeAxes n node).foldl (fun s a => s.queueStopGroup n node a 2) (s.modNode n node (fun x => { x with groupsRead := [] }))

/-! Breaks (R107 to R114). -/

/-- The neighbour of a node towards White's port B: the next larger DELAY_NORM; at the end Black, which is the standby twin (0xFF) or the
head port, or the head port of a single head. -/
def State.nextHop (s : State) (n node : Nat) : Nat :=
  let g := s.seg n
  let d := if node = 0 then 0 else (g.node node).delayNorm
  let up := g.nodes.filter (fun (p : Nat × NodeSt) => decide (p.2.hopA ≠ 0) && decide (p.1 ≠ node) && decide (d < p.2.delayNorm ∨ node = 0))
  match up.foldl (fun (b : Option (Nat × NodeSt)) p => match b with
      | none => some p
      | some q => if p.2.delayNorm < q.2.delayNorm then some p else some q) none with
  | some p => p.1
  | none => if s.boot.twinPresent && !s.isBlack then 0xFF else 0

/-- The neighbour towards White's port A; at the start White, which is the head port or, while Black is on move, the standby twin. -/
def State.prevHop (s : State) (n node : Nat) : Nat :=
  let g := s.seg n
  let far := node = 0 ∨ node = 0xFF
  let d := (g.node node).delayNorm
  let down := g.nodes.filter (fun (p : Nat × NodeSt) => decide (p.2.hopA ≠ 0) && decide (p.1 ≠ node) && (decide far || decide (p.2.delayNorm < d)))
  match down.foldl (fun (b : Option (Nat × NodeSt)) p => match b with
      | none => some p
      | some q => if q.2.delayNorm < p.2.delayNorm then some p else some q) none with
  | some p => p.1
  | none => if s.isBlack then 0xFF else 0

/-- The break event (0x0701). -/
def State.breakEvent (s : State) (n a b : Nat) (second : Bool) : State :=
  s.raise 0x0701 2 n [BitVec.ofNat 8 a, BitVec.ofNat 8 b, BitVec.ofNat 8 (b2n second)]

/-- The break between a and b is located (R110): both ports, the path set, the new landings, the event.  In dual-send mode the
trains go both ways already (R115). -/
def State.foldAt (s : State) (n a b : Nat) : State :=
  let k := s.cyc.cycle
  if s.parN 0x07300003 n = 1 then (s.modSeg n (fun g => { g with breakA := a, breakB := b })).breakEvent n a b false
  else
    let s1 := s.modSeg n (fun g =>
      let g1 := { g with folded := true, sendB := true, breakA := a, breakB := b, pathFrom := k + 2 }
      { g1 with nodes := smap (fun _ => NodeSt.reset) (fun i x => if g1.cut s.isBlack i then { x with path := b2n (!s.isBlack) } else x) g1.nodes })
    ((s1.queueSupB n (pathSet (b2n (!s.isBlack)) (k + 2))).breakEvent n a b false).markFoldLate

/-- A second break (R114). -/
def State.secondBreak (s : State) (n a b : Nat) : State :=
  if (s.seg n).second then s else (s.modSeg n (fun g => { g with second := true })).breakEvent n a b true

/-- A break seen between a and b, first or second. -/
def State.breakAt (s : State) (n a b : Nat) : State :=
  let g := s.seg n
  if !g.folded then s.foldAt n a b
  else if (a = g.breakA ∧ b = g.breakB) ∨ g.restoring = true then s
  else s.secondBreak n a b

/-- Whether the head judges breaks on a segment. -/
def State.watches (s : State) (n : Nat) : Bool := s.twin.onMove && s.segRuns n

/-- A break is detected and not yet located (R107). -/
def State.markBroken (s : State) (n : Nat) : State :=
  if s.watches n then s.modSeg n (fun g => { g with broken := true }) else s

/-- A node reports loopback; `atB`: the break lies on the side of its port B (R108, R110). -/
def State.reportLoop (s : State) (n node : Nat) (atB : Bool) : State :=
  if !s.watches n then s
  else
    let s1 := (s.markBroken n).modNode n node (fun x => { x with loopback := true })
    if atB then s1.breakAt n node (s.nextHop n node) else s1.breakAt n (s.prevHop n node) node

/-- The ring is whole again (R113). -/
def State.unfold (s : State) (n : Nat) : State :=
  let s1 := s.modSeg n (fun g =>
    { g with folded := false, sendB := false, second := false, broken := false, restoring := false, restoreAt := none, breakA := 0, breakB := 0
             csfMiss := 0, syncFrom := s.cyc.cycle
             nodes := smap (fun _ => NodeSt.reset) (fun _ x => { x with path := b2n s.isBlack, loopback := false, turnK := none }) g.nodes })
  (s1.markFoldLate).raise 0x0703 0 n []

/-- Both break-facing ports report link up, since when (R113).  The head port at the break is White's port A before the first node and its
port B behind the last, Black's port B and port A.  The twin's ports count as up while its HEALTH reports it healthy, which holds both
ports of every active segment (R360; log 153). -/
def State.breakUp (s : State) (n : Nat) : Option Nat :=
  let g := s.seg n
  let side (i : Nat) (own : Nat) (up : NodeSt → Bool) (t : NodeSt → Nat) : Option Nat :=
    if i = 0 then (if (s.port own).link then some (s.port own).upSince else none)
    else if i = 0xFF then (if s.twin.peerHealthy then some 0 else none)
    else if up (g.node i) then some (t (g.node i)) else none
  match side g.breakA (2 * n + b2n s.isBlack) (fun x => x.supB.getLsbD 7) NodeSt.upB,
      side g.breakB (2 * n + b2n (!s.isBlack)) (fun x => x.supA.getLsbD 7) NodeSt.upA with
  | some a, some b => some (max a b)
  | _, _ => none

/-- Every addressed node from both ports (R477 step 1). -/
def Segment.measureAll (g : Segment) : List (Nat × Bool) := g.known.flatMap (fun (p : Nat × NodeSt) => [(p.1, false), (p.1, true)])

/-- A measured restore starts (R479 step 1, R362): the loops are cleared, and every node, and a standby, is measured from two
cycles later on. -/
def State.measuredRestore (s : State) (n : Nat) (ctx : Option CmdCtx) : State :=
  (s.queueSup n (loopSet 0)).modSeg n (fun g =>
    { g with restoring := true, restoreAt := some (s.cyc.cycle + 2), activating := ctx
             remeasure := (if s.twinUp then [(0xFF, false), (0xFF, true)] else []) ++ g.measureAll })

/-! Surveys (R96, R119). -/

/-- The head sends a SUR request; `inRun`: in its dynamic turn, with that minislot (R118). -/
def State.sendSur (s : State) (n : Nat) (portB : Bool) (op hop newAddr : Nat) (minislot : Nat) : State :=
  let s1 := s.sendHead n portB
    { kind := tSur, seg := n, slotM := true, slotN := minislot, cyc := s.cyc.cycle % 4294967296, len := 4 } (surRequest op hop newAddr s.now)
  s1.modSeg n (fun g => { g with surveyOut := true, surveySent := s.coreTicks })

/-- The request of the Survey that is due: OP 0x03 to the next hop of the pass. -/
def State.surveyNext (s : State) (n : Nat) : State :=
  let g := s.seg n
  s.sendSur n g.surveyB 3 g.surveyHop (if g.surveyB then 0 else g.surveyHop) 0

/-- Survey starts on a segment (Table SLT-5). -/
def State.beginSurvey (s : State) (n : Nat) : State :=
  (s.modSeg n (fun g =>
    { g with phase := .survey, phaseTick := s.coreTicks, surveyB := false, surveyHop := 1, surveyRetry := 0, nNodes := 0, closed := false
             nodes := [], lamMeas := 0, dynParts := [], reqs := [], loopSide := 0, broken := false, folded := false, sendB := false, second := false, restoring := false
             restoreAt := none, remeasure := [], activating := none, admitting := none, activateAt := none, image := [] })).surveyNext n

/-- A node's SCH payload of schedule c; the delays sent are kept (R80, R477). -/
def State.schOf (s : State) (n : Nat) (c : Schedule) (activate node : Nat) : List Byte :=
  let x := (s.seg n).node node
  schPayload c x.delayNorm x.delayFold activate node

def State.noteSch (s : State) (n node : Nat) : State := s.modNode n node (fun x => { x with schNorm := x.delayNorm, schFold := x.delayFold })

/-- Schedule load of a segment (Table SLT-5): one SCH to each node; ACTIVATE is cycle `act`.  A schedule that fails its checks leaves the segment out of Run,
and so does a ring that is not closed, which is reported (R95, R120; log 145). -/
def State.loadSchedule (s : State) (n act : Nat) : State :=
  let g := s.seg n
  let c := if s.cyc.running then g.sched else g.pending.getD g.sched
  let s0 := s.modSeg n (fun g => { g with sched := c, pending := if s.cyc.running then g.pending else none })
  if !g.closed then (s0.modSeg n (fun g => { g with phase := .off })).put (.ringOpen n)
  else if !s0.layoutFits n c || !s0.scheduleOk n c then s0.modSeg n (fun g => { g with phase := .off })
  else
    let s1 := g.known.foldl (fun s (p : Nat × NodeSt) =>
      ((List.range 2).foldl (fun s (i : Nat) =>
        if i = 0 ∨ (s.seg n).folded = true then
          let pl := s.schOf n c act p.1
          s.sendHead n (i = 1) { kind := tSch, seg := n, slotM := true, slotN := p.1, cyc := s.cyc.cycle % 4294967296, len := 0 } pl
        else s) s).noteSch n p.1) s0
    (s1.modSeg n (fun g => { g with phase := .scheduleLoad, phaseTick := s.coreTicks, activateAt := some act })).setTimings.checkSection

/-- Every enabled segment has left Survey. -/
def State.surveysDone (s : State) : Bool :=
  (List.range 8).all (fun n => !s.segActive n || decide ((s.seg n).phase ≠ .survey))

/-- The end of a segment's Survey: in an Opening, cycle 0 is fixed once every segment is through; a segment alone loads its schedule
for a cycle of the running count (R116, R475). -/
def State.surveyEnds (s : State) (n : Nat) : State :=
  if s.cyc.running then s.loadSchedule n (s.cyc.cycle + 3)
  else
    let s1 := s.loadSchedule n 0
    if s1.surveysDone then { s1 with cyc := { s1.cyc with tEpoch := s1.now + (2 * s1.period : Nat), cycle := 0 } } else s1

end Sys2Proof.Machine
end

