-- ==== Sys2Proof/Machine/Ring.lean ====
section
/-! DEFINITION. The ring in Run: the head's own frame returning, links, breaks, restores, and the frames of the static slots
(spec/02_futhes_frames.md R48, R70, R81; spec/03_futhes_slot_train.md R100 to R114; spec/17_startup_and_domains.md R469). -/

namespace Sys2Proof.Machine

/-- CSF_RETURN (R100): Λ_N in 0.1 ns.  The first return after a Survey gives Λ_N itself (R97).  In dual-send mode the CSF of the counter train
returns on port A and gives Λ_R; how the spec's head measures it is open (log 154). -/
def execCsfReturn (seg : SegIx) (lam : LoopTime) (s : State) : Result :=
  let n := seg.val
  let g := s.seg n
  if lam.counter then
    (if s.watches n && decide (s.parN 0x07300003 n = 1) then
      (if g.phase = .synchronise then .next ((s.modSeg n (fun g => { g with lamR := lam.lam })).setTimings) else .next s)
    else .next s)
  else if s.watches n && !g.folded then
    if g.lamMeas = 0 ∧ g.phase = .synchronise then
      .next ((s.modSeg n (fun g => { g with csfSeen := true, csfMiss := 0, lamMeas := lam.lam, lamN := lam.lam })).setTimings)
    else
      let apart := decide (schedW g.sched < 2 * (((lam.lam : Int) - g.lamN).natAbs : Int))
      .next (s.modSeg n (fun g =>
        { g with csfSeen := true, csfMiss := 0, lamMeas := lam.lam
                 drift := if apart then (if g.drift < 16 then g.drift + 1 else g.drift) else 0 }))
  else .next s

/-- LOOP_DRIFT (R100, 0x0702), once for each drift. -/
def execLoopDrift (seg : SegIx) (s : State) : Result :=
  let n := seg.val
  whenB (s.watches n && decide ((s.seg n).drift = 16)) s
    ((s.modSeg n (fun g => { g with drift := 17 })).raise 0x0702 1 n (be 4 ((s.seg n).lamMeas / 10)))

/-- The break that the head's own port shows: the feed hop on port A, the return hop or the cabinet link on port B. -/
def State.portBreak (s : State) (p : Nat) : State :=
  let n := p / 2
  if !s.watches n then s
  else
    let s1 := s.markBroken n
    if s.isBlack then (if p % 2 = 0 then s1.breakAt n (s1.prevHop n 0) 0 else s1.breakAt n 0 0xFF)
    else if p % 2 = 0 then s1.breakAt n 0 (s1.nextHop n 0)
    else s1.breakAt n (if s.boot.twinPresent then 0xFF else s1.prevHop n 0) 0

/-- The nodes that already report loopback place the break; in dual-send mode no node loops back (R115). -/
def State.locate (s : State) (n : Nat) : State :=
  if (s.seg n).folded then s
  else if !(s.port (2 * n)).link then s.portBreak (2 * n)
  else if !(s.port (2 * n + 1)).link then s.portBreak (2 * n + 1)
  else s

/-- CSF_RETURN_MISSING (R107). -/
def execCsfReturnMissing (seg : SegIx) (s : State) : Result :=
  let n := seg.val
  let g := s.seg n
  whenB (s.watches n && !g.folded && !g.broken && decide (3 ≤ g.csfMiss)) s ((s.markBroken n).locate n)

/-- A forwarding chip is the node beside a break (R107, R108): it loops back what its other port brings, if that port's link is up. -/
def State.loopAt (s : State) (p : Nat) : State :=
  let n := p / 2
  if (s.twin.standby || decide (s.opening.phase = .listen)) && s.segActive n && (s.port (2 * n + (1 - p % 2))).link then
    s.modSeg n (fun g => { g with loopSide := p % 2 + 1 })
  else s

/-- A port's link goes down (R48, R469): its receiver resets behind a fence. -/
def State.linkDown (s : State) (p : Nat) (sync : Bool) : State :=
  ((s.modPort p (fun x => { x with link := false, sync := x.sync && !sync, anDone := false, fenced := true })).portBreak p).loopAt p

/-- PORT_LINK_DOWN (R48): the in-band bit and the MDIO poll count in SGMII mode only.  A loss of synchronisation clears SYNC also where the
link was down already (Table FRM-3). -/
def execPortLinkDown (p : PortIx) (src : LinkSource) (s : State) : Result :=
  let mode := s.parN 0x07000001 p.val
  let lost := decide (src = .codeSync)
  let valid := if lost then decide (mode ≠ 0) else decide (mode = 1)
  .next (if !valid then s
    else if (s.port p.val).link then s.linkDown p.val lost
    else s.modPort p.val (fun x => { x with sync := x.sync && !lost }))

/-- The in-band word lets the link stand (R45): 1000 Mb/s, full duplex. -/
def inBandGood (w : InBandWord) : Bool := w.link && decide (w.speed = .m1000) && w.fullDuplex

/-- PORT_LINK_UP (R45, R46, R48, R113): in SGMII mode the in-band word decides, and a word that does not let the link stand takes it down.
Negotiation completes with the in-band word, and in 1000BASE-X mode only where AN_ENABLE is set (R46). -/
def execPortLinkUp (p : PortUp) (s : State) : Result :=
  let word := p.word
  let p := p.port
  let mode := s.parN 0x07000001 p.val
  let x := s.port p.val
  if mode = 0 then .next s
  else if mode = 1 ∧ inBandGood word = false then
    .next (if x.link then s.linkDown p.val false else s.modPort p.val (fun x => { x with sync := true }))
  else if x.link then .next s
  else .next (s.modPort p.val (fun x =>
    { x with link := true, sync := true, anDone := decide (mode = 1) || decide (s.parN 0x07000002 p.val = 1), upSince := s.coreTicks }))

/-- RESET_FENCE_RELEASE (R469): both clocks have run for 1 µs. -/
def execResetFenceRelease (site : FenceSite) (s : State) : Result :=
  match site with
  | .port p =>
    let x := s.port p.val
    whenB (x.fenced && x.sync && decide (x.upSince + 1000 ≤ s.coreTicks)) s (s.modPort p.val (fun x => { x with fenced := false }))
  | .lane l =>
    if s.boot.twinPresent then
      .next { s with twin := if l = 0 then { s.twin with lane0 := true } else { s.twin with lane1 := true } }
    else .next s

/-- MDIO_LINK_POLL (R47, R48): register 1 of the PHY, whose bit 2 is the link status. -/
def execMdioLinkPoll (p : PortIx) (bmsr : BitVec 16) (s : State) : Result :=
  let x := s.port p.val
  if s.parN 0x07000001 p.val = 1 ∧ x.mdioNext ≤ s.coreTicks then
    let s1 := (s.modPort p.val (fun x => { x with mdioNext := s.coreTicks + s.parN 0x07000004 p.val * 10000 })).put
      (.mdio (p.val / 8) 0 (s.parN 0x07000003 p.val) 0 1 0)
    .next (if !bmsr.getLsbD 2 && x.link then s1.linkDown p.val false else s1)
  else .next s

/-- A frame with LOOP = 1 on port A shows a break, whatever becomes of the frame (R107). -/
def State.noteLoop (s : State) (f : RxFrame) : State :=
  let n := f.port.val / 2
  match s.soundHdr f with
  | some h => if h.loop ∧ f.port.val % 2 = 0 then (s.markBroken n).locate n else s
  | none => s

/-- An accepted frame of a node locates a break by its SRC (R110; log 155): a node whose frames come back turned on port A is on that side,
and where the frame of the next node comes untouched on port B in a later train the break lies between them.  Behind the last node there
is only the head port or the twin. -/
def State.sourceLocate (s : State) (f : RxFrame) (h : Hdr) (k : Int) : State :=
  let n := f.port.val / 2
  let node := h.src
  let g := s.seg n
  if !s.watches n || g.folded || !g.broken || s.isBlack then s
  else if h.loop ∧ f.port.val % 2 = 0 then
    let s1 := s.modNode n node (fun x => { x with turnK := some k })
    if s.nextHop n node = 0 ∨ s.nextHop n node = 0xFF then s1.breakAt n node (s.nextHop n node) else s1
  else if h.loop = false ∧ f.port.val % 2 = 1 then
    let i := s.prevHop n node
    if i = 0 then s
    else match (g.node i).turnK with
      | some m => if m < k then s.breakAt n i node else s
      | none => s
  else s

/-- LOOP_FRAME_RECEIVE (R107): turned copies of the head's own frames are discarded (R109). -/
def execLoopFrameReceive (f : RxFrame) (s0 : State) : Result :=
  let s := s0.relay f
  let r := s.rx f
  .next (((s.seeLoop f).countRx f.port.val r).noteLoop f)

/-- RING_RESTORE_AUTO (R113): the loop-set clear and the path set apply together, at least 2 cycles after they are sent.  A break at
the twin is restored after the twin has been measured (R362). -/
def execRingRestoreAuto (seg : SegIx) (s : State) : Result :=
  let n := seg.val
  let g := s.seg n
  match s.breakUp n with
  | none => .next s
  | some t =>
    whenB (s.watches n && g.folded && g.restoreAt.isNone && !g.restoring && decide (s.parN 0x07300004 n = 1)
        && decide (t + s.parN 0x07300005 n * 1000000000 ≤ s.coreTicks)) s
      (if g.breakA = 0xFF ∨ g.breakB = 0xFF then s.measuredRestore n none else ((s.queueSup n (loopSet 0)).queueSupB n (pathSet (b2n s.isBlack) (s.cyc.cycle + 3))).modSeg n (fun g =>
        { g with restoreAt := some (s.cyc.cycle + 3) }))

/-- RING_RESTORED (R113, 0x0703). -/
def execRingRestored (seg : SegIx) (s : State) : Result :=
  let n := seg.val
  let g := s.seg n
  match g.restoreAt with
  | none => .next s
  | some c => whenB (g.folded && !g.restoring && decide (c ≤ s.cyc.cycle)) s (s.unfold n)

/-! Frames of the static slots (R101, R105). -/

/-- The task that a frame of cycle k feeds has been released (R20). -/
def State.pastRelease (s : State) (a : Nat) (k : Int) : Bool :=
  match (s.axis a).task.released with
  | none => false
  | some m => decide (k + ((s.axis a).law.d : Int) ≤ m)

/-- FBK_FRAME_RECEIVE (R105): a frame that is late for its task is kept for diagnosis only (R20). -/
def execFbkFrameReceive (f : RxFrame) (s0 : State) : Result :=
  let s := s0.relay f
  let n := f.port.val / 2
  let v := s.judge f useFbk tFbk 0
  let s1 := (s.countVerdict f v).noteLoop f
  match v with
  | .ok h pl r k _ =>
    let s2 := s1.sourceLocate f h k
    let old := (s2.seg n).imageAt r
    let late := s2.pastRelease r.axis k && (decide (old.cycle < k.toNat) || decide (old.payload = []))
    let s3 := s2.storeImage n r k h.age pl
    let s4 := if late then (s3.dropWait n r k.toNat).modPort f.port.val (fun x => { x with late := true })
      else s3
    .next (if (byteAt pl 1).getLsbD 2 then s4.reportLoop n r.node (decide (f.port.val % 2 = 0) != s.isBlack)
      else s4.modNode n r.node (fun x => { x with loopback := false }))
  | _ => .next s1

/-- The records of an input IOD after its bit image (Table FRM-8). -/
def iodRecords : Nat → List Byte → List (List Byte)
  | 0, _ => []
  | n + 1, bs => if bs.length < 8 then [] else bs.take 8 :: iodRecords n (bs.drop 8)

/-- An IOD payload of a node: FORMAT 0x01 or 0x03, and an image that the payload holds (R70).  What becomes of another is the model's choice: it
is a format discard, and counts only as such (log 148). -/
def iodFits (_h : Hdr) (pl : List Byte) : Bool :=
  let fmt := (byteAt pl 0).toNat
  let bytes := field pl 2 2
  decide (fmt = 1 ∨ fmt = 3) && decide (bytes ≤ 1016) && decide (4 + bytes ≤ pl.length)

/-- IOD_RECEIVE (R70, R88, R255): the image, and the act records of the move list. -/
def execIodReceive (f : RxFrame) (s0 : State) : Result :=
  let s := s0.relay f
  let n := f.port.val / 2
  let v := (s.judge f useIod tIod 0).content iodFits
  let s1 := (s.countVerdict f v).noteLoop f
  match v with
  | .ok h pl r k _ =>
    let bytes := field pl 2 2
    let first := decide ((((s1.seg n).imageAt r).cycle ≠ k.toNat) ∨ ((s1.seg n).imageAt r).payload = [])
    let s2 := ((s1.sourceLocate f h k).storeImage n r k h.age pl).modNode n r.node (fun x =>
      { x with inStatus := byteAt pl 1, inImage := (pl.drop 4).take bytes })
    if (byteAt pl 0).toNat = 3 ∧ first then
      .next ((iodRecords 127 (pl.drop (4 + cdiv bytes 4 * 4))).foldl (fun s (rec_ : List Byte) =>
        let e := (byteAt rec_ 1).toNat
        if e = 2 ∨ e = 3 then s.moveActed n r.node (field rec_ 2 2) else s) s2)
    else .next s2
  | _ => .next s1

/-- A node in its SUP slot sends a node status (R81).  A SUP of another OP there is, by the model's choice, a format discard (log 149). -/
def supFits (_h : Hdr) (pl : List Byte) : Bool := decide (byteAt pl 0 = 1)

/-- SUP_STATUS_RECEIVE (R81): port states, counts, loopback; and since when each port is up (R113). -/
def execSupStatusReceive (f : RxFrame) (s0 : State) : Result :=
  let s := s0.relay f
  let n := f.port.val / 2
  let v := (s.judge f useSup tSup 0).content supFits
  let s1 := (s.countVerdict f v).noteLoop f
  match v with
  | .ok h pl r k _ =>
    let pa := byteAt pl 4
    let pb := byteAt pl 5
    let s2 := ((s1.sourceLocate f h k).storeImage n r k h.age pl).modNode n r.node (fun x =>
      { x with
        supSeen := true, supA := pa, supB := pb, supCounts := (List.range 7).map (fun i => field pl (6 + 2 * i) 2)
        loopback := pa.getLsbD 6 || pb.getLsbD 6
        upA := if pa.getLsbD 7 && !(x.supA.getLsbD 7 && x.supSeen) then s.coreTicks else x.upA
        upB := if pb.getLsbD 7 && !(x.supB.getLsbD 7 && x.supSeen) then s.coreTicks else x.upB })
    let s3 := if pa.getLsbD 6 then s2.reportLoop n r.node false else s2
    .next (if pb.getLsbD 6 then s3.reportLoop n r.node true else s3)
  | _ => .next s1

/-- SAF_UPLINK_RECEIVE (R308): channel P under the head's judgement, channel H on what its tap reads. -/
def execSafUplinkReceive (f : RxFrame) (s0 : State) : Result :=
  let s := s0.relay f
  let n := f.port.val / 2
  let v := s.judge f useSaf tSaf 0
  let s1 := (s.countVerdict f v).noteLoop f
  let h := parseHdr f.bytes
  let k := s.rebuildCycle h.cyc
  match schedOwner (s.sched n) h.slotN k with
  | none => .next s1
  | some r =>
    if r.use ≠ useSaf || h.src = 0 then .next s1
    else
      let a := r.axis
      let s2 := match v with
        | .ok _ pl r k _ =>
          let s2 := s1.storeImage n r k h.age pl
          (match s2.judgeUplink .p n r k pl with
          | .valid =>
            let gap := match (s2.saf.p.mon (s2.seqKey n r.node a)).lastSeq with
              | none => false
              | some q => decide (field pl 10 2 ≠ (q + 1) % 65536)
            let s3 := s2.upValid .p n r k pl
            if gap then { s3 with saf := { s3.saf with upSeq := inc32 s3.saf.upSeq } } else s3
          | .crc => ({ s2 with saf := { s2.saf with upCrc := inc32 s2.saf.upCrc } }).upInvalid .p a
          | .seq => ({ s2 with saf := { s2.saf with upSeq := inc32 s2.saf.upSeq } }).upInvalid .p a
          | .axis => s2.upInvalid .p a)
        | _ => s1.upInvalid .p a
      .next (match s.rx f with
        | .ok h pl =>
          if h.kind = tSaf ∧ h.src = r.node ∧ h.len = 4 then
            (match s2.judgeUplink .h n r k pl with
            | .valid => s2.upValid .h n r k pl
            | _ => s2.upInvalid .h a)
          else s2.upInvalid .h a
        | _ => s2.upInvalid .h a)

/-! The faulty hop (R61). -/

/-- The nodes of a segment in the direction of a frame: from port A, by rising DELAY_NORM, or from port B. -/
def Segment.inOrder (g : Segment) (fromB : Bool) : List (Nat × NodeSt) :=
  let l := g.known.foldl (fun (acc : List (Nat × NodeSt)) p =>
    acc.filter (fun (q : Nat × NodeSt) => decide (q.2.delayNorm ≤ p.2.delayNorm)) ++ [p]
      ++ acc.filter (fun (q : Nat × NodeSt) => decide (p.2.delayNorm < q.2.delayNorm))) []
  if fromB then l.reverse else l

/-- Where the head places a fault of the frames that leave port A, or port B: the first receiver, in their direction, that counts CRC errors
on the input that faces them, and its upstream neighbour; 0 is a head port.  The last receiver is the head itself. -/
def State.faultyHop (s : State) (n : Nat) (fromB : Bool) : Option (Nat × Nat) :=
  let l := (s.seg n).inOrder fromB
  match l.find? (fun (p : Nat × NodeSt) => decide (0 < p.2.supCounts.getD (b2n fromB) 0)) with
  | some p => some (if fromB then s.nextHop n p.1 else s.prevHop n p.1, p.1)
  | none =>
    if 0 < (s.port (2 * n + b2n (!fromB))).crcCnt then some ((l.getLast?.map (fun (p : Nat × NodeSt) => p.1)).getD 0, 0) else none

end Sys2Proof.Machine
end

