-- ==== Sys2Proof/Machine/Dyn.lean ====
section
/-! DEFINITION. The dynamic segment and the surveys (spec/02_futhes_frames.md R76, R79; spec/03_futhes_slot_train.md R89, R96 to
R98, R116 to R120; spec/12_twin_operation.md R353, R363; spec/18_service_without_stopping.md R477, R480, R481). -/

namespace Sys2Proof.Machine

/-! DYN frames (R76, R89). -/

/-- The turn of minislot i in the train of cycle k. -/
def turnOf (m : Nat) (k : Int) (i : Nat) : Nat := ((k + (i * (256 / max 1 m) : Nat)) % 256).toNat

/-- The judgement of a DYN frame from a node: its header, its turn, the edge window of R101; an unaddressed node's window is
not judged. -/
def State.judgeDyn (s : State) (f : RxFrame) : Verdict :=
  let n := f.port.val / 2
  let c := s.sched n
  match s.rx f with
  | .off => .bad .off
  | .abort => .bad .abort
  | .crc => .bad .crc
  | .format => .bad .format
  | .ok h pl =>
    let k := s.rebuildCycle h.cyc
    let u := turnOf c.minislots k h.slotN
    if h.kind ≠ tDyn ∨ h.slotM = false ∨ c.minislots ≤ h.slotN then .discard
    else if h.src = 0 ∧ u < 128 then .own
    else if h.src ≠ 0 ∧ u ≠ h.src then .discard
    else
      let r : SlotRec := ⟨0, 0, 0, 0, 0, h.src, 0⟩
      match (if s.twin.standby ∨ h.src = 0 then none else s.pathDelay n h.src (f.port.val % 2 = 1) k) with
      | none => .ok h pl r k 0
      | some lam =>
        let d := f.sfd + ((s.cyc.cycle : Int) - k) * (s.period * 10 : Nat) - (lam + ((minislotStart c h.slotN + 56) * 10 : Nat))
        if -schedW c ≤ d ∧ d < schedW c then .ok h pl r k d else .edge r

/-- The port counts of a DYN frame. -/
def State.countDyn (s0 : State) (f : RxFrame) (v : Verdict) : State :=
  let s := s0.seeLoop f
  match v with
  | .bad r => s.countRx f.port.val r
  | .discard => s.modPort f.port.val RingPort.onFormat
  | _ => s.countRx f.port.val (s.rx f)

/-- The acknowledge of a fragment (Table FRM-16). -/
def State.ackDyn (s : State) (n dest : Nat) (pl : List Byte) : State :=
  s.queueDyn n 5 dest ((pl.drop 2).take 2 ++ [byteAt pl 5, 0]) false

/-- A fragment joins those of its message; a fragment already held is used once, and a new MSG_ID of the node starts a new message (R76, R77). -/
def Segment.joinFrag (g : Segment) (src : Nat) (pl : List Byte) : DynParts :=
  let msg := (byteAt pl 0).toNat
  let id := field pl 2 2
  let frag := (byteAt pl 5).toNat
  let old := match g.dynParts.find? (fun (x : DynParts) => decide (x.src = src ∧ x.msg = msg ∧ x.msgId = id)) with
    | some x => x.parts
    | none => []
  { src := src, msg := msg, msgId := id
    parts := if old.any (fun (x : Nat × Bool × List Byte) => decide (x.1 = frag)) then old
      else old ++ [(frag, nbit (byteAt pl 1).toNat 7, pl.drop 8)] }

/-- The data of a message in FRAG order, once its last fragment and all before it have come. -/
def DynParts.whole (x : DynParts) : Option (List Byte) :=
  match x.parts.find? (fun (p : Nat × Bool × List Byte) => !p.2.1) with
  | none => none
  | some last =>
    (List.range (last.1 + 1)).foldl (fun (acc : Option (List Byte)) i =>
      match acc, x.parts.find? (fun (p : Nat × Bool × List Byte) => decide (p.1 = i)) with
      | some bs, some p => some (bs ++ p.2.2)
      | _, _ => none) (some [])

/-- A message of a node for the head, of a MSG: its effect `g` on the accepted message (segment, node, payload).  The fragments of a message
are joined; each but the last one is acknowledged here, the whole message by its effect (R76). -/
def State.takeDyn (s0 : State) (f : RxFrame) (msg : Nat) (g : State → Nat → Nat → List Byte → State) : Result :=
  let s := s0.relay f
  let v := s.judgeDyn f
  let s1 := (s.countDyn f v).noteLoop f
  let n := f.port.val / 2
  match v with
  | .ok h pl _ _ _ =>
    .next (if s1.twin.onMove ∧ (byteAt pl 0).toNat = msg ∧ byteAt pl 4 = 0 then
        (if nbit (byteAt pl 1).toNat 7 = false ∧ byteAt pl 5 = 0 then g s1 n h.src pl
        else
          let x := (s1.seg n).joinFrag h.src pl
          let rest := (s1.seg n).dynParts.filter (fun (y : DynParts) => decide (y.src ≠ h.src))
          match x.whole with
          | some data => g (s1.modSeg n (fun q => { q with dynParts := rest })) n h.src (pl.take 8 ++ data)
          | none => (s1.modSeg n (fun q => { q with dynParts := rest ++ [x] })).ackDyn n h.src pl)
      else s1)
  | _ => .next s1

/-- ADMISSION_REQUEST (R481): the list holds 8; a request that it already holds is acknowledged again. -/
def execAdmissionRequest (f : RxFrame) (s : State) : Result :=
  s.takeDyn f 1 (fun s n src pl =>
    let serial := BitVec.ofNat 48 (field pl 8 6)
    let held := (s.seg n).admitReq
    if src ≠ 0 ∨ pl.length < 24 then s
    else if held.any (fun (q : AdmitReq) => decide (q.serial = serial)) then s.ackDyn n 0 pl
    else if 8 ≤ held.length then s
    else
      (s.modSeg n (fun g => { g with
        admitReq := g.admitReq ++ [({ serial := serial, kind := (byteAt pl 14).toNat, axes := (byteAt pl 15).toNat, staticBytes := field pl 16 2 } : AdmitReq)] })).ackDyn n 0 pl)

/-- The request that a reply names by REQ_ID is answered (R76). -/
def State.answered (s : State) (n src req : Nat) : State :=
  s.modSeg n (fun g => { g with reqs := g.reqs.filter (fun (r : Nat × Nat) => decide (r ≠ (src, req))) })

/-- DIAGNOSTIC_RESPONSE (R76): port counters and identity are taken; other codes are node-defined.  No command makes the head send a diagnostic
request, so a response is taken whatever request its REQ_ID names (log 157). -/
def execDiagnosticResponse (f : RxFrame) (s : State) : Result :=
  s.takeDyn f 3 (fun s n src pl =>
    let s1 := (s.ackDyn n src pl).answered n src (field pl 10 2)
    let diag := (byteAt pl 8).toNat
    if byteAt pl 9 ≠ 0 then s1
    else if diag = 1 ∧ 36 ≤ pl.length then
      s1.modNode n src (fun x => { x with supA := byteAt pl 16, supB := byteAt pl 17, supCounts := (List.range 7).map (fun i => field pl (18 + 2 * i) 2) })
    else if diag = 2 ∧ 24 ≤ pl.length then
      s1.modNode n src (fun x => { x with serial := BitVec.ofNat 48 (field pl 16 6), kind := (byteAt pl 22).toNat, axes := (byteAt pl 23).toNat })
    else s1)

/-- NODE_PARAMETER_ACCESS (R76, R299): a reply that names a request of the head; a written stop group is read back; the value read back is
kept. -/
def execNodeParameterAccess (f : RxFrame) (s : State) : Result :=
  s.takeDyn f 4 (fun s n src pl =>
    let req := field pl 14 2
    let s1 := (s.ackDyn n src pl).answered n src req
    let op := (byteAt pl 8).toNat
    let a := field pl 12 2
    if pl.length < 24 ∨ byteAt pl 9 ≠ 0 ∨ field pl 10 2 ≠ 1 ∨ (s.seg n).reqs.contains (src, req) = false then s1
    else if op = 0x82 then s1.queueStopGroup n src a 1
    else if op = 0x81 then
      s1.modNode n src (fun x => { x with groupsRead := (x.groupsRead.filter (fun (p : Nat × Nat) => decide (p.1 ≠ a))) ++ [(a, field pl 16 8)] })
    else s1)

/-- ACKNOWLEDGE (R89): the fragment acknowledged is delivered. -/
def execAcknowledge (f : RxFrame) (s : State) : Result :=
  s.takeDyn f 5 (fun s n src pl =>
    let hit := fun (m : DynMsg) => decide (m.msgId = field pl 8 2 ∧ m.frag = (byteAt pl 10).toNat ∧ m.dest = src)
    s.modSeg n (fun g => { g with dynWait := g.dynWait.filter (fun m => !hit m), dynQ := g.dynQ.filter (fun m => !(hit m && decide (0 < m.turns))) }))

/-! The head's turn (R89, R118, R271, R477). -/

/-- Whether a frame of `bytes` on the wire fits from minislot i on. -/
def minislotFits (c : Schedule) (i bytes : Nat) : Bool :=
  decide (i * c.minislotLen + bytes + c.guardLen ≤ c.minislots * c.minislotLen)

/-- The hop name by which the device calls a node from a port (R480); `node` 0xFF is the standby. -/
def State.hopFor (s : State) (n node : Nat) (portB : Bool) : Nat × Nat :=
  let g := s.seg n
  let x := g.node node
  let fresh := match g.admitting with
    | none => false
    | some (a, _, _) => decide (a = node)
  if fresh then (if (if portB then x.hopB else x.hopA) = 0 then 3 else 2, 128 + node)
  else if 256 ≤ node then (3, 128 + node % 256)
  else if node = 0xFF then (3, if portB then 1 else g.nNodes + 1)
  else if portB then
    (if x.hopB = 0 then (3, (g.nodes.filter (fun (p : Nat × NodeSt) => decide (p.2.hopB ≠ 0))).length + (if s.boot.twinPresent then 2 else 1))
     else (2, x.hopB))
  else (2, x.hopA)

/-- The SUR request that is due in Run: the next of a re-measurement, else a NET_MEASURE. -/
def State.surDue (s : State) (n : Nat) : Option (Bool × Nat × Nat × Nat) :=
  let g := s.seg n
  let held := match g.restoreAt with
    | none => false
    | some r => g.restoring && decide (s.cyc.cycle < r)
  if g.surveyOut || s.trimmed 4 || held then none
  else match g.remeasure with
    | (node, portB) :: _ =>
      let o := s.hopFor n node portB
      some (portB, o.1, o.2, if o.1 = 3 ∧ portB = false ∧ node < 128 then node else 0)
    | [] => match g.measure with
      | none => none
      | some (_, hop, portB) => some (portB, 2, hop, 0)

/-- A DYN message leaves; all but an acknowledge wait for theirs. -/
def State.sendDyn (s : State) (n i : Nat) (m : DynMsg) : State :=
  let g := s.seg n
  let h : Hdr := { kind := tDyn, seg := n, slotM := true, slotN := i, cyc := s.cyc.cycle % 4294967296, len := 0 }
  let s1 := s.sendHead n false h (dynPayload m)
  let s2 := if g.folded || decide (s.parN 0x07300003 n = 1) then s1.sendHead n true h (dynPayload m) else s1
  s2.modSeg n (fun g =>
    { g with dynQ := g.dynQ.erase m, dynWait := if m.msg = 5 then g.dynWait else g.dynWait ++ [{ m with turns := 0 }] })

/-- DYN_TURN (R89): the head's turn; one frame at most, which must end GUARD byte-times before the dynamic segment does. -/
def execDynTurn (seg : SegIx) (minislot : BitVec 8) (s : State) : Result :=
  let n := seg.val
  let i := minislot.toNat
  let c := s.sched n
  if s.twin.onMove && s.segRuns n && decide (i < c.minislots) && decide (turnOf c.minislots s.cyc.cycle i = 0) then
    let s1 := s.modSeg n (fun g => { g with dynWait := g.dynWait.map (fun (m : DynMsg) => { m with turns := m.turns + 1 }) })
    let fits := fun (m : DynMsg) => minislotFits c i (24 + (dynPayload m).length)
    match (s1.seg n).dynQ.find? (fun m => !m.deferrable && fits m) with
    | some m => .next (s1.sendDyn n i m)
    | none =>
      match s1.surDue n with
      | some (portB, op, hop, addr) =>
        .next (if minislotFits c i 40 then s1.sendSur n (portB != s1.isBlack) op hop addr i else s1)
      | none =>
        match (s1.seg n).dynQ.find? (fun m => m.deferrable && !s1.trimmed 4 && fits m) with
        | some m => .next (s1.sendDyn n i m)
        | none => .next s1
  else .next s

/-- DYN_REPEAT (R89): what has no acknowledge within 2 turns is sent again. -/
def execDynRepeat (seg : SegIx) (s : State) : Result :=
  let n := seg.val
  whenB (s.twin.onMove && (s.seg n).dynWait.any (fun (m : DynMsg) => decide (2 ≤ m.turns))) s (s.modSeg n (fun g =>
    { g with dynQ := g.dynWait.filter (fun (m : DynMsg) => decide (2 ≤ m.turns)) ++ g.dynQ
             dynWait := g.dynWait.filter (fun (m : DynMsg) => decide (m.turns < 2)) }))

/-! Measured values (R97, R98). -/

/-- The round trip of a response on port A gives a(i) and DELAY_NORM, one on port B gives b(i) and DELAY_FOLD. -/
def NodeSt.measured (x : NodeSt) (portB : Bool) (hop rtt turn fwd : Nat) : NodeSt :=
  if portB then
    let b := rtt - turn - x.legA
    { x with hopB := hop, legB := b, delayFold := b + fwd, fwdLat := fwd, turn := turn }
  else
    let a := (rtt - turn) / 2
    { x with hopA := hop, legA := a, delayNorm := a + fwd, fwdLat := fwd, turn := turn }

/-- A node is named by its response. -/
def NodeSt.named (x : NodeSt) (pl : List Byte) : NodeSt :=
  { x with serial := BitVec.ofNat 48 (field pl 4 6), kind := (byteAt pl 3).toNat, axes := (byteAt pl 10).toNat }

/-- The standby's response (R98, R353, R354): its loop delay, and the cabinet link delay from port B. -/
def State.standbyMeasured (s : State) (n : Nat) (portB : Bool) (rtt turn fwd : Nat) : State :=
  if portB then
    let a := ((s.seg n).lamStandby - fwd) / 2
    { s with twin := { s.twin with cabDelay := rtt - turn - a } }
  else s.modSeg n (fun g => { g with lamStandby := 2 * ((rtt - turn) / 2) + fwd })

/-- The last node's values give Λ_N until the CSF measures it, and Λ_R with it (R97; log 154). -/
def State.lamGuess (s : State) (n : Nat) : State :=
  let g := s.seg n
  let last := g.known.foldl (fun (b : Nat × Nat) (p : Nat × NodeSt) => if b.1 ≤ p.2.delayNorm then (p.2.delayNorm, p.2.delayNorm + p.2.legB) else b) (0, g.lamStandby)
  s.modSeg n (fun g => { g with lamN := last.2, lamR := last.2 })

/-- The length of the ring to the last node and back. -/
def Segment.lastLoop (g : Segment) : Nat :=
  (g.known.foldl (fun (b : Nat × Nat) (p : Nat × NodeSt) => if b.1 ≤ p.2.delayNorm then (p.2.delayNorm, p.2.delayNorm + p.2.legA) else b) (0, 0)).2

/-- The activation or admission in progress ends with a status (R477, R479, R481). -/
def State.endActivation (s : State) (n status : Nat) : State :=
  let g := s.seg n
  let ctx : Option CmdCtx := match g.admitting with
    | some (_, _, c) => some c
    | none => g.activating
  let op := if g.admitting.isSome then 0x0704 else if g.restoring then 0x0706 else 0x0703
  let s1 := s.modSeg n (fun g =>
    { g with remeasure := [], activating := none, admitting := none, activateAt := none, schQ := [], surveyOut := false, surveyRetry := 0 })
  let s2 := if g.restoring ∧ status ≠ stDone then
      ((s1.queueSup n (loopSet 2)).queueSup n (loopSet 1)).modSeg n (fun g => { g with restoring := false, restoreAt := none })
    else s1
  s2.cmdDone? ctx op n status

/-- A response in Survey (R119). -/
def State.surveyTake (s : State) (n : Nat) (pl : List Byte) (rtt turn fwd : Nat) : State :=
  let g := s.seg n
  let addr := (byteAt pl 2).toNat
  let s1 :=
    if addr = 0 then s.standbyMeasured n g.surveyB rtt turn fwd
    else s.modNode n addr (fun x =>
      let y := (x.measured g.surveyB g.surveyHop rtt turn fwd).named pl
      if s.isBlack && !g.surveyB then { y with delayFold := y.delayNorm + s.tTw } else y)
  (s1.modSeg n (fun g => { g with surveyOut := false, surveyRetry := 0, surveyHop := g.surveyHop + 1 })).surveyNext n

/-- A response in Run (R97, R119, R477, R481). -/
def State.runTake (s : State) (n : Nat) (pl : List Byte) (rtt turn fwd : Nat) : State :=
  let g := s.seg n
  let addr := (byteAt pl 2).toNat
  let hop := (byteAt pl 1).toNat
  let s1 := s.modSeg n (fun g => { g with surveyOut := false, surveyRetry := 0 })
  match g.remeasure with
  | (node, portB) :: rest =>
    let s2 := s1.modSeg n (fun g => { g with remeasure := rest })
    if 256 ≤ node then s2
    else if addr = 0 then s2.standbyMeasured n portB rtt turn fwd
    else match g.admitting with
      | some (a, serial, _) =>
        if addr = a ∧ BitVec.ofNat 48 (field pl 4 6) ≠ serial then
          (s2.endActivation n stState).modSeg n (fun g => { g with remeasure := [(256 + a, false)] })
        else s2.modNode n addr (fun x => (x.measured portB hop rtt turn fwd).named pl)
      | none => s2.modNode n addr (fun x => x.measured portB hop rtt turn fwd)
  | [] =>
    match g.measure with
    | none => s1
    | some (c, _, portB) =>
      let y := ((g.node addr).measured portB hop rtt turn fwd)
      let s2 := (if addr = 0 then s1 else s1.modNode n addr (fun x => x.measured portB hop rtt turn fwd)).modSeg n (fun g => { g with measure := none })
      s2.replyLater c 0x0708 stDone (be 4 turn ++ be 4 fwd ++ be 4 (if portB then y.delayFold else y.delayNorm))

/-- SUR_RESPONSE (R96, R97): `sfd` carries the interval from the request's SFD leaving to the response's SFD arriving, in 0.1 ns.
While Black is on move its requests pass the cabinet link as well (R354). -/
def execSurResponse (f : RxFrame) (s0 : State) : Result :=
  let s := s0.relay f
  let n := f.port.val / 2
  let r := s.rx f
  let s1 := ((s.seeLoop f).countRx f.port.val r).noteLoop f
  match r with
  | .ok h pl =>
    let g := s.seg n
    let op := (byteAt pl 0).toNat
    let turn := field pl 12 4
    let fwd := field pl 16 4
    if h.kind = tSur ∧ h.len = 6 ∧ s.twin.onMove = true ∧ g.surveyOut = true ∧ (op = 0x82 ∨ op = 0x83) then
      if g.phase = .survey then
        .next (if (byteAt pl 1).toNat = g.surveyHop then s1.surveyTake n pl f.sfd.toNat turn fwd else s1)
      else
        let portB := match g.remeasure, g.measure with
          | (_, b) :: _, _ => b
          | [], some (_, _, b) => b
          | [], none => false
        .next (s1.runTake n pl (if s.isBlack && !portB then f.sfd.toNat - 2 * s.tTw else f.sfd.toNat) turn fwd)
    else .next s1
  | _ => .next s1

/-- SUR_REQUEST_RETURN (R119): a pass ends. -/
def execSurRequestReturn (seg : SegIx) (portB : Bool) (s : State) : Result :=
  let n := seg.val
  let g := s.seg n
  if s.twin.onMove ∧ g.phase = .survey ∧ g.surveyOut = true ∧ portB ≠ g.surveyB then
    if g.surveyB then .next ((s.modSeg n (fun g => { g with surveyOut := false })).lamGuess n |>.surveyEnds n)
    else
      .next ((s.modSeg n (fun g =>
        { g with surveyOut := false, surveyB := true, surveyHop := 1, surveyRetry := 0, closed := true, nNodes := g.known.length })).surveyNext n)
  else .next s

/-- The ring is open at Survey (R120), but for a break at the absent twin (R363). -/
def State.surveyOpen (s : State) (n : Nat) : State :=
  let g := s.seg n
  if s.boot.twinPresent && !s.twinUp && !g.surveyB then
    let last := maxOf (g.known.map (fun (p : Nat × NodeSt) => p.1))
    (s.modSeg n (fun g =>
      { g with surveyOut := false, closed := true, folded := true, sendB := true, breakA := last, breakB := 0xFF, nNodes := g.known.length
               lamN := g.lastLoop, lamStandby := if s.isBlack then g.lastLoop else g.lamStandby })).surveyEnds n
  else (s.modSeg n (fun g => { g with surveyOut := false, closed := false })).surveyEnds n

/-- A request in Run that nobody answers ends what asked for it. -/
def State.surFails (s : State) (n : Nat) : State :=
  let g := s.seg n
  let s1 := s.modSeg n (fun g => { g with surveyOut := false, surveyRetry := 0 })
  match g.remeasure with
  | (node, _) :: rest =>
    if 255 ≤ node then s1.modSeg n (fun g => { g with remeasure := rest })
    else s1.endActivation n (if g.admitting.isSome then stState else stSched)
  | [] => match g.measure with
    | none => s1
    | some (c, _, _) => (s1.modSeg n (fun g => { g with measure := none })).replyLater c 0x0708 stState []

/-- SURVEY_TIMEOUT (R116): 1.2 ms without a response; two retries. -/
def execSurveyTimeout (seg : SegIx) (s : State) : Result :=
  let n := seg.val
  let g := s.seg n
  if g.surveyOut && s.twin.onMove && decide (g.surveySent + 1200000 ≤ s.coreTicks) then
    if g.surveyRetry < 2 then
      let s1 := s.modSeg n (fun g => { g with surveyRetry := g.surveyRetry + 1, surveyOut := false })
      .next (if g.phase = .survey then s1.surveyNext n else s1)
    else .next (if g.phase = .survey then s.surveyOpen n else s.surFails n)
  else .next s

/-- SUR_REQUEST_RECEIVE (R353, R480): a standby, or a contender in Listen, consumes an OP 0x03 while it has no hop name from that
side, answers OP 0x02 under its name, and forwards every other request.  TURN is a free value, and KIND, AXES and FWD_LAT of its response are the
model's (log 78). -/
def execSurRequestReceive (f : RxFrame) (s : State) : Result :=
  let n := f.port.val / 2
  let r := s.rx f
  match r with
  | .ok h pl =>
    let g := s.seg n
    let op := (byteAt pl 0).toNat
    let hop := (byteAt pl 1).toNat
    let own := if h.dir then g.ownHopB else g.ownHopA
    if h.kind = tSur ∧ h.len = 4 ∧ (s.twin.standby = true ∨ s.opening.phase = .listen) ∧ ((op = 3 ∧ own = 0) ∨ (op = 2 ∧ own = hop)) then
      let s1 := ((s.seeLoop f).countRx f.port.val r).modSeg n (fun g =>
        if op = 3 then (if h.dir then { g with ownHopB := hop } else { g with ownHopA := hop }) else g)
      let answer := [BitVec.ofNat 8 (0x80 + op), BitVec.ofNat 8 hop, 0, 4] ++ be 6 Config.serial.toNat ++ [0, 0]
        ++ be 4 (Config.freeNat s.freeCtr % 200001) ++ be 4 5000 ++ [0, 0, 0, 0]
      .next ((s1.useFree 1).sendFrame (2 * n + b2n (!s.isBlack))
        (sealFrame { kind := tSur, dir := true, seg := n, src := 0, slotM := h.slotM, slotN := h.slotN, cyc := h.cyc, len := 6 } answer))
    else .next (((s.relay f).seeLoop f).countRx f.port.val r)
  | _ => .next (((s.relay f).seeLoop f).countRx f.port.val r)

end Sys2Proof.Machine
end

