-- ==== Sys2Proof/Machine/Opening.lean ====
section
/-! DEFINITION. The Opening (spec/03_futhes_slot_train.md R116 to R121, Table SLT-5; spec/08_line_time_and_runahead.md R83). -/

namespace Sys2Proof.Machine

/-- A schedule under the segment parameters that an Opening puts in force (Table SLT-2). -/
def State.overlay (s : State) (n : Nat) (c : Schedule) : Schedule :=
  let v (base i : Nat) (old : Nat) : Nat :=
    match s.boot.pendingNet.find? (fun (p : Nat × Int) => decide (p.1 = base + i * 4096)) with
    | none => old
    | some p => p.2.toNat
  { c with
    period := v 0x07300001 0 c.period, staticSlots := v 0x07200001 n c.staticSlots, slotLen := v 0x07200002 n c.slotLen
    headSlots := v 0x07200003 n c.headSlots, minislots := v 0x07200004 n c.minislots, minislotLen := v 0x07200005 n c.minislotLen
    wCode := v 0x07200006 n c.wCode, guardLen := v 0x07200007 n c.guardLen }

/-- The held network parameters take effect (Table CMD-1). -/
def State.applyNet (s : State) : State :=
  let s1 := (List.range 8).foldl (fun s n =>
    if s.boot.pendingNet = [] then s
    else s.modSeg n (fun g => match g.pending with
      | some c => { g with pending := some (s.overlay n c) }
      | none => { g with sched := s.overlay n g.sched })) s
  let s2 := s1.boot.pendingNet.foldl (fun s (p : Nat × Int) => s.setPar p.1 p.2) s1
  State.checkSection { s2 with boot := { s2.boot with pendingNet := [] } }

/-- The uplinks of a channel at an Opening: the next frame of each node is its first, and no axis has missed one yet (R308). -/
def Channel.openUplinks (c : Channel) (k : Nat) : Channel :=
  { c with axes := c.axes.map (fun p => (p.1, { p.2 with
      lastSeq := none, lastValid := 0, lastArrival := k, lastCount := none, vH := none, vHOk := false, invalidRun := 0 })) }

/-- The Opening starts with Listen: nothing is sent, and the ports of the active segments leave electrical idle. -/
def State.beginOpening (s : State) : State :=
  let s1 := s.applyNet
  let s2 := (List.range 16).foldl (fun s p =>
    s.modPort p (fun x => { x with idle := !(s.segActive (p / 2) && decide (s.parN 0x07000001 p ≠ 0)) })) s1
  let s3 := (List.range 8).foldl (fun s n => s.modSeg n (fun g =>
    { g with phase := .off, ownHopA := 0, ownHopB := 0, loopSide := 0, lastCsf := none, lastBeacon := none })) s2
  { s3 with
    saf := { s3.saf with p := s3.saf.p.openUplinks 0, h := s3.saf.h.openUplinks 0 }
    opening := { phase := .listen, since := s.coreTicks, claims := 0, periods := 0, joinWanted := false }
    twin := { s3.twin with onMove := false, standby := false }
    cyc := { s3.cyc with running := false } }

/-- NET_OPENING (0x0701). -/
def execNetOpening (c : CmdCtx) (s : State) : Result :=
  s.host_ c { op := 0x0701, need := roleAdmin } true (fun s =>
    if !s.allDisabled then .refuse stNotStopped []
    else if s.saf.silent || s.saf.endgame.isSome then .refuse stState []
    else if s.boot.openCtx.isSome then .refuse stBusy []
    else
      let s1 := s.beginOpening
      .ok { s1 with boot := { s1.boot with openCtx := some c } } stAccepted [])

/-- The Listen time in core ticks. -/
def State.listenTime (s : State) : Nat := if s.isBlack then 60000000 else 20000000

/-- LISTEN_END (Table SLT-5). -/
def execListenEnd (s : State) : Result :=
  whenB (decide (s.opening.phase = .listen) && decide (s.opening.since + s.listenTime ≤ s.coreTicks)) s
    { s with opening := { s.opening with phase := .claim, since := s.coreTicks, claims := 0, periods := 0 } }

/-- The CLM payload (R78).  CLAIMS counts the claim that carries it (log 156). -/
def State.clmPayload (s : State) : List Byte :=
  be 8 s.ownKey ++ be 4 (s.opening.claims + 1) ++ [2, BitVec.ofNat 8 (b2n s.boot.twinPresent * 128), 0, 0]

/-- CLAIM_PERIOD (R116, R118).  No cycle runs yet: CYCLE is 0 (log 156). -/
def execClaimPeriod (s : State) : Result :=
  let pl := s.clmPayload
  let h : Hdr := { kind := tClm, seg := 0, slotM := true, slotN := 0, cyc := 0, len := 4 }
  let s1 := (List.range 8).foldl (fun s n => if s.segActive n then (s.sendHead n false h pl).sendHead n true h pl else s) s
  whenB (decide (s.opening.phase = .claim) && decide (s.opening.since + s.opening.periods * 100000 ≤ s.coreTicks) && decide (s.opening.periods < 50)) s
    { s1 with opening := { s1.opening with claims := inc32 s1.opening.claims, periods := s1.opening.periods + 1 } }

/-- The chip becomes standby: it originates nothing, drives no FBn_C (R123, R375) and asks to join (R116, R362). -/
def State.becomeStandby (s0 : State) : State :=
  let s := s0.driveClocks false
  { s with opening := { s.opening with phase := .standby, joinWanted := true }, twin := { s.twin with standby := true, onMove := false } }

/-- CLM_RECEIVE (R117). -/
def execClmReceive (f : RxFrame) (s0 : State) : Result :=
  let s := s0.relay f
  let r := s.rx f
  let s1 := (s.seeLoop f).countRx f.port.val r
  match r with
  | .ok h pl =>
    whenB (decide (h.kind = tClm) && decide (s.opening.phase = .listen ∨ s.opening.phase = .claim)
      && decide (field pl 0 8 % 562949953421312 < s.ownKey)) s1 s1.becomeStandby
  | _ => .next s1

/-- CLAIM_END (R116): after 50 claim periods the contender heads the segments. -/
def execClaimEnd (s : State) : Result :=
  let s1 : State := { s with
    opening := { s.opening with phase := .segments, since := s.coreTicks }
    twin := { s.twin with onMove := true, standby := false }
    cyc := { s.cyc with running := false, cycle := 0 } }
  whenB (decide (s.opening.phase = .claim) && decide (50 ≤ s.opening.periods) && decide (s.opening.since + 5000000 ≤ s.coreTicks)) s
    ((List.range 8).foldl (fun s n => if s.segActive n then s.beginSurvey n else s) (s1.driveClocks true))

/-- The nodes that own a slot of a segment. -/
def State.owners (s : State) (n : Nat) : List Nat := ((s.sched n).records.map (fun (r : SlotRec) => r.node)).dedup

/-- Every active segment is through its Opening. -/
def State.segmentsDone (s : State) : Bool :=
  (List.range 8).all (fun n => !s.segActive n || decide ((s.seg n).phase = .run ∨ (s.seg n).phase = .off ∨ (s.seg n).phase = .test))

/-- The end of the Opening: every power group starts with its full energy (R277), and NET_OPENING completes. -/
def State.openingDone (s : State) : State :=
  let s1 := (List.range 16).foldl (fun s g => s.setPgroup g { s.pgroup g with e := (s.pgEmax g * 1000000000 : Nat) }) s
  let s2 := s1.cmdDone? s1.boot.openCtx 0x0701 0 stDone
  { s2 with boot := { s2.boot with openCtx := none }, opening := { s2.opening with phase := .idle } }

/-- The last 4 trains of each slot that a node owns brought an accepted frame (R116). -/
def Segment.ownerDone (g : Segment) (node : Nat) : Bool :=
  (g.sched.records.filter (fun (r : SlotRec) => decide (r.node = node))).all (fun (r : SlotRec) => decide (4 ≤ (g.imageAt r).run))

/-- SYNCHRONISE_END (R116, R120, R299): an owner that has not synchronised is reported (log 145). -/
def execSynchroniseEnd (seg : SegIx) (s : State) : Result :=
  let n := seg.val
  let g := s.seg n
  let own := s.owners n
  let ok := own.all (fun i => g.ownerDone i) && decide (g.syncFrom + 64 ≤ s.cyc.cycle)
  if s.twin.onMove ∧ s.cyc.running = true ∧ g.phase = .synchronise ∧ (ok = true ∨ g.phaseTick + 50000000 ≤ s.coreTicks) then
    let s1 := own.foldl (fun s i =>
      let t := s.modNode n i (fun x => { x with synced := g.ownerDone i })
      if g.ownerDone i then t else t.put (.ownerUnsynced n i)) (s.modSeg n (fun g => { g with phase := .run }))
    let s2 := own.foldl (fun s i => s.writeGroups n i) s1
    .next (if s2.opening.phase = .segments ∧ s2.segmentsDone = true then s2.openingDone else s2)
  else .next s

end Sys2Proof.Machine
end

