-- ==== Sys2Proof/Machine/Keys.lean ====
section
/-! DEFINITION. The key store and its slots in the flash (spec/15_host_and_sessions.md R436 to R438; spec/18_service_without_stopping.md
R486). -/

namespace Sys2Proof.Machine

/-- A role key that has not been set. -/
def noKey (_ : Nat) : List Byte := List.replicate 32 0

/-- The five role keys in order. -/
def KeyStore.all (k : KeyStore) : List Byte := (List.range 5).flatMap (fun i => sget noKey k.keys (i + 1))

/-- A valid slot: the key wrap's integrity check passes (R436). -/
def slotKeys (x : Option KeySlot) : Option (Nat × List Byte) :=
  match x with
  | none => none
  | some y => match keyUnwrap Config.deviceKey y.wrapped with
    | none => none
    | some ks => if ks.length = 160 then some (y.gen, ks) else none

/-- The slot in force: the valid slot with the higher generation; 2 when neither is valid. -/
def KeyStore.force (k : KeyStore) : Nat :=
  match slotKeys (k.slots.getD 0 none), slotKeys (k.slots.getD 1 none) with
  | none, none => 2
  | some _, none => 0
  | none, some _ => 1
  | some a, some b => if a.1 < b.1 then 1 else 0

/-- The generation in force. -/
def KeyStore.gen (k : KeyStore) : Nat :=
  match slotKeys (k.slots.getD k.force none) with
  | none => 0
  | some a => a.1

/-- The key store after both slots have been read (R436, R438). -/
def keyStoreOf (slots : List (Option KeySlot)) : KeyStore :=
  let k : KeyStore := { slots := slots }
  match slotKeys (slots.getD k.force none) with
  | none => { k with default := true }
  | some (_, ks) => { k with keys := sputs noKey [] 1 ((List.range 5).map (fun i => (ks.drop (32 * i)).take 32)) }

/-- The bytes of a key slot in its sector. -/
def keySlotBytes (x : KeySlot) : List Byte := be 4 (x.gen % 4294967296) ++ x.wrapped

def Bank.write (b : Bank) (off : Nat) (data : List Byte) : Bank := { b with flash := sputs (fun _ => 0xFF) b.flash off data }

/-- The five keys are wrapped into the slot not in force, in both banks (R436). -/
def State.writeKeys (s : State) (k : KeyStore) : State :=
  let old := s.host.keys
  let n := if old.force = 0 then 1 else 0
  let slot : KeySlot := { gen := old.gen + 1, wrapped := keyWrap Config.deviceKey k.all }
  let off := 0x1000 + 0x1000 * n
  let bytes := keySlotBytes slot
  let s1 := { s with
    host := { s.host with keys := { k with slots := old.slots.set n (some slot) } }
    boot := { s.boot with bankA := s.boot.bankA.write off bytes, bankB := s.boot.bankB.write off bytes } }
  (s1.put (.flash 0 off bytes)).put (.flash 1 off bytes)

/-- A joining chip without a valid key slot takes the role keys of the on-move chip (R486). -/
def State.takeKeys (s : State) (keys : List (List Byte)) : State :=
  if s.host.keys.default && decide (keys.length = 5) then
    s.writeKeys { s.host.keys with keys := sputs noKey [] 1 keys, default := false }
  else s

/-- The role keys that a chip gives its peer; none under KEYS_DEFAULT. -/
def KeyStore.given (k : KeyStore) : List (List Byte) := if k.default then [] else sgets noKey k.keys 1 5

end Sys2Proof.Machine
end

