-- ==== Sys2Proof/Machine/NetCmd.lean ====
section
/-! DEFINITION. Network commands, activation of schedules, and segments out of service (spec/16_command_set.md Table CMD-3 class
0x07; spec/18_service_without_stopping.md R473 to R481; spec/02_futhes_frames.md R47). -/

namespace Sys2Proof.Machine

/-- An operation of R473 is pending on a segment. -/
def Segment.busy (g : Segment) : Bool :=
  g.activating.isSome || g.admitting.isSome || g.restoring || g.activateAt.isSome || decide (g.remeasure ≠ [])

/-- The segment that a command names. -/
def State.segNamed (s : State) (seg : BitVec 8) : Bool := decide (seg.toNat < 8) && s.segActive seg.toNat

/-- A schedule for the log. -/
def schedBytes (c : Schedule) : List Byte :=
  be 2 c.ver ++ be 1 c.period ++ be 1 c.staticSlots ++ be 2 c.slotLen ++ be 2 c.minislots ++ be 1 c.minislotLen ++ be 1 c.guardLen
    ++ be 1 c.safWd ++ be 1 c.wCode ++ c.records.flatMap (fun (r : SlotRec) =>
      be 1 r.slot ++ be 1 r.mux ++ be 1 r.phase ++ be 1 r.use ++ be 1 r.axis ++ be 1 r.node ++ be 1 r.lenWords)

/-- NET_SCHED_LOAD (0x0702, R36, R95, R476).  Outside Run the layout of the schedule is that of the parameters, those held for the next Opening
with them (R83, R90; log 158). -/
def execNetSchedLoad (c : CmdCtx) (seg : BitVec 8) (sched : Schedule) (s : State) : Result :=
  s.host_ c { op := 0x0702, need := roleAdmin, params := [seg, 0, 0, 0] ++ schedBytes sched } true (fun s =>
    let n := seg.toNat
    if !s.segNamed seg || !scheduleForm sched then .refuse stBadValue []
    else if (s.seg n).busy then .refuse stBusy []
    else if !(if (s.seg n).phase = .run then s.reloadOk n sched else s.planned.layoutFits n sched && s.planned.scheduleOk n sched) then .refuse stSched []
    else if 7 * periodOf sched.period < s.engineLoad then .refuse stLoad []
    else .ok (s.modSeg n (fun g => { g with pending := some sched })) stDone [])

/-- NET_SCHED_ACTIVATE (0x0703, R477).  A standby sends no frame for it; it takes its own copy when the CSF carries the new version (R473). -/
def execNetSchedActivate (c : CmdCtx) (seg : BitVec 8) (s : State) : Result :=
  s.host_ c { op := 0x0703, need := roleAdmin, params := [seg] } true (fun s =>
    let n := seg.toNat
    if !s.segNamed seg then .refuse stBadValue []
    else if (s.seg n).phase ≠ .run then .refuse stState []
    else if (s.seg n).busy then .refuse stBusy []
    else if s.twin.standby then .quiet s
    else .ok (s.modSeg n (fun g => { g with activating := some c, remeasure := g.measureAll })) stAccepted [])

/-- The nodes whose record or delays change under schedule c (R477 step 3). -/
def Segment.changed (g : Segment) (c : Schedule) : List Nat :=
  (g.known.filter (fun (p : Nat × NodeSt) =>
    decide ((c.records.filter (fun (r : SlotRec) => decide (r.node = p.1))) ≠ (g.sched.records.filter (fun (r : SlotRec) => decide (r.node = p.1))))
      || decide (p.2.schNorm ≠ p.2.delayNorm) || decide (p.2.schFold ≠ p.2.delayFold))).map (fun (p : Nat × NodeSt) => p.1)

/-- The SCH frames of the pending schedule wait for the head run; ACTIVATE is 2 cycles after the last of them, one a cycle. -/
def State.planActivate (s : State) (n : Nat) : State :=
  let g := s.seg n
  let c := g.pending.getD g.sched
  let nodes := g.changed c
  let act := s.cyc.cycle + nodes.length + 3
  s.modSeg n (fun g => { g with activateAt := some act, schQ := nodes.map (fun i => (i, s.schOf n c act i)) })

/-- REMEASURE_COMPLETE (R477 steps 2 to 4). -/
def execRemeasureComplete (seg : SegIx) (s : State) : Result :=
  let n := seg.val
  let g := s.seg n
  let due := g.activating.isSome || g.admitting.isSome || g.restoring
  if s.twin.onMove && s.segRuns n && due && decide (g.remeasure = []) && !g.surveyOut && g.activateAt.isNone then
    let c := g.pending.getD g.sched
    if !s.reloadOk n c then .next (s.endActivation n stSched)
    else .next ((s.modSeg n (fun g => { g with pending := some { c with ver := (g.sched.ver + 1) % 65536 } })).planActivate n)
  else .next s

/-- The admitted node enters service (R481 step 4, 0x0704). -/
def State.admitNode (s : State) (n a : Nat) (serial : BitVec 48) : State :=
  let s1 := s.modSeg n (fun g => { g with admitReq := g.admitReq.filter (fun (q : AdmitReq) => decide (q.serial ≠ serial)) })
  ((s1.modNode n a (fun x => { x with synced := true, removed := false })).writeGroups n a).raise 0x0704 0 n (BitVec.ofNat 8 a :: be 6 serial.toNat)

/-- The schedule in force changes at ACTIVATE; the scheduled Λ_N is the one measured (R97, R100). -/
def State.activate (s : State) (n : Nat) : State :=
  let g := s.seg n
  let s1 := (g.known.foldl (fun s (p : Nat × NodeSt) => s.noteSch n p.1) s).modSeg n (fun g =>
    { g with sched := g.pending.getD g.sched, pending := none, activateAt := none
             lamN := if g.lamMeas = 0 then g.lamN else g.lamMeas, drift := 0
             nodes := g.nodes.filter (fun (p : Nat × NodeSt) => !p.2.removed) })
  let s2 := if g.restoring then (s1.queueSupB n (pathSet (b2n s1.isBlack) s1.cyc.cycle)).unfold n else s1
  let s3 := (match g.admitting with
    | none => s2
    | some (a, serial, _) => s2.admitNode n a serial)
  (if g.restoring then (s3.modSeg n (fun g => { g with restoring := true })).endActivation n stDone |>.modSeg n (fun g => { g with restoring := false })
    else s3.endActivation n stDone).setTimings.checkSection

/-- SCHEDULE_ACTIVATE (R80, R477, R475). -/
def execScheduleActivate (seg : SegIx) (s : State) : Result :=
  let n := seg.val
  let g := s.seg n
  match g.activateAt with
  | none => .next s
  | some a =>
    if !s.twin.onMove || !s.cyc.running || decide (s.cyc.cycle < a) || decide (g.schQ ≠ []) then .next s
    else if g.phase = .scheduleLoad then
      .next (s.modSeg n (fun g => { g with phase := .synchronise, phaseTick := s.coreTicks, syncFrom := s.cyc.cycle, activateAt := none }))
    else .next (s.activate n)

/-- NET_NODE_ADMIT (0x0704, R473, R481). -/
def execNetNodeAdmit (c : CmdCtx) (seg : BitVec 8) (addr : BitVec 8) (serial : BitVec 48) (s : State) : Result :=
  s.host_ c { op := 0x0704, need := roleAdmin, params := [seg, addr] ++ be 6 serial.toNat } true (fun s =>
    let n := seg.toNat
    let a := addr.toNat
    let g := s.seg n
    if !s.segNamed seg || decide (a = 0 ∨ 127 < a) || decide ((g.node a).hopA ≠ 0) then .refuse stBadValue []
    else if g.phase ≠ .run ∨ g.admitReq.length ≠ 1 then .refuse stState []
    else if g.busy then .refuse stBusy []
    else if !(match g.pending with
      | none => false
      | some p => p.records.any (fun (r : SlotRec) => decide (r.node = a))) then .refuse stState []
    else .ok (s.modSeg n (fun g =>
      { g with admitting := some (a, serial, c), remeasure := [(a, false), (a, true)] ++ g.measureAll })) stAccepted [])

/-- The monitored groups of a list of axes are in STO (Table SVC-1). -/
def State.groupsSto (s : State) (axes : List Nat) : Bool :=
  axes.all (fun a => decide (s.groupState (s.parN 0x08200001 a) = 2))

/-- NET_NODE_REMOVE (0x0705, R478). -/
def execNetNodeRemove (c : CmdCtx) (seg : BitVec 8) (addr : BitVec 8) (s : State) : Result :=
  s.host_ c { op := 0x0705, need := roleAdmin, params := [seg, addr] } true (fun s =>
    let n := seg.toNat
    let a := addr.toNat
    let axes := s.nodeAxes n a
    if !s.segNamed seg || decide (((s.seg n).node a).hopA = 0) || ((s.seg n).node a).removed then .refuse stBadValue []
    else if !axes.all (fun i => decide (s.axState i = .disabled)) then .refuse stNotStopped []
    else if !s.groupsSto (axes.filter (fun i => s.monitored i)) then .refuse stState []
    else
      let s1 := axes.foldl (fun s i => s.modLife i (fun l => { l with parked := false })) s
      let s2 := s1.modNode n a (fun x => { x with removed := true, synced := false, groupsRead := [] })
      .ok (s2.setPar (0x07300004 + n * 4096) 0) stDone [])

/-- NET_RING_RESTORE (0x0706, R479). -/
def execNetRingRestore (c : CmdCtx) (seg : BitVec 8) (s : State) : Result :=
  s.host_ c { op := 0x0706, need := roleEngineer, params := [seg] } true (fun s =>
    let n := seg.toNat
    if !s.segNamed seg then .refuse stBadValue []
    else if (s.seg n).phase ≠ .run ∨ (s.seg n).folded = false then .refuse stState []
    else if (s.seg n).busy || (s.seg n).restoreAt.isSome then .refuse stBusy []
    else .ok (s.measuredRestore n (some c)) stAccepted [])

/-- NET_MDIO (0x0707, R47): one frame on the bus; `answer` is what a read returns. -/
def execNetMdio (c : CmdCtx) (bus op phy devad : BitVec 8) (reg data answer : BitVec 16) (s : State) : Result :=
  s.hostAt c (.netMdio c bus op phy devad reg data answer) { op := 0x0707, need := roleEngineer, expert := true, logged := false } true (fun s =>
    if 1 < bus.toNat ∨ 3 < op.toNat ∨ 31 < phy.toNat ∨ (op.toNat < 2 ∧ 31 < reg.toNat) ∨ (2 ≤ op.toNat ∧ 31 < devad.toNat) then .refuse stBadValue []
    else .ok (s.put (.mdio bus.toNat op.toNat phy.toNat devad.toNat reg.toNat data.toNat)) stDone
      (be 2 (if op.toNat % 2 = 0 then answer.toNat else data.toNat)))

/-- NET_MEASURE (0x0708, R119): the reply follows the response. -/
def execNetMeasure (c : CmdCtx) (seg port hop : BitVec 8) (s : State) : Result :=
  s.hostAt c (.netMeasure c seg port hop) { op := 0x0708, need := roleEngineer, logged := false } true (fun s =>
    let n := seg.toNat
    if !s.segNamed seg || decide (1 < port.toNat) || decide (hop = 0) then .refuse stBadValue []
    else if (s.seg n).phase ≠ .run ∨ s.trimmed 4 = true then .refuse stState []
    else if (s.seg n).measure.isSome then .refuse stBusy []
    else .quiet (s.modSeg n (fun g => { g with measure := some (c, hop.toNat, decide (port = 1)) })))

/-! Segment test (R474, R475). -/

/-- The axes with a FBK or SAF slot on a segment. -/
def State.segAxes (s : State) (n : Nat) : List Nat :=
  (((s.sched n).records.filter (fun (r : SlotRec) => decide (r.use = useFbk ∨ r.use = useSaf))).map (fun (r : SlotRec) => r.axis)).dedup

/-- One entry for a node of the segment becomes HELD. -/
def State.holdForTestOne (n : Nat) (s : State) (x : MoveItem) : State :=
  if x.act = actNode ∧ x.e.seg.toNat = n then
    let stop := decide (x.e.grp ≠ 0xFF)
    match x.state with
    | .armed => s.setMove { x with state := .held, passed := false, heldStop := stop, blind := !s.line.valid }
    | .dispatched | .committed =>
      (s.cancelMove x).setMove { x with state := .held, passed := false, heldStop := stop, blind := !s.line.valid, due := none, sent := false }
    | _ => s
  else s

/-- The entries for nodes of the segment become HELD. -/
def State.holdForTest (s : State) (n : Nat) : State := s.moves.items.foldl (State.holdForTestOne n) s

/-- SVC_SEG_TEST (0x0F02, R473, R474). -/
def execSvcSegTest (c : CmdCtx) (seg mode : BitVec 8) (duration : BitVec 16) (s : State) : Result :=
  s.host_ c { op := 0x0F02, need := roleEngineer, params := [seg, mode] ++ be 2 duration.toNat } true (fun s =>
    let n := seg.toNat
    let axes := s.segAxes n
    if !s.segNamed seg || decide (mode ≠ 1 ∧ mode ≠ 2) || decide (duration = 0 ∨ 3600 < duration.toNat) then .refuse stBadValue []
    else if (s.seg n).test.isSome then .refuse stBusy []
    else if !axes.all (fun i => decide (s.axState i = .disabled)) then .refuse stNotStopped []
    else if (s.twin.onMove && decide ((s.seg n).phase ≠ .run)) || !s.groupsSto axes
        || (decide (mode = 2) && decide (s.parN 0x07000001 (2 * n) = 1 ∨ s.parN 0x07000001 (2 * n + 1) = 1)) then .refuse stState []
    else .ok ((s.modSeg n (fun g =>
      { g with phase := .test
               test := some ({ mode := mode.toNat, endTick := s.coreTicks + duration.toNat * 1000000000, ctx := c } : SegTest) })).holdForTest n) stAccepted [])

/-- SEG_TEST_END (R474, R475). -/
def execSegTestEnd (seg : SegIx) (errors : BitVec 32) (s : State) : Result :=
  let n := seg.val
  match (s.seg n).test with
  | none => .next s
  | some t =>
    if s.coreTicks < t.endTick then .next s
    else
      let s1 := (s.modSeg n (fun g => { g with test := none, phase := .run })).cmdDone t.ctx 0x0F02 n stDone (be 4 errors.toNat)
      .next (if s1.twin.onMove then s1.beginSurvey n else s1)

end Sys2Proof.Machine
end

