-- ==== Sys2Proof/Machine/Scoresheet.lean ====
section
/-! DEFINITION. The Scoresheet: probes, channels, trigger units, captures, the trace memory and its commands
(spec/13_scoresheet.md).  Channels 0 to 63 are CH0 to CH63, and 64 to 71 are FC0 to FC7. -/

namespace Sys2Proof.Machine

def State.modScs (s : State) (f : Scs → Scs) : State := { s with scs := f s.scs }

/-! Probes (Table SCS-1). -/

/-- Whether a probe ID is in the catalogue. -/
def probeOk (p : Nat) : Bool :=
  let i := p / 16 % 256
  let m := p % 16
  match p / 4096 with
  | 0 => decide (p = 0)
  | 1 => decide (m ≤ 13)
  | 2 => decide (i = 0 ∧ m ≤ 3)
  | 3 => decide (i ≤ 7 ∧ m ≤ 2)
  | 4 => decide (1 ≤ i ∧ i ≤ 127 ∧ m ≤ 7)
  | 5 => decide (i = 0 ∧ m ≤ 4)
  | 6 => decide (i = 0 ∧ m ≤ 2) || decide (16 ≤ i ∧ i ≤ 31 ∧ m ≤ 1)
  | 7 => decide (i ≤ 31 ∧ m ≤ 1)
  | 8 => decide (i ≤ 7 ∧ m = 0)
  | _ => false

/-- An axis probe.  Its reference r_a and v_a are those of the newest published apply cycle (R193, log 176). -/
def State.axisProbe (s : State) (a m : Nat) : Int :=
  let x := s.axis a
  let last := match x.law.newest with
    | none => parkEntry a 0
    | some c => s.sentEntry a c
  match m with
  | 0 => x.obs.raw
  | 1 => x.obs.fpos
  | 2 => x.obs.vHat
  | 3 => x.obs.aHat
  | 4 => s.ctx a 0x1E0
  | 5 => s.ctx a 0x1E1
  | 6 => s.ctx a 0x1E2
  | 7 => last.a.toInt
  | 8 => (match x.law.newest with
    | none => x.prof.r
    | some c => (s.oldRef a c).r)
  | 9 => (match x.law.newest with
    | none => x.prof.v
    | some c => (s.oldRef a c).v)
  | 10 => x.fbk.torque.toInt
  | 11 => x.obs.age
  | 12 => axCode x.life.state
  | _ => x.task.cycles

/-- The value of a probe at the seal of cycle k, and FRESH (R380). -/
def State.probe (s : State) (k p : Nat) : Int × Bool :=
  let i := p / 16 % 256
  let m := p % 16
  match p / 4096 with
  | 1 => (s.axisProbe i m, decide ((s.axis i).task.doneCycle = some k))
  | 2 => (if m = 0 then s.linePos else if m = 1 then s.line.obs.vHat else if m = 2 then s.line.obs.aHat else s.line.disc, false)
  | 3 => (if m = 0 then ((s.seg i).lamMeas / 10 : Nat) else if m = 1 then ((s.seg i).edgesNow : Nat) else ((s.seg i).missNow : Nat), false)
  | 4 => (((s.seg m).node i).lastDelta, false)
  | 5 => (if m = 0 then (s.fld.fiLevels.toNat : Int) else if m = 1 then ((byteAt s.fld.up 6).toNat : Int) else ((field s.fld.up (10 + 2 * m) 2 : Nat) : Int), false)
  | 6 => (if i = 0 then (if m = 0 then (s.arb.pEst : Int) else if m = 1 then s.arb.tMax else (s.arb.inForce : Int))
      else if m = 0 then (s.pgroup (i - 16)).e / 1000 else ((s.pgroup (i - 16)).pRun : Int), false)
  | 7 => (if m = 0 then ((s.saf.p.group i).code : Int) else ((s.saf.h.group i).code : Int), false)
  | 8 => (((s.engine i).cycBusy : Nat), false)
  | _ => (0, false)

/-- The cycle-rate sample of cycle k, stamped with the first tick that starts at or after the seal (R380). -/
def State.scsSeal (s : State) (k : Nat) : State :=
  let vals := (List.range 64).map (fun c => let p := s.parN 0x0A100001 c; if p = 0 then (0, false) else s.probe k p)
  let s1 := (List.range 8).foldl (fun s e => s.modEngine e (fun x => { x with cycBusy := 0 })) s
  s1.modScs (fun x => { x with cycSample := some ((s.now + 999) / 1000 * 1000, k, vals) })

/-! Channels (R383, R390, R392). -/

def State.chanWeight (s : State) (c : Nat) : Nat :=
  if c < 64 then (if s.parN 0x0A100001 c = 0 then 0 else s.parN 0x0A100002 c)
  else if s.parN 0x0A200001 (c - 64) = 0xFF then 0 else s.parN 0x0A200003 (c - 64)

def State.chanReduce (s : State) (c : Nat) : Nat := if c < 64 then s.parN 0x0A100003 c else s.parN 0x0A200004 (c - 64)

def State.weights (s : State) : Nat := ((List.range 72).map (fun c => s.chanWeight c)).sum

/-- L_i. -/
def State.ringLen (s : State) (c : Nat) : Nat := if s.weights = 0 then 0 else 16 * (524032 * s.chanWeight c / (16 * s.weights))

/-- What a ring counts: samples, or intervals of 2 entries. -/
def State.ringUnits (s : State) (c : Nat) : Nat := if s.chanReduce c = 0 then (s.schan c).len else (s.schan c).len / 2

/-- pre_i. -/
def State.preLen (s : State) (c : Nat) : Nat := s.ringUnits c * s.parN 0x0A000001 0 / 100

/-- A trace entry (Table SCS-2). -/
def traceEntry (v : Int) (fresh mn mx gap : Bool) : BitVec 64 :=
  BitVec.ofNat 64 ((v % 281474976710656).toNat * 65536 + flagWord [(15, true), (14, fresh), (13, mn), (12, mx), (11, gap)])

/-- The rank of a channel's entries at the write port (R384). -/
def chanRank (c : Nat) : Nat := if 64 ≤ c then c - 63 else c + 9

def State.queueWrite (s : State) (rank index : Nat) (e : BitVec 64) : State :=
  s.modScs (fun x => { x with writes := x.writes ++ [({ rank := rank, index := index, entry := e } : ScsWrite)] })

/-- A unit of a channel's ring is complete: entries from its place on, and the counts. -/
def State.keepUnit (s : State) (c : Nat) (es : List (BitVec 64)) : State :=
  let x := s.schan c
  let units := s.ringUnits c
  let width := if s.chanReduce c = 0 then 1 else 2
  let at_ := x.base + x.write * width
  let s1 := (es.zipIdx).foldl (fun s (p : BitVec 64 × Nat) => s.queueWrite (chanRank c) (at_ + p.2) p.1) s
  let post := if x.capIdx = 0xFFFFFFFF then x.post else x.post + 1
  s1.setSchan c { x with
    write := if units = 0 then 0 else (x.write + 1) % units, samples := x.samples + 1, post := post
    stopped := decide (x.capIdx ≠ 0xFFFFFFFF) && decide (units - s.preLen c ≤ post) }

/-- A sample of an enabled channel. -/
def State.takeSample (s : State) (c : Nat) (v : Int) (fresh : Bool) : State :=
  let x := { s.schan c with last := v, lastFresh := true }
  let n := s.chanReduce c
  if x.stopped || decide (x.len = 0) then s.setSchan c x
  else if n = 0 then (s.setSchan c x).keepUnit c [traceEntry v fresh false false false]
  else
    let y := { x with
      rmin := if x.rcount = 0 then v else min x.rmin v
      rmax := if x.rcount = 0 then v else max x.rmax v
      rcount := x.rcount + 1 }
    if y.rcount < n then s.setSchan c y
    else
      let s1 := s.setSchan c { y with rcount := 0 }
      if s.trimmed 3 then
        (s1.modScs (fun q => { q with gaps := true, gapRecs := inc32 q.gapRecs })).keepUnit c [traceEntry 0 false false false true]
      else s1.keepUnit c [traceEntry y.rmin false true false false, traceEntry y.rmax false false true false]

/-- What a fast channel reads at the end of a tick (R382). -/
def State.fastValue (s : State) (f : Nat) : Int :=
  let p := s.fb (s.parN 0x0A200001 f)
  if s.parN 0x0A200002 f = 0 then p.count else (flagWord [(3, p.a), (2, p.b), (1, p.z), (0, p.c)] : Nat)

/-- The capture sample of a channel: the latest, or the interval that contains it (R389, R390). -/
def State.capChannel (s : State) (c : Nat) : State :=
  let x := s.schan c
  let units := s.ringUnits c
  if x.len = 0 then s
  else
    let inside := decide (s.chanReduce c ≠ 0 ∧ 0 < x.rcount)
    let kept := if inside ∨ x.samples = 0 then x.samples else x.samples - 1
    let pre := min (s.preLen c) kept
    let post := if inside ∨ x.samples = 0 then 0 else 1
    s.setSchan c { x with capIdx := kept % units, preCnt := pre, post := post, stopped := decide (units - s.preLen c ≤ post) }

/-! Trigger units (R385, R386). -/

/-- A channel unit judges a sample: the unit after it, and whether it fires. -/
def TrigUnit.judge (x : TrigUnit) (cond pol : Nat) (l1 l2 hyst : Int) (t1 t2 : Nat) (v : Int) : TrigUnit × Bool :=
  if cond = 2 ∧ pol = 2 then
    let up := if x.beyond then !decide (v < l1 - hyst) else decide (l1 ≤ v)
    let dn := if x.beyondLow then !decide (v > l1 + hyst) else decide (v ≤ l1)
    ({ x with seen := true, beyond := up, beyondLow := dn }, x.seen && ((up && !x.beyond) || (dn && !x.beyondLow)))
  else
    let past := if pol = 1 then decide (v ≤ l1) else decide (l1 ≤ v)
    let back := if pol = 1 then decide (v > l1 + hyst) else decide (v < l1 - hyst)
    let hit2 := if pol = 1 then decide (v ≤ l2) else decide (l2 ≤ v)
    let ends := x.beyond && back
    let begins := !x.beyond && past
    let now := begins || (x.beyond && !back)
    let n := if begins then 1 else if now then x.n + 1 else x.n
    let before := x.reached && !begins
    let reached := before || (now && hit2)
    let done := x.done && !begins
    let fire := match cond with
      | 1 => past
      | 2 => begins
      | 3 => ends && decide (t1 ≤ n ∧ n ≤ t2)
      | 4 => (ends && decide (n < t1) && !done) || (now && decide (n = t2 + 1))
      | 5 => (ends && !reached && !done) || (now && decide (0 < t1 ∧ n = t1 + 1) && !reached)
      | 6 => now && decide (n = t1 + 1)
      | 7 => now && hit2 && !before && decide (n - 1 < t1)
      | 8 => now && hit2 && !before && decide (t1 < n - 1)
      | _ => false
    ({ x with seen := true, beyond := now, n := n, reached := reached, done := done || (fire && now) }, fire)

/-- A pin unit at a filtered edge (R386): stamps in ns, widths in 5 ns.  A level that began or ended in a tick holds in it, however short. -/
def TrigUnit.pinEdge (x : TrigUnit) (cond : Nat) (t1 t2 : Nat) (active : Bool) (stamp : Int) : TrigUnit :=
  if active ∧ x.beyond = false then
    let y := { x with beyond := true, edgeStamp := stamp, done := false }
    if cond = 1 ∨ cond = 2 then { y with fired := true, fireStamp := some stamp } else y
  else if !active ∧ x.beyond = true then
    let n := ((stamp - x.edgeStamp) / 5).toNat
    let y := { x with beyond := false }
    if cond = 1 then { y with fired := true, fireStamp := some (max (stamp / 1000 * 1000) x.edgeStamp) }
    else if cond = 3 ∧ t1 ≤ n ∧ n ≤ t2 then { y with fired := true, fireStamp := some stamp }
    else if cond = 4 ∧ n < t1 then { y with fired := true, fireStamp := some stamp }
    else if cond = 4 ∧ t2 < n ∧ x.done = false then { y with fired := true, fireStamp := some (x.edgeStamp + 5 * (t2 + 1)), done := true }
    else if cond = 6 ∧ t1 < n ∧ x.done = false then { y with fired := true, fireStamp := some (x.edgeStamp + 5 * (t1 + 1)), done := true }
    else y
  else x

/-- A pin unit whose time limit passes before `e`, or whose level holds. -/
def TrigUnit.pinTick (x : TrigUnit) (cond : Nat) (t1 t2 : Nat) (t e : Int) : TrigUnit :=
  let lim := x.edgeStamp + 5 * (((if cond = 4 then t2 else t1) + 1 : Nat) : Int)
  if cond = 1 ∧ x.beyond = true ∧ x.edgeStamp < e then { x with fired := true, fireStamp := some (max t x.edgeStamp) }
  else if (cond = 4 ∨ cond = 6) ∧ x.beyond = true ∧ x.done = false ∧ lim < e then { x with fired := true, fireStamp := some lim, done := true }
  else x

def State.unitSrc (s : State) (u : Nat) : Nat := s.parN 0x0A300001 u
def State.unitCond (s : State) (u : Nat) : Nat := s.parN 0x0A300002 u
def State.unitT1 (s : State) (u : Nat) : Nat := s.parN 0x0A300007 u
def State.unitT2 (s : State) (u : Nat) : Nat := s.parN 0x0A300008 u

/-- One unit judges a tick [t, t + 1000): the state after, and whether its event lies in it. -/
def State.judgeUnit (s : State) (t : Int) (u : Nat) : State × Bool :=
  let src := s.unitSrc u
  let cond := s.unitCond u
  let x := s.tunit u
  if src < 72 then
    let c := s.schan src
    if c.lastFresh then
      let r := x.judge cond (s.parN 0x0A300003 u) (s.par 0x0A300004 u) (s.par 0x0A300005 u) (s.par 0x0A300006 u) (s.unitT1 u) (s.unitT2 u) c.last
      (s.setTunit u { r.1 with fireStamp := none }, r.2)
    else (s, false)
  else
    let y := if src < 0x58 then x.pinTick cond (s.unitT1 u) (s.unitT2 u) t (t + 1000) else x
    let due := y.fired && (match y.fireStamp with
      | none => true
      | some f => decide (f < t + 1000))
    (s.setTunit u (if due then { y with fired := false } else y), due)

/-- The units that judge in a tick [t, t + 1000): the state after, and the units whose event lies in it. -/
def State.judgeUnits (s : State) (t : Int) : State × List Nat :=
  (List.range 8).foldl (fun (q : State × List Nat) u =>
    let r := q.1.judgeUnit t u
    (r.1, if r.2 then q.2 ++ [u] else q.2)) (s, [])

/-! Fire records (R391, Table SCS-4). -/

/-- The four entries of a fire record. -/
def State.fireEntries (s : State) (kind : Nat) (t : Int) (mask : Nat) (forced : Bool) : List (BitVec 64) :=
  let first := (List.range 8).find? (fun u => nbit mask u)
  let peer := (List.range 8).any (fun u => nbit mask u && decide (s.unitSrc u = 0x58))
  let ofs : Nat := match first with
    | none => 0xFFFF
    | some u => if 0x50 ≤ s.unitSrc u ∧ s.unitSrc u ≤ 0x53 then
        (match (s.tunit u).fireStamp with
        | none => 0xFFFF
        | some f => ((f - t) % 65536).toNat)
      else 0xFFFF
  let e0 := t.toNat / 1000000000 * 65536 + kind * 256 + mask
  let e1 := t.toNat % 1000000000 * 4294967296 + (first.getD 0xFF) * 16777216 + flagWord [(23, forced), (22, peer), (21, s.scs.preShort)]
  let e2 := s.scs.sealCycle * 65536
  let e3 := ofs * 281474976710656
  [e0, e1, e2, e3].map (BitVec.ofNat 64)

def State.fireRecord (s : State) (i kind : Nat) (t : Int) (mask : Nat) (forced : Bool) : State :=
  (s.fireEntries kind t mask forced).zipIdx.foldl (fun s (p : BitVec 64 × Nat) => s.queueWrite 0 (4 * i + p.2) p.1) s

/-- The output pins that mark an event (R393): 0 capture, 1 arm. -/
def State.markPins (s : State) (event : Nat) : State :=
  (List.range 4).foldl (fun s p =>
    if s.parN 0x0A400001 p = 1 ∧ s.parN 0x0A400002 p = event then
      s.modScs (fun x => { x with pinOut := x.pinOut ||| BitVec.ofNat 4 (2 ^ p)
                                  pinEnd := sput (fun _ => 0) x.pinEnd p (s.coreTicks + s.parN 0x0A400003 p * 1000) })
    else s) s

/-- Whether a channel holds less than its pre-trigger part (R389). -/
def State.preIsShort (s : State) : Bool :=
  (List.range 72).any (fun c => decide (0 < (s.schan c).len) && decide ((s.schan c).preCnt < s.preLen c))

/-- The capture at tick t (R389, R390, R393). -/
def State.capture (s : State) (t : Int) (mask : Nat) (forced : Bool) : State :=
  let s1 := (List.range 72).foldl (fun s c => s.capChannel c) s
  let short := s1.preIsShort
  let s2 := s1.modScs (fun x =>
    { x with phase := .post, preShort := short, forced := forced, fireMask := mask, first := (List.range 8).find? (fun u => nbit mask u)
             capTick := some t, captures := inc32 x.captures })
  let s3 := (s2.fireRecord 0 1 t mask forced).markPins 0
  if s3.parN 0x0A000004 0 = 1 ∧ s3.boot.twinPresent = true then
    s3.put (.twin (.trigger { sec := BitVec.ofNat 48 (t.toNat / 1000000000), ns := BitVec.ofNat 32 (t.toNat % 1000000000) } (BitVec.ofNat 8 mask)))
  else s3

/-- The firings of tick t act on the capture (R388 to R391). -/
def State.actFires (s : State) (t : Int) (hits : List Nat) : State :=
  let units := s.parN 0x0A000003 0
  let on := hits.filter (fun u => nbit units u)
  let mask := (on.map (fun u => 2 ^ u)).sum
  let master := s.parN 0x0A000002 0
  match s.scs.phase with
  | .waitMaster =>
    match s.scs.forceCtx with
    | some c => ((s.modScs (fun x => { x with forceCtx := none })).capture t 0 true).replyLater c 0x0A02 stDone []
    | none =>
      if hits.contains master then ((s.fireRecord 1 2 t (2 ^ master) false).modScs (fun x => { x with phase := .waitFire })).markPins 1 else s
  | .waitFire =>
    match s.scs.forceCtx with
    | some c => ((s.modScs (fun x => { x with forceCtx := none })).capture t mask true).replyLater c 0x0A02 stDone []
    | none => if mask = 0 then s else s.capture t mask false
  | .post =>
    if mask = 0 then s
    else if s.scs.recs < 64 then (s.fireRecord s.scs.recs 3 t mask false).modScs (fun x => { x with recs := x.recs + 1 })
    else s.modScs (fun x => { x with fireOvf := inc32 x.fireOvf })
  | _ => s

/-! The write port (R384). -/

/-- Entries by rank, the earlier first within one. -/
def insertWrite (w : ScsWrite) : List ScsWrite → List ScsWrite
  | [] => [w]
  | x :: xs => if w.rank ≤ x.rank then w :: x :: xs else x :: insertWrite w xs

def State.writePort (s : State) : State :=
  let ws := s.scs.writes.foldr insertWrite []
  s.modScs (fun x =>
    { x with
      trace := (ws.take 72).foldl (fun m w => sput (fun _ => (0 : BitVec 64)) m w.index w.entry) x.trace
      writes := ws.drop 72
      portOvf := add32 x.portOvf (ws.drop 72).length })

/-! Rows. -/

/-- The samples of tick t. -/
def State.sampleTick (s : State) (t : Int) : State :=
  let armed := match s.scs.armTick with
    | none => false
    | some a => decide (a ≤ t)
  let s0 := (List.range 72).foldl (fun s c => if (s.schan c).lastFresh then s.setSchan c { s.schan c with lastFresh := false } else s) s
  let s1 := if armed then
      (List.range 8).foldl (fun s f => if s.parN 0x0A200001 f = 0xFF then s else s.takeSample (64 + f) (s.fastValue f) false) s0
    else s0
  match s1.scs.cycSample with
  | none => s1
  | some (stamp, k, vals) =>
    if stamp ≤ t then
      let s2 := if armed then
          (List.range 64).foldl (fun s c =>
            if s.parN 0x0A100001 c = 0 then s else let v := vals.getD c (0, false); s.takeSample c v.1 v.2) s1
        else s1
      s2.modScs (fun x => { x with cycSample := none, sealCycle := k })
    else s1

/-- SCS_TICK (R380): the tick that has just ended. -/
def execScsTick (s : State) : Result :=
  let t := s.now / 1000 * 1000 - 1000
  if s.scs.tick < t then
    let s0 := s.modScs (fun x => { x with tick := t })
    match s.scs.phase with
    | .idle | .done => .next (s0.sampleTick t).writePort
    | _ =>
      let s1 := s0.sampleTick t
      let q := s1.judgeUnits t
      .next (q.1.actFires t q.2).writePort
  else .next s

/-- Every channel has stopped (R390). -/
def State.scsFull (s : State) : Bool := (List.range 72).all (fun c => decide ((s.schan c).len = 0) || (s.schan c).stopped)

/-- CAPTURE_DONE (R390, 0x0A01). -/
def execCaptureDone (s : State) : Result :=
  whenB (decide (s.scs.phase = .post) && s.scsFull) s
    ((s.modScs (fun x => { x with phase := .done })).raise 0x0A01 0 0 [BitVec.ofNat 8 s.scs.fireMask, BitVec.ofNat 8 (s.scs.first.getD 0xFF)])

/-- TRG_PIN_EDGE (R386): a new level that stood for 2 samples of 5 ns, stamped with its first sample. -/
def execTrgPinEdge (pin : Fin 4) (level : Bool) (stamp : PinTime) (s : State) : Result :=
  if s.parN 0x0A400001 pin.val = 1 ∨ stamp.held < 2 ∨ s.scs.pinLevel.getLsbD pin.val = level then .next s
  else
    let s1 := s.modScs (fun x => { x with pinLevel := BitVec.ofNat 4 (nsetBit x.pinLevel.toNat pin.val level) })
    .next ((List.range 8).foldl (fun s u =>
      if s.unitSrc u = 0x50 + pin.val then
        s.setTunit u ((s.tunit u).pinEdge (s.unitCond u) (s.unitT1 u) (s.unitT2 u) (level == decide (s.parN 0x0A300003 u = 0)) (sampleTime stamp.stamp))
      else s) s1)

/-- TRG_OUTPUT_END (R393). -/
def execTrgOutputEnd (pin : Fin 4) (s : State) : Result :=
  whenB (s.scs.pinOut.getLsbD pin.val && decide (sget (fun _ => 0) s.scs.pinEnd pin.val ≤ s.coreTicks)) s
    (s.modScs (fun x => { x with pinOut := BitVec.ofNat 4 (nsetBit x.pinOut.toNat pin.val false), pinEnd := sput (fun _ => 0) x.pinEnd pin.val 0 }))

/-! Commands (R383, R385 to R390, R394). -/

/-- Whether the units' settings are refused (R385, R386). -/
def State.unitsBad (s : State) : Bool :=
  (List.range 8).any (fun u =>
    let used := nbit (s.parN 0x0A000003 0) u || decide (s.parN 0x0A000002 0 = u)
    let cond := s.unitCond u
    let pol := s.parN 0x0A300003 u
    let l1 := s.par 0x0A300004 u
    let l2 := s.par 0x0A300005 u
    let src := s.unitSrc u
    used && (decide (8 < cond) || (decide (cond = 5 ∨ cond = 7 ∨ cond = 8) && (if pol = 1 then decide (l1 ≤ l2) else decide (l2 ≤ l1)))
      || decide (pol = 2 ∧ cond ≠ 2) || decide ((cond = 3 ∨ cond = 4) ∧ s.unitT2 u < s.unitT1 u)
      || decide (0x50 ≤ src ∧ src ≤ 0x53 ∧ (cond = 5 ∨ cond = 7 ∨ cond = 8 ∨ pol = 2))
      || decide (src = 0x58 ∧ cond ≠ 2 ∧ cond ≠ 0)))

/-- SCS_ARM (0x0A01): it lands at the next boundary. -/
def execScsArm (c : CmdCtx) (s : State) : Result :=
  s.host_ c { op := 0x0A01, need := roleEngineer } true (fun s =>
    if s.unitsBad then .refuse stBadComb []
    else if (s.scs.phase ≠ .idle ∧ s.scs.phase ≠ .done) ∨ s.scs.armPending.isSome = true then .refuse stState []
    else if (List.range 72).any (fun i => decide (0 < s.chanWeight i ∧ s.ringLen i < 64)) then .refuse stNoRoom []
    else .quiet (s.modScs (fun x => { x with armPending := some c })))

/-- The landing of SCS_ARM at boundary k (R383, R387). -/
def State.landArm (s : State) (k : Nat) : State :=
  match s.scs.armPending with
  | none => s
  | some c =>
    let lens := (List.range 72).map (fun i => if 0 < s.chanWeight i then s.ringLen i else 0)
    let s1 := s.modScs (fun x =>
      { x with
        phase := if s.parN 0x0A000002 0 = 0xFF then .waitFire else .waitMaster
        preShort := false, gaps := false, forced := false, fireMask := 0, first := none, cycSample := none, writes := [], recs := 2
        armTick := some ((s.tCycle k + 999) / 1000 * 1000), capTick := none, armPending := none, units := []
        trace := smap (fun _ => (0 : BitVec 64)) (fun i e => if i < 256 then e else BitVec.ofNat 64 (nsetBit e.toNat 15 false)) x.trace })
    let s2 := (List.range 72).foldl (fun s i =>
      s.setSchan i { ScsChan.reset with base := if lens.getD i 0 = 0 then 0 else 256 + ((lens.take i).sum), len := lens.getD i 0, stopped := decide (lens.getD i 0 = 0) }) s1
    let s3 := (List.range 8).foldl (fun s u =>
      let src := s.unitSrc u
      if 0x50 ≤ src ∧ src ≤ 0x53 then
        let active := s.scs.pinLevel.getLsbD (src - 0x50) == decide (s.parN 0x0A300003 u = 0)
        s.setTunit u { TrigUnit.reset with beyond := active, edgeStamp := if active then s.now / 5 * 5 else 0 }
      else s) s2
    s3.replyLater c 0x0A01 stDone []

/-- SCS_FORCE (0x0A02): the tick that runs is the capture point. -/
def execScsForce (c : CmdCtx) (s : State) : Result :=
  s.host_ c { op := 0x0A02, need := roleEngineer } true (fun s =>
    if (s.scs.phase ≠ .waitMaster ∧ s.scs.phase ≠ .waitFire) ∨ s.scs.forceCtx.isSome = true then .refuse stState []
    else .quiet (s.modScs (fun x => { x with forceCtx := some c })))

/-- SCS_STOP (0x0A03, R390): no channel takes a sample from then on. -/
def execScsStop (c : CmdCtx) (s : State) : Result :=
  s.host_ c { op := 0x0A03, need := roleEngineer } true (fun s =>
    let s1 := match s.scs.forceCtx with
      | none => s
      | some f => (s.modScs (fun x => { x with forceCtx := none })).replyLater f 0x0A02 stState []
    .ok (s1.modScs (fun x => { x with phase := .done, armTick := none })) stDone [])

/-- SCS_READ (0x0A04). -/
def execScsRead (c : CmdCtx) (first : BitVec 32) (count : BitVec 16) (s : State) : Result :=
  s.hostAt c (.scsRead c first count) { op := 0x0A04, need := roleView, move := false, logged := false } true (fun s =>
    let room := if (s.session c.slot.val).source = .pcie then 27 else 179
    if count = 0 ∨ room < count.toNat ∨ 524288 < first.toNat + count.toNat then .refuse stBadValue []
    else .ok s stDone ((List.range count.toNat).flatMap (fun i => be 8 (sget (fun _ => (0 : BitVec 64)) s.scs.trace (first.toNat + i)).toNat)))

end Sys2Proof.Machine
end

