-- ==== Sys2Proof/Machine/Seal.lean ====
section
/-! DEFINITION. REF_SEAL: overruns, changes of plan, move-list starts, admissions, the SAF parts, the REF trains and the digests of a
cycle (spec/01_control_cycle.md R22 to R35; spec/12_twin_operation.md R359, R364). -/

namespace Sys2Proof.Machine

/-! Digests (R359, R364). -/

/-- The 258 digests of a cycle: the axes, the line master, and the supervisor, whose own record of the cycle is not the model's. -/
def State.digestsNow (s : State) : List (BitVec 32) :=
  (List.range 257).map (fun i => sget (fun _ => noDigest) s.eng.digests i) ++ [Config.digest s.freeCtr]

/-- The owner that a digest index names; none for the supervisor. -/
def digestOwner (i : Nat) : Option Owner := if h : i < 256 then some (.axis ⟨i, h⟩) else if i = 256 then some .line else none

/-- The event of a mismatch (0x0903, kind 3). -/
def State.noticeMismatch (s : State) (i : Nat) : State := s.raise 0x0903 1 (if i < 256 then i else 0) [3]

/-- A verdict on cycle k, on either chip: a match counts towards SYNC_CLEAN; each mismatch is counted and told, that of a task starts
its test, and that of the supervisor a full resynchronisation. -/
def State.takeVerdict (s : State) (k : Nat) (ms : List Nat) : State :=
  if ms = [] then { s with twin := { s.twin with lastMatch := true, cleanVerdicts := s.twin.cleanVerdicts + 1 } }
  else
    let s1 := ms.foldl (fun s i => s.noticeMismatch i) s
    let busy (o : Owner) : Bool := s.twin.misTests.any (fun (m : MisTest) => decide (m.owner = o))
    let new := (ms.filterMap digestOwner).filter (fun o => !busy o)
    let tests : List MisTest := new.map (fun o =>
      { owner := o, cycle := k, engine := ⟨(s.ownerTask o).lastEngine % 8, by omega⟩, started := false, own := none, peer := none })
    let sup := ms.contains 257
    { s1 with twin := { s1.twin with
        lastMatch := false, cleanVerdicts := 0, synced := false, digMismatch := add32 s1.twin.digMismatch ms.length
        misTests := s1.twin.misTests ++ tests
        joining := s1.twin.joining || sup
        joinAt := if sup && s1.twin.onMove then some (s1.coreTicks + 25000000) else s1.twin.joinAt } }

/-- The standby compares its digests of cycle k with the on-move chip's, and answers VERDICT. -/
def State.compareDigests (s : State) (k : Nat) (own peer : List (BitVec 32)) : State :=
  let ms := (List.range 258).filter (fun i => decide (own.getD i 0 ≠ peer.getD i 0))
  (s.put (.twin (.verdict k ms))).takeVerdict k ms

/-- The digests at the seal of cycle k: the on-move chip sends them, and a standby that has the peer's compares. -/
def State.sealDigests (s : State) (k : Nat) : State :=
  let ds := s.digestsNow
  let s1 := { s.useFree 1 with eng := { s.eng with digests := [] } }
  if !s.twinUp then s1
  else if s.twin.onMove then s1.put (.twin (.digest k ds))
  else if s.twin.standby && !s.twin.joining then
    match sget (fun _ => ([] : List (BitVec 32))) s.twin.digPeer k with
    | [] => { s1 with twin := { s1.twin with digOwn := (sput (fun _ => []) s1.twin.digOwn k ds).filter (fun (p : Nat × List (BitVec 32)) => decide (k < p.1 + 4)) } }
    | peer => ({ s1 with twin := { s1.twin with digPeer := s1.twin.digPeer.filter (fun (p : Nat × List (BitVec 32)) => decide (k < p.1)) } }).compareDigests k ds peer
  else s1

/-! The trains (R22, R23, R66). -/

def insertRef (x : RefEntry) : List RefEntry → List RefEntry
  | [] => [x]
  | y :: l => if x.axis ≤ y.axis then x :: y :: l else y :: insertRef x l

/-- Entries in ascending axis order. -/
def sortRefs (l : List RefEntry) : List RefEntry := l.foldr insertRef []

/-- The train that the seal of cycle k closes. -/
def State.train (s : State) (k : Nat) : List RefEntry := sortRefs (sget (fun _ => []) s.eng.trains k)

/-- An axis at its seal (R23): a task that has not completed counts as an overrun; without an entry the histories take the values of
the cycle before (R195). -/
def State.sealAxis (s : State) (k a : Nat) : State :=
  let l := (s.axis a).law
  if !s.axisUsed a || decide (k < l.sigma) then s
  else
    let done := match (s.axis a).task.doneCycle with
      | none => false
      | some c => decide (k ≤ c + l.sigma)
    let s1 := if done then s else s.modTask a (fun t => { t with overruns := inc32 t.overruns })
    let tag := k + 1 + s.runAhead a + s.tagShift a
    let held := match l.newest with
      | none => false
      | some m => decide (tag ≤ m)
    if (s.train k).any (fun (r : RefEntry) => decide (r.axis = a)) || held then s1
    else (s1.setUHist a tag (s1.uHist a (tag - 1))).setRHist a tag (s1.rHist a (tag - 1))

/-- The entries of a train that leave over the ring of segment n. -/
def State.trainOf (s : State) (n : Nat) (t : List RefEntry) : List RefEntry :=
  t.filter (fun (r : RefEntry) => match s.axisSlot r.axis useFbk with
    | none => false
    | some (m, _) => decide (m = n) && (s.localPort r.axis).isNone)

/-- An entry for a local step port joins its queue. -/
def State.queueLocal (s : State) (r : RefEntry) : State :=
  match s.localPort r.axis with
  | none => s
  | some p => s.queueStep p r

/-- The entries of the closed train go to their segments, for the head run of the next cycle, and to the local step ports (R230). -/
def State.closeTrain (s : State) (k : Nat) : State :=
  let t := s.train k
  let s1 := (List.range 8).foldl (fun s n => s.modSeg n (fun g => { g with refTrain := s.trainOf n t })) s
  let s2 := t.foldl State.queueLocal s1
  { s2 with eng := { s2.eng with trains := s2.eng.trains.filter (fun (p : Nat × List RefEntry) => decide (k < p.1)) } }

/-- REF_SEAL (R22): 1.0 µs before cycle k + 1 starts. -/
def execRefSeal (s : State) : Result :=
  let k := s.cyc.cycle
  if !s.cyc.running || decide (s.now < s.tCycle (k + 1) - 1000) || decide (s.cyc.sealedFor = some k) then .next s
  else
    let s1 := (List.range 256).foldl (fun s a => s.sealAxis k a) s
    let s2 := s1.noteTrains.alignStops k
    let s3 := (List.range 256).foldl (fun s a => if s.axisUsed a then s.flushPlan a k else s) s2
    let s4 := ((s3.startMoves k).sealArbiter k).settleStarts
    let s5 := s4.sealSaf.answerDemands
    let s6 := s5.closeTrain k
    let s7 := (s6.sealDigests k).scsSeal k
    .next { s7 with cyc := { s7.cyc with sealedFor := some k } }

end Sys2Proof.Machine
end

