-- ==== Sys2Proof/Machine/WallTime.lean ====
section
/-! DEFINITION. Wall time: sources, selection, steps, rate, PPS (spec/14_wall_time.md).  Source times, receive and send stamps of
PTP messages and offsets are in 0.1 ns; PPS stamps are served times in ns. -/

namespace Sys2Proof.Machine

/-- 100 µs in 0.1 ns (R407). -/
def offsetLimit : Nat := 1000000

/-! Measurements (R402, R403). -/

/-- What follows a measurement of the selected source: OFFSET_HIGH follows |θ| (R407). -/
def State.judgeOffset (s : State) (c : Nat) : State :=
  if c = s.time.selected ∧ s.time.timeValid = true then
    let high := decide (offsetLimit < (s.source c).theta.natAbs)
    { s with time := { s.time with offsetHigh := high, faultTold := s.time.faultTold && high } }
  else s

/-- Source c becomes valid. -/
def State.sourceValid (s : State) (c : Nat) : State :=
  if (s.source c).valid then s else s.setSource c { s.source c with valid := true, validSince := s.coreTicks }

def State.sourceInvalid (s : State) (c : Nat) : State := s.setSource c { s.source c with valid := false, run := 0, badRun := 0 }

/-- A measurement θ of source c at served time `t` (0.1 ns), with the source's rate against the last one. -/
def State.measureSource (s : State) (c : Nat) (theta t : Int) : State :=
  let x := s.source c
  let rate := match x.lastMeas with
    | none => x.rate
    | some t0 => if t ≤ t0 then x.rate else clampI (-2147483648) 2147483647 (rdiv ((theta - x.theta) * 4294967296) (t - t0))
  (s.setSource c { x with theta := theta, rate := rate, lastMeas := some t }).judgeOffset c

/-- A PTP domain is valid while it has a transmitter, its last three Syncs and a delay no older than 16 s. -/
def State.checkPtp (s : State) (d : Nat) : State :=
  let p := s.ptp d
  let fresh := match p.delayTick with
    | none => false
    | some t => decide (s.coreTicks ≤ t + 16000000000)
  if p.transmitter.isSome && fresh && decide (3 ≤ (s.source (d + 1)).run) then s.sourceValid (d + 1) else s

/-- A Sync is complete: t1 of the transmitter and t2 here, corrected (R403). -/
def State.takeSync (s : State) (d : Nat) (t1 rx : Int) : State :=
  let p := s.ptp d
  let t2 := rx - s.par 0x0B100005 d
  let gap := match p.lastSync with
    | none => 0
    | some t => s.coreTicks - t
  let next := decide (p.interval = 0) || decide (2 * gap ≤ 3 * p.interval)
  let iv := if gap = 0 then p.interval else min 2000000000 (max 7812500 gap)
  let x := s.source (d + 1)
  let s1 := (s.setPtp d { p with t1 := t1, t2 := t2, lastSync := some s.coreTicks, interval := iv, waiting := none }).setSource (d + 1)
    { x with run := if next then x.run + 1 else 1 }
  let s2 := if p.delayTick.isSome then s1.measureSource (d + 1) (t1 - t2 + p.delay) t2 else s1
  s2.checkPtp d

/-- A message of another domain is counted and ignored (R401). -/
def State.otherDomain (s : State) (d : Nat) : State :=
  let x := s.source (d + 1)
  s.setSource (d + 1) { x with bad := inc32 x.bad }

def State.inDomain (s : State) (d : Nat) (domain : BitVec 8) : Bool := decide (domain.toNat = s.parN 0x0B100001 d)

/-- PTP_SYNC (R403). -/
def execPtpSync (d : Fin 2) (domain : BitVec 8) (twoStep : Bool) (seq : BitVec 16) (origin : Int) (rx : Int) (s : State) : Result :=
  if !s.inDomain d.val domain then .next (s.otherDomain d.val)
  else if (s.ptp d.val).transmitter.isNone then .next s
  else if twoStep then .next (s.setPtp d.val { s.ptp d.val with waiting := some (seq, rx) })
  else .next (s.takeSync d.val origin rx)

/-- PTP_FOLLOW_UP (R403). -/
def execPtpFollowUp (d : Fin 2) (domain : BitVec 8) (seq : BitVec 16) (origin : Int) (s : State) : Result :=
  if !s.inDomain d.val domain then .next (s.otherDomain d.val)
  else match (s.ptp d.val).waiting with
    | none => .next s
    | some (q, rx) => whenB (decide (q = seq)) s (s.takeSync d.val origin rx)

/-- PTP_ANNOUNCE (R401): `rank` orders the transmitters of the domain as the best-transmitter algorithm does, lower first. -/
def execPtpAnnounce (d : Fin 2) (domain : BitVec 8) (rank : Nat) (source : BitVec 64) (s : State) : Result :=
  if !s.inDomain d.val domain then .next (s.otherDomain d.val)
  else
    let p := s.ptp d.val
    let better := match p.transmitter with
      | none => true
      | some (r, w) => decide (w = source) || decide (rank < r)
    whenB better s (s.setPtp d.val { p with transmitter := some (rank, source) })

/-- PTP_DELAY_RESP (R401): the delay from t1, t2, t3 and t4; with the peer mechanism `t4` is the receive stamp of the response less
the peer's residence.  The first delay completes the measurement of the Syncs before it. -/
def execPtpDelayResp (d : Fin 2) (domain : BitVec 8) (seq : BitVec 16) (t4 : Int) (s : State) : Result :=
  let p := s.ptp d.val
  if !s.inDomain d.val domain then .next (s.otherDomain d.val)
  else match p.reqTx with
    | none => .next s
    | some t3 =>
      let delay := if s.parN 0x0B100002 d.val = 1 then (t4 - t3) / 2 else (p.t2 - p.t1 + (t4 - t3)) / 2
      let s1 := s.setPtp d.val { p with delay := delay, delayTick := some s.coreTicks, reqTx := none }
      let s2 := if p.delayTick.isNone && p.lastSync.isSome then s1.measureSource (d.val + 1) (p.t1 - p.t2 + delay) p.t2 else s1
      whenB (decide (seq = p.reqSeq)) s (s2.checkPtp d.val)

/-- PTP_DELAY_REQ_SEND (R401). -/
def execPtpDelayReqSend (d : Fin 2) (tx : Int) (s : State) : Result :=
  let p := s.ptp d.val
  whenB (p.transmitter.isSome || decide (s.parN 0x0B100002 d.val = 1)) s
    ((s.setPtp d.val { p with reqSeq := p.reqSeq + 1, reqTx := some (tx + s.par 0x0B100006 d.val) }).put (.delayReq d (p.reqSeq + 1)))

/-- SYNC_LOSS (R402). -/
def execSyncLoss (d : Fin 2) (s : State) : Result :=
  let p := s.ptp d.val
  let noSync := match p.lastSync with
    | none => true
    | some t => decide (t + s.parN 0x0B100004 d.val * p.interval ≤ s.coreTicks)
  let noDelay := match p.delayTick with
    | none => true
    | some t => decide (t + 16000000000 ≤ s.coreTicks)
  whenB ((s.source (d.val + 1)).valid && (noSync || noDelay)) s (s.sourceInvalid (d.val + 1))

/-- An edge less than 1 µs behind the last one of its pin is the same edge (R506). -/
def TimeSource.again (x : TimeSource) (stamp : Int) : Bool :=
  match x.pinAt with
  | none => false
  | some t => decide (stamp - t < 1000)

/-- PPS_EDGE (R402, R403, R506). -/
def execPpsEdge (p : Fin 2) (stamp : Int) (s : State) : Result :=
  let c := p.val + 3
  if (s.source c).again stamp then .next s
  else
  let x : TimeSource := { s.source c with pinAt := some stamp }
  let ok := match x.lastEdge with
    | none => false
    | some t => decide ((stamp - t - 1000000000).natAbs ≤ 100000)
  if x.lastEdge.isSome && !ok && x.valid && decide (x.badRun = 0) then
    .next (s.setSource c { x with bad := inc32 x.bad, badRun := 1, lastEdgeTick := s.coreTicks })
  else if x.lastEdge.isSome && !ok then
    .next (s.setSource c { x with bad := inc32 x.bad, badRun := 0, valid := false, run := 1, lastEdge := some stamp, lastEdgeTick := s.coreTicks })
  else
    let run := if ok then x.run + 1 else 1
    let s1 := s.setSource c { x with run := run, badRun := 0, lastEdge := some stamp, lastEdgeTick := s.coreTicks }
    let at_ := stamp - s.par 0x0B200001 p.val
    let marks : Int := if s.time.timeValid then rdiv at_ 1000000000 * 1000000000 else s.par 0x0B000005 0 * 1000000000
    if 3 ≤ run ∧ (s.time.timeValid = true ∨ s.time.tod = true) then
      .next ((s1.measureSource c ((marks - at_) * 10) (at_ * 10)).sourceValid c)
    else .next s1

/-- PPS_LOSS (R402). -/
def execPpsLoss (p : Fin 2) (s : State) : Result :=
  let x := s.source (p.val + 3)
  whenB (x.valid && decide (x.lastEdgeTick + 1500000000 ≤ s.coreTicks)) s (s.sourceInvalid (p.val + 3))

/-! Selection (R404, R408). -/

/-- The codes of TIM_SRC_PRIO in order. -/
def State.prio (s : State) : List Nat :=
  let v := s.parN 0x0B000001 0
  ([v / 4096 % 16, v / 256 % 16, v / 16 % 16, v % 16]).filter (fun c => decide (1 ≤ c ∧ c ≤ 4))

/-- The source that the list gives now: the selected one while it is valid, else the first valid one. -/
def State.choice (s : State) : Nat :=
  let l := s.prio
  if (s.source s.time.selected).valid && l.contains s.time.selected then s.time.selected
  else (l.find? (fun c => (s.source c).valid)).getD 0

/-- The selected source changes: a first step, a slew, or holdover; a standby's clock follows the CSFs (R400, R404, R405, R408). -/
def State.selectSource (s : State) (c : Nat) : State :=
  let old := s.time.selected
  let theta := (s.source c).theta
  let t := s.time
  let t1 : WallTime := { t with selected := c, srcSwitches := inc32 t.srcSwitches, offsetHigh := false }
  let t2 : WallTime :=
    if s.twin.standby then t1
    else if c = 0 then { t1 with state := if t.timeValid then ClockState.holdover else t.state, slewDir := 0 }
    else if !t.timeValid then { t1 with step := some (⟨rdiv theta 10, none⟩ : PendingStep) }
    else { t1 with state := .slew, switched := true, slewDir := if theta < 0 then -1 else 1 }
  (({ s with time := t2 } : State).judgeOffset c).raise 0x0B03 0 0 [BitVec.ofNat 8 old, BitVec.ofNat 8 c]

/-- SOURCE_SWITCH (R404). -/
def execSourceSwitch (s : State) : Result := whenB (decide (s.choice ≠ s.time.selected)) s (s.selectSource s.choice)

/-- SOURCE_TAKEOVER (R404): a source earlier in the list has been valid for 10 s. -/
def execSourceTakeover (s : State) : Result :=
  match (s.prio.takeWhile (fun c => decide (c ≠ s.time.selected))).find? (fun c =>
      (s.source c).valid && decide ((s.source c).validSince + 10000000000 ≤ s.coreTicks)) with
  | none => .next s
  | some c => whenB (decide (s.time.selected ≠ 0) && s.prio.contains s.time.selected) s (s.selectSource c)

/-- SLEW_END (R408). -/
def execSlewEnd (s : State) : Result :=
  whenB (decide (s.time.state = .slew) && !s.twin.standby && decide ((s.source s.time.selected).theta.natAbs ≤ 1000)) s
    { s with time := { s.time with state := .locked, switched := false, slewDir := 0 } }

/-- TIME_FAULT (R407, 0x0B02). -/
def execTimeFault (s : State) : Result :=
  let th := (s.source s.time.selected).theta
  whenB (s.time.timeValid && decide (s.time.selected ≠ 0) && s.time.offsetHigh && !s.time.faultTold) s
    (({ s with time := { s.time with timeFault := true, faultTold := true, timeFaults := inc32 s.time.timeFaults } } : State).raise 0x0B02 2 0 (beI 6 th))

/-! Steps (R405, R409). -/

/-- The served clock is set back or forward by whole nanoseconds; PPS_OUT next rises at a whole second of the new time (R411). -/
def WallTime.stepBy (t : WallTime) (d : Int) : WallTime :=
  let v := ((t.sec * 1000000000 + t.ns : Nat) + d).toNat
  { t with
    sec := v / 1000000000 % 281474976710656, ns := v % 1000000000
    ppsSec := if v % 1000000000 = 0 then t.ppsSec else v / 1000000000 % 281474976710656 }

def Edge.shift (e : Edge) (d : Int) : Edge := { e with stamp := e.stamp + d }

/-- The stamps of a local port keep their instants. -/
def FbPort.shift (x : FbPort) (d : Int) : FbPort :=
  { x with
    e1 := x.e1.map (fun e => e.shift d), e2 := x.e2.map (fun e => e.shift d), bothStamp := x.bothStamp.map (· + d)
    latchedE1 := x.latchedE1.map (fun e => e.shift d), latchedE2 := x.latchedE2.map (fun e => e.shift d)
    latchedBoth := x.latchedBoth.map (· + d), errStamp := if x.errPending then x.errStamp + d else x.errStamp }

/-- What a source has measured is against the stepped clock. -/
def TimeSource.shift (x : TimeSource) (d : Int) : TimeSource :=
  { x with theta := if x.lastMeas.isSome then x.theta - d * 10 else x.theta, lastMeas := x.lastMeas.map (· + d * 10), lastEdge := x.lastEdge.map (· + d)
           pinAt := x.pinAt.map (· + d) }

def PtpPort.shift (x : PtpPort) (d : Int) : PtpPort :=
  { x with t2 := if x.lastSync.isSome then x.t2 + d * 10 else x.t2, reqTx := x.reqTx.map (· + d * 10), waiting := x.waiting.map (fun w => (w.1, w.2 + d * 10)) }

/-- The stamps of the local ports and of the sources keep their instants. -/
def State.shiftStamps (s : State) (d : Int) : State :=
  let s1 := (List.range 16).foldl (fun s n => s.modFb n (fun x => x.shift d)) s
  let s2 := [1, 2, 3, 4].foldl (fun s c => s.setSource c ((s.source c).shift d)) s1
  [0, 1].foldl (fun s i => s.setPtp i ((s.ptp i).shift d)) s2

/-- Every DISPATCHED entry is retimed, and every entry keeps its instant. -/
def State.retimeAll (s : State) (d : Int) : State :=
  let s1 := s.moves.items.foldl (fun s x =>
    let y := { x with ts := if x.inFlight then x.ts + d else x.ts, tf := x.tf.map (· + d) }
    let s2 := s.setMove y
    if x.state = .dispatched ∧ x.act = actNode ∧ x.sent = true then
      s2.queueRev x.e.seg.toNat (.retime x.seqN (x.ts + d)) s.cyc.cycle
    else s2) s
  let s2 := s1.modMoves (fun m => { m with captures := m.captures.map (fun (c : Capture) => { c with fire := c.fire + d }) })
  { s2 with fld := { s2.fld with orders := s2.fld.orders.map (fun (o : OutOrder) => { o with fire := o.fire + d }) } }

/-- The clock, T_epoch, the entries, the Scoresheet's grid and the stamps step by d ns; the event tells the old and the new time of
the cycle start. -/
def State.stepClock (s : State) (d : Int) : State :=
  let k := s.cyc.cycle
  let old := s.tCycle k
  let s1 := (s.retimeAll d).shiftStamps d
  let t := s1.time.stepBy d
  let s2 : State := { s1 with
    time := { t with step := none, timeValid := true, state := if t.state = .free then ClockState.locked else t.state }
    cyc := { s1.cyc with tEpoch := s1.cyc.tEpoch + d } }
  let s3 : State := { s2 with scs := { s2.scs with tick := s2.now / 1000 * 1000 - 1000 } }
  s3.raise 0x0B01 0 0 (be 6 k ++ t80Bytes old ++ t80Bytes (old + d))

/-- A step may land: a boundary, with no COMMITTED entry. -/
def State.stepDue (s : State) : Bool :=
  (!s.cyc.running || !s.cyc.dispatched) && s.moves.items.all (fun (x : MoveItem) => decide (x.state ≠ .committed))

/-- A TIM_RESTEP that finds an axis RUNNING at its boundary (R409). -/
def State.restepBlocked (s : State) (p : PendingStep) : Bool :=
  p.ctx.isSome && (List.range 256).any (fun a => decide (s.axState a = .running))

/-- TIME_STEP (R405). -/
def execTimeStep (s : State) : Result :=
  match s.time.step with
  | none => .next s
  | some p => whenB (s.stepDue && !s.restepBlocked p) s ((s.stepClock p.delta).cmdDone? p.ctx 0x0B03 0 stDone)

/-- RESTEP_ABANDONED (R409, 0x0B04). -/
def execRestepAbandoned (s : State) : Result :=
  match s.time.step with
  | none => .next s
  | some p => whenB (s.stepDue && s.restepBlocked p) s
      ((({ s with time := { s.time with step := none } } : State).raise 0x0B04 1 0 []).cmdDone? p.ctx 0x0B03 0 stState)

/-- The rate of R406 and R408 at a cycle start: the loop's rate and the slew, at most 0.1 ppm from the last, within 500 ppm; frozen in
HOLDOVER, 0 in FREE.  A standby follows the CSFs (R400). -/
def State.rateUpdate (s : State) : State :=
  let t := s.time
  if s.twin.standby ∨ t.timeValid = false ∨ t.state = .holdover ∨ t.selected = 0 then s
  else
    let x := s.source t.selected
    let track := Config.loopRate x.theta x.rate (s.parN 0x0B000003 0)
    let slew : Int := if t.state = .slew then t.slewDir * ((s.parN 0x0B000002 0 * 4294967296 / 10000000 : Nat) : Int) else 0
    { s with time := { t with rate := clampI (-2147483) 2147483 (clampI (t.rate - 429) (t.rate + 429) (track + slew)) } }

/-! PPS output (R411). -/

/-- PPS_OUT_PULSE: a whole second of served time. -/
def execPpsOutPulse (s : State) : Result :=
  whenB (s.time.timeValid && decide (s.time.ppsSec ≠ s.time.sec)) s
    { s with time := { s.time with ppsOut := true, ppsSec := s.time.sec, ppsEnd := s.coreTicks + s.parN 0x0B000004 0 * 1000000 } }

/-- PPS_OUT_END. -/
def execPpsOutEnd (s : State) : Result :=
  whenB (s.time.ppsOut && decide (s.time.ppsEnd ≤ s.coreTicks)) s { s with time := { s.time with ppsOut := false } }

/-! Commands (Table CMD-3, class 0x0B). -/

def clockCode : ClockState → Nat
  | .free => 0
  | .locked => 1
  | .slew => 2
  | .holdover => 3

/-- TIM_GET (0x0B01). -/
def execTimGet (c : CmdCtx) (s : State) : Result :=
  s.hostAt c (.timGet c) { op := 0x0B01, need := roleView, move := false, logged := false } true (fun s =>
    .ok s stDone (t80Bytes s.now ++ be 1 (clockCode s.time.state) ++ be 1 s.time.selected
      ++ beI 6 (if s.time.selected = 0 then 0 else (s.source s.time.selected).theta)))

/-- TIM_SRC_READ (0x0B02). -/
def execTimSrcRead (c : CmdCtx) (src : BitVec 8) (s : State) : Result :=
  s.hostAt c (.timSrcRead c src) { op := 0x0B02, need := roleView, move := false, logged := false } true (fun s =>
    let x := s.source src.toNat
    if src.toNat < 1 ∨ 4 < src.toNat then .refuse stBadValue []
    else .ok s stDone (be 1 (b2n x.valid) ++ beI 6 x.theta ++ beI 4 x.rate))

/-- TIM_RESTEP (0x0B03, R409). -/
def execTimRestep (c : CmdCtx) (s : State) : Result :=
  s.host_ c { op := 0x0B03, need := roleEngineer, expert := true } true (fun s =>
    if (List.range 256).any (fun a => decide (s.axState a = .running)) || !(s.source s.time.selected).valid then .refuse stState []
    else if s.time.step.isSome then .refuse stBusy []
    else .ok { s with time := { s.time with step := some (⟨rdiv (s.source s.time.selected).theta 10, some c⟩ : PendingStep) } } stAccepted [])

end Sys2Proof.Machine
end

