-- ==== Sys2Proof/Machine/Cycle.lean ====
section
/-! DEFINITION. What a cycle start does: the latches, the CSF, the head run and the exchanges of a cycle, and what it changes
(spec/01_control_cycle.md R13 to R16, R25; spec/02_futhes_frames.md R65 to R75; spec/03_futhes_slot_train.md R84 to R107). -/

namespace Sys2Proof.Machine

/-! Frames at t_k. -/

/-- The head's trains leave port B as well: on a folded segment, and in dual-send mode (R110, R115). -/
def State.bothPorts (s : State) (n : Nat) : Bool :=
  (s.seg n).folded || (s.seg n).sendB || decide (s.parN 0x07300003 n = 1)

/-- A frame of the head on port A, and on port B where the train leaves it. -/
def State.sendTrain (s : State) (n : Nat) (h : Hdr) (pl : List Byte) : State :=
  let s1 := s.sendHead n false h pl
  if s.bothPorts n then s1.sendHead n true h pl else s1

/-- Position, velocity and acceleration of the line predicted for the next cycle (R14). -/
def State.lineAhead (s : State) : Int × Int × Int :=
  let o := s.line.obs
  let t : Int := s.period
  ((s.linePos + rdiv (o.vHat * t) 1000000000 + rdiv (o.aHat * 256 * t * t) 2000000000000000000) % s.lineSpan,
    o.vHat + rdiv (o.aHat * 256 * t) 1000000000, o.aHat)

/-- The CSF payload (Table FRM-5). -/
def State.csfPayload (s : State) (n : Nat) : List Byte :=
  let k := s.cyc.cycle
  let l := s.lineAhead
  be 6 k ++ t80Bytes (s.tCycle k) ++ beI 6 l.1 ++ beI 6 l.2.1 ++ beI 6 l.2.2
    ++ be 1 (s.parN 0x07300001 0) ++ [BitVec.ofNat 8 (flagWord [(7, s.line.valid), (6, decide (s.twin.hFlag = some k))])]
    ++ be 2 (s.sched n).ver ++ be 1 (b2n s.isBlack) ++ [0] ++ be 6 Config.serial.toNat ++ [0, 0]

def csfHdr (n k : Nat) : Hdr := { kind := tCsf, seg := n, slotN := slotOutside, cyc := k % 4294967296, len := 12 }

/-- CSF_SEND (R15) on a segment, with the beacon on port B where no train leaves it (R81). -/
def State.sendCsf (s : State) (n : Nat) : State :=
  let k := s.cyc.cycle
  let s1 := s.sendTrain n (csfHdr n k) (s.csfPayload n)
  if s.bothPorts n then s1
  else s1.sendHead n true { kind := tSup, seg := n, slotN := slotOutside, cyc := k % 4294967296, len := 4 } (supPayload 4 (be 6 k))

/-! The head run (R25, R75, R87). -/

def revWords : RevItem → Nat
  | .range _ _ es => 2 + 4 * es.length
  | .retime _ _ => 5
  | .cancel _ => 2

/-- The part of an item that fits in `room` words, and what is left of it: a range continues behind its last entry sent, and carries at
most 16 entries. -/
def splitRev (q : QueuedRev) (room : Nat) : Option (RevItem × Option QueuedRev) :=
  match q.item with
  | .range a first es =>
    let m := min 16 (min es.length ((room - 2) / 4))
    if room < 2 ∨ (m = 0 ∧ es ≠ []) then none
    else some (.range a first (es.take m), if m < es.length then some ⟨.range a (first + m) (es.drop m), ((first + m : Nat) : Int)⟩ else none)
  | i => if revWords i ≤ room then some (i, none) else none

/-- Earlier affected cycles go first; items of one cycle keep their order. -/
def insertRev (q : QueuedRev) : List QueuedRev → List QueuedRev
  | [] => [q]
  | r :: l => if q.affected ≤ r.affected then q :: r :: l else r :: insertRev q l

def sortRevs (l : List QueuedRev) : List QueuedRev := l.foldr insertRev []

/-- The items that one frame takes in order, and those left. -/
def takeRevs : Nat → Nat → List QueuedRev → List RevItem × List QueuedRev
  | 0, _, l => ([], l)
  | _, _, [] => ([], [])
  | f + 1, room, q :: l =>
    match splitRev q room with
    | none => ([], q :: l)
    | some (i, rest) =>
      let l' := match rest with
        | none => l
        | some r => insertRev r l
      let t := takeRevs f (room - revWords i) l'
      (i :: t.1, t.2)

/-- The REV frames that `bytes` byte-times hold. -/
def revFrames : Nat → Nat → List QueuedRev → List (List RevItem) × List QueuedRev
  | 0, _, l => ([], l)
  | f + 1, bytes, l =>
    let t := takeRevs 254 (min 254 ((bytes - 32) / 4 - 1)) l
    if t.1 = [] then ([], l)
    else
      let u := revFrames f (bytes - 36 - 4 * (t.1.map revWords).sum) t.2
      (t.1 :: u.1, u.2)

/-- A train in frames of at most 63 entries. -/
def refFrames : Nat → List RefEntry → List (List RefEntry)
  | 0, _ => []
  | f + 1, l => if l = [] then [] else l.take 63 :: refFrames f (l.drop 63)

/-- A frame of the head run at byte `p` of the static segment; the answer says where the next one starts. -/
def State.runFrame (s : State) (n kind : Nat) (p : Nat) (pl : List Byte) : State × Nat :=
  let c := s.sched n
  (s.sendTrain n { kind := kind, takeBack := decide (kind = tRev), seg := n, slotN := p / c.slotLen, cyc := s.cyc.cycle % 4294967296, len := 0 } pl,
    p + 32 + pl.length)

/-- A SUP of the head run; one for the nodes beyond a break leaves port B alone. -/
def State.runSup (s : State) (n p : Nat) (q : Bool × List Byte) : State × Nat :=
  if q.1 then
    (s.sendHead n true { kind := tSup, seg := n, slotN := p / (s.sched n).slotLen, cyc := s.cyc.cycle % 4294967296, len := 0 } q.2, p + 32 + q.2.length)
  else s.runFrame n tSup p q.2

/-- The last byte that a head frame may end at. -/
def runEnd (c : Schedule) : Nat := c.headSlots * c.slotLen - c.guardLen

/-- The SUP payloads of the queue that still fit. -/
def State.runSups (s : State) (n : Nat) : Nat → Nat → State
  | 0, _ => s
  | f + 1, p =>
    match (s.seg n).supQ with
    | [] => s
    | q :: rest =>
      if p + 24 + q.2.length ≤ runEnd (s.sched n) then
        let t := (s.modSeg n (fun g => { g with supQ := rest })).runSup n p q
        t.1.runSups n f t.2
      else s

/-- One SCH of a schedule load, for the node that it names (R477); a load that slips gets a later ACTIVATE (R80). -/
def State.runSch (s0 : State) (n p : Nat) : State × Nat :=
  let g0 := s0.seg n
  let s := match g0.schQ, g0.activateAt with
    | [], _ => s0
    | q, some a => if a < s0.cyc.cycle + q.length + 1 then s0.planActivate n else s0
    | _, none => s0
  match (s.seg n).schQ with
  | [] => (s, p)
  | (node, pl) :: rest =>
    if p + 32 + pl.length + 40 ≤ runEnd (s.sched n) then
      ((s.modSeg n (fun g => { g with schQ := rest })).sendTrain n
        { kind := tSch, seg := n, slotM := true, slotN := node, cyc := s.cyc.cycle % 4294967296, len := 0 } pl, p + 32 + pl.length)
    else (s, p)

/-- HEAD_RUN_SEND (R25) behind the SAF frame: REV, the REF train, SCH, SUP. -/
def State.headRun (s : State) (n : Nat) : State :=
  let g := s.seg n
  let room := runEnd g.sched - 100 - refTimes g.refTrain.length
  let v := revFrames (room / 36 + 1) room (sortRevs g.revQ)
  let s1 := s.modSeg n (fun g => { g with revQ := v.2, refTrain := [] })
  let s2 := v.1.foldl (fun (t : State × Nat) is => t.1.runFrame n tRev t.2 (revPayload is)) (s1, 60)
  let s3 := (refFrames 5 g.refTrain).foldl (fun (t : State × Nat) es => t.1.runFrame n tRef t.2 (refPayload es)) s2
  let s4 := s3.1.runSch n s3.2
  s4.1.runSups n 16 s4.2

/-! Exchanges (R88, R512). -/

/-- An output IOD: the bit image, and the timed records behind it (R70). -/
def iodPayload (image : List Byte) (rs : List TimedRec) : List Byte :=
  [if rs = [] then 1 else 2, 0x80] ++ be 2 image.length ++ padWords image ++ rs.flatMap TimedRec.bytes

/-- The exchange slots that nodes own in the train of cycle k. -/
def exchangesOf (c : Schedule) (k : Nat) : List SlotRec :=
  c.records.filter (fun (r : SlotRec) => decide (r.use = useIod) && decide (k % 2 ^ r.mux = r.phase))

def State.sendExchanges (s : State) (n : Nat) : State :=
  let k := s.cyc.cycle
  (exchangesOf (s.sched n) k).foldl (fun s (r : SlotRec) =>
    let t := s.takeRecords n r.node k
    let image := sget (fun _ => ([] : List Byte)) (s.seg n).outImage r.node
    (t.1.sendTrain n { kind := tIod, seg := n, slotN := r.slot, cyc := k % 4294967296, len := 0 } (iodPayload image t.2)).noteExchange n r.node k) s

/-! Counts of the receive side (R105, R107). -/

/-- The train whose frames have all been due by the start of cycle k. -/
def State.trainDue (s : State) (n : Nat) (r : SlotRec) (k : Nat) : Int := (k : Int) - 1 - (s.landing n (s.sched n) r.slot / (s.period * 10) : Nat)

/-- An owned slot that brought nothing counts against its node; a network axis's FBK slot is counted by its own task (R105). -/
def State.trackMissing (s : State) (n k : Nat) : State :=
  if s.segRuns n then
    (s.sched n).records.foldl (fun s (r : SlotRec) =>
      let m := s.trainDue n r k
      let g := s.seg n
      let owned := decide ((g.syncFrom : Int) ≤ m) && decide (m % (2 ^ r.mux : Nat) = r.phase) && !(g.node r.node).removed
      let came := decide ((g.imageAt r).cycle = m.toNat) && decide ((g.imageAt r).payload ≠ [])
      if !owned || came then s
      else if r.use = useFbk ∧ s.networkAxis r.axis = true then s.modSeg n (fun g => g.setRun r 0)
      else (s.modNode n r.node (fun x => { x with missCnt := inc32 x.missCnt })).modSeg n (fun g => { g.setRun r 0 with missNow := g.missNow + 1 })) s
  else s

/-- A cycle without the return of the head's own CSF, once one could have come (R107). -/
def State.trackReturn (s : State) (n k : Nat) : State :=
  let g := s.seg n
  if s.watches n && !g.folded && decide (g.lamN + s.period * 10 ≤ (k - g.syncFrom) * s.period * 10) then
    s.modSeg n (fun g => { g with csfMiss := if g.csfSeen then 0 else g.csfMiss + 1, csfSeen := false })
  else s.modSeg n (fun g => { g with csfSeen := false })

/-- A forwarding chip after 3 consecutive cycles without a CSF on port A, or without a counter-direction mark on port B (R107): it is the node
beside the break, and loops back what the other port brings (R108). -/
def State.trackPassing (s : State) (n k : Nat) : State :=
  let g := s.seg n
  let gone (x : Option Nat) : Bool := match x with
    | some c => decide (c + 4 ≤ k)
    | none => false
  let s1 := if gone g.lastCsf then (s.loopAt (2 * n)).modSeg n (fun g => { g with lastCsf := none }) else s
  if gone g.lastBeacon then (s1.loopAt (2 * n + 1)).modSeg n (fun g => { g with lastBeacon := none }) else s1

/-- The age of every place of the receive image (R105). -/
def Segment.ageImage (g : Segment) : Segment :=
  { g with image := smap (fun _ => ImagePlace.reset) (fun _ p => { p with since := min 255 (p.since + 1) }) g.image, edgesNow := 0, missNow := 0 }

/-! The cycle start. -/

/-- The counters of the new cycle, the trims, the twin bit (R314), the cycles without a CSF (R365), the latches and the step entries (R13,
R15, R28, R125). -/
def State.enterCycle (s : State) (k : Nat) : State :=
  let land := s.twin.trimLog.isNone && decide (s.cyc.trimAt ≤ k)
  let s1 := { s with
    cyc := { s.cyc with
      cycle := k, running := true, dispatched := false
      trim := if land then s.cyc.trimNext.getD s.cyc.trim else s.cyc.trim
      trimNext := if land then none else s.cyc.trimNext }
    arb := { s.arb with inForce := s.arb.level }
    saf := if s.saf.p.ok then { s.saf with twinBit := s.standbySynced, twinBitCycle := s.coreTicks } else s.saf
    twin := if s.twin.standby then
        { s.twin with missCycles := if s.twin.csfSeenA = [] then s.twin.missCycles + 1 else 0, csfSeenA := [] }
      else s.twin }
  let s2 := s1.rateUpdate.latchAll
  let s3 := (List.range 8).foldl (fun s n => s.stepTake k n) s2
  let s4 := (List.range 8).foldl (fun s n => if s.segRuns n then s.modSeg n Segment.ageImage else s) s3
  let s5 := (List.range 8).foldl (fun s n => (s.trackReturn n k).trackMissing n k) s4
  if s5.twin.standby then (List.range 8).foldl (fun s n => s.trackPassing n k) s5 else s5

/-- The masks that the SAF frame of the cycle carries. -/
def State.safMask (s : State) : Nat :=
  match s.saf.sealed with
  | none => s.moves.stopMask
  | some p => if p.cycle = s.cyc.cycle then (p.sto ||| p.ss1 ||| s.saf.hSto ||| s.saf.hSs1).toNat else s.moves.stopMask

/-- The SAF frame, and what its stops withdraw (R32, R33, R261). -/
def State.cycleStops (s : State) : State :=
  let mask := s.safMask
  let fresh := ofBools ((List.range 32).map (fun g => nbit mask g && !nbit s.moves.stopMask g))
  ((s.injectSaf).dropStepQueues fresh).holdNewStops mask

/-- Channel P's estimates of the head cycle (R306), on the sample of the last cycle's tasks. -/
def State.estimates (s : State) (k : Nat) : State :=
  (List.range 256).foldl (fun s a => if s.monitored a && decide (0 < k) then s.estimateP a (s.sampleOf a (k - 1)) else s) s

/-- The frames of the head in cycle k. -/
def State.headSend (s : State) : State :=
  let s1 := (List.range 8).foldl (fun s n => if s.segRuns n then s.sendCsf n else s) s
  let s2 := s1.cycleStops
  (List.range 8).foldl (fun s n => if s.segRuns n then (s.headRun n).sendExchanges n else s) s2

/-- What the head run and the exchanges of a cycle change on a standby, which sends nothing (R34). -/
def State.shadowRun (s : State) : State :=
  let k := s.cyc.cycle
  let takes := match s.twin.swap with
    | none => false
    | some w => !w.outgoing && decide (w.h ≤ k)
  if takes then s
  else (List.range 8).foldl (fun s n =>
    if s.segRuns n then
      (exchangesOf (s.sched n) k).foldl (fun s (r : SlotRec) => (s.takeRecords n r.node k).1.noteExchange n r.node k)
        (s.modSeg n (fun g => { g with revQ := [], supQ := [], schQ := [] }))
    else s) s

/-- What a planned swap does to the outgoing chip: its path set in the head run of cycle h − 2, and its end in cycle h (R367). -/
def State.swapOut (s : State) (k : Nat) : State :=
  match s.twin.swap with
  | none => s
  | some w =>
    if !w.outgoing then s
    else if k + 2 = w.h then
      (List.range 8).foldl (fun s n => if s.segRuns n then s.queueSup n (pathSet (b2n (!s.isBlack)) w.h) else s) s
    else if w.h ≤ k then
      let s1 := ((s.driveClocks false).raise 0x0901 2 0 (BitVec.ofNat 8 w.reason :: be 6 w.h)).cmdDone? w.ctx 0x0902 0 stDone
      { s1 with
        opening := { s1.opening with phase := .standby }
        twin := { s1.twin with
          standby := true, onMove := false, swap := none, synced := false, cleanVerdicts := 0, lastReason := w.reason, peerOnMove := true
          handovers := inc32 s1.twin.handovers } }
    else s

/-- The join of the standby at its boundary (R362 step 3). -/
def State.joinStandby (s : State) : State :=
  match s.twin.joinAt with
  | none => s
  | some t =>
    if s.twin.onMove && s.twinUp && decide (t ≤ s.coreTicks) then
      let s1 := s.put (.twin (.join
        { cycle := s.cyc.cycle, logPos := s.twin.logPos, sec := s.time.sec, ns := s.time.ns, rate := s.time.rate
          clockState := clockCode s.time.state, tEpoch := s.cyc.tEpoch
          figures := ((List.range 256).filter s.axisUsed).map (fun a => let l := (s.axis a).law; (a, l.d, l.phi, l.sigma))
          params := s.params, moves := s.moves.items.map (fun (x : MoveItem) => (x.e, moveCode x.state, x.ts)), keys := s.host.keys.given }))
      { s1 with twin := { s1.twin with joinAt := none } }
    else s

/-- At the wrap of the cycle number T_epoch moves on by 2^48 cycles, so that the next cycle 0 starts one period later (R5, R13; log 143). -/
def State.wrapCycle (s : State) : State :=
  if s.cyc.running = true ∧ s.cyc.cycle = 281474976710655 then
    { s with cyc := { s.cyc with tEpoch := s.tCycle 281474976710656 } }
  else s

end Sys2Proof.Machine
end

