-- ==== Sys2Proof/Machine/TwinOps.lean ====
section
/-! DEFINITION. Twin operation as shared operations: the link's envelope and epochs, health, joins, mismatch tests, quiet points and
hand-over (spec/12_twin_operation.md; spec/17_startup_and_domains.md R470, R471). -/

namespace Sys2Proof.Machine

def State.modTwin (s : State) (f : Twin → Twin) : State := { s with twin := f s.twin }

/-- FLAGS of DEV_INFO (Table CMD-3). -/
def State.devFlags (s : State) : Nat :=
  flagWord [(0, s.twin.onMove), (1, s.boot.twinPresent), (2, s.isBlack), (3, s.host.keys.default)]

/-- What the device knows of the bank that it runs. -/
def State.bankInForce (s : State) : Bank :=
  match s.boot.bank with
  | some 0 => s.boot.bankA
  | some _ => s.boot.bankB
  | none => Bank.reset

/-- The reverts of the last 60 min. -/
def State.recentReverts (s : State) : List Nat := s.twin.reverts.filter (fun t => decide (s.coreTicks < t + 3600000000000))

/-- TWN_STATUS (Table TWN-6). -/
def State.twnStatus (s : State) : Nat :=
  let t := s.twin
  let pending := match t.swap with
    | none => false
    | some w => decide (w.reason = 3 ∨ w.reason = 4)
  flagWord [(31, s.boot.twinPresent), (30, s.isBlack), (29, t.onMove), (28, s.twinUp), (27, t.peerHealthy && s.twinUp),
    (26, if t.onMove then t.peerSynced && s.twinUp else t.synced), (25, t.joining || t.joinAt.isSome || decide (t.copies ≠ [])), (24, t.split),
    (23, t.revertLock), (22, s.boot.twinPresent && (t.lane0 != t.lane1)), (21, pending)]
    + t.lastReason % 256 * 256 + min 3 s.recentReverts.length

/-! The link (R356, R470, R471). -/

/-- What a change of the twin link's epoch discards. -/
def State.twinEpochChange (s : State) : State :=
  s.modTwin (fun t =>
    { t with
      logs := [], trimLog := none, landed := [], digOwn := [], digPeer := [], misTests := [], copies := [], outOfStep := []
      peerSynced := false, synced := false, cleanVerdicts := 0, refused := false, joinAt := none, joining := t.standby })

/-- A message passes its envelope: the CRC, the lane, the reset epoch; `g` is its effect.  A control die that is still booting takes
none (R467). -/
def State.twinTake (s : State) (env : TwinEnv) (g : State → State) : Result :=
  if !s.boot.twinPresent || s.boot.booting then .next s
  else if !env.crcOk then .next (s.modTwin (fun t => { t with linkErrs := inc32 t.linkErrs }))
  else
    let r := epochSee s.twin.epoch env.epoch s.twin.zero (!s.boot.twinRole)
    let s1 := s.modTwin (fun t =>
      { t with
        epoch := r.1, zero := r.2.2.2, lastMsg := s.coreTicks
        lane0 := t.lane0 || env.lane == 0, lane1 := t.lane1 || env.lane == 1 })
    let s2 := if r.2.1 then s1.twinEpochChange else s1
    if r.2.2.1 then .next (g s2)
    else .next (if env.epoch ≠ 0 then s2.modTwin (fun t => { t with linkErrs := inc32 t.linkErrs }) else s2)

/-- The HEALTH message of the chip (R360, R361). -/
def State.healthMsg (s : State) : HealthMsg :=
  { healthy := s.healthy, synced := s.twin.synced, onMove := s.twin.onMove, key := BitVec.ofNat 64 s.ownKey
    engines := BitVec.ofNat 8 (ofBools ((List.range 8).map (fun e => (s.engine e).inService)))
    hashes := s.bankInForce.hashes, serial := Config.serial, flags := BitVec.ofNat 8 s.devFlags }

/-! Split brain and joins (R362, R371). -/

/-- SPLIT is set, and told once. -/
def State.markSplit (s : State) (peer : Nat) : State :=
  if s.twin.split then s else (s.modTwin (fun t => { t with split := true })).raise 0x0902 2 0 (be 8 peer)

/-- Both chips are on move: the higher key yields with reason 0x06. -/
def State.splitWith (s : State) (peer : Nat) : State :=
  let s1 := s.markSplit peer
  if peer < s.ownKey then
    let s2 := (s1.modTwin (fun t => { t with lastReason := 6, handovers := inc32 t.handovers, swap := none })).becomeStandby
    { s2 with saf := { s2.saf with twinBit := false } }
  else s1

/-- The sections that must agree: ENGINE_PROGRAMS, NETWORK_SCHEDULE, AXIS_TABLE, PROFILE_TABLES, SAFETY_PARAMS. -/
def joinSections : List Nat := [1, 2, 3, 4, 6]

/-- The on-move chip takes a joining peer, or refuses it (R362 step 1): the copy takes about 25 ms on two lanes, 50 ms on one. -/
def State.startJoin (s : State) (peer : List (BitVec 64)) : State :=
  let own := s.bankInForce.hashes
  if joinSections.all (fun i => decide (own.getD i 0 = peer.getD i 0)) then
    s.modTwin (fun t => { t with joining := true, joinAt := some (s.coreTicks + if t.lane0 && t.lane1 then 25000000 else 50000000) })
  else ((s.modTwin (fun t => { t with refused := true })).put (.twin .refuseJoin)).raise 0x0903 1 0 [0]

/-- A chip that went silent after a failed mismatch test rejoins as standby (R367). -/
def State.rejoin (s : State) : State :=
  let s1 := (List.range 16).foldl (fun s p => if s.segActive (p / 2) then s.modPort p (fun x => { x with idle := false }) else s) s
  ({ s1 with saf := { s1.saf with silent := false } }).becomeStandby

/-- What the peer's HEALTH says. -/
def State.takeHealth (s : State) (m : HealthMsg) : State :=
  let whole := m.healthy && m.synced && decide (m.engines = 0xFF)
  let s1 := s.modTwin (fun t =>
    { t with
      peerHealthy := m.healthy, peerSynced := m.synced, peerOnMove := m.onMove, peerKey := m.key, peerEngines := m.engines
      peerHashes := m.hashes, peerSerial := m.serial, peerFlags := m.flags
      joining := t.joining && !(t.onMove && m.synced)
      healthySince := if whole then (match t.healthySince with
        | none => some s.coreTicks
        | some x => some x) else none })
  if m.onMove then
    if s1.twin.onMove then s1.splitWith m.key.toNat
    else if s1.saf.silent && s1.opening.joinWanted then
      let s2 := s1.rejoin
      { s2 with twin := { s2.twin with joining := true }, opening := { s2.opening with joinWanted := false } }
    else if s1.saf.silent then s1
    else
      let s2 := if s1.opening.phase = .listen ∨ s1.opening.phase = .claim then s1.becomeStandby else s1
      if s2.twin.standby && s2.opening.joinWanted then
        { s2 with twin := { s2.twin with joining := true }, opening := { s2.opening with joinWanted := false } }
      else s2
  else if s1.twin.onMove && !m.synced && !s1.twin.joining && s1.twin.joinAt.isNone && !s1.twin.refused && s1.cyc.running then s1.startJoin m.hashes
  else s1

/-! Copies and mismatch tests (R358, R364, Table TWN-2). -/

/-- The axis's context block and learner table are copied from the on-move chip; the standby is unsynchronised meanwhile. -/
def State.copyOwner (s : State) (o : Owner) : State :=
  let s1 := s.modTwin (fun t => { t with axisCopies := inc32 t.axisCopies })
  if s.twin.standby then
    s1.modTwin (fun t => { t with copies := t.copies.filter (fun (c : Owner × Nat) => decide (c.1 ≠ o)) ++ [(o, s.cyc.cycle)], synced := false })
  else if s.twinUp then s1.put (.twin (.resync o)) else s1

/-- The on-move chip declares a hand-over and goes silent (R366, R367). -/
def State.declareSilent (s : State) (reason : Nat) : State :=
  let s1 := (s.put (.twin (.declare reason s.cyc.cycle none))).goSilent
  s1.modTwin (fun t => { t with lastReason := reason, handovers := inc32 t.handovers })

/-- The outcome of a test that both chips have reported (Table TWN-2). -/
def State.settleTest (s : State) (m : MisTest) (own peer : Bool) : State :=
  let s1 := if own then s else s.engineFail m.engine.val 1
  if s1.saf.silent || s1.saf.endgame.isSome then s1
  else if s1.twin.onMove then
    if !own && peer then
      let s2 := s1.declareSilent 2
      { s2 with opening := { s2.opening with joinWanted := true } }
    else s1.copyOwner m.owner
  else if own && !peer then s1
  else s1.copyOwner m.owner

/-- Every test with both outcomes is settled. -/
def State.settleTests (s : State) : State :=
  let due := s.twin.misTests.filter (fun (m : MisTest) => m.own.isSome && m.peer.isSome)
  due.foldl (fun s (m : MisTest) => s.settleTest m (m.own.getD true) (m.peer.getD true))
    (s.modTwin (fun t => { t with misTests := t.misTests.filter (fun (m : MisTest) => !(m.own.isSome && m.peer.isSome)) }))

/-! Quiet points (R373). -/

/-- A take-back is pending on some axis. -/
def State.takeBackPending (s : State) : Bool :=
  (List.range 8).any (fun n => decide ((s.seg n).revQ ≠ []))
  || (List.range 256).any (fun a => match (s.axis a).life.revUntil with
      | none => false
      | some m => decide (s.cyc.cycle ≤ m))

/-- No group is in SS1, no take-back is pending, and no join, copy or mismatch test is in progress. -/
def State.quiet (s : State) : Bool :=
  (List.range 32).all (fun g => decide ((s.saf.p.group g).code ≠ 1) && decide ((s.saf.h.group g).code ≠ 1))
  && !s.takeBackPending && !s.twin.joining && s.twin.joinAt.isNone && decide (s.twin.copies = []) && decide (s.twin.misTests = [])

/-- A planned swap is declared: h is the current cycle plus SWAP_LEAD (R366). -/
def State.planSwap (s : State) (reason : Nat) (ctx : Option CmdCtx) : State :=
  let h := s.cyc.cycle + s.parN 0x09000003 0
  (s.put (.twin (.declare reason s.cyc.cycle (some h)))).modTwin (fun t =>
    { t with swap := some { h := h, reason := reason, outgoing := true, ctx := ctx } })

/-! Hand-over (R264, R368). -/

/-- The range of the flush for an axis: a0 = h + 1 + min(D, D_p), its own entries (R264 step 1). -/
def State.flushAxis (s : State) (h a : Nat) : State :=
  let x := s.axis a
  if !x.life.lastEnable || (s.localPort a).isSome then s
  else
    let a0 := h + 1 + min (s.runAhead a) (s.dPath a)
    match x.law.newest with
    | none => s
    | some m => if m < a0 then s else s.sendRange a a0 ((List.range (m + 1 - a0)).map (fun i => s.sentEntry a (a0 + i)))

/-- The next exchange slot that a node owns from cycle k on. -/
def nextExchange (r : SlotRec) (k : Nat) : Nat := k + (r.phase + 2 ^ r.mux - k % 2 ^ r.mux) % 2 ^ r.mux

/-- An entry in flight at the flush (R264 steps 2 and 3): a DISPATCHED one is retimed and its record sent again while it still reaches
the node; a COMMITTED one is watched.  A field output is ordered on this chip's own die (R374). -/
def State.flushMove (s : State) (k : Nat) (x : MoveItem) : State :=
  if x.act = actField ∧ x.state = .dispatched then s.orderField x 1 x.ts
  else if x.act ≠ actNode then s
  else if x.state = .dispatched then
    let n := x.e.seg.toNat
    let tf := x.tf.getD x.ts
    let s1 := (s.queueRev n (.retime x.seqN tf) (s.cycleOf (min tf x.ts))).setMove { x with ts := tf }
    match s.exchange n x.e.target.toNat with
    | none => s1
    | some r =>
      let q := nextExchange r k
      if s.tCycle q + (s.latency x.e / 10 : Nat) ≤ tf then s1.setMove { x with ts := tf, due := some q } else s1
  else if x.state = .committed then s.setMove { x with watch := true, exchanges := 0 }
  else s

/-- The break at the silent outgoing chip, and its loop set (R368 step 4). -/
def State.breakAtTwin (s : State) (n : Nat) : State :=
  if s.isBlack then (s.queueSup n (loopSet 1)).foldAt n 0xFF (s.nextHop n 0)
  else (s.queueSup n (loopSet 2)).foldAt n (s.prevHop n 0xFF) 0xFF

/-- The standby's SAF part follows the last SEQ that its tap saw (R368 step 2). -/
def State.continueSeq (s : State) : State :=
  { s with saf := { s.saf with
      islandSeq := s.saf.tapSeq, reported := s.saf.tapSeq, reportTick := s.coreTicks
      sealed := s.saf.sealed.map (fun (p : SealedPart) => { p with seq := match s.saf.tapSeq with
        | none => p.seq
        | some q => (q + 1) % 65535 }) } }

/-- The ports of the device are driven: step ports take their entry of the cycle (R374). -/
def State.driveSteps (s : State) : State :=
  (List.range 8).foldl (fun s n =>
    if s.parN 0x04200001 n = 0 then s else s.driveStep n (fun p => ({ p with driven := true } : StepPort).loadEnable s.coreTicks)) s

/-- A gratuitous ARP for HEAD_IP on each plant port (R429). -/
def State.announceHead (s : State) : State :=
  (List.range 2).foldl (fun s p =>
    let ip := s.parN 0x02100007 p
    if ip = 0 then s else s.put (.gratuitousArp ⟨p % 2, by omega⟩ (BitVec.ofNat 32 ip))) s

/-- The served clock of a new on-move chip goes on without a step: a slew towards its selected source, or holdover; a clock never stepped
takes its first step when a source is valid (R400, R405). -/
def State.clockHead (s : State) : State :=
  let t := s.time
  let th := (s.source t.selected).theta
  { s with time :=
      if !t.timeValid then { t with step := if t.selected = 0 then t.step else some ⟨rdiv th 10, none⟩ }
      else if t.selected = 0 then { t with state := .holdover, slewDir := 0 }
      else { t with state := .slew, switched := true, slewDir := if th < 0 then -1 else 1 } }

/-- The first cycle of the new on-move chip (R368). -/
def State.takeHead (s : State) (w : Swap) : State :=
  let k := s.cyc.cycle
  let planned := decide (w.reason = 3 ∨ w.reason = 4)
  let s1 := ({ s with
    opening := { s.opening with phase := .idle }
    arb := { s.arb with level := s.cyc.trimNext.getD s.cyc.trim }
    twin := { s.twin with
      onMove := true, standby := false, swap := none, lastReason := w.reason, handovers := inc32 s.twin.handovers, hFlag := some k
      fwdUntil := some (k + 4), peerOnMove := false, missCycles := 0, synced := false, healthySince := none } }).raise 0x0901 2 0
    (BitVec.ofNat 8 w.reason :: be 6 w.h)
  let s2 := (s1.clockHead.continueSeq.driveSteps.driveClocks true).announceHead
  let s3 := (List.range 256).foldl (fun s a => s.flushAxis k a) s2
  let s4 := s3.moves.items.foldl (fun s x => s.flushMove k x) s3
  let s5 := (List.range 8).foldl (fun s n =>
    if s.segRuns n then
      let t := (s.modSeg n (fun g =>
        { g with nodes := smap (fun _ => NodeSt.reset) (fun _ x => { x with path := b2n s.isBlack }) g.nodes, csfMiss := 0, csfSeen := true, loopSide := 0 })).queueSup n
        (pathSet (b2n s.isBlack) (k + 1))
      if planned then t else t.breakAtTwin n
    else s) s4
  s5.headSend

end Sys2Proof.Machine
end

