-- ==== Sys2Proof/Machine/Twin.lean ====
section
/-! DEFINITION. The commands of twin operation (spec/12_twin_operation.md; R386, R400). -/

namespace Sys2Proof.Machine

/-! CSFs of another head (R365, R371, R400). -/

/-- FOREIGN_CSF_RECEIVE (R371): a CSF whose SERIAL is not the chip's own. -/
def execForeignCsfReceive (f : RxFrame) (s0 : State) : Result :=
  let s := s0.relay f
  let r := s.rx f
  let s1 := ((s.seeLoop f).countRx f.port.val r).noteLoop f
  match r with
  | .ok h pl =>
    if h.kind = tCsf ∧ s.twin.onMove = true ∧ field pl 40 6 ≠ Config.serial.toNat then
      .next (s1.splitWith (field pl 38 1 % 2 * 281474976710656 + field pl 40 6))
    else .next s1
  | _ => .next s1

/-- The expected arrival of the on-move chip's CSF at the standby's port A, in 0.1 ns behind t_k: the far end of the loop (R354). -/
def State.csfArrival (s : State) (n : Nat) : Nat :=
  let g := s.seg n
  if s.isBlack then g.lamN - s.tTw else g.lamN

/-- The standby's own copy of a schedule: when the CSF carries another SCHED_VER, its pending schedule is in force (R473, R477; log 179). -/
def State.followSchedule (s : State) (n ver : Nat) : State :=
  let g := s.seg n
  if g.sched.ver = ver then s
  else
    (s.modSeg n (fun g =>
      { g with sched := { g.pending.getD g.sched with ver := ver }, pending := none
               nodes := g.nodes.filter (fun (p : Nat × NodeSt) => !p.2.removed) })).setTimings.checkSection

/-- STANDBY_CSF_RECEIVE (R400): a contender in Listen joins as standby; a standby follows the CSF with its clock rate, and a CSF within ±W
of its expected arrival is not missing (R365).  A CSF of a cycle that starts after the link was lost shows that the head lives, and an
unlinked standby is not synchronised (R361).  A turned copy is only forwarded (R109). -/
def execStandbyCsfReceive (f : RxFrame) (s0 : State) : Result :=
  let s := s0.relay f
  let n := f.port.val / 2
  let r := s.rx f
  let s1 := (s.seeLoop f).countRx f.port.val r
  match r with
  | .ok h pl =>
    if h.kind ≠ tCsf ∨ h.loop = true then .next s1
    else if s.opening.phase = .listen then .next s1.becomeStandby
    else if !s.twin.standby || !s.cyc.running then .next s1
    else
      let c := s.rebuildCycle h.cyc
      let known := decide ((s.seg n).lamN ≠ 0)
      let e : Int := f.sfd + ((s.cyc.cycle : Int) - c) * (s.period * 10 : Nat) - (s.csfArrival n : Int)
      let w := schedW (s.sched n)
      let ok := !known || (decide (-w ≤ e) && decide (e < w))
      let s2 := if f.port.val % 2 = 0 && ok then s1.modTwin (fun t => { t with csfSeenA := if t.csfSeenA.contains n then t.csfSeenA else n :: t.csfSeenA }) else s1
      let s3 := if known && decide (f.port.val % 2 = 0) then
          { s2 with time := { s2.time with rate := clampI (-2147483) 2147483 (clampI (s.time.rate - 429) (s.time.rate + 429) (Config.loopRate (-e) 0 (s.parN 0x0B000003 0))) } }
        else s2
      let alone := !s.twin.lane0 && !s.twin.lane1 && decide (s.now - (s.coreTicks - s.twin.lastMsg : Nat) < t80ns ⟨BitVec.ofNat 48 (field pl 6 6), BitVec.ofNat 32 (field pl 12 4)⟩)
      let s4 := s3.followSchedule n (field pl 36 2)
      .next (if alone then s4.modTwin (fun t => { t with synced := false, cleanVerdicts := 0 }) else s4)
  | _ => .next s1

/-- TAKEOVER_UNDETECTED (R365, R366): h is the first cycle that starts at least 1.0 µs later. -/
def execTakeoverUndetected (s : State) : Result :=
  let t := s.twin
  whenB (s.boot.twinPresent && t.standby && t.synced && s.healthy && !t.lane0 && !t.lane1 && decide (2 ≤ t.missCycles) && s.cyc.running
      && t.swap.isNone) s
    (let h := if s.now + 1000 ≤ s.tCycle (s.cyc.cycle + 1) then s.cyc.cycle + 1 else s.cyc.cycle + 2
    s.modTwin (fun t => { t with swap := some { h := h, reason := 5, outgoing := false, ctx := none } }))

/-! The link (R356, R361, R362). -/

/-- HEALTH_SEND (R356): at least every 2 µs. -/
def execHealthSend (s : State) : Result :=
  whenB (s.boot.twinPresent && decide (s.twin.txHealth + 2000 ≤ s.coreTicks)) s
    ((s.put (.twin (.health s.healthMsg))).modTwin (fun t => { t with txHealth := s.coreTicks }))

/-- HEALTH (R361, R362, R371). -/
def execHealth (env : TwinEnv) (m : HealthMsg) (s : State) : Result := s.twinTake env (fun s => s.takeHealth m)

/-- TWIN_LINK_LOST (R356): 10 µs without a valid message on either lane. -/
def execTwinLinkLost (s : State) : Result :=
  whenB (s.boot.twinPresent && (s.twin.lane0 || s.twin.lane1) && decide (s.twin.lastMsg + 10000 ≤ s.coreTicks)) s
    (s.modTwin (fun t =>
      { t with
        lane0 := false, lane1 := false, peerHealthy := false, peerSynced := false, peerOnMove := false, healthySince := none
        joining := t.joining && t.standby, joinAt := none, trimLog := none }))

/-- TWIN_LANE_FAIL (R356, R469): the lane resets. -/
def execTwinLaneFail (lane : Fin 2) (s : State) : Result :=
  whenB s.boot.twinPresent s (s.modTwin (fun t => if lane = 0 then { t with lane0 := false } else { t with lane1 := false }))

/-- A standby past its join boundary. -/
def State.shadows (s : State) : Bool := s.twin.standby && !s.twin.joining

/-- LOG (R357, R276): the standby acknowledges the record; the command applies when its row comes, a trim level at the start of the cycle that
the record names. -/
def execLog (env : TwinEnv) (r : LogRec) (s : State) : Result :=
  s.twinTake env (fun s =>
    if s.shadows then
      let s1 := (s.put (.twin (.logAck r.pos))).modTwin (fun t => { t with logPos := r.pos })
      match r.trim with
      | some l => { s1 with cyc := { s1.cyc with trimNext := some l, trimAt := r.cycle } }
      | none => s1.modTwin (fun t => { t with landed := t.landed ++ [r] })
    else s)

/-- LOG_ACK (R357). -/
def execLogAck (env : TwinEnv) (pos : Nat) (s : State) : Result :=
  s.twinTake env (fun s => s.modTwin (fun t =>
    { t with
      logs := t.logs.map (fun (l : LogEntry) => if l.pos = pos then { l with acked := true } else l)
      trimLog := if t.trimLog = some pos then none else t.trimLog }))

/-- OFS_T of a local port: the standby's own count against the published one; a change by more than 1 count is told (R358). -/
def State.compareCount (s : State) (a n : Nat) (pub : Int) : State :=
  let d := (s.fb n).latched - pub
  let old := sget (fun _ => (0 : Int)) s.twin.ofsT n
  let known := s.twin.ofsTSet.contains n
  let s1 := s.modTwin (fun t =>
    { t with ofsT := sput (fun _ => 0) t.ofsT n d, ofsTSet := if known then t.ofsTSet else n :: t.ofsTSet })
  if known && decide (1 < (d - old).natAbs) then s1.raise 0x0903 1 a [2] else s1

/-- The task of a network axis on the standby: its own frame, or out of step when the record says NEW and none came (R358). -/
def State.releaseRemote (s : State) (a k : Nat) (isNew : Bool) : State :=
  let o : Owner := .axis ⟨a % 256, by omega⟩
  let m := s.sampleOf a k
  match s.axisSlot a useFbk with
  | none => s.makeReady o k m false (s.remoteWindow a)
  | some (n, r) =>
    match s.freshFrame n r m with
    | some p =>
      let f := fbkOf p.2 p.1 m
      let s1 := (s.dropWait n r m).takeFbk a f
      s1.makeReady o k m (isNew && f.measures) (s1.remoteWindow a)
    | none =>
      let s1 := s.modAxis a (fun x => { x with fbk := { x.fbk with isNew := false } })
      let s2 := if isNew then
          (s1.modTwin (fun t => { t with outOfStep := if t.outOfStep.contains o then t.outOfStep else t.outOfStep ++ [o] })).copyOwner o
        else s1
      s2.makeReady o k m false (s2.remoteWindow a)

/-- The task of a local axis on the standby: the words of the record (R358). -/
def State.releaseLocal (s : State) (a k : Nat) (isNew : Bool) (fb : List Word48) : State :=
  let n := s.parN 0x04000101 a
  let raw := (fb.getD 0 0).toInt
  let s1 := (s.localDrive a).torqueReported a
  let s2 := if n < 16 then s1.compareCount a n raw else s1
  let s3 := if isNew && decide (n < 16) then s2.safRaw a k raw else s2
  s3.makeReady (.axis ⟨a % 256, by omega⟩) k k isNew fb

/-- The line-master task on the standby, with the words of the record. -/
def State.releaseLineTwin (s : State) (k : Nat) (isNew : Bool) (fb : List Word48) : State :=
  let s1 := s.lineCompare.lineSwitch
  let s2 := { s1 with line := { s1.line with
    primaryFault := s1.primaryFaulted, newCount := isNew, noCount := if isNew then 0 else s1.line.noCount + 1 } }
  let n := if s2.line.onB then s2.lineB else s2.lineA
  let s3 := if n < 16 then s2.compareCount 0 n ((fb.getD 0 0).toInt - if s2.line.onB then s2.line.ofs else 0) else s2
  let s4 := (List.range 16).foldl (fun s i => s.modFb i (fun x => { x with puNow := false })) s3
  s4.makeReady .line k k isNew fb

/-- RELEASE (R358): the task of that owner and cycle, once. -/
def execRelease (env : TwinEnv) (m : ReleaseMsg) (s : State) : Result :=
  s.twinTake env (fun s =>
    if s.shadows && s.cyc.running && !s.isReleased m.owner m.cycle then
      match m.owner with
      | .line => s.releaseLineTwin m.cycle m.isNew m.fb
      | .axis a => if s.localAxis a.val then s.releaseLocal a.val m.cycle m.isNew m.fb else s.releaseRemote a.val m.cycle m.isNew
    else s)

/-- DIGEST (R359, R364): compared with the standby's own digests of the cycle, now or at its own seal. -/
def execDigest (env : TwinEnv) (cycle : Nat) (ds : List (BitVec 32)) (s : State) : Result :=
  s.twinTake env (fun s =>
    if s.shadows then
      match sget (fun _ => ([] : List (BitVec 32))) s.twin.digOwn cycle with
      | [] => s.modTwin (fun t => { t with digPeer := (sput (fun _ => []) t.digPeer cycle ds).filter (fun (p : Nat × List (BitVec 32)) => decide (cycle < p.1 + 4)) })
      | own => (s.modTwin (fun t => { t with digOwn := t.digOwn.filter (fun (p : Nat × List (BitVec 32)) => decide (cycle < p.1)) })).compareDigests cycle own ds
    else s)

/-- VERDICT (R364). -/
def execVerdict (env : TwinEnv) (cycle : Nat) (mismatches : List Nat) (s : State) : Result :=
  s.twinTake env (fun s => if s.twin.onMove then s.takeVerdict cycle mismatches else s)

/-- MISMATCH_TEST_START (R364): from cycle k + 2 on, while no engine is rotated; the engine leaves dispatch for one cycle.  What the fixed
test vector finds is open. -/
def execMismatchTestStart (s : State) : Result :=
  let rotated := (List.range 8).any (fun e => (s.engine e).rotated)
  match s.twin.misTests.find? (fun (m : MisTest) => !m.started && decide (m.cycle + 2 ≤ s.cyc.cycle)) with
  | none => .next s
  | some m =>
    if rotated then .next s
    else
      let pass := Config.freeBool s.freeCtr
      let s1 := (s.useFree 1).modEngine m.engine.val (fun x => { x with testDue := some (s.coreTicks + s.period) })
      let s2 := (s1.put (.twin (.test m.engine pass))).modTwin (fun t =>
        { t with misTests := t.misTests.map (fun (x : MisTest) => if x.owner = m.owner then { x with started := true, own := some pass } else x) })
      .next s2.settleTests

/-- TEST (R364): the peer's outcome of the oldest test that lacks one. -/
def execTest (env : TwinEnv) (_engine : EngIx) (peerPass : Bool) (s : State) : Result :=
  s.twinTake env (fun s =>
    match s.twin.misTests.find? (fun (m : MisTest) => m.peer.isNone) with
    | none => s
    | some m => (s.modTwin (fun t =>
        { t with misTests := t.misTests.map (fun (x : MisTest) => if x.owner = m.owner then { x with peer := some peerPass } else x) })).settleTests)

/-- DECLARE (R366): a synchronised, healthy standby fixes h. -/
def execDeclare (env : TwinEnv) (reason : BitVec 8) (last : Nat) (h : Option Nat) (s : State) : Result :=
  s.twinTake env (fun s =>
    if s.twin.standby && s.twin.synced && s.healthy then
      let before := decide (s.cyc.cycle ≤ last) && decide (s.cyc.sealedFor ≠ some last)
      let first := match h with
        | some c => c
        | none => if before then last + 1 else last + 2
      s.modTwin (fun t => { t with swap := some { h := first, reason := reason.toNat, outgoing := false, ctx := none } })
    else s)

/-- RESYNC (R362 step 2, R364): pages of the shared engine memories (Table ENG-4); a copied axis is in step once its context block has
come. -/
def execResync (env : TwinEnv) (addr : Nat) (words : List Word48) (s : State) : Result :=
  s.twinTake env (fun s =>
    if s.twin.standby then
      let n := words.length
      let s1 : State :=
        if 0x40000 ≤ addr ∧ addr + n ≤ 0x80000 then { s with eng := { s.eng with context := sputs (fun _ => 0) s.eng.context (addr - 0x40000) words } }
        else if 0x80000 ≤ addr ∧ addr + n ≤ 0xC0000 then { s with eng := { s.eng with pool := sputs (fun _ => 0) s.eng.pool (addr - 0x80000) words } }
        else if 0xC0000 ≤ addr ∧ addr + n ≤ 0x100000 then { s with eng := { s.eng with segPool := sputs (fun _ => 0) s.eng.segPool (addr - 0xC0000) words } }
        else if 0x30000 ≤ addr ∧ addr + n ≤ 0x40000 then { s with eng := { s.eng with lineBlock := sputs (fun _ => 0) s.eng.lineBlock (addr - 0x30000) words } }
        else s
      let hit (o : Owner) : Bool := match o with
        | .axis a => decide (addr ≤ 0x40000 + a.val * 1024) && decide (0x40000 + a.val * 1024 < addr + n)
        | .line => decide (addr ≤ 0x30000) && decide (0x30000 < addr + n)
      s1.modTwin (fun t => { t with copies := t.copies.filter (fun (c : Owner × Nat) => !hit c.1), outOfStep := t.outOfStep.filter (fun o => !hit o) })
    else s)

/-- A move-list entry that a joining standby takes over. -/
def joinedMove (x : MoveEntry × Nat × Int) : MoveItem := { newItem x.1 with state := moveOfCode x.2.1, ts := x.2.2 }

/-- JOIN_BOUNDARY (R362 step 3, R405): the served time, rate and clock state, T_epoch and the cycle of b; the one step a joining standby
makes.  With them come the parameters, the move list and the role keys of the on-move chip (R362, R486). -/
def execJoinBoundary (env : TwinEnv) (m : JoinMsg) (s : State) : Result :=
  s.twinTake env (fun s =>
    if s.twin.standby && s.twin.joining then
      let st : ClockState := match m.clockState with
        | 1 => .locked
        | 2 => .slew
        | 3 => .holdover
        | _ => .free
      let s1 := { s.takeKeys m.keys with
        params := m.params.foldl (fun p (x : Nat × Int) => sput paramDefault p x.1 x.2) []
        moves := { s.moves with items := m.moves.map joinedMove }
        time := { s.time with
          sec := m.sec, ns := m.ns, frac := 0, rate := m.rate, state := st, timeValid := decide (m.clockState ≠ 0)
          ppsSec := if m.ns = 0 then s.time.ppsSec else m.sec }
        cyc := { s.cyc with cycle := m.cycle, running := true, tEpoch := m.tEpoch, dispatched := false, sealedFor := none, movePassed := none }
        opening := { s.opening with phase := .standby, joinWanted := false }
        twin := { s.twin with joining := false, cleanVerdicts := 0, lastMatch := false, logPos := m.logPos, landed := s.twin.landed.filter (fun (r : LogRec) => decide (m.logPos < r.pos)) } }
      let s2 := ({ s1 with saf := { s1.saf with p := s1.saf.p.openUplinks m.cycle, h := s1.saf.h.openUplinks m.cycle } }).applyNet
      let s3 := (List.range 8).foldl (fun s n => if s.segActive n then s.modSeg n (fun g => { g with phase := .run, closed := true, syncFrom := m.cycle }) else s) s2
      m.figures.foldl (fun s (x : Nat × Nat × Nat × Nat) => s.modLaw x.1 (fun l => { l with d := x.2.1, phi := x.2.2.1, sigma := x.2.2.2 })) s3
    else s)

/-- SYNCHRONISED (R361): SYNC_CLEAN matching verdicts, the last one a match, with no copy running (R364: 2 cycles at most). -/
def execSynchronised (s : State) : Result :=
  let t := s.twin
  let copying := t.copies.any (fun (c : Owner × Nat) => decide (s.cyc.cycle < c.2 + 2))
  whenB (s.shadows && s.twinUp && !t.synced && t.lastMatch && decide (s.parN 0x09000004 0 ≤ t.cleanVerdicts) && !copying) s
    (s.modTwin (fun t => { t with synced := true, copies := [] }))

/-- TRIGGER (R386): units on the twin-link source fire in the tick in which the message arrives. -/
def execTrigger (env : TwinEnv) (_t : T80) (_mask : BitVec 8) (s : State) : Result :=
  s.twinTake env (fun s =>
    (List.range 8).foldl (fun s u =>
      if s.unitSrc u = 0x58 ∧ s.unitCond u = 2 then s.setTunit u { s.tunit u with fired := true, fireStamp := some s.now } else s) s)

/-! Hand-over (R366 to R369, R373). -/

/-- HANDOVER_START (R368): the standby heads the segments from cycle h on. -/
def execHandoverStart (s : State) : Result :=
  match s.twin.swap with
  | none => .next s
  | some w => whenB (s.twin.standby && !w.outgoing && s.cyc.running && decide (w.h ≤ s.cyc.cycle)) s (s.takeHead w)

/-- OLD_TRAIN_FORWARD_END (R369). -/
def execOldTrainForwardEnd (s : State) : Result :=
  match s.twin.fwdUntil with
  | none => .next s
  | some c => whenB (decide (c ≤ s.cyc.cycle)) s (s.modTwin (fun t => { t with fwdUntil := none }))

/-- SWAP_ABANDON (R366): a quiet-point condition of R373 fails before h; told, and the command that asked for it completes. -/
def execSwapAbandon (s : State) : Result :=
  match s.twin.swap with
  | none => .next s
  | some w =>
    let peerOk := !w.outgoing || (s.twinUp && s.twin.peerHealthy && s.twin.peerSynced && decide (s.twin.peerEngines = 0xFF))
    whenB (decide (w.reason = 3 ∨ w.reason = 4) && decide (s.cyc.cycle < w.h) && !(s.quiet && peerOk)) s
      (((s.modTwin (fun t => { t with swap := none })).raise 0x0903 1 0 [1]).cmdDone? w.ctx 0x0902 0 stNotQuiet)

/-- REVERT (R373): Black hands the head role back. -/
def execRevert (s : State) : Result :=
  let t := s.twin
  let whole := match t.healthySince with
    | none => false
    | some x => decide (x + s.parN 0x09000002 0 * 1000000000 ≤ s.coreTicks)
  whenB (t.onMove && s.isBlack && s.twinUp && decide (s.parN 0x09000001 0 = 1) && whole && t.peerHealthy && t.peerSynced && s.quiet && t.swap.isNone
      && !t.revertLock && decide (s.recentReverts.length < 3)) s
    ((s.planSwap 4 none).modTwin (fun t =>
      { t with reverts := s.coreTicks :: s.recentReverts, revertLock := decide (2 ≤ s.recentReverts.length) }))

/-! Commands (Table CMD-3, class 0x09). -/

/-- TWN_INFO (0x0901). -/
def execTwnInfo (c : CmdCtx) (s : State) : Result :=
  s.hostAt c (.twnInfo c) { op := 0x0901, need := roleView, move := false, logged := false } true (fun s =>
    .ok s stDone (be 4 s.twnStatus ++ be 6 s.twin.peerSerial.toNat ++ [s.twin.peerFlags]))

/-- TWN_SWAP (0x0902, R372, Table TWN-8). -/
def execTwnSwap (c : CmdCtx) (s : State) : Result :=
  s.host_ c { op := 0x0902, need := roleEngineer, move := false, logged := false } true (fun s =>
    let t := s.twin
    if s.boot.twinPresent && !t.onMove then .refuse stNotOnMove []
    else if !s.twinUp || !t.peerHealthy then .refuse stNoTwin []
    else if !t.peerSynced then .refuse stNotSynced []
    else if t.swap.isSome then .refuse stSwapPending []
    else if !s.quiet || decide (t.peerEngines ≠ 0xFF) then .refuse stNotQuiet []
    else
      let s1 := (s.planSwap 3 (some c)).modTwin (fun t => { t with revertLock := false })
      .ok s1 stAccepted (be 6 (s.cyc.cycle + s.parN 0x09000003 0)))

end Sys2Proof.Machine
end

