-- ==== Sys2Proof/Machine/Readings.lean ====
section
/-! DEFINITION. The parameter objects that are no parameters: status words with their W1C fields, and readings (R441 to R443; Tables
FRM-3, FBK-8, FBK-9, ENG-20, ENG-21, LAW-10, PRO-7, RUN-7 to RUN-9, ARB-5 to ARB-8, SAF-8 to SAF-10, FLD-7 to FLD-9, TWN-6, TWN-9,
SCS-7, SCS-8, TIM-7, TIM-8, HST-7 and SVC-4). -/

namespace Sys2Proof.Machine

/-- A status word or reading: the ID of its first instance, how many follow at steps of 0x1000, whether the line master has one at
instance 0x110, the W1C bits of a status word, and whether a reading clears on read. -/
structure ObjRow where
  base : Nat
  count : Nat
  line : Bool
  w1c : Nat
  clears : Bool
  deriving DecidableEq, Repr

/-- The status words. -/
def wordRows : List ObjRow := [
  ⟨0x07000040, 16, false, 0x00F00000, false⟩,
  ⟨0x04000180, 256, true, 0x1F800000, false⟩,
  ⟨0x01060040, 8, false, 0x00FC0000, false⟩,
  ⟨0x04000190, 256, false, 0x00040000, false⟩,
  ⟨0x040001A0, 256, false, 0x07800000, false⟩,
  ⟨0x041101D8, 1, false, 0x38000000, false⟩,
  ⟨0x06000040, 1, false, 0x20000000, false⟩,
  ⟨0x0C000040, 1, false, 0x04000000, false⟩,
  ⟨0x0C110040, 16, false, 0x20000000, false⟩,
  ⟨0x040001C8, 256, false, 0x40000000, false⟩,
  ⟨0x08000040, 1, false, 0, false⟩,
  ⟨0x08100040, 32, false, 0x03E00000, false⟩,
  ⟨0x0D000040, 1, false, 0x03800000, false⟩,
  ⟨0x0D200040, 8, false, 0x00900000, false⟩,
  ⟨0x09000040, 1, false, 0x01000000, false⟩,
  ⟨0x0A000040, 1, false, 0, false⟩,
  ⟨0x0B000040, 1, false, 0x08000000, false⟩]

def countRow (base count : Nat) (line : Bool) : ObjRow := ⟨base, count, line, 0, true⟩
def valueRow (base count : Nat) (line : Bool) : ObjRow := ⟨base, count, line, 0, false⟩

/-- The readings. -/
def readRows : List ObjRow := [
  valueRow 0x04000181 256 true, valueRow 0x04000182 256 true, valueRow 0x04000183 256 true, valueRow 0x04000184 256 true,
  countRow 0x04000185 256 true,
  countRow 0x04100041 16 false, countRow 0x04100042 16 false, countRow 0x04100043 16 false, valueRow 0x04100044 16 false,
  valueRow 0x04100045 16 false, countRow 0x04100046 16 false, countRow 0x04100047 16 false, valueRow 0x04100048 16 false,
  valueRow 0x01060041 8 false, countRow 0x01060042 8 false, countRow 0x01060043 8 false,
  valueRow 0x04000122 256 true, countRow 0x04000123 256 true, countRow 0x04000124 256 true, countRow 0x04000125 256 true,
  valueRow 0x04000126 256 true,
  countRow 0x04000191 256 false,
  valueRow 0x040001A1 256 false, countRow 0x040001A2 256 false, countRow 0x040001A3 256 false,
  valueRow 0x040001B1 256 false, valueRow 0x040001B2 256 false, valueRow 0x040001B3 256 false] ++ [
  countRow 0x06000041 1 false, countRow 0x06000042 1 false, countRow 0x06000043 1 false, countRow 0x06000044 1 false,
  countRow 0x06000045 1 false, countRow 0x06000046 1 false, countRow 0x06000047 1 false, countRow 0x06000048 1 false,
  valueRow 0x0C000041 1 false, valueRow 0x0C000042 1 false,
  valueRow 0x0C000050 1 false, valueRow 0x0C000051 1 false, valueRow 0x0C000052 1 false, valueRow 0x0C000053 1 false,
  valueRow 0x0C000054 1 false, valueRow 0x0C000055 1 false, valueRow 0x0C000056 1 false, valueRow 0x0C000057 1 false,
  valueRow 0x0C110041 16 false, valueRow 0x0C110042 16 false, countRow 0x0C110043 16 false,
  countRow 0x08000041 1 false, countRow 0x08000042 1 false, countRow 0x08000043 1 false, countRow 0x08000044 1 false,
  countRow 0x08000045 1 false] ++ [
  valueRow 0x0D000041 1 false, valueRow 0x0D000042 1 false, valueRow 0x0D000043 1 false, countRow 0x0D000044 1 false,
  countRow 0x0D000045 1 false, countRow 0x0D000046 1 false, countRow 0x0D000047 1 false, countRow 0x0D000048 1 false,
  countRow 0x09000041 1 false, countRow 0x09000042 1 false, countRow 0x09000043 1 false, countRow 0x09000044 1 false,
  countRow 0x09000045 1 false,
  countRow 0x0A000041 1 false, countRow 0x0A000042 1 false, countRow 0x0A000043 1 false, countRow 0x0A000044 1 false,
  valueRow 0x0A100041 64 false, valueRow 0x0A100042 64 false, valueRow 0x0A100043 64 false, valueRow 0x0A100044 64 false,
  valueRow 0x0A200041 8 false, valueRow 0x0A200042 8 false, valueRow 0x0A200043 8 false, valueRow 0x0A200044 8 false] ++ [
  valueRow 0x0B000041 1 false, valueRow 0x0B000042 1 false, countRow 0x0B000043 1 false, countRow 0x0B000044 1 false,
  valueRow 0x0B300041 4 false, valueRow 0x0B300042 4 false, countRow 0x0B300043 4 false,
  countRow 0x02000041 1 false, countRow 0x02000042 1 false, countRow 0x02000043 1 false, countRow 0x02000044 1 false,
  countRow 0x02000045 1 false, countRow 0x02100041 2 false, countRow 0x02100042 2 false,
  valueRow 0x07500041 8 false, valueRow 0x07500042 8 false, valueRow 0x07500043 8 false, valueRow 0x07500044 8 false,
  valueRow 0x07500045 8 false, valueRow 0x07500046 8 false, valueRow 0x07500047 8 false, valueRow 0x07500048 8 false,
  countRow 0x0F000041 1 false, countRow 0x0F000042 1 false, countRow 0x040001E1 256 false]

/-- The instance of a row that an ID names. -/
def ObjRow.inst (r : ObjRow) (id : Nat) : Option Nat :=
  if r.base ≤ id ∧ (id - r.base) % 4096 = 0 then
    let i := (id - r.base) / 4096
    if i < r.count ∨ (r.line = true ∧ i = lineInst) then some i else none
  else none

/-- The row and instance of an ID in a list of rows. -/
def objFind : List ObjRow → Nat → Option (ObjRow × Nat)
  | [], _ => none
  | r :: rs, id => match r.inst id with
    | some i => some (r, i)
    | none => objFind rs id

/-- The object that an ID names (R441). -/
inductive Obj where
  | param (r : ParamRow) (i : Nat)
  | word (r : ObjRow) (i : Nat)
  | reading (r : ObjRow) (i : Nat)
  deriving DecidableEq, Repr

def objOf (id : Nat) : Option Obj :=
  match paramFind id with
  | some (r, i) => some (.param r i)
  | none => match objFind wordRows id with
    | some (r, i) => some (.word r i)
    | none => match objFind readRows id with
      | some (r, i) => some (.reading r i)
      | none => none

/-- The owner at an instance of class 0x04. -/
def ownerAt (i : Nat) : Owner := if h : i < 256 then .axis ⟨i, h⟩ else .line

/-! Status words. -/

/-- PORT_STATUS (Table FRM-3). -/
def State.portStatus (s : State) (p : Nat) : Nat :=
  let x := s.port p
  let loop := match x.loopCycle with
    | none => false
    | some c => decide (c + 1 = s.cyc.cycle)
  flagWord [(31, x.link), (30, x.sync), (29, x.anDone), (28, loop), (23, x.crcErr), (22, x.abort), (21, x.fmtErr), (20, x.late)]

/-- FB_STATUS (Table FBK-8): the flags of local ports are those of the ports that the owner consumes (R136). -/
def State.fbStatus (s : State) (o : Owner) : Nat :=
  let x := s.ownerObs o
  let ps := s.ownerPorts o
  let f (g : FbPort → Bool) : Bool := ps.any (fun n => g (s.fb n))
  let remote := match o with
    | .axis a => decide (s.parN 0x04000101 a.val = 0x80)
    | .line => decide (s.lineA = 0x80)
  flagWord [(31, x.still), (30, x.settlingFlag), (29, x.dir), (28, f FbPort.pu), (27, x.qerr || f FbPort.qerr), (26, f FbPort.inferred),
    (25, f FbPort.drift), (24, f FbPort.herr), (23, f FbPort.ssiErr), (22, f FbPort.idxValid), (21, x.predicted), (20, remote)]
    + min 255 x.age * 256

/-- ENG_STATUS (Table ENG-20). -/
def State.engStatus (s : State) (e : Nat) : Nat :=
  let x := s.engine e
  flagWord [(31, x.inService), (30, x.rotated), (29, x.failed), (28, x.task.isSome), (23, x.eccCorr), (22, x.eccUnc), (21, x.illegal),
    (20, x.addrFault), (19, x.arith), (18, x.watchdog)] + x.lastTask % 512

/-- AXIS_STATUS (Table LAW-10). -/
def State.axisStatus (s : State) (a : Nat) : Nat :=
  let l := (s.axis a).life
  axCode l.state * 268435456 + l.stopKind % 16 * 16777216
    + flagWord [(23, l.held.isSome), (22, s.holdLaw a), (21, l.lrnActive), (20, l.lrnPaused), (19, s.revPending a), (18, l.tlimSat),
      (17, l.parked), (16, l.direct)] + l.cause % 256 * 256

/-- PRO_STATUS (Table PRO-7). -/
def State.proStatus (s : State) (a : Nat) : Nat :=
  let p := (s.axis a).prof
  flagWord [(31, p.running), (30, p.waiting), (29, decide (p.homing ≠ .none)), (28, p.homed), (27, p.strong), (26, p.loss),
    (25, p.grpStopped), (24, p.homeFail), (23, p.dirAdj)] + p.seg % 65536

/-- LINE_STATUS (Table RUN-7). -/
def State.lineStatus (s : State) : Nat :=
  let l := s.line
  flagWord [(31, l.valid), (30, l.onB), (29, l.disagree), (28, l.switched), (27, l.lost)] + min 65535 l.disc.natAbs

/-- MOV_STATUS (Table RUN-8). -/
def State.movStatus (s : State) : Nat :=
  flagWord [(31, s.moves.items.any (fun (x : MoveItem) => decide (x.state = .held))), (30, s.trimmed 2), (29, s.moves.missedAny)]
    + s.moves.items.length % 8192

/-- ARB_STATUS (Table ARB-5). -/
def State.arbStatus (s : State) : Nat :=
  s.arb.inForce % 8 * 536870912 + flagWord [(28, s.arb.overHeat), (27, s.arb.sensorFault), (26, s.arb.exhausted)] + s.arb.valid.toNat * 65536

/-- PG_STATUS (Table ARB-6). -/
def State.pgStatus (s : State) (g : Nat) : Nat :=
  let w := s.pgroup g
  flagWord [(31, decide (w.e < 0)), (30, w.blocked), (29, w.dmax)] + (s.waitingReqs g).length % 512

/-- ARB_AXIS (Table ARB-7). -/
def State.arbAxis (s : State) (a : Nat) : Nat :=
  let x := s.axis a
  flagWord [(31, x.req.isSome), (30, x.dmaxHit)] + (match x.req with
    | none => 0
    | some q => min 16777215 q.defer)

/-- SAF_STATUS (Table SAF-8). -/
def State.safStatus (s : State) : Nat :=
  let f := s.saf
  flagWord [(31, f.p.ok), (30, f.h.ok), (29, f.endgame.isSome), (28, f.p.paramOk && f.h.paramOk), (27, f.pendingSec.isSome),
    (26, s.ackEdgeOk), (25, f.tempTrip), (24, f.twinBit)] + f.islandSeq.getD 0 % 65536

/-- GRP_STATUS (Table SAF-9). -/
def State.grpStatus (s : State) (g : Nat) : Nat :=
  let f := s.grpFlags g
  let p := s.saf.p.group g
  let h := s.saf.h.group g
  let dp := s.demandActive .p g
  let dh := s.demandActive .h g
  s.groupState g % 4 * 1073741824
    + flagWord [(29, decide (s.groupState g = 2) && !dp && !dh), (28, dp), (27, dh), (26, p.confirmed && h.confirmed), (25, f.envBreak),
      (24, f.tMax), (23, f.upLost), (22, f.fbDisc), (21, f.wdNode)]
    + f.cause % 256 * 256

/-- The output held by an enable (R332). -/
def State.outHeld (s : State) (j : Nat) : Bool :=
  (sget (fun _ => (none : Option CmdCtx)) s.fld.held j).isSome || (s.fq j).holdOrder.isSome

/-- Valid frames have arrived in the last 4 frame periods (Table FLD-7). -/
def State.recentFrame (s : State) (t : Option Nat) : Bool :=
  match t with
  | none => false
  | some t => decide (s.coreTicks < t + 62500)

/-- FLD_STATUS (Table FLD-7), from the last valid channel M frame. -/
def State.fldStatus (s : State) : Nat :=
  let flags := (byteAt s.fld.up 5).toNat
  nbits flags 3 2 * 1073741824
    + flagWord [(29, s.recentFrame s.fld.lastM), (28, s.recentFrame s.fld.lastH), (27, nbit flags 7), (26, nbit flags 0),
      (25, s.fld.fieldRestarted), (24, s.fld.wdExpired), (23, s.fld.tpFail)]
    + s.fld.fiLevels.toNat

/-- FQ_STATUS (Table FLD-8), from the last valid channel M frame. -/
def State.fqStatus (s : State) (j : Nat) : Nat :=
  let st := (byteAt s.fld.up (8 + j)).toNat
  flagWord [(31, s.fld.cmd.getLsbD j), (30, nbit st 7), (29, nbit (byteAt s.fld.up 6).toNat j), (28, s.outHeld j), (27, nbit st 6),
    (26, nbit st 5), (25, nbit st 4), (24, nbit (byteAt s.fld.up 5).toNat 1), (23, s.fld.shortVf.getLsbD j), (22, nbit st 2),
    (21, nbit st 1), (20, s.fld.demagLong.getLsbD j)]

def scsCode : ScsPhase → Nat
  | .idle => 0
  | .waitMaster => 1
  | .waitFire => 2
  | .post => 3
  | .done => 4

/-- SCS_STATUS (Table SCS-7). -/
def State.scsStatus (s : State) : Nat :=
  let x := s.scs
  scsCode x.phase * 536870912 + flagWord [(28, x.preShort), (27, x.gaps), (26, x.forced), (15, x.first.isSome)]
    + x.fireMask % 256 * 65536 + x.first.getD 0 % 8 * 4096

/-- TIM_STATUS (Table TIM-7). -/
def State.timStatus (s : State) : Nat :=
  let t := s.time
  clockCode t.state * 1073741824
    + flagWord [(29, t.timeValid), (28, t.step.isSome), (27, t.timeFault), (26, t.offsetHigh), (25, decide (t.state = .holdover)),
      (24, s.twin.standby)]
    + t.selected % 16 * 1048576 + ofBools ((List.range 4).map (fun c => (s.source (c + 1)).valid)) * 65536

/-- The value of a status word. -/
def State.wordValue (s : State) (base i : Nat) : Nat :=
  if base = 0x07000040 then s.portStatus i
  else if base = 0x04000180 then s.fbStatus (ownerAt i)
  else if base = 0x01060040 then s.engStatus i
  else if base = 0x04000190 then s.axisStatus i
  else if base = 0x040001A0 then s.proStatus i
  else if base = 0x041101D8 then s.lineStatus
  else if base = 0x06000040 then s.movStatus
  else if base = 0x0C000040 then s.arbStatus
  else if base = 0x0C110040 then s.pgStatus i
  else if base = 0x040001C8 then s.arbAxis i
  else if base = 0x08000040 then s.safStatus
  else if base = 0x08100040 then s.grpStatus i
  else if base = 0x0D000040 then s.fldStatus
  else if base = 0x0D200040 then s.fqStatus i
  else if base = 0x09000040 then s.twnStatus
  else if base = 0x0A000040 then s.scsStatus
  else s.timStatus

/-- The bits of `mask` leave an 8-bit field. -/
def clearBits8 (v : BitVec 8) (j : Nat) (b : Bool) : BitVec 8 := if b then BitVec.ofNat 8 (nsetBit v.toNat j false) else v

/-- A write of 1 to the W1C bits of a status word; every other bit is ignored (R444). -/
def State.w1c (s : State) (base i mask : Nat) : State :=
  let keep (b : Bool) (n : Nat) : Bool := b && !nbit mask n
  if base = 0x07000040 then
    s.modPort i (fun x =>
      { x with crcErr := keep x.crcErr 23, abort := keep x.abort 22, fmtErr := keep x.fmtErr 21, late := keep x.late 20 })
  else if base = 0x04000180 then s.fbW1c (ownerAt i) mask
  else if base = 0x01060040 then
    s.modEngine i (fun x =>
      { x with
        eccCorr := keep x.eccCorr 23, eccUnc := keep x.eccUnc 22, illegal := keep x.illegal 21, addrFault := keep x.addrFault 20
        arith := keep x.arith 19, watchdog := keep x.watchdog 18 })
  else if base = 0x04000190 then s.modLife i (fun l => { l with tlimSat := keep l.tlimSat 18 })
  else if base = 0x040001A0 then
    s.modProf i (fun p =>
      { p with
        loss := keep p.loss 26, grpStopped := keep p.grpStopped 25, homeFail := keep p.homeFail 24, dirAdj := keep p.dirAdj 23 })
  else if base = 0x041101D8 then s.lineW1c mask
  else if base = 0x06000040 then s.modMoves (fun m => { m with missedAny := keep m.missedAny 29 })
  else if base = 0x0C000040 then { s with arb := { s.arb with exhausted := keep s.arb.exhausted 26 } }
  else if base = 0x0C110040 then s.modPgroup i (fun w => { w with dmax := keep w.dmax 29 })
  else if base = 0x040001C8 then s.modAxis i (fun x => { x with dmaxHit := keep x.dmaxHit 30 })
  else if base = 0x08100040 then
    s.modGrpFlags i (fun f =>
      { f with
        envBreak := keep f.envBreak 25, tMax := keep f.tMax 24, upLost := keep f.upLost 23, fbDisc := keep f.fbDisc 22
        wdNode := keep f.wdNode 21 })
  else if base = 0x0D000040 then
    { s with fld := { s.fld with
        fieldRestarted := keep s.fld.fieldRestarted 25, wdExpired := keep s.fld.wdExpired 24, tpFail := keep s.fld.tpFail 23 } }
  else if base = 0x0D200040 then
    let s1 := if nbit mask 23 then s.modFq i (fun x => { x with shortVf := false }) else s
    { s1 with fld := { s1.fld with
        shortVf := clearBits8 s1.fld.shortVf i (nbit mask 23), demagLong := clearBits8 s1.fld.demagLong i (nbit mask 20) } }
  else if base = 0x09000040 then s.modTwin (fun t => { t with split := keep t.split 24 })
  else if base = 0x0B000040 then { s with time := { s.time with timeFault := keep s.time.timeFault 27 } }
  else s

/-! Readings. -/

/-- A served time as one number: seconds above nanoseconds (R4, R442). -/
def t80Num (t : Int) : Int := t / 1000000000 * 4294967296 + t % 1000000000

/-- A held admission request, as its twelve value bytes (R489). -/
def admitNum (q : AdmitReq) : Int :=
  (q.serial.toNat * 281474976710656 + q.kind % 256 * 1099511627776 + q.axes % 256 * 4294967296 + q.staticBytes % 65536 * 65536 : Nat)

/-- The readings of an observer: those of the last cycle boundary, while cycles run (R147). -/
def State.obsRead (s : State) (o : Owner) : ObsRead :=
  if s.cyc.running then (s.ownerObs o).read else (s.ownerObs o).latch.read

/-- The readings of class 0x04 of an owner. -/
def State.ownerReading (s : State) (m : Nat) (o : Owner) : Int :=
  let x := s.obsRead o
  let t := s.ownerTask o
  if m = 0x181 then x.raw
  else if m = 0x182 then x.fpos
  else if m = 0x183 then x.vHat
  else if m = 0x184 then x.aHat
  else if m = 0x185 then (x.sampleErrs : Int)
  else if m = 0x122 then (t.cycles : Int)
  else if m = 0x123 then (t.maxCycles : Int)
  else if m = 0x124 then (t.overruns : Int)
  else if m = 0x125 then (t.faults : Int)
  else (t.lastEngine : Int)

/-- The other readings of an axis. -/
def State.axisReading (s : State) (m a : Nat) : Int :=
  let x := s.axis a
  if m = 0x191 then (x.life.lawSat : Int)
  else if m = 0x1A1 then x.prof.stepDev
  else if m = 0x1A2 then (x.prof.lossCnt : Int)
  else if m = 0x1A3 then (x.prof.stepLate : Int)
  else if m = 0x1B1 then (x.law.dMin : Int)
  else if m = 0x1B2 then (x.law.dFold : Int)
  else if m = 0x1B3 then (b2n x.law.foldLate : Int)
  else (x.prof.directLate : Int)

/-- The readings of a feedback port (Table FBK-9), those of the last cycle boundary while cycles run (R147).  EDGE_T of an edge older than
2^31 ns reads the plain difference (log 161). -/
def State.fbReading (s : State) (m n : Nat) : Int :=
  let x := if s.cyc.running then (s.fb n).read else (s.fb n).latch.read
  if m = 0x41 then (x.phaseErrs : Int)
  else if m = 0x42 then (x.inferCnt : Int)
  else if m = 0x43 then (x.idxCnt : Int)
  else if m = 0x44 then x.idxLatch
  else if m = 0x45 then x.idxDev
  else if m = 0x46 then (x.ssiErrs : Int)
  else if m = 0x47 then (x.hallErrs : Int)
  else match (s.fb n).latchedE1 with
    | none => 0
    | some e => e.stamp - s.tCycle s.cyc.cycle

/-- The readings of the move list (Table RUN-9). -/
def State.movReading (s : State) (m : Nat) : Nat :=
  let l := s.moves
  if m = 0x41 then l.dispatchedCnt
  else if m = 0x42 then l.retimeCnt
  else if m = 0x43 then l.cancelCnt
  else if m = 0x44 then l.dispLate
  else if m = 0x45 then l.cancelLate
  else if m = 0x46 then l.residMax
  else if m = 0x47 then l.missedCnt
  else l.flushLost

/-- The readings of the field (Table FLD-9). -/
def State.fldReading (s : State) (m : Nat) : Nat :=
  let f := s.fld
  if m = 0x41 then field f.up 16 2
  else if m = 0x42 then field f.up 18 2
  else if m = 0x43 then field f.up 20 2
  else if m = 0x44 then f.mErrs
  else if m = 0x45 then f.hErrs
  else if m = 0x46 then f.orderLate
  else if m = 0x47 then f.orderLost
  else f.opPulses

/-- The readings of a Scoresheet channel (Table SCS-8). -/
def State.scsReading (s : State) (m c : Nat) : Nat :=
  let x := s.schan c
  if m = 0x41 then x.base
  else if m = 0x42 then x.len
  else if m = 0x43 then x.capIdx
  else x.preCnt

/-- The readings of the host interface (Table HST-7). -/
def State.hostReading (s : State) (m : Nat) : Nat :=
  let h := s.host
  if m = 0x41 then h.tagFail
  else if m = 0x42 then h.replays
  else if m = 0x43 then h.proveFail
  else if m = 0x44 then h.lockouts
  else h.evtLost

/-- The wall-time readings: those of the last cycle boundary while cycles run (R415). -/
def State.timeRead (s : State) : TimeRead := if s.cyc.running then s.time.read else s.time.readNow

/-- The readings of a time source. -/
def State.sourceRead (s : State) (c : Nat) : Int × Int × Nat := sget (fun _ => (0, 0, 0)) s.timeRead.sources c

/-- The value of a reading. -/
def State.readValue (s : State) (base i : Nat) : Int :=
  let m := base % 4096
  let k := base / 65536
  if base / 4096 = 0x04000 then
    if m / 16 = 0x18 ∨ m / 16 = 0x12 then s.ownerReading m (ownerAt i) else s.axisReading m i
  else if k = 0x0410 then s.fbReading m i
  else if k = 0x0106 then
    if m = 0x41 then ((s.engine i).busyCycles : Int) else if m = 0x42 then ((s.engine i).tasks : Int) else ((s.engine i).bankStalls : Int)
  else if k = 0x0600 then (s.movReading m : Int)
  else if k = 0x0C00 then
    if m = 0x41 then (s.arb.pEst : Int) else if m = 0x42 then s.arb.tMax else s.arb.temps.getD (m - 0x50) 0
  else if k = 0x0C11 then
    if m = 0x41 then (s.pgroup i).e / 1000 else if m = 0x42 then ((s.pgroup i).pRun : Int) else ((s.pgroup i).deferrals : Int)
  else if k = 0x0800 then
    ((if m = 0x41 then s.saf.pMiss else if m = 0x42 then s.saf.upCrc else if m = 0x43 then s.saf.upSeq else if m = 0x44 then s.saf.ackBad
      else s.saf.demands : Nat) : Int)
  else if k = 0x0D00 then (s.fldReading m : Int)
  else if k = 0x0900 then
    ((if m = 0x41 then s.twin.digMismatch else if m = 0x42 then s.twin.axisCopies else if m = 0x43 then s.twin.handovers
      else if m = 0x44 then s.twin.logLate else s.twin.linkErrs : Nat) : Int)
  else if k = 0x0A00 then
    ((if m = 0x41 then s.scs.portOvf else if m = 0x42 then s.scs.captures else if m = 0x43 then s.scs.gapRecs else s.scs.fireOvf : Nat) : Int)
  else if k = 0x0A10 then (s.scsReading m i : Int)
  else if k = 0x0A20 then (s.scsReading m (64 + i) : Int)
  else if k = 0x0B00 then
    if m = 0x41 then t80Num (if s.cyc.running then s.tCycle s.cyc.cycle else s.now)
    else if m = 0x42 then s.timeRead.rate
    else if m = 0x43 then (s.timeRead.timeFaults : Int)
    else (s.timeRead.srcSwitches : Int)
  else if k = 0x0B30 then
    let x := s.sourceRead (i + 1)
    if m = 0x41 then x.1 else if m = 0x42 then x.2.1 else (x.2.2 : Int)
  else if k = 0x0200 then (s.hostReading m : Int)
  else if k = 0x0210 then
    ((if m = 0x41 then sget (fun _ => 0) s.host.fragDrop i else sget (fun _ => 0) s.host.queueDrop i : Nat) : Int)
  else if k = 0x0750 then
    match (s.seg i).admitReq[m - 0x41]? with
    | none => 0
    | some q => admitNum q
  else ((if m = 0x41 then s.boot.scrubCorr else s.boot.scrubUnc : Nat) : Int)

/-- A reading that clears on read is cleared. -/
def State.clearReading (s : State) (base i : Nat) : State :=
  let m := base % 4096
  let k := base / 65536
  if base / 4096 = 0x04000 then
    if m = 0x185 then
      s.modOwnerObs (ownerAt i) (fun x =>
        { x with sampleErrs := x.sampleErrs - (s.obsRead (ownerAt i)).sampleErrs, read := { x.read with sampleErrs := 0 } })
    else if m = 0x123 then s.modOwnerTask (ownerAt i) (fun t => { t with maxCycles := 0 })
    else if m = 0x124 then s.modOwnerTask (ownerAt i) (fun t => { t with overruns := 0 })
    else if m = 0x125 then s.modOwnerTask (ownerAt i) (fun t => { t with faults := 0 })
    else if m = 0x191 then s.modLife i (fun l => { l with lawSat := 0 })
    else if m = 0x1A2 then s.modProf i (fun p => { p with lossCnt := 0 })
    else if m = 0x1A3 then s.modProf i (fun p => { p with stepLate := 0 })
    else s.modProf i (fun p => { p with directLate := 0 })
  else if k = 0x0410 then
    s.modFb i (fun x =>
      let v := (s.fbReading m i).toNat
      if m = 0x41 then { x with phaseErrs := x.phaseErrs - v, read := { x.read with phaseErrs := 0 } }
      else if m = 0x42 then { x with inferCnt := x.inferCnt - v, read := { x.read with inferCnt := 0 } }
      else if m = 0x43 then { x with idxCnt := x.idxCnt - v, read := { x.read with idxCnt := 0 } }
      else if m = 0x46 then { x with ssiErrs := x.ssiErrs - v, read := { x.read with ssiErrs := 0 } }
      else { x with hallErrs := x.hallErrs - v, read := { x.read with hallErrs := 0 } })
  else if k = 0x0106 then s.modEngine i (fun x => if m = 0x42 then { x with tasks := 0 } else { x with bankStalls := 0 })
  else if k = 0x0600 then
    s.modMoves (fun l =>
      if m = 0x41 then { l with dispatchedCnt := 0 } else if m = 0x42 then { l with retimeCnt := 0 }
      else if m = 0x43 then { l with cancelCnt := 0 } else if m = 0x44 then { l with dispLate := 0 }
      else if m = 0x45 then { l with cancelLate := 0 } else if m = 0x46 then { l with residMax := 0 }
      else if m = 0x47 then { l with missedCnt := 0 } else { l with flushLost := 0 })
  else if k = 0x0C11 then s.modPgroup i (fun w => { w with deferrals := 0 })
  else if k = 0x0800 then
    { s with saf :=
        if m = 0x41 then { s.saf with pMiss := 0 } else if m = 0x42 then { s.saf with upCrc := 0 }
        else if m = 0x43 then { s.saf with upSeq := 0 } else if m = 0x44 then { s.saf with ackBad := 0 } else { s.saf with demands := 0 } }
  else if k = 0x0D00 then
    { s with fld :=
        if m = 0x44 then { s.fld with mErrs := 0 } else if m = 0x45 then { s.fld with hErrs := 0 }
        else if m = 0x46 then { s.fld with orderLate := 0 } else if m = 0x47 then { s.fld with orderLost := 0 }
        else { s.fld with opPulses := 0 } }
  else if k = 0x0900 then
    s.modTwin (fun t =>
      if m = 0x41 then { t with digMismatch := 0 } else if m = 0x42 then { t with axisCopies := 0 }
      else if m = 0x43 then { t with handovers := 0 } else if m = 0x44 then { t with logLate := 0 } else { t with linkErrs := 0 })
  else if k = 0x0A00 then
    s.modScs (fun x =>
      if m = 0x41 then { x with portOvf := 0 } else if m = 0x42 then { x with captures := 0 }
      else if m = 0x43 then { x with gapRecs := 0 } else { x with fireOvf := 0 })
  else if k = 0x0B00 then
    let r := s.timeRead
    { s with time :=
        if m = 0x43 then { s.time with timeFaults := s.time.timeFaults - r.timeFaults, read := { s.time.read with timeFaults := 0 } }
        else { s.time with srcSwitches := s.time.srcSwitches - r.srcSwitches, read := { s.time.read with srcSwitches := 0 } } }
  else if k = 0x0B30 then
    let x := s.sourceRead (i + 1)
    let s1 := s.setSource (i + 1) { s.source (i + 1) with bad := (s.source (i + 1)).bad - x.2.2 }
    { s1 with time := { s1.time with read := { s1.time.read with sources := sput (fun _ => (0, 0, 0)) s1.time.read.sources (i + 1) (x.1, x.2.1, 0) } } }
  else if k = 0x0200 then
    { s with host :=
        if m = 0x41 then { s.host with tagFail := 0 } else if m = 0x42 then { s.host with replays := 0 }
        else if m = 0x43 then { s.host with proveFail := 0 } else if m = 0x44 then { s.host with lockouts := 0 }
        else { s.host with evtLost := 0 } }
  else if k = 0x0210 then
    { s with host :=
        if m = 0x41 then { s.host with fragDrop := sput (fun _ => 0) s.host.fragDrop i 0 }
        else { s.host with queueDrop := sput (fun _ => 0) s.host.queueDrop i 0 } }
  else { s with boot := if m = 0x41 then { s.boot with scrubCorr := 0 } else { s.boot with scrubUnc := 0 } }

/-! Objects. -/

/-- The value of an object. -/
def State.objValue (s : State) : Obj → Int
  | .param r i => s.par r.base i
  | .word r i => (s.wordValue r.base i : Int)
  | .reading r i => s.readValue r.base i

/-- What reading an object does to it. -/
def State.afterRead (s : State) : Obj → State
  | .reading r i => if r.clears then s.clearReading r.base i else s
  | _ => s

/-- The twelve value bytes of an object (R442): a negative value is sign-extended, every other value zero-extended. -/
def valueBytes (v : Int) : List Byte := beI 12 v

end Sys2Proof.Machine
end

