-- ==== Sys2Proof/Machine/Sessions.lean ====
section
/-! DEFINITION. Packets, sessions, roles, lockout and keys (spec/15_host_and_sessions.md R416 to R421, R428, R430 to R438; spec/16_command_set.md
R448 to R450). -/

namespace Sys2Proof.Machine

/-! Sources. -/

/-- The source that the lockout counts: the PCIe function, or the IPv4 address (R435). -/
def lockSource (src : HostSource) : HostSource :=
  match src with
  | .pcie => .pcie
  | .udp _ ip _ => .udp 0 ip 0

def sourceIp (src : HostSource) : Nat :=
  match src with
  | .pcie => 0
  | .udp _ ip _ => ip.toNat

/-- The device serves its hosts: it has booted, or is in recovery (R466). -/
def State.serves (s : State) : Bool := s.boot.ready || s.boot.recovery

/-- A plant port takes a frame for an address: under its VLAN_ID, to its own address, or to HEAD_IP while the chip is on move (R427, R429). -/
def State.ownsIp (s : State) (p : Nat) (vlan : BitVec 12) (ip : BitVec 32) : Bool :=
  let own := s.parN 0x02100001 p
  let head := s.parN 0x02100007 p
  s.serves && decide (own ≠ 0) && decide (vlan.toNat = s.parN 0x02100004 p) && (decide (ip.toNat = own) || (s.twin.onMove && decide (head ≠ 0 ∧ ip.toNat = head)))

/-! Closing (R432). -/

/-- The commands of a session that are queued but not yet landed are dropped, and nothing reports them: the queued writes, and what waits for
its boundary, its tick or its step (log 182). -/
def State.dropCommands (s : State) (i : Nat) : State :=
  let mine (c : CmdCtx) : Bool := decide (c.slot.val = i)
  let s1 := { s with
    host := { s.host with
      parQueue := s.host.parQueue.filter (fun (w : ParWrite) => !mine w.ctx)
      boundary := s.host.boundary.filter (fun (w : CmdCtx × Instr) => !mine w.1) }
    fld := { s.fld with outWait := s.fld.outWait.filter (fun (w : OutWait) => !mine w.ctx) }
    scs := { s.scs with armPending := s.scs.armPending.filter (fun c => !mine c), forceCtx := s.scs.forceCtx.filter (fun c => !mine c) }
    time := { s.time with step := s.time.step.filter (fun (p : PendingStep) => !p.ctx.any mine) }
    eng := { s.eng with segWaiting := s.eng.segWaiting.filter (fun (w : SegWrite) => !mine w.ctx) }
    moves := { s.moves with waiting := s.moves.waiting.filter (fun (w : MovWait) => !mine w.ctx) }
    arb := { s.arb with budget := s.arb.budget.filter (fun (w : BudgetWrite) => !mine w.ctx) } }
  { s1 with axes := smap (fun _ => Axis.reset) (fun _ (x : Axis) =>
      { x with
        law := { x.law with coefQ := x.law.coefQ.filter (fun (w : CoefWrite) => !mine w.ctx) }
        life := { x.life with enableWait := x.life.enableWait.filter (fun (w : CmdCtx × Nat) => !mine w.1) } }) s1.axes }

/-- A session closes: its slot is free again. -/
def State.closeSession (s : State) (i : Nat) : State := (s.dropCommands i).setSession i Session.reset

/-- Every session of a kind of source closes. -/
def State.closeWhere (s : State) (f : HostSource → Bool) : State :=
  (List.range 8).foldl (fun s i =>
    if (s.session i).phase ≠ .free ∧ f (s.session i).source = true then s.closeSession i else s) s

/-! Packets (R416, R417, R419, R421). -/

def pktOp (b : List Byte) : Nat := field b 2 2
def pktSeq (b : List Byte) : Nat := field b 4 2
def pktLen (b : List Byte) : Nat := field b 6 2
def pktSession (b : List Byte) : Nat := field b 8 4
def pktFlags (b : List Byte) : Nat := field b 12 2
def pktParams (b : List Byte) : List Byte := (b.drop 32).take (pktLen b)

/-- MAGIC and the length of a packet fit (R417). -/
def packetForm (b : List Byte) : Bool := decide (field b 0 2 = 0x4A51) && decide (32 ≤ b.length) && decide (32 + pktLen b ≤ b.length)

/-- The TAG of a packet under a key (R416). -/
def packetTagOk (key b : List Byte) : Bool := decide ((b.drop 16).take 16 = (hmac key (b.take 16 ++ pktParams b)).take 16)

/-- The context of a packet in a slot (R418). -/
def packetCtx (slot : SlotIx) (b : List Byte) : CmdCtx :=
  { slot := slot, seq := BitVec.ofNat 16 (pktSeq b), expert := nbit (pktFlags b) 0, atBoundary := nbit (pktFlags b) 1 }

/-- The parameter bytes of each opcode of Table CMD-3: the least and the most; a host never sends 0x0100 (R449). -/
def opLengths : List (Nat × Nat × Nat) := [
  (0x0101, 0, 0), (0x0102, 3, 3), (0x0103, 1, 1), (0x0104, 5, 5), (0x0201, 20, 20), (0x0202, 32, 32), (0x0203, 0, 0), (0x0204, 41, 41),
  (0x0301, 4, 356), (0x0302, 16, 16), (0x0303, 4, 4), (0x0401, 2, 2), (0x0402, 2, 2), (0x0403, 2, 2), (0x0404, 34, 34), (0x0405, 8, 8),
  (0x0406, 3, 3), (0x0407, 10, 10), (0x0408, 3, 3), (0x0409, 4, 1432), (0x040A, 5, 5), (0x0501, 28, 220), (0x0502, 5, 5),
  (0x0503, 26, 154), (0x0504, 2, 2), (0x0505, 3, 3)] ++ [
  (0x0601, 36, 1412), (0x0602, 4, 4), (0x0603, 1, 1), (0x0604, 0, 0), (0x0605, 4, 4), (0x0701, 0, 0), (0x0702, 4, 65535), (0x0703, 1, 1),
  (0x0704, 8, 8), (0x0705, 2, 2), (0x0706, 1, 1), (0x0707, 8, 8), (0x0708, 3, 3), (0x0801, 5, 5), (0x0802, 4, 4), (0x0803, 0, 65535),
  (0x0901, 0, 0), (0x0902, 0, 0), (0x0A01, 0, 0), (0x0A02, 0, 0), (0x0A03, 0, 0), (0x0A04, 6, 6), (0x0B01, 0, 0), (0x0B02, 1, 1),
  (0x0B03, 0, 0), (0x0C01, 4, 4), (0x0C02, 3, 13), (0x0D01, 2, 2), (0x0D02, 1, 1), (0x0D03, 0, 0), (0x0E01, 4, 65535), (0x0E02, 0, 0),
  (0x0E03, 1, 1), (0x0F01, 1, 1), (0x0F02, 4, 4)]

/-- The status of an opcode with a number of parameter bytes: BAD_LENGTH, BAD_OPCODE, or none (R450 step 1). -/
def opStatus (op len limit : Nat) (isPart : Bool) : Option Nat :=
  if limit < len then some stBadLength
  else match opLengths.find? (fun (r : Nat × Nat × Nat) => decide (r.1 = op)) with
    | none => some stBadOpcode
    | some (_, lo, hi) => if isPart || (decide (lo ≤ len) && decide (len ≤ hi)) then none else some stBadLength

/-- The most parameter bytes of a packet of a transport (R424, R428). -/
def packetLimit (src : HostSource) : Nat :=
  match src with
  | .pcie => 224
  | .udp _ _ _ => 1440

/-- An answer without a session: its TAG is zero. -/
def State.answerBare (s : State) (src : HostSource) (op seq session flags : Nat) (params : List Byte) : State :=
  s.sendTo src (packet op (BitVec.ofNat 16 seq) (BitVec.ofNat 32 session) (0x8000 + flags % 0x8000) [] params)

/-- A packet is discarded under R417 and counted. -/
def State.tagFail (s : State) : State := { s with host := { s.host with tagFail := inc32 s.host.tagFail } }

/-- A packet waits in the queue of its plant port until the supervisor takes it (R428). -/
def State.enqueue (s : State) (src : HostSource) (b : List Byte) : State :=
  match src with
  | .pcie => s
  | .udp p _ _ => s.setPlantQueue p.val (s.plantQueue p.val ++ [b])

/-- A new command of an open session: the assembly of parts, the form, the queue of 32, and then it waits to be executed. -/
def State.admitPacket (s : State) (slot : SlotIx) (b : List Byte) : State :=
  let x := s.session slot.val
  let c := packetCtx slot b
  let isPart := nbit (pktFlags b) 2
  let answer (s : State) (st : Nat) : State := s.replyRaw c (pktOp b) (0x8000 + pktFlags b % 0x8000) st []
  if x.partOp.isSome && !isPart then
    answer (s.modSession slot.val (fun x => { x with partOp := none, partLen := 0, partData := [] })) stPart
  else match opStatus (pktOp b) (pktLen b) (packetLimit x.source) isPart with
    | some st => answer s st
    | none =>
      if 32 ≤ x.waiting.length then answer s 0x0402
      else (s.modSession slot.val (fun x => { x with waiting := x.waiting ++ [b] })).enqueue x.source b

/-- A packet of an open session whose TAG is right (R421, R432). -/
def State.sequencePacket (s : State) (slot : SlotIx) (b : List Byte) : State :=
  let x := s.session slot.val
  let q := pktSeq b
  let s1 := s.modSession slot.val (fun x => { x with lastTick := s.coreTicks })
  let gap := (q + 65536 - x.lastSeq.toNat) % 65536
  if 1 ≤ gap ∧ gap ≤ 32768 then
    (s1.modSession slot.val (fun x => { x with lastSeq := BitVec.ofNat 16 q })).admitPacket slot b
  else match x.replies.find? (fun (r : HeldReply) => decide (r.seq.toNat = q)) with
    | some r => s1.sendTo x.source r.bytes
    | none => { s1 with host := { s1.host with replays := inc32 s1.host.replays } }

/-- What the device does with a packet that it takes from a source (R416, R417, R420, R421, R431). -/
def State.takePacket (s : State) (src : HostSource) (b : List Byte) : State :=
  let op := pktOp b
  let id := pktSession b
  let slot : SlotIx := ⟨id % 8, by omega⟩
  let x := s.session slot.val
  if !s.serves then s
  else if !packetForm b then s.tagFail
  else if op = 0x0201 ∧ id = 0 then
    if pktLen b ≠ 20 then s.answerBare src op (pktSeq b) 0 (pktFlags b) (be 2 stBadLength) else s.enqueue src b
  else if x.phase = .free ∨ x.id.toNat ≠ id ∨ (x.phase = .challenged ∧ op ≠ 0x0202) then
    s.answerBare src op (pktSeq b) id (pktFlags b) (be 2 stNoSession)
  else if x.source ≠ src then s.tagFail
  else if op = 0x0202 then
    if pktLen b ≠ 32 then s.answerBare src op (pktSeq b) id (pktFlags b) (be 2 stBadLength) else s.enqueue src b
  else if !packetTagOk x.key b then s.tagFail
  else s.sequencePacket slot b

/-- UDP_DATAGRAM (R428): fragments and the packets of a full queue are discarded and counted; a datagram to another address or another port
than CMD_PORT carries no command. -/
def execUdpDatagram (plant : PlantIx) (ip : UdpPath) (port : BitVec 16) (mf : Bool) (fragOffset : BitVec 13)
    (bytes : List Byte) (s : State) : Result :=
  let p := plant.val
  if !s.ownsIp p ip.dest.vlan ip.dest.ip then .next s
  else if mf || decide (fragOffset ≠ 0) then
    .next { s with host := { s.host with fragDrop := sput (fun _ => 0) s.host.fragDrop p (inc32 (sget (fun _ => 0) s.host.fragDrop p)) } }
  else if ip.dest.port.toNat ≠ s.parN 0x02100005 p then .next s
  else if 64 ≤ (s.plantQueue p).length then
    .next { s with host := { s.host with queueDrop := sput (fun _ => 0) s.host.queueDrop p (inc32 (sget (fun _ => 0) s.host.queueDrop p)) } }
  else .next (s.takePacket (.udp plant ip.src port) bytes)

/-- ARP_REQUEST (R427, R429). -/
def execArpRequest (plant : PlantIx) (target : PlantTarget) (s : State) : Result :=
  whenB (s.ownsIp plant.val target.vlan target.ip) s (s.put (.arpReply plant target.ip))

/-- ICMP_ECHO (R427). -/
def execIcmpEcho (plant : PlantIx) (target : PlantTarget) (data : List Byte) (s : State) : Result :=
  whenB (s.ownsIp plant.val target.vlan target.ip && decide (s.parN 0x02100006 plant.val = 1)) s (s.put (.icmpReply plant target.ip data))

/-- COMMAND_PART (R419): a packet of a multi-part command, or a single packet that finds an assembly open. -/
def execCommandPart (c : CmdCtx) (opcode : BitVec 16) (isPart : Bool) (final : Bool) (data : List Byte) (s0 : State) : Result :=
  let s := s0.takeUp c
  let x := s.session c.slot.val
  let op := opcode.toNat
  let flags := replyFlagsOf c + b2n isPart * 4 + b2n final * 8
  let set (f : Session → Session) : State := s.modSession c.slot.val f
  let broken := (set (fun x => { x with partOp := none, partLen := 0, partData := [] })).replyRaw c op flags stPart []
  let whole := x.partData ++ data
  if x.phase ≠ .opened then .next (s.sendTo x.source (packet op c.seq x.id flags [] (be 2 stNoSession)))
  else
    let fits := match x.partOp with
      | none => isPart
      | some o => isPart && decide (o = op) && decide (c.seq = x.partSeq + 1)
    if x.partOp.isNone && !isPart then .next s
    else if !fits then .next broken
    else if 65535 < whole.length then
      .next ((set (fun x => { x with partOp := none, partLen := 0, partData := [] })).replyRaw c op flags 0x0403 [])
    else if final then .next (set (fun x => { x with partOp := none, partLen := 0, partData := [] }))
    else
      .next ((set (fun x => { x with partOp := some op, partSeq := c.seq, partLen := whole.length, partData := whole })).replyRaw c op flags
        stAccepted [])

/-- EVT_PUSH from a host (R449). -/
def execEvtPush (c : CmdCtx) (s : State) : Result :=
  let x := s.session c.slot.val
  if x.phase ≠ .opened then .next (s.sendTo x.source (packet 0x0100 c.seq x.id (replyFlagsOf c) [] (be 2 stNoSession)))
  else .next (s.reply c 0x0100 stBadOpcode [])

/-! Opening a session (R430, R431, R433, R435, R438). -/

/-- The lockout entry of a source. -/
def State.lockOf (s : State) (src : HostSource) : Option LockEntry :=
  s.host.lock.find? (fun (e : LockEntry) => decide (e.src = lockSource src))

/-- The seconds that a source is still locked out, or none. -/
def State.lockedFor (s : State) (src : HostSource) : Option Nat :=
  match s.lockOf src with
  | none => none
  | some e => match e.until_ with
    | none => none
    | some t => if s.coreTicks < t then some (cdiv (t - s.coreTicks) 1000000000) else none

def State.setLock (s : State) (src : HostSource) (es : List LockEntry) : State :=
  { s with host := { s.host with lock := s.host.lock.filter (fun (e : LockEntry) => !decide (e.src = lockSource src)) ++ es } }

/-- The entry that a new failing source replaces when all 64 are in use: not locked out, with the oldest last failure. -/
def State.oldestLock (s : State) : Option LockEntry :=
  (s.host.lock.filter (fun (e : LockEntry) => match e.until_ with
    | none => true
    | some t => decide (t ≤ s.coreTicks))).foldl (fun m (e : LockEntry) => match m with
    | none => some e
    | some (b : LockEntry) => if e.lastFail < b.lastFail then some e else m) none

/-- Whether the table of 64 has, or can make, a place for a source (R435). -/
def State.lockHasRoom (s : State) (src : HostSource) : Bool :=
  (s.lockOf src).isSome || decide (s.host.lock.length < 64) || s.oldestLock.isSome

/-- The oldest entry without a lockout makes room for a new source in a full table (R435). -/
def State.lockRoom (s : State) (src : HostSource) : State :=
  if (s.lockOf src).isSome || decide (s.host.lock.length < 64) then s
  else match s.oldestLock with
    | none => s
    | some e => { s with host := { s.host with lock := s.host.lock.filter (fun (b : LockEntry) => !decide (b.src = e.src)) } }

/-- A failed proof of a source; the fifth in a row locks it out (R435). -/
def State.countFailure (s : State) (src : HostSource) : State :=
  let s0 := { s with host := { s.host with proveFail := inc32 s.host.proveFail } }
  let e : LockEntry := (s0.lockOf src).getD { src := lockSource src, fails := 0, until_ := none, duration := 0, lastFail := 0 }
  if !s0.lockHasRoom src then s0
  else
    let s1 := s0.lockRoom src
    if e.fails + 1 < 5 then s1.setLock src [{ e with fails := e.fails + 1, lastFail := s.coreTicks }]
    else
      let d := if e.duration = 0 then 10 else min 3600 (2 * e.duration)
      let s2 := s1.setLock src
        [{ e with fails := 0, until_ := some (s.coreTicks + d * 1000000000), duration := d, lastFail := s.coreTicks }]
      ({ s2 with host := { s2.host with lockouts := inc32 s2.host.lockouts } }).raise 0x0201 1 0 (be 4 (sourceIp src) ++ be 4 d)

/-- A successful proof clears the count and the length of the next lockout (R435). -/
def State.clearFailures (s : State) (src : HostSource) : State :=
  match s.lockOf src with
  | none => s
  | some e => s.setLock src (match e.until_ with
    | none => []
    | some _ => [{ e with fails := 0, duration := 0 }])

/-- The key of a role: 32 zero bytes under KEYS_DEFAULT (R438) and for a key that has not been set. -/
def State.roleKey (s : State) (role : Nat) : List Byte :=
  if s.host.keys.default then List.replicate 32 0 else sget (fun _ => List.replicate 32 0) s.host.keys.keys role

/-- SES_HELLO (0x0201, R430, R431). -/
def execSesHello (src : HostSource) (seq : BitVec 16) (role : BitVec 8) (nonce : List Byte) (s0 : State) : Result :=
  let s := match src with
    | .pcie => s0
    | .udp p _ _ =>
      s0.setPlantQueue p.val ((s0.plantQueue p.val).filter (fun b => !decide (pktOp b = 0x0201 ∧ pktSeq b = seq.toNat)))
  let answer (s : State) (params : List Byte) : State := s.answerBare src 0x0201 seq.toNat 0 0 params
  if !s.serves then .next s
  else if nonce.length ≠ 16 then .next (answer s (be 2 stBadLength))
  else if !decide (1 ≤ role.toNat ∧ role.toNat ≤ 5) then .next (answer s (be 2 stBadValue))
  else match s.lockedFor src with
    | some n => .next (answer s (be 2 stLocked ++ be 4 n))
    | none =>
      if s.host.keys.default && !(decide (src = .pcie) && decide (role.toNat = 5)) then .next (answer s (be 2 stRole))
      else match (List.range 8).find? (fun i => decide ((s.session i).phase = .free)) with
        | none => .next (answer s (be 2 0x0401))
        | some i =>
          let rnd := s.random 20
          let nd := rnd.drop 4
          let id := field rnd 0 4 / 8 * 8 + i
          let x : Session :=
            { phase := .challenged, id := BitVec.ofNat 32 id, role := role.toNat, source := src, nh := nonce, nd := nd
              lastTick := s.coreTicks, helloSeq := seq }
          .next (answer ((s.useFree 20).setSession i x) (be 2 stAccepted ++ be 4 id ++ nd ++ be 6 Config.serial.toNat))

/-- The 14 ASCII bytes of HKDF's info. -/
def sessionInfo : List Byte := [0x4A, 0x51, 0x37, 0x32, 0x35, 0x36, 0x20, 0x73, 0x65, 0x73, 0x73, 0x69, 0x6F, 0x6E]

/-- SES_PROVE (0x0202, R431, R435). -/
def execSesProve (c : CmdCtx) (proof : List Byte) (s0 : State) : Result :=
  let s := s0.takeUp c
  let x := s.session c.slot.val
  let bare (st : Nat) (s : State) : State := s.sendTo x.source (packet 0x0202 c.seq x.id (replyFlagsOf c) [] (be 2 st))
  if x.phase = .free ∨ (x.phase = .challenged ∧ x.lastTick + 2000000000 < s.coreTicks) then .next (bare stNoSession s)
  else if x.phase = .opened then .next (bare stState s)
  else
    let k := s.roleKey x.role
    if proof = hmac k (x.nh ++ x.nd) then
      let ks := hkdf32 k (x.nh ++ x.nd) (sessionInfo ++ be 4 x.id.toNat ++ be 1 x.role)
      let s1 := (s.clearFailures x.source).setSession c.slot.val
        { x with phase := .opened, key := ks, lastSeq := c.seq, lastTick := s.coreTicks, nh := [], nd := [] }
      .next (s1.reply c 0x0202 stDone (hmac k (x.nd ++ x.nh)))
    else .next (((bare stAuth s).setSession c.slot.val Session.reset).countFailure x.source)

/-- CHALLENGE_TIMEOUT (R431). -/
def execChallengeTimeout (slot : SlotIx) (s : State) : Result :=
  let x := s.session slot.val
  whenB (decide (x.phase = .challenged) && decide (x.lastTick + 2000000000 < s.coreTicks)) s (s.setSession slot.val Session.reset)

/-- SES_IDLE (R432). -/
def execSesIdle (slot : SlotIx) (s : State) : Result :=
  let x := s.session slot.val
  whenB (decide (x.phase = .opened) && decide (x.lastTick + s.parN 0x02000001 0 * 1000000000 ≤ s.coreTicks)) s (s.closeSession slot.val)

/-- LOCKOUT_END (R435). -/
def execLockoutEnd (src : HostSource) (s : State) : Result :=
  match s.lockOf src with
  | none => .next s
  | some e => match e.until_ with
    | none => .next s
    | some t => whenB (decide (t ≤ s.coreTicks)) s (s.setLock src [{ e with until_ := none }])

/-- SES_CLOSE (0x0203, R432). -/
def execSesClose (c : CmdCtx) (s : State) : Result :=
  s.hostAt c (.sesClose c) { op := 0x0203, need := roleView, move := false, logged := false } true (fun s =>
    .quiet ((s.reply c 0x0203 stDone []).closeSession c.slot.val))

/-! Keys (R436, R437, R438). -/

/-- The role and key that the log of a key change carries. -/
def State.loggedKey (s : State) (c : CmdCtx) : Option (List Byte) :=
  (s.twin.landed.find? (fun (r : LogRec) => decide (r.slot = c.slot ∧ r.seq = c.seq ∧ r.opcode = 0x0204))).map (fun (r : LogRec) => r.params.drop 1)

/-- SES_KEY_SET (0x0204): the new key waits for the flash. -/
def execSesKeySet (c : CmdCtx) (role : BitVec 8) (wrapped : List Byte) (s : State) : Result :=
  let key := if s.twin.standby then s.loggedKey c else keyUnwrap (s.session c.slot.val).key wrapped
  let need := if role = 4 && !s.host.keys.default then roleSafety else roleAdmin
  s.host_ c { op := 0x0204, need := need, params := role :: key.getD [] } (decide (wrapped.length = 40)) (fun s =>
    if !decide (1 ≤ role.toNat ∧ role.toNat ≤ 5) then .refuse stBadValue []
    else match key with
      | none => .refuse stBadValue []
      | some k =>
        if s.host.keys.pendingSet.isSome || s.boot.flashWrite.isSome then .refuse stBusy []
        else .quiet { s with host := { s.host with keys := { s.host.keys with pendingSet := some (c, role.toNat, k) } } })

/-- A new key is in the store: the slot not in force holds the five keys in both banks; KEYS_DEFAULT ends when all five have been
set (R437, R438). -/
def State.storeKey (s : State) (role : Nat) (key : List Byte) : State :=
  let k := s.host.keys
  let mask := nsetBit k.setMask role true
  let s1 := s.writeKeys { k with
    keys := sput noKey k.keys role key, setMask := mask, default := k.default && decide (mask ≠ 62), pendingSet := none }
  s1.raise 0x0202 0 0 (be 1 role ++ be 4 s1.host.keys.gen)

/-- FLASH_WRITE_COMPLETE (R437, R447): a key slot or an image write is programmed and read back. -/
def execFlashWriteComplete (ok : Bool) (s : State) : Result :=
  match s.host.keys.pendingSet with
  | some (c, role, key) =>
    if ok then .next ((s.storeKey role key).replyLater c 0x0204 stDone [])
    else .next (({ s with host := { s.host with keys := { s.host.keys with pendingSet := none } } }).replyLater c 0x0204 stFlash [])
  | none => match s.boot.flashWrite with
    | none => .next s
    | some (c, bank, off, data) =>
      let s1 := { s with boot := { s.boot with flashWrite := none } }
      if ok then
        let s2 := if bank = 0 then { s1 with boot := { s1.boot with bankA := { s1.boot.bankA.write off data with written := true } } }
          else { s1 with boot := { s1.boot with bankB := { s1.boot.bankB.write off data with written := true } } }
        .next ((s2.put (.flash bank off data)).replyLater c 0x0E01 stDone [])
      else .next (s1.replyLater c 0x0E01 stFlash [])

end Sys2Proof.Machine
end

