-- ==== Sys2Proof/Machine/ParCmd.lean ====
section
/-! DEFINITION. Parameter access: PAR_GET, PAR_SET, PAR_INFO, and how a write lands (spec/16_command_set.md R441 to R446;
spec/00_scope.md R11; spec/01_control_cycle.md R40). -/

namespace Sys2Proof.Machine

/-! PAR_GET (R443) and PAR_INFO (R446). -/

/-- One item of a reply (R442). -/
def State.item (s : State) (id : Nat) : List Byte :=
  match objOf id with
  | none => []
  | some o => be 4 id ++ beI 12 (s.objValue o)

/-- PAR_GET (0x0301): every value is taken from one state, and what clears on read clears then. -/
def execParGet (c : CmdCtx) (ids : List (BitVec 32)) (s : State) : Result :=
  s.hostAt c (.parGet c ids) { op := 0x0301, need := roleView, move := false, logged := false }
    (decide (1 ≤ ids.length) && decide (ids.length ≤ s.perPacket c 13 89)) (fun s =>
      if ids.any (fun (i : BitVec 32) => (objOf i.toNat).isNone) then .refuse stBadId []
      else
        let data := ids.flatMap (fun (i : BitVec 32) => s.item i.toNat)
        .ok (ids.foldl (fun s (i : BitVec 32) => match objOf i.toNat with
          | none => s
          | some o => s.afterRead o) s) stDone data)

/-- Table CMD-2. -/
def infoBytes (r : ParamRow) (id : Nat) : List Byte :=
  be 1 r.format ++ be 1 (b2n r.expert) ++ be 1 (b2n r.live) ++ [0] ++ beI 12 r.lo ++ beI 12 r.hi ++ beI 12 (paramDefault id)

/-- PAR_INFO (0x0303). -/
def execParInfo (c : CmdCtx) (id : BitVec 32) (s : State) : Result :=
  s.hostAt c (.parInfo c id) { op := 0x0303, need := roleView, move := false, logged := false } true (fun s =>
    match paramFind id.toNat with
    | none => .refuse stBadId []
    | some (r, _) => .ok s stDone (infoBytes r id.toNat))

/-! The checks of a write (R444, R445). -/

/-- Whether the function of a parameter is stopped (Table CMD-1). -/
def State.stopped (s : State) (base i : Nat) : Bool :=
  let cls := base / 0x1000000
  let sub := base / 0x10000
  let lineFree := s.allDisabled && decide (s.inFlightCount = 0)
  let disabled (a : Nat) : Bool := decide (s.axState a = .disabled)
  if sub = 0x0411 then lineFree
  else if sub = 0x0410 then
    match s.portOwner i with
    | none => true
    | some .line => lineFree
    | some (.axis a) => disabled a.val
  else if sub = 0x0420 then (List.range 256).all (fun a => decide (s.parN 0x04000165 a ≠ i) || disabled a)
  else if cls = 0x04 then disabled i
  else if cls = 0x06 then decide (s.inFlightCount = 0)
  else if cls = 0x07 ∨ sub = 0x0105 then s.allDisabled
  else if cls = 0x0D then decide (s.fld.cmd = 0) && (List.range 32).all (fun g => decide (s.groupState g = 2))
  else if cls = 0x02 then
    (List.range 8).all (fun k => decide ((s.session k).phase ≠ .opened) || (match (s.session k).source with
      | .pcie => true
      | .udp p _ _ => decide (p.val ≠ i)))
  else if sub = 0x0B10 then decide (s.time.selected ≠ i + 1)
  else if cls = 0x0A then decide (s.scs.phase = .idle) || decide (s.scs.phase = .done)
  else true

/-- The loop length that the learner divides, in 2^-16 count (R208). -/
def State.lrnLoop (s : State) : Int := if s.loopLen = 0 then 281474976710656 else s.loopLen

/-- LRN_PERIOD of an axis divides the loop. -/
def State.lrnDivides (s : State) (a : Nat) : Bool :=
  decide (s.par 0x04000152 a = 0) || decide (s.lrnLoop % s.par 0x04000152 a = 0)

/-- R128 for a port. -/
def State.ssiFits (s : State) (n : Nat) : Bool := decide (s.parN 0x04100001 n < 3) || decide (4 * s.tSsi n ≤ s.period)

/-- R142 for an owner's bandwidth in rad/s. -/
def State.bandFits (s : State) (w : Nat) : Bool := decide (w * s.period ≤ 250000000)

/-- The rules that join the value of a parameter to other values; the state already holds the new value. -/
def State.joined (t : State) (base i : Nat) : Bool :=
  if base = 0x07000003 then
    (List.range 8).all (fun k => decide (8 * (i / 8) + k = i) || decide (t.par base (8 * (i / 8) + k) ≠ t.par base i))
  else if base = 0x04000102 ∨ base = 0x04110102 then t.bandFits (t.parN base i)
  else if base = 0x07300001 then
    (List.range 256).all (fun a => t.bandFits (t.parN 0x04000102 a)) && t.bandFits (t.parN 0x04110102 0)
      && (List.range 16).all (fun n => t.ssiFits n)
  else if base / 0x10000 = 0x0410 then t.ssiFits i
  else if base = 0x04000131 ∨ base = 0x04000132 then
    decide (t.parN 0x04000131 i + (t.axis i).law.d ≤ 8) && decide (t.parN 0x04000132 i < t.parN 0x04000131 i)
  else if base = 0x04000168 ∨ base = 0x04000169 then decide (t.par 0x04000168 i ≤ t.par 0x04000169 i)
  else if base = 0x07200006 ∨ base = 0x07200007 then decide (t.par 0x07200006 i + 8 ≤ t.par 0x07200007 i)
  else if base = 0x041101D2 ∨ base = 0x041101D3 then
    (decide (t.par 0x041101D2 0 = 0) || decide (t.par 0x041101D3 0 < t.par 0x041101D2 0))
      && (List.range 256).all (fun a => decide (t.par 0x04000150 a = 0) || t.lrnDivides a)
  else if base = 0x04000152 then t.lrnDivides i
  else if base = 0x04000150 then decide (t.par 0x04000150 i = 0) || t.lrnDivides i
  else if base = 0x04000101 ∨ base = 0x04000165 then !t.monitored i || !t.safLocal i
  else if base = 0x04000130 ∨ base = 0x04000160 then
    (decide (t.par 0x04000160 i ≠ 1) || decide (t.par 0x04000130 i = 0)) && (!t.monitored i || !t.safLocal i)
  else if base = 0x04000151 ∨ base = 0x04000155 then decide (t.par 0x04000155 i < t.par 0x04000151 i)
  else if base = 0x04000120 ∨ base = 0x04000121 ∨ base = 0x04110120 ∨ base = 0x04110121 then
    decide (t.par (base / 2 * 2) i = 0) || decide (t.par (base / 2 * 2 + 1) i ≠ 0)
  else true

/-- How many functions consume a local port (R122). -/
def State.consumers (s : State) (n : Nat) : Nat :=
  ((List.range 256).filter (fun a => decide (s.parN 0x04000101 a = n))).length + b2n (decide (s.parN 0x04110101 0 = n))
    + b2n (decide (s.parN 0x041101D0 0 = n))

/-- The state statuses of a write beside NOT_STOPPED: R24, R256. -/
def State.writeState (t : State) (base i : Nat) : Option Nat :=
  let l := (t.axis i).law
  let dual := match t.axisSlot i useFbk with
    | none => false
    | some (n, _) => decide (t.parN 0x07300003 n = 1)
  if base = 0x040001B0 ∧ t.parN base i < (if dual then l.dFold else l.dMin) then some stState else none

/-- The resource statuses of a write (R36, R122, R208, R226, R355). -/
def State.writeRoom (t : State) (base i : Nat) : Option Nat :=
  let v := t.parN base i
  let load := [0x04000101, 0x04110101, 0x04000120, 0x04000121, 0x04110120, 0x04110121, 0x04000130, 0x04000140, 0x04000141, 0x04000150,
    0x04000160, 0x07300001].contains base
  if (base = 0x04000101 ∨ base = 0x04110101 ∨ base = 0x041101D0) ∧ v ≤ 15 ∧ 1 < t.consumers v then some stNoRoom
  else if (base = 0x04000150 ∨ base = 0x04000151) ∧ t.parN 0x04000150 i = 1 ∧ (t.tablePlace i (t.parN 0x04000151 i)).isNone = true then
    some stNoRoom
  else if base = 0x04000163 ∧ v ≤ 31 ∧ 16 < ((List.range 256).filter (fun a => decide (t.parN base a = v))).length then some stNoRoom
  else if load && !t.loadOk then some stLoad
  else if base = 0x01050001 ∧ t.boot.twinPresent = true ∧ v * 1000 < t.tTw + 1000 then some stSched
  else none

/-- A network parameter of Live "no" is held for the next Opening (Table CMD-1). -/
def heldForOpening (r : ParamRow) : Bool :=
  !r.live && (decide (r.base / 0x1000000 = 0x07) || decide (r.base / 0x10000 = 0x0105))

/-- The status that refuses a parameter write, or none (R444, R450): the value must fit the values in force and those that the next
Opening brings (log 144). -/
def State.writeStatus (s : State) (r : ParamRow) (i : Nat) (v : Int) : Option Nat :=
  let next := s.planned.setPar (r.base + i * 4096) v
  let now := if heldForOpening r then next else s.setPar (r.base + i * 4096) v
  if !r.admits v then some stBadValue
  else if r.base = 0x0A100001 ∧ probeOk v.toNat = false then some stBadId
  else if isSafetyId r.base then some stSafetyParam
  else if !now.joined r.base i || !next.joined r.base i then some stBadComb
  else if !r.live && !s.stopped r.base i then some stNotStopped
  else match now.writeState r.base i with
    | some st => some st
    | none => ((now.writeRoom r.base i).orElse (fun _ => next.writeRoom r.base i))

/-- What a PAR_SET would write, or the status that refuses it. -/
def State.parCheck (s : State) (item : ParItem) : Except Nat Int :=
  match objOf item.id.toNat with
  | none => .error stBadId
  | some (.reading _ _) => .error stReadOnly
  | some (.word r _) => if r.w1c = 0 then .error stReadOnly else .ok ((item.value.toNat % 4294967296 : Nat) : Int)
  | some (.param r i) =>
    let v := itemValue r.format item.value
    match s.writeStatus r i v with
    | some st => .error st
    | none => .ok v

/-- Whether a write needs EXPERT (R3, Table PRO-5). -/
def parExpert (item : ParItem) : Bool :=
  match objOf item.id.toNat with
  | some (.param r _) => r.expert || (decide (r.base = 0x04000171) && decide (item.value.toNat = 3))
  | _ => false

def parCmd (item : ParItem) : Cmd :=
  { op := 0x0302, need := roleEngineer, expert := parExpert item, params := be 4 item.id.toNat ++ be 12 item.value.toNat }

/-- PAR_SET (0x0302): an accepted write waits for the next boundary. -/
def execParSet (c : CmdCtx) (item : ParItem) (s : State) : Result :=
  s.host_ c (parCmd item) true (fun s =>
    match s.parCheck item with
    | .error st => .refuse st []
    | .ok v => .quiet (s.queuePar c item.id.toNat v))

/-! Landing. -/

/-- The observer of an owner starts again on a new source. -/
def State.restartObserver (s : State) (o : Owner) : State :=
  s.modOwnerObs o (fun x => { Observer.reset with sampleErrs := x.sampleErrs, read := x.read })

/-- A port's clock pin and its first reading follow FB_MODE (R123, R128, R129); in a twin installation only the chip that heads the segments drives
FBn_C (R375). -/
def State.setPortMode (s : State) (n : Nat) : State :=
  let ssi := decide (3 ≤ s.parN 0x04100001 n)
  s.modFb n (fun x => { x with ssiPrev := none, cDriven := ssi && (s.twin.onMove || !s.boot.twinPresent) && !s.saf.silent, c := if ssi then true else x.c })

/-- What follows when a parameter takes a new value. -/
def State.afterSet (s s0 : State) (base i : Nat) : State :=
  let changed := decide (s0.par base i ≠ s.par base i)
  let axis := decide (base / 0x10000 = 0x0400)
  let s1 :=
    if base = 0x0B000005 then { s with time := { s.time with tod := true } }
    else if base = 0x04100001 then (if changed then s.setPortMode i else s)
    else if base = 0x04000101 then (if changed then s.restartObserver (ownerAt i) else s)
    else if base = 0x04110101 ∨ base = 0x041101D0 then (if changed then s.restartObserver .line else s)
    else if base = 0x04000150 then s.configLearner i false
    else if base = 0x04000151 ∨ base = 0x04000152 then (if changed then s.configLearner i true else s)
    else if base = 0x01050001 then s.setTimings
    else if base = 0x0F000001 then
      { s with boot := { s.boot with rotDue := s.coreTicks + s.parN base 0 * 1000000000 } }
    else if base = 0x0F000002 then
      { s with boot := { s.boot with scrubNext := min s.boot.scrubNext (s.coreTicks + s.parN base 0 * 1000000000) } }
    else s
  let s2 := if axis && s1.axisUsed i then s1.setTiming i else s1
  s2.queueConfig s0

/-- An accepted write takes effect. -/
def State.landWrite (s : State) (id : Nat) (v : Int) : State :=
  match objOf id with
  | some (.param r i) =>
    if heldForOpening r then { s with boot := { s.boot with pendingNet := sput (fun _ => -1) s.boot.pendingNet id v } }
    else (s.setPar id v).afterSet s r.base i
  | some (.word r i) => s.w1c r.base i (v.toNat &&& r.w1c)
  | _ => s

/-- What a write that lands meets: the checks again, on the state that the earlier writes of the boundary have left (R122, R128, R142;
log 144). -/
def State.landStatus (s : State) (id : Nat) (v : Int) : Nat :=
  match objOf id with
  | some (.param r i) => (s.writeStatus r i v).getD stDone
  | _ => stDone

/-- One queued write lands, or loses to the lower slot of its boundary (R40). -/
def State.landOne (ready : List ParWrite) (s : State) (w : ParWrite) : State :=
  let wins := ready.all (fun (v : ParWrite) => decide (v.cycle ≠ w.cycle ∨ v.id ≠ w.id ∨ w.ctx.slot ≤ v.ctx.slot))
  if wins then
    let st := s.landStatus w.id w.value
    (if st = stDone then s.landWrite w.id w.value else s).replyLater w.ctx 0x0302 st []
  else s.replyLater w.ctx 0x0302 stConflict []

/-- PARAMETER_WRITE_LAND (R444, R40). -/
def execParameterWriteLand (s : State) : Result :=
  let ready := s.host.parQueue.filter (fun (w : ParWrite) => s.boundaryPast w.cycle)
  let s1 := { s with host := { s.host with parQueue := s.host.parQueue.filter (fun (w : ParWrite) => !s.boundaryPast w.cycle) } }
  .next (ready.foldl (State.landOne ready) s1)

/-- STATUS_W1C_WRITE (R444): a PAR_SET to a status word clears its W1C bits when it lands. -/
def execStatusW1cWrite (c : CmdCtx) (item : ParItem) (s : State) : Result :=
  s.host_ c (parCmd item) true (fun s =>
    match objOf item.id.toNat with
    | some (.param _ _) => .refuse stReadOnly []
    | _ =>
      match s.parCheck item with
      | .error st => .refuse st []
      | .ok v => .quiet (s.queuePar c item.id.toNat v))

end Sys2Proof.Machine
end

