-- ==== Sys2Proof/Machine/Boot.lean ====
section
/-! DEFINITION. Resets, the boot from the Ezvex image, and the image commands (spec/17_startup_and_domains.md R459 to R467, R470 to R472;
spec/16_command_set.md R447, R454). -/

namespace Sys2Proof.Machine

/-! Resets (R459 to R461). -/

/-- The epoch that the end of a link that did not reset chooses (R470). -/
def nextEpoch (e : BitVec 4) : BitVec 4 := if e = 15 then 1 else e + 1

/-- A bank as the flash keeps it through a reset. -/
def Bank.kept (b : Bank) : Bank := { Bank.reset with flash := b.flash, written := b.written }

/-- The pin levels of a feedback port through a reset. -/
def FbPort.pins (x : FbPort) : FbPort := { FbPort.reset with a := x.a, b := x.b, z := x.z }

/-- The control die returns to its reset values; the field die, the flash and the straps do not, nor what the wall-time unit, the island
and the parameters are given as. -/
def State.controlReset (s : State) (cause : Nat) (saf : Safety) (time : WallTime) (params : Sparse Int) (fld : FieldCtl) : State :=
  { State.reset with
    pending := s.pending, out := s.out, freeCtr := s.freeCtr, coreTicks := s.coreTicks, die := s.die
    saf := saf, time := time, params := params, fld := fld
    cyc := { Cycle.reset with cycle := s.cyc.cycle, tEpoch := s.cyc.tEpoch }
    fbs := smap (fun _ => FbPort.reset) (fun _ (x : FbPort) => x.pins) s.fbs
    steps := smap (fun _ => StepPort.reset) (fun _ (x : StepPort) => { StepPort.reset with flt := x.flt }) s.steps
    boot := { BootSt.reset with
      cause := cause, bootsel := s.boot.bootsel, testEn := s.boot.testEn, twinPresent := s.boot.twinPresent, twinRole := s.boot.twinRole
      bankA := s.boot.bankA.kept, bankB := s.boot.bankB.kept, islandEpoch := s.boot.islandEpoch } }

/-- The island's own side of channel H through a reset of the control die. -/
def FieldCtl.hSide (f : FieldCtl) : FieldCtl :=
  { FieldCtl.reset with epochH := f.epochH, zeroH := f.zeroH, seqH := f.seqH, rxSeqH := f.rxSeqH, lastH := f.lastH }

/-- PORST_N (R459, Table BOO-2): the control die and the island reset fully, Endgame mode and the latches with them; the straps and TEST_EN
are read (R494). -/
def execPorstN (twinPresent twinRole : Bool) (bootsel : ResetPins) (s : State) : Result :=
  let saf := { Safety.reset with islandRunning := s.saf.islandRunning }
  let s1 := s.controlReset 0 saf WallTime.reset [] FieldCtl.reset
  .next { s1 with
    cyc := Cycle.reset
    boot := { s1.boot with
      testEn := bootsel.testEn, twinPresent := twinPresent, twinRole := twinRole, bootsel := bootsel.bootsel, islandEpoch := 0 } }

/-- The wall-time unit through a warm reset (R467): it keeps counting; its sources are measured anew. -/
def WallTime.warm (t : WallTime) : WallTime :=
  let st : ClockState := match t.state with
    | .free => .free
    | _ => .holdover
  { t with
    state := st, sources := [], ptp := [], step := none, slewDir := 0, tod := false, ppsOut := false, timeFault := false
    offsetHigh := false, faultTold := false, switched := false, timeFaults := 0, srcSwitches := 0, read := {} }

/-- The first case of R460: every stop group is in STO in channel H, or the chip is a standby. -/
def State.resetQuiet (s : State) : Bool :=
  s.twin.standby || (List.range 32).all (fun g => decide ((s.saf.h.group g).code = 2))

/-- RESET_N, or the reset that SYS_RESET announced (R460, R472); TEST_EN is read with it (R494). -/
def execResetN (bootsel : ResetPins) (s : State) : Result :=
  let due := match s.boot.resetDue with
    | none => false
    | some d => decide (d.tick ≤ s.coreTicks)
  let cause := if due then 2 else 1
  let held := s.saf.silent || s.saf.endgame.isSome
  let quiet := !held && s.resetQuiet
  let s0 := if held || quiet then s else s.fatal 0x01
  let saf : Safety :=
    if quiet then
      { Safety.reset with
        islandRunning := s.saf.islandRunning, islandLost := s.saf.islandLost
        h := { Channel.reset with linkLost := s.saf.h.linkLost, lastFrame := s.saf.h.lastFrame } }
    else { s0.saf with p := Channel.reset, twinBit := false, sealed := none, demandWait := [], pendingSec := none }
  let params := if saf.endgame.isSome then s0.params else []
  let s1 := s0.controlReset cause saf s0.time.warm params s0.fld.hSide
  .next { s1 with boot := { s1.boot with testEn := bootsel.testEn, bootsel := bootsel.bootsel } }

/-- VDD_H_MONITOR (R460, Table BOO-7). -/
def execVddHMonitor (s : State) : Result := whenB s.saf.islandRunning s s.islandDown

/-- ISLAND_POR_RELEASE (R460): injection idle, no permit on channel H, HSAFE_OK0 and HSAFE_OK1 low. -/
def execIslandPorRelease (s : State) : Result :=
  whenB (!s.saf.islandRunning) s
    { s with saf := { s.saf with
        islandRunning := true, hsafe0 := false, hsafe1 := false, h := { s.saf.h with ok := false } } }

/-- CONTROL_DIE_SILENT (R314): no cycle strobe for 2T. -/
def execControlDieSilent (s : State) : Result :=
  whenB (s.saf.islandRunning && s.cyc.running && decide (s.tCycle s.cyc.cycle + 2 * s.period ≤ s.now)) s (s.fatal 0x01)

/-! The image (R463 to R465). -/

/-- The checks of R465 on the header and the hashes. -/
def bankHeaderOk (b : BankImage) : Bool :=
  b.readable && decide (b.magic = 0x455A5658) && decide (b.format = 1) && decide (b.part = 0x7256) && decide (b.minRev.toNat ≤ 0xB1)
  && b.keyHashOk && b.sigOk && b.sectionsOk

/-- One parameter item of an image. -/
def State.loadItem (s : State) (x : ParItem) : State :=
  match paramFind x.id.toNat with
  | none => s
  | some (r, _) => s.setPar x.id.toNat (itemValue r.format x.value)

/-- The parameter items of a bank take their values. -/
def State.loadItems (s : State) (items : List ParItem) : State := items.foldl State.loadItem s

/-- The segment parameters and slot records of a segment (Table BOO-4). -/
def State.bootSchedule (s : State) (n : Nat) (c : Schedule) : State :=
  let put (s : State) (base i : Nat) (v : Nat) : State := s.setPar (base + i * 4096) (v : Int)
  let s1 := put (put (put (put s 0x07300001 0 c.period) 0x07200001 n c.staticSlots) 0x07200002 n c.slotLen) 0x07200003 n c.headSlots
  let s2 := put (put (put (put s1 0x07200004 n c.minislots) 0x07200005 n c.minislotLen) 0x07200006 n c.wCode) 0x07200007 n c.guardLen
  s2.modSeg n (fun g => { g with sched := c })

/-- The engines' program memories and local constants; the cleared engines are in service. -/
def State.loadEngines (s : State) (programs : List (BitVec 64)) (consts : List Word48) : State :=
  let p := sputs (fun _ => (0 : BitVec 64)) [] 0 (programs.take 8192)
  let k := sputs (fun _ => (0 : Word48)) [] 0 (consts.take 4096)
  (List.range 8).foldl (fun s e => s.setEngine e { Engine.reset with prog := p, consts := k, inService := true }) s

/-- The segments 0x0000 to 0xEFFF of the pool. -/
def State.loadSegments (s : State) (l : List (BitVec 16 × PvtSeg)) : State :=
  l.foldl (fun s (x : BitVec 16 × PvtSeg) =>
    let i := x.1.toNat
    if i < 0xF000 then
      let s1 := s.putPvt i x.2
      if s1.segIsWritten i then s1 else { s1 with eng := { s1.eng with segWritten := s1.eng.segWritten ++ [i] } }
    else s) s

/-- The entries of MOVE_LIST_INIT are checked one by one and added as ARMED; a failing one is skipped and counted (R465). -/
def State.loadMoves (s : State) (l : List MoveEntry) : State :=
  l.foldl (fun s (e : MoveEntry) =>
    if s.moveStatus s.seqsTaken e = stDone then { s with moves := { s.moves with items := s.moves.items ++ [newItem e] } }
    else { s with boot := { s.boot with initSkipped := s.boot.initSkipped + 1 } }) s

/-- The sections of a bank are loaded (R467 steps 3 to 5). -/
def State.loadBank (s : State) (b : BankImage) : State :=
  let s1 := s.loadItems b.items
  let s2 := b.schedules.foldl (fun s (x : SegIx × Schedule) => s.bootSchedule x.1.val x.2) s1
  let s3 := (s2.loadEngines b.programs b.constants).loadSegments b.segments
  let s4 := b.coefs.foldl (fun s (x : AxisIx × BitVec 16 × Word48) => s.setCtx x.1.val x.2.1.toNat (hostWord x.2.1.toNat x.2.2).toInt) s3
  let s5 := (List.range 256).foldl (fun s a => if s.parN 0x04000150 a = 1 then s.configLearner a true else s) s4
  let s6 := (List.range 16).foldl (fun s n => if 3 ≤ s.parN 0x04100001 n then s.setPortMode n else s) s5
  (s6.setTimings).applySection b.safety

/-- Whether every parameter item of a bank passes the checks of R444, in the state that the bank gives. -/
def State.itemsOk (t : State) (items : List ParItem) : Bool :=
  items.all (fun (x : ParItem) => match paramFind x.id.toNat with
    | none => false
    | some (r, i) =>
      let v := itemValue r.format x.value
      !isSafetyId r.base && r.admits v && (decide (r.base ≠ 0x0A100001) || probeOk v.toNat) && t.joined r.base i
        && (t.writeRoom r.base i).isNone)

/-- Whether a bank is valid (R465); `t` is the state that it gives. -/
def State.bankValid (t : State) (b : BankImage) : Bool :=
  bankHeaderOk b && t.itemsOk b.items && b.schedules.all (fun (x : SegIx × Schedule) =>
    scheduleForm x.2 && layoutOk x.2 && decide (x.2.period = t.parN 0x07300001 0)) && t.loadOk

/-- What the device knows of a bank after it has read it. -/
def Bank.seen (k : Bank) (b : BankImage) (valid : Bool) : Bank :=
  { k with valid := valid, readable := b.readable, imgSeq := b.imgSeq.toNat, hashes := b.hashes, written := false }

/-- The bank that the boot loads under BOOTSEL, or none. -/
def bootChoice (sel : BitVec 2) (a b : Bool) (seqA seqB : Nat) : Option Nat :=
  if sel = 1 then (if a then some 0 else none)
  else if sel = 2 then (if b then some 1 else none)
  else if a && b then (if seqA < seqB then some 1 else some 0)
  else if a then some 0
  else if b then some 1
  else none

/-- The slots of KEYS_WRAPPED as a bank holds them. -/
def keySlots (l : List KeySlot) : List (Option KeySlot) := [l[0]?, l[1]?]

/-- The device enters recovery (R466). -/
def State.enterRecovery (s : State) (keysA keysB : List KeySlot) : State :=
  let ka := keyStoreOf (keySlots keysA)
  { s with
    boot := { s.boot with booting := false, recovery := true, ready := false, bank := none, imgSeq := 0, fwVer := 0 }
    host := { s.host with keys := if ka.default then keyStoreOf (keySlots keysB) else ka } }

/-- Steps 4 to 6 of R467 for the bank that has been loaded. -/
def State.finishBoot (s : State) (n : Nat) (b : BankImage) : State :=
  let s1 := s.loadMoves b.moves
  let s2 := { s1 with
    host := { s1.host with keys := keyStoreOf (keySlots b.keys) }
    fld := { s1.fld with cfgQueue := s1.fieldConfig }
    saf := { s1.saf with p := { s1.saf.p with ok := true }, h := { s1.saf.h with ok := s1.saf.islandRunning && !s1.saf.islandLost } }
    boot := { s1.boot with
      booting := false, recovery := false, ready := true, bank := some n, fwVer := b.fwVer, imgSeq := b.imgSeq
      rotDue := s1.coreTicks + s1.parN 0x0F000001 0 * 1000000000, scrubNext := s1.coreTicks + s1.parN 0x0F000002 0 * 1000000000
      islandEpoch := if s1.saf.islandRunning then nextEpoch s1.boot.islandEpoch else 0 } }
  let s3 := s2.raise 0x0101 0 0 (be 1 s2.boot.cause ++ be 1 n ++ be 4 b.imgSeq.toNat ++ be 2 s2.boot.initSkipped)
  if s3.boot.bootsel = 3 || s3.saf.silent || s3.saf.endgame.isSome then s3 else s3.beginOpening

/-- BOOT_COMPLETE (R465 to R467): `a` and `b` are what the boot finds in the two banks.  A device with TEST_EN high does not boot (R494). -/
def execBootComplete (flashOk : Bool) (a b : BankImage) (s : State) : Result :=
  let ta := s.loadBank a
  let tb := s.loadBank b
  let va := flashOk && ta.bankValid a
  let vb := flashOk && tb.bankValid b
  let know (t : State) : State := { t with boot := { t.boot with bankA := s.boot.bankA.seen a va, bankB := s.boot.bankB.seen b vb } }
  whenB (s.boot.booting && !s.boot.testEn) s
    (match bootChoice s.boot.bootsel va vb a.imgSeq.toNat b.imgSeq.toNat with
      | some 0 => (know ta).finishBoot 0 a
      | some _ => (know tb).finishBoot 1 b
      | none => (know s).enterRecovery (if flashOk then a.keys else []) (if flashOk then b.keys else []))

/-! Image commands (R447, R454, R466). -/

/-- What the device knows of a bank of the flash. -/
def State.bankOf (s : State) (n : Nat) : Bank := if n = 0 then s.boot.bankA else s.boot.bankB

def State.setBank (s : State) (n : Nat) (b : Bank) : State :=
  if n = 0 then { s with boot := { s.boot with bankA := b } } else { s with boot := { s.boot with bankB := b } }

/-- The bytes of a bank. -/
def Bank.read (b : Bank) (off n : Nat) : List Byte := sgets (fun _ => 0xFF) b.flash off n

/-- The header of a written bank (Table BOO-3). -/
def Bank.header (b : Bank) : List Byte := b.read 0 4096

/-- A section entry of a header: its type, whether it is empty, its place and length, and its hash. -/
def sectionOf (h : List Byte) (i : Nat) : Nat × Bool × Nat × Nat × List Byte :=
  let o := 0x60 + 48 * i
  (field h o 1, nbit (field h (o + 1) 1) 0, field h (o + 4) 4, field h (o + 8) 4, (h.drop (o + 16)).take 32)

/-- The sections of a header: each of the nine types once, each but KEYS_WRAPPED at its place and with its hash (R463 to R465). -/
def Bank.sectionsOk (b : Bank) : Bool :=
  let h := b.header
  let secs := (List.range 9).map (sectionOf h)
  decide (field h 6 2 = 9)
  && (List.range 9).all (fun i => secs.any (fun (x : Nat × Bool × Nat × Nat × List Byte) => decide (x.1 = i + 1)))
  && secs.all (fun (x : Nat × Bool × Nat × Nat × List Byte) =>
    if x.1 = 8 then true
    else if x.2.1 then decide (x.1 = 6)
    else decide (x.2.2.1 % 4096 = 0 ∧ 0x3000 ≤ x.2.2.1 ∧ x.2.2.1 + x.2.2.2.1 ≤ 16777216)
      && decide (sha256 (b.read x.2.2.1 x.2.2.2.1) = x.2.2.2.2))
  && secs.all (fun (x : Nat × Bool × Nat × Nat × List Byte) => secs.all (fun (y : Nat × Bool × Nat × Nat × List Byte) =>
    decide (x.1 = y.1) || x.2.1 || y.2.1 || decide (x.2.2.1 + x.2.2.2.1 ≤ y.2.2.1 ∨ y.2.2.1 + y.2.2.2.1 ≤ x.2.2.1)))

/-- The checks that IMG_ACTIVATE makes on a written bank (R454, R465). -/
def Bank.check (b : Bank) : Bool :=
  let h := b.header
  decide (field h 0 4 = 0x455A5658 ∧ field h 4 2 = 1 ∧ field h 0xC 2 = 0x7256 ∧ field h 0xE 1 ≤ 0xB1)
  && Config.keyHashes.contains (sha256 ((h.drop 0x20).take 64))
  && ecdsaOk ((h.drop 0x20).take 64) ((h.drop 0xF80).take 64) (h.take 0xF80)
  && b.sectionsOk

/-- A bank as the image commands see it: the boot's findings, or what stands in the flash since it was written. -/
def Bank.view (b : Bank) : Bank :=
  if b.written then
    { b with
      valid := b.check, imgSeq := field b.header 8 4
      hashes := (List.range 9).map (fun i => BitVec.ofNat 64 (field b.header (0x60 + 48 * i + 16) 8)) }
  else b

/-- The bank not in force (R465, R466). -/
def State.spareBank (s : State) : Nat :=
  match s.boot.bank with
  | some 0 => 1
  | some _ => 0
  | none =>
    let a := s.boot.bankA
    let b := s.boot.bankB
    if a.readable && (!b.readable || decide (b.imgSeq < a.imgSeq)) then 1 else 0

/-- IMG_WRITE (0x0E01): the data waits for the flash. -/
def execImgWrite (c : CmdCtx) (offset : BitVec 32) (data : List Byte) (s : State) : Result :=
  s.hostAt c (.imgWrite c offset data) { op := 0x0E01, need := roleAdmin, logged := false } true (fun s =>
    if 16777216 < offset.toNat + data.length then .refuse stBadValue []
    else if s.boot.flashWrite.isSome || s.host.keys.pendingSet.isSome then .refuse stBusy []
    else .quiet { s with boot := { s.boot with flashWrite := some (c, s.spareBank, offset.toNat, data) } })

/-- IMG_ACTIVATE (0x0E02, R454). -/
def execImgActivate (c : CmdCtx) (s : State) : Result :=
  s.hostAt c (.imgActivate c) { op := 0x0E02, need := roleAdmin, logged := false } true (fun s =>
    let n := s.spareBank
    let b := (s.bankOf n).view
    let other := (s.bankOf (1 - n)).view.imgSeq
    if s.boot.flashWrite.isSome || s.host.keys.pendingSet.isSome then .refuse stBusy []
    else if !b.valid then .refuse stBadValue []
    else
      let q := if other < b.imgSeq then b.imgSeq else min 0xFFFFFFFE (other + 1)
      let s1 := s.setBank n { (b.write 8 (be 4 q)) with imgSeq := q, written := false }
      .ok (s1.put (.flash n 8 (be 4 q))) stDone (be 4 q))

/-- IMG_INFO (0x0E03). -/
def execImgInfo (c : CmdCtx) (bank : BitVec 8) (s : State) : Result :=
  s.hostAt c (.imgInfo c bank) { op := 0x0E03, need := roleView, move := false, logged := false } true (fun s =>
    if 1 < bank.toNat then .refuse stBadValue []
    else
      let b := (s.bankOf bank.toNat).view
      .ok s stDone (be 1 (b2n b.valid) ++ be 4 b.imgSeq ++ b.hashes.flatMap (fun (h : BitVec 64) => be 8 h.toNat)))

end Sys2Proof.Machine
end

