-- ==== Sys2Proof/Machine/Host.lean ====
section
/-! DEFINITION. The PCIe registers and rings, device information and the event history (spec/15_host_and_sessions.md R422 to R426;
spec/16_command_set.md R447, R457; spec/17_startup_and_domains.md R469). -/

namespace Sys2Proof.Machine

/-! Rings (R424, R425). -/

/-- RING_EN. -/
def Bar0.ringOn (b : Bar0) : Bool := nbit b.hostCtrl.toNat 0

/-- EQ_EN. -/
def Bar0.eqOn (b : Bar0) : Bool := nbit b.hostCtrl.toNat 1

/-- The completion ring has no free entry. -/
def Bar0.cqFull (b : Bar0) : Bool := decide ((b.cqTail.toNat + 1) % b.cqSize.toNat = b.cqHead.toNat)

/-- The device reads entries in order while it may; what it leaves unread stays in the queue. -/
def State.drainRing (s : State) : List (List Byte) → State
  | [] => s.modBar (fun b => { b with sqQueue := [] })
  | e :: rest =>
    let b := s.host.bar0
    if b.ringOn && !b.sqStopped && !b.cqFull then
      let s1 := s.modBar (fun b => { b with sqHead := BitVec.ofNat 32 ((b.sqHead.toNat + 1) % b.sqSize.toNat) })
      (s1.takePacket .pcie e).drainRing rest
    else s.modBar (fun b => { b with sqQueue := e :: rest })

/-- The device reads what waits in the submission ring. -/
def State.readRing (s : State) : State := s.drainRing s.host.bar0.sqQueue

/-- A write of the submission doorbell; `entries` is what the host wrote into the ring from the old SQ_TAIL on. -/
def State.writeSqTail (s : State) (value : Nat) (entries : List (List Byte)) : State :=
  let b := s.host.bar0
  let size := b.sqSize.toNat
  if !b.ringOn then s.modBar (fun b => { b with sqTail := BitVec.ofNat 32 value })
  else if size ≤ value then (s.modBar (fun b => { b with sqTail := BitVec.ofNat 32 value, sqStopped := true })).setInt 3
  else
    let n := (value + size - b.sqTail.toNat % size) % size
    let fresh := (List.range n).map (fun i => entries.getD i [])
    (s.modBar (fun b => { b with sqTail := BitVec.ofNat 32 value, sqQueue := b.sqQueue ++ fresh })).readRing

/-- SQ_TAIL (R424). -/
def execSqTail (value : BitVec 32) (entries : List (List Byte)) (s : State) : Result := .next (s.writeSqTail value.toNat entries)

/-- CQ_HEAD (R424). -/
def execCqHead (value : BitVec 32) (s : State) : Result := .next ((s.modBar (fun b => { b with cqHead := value })).readRing)

/-- EQ_HEAD (R425). -/
def execEqHead (value : BitVec 32) (s : State) : Result := .next (s.modBar (fun b => { b with eqHead := value }))

/-- HOST_CTRL is written (Table HST-3): setting RING_EN from 0 to 1 clears SQ_STOPPED and the four indices (R424). -/
def Bar0.writeCtrl (b : Bar0) (ring eq : Bool) : Bar0 :=
  let b1 := { b with hostCtrl := BitVec.ofNat 32 (b2n ring + 2 * b2n eq) }
  if ring && !b.ringOn then { b1 with sqStopped := false, sqTail := 0, sqHead := 0, cqHead := 0, cqTail := 0, sqQueue := [] } else b1

/-- RING_EN (R424). -/
def execRingEn (s : State) : Result := .next (s.modBar (fun b => b.writeCtrl true b.eqOn))

/-- EQ_EN (R425). -/
def execEqEn (s : State) : Result := .next (s.modBar (fun b => b.writeCtrl b.ringOn true))

/-- A write of 1 clears the causes of Table HST-4. -/
def State.clearInts (s : State) (value : BitVec 32) : State :=
  s.modBar (fun b => { b with intStatus := b.intStatus &&& ~~~ (value &&& 0x3F#32) })

/-- INT_STATUS (R423). -/
def execIntStatus (value : BitVec 32) (s : State) : Result := .next (s.clearInts value)

/-- A ring size is a power of two within its range. -/
def ringSizeOk (lo hi v : Nat) : Bool := decide (lo ≤ v) && decide (v ≤ hi) && (List.range 13).any (fun n => decide (v = 2 ^ n))

/-- A base register's low word is aligned to 4 KiB. -/
def basePage (v : BitVec 32) : BitVec 32 := v &&& 0xFFFFF000#32

/-- An RWL register of a ring: its write is ignored while the ring runs (R423). -/
def State.lockedWrite (s : State) (running : Bool) (f : Bar0 → Bar0) : State := if running then s.setInt 5 else s.modBar f

/-- A write of a BAR0 register (Table HST-3). -/
def State.writeRegister (s : State) (off : Nat) (v : BitVec 32) : State :=
  let b := s.host.bar0
  if off = 0x0004 then s.modBar (fun b => b.writeCtrl (nbit v.toNat 0) (nbit v.toNat 1))
  else if off = 0x0010 then s.lockedWrite b.ringOn (fun b => { b with sqBaseLo := basePage v })
  else if off = 0x0014 then s.lockedWrite b.ringOn (fun b => { b with sqBaseHi := v })
  else if off = 0x0018 then s.lockedWrite b.ringOn (fun b => if ringSizeOk 16 1024 v.toNat then { b with sqSize := v } else b)
  else if off = 0x001C then s.writeSqTail v.toNat []
  else if off = 0x0030 then s.lockedWrite b.ringOn (fun b => { b with cqBaseLo := basePage v })
  else if off = 0x0034 then s.lockedWrite b.ringOn (fun b => { b with cqBaseHi := v })
  else if off = 0x0038 then s.lockedWrite b.ringOn (fun b => if ringSizeOk 16 1024 v.toNat then { b with cqSize := v } else b)
  else if off = 0x003C then (s.modBar (fun b => { b with cqHead := v })).readRing
  else if off = 0x0050 then s.lockedWrite b.eqOn (fun b => { b with eqBaseLo := basePage v })
  else if off = 0x0054 then s.lockedWrite b.eqOn (fun b => { b with eqBaseHi := v })
  else if off = 0x0058 then s.lockedWrite b.eqOn (fun b => if ringSizeOk 64 4096 v.toNat then { b with eqSize := v } else b)
  else if off = 0x005C then s.modBar (fun b => { b with eqHead := v })
  else if off = 0x0070 then s.clearInts v
  else if off = 0x0074 then s.modBar (fun b => { b with intEnable := v &&& 0x3F#32 })
  else if off = 0x0078 then s.modBar (fun b => if nbits v.toNat 0 16 ≤ 1000 then { b with intCoal := v &&& 0xFFFF#32 } else b)
  else if off = 0x007C then s.modBar (fun b => { b with msiMap := v &&& 0xFFF#32 })
  else if off = 0x0080 then s.modBar (fun b => { b with alertMask := v &&& 0x3F#32 })
  else s

/-- REGISTER_WRITE (R423). -/
def execRegisterWrite (offset : BitVec 16) (value : BitVec 32) (s : State) : Result := .next (s.writeRegister offset.toNat value)

/-- What a read of a BAR0 register returns (Table HST-3); 0 at an unlisted offset. -/
def State.readRegister (s : State) (off : Nat) : BitVec 32 :=
  let b := s.host.bar0
  if off = 0x0000 then 0x7256B100#32
  else if off = 0x0004 then b.hostCtrl
  else if off = 0x0008 then
    BitVec.ofNat 32 (flagWord [(31, s.boot.ready), (30, s.twin.onMove), (29, s.host.keys.default), (28, b.sqStopped)])
  else if off = 0x0010 then b.sqBaseLo
  else if off = 0x0014 then b.sqBaseHi
  else if off = 0x0018 then b.sqSize
  else if off = 0x001C then b.sqTail
  else if off = 0x0020 then b.sqHead
  else if off = 0x0030 then b.cqBaseLo
  else if off = 0x0034 then b.cqBaseHi
  else if off = 0x0038 then b.cqSize
  else if off = 0x003C then b.cqHead
  else if off = 0x0040 then b.cqTail
  else if off = 0x0050 then b.eqBaseLo
  else if off = 0x0054 then b.eqBaseHi
  else if off = 0x0058 then b.eqSize
  else if off = 0x005C then b.eqHead
  else if off = 0x0060 then b.eqTail
  else if off = 0x0070 then b.intStatus
  else if off = 0x0074 then b.intEnable
  else if off = 0x0078 then b.intCoal
  else if off = 0x007C then b.msiMap
  else if off = 0x0080 then b.alertMask
  else 0

/-- MSI_COALESCE_END (R426): the causes that became set during the gap produce one message. -/
def execMsiCoalesceEnd (vector : Fin 4) (s : State) : Result :=
  let b := s.host.bar0
  let gap := nbits b.intCoal.toNat 0 16 * 1000
  let past := match s.msiLast vector.val with
    | none => true
    | some t => decide (t + gap ≤ s.coreTicks)
  whenB (nbit b.msiHeld.toNat vector.val && past) s
    ((s.modBar (fun b =>
      { b with
        msiHeld := BitVec.ofNat 4 (nsetBit b.msiHeld.toNat vector.val false)
        msiLast := sput (fun _ => none) b.msiLast vector.val (some s.coreTicks) })).put (.msi vector.val))

/-- PCIE_RESET (R469): BAR0 returns to its reset values, and the sessions opened over PCIe close. -/
def execPcieReset (s : State) : Result := .next ((s.closeWhere (fun src => decide (src = .pcie))).modBar (fun _ => Bar0.reset))

/-! Commands of the device itself (R447, R457). -/

/-- DEV_INFO (0x0101). -/
def execDevInfo (c : CmdCtx) (s : State) : Result :=
  s.hostAt c (.devInfo c) { op := 0x0101, need := roleView, move := false, logged := false } true (fun s =>
    .ok s stDone (be 2 0x7256 ++ [0x42, 0x31, 0x48, 0x32, 0x46, 0x31] ++ be 6 Config.serial.toNat ++ be 4 s.boot.fwVer.toNat
      ++ be 1 (s.boot.bank.getD 0xFF) ++ be 4 s.boot.imgSeq.toNat ++ be 1 s.devFlags ++ be 1 (s.session c.slot.val).role))

/-- SYS_EVT_MASK (0x0102, R457). -/
def execSysEvtMask (c : CmdCtx) (classes : BitVec 16) (minSev : BitVec 8) (s : State) : Result :=
  s.hostAt c (.sysEvtMask c classes minSev) { op := 0x0102, need := roleView, logged := false } true (fun s =>
    if 2 < minSev.toNat then .refuse stBadValue []
    else .ok (s.modSession c.slot.val (fun x => { x with evtClasses := classes, evtSev := minSev.toNat })) stDone [])

/-- SYS_RESET (0x0103): a warm reset follows 10 ms after the reply. -/
def execSysReset (c : CmdCtx) (kind : BitVec 8) (s : State) : Result :=
  s.hostAt c (.sysReset c kind) { op := 0x0103, need := roleAdmin, logged := false } true (fun s =>
    if kind ≠ 1 then .refuse stBadValue []
    else if !s.allDisabled then .refuse stNotStopped []
    else .ok { s with boot := { s.boot with resetDue := some { tick := s.coreTicks + 10000000 } } } stDone [])

/-- SYS_EVT_READ (0x0104): records of the history, from FROM on. -/
def execSysEvtRead (c : CmdCtx) (start : BitVec 32) (count : BitVec 8) (s : State) : Result :=
  s.hostAt c (.sysEvtRead c start count) { op := 0x0104, need := roleView, move := false, logged := false } true (fun s =>
    if !decide (1 ≤ count.toNat) || !decide (count.toNat ≤ s.perPacket c 3 22) then .refuse stBadValue []
    else
      let recs := (List.range count.toNat).filterMap (fun i =>
        s.host.history.find? (fun (e : Event) => decide (e.seq = start + BitVec.ofNat 32 i)))
      if recs = [] then .refuse stBadValue [] else .ok s stDone (recs.flatMap Event.bytes))

end Sys2Proof.Machine
end

