-- ==== Sys2Proof/Machine/CycleStart.lean ====
section
/-! DEFINITION. CYCLE_START (spec/01_control_cycle.md R13 to R15), and the commands that wait for a cycle boundary
(spec/15_host_and_sessions.md R418; spec/16_command_set.md R443, R453). -/

namespace Sys2Proof.Machine

/-- A command that waited for the boundary executes. -/
def State.runHeld (s : State) (i : Instr) : State :=
  let r : Result := match i with
    | .devInfo c => execDevInfo c s
    | .sysEvtMask c classes minSev => execSysEvtMask c classes minSev s
    | .sysReset c kind => execSysReset c kind s
    | .sysEvtRead c start count => execSysEvtRead c start count s
    | .sesClose c => execSesClose c s
    | .parGet c ids => execParGet c ids s
    | .parInfo c id => execParInfo c id s
    | .axCoefRead c axis offset count => execAxCoefRead c axis offset count s
    | .proSegRead c first count => execProSegRead c first count s
    | .movRead c seq => execMovRead c seq s
    | .netMdio c bus op phy devad reg data answer => execNetMdio c bus op phy devad reg data answer s
    | .netMeasure c seg port hop => execNetMeasure c seg port hop s
    | .twnInfo c => execTwnInfo c s
    | .scsRead c first count => execScsRead c first count s
    | .timGet c => execTimGet c s
    | .timSrcRead c src => execTimSrcRead c src s
    | .arbQueueRead c group start => execArbQueueRead c group start s
    | .imgWrite c offset data => execImgWrite c offset data s
    | .imgActivate c => execImgActivate c s
    | .imgInfo c bank => execImgInfo c bank s
    | _ => .next s
  match r with
  | .next t => t
  | _ => s

/-- The commands with AT_BOUNDARY execute at the boundary, in order of arrival, and their replies show it (R418, R443); what a closed session left
waiting is not executed (R432). -/
def State.takeBoundary (s : State) : State :=
  let s1 : State := { s with host := { s.host with boundary := [], atBoundary := true } }
  let s2 := s.host.boundary.foldl (fun s (q : CmdCtx × Instr) =>
    if (s.session q.1.slot.val).phase = .opened then s.runHeld q.2 else s) s1
  { s2 with host := { s2.host with atBoundary := false } }

/-- CYCLE_START (R13): cycle 0 once every segment is through Survey (Table SLT-5), then each next cycle. -/
def execCycleStart (s : State) : Result :=
  if s.saf.silent || s.saf.endgame.isSome then .next s
  else
    let k := s.nextCycle
    let due := if s.cyc.running then s.cyc.cycle + 1 else 0
    let first := decide (s.opening.phase = .segments) && s.surveysDone
    if !(s.cyc.running || first) || decide (s.now < s.tCycle due) then .next s
    else
      let s0 := if s.cyc.running then s.wrapCycle
        else
          let t := (List.range 8).foldl (fun s n =>
            if (s.seg n).phase = .scheduleLoad then
              s.modSeg n (fun g => { g with phase := .synchronise, phaseTick := s.coreTicks, syncFrom := 0, activateAt := none })
            else s) s
          { t with cyc := { t.cyc with sealedFor := none, movePassed := none } }
      let s1 := (s0.gather.swapOut k).enterCycle k
      let s2 := if s1.twin.onMove then s1.headSend else s1.cycleStops.shadowRun
      .next ((((s2.estimates k).landArm k).joinStandby.landOutputs.takeBoundary).numberAll)

end Sys2Proof.Machine
end

