-- ==== Sys2Proof/Machine/EngineInstr.lean ====
section
/-! DEFINITION. The engine instructions of Table ENG-12 (R162). -/

namespace Sys2Proof.Machine

/-- LD Xd, [Aa]{+Oo}. -/
def execCeLd (e : EngIx) (d : Fin 32) (a : Fin 8) (pm : Bool) (o : Fin 8) (ecc : Ecc) (s : State) : Result :=
  s.engineStep e.val 1 (engLoad 1 d.val a.val o.val pm ecc)

/-- LDQ Xd, [Aa]{+Oo}: d must be a multiple of 4. -/
def execCeLdq (e : EngIx) (d : Fin 32) (a : Fin 8) (pm : Bool) (o : Fin 8) (ecc : Ecc) (s : State) : Result :=
  s.engineStep e.val (if sharedAddr ((s.engine e.val).ar a.val).toNat then 4 else 1) (fun s x r =>
    if d.val % 4 = 0 then engLoad 4 d.val a.val o.val pm ecc s x r else .illegal)

/-- ST [Aa]{+Oo}, Xd. -/
def execCeSt (e : EngIx) (d : Fin 32) (a : Fin 8) (pm : Bool) (o : Fin 8) (s : State) : Result :=
  s.engineStep e.val 1 (engStore 1 d.val a.val o.val pm)

/-- STQ [Aa]{+Oo}, Xd: d must be a multiple of 4. -/
def execCeStq (e : EngIx) (d : Fin 32) (a : Fin 8) (pm : Bool) (o : Fin 8) (s : State) : Result :=
  s.engineStep e.val (if sharedAddr ((s.engine e.val).ar a.val).toNat then 4 else 1) (fun s x r =>
    if d.val % 4 = 0 then engStore 4 d.val a.val o.val pm s x r else .illegal)

/-- LDI Xd, imm48. -/
def execCeLdi (e : EngIx) (d : Fin 32) (imm : Word48) (s : State) : Result :=
  s.engineStep e.val 1 (fun _ x _ => .seq (x.setX d.val imm))

/-- LDS spr, imm32. -/
def execCeLds (e : EngIx) (spr : BitVec 8) (imm : BitVec 32) (s : State) : Result :=
  s.engineStep e.val 1 (fun _ x _ =>
    match x.writeSpr spr.toNat (imm.setWidth 48) with
    | none => .illegal
    | some y => .seq y)

/-- MOV Xd, Xs. -/
def execCeMov (e : EngIx) (d s : Fin 32) (st : State) : Result :=
  st.engineStep e.val 1 (fun _ x _ => .seq (x.setX d.val (x.xr s.val)))

/-- MVA between Xd and a special register. -/
def execCeMva (e : EngIx) (fromSpecial : Bool) (x : Fin 32) (spr : BitVec 8) (s : State) : Result :=
  s.engineStep e.val 1 (fun _ y _ =>
    if fromSpecial then
      match y.readSpr spr.toNat with
      | none => .illegal
      | some v => .seq (y.setX x.val v)
    else
      match y.writeSpr spr.toNat (y.xr x.val) with
      | none => .illegal
      | some z => .seq z)

/-- AMOD Aa, Oo. -/
def execCeAmod (e : EngIx) (a : Fin 8) (o : Fin 8) (s : State) : Result :=
  s.engineStep e.val 1 (fun _ x _ => .seq (x.postMod a.val o.val true))

def execCeAdd (e : EngIx) (d s t : Fin 32) (st : State) : Result :=
  st.engineStep e.val 1 (fun _ x _ => engWrap d.val (fun x => (x.xr s.val).toInt + (x.xr t.val).toInt) x)

def execCeSub (e : EngIx) (d s t : Fin 32) (st : State) : Result :=
  st.engineStep e.val 1 (fun _ x _ => engWrap d.val (fun x => (x.xr s.val).toInt - (x.xr t.val).toInt) x)

def execCeAdds (e : EngIx) (d s t : Fin 32) (st : State) : Result :=
  st.engineStep e.val 1 (fun _ x _ => engSat d.val (fun x => (x.xr s.val).toInt + (x.xr t.val).toInt) x)

def execCeSubs (e : EngIx) (d s t : Fin 32) (st : State) : Result :=
  st.engineStep e.val 1 (fun _ x _ => engSat d.val (fun x => (x.xr s.val).toInt - (x.xr t.val).toInt) x)

def execCeAnd (e : EngIx) (d s t : Fin 32) (st : State) : Result :=
  st.engineStep e.val 1 (fun _ x _ => engAlu d.val (fun x => x.xr s.val &&& x.xr t.val) x)

def execCeOr (e : EngIx) (d s t : Fin 32) (st : State) : Result :=
  st.engineStep e.val 1 (fun _ x _ => engAlu d.val (fun x => x.xr s.val ||| x.xr t.val) x)

def execCeXor (e : EngIx) (d s t : Fin 32) (st : State) : Result :=
  st.engineStep e.val 1 (fun _ x _ => engAlu d.val (fun x => x.xr s.val ^^^ x.xr t.val) x)

/-- SHL: by 0 to 47, saturating. -/
def execCeShl (e : EngIx) (d s : Fin 32) (sh : Fin 64) (st : State) : Result :=
  st.engineStep e.val 1 (fun _ x _ =>
    if sh.val ≤ 47 then engSatZN d.val (fun x => (x.xr s.val).toInt * 2 ^ sh.val) x else .illegal)

/-- ASR: by 0 to 47, round half up. -/
def execCeAsr (e : EngIx) (d s : Fin 32) (sh : Fin 64) (st : State) : Result :=
  st.engineStep e.val 1 (fun _ x _ =>
    if sh.val ≤ 47 then engAlu d.val (fun x => w48 (rhu (x.xr s.val).toInt sh.val)) x else .illegal)

/-- CMP: flags from Xs − Xt. -/
def execCeCmp (e : EngIx) (s t : Fin 32) (st : State) : Result :=
  st.engineStep e.val 1 (fun _ x _ =>
    let d := (x.xr s.val).toInt - (x.xr t.val).toInt
    .seq (x.setZNV (w48 d) d))

def execCeMin (e : EngIx) (d s t : Fin 32) (st : State) : Result :=
  st.engineStep e.val 1 (fun _ x _ => engAlu d.val (fun x => w48 (min (x.xr s.val).toInt (x.xr t.val).toInt)) x)

def execCeMax (e : EngIx) (d s t : Fin 32) (st : State) : Result :=
  st.engineStep e.val 1 (fun _ x _ => engAlu d.val (fun x => w48 (max (x.xr s.val).toInt (x.xr t.val).toInt)) x)

def execCeAbs (e : EngIx) (d s : Fin 32) (st : State) : Result :=
  st.engineStep e.val 1 (fun _ x _ => engSatZN d.val (fun x => ((x.xr s.val).toInt.natAbs : Int)) x)

def execCeNeg (e : EngIx) (d s : Fin 32) (st : State) : Result :=
  st.engineStep e.val 1 (fun _ x _ => engSatZN d.val (fun x => -(x.xr s.val).toInt) x)

def execCeAddi (e : EngIx) (d s : Fin 32) (imm : BitVec 32) (st : State) : Result :=
  st.engineStep e.val 1 (fun _ x _ => engWrap d.val (fun x => (x.xr s.val).toInt + imm.toInt) x)

/-- WRAPM: Xt must be at least 2. -/
def execCeWrapm (e : EngIx) (d s t : Fin 32) (st : State) : Result :=
  st.engineStep e.val 1 (fun _ x _ =>
    if (x.xr t.val).toInt ≥ 2 then
      engAlu d.val (fun x => w48 (wrapMod (x.xr s.val).toInt (x.xr t.val).toInt)) x
    else .illegal)

def execCeMac (e : EngIx) (acc : Fin 4) (clr neg : Bool) (m n : Fin 32) (s : State) : Result :=
  s.engineStep e.val 1 (fun _ x _ =>
    .seq (x.setAcc acc.val ((x.accr acc.val).mac clr neg (x.xr m.val) (x.xr n.val))))

/-- MAC4: m a multiple of 4, and n a multiple of 4 when B = 0. -/
def execCeMac4 (e : EngIx) (clr neg bcast : Bool) (m n : Fin 32) (s : State) : Result :=
  s.engineStep e.val 1 (fun _ x _ =>
    if m.val % 4 = 0 ∧ (bcast = true ∨ n.val % 4 = 0) then
      .seq ((List.range 4).foldl (fun y i =>
        y.setAcc i ((x.accr i).mac clr neg (x.xr (m.val + i)) (x.xr (if bcast then n.val else n.val + i)))) x)
    else .illegal)

def execCeAcclr (e : EngIx) (mask : BitVec 4) (s : State) : Result :=
  s.engineStep e.val 1 (fun _ x _ =>
    .seq ((List.range 4).foldl (fun y i => if mask.getLsbD i then y.setAcc i {} else y) x))

/-- ACCLD: shift 0 to 56. -/
def execCeAccld (e : EngIx) (acc : Fin 4) (n : Fin 32) (shift : Fin 64) (s : State) : Result :=
  s.engineStep e.val 1 (fun _ x _ =>
    if shift.val ≤ 56 then .seq (x.setAcc acc.val (Acc.load ((x.xr n.val).toInt * 2 ^ shift.val))) else .illegal)

/-- MVS (R160, Table ENG-8); LOST gives an arithmetic fault at END (R176). -/
def execCeMvs (e : EngIx) (d : Fin 32) (acc : Fin 4) (auto : Bool) (sh : Fin 64) (s : State) : Result :=
  s.engineStep e.val 1 (fun _ x _ => .seq (x.moveOut acc.val d.val sh.val auto))

/-- MVS4: d a multiple of 4. -/
def execCeMvs4 (e : EngIx) (d : Fin 32) (auto : Bool) (sh : Fin 64) (s : State) : Result :=
  s.engineStep e.val 1 (fun _ x _ =>
    if d.val % 4 = 0 then .seq ((List.range 4).foldl (fun y i => y.moveOut i (d.val + i) sh.val auto) x) else .illegal)

/-- BR (R163, R166): taken, it costs 3 cycles more. -/
def execCeBr (e : EngIx) (cond : BitVec 4) (target : BitVec 16) (s : State) : Result :=
  s.engineStep e.val (if (s.engine e.val).cond cond.toNat = some true then 4 else 1) (fun _ x _ =>
    match x.cond cond.toNat with
    | none => .illegal
    | some false => .seq x
    | some true => .go x (some (target.setWidth 13)) [])

/-- LOOP (R164): a count of 0 skips the body, and a body around it that ends at the same address ends there; LC1 may nest inside LC0
only. -/
def execCeLoop (e : EngIx) (lc : Fin 2) (reg : Bool) (xs : Fin 32) (count : BitVec 16) (last : BitVec 16) (s : State) :
    Result :=
  s.engineStep e.val 1 (fun _ x _ =>
    let n := if reg then (clampI 0 65535 (x.xr xs.val).toInt).toNat else count.toNat
    let lastA : BitVec 13 := last.setWidth 13
    if x.loops.any (fun l => decide (l.lc = lc) || decide (lc = 0)) then .illegal
    else if n = 0 then .go { x with pc := lastA } none []
    else
      let y := x.setLc lc.val (BitVec.ofNat 16 n)
      .go { y with loops := ⟨lc, x.pc + 1, lastA⟩ :: y.loops } (some (x.pc + 1)) [])

/-- CALL: illegal inside a loop body, and as a fifth nested CALL. -/
def execCeCall (e : EngIx) (target : BitVec 16) (s : State) : Result :=
  s.engineStep e.val 4 (fun _ x _ =>
    if x.loops ≠ [] ∨ 4 ≤ x.ret.length then .illegal
    else .go { x with ret := (x.pc + 1) :: x.ret } (some (target.setWidth 13)) [])

/-- RET: illegal on an empty stack. -/
def execCeRet (e : EngIx) (s : State) : Result :=
  s.engineStep e.val 4 (fun _ x _ =>
    match x.ret with
    | [] => .illegal
    | t :: ts => .go { x with ret := ts } (some t) [])

/-- END (R170, R176): the store buffer drains; an arithmetic fault wins over publishing (R177). -/
def execCeEnd (e : EngIx) (s : State) : Result :=
  match (s.engine e.val).task with
  | none => .next s
  | some r =>
    let r' := { r with cycles := r.cycles + 1 + (s.engine e.val).stores.length }
    let s1 := (s.drain e.val).modEngine e.val (fun x => { x with task := some r' })
    .next (if r.arith then s1.taskFault e.val 2 0 3 else s1.endTask e.val r')

/-- TFLT: a program fault with CODE. -/
def execCeTflt (e : EngIx) (code : BitVec 16) (s : State) : Result :=
  s.engineStep e.val 1 (fun _ _ _ => .fault 4 code.toNat 3)

/-- NOP. -/
def execCeNop (e : EngIx) (s : State) : Result := s.engineStep e.val 1 (fun _ x _ => .seq x)

/-- FENCE: the store buffer is empty afterwards. -/
def execCeFence (e : EngIx) (s : State) : Result :=
  match (s.engine e.val).task with
  | none => .next s
  | some _ => (s.drain e.val).engineStep e.val (1 + (s.engine e.val).stores.length) (fun _ x _ => .seq x)

end Sys2Proof.Machine
end

