-- ==== Sys2Proof/Machine/Feedback.lean ====
section
/-! DEFINITION. The commands of the local feedback ports and of the standstill hysteresis (spec/04_position_feedback.md). -/

namespace Sys2Proof.Machine

/-- Whether a port may count: its mode. -/
def State.fbMode (s : State) (n : Nat) : Nat := s.parN 0x04100001 n

/-- FB_EDGE (R124, R126): a new level of A or B that passes the filter, stamped with its first sample. -/
def execFbEdge (n : FbIx) (onB : Bool) (level : Bool) (stamp : PinTime) (s : State) : Result :=
  let held := stamp.held
  let stamp := sampleTime stamp.stamp
  let x := s.fb n.val
  let old := if onB then x.b else x.a
  let fwd := if onB then level == x.a else level != x.b
  let up := fwd != decide (s.parN 0x04100003 n.val = 1)
  if s.fbMode n.val = 1 && s.fbPasses n.val held && old != level then
    .next (s.changeFb n.val stamp (fun x => { x.counted up stamp with a := if onB then x.a else level, b := if onB then level else x.b }))
  else .next s

/-- PHASE_ERROR (R131, R132): both filtered lines change in one sample. -/
def execPhaseError (n : FbIx) (levelA : Bool) (levelB : Bool) (stamp : PinTime) (s : State) : Result :=
  let held := stamp.held
  let stamp := sampleTime stamp.stamp
  let x := s.fb n.val
  whenB (decide (s.fbMode n.val = 1) && s.fbPasses n.val held && x.a != levelA && x.b != levelB) s (s.phaseErr n.val stamp levelA levelB true)

/-- HALL_CODE_CHANGE (R124, R127): a code that passes the filter. -/
def execHallCodeChange (n : FbIx) (code : BitVec 3) (stamp : PinTime) (s : State) : Result :=
  let held := stamp.held
  let stamp := sampleTime stamp.stamp
  let x := s.fb n.val
  let pins (x : FbPort) : FbPort := { x with a := code.getLsbD 2, b := code.getLsbD 1, z := code.getLsbD 0 }
  if s.fbMode n.val ≠ 2 ∨ s.fbPasses n.val held = false then .next s
  else
    match hallStep code.toNat with
    | none => .next (s.modFb n.val (fun x =>
        { pins x with herr := true, hallErrs := inc32 x.hallErrs, hallIllegal := true }))
    | some j =>
      match x.hallIllegal, x.hall with
      | false, some old =>
        match hallStep old.toNat with
        | none => .next (s.modFb n.val (fun x => { pins x with hall := some code }))
        | some i =>
          let inv := decide (s.parN 0x04100003 n.val = 1)
          if j = i then .next (s.modFb n.val pins)
          else if j = (i + 1) % 6 then
            .next (s.changeFb n.val stamp (fun x => { (pins x).counted (!inv) stamp with hall := some code }))
          else if i = (j + 1) % 6 then
            .next (s.changeFb n.val stamp (fun x => { (pins x).counted inv stamp with hall := some code }))
          else
            let s1 := s.phaseErr n.val stamp (code.getLsbD 2) (code.getLsbD 1) false
            .next (s1.modFb n.val (fun x => { pins x with hall := some code }))
      | _, _ => .next (s.modFb n.val (fun x => { pins x with hall := some code, hallIllegal := false }))

/-- The index check of R134 and R135 on a new latch; Δ is taken modulo 2^32 counts (R130). -/
def FbPort.indexLatch (x : FbPort) (stamp : Int) (cpr win : Int) : FbPort :=
  let d := ((smod 32 (x.count - x.idxLatch)).natAbs : Int)
  let y := { x with idxLatch := x.count, idxValid := true, idxCnt := inc32 x.idxCnt }
  if !x.idxValid || decide (cpr = 0) || decide (d ≤ win) then y
  else
    let pass := decide (((d - cpr).natAbs : Int) ≤ win)
    let first := x.errPending && decide (x.errStamp < stamp)
    { y with
      idxDev := d - cpr, drift := x.drift || !pass
      errPending := x.errPending && !first
      pu := x.pu && !(first && pass) }

/-- INDEX_MARK (R124, R133): an edge of Z that passes the filter. -/
def execIndexMark (n : FbIx) (rising : Bool) (stamp : PinTime) (s : State) : Result :=
  let held := stamp.held
  let stamp := sampleTime stamp.stamp
  let x := s.fb n.val
  let ok := s.fbPasses n.val held && decide (s.fbMode n.val = 1) && decide (s.parN 0x04100004 n.val = 1)
  let lead := rising == x.lastUp
  if ok then
    .next (s.modFb n.val (fun x =>
      let y := { x with z := rising }
      if lead then y.indexLatch stamp (s.par 0x04100005 n.val) (s.par 0x04100006 n.val) else y))
  else .next s

/-- SSI_BURST_START (R128), once for each cycle: a standby does not clock (R375). -/
def execSsiBurstStart (n : FbIx) (s : State) : Result :=
  let m := s.fbMode n.val
  whenB (decide (m = 3 ∨ m = 4) && !s.twin.standby && !s.saf.silent && s.cyc.running
      && decide ((s.fb n.val).burstFor ≠ some (s.cyc.cycle + 1)) && decide (s.tCycle (s.cyc.cycle + 1) - s.tSsi n.val ≤ s.now)) s
    ((s.modFb n.val (fun x => { x with cDriven := true, c := true, burstFor := some (s.cyc.cycle + 1) })).put
      (.ssiBurst n (s.parN 0x04100010 n.val + s.parN 0x04100011 n.val + 1)))

/-- What a word does to a port (R129). -/
def FbPort.ssiTake (x : FbPort) (value bits : Nat) (bad : Bool) (jump : Nat) : FbPort :=
  match x.ssiPrev with
  | none =>
    if bad then { x with ssiErr := true, ssiErrs := inc32 x.ssiErrs, ssiValid := false }
    else { x with count := value, ssiPrev := some value, ssiValid := true }
  | some p =>
    let d := smod bits ((value : Int) - p)
    if bad || decide (jump ≠ 0 ∧ d.natAbs > jump) then { x with ssiErr := true, ssiErrs := inc32 x.ssiErrs, ssiValid := false }
    else { x with count := smod 48 (x.count + d), ssiPrev := some value, ssiValid := true }

/-- SSI_READING (R129). -/
def execSsiReading (n : FbIx) (word : BitVec 56) (s : State) : Result :=
  let m := s.fbMode n.val
  let bits := s.parN 0x04100010 n.val
  let tail := s.parN 0x04100011 n.val
  let raw := (word.toNat / 2 ^ tail) % 2 ^ bits
  let value := if m = 4 then grayToBin raw bits else raw
  let last := nbit word.toNat 0
  let pol := s.parN 0x04100012 n.val
  let bad := decide (tail ≠ 0) && ((decide (pol = 1) && last) || (decide (pol = 2) && !last))
  whenB (decide (m = 3 ∨ m = 4)) s (s.modFb n.val (fun x => x.ssiTake value bits bad (s.parN 0x04100015 n.val)))

/-- STILL_ENTRY (R138). -/
def execStillEntry (o : Owner) (s : State) : Result :=
  let x := s.ownerObs o
  whenB (!x.still && decide (s.nStill o ≤ x.stillTimer)) s
    (s.modOwnerObs o (fun x => x.freeze x.rawPrev (s.normPos o (x.rawPrev * 65536))))

/-- SETTLING_END (R138). -/
def execSettlingEnd (o : Owner) (s : State) : Result :=
  let x := s.ownerObs o
  whenB (x.settlingFlag && decide (x.settling = 0)) s (s.modOwnerObs o (fun x => { x with settlingFlag := false }))

end Sys2Proof.Machine
end

