-- ==== Sys2Proof/Machine/Dispatch.lean ====
section
/-! DEFINITION. What each command does: one arm per constructor of Instr. -/

namespace Sys2Proof.Machine
open Host

def exec (i : Instr) (s : State) : Host.Outcome State Fault Refusal :=
  match i with
  | .cycleStart => Sys2Proof.Machine.execCycleStart s
  | .localDispatch => Sys2Proof.Machine.execLocalDispatch s
  | .engineDispatch e => Sys2Proof.Machine.execEngineDispatch e s
  | .stillEntry o => Sys2Proof.Machine.execStillEntry o s
  | .settlingEnd o => Sys2Proof.Machine.execSettlingEnd o s
  | .fbkFrameReceive f => Sys2Proof.Machine.execFbkFrameReceive f s
  | .fbkRelease a => Sys2Proof.Machine.execFbkRelease a s
  | .axisDeadline a => Sys2Proof.Machine.execAxisDeadline a s
  | .ageFault a => Sys2Proof.Machine.execAgeFault a s
  | .refSeal => Sys2Proof.Machine.execRefSeal s
  | .moveListPass => Sys2Proof.Machine.execMoveListPass s
  | .captureEvent seq => Sys2Proof.Machine.execCaptureEvent seq s
  | .heatTick temps act => Sys2Proof.Machine.execHeatTick temps act s
  | .dmax a => Sys2Proof.Machine.execDmax a s
  | .csfReturn seg lam => Sys2Proof.Machine.execCsfReturn seg lam s
  | .loopDrift seg => Sys2Proof.Machine.execLoopDrift seg s
  | .csfReturnMissing seg => Sys2Proof.Machine.execCsfReturnMissing seg s
  | .portLinkDown p src => Sys2Proof.Machine.execPortLinkDown p src s
  | .mdioLinkPoll p bmsr => Sys2Proof.Machine.execMdioLinkPoll p bmsr s
  | .loopFrameReceive f => Sys2Proof.Machine.execLoopFrameReceive f s
  | .ringRestoreAuto seg => Sys2Proof.Machine.execRingRestoreAuto seg s
  | .ringRestored seg => Sys2Proof.Machine.execRingRestored seg s
  | .safUplinkReceive f => Sys2Proof.Machine.execSafUplinkReceive f s
  | .uplinkInvalidRun a => Sys2Proof.Machine.execUplinkInvalidRun a s
  | .upTimeout a => Sys2Proof.Machine.execUpTimeout a s
  | .ss1Tmax ch g => Sys2Proof.Machine.execSs1Tmax ch g s
  | .standstillConfirm ch g => Sys2Proof.Machine.execStandstillConfirm ch g s
  | .speedDiscrepancy a => Sys2Proof.Machine.execSpeedDiscrepancy a s
  | .islandSeqReport => Sys2Proof.Machine.execIslandSeqReport s
  | .channelPFailure selfCheck => Sys2Proof.Machine.execChannelPFailure selfCheck s
  | .channelHFailure crcUnits => Sys2Proof.Machine.execChannelHFailure crcUnits s
  | .temperatureTrip tds => Sys2Proof.Machine.execTemperatureTrip tds s
  | .fatalFault cause => Sys2Proof.Machine.execFatalFault cause s
  | .endgameStopAll => Sys2Proof.Machine.execEndgameStopAll s
  | .endgameOutputDrop => Sys2Proof.Machine.execEndgameOutputDrop s
  | .twinBitExpiry => Sys2Proof.Machine.execTwinBitExpiry s
  | .siDiscrepancy ch idx => Sys2Proof.Machine.execSiDiscrepancy ch idx s
  | .barrierLinkLost ch => Sys2Proof.Machine.execBarrierLinkLost ch s
  | .barrierLinkRecover ch => Sys2Proof.Machine.execBarrierLinkRecover ch s
  | .ackWinExpiry => Sys2Proof.Machine.execAckWinExpiry s
  | .safParamActivate => Sys2Proof.Machine.execSafParamActivate s
  | .safParamDiscard => Sys2Proof.Machine.execSafParamDiscard s
  | .fieldMUplinkReceive bytes => Sys2Proof.Machine.execFieldMUplinkReceive bytes s
  | .fieldHUplinkReceive bytes => Sys2Proof.Machine.execFieldHUplinkReceive bytes s
  | .fieldDownlinkReceive b bytes => Sys2Proof.Machine.execFieldDownlinkReceive b bytes s
  | .timedOrderFire tag => Sys2Proof.Machine.execTimedOrderFire tag s
  | .fiSampleWindow test deciVolts => Sys2Proof.Machine.execFiSampleWindow test deciVolts s
  | .barrierFramePeriod => Sys2Proof.Machine.execBarrierFramePeriod s
  | .testPulse k => Sys2Proof.Machine.execTestPulse k s
  | .offPulse j => Sys2Proof.Machine.execOffPulse j s
  | .offPulseJudge j => Sys2Proof.Machine.execOffPulseJudge j s
  | .readbackSample deciVolts => Sys2Proof.Machine.execReadbackSample deciVolts s
  | .overload j limiting => Sys2Proof.Machine.execOverload j limiting s
  | .thermalShutdown j tj => Sys2Proof.Machine.execThermalShutdown j tj s
  | .coolDownEnd j tj => Sys2Proof.Machine.execCoolDownEnd j tj s
  | .demagEnd j pinMilliVolts => Sys2Proof.Machine.execDemagEnd j pinMilliVolts s
  | .demagLong j => Sys2Proof.Machine.execDemagLong j s
  | .safetyLinkDisagree j => Sys2Proof.Machine.execSafetyLinkDisagree j s
  | .supplyMeasure vf vqa vqb => Sys2Proof.Machine.execSupplyMeasure vf vqa vqb s
  | .vfWarn => Sys2Proof.Machine.execVfWarn s
  | .vfLow => Sys2Proof.Machine.execVfLow s
  | .vfOff grp => Sys2Proof.Machine.execVfOff grp s
  | .supplyThresholdClear => Sys2Proof.Machine.execSupplyThresholdClear s
  | .restartOk grp => Sys2Proof.Machine.execRestartOk grp s
  | .fieldDieReset vf => Sys2Proof.Machine.execFieldDieReset vf s
  | .fieldWatchdog => Sys2Proof.Machine.execFieldWatchdog s
  | .tHoldExpiry => Sys2Proof.Machine.execTHoldExpiry s
  | .fieldWatchdogClear => Sys2Proof.Machine.execFieldWatchdogClear s
  | .fbEdge n onB level stamp => Sys2Proof.Machine.execFbEdge n onB level stamp s
  | .phaseError n levelA levelB stamp => Sys2Proof.Machine.execPhaseError n levelA levelB stamp s
  | .hallCodeChange n code stamp => Sys2Proof.Machine.execHallCodeChange n code stamp s
  | .indexMark n rising stamp => Sys2Proof.Machine.execIndexMark n rising stamp s
  | .ssiBurstStart n => Sys2Proof.Machine.execSsiBurstStart n s
  | .ssiReading n word => Sys2Proof.Machine.execSsiReading n word s
  | .enableComplete a => Sys2Proof.Machine.execEnableComplete a s
  | .enTimeout a => Sys2Proof.Machine.execEnTimeout a s
  | .stopConfirm a => Sys2Proof.Machine.execStopConfirm a s
  | .brakeTElapsed a => Sys2Proof.Machine.execBrakeTElapsed a s
  | .heldEnableExecute u => Sys2Proof.Machine.execHeldEnableExecute u s
  | .holdMax a => Sys2Proof.Machine.execHoldMax a s
  | .stallDetect a => Sys2Proof.Machine.execStallDetect a s
  | .homeFail a => Sys2Proof.Machine.execHomeFail a s
  | .homingComplete a => Sys2Proof.Machine.execHomingComplete a s
  | .directMiss a => Sys2Proof.Machine.execDirectMiss a s
  | .stnFlt n active => Sys2Proof.Machine.execStnFlt n active s
  | .stEnDelayElapsed n => Sys2Proof.Machine.execStEnDelayElapsed n s
  | .coefWriteLand a => Sys2Proof.Machine.execCoefWriteLand a s
  | .segmentWriteLand => Sys2Proof.Machine.execSegmentWriteLand s
  | .parameterWriteLand => Sys2Proof.Machine.execParameterWriteLand s
  | .movAddLand => Sys2Proof.Machine.execMovAddLand s
  | .lineDisagree => Sys2Proof.Machine.execLineDisagree s
  | .lineLost => Sys2Proof.Machine.execLineLost s
  | .lineRevalid => Sys2Proof.Machine.execLineRevalid s
  | .switchBack => Sys2Proof.Machine.execSwitchBack s
  | .switchBackRequest c => Sys2Proof.Machine.execSwitchBackRequest c s
  | .disagreeClear c => Sys2Proof.Machine.execDisagreeClear c s
  | .puClear c o => Sys2Proof.Machine.execPuClear c o s
  | .statusW1cWrite c item => Sys2Proof.Machine.execStatusW1cWrite c item s
  | .iodReceive f => Sys2Proof.Machine.execIodReceive f s
  | .flushLost seq => Sys2Proof.Machine.execFlushLost seq s
  | .supStatusReceive f => Sys2Proof.Machine.execSupStatusReceive f s
  | .admissionRequest f => Sys2Proof.Machine.execAdmissionRequest f s
  | .diagnosticResponse f => Sys2Proof.Machine.execDiagnosticResponse f s
  | .nodeParameterAccess f => Sys2Proof.Machine.execNodeParameterAccess f s
  | .acknowledge f => Sys2Proof.Machine.execAcknowledge f s
  | .dynTurn seg minislot => Sys2Proof.Machine.execDynTurn seg minislot s
  | .dynRepeat seg => Sys2Proof.Machine.execDynRepeat seg s
  | .surResponse f => Sys2Proof.Machine.execSurResponse f s
  | .surRequestReturn seg portB => Sys2Proof.Machine.execSurRequestReturn seg portB s
  | .surveyTimeout seg => Sys2Proof.Machine.execSurveyTimeout seg s
  | .listenEnd => Sys2Proof.Machine.execListenEnd s
  | .claimPeriod => Sys2Proof.Machine.execClaimPeriod s
  | .clmReceive f => Sys2Proof.Machine.execClmReceive f s
  | .claimEnd => Sys2Proof.Machine.execClaimEnd s
  | .synchroniseEnd seg => Sys2Proof.Machine.execSynchroniseEnd seg s
  | .foreignCsfReceive f => Sys2Proof.Machine.execForeignCsfReceive f s
  | .standbyCsfReceive f => Sys2Proof.Machine.execStandbyCsfReceive f s
  | .takeoverUndetected => Sys2Proof.Machine.execTakeoverUndetected s
  | .healthSend => Sys2Proof.Machine.execHealthSend s
  | .health env m => Sys2Proof.Machine.execHealth env m s
  | .log env r => Sys2Proof.Machine.execLog env r s
  | .logAck env pos => Sys2Proof.Machine.execLogAck env pos s
  | .release env m => Sys2Proof.Machine.execRelease env m s
  | .digest env cycle ds => Sys2Proof.Machine.execDigest env cycle ds s
  | .verdict env cycle mismatches => Sys2Proof.Machine.execVerdict env cycle mismatches s
  | .mismatchTestStart => Sys2Proof.Machine.execMismatchTestStart s
  | .test env engine peerPass => Sys2Proof.Machine.execTest env engine peerPass s
  | .declare env reason last h => Sys2Proof.Machine.execDeclare env reason last h s
  | .resync env addr words => Sys2Proof.Machine.execResync env addr words s
  | .joinBoundary env m => Sys2Proof.Machine.execJoinBoundary env m s
  | .synchronised => Sys2Proof.Machine.execSynchronised s
  | .twinLinkLost => Sys2Proof.Machine.execTwinLinkLost s
  | .twinLaneFail lane => Sys2Proof.Machine.execTwinLaneFail lane s
  | .trigger env t mask => Sys2Proof.Machine.execTrigger env t mask s
  | .handoverStart => Sys2Proof.Machine.execHandoverStart s
  | .oldTrainForwardEnd => Sys2Proof.Machine.execOldTrainForwardEnd s
  | .swapAbandon => Sys2Proof.Machine.execSwapAbandon s
  | .revert => Sys2Proof.Machine.execRevert s
  | .ptpSync d domain twoStep seq origin rx => Sys2Proof.Machine.execPtpSync d domain twoStep seq origin rx s
  | .ptpFollowUp d domain seq origin => Sys2Proof.Machine.execPtpFollowUp d domain seq origin s
  | .ptpAnnounce d domain rank source => Sys2Proof.Machine.execPtpAnnounce d domain rank source s
  | .ptpDelayResp d domain seq t4 => Sys2Proof.Machine.execPtpDelayResp d domain seq t4 s
  | .ptpDelayReqSend d tx => Sys2Proof.Machine.execPtpDelayReqSend d tx s
  | .syncLoss d => Sys2Proof.Machine.execSyncLoss d s
  | .ppsEdge p stamp => Sys2Proof.Machine.execPpsEdge p stamp s
  | .ppsLoss p => Sys2Proof.Machine.execPpsLoss p s
  | .sourceSwitch => Sys2Proof.Machine.execSourceSwitch s
  | .sourceTakeover => Sys2Proof.Machine.execSourceTakeover s
  | .slewEnd => Sys2Proof.Machine.execSlewEnd s
  | .timeFault => Sys2Proof.Machine.execTimeFault s
  | .timeStep => Sys2Proof.Machine.execTimeStep s
  | .restepAbandoned => Sys2Proof.Machine.execRestepAbandoned s
  | .ppsOutPulse => Sys2Proof.Machine.execPpsOutPulse s
  | .scsTick => Sys2Proof.Machine.execScsTick s
  | .captureDone => Sys2Proof.Machine.execCaptureDone s
  | .trgPinEdge pin level stamp => Sys2Proof.Machine.execTrgPinEdge pin level stamp s
  | .trgOutputEnd pin => Sys2Proof.Machine.execTrgOutputEnd pin s
  | .sqTail value entries => Sys2Proof.Machine.execSqTail value entries s
  | .cqHead value => Sys2Proof.Machine.execCqHead value s
  | .eqHead value => Sys2Proof.Machine.execEqHead value s
  | .ringEn => Sys2Proof.Machine.execRingEn s
  | .eqEn => Sys2Proof.Machine.execEqEn s
  | .intStatus value => Sys2Proof.Machine.execIntStatus value s
  | .registerWrite offset value => Sys2Proof.Machine.execRegisterWrite offset value s
  | .msiCoalesceEnd vector => Sys2Proof.Machine.execMsiCoalesceEnd vector s
  | .pcieReset => Sys2Proof.Machine.execPcieReset s
  | .udpDatagram plant ip port mf fragOffset bytes => Sys2Proof.Machine.execUdpDatagram plant ip port mf fragOffset bytes s
  | .arpRequest plant target => Sys2Proof.Machine.execArpRequest plant target s
  | .icmpEcho plant target data => Sys2Proof.Machine.execIcmpEcho plant target data s
  | .commandPart c opcode isPart final data => Sys2Proof.Machine.execCommandPart c opcode isPart final data s
  | .evtPush c => Sys2Proof.Machine.execEvtPush c s
  | .challengeTimeout slot => Sys2Proof.Machine.execChallengeTimeout slot s
  | .sesIdle slot => Sys2Proof.Machine.execSesIdle slot s
  | .lockoutEnd src => Sys2Proof.Machine.execLockoutEnd src s
  | .flashWriteComplete ok => Sys2Proof.Machine.execFlashWriteComplete ok s
  | .devInfo c => Sys2Proof.Machine.execDevInfo c s
  | .sysEvtMask c classes minSev => Sys2Proof.Machine.execSysEvtMask c classes minSev s
  | .sysReset c kind => Sys2Proof.Machine.execSysReset c kind s
  | .sysEvtRead c start count => Sys2Proof.Machine.execSysEvtRead c start count s
  | .sesHello src seq role nonce => Sys2Proof.Machine.execSesHello src seq role nonce s
  | .sesProve c proof => Sys2Proof.Machine.execSesProve c proof s
  | .sesClose c => Sys2Proof.Machine.execSesClose c s
  | .sesKeySet c role wrapped => Sys2Proof.Machine.execSesKeySet c role wrapped s
  | .parGet c ids => Sys2Proof.Machine.execParGet c ids s
  | .parSet c item => Sys2Proof.Machine.execParSet c item s
  | .parInfo c id => Sys2Proof.Machine.execParInfo c id s
  | .axEnable c axis => Sys2Proof.Machine.execAxEnable c axis s
  | .axDisable c axis => Sys2Proof.Machine.execAxDisable c axis s
  | .axFaultReset c axis => Sys2Proof.Machine.execAxFaultReset c axis s
  | .axMoveAbs c axis target vm am dm jm => Sys2Proof.Machine.execAxMoveAbs c axis target vm am dm jm s
  | .axHalt c axis dec => Sys2Proof.Machine.execAxHalt c axis dec s
  | .axHome c axis dir => Sys2Proof.Machine.execAxHome c axis dir s
  | .axCoefWrite c axis offset value => Sys2Proof.Machine.execAxCoefWrite c axis offset value s
  | .axPark c axis on => Sys2Proof.Machine.execAxPark c axis on s
  | .axDirect c axis op refs => Sys2Proof.Machine.execAxDirect c axis op refs s
  | .axCoefRead c axis offset count => Sys2Proof.Machine.execAxCoefRead c axis offset count s
  | .proSegWrite c first segs => Sys2Proof.Machine.execProSegWrite c first segs s
  | .proStart c axis first mode => Sys2Proof.Machine.execProStart c axis first mode s
  | .proGroupLinear c group f a dp j targets => Sys2Proof.Machine.execProGroupLinear c group f a dp j targets s
  | .proContinue c axis => Sys2Proof.Machine.execProContinue c axis s
  | .proSegRead c first count => Sys2Proof.Machine.execProSegRead c first count s
  | .movAdd c entries => Sys2Proof.Machine.execMovAdd c entries s
  | .movDelete c seq => Sys2Proof.Machine.execMovDelete c seq s
  | .movClear c grp => Sys2Proof.Machine.execMovClear c grp s
  | .movResume c => Sys2Proof.Machine.execMovResume c s
  | .movRead c seq => Sys2Proof.Machine.execMovRead c seq s
  | .netOpening c => Sys2Proof.Machine.execNetOpening c s
  | .netSchedLoad c seg sched => Sys2Proof.Machine.execNetSchedLoad c seg sched s
  | .netSchedActivate c seg => Sys2Proof.Machine.execNetSchedActivate c seg s
  | .remeasureComplete seg => Sys2Proof.Machine.execRemeasureComplete seg s
  | .scheduleActivate seg => Sys2Proof.Machine.execScheduleActivate seg s
  | .netNodeAdmit c seg addr serial => Sys2Proof.Machine.execNetNodeAdmit c seg addr serial s
  | .netNodeRemove c seg addr => Sys2Proof.Machine.execNetNodeRemove c seg addr s
  | .netRingRestore c seg => Sys2Proof.Machine.execNetRingRestore c seg s
  | .netMdio c bus op phy devad reg data answer => Sys2Proof.Machine.execNetMdio c bus op phy devad reg data answer s
  | .netMeasure c seg port hop => Sys2Proof.Machine.execNetMeasure c seg port hop s
  | .safDemand c mask kind => Sys2Proof.Machine.execSafDemand c mask kind s
  | .safAck c mask => Sys2Proof.Machine.execSafAck c mask s
  | .safParamLoad c sect => Sys2Proof.Machine.execSafParamLoad c sect s
  | .twnInfo c => Sys2Proof.Machine.execTwnInfo c s
  | .twnSwap c => Sys2Proof.Machine.execTwnSwap c s
  | .scsArm c => Sys2Proof.Machine.execScsArm c s
  | .scsForce c => Sys2Proof.Machine.execScsForce c s
  | .scsStop c => Sys2Proof.Machine.execScsStop c s
  | .scsRead c first count => Sys2Proof.Machine.execScsRead c first count s
  | .timGet c => Sys2Proof.Machine.execTimGet c s
  | .timSrcRead c src => Sys2Proof.Machine.execTimSrcRead c src s
  | .timRestep c => Sys2Proof.Machine.execTimRestep c s
  | .arbQueueRead c group start => Sys2Proof.Machine.execArbQueueRead c group start s
  | .arbBudgetSet c which values => Sys2Proof.Machine.execArbBudgetSet c which values s
  | .fldOutSet c mask levels => Sys2Proof.Machine.execFldOutSet c mask levels s
  | .fldLatchClear c mask => Sys2Proof.Machine.execFldLatchClear c mask s
  | .fldRestart c => Sys2Proof.Machine.execFldRestart c s
  | .imgWrite c offset data => Sys2Proof.Machine.execImgWrite c offset data s
  | .imgActivate c => Sys2Proof.Machine.execImgActivate c s
  | .imgInfo c bank => Sys2Proof.Machine.execImgInfo c bank s
  | .svcEngineRotate c engine => Sys2Proof.Machine.execSvcEngineRotate c engine s
  | .svcSegTest c seg mode duration => Sys2Proof.Machine.execSvcSegTest c seg mode duration s
  | .segTestEnd seg errors => Sys2Proof.Machine.execSegTestEnd seg errors s
  | .rotationDue => Sys2Proof.Machine.execRotationDue s
  | .rotationDone e pass => Sys2Proof.Machine.execRotationDone e pass s
  | .scrubPeriod corrected doubles => Sys2Proof.Machine.execScrubPeriod corrected doubles s
  | .engineFailed e selfTest => Sys2Proof.Machine.execEngineFailed e selfTest s
  | .engineWatchdog e => Sys2Proof.Machine.execEngineWatchdog e s
  | .porstN twinPresent twinRole bootsel => Sys2Proof.Machine.execPorstN twinPresent twinRole bootsel s
  | .resetN bootsel => Sys2Proof.Machine.execResetN bootsel s
  | .vddHMonitor => Sys2Proof.Machine.execVddHMonitor s
  | .islandPorRelease => Sys2Proof.Machine.execIslandPorRelease s
  | .controlDieSilent => Sys2Proof.Machine.execControlDieSilent s
  | .bootComplete flashOk a b => Sys2Proof.Machine.execBootComplete flashOk a b s
  | .ceLd e d a pm o ecc => Sys2Proof.Machine.execCeLd e d a pm o ecc s
  | .ceLdq e d a pm o ecc => Sys2Proof.Machine.execCeLdq e d a pm o ecc s
  | .ceSt e d a pm o => Sys2Proof.Machine.execCeSt e d a pm o s
  | .ceStq e d a pm o => Sys2Proof.Machine.execCeStq e d a pm o s
  | .ceLdi e d imm => Sys2Proof.Machine.execCeLdi e d imm s
  | .ceLds e spr imm => Sys2Proof.Machine.execCeLds e spr imm s
  | .ceMov e d src => Sys2Proof.Machine.execCeMov e d src s
  | .ceMva e fromSpecial x spr => Sys2Proof.Machine.execCeMva e fromSpecial x spr s
  | .ceAmod e a o => Sys2Proof.Machine.execCeAmod e a o s
  | .ceAdd e d src t => Sys2Proof.Machine.execCeAdd e d src t s
  | .ceSub e d src t => Sys2Proof.Machine.execCeSub e d src t s
  | .ceAdds e d src t => Sys2Proof.Machine.execCeAdds e d src t s
  | .ceSubs e d src t => Sys2Proof.Machine.execCeSubs e d src t s
  | .ceAnd e d src t => Sys2Proof.Machine.execCeAnd e d src t s
  | .ceOr e d src t => Sys2Proof.Machine.execCeOr e d src t s
  | .ceXor e d src t => Sys2Proof.Machine.execCeXor e d src t s
  | .ceShl e d src sh => Sys2Proof.Machine.execCeShl e d src sh s
  | .ceAsr e d src sh => Sys2Proof.Machine.execCeAsr e d src sh s
  | .ceCmp e src t => Sys2Proof.Machine.execCeCmp e src t s
  | .ceMin e d src t => Sys2Proof.Machine.execCeMin e d src t s
  | .ceMax e d src t => Sys2Proof.Machine.execCeMax e d src t s
  | .ceAbs e d src => Sys2Proof.Machine.execCeAbs e d src s
  | .ceNeg e d src => Sys2Proof.Machine.execCeNeg e d src s
  | .ceAddi e d src imm => Sys2Proof.Machine.execCeAddi e d src imm s
  | .ceWrapm e d src t => Sys2Proof.Machine.execCeWrapm e d src t s
  | .ceMac e acc clr neg m n => Sys2Proof.Machine.execCeMac e acc clr neg m n s
  | .ceMac4 e clr neg bcast m n => Sys2Proof.Machine.execCeMac4 e clr neg bcast m n s
  | .ceAcclr e mask => Sys2Proof.Machine.execCeAcclr e mask s
  | .ceAccld e acc n shift => Sys2Proof.Machine.execCeAccld e acc n shift s
  | .ceMvs e d acc auto src => Sys2Proof.Machine.execCeMvs e d acc auto src s
  | .ceMvs4 e d auto src => Sys2Proof.Machine.execCeMvs4 e d auto src s
  | .ceBr e cond target => Sys2Proof.Machine.execCeBr e cond target s
  | .ceLoop e lc reg xs count last => Sys2Proof.Machine.execCeLoop e lc reg xs count last s
  | .ceCall e target => Sys2Proof.Machine.execCeCall e target s
  | .ceRet e => Sys2Proof.Machine.execCeRet e s
  | .ceEnd e => Sys2Proof.Machine.execCeEnd e s
  | .ceTflt e code => Sys2Proof.Machine.execCeTflt e code s
  | .ceNop e => Sys2Proof.Machine.execCeNop e s
  | .ceFence e => Sys2Proof.Machine.execCeFence e s
  | .portLinkUp p => Sys2Proof.Machine.execPortLinkUp p s
  | .resetFenceRelease site => Sys2Proof.Machine.execResetFenceRelease site s
  | .fieldDieResetRelease vf => Sys2Proof.Machine.execFieldDieResetRelease vf s
  | .stepGeneratorTick n => Sys2Proof.Machine.execStepGeneratorTick n s
  | .ppsOutEnd => Sys2Proof.Machine.execPpsOutEnd s
  | .hsafeOkToggle => Sys2Proof.Machine.execHsafeOkToggle s
  | .offPulseEnd j => Sys2Proof.Machine.execOffPulseEnd j s
  | .testPulseEnd k => Sys2Proof.Machine.execTestPulseEnd k s
  | .safTapReceive f => Sys2Proof.Machine.execSafTapReceive f s
  | .surRequestReceive f => Sys2Proof.Machine.execSurRequestReceive f s

end Sys2Proof.Machine
end

