-- ==== Sys2Proof/Machine/EngineRun.lean ====
section
/-! DEFINITION. The instruction words of the engines' program memories (R161, Tables ENG-11 and ENG-12), and what passes while no
command waits: the core clock, and the programs that the engines run (R172; log 1, 168). -/

namespace Sys2Proof.Machine

/-- The bits [lo + n − 1 : lo] of an instruction. -/
def engBits (w : BitVec 64) (lo n : Nat) : Nat := w.toNat / 2 ^ lo % 2 ^ n

/-- A register number of five bits. -/
def engReg (w : BitVec 64) (lo : Nat) : Fin 32 := Fin.ofNat 32 (engBits w lo 5)

def engBit (w : BitVec 64) (i : Nat) : Bool := w.getLsbD i

/-- Format M. -/
def engMem (w : BitVec 64) (f : Fin 32 → Fin 8 → Bool → Fin 8 → State → Result) : Option (State → Result) :=
  some (f (engReg w 53) (Fin.ofNat 8 (engBits w 50 3)) (engBit w 49) (Fin.ofNat 8 (engBits w 46 3)))

/-- Format R with three registers. -/
def engAlu3 (w : BitVec 64) (f : Fin 32 → Fin 32 → Fin 32 → State → Result) : Option (State → Result) :=
  some (f (engReg w 53) (engReg w 48) (engReg w 43))

/-- What the instruction does that a word of engine e's program memory spells (Tables ENG-11 and ENG-12); none for OP 0x00 and for a reserved OP, which are illegal
instructions (R161).  Reserved bits are ignored (R10).  What SECDED finds is no part of the word: a load is decoded clean. -/
def decodeEngine (e : EngIx) (w : BitVec 64) : Option (State → Result) :=
  let target := BitVec.ofNat 16 (engBits w 0 16)
  let acc : Fin 4 := Fin.ofNat 4 (engBits w 56 2)
  let sh6 (lo : Nat) : Fin 64 := Fin.ofNat 64 (engBits w lo 6)
  match engBits w 58 6 with
  | 0x01 => engMem w (fun d a pm o => execCeLd e d a pm o .clean)
  | 0x02 => engMem w (fun d a pm o => execCeLdq e d a pm o .clean)
  | 0x03 => engMem w (fun d a pm o => execCeSt e d a pm o)
  | 0x04 => engMem w (fun d a pm o => execCeStq e d a pm o)
  | 0x05 => some (execCeLdi e (engReg w 53) (BitVec.ofNat 48 (engBits w 0 48)))
  | 0x06 => some (execCeLds e (BitVec.ofNat 8 (engBits w 44 8)) (BitVec.ofNat 32 (engBits w 0 32)))
  | 0x07 => some (execCeMov e (engReg w 53) (engReg w 48))
  | 0x08 => some (execCeMva e (engBit w 57) (engReg w 52) (BitVec.ofNat 8 (engBits w 44 8)))
  | 0x09 => some (execCeAmod e (Fin.ofNat 8 (engBits w 50 3)) (Fin.ofNat 8 (engBits w 46 3)))
  | 0x10 => engAlu3 w (execCeAdd e)
  | 0x11 => engAlu3 w (execCeSub e)
  | 0x12 => engAlu3 w (execCeAdds e)
  | 0x13 => engAlu3 w (execCeSubs e)
  | 0x14 => engAlu3 w (execCeAnd e)
  | 0x15 => engAlu3 w (execCeOr e)
  | 0x16 => engAlu3 w (execCeXor e)
  | 0x17 => some (execCeShl e (engReg w 53) (engReg w 48) (sh6 37))
  | 0x18 => some (execCeAsr e (engReg w 53) (engReg w 48) (sh6 37))
  | 0x19 => some (execCeCmp e (engReg w 48) (engReg w 43))
  | 0x1A => engAlu3 w (execCeMin e)
  | 0x1B => engAlu3 w (execCeMax e)
  | 0x1C => some (execCeAbs e (engReg w 53) (engReg w 48))
  | 0x1D => some (execCeNeg e (engReg w 53) (engReg w 48))
  | 0x1E => some (execCeAddi e (engReg w 53) (engReg w 48) (BitVec.ofNat 32 (engBits w 0 32)))
  | 0x1F => engAlu3 w (execCeWrapm e)
  | 0x20 => some (execCeMac e acc (engBit w 55) (engBit w 54) (engReg w 47) (engReg w 42))
  | 0x21 => some (execCeMac4 e (engBit w 55) (engBit w 54) (engBit w 53) (engReg w 47) (engReg w 42))
  | 0x22 => some (execCeAcclr e (BitVec.ofNat 4 (engBits w 54 4)))
  | 0x23 => some (execCeAccld e acc (engReg w 42) (sh6 36))
  | 0x24 => some (execCeMvs e (engReg w 31) acc (engBit w 52) (sh6 36))
  | 0x25 => some (execCeMvs4 e (engReg w 31) (engBit w 52) (sh6 36))
  | 0x30 => some (execCeBr e (BitVec.ofNat 4 (engBits w 54 4)) target)
  | 0x31 => some (execCeLoop e (Fin.ofNat 2 (engBits w 57 1)) (engBit w 56) (engReg w 48) (BitVec.ofNat 16 (engBits w 32 16)) target)
  | 0x32 => some (execCeCall e target)
  | 0x33 => some (execCeRet e)
  | 0x34 => some (execCeEnd e)
  | 0x35 => some (execCeTflt e (BitVec.ofNat 16 (engBits w 32 16)))
  | 0x36 => some (execCeNop e)
  | 0x37 => some (execCeFence e)
  | _ => none

/-- The instruction at an engine's PC. -/
def State.programWord (s : State) (e : Nat) : BitVec 64 :=
  sget (fun _ => (0 : BitVec 64)) (s.engine e).prog (s.engine e).pc.toNat

/-- The engine cycles of what its task has executed have passed since its start. -/
def State.issues (s : State) (e : Nat) : Bool :=
  match (s.engine e).task with
  | none => false
  | some r => !r.library && decide (r.start + r.cycles ≤ s.coreTicks)

/-- An engine that runs a task of a program executes the instruction at its PC; OP 0x00 and a reserved OP are illegal (R161, R176). -/
def State.runEngine (s : State) (e : EngIx) : State :=
  if s.issues e.val then
    match decodeEngine e (s.programWord e.val) with
    | none => s.taskFault e.val 0 0 3
    | some f =>
      match f s with
      | .next t => t
      | _ => s
  else s

/-- What the block does on an empty queue: a tick of the core clock, in which every engine whose last instruction has passed issues its
next one, the lower engine first (R38). -/
def State.idle (s : State) : State := (List.range 8).foldl (fun s e => s.runEngine ⟨e % 8, by omega⟩) s.idleTick

end Sys2Proof.Machine
end

