-- ==== Sys2Proof/Machine/Observe.lean ====
section
/-! DEFINITION. What the statements observe: who holds a session, and the canonical form of the addressed memories. -/

namespace Sys2Proof.Machine

/-- What makes a session's holder: phase, session identifier, role, source and key (R431, R433). -/
structure Ident where
  phase : SesPhase
  id : BitVec 32
  role : Nat
  source : HostSource
  key : List Byte
  deriving DecidableEq, Repr

def Session.ident (x : Session) : Ident := { phase := x.phase, id := x.id, role := x.role, source := x.source, key := x.key }

/-- The holders of the session slots. -/
def State.idents (s : State) (i : Nat) : Ident := (s.session i).ident

/-- The private memories of an engine are in canonical form (Table ENG-4). -/
def Engine.memWf (x : Engine) : Bool :=
  swf (scratchDefault x.scratchCtr) 0 x.scratch && swf (fun _ => 0) 0 x.consts && swf (fun _ => 0) 0 x.prog
    && swf (fun _ => 0) 0 x.taskWin && swf (fun _ => 0) 0 x.fbWin && swf (fun _ => 0) 0 x.outWin

/-- The shared memories and every engine's private ones are in canonical form (Table ENG-4). -/
def EngineSpace.memWf (g : EngineSpace) : Bool :=
  swf (fun _ => 0) 0 g.lineBlock && swf (fun _ => 0) 0 g.context && swf (fun _ => 0) 0 g.pool && swf (fun _ => 0) 0 g.segPool
    && g.eng.all (fun p => p.2.memWf)

/-- Every addressed memory of the device is in canonical form: the engines' memories, the Scoresheet's trace memory (Table
SCS-1), the two flash banks (R463) and the parameters (R441). -/
def State.memWf (s : State) : Bool :=
  s.eng.memWf && swf (fun _ => 0) 0 s.scs.trace && swf (fun _ => 0xFF) 0 s.boot.bankA.flash && swf (fun _ => 0xFF) 0 s.boot.bankB.flash
    && swf paramDefault 0 s.params

/-- The store buffer of every engine holds at most four words (R168). -/
def State.storesWf (s : State) : Bool := s.eng.eng.all (fun p => decide (p.2.stores.length ≤ 4))

end Sys2Proof.Machine
end

