-- ==== Sys2Proof/Safety.lean ====
section
/-! DEFINITION. What counts as a safe run: a run that no step stops. -/

namespace Sys2Proof.Machine

/-- The step from s answers a next state. -/
def StepOk (s : State) : Prop := ∃ t, step s = .next t

/-- The first n steps from s all answer a next state. -/
def SafeRun : Nat → State → Prop
  | 0, _ => True
  | n + 1, s => ∃ t, step s = .next t ∧ SafeRun n t

end Sys2Proof.Machine
end

