-- ==== Sys2Proof/Claims.lean ====
section
/-! DEFINITION. The vocabulary of the statements: what a command gives, the conditions under which it acts, and the frames. -/

namespace Sys2Proof.Claims

open Sys2Proof.Machine

/-- The command answers a next state, and P holds of it. -/
def Gives (i : Instr) (s : State) (P : State → Prop) : Prop := ∃ t, exec i s = .next t ∧ P t

/-! Engine instructions. -/

/-- Engine e runs the task r, and its store buffer is within its four entries (R168). -/
def Runs (s : State) (e : Nat) (r : Running) : Prop := (s.engine e).task = some r ∧ (s.engine e).stores.length ≤ 4

/-- The state in which engine e has become y, its PC has moved on (R164), and its task has taken `cost` more cycles: nothing
else changes. -/
def Onward (s : State) (e : Nat) (r : Running) (cost : Nat) (y : Engine) : State :=
  s.setEngine e { y.advance with task := some { r with cycles := r.cycles + cost } }

/-- Xd holds v, and every other X register is as before. -/
def PutsX (x y : Engine) (d : Nat) (v : Word48) : Prop := y.xr d = v ∧ ∀ j, j ≠ d → y.xr j = x.xr j

/-- The flags listed have the values listed, and every other bit of FLAGS is as before. -/
def Flags (x y : Engine) (ch : List (Nat × Bool)) : Prop := ∀ i, y.flag i = (ch.lookup i).getD (x.flag i)

/-- Whether an exact result lies outside 48 bits. -/
def outside (t : Int) : Bool := decide (t < -140737488355328 ∨ 140737488355327 < t)

/-- The nearest 48-bit value. -/
def nearest (t : Int) : Int := max (-140737488355328) (min 140737488355327 t)

/-- Z and N of a result (Table ENG-2). -/
def zn (v : Word48) : List (Nat × Bool) := [(0, decide (v = 0)), (1, decide (v.toInt < 0))]

/-- A one-cycle instruction that writes v to Xd and changes the flags listed, and nothing else of the engine or the device. -/
def Alu (i : Instr) (s : State) (e : Nat) (r : Running) (d : Nat) (v : Word48) (ch : List (Nat × Bool)) : Prop :=
  ∃ y, exec i s = .next (Onward s e r 1 y) ∧ PutsX (s.engine e) y d v ∧ Flags (s.engine e) y ch
    ∧ y = { s.engine e with x := y.x, flags := y.flags }

/-- The state in which engine e has become y and its PC has gone to a target, for an instruction that branches. -/
def Jump (s : State) (e : Nat) (r : Running) (cost : Nat) (y : Engine) (target : BitVec 13) : State :=
  s.setEngine e { y.goto target with task := some { r with cycles := r.cycles + cost } }

/-- Aa is post-modified by Oo when PM is set (R157), and every other address register is as before. -/
def PostModified (x y : Engine) (a o : Nat) (pm : Bool) : Prop :=
  y.ar a = (if pm then x.ar a + x.or o else x.ar a) ∧ ∀ j, j ≠ a → y.ar j = x.ar j

/-- The true value of an accumulator (R158). -/
def trueValue (c : Acc) : Int := c.reg.toInt + c.w * 20282409603651670423947251286016

/-! Host commands. -/

/-- The device takes a command of c's session, and it lands at once: the session is open and its role is at least `need` (R434),
the opcode is allowed under KEYS_DEFAULT and in recovery if these hold (R438, R466), an expert command carries EXPERT (R450), a
standby takes only what moves nothing, no synchronised standby makes a logged landing wait (R357), and no AT_BOUNDARY flag makes a
command that changes no cycle state wait for the next boundary (R418). -/
def Takes (s : State) (c : CmdCtx) (op need : Nat) (expert move logged : Bool) : Prop :=
  (s.session c.slot.val).phase = .opened ∧ roleAllows (s.session c.slot.val).role need = true
  ∧ (s.host.keys.default = true → defaultKeyOk op = true) ∧ (expert = true → c.expert = true) ∧ (s.twin.standby = true → move = false)
  ∧ (s.boot.recovery = true → recoveryOk op = true) ∧ (logged = true → s.standbySynced = false)
  ∧ (boundaryOp op = true → s.waitsBoundary c = false)

/-- A command that changes the state of the device, and so is logged (R357). -/
def Acts (s : State) (c : CmdCtx) (op need : Nat) : Prop := Takes s c op need false true true

/-- An expert command that changes the state of the device. -/
def ActsExpert (s : State) (c : CmdCtx) (op need : Nat) : Prop := Takes s c op need true true true

/-- A standby takes a logged command of the on-move chip's log, without the checks of R450 (R357). -/
def Follows (s : State) (c : CmdCtx) (op : Nat) : Prop := s.twin.standby = true ∧ s.isLogged c op = true

/-- A read. -/
def Reads (s : State) (c : CmdCtx) (op need : Nat) : Prop := Takes s c op need false false false

/-- A command that changes only this chip, and is not logged. -/
def Local (s : State) (c : CmdCtx) (op need : Nat) : Prop := Takes s c op need false true false

/-- The commands of context c that change no cycle state, which AT_BOUNDARY delays to the next boundary (R418). -/
def AtBoundary (c : CmdCtx) : Instr → Prop
  | .devInfo c' | .sysEvtMask c' _ _ | .sysReset c' _ | .sysEvtRead c' _ _ | .sesClose c' | .parGet c' _ | .parInfo c' _
  | .axCoefRead c' _ _ _ | .proSegRead c' _ _ | .movRead c' _ | .netMdio c' _ _ _ _ _ _ _ | .netMeasure c' _ _ _ | .twnInfo c'
  | .scsRead c' _ _ | .timGet c' | .timSrcRead c' _ | .arbQueueRead c' _ _ | .imgWrite c' _ _ | .imgActivate c' | .imgInfo c' _ =>
    c' = c
  | _ => False

/-- The command leaves the state t, in which its one reply goes out with a status and data (R420). -/
def Replies (i : Instr) (s : State) (c : CmdCtx) (op status : Nat) (data : List Byte) (t : State) : Prop :=
  exec i s = .next (t.reply c op status data)

/-- The command leaves the state t, and another step replies. -/
def Leaves (i : Instr) (s t : State) : Prop := exec i s = .next t

end Sys2Proof.Claims
end

