-- ==== Sys2Proof/Certificates/Slice0/Obligations.lean ====
section
/-! DEFINITION. The statements for the provers. -/

open Sys2Proof Sys2Proof.Machine Sys2Proof.Claims

/-- R162, Table ENG-12: ADD, SUB and ADDI wrap; Z, N and V are those of the result, and V says that the exact result overflowed
48 bits. -/
def Obligations.EngineWrappingSums : Prop :=
  ∀ (s : State) (e : EngIx) (r : Running) (d a b : Fin 32) (imm : BitVec 32), Runs s e.val r →
    let x := s.engine e.val
    let p := (x.xr a.val).toInt
    let q := (x.xr b.val).toInt
    Alu (.ceAdd e d a b) s e.val r d.val (x.xr a.val + x.xr b.val) (zn (x.xr a.val + x.xr b.val) ++ [(2, outside (p + q))])
    ∧ Alu (.ceSub e d a b) s e.val r d.val (x.xr a.val - x.xr b.val) (zn (x.xr a.val - x.xr b.val) ++ [(2, outside (p - q))])
    ∧ Alu (.ceAddi e d a imm) s e.val r d.val (x.xr a.val + imm.signExtend 48)
        (zn (x.xr a.val + imm.signExtend 48) ++ [(2, outside (p + imm.toInt))])

/-- R162, Table ENG-12: ADDS, SUBS, SHL, ABS and NEG give the nearest 48-bit value and set the sticky SATF when they
saturate; ADDS and SUBS also give V (log 16: V is set exactly when the exact result overflows).  A shift beyond 47 is an
illegal instruction (R161). -/
def Obligations.EngineSaturatingResults : Prop :=
  ∀ (s : State) (e : EngIx) (r : Running) (d a b : Fin 32) (sh : Fin 64), Runs s e.val r →
    let x := s.engine e.val
    let p := (x.xr a.val).toInt
    let q := (x.xr b.val).toInt
    let v := fun (t : Int) => BitVec.ofInt 48 (nearest t)
    let sat := fun (t : Int) => (13, x.flag 13 || outside t)
    Alu (.ceAdds e d a b) s e.val r d.val (v (p + q)) (zn (v (p + q)) ++ [(2, outside (p + q)), sat (p + q)])
    ∧ Alu (.ceSubs e d a b) s e.val r d.val (v (p - q)) (zn (v (p - q)) ++ [(2, outside (p - q)), sat (p - q)])
    ∧ (sh.val ≤ 47 → Alu (.ceShl e d a sh) s e.val r d.val (v (p * 2 ^ sh.val)) (zn (v (p * 2 ^ sh.val)) ++ [sat (p * 2 ^ sh.val)]))
    ∧ (47 < sh.val → exec (.ceShl e d a sh) s = .next (s.taskFault e.val 0 0 3))
    ∧ Alu (.ceAbs e d a) s e.val r d.val (v |p|) (zn (v |p|) ++ [sat |p|])
    ∧ Alu (.ceNeg e d a) s e.val r d.val (v (-p)) (zn (v (-p)) ++ [sat (-p)])

/-- R162, Table ENG-12: the moves, the bitwise and the comparing instructions, ASR with its round half up (R160), and
WRAPM into −Xt/2 ≤ Xd < Xt/2; a shift beyond 47 and a WRAPM with Xt < 2 are illegal (R161; log 17). -/
def Obligations.EngineMovesLogicAndCompares : Prop :=
  ∀ (s : State) (e : EngIx) (r : Running) (d a b : Fin 32) (imm : Word48) (sh : Fin 64), Runs s e.val r →
    let x := s.engine e.val
    let u := x.xr a.val
    let w := x.xr b.val
    let asr := BitVec.ofInt 48 (if sh.val = 0 then u.toInt else (u.toInt + 2 ^ (sh.val - 1)) / 2 ^ sh.val)
    Alu (.ceMov e d a) s e.val r d.val u []
    ∧ Alu (.ceLdi e d imm) s e.val r d.val imm []
    ∧ Alu (.ceAnd e d a b) s e.val r d.val (u &&& w) (zn (u &&& w))
    ∧ Alu (.ceOr e d a b) s e.val r d.val (u ||| w) (zn (u ||| w))
    ∧ Alu (.ceXor e d a b) s e.val r d.val (u ^^^ w) (zn (u ^^^ w))
    ∧ Alu (.ceMin e d a b) s e.val r d.val (if u.toInt ≤ w.toInt then u else w) (zn (if u.toInt ≤ w.toInt then u else w))
    ∧ Alu (.ceMax e d a b) s e.val r d.val (if u.toInt ≤ w.toInt then w else u) (zn (if u.toInt ≤ w.toInt then w else u))
    ∧ (sh.val ≤ 47 → Alu (.ceAsr e d a sh) s e.val r d.val asr (zn asr))
    ∧ (47 < sh.val → exec (.ceAsr e d a sh) s = .next (s.taskFault e.val 0 0 3))
    ∧ (∃ y, exec (.ceCmp e a b) s = .next (Onward s e.val r 1 y) ∧ y = { x with flags := y.flags }
        ∧ Flags x y (zn (u - w) ++ [(2, outside (u.toInt - w.toInt))]))
    ∧ (2 ≤ w.toInt → ∃ v : Word48, Alu (.ceWrapm e d a b) s e.val r d.val v (zn v)
        ∧ -w.toInt ≤ 2 * v.toInt ∧ 2 * v.toInt < w.toInt ∧ (u.toInt - v.toInt) % w.toInt = 0)
    ∧ (w.toInt < 2 → exec (.ceWrapm e d a b) s = .next (s.taskFault e.val 0 0 3))

/-- R158: as long as LOST stays clear, a run of MAC steps keeps the true value ACC + W × 2^104 exact. -/
def Obligations.AccumulatorHoldsTrueSum : Prop :=
  ∀ (ps : List (Word48 × Word48 × Bool)) (c : Acc), c.w.natAbs ≤ 3 →
    let d := ps.foldl (fun (a : Acc) p => a.mac false p.2.2 p.1 p.2.1) c
    d.w.natAbs ≤ 3 ∧ (d.lost = false →
      trueValue d = trueValue c + (ps.map (fun p => (if p.2.2 then -1 else 1) * (p.1.toInt * p.2.1.toInt))).sum)

/-- R158, R159: MAC and MAC4 add, subtract or replace in the accumulators they name, ACCLD loads one and ACCLR clears those of
its mask; the other accumulators and the rest of the engine are as before.  An operand rule broken is an illegal
instruction (R161). -/
def Obligations.EngineAccumulatorWrites : Prop :=
  ∀ (s : State) (e : EngIx) (r : Running) (k : Fin 4) (clr neg bcast : Bool) (m n : Fin 32) (mask : BitVec 4) (sh : Fin 64),
    Runs s e.val r →
    let x := s.engine e.val
    let p := fun (i j : Nat) => (if neg then -1 else 1) * ((x.xr i).toInt * (x.xr j).toInt)
    let load := fun (t : Int) => ({ reg := BitVec.ofInt 104 t, w := 0, lost := false } : Acc)
    let step := fun (c : Acc) (t : Int) (c' : Acc) =>
      if clr then c' = load t
      else c'.reg = BitVec.ofInt 104 (c.reg.toInt + t)
        ∧ (-2 ^ 103 ≤ c.reg.toInt + t → c.reg.toInt + t < 2 ^ 103 → c'.w = c.w ∧ c'.lost = c.lost ∧ c'.lostUp = c.lostUp)
        ∧ (2 ^ 103 ≤ c.reg.toInt + t → c.w < 3 → c'.w = c.w + 1 ∧ c'.lost = c.lost)
        ∧ (2 ^ 103 ≤ c.reg.toInt + t → 3 ≤ c.w → c'.w = c.w ∧ c'.lost = true ∧ c'.lostUp = true)
        ∧ (c.reg.toInt + t < -2 ^ 103 → -3 < c.w → c'.w = c.w - 1 ∧ c'.lost = c.lost)
        ∧ (c.reg.toInt + t < -2 ^ 103 → c.w ≤ -3 → c'.w = c.w ∧ c'.lost = true ∧ c'.lostUp = false)
    let only := fun (i : Instr) (f : Nat → Acc → Prop) =>
      ∃ y, exec i s = .next (Onward s e.val r 1 y) ∧ y = { x with acc := y.acc } ∧ ∀ j, f j (y.accr j)
    only (.ceMac e k clr neg m n) (fun j c => if j = k.val then step (x.accr j) (p m.val n.val) c else c = x.accr j)
    ∧ (m.val % 4 = 0 → bcast = true ∨ n.val % 4 = 0 → only (.ceMac4 e clr neg bcast m n) (fun j c =>
        if j < 4 then step (x.accr j) (p (m.val + j) (if bcast then n.val else n.val + j)) c else c = x.accr j))
    ∧ (m.val % 4 ≠ 0 ∨ (bcast = false ∧ n.val % 4 ≠ 0) → exec (.ceMac4 e clr neg bcast m n) s = .next (s.taskFault e.val 0 0 3))
    ∧ only (.ceAcclr e mask) (fun j c => c = if j < 4 ∧ mask.getLsbD j = true then {} else x.accr j)
    ∧ (sh.val ≤ 56 → only (.ceAccld e k n sh) (fun j c => c = if j = k.val then load ((x.xr n.val).toInt * 2 ^ sh.val) else x.accr j))
    ∧ (56 < sh.val → exec (.ceAccld e k n sh) s = .next (s.taskFault e.val 0 0 3))

/-- Table ENG-8 (R160): what a move of an accumulator gives in each of its rows.  The rounded value of a shift by n is
V / 2^n rounded half up.
R160, R176: MVS writes Xd, SCL of its accumulator and the sticky flags of Table ENG-8, MVS4 does so for the four lanes;
the accumulators keep their content, and a move of an accumulator with LOST set marks the task with an arithmetic fault. -/
def Obligations.EngineAccumulatorMoves : Prop :=
    (∀ (c : Acc) (n : Nat) (auto : Bool), n ≤ 63 →
       let rounded := fun (k : Nat) => if k = 0 then c.reg.toInt else (c.reg.toInt + 2 ^ (k - 1)) / 2 ^ k
       let o := c.move n auto
       (c.lost = true → o = { value := if c.lostUp then 140737488355327 else -140737488355328, scl := 0, sat := true, resc := false
                              wrap := false, lost := true })
       ∧ (c.lost = false → c.w ≠ 0 →
           o = { value := if 0 < c.w then 140737488355327 else -140737488355328, scl := 0, sat := true, resc := false, wrap := true
                 lost := false })
       ∧ (c.lost = false → c.w = 0 → outside (rounded n) = false →
           o = { value := rounded n, scl := 0, sat := false, resc := false, wrap := false, lost := false })
       ∧ (c.lost = false → c.w = 0 → outside (rounded n) = true → auto = false →
           o = { value := nearest (rounded n), scl := 0, sat := true, resc := false, wrap := false, lost := false })
       ∧ (c.lost = false → c.w = 0 → outside (rounded n) = true → auto = true →
           1 ≤ o.scl ∧ o.scl ≤ 57 ∧ outside (rounded (n + o.scl)) = false ∧ (∀ k, k < o.scl → outside (rounded (n + k)) = true)
           ∧ o = { value := rounded (n + o.scl), scl := o.scl, sat := false, resc := true, wrap := false, lost := false }))
    ∧ (∀ (s : State) (e : EngIx) (r : Running) (d : Fin 32) (k : Fin 4) (auto : Bool) (n : Fin 64), Runs s e.val r →
         let x := s.engine e.val
         let o := fun (i : Nat) => (x.accr i).move n.val auto
         let bits := fun (l : List MoveOut) => [(13, x.flag 13 || l.any (·.sat)), (12, x.flag 12 || l.any (·.resc)),
           (14, x.flag 14 || l.any (·.wrap)), (15, x.flag 15 || l.any (·.lost))]
         let rest := fun (y : Engine) (f : Bool) => y = { x with x := y.x, scl := y.scl, flags := y.flags, task := y.task }
           ∧ y.task = some { r with arith := r.arith || f }
         (∃ y, exec (.ceMvs e d k auto n) s = .next (Onward s e.val { r with arith := r.arith || (o k.val).lost } 1 y)
           ∧ PutsX x y d.val (BitVec.ofInt 48 (o k.val).value) ∧ Flags x y (bits [o k.val]) ∧ rest y (o k.val).lost
           ∧ y.sclr k.val = BitVec.ofNat 6 (o k.val).scl ∧ (∀ j, j ≠ k.val → y.sclr j = x.sclr j))
         ∧ (d.val % 4 = 0 →
           let l := [o 0, o 1, o 2, o 3]
           ∃ y, exec (.ceMvs4 e d auto n) s = .next (Onward s e.val { r with arith := r.arith || l.any (·.lost) } 1 y)
             ∧ (∀ i, i < 4 → y.xr (d.val + i) = BitVec.ofInt 48 (o i).value ∧ y.sclr i = BitVec.ofNat 6 (o i).scl)
             ∧ (∀ j, j < d.val ∨ d.val + 4 ≤ j → y.xr j = x.xr j) ∧ Flags x y (bits l) ∧ rest y (l.any (·.lost)))
         ∧ (d.val % 4 ≠ 0 → exec (.ceMvs4 e d auto n) s = .next (s.taskFault e.val 0 0 3)))

/-- Table ENG-4, R152: a word that the owner's task may write reads back as written, and every other word of the map reads as
before (the output window is written only, so it has no place here).
R168: a load takes the newest value that the store buffer holds for its address, whatever else the buffer holds.
R157, R162, R168, R174, R175: LD and LDQ take the words from Aa on, each from the newest matching store of the buffer or from
memory, and post-modify once.  An address that Table ENG-4 gives the task no read of is an address fault; a double-bit error
is an ECC fault of the task in shared memory, and a failure of the engine in its own.
R157, R162, R168: ST and STQ put their words into the store buffer in order and post-modify once; what the buffer of four
cannot hold is written to memory, oldest first.  An address that Table ENG-4 gives the task no write of is an address
fault. -/
def Obligations.EngineMemory : Prop :=
    (∀ (s : State) (e : Nat) (o : Owner) (addr : Nat) (v : Word48), s.writable o addr = true → addr < 0x20100 ∨ 0x20200 ≤ addr →
       let t := s.writeWord e addr v
       t.wordAt (t.engine e) o addr = some v ∧ ∀ b, b ≠ addr → t.wordAt (t.engine e) o b = s.wordAt (s.engine e) o b)
    ∧ (∀ (s : State) (x : Engine) (o : Owner) (addr : Nat) (v : Word48) (older newer : List (Nat × Word48)),
         (∀ w ∈ newer, w.1 ≠ addr) → (s.wordAt x o addr).isSome = true →
         s.loadWord { x with stores := older ++ (addr, v) :: newer } o addr = some v
         ∧ ((∀ w ∈ older, w.1 ≠ addr) → s.loadWord { x with stores := older ++ newer } o addr = s.wordAt x o addr))
    ∧ (∀ (s : State) (e : EngIx) (r : Running) (d : Fin 32) (a o : Fin 8) (pm : Bool) (ecc : Ecc), Runs s e.val r →
         let x := s.engine e.val
         let addr := (x.ar a.val).toNat
         let word := fun (i : Nat) => s.loadWord x r.owner ((addr + i) % 1048576)
         let cost := if 0x30000 ≤ addr then 4 else 1
         let good := fun (i : Instr) (n cost : Nat) =>
           ∃ y, exec i s = .next (Onward s e.val r cost y) ∧ PostModified x y a.val o.val pm
             ∧ (∀ j, j < n → some (y.xr (d.val + j)) = word j) ∧ (∀ j, j < d.val ∨ d.val + n ≤ j → y.xr j = x.xr j)
             ∧ y = { x with x := y.x, a := y.a, eccCorr := x.eccCorr || decide (ecc = .corrected) }
         let double := fun (i : Instr) =>
           exec i s = .next (if 0x30000 ≤ addr then s.taskFault e.val 5 0 (if 0x80000 ≤ addr ∧ addr < 0xC0000 then 8 else 3)
             else s.engineFail e.val 0)
         ((word 0).isSome = true → ecc ≠ .double → good (.ceLd e d a pm o ecc) 1 1)
         ∧ ((word 0).isSome = true → ecc = .double → double (.ceLd e d a pm o ecc))
         ∧ (word 0 = none → exec (.ceLd e d a pm o ecc) s = .next (s.taskFault e.val 1 0 3))
         ∧ (d.val % 4 = 0 → (∀ i, i < 4 → (word i).isSome = true) → ecc ≠ .double → good (.ceLdq e d a pm o ecc) 4 cost)
         ∧ (d.val % 4 = 0 → (∀ i, i < 4 → (word i).isSome = true) → ecc = .double → double (.ceLdq e d a pm o ecc))
         ∧ (d.val % 4 = 0 → (∃ i, i < 4 ∧ word i = none) → exec (.ceLdq e d a pm o ecc) s = .next (s.taskFault e.val 1 0 3))
         ∧ (d.val % 4 ≠ 0 → exec (.ceLdq e d a pm o ecc) s = .next (s.taskFault e.val 0 0 3)))
    ∧ (∀ (s : State) (e : EngIx) (r : Running) (d : Fin 32) (a o : Fin 8) (pm : Bool), Runs s e.val r →
         let x := s.engine e.val
         let addr := (x.ar a.val).toNat
         let at_ := fun (i : Nat) => (addr + i) % 1048576
         let word := fun (i : Nat) => (at_ i, x.xr (d.val + i))
         let cost := if 0x30000 ≤ addr then 4 else 1
         let good := fun (i : Instr) (ws : List (Nat × Word48)) (cost : Nat) =>
           let all := x.stores ++ ws
           ∃ y, PostModified x y a.val o.val pm ∧ y = { x with a := y.a, stores := all.drop (all.length - 4) }
             ∧ exec i s = .next ((all.take (all.length - 4)).foldl (fun (t : State) w => t.writeWord e.val w.1 w.2)
                 (Onward s e.val { r with written := r.written ++ ws } cost y))
         (s.writable r.owner addr = true → good (.ceSt e d a pm o) [word 0] 1)
         ∧ (s.writable r.owner addr = false → exec (.ceSt e d a pm o) s = .next (s.taskFault e.val 1 0 3))
         ∧ (d.val % 4 = 0 → (∀ i, i < 4 → s.writable r.owner (at_ i) = true) → good (.ceStq e d a pm o) [word 0, word 1, word 2, word 3] cost)
         ∧ (d.val % 4 = 0 → (∃ i, i < 4 ∧ s.writable r.owner (at_ i) = false) → exec (.ceStq e d a pm o) s = .next (s.taskFault e.val 1 0 3))
         ∧ (d.val % 4 ≠ 0 → exec (.ceStq e d a pm o) s = .next (s.taskFault e.val 0 0 3)))

/-- Table ENG-3, R10: a special register reads back what was written to it, in its width (O sign-extended, FLAGS with its
reserved bits 0); W is read only, and the other numbers are reserved.
R157, R162, Table ENG-3: AMOD adds Oo to Aa; LDS and MVA move between a special register and an immediate or an X
register; a reserved number and a write of W are illegal instructions; NOP does nothing. -/
def Obligations.EngineSpecialMoves : Prop :=
    (∀ (x : Engine) (n : Nat) (v : Word48),
       let back := (x.writeSpr n v).bind (fun y => y.readSpr n)
       (n < 8 → back = some ((v.setWidth 20).setWidth 48)) ∧ (8 ≤ n → n < 16 → back = some ((v.setWidth 20).signExtend 48))
       ∧ (n = 16 ∨ n = 17 → back = some ((v.setWidth 16).setWidth 48)) ∧ (20 ≤ n → n ≤ 23 → back = some ((v.setWidth 6).setWidth 48))
       ∧ (n = 24 → back = some (v &&& 0xF007)) ∧ (28 ≤ n → n ≤ 31 → x.writeSpr n v = none ∧ (x.readSpr n).isSome = true)
       ∧ (n = 18 ∨ n = 19 ∨ (25 ≤ n ∧ n ≤ 27) ∨ 32 ≤ n → x.writeSpr n v = none ∧ x.readSpr n = none)
       ∧ (∀ y, x.writeSpr n v = some y → y = { x with a := y.a, o := y.o, lc := y.lc, scl := y.scl, flags := y.flags }))
    ∧ (∀ (s : State) (e : EngIx) (r : Running) (a o : Fin 8) (d : Fin 32) (n : BitVec 8) (imm : BitVec 32), Runs s e.val r →
         let x := s.engine e.val
         let illegal := fun (i : Instr) => exec i s = .next (s.taskFault e.val 0 0 3)
         (∃ y, exec (.ceAmod e a o) s = .next (Onward s e.val r 1 y) ∧ PostModified x y a.val o.val true ∧ y = { x with a := y.a })
         ∧ (∀ y, x.writeSpr n.toNat (imm.setWidth 48) = some y → exec (.ceLds e n imm) s = .next (Onward s e.val r 1 y))
         ∧ (x.writeSpr n.toNat (imm.setWidth 48) = none → illegal (.ceLds e n imm))
         ∧ (∀ y, x.writeSpr n.toNat (x.xr d.val) = some y → exec (.ceMva e false d n) s = .next (Onward s e.val r 1 y))
         ∧ (x.writeSpr n.toNat (x.xr d.val) = none → illegal (.ceMva e false d n))
         ∧ (∀ v, x.readSpr n.toNat = some v → ∃ y, exec (.ceMva e true d n) s = .next (Onward s e.val r 1 y) ∧ PutsX x y d.val v
             ∧ y = { x with x := y.x })
         ∧ (x.readSpr n.toNat = none → illegal (.ceMva e true d n))
         ∧ exec (.ceNop e) s = .next (Onward s e.val r 1 x))

/-- R164: where the PC goes.  Without an active loop, and inside a body, it moves on by one; at the END address of the innermost
loop the counter falls, and the body starts again until it is 0; then the body around it ends too, where it ends at the same
address; a branch ends the loops whose body does not hold its
target.
R162, R163, R164, Table ENG-13: BR, LOOP, CALL and RET.  A taken branch costs three cycles more; a LOOP with a count
of 0 goes on as behind its body's END address; a reserved condition, a nesting that R164 does not allow (log 17), a fifth CALL, a CALL inside a loop body
and a RET on an empty stack are illegal instructions. -/
def Obligations.EngineControlFlow : Prop :=
    (∀ (x : Engine) (l : LoopRec) (ls : List LoopRec) (t : BitVec 13),
       (x.loops = [] → x.advance = { x with pc := x.pc + 1 })
       ∧ (x.loops = l :: ls → x.pc ≠ l.last → x.advance = { x with pc := x.pc + 1 })
       ∧ (x.loops = l :: ls → x.pc = l.last → x.lcr l.lc.val ≠ 1 → x.advance.pc = l.first ∧ x.advance.loops = l :: ls
           ∧ x.advance.lcr l.lc.val = x.lcr l.lc.val - 1)
       ∧ (x.loops = l :: ls → x.pc = l.last → x.lcr l.lc.val = 1 → (∀ m ms, ls = m :: ms → x.pc ≠ m.last) → x.advance.pc = x.pc + 1
           ∧ x.advance.loops = ls ∧ x.advance.lcr l.lc.val = 0)
       ∧ (∀ m ms, x.loops = l :: ls → x.pc = l.last → x.lcr l.lc.val = 1 → ls = m :: ms → x.pc = m.last → m.lc ≠ l.lc →
           x.lcr m.lc.val ≠ 1 → x.advance.pc = m.first ∧ x.advance.loops = ls ∧ x.advance.lcr l.lc.val = 0
           ∧ x.advance.lcr m.lc.val = x.lcr m.lc.val - 1)
       ∧ x.goto t = { x with pc := t, loops := x.loops.filter (fun m => decide (m.first ≤ t ∧ t ≤ m.last)) })
    ∧ (∀ (s : State) (e : EngIx) (r : Running) (cond : BitVec 4) (target : BitVec 16) (lc : Fin 2) (reg : Bool) (xs : Fin 32)
         (count : BitVec 16), Runs s e.val r →
         let x := s.engine e.val
         let holds := fun (c : Nat) => [true, x.flag 0, !x.flag 0, x.flag 1 != x.flag 2, x.flag 1 == x.flag 2,
           x.flag 0 || x.flag 1 != x.flag 2, !x.flag 0 && x.flag 1 == x.flag 2, x.flag 2, !x.flag 2, x.flag 13].getD c false
         let illegal := fun (i : Instr) => exec i s = .next (s.taskFault e.val 0 0 3)
         let n := if reg then (max 0 (min 65535 (x.xr xs.val).toInt)).toNat else count.toNat
         let last : BitVec 13 := target.setWidth 13
         let nests := x.loops = [] ∨ (lc = 1 ∧ ∀ l ∈ x.loops, l.lc = 0)
         (cond.toNat ≤ 9 → holds cond.toNat = true → exec (.ceBr e cond target) s = .next (Jump s e.val r 4 x (target.setWidth 13)))
         ∧ (cond.toNat ≤ 9 → holds cond.toNat = false → exec (.ceBr e cond target) s = .next (Onward s e.val r 1 x))
         ∧ (9 < cond.toNat → illegal (.ceBr e cond target))
         ∧ (nests → n = 0 → exec (.ceLoop e lc reg xs count target) s = .next (Onward s e.val r 1 { x with pc := last }))
         ∧ (nests → n ≠ 0 → ∃ y, exec (.ceLoop e lc reg xs count target) s = .next (Jump s e.val r 1 y (x.pc + 1))
             ∧ y = { x with lc := y.lc, loops := { lc := lc, first := x.pc + 1, last := last } :: x.loops }
             ∧ y.lcr lc.val = BitVec.ofNat 16 n ∧ (∀ j, j ≠ lc.val → y.lcr j = x.lcr j))
         ∧ (¬ nests → illegal (.ceLoop e lc reg xs count target))
         ∧ (x.loops = [] → x.ret.length < 4 →
             exec (.ceCall e target) s = .next (Jump s e.val r 4 { x with ret := (x.pc + 1) :: x.ret } (target.setWidth 13)))
         ∧ (x.loops ≠ [] ∨ 4 ≤ x.ret.length → illegal (.ceCall e target))
         ∧ (∀ p ps, x.ret = p :: ps → exec (.ceRet e) s = .next (Jump s e.val r 4 { x with ret := ps } p))
         ∧ (x.ret = [] → illegal (.ceRet e)))

/-- R156, R170, R171, R174, R176, R177: what ends a task.  END, TFLT, the watchdog at TASK_LIMIT and a failure of the engine leave the
engine without a task; FENCE and END leave the store buffer empty; a fault sets its bit of ENG_STATUS and the engine stays
in service, unless a rotation waits for it; a failed engine does not.  An arithmetic fault wins over END (R177). -/
def Obligations.EngineTaskEnds : Prop :=
  ∀ (s : State) (e : EngIx) (r : Running) (code : BitVec 16) (self : Bool), Runs s e.val r →
    let x := s.engine e.val
    let stays := fun (y : Engine) => (x.rotWait = false → y.inService = x.inService) ∧ (x.rotWait = true → y.rotated = true ∧ y.inService = false)
    Gives (.ceFence e) s (fun t => (t.engine e.val).stores = [] ∧ (t.engine e.val).pc = x.advance.pc
        ∧ (t.engine e.val).task = some { r with cycles := r.cycles + 1 + x.stores.length })
    ∧ Gives (.ceEnd e) s (fun t => (t.engine e.val).task = none ∧ (t.engine e.val).stores = []
        ∧ (r.arith = true → (t.engine e.val).arith = true) ∧ (r.arith = false → (t.engine e.val).tasks = inc32 x.tasks))
    ∧ Gives (.ceTflt e code) s (fun t => (t.engine e.val).task = none ∧ stays (t.engine e.val))
    ∧ (s.parN 0x01050002 0 ≤ r.cycles → Gives (.engineWatchdog e) s (fun t =>
        (t.engine e.val).task = none ∧ (t.engine e.val).watchdog = true ∧ stays (t.engine e.val)))
    ∧ (r.cycles < s.parN 0x01050002 0 → exec (.engineWatchdog e) s = .next s)
    ∧ (x.failed = false → Gives (.engineFailed e self) s (fun t =>
        (t.engine e.val).task = none ∧ (t.engine e.val).failed = true ∧ (t.engine e.val).inService = false))

/-- Log 1: a step takes the command at the front of the queue and runs it on the state with the queue's rest; no word of the
table spells a command, so a fetched word changes nothing. -/
def Obligations.StepRunsFront : Prop :=
  ∀ (s : State) (c : Instr) (nbits w : Nat),
    step { s with pending := c :: s.pending } = exec c s ∧ s.withFetchWord nbits w = s ∧ decodeTableWord nbits w = none

/-- R399, log 1: on an empty queue, while no engine runs a program, a step is one tick of the 1 GHz core clock: the served clock gains ADDEND = 2^32 + R units of
2^-32 ns and stays normalised, and nothing else changes.
R161, R172, log 168: on an empty queue an engine whose last instruction has passed executes the word at its PC as Tables ENG-11 and
ENG-12 spell it; OP 0x00 and a reserved OP are an illegal instruction. -/
def Obligations.IdleStepServesTime : Prop :=
    (∀ (s : State), s.pending = [] → s.time.frac < 4294967296 → s.time.ns < 1000000000 → s.time.sec < 281474976710656 →
       -2147483 ≤ s.time.rate → s.time.rate ≤ 2147483 → (∀ e, e < 8 → s.idleTick.issues e = false) →
       let units := fun (t : State) => ((t.time.sec * 1000000000 + t.time.ns) * 4294967296 + t.time.frac : Int)
       ∃ t, step s = .next t ∧ units t = (units s + 4294967296 + s.time.rate) % (281474976710656 * 1000000000 * 4294967296)
         ∧ t.time.frac < 4294967296 ∧ t.time.ns < 1000000000 ∧ t.time.sec < 281474976710656
         ∧ t = { s with coreTicks := s.coreTicks + 1, time := { s.time with frac := t.time.frac, ns := t.time.ns, sec := t.time.sec } })
    ∧ (∀ (s t : State) (e : EngIx) (f : State → Host.Outcome State Fault Refusal), s.pending = [] →
         (∀ i, i < 8 → (s.idleTick.issues i = true ↔ i = e.val)) →
         let w := s.idleTick.programWord e.val
         let others := fun (u : State) => ∀ i, e.val < i → i < 8 → u.issues i = false
         (decodeEngine e w = some f → f s.idleTick = .next t → others t → step s = .next t)
         ∧ (decodeEngine e w = none → others (s.idleTick.taskFault e.val 0 0 3) → step s = .next (s.idleTick.taskFault e.val 0 0 3))
         ∧ (engBits w 58 6 = 0 ∨ engBits w 58 6 = 0x0F ∨ 0x38 ≤ engBits w 58 6 → decodeEngine e w = none)
         ∧ (engBits w 58 6 = 0x10 → decodeEngine e w = some (exec (.ceAdd e (engReg w 53) (engReg w 48) (engReg w 43))))
         ∧ (engBits w 58 6 = 0x34 → decodeEngine e w = some (exec (.ceEnd e))))

/-- No command touches the queue, and none stops the block: every command answers a next state.
Every run is safe: whatever waits in the queue, no step stops the block. -/
def Obligations.EveryCommandAnswers : Prop :=
    (∀ (c : Instr) (s : State), ∃ t, exec c s = .next t ∧ t.pending = s.pending)
    ∧ (∀ (n : Nat) (s : State), SafeRun n s)

/-- What reset leaves where the spec gives a value: the registers of Table HST-3, the parameters of Table CMD-2 at their
defaults (R441), no session (R432), no task (R169), every axis DISABLED (R184), R = 0 (R399), an empty history (R456); and, by
the model's choice (log 1, 3, 5), an empty queue and no output.
At reset every memory of the device has the model's canonical form (log 18), and no store buffer holds more than its four entries (R168). -/
def Obligations.ResetLeaves : Prop :=
    (let s := State.reset
     let b := s.host.bar0
     s.pending = [] ∧ s.out = [] ∧ s.cyc.running = false ∧ s.coreTicks = 0
     ∧ (∀ i, (s.session i).phase = .free) ∧ (∀ base i, s.par base i = paramDefault (base + i * 4096)) ∧ (∀ a, s.axState a = .disabled)
     ∧ (∀ e, (s.engine e).task = none ∧ (s.engine e).flags = 0 ∧ (s.engine e).stores = [] ∧ (∀ i, (s.engine e).xr i = 0))
     ∧ b.hostCtrl = 0 ∧ b.sqSize = 16 ∧ b.sqTail = 0 ∧ b.sqHead = 0 ∧ b.cqSize = 16 ∧ b.cqHead = 0 ∧ b.cqTail = 0 ∧ b.eqSize = 64
     ∧ b.eqHead = 0 ∧ b.eqTail = 0 ∧ b.intStatus = 0 ∧ b.intEnable = 0 ∧ b.intCoal = 0 ∧ b.msiMap = 0 ∧ b.alertMask = 0x14
     ∧ s.host.history = [] ∧ s.saf.endgame = none ∧ s.time.rate = 0)
    ∧ (State.reset.memWf = true ∧ State.reset.storesWf = true)

/-- R450, R357, R466, R438: the order in which a command is checked, and what each failure answers; a command of the on-move
chip's log lands on a standby unchecked.
R418, R443: while cycles run, AT_BOUNDARY makes a command that changes no cycle state wait, without a reply, for the next boundary, where it
executes as it then stands, unless its session has closed.
R357: while a synchronised standby exists, a state-changing command sends its LOG first and changes nothing else, then waits
for LOG_ACK, and lands after it; a landing past its boundary is counted in LOG_LATE. -/
def Obligations.CommandChecks : Prop :=
    (∀ (s0 : State) (c : CmdCtx) (k : Cmd) (lenOk : Bool) (body : State → Ans),
       let s := s0.takeUp c
       let x := s.session c.slot.val
       let logged := s.twin.standby = true ∧ k.move = true ∧ s.isLogged c k.op = true
       let t := s0.command c k lenOk body
       let allowed := roleAllows x.role k.need = true ∧ (s.host.keys.default = true → defaultKeyOk k.op = true)
       let expert := k.expert = true → c.expert = true
       let mine := s.twin.standby = true → k.move = false
       let here := s.boot.recovery = true → recoveryOk k.op = true
       (logged → t = match body (s.unlog c k.op) with
         | .refuse _ _ => s.unlog c k.op
         | .ok s' _ _ => s'
         | .quiet s' => s')
       ∧ (¬ logged → x.phase ≠ .opened → t = s.sendTo x.source (packet k.op c.seq x.id (replyFlagsOf c) [] (be 2 0x0204)))
       ∧ (¬ logged → x.phase = .opened → lenOk = false → t = s.reply c k.op 0x0101 [])
       ∧ (¬ logged → x.phase = .opened → lenOk = true → ¬ allowed → t = s.reply c k.op 0x0203 [])
       ∧ (¬ logged → x.phase = .opened → lenOk = true → allowed → ¬ expert → t = s.reply c k.op 0x0103 [])
       ∧ (¬ logged → x.phase = .opened → lenOk = true → allowed → expert → ¬ mine → t = s.reply c k.op 0x0601 [])
       ∧ (¬ logged → x.phase = .opened → lenOk = true → allowed → expert → mine → ¬ here → t = s.reply c k.op 0x0301 [])
       ∧ (¬ logged → x.phase = .opened → lenOk = true → allowed → expert → mine → here →
           (∀ st d, body s = .refuse st d → t = s.reply c k.op st d)
           ∧ (k.logged = false ∨ s.standbySynced = false →
               (∀ s' st d, body s = .ok s' st d → t = s'.reply c k.op st d) ∧ (∀ s', body s = .quiet s' → t = s'))))
    ∧ (∀ (s u : State) (c : CmdCtx) (i : Instr),
         let t := s.holdCommand c i
         let opened := (s.session c.slot.val).phase = .opened
         let boundary : State := { s with host := { s.host with boundary := [], atBoundary := true } }
         (s.waitsBoundary c = true ↔ c.atBoundary = true ∧ s.cyc.running = true ∧ s.host.atBoundary = false ∧ opened)
         ∧ (AtBoundary c i → s.waitsBoundary c = true → Leaves i s t)
         ∧ t.host.boundary = s.host.boundary ++ [(c, i)] ∧ t.out = s.out ∧ t = { s with host := { s.host with boundary := t.host.boundary, plantQueue := t.host.plantQueue } }
         ∧ (s.host.boundary = [(c, i)] → AtBoundary c i → opened → exec i boundary = .next u →
             s.takeBoundary = { u with host := { u.host with atBoundary := false } })
         ∧ (s.host.boundary = [(c, i)] → ¬ opened → s.takeBoundary = { boundary with host := { boundary.host with atBoundary := false } }))
    ∧ (∀ (s s' : State) (c : CmdCtx) (k : Cmd) (fin : State → State) (l : LogEntry), k.logged = true → s.standbySynced = true →
         (s.logEntry c k.op = none →
           let t := s.landLogged s' c k fin
           t = { s with out := t.out, twin := { s.twin with logPos := s.twin.logPos + 1, logs := t.twin.logs } }
           ∧ t.twin.logs = s.twin.logs ++ [⟨s.twin.logPos + 1, c.slot, c.seq, k.op, s.cyc.cycle + 1, false⟩]
           ∧ ∃ rec_ : LogRec, t.out = (s.put (.twin (.log rec_))).out ∧ rec_.params = k.params ∧ rec_.opcode.toNat = k.op % 65536
               ∧ rec_.slot = c.slot ∧ rec_.seq = c.seq ∧ rec_.cycle = s.cyc.cycle + 1)
         ∧ (s.logEntry c k.op = some l → l.acked = false → s.landLogged s' c k fin = s)
         ∧ (s.logEntry c k.op = some l → l.acked = true →
           let u := fin s'
           s.landLogged s' c k fin = { u with twin := { u.twin with
             logs := u.twin.logs.filter (fun m => decide (m.pos ≠ l.pos))
             logLate := if l.cycle < s.cyc.cycle then inc32 u.twin.logLate else u.twin.logLate } }))

/-- R416, R420, R421: a reply goes to the session's source, carries the status before its data, and is kept as the first of
the 16 most recent; the command no longer waits.  Apart from the interrupt registers of the ring nothing else changes.
R456, R457: an event takes the next number, joins the history of 256, and nothing but the host space and the outputs
changes; an event decided while a cycle boundary is being taken waits for its number, which the events of the boundary take in
ascending CODE, then in ascending INSTANCE. -/
def Obligations.RepliesAndEvents : Prop :=
    (∀ (s : State) (c : CmdCtx) (op st : Nat) (data : List Byte),
       let x := s.session c.slot.val
       let bytes := packet op c.seq x.id (replyFlagsOf c) x.key (be 2 st ++ data)
       let t := s.reply c op st data
       (t.session c.slot.val).replies = (⟨c.seq, bytes⟩ :: x.replies).take 16
       ∧ (t.session c.slot.val).waiting = x.waiting.filter (fun p => field p 4 2 != c.seq.toNat)
       ∧ t.session c.slot.val = { x with replies := (t.session c.slot.val).replies, waiting := (t.session c.slot.val).waiting }
       ∧ (∀ i, i ≠ c.slot.val → t.session i = s.session i)
       ∧ (x.source ≠ .pcie → t.out = (s.put (.reply x.source bytes)).out ∧ t.host.bar0 = s.host.bar0)
       ∧ (x.source = .pcie → (s.boot.testEn = false → .ringReply s.host.bar0.cqTail.toNat bytes ∈ t.out) ∧ nbit t.host.bar0.intStatus.toNat 0 = true
           ∧ t.host.bar0.sqHead = s.host.bar0.sqHead ∧ t.host.bar0.cqHead = s.host.bar0.cqHead)
       ∧ t = { s with out := t.out, host := { s.host with bar0 := t.host.bar0, sessions := t.host.sessions } })
    ∧ (∀ (s : State) (code sev inst : Nat) (data : List Byte) (d e : Event) (es l : List Event),
         let t := s.raise code sev inst data
         let is := fun (e : Event) => e.code = code ∧ e.sev = sev ∧ e.inst = inst ∧ e.cycle = s.cyc.cycle ∧ e.data = data
         let order := fun (x y : Event) => x.code < y.code ∨ (x.code = y.code ∧ x.inst ≤ y.inst)
         (s.host.gathered = none → t.host.evtSeq = s.host.evtSeq + 1
             ∧ (∃ e : Event, t.host.history = (e :: s.host.history).take 256 ∧ e.seq = s.host.evtSeq ∧ is e)
             ∧ (sev = 2 → nbit t.host.bar0.intStatus.toNat 4 = true))
         ∧ (s.host.gathered = some es → ∃ e, is e ∧ t = { s with host := { s.host with gathered := some (e :: es) } })
         ∧ (s.host.gathered = some [d, e] → s.numberAll = (if d.before e then (State.number { s with host := { s.host with gathered := none } } d).number e
             else (State.number { s with host := { s.host with gathered := none } } e).number d))
         ∧ (l.Pairwise order → (d.insert l).Pairwise order ∧ ∀ x, x ∈ d.insert l ↔ x = d ∨ x ∈ l)
         ∧ t = { s with out := t.out, host := t.host } ∧ t.host.keys = s.host.keys ∧ (∀ i, t.idents i = s.idents i))

/-- R425: with EQ_EN = 1 every event record is written at EQ_TAIL; a full ring drops it, counts it in EVT_LOST and sets EQ_OVF, and no record already
written is overwritten.
R457 (log 178): events wait for their numbers only within a cycle start: none waits after a step that none waited before. -/
def Obligations.EventRing : Prop :=
    (∀ (s : State) (code sev inst : Nat) (data : List Byte) (e : Event),
       let b := s.host.bar0
       let on := nbit b.hostCtrl.toNat 1 = true
       let out := s.boot.testEn = false
       let numbers := s.host.gathered = none
       let next := if b.eqSize = 0 then 0 else (b.eqTail.toNat + 1) % b.eqSize.toNat
       let t := s.ringEvent e
       let u := s.raise code sev inst data
       (¬ on → t = s)
       ∧ (on → next ≠ b.eqHead.toNat → (out → .ringEvent b.eqTail.toNat e.bytes ∈ t.out) ∧ t.host.bar0.eqTail = BitVec.ofNat 32 next
           ∧ t.host.evtLost = s.host.evtLost ∧ t.host.bar0.eqHead = b.eqHead)
       ∧ (on → next = b.eqHead.toNat → (∀ i bs, .ringEvent i bs ∈ t.out → .ringEvent i bs ∈ s.out) ∧ t.host.bar0.eqTail = b.eqTail
           ∧ t.host.evtLost = inc32 s.host.evtLost ∧ nbit t.host.bar0.intStatus.toNat 2 = true)
       ∧ (on → numbers → out → next ≠ b.eqHead.toNat → ∃ r rest, u.host.history = r :: rest ∧ .ringEvent b.eqTail.toNat r.bytes ∈ u.out)
       ∧ (on → numbers → next = b.eqHead.toNat → u.host.evtLost = inc32 s.host.evtLost ∧ nbit u.host.bar0.intStatus.toNat 2 = true))
    ∧ (State.reset.host.gathered = none ∧ ∀ (s t : State), s.host.gathered = none → step s = .next t → t.host.gathered = none)

/-- R430, R431, R435, R438: SES_HELLO challenges the lowest free slot and answers ACCEPTED with the session identifier, N_D
and the serial number; SES_PROVE opens the session under the key that HKDF derives and answers the device's proof, or frees
the slot and counts a failure; a challenge ends after 2 s.
R432, R435: a session closes on SES_CLOSE and after SES_IDLE, which frees its slot and drops its queued commands; a
lockout ends in its time.
R435: the count of failed proofs, the fifth of which locks the source out for 10 s, doubled for each further lockout up to
an hour. -/
def Obligations.Sessions : Prop :=
    (∀ (s : State) (c : CmdCtx) (src : HostSource) (seq : BitVec 16) (role : BitVec 8) (nonce proof : List Byte) (slot : SlotIx),
       let v := match src with
         | .pcie => s
         | .udp p _ _ =>
           s.setPlantQueue p.val ((s.plantQueue p.val).filter (fun b => !decide (field b 2 2 = 0x0201 ∧ field b 4 2 = seq.toNat)))
       let answer := fun (t : State) (params : List Byte) => t.sendTo src (packet 0x0201 seq 0 0x8000 [] params)
       let hello := fun (t : State) => exec (.sesHello src seq role nonce) s = .next t
       let inRole := 1 ≤ role.toNat ∧ role.toNat ≤ 5
       let ask := s.serves = true ∧ nonce.length = 16 ∧ inRole
       let mayAsk := s.host.keys.default = true → src = .pcie ∧ role = 5
       let free := fun (i : Nat) => i < 8 ∧ (s.session i).phase = .free ∧ ∀ j, j < i → (s.session j).phase ≠ .free
       let u := s.takeUp c
       let x := u.session c.slot.val
       let k := u.roleKey x.role
       let bare := fun (st : Nat) (t : State) => t.sendTo x.source (packet 0x0202 c.seq x.id (replyFlagsOf c) [] (be 2 st))
       let inTime := s.coreTicks ≤ x.lastTick + 2000000000
       (s.serves = false → hello v)
       ∧ (s.serves = true → nonce.length ≠ 16 → hello (answer v (be 2 0x0101)))
       ∧ (s.serves = true → nonce.length = 16 → ¬ inRole → hello (answer v (be 2 0x0105)))
       ∧ (ask → ∀ n, s.lockedFor src = some n → hello (answer v (be 2 0x0202 ++ be 4 n)))
       ∧ (ask → s.lockedFor src = none → ¬ mayAsk → hello (answer v (be 2 0x0203)))
       ∧ (ask → s.lockedFor src = none → mayAsk → (∀ i, i < 8 → (s.session i).phase ≠ .free) → hello (answer v (be 2 0x0401)))
       ∧ (ask → s.lockedFor src = none → mayAsk → ∀ i, free i → ∃ (id : Nat) (nd : List Byte),
           id % 8 = i ∧ nd.length = 16 ∧ hello (answer ((v.useFree 20).setSession i
             { phase := .challenged, id := BitVec.ofNat 32 id, role := role.toNat, source := src, nh := nonce, nd := nd
               lastTick := s.coreTicks, helloSeq := seq }) (be 2 1 ++ be 4 id ++ nd ++ be 6 Config.serial.toNat)))
       ∧ (x.phase = .free ∨ (x.phase = .challenged ∧ ¬ inTime) → Leaves (.sesProve c proof) s (bare 0x0204 u))
       ∧ (x.phase = .opened → Leaves (.sesProve c proof) s (bare 0x0301 u))
       ∧ (x.phase = .challenged → inTime → proof = hmac k (x.nh ++ x.nd) →
           Replies (.sesProve c proof) s c 0x0202 0 (hmac k (x.nd ++ x.nh)) ((u.clearFailures x.source).setSession c.slot.val
             { x with phase := .opened, key := hkdf32 k (x.nh ++ x.nd) (sessionInfo ++ be 4 x.id.toNat ++ be 1 x.role), lastSeq := c.seq
                      lastTick := s.coreTicks, nh := [], nd := [] }))
       ∧ (x.phase = .challenged → inTime → proof ≠ hmac k (x.nh ++ x.nd) →
           Leaves (.sesProve c proof) s (((bare 0x0201 u).setSession c.slot.val Session.reset).countFailure x.source))
       ∧ ((s.session slot.val).phase = .challenged → (s.session slot.val).lastTick + 2000000000 < s.coreTicks →
           Leaves (.challengeTimeout slot) s (s.setSession slot.val Session.reset)))
    ∧ (∀ (s : State) (c : CmdCtx) (slot : SlotIx) (src : HostSource) (e : LockEntry) (until_ : Nat),
         let t := s.closeSession slot.val
         (Reads s c 0x0203 1 → Leaves (.sesClose c) s (((s.takeUp c).reply c 0x0203 0 []).closeSession c.slot.val))
         ∧ ((s.session slot.val).phase = .opened → (s.session slot.val).lastTick + s.parN 0x02000001 0 * 1000000000 ≤ s.coreTicks →
             Leaves (.sesIdle slot) s t)
         ∧ t.session slot.val = Session.reset ∧ (∀ i, i ≠ slot.val → t.session i = s.session i)
         ∧ (∀ w, w ∈ t.host.parQueue ↔ w ∈ s.host.parQueue ∧ w.ctx.slot.val ≠ slot.val)
         ∧ (∀ w, w ∈ t.eng.segWaiting ↔ w ∈ s.eng.segWaiting ∧ w.ctx.slot.val ≠ slot.val)
         ∧ (∀ w, w ∈ t.arb.budget ↔ w ∈ s.arb.budget ∧ w.ctx.slot.val ≠ slot.val)
         ∧ (∀ w, w ∈ t.host.boundary ↔ w ∈ s.host.boundary ∧ w.1.slot.val ≠ slot.val)
         ∧ (∀ w, w ∈ t.fld.outWait ↔ w ∈ s.fld.outWait ∧ w.ctx.slot.val ≠ slot.val)
         ∧ t = { s with host := t.host, eng := t.eng, moves := t.moves, arb := t.arb, axes := t.axes, fld := { s.fld with outWait := t.fld.outWait }
                        scs := { s.scs with armPending := t.scs.armPending, forceCtx := t.scs.forceCtx }, time := { s.time with step := t.time.step } }
         ∧ (s.lockOf src = some e → e.until_ = some until_ → until_ ≤ s.coreTicks →
             Leaves (.lockoutEnd src) s (s.setLock src [{ e with until_ := none }])))
    ∧ (∀ (s : State) (src : HostSource) (e : LockEntry), s.lockOf src = some e → e.src = lockSource src →
         let t := s.countFailure src
         let d := if e.duration = 0 then 10 else min 3600 (2 * e.duration)
         t.host.proveFail = inc32 s.host.proveFail
         ∧ (e.fails < 4 → t.lockOf src = some { e with fails := e.fails + 1, lastFail := s.coreTicks } ∧ t.host.lockouts = s.host.lockouts)
         ∧ (4 ≤ e.fails → t.host.lockouts = inc32 s.host.lockouts
             ∧ t.lockOf src = some { e with fails := 0, until_ := some (s.coreTicks + d * 1000000000), duration := d, lastFail := s.coreTicks }
             ∧ t.lockedFor src = some d))

/-- R431: a session becomes open only by its own SES_PROVE. -/
def Obligations.SessionsOpenOnlyByProof : Prop :=
  ∀ (s t : State) (c : Instr) (i : SlotIx), exec c s = .next t → (s.session i.val).phase ≠ .opened → (t.session i.val).phase = .opened →
    ∃ (x : CmdCtx) (proof : List Byte), c = .sesProve x proof ∧ x.slot = i

/-- R436, R437, R465: SES_KEY_SET queues the new key, IMG_WRITE its bytes; both answer once the flash is written: DONE with the
key or the bank in force, FLASH_ERROR with the old content.
R447, R457, Table CMD-3: DEV_INFO, SYS_EVT_MASK, SYS_RESET and SYS_EVT_READ. -/
def Obligations.KeysAndDeviceCommands : Prop :=
    (∀ (s : State) (c d : CmdCtx) (role : BitVec 8) (wrapped key : List Byte) (r : Nat) (bank off : Nat) (data : List Byte),
       let t := s.takeUp c
       let need := if role = 4 ∧ s.host.keys.default = false then 4 else 5
       let key? := keyUnwrap (s.session c.slot.val).key wrapped
       let inRole := 1 ≤ role.toNat ∧ role.toNat ≤ 5
       let set := fun (st : Nat) => Replies (.sesKeySet c role wrapped) s c 0x0204 st [] t
       (Acts s c 0x0204 need → wrapped.length = 40 → ¬ inRole → set 0x0105)
       ∧ (Acts s c 0x0204 need → wrapped.length = 40 → key? = none → set 0x0105)
       ∧ (Acts s c 0x0204 need → wrapped.length = 40 → inRole → key? = some key →
           t.host.keys.pendingSet.isSome = true ∨ t.boot.flashWrite.isSome = true → set 0x0303)
       ∧ (Acts s c 0x0204 need → wrapped.length = 40 → inRole → key? = some key →
           t.host.keys.pendingSet = none → t.boot.flashWrite = none →
           Leaves (.sesKeySet c role wrapped) s
             { t with host := { t.host with keys := { t.host.keys with pendingSet := some (c, role.toNat, key) } } })
       ∧ (s.host.keys.pendingSet = some (d, r, key) → Leaves (.flashWriteComplete true) s ((s.storeKey r key).replyLater d 0x0204 0 []))
       ∧ (s.host.keys.pendingSet = some (d, r, key) → Leaves (.flashWriteComplete false) s
           (({ s with host := { s.host with keys := { s.host.keys with pendingSet := none } } }).replyLater d 0x0204 0x0407 []))
       ∧ (s.host.keys.pendingSet = none → s.boot.flashWrite = some (d, bank, off, data) →
           Leaves (.flashWriteComplete false) s
             (({ s with boot := { s.boot with flashWrite := none } }).replyLater d 0x0E01 0x0407 []))
       ∧ (s.host.keys.pendingSet = none → s.boot.flashWrite = some (d, 0, off, data) →
           Leaves (.flashWriteComplete true) s ((State.put { s with boot := { s.boot with
             flashWrite := none, bankA := { s.boot.bankA.write off data with written := true } } } (.flash 0 off data)).replyLater d 0x0E01 0 []))
       ∧ (s.host.keys.pendingSet = none → s.boot.flashWrite = some (d, 1, off, data) →
           Leaves (.flashWriteComplete true) s ((State.put { s with boot := { s.boot with
             flashWrite := none, bankB := { s.boot.bankB.write off data with written := true } } } (.flash 1 off data)).replyLater d 0x0E01 0 [])))
    ∧ (∀ (s : State) (c : CmdCtx) (classes : BitVec 16) (sev kind n : BitVec 8) (start : BitVec 32),
         let t := s.takeUp c
         let recs := (List.range n.toNat).filterMap (fun i => t.host.history.find? (fun (e : Event) => decide (e.seq = start + BitVec.ofNat 32 i)))
         let mask := fun (st : Nat) (u : State) => Replies (.sysEvtMask c classes sev) s c 0x0102 st [] u
         let reset := fun (st : Nat) (u : State) => Replies (.sysReset c kind) s c 0x0103 st [] u
         let most := if (t.session c.slot.val).source = .pcie then 3 else 22
         (Reads s c 0x0101 1 → Replies (.devInfo c) s c 0x0101 0 (be 2 0x7256 ++ [0x42, 0x31, 0x48, 0x32, 0x46, 0x31] ++ be 6 Config.serial.toNat
           ++ be 4 t.boot.fwVer.toNat ++ be 1 (t.boot.bank.getD 0xFF) ++ be 4 t.boot.imgSeq.toNat ++ be 1 t.devFlags
           ++ be 1 (t.session c.slot.val).role) t)
         ∧ (Local s c 0x0102 1 → sev.toNat ≤ 2 → mask 0 (t.modSession c.slot.val (fun x => { x with evtClasses := classes, evtSev := sev.toNat })))
         ∧ (Local s c 0x0102 1 → 2 < sev.toNat → mask 0x0105 t)
         ∧ (Local s c 0x0103 5 → kind ≠ 1 → reset 0x0105 t)
         ∧ (Local s c 0x0103 5 → kind = 1 → (∃ a, a < 256 ∧ t.axState a ≠ .disabled) → reset 0x0302 t)
         ∧ (Local s c 0x0103 5 → kind = 1 → (∀ a, t.axState a = .disabled) →
             reset 0 { t with boot := { t.boot with resetDue := some { tick := s.coreTicks + 10000000 } } })
         ∧ (Reads s c 0x0104 1 → 1 ≤ n.toNat → n.toNat ≤ most → recs ≠ [] → Replies (.sysEvtRead c start n) s c 0x0104 0 (recs.flatMap Event.bytes) t)
         ∧ (Reads s c 0x0104 1 → n.toNat = 0 ∨ most < n.toNat ∨ recs = [] → Replies (.sysEvtRead c start n) s c 0x0104 0x0105 [] t))

/-- R422, R423, Table HST-3: what a write of a BAR0 register leaves: the plain registers read back in their width, a base or a
size of a running ring keeps its value and REG_IGNORED is set, a size or a gap out of range is not taken (log 5), and a write
of an offset that Table HST-3 does not list does nothing.
R424, R425, R426, R469: the doorbells and the interrupt registers.  RING_EN from 0 to 1 clears SQ_STOPPED and the four
indices; a SQ_TAIL beyond the size stops the ring; while it runs, the device reads its entries in order until the completion
ring is full; a write of 1 clears an interrupt cause; the causes held back by INT_COAL give one message; a PCIe reset closes
the sessions of the PCIe function and returns BAR0 to its reset values.
R423, R426: the message of a cause goes out when the cause becomes set and the gap of its vector has passed, and is held
back otherwise; a cause that is set already gives none. -/
def Obligations.RegistersAndRings : Prop :=
    (∀ (s : State) (off : BitVec 16) (v : BitVec 32),
       let b := s.host.bar0
       let writes := fun (b' : Bar0) => Leaves (.registerWrite off v) s { s with host := { s.host with bar0 := b' } }
       let ignored := Leaves (.registerWrite off v) s (s.setInt 5)
       let sqcq := off = 0x10 ∨ off = 0x14 ∨ off = 0x18 ∨ off = 0x30 ∨ off = 0x34 ∨ off = 0x38
       let eq := off = 0x50 ∨ off = 0x54 ∨ off = 0x58
       let size := fun (lo hi : Nat) => lo ≤ v.toNat ∧ v.toNat ≤ hi ∧ ∃ n, n ≤ 12 ∧ v.toNat = 2 ^ n
       (sqcq → b.hostCtrl.getLsbD 0 = true → ignored) ∧ (eq → b.hostCtrl.getLsbD 1 = true → ignored)
       ∧ (off = 0x10 → b.hostCtrl.getLsbD 0 = false → writes { b with sqBaseLo := v &&& 0xFFFFF000 })
       ∧ (off = 0x14 → b.hostCtrl.getLsbD 0 = false → writes { b with sqBaseHi := v })
       ∧ (off = 0x18 → b.hostCtrl.getLsbD 0 = false → size 16 1024 → writes { b with sqSize := v })
       ∧ (off = 0x18 → b.hostCtrl.getLsbD 0 = false → ¬ size 16 1024 → writes b)
       ∧ (off = 0x30 → b.hostCtrl.getLsbD 0 = false → writes { b with cqBaseLo := v &&& 0xFFFFF000 })
       ∧ (off = 0x34 → b.hostCtrl.getLsbD 0 = false → writes { b with cqBaseHi := v })
       ∧ (off = 0x38 → b.hostCtrl.getLsbD 0 = false → size 16 1024 → writes { b with cqSize := v })
       ∧ (off = 0x50 → b.hostCtrl.getLsbD 1 = false → writes { b with eqBaseLo := v &&& 0xFFFFF000 })
       ∧ (off = 0x54 → b.hostCtrl.getLsbD 1 = false → writes { b with eqBaseHi := v })
       ∧ (off = 0x58 → b.hostCtrl.getLsbD 1 = false → size 64 4096 → writes { b with eqSize := v })
       ∧ (off = 0x74 → writes { b with intEnable := v &&& 0x3F }) ∧ (off = 0x7C → writes { b with msiMap := v &&& 0xFFF })
       ∧ (off = 0x78 → v.toNat % 65536 ≤ 1000 → writes { b with intCoal := v &&& 0xFFFF })
       ∧ (off = 0x80 → writes { b with alertMask := v &&& 0x3F })
       ∧ (off = 0x20 ∨ off = 0x40 ∨ off = 0x60 ∨ off = 0 ∨ off = 8 ∨ 0x84 ≤ off.toNat ∨ off.toNat % 4 ≠ 0 → Leaves (.registerWrite off v) s s))
    ∧ (∀ (s : State) (v : BitVec 32) (entries : List (List Byte)) (e : List Byte) (rest : List (List Byte)) (k : Fin 4),
         let b := s.host.bar0
         let bar := fun (b' : Bar0) => { s with host := { s.host with bar0 := b' } }
         let on := b.hostCtrl.getLsbD 0 = true
         let next := fun (w : BitVec 32) => BitVec.ofNat 32 ((w.toNat + 1) % b.sqSize.toNat)
         let full := (b.cqTail.toNat + 1) % b.cqSize.toNat = b.cqHead.toNat
         (¬ on → Leaves .ringEn s (bar { b with hostCtrl := BitVec.ofNat 32 (1 + 2 * b2n (b.hostCtrl.getLsbD 1)), sqStopped := false
                                                sqTail := 0, sqHead := 0, cqHead := 0, cqTail := 0, sqQueue := [] }))
         ∧ (on → Leaves .ringEn s (bar { b with hostCtrl := BitVec.ofNat 32 (1 + 2 * b2n (b.hostCtrl.getLsbD 1)) }))
         ∧ Leaves .eqEn s (bar { b with hostCtrl := BitVec.ofNat 32 (b2n (b.hostCtrl.getLsbD 0) + 2) })
         ∧ Leaves (.eqHead v) s (bar { b with eqHead := v })
         ∧ Leaves (.cqHead v) s ((bar { b with cqHead := v }).drainRing b.sqQueue)
         ∧ (¬ on → Leaves (.sqTail v entries) s (bar { b with sqTail := v }))
         ∧ (on → b.sqSize.toNat ≤ v.toNat → Leaves (.sqTail v entries) s ((bar { b with sqTail := v, sqStopped := true }).setInt 3))
         ∧ (on → v.toNat < b.sqSize.toNat → b.sqTail.toNat < b.sqSize.toNat →
             entries.length = (v.toNat + b.sqSize.toNat - b.sqTail.toNat) % b.sqSize.toNat →
             Leaves (.sqTail v entries) s ((bar { b with sqTail := v, sqQueue := b.sqQueue ++ entries }).drainRing (b.sqQueue ++ entries)))
         ∧ (s.drainRing [] = bar { b with sqQueue := [] })
         ∧ (on → b.sqStopped = false → ¬ full →
             s.drainRing (e :: rest) = ((bar { b with sqHead := next b.sqHead }).takePacket .pcie e).drainRing rest)
         ∧ (¬ on ∨ b.sqStopped = true ∨ full → s.drainRing (e :: rest) = bar { b with sqQueue := e :: rest })
         ∧ Leaves (.intStatus v) s (bar { b with intStatus := b.intStatus &&& ~~~ (v &&& 0x3F) })
         ∧ (b.msiHeld.getLsbD k.val = true → (∀ t, s.msiLast k.val = some t → t + b.intCoal.toNat % 65536 * 1000 ≤ s.coreTicks) →
             ∃ t, exec (.msiCoalesceEnd k) s = .next t ∧ t.out = (s.put (.msi k.val)).out ∧ t.msiLast k.val = some s.coreTicks
               ∧ t.host.bar0.msiHeld.getLsbD k.val = false
               ∧ t = { s with out := t.out, host := { s.host with bar0 := { b with msiHeld := t.host.bar0.msiHeld, msiLast := t.host.bar0.msiLast } } })
         ∧ (∃ t, exec .pcieReset s = .next t ∧ t.host.bar0 = Bar0.reset ∧ ∀ i, i < 8 →
             t.session i = if (s.session i).source = .pcie ∧ (s.session i).phase ≠ .free then Session.reset else s.session i))
    ∧ (∀ (s : State) (i : Nat), i < 6 →
         let b := s.host.bar0
         let t := s.setInt i
         let v := s.msiVector i
         let gap := b.intCoal.toNat % 65536 * 1000
         nbit t.host.bar0.intStatus.toNat i = true ∧ (∀ j, j ≠ i → nbit t.host.bar0.intStatus.toNat j = nbit b.intStatus.toNat j)
         ∧ (nbit b.intStatus.toNat i = true ∨ nbit b.intEnable.toNat i = false → t.out = s.out)
         ∧ (nbit b.intStatus.toNat i = false → nbit b.intEnable.toNat i = true → (∀ k, s.msiLast v = some k → k + gap ≤ s.coreTicks) →
             t.out = (s.put (.msi v)).out)
         ∧ (∀ k, nbit b.intStatus.toNat i = false → nbit b.intEnable.toNat i = true → s.msiLast v = some k → s.coreTicks < k + gap →
             t.out = s.out ∧ t.host.bar0.msiHeld = b.msiHeld ||| BitVec.ofNat 4 (2 ^ v))
         ∧ t = { s with out := t.out, host := { s.host with bar0 := t.host.bar0 } })

/-- R417, R419, R427, R428, R429: a datagram to an address or under a VLAN that the port does not hold, or to another port than CMD_PORT, does
nothing, a fragment counts in FRAG_DROP, a packet at a
full queue in QUEUE_DROP, any other goes to its session; ARP and ICMP echo are answered for the addresses of the port; the
parts of a command are assembled; a host that sends EVT_PUSH is answered BAD_OPCODE.
R416, R417, R420, R421, R431, R432: what becomes of a packet: without its form, its session, its source, its TAG or its place in
the sequence it is discarded and counted, or answered NO_SESSION; a packet of the 16 most recent is answered again; a new
one waits.
R417, R431: the packets that no session takes. -/
def Obligations.PlantPackets : Prop :=
    (∀ (s : State) (p : PlantIx) (dest : UdpDest) (ip : BitVec 32) (port : BitVec 16) (mf : Bool) (fo : BitVec 13) (bytes data : List Byte)
       (c : CmdCtx) (op : BitVec 16) (fin : Bool),
       let addr := s.parN 0x02100001 p.val
       let count := fun (m : Sparse Nat) => sput (fun _ => 0) m p.val (inc32 (sget (fun _ => 0) m p.val))
       let udp := fun (t : State) => Leaves (.udpDatagram p ⟨dest, ip⟩ port mf fo bytes) s t
       let dst := dest.ip
       let vlan := dest.vlan
       let holds := s.serves = true ∧ addr ≠ 0 ∧ vlan.toNat = s.parN 0x02100004 p.val
         ∧ (dst.toNat = addr ∨ (s.twin.onMove = true ∧ s.parN 0x02100007 p.val ≠ 0 ∧ dst.toNat = s.parN 0x02100007 p.val))
       let whole := holds ∧ mf = false ∧ fo = 0
       let u := s.takeUp c
       let x := u.session c.slot.val
       let flags := replyFlagsOf c + 4 + b2n fin * 8
       let drop := fun (x : Session) => { x with partOp := none, partLen := 0, partData := [] }
       let opened := x.phase = .opened
       (¬ holds → udp s)
       ∧ (holds → mf = true ∨ fo ≠ 0 → udp { s with host := { s.host with fragDrop := count s.host.fragDrop } })
       ∧ (whole → dest.port.toNat ≠ s.parN 0x02100005 p.val → udp s)
       ∧ (whole → dest.port.toNat = s.parN 0x02100005 p.val → 64 ≤ (s.plantQueue p.val).length →
           udp { s with host := { s.host with queueDrop := count s.host.queueDrop } })
       ∧ (whole → dest.port.toNat = s.parN 0x02100005 p.val → (s.plantQueue p.val).length < 64 → udp (s.takePacket (.udp p ip port) bytes))
       ∧ (holds → Leaves (.arpRequest p ⟨vlan, dst⟩) s (s.put (.arpReply p dst))) ∧ (¬ holds → Leaves (.arpRequest p ⟨vlan, dst⟩) s s)
       ∧ (holds → s.parN 0x02100006 p.val = 1 → Leaves (.icmpEcho p ⟨vlan, dst⟩ data) s (s.put (.icmpReply p dst data)))
       ∧ (¬ holds ∨ s.parN 0x02100006 p.val ≠ 1 → Leaves (.icmpEcho p ⟨vlan, dst⟩ data) s s)
       ∧ (opened → x.partOp = none → x.partData = [] → fin = false → data.length ≤ 65535 →
           Leaves (.commandPart c op true fin data) s ((u.modSession c.slot.val (fun x =>
             { x with partOp := some op.toNat, partSeq := c.seq, partLen := data.length, partData := data })).replyRaw c op.toNat flags 1 []))
       ∧ (opened → x.partOp = some op.toNat → c.seq = x.partSeq + 1 → fin = true → (x.partData ++ data).length ≤ 65535 →
           Leaves (.commandPart c op true fin data) s (u.modSession c.slot.val drop))
       ∧ (opened → x.partOp = some op.toNat → c.seq = x.partSeq + 1 → 65535 < (x.partData ++ data).length →
           Leaves (.commandPart c op true fin data) s ((u.modSession c.slot.val drop).replyRaw c op.toNat flags 0x0403 []))
       ∧ (opened → (x.partOp.isSome = true ∧ (x.partOp ≠ some op.toNat ∨ c.seq ≠ x.partSeq + 1)) →
           Leaves (.commandPart c op true fin data) s ((u.modSession c.slot.val drop).replyRaw c op.toNat flags 0x0104 []))
       ∧ ((s.session c.slot.val).phase = .opened → Replies (.evtPush c) s c 0x0100 0x0102 [] s))
    ∧ (∀ (s : State) (slot : SlotIx) (b : List Byte) (r : HeldReply),
         let x := s.session slot.val
         let q := field b 4 2
         let ahead := (q + 65536 - x.lastSeq.toNat) % 65536
         let t := s.sequencePacket slot b
         let live := s.modSession slot.val (fun x => { x with lastTick := s.coreTicks })
         (1 ≤ ahead → ahead ≤ 32768 → t = (s.modSession slot.val (fun x => { x with lastTick := s.coreTicks, lastSeq := BitVec.ofNat 16 q })).admitPacket slot b)
         ∧ (ahead = 0 ∨ 32768 < ahead → x.replies.find? (fun (r : HeldReply) => decide (r.seq.toNat = q)) = some r → t = live.sendTo x.source r.bytes)
         ∧ (ahead = 0 ∨ 32768 < ahead → x.replies.find? (fun (r : HeldReply) => decide (r.seq.toNat = q)) = none →
             t = { live with host := { live.host with replays := inc32 live.host.replays } }))
    ∧ (∀ (s : State) (src : HostSource) (b : List Byte) (slot : SlotIx), s.serves = true →
         let id := field b 8 4
         let x := s.session slot.val
         let form := field b 0 2 = 0x4A51 ∧ 32 ≤ b.length ∧ 32 + field b 6 2 ≤ b.length
         let counted := { s with host := { s.host with tagFail := inc32 s.host.tagFail } }
         let op := field b 2 2
         (¬ form → s.takePacket src b = counted)
         ∧ (form → op ≠ 0x0201 → id % 8 = slot.val → x.phase = .opened → x.id.toNat = id → x.source ≠ src → s.takePacket src b = counted)
         ∧ (form → op ≠ 0x0201 → op ≠ 0x0202 → id % 8 = slot.val → x.phase = .opened → x.id.toNat = id → x.source = src →
             packetTagOk x.key b = false → s.takePacket src b = counted)
         ∧ (form → op ≠ 0x0201 → op ≠ 0x0202 → id % 8 = slot.val → x.phase = .opened → x.id.toNat = id → x.source = src →
             packetTagOk x.key b = true → s.takePacket src b = s.sequencePacket slot b)
         ∧ (form → op ≠ 0x0201 → id % 8 = slot.val → x.phase = .free ∨ x.id.toNat ≠ id → s.takePacket src b = s.sendTo src
             (packet op (BitVec.ofNat 16 (field b 4 2)) (BitVec.ofNat 32 id) (0x8000 + field b 12 2 % 0x8000) [] (be 2 0x0204))))

/-- R441 to R446, R40: PAR_GET answers every value from one state, PAR_INFO the attributes, PAR_SET checks and queues for the
next boundary, where the write of the lowest session lands and is answered DONE, and any other of that object
CONFLICT; a write of a status word is queued like that of a parameter and clears the bits of its mask when it lands.
R444, R450: in what order a parameter write is checked; a value must fit both the values in force and those held for the next Opening
(log 144).
R204, R154, R40: AX_COEF_WRITE and AX_COEF_READ, and the landing of at most four writes of an axis at a boundary, never while a
task of the axis runs. -/
def Obligations.ParameterAccess : Prop :=
    (∀ (s : State) (c : CmdCtx) (ids : List (BitVec 32)) (id : BitVec 32) (item : ParItem) (r : ParamRow) (i : Nat) (v : Int) (st : Nat)
       (w : ParWrite) (ready : List ParWrite) (x : ObjRow) (o : Owner),
       let t := s.takeUp c
       let most := if (t.session c.slot.val).source = .pcie then 13 else 89
       let get := fun (st : Nat) (d : List Byte) (u : State) => Replies (.parGet c ids) s c 0x0301 st d u
       let set := Takes s c 0x0302 3 (parExpert item) true true
       let waits := fun (id : Nat) (v : Int) => { t with host := { t.host with
         parQueue := t.host.parQueue ++ [{ ctx := c, id := id, value := v, cycle := s.cyc.cycle }] } }
       let queued := fun (v : Int) => waits item.id.toNat v
       let first := ∀ v ∈ ready, v.cycle = w.cycle → v.id = w.id → w.ctx.slot ≤ v.ctx.slot
       (Reads s c 0x0301 1 → 1 ≤ ids.length → ids.length ≤ most → (∀ j ∈ ids, (objOf j.toNat).isSome = true) →
         get 0 (ids.flatMap (fun j => t.item j.toNat)) (ids.foldl (fun (u : State) j => (objOf j.toNat).elim u u.afterRead) t))
       ∧ (Reads s c 0x0301 1 → 1 ≤ ids.length → ids.length ≤ most → (∃ j ∈ ids, objOf j.toNat = none) → get 0x0106 [] t)
       ∧ (Reads s c 0x0301 1 → ids = [] ∨ most < ids.length → get 0x0101 [] t)
       ∧ (Reads s c 0x0303 1 → paramFind id.toNat = some (r, i) → Replies (.parInfo c id) s c 0x0303 0 (be 1 r.format ++ be 1 (b2n r.expert)
           ++ be 1 (b2n r.live) ++ [0] ++ beI 12 r.lo ++ beI 12 r.hi ++ beI 12 (paramDefault id.toNat)) t)
       ∧ (Reads s c 0x0303 1 → paramFind id.toNat = none → Replies (.parInfo c id) s c 0x0303 0x0106 [] t)
       ∧ (set → t.parCheck item = .error st → Replies (.parSet c item) s c 0x0302 st [] t)
       ∧ (set → t.parCheck item = .ok v → Leaves (.parSet c item) s (queued v))
       ∧ (set → objOf item.id.toNat = some (.word x i) → x.w1c ≠ 0 → Leaves (.statusW1cWrite c item) s (queued (item.value.toNat % 4294967296 : Nat)))
       ∧ (set → objOf item.id.toNat = some (.word x i) → x.w1c = 0 → Replies (.statusW1cWrite c item) s c 0x0302 0x0107 [] t)
       ∧ (set → objOf item.id.toNat = some (.param r i) → Replies (.statusW1cWrite c item) s c 0x0302 0x0107 [] t)
       ∧ (Acts s c 0x0302 3 → Leaves (.switchBackRequest c) s (waits 0x041101D8 0x10000000)
           ∧ Leaves (.disagreeClear c) s (waits 0x041101D8 0x20000000) ∧ Leaves (.puClear c o) s (waits (0x04000180 + ownerInst o * 4096) 0x10000000))
       ∧ s.w1c 0x041101D8 i st = s.lineW1c st ∧ s.w1c 0x04000180 i st = s.fbW1c (ownerAt i) st
       ∧ (s.host.parQueue = ready → (∀ v ∈ ready, s.boundaryPast v.cycle = true) → Leaves .parameterWriteLand s
           (ready.foldl (State.landOne ready) { s with host := { s.host with parQueue := [] } }))
       ∧ (first → s.landStatus w.id w.value = 0 → State.landOne ready s w = (s.landWrite w.id w.value).replyLater w.ctx 0x0302 0 [])
       ∧ (first → s.landStatus w.id w.value = st → st ≠ 0 → State.landOne ready s w = s.replyLater w.ctx 0x0302 st [])
       ∧ (objOf w.id = some (.param r i) → s.landStatus w.id w.value = (s.writeStatus r i w.value).getD 0)
       ∧ (objOf w.id = some (.word x i) → s.landStatus w.id w.value = 0 ∧ s.landWrite w.id w.value = s.w1c x.base i (w.value.toNat &&& x.w1c))
       ∧ (¬ first → State.landOne ready s w = s.replyLater w.ctx 0x0302 0x0310 []))
    ∧ (∀ (s : State) (item : ParItem) (r : ParamRow) (i : Nat), objOf item.id.toNat = some (.param r i) →
         let v := itemValue r.format item.value
         let next := s.planned.setPar (r.base + i * 4096) v
         let now := if heldForOpening r = true then next else s.setPar (r.base + i * 4096) v
         let fits := now.joined r.base i = true ∧ next.joined r.base i = true
         let err := fun (st : Nat) => s.parCheck item = .error st
         let named := r.base = 0x0A100001 → probeOk v.toNat = true
         (r.admits v = false → err 0x0105)
         ∧ (r.admits v = true → ¬ named → err 0x0106)
         ∧ (r.admits v = true → named → isSafetyId r.base = true → err 0x0504)
         ∧ (r.admits v = true → named → isSafetyId r.base = false → ¬ fits → err 0x0108)
         ∧ (r.admits v = true → named → isSafetyId r.base = false → fits → r.live = false → s.stopped r.base i = false → err 0x0302)
         ∧ (r.admits v = true → named → isSafetyId r.base = false → fits → (r.live = true ∨ s.stopped r.base i = true) →
             now.writeState r.base i = none → now.writeRoom r.base i = none → next.writeRoom r.base i = none → s.parCheck item = .ok v))
    ∧ (∀ (s : State) (c : CmdCtx) (axis off : BitVec 16) (v : Word48) (n : BitVec 8) (a : AxisIx) (w : CoefWrite) (q : List CoefWrite), axis.toNat < 256 →
         let t := s.takeUp c
         let k := axis.toNat
         let acc := coefAccess off.toNat
         let may := Takes s c 0x0407 3 (decide (acc = 3)) true true
         let write := fun (st : Nat) => Replies (.axCoefWrite c axis off v) s c 0x0407 st [] t
         let full := 16 ≤ (t.axis k).law.coefQ.length
         let dis := acc = 1 → t.axState k = .disabled
         let bad := acc = 0 ∨ (off = 0x73 ∧ v.toInt < 0)
         let busy := s.axisBusy a.val = true
         let settled := ¬ busy ∧ (s.axis a.val).law.tableNext = none
         let fits := 1 ≤ n.toNat ∧ n.toNat ≤ 32 ∧ off.toNat + n.toNat ≤ 0x400
         (may → bad → write 0x0105) ∧ (may → ¬ bad → ¬ dis → write 0x0301) ∧ (may → ¬ bad → dis → full → write 0x0404)
         ∧ (may → ¬ bad → dis → ¬ full → Leaves (.axCoefWrite c axis off v) s (t.modLaw k (fun l =>
             { l with coefQ := insertCoef ⟨c, off.toNat, v, s.cyc.cycle⟩ l.coefQ })))
         ∧ (Reads s c 0x040A 1 → fits → Replies (.axCoefRead c axis off n) s c 0x040A 0
             ((List.range n.toNat).flatMap (fun i => be 6 (t.readCtx k (off.toNat + i)).toNat)) t)
         ∧ (Reads s c 0x040A 1 → ¬ fits → Replies (.axCoefRead c axis off n) s c 0x040A 0x0105 [] t)
         ∧ (busy → Leaves (.coefWriteLand a) s s) ∧ (settled → (s.axis a.val).law.coefQ = [] → Leaves (.coefWriteLand a) s s)
         ∧ (settled → (s.axis a.val).law.coefLanded ≠ some s.cyc.cycle → (s.axis a.val).law.coefQ = w :: q → s.boundaryPast w.cycle = true →
             (∀ x ∈ q.head?, s.boundaryPast x.cycle = false) → Leaves (.coefWriteLand a) s
               (((s.modLaw a.val (fun l => { l with coefQ := q, coefLanded := some s.cyc.cycle })).setCtx a.val w.offset (hostWord w.offset w.value).toInt).replyLater w.ctx 0x0407 0 [])))

/-- R184 to R186, R43, R191, R482, Table LAW-3: AX_ENABLE, AX_DISABLE, AX_FAULT_RESET and AX_PARK.  An enable that finds nothing to do
waits for its boundary, and a disable leaves an enable of its own boundary (log 163).
R185, R299, R450: the cases that refuse an enable of a DISABLED axis, in the order of R450, and no other. -/
def Obligations.AxisEnableCommands : Prop :=
    (∀ (s : State) (c : CmdCtx) (axis : BitVec 16) (on : BitVec 8), axis.toNat < 256 →
       let t := s.takeUp c
       let a := axis.toNat
       let st := t.axState a
       let l := (t.axis a).life
       let enable := fun (st : Nat) (u : State) => Acts s c 0x0401 2 → Replies (.axEnable c axis) s c 0x0401 st [] u
       let disable := fun (u : State) => Acts s c 0x0402 2 → Replies (.axDisable c axis) s c 0x0402 0 [] u
       let reset := fun (st : Nat) (u : State) => Acts s c 0x0403 2 → Replies (.axFaultReset c axis) s c 0x0403 st [] u
       let park := fun (st : Nat) (u : State) => Acts s c 0x0408 3 → Replies (.axPark c axis on) s c 0x0408 st [] u
       let free := l.held = none
       let stands := t.enableStands a = true
       let may := l.state = .fault ∧ (l.stoPath = true ∨ l.reactDone = true) ∧ (t.axis a).fbk.torqueOn = false ∧ t.causeGone a = true
       (st = .enabling ∨ st = .ready ∨ st = .running → free → Acts s c 0x0401 2 → Leaves (.axEnable c axis) s
           (t.modLife a (fun l => { l with enableWait := l.enableWait ++ [(c, s.cyc.cycle)] })))
       ∧ (st = .stopping ∨ st = .torqueOff → free → enable 2 ((t.modLife a (fun l => { l with held := some c })).noteEnable a))
       ∧ (¬ free → enable 2 (t.noteEnable a) ∧ ((t.noteEnable a).axis a).life.held = l.held)
       ∧ (st = .disabled ∨ st = .fault → free → ∀ k, t.enableRefusal a = some k → enable k t)
       ∧ (st = .disabled ∨ st = .fault → free → t.enableRefusal a = none → enable 1 ((t.modLife a (fun l => { l with
           state := AxState.enabling, init := true, firstBrake := none, brakeTick := none, stoPath := false, stopKind := 0, stopDec := 0,
           reactDone := false, enteredTick := s.coreTicks, confirm := 0, enableCtx := some c })).noteEnable a))
       ∧ (stands → disable t) ∧ (¬ stands → st = .enabling → disable (t.torqueOffSto a))
       ∧ (¬ stands → st = .ready ∨ st = .running → disable (t.startStop a 1 2 (t.par 0x04000137 a)))
       ∧ (¬ stands → st = .stopping ∨ st = .torqueOff ∨ st = .disabled ∨ st = .fault → disable (t.dropHeld a))
       ∧ (stands ↔ s.cyc.running = true ∧ l.enabledAt = some s.cyc.cycle)
       ∧ (¬ may → reset 0x0301 t)
       ∧ (may → l.cause ≠ 8 → reset 0 (t.modLife a (fun l => { l with
           state := AxState.disabled, cause := 0, stopKind := 0, stopDec := 0, stoPath := false,
           reactDone := false, brakeTick := none, firstBrake := none, enteredTick := s.coreTicks })))
       ∧ (1 < on.toNat → park 0x0105 t) ∧ (on.toNat ≤ 1 → st ≠ .disabled → park 0x0301 t)
       ∧ (on.toNat ≤ 1 → st = .disabled → park 0 (t.modLife a (fun l => { l with parked := decide (on = 1) }))))
    ∧ (∀ (s : State) (a : Nat), s.axState a = .disabled →
         let l := (s.axis a).life
         let sf := s.parN 0x04000130 a = 1 ∧ s.isStepper a = false
         let comb := sf ∧ s.parN 0x04000134 a = 1 ∧ s.ctx a 0x70 ≠ s.ctx a (0x68 + s.parN 0x04000132 a)
         let state := l.parked = true ∨ s.groupRead a = false ∨ s.sourceOk a = false ∨ (sf ∧ s.parN 0x04000133 a ≠ s.span a)
         let params := s.saf.p.paramOk = false ∨ s.saf.h.paramOk = false
         let group := s.groupState (s.parN 0x08200001 a) ≠ 0
         s.enableRefusal a = if comb then some 0x0108 else if state then some 0x0301 else if params then some 0x0504 else if group then some 0x0501 else none)

/-- R184, R187, R188, R189, R207, Table LAW-3, Table LAW-5: what time and the node's reports do to an axis.
R189, R190, Table LAW-5: a fault takes the axis to FAULT with its cause and raises the event; in FAULT a further fault changes nothing,
but that an STO reaction takes a quick stop to the STO path; a
fault with an STO reaction takes the STO path, and one of a DISABLED axis has no reaction left.
R43, R191: the AX_ENABLEs of the boundary that found nothing to do are answered (log 163); then a held enable executes when its condition ends: an axis that is DISABLED again enables or is refused with its status in
the event, and an output whose thermal wait and demagnetisation have ended is commanded on. -/
def Obligations.AxisTransitions : Prop :=
    (∀ (s : State) (a : AxisIx) (k : Nat),
       let x := s.axis a.val
       let l := x.life
       let ms := fun (id : Nat) => s.parN id a.val * 1000000
       let goes := fun (i : Instr) (f : Life → Life) => Leaves i s (s.modLife a.val f)
       let stop := s.parN 0x0400013A a.val ≤ l.confirm
       let braking := fun (st : AxState) (l : Life) => { l with state := st, brakeTick := some s.coreTicks, enteredTick := s.coreTicks, confirm := 0 }
       (l.state = .enabling → x.fbk.ready = true → x.fbk.torqueOn = true → l.firstBrake = some k → s.tCycle k + (ms 0x0400013B : Nat) ≤ s.now →
         Leaves (.enableComplete a) s
           ((s.modLife a.val (fun l => { l with state := AxState.ready, enteredTick := s.coreTicks, confirm := 0 })).finishEnable a.val 0))
       ∧ (l.state ≠ .enabling ∨ x.fbk.ready = false ∨ x.fbk.torqueOn = false ∨ l.firstBrake = none → Leaves (.enableComplete a) s s)
       ∧ (l.state = .enabling ∨ l.state = .torqueOff → l.enteredTick + ms 0x0400013C ≤ s.coreTicks → Leaves (.enTimeout a) s (s.axisFault a.val 1))
       ∧ (stop → l.state = .stopping → l.stopKind ≠ 3 → goes (.stopConfirm a) (braking .torqueOff))
       ∧ (stop → l.state = .fault → l.stoPath = false → l.reactDone = false → l.brakeTick = none → goes (.stopConfirm a) (braking .fault))
       ∧ (¬ stop → Leaves (.stopConfirm a) s s)
       ∧ (l.brakeTick = some k → l.stoPath = false → l.state = .torqueOff ∨ l.state = .fault → k + ms 0x0400013B ≤ s.coreTicks →
           goes (.brakeTElapsed a) (fun l => { l with stoPath := true }))
       ∧ (l.state ≠ .disabled → l.state ≠ .fault → s.parN 0x0400013F a.val < l.holdRun → Leaves (.holdMax a) s (s.axisFault a.val 6))
       ∧ (l.state ≠ .disabled → l.state ≠ .fault → l.parked = false → s.parN 0x04000135 a.val < x.obs.age →
           Leaves (.ageFault a) s (s.axisFault a.val 2))
       ∧ (l.parked = true → Leaves (.ageFault a) s s))
    ∧ (∀ (s : State) (a cause : Nat), a < 256 →
         let t := s.axisFault a cause
         let l := (t.axis a).life
         let l0 := (s.axis a).life
         let harder := s.reactionSto a cause = true ∧ l0.stoPath = false ∧ l0.reactDone = false
         (s.axState a = .fault → ¬ harder → t = s) ∧ (s.axState a = .fault → harder → t = s.stoPath a)
         ∧ (s.axState a ≠ .fault → l.state = .fault ∧ l.cause = cause ∧ l.enteredTick = s.coreTicks ∧ l.confirm = 0 ∧ l.direct = false ∧ l.held = none)
         ∧ (s.axState a = .disabled → l.reactDone = true ∧ l.stoPath = true)
         ∧ (s.axState a ≠ .fault → s.axState a ≠ .disabled → s.reactionSto a cause = true → l.stoPath = true)
         ∧ (s.axState a ≠ .fault → s.host.gathered = none → ∃ e rest, t.host.history = e :: rest ∧ e.code = 0x0401 ∧ e.inst = a ∧ e.data = [BitVec.ofNat 8 cause]))
    ∧ (∀ (s : State) (a : AxisIx) (j : FqIx) (c : CmdCtx),
         let u := s.answerEnables a.val
         let bare := s.modLife a.val (fun l => { l with enableWait := [] })
         let dropped := u.modLife a.val (fun l => { l with held := none })
         ((u.axis a.val).life.held = none → Leaves (.heldEnableExecute (.axis a)) s u)
         ∧ ((u.axis a.val).life.held = some c → u.axState a.val ≠ .disabled → Leaves (.heldEnableExecute (.axis a)) s u)
         ∧ ((s.axis a.val).life.enableWait = [] → u = bare)
         ∧ (∀ k, (s.axis a.val).life.enableWait = [(c, k)] → s.boundaryPast k = true →
             (s.axState a.val = .enabling ∨ s.axState a.val = .ready ∨ s.axState a.val = .running → u = bare.replyLater c 0x0401 0 [])
             ∧ (s.axState a.val = .stopping ∨ s.axState a.val = .torqueOff → (s.axis a.val).life.held = none →
                 u = (bare.modLife a.val (fun l => { l with held := some c })).replyLater c 0x0401 2 []))
         ∧ ((u.axis a.val).life.held = some c → u.axState a.val = .disabled → dropped.enableRefusal a.val = none →
             Leaves (.heldEnableExecute (.axis a)) s ((dropped.beginEnable a.val none).heldOutcome c 0x0401 a.val 0 0))
         ∧ (∀ k, (u.axis a.val).life.held = some c → u.axState a.val = .disabled → dropped.enableRefusal a.val = some k →
             Leaves (.heldEnableExecute (.axis a)) s (dropped.heldOutcome c 0x0401 a.val 1 k))
         ∧ (s.heldOut j.val = some c → (s.fq j.val).therm = false → (s.fq j.val).demag = false → (s.setHeldOut j.val none).fqLatched j.val = false →
             (s.setHeldOut j.val none).safetyOut j.val = false →
             Leaves (.heldEnableExecute (.output j)) s (((s.setHeldOut j.val none).setCmd j.val true).heldOutcome c 0x0D01 j.val 0 0))
         ∧ (s.heldOut j.val = some c → (s.fq j.val).therm = true ∨ (s.fq j.val).demag = true → Leaves (.heldEnableExecute (.output j)) s s))

/-- R216, R217, R219 to R223, R230, R283, R450: AX_MOVE_ABS, AX_HALT, AX_HOME, PRO_START and PRO_CONTINUE: what refuses them, and that an
accepted motion asks the arbiter for its start. -/
def Obligations.MotionCommands : Prop :=
  ∀ (s : State) (c : CmdCtx) (axis first : BitVec 16) (target vm am dm jm dec : Word48) (dir mode : BitVec 8) (k : Nat), axis.toNat < 256 →
    let t := s.takeUp c
    let a := axis.toNat
    let busy := (t.reqOwner a).isSome = true
    let kind : ReqKind := .basic target.toInt vm.toInt am.toInt dm.toInt jm.toNat
    let from_ := t.startRef a t.cyc.cycle kind
    let short := (t.basicPlan a from_ target.toInt vm.toInt am.toInt dm.toInt jm.toNat).length ≤ 8
    let there := t.axState a = .ready ∧ smod 48 (target.toInt + (t.axis a).prof.homeZero - from_.r) = 0
    let limits := 0 < vm.toInt ∧ 0 < am.toInt ∧ 0 < dm.toInt ∧ vm.toInt ≤ t.par 0x04000161 a ∧ am.toInt ≤ t.par 0x04000162 a ∧ dm.toInt ≤ t.par 0x04000162 a
    let move := fun (st : Nat) => Replies (.axMoveAbs c axis target vm am dm jm) s c 0x0404 st [] t
    let asked := fun (i : Instr) (op : Nat) (kind : ReqKind) =>
      let q := t.makeRequest a kind (some c) none
      let never := t.beyondBudget q.group (t.reqCost a t.cyc.cycle kind [])
      (never = true → Replies i s c op 0x0408 [] t) ∧ (never = false → Replies i s c op 1 [] (t.modAxis a (fun x => { x with req := some q })))
    let halt := fun (st : Nat) (u : State) => Acts s c 0x0405 2 → Replies (.axHalt c axis dec) s c 0x0405 st [] u
    let home := fun (st : Nat) => Replies (.axHome c axis dir) s c 0x0406 st [] t
    let homes := t.isStepper a = true ∧ t.axState a = .ready ∧ t.parN 0x04000101 a ≠ 0xFF ∧ (∀ n, t.localPort a = some n → t.parN 0x04200005 n = 1)
    let start := fun (st : Nat) => Replies (.proStart c axis first mode) s c 0x0502 st [] t
    let more := fun (st : Nat) => Acts s c 0x0504 2 → Replies (.proContinue c axis) s c 0x0504 st [] t
    let next := (t.segAt (t.axis a).prof.seg).next
    (Acts s c 0x0404 2 → ¬ limits → move 0x0105)
    ∧ (Acts s c 0x0404 2 → limits → t.canMove a = false → move 0x0301)
    ∧ (Acts s c 0x0404 2 → limits → t.canMove a = true → ¬ short → move 0x0105)
    ∧ (Acts s c 0x0404 2 → limits → t.canMove a = true → short → busy → move 0x0303)
    ∧ (Acts s c 0x0404 2 → limits → t.canMove a = true → short → ¬ busy → t.curveBlocked a t.cyc.cycle kind = true → move 0x0301)
    ∧ (Acts s c 0x0404 2 → limits → t.canMove a = true → short → ¬ busy → t.curveBlocked a t.cyc.cycle kind = false → there → move 0)
    ∧ (Acts s c 0x0404 2 → limits → t.canMove a = true → short → ¬ busy → t.curveBlocked a t.cyc.cycle kind = false → ¬ there →
        asked (.axMoveAbs c axis target vm am dm jm) 0x0404 kind)
    ∧ (dec.toInt < 0 → halt 0x0105 t) ∧ (0 ≤ dec.toInt → t.axState a ≠ .running → halt 0x0301 t)
    ∧ (0 ≤ dec.toInt → t.axState a = .running → halt 0 ((t.planStop a 0 (if dec = 0 then t.par 0x04000137 a else dec.toInt)).modLife a
        (fun l => { l with stopKind := 0, stopDec := 0, direct := false })))
    ∧ (Acts s c 0x0406 2 → 1 < dir.toNat → home 0x0105)
    ∧ (Acts s c 0x0406 2 → dir.toNat ≤ 1 → t.isStepper a = false ∨ t.axState a ≠ .ready → home 0x0301)
    ∧ (Acts s c 0x0406 2 → dir.toNat ≤ 1 → homes → busy → home 0x0303)
    ∧ (Acts s c 0x0406 2 → dir.toNat ≤ 1 → homes → ¬ busy → asked (.axHome c axis dir) 0x0406 (.home (decide (dir = 0))))
    ∧ (Acts s c 0x0502 2 → 1 < mode.toNat → start 0x0105)
    ∧ (Acts s c 0x0502 2 → mode.toNat ≤ 1 → t.segRefusal first.toNat = some k → start k)
    ∧ (Acts s c 0x0502 2 → mode.toNat ≤ 1 → t.segRefusal first.toNat = none → t.canMove a = false → start 0x0301)
    ∧ (Acts s c 0x0502 2 → mode.toNat ≤ 1 → t.segRefusal first.toNat = none → t.canMove a = true → busy → start 0x0303)
    ∧ (Acts s c 0x0502 2 → mode.toNat ≤ 1 → t.segRefusal first.toNat = none → t.canMove a = true → ¬ busy →
        asked (.proStart c axis first mode) 0x0502 (.profile first.toNat (decide (mode = 1))))
    ∧ (t.isWaiting a = false → more 0x0301) ∧ (t.isWaiting a = true → t.segRefusal next = some k → more k)
    ∧ (t.isWaiting a = true → t.segRefusal next = none → busy → more 0x0303)
    ∧ (Acts s c 0x0504 2 → t.isWaiting a = true → t.segRefusal next = none → ¬ busy → asked (.proContinue c axis) 0x0504 .resume)

/-- R218, R222, R40, R10: PRO_SEG_WRITE and PRO_SEG_READ, and the landing of the segments at a boundary, whose reserved bits read as 0.
R226 to R229: PRO_GROUP_LINEAR: the members and the limits it needs, and that all its members ask for one start. -/
def Obligations.SegmentsAndGroups : Prop :=
    (∀ (s : State) (c : CmdCtx) (first : BitVec 16) (segs : List PvtSeg) (n : BitVec 8) (w : SegWrite),
       let t := s.takeUp c
       let k := segs.length
       let write := fun (st : Nat) => Acts s c 0x0501 2 → Replies (.proSegWrite c first segs) s c 0x0501 st [] t
       let bad := fun (g : PvtSeg) => (pvtVal g).dur < t.period ∨ (((pvtVal g).next = 0xFFFF ∨ (pvtVal g).hold = true) ∧ (pvtVal g).vEnd ≠ 0)
       let used := ∃ a i, a < 256 ∧ i < k ∧ (t.axis a).prof.running = true
         ∧ (first.toNat + i = (t.axis a).prof.seg ∨ first.toNat + i = (t.segAt (t.axis a).prof.seg).next)
       let form := 1 ≤ k ∧ k ≤ 9
       let fits := first.toNat + k ≤ 0xF000
       let rd := 1 ≤ n.toNat ∧ n.toNat ≤ 9 ∧ first.toNat + n.toNat ≤ 65536
       (¬ form → write 0x0101) ∧ (form → ¬ fits ∨ (∃ g ∈ segs, bad g) → write 0x0105)
       ∧ (form → fits → (∀ g ∈ segs, ¬ bad g) → used → write 0x0301)
       ∧ (form → fits → (∀ g ∈ segs, ¬ bad g) → ¬ used → Acts s c 0x0501 2 → Leaves (.proSegWrite c first segs) s
           { t with eng := { t.eng with segWaiting := t.eng.segWaiting ++ [⟨c, first.toNat, segs, s.cyc.cycle⟩] } })
       ∧ (Reads s c 0x0505 1 → rd → Replies (.proSegRead c first n) s c 0x0505 0 ((List.range n.toNat).flatMap (fun i =>
           let g := t.pvtAt (first.toNat + i)
           be 6 g.w0.toNat ++ be 6 g.w1.toNat ++ be 6 g.w2.toNat ++ be 6 g.w3.toNat)) t)
       ∧ (Reads s c 0x0505 1 → ¬ rd → Replies (.proSegRead c first n) s c 0x0505 0x0105 [] t)
       ∧ (s.eng.segWaiting = [] → Leaves .segmentWriteLand s { s with eng := { s.eng with segWaiting := [] } })
       ∧ (s.eng.segWaiting = [w] → s.boundaryPast w.cycle = true → w.first + w.segs.length ≤ 0xF000 → ∃ u, exec .segmentWriteLand s = .next u
           ∧ u.eng.segWaiting = [] ∧ (∀ i, i < w.segs.length → u.segIsWritten (w.first + i) = true)
           ∧ ∀ i g, w.segs[i]? = some g → u.pvtAt (w.first + i) = keptSeg g))
    ∧ (∀ (s : State) (c : CmdCtx) (group : BitVec 8) (f am dp j : Word48) (targets : List (BitVec 16 × Word48)),
         let t := s.takeUp c
         let mem := t.members group.toNat
         let tgt := fun (x : Nat) => (targets.find? (fun (t : BitVec 16 × Word48) => decide (t.1.toNat = x))).map (fun t => t.2.toInt)
         let good := group.toNat < 32 ∧ 0 < f.toInt ∧ 0 < am.toInt ∧ 0 < dp.toInt ∧ targets.length = mem.length ∧ mem ≠ []
           ∧ ∀ x ∈ mem, (tgt x).isSome = true
         let ms := mem.map (fun x => (x, smod 48 ((tgt x).getD 0 + (t.axis x).prof.homeZero - (t.axis x).prof.r)))
         let shape := t.groupShape ms f.toInt am.toInt dp.toInt j.toNat
         let lead := mem.headD 0
         let short := ∀ m ∈ ms, (memberPieces (t.axis m.1).prof.r m.2 shape).length ≤ 8
         let kind : ReqKind := .group group.toNat ms f.toInt am.toInt dp.toInt j.toNat
         let q := t.makeRequest lead kind (some c) none
         let one := ∀ x ∈ mem, t.parN 0x040001C3 x = t.parN 0x040001C3 lead
         let ans := fun (st : Nat) (u : State) => Acts s c 0x0503 2 → Replies (.proGroupLinear c group f am dp j targets) s c 0x0503 st [] u
         (¬ good → ans 0x0105 t) ∧ (good → (∃ x ∈ mem, t.axState x ≠ .ready) → ans 0x0301 t)
         ∧ (good → (∀ x ∈ mem, t.axState x = .ready) → (∀ m ∈ ms, m.2 = 0) → ans 0 t)
         ∧ (good → (∀ x ∈ mem, t.axState x = .ready) → (∃ m ∈ ms, m.2 ≠ 0) → ¬ short → ans 0x0105 t)
         ∧ (good → (∀ x ∈ mem, t.axState x = .ready) → (∃ m ∈ ms, m.2 ≠ 0) → short → (∃ x ∈ mem, (t.reqOwner x).isSome = true) → ans 0x0303 t)
         ∧ (good → (∀ x ∈ mem, t.axState x = .ready) → (∃ m ∈ ms, m.2 ≠ 0) → short → (∀ x ∈ mem, t.reqOwner x = none) → ¬ one → ans 0x0408 t)
         ∧ (good → (∀ x ∈ mem, t.axState x = .ready) → (∃ m ∈ ms, m.2 ≠ 0) → short → (∀ x ∈ mem, t.reqOwner x = none) → one →
             t.beyondBudget q.group (t.reqCost lead t.cyc.cycle kind []) = false → ans 1 (t.modAxis lead (fun x => { x with req := some q }))))

/-- R483, R237, R238: AX_DIRECT, the references it places, the end of a direct motion whose references do not come, and the
stages of homing. -/
def Obligations.DirectAndHoming : Prop :=
  ∀ (s : State) (c : CmdCtx) (axis : BitVec 16) (op : BitVec 8) (r : DirectRef) (a : AxisIx), axis.toNat < 256 →
    let t := s.takeUp c
    let k := axis.toNat
    let x := t.axis k
    let direct := fun (refs : List DirectRef) (st : Nat) (u : State) => ActsExpert s c 0x0409 3 → Replies (.axDirect c axis op refs) s c 0x0409 st [] u
    let halt := fun (u : State) (b : Nat) (dec : Int) => (u.planStop b 0 dec).modLife b (fun l => { l with stopKind := 0, stopDec := 0, direct := false })
    let n := t.rebuildApply r.apply.toNat
    let p := (s.axis a.val).prof
    let stall := smod 48 (s.encPos a.val + p.stepOfs)
    let ofs : Int := (s.parN 0x0400016E a.val * 65536 : Nat)
    (2 < op.toNat → direct [] 0x0105 t) ∧ (op = 1 → x.life.state ≠ .ready → direct [] 0x0301 t)
    ∧ (op = 1 → x.life.state = .ready → direct [] 0 ((t.modLife k (fun l => { l with state := .running, direct := true })).modProf k (fun p =>
        { p with direct := [], directLast := some (p.r, 0), directMiss := 0, ended := false })))
    ∧ (op = 0 → x.life.direct = false → direct [] 0x0301 t) ∧ (op = 0 → x.life.direct = true → direct [] 0 (halt t k (t.par 0x04000137 k)))
    ∧ (op = 2 → x.life.direct = true → t.cyc.cycle + 2 + t.span k ≤ n →
        direct [r] 0 (t.modProf k (fun p => { p with direct := sput (fun _ => none) p.direct n (some (r.r.toInt, r.v.toInt)) })))
    ∧ (op = 2 → x.life.direct = true → n < t.cyc.cycle + 2 + t.span k → direct [r] 0 (t.modProf k (fun p => { p with directLate := inc32 p.directLate })))
    ∧ ((s.axis a.val).life.direct = true → s.parN 0x040001E0 a.val ≤ p.directMiss → Leaves (.directMiss a) s (halt s a.val (s.par 0x04000138 a.val)))
    ∧ ((s.axis a.val).life.direct = false ∨ p.directMiss < s.parN 0x040001E0 a.val → Leaves (.directMiss a) s s)
    ∧ (p.homing = .stopping → Leaves (.stallDetect a) s (s.modProf a.val (fun p =>
        { p with pStall := stall, homeZero := smod 48 (if p.homePos then stall - ofs else stall + ofs), homing := .backOff })))
    ∧ (p.homing ≠ .stopping → Leaves (.stallDetect a) s s)
    ∧ (p.homing = .search → p.homeTravel ≤ (smod 48 (p.r - p.r0)).natAbs → ∃ u, exec (.homeFail a) s = .next u
        ∧ (u.axis a.val).prof.homing = .none ∧ (u.axis a.val).prof.homeFail = true ∧ (s.host.gathered = none → ∃ e rest, u.host.history = e :: rest ∧ e.code = 0x0404))
    ∧ (p.homing = .backOff → p.r = p.homeZero → p.v = 0 → ∃ u, exec (.homingComplete a) s = .next u ∧ (u.axis a.val).prof.homing = .none
        ∧ (u.axis a.val).prof.homed = true)

/-- R232, R233, R235, R236: the local step ports: a driver fault that has held for 1 µs faults the axis, the torque is on after the driver's delay, and
the step generator runs every 5 ns. -/
def Obligations.StepPorts : Prop :=
  ∀ (s : State) (n : StIx) (level : Bool) (held a k : Nat),
    let p := s.stepPort n.val
    let active := decide (level = nbit (s.parN 0x04200004 n.val) 3)
    let q := p.tick s.coreTicks (s.parN 0x04200002 n.val) (s.parN 0x04200003 n.val) (s.parN 0x04000166 a) s.period
    let flt := s.modStep n.val (fun p => { p with flt := active })
    (held < 1000 → Leaves (.stnFlt n ⟨level, held⟩) s s) ∧ (1000 ≤ held → s.portAxis n.val = none → Leaves (.stnFlt n ⟨level, held⟩) s flt)
    ∧ (1000 ≤ held → s.portAxis n.val = some a → active = true → Leaves (.stnFlt n ⟨level, held⟩) s ((flt.localDrive a).axisFault a 4))
    ∧ (1000 ≤ held → s.portAxis n.val = some a → active = false → Leaves (.stnFlt n ⟨level, held⟩) s (flt.localDrive a))
    ∧ (p.en = true → p.torqueOn = false → p.enTick = some k → k + s.parN 0x04200006 n.val * 1000000 ≤ s.coreTicks →
        Leaves (.stEnDelayElapsed n) s (s.modStep n.val (fun p => { p with torqueOn := true })))
    ∧ (p.en = false ∨ p.torqueOn = true ∨ p.enTick = none → Leaves (.stEnDelayElapsed n) s s)
    ∧ (p.driven = true → s.coreTicks % 5 = 0 → s.portAxis n.val = some a → Leaves (.stepGeneratorTick n) s
        ((s.putStep n.val q.1).modProf a (fun x => { x with dirAdj := x.dirAdj || q.2 })))
    ∧ (p.driven = false ∨ s.coreTicks % 5 ≠ 0 → Leaves (.stepGeneratorTick n) s s)
    ∧ (p.driven = false → ((s.putStep n.val p).stepPort n.val).pins = none)

/-- R247 to R249, R447, R448, R450 to R452: MOV_ADD checks each entry on its own and answers one status per entry at the boundary where the
accepted entries land together; MOV_DELETE and MOV_CLEAR leave COMMITTED entries; MOV_RESUME arms the HELD entries whose
groups are NORMAL; MOV_READ gives an entry with its state.
R248, R40: the status of an entry, and that a list of 4096 takes no more.
R27, R264, R244, R246, Table RUN-2: the pass of the move list follows the line master's task once a cycle; a capture is
reported once the task of its sample has run; an act record that stays away counts in FLUSH_LOST; the line master
disagrees, is lost, and is valid again. -/
def Obligations.MoveList : Prop :=
    (∀ (s : State) (c : CmdCtx) (entries : List MoveEntry) (seq : BitVec 32) (grp : BitVec 8) (x : MoveItem) (w : MovWait),
       let t := s.takeUp c
       let most := if (t.session c.slot.val).source = .pcie then 6 else 44
       let form := 1 ≤ entries.length ∧ entries.length ≤ most
       let rs := t.moveStatuses t.seqsTaken entries
       let sts := rs.map (·.2)
       let ok := (rs.filter (fun r => decide (r.2 = 0))).map (fun r => newItem r.1)
       let drop := fun (s : State) (x : MoveItem) => (if x.state = .dispatched then s.cancelMove x else s).freeMove x.seqN
       let hit := t.moves.items.filter (fun x => (decide (grp = 0xFE) || decide (x.e.grp = grp)) && decide (x.state ≠ .committed))
       let named := ¬ (31 < grp.toNat ∧ grp.toNat < 0xFE)
       let ready := t.moves.items.filter (fun x => decide (x.state = .held) && (decide (x.e.grp = 0xFF) || decide (t.groupState x.e.grp.toNat = 0))
         && (decide (x.act ≠ actStart) || decide (t.groupState (t.parN 0x08200001 x.e.axis.toNat) = 0)))
       let del := fun (st : Nat) (u : State) => Acts s c 0x0602 2 → Replies (.movDelete c seq) s c 0x0602 st [] u
       let clear := fun (st : Nat) (d : List Byte) (u : State) => Acts s c 0x0603 2 → Replies (.movClear c grp) s c 0x0603 st d u
       (Acts s c 0x0601 2 → ¬ form → Replies (.movAdd c entries) s c 0x0601 0x0101 [] t)
       ∧ (Acts s c 0x0601 2 → form → ok = [] → Replies (.movAdd c entries) s c 0x0601 (firstRefusal sts) (sts.flatMap (be 2)) t)
       ∧ (Acts s c 0x0601 2 → form → ok ≠ [] → Leaves (.movAdd c entries) s
           (t.modMoves (fun m => { m with waiting := m.waiting ++ [⟨c, ok, sts, s.cyc.cycle⟩] })))
       ∧ (s.moves.waiting = [w] → s.boundaryPast w.cycle = true → (∀ x ∈ w.items, ∀ y ∈ s.moves.items, x.seqN ≠ y.seqN) →
           s.moves.items.length + w.items.length ≤ 4096 → (w.statuses.filter (fun st => decide (st = 0))).length = w.items.length →
           Leaves .movAddLand s ((s.modMoves (fun m => { m with waiting := [], items := m.items ++ w.items })).replyLater w.ctx 0x0601
             (firstRefusal w.statuses) (w.statuses.flatMap (be 2))))
       ∧ (t.move seq.toNat = none → del 0x0105 t) ∧ (t.move seq.toNat = some x → x.state = .committed → del 0x0301 t)
       ∧ (t.move seq.toNat = some x → x.seqN = seq.toNat → x.state ≠ .committed → del 0 (drop t x))
       ∧ (¬ named → clear 0x0105 [] t) ∧ (named → clear 0 (be 2 hit.length) (hit.foldl drop t))
       ∧ (Acts s c 0x0604 2 → Replies (.movResume c) s c 0x0604 0 (be 2 ready.length) (ready.foldl (fun (u : State) x => u.setMove x.arm) t))
       ∧ (Reads s c 0x0605 1 → t.move seq.toNat = none → Replies (.movRead c seq) s c 0x0605 0x0105 [] t)
       ∧ (Reads s c 0x0605 1 → t.move seq.toNat = some x → Replies (.movRead c seq) s c 0x0605 0
           (entryBytes x.e ++ be 1 (moveCode x.state) ++ t80Bytes x.ts ++ beI 4 (clampI (-2147483648) 2147483647 x.resid)) t))
    ∧ (∀ (s : State) (taken : List Nat) (e : MoveEntry),
         let a := e.action.toNat
         let st := s.moveStatus taken e
         (e.seq = 0 ∨ e.seq.toNat ∈ taken ∨ a = 0 ∨ 4 < a → st = 0x0105)
         ∧ (31 < e.grp.toNat → e.grp ≠ 0xFF → st = 0x0105) ∧ (10000 < e.tol.toNat → st = 0x0105)
         ∧ (s.loopLen ≠ 0 → s.loopLen ≤ e.trigger.toNat → st = 0x0105)
         ∧ (a = 3 ∨ a = 4 → 255 < e.axis.toNat → st = 0x0105)
         ∧ (st = 0 → e.seq ≠ 0 ∧ e.seq.toNat ∉ taken ∧ 1 ≤ a ∧ a ≤ 4 ∧ taken.length < 4096)
         ∧ (st = 0 ∨ st = 0x0105 ∨ st = 0x0301 ∨ st = 0x0505 ∨ st = 0x0404))
    ∧ (∀ (s : State) (seq : BitVec 32) (k : Nat) (x : MoveItem) (q : Capture) (f : FposHist) (hs : List FposHist),
         let l := s.line
         let lost := fun (cause : Nat) =>
           ((State.raise { s with line := { l with valid := false, lost := true, lostCause := cause, taskFault := false } } 0x0606 2 0 [BitVec.ofNat 8 cause]).holdForLine)
         (s.eng.lineDone = some s.cyc.cycle → s.cyc.running = true → s.cyc.movePassed ≠ some s.cyc.cycle → Leaves .moveListPass s (s.movePass s.cyc.cycle))
         ∧ (s.eng.lineDone = none ∨ s.cyc.running = false → Leaves .moveListPass s s)
         ∧ (s.moves.captures.find? (fun (c : Capture) => decide (c.seq = seq)) = some q → (s.axis q.axis).law.fposHist = f :: hs → f.n = q.sample →
             Leaves (.captureEvent seq) s ((s.modMoves (fun m => { m with captures := m.captures.erase q })).raise 0x0601 0 q.axis
               (be 4 seq.toNat ++ t80Bytes q.fire ++ beI 6 q.pos ++ beI 6 f.fpos ++ [BitVec.ofNat 8 (b2n f.predicted)])))
         ∧ (s.moves.captures.find? (fun (c : Capture) => decide (c.seq = seq)) = none → Leaves (.captureEvent seq) s s)
         ∧ (s.move seq.toNat = some x → x.watch = true → x.state = .committed → 3 ≤ x.exchanges →
             Leaves (.flushLost seq) s ((s.moveDone x).modMoves (fun m => { m with flushLost := inc32 m.flushLost })))
         ∧ (s.move seq.toNat = some x → x.watch = false ∨ x.state ≠ .committed ∨ x.exchanges < 2 → Leaves (.flushLost seq) s s)
         ∧ (l.disagree = false → s.parN 0x041101D5 0 ≤ l.discRun → Leaves .lineDisagree s
             (State.raise { s with line := { l with disagree := true } } 0x0604 1 0 (beI 4 (clampI (-2147483648) 2147483647 l.disc))))
         ∧ (l.disagree = true ∨ l.discRun < s.parN 0x041101D5 0 → Leaves .lineDisagree s s)
         ∧ (l.valid = true → l.taskFault = true → Leaves .lineLost s (lost 0))
         ∧ (l.valid = true → l.taskFault = false → s.parN 0x041101D6 0 < l.noCount → Leaves .lineLost s (lost 1))
         ∧ (l.valid = false → Leaves .lineLost s s)
         ∧ (l.valid = false → l.everValid = true → l.newCount = true → s.eng.lineDone = some s.cyc.cycle →
             Leaves .lineRevalid s { s with line := { l with valid := true, taskFault := false } })
         ∧ (l.switchBack = false → Leaves .switchBack s s)
         ∧ (l.switchBack = true → l.onB = false → Leaves .switchBack s { s with line := { l with switchBack := false } })
         ∧ (l.switchBack = true → l.onB = true → s.primaryDelivers = true → s.primaryFaulted = false → Leaves .switchBack s
             (({ s with line := { l with switchBack := false, onB := false, switched := false } }).captureLineOfs)))

/-- R452: MOV_RESUME returns to ARMED every HELD entry whose GRP is 0xFF or names a group in NORMAL and whose start-profile target, if any, lies in such
a group; every other entry, the HELD ones of a stopped group and the MISSED ones among them, is not changed. -/
def Obligations.ResumeArmsHeld : Prop :=
  ∀ (s : State) (c : CmdCtx) (x : MoveItem), Acts s c 0x0604 2 → (s.moves.items.map (fun (y : MoveItem) => y.seqN)).Nodup → x ∈ s.moves.items →
    ∃ t, exec (.movResume c) s = .next t ∧ t.moves.items.length = s.moves.items.length
      ∧ (if x.state = .held ∧ (x.e.grp = 0xFF ∨ s.groupState x.e.grp.toNat = 0)
            ∧ (x.act = actStart → s.groupState (s.parN 0x08200001 x.e.axis.toNat) = 0) then x.arm ∈ t.moves.items ∧ x.arm.state = .armed
          else x ∈ t.moves.items)

/-- R50, R52, R54, R55, Table FRM-2, Table FRM-4: a frame that is put out is read back by a receiver of its segment: header and payload are
those that were sent, for every header that Table FRM-2 admits. -/
def Obligations.FrameCodecRoundTrip : Prop :=
  ∀ (p : PortIx) (h : Hdr) (pl : List Byte) (sfd : Int), h.kind < 16 → h.len < 256 → h.age < 256 → h.cyc < 4294967296 → h.slotN < 32768 →
    h.seg < 8 → pl.length = 4 * h.len → hdrOk (p.val / 2) h (16 + 4 * h.len) (byteAt pl 0).toNat = true →
    rxClass { port := p, bytes := sealFrame h pl, error := false, sfd := sfd } = .ok h pl

/-- R52, R60, R62, Table FRM-3: a frame with an error indication is an abort whatever it holds, one whose CRC does not fit is a CRC
error, and one outside R54 and R55 a format discard; each is counted at its port and sets its bit; LOOP = 1 is seen whatever becomes of a
sound frame; a port behind its reset fence takes none (R469), nor does one that is off or under test (R44, R474).
R45, R46, R106 to R113, R48, R469, R119: the return of the CSF, a drifting and a missing loop, the links of a port and their poll, a looped
frame, the restore of a ring, and the release of a reset fence after 1 µs of clocks. -/
def Obligations.FramesAndLinks : Prop :=
    (∀ (s : State) (f : RxFrame) (h : Hdr) (pl : List Byte),
       let p := f.port.val
       let r := s.rx f
       let x := s.port p
       let fits := 16 ≤ f.bytes.length ∧ unle (f.bytes.drop (f.bytes.length - 4)) = crc32 (f.bytes.take (f.bytes.length - 4))
       let only := fun (t : State) (y : RingPort) => t.port p = y ∧ (∀ q, q ≠ p → t.port q = s.port q) ∧ t = { s with ports := t.ports }
       let on := s.parN 0x07000001 p ≠ 0 ∧ (s.seg (p / 2)).phase ≠ .test
       (¬ on → r = .off)
       ∧ (on → f.error = true ∨ x.fenced = true → r = .abort)
       ∧ (on → f.error = false → x.fenced = false → ¬ fits → r = .crc)
       ∧ (on → f.error = false → x.fenced = false → fits → hdrOk (p / 2) (parseHdr f.bytes) f.bytes.length (byteAt f.bytes 12).toNat = false → r = .format)
       ∧ (r = .ok h pl → h.ver = 1 ∧ lenOk h.kind h.len h.src (byteAt pl 0).toNat = true ∧ h.src < 128 ∧ h.seg = p / 2 ∧ (h.safe = true ↔ h.kind = 5)
           ∧ (h.takeBack = true ↔ h.kind = 6) ∧ f.bytes.length = 16 + 4 * h.len)
       ∧ only (s.countRx p .abort) { x with abort := true, abortCnt := inc32 x.abortCnt }
       ∧ only (s.countRx p .crc) { x with crcErr := true, crcCnt := inc32 x.crcCnt }
       ∧ only (s.countRx p .format) { x with fmtErr := true, fmtCnt := inc32 x.fmtCnt }
       ∧ only (s.countRx p (.ok h pl)) { x with goodCnt := inc32 x.goodCnt } ∧ s.countRx p .off = s
       ∧ (s.soundHdr f = some h → h.loop = true → only (s.seeLoop f) { x with loopCycle := some s.cyc.cycle })
       ∧ (s.soundHdr f = none → s.seeLoop f = s))
    ∧ (∀ (s : State) (f : RxFrame) (h : Hdr) (pl : List Byte) (seg : SegIx) (lam : Nat) (p : PortIx) (bmsr : BitVec 16) (l : Fin 2) (k : Nat) (w : InBandWord),
         let n := seg.val
         let g := s.seg n
         let v := s.relay f
         let heard := (v.seeLoop f).countRx f.port.val (v.rx f)
         let good := w.link = true ∧ w.speed = .m1000 ∧ w.fullDuplex = true
         let x := s.port p.val
         let mode := s.parN 0x07000001 p.val
         let apart := schedW g.sched < 2 * (((lam : Int) - g.lamN).natAbs : Int)
         let polled := (s.modPort p.val (fun x => { x with mdioNext := s.coreTicks + s.parN 0x07000004 p.val * 10000 })).put
           (.mdio (p.val / 8) 0 (s.parN 0x07000003 p.val) 0 1 0)
         let lane := { s with twin := if l = 0 then { s.twin with lane0 := true } else { s.twin with lane1 := true } }
         let watch := s.twin.onMove = true ∧ s.segRuns n = true
         (watch → g.folded = false → g.phase ≠ .synchronise → Leaves (.csfReturn seg ⟨false, lam⟩) s (s.modSeg n (fun g =>
           { g with csfSeen := true, csfMiss := 0, lamMeas := lam, drift := if apart then (if g.drift < 16 then g.drift + 1 else g.drift) else 0 })))
         ∧ (watch → g.folded = false → g.phase = .synchronise → g.lamMeas = 0 → Leaves (.csfReturn seg ⟨false, lam⟩) s
             ((s.modSeg n (fun g => { g with csfSeen := true, csfMiss := 0, lamMeas := lam, lamN := lam })).setTimings))
         ∧ (¬ watch ∨ g.folded = true → Leaves (.csfReturn seg ⟨false, lam⟩) s s)
         ∧ (watch → s.parN 0x07300003 n = 1 → g.phase = .synchronise → Leaves (.csfReturn seg ⟨true, lam⟩) s ((s.modSeg n (fun g => { g with lamR := lam })).setTimings))
         ∧ (¬ watch ∨ s.parN 0x07300003 n ≠ 1 ∨ g.phase ≠ .synchronise → Leaves (.csfReturn seg ⟨true, lam⟩) s s)
         ∧ (watch → g.drift = 16 → Leaves (.loopDrift seg) s ((s.modSeg n (fun g => { g with drift := 17 })).raise 0x0702 1 n (be 4 (g.lamMeas / 10))))
         ∧ (¬ watch ∨ g.drift ≠ 16 → Leaves (.loopDrift seg) s s)
         ∧ (watch → g.folded = false → g.broken = false → 3 ≤ g.csfMiss → Leaves (.csfReturnMissing seg) s ((s.markBroken n).locate n))
         ∧ (g.csfMiss < 3 ∨ g.folded = true ∨ g.broken = true → Leaves (.csfReturnMissing seg) s s)
         ∧ (mode ≠ 0 → x.link = true → Leaves (.portLinkDown p .codeSync) s (s.linkDown p.val true))
         ∧ (mode = 1 → x.link = true → Leaves (.portLinkDown p .inBand) s (s.linkDown p.val false) ∧ Leaves (.portLinkDown p .mdioPoll) s (s.linkDown p.val false))
         ∧ (mode ≠ 0 → x.link = false → Leaves (.portLinkDown p .codeSync) s (s.modPort p.val (fun x => { x with sync := false })))
         ∧ (x.link = false ∨ mode ≠ 1 → Leaves (.portLinkDown p .inBand) s s ∧ Leaves (.portLinkDown p .mdioPoll) s s)
         ∧ (mode = 0 → ∀ src, Leaves (.portLinkDown p src) s s)
         ∧ (((s.linkDown p.val true).port p.val).link = false ∧ ((s.linkDown p.val true).port p.val).fenced = true)
         ∧ (mode = 1 → good → x.link = false → Leaves (.portLinkUp ⟨p, w⟩) s
             (s.modPort p.val (fun x => { x with link := true, sync := true, anDone := true, upSince := s.coreTicks })))
         ∧ (mode ≠ 0 → mode ≠ 1 → x.link = false → Leaves (.portLinkUp ⟨p, w⟩) s
             (s.modPort p.val (fun x => { x with link := true, sync := true, anDone := decide (s.parN 0x07000002 p.val = 1), upSince := s.coreTicks })))
         ∧ (mode = 1 → ¬ good → x.link = true → Leaves (.portLinkUp ⟨p, w⟩) s (s.linkDown p.val false))
         ∧ (mode = 1 → ¬ good → x.link = false → Leaves (.portLinkUp ⟨p, w⟩) s (s.modPort p.val (fun x => { x with sync := true })))
         ∧ (mode = 0 ∨ (x.link = true ∧ (mode ≠ 1 ∨ good)) → Leaves (.portLinkUp ⟨p, w⟩) s s)
         ∧ (mode = 1 → x.mdioNext ≤ s.coreTicks → bmsr.getLsbD 2 = true ∨ x.link = false → Leaves (.mdioLinkPoll p bmsr) s polled)
         ∧ (mode = 1 → x.mdioNext ≤ s.coreTicks → bmsr.getLsbD 2 = false → x.link = true → Leaves (.mdioLinkPoll p bmsr) s (polled.linkDown p.val false))
         ∧ (mode ≠ 1 ∨ s.coreTicks < x.mdioNext → Leaves (.mdioLinkPoll p bmsr) s s)
         ∧ (v.rx f = .ok h pl → h.loop = true → f.port.val % 2 = 0 → Leaves (.loopFrameReceive f) s ((heard.markBroken (f.port.val / 2)).locate (f.port.val / 2)))
         ∧ (v.rx f = .ok h pl → h.loop = false ∨ f.port.val % 2 = 1 → Leaves (.loopFrameReceive f) s heard)
         ∧ (v.rx f = .off ∨ v.rx f = .abort ∨ v.rx f = .crc → Leaves (.loopFrameReceive f) s heard)
         ∧ (watch → g.folded = true → g.restoreAt = none → g.restoring = false → s.parN 0x07300004 n = 1 → s.breakUp n = some k →
             k + s.parN 0x07300005 n * 1000000000 ≤ s.coreTicks → g.breakA ≠ 0xFF → g.breakB ≠ 0xFF → Leaves (.ringRestoreAuto seg) s
               (((s.queueSup n (loopSet 0)).queueSupB n (pathSet (b2n s.isBlack) (s.cyc.cycle + 3))).modSeg n (fun g => { g with restoreAt := some (s.cyc.cycle + 3) })))
         ∧ (¬ watch ∨ g.folded = false ∨ s.parN 0x07300004 n ≠ 1 ∨ s.breakUp n = none → Leaves (.ringRestoreAuto seg) s s)
         ∧ (g.restoreAt = some k → g.folded = true → g.restoring = false → k ≤ s.cyc.cycle → Leaves (.ringRestored seg) s (s.unfold n))
         ∧ (g.restoreAt = none → Leaves (.ringRestored seg) s s)
         ∧ (x.fenced = true → x.sync = true → x.upSince + 1000 ≤ s.coreTicks → Leaves (.resetFenceRelease (.port p)) s (s.modPort p.val (fun x => { x with fenced := false })))
         ∧ (x.fenced = false ∨ x.sync = false ∨ s.coreTicks < x.upSince + 1000 → Leaves (.resetFenceRelease (.port p)) s s)
         ∧ (s.boot.twinPresent = true → Leaves (.resetFenceRelease (.lane l)) s lane))

/-- R116, R117, R118, R120, R353, Table SLT-5: NET_OPENING and the steps of the Opening: Listen, Claim with its CLM frames every
100 µs, the lower claim key that makes a standby, the 50 periods that make a head, and Run once the owners have synchronised.
R96, R118, R119: the head's Survey: a response of the hop asked is taken, a request that comes back on the other port ends a
pass, an unanswered request is repeated twice; a standby answers a request that names its hop. -/
def Obligations.OpeningAndSurvey : Prop :=
    (∀ (s : State) (c : CmdCtx) (f : RxFrame) (h : Hdr) (pl : List Byte) (seg : SegIx),
       let t := s.takeUp c
       let o := s.opening
       let opening := fun (st : Nat) (u : State) => Acts s c 0x0701 5 → Replies (.netOpening c) s c 0x0701 st [] u
       let dis := t.allDisabled = true
       let free := t.saf.silent = false ∧ t.saf.endgame = none
       let b := t.beginOpening
       let heard := ((s.relay f).seeLoop f).countRx f.port.val ((s.relay f).rx f)
       let g := s.seg seg.val
       let own := s.owners seg.val
       let synced := (∀ i ∈ own, g.ownerDone i = true) ∧ g.syncFrom + 64 ≤ s.cyc.cycle
       (¬ dis → opening 0x0302 t) ∧ (dis → ¬ free → opening 0x0301 t) ∧ (dis → free → t.boot.openCtx.isSome = true → opening 0x0303 t)
       ∧ (dis → free → t.boot.openCtx = none → opening 1 { b with boot := { b.boot with openCtx := some c } })
       ∧ (b.opening.phase = .listen ∧ b.opening.since = s.coreTicks ∧ b.twin.onMove = false ∧ b.twin.standby = false ∧ b.cyc.running = false)
       ∧ (o.phase = .listen → o.since + s.listenTime ≤ s.coreTicks →
           Leaves .listenEnd s { s with opening := { o with phase := .claim, since := s.coreTicks, claims := 0, periods := 0 } })
       ∧ (o.phase ≠ .listen ∨ s.coreTicks < o.since + s.listenTime → Leaves .listenEnd s s)
       ∧ (o.phase = .claim → o.since + o.periods * 100000 ≤ s.coreTicks → o.periods < 50 → ∃ u, exec .claimPeriod s = .next u
           ∧ u = { s with out := u.out, opening := { o with claims := inc32 o.claims, periods := o.periods + 1 } })
       ∧ (o.phase ≠ .claim ∨ 50 ≤ o.periods → Leaves .claimPeriod s s)
       ∧ ((s.relay f).rx f = .ok h pl → h.kind = 8 → o.phase = .listen ∨ o.phase = .claim → field pl 0 8 % 562949953421312 < s.ownKey →
           ∃ u, exec (.clmReceive f) s = .next u ∧ u.opening.phase = .standby ∧ u.twin.standby = true ∧ u.twin.onMove = false)
       ∧ ((s.relay f).rx f = .ok h pl → h.kind = 8 → s.ownKey ≤ field pl 0 8 % 562949953421312 → Leaves (.clmReceive f) s heard)
       ∧ (o.phase = .claim → 50 ≤ o.periods → o.since + 5000000 ≤ s.coreTicks → Leaves .claimEnd s
           ((List.range 8).foldl (fun (s : State) n => if s.segActive n then s.beginSurvey n else s) (State.driveClocks { s with
             opening := { o with phase := .segments, since := s.coreTicks }, twin := { s.twin with onMove := true, standby := false }
             cyc := { s.cyc with running := false, cycle := 0 } } true)))
       ∧ (o.phase ≠ .claim ∨ o.periods < 50 → Leaves .claimEnd s s)
       ∧ (s.twin.onMove = true → s.cyc.running = true → g.phase = .synchronise → synced ∨ g.phaseTick + 50000000 ≤ s.coreTicks →
           ∃ u, exec (.synchroniseEnd seg) s = .next u ∧ (u.seg seg.val).phase = .run)
       ∧ (g.phase ≠ .synchronise ∨ s.cyc.running = false → Leaves (.synchroniseEnd seg) s s))
    ∧ (∀ (s : State) (f : RxFrame) (h : Hdr) (pl : List Byte) (seg : SegIx) (b : Bool),
         let v := s.relay f
         let n := f.port.val / 2
         let heard := ((v.seeLoop f).countRx f.port.val (v.rx f)).noteLoop f
         let g := v.seg n
         let op := (byteAt pl 0).toNat
         let q := s.seg seg.val
         (v.rx f = .ok h pl → h.kind = 9 → h.len = 6 → v.twin.onMove = true → g.surveyOut = true → op = 0x82 ∨ op = 0x83 → g.phase = .survey →
           (byteAt pl 1).toNat = g.surveyHop → Leaves (.surResponse f) s (heard.surveyTake n pl f.sfd.toNat (field pl 12 4) (field pl 16 4)))
         ∧ (v.rx f = .ok h pl → h.kind ≠ 9 ∨ v.twin.onMove = false ∨ g.surveyOut = false → Leaves (.surResponse f) s heard)
         ∧ (v.rx f = .off ∨ v.rx f = .abort ∨ v.rx f = .crc ∨ v.rx f = .format → Leaves (.surResponse f) s heard)
         ∧ (s.twin.onMove = true → q.phase = .survey → q.surveyOut = true → q.surveyB = false → b = true → Leaves (.surRequestReturn seg b) s
             ((s.modSeg seg.val (fun g => { g with
               surveyOut := false, surveyB := true, surveyHop := 1, surveyRetry := 0, closed := true, nNodes := g.known.length })).surveyNext seg.val))
         ∧ (s.twin.onMove = true → q.phase = .survey → q.surveyOut = true → q.surveyB = true → b = false → Leaves (.surRequestReturn seg b) s
             (((s.modSeg seg.val (fun g => { g with surveyOut := false })).lamGuess seg.val).surveyEnds seg.val))
         ∧ (s.twin.onMove = false ∨ q.phase ≠ .survey ∨ q.surveyOut = false ∨ b = q.surveyB → Leaves (.surRequestReturn seg b) s s)
         ∧ (q.surveyOut = true → s.twin.onMove = true → q.surveySent + 1200000 ≤ s.coreTicks → q.phase = .survey → q.surveyRetry < 2 →
             Leaves (.surveyTimeout seg) s ((s.modSeg seg.val (fun g => { g with surveyRetry := g.surveyRetry + 1, surveyOut := false })).surveyNext seg.val))
         ∧ (q.surveyOut = true → s.twin.onMove = true → q.surveySent + 1200000 ≤ s.coreTicks → q.phase = .survey → 2 ≤ q.surveyRetry →
             Leaves (.surveyTimeout seg) s (s.surveyOpen seg.val))
         ∧ (q.surveyOut = false ∨ s.twin.onMove = false ∨ s.coreTicks < q.surveySent + 1200000 → Leaves (.surveyTimeout seg) s s)
         ∧ (s.rx f = .ok h pl → h.kind = 9 → h.len = 4 → s.twin.standby = true → op = 3 → h.dir = false → (s.seg n).ownHopA = 0 → (s.port (2 * n + b2n (!s.isBlack))).idle = false → s.boot.testEn = false →
             ∃ u bytes, exec (.surRequestReceive f) s = .next u ∧ (u.seg n).ownHopA = (byteAt pl 1).toNat ∧ u.freeCtr = s.freeCtr + 1
               ∧ ∃ p, u.out = .frame p bytes :: s.out ∧ p.val = 2 * n + b2n (!s.isBlack))
         ∧ (s.rx f = .ok h pl → h.kind ≠ 9 → Leaves (.surRequestReceive f) s (((s.relay f).seeLoop f).countRx f.port.val (s.rx f))))

/-- R76, R97, R102, R103, R299, R481: what the head takes from the DYN messages of its nodes, whose fragments it joins, its own dynamic turn, and the repeat of a message
that two turns left without an ACK. -/
def Obligations.DynamicMessages : Prop :=
  ∀ (s : State) (f : RxFrame) (h : Hdr) (pl : List Byte) (r : SlotRec) (k d : Int) (seg : SegIx) (ms : BitVec 8) (m : DynMsg),
    let u := s.relay f
    let v := u.judgeDyn f
    let heard := (u.countDyn f v).noteLoop f
    let n := f.port.val / 2
    let taken := fun (msg : Nat) => v = .ok h pl r k d ∧ heard.twin.onMove = true ∧ (byteAt pl 0).toNat = msg ∧ byteAt pl 4 = 0
    let mine := fun (msg : Nat) => taken msg ∧ nbit (byteAt pl 1).toNat 7 = false ∧ byteAt pl 5 = 0
    let part := (heard.seg n).joinFrag h.src pl
    let rest := (heard.seg n).dynParts.filter (fun (y : DynParts) => decide (y.src ≠ h.src))
    let waits := heard.modSeg n (fun g => { g with dynParts := rest ++ [part] })
    let acked := (heard.ackDyn n h.src pl).answered n h.src (field pl 10 2)
    let replied := (heard.ackDyn n h.src pl).answered n h.src (field pl 14 2)
    let named := (heard.seg n).reqs.contains (h.src, field pl 14 2)
    let g := s.seg seg.val
    let due := fun (m : DynMsg) => decide (2 ≤ m.turns)
    let c := s.sched seg.val
    let counted := s.modSeg seg.val (fun g => { g with dynWait := g.dynWait.map (fun (m : DynMsg) => { m with turns := m.turns + 1 }) })
    let others := fun (i : Instr) (msg : Nat) => v = .ok h pl r k d → (byteAt pl 0).toNat ≠ msg ∨ heard.twin.onMove = false → Leaves i s heard
    others (.admissionRequest f) 1 ∧ others (.diagnosticResponse f) 3 ∧ others (.nodeParameterAccess f) 4 ∧ others (.acknowledge f) 5
    ∧ (mine 1 → h.src = 0 → 24 ≤ pl.length → (heard.seg n).admitReq = [] → Leaves (.admissionRequest f) s
        ((heard.modSeg n (fun g => { g with
          admitReq := g.admitReq ++ [⟨BitVec.ofNat 48 (field pl 8 6), (byteAt pl 14).toNat, (byteAt pl 15).toNat, field pl 16 2⟩] })).ackDyn n 0 pl))
    ∧ (taken 3 → nbit (byteAt pl 1).toNat 7 = true ∨ byteAt pl 5 ≠ 0 → part.whole = none → Leaves (.diagnosticResponse f) s (waits.ackDyn n h.src pl))
    ∧ (taken 4 → nbit (byteAt pl 1).toNat 7 = true ∨ byteAt pl 5 ≠ 0 → part.whole = none → Leaves (.nodeParameterAccess f) s (waits.ackDyn n h.src pl))
    ∧ (mine 1 → h.src ≠ 0 ∨ pl.length < 24 → Leaves (.admissionRequest f) s heard)
    ∧ (mine 3 → byteAt pl 9 = 0 → byteAt pl 8 = 2 → 24 ≤ pl.length → Leaves (.diagnosticResponse f) s
        (acked.modNode n h.src (fun x => { x with serial := BitVec.ofNat 48 (field pl 16 6), kind := (byteAt pl 22).toNat, axes := (byteAt pl 23).toNat })))
    ∧ (mine 3 → byteAt pl 9 ≠ 0 → Leaves (.diagnosticResponse f) s acked)
    ∧ (mine 4 → 24 ≤ pl.length → byteAt pl 9 = 0 → field pl 10 2 = 1 → byteAt pl 8 = 0x82 → named = true →
        Leaves (.nodeParameterAccess f) s (replied.queueStopGroup n h.src (field pl 12 2) 1))
    ∧ (mine 4 → 24 ≤ pl.length → byteAt pl 9 = 0 → field pl 10 2 = 1 → byteAt pl 8 = 0x81 → named = true → Leaves (.nodeParameterAccess f) s
        (replied.modNode n h.src (fun x => { x with
          groupsRead := (x.groupsRead.filter (fun (p : Nat × Nat) => decide (p.1 ≠ field pl 12 2))) ++ [(field pl 12 2, field pl 16 8)] })))
    ∧ (mine 4 → pl.length < 24 ∨ byteAt pl 9 ≠ 0 ∨ field pl 10 2 ≠ 1 ∨ named = false → Leaves (.nodeParameterAccess f) s replied)
    ∧ (mine 5 → Leaves (.acknowledge f) s (heard.modSeg n (fun g =>
        let hit := fun (m : DynMsg) => decide (m.msgId = field pl 8 2 ∧ m.frag = (byteAt pl 10).toNat ∧ m.dest = h.src)
        { g with dynWait := g.dynWait.filter (fun m => !hit m), dynQ := g.dynQ.filter (fun m => !(hit m && decide (0 < m.turns))) })))
    ∧ (s.twin.onMove = true → s.segRuns seg.val = true → ms.toNat < c.minislots → turnOf c.minislots s.cyc.cycle ms.toNat = 0 → m.deferrable = false →
        minislotFits c ms.toNat (24 + (dynPayload m).length) = true → g.dynQ.head? = some m → Leaves (.dynTurn seg ms) s (counted.sendDyn seg.val ms.toNat m))
    ∧ (s.twin.onMove = true → s.segRuns seg.val = true → ms.toNat < c.minislots → turnOf c.minislots s.cyc.cycle ms.toNat = 0 → g.dynQ = [] → counted.surDue seg.val = none →
        Leaves (.dynTurn seg ms) s counted)
    ∧ (s.twin.onMove = false ∨ s.segRuns seg.val = false ∨ c.minislots ≤ ms.toNat ∨ turnOf c.minislots s.cyc.cycle ms.toNat ≠ 0 → Leaves (.dynTurn seg ms) s s)
    ∧ (s.twin.onMove = true → (∃ m ∈ g.dynWait, due m = true) → Leaves (.dynRepeat seg) s (s.modSeg seg.val (fun g =>
        { g with dynQ := g.dynWait.filter due ++ g.dynQ, dynWait := g.dynWait.filter (fun m => decide (m.turns < 2)) })))
    ∧ ((∀ m ∈ g.dynWait, due m = false) → Leaves (.dynRepeat seg) s s)

/-- R87, R94, R95, R96, R113, R119, R473, R475 to R481: the network commands, a new schedule from its load to its activation, and a
segment test. -/
def Obligations.NetworkCommands : Prop :=
  ∀ (s : State) (c : CmdCtx) (seg addr op bus phy devad port hop mode : BitVec 8) (reg data ans dur : BitVec 16) (serial : BitVec 48) (sch : Schedule)
    (sg : SegIx) (errs : BitVec 32) (k : Nat) (tst : SegTest),
    let t := s.takeUp c
    let n := seg.toNat
    let g := t.seg n
    let a := addr.toNat
    let named := t.segNamed seg = true ∧ scheduleForm sch = true
    let fits := if g.phase = .run then t.reloadOk n sch else t.planned.layoutFits n sch && t.planned.scheduleOk n sch
    let room := t.engineLoad ≤ 7 * periodOf sch.period
    let load := fun (st : Nat) (u : State) => Acts s c 0x0702 5 → Replies (.netSchedLoad c seg sch) s c 0x0702 st [] u
    let act := fun (st : Nat) (u : State) => Acts s c 0x0703 5 → Replies (.netSchedActivate c seg) s c 0x0703 st [] u
    let admits := fun (st : Nat) (u : State) => Acts s c 0x0704 5 → Replies (.netNodeAdmit c seg addr serial) s c 0x0704 st [] u
    let remove := fun (st : Nat) (u : State) => Acts s c 0x0705 5 → Replies (.netNodeRemove c seg addr) s c 0x0705 st [] u
    let rest := fun (st : Nat) (u : State) => Acts s c 0x0706 3 → Replies (.netRingRestore c seg) s c 0x0706 st [] u
    let axes := t.nodeAxes n a
    let known := (g.node a).hopA ≠ 0 ∧ (g.node a).removed = false
    let stopped := (∀ i ∈ axes, t.axState i = .disabled)
    let cleared := (axes.foldl (fun (u : State) i => u.modLife i (fun l => { l with parked := false })) t).modNode n a (fun x =>
      { x with removed := true, synced := false, groupsRead := [] })
    let mdioOk := bus.toNat ≤ 1 ∧ op.toNat ≤ 3 ∧ phy.toNat ≤ 31 ∧ (op.toNat < 2 → reg.toNat ≤ 31) ∧ (2 ≤ op.toNat → devad.toNat ≤ 31)
    let expert := Takes s c 0x0707 3 true true false
    let measure := Takes s c 0x0708 3 false true false
    let tests := fun (st : Nat) (u : State) => Acts s c 0x0F02 3 → Replies (.svcSegTest c seg mode dur) s c 0x0F02 st [] u
    let q := s.seg sg.val
    let tested := (s.modSeg sg.val (fun g => { g with test := none, phase := .run })).cmdDone tst.ctx 0x0F02 sg.val 0 (be 4 errs.toNat)
    (¬ named → load 0x0105 t) ∧ (named → g.busy = true → load 0x0303 t) ∧ (named → g.busy = false → fits = false → load 0x0406 t)
    ∧ (named → g.busy = false → fits = true → ¬ room → load 0x0402 t)
    ∧ (named → g.busy = false → fits = true → room → load 0 (t.modSeg n (fun g => { g with pending := some sch })))
    ∧ (t.segNamed seg = false → act 0x0105 t) ∧ (t.segNamed seg = true → g.phase ≠ .run → act 0x0301 t)
    ∧ (t.segNamed seg = true → g.phase = .run → g.busy = true → act 0x0303 t)
    ∧ (t.segNamed seg = true → g.phase = .run → g.busy = false → Follows t c 0x0703 →
        Leaves (.netSchedActivate c seg) s (t.unlog c 0x0703))
    ∧ (t.segNamed seg = true → g.phase = .run → g.busy = false → t.twin.standby = false → act 1 (t.modSeg n (fun g => { g with activating := some c, remeasure := g.measureAll })))
    ∧ (t.segNamed seg = false ∨ a = 0 ∨ 127 < a ∨ (g.node a).hopA ≠ 0 → admits 0x0105 t)
    ∧ (t.segNamed seg = true → 1 ≤ a → a ≤ 127 → (g.node a).hopA = 0 → g.phase = .run → g.admitReq.length = 1 → g.busy = false →
        (∃ p r, g.pending = some p ∧ r ∈ p.records ∧ r.node = a) →
        admits 1 (t.modSeg n (fun g => { g with admitting := some (a, serial, c), remeasure := [(a, false), (a, true)] ++ g.measureAll })))
    ∧ (t.segNamed seg = false ∨ ¬ known → remove 0x0105 t) ∧ (t.segNamed seg = true → known → ¬ stopped → remove 0x0302 t)
    ∧ (t.segNamed seg = true → known → stopped → t.groupsSto (axes.filter (fun i => t.monitored i)) = false → remove 0x0301 t)
    ∧ (t.segNamed seg = true → known → stopped → t.groupsSto (axes.filter (fun i => t.monitored i)) = true → remove 0 (cleared.setPar (0x07300004 + n * 4096) 0))
    ∧ (t.segNamed seg = true → g.phase ≠ .run ∨ g.folded = false → rest 0x0301 t)
    ∧ (t.segNamed seg = true → g.phase = .run → g.folded = true → g.busy = false → g.restoreAt = none → rest 1 (t.measuredRestore n (some c)))
    ∧ (expert → mdioOk → Replies (.netMdio c bus op phy devad reg data ans) s c 0x0707 0 (be 2 (if op.toNat % 2 = 0 then ans.toNat else data.toNat))
        (t.put (.mdio bus.toNat op.toNat phy.toNat devad.toNat reg.toNat data.toNat)))
    ∧ (expert → ¬ mdioOk → Replies (.netMdio c bus op phy devad reg data ans) s c 0x0707 0x0105 [] t)
    ∧ (measure → t.segNamed seg = true → port.toNat ≤ 1 → hop ≠ 0 → g.phase = .run → t.trimmed 4 = false → g.measure = none →
        Leaves (.netMeasure c seg port hop) s (t.modSeg n (fun g => { g with measure := some (c, hop.toNat, decide (port = 1)) })))
    ∧ (measure → t.segNamed seg = false ∨ 1 < port.toNat ∨ hop = 0 → Replies (.netMeasure c seg port hop) s c 0x0708 0x0105 [] t)
    ∧ (t.segNamed seg = true → mode = 1 → 1 ≤ dur.toNat → dur.toNat ≤ 3600 → g.test = none → (∀ i ∈ t.segAxes n, t.axState i = .disabled) →
        t.groupsSto (t.segAxes n) = true → g.phase = .run → tests 1 ((t.modSeg n (fun g => { g with
          phase := .test, test := some { mode := 1, endTick := s.coreTicks + dur.toNat * 1000000000, ctx := c } })).holdForTest n))
    ∧ (t.segNamed seg = false ∨ (mode ≠ 1 ∧ mode ≠ 2) ∨ dur = 0 ∨ 3600 < dur.toNat → tests 0x0105 t)
    ∧ (q.test = none → Leaves (.segTestEnd sg errs) s s) ∧ (q.test = some tst → s.coreTicks < tst.endTick → Leaves (.segTestEnd sg errs) s s)
    ∧ (q.test = some tst → tst.endTick ≤ s.coreTicks → Leaves (.segTestEnd sg errs) s (if tested.twin.onMove then tested.beginSurvey sg.val else tested))
    ∧ (q.activateAt = some k → s.twin.onMove = true → s.cyc.running = true → k ≤ s.cyc.cycle → q.schQ = [] → q.phase = .scheduleLoad → Leaves (.scheduleActivate sg) s
        (s.modSeg sg.val (fun g => { g with phase := .synchronise, phaseTick := s.coreTicks, syncFrom := s.cyc.cycle, activateAt := none })))
    ∧ (q.activateAt = some k → s.twin.onMove = true → s.cyc.running = true → k ≤ s.cyc.cycle → q.schQ = [] → q.phase ≠ .scheduleLoad →
        Leaves (.scheduleActivate sg) s (s.activate sg.val))
    ∧ (q.activateAt = none → Leaves (.scheduleActivate sg) s s)
    ∧ (s.twin.onMove = true → s.segRuns sg.val = true → q.activating.isSome = true → q.remeasure = [] → q.surveyOut = false → q.activateAt = none →
        s.reloadOk sg.val (q.pending.getD q.sched) = false → Leaves (.remeasureComplete sg) s (s.endActivation sg.val 0x0406))
    ∧ (s.twin.onMove = true → s.segRuns sg.val = true → q.activating.isSome = true → q.remeasure = [] → q.surveyOut = false → q.activateAt = none →
        s.reloadOk sg.val (q.pending.getD q.sched) = true → Leaves (.remeasureComplete sg) s
          ((s.modSeg sg.val (fun g => { g with pending := some { q.pending.getD q.sched with ver := (q.sched.ver + 1) % 65536 } })).planActivate sg.val))
    ∧ (s.twin.onMove = false ∨ q.remeasure ≠ [] ∨ q.surveyOut = true → Leaves (.remeasureComplete sg) s s)

/-- R91, R92, R93, R95, R98, R101, R105, R115, Tables FRM-7, FRM-8, FRM-14: what the head takes from the static slots: a frame outside its slot's owner,
type or window is counted and not taken, an accepted one enters the receive image and the node's record. -/
def Obligations.SlotFrames : Prop :=
  ∀ (s : State) (f : RxFrame) (h : Hdr) (pl : List Byte) (r : SlotRec) (k d : Int),
    let v := s.relay f
    let n := f.port.val / 2
    let fb := v.judge f 1 3 0
    let iov := v.judge f 2 4 0
    let io := iov.content iodFits
    let suv := v.judge f 4 11 0
    let su := suv.content supFits
    let taken := fun (x : Verdict) => (v.countVerdict f x).noteLoop f
    let fmt := fun (s : State) => s.modPort f.port.val (fun p => { p with fmtErr := true, fmtCnt := inc32 p.fmtCnt })
    let ok : Verdict := .ok h pl r k d
    let len := field pl 2 2
    let ioFits := ((byteAt pl 0).toNat = 1 ∨ (byteAt pl 0).toNat = 3) ∧ len ≤ 1016 ∧ 4 + len ≤ pl.length
    (fb = .discard → Leaves (.fbkFrameReceive f) s ((fmt (v.seeLoop f)).noteLoop f))
    ∧ ((∀ h pl r k d, fb ≠ .ok h pl r k d) → Leaves (.fbkFrameReceive f) s (taken fb))
    ∧ (fb = ok → h.loop = false → (byteAt pl 1).getLsbD 2 = false → (taken fb).pastRelease r.axis k = false → Leaves (.fbkFrameReceive f) s
        ((((taken fb).sourceLocate f h k).storeImage n r k h.age pl).modNode n r.node (fun x => { x with loopback := false })))
    ∧ ((∀ h pl r k d, io ≠ .ok h pl r k d) → Leaves (.iodReceive f) s (taken io))
    ∧ (iov = ok → ¬ ioFits → Leaves (.iodReceive f) s ((fmt (v.seeLoop f)).noteLoop f))
    ∧ (iov = ok → ioFits → h.loop = false → (byteAt pl 0).toNat = 1 → Leaves (.iodReceive f) s ((((taken io).sourceLocate f h k).storeImage n r k h.age pl).modNode n r.node (fun x =>
        { x with inStatus := byteAt pl 1, inImage := (pl.drop 4).take len })))
    ∧ ((∀ h pl r k d, su ≠ .ok h pl r k d) → Leaves (.supStatusReceive f) s (taken su))
    ∧ (suv = ok → byteAt pl 0 ≠ 1 → Leaves (.supStatusReceive f) s ((fmt (v.seeLoop f)).noteLoop f))
    ∧ (suv = ok → byteAt pl 0 = 1 → h.loop = false → (byteAt pl 4).getLsbD 6 = false → (byteAt pl 5).getLsbD 6 = false → ∃ u, exec (.supStatusReceive f) s = .next u
        ∧ ((u.seg n).node r.node).supSeen = true ∧ ((u.seg n).node r.node).supA = byteAt pl 4 ∧ ((u.seg n).node r.node).supB = byteAt pl 5
        ∧ ((u.seg n).node r.node).loopback = false)
    ∧ (fb = ok → k = v.rebuildCycle h.cyc ∧ schedOwner (v.sched n) h.slotN k = some r ∧ h.slotM = false ∧ r.node = h.src ∧ r.use = 1 ∧ h.kind = 3
        ∧ (byteAt pl 0).toNat = r.axis ∧ h.src ≠ 0)
    ∧ (fb = ok → v.twin.standby = false → ∀ lam, v.pathDelay n r.node (decide (f.port.val % 2 = 1)) k = some lam →
        d = v.offset n lam k h.slotN f.sfd ∧ -schedW (v.sched n) ≤ d ∧ d < schedW (v.sched n))

/-- R5, R13, R18, R22: the cycle: it starts at t_k and counts on, modulo 2^48, is dispatched 400 ns after its start, sealed once in its last
microsecond, and stands still while the control die is silent or in Endgame.
R19, R20, R22, R154, R155, R169, R178: an engine in service without a task takes the first ready one; the released feedback of an
axis makes its task ready, and so does the deadline of the cycle that is due, without a measurement and with the missing frame counted. -/
def Obligations.CyclesAndTasks : Prop :=
    (∀ (s : State),
       let k := s.cyc.cycle
       let runs := s.saf.silent = false ∧ s.saf.endgame = none
       (runs → s.cyc.running = true → s.tCycle (k + 1) ≤ s.now → ∃ t, exec .cycleStart s = .next t ∧ t.cyc.cycle = (k + 1) % 281474976710656 ∧ t.cyc.running = true)
       ∧ (runs → s.cyc.running = false → s.opening.phase = .segments → s.surveysDone = true → s.tCycle 0 ≤ s.now →
           ∃ t, exec .cycleStart s = .next t ∧ t.cyc.cycle = 0 ∧ t.cyc.running = true)
       ∧ (runs → s.cyc.running = true → s.now < s.tCycle (k + 1) → Leaves .cycleStart s s)
       ∧ (¬ runs ∨ (s.cyc.running = false ∧ s.opening.phase ≠ .segments) → Leaves .cycleStart s s)
       ∧ (s.cyc.running = true → s.cyc.dispatched = false → s.tCycle k + 400 ≤ s.now → ∃ t, exec .localDispatch s = .next t ∧ t.cyc.dispatched = true
           ∧ t.cyc.cycle = k ∧ (s.twin.standby = true → t = { s with cyc := { s.cyc with dispatched := true } }))
       ∧ (s.cyc.running = false ∨ s.cyc.dispatched = true ∨ s.now < s.tCycle k + 400 → Leaves .localDispatch s s)
       ∧ (s.cyc.running = true → s.tCycle (k + 1) - 1000 ≤ s.now → s.cyc.sealedFor ≠ some k → ∃ t, exec .refSeal s = .next t ∧ t.cyc.sealedFor = some k
           ∧ t.cyc.cycle = k ∧ t.pending = s.pending ∧ t.coreTicks = s.coreTicks)
       ∧ (s.cyc.running = false ∨ s.now < s.tCycle (k + 1) - 1000 ∨ s.cyc.sealedFor = some k → Leaves .refSeal s s))
    ∧ (∀ (s : State) (e : EngIx) (a : AxisIx) (n m : Nat) (r : SlotRec) (p : Nat × List Byte) (t : ReadyTask),
         let x := s.engine e.val
         let k := s.dueCycle a.val
         let free := x.inService = true ∧ x.task = none ∧ x.failed = false ∧ (∀ d, x.testDue = some d → d ≤ s.coreTicks)
         let f := fbkOf p.2 p.1 m
         let taken := (s.dropWait n r m).takeFbk a.val f
         let open_ := s.cyc.running = true ∧ s.twin.standby = false ∧ s.isReleased (.axis a) k = false
         let late := s.phaseReached a.val k (s.parN 0x01050001 0 * 100) = true
         let missed := (s.modNode n r.node (fun x => { x with missCnt := inc32 x.missCnt })).modSeg n (fun g => { g with missNow := g.missNow + 1 })
         let stale := fun (u : State) => (u.modAxis a.val (fun x => { x with fbk := { x.fbk with isNew := false } }))
         (free → s.nextTask = some t → Leaves (.engineDispatch e) s (s.startTask e.val t))
         ∧ (¬ free ∨ s.nextTask = none → Leaves (.engineDispatch e) s s)
         ∧ (s.axisSlot a.val 1 = some (n, r) → s.freshFrame n r (s.sampleOf a.val k) = some p → m = s.sampleOf a.val k → open_ → s.phaseReached a.val k 0 = true →
             s.isLineAxis a.val = false → s.networkAxis a.val = true → Leaves (.fbkRelease a) s (taken.makeReady (.axis a) k m f.measures (taken.remoteWindow a.val)))
         ∧ (s.axisSlot a.val 1 = some (n, r) → s.freshFrame n r (s.sampleOf a.val k) = some p → m = s.sampleOf a.val k → open_ → s.phaseReached a.val k 0 = true →
             s.isLineAxis a.val = true → f.measures = true →
             Leaves (.fbkRelease a) s { s.dropWait n r m with line := { (s.dropWait n r m).line with remote := f } })
         ∧ (s.axisSlot a.val 1 = none ∨ s.cyc.running = false ∨ s.twin.standby = true ∨ s.isReleased (.axis a) k = true → Leaves (.fbkRelease a) s s)
         ∧ (open_ → late → s.networkAxis a.val = true → s.isLineAxis a.val = false → s.axisSlot a.val 1 = some (n, r) →
             (s.sampleOf a.val k) % 2 ^ r.mux = r.phase → Leaves (.axisDeadline a) s
               ((stale missed).makeReady (.axis a) k (s.sampleOf a.val k) false ((stale missed).remoteWindow a.val)))
         ∧ (¬ open_ ∨ s.networkAxis a.val = false ∨ s.isLineAxis a.val = true → Leaves (.axisDeadline a) s s))

/-- R19: when several tasks are ready, an engine that is free starts the line-master task before any other, then the task whose reference seal
comes first, then the lower axis index. -/
def Obligations.TasksStartInOrder : Prop :=
  ∀ (s : State) (e : EngIx) (t u : ReadyTask),
    let x := s.engine e.val
    let free := x.inService = true ∧ x.task = none ∧ x.failed = false ∧ (∀ d, x.testDue = some d → d ≤ s.coreTicks)
    let ready := fun (t : ReadyTask) => t ∈ s.eng.ready ∧ s.mayStart t = true
    (free → ready u → ∃ v, Leaves (.engineDispatch e) s (s.startTask e.val v) ∧ ready v
      ∧ (u.owner = .line → v.owner = .line)
      ∧ (∀ a b, v.owner = .axis a → u.owner = .axis b → s.taskSeal v < s.taskSeal u ∨ (s.taskSeal v = s.taskSeal u ∧ a ≤ b)))
    ∧ ((s.startTask e.val t).engine e.val).task.isSome = true

/-- R473, R484, R485, R174: SVC_ENGINE_ROTATE and the rotation by time, the end of an engine's self-test, and the scrubber's rounds. -/
def Obligations.EngineService : Prop :=
  ∀ (s : State) (c : CmdCtx) (engine : BitVec 8) (e : EngIx) (pass : Bool) (corrected st : Nat) (doubles : List ScrubSite),
    let t := s.takeUp c
    let x := s.engine e.val
    let rot := fun (st : Nat) (u : State) => Acts s c 0x0F01 3 → Replies (.svcEngineRotate c engine) s c 0x0F01 st [] u
    let b := t.beginRotation engine.toNat
    let auto := s.parN 0x0F000001 0
    let due := s.boot.ready = true ∧ auto ≠ 0 ∧ s.boot.rotDue ≤ s.coreTicks
    let done := x.rotated = true ∧ x.rotStart + 40000000 ≤ s.coreTicks
    let period := s.parN 0x0F000002 0
    (8 ≤ engine.toNat → rot 0x0105 t) ∧ (engine.toNat < 8 → t.rotateRefusal engine.toNat = some st → rot st t)
    ∧ (engine.toNat < 8 → t.rotateRefusal engine.toNat = none → Follows t c 0x0F01 → Leaves (.svcEngineRotate c engine) s (t.unlog c 0x0F01))
    ∧ (engine.toNat < 8 → t.rotateRefusal engine.toNat = none → t.twin.standby = false → rot 1 { b with boot := { b.boot with rotCtx := some c } })
    ∧ (due → Leaves .rotationDue s (State.retryRotation { s with boot := { s.boot with rotReq := some s.boot.rotNext, rotDue := s.coreTicks + auto * 1000000000 } }))
    ∧ (¬ due → Leaves .rotationDue s s)
    ∧ (done → pass = true → ∃ u, exec (.rotationDone e pass) s = .next u ∧ (u.engine e.val).rotated = false ∧ (u.engine e.val).inService = true
        ∧ (u.engine e.val).scratch = [] ∧ u.freeCtr = s.freeCtr + 1 ∧ u.boot.rotCtx = none)
    ∧ (done → pass = false → x.failed = false → ∃ u, exec (.rotationDone e pass) s = .next u ∧ (u.engine e.val).failed = true ∧ (u.engine e.val).inService = false)
    ∧ (¬ done → Leaves (.rotationDone e pass) s s)
    ∧ (s.boot.scrubNext ≤ s.coreTicks → Leaves (.scrubPeriod corrected doubles) s (doubles.foldl (fun (u : State) d => u.scrubError d) { s with boot := { s.boot with
        scrubNext := s.coreTicks + period * 1000000000, scrubCorr := add32 s.boot.scrubCorr corrected, scrubUnc := add32 s.boot.scrubUnc doubles.length } }))
    ∧ (s.coreTicks < s.boot.scrubNext → Leaves (.scrubPeriod corrected doubles) s s)

/-- R122 to R129, R134, R136: the feedback ports: a level that stood for FB_FILTER samples passes and is stamped with its first sample;
quadrature edges count up or down, two pins that change together are a phase error,
an illegal Hall code counts, the index mark latches, an SSI burst starts in time and its reading enters the port; and the
observer freezes at standstill and ends its settling. -/
def Obligations.FeedbackPorts : Prop :=
  ∀ (s : State) (n : FbIx) (onB lv a b rising : Bool) (code : BitVec 3) (held : Nat) (came : Int) (word : BitVec 56) (o : Owner) (i j : Nat) (old : BitVec 3),
    let m := s.fbMode n.val
    let stamp := sampleTime came
    let passes := s.fbPasses n.val held = true
    let edges := m = 1 ∧ passes
    let x := s.fb n.val
    let inv := s.parN 0x04100003 n.val = 1
    let fwd := if onB then lv == x.a else lv != x.b
    let up := fwd != decide inv
    let pins := fun (x : FbPort) => { x with a := code.getLsbD 2, b := code.getLsbD 1, z := code.getLsbD 0 }
    let hall := fun (f : FbPort → FbPort) => Leaves (.hallCodeChange n code ⟨held, came⟩) s (s.modFb n.val f)
    let bits := s.parN 0x04100010 n.val
    let tail := s.parN 0x04100011 n.val
    let raw := (word.toNat / 2 ^ tail) % 2 ^ bits
    let ob := s.ownerObs o
    let ssi := m = 3 ∨ m = 4
    (edges → (if onB then x.b else x.a) ≠ lv → Leaves (.fbEdge n onB lv ⟨held, came⟩) s (s.changeFb n.val stamp (fun x =>
      { x.counted up stamp with a := if onB then x.a else lv, b := if onB then lv else x.b })))
    ∧ (¬ edges ∨ (if onB then x.b else x.a) = lv → Leaves (.fbEdge n onB lv ⟨held, came⟩) s s)
    ∧ (edges → x.a ≠ a → x.b ≠ b → Leaves (.phaseError n a b ⟨held, came⟩) s (s.phaseErr n.val stamp a b true))
    ∧ (¬ edges ∨ x.a = a ∨ x.b = b → Leaves (.phaseError n a b ⟨held, came⟩) s s)
    ∧ (m = 2 → passes → hallStep code.toNat = none → hall (fun x => { pins x with herr := true, hallErrs := inc32 x.hallErrs, hallIllegal := true }))
    ∧ (m = 2 → passes → hallStep code.toNat = some j → x.hallIllegal = true ∨ x.hall = none → hall (fun x => { pins x with hall := some code, hallIllegal := false }))
    ∧ (m = 2 → passes → hallStep code.toNat = some j → x.hallIllegal = false → x.hall = some old → hallStep old.toNat = some i → j = (i + 1) % 6 → i ≠ j →
        Leaves (.hallCodeChange n code ⟨held, came⟩) s (s.changeFb n.val stamp (fun x => { (pins x).counted (!decide inv) stamp with hall := some code })))
    ∧ (m = 2 → passes → hallStep code.toNat = some j → x.hallIllegal = false → x.hall = some old → hallStep old.toNat = some i → j ≠ i → j ≠ (i + 1) % 6 → i ≠ (j + 1) % 6 →
        Leaves (.hallCodeChange n code ⟨held, came⟩) s ((s.phaseErr n.val stamp (code.getLsbD 2) (code.getLsbD 1) false).modFb n.val (fun x => { pins x with hall := some code })))
    ∧ (m ≠ 2 ∨ ¬ passes → Leaves (.hallCodeChange n code ⟨held, came⟩) s s)
    ∧ (edges → s.parN 0x04100004 n.val = 1 → rising = x.lastUp → Leaves (.indexMark n rising ⟨held, came⟩) s (s.modFb n.val (fun x =>
        ({ x with z := rising } : FbPort).indexLatch stamp (s.par 0x04100005 n.val) (s.par 0x04100006 n.val))))
    ∧ (edges → s.parN 0x04100004 n.val = 1 → rising ≠ x.lastUp → Leaves (.indexMark n rising ⟨held, came⟩) s (s.modFb n.val (fun x => { x with z := rising })))
    ∧ (¬ edges ∨ s.parN 0x04100004 n.val ≠ 1 → Leaves (.indexMark n rising ⟨held, came⟩) s s)
    ∧ (ssi → s.twin.standby = false → s.saf.silent = false → s.cyc.running = true → x.burstFor ≠ some (s.cyc.cycle + 1) →
        s.tCycle (s.cyc.cycle + 1) - s.tSsi n.val ≤ s.now → Leaves (.ssiBurstStart n) s ((s.modFb n.val (fun x =>
          { x with cDriven := true, c := true, burstFor := some (s.cyc.cycle + 1) })).put (.ssiBurst n (bits + tail + 1))))
    ∧ (¬ ssi ∨ s.twin.standby = true ∨ s.cyc.running = false ∨ x.burstFor = some (s.cyc.cycle + 1) → Leaves (.ssiBurstStart n) s s)
    ∧ (m = 3 → tail = 0 → Leaves (.ssiReading n word) s (s.modFb n.val (fun x => x.ssiTake raw bits false (s.parN 0x04100015 n.val))))
    ∧ (m = 4 → tail = 0 → Leaves (.ssiReading n word) s (s.modFb n.val (fun x => x.ssiTake (grayToBin raw bits) bits false (s.parN 0x04100015 n.val))))
    ∧ (m = 3 → tail ≠ 0 → s.parN 0x04100012 n.val = 1 → word.getLsbD 0 = true →
        Leaves (.ssiReading n word) s (s.modFb n.val (fun x => x.ssiTake raw bits true (s.parN 0x04100015 n.val))))
    ∧ (¬ ssi → Leaves (.ssiReading n word) s s)
    ∧ (ob.still = false → s.nStill o ≤ ob.stillTimer → Leaves (.stillEntry o) s (s.modOwnerObs o (fun x => x.freeze x.rawPrev (s.normPos o (x.rawPrev * 65536)))))
    ∧ (ob.still = true → Leaves (.stillEntry o) s s)
    ∧ (ob.settlingFlag = true → ob.settling = 0 → Leaves (.settlingEnd o) s (s.modOwnerObs o (fun x => { x with settlingFlag := false })))
    ∧ (ob.settlingFlag = false ∨ ob.settling ≠ 0 → Leaves (.settlingEnd o) s s)

/-- R28, R268, R269, R272: the heat tick: once a millisecond, the hottest valid sensor, SENSOR_FAULT with fewer than six valid ones, and the
procedure that raises and lowers the trim level; a new level takes effect at the next cycle start. -/
def Obligations.HeatTickTrims : Prop :=
  ∀ (s : State) (temps : List Int) (act : Activity),
    let good := (List.range 8).filter (fun i => sensorOk temps i)
    let allowed := ((List.range 5).filter (fun j => nbit (s.parN 0x0C000006 0) j)).length
    let least := min (s.parN 0x0C000007 0) allowed
    let level := min s.arb.level allowed
    let fault := good.length < 6
    let too := fun (t : State) => s.parN 0x0C000001 0 < t.arb.pEst ∨ (good ≠ [] ∧ s.par 0x0C000002 0 ≤ t.arb.tMax)
    let calm := fun (t : State) => t.arb.pEst + s.parN 0x0C000003 0 ≤ s.parN 0x0C000001 0
      ∧ (good = [] ∨ t.arb.tMax ≤ s.par 0x0C000002 0 - s.par 0x0C000004 0)
    let ends := fun (t : State) (l r : Nat) => t.arb.level = max l least ∧ t.arb.relax = r
    (s.coreTicks < s.arb.nextTick ∨ temps.length ≠ 8 → Leaves (.heatTick temps act) s s)
    ∧ (s.arb.nextTick ≤ s.coreTicks → temps.length = 8 → ∃ t, exec (.heatTick temps act) s = .next t
        ∧ t.arb.nextTick = s.coreTicks + 1000000 ∧ t.arb.temps = temps ∧ t.arb.sensorFault = decide fault
        ∧ (∀ i ∈ good, temps.getD i 0 ≤ t.arb.tMax) ∧ (good ≠ [] → ∃ i ∈ good, t.arb.tMax = temps.getD i 0)
        ∧ (fault → ends t allowed 0)
        ∧ (¬ fault → too t → ends t (min (level + 1) allowed) 0)
        ∧ (¬ fault → ¬ too t → calm t → s.parN 0x0C000005 0 ≤ s.arb.relax + 1 → ends t (level - 1) 0)
        ∧ (¬ fault → ¬ too t → calm t → s.arb.relax + 1 < s.parN 0x0C000005 0 → ends t level (s.arb.relax + 1))
        ∧ (¬ fault → ¬ too t → ¬ calm t → ends t level 0)
        ∧ (s.twin.standby = false → t.cyc.trimNext.getD t.cyc.trim = t.arb.level))
    ∧ (s.saf.silent = false → s.saf.endgame = none → s.cyc.running = true → s.tCycle (s.cyc.cycle + 1) ≤ s.now → s.twin.trimLog = none → s.cyc.trimAt ≤ s.nextCycle →
        ∃ t, exec .cycleStart s = .next t ∧ t.cyc.trim = s.cyc.trimNext.getD s.cyc.trim)

/-- R282, R287, R447: D_max is told once, ARB_QUEUE_READ gives the requests that waited at the last seal, and ARB_BUDGET_SET waits for the
next seal. -/
def Obligations.ArbiterCommands : Prop :=
  ∀ (s : State) (c : CmdCtx) (a : AxisIx) (q : Request) (group which : BitVec 8)
    (start : BitVec 16) (p e r : BitVec 32),
    let t := s.takeUp c
    let d := s.parN 0x0C000008 0 ≤ q.defer ∧ q.dmaxDone = false
    let hit := s.modAxis a.val (fun x => { x with req := some { q with dmaxDone := true }, dmaxHit := true })
    let queue := sget (fun _ => ([] : List (Nat × Nat × Nat))) t.arb.queues group.toNat
    let part := (queue.drop start.toNat).take (t.perPacket c 27 179)
    let rd := fun (st : Nat) (data : List Byte) => Reads s c 0x0C01 1 → Replies (.arbQueueRead c group start) s c 0x0C01 st data t
    let inRange := 1 ≤ p.toNat ∧ p.toNat ≤ 1000000 ∧ 1 ≤ e.toNat ∧ e.toNat ≤ 10000000 ∧ r.toNat ≤ 1000000
    let budget := fun (vs : List (BitVec 32)) => { t with arb := { t.arb with budget := t.arb.budget ++ [⟨c, which.toNat, vs.map (·.toNat)⟩] } }
    ((s.axis a.val).req = none → Leaves (.dmax a) s s) ∧ ((s.axis a.val).req = some q → ¬ d → Leaves (.dmax a) s s)
    ∧ ((s.axis a.val).req = some q → d → 16 ≤ q.group → Leaves (.dmax a) s (hit.raise 0x0C03 1 a.val (be 4 q.defer)))
    ∧ ((s.axis a.val).req = some q → d → q.group < 16 →
        Leaves (.dmax a) s ((hit.modPgroup q.group (fun w => { w with dmax := true })).raise 0x0C03 1 a.val (be 4 q.defer)))
    ∧ (16 ≤ group.toNat → rd 0x0105 [])
    ∧ (group.toNat < 16 → rd 0 (be 2 queue.length ++ be 2 part.length ++ part.flatMap (fun (x : Nat × Nat × Nat) => be 2 x.1 ++ be 1 x.2.1 ++ [0] ++ be 4 x.2.2)))
    ∧ (Acts s c 0x0C02 3 → which.toNat < 16 → inRange → Leaves (.arbBudgetSet c which [p, e, r]) s (budget [p, e, r]))
    ∧ (Acts s c 0x0C02 3 → which.toNat < 16 → ¬ inRange → Replies (.arbBudgetSet c which [p, e, r]) s c 0x0C02 0x0105 [] t)
    ∧ (Acts s c 0x0C02 3 → which = 0xFF → 400 ≤ p.toNat → p.toNat ≤ 1200 → Leaves (.arbBudgetSet c which [p]) s (budget [p]))
    ∧ (Acts s c 0x0C02 3 → which = 0xFF → p.toNat < 400 ∨ 1200 < p.toNat → Replies (.arbBudgetSet c which [p]) s c 0x0C02 0x0105 [] t)

/-- R281: the requests of a group are taken by priority number, then age, then axis; one is admitted when E ≥ E_req and P_run + P_req ≤ P_max,
and takes its energy and power; the first that is not admitted is deferred, and every later one waits. -/
def Obligations.AdmissionOrder : Prop :=
  ∀ (s : State) (k g a : Nat) (q : Request) (x : Nat × Request) (xs : List (Nat × Request)),
    let w := s.pgroup g
    let t := s.admitGroup k g
    let before := fun (x y : Nat × Request) => x.2.prio < y.2.prio ∨ (x.2.prio = y.2.prio ∧ (x.2.cycle < y.2.cycle ∨ (x.2.cycle = y.2.cycle ∧ x.1 ≤ y.1)))
    let start := s.isChange a q.kind = false ∧ q.change = false ∧ q.group = g ∧ g < 16
    (s.waitingReqs g).Pairwise before
    ∧ ((a, q) ∈ s.waitingReqs g ↔ q.group = g ∧ ∃ y, (a, y) ∈ s.axes ∧ y.req = some q)
    ∧ (start → (s.fits a k q = true ↔ (q.eReq * 1000 : Nat) ≤ w.e ∧ w.pRun + q.pReq ≤ s.pgMax g))
    ∧ (start → s.waitingReqs g = [(a, q)] → s.fits a k q = true → (∀ first rel, q.kind = .profile first rel → (s.axis a).span = none → (s.axis a).prof.group = none →
        (t.pgroup g).e = w.e - (q.eReq * 1000 : Nat) ∧ (t.pgroup g).pRun = w.pRun + q.pReq ∧ (t.axis a).req = none ∧ t.axState a = .running))
    ∧ (g < 16 → s.waitingReqs g = x :: xs → s.fits x.1 k x.2 = false → (∀ y ∈ x :: xs, s.tooLong y.1 k y.2.kind = false) → (t.pgroup g).e = w.e ∧ (t.pgroup g).pRun = w.pRun
        ∧ (∀ b, (t.axis b).req.isSome = (s.axis b).req.isSome ∧ t.axState b = s.axState b))

/-- R380, R381, R383, R386 to R392: the Scoresheet samples each tick once, captures only when armed, and its commands are refused outside
their phases; SCS_READ gives the entries asked for. -/
def Obligations.Scoresheet : Prop :=
  ∀ (s : State) (c : CmdCtx) (f : CmdCtx) (pin : Fin 4) (level : Bool) (held : Nat) (stamp : Int) (first : BitVec 32) (count : BitVec 16),
    let t := s.takeUp c
    let tick := s.now / 1000 * 1000 - 1000
    let idle := fun (s : State) => s.scs.phase = .idle ∨ s.scs.phase = .done
    let waits := fun (s : State) => s.scs.phase = .waitMaster ∨ s.scs.phase = .waitFire
    let s0 := s.modScs (fun x => { x with tick := tick })
    let full := s.scs.phase = .post ∧ s.scsFull = true
    let high := s.scs.pinOut.getLsbD pin.val = true ∧ sget (fun _ => 0) s.scs.pinEnd pin.val ≤ s.coreTicks
    let short := ∃ i < 72, 0 < t.chanWeight i ∧ t.ringLen i < 64
    let arm := fun (st : Nat) => Acts s c 0x0A01 3 → Replies (.scsArm c) s c 0x0A01 st [] t
    let most := if (t.session c.slot.val).source = .pcie then 27 else 179
    let inTrace := count ≠ 0 ∧ count.toNat ≤ most ∧ first.toNat + count.toNat ≤ 524288
    (tick ≤ s.scs.tick → Leaves .scsTick s s)
    ∧ (s.scs.tick < tick → idle s → Leaves .scsTick s (s0.sampleTick tick).writePort)
    ∧ (s.scs.tick < tick → ¬ idle s → ∃ u, exec .scsTick s = .next u ∧ u.scs.tick = tick ∧ u.coreTicks = s.coreTicks ∧ u.arb = s.arb)
    ∧ (full → Leaves .captureDone s ((s.modScs (fun x => { x with phase := .done })).raise 0x0A01 0 0 [BitVec.ofNat 8 s.scs.fireMask, BitVec.ofNat 8 (s.scs.first.getD 0xFF)]))
    ∧ (¬ full → Leaves .captureDone s s)
    ∧ (s.parN 0x0A400001 pin.val = 1 ∨ held < 2 ∨ s.scs.pinLevel.getLsbD pin.val = level → Leaves (.trgPinEdge pin level ⟨held, stamp⟩) s s)
    ∧ (s.parN 0x0A400001 pin.val ≠ 1 → 2 ≤ held → s.scs.pinLevel.getLsbD pin.val ≠ level → ∃ u, exec (.trgPinEdge pin level ⟨held, stamp⟩) s = .next u ∧ u.scs.pinLevel.getLsbD pin.val = level
        ∧ (∀ i, i ≠ pin.val → u.scs.pinLevel.getLsbD i = s.scs.pinLevel.getLsbD i) ∧ u = { s with scs := u.scs })
    ∧ (high → ∃ u, exec (.trgOutputEnd pin) s = .next u ∧ u.scs.pinOut.getLsbD pin.val = false
        ∧ (∀ i, i ≠ pin.val → u.scs.pinOut.getLsbD i = s.scs.pinOut.getLsbD i) ∧ u = { s with scs := u.scs })
    ∧ (¬ high → Leaves (.trgOutputEnd pin) s s)
    ∧ (t.unitsBad = true → arm 0x0108) ∧ (t.unitsBad = false → ¬ idle t ∨ t.scs.armPending ≠ none → arm 0x0301)
    ∧ (t.unitsBad = false → idle t → t.scs.armPending = none → short → arm 0x0404)
    ∧ (Acts s c 0x0A01 3 → t.unitsBad = false → idle t → t.scs.armPending = none → ¬ short → Leaves (.scsArm c) s (t.modScs (fun x => { x with armPending := some c })))
    ∧ (Acts s c 0x0A02 3 → ¬ waits t ∨ t.scs.forceCtx ≠ none → Replies (.scsForce c) s c 0x0A02 0x0301 [] t)
    ∧ (Acts s c 0x0A02 3 → waits t → t.scs.forceCtx = none → Leaves (.scsForce c) s (t.modScs (fun x => { x with forceCtx := some c })))
    ∧ (Acts s c 0x0A03 3 → t.scs.forceCtx = none → Replies (.scsStop c) s c 0x0A03 0 [] (t.modScs (fun x => { x with phase := .done, armTick := none })))
    ∧ (Acts s c 0x0A03 3 → t.scs.forceCtx = some f → Replies (.scsStop c) s c 0x0A03 0 []
        (((t.modScs (fun x => { x with forceCtx := none })).replyLater f 0x0A02 0x0301 []).modScs (fun x => { x with phase := .done, armTick := none })))
    ∧ (Reads s c 0x0A04 1 → ¬ inTrace → Replies (.scsRead c first count) s c 0x0A04 0x0105 [] t)
    ∧ (Reads s c 0x0A04 1 → inTrace → Replies (.scsRead c first count) s c 0x0A04 0
        ((List.range count.toNat).flatMap (fun i => be 8 (sget (fun _ => (0 : BitVec 64)) t.scs.trace (first.toNat + i)).toNat)) t)

/-- R401 to R403, R506: a PTP instance counts messages of other domains, follows the best transmitter, measures at each Sync and each
delay response, and a source becomes invalid when its Syncs, delay measurements or edges stay away.
R404 to R411: the selected source follows the list, the slew ends within 100 ns, a time fault is told once, the step lands at a
boundary with nothing COMMITTED or is abandoned, PPS_OUT rises each served second; TIM_GET, TIM_SRC_READ and TIM_RESTEP. -/
def Obligations.WallTime : Prop :=
    (∀ (s : State) (d : Fin 2) (dom : BitVec 8) (two : Bool) (seq q : BitVec 16) (origin rx t3 tx stamp e0 : Int) (rank r0 : Nat) (src w0 : BitVec 64),
       let p := s.ptp d.val
       let mine := dom.toNat = s.parN 0x0B100001 d.val
       let x := s.source (d.val + 1)
       let other := s.setSource (d.val + 1) { x with bad := inc32 x.bad }
       let y := s.source (d.val + 3)
       let off := fun (a b : Int) => 100000 < (a - b - 1000000000).natAbs
       let lostSync := p.lastSync = none ∨ ∃ t, p.lastSync = some t ∧ t + s.parN 0x0B100004 d.val * p.interval ≤ s.coreTicks
       let lostDelay := p.delayTick = none ∨ ∃ t, p.delayTick = some t ∧ t + 16000000000 ≤ s.coreTicks
       let lost := fun (c : Nat) => s.setSource c { s.source c with valid := false, run := 0, badRun := 0 }
       let peer := s.parN 0x0B100002 d.val = 1
       let delay := if peer then (origin - t3) / 2 else (p.t2 - p.t1 + (origin - t3)) / 2
       let answered := s.setPtp d.val { p with delay := delay, delayTick := some s.coreTicks, reqTx := none }
       (¬ mine → Leaves (.ptpSync d dom two seq origin rx) s other ∧ Leaves (.ptpFollowUp d dom seq origin) s other
         ∧ Leaves (.ptpAnnounce d dom rank src) s other ∧ Leaves (.ptpDelayResp d dom seq origin) s other)
       ∧ (mine → p.transmitter = none → Leaves (.ptpSync d dom two seq origin rx) s s)
       ∧ (mine → p.transmitter = some (r0, w0) → two = true → Leaves (.ptpSync d dom two seq origin rx) s (s.setPtp d.val { p with waiting := some (seq, rx) }))
       ∧ (mine → p.transmitter = some (r0, w0) → two = false → Leaves (.ptpSync d dom two seq origin rx) s (s.takeSync d.val origin rx))
       ∧ (mine → p.waiting = none → Leaves (.ptpFollowUp d dom seq origin) s s)
       ∧ (mine → p.waiting = some (q, rx) → q ≠ seq → Leaves (.ptpFollowUp d dom seq origin) s s)
       ∧ (mine → p.waiting = some (q, rx) → q = seq → Leaves (.ptpFollowUp d dom seq origin) s (s.takeSync d.val origin rx))
       ∧ (mine → p.transmitter = none ∨ (p.transmitter = some (r0, w0) ∧ (w0 = src ∨ rank < r0)) →
           Leaves (.ptpAnnounce d dom rank src) s (s.setPtp d.val { p with transmitter := some (rank, src) }))
       ∧ (mine → p.transmitter = some (r0, w0) → w0 ≠ src → r0 ≤ rank → Leaves (.ptpAnnounce d dom rank src) s s)
       ∧ (mine → p.reqTx = none ∨ seq ≠ p.reqSeq → Leaves (.ptpDelayResp d dom seq origin) s s)
       ∧ (mine → p.reqTx = some t3 → seq = p.reqSeq → Leaves (.ptpDelayResp d dom seq origin) s
           ((if p.delayTick = none ∧ p.lastSync ≠ none then answered.measureSource (d.val + 1) (p.t1 - p.t2 + delay) p.t2 else answered).checkPtp d.val))
       ∧ (p.transmitter ≠ none ∨ peer → Leaves (.ptpDelayReqSend d tx) s
           ((s.setPtp d.val { p with reqSeq := p.reqSeq + 1, reqTx := some (tx + s.par 0x0B100006 d.val) }).put (.delayReq d (p.reqSeq + 1))))
       ∧ (p.transmitter = none → ¬ peer → Leaves (.ptpDelayReqSend d tx) s s)
       ∧ (x.valid = true → lostSync ∨ lostDelay → Leaves (.syncLoss d) s (lost (d.val + 1)))
       ∧ (x.valid = false ∨ (¬ lostSync ∧ ¬ lostDelay) → Leaves (.syncLoss d) s s)
       ∧ (y.again stamp = true → Leaves (.ppsEdge d stamp) s s)
       ∧ (∀ t, y.pinAt = some t → (y.again stamp = true ↔ stamp - t < 1000))
       ∧ (y.again stamp = false → y.lastEdge = some e0 → off stamp e0 → y.valid = true → y.badRun = 0 →
           Leaves (.ppsEdge d stamp) s (s.setSource (d.val + 3) { y with pinAt := some stamp, bad := inc32 y.bad, badRun := 1, lastEdgeTick := s.coreTicks }))
       ∧ (y.again stamp = false → y.lastEdge = some e0 → off stamp e0 → y.valid = true → y.badRun ≠ 0 → ∃ t, exec (.ppsEdge d stamp) s = .next t
           ∧ (t.source (d.val + 3)).valid = false ∧ (t.source (d.val + 3)).bad = inc32 y.bad)
       ∧ (y.again stamp = false → y.lastEdge = some e0 → ¬ off stamp e0 → 2 ≤ y.run → s.time.timeValid = true ∨ s.time.tod = true →
           ∃ t, exec (.ppsEdge d stamp) s = .next t ∧ (t.source (d.val + 3)).valid = true ∧ (t.source (d.val + 3)).run = y.run + 1)
       ∧ (y.valid = true → y.lastEdgeTick + 1500000000 ≤ s.coreTicks → Leaves (.ppsLoss d) s (lost (d.val + 3)))
       ∧ (y.valid = false ∨ s.coreTicks < y.lastEdgeTick + 1500000000 → Leaves (.ppsLoss d) s s))
    ∧ (∀ (s : State) (c : CmdCtx) (src : BitVec 8) (p : PendingStep) (n : Nat),
         let t := s.takeUp c
         let x := s.time
         let th := (s.source x.selected).theta
         let ahead := s.prio.takeWhile (fun c => decide (c ≠ x.selected))
         let stable := fun (c : Nat) => (s.source c).valid = true ∧ (s.source c).validSince + 10000000000 ≤ s.coreTicks
         let due := s.stepDue = true
         let moving := ∃ a < 256, t.axState a = .running
         let rs := fun (st : Nat) (u : State) => ActsExpert s c 0x0B03 3 → Replies (.timRestep c) s c 0x0B03 st [] u
         (s.choice ≠ x.selected → Leaves .sourceSwitch s (s.selectSource s.choice)) ∧ (s.choice = x.selected → Leaves .sourceSwitch s s)
         ∧ (ahead.find? (fun c => (s.source c).valid && decide ((s.source c).validSince + 10000000000 ≤ s.coreTicks)) = some n →
             stable n ∧ (x.selected ≠ 0 → x.selected ∈ s.prio → Leaves .sourceTakeover s (s.selectSource n)))
         ∧ ((∀ c ∈ ahead, ¬ stable c) ∨ x.selected = 0 ∨ x.selected ∉ s.prio → Leaves .sourceTakeover s s)
         ∧ (x.state = .slew → s.twin.standby = false → th.natAbs ≤ 1000 → Leaves .slewEnd s { s with time := { x with state := .locked, switched := false, slewDir := 0 } })
         ∧ (x.state ≠ .slew ∨ s.twin.standby = true ∨ 1000 < th.natAbs → Leaves .slewEnd s s)
         ∧ (x.timeValid = true → x.selected ≠ 0 → x.offsetHigh = true → x.faultTold = false → Leaves .timeFault s
             (State.raise { s with time := { x with timeFault := true, faultTold := true, timeFaults := inc32 x.timeFaults } } 0x0B02 2 0 (beI 6 th)))
         ∧ (x.timeValid = false ∨ x.selected = 0 ∨ x.offsetHigh = false ∨ x.faultTold = true → Leaves .timeFault s s)
         ∧ (x.step = none ∨ ¬ due → Leaves .timeStep s s ∧ Leaves .restepAbandoned s s)
         ∧ (x.step = some p → due → s.restepBlocked p = false → Leaves .timeStep s ((s.stepClock p.delta).cmdDone? p.ctx 0x0B03 0 0) ∧ Leaves .restepAbandoned s s)
         ∧ (x.step = some p → due → s.restepBlocked p = true → Leaves .timeStep s s ∧ Leaves .restepAbandoned s
             ((State.raise { s with time := { x with step := none } } 0x0B04 1 0 []).cmdDone? p.ctx 0x0B03 0 0x0301))
         ∧ (x.timeValid = true → x.ppsSec ≠ x.sec → Leaves .ppsOutPulse s
             { s with time := { x with ppsOut := true, ppsSec := x.sec, ppsEnd := s.coreTicks + s.parN 0x0B000004 0 * 1000000 } })
         ∧ (x.timeValid = false ∨ x.ppsSec = x.sec → Leaves .ppsOutPulse s s)
         ∧ (x.ppsOut = true → x.ppsEnd ≤ s.coreTicks → Leaves .ppsOutEnd s { s with time := { x with ppsOut := false } })
         ∧ (x.ppsOut = false ∨ s.coreTicks < x.ppsEnd → Leaves .ppsOutEnd s s)
         ∧ (Reads s c 0x0B01 1 → Replies (.timGet c) s c 0x0B01 0 (t80Bytes s.now ++ be 1 (clockCode x.state) ++ be 1 x.selected
             ++ beI 6 (if x.selected = 0 then 0 else th)) t)
         ∧ (Reads s c 0x0B02 1 → src = 0 ∨ 4 < src.toNat → Replies (.timSrcRead c src) s c 0x0B02 0x0105 [] t)
         ∧ (Reads s c 0x0B02 1 → src ≠ 0 → src.toNat ≤ 4 → Replies (.timSrcRead c src) s c 0x0B02 0
             (be 1 (b2n (s.source src.toNat).valid) ++ beI 6 (s.source src.toNat).theta ++ beI 4 (s.source src.toNat).rate) t)
         ∧ (moving ∨ (t.source t.time.selected).valid = false → rs 0x0301 t) ∧ (¬ moving → (t.source t.time.selected).valid = true → t.time.step ≠ none → rs 0x0303 t)
         ∧ (¬ moving → (t.source t.time.selected).valid = true → t.time.step = none →
             rs 1 { t with time := { t.time with step := some ⟨rdiv (t.source t.time.selected).theta 10, some c⟩ } }))

/-- R296, R305 to R308: what takes a group out of SS1: T_MAX, and standstill confirmed by the channel; speeds that disagree and uplinks
that stay away demand STO.
R302, R303, R310: an input pair that disagrees too long latches and demands, the barrier link is lost after 62.5 µs and
recovers with 64 frames, and an acknowledge edge expires. -/
def Obligations.SafetyMonitors : Prop :=
    (∀ (s : State) (ch : Chan) (g : GroupIx) (a : AxisIx) (t0 : Int),
       let x := (s.chan ch).group g.val
       let past := fun (t0 : Int) => x.ss1Start = some t0 ∧ x.code = 1 ∧ t0 + (s.parN 0x08100005 g.val : Int) * 1000000 ≤ s.chTime ch
       let still := s.groupStill ch g.val = true
       let ga := s.parN 0x08200001 a.val
       let apart := s.monitored a.val = true ∧ s.discrepant a.val = true ∧ (s.saf.p.group ga).code ≠ 2
       let quiet := fun (ch : Chan) => ((s.chan ch).mon a.val).lastArrival + s.parN 0x08200007 a.val ≤ s.cyc.cycle
       (past t0 → Leaves (.ss1Tmax ch g) s ((s.modGrpFlags g.val (fun f => { f with tMax := true })).demand ch g.val true 0x05))
       ∧ ((∀ t, ¬ past t) → Leaves (.ss1Tmax ch g) s s)
       ∧ (still → x.code = 1 → x.ss1Start ≠ none → Leaves (.standstillConfirm ch g) s
           ((s.setChan ch ((s.chan ch).setGroup g.val { x with confirmed := true, still := true })).demand ch g.val true 0x06))
       ∧ (still → x.code = 2 → Leaves (.standstillConfirm ch g) s (s.setChan ch ((s.chan ch).setGroup g.val { x with still := true })))
       ∧ (¬ still ∨ x.code = 0 ∨ (x.code = 1 ∧ x.ss1Start = none) → Leaves (.standstillConfirm ch g) s s)
       ∧ (apart → Leaves (.speedDiscrepancy a) s ((s.flagGroup a.val (fun f => { f with fbDisc := true })).demand .p ga true 0x09))
       ∧ (¬ apart → Leaves (.speedDiscrepancy a) s s)
       ∧ ((s.saf.p.mon a.val).invalidRun < 3 → (s.saf.h.mon a.val).invalidRun < 3 → Leaves (.uplinkInvalidRun a) s s)
       ∧ (s.monitored a.val = false → Leaves (.uplinkInvalidRun a) s s)
       ∧ (s.monitored a.val = true → 3 ≤ (s.saf.p.mon a.val).invalidRun → ((s.upFault .p a.val).saf.h.mon a.val).invalidRun < 3 → Leaves (.uplinkInvalidRun a) s (s.upFault .p a.val))
       ∧ (s.monitored a.val = true → (s.saf.p.mon a.val).invalidRun < 3 → 3 ≤ (s.saf.h.mon a.val).invalidRun → Leaves (.uplinkInvalidRun a) s (s.upFault .h a.val))
       ∧ (s.cyc.running = true → s.monitored a.val = true → ¬ quiet .p → quiet .h → Leaves (.upTimeout a) s (s.upFault .h a.val))
       ∧ (s.cyc.running = false ∨ s.monitored a.val = false ∨ (¬ quiet .p ∧ ¬ quiet .h) → Leaves (.upTimeout a) s s))
    ∧ (∀ (s : State) (ch : Chan) (i : PairIx) (n : Nat) (e : Int),
         let c := s.chan ch
         let x := c.pair i.val
         let late := fun (t : Nat) => x.disagreeSince = some t ∧ s.pairUsed i.val = true ∧ x.latch = false ∧ t + s.parN 0x08300004 i.val * 1000000 < s.coreTicks
         let gone := c.linkLost = false ∧ c.lastFrame + 62500 ≤ s.coreTicks
         let back := c.linkLost = true ∧ 64 ≤ c.recover
         (late n → Leaves (.siDiscrepancy ch i) s ((s.setChan ch (c.setPair i.val { x with latch := true, sawDemand := false })).demandPair ch i.val 0x02 true))
         ∧ ((∀ t, ¬ late t) → Leaves (.siDiscrepancy ch i) s s)
         ∧ (gone → Leaves (.barrierLinkLost ch) s ((s.setChan ch { c with linkLost := true, recover := 0 }).pairDemands ch)) ∧ (¬ gone → Leaves (.barrierLinkLost ch) s s)
         ∧ (back → Leaves (.barrierLinkRecover ch) s (s.setChan ch { c with linkLost := false, recover := 0 })) ∧ (¬ back → Leaves (.barrierLinkRecover ch) s s)
         ∧ ((s.chan ch).ackEdge = some e → ∃ t, exec .ackWinExpiry s = .next t
             ∧ ((t.chan ch).ackEdge = if s.edgeRecent e then some e else none) ∧ (s.edgeRecent e = false → (t.chan ch).ackUsed = false)
             ∧ t = { s with saf := { s.saf with p := t.saf.p, h := t.saf.h } }))

/-- R297, R298: each channel keeps its own group states; a demand on a group in a harsher state changes nothing (the model notes only the cycle of the
latest demand), a second SS1 demand does not restart the monitor, and SS1 and STO in one cycle give STO; CAUSE is that of
the demand that moved the group out of NORMAL. -/
def Obligations.HarsherStateHolds : Prop :=
  ∀ (s : State) (ch other : Chan) (g h cause cause2 : Nat) (sto : Bool),
    let t := s.demand ch g sto cause
    let x := (s.chan ch).group g
    let y := (t.chan ch).group g
    let same := y = { x with lastDemand := some s.cyc.cycle }
    (other ≠ ch → t.chan other = s.chan other) ∧ (h ≠ g → (t.chan ch).group h = (s.chan ch).group h)
    ∧ (x.code = 2 → same) ∧ (x.code = 1 → sto = false → same)
    ∧ (x.code = 0 → y.code = (if sto then 2 else 1) ∧ y.cause = cause) ∧ (x.code = 1 → sto = true → y.code = 2 ∧ y.cause = x.cause)
    ∧ (s.groupState g = 0 → (t.grpFlags g).cause = cause) ∧ (s.groupState g ≠ 0 → (t.grpFlags g).cause = (s.grpFlags g).cause)
    ∧ ((((s.demand ch g false cause).demand ch g true cause2).chan ch).group g).code = 2
    ∧ ((((s.demand ch g true cause).demand ch g false cause2).chan ch).group g).code = 2

/-- R303: without a valid barrier frame for 62.5 µs a channel treats every pair as in demand, with cause 0x0A, until valid frames have arrived for
64 consecutive frame periods. -/
def Obligations.BarrierLossDemands : Prop :=
  ∀ (s : State) (ch : Chan) (i : PairIx) (g : GroupIx) (bytes : List Byte),
    let c := s.chan ch
    let gone := c.linkLost = false ∧ c.lastFrame + 62500 ≤ s.coreTicks
    let clean := ∀ j < 8, (c.pair j).latch = false
    let u := s.channelUplink ch bytes
    (gone → ∃ t, exec (.barrierLinkLost ch) s = .next t ∧ (t.chan ch).linkLost = true ∧ (t.chan ch).recover = 0
      ∧ (s.pairUsed i.val = true → t.pairDemand ch i.val = true)
      ∧ (s.pairUsed i.val = true → nbit (s.parN 0x08300003 i.val) g.val = true → ((t.chan ch).group g.val).code ≠ 0
          ∧ (clean → (c.group g.val).code = 0 → ((t.chan ch).group g.val).cause = 0x0A)))
    ∧ (¬ gone → Leaves (.barrierLinkLost ch) s s)
    ∧ (c.linkLost = true → c.recover < 64 → s.pairUsed i.val = true → Leaves (.barrierLinkRecover ch) s s ∧ s.pairDemand ch i.val = true)
    ∧ (c.linkLost = true → 64 ≤ c.recover → Leaves (.barrierLinkRecover ch) s (s.setChan ch { c with linkLost := false, recover := 0 }))
    ∧ (c.linkLost = false → Leaves (.barrierLinkRecover ch) s s)
    ∧ (u.chan ch).lastFrame = s.coreTicks ∧ (u.chan ch).linkLost = c.linkLost
    ∧ (c.linkLost = true → (u.chan ch).recover = if s.coreTicks ≤ c.lastFrame + 23437 then c.recover + 1 else 1)

/-- R298, R310, R311, R313: SAF_DEMAND stops the groups of its mask in both channels and replies when the demand has landed; SAF_ACK
returns groups in STO to NORMAL only without a demand and with an edge; SAF_PARAM_LOAD keeps a section until an edge puts it in force
or 60 s discard it. -/
def Obligations.SafetyCommands : Prop :=
  ∀ (s : State) (c : CmdCtx) (mask : BitVec 32) (kind : BitVec 8) (sect : List Byte) (p : PendingSection),
    let t := s.takeUp c
    let sto := decide (kind = 0)
    let d := (t.demandMask .p mask.toNat sto 0x03).demandMask .h mask.toNat sto 0x03
    let named := fun (g : Nat) => g < 32 ∧ nbit mask.toNat g = true
    let allSto := ∀ g, named g → (t.saf.p.group g).code = 2 ∧ (t.saf.h.group g).code = 2
    let demanded := ∃ g, named g ∧ (t.demandActive .p g = true ∨ t.demandActive .h g = true
      ∨ (t.saf.p.group g).lastDemand = some t.cyc.cycle ∨ (t.saf.h.group g).lastDemand = some t.cyc.cycle)
    let ack := fun (st : Nat) => Acts s c 0x0802 2 → Replies (.safAck c mask) s c 0x0802 st [] t
    let touched := ∃ a < 256, nbit (t.touchedMask sect) (t.parN 0x08200001 a) = true ∧ t.axState a ≠ .disabled
    let load := fun (st : Nat) (data : List Byte) (u : State) => Acts s c 0x0803 4 → sect.length % 16 = 4 → Replies (.safParamLoad c sect) s c 0x0803 st data u
    let crc := be 4 (sectionCrc sect)
    let edge := s.edgeSince p.since = true ∧ s.now ≤ p.since + 60000000000
    let none_ := { s with saf := { s.saf with pendingSec := none } }
    (Acts s c 0x0801 2 → kind.toNat < 2 → Leaves (.safDemand c mask kind) s { d with saf := { d.saf with demandWait := d.saf.demandWait ++ [c] } })
    ∧ (Acts s c 0x0801 2 → kind = 0 → ∃ u, exec (.safDemand c mask kind) s = .next u
        ∧ ∀ g, named g → (u.saf.p.group g).code = 2 ∧ (u.saf.h.group g).code = 2)
    ∧ (Acts s c 0x0801 2 → 2 ≤ kind.toNat → Replies (.safDemand c mask kind) s c 0x0801 0x0105 [] t)
    ∧ (¬ allSto → ack 0x0507) ∧ (allSto → demanded → ack 0x0503) ∧ (allSto → ¬ demanded → t.ackEdgeOk = false → ack 0x0502)
    ∧ (Acts s c 0x0802 2 → allSto → ¬ demanded → t.ackEdgeOk = true → ∃ u, Replies (.safAck c mask) s c 0x0802 0 [] u
        ∧ (u.saf.p.ackUsed = true ∧ u.saf.h.ackUsed = true) ∧ ∀ g, named g → (u.saf.p.group g).code = 0 ∧ (u.saf.h.group g).code = 0)
    ∧ (t.saf.pendingSec ≠ none → load 0x0303 [] t) ∧ (t.saf.pendingSec = none → touched → load 0x0506 [] t)
    ∧ (t.saf.pendingSec = none → ¬ touched → load 1 (crc ++ crc)
        { t with saf := { t.saf with pendingSec := some { items := sectionValues sect, since := s.now, raw := sect } } })
    ∧ (s.saf.pendingSec = none → Leaves .safParamActivate s s ∧ Leaves .safParamDiscard s s)
    ∧ (s.saf.pendingSec = some p → ¬ edge → Leaves .safParamActivate s s)
    ∧ (s.saf.pendingSec = some p → edge → Leaves .safParamActivate s (((none_.applySection p.raw).queueConfig s).raise 0x0802 0 0 ([0] ++ be 4 (sectionCrc p.raw))))
    ∧ (s.saf.pendingSec = some p → p.since + 60000000000 < s.now → Leaves .safParamDiscard s (none_.raise 0x0802 0 0 ([1] ++ be 4 (sectionCrc p.raw))))
    ∧ (s.saf.pendingSec = some p → s.now ≤ p.since + 60000000000 → Leaves .safParamDiscard s s)

/-- R293, R294, R295, R308: a SAF uplink is judged twice: one that is valid for both channels ends their runs of invalid frames and gives them
its count, one whose CRC_N fails is counted and invalid for both, and one that does not verify is invalid for both; the tap keeps the SEQ
of the frame that passes and counts the consecutive cycles in which what returns differs from what was sent; the island reports its SEQ. -/
def Obligations.SafetyFrames : Prop :=
  ∀ (s : State) (f : RxFrame) (h : Hdr) (pl : List Byte) (r : SlotRec) (k d : Int),
    let u := s.relay f
    let n := f.port.val / 2
    let hd := parseHdr f.bytes
    let sent := sget (fun _ => ([] : List Byte)) u.saf.injected (n * 8 + hd.cyc % 8)
    let down := hd.kind = tSaf ∧ hd.len = 7 ∧ hd.src = 0 ∧ u.rx f ≠ .off
    let kept := { u with saf := { u.saf with tapSeq := some (field pl 8 2) } }
    let checked := f.port.val % 2 = 1 ∧ hd.loop = false ∧ u.twin.standby = false ∧ sent ≠ []
    let same := decide (sent = f.bytes) && !f.error
    let ran := fun (t : State) => { t with saf := { t.saf with
      tapRun := sput (fun _ => ((0, 0) : Nat × Nat)) t.saf.tapRun n (u.tapAfter n (u.rebuildCycle hd.cyc).toNat same) } }
    let last := sget (fun _ => ((0, 0) : Nat × Nat)) s.saf.tapRun n
    let runs := s.saf.islandRunning = true ∧ s.saf.endgame = none ∧ s.saf.silent = false
    let owner := schedOwner (u.sched n) hd.slotN (u.rebuildCycle hd.cyc)
    let v := u.judge f useSaf tSaf 0
    let heard := (u.countVerdict f v).noteLoop f
    let a := r.axis
    let p := fun (s : State) => s.saf.p.mon a
    let q := fun (s : State) => s.saf.h.mon a
    (¬ down → Leaves (.safTapReceive f) s u)
    ∧ (down → (∀ h pl, u.rx f ≠ .ok h pl) → ¬ checked → Leaves (.safTapReceive f) s u)
    ∧ (down → (∀ h pl, u.rx f ≠ .ok h pl) → checked → Leaves (.safTapReceive f) s (ran u))
    ∧ (u.rx f = .ok h pl → down → ¬ checked → Leaves (.safTapReceive f) s kept)
    ∧ (u.rx f = .ok h pl → down → checked → Leaves (.safTapReceive f) s (ran kept))
    ∧ (∀ c, s.tapAfter n c true = (0, c) ∧ (last.1 ≠ 0 → last.2 + 1 = c → s.tapAfter n c false = (last.1 + 1, c))
        ∧ (last.1 ≠ 0 → last.2 = c → s.tapAfter n c false = last) ∧ (last.1 = 0 ∨ (last.2 ≠ c ∧ last.2 + 1 ≠ c) → s.tapAfter n c false = (1, c)))
    ∧ (owner = none → Leaves (.safUplinkReceive f) s heard)
    ∧ (owner = some r → r.use ≠ useSaf ∨ hd.src = 0 → Leaves (.safUplinkReceive f) s heard)
    ∧ (owner = some r → r.use = useSaf → hd.src ≠ 0 → (∀ h pl, u.rx f ≠ .ok h pl) →
        Leaves (.safUplinkReceive f) s ((heard.upInvalid .p r.axis).upInvalid .h r.axis))
    ∧ (v = .ok h pl r k d → u.judgeUplink .p n r k pl = .valid → u.judgeUplink .h n r k pl = .valid → ∃ t, exec (.safUplinkReceive f) s = .next t
        ∧ ((p t).invalidRun = 0 ∧ (p t).lastArrival = s.cyc.cycle ∧ (p t).lastCount = some (field pl 4 6, k.toNat))
        ∧ ((q t).invalidRun = 0 ∧ (q t).lastArrival = s.cyc.cycle ∧ (q t).lastCount = some (field pl 4 6, k.toNat)))
    ∧ (v = .ok h pl r k d → u.judgeUplink .p n r k pl = .crc → ∃ t, exec (.safUplinkReceive f) s = .next t ∧ t.saf.upCrc = inc32 s.saf.upCrc
        ∧ (p t).invalidRun = (p s).invalidRun + 1 ∧ (q t).invalidRun = (q s).invalidRun + 1)
    ∧ (runs → Leaves .islandSeqReport s { s with saf := { s.saf with reported := s.saf.islandSeq, reportTick := s.coreTicks } })
    ∧ (¬ runs → Leaves .islandSeqReport s s)

/-- R314 to R317, R367, R461: a fatal fault without a twin to take over enters Endgame: every group of channel H stops, HSAFE_OK goes low
and the outputs wait for standstill, T_MAX or a rising speed; with the twin bit set, or on a standby, the chip goes silent instead. -/
def Obligations.FatalFaults : Prop :=
  ∀ (s : State) (b : Bool) (tds : Int) (cause : FatalCause) (e : Endgame),
    let fresh := s.saf.endgame = none ∧ s.saf.silent = false
    let alone := fresh ∧ s.twin.standby = false ∧ s.saf.twinBit = false
    let twinned := fresh ∧ s.twin.standby = false ∧ s.saf.twinBit = true
    let missed := b = true ∨ 2 ≤ s.saf.missRun
    let tapped := b = true ∨ ∃ p ∈ s.saf.tapRun, 3 ≤ p.2.1
    let failed := ((List.range 8).filter (fun i => (s.engine i).failed)).length
    let read := { s with saf := { s.saf with tds := tds } }
    let tripped := { s with saf := { s.saf with tds := tds, tempTrip := true } }
    let hotP := 1280 ≤ s.arb.tMax ∧ s.arb.judged = true
    let quiet := s.saf.islandRunning = true ∧ s.cyc.running = true ∧ s.tCycle s.cyc.cycle + 2 * s.period ≤ s.now
    let mons := (List.range 256).filter s.monitored
    let still := mons ≠ [] ∧ ∀ a ∈ mons, (s.saf.h.mon a).confirmed = true
    let tmax := e.entry + s.parN 0x08000005 0 * 1000000 ≤ s.coreTicks
    let rise := ∃ p ∈ e.v0, ((s.saf.h.mon p.1).v.natAbs : Int) > p.2 + s.par 0x08100002 (s.parN 0x08200001 p.1) * 1000
    let expired := s.saf.twinBit = true ∧ s.saf.twinBitCycle + 2 * s.period ≤ s.coreTicks
    let beats := s.saf.islandRunning = true ∧ s.saf.endgame = none ∧ s.saf.h.ok = true ∧ s.saf.silent = false ∧ s.saf.hsafeTick + 500000 ≤ s.coreTicks
    (s.boot.ready = false ∨ s.saf.silent = true ∨ s.saf.endgame ≠ none → s.healthPin = false)
    ∧ (alone → ∃ t, exec (.fatalFault .supervisor) s = .next t ∧ t.saf.endgame ≠ none ∧ t.saf.silent = false
        ∧ t.saf.hsafe0 = false ∧ t.saf.hsafe1 = false ∧ t.cyc.running = false ∧ t.twin.onMove = false
        ∧ (∀ g < 32, (t.saf.h.group g).code = 2) ∧ (∀ n < 8, (t.stepPort n).en = false ∧ (t.stepPort n).torqueOn = false))
    ∧ (twinned → ∃ t, exec (.fatalFault .supervisor) s = .next t ∧ t.saf.endgame = none ∧ t.saf.silent = true
        ∧ t.twin.lastReason = 1 ∧ (∀ n < 8, (t.stepPort n).driven = false) ∧ t.fld.cmd = 0)
    ∧ (fresh → s.twin.standby = true → Leaves (.fatalFault .supervisor) s s.goSilent)
    ∧ (¬ fresh → Leaves (.fatalFault .supervisor) s s)
    ∧ (Leaves (.fatalFault .controlDieSilent) s (s.fatal 1) ∧ Leaves (.fatalFault .channelP) s s.channelPFails
        ∧ Leaves (.fatalFault .channelH) s s.channelHFails ∧ Leaves (.fatalFault .islandReset) s s.islandDown)
    ∧ (2 ≤ failed → Leaves (.fatalFault .secondEngine) s (s.fatal 1)) ∧ (failed < 2 → Leaves (.fatalFault .secondEngine) s s)
    ∧ (Leaves (.fatalFault .temperature) s (if s.saf.tempTrip then s.fatal 1 else s))
    ∧ (missed → Leaves (.channelPFailure b) s s.channelPFails) ∧ (¬ missed → Leaves (.channelPFailure b) s s)
    ∧ (tapped → Leaves (.channelHFailure b) s s.channelHFails) ∧ (¬ tapped → Leaves (.channelHFailure b) s s)
    ∧ (hotP → Leaves (.temperatureTrip tds) s ((tripped.demandMask .p allGroups true 0x0B).fatal 1))
    ∧ (¬ hotP → 1280 ≤ tds → Leaves (.temperatureTrip tds) s ((tripped.demandMask .h allGroups true 0x0B).fatal 1))
    ∧ (¬ hotP → tds < 1280 → Leaves (.temperatureTrip tds) s read)
    ∧ (quiet → Leaves .controlDieSilent s (s.fatal 1)) ∧ (¬ quiet → Leaves .controlDieSilent s s)
    ∧ (s.saf.endgame = none → Leaves .endgameStopAll s s ∧ Leaves .endgameOutputDrop s s)
    ∧ (s.saf.endgame = some e → e.next ≤ s.coreTicks → s.saf.islandRunning = true → s.saf.islandLost = false → ∃ t, exec .endgameStopAll s = .next t
        ∧ t.saf.endgame = some { e with next := e.next + s.period } ∧ t.saf.stopAllAt = some s.coreTicks ∧ t.freeCtr = s.freeCtr)
    ∧ (s.saf.endgame = some e → s.coreTicks < e.next ∨ s.saf.islandRunning = false ∨ s.saf.islandLost = true → Leaves .endgameStopAll s s)
    ∧ (s.saf.endgame = some e → still ∨ tmax ∨ rise → Leaves .endgameOutputDrop s { s with saf := { s.saf with endgame := some { e with dropped := true } } })
    ∧ (s.saf.endgame = some e → ¬ still → ¬ tmax → ¬ rise → Leaves .endgameOutputDrop s s)
    ∧ (expired → Leaves .twinBitExpiry s { s with saf := { s.saf with twinBit := false } }) ∧ (¬ expired → Leaves .twinBitExpiry s s)
    ∧ (beats → Leaves .hsafeOkToggle s { s with saf := { s.saf with hsafe0 := true, hsafe1 := !s.saf.hsafe1, hsafeTick := s.coreTicks } })
    ∧ (¬ beats → Leaves .hsafeOkToggle s s)
    ∧ (s.saf.islandRunning = true → Leaves .vddHMonitor s s.islandDown ∧ Leaves .islandPorRelease s s)
    ∧ (s.saf.islandRunning = false → Leaves .vddHMonitor s s ∧ Leaves .islandPorRelease s
        { s with saf := { s.saf with islandRunning := true, hsafe0 := false, hsafe1 := false, h := { s.saf.h with ok := false } } })

/-- R331 to R337, R340: a field output in the die: an overload report, thermal shutdown at 175 °C that ends at 160 °C, demagnetisation that
ends above −1 V and is told when it takes more than 20 ms, a safety command and permit that disagree for 10 ms, and the off-pulses.
R332, R333, R336, R340, R453: FLD_OUT_SET is refused on a latched and on a safety output, waits for the boundary while cycles run (log 181), where it
sets its outputs and answers DEFERRED with those whose enable is held; FLD_LATCH_CLEAR
needs the outputs off and reading low; FLD_RESTART needs a supply back above 18 V for 100 ms. -/
def Obligations.FieldOutputs : Prop :=
    (∀ (s : State) (j : FqIx) (b : Bool) (tj mv : Int) (n : Nat) (volts : List Int),
       let x := s.fq j.val
       let d := s.die
       let shut := d.running = true ∧ 1750 ≤ tj
       let cool := x.therm = true ∧ tj ≤ 1600
       let ended := x.demag = true ∧ -1000 < mv
       let long_ := x.demag = true ∧ x.demagLong = false ∧ x.demagStart + 20000000 < s.coreTicks
       let apart := x.disagreeSince = some n ∧ x.disagreeTold = false ∧ n + 10000000 < s.coreTicks
       let pulse := d.running = true ∧ d.low = false ∧ x.driven = true ∧ (s.safetyOut j.val = true ∨ s.parN 0x0D200001 j.val = 1)
         ∧ x.pulseNext ≤ s.coreTicks ∧ ∀ i < 8, (s.fq i).pulse = none
       let width := s.parN 0x0D000005 0 * 1000
       let per := s.parN 0x0D000004 0 * 1000000
       let judged := s.modFq j.val (fun x => { x with pulseJudge := false })
       let told := { judged with fld := { judged.fld with opPulses := inc32 judged.fld.opPulses } }
       (d.running = true → x.driven = true ∨ b = false → Leaves (.overload j b) s (s.modFq j.val (fun x => { x with overload := b })))
       ∧ (d.running = false ∨ (x.driven = false ∧ b = true) → Leaves (.overload j b) s s)
       ∧ (shut → ∃ t, exec (.thermalShutdown j tj) s = .next t ∧ (t.fq j.val).therm = true ∧ (t.fq j.val).on = false ∧ (t.fq j.val).driven = false
           ∧ (t.fq j.val).pulse = none ∧ (∀ i, i ≠ j.val → t.fq i = s.fq i) ∧ t.fld.cmd.getLsbD j.val = false)
       ∧ (¬ shut → Leaves (.thermalShutdown j tj) s s)
       ∧ (cool → Leaves (.coolDownEnd j tj) s (((s.modFq j.val (fun x => { x with therm := false, on := false })).setCmd j.val false).runHeldOrder j.val))
       ∧ (¬ cool → Leaves (.coolDownEnd j tj) s s)
       ∧ (x.holdOrder = some n → x.therm = false → x.demag = false → x.wired = true ∨ x.latch = true ∨ x.offLatch = true →
           s.runHeldOrder j.val = { s.modFq j.val (fun x => { x with holdOrder := none }) with fld := { s.fld with orderLost := inc32 s.fld.orderLost } })
       ∧ (ended → Leaves (.demagEnd j mv) s (((s.modFq j.val (fun x => { x with demag := false })).runHeldOrder j.val).fqDrive j.val))
       ∧ (¬ ended → Leaves (.demagEnd j mv) s s)
       ∧ (long_ → ∃ t, exec (.demagLong j) s = .next t ∧ (t.fq j.val).demagLong = true ∧ t.fld.demagLong.getLsbD j.val = true ∧ (∀ i, i ≠ j.val → t.fq i = s.fq i))
       ∧ (¬ long_ → Leaves (.demagLong j) s s)
       ∧ (apart → Leaves (.safetyLinkDisagree j) s ((s.modFq j.val (fun x => { x with disagreeTold := true })).raise 0x0D06 1 j.val []))
       ∧ (x.disagreeSince = none ∨ x.disagreeTold = true → Leaves (.safetyLinkDisagree j) s s)
       ∧ (pulse → s.nextOrder j.val = none → ∃ t, exec (.offPulse j) s = .next t ∧ (t.fq j.val).pulse = some s.coreTicks ∧ (t.fq j.val).driven = false
           ∧ (t.fq j.val).demag = x.demag ∧ (t.fq j.val).pulseNext = nextTest (d.bootTick + j.val * per / 8) per s.coreTicks)
       ∧ (pulse → s.nextOrder j.val = some n → n < s.coreTicks + width + 50000 → Leaves (.offPulse j) s (s.modFq j.val (fun x => { x with pulseNext := n + 100000 })))
       ∧ (¬ pulse → Leaves (.offPulse j) s s)
       ∧ (x.pulse = none → Leaves (.offPulseJudge j) s s ∧ Leaves (.offPulseEnd j) s s)
       ∧ (x.pulse = some n → x.pulseJudge = true → n + 150000 ≤ s.coreTicks → d.low = true → Leaves (.offPulseJudge j) s judged)
       ∧ (x.pulse = some n → x.pulseJudge = true → n + 150000 ≤ s.coreTicks → d.low = false →
           Leaves (.offPulseJudge j) s (if x.readback then told.shortToVf j.val else told.modFq j.val (fun x => { x with shortVf := false })))
       ∧ (x.pulse = some n → x.pulseJudge = false ∨ s.coreTicks < n + 150000 → Leaves (.offPulseJudge j) s s)
       ∧ (x.pulse = some n → n + width ≤ s.coreTicks →
           Leaves (.offPulseEnd j) s (s.modFq j.val (fun x => { x with pulse := none, pulseJudge := false, driven := s.fqTarget j.val })))
       ∧ (x.pulse = some n → s.coreTicks < n + width → Leaves (.offPulseEnd j) s s)
       ∧ (d.running = false → Leaves (.readbackSample volts) s s)
       ∧ (d.running = true → d.low = true → (∀ i < 8, (s.fq i).on = true ∧ (s.fq i).driven = true) → ∃ t, exec (.readbackSample volts) s = .next t
           ∧ ∀ i < 8, t.fq i = (s.fq i).sample (volts.getD i 0)))
    ∧ (∀ (s : State) (c : CmdCtx) (mask levels : BitVec 8),
         let t := s.takeUp c
         let js := maskOutputs mask.toNat
         let setIn := fun (u : State) => js.foldl (fun (s : State) j => s.outSet c j (levels.getLsbD j)) u
         let heldIn := fun (u : State) => ofBools ((List.range 8).map (fun j => js.contains j && levels.getLsbD j && ((u.fq j).therm || (u.fq j).demag || (u.heldOut j).isSome)))
         let set := setIn t
         let held := heldIn t
         let out := fun (st : Nat) (d : List Byte) (u : State) => Acts s c 0x0D01 2 → Replies (.fldOutSet c mask levels) s c 0x0D01 st d u
         let clear := fun (j : Nat) => t.fqLatched j = false ∨ (t.fld.cmd.getLsbD j = false ∧ t.fld.cmd.getLsbD (t.fq j).partner = false
           ∧ (t.fq j).readback = false ∧ (t.fq (t.fq j).partner).readback = false)
         let free := ∀ j ∈ js, t.fqLatched j = false ∧ t.safetyOut j = false
         let w : OutWait := ⟨c, mask, levels⟩
         let wait := { t with fld := { t.fld with outWait := t.fld.outWait ++ [w] } }
         let ready := t.die.restartOkA = true ∨ t.die.restartOkB = true
         ((∃ j ∈ js, t.fqLatched j = true) → out 0x0301 [] t)
         ∧ ((∀ j ∈ js, t.fqLatched j = false) → (∃ j ∈ js, t.safetyOut j = true) → out 0x0505 [] t)
         ∧ (free → s.cyc.running = false → held = 0 → out 0 [0] set)
         ∧ (free → s.cyc.running = false → held ≠ 0 → out 2 (be 1 held) set)
         ∧ (free → s.cyc.running = true → Acts s c 0x0D01 2 → Leaves (.fldOutSet c mask levels) s wait)
         ∧ (s.fld.outWait = [w] → s.landOutputs = (setIn { s with fld := { s.fld with outWait := [] } }).replyLater c 0x0D01
             (if heldIn s = 0 then 0 else 2) (be 1 (heldIn s)))
         ∧ ((∀ j ∈ js, clear j) → Acts s c 0x0D02 2 → Replies (.fldLatchClear c mask) s c 0x0D02 0 [] { t with fld := { t.fld with clr := some (mask.toNat, 2) } })
         ∧ ((∃ j ∈ js, ¬ clear j) → Acts s c 0x0D02 2 → Replies (.fldLatchClear c mask) s c 0x0D02 0x0301 [] t)
         ∧ (ready → Acts s c 0x0D03 2 → Replies (.fldRestart c) s c 0x0D03 0 [] { t with fld := { t.fld with restart := 2 } })
         ∧ (¬ ready → Acts s c 0x0D03 2 → Replies (.fldRestart c) s c 0x0D03 0x0301 [] t))

/-- R339, R340, R345, R346, R472: the supplies of the field die, its power-on reset, and its watchdog with SAFE_HOLD. -/
def Obligations.FieldSupply : Prop :=
  ∀ (s : State) (vf a b : BitVec 16) (g : Fin 2) (n : Nat),
    let d := s.die
    let on := d.running = true
    let v := vf.toNat
    let va := min v a.toNat
    let vb := min v b.toNat
    let sa := sinceAbove d.aboveA va 180 s.coreTicks
    let sb := sinceAbove d.aboveB vb 180 s.coreTicks
    let warned : State := { s with die := { d with warn := true } }
    let mine := fun (i : Nat) => inGroup g i = true
    let w := d.warn && decide (4 ≤ d.warnClr)
    let l := d.low && decide (4 ≤ d.lowClr)
    let above := if g = 0 then d.aboveA else d.aboveB
    let off := if g = 0 then d.offRunA else d.offRunB
    let wait := n + 100000000 ≤ s.coreTicks
    let t := s.coreTicks
    let dog := on ∧ d.wd = false ∧ d.lastM + s.parN 0x0D000006 0 * 100000 ≤ t
    let hold := on ∧ d.wd = true ∧ d.wdAt + s.parN 0x0D000007 0 * 1000000 ≤ t
    let back := on ∧ d.wd = true ∧ d.wdAt < d.lastM
    (¬ on → Leaves (.supplyMeasure vf a b) s s)
    ∧ (on → Leaves (.supplyMeasure vf a b) s { s with die := { d with
        vf := v, vqa := a.toNat, vqb := b.toNat, warnRun := runBelow d.warnRun v 190, warnClr := runAbove d.warnClr v 195,
        lowRun := runBelow d.lowRun v 160, lowClr := runAbove d.lowClr v 165, offRunA := runBelow d.offRunA va 120, offRunB := runBelow d.offRunB vb 120,
        aboveA := sa, aboveB := sb, restartOkA := d.restartOkA && sa.isSome, restartOkB := d.restartOkB && sb.isSome } })
    ∧ (on → d.warn = false → 4 ≤ d.warnRun → Leaves .vfWarn s (warned.raise 0x0D03 1 0 ([BitVec.ofNat 8 warned.vfState] ++ be 2 d.vf)))
    ∧ (¬ on ∨ d.warn = true ∨ d.warnRun < 4 → Leaves .vfWarn s s)
    ∧ (on → d.low = false → 4 ≤ d.lowRun → Leaves .vfLow s { s with die := { d with low := true, invalid := true } })
    ∧ (¬ on ∨ d.low = true ∨ d.lowRun < 4 → Leaves .vfLow s s)
    ∧ (on → 4 ≤ off → ∃ t, exec (.vfOff g) s = .next t ∧ t.die.orders = d.orders.filter (fun o => !inGroup g o.fq)
        ∧ ∀ i < 8, (mine i → (t.fq i).offLatch = true ∧ (t.fq i).driven = false) ∧ (¬ mine i → (t.fq i).offLatch = (s.fq i).offLatch))
    ∧ (¬ on ∨ off < 4 → Leaves (.vfOff g) s s)
    ∧ (on → (w || l) = true → Leaves .supplyThresholdClear s { s with
        die := { d with warn := d.warn && !w, low := d.low && !l, invalid := d.invalid && !l },
        fld := { s.fld with filt := if l then [] else s.fld.filt } })
    ∧ (¬ on ∨ (w || l) = false → Leaves .supplyThresholdClear s s)
    ∧ (above = none ∨ ¬ on ∨ (above = some n ∧ ¬ wait) → Leaves (.restartOk g) s s)
    ∧ (above = some n → on → wait → Leaves (.restartOk g) s
        { s with die := if g = 0 then { d with restartOkA := true } else { d with restartOkB := true } })
    ∧ (v < 90 → Leaves (.fieldDieReset vf) s { s with die := { FieldDie.reset with vf := v } }) ∧ (90 ≤ v → Leaves (.fieldDieReset vf) s s)
    ∧ (d.running = false → 100 < v → ∃ u, exec (.fieldDieResetRelease vf) s = .next u ∧ u.die.running = true ∧ u.die.restarted = true ∧ u.die.orders = []
        ∧ u.die.epochM = 0 ∧ u.die.epochH = 0 ∧ ∀ i < 8, (u.fq i).on = false ∧ (u.fq i).driven = false ∧ (u.fq i).permit = false)
    ∧ (on ∨ v ≤ 100 → Leaves (.fieldDieResetRelease vf) s s)
    ∧ (dog → ∃ u, exec .fieldWatchdog s = .next u ∧ u.die.wd = true ∧ u.die.wdAt = t ∧ u.die.orders = [] ∧ u.die.ftpEn = false
        ∧ u.fld.orderLost = add32 s.fld.orderLost (d.orders.length + s.heldOrders)
        ∧ ∀ i < 8, (u.fq i).safeOn = (!s.safetyOut i && (decide (s.parN 0x0D200002 i = 1) || (decide (2 ≤ s.parN 0x0D200002 i) && ((s.fq i).driven || (s.fq i).pulse.isSome))))
          ∧ (u.fq i).holdOrder = none)
    ∧ (¬ dog → Leaves .fieldWatchdog s s)
    ∧ (hold → ∃ u, exec .tHoldExpiry s = .next u ∧ u.die.wd = true ∧ ∀ i < 8, (u.fq i).safeOn = false ∧ (u.fq i).driven = false)
    ∧ (¬ hold → Leaves .tHoldExpiry s s)
    ∧ (back → ∃ u, exec .fieldWatchdogClear s = .next u ∧ u.die.wd = false ∧ ∀ i < 8, (u.fq i).safe = false ∧ (u.fq i).safeOn = false)
    ∧ (¬ back → Leaves .fieldWatchdogClear s s)

/-- R255, R322 to R324, R328, R338, R339: an input window decides high from 11 V and low up to 5 V; a timed order acts behind those of its
output that fire before it; it is lost on a latched output, waits on a hot or demagnetising one, and else acts; and the test pulse supplies go low in turn.
R341 to R344, R467, R470, R471: every frame period each barrier link carries a frame each way; a frame whose check code fails, or of a wrong epoch,
counts and changes nothing else, and a frame of the link's epoch is taken. -/
def Obligations.FieldLinks : Prop :=
    (∀ (s : State) (test : Bool) (volts : List Nat) (tag : BitVec 16) (o : Order) (k : Fin 2),
       let d := s.die
       let t := s.coreTicks
       let regular := test = false ∧ d.running = true ∧ d.winNextS ≤ t ∧ d.winNext ≤ t
       let idle := d.running = false ∨ (test = false ∧ t < d.winNextS ∧ t < d.winNext) ∨ (test = true ∧ s.testWindowDue = false)
       let x := s.fq o.fq
       let turn := (d.orders.filter (fun (p : Order) => decide (p.fq = o.fq) && dieBefore p o)).foldr insertDie []
       let gone := { s with die := { d with orders := d.orders.filter (fun p => decide (p.tag ≠ o.tag)) } }
       let held := gone.modFq o.fq (fun x => { x with holdOrder := some o.tag })
       let acked := { gone with die := { gone.die with orderAck := o.tag } }
       let found := d.orders.find? (fun (o : Order) => decide (o.tag = tag.toNat)) = some o
       let due := found ∧ o.fire ≤ t ∧ d.running = true
       let latched := x.wired = true ∨ x.latch = true ∨ x.offLatch = true
       let waits := o.level = true ∧ (x.therm = true ∨ x.demag = true)
       let tp := if k = 0 then d.tpNext0 else d.tpNext1
       let low := d.running = true ∧ d.ftpEn = true ∧ d.low = false ∧ tp ≤ t ∧ d.winNextS ≤ t + 77500
       let per := s.parN 0x0D000002 0 * 1000000
       let fin := d.running = true ∧ d.ftpEn = true ∧ (if k = 0 then d.ftp0 else d.ftp1) = false ∧ (if k = 0 then d.tpEnd0 else d.tpEnd1) ≤ t
       (regular → ∃ u, exec (.fiSampleWindow test volts) s = .next u ∧ u.die.sno = (d.sno + 1) % 256 ∧ u.die.test = false
           ∧ u.die.winNextS = t + 125000 ∧ u.die.winNext = t + s.parN 0x0D000001 0 * 31250
           ∧ (∀ n < 16, u.die.level.getLsbD n = (if d.invalid = true then d.level.getLsbD n else if 110 ≤ volts.getD n 0 then true
               else if volts.getD n 0 ≤ 50 then false else d.level.getLsbD n)) ∧ u = { s with die := u.die })
       ∧ (idle → Leaves (.fiSampleWindow test volts) s s)
       ∧ (due → Leaves (.timedOrderFire tag) s (turn.foldl State.fireOrder s))
       ∧ (due → turn = [o] → latched → Leaves (.timedOrderFire tag) s { gone with fld := { gone.fld with orderLost := inc32 gone.fld.orderLost } })
       ∧ (due → turn = [o] → ¬ latched → waits → Leaves (.timedOrderFire tag) s { held with fld := { held.fld with orderLate := inc32 held.fld.orderLate } })
       ∧ (due → turn = [o] → ¬ latched → ¬ waits → Leaves (.timedOrderFire tag) s (((acked.modFq o.fq (fun x => { x with on := o.level, holdOrder := none })).setCmd o.fq o.level).fqDrive o.fq))
       ∧ (d.orders.find? (fun (o : Order) => decide (o.tag = tag.toNat)) = none ∨ (found ∧ (t < o.fire ∨ d.running = false)) → Leaves (.timedOrderFire tag) s s)
       ∧ (low → k = 0 → Leaves (.testPulse k) s { s with die := { d with ftp0 := false, tpSrc := false, tpEnd0 := t + s.parN 0x0D000003 0 * 1000, tpNext0 := nextTest d.bootTick per t } })
       ∧ (low → k = 1 → Leaves (.testPulse k) s { s with die := { d with ftp1 := false, tpSrc := true, tpEnd1 := t + s.parN 0x0D000003 0 * 1000, tpNext1 := nextTest (d.bootTick + per / 2) per t } })
       ∧ (¬ low → Leaves (.testPulse k) s s)
       ∧ (fin → Leaves (.testPulseEnd k) s { s with die := if k = 0 then { d with ftp0 := true } else { d with ftp1 := true } })
       ∧ (¬ fin → Leaves (.testPulseEnd k) s s))
    ∧ (∀ (s : State) (b : Barrier) (bytes : List Byte),
         let ep := epochOf bytes
         let mErr := { s with fld := { s.fld with mErrs := inc32 s.fld.mErrs } }
         let hErr := { s with fld := { s.fld with hErrs := inc32 s.fld.hErrs } }
         let good := fun (b : Barrier) => barrierCrcOk b bytes = true
         let upM := s.boot.booting = false
         let upH := s.saf.islandRunning = true
         let sent : List Output := (if s.die.running then [.barrierUp .h (s.dieUplink .h), .barrierUp .m (s.dieUplink .m)] else [])
           ++ (if s.saf.islandRunning then [.barrierDown .h s.hDownlink] else []) ++ (if s.boot.booting then [] else [.barrierDown .m s.mDownlink])
         (s.coreTicks < s.fld.nextM → Leaves .barrierFramePeriod s s)
         ∧ (s.fld.nextM ≤ s.coreTicks → s.die.running = true → ∃ t, exec .barrierFramePeriod s = .next t ∧ t.fld.nextM = s.coreTicks + 15625
             ∧ t.fld.seqM = (s.fld.seqM + 1) % 256 ∧ t.fld.seqH = (s.fld.seqH + 1) % 256 ∧ t.die.seqM = (s.die.seqM + 1) % 256 ∧ t.fld.ftpEn = s.ftpCommand
             ∧ (s.die.lastH + 62500 ≤ s.coreTicks → ∀ i < 8, (t.fq i).permit = false))
         ∧ (s.fld.nextM ≤ s.coreTicks → s.boot.testEn = false → ∃ t, exec .barrierFramePeriod s = .next t ∧ t.out = sent ++ s.out)
         ∧ (¬ upM → Leaves (.fieldMUplinkReceive bytes) s s) ∧ (¬ upH → Leaves (.fieldHUplinkReceive bytes) s s)
         ∧ (upM → ¬ good .m → Leaves (.fieldMUplinkReceive bytes) s mErr) ∧ (upH → ¬ good .h → Leaves (.fieldHUplinkReceive bytes) s hErr)
         ∧ (s.die.running = false → Leaves (.fieldDownlinkReceive b bytes) s s)
         ∧ (s.die.running = true → ¬ good .m → b = .m → Leaves (.fieldDownlinkReceive b bytes) s mErr)
         ∧ (s.die.running = true → ¬ good .h → b = .h → Leaves (.fieldDownlinkReceive b bytes) s hErr)
         ∧ (upM → good .m → ep ≠ 0 → s.fld.epochM ≠ 0 → ep ≠ s.fld.epochM → Leaves (.fieldMUplinkReceive bytes) s mErr)
         ∧ (upH → good .h → ep ≠ 0 → s.fld.epochH ≠ 0 → ep ≠ s.fld.epochH → Leaves (.fieldHUplinkReceive bytes) s hErr)
         ∧ (upM → good .m → ep ≠ 0 → ep = s.fld.epochM → ∃ t, exec (.fieldMUplinkReceive bytes) s = .next t ∧ t.fld.lastM = some s.coreTicks
             ∧ t.fld.rxSeqM = some (byteAt bytes 1).toNat ∧ t.fld.mErrs = s.fld.mErrs ∧ t.saf.p.lastFrame = s.coreTicks)
         ∧ (upH → good .h → ep ≠ 0 → ep = s.fld.epochH → Leaves (.fieldHUplinkReceive bytes) s
             (State.channelUplink { s with fld := { s.fld with zeroH := false, lastH := some s.coreTicks, hGaps := seqGap s.fld.rxSeqH bytes s.fld.hGaps, rxSeqH := some (byteAt bytes 1).toNat } } .h bytes))
         ∧ (s.die.running = true → good .h → b = .h → ep ≠ 0 → ep = s.die.epochH → Leaves (.fieldDownlinkReceive b bytes) s
             ((State.dieTakesH { s with die := { s.die with zeroH := false } } bytes).trackDisagree))
         ∧ (s.die.running = true → good .m → b = .m → ep ≠ 0 → ep = s.die.epochM → Leaves (.fieldDownlinkReceive b bytes) s
             ((State.dieTakesM { s with die := { s.die with zeroM := false } } bytes).trackDisagree)))

/-- R356, R467, R470, R471: a twin message counts only with a right CRC and the link's epoch, and not while the chip boots; HEALTH goes out every 2 µs; the link is lost after 10 µs
of silence, and a failed lane is down.
R276, R357 to R359, R361, R362, R364, R386: what each message does on a chip that hears it: the standby logs and acknowledges, runs the task released, keeps or
compares digests, copies memory and joins at b; the chip on move takes acknowledgements and verdicts. -/
def Obligations.TwinLink : Prop :=
    (∀ (s : State) (env : TwinEnv) (i : Instr) (m : HealthMsg) (r : LogRec) (pos : Nat) (w : ReleaseMsg) (ds : List (BitVec 32)) (ms : List Nat) (e : EngIx)
       (pass : Bool) (reason : BitVec 8) (h : Option Nat) (words : List Word48) (b : JoinMsg) (t80 : T80) (mask : BitVec 8) (lane : Fin 2),
       let twin := s.boot.twinPresent = true
       let here := twin ∧ s.boot.booting = false
       let worse := { s with twin := { s.twin with linkErrs := inc32 s.twin.linkErrs } }
       let sends := twin ∧ s.twin.txHealth + 2000 ≤ s.coreTicks
       let lost := twin ∧ (s.twin.lane0 = true ∨ s.twin.lane1 = true) ∧ s.twin.lastMsg + 10000 ≤ s.coreTicks
       let wrong := env.epoch ≠ 0 ∧ s.twin.epoch ≠ 0 ∧ env.epoch ≠ s.twin.epoch
       let message := i ∈ [Instr.health env m, .log env r, .logAck env pos, .release env w, .digest env pos ds, .verdict env pos ms, .test env e pass,
         .declare env reason pos h, .resync env pos words, .joinBoundary env b, .trigger env t80 mask]
       (message → ¬ here → Leaves i s s) ∧ (message → here → env.crcOk = false → Leaves i s worse)
       ∧ (message → here → env.crcOk = true → wrong → ∃ t, exec i s = .next t ∧ t.twin.linkErrs = inc32 s.twin.linkErrs ∧ t = { s with twin := t.twin }
           ∧ t.twin.epoch = s.twin.epoch ∧ t.twin.onMove = s.twin.onMove ∧ t.twin.synced = s.twin.synced ∧ t.twin.swap = s.twin.swap)
       ∧ (message → here → env.crcOk = true → env.epoch = s.twin.epoch → env.epoch ≠ 0 → ∃ t, exec i s = .next t ∧ t.twin.lastMsg = s.coreTicks
           ∧ t.twin.linkErrs = s.twin.linkErrs)
       ∧ (sends → Leaves .healthSend s { s.put (.twin (.health s.healthMsg)) with twin := { s.twin with txHealth := s.coreTicks } })
       ∧ (¬ sends → Leaves .healthSend s s)
       ∧ (lost → ∃ t, exec .twinLinkLost s = .next t ∧ t.twin.lane0 = false ∧ t.twin.lane1 = false ∧ t.twin.peerHealthy = false ∧ t.twin.peerSynced = false
           ∧ t.twin.healthySince = none ∧ t = { s with twin := t.twin })
       ∧ (¬ lost → Leaves .twinLinkLost s s)
       ∧ (twin → lane = 0 → Leaves (.twinLaneFail lane) s { s with twin := { s.twin with lane0 := false } })
       ∧ (twin → lane = 1 → Leaves (.twinLaneFail lane) s { s with twin := { s.twin with lane1 := false } })
       ∧ (¬ twin → Leaves (.twinLaneFail lane) s s))
    ∧ (∀ (s : State) (env : TwinEnv) (m : HealthMsg) (r : LogRec) (pos : Nat) (a : AxisIx) (w : ReleaseMsg) (ds : List (BitVec 32)) (ms : List Nat) (e : EngIx)
         (pass : Bool) (words : List Word48) (b : JoinMsg) (t80 : T80) (mask : BitVec 8) (l : Nat) (x : MisTest),
         let u : State := { s with twin := { s.twin with
           zero := false, lastMsg := s.coreTicks, lane0 := s.twin.lane0 || env.lane == 0, lane1 := s.twin.lane1 || env.lane == 1 } }
         let heard := s.boot.twinPresent = true ∧ s.boot.booting = false ∧ env.crcOk = true ∧ env.epoch = s.twin.epoch ∧ env.epoch ≠ 0
         let shadow := heard ∧ s.twin.standby = true ∧ s.twin.joining = false
         let logged := { u.put (.twin (.logAck r.pos)) with twin := { u.twin with logPos := r.pos } }
         let runs := s.cyc.running = true ∧ s.isReleased w.owner w.cycle = false
         let own := sget (fun _ => ([] : List (BitVec 32))) s.twin.digOwn pos
         let n := words.length
         let joins := heard ∧ s.twin.standby = true ∧ s.twin.joining = true
         (heard → Leaves (.health env m) s (u.takeHealth m))
         ∧ (shadow → r.trim = none → Leaves (.log env r) s { logged with twin := { logged.twin with landed := s.twin.landed ++ [r] } })
         ∧ (shadow → r.trim = some l → Leaves (.log env r) s { logged with cyc := { s.cyc with trimNext := some l, trimAt := r.cycle } })
         ∧ (heard → ¬ shadow → Leaves (.log env r) s u)
         ∧ (heard → Leaves (.logAck env pos) s { u with twin := { u.twin with
             logs := s.twin.logs.map (fun (l : LogEntry) => if l.pos = pos then { l with acked := true } else l),
             trimLog := if s.twin.trimLog = some pos then none else s.twin.trimLog } })
         ∧ (shadow → runs → w.owner = .line → Leaves (.release env w) s (u.releaseLineTwin w.cycle w.isNew w.fb))
         ∧ (shadow → runs → w.owner = .axis a → s.localAxis a.val = true → Leaves (.release env w) s (u.releaseLocal a.val w.cycle w.isNew w.fb))
         ∧ (shadow → runs → w.owner = .axis a → s.localAxis a.val = false → Leaves (.release env w) s (u.releaseRemote a.val w.cycle w.isNew))
         ∧ (heard → ¬ shadow ∨ ¬ runs → Leaves (.release env w) s u)
         ∧ (shadow → own = [] → Leaves (.digest env pos ds) s { u with twin := { u.twin with
             digPeer := (sput (fun _ => []) s.twin.digPeer pos ds).filter (fun (p : Nat × List (BitVec 32)) => decide (pos < p.1 + 4)) } })
         ∧ (shadow → own ≠ [] → Leaves (.digest env pos ds) s (State.compareDigests { u with twin := { u.twin with
             digOwn := s.twin.digOwn.filter (fun (p : Nat × List (BitVec 32)) => decide (pos < p.1)) } } pos own ds))
         ∧ (heard → ¬ shadow → Leaves (.digest env pos ds) s u)
         ∧ (heard → s.twin.onMove = true → Leaves (.verdict env pos ms) s (u.takeVerdict pos ms)) ∧ (heard → s.twin.onMove = false → Leaves (.verdict env pos ms) s u)
         ∧ (heard → s.twin.misTests.find? (fun (m : MisTest) => m.peer.isNone) = some x → Leaves (.test env e pass) s (State.settleTests { u with twin := { u.twin with
             misTests := s.twin.misTests.map (fun (y : MisTest) => if y.owner = x.owner then { y with peer := some pass } else y) } }))
         ∧ (heard → s.twin.misTests.find? (fun (m : MisTest) => m.peer.isNone) = none → Leaves (.test env e pass) s u)
         ∧ (heard → s.twin.standby = true → 0x40000 ≤ pos → pos + n ≤ 0x80000 → ∃ t, exec (.resync env pos words) s = .next t
             ∧ t.eng = { s.eng with context := sputs (fun _ => 0) s.eng.context (pos - 0x40000) words })
         ∧ (heard → s.twin.standby = true → 0x80000 ≤ pos → pos + n ≤ 0xC0000 → n ≠ 0 → ∃ t, exec (.resync env pos words) s = .next t
             ∧ t.eng = { s.eng with pool := sputs (fun _ => 0) s.eng.pool (pos - 0x80000) words })
         ∧ (heard → s.twin.standby = false → Leaves (.resync env pos words) s u)
         ∧ (joins → ∃ t, exec (.joinBoundary env b) s = .next t ∧ t.time.sec = b.sec ∧ t.time.ns = b.ns ∧ t.time.rate = b.rate ∧ t.cyc.cycle = b.cycle
             ∧ t.cyc.running = true ∧ t.cyc.tEpoch = b.tEpoch ∧ t.opening.phase = .standby ∧ t.twin.joining = false ∧ t.twin.cleanVerdicts = 0 ∧ t.twin.logPos = b.logPos)
         ∧ (heard → ¬ joins → Leaves (.joinBoundary env b) s u)
         ∧ (heard → ∃ t, exec (.trigger env t80 mask) s = .next t ∧ t = { u with scs := t.scs }
             ∧ ∀ i < 8, t.tunit i = if s.unitSrc i = 0x58 ∧ s.unitCond i = 2 then { s.tunit i with fired := true, fireStamp := some s.now } else s.tunit i))

/-- R354, R361, R364 to R369, R371 to R373, R400: hand-over: DECLARE fixes the first cycle, a standby that hears nothing takes over, the new head takes
its first cycle, a planned swap waits for a quiet point; TWN_INFO and TWN_SWAP; and what a chip makes of another head's CSF. -/
def Obligations.HandOver : Prop :=
  ∀ (s : State) (c : CmdCtx) (env : TwinEnv) (reason : BitVec 8) (last n : Nat) (f : RxFrame) (h : Hdr) (pl : List Byte) (w : Swap) (m : MisTest),
    let t := s.takeUp c
    let x := s.twin
    let u : State := { s with twin := { x with zero := false, lastMsg := s.coreTicks, lane0 := x.lane0 || env.lane == 0, lane1 := x.lane1 || env.lane == 1 } }
    let heard := s.boot.twinPresent = true ∧ s.boot.booting = false ∧ env.crcOk = true ∧ env.epoch = x.epoch ∧ env.epoch ≠ 0
    let able := heard ∧ x.standby = true ∧ x.synced = true ∧ u.healthy = true
    let plans := fun (k : Nat) => { u with twin := { u.twin with swap := some { h := k, reason := reason.toNat, outgoing := false, ctx := none } } }
    let alone := s.boot.twinPresent = true ∧ x.standby = true ∧ x.synced = true ∧ s.healthy = true ∧ x.lane0 = false ∧ x.lane1 = false
      ∧ 2 ≤ x.missCycles ∧ s.cyc.running = true ∧ x.swap = none
    let next := if s.now + 1000 ≤ s.tCycle (s.cyc.cycle + 1) then s.cyc.cycle + 1 else s.cyc.cycle + 2
    let head := x.standby = true ∧ w.outgoing = false ∧ s.cyc.running = true ∧ w.h ≤ s.cyc.cycle
    let peerOk := w.outgoing = false ∨ (s.twinUp = true ∧ x.peerHealthy = true ∧ x.peerSynced = true ∧ x.peerEngines = 0xFF)
    let off := (w.reason = 3 ∨ w.reason = 4) ∧ s.cyc.cycle < w.h ∧ (s.quiet = false ∨ ¬ peerOk)
    let whole := ∃ y, x.healthySince = some y ∧ y + s.parN 0x09000002 0 * 1000000000 ≤ s.coreTicks
    let back := x.onMove = true ∧ s.isBlack = true ∧ s.twinUp = true ∧ s.parN 0x09000001 0 = 1 ∧ whole ∧ x.peerHealthy = true ∧ x.peerSynced = true
      ∧ s.quiet = true ∧ x.swap = none ∧ x.revertLock = false ∧ s.recentReverts.length < 3
    let rf := s.relay f
    let seen := (rf.seeLoop f).countRx f.port.val (rf.rx f)
    let foreign := rf.rx f = .ok h pl ∧ h.kind = tCsf ∧ rf.twin.onMove = true ∧ field pl 40 6 ≠ Config.serial.toNat
    let clean := x.standby = true ∧ x.joining = false ∧ s.twinUp = true ∧ x.synced = false ∧ x.lastMatch = true ∧ s.parN 0x09000004 0 ≤ x.cleanVerdicts
      ∧ ∀ c ∈ x.copies, c.2 + 2 ≤ s.cyc.cycle
    let swap := fun (st : Nat) => Reads s c 0x0902 3 → Replies (.twnSwap c) s c 0x0902 st [] t
    let peer := t.twinUp = true ∧ t.twin.peerHealthy = true
    let onMove := t.boot.twinPresent = false ∨ t.twin.onMove = true
    let rotated := ∃ e < 8, (s.engine e).rotated = true
    let testing := x.misTests.find? (fun (m : MisTest) => !m.started && decide (m.cycle + 2 ≤ s.cyc.cycle))
    (able → Leaves (.declare env reason last (some n)) s (plans n))
    ∧ (able → s.cyc.cycle ≤ last → s.cyc.sealedFor ≠ some last → Leaves (.declare env reason last none) s (plans (last + 1)))
    ∧ (able → last < s.cyc.cycle ∨ s.cyc.sealedFor = some last → Leaves (.declare env reason last none) s (plans (last + 2)))
    ∧ (heard → ¬ able → Leaves (.declare env reason last none) s u)
    ∧ (alone → Leaves .takeoverUndetected s { s with twin := { x with swap := some { h := next, reason := 5, outgoing := false, ctx := none } } })
    ∧ (¬ alone → Leaves .takeoverUndetected s s)
    ∧ (x.swap = none → Leaves .handoverStart s s ∧ Leaves .swapAbandon s s)
    ∧ (x.swap = some w → head → ∃ t, exec .handoverStart s = .next t ∧ t.twin.onMove = true ∧ t.twin.standby = false ∧ t.twin.swap = none
        ∧ t.twin.lastReason = w.reason ∧ t.twin.handovers = inc32 x.handovers ∧ t.twin.fwdUntil = some (s.cyc.cycle + 4) ∧ t.opening.phase = .idle)
    ∧ (x.swap = some w → ¬ head → Leaves .handoverStart s s)
    ∧ (x.swap = some w → off → Leaves .swapAbandon s ((State.raise { s with twin := { x with swap := none } } 0x0903 1 0 [1]).cmdDone? w.ctx 0x0902 0 0x0604))
    ∧ (x.swap = some w → ¬ off → Leaves .swapAbandon s s)
    ∧ (x.fwdUntil = none → Leaves .oldTrainForwardEnd s s)
    ∧ (x.fwdUntil = some n → n ≤ s.cyc.cycle → Leaves .oldTrainForwardEnd s { s with twin := { x with fwdUntil := none } })
    ∧ (x.fwdUntil = some n → s.cyc.cycle < n → Leaves .oldTrainForwardEnd s s)
    ∧ (back → s.boot.testEn = false → ∃ t, exec .revert s = .next t ∧ t.twin.swap = some { h := s.cyc.cycle + s.parN 0x09000003 0, reason := 4, outgoing := true, ctx := none }
        ∧ t.twin.revertLock = decide (2 ≤ s.recentReverts.length) ∧ t.out = .twin (.declare 4 s.cyc.cycle (some (s.cyc.cycle + s.parN 0x09000003 0))) :: s.out)
    ∧ (¬ back → Leaves .revert s s)
    ∧ (clean → Leaves .synchronised s { s with twin := { x with synced := true, copies := [] } }) ∧ (¬ clean → Leaves .synchronised s s)
    ∧ (testing = none ∨ rotated → Leaves .mismatchTestStart s s)
    ∧ (testing = some m → ¬ rotated → ∃ t, exec .mismatchTestStart s = .next t ∧ t.freeCtr = s.freeCtr + 1)
    ∧ (foreign → Leaves (.foreignCsfReceive f) s ((seen.noteLoop f).splitWith (field pl 38 1 % 2 * 281474976710656 + field pl 40 6)))
    ∧ ((∀ h pl, rf.rx f ≠ .ok h pl) → Leaves (.foreignCsfReceive f) s (seen.noteLoop f) ∧ Leaves (.standbyCsfReceive f) s seen)
    ∧ (rf.rx f = .ok h pl → ¬ foreign → Leaves (.foreignCsfReceive f) s (seen.noteLoop f))
    ∧ (rf.rx f = .ok h pl → h.kind = tCsf → h.loop = false → rf.opening.phase = .listen → Leaves (.standbyCsfReceive f) s seen.becomeStandby)
    ∧ (rf.rx f = .ok h pl → h.kind = tCsf → h.loop = false → rf.opening.phase ≠ .listen → rf.twin.standby = true → rf.cyc.running = true →
        ∃ t, exec (.standbyCsfReceive f) s = .next t ∧ (t.seg (f.port.val / 2)).sched.ver = field pl 36 2)
    ∧ (rf.rx f = .ok h pl → h.kind ≠ tCsf ∨ h.loop = true ∨ (rf.opening.phase ≠ .listen ∧ (rf.twin.standby = false ∨ rf.cyc.running = false)) →
        Leaves (.standbyCsfReceive f) s seen)
    ∧ (Reads s c 0x0901 1 → Replies (.twnInfo c) s c 0x0901 0 (be 4 t.twnStatus ++ be 6 x.peerSerial.toNat ++ [x.peerFlags]) t)
    ∧ (¬ onMove → swap 0x0601) ∧ (onMove → ¬ peer → swap 0x0602) ∧ (onMove → peer → t.twin.peerSynced = false → swap 0x0603)
    ∧ (onMove → peer → t.twin.peerSynced = true → t.twin.swap ≠ none → swap 0x0605)
    ∧ (onMove → peer → t.twin.peerSynced = true → t.twin.swap = none → t.quiet = false ∨ t.twin.peerEngines ≠ 0xFF → swap 0x0604)
    ∧ (onMove → peer → t.twin.peerSynced = true → t.twin.swap = none → t.quiet = true → t.twin.peerEngines = 0xFF → Reads s c 0x0902 3 →
        Replies (.twnSwap c) s c 0x0902 1 (be 6 (s.cyc.cycle + s.parN 0x09000003 0)) ((t.planSwap 3 (some c)).modTwin (fun t => { t with revertLock := false })))

/-- R459, R460, R470, R472, R494: PORST_N resets everything but the flash, the field die and the core clock; RESET_N keeps Endgame mode, and enters it
(or goes silent) when a stop group still moves; the straps are read again.
R465 to R467, R494: the boot takes the bank that BOOTSEL and IMG_SEQ choose among the valid ones, and enters recovery without one; with
TEST_EN high it does not boot.
R447, R454, R466: IMG_WRITE writes only the bank not in force, one write at a time; IMG_ACTIVATE gives it the higher IMG_SEQ; IMG_INFO
tells what is known of a bank. -/
def Obligations.ResetsAndBoot : Prop :=
    (∀ (s : State) (test present role : Bool) (sel : BitVec 2),
       let held := s.saf.silent = true ∨ s.saf.endgame ≠ none
       let quiet := s.twin.standby = true ∨ ∀ g < 32, (s.saf.h.group g).code = 2
       let reset := fun (t : State) => t.coreTicks = s.coreTicks ∧ t.pending = s.pending ∧ t.freeCtr = s.freeCtr ∧ t.die = s.die ∧ t.cyc.running = false
         ∧ t.axes = [] ∧ t.moves = State.reset.moves ∧ t.host = State.reset.host ∧ t.twin = Twin.reset ∧ t.saf.p = Channel.reset ∧ t.opening = State.reset.opening
         ∧ t.boot.ready = false ∧ t.boot.bankA.flash = s.boot.bankA.flash ∧ t.boot.bankB.flash = s.boot.bankB.flash ∧ t.boot.bootsel = sel ∧ t.boot.testEn = test ∧ t.arb = State.reset.arb
       (∃ t, exec (.porstN present role ⟨test, sel⟩) s = .next t ∧ reset t ∧ t.time = WallTime.reset ∧ t.params = [] ∧ t.cyc = Cycle.reset
         ∧ t.saf = { Safety.reset with islandRunning := s.saf.islandRunning } ∧ t.boot.cause = 0 ∧ t.boot.twinPresent = present ∧ t.boot.twinRole = role)
       ∧ (∃ t, exec (.resetN ⟨test, sel⟩) s = .next t ∧ reset t ∧ t.boot.twinPresent = s.boot.twinPresent ∧ t.boot.twinRole = s.boot.twinRole
         ∧ (t.boot.cause = 1 ∨ t.boot.cause = 2)
         ∧ (held → t.saf.endgame = s.saf.endgame ∧ t.saf.silent = s.saf.silent ∧ t.saf.h = s.saf.h)
         ∧ (¬ held → quiet → t.saf.endgame = none ∧ t.saf.silent = false ∧ t.params = [])
         ∧ (¬ held → ¬ quiet → s.saf.twinBit = false → t.saf.endgame ≠ none ∧ t.params = s.params ∧ ∀ g < 32, (t.saf.h.group g).code = 2)
         ∧ (¬ held → ¬ quiet → s.saf.twinBit = true → t.saf.endgame = none ∧ t.saf.silent = true ∧ t.saf.h = s.saf.h)))
    ∧ (∀ (s : State) (a b : BankImage) (ok : Bool),
         let va := (s.loadBank a).bankValid a
         let vb := (s.loadBank b).bankValid b
         let free := s.boot.bootsel = 0 ∨ s.boot.bootsel = 3
         let boots := fun (n : Nat) (x : BankImage) => ∃ t, exec (.bootComplete ok a b) s = .next t ∧ t.boot.bank = some n ∧ t.boot.ready = true
           ∧ t.boot.recovery = false ∧ t.boot.booting = false ∧ t.boot.imgSeq = x.imgSeq ∧ t.saf.p.ok = true
         let recovers := ∃ t, exec (.bootComplete ok a b) s = .next t ∧ t.boot.recovery = true ∧ t.boot.ready = false ∧ t.boot.booting = false ∧ t.boot.bank = none
         let on := s.boot.booting = true ∧ s.boot.testEn = false
         (¬ on → Leaves (.bootComplete ok a b) s s)
         ∧ (on → ok = true → free → va = true → vb = true → b.imgSeq ≤ a.imgSeq → boots 0 a)
         ∧ (on → ok = true → free → va = true → vb = true → a.imgSeq < b.imgSeq → boots 1 b)
         ∧ (on → ok = true → free → va = true → vb = false → boots 0 a) ∧ (on → ok = true → free → va = false → vb = true → boots 1 b)
         ∧ (on → ok = true → s.boot.bootsel = 1 → va = true → boots 0 a) ∧ (on → ok = true → s.boot.bootsel = 2 → vb = true → boots 1 b)
         ∧ (on → ok = true → s.boot.bootsel = 1 → va = false → recovers) ∧ (on → ok = true → s.boot.bootsel = 2 → vb = false → recovers)
         ∧ (on → ok = false ∨ (va = false ∧ vb = false) → recovers))
    ∧ (∀ (s : State) (c : CmdCtx) (offset : BitVec 32) (data : List Byte) (bank : BitVec 8),
         let t := s.takeUp c
         let busy := t.boot.flashWrite ≠ none ∨ t.host.keys.pendingSet ≠ none
         let n := t.spareBank
         let b := (t.bankOf n).view
         let other := (t.bankOf (1 - n)).view.imgSeq
         let q := if other < b.imgSeq then b.imgSeq else min 0xFFFFFFFE (other + 1)
         let kept := t.setBank n { b.write 8 (be 4 q) with imgSeq := q, written := false }
         let v := (t.bankOf bank.toNat).view
         let wr := fun (st : Nat) => Local s c 0x0E01 5 → Replies (.imgWrite c offset data) s c 0x0E01 st [] t
         let act := fun (st : Nat) (d : List Byte) (u : State) => Local s c 0x0E02 5 → Replies (.imgActivate c) s c 0x0E02 st d u
         (16777216 < offset.toNat + data.length → wr 0x0105) ∧ (offset.toNat + data.length ≤ 16777216 → busy → wr 0x0303)
         ∧ (offset.toNat + data.length ≤ 16777216 → ¬ busy → Local s c 0x0E01 5 →
             Leaves (.imgWrite c offset data) s { t with boot := { t.boot with flashWrite := some (c, n, offset.toNat, data) } })
         ∧ (t.boot.bank = some 0 → n = 1) ∧ (t.boot.bank = some 1 → n = 0)
         ∧ (busy → act 0x0303 [] t) ∧ (¬ busy → b.valid = false → act 0x0105 [] t) ∧ (¬ busy → b.valid = true → act 0 (be 4 q) (kept.put (.flash n 8 (be 4 q))))
         ∧ (1 < bank.toNat → Reads s c 0x0E03 1 → Replies (.imgInfo c bank) s c 0x0E03 0x0105 [] t)
         ∧ (bank.toNat ≤ 1 → Reads s c 0x0E03 1 → Replies (.imgInfo c bank) s c 0x0E03 0
             (be 1 (b2n v.valid) ++ be 4 v.imgSeq ++ v.hashes.flatMap (fun (h : BitVec 64) => be 8 h.toNat)) t))

/-- R460: no command but PORST_N ends Endgame mode. -/
def Obligations.EndgameEndsByPorst : Prop :=
  ∀ (s t : State) (c : Instr), exec c s = .next t → (∀ present role pins, c ≠ .porstN present role pins) → s.saf.endgame ≠ none → t.saf.endgame ≠ none

/-- Every step keeps every memory of the device in the model's canonical form (log 18): addresses rise, and no entry equals what an
unlisted address reads as.
R168: no step leaves more than four entries in an engine's store buffer. -/
def Obligations.StoredFormKept : Prop :=
    (∀ (s t : State), s.memWf = true → step s = .next t → t.memWf = true)
    ∧ (∀ (s t : State), s.storesWf = true → step s = .next t → t.storesWf = true)
end

