-- ==== Sys2Proof/Laws/Command.lean ====
section
/-! SUPPORT. What a host command does once R450's checks pass. -/

namespace Sys2Proof.Machine

open Sys2Proof.Claims

theorem State.takeUp_pcie (s : State) (c : CmdCtx) (h : (s.session c.slot.val).source = .pcie) : s.takeUp c = s := by
  simp only [State.takeUp, h]

/-- The packet leaves the receive queue, and nothing else changes. -/
theorem State.takeUp_rest (s : State) (c : CmdCtx) :
    s.takeUp c = { s with host := { s.host with plantQueue := (s.takeUp c).host.plantQueue } } := by
  simp only [State.takeUp]
  cases (s.session c.slot.val).source <;> rfl

theorem State.takeUp_facts (s : State) (c : CmdCtx) : (∀ i, (s.takeUp c).session i = s.session i) ∧ (s.takeUp c).twin = s.twin
    ∧ (s.takeUp c).boot = s.boot ∧ (s.takeUp c).host.keys = s.host.keys ∧ (s.takeUp c).standbySynced = s.standbySynced
    ∧ (s.takeUp c).coreTicks = s.coreTicks := by
  rw [State.takeUp_rest]
  exact ⟨fun _ => rfl, rfl, rfl, rfl, rfl, rfl⟩

/-- What the command does once R450's checks pass. -/
theorem State.command_takes (s : State) (c : CmdCtx) (k : Cmd) (body : State → Ans)
    (h : Takes s c k.op k.need k.expert k.move k.logged) :
    s.command c k true body = match body (s.takeUp c) with
      | .refuse st d => (s.takeUp c).reply c k.op st d
      | .ok s' st d => s'.reply c k.op st d
      | .quiet s' => s' := by
  obtain ⟨h1, h2, h3, h4, h5, h6, h7, -⟩ := h
  obtain ⟨f1, f2, f3, f4, f5, f6⟩ := s.takeUp_facts c
  have hland : ∀ (s' : State) (fin : State → State), (s.takeUp c).landLogged s' c k fin = fin s' := by
    intro s' fin
    simp only [State.landLogged, f5]
    cases hl : k.logged
    · rfl
    · rw [h7 hl]; rfl
  simp only [State.command, f1, f2, f3, f4, hland]
  generalize body (s.takeUp c) = r
  cases r <;> cases hs : s.twin.standby <;> cases hm : k.move <;> cases he : k.expert <;> cases hr : s.boot.recovery
    <;> cases hd : s.host.keys.default <;> simp_all

/-- What a command that AT_BOUNDARY can delay does once R450's checks pass and it does not wait. -/
theorem State.hostAt_takes (s : State) (c : CmdCtx) (i : Instr) (k : Cmd) (body : State → Ans)
    (h : Takes s c k.op k.need k.expert k.move k.logged) (hb : boundaryOp k.op = true) :
    s.hostAt c i k true body = .next (match body (s.takeUp c) with
      | .refuse st d => (s.takeUp c).reply c k.op st d
      | .ok s' st d => s'.reply c k.op st d
      | .quiet s' => s') := by
  have hw := h.2.2.2.2.2.2.2 hb
  rw [← s.command_takes c k body h]
  simp [State.hostAt, State.host_, hw]

/-- A command that waits for the boundary does nothing else. -/
theorem State.hostAt_waits (s : State) (c : CmdCtx) (i : Instr) (k : Cmd) (lenOk : Bool) (body : State → Ans)
    (h : s.waitsBoundary c = true) : s.hostAt c i k lenOk body = .next (s.holdCommand c i) := by
  simp [State.hostAt, h]

end Sys2Proof.Machine
end

