-- ==== Sys2Proof/Laws/Sparse.lean ====
section
/-! SUPPORT. The laws of tables: a read after a write, the writes beside it, and the canonical form. -/

namespace Sys2Proof.Machine

variable {α : Type}

theorem sget_of_sabove (d : Nat → α) (m : Sparse α) (k : Nat) (h : sabove k m = true) : sget d m k = d k := by
  cases m with
  | nil => rfl
  | cons x m => simp [sabove] at h; simp [sget, h]

@[simp] theorem sget_sput_self [DecidableEq α] (d : Nat → α) (m : Sparse α) (k : Nat) (v : α) : sget d (sput d m k v) k = v := by
  induction m with
  | nil => by_cases h : v = d k <;> simp [sput, sget, h]
  | cons x m ih =>
    obtain ⟨j, w⟩ := x
    simp only [sput]
    split
    · rename_i hk
      split
      · rename_i hv; simp [sget, hk, hv]
      · simp [sget]
    · rename_i hk
      split
      · rename_i he
        subst he
        split
        · rename_i hv
          rw [sget_of_sabove d m k hv.2, hv.1]
        · simp [sget]
      · rename_i he
        simp [sget, hk, he, ih]

@[simp] theorem sget_sput_ne [DecidableEq α] (d : Nat → α) (m : Sparse α) (k i : Nat) (v : α) (h : i ≠ k) :
    sget d (sput d m k v) i = sget d m i := by
  induction m with
  | nil =>
    by_cases hv : v = d k
    · simp [sput, hv]
    · simp only [sput, hv, if_false, sget, h]
      split <;> rfl
  | cons x m ih =>
    obtain ⟨j, w⟩ := x
    simp only [sput]
    split
    · rename_i hk
      split
      · rfl
      · simp only [sget, h, if_false]
        split
        · have hj : i < j := by omega
          simp [hj]
        · rfl
    · rename_i hk
      split
      · rename_i he
        subst he
        split
        · rename_i hv
          simp only [sget, h, if_false]
          split
          · rename_i hi
            apply sget_of_sabove
            cases m with
            | nil => rfl
            | cons y m => simp [sabove] at hv ⊢; omega
          · rfl
        · simp [sget, h]
      · simp only [sget, ih]

theorem sget_sput [DecidableEq α] (d : Nat → α) (m : Sparse α) (k i : Nat) (v : α) :
    sget d (sput d m k v) i = if i = k then v else sget d m i := by
  split
  · rename_i h; subst h; simp
  · rename_i h; simp [h]

theorem swf_mono [DecidableEq α] (d : Nat → α) (m : Sparse α) (lo hi : Nat) (h : lo ≤ hi) (w : swf d hi m = true) : swf d lo m = true := by
  cases m with
  | nil => rfl
  | cons x m =>
    simp only [swf, Bool.and_eq_true, decide_eq_true_eq] at w ⊢
    exact ⟨⟨by omega, w.1.2⟩, w.2⟩

/-- Above the last listed index the next index is above every listed one. -/
theorem swf_sabove [DecidableEq α] (d : Nat → α) (m : Sparse α) (k : Nat) (w : swf d (k + 1) m = true) : sabove k m = true := by
  cases m with
  | nil => rfl
  | cons x m => simp [swf] at w; simp [sabove]; omega

/-- A write keeps the canonical form. -/
theorem swf_sput [DecidableEq α] (d : Nat → α) (m : Sparse α) (lo k : Nat) (v : α) (hk : lo ≤ k) (w : swf d lo m = true) :
    swf d lo (sput d m k v) = true := by
  induction m generalizing lo with
  | nil => by_cases h : v = d k <;> simp [sput, swf, h, hk]
  | cons x m ih =>
    obtain ⟨j, u⟩ := x
    have w0 := w
    simp only [swf, Bool.and_eq_true, decide_eq_true_eq] at w
    obtain ⟨⟨hj, hu⟩, hm⟩ := w
    simp only [sput]
    split
    · rename_i hlt
      split
      · exact w0
      · rename_i hv
        simp only [swf, Bool.and_eq_true, decide_eq_true_eq]
        exact ⟨⟨hk, hv⟩, ⟨by omega, hu⟩, hm⟩
    · rename_i hge
      split
      · rename_i he
        subst he
        split
        · exact swf_mono d m lo (k + 1) (by omega) hm
        · rename_i hv
          simp only [swf, Bool.and_eq_true, decide_eq_true_eq]
          refine ⟨⟨hj, ?_⟩, hm⟩
          intro e
          exact hv ⟨e, swf_sabove d m k hm⟩
      · rename_i he
        simp only [swf, Bool.and_eq_true, decide_eq_true_eq]
        exact ⟨⟨hj, hu⟩, ih (j + 1) (by omega) hm⟩

theorem swf_sputs [DecidableEq α] (d : Nat → α) (vs : List α) (m : Sparse α) (k : Nat) (w : swf d 0 m = true) :
    swf d 0 (sputs d m k vs) = true := by
  induction vs generalizing m k with
  | nil => exact w
  | cons v vs ih => exact ih _ _ (swf_sput d m 0 k v (Nat.zero_le _) w)

theorem swf_smap [DecidableEq α] (d : Nat → α) (f : Nat → α → α) (m : Sparse α) (lo : Nat) (w : swf d lo m = true) :
    swf d lo (smap d f m) = true := by
  induction m generalizing lo with
  | nil => rfl
  | cons x m ih =>
    obtain ⟨j, u⟩ := x
    simp only [swf, Bool.and_eq_true, decide_eq_true_eq] at w
    simp only [smap]
    split
    · exact swf_mono d _ lo (j + 1) (by omega) (ih (j + 1) w.2)
    · rename_i hv
      simp only [swf, Bool.and_eq_true, decide_eq_true_eq]
      exact ⟨⟨w.1.1, hv⟩, ih (j + 1) w.2⟩

end Sys2Proof.Machine
end

