-- ==== Sys2Proof/Laws/State.lean ====
section
/-! SUPPORT. What every write of State changes and what it leaves: one rule per field and per update, true by definition, and a
read after a write of a table. -/

namespace Sys2Proof.Machine

@[simp] theorem State.setAxis_fields (s : State) (a : Nat) (x : Axis) :
    (s.setAxis a x).axes = sput (fun _ => Axis.reset) s.axes a x ∧
    (s.setAxis a x).pending = s.pending ∧
    (s.setAxis a x).out = s.out ∧
    (s.setAxis a x).freeCtr = s.freeCtr ∧
    (s.setAxis a x).coreTicks = s.coreTicks ∧
    (s.setAxis a x).params = s.params ∧
    (s.setAxis a x).cyc = s.cyc ∧
    (s.setAxis a x).boot = s.boot ∧
    (s.setAxis a x).ports = s.ports ∧
    (s.setAxis a x).segs = s.segs ∧
    (s.setAxis a x).opening = s.opening ∧
    (s.setAxis a x).fbs = s.fbs ∧
    (s.setAxis a x).steps = s.steps ∧
    (s.setAxis a x).line = s.line ∧
    (s.setAxis a x).moves = s.moves ∧
    (s.setAxis a x).arb = s.arb ∧
    (s.setAxis a x).groups = s.groups ∧
    (s.setAxis a x).eng = s.eng ∧
    (s.setAxis a x).saf = s.saf ∧
    (s.setAxis a x).die = s.die ∧
    (s.setAxis a x).fld = s.fld ∧
    (s.setAxis a x).twin = s.twin ∧
    (s.setAxis a x).scs = s.scs ∧
    (s.setAxis a x).time = s.time ∧
    (s.setAxis a x).host = s.host ∧
    (s.setAxis a x).port = s.port ∧
    (s.setAxis a x).seg = s.seg ∧
    (s.setAxis a x).fb = s.fb ∧
    (s.setAxis a x).stepPort = s.stepPort ∧
    (s.setAxis a x).pgroup = s.pgroup ∧
    (s.setAxis a x).engine = s.engine ∧
    (s.setAxis a x).fq = s.fq ∧
    (s.setAxis a x).source = s.source ∧
    (s.setAxis a x).ptp = s.ptp ∧
    (s.setAxis a x).schan = s.schan ∧
    (s.setAxis a x).tunit = s.tunit ∧
    (s.setAxis a x).session = s.session ∧
    (s.setAxis a x).par = s.par ∧
    (s.setAxis a x).parN = s.parN ∧
    (s.setAxis a x).idents = s.idents :=
  ⟨rfl, rfl, rfl, rfl, rfl, rfl, rfl, rfl, rfl, rfl, rfl, rfl, rfl, rfl, rfl, rfl, rfl, rfl, rfl, rfl, rfl, rfl, rfl, rfl, rfl, rfl, rfl, rfl, rfl, rfl, rfl, rfl, rfl, rfl, rfl, rfl, rfl, rfl, rfl, rfl⟩

@[simp] theorem State.setAxis_self (s : State) (a : Nat) (x : Axis) : (s.setAxis a x).axis a = x := by
  simp [State.setAxis, State.axis]

@[simp] theorem State.setAxis_ne (s : State) (a : Nat) (x : Axis) (i : Nat) (h : i ≠ a) : (s.setAxis a x).axis i = s.axis i := by
  simp [State.setAxis, State.axis, h]

@[simp] theorem State.setPort_fields (s : State) (a : Nat) (x : RingPort) :
    (s.setPort a x).ports = sput (fun _ => RingPort.reset) s.ports a x ∧
    (s.setPort a x).pending = s.pending ∧
    (s.setPort a x).out = s.out ∧
    (s.setPort a x).freeCtr = s.freeCtr ∧
    (s.setPort a x).coreTicks = s.coreTicks ∧
    (s.setPort a x).params = s.params ∧
    (s.setPort a x).cyc = s.cyc ∧
    (s.setPort a x).boot = s.boot ∧
    (s.setPort a x).segs = s.segs ∧
    (s.setPort a x).opening = s.opening ∧
    (s.setPort a x).fbs = s.fbs ∧
    (s.setPort a x).axes = s.axes ∧
    (s.setPort a x).steps = s.steps ∧
    (s.setPort a x).line = s.line ∧
    (s.setPort a x).moves = s.moves ∧
    (s.setPort a x).arb = s.arb ∧
    (s.setPort a x).groups = s.groups ∧
    (s.setPort a x).eng = s.eng ∧
    (s.setPort a x).saf = s.saf ∧
    (s.setPort a x).die = s.die ∧
    (s.setPort a x).fld = s.fld ∧
    (s.setPort a x).twin = s.twin ∧
    (s.setPort a x).scs = s.scs ∧
    (s.setPort a x).time = s.time ∧
    (s.setPort a x).host = s.host ∧
    (s.setPort a x).axis = s.axis ∧
    (s.setPort a x).seg = s.seg ∧
    (s.setPort a x).fb = s.fb ∧
    (s.setPort a x).stepPort = s.stepPort ∧
    (s.setPort a x).pgroup = s.pgroup ∧
    (s.setPort a x).engine = s.engine ∧
    (s.setPort a x).fq = s.fq ∧
    (s.setPort a x).source = s.source ∧
    (s.setPort a x).ptp = s.ptp ∧
    (s.setPort a x).schan = s.schan ∧
    (s.setPort a x).tunit = s.tunit ∧
    (s.setPort a x).session = s.session ∧
    (s.setPort a x).par = s.par ∧
    (s.setPort a x).parN = s.parN ∧
    (s.setPort a x).idents = s.idents :=
  ⟨rfl, rfl, rfl, rfl, rfl, rfl, rfl, rfl, rfl, rfl, rfl, rfl, rfl, rfl, rfl, rfl, rfl, rfl, rfl, rfl, rfl, rfl, rfl, rfl, rfl, rfl, rfl, rfl, rfl, rfl, rfl, rfl, rfl, rfl, rfl, rfl, rfl, rfl, rfl, rfl⟩

@[simp] theorem State.setPort_self (s : State) (a : Nat) (x : RingPort) : (s.setPort a x).port a = x := by
  simp [State.setPort, State.port]

@[simp] theorem State.setPort_ne (s : State) (a : Nat) (x : RingPort) (i : Nat) (h : i ≠ a) : (s.setPort a x).port i = s.port i := by
  simp [State.setPort, State.port, h]

@[simp] theorem State.setSeg_fields (s : State) (a : Nat) (x : Segment) :
    (s.setSeg a x).segs = sput (fun _ => Segment.reset) s.segs a x ∧
    (s.setSeg a x).pending = s.pending ∧
    (s.setSeg a x).out = s.out ∧
    (s.setSeg a x).freeCtr = s.freeCtr ∧
    (s.setSeg a x).coreTicks = s.coreTicks ∧
    (s.setSeg a x).params = s.params ∧
    (s.setSeg a x).cyc = s.cyc ∧
    (s.setSeg a x).boot = s.boot ∧
    (s.setSeg a x).ports = s.ports ∧
    (s.setSeg a x).opening = s.opening ∧
    (s.setSeg a x).fbs = s.fbs ∧
    (s.setSeg a x).axes = s.axes ∧
    (s.setSeg a x).steps = s.steps ∧
    (s.setSeg a x).line = s.line ∧
    (s.setSeg a x).moves = s.moves ∧
    (s.setSeg a x).arb = s.arb ∧
    (s.setSeg a x).groups = s.groups ∧
    (s.setSeg a x).eng = s.eng ∧
    (s.setSeg a x).saf = s.saf ∧
    (s.setSeg a x).die = s.die ∧
    (s.setSeg a x).fld = s.fld ∧
    (s.setSeg a x).twin = s.twin ∧
    (s.setSeg a x).scs = s.scs ∧
    (s.setSeg a x).time = s.time ∧
    (s.setSeg a x).host = s.host ∧
    (s.setSeg a x).axis = s.axis ∧
    (s.setSeg a x).port = s.port ∧
    (s.setSeg a x).fb = s.fb ∧
    (s.setSeg a x).stepPort = s.stepPort ∧
    (s.setSeg a x).pgroup = s.pgroup ∧
    (s.setSeg a x).engine = s.engine ∧
    (s.setSeg a x).fq = s.fq ∧
    (s.setSeg a x).source = s.source ∧
    (s.setSeg a x).ptp = s.ptp ∧
    (s.setSeg a x).schan = s.schan ∧
    (s.setSeg a x).tunit = s.tunit ∧
    (s.setSeg a x).session = s.session ∧
    (s.setSeg a x).par = s.par ∧
    (s.setSeg a x).parN = s.parN ∧
    (s.setSeg a x).idents = s.idents :=
  ⟨rfl, rfl, rfl, rfl, rfl, rfl, rfl, rfl, rfl, rfl, rfl, rfl, rfl, rfl, rfl, rfl, rfl, rfl, rfl, rfl, rfl, rfl, rfl, rfl, rfl, rfl, rfl, rfl, rfl, rfl, rfl, rfl, rfl, rfl, rfl, rfl, rfl, rfl, rfl, rfl⟩

@[simp] theorem State.setSeg_self (s : State) (a : Nat) (x : Segment) : (s.setSeg a x).seg a = x := by
  simp [State.setSeg, State.seg]

@[simp] theorem State.setSeg_ne (s : State) (a : Nat) (x : Segment) (i : Nat) (h : i ≠ a) : (s.setSeg a x).seg i = s.seg i := by
  simp [State.setSeg, State.seg, h]

@[simp] theorem State.setFb_fields (s : State) (a : Nat) (x : FbPort) :
    (s.setFb a x).fbs = sput (fun _ => FbPort.reset) s.fbs a x ∧
    (s.setFb a x).pending = s.pending ∧
    (s.setFb a x).out = s.out ∧
    (s.setFb a x).freeCtr = s.freeCtr ∧
    (s.setFb a x).coreTicks = s.coreTicks ∧
    (s.setFb a x).params = s.params ∧
    (s.setFb a x).cyc = s.cyc ∧
    (s.setFb a x).boot = s.boot ∧
    (s.setFb a x).ports = s.ports ∧
    (s.setFb a x).segs = s.segs ∧
    (s.setFb a x).opening = s.opening ∧
    (s.setFb a x).axes = s.axes ∧
    (s.setFb a x).steps = s.steps ∧
    (s.setFb a x).line = s.line ∧
    (s.setFb a x).moves = s.moves ∧
    (s.setFb a x).arb = s.arb ∧
    (s.setFb a x).groups = s.groups ∧
    (s.setFb a x).eng = s.eng ∧
    (s.setFb a x).saf = s.saf ∧
    (s.setFb a x).die = s.die ∧
    (s.setFb a x).fld = s.fld ∧
    (s.setFb a x).twin = s.twin ∧
    (s.setFb a x).scs = s.scs ∧
    (s.setFb a x).time = s.time ∧
    (s.setFb a x).host = s.host ∧
    (s.setFb a x).axis = s.axis ∧
    (s.setFb a x).port = s.port ∧
    (s.setFb a x).seg = s.seg ∧
    (s.setFb a x).stepPort = s.stepPort ∧
    (s.setFb a x).pgroup = s.pgroup ∧
    (s.setFb a x).engine = s.engine ∧
    (s.setFb a x).fq = s.fq ∧
    (s.setFb a x).source = s.source ∧
    (s.setFb a x).ptp = s.ptp ∧
    (s.setFb a x).schan = s.schan ∧
    (s.setFb a x).tunit = s.tunit ∧
    (s.setFb a x).session = s.session ∧
    (s.setFb a x).par = s.par ∧
    (s.setFb a x).parN = s.parN ∧
    (s.setFb a x).idents = s.idents :=
  ⟨rfl, rfl, rfl, rfl, rfl, rfl, rfl, rfl, rfl, rfl, rfl, rfl, rfl, rfl, rfl, rfl, rfl, rfl, rfl, rfl, rfl, rfl, rfl, rfl, rfl, rfl, rfl, rfl, rfl, rfl, rfl, rfl, rfl, rfl, rfl, rfl, rfl, rfl, rfl, rfl⟩

@[simp] theorem State.setFb_self (s : State) (a : Nat) (x : FbPort) : (s.setFb a x).fb a = x := by
  simp [State.setFb, State.fb]

@[simp] theorem State.setFb_ne (s : State) (a : Nat) (x : FbPort) (i : Nat) (h : i ≠ a) : (s.setFb a x).fb i = s.fb i := by
  simp [State.setFb, State.fb, h]

@[simp] theorem State.setStep_fields (s : State) (a : Nat) (x : StepPort) :
    (s.setStep a x).steps = sput (fun _ => StepPort.reset) s.steps a x ∧
    (s.setStep a x).pending = s.pending ∧
    (s.setStep a x).out = s.out ∧
    (s.setStep a x).freeCtr = s.freeCtr ∧
    (s.setStep a x).coreTicks = s.coreTicks ∧
    (s.setStep a x).params = s.params ∧
    (s.setStep a x).cyc = s.cyc ∧
    (s.setStep a x).boot = s.boot ∧
    (s.setStep a x).ports = s.ports ∧
    (s.setStep a x).segs = s.segs ∧
    (s.setStep a x).opening = s.opening ∧
    (s.setStep a x).fbs = s.fbs ∧
    (s.setStep a x).axes = s.axes ∧
    (s.setStep a x).line = s.line ∧
    (s.setStep a x).moves = s.moves ∧
    (s.setStep a x).arb = s.arb ∧
    (s.setStep a x).groups = s.groups ∧
    (s.setStep a x).eng = s.eng ∧
    (s.setStep a x).saf = s.saf ∧
    (s.setStep a x).die = s.die ∧
    (s.setStep a x).fld = s.fld ∧
    (s.setStep a x).twin = s.twin ∧
    (s.setStep a x).scs = s.scs ∧
    (s.setStep a x).time = s.time ∧
    (s.setStep a x).host = s.host ∧
    (s.setStep a x).axis = s.axis ∧
    (s.setStep a x).port = s.port ∧
    (s.setStep a x).seg = s.seg ∧
    (s.setStep a x).fb = s.fb ∧
    (s.setStep a x).pgroup = s.pgroup ∧
    (s.setStep a x).engine = s.engine ∧
    (s.setStep a x).fq = s.fq ∧
    (s.setStep a x).source = s.source ∧
    (s.setStep a x).ptp = s.ptp ∧
    (s.setStep a x).schan = s.schan ∧
    (s.setStep a x).tunit = s.tunit ∧
    (s.setStep a x).session = s.session ∧
    (s.setStep a x).par = s.par ∧
    (s.setStep a x).parN = s.parN ∧
    (s.setStep a x).idents = s.idents :=
  ⟨rfl, rfl, rfl, rfl, rfl, rfl, rfl, rfl, rfl, rfl, rfl, rfl, rfl, rfl, rfl, rfl, rfl, rfl, rfl, rfl, rfl, rfl, rfl, rfl, rfl, rfl, rfl, rfl, rfl, rfl, rfl, rfl, rfl, rfl, rfl, rfl, rfl, rfl, rfl, rfl⟩

@[simp] theorem State.setStep_self (s : State) (a : Nat) (x : StepPort) : (s.setStep a x).stepPort a = x := by
  simp [State.setStep, State.stepPort]

@[simp] theorem State.setStep_ne (s : State) (a : Nat) (x : StepPort) (i : Nat) (h : i ≠ a) : (s.setStep a x).stepPort i = s.stepPort i := by
  simp [State.setStep, State.stepPort, h]

@[simp] theorem State.setPgroup_fields (s : State) (a : Nat) (x : PowerGroup) :
    (s.setPgroup a x).groups = sput (fun _ => PowerGroup.reset) s.groups a x ∧
    (s.setPgroup a x).pending = s.pending ∧
    (s.setPgroup a x).out = s.out ∧
    (s.setPgroup a x).freeCtr = s.freeCtr ∧
    (s.setPgroup a x).coreTicks = s.coreTicks ∧
    (s.setPgroup a x).params = s.params ∧
    (s.setPgroup a x).cyc = s.cyc ∧
    (s.setPgroup a x).boot = s.boot ∧
    (s.setPgroup a x).ports = s.ports ∧
    (s.setPgroup a x).segs = s.segs ∧
    (s.setPgroup a x).opening = s.opening ∧
    (s.setPgroup a x).fbs = s.fbs ∧
    (s.setPgroup a x).axes = s.axes ∧
    (s.setPgroup a x).steps = s.steps ∧
    (s.setPgroup a x).line = s.line ∧
    (s.setPgroup a x).moves = s.moves ∧
    (s.setPgroup a x).arb = s.arb ∧
    (s.setPgroup a x).eng = s.eng ∧
    (s.setPgroup a x).saf = s.saf ∧
    (s.setPgroup a x).die = s.die ∧
    (s.setPgroup a x).fld = s.fld ∧
    (s.setPgroup a x).twin = s.twin ∧
    (s.setPgroup a x).scs = s.scs ∧
    (s.setPgroup a x).time = s.time ∧
    (s.setPgroup a x).host = s.host ∧
    (s.setPgroup a x).axis = s.axis ∧
    (s.setPgroup a x).port = s.port ∧
    (s.setPgroup a x).seg = s.seg ∧
    (s.setPgroup a x).fb = s.fb ∧
    (s.setPgroup a x).stepPort = s.stepPort ∧
    (s.setPgroup a x).engine = s.engine ∧
    (s.setPgroup a x).fq = s.fq ∧
    (s.setPgroup a x).source = s.source ∧
    (s.setPgroup a x).ptp = s.ptp ∧
    (s.setPgroup a x).schan = s.schan ∧
    (s.setPgroup a x).tunit = s.tunit ∧
    (s.setPgroup a x).session = s.session ∧
    (s.setPgroup a x).par = s.par ∧
    (s.setPgroup a x).parN = s.parN ∧
    (s.setPgroup a x).idents = s.idents :=
  ⟨rfl, rfl, rfl, rfl, rfl, rfl, rfl, rfl, rfl, rfl, rfl, rfl, rfl, rfl, rfl, rfl, rfl, rfl, rfl, rfl, rfl, rfl, rfl, rfl, rfl, rfl, rfl, rfl, rfl, rfl, rfl, rfl, rfl, rfl, rfl, rfl, rfl, rfl, rfl, rfl⟩

@[simp] theorem State.setPgroup_self (s : State) (a : Nat) (x : PowerGroup) : (s.setPgroup a x).pgroup a = x := by
  simp [State.setPgroup, State.pgroup]

@[simp] theorem State.setPgroup_ne (s : State) (a : Nat) (x : PowerGroup) (i : Nat) (h : i ≠ a) : (s.setPgroup a x).pgroup i = s.pgroup i := by
  simp [State.setPgroup, State.pgroup, h]

@[simp] theorem State.setEngine_fields (s : State) (a : Nat) (x : Engine) :
    (s.setEngine a x).eng = { s.eng with eng := sput (fun _ => Engine.reset) s.eng.eng a x } ∧
    (s.setEngine a x).pending = s.pending ∧
    (s.setEngine a x).out = s.out ∧
    (s.setEngine a x).freeCtr = s.freeCtr ∧
    (s.setEngine a x).coreTicks = s.coreTicks ∧
    (s.setEngine a x).params = s.params ∧
    (s.setEngine a x).cyc = s.cyc ∧
    (s.setEngine a x).boot = s.boot ∧
    (s.setEngine a x).ports = s.ports ∧
    (s.setEngine a x).segs = s.segs ∧
    (s.setEngine a x).opening = s.opening ∧
    (s.setEngine a x).fbs = s.fbs ∧
    (s.setEngine a x).axes = s.axes ∧
    (s.setEngine a x).steps = s.steps ∧
    (s.setEngine a x).line = s.line ∧
    (s.setEngine a x).moves = s.moves ∧
    (s.setEngine a x).arb = s.arb ∧
    (s.setEngine a x).groups = s.groups ∧
    (s.setEngine a x).saf = s.saf ∧
    (s.setEngine a x).die = s.die ∧
    (s.setEngine a x).fld = s.fld ∧
    (s.setEngine a x).twin = s.twin ∧
    (s.setEngine a x).scs = s.scs ∧
    (s.setEngine a x).time = s.time ∧
    (s.setEngine a x).host = s.host ∧
    (s.setEngine a x).axis = s.axis ∧
    (s.setEngine a x).port = s.port ∧
    (s.setEngine a x).seg = s.seg ∧
    (s.setEngine a x).fb = s.fb ∧
    (s.setEngine a x).stepPort = s.stepPort ∧
    (s.setEngine a x).pgroup = s.pgroup ∧
    (s.setEngine a x).fq = s.fq ∧
    (s.setEngine a x).source = s.source ∧
    (s.setEngine a x).ptp = s.ptp ∧
    (s.setEngine a x).schan = s.schan ∧
    (s.setEngine a x).tunit = s.tunit ∧
    (s.setEngine a x).session = s.session ∧
    (s.setEngine a x).par = s.par ∧
    (s.setEngine a x).parN = s.parN ∧
    (s.setEngine a x).idents = s.idents :=
  ⟨rfl, rfl, rfl, rfl, rfl, rfl, rfl, rfl, rfl, rfl, rfl, rfl, rfl, rfl, rfl, rfl, rfl, rfl, rfl, rfl, rfl, rfl, rfl, rfl, rfl, rfl, rfl, rfl, rfl, rfl, rfl, rfl, rfl, rfl, rfl, rfl, rfl, rfl, rfl, rfl⟩

@[simp] theorem State.setEngine_self (s : State) (a : Nat) (x : Engine) : (s.setEngine a x).engine a = x := by
  simp [State.setEngine, State.engine]

@[simp] theorem State.setEngine_ne (s : State) (a : Nat) (x : Engine) (i : Nat) (h : i ≠ a) : (s.setEngine a x).engine i = s.engine i := by
  simp [State.setEngine, State.engine, h]

@[simp] theorem State.setFq_fields (s : State) (a : Nat) (x : Fq) :
    (s.setFq a x).die = { s.die with fq := sput (fun _ => Fq.reset) s.die.fq a x } ∧
    (s.setFq a x).pending = s.pending ∧
    (s.setFq a x).out = s.out ∧
    (s.setFq a x).freeCtr = s.freeCtr ∧
    (s.setFq a x).coreTicks = s.coreTicks ∧
    (s.setFq a x).params = s.params ∧
    (s.setFq a x).cyc = s.cyc ∧
    (s.setFq a x).boot = s.boot ∧
    (s.setFq a x).ports = s.ports ∧
    (s.setFq a x).segs = s.segs ∧
    (s.setFq a x).opening = s.opening ∧
    (s.setFq a x).fbs = s.fbs ∧
    (s.setFq a x).axes = s.axes ∧
    (s.setFq a x).steps = s.steps ∧
    (s.setFq a x).line = s.line ∧
    (s.setFq a x).moves = s.moves ∧
    (s.setFq a x).arb = s.arb ∧
    (s.setFq a x).groups = s.groups ∧
    (s.setFq a x).eng = s.eng ∧
    (s.setFq a x).saf = s.saf ∧
    (s.setFq a x).fld = s.fld ∧
    (s.setFq a x).twin = s.twin ∧
    (s.setFq a x).scs = s.scs ∧
    (s.setFq a x).time = s.time ∧
    (s.setFq a x).host = s.host ∧
    (s.setFq a x).axis = s.axis ∧
    (s.setFq a x).port = s.port ∧
    (s.setFq a x).seg = s.seg ∧
    (s.setFq a x).fb = s.fb ∧
    (s.setFq a x).stepPort = s.stepPort ∧
    (s.setFq a x).pgroup = s.pgroup ∧
    (s.setFq a x).engine = s.engine ∧
    (s.setFq a x).source = s.source ∧
    (s.setFq a x).ptp = s.ptp ∧
    (s.setFq a x).schan = s.schan ∧
    (s.setFq a x).tunit = s.tunit ∧
    (s.setFq a x).session = s.session ∧
    (s.setFq a x).par = s.par ∧
    (s.setFq a x).parN = s.parN ∧
    (s.setFq a x).idents = s.idents :=
  ⟨rfl, rfl, rfl, rfl, rfl, rfl, rfl, rfl, rfl, rfl, rfl, rfl, rfl, rfl, rfl, rfl, rfl, rfl, rfl, rfl, rfl, rfl, rfl, rfl, rfl, rfl, rfl, rfl, rfl, rfl, rfl, rfl, rfl, rfl, rfl, rfl, rfl, rfl, rfl, rfl⟩

@[simp] theorem State.setFq_self (s : State) (a : Nat) (x : Fq) : (s.setFq a x).fq a = x := by
  simp [State.setFq, State.fq]

@[simp] theorem State.setFq_ne (s : State) (a : Nat) (x : Fq) (i : Nat) (h : i ≠ a) : (s.setFq a x).fq i = s.fq i := by
  simp [State.setFq, State.fq, h]

@[simp] theorem State.setSource_fields (s : State) (a : Nat) (x : TimeSource) :
    (s.setSource a x).time = { s.time with sources := sput (fun _ => TimeSource.reset) s.time.sources a x } ∧
    (s.setSource a x).pending = s.pending ∧
    (s.setSource a x).out = s.out ∧
    (s.setSource a x).freeCtr = s.freeCtr ∧
    (s.setSource a x).coreTicks = s.coreTicks ∧
    (s.setSource a x).params = s.params ∧
    (s.setSource a x).cyc = s.cyc ∧
    (s.setSource a x).boot = s.boot ∧
    (s.setSource a x).ports = s.ports ∧
    (s.setSource a x).segs = s.segs ∧
    (s.setSource a x).opening = s.opening ∧
    (s.setSource a x).fbs = s.fbs ∧
    (s.setSource a x).axes = s.axes ∧
    (s.setSource a x).steps = s.steps ∧
    (s.setSource a x).line = s.line ∧
    (s.setSource a x).moves = s.moves ∧
    (s.setSource a x).arb = s.arb ∧
    (s.setSource a x).groups = s.groups ∧
    (s.setSource a x).eng = s.eng ∧
    (s.setSource a x).saf = s.saf ∧
    (s.setSource a x).die = s.die ∧
    (s.setSource a x).fld = s.fld ∧
    (s.setSource a x).twin = s.twin ∧
    (s.setSource a x).scs = s.scs ∧
    (s.setSource a x).host = s.host ∧
    (s.setSource a x).axis = s.axis ∧
    (s.setSource a x).port = s.port ∧
    (s.setSource a x).seg = s.seg ∧
    (s.setSource a x).fb = s.fb ∧
    (s.setSource a x).stepPort = s.stepPort ∧
    (s.setSource a x).pgroup = s.pgroup ∧
    (s.setSource a x).engine = s.engine ∧
    (s.setSource a x).fq = s.fq ∧
    (s.setSource a x).ptp = s.ptp ∧
    (s.setSource a x).schan = s.schan ∧
    (s.setSource a x).tunit = s.tunit ∧
    (s.setSource a x).session = s.session ∧
    (s.setSource a x).par = s.par ∧
    (s.setSource a x).parN = s.parN ∧
    (s.setSource a x).idents = s.idents :=
  ⟨rfl, rfl, rfl, rfl, rfl, rfl, rfl, rfl, rfl, rfl, rfl, rfl, rfl, rfl, rfl, rfl, rfl, rfl, rfl, rfl, rfl, rfl, rfl, rfl, rfl, rfl, rfl, rfl, rfl, rfl, rfl, rfl, rfl, rfl, rfl, rfl, rfl, rfl, rfl, rfl⟩

@[simp] theorem State.setSource_self (s : State) (a : Nat) (x : TimeSource) : (s.setSource a x).source a = x := by
  simp [State.setSource, State.source]

@[simp] theorem State.setSource_ne (s : State) (a : Nat) (x : TimeSource) (i : Nat) (h : i ≠ a) : (s.setSource a x).source i = s.source i := by
  simp [State.setSource, State.source, h]

@[simp] theorem State.setPtp_fields (s : State) (a : Nat) (x : PtpPort) :
    (s.setPtp a x).time = { s.time with ptp := sput (fun _ => PtpPort.reset) s.time.ptp a x } ∧
    (s.setPtp a x).pending = s.pending ∧
    (s.setPtp a x).out = s.out ∧
    (s.setPtp a x).freeCtr = s.freeCtr ∧
    (s.setPtp a x).coreTicks = s.coreTicks ∧
    (s.setPtp a x).params = s.params ∧
    (s.setPtp a x).cyc = s.cyc ∧
    (s.setPtp a x).boot = s.boot ∧
    (s.setPtp a x).ports = s.ports ∧
    (s.setPtp a x).segs = s.segs ∧
    (s.setPtp a x).opening = s.opening ∧
    (s.setPtp a x).fbs = s.fbs ∧
    (s.setPtp a x).axes = s.axes ∧
    (s.setPtp a x).steps = s.steps ∧
    (s.setPtp a x).line = s.line ∧
    (s.setPtp a x).moves = s.moves ∧
    (s.setPtp a x).arb = s.arb ∧
    (s.setPtp a x).groups = s.groups ∧
    (s.setPtp a x).eng = s.eng ∧
    (s.setPtp a x).saf = s.saf ∧
    (s.setPtp a x).die = s.die ∧
    (s.setPtp a x).fld = s.fld ∧
    (s.setPtp a x).twin = s.twin ∧
    (s.setPtp a x).scs = s.scs ∧
    (s.setPtp a x).host = s.host ∧
    (s.setPtp a x).axis = s.axis ∧
    (s.setPtp a x).port = s.port ∧
    (s.setPtp a x).seg = s.seg ∧
    (s.setPtp a x).fb = s.fb ∧
    (s.setPtp a x).stepPort = s.stepPort ∧
    (s.setPtp a x).pgroup = s.pgroup ∧
    (s.setPtp a x).engine = s.engine ∧
    (s.setPtp a x).fq = s.fq ∧
    (s.setPtp a x).source = s.source ∧
    (s.setPtp a x).schan = s.schan ∧
    (s.setPtp a x).tunit = s.tunit ∧
    (s.setPtp a x).session = s.session ∧
    (s.setPtp a x).par = s.par ∧
    (s.setPtp a x).parN = s.parN ∧
    (s.setPtp a x).idents = s.idents :=
  ⟨rfl, rfl, rfl, rfl, rfl, rfl, rfl, rfl, rfl, rfl, rfl, rfl, rfl, rfl, rfl, rfl, rfl, rfl, rfl, rfl, rfl, rfl, rfl, rfl, rfl, rfl, rfl, rfl, rfl, rfl, rfl, rfl, rfl, rfl, rfl, rfl, rfl, rfl, rfl, rfl⟩

@[simp] theorem State.setPtp_self (s : State) (a : Nat) (x : PtpPort) : (s.setPtp a x).ptp a = x := by
  simp [State.setPtp, State.ptp]

@[simp] theorem State.setPtp_ne (s : State) (a : Nat) (x : PtpPort) (i : Nat) (h : i ≠ a) : (s.setPtp a x).ptp i = s.ptp i := by
  simp [State.setPtp, State.ptp, h]

@[simp] theorem State.setSchan_fields (s : State) (a : Nat) (x : ScsChan) :
    (s.setSchan a x).scs = { s.scs with chans := sput (fun _ => ScsChan.reset) s.scs.chans a x } ∧
    (s.setSchan a x).pending = s.pending ∧
    (s.setSchan a x).out = s.out ∧
    (s.setSchan a x).freeCtr = s.freeCtr ∧
    (s.setSchan a x).coreTicks = s.coreTicks ∧
    (s.setSchan a x).params = s.params ∧
    (s.setSchan a x).cyc = s.cyc ∧
    (s.setSchan a x).boot = s.boot ∧
    (s.setSchan a x).ports = s.ports ∧
    (s.setSchan a x).segs = s.segs ∧
    (s.setSchan a x).opening = s.opening ∧
    (s.setSchan a x).fbs = s.fbs ∧
    (s.setSchan a x).axes = s.axes ∧
    (s.setSchan a x).steps = s.steps ∧
    (s.setSchan a x).line = s.line ∧
    (s.setSchan a x).moves = s.moves ∧
    (s.setSchan a x).arb = s.arb ∧
    (s.setSchan a x).groups = s.groups ∧
    (s.setSchan a x).eng = s.eng ∧
    (s.setSchan a x).saf = s.saf ∧
    (s.setSchan a x).die = s.die ∧
    (s.setSchan a x).fld = s.fld ∧
    (s.setSchan a x).twin = s.twin ∧
    (s.setSchan a x).time = s.time ∧
    (s.setSchan a x).host = s.host ∧
    (s.setSchan a x).axis = s.axis ∧
    (s.setSchan a x).port = s.port ∧
    (s.setSchan a x).seg = s.seg ∧
    (s.setSchan a x).fb = s.fb ∧
    (s.setSchan a x).stepPort = s.stepPort ∧
    (s.setSchan a x).pgroup = s.pgroup ∧
    (s.setSchan a x).engine = s.engine ∧
    (s.setSchan a x).fq = s.fq ∧
    (s.setSchan a x).source = s.source ∧
    (s.setSchan a x).ptp = s.ptp ∧
    (s.setSchan a x).tunit = s.tunit ∧
    (s.setSchan a x).session = s.session ∧
    (s.setSchan a x).par = s.par ∧
    (s.setSchan a x).parN = s.parN ∧
    (s.setSchan a x).idents = s.idents :=
  ⟨rfl, rfl, rfl, rfl, rfl, rfl, rfl, rfl, rfl, rfl, rfl, rfl, rfl, rfl, rfl, rfl, rfl, rfl, rfl, rfl, rfl, rfl, rfl, rfl, rfl, rfl, rfl, rfl, rfl, rfl, rfl, rfl, rfl, rfl, rfl, rfl, rfl, rfl, rfl, rfl⟩

@[simp] theorem State.setSchan_self (s : State) (a : Nat) (x : ScsChan) : (s.setSchan a x).schan a = x := by
  simp [State.setSchan, State.schan]

@[simp] theorem State.setSchan_ne (s : State) (a : Nat) (x : ScsChan) (i : Nat) (h : i ≠ a) : (s.setSchan a x).schan i = s.schan i := by
  simp [State.setSchan, State.schan, h]

@[simp] theorem State.setTunit_fields (s : State) (a : Nat) (x : TrigUnit) :
    (s.setTunit a x).scs = { s.scs with units := sput (fun _ => TrigUnit.reset) s.scs.units a x } ∧
    (s.setTunit a x).pending = s.pending ∧
    (s.setTunit a x).out = s.out ∧
    (s.setTunit a x).freeCtr = s.freeCtr ∧
    (s.setTunit a x).coreTicks = s.coreTicks ∧
    (s.setTunit a x).params = s.params ∧
    (s.setTunit a x).cyc = s.cyc ∧
    (s.setTunit a x).boot = s.boot ∧
    (s.setTunit a x).ports = s.ports ∧
    (s.setTunit a x).segs = s.segs ∧
    (s.setTunit a x).opening = s.opening ∧
    (s.setTunit a x).fbs = s.fbs ∧
    (s.setTunit a x).axes = s.axes ∧
    (s.setTunit a x).steps = s.steps ∧
    (s.setTunit a x).line = s.line ∧
    (s.setTunit a x).moves = s.moves ∧
    (s.setTunit a x).arb = s.arb ∧
    (s.setTunit a x).groups = s.groups ∧
    (s.setTunit a x).eng = s.eng ∧
    (s.setTunit a x).saf = s.saf ∧
    (s.setTunit a x).die = s.die ∧
    (s.setTunit a x).fld = s.fld ∧
    (s.setTunit a x).twin = s.twin ∧
    (s.setTunit a x).time = s.time ∧
    (s.setTunit a x).host = s.host ∧
    (s.setTunit a x).axis = s.axis ∧
    (s.setTunit a x).port = s.port ∧
    (s.setTunit a x).seg = s.seg ∧
    (s.setTunit a x).fb = s.fb ∧
    (s.setTunit a x).stepPort = s.stepPort ∧
    (s.setTunit a x).pgroup = s.pgroup ∧
    (s.setTunit a x).engine = s.engine ∧
    (s.setTunit a x).fq = s.fq ∧
    (s.setTunit a x).source = s.source ∧
    (s.setTunit a x).ptp = s.ptp ∧
    (s.setTunit a x).schan = s.schan ∧
    (s.setTunit a x).session = s.session ∧
    (s.setTunit a x).par = s.par ∧
    (s.setTunit a x).parN = s.parN ∧
    (s.setTunit a x).idents = s.idents :=
  ⟨rfl, rfl, rfl, rfl, rfl, rfl, rfl, rfl, rfl, rfl, rfl, rfl, rfl, rfl, rfl, rfl, rfl, rfl, rfl, rfl, rfl, rfl, rfl, rfl, rfl, rfl, rfl, rfl, rfl, rfl, rfl, rfl, rfl, rfl, rfl, rfl, rfl, rfl, rfl, rfl⟩

@[simp] theorem State.setTunit_self (s : State) (a : Nat) (x : TrigUnit) : (s.setTunit a x).tunit a = x := by
  simp [State.setTunit, State.tunit]

@[simp] theorem State.setTunit_ne (s : State) (a : Nat) (x : TrigUnit) (i : Nat) (h : i ≠ a) : (s.setTunit a x).tunit i = s.tunit i := by
  simp [State.setTunit, State.tunit, h]

@[simp] theorem State.setSession_fields (s : State) (a : Nat) (x : Session) :
    (s.setSession a x).host = { s.host with sessions := sput (fun _ => Session.reset) s.host.sessions a x } ∧
    (s.setSession a x).pending = s.pending ∧
    (s.setSession a x).out = s.out ∧
    (s.setSession a x).freeCtr = s.freeCtr ∧
    (s.setSession a x).coreTicks = s.coreTicks ∧
    (s.setSession a x).params = s.params ∧
    (s.setSession a x).cyc = s.cyc ∧
    (s.setSession a x).boot = s.boot ∧
    (s.setSession a x).ports = s.ports ∧
    (s.setSession a x).segs = s.segs ∧
    (s.setSession a x).opening = s.opening ∧
    (s.setSession a x).fbs = s.fbs ∧
    (s.setSession a x).axes = s.axes ∧
    (s.setSession a x).steps = s.steps ∧
    (s.setSession a x).line = s.line ∧
    (s.setSession a x).moves = s.moves ∧
    (s.setSession a x).arb = s.arb ∧
    (s.setSession a x).groups = s.groups ∧
    (s.setSession a x).eng = s.eng ∧
    (s.setSession a x).saf = s.saf ∧
    (s.setSession a x).die = s.die ∧
    (s.setSession a x).fld = s.fld ∧
    (s.setSession a x).twin = s.twin ∧
    (s.setSession a x).scs = s.scs ∧
    (s.setSession a x).time = s.time ∧
    (s.setSession a x).axis = s.axis ∧
    (s.setSession a x).port = s.port ∧
    (s.setSession a x).seg = s.seg ∧
    (s.setSession a x).fb = s.fb ∧
    (s.setSession a x).stepPort = s.stepPort ∧
    (s.setSession a x).pgroup = s.pgroup ∧
    (s.setSession a x).engine = s.engine ∧
    (s.setSession a x).fq = s.fq ∧
    (s.setSession a x).source = s.source ∧
    (s.setSession a x).ptp = s.ptp ∧
    (s.setSession a x).schan = s.schan ∧
    (s.setSession a x).tunit = s.tunit ∧
    (s.setSession a x).par = s.par ∧
    (s.setSession a x).parN = s.parN :=
  ⟨rfl, rfl, rfl, rfl, rfl, rfl, rfl, rfl, rfl, rfl, rfl, rfl, rfl, rfl, rfl, rfl, rfl, rfl, rfl, rfl, rfl, rfl, rfl, rfl, rfl, rfl, rfl, rfl, rfl, rfl, rfl, rfl, rfl, rfl, rfl, rfl, rfl, rfl, rfl⟩

@[simp] theorem State.setSession_self (s : State) (a : Nat) (x : Session) : (s.setSession a x).session a = x := by
  simp [State.setSession, State.session]

@[simp] theorem State.setSession_ne (s : State) (a : Nat) (x : Session) (i : Nat) (h : i ≠ a) : (s.setSession a x).session i = s.session i := by
  simp [State.setSession, State.session, h]

@[simp] theorem State.setPar_fields (s : State) (id : Nat) (v : Int) :
    (s.setPar id v).params = sput paramDefault s.params id v ∧
    (s.setPar id v).pending = s.pending ∧
    (s.setPar id v).out = s.out ∧
    (s.setPar id v).freeCtr = s.freeCtr ∧
    (s.setPar id v).coreTicks = s.coreTicks ∧
    (s.setPar id v).cyc = s.cyc ∧
    (s.setPar id v).boot = s.boot ∧
    (s.setPar id v).ports = s.ports ∧
    (s.setPar id v).segs = s.segs ∧
    (s.setPar id v).opening = s.opening ∧
    (s.setPar id v).fbs = s.fbs ∧
    (s.setPar id v).axes = s.axes ∧
    (s.setPar id v).steps = s.steps ∧
    (s.setPar id v).line = s.line ∧
    (s.setPar id v).moves = s.moves ∧
    (s.setPar id v).arb = s.arb ∧
    (s.setPar id v).groups = s.groups ∧
    (s.setPar id v).eng = s.eng ∧
    (s.setPar id v).saf = s.saf ∧
    (s.setPar id v).die = s.die ∧
    (s.setPar id v).fld = s.fld ∧
    (s.setPar id v).twin = s.twin ∧
    (s.setPar id v).scs = s.scs ∧
    (s.setPar id v).time = s.time ∧
    (s.setPar id v).host = s.host ∧
    (s.setPar id v).axis = s.axis ∧
    (s.setPar id v).port = s.port ∧
    (s.setPar id v).seg = s.seg ∧
    (s.setPar id v).fb = s.fb ∧
    (s.setPar id v).stepPort = s.stepPort ∧
    (s.setPar id v).pgroup = s.pgroup ∧
    (s.setPar id v).engine = s.engine ∧
    (s.setPar id v).fq = s.fq ∧
    (s.setPar id v).source = s.source ∧
    (s.setPar id v).ptp = s.ptp ∧
    (s.setPar id v).schan = s.schan ∧
    (s.setPar id v).tunit = s.tunit ∧
    (s.setPar id v).session = s.session ∧
    (s.setPar id v).idents = s.idents :=
  ⟨rfl, rfl, rfl, rfl, rfl, rfl, rfl, rfl, rfl, rfl, rfl, rfl, rfl, rfl, rfl, rfl, rfl, rfl, rfl, rfl, rfl, rfl, rfl, rfl, rfl, rfl, rfl, rfl, rfl, rfl, rfl, rfl, rfl, rfl, rfl, rfl, rfl, rfl, rfl⟩

@[simp] theorem State.useFree_fields (s : State) (n : Nat) :
    (s.useFree n).freeCtr = s.freeCtr + n ∧
    (s.useFree n).pending = s.pending ∧
    (s.useFree n).out = s.out ∧
    (s.useFree n).coreTicks = s.coreTicks ∧
    (s.useFree n).params = s.params ∧
    (s.useFree n).cyc = s.cyc ∧
    (s.useFree n).boot = s.boot ∧
    (s.useFree n).ports = s.ports ∧
    (s.useFree n).segs = s.segs ∧
    (s.useFree n).opening = s.opening ∧
    (s.useFree n).fbs = s.fbs ∧
    (s.useFree n).axes = s.axes ∧
    (s.useFree n).steps = s.steps ∧
    (s.useFree n).line = s.line ∧
    (s.useFree n).moves = s.moves ∧
    (s.useFree n).arb = s.arb ∧
    (s.useFree n).groups = s.groups ∧
    (s.useFree n).eng = s.eng ∧
    (s.useFree n).saf = s.saf ∧
    (s.useFree n).die = s.die ∧
    (s.useFree n).fld = s.fld ∧
    (s.useFree n).twin = s.twin ∧
    (s.useFree n).scs = s.scs ∧
    (s.useFree n).time = s.time ∧
    (s.useFree n).host = s.host ∧
    (s.useFree n).axis = s.axis ∧
    (s.useFree n).port = s.port ∧
    (s.useFree n).seg = s.seg ∧
    (s.useFree n).fb = s.fb ∧
    (s.useFree n).stepPort = s.stepPort ∧
    (s.useFree n).pgroup = s.pgroup ∧
    (s.useFree n).engine = s.engine ∧
    (s.useFree n).fq = s.fq ∧
    (s.useFree n).source = s.source ∧
    (s.useFree n).ptp = s.ptp ∧
    (s.useFree n).schan = s.schan ∧
    (s.useFree n).tunit = s.tunit ∧
    (s.useFree n).session = s.session ∧
    (s.useFree n).idents = s.idents ∧
    (s.useFree n).par = s.par ∧
    (s.useFree n).parN = s.parN :=
  ⟨rfl, rfl, rfl, rfl, rfl, rfl, rfl, rfl, rfl, rfl, rfl, rfl, rfl, rfl, rfl, rfl, rfl, rfl, rfl, rfl, rfl, rfl, rfl, rfl, rfl, rfl, rfl, rfl, rfl, rfl, rfl, rfl, rfl, rfl, rfl, rfl, rfl, rfl, rfl, rfl, rfl⟩

@[simp] theorem State.put_fields (s : State) (o : Output) :
    (s.put o).out = (if s.boot.testEn then s.out else o :: s.out) ∧
    (s.put o).pending = s.pending ∧
    (s.put o).freeCtr = s.freeCtr ∧
    (s.put o).coreTicks = s.coreTicks ∧
    (s.put o).params = s.params ∧
    (s.put o).cyc = s.cyc ∧
    (s.put o).boot = s.boot ∧
    (s.put o).ports = s.ports ∧
    (s.put o).segs = s.segs ∧
    (s.put o).opening = s.opening ∧
    (s.put o).fbs = s.fbs ∧
    (s.put o).axes = s.axes ∧
    (s.put o).steps = s.steps ∧
    (s.put o).line = s.line ∧
    (s.put o).moves = s.moves ∧
    (s.put o).arb = s.arb ∧
    (s.put o).groups = s.groups ∧
    (s.put o).eng = s.eng ∧
    (s.put o).saf = s.saf ∧
    (s.put o).die = s.die ∧
    (s.put o).fld = s.fld ∧
    (s.put o).twin = s.twin ∧
    (s.put o).scs = s.scs ∧
    (s.put o).time = s.time ∧
    (s.put o).host = s.host ∧
    (s.put o).axis = s.axis ∧
    (s.put o).port = s.port ∧
    (s.put o).seg = s.seg ∧
    (s.put o).fb = s.fb ∧
    (s.put o).stepPort = s.stepPort ∧
    (s.put o).pgroup = s.pgroup ∧
    (s.put o).engine = s.engine ∧
    (s.put o).fq = s.fq ∧
    (s.put o).source = s.source ∧
    (s.put o).ptp = s.ptp ∧
    (s.put o).schan = s.schan ∧
    (s.put o).tunit = s.tunit ∧
    (s.put o).session = s.session ∧
    (s.put o).idents = s.idents ∧
    (s.put o).par = s.par ∧
    (s.put o).parN = s.parN :=
  ⟨rfl, rfl, rfl, rfl, rfl, rfl, rfl, rfl, rfl, rfl, rfl, rfl, rfl, rfl, rfl, rfl, rfl, rfl, rfl, rfl, rfl, rfl, rfl, rfl, rfl, rfl, rfl, rfl, rfl, rfl, rfl, rfl, rfl, rfl, rfl, rfl, rfl, rfl, rfl, rfl, rfl⟩

@[simp] theorem State.modBar_fields (s : State) (f : Bar0 → Bar0) :
    (s.modBar f).host = { s.host with bar0 := f s.host.bar0 } ∧
    (s.modBar f).pending = s.pending ∧
    (s.modBar f).out = s.out ∧
    (s.modBar f).freeCtr = s.freeCtr ∧
    (s.modBar f).coreTicks = s.coreTicks ∧
    (s.modBar f).params = s.params ∧
    (s.modBar f).cyc = s.cyc ∧
    (s.modBar f).boot = s.boot ∧
    (s.modBar f).ports = s.ports ∧
    (s.modBar f).segs = s.segs ∧
    (s.modBar f).opening = s.opening ∧
    (s.modBar f).fbs = s.fbs ∧
    (s.modBar f).axes = s.axes ∧
    (s.modBar f).steps = s.steps ∧
    (s.modBar f).line = s.line ∧
    (s.modBar f).moves = s.moves ∧
    (s.modBar f).arb = s.arb ∧
    (s.modBar f).groups = s.groups ∧
    (s.modBar f).eng = s.eng ∧
    (s.modBar f).saf = s.saf ∧
    (s.modBar f).die = s.die ∧
    (s.modBar f).fld = s.fld ∧
    (s.modBar f).twin = s.twin ∧
    (s.modBar f).scs = s.scs ∧
    (s.modBar f).time = s.time ∧
    (s.modBar f).axis = s.axis ∧
    (s.modBar f).port = s.port ∧
    (s.modBar f).seg = s.seg ∧
    (s.modBar f).fb = s.fb ∧
    (s.modBar f).stepPort = s.stepPort ∧
    (s.modBar f).pgroup = s.pgroup ∧
    (s.modBar f).engine = s.engine ∧
    (s.modBar f).fq = s.fq ∧
    (s.modBar f).source = s.source ∧
    (s.modBar f).ptp = s.ptp ∧
    (s.modBar f).schan = s.schan ∧
    (s.modBar f).tunit = s.tunit ∧
    (s.modBar f).session = s.session ∧
    (s.modBar f).idents = s.idents ∧
    (s.modBar f).par = s.par ∧
    (s.modBar f).parN = s.parN :=
  ⟨rfl, rfl, rfl, rfl, rfl, rfl, rfl, rfl, rfl, rfl, rfl, rfl, rfl, rfl, rfl, rfl, rfl, rfl, rfl, rfl, rfl, rfl, rfl, rfl, rfl, rfl, rfl, rfl, rfl, rfl, rfl, rfl, rfl, rfl, rfl, rfl, rfl, rfl, rfl, rfl, rfl⟩

@[simp] theorem State.modGrpFlags_fields (s : State) (g : Nat) (f : GrpFlags → GrpFlags) :
    (s.modGrpFlags g f).saf = { s.saf with grpFlags := sput (fun _ => GrpFlags.reset) s.saf.grpFlags g (f (s.grpFlags g)) } ∧
    (s.modGrpFlags g f).pending = s.pending ∧
    (s.modGrpFlags g f).out = s.out ∧
    (s.modGrpFlags g f).freeCtr = s.freeCtr ∧
    (s.modGrpFlags g f).coreTicks = s.coreTicks ∧
    (s.modGrpFlags g f).params = s.params ∧
    (s.modGrpFlags g f).cyc = s.cyc ∧
    (s.modGrpFlags g f).boot = s.boot ∧
    (s.modGrpFlags g f).ports = s.ports ∧
    (s.modGrpFlags g f).segs = s.segs ∧
    (s.modGrpFlags g f).opening = s.opening ∧
    (s.modGrpFlags g f).fbs = s.fbs ∧
    (s.modGrpFlags g f).axes = s.axes ∧
    (s.modGrpFlags g f).steps = s.steps ∧
    (s.modGrpFlags g f).line = s.line ∧
    (s.modGrpFlags g f).moves = s.moves ∧
    (s.modGrpFlags g f).arb = s.arb ∧
    (s.modGrpFlags g f).groups = s.groups ∧
    (s.modGrpFlags g f).eng = s.eng ∧
    (s.modGrpFlags g f).die = s.die ∧
    (s.modGrpFlags g f).fld = s.fld ∧
    (s.modGrpFlags g f).twin = s.twin ∧
    (s.modGrpFlags g f).scs = s.scs ∧
    (s.modGrpFlags g f).time = s.time ∧
    (s.modGrpFlags g f).host = s.host ∧
    (s.modGrpFlags g f).axis = s.axis ∧
    (s.modGrpFlags g f).port = s.port ∧
    (s.modGrpFlags g f).seg = s.seg ∧
    (s.modGrpFlags g f).fb = s.fb ∧
    (s.modGrpFlags g f).stepPort = s.stepPort ∧
    (s.modGrpFlags g f).pgroup = s.pgroup ∧
    (s.modGrpFlags g f).engine = s.engine ∧
    (s.modGrpFlags g f).fq = s.fq ∧
    (s.modGrpFlags g f).source = s.source ∧
    (s.modGrpFlags g f).ptp = s.ptp ∧
    (s.modGrpFlags g f).schan = s.schan ∧
    (s.modGrpFlags g f).tunit = s.tunit ∧
    (s.modGrpFlags g f).session = s.session ∧
    (s.modGrpFlags g f).idents = s.idents ∧
    (s.modGrpFlags g f).par = s.par ∧
    (s.modGrpFlags g f).parN = s.parN :=
  ⟨rfl, rfl, rfl, rfl, rfl, rfl, rfl, rfl, rfl, rfl, rfl, rfl, rfl, rfl, rfl, rfl, rfl, rfl, rfl, rfl, rfl, rfl, rfl, rfl, rfl, rfl, rfl, rfl, rfl, rfl, rfl, rfl, rfl, rfl, rfl, rfl, rfl, rfl, rfl, rfl, rfl⟩

@[simp] theorem State.setChan_fields (s : State) (ch : Chan) (c : Channel) :
    (s.setChan ch c).pending = s.pending ∧
    (s.setChan ch c).out = s.out ∧
    (s.setChan ch c).freeCtr = s.freeCtr ∧
    (s.setChan ch c).coreTicks = s.coreTicks ∧
    (s.setChan ch c).params = s.params ∧
    (s.setChan ch c).cyc = s.cyc ∧
    (s.setChan ch c).boot = s.boot ∧
    (s.setChan ch c).ports = s.ports ∧
    (s.setChan ch c).segs = s.segs ∧
    (s.setChan ch c).opening = s.opening ∧
    (s.setChan ch c).fbs = s.fbs ∧
    (s.setChan ch c).axes = s.axes ∧
    (s.setChan ch c).steps = s.steps ∧
    (s.setChan ch c).line = s.line ∧
    (s.setChan ch c).moves = s.moves ∧
    (s.setChan ch c).arb = s.arb ∧
    (s.setChan ch c).groups = s.groups ∧
    (s.setChan ch c).eng = s.eng ∧
    (s.setChan ch c).die = s.die ∧
    (s.setChan ch c).fld = s.fld ∧
    (s.setChan ch c).twin = s.twin ∧
    (s.setChan ch c).scs = s.scs ∧
    (s.setChan ch c).time = s.time ∧
    (s.setChan ch c).host = s.host ∧
    (s.setChan ch c).axis = s.axis ∧
    (s.setChan ch c).port = s.port ∧
    (s.setChan ch c).seg = s.seg ∧
    (s.setChan ch c).fb = s.fb ∧
    (s.setChan ch c).stepPort = s.stepPort ∧
    (s.setChan ch c).pgroup = s.pgroup ∧
    (s.setChan ch c).engine = s.engine ∧
    (s.setChan ch c).fq = s.fq ∧
    (s.setChan ch c).source = s.source ∧
    (s.setChan ch c).ptp = s.ptp ∧
    (s.setChan ch c).schan = s.schan ∧
    (s.setChan ch c).tunit = s.tunit ∧
    (s.setChan ch c).session = s.session ∧
    (s.setChan ch c).par = s.par ∧
    (s.setChan ch c).parN = s.parN ∧
    (s.setChan ch c).chan ch = c ∧
    (s.setChan ch c).idents = s.idents ∧
    (s.setChan ch c).saf.endgame = s.saf.endgame ∧
    (s.setChan ch c).saf.silent = s.saf.silent := by
  cases ch <;> exact ⟨rfl, rfl, rfl, rfl, rfl, rfl, rfl, rfl, rfl, rfl, rfl, rfl, rfl, rfl, rfl, rfl, rfl, rfl, rfl, rfl, rfl, rfl, rfl, rfl, rfl, rfl, rfl, rfl, rfl, rfl, rfl, rfl, rfl, rfl, rfl, rfl, rfl, rfl, rfl, rfl, rfl, rfl, rfl⟩

@[simp] theorem State.setChan_p (s : State) (c : Channel) : (s.setChan .p c).saf = { s.saf with p := c } := rfl
@[simp] theorem State.setChan_h (s : State) (c : Channel) : (s.setChan .h c).saf = { s.saf with h := c } := rfl

@[simp] theorem State.modAxis_eq (s : State) (a : Nat) (f : Axis → Axis) : s.modAxis a f = s.setAxis a (f (s.axis a)) := rfl

@[simp] theorem State.modPort_eq (s : State) (a : Nat) (f : RingPort → RingPort) : s.modPort a f = s.setPort a (f (s.port a)) := rfl

@[simp] theorem State.modSeg_eq (s : State) (a : Nat) (f : Segment → Segment) : s.modSeg a f = s.setSeg a (f (s.seg a)) := rfl

@[simp] theorem State.modFb_eq (s : State) (a : Nat) (f : FbPort → FbPort) : s.modFb a f = s.setFb a (f (s.fb a)) := rfl

@[simp] theorem State.modStep_eq (s : State) (a : Nat) (f : StepPort → StepPort) : s.modStep a f = s.setStep a (f (s.stepPort a)) := rfl

@[simp] theorem State.modEngine_eq (s : State) (a : Nat) (f : Engine → Engine) : s.modEngine a f = s.setEngine a (f (s.engine a)) := rfl

@[simp] theorem State.modFq_eq (s : State) (a : Nat) (f : Fq → Fq) : s.modFq a f = s.setFq a (f (s.fq a)) := rfl

@[simp] theorem State.modSession_eq (s : State) (a : Nat) (f : Session → Session) : s.modSession a f = s.setSession a (f (s.session a)) := rfl

@[simp] theorem State.modNode_eq (s : State) (n i : Nat) (f : NodeSt → NodeSt) :
    s.modNode n i f = s.setSeg n ((s.seg n).setNode i (f ((s.seg n).node i))) := rfl

@[simp] theorem Segment.setNode_self (g : Segment) (i : Nat) (x : NodeSt) : (g.setNode i x).node i = x := by
  simp [Segment.setNode, Segment.node]

@[simp] theorem Segment.setNode_ne (g : Segment) (i : Nat) (x : NodeSt) (j : Nat) (h : j ≠ i) : (g.setNode i x).node j = g.node j := by
  simp [Segment.setNode, Segment.node, h]

@[simp] theorem Channel.setGroup_self (c : Channel) (i : Nat) (x : ChGroup) : (c.setGroup i x).group i = x := by
  simp [Channel.setGroup, Channel.group]

@[simp] theorem Channel.setGroup_ne (c : Channel) (i : Nat) (x : ChGroup) (j : Nat) (h : j ≠ i) : (c.setGroup i x).group j = c.group j := by
  simp [Channel.setGroup, Channel.group, h]

@[simp] theorem Channel.setMon_self (c : Channel) (i : Nat) (x : AxMon) : (c.setMon i x).mon i = x := by
  simp [Channel.setMon, Channel.mon]

@[simp] theorem Channel.setMon_ne (c : Channel) (i : Nat) (x : AxMon) (j : Nat) (h : j ≠ i) : (c.setMon i x).mon j = c.mon j := by
  simp [Channel.setMon, Channel.mon, h]

@[simp] theorem Channel.setPair_self (c : Channel) (i : Nat) (x : PairSt) : (c.setPair i x).pair i = x := by
  simp [Channel.setPair, Channel.pair]

@[simp] theorem Channel.setPair_ne (c : Channel) (i : Nat) (x : PairSt) (j : Nat) (h : j ≠ i) : (c.setPair i x).pair j = c.pair j := by
  simp [Channel.setPair, Channel.pair, h]

/-! A field of a choice, and of a fold that leaves the field. -/

@[simp] theorem State.foldl_pending {β : Type} (f : State → β → State) (h : ∀ s x, (f s x).pending = s.pending) (l : List β) (s : State) :
    (l.foldl f s).pending = s.pending := by
  induction l generalizing s with
  | nil => rfl
  | cons x l ih => simp [ih, h]

@[simp] theorem State.foldl_out {β : Type} (f : State → β → State) (h : ∀ s x, (f s x).out = s.out) (l : List β) (s : State) :
    (l.foldl f s).out = s.out := by
  induction l generalizing s with
  | nil => rfl
  | cons x l ih => simp [ih, h]

@[simp] theorem State.foldl_freeCtr {β : Type} (f : State → β → State) (h : ∀ s x, (f s x).freeCtr = s.freeCtr) (l : List β) (s : State) :
    (l.foldl f s).freeCtr = s.freeCtr := by
  induction l generalizing s with
  | nil => rfl
  | cons x l ih => simp [ih, h]

@[simp] theorem State.foldl_coreTicks {β : Type} (f : State → β → State) (h : ∀ s x, (f s x).coreTicks = s.coreTicks) (l : List β) (s : State) :
    (l.foldl f s).coreTicks = s.coreTicks := by
  induction l generalizing s with
  | nil => rfl
  | cons x l ih => simp [ih, h]

@[simp] theorem State.foldl_params {β : Type} (f : State → β → State) (h : ∀ s x, (f s x).params = s.params) (l : List β) (s : State) :
    (l.foldl f s).params = s.params := by
  induction l generalizing s with
  | nil => rfl
  | cons x l ih => simp [ih, h]

@[simp] theorem State.foldl_cyc {β : Type} (f : State → β → State) (h : ∀ s x, (f s x).cyc = s.cyc) (l : List β) (s : State) :
    (l.foldl f s).cyc = s.cyc := by
  induction l generalizing s with
  | nil => rfl
  | cons x l ih => simp [ih, h]

@[simp] theorem State.foldl_boot {β : Type} (f : State → β → State) (h : ∀ s x, (f s x).boot = s.boot) (l : List β) (s : State) :
    (l.foldl f s).boot = s.boot := by
  induction l generalizing s with
  | nil => rfl
  | cons x l ih => simp [ih, h]

@[simp] theorem State.foldl_ports {β : Type} (f : State → β → State) (h : ∀ s x, (f s x).ports = s.ports) (l : List β) (s : State) :
    (l.foldl f s).ports = s.ports := by
  induction l generalizing s with
  | nil => rfl
  | cons x l ih => simp [ih, h]

@[simp] theorem State.foldl_segs {β : Type} (f : State → β → State) (h : ∀ s x, (f s x).segs = s.segs) (l : List β) (s : State) :
    (l.foldl f s).segs = s.segs := by
  induction l generalizing s with
  | nil => rfl
  | cons x l ih => simp [ih, h]

@[simp] theorem State.foldl_opening {β : Type} (f : State → β → State) (h : ∀ s x, (f s x).opening = s.opening) (l : List β) (s : State) :
    (l.foldl f s).opening = s.opening := by
  induction l generalizing s with
  | nil => rfl
  | cons x l ih => simp [ih, h]

@[simp] theorem State.foldl_fbs {β : Type} (f : State → β → State) (h : ∀ s x, (f s x).fbs = s.fbs) (l : List β) (s : State) :
    (l.foldl f s).fbs = s.fbs := by
  induction l generalizing s with
  | nil => rfl
  | cons x l ih => simp [ih, h]

@[simp] theorem State.foldl_axes {β : Type} (f : State → β → State) (h : ∀ s x, (f s x).axes = s.axes) (l : List β) (s : State) :
    (l.foldl f s).axes = s.axes := by
  induction l generalizing s with
  | nil => rfl
  | cons x l ih => simp [ih, h]

@[simp] theorem State.foldl_steps {β : Type} (f : State → β → State) (h : ∀ s x, (f s x).steps = s.steps) (l : List β) (s : State) :
    (l.foldl f s).steps = s.steps := by
  induction l generalizing s with
  | nil => rfl
  | cons x l ih => simp [ih, h]

@[simp] theorem State.foldl_line {β : Type} (f : State → β → State) (h : ∀ s x, (f s x).line = s.line) (l : List β) (s : State) :
    (l.foldl f s).line = s.line := by
  induction l generalizing s with
  | nil => rfl
  | cons x l ih => simp [ih, h]

@[simp] theorem State.foldl_moves {β : Type} (f : State → β → State) (h : ∀ s x, (f s x).moves = s.moves) (l : List β) (s : State) :
    (l.foldl f s).moves = s.moves := by
  induction l generalizing s with
  | nil => rfl
  | cons x l ih => simp [ih, h]

@[simp] theorem State.foldl_arb {β : Type} (f : State → β → State) (h : ∀ s x, (f s x).arb = s.arb) (l : List β) (s : State) :
    (l.foldl f s).arb = s.arb := by
  induction l generalizing s with
  | nil => rfl
  | cons x l ih => simp [ih, h]

@[simp] theorem State.foldl_groups {β : Type} (f : State → β → State) (h : ∀ s x, (f s x).groups = s.groups) (l : List β) (s : State) :
    (l.foldl f s).groups = s.groups := by
  induction l generalizing s with
  | nil => rfl
  | cons x l ih => simp [ih, h]

@[simp] theorem State.foldl_eng {β : Type} (f : State → β → State) (h : ∀ s x, (f s x).eng = s.eng) (l : List β) (s : State) :
    (l.foldl f s).eng = s.eng := by
  induction l generalizing s with
  | nil => rfl
  | cons x l ih => simp [ih, h]

@[simp] theorem State.foldl_saf {β : Type} (f : State → β → State) (h : ∀ s x, (f s x).saf = s.saf) (l : List β) (s : State) :
    (l.foldl f s).saf = s.saf := by
  induction l generalizing s with
  | nil => rfl
  | cons x l ih => simp [ih, h]

@[simp] theorem State.foldl_die {β : Type} (f : State → β → State) (h : ∀ s x, (f s x).die = s.die) (l : List β) (s : State) :
    (l.foldl f s).die = s.die := by
  induction l generalizing s with
  | nil => rfl
  | cons x l ih => simp [ih, h]

@[simp] theorem State.foldl_fld {β : Type} (f : State → β → State) (h : ∀ s x, (f s x).fld = s.fld) (l : List β) (s : State) :
    (l.foldl f s).fld = s.fld := by
  induction l generalizing s with
  | nil => rfl
  | cons x l ih => simp [ih, h]

@[simp] theorem State.foldl_twin {β : Type} (f : State → β → State) (h : ∀ s x, (f s x).twin = s.twin) (l : List β) (s : State) :
    (l.foldl f s).twin = s.twin := by
  induction l generalizing s with
  | nil => rfl
  | cons x l ih => simp [ih, h]

@[simp] theorem State.foldl_scs {β : Type} (f : State → β → State) (h : ∀ s x, (f s x).scs = s.scs) (l : List β) (s : State) :
    (l.foldl f s).scs = s.scs := by
  induction l generalizing s with
  | nil => rfl
  | cons x l ih => simp [ih, h]

@[simp] theorem State.foldl_time {β : Type} (f : State → β → State) (h : ∀ s x, (f s x).time = s.time) (l : List β) (s : State) :
    (l.foldl f s).time = s.time := by
  induction l generalizing s with
  | nil => rfl
  | cons x l ih => simp [ih, h]

@[simp] theorem State.foldl_host {β : Type} (f : State → β → State) (h : ∀ s x, (f s x).host = s.host) (l : List β) (s : State) :
    (l.foldl f s).host = s.host := by
  induction l generalizing s with
  | nil => rfl
  | cons x l ih => simp [ih, h]

@[simp] theorem State.ite_pending (c : Prop) [Decidable c] (a b : State) : (if c then a else b).pending = if c then a.pending else b.pending := by
  split <;> rfl

@[simp] theorem State.ite_out (c : Prop) [Decidable c] (a b : State) : (if c then a else b).out = if c then a.out else b.out := by
  split <;> rfl

@[simp] theorem State.ite_freeCtr (c : Prop) [Decidable c] (a b : State) : (if c then a else b).freeCtr = if c then a.freeCtr else b.freeCtr := by
  split <;> rfl

@[simp] theorem State.ite_coreTicks (c : Prop) [Decidable c] (a b : State) : (if c then a else b).coreTicks = if c then a.coreTicks else b.coreTicks := by
  split <;> rfl

@[simp] theorem State.ite_params (c : Prop) [Decidable c] (a b : State) : (if c then a else b).params = if c then a.params else b.params := by
  split <;> rfl

@[simp] theorem State.ite_cyc (c : Prop) [Decidable c] (a b : State) : (if c then a else b).cyc = if c then a.cyc else b.cyc := by
  split <;> rfl

@[simp] theorem State.ite_boot (c : Prop) [Decidable c] (a b : State) : (if c then a else b).boot = if c then a.boot else b.boot := by
  split <;> rfl

@[simp] theorem State.ite_ports (c : Prop) [Decidable c] (a b : State) : (if c then a else b).ports = if c then a.ports else b.ports := by
  split <;> rfl

@[simp] theorem State.ite_segs (c : Prop) [Decidable c] (a b : State) : (if c then a else b).segs = if c then a.segs else b.segs := by
  split <;> rfl

@[simp] theorem State.ite_opening (c : Prop) [Decidable c] (a b : State) : (if c then a else b).opening = if c then a.opening else b.opening := by
  split <;> rfl

@[simp] theorem State.ite_fbs (c : Prop) [Decidable c] (a b : State) : (if c then a else b).fbs = if c then a.fbs else b.fbs := by
  split <;> rfl

@[simp] theorem State.ite_axes (c : Prop) [Decidable c] (a b : State) : (if c then a else b).axes = if c then a.axes else b.axes := by
  split <;> rfl

@[simp] theorem State.ite_steps (c : Prop) [Decidable c] (a b : State) : (if c then a else b).steps = if c then a.steps else b.steps := by
  split <;> rfl

@[simp] theorem State.ite_line (c : Prop) [Decidable c] (a b : State) : (if c then a else b).line = if c then a.line else b.line := by
  split <;> rfl

@[simp] theorem State.ite_moves (c : Prop) [Decidable c] (a b : State) : (if c then a else b).moves = if c then a.moves else b.moves := by
  split <;> rfl

@[simp] theorem State.ite_arb (c : Prop) [Decidable c] (a b : State) : (if c then a else b).arb = if c then a.arb else b.arb := by
  split <;> rfl

@[simp] theorem State.ite_groups (c : Prop) [Decidable c] (a b : State) : (if c then a else b).groups = if c then a.groups else b.groups := by
  split <;> rfl

@[simp] theorem State.ite_eng (c : Prop) [Decidable c] (a b : State) : (if c then a else b).eng = if c then a.eng else b.eng := by
  split <;> rfl

@[simp] theorem State.ite_saf (c : Prop) [Decidable c] (a b : State) : (if c then a else b).saf = if c then a.saf else b.saf := by
  split <;> rfl

@[simp] theorem State.ite_die (c : Prop) [Decidable c] (a b : State) : (if c then a else b).die = if c then a.die else b.die := by
  split <;> rfl

@[simp] theorem State.ite_fld (c : Prop) [Decidable c] (a b : State) : (if c then a else b).fld = if c then a.fld else b.fld := by
  split <;> rfl

@[simp] theorem State.ite_twin (c : Prop) [Decidable c] (a b : State) : (if c then a else b).twin = if c then a.twin else b.twin := by
  split <;> rfl

@[simp] theorem State.ite_scs (c : Prop) [Decidable c] (a b : State) : (if c then a else b).scs = if c then a.scs else b.scs := by
  split <;> rfl

@[simp] theorem State.ite_time (c : Prop) [Decidable c] (a b : State) : (if c then a else b).time = if c then a.time else b.time := by
  split <;> rfl

@[simp] theorem State.ite_host (c : Prop) [Decidable c] (a b : State) : (if c then a else b).host = if c then a.host else b.host := by
  split <;> rfl

@[simp] theorem State.ite_fst {γ : Type} (c : Prop) [Decidable c] (a b : State × γ) : (if c then a else b).1 = if c then a.1 else b.1 := by
  split <;> rfl

@[simp] theorem State.foldl_fst_pending {β γ : Type} (f : State × γ → β → State × γ) (h : ∀ p x, (f p x).1.pending = p.1.pending) (l : List β) (p : State × γ) :
    (l.foldl f p).1.pending = p.1.pending := by
  induction l generalizing p with
  | nil => rfl
  | cons x l ih => simp [ih, h]

@[simp] theorem State.foldl_fst_out {β γ : Type} (f : State × γ → β → State × γ) (h : ∀ p x, (f p x).1.out = p.1.out) (l : List β) (p : State × γ) :
    (l.foldl f p).1.out = p.1.out := by
  induction l generalizing p with
  | nil => rfl
  | cons x l ih => simp [ih, h]

@[simp] theorem State.foldl_fst_freeCtr {β γ : Type} (f : State × γ → β → State × γ) (h : ∀ p x, (f p x).1.freeCtr = p.1.freeCtr) (l : List β) (p : State × γ) :
    (l.foldl f p).1.freeCtr = p.1.freeCtr := by
  induction l generalizing p with
  | nil => rfl
  | cons x l ih => simp [ih, h]

@[simp] theorem State.foldl_fst_coreTicks {β γ : Type} (f : State × γ → β → State × γ) (h : ∀ p x, (f p x).1.coreTicks = p.1.coreTicks) (l : List β) (p : State × γ) :
    (l.foldl f p).1.coreTicks = p.1.coreTicks := by
  induction l generalizing p with
  | nil => rfl
  | cons x l ih => simp [ih, h]

@[simp] theorem State.foldl_fst_params {β γ : Type} (f : State × γ → β → State × γ) (h : ∀ p x, (f p x).1.params = p.1.params) (l : List β) (p : State × γ) :
    (l.foldl f p).1.params = p.1.params := by
  induction l generalizing p with
  | nil => rfl
  | cons x l ih => simp [ih, h]

@[simp] theorem State.foldl_fst_cyc {β γ : Type} (f : State × γ → β → State × γ) (h : ∀ p x, (f p x).1.cyc = p.1.cyc) (l : List β) (p : State × γ) :
    (l.foldl f p).1.cyc = p.1.cyc := by
  induction l generalizing p with
  | nil => rfl
  | cons x l ih => simp [ih, h]

@[simp] theorem State.foldl_fst_boot {β γ : Type} (f : State × γ → β → State × γ) (h : ∀ p x, (f p x).1.boot = p.1.boot) (l : List β) (p : State × γ) :
    (l.foldl f p).1.boot = p.1.boot := by
  induction l generalizing p with
  | nil => rfl
  | cons x l ih => simp [ih, h]

@[simp] theorem State.foldl_fst_ports {β γ : Type} (f : State × γ → β → State × γ) (h : ∀ p x, (f p x).1.ports = p.1.ports) (l : List β) (p : State × γ) :
    (l.foldl f p).1.ports = p.1.ports := by
  induction l generalizing p with
  | nil => rfl
  | cons x l ih => simp [ih, h]

@[simp] theorem State.foldl_fst_segs {β γ : Type} (f : State × γ → β → State × γ) (h : ∀ p x, (f p x).1.segs = p.1.segs) (l : List β) (p : State × γ) :
    (l.foldl f p).1.segs = p.1.segs := by
  induction l generalizing p with
  | nil => rfl
  | cons x l ih => simp [ih, h]

@[simp] theorem State.foldl_fst_opening {β γ : Type} (f : State × γ → β → State × γ) (h : ∀ p x, (f p x).1.opening = p.1.opening) (l : List β) (p : State × γ) :
    (l.foldl f p).1.opening = p.1.opening := by
  induction l generalizing p with
  | nil => rfl
  | cons x l ih => simp [ih, h]

@[simp] theorem State.foldl_fst_fbs {β γ : Type} (f : State × γ → β → State × γ) (h : ∀ p x, (f p x).1.fbs = p.1.fbs) (l : List β) (p : State × γ) :
    (l.foldl f p).1.fbs = p.1.fbs := by
  induction l generalizing p with
  | nil => rfl
  | cons x l ih => simp [ih, h]

@[simp] theorem State.foldl_fst_axes {β γ : Type} (f : State × γ → β → State × γ) (h : ∀ p x, (f p x).1.axes = p.1.axes) (l : List β) (p : State × γ) :
    (l.foldl f p).1.axes = p.1.axes := by
  induction l generalizing p with
  | nil => rfl
  | cons x l ih => simp [ih, h]

@[simp] theorem State.foldl_fst_steps {β γ : Type} (f : State × γ → β → State × γ) (h : ∀ p x, (f p x).1.steps = p.1.steps) (l : List β) (p : State × γ) :
    (l.foldl f p).1.steps = p.1.steps := by
  induction l generalizing p with
  | nil => rfl
  | cons x l ih => simp [ih, h]

@[simp] theorem State.foldl_fst_line {β γ : Type} (f : State × γ → β → State × γ) (h : ∀ p x, (f p x).1.line = p.1.line) (l : List β) (p : State × γ) :
    (l.foldl f p).1.line = p.1.line := by
  induction l generalizing p with
  | nil => rfl
  | cons x l ih => simp [ih, h]

@[simp] theorem State.foldl_fst_moves {β γ : Type} (f : State × γ → β → State × γ) (h : ∀ p x, (f p x).1.moves = p.1.moves) (l : List β) (p : State × γ) :
    (l.foldl f p).1.moves = p.1.moves := by
  induction l generalizing p with
  | nil => rfl
  | cons x l ih => simp [ih, h]

@[simp] theorem State.foldl_fst_arb {β γ : Type} (f : State × γ → β → State × γ) (h : ∀ p x, (f p x).1.arb = p.1.arb) (l : List β) (p : State × γ) :
    (l.foldl f p).1.arb = p.1.arb := by
  induction l generalizing p with
  | nil => rfl
  | cons x l ih => simp [ih, h]

@[simp] theorem State.foldl_fst_groups {β γ : Type} (f : State × γ → β → State × γ) (h : ∀ p x, (f p x).1.groups = p.1.groups) (l : List β) (p : State × γ) :
    (l.foldl f p).1.groups = p.1.groups := by
  induction l generalizing p with
  | nil => rfl
  | cons x l ih => simp [ih, h]

@[simp] theorem State.foldl_fst_eng {β γ : Type} (f : State × γ → β → State × γ) (h : ∀ p x, (f p x).1.eng = p.1.eng) (l : List β) (p : State × γ) :
    (l.foldl f p).1.eng = p.1.eng := by
  induction l generalizing p with
  | nil => rfl
  | cons x l ih => simp [ih, h]

@[simp] theorem State.foldl_fst_saf {β γ : Type} (f : State × γ → β → State × γ) (h : ∀ p x, (f p x).1.saf = p.1.saf) (l : List β) (p : State × γ) :
    (l.foldl f p).1.saf = p.1.saf := by
  induction l generalizing p with
  | nil => rfl
  | cons x l ih => simp [ih, h]

@[simp] theorem State.foldl_fst_die {β γ : Type} (f : State × γ → β → State × γ) (h : ∀ p x, (f p x).1.die = p.1.die) (l : List β) (p : State × γ) :
    (l.foldl f p).1.die = p.1.die := by
  induction l generalizing p with
  | nil => rfl
  | cons x l ih => simp [ih, h]

@[simp] theorem State.foldl_fst_fld {β γ : Type} (f : State × γ → β → State × γ) (h : ∀ p x, (f p x).1.fld = p.1.fld) (l : List β) (p : State × γ) :
    (l.foldl f p).1.fld = p.1.fld := by
  induction l generalizing p with
  | nil => rfl
  | cons x l ih => simp [ih, h]

@[simp] theorem State.foldl_fst_twin {β γ : Type} (f : State × γ → β → State × γ) (h : ∀ p x, (f p x).1.twin = p.1.twin) (l : List β) (p : State × γ) :
    (l.foldl f p).1.twin = p.1.twin := by
  induction l generalizing p with
  | nil => rfl
  | cons x l ih => simp [ih, h]

@[simp] theorem State.foldl_fst_scs {β γ : Type} (f : State × γ → β → State × γ) (h : ∀ p x, (f p x).1.scs = p.1.scs) (l : List β) (p : State × γ) :
    (l.foldl f p).1.scs = p.1.scs := by
  induction l generalizing p with
  | nil => rfl
  | cons x l ih => simp [ih, h]

@[simp] theorem State.foldl_fst_time {β γ : Type} (f : State × γ → β → State × γ) (h : ∀ p x, (f p x).1.time = p.1.time) (l : List β) (p : State × γ) :
    (l.foldl f p).1.time = p.1.time := by
  induction l generalizing p with
  | nil => rfl
  | cons x l ih => simp [ih, h]

@[simp] theorem State.foldl_fst_host {β γ : Type} (f : State × γ → β → State × γ) (h : ∀ p x, (f p x).1.host = p.1.host) (l : List β) (p : State × γ) :
    (l.foldl f p).1.host = p.1.host := by
  induction l generalizing p with
  | nil => rfl
  | cons x l ih => simp [ih, h]

@[simp] theorem State.foldl_saf_endgame {β : Type} (f : State → β → State) (h : ∀ s x, (f s x).saf.endgame = s.saf.endgame) (l : List β) (s : State) :
    (l.foldl f s).saf.endgame = s.saf.endgame := by
  induction l generalizing s with
  | nil => rfl
  | cons x l ih => simp [ih, h]

@[simp] theorem State.foldl_fst_saf_endgame {β γ : Type} (f : State × γ → β → State × γ) (h : ∀ p x, (f p x).1.saf.endgame = p.1.saf.endgame) (l : List β) (p : State × γ) :
    (l.foldl f p).1.saf.endgame = p.1.saf.endgame := by
  induction l generalizing p with
  | nil => rfl
  | cons x l ih => simp [ih, h]

@[simp] theorem Safety.ite_endgame (c : Prop) [Decidable c] (a b : Safety) : (if c then a else b).endgame = if c then a.endgame else b.endgame := by
  split <;> rfl

@[simp] theorem State.foldl_saf_silent {β : Type} (f : State → β → State) (h : ∀ s x, (f s x).saf.silent = s.saf.silent) (l : List β) (s : State) :
    (l.foldl f s).saf.silent = s.saf.silent := by
  induction l generalizing s with
  | nil => rfl
  | cons x l ih => simp [ih, h]

@[simp] theorem State.foldl_fst_saf_silent {β γ : Type} (f : State × γ → β → State × γ) (h : ∀ p x, (f p x).1.saf.silent = p.1.saf.silent) (l : List β) (p : State × γ) :
    (l.foldl f p).1.saf.silent = p.1.saf.silent := by
  induction l generalizing p with
  | nil => rfl
  | cons x l ih => simp [ih, h]

@[simp] theorem Safety.ite_silent (c : Prop) [Decidable c] (a b : Safety) : (if c then a else b).silent = if c then a.silent else b.silent := by
  split <;> rfl

@[simp] theorem State.foldl_twin_standby {β : Type} (f : State → β → State) (h : ∀ s x, (f s x).twin.standby = s.twin.standby) (l : List β) (s : State) :
    (l.foldl f s).twin.standby = s.twin.standby := by
  induction l generalizing s with
  | nil => rfl
  | cons x l ih => simp [ih, h]

@[simp] theorem State.foldl_fst_twin_standby {β γ : Type} (f : State × γ → β → State × γ) (h : ∀ p x, (f p x).1.twin.standby = p.1.twin.standby) (l : List β) (p : State × γ) :
    (l.foldl f p).1.twin.standby = p.1.twin.standby := by
  induction l generalizing p with
  | nil => rfl
  | cons x l ih => simp [ih, h]

@[simp] theorem Twin.ite_standby (c : Prop) [Decidable c] (a b : Twin) : (if c then a else b).standby = if c then a.standby else b.standby := by
  split <;> rfl

@[simp] theorem State.foldl_twin_onMove {β : Type} (f : State → β → State) (h : ∀ s x, (f s x).twin.onMove = s.twin.onMove) (l : List β) (s : State) :
    (l.foldl f s).twin.onMove = s.twin.onMove := by
  induction l generalizing s with
  | nil => rfl
  | cons x l ih => simp [ih, h]

@[simp] theorem State.foldl_fst_twin_onMove {β γ : Type} (f : State × γ → β → State × γ) (h : ∀ p x, (f p x).1.twin.onMove = p.1.twin.onMove) (l : List β) (p : State × γ) :
    (l.foldl f p).1.twin.onMove = p.1.twin.onMove := by
  induction l generalizing p with
  | nil => rfl
  | cons x l ih => simp [ih, h]

@[simp] theorem Twin.ite_onMove (c : Prop) [Decidable c] (a b : Twin) : (if c then a else b).onMove = if c then a.onMove else b.onMove := by
  split <;> rfl

@[simp] theorem State.foldl_boot_recovery {β : Type} (f : State → β → State) (h : ∀ s x, (f s x).boot.recovery = s.boot.recovery) (l : List β) (s : State) :
    (l.foldl f s).boot.recovery = s.boot.recovery := by
  induction l generalizing s with
  | nil => rfl
  | cons x l ih => simp [ih, h]

@[simp] theorem State.foldl_fst_boot_recovery {β γ : Type} (f : State × γ → β → State × γ) (h : ∀ p x, (f p x).1.boot.recovery = p.1.boot.recovery) (l : List β) (p : State × γ) :
    (l.foldl f p).1.boot.recovery = p.1.boot.recovery := by
  induction l generalizing p with
  | nil => rfl
  | cons x l ih => simp [ih, h]

@[simp] theorem BootSt.ite_recovery (c : Prop) [Decidable c] (a b : BootSt) : (if c then a else b).recovery = if c then a.recovery else b.recovery := by
  split <;> rfl

@[simp] theorem State.foldl_host_keys {β : Type} (f : State → β → State) (h : ∀ s x, (f s x).host.keys = s.host.keys) (l : List β) (s : State) :
    (l.foldl f s).host.keys = s.host.keys := by
  induction l generalizing s with
  | nil => rfl
  | cons x l ih => simp [ih, h]

@[simp] theorem State.foldl_fst_host_keys {β γ : Type} (f : State × γ → β → State × γ) (h : ∀ p x, (f p x).1.host.keys = p.1.host.keys) (l : List β) (p : State × γ) :
    (l.foldl f p).1.host.keys = p.1.host.keys := by
  induction l generalizing p with
  | nil => rfl
  | cons x l ih => simp [ih, h]

@[simp] theorem HostSt.ite_keys (c : Prop) [Decidable c] (a b : HostSt) : (if c then a else b).keys = if c then a.keys else b.keys := by
  split <;> rfl

@[simp] theorem State.foldl_host_parQueue {β : Type} (f : State → β → State) (h : ∀ s x, (f s x).host.parQueue = s.host.parQueue) (l : List β) (s : State) :
    (l.foldl f s).host.parQueue = s.host.parQueue := by
  induction l generalizing s with
  | nil => rfl
  | cons x l ih => simp [ih, h]

@[simp] theorem State.foldl_fst_host_parQueue {β γ : Type} (f : State × γ → β → State × γ) (h : ∀ p x, (f p x).1.host.parQueue = p.1.host.parQueue) (l : List β) (p : State × γ) :
    (l.foldl f p).1.host.parQueue = p.1.host.parQueue := by
  induction l generalizing p with
  | nil => rfl
  | cons x l ih => simp [ih, h]

@[simp] theorem HostSt.ite_parQueue (c : Prop) [Decidable c] (a b : HostSt) : (if c then a else b).parQueue = if c then a.parQueue else b.parQueue := by
  split <;> rfl

@[simp] theorem State.foldl_host_sessions {β : Type} (f : State → β → State) (h : ∀ s x, (f s x).host.sessions = s.host.sessions) (l : List β) (s : State) :
    (l.foldl f s).host.sessions = s.host.sessions := by
  induction l generalizing s with
  | nil => rfl
  | cons x l ih => simp [ih, h]

@[simp] theorem State.foldl_fst_host_sessions {β γ : Type} (f : State × γ → β → State × γ) (h : ∀ p x, (f p x).1.host.sessions = p.1.host.sessions) (l : List β) (p : State × γ) :
    (l.foldl f p).1.host.sessions = p.1.host.sessions := by
  induction l generalizing p with
  | nil => rfl
  | cons x l ih => simp [ih, h]

@[simp] theorem HostSt.ite_sessions (c : Prop) [Decidable c] (a b : HostSt) : (if c then a else b).sessions = if c then a.sessions else b.sessions := by
  split <;> rfl

@[simp] theorem State.foldl_cyc_cycle {β : Type} (f : State → β → State) (h : ∀ s x, (f s x).cyc.cycle = s.cyc.cycle) (l : List β) (s : State) :
    (l.foldl f s).cyc.cycle = s.cyc.cycle := by
  induction l generalizing s with
  | nil => rfl
  | cons x l ih => simp [ih, h]

@[simp] theorem State.foldl_fst_cyc_cycle {β γ : Type} (f : State × γ → β → State × γ) (h : ∀ p x, (f p x).1.cyc.cycle = p.1.cyc.cycle) (l : List β) (p : State × γ) :
    (l.foldl f p).1.cyc.cycle = p.1.cyc.cycle := by
  induction l generalizing p with
  | nil => rfl
  | cons x l ih => simp [ih, h]

@[simp] theorem Cycle.ite_cycle (c : Prop) [Decidable c] (a b : Cycle) : (if c then a else b).cycle = if c then a.cycle else b.cycle := by
  split <;> rfl

@[simp] theorem State.foldl_cyc_running {β : Type} (f : State → β → State) (h : ∀ s x, (f s x).cyc.running = s.cyc.running) (l : List β) (s : State) :
    (l.foldl f s).cyc.running = s.cyc.running := by
  induction l generalizing s with
  | nil => rfl
  | cons x l ih => simp [ih, h]

@[simp] theorem State.foldl_fst_cyc_running {β γ : Type} (f : State × γ → β → State × γ) (h : ∀ p x, (f p x).1.cyc.running = p.1.cyc.running) (l : List β) (p : State × γ) :
    (l.foldl f p).1.cyc.running = p.1.cyc.running := by
  induction l generalizing p with
  | nil => rfl
  | cons x l ih => simp [ih, h]

@[simp] theorem Cycle.ite_running (c : Prop) [Decidable c] (a b : Cycle) : (if c then a else b).running = if c then a.running else b.running := by
  split <;> rfl

@[simp] theorem State.foldl_idents {β : Type} (f : State → β → State) (h : ∀ s x, (f s x).idents = s.idents) (l : List β) (s : State) :
    (l.foldl f s).idents = s.idents := by
  induction l generalizing s with
  | nil => rfl
  | cons x l ih => simp [ih, h]

@[simp] theorem State.foldl_fst_idents {β γ : Type} (f : State × γ → β → State × γ) (h : ∀ p x, (f p x).1.idents = p.1.idents) (l : List β)
    (p : State × γ) : (l.foldl f p).1.idents = p.1.idents := by
  induction l generalizing p with
  | nil => rfl
  | cons x l ih => simp [ih, h]

@[simp] theorem State.ite_idents (c : Prop) [Decidable c] (a b : State) : (if c then a else b).idents = if c then a.idents else b.idents := by
  split <;> rfl

theorem State.idents_eq (s t : State) (h : t.host.sessions = s.host.sessions) : t.idents = s.idents := by
  funext i; simp [State.idents, State.session, h]

@[simp] theorem State.setSession_idents (s : State) (i : Nat) (x : Session) (h1 : x.phase = (s.session i).phase) (h2 : x.id = (s.session i).id)
    (h3 : x.role = (s.session i).role) (h4 : x.source = (s.session i).source) (h5 : x.key = (s.session i).key) :
    (s.setSession i x).idents = s.idents := by
  funext j
  by_cases e : j = i
  · subst e; simp [State.idents, Session.ident, h1, h2, h3, h4, h5]
  · simp [State.idents, e]

@[simp] theorem State.idents_mk (f0 f1 f2 f3 f4 f5 f6 f7 f8 f9 f10 f11 f12 f13 f14 f15 f16 f17 f18 f19 f20 f21 f22 f23 f24) :
    State.idents (State.mk f0 f1 f2 f3 f4 f5 f6 f7 f8 f9 f10 f11 f12 f13 f14 f15 f16 f17 f18 f19 f20 f21 f22 f23 f24) = fun i => (sget (fun _ => Session.reset) f24.sessions i).ident := rfl

@[simp] theorem State.idents_fold (s : State) : (fun i => (sget (fun _ => Session.reset) s.host.sessions i).ident) = s.idents := rfl

@[simp] theorem State.modBar_idents (s : State) (f : Bar0 → Bar0) : (s.modBar f).idents = s.idents := rfl
@[simp] theorem State.put_idents (s : State) (o : Output) : (s.put o).idents = s.idents := rfl

end Sys2Proof.Machine
end

