-- ==== Sys2Proof/Laws/FrameOps.lean ====
section
/-! SUPPORT. What the operations of Machine/Ops.lean leave unchanged: one rule per operation. -/

namespace Sys2Proof.Machine

@[simp] theorem State.putStep_frame (s : State) (n : Nat) (p : StepPort) :
    (State.putStep s n p).pending = s.pending ∧
    (State.putStep s n p).out = s.out ∧
    (State.putStep s n p).freeCtr = s.freeCtr ∧
    (State.putStep s n p).coreTicks = s.coreTicks ∧
    (State.putStep s n p).params = s.params ∧
    (State.putStep s n p).cyc = s.cyc ∧
    (State.putStep s n p).boot = s.boot ∧
    (State.putStep s n p).ports = s.ports ∧
    (State.putStep s n p).segs = s.segs ∧
    (State.putStep s n p).opening = s.opening ∧
    (State.putStep s n p).fbs = s.fbs ∧
    (State.putStep s n p).axes = s.axes ∧
    (State.putStep s n p).line = s.line ∧
    (State.putStep s n p).moves = s.moves ∧
    (State.putStep s n p).arb = s.arb ∧
    (State.putStep s n p).groups = s.groups ∧
    (State.putStep s n p).eng = s.eng ∧
    (State.putStep s n p).saf = s.saf ∧
    (State.putStep s n p).die = s.die ∧
    (State.putStep s n p).fld = s.fld ∧
    (State.putStep s n p).twin = s.twin ∧
    (State.putStep s n p).scs = s.scs ∧
    (State.putStep s n p).time = s.time ∧
    (State.putStep s n p).host = s.host := by
  generalize hT : State.putStep s n p = res
  unfold State.putStep at hT
  try dsimp only at hT
  repeat' split at hT
  all_goals subst hT
  all_goals (try simp)
  all_goals (repeat' split)
  all_goals (try simp)

@[simp] theorem State.putStep_idents (s : State) (n : Nat) (p : StepPort) : (State.putStep s n p).idents = s.idents := State.idents_eq _ _ (by simp)

@[simp] theorem State.driveStep_frame (s : State) (n : Nat) (f : StepPort → StepPort) :
    (State.driveStep s n f).pending = s.pending ∧
    (State.driveStep s n f).out = s.out ∧
    (State.driveStep s n f).freeCtr = s.freeCtr ∧
    (State.driveStep s n f).coreTicks = s.coreTicks ∧
    (State.driveStep s n f).params = s.params ∧
    (State.driveStep s n f).cyc = s.cyc ∧
    (State.driveStep s n f).boot = s.boot ∧
    (State.driveStep s n f).ports = s.ports ∧
    (State.driveStep s n f).segs = s.segs ∧
    (State.driveStep s n f).opening = s.opening ∧
    (State.driveStep s n f).fbs = s.fbs ∧
    (State.driveStep s n f).axes = s.axes ∧
    (State.driveStep s n f).line = s.line ∧
    (State.driveStep s n f).moves = s.moves ∧
    (State.driveStep s n f).arb = s.arb ∧
    (State.driveStep s n f).groups = s.groups ∧
    (State.driveStep s n f).eng = s.eng ∧
    (State.driveStep s n f).saf = s.saf ∧
    (State.driveStep s n f).die = s.die ∧
    (State.driveStep s n f).fld = s.fld ∧
    (State.driveStep s n f).twin = s.twin ∧
    (State.driveStep s n f).scs = s.scs ∧
    (State.driveStep s n f).time = s.time ∧
    (State.driveStep s n f).host = s.host := by
  generalize hT : State.driveStep s n f = res
  unfold State.driveStep at hT
  try dsimp only at hT
  repeat' split at hT
  all_goals subst hT
  all_goals (try simp)
  all_goals (repeat' split)
  all_goals (try simp)

@[simp] theorem State.driveStep_idents (s : State) (n : Nat) (f : StepPort → StepPort) : (State.driveStep s n f).idents = s.idents := State.idents_eq _ _ (by simp)

@[simp] theorem State.idleTick_frame (s : State) :
    (State.idleTick s).pending = s.pending ∧
    (State.idleTick s).out = s.out ∧
    (State.idleTick s).freeCtr = s.freeCtr ∧
    (State.idleTick s).params = s.params ∧
    (State.idleTick s).cyc = s.cyc ∧
    (State.idleTick s).boot = s.boot ∧
    (State.idleTick s).ports = s.ports ∧
    (State.idleTick s).segs = s.segs ∧
    (State.idleTick s).opening = s.opening ∧
    (State.idleTick s).fbs = s.fbs ∧
    (State.idleTick s).axes = s.axes ∧
    (State.idleTick s).steps = s.steps ∧
    (State.idleTick s).line = s.line ∧
    (State.idleTick s).moves = s.moves ∧
    (State.idleTick s).arb = s.arb ∧
    (State.idleTick s).groups = s.groups ∧
    (State.idleTick s).eng = s.eng ∧
    (State.idleTick s).saf = s.saf ∧
    (State.idleTick s).die = s.die ∧
    (State.idleTick s).fld = s.fld ∧
    (State.idleTick s).twin = s.twin ∧
    (State.idleTick s).scs = s.scs ∧
    (State.idleTick s).host = s.host := by
  generalize hT : State.idleTick s = res
  unfold State.idleTick at hT
  try dsimp only at hT
  repeat' split at hT
  all_goals subst hT
  all_goals (try simp)
  all_goals (repeat' split)
  all_goals (try simp)

@[simp] theorem State.idleTick_idents (s : State) : (State.idleTick s).idents = s.idents := State.idents_eq _ _ (by simp)

@[simp] theorem State.sendMsi_frame (s : State) (v : Nat) :
    (State.sendMsi s v).pending = s.pending ∧
    (State.sendMsi s v).freeCtr = s.freeCtr ∧
    (State.sendMsi s v).coreTicks = s.coreTicks ∧
    (State.sendMsi s v).params = s.params ∧
    (State.sendMsi s v).cyc = s.cyc ∧
    (State.sendMsi s v).boot = s.boot ∧
    (State.sendMsi s v).ports = s.ports ∧
    (State.sendMsi s v).segs = s.segs ∧
    (State.sendMsi s v).opening = s.opening ∧
    (State.sendMsi s v).fbs = s.fbs ∧
    (State.sendMsi s v).axes = s.axes ∧
    (State.sendMsi s v).steps = s.steps ∧
    (State.sendMsi s v).line = s.line ∧
    (State.sendMsi s v).moves = s.moves ∧
    (State.sendMsi s v).arb = s.arb ∧
    (State.sendMsi s v).groups = s.groups ∧
    (State.sendMsi s v).eng = s.eng ∧
    (State.sendMsi s v).saf = s.saf ∧
    (State.sendMsi s v).die = s.die ∧
    (State.sendMsi s v).fld = s.fld ∧
    (State.sendMsi s v).twin = s.twin ∧
    (State.sendMsi s v).scs = s.scs ∧
    (State.sendMsi s v).time = s.time ∧
    (State.sendMsi s v).host.keys = s.host.keys ∧
    (State.sendMsi s v).host.parQueue = s.host.parQueue ∧
    (State.sendMsi s v).host.sessions = s.host.sessions := by
  generalize hT : State.sendMsi s v = res
  unfold State.sendMsi at hT
  try dsimp only at hT
  repeat' split at hT
  all_goals subst hT
  all_goals (try simp)
  all_goals (repeat' split)
  all_goals (try simp)

@[simp] theorem State.sendMsi_idents (s : State) (v : Nat) : (State.sendMsi s v).idents = s.idents := by
  generalize hT : State.sendMsi s v = res
  unfold State.sendMsi at hT
  try dsimp only at hT
  repeat' split at hT
  all_goals subst hT
  all_goals (try simp)
  all_goals (repeat' split)
  all_goals (try simp)
  all_goals (try rfl)
  all_goals (try exact State.idents_eq _ _ (by simp))
  all_goals (try simp [Session.ident])
  all_goals (try simp [Session.ident, State.session])
  all_goals (try simp [State.idents, State.session, Session.ident])

@[simp] theorem State.setInt_frame (s : State) (i : Nat) :
    (State.setInt s i).pending = s.pending ∧
    (State.setInt s i).freeCtr = s.freeCtr ∧
    (State.setInt s i).coreTicks = s.coreTicks ∧
    (State.setInt s i).params = s.params ∧
    (State.setInt s i).cyc = s.cyc ∧
    (State.setInt s i).boot = s.boot ∧
    (State.setInt s i).ports = s.ports ∧
    (State.setInt s i).segs = s.segs ∧
    (State.setInt s i).opening = s.opening ∧
    (State.setInt s i).fbs = s.fbs ∧
    (State.setInt s i).axes = s.axes ∧
    (State.setInt s i).steps = s.steps ∧
    (State.setInt s i).line = s.line ∧
    (State.setInt s i).moves = s.moves ∧
    (State.setInt s i).arb = s.arb ∧
    (State.setInt s i).groups = s.groups ∧
    (State.setInt s i).eng = s.eng ∧
    (State.setInt s i).saf = s.saf ∧
    (State.setInt s i).die = s.die ∧
    (State.setInt s i).fld = s.fld ∧
    (State.setInt s i).twin = s.twin ∧
    (State.setInt s i).scs = s.scs ∧
    (State.setInt s i).time = s.time ∧
    (State.setInt s i).host.keys = s.host.keys ∧
    (State.setInt s i).host.parQueue = s.host.parQueue ∧
    (State.setInt s i).host.sessions = s.host.sessions := by
  generalize hT : State.setInt s i = res
  unfold State.setInt at hT
  try dsimp only at hT
  repeat' split at hT
  all_goals subst hT
  all_goals (try simp)
  all_goals (repeat' split)
  all_goals (try simp)

@[simp] theorem State.setInt_idents (s : State) (i : Nat) : (State.setInt s i).idents = s.idents := by
  generalize hT : State.setInt s i = res
  unfold State.setInt at hT
  try dsimp only at hT
  repeat' split at hT
  all_goals subst hT
  all_goals (try simp)
  all_goals (repeat' split)
  all_goals (try simp)
  all_goals (try rfl)
  all_goals (try exact State.idents_eq _ _ (by simp))
  all_goals (try simp [Session.ident])
  all_goals (try simp [Session.ident, State.session])
  all_goals (try simp [State.idents, State.session, Session.ident])

@[simp] theorem State.ringReply_frame (s : State) (bytes : List Byte) :
    (State.ringReply s bytes).pending = s.pending ∧
    (State.ringReply s bytes).freeCtr = s.freeCtr ∧
    (State.ringReply s bytes).coreTicks = s.coreTicks ∧
    (State.ringReply s bytes).params = s.params ∧
    (State.ringReply s bytes).cyc = s.cyc ∧
    (State.ringReply s bytes).boot = s.boot ∧
    (State.ringReply s bytes).ports = s.ports ∧
    (State.ringReply s bytes).segs = s.segs ∧
    (State.ringReply s bytes).opening = s.opening ∧
    (State.ringReply s bytes).fbs = s.fbs ∧
    (State.ringReply s bytes).axes = s.axes ∧
    (State.ringReply s bytes).steps = s.steps ∧
    (State.ringReply s bytes).line = s.line ∧
    (State.ringReply s bytes).moves = s.moves ∧
    (State.ringReply s bytes).arb = s.arb ∧
    (State.ringReply s bytes).groups = s.groups ∧
    (State.ringReply s bytes).eng = s.eng ∧
    (State.ringReply s bytes).saf = s.saf ∧
    (State.ringReply s bytes).die = s.die ∧
    (State.ringReply s bytes).fld = s.fld ∧
    (State.ringReply s bytes).twin = s.twin ∧
    (State.ringReply s bytes).scs = s.scs ∧
    (State.ringReply s bytes).time = s.time ∧
    (State.ringReply s bytes).host.keys = s.host.keys ∧
    (State.ringReply s bytes).host.parQueue = s.host.parQueue ∧
    (State.ringReply s bytes).host.sessions = s.host.sessions := by
  generalize hT : State.ringReply s bytes = res
  unfold State.ringReply at hT
  try dsimp only at hT
  repeat' split at hT
  all_goals subst hT
  all_goals (try simp)
  all_goals (repeat' split)
  all_goals (try simp)

@[simp] theorem State.ringReply_idents (s : State) (bytes : List Byte) : (State.ringReply s bytes).idents = s.idents := by
  generalize hT : State.ringReply s bytes = res
  unfold State.ringReply at hT
  try dsimp only at hT
  repeat' split at hT
  all_goals subst hT
  all_goals (try simp)
  all_goals (repeat' split)
  all_goals (try simp)
  all_goals (try rfl)
  all_goals (try exact State.idents_eq _ _ (by simp))
  all_goals (try simp [Session.ident])
  all_goals (try simp [Session.ident, State.session])
  all_goals (try simp [State.idents, State.session, Session.ident])

@[simp] theorem State.sendTo_frame (s : State) (dest : HostSource) (bytes : List Byte) :
    (State.sendTo s dest bytes).pending = s.pending ∧
    (State.sendTo s dest bytes).freeCtr = s.freeCtr ∧
    (State.sendTo s dest bytes).coreTicks = s.coreTicks ∧
    (State.sendTo s dest bytes).params = s.params ∧
    (State.sendTo s dest bytes).cyc = s.cyc ∧
    (State.sendTo s dest bytes).boot = s.boot ∧
    (State.sendTo s dest bytes).ports = s.ports ∧
    (State.sendTo s dest bytes).segs = s.segs ∧
    (State.sendTo s dest bytes).opening = s.opening ∧
    (State.sendTo s dest bytes).fbs = s.fbs ∧
    (State.sendTo s dest bytes).axes = s.axes ∧
    (State.sendTo s dest bytes).steps = s.steps ∧
    (State.sendTo s dest bytes).line = s.line ∧
    (State.sendTo s dest bytes).moves = s.moves ∧
    (State.sendTo s dest bytes).arb = s.arb ∧
    (State.sendTo s dest bytes).groups = s.groups ∧
    (State.sendTo s dest bytes).eng = s.eng ∧
    (State.sendTo s dest bytes).saf = s.saf ∧
    (State.sendTo s dest bytes).die = s.die ∧
    (State.sendTo s dest bytes).fld = s.fld ∧
    (State.sendTo s dest bytes).twin = s.twin ∧
    (State.sendTo s dest bytes).scs = s.scs ∧
    (State.sendTo s dest bytes).time = s.time ∧
    (State.sendTo s dest bytes).host.keys = s.host.keys ∧
    (State.sendTo s dest bytes).host.parQueue = s.host.parQueue ∧
    (State.sendTo s dest bytes).host.sessions = s.host.sessions := by
  generalize hT : State.sendTo s dest bytes = res
  unfold State.sendTo at hT
  try dsimp only at hT
  repeat' split at hT
  all_goals subst hT
  all_goals (try simp)
  all_goals (repeat' split)
  all_goals (try simp)

@[simp] theorem State.sendTo_idents (s : State) (dest : HostSource) (bytes : List Byte) : (State.sendTo s dest bytes).idents = s.idents := by
  generalize hT : State.sendTo s dest bytes = res
  unfold State.sendTo at hT
  try dsimp only at hT
  repeat' split at hT
  all_goals subst hT
  all_goals (try simp)
  all_goals (repeat' split)
  all_goals (try simp)
  all_goals (try rfl)
  all_goals (try exact State.idents_eq _ _ (by simp))
  all_goals (try simp [Session.ident])
  all_goals (try simp [Session.ident, State.session])
  all_goals (try simp [State.idents, State.session, Session.ident])

@[simp] theorem State.replyRaw_frame (s : State) (c : CmdCtx) (opcode flags status : Nat) (data : List Byte) :
    (State.replyRaw s c opcode flags status data).pending = s.pending ∧
    (State.replyRaw s c opcode flags status data).freeCtr = s.freeCtr ∧
    (State.replyRaw s c opcode flags status data).coreTicks = s.coreTicks ∧
    (State.replyRaw s c opcode flags status data).params = s.params ∧
    (State.replyRaw s c opcode flags status data).cyc = s.cyc ∧
    (State.replyRaw s c opcode flags status data).boot = s.boot ∧
    (State.replyRaw s c opcode flags status data).ports = s.ports ∧
    (State.replyRaw s c opcode flags status data).segs = s.segs ∧
    (State.replyRaw s c opcode flags status data).opening = s.opening ∧
    (State.replyRaw s c opcode flags status data).fbs = s.fbs ∧
    (State.replyRaw s c opcode flags status data).axes = s.axes ∧
    (State.replyRaw s c opcode flags status data).steps = s.steps ∧
    (State.replyRaw s c opcode flags status data).line = s.line ∧
    (State.replyRaw s c opcode flags status data).moves = s.moves ∧
    (State.replyRaw s c opcode flags status data).arb = s.arb ∧
    (State.replyRaw s c opcode flags status data).groups = s.groups ∧
    (State.replyRaw s c opcode flags status data).eng = s.eng ∧
    (State.replyRaw s c opcode flags status data).saf = s.saf ∧
    (State.replyRaw s c opcode flags status data).die = s.die ∧
    (State.replyRaw s c opcode flags status data).fld = s.fld ∧
    (State.replyRaw s c opcode flags status data).twin = s.twin ∧
    (State.replyRaw s c opcode flags status data).scs = s.scs ∧
    (State.replyRaw s c opcode flags status data).time = s.time ∧
    (State.replyRaw s c opcode flags status data).host.keys = s.host.keys ∧
    (State.replyRaw s c opcode flags status data).host.parQueue = s.host.parQueue := by
  generalize hT : State.replyRaw s c opcode flags status data = res
  unfold State.replyRaw at hT
  try dsimp only at hT
  repeat' split at hT
  all_goals subst hT
  all_goals (try simp)
  all_goals (repeat' split)
  all_goals (try simp)

@[simp] theorem State.replyRaw_idents (s : State) (c : CmdCtx) (opcode flags status : Nat) (data : List Byte) : (State.replyRaw s c opcode flags status data).idents = s.idents := by
  generalize hT : State.replyRaw s c opcode flags status data = res
  unfold State.replyRaw at hT
  try dsimp only at hT
  repeat' split at hT
  all_goals subst hT
  all_goals (try simp)
  all_goals (repeat' split)
  all_goals (try simp)
  all_goals (try rfl)
  all_goals (try exact State.idents_eq _ _ (by simp))
  all_goals (try simp [Session.ident])
  all_goals (try simp [Session.ident, State.session])
  all_goals (try simp [State.idents, State.session, Session.ident])

@[simp] theorem State.reply_frame (s : State) (c : CmdCtx) (opcode status : Nat) (data : List Byte) :
    (State.reply s c opcode status data).pending = s.pending ∧
    (State.reply s c opcode status data).freeCtr = s.freeCtr ∧
    (State.reply s c opcode status data).coreTicks = s.coreTicks ∧
    (State.reply s c opcode status data).params = s.params ∧
    (State.reply s c opcode status data).cyc = s.cyc ∧
    (State.reply s c opcode status data).boot = s.boot ∧
    (State.reply s c opcode status data).ports = s.ports ∧
    (State.reply s c opcode status data).segs = s.segs ∧
    (State.reply s c opcode status data).opening = s.opening ∧
    (State.reply s c opcode status data).fbs = s.fbs ∧
    (State.reply s c opcode status data).axes = s.axes ∧
    (State.reply s c opcode status data).steps = s.steps ∧
    (State.reply s c opcode status data).line = s.line ∧
    (State.reply s c opcode status data).moves = s.moves ∧
    (State.reply s c opcode status data).arb = s.arb ∧
    (State.reply s c opcode status data).groups = s.groups ∧
    (State.reply s c opcode status data).eng = s.eng ∧
    (State.reply s c opcode status data).saf = s.saf ∧
    (State.reply s c opcode status data).die = s.die ∧
    (State.reply s c opcode status data).fld = s.fld ∧
    (State.reply s c opcode status data).twin = s.twin ∧
    (State.reply s c opcode status data).scs = s.scs ∧
    (State.reply s c opcode status data).time = s.time ∧
    (State.reply s c opcode status data).host.keys = s.host.keys ∧
    (State.reply s c opcode status data).host.parQueue = s.host.parQueue := by
  generalize hT : State.reply s c opcode status data = res
  unfold State.reply at hT
  try dsimp only at hT
  repeat' split at hT
  all_goals subst hT
  all_goals (try simp)
  all_goals (repeat' split)
  all_goals (try simp)

@[simp] theorem State.reply_idents (s : State) (c : CmdCtx) (opcode status : Nat) (data : List Byte) : (State.reply s c opcode status data).idents = s.idents := by
  generalize hT : State.reply s c opcode status data = res
  unfold State.reply at hT
  try dsimp only at hT
  repeat' split at hT
  all_goals subst hT
  all_goals (try simp)
  all_goals (repeat' split)
  all_goals (try simp)
  all_goals (try rfl)
  all_goals (try exact State.idents_eq _ _ (by simp))
  all_goals (try simp [Session.ident])
  all_goals (try simp [Session.ident, State.session])
  all_goals (try simp [State.idents, State.session, Session.ident])

@[simp] theorem State.push_frame (s : State) (i : Nat) (e : Event) :
    (State.push s i e).pending = s.pending ∧
    (State.push s i e).freeCtr = s.freeCtr ∧
    (State.push s i e).coreTicks = s.coreTicks ∧
    (State.push s i e).params = s.params ∧
    (State.push s i e).cyc = s.cyc ∧
    (State.push s i e).boot = s.boot ∧
    (State.push s i e).ports = s.ports ∧
    (State.push s i e).segs = s.segs ∧
    (State.push s i e).opening = s.opening ∧
    (State.push s i e).fbs = s.fbs ∧
    (State.push s i e).axes = s.axes ∧
    (State.push s i e).steps = s.steps ∧
    (State.push s i e).line = s.line ∧
    (State.push s i e).moves = s.moves ∧
    (State.push s i e).arb = s.arb ∧
    (State.push s i e).groups = s.groups ∧
    (State.push s i e).eng = s.eng ∧
    (State.push s i e).saf = s.saf ∧
    (State.push s i e).die = s.die ∧
    (State.push s i e).fld = s.fld ∧
    (State.push s i e).twin = s.twin ∧
    (State.push s i e).scs = s.scs ∧
    (State.push s i e).time = s.time ∧
    (State.push s i e).host.keys = s.host.keys ∧
    (State.push s i e).host.parQueue = s.host.parQueue := by
  generalize hT : State.push s i e = res
  unfold State.push at hT
  try dsimp only at hT
  repeat' split at hT
  all_goals subst hT
  all_goals (try simp)
  all_goals (repeat' split)
  all_goals (try simp)

@[simp] theorem State.push_idents (s : State) (i : Nat) (e : Event) : (State.push s i e).idents = s.idents := by
  generalize hT : State.push s i e = res
  unfold State.push at hT
  try dsimp only at hT
  repeat' split at hT
  all_goals subst hT
  all_goals (try simp)
  all_goals (repeat' split)
  all_goals (try simp)
  all_goals (try rfl)
  all_goals (try exact State.idents_eq _ _ (by simp))
  all_goals (try simp [Session.ident])
  all_goals (try simp [Session.ident, State.session])
  all_goals (try simp [State.idents, State.session, Session.ident])

@[simp] theorem State.pushAll_frame (s : State) (e : Event) :
    (State.pushAll s e).pending = s.pending ∧
    (State.pushAll s e).freeCtr = s.freeCtr ∧
    (State.pushAll s e).coreTicks = s.coreTicks ∧
    (State.pushAll s e).params = s.params ∧
    (State.pushAll s e).cyc = s.cyc ∧
    (State.pushAll s e).boot = s.boot ∧
    (State.pushAll s e).ports = s.ports ∧
    (State.pushAll s e).segs = s.segs ∧
    (State.pushAll s e).opening = s.opening ∧
    (State.pushAll s e).fbs = s.fbs ∧
    (State.pushAll s e).axes = s.axes ∧
    (State.pushAll s e).steps = s.steps ∧
    (State.pushAll s e).line = s.line ∧
    (State.pushAll s e).moves = s.moves ∧
    (State.pushAll s e).arb = s.arb ∧
    (State.pushAll s e).groups = s.groups ∧
    (State.pushAll s e).eng = s.eng ∧
    (State.pushAll s e).saf = s.saf ∧
    (State.pushAll s e).die = s.die ∧
    (State.pushAll s e).fld = s.fld ∧
    (State.pushAll s e).twin = s.twin ∧
    (State.pushAll s e).scs = s.scs ∧
    (State.pushAll s e).time = s.time ∧
    (State.pushAll s e).host.keys = s.host.keys ∧
    (State.pushAll s e).host.parQueue = s.host.parQueue := by
  generalize hT : State.pushAll s e = res
  unfold State.pushAll at hT
  try dsimp only at hT
  repeat' split at hT
  all_goals subst hT
  all_goals (try simp)
  all_goals (repeat' split)
  all_goals (try simp)

@[simp] theorem State.pushAll_idents (s : State) (e : Event) : (State.pushAll s e).idents = s.idents := by
  generalize hT : State.pushAll s e = res
  unfold State.pushAll at hT
  try dsimp only at hT
  repeat' split at hT
  all_goals subst hT
  all_goals (try simp)
  all_goals (repeat' split)
  all_goals (try simp)
  all_goals (try rfl)
  all_goals (try exact State.idents_eq _ _ (by simp))
  all_goals (try simp [Session.ident])
  all_goals (try simp [Session.ident, State.session])
  all_goals (try simp [State.idents, State.session, Session.ident])

@[simp] theorem State.ringEvent_frame (s : State) (e : Event) :
    (State.ringEvent s e).pending = s.pending ∧
    (State.ringEvent s e).freeCtr = s.freeCtr ∧
    (State.ringEvent s e).coreTicks = s.coreTicks ∧
    (State.ringEvent s e).params = s.params ∧
    (State.ringEvent s e).cyc = s.cyc ∧
    (State.ringEvent s e).boot = s.boot ∧
    (State.ringEvent s e).ports = s.ports ∧
    (State.ringEvent s e).segs = s.segs ∧
    (State.ringEvent s e).opening = s.opening ∧
    (State.ringEvent s e).fbs = s.fbs ∧
    (State.ringEvent s e).axes = s.axes ∧
    (State.ringEvent s e).steps = s.steps ∧
    (State.ringEvent s e).line = s.line ∧
    (State.ringEvent s e).moves = s.moves ∧
    (State.ringEvent s e).arb = s.arb ∧
    (State.ringEvent s e).groups = s.groups ∧
    (State.ringEvent s e).eng = s.eng ∧
    (State.ringEvent s e).saf = s.saf ∧
    (State.ringEvent s e).die = s.die ∧
    (State.ringEvent s e).fld = s.fld ∧
    (State.ringEvent s e).twin = s.twin ∧
    (State.ringEvent s e).scs = s.scs ∧
    (State.ringEvent s e).time = s.time ∧
    (State.ringEvent s e).host.keys = s.host.keys ∧
    (State.ringEvent s e).host.parQueue = s.host.parQueue ∧
    (State.ringEvent s e).host.sessions = s.host.sessions := by
  generalize hT : State.ringEvent s e = res
  unfold State.ringEvent at hT
  try dsimp only at hT
  repeat' split at hT
  all_goals subst hT
  all_goals (try simp)
  all_goals (repeat' split)
  all_goals (try simp)

@[simp] theorem State.ringEvent_idents (s : State) (e : Event) : (State.ringEvent s e).idents = s.idents := by
  generalize hT : State.ringEvent s e = res
  unfold State.ringEvent at hT
  try dsimp only at hT
  repeat' split at hT
  all_goals subst hT
  all_goals (try simp)
  all_goals (repeat' split)
  all_goals (try simp)
  all_goals (try rfl)
  all_goals (try exact State.idents_eq _ _ (by simp))
  all_goals (try simp [Session.ident])
  all_goals (try simp [Session.ident, State.session])
  all_goals (try simp [State.idents, State.session, Session.ident])

@[simp] theorem State.number_frame (s : State) (d : Event) :
    (State.number s d).pending = s.pending ∧
    (State.number s d).freeCtr = s.freeCtr ∧
    (State.number s d).coreTicks = s.coreTicks ∧
    (State.number s d).params = s.params ∧
    (State.number s d).cyc = s.cyc ∧
    (State.number s d).boot = s.boot ∧
    (State.number s d).ports = s.ports ∧
    (State.number s d).segs = s.segs ∧
    (State.number s d).opening = s.opening ∧
    (State.number s d).fbs = s.fbs ∧
    (State.number s d).axes = s.axes ∧
    (State.number s d).steps = s.steps ∧
    (State.number s d).line = s.line ∧
    (State.number s d).moves = s.moves ∧
    (State.number s d).arb = s.arb ∧
    (State.number s d).groups = s.groups ∧
    (State.number s d).eng = s.eng ∧
    (State.number s d).saf = s.saf ∧
    (State.number s d).die = s.die ∧
    (State.number s d).fld = s.fld ∧
    (State.number s d).twin = s.twin ∧
    (State.number s d).scs = s.scs ∧
    (State.number s d).time = s.time ∧
    (State.number s d).host.keys = s.host.keys ∧
    (State.number s d).host.parQueue = s.host.parQueue := by
  generalize hT : State.number s d = res
  unfold State.number at hT
  try dsimp only at hT
  repeat' split at hT
  all_goals subst hT
  all_goals (try simp)
  all_goals (repeat' split)
  all_goals (try simp)

@[simp] theorem State.number_idents (s : State) (d : Event) : (State.number s d).idents = s.idents := by
  generalize hT : State.number s d = res
  unfold State.number at hT
  try dsimp only at hT
  repeat' split at hT
  all_goals subst hT
  all_goals (try simp)
  all_goals (repeat' split)
  all_goals (try simp)
  all_goals (try rfl)
  all_goals (try exact State.idents_eq _ _ (by simp))
  all_goals (try simp [Session.ident])
  all_goals (try simp [Session.ident, State.session])
  all_goals (try simp [State.idents, State.session, Session.ident])

@[simp] theorem State.gather_frame (s : State) :
    (State.gather s).pending = s.pending ∧
    (State.gather s).out = s.out ∧
    (State.gather s).freeCtr = s.freeCtr ∧
    (State.gather s).coreTicks = s.coreTicks ∧
    (State.gather s).params = s.params ∧
    (State.gather s).cyc = s.cyc ∧
    (State.gather s).boot = s.boot ∧
    (State.gather s).ports = s.ports ∧
    (State.gather s).segs = s.segs ∧
    (State.gather s).opening = s.opening ∧
    (State.gather s).fbs = s.fbs ∧
    (State.gather s).axes = s.axes ∧
    (State.gather s).steps = s.steps ∧
    (State.gather s).line = s.line ∧
    (State.gather s).moves = s.moves ∧
    (State.gather s).arb = s.arb ∧
    (State.gather s).groups = s.groups ∧
    (State.gather s).eng = s.eng ∧
    (State.gather s).saf = s.saf ∧
    (State.gather s).die = s.die ∧
    (State.gather s).fld = s.fld ∧
    (State.gather s).twin = s.twin ∧
    (State.gather s).scs = s.scs ∧
    (State.gather s).time = s.time ∧
    (State.gather s).host.keys = s.host.keys ∧
    (State.gather s).host.parQueue = s.host.parQueue ∧
    (State.gather s).host.sessions = s.host.sessions := by
  generalize hT : State.gather s = res
  unfold State.gather at hT
  try dsimp only at hT
  repeat' split at hT
  all_goals subst hT
  all_goals (try simp)
  all_goals (repeat' split)
  all_goals (try simp)

@[simp] theorem State.gather_idents (s : State) : (State.gather s).idents = s.idents := by
  generalize hT : State.gather s = res
  unfold State.gather at hT
  try dsimp only at hT
  repeat' split at hT
  all_goals subst hT
  all_goals (try simp)
  all_goals (repeat' split)
  all_goals (try simp)
  all_goals (try rfl)
  all_goals (try exact State.idents_eq _ _ (by simp))
  all_goals (try simp [Session.ident])
  all_goals (try simp [Session.ident, State.session])
  all_goals (try simp [State.idents, State.session, Session.ident])

@[simp] theorem State.numberAll_frame (s : State) :
    (State.numberAll s).pending = s.pending ∧
    (State.numberAll s).freeCtr = s.freeCtr ∧
    (State.numberAll s).coreTicks = s.coreTicks ∧
    (State.numberAll s).params = s.params ∧
    (State.numberAll s).cyc = s.cyc ∧
    (State.numberAll s).boot = s.boot ∧
    (State.numberAll s).ports = s.ports ∧
    (State.numberAll s).segs = s.segs ∧
    (State.numberAll s).opening = s.opening ∧
    (State.numberAll s).fbs = s.fbs ∧
    (State.numberAll s).axes = s.axes ∧
    (State.numberAll s).steps = s.steps ∧
    (State.numberAll s).line = s.line ∧
    (State.numberAll s).moves = s.moves ∧
    (State.numberAll s).arb = s.arb ∧
    (State.numberAll s).groups = s.groups ∧
    (State.numberAll s).eng = s.eng ∧
    (State.numberAll s).saf = s.saf ∧
    (State.numberAll s).die = s.die ∧
    (State.numberAll s).fld = s.fld ∧
    (State.numberAll s).twin = s.twin ∧
    (State.numberAll s).scs = s.scs ∧
    (State.numberAll s).time = s.time ∧
    (State.numberAll s).host.keys = s.host.keys ∧
    (State.numberAll s).host.parQueue = s.host.parQueue := by
  generalize hT : State.numberAll s = res
  unfold State.numberAll at hT
  try dsimp only at hT
  repeat' split at hT
  all_goals subst hT
  all_goals (try simp)
  all_goals (repeat' split)
  all_goals (try simp)

@[simp] theorem State.numberAll_idents (s : State) : (State.numberAll s).idents = s.idents := by
  generalize hT : State.numberAll s = res
  unfold State.numberAll at hT
  try dsimp only at hT
  repeat' split at hT
  all_goals subst hT
  all_goals (try simp)
  all_goals (repeat' split)
  all_goals (try simp)
  all_goals (try rfl)
  all_goals (try exact State.idents_eq _ _ (by simp))
  all_goals (try simp [Session.ident])
  all_goals (try simp [Session.ident, State.session])
  all_goals (try simp [State.idents, State.session, Session.ident])

@[simp] theorem State.record_frame (s : State) (code sev inst status : Nat) (cmd : Option (CmdCtx × Nat)) (data : List Byte) :
    (State.record s code sev inst status cmd data).pending = s.pending ∧
    (State.record s code sev inst status cmd data).freeCtr = s.freeCtr ∧
    (State.record s code sev inst status cmd data).coreTicks = s.coreTicks ∧
    (State.record s code sev inst status cmd data).params = s.params ∧
    (State.record s code sev inst status cmd data).cyc = s.cyc ∧
    (State.record s code sev inst status cmd data).boot = s.boot ∧
    (State.record s code sev inst status cmd data).ports = s.ports ∧
    (State.record s code sev inst status cmd data).segs = s.segs ∧
    (State.record s code sev inst status cmd data).opening = s.opening ∧
    (State.record s code sev inst status cmd data).fbs = s.fbs ∧
    (State.record s code sev inst status cmd data).axes = s.axes ∧
    (State.record s code sev inst status cmd data).steps = s.steps ∧
    (State.record s code sev inst status cmd data).line = s.line ∧
    (State.record s code sev inst status cmd data).moves = s.moves ∧
    (State.record s code sev inst status cmd data).arb = s.arb ∧
    (State.record s code sev inst status cmd data).groups = s.groups ∧
    (State.record s code sev inst status cmd data).eng = s.eng ∧
    (State.record s code sev inst status cmd data).saf = s.saf ∧
    (State.record s code sev inst status cmd data).die = s.die ∧
    (State.record s code sev inst status cmd data).fld = s.fld ∧
    (State.record s code sev inst status cmd data).twin = s.twin ∧
    (State.record s code sev inst status cmd data).scs = s.scs ∧
    (State.record s code sev inst status cmd data).time = s.time ∧
    (State.record s code sev inst status cmd data).host.keys = s.host.keys ∧
    (State.record s code sev inst status cmd data).host.parQueue = s.host.parQueue := by
  generalize hT : State.record s code sev inst status cmd data = res
  unfold State.record at hT
  try dsimp only at hT
  repeat' split at hT
  all_goals subst hT
  all_goals (try simp)
  all_goals (repeat' split)
  all_goals (try simp)

@[simp] theorem State.record_idents (s : State) (code sev inst status : Nat) (cmd : Option (CmdCtx × Nat)) (data : List Byte) : (State.record s code sev inst status cmd data).idents = s.idents := by
  generalize hT : State.record s code sev inst status cmd data = res
  unfold State.record at hT
  try dsimp only at hT
  repeat' split at hT
  all_goals subst hT
  all_goals (try simp)
  all_goals (repeat' split)
  all_goals (try simp)
  all_goals (try rfl)
  all_goals (try exact State.idents_eq _ _ (by simp))
  all_goals (try simp [Session.ident])
  all_goals (try simp [Session.ident, State.session])
  all_goals (try simp [State.idents, State.session, Session.ident])

@[simp] theorem State.raise_frame (s : State) (code sev inst : Nat) (data : List Byte) :
    (State.raise s code sev inst data).pending = s.pending ∧
    (State.raise s code sev inst data).freeCtr = s.freeCtr ∧
    (State.raise s code sev inst data).coreTicks = s.coreTicks ∧
    (State.raise s code sev inst data).params = s.params ∧
    (State.raise s code sev inst data).cyc = s.cyc ∧
    (State.raise s code sev inst data).boot = s.boot ∧
    (State.raise s code sev inst data).ports = s.ports ∧
    (State.raise s code sev inst data).segs = s.segs ∧
    (State.raise s code sev inst data).opening = s.opening ∧
    (State.raise s code sev inst data).fbs = s.fbs ∧
    (State.raise s code sev inst data).axes = s.axes ∧
    (State.raise s code sev inst data).steps = s.steps ∧
    (State.raise s code sev inst data).line = s.line ∧
    (State.raise s code sev inst data).moves = s.moves ∧
    (State.raise s code sev inst data).arb = s.arb ∧
    (State.raise s code sev inst data).groups = s.groups ∧
    (State.raise s code sev inst data).eng = s.eng ∧
    (State.raise s code sev inst data).saf = s.saf ∧
    (State.raise s code sev inst data).die = s.die ∧
    (State.raise s code sev inst data).fld = s.fld ∧
    (State.raise s code sev inst data).twin = s.twin ∧
    (State.raise s code sev inst data).scs = s.scs ∧
    (State.raise s code sev inst data).time = s.time ∧
    (State.raise s code sev inst data).host.keys = s.host.keys ∧
    (State.raise s code sev inst data).host.parQueue = s.host.parQueue := by
  generalize hT : State.raise s code sev inst data = res
  unfold State.raise at hT
  try dsimp only at hT
  repeat' split at hT
  all_goals subst hT
  all_goals (try simp)
  all_goals (repeat' split)
  all_goals (try simp)

@[simp] theorem State.raise_idents (s : State) (code sev inst : Nat) (data : List Byte) : (State.raise s code sev inst data).idents = s.idents := by
  generalize hT : State.raise s code sev inst data = res
  unfold State.raise at hT
  try dsimp only at hT
  repeat' split at hT
  all_goals subst hT
  all_goals (try simp)
  all_goals (repeat' split)
  all_goals (try simp)
  all_goals (try rfl)
  all_goals (try exact State.idents_eq _ _ (by simp))
  all_goals (try simp [Session.ident])
  all_goals (try simp [Session.ident, State.session])
  all_goals (try simp [State.idents, State.session, Session.ident])

@[simp] theorem State.cmdDone_frame (s : State) (c : CmdCtx) (opcode inst status : Nat) (data : List Byte) :
    (State.cmdDone s c opcode inst status data).pending = s.pending ∧
    (State.cmdDone s c opcode inst status data).freeCtr = s.freeCtr ∧
    (State.cmdDone s c opcode inst status data).coreTicks = s.coreTicks ∧
    (State.cmdDone s c opcode inst status data).params = s.params ∧
    (State.cmdDone s c opcode inst status data).cyc = s.cyc ∧
    (State.cmdDone s c opcode inst status data).boot = s.boot ∧
    (State.cmdDone s c opcode inst status data).ports = s.ports ∧
    (State.cmdDone s c opcode inst status data).segs = s.segs ∧
    (State.cmdDone s c opcode inst status data).opening = s.opening ∧
    (State.cmdDone s c opcode inst status data).fbs = s.fbs ∧
    (State.cmdDone s c opcode inst status data).axes = s.axes ∧
    (State.cmdDone s c opcode inst status data).steps = s.steps ∧
    (State.cmdDone s c opcode inst status data).line = s.line ∧
    (State.cmdDone s c opcode inst status data).moves = s.moves ∧
    (State.cmdDone s c opcode inst status data).arb = s.arb ∧
    (State.cmdDone s c opcode inst status data).groups = s.groups ∧
    (State.cmdDone s c opcode inst status data).eng = s.eng ∧
    (State.cmdDone s c opcode inst status data).saf = s.saf ∧
    (State.cmdDone s c opcode inst status data).die = s.die ∧
    (State.cmdDone s c opcode inst status data).fld = s.fld ∧
    (State.cmdDone s c opcode inst status data).twin = s.twin ∧
    (State.cmdDone s c opcode inst status data).scs = s.scs ∧
    (State.cmdDone s c opcode inst status data).time = s.time ∧
    (State.cmdDone s c opcode inst status data).host.keys = s.host.keys ∧
    (State.cmdDone s c opcode inst status data).host.parQueue = s.host.parQueue := by
  generalize hT : State.cmdDone s c opcode inst status data = res
  unfold State.cmdDone at hT
  try dsimp only at hT
  repeat' split at hT
  all_goals subst hT
  all_goals (try simp)
  all_goals (repeat' split)
  all_goals (try simp)

@[simp] theorem State.cmdDone_idents (s : State) (c : CmdCtx) (opcode inst status : Nat) (data : List Byte) : (State.cmdDone s c opcode inst status data).idents = s.idents := by
  generalize hT : State.cmdDone s c opcode inst status data = res
  unfold State.cmdDone at hT
  try dsimp only at hT
  repeat' split at hT
  all_goals subst hT
  all_goals (try simp)
  all_goals (repeat' split)
  all_goals (try simp)
  all_goals (try rfl)
  all_goals (try exact State.idents_eq _ _ (by simp))
  all_goals (try simp [Session.ident])
  all_goals (try simp [Session.ident, State.session])
  all_goals (try simp [State.idents, State.session, Session.ident])

@[simp] theorem State.cmdDone?_frame (s : State) (c : Option CmdCtx) (opcode inst status : Nat) :
    (State.cmdDone? s c opcode inst status).pending = s.pending ∧
    (State.cmdDone? s c opcode inst status).freeCtr = s.freeCtr ∧
    (State.cmdDone? s c opcode inst status).coreTicks = s.coreTicks ∧
    (State.cmdDone? s c opcode inst status).params = s.params ∧
    (State.cmdDone? s c opcode inst status).cyc = s.cyc ∧
    (State.cmdDone? s c opcode inst status).boot = s.boot ∧
    (State.cmdDone? s c opcode inst status).ports = s.ports ∧
    (State.cmdDone? s c opcode inst status).segs = s.segs ∧
    (State.cmdDone? s c opcode inst status).opening = s.opening ∧
    (State.cmdDone? s c opcode inst status).fbs = s.fbs ∧
    (State.cmdDone? s c opcode inst status).axes = s.axes ∧
    (State.cmdDone? s c opcode inst status).steps = s.steps ∧
    (State.cmdDone? s c opcode inst status).line = s.line ∧
    (State.cmdDone? s c opcode inst status).moves = s.moves ∧
    (State.cmdDone? s c opcode inst status).arb = s.arb ∧
    (State.cmdDone? s c opcode inst status).groups = s.groups ∧
    (State.cmdDone? s c opcode inst status).eng = s.eng ∧
    (State.cmdDone? s c opcode inst status).saf = s.saf ∧
    (State.cmdDone? s c opcode inst status).die = s.die ∧
    (State.cmdDone? s c opcode inst status).fld = s.fld ∧
    (State.cmdDone? s c opcode inst status).twin = s.twin ∧
    (State.cmdDone? s c opcode inst status).scs = s.scs ∧
    (State.cmdDone? s c opcode inst status).time = s.time ∧
    (State.cmdDone? s c opcode inst status).host.keys = s.host.keys ∧
    (State.cmdDone? s c opcode inst status).host.parQueue = s.host.parQueue := by
  generalize hT : State.cmdDone? s c opcode inst status = res
  unfold State.cmdDone? at hT
  try dsimp only at hT
  repeat' split at hT
  all_goals subst hT
  all_goals (try simp)
  all_goals (repeat' split)
  all_goals (try simp)

@[simp] theorem State.cmdDone?_idents (s : State) (c : Option CmdCtx) (opcode inst status : Nat) : (State.cmdDone? s c opcode inst status).idents = s.idents := by
  generalize hT : State.cmdDone? s c opcode inst status = res
  unfold State.cmdDone? at hT
  try dsimp only at hT
  repeat' split at hT
  all_goals subst hT
  all_goals (try simp)
  all_goals (repeat' split)
  all_goals (try simp)
  all_goals (try rfl)
  all_goals (try exact State.idents_eq _ _ (by simp))
  all_goals (try simp [Session.ident])
  all_goals (try simp [Session.ident, State.session])
  all_goals (try simp [State.idents, State.session, Session.ident])

end Sys2Proof.Machine
end

