-- ==== Sys2Proof/Laws/FrameSafetyOps.lean ====
section
/-! SUPPORT. What the operations of Machine/SafetyOps.lean leave unchanged: one rule per operation. -/

namespace Sys2Proof.Machine

@[simp] theorem State.groupChanged_frame (s0 s : State) (g : Nat) :
    (State.groupChanged s0 s g).pending = s.pending ∧
    (State.groupChanged s0 s g).freeCtr = s.freeCtr ∧
    (State.groupChanged s0 s g).coreTicks = s.coreTicks ∧
    (State.groupChanged s0 s g).params = s.params ∧
    (State.groupChanged s0 s g).cyc = s.cyc ∧
    (State.groupChanged s0 s g).boot = s.boot ∧
    (State.groupChanged s0 s g).ports = s.ports ∧
    (State.groupChanged s0 s g).segs = s.segs ∧
    (State.groupChanged s0 s g).opening = s.opening ∧
    (State.groupChanged s0 s g).fbs = s.fbs ∧
    (State.groupChanged s0 s g).axes = s.axes ∧
    (State.groupChanged s0 s g).steps = s.steps ∧
    (State.groupChanged s0 s g).line = s.line ∧
    (State.groupChanged s0 s g).moves = s.moves ∧
    (State.groupChanged s0 s g).arb = s.arb ∧
    (State.groupChanged s0 s g).groups = s.groups ∧
    (State.groupChanged s0 s g).eng = s.eng ∧
    (State.groupChanged s0 s g).die = s.die ∧
    (State.groupChanged s0 s g).fld = s.fld ∧
    (State.groupChanged s0 s g).twin = s.twin ∧
    (State.groupChanged s0 s g).scs = s.scs ∧
    (State.groupChanged s0 s g).time = s.time ∧
    (State.groupChanged s0 s g).saf.endgame = s.saf.endgame ∧
    (State.groupChanged s0 s g).saf.silent = s.saf.silent ∧
    (State.groupChanged s0 s g).host.keys = s.host.keys ∧
    (State.groupChanged s0 s g).host.parQueue = s.host.parQueue := by
  generalize hT : State.groupChanged s0 s g = res
  unfold State.groupChanged at hT
  try dsimp only at hT
  repeat' split at hT
  all_goals subst hT
  all_goals (try simp)
  all_goals (repeat' split)
  all_goals (try simp)

@[simp] theorem State.groupChanged_idents (s0 s : State) (g : Nat) : (State.groupChanged s0 s g).idents = s.idents := by
  generalize hT : State.groupChanged s0 s g = res
  unfold State.groupChanged at hT
  try dsimp only at hT
  repeat' split at hT
  all_goals subst hT
  all_goals (try simp)
  all_goals (repeat' split)
  all_goals (try simp)
  all_goals (try rfl)
  all_goals (try exact State.idents_eq _ _ (by simp))
  all_goals (try simp [Session.ident])
  all_goals (try simp [Session.ident, State.session])
  all_goals (try simp [State.idents, State.session, Session.ident])

@[simp] theorem State.demand_frame (s : State) (ch : Chan) (g : Nat) (sto : Bool) (cause : Nat) :
    (State.demand s ch g sto cause).pending = s.pending ∧
    (State.demand s ch g sto cause).freeCtr = s.freeCtr ∧
    (State.demand s ch g sto cause).coreTicks = s.coreTicks ∧
    (State.demand s ch g sto cause).params = s.params ∧
    (State.demand s ch g sto cause).cyc = s.cyc ∧
    (State.demand s ch g sto cause).boot = s.boot ∧
    (State.demand s ch g sto cause).ports = s.ports ∧
    (State.demand s ch g sto cause).segs = s.segs ∧
    (State.demand s ch g sto cause).opening = s.opening ∧
    (State.demand s ch g sto cause).fbs = s.fbs ∧
    (State.demand s ch g sto cause).axes = s.axes ∧
    (State.demand s ch g sto cause).steps = s.steps ∧
    (State.demand s ch g sto cause).line = s.line ∧
    (State.demand s ch g sto cause).moves = s.moves ∧
    (State.demand s ch g sto cause).arb = s.arb ∧
    (State.demand s ch g sto cause).groups = s.groups ∧
    (State.demand s ch g sto cause).eng = s.eng ∧
    (State.demand s ch g sto cause).die = s.die ∧
    (State.demand s ch g sto cause).fld = s.fld ∧
    (State.demand s ch g sto cause).twin = s.twin ∧
    (State.demand s ch g sto cause).scs = s.scs ∧
    (State.demand s ch g sto cause).time = s.time ∧
    (State.demand s ch g sto cause).saf.endgame = s.saf.endgame ∧
    (State.demand s ch g sto cause).saf.silent = s.saf.silent ∧
    (State.demand s ch g sto cause).host.keys = s.host.keys ∧
    (State.demand s ch g sto cause).host.parQueue = s.host.parQueue := by
  generalize hT : State.demand s ch g sto cause = res
  unfold State.demand at hT
  try dsimp only at hT
  repeat' split at hT
  all_goals subst hT
  all_goals (try simp)
  all_goals (repeat' split)
  all_goals (try simp)

@[simp] theorem State.demand_idents (s : State) (ch : Chan) (g : Nat) (sto : Bool) (cause : Nat) : (State.demand s ch g sto cause).idents = s.idents := by
  generalize hT : State.demand s ch g sto cause = res
  unfold State.demand at hT
  try dsimp only at hT
  repeat' split at hT
  all_goals subst hT
  all_goals (try simp)
  all_goals (repeat' split)
  all_goals (try simp)
  all_goals (try rfl)
  all_goals (try exact State.idents_eq _ _ (by simp))
  all_goals (try simp [Session.ident])
  all_goals (try simp [Session.ident, State.session])
  all_goals (try simp [State.idents, State.session, Session.ident])

@[simp] theorem State.demandMask_frame (s : State) (ch : Chan) (mask : Nat) (sto : Bool) (cause : Nat) :
    (State.demandMask s ch mask sto cause).pending = s.pending ∧
    (State.demandMask s ch mask sto cause).freeCtr = s.freeCtr ∧
    (State.demandMask s ch mask sto cause).coreTicks = s.coreTicks ∧
    (State.demandMask s ch mask sto cause).params = s.params ∧
    (State.demandMask s ch mask sto cause).cyc = s.cyc ∧
    (State.demandMask s ch mask sto cause).boot = s.boot ∧
    (State.demandMask s ch mask sto cause).ports = s.ports ∧
    (State.demandMask s ch mask sto cause).segs = s.segs ∧
    (State.demandMask s ch mask sto cause).opening = s.opening ∧
    (State.demandMask s ch mask sto cause).fbs = s.fbs ∧
    (State.demandMask s ch mask sto cause).axes = s.axes ∧
    (State.demandMask s ch mask sto cause).steps = s.steps ∧
    (State.demandMask s ch mask sto cause).line = s.line ∧
    (State.demandMask s ch mask sto cause).moves = s.moves ∧
    (State.demandMask s ch mask sto cause).arb = s.arb ∧
    (State.demandMask s ch mask sto cause).groups = s.groups ∧
    (State.demandMask s ch mask sto cause).eng = s.eng ∧
    (State.demandMask s ch mask sto cause).die = s.die ∧
    (State.demandMask s ch mask sto cause).fld = s.fld ∧
    (State.demandMask s ch mask sto cause).twin = s.twin ∧
    (State.demandMask s ch mask sto cause).scs = s.scs ∧
    (State.demandMask s ch mask sto cause).time = s.time ∧
    (State.demandMask s ch mask sto cause).saf.endgame = s.saf.endgame ∧
    (State.demandMask s ch mask sto cause).saf.silent = s.saf.silent ∧
    (State.demandMask s ch mask sto cause).host.keys = s.host.keys ∧
    (State.demandMask s ch mask sto cause).host.parQueue = s.host.parQueue := by
  generalize hT : State.demandMask s ch mask sto cause = res
  unfold State.demandMask at hT
  try dsimp only at hT
  repeat' split at hT
  all_goals subst hT
  all_goals (try simp)
  all_goals (repeat' split)
  all_goals (try simp)

@[simp] theorem State.demandMask_idents (s : State) (ch : Chan) (mask : Nat) (sto : Bool) (cause : Nat) : (State.demandMask s ch mask sto cause).idents = s.idents := by
  generalize hT : State.demandMask s ch mask sto cause = res
  unfold State.demandMask at hT
  try dsimp only at hT
  repeat' split at hT
  all_goals subst hT
  all_goals (try simp)
  all_goals (repeat' split)
  all_goals (try simp)
  all_goals (try rfl)
  all_goals (try exact State.idents_eq _ _ (by simp))
  all_goals (try simp [Session.ident])
  all_goals (try simp [Session.ident, State.session])
  all_goals (try simp [State.idents, State.session, Session.ident])

@[simp] theorem State.idlePort_frame (s : State) (p : Nat) :
    (State.idlePort s p).pending = s.pending ∧
    (State.idlePort s p).params = s.params ∧
    (State.idlePort s p).cyc = s.cyc ∧
    (State.idlePort s p).boot = s.boot ∧
    (State.idlePort s p).segs = s.segs ∧
    (State.idlePort s p).opening = s.opening ∧
    (State.idlePort s p).fbs = s.fbs ∧
    (State.idlePort s p).steps = s.steps ∧
    (State.idlePort s p).moves = s.moves ∧
    (State.idlePort s p).arb = s.arb ∧
    (State.idlePort s p).groups = s.groups ∧
    (State.idlePort s p).saf = s.saf ∧
    (State.idlePort s p).die = s.die ∧
    (State.idlePort s p).fld = s.fld ∧
    (State.idlePort s p).twin = s.twin ∧
    (State.idlePort s p).scs = s.scs ∧
    (State.idlePort s p).host.keys = s.host.keys ∧
    (State.idlePort s p).host.parQueue = s.host.parQueue := by
  generalize hT : State.idlePort s p = res
  unfold State.idlePort at hT
  try dsimp only at hT
  repeat' split at hT
  all_goals subst hT
  all_goals (try simp)
  all_goals (repeat' split)
  all_goals (try simp)

@[simp] theorem State.idlePort_idents (s : State) (p : Nat) : (State.idlePort s p).idents = s.idents := by
  generalize hT : State.idlePort s p = res
  unfold State.idlePort at hT
  try dsimp only at hT
  repeat' split at hT
  all_goals subst hT
  all_goals (try simp)
  all_goals (repeat' split)
  all_goals (try simp)
  all_goals (try rfl)
  all_goals (try exact State.idents_eq _ _ (by simp))
  all_goals (try simp [Session.ident])
  all_goals (try simp [Session.ident, State.session])
  all_goals (try simp [State.idents, State.session, Session.ident])

@[simp] theorem State.goSilent_frame (s : State) :
    (State.goSilent s).pending = s.pending ∧
    (State.goSilent s).params = s.params ∧
    (State.goSilent s).boot = s.boot ∧
    (State.goSilent s).segs = s.segs ∧
    (State.goSilent s).opening = s.opening ∧
    (State.goSilent s).moves = s.moves ∧
    (State.goSilent s).arb = s.arb ∧
    (State.goSilent s).groups = s.groups ∧
    (State.goSilent s).die = s.die ∧
    (State.goSilent s).scs = s.scs ∧
    (State.goSilent s).saf.endgame = s.saf.endgame ∧
    (State.goSilent s).twin.standby = s.twin.standby ∧
    (State.goSilent s).host.keys = s.host.keys ∧
    (State.goSilent s).host.parQueue = s.host.parQueue ∧
    (State.goSilent s).cyc.cycle = s.cyc.cycle := by
  generalize hT : State.goSilent s = res
  unfold State.goSilent at hT
  try dsimp only at hT
  repeat' split at hT
  all_goals subst hT
  all_goals (try simp)
  all_goals (repeat' split)
  all_goals (try simp)

@[simp] theorem State.goSilent_idents (s : State) : (State.goSilent s).idents = s.idents := by
  generalize hT : State.goSilent s = res
  unfold State.goSilent at hT
  try dsimp only at hT
  repeat' split at hT
  all_goals subst hT
  all_goals (try simp)
  all_goals (repeat' split)
  all_goals (try simp)
  all_goals (try rfl)
  all_goals (try exact State.idents_eq _ _ (by simp))
  all_goals (try simp [Session.ident])
  all_goals (try simp [Session.ident, State.session])
  all_goals (try simp [State.idents, State.session, Session.ident])

@[simp] theorem State.enterEndgame_frame (s : State) :
    (State.enterEndgame s).pending = s.pending ∧
    (State.enterEndgame s).params = s.params ∧
    (State.enterEndgame s).boot = s.boot ∧
    (State.enterEndgame s).segs = s.segs ∧
    (State.enterEndgame s).opening = s.opening ∧
    (State.enterEndgame s).fbs = s.fbs ∧
    (State.enterEndgame s).moves = s.moves ∧
    (State.enterEndgame s).arb = s.arb ∧
    (State.enterEndgame s).groups = s.groups ∧
    (State.enterEndgame s).die = s.die ∧
    (State.enterEndgame s).fld = s.fld ∧
    (State.enterEndgame s).scs = s.scs ∧
    (State.enterEndgame s).saf.silent = s.saf.silent ∧
    (State.enterEndgame s).twin.standby = s.twin.standby ∧
    (State.enterEndgame s).host.keys = s.host.keys ∧
    (State.enterEndgame s).host.parQueue = s.host.parQueue ∧
    (State.enterEndgame s).cyc.cycle = s.cyc.cycle := by
  generalize hT : State.enterEndgame s = res
  unfold State.enterEndgame at hT
  try dsimp only at hT
  repeat' split at hT
  all_goals subst hT
  all_goals (try simp)
  all_goals (repeat' split)
  all_goals (try simp)

@[simp] theorem State.enterEndgame_idents (s : State) : (State.enterEndgame s).idents = s.idents := by
  generalize hT : State.enterEndgame s = res
  unfold State.enterEndgame at hT
  try dsimp only at hT
  repeat' split at hT
  all_goals subst hT
  all_goals (try simp)
  all_goals (repeat' split)
  all_goals (try simp)
  all_goals (try rfl)
  all_goals (try exact State.idents_eq _ _ (by simp))
  all_goals (try simp [Session.ident])
  all_goals (try simp [Session.ident, State.session])
  all_goals (try simp [State.idents, State.session, Session.ident])

@[simp] theorem State.fatal_frame (s : State) (reason : Nat) :
    (State.fatal s reason).pending = s.pending ∧
    (State.fatal s reason).params = s.params ∧
    (State.fatal s reason).boot = s.boot ∧
    (State.fatal s reason).segs = s.segs ∧
    (State.fatal s reason).opening = s.opening ∧
    (State.fatal s reason).moves = s.moves ∧
    (State.fatal s reason).arb = s.arb ∧
    (State.fatal s reason).groups = s.groups ∧
    (State.fatal s reason).die = s.die ∧
    (State.fatal s reason).scs = s.scs ∧
    (State.fatal s reason).twin.standby = s.twin.standby ∧
    (State.fatal s reason).host.keys = s.host.keys ∧
    (State.fatal s reason).host.parQueue = s.host.parQueue ∧
    (State.fatal s reason).cyc.cycle = s.cyc.cycle := by
  generalize hT : State.fatal s reason = res
  unfold State.fatal at hT
  try dsimp only at hT
  repeat' split at hT
  all_goals subst hT
  all_goals (try simp)
  all_goals (repeat' split)
  all_goals (try simp)

@[simp] theorem State.fatal_idents (s : State) (reason : Nat) : (State.fatal s reason).idents = s.idents := by
  generalize hT : State.fatal s reason = res
  unfold State.fatal at hT
  try dsimp only at hT
  repeat' split at hT
  all_goals subst hT
  all_goals (try simp)
  all_goals (repeat' split)
  all_goals (try simp)
  all_goals (try rfl)
  all_goals (try exact State.idents_eq _ _ (by simp))
  all_goals (try simp [Session.ident])
  all_goals (try simp [Session.ident, State.session])
  all_goals (try simp [State.idents, State.session, Session.ident])

end Sys2Proof.Machine
end

