-- ==== Sys2Proof/Laws/FrameAxisOps.lean ====
section
/-! SUPPORT. What the operations of Machine/AxisOps.lean leave unchanged: one rule per operation. -/

namespace Sys2Proof.Machine

@[simp] theorem State.modLife_frame (s : State) (a : Nat) (f : Life → Life) :
    (State.modLife s a f).pending = s.pending ∧
    (State.modLife s a f).out = s.out ∧
    (State.modLife s a f).freeCtr = s.freeCtr ∧
    (State.modLife s a f).coreTicks = s.coreTicks ∧
    (State.modLife s a f).params = s.params ∧
    (State.modLife s a f).cyc = s.cyc ∧
    (State.modLife s a f).boot = s.boot ∧
    (State.modLife s a f).ports = s.ports ∧
    (State.modLife s a f).segs = s.segs ∧
    (State.modLife s a f).opening = s.opening ∧
    (State.modLife s a f).fbs = s.fbs ∧
    (State.modLife s a f).steps = s.steps ∧
    (State.modLife s a f).line = s.line ∧
    (State.modLife s a f).moves = s.moves ∧
    (State.modLife s a f).arb = s.arb ∧
    (State.modLife s a f).groups = s.groups ∧
    (State.modLife s a f).eng = s.eng ∧
    (State.modLife s a f).saf = s.saf ∧
    (State.modLife s a f).die = s.die ∧
    (State.modLife s a f).fld = s.fld ∧
    (State.modLife s a f).twin = s.twin ∧
    (State.modLife s a f).scs = s.scs ∧
    (State.modLife s a f).time = s.time ∧
    (State.modLife s a f).host = s.host := by
  generalize hT : State.modLife s a f = res
  unfold State.modLife at hT
  try dsimp only at hT
  repeat' split at hT
  all_goals subst hT
  all_goals (try simp)
  all_goals (repeat' split)
  all_goals (try simp)

@[simp] theorem State.modLife_idents (s : State) (a : Nat) (f : Life → Life) : (State.modLife s a f).idents = s.idents := State.idents_eq _ _ (by simp)

@[simp] theorem State.modProf_frame (s : State) (a : Nat) (f : Prof → Prof) :
    (State.modProf s a f).pending = s.pending ∧
    (State.modProf s a f).out = s.out ∧
    (State.modProf s a f).freeCtr = s.freeCtr ∧
    (State.modProf s a f).coreTicks = s.coreTicks ∧
    (State.modProf s a f).params = s.params ∧
    (State.modProf s a f).cyc = s.cyc ∧
    (State.modProf s a f).boot = s.boot ∧
    (State.modProf s a f).ports = s.ports ∧
    (State.modProf s a f).segs = s.segs ∧
    (State.modProf s a f).opening = s.opening ∧
    (State.modProf s a f).fbs = s.fbs ∧
    (State.modProf s a f).steps = s.steps ∧
    (State.modProf s a f).line = s.line ∧
    (State.modProf s a f).moves = s.moves ∧
    (State.modProf s a f).arb = s.arb ∧
    (State.modProf s a f).groups = s.groups ∧
    (State.modProf s a f).eng = s.eng ∧
    (State.modProf s a f).saf = s.saf ∧
    (State.modProf s a f).die = s.die ∧
    (State.modProf s a f).fld = s.fld ∧
    (State.modProf s a f).twin = s.twin ∧
    (State.modProf s a f).scs = s.scs ∧
    (State.modProf s a f).time = s.time ∧
    (State.modProf s a f).host = s.host := by
  generalize hT : State.modProf s a f = res
  unfold State.modProf at hT
  try dsimp only at hT
  repeat' split at hT
  all_goals subst hT
  all_goals (try simp)
  all_goals (repeat' split)
  all_goals (try simp)

@[simp] theorem State.modProf_idents (s : State) (a : Nat) (f : Prof → Prof) : (State.modProf s a f).idents = s.idents := State.idents_eq _ _ (by simp)

@[simp] theorem State.modLaw_frame (s : State) (a : Nat) (f : LawSt → LawSt) :
    (State.modLaw s a f).pending = s.pending ∧
    (State.modLaw s a f).out = s.out ∧
    (State.modLaw s a f).freeCtr = s.freeCtr ∧
    (State.modLaw s a f).coreTicks = s.coreTicks ∧
    (State.modLaw s a f).params = s.params ∧
    (State.modLaw s a f).cyc = s.cyc ∧
    (State.modLaw s a f).boot = s.boot ∧
    (State.modLaw s a f).ports = s.ports ∧
    (State.modLaw s a f).segs = s.segs ∧
    (State.modLaw s a f).opening = s.opening ∧
    (State.modLaw s a f).fbs = s.fbs ∧
    (State.modLaw s a f).steps = s.steps ∧
    (State.modLaw s a f).line = s.line ∧
    (State.modLaw s a f).moves = s.moves ∧
    (State.modLaw s a f).arb = s.arb ∧
    (State.modLaw s a f).groups = s.groups ∧
    (State.modLaw s a f).eng = s.eng ∧
    (State.modLaw s a f).saf = s.saf ∧
    (State.modLaw s a f).die = s.die ∧
    (State.modLaw s a f).fld = s.fld ∧
    (State.modLaw s a f).twin = s.twin ∧
    (State.modLaw s a f).scs = s.scs ∧
    (State.modLaw s a f).time = s.time ∧
    (State.modLaw s a f).host = s.host := by
  generalize hT : State.modLaw s a f = res
  unfold State.modLaw at hT
  try dsimp only at hT
  repeat' split at hT
  all_goals subst hT
  all_goals (try simp)
  all_goals (repeat' split)
  all_goals (try simp)

@[simp] theorem State.modLaw_idents (s : State) (a : Nat) (f : LawSt → LawSt) : (State.modLaw s a f).idents = s.idents := State.idents_eq _ _ (by simp)

@[simp] theorem State.modObs_frame (s : State) (a : Nat) (f : Observer → Observer) :
    (State.modObs s a f).pending = s.pending ∧
    (State.modObs s a f).out = s.out ∧
    (State.modObs s a f).freeCtr = s.freeCtr ∧
    (State.modObs s a f).coreTicks = s.coreTicks ∧
    (State.modObs s a f).params = s.params ∧
    (State.modObs s a f).cyc = s.cyc ∧
    (State.modObs s a f).boot = s.boot ∧
    (State.modObs s a f).ports = s.ports ∧
    (State.modObs s a f).segs = s.segs ∧
    (State.modObs s a f).opening = s.opening ∧
    (State.modObs s a f).fbs = s.fbs ∧
    (State.modObs s a f).steps = s.steps ∧
    (State.modObs s a f).line = s.line ∧
    (State.modObs s a f).moves = s.moves ∧
    (State.modObs s a f).arb = s.arb ∧
    (State.modObs s a f).groups = s.groups ∧
    (State.modObs s a f).eng = s.eng ∧
    (State.modObs s a f).saf = s.saf ∧
    (State.modObs s a f).die = s.die ∧
    (State.modObs s a f).fld = s.fld ∧
    (State.modObs s a f).twin = s.twin ∧
    (State.modObs s a f).scs = s.scs ∧
    (State.modObs s a f).time = s.time ∧
    (State.modObs s a f).host = s.host := by
  generalize hT : State.modObs s a f = res
  unfold State.modObs at hT
  try dsimp only at hT
  repeat' split at hT
  all_goals subst hT
  all_goals (try simp)
  all_goals (repeat' split)
  all_goals (try simp)

@[simp] theorem State.modObs_idents (s : State) (a : Nat) (f : Observer → Observer) : (State.modObs s a f).idents = s.idents := State.idents_eq _ _ (by simp)

@[simp] theorem State.modTask_frame (s : State) (a : Nat) (f : TaskSt → TaskSt) :
    (State.modTask s a f).pending = s.pending ∧
    (State.modTask s a f).out = s.out ∧
    (State.modTask s a f).freeCtr = s.freeCtr ∧
    (State.modTask s a f).coreTicks = s.coreTicks ∧
    (State.modTask s a f).params = s.params ∧
    (State.modTask s a f).cyc = s.cyc ∧
    (State.modTask s a f).boot = s.boot ∧
    (State.modTask s a f).ports = s.ports ∧
    (State.modTask s a f).segs = s.segs ∧
    (State.modTask s a f).opening = s.opening ∧
    (State.modTask s a f).fbs = s.fbs ∧
    (State.modTask s a f).steps = s.steps ∧
    (State.modTask s a f).line = s.line ∧
    (State.modTask s a f).moves = s.moves ∧
    (State.modTask s a f).arb = s.arb ∧
    (State.modTask s a f).groups = s.groups ∧
    (State.modTask s a f).eng = s.eng ∧
    (State.modTask s a f).saf = s.saf ∧
    (State.modTask s a f).die = s.die ∧
    (State.modTask s a f).fld = s.fld ∧
    (State.modTask s a f).twin = s.twin ∧
    (State.modTask s a f).scs = s.scs ∧
    (State.modTask s a f).time = s.time ∧
    (State.modTask s a f).host = s.host := by
  generalize hT : State.modTask s a f = res
  unfold State.modTask at hT
  try dsimp only at hT
  repeat' split at hT
  all_goals subst hT
  all_goals (try simp)
  all_goals (repeat' split)
  all_goals (try simp)

@[simp] theorem State.modTask_idents (s : State) (a : Nat) (f : TaskSt → TaskSt) : (State.modTask s a f).idents = s.idents := State.idents_eq _ _ (by simp)

@[simp] theorem State.finishMotion_frame (s : State) (a status : Nat) :
    (State.finishMotion s a status).pending = s.pending ∧
    (State.finishMotion s a status).freeCtr = s.freeCtr ∧
    (State.finishMotion s a status).coreTicks = s.coreTicks ∧
    (State.finishMotion s a status).params = s.params ∧
    (State.finishMotion s a status).cyc = s.cyc ∧
    (State.finishMotion s a status).boot = s.boot ∧
    (State.finishMotion s a status).ports = s.ports ∧
    (State.finishMotion s a status).segs = s.segs ∧
    (State.finishMotion s a status).opening = s.opening ∧
    (State.finishMotion s a status).fbs = s.fbs ∧
    (State.finishMotion s a status).steps = s.steps ∧
    (State.finishMotion s a status).line = s.line ∧
    (State.finishMotion s a status).moves = s.moves ∧
    (State.finishMotion s a status).arb = s.arb ∧
    (State.finishMotion s a status).groups = s.groups ∧
    (State.finishMotion s a status).eng = s.eng ∧
    (State.finishMotion s a status).saf = s.saf ∧
    (State.finishMotion s a status).die = s.die ∧
    (State.finishMotion s a status).fld = s.fld ∧
    (State.finishMotion s a status).twin = s.twin ∧
    (State.finishMotion s a status).scs = s.scs ∧
    (State.finishMotion s a status).time = s.time ∧
    (State.finishMotion s a status).host.keys = s.host.keys ∧
    (State.finishMotion s a status).host.parQueue = s.host.parQueue := by
  generalize hT : State.finishMotion s a status = res
  unfold State.finishMotion at hT
  try dsimp only at hT
  repeat' split at hT
  all_goals subst hT
  all_goals (try simp)
  all_goals (repeat' split)
  all_goals (try simp)

@[simp] theorem State.finishMotion_idents (s : State) (a status : Nat) : (State.finishMotion s a status).idents = s.idents := by
  generalize hT : State.finishMotion s a status = res
  unfold State.finishMotion at hT
  try dsimp only at hT
  repeat' split at hT
  all_goals subst hT
  all_goals (try simp)
  all_goals (repeat' split)
  all_goals (try simp)
  all_goals (try rfl)
  all_goals (try exact State.idents_eq _ _ (by simp))
  all_goals (try simp [Session.ident])
  all_goals (try simp [Session.ident, State.session])
  all_goals (try simp [State.idents, State.session, Session.ident])

@[simp] theorem State.dropRequest_frame (s : State) (a cause : Nat) :
    (State.dropRequest s a cause).pending = s.pending ∧
    (State.dropRequest s a cause).freeCtr = s.freeCtr ∧
    (State.dropRequest s a cause).coreTicks = s.coreTicks ∧
    (State.dropRequest s a cause).params = s.params ∧
    (State.dropRequest s a cause).cyc = s.cyc ∧
    (State.dropRequest s a cause).boot = s.boot ∧
    (State.dropRequest s a cause).ports = s.ports ∧
    (State.dropRequest s a cause).segs = s.segs ∧
    (State.dropRequest s a cause).opening = s.opening ∧
    (State.dropRequest s a cause).fbs = s.fbs ∧
    (State.dropRequest s a cause).steps = s.steps ∧
    (State.dropRequest s a cause).line = s.line ∧
    (State.dropRequest s a cause).moves = s.moves ∧
    (State.dropRequest s a cause).arb = s.arb ∧
    (State.dropRequest s a cause).groups = s.groups ∧
    (State.dropRequest s a cause).eng = s.eng ∧
    (State.dropRequest s a cause).saf = s.saf ∧
    (State.dropRequest s a cause).die = s.die ∧
    (State.dropRequest s a cause).fld = s.fld ∧
    (State.dropRequest s a cause).twin = s.twin ∧
    (State.dropRequest s a cause).scs = s.scs ∧
    (State.dropRequest s a cause).time = s.time ∧
    (State.dropRequest s a cause).host.keys = s.host.keys ∧
    (State.dropRequest s a cause).host.parQueue = s.host.parQueue := by
  generalize hT : State.dropRequest s a cause = res
  unfold State.dropRequest at hT
  try dsimp only at hT
  repeat' split at hT
  all_goals subst hT
  all_goals (try simp)
  all_goals (repeat' split)
  all_goals (try simp)

@[simp] theorem State.dropRequest_idents (s : State) (a cause : Nat) : (State.dropRequest s a cause).idents = s.idents := by
  generalize hT : State.dropRequest s a cause = res
  unfold State.dropRequest at hT
  try dsimp only at hT
  repeat' split at hT
  all_goals subst hT
  all_goals (try simp)
  all_goals (repeat' split)
  all_goals (try simp)
  all_goals (try rfl)
  all_goals (try exact State.idents_eq _ _ (by simp))
  all_goals (try simp [Session.ident])
  all_goals (try simp [Session.ident, State.session])
  all_goals (try simp [State.idents, State.session, Session.ident])

@[simp] theorem State.leaveGroup_frame (s : State) (a : Nat) :
    (State.leaveGroup s a).pending = s.pending ∧
    (State.leaveGroup s a).freeCtr = s.freeCtr ∧
    (State.leaveGroup s a).coreTicks = s.coreTicks ∧
    (State.leaveGroup s a).params = s.params ∧
    (State.leaveGroup s a).cyc = s.cyc ∧
    (State.leaveGroup s a).boot = s.boot ∧
    (State.leaveGroup s a).ports = s.ports ∧
    (State.leaveGroup s a).segs = s.segs ∧
    (State.leaveGroup s a).opening = s.opening ∧
    (State.leaveGroup s a).fbs = s.fbs ∧
    (State.leaveGroup s a).steps = s.steps ∧
    (State.leaveGroup s a).line = s.line ∧
    (State.leaveGroup s a).moves = s.moves ∧
    (State.leaveGroup s a).arb = s.arb ∧
    (State.leaveGroup s a).groups = s.groups ∧
    (State.leaveGroup s a).eng = s.eng ∧
    (State.leaveGroup s a).saf = s.saf ∧
    (State.leaveGroup s a).die = s.die ∧
    (State.leaveGroup s a).fld = s.fld ∧
    (State.leaveGroup s a).twin = s.twin ∧
    (State.leaveGroup s a).scs = s.scs ∧
    (State.leaveGroup s a).time = s.time ∧
    (State.leaveGroup s a).host.keys = s.host.keys ∧
    (State.leaveGroup s a).host.parQueue = s.host.parQueue := by
  generalize hT : State.leaveGroup s a = res
  unfold State.leaveGroup at hT
  try dsimp only at hT
  repeat' split at hT
  all_goals subst hT
  all_goals (try simp)
  all_goals (repeat' split)
  all_goals (try simp)

@[simp] theorem State.leaveGroup_idents (s : State) (a : Nat) : (State.leaveGroup s a).idents = s.idents := by
  generalize hT : State.leaveGroup s a = res
  unfold State.leaveGroup at hT
  try dsimp only at hT
  repeat' split at hT
  all_goals subst hT
  all_goals (try simp)
  all_goals (repeat' split)
  all_goals (try simp)
  all_goals (try rfl)
  all_goals (try exact State.idents_eq _ _ (by simp))
  all_goals (try simp [Session.ident])
  all_goals (try simp [Session.ident, State.session])
  all_goals (try simp [State.idents, State.session, Session.ident])

@[simp] theorem State.planStop_frame (s : State) (a kind : Nat) (dec : Int) :
    (State.planStop s a kind dec).pending = s.pending ∧
    (State.planStop s a kind dec).freeCtr = s.freeCtr ∧
    (State.planStop s a kind dec).coreTicks = s.coreTicks ∧
    (State.planStop s a kind dec).params = s.params ∧
    (State.planStop s a kind dec).cyc = s.cyc ∧
    (State.planStop s a kind dec).boot = s.boot ∧
    (State.planStop s a kind dec).ports = s.ports ∧
    (State.planStop s a kind dec).segs = s.segs ∧
    (State.planStop s a kind dec).opening = s.opening ∧
    (State.planStop s a kind dec).fbs = s.fbs ∧
    (State.planStop s a kind dec).steps = s.steps ∧
    (State.planStop s a kind dec).line = s.line ∧
    (State.planStop s a kind dec).moves = s.moves ∧
    (State.planStop s a kind dec).arb = s.arb ∧
    (State.planStop s a kind dec).groups = s.groups ∧
    (State.planStop s a kind dec).eng = s.eng ∧
    (State.planStop s a kind dec).saf = s.saf ∧
    (State.planStop s a kind dec).die = s.die ∧
    (State.planStop s a kind dec).fld = s.fld ∧
    (State.planStop s a kind dec).twin = s.twin ∧
    (State.planStop s a kind dec).scs = s.scs ∧
    (State.planStop s a kind dec).time = s.time ∧
    (State.planStop s a kind dec).host.keys = s.host.keys ∧
    (State.planStop s a kind dec).host.parQueue = s.host.parQueue := by
  generalize hT : State.planStop s a kind dec = res
  unfold State.planStop at hT
  try dsimp only at hT
  repeat' split at hT
  all_goals subst hT
  all_goals (try simp)
  all_goals (repeat' split)
  all_goals (try simp)

@[simp] theorem State.planStop_idents (s : State) (a kind : Nat) (dec : Int) : (State.planStop s a kind dec).idents = s.idents := by
  generalize hT : State.planStop s a kind dec = res
  unfold State.planStop at hT
  try dsimp only at hT
  repeat' split at hT
  all_goals subst hT
  all_goals (try simp)
  all_goals (repeat' split)
  all_goals (try simp)
  all_goals (try rfl)
  all_goals (try exact State.idents_eq _ _ (by simp))
  all_goals (try simp [Session.ident])
  all_goals (try simp [Session.ident, State.session])
  all_goals (try simp [State.idents, State.session, Session.ident])

@[simp] theorem State.setDeviceWord_frame (s : State) (a off : Nat) (v : Word48) :
    (State.setDeviceWord s a off v).pending = s.pending ∧
    (State.setDeviceWord s a off v).out = s.out ∧
    (State.setDeviceWord s a off v).freeCtr = s.freeCtr ∧
    (State.setDeviceWord s a off v).coreTicks = s.coreTicks ∧
    (State.setDeviceWord s a off v).params = s.params ∧
    (State.setDeviceWord s a off v).cyc = s.cyc ∧
    (State.setDeviceWord s a off v).boot = s.boot ∧
    (State.setDeviceWord s a off v).ports = s.ports ∧
    (State.setDeviceWord s a off v).segs = s.segs ∧
    (State.setDeviceWord s a off v).opening = s.opening ∧
    (State.setDeviceWord s a off v).fbs = s.fbs ∧
    (State.setDeviceWord s a off v).steps = s.steps ∧
    (State.setDeviceWord s a off v).line = s.line ∧
    (State.setDeviceWord s a off v).moves = s.moves ∧
    (State.setDeviceWord s a off v).arb = s.arb ∧
    (State.setDeviceWord s a off v).groups = s.groups ∧
    (State.setDeviceWord s a off v).eng = s.eng ∧
    (State.setDeviceWord s a off v).saf = s.saf ∧
    (State.setDeviceWord s a off v).die = s.die ∧
    (State.setDeviceWord s a off v).fld = s.fld ∧
    (State.setDeviceWord s a off v).twin = s.twin ∧
    (State.setDeviceWord s a off v).scs = s.scs ∧
    (State.setDeviceWord s a off v).time = s.time ∧
    (State.setDeviceWord s a off v).host = s.host := by
  generalize hT : State.setDeviceWord s a off v = res
  unfold State.setDeviceWord at hT
  try dsimp only at hT
  repeat' split at hT
  all_goals subst hT
  all_goals (try simp)
  all_goals (repeat' split)
  all_goals (try simp)

@[simp] theorem State.setDeviceWord_idents (s : State) (a off : Nat) (v : Word48) : (State.setDeviceWord s a off v).idents = s.idents := State.idents_eq _ _ (by simp)

@[simp] theorem State.writeDeviceWords_frame (s : State) (a : Nat) :
    (State.writeDeviceWords s a).pending = s.pending ∧
    (State.writeDeviceWords s a).out = s.out ∧
    (State.writeDeviceWords s a).coreTicks = s.coreTicks ∧
    (State.writeDeviceWords s a).params = s.params ∧
    (State.writeDeviceWords s a).cyc = s.cyc ∧
    (State.writeDeviceWords s a).boot = s.boot ∧
    (State.writeDeviceWords s a).ports = s.ports ∧
    (State.writeDeviceWords s a).segs = s.segs ∧
    (State.writeDeviceWords s a).opening = s.opening ∧
    (State.writeDeviceWords s a).fbs = s.fbs ∧
    (State.writeDeviceWords s a).steps = s.steps ∧
    (State.writeDeviceWords s a).line = s.line ∧
    (State.writeDeviceWords s a).moves = s.moves ∧
    (State.writeDeviceWords s a).arb = s.arb ∧
    (State.writeDeviceWords s a).groups = s.groups ∧
    (State.writeDeviceWords s a).eng = s.eng ∧
    (State.writeDeviceWords s a).saf = s.saf ∧
    (State.writeDeviceWords s a).die = s.die ∧
    (State.writeDeviceWords s a).fld = s.fld ∧
    (State.writeDeviceWords s a).twin = s.twin ∧
    (State.writeDeviceWords s a).scs = s.scs ∧
    (State.writeDeviceWords s a).time = s.time ∧
    (State.writeDeviceWords s a).host = s.host := by
  generalize hT : State.writeDeviceWords s a = res
  unfold State.writeDeviceWords at hT
  try dsimp only at hT
  repeat' split at hT
  all_goals subst hT
  all_goals (try simp)
  all_goals (repeat' split)
  all_goals (try simp)

@[simp] theorem State.writeDeviceWords_idents (s : State) (a : Nat) : (State.writeDeviceWords s a).idents = s.idents := State.idents_eq _ _ (by simp)

@[simp] theorem State.stoPath_frame (s : State) (a : Nat) :
    (State.stoPath s a).pending = s.pending ∧
    (State.stoPath s a).freeCtr = s.freeCtr ∧
    (State.stoPath s a).coreTicks = s.coreTicks ∧
    (State.stoPath s a).params = s.params ∧
    (State.stoPath s a).cyc = s.cyc ∧
    (State.stoPath s a).boot = s.boot ∧
    (State.stoPath s a).ports = s.ports ∧
    (State.stoPath s a).segs = s.segs ∧
    (State.stoPath s a).opening = s.opening ∧
    (State.stoPath s a).fbs = s.fbs ∧
    (State.stoPath s a).steps = s.steps ∧
    (State.stoPath s a).line = s.line ∧
    (State.stoPath s a).moves = s.moves ∧
    (State.stoPath s a).arb = s.arb ∧
    (State.stoPath s a).groups = s.groups ∧
    (State.stoPath s a).eng = s.eng ∧
    (State.stoPath s a).saf = s.saf ∧
    (State.stoPath s a).die = s.die ∧
    (State.stoPath s a).fld = s.fld ∧
    (State.stoPath s a).twin = s.twin ∧
    (State.stoPath s a).scs = s.scs ∧
    (State.stoPath s a).time = s.time ∧
    (State.stoPath s a).host.keys = s.host.keys ∧
    (State.stoPath s a).host.parQueue = s.host.parQueue := by
  generalize hT : State.stoPath s a = res
  unfold State.stoPath at hT
  try dsimp only at hT
  repeat' split at hT
  all_goals subst hT
  all_goals (try simp)
  all_goals (repeat' split)
  all_goals (try simp)

@[simp] theorem State.stoPath_idents (s : State) (a : Nat) : (State.stoPath s a).idents = s.idents := by
  generalize hT : State.stoPath s a = res
  unfold State.stoPath at hT
  try dsimp only at hT
  repeat' split at hT
  all_goals subst hT
  all_goals (try simp)
  all_goals (repeat' split)
  all_goals (try simp)
  all_goals (try rfl)
  all_goals (try exact State.idents_eq _ _ (by simp))
  all_goals (try simp [Session.ident])
  all_goals (try simp [Session.ident, State.session])
  all_goals (try simp [State.idents, State.session, Session.ident])

@[simp] theorem State.dropHeld_frame (s : State) (a : Nat) :
    (State.dropHeld s a).pending = s.pending ∧
    (State.dropHeld s a).freeCtr = s.freeCtr ∧
    (State.dropHeld s a).coreTicks = s.coreTicks ∧
    (State.dropHeld s a).params = s.params ∧
    (State.dropHeld s a).cyc = s.cyc ∧
    (State.dropHeld s a).boot = s.boot ∧
    (State.dropHeld s a).ports = s.ports ∧
    (State.dropHeld s a).segs = s.segs ∧
    (State.dropHeld s a).opening = s.opening ∧
    (State.dropHeld s a).fbs = s.fbs ∧
    (State.dropHeld s a).steps = s.steps ∧
    (State.dropHeld s a).line = s.line ∧
    (State.dropHeld s a).moves = s.moves ∧
    (State.dropHeld s a).arb = s.arb ∧
    (State.dropHeld s a).groups = s.groups ∧
    (State.dropHeld s a).eng = s.eng ∧
    (State.dropHeld s a).saf = s.saf ∧
    (State.dropHeld s a).die = s.die ∧
    (State.dropHeld s a).fld = s.fld ∧
    (State.dropHeld s a).twin = s.twin ∧
    (State.dropHeld s a).scs = s.scs ∧
    (State.dropHeld s a).time = s.time ∧
    (State.dropHeld s a).host.keys = s.host.keys ∧
    (State.dropHeld s a).host.parQueue = s.host.parQueue := by
  generalize hT : State.dropHeld s a = res
  unfold State.dropHeld at hT
  try dsimp only at hT
  repeat' split at hT
  all_goals subst hT
  all_goals (try simp)
  all_goals (repeat' split)
  all_goals (try simp)

@[simp] theorem State.dropHeld_idents (s : State) (a : Nat) : (State.dropHeld s a).idents = s.idents := by
  generalize hT : State.dropHeld s a = res
  unfold State.dropHeld at hT
  try dsimp only at hT
  repeat' split at hT
  all_goals subst hT
  all_goals (try simp)
  all_goals (repeat' split)
  all_goals (try simp)
  all_goals (try rfl)
  all_goals (try exact State.idents_eq _ _ (by simp))
  all_goals (try simp [Session.ident])
  all_goals (try simp [Session.ident, State.session])
  all_goals (try simp [State.idents, State.session, Session.ident])

@[simp] theorem State.finishEnable_frame (s : State) (a status : Nat) :
    (State.finishEnable s a status).pending = s.pending ∧
    (State.finishEnable s a status).freeCtr = s.freeCtr ∧
    (State.finishEnable s a status).coreTicks = s.coreTicks ∧
    (State.finishEnable s a status).params = s.params ∧
    (State.finishEnable s a status).cyc = s.cyc ∧
    (State.finishEnable s a status).boot = s.boot ∧
    (State.finishEnable s a status).ports = s.ports ∧
    (State.finishEnable s a status).segs = s.segs ∧
    (State.finishEnable s a status).opening = s.opening ∧
    (State.finishEnable s a status).fbs = s.fbs ∧
    (State.finishEnable s a status).steps = s.steps ∧
    (State.finishEnable s a status).line = s.line ∧
    (State.finishEnable s a status).moves = s.moves ∧
    (State.finishEnable s a status).arb = s.arb ∧
    (State.finishEnable s a status).groups = s.groups ∧
    (State.finishEnable s a status).eng = s.eng ∧
    (State.finishEnable s a status).saf = s.saf ∧
    (State.finishEnable s a status).die = s.die ∧
    (State.finishEnable s a status).fld = s.fld ∧
    (State.finishEnable s a status).twin = s.twin ∧
    (State.finishEnable s a status).scs = s.scs ∧
    (State.finishEnable s a status).time = s.time ∧
    (State.finishEnable s a status).host.keys = s.host.keys ∧
    (State.finishEnable s a status).host.parQueue = s.host.parQueue := by
  generalize hT : State.finishEnable s a status = res
  unfold State.finishEnable at hT
  try dsimp only at hT
  repeat' split at hT
  all_goals subst hT
  all_goals (try simp)
  all_goals (repeat' split)
  all_goals (try simp)

@[simp] theorem State.finishEnable_idents (s : State) (a status : Nat) : (State.finishEnable s a status).idents = s.idents := by
  generalize hT : State.finishEnable s a status = res
  unfold State.finishEnable at hT
  try dsimp only at hT
  repeat' split at hT
  all_goals subst hT
  all_goals (try simp)
  all_goals (repeat' split)
  all_goals (try simp)
  all_goals (try rfl)
  all_goals (try exact State.idents_eq _ _ (by simp))
  all_goals (try simp [Session.ident])
  all_goals (try simp [Session.ident, State.session])
  all_goals (try simp [State.idents, State.session, Session.ident])

@[simp] theorem State.axisFault_frame (s : State) (a cause : Nat) :
    (State.axisFault s a cause).pending = s.pending ∧
    (State.axisFault s a cause).freeCtr = s.freeCtr ∧
    (State.axisFault s a cause).coreTicks = s.coreTicks ∧
    (State.axisFault s a cause).params = s.params ∧
    (State.axisFault s a cause).cyc = s.cyc ∧
    (State.axisFault s a cause).boot = s.boot ∧
    (State.axisFault s a cause).ports = s.ports ∧
    (State.axisFault s a cause).segs = s.segs ∧
    (State.axisFault s a cause).opening = s.opening ∧
    (State.axisFault s a cause).fbs = s.fbs ∧
    (State.axisFault s a cause).steps = s.steps ∧
    (State.axisFault s a cause).line = s.line ∧
    (State.axisFault s a cause).moves = s.moves ∧
    (State.axisFault s a cause).arb = s.arb ∧
    (State.axisFault s a cause).groups = s.groups ∧
    (State.axisFault s a cause).eng = s.eng ∧
    (State.axisFault s a cause).saf = s.saf ∧
    (State.axisFault s a cause).die = s.die ∧
    (State.axisFault s a cause).fld = s.fld ∧
    (State.axisFault s a cause).twin = s.twin ∧
    (State.axisFault s a cause).scs = s.scs ∧
    (State.axisFault s a cause).time = s.time ∧
    (State.axisFault s a cause).host.keys = s.host.keys ∧
    (State.axisFault s a cause).host.parQueue = s.host.parQueue := by
  generalize hT : State.axisFault s a cause = res
  unfold State.axisFault at hT
  try dsimp only at hT
  repeat' split at hT
  all_goals subst hT
  all_goals (try simp)
  all_goals (repeat' split)
  all_goals (try simp)

@[simp] theorem State.axisFault_idents (s : State) (a cause : Nat) : (State.axisFault s a cause).idents = s.idents := by
  generalize hT : State.axisFault s a cause = res
  unfold State.axisFault at hT
  try dsimp only at hT
  repeat' split at hT
  all_goals subst hT
  all_goals (try simp)
  all_goals (repeat' split)
  all_goals (try simp)
  all_goals (try rfl)
  all_goals (try exact State.idents_eq _ _ (by simp))
  all_goals (try simp [Session.ident])
  all_goals (try simp [Session.ident, State.session])
  all_goals (try simp [State.idents, State.session, Session.ident])

@[simp] theorem State.torqueOffSto_frame (s : State) (a : Nat) :
    (State.torqueOffSto s a).pending = s.pending ∧
    (State.torqueOffSto s a).freeCtr = s.freeCtr ∧
    (State.torqueOffSto s a).coreTicks = s.coreTicks ∧
    (State.torqueOffSto s a).params = s.params ∧
    (State.torqueOffSto s a).cyc = s.cyc ∧
    (State.torqueOffSto s a).boot = s.boot ∧
    (State.torqueOffSto s a).ports = s.ports ∧
    (State.torqueOffSto s a).segs = s.segs ∧
    (State.torqueOffSto s a).opening = s.opening ∧
    (State.torqueOffSto s a).fbs = s.fbs ∧
    (State.torqueOffSto s a).steps = s.steps ∧
    (State.torqueOffSto s a).line = s.line ∧
    (State.torqueOffSto s a).moves = s.moves ∧
    (State.torqueOffSto s a).arb = s.arb ∧
    (State.torqueOffSto s a).groups = s.groups ∧
    (State.torqueOffSto s a).eng = s.eng ∧
    (State.torqueOffSto s a).saf = s.saf ∧
    (State.torqueOffSto s a).die = s.die ∧
    (State.torqueOffSto s a).fld = s.fld ∧
    (State.torqueOffSto s a).twin = s.twin ∧
    (State.torqueOffSto s a).scs = s.scs ∧
    (State.torqueOffSto s a).time = s.time ∧
    (State.torqueOffSto s a).host.keys = s.host.keys ∧
    (State.torqueOffSto s a).host.parQueue = s.host.parQueue := by
  generalize hT : State.torqueOffSto s a = res
  unfold State.torqueOffSto at hT
  try dsimp only at hT
  repeat' split at hT
  all_goals subst hT
  all_goals (try simp)
  all_goals (repeat' split)
  all_goals (try simp)

@[simp] theorem State.torqueOffSto_idents (s : State) (a : Nat) : (State.torqueOffSto s a).idents = s.idents := by
  generalize hT : State.torqueOffSto s a = res
  unfold State.torqueOffSto at hT
  try dsimp only at hT
  repeat' split at hT
  all_goals subst hT
  all_goals (try simp)
  all_goals (repeat' split)
  all_goals (try simp)
  all_goals (try rfl)
  all_goals (try exact State.idents_eq _ _ (by simp))
  all_goals (try simp [Session.ident])
  all_goals (try simp [Session.ident, State.session])
  all_goals (try simp [State.idents, State.session, Session.ident])

@[simp] theorem State.axisSto_frame (s : State) (a : Nat) :
    (State.axisSto s a).pending = s.pending ∧
    (State.axisSto s a).freeCtr = s.freeCtr ∧
    (State.axisSto s a).coreTicks = s.coreTicks ∧
    (State.axisSto s a).params = s.params ∧
    (State.axisSto s a).cyc = s.cyc ∧
    (State.axisSto s a).boot = s.boot ∧
    (State.axisSto s a).ports = s.ports ∧
    (State.axisSto s a).segs = s.segs ∧
    (State.axisSto s a).opening = s.opening ∧
    (State.axisSto s a).fbs = s.fbs ∧
    (State.axisSto s a).steps = s.steps ∧
    (State.axisSto s a).line = s.line ∧
    (State.axisSto s a).moves = s.moves ∧
    (State.axisSto s a).arb = s.arb ∧
    (State.axisSto s a).groups = s.groups ∧
    (State.axisSto s a).eng = s.eng ∧
    (State.axisSto s a).saf = s.saf ∧
    (State.axisSto s a).die = s.die ∧
    (State.axisSto s a).fld = s.fld ∧
    (State.axisSto s a).twin = s.twin ∧
    (State.axisSto s a).scs = s.scs ∧
    (State.axisSto s a).time = s.time ∧
    (State.axisSto s a).host.keys = s.host.keys ∧
    (State.axisSto s a).host.parQueue = s.host.parQueue := by
  generalize hT : State.axisSto s a = res
  unfold State.axisSto at hT
  try dsimp only at hT
  repeat' split at hT
  all_goals subst hT
  all_goals (try simp)
  all_goals (repeat' split)
  all_goals (try simp)

@[simp] theorem State.axisSto_idents (s : State) (a : Nat) : (State.axisSto s a).idents = s.idents := by
  generalize hT : State.axisSto s a = res
  unfold State.axisSto at hT
  try dsimp only at hT
  repeat' split at hT
  all_goals subst hT
  all_goals (try simp)
  all_goals (repeat' split)
  all_goals (try simp)
  all_goals (try rfl)
  all_goals (try exact State.idents_eq _ _ (by simp))
  all_goals (try simp [Session.ident])
  all_goals (try simp [Session.ident, State.session])
  all_goals (try simp [State.idents, State.session, Session.ident])

@[simp] theorem State.startStop_frame (s : State) (a kind cause : Nat) (dec : Int) :
    (State.startStop s a kind cause dec).pending = s.pending ∧
    (State.startStop s a kind cause dec).freeCtr = s.freeCtr ∧
    (State.startStop s a kind cause dec).coreTicks = s.coreTicks ∧
    (State.startStop s a kind cause dec).params = s.params ∧
    (State.startStop s a kind cause dec).cyc = s.cyc ∧
    (State.startStop s a kind cause dec).boot = s.boot ∧
    (State.startStop s a kind cause dec).ports = s.ports ∧
    (State.startStop s a kind cause dec).segs = s.segs ∧
    (State.startStop s a kind cause dec).opening = s.opening ∧
    (State.startStop s a kind cause dec).fbs = s.fbs ∧
    (State.startStop s a kind cause dec).steps = s.steps ∧
    (State.startStop s a kind cause dec).line = s.line ∧
    (State.startStop s a kind cause dec).moves = s.moves ∧
    (State.startStop s a kind cause dec).arb = s.arb ∧
    (State.startStop s a kind cause dec).groups = s.groups ∧
    (State.startStop s a kind cause dec).eng = s.eng ∧
    (State.startStop s a kind cause dec).saf = s.saf ∧
    (State.startStop s a kind cause dec).die = s.die ∧
    (State.startStop s a kind cause dec).fld = s.fld ∧
    (State.startStop s a kind cause dec).twin = s.twin ∧
    (State.startStop s a kind cause dec).scs = s.scs ∧
    (State.startStop s a kind cause dec).time = s.time ∧
    (State.startStop s a kind cause dec).host.keys = s.host.keys ∧
    (State.startStop s a kind cause dec).host.parQueue = s.host.parQueue := by
  generalize hT : State.startStop s a kind cause dec = res
  unfold State.startStop at hT
  try dsimp only at hT
  repeat' split at hT
  all_goals subst hT
  all_goals (try simp)
  all_goals (repeat' split)
  all_goals (try simp)

@[simp] theorem State.startStop_idents (s : State) (a kind cause : Nat) (dec : Int) : (State.startStop s a kind cause dec).idents = s.idents := by
  generalize hT : State.startStop s a kind cause dec = res
  unfold State.startStop at hT
  try dsimp only at hT
  repeat' split at hT
  all_goals subst hT
  all_goals (try simp)
  all_goals (repeat' split)
  all_goals (try simp)
  all_goals (try rfl)
  all_goals (try exact State.idents_eq _ _ (by simp))
  all_goals (try simp [Session.ident])
  all_goals (try simp [Session.ident, State.session])
  all_goals (try simp [State.idents, State.session, Session.ident])

@[simp] theorem State.axisSs1_frame (s : State) (a : Nat) :
    (State.axisSs1 s a).pending = s.pending ∧
    (State.axisSs1 s a).freeCtr = s.freeCtr ∧
    (State.axisSs1 s a).coreTicks = s.coreTicks ∧
    (State.axisSs1 s a).params = s.params ∧
    (State.axisSs1 s a).cyc = s.cyc ∧
    (State.axisSs1 s a).boot = s.boot ∧
    (State.axisSs1 s a).ports = s.ports ∧
    (State.axisSs1 s a).segs = s.segs ∧
    (State.axisSs1 s a).opening = s.opening ∧
    (State.axisSs1 s a).fbs = s.fbs ∧
    (State.axisSs1 s a).steps = s.steps ∧
    (State.axisSs1 s a).line = s.line ∧
    (State.axisSs1 s a).moves = s.moves ∧
    (State.axisSs1 s a).arb = s.arb ∧
    (State.axisSs1 s a).groups = s.groups ∧
    (State.axisSs1 s a).eng = s.eng ∧
    (State.axisSs1 s a).saf = s.saf ∧
    (State.axisSs1 s a).die = s.die ∧
    (State.axisSs1 s a).fld = s.fld ∧
    (State.axisSs1 s a).twin = s.twin ∧
    (State.axisSs1 s a).scs = s.scs ∧
    (State.axisSs1 s a).time = s.time ∧
    (State.axisSs1 s a).host.keys = s.host.keys ∧
    (State.axisSs1 s a).host.parQueue = s.host.parQueue := by
  generalize hT : State.axisSs1 s a = res
  unfold State.axisSs1 at hT
  try dsimp only at hT
  repeat' split at hT
  all_goals subst hT
  all_goals (try simp)
  all_goals (repeat' split)
  all_goals (try simp)

@[simp] theorem State.axisSs1_idents (s : State) (a : Nat) : (State.axisSs1 s a).idents = s.idents := by
  generalize hT : State.axisSs1 s a = res
  unfold State.axisSs1 at hT
  try dsimp only at hT
  repeat' split at hT
  all_goals subst hT
  all_goals (try simp)
  all_goals (repeat' split)
  all_goals (try simp)
  all_goals (try rfl)
  all_goals (try exact State.idents_eq _ _ (by simp))
  all_goals (try simp [Session.ident])
  all_goals (try simp [Session.ident, State.session])
  all_goals (try simp [State.idents, State.session, Session.ident])

@[simp] theorem State.safStops_frame (s : State) (sto ss1 : Nat) :
    (State.safStops s sto ss1).pending = s.pending ∧
    (State.safStops s sto ss1).freeCtr = s.freeCtr ∧
    (State.safStops s sto ss1).coreTicks = s.coreTicks ∧
    (State.safStops s sto ss1).params = s.params ∧
    (State.safStops s sto ss1).cyc = s.cyc ∧
    (State.safStops s sto ss1).boot = s.boot ∧
    (State.safStops s sto ss1).ports = s.ports ∧
    (State.safStops s sto ss1).segs = s.segs ∧
    (State.safStops s sto ss1).opening = s.opening ∧
    (State.safStops s sto ss1).fbs = s.fbs ∧
    (State.safStops s sto ss1).steps = s.steps ∧
    (State.safStops s sto ss1).line = s.line ∧
    (State.safStops s sto ss1).moves = s.moves ∧
    (State.safStops s sto ss1).arb = s.arb ∧
    (State.safStops s sto ss1).groups = s.groups ∧
    (State.safStops s sto ss1).eng = s.eng ∧
    (State.safStops s sto ss1).saf = s.saf ∧
    (State.safStops s sto ss1).die = s.die ∧
    (State.safStops s sto ss1).fld = s.fld ∧
    (State.safStops s sto ss1).twin = s.twin ∧
    (State.safStops s sto ss1).scs = s.scs ∧
    (State.safStops s sto ss1).time = s.time ∧
    (State.safStops s sto ss1).host.keys = s.host.keys ∧
    (State.safStops s sto ss1).host.parQueue = s.host.parQueue := by
  generalize hT : State.safStops s sto ss1 = res
  unfold State.safStops at hT
  try dsimp only at hT
  repeat' split at hT
  all_goals subst hT
  all_goals (try simp)
  all_goals (repeat' split)
  all_goals (try simp)

@[simp] theorem State.safStops_idents (s : State) (sto ss1 : Nat) : (State.safStops s sto ss1).idents = s.idents := by
  generalize hT : State.safStops s sto ss1 = res
  unfold State.safStops at hT
  try dsimp only at hT
  repeat' split at hT
  all_goals subst hT
  all_goals (try simp)
  all_goals (repeat' split)
  all_goals (try simp)
  all_goals (try rfl)
  all_goals (try exact State.idents_eq _ _ (by simp))
  all_goals (try simp [Session.ident])
  all_goals (try simp [Session.ident, State.session])
  all_goals (try simp [State.idents, State.session, Session.ident])

end Sys2Proof.Machine
end

