-- ==== Sys2Proof/Laws/FrameHostCmd.lean ====
section
/-! SUPPORT. What the operations of Machine/HostCmd.lean leave unchanged: one rule per operation. -/

namespace Sys2Proof.Machine

@[simp] theorem State.unlog_frame (s : State) (c : CmdCtx) (op : Nat) :
    (State.unlog s c op).pending = s.pending ∧
    (State.unlog s c op).out = s.out ∧
    (State.unlog s c op).freeCtr = s.freeCtr ∧
    (State.unlog s c op).coreTicks = s.coreTicks ∧
    (State.unlog s c op).params = s.params ∧
    (State.unlog s c op).cyc = s.cyc ∧
    (State.unlog s c op).boot = s.boot ∧
    (State.unlog s c op).ports = s.ports ∧
    (State.unlog s c op).segs = s.segs ∧
    (State.unlog s c op).opening = s.opening ∧
    (State.unlog s c op).fbs = s.fbs ∧
    (State.unlog s c op).axes = s.axes ∧
    (State.unlog s c op).steps = s.steps ∧
    (State.unlog s c op).line = s.line ∧
    (State.unlog s c op).moves = s.moves ∧
    (State.unlog s c op).arb = s.arb ∧
    (State.unlog s c op).groups = s.groups ∧
    (State.unlog s c op).eng = s.eng ∧
    (State.unlog s c op).saf = s.saf ∧
    (State.unlog s c op).die = s.die ∧
    (State.unlog s c op).fld = s.fld ∧
    (State.unlog s c op).scs = s.scs ∧
    (State.unlog s c op).time = s.time ∧
    (State.unlog s c op).host = s.host ∧
    (State.unlog s c op).twin.standby = s.twin.standby ∧
    (State.unlog s c op).twin.onMove = s.twin.onMove := by
  generalize hT : State.unlog s c op = res
  unfold State.unlog at hT
  try dsimp only at hT
  repeat' split at hT
  all_goals subst hT
  all_goals (try simp)
  all_goals (repeat' split)
  all_goals (try simp)

@[simp] theorem State.unlog_idents (s : State) (c : CmdCtx) (op : Nat) : (State.unlog s c op).idents = s.idents := State.idents_eq _ _ (by simp)

@[simp] theorem State.setPlantQueue_frame (s : State) (p : Nat) (q : List (List Byte)) :
    (State.setPlantQueue s p q).pending = s.pending ∧
    (State.setPlantQueue s p q).out = s.out ∧
    (State.setPlantQueue s p q).freeCtr = s.freeCtr ∧
    (State.setPlantQueue s p q).coreTicks = s.coreTicks ∧
    (State.setPlantQueue s p q).params = s.params ∧
    (State.setPlantQueue s p q).cyc = s.cyc ∧
    (State.setPlantQueue s p q).boot = s.boot ∧
    (State.setPlantQueue s p q).ports = s.ports ∧
    (State.setPlantQueue s p q).segs = s.segs ∧
    (State.setPlantQueue s p q).opening = s.opening ∧
    (State.setPlantQueue s p q).fbs = s.fbs ∧
    (State.setPlantQueue s p q).axes = s.axes ∧
    (State.setPlantQueue s p q).steps = s.steps ∧
    (State.setPlantQueue s p q).line = s.line ∧
    (State.setPlantQueue s p q).moves = s.moves ∧
    (State.setPlantQueue s p q).arb = s.arb ∧
    (State.setPlantQueue s p q).groups = s.groups ∧
    (State.setPlantQueue s p q).eng = s.eng ∧
    (State.setPlantQueue s p q).saf = s.saf ∧
    (State.setPlantQueue s p q).die = s.die ∧
    (State.setPlantQueue s p q).fld = s.fld ∧
    (State.setPlantQueue s p q).twin = s.twin ∧
    (State.setPlantQueue s p q).scs = s.scs ∧
    (State.setPlantQueue s p q).time = s.time ∧
    (State.setPlantQueue s p q).host.keys = s.host.keys ∧
    (State.setPlantQueue s p q).host.parQueue = s.host.parQueue := by
  generalize hT : State.setPlantQueue s p q = res
  unfold State.setPlantQueue at hT
  try dsimp only at hT
  repeat' split at hT
  all_goals subst hT
  all_goals (try simp)
  all_goals (repeat' split)
  all_goals (try simp)

@[simp] theorem State.setPlantQueue_idents (s : State) (p : Nat) (q : List (List Byte)) : (State.setPlantQueue s p q).idents = s.idents := by
  generalize hT : State.setPlantQueue s p q = res
  unfold State.setPlantQueue at hT
  try dsimp only at hT
  repeat' split at hT
  all_goals subst hT
  all_goals (try simp)
  all_goals (repeat' split)
  all_goals (try simp)
  all_goals (try rfl)
  all_goals (try exact State.idents_eq _ _ (by simp))
  all_goals (try simp [Session.ident])
  all_goals (try simp [Session.ident, State.session])
  all_goals (try simp [State.idents, State.session, Session.ident])

@[simp] theorem State.takeUp_frame (s : State) (c : CmdCtx) :
    (State.takeUp s c).pending = s.pending ∧
    (State.takeUp s c).out = s.out ∧
    (State.takeUp s c).freeCtr = s.freeCtr ∧
    (State.takeUp s c).coreTicks = s.coreTicks ∧
    (State.takeUp s c).params = s.params ∧
    (State.takeUp s c).cyc = s.cyc ∧
    (State.takeUp s c).boot = s.boot ∧
    (State.takeUp s c).ports = s.ports ∧
    (State.takeUp s c).segs = s.segs ∧
    (State.takeUp s c).opening = s.opening ∧
    (State.takeUp s c).fbs = s.fbs ∧
    (State.takeUp s c).axes = s.axes ∧
    (State.takeUp s c).steps = s.steps ∧
    (State.takeUp s c).line = s.line ∧
    (State.takeUp s c).moves = s.moves ∧
    (State.takeUp s c).arb = s.arb ∧
    (State.takeUp s c).groups = s.groups ∧
    (State.takeUp s c).eng = s.eng ∧
    (State.takeUp s c).saf = s.saf ∧
    (State.takeUp s c).die = s.die ∧
    (State.takeUp s c).fld = s.fld ∧
    (State.takeUp s c).twin = s.twin ∧
    (State.takeUp s c).scs = s.scs ∧
    (State.takeUp s c).time = s.time ∧
    (State.takeUp s c).host.keys = s.host.keys ∧
    (State.takeUp s c).host.parQueue = s.host.parQueue := by
  generalize hT : State.takeUp s c = res
  unfold State.takeUp at hT
  try dsimp only at hT
  repeat' split at hT
  all_goals subst hT
  all_goals (try simp)
  all_goals (repeat' split)
  all_goals (try simp)

@[simp] theorem State.takeUp_idents (s : State) (c : CmdCtx) : (State.takeUp s c).idents = s.idents := by
  generalize hT : State.takeUp s c = res
  unfold State.takeUp at hT
  try dsimp only at hT
  repeat' split at hT
  all_goals subst hT
  all_goals (try simp)
  all_goals (repeat' split)
  all_goals (try simp)
  all_goals (try rfl)
  all_goals (try exact State.idents_eq _ _ (by simp))
  all_goals (try simp [Session.ident])
  all_goals (try simp [Session.ident, State.session])
  all_goals (try simp [State.idents, State.session, Session.ident])

@[simp] theorem State.holdCommand_frame (s : State) (c : CmdCtx) (i : Instr) :
    (State.holdCommand s c i).pending = s.pending ∧
    (State.holdCommand s c i).out = s.out ∧
    (State.holdCommand s c i).freeCtr = s.freeCtr ∧
    (State.holdCommand s c i).coreTicks = s.coreTicks ∧
    (State.holdCommand s c i).params = s.params ∧
    (State.holdCommand s c i).cyc = s.cyc ∧
    (State.holdCommand s c i).boot = s.boot ∧
    (State.holdCommand s c i).ports = s.ports ∧
    (State.holdCommand s c i).segs = s.segs ∧
    (State.holdCommand s c i).opening = s.opening ∧
    (State.holdCommand s c i).fbs = s.fbs ∧
    (State.holdCommand s c i).axes = s.axes ∧
    (State.holdCommand s c i).steps = s.steps ∧
    (State.holdCommand s c i).line = s.line ∧
    (State.holdCommand s c i).moves = s.moves ∧
    (State.holdCommand s c i).arb = s.arb ∧
    (State.holdCommand s c i).groups = s.groups ∧
    (State.holdCommand s c i).eng = s.eng ∧
    (State.holdCommand s c i).saf = s.saf ∧
    (State.holdCommand s c i).die = s.die ∧
    (State.holdCommand s c i).fld = s.fld ∧
    (State.holdCommand s c i).twin = s.twin ∧
    (State.holdCommand s c i).scs = s.scs ∧
    (State.holdCommand s c i).time = s.time ∧
    (State.holdCommand s c i).host.keys = s.host.keys ∧
    (State.holdCommand s c i).host.parQueue = s.host.parQueue := by
  generalize hT : State.holdCommand s c i = res
  unfold State.holdCommand at hT
  try dsimp only at hT
  repeat' split at hT
  all_goals subst hT
  all_goals (try simp)
  all_goals (repeat' split)
  all_goals (try simp)

@[simp] theorem State.holdCommand_idents (s : State) (c : CmdCtx) (i : Instr) : (State.holdCommand s c i).idents = s.idents := by
  generalize hT : State.holdCommand s c i = res
  unfold State.holdCommand at hT
  try dsimp only at hT
  repeat' split at hT
  all_goals subst hT
  all_goals (try simp)
  all_goals (repeat' split)
  all_goals (try simp)
  all_goals (try rfl)
  all_goals (try exact State.idents_eq _ _ (by simp))
  all_goals (try simp [Session.ident])
  all_goals (try simp [Session.ident, State.session])
  all_goals (try simp [State.idents, State.session, Session.ident])

@[simp] theorem State.replyLater_frame (s : State) (c : CmdCtx) (op status : Nat) (data : List Byte) :
    (State.replyLater s c op status data).pending = s.pending ∧
    (State.replyLater s c op status data).freeCtr = s.freeCtr ∧
    (State.replyLater s c op status data).coreTicks = s.coreTicks ∧
    (State.replyLater s c op status data).params = s.params ∧
    (State.replyLater s c op status data).cyc = s.cyc ∧
    (State.replyLater s c op status data).boot = s.boot ∧
    (State.replyLater s c op status data).ports = s.ports ∧
    (State.replyLater s c op status data).segs = s.segs ∧
    (State.replyLater s c op status data).opening = s.opening ∧
    (State.replyLater s c op status data).fbs = s.fbs ∧
    (State.replyLater s c op status data).axes = s.axes ∧
    (State.replyLater s c op status data).steps = s.steps ∧
    (State.replyLater s c op status data).line = s.line ∧
    (State.replyLater s c op status data).moves = s.moves ∧
    (State.replyLater s c op status data).arb = s.arb ∧
    (State.replyLater s c op status data).groups = s.groups ∧
    (State.replyLater s c op status data).eng = s.eng ∧
    (State.replyLater s c op status data).saf = s.saf ∧
    (State.replyLater s c op status data).die = s.die ∧
    (State.replyLater s c op status data).fld = s.fld ∧
    (State.replyLater s c op status data).twin = s.twin ∧
    (State.replyLater s c op status data).scs = s.scs ∧
    (State.replyLater s c op status data).time = s.time ∧
    (State.replyLater s c op status data).host.keys = s.host.keys ∧
    (State.replyLater s c op status data).host.parQueue = s.host.parQueue := by
  generalize hT : State.replyLater s c op status data = res
  unfold State.replyLater at hT
  try dsimp only at hT
  repeat' split at hT
  all_goals subst hT
  all_goals (try simp)
  all_goals (repeat' split)
  all_goals (try simp)

@[simp] theorem State.replyLater_idents (s : State) (c : CmdCtx) (op status : Nat) (data : List Byte) : (State.replyLater s c op status data).idents = s.idents := by
  generalize hT : State.replyLater s c op status data = res
  unfold State.replyLater at hT
  try dsimp only at hT
  repeat' split at hT
  all_goals subst hT
  all_goals (try simp)
  all_goals (repeat' split)
  all_goals (try simp)
  all_goals (try rfl)
  all_goals (try exact State.idents_eq _ _ (by simp))
  all_goals (try simp [Session.ident])
  all_goals (try simp [Session.ident, State.session])
  all_goals (try simp [State.idents, State.session, Session.ident])

@[simp] theorem State.queuePar_frame (s : State) (c : CmdCtx) (id : Nat) (v : Int) :
    (State.queuePar s c id v).pending = s.pending ∧
    (State.queuePar s c id v).out = s.out ∧
    (State.queuePar s c id v).freeCtr = s.freeCtr ∧
    (State.queuePar s c id v).coreTicks = s.coreTicks ∧
    (State.queuePar s c id v).params = s.params ∧
    (State.queuePar s c id v).cyc = s.cyc ∧
    (State.queuePar s c id v).boot = s.boot ∧
    (State.queuePar s c id v).ports = s.ports ∧
    (State.queuePar s c id v).segs = s.segs ∧
    (State.queuePar s c id v).opening = s.opening ∧
    (State.queuePar s c id v).fbs = s.fbs ∧
    (State.queuePar s c id v).axes = s.axes ∧
    (State.queuePar s c id v).steps = s.steps ∧
    (State.queuePar s c id v).line = s.line ∧
    (State.queuePar s c id v).moves = s.moves ∧
    (State.queuePar s c id v).arb = s.arb ∧
    (State.queuePar s c id v).groups = s.groups ∧
    (State.queuePar s c id v).eng = s.eng ∧
    (State.queuePar s c id v).saf = s.saf ∧
    (State.queuePar s c id v).die = s.die ∧
    (State.queuePar s c id v).fld = s.fld ∧
    (State.queuePar s c id v).twin = s.twin ∧
    (State.queuePar s c id v).scs = s.scs ∧
    (State.queuePar s c id v).time = s.time ∧
    (State.queuePar s c id v).host.keys = s.host.keys := by
  generalize hT : State.queuePar s c id v = res
  unfold State.queuePar at hT
  try dsimp only at hT
  repeat' split at hT
  all_goals subst hT
  all_goals (try simp)
  all_goals (repeat' split)
  all_goals (try simp)

@[simp] theorem State.queuePar_idents (s : State) (c : CmdCtx) (id : Nat) (v : Int) : (State.queuePar s c id v).idents = s.idents := by
  generalize hT : State.queuePar s c id v = res
  unfold State.queuePar at hT
  try dsimp only at hT
  repeat' split at hT
  all_goals subst hT
  all_goals (try simp)
  all_goals (repeat' split)
  all_goals (try simp)
  all_goals (try rfl)
  all_goals (try exact State.idents_eq _ _ (by simp))
  all_goals (try simp [Session.ident])
  all_goals (try simp [Session.ident, State.session])
  all_goals (try simp [State.idents, State.session, Session.ident])

end Sys2Proof.Machine
end

