-- ==== Sys2Proof/Laws/FrameFrame.lean ====
section
/-! SUPPORT. What the operations of Machine/Frame.lean leave unchanged: one rule per operation. -/

namespace Sys2Proof.Machine

@[simp] theorem State.countRx_frame (s : State) (p : Nat) (r : Rx) :
    (State.countRx s p r).pending = s.pending ∧
    (State.countRx s p r).out = s.out ∧
    (State.countRx s p r).freeCtr = s.freeCtr ∧
    (State.countRx s p r).coreTicks = s.coreTicks ∧
    (State.countRx s p r).params = s.params ∧
    (State.countRx s p r).cyc = s.cyc ∧
    (State.countRx s p r).boot = s.boot ∧
    (State.countRx s p r).segs = s.segs ∧
    (State.countRx s p r).opening = s.opening ∧
    (State.countRx s p r).fbs = s.fbs ∧
    (State.countRx s p r).axes = s.axes ∧
    (State.countRx s p r).steps = s.steps ∧
    (State.countRx s p r).line = s.line ∧
    (State.countRx s p r).moves = s.moves ∧
    (State.countRx s p r).arb = s.arb ∧
    (State.countRx s p r).groups = s.groups ∧
    (State.countRx s p r).eng = s.eng ∧
    (State.countRx s p r).saf = s.saf ∧
    (State.countRx s p r).die = s.die ∧
    (State.countRx s p r).fld = s.fld ∧
    (State.countRx s p r).twin = s.twin ∧
    (State.countRx s p r).scs = s.scs ∧
    (State.countRx s p r).time = s.time ∧
    (State.countRx s p r).host = s.host := by
  generalize hT : State.countRx s p r = res
  unfold State.countRx at hT
  try dsimp only at hT
  repeat' split at hT
  all_goals subst hT
  all_goals (try simp)
  all_goals (repeat' split)
  all_goals (try simp)

@[simp] theorem State.countRx_idents (s : State) (p : Nat) (r : Rx) : (State.countRx s p r).idents = s.idents := State.idents_eq _ _ (by simp)

@[simp] theorem State.seeLoop_frame (s : State) (f : RxFrame) :
    (State.seeLoop s f).pending = s.pending ∧
    (State.seeLoop s f).out = s.out ∧
    (State.seeLoop s f).freeCtr = s.freeCtr ∧
    (State.seeLoop s f).coreTicks = s.coreTicks ∧
    (State.seeLoop s f).params = s.params ∧
    (State.seeLoop s f).cyc = s.cyc ∧
    (State.seeLoop s f).boot = s.boot ∧
    (State.seeLoop s f).segs = s.segs ∧
    (State.seeLoop s f).opening = s.opening ∧
    (State.seeLoop s f).fbs = s.fbs ∧
    (State.seeLoop s f).axes = s.axes ∧
    (State.seeLoop s f).steps = s.steps ∧
    (State.seeLoop s f).line = s.line ∧
    (State.seeLoop s f).moves = s.moves ∧
    (State.seeLoop s f).arb = s.arb ∧
    (State.seeLoop s f).groups = s.groups ∧
    (State.seeLoop s f).eng = s.eng ∧
    (State.seeLoop s f).saf = s.saf ∧
    (State.seeLoop s f).die = s.die ∧
    (State.seeLoop s f).fld = s.fld ∧
    (State.seeLoop s f).twin = s.twin ∧
    (State.seeLoop s f).scs = s.scs ∧
    (State.seeLoop s f).time = s.time ∧
    (State.seeLoop s f).host = s.host := by
  generalize hT : State.seeLoop s f = res
  unfold State.seeLoop at hT
  try dsimp only at hT
  repeat' split at hT
  all_goals subst hT
  all_goals (try simp)
  all_goals (repeat' split)
  all_goals (try simp)

@[simp] theorem State.seeLoop_idents (s : State) (f : RxFrame) : (State.seeLoop s f).idents = s.idents := State.idents_eq _ _ (by simp)

@[simp] theorem State.edgeViolation_frame (s : State) (n : Nat) (r : SlotRec) :
    (State.edgeViolation s n r).pending = s.pending ∧
    (State.edgeViolation s n r).out = s.out ∧
    (State.edgeViolation s n r).freeCtr = s.freeCtr ∧
    (State.edgeViolation s n r).coreTicks = s.coreTicks ∧
    (State.edgeViolation s n r).params = s.params ∧
    (State.edgeViolation s n r).cyc = s.cyc ∧
    (State.edgeViolation s n r).boot = s.boot ∧
    (State.edgeViolation s n r).ports = s.ports ∧
    (State.edgeViolation s n r).opening = s.opening ∧
    (State.edgeViolation s n r).fbs = s.fbs ∧
    (State.edgeViolation s n r).axes = s.axes ∧
    (State.edgeViolation s n r).steps = s.steps ∧
    (State.edgeViolation s n r).line = s.line ∧
    (State.edgeViolation s n r).moves = s.moves ∧
    (State.edgeViolation s n r).arb = s.arb ∧
    (State.edgeViolation s n r).groups = s.groups ∧
    (State.edgeViolation s n r).eng = s.eng ∧
    (State.edgeViolation s n r).saf = s.saf ∧
    (State.edgeViolation s n r).die = s.die ∧
    (State.edgeViolation s n r).fld = s.fld ∧
    (State.edgeViolation s n r).twin = s.twin ∧
    (State.edgeViolation s n r).scs = s.scs ∧
    (State.edgeViolation s n r).time = s.time ∧
    (State.edgeViolation s n r).host = s.host := by
  generalize hT : State.edgeViolation s n r = res
  unfold State.edgeViolation at hT
  try dsimp only at hT
  repeat' split at hT
  all_goals subst hT
  all_goals (try simp)
  all_goals (repeat' split)
  all_goals (try simp)

@[simp] theorem State.edgeViolation_idents (s : State) (n : Nat) (r : SlotRec) : (State.edgeViolation s n r).idents = s.idents := State.idents_eq _ _ (by simp)

@[simp] theorem State.countVerdict_frame (s0 : State) (f : RxFrame) (v : Verdict) :
    (State.countVerdict s0 f v).pending = s0.pending ∧
    (State.countVerdict s0 f v).out = s0.out ∧
    (State.countVerdict s0 f v).freeCtr = s0.freeCtr ∧
    (State.countVerdict s0 f v).coreTicks = s0.coreTicks ∧
    (State.countVerdict s0 f v).params = s0.params ∧
    (State.countVerdict s0 f v).cyc = s0.cyc ∧
    (State.countVerdict s0 f v).boot = s0.boot ∧
    (State.countVerdict s0 f v).opening = s0.opening ∧
    (State.countVerdict s0 f v).fbs = s0.fbs ∧
    (State.countVerdict s0 f v).axes = s0.axes ∧
    (State.countVerdict s0 f v).steps = s0.steps ∧
    (State.countVerdict s0 f v).line = s0.line ∧
    (State.countVerdict s0 f v).moves = s0.moves ∧
    (State.countVerdict s0 f v).arb = s0.arb ∧
    (State.countVerdict s0 f v).groups = s0.groups ∧
    (State.countVerdict s0 f v).eng = s0.eng ∧
    (State.countVerdict s0 f v).saf = s0.saf ∧
    (State.countVerdict s0 f v).die = s0.die ∧
    (State.countVerdict s0 f v).fld = s0.fld ∧
    (State.countVerdict s0 f v).twin = s0.twin ∧
    (State.countVerdict s0 f v).scs = s0.scs ∧
    (State.countVerdict s0 f v).time = s0.time ∧
    (State.countVerdict s0 f v).host = s0.host := by
  generalize hT : State.countVerdict s0 f v = res
  unfold State.countVerdict at hT
  try dsimp only at hT
  repeat' split at hT
  all_goals subst hT
  all_goals (try simp)
  all_goals (repeat' split)
  all_goals (try simp)

@[simp] theorem State.countVerdict_idents (s0 : State) (f : RxFrame) (v : Verdict) : (State.countVerdict s0 f v).idents = s0.idents := State.idents_eq _ _ (by simp)

@[simp] theorem State.storeImage_frame (s : State) (n : Nat) (r : SlotRec) (k : Int) (age : Nat) (pl : List Byte) :
    (State.storeImage s n r k age pl).pending = s.pending ∧
    (State.storeImage s n r k age pl).out = s.out ∧
    (State.storeImage s n r k age pl).freeCtr = s.freeCtr ∧
    (State.storeImage s n r k age pl).coreTicks = s.coreTicks ∧
    (State.storeImage s n r k age pl).params = s.params ∧
    (State.storeImage s n r k age pl).cyc = s.cyc ∧
    (State.storeImage s n r k age pl).boot = s.boot ∧
    (State.storeImage s n r k age pl).ports = s.ports ∧
    (State.storeImage s n r k age pl).opening = s.opening ∧
    (State.storeImage s n r k age pl).fbs = s.fbs ∧
    (State.storeImage s n r k age pl).axes = s.axes ∧
    (State.storeImage s n r k age pl).steps = s.steps ∧
    (State.storeImage s n r k age pl).line = s.line ∧
    (State.storeImage s n r k age pl).moves = s.moves ∧
    (State.storeImage s n r k age pl).arb = s.arb ∧
    (State.storeImage s n r k age pl).groups = s.groups ∧
    (State.storeImage s n r k age pl).eng = s.eng ∧
    (State.storeImage s n r k age pl).saf = s.saf ∧
    (State.storeImage s n r k age pl).die = s.die ∧
    (State.storeImage s n r k age pl).fld = s.fld ∧
    (State.storeImage s n r k age pl).twin = s.twin ∧
    (State.storeImage s n r k age pl).scs = s.scs ∧
    (State.storeImage s n r k age pl).time = s.time ∧
    (State.storeImage s n r k age pl).host = s.host := by
  generalize hT : State.storeImage s n r k age pl = res
  unfold State.storeImage at hT
  try dsimp only at hT
  repeat' split at hT
  all_goals subst hT
  all_goals (try simp)
  all_goals (repeat' split)
  all_goals (try simp)

@[simp] theorem State.storeImage_idents (s : State) (n : Nat) (r : SlotRec) (k : Int) (age : Nat) (pl : List Byte) : (State.storeImage s n r k age pl).idents = s.idents := State.idents_eq _ _ (by simp)

@[simp] theorem State.dropWait_frame (s : State) (n : Nat) (r : SlotRec) (m : Nat) :
    (State.dropWait s n r m).pending = s.pending ∧
    (State.dropWait s n r m).out = s.out ∧
    (State.dropWait s n r m).freeCtr = s.freeCtr ∧
    (State.dropWait s n r m).coreTicks = s.coreTicks ∧
    (State.dropWait s n r m).params = s.params ∧
    (State.dropWait s n r m).cyc = s.cyc ∧
    (State.dropWait s n r m).boot = s.boot ∧
    (State.dropWait s n r m).ports = s.ports ∧
    (State.dropWait s n r m).opening = s.opening ∧
    (State.dropWait s n r m).fbs = s.fbs ∧
    (State.dropWait s n r m).axes = s.axes ∧
    (State.dropWait s n r m).steps = s.steps ∧
    (State.dropWait s n r m).line = s.line ∧
    (State.dropWait s n r m).moves = s.moves ∧
    (State.dropWait s n r m).arb = s.arb ∧
    (State.dropWait s n r m).groups = s.groups ∧
    (State.dropWait s n r m).eng = s.eng ∧
    (State.dropWait s n r m).saf = s.saf ∧
    (State.dropWait s n r m).die = s.die ∧
    (State.dropWait s n r m).fld = s.fld ∧
    (State.dropWait s n r m).twin = s.twin ∧
    (State.dropWait s n r m).scs = s.scs ∧
    (State.dropWait s n r m).time = s.time ∧
    (State.dropWait s n r m).host = s.host := by
  generalize hT : State.dropWait s n r m = res
  unfold State.dropWait at hT
  try dsimp only at hT
  repeat' split at hT
  all_goals subst hT
  all_goals (try simp)
  all_goals (repeat' split)
  all_goals (try simp)

@[simp] theorem State.dropWait_idents (s : State) (n : Nat) (r : SlotRec) (m : Nat) : (State.dropWait s n r m).idents = s.idents := State.idents_eq _ _ (by simp)

@[simp] theorem State.sendFrame_frame (s : State) (p : Nat) (bytes : List Byte) :
    (State.sendFrame s p bytes).pending = s.pending ∧
    (State.sendFrame s p bytes).params = s.params ∧
    (State.sendFrame s p bytes).cyc = s.cyc ∧
    (State.sendFrame s p bytes).boot = s.boot ∧
    (State.sendFrame s p bytes).ports = s.ports ∧
    (State.sendFrame s p bytes).segs = s.segs ∧
    (State.sendFrame s p bytes).opening = s.opening ∧
    (State.sendFrame s p bytes).fbs = s.fbs ∧
    (State.sendFrame s p bytes).steps = s.steps ∧
    (State.sendFrame s p bytes).moves = s.moves ∧
    (State.sendFrame s p bytes).arb = s.arb ∧
    (State.sendFrame s p bytes).groups = s.groups ∧
    (State.sendFrame s p bytes).saf = s.saf ∧
    (State.sendFrame s p bytes).die = s.die ∧
    (State.sendFrame s p bytes).fld = s.fld ∧
    (State.sendFrame s p bytes).twin = s.twin ∧
    (State.sendFrame s p bytes).scs = s.scs ∧
    (State.sendFrame s p bytes).host.keys = s.host.keys ∧
    (State.sendFrame s p bytes).host.parQueue = s.host.parQueue := by
  generalize hT : State.sendFrame s p bytes = res
  unfold State.sendFrame at hT
  try dsimp only at hT
  repeat' split at hT
  all_goals subst hT
  all_goals (try simp)
  all_goals (repeat' split)
  all_goals (try simp)

@[simp] theorem State.sendFrame_idents (s : State) (p : Nat) (bytes : List Byte) : (State.sendFrame s p bytes).idents = s.idents := by
  generalize hT : State.sendFrame s p bytes = res
  unfold State.sendFrame at hT
  try dsimp only at hT
  repeat' split at hT
  all_goals subst hT
  all_goals (try simp)
  all_goals (repeat' split)
  all_goals (try simp)
  all_goals (try rfl)
  all_goals (try exact State.idents_eq _ _ (by simp))
  all_goals (try simp [Session.ident])
  all_goals (try simp [Session.ident, State.session])
  all_goals (try simp [State.idents, State.session, Session.ident])

@[simp] theorem State.sendAbort_frame (s : State) (p : Nat) (bytes : List Byte) :
    (State.sendAbort s p bytes).pending = s.pending ∧
    (State.sendAbort s p bytes).params = s.params ∧
    (State.sendAbort s p bytes).cyc = s.cyc ∧
    (State.sendAbort s p bytes).boot = s.boot ∧
    (State.sendAbort s p bytes).ports = s.ports ∧
    (State.sendAbort s p bytes).segs = s.segs ∧
    (State.sendAbort s p bytes).opening = s.opening ∧
    (State.sendAbort s p bytes).fbs = s.fbs ∧
    (State.sendAbort s p bytes).steps = s.steps ∧
    (State.sendAbort s p bytes).moves = s.moves ∧
    (State.sendAbort s p bytes).arb = s.arb ∧
    (State.sendAbort s p bytes).groups = s.groups ∧
    (State.sendAbort s p bytes).saf = s.saf ∧
    (State.sendAbort s p bytes).die = s.die ∧
    (State.sendAbort s p bytes).fld = s.fld ∧
    (State.sendAbort s p bytes).twin = s.twin ∧
    (State.sendAbort s p bytes).scs = s.scs ∧
    (State.sendAbort s p bytes).host.keys = s.host.keys ∧
    (State.sendAbort s p bytes).host.parQueue = s.host.parQueue := by
  generalize hT : State.sendAbort s p bytes = res
  unfold State.sendAbort at hT
  try dsimp only at hT
  repeat' split at hT
  all_goals subst hT
  all_goals (try simp)
  all_goals (repeat' split)
  all_goals (try simp)

@[simp] theorem State.sendAbort_idents (s : State) (p : Nat) (bytes : List Byte) : (State.sendAbort s p bytes).idents = s.idents := by
  generalize hT : State.sendAbort s p bytes = res
  unfold State.sendAbort at hT
  try dsimp only at hT
  repeat' split at hT
  all_goals subst hT
  all_goals (try simp)
  all_goals (repeat' split)
  all_goals (try simp)
  all_goals (try rfl)
  all_goals (try exact State.idents_eq _ _ (by simp))
  all_goals (try simp [Session.ident])
  all_goals (try simp [Session.ident, State.session])
  all_goals (try simp [State.idents, State.session, Session.ident])

@[simp] theorem State.passing_frame (s : State) (f : RxFrame) :
    (State.passing s f).pending = s.pending ∧
    (State.passing s f).out = s.out ∧
    (State.passing s f).freeCtr = s.freeCtr ∧
    (State.passing s f).coreTicks = s.coreTicks ∧
    (State.passing s f).params = s.params ∧
    (State.passing s f).cyc = s.cyc ∧
    (State.passing s f).boot = s.boot ∧
    (State.passing s f).opening = s.opening ∧
    (State.passing s f).fbs = s.fbs ∧
    (State.passing s f).axes = s.axes ∧
    (State.passing s f).steps = s.steps ∧
    (State.passing s f).line = s.line ∧
    (State.passing s f).moves = s.moves ∧
    (State.passing s f).arb = s.arb ∧
    (State.passing s f).groups = s.groups ∧
    (State.passing s f).eng = s.eng ∧
    (State.passing s f).saf = s.saf ∧
    (State.passing s f).die = s.die ∧
    (State.passing s f).fld = s.fld ∧
    (State.passing s f).twin = s.twin ∧
    (State.passing s f).scs = s.scs ∧
    (State.passing s f).time = s.time ∧
    (State.passing s f).host = s.host := by
  generalize hT : State.passing s f = res
  unfold State.passing at hT
  try dsimp only at hT
  repeat' split at hT
  all_goals subst hT
  all_goals (try simp)
  all_goals (repeat' split)
  all_goals (try simp)

@[simp] theorem State.passing_idents (s : State) (f : RxFrame) : (State.passing s f).idents = s.idents := State.idents_eq _ _ (by simp)

@[simp] theorem State.relay_frame (s0 : State) (f : RxFrame) :
    (State.relay s0 f).pending = s0.pending ∧
    (State.relay s0 f).params = s0.params ∧
    (State.relay s0 f).cyc = s0.cyc ∧
    (State.relay s0 f).boot = s0.boot ∧
    (State.relay s0 f).opening = s0.opening ∧
    (State.relay s0 f).fbs = s0.fbs ∧
    (State.relay s0 f).steps = s0.steps ∧
    (State.relay s0 f).moves = s0.moves ∧
    (State.relay s0 f).arb = s0.arb ∧
    (State.relay s0 f).groups = s0.groups ∧
    (State.relay s0 f).saf = s0.saf ∧
    (State.relay s0 f).die = s0.die ∧
    (State.relay s0 f).fld = s0.fld ∧
    (State.relay s0 f).twin = s0.twin ∧
    (State.relay s0 f).scs = s0.scs ∧
    (State.relay s0 f).host.keys = s0.host.keys ∧
    (State.relay s0 f).host.parQueue = s0.host.parQueue := by
  generalize hT : State.relay s0 f = res
  unfold State.relay at hT
  try dsimp only at hT
  repeat' split at hT
  all_goals subst hT
  all_goals (try simp)
  all_goals (repeat' split)
  all_goals (try simp)

@[simp] theorem State.relay_idents (s0 : State) (f : RxFrame) : (State.relay s0 f).idents = s0.idents := by
  generalize hT : State.relay s0 f = res
  unfold State.relay at hT
  try dsimp only at hT
  repeat' split at hT
  all_goals subst hT
  all_goals (try simp)
  all_goals (repeat' split)
  all_goals (try simp)
  all_goals (try rfl)
  all_goals (try exact State.idents_eq _ _ (by simp))
  all_goals (try simp [Session.ident])
  all_goals (try simp [Session.ident, State.session])
  all_goals (try simp [State.idents, State.session, Session.ident])

@[simp] theorem State.sendHead_frame (s : State) (n : Nat) (portB : Bool) (h : Hdr) (payload : List Byte) :
    (State.sendHead s n portB h payload).pending = s.pending ∧
    (State.sendHead s n portB h payload).params = s.params ∧
    (State.sendHead s n portB h payload).cyc = s.cyc ∧
    (State.sendHead s n portB h payload).boot = s.boot ∧
    (State.sendHead s n portB h payload).ports = s.ports ∧
    (State.sendHead s n portB h payload).segs = s.segs ∧
    (State.sendHead s n portB h payload).opening = s.opening ∧
    (State.sendHead s n portB h payload).fbs = s.fbs ∧
    (State.sendHead s n portB h payload).steps = s.steps ∧
    (State.sendHead s n portB h payload).moves = s.moves ∧
    (State.sendHead s n portB h payload).arb = s.arb ∧
    (State.sendHead s n portB h payload).groups = s.groups ∧
    (State.sendHead s n portB h payload).saf = s.saf ∧
    (State.sendHead s n portB h payload).die = s.die ∧
    (State.sendHead s n portB h payload).fld = s.fld ∧
    (State.sendHead s n portB h payload).twin = s.twin ∧
    (State.sendHead s n portB h payload).scs = s.scs ∧
    (State.sendHead s n portB h payload).host.keys = s.host.keys ∧
    (State.sendHead s n portB h payload).host.parQueue = s.host.parQueue := by
  generalize hT : State.sendHead s n portB h payload = res
  unfold State.sendHead at hT
  try dsimp only at hT
  repeat' split at hT
  all_goals subst hT
  all_goals (try simp)
  all_goals (repeat' split)
  all_goals (try simp)

@[simp] theorem State.sendHead_idents (s : State) (n : Nat) (portB : Bool) (h : Hdr) (payload : List Byte) : (State.sendHead s n portB h payload).idents = s.idents := by
  generalize hT : State.sendHead s n portB h payload = res
  unfold State.sendHead at hT
  try dsimp only at hT
  repeat' split at hT
  all_goals subst hT
  all_goals (try simp)
  all_goals (repeat' split)
  all_goals (try simp)
  all_goals (try rfl)
  all_goals (try exact State.idents_eq _ _ (by simp))
  all_goals (try simp [Session.ident])
  all_goals (try simp [Session.ident, State.session])
  all_goals (try simp [State.idents, State.session, Session.ident])

end Sys2Proof.Machine
end

