-- ==== Sys2Proof/Laws/FrameFeedbackOps.lean ====
section
/-! SUPPORT. What the operations of Machine/FeedbackOps.lean leave unchanged: one rule per operation. -/

namespace Sys2Proof.Machine

@[simp] theorem State.modOwnerObs_frame (s : State) (o : Owner) (f : Observer → Observer) :
    (State.modOwnerObs s o f).pending = s.pending ∧
    (State.modOwnerObs s o f).out = s.out ∧
    (State.modOwnerObs s o f).freeCtr = s.freeCtr ∧
    (State.modOwnerObs s o f).coreTicks = s.coreTicks ∧
    (State.modOwnerObs s o f).params = s.params ∧
    (State.modOwnerObs s o f).cyc = s.cyc ∧
    (State.modOwnerObs s o f).boot = s.boot ∧
    (State.modOwnerObs s o f).ports = s.ports ∧
    (State.modOwnerObs s o f).segs = s.segs ∧
    (State.modOwnerObs s o f).opening = s.opening ∧
    (State.modOwnerObs s o f).fbs = s.fbs ∧
    (State.modOwnerObs s o f).steps = s.steps ∧
    (State.modOwnerObs s o f).moves = s.moves ∧
    (State.modOwnerObs s o f).arb = s.arb ∧
    (State.modOwnerObs s o f).groups = s.groups ∧
    (State.modOwnerObs s o f).eng = s.eng ∧
    (State.modOwnerObs s o f).saf = s.saf ∧
    (State.modOwnerObs s o f).die = s.die ∧
    (State.modOwnerObs s o f).fld = s.fld ∧
    (State.modOwnerObs s o f).twin = s.twin ∧
    (State.modOwnerObs s o f).scs = s.scs ∧
    (State.modOwnerObs s o f).time = s.time ∧
    (State.modOwnerObs s o f).host = s.host := by
  generalize hT : State.modOwnerObs s o f = res
  unfold State.modOwnerObs at hT
  try dsimp only at hT
  repeat' split at hT
  all_goals subst hT
  all_goals (try simp)
  all_goals (repeat' split)
  all_goals (try simp)

@[simp] theorem State.modOwnerObs_idents (s : State) (o : Owner) (f : Observer → Observer) : (State.modOwnerObs s o f).idents = s.idents := State.idents_eq _ _ (by simp)

@[simp] theorem State.changeFb_frame (s : State) (n : Nat) (stamp : Int) (f : FbPort → FbPort) :
    (State.changeFb s n stamp f).pending = s.pending ∧
    (State.changeFb s n stamp f).out = s.out ∧
    (State.changeFb s n stamp f).freeCtr = s.freeCtr ∧
    (State.changeFb s n stamp f).coreTicks = s.coreTicks ∧
    (State.changeFb s n stamp f).params = s.params ∧
    (State.changeFb s n stamp f).cyc = s.cyc ∧
    (State.changeFb s n stamp f).boot = s.boot ∧
    (State.changeFb s n stamp f).ports = s.ports ∧
    (State.changeFb s n stamp f).segs = s.segs ∧
    (State.changeFb s n stamp f).opening = s.opening ∧
    (State.changeFb s n stamp f).axes = s.axes ∧
    (State.changeFb s n stamp f).steps = s.steps ∧
    (State.changeFb s n stamp f).line = s.line ∧
    (State.changeFb s n stamp f).moves = s.moves ∧
    (State.changeFb s n stamp f).arb = s.arb ∧
    (State.changeFb s n stamp f).groups = s.groups ∧
    (State.changeFb s n stamp f).eng = s.eng ∧
    (State.changeFb s n stamp f).saf = s.saf ∧
    (State.changeFb s n stamp f).die = s.die ∧
    (State.changeFb s n stamp f).fld = s.fld ∧
    (State.changeFb s n stamp f).twin = s.twin ∧
    (State.changeFb s n stamp f).scs = s.scs ∧
    (State.changeFb s n stamp f).time = s.time ∧
    (State.changeFb s n stamp f).host = s.host := by
  generalize hT : State.changeFb s n stamp f = res
  unfold State.changeFb at hT
  try dsimp only at hT
  repeat' split at hT
  all_goals subst hT
  all_goals (try simp)
  all_goals (repeat' split)
  all_goals (try simp)

@[simp] theorem State.changeFb_idents (s : State) (n : Nat) (stamp : Int) (f : FbPort → FbPort) : (State.changeFb s n stamp f).idents = s.idents := State.idents_eq _ _ (by simp)

@[simp] theorem State.latchAll_frame (s0 : State) :
    (State.latchAll s0).pending = s0.pending ∧
    (State.latchAll s0).out = s0.out ∧
    (State.latchAll s0).freeCtr = s0.freeCtr ∧
    (State.latchAll s0).coreTicks = s0.coreTicks ∧
    (State.latchAll s0).params = s0.params ∧
    (State.latchAll s0).cyc = s0.cyc ∧
    (State.latchAll s0).boot = s0.boot ∧
    (State.latchAll s0).ports = s0.ports ∧
    (State.latchAll s0).segs = s0.segs ∧
    (State.latchAll s0).opening = s0.opening ∧
    (State.latchAll s0).steps = s0.steps ∧
    (State.latchAll s0).moves = s0.moves ∧
    (State.latchAll s0).arb = s0.arb ∧
    (State.latchAll s0).groups = s0.groups ∧
    (State.latchAll s0).eng = s0.eng ∧
    (State.latchAll s0).saf = s0.saf ∧
    (State.latchAll s0).die = s0.die ∧
    (State.latchAll s0).fld = s0.fld ∧
    (State.latchAll s0).twin = s0.twin ∧
    (State.latchAll s0).scs = s0.scs ∧
    (State.latchAll s0).host = s0.host := by
  generalize hT : State.latchAll s0 = res
  unfold State.latchAll at hT
  try dsimp only at hT
  repeat' split at hT
  all_goals subst hT
  all_goals (try simp)
  all_goals (repeat' split)
  all_goals (try simp)

@[simp] theorem State.latchAll_idents (s0 : State) : (State.latchAll s0).idents = s0.idents := State.idents_eq _ _ (by simp)

@[simp] theorem State.driveClocks_frame (s : State) (on : Bool) :
    (State.driveClocks s on).pending = s.pending ∧
    (State.driveClocks s on).out = s.out ∧
    (State.driveClocks s on).freeCtr = s.freeCtr ∧
    (State.driveClocks s on).coreTicks = s.coreTicks ∧
    (State.driveClocks s on).params = s.params ∧
    (State.driveClocks s on).cyc = s.cyc ∧
    (State.driveClocks s on).boot = s.boot ∧
    (State.driveClocks s on).ports = s.ports ∧
    (State.driveClocks s on).segs = s.segs ∧
    (State.driveClocks s on).opening = s.opening ∧
    (State.driveClocks s on).axes = s.axes ∧
    (State.driveClocks s on).steps = s.steps ∧
    (State.driveClocks s on).line = s.line ∧
    (State.driveClocks s on).moves = s.moves ∧
    (State.driveClocks s on).arb = s.arb ∧
    (State.driveClocks s on).groups = s.groups ∧
    (State.driveClocks s on).eng = s.eng ∧
    (State.driveClocks s on).saf = s.saf ∧
    (State.driveClocks s on).die = s.die ∧
    (State.driveClocks s on).fld = s.fld ∧
    (State.driveClocks s on).twin = s.twin ∧
    (State.driveClocks s on).scs = s.scs ∧
    (State.driveClocks s on).time = s.time ∧
    (State.driveClocks s on).host = s.host := by
  generalize hT : State.driveClocks s on = res
  unfold State.driveClocks at hT
  try dsimp only at hT
  repeat' split at hT
  all_goals subst hT
  all_goals (try simp)
  all_goals (repeat' split)
  all_goals (try simp)

@[simp] theorem State.driveClocks_idents (s : State) (on : Bool) : (State.driveClocks s on).idents = s.idents := State.idents_eq _ _ (by simp)

@[simp] theorem State.phaseErr_frame (s : State) (n : Nat) (stamp : Int) (a b infer : Bool) :
    (State.phaseErr s n stamp a b infer).pending = s.pending ∧
    (State.phaseErr s n stamp a b infer).out = s.out ∧
    (State.phaseErr s n stamp a b infer).freeCtr = s.freeCtr ∧
    (State.phaseErr s n stamp a b infer).coreTicks = s.coreTicks ∧
    (State.phaseErr s n stamp a b infer).params = s.params ∧
    (State.phaseErr s n stamp a b infer).cyc = s.cyc ∧
    (State.phaseErr s n stamp a b infer).boot = s.boot ∧
    (State.phaseErr s n stamp a b infer).ports = s.ports ∧
    (State.phaseErr s n stamp a b infer).segs = s.segs ∧
    (State.phaseErr s n stamp a b infer).opening = s.opening ∧
    (State.phaseErr s n stamp a b infer).axes = s.axes ∧
    (State.phaseErr s n stamp a b infer).steps = s.steps ∧
    (State.phaseErr s n stamp a b infer).line = s.line ∧
    (State.phaseErr s n stamp a b infer).moves = s.moves ∧
    (State.phaseErr s n stamp a b infer).arb = s.arb ∧
    (State.phaseErr s n stamp a b infer).groups = s.groups ∧
    (State.phaseErr s n stamp a b infer).eng = s.eng ∧
    (State.phaseErr s n stamp a b infer).saf = s.saf ∧
    (State.phaseErr s n stamp a b infer).die = s.die ∧
    (State.phaseErr s n stamp a b infer).fld = s.fld ∧
    (State.phaseErr s n stamp a b infer).twin = s.twin ∧
    (State.phaseErr s n stamp a b infer).scs = s.scs ∧
    (State.phaseErr s n stamp a b infer).time = s.time ∧
    (State.phaseErr s n stamp a b infer).host = s.host := by
  generalize hT : State.phaseErr s n stamp a b infer = res
  unfold State.phaseErr at hT
  try dsimp only at hT
  repeat' split at hT
  all_goals subst hT
  all_goals (try simp)
  all_goals (repeat' split)
  all_goals (try simp)

@[simp] theorem State.phaseErr_idents (s : State) (n : Nat) (stamp : Int) (a b infer : Bool) : (State.phaseErr s n stamp a b infer).idents = s.idents := State.idents_eq _ _ (by simp)

end Sys2Proof.Machine
end

