-- ==== Sys2Proof/Laws/FrameLawOps.lean ====
section
/-! SUPPORT. What the operations of Machine/LawOps.lean leave unchanged: one rule per operation. -/

namespace Sys2Proof.Machine

@[simp] theorem State.setCtx_frame (s : State) (a off : Nat) (v : Int) :
    (State.setCtx s a off v).pending = s.pending ∧
    (State.setCtx s a off v).out = s.out ∧
    (State.setCtx s a off v).freeCtr = s.freeCtr ∧
    (State.setCtx s a off v).coreTicks = s.coreTicks ∧
    (State.setCtx s a off v).params = s.params ∧
    (State.setCtx s a off v).cyc = s.cyc ∧
    (State.setCtx s a off v).boot = s.boot ∧
    (State.setCtx s a off v).ports = s.ports ∧
    (State.setCtx s a off v).segs = s.segs ∧
    (State.setCtx s a off v).opening = s.opening ∧
    (State.setCtx s a off v).fbs = s.fbs ∧
    (State.setCtx s a off v).axes = s.axes ∧
    (State.setCtx s a off v).steps = s.steps ∧
    (State.setCtx s a off v).line = s.line ∧
    (State.setCtx s a off v).moves = s.moves ∧
    (State.setCtx s a off v).arb = s.arb ∧
    (State.setCtx s a off v).groups = s.groups ∧
    (State.setCtx s a off v).saf = s.saf ∧
    (State.setCtx s a off v).die = s.die ∧
    (State.setCtx s a off v).fld = s.fld ∧
    (State.setCtx s a off v).twin = s.twin ∧
    (State.setCtx s a off v).scs = s.scs ∧
    (State.setCtx s a off v).time = s.time ∧
    (State.setCtx s a off v).host = s.host := by
  generalize hT : State.setCtx s a off v = res
  unfold State.setCtx at hT
  try dsimp only at hT
  repeat' split at hT
  all_goals subst hT
  all_goals (try simp)
  all_goals (repeat' split)
  all_goals (try simp)

@[simp] theorem State.setCtx_idents (s : State) (a off : Nat) (v : Int) : (State.setCtx s a off v).idents = s.idents := State.idents_eq _ _ (by simp)

@[simp] theorem State.setCtxs_frame (s : State) (a off : Nat) (k0 : List Int) :
    (State.setCtxs s a off k0).pending = s.pending ∧
    (State.setCtxs s a off k0).out = s.out ∧
    (State.setCtxs s a off k0).freeCtr = s.freeCtr ∧
    (State.setCtxs s a off k0).coreTicks = s.coreTicks ∧
    (State.setCtxs s a off k0).params = s.params ∧
    (State.setCtxs s a off k0).cyc = s.cyc ∧
    (State.setCtxs s a off k0).boot = s.boot ∧
    (State.setCtxs s a off k0).ports = s.ports ∧
    (State.setCtxs s a off k0).segs = s.segs ∧
    (State.setCtxs s a off k0).opening = s.opening ∧
    (State.setCtxs s a off k0).fbs = s.fbs ∧
    (State.setCtxs s a off k0).axes = s.axes ∧
    (State.setCtxs s a off k0).steps = s.steps ∧
    (State.setCtxs s a off k0).line = s.line ∧
    (State.setCtxs s a off k0).moves = s.moves ∧
    (State.setCtxs s a off k0).arb = s.arb ∧
    (State.setCtxs s a off k0).groups = s.groups ∧
    (State.setCtxs s a off k0).saf = s.saf ∧
    (State.setCtxs s a off k0).die = s.die ∧
    (State.setCtxs s a off k0).fld = s.fld ∧
    (State.setCtxs s a off k0).twin = s.twin ∧
    (State.setCtxs s a off k0).scs = s.scs ∧
    (State.setCtxs s a off k0).time = s.time ∧
    (State.setCtxs s a off k0).host = s.host := by
  induction k0 generalizing s a off with
  | nil => simp [State.setCtxs]
  | cons x k0 ih =>
    generalize hT : State.setCtxs s a off (x :: k0) = res
    unfold State.setCtxs at hT
    try dsimp only at hT
    repeat' split at hT
    all_goals subst hT
    all_goals (try simp [ih])
    all_goals (repeat' split)
    all_goals (try simp [ih])

@[simp] theorem State.setCtxs_idents (s : State) (a off : Nat) (k0 : List Int) : (State.setCtxs s a off k0).idents = s.idents := State.idents_eq _ _ (by simp)

@[simp] theorem State.setUHist_frame (s : State) (a c : Nat) (v : Int) :
    (State.setUHist s a c v).pending = s.pending ∧
    (State.setUHist s a c v).out = s.out ∧
    (State.setUHist s a c v).freeCtr = s.freeCtr ∧
    (State.setUHist s a c v).coreTicks = s.coreTicks ∧
    (State.setUHist s a c v).params = s.params ∧
    (State.setUHist s a c v).cyc = s.cyc ∧
    (State.setUHist s a c v).boot = s.boot ∧
    (State.setUHist s a c v).ports = s.ports ∧
    (State.setUHist s a c v).segs = s.segs ∧
    (State.setUHist s a c v).opening = s.opening ∧
    (State.setUHist s a c v).fbs = s.fbs ∧
    (State.setUHist s a c v).axes = s.axes ∧
    (State.setUHist s a c v).steps = s.steps ∧
    (State.setUHist s a c v).line = s.line ∧
    (State.setUHist s a c v).moves = s.moves ∧
    (State.setUHist s a c v).arb = s.arb ∧
    (State.setUHist s a c v).groups = s.groups ∧
    (State.setUHist s a c v).saf = s.saf ∧
    (State.setUHist s a c v).die = s.die ∧
    (State.setUHist s a c v).fld = s.fld ∧
    (State.setUHist s a c v).twin = s.twin ∧
    (State.setUHist s a c v).scs = s.scs ∧
    (State.setUHist s a c v).time = s.time ∧
    (State.setUHist s a c v).host = s.host := by
  generalize hT : State.setUHist s a c v = res
  unfold State.setUHist at hT
  try dsimp only at hT
  repeat' split at hT
  all_goals subst hT
  all_goals (try simp)
  all_goals (repeat' split)
  all_goals (try simp)

@[simp] theorem State.setUHist_idents (s : State) (a c : Nat) (v : Int) : (State.setUHist s a c v).idents = s.idents := State.idents_eq _ _ (by simp)

@[simp] theorem State.setRHist_frame (s : State) (a c : Nat) (v : Int) :
    (State.setRHist s a c v).pending = s.pending ∧
    (State.setRHist s a c v).out = s.out ∧
    (State.setRHist s a c v).freeCtr = s.freeCtr ∧
    (State.setRHist s a c v).coreTicks = s.coreTicks ∧
    (State.setRHist s a c v).params = s.params ∧
    (State.setRHist s a c v).cyc = s.cyc ∧
    (State.setRHist s a c v).boot = s.boot ∧
    (State.setRHist s a c v).ports = s.ports ∧
    (State.setRHist s a c v).segs = s.segs ∧
    (State.setRHist s a c v).opening = s.opening ∧
    (State.setRHist s a c v).fbs = s.fbs ∧
    (State.setRHist s a c v).axes = s.axes ∧
    (State.setRHist s a c v).steps = s.steps ∧
    (State.setRHist s a c v).line = s.line ∧
    (State.setRHist s a c v).moves = s.moves ∧
    (State.setRHist s a c v).arb = s.arb ∧
    (State.setRHist s a c v).groups = s.groups ∧
    (State.setRHist s a c v).saf = s.saf ∧
    (State.setRHist s a c v).die = s.die ∧
    (State.setRHist s a c v).fld = s.fld ∧
    (State.setRHist s a c v).twin = s.twin ∧
    (State.setRHist s a c v).scs = s.scs ∧
    (State.setRHist s a c v).time = s.time ∧
    (State.setRHist s a c v).host = s.host := by
  generalize hT : State.setRHist s a c v = res
  unfold State.setRHist at hT
  try dsimp only at hT
  repeat' split at hT
  all_goals subst hT
  all_goals (try simp)
  all_goals (repeat' split)
  all_goals (try simp)

@[simp] theorem State.setRHist_idents (s : State) (a c : Nat) (v : Int) : (State.setRHist s a c v).idents = s.idents := State.idents_eq _ _ (by simp)

@[simp] theorem State.lawSats_frame (s : State) (a : Nat) (moves adds : List Bool) :
    (State.lawSats s a moves adds).pending = s.pending ∧
    (State.lawSats s a moves adds).out = s.out ∧
    (State.lawSats s a moves adds).freeCtr = s.freeCtr ∧
    (State.lawSats s a moves adds).coreTicks = s.coreTicks ∧
    (State.lawSats s a moves adds).params = s.params ∧
    (State.lawSats s a moves adds).cyc = s.cyc ∧
    (State.lawSats s a moves adds).boot = s.boot ∧
    (State.lawSats s a moves adds).ports = s.ports ∧
    (State.lawSats s a moves adds).segs = s.segs ∧
    (State.lawSats s a moves adds).opening = s.opening ∧
    (State.lawSats s a moves adds).fbs = s.fbs ∧
    (State.lawSats s a moves adds).steps = s.steps ∧
    (State.lawSats s a moves adds).line = s.line ∧
    (State.lawSats s a moves adds).moves = s.moves ∧
    (State.lawSats s a moves adds).arb = s.arb ∧
    (State.lawSats s a moves adds).groups = s.groups ∧
    (State.lawSats s a moves adds).eng = s.eng ∧
    (State.lawSats s a moves adds).saf = s.saf ∧
    (State.lawSats s a moves adds).die = s.die ∧
    (State.lawSats s a moves adds).fld = s.fld ∧
    (State.lawSats s a moves adds).twin = s.twin ∧
    (State.lawSats s a moves adds).scs = s.scs ∧
    (State.lawSats s a moves adds).time = s.time ∧
    (State.lawSats s a moves adds).host = s.host := by
  generalize hT : State.lawSats s a moves adds = res
  unfold State.lawSats at hT
  try dsimp only at hT
  repeat' split at hT
  all_goals subst hT
  all_goals (try simp)
  all_goals (repeat' split)
  all_goals (try simp)

@[simp] theorem State.lawSats_idents (s : State) (a : Nat) (moves adds : List Bool) : (State.lawSats s a moves adds).idents = s.idents := State.idents_eq _ _ (by simp)

@[simp] theorem State.moveOrigin_frame (s : State) (a np d : Nat) (ra : Int) :
    (State.moveOrigin s a np d ra).pending = s.pending ∧
    (State.moveOrigin s a np d ra).out = s.out ∧
    (State.moveOrigin s a np d ra).freeCtr = s.freeCtr ∧
    (State.moveOrigin s a np d ra).coreTicks = s.coreTicks ∧
    (State.moveOrigin s a np d ra).params = s.params ∧
    (State.moveOrigin s a np d ra).cyc = s.cyc ∧
    (State.moveOrigin s a np d ra).boot = s.boot ∧
    (State.moveOrigin s a np d ra).ports = s.ports ∧
    (State.moveOrigin s a np d ra).segs = s.segs ∧
    (State.moveOrigin s a np d ra).opening = s.opening ∧
    (State.moveOrigin s a np d ra).fbs = s.fbs ∧
    (State.moveOrigin s a np d ra).axes = s.axes ∧
    (State.moveOrigin s a np d ra).steps = s.steps ∧
    (State.moveOrigin s a np d ra).line = s.line ∧
    (State.moveOrigin s a np d ra).moves = s.moves ∧
    (State.moveOrigin s a np d ra).arb = s.arb ∧
    (State.moveOrigin s a np d ra).groups = s.groups ∧
    (State.moveOrigin s a np d ra).saf = s.saf ∧
    (State.moveOrigin s a np d ra).die = s.die ∧
    (State.moveOrigin s a np d ra).fld = s.fld ∧
    (State.moveOrigin s a np d ra).twin = s.twin ∧
    (State.moveOrigin s a np d ra).scs = s.scs ∧
    (State.moveOrigin s a np d ra).time = s.time ∧
    (State.moveOrigin s a np d ra).host = s.host := by
  generalize hT : State.moveOrigin s a np d ra = res
  unfold State.moveOrigin at hT
  try dsimp only at hT
  repeat' split at hT
  all_goals subst hT
  all_goals (try simp)
  all_goals (repeat' split)
  all_goals (try simp)

@[simp] theorem State.moveOrigin_idents (s : State) (a np d : Nat) (ra : Int) : (State.moveOrigin s a np d ra).idents = s.idents := State.idents_eq _ _ (by simp)

@[simp] theorem State.sf8_frame (s : State) (a k : Nat) (isNew : Bool) (fpos ra va acca : Int) :
    (State.sf8 s a k isNew fpos ra va acca).1.pending = s.pending ∧
    (State.sf8 s a k isNew fpos ra va acca).1.out = s.out ∧
    (State.sf8 s a k isNew fpos ra va acca).1.freeCtr = s.freeCtr ∧
    (State.sf8 s a k isNew fpos ra va acca).1.coreTicks = s.coreTicks ∧
    (State.sf8 s a k isNew fpos ra va acca).1.params = s.params ∧
    (State.sf8 s a k isNew fpos ra va acca).1.cyc = s.cyc ∧
    (State.sf8 s a k isNew fpos ra va acca).1.boot = s.boot ∧
    (State.sf8 s a k isNew fpos ra va acca).1.ports = s.ports ∧
    (State.sf8 s a k isNew fpos ra va acca).1.segs = s.segs ∧
    (State.sf8 s a k isNew fpos ra va acca).1.opening = s.opening ∧
    (State.sf8 s a k isNew fpos ra va acca).1.fbs = s.fbs ∧
    (State.sf8 s a k isNew fpos ra va acca).1.steps = s.steps ∧
    (State.sf8 s a k isNew fpos ra va acca).1.line = s.line ∧
    (State.sf8 s a k isNew fpos ra va acca).1.moves = s.moves ∧
    (State.sf8 s a k isNew fpos ra va acca).1.arb = s.arb ∧
    (State.sf8 s a k isNew fpos ra va acca).1.groups = s.groups ∧
    (State.sf8 s a k isNew fpos ra va acca).1.saf = s.saf ∧
    (State.sf8 s a k isNew fpos ra va acca).1.die = s.die ∧
    (State.sf8 s a k isNew fpos ra va acca).1.fld = s.fld ∧
    (State.sf8 s a k isNew fpos ra va acca).1.twin = s.twin ∧
    (State.sf8 s a k isNew fpos ra va acca).1.scs = s.scs ∧
    (State.sf8 s a k isNew fpos ra va acca).1.time = s.time ∧
    (State.sf8 s a k isNew fpos ra va acca).1.host = s.host := by
  generalize hT : State.sf8 s a k isNew fpos ra va acca = res
  unfold State.sf8 at hT
  try dsimp only at hT
  repeat' split at hT
  all_goals subst hT
  all_goals (try simp)
  all_goals (repeat' split)
  all_goals (try simp)

@[simp] theorem State.sf8_idents (s : State) (a k : Nat) (isNew : Bool) (fpos ra va acca : Int) : (State.sf8 s a k isNew fpos ra va acca).1.idents = s.idents := State.idents_eq _ _ (by simp)

@[simp] theorem State.cfSection_frame (s : State) (a i : Nat) (x : Int) :
    (State.cfSection s a i x).1.pending = s.pending ∧
    (State.cfSection s a i x).1.out = s.out ∧
    (State.cfSection s a i x).1.freeCtr = s.freeCtr ∧
    (State.cfSection s a i x).1.coreTicks = s.coreTicks ∧
    (State.cfSection s a i x).1.params = s.params ∧
    (State.cfSection s a i x).1.cyc = s.cyc ∧
    (State.cfSection s a i x).1.boot = s.boot ∧
    (State.cfSection s a i x).1.ports = s.ports ∧
    (State.cfSection s a i x).1.segs = s.segs ∧
    (State.cfSection s a i x).1.opening = s.opening ∧
    (State.cfSection s a i x).1.fbs = s.fbs ∧
    (State.cfSection s a i x).1.axes = s.axes ∧
    (State.cfSection s a i x).1.steps = s.steps ∧
    (State.cfSection s a i x).1.line = s.line ∧
    (State.cfSection s a i x).1.moves = s.moves ∧
    (State.cfSection s a i x).1.arb = s.arb ∧
    (State.cfSection s a i x).1.groups = s.groups ∧
    (State.cfSection s a i x).1.saf = s.saf ∧
    (State.cfSection s a i x).1.die = s.die ∧
    (State.cfSection s a i x).1.fld = s.fld ∧
    (State.cfSection s a i x).1.twin = s.twin ∧
    (State.cfSection s a i x).1.scs = s.scs ∧
    (State.cfSection s a i x).1.time = s.time ∧
    (State.cfSection s a i x).1.host = s.host := by
  generalize hT : State.cfSection s a i x = res
  unfold State.cfSection at hT
  try dsimp only at hT
  repeat' split at hT
  all_goals subst hT
  all_goals (try simp)
  all_goals (repeat' split)
  all_goals (try simp)

@[simp] theorem State.cfSection_idents (s : State) (a i : Nat) (x : Int) : (State.cfSection s a i x).1.idents = s.idents := State.idents_eq _ _ (by simp)

@[simp] theorem State.cf4_frame (s : State) (a k : Nat) (va acca : Int) :
    (State.cf4 s a k va acca).1.pending = s.pending ∧
    (State.cf4 s a k va acca).1.out = s.out ∧
    (State.cf4 s a k va acca).1.freeCtr = s.freeCtr ∧
    (State.cf4 s a k va acca).1.coreTicks = s.coreTicks ∧
    (State.cf4 s a k va acca).1.params = s.params ∧
    (State.cf4 s a k va acca).1.cyc = s.cyc ∧
    (State.cf4 s a k va acca).1.boot = s.boot ∧
    (State.cf4 s a k va acca).1.ports = s.ports ∧
    (State.cf4 s a k va acca).1.segs = s.segs ∧
    (State.cf4 s a k va acca).1.opening = s.opening ∧
    (State.cf4 s a k va acca).1.fbs = s.fbs ∧
    (State.cf4 s a k va acca).1.steps = s.steps ∧
    (State.cf4 s a k va acca).1.line = s.line ∧
    (State.cf4 s a k va acca).1.moves = s.moves ∧
    (State.cf4 s a k va acca).1.arb = s.arb ∧
    (State.cf4 s a k va acca).1.groups = s.groups ∧
    (State.cf4 s a k va acca).1.saf = s.saf ∧
    (State.cf4 s a k va acca).1.die = s.die ∧
    (State.cf4 s a k va acca).1.fld = s.fld ∧
    (State.cf4 s a k va acca).1.twin = s.twin ∧
    (State.cf4 s a k va acca).1.scs = s.scs ∧
    (State.cf4 s a k va acca).1.time = s.time ∧
    (State.cf4 s a k va acca).1.host = s.host := by
  generalize hT : State.cf4 s a k va acca = res
  unfold State.cf4 at hT
  try dsimp only at hT
  repeat' split at hT
  all_goals subst hT
  all_goals (try simp)
  all_goals (repeat' split)
  all_goals (try simp)

@[simp] theorem State.cf4_idents (s : State) (a k : Nat) (va acca : Int) : (State.cf4 s a k va acca).1.idents = s.idents := State.idents_eq _ _ (by simp)

@[simp] theorem State.setBin_frame (s : State) (a i : Nat) (v : Int) :
    (State.setBin s a i v).pending = s.pending ∧
    (State.setBin s a i v).out = s.out ∧
    (State.setBin s a i v).freeCtr = s.freeCtr ∧
    (State.setBin s a i v).coreTicks = s.coreTicks ∧
    (State.setBin s a i v).params = s.params ∧
    (State.setBin s a i v).cyc = s.cyc ∧
    (State.setBin s a i v).boot = s.boot ∧
    (State.setBin s a i v).ports = s.ports ∧
    (State.setBin s a i v).segs = s.segs ∧
    (State.setBin s a i v).opening = s.opening ∧
    (State.setBin s a i v).fbs = s.fbs ∧
    (State.setBin s a i v).axes = s.axes ∧
    (State.setBin s a i v).steps = s.steps ∧
    (State.setBin s a i v).line = s.line ∧
    (State.setBin s a i v).moves = s.moves ∧
    (State.setBin s a i v).arb = s.arb ∧
    (State.setBin s a i v).groups = s.groups ∧
    (State.setBin s a i v).saf = s.saf ∧
    (State.setBin s a i v).die = s.die ∧
    (State.setBin s a i v).fld = s.fld ∧
    (State.setBin s a i v).twin = s.twin ∧
    (State.setBin s a i v).scs = s.scs ∧
    (State.setBin s a i v).time = s.time ∧
    (State.setBin s a i v).host = s.host := by
  generalize hT : State.setBin s a i v = res
  unfold State.setBin at hT
  try dsimp only at hT
  repeat' split at hT
  all_goals subst hT
  all_goals (try simp)
  all_goals (repeat' split)
  all_goals (try simp)

@[simp] theorem State.setBin_idents (s : State) (a i : Nat) (v : Int) : (State.setBin s a i v).idents = s.idents := State.idents_eq _ _ (by simp)

@[simp] theorem State.swapTable_frame (s : State) (a : Nat) :
    (State.swapTable s a).pending = s.pending ∧
    (State.swapTable s a).out = s.out ∧
    (State.swapTable s a).freeCtr = s.freeCtr ∧
    (State.swapTable s a).coreTicks = s.coreTicks ∧
    (State.swapTable s a).params = s.params ∧
    (State.swapTable s a).cyc = s.cyc ∧
    (State.swapTable s a).boot = s.boot ∧
    (State.swapTable s a).ports = s.ports ∧
    (State.swapTable s a).segs = s.segs ∧
    (State.swapTable s a).opening = s.opening ∧
    (State.swapTable s a).fbs = s.fbs ∧
    (State.swapTable s a).steps = s.steps ∧
    (State.swapTable s a).line = s.line ∧
    (State.swapTable s a).moves = s.moves ∧
    (State.swapTable s a).arb = s.arb ∧
    (State.swapTable s a).groups = s.groups ∧
    (State.swapTable s a).saf = s.saf ∧
    (State.swapTable s a).die = s.die ∧
    (State.swapTable s a).fld = s.fld ∧
    (State.swapTable s a).twin = s.twin ∧
    (State.swapTable s a).scs = s.scs ∧
    (State.swapTable s a).time = s.time ∧
    (State.swapTable s a).host = s.host := by
  generalize hT : State.swapTable s a = res
  unfold State.swapTable at hT
  try dsimp only at hT
  repeat' split at hT
  all_goals subst hT
  all_goals (try simp)
  all_goals (repeat' split)
  all_goals (try simp)

@[simp] theorem State.swapTable_idents (s : State) (a : Nat) : (State.swapTable s a).idents = s.idents := State.idents_eq _ _ (by simp)

@[simp] theorem State.changeTable_frame (s : State) (a : Nat) (t : Nat × Nat) :
    (State.changeTable s a t).pending = s.pending ∧
    (State.changeTable s a t).out = s.out ∧
    (State.changeTable s a t).freeCtr = s.freeCtr ∧
    (State.changeTable s a t).coreTicks = s.coreTicks ∧
    (State.changeTable s a t).params = s.params ∧
    (State.changeTable s a t).cyc = s.cyc ∧
    (State.changeTable s a t).boot = s.boot ∧
    (State.changeTable s a t).ports = s.ports ∧
    (State.changeTable s a t).segs = s.segs ∧
    (State.changeTable s a t).opening = s.opening ∧
    (State.changeTable s a t).fbs = s.fbs ∧
    (State.changeTable s a t).steps = s.steps ∧
    (State.changeTable s a t).line = s.line ∧
    (State.changeTable s a t).moves = s.moves ∧
    (State.changeTable s a t).arb = s.arb ∧
    (State.changeTable s a t).groups = s.groups ∧
    (State.changeTable s a t).saf = s.saf ∧
    (State.changeTable s a t).die = s.die ∧
    (State.changeTable s a t).fld = s.fld ∧
    (State.changeTable s a t).twin = s.twin ∧
    (State.changeTable s a t).scs = s.scs ∧
    (State.changeTable s a t).time = s.time ∧
    (State.changeTable s a t).host = s.host := by
  generalize hT : State.changeTable s a t = res
  unfold State.changeTable at hT
  try dsimp only at hT
  repeat' split at hT
  all_goals subst hT
  all_goals (try simp)
  all_goals (repeat' split)
  all_goals (try simp)

@[simp] theorem State.changeTable_idents (s : State) (a : Nat) (t : Nat × Nat) : (State.changeTable s a t).idents = s.idents := State.idents_eq _ _ (by simp)

@[simp] theorem State.configLearner_frame (s : State) (a : Nat) (clear : Bool) :
    (State.configLearner s a clear).pending = s.pending ∧
    (State.configLearner s a clear).out = s.out ∧
    (State.configLearner s a clear).freeCtr = s.freeCtr ∧
    (State.configLearner s a clear).coreTicks = s.coreTicks ∧
    (State.configLearner s a clear).params = s.params ∧
    (State.configLearner s a clear).cyc = s.cyc ∧
    (State.configLearner s a clear).boot = s.boot ∧
    (State.configLearner s a clear).ports = s.ports ∧
    (State.configLearner s a clear).segs = s.segs ∧
    (State.configLearner s a clear).opening = s.opening ∧
    (State.configLearner s a clear).fbs = s.fbs ∧
    (State.configLearner s a clear).steps = s.steps ∧
    (State.configLearner s a clear).line = s.line ∧
    (State.configLearner s a clear).moves = s.moves ∧
    (State.configLearner s a clear).arb = s.arb ∧
    (State.configLearner s a clear).groups = s.groups ∧
    (State.configLearner s a clear).saf = s.saf ∧
    (State.configLearner s a clear).die = s.die ∧
    (State.configLearner s a clear).fld = s.fld ∧
    (State.configLearner s a clear).twin = s.twin ∧
    (State.configLearner s a clear).scs = s.scs ∧
    (State.configLearner s a clear).time = s.time ∧
    (State.configLearner s a clear).host = s.host := by
  generalize hT : State.configLearner s a clear = res
  unfold State.configLearner at hT
  try dsimp only at hT
  repeat' split at hT
  all_goals subst hT
  all_goals (try simp)
  all_goals (repeat' split)
  all_goals (try simp)

@[simp] theorem State.configLearner_idents (s : State) (a : Nat) (clear : Bool) : (State.configLearner s a clear).idents = s.idents := State.idents_eq _ _ (by simp)

@[simp] theorem State.clearLearner_frame (s : State) (a : Nat) :
    (State.clearLearner s a).pending = s.pending ∧
    (State.clearLearner s a).out = s.out ∧
    (State.clearLearner s a).freeCtr = s.freeCtr ∧
    (State.clearLearner s a).coreTicks = s.coreTicks ∧
    (State.clearLearner s a).params = s.params ∧
    (State.clearLearner s a).cyc = s.cyc ∧
    (State.clearLearner s a).boot = s.boot ∧
    (State.clearLearner s a).ports = s.ports ∧
    (State.clearLearner s a).segs = s.segs ∧
    (State.clearLearner s a).opening = s.opening ∧
    (State.clearLearner s a).fbs = s.fbs ∧
    (State.clearLearner s a).steps = s.steps ∧
    (State.clearLearner s a).line = s.line ∧
    (State.clearLearner s a).moves = s.moves ∧
    (State.clearLearner s a).arb = s.arb ∧
    (State.clearLearner s a).groups = s.groups ∧
    (State.clearLearner s a).saf = s.saf ∧
    (State.clearLearner s a).die = s.die ∧
    (State.clearLearner s a).fld = s.fld ∧
    (State.clearLearner s a).twin = s.twin ∧
    (State.clearLearner s a).scs = s.scs ∧
    (State.clearLearner s a).time = s.time ∧
    (State.clearLearner s a).host = s.host := by
  generalize hT : State.clearLearner s a = res
  unfold State.clearLearner at hT
  try dsimp only at hT
  repeat' split at hT
  all_goals subst hT
  all_goals (try simp)
  all_goals (repeat' split)
  all_goals (try simp)

@[simp] theorem State.clearLearner_idents (s : State) (a : Nat) : (State.clearLearner s a).idents = s.idents := State.idents_eq _ _ (by simp)

@[simp] theorem State.noteLine_frame (s : State) (k : Nat) :
    (State.noteLine s k).pending = s.pending ∧
    (State.noteLine s k).out = s.out ∧
    (State.noteLine s k).freeCtr = s.freeCtr ∧
    (State.noteLine s k).coreTicks = s.coreTicks ∧
    (State.noteLine s k).params = s.params ∧
    (State.noteLine s k).cyc = s.cyc ∧
    (State.noteLine s k).boot = s.boot ∧
    (State.noteLine s k).ports = s.ports ∧
    (State.noteLine s k).segs = s.segs ∧
    (State.noteLine s k).opening = s.opening ∧
    (State.noteLine s k).fbs = s.fbs ∧
    (State.noteLine s k).axes = s.axes ∧
    (State.noteLine s k).steps = s.steps ∧
    (State.noteLine s k).moves = s.moves ∧
    (State.noteLine s k).arb = s.arb ∧
    (State.noteLine s k).groups = s.groups ∧
    (State.noteLine s k).eng = s.eng ∧
    (State.noteLine s k).saf = s.saf ∧
    (State.noteLine s k).die = s.die ∧
    (State.noteLine s k).fld = s.fld ∧
    (State.noteLine s k).twin = s.twin ∧
    (State.noteLine s k).scs = s.scs ∧
    (State.noteLine s k).time = s.time ∧
    (State.noteLine s k).host = s.host := by
  generalize hT : State.noteLine s k = res
  unfold State.noteLine at hT
  try dsimp only at hT
  repeat' split at hT
  all_goals subst hT
  all_goals (try simp)
  all_goals (repeat' split)
  all_goals (try simp)

@[simp] theorem State.noteLine_idents (s : State) (k : Nat) : (State.noteLine s k).idents = s.idents := State.idents_eq _ _ (by simp)

@[simp] theorem State.lrnUpdate_frame (s : State) (a n : Nat) (fe : Int) :
    (State.lrnUpdate s a n fe).pending = s.pending ∧
    (State.lrnUpdate s a n fe).out = s.out ∧
    (State.lrnUpdate s a n fe).freeCtr = s.freeCtr ∧
    (State.lrnUpdate s a n fe).coreTicks = s.coreTicks ∧
    (State.lrnUpdate s a n fe).params = s.params ∧
    (State.lrnUpdate s a n fe).cyc = s.cyc ∧
    (State.lrnUpdate s a n fe).boot = s.boot ∧
    (State.lrnUpdate s a n fe).ports = s.ports ∧
    (State.lrnUpdate s a n fe).segs = s.segs ∧
    (State.lrnUpdate s a n fe).opening = s.opening ∧
    (State.lrnUpdate s a n fe).fbs = s.fbs ∧
    (State.lrnUpdate s a n fe).axes = s.axes ∧
    (State.lrnUpdate s a n fe).steps = s.steps ∧
    (State.lrnUpdate s a n fe).line = s.line ∧
    (State.lrnUpdate s a n fe).moves = s.moves ∧
    (State.lrnUpdate s a n fe).arb = s.arb ∧
    (State.lrnUpdate s a n fe).groups = s.groups ∧
    (State.lrnUpdate s a n fe).saf = s.saf ∧
    (State.lrnUpdate s a n fe).die = s.die ∧
    (State.lrnUpdate s a n fe).fld = s.fld ∧
    (State.lrnUpdate s a n fe).twin = s.twin ∧
    (State.lrnUpdate s a n fe).scs = s.scs ∧
    (State.lrnUpdate s a n fe).time = s.time ∧
    (State.lrnUpdate s a n fe).host = s.host := by
  generalize hT : State.lrnUpdate s a n fe = res
  unfold State.lrnUpdate at hT
  try dsimp only at hT
  repeat' split at hT
  all_goals subst hT
  all_goals (try simp)
  all_goals (repeat' split)
  all_goals (try simp)

@[simp] theorem State.lrnUpdate_idents (s : State) (a n : Nat) (fe : Int) : (State.lrnUpdate s a n fe).idents = s.idents := State.idents_eq _ _ (by simp)

end Sys2Proof.Machine
end

