-- ==== Sys2Proof/Laws/FrameProfileOps.lean ====
section
/-! SUPPORT. What the operations of Machine/ProfileOps.lean leave unchanged: one rule per operation. -/

namespace Sys2Proof.Machine

@[simp] theorem State.putPvt_frame (s : State) (i : Nat) (g0 : PvtSeg) :
    (State.putPvt s i g0).pending = s.pending ∧
    (State.putPvt s i g0).out = s.out ∧
    (State.putPvt s i g0).freeCtr = s.freeCtr ∧
    (State.putPvt s i g0).coreTicks = s.coreTicks ∧
    (State.putPvt s i g0).params = s.params ∧
    (State.putPvt s i g0).cyc = s.cyc ∧
    (State.putPvt s i g0).boot = s.boot ∧
    (State.putPvt s i g0).ports = s.ports ∧
    (State.putPvt s i g0).segs = s.segs ∧
    (State.putPvt s i g0).opening = s.opening ∧
    (State.putPvt s i g0).fbs = s.fbs ∧
    (State.putPvt s i g0).axes = s.axes ∧
    (State.putPvt s i g0).steps = s.steps ∧
    (State.putPvt s i g0).line = s.line ∧
    (State.putPvt s i g0).moves = s.moves ∧
    (State.putPvt s i g0).arb = s.arb ∧
    (State.putPvt s i g0).groups = s.groups ∧
    (State.putPvt s i g0).saf = s.saf ∧
    (State.putPvt s i g0).die = s.die ∧
    (State.putPvt s i g0).fld = s.fld ∧
    (State.putPvt s i g0).twin = s.twin ∧
    (State.putPvt s i g0).scs = s.scs ∧
    (State.putPvt s i g0).time = s.time ∧
    (State.putPvt s i g0).host = s.host := by
  generalize hT : State.putPvt s i g0 = res
  unfold State.putPvt at hT
  try dsimp only at hT
  repeat' split at hT
  all_goals subst hT
  all_goals (try simp)
  all_goals (repeat' split)
  all_goals (try simp)

@[simp] theorem State.putPvt_idents (s : State) (i : Nat) (g0 : PvtSeg) : (State.putPvt s i g0).idents = s.idents := State.idents_eq _ _ (by simp)

@[simp] theorem State.putSegs_frame (s : State) (first : Nat) (gs : List SegVal) :
    (State.putSegs s first gs).pending = s.pending ∧
    (State.putSegs s first gs).out = s.out ∧
    (State.putSegs s first gs).freeCtr = s.freeCtr ∧
    (State.putSegs s first gs).coreTicks = s.coreTicks ∧
    (State.putSegs s first gs).params = s.params ∧
    (State.putSegs s first gs).cyc = s.cyc ∧
    (State.putSegs s first gs).boot = s.boot ∧
    (State.putSegs s first gs).ports = s.ports ∧
    (State.putSegs s first gs).segs = s.segs ∧
    (State.putSegs s first gs).opening = s.opening ∧
    (State.putSegs s first gs).fbs = s.fbs ∧
    (State.putSegs s first gs).axes = s.axes ∧
    (State.putSegs s first gs).steps = s.steps ∧
    (State.putSegs s first gs).line = s.line ∧
    (State.putSegs s first gs).moves = s.moves ∧
    (State.putSegs s first gs).arb = s.arb ∧
    (State.putSegs s first gs).groups = s.groups ∧
    (State.putSegs s first gs).saf = s.saf ∧
    (State.putSegs s first gs).die = s.die ∧
    (State.putSegs s first gs).fld = s.fld ∧
    (State.putSegs s first gs).twin = s.twin ∧
    (State.putSegs s first gs).scs = s.scs ∧
    (State.putSegs s first gs).time = s.time ∧
    (State.putSegs s first gs).host = s.host := by
  generalize hT : State.putSegs s first gs = res
  unfold State.putSegs at hT
  try dsimp only at hT
  repeat' split at hT
  all_goals subst hT
  all_goals (try simp)
  all_goals (repeat' split)
  all_goals (try simp)

@[simp] theorem State.putSegs_idents (s : State) (first : Nat) (gs : List SegVal) : (State.putSegs s first gs).idents = s.idents := State.idents_eq _ _ (by simp)

end Sys2Proof.Machine
end

