-- ==== Sys2Proof/Laws/FrameProfileRun.lean ====
section
/-! SUPPORT. What the operations of Machine/ProfileRun.lean leave unchanged: one rule per operation. -/

namespace Sys2Proof.Machine

@[simp] theorem State.modPgroup_frame (s : State) (g : Nat) (f : PowerGroup → PowerGroup) :
    (State.modPgroup s g f).pending = s.pending ∧
    (State.modPgroup s g f).out = s.out ∧
    (State.modPgroup s g f).freeCtr = s.freeCtr ∧
    (State.modPgroup s g f).coreTicks = s.coreTicks ∧
    (State.modPgroup s g f).params = s.params ∧
    (State.modPgroup s g f).cyc = s.cyc ∧
    (State.modPgroup s g f).boot = s.boot ∧
    (State.modPgroup s g f).ports = s.ports ∧
    (State.modPgroup s g f).segs = s.segs ∧
    (State.modPgroup s g f).opening = s.opening ∧
    (State.modPgroup s g f).fbs = s.fbs ∧
    (State.modPgroup s g f).axes = s.axes ∧
    (State.modPgroup s g f).steps = s.steps ∧
    (State.modPgroup s g f).line = s.line ∧
    (State.modPgroup s g f).moves = s.moves ∧
    (State.modPgroup s g f).arb = s.arb ∧
    (State.modPgroup s g f).eng = s.eng ∧
    (State.modPgroup s g f).saf = s.saf ∧
    (State.modPgroup s g f).die = s.die ∧
    (State.modPgroup s g f).fld = s.fld ∧
    (State.modPgroup s g f).twin = s.twin ∧
    (State.modPgroup s g f).scs = s.scs ∧
    (State.modPgroup s g f).time = s.time ∧
    (State.modPgroup s g f).host = s.host := by
  generalize hT : State.modPgroup s g f = res
  unfold State.modPgroup at hT
  try dsimp only at hT
  repeat' split at hT
  all_goals subst hT
  all_goals (try simp)
  all_goals (repeat' split)
  all_goals (try simp)

@[simp] theorem State.modPgroup_idents (s : State) (g : Nat) (f : PowerGroup → PowerGroup) : (State.modPgroup s g f).idents = s.idents := State.idents_eq _ _ (by simp)

@[simp] theorem State.endSpan_frame (s : State) (a : Nat) :
    (State.endSpan s a).pending = s.pending ∧
    (State.endSpan s a).out = s.out ∧
    (State.endSpan s a).freeCtr = s.freeCtr ∧
    (State.endSpan s a).coreTicks = s.coreTicks ∧
    (State.endSpan s a).params = s.params ∧
    (State.endSpan s a).cyc = s.cyc ∧
    (State.endSpan s a).boot = s.boot ∧
    (State.endSpan s a).ports = s.ports ∧
    (State.endSpan s a).segs = s.segs ∧
    (State.endSpan s a).opening = s.opening ∧
    (State.endSpan s a).fbs = s.fbs ∧
    (State.endSpan s a).steps = s.steps ∧
    (State.endSpan s a).line = s.line ∧
    (State.endSpan s a).moves = s.moves ∧
    (State.endSpan s a).arb = s.arb ∧
    (State.endSpan s a).eng = s.eng ∧
    (State.endSpan s a).saf = s.saf ∧
    (State.endSpan s a).die = s.die ∧
    (State.endSpan s a).fld = s.fld ∧
    (State.endSpan s a).twin = s.twin ∧
    (State.endSpan s a).scs = s.scs ∧
    (State.endSpan s a).time = s.time ∧
    (State.endSpan s a).host = s.host := by
  generalize hT : State.endSpan s a = res
  unfold State.endSpan at hT
  try dsimp only at hT
  repeat' split at hT
  all_goals subst hT
  all_goals (try simp)
  all_goals (repeat' split)
  all_goals (try simp)

@[simp] theorem State.endSpan_idents (s : State) (a : Nat) : (State.endSpan s a).idents = s.idents := State.idents_eq _ _ (by simp)

@[simp] theorem State.motionEnds_frame (s : State) (a : Nat) :
    (State.motionEnds s a).pending = s.pending ∧
    (State.motionEnds s a).freeCtr = s.freeCtr ∧
    (State.motionEnds s a).coreTicks = s.coreTicks ∧
    (State.motionEnds s a).params = s.params ∧
    (State.motionEnds s a).cyc = s.cyc ∧
    (State.motionEnds s a).boot = s.boot ∧
    (State.motionEnds s a).ports = s.ports ∧
    (State.motionEnds s a).segs = s.segs ∧
    (State.motionEnds s a).opening = s.opening ∧
    (State.motionEnds s a).fbs = s.fbs ∧
    (State.motionEnds s a).steps = s.steps ∧
    (State.motionEnds s a).line = s.line ∧
    (State.motionEnds s a).moves = s.moves ∧
    (State.motionEnds s a).arb = s.arb ∧
    (State.motionEnds s a).groups = s.groups ∧
    (State.motionEnds s a).eng = s.eng ∧
    (State.motionEnds s a).saf = s.saf ∧
    (State.motionEnds s a).die = s.die ∧
    (State.motionEnds s a).fld = s.fld ∧
    (State.motionEnds s a).twin = s.twin ∧
    (State.motionEnds s a).scs = s.scs ∧
    (State.motionEnds s a).time = s.time ∧
    (State.motionEnds s a).host.keys = s.host.keys ∧
    (State.motionEnds s a).host.parQueue = s.host.parQueue := by
  generalize hT : State.motionEnds s a = res
  unfold State.motionEnds at hT
  try dsimp only at hT
  repeat' split at hT
  all_goals subst hT
  all_goals (try simp)
  all_goals (repeat' split)
  all_goals (try simp)

@[simp] theorem State.motionEnds_idents (s : State) (a : Nat) : (State.motionEnds s a).idents = s.idents := by
  generalize hT : State.motionEnds s a = res
  unfold State.motionEnds at hT
  try dsimp only at hT
  repeat' split at hT
  all_goals subst hT
  all_goals (try simp)
  all_goals (repeat' split)
  all_goals (try simp)
  all_goals (try rfl)
  all_goals (try exact State.idents_eq _ _ (by simp))
  all_goals (try simp [Session.ident])
  all_goals (try simp [Session.ident, State.session])
  all_goals (try simp [State.idents, State.session, Session.ident])

@[simp] theorem State.setRef_frame (s : State) (a c : Nat) (x : RefPt) :
    (State.setRef s a c x).pending = s.pending ∧
    (State.setRef s a c x).out = s.out ∧
    (State.setRef s a c x).freeCtr = s.freeCtr ∧
    (State.setRef s a c x).coreTicks = s.coreTicks ∧
    (State.setRef s a c x).params = s.params ∧
    (State.setRef s a c x).cyc = s.cyc ∧
    (State.setRef s a c x).boot = s.boot ∧
    (State.setRef s a c x).ports = s.ports ∧
    (State.setRef s a c x).segs = s.segs ∧
    (State.setRef s a c x).opening = s.opening ∧
    (State.setRef s a c x).fbs = s.fbs ∧
    (State.setRef s a c x).steps = s.steps ∧
    (State.setRef s a c x).line = s.line ∧
    (State.setRef s a c x).moves = s.moves ∧
    (State.setRef s a c x).arb = s.arb ∧
    (State.setRef s a c x).groups = s.groups ∧
    (State.setRef s a c x).eng = s.eng ∧
    (State.setRef s a c x).saf = s.saf ∧
    (State.setRef s a c x).die = s.die ∧
    (State.setRef s a c x).fld = s.fld ∧
    (State.setRef s a c x).twin = s.twin ∧
    (State.setRef s a c x).scs = s.scs ∧
    (State.setRef s a c x).time = s.time ∧
    (State.setRef s a c x).host = s.host := by
  generalize hT : State.setRef s a c x = res
  unfold State.setRef at hT
  try dsimp only at hT
  repeat' split at hT
  all_goals subst hT
  all_goals (try simp)
  all_goals (repeat' split)
  all_goals (try simp)

@[simp] theorem State.setRef_idents (s : State) (a c : Nat) (x : RefPt) : (State.setRef s a c x).idents = s.idents := State.idents_eq _ _ (by simp)

@[simp] theorem State.rest_frame (s : State) (a c : Nat) :
    (State.rest s a c).pending = s.pending ∧
    (State.rest s a c).out = s.out ∧
    (State.rest s a c).freeCtr = s.freeCtr ∧
    (State.rest s a c).coreTicks = s.coreTicks ∧
    (State.rest s a c).params = s.params ∧
    (State.rest s a c).cyc = s.cyc ∧
    (State.rest s a c).boot = s.boot ∧
    (State.rest s a c).ports = s.ports ∧
    (State.rest s a c).segs = s.segs ∧
    (State.rest s a c).opening = s.opening ∧
    (State.rest s a c).fbs = s.fbs ∧
    (State.rest s a c).steps = s.steps ∧
    (State.rest s a c).line = s.line ∧
    (State.rest s a c).moves = s.moves ∧
    (State.rest s a c).arb = s.arb ∧
    (State.rest s a c).groups = s.groups ∧
    (State.rest s a c).eng = s.eng ∧
    (State.rest s a c).saf = s.saf ∧
    (State.rest s a c).die = s.die ∧
    (State.rest s a c).fld = s.fld ∧
    (State.rest s a c).twin = s.twin ∧
    (State.rest s a c).scs = s.scs ∧
    (State.rest s a c).time = s.time ∧
    (State.rest s a c).host = s.host := by
  generalize hT : State.rest s a c = res
  unfold State.rest at hT
  try dsimp only at hT
  repeat' split at hT
  all_goals subst hT
  all_goals (try simp)
  all_goals (repeat' split)
  all_goals (try simp)

@[simp] theorem State.rest_idents (s : State) (a c : Nat) : (State.rest s a c).idents = s.idents := State.idents_eq _ _ (by simp)

@[simp] theorem State.enterSeg_frame (s : State) (a i : Nat) (t p v base : Int) :
    (State.enterSeg s a i t p v base).pending = s.pending ∧
    (State.enterSeg s a i t p v base).out = s.out ∧
    (State.enterSeg s a i t p v base).freeCtr = s.freeCtr ∧
    (State.enterSeg s a i t p v base).coreTicks = s.coreTicks ∧
    (State.enterSeg s a i t p v base).params = s.params ∧
    (State.enterSeg s a i t p v base).cyc = s.cyc ∧
    (State.enterSeg s a i t p v base).boot = s.boot ∧
    (State.enterSeg s a i t p v base).ports = s.ports ∧
    (State.enterSeg s a i t p v base).segs = s.segs ∧
    (State.enterSeg s a i t p v base).opening = s.opening ∧
    (State.enterSeg s a i t p v base).fbs = s.fbs ∧
    (State.enterSeg s a i t p v base).steps = s.steps ∧
    (State.enterSeg s a i t p v base).line = s.line ∧
    (State.enterSeg s a i t p v base).moves = s.moves ∧
    (State.enterSeg s a i t p v base).arb = s.arb ∧
    (State.enterSeg s a i t p v base).eng = s.eng ∧
    (State.enterSeg s a i t p v base).saf = s.saf ∧
    (State.enterSeg s a i t p v base).die = s.die ∧
    (State.enterSeg s a i t p v base).fld = s.fld ∧
    (State.enterSeg s a i t p v base).twin = s.twin ∧
    (State.enterSeg s a i t p v base).scs = s.scs ∧
    (State.enterSeg s a i t p v base).time = s.time ∧
    (State.enterSeg s a i t p v base).host = s.host := by
  generalize hT : State.enterSeg s a i t p v base = res
  unfold State.enterSeg at hT
  try dsimp only at hT
  repeat' split at hT
  all_goals subst hT
  all_goals (try simp)
  all_goals (repeat' split)
  all_goals (try simp)

@[simp] theorem State.enterSeg_idents (s : State) (a i : Nat) (t p v base : Int) : (State.enterSeg s a i t p v base).idents = s.idents := State.idents_eq _ _ (by simp)

@[simp] theorem State.profileEvent_frame (s : State) (a : Nat) (g : SegVal) (tEnd : Int) :
    (State.profileEvent s a g tEnd).pending = s.pending ∧
    (State.profileEvent s a g tEnd).freeCtr = s.freeCtr ∧
    (State.profileEvent s a g tEnd).coreTicks = s.coreTicks ∧
    (State.profileEvent s a g tEnd).params = s.params ∧
    (State.profileEvent s a g tEnd).cyc = s.cyc ∧
    (State.profileEvent s a g tEnd).boot = s.boot ∧
    (State.profileEvent s a g tEnd).ports = s.ports ∧
    (State.profileEvent s a g tEnd).segs = s.segs ∧
    (State.profileEvent s a g tEnd).opening = s.opening ∧
    (State.profileEvent s a g tEnd).fbs = s.fbs ∧
    (State.profileEvent s a g tEnd).axes = s.axes ∧
    (State.profileEvent s a g tEnd).steps = s.steps ∧
    (State.profileEvent s a g tEnd).line = s.line ∧
    (State.profileEvent s a g tEnd).moves = s.moves ∧
    (State.profileEvent s a g tEnd).arb = s.arb ∧
    (State.profileEvent s a g tEnd).groups = s.groups ∧
    (State.profileEvent s a g tEnd).eng = s.eng ∧
    (State.profileEvent s a g tEnd).saf = s.saf ∧
    (State.profileEvent s a g tEnd).die = s.die ∧
    (State.profileEvent s a g tEnd).fld = s.fld ∧
    (State.profileEvent s a g tEnd).twin = s.twin ∧
    (State.profileEvent s a g tEnd).scs = s.scs ∧
    (State.profileEvent s a g tEnd).time = s.time ∧
    (State.profileEvent s a g tEnd).host.keys = s.host.keys ∧
    (State.profileEvent s a g tEnd).host.parQueue = s.host.parQueue := by
  generalize hT : State.profileEvent s a g tEnd = res
  unfold State.profileEvent at hT
  try dsimp only at hT
  repeat' split at hT
  all_goals subst hT
  all_goals (try simp)
  all_goals (repeat' split)
  all_goals (try simp)

@[simp] theorem State.profileEvent_idents (s : State) (a : Nat) (g : SegVal) (tEnd : Int) : (State.profileEvent s a g tEnd).idents = s.idents := by
  generalize hT : State.profileEvent s a g tEnd = res
  unfold State.profileEvent at hT
  try dsimp only at hT
  repeat' split at hT
  all_goals subst hT
  all_goals (try simp)
  all_goals (repeat' split)
  all_goals (try simp)
  all_goals (try rfl)
  all_goals (try exact State.idents_eq _ _ (by simp))
  all_goals (try simp [Session.ident])
  all_goals (try simp [Session.ident, State.session])
  all_goals (try simp [State.idents, State.session, Session.ident])

@[simp] theorem State.advSeg_frame (s : State) (a c : Nat) (k0 : Nat) :
    (State.advSeg s a c k0).pending = s.pending ∧
    (State.advSeg s a c k0).freeCtr = s.freeCtr ∧
    (State.advSeg s a c k0).coreTicks = s.coreTicks ∧
    (State.advSeg s a c k0).params = s.params ∧
    (State.advSeg s a c k0).cyc = s.cyc ∧
    (State.advSeg s a c k0).boot = s.boot ∧
    (State.advSeg s a c k0).ports = s.ports ∧
    (State.advSeg s a c k0).segs = s.segs ∧
    (State.advSeg s a c k0).opening = s.opening ∧
    (State.advSeg s a c k0).fbs = s.fbs ∧
    (State.advSeg s a c k0).steps = s.steps ∧
    (State.advSeg s a c k0).line = s.line ∧
    (State.advSeg s a c k0).moves = s.moves ∧
    (State.advSeg s a c k0).arb = s.arb ∧
    (State.advSeg s a c k0).eng = s.eng ∧
    (State.advSeg s a c k0).saf = s.saf ∧
    (State.advSeg s a c k0).die = s.die ∧
    (State.advSeg s a c k0).fld = s.fld ∧
    (State.advSeg s a c k0).twin = s.twin ∧
    (State.advSeg s a c k0).scs = s.scs ∧
    (State.advSeg s a c k0).time = s.time ∧
    (State.advSeg s a c k0).host.keys = s.host.keys ∧
    (State.advSeg s a c k0).host.parQueue = s.host.parQueue := by
  induction k0 generalizing s a c with
  | zero => simp [State.advSeg]
  | succ k0 ih =>
    generalize hT : State.advSeg s a c (k0 + 1) = res
    unfold State.advSeg at hT
    try dsimp only at hT
    repeat' split at hT
    all_goals subst hT
    all_goals (try simp [ih])
    all_goals (repeat' split)
    all_goals (try simp [ih])

@[simp] theorem State.advSeg_idents (s : State) (a c : Nat) (k0 : Nat) : (State.advSeg s a c k0).idents = s.idents := by
  induction k0 generalizing s a c with
  | zero => simp [State.advSeg]
  | succ k0 ih =>
    generalize hT : State.advSeg s a c (k0 + 1) = res
    unfold State.advSeg at hT
    try dsimp only at hT
    repeat' split at hT
    all_goals subst hT
    all_goals (try simp [ih])
    all_goals (repeat' split)
    all_goals (try simp [ih])
    all_goals (try rfl)
    all_goals (try exact State.idents_eq _ _ (by simp))
    all_goals (try simp [Session.ident])
    all_goals (try simp [Session.ident, State.session])
    all_goals (try simp [State.idents, State.session, Session.ident])

@[simp] theorem State.directRef_frame (s : State) (a c : Nat) :
    (State.directRef s a c).pending = s.pending ∧
    (State.directRef s a c).out = s.out ∧
    (State.directRef s a c).freeCtr = s.freeCtr ∧
    (State.directRef s a c).coreTicks = s.coreTicks ∧
    (State.directRef s a c).params = s.params ∧
    (State.directRef s a c).cyc = s.cyc ∧
    (State.directRef s a c).boot = s.boot ∧
    (State.directRef s a c).ports = s.ports ∧
    (State.directRef s a c).segs = s.segs ∧
    (State.directRef s a c).opening = s.opening ∧
    (State.directRef s a c).fbs = s.fbs ∧
    (State.directRef s a c).steps = s.steps ∧
    (State.directRef s a c).line = s.line ∧
    (State.directRef s a c).moves = s.moves ∧
    (State.directRef s a c).arb = s.arb ∧
    (State.directRef s a c).groups = s.groups ∧
    (State.directRef s a c).eng = s.eng ∧
    (State.directRef s a c).saf = s.saf ∧
    (State.directRef s a c).die = s.die ∧
    (State.directRef s a c).fld = s.fld ∧
    (State.directRef s a c).twin = s.twin ∧
    (State.directRef s a c).scs = s.scs ∧
    (State.directRef s a c).time = s.time ∧
    (State.directRef s a c).host = s.host := by
  generalize hT : State.directRef s a c = res
  unfold State.directRef at hT
  try dsimp only at hT
  repeat' split at hT
  all_goals subst hT
  all_goals (try simp)
  all_goals (repeat' split)
  all_goals (try simp)

@[simp] theorem State.directRef_idents (s : State) (a c : Nat) : (State.directRef s a c).idents = s.idents := State.idents_eq _ _ (by simp)

@[simp] theorem State.homingRef_frame (s : State) (a c : Nat) :
    (State.homingRef s a c).pending = s.pending ∧
    (State.homingRef s a c).out = s.out ∧
    (State.homingRef s a c).freeCtr = s.freeCtr ∧
    (State.homingRef s a c).coreTicks = s.coreTicks ∧
    (State.homingRef s a c).params = s.params ∧
    (State.homingRef s a c).cyc = s.cyc ∧
    (State.homingRef s a c).boot = s.boot ∧
    (State.homingRef s a c).ports = s.ports ∧
    (State.homingRef s a c).segs = s.segs ∧
    (State.homingRef s a c).opening = s.opening ∧
    (State.homingRef s a c).fbs = s.fbs ∧
    (State.homingRef s a c).steps = s.steps ∧
    (State.homingRef s a c).line = s.line ∧
    (State.homingRef s a c).moves = s.moves ∧
    (State.homingRef s a c).arb = s.arb ∧
    (State.homingRef s a c).groups = s.groups ∧
    (State.homingRef s a c).eng = s.eng ∧
    (State.homingRef s a c).saf = s.saf ∧
    (State.homingRef s a c).die = s.die ∧
    (State.homingRef s a c).fld = s.fld ∧
    (State.homingRef s a c).twin = s.twin ∧
    (State.homingRef s a c).scs = s.scs ∧
    (State.homingRef s a c).time = s.time ∧
    (State.homingRef s a c).host = s.host := by
  generalize hT : State.homingRef s a c = res
  unfold State.homingRef at hT
  try dsimp only at hT
  repeat' split at hT
  all_goals subst hT
  all_goals (try simp)
  all_goals (repeat' split)
  all_goals (try simp)

@[simp] theorem State.homingRef_idents (s : State) (a c : Nat) : (State.homingRef s a c).idents = s.idents := State.idents_eq _ _ (by simp)

@[simp] theorem State.advanceRef_frame (s : State) (a c : Nat) :
    (State.advanceRef s a c).pending = s.pending ∧
    (State.advanceRef s a c).freeCtr = s.freeCtr ∧
    (State.advanceRef s a c).coreTicks = s.coreTicks ∧
    (State.advanceRef s a c).params = s.params ∧
    (State.advanceRef s a c).cyc = s.cyc ∧
    (State.advanceRef s a c).boot = s.boot ∧
    (State.advanceRef s a c).ports = s.ports ∧
    (State.advanceRef s a c).segs = s.segs ∧
    (State.advanceRef s a c).opening = s.opening ∧
    (State.advanceRef s a c).fbs = s.fbs ∧
    (State.advanceRef s a c).steps = s.steps ∧
    (State.advanceRef s a c).line = s.line ∧
    (State.advanceRef s a c).moves = s.moves ∧
    (State.advanceRef s a c).arb = s.arb ∧
    (State.advanceRef s a c).eng = s.eng ∧
    (State.advanceRef s a c).saf = s.saf ∧
    (State.advanceRef s a c).die = s.die ∧
    (State.advanceRef s a c).fld = s.fld ∧
    (State.advanceRef s a c).twin = s.twin ∧
    (State.advanceRef s a c).scs = s.scs ∧
    (State.advanceRef s a c).time = s.time ∧
    (State.advanceRef s a c).host.keys = s.host.keys ∧
    (State.advanceRef s a c).host.parQueue = s.host.parQueue := by
  generalize hT : State.advanceRef s a c = res
  unfold State.advanceRef at hT
  try dsimp only at hT
  repeat' split at hT
  all_goals subst hT
  all_goals (try simp)
  all_goals (repeat' split)
  all_goals (try simp)

@[simp] theorem State.advanceRef_idents (s : State) (a c : Nat) : (State.advanceRef s a c).idents = s.idents := by
  generalize hT : State.advanceRef s a c = res
  unfold State.advanceRef at hT
  try dsimp only at hT
  repeat' split at hT
  all_goals subst hT
  all_goals (try simp)
  all_goals (repeat' split)
  all_goals (try simp)
  all_goals (try rfl)
  all_goals (try exact State.idents_eq _ _ (by simp))
  all_goals (try simp [Session.ident])
  all_goals (try simp [Session.ident, State.session])
  all_goals (try simp [State.idents, State.session, Session.ident])

@[simp] theorem State.noteRef_frame (s : State) (a c : Nat) (x : RefPt) :
    (State.noteRef s a c x).pending = s.pending ∧
    (State.noteRef s a c x).out = s.out ∧
    (State.noteRef s a c x).freeCtr = s.freeCtr ∧
    (State.noteRef s a c x).coreTicks = s.coreTicks ∧
    (State.noteRef s a c x).params = s.params ∧
    (State.noteRef s a c x).cyc = s.cyc ∧
    (State.noteRef s a c x).boot = s.boot ∧
    (State.noteRef s a c x).ports = s.ports ∧
    (State.noteRef s a c x).segs = s.segs ∧
    (State.noteRef s a c x).opening = s.opening ∧
    (State.noteRef s a c x).fbs = s.fbs ∧
    (State.noteRef s a c x).steps = s.steps ∧
    (State.noteRef s a c x).line = s.line ∧
    (State.noteRef s a c x).moves = s.moves ∧
    (State.noteRef s a c x).arb = s.arb ∧
    (State.noteRef s a c x).groups = s.groups ∧
    (State.noteRef s a c x).eng = s.eng ∧
    (State.noteRef s a c x).saf = s.saf ∧
    (State.noteRef s a c x).die = s.die ∧
    (State.noteRef s a c x).fld = s.fld ∧
    (State.noteRef s a c x).twin = s.twin ∧
    (State.noteRef s a c x).scs = s.scs ∧
    (State.noteRef s a c x).time = s.time ∧
    (State.noteRef s a c x).host = s.host := by
  generalize hT : State.noteRef s a c x = res
  unfold State.noteRef at hT
  try dsimp only at hT
  repeat' split at hT
  all_goals subst hT
  all_goals (try simp)
  all_goals (repeat' split)
  all_goals (try simp)

@[simp] theorem State.noteRef_idents (s : State) (a c : Nat) (x : RefPt) : (State.noteRef s a c x).idents = s.idents := State.idents_eq _ _ (by simp)

@[simp] theorem State.noteEntry_frame (s : State) (r : RefEntry) :
    (State.noteEntry s r).pending = s.pending ∧
    (State.noteEntry s r).out = s.out ∧
    (State.noteEntry s r).freeCtr = s.freeCtr ∧
    (State.noteEntry s r).coreTicks = s.coreTicks ∧
    (State.noteEntry s r).params = s.params ∧
    (State.noteEntry s r).cyc = s.cyc ∧
    (State.noteEntry s r).boot = s.boot ∧
    (State.noteEntry s r).ports = s.ports ∧
    (State.noteEntry s r).segs = s.segs ∧
    (State.noteEntry s r).opening = s.opening ∧
    (State.noteEntry s r).fbs = s.fbs ∧
    (State.noteEntry s r).steps = s.steps ∧
    (State.noteEntry s r).line = s.line ∧
    (State.noteEntry s r).moves = s.moves ∧
    (State.noteEntry s r).arb = s.arb ∧
    (State.noteEntry s r).groups = s.groups ∧
    (State.noteEntry s r).eng = s.eng ∧
    (State.noteEntry s r).saf = s.saf ∧
    (State.noteEntry s r).die = s.die ∧
    (State.noteEntry s r).fld = s.fld ∧
    (State.noteEntry s r).twin = s.twin ∧
    (State.noteEntry s r).scs = s.scs ∧
    (State.noteEntry s r).time = s.time ∧
    (State.noteEntry s r).host = s.host := by
  generalize hT : State.noteEntry s r = res
  unfold State.noteEntry at hT
  try dsimp only at hT
  repeat' split at hT
  all_goals subst hT
  all_goals (try simp)
  all_goals (repeat' split)
  all_goals (try simp)

@[simp] theorem State.noteEntry_idents (s : State) (r : RefEntry) : (State.noteEntry s r).idents = s.idents := State.idents_eq _ _ (by simp)

@[simp] theorem State.noteTrains_frame (s : State) :
    (State.noteTrains s).pending = s.pending ∧
    (State.noteTrains s).out = s.out ∧
    (State.noteTrains s).freeCtr = s.freeCtr ∧
    (State.noteTrains s).coreTicks = s.coreTicks ∧
    (State.noteTrains s).params = s.params ∧
    (State.noteTrains s).cyc = s.cyc ∧
    (State.noteTrains s).boot = s.boot ∧
    (State.noteTrains s).ports = s.ports ∧
    (State.noteTrains s).segs = s.segs ∧
    (State.noteTrains s).opening = s.opening ∧
    (State.noteTrains s).fbs = s.fbs ∧
    (State.noteTrains s).steps = s.steps ∧
    (State.noteTrains s).line = s.line ∧
    (State.noteTrains s).moves = s.moves ∧
    (State.noteTrains s).arb = s.arb ∧
    (State.noteTrains s).groups = s.groups ∧
    (State.noteTrains s).eng = s.eng ∧
    (State.noteTrains s).saf = s.saf ∧
    (State.noteTrains s).die = s.die ∧
    (State.noteTrains s).fld = s.fld ∧
    (State.noteTrains s).twin = s.twin ∧
    (State.noteTrains s).scs = s.scs ∧
    (State.noteTrains s).time = s.time ∧
    (State.noteTrains s).host = s.host := by
  generalize hT : State.noteTrains s = res
  unfold State.noteTrains at hT
  try dsimp only at hT
  repeat' split at hT
  all_goals subst hT
  all_goals (try simp)
  all_goals (repeat' split)
  all_goals (try simp)

@[simp] theorem State.noteTrains_idents (s : State) : (State.noteTrains s).idents = s.idents := State.idents_eq _ _ (by simp)

@[simp] theorem State.replaceInTrain_frame (s : State) (r : RefEntry) :
    (State.replaceInTrain s r).1.pending = s.pending ∧
    (State.replaceInTrain s r).1.out = s.out ∧
    (State.replaceInTrain s r).1.freeCtr = s.freeCtr ∧
    (State.replaceInTrain s r).1.coreTicks = s.coreTicks ∧
    (State.replaceInTrain s r).1.params = s.params ∧
    (State.replaceInTrain s r).1.cyc = s.cyc ∧
    (State.replaceInTrain s r).1.boot = s.boot ∧
    (State.replaceInTrain s r).1.ports = s.ports ∧
    (State.replaceInTrain s r).1.segs = s.segs ∧
    (State.replaceInTrain s r).1.opening = s.opening ∧
    (State.replaceInTrain s r).1.fbs = s.fbs ∧
    (State.replaceInTrain s r).1.axes = s.axes ∧
    (State.replaceInTrain s r).1.steps = s.steps ∧
    (State.replaceInTrain s r).1.line = s.line ∧
    (State.replaceInTrain s r).1.moves = s.moves ∧
    (State.replaceInTrain s r).1.arb = s.arb ∧
    (State.replaceInTrain s r).1.groups = s.groups ∧
    (State.replaceInTrain s r).1.saf = s.saf ∧
    (State.replaceInTrain s r).1.die = s.die ∧
    (State.replaceInTrain s r).1.fld = s.fld ∧
    (State.replaceInTrain s r).1.twin = s.twin ∧
    (State.replaceInTrain s r).1.scs = s.scs ∧
    (State.replaceInTrain s r).1.time = s.time ∧
    (State.replaceInTrain s r).1.host = s.host := by
  generalize hT : State.replaceInTrain s r = res
  unfold State.replaceInTrain at hT
  try dsimp only at hT
  repeat' split at hT
  all_goals subst hT
  all_goals (try simp)
  all_goals (repeat' split)
  all_goals (try simp)

@[simp] theorem State.replaceInTrain_idents (s : State) (r : RefEntry) : (State.replaceInTrain s r).1.idents = s.idents := State.idents_eq _ _ (by simp)

@[simp] theorem State.replanOne_frame (s : State) (a c sh : Nat) (sto : Bool) :
    (State.replanOne s a c sh sto).1.pending = s.pending ∧
    (State.replanOne s a c sh sto).1.freeCtr = s.freeCtr ∧
    (State.replanOne s a c sh sto).1.coreTicks = s.coreTicks ∧
    (State.replanOne s a c sh sto).1.params = s.params ∧
    (State.replanOne s a c sh sto).1.cyc = s.cyc ∧
    (State.replanOne s a c sh sto).1.boot = s.boot ∧
    (State.replanOne s a c sh sto).1.ports = s.ports ∧
    (State.replanOne s a c sh sto).1.segs = s.segs ∧
    (State.replanOne s a c sh sto).1.opening = s.opening ∧
    (State.replanOne s a c sh sto).1.fbs = s.fbs ∧
    (State.replanOne s a c sh sto).1.steps = s.steps ∧
    (State.replanOne s a c sh sto).1.line = s.line ∧
    (State.replanOne s a c sh sto).1.moves = s.moves ∧
    (State.replanOne s a c sh sto).1.arb = s.arb ∧
    (State.replanOne s a c sh sto).1.saf = s.saf ∧
    (State.replanOne s a c sh sto).1.die = s.die ∧
    (State.replanOne s a c sh sto).1.fld = s.fld ∧
    (State.replanOne s a c sh sto).1.twin = s.twin ∧
    (State.replanOne s a c sh sto).1.scs = s.scs ∧
    (State.replanOne s a c sh sto).1.time = s.time ∧
    (State.replanOne s a c sh sto).1.host.keys = s.host.keys ∧
    (State.replanOne s a c sh sto).1.host.parQueue = s.host.parQueue := by
  generalize hT : State.replanOne s a c sh sto = res
  unfold State.replanOne at hT
  try dsimp only at hT
  repeat' split at hT
  all_goals subst hT
  all_goals (try simp)
  all_goals (repeat' split)
  all_goals (try simp)

@[simp] theorem State.replanOne_idents (s : State) (a c sh : Nat) (sto : Bool) : (State.replanOne s a c sh sto).1.idents = s.idents := by
  generalize hT : State.replanOne s a c sh sto = res
  unfold State.replanOne at hT
  try dsimp only at hT
  repeat' split at hT
  all_goals subst hT
  all_goals (try simp)
  all_goals (repeat' split)
  all_goals (try simp)
  all_goals (try rfl)
  all_goals (try exact State.idents_eq _ _ (by simp))
  all_goals (try simp [Session.ident])
  all_goals (try simp [Session.ident, State.session])
  all_goals (try simp [State.idents, State.session, Session.ident])

@[simp] theorem State.replanGo_frame (s : State) (a sh : Nat) (sto : Bool) (k0 : Nat) (k1 : Nat) :
    (State.replanGo s a sh sto k0 k1).1.pending = s.pending ∧
    (State.replanGo s a sh sto k0 k1).1.freeCtr = s.freeCtr ∧
    (State.replanGo s a sh sto k0 k1).1.coreTicks = s.coreTicks ∧
    (State.replanGo s a sh sto k0 k1).1.params = s.params ∧
    (State.replanGo s a sh sto k0 k1).1.cyc = s.cyc ∧
    (State.replanGo s a sh sto k0 k1).1.boot = s.boot ∧
    (State.replanGo s a sh sto k0 k1).1.ports = s.ports ∧
    (State.replanGo s a sh sto k0 k1).1.segs = s.segs ∧
    (State.replanGo s a sh sto k0 k1).1.opening = s.opening ∧
    (State.replanGo s a sh sto k0 k1).1.fbs = s.fbs ∧
    (State.replanGo s a sh sto k0 k1).1.steps = s.steps ∧
    (State.replanGo s a sh sto k0 k1).1.line = s.line ∧
    (State.replanGo s a sh sto k0 k1).1.moves = s.moves ∧
    (State.replanGo s a sh sto k0 k1).1.arb = s.arb ∧
    (State.replanGo s a sh sto k0 k1).1.saf = s.saf ∧
    (State.replanGo s a sh sto k0 k1).1.die = s.die ∧
    (State.replanGo s a sh sto k0 k1).1.fld = s.fld ∧
    (State.replanGo s a sh sto k0 k1).1.twin = s.twin ∧
    (State.replanGo s a sh sto k0 k1).1.scs = s.scs ∧
    (State.replanGo s a sh sto k0 k1).1.time = s.time ∧
    (State.replanGo s a sh sto k0 k1).1.host.keys = s.host.keys ∧
    (State.replanGo s a sh sto k0 k1).1.host.parQueue = s.host.parQueue := by
  induction k0 generalizing s a sh sto k1 with
  | zero => simp [State.replanGo]
  | succ k0 ih =>
    generalize hT : State.replanGo s a sh sto (k0 + 1) k1 = res
    unfold State.replanGo at hT
    try dsimp only at hT
    repeat' split at hT
    all_goals subst hT
    all_goals (try simp [ih])
    all_goals (repeat' split)
    all_goals (try simp [ih])

@[simp] theorem State.replanGo_idents (s : State) (a sh : Nat) (sto : Bool) (k0 : Nat) (k1 : Nat) : (State.replanGo s a sh sto k0 k1).1.idents = s.idents := by
  induction k0 generalizing s a sh sto k1 with
  | zero => simp [State.replanGo]
  | succ k0 ih =>
    generalize hT : State.replanGo s a sh sto (k0 + 1) k1 = res
    unfold State.replanGo at hT
    try dsimp only at hT
    repeat' split at hT
    all_goals subst hT
    all_goals (try simp [ih])
    all_goals (repeat' split)
    all_goals (try simp [ih])
    all_goals (try rfl)
    all_goals (try exact State.idents_eq _ _ (by simp))
    all_goals (try simp [Session.ident])
    all_goals (try simp [Session.ident, State.session])
    all_goals (try simp [State.idents, State.session, Session.ident])

@[simp] theorem State.sendRange_frame (s : State) (a a0 : Nat) (es : List RefEntry) :
    (State.sendRange s a a0 es).pending = s.pending ∧
    (State.sendRange s a a0 es).out = s.out ∧
    (State.sendRange s a a0 es).freeCtr = s.freeCtr ∧
    (State.sendRange s a a0 es).coreTicks = s.coreTicks ∧
    (State.sendRange s a a0 es).params = s.params ∧
    (State.sendRange s a a0 es).cyc = s.cyc ∧
    (State.sendRange s a a0 es).boot = s.boot ∧
    (State.sendRange s a a0 es).ports = s.ports ∧
    (State.sendRange s a a0 es).opening = s.opening ∧
    (State.sendRange s a a0 es).fbs = s.fbs ∧
    (State.sendRange s a a0 es).line = s.line ∧
    (State.sendRange s a a0 es).moves = s.moves ∧
    (State.sendRange s a a0 es).arb = s.arb ∧
    (State.sendRange s a a0 es).groups = s.groups ∧
    (State.sendRange s a a0 es).eng = s.eng ∧
    (State.sendRange s a a0 es).saf = s.saf ∧
    (State.sendRange s a a0 es).die = s.die ∧
    (State.sendRange s a a0 es).fld = s.fld ∧
    (State.sendRange s a a0 es).twin = s.twin ∧
    (State.sendRange s a a0 es).scs = s.scs ∧
    (State.sendRange s a a0 es).time = s.time ∧
    (State.sendRange s a a0 es).host = s.host := by
  generalize hT : State.sendRange s a a0 es = res
  unfold State.sendRange at hT
  try dsimp only at hT
  repeat' split at hT
  all_goals subst hT
  all_goals (try simp)
  all_goals (repeat' split)
  all_goals (try simp)

@[simp] theorem State.sendRange_idents (s : State) (a a0 : Nat) (es : List RefEntry) : (State.sendRange s a a0 es).idents = s.idents := State.idents_eq _ _ (by simp)

@[simp] theorem State.replaceFrom_frame (s : State) (a a0 : Nat) (sto : Bool) :
    (State.replaceFrom s a a0 sto).pending = s.pending ∧
    (State.replaceFrom s a a0 sto).freeCtr = s.freeCtr ∧
    (State.replaceFrom s a a0 sto).coreTicks = s.coreTicks ∧
    (State.replaceFrom s a a0 sto).params = s.params ∧
    (State.replaceFrom s a a0 sto).cyc = s.cyc ∧
    (State.replaceFrom s a a0 sto).boot = s.boot ∧
    (State.replaceFrom s a a0 sto).ports = s.ports ∧
    (State.replaceFrom s a a0 sto).opening = s.opening ∧
    (State.replaceFrom s a a0 sto).fbs = s.fbs ∧
    (State.replaceFrom s a a0 sto).line = s.line ∧
    (State.replaceFrom s a a0 sto).moves = s.moves ∧
    (State.replaceFrom s a a0 sto).arb = s.arb ∧
    (State.replaceFrom s a a0 sto).saf = s.saf ∧
    (State.replaceFrom s a a0 sto).die = s.die ∧
    (State.replaceFrom s a a0 sto).fld = s.fld ∧
    (State.replaceFrom s a a0 sto).twin = s.twin ∧
    (State.replaceFrom s a a0 sto).scs = s.scs ∧
    (State.replaceFrom s a a0 sto).time = s.time ∧
    (State.replaceFrom s a a0 sto).host.keys = s.host.keys ∧
    (State.replaceFrom s a a0 sto).host.parQueue = s.host.parQueue := by
  generalize hT : State.replaceFrom s a a0 sto = res
  unfold State.replaceFrom at hT
  try dsimp only at hT
  repeat' split at hT
  all_goals subst hT
  all_goals (try simp)
  all_goals (repeat' split)
  all_goals (try simp)

@[simp] theorem State.replaceFrom_idents (s : State) (a a0 : Nat) (sto : Bool) : (State.replaceFrom s a a0 sto).idents = s.idents := by
  generalize hT : State.replaceFrom s a a0 sto = res
  unfold State.replaceFrom at hT
  try dsimp only at hT
  repeat' split at hT
  all_goals subst hT
  all_goals (try simp)
  all_goals (repeat' split)
  all_goals (try simp)
  all_goals (try rfl)
  all_goals (try exact State.idents_eq _ _ (by simp))
  all_goals (try simp [Session.ident])
  all_goals (try simp [Session.ident, State.session])
  all_goals (try simp [State.idents, State.session, Session.ident])

@[simp] theorem State.alignStops_frame (s : State) (k : Nat) :
    (State.alignStops s k).pending = s.pending ∧
    (State.alignStops s k).out = s.out ∧
    (State.alignStops s k).freeCtr = s.freeCtr ∧
    (State.alignStops s k).coreTicks = s.coreTicks ∧
    (State.alignStops s k).params = s.params ∧
    (State.alignStops s k).cyc = s.cyc ∧
    (State.alignStops s k).boot = s.boot ∧
    (State.alignStops s k).ports = s.ports ∧
    (State.alignStops s k).segs = s.segs ∧
    (State.alignStops s k).opening = s.opening ∧
    (State.alignStops s k).fbs = s.fbs ∧
    (State.alignStops s k).steps = s.steps ∧
    (State.alignStops s k).line = s.line ∧
    (State.alignStops s k).moves = s.moves ∧
    (State.alignStops s k).arb = s.arb ∧
    (State.alignStops s k).groups = s.groups ∧
    (State.alignStops s k).eng = s.eng ∧
    (State.alignStops s k).saf = s.saf ∧
    (State.alignStops s k).die = s.die ∧
    (State.alignStops s k).fld = s.fld ∧
    (State.alignStops s k).twin = s.twin ∧
    (State.alignStops s k).scs = s.scs ∧
    (State.alignStops s k).time = s.time ∧
    (State.alignStops s k).host = s.host := by
  generalize hT : State.alignStops s k = res
  unfold State.alignStops at hT
  try dsimp only at hT
  repeat' split at hT
  all_goals subst hT
  all_goals (try simp)
  all_goals (repeat' split)
  all_goals (try simp)

@[simp] theorem State.alignStops_idents (s : State) (k : Nat) : (State.alignStops s k).idents = s.idents := State.idents_eq _ _ (by simp)

@[simp] theorem State.flushPlan_frame (s : State) (a k : Nat) :
    (State.flushPlan s a k).pending = s.pending ∧
    (State.flushPlan s a k).freeCtr = s.freeCtr ∧
    (State.flushPlan s a k).coreTicks = s.coreTicks ∧
    (State.flushPlan s a k).params = s.params ∧
    (State.flushPlan s a k).cyc = s.cyc ∧
    (State.flushPlan s a k).boot = s.boot ∧
    (State.flushPlan s a k).ports = s.ports ∧
    (State.flushPlan s a k).opening = s.opening ∧
    (State.flushPlan s a k).fbs = s.fbs ∧
    (State.flushPlan s a k).line = s.line ∧
    (State.flushPlan s a k).moves = s.moves ∧
    (State.flushPlan s a k).arb = s.arb ∧
    (State.flushPlan s a k).saf = s.saf ∧
    (State.flushPlan s a k).die = s.die ∧
    (State.flushPlan s a k).fld = s.fld ∧
    (State.flushPlan s a k).twin = s.twin ∧
    (State.flushPlan s a k).scs = s.scs ∧
    (State.flushPlan s a k).time = s.time ∧
    (State.flushPlan s a k).host.keys = s.host.keys ∧
    (State.flushPlan s a k).host.parQueue = s.host.parQueue := by
  generalize hT : State.flushPlan s a k = res
  unfold State.flushPlan at hT
  try dsimp only at hT
  repeat' split at hT
  all_goals subst hT
  all_goals (try simp)
  all_goals (repeat' split)
  all_goals (try simp)

@[simp] theorem State.flushPlan_idents (s : State) (a k : Nat) : (State.flushPlan s a k).idents = s.idents := by
  generalize hT : State.flushPlan s a k = res
  unfold State.flushPlan at hT
  try dsimp only at hT
  repeat' split at hT
  all_goals subst hT
  all_goals (try simp)
  all_goals (repeat' split)
  all_goals (try simp)
  all_goals (try rfl)
  all_goals (try exact State.idents_eq _ _ (by simp))
  all_goals (try simp [Session.ident])
  all_goals (try simp [Session.ident, State.session])
  all_goals (try simp [State.idents, State.session, Session.ident])

end Sys2Proof.Machine
end

