-- ==== Sys2Proof/Laws/FrameArbiterOps.lean ====
section
/-! SUPPORT. What the operations of Machine/ArbiterOps.lean leave unchanged: one rule per operation. -/

namespace Sys2Proof.Machine

@[simp] theorem State.setSpan_frame (s : State) (a pReq brake g : Nat) :
    (State.setSpan s a pReq brake g).pending = s.pending ∧
    (State.setSpan s a pReq brake g).out = s.out ∧
    (State.setSpan s a pReq brake g).freeCtr = s.freeCtr ∧
    (State.setSpan s a pReq brake g).coreTicks = s.coreTicks ∧
    (State.setSpan s a pReq brake g).params = s.params ∧
    (State.setSpan s a pReq brake g).cyc = s.cyc ∧
    (State.setSpan s a pReq brake g).boot = s.boot ∧
    (State.setSpan s a pReq brake g).ports = s.ports ∧
    (State.setSpan s a pReq brake g).segs = s.segs ∧
    (State.setSpan s a pReq brake g).opening = s.opening ∧
    (State.setSpan s a pReq brake g).fbs = s.fbs ∧
    (State.setSpan s a pReq brake g).steps = s.steps ∧
    (State.setSpan s a pReq brake g).line = s.line ∧
    (State.setSpan s a pReq brake g).moves = s.moves ∧
    (State.setSpan s a pReq brake g).arb = s.arb ∧
    (State.setSpan s a pReq brake g).groups = s.groups ∧
    (State.setSpan s a pReq brake g).eng = s.eng ∧
    (State.setSpan s a pReq brake g).saf = s.saf ∧
    (State.setSpan s a pReq brake g).die = s.die ∧
    (State.setSpan s a pReq brake g).fld = s.fld ∧
    (State.setSpan s a pReq brake g).twin = s.twin ∧
    (State.setSpan s a pReq brake g).scs = s.scs ∧
    (State.setSpan s a pReq brake g).time = s.time ∧
    (State.setSpan s a pReq brake g).host = s.host := by
  generalize hT : State.setSpan s a pReq brake g = res
  unfold State.setSpan at hT
  try dsimp only at hT
  repeat' split at hT
  all_goals subst hT
  all_goals (try simp)
  all_goals (repeat' split)
  all_goals (try simp)

@[simp] theorem State.setSpan_idents (s : State) (a pReq brake g : Nat) : (State.setSpan s a pReq brake g).idents = s.idents := State.idents_eq _ _ (by simp)

@[simp] theorem State.dropSpan_frame (s : State) (a : Nat) :
    (State.dropSpan s a).pending = s.pending ∧
    (State.dropSpan s a).out = s.out ∧
    (State.dropSpan s a).freeCtr = s.freeCtr ∧
    (State.dropSpan s a).coreTicks = s.coreTicks ∧
    (State.dropSpan s a).params = s.params ∧
    (State.dropSpan s a).cyc = s.cyc ∧
    (State.dropSpan s a).boot = s.boot ∧
    (State.dropSpan s a).ports = s.ports ∧
    (State.dropSpan s a).segs = s.segs ∧
    (State.dropSpan s a).opening = s.opening ∧
    (State.dropSpan s a).fbs = s.fbs ∧
    (State.dropSpan s a).steps = s.steps ∧
    (State.dropSpan s a).line = s.line ∧
    (State.dropSpan s a).moves = s.moves ∧
    (State.dropSpan s a).arb = s.arb ∧
    (State.dropSpan s a).eng = s.eng ∧
    (State.dropSpan s a).saf = s.saf ∧
    (State.dropSpan s a).die = s.die ∧
    (State.dropSpan s a).fld = s.fld ∧
    (State.dropSpan s a).twin = s.twin ∧
    (State.dropSpan s a).scs = s.scs ∧
    (State.dropSpan s a).time = s.time ∧
    (State.dropSpan s a).host = s.host := by
  generalize hT : State.dropSpan s a = res
  unfold State.dropSpan at hT
  try dsimp only at hT
  repeat' split at hT
  all_goals subst hT
  all_goals (try simp)
  all_goals (repeat' split)
  all_goals (try simp)

@[simp] theorem State.dropSpan_idents (s : State) (a : Nat) : (State.dropSpan s a).idents = s.idents := State.idents_eq _ _ (by simp)

@[simp] theorem State.takeMotion_frame (s : State) (a op : Nat) (ctx : Option CmdCtx) :
    (State.takeMotion s a op ctx).pending = s.pending ∧
    (State.takeMotion s a op ctx).freeCtr = s.freeCtr ∧
    (State.takeMotion s a op ctx).coreTicks = s.coreTicks ∧
    (State.takeMotion s a op ctx).params = s.params ∧
    (State.takeMotion s a op ctx).cyc = s.cyc ∧
    (State.takeMotion s a op ctx).boot = s.boot ∧
    (State.takeMotion s a op ctx).ports = s.ports ∧
    (State.takeMotion s a op ctx).segs = s.segs ∧
    (State.takeMotion s a op ctx).opening = s.opening ∧
    (State.takeMotion s a op ctx).fbs = s.fbs ∧
    (State.takeMotion s a op ctx).steps = s.steps ∧
    (State.takeMotion s a op ctx).line = s.line ∧
    (State.takeMotion s a op ctx).moves = s.moves ∧
    (State.takeMotion s a op ctx).arb = s.arb ∧
    (State.takeMotion s a op ctx).groups = s.groups ∧
    (State.takeMotion s a op ctx).eng = s.eng ∧
    (State.takeMotion s a op ctx).saf = s.saf ∧
    (State.takeMotion s a op ctx).die = s.die ∧
    (State.takeMotion s a op ctx).fld = s.fld ∧
    (State.takeMotion s a op ctx).twin = s.twin ∧
    (State.takeMotion s a op ctx).scs = s.scs ∧
    (State.takeMotion s a op ctx).time = s.time ∧
    (State.takeMotion s a op ctx).host.keys = s.host.keys ∧
    (State.takeMotion s a op ctx).host.parQueue = s.host.parQueue := by
  generalize hT : State.takeMotion s a op ctx = res
  unfold State.takeMotion at hT
  try dsimp only at hT
  repeat' split at hT
  all_goals subst hT
  all_goals (try simp)
  all_goals (repeat' split)
  all_goals (try simp)

@[simp] theorem State.takeMotion_idents (s : State) (a op : Nat) (ctx : Option CmdCtx) : (State.takeMotion s a op ctx).idents = s.idents := by
  generalize hT : State.takeMotion s a op ctx = res
  unfold State.takeMotion at hT
  try dsimp only at hT
  repeat' split at hT
  all_goals subst hT
  all_goals (try simp)
  all_goals (repeat' split)
  all_goals (try simp)
  all_goals (try rfl)
  all_goals (try exact State.idents_eq _ _ (by simp))
  all_goals (try simp [Session.ident])
  all_goals (try simp [Session.ident, State.session])
  all_goals (try simp [State.idents, State.session, Session.ident])

@[simp] theorem State.runProfile_frame (s : State) (a a0 first : Nat) (base r0 v0 : Int) :
    (State.runProfile s a a0 first base r0 v0).pending = s.pending ∧
    (State.runProfile s a a0 first base r0 v0).out = s.out ∧
    (State.runProfile s a a0 first base r0 v0).freeCtr = s.freeCtr ∧
    (State.runProfile s a a0 first base r0 v0).coreTicks = s.coreTicks ∧
    (State.runProfile s a a0 first base r0 v0).params = s.params ∧
    (State.runProfile s a a0 first base r0 v0).cyc = s.cyc ∧
    (State.runProfile s a a0 first base r0 v0).boot = s.boot ∧
    (State.runProfile s a a0 first base r0 v0).ports = s.ports ∧
    (State.runProfile s a a0 first base r0 v0).segs = s.segs ∧
    (State.runProfile s a a0 first base r0 v0).opening = s.opening ∧
    (State.runProfile s a a0 first base r0 v0).fbs = s.fbs ∧
    (State.runProfile s a a0 first base r0 v0).steps = s.steps ∧
    (State.runProfile s a a0 first base r0 v0).line = s.line ∧
    (State.runProfile s a a0 first base r0 v0).moves = s.moves ∧
    (State.runProfile s a a0 first base r0 v0).arb = s.arb ∧
    (State.runProfile s a a0 first base r0 v0).eng = s.eng ∧
    (State.runProfile s a a0 first base r0 v0).saf = s.saf ∧
    (State.runProfile s a a0 first base r0 v0).die = s.die ∧
    (State.runProfile s a a0 first base r0 v0).fld = s.fld ∧
    (State.runProfile s a a0 first base r0 v0).twin = s.twin ∧
    (State.runProfile s a a0 first base r0 v0).scs = s.scs ∧
    (State.runProfile s a a0 first base r0 v0).time = s.time ∧
    (State.runProfile s a a0 first base r0 v0).host = s.host := by
  generalize hT : State.runProfile s a a0 first base r0 v0 = res
  unfold State.runProfile at hT
  try dsimp only at hT
  repeat' split at hT
  all_goals subst hT
  all_goals (try simp)
  all_goals (repeat' split)
  all_goals (try simp)

@[simp] theorem State.runProfile_idents (s : State) (a a0 first : Nat) (base r0 v0 : Int) : (State.runProfile s a a0 first base r0 v0).idents = s.idents := State.idents_eq _ _ (by simp)

@[simp] theorem State.beginOne_frame (s : State) (a k : Nat) (kind : ReqKind) :
    (State.beginOne s a k kind).pending = s.pending ∧
    (State.beginOne s a k kind).freeCtr = s.freeCtr ∧
    (State.beginOne s a k kind).coreTicks = s.coreTicks ∧
    (State.beginOne s a k kind).params = s.params ∧
    (State.beginOne s a k kind).cyc = s.cyc ∧
    (State.beginOne s a k kind).boot = s.boot ∧
    (State.beginOne s a k kind).ports = s.ports ∧
    (State.beginOne s a k kind).opening = s.opening ∧
    (State.beginOne s a k kind).fbs = s.fbs ∧
    (State.beginOne s a k kind).line = s.line ∧
    (State.beginOne s a k kind).moves = s.moves ∧
    (State.beginOne s a k kind).arb = s.arb ∧
    (State.beginOne s a k kind).saf = s.saf ∧
    (State.beginOne s a k kind).die = s.die ∧
    (State.beginOne s a k kind).fld = s.fld ∧
    (State.beginOne s a k kind).twin = s.twin ∧
    (State.beginOne s a k kind).scs = s.scs ∧
    (State.beginOne s a k kind).time = s.time ∧
    (State.beginOne s a k kind).host.keys = s.host.keys ∧
    (State.beginOne s a k kind).host.parQueue = s.host.parQueue := by
  generalize hT : State.beginOne s a k kind = res
  unfold State.beginOne at hT
  try dsimp only at hT
  repeat' split at hT
  all_goals subst hT
  all_goals (try simp)
  all_goals (repeat' split)
  all_goals (try simp)

@[simp] theorem State.beginOne_idents (s : State) (a k : Nat) (kind : ReqKind) : (State.beginOne s a k kind).idents = s.idents := by
  generalize hT : State.beginOne s a k kind = res
  unfold State.beginOne at hT
  try dsimp only at hT
  repeat' split at hT
  all_goals subst hT
  all_goals (try simp)
  all_goals (repeat' split)
  all_goals (try simp)
  all_goals (try rfl)
  all_goals (try exact State.idents_eq _ _ (by simp))
  all_goals (try simp [Session.ident])
  all_goals (try simp [Session.ident, State.session])
  all_goals (try simp [State.idents, State.session, Session.ident])

@[simp] theorem State.beginGroup_frame (s : State) (k g : Nat) (ms : List (Nat × Int)) (h : Shape) :
    (State.beginGroup s k g ms h).pending = s.pending ∧
    (State.beginGroup s k g ms h).out = s.out ∧
    (State.beginGroup s k g ms h).freeCtr = s.freeCtr ∧
    (State.beginGroup s k g ms h).coreTicks = s.coreTicks ∧
    (State.beginGroup s k g ms h).params = s.params ∧
    (State.beginGroup s k g ms h).cyc = s.cyc ∧
    (State.beginGroup s k g ms h).boot = s.boot ∧
    (State.beginGroup s k g ms h).ports = s.ports ∧
    (State.beginGroup s k g ms h).segs = s.segs ∧
    (State.beginGroup s k g ms h).opening = s.opening ∧
    (State.beginGroup s k g ms h).fbs = s.fbs ∧
    (State.beginGroup s k g ms h).steps = s.steps ∧
    (State.beginGroup s k g ms h).line = s.line ∧
    (State.beginGroup s k g ms h).moves = s.moves ∧
    (State.beginGroup s k g ms h).arb = s.arb ∧
    (State.beginGroup s k g ms h).saf = s.saf ∧
    (State.beginGroup s k g ms h).die = s.die ∧
    (State.beginGroup s k g ms h).fld = s.fld ∧
    (State.beginGroup s k g ms h).twin = s.twin ∧
    (State.beginGroup s k g ms h).scs = s.scs ∧
    (State.beginGroup s k g ms h).time = s.time ∧
    (State.beginGroup s k g ms h).host = s.host := by
  generalize hT : State.beginGroup s k g ms h = res
  unfold State.beginGroup at hT
  try dsimp only at hT
  repeat' split at hT
  all_goals subst hT
  all_goals (try simp)
  all_goals (repeat' split)
  all_goals (try simp)

@[simp] theorem State.beginGroup_idents (s : State) (k g : Nat) (ms : List (Nat × Int)) (h : Shape) : (State.beginGroup s k g ms h).idents = s.idents := State.idents_eq _ _ (by simp)

@[simp] theorem State.admitStart_frame (s : State) (a k : Nat) (q : Request) :
    (State.admitStart s a k q).pending = s.pending ∧
    (State.admitStart s a k q).freeCtr = s.freeCtr ∧
    (State.admitStart s a k q).coreTicks = s.coreTicks ∧
    (State.admitStart s a k q).params = s.params ∧
    (State.admitStart s a k q).cyc = s.cyc ∧
    (State.admitStart s a k q).boot = s.boot ∧
    (State.admitStart s a k q).ports = s.ports ∧
    (State.admitStart s a k q).opening = s.opening ∧
    (State.admitStart s a k q).fbs = s.fbs ∧
    (State.admitStart s a k q).line = s.line ∧
    (State.admitStart s a k q).moves = s.moves ∧
    (State.admitStart s a k q).arb = s.arb ∧
    (State.admitStart s a k q).saf = s.saf ∧
    (State.admitStart s a k q).die = s.die ∧
    (State.admitStart s a k q).fld = s.fld ∧
    (State.admitStart s a k q).twin = s.twin ∧
    (State.admitStart s a k q).scs = s.scs ∧
    (State.admitStart s a k q).time = s.time ∧
    (State.admitStart s a k q).host.keys = s.host.keys ∧
    (State.admitStart s a k q).host.parQueue = s.host.parQueue := by
  generalize hT : State.admitStart s a k q = res
  unfold State.admitStart at hT
  try dsimp only at hT
  repeat' split at hT
  all_goals subst hT
  all_goals (try simp)
  all_goals (repeat' split)
  all_goals (try simp)

@[simp] theorem State.admitStart_idents (s : State) (a k : Nat) (q : Request) : (State.admitStart s a k q).idents = s.idents := by
  generalize hT : State.admitStart s a k q = res
  unfold State.admitStart at hT
  try dsimp only at hT
  repeat' split at hT
  all_goals subst hT
  all_goals (try simp)
  all_goals (repeat' split)
  all_goals (try simp)
  all_goals (try rfl)
  all_goals (try exact State.idents_eq _ _ (by simp))
  all_goals (try simp [Session.ident])
  all_goals (try simp [Session.ident, State.session])
  all_goals (try simp [State.idents, State.session, Session.ident])

@[simp] theorem State.defer_frame (s : State) (a g : Nat) :
    (State.defer s a g).pending = s.pending ∧
    (State.defer s a g).out = s.out ∧
    (State.defer s a g).freeCtr = s.freeCtr ∧
    (State.defer s a g).coreTicks = s.coreTicks ∧
    (State.defer s a g).params = s.params ∧
    (State.defer s a g).cyc = s.cyc ∧
    (State.defer s a g).boot = s.boot ∧
    (State.defer s a g).ports = s.ports ∧
    (State.defer s a g).segs = s.segs ∧
    (State.defer s a g).opening = s.opening ∧
    (State.defer s a g).fbs = s.fbs ∧
    (State.defer s a g).steps = s.steps ∧
    (State.defer s a g).line = s.line ∧
    (State.defer s a g).moves = s.moves ∧
    (State.defer s a g).arb = s.arb ∧
    (State.defer s a g).eng = s.eng ∧
    (State.defer s a g).saf = s.saf ∧
    (State.defer s a g).die = s.die ∧
    (State.defer s a g).fld = s.fld ∧
    (State.defer s a g).twin = s.twin ∧
    (State.defer s a g).scs = s.scs ∧
    (State.defer s a g).time = s.time ∧
    (State.defer s a g).host = s.host := by
  generalize hT : State.defer s a g = res
  unfold State.defer at hT
  try dsimp only at hT
  repeat' split at hT
  all_goals subst hT
  all_goals (try simp)
  all_goals (repeat' split)
  all_goals (try simp)

@[simp] theorem State.defer_idents (s : State) (a g : Nat) : (State.defer s a g).idents = s.idents := State.idents_eq _ _ (by simp)

@[simp] theorem State.dropLong_frame (s : State) (a : Nat) (q : Request) :
    (State.dropLong s a q).pending = s.pending ∧
    (State.dropLong s a q).freeCtr = s.freeCtr ∧
    (State.dropLong s a q).coreTicks = s.coreTicks ∧
    (State.dropLong s a q).params = s.params ∧
    (State.dropLong s a q).cyc = s.cyc ∧
    (State.dropLong s a q).boot = s.boot ∧
    (State.dropLong s a q).ports = s.ports ∧
    (State.dropLong s a q).segs = s.segs ∧
    (State.dropLong s a q).opening = s.opening ∧
    (State.dropLong s a q).fbs = s.fbs ∧
    (State.dropLong s a q).steps = s.steps ∧
    (State.dropLong s a q).line = s.line ∧
    (State.dropLong s a q).moves = s.moves ∧
    (State.dropLong s a q).arb = s.arb ∧
    (State.dropLong s a q).groups = s.groups ∧
    (State.dropLong s a q).eng = s.eng ∧
    (State.dropLong s a q).saf = s.saf ∧
    (State.dropLong s a q).die = s.die ∧
    (State.dropLong s a q).fld = s.fld ∧
    (State.dropLong s a q).twin = s.twin ∧
    (State.dropLong s a q).scs = s.scs ∧
    (State.dropLong s a q).time = s.time ∧
    (State.dropLong s a q).host.keys = s.host.keys ∧
    (State.dropLong s a q).host.parQueue = s.host.parQueue := by
  generalize hT : State.dropLong s a q = res
  unfold State.dropLong at hT
  try dsimp only at hT
  repeat' split at hT
  all_goals subst hT
  all_goals (try simp)
  all_goals (repeat' split)
  all_goals (try simp)

@[simp] theorem State.dropLong_idents (s : State) (a : Nat) (q : Request) : (State.dropLong s a q).idents = s.idents := by
  generalize hT : State.dropLong s a q = res
  unfold State.dropLong at hT
  try dsimp only at hT
  repeat' split at hT
  all_goals subst hT
  all_goals (try simp)
  all_goals (repeat' split)
  all_goals (try simp)
  all_goals (try rfl)
  all_goals (try exact State.idents_eq _ _ (by simp))
  all_goals (try simp [Session.ident])
  all_goals (try simp [Session.ident, State.session])
  all_goals (try simp [State.idents, State.session, Session.ident])

@[simp] theorem State.admitGroup_frame (s : State) (k g : Nat) :
    (State.admitGroup s k g).pending = s.pending ∧
    (State.admitGroup s k g).freeCtr = s.freeCtr ∧
    (State.admitGroup s k g).coreTicks = s.coreTicks ∧
    (State.admitGroup s k g).params = s.params ∧
    (State.admitGroup s k g).cyc = s.cyc ∧
    (State.admitGroup s k g).boot = s.boot ∧
    (State.admitGroup s k g).ports = s.ports ∧
    (State.admitGroup s k g).opening = s.opening ∧
    (State.admitGroup s k g).fbs = s.fbs ∧
    (State.admitGroup s k g).line = s.line ∧
    (State.admitGroup s k g).moves = s.moves ∧
    (State.admitGroup s k g).arb = s.arb ∧
    (State.admitGroup s k g).saf = s.saf ∧
    (State.admitGroup s k g).die = s.die ∧
    (State.admitGroup s k g).fld = s.fld ∧
    (State.admitGroup s k g).twin = s.twin ∧
    (State.admitGroup s k g).scs = s.scs ∧
    (State.admitGroup s k g).time = s.time ∧
    (State.admitGroup s k g).host.keys = s.host.keys ∧
    (State.admitGroup s k g).host.parQueue = s.host.parQueue := by
  generalize hT : State.admitGroup s k g = res
  unfold State.admitGroup at hT
  try dsimp only at hT
  repeat' split at hT
  all_goals subst hT
  all_goals (try simp)
  all_goals (repeat' split)
  all_goals (try simp)

@[simp] theorem State.admitGroup_idents (s : State) (k g : Nat) : (State.admitGroup s k g).idents = s.idents := by
  generalize hT : State.admitGroup s k g = res
  unfold State.admitGroup at hT
  try dsimp only at hT
  repeat' split at hT
  all_goals subst hT
  all_goals (try simp)
  all_goals (repeat' split)
  all_goals (try simp)
  all_goals (try rfl)
  all_goals (try exact State.idents_eq _ _ (by simp))
  all_goals (try simp [Session.ident])
  all_goals (try simp [Session.ident, State.session])
  all_goals (try simp [State.idents, State.session, Session.ident])

@[simp] theorem State.refillGroup_frame (s : State) (g : Nat) :
    (State.refillGroup s g).pending = s.pending ∧
    (State.refillGroup s g).out = s.out ∧
    (State.refillGroup s g).freeCtr = s.freeCtr ∧
    (State.refillGroup s g).coreTicks = s.coreTicks ∧
    (State.refillGroup s g).params = s.params ∧
    (State.refillGroup s g).cyc = s.cyc ∧
    (State.refillGroup s g).boot = s.boot ∧
    (State.refillGroup s g).ports = s.ports ∧
    (State.refillGroup s g).segs = s.segs ∧
    (State.refillGroup s g).opening = s.opening ∧
    (State.refillGroup s g).fbs = s.fbs ∧
    (State.refillGroup s g).axes = s.axes ∧
    (State.refillGroup s g).steps = s.steps ∧
    (State.refillGroup s g).line = s.line ∧
    (State.refillGroup s g).moves = s.moves ∧
    (State.refillGroup s g).arb = s.arb ∧
    (State.refillGroup s g).eng = s.eng ∧
    (State.refillGroup s g).saf = s.saf ∧
    (State.refillGroup s g).die = s.die ∧
    (State.refillGroup s g).fld = s.fld ∧
    (State.refillGroup s g).twin = s.twin ∧
    (State.refillGroup s g).scs = s.scs ∧
    (State.refillGroup s g).time = s.time ∧
    (State.refillGroup s g).host = s.host := by
  generalize hT : State.refillGroup s g = res
  unfold State.refillGroup at hT
  try dsimp only at hT
  repeat' split at hT
  all_goals subst hT
  all_goals (try simp)
  all_goals (repeat' split)
  all_goals (try simp)

@[simp] theorem State.refillGroup_idents (s : State) (g : Nat) : (State.refillGroup s g).idents = s.idents := State.idents_eq _ _ (by simp)

@[simp] theorem State.holdCharge_frame (s : State) (a : Nat) :
    (State.holdCharge s a).pending = s.pending ∧
    (State.holdCharge s a).out = s.out ∧
    (State.holdCharge s a).freeCtr = s.freeCtr ∧
    (State.holdCharge s a).coreTicks = s.coreTicks ∧
    (State.holdCharge s a).params = s.params ∧
    (State.holdCharge s a).cyc = s.cyc ∧
    (State.holdCharge s a).boot = s.boot ∧
    (State.holdCharge s a).ports = s.ports ∧
    (State.holdCharge s a).segs = s.segs ∧
    (State.holdCharge s a).opening = s.opening ∧
    (State.holdCharge s a).fbs = s.fbs ∧
    (State.holdCharge s a).axes = s.axes ∧
    (State.holdCharge s a).steps = s.steps ∧
    (State.holdCharge s a).line = s.line ∧
    (State.holdCharge s a).moves = s.moves ∧
    (State.holdCharge s a).arb = s.arb ∧
    (State.holdCharge s a).eng = s.eng ∧
    (State.holdCharge s a).saf = s.saf ∧
    (State.holdCharge s a).die = s.die ∧
    (State.holdCharge s a).fld = s.fld ∧
    (State.holdCharge s a).twin = s.twin ∧
    (State.holdCharge s a).scs = s.scs ∧
    (State.holdCharge s a).time = s.time ∧
    (State.holdCharge s a).host = s.host := by
  generalize hT : State.holdCharge s a = res
  unfold State.holdCharge at hT
  try dsimp only at hT
  repeat' split at hT
  all_goals subst hT
  all_goals (try simp)
  all_goals (repeat' split)
  all_goals (try simp)

@[simp] theorem State.holdCharge_idents (s : State) (a : Nat) : (State.holdCharge s a).idents = s.idents := State.idents_eq _ _ (by simp)

@[simp] theorem State.settleAxis_frame (s : State) (a : Nat) :
    (State.settleAxis s a).pending = s.pending ∧
    (State.settleAxis s a).out = s.out ∧
    (State.settleAxis s a).freeCtr = s.freeCtr ∧
    (State.settleAxis s a).coreTicks = s.coreTicks ∧
    (State.settleAxis s a).params = s.params ∧
    (State.settleAxis s a).cyc = s.cyc ∧
    (State.settleAxis s a).boot = s.boot ∧
    (State.settleAxis s a).ports = s.ports ∧
    (State.settleAxis s a).segs = s.segs ∧
    (State.settleAxis s a).opening = s.opening ∧
    (State.settleAxis s a).fbs = s.fbs ∧
    (State.settleAxis s a).steps = s.steps ∧
    (State.settleAxis s a).line = s.line ∧
    (State.settleAxis s a).moves = s.moves ∧
    (State.settleAxis s a).arb = s.arb ∧
    (State.settleAxis s a).eng = s.eng ∧
    (State.settleAxis s a).saf = s.saf ∧
    (State.settleAxis s a).die = s.die ∧
    (State.settleAxis s a).fld = s.fld ∧
    (State.settleAxis s a).twin = s.twin ∧
    (State.settleAxis s a).scs = s.scs ∧
    (State.settleAxis s a).time = s.time ∧
    (State.settleAxis s a).host = s.host := by
  generalize hT : State.settleAxis s a = res
  unfold State.settleAxis at hT
  try dsimp only at hT
  repeat' split at hT
  all_goals subst hT
  all_goals (try simp)
  all_goals (repeat' split)
  all_goals (try simp)

@[simp] theorem State.settleAxis_idents (s : State) (a : Nat) : (State.settleAxis s a).idents = s.idents := State.idents_eq _ _ (by simp)

@[simp] theorem State.landBudgetOne_frame (ws : List BudgetWrite) (s : State) (w : BudgetWrite) :
    (State.landBudgetOne ws s w).pending = s.pending ∧
    (State.landBudgetOne ws s w).freeCtr = s.freeCtr ∧
    (State.landBudgetOne ws s w).coreTicks = s.coreTicks ∧
    (State.landBudgetOne ws s w).cyc = s.cyc ∧
    (State.landBudgetOne ws s w).boot = s.boot ∧
    (State.landBudgetOne ws s w).ports = s.ports ∧
    (State.landBudgetOne ws s w).segs = s.segs ∧
    (State.landBudgetOne ws s w).opening = s.opening ∧
    (State.landBudgetOne ws s w).fbs = s.fbs ∧
    (State.landBudgetOne ws s w).axes = s.axes ∧
    (State.landBudgetOne ws s w).steps = s.steps ∧
    (State.landBudgetOne ws s w).line = s.line ∧
    (State.landBudgetOne ws s w).moves = s.moves ∧
    (State.landBudgetOne ws s w).arb = s.arb ∧
    (State.landBudgetOne ws s w).groups = s.groups ∧
    (State.landBudgetOne ws s w).eng = s.eng ∧
    (State.landBudgetOne ws s w).saf = s.saf ∧
    (State.landBudgetOne ws s w).die = s.die ∧
    (State.landBudgetOne ws s w).fld = s.fld ∧
    (State.landBudgetOne ws s w).twin = s.twin ∧
    (State.landBudgetOne ws s w).scs = s.scs ∧
    (State.landBudgetOne ws s w).time = s.time ∧
    (State.landBudgetOne ws s w).host.keys = s.host.keys ∧
    (State.landBudgetOne ws s w).host.parQueue = s.host.parQueue := by
  generalize hT : State.landBudgetOne ws s w = res
  unfold State.landBudgetOne at hT
  try dsimp only at hT
  repeat' split at hT
  all_goals subst hT
  all_goals (try simp)
  all_goals (repeat' split)
  all_goals (try simp)

@[simp] theorem State.landBudgetOne_idents (ws : List BudgetWrite) (s : State) (w : BudgetWrite) : (State.landBudgetOne ws s w).idents = s.idents := by
  generalize hT : State.landBudgetOne ws s w = res
  unfold State.landBudgetOne at hT
  try dsimp only at hT
  repeat' split at hT
  all_goals subst hT
  all_goals (try simp)
  all_goals (repeat' split)
  all_goals (try simp)
  all_goals (try rfl)
  all_goals (try exact State.idents_eq _ _ (by simp))
  all_goals (try simp [Session.ident])
  all_goals (try simp [Session.ident, State.session])
  all_goals (try simp [State.idents, State.session, Session.ident])

@[simp] theorem State.landBudget_frame (s : State) :
    (State.landBudget s).pending = s.pending ∧
    (State.landBudget s).freeCtr = s.freeCtr ∧
    (State.landBudget s).coreTicks = s.coreTicks ∧
    (State.landBudget s).cyc = s.cyc ∧
    (State.landBudget s).boot = s.boot ∧
    (State.landBudget s).ports = s.ports ∧
    (State.landBudget s).segs = s.segs ∧
    (State.landBudget s).opening = s.opening ∧
    (State.landBudget s).fbs = s.fbs ∧
    (State.landBudget s).axes = s.axes ∧
    (State.landBudget s).steps = s.steps ∧
    (State.landBudget s).line = s.line ∧
    (State.landBudget s).moves = s.moves ∧
    (State.landBudget s).groups = s.groups ∧
    (State.landBudget s).eng = s.eng ∧
    (State.landBudget s).saf = s.saf ∧
    (State.landBudget s).die = s.die ∧
    (State.landBudget s).fld = s.fld ∧
    (State.landBudget s).twin = s.twin ∧
    (State.landBudget s).scs = s.scs ∧
    (State.landBudget s).time = s.time ∧
    (State.landBudget s).host.keys = s.host.keys ∧
    (State.landBudget s).host.parQueue = s.host.parQueue := by
  generalize hT : State.landBudget s = res
  unfold State.landBudget at hT
  try dsimp only at hT
  repeat' split at hT
  all_goals subst hT
  all_goals (try simp)
  all_goals (repeat' split)
  all_goals (try simp)

@[simp] theorem State.landBudget_idents (s : State) : (State.landBudget s).idents = s.idents := by
  generalize hT : State.landBudget s = res
  unfold State.landBudget at hT
  try dsimp only at hT
  repeat' split at hT
  all_goals subst hT
  all_goals (try simp)
  all_goals (repeat' split)
  all_goals (try simp)
  all_goals (try rfl)
  all_goals (try exact State.idents_eq _ _ (by simp))
  all_goals (try simp [Session.ident])
  all_goals (try simp [Session.ident, State.session])
  all_goals (try simp [State.idents, State.session, Session.ident])

@[simp] theorem State.noteQueues_frame (s : State) :
    (State.noteQueues s).pending = s.pending ∧
    (State.noteQueues s).out = s.out ∧
    (State.noteQueues s).freeCtr = s.freeCtr ∧
    (State.noteQueues s).coreTicks = s.coreTicks ∧
    (State.noteQueues s).params = s.params ∧
    (State.noteQueues s).cyc = s.cyc ∧
    (State.noteQueues s).boot = s.boot ∧
    (State.noteQueues s).ports = s.ports ∧
    (State.noteQueues s).segs = s.segs ∧
    (State.noteQueues s).opening = s.opening ∧
    (State.noteQueues s).fbs = s.fbs ∧
    (State.noteQueues s).axes = s.axes ∧
    (State.noteQueues s).steps = s.steps ∧
    (State.noteQueues s).line = s.line ∧
    (State.noteQueues s).moves = s.moves ∧
    (State.noteQueues s).groups = s.groups ∧
    (State.noteQueues s).eng = s.eng ∧
    (State.noteQueues s).saf = s.saf ∧
    (State.noteQueues s).die = s.die ∧
    (State.noteQueues s).fld = s.fld ∧
    (State.noteQueues s).twin = s.twin ∧
    (State.noteQueues s).scs = s.scs ∧
    (State.noteQueues s).time = s.time ∧
    (State.noteQueues s).host = s.host := by
  generalize hT : State.noteQueues s = res
  unfold State.noteQueues at hT
  try dsimp only at hT
  repeat' split at hT
  all_goals subst hT
  all_goals (try simp)
  all_goals (repeat' split)
  all_goals (try simp)

@[simp] theorem State.noteQueues_idents (s : State) : (State.noteQueues s).idents = s.idents := State.idents_eq _ _ (by simp)

@[simp] theorem State.sealArbiter_frame (s : State) (k : Nat) :
    (State.sealArbiter s k).pending = s.pending ∧
    (State.sealArbiter s k).freeCtr = s.freeCtr ∧
    (State.sealArbiter s k).coreTicks = s.coreTicks ∧
    (State.sealArbiter s k).cyc = s.cyc ∧
    (State.sealArbiter s k).boot = s.boot ∧
    (State.sealArbiter s k).ports = s.ports ∧
    (State.sealArbiter s k).opening = s.opening ∧
    (State.sealArbiter s k).fbs = s.fbs ∧
    (State.sealArbiter s k).line = s.line ∧
    (State.sealArbiter s k).moves = s.moves ∧
    (State.sealArbiter s k).saf = s.saf ∧
    (State.sealArbiter s k).die = s.die ∧
    (State.sealArbiter s k).fld = s.fld ∧
    (State.sealArbiter s k).twin = s.twin ∧
    (State.sealArbiter s k).scs = s.scs ∧
    (State.sealArbiter s k).time = s.time ∧
    (State.sealArbiter s k).host.keys = s.host.keys ∧
    (State.sealArbiter s k).host.parQueue = s.host.parQueue := by
  generalize hT : State.sealArbiter s k = res
  unfold State.sealArbiter at hT
  try dsimp only at hT
  repeat' split at hT
  all_goals subst hT
  all_goals (try simp)
  all_goals (repeat' split)
  all_goals (try simp)

@[simp] theorem State.sealArbiter_idents (s : State) (k : Nat) : (State.sealArbiter s k).idents = s.idents := by
  generalize hT : State.sealArbiter s k = res
  unfold State.sealArbiter at hT
  try dsimp only at hT
  repeat' split at hT
  all_goals subst hT
  all_goals (try simp)
  all_goals (repeat' split)
  all_goals (try simp)
  all_goals (try rfl)
  all_goals (try exact State.idents_eq _ _ (by simp))
  all_goals (try simp [Session.ident])
  all_goals (try simp [Session.ident, State.session])
  all_goals (try simp [State.idents, State.session, Session.ident])

end Sys2Proof.Machine
end

