-- ==== Sys2Proof/Laws/FrameEngine.lean ====
section
/-! SUPPORT. What the operations of Machine/Engine.lean leave unchanged: one rule per operation. -/

namespace Sys2Proof.Machine

@[simp] theorem State.writeWord_frame (s : State) (e : Nat) (addr : Nat) (v : Word48) :
    (State.writeWord s e addr v).pending = s.pending ∧
    (State.writeWord s e addr v).out = s.out ∧
    (State.writeWord s e addr v).freeCtr = s.freeCtr ∧
    (State.writeWord s e addr v).coreTicks = s.coreTicks ∧
    (State.writeWord s e addr v).params = s.params ∧
    (State.writeWord s e addr v).cyc = s.cyc ∧
    (State.writeWord s e addr v).boot = s.boot ∧
    (State.writeWord s e addr v).ports = s.ports ∧
    (State.writeWord s e addr v).segs = s.segs ∧
    (State.writeWord s e addr v).opening = s.opening ∧
    (State.writeWord s e addr v).fbs = s.fbs ∧
    (State.writeWord s e addr v).steps = s.steps ∧
    (State.writeWord s e addr v).line = s.line ∧
    (State.writeWord s e addr v).moves = s.moves ∧
    (State.writeWord s e addr v).arb = s.arb ∧
    (State.writeWord s e addr v).groups = s.groups ∧
    (State.writeWord s e addr v).saf = s.saf ∧
    (State.writeWord s e addr v).die = s.die ∧
    (State.writeWord s e addr v).fld = s.fld ∧
    (State.writeWord s e addr v).twin = s.twin ∧
    (State.writeWord s e addr v).scs = s.scs ∧
    (State.writeWord s e addr v).time = s.time ∧
    (State.writeWord s e addr v).host = s.host := by
  generalize hT : State.writeWord s e addr v = res
  unfold State.writeWord at hT
  try dsimp only at hT
  repeat' split at hT
  all_goals subst hT
  all_goals (try simp)
  all_goals (repeat' split)
  all_goals (try simp)

@[simp] theorem State.writeWord_idents (s : State) (e : Nat) (addr : Nat) (v : Word48) : (State.writeWord s e addr v).idents = s.idents := State.idents_eq _ _ (by simp)

@[simp] theorem State.retire_frame (s : State) (e : Nat) (k0 : Nat) :
    (State.retire s e k0).pending = s.pending ∧
    (State.retire s e k0).out = s.out ∧
    (State.retire s e k0).freeCtr = s.freeCtr ∧
    (State.retire s e k0).coreTicks = s.coreTicks ∧
    (State.retire s e k0).params = s.params ∧
    (State.retire s e k0).cyc = s.cyc ∧
    (State.retire s e k0).boot = s.boot ∧
    (State.retire s e k0).ports = s.ports ∧
    (State.retire s e k0).segs = s.segs ∧
    (State.retire s e k0).opening = s.opening ∧
    (State.retire s e k0).fbs = s.fbs ∧
    (State.retire s e k0).steps = s.steps ∧
    (State.retire s e k0).line = s.line ∧
    (State.retire s e k0).moves = s.moves ∧
    (State.retire s e k0).arb = s.arb ∧
    (State.retire s e k0).groups = s.groups ∧
    (State.retire s e k0).saf = s.saf ∧
    (State.retire s e k0).die = s.die ∧
    (State.retire s e k0).fld = s.fld ∧
    (State.retire s e k0).twin = s.twin ∧
    (State.retire s e k0).scs = s.scs ∧
    (State.retire s e k0).time = s.time ∧
    (State.retire s e k0).host = s.host := by
  induction k0 generalizing s e with
  | zero => simp [State.retire]
  | succ k0 ih =>
    generalize hT : State.retire s e (k0 + 1) = res
    unfold State.retire at hT
    try dsimp only at hT
    repeat' split at hT
    all_goals subst hT
    all_goals (try simp [ih])
    all_goals (repeat' split)
    all_goals (try simp [ih])

@[simp] theorem State.retire_idents (s : State) (e : Nat) (k0 : Nat) : (State.retire s e k0).idents = s.idents := State.idents_eq _ _ (by simp)

@[simp] theorem State.drain_frame (s : State) (e : Nat) :
    (State.drain s e).pending = s.pending ∧
    (State.drain s e).out = s.out ∧
    (State.drain s e).freeCtr = s.freeCtr ∧
    (State.drain s e).coreTicks = s.coreTicks ∧
    (State.drain s e).params = s.params ∧
    (State.drain s e).cyc = s.cyc ∧
    (State.drain s e).boot = s.boot ∧
    (State.drain s e).ports = s.ports ∧
    (State.drain s e).segs = s.segs ∧
    (State.drain s e).opening = s.opening ∧
    (State.drain s e).fbs = s.fbs ∧
    (State.drain s e).steps = s.steps ∧
    (State.drain s e).line = s.line ∧
    (State.drain s e).moves = s.moves ∧
    (State.drain s e).arb = s.arb ∧
    (State.drain s e).groups = s.groups ∧
    (State.drain s e).saf = s.saf ∧
    (State.drain s e).die = s.die ∧
    (State.drain s e).fld = s.fld ∧
    (State.drain s e).twin = s.twin ∧
    (State.drain s e).scs = s.scs ∧
    (State.drain s e).time = s.time ∧
    (State.drain s e).host = s.host := by
  generalize hT : State.drain s e = res
  unfold State.drain at hT
  try dsimp only at hT
  repeat' split at hT
  all_goals subst hT
  all_goals (try simp)
  all_goals (repeat' split)
  all_goals (try simp)

@[simp] theorem State.drain_idents (s : State) (e : Nat) : (State.drain s e).idents = s.idents := State.idents_eq _ _ (by simp)

@[simp] theorem State.taskEnded_frame (s : State) (o : Owner) (cycle : Nat) :
    (State.taskEnded s o cycle).pending = s.pending ∧
    (State.taskEnded s o cycle).out = s.out ∧
    (State.taskEnded s o cycle).freeCtr = s.freeCtr ∧
    (State.taskEnded s o cycle).coreTicks = s.coreTicks ∧
    (State.taskEnded s o cycle).params = s.params ∧
    (State.taskEnded s o cycle).cyc = s.cyc ∧
    (State.taskEnded s o cycle).boot = s.boot ∧
    (State.taskEnded s o cycle).ports = s.ports ∧
    (State.taskEnded s o cycle).segs = s.segs ∧
    (State.taskEnded s o cycle).opening = s.opening ∧
    (State.taskEnded s o cycle).fbs = s.fbs ∧
    (State.taskEnded s o cycle).axes = s.axes ∧
    (State.taskEnded s o cycle).steps = s.steps ∧
    (State.taskEnded s o cycle).line = s.line ∧
    (State.taskEnded s o cycle).moves = s.moves ∧
    (State.taskEnded s o cycle).arb = s.arb ∧
    (State.taskEnded s o cycle).groups = s.groups ∧
    (State.taskEnded s o cycle).saf = s.saf ∧
    (State.taskEnded s o cycle).die = s.die ∧
    (State.taskEnded s o cycle).fld = s.fld ∧
    (State.taskEnded s o cycle).twin = s.twin ∧
    (State.taskEnded s o cycle).scs = s.scs ∧
    (State.taskEnded s o cycle).time = s.time ∧
    (State.taskEnded s o cycle).host = s.host := by
  generalize hT : State.taskEnded s o cycle = res
  unfold State.taskEnded at hT
  try dsimp only at hT
  repeat' split at hT
  all_goals subst hT
  all_goals (try simp)
  all_goals (repeat' split)
  all_goals (try simp)

@[simp] theorem State.taskEnded_idents (s : State) (o : Owner) (cycle : Nat) : (State.taskEnded s o cycle).idents = s.idents := State.idents_eq _ _ (by simp)

@[simp] theorem State.modOwnerTask_frame (s : State) (o : Owner) (f : TaskSt → TaskSt) :
    (State.modOwnerTask s o f).pending = s.pending ∧
    (State.modOwnerTask s o f).out = s.out ∧
    (State.modOwnerTask s o f).freeCtr = s.freeCtr ∧
    (State.modOwnerTask s o f).coreTicks = s.coreTicks ∧
    (State.modOwnerTask s o f).params = s.params ∧
    (State.modOwnerTask s o f).cyc = s.cyc ∧
    (State.modOwnerTask s o f).boot = s.boot ∧
    (State.modOwnerTask s o f).ports = s.ports ∧
    (State.modOwnerTask s o f).segs = s.segs ∧
    (State.modOwnerTask s o f).opening = s.opening ∧
    (State.modOwnerTask s o f).fbs = s.fbs ∧
    (State.modOwnerTask s o f).steps = s.steps ∧
    (State.modOwnerTask s o f).moves = s.moves ∧
    (State.modOwnerTask s o f).arb = s.arb ∧
    (State.modOwnerTask s o f).groups = s.groups ∧
    (State.modOwnerTask s o f).eng = s.eng ∧
    (State.modOwnerTask s o f).saf = s.saf ∧
    (State.modOwnerTask s o f).die = s.die ∧
    (State.modOwnerTask s o f).fld = s.fld ∧
    (State.modOwnerTask s o f).twin = s.twin ∧
    (State.modOwnerTask s o f).scs = s.scs ∧
    (State.modOwnerTask s o f).time = s.time ∧
    (State.modOwnerTask s o f).host = s.host := by
  generalize hT : State.modOwnerTask s o f = res
  unfold State.modOwnerTask at hT
  try dsimp only at hT
  repeat' split at hT
  all_goals subst hT
  all_goals (try simp)
  all_goals (repeat' split)
  all_goals (try simp)

@[simp] theorem State.modOwnerTask_idents (s : State) (o : Owner) (f : TaskSt → TaskSt) : (State.modOwnerTask s o f).idents = s.idents := State.idents_eq _ _ (by simp)

@[simp] theorem State.stalled_frame (s : State) (e : Nat) (r : Running) :
    (State.stalled s e r).1.pending = s.pending ∧
    (State.stalled s e r).1.out = s.out ∧
    (State.stalled s e r).1.coreTicks = s.coreTicks ∧
    (State.stalled s e r).1.params = s.params ∧
    (State.stalled s e r).1.cyc = s.cyc ∧
    (State.stalled s e r).1.boot = s.boot ∧
    (State.stalled s e r).1.ports = s.ports ∧
    (State.stalled s e r).1.segs = s.segs ∧
    (State.stalled s e r).1.opening = s.opening ∧
    (State.stalled s e r).1.fbs = s.fbs ∧
    (State.stalled s e r).1.axes = s.axes ∧
    (State.stalled s e r).1.steps = s.steps ∧
    (State.stalled s e r).1.line = s.line ∧
    (State.stalled s e r).1.moves = s.moves ∧
    (State.stalled s e r).1.arb = s.arb ∧
    (State.stalled s e r).1.groups = s.groups ∧
    (State.stalled s e r).1.saf = s.saf ∧
    (State.stalled s e r).1.die = s.die ∧
    (State.stalled s e r).1.fld = s.fld ∧
    (State.stalled s e r).1.twin = s.twin ∧
    (State.stalled s e r).1.scs = s.scs ∧
    (State.stalled s e r).1.time = s.time ∧
    (State.stalled s e r).1.host = s.host := by
  generalize hT : State.stalled s e r = res
  unfold State.stalled at hT
  try dsimp only at hT
  repeat' split at hT
  all_goals subst hT
  all_goals (try simp)
  all_goals (repeat' split)
  all_goals (try simp)

@[simp] theorem State.stalled_idents (s : State) (e : Nat) (r : Running) : (State.stalled s e r).1.idents = s.idents := State.idents_eq _ _ (by simp)

@[simp] theorem State.recordTask_frame (s : State) (e : Nat) (r : Running) :
    (State.recordTask s e r).pending = s.pending ∧
    (State.recordTask s e r).out = s.out ∧
    (State.recordTask s e r).freeCtr = s.freeCtr ∧
    (State.recordTask s e r).coreTicks = s.coreTicks ∧
    (State.recordTask s e r).params = s.params ∧
    (State.recordTask s e r).cyc = s.cyc ∧
    (State.recordTask s e r).boot = s.boot ∧
    (State.recordTask s e r).ports = s.ports ∧
    (State.recordTask s e r).segs = s.segs ∧
    (State.recordTask s e r).opening = s.opening ∧
    (State.recordTask s e r).fbs = s.fbs ∧
    (State.recordTask s e r).steps = s.steps ∧
    (State.recordTask s e r).moves = s.moves ∧
    (State.recordTask s e r).arb = s.arb ∧
    (State.recordTask s e r).groups = s.groups ∧
    (State.recordTask s e r).saf = s.saf ∧
    (State.recordTask s e r).die = s.die ∧
    (State.recordTask s e r).fld = s.fld ∧
    (State.recordTask s e r).twin = s.twin ∧
    (State.recordTask s e r).scs = s.scs ∧
    (State.recordTask s e r).time = s.time ∧
    (State.recordTask s e r).host = s.host := by
  generalize hT : State.recordTask s e r = res
  unfold State.recordTask at hT
  try dsimp only at hT
  repeat' split at hT
  all_goals subst hT
  all_goals (try simp)
  all_goals (repeat' split)
  all_goals (try simp)

@[simp] theorem State.recordTask_idents (s : State) (e : Nat) (r : Running) : (State.recordTask s e r).idents = s.idents := State.idents_eq _ _ (by simp)

@[simp] theorem State.costEvent_frame (s : State) (r : Running) :
    (State.costEvent s r).pending = s.pending ∧
    (State.costEvent s r).freeCtr = s.freeCtr ∧
    (State.costEvent s r).coreTicks = s.coreTicks ∧
    (State.costEvent s r).params = s.params ∧
    (State.costEvent s r).cyc = s.cyc ∧
    (State.costEvent s r).boot = s.boot ∧
    (State.costEvent s r).ports = s.ports ∧
    (State.costEvent s r).segs = s.segs ∧
    (State.costEvent s r).opening = s.opening ∧
    (State.costEvent s r).fbs = s.fbs ∧
    (State.costEvent s r).steps = s.steps ∧
    (State.costEvent s r).moves = s.moves ∧
    (State.costEvent s r).arb = s.arb ∧
    (State.costEvent s r).groups = s.groups ∧
    (State.costEvent s r).eng = s.eng ∧
    (State.costEvent s r).saf = s.saf ∧
    (State.costEvent s r).die = s.die ∧
    (State.costEvent s r).fld = s.fld ∧
    (State.costEvent s r).twin = s.twin ∧
    (State.costEvent s r).scs = s.scs ∧
    (State.costEvent s r).time = s.time ∧
    (State.costEvent s r).host.keys = s.host.keys ∧
    (State.costEvent s r).host.parQueue = s.host.parQueue := by
  generalize hT : State.costEvent s r = res
  unfold State.costEvent at hT
  try dsimp only at hT
  repeat' split at hT
  all_goals subst hT
  all_goals (try simp)
  all_goals (repeat' split)
  all_goals (try simp)

@[simp] theorem State.costEvent_idents (s : State) (r : Running) : (State.costEvent s r).idents = s.idents := by
  generalize hT : State.costEvent s r = res
  unfold State.costEvent at hT
  try dsimp only at hT
  repeat' split at hT
  all_goals subst hT
  all_goals (try simp)
  all_goals (repeat' split)
  all_goals (try simp)
  all_goals (try rfl)
  all_goals (try exact State.idents_eq _ _ (by simp))
  all_goals (try simp [Session.ident])
  all_goals (try simp [Session.ident, State.session])
  all_goals (try simp [State.idents, State.session, Session.ident])

@[simp] theorem State.takeRotation_frame (s : State) (e : Nat) :
    (State.takeRotation s e).pending = s.pending ∧
    (State.takeRotation s e).out = s.out ∧
    (State.takeRotation s e).freeCtr = s.freeCtr ∧
    (State.takeRotation s e).coreTicks = s.coreTicks ∧
    (State.takeRotation s e).params = s.params ∧
    (State.takeRotation s e).cyc = s.cyc ∧
    (State.takeRotation s e).boot = s.boot ∧
    (State.takeRotation s e).ports = s.ports ∧
    (State.takeRotation s e).segs = s.segs ∧
    (State.takeRotation s e).opening = s.opening ∧
    (State.takeRotation s e).fbs = s.fbs ∧
    (State.takeRotation s e).axes = s.axes ∧
    (State.takeRotation s e).steps = s.steps ∧
    (State.takeRotation s e).line = s.line ∧
    (State.takeRotation s e).moves = s.moves ∧
    (State.takeRotation s e).arb = s.arb ∧
    (State.takeRotation s e).groups = s.groups ∧
    (State.takeRotation s e).saf = s.saf ∧
    (State.takeRotation s e).die = s.die ∧
    (State.takeRotation s e).fld = s.fld ∧
    (State.takeRotation s e).twin = s.twin ∧
    (State.takeRotation s e).scs = s.scs ∧
    (State.takeRotation s e).time = s.time ∧
    (State.takeRotation s e).host = s.host := by
  generalize hT : State.takeRotation s e = res
  unfold State.takeRotation at hT
  try dsimp only at hT
  repeat' split at hT
  all_goals subst hT
  all_goals (try simp)
  all_goals (repeat' split)
  all_goals (try simp)

@[simp] theorem State.takeRotation_idents (s : State) (e : Nat) : (State.takeRotation s e).idents = s.idents := State.idents_eq _ _ (by simp)

@[simp] theorem State.taskFault_frame (s : State) (e cause code axCause : Nat) :
    (State.taskFault s e cause code axCause).pending = s.pending ∧
    (State.taskFault s e cause code axCause).coreTicks = s.coreTicks ∧
    (State.taskFault s e cause code axCause).params = s.params ∧
    (State.taskFault s e cause code axCause).cyc = s.cyc ∧
    (State.taskFault s e cause code axCause).boot = s.boot ∧
    (State.taskFault s e cause code axCause).ports = s.ports ∧
    (State.taskFault s e cause code axCause).segs = s.segs ∧
    (State.taskFault s e cause code axCause).opening = s.opening ∧
    (State.taskFault s e cause code axCause).fbs = s.fbs ∧
    (State.taskFault s e cause code axCause).steps = s.steps ∧
    (State.taskFault s e cause code axCause).moves = s.moves ∧
    (State.taskFault s e cause code axCause).arb = s.arb ∧
    (State.taskFault s e cause code axCause).groups = s.groups ∧
    (State.taskFault s e cause code axCause).saf = s.saf ∧
    (State.taskFault s e cause code axCause).die = s.die ∧
    (State.taskFault s e cause code axCause).fld = s.fld ∧
    (State.taskFault s e cause code axCause).twin = s.twin ∧
    (State.taskFault s e cause code axCause).scs = s.scs ∧
    (State.taskFault s e cause code axCause).time = s.time ∧
    (State.taskFault s e cause code axCause).host.keys = s.host.keys ∧
    (State.taskFault s e cause code axCause).host.parQueue = s.host.parQueue := by
  generalize hT : State.taskFault s e cause code axCause = res
  unfold State.taskFault at hT
  try dsimp only at hT
  repeat' split at hT
  all_goals subst hT
  all_goals (try simp)
  all_goals (repeat' split)
  all_goals (try simp)

@[simp] theorem State.taskFault_idents (s : State) (e cause code axCause : Nat) : (State.taskFault s e cause code axCause).idents = s.idents := by
  generalize hT : State.taskFault s e cause code axCause = res
  unfold State.taskFault at hT
  try dsimp only at hT
  repeat' split at hT
  all_goals subst hT
  all_goals (try simp)
  all_goals (repeat' split)
  all_goals (try simp)
  all_goals (try rfl)
  all_goals (try exact State.idents_eq _ _ (by simp))
  all_goals (try simp [Session.ident])
  all_goals (try simp [Session.ident, State.session])
  all_goals (try simp [State.idents, State.session, Session.ident])

@[simp] theorem State.engineFail_frame (s : State) (e cause : Nat) :
    (State.engineFail s e cause).pending = s.pending ∧
    (State.engineFail s e cause).params = s.params ∧
    (State.engineFail s e cause).boot = s.boot ∧
    (State.engineFail s e cause).segs = s.segs ∧
    (State.engineFail s e cause).opening = s.opening ∧
    (State.engineFail s e cause).moves = s.moves ∧
    (State.engineFail s e cause).arb = s.arb ∧
    (State.engineFail s e cause).groups = s.groups ∧
    (State.engineFail s e cause).die = s.die ∧
    (State.engineFail s e cause).scs = s.scs ∧
    (State.engineFail s e cause).twin.standby = s.twin.standby ∧
    (State.engineFail s e cause).host.keys = s.host.keys ∧
    (State.engineFail s e cause).host.parQueue = s.host.parQueue ∧
    (State.engineFail s e cause).cyc.cycle = s.cyc.cycle := by
  generalize hT : State.engineFail s e cause = res
  unfold State.engineFail at hT
  try dsimp only at hT
  repeat' split at hT
  all_goals subst hT
  all_goals (try simp)
  all_goals (repeat' split)
  all_goals (try simp)

@[simp] theorem State.engineFail_idents (s : State) (e cause : Nat) : (State.engineFail s e cause).idents = s.idents := by
  generalize hT : State.engineFail s e cause = res
  unfold State.engineFail at hT
  try dsimp only at hT
  repeat' split at hT
  all_goals subst hT
  all_goals (try simp)
  all_goals (repeat' split)
  all_goals (try simp)
  all_goals (try rfl)
  all_goals (try exact State.idents_eq _ _ (by simp))
  all_goals (try simp [Session.ident])
  all_goals (try simp [Session.ident, State.session])
  all_goals (try simp [State.idents, State.session, Session.ident])

@[simp] theorem State.addTrain_frame (s : State) (sl : Nat) (r : RefEntry) :
    (State.addTrain s sl r).pending = s.pending ∧
    (State.addTrain s sl r).out = s.out ∧
    (State.addTrain s sl r).freeCtr = s.freeCtr ∧
    (State.addTrain s sl r).coreTicks = s.coreTicks ∧
    (State.addTrain s sl r).params = s.params ∧
    (State.addTrain s sl r).cyc = s.cyc ∧
    (State.addTrain s sl r).boot = s.boot ∧
    (State.addTrain s sl r).ports = s.ports ∧
    (State.addTrain s sl r).segs = s.segs ∧
    (State.addTrain s sl r).opening = s.opening ∧
    (State.addTrain s sl r).fbs = s.fbs ∧
    (State.addTrain s sl r).axes = s.axes ∧
    (State.addTrain s sl r).steps = s.steps ∧
    (State.addTrain s sl r).line = s.line ∧
    (State.addTrain s sl r).moves = s.moves ∧
    (State.addTrain s sl r).arb = s.arb ∧
    (State.addTrain s sl r).groups = s.groups ∧
    (State.addTrain s sl r).saf = s.saf ∧
    (State.addTrain s sl r).die = s.die ∧
    (State.addTrain s sl r).fld = s.fld ∧
    (State.addTrain s sl r).twin = s.twin ∧
    (State.addTrain s sl r).scs = s.scs ∧
    (State.addTrain s sl r).time = s.time ∧
    (State.addTrain s sl r).host = s.host := by
  generalize hT : State.addTrain s sl r = res
  unfold State.addTrain at hT
  try dsimp only at hT
  repeat' split at hT
  all_goals subst hT
  all_goals (try simp)
  all_goals (repeat' split)
  all_goals (try simp)

@[simp] theorem State.addTrain_idents (s : State) (sl : Nat) (r : RefEntry) : (State.addTrain s sl r).idents = s.idents := State.idents_eq _ _ (by simp)

@[simp] theorem State.noteDigest_frame (s : State) (r : Running) (q : Option RefEntry) :
    (State.noteDigest s r q).pending = s.pending ∧
    (State.noteDigest s r q).out = s.out ∧
    (State.noteDigest s r q).coreTicks = s.coreTicks ∧
    (State.noteDigest s r q).params = s.params ∧
    (State.noteDigest s r q).cyc = s.cyc ∧
    (State.noteDigest s r q).boot = s.boot ∧
    (State.noteDigest s r q).ports = s.ports ∧
    (State.noteDigest s r q).segs = s.segs ∧
    (State.noteDigest s r q).opening = s.opening ∧
    (State.noteDigest s r q).fbs = s.fbs ∧
    (State.noteDigest s r q).axes = s.axes ∧
    (State.noteDigest s r q).steps = s.steps ∧
    (State.noteDigest s r q).line = s.line ∧
    (State.noteDigest s r q).moves = s.moves ∧
    (State.noteDigest s r q).arb = s.arb ∧
    (State.noteDigest s r q).groups = s.groups ∧
    (State.noteDigest s r q).saf = s.saf ∧
    (State.noteDigest s r q).die = s.die ∧
    (State.noteDigest s r q).fld = s.fld ∧
    (State.noteDigest s r q).twin = s.twin ∧
    (State.noteDigest s r q).scs = s.scs ∧
    (State.noteDigest s r q).time = s.time ∧
    (State.noteDigest s r q).host = s.host := by
  generalize hT : State.noteDigest s r q = res
  unfold State.noteDigest at hT
  try dsimp only at hT
  repeat' split at hT
  all_goals subst hT
  all_goals (try simp)
  all_goals (repeat' split)
  all_goals (try simp)

@[simp] theorem State.noteDigest_idents (s : State) (r : Running) (q : Option RefEntry) : (State.noteDigest s r q).idents = s.idents := State.idents_eq _ _ (by simp)

@[simp] theorem State.endTask_frame (s : State) (e : Nat) (r0 : Running) :
    (State.endTask s e r0).pending = s.pending ∧
    (State.endTask s e r0).coreTicks = s.coreTicks ∧
    (State.endTask s e r0).params = s.params ∧
    (State.endTask s e r0).cyc = s.cyc ∧
    (State.endTask s e r0).boot = s.boot ∧
    (State.endTask s e r0).ports = s.ports ∧
    (State.endTask s e r0).segs = s.segs ∧
    (State.endTask s e r0).opening = s.opening ∧
    (State.endTask s e r0).fbs = s.fbs ∧
    (State.endTask s e r0).steps = s.steps ∧
    (State.endTask s e r0).moves = s.moves ∧
    (State.endTask s e r0).arb = s.arb ∧
    (State.endTask s e r0).groups = s.groups ∧
    (State.endTask s e r0).saf = s.saf ∧
    (State.endTask s e r0).die = s.die ∧
    (State.endTask s e r0).fld = s.fld ∧
    (State.endTask s e r0).twin = s.twin ∧
    (State.endTask s e r0).scs = s.scs ∧
    (State.endTask s e r0).time = s.time ∧
    (State.endTask s e r0).host.keys = s.host.keys ∧
    (State.endTask s e r0).host.parQueue = s.host.parQueue := by
  generalize hT : State.endTask s e r0 = res
  unfold State.endTask at hT
  try dsimp only at hT
  repeat' split at hT
  all_goals subst hT
  all_goals (try simp)
  all_goals (repeat' split)
  all_goals (try simp)

@[simp] theorem State.endTask_idents (s : State) (e : Nat) (r0 : Running) : (State.endTask s e r0).idents = s.idents := by
  generalize hT : State.endTask s e r0 = res
  unfold State.endTask at hT
  try dsimp only at hT
  repeat' split at hT
  all_goals subst hT
  all_goals (try simp)
  all_goals (repeat' split)
  all_goals (try simp)
  all_goals (try rfl)
  all_goals (try exact State.idents_eq _ _ (by simp))
  all_goals (try simp [Session.ident])
  all_goals (try simp [Session.ident, State.session])
  all_goals (try simp [State.idents, State.session, Session.ident])

@[simp] theorem State.engApply_frame (s : State) (e cost : Nat) (r : Running) (x : Engine) (pc : Option (BitVec 13)) (w : List (Nat × Word48)) :
    (State.engApply s e cost r x pc w).pending = s.pending ∧
    (State.engApply s e cost r x pc w).out = s.out ∧
    (State.engApply s e cost r x pc w).freeCtr = s.freeCtr ∧
    (State.engApply s e cost r x pc w).coreTicks = s.coreTicks ∧
    (State.engApply s e cost r x pc w).params = s.params ∧
    (State.engApply s e cost r x pc w).cyc = s.cyc ∧
    (State.engApply s e cost r x pc w).boot = s.boot ∧
    (State.engApply s e cost r x pc w).ports = s.ports ∧
    (State.engApply s e cost r x pc w).segs = s.segs ∧
    (State.engApply s e cost r x pc w).opening = s.opening ∧
    (State.engApply s e cost r x pc w).fbs = s.fbs ∧
    (State.engApply s e cost r x pc w).steps = s.steps ∧
    (State.engApply s e cost r x pc w).line = s.line ∧
    (State.engApply s e cost r x pc w).moves = s.moves ∧
    (State.engApply s e cost r x pc w).arb = s.arb ∧
    (State.engApply s e cost r x pc w).groups = s.groups ∧
    (State.engApply s e cost r x pc w).saf = s.saf ∧
    (State.engApply s e cost r x pc w).die = s.die ∧
    (State.engApply s e cost r x pc w).fld = s.fld ∧
    (State.engApply s e cost r x pc w).twin = s.twin ∧
    (State.engApply s e cost r x pc w).scs = s.scs ∧
    (State.engApply s e cost r x pc w).time = s.time ∧
    (State.engApply s e cost r x pc w).host = s.host := by
  generalize hT : State.engApply s e cost r x pc w = res
  unfold State.engApply at hT
  try dsimp only at hT
  repeat' split at hT
  all_goals subst hT
  all_goals (try simp)
  all_goals (repeat' split)
  all_goals (try simp)

@[simp] theorem State.engApply_idents (s : State) (e cost : Nat) (r : Running) (x : Engine) (pc : Option (BitVec 13)) (w : List (Nat × Word48)) : (State.engApply s e cost r x pc w).idents = s.idents := State.idents_eq _ _ (by simp)

end Sys2Proof.Machine
end

