-- ==== Sys2Proof/Laws/Engine.lean ====
section
/-! SUPPORT. The laws of the engines: registers, flags, the store buffer, and what one instruction does to its engine. -/

namespace Sys2Proof.Machine

open Sys2Proof.Claims

theorem Engine.xr_setX (x : Engine) (d j : Nat) (v : Word48) : (x.setX d v).xr j = if j = d then v else x.xr j := by
  simp [Engine.setX, Engine.xr, sget_sput]

theorem Engine.accr_setAcc (x : Engine) (d j : Nat) (c : Acc) : (x.setAcc d c).accr j = if j = d then c else x.accr j := by
  simp [Engine.setAcc, Engine.accr, sget_sput]

theorem Engine.sclr_setScl (x : Engine) (d j : Nat) (v : BitVec 6) : (x.setScl d v).sclr j = if j = d then v else x.sclr j := by
  simp [Engine.setScl, Engine.sclr, sget_sput]

theorem Engine.ar_setA (x : Engine) (d j : Nat) (v : BitVec 20) : (x.setA d v).ar j = if j = d then v else x.ar j := by
  simp [Engine.setA, Engine.ar, sget_sput]

theorem Engine.or_setO (x : Engine) (d j : Nat) (v : BitVec 20) : (x.setO d v).or j = if j = d then v else x.or j := by
  simp [Engine.setO, Engine.or, sget_sput]

theorem Engine.lcr_setLc (x : Engine) (d j : Nat) (v : BitVec 16) : (x.setLc d v).lcr j = if j = d then v else x.lcr j := by
  simp [Engine.setLc, Engine.lcr, sget_sput]

/-- One bit of FLAGS is written, the others stay. -/
theorem putFlag_bit (f : BitVec 16) (i j : Nat) (b : Bool) (hi : i < 16) :
    (putFlag f i b).getLsbD j = if j = i then b else f.getLsbD j := by
  unfold putFlag
  by_cases hj : j < 16
  · have hb : (BitVec.ofNat 16 (2 ^ i)).getLsbD j = decide (j = i) := by
      rw [BitVec.getLsbD_ofNat, Nat.testBit_two_pow]
      simp [hj, eq_comm]
    by_cases hij : j = i
    · subst hij
      cases b
      · simp only [Bool.false_eq_true, if_false, BitVec.getLsbD_and, BitVec.getLsbD_not, hb]
        simp
      · simp only [if_true, BitVec.getLsbD_or, hb]
        simp
    · cases b
      · simp only [Bool.false_eq_true, if_false, BitVec.getLsbD_and, BitVec.getLsbD_not, hb]
        simp [hij, hj]
      · simp only [if_true, BitVec.getLsbD_or, hb]
        simp [hij]
  · have h1 : ¬ j = i := by omega
    have h2 : f.getLsbD j = false := BitVec.getLsbD_of_ge _ _ (by omega)
    rw [if_neg h1, h2]
    exact BitVec.getLsbD_of_ge _ _ (by omega)

/-- The end of loop bodies touches the PC, the loops and the loop counters only. -/
theorem Engine.endBodies_rest (ls : List LoopRec) : ∀ x : Engine, x.endBodies ls =
    { x with pc := (x.endBodies ls).pc, loops := (x.endBodies ls).loops, lc := (x.endBodies ls).lc } := by
  induction ls with
  | nil => intro x; rfl
  | cons l ls ih =>
    intro x
    unfold Engine.endBodies
    split
    · dsimp only
      split
      · rw [ih]; rfl
      · rfl
    · rfl

/-- Advancing the PC touches the PC, the loops and the loop counters only. -/
theorem Engine.advance_rest (x : Engine) : x.advance = { x with pc := x.advance.pc, loops := x.advance.loops, lc := x.advance.lc } :=
  Engine.endBodies_rest x.loops x

/-- An instruction that does not branch and adds no store. -/
theorem State.engineStep_onward (s : State) (e cost : Nat) (r q : Running) (f : State → Engine → Running → EngOut) (y : Engine)
    (h : Runs s e r) (hf : f s (s.engine e) r = EngOut.seq y) (ht : y.task = some q) (hs : y.stores.length ≤ 4) :
    s.engineStep e cost f = .next (Onward s e { r with arith := r.arith || q.arith } cost y) := by
  have ha : y.advance.stores.length - 4 = 0 := by rw [Engine.advance_rest]; simp; omega
  simp only [State.engineStep, h.1, hf, EngOut.seq, State.engApply, ht, Onward, ha, State.retire, List.append_nil]

/-- An illegal instruction. -/
theorem State.engineStep_illegal (s : State) (e cost : Nat) (r : Running) (f : State → Engine → Running → EngOut)
    (h : Runs s e r) (hf : f s (s.engine e) r = EngOut.illegal) : s.engineStep e cost f = .next (s.taskFault e 0 0 3) := by
  simp only [State.engineStep, h.1, hf, EngOut.illegal]

/-- A branch. -/
theorem State.engineStep_jump (s : State) (e cost : Nat) (r : Running) (f : State → Engine → Running → EngOut) (y : Engine) (p : BitVec 13)
    (h : Runs s e r) (hf : f s (s.engine e) r = EngOut.go y (some p) []) (ht : y.task = some r) (hs : y.stores.length ≤ 4) :
    s.engineStep e cost f = .next (Jump s e r cost y p) := by
  have ha : (y.goto p).stores.length - 4 = 0 := by simp [Engine.goto]; omega
  simp only [State.engineStep, h.1, hf, State.engApply, ht, Jump, ha, State.retire, List.append_nil, Bool.or_self]

theorem fits48_eq (t : Int) : (!fits48 t) = outside t := by
  unfold fits48 outside
  rw [Bool.eq_iff_iff]
  simp

theorem lookup_cons_if (i k : Nat) (b : Bool) (l : List (Nat × Bool)) :
    List.lookup i ((k, b) :: l) = if i = k then some b else List.lookup i l := by
  by_cases h : i = k
  · simp [List.lookup, h]
  · simp [List.lookup, h, beq_eq_false_iff_ne.mpr h]

theorem sat48_eq (t : Int) : sat48 t = nearest t := by
  unfold sat48 nearest
  split
  · omega
  · split <;> omega

theorem w48_toInt (v : Word48) : w48 v.toInt = v := BitVec.ofInt_toInt

theorem msb_neg (v : Word48) : v.msb = decide (v.toInt < 0) := by
  rw [BitVec.msb_eq_toInt]

theorem stick_flag (x : Engine) (i j : Nat) (b : Bool) (hi : i < 16) : (x.stick i b).flag j = if j = i then x.flag i || b else x.flag j := by
  unfold Engine.stick Engine.flag
  cases b
  · by_cases h : j = i <;> simp [h]
  · simp [putFlag_bit _ _ _ _ hi]

theorem stick_rest (x : Engine) (i : Nat) (b : Bool) : x.stick i b = { x with flags := (x.stick i b).flags } := by
  unfold Engine.stick
  split <;> rfl

theorem setZN_flag (x : Engine) (v : Word48) : Flags x (x.setZN v) (zn v) := by
  intro i
  unfold Engine.setZN Engine.flag zn flagZ flagN
  simp only [putFlag_bit _ _ _ _ (by decide : 0 < 16), putFlag_bit _ _ _ _ (by decide : 1 < 16), msb_neg, lookup_cons_if, List.lookup_nil]
  by_cases h0 : i = 0
  · subst h0; simp
  · by_cases h1 : i = 1
    · subst h1; simp
    · simp [h0, h1]

theorem flags_append (x y z : Engine) (l : List (Nat × Bool)) (k : Nat) (b : Bool) (h : Flags x y l) (hk : l.lookup k = none)
    (hz : ∀ i, z.flag i = if i = k then b else y.flag i) : Flags x z (l ++ [(k, b)]) := by
  intro i
  rw [hz i, List.lookup_append, lookup_cons_if]
  by_cases hi : i = k
  · subst hi
    simp [hk]
  · simp [hi, h i, List.lookup_nil]

theorem setZNV_flag (x : Engine) (v : Word48) (t : Int) : Flags x (x.setZNV v t) (zn v ++ [(2, outside t)]) := by
  refine flags_append _ _ _ _ 2 _ (setZN_flag x v) ?_ ?_
  · simp [zn, lookup_cons_if, List.lookup_nil]
  · intro i
    unfold Engine.setZNV
    simp only [Engine.flag, flagV, putFlag_bit _ _ _ _ (by decide : 2 < 16), fits48_eq]

/-- What an ALU instruction does: Xd, Z and N. -/
theorem State.engineStep_alu (i : Instr) (s : State) (e d : Nat) (r : Running) (v : Word48) (f : State → Engine → Running → EngOut)
    (hi : exec i s = s.engineStep e 1 f) (h : Runs s e r) (hf : f s (s.engine e) r = engAlu d (fun _ => v) (s.engine e)) :
    Alu i s e r d v (zn v) := by
  refine ⟨((s.engine e).setX d v).setZN v, ?_, ⟨?_, ?_⟩, ?_, rfl⟩
  · rw [hi]
    exact (s.engineStep_onward e 1 r r f _ h hf h.1 h.2).trans (by simp)
  · exact (Engine.xr_setX (s.engine e) d d v).trans (if_pos rfl)
  · intro j hj
    exact (Engine.xr_setX (s.engine e) d j v).trans (if_neg hj)
  · exact setZN_flag _ v

/-- A wrapping instruction: also V. -/
theorem State.engineStep_wrap (i : Instr) (s : State) (e d : Nat) (r : Running) (t : Int) (f : State → Engine → Running → EngOut)
    (hi : exec i s = s.engineStep e 1 f) (h : Runs s e r) (hf : f s (s.engine e) r = engWrap d (fun _ => t) (s.engine e)) :
    Alu i s e r d (w48 t) (zn (w48 t) ++ [(2, outside t)]) := by
  refine ⟨((s.engine e).setX d (w48 t)).setZNV (w48 t) t, ?_, ⟨?_, ?_⟩, ?_, rfl⟩
  · rw [hi]
    exact (s.engineStep_onward e 1 r r f _ h hf h.1 h.2).trans (by simp)
  · exact (Engine.xr_setX (s.engine e) d d _).trans (if_pos rfl)
  · intro j hj
    exact (Engine.xr_setX (s.engine e) d j _).trans (if_neg hj)
  · exact setZNV_flag _ _ t

/-- A saturating instruction with V. -/
theorem State.engineStep_sat (i : Instr) (s : State) (e d : Nat) (r : Running) (t : Int) (f : State → Engine → Running → EngOut)
    (hi : exec i s = s.engineStep e 1 f) (h : Runs s e r) (hf : f s (s.engine e) r = engSat d (fun _ => t) (s.engine e)) :
    Alu i s e r d (w48 (nearest t)) (zn (w48 (nearest t)) ++ [(2, outside t), (13, (s.engine e).flag 13 || outside t)]) := by
  have hz := setZNV_flag ((s.engine e).setX d (w48 (nearest t))) (w48 (nearest t)) t
  have h13 := hz 13
  simp only [engSat, sat48_eq] at hf
  refine ⟨(((s.engine e).setX d (w48 (nearest t))).setZNV (w48 (nearest t)) t).stick flagSat (!fits48 t), ?_, ⟨?_, ?_⟩, ?_, ?_⟩
  · rw [hi]
    refine (s.engineStep_onward e 1 r r f _ h hf ?_ ?_).trans (by simp)
    · rw [stick_rest]; exact h.1
    · rw [stick_rest]; exact h.2
  · rw [stick_rest]
    exact (Engine.xr_setX (s.engine e) d d _).trans (if_pos rfl)
  · intro j hj
    rw [stick_rest]
    exact (Engine.xr_setX (s.engine e) d j _).trans (if_neg hj)
  · have e2 : (zn (w48 (nearest t)) ++ [(2, outside t), (13, (s.engine e).flag 13 || outside t)])
        = (zn (w48 (nearest t)) ++ [(2, outside t)]) ++ [(13, (s.engine e).flag 13 || outside t)] := by simp
    rw [e2]
    refine flags_append _ _ _ _ 13 _ hz ?_ ?_
    · simp [zn, lookup_cons_if, List.lookup_nil]
    · intro k
      rw [stick_flag _ _ _ _ (by decide), fits48_eq]
      by_cases hk : k = 13
      · subst hk
        simp [flagSat] at h13 ⊢
        rw [h13]
        simp [zn, lookup_cons_if, List.lookup_nil, Engine.flag, Engine.setX]
      · have : k ≠ flagSat := hk
        simp [hk, this]
  · rw [stick_rest]; rfl

/-- A saturating instruction that keeps V. -/
theorem State.engineStep_satZN (i : Instr) (s : State) (e d : Nat) (r : Running) (t : Int) (f : State → Engine → Running → EngOut)
    (hi : exec i s = s.engineStep e 1 f) (h : Runs s e r) (hf : f s (s.engine e) r = engSatZN d (fun _ => t) (s.engine e)) :
    Alu i s e r d (w48 (nearest t)) (zn (w48 (nearest t)) ++ [(13, (s.engine e).flag 13 || outside t)]) := by
  have hz := setZN_flag ((s.engine e).setX d (w48 (nearest t))) (w48 (nearest t))
  have h13 := hz 13
  simp only [engSatZN, sat48_eq] at hf
  refine ⟨(((s.engine e).setX d (w48 (nearest t))).setZN (w48 (nearest t))).stick flagSat (!fits48 t), ?_, ⟨?_, ?_⟩, ?_, ?_⟩
  · rw [hi]
    refine (s.engineStep_onward e 1 r r f _ h hf ?_ ?_).trans (by simp)
    · rw [stick_rest]; exact h.1
    · rw [stick_rest]; exact h.2
  · rw [stick_rest]
    exact (Engine.xr_setX (s.engine e) d d _).trans (if_pos rfl)
  · intro j hj
    rw [stick_rest]
    exact (Engine.xr_setX (s.engine e) d j _).trans (if_neg hj)
  · refine flags_append _ _ _ _ 13 _ hz ?_ ?_
    · simp [zn, lookup_cons_if, List.lookup_nil]
    · intro k
      rw [stick_flag _ _ _ _ (by decide), fits48_eq]
      by_cases hk : k = 13
      · subst hk
        simp [flagSat] at h13 ⊢
        rw [h13]
        simp [zn, lookup_cons_if, List.lookup_nil, Engine.flag, Engine.setX]
      · have : k ≠ flagSat := hk
        simp [hk, this]
  · rw [stick_rest]; rfl

end Sys2Proof.Machine
end

