-- ==== Sys2Proof/Laws/FrameEngineService.lean ====
section
/-! SUPPORT. What the operations of Machine/EngineService.lean leave unchanged: one rule per operation. -/

namespace Sys2Proof.Machine

@[simp] theorem State.beginRotation_frame (s : State) (e : Nat) :
    (State.beginRotation s e).pending = s.pending ∧
    (State.beginRotation s e).out = s.out ∧
    (State.beginRotation s e).freeCtr = s.freeCtr ∧
    (State.beginRotation s e).coreTicks = s.coreTicks ∧
    (State.beginRotation s e).params = s.params ∧
    (State.beginRotation s e).cyc = s.cyc ∧
    (State.beginRotation s e).boot = s.boot ∧
    (State.beginRotation s e).ports = s.ports ∧
    (State.beginRotation s e).segs = s.segs ∧
    (State.beginRotation s e).opening = s.opening ∧
    (State.beginRotation s e).fbs = s.fbs ∧
    (State.beginRotation s e).axes = s.axes ∧
    (State.beginRotation s e).steps = s.steps ∧
    (State.beginRotation s e).line = s.line ∧
    (State.beginRotation s e).moves = s.moves ∧
    (State.beginRotation s e).arb = s.arb ∧
    (State.beginRotation s e).groups = s.groups ∧
    (State.beginRotation s e).saf = s.saf ∧
    (State.beginRotation s e).die = s.die ∧
    (State.beginRotation s e).fld = s.fld ∧
    (State.beginRotation s e).twin = s.twin ∧
    (State.beginRotation s e).scs = s.scs ∧
    (State.beginRotation s e).time = s.time ∧
    (State.beginRotation s e).host = s.host := by
  generalize hT : State.beginRotation s e = res
  unfold State.beginRotation at hT
  try dsimp only at hT
  repeat' split at hT
  all_goals subst hT
  all_goals (try simp)
  all_goals (repeat' split)
  all_goals (try simp)

@[simp] theorem State.beginRotation_idents (s : State) (e : Nat) : (State.beginRotation s e).idents = s.idents := State.idents_eq _ _ (by simp)

@[simp] theorem State.retryRotation_frame (s : State) :
    (State.retryRotation s).pending = s.pending ∧
    (State.retryRotation s).out = s.out ∧
    (State.retryRotation s).freeCtr = s.freeCtr ∧
    (State.retryRotation s).coreTicks = s.coreTicks ∧
    (State.retryRotation s).params = s.params ∧
    (State.retryRotation s).cyc = s.cyc ∧
    (State.retryRotation s).ports = s.ports ∧
    (State.retryRotation s).segs = s.segs ∧
    (State.retryRotation s).opening = s.opening ∧
    (State.retryRotation s).fbs = s.fbs ∧
    (State.retryRotation s).axes = s.axes ∧
    (State.retryRotation s).steps = s.steps ∧
    (State.retryRotation s).line = s.line ∧
    (State.retryRotation s).moves = s.moves ∧
    (State.retryRotation s).arb = s.arb ∧
    (State.retryRotation s).groups = s.groups ∧
    (State.retryRotation s).saf = s.saf ∧
    (State.retryRotation s).die = s.die ∧
    (State.retryRotation s).fld = s.fld ∧
    (State.retryRotation s).twin = s.twin ∧
    (State.retryRotation s).scs = s.scs ∧
    (State.retryRotation s).time = s.time ∧
    (State.retryRotation s).host = s.host ∧
    (State.retryRotation s).boot.recovery = s.boot.recovery := by
  generalize hT : State.retryRotation s = res
  unfold State.retryRotation at hT
  try dsimp only at hT
  repeat' split at hT
  all_goals subst hT
  all_goals (try simp)
  all_goals (repeat' split)
  all_goals (try simp)

@[simp] theorem State.retryRotation_idents (s : State) : (State.retryRotation s).idents = s.idents := State.idents_eq _ _ (by simp)

@[simp] theorem State.channelPFails_frame (s : State) :
    (State.channelPFails s).pending = s.pending ∧
    (State.channelPFails s).params = s.params ∧
    (State.channelPFails s).boot = s.boot ∧
    (State.channelPFails s).segs = s.segs ∧
    (State.channelPFails s).opening = s.opening ∧
    (State.channelPFails s).moves = s.moves ∧
    (State.channelPFails s).arb = s.arb ∧
    (State.channelPFails s).groups = s.groups ∧
    (State.channelPFails s).die = s.die ∧
    (State.channelPFails s).scs = s.scs ∧
    (State.channelPFails s).twin.standby = s.twin.standby ∧
    (State.channelPFails s).host.keys = s.host.keys ∧
    (State.channelPFails s).host.parQueue = s.host.parQueue ∧
    (State.channelPFails s).cyc.cycle = s.cyc.cycle := by
  generalize hT : State.channelPFails s = res
  unfold State.channelPFails at hT
  try dsimp only at hT
  repeat' split at hT
  all_goals subst hT
  all_goals (try simp)
  all_goals (repeat' split)
  all_goals (try simp)

@[simp] theorem State.channelPFails_idents (s : State) : (State.channelPFails s).idents = s.idents := by
  generalize hT : State.channelPFails s = res
  unfold State.channelPFails at hT
  try dsimp only at hT
  repeat' split at hT
  all_goals subst hT
  all_goals (try simp)
  all_goals (repeat' split)
  all_goals (try simp)
  all_goals (try rfl)
  all_goals (try exact State.idents_eq _ _ (by simp))
  all_goals (try simp [Session.ident])
  all_goals (try simp [Session.ident, State.session])
  all_goals (try simp [State.idents, State.session, Session.ident])

@[simp] theorem State.scrubError_frame (s : State) (d : ScrubSite) :
    (State.scrubError s d).pending = s.pending ∧
    (State.scrubError s d).params = s.params ∧
    (State.scrubError s d).boot = s.boot ∧
    (State.scrubError s d).segs = s.segs ∧
    (State.scrubError s d).opening = s.opening ∧
    (State.scrubError s d).moves = s.moves ∧
    (State.scrubError s d).arb = s.arb ∧
    (State.scrubError s d).groups = s.groups ∧
    (State.scrubError s d).die = s.die ∧
    (State.scrubError s d).scs = s.scs ∧
    (State.scrubError s d).twin.standby = s.twin.standby ∧
    (State.scrubError s d).host.keys = s.host.keys ∧
    (State.scrubError s d).host.parQueue = s.host.parQueue ∧
    (State.scrubError s d).cyc.cycle = s.cyc.cycle := by
  generalize hT : State.scrubError s d = res
  unfold State.scrubError at hT
  try dsimp only at hT
  repeat' split at hT
  all_goals subst hT
  all_goals (try simp)
  all_goals (repeat' split)
  all_goals (try simp)

@[simp] theorem State.scrubError_idents (s : State) (d : ScrubSite) : (State.scrubError s d).idents = s.idents := by
  generalize hT : State.scrubError s d = res
  unfold State.scrubError at hT
  try dsimp only at hT
  repeat' split at hT
  all_goals subst hT
  all_goals (try simp)
  all_goals (repeat' split)
  all_goals (try simp)
  all_goals (try rfl)
  all_goals (try exact State.idents_eq _ _ (by simp))
  all_goals (try simp [Session.ident])
  all_goals (try simp [Session.ident, State.session])
  all_goals (try simp [State.idents, State.session, Session.ident])

end Sys2Proof.Machine
end

