-- ==== Sys2Proof/Laws/FrameArbiter.lean ====
section
/-! SUPPORT. What the operations of Machine/Arbiter.lean leave unchanged: one rule per operation. -/

namespace Sys2Proof.Machine

@[simp] theorem State.sensorEvents_frame (s : State) (oks : List Bool) :
    (State.sensorEvents s oks).pending = s.pending ∧
    (State.sensorEvents s oks).freeCtr = s.freeCtr ∧
    (State.sensorEvents s oks).coreTicks = s.coreTicks ∧
    (State.sensorEvents s oks).params = s.params ∧
    (State.sensorEvents s oks).cyc = s.cyc ∧
    (State.sensorEvents s oks).boot = s.boot ∧
    (State.sensorEvents s oks).ports = s.ports ∧
    (State.sensorEvents s oks).segs = s.segs ∧
    (State.sensorEvents s oks).opening = s.opening ∧
    (State.sensorEvents s oks).fbs = s.fbs ∧
    (State.sensorEvents s oks).axes = s.axes ∧
    (State.sensorEvents s oks).steps = s.steps ∧
    (State.sensorEvents s oks).line = s.line ∧
    (State.sensorEvents s oks).moves = s.moves ∧
    (State.sensorEvents s oks).arb = s.arb ∧
    (State.sensorEvents s oks).groups = s.groups ∧
    (State.sensorEvents s oks).eng = s.eng ∧
    (State.sensorEvents s oks).saf = s.saf ∧
    (State.sensorEvents s oks).die = s.die ∧
    (State.sensorEvents s oks).fld = s.fld ∧
    (State.sensorEvents s oks).twin = s.twin ∧
    (State.sensorEvents s oks).scs = s.scs ∧
    (State.sensorEvents s oks).time = s.time ∧
    (State.sensorEvents s oks).host.keys = s.host.keys ∧
    (State.sensorEvents s oks).host.parQueue = s.host.parQueue := by
  generalize hT : State.sensorEvents s oks = res
  unfold State.sensorEvents at hT
  try dsimp only at hT
  repeat' split at hT
  all_goals subst hT
  all_goals (try simp)
  all_goals (repeat' split)
  all_goals (try simp)

@[simp] theorem State.sensorEvents_idents (s : State) (oks : List Bool) : (State.sensorEvents s oks).idents = s.idents := by
  generalize hT : State.sensorEvents s oks = res
  unfold State.sensorEvents at hT
  try dsimp only at hT
  repeat' split at hT
  all_goals subst hT
  all_goals (try simp)
  all_goals (repeat' split)
  all_goals (try simp)
  all_goals (try rfl)
  all_goals (try exact State.idents_eq _ _ (by simp))
  all_goals (try simp [Session.ident])
  all_goals (try simp [Session.ident, State.session])
  all_goals (try simp [State.idents, State.session, Session.ident])

@[simp] theorem State.setTrim_frame (s : State) (level : Nat) :
    (State.setTrim s level).pending = s.pending ∧
    (State.setTrim s level).freeCtr = s.freeCtr ∧
    (State.setTrim s level).coreTicks = s.coreTicks ∧
    (State.setTrim s level).boot = s.boot ∧
    (State.setTrim s level).ports = s.ports ∧
    (State.setTrim s level).segs = s.segs ∧
    (State.setTrim s level).opening = s.opening ∧
    (State.setTrim s level).fbs = s.fbs ∧
    (State.setTrim s level).axes = s.axes ∧
    (State.setTrim s level).steps = s.steps ∧
    (State.setTrim s level).line = s.line ∧
    (State.setTrim s level).moves = s.moves ∧
    (State.setTrim s level).arb = s.arb ∧
    (State.setTrim s level).groups = s.groups ∧
    (State.setTrim s level).eng = s.eng ∧
    (State.setTrim s level).saf = s.saf ∧
    (State.setTrim s level).die = s.die ∧
    (State.setTrim s level).fld = s.fld ∧
    (State.setTrim s level).scs = s.scs ∧
    (State.setTrim s level).time = s.time ∧
    (State.setTrim s level).host = s.host ∧
    (State.setTrim s level).twin.standby = s.twin.standby ∧
    (State.setTrim s level).twin.onMove = s.twin.onMove ∧
    (State.setTrim s level).cyc.cycle = s.cyc.cycle ∧
    (State.setTrim s level).cyc.running = s.cyc.running := by
  generalize hT : State.setTrim s level = res
  unfold State.setTrim at hT
  try dsimp only at hT
  repeat' split at hT
  all_goals subst hT
  all_goals (try simp)
  all_goals (repeat' split)
  all_goals (try simp)

@[simp] theorem State.setTrim_idents (s : State) (level : Nat) : (State.setTrim s level).idents = s.idents := State.idents_eq _ _ (by simp)

@[simp] theorem State.takeBusy_frame (s : State) :
    (State.takeBusy s).pending = s.pending ∧
    (State.takeBusy s).out = s.out ∧
    (State.takeBusy s).freeCtr = s.freeCtr ∧
    (State.takeBusy s).coreTicks = s.coreTicks ∧
    (State.takeBusy s).params = s.params ∧
    (State.takeBusy s).cyc = s.cyc ∧
    (State.takeBusy s).boot = s.boot ∧
    (State.takeBusy s).ports = s.ports ∧
    (State.takeBusy s).segs = s.segs ∧
    (State.takeBusy s).opening = s.opening ∧
    (State.takeBusy s).fbs = s.fbs ∧
    (State.takeBusy s).axes = s.axes ∧
    (State.takeBusy s).steps = s.steps ∧
    (State.takeBusy s).line = s.line ∧
    (State.takeBusy s).moves = s.moves ∧
    (State.takeBusy s).arb = s.arb ∧
    (State.takeBusy s).groups = s.groups ∧
    (State.takeBusy s).saf = s.saf ∧
    (State.takeBusy s).die = s.die ∧
    (State.takeBusy s).fld = s.fld ∧
    (State.takeBusy s).twin = s.twin ∧
    (State.takeBusy s).scs = s.scs ∧
    (State.takeBusy s).time = s.time ∧
    (State.takeBusy s).host = s.host := by
  generalize hT : State.takeBusy s = res
  unfold State.takeBusy at hT
  try dsimp only at hT
  repeat' split at hT
  all_goals subst hT
  all_goals (try simp)
  all_goals (repeat' split)
  all_goals (try simp)

@[simp] theorem State.takeBusy_idents (s : State) : (State.takeBusy s).idents = s.idents := State.idents_eq _ _ (by simp)

end Sys2Proof.Machine
end

