-- ==== Sys2Proof/Laws/FrameFieldOps.lean ====
section
/-! SUPPORT. What the operations of Machine/FieldOps.lean leave unchanged: one rule per operation. -/

namespace Sys2Proof.Machine

@[simp] theorem State.fqDrive_frame (s : State) (j : Nat) :
    (State.fqDrive s j).pending = s.pending ∧
    (State.fqDrive s j).out = s.out ∧
    (State.fqDrive s j).freeCtr = s.freeCtr ∧
    (State.fqDrive s j).coreTicks = s.coreTicks ∧
    (State.fqDrive s j).params = s.params ∧
    (State.fqDrive s j).cyc = s.cyc ∧
    (State.fqDrive s j).boot = s.boot ∧
    (State.fqDrive s j).ports = s.ports ∧
    (State.fqDrive s j).segs = s.segs ∧
    (State.fqDrive s j).opening = s.opening ∧
    (State.fqDrive s j).fbs = s.fbs ∧
    (State.fqDrive s j).axes = s.axes ∧
    (State.fqDrive s j).steps = s.steps ∧
    (State.fqDrive s j).line = s.line ∧
    (State.fqDrive s j).moves = s.moves ∧
    (State.fqDrive s j).arb = s.arb ∧
    (State.fqDrive s j).groups = s.groups ∧
    (State.fqDrive s j).eng = s.eng ∧
    (State.fqDrive s j).saf = s.saf ∧
    (State.fqDrive s j).fld = s.fld ∧
    (State.fqDrive s j).twin = s.twin ∧
    (State.fqDrive s j).scs = s.scs ∧
    (State.fqDrive s j).time = s.time ∧
    (State.fqDrive s j).host = s.host := by
  generalize hT : State.fqDrive s j = res
  unfold State.fqDrive at hT
  try dsimp only at hT
  repeat' split at hT
  all_goals subst hT
  all_goals (try simp)
  all_goals (repeat' split)
  all_goals (try simp)

@[simp] theorem State.fqDrive_idents (s : State) (j : Nat) : (State.fqDrive s j).idents = s.idents := State.idents_eq _ _ (by simp)

@[simp] theorem State.fqDriveAll_frame (s : State) :
    (State.fqDriveAll s).pending = s.pending ∧
    (State.fqDriveAll s).out = s.out ∧
    (State.fqDriveAll s).freeCtr = s.freeCtr ∧
    (State.fqDriveAll s).coreTicks = s.coreTicks ∧
    (State.fqDriveAll s).params = s.params ∧
    (State.fqDriveAll s).cyc = s.cyc ∧
    (State.fqDriveAll s).boot = s.boot ∧
    (State.fqDriveAll s).ports = s.ports ∧
    (State.fqDriveAll s).segs = s.segs ∧
    (State.fqDriveAll s).opening = s.opening ∧
    (State.fqDriveAll s).fbs = s.fbs ∧
    (State.fqDriveAll s).axes = s.axes ∧
    (State.fqDriveAll s).steps = s.steps ∧
    (State.fqDriveAll s).line = s.line ∧
    (State.fqDriveAll s).moves = s.moves ∧
    (State.fqDriveAll s).arb = s.arb ∧
    (State.fqDriveAll s).groups = s.groups ∧
    (State.fqDriveAll s).eng = s.eng ∧
    (State.fqDriveAll s).saf = s.saf ∧
    (State.fqDriveAll s).fld = s.fld ∧
    (State.fqDriveAll s).twin = s.twin ∧
    (State.fqDriveAll s).scs = s.scs ∧
    (State.fqDriveAll s).time = s.time ∧
    (State.fqDriveAll s).host = s.host := by
  generalize hT : State.fqDriveAll s = res
  unfold State.fqDriveAll at hT
  try dsimp only at hT
  repeat' split at hT
  all_goals subst hT
  all_goals (try simp)
  all_goals (repeat' split)
  all_goals (try simp)

@[simp] theorem State.fqDriveAll_idents (s : State) : (State.fqDriveAll s).idents = s.idents := State.idents_eq _ _ (by simp)

@[simp] theorem State.setCmd_frame (s : State) (j : Nat) (b : Bool) :
    (State.setCmd s j b).pending = s.pending ∧
    (State.setCmd s j b).out = s.out ∧
    (State.setCmd s j b).freeCtr = s.freeCtr ∧
    (State.setCmd s j b).coreTicks = s.coreTicks ∧
    (State.setCmd s j b).params = s.params ∧
    (State.setCmd s j b).cyc = s.cyc ∧
    (State.setCmd s j b).boot = s.boot ∧
    (State.setCmd s j b).ports = s.ports ∧
    (State.setCmd s j b).segs = s.segs ∧
    (State.setCmd s j b).opening = s.opening ∧
    (State.setCmd s j b).fbs = s.fbs ∧
    (State.setCmd s j b).axes = s.axes ∧
    (State.setCmd s j b).steps = s.steps ∧
    (State.setCmd s j b).line = s.line ∧
    (State.setCmd s j b).moves = s.moves ∧
    (State.setCmd s j b).arb = s.arb ∧
    (State.setCmd s j b).groups = s.groups ∧
    (State.setCmd s j b).eng = s.eng ∧
    (State.setCmd s j b).saf = s.saf ∧
    (State.setCmd s j b).die = s.die ∧
    (State.setCmd s j b).twin = s.twin ∧
    (State.setCmd s j b).scs = s.scs ∧
    (State.setCmd s j b).time = s.time ∧
    (State.setCmd s j b).host = s.host := by
  generalize hT : State.setCmd s j b = res
  unfold State.setCmd at hT
  try dsimp only at hT
  repeat' split at hT
  all_goals subst hT
  all_goals (try simp)
  all_goals (repeat' split)
  all_goals (try simp)

@[simp] theorem State.setCmd_idents (s : State) (j : Nat) (b : Bool) : (State.setCmd s j b).idents = s.idents := State.idents_eq _ _ (by simp)

@[simp] theorem State.queueConfig_frame (s s0 : State) :
    (State.queueConfig s s0).pending = s.pending ∧
    (State.queueConfig s s0).out = s.out ∧
    (State.queueConfig s s0).freeCtr = s.freeCtr ∧
    (State.queueConfig s s0).coreTicks = s.coreTicks ∧
    (State.queueConfig s s0).params = s.params ∧
    (State.queueConfig s s0).cyc = s.cyc ∧
    (State.queueConfig s s0).boot = s.boot ∧
    (State.queueConfig s s0).ports = s.ports ∧
    (State.queueConfig s s0).segs = s.segs ∧
    (State.queueConfig s s0).opening = s.opening ∧
    (State.queueConfig s s0).fbs = s.fbs ∧
    (State.queueConfig s s0).axes = s.axes ∧
    (State.queueConfig s s0).steps = s.steps ∧
    (State.queueConfig s s0).line = s.line ∧
    (State.queueConfig s s0).moves = s.moves ∧
    (State.queueConfig s s0).arb = s.arb ∧
    (State.queueConfig s s0).groups = s.groups ∧
    (State.queueConfig s s0).eng = s.eng ∧
    (State.queueConfig s s0).saf = s.saf ∧
    (State.queueConfig s s0).die = s.die ∧
    (State.queueConfig s s0).twin = s.twin ∧
    (State.queueConfig s s0).scs = s.scs ∧
    (State.queueConfig s s0).time = s.time ∧
    (State.queueConfig s s0).host = s.host := by
  generalize hT : State.queueConfig s s0 = res
  unfold State.queueConfig at hT
  try dsimp only at hT
  repeat' split at hT
  all_goals subst hT
  all_goals (try simp)
  all_goals (repeat' split)
  all_goals (try simp)

@[simp] theorem State.queueConfig_idents (s s0 : State) : (State.queueConfig s s0).idents = s.idents := State.idents_eq _ _ (by simp)

@[simp] theorem State.demandPair_frame (s : State) (ch : Chan) (i cause : Nat) (sto : Bool) :
    (State.demandPair s ch i cause sto).pending = s.pending ∧
    (State.demandPair s ch i cause sto).freeCtr = s.freeCtr ∧
    (State.demandPair s ch i cause sto).coreTicks = s.coreTicks ∧
    (State.demandPair s ch i cause sto).params = s.params ∧
    (State.demandPair s ch i cause sto).cyc = s.cyc ∧
    (State.demandPair s ch i cause sto).boot = s.boot ∧
    (State.demandPair s ch i cause sto).ports = s.ports ∧
    (State.demandPair s ch i cause sto).segs = s.segs ∧
    (State.demandPair s ch i cause sto).opening = s.opening ∧
    (State.demandPair s ch i cause sto).fbs = s.fbs ∧
    (State.demandPair s ch i cause sto).axes = s.axes ∧
    (State.demandPair s ch i cause sto).steps = s.steps ∧
    (State.demandPair s ch i cause sto).line = s.line ∧
    (State.demandPair s ch i cause sto).moves = s.moves ∧
    (State.demandPair s ch i cause sto).arb = s.arb ∧
    (State.demandPair s ch i cause sto).groups = s.groups ∧
    (State.demandPair s ch i cause sto).eng = s.eng ∧
    (State.demandPair s ch i cause sto).die = s.die ∧
    (State.demandPair s ch i cause sto).fld = s.fld ∧
    (State.demandPair s ch i cause sto).twin = s.twin ∧
    (State.demandPair s ch i cause sto).scs = s.scs ∧
    (State.demandPair s ch i cause sto).time = s.time ∧
    (State.demandPair s ch i cause sto).saf.endgame = s.saf.endgame ∧
    (State.demandPair s ch i cause sto).saf.silent = s.saf.silent ∧
    (State.demandPair s ch i cause sto).host.keys = s.host.keys ∧
    (State.demandPair s ch i cause sto).host.parQueue = s.host.parQueue := by
  generalize hT : State.demandPair s ch i cause sto = res
  unfold State.demandPair at hT
  try dsimp only at hT
  repeat' split at hT
  all_goals subst hT
  all_goals (try simp)
  all_goals (repeat' split)
  all_goals (try simp)

@[simp] theorem State.demandPair_idents (s : State) (ch : Chan) (i cause : Nat) (sto : Bool) : (State.demandPair s ch i cause sto).idents = s.idents := by
  generalize hT : State.demandPair s ch i cause sto = res
  unfold State.demandPair at hT
  try dsimp only at hT
  repeat' split at hT
  all_goals subst hT
  all_goals (try simp)
  all_goals (repeat' split)
  all_goals (try simp)
  all_goals (try rfl)
  all_goals (try exact State.idents_eq _ _ (by simp))
  all_goals (try simp [Session.ident])
  all_goals (try simp [Session.ident, State.session])
  all_goals (try simp [State.idents, State.session, Session.ident])

@[simp] theorem State.ackWindow_frame (s : State) (ch : Chan) (level : Bool) :
    (State.ackWindow s ch level).pending = s.pending ∧
    (State.ackWindow s ch level).out = s.out ∧
    (State.ackWindow s ch level).freeCtr = s.freeCtr ∧
    (State.ackWindow s ch level).coreTicks = s.coreTicks ∧
    (State.ackWindow s ch level).params = s.params ∧
    (State.ackWindow s ch level).cyc = s.cyc ∧
    (State.ackWindow s ch level).boot = s.boot ∧
    (State.ackWindow s ch level).ports = s.ports ∧
    (State.ackWindow s ch level).segs = s.segs ∧
    (State.ackWindow s ch level).opening = s.opening ∧
    (State.ackWindow s ch level).fbs = s.fbs ∧
    (State.ackWindow s ch level).axes = s.axes ∧
    (State.ackWindow s ch level).steps = s.steps ∧
    (State.ackWindow s ch level).line = s.line ∧
    (State.ackWindow s ch level).moves = s.moves ∧
    (State.ackWindow s ch level).arb = s.arb ∧
    (State.ackWindow s ch level).groups = s.groups ∧
    (State.ackWindow s ch level).eng = s.eng ∧
    (State.ackWindow s ch level).die = s.die ∧
    (State.ackWindow s ch level).fld = s.fld ∧
    (State.ackWindow s ch level).twin = s.twin ∧
    (State.ackWindow s ch level).scs = s.scs ∧
    (State.ackWindow s ch level).time = s.time ∧
    (State.ackWindow s ch level).host = s.host ∧
    (State.ackWindow s ch level).saf.endgame = s.saf.endgame ∧
    (State.ackWindow s ch level).saf.silent = s.saf.silent := by
  generalize hT : State.ackWindow s ch level = res
  unfold State.ackWindow at hT
  try dsimp only at hT
  repeat' split at hT
  all_goals subst hT
  all_goals (try simp)
  all_goals (repeat' split)
  all_goals (try simp)

@[simp] theorem State.ackWindow_idents (s : State) (ch : Chan) (level : Bool) : (State.ackWindow s ch level).idents = s.idents := State.idents_eq _ _ (by simp)

@[simp] theorem State.pairWindow_frame (s : State) (ch : Chan) (fi flags i : Nat) :
    (State.pairWindow s ch fi flags i).pending = s.pending ∧
    (State.pairWindow s ch fi flags i).freeCtr = s.freeCtr ∧
    (State.pairWindow s ch fi flags i).coreTicks = s.coreTicks ∧
    (State.pairWindow s ch fi flags i).params = s.params ∧
    (State.pairWindow s ch fi flags i).cyc = s.cyc ∧
    (State.pairWindow s ch fi flags i).boot = s.boot ∧
    (State.pairWindow s ch fi flags i).ports = s.ports ∧
    (State.pairWindow s ch fi flags i).segs = s.segs ∧
    (State.pairWindow s ch fi flags i).opening = s.opening ∧
    (State.pairWindow s ch fi flags i).fbs = s.fbs ∧
    (State.pairWindow s ch fi flags i).axes = s.axes ∧
    (State.pairWindow s ch fi flags i).steps = s.steps ∧
    (State.pairWindow s ch fi flags i).line = s.line ∧
    (State.pairWindow s ch fi flags i).moves = s.moves ∧
    (State.pairWindow s ch fi flags i).arb = s.arb ∧
    (State.pairWindow s ch fi flags i).groups = s.groups ∧
    (State.pairWindow s ch fi flags i).eng = s.eng ∧
    (State.pairWindow s ch fi flags i).die = s.die ∧
    (State.pairWindow s ch fi flags i).twin = s.twin ∧
    (State.pairWindow s ch fi flags i).scs = s.scs ∧
    (State.pairWindow s ch fi flags i).time = s.time ∧
    (State.pairWindow s ch fi flags i).saf.endgame = s.saf.endgame ∧
    (State.pairWindow s ch fi flags i).saf.silent = s.saf.silent ∧
    (State.pairWindow s ch fi flags i).host.keys = s.host.keys ∧
    (State.pairWindow s ch fi flags i).host.parQueue = s.host.parQueue := by
  generalize hT : State.pairWindow s ch fi flags i = res
  unfold State.pairWindow at hT
  try dsimp only at hT
  repeat' split at hT
  all_goals subst hT
  all_goals (try simp)
  all_goals (repeat' split)
  all_goals (try simp)

@[simp] theorem State.pairWindow_idents (s : State) (ch : Chan) (fi flags i : Nat) : (State.pairWindow s ch fi flags i).idents = s.idents := by
  generalize hT : State.pairWindow s ch fi flags i = res
  unfold State.pairWindow at hT
  try dsimp only at hT
  repeat' split at hT
  all_goals subst hT
  all_goals (try simp)
  all_goals (repeat' split)
  all_goals (try simp)
  all_goals (try rfl)
  all_goals (try exact State.idents_eq _ _ (by simp))
  all_goals (try simp [Session.ident])
  all_goals (try simp [Session.ident, State.session])
  all_goals (try simp [State.idents, State.session, Session.ident])

@[simp] theorem State.pairDemands_frame (s : State) (ch : Chan) :
    (State.pairDemands s ch).pending = s.pending ∧
    (State.pairDemands s ch).freeCtr = s.freeCtr ∧
    (State.pairDemands s ch).coreTicks = s.coreTicks ∧
    (State.pairDemands s ch).params = s.params ∧
    (State.pairDemands s ch).cyc = s.cyc ∧
    (State.pairDemands s ch).boot = s.boot ∧
    (State.pairDemands s ch).ports = s.ports ∧
    (State.pairDemands s ch).segs = s.segs ∧
    (State.pairDemands s ch).opening = s.opening ∧
    (State.pairDemands s ch).fbs = s.fbs ∧
    (State.pairDemands s ch).axes = s.axes ∧
    (State.pairDemands s ch).steps = s.steps ∧
    (State.pairDemands s ch).line = s.line ∧
    (State.pairDemands s ch).moves = s.moves ∧
    (State.pairDemands s ch).arb = s.arb ∧
    (State.pairDemands s ch).groups = s.groups ∧
    (State.pairDemands s ch).eng = s.eng ∧
    (State.pairDemands s ch).die = s.die ∧
    (State.pairDemands s ch).fld = s.fld ∧
    (State.pairDemands s ch).twin = s.twin ∧
    (State.pairDemands s ch).scs = s.scs ∧
    (State.pairDemands s ch).time = s.time ∧
    (State.pairDemands s ch).saf.endgame = s.saf.endgame ∧
    (State.pairDemands s ch).saf.silent = s.saf.silent ∧
    (State.pairDemands s ch).host.keys = s.host.keys ∧
    (State.pairDemands s ch).host.parQueue = s.host.parQueue := by
  generalize hT : State.pairDemands s ch = res
  unfold State.pairDemands at hT
  try dsimp only at hT
  repeat' split at hT
  all_goals subst hT
  all_goals (try simp)
  all_goals (repeat' split)
  all_goals (try simp)

@[simp] theorem State.pairDemands_idents (s : State) (ch : Chan) : (State.pairDemands s ch).idents = s.idents := by
  generalize hT : State.pairDemands s ch = res
  unfold State.pairDemands at hT
  try dsimp only at hT
  repeat' split at hT
  all_goals subst hT
  all_goals (try simp)
  all_goals (repeat' split)
  all_goals (try simp)
  all_goals (try rfl)
  all_goals (try exact State.idents_eq _ _ (by simp))
  all_goals (try simp [Session.ident])
  all_goals (try simp [Session.ident, State.session])
  all_goals (try simp [State.idents, State.session, Session.ident])

@[simp] theorem State.outputDemands_frame (s : State) (ch : Chan) (bytes : List Byte) :
    (State.outputDemands s ch bytes).pending = s.pending ∧
    (State.outputDemands s ch bytes).freeCtr = s.freeCtr ∧
    (State.outputDemands s ch bytes).coreTicks = s.coreTicks ∧
    (State.outputDemands s ch bytes).params = s.params ∧
    (State.outputDemands s ch bytes).cyc = s.cyc ∧
    (State.outputDemands s ch bytes).boot = s.boot ∧
    (State.outputDemands s ch bytes).ports = s.ports ∧
    (State.outputDemands s ch bytes).segs = s.segs ∧
    (State.outputDemands s ch bytes).opening = s.opening ∧
    (State.outputDemands s ch bytes).fbs = s.fbs ∧
    (State.outputDemands s ch bytes).axes = s.axes ∧
    (State.outputDemands s ch bytes).steps = s.steps ∧
    (State.outputDemands s ch bytes).line = s.line ∧
    (State.outputDemands s ch bytes).moves = s.moves ∧
    (State.outputDemands s ch bytes).arb = s.arb ∧
    (State.outputDemands s ch bytes).groups = s.groups ∧
    (State.outputDemands s ch bytes).eng = s.eng ∧
    (State.outputDemands s ch bytes).die = s.die ∧
    (State.outputDemands s ch bytes).fld = s.fld ∧
    (State.outputDemands s ch bytes).twin = s.twin ∧
    (State.outputDemands s ch bytes).scs = s.scs ∧
    (State.outputDemands s ch bytes).time = s.time ∧
    (State.outputDemands s ch bytes).saf.endgame = s.saf.endgame ∧
    (State.outputDemands s ch bytes).saf.silent = s.saf.silent ∧
    (State.outputDemands s ch bytes).host.keys = s.host.keys ∧
    (State.outputDemands s ch bytes).host.parQueue = s.host.parQueue := by
  generalize hT : State.outputDemands s ch bytes = res
  unfold State.outputDemands at hT
  try dsimp only at hT
  repeat' split at hT
  all_goals subst hT
  all_goals (try simp)
  all_goals (repeat' split)
  all_goals (try simp)

@[simp] theorem State.outputDemands_idents (s : State) (ch : Chan) (bytes : List Byte) : (State.outputDemands s ch bytes).idents = s.idents := by
  generalize hT : State.outputDemands s ch bytes = res
  unfold State.outputDemands at hT
  try dsimp only at hT
  repeat' split at hT
  all_goals subst hT
  all_goals (try simp)
  all_goals (repeat' split)
  all_goals (try simp)
  all_goals (try rfl)
  all_goals (try exact State.idents_eq _ _ (by simp))
  all_goals (try simp [Session.ident])
  all_goals (try simp [Session.ident, State.session])
  all_goals (try simp [State.idents, State.session, Session.ident])

@[simp] theorem State.pairsInvalid_frame (s : State) (ch : Chan) (invalid : Bool) :
    (State.pairsInvalid s ch invalid).pending = s.pending ∧
    (State.pairsInvalid s ch invalid).out = s.out ∧
    (State.pairsInvalid s ch invalid).freeCtr = s.freeCtr ∧
    (State.pairsInvalid s ch invalid).coreTicks = s.coreTicks ∧
    (State.pairsInvalid s ch invalid).params = s.params ∧
    (State.pairsInvalid s ch invalid).cyc = s.cyc ∧
    (State.pairsInvalid s ch invalid).boot = s.boot ∧
    (State.pairsInvalid s ch invalid).ports = s.ports ∧
    (State.pairsInvalid s ch invalid).segs = s.segs ∧
    (State.pairsInvalid s ch invalid).opening = s.opening ∧
    (State.pairsInvalid s ch invalid).fbs = s.fbs ∧
    (State.pairsInvalid s ch invalid).axes = s.axes ∧
    (State.pairsInvalid s ch invalid).steps = s.steps ∧
    (State.pairsInvalid s ch invalid).line = s.line ∧
    (State.pairsInvalid s ch invalid).moves = s.moves ∧
    (State.pairsInvalid s ch invalid).arb = s.arb ∧
    (State.pairsInvalid s ch invalid).groups = s.groups ∧
    (State.pairsInvalid s ch invalid).eng = s.eng ∧
    (State.pairsInvalid s ch invalid).die = s.die ∧
    (State.pairsInvalid s ch invalid).fld = s.fld ∧
    (State.pairsInvalid s ch invalid).twin = s.twin ∧
    (State.pairsInvalid s ch invalid).scs = s.scs ∧
    (State.pairsInvalid s ch invalid).time = s.time ∧
    (State.pairsInvalid s ch invalid).host = s.host ∧
    (State.pairsInvalid s ch invalid).saf.endgame = s.saf.endgame ∧
    (State.pairsInvalid s ch invalid).saf.silent = s.saf.silent := by
  generalize hT : State.pairsInvalid s ch invalid = res
  unfold State.pairsInvalid at hT
  try dsimp only at hT
  repeat' split at hT
  all_goals subst hT
  all_goals (try simp)
  all_goals (repeat' split)
  all_goals (try simp)

@[simp] theorem State.pairsInvalid_idents (s : State) (ch : Chan) (invalid : Bool) : (State.pairsInvalid s ch invalid).idents = s.idents := State.idents_eq _ _ (by simp)

@[simp] theorem State.channelUplink_frame (s : State) (ch : Chan) (bytes : List Byte) :
    (State.channelUplink s ch bytes).pending = s.pending ∧
    (State.channelUplink s ch bytes).freeCtr = s.freeCtr ∧
    (State.channelUplink s ch bytes).coreTicks = s.coreTicks ∧
    (State.channelUplink s ch bytes).params = s.params ∧
    (State.channelUplink s ch bytes).cyc = s.cyc ∧
    (State.channelUplink s ch bytes).boot = s.boot ∧
    (State.channelUplink s ch bytes).ports = s.ports ∧
    (State.channelUplink s ch bytes).segs = s.segs ∧
    (State.channelUplink s ch bytes).opening = s.opening ∧
    (State.channelUplink s ch bytes).fbs = s.fbs ∧
    (State.channelUplink s ch bytes).axes = s.axes ∧
    (State.channelUplink s ch bytes).steps = s.steps ∧
    (State.channelUplink s ch bytes).line = s.line ∧
    (State.channelUplink s ch bytes).moves = s.moves ∧
    (State.channelUplink s ch bytes).arb = s.arb ∧
    (State.channelUplink s ch bytes).groups = s.groups ∧
    (State.channelUplink s ch bytes).eng = s.eng ∧
    (State.channelUplink s ch bytes).die = s.die ∧
    (State.channelUplink s ch bytes).twin = s.twin ∧
    (State.channelUplink s ch bytes).scs = s.scs ∧
    (State.channelUplink s ch bytes).time = s.time ∧
    (State.channelUplink s ch bytes).saf.endgame = s.saf.endgame ∧
    (State.channelUplink s ch bytes).saf.silent = s.saf.silent ∧
    (State.channelUplink s ch bytes).host.keys = s.host.keys ∧
    (State.channelUplink s ch bytes).host.parQueue = s.host.parQueue := by
  generalize hT : State.channelUplink s ch bytes = res
  unfold State.channelUplink at hT
  try dsimp only at hT
  repeat' split at hT
  all_goals subst hT
  all_goals (try simp)
  all_goals (repeat' split)
  all_goals (try simp)

@[simp] theorem State.channelUplink_idents (s : State) (ch : Chan) (bytes : List Byte) : (State.channelUplink s ch bytes).idents = s.idents := by
  generalize hT : State.channelUplink s ch bytes = res
  unfold State.channelUplink at hT
  try dsimp only at hT
  repeat' split at hT
  all_goals subst hT
  all_goals (try simp)
  all_goals (repeat' split)
  all_goals (try simp)
  all_goals (try rfl)
  all_goals (try exact State.idents_eq _ _ (by simp))
  all_goals (try simp [Session.ident])
  all_goals (try simp [Session.ident, State.session])
  all_goals (try simp [State.idents, State.session, Session.ident])

@[simp] theorem State.channelForget_frame (s : State) (ch : Chan) :
    (State.channelForget s ch).pending = s.pending ∧
    (State.channelForget s ch).out = s.out ∧
    (State.channelForget s ch).freeCtr = s.freeCtr ∧
    (State.channelForget s ch).coreTicks = s.coreTicks ∧
    (State.channelForget s ch).params = s.params ∧
    (State.channelForget s ch).cyc = s.cyc ∧
    (State.channelForget s ch).boot = s.boot ∧
    (State.channelForget s ch).ports = s.ports ∧
    (State.channelForget s ch).segs = s.segs ∧
    (State.channelForget s ch).opening = s.opening ∧
    (State.channelForget s ch).fbs = s.fbs ∧
    (State.channelForget s ch).axes = s.axes ∧
    (State.channelForget s ch).steps = s.steps ∧
    (State.channelForget s ch).line = s.line ∧
    (State.channelForget s ch).moves = s.moves ∧
    (State.channelForget s ch).arb = s.arb ∧
    (State.channelForget s ch).groups = s.groups ∧
    (State.channelForget s ch).eng = s.eng ∧
    (State.channelForget s ch).die = s.die ∧
    (State.channelForget s ch).fld = s.fld ∧
    (State.channelForget s ch).twin = s.twin ∧
    (State.channelForget s ch).scs = s.scs ∧
    (State.channelForget s ch).time = s.time ∧
    (State.channelForget s ch).host = s.host ∧
    (State.channelForget s ch).saf.endgame = s.saf.endgame ∧
    (State.channelForget s ch).saf.silent = s.saf.silent := by
  generalize hT : State.channelForget s ch = res
  unfold State.channelForget at hT
  try dsimp only at hT
  repeat' split at hT
  all_goals subst hT
  all_goals (try simp)
  all_goals (repeat' split)
  all_goals (try simp)

@[simp] theorem State.channelForget_idents (s : State) (ch : Chan) : (State.channelForget s ch).idents = s.idents := State.idents_eq _ _ (by simp)

end Sys2Proof.Machine
end

