-- ==== Sys2Proof/Laws/FrameField.lean ====
section
/-! SUPPORT. What the operations of Machine/Field.lean leave unchanged: one rule per operation. -/

namespace Sys2Proof.Machine

@[simp] theorem State.dropHeldOrder_frame (s : State) (tag : Nat) :
    (State.dropHeldOrder s tag).pending = s.pending ∧
    (State.dropHeldOrder s tag).out = s.out ∧
    (State.dropHeldOrder s tag).freeCtr = s.freeCtr ∧
    (State.dropHeldOrder s tag).coreTicks = s.coreTicks ∧
    (State.dropHeldOrder s tag).params = s.params ∧
    (State.dropHeldOrder s tag).cyc = s.cyc ∧
    (State.dropHeldOrder s tag).boot = s.boot ∧
    (State.dropHeldOrder s tag).ports = s.ports ∧
    (State.dropHeldOrder s tag).segs = s.segs ∧
    (State.dropHeldOrder s tag).opening = s.opening ∧
    (State.dropHeldOrder s tag).fbs = s.fbs ∧
    (State.dropHeldOrder s tag).axes = s.axes ∧
    (State.dropHeldOrder s tag).steps = s.steps ∧
    (State.dropHeldOrder s tag).line = s.line ∧
    (State.dropHeldOrder s tag).moves = s.moves ∧
    (State.dropHeldOrder s tag).arb = s.arb ∧
    (State.dropHeldOrder s tag).groups = s.groups ∧
    (State.dropHeldOrder s tag).eng = s.eng ∧
    (State.dropHeldOrder s tag).saf = s.saf ∧
    (State.dropHeldOrder s tag).fld = s.fld ∧
    (State.dropHeldOrder s tag).twin = s.twin ∧
    (State.dropHeldOrder s tag).scs = s.scs ∧
    (State.dropHeldOrder s tag).time = s.time ∧
    (State.dropHeldOrder s tag).host = s.host := by
  generalize hT : State.dropHeldOrder s tag = res
  unfold State.dropHeldOrder at hT
  try dsimp only at hT
  repeat' split at hT
  all_goals subst hT
  all_goals (try simp)
  all_goals (repeat' split)
  all_goals (try simp)

@[simp] theorem State.dropHeldOrder_idents (s : State) (tag : Nat) : (State.dropHeldOrder s tag).idents = s.idents := State.idents_eq _ _ (by simp)

@[simp] theorem State.dropHeldOrders_frame (s : State) :
    (State.dropHeldOrders s).pending = s.pending ∧
    (State.dropHeldOrders s).out = s.out ∧
    (State.dropHeldOrders s).freeCtr = s.freeCtr ∧
    (State.dropHeldOrders s).coreTicks = s.coreTicks ∧
    (State.dropHeldOrders s).params = s.params ∧
    (State.dropHeldOrders s).cyc = s.cyc ∧
    (State.dropHeldOrders s).boot = s.boot ∧
    (State.dropHeldOrders s).ports = s.ports ∧
    (State.dropHeldOrders s).segs = s.segs ∧
    (State.dropHeldOrders s).opening = s.opening ∧
    (State.dropHeldOrders s).fbs = s.fbs ∧
    (State.dropHeldOrders s).axes = s.axes ∧
    (State.dropHeldOrders s).steps = s.steps ∧
    (State.dropHeldOrders s).line = s.line ∧
    (State.dropHeldOrders s).moves = s.moves ∧
    (State.dropHeldOrders s).arb = s.arb ∧
    (State.dropHeldOrders s).groups = s.groups ∧
    (State.dropHeldOrders s).eng = s.eng ∧
    (State.dropHeldOrders s).saf = s.saf ∧
    (State.dropHeldOrders s).fld = s.fld ∧
    (State.dropHeldOrders s).twin = s.twin ∧
    (State.dropHeldOrders s).scs = s.scs ∧
    (State.dropHeldOrders s).time = s.time ∧
    (State.dropHeldOrders s).host = s.host := by
  generalize hT : State.dropHeldOrders s = res
  unfold State.dropHeldOrders at hT
  try dsimp only at hT
  repeat' split at hT
  all_goals subst hT
  all_goals (try simp)
  all_goals (repeat' split)
  all_goals (try simp)

@[simp] theorem State.dropHeldOrders_idents (s : State) : (State.dropHeldOrders s).idents = s.idents := State.idents_eq _ _ (by simp)

@[simp] theorem State.takeOrder_frame (s : State) (prev : List Nat) (bytes : List Byte) (off : Nat) :
    (State.takeOrder s prev bytes off).pending = s.pending ∧
    (State.takeOrder s prev bytes off).out = s.out ∧
    (State.takeOrder s prev bytes off).freeCtr = s.freeCtr ∧
    (State.takeOrder s prev bytes off).coreTicks = s.coreTicks ∧
    (State.takeOrder s prev bytes off).params = s.params ∧
    (State.takeOrder s prev bytes off).cyc = s.cyc ∧
    (State.takeOrder s prev bytes off).boot = s.boot ∧
    (State.takeOrder s prev bytes off).ports = s.ports ∧
    (State.takeOrder s prev bytes off).segs = s.segs ∧
    (State.takeOrder s prev bytes off).opening = s.opening ∧
    (State.takeOrder s prev bytes off).fbs = s.fbs ∧
    (State.takeOrder s prev bytes off).steps = s.steps ∧
    (State.takeOrder s prev bytes off).line = s.line ∧
    (State.takeOrder s prev bytes off).moves = s.moves ∧
    (State.takeOrder s prev bytes off).arb = s.arb ∧
    (State.takeOrder s prev bytes off).groups = s.groups ∧
    (State.takeOrder s prev bytes off).eng = s.eng ∧
    (State.takeOrder s prev bytes off).saf = s.saf ∧
    (State.takeOrder s prev bytes off).twin = s.twin ∧
    (State.takeOrder s prev bytes off).scs = s.scs ∧
    (State.takeOrder s prev bytes off).time = s.time ∧
    (State.takeOrder s prev bytes off).host = s.host := by
  generalize hT : State.takeOrder s prev bytes off = res
  unfold State.takeOrder at hT
  try dsimp only at hT
  repeat' split at hT
  all_goals subst hT
  all_goals (try simp)
  all_goals (repeat' split)
  all_goals (try simp)

@[simp] theorem State.takeOrder_idents (s : State) (prev : List Nat) (bytes : List Byte) (off : Nat) : (State.takeOrder s prev bytes off).idents = s.idents := State.idents_eq _ _ (by simp)

@[simp] theorem State.clearLatch_frame (s : State) (j : Nat) :
    (State.clearLatch s j).pending = s.pending ∧
    (State.clearLatch s j).out = s.out ∧
    (State.clearLatch s j).freeCtr = s.freeCtr ∧
    (State.clearLatch s j).coreTicks = s.coreTicks ∧
    (State.clearLatch s j).params = s.params ∧
    (State.clearLatch s j).cyc = s.cyc ∧
    (State.clearLatch s j).boot = s.boot ∧
    (State.clearLatch s j).ports = s.ports ∧
    (State.clearLatch s j).segs = s.segs ∧
    (State.clearLatch s j).opening = s.opening ∧
    (State.clearLatch s j).fbs = s.fbs ∧
    (State.clearLatch s j).axes = s.axes ∧
    (State.clearLatch s j).steps = s.steps ∧
    (State.clearLatch s j).line = s.line ∧
    (State.clearLatch s j).moves = s.moves ∧
    (State.clearLatch s j).arb = s.arb ∧
    (State.clearLatch s j).groups = s.groups ∧
    (State.clearLatch s j).eng = s.eng ∧
    (State.clearLatch s j).saf = s.saf ∧
    (State.clearLatch s j).fld = s.fld ∧
    (State.clearLatch s j).twin = s.twin ∧
    (State.clearLatch s j).scs = s.scs ∧
    (State.clearLatch s j).time = s.time ∧
    (State.clearLatch s j).host = s.host := by
  generalize hT : State.clearLatch s j = res
  unfold State.clearLatch at hT
  try dsimp only at hT
  repeat' split at hT
  all_goals subst hT
  all_goals (try simp)
  all_goals (repeat' split)
  all_goals (try simp)

@[simp] theorem State.clearLatch_idents (s : State) (j : Nat) : (State.clearLatch s j).idents = s.idents := State.idents_eq _ _ (by simp)

@[simp] theorem State.dieTakesM_frame (s : State) (bytes : List Byte) :
    (State.dieTakesM s bytes).pending = s.pending ∧
    (State.dieTakesM s bytes).out = s.out ∧
    (State.dieTakesM s bytes).freeCtr = s.freeCtr ∧
    (State.dieTakesM s bytes).coreTicks = s.coreTicks ∧
    (State.dieTakesM s bytes).params = s.params ∧
    (State.dieTakesM s bytes).cyc = s.cyc ∧
    (State.dieTakesM s bytes).boot = s.boot ∧
    (State.dieTakesM s bytes).ports = s.ports ∧
    (State.dieTakesM s bytes).segs = s.segs ∧
    (State.dieTakesM s bytes).opening = s.opening ∧
    (State.dieTakesM s bytes).fbs = s.fbs ∧
    (State.dieTakesM s bytes).steps = s.steps ∧
    (State.dieTakesM s bytes).line = s.line ∧
    (State.dieTakesM s bytes).moves = s.moves ∧
    (State.dieTakesM s bytes).arb = s.arb ∧
    (State.dieTakesM s bytes).groups = s.groups ∧
    (State.dieTakesM s bytes).eng = s.eng ∧
    (State.dieTakesM s bytes).saf = s.saf ∧
    (State.dieTakesM s bytes).twin = s.twin ∧
    (State.dieTakesM s bytes).scs = s.scs ∧
    (State.dieTakesM s bytes).time = s.time ∧
    (State.dieTakesM s bytes).host = s.host := by
  generalize hT : State.dieTakesM s bytes = res
  unfold State.dieTakesM at hT
  try dsimp only at hT
  repeat' split at hT
  all_goals subst hT
  all_goals (try simp)
  all_goals (repeat' split)
  all_goals (try simp)

@[simp] theorem State.dieTakesM_idents (s : State) (bytes : List Byte) : (State.dieTakesM s bytes).idents = s.idents := State.idents_eq _ _ (by simp)

@[simp] theorem State.dieTakesH_frame (s : State) (bytes : List Byte) :
    (State.dieTakesH s bytes).pending = s.pending ∧
    (State.dieTakesH s bytes).out = s.out ∧
    (State.dieTakesH s bytes).freeCtr = s.freeCtr ∧
    (State.dieTakesH s bytes).coreTicks = s.coreTicks ∧
    (State.dieTakesH s bytes).params = s.params ∧
    (State.dieTakesH s bytes).cyc = s.cyc ∧
    (State.dieTakesH s bytes).boot = s.boot ∧
    (State.dieTakesH s bytes).ports = s.ports ∧
    (State.dieTakesH s bytes).segs = s.segs ∧
    (State.dieTakesH s bytes).opening = s.opening ∧
    (State.dieTakesH s bytes).fbs = s.fbs ∧
    (State.dieTakesH s bytes).axes = s.axes ∧
    (State.dieTakesH s bytes).steps = s.steps ∧
    (State.dieTakesH s bytes).line = s.line ∧
    (State.dieTakesH s bytes).moves = s.moves ∧
    (State.dieTakesH s bytes).arb = s.arb ∧
    (State.dieTakesH s bytes).groups = s.groups ∧
    (State.dieTakesH s bytes).eng = s.eng ∧
    (State.dieTakesH s bytes).saf = s.saf ∧
    (State.dieTakesH s bytes).twin = s.twin ∧
    (State.dieTakesH s bytes).scs = s.scs ∧
    (State.dieTakesH s bytes).time = s.time ∧
    (State.dieTakesH s bytes).host = s.host := by
  generalize hT : State.dieTakesH s bytes = res
  unfold State.dieTakesH at hT
  try dsimp only at hT
  repeat' split at hT
  all_goals subst hT
  all_goals (try simp)
  all_goals (repeat' split)
  all_goals (try simp)

@[simp] theorem State.dieTakesH_idents (s : State) (bytes : List Byte) : (State.dieTakesH s bytes).idents = s.idents := State.idents_eq _ _ (by simp)

@[simp] theorem State.trackDisagree_frame (s : State) :
    (State.trackDisagree s).pending = s.pending ∧
    (State.trackDisagree s).out = s.out ∧
    (State.trackDisagree s).freeCtr = s.freeCtr ∧
    (State.trackDisagree s).coreTicks = s.coreTicks ∧
    (State.trackDisagree s).params = s.params ∧
    (State.trackDisagree s).cyc = s.cyc ∧
    (State.trackDisagree s).boot = s.boot ∧
    (State.trackDisagree s).ports = s.ports ∧
    (State.trackDisagree s).segs = s.segs ∧
    (State.trackDisagree s).opening = s.opening ∧
    (State.trackDisagree s).fbs = s.fbs ∧
    (State.trackDisagree s).axes = s.axes ∧
    (State.trackDisagree s).steps = s.steps ∧
    (State.trackDisagree s).line = s.line ∧
    (State.trackDisagree s).moves = s.moves ∧
    (State.trackDisagree s).arb = s.arb ∧
    (State.trackDisagree s).groups = s.groups ∧
    (State.trackDisagree s).eng = s.eng ∧
    (State.trackDisagree s).saf = s.saf ∧
    (State.trackDisagree s).fld = s.fld ∧
    (State.trackDisagree s).twin = s.twin ∧
    (State.trackDisagree s).scs = s.scs ∧
    (State.trackDisagree s).time = s.time ∧
    (State.trackDisagree s).host = s.host := by
  generalize hT : State.trackDisagree s = res
  unfold State.trackDisagree at hT
  try dsimp only at hT
  repeat' split at hT
  all_goals subst hT
  all_goals (try simp)
  all_goals (repeat' split)
  all_goals (try simp)

@[simp] theorem State.trackDisagree_idents (s : State) : (State.trackDisagree s).idents = s.idents := State.idents_eq _ _ (by simp)

@[simp] theorem State.filterInput_frame (s : State) (fi n : Nat) :
    (State.filterInput s fi n).pending = s.pending ∧
    (State.filterInput s fi n).out = s.out ∧
    (State.filterInput s fi n).freeCtr = s.freeCtr ∧
    (State.filterInput s fi n).coreTicks = s.coreTicks ∧
    (State.filterInput s fi n).params = s.params ∧
    (State.filterInput s fi n).cyc = s.cyc ∧
    (State.filterInput s fi n).boot = s.boot ∧
    (State.filterInput s fi n).ports = s.ports ∧
    (State.filterInput s fi n).segs = s.segs ∧
    (State.filterInput s fi n).opening = s.opening ∧
    (State.filterInput s fi n).fbs = s.fbs ∧
    (State.filterInput s fi n).axes = s.axes ∧
    (State.filterInput s fi n).steps = s.steps ∧
    (State.filterInput s fi n).line = s.line ∧
    (State.filterInput s fi n).moves = s.moves ∧
    (State.filterInput s fi n).arb = s.arb ∧
    (State.filterInput s fi n).groups = s.groups ∧
    (State.filterInput s fi n).eng = s.eng ∧
    (State.filterInput s fi n).saf = s.saf ∧
    (State.filterInput s fi n).die = s.die ∧
    (State.filterInput s fi n).twin = s.twin ∧
    (State.filterInput s fi n).scs = s.scs ∧
    (State.filterInput s fi n).time = s.time ∧
    (State.filterInput s fi n).host = s.host := by
  generalize hT : State.filterInput s fi n = res
  unfold State.filterInput at hT
  try dsimp only at hT
  repeat' split at hT
  all_goals subst hT
  all_goals (try simp)
  all_goals (repeat' split)
  all_goals (try simp)

@[simp] theorem State.filterInput_idents (s : State) (fi n : Nat) : (State.filterInput s fi n).idents = s.idents := State.idents_eq _ _ (by simp)

@[simp] theorem State.takeInputs_frame (s : State) (fi : Nat) (take : Bool) :
    (State.takeInputs s fi take).pending = s.pending ∧
    (State.takeInputs s fi take).out = s.out ∧
    (State.takeInputs s fi take).freeCtr = s.freeCtr ∧
    (State.takeInputs s fi take).coreTicks = s.coreTicks ∧
    (State.takeInputs s fi take).params = s.params ∧
    (State.takeInputs s fi take).cyc = s.cyc ∧
    (State.takeInputs s fi take).boot = s.boot ∧
    (State.takeInputs s fi take).ports = s.ports ∧
    (State.takeInputs s fi take).segs = s.segs ∧
    (State.takeInputs s fi take).opening = s.opening ∧
    (State.takeInputs s fi take).fbs = s.fbs ∧
    (State.takeInputs s fi take).axes = s.axes ∧
    (State.takeInputs s fi take).steps = s.steps ∧
    (State.takeInputs s fi take).line = s.line ∧
    (State.takeInputs s fi take).moves = s.moves ∧
    (State.takeInputs s fi take).arb = s.arb ∧
    (State.takeInputs s fi take).groups = s.groups ∧
    (State.takeInputs s fi take).eng = s.eng ∧
    (State.takeInputs s fi take).saf = s.saf ∧
    (State.takeInputs s fi take).die = s.die ∧
    (State.takeInputs s fi take).twin = s.twin ∧
    (State.takeInputs s fi take).scs = s.scs ∧
    (State.takeInputs s fi take).time = s.time ∧
    (State.takeInputs s fi take).host = s.host := by
  generalize hT : State.takeInputs s fi take = res
  unfold State.takeInputs at hT
  try dsimp only at hT
  repeat' split at hT
  all_goals subst hT
  all_goals (try simp)
  all_goals (repeat' split)
  all_goals (try simp)

@[simp] theorem State.takeInputs_idents (s : State) (fi : Nat) (take : Bool) : (State.takeInputs s fi take).idents = s.idents := State.idents_eq _ _ (by simp)

@[simp] theorem State.outputEvents_frame (s : State) (bytes : List Byte) :
    (State.outputEvents s bytes).pending = s.pending ∧
    (State.outputEvents s bytes).freeCtr = s.freeCtr ∧
    (State.outputEvents s bytes).coreTicks = s.coreTicks ∧
    (State.outputEvents s bytes).params = s.params ∧
    (State.outputEvents s bytes).cyc = s.cyc ∧
    (State.outputEvents s bytes).boot = s.boot ∧
    (State.outputEvents s bytes).ports = s.ports ∧
    (State.outputEvents s bytes).segs = s.segs ∧
    (State.outputEvents s bytes).opening = s.opening ∧
    (State.outputEvents s bytes).fbs = s.fbs ∧
    (State.outputEvents s bytes).axes = s.axes ∧
    (State.outputEvents s bytes).steps = s.steps ∧
    (State.outputEvents s bytes).line = s.line ∧
    (State.outputEvents s bytes).moves = s.moves ∧
    (State.outputEvents s bytes).arb = s.arb ∧
    (State.outputEvents s bytes).groups = s.groups ∧
    (State.outputEvents s bytes).eng = s.eng ∧
    (State.outputEvents s bytes).saf = s.saf ∧
    (State.outputEvents s bytes).die = s.die ∧
    (State.outputEvents s bytes).twin = s.twin ∧
    (State.outputEvents s bytes).scs = s.scs ∧
    (State.outputEvents s bytes).time = s.time ∧
    (State.outputEvents s bytes).host.keys = s.host.keys ∧
    (State.outputEvents s bytes).host.parQueue = s.host.parQueue := by
  generalize hT : State.outputEvents s bytes = res
  unfold State.outputEvents at hT
  try dsimp only at hT
  repeat' split at hT
  all_goals subst hT
  all_goals (try simp)
  all_goals (repeat' split)
  all_goals (try simp)

@[simp] theorem State.setHeldOut_frame (s : State) (j : Nat) (c : Option CmdCtx) :
    (State.setHeldOut s j c).pending = s.pending ∧
    (State.setHeldOut s j c).out = s.out ∧
    (State.setHeldOut s j c).freeCtr = s.freeCtr ∧
    (State.setHeldOut s j c).coreTicks = s.coreTicks ∧
    (State.setHeldOut s j c).params = s.params ∧
    (State.setHeldOut s j c).cyc = s.cyc ∧
    (State.setHeldOut s j c).boot = s.boot ∧
    (State.setHeldOut s j c).ports = s.ports ∧
    (State.setHeldOut s j c).segs = s.segs ∧
    (State.setHeldOut s j c).opening = s.opening ∧
    (State.setHeldOut s j c).fbs = s.fbs ∧
    (State.setHeldOut s j c).axes = s.axes ∧
    (State.setHeldOut s j c).steps = s.steps ∧
    (State.setHeldOut s j c).line = s.line ∧
    (State.setHeldOut s j c).moves = s.moves ∧
    (State.setHeldOut s j c).arb = s.arb ∧
    (State.setHeldOut s j c).groups = s.groups ∧
    (State.setHeldOut s j c).eng = s.eng ∧
    (State.setHeldOut s j c).saf = s.saf ∧
    (State.setHeldOut s j c).die = s.die ∧
    (State.setHeldOut s j c).twin = s.twin ∧
    (State.setHeldOut s j c).scs = s.scs ∧
    (State.setHeldOut s j c).time = s.time ∧
    (State.setHeldOut s j c).host = s.host := by
  generalize hT : State.setHeldOut s j c = res
  unfold State.setHeldOut at hT
  try dsimp only at hT
  repeat' split at hT
  all_goals subst hT
  all_goals (try simp)
  all_goals (repeat' split)
  all_goals (try simp)

@[simp] theorem State.setHeldOut_idents (s : State) (j : Nat) (c : Option CmdCtx) : (State.setHeldOut s j c).idents = s.idents := State.idents_eq _ _ (by simp)

@[simp] theorem State.dropHeldOut_frame (s : State) (j : Nat) :
    (State.dropHeldOut s j).pending = s.pending ∧
    (State.dropHeldOut s j).freeCtr = s.freeCtr ∧
    (State.dropHeldOut s j).coreTicks = s.coreTicks ∧
    (State.dropHeldOut s j).params = s.params ∧
    (State.dropHeldOut s j).cyc = s.cyc ∧
    (State.dropHeldOut s j).boot = s.boot ∧
    (State.dropHeldOut s j).ports = s.ports ∧
    (State.dropHeldOut s j).segs = s.segs ∧
    (State.dropHeldOut s j).opening = s.opening ∧
    (State.dropHeldOut s j).fbs = s.fbs ∧
    (State.dropHeldOut s j).axes = s.axes ∧
    (State.dropHeldOut s j).steps = s.steps ∧
    (State.dropHeldOut s j).line = s.line ∧
    (State.dropHeldOut s j).moves = s.moves ∧
    (State.dropHeldOut s j).arb = s.arb ∧
    (State.dropHeldOut s j).groups = s.groups ∧
    (State.dropHeldOut s j).eng = s.eng ∧
    (State.dropHeldOut s j).saf = s.saf ∧
    (State.dropHeldOut s j).die = s.die ∧
    (State.dropHeldOut s j).twin = s.twin ∧
    (State.dropHeldOut s j).scs = s.scs ∧
    (State.dropHeldOut s j).time = s.time ∧
    (State.dropHeldOut s j).host.keys = s.host.keys ∧
    (State.dropHeldOut s j).host.parQueue = s.host.parQueue := by
  generalize hT : State.dropHeldOut s j = res
  unfold State.dropHeldOut at hT
  try dsimp only at hT
  repeat' split at hT
  all_goals subst hT
  all_goals (try simp)
  all_goals (repeat' split)
  all_goals (try simp)

@[simp] theorem State.dropHeldOut_idents (s : State) (j : Nat) : (State.dropHeldOut s j).idents = s.idents := by
  generalize hT : State.dropHeldOut s j = res
  unfold State.dropHeldOut at hT
  try dsimp only at hT
  repeat' split at hT
  all_goals subst hT
  all_goals (try simp)
  all_goals (repeat' split)
  all_goals (try simp)
  all_goals (try rfl)
  all_goals (try exact State.idents_eq _ _ (by simp))
  all_goals (try simp [Session.ident])
  all_goals (try simp [Session.ident, State.session])
  all_goals (try simp [State.idents, State.session, Session.ident])

@[simp] theorem State.seeRestarted_frame (s : State) (restarted : Bool) :
    (State.seeRestarted s restarted).pending = s.pending ∧
    (State.seeRestarted s restarted).freeCtr = s.freeCtr ∧
    (State.seeRestarted s restarted).coreTicks = s.coreTicks ∧
    (State.seeRestarted s restarted).params = s.params ∧
    (State.seeRestarted s restarted).cyc = s.cyc ∧
    (State.seeRestarted s restarted).boot = s.boot ∧
    (State.seeRestarted s restarted).ports = s.ports ∧
    (State.seeRestarted s restarted).segs = s.segs ∧
    (State.seeRestarted s restarted).opening = s.opening ∧
    (State.seeRestarted s restarted).fbs = s.fbs ∧
    (State.seeRestarted s restarted).axes = s.axes ∧
    (State.seeRestarted s restarted).steps = s.steps ∧
    (State.seeRestarted s restarted).line = s.line ∧
    (State.seeRestarted s restarted).moves = s.moves ∧
    (State.seeRestarted s restarted).arb = s.arb ∧
    (State.seeRestarted s restarted).groups = s.groups ∧
    (State.seeRestarted s restarted).eng = s.eng ∧
    (State.seeRestarted s restarted).saf = s.saf ∧
    (State.seeRestarted s restarted).die = s.die ∧
    (State.seeRestarted s restarted).twin = s.twin ∧
    (State.seeRestarted s restarted).scs = s.scs ∧
    (State.seeRestarted s restarted).time = s.time ∧
    (State.seeRestarted s restarted).host.keys = s.host.keys ∧
    (State.seeRestarted s restarted).host.parQueue = s.host.parQueue := by
  generalize hT : State.seeRestarted s restarted = res
  unfold State.seeRestarted at hT
  try dsimp only at hT
  repeat' split at hT
  all_goals subst hT
  all_goals (try simp)
  all_goals (repeat' split)
  all_goals (try simp)

@[simp] theorem State.seeRestarted_idents (s : State) (restarted : Bool) : (State.seeRestarted s restarted).idents = s.idents := by
  generalize hT : State.seeRestarted s restarted = res
  unfold State.seeRestarted at hT
  try dsimp only at hT
  repeat' split at hT
  all_goals subst hT
  all_goals (try simp)
  all_goals (repeat' split)
  all_goals (try simp)
  all_goals (try rfl)
  all_goals (try exact State.idents_eq _ _ (by simp))
  all_goals (try simp [Session.ident])
  all_goals (try simp [Session.ident, State.session])
  all_goals (try simp [State.idents, State.session, Session.ident])

@[simp] theorem State.shortToVf_frame (s : State) (j : Nat) :
    (State.shortToVf s j).pending = s.pending ∧
    (State.shortToVf s j).out = s.out ∧
    (State.shortToVf s j).freeCtr = s.freeCtr ∧
    (State.shortToVf s j).coreTicks = s.coreTicks ∧
    (State.shortToVf s j).params = s.params ∧
    (State.shortToVf s j).cyc = s.cyc ∧
    (State.shortToVf s j).boot = s.boot ∧
    (State.shortToVf s j).ports = s.ports ∧
    (State.shortToVf s j).segs = s.segs ∧
    (State.shortToVf s j).opening = s.opening ∧
    (State.shortToVf s j).fbs = s.fbs ∧
    (State.shortToVf s j).axes = s.axes ∧
    (State.shortToVf s j).steps = s.steps ∧
    (State.shortToVf s j).line = s.line ∧
    (State.shortToVf s j).moves = s.moves ∧
    (State.shortToVf s j).arb = s.arb ∧
    (State.shortToVf s j).groups = s.groups ∧
    (State.shortToVf s j).eng = s.eng ∧
    (State.shortToVf s j).saf = s.saf ∧
    (State.shortToVf s j).fld = s.fld ∧
    (State.shortToVf s j).twin = s.twin ∧
    (State.shortToVf s j).scs = s.scs ∧
    (State.shortToVf s j).time = s.time ∧
    (State.shortToVf s j).host = s.host := by
  generalize hT : State.shortToVf s j = res
  unfold State.shortToVf at hT
  try dsimp only at hT
  repeat' split at hT
  all_goals subst hT
  all_goals (try simp)
  all_goals (repeat' split)
  all_goals (try simp)

@[simp] theorem State.shortToVf_idents (s : State) (j : Nat) : (State.shortToVf s j).idents = s.idents := State.idents_eq _ _ (by simp)

@[simp] theorem State.wiredTogether_frame (s : State) (j k : Nat) :
    (State.wiredTogether s j k).pending = s.pending ∧
    (State.wiredTogether s j k).out = s.out ∧
    (State.wiredTogether s j k).freeCtr = s.freeCtr ∧
    (State.wiredTogether s j k).coreTicks = s.coreTicks ∧
    (State.wiredTogether s j k).params = s.params ∧
    (State.wiredTogether s j k).cyc = s.cyc ∧
    (State.wiredTogether s j k).boot = s.boot ∧
    (State.wiredTogether s j k).ports = s.ports ∧
    (State.wiredTogether s j k).segs = s.segs ∧
    (State.wiredTogether s j k).opening = s.opening ∧
    (State.wiredTogether s j k).fbs = s.fbs ∧
    (State.wiredTogether s j k).axes = s.axes ∧
    (State.wiredTogether s j k).steps = s.steps ∧
    (State.wiredTogether s j k).line = s.line ∧
    (State.wiredTogether s j k).moves = s.moves ∧
    (State.wiredTogether s j k).arb = s.arb ∧
    (State.wiredTogether s j k).groups = s.groups ∧
    (State.wiredTogether s j k).eng = s.eng ∧
    (State.wiredTogether s j k).saf = s.saf ∧
    (State.wiredTogether s j k).fld = s.fld ∧
    (State.wiredTogether s j k).twin = s.twin ∧
    (State.wiredTogether s j k).scs = s.scs ∧
    (State.wiredTogether s j k).time = s.time ∧
    (State.wiredTogether s j k).host = s.host := by
  generalize hT : State.wiredTogether s j k = res
  unfold State.wiredTogether at hT
  try dsimp only at hT
  repeat' split at hT
  all_goals subst hT
  all_goals (try simp)
  all_goals (repeat' split)
  all_goals (try simp)

@[simp] theorem State.wiredTogether_idents (s : State) (j k : Nat) : (State.wiredTogether s j k).idents = s.idents := State.idents_eq _ _ (by simp)

@[simp] theorem State.runHeldOrder_frame (s : State) (j : Nat) :
    (State.runHeldOrder s j).pending = s.pending ∧
    (State.runHeldOrder s j).out = s.out ∧
    (State.runHeldOrder s j).freeCtr = s.freeCtr ∧
    (State.runHeldOrder s j).coreTicks = s.coreTicks ∧
    (State.runHeldOrder s j).params = s.params ∧
    (State.runHeldOrder s j).cyc = s.cyc ∧
    (State.runHeldOrder s j).boot = s.boot ∧
    (State.runHeldOrder s j).ports = s.ports ∧
    (State.runHeldOrder s j).segs = s.segs ∧
    (State.runHeldOrder s j).opening = s.opening ∧
    (State.runHeldOrder s j).fbs = s.fbs ∧
    (State.runHeldOrder s j).axes = s.axes ∧
    (State.runHeldOrder s j).steps = s.steps ∧
    (State.runHeldOrder s j).line = s.line ∧
    (State.runHeldOrder s j).moves = s.moves ∧
    (State.runHeldOrder s j).arb = s.arb ∧
    (State.runHeldOrder s j).groups = s.groups ∧
    (State.runHeldOrder s j).eng = s.eng ∧
    (State.runHeldOrder s j).saf = s.saf ∧
    (State.runHeldOrder s j).twin = s.twin ∧
    (State.runHeldOrder s j).scs = s.scs ∧
    (State.runHeldOrder s j).time = s.time ∧
    (State.runHeldOrder s j).host = s.host := by
  generalize hT : State.runHeldOrder s j = res
  unfold State.runHeldOrder at hT
  try dsimp only at hT
  repeat' split at hT
  all_goals subst hT
  all_goals (try simp)
  all_goals (repeat' split)
  all_goals (try simp)

@[simp] theorem State.runHeldOrder_idents (s : State) (j : Nat) : (State.runHeldOrder s j).idents = s.idents := State.idents_eq _ _ (by simp)

@[simp] theorem State.fireOrder_frame (s : State) (o : Order) :
    (State.fireOrder s o).pending = s.pending ∧
    (State.fireOrder s o).out = s.out ∧
    (State.fireOrder s o).freeCtr = s.freeCtr ∧
    (State.fireOrder s o).coreTicks = s.coreTicks ∧
    (State.fireOrder s o).params = s.params ∧
    (State.fireOrder s o).cyc = s.cyc ∧
    (State.fireOrder s o).boot = s.boot ∧
    (State.fireOrder s o).ports = s.ports ∧
    (State.fireOrder s o).segs = s.segs ∧
    (State.fireOrder s o).opening = s.opening ∧
    (State.fireOrder s o).fbs = s.fbs ∧
    (State.fireOrder s o).axes = s.axes ∧
    (State.fireOrder s o).steps = s.steps ∧
    (State.fireOrder s o).line = s.line ∧
    (State.fireOrder s o).moves = s.moves ∧
    (State.fireOrder s o).arb = s.arb ∧
    (State.fireOrder s o).groups = s.groups ∧
    (State.fireOrder s o).eng = s.eng ∧
    (State.fireOrder s o).saf = s.saf ∧
    (State.fireOrder s o).twin = s.twin ∧
    (State.fireOrder s o).scs = s.scs ∧
    (State.fireOrder s o).time = s.time ∧
    (State.fireOrder s o).host = s.host := by
  generalize hT : State.fireOrder s o = res
  unfold State.fireOrder at hT
  try dsimp only at hT
  repeat' split at hT
  all_goals subst hT
  all_goals (try simp)
  all_goals (repeat' split)
  all_goals (try simp)

@[simp] theorem State.fireOrder_idents (s : State) (o : Order) : (State.fireOrder s o).idents = s.idents := State.idents_eq _ _ (by simp)

@[simp] theorem State.outSet_frame (s : State) (c : CmdCtx) (j : Nat) (level : Bool) :
    (State.outSet s c j level).pending = s.pending ∧
    (State.outSet s c j level).freeCtr = s.freeCtr ∧
    (State.outSet s c j level).coreTicks = s.coreTicks ∧
    (State.outSet s c j level).params = s.params ∧
    (State.outSet s c j level).cyc = s.cyc ∧
    (State.outSet s c j level).boot = s.boot ∧
    (State.outSet s c j level).ports = s.ports ∧
    (State.outSet s c j level).segs = s.segs ∧
    (State.outSet s c j level).opening = s.opening ∧
    (State.outSet s c j level).fbs = s.fbs ∧
    (State.outSet s c j level).axes = s.axes ∧
    (State.outSet s c j level).steps = s.steps ∧
    (State.outSet s c j level).line = s.line ∧
    (State.outSet s c j level).moves = s.moves ∧
    (State.outSet s c j level).arb = s.arb ∧
    (State.outSet s c j level).groups = s.groups ∧
    (State.outSet s c j level).eng = s.eng ∧
    (State.outSet s c j level).saf = s.saf ∧
    (State.outSet s c j level).twin = s.twin ∧
    (State.outSet s c j level).scs = s.scs ∧
    (State.outSet s c j level).time = s.time ∧
    (State.outSet s c j level).host.keys = s.host.keys ∧
    (State.outSet s c j level).host.parQueue = s.host.parQueue := by
  generalize hT : State.outSet s c j level = res
  unfold State.outSet at hT
  try dsimp only at hT
  repeat' split at hT
  all_goals subst hT
  all_goals (try simp)
  all_goals (repeat' split)
  all_goals (try simp)

@[simp] theorem State.outSet_idents (s : State) (c : CmdCtx) (j : Nat) (level : Bool) : (State.outSet s c j level).idents = s.idents := by
  generalize hT : State.outSet s c j level = res
  unfold State.outSet at hT
  try dsimp only at hT
  repeat' split at hT
  all_goals subst hT
  all_goals (try simp)
  all_goals (repeat' split)
  all_goals (try simp)
  all_goals (try rfl)
  all_goals (try exact State.idents_eq _ _ (by simp))
  all_goals (try simp [Session.ident])
  all_goals (try simp [Session.ident, State.session])
  all_goals (try simp [State.idents, State.session, Session.ident])

@[simp] theorem State.outputsSet_frame (s : State) (w : OutWait) :
    (State.outputsSet s w).1.pending = s.pending ∧
    (State.outputsSet s w).1.freeCtr = s.freeCtr ∧
    (State.outputsSet s w).1.coreTicks = s.coreTicks ∧
    (State.outputsSet s w).1.params = s.params ∧
    (State.outputsSet s w).1.cyc = s.cyc ∧
    (State.outputsSet s w).1.boot = s.boot ∧
    (State.outputsSet s w).1.ports = s.ports ∧
    (State.outputsSet s w).1.segs = s.segs ∧
    (State.outputsSet s w).1.opening = s.opening ∧
    (State.outputsSet s w).1.fbs = s.fbs ∧
    (State.outputsSet s w).1.axes = s.axes ∧
    (State.outputsSet s w).1.steps = s.steps ∧
    (State.outputsSet s w).1.line = s.line ∧
    (State.outputsSet s w).1.moves = s.moves ∧
    (State.outputsSet s w).1.arb = s.arb ∧
    (State.outputsSet s w).1.groups = s.groups ∧
    (State.outputsSet s w).1.eng = s.eng ∧
    (State.outputsSet s w).1.saf = s.saf ∧
    (State.outputsSet s w).1.twin = s.twin ∧
    (State.outputsSet s w).1.scs = s.scs ∧
    (State.outputsSet s w).1.time = s.time ∧
    (State.outputsSet s w).1.host.keys = s.host.keys ∧
    (State.outputsSet s w).1.host.parQueue = s.host.parQueue := by
  generalize hT : State.outputsSet s w = res
  unfold State.outputsSet at hT
  try dsimp only at hT
  repeat' split at hT
  all_goals subst hT
  all_goals (try simp)
  all_goals (repeat' split)
  all_goals (try simp)

@[simp] theorem State.outputsSet_idents (s : State) (w : OutWait) : (State.outputsSet s w).1.idents = s.idents := by
  generalize hT : State.outputsSet s w = res
  unfold State.outputsSet at hT
  try dsimp only at hT
  repeat' split at hT
  all_goals subst hT
  all_goals (try simp)
  all_goals (repeat' split)
  all_goals (try simp)
  all_goals (try rfl)
  all_goals (try exact State.idents_eq _ _ (by simp))
  all_goals (try simp [Session.ident])
  all_goals (try simp [Session.ident, State.session])
  all_goals (try simp [State.idents, State.session, Session.ident])

@[simp] theorem State.landOutputs_frame (s : State) :
    (State.landOutputs s).pending = s.pending ∧
    (State.landOutputs s).freeCtr = s.freeCtr ∧
    (State.landOutputs s).coreTicks = s.coreTicks ∧
    (State.landOutputs s).params = s.params ∧
    (State.landOutputs s).cyc = s.cyc ∧
    (State.landOutputs s).boot = s.boot ∧
    (State.landOutputs s).ports = s.ports ∧
    (State.landOutputs s).segs = s.segs ∧
    (State.landOutputs s).opening = s.opening ∧
    (State.landOutputs s).fbs = s.fbs ∧
    (State.landOutputs s).axes = s.axes ∧
    (State.landOutputs s).steps = s.steps ∧
    (State.landOutputs s).line = s.line ∧
    (State.landOutputs s).moves = s.moves ∧
    (State.landOutputs s).arb = s.arb ∧
    (State.landOutputs s).groups = s.groups ∧
    (State.landOutputs s).eng = s.eng ∧
    (State.landOutputs s).saf = s.saf ∧
    (State.landOutputs s).twin = s.twin ∧
    (State.landOutputs s).scs = s.scs ∧
    (State.landOutputs s).time = s.time ∧
    (State.landOutputs s).host.keys = s.host.keys ∧
    (State.landOutputs s).host.parQueue = s.host.parQueue := by
  generalize hT : State.landOutputs s = res
  unfold State.landOutputs at hT
  try dsimp only at hT
  repeat' split at hT
  all_goals subst hT
  all_goals (try simp)
  all_goals (repeat' split)
  all_goals (try simp)

@[simp] theorem State.landOutputs_idents (s : State) : (State.landOutputs s).idents = s.idents := by
  generalize hT : State.landOutputs s = res
  unfold State.landOutputs at hT
  try dsimp only at hT
  repeat' split at hT
  all_goals subst hT
  all_goals (try simp)
  all_goals (repeat' split)
  all_goals (try simp)
  all_goals (try rfl)
  all_goals (try exact State.idents_eq _ _ (by simp))
  all_goals (try simp [Session.ident])
  all_goals (try simp [Session.ident, State.session])
  all_goals (try simp [State.idents, State.session, Session.ident])

end Sys2Proof.Machine
end

