-- ==== Sys2Proof/Laws/FrameMotion.lean ====
section
/-! SUPPORT. What the operations of Machine/Motion.lean leave unchanged: one rule per operation. -/

namespace Sys2Proof.Machine

@[simp] theorem State.captureOfs_frame (s : State) (a n : Nat) :
    (State.captureOfs s a n).pending = s.pending ∧
    (State.captureOfs s a n).out = s.out ∧
    (State.captureOfs s a n).freeCtr = s.freeCtr ∧
    (State.captureOfs s a n).coreTicks = s.coreTicks ∧
    (State.captureOfs s a n).params = s.params ∧
    (State.captureOfs s a n).cyc = s.cyc ∧
    (State.captureOfs s a n).boot = s.boot ∧
    (State.captureOfs s a n).ports = s.ports ∧
    (State.captureOfs s a n).segs = s.segs ∧
    (State.captureOfs s a n).opening = s.opening ∧
    (State.captureOfs s a n).fbs = s.fbs ∧
    (State.captureOfs s a n).steps = s.steps ∧
    (State.captureOfs s a n).line = s.line ∧
    (State.captureOfs s a n).moves = s.moves ∧
    (State.captureOfs s a n).arb = s.arb ∧
    (State.captureOfs s a n).groups = s.groups ∧
    (State.captureOfs s a n).eng = s.eng ∧
    (State.captureOfs s a n).saf = s.saf ∧
    (State.captureOfs s a n).die = s.die ∧
    (State.captureOfs s a n).fld = s.fld ∧
    (State.captureOfs s a n).twin = s.twin ∧
    (State.captureOfs s a n).scs = s.scs ∧
    (State.captureOfs s a n).time = s.time ∧
    (State.captureOfs s a n).host = s.host := by
  generalize hT : State.captureOfs s a n = res
  unfold State.captureOfs at hT
  try dsimp only at hT
  repeat' split at hT
  all_goals subst hT
  all_goals (try simp)
  all_goals (repeat' split)
  all_goals (try simp)

@[simp] theorem State.captureOfs_idents (s : State) (a n : Nat) : (State.captureOfs s a n).idents = s.idents := State.idents_eq _ _ (by simp)

end Sys2Proof.Machine
end

