-- ==== Sys2Proof/Laws/FrameMoveOps.lean ====
section
/-! SUPPORT. What the operations of Machine/MoveOps.lean leave unchanged: one rule per operation. -/

namespace Sys2Proof.Machine

@[simp] theorem State.modMoves_frame (s : State) (f : MoveList → MoveList) :
    (State.modMoves s f).pending = s.pending ∧
    (State.modMoves s f).out = s.out ∧
    (State.modMoves s f).freeCtr = s.freeCtr ∧
    (State.modMoves s f).coreTicks = s.coreTicks ∧
    (State.modMoves s f).params = s.params ∧
    (State.modMoves s f).cyc = s.cyc ∧
    (State.modMoves s f).boot = s.boot ∧
    (State.modMoves s f).ports = s.ports ∧
    (State.modMoves s f).segs = s.segs ∧
    (State.modMoves s f).opening = s.opening ∧
    (State.modMoves s f).fbs = s.fbs ∧
    (State.modMoves s f).axes = s.axes ∧
    (State.modMoves s f).steps = s.steps ∧
    (State.modMoves s f).line = s.line ∧
    (State.modMoves s f).arb = s.arb ∧
    (State.modMoves s f).groups = s.groups ∧
    (State.modMoves s f).eng = s.eng ∧
    (State.modMoves s f).saf = s.saf ∧
    (State.modMoves s f).die = s.die ∧
    (State.modMoves s f).fld = s.fld ∧
    (State.modMoves s f).twin = s.twin ∧
    (State.modMoves s f).scs = s.scs ∧
    (State.modMoves s f).time = s.time ∧
    (State.modMoves s f).host = s.host := by
  generalize hT : State.modMoves s f = res
  unfold State.modMoves at hT
  try dsimp only at hT
  repeat' split at hT
  all_goals subst hT
  all_goals (try simp)
  all_goals (repeat' split)
  all_goals (try simp)

@[simp] theorem State.modMoves_idents (s : State) (f : MoveList → MoveList) : (State.modMoves s f).idents = s.idents := State.idents_eq _ _ (by simp)

@[simp] theorem State.setMove_frame (s : State) (x : MoveItem) :
    (State.setMove s x).pending = s.pending ∧
    (State.setMove s x).out = s.out ∧
    (State.setMove s x).freeCtr = s.freeCtr ∧
    (State.setMove s x).coreTicks = s.coreTicks ∧
    (State.setMove s x).params = s.params ∧
    (State.setMove s x).cyc = s.cyc ∧
    (State.setMove s x).boot = s.boot ∧
    (State.setMove s x).ports = s.ports ∧
    (State.setMove s x).segs = s.segs ∧
    (State.setMove s x).opening = s.opening ∧
    (State.setMove s x).fbs = s.fbs ∧
    (State.setMove s x).axes = s.axes ∧
    (State.setMove s x).steps = s.steps ∧
    (State.setMove s x).line = s.line ∧
    (State.setMove s x).arb = s.arb ∧
    (State.setMove s x).groups = s.groups ∧
    (State.setMove s x).eng = s.eng ∧
    (State.setMove s x).saf = s.saf ∧
    (State.setMove s x).die = s.die ∧
    (State.setMove s x).fld = s.fld ∧
    (State.setMove s x).twin = s.twin ∧
    (State.setMove s x).scs = s.scs ∧
    (State.setMove s x).time = s.time ∧
    (State.setMove s x).host = s.host := by
  generalize hT : State.setMove s x = res
  unfold State.setMove at hT
  try dsimp only at hT
  repeat' split at hT
  all_goals subst hT
  all_goals (try simp)
  all_goals (repeat' split)
  all_goals (try simp)

@[simp] theorem State.setMove_idents (s : State) (x : MoveItem) : (State.setMove s x).idents = s.idents := State.idents_eq _ _ (by simp)

@[simp] theorem State.freeMove_frame (s : State) (seq : Nat) :
    (State.freeMove s seq).pending = s.pending ∧
    (State.freeMove s seq).out = s.out ∧
    (State.freeMove s seq).freeCtr = s.freeCtr ∧
    (State.freeMove s seq).coreTicks = s.coreTicks ∧
    (State.freeMove s seq).params = s.params ∧
    (State.freeMove s seq).cyc = s.cyc ∧
    (State.freeMove s seq).boot = s.boot ∧
    (State.freeMove s seq).ports = s.ports ∧
    (State.freeMove s seq).segs = s.segs ∧
    (State.freeMove s seq).opening = s.opening ∧
    (State.freeMove s seq).fbs = s.fbs ∧
    (State.freeMove s seq).axes = s.axes ∧
    (State.freeMove s seq).steps = s.steps ∧
    (State.freeMove s seq).line = s.line ∧
    (State.freeMove s seq).arb = s.arb ∧
    (State.freeMove s seq).groups = s.groups ∧
    (State.freeMove s seq).eng = s.eng ∧
    (State.freeMove s seq).saf = s.saf ∧
    (State.freeMove s seq).die = s.die ∧
    (State.freeMove s seq).fld = s.fld ∧
    (State.freeMove s seq).twin = s.twin ∧
    (State.freeMove s seq).scs = s.scs ∧
    (State.freeMove s seq).time = s.time ∧
    (State.freeMove s seq).host = s.host := by
  generalize hT : State.freeMove s seq = res
  unfold State.freeMove at hT
  try dsimp only at hT
  repeat' split at hT
  all_goals subst hT
  all_goals (try simp)
  all_goals (repeat' split)
  all_goals (try simp)

@[simp] theorem State.freeMove_idents (s : State) (seq : Nat) : (State.freeMove s seq).idents = s.idents := State.idents_eq _ _ (by simp)

@[simp] theorem State.moveDone_frame (s : State) (x : MoveItem) :
    (State.moveDone s x).pending = s.pending ∧
    (State.moveDone s x).out = s.out ∧
    (State.moveDone s x).freeCtr = s.freeCtr ∧
    (State.moveDone s x).coreTicks = s.coreTicks ∧
    (State.moveDone s x).params = s.params ∧
    (State.moveDone s x).cyc = s.cyc ∧
    (State.moveDone s x).boot = s.boot ∧
    (State.moveDone s x).ports = s.ports ∧
    (State.moveDone s x).segs = s.segs ∧
    (State.moveDone s x).opening = s.opening ∧
    (State.moveDone s x).fbs = s.fbs ∧
    (State.moveDone s x).axes = s.axes ∧
    (State.moveDone s x).steps = s.steps ∧
    (State.moveDone s x).line = s.line ∧
    (State.moveDone s x).arb = s.arb ∧
    (State.moveDone s x).groups = s.groups ∧
    (State.moveDone s x).eng = s.eng ∧
    (State.moveDone s x).saf = s.saf ∧
    (State.moveDone s x).die = s.die ∧
    (State.moveDone s x).fld = s.fld ∧
    (State.moveDone s x).twin = s.twin ∧
    (State.moveDone s x).scs = s.scs ∧
    (State.moveDone s x).time = s.time ∧
    (State.moveDone s x).host = s.host := by
  generalize hT : State.moveDone s x = res
  unfold State.moveDone at hT
  try dsimp only at hT
  repeat' split at hT
  all_goals subst hT
  all_goals (try simp)
  all_goals (repeat' split)
  all_goals (try simp)

@[simp] theorem State.moveDone_idents (s : State) (x : MoveItem) : (State.moveDone s x).idents = s.idents := State.idents_eq _ _ (by simp)

@[simp] theorem State.queueRev_frame (s : State) (n : Nat) (item : RevItem) (affected : Int) :
    (State.queueRev s n item affected).pending = s.pending ∧
    (State.queueRev s n item affected).out = s.out ∧
    (State.queueRev s n item affected).freeCtr = s.freeCtr ∧
    (State.queueRev s n item affected).coreTicks = s.coreTicks ∧
    (State.queueRev s n item affected).params = s.params ∧
    (State.queueRev s n item affected).cyc = s.cyc ∧
    (State.queueRev s n item affected).boot = s.boot ∧
    (State.queueRev s n item affected).ports = s.ports ∧
    (State.queueRev s n item affected).opening = s.opening ∧
    (State.queueRev s n item affected).fbs = s.fbs ∧
    (State.queueRev s n item affected).axes = s.axes ∧
    (State.queueRev s n item affected).steps = s.steps ∧
    (State.queueRev s n item affected).line = s.line ∧
    (State.queueRev s n item affected).moves = s.moves ∧
    (State.queueRev s n item affected).arb = s.arb ∧
    (State.queueRev s n item affected).groups = s.groups ∧
    (State.queueRev s n item affected).eng = s.eng ∧
    (State.queueRev s n item affected).saf = s.saf ∧
    (State.queueRev s n item affected).die = s.die ∧
    (State.queueRev s n item affected).fld = s.fld ∧
    (State.queueRev s n item affected).twin = s.twin ∧
    (State.queueRev s n item affected).scs = s.scs ∧
    (State.queueRev s n item affected).time = s.time ∧
    (State.queueRev s n item affected).host = s.host := by
  generalize hT : State.queueRev s n item affected = res
  unfold State.queueRev at hT
  try dsimp only at hT
  repeat' split at hT
  all_goals subst hT
  all_goals (try simp)
  all_goals (repeat' split)
  all_goals (try simp)

@[simp] theorem State.queueRev_idents (s : State) (n : Nat) (item : RevItem) (affected : Int) : (State.queueRev s n item affected).idents = s.idents := State.idents_eq _ _ (by simp)

@[simp] theorem State.orderField_frame (s : State) (x : MoveItem) (op : Nat) (fire : Int) :
    (State.orderField s x op fire).pending = s.pending ∧
    (State.orderField s x op fire).out = s.out ∧
    (State.orderField s x op fire).freeCtr = s.freeCtr ∧
    (State.orderField s x op fire).coreTicks = s.coreTicks ∧
    (State.orderField s x op fire).params = s.params ∧
    (State.orderField s x op fire).cyc = s.cyc ∧
    (State.orderField s x op fire).boot = s.boot ∧
    (State.orderField s x op fire).ports = s.ports ∧
    (State.orderField s x op fire).segs = s.segs ∧
    (State.orderField s x op fire).opening = s.opening ∧
    (State.orderField s x op fire).fbs = s.fbs ∧
    (State.orderField s x op fire).axes = s.axes ∧
    (State.orderField s x op fire).steps = s.steps ∧
    (State.orderField s x op fire).line = s.line ∧
    (State.orderField s x op fire).moves = s.moves ∧
    (State.orderField s x op fire).arb = s.arb ∧
    (State.orderField s x op fire).groups = s.groups ∧
    (State.orderField s x op fire).eng = s.eng ∧
    (State.orderField s x op fire).saf = s.saf ∧
    (State.orderField s x op fire).die = s.die ∧
    (State.orderField s x op fire).twin = s.twin ∧
    (State.orderField s x op fire).scs = s.scs ∧
    (State.orderField s x op fire).time = s.time ∧
    (State.orderField s x op fire).host = s.host := by
  generalize hT : State.orderField s x op fire = res
  unfold State.orderField at hT
  try dsimp only at hT
  repeat' split at hT
  all_goals subst hT
  all_goals (try simp)
  all_goals (repeat' split)
  all_goals (try simp)

@[simp] theorem State.orderField_idents (s : State) (x : MoveItem) (op : Nat) (fire : Int) : (State.orderField s x op fire).idents = s.idents := State.idents_eq _ _ (by simp)

@[simp] theorem State.cancelMove_frame (s : State) (x : MoveItem) :
    (State.cancelMove s x).pending = s.pending ∧
    (State.cancelMove s x).out = s.out ∧
    (State.cancelMove s x).freeCtr = s.freeCtr ∧
    (State.cancelMove s x).coreTicks = s.coreTicks ∧
    (State.cancelMove s x).params = s.params ∧
    (State.cancelMove s x).cyc = s.cyc ∧
    (State.cancelMove s x).boot = s.boot ∧
    (State.cancelMove s x).ports = s.ports ∧
    (State.cancelMove s x).opening = s.opening ∧
    (State.cancelMove s x).fbs = s.fbs ∧
    (State.cancelMove s x).axes = s.axes ∧
    (State.cancelMove s x).steps = s.steps ∧
    (State.cancelMove s x).line = s.line ∧
    (State.cancelMove s x).arb = s.arb ∧
    (State.cancelMove s x).groups = s.groups ∧
    (State.cancelMove s x).eng = s.eng ∧
    (State.cancelMove s x).saf = s.saf ∧
    (State.cancelMove s x).die = s.die ∧
    (State.cancelMove s x).twin = s.twin ∧
    (State.cancelMove s x).scs = s.scs ∧
    (State.cancelMove s x).time = s.time ∧
    (State.cancelMove s x).host = s.host := by
  generalize hT : State.cancelMove s x = res
  unfold State.cancelMove at hT
  try dsimp only at hT
  repeat' split at hT
  all_goals subst hT
  all_goals (try simp)
  all_goals (repeat' split)
  all_goals (try simp)

@[simp] theorem State.cancelMove_idents (s : State) (x : MoveItem) : (State.cancelMove s x).idents = s.idents := State.idents_eq _ _ (by simp)

@[simp] theorem State.retimeMove_frame (s : State) (x : MoveItem) (t : Int) :
    (State.retimeMove s x t).pending = s.pending ∧
    (State.retimeMove s x t).out = s.out ∧
    (State.retimeMove s x t).freeCtr = s.freeCtr ∧
    (State.retimeMove s x t).coreTicks = s.coreTicks ∧
    (State.retimeMove s x t).params = s.params ∧
    (State.retimeMove s x t).cyc = s.cyc ∧
    (State.retimeMove s x t).boot = s.boot ∧
    (State.retimeMove s x t).ports = s.ports ∧
    (State.retimeMove s x t).opening = s.opening ∧
    (State.retimeMove s x t).fbs = s.fbs ∧
    (State.retimeMove s x t).axes = s.axes ∧
    (State.retimeMove s x t).steps = s.steps ∧
    (State.retimeMove s x t).line = s.line ∧
    (State.retimeMove s x t).arb = s.arb ∧
    (State.retimeMove s x t).groups = s.groups ∧
    (State.retimeMove s x t).eng = s.eng ∧
    (State.retimeMove s x t).saf = s.saf ∧
    (State.retimeMove s x t).die = s.die ∧
    (State.retimeMove s x t).twin = s.twin ∧
    (State.retimeMove s x t).scs = s.scs ∧
    (State.retimeMove s x t).time = s.time ∧
    (State.retimeMove s x t).host = s.host := by
  generalize hT : State.retimeMove s x t = res
  unfold State.retimeMove at hT
  try dsimp only at hT
  repeat' split at hT
  all_goals subst hT
  all_goals (try simp)
  all_goals (repeat' split)
  all_goals (try simp)

@[simp] theorem State.retimeMove_idents (s : State) (x : MoveItem) (t : Int) : (State.retimeMove s x t).idents = s.idents := State.idents_eq _ _ (by simp)

@[simp] theorem State.logResid_frame (s : State) (x : MoveItem) (r : Int) :
    (State.logResid s x r).pending = s.pending ∧
    (State.logResid s x r).out = s.out ∧
    (State.logResid s x r).freeCtr = s.freeCtr ∧
    (State.logResid s x r).coreTicks = s.coreTicks ∧
    (State.logResid s x r).params = s.params ∧
    (State.logResid s x r).cyc = s.cyc ∧
    (State.logResid s x r).boot = s.boot ∧
    (State.logResid s x r).ports = s.ports ∧
    (State.logResid s x r).segs = s.segs ∧
    (State.logResid s x r).opening = s.opening ∧
    (State.logResid s x r).fbs = s.fbs ∧
    (State.logResid s x r).axes = s.axes ∧
    (State.logResid s x r).steps = s.steps ∧
    (State.logResid s x r).line = s.line ∧
    (State.logResid s x r).arb = s.arb ∧
    (State.logResid s x r).groups = s.groups ∧
    (State.logResid s x r).eng = s.eng ∧
    (State.logResid s x r).saf = s.saf ∧
    (State.logResid s x r).die = s.die ∧
    (State.logResid s x r).fld = s.fld ∧
    (State.logResid s x r).twin = s.twin ∧
    (State.logResid s x r).scs = s.scs ∧
    (State.logResid s x r).time = s.time ∧
    (State.logResid s x r).host = s.host := by
  generalize hT : State.logResid s x r = res
  unfold State.logResid at hT
  try dsimp only at hT
  repeat' split at hT
  all_goals subst hT
  all_goals (try simp)
  all_goals (repeat' split)
  all_goals (try simp)

@[simp] theorem State.logResid_idents (s : State) (x : MoveItem) (r : Int) : (State.logResid s x r).idents = s.idents := State.idents_eq _ _ (by simp)

@[simp] theorem State.lateDispatch_frame (s : State) (b : Bool) :
    (State.lateDispatch s b).pending = s.pending ∧
    (State.lateDispatch s b).out = s.out ∧
    (State.lateDispatch s b).freeCtr = s.freeCtr ∧
    (State.lateDispatch s b).coreTicks = s.coreTicks ∧
    (State.lateDispatch s b).params = s.params ∧
    (State.lateDispatch s b).cyc = s.cyc ∧
    (State.lateDispatch s b).boot = s.boot ∧
    (State.lateDispatch s b).ports = s.ports ∧
    (State.lateDispatch s b).segs = s.segs ∧
    (State.lateDispatch s b).opening = s.opening ∧
    (State.lateDispatch s b).fbs = s.fbs ∧
    (State.lateDispatch s b).axes = s.axes ∧
    (State.lateDispatch s b).steps = s.steps ∧
    (State.lateDispatch s b).line = s.line ∧
    (State.lateDispatch s b).arb = s.arb ∧
    (State.lateDispatch s b).groups = s.groups ∧
    (State.lateDispatch s b).eng = s.eng ∧
    (State.lateDispatch s b).saf = s.saf ∧
    (State.lateDispatch s b).die = s.die ∧
    (State.lateDispatch s b).fld = s.fld ∧
    (State.lateDispatch s b).twin = s.twin ∧
    (State.lateDispatch s b).scs = s.scs ∧
    (State.lateDispatch s b).time = s.time ∧
    (State.lateDispatch s b).host = s.host := by
  generalize hT : State.lateDispatch s b = res
  unfold State.lateDispatch at hT
  try dsimp only at hT
  repeat' split at hT
  all_goals subst hT
  all_goals (try simp)
  all_goals (repeat' split)
  all_goals (try simp)

@[simp] theorem State.lateDispatch_idents (s : State) (b : Bool) : (State.lateDispatch s b).idents = s.idents := State.idents_eq _ _ (by simp)

@[simp] theorem State.blockMove_frame (s : State) (x : MoveItem) :
    (State.blockMove s x).pending = s.pending ∧
    (State.blockMove s x).out = s.out ∧
    (State.blockMove s x).freeCtr = s.freeCtr ∧
    (State.blockMove s x).coreTicks = s.coreTicks ∧
    (State.blockMove s x).params = s.params ∧
    (State.blockMove s x).cyc = s.cyc ∧
    (State.blockMove s x).boot = s.boot ∧
    (State.blockMove s x).ports = s.ports ∧
    (State.blockMove s x).segs = s.segs ∧
    (State.blockMove s x).opening = s.opening ∧
    (State.blockMove s x).fbs = s.fbs ∧
    (State.blockMove s x).axes = s.axes ∧
    (State.blockMove s x).steps = s.steps ∧
    (State.blockMove s x).line = s.line ∧
    (State.blockMove s x).arb = s.arb ∧
    (State.blockMove s x).groups = s.groups ∧
    (State.blockMove s x).eng = s.eng ∧
    (State.blockMove s x).saf = s.saf ∧
    (State.blockMove s x).die = s.die ∧
    (State.blockMove s x).fld = s.fld ∧
    (State.blockMove s x).twin = s.twin ∧
    (State.blockMove s x).scs = s.scs ∧
    (State.blockMove s x).time = s.time ∧
    (State.blockMove s x).host = s.host := by
  generalize hT : State.blockMove s x = res
  unfold State.blockMove at hT
  try dsimp only at hT
  repeat' split at hT
  all_goals subst hT
  all_goals (try simp)
  all_goals (repeat' split)
  all_goals (try simp)

@[simp] theorem State.blockMove_idents (s : State) (x : MoveItem) : (State.blockMove s x).idents = s.idents := State.idents_eq _ _ (by simp)

@[simp] theorem State.fireCapture_frame (s : State) (x : MoveItem) (t : Int) (k : Nat) :
    (State.fireCapture s x t k).pending = s.pending ∧
    (State.fireCapture s x t k).out = s.out ∧
    (State.fireCapture s x t k).freeCtr = s.freeCtr ∧
    (State.fireCapture s x t k).coreTicks = s.coreTicks ∧
    (State.fireCapture s x t k).params = s.params ∧
    (State.fireCapture s x t k).cyc = s.cyc ∧
    (State.fireCapture s x t k).boot = s.boot ∧
    (State.fireCapture s x t k).ports = s.ports ∧
    (State.fireCapture s x t k).segs = s.segs ∧
    (State.fireCapture s x t k).opening = s.opening ∧
    (State.fireCapture s x t k).fbs = s.fbs ∧
    (State.fireCapture s x t k).axes = s.axes ∧
    (State.fireCapture s x t k).steps = s.steps ∧
    (State.fireCapture s x t k).line = s.line ∧
    (State.fireCapture s x t k).arb = s.arb ∧
    (State.fireCapture s x t k).groups = s.groups ∧
    (State.fireCapture s x t k).eng = s.eng ∧
    (State.fireCapture s x t k).saf = s.saf ∧
    (State.fireCapture s x t k).die = s.die ∧
    (State.fireCapture s x t k).fld = s.fld ∧
    (State.fireCapture s x t k).twin = s.twin ∧
    (State.fireCapture s x t k).scs = s.scs ∧
    (State.fireCapture s x t k).time = s.time ∧
    (State.fireCapture s x t k).host = s.host := by
  generalize hT : State.fireCapture s x t k = res
  unfold State.fireCapture at hT
  try dsimp only at hT
  repeat' split at hT
  all_goals subst hT
  all_goals (try simp)
  all_goals (repeat' split)
  all_goals (try simp)

@[simp] theorem State.fireCapture_idents (s : State) (x : MoveItem) (t : Int) (k : Nat) : (State.fireCapture s x t k).idents = s.idents := State.idents_eq _ _ (by simp)

@[simp] theorem State.dispatchNow_frame (s : State) (x : MoveItem) (t : Int) (k : Nat) :
    (State.dispatchNow s x t k).pending = s.pending ∧
    (State.dispatchNow s x t k).out = s.out ∧
    (State.dispatchNow s x t k).freeCtr = s.freeCtr ∧
    (State.dispatchNow s x t k).coreTicks = s.coreTicks ∧
    (State.dispatchNow s x t k).params = s.params ∧
    (State.dispatchNow s x t k).cyc = s.cyc ∧
    (State.dispatchNow s x t k).boot = s.boot ∧
    (State.dispatchNow s x t k).ports = s.ports ∧
    (State.dispatchNow s x t k).segs = s.segs ∧
    (State.dispatchNow s x t k).opening = s.opening ∧
    (State.dispatchNow s x t k).fbs = s.fbs ∧
    (State.dispatchNow s x t k).axes = s.axes ∧
    (State.dispatchNow s x t k).steps = s.steps ∧
    (State.dispatchNow s x t k).line = s.line ∧
    (State.dispatchNow s x t k).arb = s.arb ∧
    (State.dispatchNow s x t k).groups = s.groups ∧
    (State.dispatchNow s x t k).eng = s.eng ∧
    (State.dispatchNow s x t k).saf = s.saf ∧
    (State.dispatchNow s x t k).die = s.die ∧
    (State.dispatchNow s x t k).twin = s.twin ∧
    (State.dispatchNow s x t k).scs = s.scs ∧
    (State.dispatchNow s x t k).time = s.time ∧
    (State.dispatchNow s x t k).host = s.host := by
  generalize hT : State.dispatchNow s x t k = res
  unfold State.dispatchNow at hT
  try dsimp only at hT
  repeat' split at hT
  all_goals subst hT
  all_goals (try simp)
  all_goals (repeat' split)
  all_goals (try simp)

@[simp] theorem State.dispatchNow_idents (s : State) (x : MoveItem) (t : Int) (k : Nat) : (State.dispatchNow s x t k).idents = s.idents := State.idents_eq _ _ (by simp)

@[simp] theorem State.dispatchMove_frame (s : State) (x : MoveItem) (t : Int) (k : Nat) :
    (State.dispatchMove s x t k).pending = s.pending ∧
    (State.dispatchMove s x t k).out = s.out ∧
    (State.dispatchMove s x t k).freeCtr = s.freeCtr ∧
    (State.dispatchMove s x t k).coreTicks = s.coreTicks ∧
    (State.dispatchMove s x t k).params = s.params ∧
    (State.dispatchMove s x t k).cyc = s.cyc ∧
    (State.dispatchMove s x t k).boot = s.boot ∧
    (State.dispatchMove s x t k).ports = s.ports ∧
    (State.dispatchMove s x t k).segs = s.segs ∧
    (State.dispatchMove s x t k).opening = s.opening ∧
    (State.dispatchMove s x t k).fbs = s.fbs ∧
    (State.dispatchMove s x t k).axes = s.axes ∧
    (State.dispatchMove s x t k).steps = s.steps ∧
    (State.dispatchMove s x t k).line = s.line ∧
    (State.dispatchMove s x t k).arb = s.arb ∧
    (State.dispatchMove s x t k).groups = s.groups ∧
    (State.dispatchMove s x t k).eng = s.eng ∧
    (State.dispatchMove s x t k).saf = s.saf ∧
    (State.dispatchMove s x t k).die = s.die ∧
    (State.dispatchMove s x t k).twin = s.twin ∧
    (State.dispatchMove s x t k).scs = s.scs ∧
    (State.dispatchMove s x t k).time = s.time ∧
    (State.dispatchMove s x t k).host = s.host := by
  generalize hT : State.dispatchMove s x t k = res
  unfold State.dispatchMove at hT
  try dsimp only at hT
  repeat' split at hT
  all_goals subst hT
  all_goals (try simp)
  all_goals (repeat' split)
  all_goals (try simp)

@[simp] theorem State.dispatchMove_idents (s : State) (x : MoveItem) (t : Int) (k : Nat) : (State.dispatchMove s x t k).idents = s.idents := State.idents_eq _ _ (by simp)

@[simp] theorem State.repredict_frame (s : State) (x : MoveItem) (k : Nat) :
    (State.repredict s x k).pending = s.pending ∧
    (State.repredict s x k).out = s.out ∧
    (State.repredict s x k).freeCtr = s.freeCtr ∧
    (State.repredict s x k).coreTicks = s.coreTicks ∧
    (State.repredict s x k).params = s.params ∧
    (State.repredict s x k).cyc = s.cyc ∧
    (State.repredict s x k).boot = s.boot ∧
    (State.repredict s x k).ports = s.ports ∧
    (State.repredict s x k).opening = s.opening ∧
    (State.repredict s x k).fbs = s.fbs ∧
    (State.repredict s x k).axes = s.axes ∧
    (State.repredict s x k).steps = s.steps ∧
    (State.repredict s x k).line = s.line ∧
    (State.repredict s x k).arb = s.arb ∧
    (State.repredict s x k).groups = s.groups ∧
    (State.repredict s x k).eng = s.eng ∧
    (State.repredict s x k).saf = s.saf ∧
    (State.repredict s x k).die = s.die ∧
    (State.repredict s x k).twin = s.twin ∧
    (State.repredict s x k).scs = s.scs ∧
    (State.repredict s x k).time = s.time ∧
    (State.repredict s x k).host = s.host := by
  generalize hT : State.repredict s x k = res
  unfold State.repredict at hT
  try dsimp only at hT
  repeat' split at hT
  all_goals subst hT
  all_goals (try simp)
  all_goals (repeat' split)
  all_goals (try simp)

@[simp] theorem State.repredict_idents (s : State) (x : MoveItem) (k : Nat) : (State.repredict s x k).idents = s.idents := State.idents_eq _ _ (by simp)

@[simp] theorem State.passItem_frame (s : State) (k : Nat) (x0 : MoveItem) :
    (State.passItem s k x0).pending = s.pending ∧
    (State.passItem s k x0).out = s.out ∧
    (State.passItem s k x0).freeCtr = s.freeCtr ∧
    (State.passItem s k x0).coreTicks = s.coreTicks ∧
    (State.passItem s k x0).params = s.params ∧
    (State.passItem s k x0).cyc = s.cyc ∧
    (State.passItem s k x0).boot = s.boot ∧
    (State.passItem s k x0).ports = s.ports ∧
    (State.passItem s k x0).opening = s.opening ∧
    (State.passItem s k x0).fbs = s.fbs ∧
    (State.passItem s k x0).axes = s.axes ∧
    (State.passItem s k x0).steps = s.steps ∧
    (State.passItem s k x0).line = s.line ∧
    (State.passItem s k x0).arb = s.arb ∧
    (State.passItem s k x0).groups = s.groups ∧
    (State.passItem s k x0).eng = s.eng ∧
    (State.passItem s k x0).saf = s.saf ∧
    (State.passItem s k x0).die = s.die ∧
    (State.passItem s k x0).twin = s.twin ∧
    (State.passItem s k x0).scs = s.scs ∧
    (State.passItem s k x0).time = s.time ∧
    (State.passItem s k x0).host = s.host := by
  generalize hT : State.passItem s k x0 = res
  unfold State.passItem at hT
  try dsimp only at hT
  repeat' split at hT
  all_goals subst hT
  all_goals (try simp)
  all_goals (repeat' split)
  all_goals (try simp)

@[simp] theorem State.passItem_idents (s : State) (k : Nat) (x0 : MoveItem) : (State.passItem s k x0).idents = s.idents := State.idents_eq _ _ (by simp)

@[simp] theorem State.movePass_frame (s : State) (k : Nat) :
    (State.movePass s k).pending = s.pending ∧
    (State.movePass s k).out = s.out ∧
    (State.movePass s k).freeCtr = s.freeCtr ∧
    (State.movePass s k).coreTicks = s.coreTicks ∧
    (State.movePass s k).params = s.params ∧
    (State.movePass s k).boot = s.boot ∧
    (State.movePass s k).ports = s.ports ∧
    (State.movePass s k).opening = s.opening ∧
    (State.movePass s k).fbs = s.fbs ∧
    (State.movePass s k).axes = s.axes ∧
    (State.movePass s k).steps = s.steps ∧
    (State.movePass s k).line = s.line ∧
    (State.movePass s k).arb = s.arb ∧
    (State.movePass s k).groups = s.groups ∧
    (State.movePass s k).eng = s.eng ∧
    (State.movePass s k).saf = s.saf ∧
    (State.movePass s k).die = s.die ∧
    (State.movePass s k).twin = s.twin ∧
    (State.movePass s k).scs = s.scs ∧
    (State.movePass s k).time = s.time ∧
    (State.movePass s k).host = s.host ∧
    (State.movePass s k).cyc.cycle = s.cyc.cycle ∧
    (State.movePass s k).cyc.running = s.cyc.running := by
  generalize hT : State.movePass s k = res
  unfold State.movePass at hT
  try dsimp only at hT
  repeat' split at hT
  all_goals subst hT
  all_goals (try simp)
  all_goals (repeat' split)
  all_goals (try simp)

@[simp] theorem State.movePass_idents (s : State) (k : Nat) : (State.movePass s k).idents = s.idents := State.idents_eq _ _ (by simp)

@[simp] theorem State.startMove_frame (s : State) (x : MoveItem) (t : Int) (late : Bool) :
    (State.startMove s x t late).pending = s.pending ∧
    (State.startMove s x t late).freeCtr = s.freeCtr ∧
    (State.startMove s x t late).coreTicks = s.coreTicks ∧
    (State.startMove s x t late).params = s.params ∧
    (State.startMove s x t late).cyc = s.cyc ∧
    (State.startMove s x t late).boot = s.boot ∧
    (State.startMove s x t late).ports = s.ports ∧
    (State.startMove s x t late).segs = s.segs ∧
    (State.startMove s x t late).opening = s.opening ∧
    (State.startMove s x t late).fbs = s.fbs ∧
    (State.startMove s x t late).steps = s.steps ∧
    (State.startMove s x t late).line = s.line ∧
    (State.startMove s x t late).arb = s.arb ∧
    (State.startMove s x t late).groups = s.groups ∧
    (State.startMove s x t late).eng = s.eng ∧
    (State.startMove s x t late).saf = s.saf ∧
    (State.startMove s x t late).die = s.die ∧
    (State.startMove s x t late).fld = s.fld ∧
    (State.startMove s x t late).twin = s.twin ∧
    (State.startMove s x t late).scs = s.scs ∧
    (State.startMove s x t late).time = s.time ∧
    (State.startMove s x t late).host.keys = s.host.keys ∧
    (State.startMove s x t late).host.parQueue = s.host.parQueue := by
  generalize hT : State.startMove s x t late = res
  unfold State.startMove at hT
  try dsimp only at hT
  repeat' split at hT
  all_goals subst hT
  all_goals (try simp)
  all_goals (repeat' split)
  all_goals (try simp)

@[simp] theorem State.startMove_idents (s : State) (x : MoveItem) (t : Int) (late : Bool) : (State.startMove s x t late).idents = s.idents := by
  generalize hT : State.startMove s x t late = res
  unfold State.startMove at hT
  try dsimp only at hT
  repeat' split at hT
  all_goals subst hT
  all_goals (try simp)
  all_goals (repeat' split)
  all_goals (try simp)
  all_goals (try rfl)
  all_goals (try exact State.idents_eq _ _ (by simp))
  all_goals (try simp [Session.ident])
  all_goals (try simp [Session.ident, State.session])
  all_goals (try simp [State.idents, State.session, Session.ident])

@[simp] theorem State.startDue_frame (k : Nat) (s : State) (x : MoveItem) :
    (State.startDue k s x).pending = s.pending ∧
    (State.startDue k s x).freeCtr = s.freeCtr ∧
    (State.startDue k s x).coreTicks = s.coreTicks ∧
    (State.startDue k s x).params = s.params ∧
    (State.startDue k s x).cyc = s.cyc ∧
    (State.startDue k s x).boot = s.boot ∧
    (State.startDue k s x).ports = s.ports ∧
    (State.startDue k s x).segs = s.segs ∧
    (State.startDue k s x).opening = s.opening ∧
    (State.startDue k s x).fbs = s.fbs ∧
    (State.startDue k s x).steps = s.steps ∧
    (State.startDue k s x).line = s.line ∧
    (State.startDue k s x).arb = s.arb ∧
    (State.startDue k s x).groups = s.groups ∧
    (State.startDue k s x).eng = s.eng ∧
    (State.startDue k s x).saf = s.saf ∧
    (State.startDue k s x).die = s.die ∧
    (State.startDue k s x).fld = s.fld ∧
    (State.startDue k s x).twin = s.twin ∧
    (State.startDue k s x).scs = s.scs ∧
    (State.startDue k s x).time = s.time ∧
    (State.startDue k s x).host.keys = s.host.keys ∧
    (State.startDue k s x).host.parQueue = s.host.parQueue := by
  generalize hT : State.startDue k s x = res
  unfold State.startDue at hT
  try dsimp only at hT
  repeat' split at hT
  all_goals subst hT
  all_goals (try simp)
  all_goals (repeat' split)
  all_goals (try simp)

@[simp] theorem State.startDue_idents (k : Nat) (s : State) (x : MoveItem) : (State.startDue k s x).idents = s.idents := by
  generalize hT : State.startDue k s x = res
  unfold State.startDue at hT
  try dsimp only at hT
  repeat' split at hT
  all_goals subst hT
  all_goals (try simp)
  all_goals (repeat' split)
  all_goals (try simp)
  all_goals (try rfl)
  all_goals (try exact State.idents_eq _ _ (by simp))
  all_goals (try simp [Session.ident])
  all_goals (try simp [Session.ident, State.session])
  all_goals (try simp [State.idents, State.session, Session.ident])

@[simp] theorem State.startMoves_frame (s : State) (k : Nat) :
    (State.startMoves s k).pending = s.pending ∧
    (State.startMoves s k).freeCtr = s.freeCtr ∧
    (State.startMoves s k).coreTicks = s.coreTicks ∧
    (State.startMoves s k).params = s.params ∧
    (State.startMoves s k).cyc = s.cyc ∧
    (State.startMoves s k).boot = s.boot ∧
    (State.startMoves s k).ports = s.ports ∧
    (State.startMoves s k).segs = s.segs ∧
    (State.startMoves s k).opening = s.opening ∧
    (State.startMoves s k).fbs = s.fbs ∧
    (State.startMoves s k).steps = s.steps ∧
    (State.startMoves s k).line = s.line ∧
    (State.startMoves s k).arb = s.arb ∧
    (State.startMoves s k).groups = s.groups ∧
    (State.startMoves s k).eng = s.eng ∧
    (State.startMoves s k).saf = s.saf ∧
    (State.startMoves s k).die = s.die ∧
    (State.startMoves s k).fld = s.fld ∧
    (State.startMoves s k).twin = s.twin ∧
    (State.startMoves s k).scs = s.scs ∧
    (State.startMoves s k).time = s.time ∧
    (State.startMoves s k).host.keys = s.host.keys ∧
    (State.startMoves s k).host.parQueue = s.host.parQueue := by
  generalize hT : State.startMoves s k = res
  unfold State.startMoves at hT
  try dsimp only at hT
  repeat' split at hT
  all_goals subst hT
  all_goals (try simp)
  all_goals (repeat' split)
  all_goals (try simp)

@[simp] theorem State.startMoves_idents (s : State) (k : Nat) : (State.startMoves s k).idents = s.idents := by
  generalize hT : State.startMoves s k = res
  unfold State.startMoves at hT
  try dsimp only at hT
  repeat' split at hT
  all_goals subst hT
  all_goals (try simp)
  all_goals (repeat' split)
  all_goals (try simp)
  all_goals (try rfl)
  all_goals (try exact State.idents_eq _ _ (by simp))
  all_goals (try simp [Session.ident])
  all_goals (try simp [Session.ident, State.session])
  all_goals (try simp [State.idents, State.session, Session.ident])

@[simp] theorem State.settleStarts_frame (s : State) :
    (State.settleStarts s).pending = s.pending ∧
    (State.settleStarts s).out = s.out ∧
    (State.settleStarts s).freeCtr = s.freeCtr ∧
    (State.settleStarts s).coreTicks = s.coreTicks ∧
    (State.settleStarts s).params = s.params ∧
    (State.settleStarts s).cyc = s.cyc ∧
    (State.settleStarts s).boot = s.boot ∧
    (State.settleStarts s).ports = s.ports ∧
    (State.settleStarts s).segs = s.segs ∧
    (State.settleStarts s).opening = s.opening ∧
    (State.settleStarts s).fbs = s.fbs ∧
    (State.settleStarts s).axes = s.axes ∧
    (State.settleStarts s).steps = s.steps ∧
    (State.settleStarts s).line = s.line ∧
    (State.settleStarts s).arb = s.arb ∧
    (State.settleStarts s).groups = s.groups ∧
    (State.settleStarts s).eng = s.eng ∧
    (State.settleStarts s).saf = s.saf ∧
    (State.settleStarts s).die = s.die ∧
    (State.settleStarts s).fld = s.fld ∧
    (State.settleStarts s).twin = s.twin ∧
    (State.settleStarts s).scs = s.scs ∧
    (State.settleStarts s).time = s.time ∧
    (State.settleStarts s).host = s.host := by
  generalize hT : State.settleStarts s = res
  unfold State.settleStarts at hT
  try dsimp only at hT
  repeat' split at hT
  all_goals subst hT
  all_goals (try simp)
  all_goals (repeat' split)
  all_goals (try simp)

@[simp] theorem State.settleStarts_idents (s : State) : (State.settleStarts s).idents = s.idents := State.idents_eq _ _ (by simp)

@[simp] theorem State.takeRecords_frame (s : State) (n node k : Nat) :
    (State.takeRecords s n node k).1.pending = s.pending ∧
    (State.takeRecords s n node k).1.out = s.out ∧
    (State.takeRecords s n node k).1.freeCtr = s.freeCtr ∧
    (State.takeRecords s n node k).1.coreTicks = s.coreTicks ∧
    (State.takeRecords s n node k).1.params = s.params ∧
    (State.takeRecords s n node k).1.cyc = s.cyc ∧
    (State.takeRecords s n node k).1.boot = s.boot ∧
    (State.takeRecords s n node k).1.ports = s.ports ∧
    (State.takeRecords s n node k).1.segs = s.segs ∧
    (State.takeRecords s n node k).1.opening = s.opening ∧
    (State.takeRecords s n node k).1.fbs = s.fbs ∧
    (State.takeRecords s n node k).1.axes = s.axes ∧
    (State.takeRecords s n node k).1.steps = s.steps ∧
    (State.takeRecords s n node k).1.line = s.line ∧
    (State.takeRecords s n node k).1.arb = s.arb ∧
    (State.takeRecords s n node k).1.groups = s.groups ∧
    (State.takeRecords s n node k).1.eng = s.eng ∧
    (State.takeRecords s n node k).1.saf = s.saf ∧
    (State.takeRecords s n node k).1.die = s.die ∧
    (State.takeRecords s n node k).1.fld = s.fld ∧
    (State.takeRecords s n node k).1.twin = s.twin ∧
    (State.takeRecords s n node k).1.scs = s.scs ∧
    (State.takeRecords s n node k).1.time = s.time ∧
    (State.takeRecords s n node k).1.host = s.host := by
  generalize hT : State.takeRecords s n node k = res
  unfold State.takeRecords at hT
  try dsimp only at hT
  repeat' split at hT
  all_goals subst hT
  all_goals (try simp)
  all_goals (repeat' split)
  all_goals (try simp)

@[simp] theorem State.takeRecords_idents (s : State) (n node k : Nat) : (State.takeRecords s n node k).1.idents = s.idents := State.idents_eq _ _ (by simp)

@[simp] theorem State.noteExchange_frame (s : State) (n node k : Nat) :
    (State.noteExchange s n node k).pending = s.pending ∧
    (State.noteExchange s n node k).out = s.out ∧
    (State.noteExchange s n node k).freeCtr = s.freeCtr ∧
    (State.noteExchange s n node k).coreTicks = s.coreTicks ∧
    (State.noteExchange s n node k).params = s.params ∧
    (State.noteExchange s n node k).cyc = s.cyc ∧
    (State.noteExchange s n node k).boot = s.boot ∧
    (State.noteExchange s n node k).ports = s.ports ∧
    (State.noteExchange s n node k).segs = s.segs ∧
    (State.noteExchange s n node k).opening = s.opening ∧
    (State.noteExchange s n node k).fbs = s.fbs ∧
    (State.noteExchange s n node k).axes = s.axes ∧
    (State.noteExchange s n node k).steps = s.steps ∧
    (State.noteExchange s n node k).line = s.line ∧
    (State.noteExchange s n node k).arb = s.arb ∧
    (State.noteExchange s n node k).groups = s.groups ∧
    (State.noteExchange s n node k).eng = s.eng ∧
    (State.noteExchange s n node k).saf = s.saf ∧
    (State.noteExchange s n node k).die = s.die ∧
    (State.noteExchange s n node k).fld = s.fld ∧
    (State.noteExchange s n node k).twin = s.twin ∧
    (State.noteExchange s n node k).scs = s.scs ∧
    (State.noteExchange s n node k).time = s.time ∧
    (State.noteExchange s n node k).host = s.host := by
  generalize hT : State.noteExchange s n node k = res
  unfold State.noteExchange at hT
  try dsimp only at hT
  repeat' split at hT
  all_goals subst hT
  all_goals (try simp)
  all_goals (repeat' split)
  all_goals (try simp)

@[simp] theorem State.noteExchange_idents (s : State) (n node k : Nat) : (State.noteExchange s n node k).idents = s.idents := State.idents_eq _ _ (by simp)

@[simp] theorem State.moveActed_frame (s : State) (n node tag : Nat) :
    (State.moveActed s n node tag).pending = s.pending ∧
    (State.moveActed s n node tag).out = s.out ∧
    (State.moveActed s n node tag).freeCtr = s.freeCtr ∧
    (State.moveActed s n node tag).coreTicks = s.coreTicks ∧
    (State.moveActed s n node tag).params = s.params ∧
    (State.moveActed s n node tag).cyc = s.cyc ∧
    (State.moveActed s n node tag).boot = s.boot ∧
    (State.moveActed s n node tag).ports = s.ports ∧
    (State.moveActed s n node tag).segs = s.segs ∧
    (State.moveActed s n node tag).opening = s.opening ∧
    (State.moveActed s n node tag).fbs = s.fbs ∧
    (State.moveActed s n node tag).axes = s.axes ∧
    (State.moveActed s n node tag).steps = s.steps ∧
    (State.moveActed s n node tag).line = s.line ∧
    (State.moveActed s n node tag).arb = s.arb ∧
    (State.moveActed s n node tag).groups = s.groups ∧
    (State.moveActed s n node tag).eng = s.eng ∧
    (State.moveActed s n node tag).saf = s.saf ∧
    (State.moveActed s n node tag).die = s.die ∧
    (State.moveActed s n node tag).fld = s.fld ∧
    (State.moveActed s n node tag).twin = s.twin ∧
    (State.moveActed s n node tag).scs = s.scs ∧
    (State.moveActed s n node tag).time = s.time ∧
    (State.moveActed s n node tag).host = s.host := by
  generalize hT : State.moveActed s n node tag = res
  unfold State.moveActed at hT
  try dsimp only at hT
  repeat' split at hT
  all_goals subst hT
  all_goals (try simp)
  all_goals (repeat' split)
  all_goals (try simp)

@[simp] theorem State.moveActed_idents (s : State) (n node tag : Nat) : (State.moveActed s n node tag).idents = s.idents := State.idents_eq _ _ (by simp)

@[simp] theorem State.withdrawStart_frame (s : State) (x : MoveItem) :
    (State.withdrawStart s x).pending = s.pending ∧
    (State.withdrawStart s x).out = s.out ∧
    (State.withdrawStart s x).freeCtr = s.freeCtr ∧
    (State.withdrawStart s x).coreTicks = s.coreTicks ∧
    (State.withdrawStart s x).params = s.params ∧
    (State.withdrawStart s x).cyc = s.cyc ∧
    (State.withdrawStart s x).boot = s.boot ∧
    (State.withdrawStart s x).ports = s.ports ∧
    (State.withdrawStart s x).segs = s.segs ∧
    (State.withdrawStart s x).opening = s.opening ∧
    (State.withdrawStart s x).fbs = s.fbs ∧
    (State.withdrawStart s x).steps = s.steps ∧
    (State.withdrawStart s x).line = s.line ∧
    (State.withdrawStart s x).moves = s.moves ∧
    (State.withdrawStart s x).arb = s.arb ∧
    (State.withdrawStart s x).groups = s.groups ∧
    (State.withdrawStart s x).eng = s.eng ∧
    (State.withdrawStart s x).saf = s.saf ∧
    (State.withdrawStart s x).die = s.die ∧
    (State.withdrawStart s x).fld = s.fld ∧
    (State.withdrawStart s x).twin = s.twin ∧
    (State.withdrawStart s x).scs = s.scs ∧
    (State.withdrawStart s x).time = s.time ∧
    (State.withdrawStart s x).host = s.host := by
  generalize hT : State.withdrawStart s x = res
  unfold State.withdrawStart at hT
  try dsimp only at hT
  repeat' split at hT
  all_goals subst hT
  all_goals (try simp)
  all_goals (repeat' split)
  all_goals (try simp)

@[simp] theorem State.withdrawStart_idents (s : State) (x : MoveItem) : (State.withdrawStart s x).idents = s.idents := State.idents_eq _ _ (by simp)

@[simp] theorem State.holdMove_frame (g : Nat) (s : State) (x : MoveItem) :
    (State.holdMove g s x).pending = s.pending ∧
    (State.holdMove g s x).out = s.out ∧
    (State.holdMove g s x).freeCtr = s.freeCtr ∧
    (State.holdMove g s x).coreTicks = s.coreTicks ∧
    (State.holdMove g s x).params = s.params ∧
    (State.holdMove g s x).cyc = s.cyc ∧
    (State.holdMove g s x).boot = s.boot ∧
    (State.holdMove g s x).ports = s.ports ∧
    (State.holdMove g s x).opening = s.opening ∧
    (State.holdMove g s x).fbs = s.fbs ∧
    (State.holdMove g s x).steps = s.steps ∧
    (State.holdMove g s x).line = s.line ∧
    (State.holdMove g s x).arb = s.arb ∧
    (State.holdMove g s x).groups = s.groups ∧
    (State.holdMove g s x).eng = s.eng ∧
    (State.holdMove g s x).saf = s.saf ∧
    (State.holdMove g s x).die = s.die ∧
    (State.holdMove g s x).twin = s.twin ∧
    (State.holdMove g s x).scs = s.scs ∧
    (State.holdMove g s x).time = s.time ∧
    (State.holdMove g s x).host = s.host := by
  generalize hT : State.holdMove g s x = res
  unfold State.holdMove at hT
  try dsimp only at hT
  repeat' split at hT
  all_goals subst hT
  all_goals (try simp)
  all_goals (repeat' split)
  all_goals (try simp)

@[simp] theorem State.holdMove_idents (g : Nat) (s : State) (x : MoveItem) : (State.holdMove g s x).idents = s.idents := State.idents_eq _ _ (by simp)

@[simp] theorem State.holdMoves_frame (s : State) (g : Nat) :
    (State.holdMoves s g).pending = s.pending ∧
    (State.holdMoves s g).out = s.out ∧
    (State.holdMoves s g).freeCtr = s.freeCtr ∧
    (State.holdMoves s g).coreTicks = s.coreTicks ∧
    (State.holdMoves s g).params = s.params ∧
    (State.holdMoves s g).cyc = s.cyc ∧
    (State.holdMoves s g).boot = s.boot ∧
    (State.holdMoves s g).ports = s.ports ∧
    (State.holdMoves s g).opening = s.opening ∧
    (State.holdMoves s g).fbs = s.fbs ∧
    (State.holdMoves s g).steps = s.steps ∧
    (State.holdMoves s g).line = s.line ∧
    (State.holdMoves s g).arb = s.arb ∧
    (State.holdMoves s g).groups = s.groups ∧
    (State.holdMoves s g).eng = s.eng ∧
    (State.holdMoves s g).saf = s.saf ∧
    (State.holdMoves s g).die = s.die ∧
    (State.holdMoves s g).twin = s.twin ∧
    (State.holdMoves s g).scs = s.scs ∧
    (State.holdMoves s g).time = s.time ∧
    (State.holdMoves s g).host = s.host := by
  generalize hT : State.holdMoves s g = res
  unfold State.holdMoves at hT
  try dsimp only at hT
  repeat' split at hT
  all_goals subst hT
  all_goals (try simp)
  all_goals (repeat' split)
  all_goals (try simp)

@[simp] theorem State.holdMoves_idents (s : State) (g : Nat) : (State.holdMoves s g).idents = s.idents := State.idents_eq _ _ (by simp)

@[simp] theorem State.holdNewStops_frame (s : State) (mask : Nat) :
    (State.holdNewStops s mask).pending = s.pending ∧
    (State.holdNewStops s mask).out = s.out ∧
    (State.holdNewStops s mask).freeCtr = s.freeCtr ∧
    (State.holdNewStops s mask).coreTicks = s.coreTicks ∧
    (State.holdNewStops s mask).params = s.params ∧
    (State.holdNewStops s mask).cyc = s.cyc ∧
    (State.holdNewStops s mask).boot = s.boot ∧
    (State.holdNewStops s mask).ports = s.ports ∧
    (State.holdNewStops s mask).opening = s.opening ∧
    (State.holdNewStops s mask).fbs = s.fbs ∧
    (State.holdNewStops s mask).steps = s.steps ∧
    (State.holdNewStops s mask).line = s.line ∧
    (State.holdNewStops s mask).arb = s.arb ∧
    (State.holdNewStops s mask).groups = s.groups ∧
    (State.holdNewStops s mask).eng = s.eng ∧
    (State.holdNewStops s mask).saf = s.saf ∧
    (State.holdNewStops s mask).die = s.die ∧
    (State.holdNewStops s mask).twin = s.twin ∧
    (State.holdNewStops s mask).scs = s.scs ∧
    (State.holdNewStops s mask).time = s.time ∧
    (State.holdNewStops s mask).host = s.host := by
  generalize hT : State.holdNewStops s mask = res
  unfold State.holdNewStops at hT
  try dsimp only at hT
  repeat' split at hT
  all_goals subst hT
  all_goals (try simp)
  all_goals (repeat' split)
  all_goals (try simp)

@[simp] theorem State.holdNewStops_idents (s : State) (mask : Nat) : (State.holdNewStops s mask).idents = s.idents := State.idents_eq _ _ (by simp)

@[simp] theorem State.returnMoves_frame (s : State) (mask : Nat) :
    (State.returnMoves s mask).pending = s.pending ∧
    (State.returnMoves s mask).freeCtr = s.freeCtr ∧
    (State.returnMoves s mask).coreTicks = s.coreTicks ∧
    (State.returnMoves s mask).params = s.params ∧
    (State.returnMoves s mask).cyc = s.cyc ∧
    (State.returnMoves s mask).boot = s.boot ∧
    (State.returnMoves s mask).ports = s.ports ∧
    (State.returnMoves s mask).segs = s.segs ∧
    (State.returnMoves s mask).opening = s.opening ∧
    (State.returnMoves s mask).fbs = s.fbs ∧
    (State.returnMoves s mask).axes = s.axes ∧
    (State.returnMoves s mask).steps = s.steps ∧
    (State.returnMoves s mask).line = s.line ∧
    (State.returnMoves s mask).arb = s.arb ∧
    (State.returnMoves s mask).groups = s.groups ∧
    (State.returnMoves s mask).eng = s.eng ∧
    (State.returnMoves s mask).saf = s.saf ∧
    (State.returnMoves s mask).die = s.die ∧
    (State.returnMoves s mask).fld = s.fld ∧
    (State.returnMoves s mask).twin = s.twin ∧
    (State.returnMoves s mask).scs = s.scs ∧
    (State.returnMoves s mask).time = s.time ∧
    (State.returnMoves s mask).host.keys = s.host.keys ∧
    (State.returnMoves s mask).host.parQueue = s.host.parQueue := by
  generalize hT : State.returnMoves s mask = res
  unfold State.returnMoves at hT
  try dsimp only at hT
  repeat' split at hT
  all_goals subst hT
  all_goals (try simp)
  all_goals (repeat' split)
  all_goals (try simp)

@[simp] theorem State.returnMoves_idents (s : State) (mask : Nat) : (State.returnMoves s mask).idents = s.idents := by
  generalize hT : State.returnMoves s mask = res
  unfold State.returnMoves at hT
  try dsimp only at hT
  repeat' split at hT
  all_goals subst hT
  all_goals (try simp)
  all_goals (repeat' split)
  all_goals (try simp)
  all_goals (try rfl)
  all_goals (try exact State.idents_eq _ _ (by simp))
  all_goals (try simp [Session.ident])
  all_goals (try simp [Session.ident, State.session])
  all_goals (try simp [State.idents, State.session, Session.ident])

@[simp] theorem State.holdBlind_frame (s : State) (x : MoveItem) :
    (State.holdBlind s x).pending = s.pending ∧
    (State.holdBlind s x).out = s.out ∧
    (State.holdBlind s x).freeCtr = s.freeCtr ∧
    (State.holdBlind s x).coreTicks = s.coreTicks ∧
    (State.holdBlind s x).params = s.params ∧
    (State.holdBlind s x).cyc = s.cyc ∧
    (State.holdBlind s x).boot = s.boot ∧
    (State.holdBlind s x).ports = s.ports ∧
    (State.holdBlind s x).opening = s.opening ∧
    (State.holdBlind s x).fbs = s.fbs ∧
    (State.holdBlind s x).axes = s.axes ∧
    (State.holdBlind s x).steps = s.steps ∧
    (State.holdBlind s x).line = s.line ∧
    (State.holdBlind s x).arb = s.arb ∧
    (State.holdBlind s x).groups = s.groups ∧
    (State.holdBlind s x).eng = s.eng ∧
    (State.holdBlind s x).saf = s.saf ∧
    (State.holdBlind s x).die = s.die ∧
    (State.holdBlind s x).twin = s.twin ∧
    (State.holdBlind s x).scs = s.scs ∧
    (State.holdBlind s x).time = s.time ∧
    (State.holdBlind s x).host = s.host := by
  generalize hT : State.holdBlind s x = res
  unfold State.holdBlind at hT
  try dsimp only at hT
  repeat' split at hT
  all_goals subst hT
  all_goals (try simp)
  all_goals (repeat' split)
  all_goals (try simp)

@[simp] theorem State.holdBlind_idents (s : State) (x : MoveItem) : (State.holdBlind s x).idents = s.idents := State.idents_eq _ _ (by simp)

@[simp] theorem State.holdForLine_frame (s : State) :
    (State.holdForLine s).pending = s.pending ∧
    (State.holdForLine s).out = s.out ∧
    (State.holdForLine s).freeCtr = s.freeCtr ∧
    (State.holdForLine s).coreTicks = s.coreTicks ∧
    (State.holdForLine s).params = s.params ∧
    (State.holdForLine s).cyc = s.cyc ∧
    (State.holdForLine s).boot = s.boot ∧
    (State.holdForLine s).ports = s.ports ∧
    (State.holdForLine s).opening = s.opening ∧
    (State.holdForLine s).fbs = s.fbs ∧
    (State.holdForLine s).axes = s.axes ∧
    (State.holdForLine s).steps = s.steps ∧
    (State.holdForLine s).line = s.line ∧
    (State.holdForLine s).arb = s.arb ∧
    (State.holdForLine s).groups = s.groups ∧
    (State.holdForLine s).eng = s.eng ∧
    (State.holdForLine s).saf = s.saf ∧
    (State.holdForLine s).die = s.die ∧
    (State.holdForLine s).twin = s.twin ∧
    (State.holdForLine s).scs = s.scs ∧
    (State.holdForLine s).time = s.time ∧
    (State.holdForLine s).host = s.host := by
  generalize hT : State.holdForLine s = res
  unfold State.holdForLine at hT
  try dsimp only at hT
  repeat' split at hT
  all_goals subst hT
  all_goals (try simp)
  all_goals (repeat' split)
  all_goals (try simp)

@[simp] theorem State.holdForLine_idents (s : State) : (State.holdForLine s).idents = s.idents := State.idents_eq _ _ (by simp)

end Sys2Proof.Machine
end

