-- ==== Sys2Proof/Laws/FrameSafetyCmd.lean ====
section
/-! SUPPORT. What the operations of Machine/SafetyCmd.lean leave unchanged: one rule per operation. -/

namespace Sys2Proof.Machine

@[simp] theorem State.sealSaf_frame (s : State) :
    (State.sealSaf s).pending = s.pending ∧
    (State.sealSaf s).out = s.out ∧
    (State.sealSaf s).freeCtr = s.freeCtr ∧
    (State.sealSaf s).coreTicks = s.coreTicks ∧
    (State.sealSaf s).params = s.params ∧
    (State.sealSaf s).cyc = s.cyc ∧
    (State.sealSaf s).boot = s.boot ∧
    (State.sealSaf s).ports = s.ports ∧
    (State.sealSaf s).segs = s.segs ∧
    (State.sealSaf s).opening = s.opening ∧
    (State.sealSaf s).fbs = s.fbs ∧
    (State.sealSaf s).axes = s.axes ∧
    (State.sealSaf s).steps = s.steps ∧
    (State.sealSaf s).line = s.line ∧
    (State.sealSaf s).moves = s.moves ∧
    (State.sealSaf s).arb = s.arb ∧
    (State.sealSaf s).groups = s.groups ∧
    (State.sealSaf s).eng = s.eng ∧
    (State.sealSaf s).die = s.die ∧
    (State.sealSaf s).fld = s.fld ∧
    (State.sealSaf s).twin = s.twin ∧
    (State.sealSaf s).scs = s.scs ∧
    (State.sealSaf s).time = s.time ∧
    (State.sealSaf s).host = s.host ∧
    (State.sealSaf s).saf.endgame = s.saf.endgame ∧
    (State.sealSaf s).saf.silent = s.saf.silent := by
  generalize hT : State.sealSaf s = res
  unfold State.sealSaf at hT
  try dsimp only at hT
  repeat' split at hT
  all_goals subst hT
  all_goals (try simp)
  all_goals (repeat' split)
  all_goals (try simp)

@[simp] theorem State.sealSaf_idents (s : State) : (State.sealSaf s).idents = s.idents := State.idents_eq _ _ (by simp)

@[simp] theorem State.startMonitors_frame (s : State) (ch : Chan) (mask : Nat) :
    (State.startMonitors s ch mask).pending = s.pending ∧
    (State.startMonitors s ch mask).out = s.out ∧
    (State.startMonitors s ch mask).freeCtr = s.freeCtr ∧
    (State.startMonitors s ch mask).coreTicks = s.coreTicks ∧
    (State.startMonitors s ch mask).params = s.params ∧
    (State.startMonitors s ch mask).cyc = s.cyc ∧
    (State.startMonitors s ch mask).boot = s.boot ∧
    (State.startMonitors s ch mask).ports = s.ports ∧
    (State.startMonitors s ch mask).segs = s.segs ∧
    (State.startMonitors s ch mask).opening = s.opening ∧
    (State.startMonitors s ch mask).fbs = s.fbs ∧
    (State.startMonitors s ch mask).steps = s.steps ∧
    (State.startMonitors s ch mask).line = s.line ∧
    (State.startMonitors s ch mask).moves = s.moves ∧
    (State.startMonitors s ch mask).arb = s.arb ∧
    (State.startMonitors s ch mask).groups = s.groups ∧
    (State.startMonitors s ch mask).eng = s.eng ∧
    (State.startMonitors s ch mask).die = s.die ∧
    (State.startMonitors s ch mask).fld = s.fld ∧
    (State.startMonitors s ch mask).twin = s.twin ∧
    (State.startMonitors s ch mask).scs = s.scs ∧
    (State.startMonitors s ch mask).time = s.time ∧
    (State.startMonitors s ch mask).host = s.host ∧
    (State.startMonitors s ch mask).saf.endgame = s.saf.endgame ∧
    (State.startMonitors s ch mask).saf.silent = s.saf.silent := by
  generalize hT : State.startMonitors s ch mask = res
  unfold State.startMonitors at hT
  try dsimp only at hT
  repeat' split at hT
  all_goals subst hT
  all_goals (try simp)
  all_goals (repeat' split)
  all_goals (try simp)

@[simp] theorem State.startMonitors_idents (s : State) (ch : Chan) (mask : Nat) : (State.startMonitors s ch mask).idents = s.idents := State.idents_eq _ _ (by simp)

@[simp] theorem State.injectSaf_frame (s : State) :
    (State.injectSaf s).pending = s.pending ∧
    (State.injectSaf s).params = s.params ∧
    (State.injectSaf s).boot = s.boot ∧
    (State.injectSaf s).ports = s.ports ∧
    (State.injectSaf s).segs = s.segs ∧
    (State.injectSaf s).opening = s.opening ∧
    (State.injectSaf s).fbs = s.fbs ∧
    (State.injectSaf s).steps = s.steps ∧
    (State.injectSaf s).moves = s.moves ∧
    (State.injectSaf s).arb = s.arb ∧
    (State.injectSaf s).groups = s.groups ∧
    (State.injectSaf s).die = s.die ∧
    (State.injectSaf s).fld = s.fld ∧
    (State.injectSaf s).twin = s.twin ∧
    (State.injectSaf s).scs = s.scs ∧
    (State.injectSaf s).saf.endgame = s.saf.endgame ∧
    (State.injectSaf s).saf.silent = s.saf.silent ∧
    (State.injectSaf s).host.keys = s.host.keys ∧
    (State.injectSaf s).host.parQueue = s.host.parQueue ∧
    (State.injectSaf s).cyc.cycle = s.cyc.cycle ∧
    (State.injectSaf s).cyc.running = s.cyc.running := by
  generalize hT : State.injectSaf s = res
  unfold State.injectSaf at hT
  try dsimp only at hT
  repeat' split at hT
  all_goals subst hT
  all_goals (try simp)
  all_goals (repeat' split)
  all_goals (try simp)

@[simp] theorem State.injectSaf_idents (s : State) : (State.injectSaf s).idents = s.idents := by
  generalize hT : State.injectSaf s = res
  unfold State.injectSaf at hT
  try dsimp only at hT
  repeat' split at hT
  all_goals subst hT
  all_goals (try simp)
  all_goals (repeat' split)
  all_goals (try simp)
  all_goals (try rfl)
  all_goals (try exact State.idents_eq _ _ (by simp))
  all_goals (try simp [Session.ident])
  all_goals (try simp [Session.ident, State.session])
  all_goals (try simp [State.idents, State.session, Session.ident])

@[simp] theorem State.flagGroup_frame (s : State) (a : Nat) (f : GrpFlags → GrpFlags) :
    (State.flagGroup s a f).pending = s.pending ∧
    (State.flagGroup s a f).out = s.out ∧
    (State.flagGroup s a f).freeCtr = s.freeCtr ∧
    (State.flagGroup s a f).coreTicks = s.coreTicks ∧
    (State.flagGroup s a f).params = s.params ∧
    (State.flagGroup s a f).cyc = s.cyc ∧
    (State.flagGroup s a f).boot = s.boot ∧
    (State.flagGroup s a f).ports = s.ports ∧
    (State.flagGroup s a f).segs = s.segs ∧
    (State.flagGroup s a f).opening = s.opening ∧
    (State.flagGroup s a f).fbs = s.fbs ∧
    (State.flagGroup s a f).axes = s.axes ∧
    (State.flagGroup s a f).steps = s.steps ∧
    (State.flagGroup s a f).line = s.line ∧
    (State.flagGroup s a f).moves = s.moves ∧
    (State.flagGroup s a f).arb = s.arb ∧
    (State.flagGroup s a f).groups = s.groups ∧
    (State.flagGroup s a f).eng = s.eng ∧
    (State.flagGroup s a f).die = s.die ∧
    (State.flagGroup s a f).fld = s.fld ∧
    (State.flagGroup s a f).twin = s.twin ∧
    (State.flagGroup s a f).scs = s.scs ∧
    (State.flagGroup s a f).time = s.time ∧
    (State.flagGroup s a f).host = s.host ∧
    (State.flagGroup s a f).saf.endgame = s.saf.endgame ∧
    (State.flagGroup s a f).saf.silent = s.saf.silent := by
  generalize hT : State.flagGroup s a f = res
  unfold State.flagGroup at hT
  try dsimp only at hT
  repeat' split at hT
  all_goals subst hT
  all_goals (try simp)
  all_goals (repeat' split)
  all_goals (try simp)

@[simp] theorem State.flagGroup_idents (s : State) (a : Nat) (f : GrpFlags → GrpFlags) : (State.flagGroup s a f).idents = s.idents := State.idents_eq _ _ (by simp)

@[simp] theorem State.estimate_frame (s : State) (ch : Chan) (a : Nat) (v : Int) :
    (State.estimate s ch a v).pending = s.pending ∧
    (State.estimate s ch a v).freeCtr = s.freeCtr ∧
    (State.estimate s ch a v).coreTicks = s.coreTicks ∧
    (State.estimate s ch a v).params = s.params ∧
    (State.estimate s ch a v).cyc = s.cyc ∧
    (State.estimate s ch a v).boot = s.boot ∧
    (State.estimate s ch a v).ports = s.ports ∧
    (State.estimate s ch a v).segs = s.segs ∧
    (State.estimate s ch a v).opening = s.opening ∧
    (State.estimate s ch a v).fbs = s.fbs ∧
    (State.estimate s ch a v).axes = s.axes ∧
    (State.estimate s ch a v).steps = s.steps ∧
    (State.estimate s ch a v).line = s.line ∧
    (State.estimate s ch a v).moves = s.moves ∧
    (State.estimate s ch a v).arb = s.arb ∧
    (State.estimate s ch a v).groups = s.groups ∧
    (State.estimate s ch a v).eng = s.eng ∧
    (State.estimate s ch a v).die = s.die ∧
    (State.estimate s ch a v).fld = s.fld ∧
    (State.estimate s ch a v).twin = s.twin ∧
    (State.estimate s ch a v).scs = s.scs ∧
    (State.estimate s ch a v).time = s.time ∧
    (State.estimate s ch a v).saf.endgame = s.saf.endgame ∧
    (State.estimate s ch a v).saf.silent = s.saf.silent ∧
    (State.estimate s ch a v).host.keys = s.host.keys ∧
    (State.estimate s ch a v).host.parQueue = s.host.parQueue := by
  generalize hT : State.estimate s ch a v = res
  unfold State.estimate at hT
  try dsimp only at hT
  repeat' split at hT
  all_goals subst hT
  all_goals (try simp)
  all_goals (repeat' split)
  all_goals (try simp)

@[simp] theorem State.estimate_idents (s : State) (ch : Chan) (a : Nat) (v : Int) : (State.estimate s ch a v).idents = s.idents := by
  generalize hT : State.estimate s ch a v = res
  unfold State.estimate at hT
  try dsimp only at hT
  repeat' split at hT
  all_goals subst hT
  all_goals (try simp)
  all_goals (repeat' split)
  all_goals (try simp)
  all_goals (try rfl)
  all_goals (try exact State.idents_eq _ _ (by simp))
  all_goals (try simp [Session.ident])
  all_goals (try simp [Session.ident, State.session])
  all_goals (try simp [State.idents, State.session, Session.ident])

@[simp] theorem State.safRaw_frame (s : State) (a n : Nat) (raw : Int) :
    (State.safRaw s a n raw).pending = s.pending ∧
    (State.safRaw s a n raw).out = s.out ∧
    (State.safRaw s a n raw).freeCtr = s.freeCtr ∧
    (State.safRaw s a n raw).coreTicks = s.coreTicks ∧
    (State.safRaw s a n raw).params = s.params ∧
    (State.safRaw s a n raw).cyc = s.cyc ∧
    (State.safRaw s a n raw).boot = s.boot ∧
    (State.safRaw s a n raw).ports = s.ports ∧
    (State.safRaw s a n raw).segs = s.segs ∧
    (State.safRaw s a n raw).opening = s.opening ∧
    (State.safRaw s a n raw).fbs = s.fbs ∧
    (State.safRaw s a n raw).axes = s.axes ∧
    (State.safRaw s a n raw).steps = s.steps ∧
    (State.safRaw s a n raw).line = s.line ∧
    (State.safRaw s a n raw).moves = s.moves ∧
    (State.safRaw s a n raw).arb = s.arb ∧
    (State.safRaw s a n raw).groups = s.groups ∧
    (State.safRaw s a n raw).eng = s.eng ∧
    (State.safRaw s a n raw).die = s.die ∧
    (State.safRaw s a n raw).fld = s.fld ∧
    (State.safRaw s a n raw).twin = s.twin ∧
    (State.safRaw s a n raw).scs = s.scs ∧
    (State.safRaw s a n raw).time = s.time ∧
    (State.safRaw s a n raw).host = s.host ∧
    (State.safRaw s a n raw).saf.endgame = s.saf.endgame ∧
    (State.safRaw s a n raw).saf.silent = s.saf.silent := by
  generalize hT : State.safRaw s a n raw = res
  unfold State.safRaw at hT
  try dsimp only at hT
  repeat' split at hT
  all_goals subst hT
  all_goals (try simp)
  all_goals (repeat' split)
  all_goals (try simp)

@[simp] theorem State.safRaw_idents (s : State) (a n : Nat) (raw : Int) : (State.safRaw s a n raw).idents = s.idents := State.idents_eq _ _ (by simp)

@[simp] theorem State.trackDiscrepancy_frame (s : State) (a : Nat) :
    (State.trackDiscrepancy s a).pending = s.pending ∧
    (State.trackDiscrepancy s a).out = s.out ∧
    (State.trackDiscrepancy s a).freeCtr = s.freeCtr ∧
    (State.trackDiscrepancy s a).coreTicks = s.coreTicks ∧
    (State.trackDiscrepancy s a).params = s.params ∧
    (State.trackDiscrepancy s a).cyc = s.cyc ∧
    (State.trackDiscrepancy s a).boot = s.boot ∧
    (State.trackDiscrepancy s a).ports = s.ports ∧
    (State.trackDiscrepancy s a).segs = s.segs ∧
    (State.trackDiscrepancy s a).opening = s.opening ∧
    (State.trackDiscrepancy s a).fbs = s.fbs ∧
    (State.trackDiscrepancy s a).axes = s.axes ∧
    (State.trackDiscrepancy s a).steps = s.steps ∧
    (State.trackDiscrepancy s a).line = s.line ∧
    (State.trackDiscrepancy s a).moves = s.moves ∧
    (State.trackDiscrepancy s a).arb = s.arb ∧
    (State.trackDiscrepancy s a).groups = s.groups ∧
    (State.trackDiscrepancy s a).eng = s.eng ∧
    (State.trackDiscrepancy s a).die = s.die ∧
    (State.trackDiscrepancy s a).fld = s.fld ∧
    (State.trackDiscrepancy s a).twin = s.twin ∧
    (State.trackDiscrepancy s a).scs = s.scs ∧
    (State.trackDiscrepancy s a).time = s.time ∧
    (State.trackDiscrepancy s a).host = s.host ∧
    (State.trackDiscrepancy s a).saf.endgame = s.saf.endgame ∧
    (State.trackDiscrepancy s a).saf.silent = s.saf.silent := by
  generalize hT : State.trackDiscrepancy s a = res
  unfold State.trackDiscrepancy at hT
  try dsimp only at hT
  repeat' split at hT
  all_goals subst hT
  all_goals (try simp)
  all_goals (repeat' split)
  all_goals (try simp)

@[simp] theorem State.trackDiscrepancy_idents (s : State) (a : Nat) : (State.trackDiscrepancy s a).idents = s.idents := State.idents_eq _ _ (by simp)

@[simp] theorem State.estimateP_frame (s : State) (a n : Nat) :
    (State.estimateP s a n).pending = s.pending ∧
    (State.estimateP s a n).freeCtr = s.freeCtr ∧
    (State.estimateP s a n).coreTicks = s.coreTicks ∧
    (State.estimateP s a n).params = s.params ∧
    (State.estimateP s a n).cyc = s.cyc ∧
    (State.estimateP s a n).boot = s.boot ∧
    (State.estimateP s a n).ports = s.ports ∧
    (State.estimateP s a n).segs = s.segs ∧
    (State.estimateP s a n).opening = s.opening ∧
    (State.estimateP s a n).fbs = s.fbs ∧
    (State.estimateP s a n).axes = s.axes ∧
    (State.estimateP s a n).steps = s.steps ∧
    (State.estimateP s a n).line = s.line ∧
    (State.estimateP s a n).moves = s.moves ∧
    (State.estimateP s a n).arb = s.arb ∧
    (State.estimateP s a n).groups = s.groups ∧
    (State.estimateP s a n).eng = s.eng ∧
    (State.estimateP s a n).die = s.die ∧
    (State.estimateP s a n).fld = s.fld ∧
    (State.estimateP s a n).twin = s.twin ∧
    (State.estimateP s a n).scs = s.scs ∧
    (State.estimateP s a n).time = s.time ∧
    (State.estimateP s a n).saf.endgame = s.saf.endgame ∧
    (State.estimateP s a n).saf.silent = s.saf.silent ∧
    (State.estimateP s a n).host.keys = s.host.keys ∧
    (State.estimateP s a n).host.parQueue = s.host.parQueue := by
  generalize hT : State.estimateP s a n = res
  unfold State.estimateP at hT
  try dsimp only at hT
  repeat' split at hT
  all_goals subst hT
  all_goals (try simp)
  all_goals (repeat' split)
  all_goals (try simp)

@[simp] theorem State.estimateP_idents (s : State) (a n : Nat) : (State.estimateP s a n).idents = s.idents := by
  generalize hT : State.estimateP s a n = res
  unfold State.estimateP at hT
  try dsimp only at hT
  repeat' split at hT
  all_goals subst hT
  all_goals (try simp)
  all_goals (repeat' split)
  all_goals (try simp)
  all_goals (try rfl)
  all_goals (try exact State.idents_eq _ _ (by simp))
  all_goals (try simp [Session.ident])
  all_goals (try simp [Session.ident, State.session])
  all_goals (try simp [State.idents, State.session, Session.ident])

@[simp] theorem State.upInvalid_frame (s : State) (ch : Chan) (a : Nat) :
    (State.upInvalid s ch a).pending = s.pending ∧
    (State.upInvalid s ch a).out = s.out ∧
    (State.upInvalid s ch a).freeCtr = s.freeCtr ∧
    (State.upInvalid s ch a).coreTicks = s.coreTicks ∧
    (State.upInvalid s ch a).params = s.params ∧
    (State.upInvalid s ch a).cyc = s.cyc ∧
    (State.upInvalid s ch a).boot = s.boot ∧
    (State.upInvalid s ch a).ports = s.ports ∧
    (State.upInvalid s ch a).segs = s.segs ∧
    (State.upInvalid s ch a).opening = s.opening ∧
    (State.upInvalid s ch a).fbs = s.fbs ∧
    (State.upInvalid s ch a).axes = s.axes ∧
    (State.upInvalid s ch a).steps = s.steps ∧
    (State.upInvalid s ch a).line = s.line ∧
    (State.upInvalid s ch a).moves = s.moves ∧
    (State.upInvalid s ch a).arb = s.arb ∧
    (State.upInvalid s ch a).groups = s.groups ∧
    (State.upInvalid s ch a).eng = s.eng ∧
    (State.upInvalid s ch a).die = s.die ∧
    (State.upInvalid s ch a).fld = s.fld ∧
    (State.upInvalid s ch a).twin = s.twin ∧
    (State.upInvalid s ch a).scs = s.scs ∧
    (State.upInvalid s ch a).time = s.time ∧
    (State.upInvalid s ch a).host = s.host ∧
    (State.upInvalid s ch a).saf.endgame = s.saf.endgame ∧
    (State.upInvalid s ch a).saf.silent = s.saf.silent := by
  generalize hT : State.upInvalid s ch a = res
  unfold State.upInvalid at hT
  try dsimp only at hT
  repeat' split at hT
  all_goals subst hT
  all_goals (try simp)
  all_goals (repeat' split)
  all_goals (try simp)

@[simp] theorem State.upInvalid_idents (s : State) (ch : Chan) (a : Nat) : (State.upInvalid s ch a).idents = s.idents := State.idents_eq _ _ (by simp)

@[simp] theorem State.wdTripped_frame (s : State) (ch : Chan) (n node : Nat) (on : Bool) :
    (State.wdTripped s ch n node on).pending = s.pending ∧
    (State.wdTripped s ch n node on).freeCtr = s.freeCtr ∧
    (State.wdTripped s ch n node on).coreTicks = s.coreTicks ∧
    (State.wdTripped s ch n node on).params = s.params ∧
    (State.wdTripped s ch n node on).cyc = s.cyc ∧
    (State.wdTripped s ch n node on).boot = s.boot ∧
    (State.wdTripped s ch n node on).ports = s.ports ∧
    (State.wdTripped s ch n node on).segs = s.segs ∧
    (State.wdTripped s ch n node on).opening = s.opening ∧
    (State.wdTripped s ch n node on).fbs = s.fbs ∧
    (State.wdTripped s ch n node on).axes = s.axes ∧
    (State.wdTripped s ch n node on).steps = s.steps ∧
    (State.wdTripped s ch n node on).line = s.line ∧
    (State.wdTripped s ch n node on).moves = s.moves ∧
    (State.wdTripped s ch n node on).arb = s.arb ∧
    (State.wdTripped s ch n node on).groups = s.groups ∧
    (State.wdTripped s ch n node on).eng = s.eng ∧
    (State.wdTripped s ch n node on).die = s.die ∧
    (State.wdTripped s ch n node on).fld = s.fld ∧
    (State.wdTripped s ch n node on).twin = s.twin ∧
    (State.wdTripped s ch n node on).scs = s.scs ∧
    (State.wdTripped s ch n node on).time = s.time ∧
    (State.wdTripped s ch n node on).saf.endgame = s.saf.endgame ∧
    (State.wdTripped s ch n node on).saf.silent = s.saf.silent ∧
    (State.wdTripped s ch n node on).host.keys = s.host.keys ∧
    (State.wdTripped s ch n node on).host.parQueue = s.host.parQueue := by
  generalize hT : State.wdTripped s ch n node on = res
  unfold State.wdTripped at hT
  try dsimp only at hT
  repeat' split at hT
  all_goals subst hT
  all_goals (try simp)
  all_goals (repeat' split)
  all_goals (try simp)

@[simp] theorem State.wdTripped_idents (s : State) (ch : Chan) (n node : Nat) (on : Bool) : (State.wdTripped s ch n node on).idents = s.idents := by
  generalize hT : State.wdTripped s ch n node on = res
  unfold State.wdTripped at hT
  try dsimp only at hT
  repeat' split at hT
  all_goals subst hT
  all_goals (try simp)
  all_goals (repeat' split)
  all_goals (try simp)
  all_goals (try rfl)
  all_goals (try exact State.idents_eq _ _ (by simp))
  all_goals (try simp [Session.ident])
  all_goals (try simp [Session.ident, State.session])
  all_goals (try simp [State.idents, State.session, Session.ident])

@[simp] theorem State.upValid_frame (s : State) (ch : Chan) (n : Nat) (r : SlotRec) (k : Int) (pl : List Byte) :
    (State.upValid s ch n r k pl).pending = s.pending ∧
    (State.upValid s ch n r k pl).freeCtr = s.freeCtr ∧
    (State.upValid s ch n r k pl).coreTicks = s.coreTicks ∧
    (State.upValid s ch n r k pl).params = s.params ∧
    (State.upValid s ch n r k pl).cyc = s.cyc ∧
    (State.upValid s ch n r k pl).boot = s.boot ∧
    (State.upValid s ch n r k pl).ports = s.ports ∧
    (State.upValid s ch n r k pl).segs = s.segs ∧
    (State.upValid s ch n r k pl).opening = s.opening ∧
    (State.upValid s ch n r k pl).fbs = s.fbs ∧
    (State.upValid s ch n r k pl).axes = s.axes ∧
    (State.upValid s ch n r k pl).steps = s.steps ∧
    (State.upValid s ch n r k pl).line = s.line ∧
    (State.upValid s ch n r k pl).moves = s.moves ∧
    (State.upValid s ch n r k pl).arb = s.arb ∧
    (State.upValid s ch n r k pl).groups = s.groups ∧
    (State.upValid s ch n r k pl).eng = s.eng ∧
    (State.upValid s ch n r k pl).die = s.die ∧
    (State.upValid s ch n r k pl).fld = s.fld ∧
    (State.upValid s ch n r k pl).twin = s.twin ∧
    (State.upValid s ch n r k pl).scs = s.scs ∧
    (State.upValid s ch n r k pl).time = s.time ∧
    (State.upValid s ch n r k pl).saf.endgame = s.saf.endgame ∧
    (State.upValid s ch n r k pl).saf.silent = s.saf.silent ∧
    (State.upValid s ch n r k pl).host.keys = s.host.keys ∧
    (State.upValid s ch n r k pl).host.parQueue = s.host.parQueue := by
  generalize hT : State.upValid s ch n r k pl = res
  unfold State.upValid at hT
  try dsimp only at hT
  repeat' split at hT
  all_goals subst hT
  all_goals (try simp)
  all_goals (repeat' split)
  all_goals (try simp)

@[simp] theorem State.upValid_idents (s : State) (ch : Chan) (n : Nat) (r : SlotRec) (k : Int) (pl : List Byte) : (State.upValid s ch n r k pl).idents = s.idents := by
  generalize hT : State.upValid s ch n r k pl = res
  unfold State.upValid at hT
  try dsimp only at hT
  repeat' split at hT
  all_goals subst hT
  all_goals (try simp)
  all_goals (repeat' split)
  all_goals (try simp)
  all_goals (try rfl)
  all_goals (try exact State.idents_eq _ _ (by simp))
  all_goals (try simp [Session.ident])
  all_goals (try simp [Session.ident, State.session])
  all_goals (try simp [State.idents, State.session, Session.ident])

@[simp] theorem State.upFault_frame (s : State) (ch : Chan) (a : Nat) :
    (State.upFault s ch a).pending = s.pending ∧
    (State.upFault s ch a).freeCtr = s.freeCtr ∧
    (State.upFault s ch a).coreTicks = s.coreTicks ∧
    (State.upFault s ch a).params = s.params ∧
    (State.upFault s ch a).cyc = s.cyc ∧
    (State.upFault s ch a).boot = s.boot ∧
    (State.upFault s ch a).ports = s.ports ∧
    (State.upFault s ch a).segs = s.segs ∧
    (State.upFault s ch a).opening = s.opening ∧
    (State.upFault s ch a).fbs = s.fbs ∧
    (State.upFault s ch a).axes = s.axes ∧
    (State.upFault s ch a).steps = s.steps ∧
    (State.upFault s ch a).line = s.line ∧
    (State.upFault s ch a).moves = s.moves ∧
    (State.upFault s ch a).arb = s.arb ∧
    (State.upFault s ch a).groups = s.groups ∧
    (State.upFault s ch a).eng = s.eng ∧
    (State.upFault s ch a).die = s.die ∧
    (State.upFault s ch a).fld = s.fld ∧
    (State.upFault s ch a).twin = s.twin ∧
    (State.upFault s ch a).scs = s.scs ∧
    (State.upFault s ch a).time = s.time ∧
    (State.upFault s ch a).saf.endgame = s.saf.endgame ∧
    (State.upFault s ch a).saf.silent = s.saf.silent ∧
    (State.upFault s ch a).host.keys = s.host.keys ∧
    (State.upFault s ch a).host.parQueue = s.host.parQueue := by
  generalize hT : State.upFault s ch a = res
  unfold State.upFault at hT
  try dsimp only at hT
  repeat' split at hT
  all_goals subst hT
  all_goals (try simp)
  all_goals (repeat' split)
  all_goals (try simp)

@[simp] theorem State.upFault_idents (s : State) (ch : Chan) (a : Nat) : (State.upFault s ch a).idents = s.idents := by
  generalize hT : State.upFault s ch a = res
  unfold State.upFault at hT
  try dsimp only at hT
  repeat' split at hT
  all_goals subst hT
  all_goals (try simp)
  all_goals (repeat' split)
  all_goals (try simp)
  all_goals (try rfl)
  all_goals (try exact State.idents_eq _ _ (by simp))
  all_goals (try simp [Session.ident])
  all_goals (try simp [Session.ident, State.session])
  all_goals (try simp [State.idents, State.session, Session.ident])

@[simp] theorem State.channelHFails_frame (s : State) :
    (State.channelHFails s).pending = s.pending ∧
    (State.channelHFails s).params = s.params ∧
    (State.channelHFails s).boot = s.boot ∧
    (State.channelHFails s).segs = s.segs ∧
    (State.channelHFails s).opening = s.opening ∧
    (State.channelHFails s).moves = s.moves ∧
    (State.channelHFails s).arb = s.arb ∧
    (State.channelHFails s).groups = s.groups ∧
    (State.channelHFails s).die = s.die ∧
    (State.channelHFails s).scs = s.scs ∧
    (State.channelHFails s).twin.standby = s.twin.standby ∧
    (State.channelHFails s).host.keys = s.host.keys ∧
    (State.channelHFails s).host.parQueue = s.host.parQueue ∧
    (State.channelHFails s).cyc.cycle = s.cyc.cycle := by
  generalize hT : State.channelHFails s = res
  unfold State.channelHFails at hT
  try dsimp only at hT
  repeat' split at hT
  all_goals subst hT
  all_goals (try simp)
  all_goals (repeat' split)
  all_goals (try simp)

@[simp] theorem State.channelHFails_idents (s : State) : (State.channelHFails s).idents = s.idents := by
  generalize hT : State.channelHFails s = res
  unfold State.channelHFails at hT
  try dsimp only at hT
  repeat' split at hT
  all_goals subst hT
  all_goals (try simp)
  all_goals (repeat' split)
  all_goals (try simp)
  all_goals (try rfl)
  all_goals (try exact State.idents_eq _ _ (by simp))
  all_goals (try simp [Session.ident])
  all_goals (try simp [Session.ident, State.session])
  all_goals (try simp [State.idents, State.session, Session.ident])

@[simp] theorem State.islandDown_frame (s : State) :
    (State.islandDown s).pending = s.pending ∧
    (State.islandDown s).params = s.params ∧
    (State.islandDown s).boot = s.boot ∧
    (State.islandDown s).segs = s.segs ∧
    (State.islandDown s).opening = s.opening ∧
    (State.islandDown s).moves = s.moves ∧
    (State.islandDown s).arb = s.arb ∧
    (State.islandDown s).groups = s.groups ∧
    (State.islandDown s).die = s.die ∧
    (State.islandDown s).scs = s.scs ∧
    (State.islandDown s).twin.standby = s.twin.standby ∧
    (State.islandDown s).host.keys = s.host.keys ∧
    (State.islandDown s).host.parQueue = s.host.parQueue ∧
    (State.islandDown s).cyc.cycle = s.cyc.cycle := by
  generalize hT : State.islandDown s = res
  unfold State.islandDown at hT
  try dsimp only at hT
  repeat' split at hT
  all_goals subst hT
  all_goals (try simp)
  all_goals (repeat' split)
  all_goals (try simp)

@[simp] theorem State.islandDown_idents (s : State) : (State.islandDown s).idents = s.idents := by
  generalize hT : State.islandDown s = res
  unfold State.islandDown at hT
  try dsimp only at hT
  repeat' split at hT
  all_goals subst hT
  all_goals (try simp)
  all_goals (repeat' split)
  all_goals (try simp)
  all_goals (try rfl)
  all_goals (try exact State.idents_eq _ _ (by simp))
  all_goals (try simp [Session.ident])
  all_goals (try simp [Session.ident, State.session])
  all_goals (try simp [State.idents, State.session, Session.ident])

@[simp] theorem State.injectPort_frame (s : State) (p : Nat) (bytes : List Byte) :
    (State.injectPort s p bytes).pending = s.pending ∧
    (State.injectPort s p bytes).freeCtr = s.freeCtr ∧
    (State.injectPort s p bytes).coreTicks = s.coreTicks ∧
    (State.injectPort s p bytes).params = s.params ∧
    (State.injectPort s p bytes).cyc = s.cyc ∧
    (State.injectPort s p bytes).boot = s.boot ∧
    (State.injectPort s p bytes).ports = s.ports ∧
    (State.injectPort s p bytes).segs = s.segs ∧
    (State.injectPort s p bytes).opening = s.opening ∧
    (State.injectPort s p bytes).fbs = s.fbs ∧
    (State.injectPort s p bytes).axes = s.axes ∧
    (State.injectPort s p bytes).steps = s.steps ∧
    (State.injectPort s p bytes).line = s.line ∧
    (State.injectPort s p bytes).moves = s.moves ∧
    (State.injectPort s p bytes).arb = s.arb ∧
    (State.injectPort s p bytes).groups = s.groups ∧
    (State.injectPort s p bytes).eng = s.eng ∧
    (State.injectPort s p bytes).saf = s.saf ∧
    (State.injectPort s p bytes).die = s.die ∧
    (State.injectPort s p bytes).fld = s.fld ∧
    (State.injectPort s p bytes).twin = s.twin ∧
    (State.injectPort s p bytes).scs = s.scs ∧
    (State.injectPort s p bytes).time = s.time ∧
    (State.injectPort s p bytes).host = s.host := by
  generalize hT : State.injectPort s p bytes = res
  unfold State.injectPort at hT
  try dsimp only at hT
  repeat' split at hT
  all_goals subst hT
  all_goals (try simp)
  all_goals (repeat' split)
  all_goals (try simp)

@[simp] theorem State.injectPort_idents (s : State) (p : Nat) (bytes : List Byte) : (State.injectPort s p bytes).idents = s.idents := State.idents_eq _ _ (by simp)

@[simp] theorem State.checkSection_frame (s : State) :
    (State.checkSection s).pending = s.pending ∧
    (State.checkSection s).freeCtr = s.freeCtr ∧
    (State.checkSection s).coreTicks = s.coreTicks ∧
    (State.checkSection s).params = s.params ∧
    (State.checkSection s).cyc = s.cyc ∧
    (State.checkSection s).boot = s.boot ∧
    (State.checkSection s).ports = s.ports ∧
    (State.checkSection s).segs = s.segs ∧
    (State.checkSection s).opening = s.opening ∧
    (State.checkSection s).fbs = s.fbs ∧
    (State.checkSection s).axes = s.axes ∧
    (State.checkSection s).steps = s.steps ∧
    (State.checkSection s).line = s.line ∧
    (State.checkSection s).moves = s.moves ∧
    (State.checkSection s).arb = s.arb ∧
    (State.checkSection s).groups = s.groups ∧
    (State.checkSection s).eng = s.eng ∧
    (State.checkSection s).die = s.die ∧
    (State.checkSection s).fld = s.fld ∧
    (State.checkSection s).twin = s.twin ∧
    (State.checkSection s).scs = s.scs ∧
    (State.checkSection s).time = s.time ∧
    (State.checkSection s).saf.endgame = s.saf.endgame ∧
    (State.checkSection s).saf.silent = s.saf.silent ∧
    (State.checkSection s).host.keys = s.host.keys ∧
    (State.checkSection s).host.parQueue = s.host.parQueue := by
  generalize hT : State.checkSection s = res
  unfold State.checkSection at hT
  try dsimp only at hT
  repeat' split at hT
  all_goals subst hT
  all_goals (try simp)
  all_goals (repeat' split)
  all_goals (try simp)

@[simp] theorem State.checkSection_idents (s : State) : (State.checkSection s).idents = s.idents := by
  generalize hT : State.checkSection s = res
  unfold State.checkSection at hT
  try dsimp only at hT
  repeat' split at hT
  all_goals subst hT
  all_goals (try simp)
  all_goals (repeat' split)
  all_goals (try simp)
  all_goals (try rfl)
  all_goals (try exact State.idents_eq _ _ (by simp))
  all_goals (try simp [Session.ident])
  all_goals (try simp [Session.ident, State.session])
  all_goals (try simp [State.idents, State.session, Session.ident])

@[simp] theorem State.applySection_frame (s : State) (bs : List Byte) :
    (State.applySection s bs).pending = s.pending ∧
    (State.applySection s bs).freeCtr = s.freeCtr ∧
    (State.applySection s bs).coreTicks = s.coreTicks ∧
    (State.applySection s bs).cyc = s.cyc ∧
    (State.applySection s bs).boot = s.boot ∧
    (State.applySection s bs).ports = s.ports ∧
    (State.applySection s bs).segs = s.segs ∧
    (State.applySection s bs).opening = s.opening ∧
    (State.applySection s bs).fbs = s.fbs ∧
    (State.applySection s bs).axes = s.axes ∧
    (State.applySection s bs).steps = s.steps ∧
    (State.applySection s bs).line = s.line ∧
    (State.applySection s bs).moves = s.moves ∧
    (State.applySection s bs).arb = s.arb ∧
    (State.applySection s bs).groups = s.groups ∧
    (State.applySection s bs).eng = s.eng ∧
    (State.applySection s bs).die = s.die ∧
    (State.applySection s bs).fld = s.fld ∧
    (State.applySection s bs).twin = s.twin ∧
    (State.applySection s bs).scs = s.scs ∧
    (State.applySection s bs).time = s.time ∧
    (State.applySection s bs).saf.endgame = s.saf.endgame ∧
    (State.applySection s bs).saf.silent = s.saf.silent ∧
    (State.applySection s bs).host.keys = s.host.keys ∧
    (State.applySection s bs).host.parQueue = s.host.parQueue := by
  generalize hT : State.applySection s bs = res
  unfold State.applySection at hT
  try dsimp only at hT
  repeat' split at hT
  all_goals subst hT
  all_goals (try simp)
  all_goals (repeat' split)
  all_goals (try simp)

@[simp] theorem State.applySection_idents (s : State) (bs : List Byte) : (State.applySection s bs).idents = s.idents := by
  generalize hT : State.applySection s bs = res
  unfold State.applySection at hT
  try dsimp only at hT
  repeat' split at hT
  all_goals subst hT
  all_goals (try simp)
  all_goals (repeat' split)
  all_goals (try simp)
  all_goals (try rfl)
  all_goals (try exact State.idents_eq _ _ (by simp))
  all_goals (try simp [Session.ident])
  all_goals (try simp [Session.ident, State.session])
  all_goals (try simp [State.idents, State.session, Session.ident])

@[simp] theorem State.answerDemands_frame (s : State) :
    (State.answerDemands s).pending = s.pending ∧
    (State.answerDemands s).freeCtr = s.freeCtr ∧
    (State.answerDemands s).coreTicks = s.coreTicks ∧
    (State.answerDemands s).params = s.params ∧
    (State.answerDemands s).cyc = s.cyc ∧
    (State.answerDemands s).boot = s.boot ∧
    (State.answerDemands s).ports = s.ports ∧
    (State.answerDemands s).segs = s.segs ∧
    (State.answerDemands s).opening = s.opening ∧
    (State.answerDemands s).fbs = s.fbs ∧
    (State.answerDemands s).axes = s.axes ∧
    (State.answerDemands s).steps = s.steps ∧
    (State.answerDemands s).line = s.line ∧
    (State.answerDemands s).moves = s.moves ∧
    (State.answerDemands s).arb = s.arb ∧
    (State.answerDemands s).groups = s.groups ∧
    (State.answerDemands s).eng = s.eng ∧
    (State.answerDemands s).die = s.die ∧
    (State.answerDemands s).fld = s.fld ∧
    (State.answerDemands s).twin = s.twin ∧
    (State.answerDemands s).scs = s.scs ∧
    (State.answerDemands s).time = s.time ∧
    (State.answerDemands s).saf.endgame = s.saf.endgame ∧
    (State.answerDemands s).saf.silent = s.saf.silent ∧
    (State.answerDemands s).host.keys = s.host.keys ∧
    (State.answerDemands s).host.parQueue = s.host.parQueue := by
  generalize hT : State.answerDemands s = res
  unfold State.answerDemands at hT
  try dsimp only at hT
  repeat' split at hT
  all_goals subst hT
  all_goals (try simp)
  all_goals (repeat' split)
  all_goals (try simp)

@[simp] theorem State.answerDemands_idents (s : State) : (State.answerDemands s).idents = s.idents := by
  generalize hT : State.answerDemands s = res
  unfold State.answerDemands at hT
  try dsimp only at hT
  repeat' split at hT
  all_goals subst hT
  all_goals (try simp)
  all_goals (repeat' split)
  all_goals (try simp)
  all_goals (try rfl)
  all_goals (try exact State.idents_eq _ _ (by simp))
  all_goals (try simp [Session.ident])
  all_goals (try simp [Session.ident, State.session])
  all_goals (try simp [State.idents, State.session, Session.ident])

end Sys2Proof.Machine
end

