-- ==== Sys2Proof/Laws/FrameMoveList.lean ====
section
/-! SUPPORT. What the operations of Machine/MoveList.lean leave unchanged: one rule per operation. -/

namespace Sys2Proof.Machine

@[simp] theorem State.landMoves_frame (s : State) (w : MovWait) :
    (State.landMoves s w).pending = s.pending ∧
    (State.landMoves s w).freeCtr = s.freeCtr ∧
    (State.landMoves s w).coreTicks = s.coreTicks ∧
    (State.landMoves s w).params = s.params ∧
    (State.landMoves s w).cyc = s.cyc ∧
    (State.landMoves s w).boot = s.boot ∧
    (State.landMoves s w).ports = s.ports ∧
    (State.landMoves s w).segs = s.segs ∧
    (State.landMoves s w).opening = s.opening ∧
    (State.landMoves s w).fbs = s.fbs ∧
    (State.landMoves s w).axes = s.axes ∧
    (State.landMoves s w).steps = s.steps ∧
    (State.landMoves s w).line = s.line ∧
    (State.landMoves s w).arb = s.arb ∧
    (State.landMoves s w).groups = s.groups ∧
    (State.landMoves s w).eng = s.eng ∧
    (State.landMoves s w).saf = s.saf ∧
    (State.landMoves s w).die = s.die ∧
    (State.landMoves s w).fld = s.fld ∧
    (State.landMoves s w).twin = s.twin ∧
    (State.landMoves s w).scs = s.scs ∧
    (State.landMoves s w).time = s.time ∧
    (State.landMoves s w).host.keys = s.host.keys ∧
    (State.landMoves s w).host.parQueue = s.host.parQueue := by
  generalize hT : State.landMoves s w = res
  unfold State.landMoves at hT
  try dsimp only at hT
  repeat' split at hT
  all_goals subst hT
  all_goals (try simp)
  all_goals (repeat' split)
  all_goals (try simp)

@[simp] theorem State.landMoves_idents (s : State) (w : MovWait) : (State.landMoves s w).idents = s.idents := by
  generalize hT : State.landMoves s w = res
  unfold State.landMoves at hT
  try dsimp only at hT
  repeat' split at hT
  all_goals subst hT
  all_goals (try simp)
  all_goals (repeat' split)
  all_goals (try simp)
  all_goals (try rfl)
  all_goals (try exact State.idents_eq _ _ (by simp))
  all_goals (try simp [Session.ident])
  all_goals (try simp [Session.ident, State.session])
  all_goals (try simp [State.idents, State.session, Session.ident])

end Sys2Proof.Machine
end

