-- ==== Sys2Proof/Laws/FrameTaskOps.lean ====
section
/-! SUPPORT. What the operations of Machine/TaskOps.lean leave unchanged: one rule per operation. -/

namespace Sys2Proof.Machine

@[simp] theorem State.localDrive_frame (s : State) (a : Nat) :
    (State.localDrive s a).pending = s.pending ∧
    (State.localDrive s a).out = s.out ∧
    (State.localDrive s a).freeCtr = s.freeCtr ∧
    (State.localDrive s a).coreTicks = s.coreTicks ∧
    (State.localDrive s a).params = s.params ∧
    (State.localDrive s a).cyc = s.cyc ∧
    (State.localDrive s a).boot = s.boot ∧
    (State.localDrive s a).ports = s.ports ∧
    (State.localDrive s a).segs = s.segs ∧
    (State.localDrive s a).opening = s.opening ∧
    (State.localDrive s a).fbs = s.fbs ∧
    (State.localDrive s a).steps = s.steps ∧
    (State.localDrive s a).line = s.line ∧
    (State.localDrive s a).moves = s.moves ∧
    (State.localDrive s a).arb = s.arb ∧
    (State.localDrive s a).groups = s.groups ∧
    (State.localDrive s a).eng = s.eng ∧
    (State.localDrive s a).saf = s.saf ∧
    (State.localDrive s a).die = s.die ∧
    (State.localDrive s a).fld = s.fld ∧
    (State.localDrive s a).twin = s.twin ∧
    (State.localDrive s a).scs = s.scs ∧
    (State.localDrive s a).time = s.time ∧
    (State.localDrive s a).host = s.host := by
  generalize hT : State.localDrive s a = res
  unfold State.localDrive at hT
  try dsimp only at hT
  repeat' split at hT
  all_goals subst hT
  all_goals (try simp)
  all_goals (repeat' split)
  all_goals (try simp)

@[simp] theorem State.localDrive_idents (s : State) (a : Nat) : (State.localDrive s a).idents = s.idents := State.idents_eq _ _ (by simp)

@[simp] theorem State.torqueReported_frame (s : State) (a : Nat) :
    (State.torqueReported s a).pending = s.pending ∧
    (State.torqueReported s a).freeCtr = s.freeCtr ∧
    (State.torqueReported s a).coreTicks = s.coreTicks ∧
    (State.torqueReported s a).params = s.params ∧
    (State.torqueReported s a).cyc = s.cyc ∧
    (State.torqueReported s a).boot = s.boot ∧
    (State.torqueReported s a).ports = s.ports ∧
    (State.torqueReported s a).segs = s.segs ∧
    (State.torqueReported s a).opening = s.opening ∧
    (State.torqueReported s a).fbs = s.fbs ∧
    (State.torqueReported s a).steps = s.steps ∧
    (State.torqueReported s a).line = s.line ∧
    (State.torqueReported s a).moves = s.moves ∧
    (State.torqueReported s a).arb = s.arb ∧
    (State.torqueReported s a).groups = s.groups ∧
    (State.torqueReported s a).eng = s.eng ∧
    (State.torqueReported s a).saf = s.saf ∧
    (State.torqueReported s a).die = s.die ∧
    (State.torqueReported s a).fld = s.fld ∧
    (State.torqueReported s a).twin = s.twin ∧
    (State.torqueReported s a).scs = s.scs ∧
    (State.torqueReported s a).time = s.time ∧
    (State.torqueReported s a).host.keys = s.host.keys ∧
    (State.torqueReported s a).host.parQueue = s.host.parQueue := by
  generalize hT : State.torqueReported s a = res
  unfold State.torqueReported at hT
  try dsimp only at hT
  repeat' split at hT
  all_goals subst hT
  all_goals (try simp)
  all_goals (repeat' split)
  all_goals (try simp)

@[simp] theorem State.torqueReported_idents (s : State) (a : Nat) : (State.torqueReported s a).idents = s.idents := by
  generalize hT : State.torqueReported s a = res
  unfold State.torqueReported at hT
  try dsimp only at hT
  repeat' split at hT
  all_goals subst hT
  all_goals (try simp)
  all_goals (repeat' split)
  all_goals (try simp)
  all_goals (try rfl)
  all_goals (try exact State.idents_eq _ _ (by simp))
  all_goals (try simp [Session.ident])
  all_goals (try simp [Session.ident, State.session])
  all_goals (try simp [State.idents, State.session, Session.ident])

@[simp] theorem State.makeReady_frame (s : State) (o : Owner) (k sample : Nat) (isNew : Bool) (win : List Word48) :
    (State.makeReady s o k sample isNew win).pending = s.pending ∧
    (State.makeReady s o k sample isNew win).freeCtr = s.freeCtr ∧
    (State.makeReady s o k sample isNew win).coreTicks = s.coreTicks ∧
    (State.makeReady s o k sample isNew win).params = s.params ∧
    (State.makeReady s o k sample isNew win).cyc = s.cyc ∧
    (State.makeReady s o k sample isNew win).boot = s.boot ∧
    (State.makeReady s o k sample isNew win).ports = s.ports ∧
    (State.makeReady s o k sample isNew win).segs = s.segs ∧
    (State.makeReady s o k sample isNew win).opening = s.opening ∧
    (State.makeReady s o k sample isNew win).fbs = s.fbs ∧
    (State.makeReady s o k sample isNew win).steps = s.steps ∧
    (State.makeReady s o k sample isNew win).moves = s.moves ∧
    (State.makeReady s o k sample isNew win).arb = s.arb ∧
    (State.makeReady s o k sample isNew win).groups = s.groups ∧
    (State.makeReady s o k sample isNew win).saf = s.saf ∧
    (State.makeReady s o k sample isNew win).die = s.die ∧
    (State.makeReady s o k sample isNew win).fld = s.fld ∧
    (State.makeReady s o k sample isNew win).twin = s.twin ∧
    (State.makeReady s o k sample isNew win).scs = s.scs ∧
    (State.makeReady s o k sample isNew win).time = s.time ∧
    (State.makeReady s o k sample isNew win).host = s.host := by
  generalize hT : State.makeReady s o k sample isNew win = res
  unfold State.makeReady at hT
  try dsimp only at hT
  repeat' split at hT
  all_goals subst hT
  all_goals (try simp)
  all_goals (repeat' split)
  all_goals (try simp)

@[simp] theorem State.makeReady_idents (s : State) (o : Owner) (k sample : Nat) (isNew : Bool) (win : List Word48) : (State.makeReady s o k sample isNew win).idents = s.idents := State.idents_eq _ _ (by simp)

@[simp] theorem State.lineCompare_frame (s : State) :
    (State.lineCompare s).pending = s.pending ∧
    (State.lineCompare s).out = s.out ∧
    (State.lineCompare s).freeCtr = s.freeCtr ∧
    (State.lineCompare s).coreTicks = s.coreTicks ∧
    (State.lineCompare s).params = s.params ∧
    (State.lineCompare s).cyc = s.cyc ∧
    (State.lineCompare s).boot = s.boot ∧
    (State.lineCompare s).ports = s.ports ∧
    (State.lineCompare s).segs = s.segs ∧
    (State.lineCompare s).opening = s.opening ∧
    (State.lineCompare s).fbs = s.fbs ∧
    (State.lineCompare s).axes = s.axes ∧
    (State.lineCompare s).steps = s.steps ∧
    (State.lineCompare s).moves = s.moves ∧
    (State.lineCompare s).arb = s.arb ∧
    (State.lineCompare s).groups = s.groups ∧
    (State.lineCompare s).eng = s.eng ∧
    (State.lineCompare s).saf = s.saf ∧
    (State.lineCompare s).die = s.die ∧
    (State.lineCompare s).fld = s.fld ∧
    (State.lineCompare s).twin = s.twin ∧
    (State.lineCompare s).scs = s.scs ∧
    (State.lineCompare s).time = s.time ∧
    (State.lineCompare s).host = s.host := by
  generalize hT : State.lineCompare s = res
  unfold State.lineCompare at hT
  try dsimp only at hT
  repeat' split at hT
  all_goals subst hT
  all_goals (try simp)
  all_goals (repeat' split)
  all_goals (try simp)

@[simp] theorem State.lineCompare_idents (s : State) : (State.lineCompare s).idents = s.idents := State.idents_eq _ _ (by simp)

@[simp] theorem State.lineSwitch_frame (s : State) :
    (State.lineSwitch s).pending = s.pending ∧
    (State.lineSwitch s).freeCtr = s.freeCtr ∧
    (State.lineSwitch s).coreTicks = s.coreTicks ∧
    (State.lineSwitch s).params = s.params ∧
    (State.lineSwitch s).cyc = s.cyc ∧
    (State.lineSwitch s).boot = s.boot ∧
    (State.lineSwitch s).ports = s.ports ∧
    (State.lineSwitch s).segs = s.segs ∧
    (State.lineSwitch s).opening = s.opening ∧
    (State.lineSwitch s).fbs = s.fbs ∧
    (State.lineSwitch s).axes = s.axes ∧
    (State.lineSwitch s).steps = s.steps ∧
    (State.lineSwitch s).moves = s.moves ∧
    (State.lineSwitch s).arb = s.arb ∧
    (State.lineSwitch s).groups = s.groups ∧
    (State.lineSwitch s).eng = s.eng ∧
    (State.lineSwitch s).saf = s.saf ∧
    (State.lineSwitch s).die = s.die ∧
    (State.lineSwitch s).fld = s.fld ∧
    (State.lineSwitch s).twin = s.twin ∧
    (State.lineSwitch s).scs = s.scs ∧
    (State.lineSwitch s).time = s.time ∧
    (State.lineSwitch s).host.keys = s.host.keys ∧
    (State.lineSwitch s).host.parQueue = s.host.parQueue := by
  generalize hT : State.lineSwitch s = res
  unfold State.lineSwitch at hT
  try dsimp only at hT
  repeat' split at hT
  all_goals subst hT
  all_goals (try simp)
  all_goals (repeat' split)
  all_goals (try simp)

@[simp] theorem State.lineSwitch_idents (s : State) : (State.lineSwitch s).idents = s.idents := by
  generalize hT : State.lineSwitch s = res
  unfold State.lineSwitch at hT
  try dsimp only at hT
  repeat' split at hT
  all_goals subst hT
  all_goals (try simp)
  all_goals (repeat' split)
  all_goals (try simp)
  all_goals (try rfl)
  all_goals (try exact State.idents_eq _ _ (by simp))
  all_goals (try simp [Session.ident])
  all_goals (try simp [Session.ident, State.session])
  all_goals (try simp [State.idents, State.session, Session.ident])

@[simp] theorem State.releaseLine_frame (s : State) (k : Nat) :
    (State.releaseLine s k).pending = s.pending ∧
    (State.releaseLine s k).freeCtr = s.freeCtr ∧
    (State.releaseLine s k).coreTicks = s.coreTicks ∧
    (State.releaseLine s k).params = s.params ∧
    (State.releaseLine s k).cyc = s.cyc ∧
    (State.releaseLine s k).boot = s.boot ∧
    (State.releaseLine s k).ports = s.ports ∧
    (State.releaseLine s k).segs = s.segs ∧
    (State.releaseLine s k).opening = s.opening ∧
    (State.releaseLine s k).steps = s.steps ∧
    (State.releaseLine s k).moves = s.moves ∧
    (State.releaseLine s k).arb = s.arb ∧
    (State.releaseLine s k).groups = s.groups ∧
    (State.releaseLine s k).saf = s.saf ∧
    (State.releaseLine s k).die = s.die ∧
    (State.releaseLine s k).fld = s.fld ∧
    (State.releaseLine s k).twin = s.twin ∧
    (State.releaseLine s k).scs = s.scs ∧
    (State.releaseLine s k).time = s.time ∧
    (State.releaseLine s k).host.keys = s.host.keys ∧
    (State.releaseLine s k).host.parQueue = s.host.parQueue := by
  generalize hT : State.releaseLine s k = res
  unfold State.releaseLine at hT
  try dsimp only at hT
  repeat' split at hT
  all_goals subst hT
  all_goals (try simp)
  all_goals (repeat' split)
  all_goals (try simp)

@[simp] theorem State.releaseLine_idents (s : State) (k : Nat) : (State.releaseLine s k).idents = s.idents := by
  generalize hT : State.releaseLine s k = res
  unfold State.releaseLine at hT
  try dsimp only at hT
  repeat' split at hT
  all_goals subst hT
  all_goals (try simp)
  all_goals (repeat' split)
  all_goals (try simp)
  all_goals (try rfl)
  all_goals (try exact State.idents_eq _ _ (by simp))
  all_goals (try simp [Session.ident])
  all_goals (try simp [Session.ident, State.session])
  all_goals (try simp [State.idents, State.session, Session.ident])

@[simp] theorem State.landCoefs_frame (s : State) (a : Nat) :
    (State.landCoefs s a).pending = s.pending ∧
    (State.landCoefs s a).freeCtr = s.freeCtr ∧
    (State.landCoefs s a).coreTicks = s.coreTicks ∧
    (State.landCoefs s a).params = s.params ∧
    (State.landCoefs s a).cyc = s.cyc ∧
    (State.landCoefs s a).boot = s.boot ∧
    (State.landCoefs s a).ports = s.ports ∧
    (State.landCoefs s a).segs = s.segs ∧
    (State.landCoefs s a).opening = s.opening ∧
    (State.landCoefs s a).fbs = s.fbs ∧
    (State.landCoefs s a).steps = s.steps ∧
    (State.landCoefs s a).line = s.line ∧
    (State.landCoefs s a).moves = s.moves ∧
    (State.landCoefs s a).arb = s.arb ∧
    (State.landCoefs s a).groups = s.groups ∧
    (State.landCoefs s a).saf = s.saf ∧
    (State.landCoefs s a).die = s.die ∧
    (State.landCoefs s a).fld = s.fld ∧
    (State.landCoefs s a).twin = s.twin ∧
    (State.landCoefs s a).scs = s.scs ∧
    (State.landCoefs s a).time = s.time ∧
    (State.landCoefs s a).host.keys = s.host.keys ∧
    (State.landCoefs s a).host.parQueue = s.host.parQueue := by
  generalize hT : State.landCoefs s a = res
  unfold State.landCoefs at hT
  try dsimp only at hT
  repeat' split at hT
  all_goals subst hT
  all_goals (try simp)
  all_goals (repeat' split)
  all_goals (try simp)

@[simp] theorem State.landCoefs_idents (s : State) (a : Nat) : (State.landCoefs s a).idents = s.idents := by
  generalize hT : State.landCoefs s a = res
  unfold State.landCoefs at hT
  try dsimp only at hT
  repeat' split at hT
  all_goals subst hT
  all_goals (try simp)
  all_goals (repeat' split)
  all_goals (try simp)
  all_goals (try rfl)
  all_goals (try exact State.idents_eq _ _ (by simp))
  all_goals (try simp [Session.ident])
  all_goals (try simp [Session.ident, State.session])
  all_goals (try simp [State.idents, State.session, Session.ident])

@[simp] theorem State.initLaw_frame (s : State) (a n : Nat) :
    (State.initLaw s a n).pending = s.pending ∧
    (State.initLaw s a n).out = s.out ∧
    (State.initLaw s a n).freeCtr = s.freeCtr ∧
    (State.initLaw s a n).coreTicks = s.coreTicks ∧
    (State.initLaw s a n).params = s.params ∧
    (State.initLaw s a n).cyc = s.cyc ∧
    (State.initLaw s a n).boot = s.boot ∧
    (State.initLaw s a n).ports = s.ports ∧
    (State.initLaw s a n).segs = s.segs ∧
    (State.initLaw s a n).opening = s.opening ∧
    (State.initLaw s a n).fbs = s.fbs ∧
    (State.initLaw s a n).steps = s.steps ∧
    (State.initLaw s a n).line = s.line ∧
    (State.initLaw s a n).moves = s.moves ∧
    (State.initLaw s a n).arb = s.arb ∧
    (State.initLaw s a n).groups = s.groups ∧
    (State.initLaw s a n).saf = s.saf ∧
    (State.initLaw s a n).die = s.die ∧
    (State.initLaw s a n).fld = s.fld ∧
    (State.initLaw s a n).twin = s.twin ∧
    (State.initLaw s a n).scs = s.scs ∧
    (State.initLaw s a n).time = s.time ∧
    (State.initLaw s a n).host = s.host := by
  generalize hT : State.initLaw s a n = res
  unfold State.initLaw at hT
  try dsimp only at hT
  repeat' split at hT
  all_goals subst hT
  all_goals (try simp)
  all_goals (repeat' split)
  all_goals (try simp)

@[simp] theorem State.initLaw_idents (s : State) (a n : Nat) : (State.initLaw s a n).idents = s.idents := State.idents_eq _ _ (by simp)

@[simp] theorem State.observeAxis_frame (s : State) (a : Nat) (t : ReadyTask) :
    (State.observeAxis s a t).pending = s.pending ∧
    (State.observeAxis s a t).out = s.out ∧
    (State.observeAxis s a t).freeCtr = s.freeCtr ∧
    (State.observeAxis s a t).coreTicks = s.coreTicks ∧
    (State.observeAxis s a t).params = s.params ∧
    (State.observeAxis s a t).cyc = s.cyc ∧
    (State.observeAxis s a t).boot = s.boot ∧
    (State.observeAxis s a t).ports = s.ports ∧
    (State.observeAxis s a t).segs = s.segs ∧
    (State.observeAxis s a t).opening = s.opening ∧
    (State.observeAxis s a t).fbs = s.fbs ∧
    (State.observeAxis s a t).steps = s.steps ∧
    (State.observeAxis s a t).line = s.line ∧
    (State.observeAxis s a t).moves = s.moves ∧
    (State.observeAxis s a t).arb = s.arb ∧
    (State.observeAxis s a t).groups = s.groups ∧
    (State.observeAxis s a t).eng = s.eng ∧
    (State.observeAxis s a t).saf = s.saf ∧
    (State.observeAxis s a t).die = s.die ∧
    (State.observeAxis s a t).fld = s.fld ∧
    (State.observeAxis s a t).twin = s.twin ∧
    (State.observeAxis s a t).scs = s.scs ∧
    (State.observeAxis s a t).time = s.time ∧
    (State.observeAxis s a t).host = s.host := by
  generalize hT : State.observeAxis s a t = res
  unfold State.observeAxis at hT
  try dsimp only at hT
  repeat' split at hT
  all_goals subst hT
  all_goals (try simp)
  all_goals (repeat' split)
  all_goals (try simp)

@[simp] theorem State.observeAxis_idents (s : State) (a : Nat) (t : ReadyTask) : (State.observeAxis s a t).idents = s.idents := State.idents_eq _ _ (by simp)

@[simp] theorem State.taskReadings_frame (s : State) (a : Nat) (t : ReadyTask) :
    (State.taskReadings s a t).pending = s.pending ∧
    (State.taskReadings s a t).freeCtr = s.freeCtr ∧
    (State.taskReadings s a t).coreTicks = s.coreTicks ∧
    (State.taskReadings s a t).params = s.params ∧
    (State.taskReadings s a t).cyc = s.cyc ∧
    (State.taskReadings s a t).boot = s.boot ∧
    (State.taskReadings s a t).ports = s.ports ∧
    (State.taskReadings s a t).segs = s.segs ∧
    (State.taskReadings s a t).opening = s.opening ∧
    (State.taskReadings s a t).fbs = s.fbs ∧
    (State.taskReadings s a t).steps = s.steps ∧
    (State.taskReadings s a t).line = s.line ∧
    (State.taskReadings s a t).moves = s.moves ∧
    (State.taskReadings s a t).arb = s.arb ∧
    (State.taskReadings s a t).groups = s.groups ∧
    (State.taskReadings s a t).eng = s.eng ∧
    (State.taskReadings s a t).saf = s.saf ∧
    (State.taskReadings s a t).die = s.die ∧
    (State.taskReadings s a t).fld = s.fld ∧
    (State.taskReadings s a t).twin = s.twin ∧
    (State.taskReadings s a t).scs = s.scs ∧
    (State.taskReadings s a t).time = s.time ∧
    (State.taskReadings s a t).host.keys = s.host.keys ∧
    (State.taskReadings s a t).host.parQueue = s.host.parQueue := by
  generalize hT : State.taskReadings s a t = res
  unfold State.taskReadings at hT
  try dsimp only at hT
  repeat' split at hT
  all_goals subst hT
  all_goals (try simp)
  all_goals (repeat' split)
  all_goals (try simp)

@[simp] theorem State.taskReadings_idents (s : State) (a : Nat) (t : ReadyTask) : (State.taskReadings s a t).idents = s.idents := by
  generalize hT : State.taskReadings s a t = res
  unfold State.taskReadings at hT
  try dsimp only at hT
  repeat' split at hT
  all_goals subst hT
  all_goals (try simp)
  all_goals (repeat' split)
  all_goals (try simp)
  all_goals (try rfl)
  all_goals (try exact State.idents_eq _ _ (by simp))
  all_goals (try simp [Session.ident])
  all_goals (try simp [Session.ident, State.session])
  all_goals (try simp [State.idents, State.session, Session.ident])

@[simp] theorem State.followError_frame (s : State) (a : Nat) (t : ReadyTask) :
    (State.followError s a t).pending = s.pending ∧
    (State.followError s a t).freeCtr = s.freeCtr ∧
    (State.followError s a t).coreTicks = s.coreTicks ∧
    (State.followError s a t).params = s.params ∧
    (State.followError s a t).cyc = s.cyc ∧
    (State.followError s a t).boot = s.boot ∧
    (State.followError s a t).ports = s.ports ∧
    (State.followError s a t).segs = s.segs ∧
    (State.followError s a t).opening = s.opening ∧
    (State.followError s a t).fbs = s.fbs ∧
    (State.followError s a t).steps = s.steps ∧
    (State.followError s a t).line = s.line ∧
    (State.followError s a t).moves = s.moves ∧
    (State.followError s a t).arb = s.arb ∧
    (State.followError s a t).groups = s.groups ∧
    (State.followError s a t).saf = s.saf ∧
    (State.followError s a t).die = s.die ∧
    (State.followError s a t).fld = s.fld ∧
    (State.followError s a t).twin = s.twin ∧
    (State.followError s a t).scs = s.scs ∧
    (State.followError s a t).time = s.time ∧
    (State.followError s a t).host.keys = s.host.keys ∧
    (State.followError s a t).host.parQueue = s.host.parQueue := by
  generalize hT : State.followError s a t = res
  unfold State.followError at hT
  try dsimp only at hT
  repeat' split at hT
  all_goals subst hT
  all_goals (try simp)
  all_goals (repeat' split)
  all_goals (try simp)

@[simp] theorem State.followError_idents (s : State) (a : Nat) (t : ReadyTask) : (State.followError s a t).idents = s.idents := by
  generalize hT : State.followError s a t = res
  unfold State.followError at hT
  try dsimp only at hT
  repeat' split at hT
  all_goals subst hT
  all_goals (try simp)
  all_goals (repeat' split)
  all_goals (try simp)
  all_goals (try rfl)
  all_goals (try exact State.idents_eq _ _ (by simp))
  all_goals (try simp [Session.ident])
  all_goals (try simp [Session.ident, State.session])
  all_goals (try simp [State.idents, State.session, Session.ident])

@[simp] theorem State.runLaw_frame (s : State) (a : Nat) (t : ReadyTask) :
    (State.runLaw s a t).1.pending = s.pending ∧
    (State.runLaw s a t).1.out = s.out ∧
    (State.runLaw s a t).1.freeCtr = s.freeCtr ∧
    (State.runLaw s a t).1.coreTicks = s.coreTicks ∧
    (State.runLaw s a t).1.params = s.params ∧
    (State.runLaw s a t).1.cyc = s.cyc ∧
    (State.runLaw s a t).1.boot = s.boot ∧
    (State.runLaw s a t).1.ports = s.ports ∧
    (State.runLaw s a t).1.segs = s.segs ∧
    (State.runLaw s a t).1.opening = s.opening ∧
    (State.runLaw s a t).1.fbs = s.fbs ∧
    (State.runLaw s a t).1.steps = s.steps ∧
    (State.runLaw s a t).1.line = s.line ∧
    (State.runLaw s a t).1.moves = s.moves ∧
    (State.runLaw s a t).1.arb = s.arb ∧
    (State.runLaw s a t).1.groups = s.groups ∧
    (State.runLaw s a t).1.saf = s.saf ∧
    (State.runLaw s a t).1.die = s.die ∧
    (State.runLaw s a t).1.fld = s.fld ∧
    (State.runLaw s a t).1.twin = s.twin ∧
    (State.runLaw s a t).1.scs = s.scs ∧
    (State.runLaw s a t).1.time = s.time ∧
    (State.runLaw s a t).1.host = s.host := by
  generalize hT : State.runLaw s a t = res
  unfold State.runLaw at hT
  try dsimp only at hT
  repeat' split at hT
  all_goals subst hT
  all_goals (try simp)
  all_goals (repeat' split)
  all_goals (try simp)

@[simp] theorem State.runLaw_idents (s : State) (a : Nat) (t : ReadyTask) : (State.runLaw s a t).1.idents = s.idents := State.idents_eq _ _ (by simp)

@[simp] theorem State.idleLearner_frame (s : State) (a : Nat) :
    (State.idleLearner s a).pending = s.pending ∧
    (State.idleLearner s a).out = s.out ∧
    (State.idleLearner s a).freeCtr = s.freeCtr ∧
    (State.idleLearner s a).coreTicks = s.coreTicks ∧
    (State.idleLearner s a).params = s.params ∧
    (State.idleLearner s a).cyc = s.cyc ∧
    (State.idleLearner s a).boot = s.boot ∧
    (State.idleLearner s a).ports = s.ports ∧
    (State.idleLearner s a).segs = s.segs ∧
    (State.idleLearner s a).opening = s.opening ∧
    (State.idleLearner s a).fbs = s.fbs ∧
    (State.idleLearner s a).steps = s.steps ∧
    (State.idleLearner s a).line = s.line ∧
    (State.idleLearner s a).moves = s.moves ∧
    (State.idleLearner s a).arb = s.arb ∧
    (State.idleLearner s a).groups = s.groups ∧
    (State.idleLearner s a).eng = s.eng ∧
    (State.idleLearner s a).saf = s.saf ∧
    (State.idleLearner s a).die = s.die ∧
    (State.idleLearner s a).fld = s.fld ∧
    (State.idleLearner s a).twin = s.twin ∧
    (State.idleLearner s a).scs = s.scs ∧
    (State.idleLearner s a).time = s.time ∧
    (State.idleLearner s a).host = s.host := by
  generalize hT : State.idleLearner s a = res
  unfold State.idleLearner at hT
  try dsimp only at hT
  repeat' split at hT
  all_goals subst hT
  all_goals (try simp)
  all_goals (repeat' split)
  all_goals (try simp)

@[simp] theorem State.idleLearner_idents (s : State) (a : Nat) : (State.idleLearner s a).idents = s.idents := State.idents_eq _ _ (by simp)

@[simp] theorem State.runLearner_frame (s : State) (a : Nat) (t : ReadyTask) :
    (State.runLearner s a t).1.pending = s.pending ∧
    (State.runLearner s a t).1.out = s.out ∧
    (State.runLearner s a t).1.freeCtr = s.freeCtr ∧
    (State.runLearner s a t).1.coreTicks = s.coreTicks ∧
    (State.runLearner s a t).1.params = s.params ∧
    (State.runLearner s a t).1.cyc = s.cyc ∧
    (State.runLearner s a t).1.boot = s.boot ∧
    (State.runLearner s a t).1.ports = s.ports ∧
    (State.runLearner s a t).1.segs = s.segs ∧
    (State.runLearner s a t).1.opening = s.opening ∧
    (State.runLearner s a t).1.fbs = s.fbs ∧
    (State.runLearner s a t).1.steps = s.steps ∧
    (State.runLearner s a t).1.line = s.line ∧
    (State.runLearner s a t).1.moves = s.moves ∧
    (State.runLearner s a t).1.arb = s.arb ∧
    (State.runLearner s a t).1.groups = s.groups ∧
    (State.runLearner s a t).1.saf = s.saf ∧
    (State.runLearner s a t).1.die = s.die ∧
    (State.runLearner s a t).1.fld = s.fld ∧
    (State.runLearner s a t).1.twin = s.twin ∧
    (State.runLearner s a t).1.scs = s.scs ∧
    (State.runLearner s a t).1.time = s.time ∧
    (State.runLearner s a t).1.host = s.host := by
  generalize hT : State.runLearner s a t = res
  unfold State.runLearner at hT
  try dsimp only at hT
  repeat' split at hT
  all_goals subst hT
  all_goals (try simp)
  all_goals (repeat' split)
  all_goals (try simp)

@[simp] theorem State.runLearner_idents (s : State) (a : Nat) (t : ReadyTask) : (State.runLearner s a t).1.idents = s.idents := State.idents_eq _ _ (by simp)

@[simp] theorem State.commitServo_frame (s : State) (a tag : Nat) (u : Int) :
    (State.commitServo s a tag u).pending = s.pending ∧
    (State.commitServo s a tag u).out = s.out ∧
    (State.commitServo s a tag u).freeCtr = s.freeCtr ∧
    (State.commitServo s a tag u).coreTicks = s.coreTicks ∧
    (State.commitServo s a tag u).params = s.params ∧
    (State.commitServo s a tag u).cyc = s.cyc ∧
    (State.commitServo s a tag u).boot = s.boot ∧
    (State.commitServo s a tag u).ports = s.ports ∧
    (State.commitServo s a tag u).segs = s.segs ∧
    (State.commitServo s a tag u).opening = s.opening ∧
    (State.commitServo s a tag u).fbs = s.fbs ∧
    (State.commitServo s a tag u).steps = s.steps ∧
    (State.commitServo s a tag u).line = s.line ∧
    (State.commitServo s a tag u).moves = s.moves ∧
    (State.commitServo s a tag u).arb = s.arb ∧
    (State.commitServo s a tag u).groups = s.groups ∧
    (State.commitServo s a tag u).saf = s.saf ∧
    (State.commitServo s a tag u).die = s.die ∧
    (State.commitServo s a tag u).fld = s.fld ∧
    (State.commitServo s a tag u).twin = s.twin ∧
    (State.commitServo s a tag u).scs = s.scs ∧
    (State.commitServo s a tag u).time = s.time ∧
    (State.commitServo s a tag u).host = s.host := by
  generalize hT : State.commitServo s a tag u = res
  unfold State.commitServo at hT
  try dsimp only at hT
  repeat' split at hT
  all_goals subst hT
  all_goals (try simp)
  all_goals (repeat' split)
  all_goals (try simp)

@[simp] theorem State.commitServo_idents (s : State) (a tag : Nat) (u : Int) : (State.commitServo s a tag u).idents = s.idents := State.idents_eq _ _ (by simp)

@[simp] theorem State.checkSteps_frame (s : State) (a : Nat) (t : ReadyTask) :
    (State.checkSteps s a t).pending = s.pending ∧
    (State.checkSteps s a t).freeCtr = s.freeCtr ∧
    (State.checkSteps s a t).coreTicks = s.coreTicks ∧
    (State.checkSteps s a t).params = s.params ∧
    (State.checkSteps s a t).cyc = s.cyc ∧
    (State.checkSteps s a t).boot = s.boot ∧
    (State.checkSteps s a t).ports = s.ports ∧
    (State.checkSteps s a t).segs = s.segs ∧
    (State.checkSteps s a t).opening = s.opening ∧
    (State.checkSteps s a t).fbs = s.fbs ∧
    (State.checkSteps s a t).steps = s.steps ∧
    (State.checkSteps s a t).line = s.line ∧
    (State.checkSteps s a t).moves = s.moves ∧
    (State.checkSteps s a t).arb = s.arb ∧
    (State.checkSteps s a t).groups = s.groups ∧
    (State.checkSteps s a t).eng = s.eng ∧
    (State.checkSteps s a t).saf = s.saf ∧
    (State.checkSteps s a t).die = s.die ∧
    (State.checkSteps s a t).fld = s.fld ∧
    (State.checkSteps s a t).twin = s.twin ∧
    (State.checkSteps s a t).scs = s.scs ∧
    (State.checkSteps s a t).time = s.time ∧
    (State.checkSteps s a t).host.keys = s.host.keys ∧
    (State.checkSteps s a t).host.parQueue = s.host.parQueue := by
  generalize hT : State.checkSteps s a t = res
  unfold State.checkSteps at hT
  try dsimp only at hT
  repeat' split at hT
  all_goals subst hT
  all_goals (try simp)
  all_goals (repeat' split)
  all_goals (try simp)

@[simp] theorem State.checkSteps_idents (s : State) (a : Nat) (t : ReadyTask) : (State.checkSteps s a t).idents = s.idents := by
  generalize hT : State.checkSteps s a t = res
  unfold State.checkSteps at hT
  try dsimp only at hT
  repeat' split at hT
  all_goals subst hT
  all_goals (try simp)
  all_goals (repeat' split)
  all_goals (try simp)
  all_goals (try rfl)
  all_goals (try exact State.idents_eq _ _ (by simp))
  all_goals (try simp [Session.ident])
  all_goals (try simp [Session.ident, State.session])
  all_goals (try simp [State.idents, State.session, Session.ident])

@[simp] theorem State.countConfirm_frame (s : State) (a : Nat) :
    (State.countConfirm s a).pending = s.pending ∧
    (State.countConfirm s a).freeCtr = s.freeCtr ∧
    (State.countConfirm s a).coreTicks = s.coreTicks ∧
    (State.countConfirm s a).params = s.params ∧
    (State.countConfirm s a).cyc = s.cyc ∧
    (State.countConfirm s a).boot = s.boot ∧
    (State.countConfirm s a).ports = s.ports ∧
    (State.countConfirm s a).segs = s.segs ∧
    (State.countConfirm s a).opening = s.opening ∧
    (State.countConfirm s a).fbs = s.fbs ∧
    (State.countConfirm s a).steps = s.steps ∧
    (State.countConfirm s a).line = s.line ∧
    (State.countConfirm s a).moves = s.moves ∧
    (State.countConfirm s a).arb = s.arb ∧
    (State.countConfirm s a).groups = s.groups ∧
    (State.countConfirm s a).eng = s.eng ∧
    (State.countConfirm s a).saf = s.saf ∧
    (State.countConfirm s a).die = s.die ∧
    (State.countConfirm s a).fld = s.fld ∧
    (State.countConfirm s a).twin = s.twin ∧
    (State.countConfirm s a).scs = s.scs ∧
    (State.countConfirm s a).time = s.time ∧
    (State.countConfirm s a).host.keys = s.host.keys ∧
    (State.countConfirm s a).host.parQueue = s.host.parQueue := by
  generalize hT : State.countConfirm s a = res
  unfold State.countConfirm at hT
  try dsimp only at hT
  repeat' split at hT
  all_goals subst hT
  all_goals (try simp)
  all_goals (repeat' split)
  all_goals (try simp)

@[simp] theorem State.countConfirm_idents (s : State) (a : Nat) : (State.countConfirm s a).idents = s.idents := by
  generalize hT : State.countConfirm s a = res
  unfold State.countConfirm at hT
  try dsimp only at hT
  repeat' split at hT
  all_goals subst hT
  all_goals (try simp)
  all_goals (repeat' split)
  all_goals (try simp)
  all_goals (try rfl)
  all_goals (try exact State.idents_eq _ _ (by simp))
  all_goals (try simp [Session.ident])
  all_goals (try simp [Session.ident, State.session])
  all_goals (try simp [State.idents, State.session, Session.ident])

@[simp] theorem State.putEntry_frame (s : State) (e : Nat) (r : RefEntry) :
    (State.putEntry s e r).pending = s.pending ∧
    (State.putEntry s e r).out = s.out ∧
    (State.putEntry s e r).freeCtr = s.freeCtr ∧
    (State.putEntry s e r).coreTicks = s.coreTicks ∧
    (State.putEntry s e r).params = s.params ∧
    (State.putEntry s e r).cyc = s.cyc ∧
    (State.putEntry s e r).boot = s.boot ∧
    (State.putEntry s e r).ports = s.ports ∧
    (State.putEntry s e r).segs = s.segs ∧
    (State.putEntry s e r).opening = s.opening ∧
    (State.putEntry s e r).fbs = s.fbs ∧
    (State.putEntry s e r).axes = s.axes ∧
    (State.putEntry s e r).steps = s.steps ∧
    (State.putEntry s e r).line = s.line ∧
    (State.putEntry s e r).moves = s.moves ∧
    (State.putEntry s e r).arb = s.arb ∧
    (State.putEntry s e r).groups = s.groups ∧
    (State.putEntry s e r).saf = s.saf ∧
    (State.putEntry s e r).die = s.die ∧
    (State.putEntry s e r).fld = s.fld ∧
    (State.putEntry s e r).twin = s.twin ∧
    (State.putEntry s e r).scs = s.scs ∧
    (State.putEntry s e r).time = s.time ∧
    (State.putEntry s e r).host = s.host := by
  generalize hT : State.putEntry s e r = res
  unfold State.putEntry at hT
  try dsimp only at hT
  repeat' split at hT
  all_goals subst hT
  all_goals (try simp)
  all_goals (repeat' split)
  all_goals (try simp)

@[simp] theorem State.putEntry_idents (s : State) (e : Nat) (r : RefEntry) : (State.putEntry s e r).idents = s.idents := State.idents_eq _ _ (by simp)

@[simp] theorem State.servoTask_frame (s : State) (e a tag : Nat) (t : ReadyTask) :
    (State.servoTask s e a tag t).pending = s.pending ∧
    (State.servoTask s e a tag t).freeCtr = s.freeCtr ∧
    (State.servoTask s e a tag t).coreTicks = s.coreTicks ∧
    (State.servoTask s e a tag t).params = s.params ∧
    (State.servoTask s e a tag t).cyc = s.cyc ∧
    (State.servoTask s e a tag t).boot = s.boot ∧
    (State.servoTask s e a tag t).ports = s.ports ∧
    (State.servoTask s e a tag t).segs = s.segs ∧
    (State.servoTask s e a tag t).opening = s.opening ∧
    (State.servoTask s e a tag t).fbs = s.fbs ∧
    (State.servoTask s e a tag t).steps = s.steps ∧
    (State.servoTask s e a tag t).line = s.line ∧
    (State.servoTask s e a tag t).moves = s.moves ∧
    (State.servoTask s e a tag t).arb = s.arb ∧
    (State.servoTask s e a tag t).saf = s.saf ∧
    (State.servoTask s e a tag t).die = s.die ∧
    (State.servoTask s e a tag t).fld = s.fld ∧
    (State.servoTask s e a tag t).twin = s.twin ∧
    (State.servoTask s e a tag t).scs = s.scs ∧
    (State.servoTask s e a tag t).time = s.time ∧
    (State.servoTask s e a tag t).host.keys = s.host.keys ∧
    (State.servoTask s e a tag t).host.parQueue = s.host.parQueue := by
  generalize hT : State.servoTask s e a tag t = res
  unfold State.servoTask at hT
  try dsimp only at hT
  repeat' split at hT
  all_goals subst hT
  all_goals (try simp)
  all_goals (repeat' split)
  all_goals (try simp)

@[simp] theorem State.servoTask_idents (s : State) (e a tag : Nat) (t : ReadyTask) : (State.servoTask s e a tag t).idents = s.idents := by
  generalize hT : State.servoTask s e a tag t = res
  unfold State.servoTask at hT
  try dsimp only at hT
  repeat' split at hT
  all_goals subst hT
  all_goals (try simp)
  all_goals (repeat' split)
  all_goals (try simp)
  all_goals (try rfl)
  all_goals (try exact State.idents_eq _ _ (by simp))
  all_goals (try simp [Session.ident])
  all_goals (try simp [Session.ident, State.session])
  all_goals (try simp [State.idents, State.session, Session.ident])

@[simp] theorem State.stepperTask_frame (s : State) (e a tag : Nat) (t : ReadyTask) :
    (State.stepperTask s e a tag t).pending = s.pending ∧
    (State.stepperTask s e a tag t).freeCtr = s.freeCtr ∧
    (State.stepperTask s e a tag t).coreTicks = s.coreTicks ∧
    (State.stepperTask s e a tag t).params = s.params ∧
    (State.stepperTask s e a tag t).cyc = s.cyc ∧
    (State.stepperTask s e a tag t).boot = s.boot ∧
    (State.stepperTask s e a tag t).ports = s.ports ∧
    (State.stepperTask s e a tag t).segs = s.segs ∧
    (State.stepperTask s e a tag t).opening = s.opening ∧
    (State.stepperTask s e a tag t).fbs = s.fbs ∧
    (State.stepperTask s e a tag t).steps = s.steps ∧
    (State.stepperTask s e a tag t).line = s.line ∧
    (State.stepperTask s e a tag t).moves = s.moves ∧
    (State.stepperTask s e a tag t).arb = s.arb ∧
    (State.stepperTask s e a tag t).saf = s.saf ∧
    (State.stepperTask s e a tag t).die = s.die ∧
    (State.stepperTask s e a tag t).fld = s.fld ∧
    (State.stepperTask s e a tag t).twin = s.twin ∧
    (State.stepperTask s e a tag t).scs = s.scs ∧
    (State.stepperTask s e a tag t).time = s.time ∧
    (State.stepperTask s e a tag t).host.keys = s.host.keys ∧
    (State.stepperTask s e a tag t).host.parQueue = s.host.parQueue := by
  generalize hT : State.stepperTask s e a tag t = res
  unfold State.stepperTask at hT
  try dsimp only at hT
  repeat' split at hT
  all_goals subst hT
  all_goals (try simp)
  all_goals (repeat' split)
  all_goals (try simp)

@[simp] theorem State.stepperTask_idents (s : State) (e a tag : Nat) (t : ReadyTask) : (State.stepperTask s e a tag t).idents = s.idents := by
  generalize hT : State.stepperTask s e a tag t = res
  unfold State.stepperTask at hT
  try dsimp only at hT
  repeat' split at hT
  all_goals subst hT
  all_goals (try simp)
  all_goals (repeat' split)
  all_goals (try simp)
  all_goals (try rfl)
  all_goals (try exact State.idents_eq _ _ (by simp))
  all_goals (try simp [Session.ident])
  all_goals (try simp [Session.ident, State.session])
  all_goals (try simp [State.idents, State.session, Session.ident])

@[simp] theorem State.zeroOrigin_frame (s : State) (a : Nat) :
    (State.zeroOrigin s a).pending = s.pending ∧
    (State.zeroOrigin s a).out = s.out ∧
    (State.zeroOrigin s a).freeCtr = s.freeCtr ∧
    (State.zeroOrigin s a).coreTicks = s.coreTicks ∧
    (State.zeroOrigin s a).params = s.params ∧
    (State.zeroOrigin s a).cyc = s.cyc ∧
    (State.zeroOrigin s a).boot = s.boot ∧
    (State.zeroOrigin s a).ports = s.ports ∧
    (State.zeroOrigin s a).segs = s.segs ∧
    (State.zeroOrigin s a).opening = s.opening ∧
    (State.zeroOrigin s a).fbs = s.fbs ∧
    (State.zeroOrigin s a).axes = s.axes ∧
    (State.zeroOrigin s a).steps = s.steps ∧
    (State.zeroOrigin s a).line = s.line ∧
    (State.zeroOrigin s a).moves = s.moves ∧
    (State.zeroOrigin s a).arb = s.arb ∧
    (State.zeroOrigin s a).groups = s.groups ∧
    (State.zeroOrigin s a).saf = s.saf ∧
    (State.zeroOrigin s a).die = s.die ∧
    (State.zeroOrigin s a).fld = s.fld ∧
    (State.zeroOrigin s a).twin = s.twin ∧
    (State.zeroOrigin s a).scs = s.scs ∧
    (State.zeroOrigin s a).time = s.time ∧
    (State.zeroOrigin s a).host = s.host := by
  generalize hT : State.zeroOrigin s a = res
  unfold State.zeroOrigin at hT
  try dsimp only at hT
  repeat' split at hT
  all_goals subst hT
  all_goals (try simp)
  all_goals (repeat' split)
  all_goals (try simp)

@[simp] theorem State.zeroOrigin_idents (s : State) (a : Nat) : (State.zeroOrigin s a).idents = s.idents := State.idents_eq _ _ (by simp)

@[simp] theorem State.axisChain_frame (s : State) (e a : Nat) (t : ReadyTask) :
    (State.axisChain s e a t).pending = s.pending ∧
    (State.axisChain s e a t).freeCtr = s.freeCtr ∧
    (State.axisChain s e a t).coreTicks = s.coreTicks ∧
    (State.axisChain s e a t).params = s.params ∧
    (State.axisChain s e a t).cyc = s.cyc ∧
    (State.axisChain s e a t).boot = s.boot ∧
    (State.axisChain s e a t).ports = s.ports ∧
    (State.axisChain s e a t).segs = s.segs ∧
    (State.axisChain s e a t).opening = s.opening ∧
    (State.axisChain s e a t).fbs = s.fbs ∧
    (State.axisChain s e a t).steps = s.steps ∧
    (State.axisChain s e a t).line = s.line ∧
    (State.axisChain s e a t).moves = s.moves ∧
    (State.axisChain s e a t).arb = s.arb ∧
    (State.axisChain s e a t).saf = s.saf ∧
    (State.axisChain s e a t).die = s.die ∧
    (State.axisChain s e a t).fld = s.fld ∧
    (State.axisChain s e a t).twin = s.twin ∧
    (State.axisChain s e a t).scs = s.scs ∧
    (State.axisChain s e a t).time = s.time ∧
    (State.axisChain s e a t).host.keys = s.host.keys ∧
    (State.axisChain s e a t).host.parQueue = s.host.parQueue := by
  generalize hT : State.axisChain s e a t = res
  unfold State.axisChain at hT
  try dsimp only at hT
  repeat' split at hT
  all_goals subst hT
  all_goals (try simp)
  all_goals (repeat' split)
  all_goals (try simp)

@[simp] theorem State.axisChain_idents (s : State) (e a : Nat) (t : ReadyTask) : (State.axisChain s e a t).idents = s.idents := by
  generalize hT : State.axisChain s e a t = res
  unfold State.axisChain at hT
  try dsimp only at hT
  repeat' split at hT
  all_goals subst hT
  all_goals (try simp)
  all_goals (repeat' split)
  all_goals (try simp)
  all_goals (try rfl)
  all_goals (try exact State.idents_eq _ _ (by simp))
  all_goals (try simp [Session.ident])
  all_goals (try simp [Session.ident, State.session])
  all_goals (try simp [State.idents, State.session, Session.ident])

@[simp] theorem State.lineObserve_frame (s : State) (t : ReadyTask) :
    (State.lineObserve s t).pending = s.pending ∧
    (State.lineObserve s t).out = s.out ∧
    (State.lineObserve s t).freeCtr = s.freeCtr ∧
    (State.lineObserve s t).coreTicks = s.coreTicks ∧
    (State.lineObserve s t).params = s.params ∧
    (State.lineObserve s t).cyc = s.cyc ∧
    (State.lineObserve s t).boot = s.boot ∧
    (State.lineObserve s t).ports = s.ports ∧
    (State.lineObserve s t).segs = s.segs ∧
    (State.lineObserve s t).opening = s.opening ∧
    (State.lineObserve s t).fbs = s.fbs ∧
    (State.lineObserve s t).axes = s.axes ∧
    (State.lineObserve s t).steps = s.steps ∧
    (State.lineObserve s t).moves = s.moves ∧
    (State.lineObserve s t).arb = s.arb ∧
    (State.lineObserve s t).groups = s.groups ∧
    (State.lineObserve s t).eng = s.eng ∧
    (State.lineObserve s t).saf = s.saf ∧
    (State.lineObserve s t).die = s.die ∧
    (State.lineObserve s t).fld = s.fld ∧
    (State.lineObserve s t).twin = s.twin ∧
    (State.lineObserve s t).scs = s.scs ∧
    (State.lineObserve s t).time = s.time ∧
    (State.lineObserve s t).host = s.host := by
  generalize hT : State.lineObserve s t = res
  unfold State.lineObserve at hT
  try dsimp only at hT
  repeat' split at hT
  all_goals subst hT
  all_goals (try simp)
  all_goals (repeat' split)
  all_goals (try simp)

@[simp] theorem State.lineObserve_idents (s : State) (t : ReadyTask) : (State.lineObserve s t).idents = s.idents := State.idents_eq _ _ (by simp)

@[simp] theorem State.startTask_frame (s : State) (e : Nat) (t : ReadyTask) :
    (State.startTask s e t).pending = s.pending ∧
    (State.startTask s e t).coreTicks = s.coreTicks ∧
    (State.startTask s e t).params = s.params ∧
    (State.startTask s e t).cyc = s.cyc ∧
    (State.startTask s e t).boot = s.boot ∧
    (State.startTask s e t).ports = s.ports ∧
    (State.startTask s e t).segs = s.segs ∧
    (State.startTask s e t).opening = s.opening ∧
    (State.startTask s e t).fbs = s.fbs ∧
    (State.startTask s e t).steps = s.steps ∧
    (State.startTask s e t).moves = s.moves ∧
    (State.startTask s e t).arb = s.arb ∧
    (State.startTask s e t).saf = s.saf ∧
    (State.startTask s e t).die = s.die ∧
    (State.startTask s e t).fld = s.fld ∧
    (State.startTask s e t).twin = s.twin ∧
    (State.startTask s e t).scs = s.scs ∧
    (State.startTask s e t).time = s.time ∧
    (State.startTask s e t).host.keys = s.host.keys ∧
    (State.startTask s e t).host.parQueue = s.host.parQueue := by
  generalize hT : State.startTask s e t = res
  unfold State.startTask at hT
  try dsimp only at hT
  repeat' split at hT
  all_goals subst hT
  all_goals (try simp)
  all_goals (repeat' split)
  all_goals (try simp)

@[simp] theorem State.startTask_idents (s : State) (e : Nat) (t : ReadyTask) : (State.startTask s e t).idents = s.idents := by
  generalize hT : State.startTask s e t = res
  unfold State.startTask at hT
  try dsimp only at hT
  repeat' split at hT
  all_goals subst hT
  all_goals (try simp)
  all_goals (repeat' split)
  all_goals (try simp)
  all_goals (try rfl)
  all_goals (try exact State.idents_eq _ _ (by simp))
  all_goals (try simp [Session.ident])
  all_goals (try simp [Session.ident, State.session])
  all_goals (try simp [State.idents, State.session, Session.ident])

end Sys2Proof.Machine
end

