-- ==== Sys2Proof/Laws/FrameTask.lean ====
section
/-! SUPPORT. What the operations of Machine/Task.lean leave unchanged: one rule per operation. -/

namespace Sys2Proof.Machine

@[simp] theorem State.takeFbk_frame (s : State) (a : Nat) (f : FbkLast) :
    (State.takeFbk s a f).pending = s.pending ∧
    (State.takeFbk s a f).freeCtr = s.freeCtr ∧
    (State.takeFbk s a f).coreTicks = s.coreTicks ∧
    (State.takeFbk s a f).params = s.params ∧
    (State.takeFbk s a f).cyc = s.cyc ∧
    (State.takeFbk s a f).boot = s.boot ∧
    (State.takeFbk s a f).ports = s.ports ∧
    (State.takeFbk s a f).segs = s.segs ∧
    (State.takeFbk s a f).opening = s.opening ∧
    (State.takeFbk s a f).fbs = s.fbs ∧
    (State.takeFbk s a f).steps = s.steps ∧
    (State.takeFbk s a f).line = s.line ∧
    (State.takeFbk s a f).moves = s.moves ∧
    (State.takeFbk s a f).arb = s.arb ∧
    (State.takeFbk s a f).groups = s.groups ∧
    (State.takeFbk s a f).eng = s.eng ∧
    (State.takeFbk s a f).die = s.die ∧
    (State.takeFbk s a f).fld = s.fld ∧
    (State.takeFbk s a f).twin = s.twin ∧
    (State.takeFbk s a f).scs = s.scs ∧
    (State.takeFbk s a f).time = s.time ∧
    (State.takeFbk s a f).saf.endgame = s.saf.endgame ∧
    (State.takeFbk s a f).saf.silent = s.saf.silent ∧
    (State.takeFbk s a f).host.keys = s.host.keys ∧
    (State.takeFbk s a f).host.parQueue = s.host.parQueue := by
  generalize hT : State.takeFbk s a f = res
  unfold State.takeFbk at hT
  try dsimp only at hT
  repeat' split at hT
  all_goals subst hT
  all_goals (try simp)
  all_goals (repeat' split)
  all_goals (try simp)

@[simp] theorem State.takeFbk_idents (s : State) (a : Nat) (f : FbkLast) : (State.takeFbk s a f).idents = s.idents := by
  generalize hT : State.takeFbk s a f = res
  unfold State.takeFbk at hT
  try dsimp only at hT
  repeat' split at hT
  all_goals subst hT
  all_goals (try simp)
  all_goals (repeat' split)
  all_goals (try simp)
  all_goals (try rfl)
  all_goals (try exact State.idents_eq _ _ (by simp))
  all_goals (try simp [Session.ident])
  all_goals (try simp [Session.ident, State.session])
  all_goals (try simp [State.idents, State.session, Session.ident])

@[simp] theorem State.captureLineOfs_frame (s : State) :
    (State.captureLineOfs s).pending = s.pending ∧
    (State.captureLineOfs s).out = s.out ∧
    (State.captureLineOfs s).freeCtr = s.freeCtr ∧
    (State.captureLineOfs s).coreTicks = s.coreTicks ∧
    (State.captureLineOfs s).params = s.params ∧
    (State.captureLineOfs s).cyc = s.cyc ∧
    (State.captureLineOfs s).boot = s.boot ∧
    (State.captureLineOfs s).ports = s.ports ∧
    (State.captureLineOfs s).segs = s.segs ∧
    (State.captureLineOfs s).opening = s.opening ∧
    (State.captureLineOfs s).fbs = s.fbs ∧
    (State.captureLineOfs s).axes = s.axes ∧
    (State.captureLineOfs s).steps = s.steps ∧
    (State.captureLineOfs s).moves = s.moves ∧
    (State.captureLineOfs s).arb = s.arb ∧
    (State.captureLineOfs s).groups = s.groups ∧
    (State.captureLineOfs s).eng = s.eng ∧
    (State.captureLineOfs s).saf = s.saf ∧
    (State.captureLineOfs s).die = s.die ∧
    (State.captureLineOfs s).fld = s.fld ∧
    (State.captureLineOfs s).twin = s.twin ∧
    (State.captureLineOfs s).scs = s.scs ∧
    (State.captureLineOfs s).time = s.time ∧
    (State.captureLineOfs s).host = s.host := by
  generalize hT : State.captureLineOfs s = res
  unfold State.captureLineOfs at hT
  try dsimp only at hT
  repeat' split at hT
  all_goals subst hT
  all_goals (try simp)
  all_goals (repeat' split)
  all_goals (try simp)

@[simp] theorem State.captureLineOfs_idents (s : State) : (State.captureLineOfs s).idents = s.idents := State.idents_eq _ _ (by simp)

@[simp] theorem State.lineW1c_frame (s : State) (mask : Nat) :
    (State.lineW1c s mask).pending = s.pending ∧
    (State.lineW1c s mask).out = s.out ∧
    (State.lineW1c s mask).freeCtr = s.freeCtr ∧
    (State.lineW1c s mask).coreTicks = s.coreTicks ∧
    (State.lineW1c s mask).params = s.params ∧
    (State.lineW1c s mask).cyc = s.cyc ∧
    (State.lineW1c s mask).boot = s.boot ∧
    (State.lineW1c s mask).ports = s.ports ∧
    (State.lineW1c s mask).segs = s.segs ∧
    (State.lineW1c s mask).opening = s.opening ∧
    (State.lineW1c s mask).fbs = s.fbs ∧
    (State.lineW1c s mask).axes = s.axes ∧
    (State.lineW1c s mask).steps = s.steps ∧
    (State.lineW1c s mask).moves = s.moves ∧
    (State.lineW1c s mask).arb = s.arb ∧
    (State.lineW1c s mask).groups = s.groups ∧
    (State.lineW1c s mask).eng = s.eng ∧
    (State.lineW1c s mask).saf = s.saf ∧
    (State.lineW1c s mask).die = s.die ∧
    (State.lineW1c s mask).fld = s.fld ∧
    (State.lineW1c s mask).twin = s.twin ∧
    (State.lineW1c s mask).scs = s.scs ∧
    (State.lineW1c s mask).time = s.time ∧
    (State.lineW1c s mask).host = s.host := by
  generalize hT : State.lineW1c s mask = res
  unfold State.lineW1c at hT
  try dsimp only at hT
  repeat' split at hT
  all_goals subst hT
  all_goals (try simp)
  all_goals (repeat' split)
  all_goals (try simp)

@[simp] theorem State.lineW1c_idents (s : State) (mask : Nat) : (State.lineW1c s mask).idents = s.idents := State.idents_eq _ _ (by simp)

@[simp] theorem State.fbW1c_frame (s : State) (o : Owner) (mask : Nat) :
    (State.fbW1c s o mask).pending = s.pending ∧
    (State.fbW1c s o mask).out = s.out ∧
    (State.fbW1c s o mask).freeCtr = s.freeCtr ∧
    (State.fbW1c s o mask).coreTicks = s.coreTicks ∧
    (State.fbW1c s o mask).params = s.params ∧
    (State.fbW1c s o mask).cyc = s.cyc ∧
    (State.fbW1c s o mask).boot = s.boot ∧
    (State.fbW1c s o mask).ports = s.ports ∧
    (State.fbW1c s o mask).segs = s.segs ∧
    (State.fbW1c s o mask).opening = s.opening ∧
    (State.fbW1c s o mask).steps = s.steps ∧
    (State.fbW1c s o mask).moves = s.moves ∧
    (State.fbW1c s o mask).arb = s.arb ∧
    (State.fbW1c s o mask).groups = s.groups ∧
    (State.fbW1c s o mask).eng = s.eng ∧
    (State.fbW1c s o mask).saf = s.saf ∧
    (State.fbW1c s o mask).die = s.die ∧
    (State.fbW1c s o mask).fld = s.fld ∧
    (State.fbW1c s o mask).twin = s.twin ∧
    (State.fbW1c s o mask).scs = s.scs ∧
    (State.fbW1c s o mask).time = s.time ∧
    (State.fbW1c s o mask).host = s.host := by
  generalize hT : State.fbW1c s o mask = res
  unfold State.fbW1c at hT
  try dsimp only at hT
  repeat' split at hT
  all_goals subst hT
  all_goals (try simp)
  all_goals (repeat' split)
  all_goals (try simp)

@[simp] theorem State.fbW1c_idents (s : State) (o : Owner) (mask : Nat) : (State.fbW1c s o mask).idents = s.idents := State.idents_eq _ _ (by simp)

end Sys2Proof.Machine
end

