-- ==== Sys2Proof/Laws/FrameAxisLife.lean ====
section
/-! SUPPORT. What the operations of Machine/AxisLife.lean leave unchanged: one rule per operation. -/

namespace Sys2Proof.Machine

@[simp] theorem State.beginEnable_frame (s : State) (a : Nat) (c : Option CmdCtx) :
    (State.beginEnable s a c).pending = s.pending ∧
    (State.beginEnable s a c).freeCtr = s.freeCtr ∧
    (State.beginEnable s a c).coreTicks = s.coreTicks ∧
    (State.beginEnable s a c).params = s.params ∧
    (State.beginEnable s a c).cyc = s.cyc ∧
    (State.beginEnable s a c).boot = s.boot ∧
    (State.beginEnable s a c).ports = s.ports ∧
    (State.beginEnable s a c).segs = s.segs ∧
    (State.beginEnable s a c).opening = s.opening ∧
    (State.beginEnable s a c).fbs = s.fbs ∧
    (State.beginEnable s a c).steps = s.steps ∧
    (State.beginEnable s a c).line = s.line ∧
    (State.beginEnable s a c).moves = s.moves ∧
    (State.beginEnable s a c).arb = s.arb ∧
    (State.beginEnable s a c).groups = s.groups ∧
    (State.beginEnable s a c).eng = s.eng ∧
    (State.beginEnable s a c).saf = s.saf ∧
    (State.beginEnable s a c).die = s.die ∧
    (State.beginEnable s a c).fld = s.fld ∧
    (State.beginEnable s a c).twin = s.twin ∧
    (State.beginEnable s a c).scs = s.scs ∧
    (State.beginEnable s a c).time = s.time ∧
    (State.beginEnable s a c).host.keys = s.host.keys ∧
    (State.beginEnable s a c).host.parQueue = s.host.parQueue := by
  generalize hT : State.beginEnable s a c = res
  unfold State.beginEnable at hT
  try dsimp only at hT
  repeat' split at hT
  all_goals subst hT
  all_goals (try simp)
  all_goals (repeat' split)
  all_goals (try simp)

@[simp] theorem State.beginEnable_idents (s : State) (a : Nat) (c : Option CmdCtx) : (State.beginEnable s a c).idents = s.idents := by
  generalize hT : State.beginEnable s a c = res
  unfold State.beginEnable at hT
  try dsimp only at hT
  repeat' split at hT
  all_goals subst hT
  all_goals (try simp)
  all_goals (repeat' split)
  all_goals (try simp)
  all_goals (try rfl)
  all_goals (try exact State.idents_eq _ _ (by simp))
  all_goals (try simp [Session.ident])
  all_goals (try simp [Session.ident, State.session])
  all_goals (try simp [State.idents, State.session, Session.ident])

@[simp] theorem State.noteEnable_frame (s : State) (a : Nat) :
    (State.noteEnable s a).pending = s.pending ∧
    (State.noteEnable s a).out = s.out ∧
    (State.noteEnable s a).freeCtr = s.freeCtr ∧
    (State.noteEnable s a).coreTicks = s.coreTicks ∧
    (State.noteEnable s a).params = s.params ∧
    (State.noteEnable s a).cyc = s.cyc ∧
    (State.noteEnable s a).boot = s.boot ∧
    (State.noteEnable s a).ports = s.ports ∧
    (State.noteEnable s a).segs = s.segs ∧
    (State.noteEnable s a).opening = s.opening ∧
    (State.noteEnable s a).fbs = s.fbs ∧
    (State.noteEnable s a).steps = s.steps ∧
    (State.noteEnable s a).line = s.line ∧
    (State.noteEnable s a).moves = s.moves ∧
    (State.noteEnable s a).arb = s.arb ∧
    (State.noteEnable s a).groups = s.groups ∧
    (State.noteEnable s a).eng = s.eng ∧
    (State.noteEnable s a).saf = s.saf ∧
    (State.noteEnable s a).die = s.die ∧
    (State.noteEnable s a).fld = s.fld ∧
    (State.noteEnable s a).twin = s.twin ∧
    (State.noteEnable s a).scs = s.scs ∧
    (State.noteEnable s a).time = s.time ∧
    (State.noteEnable s a).host = s.host := by
  generalize hT : State.noteEnable s a = res
  unfold State.noteEnable at hT
  try dsimp only at hT
  repeat' split at hT
  all_goals subst hT
  all_goals (try simp)
  all_goals (repeat' split)
  all_goals (try simp)

@[simp] theorem State.noteEnable_idents (s : State) (a : Nat) : (State.noteEnable s a).idents = s.idents := State.idents_eq _ _ (by simp)

@[simp] theorem State.heldOutcome_frame (s : State) (c : CmdCtx) (op inst outcome status : Nat) :
    (State.heldOutcome s c op inst outcome status).pending = s.pending ∧
    (State.heldOutcome s c op inst outcome status).freeCtr = s.freeCtr ∧
    (State.heldOutcome s c op inst outcome status).coreTicks = s.coreTicks ∧
    (State.heldOutcome s c op inst outcome status).params = s.params ∧
    (State.heldOutcome s c op inst outcome status).cyc = s.cyc ∧
    (State.heldOutcome s c op inst outcome status).boot = s.boot ∧
    (State.heldOutcome s c op inst outcome status).ports = s.ports ∧
    (State.heldOutcome s c op inst outcome status).segs = s.segs ∧
    (State.heldOutcome s c op inst outcome status).opening = s.opening ∧
    (State.heldOutcome s c op inst outcome status).fbs = s.fbs ∧
    (State.heldOutcome s c op inst outcome status).axes = s.axes ∧
    (State.heldOutcome s c op inst outcome status).steps = s.steps ∧
    (State.heldOutcome s c op inst outcome status).line = s.line ∧
    (State.heldOutcome s c op inst outcome status).moves = s.moves ∧
    (State.heldOutcome s c op inst outcome status).arb = s.arb ∧
    (State.heldOutcome s c op inst outcome status).groups = s.groups ∧
    (State.heldOutcome s c op inst outcome status).eng = s.eng ∧
    (State.heldOutcome s c op inst outcome status).saf = s.saf ∧
    (State.heldOutcome s c op inst outcome status).die = s.die ∧
    (State.heldOutcome s c op inst outcome status).fld = s.fld ∧
    (State.heldOutcome s c op inst outcome status).twin = s.twin ∧
    (State.heldOutcome s c op inst outcome status).scs = s.scs ∧
    (State.heldOutcome s c op inst outcome status).time = s.time ∧
    (State.heldOutcome s c op inst outcome status).host.keys = s.host.keys ∧
    (State.heldOutcome s c op inst outcome status).host.parQueue = s.host.parQueue := by
  generalize hT : State.heldOutcome s c op inst outcome status = res
  unfold State.heldOutcome at hT
  try dsimp only at hT
  repeat' split at hT
  all_goals subst hT
  all_goals (try simp)
  all_goals (repeat' split)
  all_goals (try simp)

@[simp] theorem State.heldOutcome_idents (s : State) (c : CmdCtx) (op inst outcome status : Nat) : (State.heldOutcome s c op inst outcome status).idents = s.idents := by
  generalize hT : State.heldOutcome s c op inst outcome status = res
  unfold State.heldOutcome at hT
  try dsimp only at hT
  repeat' split at hT
  all_goals subst hT
  all_goals (try simp)
  all_goals (repeat' split)
  all_goals (try simp)
  all_goals (try rfl)
  all_goals (try exact State.idents_eq _ _ (by simp))
  all_goals (try simp [Session.ident])
  all_goals (try simp [Session.ident, State.session])
  all_goals (try simp [State.idents, State.session, Session.ident])

@[simp] theorem State.stepTake_frame (s : State) (k n : Nat) :
    (State.stepTake s k n).pending = s.pending ∧
    (State.stepTake s k n).out = s.out ∧
    (State.stepTake s k n).freeCtr = s.freeCtr ∧
    (State.stepTake s k n).coreTicks = s.coreTicks ∧
    (State.stepTake s k n).params = s.params ∧
    (State.stepTake s k n).cyc = s.cyc ∧
    (State.stepTake s k n).boot = s.boot ∧
    (State.stepTake s k n).ports = s.ports ∧
    (State.stepTake s k n).segs = s.segs ∧
    (State.stepTake s k n).opening = s.opening ∧
    (State.stepTake s k n).fbs = s.fbs ∧
    (State.stepTake s k n).line = s.line ∧
    (State.stepTake s k n).moves = s.moves ∧
    (State.stepTake s k n).arb = s.arb ∧
    (State.stepTake s k n).groups = s.groups ∧
    (State.stepTake s k n).eng = s.eng ∧
    (State.stepTake s k n).saf = s.saf ∧
    (State.stepTake s k n).die = s.die ∧
    (State.stepTake s k n).fld = s.fld ∧
    (State.stepTake s k n).twin = s.twin ∧
    (State.stepTake s k n).scs = s.scs ∧
    (State.stepTake s k n).time = s.time ∧
    (State.stepTake s k n).host = s.host := by
  generalize hT : State.stepTake s k n = res
  unfold State.stepTake at hT
  try dsimp only at hT
  repeat' split at hT
  all_goals subst hT
  all_goals (try simp)
  all_goals (repeat' split)
  all_goals (try simp)

@[simp] theorem State.stepTake_idents (s : State) (k n : Nat) : (State.stepTake s k n).idents = s.idents := State.idents_eq _ _ (by simp)

@[simp] theorem State.dropStepQueue_frame (mask : Nat) (s : State) (n : Nat) :
    (State.dropStepQueue mask s n).pending = s.pending ∧
    (State.dropStepQueue mask s n).out = s.out ∧
    (State.dropStepQueue mask s n).freeCtr = s.freeCtr ∧
    (State.dropStepQueue mask s n).coreTicks = s.coreTicks ∧
    (State.dropStepQueue mask s n).params = s.params ∧
    (State.dropStepQueue mask s n).cyc = s.cyc ∧
    (State.dropStepQueue mask s n).boot = s.boot ∧
    (State.dropStepQueue mask s n).ports = s.ports ∧
    (State.dropStepQueue mask s n).segs = s.segs ∧
    (State.dropStepQueue mask s n).opening = s.opening ∧
    (State.dropStepQueue mask s n).fbs = s.fbs ∧
    (State.dropStepQueue mask s n).axes = s.axes ∧
    (State.dropStepQueue mask s n).line = s.line ∧
    (State.dropStepQueue mask s n).moves = s.moves ∧
    (State.dropStepQueue mask s n).arb = s.arb ∧
    (State.dropStepQueue mask s n).groups = s.groups ∧
    (State.dropStepQueue mask s n).eng = s.eng ∧
    (State.dropStepQueue mask s n).saf = s.saf ∧
    (State.dropStepQueue mask s n).die = s.die ∧
    (State.dropStepQueue mask s n).fld = s.fld ∧
    (State.dropStepQueue mask s n).twin = s.twin ∧
    (State.dropStepQueue mask s n).scs = s.scs ∧
    (State.dropStepQueue mask s n).time = s.time ∧
    (State.dropStepQueue mask s n).host = s.host := by
  generalize hT : State.dropStepQueue mask s n = res
  unfold State.dropStepQueue at hT
  try dsimp only at hT
  repeat' split at hT
  all_goals subst hT
  all_goals (try simp)
  all_goals (repeat' split)
  all_goals (try simp)

@[simp] theorem State.dropStepQueue_idents (mask : Nat) (s : State) (n : Nat) : (State.dropStepQueue mask s n).idents = s.idents := State.idents_eq _ _ (by simp)

@[simp] theorem State.dropStepQueues_frame (s : State) (mask : Nat) :
    (State.dropStepQueues s mask).pending = s.pending ∧
    (State.dropStepQueues s mask).out = s.out ∧
    (State.dropStepQueues s mask).freeCtr = s.freeCtr ∧
    (State.dropStepQueues s mask).coreTicks = s.coreTicks ∧
    (State.dropStepQueues s mask).params = s.params ∧
    (State.dropStepQueues s mask).cyc = s.cyc ∧
    (State.dropStepQueues s mask).boot = s.boot ∧
    (State.dropStepQueues s mask).ports = s.ports ∧
    (State.dropStepQueues s mask).segs = s.segs ∧
    (State.dropStepQueues s mask).opening = s.opening ∧
    (State.dropStepQueues s mask).fbs = s.fbs ∧
    (State.dropStepQueues s mask).axes = s.axes ∧
    (State.dropStepQueues s mask).line = s.line ∧
    (State.dropStepQueues s mask).moves = s.moves ∧
    (State.dropStepQueues s mask).arb = s.arb ∧
    (State.dropStepQueues s mask).groups = s.groups ∧
    (State.dropStepQueues s mask).eng = s.eng ∧
    (State.dropStepQueues s mask).saf = s.saf ∧
    (State.dropStepQueues s mask).die = s.die ∧
    (State.dropStepQueues s mask).fld = s.fld ∧
    (State.dropStepQueues s mask).twin = s.twin ∧
    (State.dropStepQueues s mask).scs = s.scs ∧
    (State.dropStepQueues s mask).time = s.time ∧
    (State.dropStepQueues s mask).host = s.host := by
  generalize hT : State.dropStepQueues s mask = res
  unfold State.dropStepQueues at hT
  try dsimp only at hT
  repeat' split at hT
  all_goals subst hT
  all_goals (try simp)
  all_goals (repeat' split)
  all_goals (try simp)

@[simp] theorem State.dropStepQueues_idents (s : State) (mask : Nat) : (State.dropStepQueues s mask).idents = s.idents := State.idents_eq _ _ (by simp)

@[simp] theorem State.queueStep_frame (s : State) (n : Nat) (r : RefEntry) :
    (State.queueStep s n r).pending = s.pending ∧
    (State.queueStep s n r).out = s.out ∧
    (State.queueStep s n r).freeCtr = s.freeCtr ∧
    (State.queueStep s n r).coreTicks = s.coreTicks ∧
    (State.queueStep s n r).params = s.params ∧
    (State.queueStep s n r).cyc = s.cyc ∧
    (State.queueStep s n r).boot = s.boot ∧
    (State.queueStep s n r).ports = s.ports ∧
    (State.queueStep s n r).segs = s.segs ∧
    (State.queueStep s n r).opening = s.opening ∧
    (State.queueStep s n r).fbs = s.fbs ∧
    (State.queueStep s n r).axes = s.axes ∧
    (State.queueStep s n r).line = s.line ∧
    (State.queueStep s n r).moves = s.moves ∧
    (State.queueStep s n r).arb = s.arb ∧
    (State.queueStep s n r).groups = s.groups ∧
    (State.queueStep s n r).eng = s.eng ∧
    (State.queueStep s n r).saf = s.saf ∧
    (State.queueStep s n r).die = s.die ∧
    (State.queueStep s n r).fld = s.fld ∧
    (State.queueStep s n r).twin = s.twin ∧
    (State.queueStep s n r).scs = s.scs ∧
    (State.queueStep s n r).time = s.time ∧
    (State.queueStep s n r).host = s.host := by
  generalize hT : State.queueStep s n r = res
  unfold State.queueStep at hT
  try dsimp only at hT
  repeat' split at hT
  all_goals subst hT
  all_goals (try simp)
  all_goals (repeat' split)
  all_goals (try simp)

@[simp] theorem State.queueStep_idents (s : State) (n : Nat) (r : RefEntry) : (State.queueStep s n r).idents = s.idents := State.idents_eq _ _ (by simp)

end Sys2Proof.Machine
end

