-- ==== Sys2Proof/Laws/FrameNetOps.lean ====
section
/-! SUPPORT. What the operations of Machine/NetOps.lean leave unchanged: one rule per operation. -/

namespace Sys2Proof.Machine

@[simp] theorem State.setTiming_frame (s : State) (a : Nat) :
    (State.setTiming s a).pending = s.pending ∧
    (State.setTiming s a).out = s.out ∧
    (State.setTiming s a).freeCtr = s.freeCtr ∧
    (State.setTiming s a).coreTicks = s.coreTicks ∧
    (State.setTiming s a).params = s.params ∧
    (State.setTiming s a).cyc = s.cyc ∧
    (State.setTiming s a).boot = s.boot ∧
    (State.setTiming s a).ports = s.ports ∧
    (State.setTiming s a).segs = s.segs ∧
    (State.setTiming s a).opening = s.opening ∧
    (State.setTiming s a).fbs = s.fbs ∧
    (State.setTiming s a).steps = s.steps ∧
    (State.setTiming s a).line = s.line ∧
    (State.setTiming s a).moves = s.moves ∧
    (State.setTiming s a).arb = s.arb ∧
    (State.setTiming s a).groups = s.groups ∧
    (State.setTiming s a).eng = s.eng ∧
    (State.setTiming s a).saf = s.saf ∧
    (State.setTiming s a).die = s.die ∧
    (State.setTiming s a).fld = s.fld ∧
    (State.setTiming s a).twin = s.twin ∧
    (State.setTiming s a).scs = s.scs ∧
    (State.setTiming s a).time = s.time ∧
    (State.setTiming s a).host = s.host := by
  generalize hT : State.setTiming s a = res
  unfold State.setTiming at hT
  try dsimp only at hT
  repeat' split at hT
  all_goals subst hT
  all_goals (try simp)
  all_goals (repeat' split)
  all_goals (try simp)

@[simp] theorem State.setTiming_idents (s : State) (a : Nat) : (State.setTiming s a).idents = s.idents := State.idents_eq _ _ (by simp)

@[simp] theorem State.setTimings_frame (s : State) :
    (State.setTimings s).pending = s.pending ∧
    (State.setTimings s).out = s.out ∧
    (State.setTimings s).freeCtr = s.freeCtr ∧
    (State.setTimings s).coreTicks = s.coreTicks ∧
    (State.setTimings s).params = s.params ∧
    (State.setTimings s).cyc = s.cyc ∧
    (State.setTimings s).boot = s.boot ∧
    (State.setTimings s).ports = s.ports ∧
    (State.setTimings s).segs = s.segs ∧
    (State.setTimings s).opening = s.opening ∧
    (State.setTimings s).fbs = s.fbs ∧
    (State.setTimings s).steps = s.steps ∧
    (State.setTimings s).line = s.line ∧
    (State.setTimings s).moves = s.moves ∧
    (State.setTimings s).arb = s.arb ∧
    (State.setTimings s).groups = s.groups ∧
    (State.setTimings s).eng = s.eng ∧
    (State.setTimings s).saf = s.saf ∧
    (State.setTimings s).die = s.die ∧
    (State.setTimings s).fld = s.fld ∧
    (State.setTimings s).twin = s.twin ∧
    (State.setTimings s).scs = s.scs ∧
    (State.setTimings s).time = s.time ∧
    (State.setTimings s).host = s.host := by
  generalize hT : State.setTimings s = res
  unfold State.setTimings at hT
  try dsimp only at hT
  repeat' split at hT
  all_goals subst hT
  all_goals (try simp)
  all_goals (repeat' split)
  all_goals (try simp)

@[simp] theorem State.setTimings_idents (s : State) : (State.setTimings s).idents = s.idents := State.idents_eq _ _ (by simp)

@[simp] theorem State.markFoldLate_frame (s : State) :
    (State.markFoldLate s).pending = s.pending ∧
    (State.markFoldLate s).freeCtr = s.freeCtr ∧
    (State.markFoldLate s).coreTicks = s.coreTicks ∧
    (State.markFoldLate s).params = s.params ∧
    (State.markFoldLate s).cyc = s.cyc ∧
    (State.markFoldLate s).boot = s.boot ∧
    (State.markFoldLate s).ports = s.ports ∧
    (State.markFoldLate s).segs = s.segs ∧
    (State.markFoldLate s).opening = s.opening ∧
    (State.markFoldLate s).fbs = s.fbs ∧
    (State.markFoldLate s).steps = s.steps ∧
    (State.markFoldLate s).line = s.line ∧
    (State.markFoldLate s).moves = s.moves ∧
    (State.markFoldLate s).arb = s.arb ∧
    (State.markFoldLate s).groups = s.groups ∧
    (State.markFoldLate s).eng = s.eng ∧
    (State.markFoldLate s).saf = s.saf ∧
    (State.markFoldLate s).die = s.die ∧
    (State.markFoldLate s).fld = s.fld ∧
    (State.markFoldLate s).twin = s.twin ∧
    (State.markFoldLate s).scs = s.scs ∧
    (State.markFoldLate s).time = s.time ∧
    (State.markFoldLate s).host.keys = s.host.keys ∧
    (State.markFoldLate s).host.parQueue = s.host.parQueue := by
  generalize hT : State.markFoldLate s = res
  unfold State.markFoldLate at hT
  try dsimp only at hT
  repeat' split at hT
  all_goals subst hT
  all_goals (try simp)
  all_goals (repeat' split)
  all_goals (try simp)

@[simp] theorem State.markFoldLate_idents (s : State) : (State.markFoldLate s).idents = s.idents := by
  generalize hT : State.markFoldLate s = res
  unfold State.markFoldLate at hT
  try dsimp only at hT
  repeat' split at hT
  all_goals subst hT
  all_goals (try simp)
  all_goals (repeat' split)
  all_goals (try simp)
  all_goals (try rfl)
  all_goals (try exact State.idents_eq _ _ (by simp))
  all_goals (try simp [Session.ident])
  all_goals (try simp [Session.ident, State.session])
  all_goals (try simp [State.idents, State.session, Session.ident])

@[simp] theorem State.planned_frame (s : State) :
    (State.planned s).pending = s.pending ∧
    (State.planned s).out = s.out ∧
    (State.planned s).freeCtr = s.freeCtr ∧
    (State.planned s).coreTicks = s.coreTicks ∧
    (State.planned s).cyc = s.cyc ∧
    (State.planned s).boot = s.boot ∧
    (State.planned s).ports = s.ports ∧
    (State.planned s).segs = s.segs ∧
    (State.planned s).opening = s.opening ∧
    (State.planned s).fbs = s.fbs ∧
    (State.planned s).axes = s.axes ∧
    (State.planned s).steps = s.steps ∧
    (State.planned s).line = s.line ∧
    (State.planned s).moves = s.moves ∧
    (State.planned s).arb = s.arb ∧
    (State.planned s).groups = s.groups ∧
    (State.planned s).eng = s.eng ∧
    (State.planned s).saf = s.saf ∧
    (State.planned s).die = s.die ∧
    (State.planned s).fld = s.fld ∧
    (State.planned s).twin = s.twin ∧
    (State.planned s).scs = s.scs ∧
    (State.planned s).time = s.time ∧
    (State.planned s).host = s.host := by
  generalize hT : State.planned s = res
  unfold State.planned at hT
  try dsimp only at hT
  repeat' split at hT
  all_goals subst hT
  all_goals (try simp)
  all_goals (repeat' split)
  all_goals (try simp)

@[simp] theorem State.planned_idents (s : State) : (State.planned s).idents = s.idents := State.idents_eq _ _ (by simp)

@[simp] theorem State.queueSup_frame (s : State) (n : Nat) (pl : List Byte) :
    (State.queueSup s n pl).pending = s.pending ∧
    (State.queueSup s n pl).out = s.out ∧
    (State.queueSup s n pl).freeCtr = s.freeCtr ∧
    (State.queueSup s n pl).coreTicks = s.coreTicks ∧
    (State.queueSup s n pl).params = s.params ∧
    (State.queueSup s n pl).cyc = s.cyc ∧
    (State.queueSup s n pl).boot = s.boot ∧
    (State.queueSup s n pl).ports = s.ports ∧
    (State.queueSup s n pl).opening = s.opening ∧
    (State.queueSup s n pl).fbs = s.fbs ∧
    (State.queueSup s n pl).axes = s.axes ∧
    (State.queueSup s n pl).steps = s.steps ∧
    (State.queueSup s n pl).line = s.line ∧
    (State.queueSup s n pl).moves = s.moves ∧
    (State.queueSup s n pl).arb = s.arb ∧
    (State.queueSup s n pl).groups = s.groups ∧
    (State.queueSup s n pl).eng = s.eng ∧
    (State.queueSup s n pl).saf = s.saf ∧
    (State.queueSup s n pl).die = s.die ∧
    (State.queueSup s n pl).fld = s.fld ∧
    (State.queueSup s n pl).twin = s.twin ∧
    (State.queueSup s n pl).scs = s.scs ∧
    (State.queueSup s n pl).time = s.time ∧
    (State.queueSup s n pl).host = s.host := by
  generalize hT : State.queueSup s n pl = res
  unfold State.queueSup at hT
  try dsimp only at hT
  repeat' split at hT
  all_goals subst hT
  all_goals (try simp)
  all_goals (repeat' split)
  all_goals (try simp)

@[simp] theorem State.queueSup_idents (s : State) (n : Nat) (pl : List Byte) : (State.queueSup s n pl).idents = s.idents := State.idents_eq _ _ (by simp)

@[simp] theorem State.queueSupB_frame (s : State) (n : Nat) (pl : List Byte) :
    (State.queueSupB s n pl).pending = s.pending ∧
    (State.queueSupB s n pl).out = s.out ∧
    (State.queueSupB s n pl).freeCtr = s.freeCtr ∧
    (State.queueSupB s n pl).coreTicks = s.coreTicks ∧
    (State.queueSupB s n pl).params = s.params ∧
    (State.queueSupB s n pl).cyc = s.cyc ∧
    (State.queueSupB s n pl).boot = s.boot ∧
    (State.queueSupB s n pl).ports = s.ports ∧
    (State.queueSupB s n pl).opening = s.opening ∧
    (State.queueSupB s n pl).fbs = s.fbs ∧
    (State.queueSupB s n pl).axes = s.axes ∧
    (State.queueSupB s n pl).steps = s.steps ∧
    (State.queueSupB s n pl).line = s.line ∧
    (State.queueSupB s n pl).moves = s.moves ∧
    (State.queueSupB s n pl).arb = s.arb ∧
    (State.queueSupB s n pl).groups = s.groups ∧
    (State.queueSupB s n pl).eng = s.eng ∧
    (State.queueSupB s n pl).saf = s.saf ∧
    (State.queueSupB s n pl).die = s.die ∧
    (State.queueSupB s n pl).fld = s.fld ∧
    (State.queueSupB s n pl).twin = s.twin ∧
    (State.queueSupB s n pl).scs = s.scs ∧
    (State.queueSupB s n pl).time = s.time ∧
    (State.queueSupB s n pl).host = s.host := by
  generalize hT : State.queueSupB s n pl = res
  unfold State.queueSupB at hT
  try dsimp only at hT
  repeat' split at hT
  all_goals subst hT
  all_goals (try simp)
  all_goals (repeat' split)
  all_goals (try simp)

@[simp] theorem State.queueSupB_idents (s : State) (n : Nat) (pl : List Byte) : (State.queueSupB s n pl).idents = s.idents := State.idents_eq _ _ (by simp)

@[simp] theorem State.queueDyn_frame (s : State) (n msg dest : Nat) (data : List Byte) (deferrable : Bool) :
    (State.queueDyn s n msg dest data deferrable).pending = s.pending ∧
    (State.queueDyn s n msg dest data deferrable).out = s.out ∧
    (State.queueDyn s n msg dest data deferrable).freeCtr = s.freeCtr ∧
    (State.queueDyn s n msg dest data deferrable).coreTicks = s.coreTicks ∧
    (State.queueDyn s n msg dest data deferrable).params = s.params ∧
    (State.queueDyn s n msg dest data deferrable).cyc = s.cyc ∧
    (State.queueDyn s n msg dest data deferrable).boot = s.boot ∧
    (State.queueDyn s n msg dest data deferrable).ports = s.ports ∧
    (State.queueDyn s n msg dest data deferrable).opening = s.opening ∧
    (State.queueDyn s n msg dest data deferrable).fbs = s.fbs ∧
    (State.queueDyn s n msg dest data deferrable).axes = s.axes ∧
    (State.queueDyn s n msg dest data deferrable).steps = s.steps ∧
    (State.queueDyn s n msg dest data deferrable).line = s.line ∧
    (State.queueDyn s n msg dest data deferrable).moves = s.moves ∧
    (State.queueDyn s n msg dest data deferrable).arb = s.arb ∧
    (State.queueDyn s n msg dest data deferrable).groups = s.groups ∧
    (State.queueDyn s n msg dest data deferrable).eng = s.eng ∧
    (State.queueDyn s n msg dest data deferrable).saf = s.saf ∧
    (State.queueDyn s n msg dest data deferrable).die = s.die ∧
    (State.queueDyn s n msg dest data deferrable).fld = s.fld ∧
    (State.queueDyn s n msg dest data deferrable).twin = s.twin ∧
    (State.queueDyn s n msg dest data deferrable).scs = s.scs ∧
    (State.queueDyn s n msg dest data deferrable).time = s.time ∧
    (State.queueDyn s n msg dest data deferrable).host = s.host := by
  generalize hT : State.queueDyn s n msg dest data deferrable = res
  unfold State.queueDyn at hT
  try dsimp only at hT
  repeat' split at hT
  all_goals subst hT
  all_goals (try simp)
  all_goals (repeat' split)
  all_goals (try simp)

@[simp] theorem State.queueDyn_idents (s : State) (n msg dest : Nat) (data : List Byte) (deferrable : Bool) : (State.queueDyn s n msg dest data deferrable).idents = s.idents := State.idents_eq _ _ (by simp)

@[simp] theorem State.queueStopGroup_frame (s : State) (n node a op : Nat) :
    (State.queueStopGroup s n node a op).pending = s.pending ∧
    (State.queueStopGroup s n node a op).out = s.out ∧
    (State.queueStopGroup s n node a op).freeCtr = s.freeCtr ∧
    (State.queueStopGroup s n node a op).coreTicks = s.coreTicks ∧
    (State.queueStopGroup s n node a op).params = s.params ∧
    (State.queueStopGroup s n node a op).cyc = s.cyc ∧
    (State.queueStopGroup s n node a op).boot = s.boot ∧
    (State.queueStopGroup s n node a op).ports = s.ports ∧
    (State.queueStopGroup s n node a op).opening = s.opening ∧
    (State.queueStopGroup s n node a op).fbs = s.fbs ∧
    (State.queueStopGroup s n node a op).axes = s.axes ∧
    (State.queueStopGroup s n node a op).steps = s.steps ∧
    (State.queueStopGroup s n node a op).line = s.line ∧
    (State.queueStopGroup s n node a op).moves = s.moves ∧
    (State.queueStopGroup s n node a op).arb = s.arb ∧
    (State.queueStopGroup s n node a op).groups = s.groups ∧
    (State.queueStopGroup s n node a op).eng = s.eng ∧
    (State.queueStopGroup s n node a op).saf = s.saf ∧
    (State.queueStopGroup s n node a op).die = s.die ∧
    (State.queueStopGroup s n node a op).fld = s.fld ∧
    (State.queueStopGroup s n node a op).twin = s.twin ∧
    (State.queueStopGroup s n node a op).scs = s.scs ∧
    (State.queueStopGroup s n node a op).time = s.time ∧
    (State.queueStopGroup s n node a op).host = s.host := by
  generalize hT : State.queueStopGroup s n node a op = res
  unfold State.queueStopGroup at hT
  try dsimp only at hT
  repeat' split at hT
  all_goals subst hT
  all_goals (try simp)
  all_goals (repeat' split)
  all_goals (try simp)

@[simp] theorem State.queueStopGroup_idents (s : State) (n node a op : Nat) : (State.queueStopGroup s n node a op).idents = s.idents := State.idents_eq _ _ (by simp)

@[simp] theorem State.writeGroups_frame (s : State) (n node : Nat) :
    (State.writeGroups s n node).pending = s.pending ∧
    (State.writeGroups s n node).out = s.out ∧
    (State.writeGroups s n node).freeCtr = s.freeCtr ∧
    (State.writeGroups s n node).coreTicks = s.coreTicks ∧
    (State.writeGroups s n node).params = s.params ∧
    (State.writeGroups s n node).cyc = s.cyc ∧
    (State.writeGroups s n node).boot = s.boot ∧
    (State.writeGroups s n node).ports = s.ports ∧
    (State.writeGroups s n node).opening = s.opening ∧
    (State.writeGroups s n node).fbs = s.fbs ∧
    (State.writeGroups s n node).axes = s.axes ∧
    (State.writeGroups s n node).steps = s.steps ∧
    (State.writeGroups s n node).line = s.line ∧
    (State.writeGroups s n node).moves = s.moves ∧
    (State.writeGroups s n node).arb = s.arb ∧
    (State.writeGroups s n node).groups = s.groups ∧
    (State.writeGroups s n node).eng = s.eng ∧
    (State.writeGroups s n node).saf = s.saf ∧
    (State.writeGroups s n node).die = s.die ∧
    (State.writeGroups s n node).fld = s.fld ∧
    (State.writeGroups s n node).twin = s.twin ∧
    (State.writeGroups s n node).scs = s.scs ∧
    (State.writeGroups s n node).time = s.time ∧
    (State.writeGroups s n node).host = s.host := by
  generalize hT : State.writeGroups s n node = res
  unfold State.writeGroups at hT
  try dsimp only at hT
  repeat' split at hT
  all_goals subst hT
  all_goals (try simp)
  all_goals (repeat' split)
  all_goals (try simp)

@[simp] theorem State.writeGroups_idents (s : State) (n node : Nat) : (State.writeGroups s n node).idents = s.idents := State.idents_eq _ _ (by simp)

@[simp] theorem State.breakEvent_frame (s : State) (n a b : Nat) (second : Bool) :
    (State.breakEvent s n a b second).pending = s.pending ∧
    (State.breakEvent s n a b second).freeCtr = s.freeCtr ∧
    (State.breakEvent s n a b second).coreTicks = s.coreTicks ∧
    (State.breakEvent s n a b second).params = s.params ∧
    (State.breakEvent s n a b second).cyc = s.cyc ∧
    (State.breakEvent s n a b second).boot = s.boot ∧
    (State.breakEvent s n a b second).ports = s.ports ∧
    (State.breakEvent s n a b second).segs = s.segs ∧
    (State.breakEvent s n a b second).opening = s.opening ∧
    (State.breakEvent s n a b second).fbs = s.fbs ∧
    (State.breakEvent s n a b second).axes = s.axes ∧
    (State.breakEvent s n a b second).steps = s.steps ∧
    (State.breakEvent s n a b second).line = s.line ∧
    (State.breakEvent s n a b second).moves = s.moves ∧
    (State.breakEvent s n a b second).arb = s.arb ∧
    (State.breakEvent s n a b second).groups = s.groups ∧
    (State.breakEvent s n a b second).eng = s.eng ∧
    (State.breakEvent s n a b second).saf = s.saf ∧
    (State.breakEvent s n a b second).die = s.die ∧
    (State.breakEvent s n a b second).fld = s.fld ∧
    (State.breakEvent s n a b second).twin = s.twin ∧
    (State.breakEvent s n a b second).scs = s.scs ∧
    (State.breakEvent s n a b second).time = s.time ∧
    (State.breakEvent s n a b second).host.keys = s.host.keys ∧
    (State.breakEvent s n a b second).host.parQueue = s.host.parQueue := by
  generalize hT : State.breakEvent s n a b second = res
  unfold State.breakEvent at hT
  try dsimp only at hT
  repeat' split at hT
  all_goals subst hT
  all_goals (try simp)
  all_goals (repeat' split)
  all_goals (try simp)

@[simp] theorem State.breakEvent_idents (s : State) (n a b : Nat) (second : Bool) : (State.breakEvent s n a b second).idents = s.idents := by
  generalize hT : State.breakEvent s n a b second = res
  unfold State.breakEvent at hT
  try dsimp only at hT
  repeat' split at hT
  all_goals subst hT
  all_goals (try simp)
  all_goals (repeat' split)
  all_goals (try simp)
  all_goals (try rfl)
  all_goals (try exact State.idents_eq _ _ (by simp))
  all_goals (try simp [Session.ident])
  all_goals (try simp [Session.ident, State.session])
  all_goals (try simp [State.idents, State.session, Session.ident])

@[simp] theorem State.foldAt_frame (s : State) (n a b : Nat) :
    (State.foldAt s n a b).pending = s.pending ∧
    (State.foldAt s n a b).freeCtr = s.freeCtr ∧
    (State.foldAt s n a b).coreTicks = s.coreTicks ∧
    (State.foldAt s n a b).params = s.params ∧
    (State.foldAt s n a b).cyc = s.cyc ∧
    (State.foldAt s n a b).boot = s.boot ∧
    (State.foldAt s n a b).ports = s.ports ∧
    (State.foldAt s n a b).opening = s.opening ∧
    (State.foldAt s n a b).fbs = s.fbs ∧
    (State.foldAt s n a b).steps = s.steps ∧
    (State.foldAt s n a b).line = s.line ∧
    (State.foldAt s n a b).moves = s.moves ∧
    (State.foldAt s n a b).arb = s.arb ∧
    (State.foldAt s n a b).groups = s.groups ∧
    (State.foldAt s n a b).eng = s.eng ∧
    (State.foldAt s n a b).saf = s.saf ∧
    (State.foldAt s n a b).die = s.die ∧
    (State.foldAt s n a b).fld = s.fld ∧
    (State.foldAt s n a b).twin = s.twin ∧
    (State.foldAt s n a b).scs = s.scs ∧
    (State.foldAt s n a b).time = s.time ∧
    (State.foldAt s n a b).host.keys = s.host.keys ∧
    (State.foldAt s n a b).host.parQueue = s.host.parQueue := by
  generalize hT : State.foldAt s n a b = res
  unfold State.foldAt at hT
  try dsimp only at hT
  repeat' split at hT
  all_goals subst hT
  all_goals (try simp)
  all_goals (repeat' split)
  all_goals (try simp)

@[simp] theorem State.foldAt_idents (s : State) (n a b : Nat) : (State.foldAt s n a b).idents = s.idents := by
  generalize hT : State.foldAt s n a b = res
  unfold State.foldAt at hT
  try dsimp only at hT
  repeat' split at hT
  all_goals subst hT
  all_goals (try simp)
  all_goals (repeat' split)
  all_goals (try simp)
  all_goals (try rfl)
  all_goals (try exact State.idents_eq _ _ (by simp))
  all_goals (try simp [Session.ident])
  all_goals (try simp [Session.ident, State.session])
  all_goals (try simp [State.idents, State.session, Session.ident])

@[simp] theorem State.secondBreak_frame (s : State) (n a b : Nat) :
    (State.secondBreak s n a b).pending = s.pending ∧
    (State.secondBreak s n a b).freeCtr = s.freeCtr ∧
    (State.secondBreak s n a b).coreTicks = s.coreTicks ∧
    (State.secondBreak s n a b).params = s.params ∧
    (State.secondBreak s n a b).cyc = s.cyc ∧
    (State.secondBreak s n a b).boot = s.boot ∧
    (State.secondBreak s n a b).ports = s.ports ∧
    (State.secondBreak s n a b).opening = s.opening ∧
    (State.secondBreak s n a b).fbs = s.fbs ∧
    (State.secondBreak s n a b).axes = s.axes ∧
    (State.secondBreak s n a b).steps = s.steps ∧
    (State.secondBreak s n a b).line = s.line ∧
    (State.secondBreak s n a b).moves = s.moves ∧
    (State.secondBreak s n a b).arb = s.arb ∧
    (State.secondBreak s n a b).groups = s.groups ∧
    (State.secondBreak s n a b).eng = s.eng ∧
    (State.secondBreak s n a b).saf = s.saf ∧
    (State.secondBreak s n a b).die = s.die ∧
    (State.secondBreak s n a b).fld = s.fld ∧
    (State.secondBreak s n a b).twin = s.twin ∧
    (State.secondBreak s n a b).scs = s.scs ∧
    (State.secondBreak s n a b).time = s.time ∧
    (State.secondBreak s n a b).host.keys = s.host.keys ∧
    (State.secondBreak s n a b).host.parQueue = s.host.parQueue := by
  generalize hT : State.secondBreak s n a b = res
  unfold State.secondBreak at hT
  try dsimp only at hT
  repeat' split at hT
  all_goals subst hT
  all_goals (try simp)
  all_goals (repeat' split)
  all_goals (try simp)

@[simp] theorem State.secondBreak_idents (s : State) (n a b : Nat) : (State.secondBreak s n a b).idents = s.idents := by
  generalize hT : State.secondBreak s n a b = res
  unfold State.secondBreak at hT
  try dsimp only at hT
  repeat' split at hT
  all_goals subst hT
  all_goals (try simp)
  all_goals (repeat' split)
  all_goals (try simp)
  all_goals (try rfl)
  all_goals (try exact State.idents_eq _ _ (by simp))
  all_goals (try simp [Session.ident])
  all_goals (try simp [Session.ident, State.session])
  all_goals (try simp [State.idents, State.session, Session.ident])

@[simp] theorem State.breakAt_frame (s : State) (n a b : Nat) :
    (State.breakAt s n a b).pending = s.pending ∧
    (State.breakAt s n a b).freeCtr = s.freeCtr ∧
    (State.breakAt s n a b).coreTicks = s.coreTicks ∧
    (State.breakAt s n a b).params = s.params ∧
    (State.breakAt s n a b).cyc = s.cyc ∧
    (State.breakAt s n a b).boot = s.boot ∧
    (State.breakAt s n a b).ports = s.ports ∧
    (State.breakAt s n a b).opening = s.opening ∧
    (State.breakAt s n a b).fbs = s.fbs ∧
    (State.breakAt s n a b).steps = s.steps ∧
    (State.breakAt s n a b).line = s.line ∧
    (State.breakAt s n a b).moves = s.moves ∧
    (State.breakAt s n a b).arb = s.arb ∧
    (State.breakAt s n a b).groups = s.groups ∧
    (State.breakAt s n a b).eng = s.eng ∧
    (State.breakAt s n a b).saf = s.saf ∧
    (State.breakAt s n a b).die = s.die ∧
    (State.breakAt s n a b).fld = s.fld ∧
    (State.breakAt s n a b).twin = s.twin ∧
    (State.breakAt s n a b).scs = s.scs ∧
    (State.breakAt s n a b).time = s.time ∧
    (State.breakAt s n a b).host.keys = s.host.keys ∧
    (State.breakAt s n a b).host.parQueue = s.host.parQueue := by
  generalize hT : State.breakAt s n a b = res
  unfold State.breakAt at hT
  try dsimp only at hT
  repeat' split at hT
  all_goals subst hT
  all_goals (try simp)
  all_goals (repeat' split)
  all_goals (try simp)

@[simp] theorem State.breakAt_idents (s : State) (n a b : Nat) : (State.breakAt s n a b).idents = s.idents := by
  generalize hT : State.breakAt s n a b = res
  unfold State.breakAt at hT
  try dsimp only at hT
  repeat' split at hT
  all_goals subst hT
  all_goals (try simp)
  all_goals (repeat' split)
  all_goals (try simp)
  all_goals (try rfl)
  all_goals (try exact State.idents_eq _ _ (by simp))
  all_goals (try simp [Session.ident])
  all_goals (try simp [Session.ident, State.session])
  all_goals (try simp [State.idents, State.session, Session.ident])

@[simp] theorem State.markBroken_frame (s : State) (n : Nat) :
    (State.markBroken s n).pending = s.pending ∧
    (State.markBroken s n).out = s.out ∧
    (State.markBroken s n).freeCtr = s.freeCtr ∧
    (State.markBroken s n).coreTicks = s.coreTicks ∧
    (State.markBroken s n).params = s.params ∧
    (State.markBroken s n).cyc = s.cyc ∧
    (State.markBroken s n).boot = s.boot ∧
    (State.markBroken s n).ports = s.ports ∧
    (State.markBroken s n).opening = s.opening ∧
    (State.markBroken s n).fbs = s.fbs ∧
    (State.markBroken s n).axes = s.axes ∧
    (State.markBroken s n).steps = s.steps ∧
    (State.markBroken s n).line = s.line ∧
    (State.markBroken s n).moves = s.moves ∧
    (State.markBroken s n).arb = s.arb ∧
    (State.markBroken s n).groups = s.groups ∧
    (State.markBroken s n).eng = s.eng ∧
    (State.markBroken s n).saf = s.saf ∧
    (State.markBroken s n).die = s.die ∧
    (State.markBroken s n).fld = s.fld ∧
    (State.markBroken s n).twin = s.twin ∧
    (State.markBroken s n).scs = s.scs ∧
    (State.markBroken s n).time = s.time ∧
    (State.markBroken s n).host = s.host := by
  generalize hT : State.markBroken s n = res
  unfold State.markBroken at hT
  try dsimp only at hT
  repeat' split at hT
  all_goals subst hT
  all_goals (try simp)
  all_goals (repeat' split)
  all_goals (try simp)

@[simp] theorem State.markBroken_idents (s : State) (n : Nat) : (State.markBroken s n).idents = s.idents := State.idents_eq _ _ (by simp)

@[simp] theorem State.reportLoop_frame (s : State) (n node : Nat) (atB : Bool) :
    (State.reportLoop s n node atB).pending = s.pending ∧
    (State.reportLoop s n node atB).freeCtr = s.freeCtr ∧
    (State.reportLoop s n node atB).coreTicks = s.coreTicks ∧
    (State.reportLoop s n node atB).params = s.params ∧
    (State.reportLoop s n node atB).cyc = s.cyc ∧
    (State.reportLoop s n node atB).boot = s.boot ∧
    (State.reportLoop s n node atB).ports = s.ports ∧
    (State.reportLoop s n node atB).opening = s.opening ∧
    (State.reportLoop s n node atB).fbs = s.fbs ∧
    (State.reportLoop s n node atB).steps = s.steps ∧
    (State.reportLoop s n node atB).line = s.line ∧
    (State.reportLoop s n node atB).moves = s.moves ∧
    (State.reportLoop s n node atB).arb = s.arb ∧
    (State.reportLoop s n node atB).groups = s.groups ∧
    (State.reportLoop s n node atB).eng = s.eng ∧
    (State.reportLoop s n node atB).saf = s.saf ∧
    (State.reportLoop s n node atB).die = s.die ∧
    (State.reportLoop s n node atB).fld = s.fld ∧
    (State.reportLoop s n node atB).twin = s.twin ∧
    (State.reportLoop s n node atB).scs = s.scs ∧
    (State.reportLoop s n node atB).time = s.time ∧
    (State.reportLoop s n node atB).host.keys = s.host.keys ∧
    (State.reportLoop s n node atB).host.parQueue = s.host.parQueue := by
  generalize hT : State.reportLoop s n node atB = res
  unfold State.reportLoop at hT
  try dsimp only at hT
  repeat' split at hT
  all_goals subst hT
  all_goals (try simp)
  all_goals (repeat' split)
  all_goals (try simp)

@[simp] theorem State.reportLoop_idents (s : State) (n node : Nat) (atB : Bool) : (State.reportLoop s n node atB).idents = s.idents := by
  generalize hT : State.reportLoop s n node atB = res
  unfold State.reportLoop at hT
  try dsimp only at hT
  repeat' split at hT
  all_goals subst hT
  all_goals (try simp)
  all_goals (repeat' split)
  all_goals (try simp)
  all_goals (try rfl)
  all_goals (try exact State.idents_eq _ _ (by simp))
  all_goals (try simp [Session.ident])
  all_goals (try simp [Session.ident, State.session])
  all_goals (try simp [State.idents, State.session, Session.ident])

@[simp] theorem State.unfold_frame (s : State) (n : Nat) :
    (State.unfold s n).pending = s.pending ∧
    (State.unfold s n).freeCtr = s.freeCtr ∧
    (State.unfold s n).coreTicks = s.coreTicks ∧
    (State.unfold s n).params = s.params ∧
    (State.unfold s n).cyc = s.cyc ∧
    (State.unfold s n).boot = s.boot ∧
    (State.unfold s n).ports = s.ports ∧
    (State.unfold s n).opening = s.opening ∧
    (State.unfold s n).fbs = s.fbs ∧
    (State.unfold s n).steps = s.steps ∧
    (State.unfold s n).line = s.line ∧
    (State.unfold s n).moves = s.moves ∧
    (State.unfold s n).arb = s.arb ∧
    (State.unfold s n).groups = s.groups ∧
    (State.unfold s n).eng = s.eng ∧
    (State.unfold s n).saf = s.saf ∧
    (State.unfold s n).die = s.die ∧
    (State.unfold s n).fld = s.fld ∧
    (State.unfold s n).twin = s.twin ∧
    (State.unfold s n).scs = s.scs ∧
    (State.unfold s n).time = s.time ∧
    (State.unfold s n).host.keys = s.host.keys ∧
    (State.unfold s n).host.parQueue = s.host.parQueue := by
  generalize hT : State.unfold s n = res
  unfold State.unfold at hT
  try dsimp only at hT
  repeat' split at hT
  all_goals subst hT
  all_goals (try simp)
  all_goals (repeat' split)
  all_goals (try simp)

@[simp] theorem State.unfold_idents (s : State) (n : Nat) : (State.unfold s n).idents = s.idents := by
  generalize hT : State.unfold s n = res
  unfold State.unfold at hT
  try dsimp only at hT
  repeat' split at hT
  all_goals subst hT
  all_goals (try simp)
  all_goals (repeat' split)
  all_goals (try simp)
  all_goals (try rfl)
  all_goals (try exact State.idents_eq _ _ (by simp))
  all_goals (try simp [Session.ident])
  all_goals (try simp [Session.ident, State.session])
  all_goals (try simp [State.idents, State.session, Session.ident])

@[simp] theorem State.measuredRestore_frame (s : State) (n : Nat) (ctx : Option CmdCtx) :
    (State.measuredRestore s n ctx).pending = s.pending ∧
    (State.measuredRestore s n ctx).out = s.out ∧
    (State.measuredRestore s n ctx).freeCtr = s.freeCtr ∧
    (State.measuredRestore s n ctx).coreTicks = s.coreTicks ∧
    (State.measuredRestore s n ctx).params = s.params ∧
    (State.measuredRestore s n ctx).cyc = s.cyc ∧
    (State.measuredRestore s n ctx).boot = s.boot ∧
    (State.measuredRestore s n ctx).ports = s.ports ∧
    (State.measuredRestore s n ctx).opening = s.opening ∧
    (State.measuredRestore s n ctx).fbs = s.fbs ∧
    (State.measuredRestore s n ctx).axes = s.axes ∧
    (State.measuredRestore s n ctx).steps = s.steps ∧
    (State.measuredRestore s n ctx).line = s.line ∧
    (State.measuredRestore s n ctx).moves = s.moves ∧
    (State.measuredRestore s n ctx).arb = s.arb ∧
    (State.measuredRestore s n ctx).groups = s.groups ∧
    (State.measuredRestore s n ctx).eng = s.eng ∧
    (State.measuredRestore s n ctx).saf = s.saf ∧
    (State.measuredRestore s n ctx).die = s.die ∧
    (State.measuredRestore s n ctx).fld = s.fld ∧
    (State.measuredRestore s n ctx).twin = s.twin ∧
    (State.measuredRestore s n ctx).scs = s.scs ∧
    (State.measuredRestore s n ctx).time = s.time ∧
    (State.measuredRestore s n ctx).host = s.host := by
  generalize hT : State.measuredRestore s n ctx = res
  unfold State.measuredRestore at hT
  try dsimp only at hT
  repeat' split at hT
  all_goals subst hT
  all_goals (try simp)
  all_goals (repeat' split)
  all_goals (try simp)

@[simp] theorem State.measuredRestore_idents (s : State) (n : Nat) (ctx : Option CmdCtx) : (State.measuredRestore s n ctx).idents = s.idents := State.idents_eq _ _ (by simp)

@[simp] theorem State.sendSur_frame (s : State) (n : Nat) (portB : Bool) (op hop newAddr : Nat) (minislot : Nat) :
    (State.sendSur s n portB op hop newAddr minislot).pending = s.pending ∧
    (State.sendSur s n portB op hop newAddr minislot).params = s.params ∧
    (State.sendSur s n portB op hop newAddr minislot).boot = s.boot ∧
    (State.sendSur s n portB op hop newAddr minislot).ports = s.ports ∧
    (State.sendSur s n portB op hop newAddr minislot).opening = s.opening ∧
    (State.sendSur s n portB op hop newAddr minislot).fbs = s.fbs ∧
    (State.sendSur s n portB op hop newAddr minislot).steps = s.steps ∧
    (State.sendSur s n portB op hop newAddr minislot).moves = s.moves ∧
    (State.sendSur s n portB op hop newAddr minislot).arb = s.arb ∧
    (State.sendSur s n portB op hop newAddr minislot).groups = s.groups ∧
    (State.sendSur s n portB op hop newAddr minislot).saf = s.saf ∧
    (State.sendSur s n portB op hop newAddr minislot).die = s.die ∧
    (State.sendSur s n portB op hop newAddr minislot).fld = s.fld ∧
    (State.sendSur s n portB op hop newAddr minislot).twin = s.twin ∧
    (State.sendSur s n portB op hop newAddr minislot).scs = s.scs ∧
    (State.sendSur s n portB op hop newAddr minislot).host.keys = s.host.keys ∧
    (State.sendSur s n portB op hop newAddr minislot).host.parQueue = s.host.parQueue ∧
    (State.sendSur s n portB op hop newAddr minislot).cyc.cycle = s.cyc.cycle ∧
    (State.sendSur s n portB op hop newAddr minislot).cyc.running = s.cyc.running := by
  generalize hT : State.sendSur s n portB op hop newAddr minislot = res
  unfold State.sendSur at hT
  try dsimp only at hT
  repeat' split at hT
  all_goals subst hT
  all_goals (try simp)
  all_goals (repeat' split)
  all_goals (try simp)

@[simp] theorem State.sendSur_idents (s : State) (n : Nat) (portB : Bool) (op hop newAddr : Nat) (minislot : Nat) : (State.sendSur s n portB op hop newAddr minislot).idents = s.idents := by
  generalize hT : State.sendSur s n portB op hop newAddr minislot = res
  unfold State.sendSur at hT
  try dsimp only at hT
  repeat' split at hT
  all_goals subst hT
  all_goals (try simp)
  all_goals (repeat' split)
  all_goals (try simp)
  all_goals (try rfl)
  all_goals (try exact State.idents_eq _ _ (by simp))
  all_goals (try simp [Session.ident])
  all_goals (try simp [Session.ident, State.session])
  all_goals (try simp [State.idents, State.session, Session.ident])

@[simp] theorem State.surveyNext_frame (s : State) (n : Nat) :
    (State.surveyNext s n).pending = s.pending ∧
    (State.surveyNext s n).params = s.params ∧
    (State.surveyNext s n).boot = s.boot ∧
    (State.surveyNext s n).ports = s.ports ∧
    (State.surveyNext s n).opening = s.opening ∧
    (State.surveyNext s n).fbs = s.fbs ∧
    (State.surveyNext s n).steps = s.steps ∧
    (State.surveyNext s n).moves = s.moves ∧
    (State.surveyNext s n).arb = s.arb ∧
    (State.surveyNext s n).groups = s.groups ∧
    (State.surveyNext s n).saf = s.saf ∧
    (State.surveyNext s n).die = s.die ∧
    (State.surveyNext s n).fld = s.fld ∧
    (State.surveyNext s n).twin = s.twin ∧
    (State.surveyNext s n).scs = s.scs ∧
    (State.surveyNext s n).host.keys = s.host.keys ∧
    (State.surveyNext s n).host.parQueue = s.host.parQueue ∧
    (State.surveyNext s n).cyc.cycle = s.cyc.cycle ∧
    (State.surveyNext s n).cyc.running = s.cyc.running := by
  generalize hT : State.surveyNext s n = res
  unfold State.surveyNext at hT
  try dsimp only at hT
  repeat' split at hT
  all_goals subst hT
  all_goals (try simp)
  all_goals (repeat' split)
  all_goals (try simp)

@[simp] theorem State.surveyNext_idents (s : State) (n : Nat) : (State.surveyNext s n).idents = s.idents := by
  generalize hT : State.surveyNext s n = res
  unfold State.surveyNext at hT
  try dsimp only at hT
  repeat' split at hT
  all_goals subst hT
  all_goals (try simp)
  all_goals (repeat' split)
  all_goals (try simp)
  all_goals (try rfl)
  all_goals (try exact State.idents_eq _ _ (by simp))
  all_goals (try simp [Session.ident])
  all_goals (try simp [Session.ident, State.session])
  all_goals (try simp [State.idents, State.session, Session.ident])

@[simp] theorem State.beginSurvey_frame (s : State) (n : Nat) :
    (State.beginSurvey s n).pending = s.pending ∧
    (State.beginSurvey s n).params = s.params ∧
    (State.beginSurvey s n).boot = s.boot ∧
    (State.beginSurvey s n).ports = s.ports ∧
    (State.beginSurvey s n).opening = s.opening ∧
    (State.beginSurvey s n).fbs = s.fbs ∧
    (State.beginSurvey s n).steps = s.steps ∧
    (State.beginSurvey s n).moves = s.moves ∧
    (State.beginSurvey s n).arb = s.arb ∧
    (State.beginSurvey s n).groups = s.groups ∧
    (State.beginSurvey s n).saf = s.saf ∧
    (State.beginSurvey s n).die = s.die ∧
    (State.beginSurvey s n).fld = s.fld ∧
    (State.beginSurvey s n).twin = s.twin ∧
    (State.beginSurvey s n).scs = s.scs ∧
    (State.beginSurvey s n).host.keys = s.host.keys ∧
    (State.beginSurvey s n).host.parQueue = s.host.parQueue ∧
    (State.beginSurvey s n).cyc.cycle = s.cyc.cycle ∧
    (State.beginSurvey s n).cyc.running = s.cyc.running := by
  generalize hT : State.beginSurvey s n = res
  unfold State.beginSurvey at hT
  try dsimp only at hT
  repeat' split at hT
  all_goals subst hT
  all_goals (try simp)
  all_goals (repeat' split)
  all_goals (try simp)

@[simp] theorem State.beginSurvey_idents (s : State) (n : Nat) : (State.beginSurvey s n).idents = s.idents := by
  generalize hT : State.beginSurvey s n = res
  unfold State.beginSurvey at hT
  try dsimp only at hT
  repeat' split at hT
  all_goals subst hT
  all_goals (try simp)
  all_goals (repeat' split)
  all_goals (try simp)
  all_goals (try rfl)
  all_goals (try exact State.idents_eq _ _ (by simp))
  all_goals (try simp [Session.ident])
  all_goals (try simp [Session.ident, State.session])
  all_goals (try simp [State.idents, State.session, Session.ident])

@[simp] theorem State.noteSch_frame (s : State) (n node : Nat) :
    (State.noteSch s n node).pending = s.pending ∧
    (State.noteSch s n node).out = s.out ∧
    (State.noteSch s n node).freeCtr = s.freeCtr ∧
    (State.noteSch s n node).coreTicks = s.coreTicks ∧
    (State.noteSch s n node).params = s.params ∧
    (State.noteSch s n node).cyc = s.cyc ∧
    (State.noteSch s n node).boot = s.boot ∧
    (State.noteSch s n node).ports = s.ports ∧
    (State.noteSch s n node).opening = s.opening ∧
    (State.noteSch s n node).fbs = s.fbs ∧
    (State.noteSch s n node).axes = s.axes ∧
    (State.noteSch s n node).steps = s.steps ∧
    (State.noteSch s n node).line = s.line ∧
    (State.noteSch s n node).moves = s.moves ∧
    (State.noteSch s n node).arb = s.arb ∧
    (State.noteSch s n node).groups = s.groups ∧
    (State.noteSch s n node).eng = s.eng ∧
    (State.noteSch s n node).saf = s.saf ∧
    (State.noteSch s n node).die = s.die ∧
    (State.noteSch s n node).fld = s.fld ∧
    (State.noteSch s n node).twin = s.twin ∧
    (State.noteSch s n node).scs = s.scs ∧
    (State.noteSch s n node).time = s.time ∧
    (State.noteSch s n node).host = s.host := by
  generalize hT : State.noteSch s n node = res
  unfold State.noteSch at hT
  try dsimp only at hT
  repeat' split at hT
  all_goals subst hT
  all_goals (try simp)
  all_goals (repeat' split)
  all_goals (try simp)

@[simp] theorem State.noteSch_idents (s : State) (n node : Nat) : (State.noteSch s n node).idents = s.idents := State.idents_eq _ _ (by simp)

@[simp] theorem State.loadSchedule_frame (s : State) (n act : Nat) :
    (State.loadSchedule s n act).params = s.params ∧
    (State.loadSchedule s n act).boot = s.boot ∧
    (State.loadSchedule s n act).ports = s.ports ∧
    (State.loadSchedule s n act).opening = s.opening ∧
    (State.loadSchedule s n act).fbs = s.fbs ∧
    (State.loadSchedule s n act).steps = s.steps ∧
    (State.loadSchedule s n act).moves = s.moves ∧
    (State.loadSchedule s n act).arb = s.arb ∧
    (State.loadSchedule s n act).groups = s.groups ∧
    (State.loadSchedule s n act).die = s.die ∧
    (State.loadSchedule s n act).fld = s.fld ∧
    (State.loadSchedule s n act).twin = s.twin ∧
    (State.loadSchedule s n act).scs = s.scs ∧
    (State.loadSchedule s n act).saf.endgame = s.saf.endgame ∧
    (State.loadSchedule s n act).saf.silent = s.saf.silent ∧
    (State.loadSchedule s n act).host.keys = s.host.keys ∧
    (State.loadSchedule s n act).host.parQueue = s.host.parQueue ∧
    (State.loadSchedule s n act).cyc.cycle = s.cyc.cycle ∧
    (State.loadSchedule s n act).cyc.running = s.cyc.running := by
  generalize hT : State.loadSchedule s n act = res
  unfold State.loadSchedule at hT
  try dsimp only at hT
  repeat' split at hT
  all_goals subst hT
  all_goals (try simp)
  all_goals (repeat' split)
  all_goals (try simp)

@[simp] theorem State.loadSchedule_idents (s : State) (n act : Nat) : (State.loadSchedule s n act).idents = s.idents := by
  generalize hT : State.loadSchedule s n act = res
  unfold State.loadSchedule at hT
  try dsimp only at hT
  repeat' split at hT
  all_goals subst hT
  all_goals (try simp)
  all_goals (repeat' split)
  all_goals (try simp)
  all_goals (try rfl)
  all_goals (try exact State.idents_eq _ _ (by simp))
  all_goals (try simp [Session.ident])
  all_goals (try simp [Session.ident, State.session])
  all_goals (try simp [State.idents, State.session, Session.ident])

@[simp] theorem State.surveyEnds_frame (s : State) (n : Nat) :
    (State.surveyEnds s n).params = s.params ∧
    (State.surveyEnds s n).boot = s.boot ∧
    (State.surveyEnds s n).ports = s.ports ∧
    (State.surveyEnds s n).opening = s.opening ∧
    (State.surveyEnds s n).fbs = s.fbs ∧
    (State.surveyEnds s n).steps = s.steps ∧
    (State.surveyEnds s n).moves = s.moves ∧
    (State.surveyEnds s n).arb = s.arb ∧
    (State.surveyEnds s n).groups = s.groups ∧
    (State.surveyEnds s n).die = s.die ∧
    (State.surveyEnds s n).fld = s.fld ∧
    (State.surveyEnds s n).twin = s.twin ∧
    (State.surveyEnds s n).scs = s.scs ∧
    (State.surveyEnds s n).saf.endgame = s.saf.endgame ∧
    (State.surveyEnds s n).saf.silent = s.saf.silent ∧
    (State.surveyEnds s n).host.keys = s.host.keys ∧
    (State.surveyEnds s n).host.parQueue = s.host.parQueue ∧
    (State.surveyEnds s n).cyc.running = s.cyc.running := by
  generalize hT : State.surveyEnds s n = res
  unfold State.surveyEnds at hT
  try dsimp only at hT
  repeat' split at hT
  all_goals subst hT
  all_goals (try simp)
  all_goals (repeat' split)
  all_goals (try simp)

@[simp] theorem State.surveyEnds_idents (s : State) (n : Nat) : (State.surveyEnds s n).idents = s.idents := by
  generalize hT : State.surveyEnds s n = res
  unfold State.surveyEnds at hT
  try dsimp only at hT
  repeat' split at hT
  all_goals subst hT
  all_goals (try simp)
  all_goals (repeat' split)
  all_goals (try simp)
  all_goals (try rfl)
  all_goals (try exact State.idents_eq _ _ (by simp))
  all_goals (try simp [Session.ident])
  all_goals (try simp [Session.ident, State.session])
  all_goals (try simp [State.idents, State.session, Session.ident])

end Sys2Proof.Machine
end

