-- ==== Sys2Proof/Laws/FrameRing.lean ====
section
/-! SUPPORT. What the operations of Machine/Ring.lean leave unchanged: one rule per operation. -/

namespace Sys2Proof.Machine

@[simp] theorem State.portBreak_frame (s : State) (p : Nat) :
    (State.portBreak s p).pending = s.pending ∧
    (State.portBreak s p).freeCtr = s.freeCtr ∧
    (State.portBreak s p).coreTicks = s.coreTicks ∧
    (State.portBreak s p).params = s.params ∧
    (State.portBreak s p).cyc = s.cyc ∧
    (State.portBreak s p).boot = s.boot ∧
    (State.portBreak s p).ports = s.ports ∧
    (State.portBreak s p).opening = s.opening ∧
    (State.portBreak s p).fbs = s.fbs ∧
    (State.portBreak s p).steps = s.steps ∧
    (State.portBreak s p).line = s.line ∧
    (State.portBreak s p).moves = s.moves ∧
    (State.portBreak s p).arb = s.arb ∧
    (State.portBreak s p).groups = s.groups ∧
    (State.portBreak s p).eng = s.eng ∧
    (State.portBreak s p).saf = s.saf ∧
    (State.portBreak s p).die = s.die ∧
    (State.portBreak s p).fld = s.fld ∧
    (State.portBreak s p).twin = s.twin ∧
    (State.portBreak s p).scs = s.scs ∧
    (State.portBreak s p).time = s.time ∧
    (State.portBreak s p).host.keys = s.host.keys ∧
    (State.portBreak s p).host.parQueue = s.host.parQueue := by
  generalize hT : State.portBreak s p = res
  unfold State.portBreak at hT
  try dsimp only at hT
  repeat' split at hT
  all_goals subst hT
  all_goals (try simp)
  all_goals (repeat' split)
  all_goals (try simp)

@[simp] theorem State.portBreak_idents (s : State) (p : Nat) : (State.portBreak s p).idents = s.idents := by
  generalize hT : State.portBreak s p = res
  unfold State.portBreak at hT
  try dsimp only at hT
  repeat' split at hT
  all_goals subst hT
  all_goals (try simp)
  all_goals (repeat' split)
  all_goals (try simp)
  all_goals (try rfl)
  all_goals (try exact State.idents_eq _ _ (by simp))
  all_goals (try simp [Session.ident])
  all_goals (try simp [Session.ident, State.session])
  all_goals (try simp [State.idents, State.session, Session.ident])

@[simp] theorem State.locate_frame (s : State) (n : Nat) :
    (State.locate s n).pending = s.pending ∧
    (State.locate s n).freeCtr = s.freeCtr ∧
    (State.locate s n).coreTicks = s.coreTicks ∧
    (State.locate s n).params = s.params ∧
    (State.locate s n).cyc = s.cyc ∧
    (State.locate s n).boot = s.boot ∧
    (State.locate s n).ports = s.ports ∧
    (State.locate s n).opening = s.opening ∧
    (State.locate s n).fbs = s.fbs ∧
    (State.locate s n).steps = s.steps ∧
    (State.locate s n).line = s.line ∧
    (State.locate s n).moves = s.moves ∧
    (State.locate s n).arb = s.arb ∧
    (State.locate s n).groups = s.groups ∧
    (State.locate s n).eng = s.eng ∧
    (State.locate s n).saf = s.saf ∧
    (State.locate s n).die = s.die ∧
    (State.locate s n).fld = s.fld ∧
    (State.locate s n).twin = s.twin ∧
    (State.locate s n).scs = s.scs ∧
    (State.locate s n).time = s.time ∧
    (State.locate s n).host.keys = s.host.keys ∧
    (State.locate s n).host.parQueue = s.host.parQueue := by
  generalize hT : State.locate s n = res
  unfold State.locate at hT
  try dsimp only at hT
  repeat' split at hT
  all_goals subst hT
  all_goals (try simp)
  all_goals (repeat' split)
  all_goals (try simp)

@[simp] theorem State.locate_idents (s : State) (n : Nat) : (State.locate s n).idents = s.idents := by
  generalize hT : State.locate s n = res
  unfold State.locate at hT
  try dsimp only at hT
  repeat' split at hT
  all_goals subst hT
  all_goals (try simp)
  all_goals (repeat' split)
  all_goals (try simp)
  all_goals (try rfl)
  all_goals (try exact State.idents_eq _ _ (by simp))
  all_goals (try simp [Session.ident])
  all_goals (try simp [Session.ident, State.session])
  all_goals (try simp [State.idents, State.session, Session.ident])

@[simp] theorem State.loopAt_frame (s : State) (p : Nat) :
    (State.loopAt s p).pending = s.pending ∧
    (State.loopAt s p).out = s.out ∧
    (State.loopAt s p).freeCtr = s.freeCtr ∧
    (State.loopAt s p).coreTicks = s.coreTicks ∧
    (State.loopAt s p).params = s.params ∧
    (State.loopAt s p).cyc = s.cyc ∧
    (State.loopAt s p).boot = s.boot ∧
    (State.loopAt s p).ports = s.ports ∧
    (State.loopAt s p).opening = s.opening ∧
    (State.loopAt s p).fbs = s.fbs ∧
    (State.loopAt s p).axes = s.axes ∧
    (State.loopAt s p).steps = s.steps ∧
    (State.loopAt s p).line = s.line ∧
    (State.loopAt s p).moves = s.moves ∧
    (State.loopAt s p).arb = s.arb ∧
    (State.loopAt s p).groups = s.groups ∧
    (State.loopAt s p).eng = s.eng ∧
    (State.loopAt s p).saf = s.saf ∧
    (State.loopAt s p).die = s.die ∧
    (State.loopAt s p).fld = s.fld ∧
    (State.loopAt s p).twin = s.twin ∧
    (State.loopAt s p).scs = s.scs ∧
    (State.loopAt s p).time = s.time ∧
    (State.loopAt s p).host = s.host := by
  generalize hT : State.loopAt s p = res
  unfold State.loopAt at hT
  try dsimp only at hT
  repeat' split at hT
  all_goals subst hT
  all_goals (try simp)
  all_goals (repeat' split)
  all_goals (try simp)

@[simp] theorem State.loopAt_idents (s : State) (p : Nat) : (State.loopAt s p).idents = s.idents := State.idents_eq _ _ (by simp)

@[simp] theorem State.linkDown_frame (s : State) (p : Nat) (sync : Bool) :
    (State.linkDown s p sync).pending = s.pending ∧
    (State.linkDown s p sync).freeCtr = s.freeCtr ∧
    (State.linkDown s p sync).coreTicks = s.coreTicks ∧
    (State.linkDown s p sync).params = s.params ∧
    (State.linkDown s p sync).cyc = s.cyc ∧
    (State.linkDown s p sync).boot = s.boot ∧
    (State.linkDown s p sync).opening = s.opening ∧
    (State.linkDown s p sync).fbs = s.fbs ∧
    (State.linkDown s p sync).steps = s.steps ∧
    (State.linkDown s p sync).line = s.line ∧
    (State.linkDown s p sync).moves = s.moves ∧
    (State.linkDown s p sync).arb = s.arb ∧
    (State.linkDown s p sync).groups = s.groups ∧
    (State.linkDown s p sync).eng = s.eng ∧
    (State.linkDown s p sync).saf = s.saf ∧
    (State.linkDown s p sync).die = s.die ∧
    (State.linkDown s p sync).fld = s.fld ∧
    (State.linkDown s p sync).twin = s.twin ∧
    (State.linkDown s p sync).scs = s.scs ∧
    (State.linkDown s p sync).time = s.time ∧
    (State.linkDown s p sync).host.keys = s.host.keys ∧
    (State.linkDown s p sync).host.parQueue = s.host.parQueue := by
  generalize hT : State.linkDown s p sync = res
  unfold State.linkDown at hT
  try dsimp only at hT
  repeat' split at hT
  all_goals subst hT
  all_goals (try simp)
  all_goals (repeat' split)
  all_goals (try simp)

@[simp] theorem State.linkDown_idents (s : State) (p : Nat) (sync : Bool) : (State.linkDown s p sync).idents = s.idents := by
  generalize hT : State.linkDown s p sync = res
  unfold State.linkDown at hT
  try dsimp only at hT
  repeat' split at hT
  all_goals subst hT
  all_goals (try simp)
  all_goals (repeat' split)
  all_goals (try simp)
  all_goals (try rfl)
  all_goals (try exact State.idents_eq _ _ (by simp))
  all_goals (try simp [Session.ident])
  all_goals (try simp [Session.ident, State.session])
  all_goals (try simp [State.idents, State.session, Session.ident])

@[simp] theorem State.noteLoop_frame (s : State) (f : RxFrame) :
    (State.noteLoop s f).pending = s.pending ∧
    (State.noteLoop s f).freeCtr = s.freeCtr ∧
    (State.noteLoop s f).coreTicks = s.coreTicks ∧
    (State.noteLoop s f).params = s.params ∧
    (State.noteLoop s f).cyc = s.cyc ∧
    (State.noteLoop s f).boot = s.boot ∧
    (State.noteLoop s f).ports = s.ports ∧
    (State.noteLoop s f).opening = s.opening ∧
    (State.noteLoop s f).fbs = s.fbs ∧
    (State.noteLoop s f).steps = s.steps ∧
    (State.noteLoop s f).line = s.line ∧
    (State.noteLoop s f).moves = s.moves ∧
    (State.noteLoop s f).arb = s.arb ∧
    (State.noteLoop s f).groups = s.groups ∧
    (State.noteLoop s f).eng = s.eng ∧
    (State.noteLoop s f).saf = s.saf ∧
    (State.noteLoop s f).die = s.die ∧
    (State.noteLoop s f).fld = s.fld ∧
    (State.noteLoop s f).twin = s.twin ∧
    (State.noteLoop s f).scs = s.scs ∧
    (State.noteLoop s f).time = s.time ∧
    (State.noteLoop s f).host.keys = s.host.keys ∧
    (State.noteLoop s f).host.parQueue = s.host.parQueue := by
  generalize hT : State.noteLoop s f = res
  unfold State.noteLoop at hT
  try dsimp only at hT
  repeat' split at hT
  all_goals subst hT
  all_goals (try simp)
  all_goals (repeat' split)
  all_goals (try simp)

@[simp] theorem State.noteLoop_idents (s : State) (f : RxFrame) : (State.noteLoop s f).idents = s.idents := by
  generalize hT : State.noteLoop s f = res
  unfold State.noteLoop at hT
  try dsimp only at hT
  repeat' split at hT
  all_goals subst hT
  all_goals (try simp)
  all_goals (repeat' split)
  all_goals (try simp)
  all_goals (try rfl)
  all_goals (try exact State.idents_eq _ _ (by simp))
  all_goals (try simp [Session.ident])
  all_goals (try simp [Session.ident, State.session])
  all_goals (try simp [State.idents, State.session, Session.ident])

@[simp] theorem State.sourceLocate_frame (s : State) (f : RxFrame) (h : Hdr) (k : Int) :
    (State.sourceLocate s f h k).pending = s.pending ∧
    (State.sourceLocate s f h k).freeCtr = s.freeCtr ∧
    (State.sourceLocate s f h k).coreTicks = s.coreTicks ∧
    (State.sourceLocate s f h k).params = s.params ∧
    (State.sourceLocate s f h k).cyc = s.cyc ∧
    (State.sourceLocate s f h k).boot = s.boot ∧
    (State.sourceLocate s f h k).ports = s.ports ∧
    (State.sourceLocate s f h k).opening = s.opening ∧
    (State.sourceLocate s f h k).fbs = s.fbs ∧
    (State.sourceLocate s f h k).steps = s.steps ∧
    (State.sourceLocate s f h k).line = s.line ∧
    (State.sourceLocate s f h k).moves = s.moves ∧
    (State.sourceLocate s f h k).arb = s.arb ∧
    (State.sourceLocate s f h k).groups = s.groups ∧
    (State.sourceLocate s f h k).eng = s.eng ∧
    (State.sourceLocate s f h k).saf = s.saf ∧
    (State.sourceLocate s f h k).die = s.die ∧
    (State.sourceLocate s f h k).fld = s.fld ∧
    (State.sourceLocate s f h k).twin = s.twin ∧
    (State.sourceLocate s f h k).scs = s.scs ∧
    (State.sourceLocate s f h k).time = s.time ∧
    (State.sourceLocate s f h k).host.keys = s.host.keys ∧
    (State.sourceLocate s f h k).host.parQueue = s.host.parQueue := by
  generalize hT : State.sourceLocate s f h k = res
  unfold State.sourceLocate at hT
  try dsimp only at hT
  repeat' split at hT
  all_goals subst hT
  all_goals (try simp)
  all_goals (repeat' split)
  all_goals (try simp)

@[simp] theorem State.sourceLocate_idents (s : State) (f : RxFrame) (h : Hdr) (k : Int) : (State.sourceLocate s f h k).idents = s.idents := by
  generalize hT : State.sourceLocate s f h k = res
  unfold State.sourceLocate at hT
  try dsimp only at hT
  repeat' split at hT
  all_goals subst hT
  all_goals (try simp)
  all_goals (repeat' split)
  all_goals (try simp)
  all_goals (try rfl)
  all_goals (try exact State.idents_eq _ _ (by simp))
  all_goals (try simp [Session.ident])
  all_goals (try simp [Session.ident, State.session])
  all_goals (try simp [State.idents, State.session, Session.ident])

end Sys2Proof.Machine
end

