-- ==== Sys2Proof/Laws/FrameDyn.lean ====
section
/-! SUPPORT. What the operations of Machine/Dyn.lean leave unchanged: one rule per operation. -/

namespace Sys2Proof.Machine

@[simp] theorem State.countDyn_frame (s0 : State) (f : RxFrame) (v : Verdict) :
    (State.countDyn s0 f v).pending = s0.pending ∧
    (State.countDyn s0 f v).out = s0.out ∧
    (State.countDyn s0 f v).freeCtr = s0.freeCtr ∧
    (State.countDyn s0 f v).coreTicks = s0.coreTicks ∧
    (State.countDyn s0 f v).params = s0.params ∧
    (State.countDyn s0 f v).cyc = s0.cyc ∧
    (State.countDyn s0 f v).boot = s0.boot ∧
    (State.countDyn s0 f v).segs = s0.segs ∧
    (State.countDyn s0 f v).opening = s0.opening ∧
    (State.countDyn s0 f v).fbs = s0.fbs ∧
    (State.countDyn s0 f v).axes = s0.axes ∧
    (State.countDyn s0 f v).steps = s0.steps ∧
    (State.countDyn s0 f v).line = s0.line ∧
    (State.countDyn s0 f v).moves = s0.moves ∧
    (State.countDyn s0 f v).arb = s0.arb ∧
    (State.countDyn s0 f v).groups = s0.groups ∧
    (State.countDyn s0 f v).eng = s0.eng ∧
    (State.countDyn s0 f v).saf = s0.saf ∧
    (State.countDyn s0 f v).die = s0.die ∧
    (State.countDyn s0 f v).fld = s0.fld ∧
    (State.countDyn s0 f v).twin = s0.twin ∧
    (State.countDyn s0 f v).scs = s0.scs ∧
    (State.countDyn s0 f v).time = s0.time ∧
    (State.countDyn s0 f v).host = s0.host := by
  generalize hT : State.countDyn s0 f v = res
  unfold State.countDyn at hT
  try dsimp only at hT
  repeat' split at hT
  all_goals subst hT
  all_goals (try simp)
  all_goals (repeat' split)
  all_goals (try simp)

@[simp] theorem State.countDyn_idents (s0 : State) (f : RxFrame) (v : Verdict) : (State.countDyn s0 f v).idents = s0.idents := State.idents_eq _ _ (by simp)

@[simp] theorem State.ackDyn_frame (s : State) (n dest : Nat) (pl : List Byte) :
    (State.ackDyn s n dest pl).pending = s.pending ∧
    (State.ackDyn s n dest pl).out = s.out ∧
    (State.ackDyn s n dest pl).freeCtr = s.freeCtr ∧
    (State.ackDyn s n dest pl).coreTicks = s.coreTicks ∧
    (State.ackDyn s n dest pl).params = s.params ∧
    (State.ackDyn s n dest pl).cyc = s.cyc ∧
    (State.ackDyn s n dest pl).boot = s.boot ∧
    (State.ackDyn s n dest pl).ports = s.ports ∧
    (State.ackDyn s n dest pl).opening = s.opening ∧
    (State.ackDyn s n dest pl).fbs = s.fbs ∧
    (State.ackDyn s n dest pl).axes = s.axes ∧
    (State.ackDyn s n dest pl).steps = s.steps ∧
    (State.ackDyn s n dest pl).line = s.line ∧
    (State.ackDyn s n dest pl).moves = s.moves ∧
    (State.ackDyn s n dest pl).arb = s.arb ∧
    (State.ackDyn s n dest pl).groups = s.groups ∧
    (State.ackDyn s n dest pl).eng = s.eng ∧
    (State.ackDyn s n dest pl).saf = s.saf ∧
    (State.ackDyn s n dest pl).die = s.die ∧
    (State.ackDyn s n dest pl).fld = s.fld ∧
    (State.ackDyn s n dest pl).twin = s.twin ∧
    (State.ackDyn s n dest pl).scs = s.scs ∧
    (State.ackDyn s n dest pl).time = s.time ∧
    (State.ackDyn s n dest pl).host = s.host := by
  generalize hT : State.ackDyn s n dest pl = res
  unfold State.ackDyn at hT
  try dsimp only at hT
  repeat' split at hT
  all_goals subst hT
  all_goals (try simp)
  all_goals (repeat' split)
  all_goals (try simp)

@[simp] theorem State.ackDyn_idents (s : State) (n dest : Nat) (pl : List Byte) : (State.ackDyn s n dest pl).idents = s.idents := State.idents_eq _ _ (by simp)

@[simp] theorem State.answered_frame (s : State) (n src req : Nat) :
    (State.answered s n src req).pending = s.pending ∧
    (State.answered s n src req).out = s.out ∧
    (State.answered s n src req).freeCtr = s.freeCtr ∧
    (State.answered s n src req).coreTicks = s.coreTicks ∧
    (State.answered s n src req).params = s.params ∧
    (State.answered s n src req).cyc = s.cyc ∧
    (State.answered s n src req).boot = s.boot ∧
    (State.answered s n src req).ports = s.ports ∧
    (State.answered s n src req).opening = s.opening ∧
    (State.answered s n src req).fbs = s.fbs ∧
    (State.answered s n src req).axes = s.axes ∧
    (State.answered s n src req).steps = s.steps ∧
    (State.answered s n src req).line = s.line ∧
    (State.answered s n src req).moves = s.moves ∧
    (State.answered s n src req).arb = s.arb ∧
    (State.answered s n src req).groups = s.groups ∧
    (State.answered s n src req).eng = s.eng ∧
    (State.answered s n src req).saf = s.saf ∧
    (State.answered s n src req).die = s.die ∧
    (State.answered s n src req).fld = s.fld ∧
    (State.answered s n src req).twin = s.twin ∧
    (State.answered s n src req).scs = s.scs ∧
    (State.answered s n src req).time = s.time ∧
    (State.answered s n src req).host = s.host := by
  generalize hT : State.answered s n src req = res
  unfold State.answered at hT
  try dsimp only at hT
  repeat' split at hT
  all_goals subst hT
  all_goals (try simp)
  all_goals (repeat' split)
  all_goals (try simp)

@[simp] theorem State.answered_idents (s : State) (n src req : Nat) : (State.answered s n src req).idents = s.idents := State.idents_eq _ _ (by simp)

@[simp] theorem State.sendDyn_frame (s : State) (n i : Nat) (m : DynMsg) :
    (State.sendDyn s n i m).pending = s.pending ∧
    (State.sendDyn s n i m).params = s.params ∧
    (State.sendDyn s n i m).boot = s.boot ∧
    (State.sendDyn s n i m).ports = s.ports ∧
    (State.sendDyn s n i m).opening = s.opening ∧
    (State.sendDyn s n i m).fbs = s.fbs ∧
    (State.sendDyn s n i m).steps = s.steps ∧
    (State.sendDyn s n i m).moves = s.moves ∧
    (State.sendDyn s n i m).arb = s.arb ∧
    (State.sendDyn s n i m).groups = s.groups ∧
    (State.sendDyn s n i m).saf = s.saf ∧
    (State.sendDyn s n i m).die = s.die ∧
    (State.sendDyn s n i m).fld = s.fld ∧
    (State.sendDyn s n i m).twin = s.twin ∧
    (State.sendDyn s n i m).scs = s.scs ∧
    (State.sendDyn s n i m).host.keys = s.host.keys ∧
    (State.sendDyn s n i m).host.parQueue = s.host.parQueue ∧
    (State.sendDyn s n i m).cyc.cycle = s.cyc.cycle ∧
    (State.sendDyn s n i m).cyc.running = s.cyc.running := by
  generalize hT : State.sendDyn s n i m = res
  unfold State.sendDyn at hT
  try dsimp only at hT
  repeat' split at hT
  all_goals subst hT
  all_goals (try simp)
  all_goals (repeat' split)
  all_goals (try simp)

@[simp] theorem State.sendDyn_idents (s : State) (n i : Nat) (m : DynMsg) : (State.sendDyn s n i m).idents = s.idents := by
  generalize hT : State.sendDyn s n i m = res
  unfold State.sendDyn at hT
  try dsimp only at hT
  repeat' split at hT
  all_goals subst hT
  all_goals (try simp)
  all_goals (repeat' split)
  all_goals (try simp)
  all_goals (try rfl)
  all_goals (try exact State.idents_eq _ _ (by simp))
  all_goals (try simp [Session.ident])
  all_goals (try simp [Session.ident, State.session])
  all_goals (try simp [State.idents, State.session, Session.ident])

@[simp] theorem State.standbyMeasured_frame (s : State) (n : Nat) (portB : Bool) (rtt turn fwd : Nat) :
    (State.standbyMeasured s n portB rtt turn fwd).pending = s.pending ∧
    (State.standbyMeasured s n portB rtt turn fwd).out = s.out ∧
    (State.standbyMeasured s n portB rtt turn fwd).freeCtr = s.freeCtr ∧
    (State.standbyMeasured s n portB rtt turn fwd).coreTicks = s.coreTicks ∧
    (State.standbyMeasured s n portB rtt turn fwd).params = s.params ∧
    (State.standbyMeasured s n portB rtt turn fwd).cyc = s.cyc ∧
    (State.standbyMeasured s n portB rtt turn fwd).boot = s.boot ∧
    (State.standbyMeasured s n portB rtt turn fwd).ports = s.ports ∧
    (State.standbyMeasured s n portB rtt turn fwd).opening = s.opening ∧
    (State.standbyMeasured s n portB rtt turn fwd).fbs = s.fbs ∧
    (State.standbyMeasured s n portB rtt turn fwd).axes = s.axes ∧
    (State.standbyMeasured s n portB rtt turn fwd).steps = s.steps ∧
    (State.standbyMeasured s n portB rtt turn fwd).line = s.line ∧
    (State.standbyMeasured s n portB rtt turn fwd).moves = s.moves ∧
    (State.standbyMeasured s n portB rtt turn fwd).arb = s.arb ∧
    (State.standbyMeasured s n portB rtt turn fwd).groups = s.groups ∧
    (State.standbyMeasured s n portB rtt turn fwd).eng = s.eng ∧
    (State.standbyMeasured s n portB rtt turn fwd).saf = s.saf ∧
    (State.standbyMeasured s n portB rtt turn fwd).die = s.die ∧
    (State.standbyMeasured s n portB rtt turn fwd).fld = s.fld ∧
    (State.standbyMeasured s n portB rtt turn fwd).scs = s.scs ∧
    (State.standbyMeasured s n portB rtt turn fwd).time = s.time ∧
    (State.standbyMeasured s n portB rtt turn fwd).host = s.host ∧
    (State.standbyMeasured s n portB rtt turn fwd).twin.standby = s.twin.standby ∧
    (State.standbyMeasured s n portB rtt turn fwd).twin.onMove = s.twin.onMove := by
  generalize hT : State.standbyMeasured s n portB rtt turn fwd = res
  unfold State.standbyMeasured at hT
  try dsimp only at hT
  repeat' split at hT
  all_goals subst hT
  all_goals (try simp)
  all_goals (repeat' split)
  all_goals (try simp)

@[simp] theorem State.standbyMeasured_idents (s : State) (n : Nat) (portB : Bool) (rtt turn fwd : Nat) : (State.standbyMeasured s n portB rtt turn fwd).idents = s.idents := State.idents_eq _ _ (by simp)

@[simp] theorem State.lamGuess_frame (s : State) (n : Nat) :
    (State.lamGuess s n).pending = s.pending ∧
    (State.lamGuess s n).out = s.out ∧
    (State.lamGuess s n).freeCtr = s.freeCtr ∧
    (State.lamGuess s n).coreTicks = s.coreTicks ∧
    (State.lamGuess s n).params = s.params ∧
    (State.lamGuess s n).cyc = s.cyc ∧
    (State.lamGuess s n).boot = s.boot ∧
    (State.lamGuess s n).ports = s.ports ∧
    (State.lamGuess s n).opening = s.opening ∧
    (State.lamGuess s n).fbs = s.fbs ∧
    (State.lamGuess s n).axes = s.axes ∧
    (State.lamGuess s n).steps = s.steps ∧
    (State.lamGuess s n).line = s.line ∧
    (State.lamGuess s n).moves = s.moves ∧
    (State.lamGuess s n).arb = s.arb ∧
    (State.lamGuess s n).groups = s.groups ∧
    (State.lamGuess s n).eng = s.eng ∧
    (State.lamGuess s n).saf = s.saf ∧
    (State.lamGuess s n).die = s.die ∧
    (State.lamGuess s n).fld = s.fld ∧
    (State.lamGuess s n).twin = s.twin ∧
    (State.lamGuess s n).scs = s.scs ∧
    (State.lamGuess s n).time = s.time ∧
    (State.lamGuess s n).host = s.host := by
  generalize hT : State.lamGuess s n = res
  unfold State.lamGuess at hT
  try dsimp only at hT
  repeat' split at hT
  all_goals subst hT
  all_goals (try simp)
  all_goals (repeat' split)
  all_goals (try simp)

@[simp] theorem State.lamGuess_idents (s : State) (n : Nat) : (State.lamGuess s n).idents = s.idents := State.idents_eq _ _ (by simp)

@[simp] theorem State.endActivation_frame (s : State) (n status : Nat) :
    (State.endActivation s n status).pending = s.pending ∧
    (State.endActivation s n status).freeCtr = s.freeCtr ∧
    (State.endActivation s n status).coreTicks = s.coreTicks ∧
    (State.endActivation s n status).params = s.params ∧
    (State.endActivation s n status).cyc = s.cyc ∧
    (State.endActivation s n status).boot = s.boot ∧
    (State.endActivation s n status).ports = s.ports ∧
    (State.endActivation s n status).opening = s.opening ∧
    (State.endActivation s n status).fbs = s.fbs ∧
    (State.endActivation s n status).axes = s.axes ∧
    (State.endActivation s n status).steps = s.steps ∧
    (State.endActivation s n status).line = s.line ∧
    (State.endActivation s n status).moves = s.moves ∧
    (State.endActivation s n status).arb = s.arb ∧
    (State.endActivation s n status).groups = s.groups ∧
    (State.endActivation s n status).eng = s.eng ∧
    (State.endActivation s n status).saf = s.saf ∧
    (State.endActivation s n status).die = s.die ∧
    (State.endActivation s n status).fld = s.fld ∧
    (State.endActivation s n status).twin = s.twin ∧
    (State.endActivation s n status).scs = s.scs ∧
    (State.endActivation s n status).time = s.time ∧
    (State.endActivation s n status).host.keys = s.host.keys ∧
    (State.endActivation s n status).host.parQueue = s.host.parQueue := by
  generalize hT : State.endActivation s n status = res
  unfold State.endActivation at hT
  try dsimp only at hT
  repeat' split at hT
  all_goals subst hT
  all_goals (try simp)
  all_goals (repeat' split)
  all_goals (try simp)

@[simp] theorem State.endActivation_idents (s : State) (n status : Nat) : (State.endActivation s n status).idents = s.idents := by
  generalize hT : State.endActivation s n status = res
  unfold State.endActivation at hT
  try dsimp only at hT
  repeat' split at hT
  all_goals subst hT
  all_goals (try simp)
  all_goals (repeat' split)
  all_goals (try simp)
  all_goals (try rfl)
  all_goals (try exact State.idents_eq _ _ (by simp))
  all_goals (try simp [Session.ident])
  all_goals (try simp [Session.ident, State.session])
  all_goals (try simp [State.idents, State.session, Session.ident])

@[simp] theorem State.surveyTake_frame (s : State) (n : Nat) (pl : List Byte) (rtt turn fwd : Nat) :
    (State.surveyTake s n pl rtt turn fwd).pending = s.pending ∧
    (State.surveyTake s n pl rtt turn fwd).params = s.params ∧
    (State.surveyTake s n pl rtt turn fwd).boot = s.boot ∧
    (State.surveyTake s n pl rtt turn fwd).ports = s.ports ∧
    (State.surveyTake s n pl rtt turn fwd).opening = s.opening ∧
    (State.surveyTake s n pl rtt turn fwd).fbs = s.fbs ∧
    (State.surveyTake s n pl rtt turn fwd).steps = s.steps ∧
    (State.surveyTake s n pl rtt turn fwd).moves = s.moves ∧
    (State.surveyTake s n pl rtt turn fwd).arb = s.arb ∧
    (State.surveyTake s n pl rtt turn fwd).groups = s.groups ∧
    (State.surveyTake s n pl rtt turn fwd).saf = s.saf ∧
    (State.surveyTake s n pl rtt turn fwd).die = s.die ∧
    (State.surveyTake s n pl rtt turn fwd).fld = s.fld ∧
    (State.surveyTake s n pl rtt turn fwd).scs = s.scs ∧
    (State.surveyTake s n pl rtt turn fwd).twin.standby = s.twin.standby ∧
    (State.surveyTake s n pl rtt turn fwd).twin.onMove = s.twin.onMove ∧
    (State.surveyTake s n pl rtt turn fwd).host.keys = s.host.keys ∧
    (State.surveyTake s n pl rtt turn fwd).host.parQueue = s.host.parQueue ∧
    (State.surveyTake s n pl rtt turn fwd).cyc.cycle = s.cyc.cycle ∧
    (State.surveyTake s n pl rtt turn fwd).cyc.running = s.cyc.running := by
  generalize hT : State.surveyTake s n pl rtt turn fwd = res
  unfold State.surveyTake at hT
  try dsimp only at hT
  repeat' split at hT
  all_goals subst hT
  all_goals (try simp)
  all_goals (repeat' split)
  all_goals (try simp)

@[simp] theorem State.surveyTake_idents (s : State) (n : Nat) (pl : List Byte) (rtt turn fwd : Nat) : (State.surveyTake s n pl rtt turn fwd).idents = s.idents := by
  generalize hT : State.surveyTake s n pl rtt turn fwd = res
  unfold State.surveyTake at hT
  try dsimp only at hT
  repeat' split at hT
  all_goals subst hT
  all_goals (try simp)
  all_goals (repeat' split)
  all_goals (try simp)
  all_goals (try rfl)
  all_goals (try exact State.idents_eq _ _ (by simp))
  all_goals (try simp [Session.ident])
  all_goals (try simp [Session.ident, State.session])
  all_goals (try simp [State.idents, State.session, Session.ident])

@[simp] theorem State.runTake_frame (s : State) (n : Nat) (pl : List Byte) (rtt turn fwd : Nat) :
    (State.runTake s n pl rtt turn fwd).pending = s.pending ∧
    (State.runTake s n pl rtt turn fwd).freeCtr = s.freeCtr ∧
    (State.runTake s n pl rtt turn fwd).coreTicks = s.coreTicks ∧
    (State.runTake s n pl rtt turn fwd).params = s.params ∧
    (State.runTake s n pl rtt turn fwd).cyc = s.cyc ∧
    (State.runTake s n pl rtt turn fwd).boot = s.boot ∧
    (State.runTake s n pl rtt turn fwd).ports = s.ports ∧
    (State.runTake s n pl rtt turn fwd).opening = s.opening ∧
    (State.runTake s n pl rtt turn fwd).fbs = s.fbs ∧
    (State.runTake s n pl rtt turn fwd).steps = s.steps ∧
    (State.runTake s n pl rtt turn fwd).line = s.line ∧
    (State.runTake s n pl rtt turn fwd).moves = s.moves ∧
    (State.runTake s n pl rtt turn fwd).arb = s.arb ∧
    (State.runTake s n pl rtt turn fwd).groups = s.groups ∧
    (State.runTake s n pl rtt turn fwd).eng = s.eng ∧
    (State.runTake s n pl rtt turn fwd).saf = s.saf ∧
    (State.runTake s n pl rtt turn fwd).die = s.die ∧
    (State.runTake s n pl rtt turn fwd).fld = s.fld ∧
    (State.runTake s n pl rtt turn fwd).scs = s.scs ∧
    (State.runTake s n pl rtt turn fwd).time = s.time ∧
    (State.runTake s n pl rtt turn fwd).twin.standby = s.twin.standby ∧
    (State.runTake s n pl rtt turn fwd).twin.onMove = s.twin.onMove ∧
    (State.runTake s n pl rtt turn fwd).host.keys = s.host.keys ∧
    (State.runTake s n pl rtt turn fwd).host.parQueue = s.host.parQueue := by
  generalize hT : State.runTake s n pl rtt turn fwd = res
  unfold State.runTake at hT
  try dsimp only at hT
  repeat' split at hT
  all_goals subst hT
  all_goals (try simp)
  all_goals (repeat' split)
  all_goals (try simp)

@[simp] theorem State.runTake_idents (s : State) (n : Nat) (pl : List Byte) (rtt turn fwd : Nat) : (State.runTake s n pl rtt turn fwd).idents = s.idents := by
  generalize hT : State.runTake s n pl rtt turn fwd = res
  unfold State.runTake at hT
  try dsimp only at hT
  repeat' split at hT
  all_goals subst hT
  all_goals (try simp)
  all_goals (repeat' split)
  all_goals (try simp)
  all_goals (try rfl)
  all_goals (try exact State.idents_eq _ _ (by simp))
  all_goals (try simp [Session.ident])
  all_goals (try simp [Session.ident, State.session])
  all_goals (try simp [State.idents, State.session, Session.ident])

@[simp] theorem State.surveyOpen_frame (s : State) (n : Nat) :
    (State.surveyOpen s n).params = s.params ∧
    (State.surveyOpen s n).boot = s.boot ∧
    (State.surveyOpen s n).ports = s.ports ∧
    (State.surveyOpen s n).opening = s.opening ∧
    (State.surveyOpen s n).fbs = s.fbs ∧
    (State.surveyOpen s n).steps = s.steps ∧
    (State.surveyOpen s n).moves = s.moves ∧
    (State.surveyOpen s n).arb = s.arb ∧
    (State.surveyOpen s n).groups = s.groups ∧
    (State.surveyOpen s n).die = s.die ∧
    (State.surveyOpen s n).fld = s.fld ∧
    (State.surveyOpen s n).twin = s.twin ∧
    (State.surveyOpen s n).scs = s.scs ∧
    (State.surveyOpen s n).saf.endgame = s.saf.endgame ∧
    (State.surveyOpen s n).saf.silent = s.saf.silent ∧
    (State.surveyOpen s n).host.keys = s.host.keys ∧
    (State.surveyOpen s n).host.parQueue = s.host.parQueue ∧
    (State.surveyOpen s n).cyc.running = s.cyc.running := by
  generalize hT : State.surveyOpen s n = res
  unfold State.surveyOpen at hT
  try dsimp only at hT
  repeat' split at hT
  all_goals subst hT
  all_goals (try simp)
  all_goals (repeat' split)
  all_goals (try simp)

@[simp] theorem State.surveyOpen_idents (s : State) (n : Nat) : (State.surveyOpen s n).idents = s.idents := by
  generalize hT : State.surveyOpen s n = res
  unfold State.surveyOpen at hT
  try dsimp only at hT
  repeat' split at hT
  all_goals subst hT
  all_goals (try simp)
  all_goals (repeat' split)
  all_goals (try simp)
  all_goals (try rfl)
  all_goals (try exact State.idents_eq _ _ (by simp))
  all_goals (try simp [Session.ident])
  all_goals (try simp [Session.ident, State.session])
  all_goals (try simp [State.idents, State.session, Session.ident])

@[simp] theorem State.surFails_frame (s : State) (n : Nat) :
    (State.surFails s n).pending = s.pending ∧
    (State.surFails s n).freeCtr = s.freeCtr ∧
    (State.surFails s n).coreTicks = s.coreTicks ∧
    (State.surFails s n).params = s.params ∧
    (State.surFails s n).cyc = s.cyc ∧
    (State.surFails s n).boot = s.boot ∧
    (State.surFails s n).ports = s.ports ∧
    (State.surFails s n).opening = s.opening ∧
    (State.surFails s n).fbs = s.fbs ∧
    (State.surFails s n).steps = s.steps ∧
    (State.surFails s n).line = s.line ∧
    (State.surFails s n).moves = s.moves ∧
    (State.surFails s n).arb = s.arb ∧
    (State.surFails s n).groups = s.groups ∧
    (State.surFails s n).eng = s.eng ∧
    (State.surFails s n).saf = s.saf ∧
    (State.surFails s n).die = s.die ∧
    (State.surFails s n).fld = s.fld ∧
    (State.surFails s n).twin = s.twin ∧
    (State.surFails s n).scs = s.scs ∧
    (State.surFails s n).time = s.time ∧
    (State.surFails s n).host.keys = s.host.keys ∧
    (State.surFails s n).host.parQueue = s.host.parQueue := by
  generalize hT : State.surFails s n = res
  unfold State.surFails at hT
  try dsimp only at hT
  repeat' split at hT
  all_goals subst hT
  all_goals (try simp)
  all_goals (repeat' split)
  all_goals (try simp)

@[simp] theorem State.surFails_idents (s : State) (n : Nat) : (State.surFails s n).idents = s.idents := by
  generalize hT : State.surFails s n = res
  unfold State.surFails at hT
  try dsimp only at hT
  repeat' split at hT
  all_goals subst hT
  all_goals (try simp)
  all_goals (repeat' split)
  all_goals (try simp)
  all_goals (try rfl)
  all_goals (try exact State.idents_eq _ _ (by simp))
  all_goals (try simp [Session.ident])
  all_goals (try simp [Session.ident, State.session])
  all_goals (try simp [State.idents, State.session, Session.ident])

end Sys2Proof.Machine
end

