-- ==== Sys2Proof/Laws/FrameOpening.lean ====
section
/-! SUPPORT. What the operations of Machine/Opening.lean leave unchanged: one rule per operation. -/

namespace Sys2Proof.Machine

@[simp] theorem State.applyNet_frame (s : State) :
    (State.applyNet s).freeCtr = s.freeCtr ∧
    (State.applyNet s).coreTicks = s.coreTicks ∧
    (State.applyNet s).cyc = s.cyc ∧
    (State.applyNet s).ports = s.ports ∧
    (State.applyNet s).opening = s.opening ∧
    (State.applyNet s).fbs = s.fbs ∧
    (State.applyNet s).axes = s.axes ∧
    (State.applyNet s).steps = s.steps ∧
    (State.applyNet s).line = s.line ∧
    (State.applyNet s).moves = s.moves ∧
    (State.applyNet s).arb = s.arb ∧
    (State.applyNet s).groups = s.groups ∧
    (State.applyNet s).eng = s.eng ∧
    (State.applyNet s).die = s.die ∧
    (State.applyNet s).fld = s.fld ∧
    (State.applyNet s).twin = s.twin ∧
    (State.applyNet s).scs = s.scs ∧
    (State.applyNet s).time = s.time ∧
    (State.applyNet s).saf.endgame = s.saf.endgame ∧
    (State.applyNet s).saf.silent = s.saf.silent ∧
    (State.applyNet s).boot.recovery = s.boot.recovery ∧
    (State.applyNet s).host.keys = s.host.keys ∧
    (State.applyNet s).host.parQueue = s.host.parQueue := by
  generalize hT : State.applyNet s = res
  unfold State.applyNet at hT
  try dsimp only at hT
  repeat' split at hT
  all_goals subst hT
  all_goals (try simp)
  all_goals (repeat' split)
  all_goals (try simp)

@[simp] theorem State.applyNet_idents (s : State) : (State.applyNet s).idents = s.idents := by
  generalize hT : State.applyNet s = res
  unfold State.applyNet at hT
  try dsimp only at hT
  repeat' split at hT
  all_goals subst hT
  all_goals (try simp)
  all_goals (repeat' split)
  all_goals (try simp)
  all_goals (try rfl)
  all_goals (try exact State.idents_eq _ _ (by simp))
  all_goals (try simp [Session.ident])
  all_goals (try simp [Session.ident, State.session])
  all_goals (try simp [State.idents, State.session, Session.ident])

@[simp] theorem State.beginOpening_frame (s : State) :
    (State.beginOpening s).fbs = s.fbs ∧
    (State.beginOpening s).steps = s.steps ∧
    (State.beginOpening s).moves = s.moves ∧
    (State.beginOpening s).arb = s.arb ∧
    (State.beginOpening s).groups = s.groups ∧
    (State.beginOpening s).die = s.die ∧
    (State.beginOpening s).fld = s.fld ∧
    (State.beginOpening s).scs = s.scs ∧
    (State.beginOpening s).saf.endgame = s.saf.endgame ∧
    (State.beginOpening s).saf.silent = s.saf.silent ∧
    (State.beginOpening s).boot.recovery = s.boot.recovery ∧
    (State.beginOpening s).host.keys = s.host.keys ∧
    (State.beginOpening s).host.parQueue = s.host.parQueue ∧
    (State.beginOpening s).cyc.cycle = s.cyc.cycle := by
  generalize hT : State.beginOpening s = res
  unfold State.beginOpening at hT
  try dsimp only at hT
  repeat' split at hT
  all_goals subst hT
  all_goals (try simp)
  all_goals (repeat' split)
  all_goals (try simp)

@[simp] theorem State.beginOpening_idents (s : State) : (State.beginOpening s).idents = s.idents := by
  generalize hT : State.beginOpening s = res
  unfold State.beginOpening at hT
  try dsimp only at hT
  repeat' split at hT
  all_goals subst hT
  all_goals (try simp)
  all_goals (repeat' split)
  all_goals (try simp)
  all_goals (try rfl)
  all_goals (try exact State.idents_eq _ _ (by simp))
  all_goals (try simp [Session.ident])
  all_goals (try simp [Session.ident, State.session])
  all_goals (try simp [State.idents, State.session, Session.ident])

@[simp] theorem State.becomeStandby_frame (s0 : State) :
    (State.becomeStandby s0).pending = s0.pending ∧
    (State.becomeStandby s0).out = s0.out ∧
    (State.becomeStandby s0).freeCtr = s0.freeCtr ∧
    (State.becomeStandby s0).coreTicks = s0.coreTicks ∧
    (State.becomeStandby s0).params = s0.params ∧
    (State.becomeStandby s0).cyc = s0.cyc ∧
    (State.becomeStandby s0).boot = s0.boot ∧
    (State.becomeStandby s0).ports = s0.ports ∧
    (State.becomeStandby s0).segs = s0.segs ∧
    (State.becomeStandby s0).axes = s0.axes ∧
    (State.becomeStandby s0).steps = s0.steps ∧
    (State.becomeStandby s0).line = s0.line ∧
    (State.becomeStandby s0).moves = s0.moves ∧
    (State.becomeStandby s0).arb = s0.arb ∧
    (State.becomeStandby s0).groups = s0.groups ∧
    (State.becomeStandby s0).eng = s0.eng ∧
    (State.becomeStandby s0).saf = s0.saf ∧
    (State.becomeStandby s0).die = s0.die ∧
    (State.becomeStandby s0).fld = s0.fld ∧
    (State.becomeStandby s0).scs = s0.scs ∧
    (State.becomeStandby s0).time = s0.time ∧
    (State.becomeStandby s0).host = s0.host := by
  generalize hT : State.becomeStandby s0 = res
  unfold State.becomeStandby at hT
  try dsimp only at hT
  repeat' split at hT
  all_goals subst hT
  all_goals (try simp)
  all_goals (repeat' split)
  all_goals (try simp)

@[simp] theorem State.becomeStandby_idents (s0 : State) : (State.becomeStandby s0).idents = s0.idents := State.idents_eq _ _ (by simp)

@[simp] theorem State.openingDone_frame (s : State) :
    (State.openingDone s).pending = s.pending ∧
    (State.openingDone s).params = s.params ∧
    (State.openingDone s).cyc = s.cyc ∧
    (State.openingDone s).ports = s.ports ∧
    (State.openingDone s).segs = s.segs ∧
    (State.openingDone s).fbs = s.fbs ∧
    (State.openingDone s).steps = s.steps ∧
    (State.openingDone s).moves = s.moves ∧
    (State.openingDone s).arb = s.arb ∧
    (State.openingDone s).saf = s.saf ∧
    (State.openingDone s).die = s.die ∧
    (State.openingDone s).fld = s.fld ∧
    (State.openingDone s).twin = s.twin ∧
    (State.openingDone s).scs = s.scs ∧
    (State.openingDone s).boot.recovery = s.boot.recovery ∧
    (State.openingDone s).host.keys = s.host.keys ∧
    (State.openingDone s).host.parQueue = s.host.parQueue := by
  generalize hT : State.openingDone s = res
  unfold State.openingDone at hT
  try dsimp only at hT
  repeat' split at hT
  all_goals subst hT
  all_goals (try simp)
  all_goals (repeat' split)
  all_goals (try simp)

@[simp] theorem State.openingDone_idents (s : State) : (State.openingDone s).idents = s.idents := by
  generalize hT : State.openingDone s = res
  unfold State.openingDone at hT
  try dsimp only at hT
  repeat' split at hT
  all_goals subst hT
  all_goals (try simp)
  all_goals (repeat' split)
  all_goals (try simp)
  all_goals (try rfl)
  all_goals (try exact State.idents_eq _ _ (by simp))
  all_goals (try simp [Session.ident])
  all_goals (try simp [Session.ident, State.session])
  all_goals (try simp [State.idents, State.session, Session.ident])

end Sys2Proof.Machine
end

