-- ==== Sys2Proof/Laws/FrameKeys.lean ====
section
/-! SUPPORT. What the operations of Machine/Keys.lean leave unchanged: one rule per operation. -/

namespace Sys2Proof.Machine

@[simp] theorem State.writeKeys_frame (s : State) (k : KeyStore) :
    (State.writeKeys s k).pending = s.pending ∧
    (State.writeKeys s k).freeCtr = s.freeCtr ∧
    (State.writeKeys s k).coreTicks = s.coreTicks ∧
    (State.writeKeys s k).params = s.params ∧
    (State.writeKeys s k).cyc = s.cyc ∧
    (State.writeKeys s k).ports = s.ports ∧
    (State.writeKeys s k).segs = s.segs ∧
    (State.writeKeys s k).opening = s.opening ∧
    (State.writeKeys s k).fbs = s.fbs ∧
    (State.writeKeys s k).axes = s.axes ∧
    (State.writeKeys s k).steps = s.steps ∧
    (State.writeKeys s k).line = s.line ∧
    (State.writeKeys s k).moves = s.moves ∧
    (State.writeKeys s k).arb = s.arb ∧
    (State.writeKeys s k).groups = s.groups ∧
    (State.writeKeys s k).eng = s.eng ∧
    (State.writeKeys s k).saf = s.saf ∧
    (State.writeKeys s k).die = s.die ∧
    (State.writeKeys s k).fld = s.fld ∧
    (State.writeKeys s k).twin = s.twin ∧
    (State.writeKeys s k).scs = s.scs ∧
    (State.writeKeys s k).time = s.time ∧
    (State.writeKeys s k).boot.recovery = s.boot.recovery ∧
    (State.writeKeys s k).host.parQueue = s.host.parQueue := by
  generalize hT : State.writeKeys s k = res
  unfold State.writeKeys at hT
  try dsimp only at hT
  repeat' split at hT
  all_goals subst hT
  all_goals (try simp)
  all_goals (repeat' split)
  all_goals (try simp)

@[simp] theorem State.writeKeys_idents (s : State) (k : KeyStore) : (State.writeKeys s k).idents = s.idents := by
  generalize hT : State.writeKeys s k = res
  unfold State.writeKeys at hT
  try dsimp only at hT
  repeat' split at hT
  all_goals subst hT
  all_goals (try simp)
  all_goals (repeat' split)
  all_goals (try simp)
  all_goals (try rfl)
  all_goals (try exact State.idents_eq _ _ (by simp))
  all_goals (try simp [Session.ident])
  all_goals (try simp [Session.ident, State.session])
  all_goals (try simp [State.idents, State.session, Session.ident])

@[simp] theorem State.takeKeys_frame (s : State) (keys : List (List Byte)) :
    (State.takeKeys s keys).pending = s.pending ∧
    (State.takeKeys s keys).freeCtr = s.freeCtr ∧
    (State.takeKeys s keys).coreTicks = s.coreTicks ∧
    (State.takeKeys s keys).params = s.params ∧
    (State.takeKeys s keys).cyc = s.cyc ∧
    (State.takeKeys s keys).ports = s.ports ∧
    (State.takeKeys s keys).segs = s.segs ∧
    (State.takeKeys s keys).opening = s.opening ∧
    (State.takeKeys s keys).fbs = s.fbs ∧
    (State.takeKeys s keys).axes = s.axes ∧
    (State.takeKeys s keys).steps = s.steps ∧
    (State.takeKeys s keys).line = s.line ∧
    (State.takeKeys s keys).moves = s.moves ∧
    (State.takeKeys s keys).arb = s.arb ∧
    (State.takeKeys s keys).groups = s.groups ∧
    (State.takeKeys s keys).eng = s.eng ∧
    (State.takeKeys s keys).saf = s.saf ∧
    (State.takeKeys s keys).die = s.die ∧
    (State.takeKeys s keys).fld = s.fld ∧
    (State.takeKeys s keys).twin = s.twin ∧
    (State.takeKeys s keys).scs = s.scs ∧
    (State.takeKeys s keys).time = s.time ∧
    (State.takeKeys s keys).boot.recovery = s.boot.recovery ∧
    (State.takeKeys s keys).host.parQueue = s.host.parQueue := by
  generalize hT : State.takeKeys s keys = res
  unfold State.takeKeys at hT
  try dsimp only at hT
  repeat' split at hT
  all_goals subst hT
  all_goals (try simp)
  all_goals (repeat' split)
  all_goals (try simp)

@[simp] theorem State.takeKeys_idents (s : State) (keys : List (List Byte)) : (State.takeKeys s keys).idents = s.idents := by
  generalize hT : State.takeKeys s keys = res
  unfold State.takeKeys at hT
  try dsimp only at hT
  repeat' split at hT
  all_goals subst hT
  all_goals (try simp)
  all_goals (repeat' split)
  all_goals (try simp)
  all_goals (try rfl)
  all_goals (try exact State.idents_eq _ _ (by simp))
  all_goals (try simp [Session.ident])
  all_goals (try simp [Session.ident, State.session])
  all_goals (try simp [State.idents, State.session, Session.ident])

end Sys2Proof.Machine
end

