-- ==== Sys2Proof/Laws/FrameNetCmd.lean ====
section
/-! SUPPORT. What the operations of Machine/NetCmd.lean leave unchanged: one rule per operation. -/

namespace Sys2Proof.Machine

@[simp] theorem State.planActivate_frame (s : State) (n : Nat) :
    (State.planActivate s n).pending = s.pending ∧
    (State.planActivate s n).out = s.out ∧
    (State.planActivate s n).freeCtr = s.freeCtr ∧
    (State.planActivate s n).coreTicks = s.coreTicks ∧
    (State.planActivate s n).params = s.params ∧
    (State.planActivate s n).cyc = s.cyc ∧
    (State.planActivate s n).boot = s.boot ∧
    (State.planActivate s n).ports = s.ports ∧
    (State.planActivate s n).opening = s.opening ∧
    (State.planActivate s n).fbs = s.fbs ∧
    (State.planActivate s n).axes = s.axes ∧
    (State.planActivate s n).steps = s.steps ∧
    (State.planActivate s n).line = s.line ∧
    (State.planActivate s n).moves = s.moves ∧
    (State.planActivate s n).arb = s.arb ∧
    (State.planActivate s n).groups = s.groups ∧
    (State.planActivate s n).eng = s.eng ∧
    (State.planActivate s n).saf = s.saf ∧
    (State.planActivate s n).die = s.die ∧
    (State.planActivate s n).fld = s.fld ∧
    (State.planActivate s n).twin = s.twin ∧
    (State.planActivate s n).scs = s.scs ∧
    (State.planActivate s n).time = s.time ∧
    (State.planActivate s n).host = s.host := by
  generalize hT : State.planActivate s n = res
  unfold State.planActivate at hT
  try dsimp only at hT
  repeat' split at hT
  all_goals subst hT
  all_goals (try simp)
  all_goals (repeat' split)
  all_goals (try simp)

@[simp] theorem State.planActivate_idents (s : State) (n : Nat) : (State.planActivate s n).idents = s.idents := State.idents_eq _ _ (by simp)

@[simp] theorem State.admitNode_frame (s : State) (n a : Nat) (serial : BitVec 48) :
    (State.admitNode s n a serial).pending = s.pending ∧
    (State.admitNode s n a serial).freeCtr = s.freeCtr ∧
    (State.admitNode s n a serial).coreTicks = s.coreTicks ∧
    (State.admitNode s n a serial).params = s.params ∧
    (State.admitNode s n a serial).cyc = s.cyc ∧
    (State.admitNode s n a serial).boot = s.boot ∧
    (State.admitNode s n a serial).ports = s.ports ∧
    (State.admitNode s n a serial).opening = s.opening ∧
    (State.admitNode s n a serial).fbs = s.fbs ∧
    (State.admitNode s n a serial).axes = s.axes ∧
    (State.admitNode s n a serial).steps = s.steps ∧
    (State.admitNode s n a serial).line = s.line ∧
    (State.admitNode s n a serial).moves = s.moves ∧
    (State.admitNode s n a serial).arb = s.arb ∧
    (State.admitNode s n a serial).groups = s.groups ∧
    (State.admitNode s n a serial).eng = s.eng ∧
    (State.admitNode s n a serial).saf = s.saf ∧
    (State.admitNode s n a serial).die = s.die ∧
    (State.admitNode s n a serial).fld = s.fld ∧
    (State.admitNode s n a serial).twin = s.twin ∧
    (State.admitNode s n a serial).scs = s.scs ∧
    (State.admitNode s n a serial).time = s.time ∧
    (State.admitNode s n a serial).host.keys = s.host.keys ∧
    (State.admitNode s n a serial).host.parQueue = s.host.parQueue := by
  generalize hT : State.admitNode s n a serial = res
  unfold State.admitNode at hT
  try dsimp only at hT
  repeat' split at hT
  all_goals subst hT
  all_goals (try simp)
  all_goals (repeat' split)
  all_goals (try simp)

@[simp] theorem State.admitNode_idents (s : State) (n a : Nat) (serial : BitVec 48) : (State.admitNode s n a serial).idents = s.idents := by
  generalize hT : State.admitNode s n a serial = res
  unfold State.admitNode at hT
  try dsimp only at hT
  repeat' split at hT
  all_goals subst hT
  all_goals (try simp)
  all_goals (repeat' split)
  all_goals (try simp)
  all_goals (try rfl)
  all_goals (try exact State.idents_eq _ _ (by simp))
  all_goals (try simp [Session.ident])
  all_goals (try simp [Session.ident, State.session])
  all_goals (try simp [State.idents, State.session, Session.ident])

@[simp] theorem State.activate_frame (s : State) (n : Nat) :
    (State.activate s n).freeCtr = s.freeCtr ∧
    (State.activate s n).coreTicks = s.coreTicks ∧
    (State.activate s n).params = s.params ∧
    (State.activate s n).cyc = s.cyc ∧
    (State.activate s n).boot = s.boot ∧
    (State.activate s n).ports = s.ports ∧
    (State.activate s n).opening = s.opening ∧
    (State.activate s n).fbs = s.fbs ∧
    (State.activate s n).steps = s.steps ∧
    (State.activate s n).line = s.line ∧
    (State.activate s n).moves = s.moves ∧
    (State.activate s n).arb = s.arb ∧
    (State.activate s n).groups = s.groups ∧
    (State.activate s n).eng = s.eng ∧
    (State.activate s n).die = s.die ∧
    (State.activate s n).fld = s.fld ∧
    (State.activate s n).twin = s.twin ∧
    (State.activate s n).scs = s.scs ∧
    (State.activate s n).time = s.time ∧
    (State.activate s n).saf.endgame = s.saf.endgame ∧
    (State.activate s n).saf.silent = s.saf.silent ∧
    (State.activate s n).host.keys = s.host.keys ∧
    (State.activate s n).host.parQueue = s.host.parQueue := by
  generalize hT : State.activate s n = res
  unfold State.activate at hT
  try dsimp only at hT
  repeat' split at hT
  all_goals subst hT
  all_goals (try simp)
  all_goals (repeat' split)
  all_goals (try simp)

@[simp] theorem State.activate_idents (s : State) (n : Nat) : (State.activate s n).idents = s.idents := by
  generalize hT : State.activate s n = res
  unfold State.activate at hT
  try dsimp only at hT
  repeat' split at hT
  all_goals subst hT
  all_goals (try simp)
  all_goals (repeat' split)
  all_goals (try simp)
  all_goals (try rfl)
  all_goals (try exact State.idents_eq _ _ (by simp))
  all_goals (try simp [Session.ident])
  all_goals (try simp [Session.ident, State.session])
  all_goals (try simp [State.idents, State.session, Session.ident])

@[simp] theorem State.holdForTestOne_frame (n : Nat) (s : State) (x : MoveItem) :
    (State.holdForTestOne n s x).pending = s.pending ∧
    (State.holdForTestOne n s x).out = s.out ∧
    (State.holdForTestOne n s x).freeCtr = s.freeCtr ∧
    (State.holdForTestOne n s x).coreTicks = s.coreTicks ∧
    (State.holdForTestOne n s x).params = s.params ∧
    (State.holdForTestOne n s x).cyc = s.cyc ∧
    (State.holdForTestOne n s x).boot = s.boot ∧
    (State.holdForTestOne n s x).ports = s.ports ∧
    (State.holdForTestOne n s x).opening = s.opening ∧
    (State.holdForTestOne n s x).fbs = s.fbs ∧
    (State.holdForTestOne n s x).axes = s.axes ∧
    (State.holdForTestOne n s x).steps = s.steps ∧
    (State.holdForTestOne n s x).line = s.line ∧
    (State.holdForTestOne n s x).arb = s.arb ∧
    (State.holdForTestOne n s x).groups = s.groups ∧
    (State.holdForTestOne n s x).eng = s.eng ∧
    (State.holdForTestOne n s x).saf = s.saf ∧
    (State.holdForTestOne n s x).die = s.die ∧
    (State.holdForTestOne n s x).twin = s.twin ∧
    (State.holdForTestOne n s x).scs = s.scs ∧
    (State.holdForTestOne n s x).time = s.time ∧
    (State.holdForTestOne n s x).host = s.host := by
  generalize hT : State.holdForTestOne n s x = res
  unfold State.holdForTestOne at hT
  try dsimp only at hT
  repeat' split at hT
  all_goals subst hT
  all_goals (try simp)
  all_goals (repeat' split)
  all_goals (try simp)

@[simp] theorem State.holdForTestOne_idents (n : Nat) (s : State) (x : MoveItem) : (State.holdForTestOne n s x).idents = s.idents := State.idents_eq _ _ (by simp)

@[simp] theorem State.holdForTest_frame (s : State) (n : Nat) :
    (State.holdForTest s n).pending = s.pending ∧
    (State.holdForTest s n).out = s.out ∧
    (State.holdForTest s n).freeCtr = s.freeCtr ∧
    (State.holdForTest s n).coreTicks = s.coreTicks ∧
    (State.holdForTest s n).params = s.params ∧
    (State.holdForTest s n).cyc = s.cyc ∧
    (State.holdForTest s n).boot = s.boot ∧
    (State.holdForTest s n).ports = s.ports ∧
    (State.holdForTest s n).opening = s.opening ∧
    (State.holdForTest s n).fbs = s.fbs ∧
    (State.holdForTest s n).axes = s.axes ∧
    (State.holdForTest s n).steps = s.steps ∧
    (State.holdForTest s n).line = s.line ∧
    (State.holdForTest s n).arb = s.arb ∧
    (State.holdForTest s n).groups = s.groups ∧
    (State.holdForTest s n).eng = s.eng ∧
    (State.holdForTest s n).saf = s.saf ∧
    (State.holdForTest s n).die = s.die ∧
    (State.holdForTest s n).twin = s.twin ∧
    (State.holdForTest s n).scs = s.scs ∧
    (State.holdForTest s n).time = s.time ∧
    (State.holdForTest s n).host = s.host := by
  generalize hT : State.holdForTest s n = res
  unfold State.holdForTest at hT
  try dsimp only at hT
  repeat' split at hT
  all_goals subst hT
  all_goals (try simp)
  all_goals (repeat' split)
  all_goals (try simp)

@[simp] theorem State.holdForTest_idents (s : State) (n : Nat) : (State.holdForTest s n).idents = s.idents := State.idents_eq _ _ (by simp)

end Sys2Proof.Machine
end

