-- ==== Sys2Proof/Laws/FrameScoresheet.lean ====
section
/-! SUPPORT. What the operations of Machine/Scoresheet.lean leave unchanged: one rule per operation. -/

namespace Sys2Proof.Machine

@[simp] theorem State.modScs_frame (s : State) (f : Scs → Scs) :
    (State.modScs s f).pending = s.pending ∧
    (State.modScs s f).out = s.out ∧
    (State.modScs s f).freeCtr = s.freeCtr ∧
    (State.modScs s f).coreTicks = s.coreTicks ∧
    (State.modScs s f).params = s.params ∧
    (State.modScs s f).cyc = s.cyc ∧
    (State.modScs s f).boot = s.boot ∧
    (State.modScs s f).ports = s.ports ∧
    (State.modScs s f).segs = s.segs ∧
    (State.modScs s f).opening = s.opening ∧
    (State.modScs s f).fbs = s.fbs ∧
    (State.modScs s f).axes = s.axes ∧
    (State.modScs s f).steps = s.steps ∧
    (State.modScs s f).line = s.line ∧
    (State.modScs s f).moves = s.moves ∧
    (State.modScs s f).arb = s.arb ∧
    (State.modScs s f).groups = s.groups ∧
    (State.modScs s f).eng = s.eng ∧
    (State.modScs s f).saf = s.saf ∧
    (State.modScs s f).die = s.die ∧
    (State.modScs s f).fld = s.fld ∧
    (State.modScs s f).twin = s.twin ∧
    (State.modScs s f).time = s.time ∧
    (State.modScs s f).host = s.host := by
  generalize hT : State.modScs s f = res
  unfold State.modScs at hT
  try dsimp only at hT
  repeat' split at hT
  all_goals subst hT
  all_goals (try simp)
  all_goals (repeat' split)
  all_goals (try simp)

@[simp] theorem State.modScs_idents (s : State) (f : Scs → Scs) : (State.modScs s f).idents = s.idents := State.idents_eq _ _ (by simp)

@[simp] theorem State.scsSeal_frame (s : State) (k : Nat) :
    (State.scsSeal s k).pending = s.pending ∧
    (State.scsSeal s k).out = s.out ∧
    (State.scsSeal s k).freeCtr = s.freeCtr ∧
    (State.scsSeal s k).coreTicks = s.coreTicks ∧
    (State.scsSeal s k).params = s.params ∧
    (State.scsSeal s k).cyc = s.cyc ∧
    (State.scsSeal s k).boot = s.boot ∧
    (State.scsSeal s k).ports = s.ports ∧
    (State.scsSeal s k).segs = s.segs ∧
    (State.scsSeal s k).opening = s.opening ∧
    (State.scsSeal s k).fbs = s.fbs ∧
    (State.scsSeal s k).axes = s.axes ∧
    (State.scsSeal s k).steps = s.steps ∧
    (State.scsSeal s k).line = s.line ∧
    (State.scsSeal s k).moves = s.moves ∧
    (State.scsSeal s k).arb = s.arb ∧
    (State.scsSeal s k).groups = s.groups ∧
    (State.scsSeal s k).saf = s.saf ∧
    (State.scsSeal s k).die = s.die ∧
    (State.scsSeal s k).fld = s.fld ∧
    (State.scsSeal s k).twin = s.twin ∧
    (State.scsSeal s k).time = s.time ∧
    (State.scsSeal s k).host = s.host := by
  generalize hT : State.scsSeal s k = res
  unfold State.scsSeal at hT
  try dsimp only at hT
  repeat' split at hT
  all_goals subst hT
  all_goals (try simp)
  all_goals (repeat' split)
  all_goals (try simp)

@[simp] theorem State.scsSeal_idents (s : State) (k : Nat) : (State.scsSeal s k).idents = s.idents := State.idents_eq _ _ (by simp)

@[simp] theorem State.queueWrite_frame (s : State) (rank index : Nat) (e : BitVec 64) :
    (State.queueWrite s rank index e).pending = s.pending ∧
    (State.queueWrite s rank index e).out = s.out ∧
    (State.queueWrite s rank index e).freeCtr = s.freeCtr ∧
    (State.queueWrite s rank index e).coreTicks = s.coreTicks ∧
    (State.queueWrite s rank index e).params = s.params ∧
    (State.queueWrite s rank index e).cyc = s.cyc ∧
    (State.queueWrite s rank index e).boot = s.boot ∧
    (State.queueWrite s rank index e).ports = s.ports ∧
    (State.queueWrite s rank index e).segs = s.segs ∧
    (State.queueWrite s rank index e).opening = s.opening ∧
    (State.queueWrite s rank index e).fbs = s.fbs ∧
    (State.queueWrite s rank index e).axes = s.axes ∧
    (State.queueWrite s rank index e).steps = s.steps ∧
    (State.queueWrite s rank index e).line = s.line ∧
    (State.queueWrite s rank index e).moves = s.moves ∧
    (State.queueWrite s rank index e).arb = s.arb ∧
    (State.queueWrite s rank index e).groups = s.groups ∧
    (State.queueWrite s rank index e).eng = s.eng ∧
    (State.queueWrite s rank index e).saf = s.saf ∧
    (State.queueWrite s rank index e).die = s.die ∧
    (State.queueWrite s rank index e).fld = s.fld ∧
    (State.queueWrite s rank index e).twin = s.twin ∧
    (State.queueWrite s rank index e).time = s.time ∧
    (State.queueWrite s rank index e).host = s.host := by
  generalize hT : State.queueWrite s rank index e = res
  unfold State.queueWrite at hT
  try dsimp only at hT
  repeat' split at hT
  all_goals subst hT
  all_goals (try simp)
  all_goals (repeat' split)
  all_goals (try simp)

@[simp] theorem State.queueWrite_idents (s : State) (rank index : Nat) (e : BitVec 64) : (State.queueWrite s rank index e).idents = s.idents := State.idents_eq _ _ (by simp)

@[simp] theorem State.keepUnit_frame (s : State) (c : Nat) (es : List (BitVec 64)) :
    (State.keepUnit s c es).pending = s.pending ∧
    (State.keepUnit s c es).out = s.out ∧
    (State.keepUnit s c es).freeCtr = s.freeCtr ∧
    (State.keepUnit s c es).coreTicks = s.coreTicks ∧
    (State.keepUnit s c es).params = s.params ∧
    (State.keepUnit s c es).cyc = s.cyc ∧
    (State.keepUnit s c es).boot = s.boot ∧
    (State.keepUnit s c es).ports = s.ports ∧
    (State.keepUnit s c es).segs = s.segs ∧
    (State.keepUnit s c es).opening = s.opening ∧
    (State.keepUnit s c es).fbs = s.fbs ∧
    (State.keepUnit s c es).axes = s.axes ∧
    (State.keepUnit s c es).steps = s.steps ∧
    (State.keepUnit s c es).line = s.line ∧
    (State.keepUnit s c es).moves = s.moves ∧
    (State.keepUnit s c es).arb = s.arb ∧
    (State.keepUnit s c es).groups = s.groups ∧
    (State.keepUnit s c es).eng = s.eng ∧
    (State.keepUnit s c es).saf = s.saf ∧
    (State.keepUnit s c es).die = s.die ∧
    (State.keepUnit s c es).fld = s.fld ∧
    (State.keepUnit s c es).twin = s.twin ∧
    (State.keepUnit s c es).time = s.time ∧
    (State.keepUnit s c es).host = s.host := by
  generalize hT : State.keepUnit s c es = res
  unfold State.keepUnit at hT
  try dsimp only at hT
  repeat' split at hT
  all_goals subst hT
  all_goals (try simp)
  all_goals (repeat' split)
  all_goals (try simp)

@[simp] theorem State.keepUnit_idents (s : State) (c : Nat) (es : List (BitVec 64)) : (State.keepUnit s c es).idents = s.idents := State.idents_eq _ _ (by simp)

@[simp] theorem State.takeSample_frame (s : State) (c : Nat) (v : Int) (fresh : Bool) :
    (State.takeSample s c v fresh).pending = s.pending ∧
    (State.takeSample s c v fresh).out = s.out ∧
    (State.takeSample s c v fresh).freeCtr = s.freeCtr ∧
    (State.takeSample s c v fresh).coreTicks = s.coreTicks ∧
    (State.takeSample s c v fresh).params = s.params ∧
    (State.takeSample s c v fresh).cyc = s.cyc ∧
    (State.takeSample s c v fresh).boot = s.boot ∧
    (State.takeSample s c v fresh).ports = s.ports ∧
    (State.takeSample s c v fresh).segs = s.segs ∧
    (State.takeSample s c v fresh).opening = s.opening ∧
    (State.takeSample s c v fresh).fbs = s.fbs ∧
    (State.takeSample s c v fresh).axes = s.axes ∧
    (State.takeSample s c v fresh).steps = s.steps ∧
    (State.takeSample s c v fresh).line = s.line ∧
    (State.takeSample s c v fresh).moves = s.moves ∧
    (State.takeSample s c v fresh).arb = s.arb ∧
    (State.takeSample s c v fresh).groups = s.groups ∧
    (State.takeSample s c v fresh).eng = s.eng ∧
    (State.takeSample s c v fresh).saf = s.saf ∧
    (State.takeSample s c v fresh).die = s.die ∧
    (State.takeSample s c v fresh).fld = s.fld ∧
    (State.takeSample s c v fresh).twin = s.twin ∧
    (State.takeSample s c v fresh).time = s.time ∧
    (State.takeSample s c v fresh).host = s.host := by
  generalize hT : State.takeSample s c v fresh = res
  unfold State.takeSample at hT
  try dsimp only at hT
  repeat' split at hT
  all_goals subst hT
  all_goals (try simp)
  all_goals (repeat' split)
  all_goals (try simp)

@[simp] theorem State.takeSample_idents (s : State) (c : Nat) (v : Int) (fresh : Bool) : (State.takeSample s c v fresh).idents = s.idents := State.idents_eq _ _ (by simp)

@[simp] theorem State.capChannel_frame (s : State) (c : Nat) :
    (State.capChannel s c).pending = s.pending ∧
    (State.capChannel s c).out = s.out ∧
    (State.capChannel s c).freeCtr = s.freeCtr ∧
    (State.capChannel s c).coreTicks = s.coreTicks ∧
    (State.capChannel s c).params = s.params ∧
    (State.capChannel s c).cyc = s.cyc ∧
    (State.capChannel s c).boot = s.boot ∧
    (State.capChannel s c).ports = s.ports ∧
    (State.capChannel s c).segs = s.segs ∧
    (State.capChannel s c).opening = s.opening ∧
    (State.capChannel s c).fbs = s.fbs ∧
    (State.capChannel s c).axes = s.axes ∧
    (State.capChannel s c).steps = s.steps ∧
    (State.capChannel s c).line = s.line ∧
    (State.capChannel s c).moves = s.moves ∧
    (State.capChannel s c).arb = s.arb ∧
    (State.capChannel s c).groups = s.groups ∧
    (State.capChannel s c).eng = s.eng ∧
    (State.capChannel s c).saf = s.saf ∧
    (State.capChannel s c).die = s.die ∧
    (State.capChannel s c).fld = s.fld ∧
    (State.capChannel s c).twin = s.twin ∧
    (State.capChannel s c).time = s.time ∧
    (State.capChannel s c).host = s.host := by
  generalize hT : State.capChannel s c = res
  unfold State.capChannel at hT
  try dsimp only at hT
  repeat' split at hT
  all_goals subst hT
  all_goals (try simp)
  all_goals (repeat' split)
  all_goals (try simp)

@[simp] theorem State.capChannel_idents (s : State) (c : Nat) : (State.capChannel s c).idents = s.idents := State.idents_eq _ _ (by simp)

@[simp] theorem State.judgeUnit_frame (s : State) (t : Int) (u : Nat) :
    (State.judgeUnit s t u).1.pending = s.pending ∧
    (State.judgeUnit s t u).1.out = s.out ∧
    (State.judgeUnit s t u).1.freeCtr = s.freeCtr ∧
    (State.judgeUnit s t u).1.coreTicks = s.coreTicks ∧
    (State.judgeUnit s t u).1.params = s.params ∧
    (State.judgeUnit s t u).1.cyc = s.cyc ∧
    (State.judgeUnit s t u).1.boot = s.boot ∧
    (State.judgeUnit s t u).1.ports = s.ports ∧
    (State.judgeUnit s t u).1.segs = s.segs ∧
    (State.judgeUnit s t u).1.opening = s.opening ∧
    (State.judgeUnit s t u).1.fbs = s.fbs ∧
    (State.judgeUnit s t u).1.axes = s.axes ∧
    (State.judgeUnit s t u).1.steps = s.steps ∧
    (State.judgeUnit s t u).1.line = s.line ∧
    (State.judgeUnit s t u).1.moves = s.moves ∧
    (State.judgeUnit s t u).1.arb = s.arb ∧
    (State.judgeUnit s t u).1.groups = s.groups ∧
    (State.judgeUnit s t u).1.eng = s.eng ∧
    (State.judgeUnit s t u).1.saf = s.saf ∧
    (State.judgeUnit s t u).1.die = s.die ∧
    (State.judgeUnit s t u).1.fld = s.fld ∧
    (State.judgeUnit s t u).1.twin = s.twin ∧
    (State.judgeUnit s t u).1.time = s.time ∧
    (State.judgeUnit s t u).1.host = s.host := by
  generalize hT : State.judgeUnit s t u = res
  unfold State.judgeUnit at hT
  try dsimp only at hT
  repeat' split at hT
  all_goals subst hT
  all_goals (try simp)
  all_goals (repeat' split)
  all_goals (try simp)

@[simp] theorem State.judgeUnit_idents (s : State) (t : Int) (u : Nat) : (State.judgeUnit s t u).1.idents = s.idents := State.idents_eq _ _ (by simp)

@[simp] theorem State.judgeUnits_frame (s : State) (t : Int) :
    (State.judgeUnits s t).1.pending = s.pending ∧
    (State.judgeUnits s t).1.out = s.out ∧
    (State.judgeUnits s t).1.freeCtr = s.freeCtr ∧
    (State.judgeUnits s t).1.coreTicks = s.coreTicks ∧
    (State.judgeUnits s t).1.params = s.params ∧
    (State.judgeUnits s t).1.cyc = s.cyc ∧
    (State.judgeUnits s t).1.boot = s.boot ∧
    (State.judgeUnits s t).1.ports = s.ports ∧
    (State.judgeUnits s t).1.segs = s.segs ∧
    (State.judgeUnits s t).1.opening = s.opening ∧
    (State.judgeUnits s t).1.fbs = s.fbs ∧
    (State.judgeUnits s t).1.axes = s.axes ∧
    (State.judgeUnits s t).1.steps = s.steps ∧
    (State.judgeUnits s t).1.line = s.line ∧
    (State.judgeUnits s t).1.moves = s.moves ∧
    (State.judgeUnits s t).1.arb = s.arb ∧
    (State.judgeUnits s t).1.groups = s.groups ∧
    (State.judgeUnits s t).1.eng = s.eng ∧
    (State.judgeUnits s t).1.saf = s.saf ∧
    (State.judgeUnits s t).1.die = s.die ∧
    (State.judgeUnits s t).1.fld = s.fld ∧
    (State.judgeUnits s t).1.twin = s.twin ∧
    (State.judgeUnits s t).1.time = s.time ∧
    (State.judgeUnits s t).1.host = s.host := by
  generalize hT : State.judgeUnits s t = res
  unfold State.judgeUnits at hT
  try dsimp only at hT
  repeat' split at hT
  all_goals subst hT
  all_goals (try simp)
  all_goals (repeat' split)
  all_goals (try simp)

@[simp] theorem State.judgeUnits_idents (s : State) (t : Int) : (State.judgeUnits s t).1.idents = s.idents := State.idents_eq _ _ (by simp)

@[simp] theorem State.fireRecord_frame (s : State) (i kind : Nat) (t : Int) (mask : Nat) (forced : Bool) :
    (State.fireRecord s i kind t mask forced).pending = s.pending ∧
    (State.fireRecord s i kind t mask forced).out = s.out ∧
    (State.fireRecord s i kind t mask forced).freeCtr = s.freeCtr ∧
    (State.fireRecord s i kind t mask forced).coreTicks = s.coreTicks ∧
    (State.fireRecord s i kind t mask forced).params = s.params ∧
    (State.fireRecord s i kind t mask forced).cyc = s.cyc ∧
    (State.fireRecord s i kind t mask forced).boot = s.boot ∧
    (State.fireRecord s i kind t mask forced).ports = s.ports ∧
    (State.fireRecord s i kind t mask forced).segs = s.segs ∧
    (State.fireRecord s i kind t mask forced).opening = s.opening ∧
    (State.fireRecord s i kind t mask forced).fbs = s.fbs ∧
    (State.fireRecord s i kind t mask forced).axes = s.axes ∧
    (State.fireRecord s i kind t mask forced).steps = s.steps ∧
    (State.fireRecord s i kind t mask forced).line = s.line ∧
    (State.fireRecord s i kind t mask forced).moves = s.moves ∧
    (State.fireRecord s i kind t mask forced).arb = s.arb ∧
    (State.fireRecord s i kind t mask forced).groups = s.groups ∧
    (State.fireRecord s i kind t mask forced).eng = s.eng ∧
    (State.fireRecord s i kind t mask forced).saf = s.saf ∧
    (State.fireRecord s i kind t mask forced).die = s.die ∧
    (State.fireRecord s i kind t mask forced).fld = s.fld ∧
    (State.fireRecord s i kind t mask forced).twin = s.twin ∧
    (State.fireRecord s i kind t mask forced).time = s.time ∧
    (State.fireRecord s i kind t mask forced).host = s.host := by
  generalize hT : State.fireRecord s i kind t mask forced = res
  unfold State.fireRecord at hT
  try dsimp only at hT
  repeat' split at hT
  all_goals subst hT
  all_goals (try simp)
  all_goals (repeat' split)
  all_goals (try simp)

@[simp] theorem State.fireRecord_idents (s : State) (i kind : Nat) (t : Int) (mask : Nat) (forced : Bool) : (State.fireRecord s i kind t mask forced).idents = s.idents := State.idents_eq _ _ (by simp)

@[simp] theorem State.markPins_frame (s : State) (event : Nat) :
    (State.markPins s event).pending = s.pending ∧
    (State.markPins s event).out = s.out ∧
    (State.markPins s event).freeCtr = s.freeCtr ∧
    (State.markPins s event).coreTicks = s.coreTicks ∧
    (State.markPins s event).params = s.params ∧
    (State.markPins s event).cyc = s.cyc ∧
    (State.markPins s event).boot = s.boot ∧
    (State.markPins s event).ports = s.ports ∧
    (State.markPins s event).segs = s.segs ∧
    (State.markPins s event).opening = s.opening ∧
    (State.markPins s event).fbs = s.fbs ∧
    (State.markPins s event).axes = s.axes ∧
    (State.markPins s event).steps = s.steps ∧
    (State.markPins s event).line = s.line ∧
    (State.markPins s event).moves = s.moves ∧
    (State.markPins s event).arb = s.arb ∧
    (State.markPins s event).groups = s.groups ∧
    (State.markPins s event).eng = s.eng ∧
    (State.markPins s event).saf = s.saf ∧
    (State.markPins s event).die = s.die ∧
    (State.markPins s event).fld = s.fld ∧
    (State.markPins s event).twin = s.twin ∧
    (State.markPins s event).time = s.time ∧
    (State.markPins s event).host = s.host := by
  generalize hT : State.markPins s event = res
  unfold State.markPins at hT
  try dsimp only at hT
  repeat' split at hT
  all_goals subst hT
  all_goals (try simp)
  all_goals (repeat' split)
  all_goals (try simp)

@[simp] theorem State.markPins_idents (s : State) (event : Nat) : (State.markPins s event).idents = s.idents := State.idents_eq _ _ (by simp)

@[simp] theorem State.capture_frame (s : State) (t : Int) (mask : Nat) (forced : Bool) :
    (State.capture s t mask forced).pending = s.pending ∧
    (State.capture s t mask forced).freeCtr = s.freeCtr ∧
    (State.capture s t mask forced).coreTicks = s.coreTicks ∧
    (State.capture s t mask forced).params = s.params ∧
    (State.capture s t mask forced).cyc = s.cyc ∧
    (State.capture s t mask forced).boot = s.boot ∧
    (State.capture s t mask forced).ports = s.ports ∧
    (State.capture s t mask forced).segs = s.segs ∧
    (State.capture s t mask forced).opening = s.opening ∧
    (State.capture s t mask forced).fbs = s.fbs ∧
    (State.capture s t mask forced).axes = s.axes ∧
    (State.capture s t mask forced).steps = s.steps ∧
    (State.capture s t mask forced).line = s.line ∧
    (State.capture s t mask forced).moves = s.moves ∧
    (State.capture s t mask forced).arb = s.arb ∧
    (State.capture s t mask forced).groups = s.groups ∧
    (State.capture s t mask forced).eng = s.eng ∧
    (State.capture s t mask forced).saf = s.saf ∧
    (State.capture s t mask forced).die = s.die ∧
    (State.capture s t mask forced).fld = s.fld ∧
    (State.capture s t mask forced).twin = s.twin ∧
    (State.capture s t mask forced).time = s.time ∧
    (State.capture s t mask forced).host = s.host := by
  generalize hT : State.capture s t mask forced = res
  unfold State.capture at hT
  try dsimp only at hT
  repeat' split at hT
  all_goals subst hT
  all_goals (try simp)
  all_goals (repeat' split)
  all_goals (try simp)

@[simp] theorem State.capture_idents (s : State) (t : Int) (mask : Nat) (forced : Bool) : (State.capture s t mask forced).idents = s.idents := State.idents_eq _ _ (by simp)

@[simp] theorem State.actFires_frame (s : State) (t : Int) (hits : List Nat) :
    (State.actFires s t hits).pending = s.pending ∧
    (State.actFires s t hits).freeCtr = s.freeCtr ∧
    (State.actFires s t hits).coreTicks = s.coreTicks ∧
    (State.actFires s t hits).params = s.params ∧
    (State.actFires s t hits).cyc = s.cyc ∧
    (State.actFires s t hits).boot = s.boot ∧
    (State.actFires s t hits).ports = s.ports ∧
    (State.actFires s t hits).segs = s.segs ∧
    (State.actFires s t hits).opening = s.opening ∧
    (State.actFires s t hits).fbs = s.fbs ∧
    (State.actFires s t hits).axes = s.axes ∧
    (State.actFires s t hits).steps = s.steps ∧
    (State.actFires s t hits).line = s.line ∧
    (State.actFires s t hits).moves = s.moves ∧
    (State.actFires s t hits).arb = s.arb ∧
    (State.actFires s t hits).groups = s.groups ∧
    (State.actFires s t hits).eng = s.eng ∧
    (State.actFires s t hits).saf = s.saf ∧
    (State.actFires s t hits).die = s.die ∧
    (State.actFires s t hits).fld = s.fld ∧
    (State.actFires s t hits).twin = s.twin ∧
    (State.actFires s t hits).time = s.time ∧
    (State.actFires s t hits).host.keys = s.host.keys ∧
    (State.actFires s t hits).host.parQueue = s.host.parQueue := by
  generalize hT : State.actFires s t hits = res
  unfold State.actFires at hT
  try dsimp only at hT
  repeat' split at hT
  all_goals subst hT
  all_goals (try simp)
  all_goals (repeat' split)
  all_goals (try simp)

@[simp] theorem State.actFires_idents (s : State) (t : Int) (hits : List Nat) : (State.actFires s t hits).idents = s.idents := by
  generalize hT : State.actFires s t hits = res
  unfold State.actFires at hT
  try dsimp only at hT
  repeat' split at hT
  all_goals subst hT
  all_goals (try simp)
  all_goals (repeat' split)
  all_goals (try simp)
  all_goals (try rfl)
  all_goals (try exact State.idents_eq _ _ (by simp))
  all_goals (try simp [Session.ident])
  all_goals (try simp [Session.ident, State.session])
  all_goals (try simp [State.idents, State.session, Session.ident])

@[simp] theorem State.writePort_frame (s : State) :
    (State.writePort s).pending = s.pending ∧
    (State.writePort s).out = s.out ∧
    (State.writePort s).freeCtr = s.freeCtr ∧
    (State.writePort s).coreTicks = s.coreTicks ∧
    (State.writePort s).params = s.params ∧
    (State.writePort s).cyc = s.cyc ∧
    (State.writePort s).boot = s.boot ∧
    (State.writePort s).ports = s.ports ∧
    (State.writePort s).segs = s.segs ∧
    (State.writePort s).opening = s.opening ∧
    (State.writePort s).fbs = s.fbs ∧
    (State.writePort s).axes = s.axes ∧
    (State.writePort s).steps = s.steps ∧
    (State.writePort s).line = s.line ∧
    (State.writePort s).moves = s.moves ∧
    (State.writePort s).arb = s.arb ∧
    (State.writePort s).groups = s.groups ∧
    (State.writePort s).eng = s.eng ∧
    (State.writePort s).saf = s.saf ∧
    (State.writePort s).die = s.die ∧
    (State.writePort s).fld = s.fld ∧
    (State.writePort s).twin = s.twin ∧
    (State.writePort s).time = s.time ∧
    (State.writePort s).host = s.host := by
  generalize hT : State.writePort s = res
  unfold State.writePort at hT
  try dsimp only at hT
  repeat' split at hT
  all_goals subst hT
  all_goals (try simp)
  all_goals (repeat' split)
  all_goals (try simp)

@[simp] theorem State.writePort_idents (s : State) : (State.writePort s).idents = s.idents := State.idents_eq _ _ (by simp)

@[simp] theorem State.sampleTick_frame (s : State) (t : Int) :
    (State.sampleTick s t).pending = s.pending ∧
    (State.sampleTick s t).out = s.out ∧
    (State.sampleTick s t).freeCtr = s.freeCtr ∧
    (State.sampleTick s t).coreTicks = s.coreTicks ∧
    (State.sampleTick s t).params = s.params ∧
    (State.sampleTick s t).cyc = s.cyc ∧
    (State.sampleTick s t).boot = s.boot ∧
    (State.sampleTick s t).ports = s.ports ∧
    (State.sampleTick s t).segs = s.segs ∧
    (State.sampleTick s t).opening = s.opening ∧
    (State.sampleTick s t).fbs = s.fbs ∧
    (State.sampleTick s t).axes = s.axes ∧
    (State.sampleTick s t).steps = s.steps ∧
    (State.sampleTick s t).line = s.line ∧
    (State.sampleTick s t).moves = s.moves ∧
    (State.sampleTick s t).arb = s.arb ∧
    (State.sampleTick s t).groups = s.groups ∧
    (State.sampleTick s t).eng = s.eng ∧
    (State.sampleTick s t).saf = s.saf ∧
    (State.sampleTick s t).die = s.die ∧
    (State.sampleTick s t).fld = s.fld ∧
    (State.sampleTick s t).twin = s.twin ∧
    (State.sampleTick s t).time = s.time ∧
    (State.sampleTick s t).host = s.host := by
  generalize hT : State.sampleTick s t = res
  unfold State.sampleTick at hT
  try dsimp only at hT
  repeat' split at hT
  all_goals subst hT
  all_goals (try simp)
  all_goals (repeat' split)
  all_goals (try simp)

@[simp] theorem State.sampleTick_idents (s : State) (t : Int) : (State.sampleTick s t).idents = s.idents := State.idents_eq _ _ (by simp)

@[simp] theorem State.landArm_frame (s : State) (k : Nat) :
    (State.landArm s k).pending = s.pending ∧
    (State.landArm s k).freeCtr = s.freeCtr ∧
    (State.landArm s k).coreTicks = s.coreTicks ∧
    (State.landArm s k).params = s.params ∧
    (State.landArm s k).cyc = s.cyc ∧
    (State.landArm s k).boot = s.boot ∧
    (State.landArm s k).ports = s.ports ∧
    (State.landArm s k).segs = s.segs ∧
    (State.landArm s k).opening = s.opening ∧
    (State.landArm s k).fbs = s.fbs ∧
    (State.landArm s k).axes = s.axes ∧
    (State.landArm s k).steps = s.steps ∧
    (State.landArm s k).line = s.line ∧
    (State.landArm s k).moves = s.moves ∧
    (State.landArm s k).arb = s.arb ∧
    (State.landArm s k).groups = s.groups ∧
    (State.landArm s k).eng = s.eng ∧
    (State.landArm s k).saf = s.saf ∧
    (State.landArm s k).die = s.die ∧
    (State.landArm s k).fld = s.fld ∧
    (State.landArm s k).twin = s.twin ∧
    (State.landArm s k).time = s.time ∧
    (State.landArm s k).host.keys = s.host.keys ∧
    (State.landArm s k).host.parQueue = s.host.parQueue := by
  generalize hT : State.landArm s k = res
  unfold State.landArm at hT
  try dsimp only at hT
  repeat' split at hT
  all_goals subst hT
  all_goals (try simp)
  all_goals (repeat' split)
  all_goals (try simp)

@[simp] theorem State.landArm_idents (s : State) (k : Nat) : (State.landArm s k).idents = s.idents := by
  generalize hT : State.landArm s k = res
  unfold State.landArm at hT
  try dsimp only at hT
  repeat' split at hT
  all_goals subst hT
  all_goals (try simp)
  all_goals (repeat' split)
  all_goals (try simp)
  all_goals (try rfl)
  all_goals (try exact State.idents_eq _ _ (by simp))
  all_goals (try simp [Session.ident])
  all_goals (try simp [Session.ident, State.session])
  all_goals (try simp [State.idents, State.session, Session.ident])

end Sys2Proof.Machine
end

