-- ==== Sys2Proof/Laws/FrameSeal.lean ====
section
/-! SUPPORT. What the operations of Machine/Seal.lean leave unchanged: one rule per operation. -/

namespace Sys2Proof.Machine

@[simp] theorem State.noticeMismatch_frame (s : State) (i : Nat) :
    (State.noticeMismatch s i).pending = s.pending ∧
    (State.noticeMismatch s i).freeCtr = s.freeCtr ∧
    (State.noticeMismatch s i).coreTicks = s.coreTicks ∧
    (State.noticeMismatch s i).params = s.params ∧
    (State.noticeMismatch s i).cyc = s.cyc ∧
    (State.noticeMismatch s i).boot = s.boot ∧
    (State.noticeMismatch s i).ports = s.ports ∧
    (State.noticeMismatch s i).segs = s.segs ∧
    (State.noticeMismatch s i).opening = s.opening ∧
    (State.noticeMismatch s i).fbs = s.fbs ∧
    (State.noticeMismatch s i).axes = s.axes ∧
    (State.noticeMismatch s i).steps = s.steps ∧
    (State.noticeMismatch s i).line = s.line ∧
    (State.noticeMismatch s i).moves = s.moves ∧
    (State.noticeMismatch s i).arb = s.arb ∧
    (State.noticeMismatch s i).groups = s.groups ∧
    (State.noticeMismatch s i).eng = s.eng ∧
    (State.noticeMismatch s i).saf = s.saf ∧
    (State.noticeMismatch s i).die = s.die ∧
    (State.noticeMismatch s i).fld = s.fld ∧
    (State.noticeMismatch s i).twin = s.twin ∧
    (State.noticeMismatch s i).scs = s.scs ∧
    (State.noticeMismatch s i).time = s.time ∧
    (State.noticeMismatch s i).host.keys = s.host.keys ∧
    (State.noticeMismatch s i).host.parQueue = s.host.parQueue := by
  generalize hT : State.noticeMismatch s i = res
  unfold State.noticeMismatch at hT
  try dsimp only at hT
  repeat' split at hT
  all_goals subst hT
  all_goals (try simp)
  all_goals (repeat' split)
  all_goals (try simp)

@[simp] theorem State.noticeMismatch_idents (s : State) (i : Nat) : (State.noticeMismatch s i).idents = s.idents := by
  generalize hT : State.noticeMismatch s i = res
  unfold State.noticeMismatch at hT
  try dsimp only at hT
  repeat' split at hT
  all_goals subst hT
  all_goals (try simp)
  all_goals (repeat' split)
  all_goals (try simp)
  all_goals (try rfl)
  all_goals (try exact State.idents_eq _ _ (by simp))
  all_goals (try simp [Session.ident])
  all_goals (try simp [Session.ident, State.session])
  all_goals (try simp [State.idents, State.session, Session.ident])

@[simp] theorem State.takeVerdict_frame (s : State) (k : Nat) (ms : List Nat) :
    (State.takeVerdict s k ms).pending = s.pending ∧
    (State.takeVerdict s k ms).freeCtr = s.freeCtr ∧
    (State.takeVerdict s k ms).coreTicks = s.coreTicks ∧
    (State.takeVerdict s k ms).params = s.params ∧
    (State.takeVerdict s k ms).cyc = s.cyc ∧
    (State.takeVerdict s k ms).boot = s.boot ∧
    (State.takeVerdict s k ms).ports = s.ports ∧
    (State.takeVerdict s k ms).segs = s.segs ∧
    (State.takeVerdict s k ms).opening = s.opening ∧
    (State.takeVerdict s k ms).fbs = s.fbs ∧
    (State.takeVerdict s k ms).axes = s.axes ∧
    (State.takeVerdict s k ms).steps = s.steps ∧
    (State.takeVerdict s k ms).line = s.line ∧
    (State.takeVerdict s k ms).moves = s.moves ∧
    (State.takeVerdict s k ms).arb = s.arb ∧
    (State.takeVerdict s k ms).groups = s.groups ∧
    (State.takeVerdict s k ms).eng = s.eng ∧
    (State.takeVerdict s k ms).saf = s.saf ∧
    (State.takeVerdict s k ms).die = s.die ∧
    (State.takeVerdict s k ms).fld = s.fld ∧
    (State.takeVerdict s k ms).scs = s.scs ∧
    (State.takeVerdict s k ms).time = s.time ∧
    (State.takeVerdict s k ms).twin.standby = s.twin.standby ∧
    (State.takeVerdict s k ms).twin.onMove = s.twin.onMove ∧
    (State.takeVerdict s k ms).host.keys = s.host.keys ∧
    (State.takeVerdict s k ms).host.parQueue = s.host.parQueue := by
  generalize hT : State.takeVerdict s k ms = res
  unfold State.takeVerdict at hT
  try dsimp only at hT
  repeat' split at hT
  all_goals subst hT
  all_goals (try simp)
  all_goals (repeat' split)
  all_goals (try simp)

@[simp] theorem State.takeVerdict_idents (s : State) (k : Nat) (ms : List Nat) : (State.takeVerdict s k ms).idents = s.idents := by
  generalize hT : State.takeVerdict s k ms = res
  unfold State.takeVerdict at hT
  try dsimp only at hT
  repeat' split at hT
  all_goals subst hT
  all_goals (try simp)
  all_goals (repeat' split)
  all_goals (try simp)
  all_goals (try rfl)
  all_goals (try exact State.idents_eq _ _ (by simp))
  all_goals (try simp [Session.ident])
  all_goals (try simp [Session.ident, State.session])
  all_goals (try simp [State.idents, State.session, Session.ident])

@[simp] theorem State.compareDigests_frame (s : State) (k : Nat) (own peer : List (BitVec 32)) :
    (State.compareDigests s k own peer).pending = s.pending ∧
    (State.compareDigests s k own peer).freeCtr = s.freeCtr ∧
    (State.compareDigests s k own peer).coreTicks = s.coreTicks ∧
    (State.compareDigests s k own peer).params = s.params ∧
    (State.compareDigests s k own peer).cyc = s.cyc ∧
    (State.compareDigests s k own peer).boot = s.boot ∧
    (State.compareDigests s k own peer).ports = s.ports ∧
    (State.compareDigests s k own peer).segs = s.segs ∧
    (State.compareDigests s k own peer).opening = s.opening ∧
    (State.compareDigests s k own peer).fbs = s.fbs ∧
    (State.compareDigests s k own peer).axes = s.axes ∧
    (State.compareDigests s k own peer).steps = s.steps ∧
    (State.compareDigests s k own peer).line = s.line ∧
    (State.compareDigests s k own peer).moves = s.moves ∧
    (State.compareDigests s k own peer).arb = s.arb ∧
    (State.compareDigests s k own peer).groups = s.groups ∧
    (State.compareDigests s k own peer).eng = s.eng ∧
    (State.compareDigests s k own peer).saf = s.saf ∧
    (State.compareDigests s k own peer).die = s.die ∧
    (State.compareDigests s k own peer).fld = s.fld ∧
    (State.compareDigests s k own peer).scs = s.scs ∧
    (State.compareDigests s k own peer).time = s.time ∧
    (State.compareDigests s k own peer).twin.standby = s.twin.standby ∧
    (State.compareDigests s k own peer).twin.onMove = s.twin.onMove ∧
    (State.compareDigests s k own peer).host.keys = s.host.keys ∧
    (State.compareDigests s k own peer).host.parQueue = s.host.parQueue := by
  generalize hT : State.compareDigests s k own peer = res
  unfold State.compareDigests at hT
  try dsimp only at hT
  repeat' split at hT
  all_goals subst hT
  all_goals (try simp)
  all_goals (repeat' split)
  all_goals (try simp)

@[simp] theorem State.compareDigests_idents (s : State) (k : Nat) (own peer : List (BitVec 32)) : (State.compareDigests s k own peer).idents = s.idents := by
  generalize hT : State.compareDigests s k own peer = res
  unfold State.compareDigests at hT
  try dsimp only at hT
  repeat' split at hT
  all_goals subst hT
  all_goals (try simp)
  all_goals (repeat' split)
  all_goals (try simp)
  all_goals (try rfl)
  all_goals (try exact State.idents_eq _ _ (by simp))
  all_goals (try simp [Session.ident])
  all_goals (try simp [Session.ident, State.session])
  all_goals (try simp [State.idents, State.session, Session.ident])

@[simp] theorem State.sealDigests_frame (s : State) (k : Nat) :
    (State.sealDigests s k).pending = s.pending ∧
    (State.sealDigests s k).coreTicks = s.coreTicks ∧
    (State.sealDigests s k).params = s.params ∧
    (State.sealDigests s k).cyc = s.cyc ∧
    (State.sealDigests s k).boot = s.boot ∧
    (State.sealDigests s k).ports = s.ports ∧
    (State.sealDigests s k).segs = s.segs ∧
    (State.sealDigests s k).opening = s.opening ∧
    (State.sealDigests s k).fbs = s.fbs ∧
    (State.sealDigests s k).axes = s.axes ∧
    (State.sealDigests s k).steps = s.steps ∧
    (State.sealDigests s k).line = s.line ∧
    (State.sealDigests s k).moves = s.moves ∧
    (State.sealDigests s k).arb = s.arb ∧
    (State.sealDigests s k).groups = s.groups ∧
    (State.sealDigests s k).saf = s.saf ∧
    (State.sealDigests s k).die = s.die ∧
    (State.sealDigests s k).fld = s.fld ∧
    (State.sealDigests s k).scs = s.scs ∧
    (State.sealDigests s k).time = s.time ∧
    (State.sealDigests s k).twin.standby = s.twin.standby ∧
    (State.sealDigests s k).twin.onMove = s.twin.onMove ∧
    (State.sealDigests s k).host.keys = s.host.keys ∧
    (State.sealDigests s k).host.parQueue = s.host.parQueue := by
  generalize hT : State.sealDigests s k = res
  unfold State.sealDigests at hT
  try dsimp only at hT
  repeat' split at hT
  all_goals subst hT
  all_goals (try simp)
  all_goals (repeat' split)
  all_goals (try simp)

@[simp] theorem State.sealDigests_idents (s : State) (k : Nat) : (State.sealDigests s k).idents = s.idents := by
  generalize hT : State.sealDigests s k = res
  unfold State.sealDigests at hT
  try dsimp only at hT
  repeat' split at hT
  all_goals subst hT
  all_goals (try simp)
  all_goals (repeat' split)
  all_goals (try simp)
  all_goals (try rfl)
  all_goals (try exact State.idents_eq _ _ (by simp))
  all_goals (try simp [Session.ident])
  all_goals (try simp [Session.ident, State.session])
  all_goals (try simp [State.idents, State.session, Session.ident])

@[simp] theorem State.sealAxis_frame (s : State) (k a : Nat) :
    (State.sealAxis s k a).pending = s.pending ∧
    (State.sealAxis s k a).out = s.out ∧
    (State.sealAxis s k a).freeCtr = s.freeCtr ∧
    (State.sealAxis s k a).coreTicks = s.coreTicks ∧
    (State.sealAxis s k a).params = s.params ∧
    (State.sealAxis s k a).cyc = s.cyc ∧
    (State.sealAxis s k a).boot = s.boot ∧
    (State.sealAxis s k a).ports = s.ports ∧
    (State.sealAxis s k a).segs = s.segs ∧
    (State.sealAxis s k a).opening = s.opening ∧
    (State.sealAxis s k a).fbs = s.fbs ∧
    (State.sealAxis s k a).steps = s.steps ∧
    (State.sealAxis s k a).line = s.line ∧
    (State.sealAxis s k a).moves = s.moves ∧
    (State.sealAxis s k a).arb = s.arb ∧
    (State.sealAxis s k a).groups = s.groups ∧
    (State.sealAxis s k a).saf = s.saf ∧
    (State.sealAxis s k a).die = s.die ∧
    (State.sealAxis s k a).fld = s.fld ∧
    (State.sealAxis s k a).twin = s.twin ∧
    (State.sealAxis s k a).scs = s.scs ∧
    (State.sealAxis s k a).time = s.time ∧
    (State.sealAxis s k a).host = s.host := by
  generalize hT : State.sealAxis s k a = res
  unfold State.sealAxis at hT
  try dsimp only at hT
  repeat' split at hT
  all_goals subst hT
  all_goals (try simp)
  all_goals (repeat' split)
  all_goals (try simp)

@[simp] theorem State.sealAxis_idents (s : State) (k a : Nat) : (State.sealAxis s k a).idents = s.idents := State.idents_eq _ _ (by simp)

@[simp] theorem State.queueLocal_frame (s : State) (r : RefEntry) :
    (State.queueLocal s r).pending = s.pending ∧
    (State.queueLocal s r).out = s.out ∧
    (State.queueLocal s r).freeCtr = s.freeCtr ∧
    (State.queueLocal s r).coreTicks = s.coreTicks ∧
    (State.queueLocal s r).params = s.params ∧
    (State.queueLocal s r).cyc = s.cyc ∧
    (State.queueLocal s r).boot = s.boot ∧
    (State.queueLocal s r).ports = s.ports ∧
    (State.queueLocal s r).segs = s.segs ∧
    (State.queueLocal s r).opening = s.opening ∧
    (State.queueLocal s r).fbs = s.fbs ∧
    (State.queueLocal s r).axes = s.axes ∧
    (State.queueLocal s r).line = s.line ∧
    (State.queueLocal s r).moves = s.moves ∧
    (State.queueLocal s r).arb = s.arb ∧
    (State.queueLocal s r).groups = s.groups ∧
    (State.queueLocal s r).eng = s.eng ∧
    (State.queueLocal s r).saf = s.saf ∧
    (State.queueLocal s r).die = s.die ∧
    (State.queueLocal s r).fld = s.fld ∧
    (State.queueLocal s r).twin = s.twin ∧
    (State.queueLocal s r).scs = s.scs ∧
    (State.queueLocal s r).time = s.time ∧
    (State.queueLocal s r).host = s.host := by
  generalize hT : State.queueLocal s r = res
  unfold State.queueLocal at hT
  try dsimp only at hT
  repeat' split at hT
  all_goals subst hT
  all_goals (try simp)
  all_goals (repeat' split)
  all_goals (try simp)

@[simp] theorem State.queueLocal_idents (s : State) (r : RefEntry) : (State.queueLocal s r).idents = s.idents := State.idents_eq _ _ (by simp)

@[simp] theorem State.closeTrain_frame (s : State) (k : Nat) :
    (State.closeTrain s k).pending = s.pending ∧
    (State.closeTrain s k).out = s.out ∧
    (State.closeTrain s k).freeCtr = s.freeCtr ∧
    (State.closeTrain s k).coreTicks = s.coreTicks ∧
    (State.closeTrain s k).params = s.params ∧
    (State.closeTrain s k).cyc = s.cyc ∧
    (State.closeTrain s k).boot = s.boot ∧
    (State.closeTrain s k).ports = s.ports ∧
    (State.closeTrain s k).opening = s.opening ∧
    (State.closeTrain s k).fbs = s.fbs ∧
    (State.closeTrain s k).axes = s.axes ∧
    (State.closeTrain s k).line = s.line ∧
    (State.closeTrain s k).moves = s.moves ∧
    (State.closeTrain s k).arb = s.arb ∧
    (State.closeTrain s k).groups = s.groups ∧
    (State.closeTrain s k).saf = s.saf ∧
    (State.closeTrain s k).die = s.die ∧
    (State.closeTrain s k).fld = s.fld ∧
    (State.closeTrain s k).twin = s.twin ∧
    (State.closeTrain s k).scs = s.scs ∧
    (State.closeTrain s k).time = s.time ∧
    (State.closeTrain s k).host = s.host := by
  generalize hT : State.closeTrain s k = res
  unfold State.closeTrain at hT
  try dsimp only at hT
  repeat' split at hT
  all_goals subst hT
  all_goals (try simp)
  all_goals (repeat' split)
  all_goals (try simp)

@[simp] theorem State.closeTrain_idents (s : State) (k : Nat) : (State.closeTrain s k).idents = s.idents := State.idents_eq _ _ (by simp)

end Sys2Proof.Machine
end

