-- ==== Sys2Proof/Laws/FrameWallTime.lean ====
section
/-! SUPPORT. What the operations of Machine/WallTime.lean leave unchanged: one rule per operation. -/

namespace Sys2Proof.Machine

@[simp] theorem State.judgeOffset_frame (s : State) (c : Nat) :
    (State.judgeOffset s c).pending = s.pending ∧
    (State.judgeOffset s c).out = s.out ∧
    (State.judgeOffset s c).freeCtr = s.freeCtr ∧
    (State.judgeOffset s c).coreTicks = s.coreTicks ∧
    (State.judgeOffset s c).params = s.params ∧
    (State.judgeOffset s c).cyc = s.cyc ∧
    (State.judgeOffset s c).boot = s.boot ∧
    (State.judgeOffset s c).ports = s.ports ∧
    (State.judgeOffset s c).segs = s.segs ∧
    (State.judgeOffset s c).opening = s.opening ∧
    (State.judgeOffset s c).fbs = s.fbs ∧
    (State.judgeOffset s c).axes = s.axes ∧
    (State.judgeOffset s c).steps = s.steps ∧
    (State.judgeOffset s c).line = s.line ∧
    (State.judgeOffset s c).moves = s.moves ∧
    (State.judgeOffset s c).arb = s.arb ∧
    (State.judgeOffset s c).groups = s.groups ∧
    (State.judgeOffset s c).eng = s.eng ∧
    (State.judgeOffset s c).saf = s.saf ∧
    (State.judgeOffset s c).die = s.die ∧
    (State.judgeOffset s c).fld = s.fld ∧
    (State.judgeOffset s c).twin = s.twin ∧
    (State.judgeOffset s c).scs = s.scs ∧
    (State.judgeOffset s c).host = s.host := by
  generalize hT : State.judgeOffset s c = res
  unfold State.judgeOffset at hT
  try dsimp only at hT
  repeat' split at hT
  all_goals subst hT
  all_goals (try simp)
  all_goals (repeat' split)
  all_goals (try simp)

@[simp] theorem State.judgeOffset_idents (s : State) (c : Nat) : (State.judgeOffset s c).idents = s.idents := State.idents_eq _ _ (by simp)

@[simp] theorem State.sourceValid_frame (s : State) (c : Nat) :
    (State.sourceValid s c).pending = s.pending ∧
    (State.sourceValid s c).out = s.out ∧
    (State.sourceValid s c).freeCtr = s.freeCtr ∧
    (State.sourceValid s c).coreTicks = s.coreTicks ∧
    (State.sourceValid s c).params = s.params ∧
    (State.sourceValid s c).cyc = s.cyc ∧
    (State.sourceValid s c).boot = s.boot ∧
    (State.sourceValid s c).ports = s.ports ∧
    (State.sourceValid s c).segs = s.segs ∧
    (State.sourceValid s c).opening = s.opening ∧
    (State.sourceValid s c).fbs = s.fbs ∧
    (State.sourceValid s c).axes = s.axes ∧
    (State.sourceValid s c).steps = s.steps ∧
    (State.sourceValid s c).line = s.line ∧
    (State.sourceValid s c).moves = s.moves ∧
    (State.sourceValid s c).arb = s.arb ∧
    (State.sourceValid s c).groups = s.groups ∧
    (State.sourceValid s c).eng = s.eng ∧
    (State.sourceValid s c).saf = s.saf ∧
    (State.sourceValid s c).die = s.die ∧
    (State.sourceValid s c).fld = s.fld ∧
    (State.sourceValid s c).twin = s.twin ∧
    (State.sourceValid s c).scs = s.scs ∧
    (State.sourceValid s c).host = s.host := by
  generalize hT : State.sourceValid s c = res
  unfold State.sourceValid at hT
  try dsimp only at hT
  repeat' split at hT
  all_goals subst hT
  all_goals (try simp)
  all_goals (repeat' split)
  all_goals (try simp)

@[simp] theorem State.sourceValid_idents (s : State) (c : Nat) : (State.sourceValid s c).idents = s.idents := State.idents_eq _ _ (by simp)

@[simp] theorem State.sourceInvalid_frame (s : State) (c : Nat) :
    (State.sourceInvalid s c).pending = s.pending ∧
    (State.sourceInvalid s c).out = s.out ∧
    (State.sourceInvalid s c).freeCtr = s.freeCtr ∧
    (State.sourceInvalid s c).coreTicks = s.coreTicks ∧
    (State.sourceInvalid s c).params = s.params ∧
    (State.sourceInvalid s c).cyc = s.cyc ∧
    (State.sourceInvalid s c).boot = s.boot ∧
    (State.sourceInvalid s c).ports = s.ports ∧
    (State.sourceInvalid s c).segs = s.segs ∧
    (State.sourceInvalid s c).opening = s.opening ∧
    (State.sourceInvalid s c).fbs = s.fbs ∧
    (State.sourceInvalid s c).axes = s.axes ∧
    (State.sourceInvalid s c).steps = s.steps ∧
    (State.sourceInvalid s c).line = s.line ∧
    (State.sourceInvalid s c).moves = s.moves ∧
    (State.sourceInvalid s c).arb = s.arb ∧
    (State.sourceInvalid s c).groups = s.groups ∧
    (State.sourceInvalid s c).eng = s.eng ∧
    (State.sourceInvalid s c).saf = s.saf ∧
    (State.sourceInvalid s c).die = s.die ∧
    (State.sourceInvalid s c).fld = s.fld ∧
    (State.sourceInvalid s c).twin = s.twin ∧
    (State.sourceInvalid s c).scs = s.scs ∧
    (State.sourceInvalid s c).host = s.host := by
  generalize hT : State.sourceInvalid s c = res
  unfold State.sourceInvalid at hT
  try dsimp only at hT
  repeat' split at hT
  all_goals subst hT
  all_goals (try simp)
  all_goals (repeat' split)
  all_goals (try simp)

@[simp] theorem State.sourceInvalid_idents (s : State) (c : Nat) : (State.sourceInvalid s c).idents = s.idents := State.idents_eq _ _ (by simp)

@[simp] theorem State.measureSource_frame (s : State) (c : Nat) (theta t : Int) :
    (State.measureSource s c theta t).pending = s.pending ∧
    (State.measureSource s c theta t).out = s.out ∧
    (State.measureSource s c theta t).freeCtr = s.freeCtr ∧
    (State.measureSource s c theta t).coreTicks = s.coreTicks ∧
    (State.measureSource s c theta t).params = s.params ∧
    (State.measureSource s c theta t).cyc = s.cyc ∧
    (State.measureSource s c theta t).boot = s.boot ∧
    (State.measureSource s c theta t).ports = s.ports ∧
    (State.measureSource s c theta t).segs = s.segs ∧
    (State.measureSource s c theta t).opening = s.opening ∧
    (State.measureSource s c theta t).fbs = s.fbs ∧
    (State.measureSource s c theta t).axes = s.axes ∧
    (State.measureSource s c theta t).steps = s.steps ∧
    (State.measureSource s c theta t).line = s.line ∧
    (State.measureSource s c theta t).moves = s.moves ∧
    (State.measureSource s c theta t).arb = s.arb ∧
    (State.measureSource s c theta t).groups = s.groups ∧
    (State.measureSource s c theta t).eng = s.eng ∧
    (State.measureSource s c theta t).saf = s.saf ∧
    (State.measureSource s c theta t).die = s.die ∧
    (State.measureSource s c theta t).fld = s.fld ∧
    (State.measureSource s c theta t).twin = s.twin ∧
    (State.measureSource s c theta t).scs = s.scs ∧
    (State.measureSource s c theta t).host = s.host := by
  generalize hT : State.measureSource s c theta t = res
  unfold State.measureSource at hT
  try dsimp only at hT
  repeat' split at hT
  all_goals subst hT
  all_goals (try simp)
  all_goals (repeat' split)
  all_goals (try simp)

@[simp] theorem State.measureSource_idents (s : State) (c : Nat) (theta t : Int) : (State.measureSource s c theta t).idents = s.idents := State.idents_eq _ _ (by simp)

@[simp] theorem State.checkPtp_frame (s : State) (d : Nat) :
    (State.checkPtp s d).pending = s.pending ∧
    (State.checkPtp s d).out = s.out ∧
    (State.checkPtp s d).freeCtr = s.freeCtr ∧
    (State.checkPtp s d).coreTicks = s.coreTicks ∧
    (State.checkPtp s d).params = s.params ∧
    (State.checkPtp s d).cyc = s.cyc ∧
    (State.checkPtp s d).boot = s.boot ∧
    (State.checkPtp s d).ports = s.ports ∧
    (State.checkPtp s d).segs = s.segs ∧
    (State.checkPtp s d).opening = s.opening ∧
    (State.checkPtp s d).fbs = s.fbs ∧
    (State.checkPtp s d).axes = s.axes ∧
    (State.checkPtp s d).steps = s.steps ∧
    (State.checkPtp s d).line = s.line ∧
    (State.checkPtp s d).moves = s.moves ∧
    (State.checkPtp s d).arb = s.arb ∧
    (State.checkPtp s d).groups = s.groups ∧
    (State.checkPtp s d).eng = s.eng ∧
    (State.checkPtp s d).saf = s.saf ∧
    (State.checkPtp s d).die = s.die ∧
    (State.checkPtp s d).fld = s.fld ∧
    (State.checkPtp s d).twin = s.twin ∧
    (State.checkPtp s d).scs = s.scs ∧
    (State.checkPtp s d).host = s.host := by
  generalize hT : State.checkPtp s d = res
  unfold State.checkPtp at hT
  try dsimp only at hT
  repeat' split at hT
  all_goals subst hT
  all_goals (try simp)
  all_goals (repeat' split)
  all_goals (try simp)

@[simp] theorem State.checkPtp_idents (s : State) (d : Nat) : (State.checkPtp s d).idents = s.idents := State.idents_eq _ _ (by simp)

@[simp] theorem State.takeSync_frame (s : State) (d : Nat) (t1 rx : Int) :
    (State.takeSync s d t1 rx).pending = s.pending ∧
    (State.takeSync s d t1 rx).out = s.out ∧
    (State.takeSync s d t1 rx).freeCtr = s.freeCtr ∧
    (State.takeSync s d t1 rx).coreTicks = s.coreTicks ∧
    (State.takeSync s d t1 rx).params = s.params ∧
    (State.takeSync s d t1 rx).cyc = s.cyc ∧
    (State.takeSync s d t1 rx).boot = s.boot ∧
    (State.takeSync s d t1 rx).ports = s.ports ∧
    (State.takeSync s d t1 rx).segs = s.segs ∧
    (State.takeSync s d t1 rx).opening = s.opening ∧
    (State.takeSync s d t1 rx).fbs = s.fbs ∧
    (State.takeSync s d t1 rx).axes = s.axes ∧
    (State.takeSync s d t1 rx).steps = s.steps ∧
    (State.takeSync s d t1 rx).line = s.line ∧
    (State.takeSync s d t1 rx).moves = s.moves ∧
    (State.takeSync s d t1 rx).arb = s.arb ∧
    (State.takeSync s d t1 rx).groups = s.groups ∧
    (State.takeSync s d t1 rx).eng = s.eng ∧
    (State.takeSync s d t1 rx).saf = s.saf ∧
    (State.takeSync s d t1 rx).die = s.die ∧
    (State.takeSync s d t1 rx).fld = s.fld ∧
    (State.takeSync s d t1 rx).twin = s.twin ∧
    (State.takeSync s d t1 rx).scs = s.scs ∧
    (State.takeSync s d t1 rx).host = s.host := by
  generalize hT : State.takeSync s d t1 rx = res
  unfold State.takeSync at hT
  try dsimp only at hT
  repeat' split at hT
  all_goals subst hT
  all_goals (try simp)
  all_goals (repeat' split)
  all_goals (try simp)

@[simp] theorem State.takeSync_idents (s : State) (d : Nat) (t1 rx : Int) : (State.takeSync s d t1 rx).idents = s.idents := State.idents_eq _ _ (by simp)

@[simp] theorem State.otherDomain_frame (s : State) (d : Nat) :
    (State.otherDomain s d).pending = s.pending ∧
    (State.otherDomain s d).out = s.out ∧
    (State.otherDomain s d).freeCtr = s.freeCtr ∧
    (State.otherDomain s d).coreTicks = s.coreTicks ∧
    (State.otherDomain s d).params = s.params ∧
    (State.otherDomain s d).cyc = s.cyc ∧
    (State.otherDomain s d).boot = s.boot ∧
    (State.otherDomain s d).ports = s.ports ∧
    (State.otherDomain s d).segs = s.segs ∧
    (State.otherDomain s d).opening = s.opening ∧
    (State.otherDomain s d).fbs = s.fbs ∧
    (State.otherDomain s d).axes = s.axes ∧
    (State.otherDomain s d).steps = s.steps ∧
    (State.otherDomain s d).line = s.line ∧
    (State.otherDomain s d).moves = s.moves ∧
    (State.otherDomain s d).arb = s.arb ∧
    (State.otherDomain s d).groups = s.groups ∧
    (State.otherDomain s d).eng = s.eng ∧
    (State.otherDomain s d).saf = s.saf ∧
    (State.otherDomain s d).die = s.die ∧
    (State.otherDomain s d).fld = s.fld ∧
    (State.otherDomain s d).twin = s.twin ∧
    (State.otherDomain s d).scs = s.scs ∧
    (State.otherDomain s d).host = s.host := by
  generalize hT : State.otherDomain s d = res
  unfold State.otherDomain at hT
  try dsimp only at hT
  repeat' split at hT
  all_goals subst hT
  all_goals (try simp)
  all_goals (repeat' split)
  all_goals (try simp)

@[simp] theorem State.otherDomain_idents (s : State) (d : Nat) : (State.otherDomain s d).idents = s.idents := State.idents_eq _ _ (by simp)

@[simp] theorem State.selectSource_frame (s : State) (c : Nat) :
    (State.selectSource s c).pending = s.pending ∧
    (State.selectSource s c).freeCtr = s.freeCtr ∧
    (State.selectSource s c).coreTicks = s.coreTicks ∧
    (State.selectSource s c).params = s.params ∧
    (State.selectSource s c).cyc = s.cyc ∧
    (State.selectSource s c).boot = s.boot ∧
    (State.selectSource s c).ports = s.ports ∧
    (State.selectSource s c).segs = s.segs ∧
    (State.selectSource s c).opening = s.opening ∧
    (State.selectSource s c).fbs = s.fbs ∧
    (State.selectSource s c).axes = s.axes ∧
    (State.selectSource s c).steps = s.steps ∧
    (State.selectSource s c).line = s.line ∧
    (State.selectSource s c).moves = s.moves ∧
    (State.selectSource s c).arb = s.arb ∧
    (State.selectSource s c).groups = s.groups ∧
    (State.selectSource s c).eng = s.eng ∧
    (State.selectSource s c).saf = s.saf ∧
    (State.selectSource s c).die = s.die ∧
    (State.selectSource s c).fld = s.fld ∧
    (State.selectSource s c).twin = s.twin ∧
    (State.selectSource s c).scs = s.scs ∧
    (State.selectSource s c).host.keys = s.host.keys ∧
    (State.selectSource s c).host.parQueue = s.host.parQueue := by
  generalize hT : State.selectSource s c = res
  unfold State.selectSource at hT
  try dsimp only at hT
  repeat' split at hT
  all_goals subst hT
  all_goals (try simp)
  all_goals (repeat' split)
  all_goals (try simp)

@[simp] theorem State.selectSource_idents (s : State) (c : Nat) : (State.selectSource s c).idents = s.idents := by
  generalize hT : State.selectSource s c = res
  unfold State.selectSource at hT
  try dsimp only at hT
  repeat' split at hT
  all_goals subst hT
  all_goals (try simp)
  all_goals (repeat' split)
  all_goals (try simp)
  all_goals (try rfl)
  all_goals (try exact State.idents_eq _ _ (by simp))
  all_goals (try simp [Session.ident])
  all_goals (try simp [Session.ident, State.session])
  all_goals (try simp [State.idents, State.session, Session.ident])

@[simp] theorem State.shiftStamps_frame (s : State) (d : Int) :
    (State.shiftStamps s d).pending = s.pending ∧
    (State.shiftStamps s d).out = s.out ∧
    (State.shiftStamps s d).freeCtr = s.freeCtr ∧
    (State.shiftStamps s d).coreTicks = s.coreTicks ∧
    (State.shiftStamps s d).params = s.params ∧
    (State.shiftStamps s d).cyc = s.cyc ∧
    (State.shiftStamps s d).boot = s.boot ∧
    (State.shiftStamps s d).ports = s.ports ∧
    (State.shiftStamps s d).segs = s.segs ∧
    (State.shiftStamps s d).opening = s.opening ∧
    (State.shiftStamps s d).axes = s.axes ∧
    (State.shiftStamps s d).steps = s.steps ∧
    (State.shiftStamps s d).line = s.line ∧
    (State.shiftStamps s d).moves = s.moves ∧
    (State.shiftStamps s d).arb = s.arb ∧
    (State.shiftStamps s d).groups = s.groups ∧
    (State.shiftStamps s d).eng = s.eng ∧
    (State.shiftStamps s d).saf = s.saf ∧
    (State.shiftStamps s d).die = s.die ∧
    (State.shiftStamps s d).fld = s.fld ∧
    (State.shiftStamps s d).twin = s.twin ∧
    (State.shiftStamps s d).scs = s.scs ∧
    (State.shiftStamps s d).host = s.host := by
  generalize hT : State.shiftStamps s d = res
  unfold State.shiftStamps at hT
  try dsimp only at hT
  repeat' split at hT
  all_goals subst hT
  all_goals (try simp)
  all_goals (repeat' split)
  all_goals (try simp)

@[simp] theorem State.shiftStamps_idents (s : State) (d : Int) : (State.shiftStamps s d).idents = s.idents := State.idents_eq _ _ (by simp)

@[simp] theorem State.retimeAll_frame (s : State) (d : Int) :
    (State.retimeAll s d).pending = s.pending ∧
    (State.retimeAll s d).out = s.out ∧
    (State.retimeAll s d).freeCtr = s.freeCtr ∧
    (State.retimeAll s d).coreTicks = s.coreTicks ∧
    (State.retimeAll s d).params = s.params ∧
    (State.retimeAll s d).cyc = s.cyc ∧
    (State.retimeAll s d).boot = s.boot ∧
    (State.retimeAll s d).ports = s.ports ∧
    (State.retimeAll s d).opening = s.opening ∧
    (State.retimeAll s d).fbs = s.fbs ∧
    (State.retimeAll s d).axes = s.axes ∧
    (State.retimeAll s d).steps = s.steps ∧
    (State.retimeAll s d).line = s.line ∧
    (State.retimeAll s d).arb = s.arb ∧
    (State.retimeAll s d).groups = s.groups ∧
    (State.retimeAll s d).eng = s.eng ∧
    (State.retimeAll s d).saf = s.saf ∧
    (State.retimeAll s d).die = s.die ∧
    (State.retimeAll s d).twin = s.twin ∧
    (State.retimeAll s d).scs = s.scs ∧
    (State.retimeAll s d).time = s.time ∧
    (State.retimeAll s d).host = s.host := by
  generalize hT : State.retimeAll s d = res
  unfold State.retimeAll at hT
  try dsimp only at hT
  repeat' split at hT
  all_goals subst hT
  all_goals (try simp)
  all_goals (repeat' split)
  all_goals (try simp)

@[simp] theorem State.retimeAll_idents (s : State) (d : Int) : (State.retimeAll s d).idents = s.idents := State.idents_eq _ _ (by simp)

@[simp] theorem State.stepClock_frame (s : State) (d : Int) :
    (State.stepClock s d).pending = s.pending ∧
    (State.stepClock s d).freeCtr = s.freeCtr ∧
    (State.stepClock s d).coreTicks = s.coreTicks ∧
    (State.stepClock s d).params = s.params ∧
    (State.stepClock s d).boot = s.boot ∧
    (State.stepClock s d).ports = s.ports ∧
    (State.stepClock s d).opening = s.opening ∧
    (State.stepClock s d).axes = s.axes ∧
    (State.stepClock s d).steps = s.steps ∧
    (State.stepClock s d).line = s.line ∧
    (State.stepClock s d).arb = s.arb ∧
    (State.stepClock s d).groups = s.groups ∧
    (State.stepClock s d).eng = s.eng ∧
    (State.stepClock s d).saf = s.saf ∧
    (State.stepClock s d).die = s.die ∧
    (State.stepClock s d).twin = s.twin ∧
    (State.stepClock s d).host.keys = s.host.keys ∧
    (State.stepClock s d).host.parQueue = s.host.parQueue ∧
    (State.stepClock s d).cyc.cycle = s.cyc.cycle ∧
    (State.stepClock s d).cyc.running = s.cyc.running := by
  generalize hT : State.stepClock s d = res
  unfold State.stepClock at hT
  try dsimp only at hT
  repeat' split at hT
  all_goals subst hT
  all_goals (try simp)
  all_goals (repeat' split)
  all_goals (try simp)

@[simp] theorem State.stepClock_idents (s : State) (d : Int) : (State.stepClock s d).idents = s.idents := by
  generalize hT : State.stepClock s d = res
  unfold State.stepClock at hT
  try dsimp only at hT
  repeat' split at hT
  all_goals subst hT
  all_goals (try simp)
  all_goals (repeat' split)
  all_goals (try simp)
  all_goals (try rfl)
  all_goals (try exact State.idents_eq _ _ (by simp))
  all_goals (try simp [Session.ident])
  all_goals (try simp [Session.ident, State.session])
  all_goals (try simp [State.idents, State.session, Session.ident])

@[simp] theorem State.rateUpdate_frame (s : State) :
    (State.rateUpdate s).pending = s.pending ∧
    (State.rateUpdate s).out = s.out ∧
    (State.rateUpdate s).freeCtr = s.freeCtr ∧
    (State.rateUpdate s).coreTicks = s.coreTicks ∧
    (State.rateUpdate s).params = s.params ∧
    (State.rateUpdate s).cyc = s.cyc ∧
    (State.rateUpdate s).boot = s.boot ∧
    (State.rateUpdate s).ports = s.ports ∧
    (State.rateUpdate s).segs = s.segs ∧
    (State.rateUpdate s).opening = s.opening ∧
    (State.rateUpdate s).fbs = s.fbs ∧
    (State.rateUpdate s).axes = s.axes ∧
    (State.rateUpdate s).steps = s.steps ∧
    (State.rateUpdate s).line = s.line ∧
    (State.rateUpdate s).moves = s.moves ∧
    (State.rateUpdate s).arb = s.arb ∧
    (State.rateUpdate s).groups = s.groups ∧
    (State.rateUpdate s).eng = s.eng ∧
    (State.rateUpdate s).saf = s.saf ∧
    (State.rateUpdate s).die = s.die ∧
    (State.rateUpdate s).fld = s.fld ∧
    (State.rateUpdate s).twin = s.twin ∧
    (State.rateUpdate s).scs = s.scs ∧
    (State.rateUpdate s).host = s.host := by
  generalize hT : State.rateUpdate s = res
  unfold State.rateUpdate at hT
  try dsimp only at hT
  repeat' split at hT
  all_goals subst hT
  all_goals (try simp)
  all_goals (repeat' split)
  all_goals (try simp)

@[simp] theorem State.rateUpdate_idents (s : State) : (State.rateUpdate s).idents = s.idents := State.idents_eq _ _ (by simp)

end Sys2Proof.Machine
end

