-- ==== Sys2Proof/Laws/FrameCycle.lean ====
section
/-! SUPPORT. What the operations of Machine/Cycle.lean leave unchanged: one rule per operation. -/

namespace Sys2Proof.Machine

@[simp] theorem State.sendTrain_frame (s : State) (n : Nat) (h : Hdr) (pl : List Byte) :
    (State.sendTrain s n h pl).pending = s.pending ∧
    (State.sendTrain s n h pl).params = s.params ∧
    (State.sendTrain s n h pl).cyc = s.cyc ∧
    (State.sendTrain s n h pl).boot = s.boot ∧
    (State.sendTrain s n h pl).ports = s.ports ∧
    (State.sendTrain s n h pl).segs = s.segs ∧
    (State.sendTrain s n h pl).opening = s.opening ∧
    (State.sendTrain s n h pl).fbs = s.fbs ∧
    (State.sendTrain s n h pl).steps = s.steps ∧
    (State.sendTrain s n h pl).moves = s.moves ∧
    (State.sendTrain s n h pl).arb = s.arb ∧
    (State.sendTrain s n h pl).groups = s.groups ∧
    (State.sendTrain s n h pl).saf = s.saf ∧
    (State.sendTrain s n h pl).die = s.die ∧
    (State.sendTrain s n h pl).fld = s.fld ∧
    (State.sendTrain s n h pl).twin = s.twin ∧
    (State.sendTrain s n h pl).scs = s.scs ∧
    (State.sendTrain s n h pl).host.keys = s.host.keys ∧
    (State.sendTrain s n h pl).host.parQueue = s.host.parQueue := by
  generalize hT : State.sendTrain s n h pl = res
  unfold State.sendTrain at hT
  try dsimp only at hT
  repeat' split at hT
  all_goals subst hT
  all_goals (try simp)
  all_goals (repeat' split)
  all_goals (try simp)

@[simp] theorem State.sendTrain_idents (s : State) (n : Nat) (h : Hdr) (pl : List Byte) : (State.sendTrain s n h pl).idents = s.idents := by
  generalize hT : State.sendTrain s n h pl = res
  unfold State.sendTrain at hT
  try dsimp only at hT
  repeat' split at hT
  all_goals subst hT
  all_goals (try simp)
  all_goals (repeat' split)
  all_goals (try simp)
  all_goals (try rfl)
  all_goals (try exact State.idents_eq _ _ (by simp))
  all_goals (try simp [Session.ident])
  all_goals (try simp [Session.ident, State.session])
  all_goals (try simp [State.idents, State.session, Session.ident])

@[simp] theorem State.sendCsf_frame (s : State) (n : Nat) :
    (State.sendCsf s n).pending = s.pending ∧
    (State.sendCsf s n).params = s.params ∧
    (State.sendCsf s n).boot = s.boot ∧
    (State.sendCsf s n).ports = s.ports ∧
    (State.sendCsf s n).segs = s.segs ∧
    (State.sendCsf s n).opening = s.opening ∧
    (State.sendCsf s n).fbs = s.fbs ∧
    (State.sendCsf s n).steps = s.steps ∧
    (State.sendCsf s n).moves = s.moves ∧
    (State.sendCsf s n).arb = s.arb ∧
    (State.sendCsf s n).groups = s.groups ∧
    (State.sendCsf s n).saf = s.saf ∧
    (State.sendCsf s n).die = s.die ∧
    (State.sendCsf s n).fld = s.fld ∧
    (State.sendCsf s n).twin = s.twin ∧
    (State.sendCsf s n).scs = s.scs ∧
    (State.sendCsf s n).host.keys = s.host.keys ∧
    (State.sendCsf s n).host.parQueue = s.host.parQueue ∧
    (State.sendCsf s n).cyc.cycle = s.cyc.cycle ∧
    (State.sendCsf s n).cyc.running = s.cyc.running := by
  generalize hT : State.sendCsf s n = res
  unfold State.sendCsf at hT
  try dsimp only at hT
  repeat' split at hT
  all_goals subst hT
  all_goals (try simp)
  all_goals (repeat' split)
  all_goals (try simp)

@[simp] theorem State.sendCsf_idents (s : State) (n : Nat) : (State.sendCsf s n).idents = s.idents := by
  generalize hT : State.sendCsf s n = res
  unfold State.sendCsf at hT
  try dsimp only at hT
  repeat' split at hT
  all_goals subst hT
  all_goals (try simp)
  all_goals (repeat' split)
  all_goals (try simp)
  all_goals (try rfl)
  all_goals (try exact State.idents_eq _ _ (by simp))
  all_goals (try simp [Session.ident])
  all_goals (try simp [Session.ident, State.session])
  all_goals (try simp [State.idents, State.session, Session.ident])

@[simp] theorem State.runFrame_frame (s : State) (n kind : Nat) (p : Nat) (pl : List Byte) :
    (State.runFrame s n kind p pl).1.pending = s.pending ∧
    (State.runFrame s n kind p pl).1.params = s.params ∧
    (State.runFrame s n kind p pl).1.boot = s.boot ∧
    (State.runFrame s n kind p pl).1.ports = s.ports ∧
    (State.runFrame s n kind p pl).1.segs = s.segs ∧
    (State.runFrame s n kind p pl).1.opening = s.opening ∧
    (State.runFrame s n kind p pl).1.fbs = s.fbs ∧
    (State.runFrame s n kind p pl).1.steps = s.steps ∧
    (State.runFrame s n kind p pl).1.moves = s.moves ∧
    (State.runFrame s n kind p pl).1.arb = s.arb ∧
    (State.runFrame s n kind p pl).1.groups = s.groups ∧
    (State.runFrame s n kind p pl).1.saf = s.saf ∧
    (State.runFrame s n kind p pl).1.die = s.die ∧
    (State.runFrame s n kind p pl).1.fld = s.fld ∧
    (State.runFrame s n kind p pl).1.twin = s.twin ∧
    (State.runFrame s n kind p pl).1.scs = s.scs ∧
    (State.runFrame s n kind p pl).1.host.keys = s.host.keys ∧
    (State.runFrame s n kind p pl).1.host.parQueue = s.host.parQueue ∧
    (State.runFrame s n kind p pl).1.cyc.cycle = s.cyc.cycle ∧
    (State.runFrame s n kind p pl).1.cyc.running = s.cyc.running := by
  generalize hT : State.runFrame s n kind p pl = res
  unfold State.runFrame at hT
  try dsimp only at hT
  repeat' split at hT
  all_goals subst hT
  all_goals (try simp)
  all_goals (repeat' split)
  all_goals (try simp)

@[simp] theorem State.runFrame_idents (s : State) (n kind : Nat) (p : Nat) (pl : List Byte) : (State.runFrame s n kind p pl).1.idents = s.idents := by
  generalize hT : State.runFrame s n kind p pl = res
  unfold State.runFrame at hT
  try dsimp only at hT
  repeat' split at hT
  all_goals subst hT
  all_goals (try simp)
  all_goals (repeat' split)
  all_goals (try simp)
  all_goals (try rfl)
  all_goals (try exact State.idents_eq _ _ (by simp))
  all_goals (try simp [Session.ident])
  all_goals (try simp [Session.ident, State.session])
  all_goals (try simp [State.idents, State.session, Session.ident])

@[simp] theorem State.runSup_frame (s : State) (n p : Nat) (q : Bool × List Byte) :
    (State.runSup s n p q).1.pending = s.pending ∧
    (State.runSup s n p q).1.params = s.params ∧
    (State.runSup s n p q).1.boot = s.boot ∧
    (State.runSup s n p q).1.ports = s.ports ∧
    (State.runSup s n p q).1.segs = s.segs ∧
    (State.runSup s n p q).1.opening = s.opening ∧
    (State.runSup s n p q).1.fbs = s.fbs ∧
    (State.runSup s n p q).1.steps = s.steps ∧
    (State.runSup s n p q).1.moves = s.moves ∧
    (State.runSup s n p q).1.arb = s.arb ∧
    (State.runSup s n p q).1.groups = s.groups ∧
    (State.runSup s n p q).1.saf = s.saf ∧
    (State.runSup s n p q).1.die = s.die ∧
    (State.runSup s n p q).1.fld = s.fld ∧
    (State.runSup s n p q).1.twin = s.twin ∧
    (State.runSup s n p q).1.scs = s.scs ∧
    (State.runSup s n p q).1.host.keys = s.host.keys ∧
    (State.runSup s n p q).1.host.parQueue = s.host.parQueue ∧
    (State.runSup s n p q).1.cyc.cycle = s.cyc.cycle ∧
    (State.runSup s n p q).1.cyc.running = s.cyc.running := by
  generalize hT : State.runSup s n p q = res
  unfold State.runSup at hT
  try dsimp only at hT
  repeat' split at hT
  all_goals subst hT
  all_goals (try simp)
  all_goals (repeat' split)
  all_goals (try simp)

@[simp] theorem State.runSup_idents (s : State) (n p : Nat) (q : Bool × List Byte) : (State.runSup s n p q).1.idents = s.idents := by
  generalize hT : State.runSup s n p q = res
  unfold State.runSup at hT
  try dsimp only at hT
  repeat' split at hT
  all_goals subst hT
  all_goals (try simp)
  all_goals (repeat' split)
  all_goals (try simp)
  all_goals (try rfl)
  all_goals (try exact State.idents_eq _ _ (by simp))
  all_goals (try simp [Session.ident])
  all_goals (try simp [Session.ident, State.session])
  all_goals (try simp [State.idents, State.session, Session.ident])

@[simp] theorem State.runSups_frame (s : State) (n : Nat) (k0 : Nat) (k1 : Nat) :
    (State.runSups s n k0 k1).pending = s.pending ∧
    (State.runSups s n k0 k1).params = s.params ∧
    (State.runSups s n k0 k1).boot = s.boot ∧
    (State.runSups s n k0 k1).ports = s.ports ∧
    (State.runSups s n k0 k1).opening = s.opening ∧
    (State.runSups s n k0 k1).fbs = s.fbs ∧
    (State.runSups s n k0 k1).steps = s.steps ∧
    (State.runSups s n k0 k1).moves = s.moves ∧
    (State.runSups s n k0 k1).arb = s.arb ∧
    (State.runSups s n k0 k1).groups = s.groups ∧
    (State.runSups s n k0 k1).saf = s.saf ∧
    (State.runSups s n k0 k1).die = s.die ∧
    (State.runSups s n k0 k1).fld = s.fld ∧
    (State.runSups s n k0 k1).twin = s.twin ∧
    (State.runSups s n k0 k1).scs = s.scs ∧
    (State.runSups s n k0 k1).host.keys = s.host.keys ∧
    (State.runSups s n k0 k1).host.parQueue = s.host.parQueue ∧
    (State.runSups s n k0 k1).cyc.cycle = s.cyc.cycle ∧
    (State.runSups s n k0 k1).cyc.running = s.cyc.running := by
  induction k0 generalizing s n k1 with
  | zero => simp [State.runSups]
  | succ k0 ih =>
    generalize hT : State.runSups s n (k0 + 1) k1 = res
    unfold State.runSups at hT
    try dsimp only at hT
    repeat' split at hT
    all_goals subst hT
    all_goals (try simp [ih])
    all_goals (repeat' split)
    all_goals (try simp [ih])

@[simp] theorem State.runSups_idents (s : State) (n : Nat) (k0 : Nat) (k1 : Nat) : (State.runSups s n k0 k1).idents = s.idents := by
  induction k0 generalizing s n k1 with
  | zero => simp [State.runSups]
  | succ k0 ih =>
    generalize hT : State.runSups s n (k0 + 1) k1 = res
    unfold State.runSups at hT
    try dsimp only at hT
    repeat' split at hT
    all_goals subst hT
    all_goals (try simp [ih])
    all_goals (repeat' split)
    all_goals (try simp [ih])
    all_goals (try rfl)
    all_goals (try exact State.idents_eq _ _ (by simp))
    all_goals (try simp [Session.ident])
    all_goals (try simp [Session.ident, State.session])
    all_goals (try simp [State.idents, State.session, Session.ident])

@[simp] theorem State.runSch_frame (s0 : State) (n p : Nat) :
    (State.runSch s0 n p).1.pending = s0.pending ∧
    (State.runSch s0 n p).1.params = s0.params ∧
    (State.runSch s0 n p).1.boot = s0.boot ∧
    (State.runSch s0 n p).1.ports = s0.ports ∧
    (State.runSch s0 n p).1.opening = s0.opening ∧
    (State.runSch s0 n p).1.fbs = s0.fbs ∧
    (State.runSch s0 n p).1.steps = s0.steps ∧
    (State.runSch s0 n p).1.moves = s0.moves ∧
    (State.runSch s0 n p).1.arb = s0.arb ∧
    (State.runSch s0 n p).1.groups = s0.groups ∧
    (State.runSch s0 n p).1.saf = s0.saf ∧
    (State.runSch s0 n p).1.die = s0.die ∧
    (State.runSch s0 n p).1.fld = s0.fld ∧
    (State.runSch s0 n p).1.twin = s0.twin ∧
    (State.runSch s0 n p).1.scs = s0.scs ∧
    (State.runSch s0 n p).1.host.keys = s0.host.keys ∧
    (State.runSch s0 n p).1.host.parQueue = s0.host.parQueue ∧
    (State.runSch s0 n p).1.cyc.cycle = s0.cyc.cycle ∧
    (State.runSch s0 n p).1.cyc.running = s0.cyc.running := by
  generalize hT : State.runSch s0 n p = res
  unfold State.runSch at hT
  try dsimp only at hT
  repeat' split at hT
  all_goals subst hT
  all_goals (try simp)
  all_goals (repeat' split)
  all_goals (try simp)

@[simp] theorem State.runSch_idents (s0 : State) (n p : Nat) : (State.runSch s0 n p).1.idents = s0.idents := by
  generalize hT : State.runSch s0 n p = res
  unfold State.runSch at hT
  try dsimp only at hT
  repeat' split at hT
  all_goals subst hT
  all_goals (try simp)
  all_goals (repeat' split)
  all_goals (try simp)
  all_goals (try rfl)
  all_goals (try exact State.idents_eq _ _ (by simp))
  all_goals (try simp [Session.ident])
  all_goals (try simp [Session.ident, State.session])
  all_goals (try simp [State.idents, State.session, Session.ident])

@[simp] theorem State.headRun_frame (s : State) (n : Nat) :
    (State.headRun s n).pending = s.pending ∧
    (State.headRun s n).params = s.params ∧
    (State.headRun s n).boot = s.boot ∧
    (State.headRun s n).ports = s.ports ∧
    (State.headRun s n).opening = s.opening ∧
    (State.headRun s n).fbs = s.fbs ∧
    (State.headRun s n).steps = s.steps ∧
    (State.headRun s n).moves = s.moves ∧
    (State.headRun s n).arb = s.arb ∧
    (State.headRun s n).groups = s.groups ∧
    (State.headRun s n).saf = s.saf ∧
    (State.headRun s n).die = s.die ∧
    (State.headRun s n).fld = s.fld ∧
    (State.headRun s n).twin = s.twin ∧
    (State.headRun s n).scs = s.scs ∧
    (State.headRun s n).host.keys = s.host.keys ∧
    (State.headRun s n).host.parQueue = s.host.parQueue ∧
    (State.headRun s n).cyc.cycle = s.cyc.cycle ∧
    (State.headRun s n).cyc.running = s.cyc.running := by
  generalize hT : State.headRun s n = res
  unfold State.headRun at hT
  try dsimp only at hT
  repeat' split at hT
  all_goals subst hT
  all_goals (try simp)
  all_goals (repeat' split)
  all_goals (try simp)

@[simp] theorem State.headRun_idents (s : State) (n : Nat) : (State.headRun s n).idents = s.idents := by
  generalize hT : State.headRun s n = res
  unfold State.headRun at hT
  try dsimp only at hT
  repeat' split at hT
  all_goals subst hT
  all_goals (try simp)
  all_goals (repeat' split)
  all_goals (try simp)
  all_goals (try rfl)
  all_goals (try exact State.idents_eq _ _ (by simp))
  all_goals (try simp [Session.ident])
  all_goals (try simp [Session.ident, State.session])
  all_goals (try simp [State.idents, State.session, Session.ident])

@[simp] theorem State.sendExchanges_frame (s : State) (n : Nat) :
    (State.sendExchanges s n).pending = s.pending ∧
    (State.sendExchanges s n).params = s.params ∧
    (State.sendExchanges s n).boot = s.boot ∧
    (State.sendExchanges s n).ports = s.ports ∧
    (State.sendExchanges s n).segs = s.segs ∧
    (State.sendExchanges s n).opening = s.opening ∧
    (State.sendExchanges s n).fbs = s.fbs ∧
    (State.sendExchanges s n).steps = s.steps ∧
    (State.sendExchanges s n).arb = s.arb ∧
    (State.sendExchanges s n).groups = s.groups ∧
    (State.sendExchanges s n).saf = s.saf ∧
    (State.sendExchanges s n).die = s.die ∧
    (State.sendExchanges s n).fld = s.fld ∧
    (State.sendExchanges s n).twin = s.twin ∧
    (State.sendExchanges s n).scs = s.scs ∧
    (State.sendExchanges s n).host.keys = s.host.keys ∧
    (State.sendExchanges s n).host.parQueue = s.host.parQueue ∧
    (State.sendExchanges s n).cyc.cycle = s.cyc.cycle ∧
    (State.sendExchanges s n).cyc.running = s.cyc.running := by
  generalize hT : State.sendExchanges s n = res
  unfold State.sendExchanges at hT
  try dsimp only at hT
  repeat' split at hT
  all_goals subst hT
  all_goals (try simp)
  all_goals (repeat' split)
  all_goals (try simp)

@[simp] theorem State.sendExchanges_idents (s : State) (n : Nat) : (State.sendExchanges s n).idents = s.idents := by
  generalize hT : State.sendExchanges s n = res
  unfold State.sendExchanges at hT
  try dsimp only at hT
  repeat' split at hT
  all_goals subst hT
  all_goals (try simp)
  all_goals (repeat' split)
  all_goals (try simp)
  all_goals (try rfl)
  all_goals (try exact State.idents_eq _ _ (by simp))
  all_goals (try simp [Session.ident])
  all_goals (try simp [Session.ident, State.session])
  all_goals (try simp [State.idents, State.session, Session.ident])

@[simp] theorem State.trackMissing_frame (s : State) (n k : Nat) :
    (State.trackMissing s n k).pending = s.pending ∧
    (State.trackMissing s n k).out = s.out ∧
    (State.trackMissing s n k).freeCtr = s.freeCtr ∧
    (State.trackMissing s n k).coreTicks = s.coreTicks ∧
    (State.trackMissing s n k).params = s.params ∧
    (State.trackMissing s n k).cyc = s.cyc ∧
    (State.trackMissing s n k).boot = s.boot ∧
    (State.trackMissing s n k).ports = s.ports ∧
    (State.trackMissing s n k).opening = s.opening ∧
    (State.trackMissing s n k).fbs = s.fbs ∧
    (State.trackMissing s n k).axes = s.axes ∧
    (State.trackMissing s n k).steps = s.steps ∧
    (State.trackMissing s n k).line = s.line ∧
    (State.trackMissing s n k).moves = s.moves ∧
    (State.trackMissing s n k).arb = s.arb ∧
    (State.trackMissing s n k).groups = s.groups ∧
    (State.trackMissing s n k).eng = s.eng ∧
    (State.trackMissing s n k).saf = s.saf ∧
    (State.trackMissing s n k).die = s.die ∧
    (State.trackMissing s n k).fld = s.fld ∧
    (State.trackMissing s n k).twin = s.twin ∧
    (State.trackMissing s n k).scs = s.scs ∧
    (State.trackMissing s n k).time = s.time ∧
    (State.trackMissing s n k).host = s.host := by
  generalize hT : State.trackMissing s n k = res
  unfold State.trackMissing at hT
  try dsimp only at hT
  repeat' split at hT
  all_goals subst hT
  all_goals (try simp)
  all_goals (repeat' split)
  all_goals (try simp)

@[simp] theorem State.trackMissing_idents (s : State) (n k : Nat) : (State.trackMissing s n k).idents = s.idents := State.idents_eq _ _ (by simp)

@[simp] theorem State.trackReturn_frame (s : State) (n k : Nat) :
    (State.trackReturn s n k).pending = s.pending ∧
    (State.trackReturn s n k).out = s.out ∧
    (State.trackReturn s n k).freeCtr = s.freeCtr ∧
    (State.trackReturn s n k).coreTicks = s.coreTicks ∧
    (State.trackReturn s n k).params = s.params ∧
    (State.trackReturn s n k).cyc = s.cyc ∧
    (State.trackReturn s n k).boot = s.boot ∧
    (State.trackReturn s n k).ports = s.ports ∧
    (State.trackReturn s n k).opening = s.opening ∧
    (State.trackReturn s n k).fbs = s.fbs ∧
    (State.trackReturn s n k).axes = s.axes ∧
    (State.trackReturn s n k).steps = s.steps ∧
    (State.trackReturn s n k).line = s.line ∧
    (State.trackReturn s n k).moves = s.moves ∧
    (State.trackReturn s n k).arb = s.arb ∧
    (State.trackReturn s n k).groups = s.groups ∧
    (State.trackReturn s n k).eng = s.eng ∧
    (State.trackReturn s n k).saf = s.saf ∧
    (State.trackReturn s n k).die = s.die ∧
    (State.trackReturn s n k).fld = s.fld ∧
    (State.trackReturn s n k).twin = s.twin ∧
    (State.trackReturn s n k).scs = s.scs ∧
    (State.trackReturn s n k).time = s.time ∧
    (State.trackReturn s n k).host = s.host := by
  generalize hT : State.trackReturn s n k = res
  unfold State.trackReturn at hT
  try dsimp only at hT
  repeat' split at hT
  all_goals subst hT
  all_goals (try simp)
  all_goals (repeat' split)
  all_goals (try simp)

@[simp] theorem State.trackReturn_idents (s : State) (n k : Nat) : (State.trackReturn s n k).idents = s.idents := State.idents_eq _ _ (by simp)

@[simp] theorem State.trackPassing_frame (s : State) (n k : Nat) :
    (State.trackPassing s n k).pending = s.pending ∧
    (State.trackPassing s n k).out = s.out ∧
    (State.trackPassing s n k).freeCtr = s.freeCtr ∧
    (State.trackPassing s n k).coreTicks = s.coreTicks ∧
    (State.trackPassing s n k).params = s.params ∧
    (State.trackPassing s n k).cyc = s.cyc ∧
    (State.trackPassing s n k).boot = s.boot ∧
    (State.trackPassing s n k).ports = s.ports ∧
    (State.trackPassing s n k).opening = s.opening ∧
    (State.trackPassing s n k).fbs = s.fbs ∧
    (State.trackPassing s n k).axes = s.axes ∧
    (State.trackPassing s n k).steps = s.steps ∧
    (State.trackPassing s n k).line = s.line ∧
    (State.trackPassing s n k).moves = s.moves ∧
    (State.trackPassing s n k).arb = s.arb ∧
    (State.trackPassing s n k).groups = s.groups ∧
    (State.trackPassing s n k).eng = s.eng ∧
    (State.trackPassing s n k).saf = s.saf ∧
    (State.trackPassing s n k).die = s.die ∧
    (State.trackPassing s n k).fld = s.fld ∧
    (State.trackPassing s n k).twin = s.twin ∧
    (State.trackPassing s n k).scs = s.scs ∧
    (State.trackPassing s n k).time = s.time ∧
    (State.trackPassing s n k).host = s.host := by
  generalize hT : State.trackPassing s n k = res
  unfold State.trackPassing at hT
  try dsimp only at hT
  repeat' split at hT
  all_goals subst hT
  all_goals (try simp)
  all_goals (repeat' split)
  all_goals (try simp)

@[simp] theorem State.trackPassing_idents (s : State) (n k : Nat) : (State.trackPassing s n k).idents = s.idents := State.idents_eq _ _ (by simp)

@[simp] theorem State.enterCycle_frame (s : State) (k : Nat) :
    (State.enterCycle s k).pending = s.pending ∧
    (State.enterCycle s k).out = s.out ∧
    (State.enterCycle s k).freeCtr = s.freeCtr ∧
    (State.enterCycle s k).coreTicks = s.coreTicks ∧
    (State.enterCycle s k).params = s.params ∧
    (State.enterCycle s k).boot = s.boot ∧
    (State.enterCycle s k).ports = s.ports ∧
    (State.enterCycle s k).opening = s.opening ∧
    (State.enterCycle s k).moves = s.moves ∧
    (State.enterCycle s k).groups = s.groups ∧
    (State.enterCycle s k).eng = s.eng ∧
    (State.enterCycle s k).die = s.die ∧
    (State.enterCycle s k).fld = s.fld ∧
    (State.enterCycle s k).scs = s.scs ∧
    (State.enterCycle s k).host = s.host ∧
    (State.enterCycle s k).saf.endgame = s.saf.endgame ∧
    (State.enterCycle s k).saf.silent = s.saf.silent ∧
    (State.enterCycle s k).twin.standby = s.twin.standby ∧
    (State.enterCycle s k).twin.onMove = s.twin.onMove := by
  generalize hT : State.enterCycle s k = res
  unfold State.enterCycle at hT
  try dsimp only at hT
  repeat' split at hT
  all_goals subst hT
  all_goals (try simp)
  all_goals (repeat' split)
  all_goals (try simp)

@[simp] theorem State.enterCycle_idents (s : State) (k : Nat) : (State.enterCycle s k).idents = s.idents := State.idents_eq _ _ (by simp)

@[simp] theorem State.cycleStops_frame (s : State) :
    (State.cycleStops s).pending = s.pending ∧
    (State.cycleStops s).params = s.params ∧
    (State.cycleStops s).boot = s.boot ∧
    (State.cycleStops s).ports = s.ports ∧
    (State.cycleStops s).opening = s.opening ∧
    (State.cycleStops s).fbs = s.fbs ∧
    (State.cycleStops s).arb = s.arb ∧
    (State.cycleStops s).groups = s.groups ∧
    (State.cycleStops s).die = s.die ∧
    (State.cycleStops s).twin = s.twin ∧
    (State.cycleStops s).scs = s.scs ∧
    (State.cycleStops s).saf.endgame = s.saf.endgame ∧
    (State.cycleStops s).saf.silent = s.saf.silent ∧
    (State.cycleStops s).host.keys = s.host.keys ∧
    (State.cycleStops s).host.parQueue = s.host.parQueue ∧
    (State.cycleStops s).cyc.cycle = s.cyc.cycle ∧
    (State.cycleStops s).cyc.running = s.cyc.running := by
  generalize hT : State.cycleStops s = res
  unfold State.cycleStops at hT
  try dsimp only at hT
  repeat' split at hT
  all_goals subst hT
  all_goals (try simp)
  all_goals (repeat' split)
  all_goals (try simp)

@[simp] theorem State.cycleStops_idents (s : State) : (State.cycleStops s).idents = s.idents := by
  generalize hT : State.cycleStops s = res
  unfold State.cycleStops at hT
  try dsimp only at hT
  repeat' split at hT
  all_goals subst hT
  all_goals (try simp)
  all_goals (repeat' split)
  all_goals (try simp)
  all_goals (try rfl)
  all_goals (try exact State.idents_eq _ _ (by simp))
  all_goals (try simp [Session.ident])
  all_goals (try simp [Session.ident, State.session])
  all_goals (try simp [State.idents, State.session, Session.ident])

@[simp] theorem State.estimates_frame (s : State) (k : Nat) :
    (State.estimates s k).pending = s.pending ∧
    (State.estimates s k).freeCtr = s.freeCtr ∧
    (State.estimates s k).coreTicks = s.coreTicks ∧
    (State.estimates s k).params = s.params ∧
    (State.estimates s k).cyc = s.cyc ∧
    (State.estimates s k).boot = s.boot ∧
    (State.estimates s k).ports = s.ports ∧
    (State.estimates s k).segs = s.segs ∧
    (State.estimates s k).opening = s.opening ∧
    (State.estimates s k).fbs = s.fbs ∧
    (State.estimates s k).axes = s.axes ∧
    (State.estimates s k).steps = s.steps ∧
    (State.estimates s k).line = s.line ∧
    (State.estimates s k).moves = s.moves ∧
    (State.estimates s k).arb = s.arb ∧
    (State.estimates s k).groups = s.groups ∧
    (State.estimates s k).eng = s.eng ∧
    (State.estimates s k).die = s.die ∧
    (State.estimates s k).fld = s.fld ∧
    (State.estimates s k).twin = s.twin ∧
    (State.estimates s k).scs = s.scs ∧
    (State.estimates s k).time = s.time ∧
    (State.estimates s k).saf.endgame = s.saf.endgame ∧
    (State.estimates s k).saf.silent = s.saf.silent ∧
    (State.estimates s k).host.keys = s.host.keys ∧
    (State.estimates s k).host.parQueue = s.host.parQueue := by
  generalize hT : State.estimates s k = res
  unfold State.estimates at hT
  try dsimp only at hT
  repeat' split at hT
  all_goals subst hT
  all_goals (try simp)
  all_goals (repeat' split)
  all_goals (try simp)

@[simp] theorem State.estimates_idents (s : State) (k : Nat) : (State.estimates s k).idents = s.idents := by
  generalize hT : State.estimates s k = res
  unfold State.estimates at hT
  try dsimp only at hT
  repeat' split at hT
  all_goals subst hT
  all_goals (try simp)
  all_goals (repeat' split)
  all_goals (try simp)
  all_goals (try rfl)
  all_goals (try exact State.idents_eq _ _ (by simp))
  all_goals (try simp [Session.ident])
  all_goals (try simp [Session.ident, State.session])
  all_goals (try simp [State.idents, State.session, Session.ident])

@[simp] theorem State.headSend_frame (s : State) :
    (State.headSend s).pending = s.pending ∧
    (State.headSend s).params = s.params ∧
    (State.headSend s).boot = s.boot ∧
    (State.headSend s).ports = s.ports ∧
    (State.headSend s).opening = s.opening ∧
    (State.headSend s).fbs = s.fbs ∧
    (State.headSend s).arb = s.arb ∧
    (State.headSend s).groups = s.groups ∧
    (State.headSend s).die = s.die ∧
    (State.headSend s).twin = s.twin ∧
    (State.headSend s).scs = s.scs ∧
    (State.headSend s).saf.endgame = s.saf.endgame ∧
    (State.headSend s).saf.silent = s.saf.silent ∧
    (State.headSend s).host.keys = s.host.keys ∧
    (State.headSend s).host.parQueue = s.host.parQueue ∧
    (State.headSend s).cyc.cycle = s.cyc.cycle ∧
    (State.headSend s).cyc.running = s.cyc.running := by
  generalize hT : State.headSend s = res
  unfold State.headSend at hT
  try dsimp only at hT
  repeat' split at hT
  all_goals subst hT
  all_goals (try simp)
  all_goals (repeat' split)
  all_goals (try simp)

@[simp] theorem State.headSend_idents (s : State) : (State.headSend s).idents = s.idents := by
  generalize hT : State.headSend s = res
  unfold State.headSend at hT
  try dsimp only at hT
  repeat' split at hT
  all_goals subst hT
  all_goals (try simp)
  all_goals (repeat' split)
  all_goals (try simp)
  all_goals (try rfl)
  all_goals (try exact State.idents_eq _ _ (by simp))
  all_goals (try simp [Session.ident])
  all_goals (try simp [Session.ident, State.session])
  all_goals (try simp [State.idents, State.session, Session.ident])

@[simp] theorem State.shadowRun_frame (s : State) :
    (State.shadowRun s).pending = s.pending ∧
    (State.shadowRun s).out = s.out ∧
    (State.shadowRun s).freeCtr = s.freeCtr ∧
    (State.shadowRun s).coreTicks = s.coreTicks ∧
    (State.shadowRun s).params = s.params ∧
    (State.shadowRun s).cyc = s.cyc ∧
    (State.shadowRun s).boot = s.boot ∧
    (State.shadowRun s).ports = s.ports ∧
    (State.shadowRun s).opening = s.opening ∧
    (State.shadowRun s).fbs = s.fbs ∧
    (State.shadowRun s).axes = s.axes ∧
    (State.shadowRun s).steps = s.steps ∧
    (State.shadowRun s).line = s.line ∧
    (State.shadowRun s).arb = s.arb ∧
    (State.shadowRun s).groups = s.groups ∧
    (State.shadowRun s).eng = s.eng ∧
    (State.shadowRun s).saf = s.saf ∧
    (State.shadowRun s).die = s.die ∧
    (State.shadowRun s).fld = s.fld ∧
    (State.shadowRun s).twin = s.twin ∧
    (State.shadowRun s).scs = s.scs ∧
    (State.shadowRun s).time = s.time ∧
    (State.shadowRun s).host = s.host := by
  generalize hT : State.shadowRun s = res
  unfold State.shadowRun at hT
  try dsimp only at hT
  repeat' split at hT
  all_goals subst hT
  all_goals (try simp)
  all_goals (repeat' split)
  all_goals (try simp)

@[simp] theorem State.shadowRun_idents (s : State) : (State.shadowRun s).idents = s.idents := State.idents_eq _ _ (by simp)

@[simp] theorem State.swapOut_frame (s : State) (k : Nat) :
    (State.swapOut s k).pending = s.pending ∧
    (State.swapOut s k).freeCtr = s.freeCtr ∧
    (State.swapOut s k).coreTicks = s.coreTicks ∧
    (State.swapOut s k).params = s.params ∧
    (State.swapOut s k).cyc = s.cyc ∧
    (State.swapOut s k).boot = s.boot ∧
    (State.swapOut s k).ports = s.ports ∧
    (State.swapOut s k).axes = s.axes ∧
    (State.swapOut s k).steps = s.steps ∧
    (State.swapOut s k).line = s.line ∧
    (State.swapOut s k).moves = s.moves ∧
    (State.swapOut s k).arb = s.arb ∧
    (State.swapOut s k).groups = s.groups ∧
    (State.swapOut s k).eng = s.eng ∧
    (State.swapOut s k).saf = s.saf ∧
    (State.swapOut s k).die = s.die ∧
    (State.swapOut s k).fld = s.fld ∧
    (State.swapOut s k).scs = s.scs ∧
    (State.swapOut s k).time = s.time ∧
    (State.swapOut s k).host.keys = s.host.keys ∧
    (State.swapOut s k).host.parQueue = s.host.parQueue := by
  generalize hT : State.swapOut s k = res
  unfold State.swapOut at hT
  try dsimp only at hT
  repeat' split at hT
  all_goals subst hT
  all_goals (try simp)
  all_goals (repeat' split)
  all_goals (try simp)

@[simp] theorem State.swapOut_idents (s : State) (k : Nat) : (State.swapOut s k).idents = s.idents := by
  generalize hT : State.swapOut s k = res
  unfold State.swapOut at hT
  try dsimp only at hT
  repeat' split at hT
  all_goals subst hT
  all_goals (try simp)
  all_goals (repeat' split)
  all_goals (try simp)
  all_goals (try rfl)
  all_goals (try exact State.idents_eq _ _ (by simp))
  all_goals (try simp [Session.ident])
  all_goals (try simp [Session.ident, State.session])
  all_goals (try simp [State.idents, State.session, Session.ident])

@[simp] theorem State.joinStandby_frame (s : State) :
    (State.joinStandby s).pending = s.pending ∧
    (State.joinStandby s).freeCtr = s.freeCtr ∧
    (State.joinStandby s).coreTicks = s.coreTicks ∧
    (State.joinStandby s).cyc = s.cyc ∧
    (State.joinStandby s).boot = s.boot ∧
    (State.joinStandby s).ports = s.ports ∧
    (State.joinStandby s).segs = s.segs ∧
    (State.joinStandby s).opening = s.opening ∧
    (State.joinStandby s).fbs = s.fbs ∧
    (State.joinStandby s).axes = s.axes ∧
    (State.joinStandby s).steps = s.steps ∧
    (State.joinStandby s).line = s.line ∧
    (State.joinStandby s).arb = s.arb ∧
    (State.joinStandby s).groups = s.groups ∧
    (State.joinStandby s).eng = s.eng ∧
    (State.joinStandby s).saf = s.saf ∧
    (State.joinStandby s).die = s.die ∧
    (State.joinStandby s).fld = s.fld ∧
    (State.joinStandby s).scs = s.scs ∧
    (State.joinStandby s).time = s.time ∧
    (State.joinStandby s).host = s.host ∧
    (State.joinStandby s).twin.standby = s.twin.standby ∧
    (State.joinStandby s).twin.onMove = s.twin.onMove := by
  generalize hT : State.joinStandby s = res
  unfold State.joinStandby at hT
  try dsimp only at hT
  repeat' split at hT
  all_goals subst hT
  all_goals (try simp)
  all_goals (repeat' split)
  all_goals (try simp)

@[simp] theorem State.joinStandby_idents (s : State) : (State.joinStandby s).idents = s.idents := State.idents_eq _ _ (by simp)

@[simp] theorem State.wrapCycle_frame (s : State) :
    (State.wrapCycle s).pending = s.pending ∧
    (State.wrapCycle s).out = s.out ∧
    (State.wrapCycle s).freeCtr = s.freeCtr ∧
    (State.wrapCycle s).coreTicks = s.coreTicks ∧
    (State.wrapCycle s).params = s.params ∧
    (State.wrapCycle s).boot = s.boot ∧
    (State.wrapCycle s).ports = s.ports ∧
    (State.wrapCycle s).segs = s.segs ∧
    (State.wrapCycle s).opening = s.opening ∧
    (State.wrapCycle s).fbs = s.fbs ∧
    (State.wrapCycle s).axes = s.axes ∧
    (State.wrapCycle s).steps = s.steps ∧
    (State.wrapCycle s).line = s.line ∧
    (State.wrapCycle s).moves = s.moves ∧
    (State.wrapCycle s).arb = s.arb ∧
    (State.wrapCycle s).groups = s.groups ∧
    (State.wrapCycle s).eng = s.eng ∧
    (State.wrapCycle s).saf = s.saf ∧
    (State.wrapCycle s).die = s.die ∧
    (State.wrapCycle s).fld = s.fld ∧
    (State.wrapCycle s).twin = s.twin ∧
    (State.wrapCycle s).scs = s.scs ∧
    (State.wrapCycle s).time = s.time ∧
    (State.wrapCycle s).host = s.host ∧
    (State.wrapCycle s).cyc.cycle = s.cyc.cycle ∧
    (State.wrapCycle s).cyc.running = s.cyc.running := by
  generalize hT : State.wrapCycle s = res
  unfold State.wrapCycle at hT
  try dsimp only at hT
  repeat' split at hT
  all_goals subst hT
  all_goals (try simp)
  all_goals (repeat' split)
  all_goals (try simp)

@[simp] theorem State.wrapCycle_idents (s : State) : (State.wrapCycle s).idents = s.idents := State.idents_eq _ _ (by simp)

end Sys2Proof.Machine
end

