-- ==== Sys2Proof/Laws/FrameTwinOps.lean ====
section
/-! SUPPORT. What the operations of Machine/TwinOps.lean leave unchanged: one rule per operation. -/

namespace Sys2Proof.Machine

@[simp] theorem State.modTwin_frame (s : State) (f : Twin → Twin) :
    (State.modTwin s f).pending = s.pending ∧
    (State.modTwin s f).out = s.out ∧
    (State.modTwin s f).freeCtr = s.freeCtr ∧
    (State.modTwin s f).coreTicks = s.coreTicks ∧
    (State.modTwin s f).params = s.params ∧
    (State.modTwin s f).cyc = s.cyc ∧
    (State.modTwin s f).boot = s.boot ∧
    (State.modTwin s f).ports = s.ports ∧
    (State.modTwin s f).segs = s.segs ∧
    (State.modTwin s f).opening = s.opening ∧
    (State.modTwin s f).fbs = s.fbs ∧
    (State.modTwin s f).axes = s.axes ∧
    (State.modTwin s f).steps = s.steps ∧
    (State.modTwin s f).line = s.line ∧
    (State.modTwin s f).moves = s.moves ∧
    (State.modTwin s f).arb = s.arb ∧
    (State.modTwin s f).groups = s.groups ∧
    (State.modTwin s f).eng = s.eng ∧
    (State.modTwin s f).saf = s.saf ∧
    (State.modTwin s f).die = s.die ∧
    (State.modTwin s f).fld = s.fld ∧
    (State.modTwin s f).scs = s.scs ∧
    (State.modTwin s f).time = s.time ∧
    (State.modTwin s f).host = s.host := by
  generalize hT : State.modTwin s f = res
  unfold State.modTwin at hT
  try dsimp only at hT
  repeat' split at hT
  all_goals subst hT
  all_goals (try simp)
  all_goals (repeat' split)
  all_goals (try simp)

@[simp] theorem State.modTwin_idents (s : State) (f : Twin → Twin) : (State.modTwin s f).idents = s.idents := State.idents_eq _ _ (by simp)

@[simp] theorem State.twinEpochChange_frame (s : State) :
    (State.twinEpochChange s).pending = s.pending ∧
    (State.twinEpochChange s).out = s.out ∧
    (State.twinEpochChange s).freeCtr = s.freeCtr ∧
    (State.twinEpochChange s).coreTicks = s.coreTicks ∧
    (State.twinEpochChange s).params = s.params ∧
    (State.twinEpochChange s).cyc = s.cyc ∧
    (State.twinEpochChange s).boot = s.boot ∧
    (State.twinEpochChange s).ports = s.ports ∧
    (State.twinEpochChange s).segs = s.segs ∧
    (State.twinEpochChange s).opening = s.opening ∧
    (State.twinEpochChange s).fbs = s.fbs ∧
    (State.twinEpochChange s).axes = s.axes ∧
    (State.twinEpochChange s).steps = s.steps ∧
    (State.twinEpochChange s).line = s.line ∧
    (State.twinEpochChange s).moves = s.moves ∧
    (State.twinEpochChange s).arb = s.arb ∧
    (State.twinEpochChange s).groups = s.groups ∧
    (State.twinEpochChange s).eng = s.eng ∧
    (State.twinEpochChange s).saf = s.saf ∧
    (State.twinEpochChange s).die = s.die ∧
    (State.twinEpochChange s).fld = s.fld ∧
    (State.twinEpochChange s).scs = s.scs ∧
    (State.twinEpochChange s).time = s.time ∧
    (State.twinEpochChange s).host = s.host := by
  generalize hT : State.twinEpochChange s = res
  unfold State.twinEpochChange at hT
  try dsimp only at hT
  repeat' split at hT
  all_goals subst hT
  all_goals (try simp)
  all_goals (repeat' split)
  all_goals (try simp)

@[simp] theorem State.twinEpochChange_idents (s : State) : (State.twinEpochChange s).idents = s.idents := State.idents_eq _ _ (by simp)

@[simp] theorem State.markSplit_frame (s : State) (peer : Nat) :
    (State.markSplit s peer).pending = s.pending ∧
    (State.markSplit s peer).freeCtr = s.freeCtr ∧
    (State.markSplit s peer).coreTicks = s.coreTicks ∧
    (State.markSplit s peer).params = s.params ∧
    (State.markSplit s peer).cyc = s.cyc ∧
    (State.markSplit s peer).boot = s.boot ∧
    (State.markSplit s peer).ports = s.ports ∧
    (State.markSplit s peer).segs = s.segs ∧
    (State.markSplit s peer).opening = s.opening ∧
    (State.markSplit s peer).fbs = s.fbs ∧
    (State.markSplit s peer).axes = s.axes ∧
    (State.markSplit s peer).steps = s.steps ∧
    (State.markSplit s peer).line = s.line ∧
    (State.markSplit s peer).moves = s.moves ∧
    (State.markSplit s peer).arb = s.arb ∧
    (State.markSplit s peer).groups = s.groups ∧
    (State.markSplit s peer).eng = s.eng ∧
    (State.markSplit s peer).saf = s.saf ∧
    (State.markSplit s peer).die = s.die ∧
    (State.markSplit s peer).fld = s.fld ∧
    (State.markSplit s peer).scs = s.scs ∧
    (State.markSplit s peer).time = s.time ∧
    (State.markSplit s peer).host.keys = s.host.keys ∧
    (State.markSplit s peer).host.parQueue = s.host.parQueue := by
  generalize hT : State.markSplit s peer = res
  unfold State.markSplit at hT
  try dsimp only at hT
  repeat' split at hT
  all_goals subst hT
  all_goals (try simp)
  all_goals (repeat' split)
  all_goals (try simp)

@[simp] theorem State.markSplit_idents (s : State) (peer : Nat) : (State.markSplit s peer).idents = s.idents := by
  generalize hT : State.markSplit s peer = res
  unfold State.markSplit at hT
  try dsimp only at hT
  repeat' split at hT
  all_goals subst hT
  all_goals (try simp)
  all_goals (repeat' split)
  all_goals (try simp)
  all_goals (try rfl)
  all_goals (try exact State.idents_eq _ _ (by simp))
  all_goals (try simp [Session.ident])
  all_goals (try simp [Session.ident, State.session])
  all_goals (try simp [State.idents, State.session, Session.ident])

@[simp] theorem State.splitWith_frame (s : State) (peer : Nat) :
    (State.splitWith s peer).pending = s.pending ∧
    (State.splitWith s peer).freeCtr = s.freeCtr ∧
    (State.splitWith s peer).coreTicks = s.coreTicks ∧
    (State.splitWith s peer).params = s.params ∧
    (State.splitWith s peer).cyc = s.cyc ∧
    (State.splitWith s peer).boot = s.boot ∧
    (State.splitWith s peer).ports = s.ports ∧
    (State.splitWith s peer).segs = s.segs ∧
    (State.splitWith s peer).axes = s.axes ∧
    (State.splitWith s peer).steps = s.steps ∧
    (State.splitWith s peer).line = s.line ∧
    (State.splitWith s peer).moves = s.moves ∧
    (State.splitWith s peer).arb = s.arb ∧
    (State.splitWith s peer).groups = s.groups ∧
    (State.splitWith s peer).eng = s.eng ∧
    (State.splitWith s peer).die = s.die ∧
    (State.splitWith s peer).fld = s.fld ∧
    (State.splitWith s peer).scs = s.scs ∧
    (State.splitWith s peer).time = s.time ∧
    (State.splitWith s peer).saf.endgame = s.saf.endgame ∧
    (State.splitWith s peer).saf.silent = s.saf.silent ∧
    (State.splitWith s peer).host.keys = s.host.keys ∧
    (State.splitWith s peer).host.parQueue = s.host.parQueue := by
  generalize hT : State.splitWith s peer = res
  unfold State.splitWith at hT
  try dsimp only at hT
  repeat' split at hT
  all_goals subst hT
  all_goals (try simp)
  all_goals (repeat' split)
  all_goals (try simp)

@[simp] theorem State.splitWith_idents (s : State) (peer : Nat) : (State.splitWith s peer).idents = s.idents := by
  generalize hT : State.splitWith s peer = res
  unfold State.splitWith at hT
  try dsimp only at hT
  repeat' split at hT
  all_goals subst hT
  all_goals (try simp)
  all_goals (repeat' split)
  all_goals (try simp)
  all_goals (try rfl)
  all_goals (try exact State.idents_eq _ _ (by simp))
  all_goals (try simp [Session.ident])
  all_goals (try simp [Session.ident, State.session])
  all_goals (try simp [State.idents, State.session, Session.ident])

@[simp] theorem State.startJoin_frame (s : State) (peer : List (BitVec 64)) :
    (State.startJoin s peer).pending = s.pending ∧
    (State.startJoin s peer).freeCtr = s.freeCtr ∧
    (State.startJoin s peer).coreTicks = s.coreTicks ∧
    (State.startJoin s peer).params = s.params ∧
    (State.startJoin s peer).cyc = s.cyc ∧
    (State.startJoin s peer).boot = s.boot ∧
    (State.startJoin s peer).ports = s.ports ∧
    (State.startJoin s peer).segs = s.segs ∧
    (State.startJoin s peer).opening = s.opening ∧
    (State.startJoin s peer).fbs = s.fbs ∧
    (State.startJoin s peer).axes = s.axes ∧
    (State.startJoin s peer).steps = s.steps ∧
    (State.startJoin s peer).line = s.line ∧
    (State.startJoin s peer).moves = s.moves ∧
    (State.startJoin s peer).arb = s.arb ∧
    (State.startJoin s peer).groups = s.groups ∧
    (State.startJoin s peer).eng = s.eng ∧
    (State.startJoin s peer).saf = s.saf ∧
    (State.startJoin s peer).die = s.die ∧
    (State.startJoin s peer).fld = s.fld ∧
    (State.startJoin s peer).scs = s.scs ∧
    (State.startJoin s peer).time = s.time ∧
    (State.startJoin s peer).host.keys = s.host.keys ∧
    (State.startJoin s peer).host.parQueue = s.host.parQueue := by
  generalize hT : State.startJoin s peer = res
  unfold State.startJoin at hT
  try dsimp only at hT
  repeat' split at hT
  all_goals subst hT
  all_goals (try simp)
  all_goals (repeat' split)
  all_goals (try simp)

@[simp] theorem State.startJoin_idents (s : State) (peer : List (BitVec 64)) : (State.startJoin s peer).idents = s.idents := by
  generalize hT : State.startJoin s peer = res
  unfold State.startJoin at hT
  try dsimp only at hT
  repeat' split at hT
  all_goals subst hT
  all_goals (try simp)
  all_goals (repeat' split)
  all_goals (try simp)
  all_goals (try rfl)
  all_goals (try exact State.idents_eq _ _ (by simp))
  all_goals (try simp [Session.ident])
  all_goals (try simp [Session.ident, State.session])
  all_goals (try simp [State.idents, State.session, Session.ident])

@[simp] theorem State.rejoin_frame (s : State) :
    (State.rejoin s).pending = s.pending ∧
    (State.rejoin s).params = s.params ∧
    (State.rejoin s).cyc = s.cyc ∧
    (State.rejoin s).boot = s.boot ∧
    (State.rejoin s).segs = s.segs ∧
    (State.rejoin s).steps = s.steps ∧
    (State.rejoin s).moves = s.moves ∧
    (State.rejoin s).arb = s.arb ∧
    (State.rejoin s).groups = s.groups ∧
    (State.rejoin s).die = s.die ∧
    (State.rejoin s).fld = s.fld ∧
    (State.rejoin s).scs = s.scs ∧
    (State.rejoin s).saf.endgame = s.saf.endgame ∧
    (State.rejoin s).host.keys = s.host.keys ∧
    (State.rejoin s).host.parQueue = s.host.parQueue := by
  generalize hT : State.rejoin s = res
  unfold State.rejoin at hT
  try dsimp only at hT
  repeat' split at hT
  all_goals subst hT
  all_goals (try simp)
  all_goals (repeat' split)
  all_goals (try simp)

@[simp] theorem State.rejoin_idents (s : State) : (State.rejoin s).idents = s.idents := by
  generalize hT : State.rejoin s = res
  unfold State.rejoin at hT
  try dsimp only at hT
  repeat' split at hT
  all_goals subst hT
  all_goals (try simp)
  all_goals (repeat' split)
  all_goals (try simp)
  all_goals (try rfl)
  all_goals (try exact State.idents_eq _ _ (by simp))
  all_goals (try simp [Session.ident])
  all_goals (try simp [Session.ident, State.session])
  all_goals (try simp [State.idents, State.session, Session.ident])

@[simp] theorem State.takeHealth_frame (s : State) (m : HealthMsg) :
    (State.takeHealth s m).pending = s.pending ∧
    (State.takeHealth s m).params = s.params ∧
    (State.takeHealth s m).cyc = s.cyc ∧
    (State.takeHealth s m).boot = s.boot ∧
    (State.takeHealth s m).segs = s.segs ∧
    (State.takeHealth s m).steps = s.steps ∧
    (State.takeHealth s m).moves = s.moves ∧
    (State.takeHealth s m).arb = s.arb ∧
    (State.takeHealth s m).groups = s.groups ∧
    (State.takeHealth s m).die = s.die ∧
    (State.takeHealth s m).fld = s.fld ∧
    (State.takeHealth s m).scs = s.scs ∧
    (State.takeHealth s m).saf.endgame = s.saf.endgame ∧
    (State.takeHealth s m).host.keys = s.host.keys ∧
    (State.takeHealth s m).host.parQueue = s.host.parQueue := by
  generalize hT : State.takeHealth s m = res
  unfold State.takeHealth at hT
  try dsimp only at hT
  repeat' split at hT
  all_goals subst hT
  all_goals (try simp)
  all_goals (repeat' split)
  all_goals (try simp)

@[simp] theorem State.takeHealth_idents (s : State) (m : HealthMsg) : (State.takeHealth s m).idents = s.idents := by
  generalize hT : State.takeHealth s m = res
  unfold State.takeHealth at hT
  try dsimp only at hT
  repeat' split at hT
  all_goals subst hT
  all_goals (try simp)
  all_goals (repeat' split)
  all_goals (try simp)
  all_goals (try rfl)
  all_goals (try exact State.idents_eq _ _ (by simp))
  all_goals (try simp [Session.ident])
  all_goals (try simp [Session.ident, State.session])
  all_goals (try simp [State.idents, State.session, Session.ident])

@[simp] theorem State.copyOwner_frame (s : State) (o : Owner) :
    (State.copyOwner s o).pending = s.pending ∧
    (State.copyOwner s o).freeCtr = s.freeCtr ∧
    (State.copyOwner s o).coreTicks = s.coreTicks ∧
    (State.copyOwner s o).params = s.params ∧
    (State.copyOwner s o).cyc = s.cyc ∧
    (State.copyOwner s o).boot = s.boot ∧
    (State.copyOwner s o).ports = s.ports ∧
    (State.copyOwner s o).segs = s.segs ∧
    (State.copyOwner s o).opening = s.opening ∧
    (State.copyOwner s o).fbs = s.fbs ∧
    (State.copyOwner s o).axes = s.axes ∧
    (State.copyOwner s o).steps = s.steps ∧
    (State.copyOwner s o).line = s.line ∧
    (State.copyOwner s o).moves = s.moves ∧
    (State.copyOwner s o).arb = s.arb ∧
    (State.copyOwner s o).groups = s.groups ∧
    (State.copyOwner s o).eng = s.eng ∧
    (State.copyOwner s o).saf = s.saf ∧
    (State.copyOwner s o).die = s.die ∧
    (State.copyOwner s o).fld = s.fld ∧
    (State.copyOwner s o).scs = s.scs ∧
    (State.copyOwner s o).time = s.time ∧
    (State.copyOwner s o).host = s.host := by
  generalize hT : State.copyOwner s o = res
  unfold State.copyOwner at hT
  try dsimp only at hT
  repeat' split at hT
  all_goals subst hT
  all_goals (try simp)
  all_goals (repeat' split)
  all_goals (try simp)

@[simp] theorem State.copyOwner_idents (s : State) (o : Owner) : (State.copyOwner s o).idents = s.idents := State.idents_eq _ _ (by simp)

@[simp] theorem State.declareSilent_frame (s : State) (reason : Nat) :
    (State.declareSilent s reason).pending = s.pending ∧
    (State.declareSilent s reason).params = s.params ∧
    (State.declareSilent s reason).boot = s.boot ∧
    (State.declareSilent s reason).segs = s.segs ∧
    (State.declareSilent s reason).opening = s.opening ∧
    (State.declareSilent s reason).moves = s.moves ∧
    (State.declareSilent s reason).arb = s.arb ∧
    (State.declareSilent s reason).groups = s.groups ∧
    (State.declareSilent s reason).die = s.die ∧
    (State.declareSilent s reason).scs = s.scs ∧
    (State.declareSilent s reason).saf.endgame = s.saf.endgame ∧
    (State.declareSilent s reason).host.keys = s.host.keys ∧
    (State.declareSilent s reason).host.parQueue = s.host.parQueue ∧
    (State.declareSilent s reason).cyc.cycle = s.cyc.cycle := by
  generalize hT : State.declareSilent s reason = res
  unfold State.declareSilent at hT
  try dsimp only at hT
  repeat' split at hT
  all_goals subst hT
  all_goals (try simp)
  all_goals (repeat' split)
  all_goals (try simp)

@[simp] theorem State.declareSilent_idents (s : State) (reason : Nat) : (State.declareSilent s reason).idents = s.idents := by
  generalize hT : State.declareSilent s reason = res
  unfold State.declareSilent at hT
  try dsimp only at hT
  repeat' split at hT
  all_goals subst hT
  all_goals (try simp)
  all_goals (repeat' split)
  all_goals (try simp)
  all_goals (try rfl)
  all_goals (try exact State.idents_eq _ _ (by simp))
  all_goals (try simp [Session.ident])
  all_goals (try simp [Session.ident, State.session])
  all_goals (try simp [State.idents, State.session, Session.ident])

@[simp] theorem State.settleTest_frame (s : State) (m : MisTest) (own peer : Bool) :
    (State.settleTest s m own peer).pending = s.pending ∧
    (State.settleTest s m own peer).params = s.params ∧
    (State.settleTest s m own peer).boot = s.boot ∧
    (State.settleTest s m own peer).segs = s.segs ∧
    (State.settleTest s m own peer).moves = s.moves ∧
    (State.settleTest s m own peer).arb = s.arb ∧
    (State.settleTest s m own peer).groups = s.groups ∧
    (State.settleTest s m own peer).die = s.die ∧
    (State.settleTest s m own peer).scs = s.scs ∧
    (State.settleTest s m own peer).host.keys = s.host.keys ∧
    (State.settleTest s m own peer).host.parQueue = s.host.parQueue ∧
    (State.settleTest s m own peer).cyc.cycle = s.cyc.cycle := by
  generalize hT : State.settleTest s m own peer = res
  unfold State.settleTest at hT
  try dsimp only at hT
  repeat' split at hT
  all_goals subst hT
  all_goals (try simp)
  all_goals (repeat' split)
  all_goals (try simp)

@[simp] theorem State.settleTest_idents (s : State) (m : MisTest) (own peer : Bool) : (State.settleTest s m own peer).idents = s.idents := by
  generalize hT : State.settleTest s m own peer = res
  unfold State.settleTest at hT
  try dsimp only at hT
  repeat' split at hT
  all_goals subst hT
  all_goals (try simp)
  all_goals (repeat' split)
  all_goals (try simp)
  all_goals (try rfl)
  all_goals (try exact State.idents_eq _ _ (by simp))
  all_goals (try simp [Session.ident])
  all_goals (try simp [Session.ident, State.session])
  all_goals (try simp [State.idents, State.session, Session.ident])

@[simp] theorem State.settleTests_frame (s : State) :
    (State.settleTests s).pending = s.pending ∧
    (State.settleTests s).params = s.params ∧
    (State.settleTests s).boot = s.boot ∧
    (State.settleTests s).segs = s.segs ∧
    (State.settleTests s).moves = s.moves ∧
    (State.settleTests s).arb = s.arb ∧
    (State.settleTests s).groups = s.groups ∧
    (State.settleTests s).die = s.die ∧
    (State.settleTests s).scs = s.scs ∧
    (State.settleTests s).host.keys = s.host.keys ∧
    (State.settleTests s).host.parQueue = s.host.parQueue ∧
    (State.settleTests s).cyc.cycle = s.cyc.cycle := by
  generalize hT : State.settleTests s = res
  unfold State.settleTests at hT
  try dsimp only at hT
  repeat' split at hT
  all_goals subst hT
  all_goals (try simp)
  all_goals (repeat' split)
  all_goals (try simp)

@[simp] theorem State.settleTests_idents (s : State) : (State.settleTests s).idents = s.idents := by
  generalize hT : State.settleTests s = res
  unfold State.settleTests at hT
  try dsimp only at hT
  repeat' split at hT
  all_goals subst hT
  all_goals (try simp)
  all_goals (repeat' split)
  all_goals (try simp)
  all_goals (try rfl)
  all_goals (try exact State.idents_eq _ _ (by simp))
  all_goals (try simp [Session.ident])
  all_goals (try simp [Session.ident, State.session])
  all_goals (try simp [State.idents, State.session, Session.ident])

@[simp] theorem State.planSwap_frame (s : State) (reason : Nat) (ctx : Option CmdCtx) :
    (State.planSwap s reason ctx).pending = s.pending ∧
    (State.planSwap s reason ctx).freeCtr = s.freeCtr ∧
    (State.planSwap s reason ctx).coreTicks = s.coreTicks ∧
    (State.planSwap s reason ctx).params = s.params ∧
    (State.planSwap s reason ctx).cyc = s.cyc ∧
    (State.planSwap s reason ctx).boot = s.boot ∧
    (State.planSwap s reason ctx).ports = s.ports ∧
    (State.planSwap s reason ctx).segs = s.segs ∧
    (State.planSwap s reason ctx).opening = s.opening ∧
    (State.planSwap s reason ctx).fbs = s.fbs ∧
    (State.planSwap s reason ctx).axes = s.axes ∧
    (State.planSwap s reason ctx).steps = s.steps ∧
    (State.planSwap s reason ctx).line = s.line ∧
    (State.planSwap s reason ctx).moves = s.moves ∧
    (State.planSwap s reason ctx).arb = s.arb ∧
    (State.planSwap s reason ctx).groups = s.groups ∧
    (State.planSwap s reason ctx).eng = s.eng ∧
    (State.planSwap s reason ctx).saf = s.saf ∧
    (State.planSwap s reason ctx).die = s.die ∧
    (State.planSwap s reason ctx).fld = s.fld ∧
    (State.planSwap s reason ctx).scs = s.scs ∧
    (State.planSwap s reason ctx).time = s.time ∧
    (State.planSwap s reason ctx).host = s.host := by
  generalize hT : State.planSwap s reason ctx = res
  unfold State.planSwap at hT
  try dsimp only at hT
  repeat' split at hT
  all_goals subst hT
  all_goals (try simp)
  all_goals (repeat' split)
  all_goals (try simp)

@[simp] theorem State.planSwap_idents (s : State) (reason : Nat) (ctx : Option CmdCtx) : (State.planSwap s reason ctx).idents = s.idents := State.idents_eq _ _ (by simp)

@[simp] theorem State.flushAxis_frame (s : State) (h a : Nat) :
    (State.flushAxis s h a).pending = s.pending ∧
    (State.flushAxis s h a).out = s.out ∧
    (State.flushAxis s h a).freeCtr = s.freeCtr ∧
    (State.flushAxis s h a).coreTicks = s.coreTicks ∧
    (State.flushAxis s h a).params = s.params ∧
    (State.flushAxis s h a).cyc = s.cyc ∧
    (State.flushAxis s h a).boot = s.boot ∧
    (State.flushAxis s h a).ports = s.ports ∧
    (State.flushAxis s h a).opening = s.opening ∧
    (State.flushAxis s h a).fbs = s.fbs ∧
    (State.flushAxis s h a).line = s.line ∧
    (State.flushAxis s h a).moves = s.moves ∧
    (State.flushAxis s h a).arb = s.arb ∧
    (State.flushAxis s h a).groups = s.groups ∧
    (State.flushAxis s h a).eng = s.eng ∧
    (State.flushAxis s h a).saf = s.saf ∧
    (State.flushAxis s h a).die = s.die ∧
    (State.flushAxis s h a).fld = s.fld ∧
    (State.flushAxis s h a).twin = s.twin ∧
    (State.flushAxis s h a).scs = s.scs ∧
    (State.flushAxis s h a).time = s.time ∧
    (State.flushAxis s h a).host = s.host := by
  generalize hT : State.flushAxis s h a = res
  unfold State.flushAxis at hT
  try dsimp only at hT
  repeat' split at hT
  all_goals subst hT
  all_goals (try simp)
  all_goals (repeat' split)
  all_goals (try simp)

@[simp] theorem State.flushAxis_idents (s : State) (h a : Nat) : (State.flushAxis s h a).idents = s.idents := State.idents_eq _ _ (by simp)

@[simp] theorem State.flushMove_frame (s : State) (k : Nat) (x : MoveItem) :
    (State.flushMove s k x).pending = s.pending ∧
    (State.flushMove s k x).out = s.out ∧
    (State.flushMove s k x).freeCtr = s.freeCtr ∧
    (State.flushMove s k x).coreTicks = s.coreTicks ∧
    (State.flushMove s k x).params = s.params ∧
    (State.flushMove s k x).cyc = s.cyc ∧
    (State.flushMove s k x).boot = s.boot ∧
    (State.flushMove s k x).ports = s.ports ∧
    (State.flushMove s k x).opening = s.opening ∧
    (State.flushMove s k x).fbs = s.fbs ∧
    (State.flushMove s k x).axes = s.axes ∧
    (State.flushMove s k x).steps = s.steps ∧
    (State.flushMove s k x).line = s.line ∧
    (State.flushMove s k x).arb = s.arb ∧
    (State.flushMove s k x).groups = s.groups ∧
    (State.flushMove s k x).eng = s.eng ∧
    (State.flushMove s k x).saf = s.saf ∧
    (State.flushMove s k x).die = s.die ∧
    (State.flushMove s k x).twin = s.twin ∧
    (State.flushMove s k x).scs = s.scs ∧
    (State.flushMove s k x).time = s.time ∧
    (State.flushMove s k x).host = s.host := by
  generalize hT : State.flushMove s k x = res
  unfold State.flushMove at hT
  try dsimp only at hT
  repeat' split at hT
  all_goals subst hT
  all_goals (try simp)
  all_goals (repeat' split)
  all_goals (try simp)

@[simp] theorem State.flushMove_idents (s : State) (k : Nat) (x : MoveItem) : (State.flushMove s k x).idents = s.idents := State.idents_eq _ _ (by simp)

@[simp] theorem State.breakAtTwin_frame (s : State) (n : Nat) :
    (State.breakAtTwin s n).pending = s.pending ∧
    (State.breakAtTwin s n).freeCtr = s.freeCtr ∧
    (State.breakAtTwin s n).coreTicks = s.coreTicks ∧
    (State.breakAtTwin s n).params = s.params ∧
    (State.breakAtTwin s n).cyc = s.cyc ∧
    (State.breakAtTwin s n).boot = s.boot ∧
    (State.breakAtTwin s n).ports = s.ports ∧
    (State.breakAtTwin s n).opening = s.opening ∧
    (State.breakAtTwin s n).fbs = s.fbs ∧
    (State.breakAtTwin s n).steps = s.steps ∧
    (State.breakAtTwin s n).line = s.line ∧
    (State.breakAtTwin s n).moves = s.moves ∧
    (State.breakAtTwin s n).arb = s.arb ∧
    (State.breakAtTwin s n).groups = s.groups ∧
    (State.breakAtTwin s n).eng = s.eng ∧
    (State.breakAtTwin s n).saf = s.saf ∧
    (State.breakAtTwin s n).die = s.die ∧
    (State.breakAtTwin s n).fld = s.fld ∧
    (State.breakAtTwin s n).twin = s.twin ∧
    (State.breakAtTwin s n).scs = s.scs ∧
    (State.breakAtTwin s n).time = s.time ∧
    (State.breakAtTwin s n).host.keys = s.host.keys ∧
    (State.breakAtTwin s n).host.parQueue = s.host.parQueue := by
  generalize hT : State.breakAtTwin s n = res
  unfold State.breakAtTwin at hT
  try dsimp only at hT
  repeat' split at hT
  all_goals subst hT
  all_goals (try simp)
  all_goals (repeat' split)
  all_goals (try simp)

@[simp] theorem State.breakAtTwin_idents (s : State) (n : Nat) : (State.breakAtTwin s n).idents = s.idents := by
  generalize hT : State.breakAtTwin s n = res
  unfold State.breakAtTwin at hT
  try dsimp only at hT
  repeat' split at hT
  all_goals subst hT
  all_goals (try simp)
  all_goals (repeat' split)
  all_goals (try simp)
  all_goals (try rfl)
  all_goals (try exact State.idents_eq _ _ (by simp))
  all_goals (try simp [Session.ident])
  all_goals (try simp [Session.ident, State.session])
  all_goals (try simp [State.idents, State.session, Session.ident])

@[simp] theorem State.continueSeq_frame (s : State) :
    (State.continueSeq s).pending = s.pending ∧
    (State.continueSeq s).out = s.out ∧
    (State.continueSeq s).freeCtr = s.freeCtr ∧
    (State.continueSeq s).coreTicks = s.coreTicks ∧
    (State.continueSeq s).params = s.params ∧
    (State.continueSeq s).cyc = s.cyc ∧
    (State.continueSeq s).boot = s.boot ∧
    (State.continueSeq s).ports = s.ports ∧
    (State.continueSeq s).segs = s.segs ∧
    (State.continueSeq s).opening = s.opening ∧
    (State.continueSeq s).fbs = s.fbs ∧
    (State.continueSeq s).axes = s.axes ∧
    (State.continueSeq s).steps = s.steps ∧
    (State.continueSeq s).line = s.line ∧
    (State.continueSeq s).moves = s.moves ∧
    (State.continueSeq s).arb = s.arb ∧
    (State.continueSeq s).groups = s.groups ∧
    (State.continueSeq s).eng = s.eng ∧
    (State.continueSeq s).die = s.die ∧
    (State.continueSeq s).fld = s.fld ∧
    (State.continueSeq s).twin = s.twin ∧
    (State.continueSeq s).scs = s.scs ∧
    (State.continueSeq s).time = s.time ∧
    (State.continueSeq s).host = s.host ∧
    (State.continueSeq s).saf.endgame = s.saf.endgame ∧
    (State.continueSeq s).saf.silent = s.saf.silent := by
  generalize hT : State.continueSeq s = res
  unfold State.continueSeq at hT
  try dsimp only at hT
  repeat' split at hT
  all_goals subst hT
  all_goals (try simp)
  all_goals (repeat' split)
  all_goals (try simp)

@[simp] theorem State.continueSeq_idents (s : State) : (State.continueSeq s).idents = s.idents := State.idents_eq _ _ (by simp)

@[simp] theorem State.driveSteps_frame (s : State) :
    (State.driveSteps s).pending = s.pending ∧
    (State.driveSteps s).out = s.out ∧
    (State.driveSteps s).freeCtr = s.freeCtr ∧
    (State.driveSteps s).coreTicks = s.coreTicks ∧
    (State.driveSteps s).params = s.params ∧
    (State.driveSteps s).cyc = s.cyc ∧
    (State.driveSteps s).boot = s.boot ∧
    (State.driveSteps s).ports = s.ports ∧
    (State.driveSteps s).segs = s.segs ∧
    (State.driveSteps s).opening = s.opening ∧
    (State.driveSteps s).fbs = s.fbs ∧
    (State.driveSteps s).axes = s.axes ∧
    (State.driveSteps s).line = s.line ∧
    (State.driveSteps s).moves = s.moves ∧
    (State.driveSteps s).arb = s.arb ∧
    (State.driveSteps s).groups = s.groups ∧
    (State.driveSteps s).eng = s.eng ∧
    (State.driveSteps s).saf = s.saf ∧
    (State.driveSteps s).die = s.die ∧
    (State.driveSteps s).fld = s.fld ∧
    (State.driveSteps s).twin = s.twin ∧
    (State.driveSteps s).scs = s.scs ∧
    (State.driveSteps s).time = s.time ∧
    (State.driveSteps s).host = s.host := by
  generalize hT : State.driveSteps s = res
  unfold State.driveSteps at hT
  try dsimp only at hT
  repeat' split at hT
  all_goals subst hT
  all_goals (try simp)
  all_goals (repeat' split)
  all_goals (try simp)

@[simp] theorem State.driveSteps_idents (s : State) : (State.driveSteps s).idents = s.idents := State.idents_eq _ _ (by simp)

@[simp] theorem State.announceHead_frame (s : State) :
    (State.announceHead s).pending = s.pending ∧
    (State.announceHead s).freeCtr = s.freeCtr ∧
    (State.announceHead s).coreTicks = s.coreTicks ∧
    (State.announceHead s).params = s.params ∧
    (State.announceHead s).cyc = s.cyc ∧
    (State.announceHead s).boot = s.boot ∧
    (State.announceHead s).ports = s.ports ∧
    (State.announceHead s).segs = s.segs ∧
    (State.announceHead s).opening = s.opening ∧
    (State.announceHead s).fbs = s.fbs ∧
    (State.announceHead s).axes = s.axes ∧
    (State.announceHead s).steps = s.steps ∧
    (State.announceHead s).line = s.line ∧
    (State.announceHead s).moves = s.moves ∧
    (State.announceHead s).arb = s.arb ∧
    (State.announceHead s).groups = s.groups ∧
    (State.announceHead s).eng = s.eng ∧
    (State.announceHead s).saf = s.saf ∧
    (State.announceHead s).die = s.die ∧
    (State.announceHead s).fld = s.fld ∧
    (State.announceHead s).twin = s.twin ∧
    (State.announceHead s).scs = s.scs ∧
    (State.announceHead s).time = s.time ∧
    (State.announceHead s).host = s.host := by
  generalize hT : State.announceHead s = res
  unfold State.announceHead at hT
  try dsimp only at hT
  repeat' split at hT
  all_goals subst hT
  all_goals (try simp)
  all_goals (repeat' split)
  all_goals (try simp)

@[simp] theorem State.announceHead_idents (s : State) : (State.announceHead s).idents = s.idents := State.idents_eq _ _ (by simp)

@[simp] theorem State.clockHead_frame (s : State) :
    (State.clockHead s).pending = s.pending ∧
    (State.clockHead s).out = s.out ∧
    (State.clockHead s).freeCtr = s.freeCtr ∧
    (State.clockHead s).coreTicks = s.coreTicks ∧
    (State.clockHead s).params = s.params ∧
    (State.clockHead s).cyc = s.cyc ∧
    (State.clockHead s).boot = s.boot ∧
    (State.clockHead s).ports = s.ports ∧
    (State.clockHead s).segs = s.segs ∧
    (State.clockHead s).opening = s.opening ∧
    (State.clockHead s).fbs = s.fbs ∧
    (State.clockHead s).axes = s.axes ∧
    (State.clockHead s).steps = s.steps ∧
    (State.clockHead s).line = s.line ∧
    (State.clockHead s).moves = s.moves ∧
    (State.clockHead s).arb = s.arb ∧
    (State.clockHead s).groups = s.groups ∧
    (State.clockHead s).eng = s.eng ∧
    (State.clockHead s).saf = s.saf ∧
    (State.clockHead s).die = s.die ∧
    (State.clockHead s).fld = s.fld ∧
    (State.clockHead s).twin = s.twin ∧
    (State.clockHead s).scs = s.scs ∧
    (State.clockHead s).host = s.host := by
  generalize hT : State.clockHead s = res
  unfold State.clockHead at hT
  try dsimp only at hT
  repeat' split at hT
  all_goals subst hT
  all_goals (try simp)
  all_goals (repeat' split)
  all_goals (try simp)

@[simp] theorem State.clockHead_idents (s : State) : (State.clockHead s).idents = s.idents := State.idents_eq _ _ (by simp)

@[simp] theorem State.takeHead_frame (s : State) (w : Swap) :
    (State.takeHead s w).pending = s.pending ∧
    (State.takeHead s w).boot = s.boot ∧
    (State.takeHead s w).ports = s.ports ∧
    (State.takeHead s w).groups = s.groups ∧
    (State.takeHead s w).die = s.die ∧
    (State.takeHead s w).scs = s.scs ∧
    (State.takeHead s w).saf.endgame = s.saf.endgame ∧
    (State.takeHead s w).saf.silent = s.saf.silent ∧
    (State.takeHead s w).host.keys = s.host.keys ∧
    (State.takeHead s w).host.parQueue = s.host.parQueue ∧
    (State.takeHead s w).cyc.cycle = s.cyc.cycle ∧
    (State.takeHead s w).cyc.running = s.cyc.running := by
  generalize hT : State.takeHead s w = res
  unfold State.takeHead at hT
  try dsimp only at hT
  repeat' split at hT
  all_goals subst hT
  all_goals (try simp)
  all_goals (repeat' split)
  all_goals (try simp)

@[simp] theorem State.takeHead_idents (s : State) (w : Swap) : (State.takeHead s w).idents = s.idents := by
  generalize hT : State.takeHead s w = res
  unfold State.takeHead at hT
  try dsimp only at hT
  repeat' split at hT
  all_goals subst hT
  all_goals (try simp)
  all_goals (repeat' split)
  all_goals (try simp)
  all_goals (try rfl)
  all_goals (try exact State.idents_eq _ _ (by simp))
  all_goals (try simp [Session.ident])
  all_goals (try simp [Session.ident, State.session])
  all_goals (try simp [State.idents, State.session, Session.ident])

end Sys2Proof.Machine
end

