-- ==== Sys2Proof/Laws/FrameTwin.lean ====
section
/-! SUPPORT. What the operations of Machine/Twin.lean leave unchanged: one rule per operation. -/

namespace Sys2Proof.Machine

@[simp] theorem State.followSchedule_frame (s : State) (n ver : Nat) :
    (State.followSchedule s n ver).freeCtr = s.freeCtr ∧
    (State.followSchedule s n ver).coreTicks = s.coreTicks ∧
    (State.followSchedule s n ver).params = s.params ∧
    (State.followSchedule s n ver).cyc = s.cyc ∧
    (State.followSchedule s n ver).boot = s.boot ∧
    (State.followSchedule s n ver).ports = s.ports ∧
    (State.followSchedule s n ver).opening = s.opening ∧
    (State.followSchedule s n ver).fbs = s.fbs ∧
    (State.followSchedule s n ver).steps = s.steps ∧
    (State.followSchedule s n ver).line = s.line ∧
    (State.followSchedule s n ver).moves = s.moves ∧
    (State.followSchedule s n ver).arb = s.arb ∧
    (State.followSchedule s n ver).groups = s.groups ∧
    (State.followSchedule s n ver).eng = s.eng ∧
    (State.followSchedule s n ver).die = s.die ∧
    (State.followSchedule s n ver).fld = s.fld ∧
    (State.followSchedule s n ver).twin = s.twin ∧
    (State.followSchedule s n ver).scs = s.scs ∧
    (State.followSchedule s n ver).time = s.time ∧
    (State.followSchedule s n ver).saf.endgame = s.saf.endgame ∧
    (State.followSchedule s n ver).saf.silent = s.saf.silent ∧
    (State.followSchedule s n ver).host.keys = s.host.keys ∧
    (State.followSchedule s n ver).host.parQueue = s.host.parQueue := by
  generalize hT : State.followSchedule s n ver = res
  unfold State.followSchedule at hT
  try dsimp only at hT
  repeat' split at hT
  all_goals subst hT
  all_goals (try simp)
  all_goals (repeat' split)
  all_goals (try simp)

@[simp] theorem State.followSchedule_idents (s : State) (n ver : Nat) : (State.followSchedule s n ver).idents = s.idents := by
  generalize hT : State.followSchedule s n ver = res
  unfold State.followSchedule at hT
  try dsimp only at hT
  repeat' split at hT
  all_goals subst hT
  all_goals (try simp)
  all_goals (repeat' split)
  all_goals (try simp)
  all_goals (try rfl)
  all_goals (try exact State.idents_eq _ _ (by simp))
  all_goals (try simp [Session.ident])
  all_goals (try simp [Session.ident, State.session])
  all_goals (try simp [State.idents, State.session, Session.ident])

@[simp] theorem State.compareCount_frame (s : State) (a n : Nat) (pub : Int) :
    (State.compareCount s a n pub).pending = s.pending ∧
    (State.compareCount s a n pub).freeCtr = s.freeCtr ∧
    (State.compareCount s a n pub).coreTicks = s.coreTicks ∧
    (State.compareCount s a n pub).params = s.params ∧
    (State.compareCount s a n pub).cyc = s.cyc ∧
    (State.compareCount s a n pub).boot = s.boot ∧
    (State.compareCount s a n pub).ports = s.ports ∧
    (State.compareCount s a n pub).segs = s.segs ∧
    (State.compareCount s a n pub).opening = s.opening ∧
    (State.compareCount s a n pub).fbs = s.fbs ∧
    (State.compareCount s a n pub).axes = s.axes ∧
    (State.compareCount s a n pub).steps = s.steps ∧
    (State.compareCount s a n pub).line = s.line ∧
    (State.compareCount s a n pub).moves = s.moves ∧
    (State.compareCount s a n pub).arb = s.arb ∧
    (State.compareCount s a n pub).groups = s.groups ∧
    (State.compareCount s a n pub).eng = s.eng ∧
    (State.compareCount s a n pub).saf = s.saf ∧
    (State.compareCount s a n pub).die = s.die ∧
    (State.compareCount s a n pub).fld = s.fld ∧
    (State.compareCount s a n pub).scs = s.scs ∧
    (State.compareCount s a n pub).time = s.time ∧
    (State.compareCount s a n pub).host.keys = s.host.keys ∧
    (State.compareCount s a n pub).host.parQueue = s.host.parQueue := by
  generalize hT : State.compareCount s a n pub = res
  unfold State.compareCount at hT
  try dsimp only at hT
  repeat' split at hT
  all_goals subst hT
  all_goals (try simp)
  all_goals (repeat' split)
  all_goals (try simp)

@[simp] theorem State.compareCount_idents (s : State) (a n : Nat) (pub : Int) : (State.compareCount s a n pub).idents = s.idents := by
  generalize hT : State.compareCount s a n pub = res
  unfold State.compareCount at hT
  try dsimp only at hT
  repeat' split at hT
  all_goals subst hT
  all_goals (try simp)
  all_goals (repeat' split)
  all_goals (try simp)
  all_goals (try rfl)
  all_goals (try exact State.idents_eq _ _ (by simp))
  all_goals (try simp [Session.ident])
  all_goals (try simp [Session.ident, State.session])
  all_goals (try simp [State.idents, State.session, Session.ident])

@[simp] theorem State.releaseRemote_frame (s : State) (a k : Nat) (isNew : Bool) :
    (State.releaseRemote s a k isNew).pending = s.pending ∧
    (State.releaseRemote s a k isNew).freeCtr = s.freeCtr ∧
    (State.releaseRemote s a k isNew).coreTicks = s.coreTicks ∧
    (State.releaseRemote s a k isNew).params = s.params ∧
    (State.releaseRemote s a k isNew).cyc = s.cyc ∧
    (State.releaseRemote s a k isNew).boot = s.boot ∧
    (State.releaseRemote s a k isNew).ports = s.ports ∧
    (State.releaseRemote s a k isNew).opening = s.opening ∧
    (State.releaseRemote s a k isNew).fbs = s.fbs ∧
    (State.releaseRemote s a k isNew).steps = s.steps ∧
    (State.releaseRemote s a k isNew).moves = s.moves ∧
    (State.releaseRemote s a k isNew).arb = s.arb ∧
    (State.releaseRemote s a k isNew).groups = s.groups ∧
    (State.releaseRemote s a k isNew).die = s.die ∧
    (State.releaseRemote s a k isNew).fld = s.fld ∧
    (State.releaseRemote s a k isNew).scs = s.scs ∧
    (State.releaseRemote s a k isNew).time = s.time ∧
    (State.releaseRemote s a k isNew).saf.endgame = s.saf.endgame ∧
    (State.releaseRemote s a k isNew).saf.silent = s.saf.silent ∧
    (State.releaseRemote s a k isNew).host.keys = s.host.keys ∧
    (State.releaseRemote s a k isNew).host.parQueue = s.host.parQueue := by
  generalize hT : State.releaseRemote s a k isNew = res
  unfold State.releaseRemote at hT
  try dsimp only at hT
  repeat' split at hT
  all_goals subst hT
  all_goals (try simp)
  all_goals (repeat' split)
  all_goals (try simp)

@[simp] theorem State.releaseRemote_idents (s : State) (a k : Nat) (isNew : Bool) : (State.releaseRemote s a k isNew).idents = s.idents := by
  generalize hT : State.releaseRemote s a k isNew = res
  unfold State.releaseRemote at hT
  try dsimp only at hT
  repeat' split at hT
  all_goals subst hT
  all_goals (try simp)
  all_goals (repeat' split)
  all_goals (try simp)
  all_goals (try rfl)
  all_goals (try exact State.idents_eq _ _ (by simp))
  all_goals (try simp [Session.ident])
  all_goals (try simp [Session.ident, State.session])
  all_goals (try simp [State.idents, State.session, Session.ident])

@[simp] theorem State.releaseLocal_frame (s : State) (a k : Nat) (isNew : Bool) (fb : List Word48) :
    (State.releaseLocal s a k isNew fb).pending = s.pending ∧
    (State.releaseLocal s a k isNew fb).freeCtr = s.freeCtr ∧
    (State.releaseLocal s a k isNew fb).coreTicks = s.coreTicks ∧
    (State.releaseLocal s a k isNew fb).params = s.params ∧
    (State.releaseLocal s a k isNew fb).cyc = s.cyc ∧
    (State.releaseLocal s a k isNew fb).boot = s.boot ∧
    (State.releaseLocal s a k isNew fb).ports = s.ports ∧
    (State.releaseLocal s a k isNew fb).segs = s.segs ∧
    (State.releaseLocal s a k isNew fb).opening = s.opening ∧
    (State.releaseLocal s a k isNew fb).fbs = s.fbs ∧
    (State.releaseLocal s a k isNew fb).steps = s.steps ∧
    (State.releaseLocal s a k isNew fb).moves = s.moves ∧
    (State.releaseLocal s a k isNew fb).arb = s.arb ∧
    (State.releaseLocal s a k isNew fb).groups = s.groups ∧
    (State.releaseLocal s a k isNew fb).die = s.die ∧
    (State.releaseLocal s a k isNew fb).fld = s.fld ∧
    (State.releaseLocal s a k isNew fb).scs = s.scs ∧
    (State.releaseLocal s a k isNew fb).time = s.time ∧
    (State.releaseLocal s a k isNew fb).saf.endgame = s.saf.endgame ∧
    (State.releaseLocal s a k isNew fb).saf.silent = s.saf.silent ∧
    (State.releaseLocal s a k isNew fb).host.keys = s.host.keys ∧
    (State.releaseLocal s a k isNew fb).host.parQueue = s.host.parQueue := by
  generalize hT : State.releaseLocal s a k isNew fb = res
  unfold State.releaseLocal at hT
  try dsimp only at hT
  repeat' split at hT
  all_goals subst hT
  all_goals (try simp)
  all_goals (repeat' split)
  all_goals (try simp)

@[simp] theorem State.releaseLocal_idents (s : State) (a k : Nat) (isNew : Bool) (fb : List Word48) : (State.releaseLocal s a k isNew fb).idents = s.idents := by
  generalize hT : State.releaseLocal s a k isNew fb = res
  unfold State.releaseLocal at hT
  try dsimp only at hT
  repeat' split at hT
  all_goals subst hT
  all_goals (try simp)
  all_goals (repeat' split)
  all_goals (try simp)
  all_goals (try rfl)
  all_goals (try exact State.idents_eq _ _ (by simp))
  all_goals (try simp [Session.ident])
  all_goals (try simp [Session.ident, State.session])
  all_goals (try simp [State.idents, State.session, Session.ident])

@[simp] theorem State.releaseLineTwin_frame (s : State) (k : Nat) (isNew : Bool) (fb : List Word48) :
    (State.releaseLineTwin s k isNew fb).pending = s.pending ∧
    (State.releaseLineTwin s k isNew fb).freeCtr = s.freeCtr ∧
    (State.releaseLineTwin s k isNew fb).coreTicks = s.coreTicks ∧
    (State.releaseLineTwin s k isNew fb).params = s.params ∧
    (State.releaseLineTwin s k isNew fb).cyc = s.cyc ∧
    (State.releaseLineTwin s k isNew fb).boot = s.boot ∧
    (State.releaseLineTwin s k isNew fb).ports = s.ports ∧
    (State.releaseLineTwin s k isNew fb).segs = s.segs ∧
    (State.releaseLineTwin s k isNew fb).opening = s.opening ∧
    (State.releaseLineTwin s k isNew fb).steps = s.steps ∧
    (State.releaseLineTwin s k isNew fb).moves = s.moves ∧
    (State.releaseLineTwin s k isNew fb).arb = s.arb ∧
    (State.releaseLineTwin s k isNew fb).groups = s.groups ∧
    (State.releaseLineTwin s k isNew fb).saf = s.saf ∧
    (State.releaseLineTwin s k isNew fb).die = s.die ∧
    (State.releaseLineTwin s k isNew fb).fld = s.fld ∧
    (State.releaseLineTwin s k isNew fb).scs = s.scs ∧
    (State.releaseLineTwin s k isNew fb).time = s.time ∧
    (State.releaseLineTwin s k isNew fb).host.keys = s.host.keys ∧
    (State.releaseLineTwin s k isNew fb).host.parQueue = s.host.parQueue := by
  generalize hT : State.releaseLineTwin s k isNew fb = res
  unfold State.releaseLineTwin at hT
  try dsimp only at hT
  repeat' split at hT
  all_goals subst hT
  all_goals (try simp)
  all_goals (repeat' split)
  all_goals (try simp)

@[simp] theorem State.releaseLineTwin_idents (s : State) (k : Nat) (isNew : Bool) (fb : List Word48) : (State.releaseLineTwin s k isNew fb).idents = s.idents := by
  generalize hT : State.releaseLineTwin s k isNew fb = res
  unfold State.releaseLineTwin at hT
  try dsimp only at hT
  repeat' split at hT
  all_goals subst hT
  all_goals (try simp)
  all_goals (repeat' split)
  all_goals (try simp)
  all_goals (try rfl)
  all_goals (try exact State.idents_eq _ _ (by simp))
  all_goals (try simp [Session.ident])
  all_goals (try simp [Session.ident, State.session])
  all_goals (try simp [State.idents, State.session, Session.ident])

end Sys2Proof.Machine
end

