-- ==== Sys2Proof/Laws/FrameReadings.lean ====
section
/-! SUPPORT. What the operations of Machine/Readings.lean leave unchanged: one rule per operation. -/

namespace Sys2Proof.Machine

@[simp] theorem State.w1c_frame (s : State) (base i mask : Nat) :
    (State.w1c s base i mask).pending = s.pending ∧
    (State.w1c s base i mask).out = s.out ∧
    (State.w1c s base i mask).freeCtr = s.freeCtr ∧
    (State.w1c s base i mask).coreTicks = s.coreTicks ∧
    (State.w1c s base i mask).params = s.params ∧
    (State.w1c s base i mask).cyc = s.cyc ∧
    (State.w1c s base i mask).boot = s.boot ∧
    (State.w1c s base i mask).segs = s.segs ∧
    (State.w1c s base i mask).opening = s.opening ∧
    (State.w1c s base i mask).steps = s.steps ∧
    (State.w1c s base i mask).scs = s.scs ∧
    (State.w1c s base i mask).host = s.host ∧
    (State.w1c s base i mask).saf.endgame = s.saf.endgame ∧
    (State.w1c s base i mask).saf.silent = s.saf.silent := by
  generalize hT : State.w1c s base i mask = res
  unfold State.w1c at hT
  try dsimp only at hT
  repeat' split at hT
  all_goals subst hT
  all_goals (try simp)
  all_goals (repeat' split)
  all_goals (try simp)

@[simp] theorem State.w1c_idents (s : State) (base i mask : Nat) : (State.w1c s base i mask).idents = s.idents := State.idents_eq _ _ (by simp)

@[simp] theorem State.clearReading_frame (s : State) (base i : Nat) :
    (State.clearReading s base i).pending = s.pending ∧
    (State.clearReading s base i).out = s.out ∧
    (State.clearReading s base i).freeCtr = s.freeCtr ∧
    (State.clearReading s base i).coreTicks = s.coreTicks ∧
    (State.clearReading s base i).params = s.params ∧
    (State.clearReading s base i).cyc = s.cyc ∧
    (State.clearReading s base i).ports = s.ports ∧
    (State.clearReading s base i).segs = s.segs ∧
    (State.clearReading s base i).opening = s.opening ∧
    (State.clearReading s base i).steps = s.steps ∧
    (State.clearReading s base i).arb = s.arb ∧
    (State.clearReading s base i).die = s.die ∧
    (State.clearReading s base i).saf.endgame = s.saf.endgame ∧
    (State.clearReading s base i).saf.silent = s.saf.silent ∧
    (State.clearReading s base i).boot.recovery = s.boot.recovery ∧
    (State.clearReading s base i).host.keys = s.host.keys ∧
    (State.clearReading s base i).host.parQueue = s.host.parQueue := by
  generalize hT : State.clearReading s base i = res
  unfold State.clearReading at hT
  try dsimp only at hT
  repeat' split at hT
  all_goals subst hT
  all_goals (try simp)
  all_goals (repeat' split)
  all_goals (try simp)

@[simp] theorem State.clearReading_idents (s : State) (base i : Nat) : (State.clearReading s base i).idents = s.idents := by
  generalize hT : State.clearReading s base i = res
  unfold State.clearReading at hT
  try dsimp only at hT
  repeat' split at hT
  all_goals subst hT
  all_goals (try simp)
  all_goals (repeat' split)
  all_goals (try simp)
  all_goals (try rfl)
  all_goals (try exact State.idents_eq _ _ (by simp))
  all_goals (try simp [Session.ident])
  all_goals (try simp [Session.ident, State.session])
  all_goals (try simp [State.idents, State.session, Session.ident])

@[simp] theorem State.afterRead_frame (s : State) (k0 : Obj) :
    (State.afterRead s k0).pending = s.pending ∧
    (State.afterRead s k0).out = s.out ∧
    (State.afterRead s k0).freeCtr = s.freeCtr ∧
    (State.afterRead s k0).coreTicks = s.coreTicks ∧
    (State.afterRead s k0).params = s.params ∧
    (State.afterRead s k0).cyc = s.cyc ∧
    (State.afterRead s k0).ports = s.ports ∧
    (State.afterRead s k0).segs = s.segs ∧
    (State.afterRead s k0).opening = s.opening ∧
    (State.afterRead s k0).steps = s.steps ∧
    (State.afterRead s k0).arb = s.arb ∧
    (State.afterRead s k0).die = s.die ∧
    (State.afterRead s k0).saf.endgame = s.saf.endgame ∧
    (State.afterRead s k0).saf.silent = s.saf.silent ∧
    (State.afterRead s k0).boot.recovery = s.boot.recovery ∧
    (State.afterRead s k0).host.keys = s.host.keys ∧
    (State.afterRead s k0).host.parQueue = s.host.parQueue := by
  generalize hT : State.afterRead s k0 = res
  unfold State.afterRead at hT
  try dsimp only at hT
  repeat' split at hT
  all_goals subst hT
  all_goals (try simp)
  all_goals (repeat' split)
  all_goals (try simp)

@[simp] theorem State.afterRead_idents (s : State) (k0 : Obj) : (State.afterRead s k0).idents = s.idents := by
  generalize hT : State.afterRead s k0 = res
  unfold State.afterRead at hT
  try dsimp only at hT
  repeat' split at hT
  all_goals subst hT
  all_goals (try simp)
  all_goals (repeat' split)
  all_goals (try simp)
  all_goals (try rfl)
  all_goals (try exact State.idents_eq _ _ (by simp))
  all_goals (try simp [Session.ident])
  all_goals (try simp [Session.ident, State.session])
  all_goals (try simp [State.idents, State.session, Session.ident])

end Sys2Proof.Machine
end

