-- ==== Sys2Proof/Laws/FrameSessions.lean ====
section
/-! SUPPORT. What the operations of Machine/Sessions.lean leave unchanged: one rule per operation. -/

namespace Sys2Proof.Machine

@[simp] theorem State.dropCommands_frame (s : State) (i : Nat) :
    (State.dropCommands s i).pending = s.pending ∧
    (State.dropCommands s i).out = s.out ∧
    (State.dropCommands s i).freeCtr = s.freeCtr ∧
    (State.dropCommands s i).coreTicks = s.coreTicks ∧
    (State.dropCommands s i).params = s.params ∧
    (State.dropCommands s i).cyc = s.cyc ∧
    (State.dropCommands s i).boot = s.boot ∧
    (State.dropCommands s i).ports = s.ports ∧
    (State.dropCommands s i).segs = s.segs ∧
    (State.dropCommands s i).opening = s.opening ∧
    (State.dropCommands s i).fbs = s.fbs ∧
    (State.dropCommands s i).steps = s.steps ∧
    (State.dropCommands s i).line = s.line ∧
    (State.dropCommands s i).groups = s.groups ∧
    (State.dropCommands s i).saf = s.saf ∧
    (State.dropCommands s i).die = s.die ∧
    (State.dropCommands s i).twin = s.twin ∧
    (State.dropCommands s i).host.keys = s.host.keys := by
  generalize hT : State.dropCommands s i = res
  unfold State.dropCommands at hT
  try dsimp only at hT
  repeat' split at hT
  all_goals subst hT
  all_goals (try simp)
  all_goals (repeat' split)
  all_goals (try simp)

@[simp] theorem State.dropCommands_idents (s : State) (i : Nat) : (State.dropCommands s i).idents = s.idents := by
  generalize hT : State.dropCommands s i = res
  unfold State.dropCommands at hT
  try dsimp only at hT
  repeat' split at hT
  all_goals subst hT
  all_goals (try simp)
  all_goals (repeat' split)
  all_goals (try simp)
  all_goals (try rfl)
  all_goals (try exact State.idents_eq _ _ (by simp))
  all_goals (try simp [Session.ident])
  all_goals (try simp [Session.ident, State.session])
  all_goals (try simp [State.idents, State.session, Session.ident])

@[simp] theorem State.closeSession_frame (s : State) (i : Nat) :
    (State.closeSession s i).pending = s.pending ∧
    (State.closeSession s i).out = s.out ∧
    (State.closeSession s i).freeCtr = s.freeCtr ∧
    (State.closeSession s i).coreTicks = s.coreTicks ∧
    (State.closeSession s i).params = s.params ∧
    (State.closeSession s i).cyc = s.cyc ∧
    (State.closeSession s i).boot = s.boot ∧
    (State.closeSession s i).ports = s.ports ∧
    (State.closeSession s i).segs = s.segs ∧
    (State.closeSession s i).opening = s.opening ∧
    (State.closeSession s i).fbs = s.fbs ∧
    (State.closeSession s i).steps = s.steps ∧
    (State.closeSession s i).line = s.line ∧
    (State.closeSession s i).groups = s.groups ∧
    (State.closeSession s i).saf = s.saf ∧
    (State.closeSession s i).die = s.die ∧
    (State.closeSession s i).twin = s.twin ∧
    (State.closeSession s i).host.keys = s.host.keys := by
  generalize hT : State.closeSession s i = res
  unfold State.closeSession at hT
  try dsimp only at hT
  repeat' split at hT
  all_goals subst hT
  all_goals (try simp)
  all_goals (repeat' split)
  all_goals (try simp)

@[simp] theorem State.closeWhere_frame (s : State) (f : HostSource → Bool) :
    (State.closeWhere s f).pending = s.pending ∧
    (State.closeWhere s f).out = s.out ∧
    (State.closeWhere s f).freeCtr = s.freeCtr ∧
    (State.closeWhere s f).coreTicks = s.coreTicks ∧
    (State.closeWhere s f).params = s.params ∧
    (State.closeWhere s f).cyc = s.cyc ∧
    (State.closeWhere s f).boot = s.boot ∧
    (State.closeWhere s f).ports = s.ports ∧
    (State.closeWhere s f).segs = s.segs ∧
    (State.closeWhere s f).opening = s.opening ∧
    (State.closeWhere s f).fbs = s.fbs ∧
    (State.closeWhere s f).steps = s.steps ∧
    (State.closeWhere s f).line = s.line ∧
    (State.closeWhere s f).groups = s.groups ∧
    (State.closeWhere s f).saf = s.saf ∧
    (State.closeWhere s f).die = s.die ∧
    (State.closeWhere s f).twin = s.twin ∧
    (State.closeWhere s f).host.keys = s.host.keys := by
  generalize hT : State.closeWhere s f = res
  unfold State.closeWhere at hT
  try dsimp only at hT
  repeat' split at hT
  all_goals subst hT
  all_goals (try simp)
  all_goals (repeat' split)
  all_goals (try simp)

@[simp] theorem State.answerBare_frame (s : State) (src : HostSource) (op seq session flags : Nat) (params : List Byte) :
    (State.answerBare s src op seq session flags params).pending = s.pending ∧
    (State.answerBare s src op seq session flags params).freeCtr = s.freeCtr ∧
    (State.answerBare s src op seq session flags params).coreTicks = s.coreTicks ∧
    (State.answerBare s src op seq session flags params).params = s.params ∧
    (State.answerBare s src op seq session flags params).cyc = s.cyc ∧
    (State.answerBare s src op seq session flags params).boot = s.boot ∧
    (State.answerBare s src op seq session flags params).ports = s.ports ∧
    (State.answerBare s src op seq session flags params).segs = s.segs ∧
    (State.answerBare s src op seq session flags params).opening = s.opening ∧
    (State.answerBare s src op seq session flags params).fbs = s.fbs ∧
    (State.answerBare s src op seq session flags params).axes = s.axes ∧
    (State.answerBare s src op seq session flags params).steps = s.steps ∧
    (State.answerBare s src op seq session flags params).line = s.line ∧
    (State.answerBare s src op seq session flags params).moves = s.moves ∧
    (State.answerBare s src op seq session flags params).arb = s.arb ∧
    (State.answerBare s src op seq session flags params).groups = s.groups ∧
    (State.answerBare s src op seq session flags params).eng = s.eng ∧
    (State.answerBare s src op seq session flags params).saf = s.saf ∧
    (State.answerBare s src op seq session flags params).die = s.die ∧
    (State.answerBare s src op seq session flags params).fld = s.fld ∧
    (State.answerBare s src op seq session flags params).twin = s.twin ∧
    (State.answerBare s src op seq session flags params).scs = s.scs ∧
    (State.answerBare s src op seq session flags params).time = s.time ∧
    (State.answerBare s src op seq session flags params).host.keys = s.host.keys ∧
    (State.answerBare s src op seq session flags params).host.parQueue = s.host.parQueue := by
  generalize hT : State.answerBare s src op seq session flags params = res
  unfold State.answerBare at hT
  try dsimp only at hT
  repeat' split at hT
  all_goals subst hT
  all_goals (try simp)
  all_goals (repeat' split)
  all_goals (try simp)

@[simp] theorem State.answerBare_idents (s : State) (src : HostSource) (op seq session flags : Nat) (params : List Byte) : (State.answerBare s src op seq session flags params).idents = s.idents := by
  generalize hT : State.answerBare s src op seq session flags params = res
  unfold State.answerBare at hT
  try dsimp only at hT
  repeat' split at hT
  all_goals subst hT
  all_goals (try simp)
  all_goals (repeat' split)
  all_goals (try simp)
  all_goals (try rfl)
  all_goals (try exact State.idents_eq _ _ (by simp))
  all_goals (try simp [Session.ident])
  all_goals (try simp [Session.ident, State.session])
  all_goals (try simp [State.idents, State.session, Session.ident])

@[simp] theorem State.tagFail_frame (s : State) :
    (State.tagFail s).pending = s.pending ∧
    (State.tagFail s).out = s.out ∧
    (State.tagFail s).freeCtr = s.freeCtr ∧
    (State.tagFail s).coreTicks = s.coreTicks ∧
    (State.tagFail s).params = s.params ∧
    (State.tagFail s).cyc = s.cyc ∧
    (State.tagFail s).boot = s.boot ∧
    (State.tagFail s).ports = s.ports ∧
    (State.tagFail s).segs = s.segs ∧
    (State.tagFail s).opening = s.opening ∧
    (State.tagFail s).fbs = s.fbs ∧
    (State.tagFail s).axes = s.axes ∧
    (State.tagFail s).steps = s.steps ∧
    (State.tagFail s).line = s.line ∧
    (State.tagFail s).moves = s.moves ∧
    (State.tagFail s).arb = s.arb ∧
    (State.tagFail s).groups = s.groups ∧
    (State.tagFail s).eng = s.eng ∧
    (State.tagFail s).saf = s.saf ∧
    (State.tagFail s).die = s.die ∧
    (State.tagFail s).fld = s.fld ∧
    (State.tagFail s).twin = s.twin ∧
    (State.tagFail s).scs = s.scs ∧
    (State.tagFail s).time = s.time ∧
    (State.tagFail s).host.keys = s.host.keys ∧
    (State.tagFail s).host.parQueue = s.host.parQueue := by
  generalize hT : State.tagFail s = res
  unfold State.tagFail at hT
  try dsimp only at hT
  repeat' split at hT
  all_goals subst hT
  all_goals (try simp)
  all_goals (repeat' split)
  all_goals (try simp)

@[simp] theorem State.tagFail_idents (s : State) : (State.tagFail s).idents = s.idents := by
  generalize hT : State.tagFail s = res
  unfold State.tagFail at hT
  try dsimp only at hT
  repeat' split at hT
  all_goals subst hT
  all_goals (try simp)
  all_goals (repeat' split)
  all_goals (try simp)
  all_goals (try rfl)
  all_goals (try exact State.idents_eq _ _ (by simp))
  all_goals (try simp [Session.ident])
  all_goals (try simp [Session.ident, State.session])
  all_goals (try simp [State.idents, State.session, Session.ident])

@[simp] theorem State.enqueue_frame (s : State) (src : HostSource) (b : List Byte) :
    (State.enqueue s src b).pending = s.pending ∧
    (State.enqueue s src b).out = s.out ∧
    (State.enqueue s src b).freeCtr = s.freeCtr ∧
    (State.enqueue s src b).coreTicks = s.coreTicks ∧
    (State.enqueue s src b).params = s.params ∧
    (State.enqueue s src b).cyc = s.cyc ∧
    (State.enqueue s src b).boot = s.boot ∧
    (State.enqueue s src b).ports = s.ports ∧
    (State.enqueue s src b).segs = s.segs ∧
    (State.enqueue s src b).opening = s.opening ∧
    (State.enqueue s src b).fbs = s.fbs ∧
    (State.enqueue s src b).axes = s.axes ∧
    (State.enqueue s src b).steps = s.steps ∧
    (State.enqueue s src b).line = s.line ∧
    (State.enqueue s src b).moves = s.moves ∧
    (State.enqueue s src b).arb = s.arb ∧
    (State.enqueue s src b).groups = s.groups ∧
    (State.enqueue s src b).eng = s.eng ∧
    (State.enqueue s src b).saf = s.saf ∧
    (State.enqueue s src b).die = s.die ∧
    (State.enqueue s src b).fld = s.fld ∧
    (State.enqueue s src b).twin = s.twin ∧
    (State.enqueue s src b).scs = s.scs ∧
    (State.enqueue s src b).time = s.time ∧
    (State.enqueue s src b).host.keys = s.host.keys ∧
    (State.enqueue s src b).host.parQueue = s.host.parQueue := by
  generalize hT : State.enqueue s src b = res
  unfold State.enqueue at hT
  try dsimp only at hT
  repeat' split at hT
  all_goals subst hT
  all_goals (try simp)
  all_goals (repeat' split)
  all_goals (try simp)

@[simp] theorem State.enqueue_idents (s : State) (src : HostSource) (b : List Byte) : (State.enqueue s src b).idents = s.idents := by
  generalize hT : State.enqueue s src b = res
  unfold State.enqueue at hT
  try dsimp only at hT
  repeat' split at hT
  all_goals subst hT
  all_goals (try simp)
  all_goals (repeat' split)
  all_goals (try simp)
  all_goals (try rfl)
  all_goals (try exact State.idents_eq _ _ (by simp))
  all_goals (try simp [Session.ident])
  all_goals (try simp [Session.ident, State.session])
  all_goals (try simp [State.idents, State.session, Session.ident])

@[simp] theorem State.admitPacket_frame (s : State) (slot : SlotIx) (b : List Byte) :
    (State.admitPacket s slot b).pending = s.pending ∧
    (State.admitPacket s slot b).freeCtr = s.freeCtr ∧
    (State.admitPacket s slot b).coreTicks = s.coreTicks ∧
    (State.admitPacket s slot b).params = s.params ∧
    (State.admitPacket s slot b).cyc = s.cyc ∧
    (State.admitPacket s slot b).boot = s.boot ∧
    (State.admitPacket s slot b).ports = s.ports ∧
    (State.admitPacket s slot b).segs = s.segs ∧
    (State.admitPacket s slot b).opening = s.opening ∧
    (State.admitPacket s slot b).fbs = s.fbs ∧
    (State.admitPacket s slot b).axes = s.axes ∧
    (State.admitPacket s slot b).steps = s.steps ∧
    (State.admitPacket s slot b).line = s.line ∧
    (State.admitPacket s slot b).moves = s.moves ∧
    (State.admitPacket s slot b).arb = s.arb ∧
    (State.admitPacket s slot b).groups = s.groups ∧
    (State.admitPacket s slot b).eng = s.eng ∧
    (State.admitPacket s slot b).saf = s.saf ∧
    (State.admitPacket s slot b).die = s.die ∧
    (State.admitPacket s slot b).fld = s.fld ∧
    (State.admitPacket s slot b).twin = s.twin ∧
    (State.admitPacket s slot b).scs = s.scs ∧
    (State.admitPacket s slot b).time = s.time ∧
    (State.admitPacket s slot b).host.keys = s.host.keys ∧
    (State.admitPacket s slot b).host.parQueue = s.host.parQueue := by
  generalize hT : State.admitPacket s slot b = res
  unfold State.admitPacket at hT
  try dsimp only at hT
  repeat' split at hT
  all_goals subst hT
  all_goals (try simp)
  all_goals (repeat' split)
  all_goals (try simp)

@[simp] theorem State.admitPacket_idents (s : State) (slot : SlotIx) (b : List Byte) : (State.admitPacket s slot b).idents = s.idents := by
  generalize hT : State.admitPacket s slot b = res
  unfold State.admitPacket at hT
  try dsimp only at hT
  repeat' split at hT
  all_goals subst hT
  all_goals (try simp)
  all_goals (repeat' split)
  all_goals (try simp)
  all_goals (try rfl)
  all_goals (try exact State.idents_eq _ _ (by simp))
  all_goals (try simp [Session.ident])
  all_goals (try simp [Session.ident, State.session])
  all_goals (try simp [State.idents, State.session, Session.ident])

@[simp] theorem State.sequencePacket_frame (s : State) (slot : SlotIx) (b : List Byte) :
    (State.sequencePacket s slot b).pending = s.pending ∧
    (State.sequencePacket s slot b).freeCtr = s.freeCtr ∧
    (State.sequencePacket s slot b).coreTicks = s.coreTicks ∧
    (State.sequencePacket s slot b).params = s.params ∧
    (State.sequencePacket s slot b).cyc = s.cyc ∧
    (State.sequencePacket s slot b).boot = s.boot ∧
    (State.sequencePacket s slot b).ports = s.ports ∧
    (State.sequencePacket s slot b).segs = s.segs ∧
    (State.sequencePacket s slot b).opening = s.opening ∧
    (State.sequencePacket s slot b).fbs = s.fbs ∧
    (State.sequencePacket s slot b).axes = s.axes ∧
    (State.sequencePacket s slot b).steps = s.steps ∧
    (State.sequencePacket s slot b).line = s.line ∧
    (State.sequencePacket s slot b).moves = s.moves ∧
    (State.sequencePacket s slot b).arb = s.arb ∧
    (State.sequencePacket s slot b).groups = s.groups ∧
    (State.sequencePacket s slot b).eng = s.eng ∧
    (State.sequencePacket s slot b).saf = s.saf ∧
    (State.sequencePacket s slot b).die = s.die ∧
    (State.sequencePacket s slot b).fld = s.fld ∧
    (State.sequencePacket s slot b).twin = s.twin ∧
    (State.sequencePacket s slot b).scs = s.scs ∧
    (State.sequencePacket s slot b).time = s.time ∧
    (State.sequencePacket s slot b).host.keys = s.host.keys ∧
    (State.sequencePacket s slot b).host.parQueue = s.host.parQueue := by
  generalize hT : State.sequencePacket s slot b = res
  unfold State.sequencePacket at hT
  try dsimp only at hT
  repeat' split at hT
  all_goals subst hT
  all_goals (try simp)
  all_goals (repeat' split)
  all_goals (try simp)

@[simp] theorem State.takePacket_frame (s : State) (src : HostSource) (b : List Byte) :
    (State.takePacket s src b).pending = s.pending ∧
    (State.takePacket s src b).freeCtr = s.freeCtr ∧
    (State.takePacket s src b).coreTicks = s.coreTicks ∧
    (State.takePacket s src b).params = s.params ∧
    (State.takePacket s src b).cyc = s.cyc ∧
    (State.takePacket s src b).boot = s.boot ∧
    (State.takePacket s src b).ports = s.ports ∧
    (State.takePacket s src b).segs = s.segs ∧
    (State.takePacket s src b).opening = s.opening ∧
    (State.takePacket s src b).fbs = s.fbs ∧
    (State.takePacket s src b).axes = s.axes ∧
    (State.takePacket s src b).steps = s.steps ∧
    (State.takePacket s src b).line = s.line ∧
    (State.takePacket s src b).moves = s.moves ∧
    (State.takePacket s src b).arb = s.arb ∧
    (State.takePacket s src b).groups = s.groups ∧
    (State.takePacket s src b).eng = s.eng ∧
    (State.takePacket s src b).saf = s.saf ∧
    (State.takePacket s src b).die = s.die ∧
    (State.takePacket s src b).fld = s.fld ∧
    (State.takePacket s src b).twin = s.twin ∧
    (State.takePacket s src b).scs = s.scs ∧
    (State.takePacket s src b).time = s.time ∧
    (State.takePacket s src b).host.keys = s.host.keys ∧
    (State.takePacket s src b).host.parQueue = s.host.parQueue := by
  generalize hT : State.takePacket s src b = res
  unfold State.takePacket at hT
  try dsimp only at hT
  repeat' split at hT
  all_goals subst hT
  all_goals (try simp)
  all_goals (repeat' split)
  all_goals (try simp)

@[simp] theorem State.setLock_frame (s : State) (src : HostSource) (es : List LockEntry) :
    (State.setLock s src es).pending = s.pending ∧
    (State.setLock s src es).out = s.out ∧
    (State.setLock s src es).freeCtr = s.freeCtr ∧
    (State.setLock s src es).coreTicks = s.coreTicks ∧
    (State.setLock s src es).params = s.params ∧
    (State.setLock s src es).cyc = s.cyc ∧
    (State.setLock s src es).boot = s.boot ∧
    (State.setLock s src es).ports = s.ports ∧
    (State.setLock s src es).segs = s.segs ∧
    (State.setLock s src es).opening = s.opening ∧
    (State.setLock s src es).fbs = s.fbs ∧
    (State.setLock s src es).axes = s.axes ∧
    (State.setLock s src es).steps = s.steps ∧
    (State.setLock s src es).line = s.line ∧
    (State.setLock s src es).moves = s.moves ∧
    (State.setLock s src es).arb = s.arb ∧
    (State.setLock s src es).groups = s.groups ∧
    (State.setLock s src es).eng = s.eng ∧
    (State.setLock s src es).saf = s.saf ∧
    (State.setLock s src es).die = s.die ∧
    (State.setLock s src es).fld = s.fld ∧
    (State.setLock s src es).twin = s.twin ∧
    (State.setLock s src es).scs = s.scs ∧
    (State.setLock s src es).time = s.time ∧
    (State.setLock s src es).host.keys = s.host.keys ∧
    (State.setLock s src es).host.parQueue = s.host.parQueue := by
  generalize hT : State.setLock s src es = res
  unfold State.setLock at hT
  try dsimp only at hT
  repeat' split at hT
  all_goals subst hT
  all_goals (try simp)
  all_goals (repeat' split)
  all_goals (try simp)

@[simp] theorem State.setLock_idents (s : State) (src : HostSource) (es : List LockEntry) : (State.setLock s src es).idents = s.idents := by
  generalize hT : State.setLock s src es = res
  unfold State.setLock at hT
  try dsimp only at hT
  repeat' split at hT
  all_goals subst hT
  all_goals (try simp)
  all_goals (repeat' split)
  all_goals (try simp)
  all_goals (try rfl)
  all_goals (try exact State.idents_eq _ _ (by simp))
  all_goals (try simp [Session.ident])
  all_goals (try simp [Session.ident, State.session])
  all_goals (try simp [State.idents, State.session, Session.ident])

@[simp] theorem State.lockRoom_frame (s : State) (src : HostSource) :
    (State.lockRoom s src).pending = s.pending ∧
    (State.lockRoom s src).out = s.out ∧
    (State.lockRoom s src).freeCtr = s.freeCtr ∧
    (State.lockRoom s src).coreTicks = s.coreTicks ∧
    (State.lockRoom s src).params = s.params ∧
    (State.lockRoom s src).cyc = s.cyc ∧
    (State.lockRoom s src).boot = s.boot ∧
    (State.lockRoom s src).ports = s.ports ∧
    (State.lockRoom s src).segs = s.segs ∧
    (State.lockRoom s src).opening = s.opening ∧
    (State.lockRoom s src).fbs = s.fbs ∧
    (State.lockRoom s src).axes = s.axes ∧
    (State.lockRoom s src).steps = s.steps ∧
    (State.lockRoom s src).line = s.line ∧
    (State.lockRoom s src).moves = s.moves ∧
    (State.lockRoom s src).arb = s.arb ∧
    (State.lockRoom s src).groups = s.groups ∧
    (State.lockRoom s src).eng = s.eng ∧
    (State.lockRoom s src).saf = s.saf ∧
    (State.lockRoom s src).die = s.die ∧
    (State.lockRoom s src).fld = s.fld ∧
    (State.lockRoom s src).twin = s.twin ∧
    (State.lockRoom s src).scs = s.scs ∧
    (State.lockRoom s src).time = s.time ∧
    (State.lockRoom s src).host.keys = s.host.keys ∧
    (State.lockRoom s src).host.parQueue = s.host.parQueue := by
  generalize hT : State.lockRoom s src = res
  unfold State.lockRoom at hT
  try dsimp only at hT
  repeat' split at hT
  all_goals subst hT
  all_goals (try simp)
  all_goals (repeat' split)
  all_goals (try simp)

@[simp] theorem State.lockRoom_idents (s : State) (src : HostSource) : (State.lockRoom s src).idents = s.idents := by
  generalize hT : State.lockRoom s src = res
  unfold State.lockRoom at hT
  try dsimp only at hT
  repeat' split at hT
  all_goals subst hT
  all_goals (try simp)
  all_goals (repeat' split)
  all_goals (try simp)
  all_goals (try rfl)
  all_goals (try exact State.idents_eq _ _ (by simp))
  all_goals (try simp [Session.ident])
  all_goals (try simp [Session.ident, State.session])
  all_goals (try simp [State.idents, State.session, Session.ident])

@[simp] theorem State.countFailure_frame (s : State) (src : HostSource) :
    (State.countFailure s src).pending = s.pending ∧
    (State.countFailure s src).freeCtr = s.freeCtr ∧
    (State.countFailure s src).coreTicks = s.coreTicks ∧
    (State.countFailure s src).params = s.params ∧
    (State.countFailure s src).cyc = s.cyc ∧
    (State.countFailure s src).boot = s.boot ∧
    (State.countFailure s src).ports = s.ports ∧
    (State.countFailure s src).segs = s.segs ∧
    (State.countFailure s src).opening = s.opening ∧
    (State.countFailure s src).fbs = s.fbs ∧
    (State.countFailure s src).axes = s.axes ∧
    (State.countFailure s src).steps = s.steps ∧
    (State.countFailure s src).line = s.line ∧
    (State.countFailure s src).moves = s.moves ∧
    (State.countFailure s src).arb = s.arb ∧
    (State.countFailure s src).groups = s.groups ∧
    (State.countFailure s src).eng = s.eng ∧
    (State.countFailure s src).saf = s.saf ∧
    (State.countFailure s src).die = s.die ∧
    (State.countFailure s src).fld = s.fld ∧
    (State.countFailure s src).twin = s.twin ∧
    (State.countFailure s src).scs = s.scs ∧
    (State.countFailure s src).time = s.time ∧
    (State.countFailure s src).host.keys = s.host.keys ∧
    (State.countFailure s src).host.parQueue = s.host.parQueue := by
  generalize hT : State.countFailure s src = res
  unfold State.countFailure at hT
  try dsimp only at hT
  repeat' split at hT
  all_goals subst hT
  all_goals (try simp)
  all_goals (repeat' split)
  all_goals (try simp)

@[simp] theorem State.countFailure_idents (s : State) (src : HostSource) : (State.countFailure s src).idents = s.idents := by
  generalize hT : State.countFailure s src = res
  unfold State.countFailure at hT
  try dsimp only at hT
  repeat' split at hT
  all_goals subst hT
  all_goals (try simp)
  all_goals (repeat' split)
  all_goals (try simp)
  all_goals (try rfl)
  all_goals (try exact State.idents_eq _ _ (by simp))
  all_goals (try simp [Session.ident])
  all_goals (try simp [Session.ident, State.session])
  all_goals (try simp [State.idents, State.session, Session.ident])

@[simp] theorem State.clearFailures_frame (s : State) (src : HostSource) :
    (State.clearFailures s src).pending = s.pending ∧
    (State.clearFailures s src).out = s.out ∧
    (State.clearFailures s src).freeCtr = s.freeCtr ∧
    (State.clearFailures s src).coreTicks = s.coreTicks ∧
    (State.clearFailures s src).params = s.params ∧
    (State.clearFailures s src).cyc = s.cyc ∧
    (State.clearFailures s src).boot = s.boot ∧
    (State.clearFailures s src).ports = s.ports ∧
    (State.clearFailures s src).segs = s.segs ∧
    (State.clearFailures s src).opening = s.opening ∧
    (State.clearFailures s src).fbs = s.fbs ∧
    (State.clearFailures s src).axes = s.axes ∧
    (State.clearFailures s src).steps = s.steps ∧
    (State.clearFailures s src).line = s.line ∧
    (State.clearFailures s src).moves = s.moves ∧
    (State.clearFailures s src).arb = s.arb ∧
    (State.clearFailures s src).groups = s.groups ∧
    (State.clearFailures s src).eng = s.eng ∧
    (State.clearFailures s src).saf = s.saf ∧
    (State.clearFailures s src).die = s.die ∧
    (State.clearFailures s src).fld = s.fld ∧
    (State.clearFailures s src).twin = s.twin ∧
    (State.clearFailures s src).scs = s.scs ∧
    (State.clearFailures s src).time = s.time ∧
    (State.clearFailures s src).host.keys = s.host.keys ∧
    (State.clearFailures s src).host.parQueue = s.host.parQueue := by
  generalize hT : State.clearFailures s src = res
  unfold State.clearFailures at hT
  try dsimp only at hT
  repeat' split at hT
  all_goals subst hT
  all_goals (try simp)
  all_goals (repeat' split)
  all_goals (try simp)

@[simp] theorem State.clearFailures_idents (s : State) (src : HostSource) : (State.clearFailures s src).idents = s.idents := by
  generalize hT : State.clearFailures s src = res
  unfold State.clearFailures at hT
  try dsimp only at hT
  repeat' split at hT
  all_goals subst hT
  all_goals (try simp)
  all_goals (repeat' split)
  all_goals (try simp)
  all_goals (try rfl)
  all_goals (try exact State.idents_eq _ _ (by simp))
  all_goals (try simp [Session.ident])
  all_goals (try simp [Session.ident, State.session])
  all_goals (try simp [State.idents, State.session, Session.ident])

@[simp] theorem State.storeKey_frame (s : State) (role : Nat) (key : List Byte) :
    (State.storeKey s role key).pending = s.pending ∧
    (State.storeKey s role key).freeCtr = s.freeCtr ∧
    (State.storeKey s role key).coreTicks = s.coreTicks ∧
    (State.storeKey s role key).params = s.params ∧
    (State.storeKey s role key).cyc = s.cyc ∧
    (State.storeKey s role key).ports = s.ports ∧
    (State.storeKey s role key).segs = s.segs ∧
    (State.storeKey s role key).opening = s.opening ∧
    (State.storeKey s role key).fbs = s.fbs ∧
    (State.storeKey s role key).axes = s.axes ∧
    (State.storeKey s role key).steps = s.steps ∧
    (State.storeKey s role key).line = s.line ∧
    (State.storeKey s role key).moves = s.moves ∧
    (State.storeKey s role key).arb = s.arb ∧
    (State.storeKey s role key).groups = s.groups ∧
    (State.storeKey s role key).eng = s.eng ∧
    (State.storeKey s role key).saf = s.saf ∧
    (State.storeKey s role key).die = s.die ∧
    (State.storeKey s role key).fld = s.fld ∧
    (State.storeKey s role key).twin = s.twin ∧
    (State.storeKey s role key).scs = s.scs ∧
    (State.storeKey s role key).time = s.time ∧
    (State.storeKey s role key).boot.recovery = s.boot.recovery ∧
    (State.storeKey s role key).host.parQueue = s.host.parQueue := by
  generalize hT : State.storeKey s role key = res
  unfold State.storeKey at hT
  try dsimp only at hT
  repeat' split at hT
  all_goals subst hT
  all_goals (try simp)
  all_goals (repeat' split)
  all_goals (try simp)

@[simp] theorem State.storeKey_idents (s : State) (role : Nat) (key : List Byte) : (State.storeKey s role key).idents = s.idents := by
  generalize hT : State.storeKey s role key = res
  unfold State.storeKey at hT
  try dsimp only at hT
  repeat' split at hT
  all_goals subst hT
  all_goals (try simp)
  all_goals (repeat' split)
  all_goals (try simp)
  all_goals (try rfl)
  all_goals (try exact State.idents_eq _ _ (by simp))
  all_goals (try simp [Session.ident])
  all_goals (try simp [Session.ident, State.session])
  all_goals (try simp [State.idents, State.session, Session.ident])

end Sys2Proof.Machine
end

