-- ==== Sys2Proof/Laws/FrameParCmd.lean ====
section
/-! SUPPORT. What the operations of Machine/ParCmd.lean leave unchanged: one rule per operation. -/

namespace Sys2Proof.Machine

@[simp] theorem State.restartObserver_frame (s : State) (o : Owner) :
    (State.restartObserver s o).pending = s.pending ∧
    (State.restartObserver s o).out = s.out ∧
    (State.restartObserver s o).freeCtr = s.freeCtr ∧
    (State.restartObserver s o).coreTicks = s.coreTicks ∧
    (State.restartObserver s o).params = s.params ∧
    (State.restartObserver s o).cyc = s.cyc ∧
    (State.restartObserver s o).boot = s.boot ∧
    (State.restartObserver s o).ports = s.ports ∧
    (State.restartObserver s o).segs = s.segs ∧
    (State.restartObserver s o).opening = s.opening ∧
    (State.restartObserver s o).fbs = s.fbs ∧
    (State.restartObserver s o).steps = s.steps ∧
    (State.restartObserver s o).moves = s.moves ∧
    (State.restartObserver s o).arb = s.arb ∧
    (State.restartObserver s o).groups = s.groups ∧
    (State.restartObserver s o).eng = s.eng ∧
    (State.restartObserver s o).saf = s.saf ∧
    (State.restartObserver s o).die = s.die ∧
    (State.restartObserver s o).fld = s.fld ∧
    (State.restartObserver s o).twin = s.twin ∧
    (State.restartObserver s o).scs = s.scs ∧
    (State.restartObserver s o).time = s.time ∧
    (State.restartObserver s o).host = s.host := by
  generalize hT : State.restartObserver s o = res
  unfold State.restartObserver at hT
  try dsimp only at hT
  repeat' split at hT
  all_goals subst hT
  all_goals (try simp)
  all_goals (repeat' split)
  all_goals (try simp)

@[simp] theorem State.restartObserver_idents (s : State) (o : Owner) : (State.restartObserver s o).idents = s.idents := State.idents_eq _ _ (by simp)

@[simp] theorem State.setPortMode_frame (s : State) (n : Nat) :
    (State.setPortMode s n).pending = s.pending ∧
    (State.setPortMode s n).out = s.out ∧
    (State.setPortMode s n).freeCtr = s.freeCtr ∧
    (State.setPortMode s n).coreTicks = s.coreTicks ∧
    (State.setPortMode s n).params = s.params ∧
    (State.setPortMode s n).cyc = s.cyc ∧
    (State.setPortMode s n).boot = s.boot ∧
    (State.setPortMode s n).ports = s.ports ∧
    (State.setPortMode s n).segs = s.segs ∧
    (State.setPortMode s n).opening = s.opening ∧
    (State.setPortMode s n).axes = s.axes ∧
    (State.setPortMode s n).steps = s.steps ∧
    (State.setPortMode s n).line = s.line ∧
    (State.setPortMode s n).moves = s.moves ∧
    (State.setPortMode s n).arb = s.arb ∧
    (State.setPortMode s n).groups = s.groups ∧
    (State.setPortMode s n).eng = s.eng ∧
    (State.setPortMode s n).saf = s.saf ∧
    (State.setPortMode s n).die = s.die ∧
    (State.setPortMode s n).fld = s.fld ∧
    (State.setPortMode s n).twin = s.twin ∧
    (State.setPortMode s n).scs = s.scs ∧
    (State.setPortMode s n).time = s.time ∧
    (State.setPortMode s n).host = s.host := by
  generalize hT : State.setPortMode s n = res
  unfold State.setPortMode at hT
  try dsimp only at hT
  repeat' split at hT
  all_goals subst hT
  all_goals (try simp)
  all_goals (repeat' split)
  all_goals (try simp)

@[simp] theorem State.setPortMode_idents (s : State) (n : Nat) : (State.setPortMode s n).idents = s.idents := State.idents_eq _ _ (by simp)

@[simp] theorem State.afterSet_frame (s s0 : State) (base i : Nat) :
    (State.afterSet s s0 base i).pending = s.pending ∧
    (State.afterSet s s0 base i).out = s.out ∧
    (State.afterSet s s0 base i).freeCtr = s.freeCtr ∧
    (State.afterSet s s0 base i).coreTicks = s.coreTicks ∧
    (State.afterSet s s0 base i).params = s.params ∧
    (State.afterSet s s0 base i).cyc = s.cyc ∧
    (State.afterSet s s0 base i).ports = s.ports ∧
    (State.afterSet s s0 base i).segs = s.segs ∧
    (State.afterSet s s0 base i).opening = s.opening ∧
    (State.afterSet s s0 base i).steps = s.steps ∧
    (State.afterSet s s0 base i).moves = s.moves ∧
    (State.afterSet s s0 base i).arb = s.arb ∧
    (State.afterSet s s0 base i).groups = s.groups ∧
    (State.afterSet s s0 base i).saf = s.saf ∧
    (State.afterSet s s0 base i).die = s.die ∧
    (State.afterSet s s0 base i).twin = s.twin ∧
    (State.afterSet s s0 base i).scs = s.scs ∧
    (State.afterSet s s0 base i).host = s.host ∧
    (State.afterSet s s0 base i).boot.recovery = s.boot.recovery := by
  generalize hT : State.afterSet s s0 base i = res
  unfold State.afterSet at hT
  try dsimp only at hT
  repeat' split at hT
  all_goals subst hT
  all_goals (try simp)
  all_goals (repeat' split)
  all_goals (try simp)

@[simp] theorem State.afterSet_idents (s s0 : State) (base i : Nat) : (State.afterSet s s0 base i).idents = s.idents := State.idents_eq _ _ (by simp)

@[simp] theorem State.landWrite_frame (s : State) (id : Nat) (v : Int) :
    (State.landWrite s id v).pending = s.pending ∧
    (State.landWrite s id v).out = s.out ∧
    (State.landWrite s id v).freeCtr = s.freeCtr ∧
    (State.landWrite s id v).coreTicks = s.coreTicks ∧
    (State.landWrite s id v).cyc = s.cyc ∧
    (State.landWrite s id v).segs = s.segs ∧
    (State.landWrite s id v).opening = s.opening ∧
    (State.landWrite s id v).steps = s.steps ∧
    (State.landWrite s id v).scs = s.scs ∧
    (State.landWrite s id v).host = s.host ∧
    (State.landWrite s id v).saf.endgame = s.saf.endgame ∧
    (State.landWrite s id v).saf.silent = s.saf.silent ∧
    (State.landWrite s id v).boot.recovery = s.boot.recovery := by
  generalize hT : State.landWrite s id v = res
  unfold State.landWrite at hT
  try dsimp only at hT
  repeat' split at hT
  all_goals subst hT
  all_goals (try simp)
  all_goals (repeat' split)
  all_goals (try simp)

@[simp] theorem State.landWrite_idents (s : State) (id : Nat) (v : Int) : (State.landWrite s id v).idents = s.idents := State.idents_eq _ _ (by simp)

@[simp] theorem State.landOne_frame (ready : List ParWrite) (s : State) (w : ParWrite) :
    (State.landOne ready s w).pending = s.pending ∧
    (State.landOne ready s w).freeCtr = s.freeCtr ∧
    (State.landOne ready s w).coreTicks = s.coreTicks ∧
    (State.landOne ready s w).cyc = s.cyc ∧
    (State.landOne ready s w).segs = s.segs ∧
    (State.landOne ready s w).opening = s.opening ∧
    (State.landOne ready s w).steps = s.steps ∧
    (State.landOne ready s w).scs = s.scs ∧
    (State.landOne ready s w).saf.endgame = s.saf.endgame ∧
    (State.landOne ready s w).saf.silent = s.saf.silent ∧
    (State.landOne ready s w).boot.recovery = s.boot.recovery ∧
    (State.landOne ready s w).host.keys = s.host.keys ∧
    (State.landOne ready s w).host.parQueue = s.host.parQueue := by
  generalize hT : State.landOne ready s w = res
  unfold State.landOne at hT
  try dsimp only at hT
  repeat' split at hT
  all_goals subst hT
  all_goals (try simp)
  all_goals (repeat' split)
  all_goals (try simp)

@[simp] theorem State.landOne_idents (ready : List ParWrite) (s : State) (w : ParWrite) : (State.landOne ready s w).idents = s.idents := by
  generalize hT : State.landOne ready s w = res
  unfold State.landOne at hT
  try dsimp only at hT
  repeat' split at hT
  all_goals subst hT
  all_goals (try simp)
  all_goals (repeat' split)
  all_goals (try simp)
  all_goals (try rfl)
  all_goals (try exact State.idents_eq _ _ (by simp))
  all_goals (try simp [Session.ident])
  all_goals (try simp [Session.ident, State.session])
  all_goals (try simp [State.idents, State.session, Session.ident])

end Sys2Proof.Machine
end

