-- ==== Sys2Proof/Laws/FrameBoot.lean ====
section
/-! SUPPORT. What the operations of Machine/Boot.lean leave unchanged: one rule per operation. -/

namespace Sys2Proof.Machine

@[simp] theorem State.controlReset_frame (s : State) (cause : Nat) (saf : Safety) (time : WallTime) (params : Sparse Int) (fld : FieldCtl) :
    (State.controlReset s cause saf time params fld).cyc.cycle = s.cyc.cycle := by
  generalize hT : State.controlReset s cause saf time params fld = res
  unfold State.controlReset at hT
  try dsimp only at hT
  repeat' split at hT
  all_goals subst hT
  all_goals (try simp)
  all_goals (repeat' split)
  all_goals (try simp)

@[simp] theorem State.loadItem_frame (s : State) (x : ParItem) :
    (State.loadItem s x).pending = s.pending ∧
    (State.loadItem s x).out = s.out ∧
    (State.loadItem s x).freeCtr = s.freeCtr ∧
    (State.loadItem s x).coreTicks = s.coreTicks ∧
    (State.loadItem s x).cyc = s.cyc ∧
    (State.loadItem s x).boot = s.boot ∧
    (State.loadItem s x).ports = s.ports ∧
    (State.loadItem s x).segs = s.segs ∧
    (State.loadItem s x).opening = s.opening ∧
    (State.loadItem s x).fbs = s.fbs ∧
    (State.loadItem s x).axes = s.axes ∧
    (State.loadItem s x).steps = s.steps ∧
    (State.loadItem s x).line = s.line ∧
    (State.loadItem s x).moves = s.moves ∧
    (State.loadItem s x).arb = s.arb ∧
    (State.loadItem s x).groups = s.groups ∧
    (State.loadItem s x).eng = s.eng ∧
    (State.loadItem s x).saf = s.saf ∧
    (State.loadItem s x).die = s.die ∧
    (State.loadItem s x).fld = s.fld ∧
    (State.loadItem s x).twin = s.twin ∧
    (State.loadItem s x).scs = s.scs ∧
    (State.loadItem s x).time = s.time ∧
    (State.loadItem s x).host = s.host := by
  generalize hT : State.loadItem s x = res
  unfold State.loadItem at hT
  try dsimp only at hT
  repeat' split at hT
  all_goals subst hT
  all_goals (try simp)
  all_goals (repeat' split)
  all_goals (try simp)

@[simp] theorem State.loadItem_idents (s : State) (x : ParItem) : (State.loadItem s x).idents = s.idents := State.idents_eq _ _ (by simp)

@[simp] theorem State.loadItems_frame (s : State) (items : List ParItem) :
    (State.loadItems s items).pending = s.pending ∧
    (State.loadItems s items).out = s.out ∧
    (State.loadItems s items).freeCtr = s.freeCtr ∧
    (State.loadItems s items).coreTicks = s.coreTicks ∧
    (State.loadItems s items).cyc = s.cyc ∧
    (State.loadItems s items).boot = s.boot ∧
    (State.loadItems s items).ports = s.ports ∧
    (State.loadItems s items).segs = s.segs ∧
    (State.loadItems s items).opening = s.opening ∧
    (State.loadItems s items).fbs = s.fbs ∧
    (State.loadItems s items).axes = s.axes ∧
    (State.loadItems s items).steps = s.steps ∧
    (State.loadItems s items).line = s.line ∧
    (State.loadItems s items).moves = s.moves ∧
    (State.loadItems s items).arb = s.arb ∧
    (State.loadItems s items).groups = s.groups ∧
    (State.loadItems s items).eng = s.eng ∧
    (State.loadItems s items).saf = s.saf ∧
    (State.loadItems s items).die = s.die ∧
    (State.loadItems s items).fld = s.fld ∧
    (State.loadItems s items).twin = s.twin ∧
    (State.loadItems s items).scs = s.scs ∧
    (State.loadItems s items).time = s.time ∧
    (State.loadItems s items).host = s.host := by
  generalize hT : State.loadItems s items = res
  unfold State.loadItems at hT
  try dsimp only at hT
  repeat' split at hT
  all_goals subst hT
  all_goals (try simp)
  all_goals (repeat' split)
  all_goals (try simp)

@[simp] theorem State.loadItems_idents (s : State) (items : List ParItem) : (State.loadItems s items).idents = s.idents := State.idents_eq _ _ (by simp)

@[simp] theorem State.bootSchedule_frame (s : State) (n : Nat) (c : Schedule) :
    (State.bootSchedule s n c).pending = s.pending ∧
    (State.bootSchedule s n c).freeCtr = s.freeCtr ∧
    (State.bootSchedule s n c).coreTicks = s.coreTicks ∧
    (State.bootSchedule s n c).cyc = s.cyc ∧
    (State.bootSchedule s n c).boot = s.boot ∧
    (State.bootSchedule s n c).ports = s.ports ∧
    (State.bootSchedule s n c).opening = s.opening ∧
    (State.bootSchedule s n c).fbs = s.fbs ∧
    (State.bootSchedule s n c).axes = s.axes ∧
    (State.bootSchedule s n c).steps = s.steps ∧
    (State.bootSchedule s n c).line = s.line ∧
    (State.bootSchedule s n c).moves = s.moves ∧
    (State.bootSchedule s n c).arb = s.arb ∧
    (State.bootSchedule s n c).groups = s.groups ∧
    (State.bootSchedule s n c).eng = s.eng ∧
    (State.bootSchedule s n c).saf = s.saf ∧
    (State.bootSchedule s n c).die = s.die ∧
    (State.bootSchedule s n c).fld = s.fld ∧
    (State.bootSchedule s n c).twin = s.twin ∧
    (State.bootSchedule s n c).scs = s.scs ∧
    (State.bootSchedule s n c).time = s.time ∧
    (State.bootSchedule s n c).host = s.host := by
  generalize hT : State.bootSchedule s n c = res
  unfold State.bootSchedule at hT
  try dsimp only at hT
  repeat' split at hT
  all_goals subst hT
  all_goals (try simp)
  all_goals (repeat' split)
  all_goals (try simp)

@[simp] theorem State.bootSchedule_idents (s : State) (n : Nat) (c : Schedule) : (State.bootSchedule s n c).idents = s.idents := State.idents_eq _ _ (by simp)

@[simp] theorem State.loadEngines_frame (s : State) (programs : List (BitVec 64)) (consts : List Word48) :
    (State.loadEngines s programs consts).pending = s.pending ∧
    (State.loadEngines s programs consts).out = s.out ∧
    (State.loadEngines s programs consts).freeCtr = s.freeCtr ∧
    (State.loadEngines s programs consts).coreTicks = s.coreTicks ∧
    (State.loadEngines s programs consts).params = s.params ∧
    (State.loadEngines s programs consts).cyc = s.cyc ∧
    (State.loadEngines s programs consts).boot = s.boot ∧
    (State.loadEngines s programs consts).ports = s.ports ∧
    (State.loadEngines s programs consts).segs = s.segs ∧
    (State.loadEngines s programs consts).opening = s.opening ∧
    (State.loadEngines s programs consts).fbs = s.fbs ∧
    (State.loadEngines s programs consts).axes = s.axes ∧
    (State.loadEngines s programs consts).steps = s.steps ∧
    (State.loadEngines s programs consts).line = s.line ∧
    (State.loadEngines s programs consts).moves = s.moves ∧
    (State.loadEngines s programs consts).arb = s.arb ∧
    (State.loadEngines s programs consts).groups = s.groups ∧
    (State.loadEngines s programs consts).saf = s.saf ∧
    (State.loadEngines s programs consts).die = s.die ∧
    (State.loadEngines s programs consts).fld = s.fld ∧
    (State.loadEngines s programs consts).twin = s.twin ∧
    (State.loadEngines s programs consts).scs = s.scs ∧
    (State.loadEngines s programs consts).time = s.time ∧
    (State.loadEngines s programs consts).host = s.host := by
  generalize hT : State.loadEngines s programs consts = res
  unfold State.loadEngines at hT
  try dsimp only at hT
  repeat' split at hT
  all_goals subst hT
  all_goals (try simp)
  all_goals (repeat' split)
  all_goals (try simp)

@[simp] theorem State.loadEngines_idents (s : State) (programs : List (BitVec 64)) (consts : List Word48) : (State.loadEngines s programs consts).idents = s.idents := State.idents_eq _ _ (by simp)

@[simp] theorem State.loadSegments_frame (s : State) (l : List (BitVec 16 × PvtSeg)) :
    (State.loadSegments s l).pending = s.pending ∧
    (State.loadSegments s l).out = s.out ∧
    (State.loadSegments s l).freeCtr = s.freeCtr ∧
    (State.loadSegments s l).coreTicks = s.coreTicks ∧
    (State.loadSegments s l).params = s.params ∧
    (State.loadSegments s l).cyc = s.cyc ∧
    (State.loadSegments s l).boot = s.boot ∧
    (State.loadSegments s l).ports = s.ports ∧
    (State.loadSegments s l).segs = s.segs ∧
    (State.loadSegments s l).opening = s.opening ∧
    (State.loadSegments s l).fbs = s.fbs ∧
    (State.loadSegments s l).axes = s.axes ∧
    (State.loadSegments s l).steps = s.steps ∧
    (State.loadSegments s l).line = s.line ∧
    (State.loadSegments s l).moves = s.moves ∧
    (State.loadSegments s l).arb = s.arb ∧
    (State.loadSegments s l).groups = s.groups ∧
    (State.loadSegments s l).saf = s.saf ∧
    (State.loadSegments s l).die = s.die ∧
    (State.loadSegments s l).fld = s.fld ∧
    (State.loadSegments s l).twin = s.twin ∧
    (State.loadSegments s l).scs = s.scs ∧
    (State.loadSegments s l).time = s.time ∧
    (State.loadSegments s l).host = s.host := by
  generalize hT : State.loadSegments s l = res
  unfold State.loadSegments at hT
  try dsimp only at hT
  repeat' split at hT
  all_goals subst hT
  all_goals (try simp)
  all_goals (repeat' split)
  all_goals (try simp)

@[simp] theorem State.loadSegments_idents (s : State) (l : List (BitVec 16 × PvtSeg)) : (State.loadSegments s l).idents = s.idents := State.idents_eq _ _ (by simp)

@[simp] theorem State.loadMoves_frame (s : State) (l : List MoveEntry) :
    (State.loadMoves s l).pending = s.pending ∧
    (State.loadMoves s l).out = s.out ∧
    (State.loadMoves s l).freeCtr = s.freeCtr ∧
    (State.loadMoves s l).coreTicks = s.coreTicks ∧
    (State.loadMoves s l).params = s.params ∧
    (State.loadMoves s l).cyc = s.cyc ∧
    (State.loadMoves s l).ports = s.ports ∧
    (State.loadMoves s l).segs = s.segs ∧
    (State.loadMoves s l).opening = s.opening ∧
    (State.loadMoves s l).fbs = s.fbs ∧
    (State.loadMoves s l).axes = s.axes ∧
    (State.loadMoves s l).steps = s.steps ∧
    (State.loadMoves s l).line = s.line ∧
    (State.loadMoves s l).arb = s.arb ∧
    (State.loadMoves s l).groups = s.groups ∧
    (State.loadMoves s l).eng = s.eng ∧
    (State.loadMoves s l).saf = s.saf ∧
    (State.loadMoves s l).die = s.die ∧
    (State.loadMoves s l).fld = s.fld ∧
    (State.loadMoves s l).twin = s.twin ∧
    (State.loadMoves s l).scs = s.scs ∧
    (State.loadMoves s l).time = s.time ∧
    (State.loadMoves s l).host = s.host ∧
    (State.loadMoves s l).boot.recovery = s.boot.recovery := by
  generalize hT : State.loadMoves s l = res
  unfold State.loadMoves at hT
  try dsimp only at hT
  repeat' split at hT
  all_goals subst hT
  all_goals (try simp)
  all_goals (repeat' split)
  all_goals (try simp)

@[simp] theorem State.loadMoves_idents (s : State) (l : List MoveEntry) : (State.loadMoves s l).idents = s.idents := State.idents_eq _ _ (by simp)

@[simp] theorem State.loadBank_frame (s : State) (b : BankImage) :
    (State.loadBank s b).pending = s.pending ∧
    (State.loadBank s b).freeCtr = s.freeCtr ∧
    (State.loadBank s b).coreTicks = s.coreTicks ∧
    (State.loadBank s b).cyc = s.cyc ∧
    (State.loadBank s b).boot = s.boot ∧
    (State.loadBank s b).ports = s.ports ∧
    (State.loadBank s b).opening = s.opening ∧
    (State.loadBank s b).steps = s.steps ∧
    (State.loadBank s b).line = s.line ∧
    (State.loadBank s b).moves = s.moves ∧
    (State.loadBank s b).arb = s.arb ∧
    (State.loadBank s b).groups = s.groups ∧
    (State.loadBank s b).die = s.die ∧
    (State.loadBank s b).fld = s.fld ∧
    (State.loadBank s b).twin = s.twin ∧
    (State.loadBank s b).scs = s.scs ∧
    (State.loadBank s b).time = s.time ∧
    (State.loadBank s b).saf.endgame = s.saf.endgame ∧
    (State.loadBank s b).saf.silent = s.saf.silent ∧
    (State.loadBank s b).host.keys = s.host.keys ∧
    (State.loadBank s b).host.parQueue = s.host.parQueue := by
  generalize hT : State.loadBank s b = res
  unfold State.loadBank at hT
  try dsimp only at hT
  repeat' split at hT
  all_goals subst hT
  all_goals (try simp)
  all_goals (repeat' split)
  all_goals (try simp)

@[simp] theorem State.loadBank_idents (s : State) (b : BankImage) : (State.loadBank s b).idents = s.idents := by
  generalize hT : State.loadBank s b = res
  unfold State.loadBank at hT
  try dsimp only at hT
  repeat' split at hT
  all_goals subst hT
  all_goals (try simp)
  all_goals (repeat' split)
  all_goals (try simp)
  all_goals (try rfl)
  all_goals (try exact State.idents_eq _ _ (by simp))
  all_goals (try simp [Session.ident])
  all_goals (try simp [Session.ident, State.session])
  all_goals (try simp [State.idents, State.session, Session.ident])

@[simp] theorem State.enterRecovery_frame (s : State) (keysA keysB : List KeySlot) :
    (State.enterRecovery s keysA keysB).pending = s.pending ∧
    (State.enterRecovery s keysA keysB).out = s.out ∧
    (State.enterRecovery s keysA keysB).freeCtr = s.freeCtr ∧
    (State.enterRecovery s keysA keysB).coreTicks = s.coreTicks ∧
    (State.enterRecovery s keysA keysB).params = s.params ∧
    (State.enterRecovery s keysA keysB).cyc = s.cyc ∧
    (State.enterRecovery s keysA keysB).ports = s.ports ∧
    (State.enterRecovery s keysA keysB).segs = s.segs ∧
    (State.enterRecovery s keysA keysB).opening = s.opening ∧
    (State.enterRecovery s keysA keysB).fbs = s.fbs ∧
    (State.enterRecovery s keysA keysB).axes = s.axes ∧
    (State.enterRecovery s keysA keysB).steps = s.steps ∧
    (State.enterRecovery s keysA keysB).line = s.line ∧
    (State.enterRecovery s keysA keysB).moves = s.moves ∧
    (State.enterRecovery s keysA keysB).arb = s.arb ∧
    (State.enterRecovery s keysA keysB).groups = s.groups ∧
    (State.enterRecovery s keysA keysB).eng = s.eng ∧
    (State.enterRecovery s keysA keysB).saf = s.saf ∧
    (State.enterRecovery s keysA keysB).die = s.die ∧
    (State.enterRecovery s keysA keysB).fld = s.fld ∧
    (State.enterRecovery s keysA keysB).twin = s.twin ∧
    (State.enterRecovery s keysA keysB).scs = s.scs ∧
    (State.enterRecovery s keysA keysB).time = s.time ∧
    (State.enterRecovery s keysA keysB).host.parQueue = s.host.parQueue := by
  generalize hT : State.enterRecovery s keysA keysB = res
  unfold State.enterRecovery at hT
  try dsimp only at hT
  repeat' split at hT
  all_goals subst hT
  all_goals (try simp)
  all_goals (repeat' split)
  all_goals (try simp)

@[simp] theorem State.enterRecovery_idents (s : State) (keysA keysB : List KeySlot) : (State.enterRecovery s keysA keysB).idents = s.idents := by
  generalize hT : State.enterRecovery s keysA keysB = res
  unfold State.enterRecovery at hT
  try dsimp only at hT
  repeat' split at hT
  all_goals subst hT
  all_goals (try simp)
  all_goals (repeat' split)
  all_goals (try simp)
  all_goals (try rfl)
  all_goals (try exact State.idents_eq _ _ (by simp))
  all_goals (try simp [Session.ident])
  all_goals (try simp [Session.ident, State.session])
  all_goals (try simp [State.idents, State.session, Session.ident])

@[simp] theorem State.finishBoot_frame (s : State) (n : Nat) (b : BankImage) :
    (State.finishBoot s n b).fbs = s.fbs ∧
    (State.finishBoot s n b).steps = s.steps ∧
    (State.finishBoot s n b).arb = s.arb ∧
    (State.finishBoot s n b).groups = s.groups ∧
    (State.finishBoot s n b).die = s.die ∧
    (State.finishBoot s n b).scs = s.scs ∧
    (State.finishBoot s n b).saf.endgame = s.saf.endgame ∧
    (State.finishBoot s n b).saf.silent = s.saf.silent ∧
    (State.finishBoot s n b).host.parQueue = s.host.parQueue ∧
    (State.finishBoot s n b).cyc.cycle = s.cyc.cycle := by
  generalize hT : State.finishBoot s n b = res
  unfold State.finishBoot at hT
  try dsimp only at hT
  repeat' split at hT
  all_goals subst hT
  all_goals (try simp)
  all_goals (repeat' split)
  all_goals (try simp)

@[simp] theorem State.finishBoot_idents (s : State) (n : Nat) (b : BankImage) : (State.finishBoot s n b).idents = s.idents := by
  generalize hT : State.finishBoot s n b = res
  unfold State.finishBoot at hT
  try dsimp only at hT
  repeat' split at hT
  all_goals subst hT
  all_goals (try simp)
  all_goals (repeat' split)
  all_goals (try simp)
  all_goals (try rfl)
  all_goals (try exact State.idents_eq _ _ (by simp))
  all_goals (try simp [Session.ident])
  all_goals (try simp [Session.ident, State.session])
  all_goals (try simp [State.idents, State.session, Session.ident])

@[simp] theorem State.setBank_frame (s : State) (n : Nat) (b : Bank) :
    (State.setBank s n b).pending = s.pending ∧
    (State.setBank s n b).out = s.out ∧
    (State.setBank s n b).freeCtr = s.freeCtr ∧
    (State.setBank s n b).coreTicks = s.coreTicks ∧
    (State.setBank s n b).params = s.params ∧
    (State.setBank s n b).cyc = s.cyc ∧
    (State.setBank s n b).ports = s.ports ∧
    (State.setBank s n b).segs = s.segs ∧
    (State.setBank s n b).opening = s.opening ∧
    (State.setBank s n b).fbs = s.fbs ∧
    (State.setBank s n b).axes = s.axes ∧
    (State.setBank s n b).steps = s.steps ∧
    (State.setBank s n b).line = s.line ∧
    (State.setBank s n b).moves = s.moves ∧
    (State.setBank s n b).arb = s.arb ∧
    (State.setBank s n b).groups = s.groups ∧
    (State.setBank s n b).eng = s.eng ∧
    (State.setBank s n b).saf = s.saf ∧
    (State.setBank s n b).die = s.die ∧
    (State.setBank s n b).fld = s.fld ∧
    (State.setBank s n b).twin = s.twin ∧
    (State.setBank s n b).scs = s.scs ∧
    (State.setBank s n b).time = s.time ∧
    (State.setBank s n b).host = s.host ∧
    (State.setBank s n b).boot.recovery = s.boot.recovery := by
  generalize hT : State.setBank s n b = res
  unfold State.setBank at hT
  try dsimp only at hT
  repeat' split at hT
  all_goals subst hT
  all_goals (try simp)
  all_goals (repeat' split)
  all_goals (try simp)

@[simp] theorem State.setBank_idents (s : State) (n : Nat) (b : Bank) : (State.setBank s n b).idents = s.idents := State.idents_eq _ _ (by simp)

end Sys2Proof.Machine
end

