-- ==== Sys2Proof/Laws/FrameHost.lean ====
section
/-! SUPPORT. What the operations of Machine/Host.lean leave unchanged: one rule per operation. -/

namespace Sys2Proof.Machine

@[simp] theorem State.drainRing_frame (s : State) (k0 : List (List Byte)) :
    (State.drainRing s k0).pending = s.pending ∧
    (State.drainRing s k0).freeCtr = s.freeCtr ∧
    (State.drainRing s k0).coreTicks = s.coreTicks ∧
    (State.drainRing s k0).params = s.params ∧
    (State.drainRing s k0).cyc = s.cyc ∧
    (State.drainRing s k0).boot = s.boot ∧
    (State.drainRing s k0).ports = s.ports ∧
    (State.drainRing s k0).segs = s.segs ∧
    (State.drainRing s k0).opening = s.opening ∧
    (State.drainRing s k0).fbs = s.fbs ∧
    (State.drainRing s k0).steps = s.steps ∧
    (State.drainRing s k0).line = s.line ∧
    (State.drainRing s k0).moves = s.moves ∧
    (State.drainRing s k0).arb = s.arb ∧
    (State.drainRing s k0).groups = s.groups ∧
    (State.drainRing s k0).eng = s.eng ∧
    (State.drainRing s k0).saf = s.saf ∧
    (State.drainRing s k0).die = s.die ∧
    (State.drainRing s k0).fld = s.fld ∧
    (State.drainRing s k0).twin = s.twin ∧
    (State.drainRing s k0).scs = s.scs ∧
    (State.drainRing s k0).time = s.time ∧
    (State.drainRing s k0).host.keys = s.host.keys ∧
    (State.drainRing s k0).host.parQueue = s.host.parQueue := by
  induction k0 generalizing s with
  | nil => simp [State.drainRing]
  | cons x k0 ih =>
    generalize hT : State.drainRing s (x :: k0) = res
    unfold State.drainRing at hT
    try dsimp only at hT
    repeat' split at hT
    all_goals subst hT
    all_goals (try simp [ih])
    all_goals (repeat' split)
    all_goals (try simp [ih])

@[simp] theorem State.readRing_frame (s : State) :
    (State.readRing s).pending = s.pending ∧
    (State.readRing s).freeCtr = s.freeCtr ∧
    (State.readRing s).coreTicks = s.coreTicks ∧
    (State.readRing s).params = s.params ∧
    (State.readRing s).cyc = s.cyc ∧
    (State.readRing s).boot = s.boot ∧
    (State.readRing s).ports = s.ports ∧
    (State.readRing s).segs = s.segs ∧
    (State.readRing s).opening = s.opening ∧
    (State.readRing s).fbs = s.fbs ∧
    (State.readRing s).steps = s.steps ∧
    (State.readRing s).line = s.line ∧
    (State.readRing s).moves = s.moves ∧
    (State.readRing s).arb = s.arb ∧
    (State.readRing s).groups = s.groups ∧
    (State.readRing s).eng = s.eng ∧
    (State.readRing s).saf = s.saf ∧
    (State.readRing s).die = s.die ∧
    (State.readRing s).fld = s.fld ∧
    (State.readRing s).twin = s.twin ∧
    (State.readRing s).scs = s.scs ∧
    (State.readRing s).time = s.time ∧
    (State.readRing s).host.keys = s.host.keys ∧
    (State.readRing s).host.parQueue = s.host.parQueue := by
  generalize hT : State.readRing s = res
  unfold State.readRing at hT
  try dsimp only at hT
  repeat' split at hT
  all_goals subst hT
  all_goals (try simp)
  all_goals (repeat' split)
  all_goals (try simp)

@[simp] theorem State.writeSqTail_frame (s : State) (value : Nat) (entries : List (List Byte)) :
    (State.writeSqTail s value entries).pending = s.pending ∧
    (State.writeSqTail s value entries).freeCtr = s.freeCtr ∧
    (State.writeSqTail s value entries).coreTicks = s.coreTicks ∧
    (State.writeSqTail s value entries).params = s.params ∧
    (State.writeSqTail s value entries).cyc = s.cyc ∧
    (State.writeSqTail s value entries).boot = s.boot ∧
    (State.writeSqTail s value entries).ports = s.ports ∧
    (State.writeSqTail s value entries).segs = s.segs ∧
    (State.writeSqTail s value entries).opening = s.opening ∧
    (State.writeSqTail s value entries).fbs = s.fbs ∧
    (State.writeSqTail s value entries).steps = s.steps ∧
    (State.writeSqTail s value entries).line = s.line ∧
    (State.writeSqTail s value entries).moves = s.moves ∧
    (State.writeSqTail s value entries).arb = s.arb ∧
    (State.writeSqTail s value entries).groups = s.groups ∧
    (State.writeSqTail s value entries).eng = s.eng ∧
    (State.writeSqTail s value entries).saf = s.saf ∧
    (State.writeSqTail s value entries).die = s.die ∧
    (State.writeSqTail s value entries).fld = s.fld ∧
    (State.writeSqTail s value entries).twin = s.twin ∧
    (State.writeSqTail s value entries).scs = s.scs ∧
    (State.writeSqTail s value entries).time = s.time ∧
    (State.writeSqTail s value entries).host.keys = s.host.keys ∧
    (State.writeSqTail s value entries).host.parQueue = s.host.parQueue := by
  generalize hT : State.writeSqTail s value entries = res
  unfold State.writeSqTail at hT
  try dsimp only at hT
  repeat' split at hT
  all_goals subst hT
  all_goals (try simp)
  all_goals (repeat' split)
  all_goals (try simp)

@[simp] theorem State.clearInts_frame (s : State) (value : BitVec 32) :
    (State.clearInts s value).pending = s.pending ∧
    (State.clearInts s value).out = s.out ∧
    (State.clearInts s value).freeCtr = s.freeCtr ∧
    (State.clearInts s value).coreTicks = s.coreTicks ∧
    (State.clearInts s value).params = s.params ∧
    (State.clearInts s value).cyc = s.cyc ∧
    (State.clearInts s value).boot = s.boot ∧
    (State.clearInts s value).ports = s.ports ∧
    (State.clearInts s value).segs = s.segs ∧
    (State.clearInts s value).opening = s.opening ∧
    (State.clearInts s value).fbs = s.fbs ∧
    (State.clearInts s value).axes = s.axes ∧
    (State.clearInts s value).steps = s.steps ∧
    (State.clearInts s value).line = s.line ∧
    (State.clearInts s value).moves = s.moves ∧
    (State.clearInts s value).arb = s.arb ∧
    (State.clearInts s value).groups = s.groups ∧
    (State.clearInts s value).eng = s.eng ∧
    (State.clearInts s value).saf = s.saf ∧
    (State.clearInts s value).die = s.die ∧
    (State.clearInts s value).fld = s.fld ∧
    (State.clearInts s value).twin = s.twin ∧
    (State.clearInts s value).scs = s.scs ∧
    (State.clearInts s value).time = s.time ∧
    (State.clearInts s value).host.keys = s.host.keys ∧
    (State.clearInts s value).host.parQueue = s.host.parQueue := by
  generalize hT : State.clearInts s value = res
  unfold State.clearInts at hT
  try dsimp only at hT
  repeat' split at hT
  all_goals subst hT
  all_goals (try simp)
  all_goals (repeat' split)
  all_goals (try simp)

@[simp] theorem State.clearInts_idents (s : State) (value : BitVec 32) : (State.clearInts s value).idents = s.idents := by
  generalize hT : State.clearInts s value = res
  unfold State.clearInts at hT
  try dsimp only at hT
  repeat' split at hT
  all_goals subst hT
  all_goals (try simp)
  all_goals (repeat' split)
  all_goals (try simp)
  all_goals (try rfl)
  all_goals (try exact State.idents_eq _ _ (by simp))
  all_goals (try simp [Session.ident])
  all_goals (try simp [Session.ident, State.session])
  all_goals (try simp [State.idents, State.session, Session.ident])

@[simp] theorem State.lockedWrite_frame (s : State) (running : Bool) (f : Bar0 → Bar0) :
    (State.lockedWrite s running f).pending = s.pending ∧
    (State.lockedWrite s running f).freeCtr = s.freeCtr ∧
    (State.lockedWrite s running f).coreTicks = s.coreTicks ∧
    (State.lockedWrite s running f).params = s.params ∧
    (State.lockedWrite s running f).cyc = s.cyc ∧
    (State.lockedWrite s running f).boot = s.boot ∧
    (State.lockedWrite s running f).ports = s.ports ∧
    (State.lockedWrite s running f).segs = s.segs ∧
    (State.lockedWrite s running f).opening = s.opening ∧
    (State.lockedWrite s running f).fbs = s.fbs ∧
    (State.lockedWrite s running f).axes = s.axes ∧
    (State.lockedWrite s running f).steps = s.steps ∧
    (State.lockedWrite s running f).line = s.line ∧
    (State.lockedWrite s running f).moves = s.moves ∧
    (State.lockedWrite s running f).arb = s.arb ∧
    (State.lockedWrite s running f).groups = s.groups ∧
    (State.lockedWrite s running f).eng = s.eng ∧
    (State.lockedWrite s running f).saf = s.saf ∧
    (State.lockedWrite s running f).die = s.die ∧
    (State.lockedWrite s running f).fld = s.fld ∧
    (State.lockedWrite s running f).twin = s.twin ∧
    (State.lockedWrite s running f).scs = s.scs ∧
    (State.lockedWrite s running f).time = s.time ∧
    (State.lockedWrite s running f).host.keys = s.host.keys ∧
    (State.lockedWrite s running f).host.parQueue = s.host.parQueue := by
  generalize hT : State.lockedWrite s running f = res
  unfold State.lockedWrite at hT
  try dsimp only at hT
  repeat' split at hT
  all_goals subst hT
  all_goals (try simp)
  all_goals (repeat' split)
  all_goals (try simp)

@[simp] theorem State.lockedWrite_idents (s : State) (running : Bool) (f : Bar0 → Bar0) : (State.lockedWrite s running f).idents = s.idents := by
  generalize hT : State.lockedWrite s running f = res
  unfold State.lockedWrite at hT
  try dsimp only at hT
  repeat' split at hT
  all_goals subst hT
  all_goals (try simp)
  all_goals (repeat' split)
  all_goals (try simp)
  all_goals (try rfl)
  all_goals (try exact State.idents_eq _ _ (by simp))
  all_goals (try simp [Session.ident])
  all_goals (try simp [Session.ident, State.session])
  all_goals (try simp [State.idents, State.session, Session.ident])

@[simp] theorem State.writeRegister_frame (s : State) (off : Nat) (v : BitVec 32) :
    (State.writeRegister s off v).pending = s.pending ∧
    (State.writeRegister s off v).freeCtr = s.freeCtr ∧
    (State.writeRegister s off v).coreTicks = s.coreTicks ∧
    (State.writeRegister s off v).params = s.params ∧
    (State.writeRegister s off v).cyc = s.cyc ∧
    (State.writeRegister s off v).boot = s.boot ∧
    (State.writeRegister s off v).ports = s.ports ∧
    (State.writeRegister s off v).segs = s.segs ∧
    (State.writeRegister s off v).opening = s.opening ∧
    (State.writeRegister s off v).fbs = s.fbs ∧
    (State.writeRegister s off v).steps = s.steps ∧
    (State.writeRegister s off v).line = s.line ∧
    (State.writeRegister s off v).moves = s.moves ∧
    (State.writeRegister s off v).arb = s.arb ∧
    (State.writeRegister s off v).groups = s.groups ∧
    (State.writeRegister s off v).eng = s.eng ∧
    (State.writeRegister s off v).saf = s.saf ∧
    (State.writeRegister s off v).die = s.die ∧
    (State.writeRegister s off v).fld = s.fld ∧
    (State.writeRegister s off v).twin = s.twin ∧
    (State.writeRegister s off v).scs = s.scs ∧
    (State.writeRegister s off v).time = s.time ∧
    (State.writeRegister s off v).host.keys = s.host.keys ∧
    (State.writeRegister s off v).host.parQueue = s.host.parQueue := by
  generalize hT : State.writeRegister s off v = res
  unfold State.writeRegister at hT
  try dsimp only at hT
  repeat' split at hT
  all_goals subst hT
  all_goals (try simp)
  all_goals (repeat' split)
  all_goals (try simp)

end Sys2Proof.Machine
end

