-- ==== Sys2Proof/Laws/FrameCycleStart.lean ====
section
/-! SUPPORT. What the operations of Machine/CycleStart.lean leave unchanged: one rule per operation. -/

namespace Sys2Proof.Machine

end Sys2Proof.Machine
end

