-- ==== Sys2Proof/Laws/FrameEngineRun.lean ====
section
/-! SUPPORT. What the operations of Machine/EngineRun.lean leave unchanged: one rule per operation. -/

namespace Sys2Proof.Machine

end Sys2Proof.Machine
end

