-- ==== Sys2Proof/Laws/FrameStep.lean ====
section
/-! SUPPORT. What the operations of Machine/Step.lean leave unchanged: one rule per operation. -/

namespace Sys2Proof.Machine

@[simp] theorem State.withFetchWord_frame (s : State) (nbits w : Nat) :
    (State.withFetchWord s nbits w).out = s.out ∧
    (State.withFetchWord s nbits w).freeCtr = s.freeCtr ∧
    (State.withFetchWord s nbits w).coreTicks = s.coreTicks ∧
    (State.withFetchWord s nbits w).params = s.params ∧
    (State.withFetchWord s nbits w).cyc = s.cyc ∧
    (State.withFetchWord s nbits w).boot = s.boot ∧
    (State.withFetchWord s nbits w).ports = s.ports ∧
    (State.withFetchWord s nbits w).segs = s.segs ∧
    (State.withFetchWord s nbits w).opening = s.opening ∧
    (State.withFetchWord s nbits w).fbs = s.fbs ∧
    (State.withFetchWord s nbits w).axes = s.axes ∧
    (State.withFetchWord s nbits w).steps = s.steps ∧
    (State.withFetchWord s nbits w).line = s.line ∧
    (State.withFetchWord s nbits w).moves = s.moves ∧
    (State.withFetchWord s nbits w).arb = s.arb ∧
    (State.withFetchWord s nbits w).groups = s.groups ∧
    (State.withFetchWord s nbits w).eng = s.eng ∧
    (State.withFetchWord s nbits w).saf = s.saf ∧
    (State.withFetchWord s nbits w).die = s.die ∧
    (State.withFetchWord s nbits w).fld = s.fld ∧
    (State.withFetchWord s nbits w).twin = s.twin ∧
    (State.withFetchWord s nbits w).scs = s.scs ∧
    (State.withFetchWord s nbits w).time = s.time ∧
    (State.withFetchWord s nbits w).host = s.host := by
  generalize hT : State.withFetchWord s nbits w = res
  unfold State.withFetchWord at hT
  try dsimp only at hT
  repeat' split at hT
  all_goals subst hT
  all_goals (try simp)
  all_goals (repeat' split)
  all_goals (try simp)

@[simp] theorem State.withFetchWord_idents (s : State) (nbits w : Nat) : (State.withFetchWord s nbits w).idents = s.idents := State.idents_eq _ _ (by simp)

end Sys2Proof.Machine
end

