-- ==== Sys2Proof/WellFormed.lean ====
section
/-! DEFINITION. Well-formed commands: what the wire, the ring or the pin can carry.  A packet that breaks a length of Table CMD-3 is
refused before it becomes a command (spec/16_command_set.md R450 step 1). -/

namespace Sys2Proof

/-- A frame holds its header, at most 255 payload words and its CRC (spec/02_futhes_frames.md R50). -/
def frameForm (f : RxFrame) : Bool := decide (f.bytes.length ≤ 1044)

/-- A barrier frame has 32 bytes (spec/11_field_io.md R341). -/
def barrierForm (bytes : List Byte) : Bool := decide (bytes.length = 32)

/-- A wall time's ns lie below one second (R4). -/
def timeForm (t : T80) : Bool := decide (t.ns.toNat < 1000000000)

/-- A logged command's parameters fit an assembly (R419). -/
def logForm (r : LogRec) : Bool := decide (r.params.length ≤ 65535)

/-- The served time and the role keys that a joining standby receives (R362, R486). -/
def joinForm (m : JoinMsg) : Bool :=
  decide (m.sec < 281474976710656) && decide (m.ns < 1000000000) && decide (m.clockState ≤ 3)
  && (decide (m.keys = []) || (decide (m.keys.length = 5) && m.keys.all (fun k => decide (k.length = 32))))

/-- The numbers of an SCH header and its records fit their fields (Table FRM-13). -/
def schedForm (c : Schedule) : Bool :=
  decide (c.ver < 256) && decide (c.period < 256) && decide (c.staticSlots < 256) && decide (c.slotLen < 65536) && decide (c.headSlots < 256)
  && decide (c.minislots < 65536) && decide (c.minislotLen < 256) && decide (c.guardLen < 256) && decide (c.safWd < 256)
  && decide (c.wCode < 256) && decide (c.records.length < 65536)
  && c.records.all (fun r => decide (r.slot < 256) && decide (r.mux < 256) && decide (r.phase < 256) && decide (r.use < 256)
    && decide (r.axis < 65536) && decide (r.node < 256) && decide (r.lenWords < 256))

/-- What one bank can hold (R172, R436). -/
def imageForm (b : BankImage) : Bool :=
  decide (b.programs.length ≤ 8192) && decide (b.constants.length ≤ 4096) && decide (b.keys.length ≤ 2)
  && b.keys.all (fun k => decide (k.gen < 4294967296) && decide (k.wrapped.length = 168))

/-- A command that can arrive. -/
def Instr.wf : Instr → Bool
  | .cycleStart => true
  | .localDispatch => true
  | .engineDispatch _ => true
  | .stillEntry _ => true
  | .settlingEnd _ => true
  | .fbkFrameReceive f => frameForm f
  | .fbkRelease _ => true
  | .axisDeadline _ => true
  | .ageFault _ => true
  | .refSeal => true
  | .moveListPass => true
  | .captureEvent _ => true
  | .heatTick temps _ => decide (temps.length = 8)
  | .dmax _ => true
  | .csfReturn _ _ => true
  | .loopDrift _ => true
  | .csfReturnMissing _ => true
  | .portLinkDown _ _ => true
  | .mdioLinkPoll _ _ => true
  | .loopFrameReceive f => frameForm f
  | .ringRestoreAuto _ => true
  | .ringRestored _ => true
  | .safUplinkReceive f => frameForm f
  | .uplinkInvalidRun _ => true
  | .upTimeout _ => true
  | .ss1Tmax _ _ => true
  | .standstillConfirm _ _ => true
  | .speedDiscrepancy _ => true
  | .islandSeqReport => true
  | .channelPFailure _ => true
  | .channelHFailure _ => true
  | .temperatureTrip _ => true
  | .fatalFault _ => true
  | .endgameStopAll => true
  | .endgameOutputDrop => true
  | .twinBitExpiry => true
  | .siDiscrepancy _ _ => true
  | .barrierLinkLost _ => true
  | .barrierLinkRecover _ => true
  | .ackWinExpiry => true
  | .safParamActivate => true
  | .safParamDiscard => true
  | .fieldMUplinkReceive bytes => barrierForm bytes
  | .fieldHUplinkReceive bytes => barrierForm bytes
  | .fieldDownlinkReceive _ bytes => barrierForm bytes
  | .timedOrderFire _ => true
  | .fiSampleWindow _ deciVolts => decide (deciVolts.length = 16)
  | .barrierFramePeriod => true
  | .testPulse _ => true
  | .offPulse _ => true
  | .offPulseJudge _ => true
  | .readbackSample deciVolts => decide (deciVolts.length = 8)
  | .overload _ _ => true
  | .thermalShutdown _ _ => true
  | .coolDownEnd _ _ => true
  | .demagEnd _ _ => true
  | .demagLong _ => true
  | .safetyLinkDisagree _ => true
  | .supplyMeasure _ _ _ => true
  | .vfWarn => true
  | .vfLow => true
  | .vfOff _ => true
  | .supplyThresholdClear => true
  | .restartOk _ => true
  | .fieldDieReset _ => true
  | .fieldWatchdog => true
  | .tHoldExpiry => true
  | .fieldWatchdogClear => true
  | .fbEdge _ _ _ _ => true
  | .phaseError _ _ _ _ => true
  | .hallCodeChange _ _ _ => true
  | .indexMark _ _ _ => true
  | .ssiBurstStart _ => true
  | .ssiReading _ _ => true
  | .enableComplete _ => true
  | .enTimeout _ => true
  | .stopConfirm _ => true
  | .brakeTElapsed _ => true
  | .heldEnableExecute _ => true
  | .holdMax _ => true
  | .stallDetect _ => true
  | .homeFail _ => true
  | .homingComplete _ => true
  | .directMiss _ => true
  | .stnFlt _ _ => true
  | .stEnDelayElapsed _ => true
  | .coefWriteLand _ => true
  | .segmentWriteLand => true
  | .parameterWriteLand => true
  | .movAddLand => true
  | .lineDisagree => true
  | .lineLost => true
  | .lineRevalid => true
  | .switchBack => true
  | .switchBackRequest _ => true
  | .disagreeClear _ => true
  | .puClear _ _ => true
  | .statusW1cWrite _ _ => true
  | .iodReceive f => frameForm f
  | .flushLost _ => true
  | .supStatusReceive f => frameForm f
  | .admissionRequest f => frameForm f
  | .diagnosticResponse f => frameForm f
  | .nodeParameterAccess f => frameForm f
  | .acknowledge f => frameForm f
  | .dynTurn _ _ => true
  | .dynRepeat _ => true
  | .surResponse f => frameForm f
  | .surRequestReturn _ _ => true
  | .surveyTimeout _ => true
  | .listenEnd => true
  | .claimPeriod => true
  | .clmReceive f => frameForm f
  | .claimEnd => true
  | .synchroniseEnd _ => true
  | .foreignCsfReceive f => frameForm f
  | .standbyCsfReceive f => frameForm f
  | .takeoverUndetected => true
  | .healthSend => true
  | .health _ _ => true
  | .log _ r => logForm r
  | .logAck _ _ => true
  | .release _ _ => true
  | .digest _ _ _ => true
  | .verdict _ _ _ => true
  | .mismatchTestStart => true
  | .test _ _ _ => true
  | .declare _ _ _ _ => true
  | .resync _ addr words => decide (addr + words.length ≤ 0x100000)
  | .joinBoundary _ m => joinForm m
  | .synchronised => true
  | .twinLinkLost => true
  | .twinLaneFail _ => true
  | .trigger _ t _ => timeForm t
  | .handoverStart => true
  | .oldTrainForwardEnd => true
  | .swapAbandon => true
  | .revert => true
  | .ptpSync _ _ _ _ _ _ => true
  | .ptpFollowUp _ _ _ _ => true
  | .ptpAnnounce _ _ _ _ => true
  | .ptpDelayResp _ _ _ _ => true
  | .ptpDelayReqSend _ _ => true
  | .syncLoss _ => true
  | .ppsEdge _ _ => true
  | .ppsLoss _ => true
  | .sourceSwitch => true
  | .sourceTakeover => true
  | .slewEnd => true
  | .timeFault => true
  | .timeStep => true
  | .restepAbandoned => true
  | .ppsOutPulse => true
  | .scsTick => true
  | .captureDone => true
  | .trgPinEdge _ _ _ => true
  | .trgOutputEnd _ => true
  | .sqTail _ entries => entries.all (fun e => decide (e.length ≤ 256))
  | .cqHead _ => true
  | .eqHead _ => true
  | .ringEn => true
  | .eqEn => true
  | .intStatus _ => true
  | .registerWrite _ _ => true
  | .msiCoalesceEnd _ => true
  | .pcieReset => true
  | .udpDatagram _ _ _ _ _ bytes => decide (bytes.length ≤ 1472)
  | .arpRequest _ _ => true
  | .icmpEcho _ _ data => decide (data.length ≤ 1472)
  | .commandPart _ _ _ _ data => decide (data.length ≤ 1440)
  | .evtPush _ => true
  | .challengeTimeout _ => true
  | .sesIdle _ => true
  | .lockoutEnd _ => true
  | .flashWriteComplete _ => true
  | .devInfo _ => true
  | .sysEvtMask _ _ _ => true
  | .sysReset _ _ => true
  | .sysEvtRead _ _ _ => true
  | .sesHello _ _ _ nonce => decide (nonce.length = 16)
  | .sesProve _ proof => decide (proof.length = 32)
  | .sesClose _ => true
  | .sesKeySet _ _ wrapped => decide (wrapped.length = 40)
  | .parGet _ ids => decide (1 ≤ ids.length) && decide (ids.length ≤ 89)
  | .parSet _ _ => true
  | .parInfo _ _ => true
  | .axEnable _ _ => true
  | .axDisable _ _ => true
  | .axFaultReset _ _ => true
  | .axMoveAbs _ _ _ _ _ _ _ => true
  | .axHalt _ _ _ => true
  | .axHome _ _ _ => true
  | .axCoefWrite _ _ _ _ => true
  | .axPark _ _ _ => true
  | .axDirect _ _ _ refs => decide (refs.length ≤ 102)
  | .axCoefRead _ _ _ _ => true
  | .proSegWrite _ _ segs => decide (1 ≤ segs.length) && decide (segs.length ≤ 9)
  | .proStart _ _ _ _ => true
  | .proGroupLinear _ _ _ _ _ _ targets => decide (1 ≤ targets.length) && decide (targets.length ≤ 16)
  | .proContinue _ _ => true
  | .proSegRead _ _ _ => true
  | .movAdd _ entries => decide (1 ≤ entries.length) && decide (entries.length ≤ 44)
  | .movDelete _ _ => true
  | .movClear _ _ => true
  | .movResume _ => true
  | .movRead _ _ => true
  | .netOpening _ => true
  | .netSchedLoad _ _ sched => schedForm sched
  | .netSchedActivate _ _ => true
  | .remeasureComplete _ => true
  | .scheduleActivate _ => true
  | .netNodeAdmit _ _ _ _ => true
  | .netNodeRemove _ _ _ => true
  | .netRingRestore _ _ => true
  | .netMdio _ _ _ _ _ _ _ _ => true
  | .netMeasure _ _ _ _ => true
  | .safDemand _ _ _ => true
  | .safAck _ _ => true
  | .safParamLoad _ sect => decide (sect.length ≤ 65535)
  | .twnInfo _ => true
  | .twnSwap _ => true
  | .scsArm _ => true
  | .scsForce _ => true
  | .scsStop _ => true
  | .scsRead _ _ _ => true
  | .timGet _ => true
  | .timSrcRead _ _ => true
  | .timRestep _ => true
  | .arbQueueRead _ _ _ => true
  | .arbBudgetSet _ _ values => decide (values.length = 1 ∨ values.length = 3)
  | .fldOutSet _ _ _ => true
  | .fldLatchClear _ _ => true
  | .fldRestart _ => true
  | .imgWrite _ _ data => decide (data.length ≤ 65531)
  | .imgActivate _ => true
  | .imgInfo _ _ => true
  | .svcEngineRotate _ _ => true
  | .svcSegTest _ _ _ _ => true
  | .segTestEnd _ _ => true
  | .rotationDue => true
  | .rotationDone _ _ => true
  | .scrubPeriod _ _ => true
  | .engineFailed _ _ => true
  | .engineWatchdog _ => true
  | .porstN _ _ _ => true
  | .resetN _ => true
  | .vddHMonitor => true
  | .islandPorRelease => true
  | .controlDieSilent => true
  | .bootComplete _ a b => imageForm a && imageForm b
  | .ceLd _ _ _ _ _ _ => true
  | .ceLdq _ _ _ _ _ _ => true
  | .ceSt _ _ _ _ _ => true
  | .ceStq _ _ _ _ _ => true
  | .ceLdi _ _ _ => true
  | .ceLds _ _ _ => true
  | .ceMov _ _ _ => true
  | .ceMva _ _ _ _ => true
  | .ceAmod _ _ _ => true
  | .ceAdd _ _ _ _ => true
  | .ceSub _ _ _ _ => true
  | .ceAdds _ _ _ _ => true
  | .ceSubs _ _ _ _ => true
  | .ceAnd _ _ _ _ => true
  | .ceOr _ _ _ _ => true
  | .ceXor _ _ _ _ => true
  | .ceShl _ _ _ _ => true
  | .ceAsr _ _ _ _ => true
  | .ceCmp _ _ _ => true
  | .ceMin _ _ _ _ => true
  | .ceMax _ _ _ _ => true
  | .ceAbs _ _ _ => true
  | .ceNeg _ _ _ => true
  | .ceAddi _ _ _ _ => true
  | .ceWrapm _ _ _ _ => true
  | .ceMac _ _ _ _ _ _ => true
  | .ceMac4 _ _ _ _ _ _ => true
  | .ceAcclr _ _ => true
  | .ceAccld _ _ _ _ => true
  | .ceMvs _ _ _ _ _ => true
  | .ceMvs4 _ _ _ _ => true
  | .ceBr _ _ _ => true
  | .ceLoop _ _ _ _ _ _ => true
  | .ceCall _ _ => true
  | .ceRet _ => true
  | .ceEnd _ => true
  | .ceTflt _ _ => true
  | .ceNop _ => true
  | .ceFence _ => true
  | .portLinkUp _ => true
  | .resetFenceRelease _ => true
  | .fieldDieResetRelease _ => true
  | .stepGeneratorTick _ => true
  | .ppsOutEnd => true
  | .hsafeOkToggle => true
  | .offPulseEnd _ => true
  | .testPulseEnd _ => true
  | .safTapReceive f => frameForm f
  | .surRequestReceive f => frameForm f

end Sys2Proof
end

