-- ==== Sys2Proof/Tests/Slice0.lean ====
section
/-! SUPPORT. Tests: the words of engine instructions, vectors of the standards, the smoke test of WellFormed, a few single steps, and for each
obligation with hypotheses concrete states and operands that meet them, clause by clause. -/

namespace Sys2Proof.Tests

open Sys2Proof.Machine Sys2Proof.Claims

set_option maxRecDepth 100000
set_option Elab.async false

/-- The state after reset. -/
def z : State := State.reset
/-- Session 0 is open for role 5 (ADMIN) over UDP. -/
def w0 : State := z.setSession 0 { Session.reset with phase := .opened, role := 5, source := .udp 0 0x0A000001 5000 }
def c0 : CmdCtx := { slot := 0, seq := 1, expert := true, atBoundary := false }
def rr : Running := { start := 0, owner := .axis 0, cycle := 4, apply := 5, cycles := 10, arith := false, library := false, written := [] }
def rrLate : Running := { rr with cycles := 1000000 }
/-- Engine 0 runs rr, with f applied to its registers. -/
def ze (r : Running) (f : Engine → Engine) : State := z.setEngine 0 (f { (z.engine 0) with task := some r })
def wSes (s : State) (f : Session → Session) : State := s.setSession 0 (f (s.session 0))
def wHost (s : State) (f : HostSt → HostSt) : State := { s with host := f s.host }
def wKeys (s : State) (f : KeyStore → KeyStore) : State := wHost s (fun h => { h with keys := f h.keys })
def wBar (s : State) (f : Bar0 → Bar0) : State := wHost s (fun h => { h with bar0 := f h.bar0 })
def wTwin (s : State) (f : Twin → Twin) : State := { s with twin := f s.twin }
def wBoot (s : State) (f : BootSt → BootSt) : State := { s with boot := f s.boot }
def wCyc (s : State) (f : Cycle → Cycle) : State := { s with cyc := f s.cyc }
def wSaf (s : State) (f : Safety → Safety) : State := { s with saf := f s.saf }
def wFld (s : State) (f : FieldCtl → FieldCtl) : State := { s with fld := f s.fld }
def wDie (s : State) (f : FieldDie → FieldDie) : State := { s with die := f s.die }
def wArb (s : State) (f : Arbiter → Arbiter) : State := { s with arb := f s.arb }
def wTime (s : State) (f : WallTime → WallTime) : State := { s with time := f s.time }
def wLine (s : State) (f : LineSt → LineSt) : State := { s with line := f s.line }
def wMoves (s : State) (f : MoveList → MoveList) : State := { s with moves := f s.moves }
def wOpen (s : State) (f : Opening → Opening) : State := { s with opening := f s.opening }
def wEng (s : State) (f : EngineSpace → EngineSpace) : State := { s with eng := f s.eng }
def wScs (s : State) (f : Scs → Scs) : State := { s with scs := f s.scs }
def wSynced (s : State) : State := wTwin s (fun t => { t with onMove := true, lane0 := true, peerHealthy := true, peerSynced := true })
def kc : Cmd := { op := 0x0302, need := 3, expert := true }
def wLife (s : State) (f : Life → Life) : State := s.modLife 0 f
def wLaw (s : State) (f : LawSt → LawSt) : State := s.modLaw 0 f
def wProf (s : State) (f : Prof → Prof) : State := s.modProf 0 f
def wAxis (s : State) (f : Axis → Axis) : State := s.modAxis 0 f
/-- Axis 0 is in a state. -/
def wIn (s : State) (st : AxState) : State := wLife s (fun l => { l with state := st })
def fr (p : PortIx) (h : Hdr) (pl : List Byte) : RxFrame := { port := p, bytes := sealFrame h pl, error := false, sfd := 0 }
def hd (kind len : Nat) : Hdr := { kind := kind, seg := 0, slotN := 0x7FFF, cyc := 0, len := len, safe := decide (kind = 5), takeBack := decide (kind = 6) }
def hb (kind len : Nat) : Hdr := { hd kind len with loop := true }
def zeros (n : Nat) : List Byte := List.replicate n 0
def badF : RxFrame := { port := 0, bytes := [], error := true, sfd := 0 }
def wSeg (s : State) (f : Segment → Segment) : State := s.modSeg 0 f
/-- A ring of the head on the move: segment 0 active, with f applied to it. -/
def zr (f : Segment → Segment) : State := wSeg (wTwin (z.setPar 0x07300002 1) (fun t => { t with onMove := true })) f
def mvE (a : BitVec 8) : MoveEntry := { seq := 7, trigger := 0, action := a, flags := 0, seg := 0, target := 0, channel := 0, outAct := 0, axis := 0, segment := 0, lead := 0, tol := 0, grp := 0xFF }
def mvI (st : MoveState) : MoveItem := { newItem (mvE 2) with state := st }
def wItems (s : State) (xs : List MoveItem) : State := wMoves s (fun m => { m with items := xs })
def wPort (s : State) (f : RingPort → RingPort) : State := s.modPort 15 f
def rec0 : SlotRec := { slot := 2, mux := 0, phase := 0, use := 1, axis := 5, node := 3, lenWords := 8 }
def withRec (use : Nat) : Schedule := { scheduleDefault with records := [{ rec0 with use := use }] }
def wFq (s : State) (f : Fq → Fq) : State := s.modFq 7 f
def zf (f : FieldDie → FieldDie) : State := wDie z f
/-- The die runs. -/
def zd : State := zf (fun d => { d with running := true })
def env0 : TwinEnv := { lane := 1, crcOk := true, epoch := 3 }
/-- A chip of a twin pair that has heard epoch 3. -/
def zt (f : Twin → Twin) : State := wBoot (wTwin z (fun t => f { t with epoch := 3 })) (fun b => { b with twinPresent := true, booting := false })
def hm : HealthMsg := { healthy := true, synced := true, onMove := true, key := 0, engines := 255, hashes := [], serial := 0, flags := 0 }
def lr : LogRec := { pos := 1, cycle := 0, slot := 0, seq := 0, opcode := 0x0404, params := [], trim := none }
def jm : JoinMsg := { cycle := 5, logPos := 0, sec := 0, ns := 0, rate := 0, clockState := 0, tEpoch := 0, figures := [], params := [], moves := [], keys := [] }

/-- A schedule that fits, on a chip whose engine load leaves no room for it (R36). -/
theorem test_NetworkCommands_load :
    let s := (w0.setPar (0x04000120 + lineInst * 4096) 1).setPar (0x04000121 + lineInst * 4096) 1000000
    let t := s.takeUp c0
    let g := t.seg 0
    (t.segNamed 0 = true ∧ scheduleForm scheduleDefault = true) ∧ g.busy = false
      ∧ (if g.phase = .run then t.reloadOk 0 scheduleDefault
          else t.planned.layoutFits 0 scheduleDefault && t.planned.scheduleOk 0 scheduleDefault) = true
      ∧ ¬ t.engineLoad ≤ 7 * periodOf scheduleDefault.period ∧ Acts s c0 0x0702 5 := by
  refine ⟨⟨by decide +kernel, by decide +kernel⟩, by decide +kernel, by decide +kernel, by decide +kernel, by dsimp only [Acts, Takes]; decide +kernel⟩

/-! The words of engine instructions, field by field from Table ENG-11 (R161). -/

/-- A word whose field at bit lo holds v, for each (lo, v). -/
def word (fields : List (Nat × Nat)) : BitVec 64 := BitVec.ofNat 64 ((fields.map (fun x => x.2 * 2 ^ x.1)).sum)

/-- ADD X3, X1, X2 (format R). -/
theorem test_word_add : decodeEngine 0 (word [(58, 0x10), (53, 3), (48, 1), (43, 2)]) = some (exec (.ceAdd 0 3 1 2)) := rfl
/-- ADDI X3, X1, −1 (format I). -/
theorem test_word_addi : decodeEngine 0 (word [(58, 0x1E), (53, 3), (48, 1), (0, 0xFFFFFFFF)]) = some (exec (.ceAddi 0 3 1 0xFFFFFFFF)) := rfl
/-- LDQ X8, [A5]+O6 (format M). -/
theorem test_word_ldq : decodeEngine 2 (word [(58, 0x02), (53, 8), (50, 5), (49, 1), (46, 6)]) = some (exec (.ceLdq 2 8 5 true 6 .clean)) := rfl
/-- MVA of special register 0x12 to X7 (format S). -/
theorem test_word_mva : decodeEngine 1 (word [(58, 0x08), (57, 1), (52, 7), (44, 0x12)]) = some (exec (.ceMva 1 true 7 0x12)) := rfl
/-- MVS X4, ACC1, 40 with AUTO (format A). -/
theorem test_word_mvs : decodeEngine 0 (word [(58, 0x24), (56, 1), (52, 1), (36, 40), (31, 4)]) = some (exec (.ceMvs 0 4 1 true 40)) := rfl
/-- LOOP LC1 of 5 passes, the last at 0x123 (format C). -/
theorem test_word_loop : decodeEngine 0 (word [(58, 0x31), (57, 1), (32, 5), (0, 0x123)]) = some (exec (.ceLoop 0 1 false 0 5 0x123)) := rfl
/-- OP 0x00 and the reserved OP 0x38. -/
theorem test_word_illegal : decodeEngine 0 0 = none ∧ decodeEngine 0 (word [(58, 0x38)]) = none := ⟨rfl, rfl⟩

/-! Vectors of the standards that the spec names. -/

/-- RFC 3394 section 4.6: 256 bits of key data under a key of 256 bits. -/
theorem test_keyWrap :
    keyWrap ((List.range 32).map (BitVec.ofNat 8)) ((List.range 16).map (fun i => BitVec.ofNat 8 (0x11 * i)) ++ (List.range 16).map (BitVec.ofNat 8))
      = [0x28, 0xC9, 0xF4, 0x04, 0xC4, 0xB8, 0x10, 0xF4, 0xCB, 0xCC, 0xB3, 0x5C, 0xFB, 0x87, 0xF8, 0x26, 0x3F, 0x57, 0x86, 0xE2] ++
        [0xD8, 0x0E, 0xD3, 0x26, 0xCB, 0xC7, 0xF0, 0xE7, 0x1A, 0x99, 0xF4, 0x3B, 0xFB, 0x98, 0x8B, 0x9B, 0x7A, 0x02, 0xDD, 0x21] := by decide +kernel

/-- FIPS 180: SHA-256 of the three bytes a, b, c. -/
theorem test_sha256 : unle (sha256 [0x61, 0x62, 0x63]).reverse = 0xBA7816BF8F01CFEA414140DE5DAE2223B00361A396177A9CB410FF61F20015AD := by decide +kernel

/-- The CRC-32 of Ethernet and the CRC-32C over the nine digits (R52, R293). -/
theorem test_crcs :
    let digits : List Byte := [0x31, 0x32, 0x33, 0x34, 0x35, 0x36, 0x37, 0x38, 0x39]
    crc32 digits = 0xCBF43926 ∧ crc32c digits = 0xE3069283 := by decide +kernel

/-! WellFormed refuses, one term for each check. -/

def badFrame : RxFrame := { port := 0, bytes := zeros 1045, error := false, sfd := 0 }
theorem test_wf_frame : (Instr.fbkFrameReceive badFrame).wf = false := by decide +kernel
theorem test_wf_barrier : (Instr.fieldMUplinkReceive (zeros 31)).wf = false := by decide +kernel
theorem test_wf_log : (Instr.log env0 { lr with params := zeros 65536 }).wf = false := by decide +kernel
theorem test_wf_join : ∀ m ∈ [{ jm with sec := 281474976710656 }, { jm with ns := 1000000000 }, { jm with clockState := 4 }, { jm with keys := [zeros 32] },
    { jm with keys := List.replicate 5 (zeros 31) }], (Instr.joinBoundary env0 m).wf = false := by decide +kernel
theorem test_wf_sched : ∀ c ∈ [{ scheduleDefault with ver := 256 }, { scheduleDefault with period := 256 }, { scheduleDefault with staticSlots := 256 },
    { scheduleDefault with slotLen := 65536 }, { scheduleDefault with headSlots := 256 }, { scheduleDefault with minislots := 65536 },
    { scheduleDefault with minislotLen := 256 }, { scheduleDefault with guardLen := 256 }, { scheduleDefault with safWd := 256 },
    { scheduleDefault with wCode := 256 }, { scheduleDefault with records := [{ rec0 with slot := 256 }] },
    { scheduleDefault with records := [{ rec0 with mux := 256 }] }] ++ [{ scheduleDefault with records := [{ rec0 with phase := 256 }] },
    { scheduleDefault with records := [{ rec0 with use := 256 }] }, { scheduleDefault with records := [{ rec0 with axis := 65536 }] },
    { scheduleDefault with records := [{ rec0 with node := 256 }] }, { scheduleDefault with records := [{ rec0 with lenWords := 256 }] }],
    (Instr.netSchedLoad c0 0 c).wf = false := by decide +kernel
def bank0 : BankImage :=
  { readable := true, magic := 0, format := 0, part := 0, minRev := 0, keyHashOk := true, sigOk := true, sectionsOk := true
    imgSeq := 0, fwVer := 0, hashes := [], programs := [], constants := [], schedules := [], items := [], coefs := []
    segments := [], moves := [], safety := [], keys := [] }
theorem test_wf_image : ∀ b ∈ [{ bank0 with programs := List.replicate 8193 0 }, { bank0 with constants := List.replicate 4097 0 },
    { bank0 with keys := List.replicate 3 { gen := 0, wrapped := zeros 168 } }, { bank0 with keys := [{ gen := 4294967296, wrapped := zeros 168 }] },
    { bank0 with keys := [{ gen := 0, wrapped := zeros 167 }] }], (Instr.bootComplete true b bank0).wf = false := by decide +kernel
theorem test_wf_field : (Instr.fiSampleWindow false []).wf = false ∧ (Instr.readbackSample []).wf = false ∧ (Instr.heatTick [] { sram := 0, serdes := 0, twin := 0, sup := 0 }).wf = false := by decide +kernel
theorem test_wf_twin : (Instr.resync env0 0xFFFFF [0, 0]).wf = false
    ∧ (Instr.trigger env0 { sec := 0, ns := 1000000000 } 0).wf = false := by decide +kernel
theorem test_wf_rings : (Instr.sqTail 0 [zeros 257]).wf = false := by decide +kernel
theorem test_wf_packets : (Instr.udpDatagram 0 ⟨{ ip := 0, port := 0, vlan := 0 }, 0⟩ 0 false 0 (zeros 1473)).wf = false ∧ (Instr.icmpEcho 0 { vlan := 0, ip := 0 } (zeros 1473)).wf = false
    ∧ (Instr.commandPart c0 0 false false (zeros 1441)).wf = false := by decide +kernel
theorem test_wf_session : (Instr.sesHello .pcie 0 5 []).wf = false ∧ (Instr.sesProve c0 []).wf = false ∧ (Instr.sesKeySet c0 5 []).wf = false := by
  decide +kernel
theorem test_wf_parameters : (Instr.parGet c0 []).wf = false ∧ (Instr.parGet c0 (List.replicate 90 0)).wf = false := by decide +kernel
theorem test_wf_motion : (Instr.axDirect c0 0 0 (List.replicate 103 { apply := 0, r := 0, v := 0 })).wf = false ∧ (Instr.proSegWrite c0 0 []).wf = false
    ∧ (Instr.proSegWrite c0 0 (List.replicate 10 { w0 := 0, w1 := 0, w2 := 0, w3 := 0 })).wf = false
    ∧ (Instr.proGroupLinear c0 0 0 0 0 0 []).wf = false ∧ (Instr.proGroupLinear c0 0 0 0 0 0 (List.replicate 17 (0, 0))).wf = false
    ∧ (Instr.movAdd c0 []).wf = false ∧ (Instr.movAdd c0 (List.replicate 45 (mvE 2))).wf = false := by decide +kernel
theorem test_wf_device : (Instr.safParamLoad c0 (zeros 65536)).wf = false ∧ (Instr.arbBudgetSet c0 0 [0, 0]).wf = false
    ∧ (Instr.imgWrite c0 0 (zeros 65532)).wf = false := by decide +kernel

/-- Session 0 of a chip whose channels run and whose group 0 is in a state of Table SAF-2, with an edge of the reset input. -/
def wGrp (code : Nat) (ok : Bool) (edge : Option Int) : State :=
  wSaf w0 (fun x => { x with
    p := { x.p.setGroup 0 { x.p.group 0 with code := code } with ok := true, paramOk := ok, ackEdge := edge },
    h := { x.h.setGroup 0 { x.h.group 0 with code := code } with ok := true, paramOk := ok, ackEdge := edge } })

theorem maskZero : ∀ g : Nat, g < 32 → nbit (1 : BitVec 32).toNat g = true → g = 0 := by decide

/-- What the mask 1 names is group 0. -/
theorem ofMaskOne {P : Nat → Prop} (h : P 0) : ∀ g : Nat, g < 32 ∧ nbit (1 : BitVec 32).toNat g = true → P g := by
  rintro g ⟨hg, hb⟩
  obtain rfl := maskZero g hg hb
  exact h

/-- No demand source of group 0 stands (R311). -/
theorem noDemand {s : State} (h : s.demandActive .p 0 = false ∧ s.demandActive .h 0 = false
      ∧ (s.saf.p.group 0).lastDemand ≠ some s.cyc.cycle ∧ (s.saf.h.group 0).lastDemand ≠ some s.cyc.cycle) :
    ¬ ∃ g : Nat, (g < 32 ∧ nbit (1 : BitVec 32).toNat g = true) ∧ (s.demandActive .p g = true ∨ s.demandActive .h g = true
      ∨ (s.saf.p.group g).lastDemand = some s.cyc.cycle ∨ (s.saf.h.group g).lastDemand = some s.cyc.cycle) := by
  rintro ⟨g, ⟨hg, hb⟩, hd⟩
  obtain rfl := maskZero g hg hb
  obtain ⟨h1, h2, h3, h4⟩ := h
  rw [h1, h2] at hd
  simp_all

/-- SAF_ACK of group 0 (R311): outside STO; in STO under a demand; with no edge; with an edge. -/
theorem test_SafetyCommands_ack :
    (let s := wGrp 0 true none; let t := s.takeUp c0
     Acts s c0 0x0802 2
       ∧ ¬ ∀ g : Nat, g < 32 ∧ nbit (1 : BitVec 32).toNat g = true → (t.saf.p.group g).code = 2 ∧ (t.saf.h.group g).code = 2)
    ∧ (let s := wGrp 2 false none; let t := s.takeUp c0
       Acts s c0 0x0802 2
         ∧ (∀ g : Nat, g < 32 ∧ nbit (1 : BitVec 32).toNat g = true → (t.saf.p.group g).code = 2 ∧ (t.saf.h.group g).code = 2)
         ∧ ∃ g : Nat, (g < 32 ∧ nbit (1 : BitVec 32).toNat g = true) ∧ (t.demandActive .p g = true ∨ t.demandActive .h g = true
             ∨ (t.saf.p.group g).lastDemand = some t.cyc.cycle ∨ (t.saf.h.group g).lastDemand = some t.cyc.cycle))
    ∧ (∀ edge ∈ [none, some (0 : Int)], let s := wGrp 2 true edge; let t := s.takeUp c0
       Acts s c0 0x0802 2
         ∧ (∀ g : Nat, g < 32 ∧ nbit (1 : BitVec 32).toNat g = true → (t.saf.p.group g).code = 2 ∧ (t.saf.h.group g).code = 2)
         ∧ (¬ ∃ g : Nat, (g < 32 ∧ nbit (1 : BitVec 32).toNat g = true) ∧ (t.demandActive .p g = true ∨ t.demandActive .h g = true
             ∨ (t.saf.p.group g).lastDemand = some t.cyc.cycle ∨ (t.saf.h.group g).lastDemand = some t.cyc.cycle))
         ∧ t.ackEdgeOk = edge.isSome) := by
  refine ⟨⟨by dsimp only [Acts, Takes]; decide +kernel, fun h => absurd (h 0 (by decide)) (by decide +kernel)⟩,
    ⟨by dsimp only [Acts, Takes]; decide +kernel, ofMaskOne (by decide +kernel), 0, by decide, by decide +kernel⟩, ?_⟩
  intro edge he
  simp only [List.mem_cons, List.not_mem_nil, or_false] at he
  rcases he with rfl | rfl
  · exact ⟨by dsimp only [Acts, Takes]; decide +kernel, ofMaskOne (by decide +kernel), noDemand (by decide +kernel), by decide +kernel⟩
  · exact ⟨by dsimp only [Acts, Takes]; decide +kernel, ofMaskOne (by decide +kernel), noDemand (by decide +kernel), by decide +kernel⟩

/-- PAR_GET of a value there is, and of one there is not (R446). -/
theorem test_ParameterAccess_reads :
    (let ids : List (BitVec 32) := [0x04000102]
     Reads w0 c0 0x0301 1 ∧ 1 ≤ ids.length ∧ ids.length ≤ 89 ∧ ∀ j ∈ ids, (objOf j.toNat).isSome = true)
    ∧ (let ids : List (BitVec 32) := [0x04000102, 0]
       1 ≤ ids.length ∧ ids.length ≤ 89 ∧ ∃ j ∈ ids, objOf j.toNat = none)
    ∧ (w0.takeUp c0).session 0 = w0.session 0 ∧ (w0.session 0).source ≠ .pcie := by
  refine ⟨⟨by dsimp only [Reads, Takes]; decide +kernel, by decide, by decide, ?_⟩, ⟨by decide, by decide, 0, by simp, by decide +kernel⟩,
    by decide +kernel, by decide +kernel⟩
  intro j hj
  cases List.mem_singleton.1 hj
  decide +kernel

/-- No axis has left DISABLED: the log may be cleared (R457). -/
theorem test_DeviceCommands_clear :
    Local w0 c0 0x0103 5 ∧ ∀ a : Nat, (w0.takeUp c0).axState a = .disabled := by
  refine ⟨by dsimp only [Local, Takes]; decide +kernel, fun a => ?_⟩
  have h : (w0.takeUp c0).axes = State.reset.axes := by decide +kernel
  unfold State.axState State.axis
  rw [h]
  rfl

/-- The last pass of a loop with no loop round it that ends there (R164). -/
theorem test_EngineControlFlow_last :
    let x : Engine := { (z.engine 0) with loops := [{ lc := 1, first := 2, last := 9 }], pc := 9, lc := [(1, 1)] }
    let l : LoopRec := { lc := 1, first := 2, last := 9 }
    x.loops = l :: [] ∧ x.pc = l.last ∧ x.lcr l.lc.val = 1 ∧ ∀ (m : LoopRec) ms, ([] : List LoopRec) = m :: ms → x.pc ≠ m.last :=
  ⟨rfl, rfl, by decide +kernel, by intro m ms h; cases h⟩

/-- INT_STATUS bit 5 newly set: its message may go, or waits for the gap (R404). -/
theorem msiVector_zero (s : State) (i : Nat) (h : nbits s.host.bar0.msiMap.toNat (2 * i) 2 = 0) : s.msiVector i = 0 := by
  unfold State.msiVector
  rw [h]
  simp

theorem test_InterruptMessages_free :
    let s : State := { (wBar z (fun b => { b with intEnable := 0x3F, intCoal := 1000, msiLast := [(0, some 0)] })) with coreTicks := 1000000 }
    let b := s.host.bar0
    nbit b.intStatus.toNat 5 = false ∧ nbit b.intEnable.toNat 5 = true
      ∧ ∀ k, s.msiLast (s.msiVector 5) = some k → k + b.intCoal.toNat % 65536 * 1000 ≤ s.coreTicks := by
  refine ⟨by decide +kernel, by decide +kernel, fun k hk => ?_⟩
  rw [msiVector_zero _ _ (by decide +kernel)] at hk
  cases hk
  decide +kernel

theorem test_InterruptMessages_held :
    let s : State := wBar z (fun b => { b with intEnable := 0x3F, intCoal := 1000, msiLast := [(0, some 0)] })
    let b := s.host.bar0
    nbit b.intStatus.toNat 5 = false ∧ nbit b.intEnable.toNat 5 = true
      ∧ s.msiLast (s.msiVector 5) = some 0 ∧ s.coreTicks < 0 + b.intCoal.toNat % 65536 * 1000 := by
  refine ⟨by decide +kernel, by decide +kernel, ?_, by decide +kernel⟩
  rw [msiVector_zero _ _ (by decide +kernel)]
  rfl

/-- Nothing but a verdict `ok` meets what an accepted frame meets. -/
theorem notOk {v w : Verdict} (e : v = w) (hw : ∀ h pl r k d, w ≠ .ok h pl r k d) : ∀ h pl r k d, v ≠ .ok h pl r k d := by
  subst e; exact hw

theorem rxNotOk {v w : Rx} (e : v = w) (hw : ∀ h pl, w ≠ .ok h pl) : ∀ h pl, v ≠ .ok h pl := by
  subst e; exact hw

/-- A damaged frame is accepted in no slot (R54, R60). -/
theorem test_SlotFrames_refused :
    (∀ h pl r k d, (z.relay badF).judge badF 1 3 0 ≠ .ok h pl r k d)
    ∧ (∀ h pl r k d, ((z.relay badF).judge badF 2 4 0).content iodFits ≠ .ok h pl r k d)
    ∧ (∀ h pl r k d, ((z.relay badF).judge badF 4 11 0).content supFits ≠ .ok h pl r k d) := by
  refine ⟨notOk (w := .bad .abort) (by decide +kernel) ?_, notOk (w := .bad .abort) (by decide +kernel) ?_,
    notOk (w := .bad .abort) (by decide +kernel) ?_⟩ <;> (intro h pl r k d c; cases c)

def supBad : RxFrame :=
  { fr 1 { hd 11 4 with src := 3, slotN := 2 } ([2] ++ zeros 15) with sfd := ((584 + 8 * 2 * 96 + 56) * 10) }

/-- A SUP frame of another OP in the node's SUP slot (R81). -/
theorem test_SlotFrames_otherOp :
    ((zr (fun g => { g with phase := .run, sched := withRec 4 })).relay supBad).judge supBad 4 11 0
      = .ok { hd 11 4 with src := 3, slotN := 2 } ([2] ++ zeros 15) { rec0 with use := 4 } 0 0 := by decide +kernel

def downErr : RxFrame := { fr 1 (hd 5 7) (zeros 28) with error := true }
def zTap : State := wSaf (zr (fun g => g)) (fun f => { f with injected := [(0, (fr 1 (hd 5 7) (zeros 28)).bytes)] })

/-- A damaged downlink SAF frame comes back (R295), with nothing to compare and with the frame that was sent. -/
theorem test_SafetyFrames_damaged :
    (∀ s ∈ [zr (fun g => g), zTap], (parseHdr downErr.bytes).kind = tSaf ∧ (parseHdr downErr.bytes).len = 7 ∧ (parseHdr downErr.bytes).src = 0
      ∧ (s.relay downErr).rx downErr ≠ .off ∧ ∀ h pl, (s.relay downErr).rx downErr ≠ .ok h pl)
    ∧ sget (fun _ => ([] : List Byte)) ((zr (fun g => g)).relay downErr).saf.injected 0 = []
    ∧ (parseHdr downErr.bytes).loop = false ∧ (zTap.relay downErr).twin.standby = false
    ∧ sget (fun _ => ([] : List Byte)) (zTap.relay downErr).saf.injected 0 ≠ [] := by
  refine ⟨?_, by decide +kernel, by decide +kernel, by decide +kernel, by decide +kernel⟩
  intro s hs
  simp only [List.mem_cons, List.not_mem_nil, or_false] at hs
  rcases hs with rfl | rfl <;>
    exact ⟨by decide +kernel, by decide +kernel, by decide +kernel, by decide +kernel,
      rxNotOk (w := .abort) (by decide +kernel) (by intro h pl c; cases c)⟩

def upPl : List Byte := [5, 0, 0, 0, 0, 0, 0, 0, 0, 9, 0, 7]
def upHd : Hdr := { hd 5 4 with src := 3, slotN := 2 }
/-- Node 3's uplink in its slot, with and without CRC_U. -/
def upFr (pl : List Byte) (error : Bool) : RxFrame := { fr 1 upHd pl with error := error, sfd := ((584 + 8 * 2 * 96 + 56) * 10) }
def zup : State := zr (fun g => { g with phase := .run, sched := withRec 3 })

/-- A damaged uplink in an axis's SAF slot; a valid one; one whose CRC_U does not fit (R308). -/
theorem test_SafetyFrames_uplink :
    (let f := upFr (upPl ++ be 4 (crc32c upPl)) true
     let u := zup.relay f
     let hd := parseHdr f.bytes
     schedOwner (u.sched 0) hd.slotN (u.rebuildCycle hd.cyc) = some { rec0 with use := 3 } ∧ hd.src ≠ 0 ∧ ∀ h pl, u.rx f ≠ .ok h pl)
    ∧ (let pl := upPl ++ be 4 (crc32c upPl)
       let f := upFr pl false
       let u := zup.relay f
       u.judge f useSaf tSaf 0 = .ok upHd pl { rec0 with use := 3 } 0 0
         ∧ ∀ ch ∈ [Chan.p, .h], u.judgeUplink ch 0 { rec0 with use := 3 } 0 pl = .valid)
    ∧ (let pl := [5] ++ zeros 15
       let f := upFr pl false
       let u := zup.relay f
       u.judge f useSaf tSaf 0 = .ok upHd pl { rec0 with use := 3 } 0 0 ∧ u.judgeUplink .p 0 { rec0 with use := 3 } 0 pl = .crc) := by
  refine ⟨⟨by decide +kernel, by decide +kernel, rxNotOk (w := .abort) (by decide +kernel) (by intro h pl c; cases c)⟩,
    ⟨by decide +kernel, ?_⟩, by decide +kernel, by decide +kernel⟩
  intro ch hc
  simp only [List.mem_cons, List.not_mem_nil, or_false] at hc
  rcases hc with rfl | rfl <;> decide +kernel

/-- No SS1 time has begun, and no pair disagrees (R305, R302). -/
theorem test_SafetyMonitors_quiet :
    (∀ t : Int, ¬ ((((z.chan .p).group 0).ss1Start = some t ∧ ((z.chan .p).group 0).code = 1
        ∧ t + (z.parN 0x08100005 0 : Int) * 1000000 ≤ z.chTime .p)))
    ∧ (∀ t : Nat, ¬ (((z.chan .p).pair 0).disagreeSince = some t ∧ z.pairUsed 0 = true ∧ ((z.chan .p).pair 0).latch = false
        ∧ t + z.parN 0x08300004 0 * 1000000 < z.coreTicks)) :=
  ⟨fun _ h => absurd h.1 (by have e : ((z.chan .p).group 0).ss1Start = none := by decide +kernel
                             rw [e]; simp),
   fun _ h => absurd h.1 (by have e : ((z.chan .p).pair 0).disagreeSince = none := by decide +kernel
                             rw [e]; simp)⟩

/-- The state of an outcome that is a next state. -/
def after (o : Host.Outcome State Fault Refusal) : State :=
  match o with
  | .next t => t
  | _ => z

def isNext (o : Host.Outcome State Fault Refusal) : Bool :=
  match o with
  | .next _ => true
  | _ => false

theorem next_after {o : Host.Outcome State Fault Refusal} (h : isNext o = true) : o = .next (after o) := by
  cases o <;> first | rfl | cases h

/-- A claim of a key below the own one, and of one at or above it (R117): the own serial is any number of 48 bits. -/
theorem ownKey_black (s : State) (h : s.isBlack = true) : 281474976710656 ≤ s.ownKey ∧ s.ownKey < 562949953421312 := by
  have := Config.serial.isLt
  unfold State.ownKey claimKey
  rw [h]
  simp only [b2n, if_true]
  omega

theorem ownKey_lt (s : State) : s.ownKey < 562949953421312 := by
  have := Config.serial.isLt
  unfold State.ownKey claimKey b2n
  split <;> omega

def zListen : State := wBoot (wOpen z (fun o => { o with phase := .listen })) (fun b => { b with twinPresent := true, twinRole := true })
def clmPl (k : Byte) : List Byte := List.replicate 8 k ++ zeros 8

theorem test_OpeningSteps_claims :
    (let f := fr 0 (hd 8 4) (clmPl 0)
     (zListen.relay f).rx f = .ok (hd 8 4) (clmPl 0) ∧ (hd 8 4).kind = 8 ∧ zListen.opening.phase = .listen
       ∧ field (clmPl 0) 0 8 % 562949953421312 < zListen.ownKey)
    ∧ (let f := fr 0 (hd 8 4) (clmPl 0xFF)
       (z.relay f).rx f = .ok (hd 8 4) (clmPl 0xFF) ∧ z.ownKey ≤ field (clmPl 0xFF) 0 8 % 562949953421312) := by
  refine ⟨⟨by decide +kernel, by decide, by decide, ?_⟩, by decide +kernel, ?_⟩
  · have h := ownKey_black zListen (by decide +kernel)
    have e : field (clmPl 0) 0 8 % 562949953421312 = 0 := by decide +kernel
    omega
  · have h := ownKey_lt z
    have e : field (clmPl 0xFF) 0 8 % 562949953421312 = 562949953421311 := by decide +kernel
    omega

def csfPl (k : Byte) : List Byte := List.replicate 48 k

/-- A CSF of another chip's serial reaches the chip on move (R366), whatever the own serial is; and a damaged frame. -/
theorem test_HandOver_foreign :
    (∃ k : Byte, let s := wTwin z (fun t => { t with onMove := true }); let f := fr 0 (hd 1 12) (csfPl k)
      (s.relay f).rx f = .ok (hd 1 12) (csfPl k) ∧ (hd 1 12).kind = tCsf ∧ (s.relay f).twin.onMove = true
        ∧ field (csfPl k) 40 6 ≠ Config.serial.toNat)
    ∧ (∀ h pl, (z.relay badF).rx badF ≠ .ok h pl) := by
  refine ⟨?_, fun h pl c => ?_⟩
  · rcases Nat.eq_zero_or_pos Config.serial.toNat with h | h
    · refine ⟨1, by decide +kernel, by decide, by decide +kernel, ?_⟩
      have e : field (csfPl 1) 40 6 = 1103823438081 := by decide +kernel
      omega
    · refine ⟨0, by decide +kernel, by decide, by decide +kernel, ?_⟩
      have e : field (csfPl 0) 40 6 = 0 := by decide +kernel
      omega
  · have e : (z.relay badF).rx badF = .abort := by decide +kernel
    rw [e] at c
    cases c

def gGood : PvtSeg := { w0 := 0xFFFFFF0000, w1 := 0, w2 := 0, w3 := 0xFFFF00000000 }
def wRunning : State := wProf w0 (fun p => { p with running := true, seg := 5 })

/-- PRO_SEG_WRITE of a segment that a running profile uses, and of a free one (R217, R218). -/
theorem test_SegmentPool_use :
    (let t := wRunning.takeUp c0
     Acts wRunning c0 0x0501 2 ∧ (∀ g ∈ [gGood], ¬ ((pvtVal g).dur < t.period ∨ (((pvtVal g).next = 0xFFFF ∨ (pvtVal g).hold = true) ∧ (pvtVal g).vEnd ≠ 0)))
       ∧ ∃ a i, a < 256 ∧ i < 1 ∧ (t.axis a).prof.running = true ∧ (5 + i = (t.axis a).prof.seg ∨ 5 + i = (t.segAt (t.axis a).prof.seg).next))
    ∧ (let t := w0.takeUp c0
       Acts w0 c0 0x0501 2 ∧ (∀ g ∈ [gGood], ¬ ((pvtVal g).dur < t.period ∨ (((pvtVal g).next = 0xFFFF ∨ (pvtVal g).hold = true) ∧ (pvtVal g).vEnd ≠ 0)))
       ∧ ¬ ∃ a i, a < 256 ∧ i < 1 ∧ (t.axis a).prof.running = true ∧ (5 + i = (t.axis a).prof.seg ∨ 5 + i = (t.segAt (t.axis a).prof.seg).next)) := by
  refine ⟨⟨by dsimp only [Acts, Takes]; decide +kernel, ?_, 0, 0, by decide, by decide, by decide +kernel, by decide +kernel⟩,
    by dsimp only [Acts, Takes]; decide +kernel, ?_, ?_⟩
  · intro g hg
    cases List.mem_singleton.1 hg
    decide +kernel
  · intro g hg
    cases List.mem_singleton.1 hg
    decide +kernel
  · rintro ⟨a, i, ha, hi, hr, _⟩
    have h : (w0.takeUp c0).axes = State.reset.axes := by decide +kernel
    have e : ((w0.takeUp c0).axis a).prof.running = false := by
      unfold State.axis
      rw [h]
      rfl
    rw [e] at hr
    cases hr

/-- The writable part of the scratch of any task (Table ENG-4). -/
theorem test_EngineMemory_scratch : z.writable (.axis 0) 0 = true ∧ (0 : Nat) < 0x20100 := by decide +kernel

theorem test_EnableRefusals : z.axState 0 = .disabled ∧ (wIn z .ready).axState 1 = .disabled := by decide +kernel

/-- A chip of a ring whose segment runs and waits for one node, with a pending schedule that names it (R116, R119). -/
def zAdmit : State := wSeg (wTwin (w0.setPar 0x07300002 1) (fun t => { t with onMove := true })) (fun g => { g with
  phase := .run, admitReq := [{ serial := 0, kind := 0, axes := 0, staticBytes := 0 }], pending := some (withRec 1) })

theorem test_NetworkCommands_admit :
    let t := zAdmit.takeUp c0
    let g := t.seg 0
    t.segNamed 0 = true ∧ (g.node 3).hopA = 0 ∧ g.phase = .run ∧ g.admitReq.length = 1 ∧ g.busy = false
      ∧ (∃ p r, g.pending = some p ∧ r ∈ p.records ∧ r.node = 3) ∧ Acts zAdmit c0 0x0704 5 :=
  ⟨by decide +kernel, by decide +kernel, by decide +kernel, by decide +kernel, by decide +kernel,
    ⟨withRec 1, { rec0 with use := 1 }, by decide +kernel, by decide +kernel, by decide⟩, by dsimp only [Acts, Takes]; decide +kernel⟩

/-- Engine 7 is in a program; the engines above it are none (log 168). -/
def zRun (prog : Sparse (BitVec 64)) : State :=
  State.setEngine { z with coreTicks := 100 } 7 { (z.engine 7) with task := some rr, prog := prog }

/-- Idle states of no engine; of engine 7 at an ADD; at the illegal OP 0x00. -/
theorem test_IdleStep :
    (z.pending = [] ∧ z.time.frac < 4294967296 ∧ z.time.ns < 1000000000 ∧ z.time.sec < 281474976710656
      ∧ -2147483 ≤ z.time.rate ∧ z.time.rate ≤ 2147483 ∧ ∀ e, e < 8 → z.idleTick.issues e = false)
    ∧ (∀ prog ∈ [[], [(0, 0x40C4400000000000)]], let s := zRun prog
       s.pending = [] ∧ (∀ i, i < 8 → (s.idleTick.issues i = true ↔ i = 7))
         ∧ engBits (s.idleTick.programWord 7) 58 6 = (if prog = [] then 0 else 0x10))
    ∧ (∀ (u : State) (i : Nat), 7 < i → i < 8 → u.issues i = false) := by
  refine ⟨by decide +kernel, by decide +kernel, fun _ _ h1 h2 => absurd h1 (by omega)⟩

def wChal : State := wSes w0 (fun x => { x with phase := .challenged })

/-- SES_PROVE opens a session (R431, R438). -/
theorem test_SessionsOpen :
    let c : Instr := .sesProve c0 (hmac ((wChal.takeUp c0).roleKey 5) [])
    exec c wChal = .next (after (exec c wChal)) ∧ (wChal.session 0).phase ≠ .opened ∧ ((after (exec c wChal)).session 0).phase = .opened :=
  ⟨next_after (by decide +kernel), by decide +kernel, by decide +kernel⟩

/-- A chip in Endgame mode that takes a command other than PORST_N, and one with an event that waits for its number. -/
theorem test_Invariants_premises :
    (let s := wSaf z (fun f => { f with endgame := some { entry := 0, next := 0, v0 := [], confirmed := [], dropped := false } })
     exec .islandSeqReport s = .next (after (exec .islandSeqReport s)) ∧ s.saf.endgame ≠ none)
    ∧ (State.reset.memWf = true ∧ State.reset.storesWf = true ∧ step State.reset = .next (after (step State.reset)))
    ∧ State.reset.host.gathered = none := by
  exact ⟨⟨next_after (by decide +kernel), by decide +kernel⟩, ⟨by decide +kernel, by decide +kernel, next_after (by decide +kernel)⟩, by decide +kernel⟩

/-- A command of session 0 with AT_BOUNDARY. -/
def cB : CmdCtx := { c0 with atBoundary := true }
def wHeld (s : State) : State := wHost s (fun h => { h with boundary := [(cB, .devInfo cB)] })

/-- DEV_INFO waits while cycles run, and at the boundary it executes and is answered, or its session has closed (R418). -/
theorem test_CommandsWaitForBoundary :
    (AtBoundary cB (.devInfo cB) ∧ (wCyc w0 (fun x => { x with running := true })).waitsBoundary cB = true)
    ∧ (let t := wHost (wHeld w0) (fun h => { h with boundary := [], atBoundary := true })
       (wHeld w0).host.boundary = [(cB, .devInfo cB)] ∧ ((wHeld w0).session cB.slot.val).phase = .opened
         ∧ exec (.devInfo cB) t = .next (after (exec (.devInfo cB) t)) ∧ ((wHeld w0).takeBoundary.session 0).replies.length = 1)
    ∧ (wHeld z).host.boundary = [(cB, .devInfo cB)] ∧ ¬ ((wHeld z).session cB.slot.val).phase = .opened :=
  ⟨⟨rfl, by decide +kernel⟩, ⟨rfl, by decide +kernel, next_after (by decide +kernel), by decide +kernel⟩, rfl, by decide +kernel⟩

def tLine : ReadyTask := { owner := .line, cycle := 0, sample := 0, isNew := true, win := [] }

/-- An engine free to start the line task (R19). -/
theorem test_TasksStartInOrder :
    let s := wEng (z.setEngine 0 { (z.engine 0) with inService := true }) (fun e => { e with ready := [tLine] })
    let x := s.engine 0
    (x.inService = true ∧ x.task = none ∧ x.failed = false ∧ ∀ d, x.testDue = some d → d ≤ s.coreTicks)
      ∧ tLine ∈ s.eng.ready ∧ s.mayStart tLine = true := by
  refine ⟨⟨by decide +kernel, by decide +kernel, by decide +kernel, ?_⟩, by decide +kernel, by decide +kernel⟩
  intro d h
  cases h

/-! One step each; the results are worked from the spec's tables by hand. -/

/-- Engine 0 runs rr with two X registers. -/
def zx (a b : Word48) : State := ze rr (fun x => { x with x := [(1, a), (2, b)] })
def e0 (i : Instr) (s : State) : Engine := (after (exec i s)).engine 0

/-- 2^47 − 1 + 1 wraps, and sets N and V (Tables ENG-2 and ENG-12). -/
theorem test_add_wraps : let y := e0 (.ceAdd 0 3 1 2) (zx 0x7FFFFFFFFFFF 1)
    y.xr 3 = 0x800000000000 ∧ y.flag 0 = false ∧ y.flag 1 = true ∧ y.flag 2 = true ∧ y.pc = 1 := by decide +kernel
/-- ADDS holds the largest number. -/
theorem test_adds_saturates : let y := e0 (.ceAdds 0 1 1 2) (zx 0x7FFFFFFFFFFF 1)
    y.xr 1 = 0x7FFFFFFFFFFF ∧ y.flag 2 = true := by decide +kernel
/-- −2^47 − 1 saturates at −2^47. -/
theorem test_subs_saturates : (e0 (.ceSubs 0 3 1 2) (zx 0x800000000000 1)).xr 3 = 0x800000000000 := by decide +kernel
/-- An arithmetic shift keeps the sign. -/
theorem test_asr_sign : (e0 (.ceAsr 0 3 1 4) (zx 0xFFFFFFFFFFF0 0)).xr 3 = 0xFFFFFFFFFFFF := by decide +kernel
/-- A frame to a port whose PORT_MODE is off is not taken (R44). -/
theorem test_port_off : ((z.setPar 0x07000001 0).relay badF).rx badF = .off := by decide +kernel
/-- The wire form of a header comes back (Table FRM-3). -/
theorem test_header : let h := { hd 3 8 with src := 5, slotN := 9, cyc := 0xFEDCBA98, age := 3 }
    parseHdr (sealFrame h (zeros 32)) = h := by decide +kernel
/-- With nothing placed the block idles from reset, and an outside command in front of the queue runs (log 1). -/
theorem test_step_front : (after (step { z with pending := [.porstN false false { testEn := false, bootsel := 0 }] })).pending = [] := by decide +kernel

/-! What the hypotheses of each obligation's clauses are met by. -/

theorem test_EngineWrappingSums :
    (let s : State := (ze rr id);
      let e : EngIx := 0;
      let r : Running := rr;
      Runs s e.val r) := by
  dsimp only [Takes, Acts, ActsExpert, Follows, Reads, Local, Runs]
  decide +kernel

theorem test_EngineSaturatingResults :
    (let s : State := (ze rr id);
      let e : EngIx := 0;
      let r : Running := rr;
      Runs s e.val r) ∧
    (let s : State := (ze rr id);
      let e : EngIx := 0;
      let r : Running := rr;
      let sh : Fin 64 := 47;
      Runs s e.val r ∧ sh.val ≤ 47) ∧
    (let s : State := (ze rr id);
      let e : EngIx := 0;
      let r : Running := rr;
      let sh : Fin 64 := 48;
      Runs s e.val r ∧ 47 < sh.val) := by
  refine ⟨?_, ?_, ?_⟩ <;> dsimp only [Takes, Acts, ActsExpert, Follows, Reads, Local, Runs] <;> decide +kernel

theorem test_EngineMovesLogicAndCompares :
    (let s : State := (ze rr id);
      let e : EngIx := 0;
      let r : Running := rr;
      Runs s e.val r) ∧
    (let s : State := (ze rr id);
      let e : EngIx := 0;
      let r : Running := rr;
      let sh : Fin 64 := 47;
      Runs s e.val r ∧ sh.val ≤ 47) ∧
    (let s : State := (ze rr id);
      let e : EngIx := 0;
      let r : Running := rr;
      let sh : Fin 64 := 48;
      Runs s e.val r ∧ 47 < sh.val) ∧
    (let s : State := (ze rr (fun x => { x with x := [(1, 5), (2, 2)] }));
      let e : EngIx := 0;
      let r : Running := rr;
      let b : Fin 32 := 2;
      let x := s.engine e.val;
      let w := x.xr b.val;
      Runs s e.val r ∧ 2 ≤ w.toInt) ∧
    (let s : State := (ze rr id);
      let e : EngIx := 0;
      let r : Running := rr;
      let b : Fin 32 := 0;
      let x := s.engine e.val;
      let w := x.xr b.val;
      Runs s e.val r ∧ w.toInt < 2) := by
  refine ⟨?_, ?_, ?_, ?_, ?_⟩ <;> dsimp only [Takes, Acts, ActsExpert, Follows, Reads, Local, Runs] <;> decide +kernel

theorem test_AccumulatorHoldsTrueSum :
    (let c : Acc := ({ w := 3, reg := 7 } : Acc);
      c.w.natAbs ≤ 3) ∧
    (let ps : List (Word48 × Word48 × Bool) := [(5, 7, false), (3, 2, true)];
      let c : Acc := ({ w := 3, reg := 7 } : Acc);
      let d := ps.foldl (fun (a : Acc) p => a.mac false p.2.2 p.1 p.2.1) c;
      c.w.natAbs ≤ 3 ∧ d.lost = false) := by
  refine ⟨?_, ?_⟩ <;> dsimp only [Takes, Acts, ActsExpert, Follows, Reads, Local, Runs] <;> decide +kernel

theorem test_EngineAccumulatorWrites :
    (let s : State := (ze rr id);
      let e : EngIx := 0;
      let r : Running := rr;
      Runs s e.val r) := by
  dsimp only [Takes, Acts, ActsExpert, Follows, Reads, Local, Runs]
  decide +kernel

theorem test_AccumulatorMoveRows :
    (let c : Acc := { w := 1, lost := true, lostUp := true };
      let n : Nat := 63;
      n ≤ 63 ∧ c.lost = true) ∧
    (let c : Acc := { w := -1 };
      let n : Nat := 63;
      n ≤ 63 ∧ c.lost = false ∧ c.w ≠ 0) ∧
    (let c : Acc := { reg := 5 };
      let n : Nat := 63;
      let rounded := fun (k : Nat) => if k = 0 then c.reg.toInt else (c.reg.toInt + 2 ^ (k - 1)) / 2 ^ k;
      n ≤ 63 ∧ c.lost = false ∧ c.w = 0 ∧ outside (rounded n) = false) ∧
    (let c : Acc := { reg := BitVec.ofInt 104 (2 ^ 60) };
      let n : Nat := 1;
      let auto : Bool := false;
      let rounded := fun (k : Nat) => if k = 0 then c.reg.toInt else (c.reg.toInt + 2 ^ (k - 1)) / 2 ^ k;
      n ≤ 63 ∧ c.lost = false ∧ c.w = 0 ∧ outside (rounded n) = true ∧ auto = false) ∧
    (let c : Acc := { reg := BitVec.ofInt 104 (2 ^ 60) };
      let n : Nat := 1;
      let auto : Bool := true;
      let rounded := fun (k : Nat) => if k = 0 then c.reg.toInt else (c.reg.toInt + 2 ^ (k - 1)) / 2 ^ k;
      n ≤ 63 ∧ c.lost = false ∧ c.w = 0 ∧ outside (rounded n) = true ∧ auto = true) ∧
    (let c : Acc := { reg := BitVec.ofInt 104 (2 ^ 60) };
      let n : Nat := 1;
      let auto : Bool := true;
      let k := 0;
      let rounded := fun (k : Nat) => if k = 0 then c.reg.toInt else (c.reg.toInt + 2 ^ (k - 1)) / 2 ^ k;
      let o := c.move n auto;
      n ≤ 63 ∧ c.lost = false ∧ c.w = 0 ∧ outside (rounded n) = true ∧ auto = true ∧ k < o.scl) := by
  refine ⟨?_, ?_, ?_, ?_, ?_, ?_⟩ <;> dsimp only [Takes, Acts, ActsExpert, Follows, Reads, Local, Runs] <;> decide +kernel

theorem test_EngineAccumulatorMoves :
    (let s : State := (ze rr id);
      let e : EngIx := 0;
      let r : Running := rr;
      Runs s e.val r) ∧
    (let s : State := (ze rr id);
      let e : EngIx := 0;
      let r : Running := rr;
      let d : Fin 32 := 28;
      Runs s e.val r ∧ d.val % 4 = 0) ∧
    (let s : State := (ze rr id);
      let e : EngIx := 0;
      let r : Running := rr;
      let d : Fin 32 := 29;
      Runs s e.val r ∧ d.val % 4 ≠ 0) := by
  refine ⟨?_, ?_, ?_⟩ <;> dsimp only [Takes, Acts, ActsExpert, Follows, Reads, Local, Runs] <;> decide +kernel

theorem test_EngineLoads :
    (let s : State := (ze rr id);
      let e : EngIx := 0;
      let r : Running := rr;
      let a : Fin 8 := 0;
      let ecc : Ecc := .clean;
      let x := s.engine e.val;
      let addr := (x.ar a.val).toNat;
      let word := fun (i : Nat) => s.loadWord x r.owner ((addr + i) % 1048576);
      Runs s e.val r ∧ (word 0).isSome = true ∧ ecc ≠ .double) ∧
    (let s : State := (ze rr id);
      let e : EngIx := 0;
      let r : Running := rr;
      let a : Fin 8 := 0;
      let ecc : Ecc := .double;
      let x := s.engine e.val;
      let addr := (x.ar a.val).toNat;
      let word := fun (i : Nat) => s.loadWord x r.owner ((addr + i) % 1048576);
      Runs s e.val r ∧ (word 0).isSome = true ∧ ecc = .double) ∧
    (let s : State := (ze rr (fun x => { x with a := [(0, 0x12000)] }));
      let e : EngIx := 0;
      let r : Running := rr;
      let a : Fin 8 := 0;
      let x := s.engine e.val;
      let addr := (x.ar a.val).toNat;
      let word := fun (i : Nat) => s.loadWord x r.owner ((addr + i) % 1048576);
      Runs s e.val r ∧ word 0 = none) ∧
    (let s : State := (ze rr id);
      let e : EngIx := 0;
      let r : Running := rr;
      let d : Fin 32 := 28;
      let a : Fin 8 := 0;
      let ecc : Ecc := .clean;
      let x := s.engine e.val;
      let addr := (x.ar a.val).toNat;
      let word := fun (i : Nat) => s.loadWord x r.owner ((addr + i) % 1048576);
      Runs s e.val r ∧ d.val % 4 = 0 ∧ ((∀ i, i < 4 → (word i).isSome = true)) ∧ ecc ≠ .double) ∧
    (let s : State := (ze rr id);
      let e : EngIx := 0;
      let r : Running := rr;
      let d : Fin 32 := 28;
      let a : Fin 8 := 0;
      let ecc : Ecc := .double;
      let x := s.engine e.val;
      let addr := (x.ar a.val).toNat;
      let word := fun (i : Nat) => s.loadWord x r.owner ((addr + i) % 1048576);
      Runs s e.val r ∧ d.val % 4 = 0 ∧ ((∀ i, i < 4 → (word i).isSome = true)) ∧ ecc = .double) ∧
    (let s : State := (ze rr (fun x => { x with a := [(0, 0x12000)] }));
      let e : EngIx := 0;
      let r : Running := rr;
      let d : Fin 32 := 28;
      let a : Fin 8 := 0;
      let x := s.engine e.val;
      let addr := (x.ar a.val).toNat;
      let word := fun (i : Nat) => s.loadWord x r.owner ((addr + i) % 1048576);
      Runs s e.val r ∧ d.val % 4 = 0 ∧ ((∃ i, i < 4 ∧ word i = none))) ∧
    (let s : State := (ze rr id);
      let e : EngIx := 0;
      let r : Running := rr;
      let d : Fin 32 := 29;
      Runs s e.val r ∧ d.val % 4 ≠ 0) := by
  refine ⟨?_, ?_, ?_, ?_, ?_, ?_, ?_⟩ <;> dsimp only [Takes, Acts, ActsExpert, Follows, Reads, Local, Runs] <;> decide +kernel

theorem test_EngineStores :
    (let s : State := (ze rr id);
      let e : EngIx := 0;
      let r : Running := rr;
      let a : Fin 8 := 0;
      let x := s.engine e.val;
      let addr := (x.ar a.val).toNat;
      Runs s e.val r ∧ s.writable r.owner addr = true) ∧
    (let s : State := (ze rr (fun x => { x with a := [(0, 0xFFFFF)] }));
      let e : EngIx := 0;
      let r : Running := rr;
      let a : Fin 8 := 0;
      let x := s.engine e.val;
      let addr := (x.ar a.val).toNat;
      Runs s e.val r ∧ s.writable r.owner addr = false) ∧
    (let s : State := (ze rr id);
      let e : EngIx := 0;
      let r : Running := rr;
      let d : Fin 32 := 28;
      let a : Fin 8 := 0;
      let x := s.engine e.val;
      let addr := (x.ar a.val).toNat;
      let at_ := fun (i : Nat) => (addr + i) % 1048576;
      Runs s e.val r ∧ d.val % 4 = 0 ∧ ((∀ i, i < 4 → s.writable r.owner (at_ i) = true))) ∧
    (let s : State := (ze rr (fun x => { x with a := [(0, 0xFFFFF)] }));
      let e : EngIx := 0;
      let r : Running := rr;
      let d : Fin 32 := 28;
      let a : Fin 8 := 0;
      let x := s.engine e.val;
      let addr := (x.ar a.val).toNat;
      let at_ := fun (i : Nat) => (addr + i) % 1048576;
      Runs s e.val r ∧ d.val % 4 = 0 ∧ ((∃ i, i < 4 ∧ s.writable r.owner (at_ i) = false))) ∧
    (let s : State := (ze rr id);
      let e : EngIx := 0;
      let r : Running := rr;
      let d : Fin 32 := 29;
      Runs s e.val r ∧ d.val % 4 ≠ 0) := by
  refine ⟨?_, ?_, ?_, ?_, ?_⟩ <;> dsimp only [Takes, Acts, ActsExpert, Follows, Reads, Local, Runs] <;> decide +kernel

theorem test_LoadTakesNewestStore :
    (let s : State := z;
      let x : Engine := (z.engine 0);
      let o : Owner := .line;
      let addr : Nat := 5;
      let newer : List (Nat × Word48) := [(7, 3)];
      ((∀ w ∈ newer, w.1 ≠ addr)) ∧ (s.wordAt x o addr).isSome = true) ∧
    (let s : State := z;
      let x : Engine := (z.engine 0);
      let o : Owner := .line;
      let addr : Nat := 5;
      let older : List (Nat × Word48) := [(6, 2)];
      let newer : List (Nat × Word48) := [(7, 3)];
      ((∀ w ∈ newer, w.1 ≠ addr)) ∧ (s.wordAt x o addr).isSome = true ∧ ((∀ w ∈ older, w.1 ≠ addr))) := by
  refine ⟨?_, ?_⟩ <;> dsimp only [Takes, Acts, ActsExpert, Follows, Reads, Local, Runs] <;> decide +kernel

theorem test_SpecialRegisterWidths :
    (let n : Nat := 7;
      n < 8) ∧
    (let n : Nat := 15;
      8 ≤ n ∧ n < 16) ∧
    (let n : Nat := 17;
      (n = 16 ∨ n = 17)) ∧
    (let n : Nat := 23;
      20 ≤ n ∧ n ≤ 23) ∧
    (let n : Nat := 24;
      n = 24) ∧
    (let n : Nat := 31;
      28 ≤ n ∧ n ≤ 31) ∧
    (let n : Nat := 32;
      (n = 18 ∨ n = 19 ∨ (25 ≤ n ∧ n ≤ 27) ∨ 32 ≤ n)) ∧
    (let x : Engine := (z.engine 0);
      let n : Nat := 7;
      let v : Word48 := 0xFFFFFFFFFFFF;
      let y := (((z.engine 0).writeSpr 7 0xFFFFFFFFFFFF).getD {});
      x.writeSpr n v = some y) := by
  refine ⟨?_, ?_, ?_, ?_, ?_, ?_, ?_, ?_⟩ <;> dsimp only [Takes, Acts, ActsExpert, Follows, Reads, Local, Runs] <;> decide +kernel

theorem test_EngineSpecialMoves :
    (let s : State := (ze rr id);
      let e : EngIx := 0;
      let r : Running := rr;
      Runs s e.val r) ∧
    (let s : State := (ze rr id);
      let e : EngIx := 0;
      let r : Running := rr;
      let n : BitVec 8 := 7;
      let imm : BitVec 32 := 9;
      let y := ((((ze rr id).engine 0).writeSpr 7 9).getD {});
      let x := s.engine e.val;
      Runs s e.val r ∧ x.writeSpr n.toNat (imm.setWidth 48) = some y) ∧
    (let s : State := (ze rr id);
      let e : EngIx := 0;
      let r : Running := rr;
      let n : BitVec 8 := 31;
      let imm : BitVec 32 := 9;
      let x := s.engine e.val;
      Runs s e.val r ∧ x.writeSpr n.toNat (imm.setWidth 48) = none) ∧
    (let s : State := (ze rr id);
      let e : EngIx := 0;
      let r : Running := rr;
      let d : Fin 32 := 1;
      let n : BitVec 8 := 7;
      let y := ((((ze rr id).engine 0).writeSpr 7 0).getD {});
      let x := s.engine e.val;
      Runs s e.val r ∧ x.writeSpr n.toNat (x.xr d.val) = some y) ∧
    (let s : State := (ze rr id);
      let e : EngIx := 0;
      let r : Running := rr;
      let d : Fin 32 := 1;
      let n : BitVec 8 := 31;
      let x := s.engine e.val;
      Runs s e.val r ∧ x.writeSpr n.toNat (x.xr d.val) = none) ∧
    (let s : State := (ze rr id);
      let e : EngIx := 0;
      let r : Running := rr;
      let n : BitVec 8 := 7;
      let v := 0;
      let x := s.engine e.val;
      Runs s e.val r ∧ x.readSpr n.toNat = some v) ∧
    (let s : State := (ze rr id);
      let e : EngIx := 0;
      let r : Running := rr;
      let n : BitVec 8 := 32;
      let x := s.engine e.val;
      Runs s e.val r ∧ x.readSpr n.toNat = none) := by
  refine ⟨?_, ?_, ?_, ?_, ?_, ?_, ?_⟩ <;> dsimp only [Takes, Acts, ActsExpert, Follows, Reads, Local, Runs] <;> decide +kernel

theorem test_EnginePcRule :
    (let x : Engine := (z.engine 0);
      x.loops = []) ∧
    (let x : Engine := { (z.engine 0) with loops := [{ lc := 1, first := 2, last := 9 }], pc := 4, lc := [(1, 3)] };
      let l : LoopRec := { lc := 1, first := 2, last := 9 };
      let ls : List LoopRec := [];
      x.loops = l :: ls ∧ x.pc ≠ l.last) ∧
    (let x : Engine := { (z.engine 0) with loops := [{ lc := 1, first := 2, last := 9 }], pc := 9, lc := [(1, 3)] };
      let l : LoopRec := { lc := 1, first := 2, last := 9 };
      let ls : List LoopRec := [];
      x.loops = l :: ls ∧ x.pc = l.last ∧ x.lcr l.lc.val ≠ 1) ∧
    (let x : Engine := { (z.engine 0) with loops := [{ lc := 1, first := 2, last := 9 }, { lc := 0, first := 1, last := 9 }], pc := 9, lc := [(0, 5), (1, 1)] };
      let l : LoopRec := { lc := 1, first := 2, last := 9 };
      let ls : List LoopRec := [{ lc := 0, first := 1, last := 9 }];
      let m := { lc := 0, first := 1, last := 9 };
      let ms := [];
      x.loops = l :: ls ∧ x.pc = l.last ∧ x.lcr l.lc.val = 1 ∧ ls = m :: ms ∧ x.pc = m.last ∧ m.lc ≠ l.lc ∧ x.lcr m.lc.val ≠ 1) := by
  refine ⟨?_, ?_, ?_, ?_⟩ <;> dsimp only [Takes, Acts, ActsExpert, Follows, Reads, Local, Runs] <;> decide +kernel

theorem test_EngineControlFlow_1 :
    (let s : State := (ze rr id);
      let e : EngIx := 0;
      let r : Running := rr;
      let cond : BitVec 4 := 0;
      let x := s.engine e.val;
      let holds := fun (c : Nat) => [true, x.flag 0, !x.flag 0, x.flag 1 != x.flag 2, x.flag 1 == x.flag 2,
            x.flag 0 || x.flag 1 != x.flag 2, !x.flag 0 && x.flag 1 == x.flag 2, x.flag 2, !x.flag 2, x.flag 13].getD c false;
      Runs s e.val r ∧ cond.toNat ≤ 9 ∧ holds cond.toNat = true) ∧
    (let s : State := (ze rr id);
      let e : EngIx := 0;
      let r : Running := rr;
      let cond : BitVec 4 := 1;
      let x := s.engine e.val;
      let holds := fun (c : Nat) => [true, x.flag 0, !x.flag 0, x.flag 1 != x.flag 2, x.flag 1 == x.flag 2,
            x.flag 0 || x.flag 1 != x.flag 2, !x.flag 0 && x.flag 1 == x.flag 2, x.flag 2, !x.flag 2, x.flag 13].getD c false;
      Runs s e.val r ∧ cond.toNat ≤ 9 ∧ holds cond.toNat = false) ∧
    (let s : State := (ze rr id);
      let e : EngIx := 0;
      let r : Running := rr;
      let cond : BitVec 4 := 10;
      Runs s e.val r ∧ 9 < cond.toNat) ∧
    (let s : State := (ze rr id);
      let e : EngIx := 0;
      let r : Running := rr;
      let lc : Fin 2 := 1;
      let reg : Bool := false;
      let xs : Fin 32 := 1;
      let count : BitVec 16 := 0;
      let x := s.engine e.val;
      let n := if reg then (max 0 (min 65535 (x.xr xs.val).toInt)).toNat else count.toNat;
      let nests := x.loops = [] ∨ (lc = 1 ∧ ∀ l ∈ x.loops, l.lc = 0);
      Runs s e.val r ∧ nests ∧ n = 0) ∧
    (let s : State := (ze rr id);
      let e : EngIx := 0;
      let r : Running := rr;
      let lc : Fin 2 := 1;
      let reg : Bool := false;
      let xs : Fin 32 := 1;
      let count : BitVec 16 := 65535;
      let x := s.engine e.val;
      let n := if reg then (max 0 (min 65535 (x.xr xs.val).toInt)).toNat else count.toNat;
      let nests := x.loops = [] ∨ (lc = 1 ∧ ∀ l ∈ x.loops, l.lc = 0);
      Runs s e.val r ∧ nests ∧ n ≠ 0) ∧
    (let s : State := (ze rr (fun x => { x with loops := [{ lc := 1, first := 2, last := 9 }], ret := [5] }));
      let e : EngIx := 0;
      let r : Running := rr;
      let lc : Fin 2 := 1;
      let x := s.engine e.val;
      let nests := x.loops = [] ∨ (lc = 1 ∧ ∀ l ∈ x.loops, l.lc = 0);
      Runs s e.val r ∧ ¬ nests) ∧
    (let s : State := (ze rr id);
      let e : EngIx := 0;
      let r : Running := rr;
      let x := s.engine e.val;
      Runs s e.val r ∧ x.loops = [] ∧ x.ret.length < 4 ∧ x.ret = []) ∧
    (let s : State := (ze rr (fun x => { x with loops := [{ lc := 1, first := 2, last := 9 }], ret := [5] }));
      let e : EngIx := 0;
      let r : Running := rr;
      let x := s.engine e.val;
      Runs s e.val r ∧ (x.loops ≠ [] ∨ 4 ≤ x.ret.length)) := by
  refine ⟨?_, ?_, ?_, ?_, ?_, ?_, ?_, ?_⟩ <;> dsimp only [Takes, Acts, ActsExpert, Follows, Reads, Local, Runs] <;> decide +kernel

theorem test_EngineControlFlow_2 :
    (let s : State := (ze rr (fun x => { x with loops := [{ lc := 1, first := 2, last := 9 }], ret := [5] }));
      let e : EngIx := 0;
      let r : Running := rr;
      let p := 5;
      let ps := [];
      let x := s.engine e.val;
      Runs s e.val r ∧ x.ret = p :: ps) := by
  dsimp only [Takes, Acts, ActsExpert, Follows, Reads, Local, Runs]
  decide +kernel

theorem test_EngineTaskEnds :
    (let s : State := (ze rr id);
      let e : EngIx := 0;
      let r : Running := rr;
      let x := s.engine e.val;
      Runs s e.val r ∧ r.cycles < s.parN 0x01050002 0 ∧ x.failed = false) ∧
    (let s : State := (ze rrLate id);
      let e : EngIx := 0;
      let r : Running := rrLate;
      Runs s e.val r ∧ s.parN 0x01050002 0 ≤ r.cycles) := by
  refine ⟨?_, ?_⟩ <;> dsimp only [Takes, Acts, ActsExpert, Follows, Reads, Local, Runs] <;> decide +kernel

theorem test_CommandChecks_1 :
    (let s0 : State := (wTwin w0 (fun t => { t with standby := true, landed := [{ pos := 1, cycle := 3, slot := 0, seq := 1, opcode := 0x0302, params := [], trim := none }] }));
      let c : CmdCtx := c0;
      let k : Cmd := kc;
      let s := s0.takeUp c;
      let logged := s.twin.standby = true ∧ k.move = true ∧ s.isLogged c k.op = true;
      logged) ∧
    (let s0 : State := z;
      let c : CmdCtx := c0;
      let k : Cmd := kc;
      let s := s0.takeUp c;
      let x := s.session c.slot.val;
      let logged := s.twin.standby = true ∧ k.move = true ∧ s.isLogged c k.op = true;
      ¬ logged ∧ x.phase ≠ .opened) ∧
    (let s0 : State := w0;
      let c : CmdCtx := c0;
      let k : Cmd := kc;
      let lenOk : Bool := false;
      let s := s0.takeUp c;
      let x := s.session c.slot.val;
      let logged := s.twin.standby = true ∧ k.move = true ∧ s.isLogged c k.op = true;
      ¬ logged ∧ x.phase = .opened ∧ lenOk = false) ∧
    (let s0 : State := (wSes w0 (fun x => { x with role := 1 }));
      let c : CmdCtx := c0;
      let k : Cmd := kc;
      let lenOk : Bool := true;
      let s := s0.takeUp c;
      let x := s.session c.slot.val;
      let logged := s.twin.standby = true ∧ k.move = true ∧ s.isLogged c k.op = true;
      let allowed := roleAllows x.role k.need = true ∧ (s.host.keys.default = true → defaultKeyOk k.op = true);
      ¬ logged ∧ x.phase = .opened ∧ lenOk = true ∧ ¬ allowed) ∧
    (let s0 : State := w0;
      let c : CmdCtx := { c0 with expert := false };
      let k : Cmd := kc;
      let lenOk : Bool := true;
      let s := s0.takeUp c;
      let x := s.session c.slot.val;
      let logged := s.twin.standby = true ∧ k.move = true ∧ s.isLogged c k.op = true;
      let allowed := roleAllows x.role k.need = true ∧ (s.host.keys.default = true → defaultKeyOk k.op = true);
      let expert := k.expert = true → c.expert = true;
      ¬ logged ∧ x.phase = .opened ∧ lenOk = true ∧ allowed ∧ ¬ expert) ∧
    (let s0 : State := (wTwin w0 (fun t => { t with standby := true }));
      let c : CmdCtx := c0;
      let k : Cmd := kc;
      let lenOk : Bool := true;
      let s := s0.takeUp c;
      let x := s.session c.slot.val;
      let logged := s.twin.standby = true ∧ k.move = true ∧ s.isLogged c k.op = true;
      let allowed := roleAllows x.role k.need = true ∧ (s.host.keys.default = true → defaultKeyOk k.op = true);
      let expert := k.expert = true → c.expert = true;
      let mine := s.twin.standby = true → k.move = false;
      ¬ logged ∧ x.phase = .opened ∧ lenOk = true ∧ allowed ∧ expert ∧ ¬ mine) ∧
    (let s0 : State := (wBoot w0 (fun b => { b with recovery := true }));
      let c : CmdCtx := c0;
      let k : Cmd := kc;
      let lenOk : Bool := true;
      let s := s0.takeUp c;
      let x := s.session c.slot.val;
      let logged := s.twin.standby = true ∧ k.move = true ∧ s.isLogged c k.op = true;
      let allowed := roleAllows x.role k.need = true ∧ (s.host.keys.default = true → defaultKeyOk k.op = true);
      let expert := k.expert = true → c.expert = true;
      let mine := s.twin.standby = true → k.move = false;
      let here := s.boot.recovery = true → recoveryOk k.op = true;
      ¬ logged ∧ x.phase = .opened ∧ lenOk = true ∧ allowed ∧ expert ∧ mine ∧ ¬ here) ∧
    (let s0 : State := w0;
      let c : CmdCtx := c0;
      let k : Cmd := kc;
      let lenOk : Bool := true;
      let body : State → Ans := (fun _ => .refuse 0x0105 []);
      let st := 0x0105;
      let d := [];
      let s := s0.takeUp c;
      let x := s.session c.slot.val;
      let logged := s.twin.standby = true ∧ k.move = true ∧ s.isLogged c k.op = true;
      let allowed := roleAllows x.role k.need = true ∧ (s.host.keys.default = true → defaultKeyOk k.op = true);
      let expert := k.expert = true → c.expert = true;
      let mine := s.twin.standby = true → k.move = false;
      let here := s.boot.recovery = true → recoveryOk k.op = true;
      ¬ logged ∧ x.phase = .opened ∧ lenOk = true ∧ allowed ∧ expert ∧ mine ∧ here ∧ body s = .refuse st d) := by
  refine ⟨?_, ?_, ?_, ?_, ?_, ?_, ?_, ?_⟩ <;> dsimp only [Takes, Acts, ActsExpert, Follows, Reads, Local, Runs] <;> (and_intros <;> first | decide +kernel | rfl)

theorem test_CommandChecks_2 :
    (let s0 : State := w0;
      let c : CmdCtx := c0;
      let k : Cmd := kc;
      let lenOk : Bool := true;
      let body : State → Ans := (fun t => .ok t 0 []);
      let s' := (w0.takeUp c0);
      let st := 0;
      let d := [];
      let s := s0.takeUp c;
      let x := s.session c.slot.val;
      let logged := s.twin.standby = true ∧ k.move = true ∧ s.isLogged c k.op = true;
      let allowed := roleAllows x.role k.need = true ∧ (s.host.keys.default = true → defaultKeyOk k.op = true);
      let expert := k.expert = true → c.expert = true;
      let mine := s.twin.standby = true → k.move = false;
      let here := s.boot.recovery = true → recoveryOk k.op = true;
      ¬ logged ∧ x.phase = .opened ∧ lenOk = true ∧ allowed ∧ expert ∧ mine ∧ here ∧ (k.logged = false ∨ s.standbySynced = false) ∧ body s = .ok s' st d) ∧
    (let s0 : State := w0;
      let c : CmdCtx := c0;
      let k : Cmd := kc;
      let lenOk : Bool := true;
      let body : State → Ans := (fun t => .quiet t);
      let s' := (w0.takeUp c0);
      let s := s0.takeUp c;
      let x := s.session c.slot.val;
      let logged := s.twin.standby = true ∧ k.move = true ∧ s.isLogged c k.op = true;
      let allowed := roleAllows x.role k.need = true ∧ (s.host.keys.default = true → defaultKeyOk k.op = true);
      let expert := k.expert = true → c.expert = true;
      let mine := s.twin.standby = true → k.move = false;
      let here := s.boot.recovery = true → recoveryOk k.op = true;
      ¬ logged ∧ x.phase = .opened ∧ lenOk = true ∧ allowed ∧ expert ∧ mine ∧ here ∧ (k.logged = false ∨ s.standbySynced = false) ∧ body s = .quiet s') := by
  refine ⟨?_, ?_⟩ <;> dsimp only [Takes, Acts, ActsExpert, Follows, Reads, Local, Runs] <;> (and_intros <;> first | decide +kernel | rfl)

theorem test_LandsAfterLogAck :
    (let s : State := (wSynced w0);
      let c : CmdCtx := c0;
      let k : Cmd := kc;
      k.logged = true ∧ s.standbySynced = true ∧ s.logEntry c k.op = none) ∧
    (let s : State := (wTwin (wSynced w0) (fun t => { t with logs := [{ pos := 1, slot := 0, seq := 1, opcode := 0x0302, cycle := 3, acked := false }] }));
      let c : CmdCtx := c0;
      let k : Cmd := kc;
      let l : LogEntry := { pos := 1, slot := 0, seq := 1, opcode := 0x0302, cycle := 3, acked := false };
      k.logged = true ∧ s.standbySynced = true ∧ s.logEntry c k.op = some l ∧ l.acked = false) ∧
    (let s : State := (wTwin (wSynced w0) (fun t => { t with logs := [{ pos := 1, slot := 0, seq := 1, opcode := 0x0302, cycle := 3, acked := true }] }));
      let c : CmdCtx := c0;
      let k : Cmd := kc;
      let l : LogEntry := { pos := 1, slot := 0, seq := 1, opcode := 0x0302, cycle := 3, acked := true };
      k.logged = true ∧ s.standbySynced = true ∧ s.logEntry c k.op = some l ∧ l.acked = true) := by
  refine ⟨?_, ?_, ?_⟩ <;> dsimp only [Takes, Acts, ActsExpert, Follows, Reads, Local, Runs] <;> decide +kernel

theorem test_ReplyIsSentAndKept :
    (let c : CmdCtx := c0;
      let i := 7;
      i ≠ c.slot.val) ∧
    (let s : State := w0;
      let c : CmdCtx := c0;
      let x := s.session c.slot.val;
      x.source ≠ .pcie) ∧
    (let s : State := z;
      let c : CmdCtx := c0;
      let x := s.session c.slot.val;
      x.source = .pcie ∧ s.boot.testEn = false) := by
  refine ⟨?_, ?_, ?_⟩ <;> dsimp only [Takes, Acts, ActsExpert, Follows, Reads, Local, Runs] <;> decide +kernel

theorem test_EventIsRecorded :
    (let s : State := z;
      s.host.gathered = none) ∧
    (let s : State := z;
      let sev : Nat := 2;
      s.host.gathered = none ∧ sev = 2) ∧
    (let s : State := (wHost z (fun h => { h with gathered := some [] }));
      let es : List Event := [];
      s.host.gathered = some es) ∧
    (let s : State := (wHost z (fun h => { h with gathered := some [({ seq := 0, code := 1, sev := 1, flags := 0, sec := 0, ns := 0, cycle := 0, inst := 0, status := 0, session := 0, cmdSeq := 0, opcode := 0, data := [] } : Event), ({ seq := 0, code := 1, sev := 1, flags := 0, sec := 0, ns := 0, cycle := 0, inst := 0, status := 0, session := 0, cmdSeq := 0, opcode := 0, data := [] } : Event)] }));
      let d : Event := ({ seq := 0, code := 1, sev := 1, flags := 0, sec := 0, ns := 0, cycle := 0, inst := 0, status := 0, session := 0, cmdSeq := 0, opcode := 0, data := [] } : Event);
      let e : Event := ({ seq := 0, code := 1, sev := 1, flags := 0, sec := 0, ns := 0, cycle := 0, inst := 0, status := 0, session := 0, cmdSeq := 0, opcode := 0, data := [] } : Event);
      s.host.gathered = some [d, e]) ∧
    (let l : List Event := [];
      let order := fun (x y : Event) => x.code < y.code ∨ (x.code = y.code ∧ x.inst ≤ y.inst);
      l.Pairwise order) ∧
    (let l : List Event := [];
      let x := 0;
      let order := fun (x y : Event) => x.code < y.code ∨ (x.code = y.code ∧ x.inst ≤ y.inst);
      l.Pairwise order) := by
  refine ⟨?_, ?_, ?_, ?_, ?_, ?_⟩ <;> dsimp only [Takes, Acts, ActsExpert, Follows, Reads, Local, Runs] <;> decide +kernel

theorem test_SessionOpening_1 :
    (let s : State := (wSes w0 (fun x => { x with phase := .challenged }));
      s.serves = false) ∧
    (let s : State := (wBoot w0 (fun b => { b with ready := true, booting := false, bank := some 0 }));
      let nonce : List Byte := [];
      s.serves = true ∧ nonce.length ≠ 16) ∧
    (let s : State := (wBoot w0 (fun b => { b with ready := true, booting := false, bank := some 0 }));
      let role : BitVec 8 := 6;
      let nonce : List Byte := (List.replicate 16 0);
      let inRole := 1 ≤ role.toNat ∧ role.toNat ≤ 5;
      s.serves = true ∧ nonce.length = 16 ∧ ¬ inRole) ∧
    (let s : State := (wHost (wBoot w0 (fun b => { b with ready := true, booting := false, bank := some 0 })) (fun h => { h with lock := [ { src := .pcie, fails := 5, until_ := some 9000000000, duration := 0, lastFail := 0 } ] }));
      let src : HostSource := .pcie;
      let role : BitVec 8 := 5;
      let nonce : List Byte := (List.replicate 16 0);
      let n := 9;
      let inRole := 1 ≤ role.toNat ∧ role.toNat ≤ 5;
      let ask := s.serves = true ∧ nonce.length = 16 ∧ inRole;
      ask ∧ s.lockedFor src = some n) ∧
    (let s : State := (wKeys (wBoot w0 (fun b => { b with ready := true, booting := false, bank := some 0 })) (fun k => { k with default := true }));
      let src : HostSource := .pcie;
      let role : BitVec 8 := 1;
      let nonce : List Byte := (List.replicate 16 0);
      let inRole := 1 ≤ role.toNat ∧ role.toNat ≤ 5;
      let ask := s.serves = true ∧ nonce.length = 16 ∧ inRole;
      let mayAsk := s.host.keys.default = true → src = .pcie ∧ role = 5;
      ask ∧ s.lockedFor src = none ∧ ¬ mayAsk) ∧
    (let s : State := ((List.range 8).foldl (fun t i => t.setSession i { Session.reset with phase := .opened }) (wBoot w0 (fun b => { b with ready := true, booting := false, bank := some 0 })));
      let src : HostSource := .pcie;
      let role : BitVec 8 := 5;
      let nonce : List Byte := (List.replicate 16 0);
      let inRole := 1 ≤ role.toNat ∧ role.toNat ≤ 5;
      let ask := s.serves = true ∧ nonce.length = 16 ∧ inRole;
      let mayAsk := s.host.keys.default = true → src = .pcie ∧ role = 5;
      ask ∧ s.lockedFor src = none ∧ mayAsk ∧ ((∀ i, i < 8 → (s.session i).phase ≠ .free))) ∧
    (let s : State := (wBoot w0 (fun b => { b with ready := true, booting := false, bank := some 0 }));
      let src : HostSource := .pcie;
      let role : BitVec 8 := 5;
      let nonce : List Byte := (List.replicate 16 0);
      let i := 1;
      let inRole := 1 ≤ role.toNat ∧ role.toNat ≤ 5;
      let ask := s.serves = true ∧ nonce.length = 16 ∧ inRole;
      let mayAsk := s.host.keys.default = true → src = .pcie ∧ role = 5;
      let free := fun (i : Nat) => i < 8 ∧ (s.session i).phase = .free ∧ ∀ j, j < i → (s.session j).phase ≠ .free;
      ask ∧ s.lockedFor src = none ∧ mayAsk ∧ free i) ∧
    (let s : State := { (wSes w0 (fun x => { x with phase := .challenged })) with coreTicks := 2000000001 };
      let c : CmdCtx := c0;
      let u := s.takeUp c;
      let x := u.session c.slot.val;
      let inTime := s.coreTicks ≤ x.lastTick + 2000000000;
      (x.phase = .free ∨ (x.phase = .challenged ∧ ¬ inTime))) := by
  refine ⟨?_, ?_, ?_, ?_, ?_, ?_, ?_, ?_⟩ <;> dsimp only [Takes, Acts, ActsExpert, Follows, Reads, Local, Runs] <;> decide +kernel

theorem test_SessionOpening_2 :
    (let s : State := (wBoot w0 (fun b => { b with ready := true, booting := false, bank := some 0 }));
      let c : CmdCtx := c0;
      let u := s.takeUp c;
      let x := u.session c.slot.val;
      x.phase = .opened) ∧
    (let s : State := (wSes w0 (fun x => { x with phase := .challenged }));
      let c : CmdCtx := c0;
      let proof : List Byte := (hmac ((w0.takeUp c0).roleKey 5) []);
      let u := s.takeUp c;
      let x := u.session c.slot.val;
      let k := u.roleKey x.role;
      let inTime := s.coreTicks ≤ x.lastTick + 2000000000;
      x.phase = .challenged ∧ inTime ∧ proof = hmac k (x.nh ++ x.nd)) ∧
    (let s : State := (wSes w0 (fun x => { x with phase := .challenged }));
      let c : CmdCtx := c0;
      let proof : List Byte := [];
      let u := s.takeUp c;
      let x := u.session c.slot.val;
      let k := u.roleKey x.role;
      let inTime := s.coreTicks ≤ x.lastTick + 2000000000;
      x.phase = .challenged ∧ inTime ∧ proof ≠ hmac k (x.nh ++ x.nd)) ∧
    (let s : State := { (wSes w0 (fun x => { x with phase := .challenged })) with coreTicks := 2000000001 };
      let slot : SlotIx := 0;
      (s.session slot.val).phase = .challenged ∧ (s.session slot.val).lastTick + 2000000000 < s.coreTicks) := by
  refine ⟨?_, ?_, ?_, ?_⟩ <;> dsimp only [Takes, Acts, ActsExpert, Follows, Reads, Local, Runs] <;> decide +kernel

theorem test_SessionClosing :
    (let s : State := w0;
      let c : CmdCtx := c0;
      Reads s c 0x0203 1) ∧
    (let s : State := { w0 with coreTicks := 600000000000 };
      let slot : SlotIx := 0;
      (s.session slot.val).phase = .opened ∧ (s.session slot.val).lastTick + s.parN 0x02000001 0 * 1000000000 ≤ s.coreTicks) ∧
    (let slot : SlotIx := 0;
      let i := 7;
      i ≠ slot.val) ∧
    (let s : State := (wHost z (fun h => { h with lock := [ { src := .pcie, fails := 5, until_ := some 0, duration := 0, lastFail := 0 } ] }));
      let src : HostSource := .pcie;
      let e : LockEntry := { src := .pcie, fails := 5, until_ := some 0, duration := 0, lastFail := 0 };
      let until_ : Nat := 0;
      s.lockOf src = some e ∧ e.until_ = some until_ ∧ until_ ≤ s.coreTicks) := by
  refine ⟨?_, ?_, ?_, ?_⟩ <;> dsimp only [Takes, Acts, ActsExpert, Follows, Reads, Local, Runs] <;> decide +kernel

theorem test_FifthFailureLocksOut :
    (let s : State := (wHost z (fun h => { h with lock := [ { src := .pcie, fails := 3, until_ := none, duration := 0, lastFail := 0 } ] }));
      let src : HostSource := .pcie;
      let e : LockEntry := { src := .pcie, fails := 3, until_ := none, duration := 0, lastFail := 0 };
      s.lockOf src = some e ∧ e.src = lockSource src ∧ e.fails < 4) ∧
    (let s : State := (wHost z (fun h => { h with lock := [ { src := .pcie, fails := 4, until_ := none, duration := 0, lastFail := 0 } ] }));
      let src : HostSource := .pcie;
      let e : LockEntry := { src := .pcie, fails := 4, until_ := none, duration := 0, lastFail := 0 };
      s.lockOf src = some e ∧ e.src = lockSource src ∧ 4 ≤ e.fails) := by
  refine ⟨?_, ?_⟩ <;> dsimp only [Takes, Acts, ActsExpert, Follows, Reads, Local, Runs] <;> decide +kernel

theorem test_KeysAndFlash :
    (let s : State := (wSes w0 (fun x => { x with key := List.replicate 32 0 }));
      let c : CmdCtx := c0;
      let role : BitVec 8 := 6;
      let wrapped : List Byte := (List.replicate 40 0);
      let need := if role = 4 ∧ s.host.keys.default = false then 4 else 5;
      let inRole := 1 ≤ role.toNat ∧ role.toNat ≤ 5;
      Acts s c 0x0204 need ∧ wrapped.length = 40 ∧ ¬ inRole) ∧
    (let s : State := (wSes w0 (fun x => { x with key := List.replicate 32 0 }));
      let c : CmdCtx := c0;
      let role : BitVec 8 := 2;
      let wrapped : List Byte := (List.replicate 40 0);
      let key : List Byte := [];
      let need := if role = 4 ∧ s.host.keys.default = false then 4 else 5;
      let key? := keyUnwrap (s.session c.slot.val).key wrapped;
      Acts s c 0x0204 need ∧ wrapped.length = 40 ∧ key? = none) ∧
    (let s : State := (wKeys (wSes w0 (fun x => { x with key := List.replicate 32 0 })) (fun k => { k with pendingSet := some (c0, 2, []) }));
      let c : CmdCtx := c0;
      let role : BitVec 8 := 2;
      let wrapped : List Byte := (keyWrap (List.replicate 32 0) (List.replicate 32 0));
      let key : List Byte := (List.replicate 32 0);
      let t := s.takeUp c;
      let need := if role = 4 ∧ s.host.keys.default = false then 4 else 5;
      let key? := keyUnwrap (s.session c.slot.val).key wrapped;
      let inRole := 1 ≤ role.toNat ∧ role.toNat ≤ 5;
      Acts s c 0x0204 need ∧ wrapped.length = 40 ∧ inRole ∧ key? = some key ∧ (t.host.keys.pendingSet.isSome = true ∨ t.boot.flashWrite.isSome = true)) ∧
    (let s : State := (wSes w0 (fun x => { x with key := List.replicate 32 0 }));
      let c : CmdCtx := c0;
      let role : BitVec 8 := 2;
      let wrapped : List Byte := (keyWrap (List.replicate 32 0) (List.replicate 32 0));
      let key : List Byte := (List.replicate 32 0);
      let t := s.takeUp c;
      let need := if role = 4 ∧ s.host.keys.default = false then 4 else 5;
      let key? := keyUnwrap (s.session c.slot.val).key wrapped;
      let inRole := 1 ≤ role.toNat ∧ role.toNat ≤ 5;
      Acts s c 0x0204 need ∧ wrapped.length = 40 ∧ inRole ∧ key? = some key ∧ t.host.keys.pendingSet = none ∧ t.boot.flashWrite = none) ∧
    (let s : State := (wKeys (wSes w0 (fun x => { x with key := List.replicate 32 0 })) (fun k => { k with pendingSet := some (c0, 2, []) }));
      let c : CmdCtx := c0;
      let d : CmdCtx := c0;
      let wrapped : List Byte := (List.replicate 40 0);
      let key : List Byte := [];
      let r : Nat := 2;
      let key? := keyUnwrap (s.session c.slot.val).key wrapped;
      s.host.keys.pendingSet = some (d, r, key)) ∧
    (let s : State := (wBoot w0 (fun b => { b with flashWrite := some (c0, 0, 0, [1]) }));
      let d : CmdCtx := c0;
      let bank : Nat := 0;
      let off : Nat := 0;
      let data : List Byte := [1];
      s.host.keys.pendingSet = none ∧ s.boot.flashWrite = some (d, bank, off, data)) ∧
    (let s : State := (wBoot w0 (fun b => { b with flashWrite := some (c0, 0, 0, [1]) }));
      let d : CmdCtx := c0;
      let off : Nat := 0;
      let data : List Byte := [1];
      s.host.keys.pendingSet = none ∧ s.boot.flashWrite = some (d, 0, off, data)) ∧
    (let s : State := (wBoot w0 (fun b => { b with flashWrite := some (c0, 1, 0, [1]) }));
      let d : CmdCtx := c0;
      let off : Nat := 0;
      let data : List Byte := [1];
      s.host.keys.pendingSet = none ∧ s.boot.flashWrite = some (d, 1, off, data)) := by
  refine ⟨?_, ?_, ?_, ?_, ?_, ?_, ?_, ?_⟩ <;> dsimp only [Takes, Acts, ActsExpert, Follows, Reads, Local, Runs] <;> decide +kernel

theorem test_RegisterWrites_1 :
    (let s : State := (wBar z (fun b => { b with hostCtrl := 3 }));
      let off : BitVec 16 := 0x10;
      let b := s.host.bar0;
      let sqcq := off = 0x10 ∨ off = 0x14 ∨ off = 0x18 ∨ off = 0x30 ∨ off = 0x34 ∨ off = 0x38;
      sqcq ∧ b.hostCtrl.getLsbD 0 = true) ∧
    (let s : State := (wBar z (fun b => { b with hostCtrl := 3 }));
      let off : BitVec 16 := 0x50;
      let b := s.host.bar0;
      let eq := off = 0x50 ∨ off = 0x54 ∨ off = 0x58;
      eq ∧ b.hostCtrl.getLsbD 1 = true) ∧
    (let s : State := z;
      let off : BitVec 16 := 0x10;
      let b := s.host.bar0;
      off = 0x10 ∧ b.hostCtrl.getLsbD 0 = false) ∧
    (let s : State := z;
      let off : BitVec 16 := 0x14;
      let b := s.host.bar0;
      off = 0x14 ∧ b.hostCtrl.getLsbD 0 = false) ∧
    (let s : State := z;
      let off : BitVec 16 := 0x18;
      let v : BitVec 32 := 16;
      let b := s.host.bar0;
      let size := fun (lo hi : Nat) => lo ≤ v.toNat ∧ v.toNat ≤ hi ∧ ∃ n, n ≤ 12 ∧ v.toNat = 2 ^ n;
      off = 0x18 ∧ b.hostCtrl.getLsbD 0 = false ∧ size 16 1024) ∧
    (let s : State := z;
      let off : BitVec 16 := 0x18;
      let v : BitVec 32 := 5;
      let b := s.host.bar0;
      let size := fun (lo hi : Nat) => lo ≤ v.toNat ∧ v.toNat ≤ hi ∧ ∃ n, n ≤ 12 ∧ v.toNat = 2 ^ n;
      off = 0x18 ∧ b.hostCtrl.getLsbD 0 = false ∧ ¬ size 16 1024) ∧
    (let s : State := z;
      let off : BitVec 16 := 0x30;
      let b := s.host.bar0;
      off = 0x30 ∧ b.hostCtrl.getLsbD 0 = false) ∧
    (let s : State := z;
      let off : BitVec 16 := 0x34;
      let b := s.host.bar0;
      off = 0x34 ∧ b.hostCtrl.getLsbD 0 = false) := by
  refine ⟨?_, ?_, ?_, ?_, ?_, ?_, ?_, ?_⟩ <;> dsimp only [Takes, Acts, ActsExpert, Follows, Reads, Local, Runs] <;> decide +kernel

theorem test_RegisterWrites_2 :
    (let s : State := z;
      let off : BitVec 16 := 0x38;
      let v : BitVec 32 := 16;
      let b := s.host.bar0;
      let size := fun (lo hi : Nat) => lo ≤ v.toNat ∧ v.toNat ≤ hi ∧ ∃ n, n ≤ 12 ∧ v.toNat = 2 ^ n;
      off = 0x38 ∧ b.hostCtrl.getLsbD 0 = false ∧ size 16 1024) ∧
    (let s : State := z;
      let off : BitVec 16 := 0x50;
      let b := s.host.bar0;
      off = 0x50 ∧ b.hostCtrl.getLsbD 1 = false) ∧
    (let s : State := z;
      let off : BitVec 16 := 0x54;
      let b := s.host.bar0;
      off = 0x54 ∧ b.hostCtrl.getLsbD 1 = false) ∧
    (let s : State := z;
      let off : BitVec 16 := 0x58;
      let v : BitVec 32 := 4096;
      let b := s.host.bar0;
      let size := fun (lo hi : Nat) => lo ≤ v.toNat ∧ v.toNat ≤ hi ∧ ∃ n, n ≤ 12 ∧ v.toNat = 2 ^ n;
      off = 0x58 ∧ b.hostCtrl.getLsbD 1 = false ∧ size 64 4096) ∧
    (let off : BitVec 16 := 0x74;
      off = 0x74) ∧
    (let off : BitVec 16 := 0x7C;
      off = 0x7C) ∧
    (let off : BitVec 16 := 0x78;
      let v : BitVec 32 := 16;
      off = 0x78 ∧ v.toNat % 65536 ≤ 1000) ∧
    (let off : BitVec 16 := 0x80;
      off = 0x80) := by
  refine ⟨?_, ?_, ?_, ?_, ?_, ?_, ?_, ?_⟩ <;> dsimp only [Takes, Acts, ActsExpert, Follows, Reads, Local, Runs] <;> decide +kernel

theorem test_RegisterWrites_3 :
    (let off : BitVec 16 := 0;
      (off = 0x20 ∨ off = 0x40 ∨ off = 0x60 ∨ off = 0 ∨ off = 8 ∨ 0x84 ≤ off.toNat ∨ off.toNat % 4 ≠ 0)) := by
  dsimp only [Takes, Acts, ActsExpert, Follows, Reads, Local, Runs]
  decide +kernel

theorem test_RingsAndInterrupts :
    (let s : State := z;
      let b := s.host.bar0;
      let on := b.hostCtrl.getLsbD 0 = true;
      let full := (b.cqTail.toNat + 1) % b.cqSize.toNat = b.cqHead.toNat;
      ¬ on ∧ (¬ on ∨ b.sqStopped = true ∨ full)) ∧
    (let s : State := (wBar z (fun b => { b with hostCtrl := 1 }));
      let b := s.host.bar0;
      let on := b.hostCtrl.getLsbD 0 = true;
      let full := (b.cqTail.toNat + 1) % b.cqSize.toNat = b.cqHead.toNat;
      on ∧ b.sqStopped = false ∧ ¬ full) ∧
    (let s : State := (wBar z (fun b => { b with hostCtrl := 1 }));
      let v : BitVec 32 := 16;
      let b := s.host.bar0;
      let on := b.hostCtrl.getLsbD 0 = true;
      on ∧ b.sqSize.toNat ≤ v.toNat) ∧
    (let s : State := (wBar z (fun b => { b with hostCtrl := 1 }));
      let v : BitVec 32 := 15;
      let entries : List (List Byte) := (List.replicate 15 []);
      let b := s.host.bar0;
      let on := b.hostCtrl.getLsbD 0 = true;
      on ∧ v.toNat < b.sqSize.toNat ∧ b.sqTail.toNat < b.sqSize.toNat ∧ entries.length = (v.toNat + b.sqSize.toNat - b.sqTail.toNat) % b.sqSize.toNat) ∧
    (let s : State := (wBar z (fun b => { b with msiHeld := 8 }));
      let k : Fin 4 := 3;
      let b := s.host.bar0;
      b.msiHeld.getLsbD k.val = true ∧ ((∀ t, s.msiLast k.val = some t → t + b.intCoal.toNat % 65536 * 1000 ≤ s.coreTicks))) := by
  refine ⟨?_, ?_, ?_, ?_, ?_⟩ <;> dsimp only [Takes, Acts, ActsExpert, Follows, Reads, Local, Runs] <;> decide +kernel

theorem test_InterruptMessages :
    (let i : Nat := 5;
      i < 6) ∧
    (let i : Nat := 5;
      let j := 4;
      i < 6 ∧ j ≠ i) ∧
    (let s : State := z;
      let i : Nat := 5;
      let b := s.host.bar0;
      i < 6 ∧ (nbit b.intStatus.toNat i = true ∨ nbit b.intEnable.toNat i = false)) := by
  refine ⟨?_, ?_, ?_⟩ <;> dsimp only [Takes, Acts, ActsExpert, Follows, Reads, Local, Runs] <;> decide +kernel

theorem test_PlantPackets_1 :
    (let s : State := (wSes w0 (fun x => { x with partOp := some 0x0303, partSeq := 0, partData := [] }));
      let p : PlantIx := 1;
      let dest : UdpDest := ⟨0x0A000002, 5000, 0⟩;
      let addr := s.parN 0x02100001 p.val;
      let dst := dest.ip;
      let vlan := dest.vlan;
      let holds := s.serves = true ∧ addr ≠ 0 ∧ vlan.toNat = s.parN 0x02100004 p.val
            ∧ (dst.toNat = addr ∨ (s.twin.onMove = true ∧ s.parN 0x02100007 p.val ≠ 0 ∧ dst.toNat = s.parN 0x02100007 p.val));
      ¬ holds ∧ (¬ holds ∨ s.parN 0x02100006 p.val ≠ 1)) ∧
    (let s : State := (wBoot ((z.setPar 0x02100001 0x0A000001).setPar 0x02101001 0x0A000002) (fun b => { b with ready := true }));
      let p : PlantIx := 1;
      let dest : UdpDest := ⟨0x0A000002, 5000, 0⟩;
      let mf : Bool := false;
      let fo : BitVec 13 := 8191;
      let addr := s.parN 0x02100001 p.val;
      let dst := dest.ip;
      let vlan := dest.vlan;
      let holds := s.serves = true ∧ addr ≠ 0 ∧ vlan.toNat = s.parN 0x02100004 p.val
            ∧ (dst.toNat = addr ∨ (s.twin.onMove = true ∧ s.parN 0x02100007 p.val ≠ 0 ∧ dst.toNat = s.parN 0x02100007 p.val));
      holds ∧ (mf = true ∨ fo ≠ 0)) ∧
    (let s : State := (wBoot ((z.setPar 0x02100001 0x0A000001).setPar 0x02101001 0x0A000002) (fun b => { b with ready := true }));
      let p : PlantIx := 1;
      let dest : UdpDest := ⟨0x0A000002, 5000, 0⟩;
      let mf : Bool := false;
      let fo : BitVec 13 := 0;
      let addr := s.parN 0x02100001 p.val;
      let dst := dest.ip;
      let vlan := dest.vlan;
      let holds := s.serves = true ∧ addr ≠ 0 ∧ vlan.toNat = s.parN 0x02100004 p.val
            ∧ (dst.toNat = addr ∨ (s.twin.onMove = true ∧ s.parN 0x02100007 p.val ≠ 0 ∧ dst.toNat = s.parN 0x02100007 p.val));
      let whole := holds ∧ mf = false ∧ fo = 0;
      whole ∧ dest.port.toNat ≠ s.parN 0x02100005 p.val) ∧
    (let s : State := (wHost (wBoot ((z.setPar 0x02100001 0x0A000001).setPar 0x02101001 0x0A000002) (fun b => { b with ready := true })) (fun h => { h with plantQueue := [(1, List.replicate 64 [])] }));
      let p : PlantIx := 1;
      let dest : UdpDest := ⟨0x0A000002, BitVec.ofNat 16 (z.parN 0x02100005 1), BitVec.ofNat 12 (z.parN 0x02100004 1)⟩;
      let mf : Bool := false;
      let fo : BitVec 13 := 0;
      let addr := s.parN 0x02100001 p.val;
      let dst := dest.ip;
      let vlan := dest.vlan;
      let holds := s.serves = true ∧ addr ≠ 0 ∧ vlan.toNat = s.parN 0x02100004 p.val
            ∧ (dst.toNat = addr ∨ (s.twin.onMove = true ∧ s.parN 0x02100007 p.val ≠ 0 ∧ dst.toNat = s.parN 0x02100007 p.val));
      let whole := holds ∧ mf = false ∧ fo = 0;
      whole ∧ dest.port.toNat = s.parN 0x02100005 p.val ∧ 64 ≤ (s.plantQueue p.val).length) ∧
    (let s : State := (wBoot ((z.setPar 0x02100001 0x0A000001).setPar 0x02101001 0x0A000002) (fun b => { b with ready := true }));
      let p : PlantIx := 1;
      let dest : UdpDest := ⟨0x0A000002, BitVec.ofNat 16 (z.parN 0x02100005 1), BitVec.ofNat 12 (z.parN 0x02100004 1)⟩;
      let mf : Bool := false;
      let fo : BitVec 13 := 0;
      let addr := s.parN 0x02100001 p.val;
      let dst := dest.ip;
      let vlan := dest.vlan;
      let holds := s.serves = true ∧ addr ≠ 0 ∧ vlan.toNat = s.parN 0x02100004 p.val
            ∧ (dst.toNat = addr ∨ (s.twin.onMove = true ∧ s.parN 0x02100007 p.val ≠ 0 ∧ dst.toNat = s.parN 0x02100007 p.val));
      let whole := holds ∧ mf = false ∧ fo = 0;
      whole ∧ dest.port.toNat = s.parN 0x02100005 p.val ∧ (s.plantQueue p.val).length < 64) ∧
    (let s : State := (wBoot ((z.setPar 0x02100001 0x0A000001).setPar 0x02101001 0x0A000002) (fun b => { b with ready := true }));
      let p : PlantIx := 1;
      let dest : UdpDest := ⟨0x0A000002, 5000, 0⟩;
      let addr := s.parN 0x02100001 p.val;
      let dst := dest.ip;
      let vlan := dest.vlan;
      let holds := s.serves = true ∧ addr ≠ 0 ∧ vlan.toNat = s.parN 0x02100004 p.val
            ∧ (dst.toNat = addr ∨ (s.twin.onMove = true ∧ s.parN 0x02100007 p.val ≠ 0 ∧ dst.toNat = s.parN 0x02100007 p.val));
      holds ∧ s.parN 0x02100006 p.val = 1) ∧
    (let s : State := w0;
      let data : List Byte := [];
      let c : CmdCtx := c0;
      let fin : Bool := false;
      let u := s.takeUp c;
      let x := u.session c.slot.val;
      let opened := x.phase = .opened;
      opened ∧ x.partOp = none ∧ x.partData = [] ∧ fin = false ∧ data.length ≤ 65535) ∧
    (let s : State := (wSes w0 (fun x => { x with partOp := some 0x0303, partSeq := 0, partData := [] }));
      let data : List Byte := [];
      let c : CmdCtx := c0;
      let op : BitVec 16 := 0x0303;
      let fin : Bool := true;
      let u := s.takeUp c;
      let x := u.session c.slot.val;
      let opened := x.phase = .opened;
      opened ∧ x.partOp = some op.toNat ∧ c.seq = x.partSeq + 1 ∧ fin = true ∧ (x.partData ++ data).length ≤ 65535) := by
  refine ⟨?_, ?_, ?_, ?_, ?_, ?_, ?_, ?_⟩ <;> dsimp only [Takes, Acts, ActsExpert, Follows, Reads, Local, Runs] <;> decide +kernel

theorem test_PlantPackets_2 :
    (let s : State := (wSes w0 (fun x => { x with partOp := some 0x0303, partSeq := 0, partData := (List.replicate 65535 0) }));
      let data : List Byte := [1];
      let c : CmdCtx := c0;
      let op : BitVec 16 := 0x0303;
      let u := s.takeUp c;
      let x := u.session c.slot.val;
      let opened := x.phase = .opened;
      opened ∧ x.partOp = some op.toNat ∧ c.seq = x.partSeq + 1 ∧ 65535 < (x.partData ++ data).length) ∧
    (let s : State := (wSes w0 (fun x => { x with partOp := some 0x0303, partSeq := 0, partData := [] }));
      let c : CmdCtx := { c0 with seq := 2 };
      let op : BitVec 16 := 0x0303;
      let u := s.takeUp c;
      let x := u.session c.slot.val;
      let opened := x.phase = .opened;
      opened ∧ ((x.partOp.isSome = true ∧ (x.partOp ≠ some op.toNat ∨ c.seq ≠ x.partSeq + 1)))) ∧
    (let s : State := (wSes w0 (fun x => { x with partOp := some 0x0303, partSeq := 0, partData := [] }));
      let c : CmdCtx := c0;
      (s.session c.slot.val).phase = .opened) := by
  refine ⟨?_, ?_, ?_⟩ <;> dsimp only [Takes, Acts, ActsExpert, Follows, Reads, Local, Runs] <;> decide +kernel

theorem test_PacketSequence :
    (let s : State := (wSes w0 (fun x => { x with lastSeq := 0, replies := [{ seq := 0, bytes := [7] }] }));
      let slot : SlotIx := 0;
      let b : List Byte := (packet 0x0303 32768 8 0 [] []);
      let x := s.session slot.val;
      let q := field b 4 2;
      let ahead := (q + 65536 - x.lastSeq.toNat) % 65536;
      1 ≤ ahead ∧ ahead ≤ 32768) ∧
    (let s : State := (wSes w0 (fun x => { x with lastSeq := 0, replies := [{ seq := 0, bytes := [7] }] }));
      let slot : SlotIx := 0;
      let b : List Byte := (packet 0x0303 0 8 0 [] []);
      let r : HeldReply := { seq := 0, bytes := [7] };
      let x := s.session slot.val;
      let q := field b 4 2;
      let ahead := (q + 65536 - x.lastSeq.toNat) % 65536;
      (ahead = 0 ∨ 32768 < ahead) ∧ x.replies.find? (fun (r : HeldReply) => decide (r.seq.toNat = q)) = some r) ∧
    (let s : State := w0;
      let slot : SlotIx := 0;
      let b : List Byte := (packet 0x0303 0 8 0 [] []);
      let r : HeldReply := { seq := 0, bytes := [7] };
      let x := s.session slot.val;
      let q := field b 4 2;
      let ahead := (q + 65536 - x.lastSeq.toNat) % 65536;
      (ahead = 0 ∨ 32768 < ahead) ∧ x.replies.find? (fun (r : HeldReply) => decide (r.seq.toNat = q)) = none) := by
  refine ⟨?_, ?_, ?_⟩ <;> dsimp only [Takes, Acts, ActsExpert, Follows, Reads, Local, Runs] <;> decide +kernel

theorem test_PacketDiscards :
    (let s : State := (wBoot (wSes w0 (fun x => { x with id := 8, key := [1] })) (fun b => { b with ready := true }));
      let b : List Byte := [];
      let form := field b 0 2 = 0x4A51 ∧ 32 ≤ b.length ∧ 32 + field b 6 2 ≤ b.length;
      s.serves = true ∧ ¬ form) ∧
    (let s : State := (wBoot (wSes w0 (fun x => { x with id := 8, key := [1] })) (fun b => { b with ready := true }));
      let src : HostSource := .pcie;
      let b : List Byte := (packet 0x0303 1 8 0 [1] []);
      let slot : SlotIx := 0;
      let id := field b 8 4;
      let x := s.session slot.val;
      let form := field b 0 2 = 0x4A51 ∧ 32 ≤ b.length ∧ 32 + field b 6 2 ≤ b.length;
      let op := field b 2 2;
      s.serves = true ∧ form ∧ op ≠ 0x0201 ∧ id % 8 = slot.val ∧ x.phase = .opened ∧ x.id.toNat = id ∧ x.source ≠ src) ∧
    (let s : State := (wBoot (wSes w0 (fun x => { x with id := 8, key := [2] })) (fun b => { b with ready := true }));
      let src : HostSource := (.udp 0 0x0A000001 5000);
      let b : List Byte := (packet 0x0303 1 8 0 [1] []);
      let slot : SlotIx := 0;
      let id := field b 8 4;
      let x := s.session slot.val;
      let form := field b 0 2 = 0x4A51 ∧ 32 ≤ b.length ∧ 32 + field b 6 2 ≤ b.length;
      let op := field b 2 2;
      s.serves = true ∧ form ∧ op ≠ 0x0201 ∧ op ≠ 0x0202 ∧ id % 8 = slot.val ∧ x.phase = .opened ∧ x.id.toNat = id ∧ x.source = src ∧ packetTagOk x.key b = false) ∧
    (let s : State := (wBoot (wSes w0 (fun x => { x with id := 8, key := [1] })) (fun b => { b with ready := true }));
      let src : HostSource := (.udp 0 0x0A000001 5000);
      let b : List Byte := (packet 0x0303 1 8 0 [1] []);
      let slot : SlotIx := 0;
      let id := field b 8 4;
      let x := s.session slot.val;
      let form := field b 0 2 = 0x4A51 ∧ 32 ≤ b.length ∧ 32 + field b 6 2 ≤ b.length;
      let op := field b 2 2;
      s.serves = true ∧ form ∧ op ≠ 0x0201 ∧ op ≠ 0x0202 ∧ id % 8 = slot.val ∧ x.phase = .opened ∧ x.id.toNat = id ∧ x.source = src ∧ packetTagOk x.key b = true) ∧
    (let s : State := (wBoot (wSes w0 (fun x => { x with id := 8, key := [1] })) (fun b => { b with ready := true }));
      let b : List Byte := (packet 0x0303 1 0 0 [1] []);
      let slot : SlotIx := 0;
      let id := field b 8 4;
      let x := s.session slot.val;
      let form := field b 0 2 = 0x4A51 ∧ 32 ≤ b.length ∧ 32 + field b 6 2 ≤ b.length;
      let op := field b 2 2;
      s.serves = true ∧ form ∧ op ≠ 0x0201 ∧ id % 8 = slot.val ∧ (x.phase = .free ∨ x.id.toNat ≠ id)) := by
  refine ⟨?_, ?_, ?_, ?_, ?_⟩ <;> dsimp only [Takes, Acts, ActsExpert, Follows, Reads, Local, Runs] <;> decide +kernel

theorem test_DeviceCommands :
    (let s : State := w0;
      let c : CmdCtx := c0;
      Reads s c 0x0101 1) ∧
    (let s : State := w0;
      let c : CmdCtx := c0;
      let sev : BitVec 8 := 2;
      Local s c 0x0102 1 ∧ sev.toNat ≤ 2) ∧
    (let s : State := w0;
      let c : CmdCtx := c0;
      let sev : BitVec 8 := 3;
      Local s c 0x0102 1 ∧ 2 < sev.toNat) ∧
    (let s : State := w0;
      let c : CmdCtx := c0;
      let kind : BitVec 8 := 2;
      Local s c 0x0103 5 ∧ kind ≠ 1) ∧
    (let s : State := (wIn w0 .ready);
      let c : CmdCtx := c0;
      let kind : BitVec 8 := 1;
      let t := s.takeUp c;
      Local s c 0x0103 5 ∧ kind = 1 ∧ ((∃ a, a < 256 ∧ t.axState a ≠ .disabled))) ∧
    (let s : State := (wHost w0 (fun h => { h with history := [{ seq := 5, code := 1, sev := 1, flags := 0, sec := 0, ns := 0, cycle := 0, inst := 0, status := 0, session := 0, cmdSeq := 0, opcode := 0, data := [] }] }));
      let c : CmdCtx := c0;
      let n : BitVec 8 := 22;
      let start : BitVec 32 := 5;
      let t := s.takeUp c;
      let recs := (List.range n.toNat).filterMap (fun i => t.host.history.find? (fun (e : Event) => decide (e.seq = start + BitVec.ofNat 32 i)));
      let most := if (t.session c.slot.val).source = .pcie then 3 else 22;
      Reads s c 0x0104 1 ∧ 1 ≤ n.toNat ∧ n.toNat ≤ most ∧ recs ≠ []) ∧
    (let s : State := w0;
      let c : CmdCtx := c0;
      let n : BitVec 8 := 22;
      let start : BitVec 32 := 5;
      let t := s.takeUp c;
      let recs := (List.range n.toNat).filterMap (fun i => t.host.history.find? (fun (e : Event) => decide (e.seq = start + BitVec.ofNat 32 i)));
      let most := if (t.session c.slot.val).source = .pcie then 3 else 22;
      Reads s c 0x0104 1 ∧ (n.toNat = 0 ∨ most < n.toNat ∨ recs = [])) := by
  refine ⟨?_, ?_, ?_, ?_, ?_, ?_, ?_⟩ <;> dsimp only [Takes, Acts, ActsExpert, Follows, Reads, Local, Runs] <;> decide +kernel

theorem test_ParameterAccess_1 :
    (let s : State := w0;
      let c : CmdCtx := c0;
      let ids : List (BitVec 32) := [];
      let t := s.takeUp c;
      let most := if (t.session c.slot.val).source = .pcie then 13 else 89;
      Reads s c 0x0301 1 ∧ (ids = [] ∨ most < ids.length)) ∧
    (let s : State := w0;
      let c : CmdCtx := c0;
      let id : BitVec 32 := 0x04000102;
      let r : ParamRow := (⟨0x04000102, 256, 2, 10, 8000, 2000, false, true⟩ : ParamRow);
      let i : Nat := 0;
      Reads s c 0x0303 1 ∧ paramFind id.toNat = some (r, i)) ∧
    (let s : State := w0;
      let c : CmdCtx := c0;
      let id : BitVec 32 := 0;
      Reads s c 0x0303 1 ∧ paramFind id.toNat = none) ∧
    (let s : State := w0;
      let c : CmdCtx := c0;
      let item : ParItem := ({ id := 0x04000102, value := 9 } : ParItem);
      let st : Nat := 0x0105;
      let t := s.takeUp c;
      let set := Takes s c 0x0302 3 (parExpert item) true true;
      set ∧ t.parCheck item = .error st) ∧
    (let s : State := w0;
      let c : CmdCtx := c0;
      let item : ParItem := ({ id := 0x04000102, value := 10 } : ParItem);
      let v : Int := 10;
      let t := s.takeUp c;
      let set := Takes s c 0x0302 3 (parExpert item) true true;
      set ∧ t.parCheck item = .ok v) ∧
    (let s : State := w0;
      let c : CmdCtx := c0;
      let item : ParItem := ({ id := 0x07000040, value := 1 } : ParItem);
      let i : Nat := 0;
      let x : ObjRow := (⟨0x07000040, 16, false, 0x00F00000, false⟩ : ObjRow);
      let set := Takes s c 0x0302 3 (parExpert item) true true;
      set ∧ objOf item.id.toNat = some (.word x i) ∧ x.w1c ≠ 0) ∧
    (let s : State := w0;
      let c : CmdCtx := c0;
      let item : ParItem := ({ id := 0x0A000040, value := 1 } : ParItem);
      let i : Nat := 0;
      let x : ObjRow := (⟨0x0A000040, 1, false, 0, false⟩ : ObjRow);
      let set := Takes s c 0x0302 3 (parExpert item) true true;
      set ∧ objOf item.id.toNat = some (.word x i) ∧ x.w1c = 0) ∧
    (let s : State := w0;
      let c : CmdCtx := c0;
      let item : ParItem := ({ id := 0x04000102, value := 10 } : ParItem);
      let r : ParamRow := (⟨0x04000102, 256, 2, 10, 8000, 2000, false, true⟩ : ParamRow);
      let i : Nat := 0;
      let set := Takes s c 0x0302 3 (parExpert item) true true;
      set ∧ objOf item.id.toNat = some (.param r i)) := by
  refine ⟨?_, ?_, ?_, ?_, ?_, ?_, ?_, ?_⟩ <;> dsimp only [Takes, Acts, ActsExpert, Follows, Reads, Local, Runs] <;> decide +kernel

theorem test_ParameterAccess_2 :
    (let s : State := w0;
      let c : CmdCtx := c0;
      Acts s c 0x0302 3) ∧
    (let s : State := w0;
      let v : Int := 10;
      let ready : List ParWrite := [];
      s.host.parQueue = ready ∧ ((∀ v ∈ ready, s.boundaryPast v.cycle = true))) ∧
    (let s : State := w0;
      let v : Int := 10;
      let w : ParWrite := ({ ctx := c0, id := 7, value := 1, cycle := 3 } : ParWrite);
      let ready : List ParWrite := [];
      let first := ∀ v ∈ ready, v.cycle = w.cycle → v.id = w.id → w.ctx.slot ≤ v.ctx.slot;
      first ∧ s.landStatus w.id w.value = 0) ∧
    (let s : State := w0;
      let v : Int := 10;
      let st : Nat := 0x0105;
      let w : ParWrite := ({ ctx := c0, id := 0x04000102, value := 9, cycle := 3 } : ParWrite);
      let ready : List ParWrite := [];
      let first := ∀ v ∈ ready, v.cycle = w.cycle → v.id = w.id → w.ctx.slot ≤ v.ctx.slot;
      first ∧ s.landStatus w.id w.value = st ∧ st ≠ 0) ∧
    (let r : ParamRow := (⟨0x04000102, 256, 2, 10, 8000, 2000, false, true⟩ : ParamRow);
      let i : Nat := 0;
      let w : ParWrite := ({ ctx := c0, id := 0x04000102, value := 10, cycle := 3 } : ParWrite);
      objOf w.id = some (.param r i)) ∧
    (let i : Nat := 0;
      let w : ParWrite := ({ ctx := c0, id := 0x07000040, value := 1, cycle := 3 } : ParWrite);
      let x : ObjRow := (⟨0x07000040, 16, false, 0x00F00000, false⟩ : ObjRow);
      objOf w.id = some (.word x i)) ∧
    (let v : Int := 10;
      let w : ParWrite := ({ ctx := { c0 with slot := 7 }, id := 7, value := 1, cycle := 3 } : ParWrite);
      let ready : List ParWrite := [({ ctx := c0, id := 7, value := 1, cycle := 3 } : ParWrite)];
      let first := ∀ v ∈ ready, v.cycle = w.cycle → v.id = w.id → w.ctx.slot ≤ v.ctx.slot;
      ¬ first) := by
  refine ⟨?_, ?_, ?_, ?_, ?_, ?_, ?_⟩ <;> dsimp only [Takes, Acts, ActsExpert, Follows, Reads, Local, Runs] <;> decide +kernel

theorem test_ParameterWriteChecks :
    (let item : ParItem := { id := 0x04000102, value := 9 };
      let r : ParamRow := (⟨0x04000102, 256, 2, 10, 8000, 2000, false, true⟩ : ParamRow);
      let i : Nat := 0;
      let v := itemValue r.format item.value;
      objOf item.id.toNat = some (.param r i) ∧ r.admits v = false) ∧
    (let item : ParItem := { id := 0x0A100001, value := 65535 };
      let r : ParamRow := (⟨0x0A100001, 64, 2, 0, 65535, 0, false, false⟩ : ParamRow);
      let i : Nat := 0;
      let v := itemValue r.format item.value;
      let named := r.base = 0x0A100001 → probeOk v.toNat = true;
      objOf item.id.toNat = some (.param r i) ∧ r.admits v = true ∧ ¬ named) ∧
    (let item : ParItem := { id := 0x08200001, value := 0 };
      let r : ParamRow := (⟨0x08200001, 256, 1, 0, 31, 0, false, false⟩ : ParamRow);
      let i : Nat := 0;
      let v := itemValue r.format item.value;
      let named := r.base = 0x0A100001 → probeOk v.toNat = true;
      objOf item.id.toNat = some (.param r i) ∧ r.admits v = true ∧ named ∧ isSafetyId r.base = true) ∧
    (let s : State := (w0.setPar 0x07300001 2);
      let item : ParItem := { id := 0x04000102, value := 8000 };
      let r : ParamRow := (⟨0x04000102, 256, 2, 10, 8000, 2000, false, true⟩ : ParamRow);
      let i : Nat := 0;
      let v := itemValue r.format item.value;
      let next := s.planned.setPar (r.base + i * 4096) v;
      let now := if heldForOpening r = true then next else s.setPar (r.base + i * 4096) v;
      let fits := now.joined r.base i = true ∧ next.joined r.base i = true;
      let named := r.base = 0x0A100001 → probeOk v.toNat = true;
      objOf item.id.toNat = some (.param r i) ∧ r.admits v = true ∧ named ∧ isSafetyId r.base = false ∧ ¬ fits) ∧
    (let s : State := (wIn w0 .ready);
      let item : ParItem := { id := 0x04000130, value := 0 };
      let r : ParamRow := (⟨0x04000130, 256, 1, 0, 2, 1, false, false⟩ : ParamRow);
      let i : Nat := 0;
      let v := itemValue r.format item.value;
      let next := s.planned.setPar (r.base + i * 4096) v;
      let now := if heldForOpening r = true then next else s.setPar (r.base + i * 4096) v;
      let fits := now.joined r.base i = true ∧ next.joined r.base i = true;
      let named := r.base = 0x0A100001 → probeOk v.toNat = true;
      objOf item.id.toNat = some (.param r i) ∧ r.admits v = true ∧ named ∧ isSafetyId r.base = false ∧ fits ∧ r.live = false ∧ s.stopped r.base i = false) ∧
    (let s : State := w0;
      let item : ParItem := { id := 0x04000103, value := 1000 };
      let r : ParamRow := (⟨0x04000103, 256, 2, 1, 1000, 20, false, true⟩ : ParamRow);
      let i : Nat := 0;
      let v := itemValue r.format item.value;
      let next := s.planned.setPar (r.base + i * 4096) v;
      let now := if heldForOpening r = true then next else s.setPar (r.base + i * 4096) v;
      let fits := now.joined r.base i = true ∧ next.joined r.base i = true;
      let named := r.base = 0x0A100001 → probeOk v.toNat = true;
      objOf item.id.toNat = some (.param r i) ∧ r.admits v = true ∧ named ∧ isSafetyId r.base = false ∧ fits ∧ ((r.live = true ∨ s.stopped r.base i = true)) ∧ now.writeState r.base i = none ∧ now.writeRoom r.base i = none ∧ next.writeRoom r.base i = none) := by
  refine ⟨?_, ?_, ?_, ?_, ?_, ?_⟩ <;> dsimp only [Takes, Acts, ActsExpert, Follows, Reads, Local, Runs] <;> decide +kernel

theorem test_AxisEnableCommands_1 :
    (let s : State := (wLife w0 (fun l => { l with state := .enabling }));
      let c : CmdCtx := c0;
      let axis : BitVec 16 := 0;
      let t := s.takeUp c;
      let a := axis.toNat;
      let st := t.axState a;
      let l := (t.axis a).life;
      let free := l.held = none;
      let stands := t.enableStands a = true;
      axis.toNat < 256 ∧ (st = .enabling ∨ st = .ready ∨ st = .running) ∧ free ∧ Acts s c 0x0401 2 ∧ ¬ stands ∧ st = .enabling ∧ Acts s c 0x0402 2) ∧
    (let s : State := (wLife w0 (fun l => { l with state := .stopping }));
      let c : CmdCtx := c0;
      let axis : BitVec 16 := 0;
      let t := s.takeUp c;
      let a := axis.toNat;
      let st := t.axState a;
      let l := (t.axis a).life;
      let free := l.held = none;
      axis.toNat < 256 ∧ (st = .stopping ∨ st = .torqueOff) ∧ free ∧ Acts s c 0x0401 2) ∧
    (let s : State := (wLife w0 (fun l => { l with state := .stopping, held := some c0 }));
      let c : CmdCtx := c0;
      let axis : BitVec 16 := 0;
      let t := s.takeUp c;
      let a := axis.toNat;
      let l := (t.axis a).life;
      let free := l.held = none;
      axis.toNat < 256 ∧ ¬ free ∧ Acts s c 0x0401 2) ∧
    (let s : State := w0;
      let c : CmdCtx := c0;
      let axis : BitVec 16 := 0;
      let k := 0x0301;
      let t := s.takeUp c;
      let a := axis.toNat;
      let st := t.axState a;
      let l := (t.axis a).life;
      let free := l.held = none;
      axis.toNat < 256 ∧ (st = .disabled ∨ st = .fault) ∧ free ∧ t.enableRefusal a = some k ∧ Acts s c 0x0401 2) ∧
    (let s : State := (wSaf ((w0.setPar 0x04000101 0).setPar 0x04100001 1) (fun f => { f with p := ({ f.p with paramOk := true }).setGroup 0 { code := 0 }, h := ({ f.h with paramOk := true }).setGroup 0 { code := 0 } }));
      let c : CmdCtx := c0;
      let axis : BitVec 16 := 0;
      let t := s.takeUp c;
      let a := axis.toNat;
      let st := t.axState a;
      let l := (t.axis a).life;
      let free := l.held = none;
      axis.toNat < 256 ∧ (st = .disabled ∨ st = .fault) ∧ free ∧ t.enableRefusal a = none ∧ Acts s c 0x0401 2) ∧
    (let s : State := (wLife (wCyc w0 (fun c => { c with running := true })) (fun l => { l with enabledAt := some 0 }));
      let c : CmdCtx := c0;
      let axis : BitVec 16 := 0;
      let t := s.takeUp c;
      let a := axis.toNat;
      let stands := t.enableStands a = true;
      axis.toNat < 256 ∧ stands ∧ Acts s c 0x0402 2) ∧
    (let s : State := (wLife w0 (fun l => { l with state := .ready }));
      let c : CmdCtx := c0;
      let axis : BitVec 16 := 0;
      let t := s.takeUp c;
      let a := axis.toNat;
      let st := t.axState a;
      let stands := t.enableStands a = true;
      axis.toNat < 256 ∧ ¬ stands ∧ (st = .ready ∨ st = .running) ∧ Acts s c 0x0402 2) ∧
    (let s : State := w0;
      let c : CmdCtx := c0;
      let axis : BitVec 16 := 0;
      let t := s.takeUp c;
      let a := axis.toNat;
      let st := t.axState a;
      let l := (t.axis a).life;
      let stands := t.enableStands a = true;
      let may := l.state = .fault ∧ (l.stoPath = true ∨ l.reactDone = true) ∧ (t.axis a).fbk.torqueOn = false ∧ t.causeGone a = true;
      axis.toNat < 256 ∧ ¬ stands ∧ (st = .stopping ∨ st = .torqueOff ∨ st = .disabled ∨ st = .fault) ∧ Acts s c 0x0402 2 ∧ ¬ may ∧ Acts s c 0x0403 2) := by
  refine ⟨?_, ?_, ?_, ?_, ?_, ?_, ?_, ?_⟩ <;> dsimp only [Takes, Acts, ActsExpert, Follows, Reads, Local, Runs] <;> decide +kernel

theorem test_AxisEnableCommands_2 :
    (let axis : BitVec 16 := 0;
      axis.toNat < 256) ∧
    (let s : State := (wLife w0 (fun l => { l with state := .fault, reactDone := true }));
      let c : CmdCtx := c0;
      let axis : BitVec 16 := 0;
      let t := s.takeUp c;
      let a := axis.toNat;
      let l := (t.axis a).life;
      let may := l.state = .fault ∧ (l.stoPath = true ∨ l.reactDone = true) ∧ (t.axis a).fbk.torqueOn = false ∧ t.causeGone a = true;
      axis.toNat < 256 ∧ may ∧ l.cause ≠ 8 ∧ Acts s c 0x0403 2) ∧
    (let s : State := w0;
      let c : CmdCtx := c0;
      let axis : BitVec 16 := 0;
      let on : BitVec 8 := 2;
      axis.toNat < 256 ∧ 1 < on.toNat ∧ Acts s c 0x0408 3) ∧
    (let s : State := (wLife w0 (fun l => { l with state := .enabling }));
      let c : CmdCtx := c0;
      let axis : BitVec 16 := 0;
      let on : BitVec 8 := 1;
      let t := s.takeUp c;
      let a := axis.toNat;
      let st := t.axState a;
      axis.toNat < 256 ∧ on.toNat ≤ 1 ∧ st ≠ .disabled ∧ Acts s c 0x0408 3) ∧
    (let s : State := w0;
      let c : CmdCtx := c0;
      let axis : BitVec 16 := 0;
      let on : BitVec 8 := 1;
      let t := s.takeUp c;
      let a := axis.toNat;
      let st := t.axState a;
      axis.toNat < 256 ∧ on.toNat ≤ 1 ∧ st = .disabled ∧ Acts s c 0x0408 3) := by
  refine ⟨?_, ?_, ?_, ?_, ?_⟩ <;> dsimp only [Takes, Acts, ActsExpert, Follows, Reads, Local, Runs] <;> decide +kernel

theorem test_CoefficientAccess_1 :
    (let s : State := w0;
      let c : CmdCtx := c0;
      let axis : BitVec 16 := 0;
      let off : BitVec 16 := 0x73;
      let v : Word48 := 0xFFFFFFFFFFFF;
      let acc := coefAccess off.toNat;
      let may := Takes s c 0x0407 3 (decide (acc = 3)) true true;
      let bad := acc = 0 ∨ (off = 0x73 ∧ v.toInt < 0);
      axis.toNat < 256 ∧ may ∧ bad) ∧
    (let s : State := (wIn w0 .ready);
      let c : CmdCtx := c0;
      let axis : BitVec 16 := 0;
      let off : BitVec 16 := 0x10;
      let v : Word48 := 0;
      let t := s.takeUp c;
      let k := axis.toNat;
      let acc := coefAccess off.toNat;
      let may := Takes s c 0x0407 3 (decide (acc = 3)) true true;
      let dis := acc = 1 → t.axState k = .disabled;
      let bad := acc = 0 ∨ (off = 0x73 ∧ v.toInt < 0);
      axis.toNat < 256 ∧ may ∧ ¬ bad ∧ ¬ dis) ∧
    (let s : State := (wLaw w0 (fun l => { l with coefQ := List.replicate 16 { ctx := c0, offset := 2, value := 0, cycle := 3 } }));
      let c : CmdCtx := c0;
      let axis : BitVec 16 := 0;
      let off : BitVec 16 := 0x10;
      let v : Word48 := 0;
      let t := s.takeUp c;
      let k := axis.toNat;
      let acc := coefAccess off.toNat;
      let may := Takes s c 0x0407 3 (decide (acc = 3)) true true;
      let full := 16 ≤ (t.axis k).law.coefQ.length;
      let dis := acc = 1 → t.axState k = .disabled;
      let bad := acc = 0 ∨ (off = 0x73 ∧ v.toInt < 0);
      axis.toNat < 256 ∧ may ∧ ¬ bad ∧ dis ∧ full) ∧
    (let s : State := w0;
      let c : CmdCtx := c0;
      let axis : BitVec 16 := 0;
      let off : BitVec 16 := 0x10;
      let v : Word48 := 0;
      let t := s.takeUp c;
      let k := axis.toNat;
      let acc := coefAccess off.toNat;
      let may := Takes s c 0x0407 3 (decide (acc = 3)) true true;
      let full := 16 ≤ (t.axis k).law.coefQ.length;
      let dis := acc = 1 → t.axState k = .disabled;
      let bad := acc = 0 ∨ (off = 0x73 ∧ v.toInt < 0);
      axis.toNat < 256 ∧ may ∧ ¬ bad ∧ dis ∧ ¬ full) ∧
    (let s : State := w0;
      let c : CmdCtx := c0;
      let axis : BitVec 16 := 0;
      let off : BitVec 16 := 0x10;
      let n : BitVec 8 := 32;
      let fits := 1 ≤ n.toNat ∧ n.toNat ≤ 32 ∧ off.toNat + n.toNat ≤ 0x400;
      axis.toNat < 256 ∧ Reads s c 0x040A 1 ∧ fits) ∧
    (let s : State := w0;
      let c : CmdCtx := c0;
      let axis : BitVec 16 := 0;
      let off : BitVec 16 := 0x3FF;
      let n : BitVec 8 := 32;
      let fits := 1 ≤ n.toNat ∧ n.toNat ≤ 32 ∧ off.toNat + n.toNat ≤ 0x400;
      axis.toNat < 256 ∧ Reads s c 0x040A 1 ∧ ¬ fits) ∧
    (let s : State := (wEng w0 (fun e => { e with eng := (((z.setEngine 0 { (z.engine 0) with task := some rr })).eng.eng) }));
      let axis : BitVec 16 := 0;
      let a : AxisIx := 0;
      let busy := s.axisBusy a.val = true;
      axis.toNat < 256 ∧ busy) ∧
    (let s : State := w0;
      let axis : BitVec 16 := 0;
      let a : AxisIx := 0;
      let busy := s.axisBusy a.val = true;
      let settled := ¬ busy ∧ (s.axis a.val).law.tableNext = none;
      axis.toNat < 256 ∧ settled ∧ (s.axis a.val).law.coefQ = []) := by
  refine ⟨?_, ?_, ?_, ?_, ?_, ?_, ?_, ?_⟩ <;> dsimp only [Takes, Acts, ActsExpert, Follows, Reads, Local, Runs] <;> decide +kernel

theorem test_CoefficientAccess_2 :
    (let s : State := (wLaw w0 (fun l => { l with coefQ := [{ ctx := c0, offset := 2, value := 0, cycle := 3 }] }));
      let axis : BitVec 16 := 0;
      let a : AxisIx := 0;
      let w : CoefWrite := { ctx := c0, offset := 2, value := 0, cycle := 3 };
      let q : List CoefWrite := [];
      let busy := s.axisBusy a.val = true;
      let settled := ¬ busy ∧ (s.axis a.val).law.tableNext = none;
      axis.toNat < 256 ∧ settled ∧ (s.axis a.val).law.coefLanded ≠ some s.cyc.cycle ∧ (s.axis a.val).law.coefQ = w :: q ∧ s.boundaryPast w.cycle = true ∧ ((∀ x ∈ q.head?, s.boundaryPast x.cycle = false))) := by
  dsimp only [Takes, Acts, ActsExpert, Follows, Reads, Local, Runs]
  decide +kernel

theorem test_AxisTransitions_1 :
    (let s : State := (wTime (wAxis z (fun x => { x with life := { x.life with state := .enabling, firstBrake := some 0 }, fbk := { x.fbk with status := 0xA0 } })) (fun t => { t with sec := 1 }));
      let a : AxisIx := 0;
      let k : Nat := 0;
      let x := s.axis a.val;
      let l := x.life;
      let ms := fun (id : Nat) => s.parN id a.val * 1000000;
      l.state = .enabling ∧ x.fbk.ready = true ∧ x.fbk.torqueOn = true ∧ l.firstBrake = some k ∧ s.tCycle k + (ms 0x0400013B : Nat) ≤ s.now) ∧
    (let s : State := { (wAxis z (fun x => { x with life := { x.life with state := .enabling, enteredTick := 0 } })) with coreTicks := 500000000 };
      let a : AxisIx := 0;
      let x := s.axis a.val;
      let l := x.life;
      (l.state ≠ .enabling ∨ x.fbk.ready = false ∨ x.fbk.torqueOn = false ∨ l.firstBrake = none)) ∧
    (let s : State := { (wAxis z (fun x => { x with life := { x.life with state := .enabling, firstBrake := some 0 }, fbk := { x.fbk with status := 0xA0 } })) with coreTicks := 500000000 };
      let a : AxisIx := 0;
      let x := s.axis a.val;
      let l := x.life;
      let ms := fun (id : Nat) => s.parN id a.val * 1000000;
      (l.state = .enabling ∨ l.state = .torqueOff) ∧ l.enteredTick + ms 0x0400013C ≤ s.coreTicks) ∧
    (let s : State := (wAxis z (fun x => { x with life := { x.life with state := .stopping, confirm := 32, stopKind := 1 } }));
      let a : AxisIx := 0;
      let x := s.axis a.val;
      let l := x.life;
      let stop := s.parN 0x0400013A a.val ≤ l.confirm;
      stop ∧ l.state = .stopping ∧ l.stopKind ≠ 3) ∧
    (let s : State := (wAxis z (fun x => { x with life := { x.life with state := .fault, confirm := 32, stoPath := false } }));
      let a : AxisIx := 0;
      let x := s.axis a.val;
      let l := x.life;
      let stop := s.parN 0x0400013A a.val ≤ l.confirm;
      stop ∧ l.state = .fault ∧ l.stoPath = false ∧ l.reactDone = false ∧ l.brakeTick = none) ∧
    (let s : State := (wAxis z (fun x => { x with life := { x.life with state := .enabling, firstBrake := some 0 }, fbk := { x.fbk with status := 0xA0 } }));
      let a : AxisIx := 0;
      let x := s.axis a.val;
      let l := x.life;
      let stop := s.parN 0x0400013A a.val ≤ l.confirm;
      ¬ stop) ∧
    (let s : State := { (wAxis z (fun x => { x with life := { x.life with state := .torqueOff, brakeTick := some 0 } })) with coreTicks := 50000000 };
      let a : AxisIx := 0;
      let k : Nat := 0;
      let x := s.axis a.val;
      let l := x.life;
      let ms := fun (id : Nat) => s.parN id a.val * 1000000;
      l.brakeTick = some k ∧ l.stoPath = false ∧ (l.state = .torqueOff ∨ l.state = .fault) ∧ k + ms 0x0400013B ≤ s.coreTicks) ∧
    (let s : State := (wAxis z (fun x => { x with life := { x.life with state := .ready, holdRun := 33 } }));
      let a : AxisIx := 0;
      let x := s.axis a.val;
      let l := x.life;
      l.state ≠ .disabled ∧ l.state ≠ .fault ∧ s.parN 0x0400013F a.val < l.holdRun) := by
  refine ⟨?_, ?_, ?_, ?_, ?_, ?_, ?_, ?_⟩ <;> dsimp only [Takes, Acts, ActsExpert, Follows, Reads, Local, Runs] <;> decide +kernel

theorem test_AxisTransitions_2 :
    (let s : State := (wAxis z (fun x => { x with life := { x.life with state := .ready }, obs := { x.obs with age := 3 } }));
      let a : AxisIx := 0;
      let x := s.axis a.val;
      let l := x.life;
      l.state ≠ .disabled ∧ l.state ≠ .fault ∧ l.parked = false ∧ s.parN 0x04000135 a.val < x.obs.age) ∧
    (let s : State := (wAxis z (fun x => { x with life := { x.life with state := .disabled, parked := true } }));
      let a : AxisIx := 0;
      let x := s.axis a.val;
      let l := x.life;
      l.parked = true) := by
  refine ⟨?_, ?_⟩ <;> dsimp only [Takes, Acts, ActsExpert, Follows, Reads, Local, Runs] <;> decide +kernel

theorem test_FaultReaction :
    (let s : State := (wLife (wIn z .fault) (fun l => { l with stoPath := true }));
      let a : Nat := 0;
      let cause : Nat := 1;
      let l0 := (s.axis a).life;
      let harder := s.reactionSto a cause = true ∧ l0.stoPath = false ∧ l0.reactDone = false;
      a < 256 ∧ s.axState a = .fault ∧ ¬ harder) ∧
    (let s : State := (wIn z .fault);
      let a : Nat := 0;
      let cause : Nat := 1;
      let l0 := (s.axis a).life;
      let harder := s.reactionSto a cause = true ∧ l0.stoPath = false ∧ l0.reactDone = false;
      a < 256 ∧ s.axState a = .fault ∧ harder) ∧
    (let s : State := (wIn z .fault);
      let a : Nat := 255;
      a < 256 ∧ s.axState a ≠ .fault ∧ s.axState a = .disabled ∧ s.host.gathered = none) ∧
    (let s : State := (wIn z .ready);
      let a : Nat := 0;
      let cause : Nat := 1;
      a < 256 ∧ s.axState a ≠ .fault ∧ s.axState a ≠ .disabled ∧ s.reactionSto a cause = true) := by
  refine ⟨?_, ?_, ?_, ?_⟩ <;> dsimp only [Takes, Acts, ActsExpert, Follows, Reads, Local, Runs] <;> decide +kernel

theorem test_HeldEnables_1 :
    (let s : State := (w0.setHeldOut 7 (some c0));
      let a : AxisIx := 0;
      let u := s.answerEnables a.val;
      (u.axis a.val).life.held = none) ∧
    (let s : State := (wLife w0 (fun l => { l with held := some c0, state := .ready }));
      let a : AxisIx := 0;
      let c : CmdCtx := c0;
      let u := s.answerEnables a.val;
      (u.axis a.val).life.held = some c ∧ u.axState a.val ≠ .disabled) ∧
    (let s : State := (wLife w0 (fun l => { l with held := some c0 }));
      let a : AxisIx := 0;
      (s.axis a.val).life.enableWait = []) ∧
    (let s : State := (wLife (wCyc w0 (fun c => { c with cycle := 5, running := true })) (fun l => { l with state := .ready, enableWait := [(c0, 3)] }));
      let a : AxisIx := 0;
      let c : CmdCtx := c0;
      let k := 3;
      (s.axis a.val).life.enableWait = [(c, k)] ∧ s.boundaryPast k = true ∧ (s.axState a.val = .enabling ∨ s.axState a.val = .ready ∨ s.axState a.val = .running)) ∧
    (let s : State := (wLife (wCyc w0 (fun c => { c with cycle := 5, running := true })) (fun l => { l with state := .stopping, enableWait := [(c0, 3)] }));
      let a : AxisIx := 0;
      let c : CmdCtx := c0;
      let k := 3;
      (s.axis a.val).life.enableWait = [(c, k)] ∧ s.boundaryPast k = true ∧ (s.axState a.val = .stopping ∨ s.axState a.val = .torqueOff) ∧ (s.axis a.val).life.held = none) ∧
    (let s : State := (wAxis (wSaf ((w0.setPar 0x04000101 0).setPar 0x04100001 1) (fun f => { f with p := ({ f.p with paramOk := true }).setGroup 0 { code := 0 }, h := ({ f.h with paramOk := true }).setGroup 0 { code := 0 } })) (fun x => { x with life := { x.life with held := some c0 } }));
      let a : AxisIx := 0;
      let c : CmdCtx := c0;
      let u := s.answerEnables a.val;
      let dropped := u.modLife a.val (fun l => { l with held := none });
      (u.axis a.val).life.held = some c ∧ u.axState a.val = .disabled ∧ dropped.enableRefusal a.val = none) ∧
    (let s : State := (wLife w0 (fun l => { l with held := some c0 }));
      let a : AxisIx := 0;
      let c : CmdCtx := c0;
      let k := 0x0301;
      let u := s.answerEnables a.val;
      let dropped := u.modLife a.val (fun l => { l with held := none });
      (u.axis a.val).life.held = some c ∧ u.axState a.val = .disabled ∧ dropped.enableRefusal a.val = some k) ∧
    (let s : State := (w0.setHeldOut 7 (some c0));
      let j : FqIx := 7;
      let c : CmdCtx := c0;
      s.heldOut j.val = some c ∧ (s.fq j.val).therm = false ∧ (s.fq j.val).demag = false ∧ (s.setHeldOut j.val none).fqLatched j.val = false ∧ (s.setHeldOut j.val none).safetyOut j.val = false) := by
  refine ⟨?_, ?_, ?_, ?_, ?_, ?_, ?_, ?_⟩ <;> dsimp only [Takes, Acts, ActsExpert, Follows, Reads, Local, Runs] <;> decide +kernel

theorem test_HeldEnables_2 :
    (let s : State := ((w0.setHeldOut 7 (some c0)).modFq 7 (fun x => { x with therm := true }));
      let j : FqIx := 7;
      let c : CmdCtx := c0;
      s.heldOut j.val = some c ∧ ((s.fq j.val).therm = true ∨ (s.fq j.val).demag = true)) := by
  dsimp only [Takes, Acts, ActsExpert, Follows, Reads, Local, Runs]
  decide +kernel

theorem test_MotionCommands_1 :
    (let s : State := w0;
      let c : CmdCtx := c0;
      let axis : BitVec 16 := 0;
      let vm : Word48 := 0;
      let am : Word48 := 1000000;
      let dm : Word48 := 1000000;
      let t := s.takeUp c;
      let a := axis.toNat;
      let limits := 0 < vm.toInt ∧ 0 < am.toInt ∧ 0 < dm.toInt ∧ vm.toInt ≤ t.par 0x04000161 a ∧ am.toInt ≤ t.par 0x04000162 a ∧ dm.toInt ≤ t.par 0x04000162 a;
      axis.toNat < 256 ∧ Acts s c 0x0404 2 ∧ ¬ limits) ∧
    (let s : State := w0;
      let c : CmdCtx := c0;
      let axis : BitVec 16 := 0;
      let vm : Word48 := 655360;
      let am : Word48 := 1000000;
      let dm : Word48 := 1000000;
      let t := s.takeUp c;
      let a := axis.toNat;
      let limits := 0 < vm.toInt ∧ 0 < am.toInt ∧ 0 < dm.toInt ∧ vm.toInt ≤ t.par 0x04000161 a ∧ am.toInt ≤ t.par 0x04000162 a ∧ dm.toInt ≤ t.par 0x04000162 a;
      axis.toNat < 256 ∧ Acts s c 0x0404 2 ∧ limits ∧ t.canMove a = false) ∧
    (let s : State := (wIn ((w0.setPar 0x04000161 1000000).setPar 0x04000162 1000000) .ready);
      let c : CmdCtx := c0;
      let axis : BitVec 16 := 0;
      let target : Word48 := 65536000;
      let vm : Word48 := 655360;
      let am : Word48 := 1000000;
      let dm : Word48 := 1000000;
      let jm : Word48 := 0;
      let t := s.takeUp c;
      let a := axis.toNat;
      let kind : ReqKind := .basic target.toInt vm.toInt am.toInt dm.toInt jm.toNat;
      let from_ := t.startRef a t.cyc.cycle kind;
      let short := (t.basicPlan a from_ target.toInt vm.toInt am.toInt dm.toInt jm.toNat).length ≤ 8;
      let limits := 0 < vm.toInt ∧ 0 < am.toInt ∧ 0 < dm.toInt ∧ vm.toInt ≤ t.par 0x04000161 a ∧ am.toInt ≤ t.par 0x04000162 a ∧ dm.toInt ≤ t.par 0x04000162 a;
      axis.toNat < 256 ∧ Acts s c 0x0404 2 ∧ limits ∧ t.canMove a = true ∧ ¬ short) ∧
    (let s : State := (wAxis (wIn ((w0.setPar 0x04000161 1000000).setPar 0x04000162 1000000) .ready) (fun x => { x with req := some (w0.makeRequest 0 .resume (some c0) none) }));
      let c : CmdCtx := c0;
      let axis : BitVec 16 := 0;
      let target : Word48 := 65536;
      let vm : Word48 := 655360;
      let am : Word48 := 1000000;
      let dm : Word48 := 1000000;
      let jm : Word48 := 0;
      let t := s.takeUp c;
      let a := axis.toNat;
      let busy := (t.reqOwner a).isSome = true;
      let kind : ReqKind := .basic target.toInt vm.toInt am.toInt dm.toInt jm.toNat;
      let from_ := t.startRef a t.cyc.cycle kind;
      let short := (t.basicPlan a from_ target.toInt vm.toInt am.toInt dm.toInt jm.toNat).length ≤ 8;
      let limits := 0 < vm.toInt ∧ 0 < am.toInt ∧ 0 < dm.toInt ∧ vm.toInt ≤ t.par 0x04000161 a ∧ am.toInt ≤ t.par 0x04000162 a ∧ dm.toInt ≤ t.par 0x04000162 a;
      axis.toNat < 256 ∧ Acts s c 0x0404 2 ∧ limits ∧ t.canMove a = true ∧ short ∧ busy) ∧
    (let s : State := (wAxis ((w0.setPar 0x04000161 1000000).setPar 0x04000162 1000000) (fun x => { x with life := { x.life with state := .running }, prof := { x.prof with running := true, seg := 5, acc := 99, v := 500 } }));
      let c : CmdCtx := c0;
      let axis : BitVec 16 := 0;
      let target : Word48 := 65536;
      let vm : Word48 := 655360;
      let am : Word48 := 1000000;
      let dm : Word48 := 1000000;
      let jm : Word48 := 65536;
      let t := s.takeUp c;
      let a := axis.toNat;
      let busy := (t.reqOwner a).isSome = true;
      let kind : ReqKind := .basic target.toInt vm.toInt am.toInt dm.toInt jm.toNat;
      let from_ := t.startRef a t.cyc.cycle kind;
      let short := (t.basicPlan a from_ target.toInt vm.toInt am.toInt dm.toInt jm.toNat).length ≤ 8;
      let limits := 0 < vm.toInt ∧ 0 < am.toInt ∧ 0 < dm.toInt ∧ vm.toInt ≤ t.par 0x04000161 a ∧ am.toInt ≤ t.par 0x04000162 a ∧ dm.toInt ≤ t.par 0x04000162 a;
      axis.toNat < 256 ∧ Acts s c 0x0404 2 ∧ limits ∧ t.canMove a = true ∧ short ∧ ¬ busy ∧ t.curveBlocked a t.cyc.cycle kind = true) ∧
    (let s : State := (wIn ((w0.setPar 0x04000161 1000000).setPar 0x04000162 1000000) .ready);
      let c : CmdCtx := c0;
      let axis : BitVec 16 := 0;
      let target : Word48 := 0;
      let vm : Word48 := 655360;
      let am : Word48 := 1000000;
      let dm : Word48 := 1000000;
      let jm : Word48 := 0;
      let t := s.takeUp c;
      let a := axis.toNat;
      let busy := (t.reqOwner a).isSome = true;
      let kind : ReqKind := .basic target.toInt vm.toInt am.toInt dm.toInt jm.toNat;
      let from_ := t.startRef a t.cyc.cycle kind;
      let short := (t.basicPlan a from_ target.toInt vm.toInt am.toInt dm.toInt jm.toNat).length ≤ 8;
      let there := t.axState a = .ready ∧ smod 48 (target.toInt + (t.axis a).prof.homeZero - from_.r) = 0;
      let limits := 0 < vm.toInt ∧ 0 < am.toInt ∧ 0 < dm.toInt ∧ vm.toInt ≤ t.par 0x04000161 a ∧ am.toInt ≤ t.par 0x04000162 a ∧ dm.toInt ≤ t.par 0x04000162 a;
      axis.toNat < 256 ∧ Acts s c 0x0404 2 ∧ limits ∧ t.canMove a = true ∧ short ∧ ¬ busy ∧ t.curveBlocked a t.cyc.cycle kind = false ∧ there) ∧
    (let s : State := (wIn ((w0.setPar 0x04000161 1000000).setPar 0x04000162 1000000) .ready);
      let c : CmdCtx := c0;
      let axis : BitVec 16 := 0;
      let target : Word48 := 65536;
      let vm : Word48 := 655360;
      let am : Word48 := 1000000;
      let dm : Word48 := 1000000;
      let jm : Word48 := 0;
      let t := s.takeUp c;
      let a := axis.toNat;
      let busy := (t.reqOwner a).isSome = true;
      let kind : ReqKind := .basic target.toInt vm.toInt am.toInt dm.toInt jm.toNat;
      let from_ := t.startRef a t.cyc.cycle kind;
      let short := (t.basicPlan a from_ target.toInt vm.toInt am.toInt dm.toInt jm.toNat).length ≤ 8;
      let there := t.axState a = .ready ∧ smod 48 (target.toInt + (t.axis a).prof.homeZero - from_.r) = 0;
      let limits := 0 < vm.toInt ∧ 0 < am.toInt ∧ 0 < dm.toInt ∧ vm.toInt ≤ t.par 0x04000161 a ∧ am.toInt ≤ t.par 0x04000162 a ∧ dm.toInt ≤ t.par 0x04000162 a;
      axis.toNat < 256 ∧ Acts s c 0x0404 2 ∧ limits ∧ t.canMove a = true ∧ short ∧ ¬ busy ∧ t.curveBlocked a t.cyc.cycle kind = false ∧ ¬ there) ∧
    (let s : State := w0;
      let c : CmdCtx := c0;
      let axis : BitVec 16 := 0;
      let dec : Word48 := 0xFFFFFFFFFFFF;
      axis.toNat < 256 ∧ dec.toInt < 0 ∧ Acts s c 0x0405 2) := by
  refine ⟨?_, ?_, ?_, ?_, ?_, ?_, ?_, ?_⟩ <;> dsimp only [Takes, Acts, ActsExpert, Follows, Reads, Local, Runs] <;> decide +kernel

theorem test_MotionCommands_2 :
    (let s : State := w0;
      let c : CmdCtx := c0;
      let axis : BitVec 16 := 0;
      let dec : Word48 := 0;
      let t := s.takeUp c;
      let a := axis.toNat;
      axis.toNat < 256 ∧ 0 ≤ dec.toInt ∧ t.axState a ≠ .running ∧ Acts s c 0x0405 2) ∧
    (let s : State := (wIn ((w0.setPar 0x04000161 1000000).setPar 0x04000162 1000000) .running);
      let c : CmdCtx := c0;
      let axis : BitVec 16 := 0;
      let dec : Word48 := 0;
      let t := s.takeUp c;
      let a := axis.toNat;
      axis.toNat < 256 ∧ 0 ≤ dec.toInt ∧ t.axState a = .running ∧ Acts s c 0x0405 2) ∧
    (let s : State := w0;
      let c : CmdCtx := c0;
      let axis : BitVec 16 := 0;
      let dir : BitVec 8 := 2;
      axis.toNat < 256 ∧ Acts s c 0x0406 2 ∧ 1 < dir.toNat) ∧
    (let s : State := w0;
      let c : CmdCtx := c0;
      let axis : BitVec 16 := 0;
      let dir : BitVec 8 := 1;
      let t := s.takeUp c;
      let a := axis.toNat;
      axis.toNat < 256 ∧ Acts s c 0x0406 2 ∧ dir.toNat ≤ 1 ∧ (t.isStepper a = false ∨ t.axState a ≠ .ready)) ∧
    (let s : State := (wAxis (((wIn ((w0.setPar 0x04000161 1000000).setPar 0x04000162 1000000) .ready).setPar 0x04000160 1).setPar 0x04000101 0) (fun x => { x with req := some (w0.makeRequest 0 .resume (some c0) none) }));
      let c : CmdCtx := c0;
      let axis : BitVec 16 := 0;
      let dir : BitVec 8 := 1;
      let t := s.takeUp c;
      let a := axis.toNat;
      let busy := (t.reqOwner a).isSome = true;
      let homes := t.isStepper a = true ∧ t.axState a = .ready ∧ t.parN 0x04000101 a ≠ 0xFF ∧ (∀ n, t.localPort a = some n → t.parN 0x04200005 n = 1);
      axis.toNat < 256 ∧ Acts s c 0x0406 2 ∧ dir.toNat ≤ 1 ∧ homes ∧ busy) ∧
    (let s : State := (((wIn ((w0.setPar 0x04000161 1000000).setPar 0x04000162 1000000) .ready).setPar 0x04000160 1).setPar 0x04000101 0);
      let c : CmdCtx := c0;
      let axis : BitVec 16 := 0;
      let dir : BitVec 8 := 1;
      let t := s.takeUp c;
      let a := axis.toNat;
      let busy := (t.reqOwner a).isSome = true;
      let homes := t.isStepper a = true ∧ t.axState a = .ready ∧ t.parN 0x04000101 a ≠ 0xFF ∧ (∀ n, t.localPort a = some n → t.parN 0x04200005 n = 1);
      axis.toNat < 256 ∧ Acts s c 0x0406 2 ∧ dir.toNat ≤ 1 ∧ homes ∧ ¬ busy) ∧
    (let s : State := w0;
      let c : CmdCtx := c0;
      let axis : BitVec 16 := 0;
      let mode : BitVec 8 := 2;
      axis.toNat < 256 ∧ Acts s c 0x0502 2 ∧ 1 < mode.toNat) ∧
    (let s : State := w0;
      let c : CmdCtx := c0;
      let axis : BitVec 16 := 0;
      let first : BitVec 16 := 5;
      let mode : BitVec 8 := 1;
      let k : Nat := 0x0106;
      let t := s.takeUp c;
      axis.toNat < 256 ∧ Acts s c 0x0502 2 ∧ mode.toNat ≤ 1 ∧ t.segRefusal first.toNat = some k) := by
  refine ⟨?_, ?_, ?_, ?_, ?_, ?_, ?_, ?_⟩ <;> dsimp only [Takes, Acts, ActsExpert, Follows, Reads, Local, Runs] <;> decide +kernel

theorem test_MotionCommands_3 :
    (let s : State := (wEng w0 (fun e => { e with segWritten := [5] }));
      let c : CmdCtx := c0;
      let axis : BitVec 16 := 0;
      let first : BitVec 16 := 5;
      let mode : BitVec 8 := 1;
      let t := s.takeUp c;
      let a := axis.toNat;
      axis.toNat < 256 ∧ Acts s c 0x0502 2 ∧ mode.toNat ≤ 1 ∧ t.segRefusal first.toNat = none ∧ t.canMove a = false) ∧
    (let s : State := (wEng (wAxis (wIn ((w0.setPar 0x04000161 1000000).setPar 0x04000162 1000000) .ready) (fun x => { x with req := some (w0.makeRequest 0 .resume (some c0) none) })) (fun e => { e with segWritten := [5, 0] }));
      let c : CmdCtx := c0;
      let axis : BitVec 16 := 0;
      let first : BitVec 16 := 5;
      let mode : BitVec 8 := 1;
      let t := s.takeUp c;
      let a := axis.toNat;
      let busy := (t.reqOwner a).isSome = true;
      axis.toNat < 256 ∧ Acts s c 0x0502 2 ∧ mode.toNat ≤ 1 ∧ t.segRefusal first.toNat = none ∧ t.canMove a = true ∧ busy) ∧
    (let s : State := (wEng (wIn ((w0.setPar 0x04000161 1000000).setPar 0x04000162 1000000) .ready) (fun e => { e with segWritten := [5, 0] }));
      let c : CmdCtx := c0;
      let axis : BitVec 16 := 0;
      let first : BitVec 16 := 5;
      let mode : BitVec 8 := 1;
      let t := s.takeUp c;
      let a := axis.toNat;
      let busy := (t.reqOwner a).isSome = true;
      axis.toNat < 256 ∧ Acts s c 0x0502 2 ∧ mode.toNat ≤ 1 ∧ t.segRefusal first.toNat = none ∧ t.canMove a = true ∧ ¬ busy) ∧
    (let s : State := w0;
      let c : CmdCtx := c0;
      let axis : BitVec 16 := 0;
      let t := s.takeUp c;
      let a := axis.toNat;
      axis.toNat < 256 ∧ t.isWaiting a = false ∧ Acts s c 0x0504 2) ∧
    (let s : State := (wAxis ((w0.setPar 0x04000161 1000000).setPar 0x04000162 1000000) (fun x => { x with life := { x.life with state := .running }, prof := { x.prof with waiting := true, running := true, seg := 7 } }));
      let c : CmdCtx := c0;
      let axis : BitVec 16 := 0;
      let k : Nat := 0x0106;
      let t := s.takeUp c;
      let a := axis.toNat;
      let next := (t.segAt (t.axis a).prof.seg).next;
      axis.toNat < 256 ∧ t.isWaiting a = true ∧ t.segRefusal next = some k ∧ Acts s c 0x0504 2) ∧
    (let s : State := (wEng (wAxis (wAxis ((w0.setPar 0x04000161 1000000).setPar 0x04000162 1000000) (fun x => { x with life := { x.life with state := .running }, prof := { x.prof with waiting := true, running := true, seg := 7 } })) (fun x => { x with req := some (w0.makeRequest 0 .resume (some c0) none) })) (fun e => { e with segWritten := [5, 0] }));
      let c : CmdCtx := c0;
      let axis : BitVec 16 := 0;
      let t := s.takeUp c;
      let a := axis.toNat;
      let busy := (t.reqOwner a).isSome = true;
      let next := (t.segAt (t.axis a).prof.seg).next;
      axis.toNat < 256 ∧ t.isWaiting a = true ∧ t.segRefusal next = none ∧ busy ∧ Acts s c 0x0504 2) ∧
    (let s : State := (wEng (wAxis ((w0.setPar 0x04000161 1000000).setPar 0x04000162 1000000) (fun x => { x with life := { x.life with state := .running }, prof := { x.prof with waiting := true, running := true, seg := 7 } })) (fun e => { e with segWritten := [5, 0] }));
      let c : CmdCtx := c0;
      let axis : BitVec 16 := 0;
      let t := s.takeUp c;
      let a := axis.toNat;
      let busy := (t.reqOwner a).isSome = true;
      let next := (t.segAt (t.axis a).prof.seg).next;
      axis.toNat < 256 ∧ Acts s c 0x0504 2 ∧ t.isWaiting a = true ∧ t.segRefusal next = none ∧ ¬ busy) := by
  refine ⟨?_, ?_, ?_, ?_, ?_, ?_, ?_⟩ <;> dsimp only [Takes, Acts, ActsExpert, Follows, Reads, Local, Runs] <;> decide +kernel

namespace SegmentPoolW

def gOk : PvtSeg := { w0 := 0, w1 := 0, w2 := 0xFFFFFFFFFFFF, w3 := 0 }

theorem test_SegmentPool :
    (let s : State := w0;
      let c : CmdCtx := c0;
      let segs : List PvtSeg := [];
      let k := segs.length;
      let form := 1 ≤ k ∧ k ≤ 9;
      ¬ form ∧ Acts s c 0x0501 2) ∧
    (let s : State := w0;
      let c : CmdCtx := c0;
      let first : BitVec 16 := 5;
      let segs : List PvtSeg := [gOk];
      let t := s.takeUp c;
      let k := segs.length;
      let bad := fun (g : PvtSeg) => (pvtVal g).dur < t.period ∨ (((pvtVal g).next = 0xFFFF ∨ (pvtVal g).hold = true) ∧ (pvtVal g).vEnd ≠ 0);
      let form := 1 ≤ k ∧ k ≤ 9;
      let fits := first.toNat + k ≤ 0xF000;
      form ∧ (¬ fits ∨ (∃ g ∈ segs, bad g)) ∧ Acts s c 0x0501 2) ∧
    (let s : State := w0;
      let c : CmdCtx := c0;
      let first : BitVec 16 := 5;
      let n : BitVec 8 := 9;
      let rd := 1 ≤ n.toNat ∧ n.toNat ≤ 9 ∧ first.toNat + n.toNat ≤ 65536;
      Reads s c 0x0505 1 ∧ rd) ∧
    (let s : State := w0;
      let c : CmdCtx := c0;
      let first : BitVec 16 := 5;
      let n : BitVec 8 := 10;
      let rd := 1 ≤ n.toNat ∧ n.toNat ≤ 9 ∧ first.toNat + n.toNat ≤ 65536;
      Reads s c 0x0505 1 ∧ ¬ rd) ∧
    (let s : State := w0;
      s.eng.segWaiting = []) ∧
    (let s : State := (wEng w0 (fun e => { e with segWaiting := [{ ctx := c0, first := 5, segs := [gOk], cycle := 0 }] }));
      let w : SegWrite := { ctx := c0, first := 5, segs := [gOk], cycle := 0 };
      s.eng.segWaiting = [w] ∧ s.boundaryPast w.cycle = true ∧ w.first + w.segs.length ≤ 0xF000) := by
  refine ⟨?_, ?_, ?_, ?_, ?_, ?_⟩ <;> dsimp only [Takes, Acts, ActsExpert, Follows, Reads, Local, Runs] <;> decide +kernel

end SegmentPoolW

namespace GroupMovesW

def lim2 : State := ((((w0.setPar 0x04000161 1000000).setPar 0x04000162 1000000).setPar 0x04001161 1000000).setPar 0x04001162 1000000)
def gm : State := ((lim2.setPar 0x04000163 3).setPar 0x04001163 3)
def gr : State := (gm.modLife 0 (fun l => { l with state := .ready })).modLife 1 (fun l => { l with state := .ready })

theorem test_GroupMoves :
    (let s : State := gm;
      let c : CmdCtx := c0;
      let group : BitVec 8 := 3;
      let f : Word48 := 0;
      let am : Word48 := 1000000;
      let dp : Word48 := 1000000;
      let targets : List (BitVec 16 × Word48) := [(0, 65536), (1, 32768)];
      let t := s.takeUp c;
      let mem := t.members group.toNat;
      let tgt := fun (x : Nat) => (targets.find? (fun (t : BitVec 16 × Word48) => decide (t.1.toNat = x))).map (fun t => t.2.toInt);
      let good := group.toNat < 32 ∧ 0 < f.toInt ∧ 0 < am.toInt ∧ 0 < dp.toInt ∧ targets.length = mem.length ∧ mem ≠ []
            ∧ ∀ x ∈ mem, (tgt x).isSome = true;
      ¬ good ∧ Acts s c 0x0503 2) ∧
    (let s : State := gm;
      let c : CmdCtx := c0;
      let group : BitVec 8 := 3;
      let f : Word48 := 655360;
      let am : Word48 := 1000000;
      let dp : Word48 := 1000000;
      let targets : List (BitVec 16 × Word48) := [(0, 65536), (1, 32768)];
      let t := s.takeUp c;
      let mem := t.members group.toNat;
      let tgt := fun (x : Nat) => (targets.find? (fun (t : BitVec 16 × Word48) => decide (t.1.toNat = x))).map (fun t => t.2.toInt);
      let good := group.toNat < 32 ∧ 0 < f.toInt ∧ 0 < am.toInt ∧ 0 < dp.toInt ∧ targets.length = mem.length ∧ mem ≠ []
            ∧ ∀ x ∈ mem, (tgt x).isSome = true;
      good ∧ ((∃ x ∈ mem, t.axState x ≠ .ready)) ∧ Acts s c 0x0503 2) ∧
    (let s : State := gr;
      let c : CmdCtx := c0;
      let group : BitVec 8 := 3;
      let f : Word48 := 655360;
      let am : Word48 := 1000000;
      let dp : Word48 := 1000000;
      let targets : List (BitVec 16 × Word48) := [(0, 0), (1, 0)];
      let t := s.takeUp c;
      let mem := t.members group.toNat;
      let tgt := fun (x : Nat) => (targets.find? (fun (t : BitVec 16 × Word48) => decide (t.1.toNat = x))).map (fun t => t.2.toInt);
      let good := group.toNat < 32 ∧ 0 < f.toInt ∧ 0 < am.toInt ∧ 0 < dp.toInt ∧ targets.length = mem.length ∧ mem ≠ []
            ∧ ∀ x ∈ mem, (tgt x).isSome = true;
      let ms := mem.map (fun x => (x, smod 48 ((tgt x).getD 0 + (t.axis x).prof.homeZero - (t.axis x).prof.r)));
      good ∧ ((∀ x ∈ mem, t.axState x = .ready)) ∧ ((∀ m ∈ ms, m.2 = 0)) ∧ Acts s c 0x0503 2) ∧
    (let s : State := gr;
      let c : CmdCtx := c0;
      let group : BitVec 8 := 3;
      let f : Word48 := 655360;
      let am : Word48 := 1000000;
      let dp : Word48 := 1000000;
      let j : Word48 := 0;
      let targets : List (BitVec 16 × Word48) := [(0, 65536000), (1, 0)];
      let t := s.takeUp c;
      let mem := t.members group.toNat;
      let tgt := fun (x : Nat) => (targets.find? (fun (t : BitVec 16 × Word48) => decide (t.1.toNat = x))).map (fun t => t.2.toInt);
      let good := group.toNat < 32 ∧ 0 < f.toInt ∧ 0 < am.toInt ∧ 0 < dp.toInt ∧ targets.length = mem.length ∧ mem ≠ []
            ∧ ∀ x ∈ mem, (tgt x).isSome = true;
      let ms := mem.map (fun x => (x, smod 48 ((tgt x).getD 0 + (t.axis x).prof.homeZero - (t.axis x).prof.r)));
      let shape := t.groupShape ms f.toInt am.toInt dp.toInt j.toNat;
      let short := ∀ m ∈ ms, (memberPieces (t.axis m.1).prof.r m.2 shape).length ≤ 8;
      good ∧ ((∀ x ∈ mem, t.axState x = .ready)) ∧ ((∃ m ∈ ms, m.2 ≠ 0)) ∧ ¬ short ∧ Acts s c 0x0503 2) ∧
    (let s : State := (gr.modAxis 1 (fun x => { x with req := some (w0.makeRequest 1 .resume (some c0) none) }));
      let c : CmdCtx := c0;
      let group : BitVec 8 := 3;
      let f : Word48 := 655360;
      let am : Word48 := 1000000;
      let dp : Word48 := 1000000;
      let j : Word48 := 0;
      let targets : List (BitVec 16 × Word48) := [(0, 65536), (1, 32768)];
      let t := s.takeUp c;
      let mem := t.members group.toNat;
      let tgt := fun (x : Nat) => (targets.find? (fun (t : BitVec 16 × Word48) => decide (t.1.toNat = x))).map (fun t => t.2.toInt);
      let good := group.toNat < 32 ∧ 0 < f.toInt ∧ 0 < am.toInt ∧ 0 < dp.toInt ∧ targets.length = mem.length ∧ mem ≠ []
            ∧ ∀ x ∈ mem, (tgt x).isSome = true;
      let ms := mem.map (fun x => (x, smod 48 ((tgt x).getD 0 + (t.axis x).prof.homeZero - (t.axis x).prof.r)));
      let shape := t.groupShape ms f.toInt am.toInt dp.toInt j.toNat;
      let short := ∀ m ∈ ms, (memberPieces (t.axis m.1).prof.r m.2 shape).length ≤ 8;
      good ∧ ((∀ x ∈ mem, t.axState x = .ready)) ∧ ((∃ m ∈ ms, m.2 ≠ 0)) ∧ short ∧ ((∃ x ∈ mem, (t.reqOwner x).isSome = true)) ∧ Acts s c 0x0503 2) ∧
    (let s : State := (gr.setPar 0x040011C3 5);
      let c : CmdCtx := c0;
      let group : BitVec 8 := 3;
      let f : Word48 := 655360;
      let am : Word48 := 1000000;
      let dp : Word48 := 1000000;
      let j : Word48 := 0;
      let targets : List (BitVec 16 × Word48) := [(0, 65536), (1, 32768)];
      let t := s.takeUp c;
      let mem := t.members group.toNat;
      let tgt := fun (x : Nat) => (targets.find? (fun (t : BitVec 16 × Word48) => decide (t.1.toNat = x))).map (fun t => t.2.toInt);
      let good := group.toNat < 32 ∧ 0 < f.toInt ∧ 0 < am.toInt ∧ 0 < dp.toInt ∧ targets.length = mem.length ∧ mem ≠ []
            ∧ ∀ x ∈ mem, (tgt x).isSome = true;
      let ms := mem.map (fun x => (x, smod 48 ((tgt x).getD 0 + (t.axis x).prof.homeZero - (t.axis x).prof.r)));
      let shape := t.groupShape ms f.toInt am.toInt dp.toInt j.toNat;
      let lead := mem.headD 0;
      let short := ∀ m ∈ ms, (memberPieces (t.axis m.1).prof.r m.2 shape).length ≤ 8;
      let one := ∀ x ∈ mem, t.parN 0x040001C3 x = t.parN 0x040001C3 lead;
      good ∧ ((∀ x ∈ mem, t.axState x = .ready)) ∧ ((∃ m ∈ ms, m.2 ≠ 0)) ∧ short ∧ ((∀ x ∈ mem, t.reqOwner x = none)) ∧ ¬ one ∧ Acts s c 0x0503 2) ∧
    (let s : State := gr;
      let c : CmdCtx := c0;
      let group : BitVec 8 := 3;
      let f : Word48 := 655360;
      let am : Word48 := 1000000;
      let dp : Word48 := 1000000;
      let j : Word48 := 0;
      let targets : List (BitVec 16 × Word48) := [(0, 65536), (1, 32768)];
      let t := s.takeUp c;
      let mem := t.members group.toNat;
      let tgt := fun (x : Nat) => (targets.find? (fun (t : BitVec 16 × Word48) => decide (t.1.toNat = x))).map (fun t => t.2.toInt);
      let good := group.toNat < 32 ∧ 0 < f.toInt ∧ 0 < am.toInt ∧ 0 < dp.toInt ∧ targets.length = mem.length ∧ mem ≠ []
            ∧ ∀ x ∈ mem, (tgt x).isSome = true;
      let ms := mem.map (fun x => (x, smod 48 ((tgt x).getD 0 + (t.axis x).prof.homeZero - (t.axis x).prof.r)));
      let shape := t.groupShape ms f.toInt am.toInt dp.toInt j.toNat;
      let lead := mem.headD 0;
      let short := ∀ m ∈ ms, (memberPieces (t.axis m.1).prof.r m.2 shape).length ≤ 8;
      let kind : ReqKind := .group group.toNat ms f.toInt am.toInt dp.toInt j.toNat;
      let q := t.makeRequest lead kind (some c) none;
      let one := ∀ x ∈ mem, t.parN 0x040001C3 x = t.parN 0x040001C3 lead;
      good ∧ ((∀ x ∈ mem, t.axState x = .ready)) ∧ ((∃ m ∈ ms, m.2 ≠ 0)) ∧ short ∧ ((∀ x ∈ mem, t.reqOwner x = none)) ∧ one ∧ t.beyondBudget q.group (t.reqCost lead t.cyc.cycle kind []) = false ∧ Acts s c 0x0503 2) := by
  refine ⟨?_, ?_, ?_, ?_, ?_, ?_, ?_⟩ <;> dsimp only [Takes, Acts, ActsExpert, Follows, Reads, Local, Runs] <;> decide +kernel

end GroupMovesW

theorem test_DirectAndHoming_1 :
    (let s : State := w0;
      let c : CmdCtx := c0;
      let axis : BitVec 16 := 0;
      let op : BitVec 8 := 3;
      axis.toNat < 256 ∧ 2 < op.toNat ∧ ActsExpert s c 0x0409 3) ∧
    (let s : State := w0;
      let c : CmdCtx := c0;
      let axis : BitVec 16 := 0;
      let op : BitVec 8 := 1;
      let t := s.takeUp c;
      let k := axis.toNat;
      let x := t.axis k;
      axis.toNat < 256 ∧ op = 1 ∧ x.life.state ≠ .ready ∧ ActsExpert s c 0x0409 3) ∧
    (let s : State := (wIn ((w0.setPar 0x04000161 1000000).setPar 0x04000162 1000000) .ready);
      let c : CmdCtx := c0;
      let axis : BitVec 16 := 0;
      let op : BitVec 8 := 1;
      let t := s.takeUp c;
      let k := axis.toNat;
      let x := t.axis k;
      axis.toNat < 256 ∧ op = 1 ∧ x.life.state = .ready ∧ ActsExpert s c 0x0409 3) ∧
    (let s : State := w0;
      let c : CmdCtx := c0;
      let axis : BitVec 16 := 0;
      let op : BitVec 8 := 0;
      let t := s.takeUp c;
      let k := axis.toNat;
      let x := t.axis k;
      axis.toNat < 256 ∧ op = 0 ∧ x.life.direct = false ∧ ActsExpert s c 0x0409 3) ∧
    (let s : State := (wLife w0 (fun l => { l with direct := true, state := .running }));
      let c : CmdCtx := c0;
      let axis : BitVec 16 := 0;
      let op : BitVec 8 := 0;
      let t := s.takeUp c;
      let k := axis.toNat;
      let x := t.axis k;
      axis.toNat < 256 ∧ op = 0 ∧ x.life.direct = true ∧ ActsExpert s c 0x0409 3) ∧
    (let s : State := (wLife w0 (fun l => { l with direct := true, state := .running }));
      let c : CmdCtx := c0;
      let axis : BitVec 16 := 0;
      let op : BitVec 8 := 2;
      let r : DirectRef := { apply := 3, r := 0, v := 0 };
      let t := s.takeUp c;
      let k := axis.toNat;
      let x := t.axis k;
      let n := t.rebuildApply r.apply.toNat;
      axis.toNat < 256 ∧ op = 2 ∧ x.life.direct = true ∧ t.cyc.cycle + 2 + t.span k ≤ n ∧ ActsExpert s c 0x0409 3) ∧
    (let s : State := (wLife w0 (fun l => { l with direct := true, state := .running }));
      let c : CmdCtx := c0;
      let axis : BitVec 16 := 0;
      let op : BitVec 8 := 2;
      let r : DirectRef := { apply := 0, r := 0, v := 0 };
      let t := s.takeUp c;
      let k := axis.toNat;
      let x := t.axis k;
      let n := t.rebuildApply r.apply.toNat;
      axis.toNat < 256 ∧ op = 2 ∧ x.life.direct = true ∧ n < t.cyc.cycle + 2 + t.span k ∧ ActsExpert s c 0x0409 3) ∧
    (let s : State := (wAxis z (fun x => { x with life := { x.life with direct := true }, prof := { x.prof with directMiss := 100000 } }));
      let axis : BitVec 16 := 0;
      let a : AxisIx := 0;
      let p := (s.axis a.val).prof;
      axis.toNat < 256 ∧ (s.axis a.val).life.direct = true ∧ s.parN 0x040001E0 a.val ≤ p.directMiss) := by
  refine ⟨?_, ?_, ?_, ?_, ?_, ?_, ?_, ?_⟩ <;> dsimp only [Takes, Acts, ActsExpert, Follows, Reads, Local, Runs] <;> decide +kernel

theorem test_DirectAndHoming_2 :
    (let s : State := w0;
      let axis : BitVec 16 := 0;
      let a : AxisIx := 0;
      let p := (s.axis a.val).prof;
      axis.toNat < 256 ∧ ((s.axis a.val).life.direct = false ∨ p.directMiss < s.parN 0x040001E0 a.val) ∧ p.homing ≠ .stopping) ∧
    (let s : State := (wProf z (fun p => { p with homing := .stopping }));
      let axis : BitVec 16 := 0;
      let a : AxisIx := 0;
      let p := (s.axis a.val).prof;
      axis.toNat < 256 ∧ p.homing = .stopping) ∧
    (let s : State := (wProf z (fun p => { p with homing := .search, homeTravel := 0 }));
      let axis : BitVec 16 := 0;
      let a : AxisIx := 0;
      let p := (s.axis a.val).prof;
      axis.toNat < 256 ∧ p.homing = .search ∧ p.homeTravel ≤ (smod 48 (p.r - p.r0)).natAbs) ∧
    (let s : State := (wProf z (fun p => { p with homing := .backOff }));
      let axis : BitVec 16 := 0;
      let a : AxisIx := 0;
      let p := (s.axis a.val).prof;
      axis.toNat < 256 ∧ p.homing = .backOff ∧ p.r = p.homeZero ∧ p.v = 0) := by
  refine ⟨?_, ?_, ?_, ?_⟩ <;> dsimp only [Takes, Acts, ActsExpert, Follows, Reads, Local, Runs] <;> decide +kernel

theorem test_StepPorts :
    (let held : Nat := 0;
      held < 1000) ∧
    (let s : State := z;
      let n : StIx := 7;
      let held : Nat := 1000;
      1000 ≤ held ∧ s.portAxis n.val = none) ∧
    (let s : State := ((z.setPar 0x04000160 1).setPar 0x04000165 7);
      let n : StIx := 7;
      let level : Bool := false;
      let held : Nat := 1000;
      let a : Nat := 0;
      let active := decide (level = nbit (s.parN 0x04200004 n.val) 3);
      1000 ≤ held ∧ s.portAxis n.val = some a ∧ active = true) ∧
    (let s : State := ((z.setPar 0x04000160 1).setPar 0x04000165 7);
      let n : StIx := 7;
      let level : Bool := true;
      let held : Nat := 1000;
      let a : Nat := 0;
      let active := decide (level = nbit (s.parN 0x04200004 n.val) 3);
      1000 ≤ held ∧ s.portAxis n.val = some a ∧ active = false) ∧
    (let s : State := { (z.modStep 7 (fun p => { p with en := true, enTick := some 0 })) with coreTicks := 65535000000 };
      let n : StIx := 7;
      let k : Nat := 0;
      let p := s.stepPort n.val;
      p.en = true ∧ p.torqueOn = false ∧ p.enTick = some k ∧ k + s.parN 0x04200006 n.val * 1000000 ≤ s.coreTicks) ∧
    (let s : State := z;
      let n : StIx := 7;
      let p := s.stepPort n.val;
      (p.en = false ∨ p.torqueOn = true ∨ p.enTick = none) ∧ (p.driven = false ∨ s.coreTicks % 5 ≠ 0) ∧ p.driven = false) ∧
    (let s : State := (((z.setPar 0x04000160 1).setPar 0x04000165 7).modStep 7 (fun p => { p with driven := true }));
      let n : StIx := 7;
      let a : Nat := 0;
      let p := s.stepPort n.val;
      p.driven = true ∧ s.coreTicks % 5 = 0 ∧ s.portAxis n.val = some a) := by
  refine ⟨?_, ?_, ?_, ?_, ?_, ?_, ?_⟩ <;> dsimp only [Takes, Acts, ActsExpert, Follows, Reads, Local, Runs] <;> decide +kernel

theorem test_MoveListCommands_1 :
    (let s : State := w0;
      let c : CmdCtx := c0;
      let entries : List MoveEntry := [];
      let t := s.takeUp c;
      let most := if (t.session c.slot.val).source = .pcie then 6 else 44;
      let form := 1 ≤ entries.length ∧ entries.length ≤ most;
      Acts s c 0x0601 2 ∧ ¬ form) ∧
    (let s : State := w0;
      let c : CmdCtx := c0;
      let entries : List MoveEntry := [mvE 0];
      let t := s.takeUp c;
      let most := if (t.session c.slot.val).source = .pcie then 6 else 44;
      let form := 1 ≤ entries.length ∧ entries.length ≤ most;
      let rs := t.moveStatuses t.seqsTaken entries;
      let ok := (rs.filter (fun r => decide (r.2 = 0))).map (fun r => newItem r.1);
      Acts s c 0x0601 2 ∧ form ∧ ok = []) ∧
    (let s : State := w0;
      let c : CmdCtx := c0;
      let entries : List MoveEntry := [mvE 3];
      let t := s.takeUp c;
      let most := if (t.session c.slot.val).source = .pcie then 6 else 44;
      let form := 1 ≤ entries.length ∧ entries.length ≤ most;
      let rs := t.moveStatuses t.seqsTaken entries;
      let ok := (rs.filter (fun r => decide (r.2 = 0))).map (fun r => newItem r.1);
      Acts s c 0x0601 2 ∧ form ∧ ok ≠ []) ∧
    (let s : State := (wMoves w0 (fun m => { m with waiting := [{ ctx := c0, items := [mvI .armed], statuses := [0], cycle := 0 }] }));
      let x : MoveItem := mvI .armed;
      let w : MovWait := { ctx := c0, items := [mvI .armed], statuses := [0], cycle := 0 };
      s.moves.waiting = [w] ∧ s.boundaryPast w.cycle = true ∧ ((∀ x ∈ w.items, ∀ y ∈ s.moves.items, x.seqN ≠ y.seqN)) ∧ s.moves.items.length + w.items.length ≤ 4096 ∧ (w.statuses.filter (fun st => decide (st = 0))).length = w.items.length) ∧
    (let s : State := w0;
      let c : CmdCtx := c0;
      let seq : BitVec 32 := 7;
      let t := s.takeUp c;
      t.move seq.toNat = none ∧ Acts s c 0x0602 2 ∧ Reads s c 0x0605 1) ∧
    (let s : State := (wItems w0 [mvI .committed]);
      let c : CmdCtx := c0;
      let seq : BitVec 32 := 7;
      let x : MoveItem := mvI .committed;
      let t := s.takeUp c;
      t.move seq.toNat = some x ∧ x.state = .committed ∧ Acts s c 0x0602 2) ∧
    (let s : State := (wItems w0 [mvI .armed]);
      let c : CmdCtx := c0;
      let seq : BitVec 32 := 7;
      let x : MoveItem := mvI .armed;
      let t := s.takeUp c;
      t.move seq.toNat = some x ∧ x.seqN = seq.toNat ∧ x.state ≠ .committed ∧ Acts s c 0x0602 2 ∧ Reads s c 0x0605 1) ∧
    (let s : State := w0;
      let c : CmdCtx := c0;
      let grp : BitVec 8 := 0x20;
      let named := ¬ (31 < grp.toNat ∧ grp.toNat < 0xFE);
      ¬ named ∧ Acts s c 0x0603 2) := by
  refine ⟨?_, ?_, ?_, ?_, ?_, ?_, ?_, ?_⟩ <;> dsimp only [Takes, Acts, ActsExpert, Follows, Reads, Local, Runs] <;> decide +kernel

theorem test_MoveListCommands_2 :
    (let s : State := w0;
      let c : CmdCtx := c0;
      let grp : BitVec 8 := 0xFF;
      let named := ¬ (31 < grp.toNat ∧ grp.toNat < 0xFE);
      named ∧ Acts s c 0x0603 2) ∧
    (let s : State := w0;
      let c : CmdCtx := c0;
      Acts s c 0x0604 2) := by
  refine ⟨?_, ?_⟩ <;> dsimp only [Takes, Acts, ActsExpert, Follows, Reads, Local, Runs] <;> decide +kernel

theorem test_MoveEntryChecks :
    (let taken : List Nat := [];
      let e : MoveEntry := mvE 0;
      let a := e.action.toNat;
      (e.seq = 0 ∨ e.seq.toNat ∈ taken ∨ a = 0 ∨ 4 < a)) ∧
    (let e : MoveEntry := { mvE 3 with grp := 0x20 };
      31 < e.grp.toNat ∧ e.grp ≠ 0xFF) ∧
    (let e : MoveEntry := { mvE 3 with tol := 10001 };
      10000 < e.tol.toNat) ∧
    (let s : State := (z.setPar 0x041101D2 1);
      let e : MoveEntry := { mvE 3 with trigger := 65536 };
      s.loopLen ≠ 0 ∧ s.loopLen ≤ e.trigger.toNat) ∧
    (let e : MoveEntry := { mvE 3 with axis := 256 };
      let a := e.action.toNat;
      (a = 3 ∨ a = 4) ∧ 255 < e.axis.toNat) ∧
    (let s : State := z;
      let taken : List Nat := [];
      let e : MoveEntry := { mvE 3 with trigger := 65536 };
      let st := s.moveStatus taken e;
      st = 0) := by
  refine ⟨?_, ?_, ?_, ?_, ?_, ?_⟩ <;> dsimp only [Takes, Acts, ActsExpert, Follows, Reads, Local, Runs] <;> decide +kernel

theorem test_MoveListEvents_1 :
    (let s : State := (wEng (wCyc z (fun y => { y with running := true, cycle := 5 })) (fun e => { e with lineDone := some 5 }));
      s.eng.lineDone = some s.cyc.cycle ∧ s.cyc.running = true ∧ s.cyc.movePassed ≠ some s.cyc.cycle) ∧
    (let s : State := z;
      let l := s.line;
      (s.eng.lineDone = none ∨ s.cyc.running = false) ∧ (l.disagree = true ∨ l.discRun < s.parN 0x041101D5 0) ∧ l.valid = false ∧ l.switchBack = false) ∧
    (let s : State := (wAxis (wMoves z (fun m => { m with captures := [{ seq := 7, axis := 0, fire := 0, pos := 0, sample := 3 }] })) (fun x => { x with law := { x.law with fposHist := [{ n := 3, fpos := 0, predicted := false }] } }));
      let seq : BitVec 32 := 7;
      let q : Capture := { seq := 7, axis := 0, fire := 0, pos := 0, sample := 3 };
      let f : FposHist := { n := 3, fpos := 0, predicted := false };
      let hs : List FposHist := [];
      s.moves.captures.find? (fun (c : Capture) => decide (c.seq = seq)) = some q ∧ (s.axis q.axis).law.fposHist = f :: hs ∧ f.n = q.sample) ∧
    (let s : State := z;
      let seq : BitVec 32 := 7;
      s.moves.captures.find? (fun (c : Capture) => decide (c.seq = seq)) = none) ∧
    (let s : State := (wItems z [{ mvI .committed with watch := true, exchanges := 3 }]);
      let seq : BitVec 32 := 7;
      let x : MoveItem := { mvI .committed with watch := true, exchanges := 3 };
      s.move seq.toNat = some x ∧ x.watch = true ∧ x.state = .committed ∧ 3 ≤ x.exchanges) ∧
    (let s : State := (wItems z [mvI .committed]);
      let seq : BitVec 32 := 7;
      let x : MoveItem := mvI .committed;
      s.move seq.toNat = some x ∧ (x.watch = false ∨ x.state ≠ .committed ∨ x.exchanges < 2)) ∧
    (let s : State := { z with line := { z.line with discRun := 65535 } };
      let l := s.line;
      l.disagree = false ∧ s.parN 0x041101D5 0 ≤ l.discRun) ∧
    (let s : State := { z with line := { z.line with valid := true, taskFault := true } };
      let l := s.line;
      l.valid = true ∧ l.taskFault = true) := by
  refine ⟨?_, ?_, ?_, ?_, ?_, ?_, ?_, ?_⟩ <;> dsimp only [Takes, Acts, ActsExpert, Follows, Reads, Local, Runs] <;> decide +kernel

theorem test_MoveListEvents_2 :
    (let s : State := { z with line := { z.line with valid := true, noCount := 70000 } };
      let l := s.line;
      l.valid = true ∧ l.taskFault = false ∧ s.parN 0x041101D6 0 < l.noCount) ∧
    (let s : State := (wEng { (wCyc z (fun y => { y with running := true, cycle := 5 })) with line := { z.line with everValid := true, newCount := true } } (fun e => { e with lineDone := some 5 }));
      let l := s.line;
      l.valid = false ∧ l.everValid = true ∧ l.newCount = true ∧ s.eng.lineDone = some s.cyc.cycle) ∧
    (let s : State := { z with line := { z.line with switchBack := true } };
      let l := s.line;
      l.switchBack = true ∧ l.onB = false) ∧
    (let s : State := { ((z.setPar 0x04110101 0).setPar 0x04100001 1) with line := { z.line with switchBack := true, onB := true } };
      let l := s.line;
      l.switchBack = true ∧ l.onB = true ∧ s.primaryDelivers = true ∧ s.primaryFaulted = false) := by
  refine ⟨?_, ?_, ?_, ?_⟩ <;> dsimp only [Takes, Acts, ActsExpert, Follows, Reads, Local, Runs] <;> decide +kernel

theorem test_FrameCodecRoundTrip :
    (let p : PortIx := 0;
      let h : Hdr := hd 8 4;
      let pl : List Byte := zeros 16;
      h.kind < 16 ∧ h.len < 256 ∧ h.age < 256 ∧ h.cyc < 4294967296 ∧ h.slotN < 32768 ∧ h.seg < 8 ∧ pl.length = 4 * h.len ∧ hdrOk (p.val / 2) h (16 + 4 * h.len) (byteAt pl 0).toNat = true) := by
  dsimp only [Takes, Acts, ActsExpert, Follows, Reads, Local, Runs]
  decide +kernel

theorem test_FrameDiscards :
    (let s : State := ((List.range 16).foldl (fun s p => s.setPar (0x07000001 + 4096 * p) 0) z);
      let f : RxFrame := badF;
      let p := f.port.val;
      let on := s.parN 0x07000001 p ≠ 0 ∧ (s.seg (p / 2)).phase ≠ .test;
      ¬ on) ∧
    (let s : State := z;
      let f : RxFrame := badF;
      let p := f.port.val;
      let x := s.port p;
      let on := s.parN 0x07000001 p ≠ 0 ∧ (s.seg (p / 2)).phase ≠ .test;
      on ∧ (f.error = true ∨ x.fenced = true) ∧ s.soundHdr f = none) ∧
    (let s : State := z;
      let f : RxFrame := { badF with error := false };
      let p := f.port.val;
      let x := s.port p;
      let fits := 16 ≤ f.bytes.length ∧ unle (f.bytes.drop (f.bytes.length - 4)) = crc32 (f.bytes.take (f.bytes.length - 4));
      let on := s.parN 0x07000001 p ≠ 0 ∧ (s.seg (p / 2)).phase ≠ .test;
      on ∧ f.error = false ∧ x.fenced = false ∧ ¬ fits) ∧
    (let s : State := z;
      let f : RxFrame := fr 0 (hd 8 5) (zeros 20);
      let p := f.port.val;
      let x := s.port p;
      let fits := 16 ≤ f.bytes.length ∧ unle (f.bytes.drop (f.bytes.length - 4)) = crc32 (f.bytes.take (f.bytes.length - 4));
      let on := s.parN 0x07000001 p ≠ 0 ∧ (s.seg (p / 2)).phase ≠ .test;
      on ∧ f.error = false ∧ x.fenced = false ∧ fits ∧ hdrOk (p / 2) (parseHdr f.bytes) f.bytes.length (byteAt f.bytes 12).toNat = false) ∧
    (let s : State := z;
      let f : RxFrame := fr 0 (hd 8 4) (zeros 16);
      let h : Hdr := hd 8 4;
      let pl : List Byte := zeros 16;
      let r := s.rx f;
      r = .ok h pl) ∧
    (let s : State := z;
      let f : RxFrame := (fr 0 ({ hb 1 12 with slotN := 0 }) (zeros 48));
      let h : Hdr := { hb 1 12 with slotN := 0 };
      s.soundHdr f = some h ∧ h.loop = true) := by
  refine ⟨?_, ?_, ?_, ?_, ?_, ?_⟩ <;> dsimp only [Takes, Acts, ActsExpert, Follows, Reads, Local, Runs] <;> decide +kernel

theorem test_OpeningSteps_1 :
    (let s : State := (wIn w0 .ready);
      let c : CmdCtx := c0;
      let t := s.takeUp c;
      let dis := t.allDisabled = true;
      ¬ dis ∧ Acts s c 0x0701 5) ∧
    (let s : State := (wSaf w0 (fun f => { f with silent := true }));
      let c : CmdCtx := c0;
      let t := s.takeUp c;
      let dis := t.allDisabled = true;
      let free := t.saf.silent = false ∧ t.saf.endgame = none;
      dis ∧ ¬ free ∧ Acts s c 0x0701 5) ∧
    (let s : State := (wBoot w0 (fun b => { b with openCtx := some c0 }));
      let c : CmdCtx := c0;
      let t := s.takeUp c;
      let dis := t.allDisabled = true;
      let free := t.saf.silent = false ∧ t.saf.endgame = none;
      dis ∧ free ∧ t.boot.openCtx.isSome = true ∧ Acts s c 0x0701 5) ∧
    (let s : State := w0;
      let c : CmdCtx := c0;
      let t := s.takeUp c;
      let dis := t.allDisabled = true;
      let free := t.saf.silent = false ∧ t.saf.endgame = none;
      dis ∧ free ∧ t.boot.openCtx = none ∧ Acts s c 0x0701 5) ∧
    (let s : State := { (wOpen z (fun o => { o with phase := .listen })) with coreTicks := 60000000 };
      let o := s.opening;
      o.phase = .listen ∧ o.since + s.listenTime ≤ s.coreTicks) ∧
    (let s : State := w0;
      let o := s.opening;
      (o.phase ≠ .listen ∨ s.coreTicks < o.since + s.listenTime) ∧ (o.phase ≠ .claim ∨ 50 ≤ o.periods) ∧ (o.phase ≠ .claim ∨ o.periods < 50)) ∧
    (let s : State := (wOpen z (fun o => { o with phase := .claim }));
      let o := s.opening;
      o.phase = .claim ∧ o.since + o.periods * 100000 ≤ s.coreTicks ∧ o.periods < 50) ∧
    (let s : State := { (wOpen z (fun o => { o with phase := .claim, periods := 50 })) with coreTicks := 5000000 };
      let o := s.opening;
      o.phase = .claim ∧ 50 ≤ o.periods ∧ o.since + 5000000 ≤ s.coreTicks) := by
  refine ⟨?_, ?_, ?_, ?_, ?_, ?_, ?_, ?_⟩ <;> dsimp only [Takes, Acts, ActsExpert, Follows, Reads, Local, Runs] <;> decide +kernel

theorem test_OpeningSteps_2 :
    (let s : State := { (wCyc (zr (fun g => { g with phase := .synchronise })) (fun y => { y with running := true })) with coreTicks := 50000000 };
      let seg : SegIx := 0;
      let g := s.seg seg.val;
      let own := s.owners seg.val;
      let synced := (∀ i ∈ own, g.ownerDone i = true) ∧ g.syncFrom + 64 ≤ s.cyc.cycle;
      s.twin.onMove = true ∧ s.cyc.running = true ∧ g.phase = .synchronise ∧ (synced ∨ g.phaseTick + 50000000 ≤ s.coreTicks)) ∧
    (let s : State := w0;
      let seg : SegIx := 0;
      let g := s.seg seg.val;
      (g.phase ≠ .synchronise ∨ s.cyc.running = false)) := by
  refine ⟨?_, ?_⟩ <;> dsimp only [Takes, Acts, ActsExpert, Follows, Reads, Local, Runs] <;> decide +kernel

theorem test_SurveyExchange_1 :
    (let s : State := (zr (fun g => { g with phase := .survey, surveyOut := true, surveyHop := 5 }));
      let f : RxFrame := fr 0 (hd 9 6) ([0x82, 5] ++ zeros 22);
      let h : Hdr := hd 9 6;
      let pl : List Byte := ([0x82, 5] ++ zeros 22);
      let v := s.relay f;
      let n := f.port.val / 2;
      let g := v.seg n;
      let op := (byteAt pl 0).toNat;
      v.rx f = .ok h pl ∧ h.kind = 9 ∧ h.len = 6 ∧ v.twin.onMove = true ∧ g.surveyOut = true ∧ (op = 0x82 ∨ op = 0x83) ∧ g.phase = .survey ∧ (byteAt pl 1).toNat = g.surveyHop) ∧
    (let s : State := z;
      let f : RxFrame := fr 0 (hd 9 6) ([0x82, 5] ++ zeros 22);
      let h : Hdr := hd 9 6;
      let pl : List Byte := ([0x82, 5] ++ zeros 22);
      let v := s.relay f;
      let n := f.port.val / 2;
      let g := v.seg n;
      v.rx f = .ok h pl ∧ (h.kind ≠ 9 ∨ v.twin.onMove = false ∨ g.surveyOut = false)) ∧
    (let s : State := z;
      let f : RxFrame := badF;
      let v := s.relay f;
      (v.rx f = .off ∨ v.rx f = .abort ∨ v.rx f = .crc ∨ v.rx f = .format)) ∧
    (let s : State := (zr (fun g => { g with phase := .survey, surveyOut := true, surveyHop := 5 }));
      let seg : SegIx := 0;
      let b : Bool := true;
      let q := s.seg seg.val;
      s.twin.onMove = true ∧ q.phase = .survey ∧ q.surveyOut = true ∧ q.surveyB = false ∧ b = true) ∧
    (let s : State := (zr (fun g => { g with phase := .survey, surveyOut := true, surveyHop := 5, surveyB := true }));
      let seg : SegIx := 0;
      let b : Bool := false;
      let q := s.seg seg.val;
      s.twin.onMove = true ∧ q.phase = .survey ∧ q.surveyOut = true ∧ q.surveyB = true ∧ b = false) ∧
    (let s : State := z;
      let seg : SegIx := 0;
      let b : Bool := true;
      let q := s.seg seg.val;
      (s.twin.onMove = false ∨ q.phase ≠ .survey ∨ q.surveyOut = false ∨ b = q.surveyB)) ∧
    (let s : State := { (zr (fun g => { g with phase := .survey, surveyOut := true, surveyHop := 5 })) with coreTicks := 1200000 };
      let seg : SegIx := 0;
      let q := s.seg seg.val;
      q.surveyOut = true ∧ s.twin.onMove = true ∧ q.surveySent + 1200000 ≤ s.coreTicks ∧ q.phase = .survey ∧ q.surveyRetry < 2) ∧
    (let s : State := { (zr (fun g => { g with phase := .survey, surveyOut := true, surveyHop := 5, surveyRetry := 2 })) with coreTicks := 1200000 };
      let seg : SegIx := 0;
      let q := s.seg seg.val;
      q.surveyOut = true ∧ s.twin.onMove = true ∧ q.surveySent + 1200000 ≤ s.coreTicks ∧ q.phase = .survey ∧ 2 ≤ q.surveyRetry) := by
  refine ⟨?_, ?_, ?_, ?_, ?_, ?_, ?_, ?_⟩ <;> dsimp only [Takes, Acts, ActsExpert, Follows, Reads, Local, Runs] <;> decide +kernel

theorem test_SurveyExchange_2 :
    (let s : State := z;
      let seg : SegIx := 0;
      let q := s.seg seg.val;
      (q.surveyOut = false ∨ s.twin.onMove = false ∨ s.coreTicks < q.surveySent + 1200000)) ∧
    (let s : State := (wTwin (z.modPort 1 (fun p => { p with idle := false })) (fun t => { t with standby := true }));
      let f : RxFrame := fr 0 (hd 9 4) ([3, 5] ++ zeros 14);
      let h : Hdr := hd 9 4;
      let pl : List Byte := ([3, 5] ++ zeros 14);
      let n := f.port.val / 2;
      let op := (byteAt pl 0).toNat;
      s.rx f = .ok h pl ∧ h.kind = 9 ∧ h.len = 4 ∧ s.twin.standby = true ∧ op = 3 ∧ h.dir = false ∧ (s.seg n).ownHopA = 0 ∧ (s.port (2 * n + b2n (!s.isBlack))).idle = false ∧ s.boot.testEn = false) ∧
    (let s : State := z;
      let f : RxFrame := fr 0 (hd 8 4) (zeros 16);
      let h : Hdr := hd 8 4;
      let pl : List Byte := zeros 16;
      s.rx f = .ok h pl ∧ h.kind ≠ 9) := by
  refine ⟨?_, ?_, ?_⟩ <;> dsimp only [Takes, Acts, ActsExpert, Follows, Reads, Local, Runs] <;> decide +kernel

namespace DynamicMessagesW

def zdyn : State := wSeg (wTwin (z.setPar 0x07300002 1) (fun t => { t with onMove := true })) (fun g => { g with reqs := [(0, 0)] })

theorem test_DynamicMessages_1 :
    (let s : State := (wTwin (z.setPar 0x07300002 1) (fun t => { t with onMove := true }));
      let f : RxFrame := fr 0 ({ hd 7 6 with slotM := true, slotN := 4 }) ([3, 0, 0, 1, 0, 0, 0, 0, 2, 0, 0, 0] ++ zeros 12);
      let h : Hdr := { hd 7 6 with slotM := true, slotN := 4 };
      let pl : List Byte := ([3, 0, 0, 1, 0, 0, 0, 0, 2, 0, 0, 0] ++ zeros 12);
      let r : SlotRec := ⟨0, 0, 0, 0, 0, 0, 0⟩;
      let k : Int := 0;
      let d : Int := 0;
      let u := s.relay f;
      let v := u.judgeDyn f;
      let heard := (u.countDyn f v).noteLoop f;
      let taken := fun (msg : Nat) => v = .ok h pl r k d ∧ heard.twin.onMove = true ∧ (byteAt pl 0).toNat = msg ∧ byteAt pl 4 = 0;
      let mine := fun (msg : Nat) => taken msg ∧ nbit (byteAt pl 1).toNat 7 = false ∧ byteAt pl 5 = 0;
      v = .ok h pl r k d ∧ ((byteAt pl 0).toNat ≠ 1 ∨ heard.twin.onMove = false) ∧ mine 3 ∧ byteAt pl 9 = 0 ∧ byteAt pl 8 = 2 ∧ 24 ≤ pl.length) ∧
    (let s : State := (wTwin (z.setPar 0x07300002 1) (fun t => { t with onMove := true }));
      let f : RxFrame := fr 0 ({ hd 7 6 with slotM := true, slotN := 4 }) ([1, 0, 0, 1, 0, 0, 0, 0, 0, 0, 0, 0] ++ zeros 12);
      let h : Hdr := { hd 7 6 with slotM := true, slotN := 4 };
      let pl : List Byte := ([1, 0, 0, 1, 0, 0, 0, 0, 0, 0, 0, 0] ++ zeros 12);
      let r : SlotRec := ⟨0, 0, 0, 0, 0, 0, 0⟩;
      let k : Int := 0;
      let d : Int := 0;
      let u := s.relay f;
      let v := u.judgeDyn f;
      let heard := (u.countDyn f v).noteLoop f;
      let n := f.port.val / 2;
      let taken := fun (msg : Nat) => v = .ok h pl r k d ∧ heard.twin.onMove = true ∧ (byteAt pl 0).toNat = msg ∧ byteAt pl 4 = 0;
      let mine := fun (msg : Nat) => taken msg ∧ nbit (byteAt pl 1).toNat 7 = false ∧ byteAt pl 5 = 0;
      v = .ok h pl r k d ∧ ((byteAt pl 0).toNat ≠ 3 ∨ heard.twin.onMove = false) ∧ ((byteAt pl 0).toNat ≠ 4 ∨ heard.twin.onMove = false) ∧ ((byteAt pl 0).toNat ≠ 5 ∨ heard.twin.onMove = false) ∧ mine 1 ∧ h.src = 0 ∧ 24 ≤ pl.length ∧ (heard.seg n).admitReq = []) ∧
    (let s : State := zdyn;
      let f : RxFrame := fr 0 ({ hd 7 6 with slotM := true, slotN := 4 }) ([3, 0x80, 0, 1, 0, 0, 0, 0, 2, 0, 0, 1] ++ zeros 12);
      let h : Hdr := { hd 7 6 with slotM := true, slotN := 4 };
      let pl : List Byte := ([3, 0x80, 0, 1, 0, 0, 0, 0, 2, 0, 0, 1] ++ zeros 12);
      let r : SlotRec := ⟨0, 0, 0, 0, 0, 0, 0⟩;
      let k : Int := 0;
      let d : Int := 0;
      let u := s.relay f;
      let v := u.judgeDyn f;
      let heard := (u.countDyn f v).noteLoop f;
      let n := f.port.val / 2;
      let taken := fun (msg : Nat) => v = .ok h pl r k d ∧ heard.twin.onMove = true ∧ (byteAt pl 0).toNat = msg ∧ byteAt pl 4 = 0;
      let part := (heard.seg n).joinFrag h.src pl;
      taken 3 ∧ (nbit (byteAt pl 1).toNat 7 = true ∨ byteAt pl 5 ≠ 0) ∧ part.whole = none) ∧
    (let s : State := zdyn;
      let f : RxFrame := fr 0 ({ hd 7 6 with slotM := true, slotN := 4 }) ([4, 0x80, 0, 1, 0, 0, 0, 0, 130, 0, 0, 1] ++ zeros 12);
      let h : Hdr := { hd 7 6 with slotM := true, slotN := 4 };
      let pl : List Byte := ([4, 0x80, 0, 1, 0, 0, 0, 0, 130, 0, 0, 1] ++ zeros 12);
      let r : SlotRec := ⟨0, 0, 0, 0, 0, 0, 0⟩;
      let k : Int := 0;
      let d : Int := 0;
      let u := s.relay f;
      let v := u.judgeDyn f;
      let heard := (u.countDyn f v).noteLoop f;
      let n := f.port.val / 2;
      let taken := fun (msg : Nat) => v = .ok h pl r k d ∧ heard.twin.onMove = true ∧ (byteAt pl 0).toNat = msg ∧ byteAt pl 4 = 0;
      let part := (heard.seg n).joinFrag h.src pl;
      taken 4 ∧ (nbit (byteAt pl 1).toNat 7 = true ∨ byteAt pl 5 ≠ 0) ∧ part.whole = none) ∧
    (let s : State := (wTwin (z.setPar 0x07300002 1) (fun t => { t with onMove := true }));
      let f : RxFrame := fr 0 ({ hd 7 5 with slotM := true, slotN := 4 }) ([1] ++ zeros 19);
      let h : Hdr := { hd 7 5 with slotM := true, slotN := 4 };
      let pl : List Byte := ([1] ++ zeros 19);
      let r : SlotRec := ⟨0, 0, 0, 0, 0, 0, 0⟩;
      let k : Int := 0;
      let d : Int := 0;
      let u := s.relay f;
      let v := u.judgeDyn f;
      let heard := (u.countDyn f v).noteLoop f;
      let taken := fun (msg : Nat) => v = .ok h pl r k d ∧ heard.twin.onMove = true ∧ (byteAt pl 0).toNat = msg ∧ byteAt pl 4 = 0;
      let mine := fun (msg : Nat) => taken msg ∧ nbit (byteAt pl 1).toNat 7 = false ∧ byteAt pl 5 = 0;
      mine 1 ∧ (h.src ≠ 0 ∨ pl.length < 24)) ∧
    (let s : State := (wTwin (z.setPar 0x07300002 1) (fun t => { t with onMove := true }));
      let f : RxFrame := fr 0 ({ hd 7 6 with slotM := true, slotN := 4 }) ([3, 0, 0, 1, 0, 0, 0, 0, 2, 1, 0, 0] ++ zeros 12);
      let h : Hdr := { hd 7 6 with slotM := true, slotN := 4 };
      let pl : List Byte := ([3, 0, 0, 1, 0, 0, 0, 0, 2, 1, 0, 0] ++ zeros 12);
      let r : SlotRec := ⟨0, 0, 0, 0, 0, 0, 0⟩;
      let k : Int := 0;
      let d : Int := 0;
      let u := s.relay f;
      let v := u.judgeDyn f;
      let heard := (u.countDyn f v).noteLoop f;
      let taken := fun (msg : Nat) => v = .ok h pl r k d ∧ heard.twin.onMove = true ∧ (byteAt pl 0).toNat = msg ∧ byteAt pl 4 = 0;
      let mine := fun (msg : Nat) => taken msg ∧ nbit (byteAt pl 1).toNat 7 = false ∧ byteAt pl 5 = 0;
      mine 3 ∧ byteAt pl 9 ≠ 0) ∧
    (let s : State := zdyn;
      let f : RxFrame := fr 0 ({ hd 7 6 with slotM := true, slotN := 4 }) ([4, 0, 0, 1, 0, 0, 0, 0, 0x82, 0, 0, 1] ++ zeros 12);
      let h : Hdr := { hd 7 6 with slotM := true, slotN := 4 };
      let pl : List Byte := ([4, 0, 0, 1, 0, 0, 0, 0, 0x82, 0, 0, 1] ++ zeros 12);
      let r : SlotRec := ⟨0, 0, 0, 0, 0, 0, 0⟩;
      let k : Int := 0;
      let d : Int := 0;
      let u := s.relay f;
      let v := u.judgeDyn f;
      let heard := (u.countDyn f v).noteLoop f;
      let n := f.port.val / 2;
      let taken := fun (msg : Nat) => v = .ok h pl r k d ∧ heard.twin.onMove = true ∧ (byteAt pl 0).toNat = msg ∧ byteAt pl 4 = 0;
      let mine := fun (msg : Nat) => taken msg ∧ nbit (byteAt pl 1).toNat 7 = false ∧ byteAt pl 5 = 0;
      let named := (heard.seg n).reqs.contains (h.src, field pl 14 2);
      mine 4 ∧ 24 ≤ pl.length ∧ byteAt pl 9 = 0 ∧ field pl 10 2 = 1 ∧ byteAt pl 8 = 0x82 ∧ named = true) ∧
    (let s : State := zdyn;
      let f : RxFrame := fr 0 ({ hd 7 6 with slotM := true, slotN := 4 }) ([4, 0, 0, 1, 0, 0, 0, 0, 0x81, 0, 0, 1] ++ zeros 12);
      let h : Hdr := { hd 7 6 with slotM := true, slotN := 4 };
      let pl : List Byte := ([4, 0, 0, 1, 0, 0, 0, 0, 0x81, 0, 0, 1] ++ zeros 12);
      let r : SlotRec := ⟨0, 0, 0, 0, 0, 0, 0⟩;
      let k : Int := 0;
      let d : Int := 0;
      let u := s.relay f;
      let v := u.judgeDyn f;
      let heard := (u.countDyn f v).noteLoop f;
      let n := f.port.val / 2;
      let taken := fun (msg : Nat) => v = .ok h pl r k d ∧ heard.twin.onMove = true ∧ (byteAt pl 0).toNat = msg ∧ byteAt pl 4 = 0;
      let mine := fun (msg : Nat) => taken msg ∧ nbit (byteAt pl 1).toNat 7 = false ∧ byteAt pl 5 = 0;
      let named := (heard.seg n).reqs.contains (h.src, field pl 14 2);
      mine 4 ∧ 24 ≤ pl.length ∧ byteAt pl 9 = 0 ∧ field pl 10 2 = 1 ∧ byteAt pl 8 = 0x81 ∧ named = true) := by
  refine ⟨?_, ?_, ?_, ?_, ?_, ?_, ?_, ?_⟩ <;> dsimp only [Takes, Acts, ActsExpert, Follows, Reads, Local, Runs] <;> decide +kernel

theorem test_DynamicMessages_2 :
    (let s : State := (wTwin (z.setPar 0x07300002 1) (fun t => { t with onMove := true }));
      let f : RxFrame := fr 0 ({ hd 7 6 with slotM := true, slotN := 4 }) ([4, 0, 0, 1, 0, 0, 0, 0, 0, 0, 0, 0] ++ zeros 12);
      let h : Hdr := { hd 7 6 with slotM := true, slotN := 4 };
      let pl : List Byte := ([4, 0, 0, 1, 0, 0, 0, 0, 0, 0, 0, 0] ++ zeros 12);
      let r : SlotRec := ⟨0, 0, 0, 0, 0, 0, 0⟩;
      let k : Int := 0;
      let d : Int := 0;
      let u := s.relay f;
      let v := u.judgeDyn f;
      let heard := (u.countDyn f v).noteLoop f;
      let n := f.port.val / 2;
      let taken := fun (msg : Nat) => v = .ok h pl r k d ∧ heard.twin.onMove = true ∧ (byteAt pl 0).toNat = msg ∧ byteAt pl 4 = 0;
      let mine := fun (msg : Nat) => taken msg ∧ nbit (byteAt pl 1).toNat 7 = false ∧ byteAt pl 5 = 0;
      let named := (heard.seg n).reqs.contains (h.src, field pl 14 2);
      mine 4 ∧ (pl.length < 24 ∨ byteAt pl 9 ≠ 0 ∨ field pl 10 2 ≠ 1 ∨ named = false)) ∧
    (let s : State := (wTwin (z.setPar 0x07300002 1) (fun t => { t with onMove := true }));
      let f : RxFrame := fr 0 ({ hd 7 6 with slotM := true, slotN := 4 }) ([5, 0, 0, 1, 0, 0, 0, 0, 0, 0, 0, 0] ++ zeros 12);
      let h : Hdr := { hd 7 6 with slotM := true, slotN := 4 };
      let pl : List Byte := ([5, 0, 0, 1, 0, 0, 0, 0, 0, 0, 0, 0] ++ zeros 12);
      let r : SlotRec := ⟨0, 0, 0, 0, 0, 0, 0⟩;
      let k : Int := 0;
      let d : Int := 0;
      let u := s.relay f;
      let v := u.judgeDyn f;
      let heard := (u.countDyn f v).noteLoop f;
      let taken := fun (msg : Nat) => v = .ok h pl r k d ∧ heard.twin.onMove = true ∧ (byteAt pl 0).toNat = msg ∧ byteAt pl 4 = 0;
      let mine := fun (msg : Nat) => taken msg ∧ nbit (byteAt pl 1).toNat 7 = false ∧ byteAt pl 5 = 0;
      mine 5) ∧
    (let s : State := (zr (fun g => { g with phase := .run, dynQ := [{ msg := 2, msgId := 0, dest := 5, data := [], deferrable := false, turns := 0 }] }));
      let seg : SegIx := 0;
      let ms : BitVec 8 := 0;
      let m : DynMsg := { msg := 2, msgId := 0, dest := 5, data := [], deferrable := false, turns := 0 };
      let g := s.seg seg.val;
      let c := s.sched seg.val;
      s.twin.onMove = true ∧ s.segRuns seg.val = true ∧ ms.toNat < c.minislots ∧ turnOf c.minislots s.cyc.cycle ms.toNat = 0 ∧ m.deferrable = false ∧ minislotFits c ms.toNat (24 + (dynPayload m).length) = true ∧ g.dynQ.head? = some m) ∧
    (let s : State := (zr (fun g => { g with phase := .run }));
      let seg : SegIx := 0;
      let ms : BitVec 8 := 0;
      let m : DynMsg := { msg := 2, msgId := 0, dest := 5, data := [], deferrable := false, turns := 0 };
      let g := s.seg seg.val;
      let c := s.sched seg.val;
      let counted := s.modSeg seg.val (fun g => { g with dynWait := g.dynWait.map (fun (m : DynMsg) => { m with turns := m.turns + 1 }) });
      s.twin.onMove = true ∧ s.segRuns seg.val = true ∧ ms.toNat < c.minislots ∧ turnOf c.minislots s.cyc.cycle ms.toNat = 0 ∧ g.dynQ = [] ∧ counted.surDue seg.val = none) ∧
    (let s : State := (zr (fun g => { g with phase := .run }));
      let seg : SegIx := 0;
      let ms : BitVec 8 := 255;
      let c := s.sched seg.val;
      (s.twin.onMove = false ∨ s.segRuns seg.val = false ∨ c.minislots ≤ ms.toNat ∨ turnOf c.minislots s.cyc.cycle ms.toNat ≠ 0)) ∧
    (let s : State := (zr (fun g => { g with phase := .run, dynWait := [{ msg := 2, msgId := 0, dest := 5, data := [], deferrable := false, turns := 2 }] }));
      let seg : SegIx := 0;
      let m : DynMsg := { msg := 2, msgId := 0, dest := 5, data := [], deferrable := false, turns := 0 };
      let g := s.seg seg.val;
      let due := fun (m : DynMsg) => decide (2 ≤ m.turns);
      s.twin.onMove = true ∧ ((∃ m ∈ g.dynWait, due m = true))) ∧
    (let s : State := (zr (fun g => { g with phase := .run }));
      let seg : SegIx := 0;
      let m : DynMsg := { msg := 2, msgId := 0, dest := 5, data := [], deferrable := false, turns := 0 };
      let g := s.seg seg.val;
      let due := fun (m : DynMsg) => decide (2 ≤ m.turns);
      ((∀ m ∈ g.dynWait, due m = false))) := by
  refine ⟨?_, ?_, ?_, ?_, ?_, ?_, ?_⟩ <;> dsimp only [Takes, Acts, ActsExpert, Follows, Reads, Local, Runs] <;> decide +kernel

end DynamicMessagesW

theorem test_RingAndLinks_1 :
    (let s : State := (zr (fun g => { g with phase := .run }));
      let seg : SegIx := 0;
      let n := seg.val;
      let g := s.seg n;
      let watch := s.twin.onMove = true ∧ s.segRuns n = true;
      watch ∧ g.folded = false ∧ g.phase ≠ .synchronise) ∧
    (let s : State := (zr (fun g => { g with phase := .synchronise }));
      let seg : SegIx := 0;
      let n := seg.val;
      let g := s.seg n;
      let watch := s.twin.onMove = true ∧ s.segRuns n = true;
      watch ∧ g.folded = false ∧ g.phase = .synchronise ∧ g.lamMeas = 0) ∧
    (let s : State := z;
      let seg : SegIx := 0;
      let n := seg.val;
      let g := s.seg n;
      let watch := s.twin.onMove = true ∧ s.segRuns n = true;
      (¬ watch ∨ g.folded = true) ∧ (¬ watch ∨ s.parN 0x07300003 n ≠ 1 ∨ g.phase ≠ .synchronise) ∧ (¬ watch ∨ g.drift ≠ 16) ∧ (g.csfMiss < 3 ∨ g.folded = true ∨ g.broken = true) ∧ (¬ watch ∨ g.folded = false ∨ s.parN 0x07300004 n ≠ 1 ∨ s.breakUp n = none) ∧ g.restoreAt = none) ∧
    (let s : State := (wSeg (wCyc ((zr (fun g => { g with phase := .synchronise })).setPar 0x07300003 1) (fun c => { c with running := true })) (fun g => { g with phase := .synchronise }));
      let seg : SegIx := 0;
      let n := seg.val;
      let g := s.seg n;
      let watch := s.twin.onMove = true ∧ s.segRuns n = true;
      watch ∧ s.parN 0x07300003 n = 1 ∧ g.phase = .synchronise) ∧
    (let s : State := (zr (fun g => { g with phase := .run, drift := 16 }));
      let seg : SegIx := 0;
      let n := seg.val;
      let g := s.seg n;
      let watch := s.twin.onMove = true ∧ s.segRuns n = true;
      watch ∧ g.drift = 16) ∧
    (let s : State := (zr (fun g => { g with phase := .run, csfMiss := 3 }));
      let seg : SegIx := 0;
      let n := seg.val;
      let g := s.seg n;
      let watch := s.twin.onMove = true ∧ s.segRuns n = true;
      watch ∧ g.folded = false ∧ g.broken = false ∧ 3 ≤ g.csfMiss) ∧
    (let s : State := ((z.modPort 15 (fun x => { x with link := true })).setPar 0x0700F001 1);
      let p : PortIx := 15;
      let x := s.port p.val;
      let mode := s.parN 0x07000001 p.val;
      mode ≠ 0 ∧ x.link = true ∧ mode = 1) ∧
    (let s : State := z;
      let p : PortIx := 15;
      let x := s.port p.val;
      let mode := s.parN 0x07000001 p.val;
      mode ≠ 0 ∧ x.link = false ∧ (x.link = false ∨ mode ≠ 1) ∧ (x.fenced = false ∨ x.sync = false ∨ s.coreTicks < x.upSince + 1000)) := by
  refine ⟨?_, ?_, ?_, ?_, ?_, ?_, ?_, ?_⟩ <;> dsimp only [Takes, Acts, ActsExpert, Follows, Reads, Local, Runs] <;> decide +kernel

theorem test_RingAndLinks_2 :
    (let s : State := ((z.modPort 15 (fun x => { x with link := true })).setPar 0x0700F001 0);
      let p : PortIx := 15;
      let x := s.port p.val;
      let mode := s.parN 0x07000001 p.val;
      mode = 0 ∧ (mode ≠ 1 ∨ s.coreTicks < x.mdioNext)) ∧
    (let s : State := z;
      let p : PortIx := 15;
      let w : InBandWord := ⟨true, .m1000, true⟩;
      let good := w.link = true ∧ w.speed = .m1000 ∧ w.fullDuplex = true;
      let x := s.port p.val;
      let mode := s.parN 0x07000001 p.val;
      mode = 1 ∧ good ∧ x.link = false) ∧
    (let s : State := (z.setPar 0x0700F001 2);
      let p : PortIx := 15;
      let x := s.port p.val;
      let mode := s.parN 0x07000001 p.val;
      mode ≠ 0 ∧ mode ≠ 1 ∧ x.link = false) ∧
    (let s : State := ((z.modPort 15 (fun x => { x with link := true })).setPar 0x0700F001 1);
      let p : PortIx := 15;
      let w : InBandWord := ⟨false, .m1000, true⟩;
      let good := w.link = true ∧ w.speed = .m1000 ∧ w.fullDuplex = true;
      let x := s.port p.val;
      let mode := s.parN 0x07000001 p.val;
      mode = 1 ∧ ¬ good ∧ x.link = true) ∧
    (let s : State := z;
      let p : PortIx := 15;
      let w : InBandWord := ⟨false, .m1000, true⟩;
      let good := w.link = true ∧ w.speed = .m1000 ∧ w.fullDuplex = true;
      let x := s.port p.val;
      let mode := s.parN 0x07000001 p.val;
      mode = 1 ∧ ¬ good ∧ x.link = false) ∧
    (let s : State := ((z.modPort 15 (fun x => { x with link := true })).setPar 0x0700F001 0);
      let p : PortIx := 15;
      let w : InBandWord := ⟨true, .m1000, true⟩;
      let good := w.link = true ∧ w.speed = .m1000 ∧ w.fullDuplex = true;
      let x := s.port p.val;
      let mode := s.parN 0x07000001 p.val;
      (mode = 0 ∨ (x.link = true ∧ (mode ≠ 1 ∨ good)))) ∧
    (let s : State := z;
      let p : PortIx := 15;
      let bmsr : BitVec 16 := 0;
      let x := s.port p.val;
      let mode := s.parN 0x07000001 p.val;
      mode = 1 ∧ x.mdioNext ≤ s.coreTicks ∧ (bmsr.getLsbD 2 = true ∨ x.link = false)) ∧
    (let s : State := ((z.modPort 15 (fun x => { x with link := true })).setPar 0x0700F001 1);
      let p : PortIx := 15;
      let bmsr : BitVec 16 := 0;
      let x := s.port p.val;
      let mode := s.parN 0x07000001 p.val;
      mode = 1 ∧ x.mdioNext ≤ s.coreTicks ∧ bmsr.getLsbD 2 = false ∧ x.link = true) := by
  refine ⟨?_, ?_, ?_, ?_, ?_, ?_, ?_, ?_⟩ <;> dsimp only [Takes, Acts, ActsExpert, Follows, Reads, Local, Runs] <;> decide +kernel

theorem test_RingAndLinks_3 :
    (let s : State := z;
      let f : RxFrame := fr 0 (hb 8 4) (zeros 16);
      let h : Hdr := hb 8 4;
      let pl : List Byte := zeros 16;
      let v := s.relay f;
      v.rx f = .ok h pl ∧ h.loop = true ∧ f.port.val % 2 = 0) ∧
    (let s : State := z;
      let f : RxFrame := fr 0 (hd 8 4) (zeros 16);
      let h : Hdr := hd 8 4;
      let pl : List Byte := zeros 16;
      let v := s.relay f;
      v.rx f = .ok h pl ∧ (h.loop = false ∨ f.port.val % 2 = 1)) ∧
    (let s : State := z;
      let f : RxFrame := badF;
      let v := s.relay f;
      (v.rx f = .off ∨ v.rx f = .abort ∨ v.rx f = .crc)) ∧
    (let s : State := { ((((zr (fun g => { g with phase := .run, folded := true, breakA := 0, breakB := 0 }))).setPar 0x07300004 1).modPort 0 (fun x => { x with link := true })).modPort 1 (fun x => { x with link := true }) with coreTicks := 70000000000000 };
      let seg : SegIx := 0;
      let k : Nat := 0;
      let n := seg.val;
      let g := s.seg n;
      let watch := s.twin.onMove = true ∧ s.segRuns n = true;
      watch ∧ g.folded = true ∧ g.restoreAt = none ∧ g.restoring = false ∧ s.parN 0x07300004 n = 1 ∧ s.breakUp n = some k ∧ k + s.parN 0x07300005 n * 1000000000 ≤ s.coreTicks ∧ g.breakA ≠ 0xFF ∧ g.breakB ≠ 0xFF) ∧
    (let s : State := (zr (fun g => { g with phase := .run, folded := true, restoreAt := some 0 }));
      let seg : SegIx := 0;
      let k : Nat := 0;
      let n := seg.val;
      let g := s.seg n;
      g.restoreAt = some k ∧ g.folded = true ∧ g.restoring = false ∧ k ≤ s.cyc.cycle) ∧
    (let s : State := { (z.modPort 15 (fun x => { x with fenced := true, sync := true })) with coreTicks := 1000 };
      let p : PortIx := 15;
      let x := s.port p.val;
      x.fenced = true ∧ x.sync = true ∧ x.upSince + 1000 ≤ s.coreTicks) ∧
    (let s : State := (wBoot z (fun b => { b with twinPresent := true }));
      s.boot.twinPresent = true) := by
  refine ⟨?_, ?_, ?_, ?_, ?_, ?_, ?_⟩ <;> dsimp only [Takes, Acts, ActsExpert, Follows, Reads, Local, Runs] <;> decide +kernel

theorem test_NetworkCommands_1 :
    (let s : State := w0;
      let c : CmdCtx := c0;
      let seg : BitVec 8 := 0;
      let sch : Schedule := { scheduleDefault with period := 6 };
      let t := s.takeUp c;
      let named := t.segNamed seg = true ∧ scheduleForm sch = true;
      ¬ named ∧ Acts s c 0x0702 5) ∧
    (let s : State := (wSeg (wTwin (w0.setPar 0x07300002 1) (fun t => { t with onMove := true })) (fun g => { g with restoring := true }));
      let c : CmdCtx := c0;
      let seg : BitVec 8 := 0;
      let sch : Schedule := scheduleDefault;
      let t := s.takeUp c;
      let n := seg.toNat;
      let g := t.seg n;
      let named := t.segNamed seg = true ∧ scheduleForm sch = true;
      named ∧ g.busy = true ∧ Acts s c 0x0702 5) ∧
    (let s : State := w0;
      let c : CmdCtx := c0;
      let seg : BitVec 8 := 0;
      let sch : Schedule := { scheduleDefault with slotLen := 4096 };
      let t := s.takeUp c;
      let n := seg.toNat;
      let g := t.seg n;
      let named := t.segNamed seg = true ∧ scheduleForm sch = true;
      let fits := if g.phase = .run then t.reloadOk n sch else t.planned.layoutFits n sch && t.planned.scheduleOk n sch;
      named ∧ g.busy = false ∧ fits = false ∧ Acts s c 0x0702 5) ∧
    (let s : State := w0;
      let c : CmdCtx := c0;
      let seg : BitVec 8 := 0;
      let sch : Schedule := scheduleDefault;
      let t := s.takeUp c;
      let n := seg.toNat;
      let g := t.seg n;
      let named := t.segNamed seg = true ∧ scheduleForm sch = true;
      let fits := if g.phase = .run then t.reloadOk n sch else t.planned.layoutFits n sch && t.planned.scheduleOk n sch;
      let room := t.engineLoad ≤ 7 * periodOf sch.period;
      named ∧ g.busy = false ∧ fits = true ∧ room ∧ Acts s c 0x0702 5) ∧
    (let s : State := w0;
      let c : CmdCtx := c0;
      let seg : BitVec 8 := 1;
      let t := s.takeUp c;
      t.segNamed seg = false ∧ Acts s c 0x0703 5) ∧
    (let s : State := w0;
      let c : CmdCtx := c0;
      let seg : BitVec 8 := 0;
      let t := s.takeUp c;
      let n := seg.toNat;
      let g := t.seg n;
      t.segNamed seg = true ∧ g.phase ≠ .run ∧ Acts s c 0x0703 5 ∧ (g.phase ≠ .run ∨ g.folded = false) ∧ Acts s c 0x0706 3) ∧
    (let s : State := (wSeg (wTwin (w0.setPar 0x07300002 1) (fun t => { t with onMove := true })) (fun g => { g with phase := .run, restoring := true }));
      let c : CmdCtx := c0;
      let seg : BitVec 8 := 0;
      let t := s.takeUp c;
      let n := seg.toNat;
      let g := t.seg n;
      t.segNamed seg = true ∧ g.phase = .run ∧ g.busy = true ∧ Acts s c 0x0703 5) ∧
    (let s : State := (wSeg (wTwin (w0.setPar 0x07300002 1) (fun t => { t with standby := true, landed := [{ lr with seq := 1, opcode := 0x0703 }] })) (fun g => { g with phase := .run }));
      let c : CmdCtx := c0;
      let seg : BitVec 8 := 0;
      let t := s.takeUp c;
      let n := seg.toNat;
      let g := t.seg n;
      t.segNamed seg = true ∧ g.phase = .run ∧ g.busy = false ∧ Follows t c 0x0703) := by
  refine ⟨?_, ?_, ?_, ?_, ?_, ?_, ?_, ?_⟩ <;> dsimp only [Takes, Acts, ActsExpert, Follows, Reads, Local, Runs] <;> decide +kernel

theorem test_NetworkCommands_2 :
    (let s : State := (wSeg (wTwin (w0.setPar 0x07300002 1) (fun t => { t with onMove := true })) (fun g => { g with phase := .run }));
      let c : CmdCtx := c0;
      let seg : BitVec 8 := 0;
      let t := s.takeUp c;
      let n := seg.toNat;
      let g := t.seg n;
      t.segNamed seg = true ∧ g.phase = .run ∧ g.busy = false ∧ t.twin.standby = false ∧ Acts s c 0x0703 5) ∧
    (let s : State := ((wSeg (wTwin (w0.setPar 0x07300002 1) (fun t => { t with onMove := true })) (fun g => { g with phase := .run, sched := withRec 1 })).modNode 0 3 (fun x => { x with hopA := 1 }));
      let c : CmdCtx := c0;
      let seg : BitVec 8 := 0;
      let addr : BitVec 8 := 3;
      let t := s.takeUp c;
      let n := seg.toNat;
      let g := t.seg n;
      let a := addr.toNat;
      let axes := t.nodeAxes n a;
      let known := (g.node a).hopA ≠ 0 ∧ (g.node a).removed = false;
      let stopped := (∀ i ∈ axes, t.axState i = .disabled);
      (t.segNamed seg = false ∨ a = 0 ∨ 127 < a ∨ (g.node a).hopA ≠ 0) ∧ Acts s c 0x0704 5 ∧ t.segNamed seg = true ∧ known ∧ stopped ∧ t.groupsSto (axes.filter (fun i => t.monitored i)) = true ∧ Acts s c 0x0705 5) ∧
    (let s : State := w0;
      let c : CmdCtx := c0;
      let seg : BitVec 8 := 0;
      let addr : BitVec 8 := 3;
      let t := s.takeUp c;
      let n := seg.toNat;
      let g := t.seg n;
      let a := addr.toNat;
      let known := (g.node a).hopA ≠ 0 ∧ (g.node a).removed = false;
      (t.segNamed seg = false ∨ ¬ known) ∧ Acts s c 0x0705 5) ∧
    (let s : State := (((wSeg (wTwin (w0.setPar 0x07300002 1) (fun t => { t with onMove := true })) (fun g => { g with phase := .run, sched := withRec 1 })).modNode 0 3 (fun x => { x with hopA := 1 })).modLife 5 (fun l => { l with state := .ready }));
      let c : CmdCtx := c0;
      let seg : BitVec 8 := 0;
      let addr : BitVec 8 := 3;
      let t := s.takeUp c;
      let n := seg.toNat;
      let g := t.seg n;
      let a := addr.toNat;
      let axes := t.nodeAxes n a;
      let known := (g.node a).hopA ≠ 0 ∧ (g.node a).removed = false;
      let stopped := (∀ i ∈ axes, t.axState i = .disabled);
      t.segNamed seg = true ∧ known ∧ ¬ stopped ∧ Acts s c 0x0705 5) ∧
    (let s : State := ((wSaf ((wSeg (wTwin (w0.setPar 0x07300002 1) (fun t => { t with onMove := true })) (fun g => { g with phase := .run, sched := withRec 1 })).setPar 0x08205002 1) (fun f => { f with p := f.p.setGroup 0 { code := 0 }, h := f.h.setGroup 0 { code := 0 } })).modNode 0 3 (fun x => { x with hopA := 1 }));
      let c : CmdCtx := c0;
      let seg : BitVec 8 := 0;
      let addr : BitVec 8 := 3;
      let t := s.takeUp c;
      let n := seg.toNat;
      let g := t.seg n;
      let a := addr.toNat;
      let axes := t.nodeAxes n a;
      let known := (g.node a).hopA ≠ 0 ∧ (g.node a).removed = false;
      let stopped := (∀ i ∈ axes, t.axState i = .disabled);
      t.segNamed seg = true ∧ known ∧ stopped ∧ t.groupsSto (axes.filter (fun i => t.monitored i)) = false ∧ Acts s c 0x0705 5) ∧
    (let s : State := (wSeg (wTwin (w0.setPar 0x07300002 1) (fun t => { t with onMove := true })) (fun g => { g with phase := .run, folded := true }));
      let c : CmdCtx := c0;
      let seg : BitVec 8 := 0;
      let t := s.takeUp c;
      let n := seg.toNat;
      let g := t.seg n;
      t.segNamed seg = true ∧ g.phase = .run ∧ g.folded = true ∧ g.busy = false ∧ g.restoreAt = none ∧ Acts s c 0x0706 3) ∧
    (let s : State := w0;
      let c : CmdCtx := c0;
      let op : BitVec 8 := 0;
      let bus : BitVec 8 := 0;
      let phy : BitVec 8 := 0;
      let devad : BitVec 8 := 0;
      let reg : BitVec 16 := 0;
      let mdioOk := bus.toNat ≤ 1 ∧ op.toNat ≤ 3 ∧ phy.toNat ≤ 31 ∧ (op.toNat < 2 → reg.toNat ≤ 31) ∧ (2 ≤ op.toNat → devad.toNat ≤ 31);
      let expert := Takes s c 0x0707 3 true true false;
      expert ∧ mdioOk) ∧
    (let s : State := w0;
      let c : CmdCtx := c0;
      let op : BitVec 8 := 4;
      let bus : BitVec 8 := 0;
      let phy : BitVec 8 := 0;
      let devad : BitVec 8 := 0;
      let reg : BitVec 16 := 0;
      let mdioOk := bus.toNat ≤ 1 ∧ op.toNat ≤ 3 ∧ phy.toNat ≤ 31 ∧ (op.toNat < 2 → reg.toNat ≤ 31) ∧ (2 ≤ op.toNat → devad.toNat ≤ 31);
      let expert := Takes s c 0x0707 3 true true false;
      expert ∧ ¬ mdioOk) := by
  refine ⟨?_, ?_, ?_, ?_, ?_, ?_, ?_, ?_⟩ <;> dsimp only [Takes, Acts, ActsExpert, Follows, Reads, Local, Runs] <;> decide +kernel

theorem test_NetworkCommands_3 :
    (let s : State := (wSeg (wTwin (w0.setPar 0x07300002 1) (fun t => { t with onMove := true })) (fun g => { g with phase := .run }));
      let c : CmdCtx := c0;
      let seg : BitVec 8 := 0;
      let port : BitVec 8 := 0;
      let hop : BitVec 8 := 1;
      let t := s.takeUp c;
      let n := seg.toNat;
      let g := t.seg n;
      let measure := Takes s c 0x0708 3 false true false;
      measure ∧ t.segNamed seg = true ∧ port.toNat ≤ 1 ∧ hop ≠ 0 ∧ g.phase = .run ∧ t.trimmed 4 = false ∧ g.measure = none) ∧
    (let s : State := w0;
      let c : CmdCtx := c0;
      let seg : BitVec 8 := 0;
      let port : BitVec 8 := 2;
      let hop : BitVec 8 := 1;
      let t := s.takeUp c;
      let measure := Takes s c 0x0708 3 false true false;
      measure ∧ (t.segNamed seg = false ∨ 1 < port.toNat ∨ hop = 0)) ∧
    (let s : State := (wSeg (wTwin (w0.setPar 0x07300002 1) (fun t => { t with onMove := true })) (fun g => { g with phase := .run }));
      let c : CmdCtx := c0;
      let seg : BitVec 8 := 0;
      let mode : BitVec 8 := 1;
      let dur : BitVec 16 := 3600;
      let t := s.takeUp c;
      let n := seg.toNat;
      let g := t.seg n;
      t.segNamed seg = true ∧ mode = 1 ∧ 1 ≤ dur.toNat ∧ dur.toNat ≤ 3600 ∧ g.test = none ∧ ((∀ i ∈ t.segAxes n, t.axState i = .disabled)) ∧ t.groupsSto (t.segAxes n) = true ∧ g.phase = .run ∧ Acts s c 0x0F02 3) ∧
    (let s : State := w0;
      let c : CmdCtx := c0;
      let seg : BitVec 8 := 0;
      let mode : BitVec 8 := 1;
      let dur : BitVec 16 := 0;
      let t := s.takeUp c;
      (t.segNamed seg = false ∨ (mode ≠ 1 ∧ mode ≠ 2) ∨ dur = 0 ∨ 3600 < dur.toNat) ∧ Acts s c 0x0F02 3) ∧
    (let s : State := w0;
      let sg : SegIx := 0;
      let q := s.seg sg.val;
      q.test = none ∧ q.activateAt = none ∧ (s.twin.onMove = false ∨ q.remeasure ≠ [] ∨ q.surveyOut = true)) ∧
    (let s : State := (wSeg (wTwin (w0.setPar 0x07300002 1) (fun t => { t with onMove := true })) (fun g => { g with test := some { mode := 1, endTick := 5, ctx := c0 } }));
      let sg : SegIx := 0;
      let tst : SegTest := { mode := 1, endTick := 5, ctx := c0 };
      let q := s.seg sg.val;
      q.test = some tst ∧ s.coreTicks < tst.endTick) ∧
    (let s : State := { (wSeg (wTwin (w0.setPar 0x07300002 1) (fun t => { t with onMove := true })) (fun g => { g with test := some { mode := 1, endTick := 5, ctx := c0 } })) with coreTicks := 5 };
      let sg : SegIx := 0;
      let tst : SegTest := { mode := 1, endTick := 5, ctx := c0 };
      let q := s.seg sg.val;
      q.test = some tst ∧ tst.endTick ≤ s.coreTicks) ∧
    (let s : State := (wCyc (wSeg (wTwin (w0.setPar 0x07300002 1) (fun t => { t with onMove := true })) (fun g => { g with activateAt := some 0, phase := .scheduleLoad })) (fun y => { y with running := true }));
      let sg : SegIx := 0;
      let k : Nat := 0;
      let q := s.seg sg.val;
      q.activateAt = some k ∧ s.twin.onMove = true ∧ s.cyc.running = true ∧ k ≤ s.cyc.cycle ∧ q.schQ = [] ∧ q.phase = .scheduleLoad) := by
  refine ⟨?_, ?_, ?_, ?_, ?_, ?_, ?_, ?_⟩ <;> dsimp only [Takes, Acts, ActsExpert, Follows, Reads, Local, Runs] <;> decide +kernel

theorem test_NetworkCommands_4 :
    (let s : State := (wCyc (wSeg (wTwin (w0.setPar 0x07300002 1) (fun t => { t with onMove := true })) (fun g => { g with activateAt := some 0, phase := .run })) (fun y => { y with running := true }));
      let sg : SegIx := 0;
      let k : Nat := 0;
      let q := s.seg sg.val;
      q.activateAt = some k ∧ s.twin.onMove = true ∧ s.cyc.running = true ∧ k ≤ s.cyc.cycle ∧ q.schQ = [] ∧ q.phase ≠ .scheduleLoad) ∧
    (let s : State := (wSeg (wTwin (w0.setPar 0x07300002 1) (fun t => { t with onMove := true })) (fun g => { g with phase := .run, activating := some c0, pending := some { scheduleDefault with slotLen := 95 } }));
      let sg : SegIx := 0;
      let q := s.seg sg.val;
      s.twin.onMove = true ∧ s.segRuns sg.val = true ∧ q.activating.isSome = true ∧ q.remeasure = [] ∧ q.surveyOut = false ∧ q.activateAt = none ∧ s.reloadOk sg.val (q.pending.getD q.sched) = false) ∧
    (let s : State := (wSeg (wTwin (w0.setPar 0x07300002 1) (fun t => { t with onMove := true })) (fun g => { g with phase := .run, activating := some c0 }));
      let sg : SegIx := 0;
      let q := s.seg sg.val;
      s.twin.onMove = true ∧ s.segRuns sg.val = true ∧ q.activating.isSome = true ∧ q.remeasure = [] ∧ q.surveyOut = false ∧ q.activateAt = none ∧ s.reloadOk sg.val (q.pending.getD q.sched) = true) := by
  refine ⟨?_, ?_, ?_⟩ <;> dsimp only [Takes, Acts, ActsExpert, Follows, Reads, Local, Runs] <;> decide +kernel

theorem test_SlotFrames :
    (let s : State := (zr (fun g => { g with phase := .run, sched := withRec 1 }));
      let f : RxFrame := { fr 1 ({ hd 3 8 with src := 4, slotN := 2 }) (zeros 32) with sfd := ((584 + 8 * 2 * 96 + 56) * 10) };
      let v := s.relay f;
      let fb := v.judge f 1 3 0;
      fb = .discard) ∧
    (let s : State := (zr (fun g => { g with phase := .run, sched := withRec 1 }));
      let f : RxFrame := { fr 1 ({ hd 3 8 with src := 3, slotN := 2 }) ([5] ++ zeros 31) with sfd := ((584 + 8 * 2 * 96 + 56) * 10) };
      let h : Hdr := { hd 3 8 with src := 3, slotN := 2 };
      let pl : List Byte := ([5] ++ zeros 31);
      let r : SlotRec := { rec0 with use := 1 };
      let k : Int := 0;
      let d : Int := 0;
      let v := s.relay f;
      let fb := v.judge f 1 3 0;
      let taken := fun (x : Verdict) => (v.countVerdict f x).noteLoop f;
      let ok : Verdict := .ok h pl r k d;
      fb = ok ∧ h.loop = false ∧ (byteAt pl 1).getLsbD 2 = false ∧ (taken fb).pastRelease r.axis k = false) ∧
    (let s : State := (zr (fun g => { g with phase := .run, sched := withRec 2 }));
      let f : RxFrame := { fr 1 ({ hd 4 2 with src := 3, slotN := 2 }) (([2] ++ zeros 7)) with sfd := ((584 + 8 * 2 * 96 + 56) * 10) };
      let h : Hdr := { hd 4 2 with src := 3, slotN := 2 };
      let pl : List Byte := ([2] ++ zeros 7);
      let r : SlotRec := { rec0 with use := 2 };
      let k : Int := 0;
      let d : Int := 0;
      let v := s.relay f;
      let iov := v.judge f 2 4 0;
      let ok : Verdict := .ok h pl r k d;
      let len := field pl 2 2;
      let ioFits := ((byteAt pl 0).toNat = 1 ∨ (byteAt pl 0).toNat = 3) ∧ len ≤ 1016 ∧ 4 + len ≤ pl.length;
      iov = ok ∧ ¬ ioFits) ∧
    (let s : State := (zr (fun g => { g with phase := .run, sched := withRec 2 }));
      let f : RxFrame := { fr 1 ({ hd 4 2 with src := 3, slotN := 2 }) ([1] ++ zeros 7) with sfd := ((584 + 8 * 2 * 96 + 56) * 10) };
      let h : Hdr := { hd 4 2 with src := 3, slotN := 2 };
      let pl : List Byte := ([1] ++ zeros 7);
      let r : SlotRec := { rec0 with use := 2 };
      let k : Int := 0;
      let d : Int := 0;
      let v := s.relay f;
      let iov := v.judge f 2 4 0;
      let ok : Verdict := .ok h pl r k d;
      let len := field pl 2 2;
      let ioFits := ((byteAt pl 0).toNat = 1 ∨ (byteAt pl 0).toNat = 3) ∧ len ≤ 1016 ∧ 4 + len ≤ pl.length;
      iov = ok ∧ ioFits ∧ h.loop = false ∧ (byteAt pl 0).toNat = 1) ∧
    (let s : State := (zr (fun g => { g with phase := .run, sched := withRec 4 }));
      let f : RxFrame := { fr 1 ({ hd 11 6 with src := 3, slotN := 2 }) ([1] ++ zeros 23) with sfd := ((584 + 8 * 2 * 96 + 56) * 10) };
      let h : Hdr := { hd 11 6 with src := 3, slotN := 2 };
      let pl : List Byte := ([1] ++ zeros 23);
      let r : SlotRec := { rec0 with use := 4 };
      let k : Int := 0;
      let d : Int := 0;
      let v := s.relay f;
      let suv := v.judge f 4 11 0;
      let ok : Verdict := .ok h pl r k d;
      suv = ok ∧ byteAt pl 0 = 1 ∧ h.loop = false ∧ (byteAt pl 4).getLsbD 6 = false ∧ (byteAt pl 5).getLsbD 6 = false) ∧
    (let s : State := (zr (fun g => { g with phase := .run, sched := withRec 1 }));
      let f : RxFrame := { fr 1 ({ hd 3 8 with src := 3, slotN := 2 }) ([5] ++ zeros 31) with sfd := ((584 + 8 * 2 * 96 + 56) * 10) };
      let h : Hdr := { hd 3 8 with src := 3, slotN := 2 };
      let pl : List Byte := ([5] ++ zeros 31);
      let r : SlotRec := { rec0 with use := 1 };
      let k : Int := 0;
      let d : Int := 0;
      let lam := 0;
      let v := s.relay f;
      let n := f.port.val / 2;
      let fb := v.judge f 1 3 0;
      let ok : Verdict := .ok h pl r k d;
      fb = ok ∧ v.twin.standby = false ∧ v.pathDelay n r.node (decide (f.port.val % 2 = 1)) k = some lam) := by
  refine ⟨?_, ?_, ?_, ?_, ?_, ?_⟩ <;> dsimp only [Takes, Acts, ActsExpert, Follows, Reads, Local, Runs] <;> decide +kernel

theorem test_CycleRuns :
    (let s : State := (wTime (wCyc z (fun y => { y with running := true, cycle := 5 })) (fun t => { t with sec := 1 }));
      let k := s.cyc.cycle;
      let runs := s.saf.silent = false ∧ s.saf.endgame = none;
      runs ∧ s.cyc.running = true ∧ s.tCycle (k + 1) ≤ s.now ∧ s.cyc.dispatched = false ∧ s.tCycle k + 400 ≤ s.now ∧ s.tCycle (k + 1) - 1000 ≤ s.now ∧ s.cyc.sealedFor ≠ some k) ∧
    (let s : State := (wTime (wOpen z (fun o => { o with phase := .segments })) (fun t => { t with sec := 1 }));
      let runs := s.saf.silent = false ∧ s.saf.endgame = none;
      runs ∧ s.cyc.running = false ∧ s.opening.phase = .segments ∧ s.surveysDone = true ∧ s.tCycle 0 ≤ s.now) ∧
    (let s : State := (wCyc z (fun y => { y with running := true, cycle := 5 }));
      let k := s.cyc.cycle;
      let runs := s.saf.silent = false ∧ s.saf.endgame = none;
      runs ∧ s.cyc.running = true ∧ s.now < s.tCycle (k + 1)) ∧
    (let s : State := z;
      let k := s.cyc.cycle;
      let runs := s.saf.silent = false ∧ s.saf.endgame = none;
      (¬ runs ∨ (s.cyc.running = false ∧ s.opening.phase ≠ .segments)) ∧ (s.cyc.running = false ∨ s.cyc.dispatched = true ∨ s.now < s.tCycle k + 400) ∧ (s.cyc.running = false ∨ s.now < s.tCycle (k + 1) - 1000 ∨ s.cyc.sealedFor = some k)) := by
  refine ⟨?_, ?_, ?_, ?_⟩ <;> dsimp only [Takes, Acts, ActsExpert, Follows, Reads, Local, Runs] <;> decide +kernel

namespace TasksBecomeReadyW

def tk : ReadyTask := { owner := .line, cycle := 5, sample := 5, isNew := true, win := [] }

theorem test_TasksBecomeReady :
    (let s : State := (wEng z (fun e => { e with eng := [(7, { Engine.reset with inService := true })], ready := [tk] }));
      let e : EngIx := 7;
      let t : ReadyTask := tk;
      let x := s.engine e.val;
      let free := x.inService = true ∧ x.task = none ∧ x.failed = false ∧ (∀ d, x.testDue = some d → d ≤ s.coreTicks);
      free ∧ s.nextTask = some t) ∧
    (let s : State := z;
      let e : EngIx := 7;
      let x := s.engine e.val;
      let free := x.inService = true ∧ x.task = none ∧ x.failed = false ∧ (∀ d, x.testDue = some d → d ≤ s.coreTicks);
      (¬ free ∨ s.nextTask = none)) ∧
    (let s : State := (wTime (wCyc (((zr (fun g => { g with phase := .run, sched := withRec 1, image := [(imageKey rec0, { ImagePlace.reset with wait := [(5, 0, [5, 0xA0] ++ zeros 30)] })] })).setPar 0x04005101 0x80).setPar 0x041101D1 0) (fun y => { y with running := true, cycle := 5 })) (fun t => { t with sec := 1 }));
      let a : AxisIx := 5;
      let n : Nat := 0;
      let m : Nat := 5;
      let r : SlotRec := rec0;
      let p : Nat × List Byte := (0, [5, 0xA0] ++ zeros 30);
      let k := s.dueCycle a.val;
      let open_ := s.cyc.running = true ∧ s.twin.standby = false ∧ s.isReleased (.axis a) k = false;
      s.axisSlot a.val 1 = some (n, r) ∧ s.freshFrame n r (s.sampleOf a.val k) = some p ∧ m = s.sampleOf a.val k ∧ open_ ∧ s.phaseReached a.val k 0 = true ∧ s.isLineAxis a.val = false ∧ s.networkAxis a.val = true) ∧
    (let s : State := ((wTime (wCyc (((zr (fun g => { g with phase := .run, sched := withRec 1, image := [(imageKey rec0, { ImagePlace.reset with wait := [(5, 0, [5, 0xA0] ++ zeros 30)] })] })).setPar 0x04005101 0x80).setPar 0x041101D1 5) (fun y => { y with running := true, cycle := 5 })) (fun t => { t with sec := 1 })).setPar 0x04110101 0x80);
      let a : AxisIx := 5;
      let n : Nat := 0;
      let m : Nat := 5;
      let r : SlotRec := rec0;
      let p : Nat × List Byte := (0, [5, 0xA0] ++ zeros 30);
      let k := s.dueCycle a.val;
      let f := fbkOf p.2 p.1 m;
      let open_ := s.cyc.running = true ∧ s.twin.standby = false ∧ s.isReleased (.axis a) k = false;
      s.axisSlot a.val 1 = some (n, r) ∧ s.freshFrame n r (s.sampleOf a.val k) = some p ∧ m = s.sampleOf a.val k ∧ open_ ∧ s.phaseReached a.val k 0 = true ∧ s.isLineAxis a.val = true ∧ f.measures = true) ∧
    (let s : State := (wEng z (fun e => { e with eng := [(7, { Engine.reset with inService := true })], ready := [tk] }));
      let a : AxisIx := 5;
      let k := s.dueCycle a.val;
      let open_ := s.cyc.running = true ∧ s.twin.standby = false ∧ s.isReleased (.axis a) k = false;
      (s.axisSlot a.val 1 = none ∨ s.cyc.running = false ∨ s.twin.standby = true ∨ s.isReleased (.axis a) k = true) ∧ (¬ open_ ∨ s.networkAxis a.val = false ∨ s.isLineAxis a.val = true)) ∧
    (let s : State := (wTime (wCyc (((zr (fun g => { g with phase := .run, sched := withRec 1, image := [(imageKey rec0, { ImagePlace.reset with wait := [(5, 0, [5, 0xA0] ++ zeros 30)] })] })).setPar 0x04005101 0x80).setPar 0x041101D1 0) (fun y => { y with running := true, cycle := 5 })) (fun t => { t with sec := 1 }));
      let a : AxisIx := 5;
      let n : Nat := 0;
      let r : SlotRec := rec0;
      let k := s.dueCycle a.val;
      let open_ := s.cyc.running = true ∧ s.twin.standby = false ∧ s.isReleased (.axis a) k = false;
      let late := s.phaseReached a.val k (s.parN 0x01050001 0 * 100) = true;
      open_ ∧ late ∧ s.networkAxis a.val = true ∧ s.isLineAxis a.val = false ∧ s.axisSlot a.val 1 = some (n, r) ∧ (s.sampleOf a.val k) % 2 ^ r.mux = r.phase) := by
  refine ⟨?_, ?_, ?_, ?_, ?_, ?_⟩ <;> dsimp only [Takes, Acts, ActsExpert, Follows, Reads, Local, Runs] <;> decide +kernel

end TasksBecomeReadyW

theorem test_EngineService_1 :
    (let s : State := w0;
      let c : CmdCtx := c0;
      let engine : BitVec 8 := 8;
      8 ≤ engine.toNat ∧ Acts s c 0x0F01 3) ∧
    (let s : State := w0;
      let c : CmdCtx := c0;
      let engine : BitVec 8 := 7;
      let st : Nat := 0x0303;
      let t := s.takeUp c;
      engine.toNat < 8 ∧ t.rotateRefusal engine.toNat = some st ∧ Acts s c 0x0F01 3) ∧
    (let s : State := (wTwin (wEng w0 (fun e => { e with eng := (List.range 8).map (fun i => (i, { Engine.reset with inService := true })) })) (fun t => { t with standby := true, landed := [{ lr with seq := 1, opcode := 0x0F01 }] }));
      let c : CmdCtx := c0;
      let engine : BitVec 8 := 7;
      let t := s.takeUp c;
      engine.toNat < 8 ∧ t.rotateRefusal engine.toNat = none ∧ Follows t c 0x0F01) ∧
    (let s : State := (wEng w0 (fun e => { e with eng := (List.range 8).map (fun i => (i, { Engine.reset with inService := true })) }));
      let c : CmdCtx := c0;
      let engine : BitVec 8 := 7;
      let t := s.takeUp c;
      engine.toNat < 8 ∧ t.rotateRefusal engine.toNat = none ∧ t.twin.standby = false ∧ Acts s c 0x0F01 3) ∧
    (let s : State := (wBoot (w0.setPar 0x0F000001 1) (fun b => { b with ready := true }));
      let auto := s.parN 0x0F000001 0;
      let due := s.boot.ready = true ∧ auto ≠ 0 ∧ s.boot.rotDue ≤ s.coreTicks;
      due) ∧
    (let s : State := w0;
      let auto := s.parN 0x0F000001 0;
      let due := s.boot.ready = true ∧ auto ≠ 0 ∧ s.boot.rotDue ≤ s.coreTicks;
      ¬ due ∧ s.boot.scrubNext ≤ s.coreTicks) ∧
    (let s : State := { (w0.setEngine 7 { Engine.reset with rotated := true }) with coreTicks := 40000000 };
      let e : EngIx := 7;
      let pass : Bool := true;
      let x := s.engine e.val;
      let done := x.rotated = true ∧ x.rotStart + 40000000 ≤ s.coreTicks;
      done ∧ pass = true) ∧
    (let s : State := { (w0.setEngine 7 { Engine.reset with rotated := true }) with coreTicks := 40000000 };
      let e : EngIx := 7;
      let pass : Bool := false;
      let x := s.engine e.val;
      let done := x.rotated = true ∧ x.rotStart + 40000000 ≤ s.coreTicks;
      done ∧ pass = false ∧ x.failed = false) := by
  refine ⟨?_, ?_, ?_, ?_, ?_, ?_, ?_, ?_⟩ <;> dsimp only [Takes, Acts, ActsExpert, Follows, Reads, Local, Runs] <;> decide +kernel

theorem test_EngineService_2 :
    (let s : State := w0;
      let e : EngIx := 7;
      let x := s.engine e.val;
      let done := x.rotated = true ∧ x.rotStart + 40000000 ≤ s.coreTicks;
      ¬ done) ∧
    (let s : State := (wBoot (w0.setPar 0x0F000002 1) (fun b => { b with ready := true, scrubNext := 5 }));
      s.coreTicks < s.boot.scrubNext) := by
  refine ⟨?_, ?_⟩ <;> dsimp only [Takes, Acts, ActsExpert, Follows, Reads, Local, Runs] <;> decide +kernel

theorem test_FeedbackPorts_1 :
    (let s : State := (z.setPar 0x0410F001 1);
      let n : FbIx := 15;
      let onB : Bool := true;
      let lv : Bool := true;
      let held : Nat := 5;
      let m := s.fbMode n.val;
      let passes := s.fbPasses n.val held = true;
      let edges := m = 1 ∧ passes;
      let x := s.fb n.val;
      edges ∧ (if onB then x.b else x.a) ≠ lv) ∧
    (let s : State := (z.setPar 0x0410F001 1);
      let n : FbIx := 15;
      let onB : Bool := true;
      let lv : Bool := true;
      let held : Nat := 0;
      let m := s.fbMode n.val;
      let passes := s.fbPasses n.val held = true;
      let edges := m = 1 ∧ passes;
      let x := s.fb n.val;
      (¬ edges ∨ (if onB then x.b else x.a) = lv)) ∧
    (let s : State := (z.setPar 0x0410F001 1);
      let n : FbIx := 15;
      let a : Bool := true;
      let b : Bool := true;
      let held : Nat := 5;
      let m := s.fbMode n.val;
      let passes := s.fbPasses n.val held = true;
      let edges := m = 1 ∧ passes;
      let x := s.fb n.val;
      edges ∧ x.a ≠ a ∧ x.b ≠ b) ∧
    (let s : State := (z.setPar 0x0410F001 1);
      let n : FbIx := 15;
      let a : Bool := true;
      let b : Bool := true;
      let held : Nat := 0;
      let m := s.fbMode n.val;
      let passes := s.fbPasses n.val held = true;
      let edges := m = 1 ∧ passes;
      let x := s.fb n.val;
      (¬ edges ∨ x.a = a ∨ x.b = b)) ∧
    (let s : State := (z.setPar 0x0410F001 2);
      let n : FbIx := 15;
      let code : BitVec 3 := 0;
      let held : Nat := 5;
      let m := s.fbMode n.val;
      let passes := s.fbPasses n.val held = true;
      m = 2 ∧ passes ∧ hallStep code.toNat = none) ∧
    (let s : State := (z.setPar 0x0410F001 2);
      let n : FbIx := 15;
      let code : BitVec 3 := 1;
      let held : Nat := 5;
      let j : Nat := 0;
      let m := s.fbMode n.val;
      let passes := s.fbPasses n.val held = true;
      let x := s.fb n.val;
      m = 2 ∧ passes ∧ hallStep code.toNat = some j ∧ (x.hallIllegal = true ∨ x.hall = none)) ∧
    (let s : State := ((z.modFb 15 (fun x => { x with hall := some 1 })).setPar 0x0410F001 2);
      let n : FbIx := 15;
      let code : BitVec 3 := 3;
      let held : Nat := 5;
      let i : Nat := 0;
      let j : Nat := 1;
      let old : BitVec 3 := 1;
      let m := s.fbMode n.val;
      let passes := s.fbPasses n.val held = true;
      let x := s.fb n.val;
      m = 2 ∧ passes ∧ hallStep code.toNat = some j ∧ x.hallIllegal = false ∧ x.hall = some old ∧ hallStep old.toNat = some i ∧ j = (i + 1) % 6 ∧ i ≠ j) ∧
    (let s : State := ((z.modFb 15 (fun x => { x with hall := some 1 })).setPar 0x0410F001 2);
      let n : FbIx := 15;
      let code : BitVec 3 := 6;
      let held : Nat := 5;
      let i : Nat := 0;
      let j : Nat := 3;
      let old : BitVec 3 := 1;
      let m := s.fbMode n.val;
      let passes := s.fbPasses n.val held = true;
      let x := s.fb n.val;
      m = 2 ∧ passes ∧ hallStep code.toNat = some j ∧ x.hallIllegal = false ∧ x.hall = some old ∧ hallStep old.toNat = some i ∧ j ≠ i ∧ j ≠ (i + 1) % 6 ∧ i ≠ (j + 1) % 6) := by
  refine ⟨?_, ?_, ?_, ?_, ?_, ?_, ?_, ?_⟩ <;> dsimp only [Takes, Acts, ActsExpert, Follows, Reads, Local, Runs] <;> decide +kernel

theorem test_FeedbackPorts_2 :
    (let s : State := (z.setPar 0x0410F001 1);
      let n : FbIx := 15;
      let held : Nat := 0;
      let m := s.fbMode n.val;
      let passes := s.fbPasses n.val held = true;
      let edges := m = 1 ∧ passes;
      (m ≠ 2 ∨ ¬ passes) ∧ (¬ edges ∨ s.parN 0x04100004 n.val ≠ 1)) ∧
    (let s : State := ((z.setPar 0x0410F001 1).setPar 0x0410F004 1);
      let n : FbIx := 15;
      let rising : Bool := true;
      let held : Nat := 5;
      let m := s.fbMode n.val;
      let passes := s.fbPasses n.val held = true;
      let edges := m = 1 ∧ passes;
      let x := s.fb n.val;
      edges ∧ s.parN 0x04100004 n.val = 1 ∧ rising = x.lastUp) ∧
    (let s : State := ((z.setPar 0x0410F001 1).setPar 0x0410F004 1);
      let n : FbIx := 15;
      let rising : Bool := false;
      let held : Nat := 5;
      let m := s.fbMode n.val;
      let passes := s.fbPasses n.val held = true;
      let edges := m = 1 ∧ passes;
      let x := s.fb n.val;
      edges ∧ s.parN 0x04100004 n.val = 1 ∧ rising ≠ x.lastUp) ∧
    (let s : State := (wTime (wCyc (z.setPar 0x0410F001 3) (fun y => { y with running := true, cycle := 5 })) (fun t => { t with sec := 1 }));
      let n : FbIx := 15;
      let m := s.fbMode n.val;
      let x := s.fb n.val;
      let ssi := m = 3 ∨ m = 4;
      ssi ∧ s.twin.standby = false ∧ s.saf.silent = false ∧ s.cyc.running = true ∧ x.burstFor ≠ some (s.cyc.cycle + 1) ∧ s.tCycle (s.cyc.cycle + 1) - s.tSsi n.val ≤ s.now) ∧
    (let s : State := (z.setPar 0x0410F001 1);
      let n : FbIx := 15;
      let m := s.fbMode n.val;
      let x := s.fb n.val;
      let ssi := m = 3 ∨ m = 4;
      (¬ ssi ∨ s.twin.standby = true ∨ s.cyc.running = false ∨ x.burstFor = some (s.cyc.cycle + 1)) ∧ ¬ ssi) ∧
    (let s : State := (z.setPar 0x0410F001 3);
      let n : FbIx := 15;
      let m := s.fbMode n.val;
      let tail := s.parN 0x04100011 n.val;
      m = 3 ∧ tail = 0) ∧
    (let s : State := (z.setPar 0x0410F001 4);
      let n : FbIx := 15;
      let m := s.fbMode n.val;
      let tail := s.parN 0x04100011 n.val;
      m = 4 ∧ tail = 0) ∧
    (let s : State := (((z.setPar 0x0410F001 3).setPar 0x0410F011 1).setPar 0x0410F012 1);
      let n : FbIx := 15;
      let word : BitVec 56 := 1;
      let m := s.fbMode n.val;
      let tail := s.parN 0x04100011 n.val;
      m = 3 ∧ tail ≠ 0 ∧ s.parN 0x04100012 n.val = 1 ∧ word.getLsbD 0 = true) := by
  refine ⟨?_, ?_, ?_, ?_, ?_, ?_, ?_, ?_⟩ <;> dsimp only [Takes, Acts, ActsExpert, Follows, Reads, Local, Runs] <;> decide +kernel

theorem test_FeedbackPorts_3 :
    (let s : State := { z with line := { z.line with obs := { z.line.obs with stillTimer := 1000000 } } };
      let o : Owner := .line;
      let ob := s.ownerObs o;
      ob.still = false ∧ s.nStill o ≤ ob.stillTimer) ∧
    (let s : State := { z with line := { z.line with obs := { z.line.obs with still := true } } };
      let o : Owner := .line;
      let ob := s.ownerObs o;
      ob.still = true) ∧
    (let s : State := { z with line := { z.line with obs := { z.line.obs with settlingFlag := true } } };
      let o : Owner := .line;
      let ob := s.ownerObs o;
      ob.settlingFlag = true ∧ ob.settling = 0) ∧
    (let s : State := (z.setPar 0x0410F001 1);
      let o : Owner := .line;
      let ob := s.ownerObs o;
      (ob.settlingFlag = false ∨ ob.settling ≠ 0)) := by
  refine ⟨?_, ?_, ?_, ?_⟩ <;> dsimp only [Takes, Acts, ActsExpert, Follows, Reads, Local, Runs] <;> decide +kernel

theorem test_HeatTickTrims :
    (let s : State := w0;
      let temps : List Int := [];
      (s.coreTicks < s.arb.nextTick ∨ temps.length ≠ 8)) ∧
    (let s : State := z;
      let temps : List Int := (List.replicate 8 400);
      s.arb.nextTick ≤ s.coreTicks ∧ temps.length = 8) ∧
    (let s : State := (wTime (wCyc z (fun y => { y with running := true, cycle := 5 })) (fun t => { t with sec := 1 }));
      s.saf.silent = false ∧ s.saf.endgame = none ∧ s.cyc.running = true ∧ s.tCycle (s.cyc.cycle + 1) ≤ s.now ∧ s.twin.trimLog = none ∧ s.cyc.trimAt ≤ s.nextCycle) := by
  refine ⟨?_, ?_, ?_⟩ <;> dsimp only [Takes, Acts, ActsExpert, Follows, Reads, Local, Runs] <;> decide +kernel

theorem test_ArbiterCommands_1 :
    (let s : State := w0;
      let a : AxisIx := 0;
      (s.axis a.val).req = none) ∧
    (let s : State := (wAxis w0 (fun x => { x with req := some { kind := .resume, pReq := 0, eReq := 0, brake := 0, prio := 0, group := 0, cycle := 0, defer := 0, dmaxDone := false, ctx := none, moveSeq := none, change := false, coefs := [] } }));
      let a : AxisIx := 0;
      let q : Request := { kind := .resume, pReq := 0, eReq := 0, brake := 0, prio := 0, group := 0, cycle := 0, defer := 0, dmaxDone := false, ctx := none, moveSeq := none, change := false, coefs := [] };
      let d := s.parN 0x0C000008 0 ≤ q.defer ∧ q.dmaxDone = false;
      (s.axis a.val).req = some q ∧ ¬ d) ∧
    (let s : State := (wAxis w0 (fun x => { x with req := some { kind := .resume, pReq := 0, eReq := 0, brake := 0, prio := 0, group := 16, cycle := 0, defer := 65535, dmaxDone := false, ctx := none, moveSeq := none, change := false, coefs := [] } }));
      let a : AxisIx := 0;
      let q : Request := { kind := .resume, pReq := 0, eReq := 0, brake := 0, prio := 0, group := 16, cycle := 0, defer := 65535, dmaxDone := false, ctx := none, moveSeq := none, change := false, coefs := [] };
      let d := s.parN 0x0C000008 0 ≤ q.defer ∧ q.dmaxDone = false;
      (s.axis a.val).req = some q ∧ d ∧ 16 ≤ q.group) ∧
    (let s : State := (wAxis w0 (fun x => { x with req := some { kind := .resume, pReq := 0, eReq := 0, brake := 0, prio := 0, group := 15, cycle := 0, defer := 65535, dmaxDone := false, ctx := none, moveSeq := none, change := false, coefs := [] } }));
      let a : AxisIx := 0;
      let q : Request := { kind := .resume, pReq := 0, eReq := 0, brake := 0, prio := 0, group := 15, cycle := 0, defer := 65535, dmaxDone := false, ctx := none, moveSeq := none, change := false, coefs := [] };
      let d := s.parN 0x0C000008 0 ≤ q.defer ∧ q.dmaxDone = false;
      (s.axis a.val).req = some q ∧ d ∧ q.group < 16) ∧
    (let s : State := w0;
      let c : CmdCtx := c0;
      let group : BitVec 8 := 16;
      16 ≤ group.toNat ∧ Reads s c 0x0C01 1) ∧
    (let s : State := w0;
      let c : CmdCtx := c0;
      let group : BitVec 8 := 15;
      group.toNat < 16 ∧ Reads s c 0x0C01 1) ∧
    (let s : State := w0;
      let c : CmdCtx := c0;
      let which : BitVec 8 := 0;
      let p : BitVec 32 := 1200;
      let e : BitVec 32 := 1;
      let r : BitVec 32 := 0;
      let inRange := 1 ≤ p.toNat ∧ p.toNat ≤ 1000000 ∧ 1 ≤ e.toNat ∧ e.toNat ≤ 10000000 ∧ r.toNat ≤ 1000000;
      Acts s c 0x0C02 3 ∧ which.toNat < 16 ∧ inRange) ∧
    (let s : State := w0;
      let c : CmdCtx := c0;
      let which : BitVec 8 := 0;
      let p : BitVec 32 := 0;
      let e : BitVec 32 := 0;
      let r : BitVec 32 := 0;
      let inRange := 1 ≤ p.toNat ∧ p.toNat ≤ 1000000 ∧ 1 ≤ e.toNat ∧ e.toNat ≤ 10000000 ∧ r.toNat ≤ 1000000;
      Acts s c 0x0C02 3 ∧ which.toNat < 16 ∧ ¬ inRange) := by
  refine ⟨?_, ?_, ?_, ?_, ?_, ?_, ?_, ?_⟩ <;> dsimp only [Takes, Acts, ActsExpert, Follows, Reads, Local, Runs] <;> decide +kernel

theorem test_ArbiterCommands_2 :
    (let s : State := w0;
      let c : CmdCtx := c0;
      let which : BitVec 8 := 0xFF;
      let p : BitVec 32 := 1200;
      Acts s c 0x0C02 3 ∧ which = 0xFF ∧ 400 ≤ p.toNat ∧ p.toNat ≤ 1200) ∧
    (let s : State := w0;
      let c : CmdCtx := c0;
      let which : BitVec 8 := 0xFF;
      let p : BitVec 32 := 1201;
      Acts s c 0x0C02 3 ∧ which = 0xFF ∧ (p.toNat < 400 ∨ 1200 < p.toNat)) := by
  refine ⟨?_, ?_⟩ <;> dsimp only [Takes, Acts, ActsExpert, Follows, Reads, Local, Runs] <;> decide +kernel

theorem test_Scoresheet_1 :
    (let s : State := w0;
      let tick := s.now / 1000 * 1000 - 1000;
      let full := s.scs.phase = .post ∧ s.scsFull = true;
      tick ≤ s.scs.tick ∧ ¬ full) ∧
    (let s : State := (wTime w0 (fun t => { t with ns := 5000 }));
      let tick := s.now / 1000 * 1000 - 1000;
      let idle := fun (s : State) => s.scs.phase = .idle ∨ s.scs.phase = .done;
      s.scs.tick < tick ∧ idle s) ∧
    (let s : State := (wTime (wScs w0 (fun q => { q with phase := .post })) (fun t => { t with ns := 5000 }));
      let tick := s.now / 1000 * 1000 - 1000;
      let idle := fun (s : State) => s.scs.phase = .idle ∨ s.scs.phase = .done;
      let full := s.scs.phase = .post ∧ s.scsFull = true;
      s.scs.tick < tick ∧ ¬ idle s ∧ full) ∧
    (let s : State := w0;
      let pin : Fin 4 := 3;
      let level : Bool := true;
      let held : Nat := 0;
      (s.parN 0x0A400001 pin.val = 1 ∨ held < 2 ∨ s.scs.pinLevel.getLsbD pin.val = level)) ∧
    (let s : State := w0;
      let pin : Fin 4 := 3;
      let level : Bool := true;
      let held : Nat := 5;
      s.parN 0x0A400001 pin.val ≠ 1 ∧ 2 ≤ held ∧ s.scs.pinLevel.getLsbD pin.val ≠ level) ∧
    (let s : State := (wScs w0 (fun q => { q with pinOut := 15 }));
      let pin : Fin 4 := 3;
      let high := s.scs.pinOut.getLsbD pin.val = true ∧ sget (fun _ => 0) s.scs.pinEnd pin.val ≤ s.coreTicks;
      high) ∧
    (let s : State := w0;
      let pin : Fin 4 := 3;
      let high := s.scs.pinOut.getLsbD pin.val = true ∧ sget (fun _ => 0) s.scs.pinEnd pin.val ≤ s.coreTicks;
      ¬ high) ∧
    (let s : State := ((w0.setPar 0x0A300002 5).setPar 0x0A000002 0);
      let c : CmdCtx := c0;
      let t := s.takeUp c;
      t.unitsBad = true ∧ Acts s c 0x0A01 3) := by
  refine ⟨?_, ?_, ?_, ?_, ?_, ?_, ?_, ?_⟩ <;> dsimp only [Takes, Acts, ActsExpert, Follows, Reads, Local, Runs] <;> decide +kernel

theorem test_Scoresheet_2 :
    (let s : State := (wTime (wScs w0 (fun q => { q with phase := .post })) (fun t => { t with ns := 5000 }));
      let c : CmdCtx := c0;
      let t := s.takeUp c;
      let idle := fun (s : State) => s.scs.phase = .idle ∨ s.scs.phase = .done;
      t.unitsBad = false ∧ (¬ idle t ∨ t.scs.armPending ≠ none) ∧ Acts s c 0x0A01 3) ∧
    (let s : State := ((((w0.setPar 0x0A100001 16).setPar 0x0A100002 1).setPar 0x0A101001 16).setPar 0x0A101002 60000);
      let c : CmdCtx := c0;
      let t := s.takeUp c;
      let idle := fun (s : State) => s.scs.phase = .idle ∨ s.scs.phase = .done;
      let short := ∃ i < 72, 0 < t.chanWeight i ∧ t.ringLen i < 64;
      t.unitsBad = false ∧ idle t ∧ t.scs.armPending = none ∧ short ∧ Acts s c 0x0A01 3) ∧
    (let s : State := w0;
      let c : CmdCtx := c0;
      let t := s.takeUp c;
      let idle := fun (s : State) => s.scs.phase = .idle ∨ s.scs.phase = .done;
      let waits := fun (s : State) => s.scs.phase = .waitMaster ∨ s.scs.phase = .waitFire;
      let short := ∃ i < 72, 0 < t.chanWeight i ∧ t.ringLen i < 64;
      Acts s c 0x0A01 3 ∧ t.unitsBad = false ∧ idle t ∧ t.scs.armPending = none ∧ ¬ short ∧ Acts s c 0x0A02 3 ∧ (¬ waits t ∨ t.scs.forceCtx ≠ none) ∧ Acts s c 0x0A03 3 ∧ t.scs.forceCtx = none) ∧
    (let s : State := (wScs w0 (fun q => { q with phase := .waitMaster }));
      let c : CmdCtx := c0;
      let t := s.takeUp c;
      let waits := fun (s : State) => s.scs.phase = .waitMaster ∨ s.scs.phase = .waitFire;
      Acts s c 0x0A02 3 ∧ waits t ∧ t.scs.forceCtx = none) ∧
    (let s : State := (wScs w0 (fun q => { q with forceCtx := some c0, phase := .waitMaster }));
      let c : CmdCtx := c0;
      let f : CmdCtx := c0;
      let t := s.takeUp c;
      Acts s c 0x0A03 3 ∧ t.scs.forceCtx = some f) ∧
    (let s : State := w0;
      let c : CmdCtx := c0;
      let first : BitVec 32 := 0;
      let count : BitVec 16 := 0;
      let t := s.takeUp c;
      let most := if (t.session c.slot.val).source = .pcie then 27 else 179;
      let inTrace := count ≠ 0 ∧ count.toNat ≤ most ∧ first.toNat + count.toNat ≤ 524288;
      Reads s c 0x0A04 1 ∧ ¬ inTrace) ∧
    (let s : State := w0;
      let c : CmdCtx := c0;
      let first : BitVec 32 := 0;
      let count : BitVec 16 := 1;
      let t := s.takeUp c;
      let most := if (t.session c.slot.val).source = .pcie then 27 else 179;
      let inTrace := count ≠ 0 ∧ count.toNat ≤ most ∧ first.toNat + count.toNat ≤ 524288;
      Reads s c 0x0A04 1 ∧ inTrace) := by
  refine ⟨?_, ?_, ?_, ?_, ?_, ?_, ?_⟩ <;> dsimp only [Takes, Acts, ActsExpert, Follows, Reads, Local, Runs] <;> decide +kernel

theorem test_TimeSources_1 :
    (let s : State := (z.setPar 0x0B101001 0);
      let d : Fin 2 := 1;
      let dom : BitVec 8 := 1;
      let mine := dom.toNat = s.parN 0x0B100001 d.val;
      ¬ mine) ∧
    (let s : State := (z.setPar 0x0B101001 0);
      let d : Fin 2 := 1;
      let dom : BitVec 8 := 0;
      let p := s.ptp d.val;
      let mine := dom.toNat = s.parN 0x0B100001 d.val;
      mine ∧ p.transmitter = none ∧ p.waiting = none) ∧
    (let s : State := ((z.setPtp 1 { PtpPort.reset with transmitter := some (5, 7) }).setPar 0x0B101001 0);
      let d : Fin 2 := 1;
      let dom : BitVec 8 := 0;
      let two : Bool := true;
      let r0 : Nat := 5;
      let w0 : BitVec 64 := 7;
      let p := s.ptp d.val;
      let mine := dom.toNat = s.parN 0x0B100001 d.val;
      mine ∧ p.transmitter = some (r0, w0) ∧ two = true) ∧
    (let s : State := ((z.setPtp 1 { PtpPort.reset with transmitter := some (5, 7) }).setPar 0x0B101001 0);
      let d : Fin 2 := 1;
      let dom : BitVec 8 := 0;
      let two : Bool := false;
      let r0 : Nat := 5;
      let w0 : BitVec 64 := 7;
      let p := s.ptp d.val;
      let mine := dom.toNat = s.parN 0x0B100001 d.val;
      mine ∧ p.transmitter = some (r0, w0) ∧ two = false) ∧
    (let s : State := ((z.setPtp 1 { PtpPort.reset with waiting := some (3, 9) }).setPar 0x0B101001 0);
      let d : Fin 2 := 1;
      let dom : BitVec 8 := 0;
      let seq : BitVec 16 := 4;
      let q : BitVec 16 := 3;
      let rx : Int := 9;
      let p := s.ptp d.val;
      let mine := dom.toNat = s.parN 0x0B100001 d.val;
      mine ∧ p.waiting = some (q, rx) ∧ q ≠ seq) ∧
    (let s : State := ((z.setPtp 1 { PtpPort.reset with waiting := some (3, 9) }).setPar 0x0B101001 0);
      let d : Fin 2 := 1;
      let dom : BitVec 8 := 0;
      let seq : BitVec 16 := 3;
      let q : BitVec 16 := 3;
      let rx : Int := 9;
      let p := s.ptp d.val;
      let mine := dom.toNat = s.parN 0x0B100001 d.val;
      mine ∧ p.waiting = some (q, rx) ∧ q = seq) ∧
    (let s : State := (z.setPar 0x0B101001 0);
      let d : Fin 2 := 1;
      let dom : BitVec 8 := 0;
      let rank : Nat := 5;
      let r0 : Nat := 5;
      let src : BitVec 64 := 8;
      let w0 : BitVec 64 := 7;
      let p := s.ptp d.val;
      let mine := dom.toNat = s.parN 0x0B100001 d.val;
      mine ∧ (p.transmitter = none ∨ (p.transmitter = some (r0, w0) ∧ (w0 = src ∨ rank < r0)))) ∧
    (let s : State := ((z.setPtp 1 { PtpPort.reset with transmitter := some (5, 7) }).setPar 0x0B101001 0);
      let d : Fin 2 := 1;
      let dom : BitVec 8 := 0;
      let rank : Nat := 5;
      let r0 : Nat := 5;
      let src : BitVec 64 := 8;
      let w0 : BitVec 64 := 7;
      let p := s.ptp d.val;
      let mine := dom.toNat = s.parN 0x0B100001 d.val;
      mine ∧ p.transmitter = some (r0, w0) ∧ w0 ≠ src ∧ r0 ≤ rank) := by
  refine ⟨?_, ?_, ?_, ?_, ?_, ?_, ?_, ?_⟩ <;> dsimp only [Takes, Acts, ActsExpert, Follows, Reads, Local, Runs] <;> decide +kernel

theorem test_TimeSources_2 :
    (let s : State := (z.setPar 0x0B101001 0);
      let d : Fin 2 := 1;
      let dom : BitVec 8 := 0;
      let seq : BitVec 16 := 3;
      let p := s.ptp d.val;
      let mine := dom.toNat = s.parN 0x0B100001 d.val;
      mine ∧ (p.reqTx = none ∨ seq ≠ p.reqSeq)) ∧
    (let s : State := ((z.setPtp 1 { PtpPort.reset with reqTx := some 4, reqSeq := 3 }).setPar 0x0B101001 0);
      let d : Fin 2 := 1;
      let dom : BitVec 8 := 0;
      let seq : BitVec 16 := 3;
      let t3 : Int := 4;
      let p := s.ptp d.val;
      let mine := dom.toNat = s.parN 0x0B100001 d.val;
      mine ∧ p.reqTx = some t3 ∧ seq = p.reqSeq) ∧
    (let s : State := ((z.setPtp 1 { PtpPort.reset with transmitter := some (5, 7) }).setPar 0x0B101001 0);
      let d : Fin 2 := 1;
      let p := s.ptp d.val;
      let peer := s.parN 0x0B100002 d.val = 1;
      (p.transmitter ≠ none ∨ peer)) ∧
    (let s : State := (z.setPar 0x0B101001 0);
      let d : Fin 2 := 1;
      let p := s.ptp d.val;
      let x := s.source (d.val + 1);
      let y := s.source (d.val + 3);
      let lostSync := p.lastSync = none ∨ ∃ t, p.lastSync = some t ∧ t + s.parN 0x0B100004 d.val * p.interval ≤ s.coreTicks;
      let lostDelay := p.delayTick = none ∨ ∃ t, p.delayTick = some t ∧ t + 16000000000 ≤ s.coreTicks;
      let peer := s.parN 0x0B100002 d.val = 1;
      p.transmitter = none ∧ ¬ peer ∧ (x.valid = false ∨ (¬ lostSync ∧ ¬ lostDelay)) ∧ (y.valid = false ∨ s.coreTicks < y.lastEdgeTick + 1500000000)) ∧
    (let s : State := ((z.setSource 2 { TimeSource.reset with valid := true }).setPar 0x0B101001 0);
      let d : Fin 2 := 1;
      let p := s.ptp d.val;
      let x := s.source (d.val + 1);
      let lostSync := p.lastSync = none ∨ ∃ t, p.lastSync = some t ∧ t + s.parN 0x0B100004 d.val * p.interval ≤ s.coreTicks;
      let lostDelay := p.delayTick = none ∨ ∃ t, p.delayTick = some t ∧ t + 16000000000 ≤ s.coreTicks;
      x.valid = true ∧ (lostSync ∨ lostDelay)) ∧
    (let s : State := (z.setSource 3 { (z.source 3) with pinAt := some 500 });
      let d : Fin 2 := 0;
      let stamp : Int := 600;
      let y := s.source (d.val + 3);
      y.again stamp = true) ∧
    (let s : State := (z.setSource 3 { (z.source 3) with pinAt := some 500 });
      let d : Fin 2 := 0;
      let t := 500;
      let y := s.source (d.val + 3);
      y.pinAt = some t) ∧
    (let s : State := ((z.setSource 4 { TimeSource.reset with valid := true, lastEdge := some 0 }).setPar 0x0B101001 0);
      let d : Fin 2 := 1;
      let stamp : Int := 0;
      let e0 : Int := 0;
      let y := s.source (d.val + 3);
      let off := fun (a b : Int) => 100000 < (a - b - 1000000000).natAbs;
      y.again stamp = false ∧ y.lastEdge = some e0 ∧ off stamp e0 ∧ y.valid = true ∧ y.badRun = 0) := by
  refine ⟨?_, ?_, ?_, ?_, ?_, ?_, ?_, ?_⟩ <;> dsimp only [Takes, Acts, ActsExpert, Follows, Reads, Local, Runs] <;> decide +kernel

theorem test_TimeSources_3 :
    (let s : State := ((z.setSource 4 { TimeSource.reset with valid := true, lastEdge := some 0, badRun := 1 }).setPar 0x0B101001 0);
      let d : Fin 2 := 1;
      let stamp : Int := 0;
      let e0 : Int := 0;
      let y := s.source (d.val + 3);
      let off := fun (a b : Int) => 100000 < (a - b - 1000000000).natAbs;
      y.again stamp = false ∧ y.lastEdge = some e0 ∧ off stamp e0 ∧ y.valid = true ∧ y.badRun ≠ 0) ∧
    (let s : State := ((wTime (z.setSource 4 { TimeSource.reset with run := 2, lastEdge := some 0 }) (fun t => { t with timeValid := true })).setPar 0x0B101001 0);
      let d : Fin 2 := 1;
      let stamp : Int := 1000000000;
      let e0 : Int := 0;
      let y := s.source (d.val + 3);
      let off := fun (a b : Int) => 100000 < (a - b - 1000000000).natAbs;
      y.again stamp = false ∧ y.lastEdge = some e0 ∧ ¬ off stamp e0 ∧ 2 ≤ y.run ∧ (s.time.timeValid = true ∨ s.time.tod = true)) ∧
    (let s : State := ({ (z.setSource 4 { TimeSource.reset with valid := true }) with coreTicks := 1500000000 }.setPar 0x0B101001 0);
      let d : Fin 2 := 1;
      let y := s.source (d.val + 3);
      y.valid = true ∧ y.lastEdgeTick + 1500000000 ≤ s.coreTicks) := by
  refine ⟨?_, ?_, ?_⟩ <;> dsimp only [Takes, Acts, ActsExpert, Follows, Reads, Local, Runs] <;> decide +kernel

theorem test_ServedClock_1 :
    (let s : State := (z.setSource 1 { TimeSource.reset with valid := true });
      let x := s.time;
      s.choice ≠ x.selected) ∧
    (let s : State := w0;
      let x := s.time;
      let th := (s.source x.selected).theta;
      let due := s.stepDue = true;
      s.choice = x.selected ∧ (x.state ≠ .slew ∨ s.twin.standby = true ∨ 1000 < th.natAbs) ∧ (x.timeValid = false ∨ x.selected = 0 ∨ x.offsetHigh = false ∨ x.faultTold = true) ∧ (x.step = none ∨ ¬ due) ∧ (x.timeValid = false ∨ x.ppsSec = x.sec) ∧ (x.ppsOut = false ∨ s.coreTicks < x.ppsEnd)) ∧
    (let s : State := { ((((wTime (z.setPar 0x0B000001 0x1200) (fun t => { t with selected := 2 })).setSource 2 { TimeSource.reset with valid := true }).setSource 1 { TimeSource.reset with valid := true })) with coreTicks := 10000000000 };
      let c : CmdCtx := c0;
      let n : Nat := 1;
      let x := s.time;
      let ahead := s.prio.takeWhile (fun c => decide (c ≠ x.selected));
      ahead.find? (fun c => (s.source c).valid && decide ((s.source c).validSince + 10000000000 ≤ s.coreTicks)) = some n ∧ x.selected ≠ 0 ∧ x.selected ∈ s.prio) ∧
    (let s : State := w0;
      let c : CmdCtx := c0;
      let t := s.takeUp c;
      let x := s.time;
      let ahead := s.prio.takeWhile (fun c => decide (c ≠ x.selected));
      let stable := fun (c : Nat) => (s.source c).valid = true ∧ (s.source c).validSince + 10000000000 ≤ s.coreTicks;
      let moving := ∃ a < 256, t.axState a = .running;
      ((∀ c ∈ ahead, ¬ stable c) ∨ x.selected = 0 ∨ x.selected ∉ s.prio) ∧ Reads s c 0x0B01 1 ∧ (moving ∨ (t.source t.time.selected).valid = false) ∧ ActsExpert s c 0x0B03 3) ∧
    (let s : State := (wTime z (fun t => { t with state := .slew }));
      let x := s.time;
      let th := (s.source x.selected).theta;
      x.state = .slew ∧ s.twin.standby = false ∧ th.natAbs ≤ 1000) ∧
    (let s : State := (wTime z (fun t => { t with timeValid := true, selected := 1, offsetHigh := true }));
      let x := s.time;
      x.timeValid = true ∧ x.selected ≠ 0 ∧ x.offsetHigh = true ∧ x.faultTold = false) ∧
    (let s : State := (wTime z (fun t => { t with step := some { delta := 5, ctx := none } }));
      let p : PendingStep := { delta := 5, ctx := none };
      let x := s.time;
      let due := s.stepDue = true;
      x.step = some p ∧ due ∧ s.restepBlocked p = false) ∧
    (let s : State := (wTime (wIn z .running) (fun t => { t with step := some { delta := 5, ctx := some c0 } }));
      let p : PendingStep := { delta := 5, ctx := some c0 };
      let x := s.time;
      let due := s.stepDue = true;
      x.step = some p ∧ due ∧ s.restepBlocked p = true) := by
  refine ⟨?_, ?_, ?_, ?_, ?_, ?_, ?_, ?_⟩ <;> dsimp only [Takes, Acts, ActsExpert, Follows, Reads, Local, Runs] <;> decide +kernel

theorem test_ServedClock_2 :
    (let s : State := (wTime z (fun t => { t with timeValid := true, sec := 7 }));
      let x := s.time;
      x.timeValid = true ∧ x.ppsSec ≠ x.sec) ∧
    (let s : State := (wTime z (fun t => { t with ppsOut := true }));
      let x := s.time;
      x.ppsOut = true ∧ x.ppsEnd ≤ s.coreTicks) ∧
    (let s : State := w0;
      let c : CmdCtx := c0;
      let src : BitVec 8 := 0;
      Reads s c 0x0B02 1 ∧ (src = 0 ∨ 4 < src.toNat)) ∧
    (let s : State := w0;
      let c : CmdCtx := c0;
      let src : BitVec 8 := 1;
      Reads s c 0x0B02 1 ∧ src ≠ 0 ∧ src.toNat ≤ 4) ∧
    (let s : State := (wTime (w0.setSource 1 { TimeSource.reset with valid := true }) (fun t => { t with selected := 1, step := some { delta := 5, ctx := none } }));
      let c : CmdCtx := c0;
      let t := s.takeUp c;
      let moving := ∃ a < 256, t.axState a = .running;
      ¬ moving ∧ (t.source t.time.selected).valid = true ∧ t.time.step ≠ none ∧ ActsExpert s c 0x0B03 3) ∧
    (let s : State := (wTime (w0.setSource 1 { TimeSource.reset with valid := true }) (fun t => { t with selected := 1 }));
      let c : CmdCtx := c0;
      let t := s.takeUp c;
      let moving := ∃ a < 256, t.axState a = .running;
      ¬ moving ∧ (t.source t.time.selected).valid = true ∧ t.time.step = none ∧ ActsExpert s c 0x0B03 3) := by
  refine ⟨?_, ?_, ?_, ?_, ?_, ?_⟩ <;> dsimp only [Takes, Acts, ActsExpert, Follows, Reads, Local, Runs] <;> decide +kernel

theorem test_SafetyMonitors_1 :
    (let s : State := (wCyc (wSaf z (fun f => { f with p := f.p.setGroup 31 { ChGroup.reset with code := 1, ss1Start := some 0 } })) (fun y => { y with running := true, cycle := 1000000 }));
      let ch : Chan := .p;
      let g : GroupIx := 31;
      let t0 : Int := 0;
      let x := (s.chan ch).group g.val;
      let past := fun (t0 : Int) => x.ss1Start = some t0 ∧ x.code = 1 ∧ t0 + (s.parN 0x08100005 g.val : Int) * 1000000 ≤ s.chTime ch;
      past t0) ∧
    (let s : State := (wSaf (wSaf ((z.setPar 0x08205001 31).setPar 0x08205002 1) (fun f => { f with p := f.p.setGroup 31 { ChGroup.reset with code := 1, ss1Start := some 0 } })) (fun f => { f with p := f.p.setMon 5 { AxMon.reset with confirmed := true } }));
      let ch : Chan := .p;
      let g : GroupIx := 31;
      let x := (s.chan ch).group g.val;
      let still := s.groupStill ch g.val = true;
      still ∧ x.code = 1 ∧ x.ss1Start ≠ none) ∧
    (let s : State := (wSaf ((z.setPar 0x08205001 31).setPar 0x08205002 1) (fun f => { f with p := f.p.setMon 5 { AxMon.reset with confirmed := true } }));
      let ch : Chan := .p;
      let g : GroupIx := 31;
      let x := (s.chan ch).group g.val;
      let still := s.groupStill ch g.val = true;
      still ∧ x.code = 2) ∧
    (let s : State := z;
      let ch : Chan := .p;
      let g : GroupIx := 31;
      let x := (s.chan ch).group g.val;
      let still := s.groupStill ch g.val = true;
      (¬ still ∨ x.code = 0 ∨ (x.code = 1 ∧ x.ss1Start = none))) ∧
    (let s : State := (wSaf (wCyc (wSaf (z.setPar 0x08205002 1) (fun f => { f with p := f.p.setMon 5 { AxMon.reset with discSince := some 0 } })) (fun y => { y with running := true, cycle := 1000000 })) (fun f => { f with p := f.p.setGroup 0 { ChGroup.reset with code := 0 } }));
      let a : AxisIx := 5;
      let ga := s.parN 0x08200001 a.val;
      let apart := s.monitored a.val = true ∧ s.discrepant a.val = true ∧ (s.saf.p.group ga).code ≠ 2;
      apart) ∧
    (let s : State := z;
      let a : AxisIx := 5;
      let ga := s.parN 0x08200001 a.val;
      let apart := s.monitored a.val = true ∧ s.discrepant a.val = true ∧ (s.saf.p.group ga).code ≠ 2;
      ¬ apart ∧ (s.saf.p.mon a.val).invalidRun < 3 ∧ (s.saf.h.mon a.val).invalidRun < 3 ∧ s.monitored a.val = false) ∧
    (let s : State := (wSaf (z.setPar (0x08200002 + 5 * 4096) 1) (fun f => { f with p := f.p.setMon 5 { AxMon.reset with invalidRun := 3 } }));
      let a : AxisIx := 5;
      s.monitored a.val = true ∧ 3 ≤ (s.saf.p.mon a.val).invalidRun ∧ ((s.upFault .p a.val).saf.h.mon a.val).invalidRun < 3) ∧
    (let s : State := (wSaf (z.setPar (0x08200002 + 5 * 4096) 1) (fun f => { f with h := f.h.setMon 5 { AxMon.reset with invalidRun := 3 } }));
      let a : AxisIx := 5;
      s.monitored a.val = true ∧ (s.saf.p.mon a.val).invalidRun < 3 ∧ 3 ≤ (s.saf.h.mon a.val).invalidRun) := by
  refine ⟨?_, ?_, ?_, ?_, ?_, ?_, ?_, ?_⟩ <;> dsimp only [Takes, Acts, ActsExpert, Follows, Reads, Local, Runs] <;> decide +kernel

theorem test_SafetyMonitors_2 :
    (let s : State := (wCyc (wSaf (z.setPar 0x08205002 1) (fun f => { f with p := f.p.setMon 5 { AxMon.reset with lastArrival := 1000000 } })) (fun y => { y with running := true, cycle := 1000000 }));
      let ch : Chan := .p;
      let a : AxisIx := 5;
      let quiet := fun (ch : Chan) => ((s.chan ch).mon a.val).lastArrival + s.parN 0x08200007 a.val ≤ s.cyc.cycle;
      s.cyc.running = true ∧ s.monitored a.val = true ∧ ¬ quiet .p ∧ quiet .h) ∧
    (let s : State := z;
      let ch : Chan := .p;
      let a : AxisIx := 5;
      let quiet := fun (ch : Chan) => ((s.chan ch).mon a.val).lastArrival + s.parN 0x08200007 a.val ≤ s.cyc.cycle;
      (s.cyc.running = false ∨ s.monitored a.val = false ∨ (¬ quiet .p ∧ ¬ quiet .h))) := by
  refine ⟨?_, ?_⟩ <;> dsimp only [Takes, Acts, ActsExpert, Follows, Reads, Local, Runs] <;> decide +kernel

theorem test_SafetyInputs :
    (let s : State := { (wSaf (z.setPar 0x08307001 1) (fun f => { f with p := f.p.setPair 7 { PairSt.reset with disagreeSince := some 0 } })) with coreTicks := 100000000000 };
      let ch : Chan := .p;
      let i : PairIx := 7;
      let n : Nat := 0;
      let c := s.chan ch;
      let x := c.pair i.val;
      let late := fun (t : Nat) => x.disagreeSince = some t ∧ s.pairUsed i.val = true ∧ x.latch = false ∧ t + s.parN 0x08300004 i.val * 1000000 < s.coreTicks;
      late n) ∧
    (let s : State := { (wSaf (z.setPar 0x08307001 1) (fun f => { f with p := f.p.setPair 7 { PairSt.reset with disagreeSince := some 0 } })) with coreTicks := 100000000000 };
      let ch : Chan := .p;
      let c := s.chan ch;
      let gone := c.linkLost = false ∧ c.lastFrame + 62500 ≤ s.coreTicks;
      gone) ∧
    (let s : State := z;
      let ch : Chan := .p;
      let c := s.chan ch;
      let gone := c.linkLost = false ∧ c.lastFrame + 62500 ≤ s.coreTicks;
      let back := c.linkLost = true ∧ 64 ≤ c.recover;
      ¬ gone ∧ ¬ back) ∧
    (let s : State := (wSaf z (fun f => { f with p := { f.p with linkLost := true, recover := 64 } }));
      let ch : Chan := .p;
      let c := s.chan ch;
      let back := c.linkLost = true ∧ 64 ≤ c.recover;
      back) ∧
    (let s : State := (wSaf z (fun f => { f with p := { f.p with ackEdge := some 5 } }));
      let ch : Chan := .p;
      let e : Int := 5;
      (s.chan ch).ackEdge = some e) := by
  refine ⟨?_, ?_, ?_, ?_, ?_⟩ <;> dsimp only [Takes, Acts, ActsExpert, Follows, Reads, Local, Runs] <;> decide +kernel

theorem test_SafetyCommands_1 :
    (let s : State := w0;
      let c : CmdCtx := c0;
      let kind : BitVec 8 := 0;
      Acts s c 0x0801 2 ∧ kind.toNat < 2 ∧ kind = 0) ∧
    (let s : State := w0;
      let c : CmdCtx := c0;
      let kind : BitVec 8 := 2;
      Acts s c 0x0801 2 ∧ 2 ≤ kind.toNat) ∧
    (let s : State := (wSes (wSaf w0 (fun f => { f with pendingSec := some { items := [], since := 5, raw := [] } })) (fun x => { x with role := 4 }));
      let c : CmdCtx := c0;
      let sect : List Byte := zeros 4;
      let t := s.takeUp c;
      t.saf.pendingSec ≠ none ∧ Acts s c 0x0803 4 ∧ sect.length % 16 = 4) ∧
    (let s : State := (wSes (wIn (w0.setPar 0x08100005 5) .ready) (fun x => { x with role := 4 }));
      let c : CmdCtx := c0;
      let sect : List Byte := zeros 4;
      let t := s.takeUp c;
      let touched := ∃ a < 256, nbit (t.touchedMask sect) (t.parN 0x08200001 a) = true ∧ t.axState a ≠ .disabled;
      t.saf.pendingSec = none ∧ touched ∧ Acts s c 0x0803 4 ∧ sect.length % 16 = 4) ∧
    (let s : State := (wSes w0 (fun x => { x with role := 4 }));
      let c : CmdCtx := c0;
      let sect : List Byte := zeros 4;
      let t := s.takeUp c;
      let touched := ∃ a < 256, nbit (t.touchedMask sect) (t.parN 0x08200001 a) = true ∧ t.axState a ≠ .disabled;
      t.saf.pendingSec = none ∧ ¬ touched ∧ Acts s c 0x0803 4 ∧ sect.length % 16 = 4) ∧
    (let s : State := w0;
      s.saf.pendingSec = none) ∧
    (let s : State := (wSaf w0 (fun f => { f with pendingSec := some { items := [], since := 5, raw := [] } }));
      let p : PendingSection := { items := [], since := 5, raw := [] };
      let edge := s.edgeSince p.since = true ∧ s.now ≤ p.since + 60000000000;
      s.saf.pendingSec = some p ∧ ¬ edge ∧ s.now ≤ p.since + 60000000000) ∧
    (let s : State := (wSaf (wSaf w0 (fun f => { f with pendingSec := some { items := [], since := 5, raw := [] } })) (fun f => { f with p := { f.p with ackEdge := some 6 }, h := { f.h with ackEdge := some 6 } }));
      let p : PendingSection := { items := [], since := 5, raw := [] };
      let edge := s.edgeSince p.since = true ∧ s.now ≤ p.since + 60000000000;
      s.saf.pendingSec = some p ∧ edge) := by
  refine ⟨?_, ?_, ?_, ?_, ?_, ?_, ?_, ?_⟩ <;> dsimp only [Takes, Acts, ActsExpert, Follows, Reads, Local, Runs] <;> decide +kernel

theorem test_SafetyCommands_2 :
    (let s : State := (wTime (wSaf w0 (fun f => { f with pendingSec := some { items := [], since := 5, raw := [] } })) (fun t => { t with sec := 61 }));
      let p : PendingSection := { items := [], since := 5, raw := [] };
      s.saf.pendingSec = some p ∧ p.since + 60000000000 < s.now) := by
  dsimp only [Takes, Acts, ActsExpert, Follows, Reads, Local, Runs]
  decide +kernel

namespace SafetyFramesW

def upPl (a : Byte) : List Byte := [a, 0, 0, 0, 0, 0, 0, 0, 0, 9, 0, 7]
def upOk (a : Byte) : List Byte := upPl a ++ be 4 (crc32c (upPl a))
def upHd : Hdr := { hd 5 4 with src := 3, slotN := 2 }
def upFr (pl : List Byte) : RxFrame := { fr 1 upHd pl with sfd := ((584 + 8 * 2 * 96 + 56) * 10) }
def zup : State := zr (fun g => { g with phase := .run, sched := withRec 3 })

theorem test_SafetyFrames_1 :
    (let s : State := z;
      let f : RxFrame := badF;
      let u := s.relay f;
      let n := f.port.val / 2;
      let hd := parseHdr f.bytes;
      let down := hd.kind = tSaf ∧ hd.len = 7 ∧ hd.src = 0 ∧ u.rx f ≠ .off;
      let owner := schedOwner (u.sched n) hd.slotN (u.rebuildCycle hd.cyc);
      ¬ down ∧ owner = none) ∧
    (let s : State := z;
      let f : RxFrame := fr 1 (hd 5 7) (zeros 28);
      let h : Hdr := hd 5 7;
      let pl : List Byte := zeros 28;
      let u := s.relay f;
      let n := f.port.val / 2;
      let hd := parseHdr f.bytes;
      let sent := sget (fun _ => ([] : List Byte)) u.saf.injected (n * 8 + hd.cyc % 8);
      let down := hd.kind = tSaf ∧ hd.len = 7 ∧ hd.src = 0 ∧ u.rx f ≠ .off;
      let checked := f.port.val % 2 = 1 ∧ hd.loop = false ∧ u.twin.standby = false ∧ sent ≠ [];
      u.rx f = .ok h pl ∧ down ∧ ¬ checked) ∧
    (let s : State := (wSaf (zr (fun g => g)) (fun f => { f with injected := [(0, (fr 1 (hd 5 7) (zeros 28)).bytes)] }));
      let f : RxFrame := fr 1 (hd 5 7) (zeros 28);
      let h : Hdr := hd 5 7;
      let pl : List Byte := zeros 28;
      let u := s.relay f;
      let n := f.port.val / 2;
      let hd := parseHdr f.bytes;
      let sent := sget (fun _ => ([] : List Byte)) u.saf.injected (n * 8 + hd.cyc % 8);
      let down := hd.kind = tSaf ∧ hd.len = 7 ∧ hd.src = 0 ∧ u.rx f ≠ .off;
      let checked := f.port.val % 2 = 1 ∧ hd.loop = false ∧ u.twin.standby = false ∧ sent ≠ [];
      u.rx f = .ok h pl ∧ down ∧ checked) ∧
    (let s : State := (wSaf z (fun f => { f with tapRun := [(0, (2, 5))] }));
      let f : RxFrame := badF;
      let c := 6;
      let n := f.port.val / 2;
      let last := sget (fun _ => ((0, 0) : Nat × Nat)) s.saf.tapRun n;
      last.1 ≠ 0 ∧ last.2 + 1 = c) ∧
    (let s : State := (wSaf z (fun f => { f with tapRun := [(0, (2, 5))] }));
      let f : RxFrame := badF;
      let c := 5;
      let n := f.port.val / 2;
      let last := sget (fun _ => ((0, 0) : Nat × Nat)) s.saf.tapRun n;
      last.1 ≠ 0 ∧ last.2 = c) ∧
    (let s : State := z;
      let f : RxFrame := badF;
      let c := 0;
      let n := f.port.val / 2;
      let last := sget (fun _ => ((0, 0) : Nat × Nat)) s.saf.tapRun n;
      (last.1 = 0 ∨ (last.2 ≠ c ∧ last.2 + 1 ≠ c))) ∧
    (let s : State := zr (fun g => { g with phase := .run, sched := withRec 1 });
      let f : RxFrame := (upFr (zeros 16));
      let r : SlotRec := { rec0 with use := 1 };
      let u := s.relay f;
      let n := f.port.val / 2;
      let hd := parseHdr f.bytes;
      let owner := schedOwner (u.sched n) hd.slotN (u.rebuildCycle hd.cyc);
      owner = some r ∧ (r.use ≠ useSaf ∨ hd.src = 0)) ∧
    (let s : State := (wSaf z (fun f => { f with islandRunning := true }));
      let runs := s.saf.islandRunning = true ∧ s.saf.endgame = none ∧ s.saf.silent = false;
      runs) := by
  refine ⟨?_, ?_, ?_, ?_, ?_, ?_, ?_, ?_⟩ <;> dsimp only [Takes, Acts, ActsExpert, Follows, Reads, Local, Runs] <;> decide +kernel

theorem test_SafetyFrames_2 :
    (let s : State := z;
      let runs := s.saf.islandRunning = true ∧ s.saf.endgame = none ∧ s.saf.silent = false;
      ¬ runs) := by
  dsimp only [Takes, Acts, ActsExpert, Follows, Reads, Local, Runs]
  decide +kernel

end SafetyFramesW

theorem test_FatalFaults_1 :
    (let s : State := z;
      let fresh := s.saf.endgame = none ∧ s.saf.silent = false;
      let alone := fresh ∧ s.twin.standby = false ∧ s.saf.twinBit = false;
      let failed := ((List.range 8).filter (fun i => (s.engine i).failed)).length;
      let quiet := s.saf.islandRunning = true ∧ s.cyc.running = true ∧ s.tCycle s.cyc.cycle + 2 * s.period ≤ s.now;
      let expired := s.saf.twinBit = true ∧ s.saf.twinBitCycle + 2 * s.period ≤ s.coreTicks;
      let beats := s.saf.islandRunning = true ∧ s.saf.endgame = none ∧ s.saf.h.ok = true ∧ s.saf.silent = false ∧ s.saf.hsafeTick + 500000 ≤ s.coreTicks;
      (s.boot.ready = false ∨ s.saf.silent = true ∨ s.saf.endgame ≠ none) ∧ alone ∧ failed < 2 ∧ ¬ quiet ∧ s.saf.endgame = none ∧ ¬ expired ∧ ¬ beats ∧ s.saf.islandRunning = false) ∧
    (let s : State := (wSaf z (fun f => { f with twinBit := true }));
      let fresh := s.saf.endgame = none ∧ s.saf.silent = false;
      let twinned := fresh ∧ s.twin.standby = false ∧ s.saf.twinBit = true;
      twinned) ∧
    (let s : State := (wTwin z (fun t => { t with standby := true }));
      let fresh := s.saf.endgame = none ∧ s.saf.silent = false;
      fresh ∧ s.twin.standby = true) ∧
    (let s : State := (wSaf z (fun f => { f with silent := true }));
      let fresh := s.saf.endgame = none ∧ s.saf.silent = false;
      ¬ fresh) ∧
    (let s : State := ((z.setEngine 0 { Engine.reset with failed := true }).setEngine 7 { Engine.reset with failed := true });
      let failed := ((List.range 8).filter (fun i => (s.engine i).failed)).length;
      2 ≤ failed) ∧
    (let s : State := z;
      let b : Bool := true;
      let missed := b = true ∨ 2 ≤ s.saf.missRun;
      let tapped := b = true ∨ ∃ p ∈ s.saf.tapRun, 3 ≤ p.2.1;
      missed ∧ tapped) ∧
    (let s : State := z;
      let b : Bool := false;
      let missed := b = true ∨ 2 ≤ s.saf.missRun;
      let tapped := b = true ∨ ∃ p ∈ s.saf.tapRun, 3 ≤ p.2.1;
      ¬ missed ∧ ¬ tapped) ∧
    (let s : State := (wArb z (fun a => { a with tMax := 1280, judged := true }));
      let hotP := 1280 ≤ s.arb.tMax ∧ s.arb.judged = true;
      hotP) := by
  refine ⟨?_, ?_, ?_, ?_, ?_, ?_, ?_, ?_⟩ <;> dsimp only [Takes, Acts, ActsExpert, Follows, Reads, Local, Runs] <;> decide +kernel

theorem test_FatalFaults_2 :
    (let s : State := z;
      let tds : Int := 1280;
      let hotP := 1280 ≤ s.arb.tMax ∧ s.arb.judged = true;
      ¬ hotP ∧ 1280 ≤ tds) ∧
    (let s : State := z;
      let tds : Int := 1279;
      let hotP := 1280 ≤ s.arb.tMax ∧ s.arb.judged = true;
      ¬ hotP ∧ tds < 1280) ∧
    (let s : State := (wTime (wSaf (wCyc z (fun y => { y with running := true, cycle := 5 })) (fun f => { f with islandRunning := true })) (fun t => { t with sec := 1 }));
      let quiet := s.saf.islandRunning = true ∧ s.cyc.running = true ∧ s.tCycle s.cyc.cycle + 2 * s.period ≤ s.now;
      quiet ∧ s.saf.islandRunning = true) ∧
    (let s : State := (wSaf z (fun f => { f with endgame := some { entry := 0, next := 0, v0 := [], confirmed := [], dropped := false }, islandRunning := true }));
      let e : Endgame := { entry := 0, next := 0, v0 := [], confirmed := [], dropped := false };
      let mons := (List.range 256).filter s.monitored;
      let still := mons ≠ [] ∧ ∀ a ∈ mons, (s.saf.h.mon a).confirmed = true;
      let tmax := e.entry + s.parN 0x08000005 0 * 1000000 ≤ s.coreTicks;
      let rise := ∃ p ∈ e.v0, ((s.saf.h.mon p.1).v.natAbs : Int) > p.2 + s.par 0x08100002 (s.parN 0x08200001 p.1) * 1000;
      s.saf.endgame = some e ∧ e.next ≤ s.coreTicks ∧ s.saf.islandRunning = true ∧ s.saf.islandLost = false ∧ ¬ still ∧ ¬ tmax ∧ ¬ rise) ∧
    (let s : State := (wSaf z (fun f => { f with endgame := some { entry := 0, next := 0, v0 := [], confirmed := [], dropped := false } }));
      let e : Endgame := { entry := 0, next := 0, v0 := [], confirmed := [], dropped := false };
      s.saf.endgame = some e ∧ (s.coreTicks < e.next ∨ s.saf.islandRunning = false ∨ s.saf.islandLost = true)) ∧
    (let s : State := { (wSaf z (fun f => { f with endgame := some { entry := 0, next := 0, v0 := [], confirmed := [], dropped := false }, islandRunning := true })) with coreTicks := 1000000000000 };
      let e : Endgame := { entry := 0, next := 0, v0 := [], confirmed := [], dropped := false };
      let mons := (List.range 256).filter s.monitored;
      let still := mons ≠ [] ∧ ∀ a ∈ mons, (s.saf.h.mon a).confirmed = true;
      let tmax := e.entry + s.parN 0x08000005 0 * 1000000 ≤ s.coreTicks;
      let rise := ∃ p ∈ e.v0, ((s.saf.h.mon p.1).v.natAbs : Int) > p.2 + s.par 0x08100002 (s.parN 0x08200001 p.1) * 1000;
      s.saf.endgame = some e ∧ (still ∨ tmax ∨ rise)) ∧
    (let s : State := { (wSaf z (fun f => { f with twinBit := true })) with coreTicks := 1000000 };
      let expired := s.saf.twinBit = true ∧ s.saf.twinBitCycle + 2 * s.period ≤ s.coreTicks;
      expired) ∧
    (let s : State := { (wSaf z (fun f => { f with islandRunning := true, h := { f.h with ok := true } })) with coreTicks := 500000 };
      let beats := s.saf.islandRunning = true ∧ s.saf.endgame = none ∧ s.saf.h.ok = true ∧ s.saf.silent = false ∧ s.saf.hsafeTick + 500000 ≤ s.coreTicks;
      beats) := by
  refine ⟨?_, ?_, ?_, ?_, ?_, ?_, ?_, ?_⟩ <;> dsimp only [Takes, Acts, ActsExpert, Follows, Reads, Local, Runs] <;> decide +kernel

theorem test_FieldOutputs_1 :
    (let s : State := (wFq zd (fun q => { q with driven := true }));
      let j : FqIx := 7;
      let b : Bool := true;
      let x := s.fq j.val;
      let d := s.die;
      d.running = true ∧ (x.driven = true ∨ b = false)) ∧
    (let s : State := z;
      let j : FqIx := 7;
      let b : Bool := true;
      let x := s.fq j.val;
      let d := s.die;
      (d.running = false ∨ (x.driven = false ∧ b = true))) ∧
    (let s : State := (wFq zd (fun q => { q with driven := true }));
      let tj : Int := 1750;
      let d := s.die;
      let shut := d.running = true ∧ 1750 ≤ tj;
      shut) ∧
    (let s : State := z;
      let tj : Int := 1750;
      let d := s.die;
      let shut := d.running = true ∧ 1750 ≤ tj;
      ¬ shut) ∧
    (let s : State := (wFq zd (fun q => { q with therm := true }));
      let j : FqIx := 7;
      let tj : Int := 1600;
      let x := s.fq j.val;
      let cool := x.therm = true ∧ tj ≤ 1600;
      cool) ∧
    (let s : State := z;
      let j : FqIx := 7;
      let tj : Int := 1750;
      let x := s.fq j.val;
      let cool := x.therm = true ∧ tj ≤ 1600;
      ¬ cool) ∧
    (let s : State := (wFq z (fun q => { q with holdOrder := some 5, latch := true }));
      let j : FqIx := 7;
      let n : Nat := 5;
      let x := s.fq j.val;
      x.holdOrder = some n ∧ x.therm = false ∧ x.demag = false ∧ (x.wired = true ∨ x.latch = true ∨ x.offLatch = true)) ∧
    (let s : State := (wFq zd (fun q => { q with demag := true }));
      let j : FqIx := 7;
      let mv : Int := -999;
      let x := s.fq j.val;
      let ended := x.demag = true ∧ -1000 < mv;
      ended) := by
  refine ⟨?_, ?_, ?_, ?_, ?_, ?_, ?_, ?_⟩ <;> dsimp only [Takes, Acts, ActsExpert, Follows, Reads, Local, Runs] <;> decide +kernel

theorem test_FieldOutputs_2 :
    (let s : State := z;
      let j : FqIx := 7;
      let mv : Int := -999;
      let x := s.fq j.val;
      let ended := x.demag = true ∧ -1000 < mv;
      ¬ ended) ∧
    (let s : State := { (wFq zd (fun q => { q with demag := true })) with coreTicks := 20000001 };
      let j : FqIx := 7;
      let x := s.fq j.val;
      let long_ := x.demag = true ∧ x.demagLong = false ∧ x.demagStart + 20000000 < s.coreTicks;
      long_) ∧
    (let s : State := z;
      let j : FqIx := 7;
      let x := s.fq j.val;
      let d := s.die;
      let long_ := x.demag = true ∧ x.demagLong = false ∧ x.demagStart + 20000000 < s.coreTicks;
      let pulse := d.running = true ∧ d.low = false ∧ x.driven = true ∧ (s.safetyOut j.val = true ∨ s.parN 0x0D200001 j.val = 1)
            ∧ x.pulseNext ≤ s.coreTicks ∧ ∀ i < 8, (s.fq i).pulse = none;
      ¬ long_ ∧ (x.disagreeSince = none ∨ x.disagreeTold = true) ∧ ¬ pulse ∧ x.pulse = none) ∧
    (let s : State := { (wFq zd (fun q => { q with disagreeSince := some 0 })) with coreTicks := 10000001 };
      let j : FqIx := 7;
      let n : Nat := 0;
      let x := s.fq j.val;
      let apart := x.disagreeSince = some n ∧ x.disagreeTold = false ∧ n + 10000000 < s.coreTicks;
      apart) ∧
    (let s : State := (wFq zd (fun q => { q with driven := true }));
      let j : FqIx := 7;
      let x := s.fq j.val;
      let d := s.die;
      let pulse := d.running = true ∧ d.low = false ∧ x.driven = true ∧ (s.safetyOut j.val = true ∨ s.parN 0x0D200001 j.val = 1)
            ∧ x.pulseNext ≤ s.coreTicks ∧ ∀ i < 8, (s.fq i).pulse = none;
      pulse ∧ s.nextOrder j.val = none) ∧
    (let s : State := (wDie (wFq (zd.setPar 0x0D207001 1) (fun q => { q with driven := true })) (fun d => { d with orders := [{ tag := 9, level := true, fq := 7, fire := 5 }] }));
      let j : FqIx := 7;
      let n : Nat := 5;
      let x := s.fq j.val;
      let d := s.die;
      let pulse := d.running = true ∧ d.low = false ∧ x.driven = true ∧ (s.safetyOut j.val = true ∨ s.parN 0x0D200001 j.val = 1)
            ∧ x.pulseNext ≤ s.coreTicks ∧ ∀ i < 8, (s.fq i).pulse = none;
      let width := s.parN 0x0D000005 0 * 1000;
      pulse ∧ s.nextOrder j.val = some n ∧ n < s.coreTicks + width + 50000) ∧
    (let s : State := { (wDie (wFq zd (fun q => { q with pulse := some 0, pulseJudge := true })) (fun d => { d with low := true })) with coreTicks := 150000 };
      let j : FqIx := 7;
      let n : Nat := 0;
      let x := s.fq j.val;
      let d := s.die;
      let width := s.parN 0x0D000005 0 * 1000;
      x.pulse = some n ∧ x.pulseJudge = true ∧ n + 150000 ≤ s.coreTicks ∧ d.low = true ∧ s.coreTicks < n + width) ∧
    (let s : State := { (wFq zd (fun q => { q with pulse := some 0, pulseJudge := true })) with coreTicks := 150000 };
      let j : FqIx := 7;
      let n : Nat := 0;
      let x := s.fq j.val;
      let d := s.die;
      x.pulse = some n ∧ x.pulseJudge = true ∧ n + 150000 ≤ s.coreTicks ∧ d.low = false) := by
  refine ⟨?_, ?_, ?_, ?_, ?_, ?_, ?_, ?_⟩ <;> dsimp only [Takes, Acts, ActsExpert, Follows, Reads, Local, Runs] <;> decide +kernel

theorem test_FieldOutputs_3 :
    (let s : State := (wFq zd (fun q => { q with pulse := some 0 }));
      let j : FqIx := 7;
      let n : Nat := 0;
      let x := s.fq j.val;
      x.pulse = some n ∧ (x.pulseJudge = false ∨ s.coreTicks < n + 150000)) ∧
    (let s : State := { (wFq z (fun x => { x with pulse := some 0 })) with coreTicks := 10000000 };
      let j : FqIx := 7;
      let n : Nat := 0;
      let x := s.fq j.val;
      let width := s.parN 0x0D000005 0 * 1000;
      x.pulse = some n ∧ n + width ≤ s.coreTicks) ∧
    (let s : State := z;
      let d := s.die;
      d.running = false) ∧
    (let s : State := (wDie ((List.range 8).foldl (fun s j => s.modFq j (fun q => { q with on := true, driven := true })) zd) (fun d => { d with low := true }));
      let d := s.die;
      d.running = true ∧ d.low = true ∧ ((∀ i < 8, (s.fq i).on = true ∧ (s.fq i).driven = true))) := by
  refine ⟨?_, ?_, ?_, ?_⟩ <;> dsimp only [Takes, Acts, ActsExpert, Follows, Reads, Local, Runs] <;> decide +kernel

theorem test_FieldSupply_1 :
    (let s : State := z;
      let d := s.die;
      let on := d.running = true;
      let w := d.warn && decide (4 ≤ d.warnClr);
      let l := d.low && decide (4 ≤ d.lowClr);
      let t := s.coreTicks;
      let dog := on ∧ d.wd = false ∧ d.lastM + s.parN 0x0D000006 0 * 100000 ≤ t;
      let hold := on ∧ d.wd = true ∧ d.wdAt + s.parN 0x0D000007 0 * 1000000 ≤ t;
      let back := on ∧ d.wd = true ∧ d.wdAt < d.lastM;
      ¬ on ∧ (¬ on ∨ d.warn = true ∨ d.warnRun < 4) ∧ (¬ on ∨ d.low = true ∨ d.lowRun < 4) ∧ (¬ on ∨ (w || l) = false) ∧ ¬ dog ∧ ¬ hold ∧ ¬ back) ∧
    (let s : State := zd;
      let d := s.die;
      let on := d.running = true;
      on) ∧
    (let s : State := (wDie zd (fun d => { d with warnRun := 4 }));
      let d := s.die;
      let on := d.running = true;
      on ∧ d.warn = false ∧ 4 ≤ d.warnRun) ∧
    (let s : State := (wDie zd (fun d => { d with lowRun := 4 }));
      let d := s.die;
      let on := d.running = true;
      on ∧ d.low = false ∧ 4 ≤ d.lowRun) ∧
    (let s : State := (wDie zd (fun d => { d with offRunB := 4 }));
      let g : Fin 2 := 1;
      let d := s.die;
      let on := d.running = true;
      let off := if g = 0 then d.offRunA else d.offRunB;
      on ∧ 4 ≤ off) ∧
    (let s : State := z;
      let g : Fin 2 := 1;
      let d := s.die;
      let on := d.running = true;
      let off := if g = 0 then d.offRunA else d.offRunB;
      (¬ on ∨ off < 4)) ∧
    (let s : State := (wDie zd (fun d => { d with warn := true, warnClr := 4 }));
      let d := s.die;
      let on := d.running = true;
      let w := d.warn && decide (4 ≤ d.warnClr);
      let l := d.low && decide (4 ≤ d.lowClr);
      on ∧ (w || l) = true) ∧
    (let s : State := z;
      let g : Fin 2 := 1;
      let n : Nat := 0;
      let d := s.die;
      let on := d.running = true;
      let above := if g = 0 then d.aboveA else d.aboveB;
      let wait := n + 100000000 ≤ s.coreTicks;
      (above = none ∨ ¬ on ∨ (above = some n ∧ ¬ wait))) := by
  refine ⟨?_, ?_, ?_, ?_, ?_, ?_, ?_, ?_⟩ <;> dsimp only [Takes, Acts, ActsExpert, Follows, Reads, Local, Runs] <;> decide +kernel

theorem test_FieldSupply_2 :
    (let s : State := { (wDie zd (fun d => { d with aboveB := some 0 })) with coreTicks := 100000000 };
      let g : Fin 2 := 1;
      let n : Nat := 0;
      let d := s.die;
      let on := d.running = true;
      let above := if g = 0 then d.aboveA else d.aboveB;
      let wait := n + 100000000 ≤ s.coreTicks;
      above = some n ∧ on ∧ wait) ∧
    (let vf : BitVec 16 := 0;
      let v := vf.toNat;
      v < 90) ∧
    (let vf : BitVec 16 := 101;
      let v := vf.toNat;
      90 ≤ v) ∧
    (let s : State := z;
      let vf : BitVec 16 := 101;
      let d := s.die;
      let v := vf.toNat;
      d.running = false ∧ 100 < v) ∧
    (let s : State := z;
      let vf : BitVec 16 := 90;
      let d := s.die;
      let on := d.running = true;
      let v := vf.toNat;
      (on ∨ v ≤ 100)) ∧
    (let s : State := { (wDie zd (fun d => { d with aboveB := some 0 })) with coreTicks := 100000000 };
      let d := s.die;
      let on := d.running = true;
      let t := s.coreTicks;
      let dog := on ∧ d.wd = false ∧ d.lastM + s.parN 0x0D000006 0 * 100000 ≤ t;
      dog) ∧
    (let s : State := { (wDie zd (fun d => { d with wd := true })) with coreTicks := 100000000000 };
      let d := s.die;
      let on := d.running = true;
      let t := s.coreTicks;
      let hold := on ∧ d.wd = true ∧ d.wdAt + s.parN 0x0D000007 0 * 1000000 ≤ t;
      hold) ∧
    (let s : State := (wDie zd (fun d => { d with wd := true, lastM := 5 }));
      let d := s.die;
      let on := d.running = true;
      let back := on ∧ d.wd = true ∧ d.wdAt < d.lastM;
      back) := by
  refine ⟨?_, ?_, ?_, ?_, ?_, ?_, ?_, ?_⟩ <;> dsimp only [Takes, Acts, ActsExpert, Follows, Reads, Local, Runs] <;> decide +kernel

theorem test_FieldInputsAndOrders_1 :
    (let s : State := zd;
      let test : Bool := false;
      let d := s.die;
      let t := s.coreTicks;
      let regular := test = false ∧ d.running = true ∧ d.winNextS ≤ t ∧ d.winNext ≤ t;
      regular) ∧
    (let s : State := zd;
      let test : Bool := true;
      let d := s.die;
      let t := s.coreTicks;
      let idle := d.running = false ∨ (test = false ∧ t < d.winNextS ∧ t < d.winNext) ∨ (test = true ∧ s.testWindowDue = false);
      idle) ∧
    (let s : State := { (wDie zd (fun d => { d with orders := [{ tag := 9, level := true, fq := 7, fire := 5 }] })) with coreTicks := 5 };
      let tag : BitVec 16 := 9;
      let o : Order := { tag := 9, level := true, fq := 7, fire := 5 };
      let d := s.die;
      let t := s.coreTicks;
      let x := s.fq o.fq;
      let turn := (d.orders.filter (fun (p : Order) => decide (p.fq = o.fq) && dieBefore p o)).foldr insertDie [];
      let found := d.orders.find? (fun (o : Order) => decide (o.tag = tag.toNat)) = some o;
      let due := found ∧ o.fire ≤ t ∧ d.running = true;
      let latched := x.wired = true ∨ x.latch = true ∨ x.offLatch = true;
      let waits := o.level = true ∧ (x.therm = true ∨ x.demag = true);
      due ∧ turn = [o] ∧ ¬ latched ∧ ¬ waits) ∧
    (let s : State := { (wDie (wFq zd (fun q => { q with latch := true })) (fun d => { d with orders := [{ tag := 9, level := true, fq := 7, fire := 5 }] })) with coreTicks := 5 };
      let tag : BitVec 16 := 9;
      let o : Order := { tag := 9, level := true, fq := 7, fire := 5 };
      let d := s.die;
      let t := s.coreTicks;
      let x := s.fq o.fq;
      let turn := (d.orders.filter (fun (p : Order) => decide (p.fq = o.fq) && dieBefore p o)).foldr insertDie [];
      let found := d.orders.find? (fun (o : Order) => decide (o.tag = tag.toNat)) = some o;
      let due := found ∧ o.fire ≤ t ∧ d.running = true;
      let latched := x.wired = true ∨ x.latch = true ∨ x.offLatch = true;
      due ∧ turn = [o] ∧ latched) ∧
    (let s : State := { (wDie (wFq zd (fun q => { q with therm := true })) (fun d => { d with orders := [{ tag := 9, level := true, fq := 7, fire := 5 }] })) with coreTicks := 5 };
      let tag : BitVec 16 := 9;
      let o : Order := { tag := 9, level := true, fq := 7, fire := 5 };
      let d := s.die;
      let t := s.coreTicks;
      let x := s.fq o.fq;
      let turn := (d.orders.filter (fun (p : Order) => decide (p.fq = o.fq) && dieBefore p o)).foldr insertDie [];
      let found := d.orders.find? (fun (o : Order) => decide (o.tag = tag.toNat)) = some o;
      let due := found ∧ o.fire ≤ t ∧ d.running = true;
      let latched := x.wired = true ∨ x.latch = true ∨ x.offLatch = true;
      let waits := o.level = true ∧ (x.therm = true ∨ x.demag = true);
      due ∧ turn = [o] ∧ ¬ latched ∧ waits) ∧
    (let s : State := zd;
      let tag : BitVec 16 := 9;
      let o : Order := { tag := 9, level := true, fq := 7, fire := 5 };
      let d := s.die;
      let t := s.coreTicks;
      let found := d.orders.find? (fun (o : Order) => decide (o.tag = tag.toNat)) = some o;
      (d.orders.find? (fun (o : Order) => decide (o.tag = tag.toNat)) = none ∨ (found ∧ (t < o.fire ∨ d.running = false)))) ∧
    (let s : State := (wDie zd (fun d => { d with ftpEn := true, tpNext0 := 0 }));
      let k : Fin 2 := 0;
      let d := s.die;
      let t := s.coreTicks;
      let tp := if k = 0 then d.tpNext0 else d.tpNext1;
      let low := d.running = true ∧ d.ftpEn = true ∧ d.low = false ∧ tp ≤ t ∧ d.winNextS ≤ t + 77500;
      let fin := d.running = true ∧ d.ftpEn = true ∧ (if k = 0 then d.ftp0 else d.ftp1) = false ∧ (if k = 0 then d.tpEnd0 else d.tpEnd1) ≤ t;
      low ∧ k = 0 ∧ fin) ∧
    (let s : State := (wDie zd (fun d => { d with ftpEn := true, tpNext0 := 0 }));
      let k : Fin 2 := 1;
      let d := s.die;
      let t := s.coreTicks;
      let tp := if k = 0 then d.tpNext0 else d.tpNext1;
      let low := d.running = true ∧ d.ftpEn = true ∧ d.low = false ∧ tp ≤ t ∧ d.winNextS ≤ t + 77500;
      low ∧ k = 1) := by
  refine ⟨?_, ?_, ?_, ?_, ?_, ?_, ?_, ?_⟩ <;> dsimp only [Takes, Acts, ActsExpert, Follows, Reads, Local, Runs] <;> decide +kernel

theorem test_FieldInputsAndOrders_2 :
    (let s : State := zd;
      let k : Fin 2 := 0;
      let d := s.die;
      let t := s.coreTicks;
      let tp := if k = 0 then d.tpNext0 else d.tpNext1;
      let low := d.running = true ∧ d.ftpEn = true ∧ d.low = false ∧ tp ≤ t ∧ d.winNextS ≤ t + 77500;
      let fin := d.running = true ∧ d.ftpEn = true ∧ (if k = 0 then d.ftp0 else d.ftp1) = false ∧ (if k = 0 then d.tpEnd0 else d.tpEnd1) ≤ t;
      ¬ low ∧ ¬ fin) := by
  dsimp only [Takes, Acts, ActsExpert, Follows, Reads, Local, Runs]
  decide +kernel

theorem test_BarrierFrames_1 :
    (let s : State := (wFld z (fun f => { f with nextM := 5 }));
      s.coreTicks < s.fld.nextM) ∧
    (let s : State := zd;
      s.fld.nextM ≤ s.coreTicks ∧ s.die.running = true) ∧
    (let s : State := z;
      let upM := s.boot.booting = false;
      let upH := s.saf.islandRunning = true;
      s.fld.nextM ≤ s.coreTicks ∧ s.boot.testEn = false ∧ ¬ upM ∧ ¬ upH ∧ s.die.running = false) ∧
    (let s : State := (wBoot (wSaf (wFld z (fun f => { f with epochM := 5, epochH := 5 })) (fun f => { f with islandRunning := true })) (fun b => { b with booting := false }));
      let b : Barrier := .m;
      let bytes : List Byte := (zeros 31);
      let good := fun (b : Barrier) => barrierCrcOk b bytes = true;
      let upM := s.boot.booting = false;
      let upH := s.saf.islandRunning = true;
      upM ∧ ¬ good .m ∧ upH ∧ ¬ good .h) ∧
    (let s : State := zd;
      let b : Barrier := .m;
      let bytes : List Byte := (zeros 31);
      let good := fun (b : Barrier) => barrierCrcOk b bytes = true;
      s.die.running = true ∧ ¬ good .m ∧ b = .m) ∧
    (let s : State := zd;
      let b : Barrier := .h;
      let bytes : List Byte := (zeros 31);
      let good := fun (b : Barrier) => barrierCrcOk b bytes = true;
      s.die.running = true ∧ ¬ good .h ∧ b = .h) ∧
    (let s : State := (wBoot (wSaf (wFld z (fun f => { f with epochM := 5, epochH := 5 })) (fun f => { f with islandRunning := true })) (fun b => { b with booting := false }));
      let b : Barrier := .m;
      let bytes : List Byte := (barrierSeal .m ([0x30] ++ zeros 29));
      let ep := epochOf bytes;
      let good := fun (b : Barrier) => barrierCrcOk b bytes = true;
      let upM := s.boot.booting = false;
      upM ∧ good .m ∧ ep ≠ 0 ∧ s.fld.epochM ≠ 0 ∧ ep ≠ s.fld.epochM) ∧
    (let s : State := (wBoot (wSaf (wFld z (fun f => { f with epochM := 5, epochH := 5 })) (fun f => { f with islandRunning := true })) (fun b => { b with booting := false }));
      let b : Barrier := .m;
      let bytes : List Byte := (barrierSeal .h ([0x30] ++ zeros 29));
      let ep := epochOf bytes;
      let good := fun (b : Barrier) => barrierCrcOk b bytes = true;
      let upH := s.saf.islandRunning = true;
      upH ∧ good .h ∧ ep ≠ 0 ∧ s.fld.epochH ≠ 0 ∧ ep ≠ s.fld.epochH) := by
  refine ⟨?_, ?_, ?_, ?_, ?_, ?_, ?_, ?_⟩ <;> dsimp only [Takes, Acts, ActsExpert, Follows, Reads, Local, Runs] <;> decide +kernel

theorem test_BarrierFrames_2 :
    (let s : State := (wBoot (wSaf (wFld z (fun f => { f with epochM := 3, epochH := 3 })) (fun f => { f with islandRunning := true })) (fun b => { b with booting := false }));
      let b : Barrier := .m;
      let bytes : List Byte := (barrierSeal .m ([0x30] ++ zeros 29));
      let ep := epochOf bytes;
      let good := fun (b : Barrier) => barrierCrcOk b bytes = true;
      let upM := s.boot.booting = false;
      upM ∧ good .m ∧ ep ≠ 0 ∧ ep = s.fld.epochM) ∧
    (let s : State := (wBoot (wSaf (wFld z (fun f => { f with epochM := 3, epochH := 3 })) (fun f => { f with islandRunning := true })) (fun b => { b with booting := false }));
      let b : Barrier := .m;
      let bytes : List Byte := (barrierSeal .h ([0x30] ++ zeros 29));
      let ep := epochOf bytes;
      let good := fun (b : Barrier) => barrierCrcOk b bytes = true;
      let upH := s.saf.islandRunning = true;
      upH ∧ good .h ∧ ep ≠ 0 ∧ ep = s.fld.epochH) ∧
    (let s : State := (wDie zd (fun d => { d with epochM := 3, epochH := 3 }));
      let b : Barrier := .h;
      let bytes : List Byte := (barrierSeal .h ([0x30] ++ zeros 29));
      let ep := epochOf bytes;
      let good := fun (b : Barrier) => barrierCrcOk b bytes = true;
      s.die.running = true ∧ good .h ∧ b = .h ∧ ep ≠ 0 ∧ ep = s.die.epochH) ∧
    (let s : State := (wDie zd (fun d => { d with epochM := 3, epochH := 3 }));
      let b : Barrier := .m;
      let bytes : List Byte := (barrierSeal .m ([0x30] ++ zeros 29));
      let ep := epochOf bytes;
      let good := fun (b : Barrier) => barrierCrcOk b bytes = true;
      s.die.running = true ∧ good .m ∧ b = .m ∧ ep ≠ 0 ∧ ep = s.die.epochM) := by
  refine ⟨?_, ?_, ?_, ?_⟩ <;> dsimp only [Takes, Acts, ActsExpert, Follows, Reads, Local, Runs] <;> decide +kernel

theorem test_FieldCommands_1 :
    (let s : State := (wFq w0 (fun q => { q with latch := true }));
      let c : CmdCtx := c0;
      let mask : BitVec 8 := 0x80;
      let t := s.takeUp c;
      let js := maskOutputs mask.toNat;
      ((∃ j ∈ js, t.fqLatched j = true)) ∧ Acts s c 0x0D01 2) ∧
    (let s : State := (w0.setPar 0x08403001 1);
      let c : CmdCtx := c0;
      let mask : BitVec 8 := 0x80;
      let t := s.takeUp c;
      let js := maskOutputs mask.toNat;
      ((∀ j ∈ js, t.fqLatched j = false)) ∧ ((∃ j ∈ js, t.safetyOut j = true)) ∧ Acts s c 0x0D01 2) ∧
    (let s : State := w0;
      let c : CmdCtx := c0;
      let mask : BitVec 8 := 0x80;
      let levels : BitVec 8 := 0x80;
      let t := s.takeUp c;
      let js := maskOutputs mask.toNat;
      let heldIn := fun (u : State) => ofBools ((List.range 8).map (fun j => js.contains j && levels.getLsbD j && ((u.fq j).therm || (u.fq j).demag || (u.heldOut j).isSome)));
      let held := heldIn t;
      let free := ∀ j ∈ js, t.fqLatched j = false ∧ t.safetyOut j = false;
      free ∧ s.cyc.running = false ∧ held = 0 ∧ Acts s c 0x0D01 2) ∧
    (let s : State := (wFq w0 (fun q => { q with therm := true }));
      let c : CmdCtx := c0;
      let mask : BitVec 8 := 0x80;
      let levels : BitVec 8 := 0x80;
      let t := s.takeUp c;
      let js := maskOutputs mask.toNat;
      let heldIn := fun (u : State) => ofBools ((List.range 8).map (fun j => js.contains j && levels.getLsbD j && ((u.fq j).therm || (u.fq j).demag || (u.heldOut j).isSome)));
      let held := heldIn t;
      let free := ∀ j ∈ js, t.fqLatched j = false ∧ t.safetyOut j = false;
      free ∧ s.cyc.running = false ∧ held ≠ 0 ∧ Acts s c 0x0D01 2) ∧
    (let s : State := (wCyc w0 (fun c => { c with running := true }));
      let c : CmdCtx := c0;
      let mask : BitVec 8 := 0x80;
      let t := s.takeUp c;
      let js := maskOutputs mask.toNat;
      let free := ∀ j ∈ js, t.fqLatched j = false ∧ t.safetyOut j = false;
      free ∧ s.cyc.running = true ∧ Acts s c 0x0D01 2) ∧
    (let s : State := (wFld w0 (fun f => { f with outWait := [⟨c0, 0x80, 0x80⟩] }));
      let c : CmdCtx := c0;
      let mask : BitVec 8 := 0x80;
      let levels : BitVec 8 := 0x80;
      let w : OutWait := ⟨c, mask, levels⟩;
      s.fld.outWait = [w]) ∧
    (let s : State := w0;
      let c : CmdCtx := c0;
      let mask : BitVec 8 := 0x80;
      let t := s.takeUp c;
      let js := maskOutputs mask.toNat;
      let clear := fun (j : Nat) => t.fqLatched j = false ∨ (t.fld.cmd.getLsbD j = false ∧ t.fld.cmd.getLsbD (t.fq j).partner = false
            ∧ (t.fq j).readback = false ∧ (t.fq (t.fq j).partner).readback = false);
      ((∀ j ∈ js, clear j)) ∧ Acts s c 0x0D02 2) ∧
    (let s : State := (wFq w0 (fun q => { q with latch := true, readback := true }));
      let c : CmdCtx := c0;
      let mask : BitVec 8 := 0x80;
      let t := s.takeUp c;
      let js := maskOutputs mask.toNat;
      let clear := fun (j : Nat) => t.fqLatched j = false ∨ (t.fld.cmd.getLsbD j = false ∧ t.fld.cmd.getLsbD (t.fq j).partner = false
            ∧ (t.fq j).readback = false ∧ (t.fq (t.fq j).partner).readback = false);
      ((∃ j ∈ js, ¬ clear j)) ∧ Acts s c 0x0D02 2) := by
  refine ⟨?_, ?_, ?_, ?_, ?_, ?_, ?_, ?_⟩ <;> dsimp only [Takes, Acts, ActsExpert, Follows, Reads, Local, Runs] <;> decide +kernel

theorem test_FieldCommands_2 :
    (let s : State := (wDie w0 (fun d => { d with restartOkB := true }));
      let c : CmdCtx := c0;
      let t := s.takeUp c;
      let ready := t.die.restartOkA = true ∨ t.die.restartOkB = true;
      ready ∧ Acts s c 0x0D03 2) ∧
    (let s : State := w0;
      let c : CmdCtx := c0;
      let t := s.takeUp c;
      let ready := t.die.restartOkA = true ∨ t.die.restartOkB = true;
      ¬ ready ∧ Acts s c 0x0D03 2) := by
  refine ⟨?_, ?_⟩ <;> dsimp only [Takes, Acts, ActsExpert, Follows, Reads, Local, Runs] <;> decide +kernel

theorem test_TwinLink :
    (let s : State := z;
      let env : TwinEnv := env0;
      let i : Instr := (.health env0 hm);
      let m : HealthMsg := hm;
      let r : LogRec := lr;
      let pos : Nat := 0;
      let w : ReleaseMsg := { owner := .line, cycle := 0, isNew := true, fb := [] };
      let ds : List (BitVec 32) := [];
      let ms : List Nat := [];
      let e : EngIx := 0;
      let pass : Bool := true;
      let reason : BitVec 8 := 0;
      let h : Option Nat := none;
      let words : List Word48 := [];
      let b : JoinMsg := jm;
      let t80 : T80 := { sec := 0, ns := 0 };
      let mask : BitVec 8 := 0;
      let twin := s.boot.twinPresent = true;
      let here := twin ∧ s.boot.booting = false;
      let message := i ∈ [Instr.health env m, .log env r, .logAck env pos, .release env w, .digest env pos ds, .verdict env pos ms, .test env e pass,
            .declare env reason pos h, .resync env pos words, .joinBoundary env b, .trigger env t80 mask];
      message ∧ ¬ here) ∧
    (let s : State := (zt (fun t => t));
      let env : TwinEnv := { env0 with crcOk := false };
      let i : Instr := (.health { env0 with crcOk := false } hm);
      let m : HealthMsg := hm;
      let r : LogRec := lr;
      let pos : Nat := 0;
      let w : ReleaseMsg := { owner := .line, cycle := 0, isNew := true, fb := [] };
      let ds : List (BitVec 32) := [];
      let ms : List Nat := [];
      let e : EngIx := 0;
      let pass : Bool := true;
      let reason : BitVec 8 := 0;
      let h : Option Nat := none;
      let words : List Word48 := [];
      let b : JoinMsg := jm;
      let t80 : T80 := { sec := 0, ns := 0 };
      let mask : BitVec 8 := 0;
      let twin := s.boot.twinPresent = true;
      let here := twin ∧ s.boot.booting = false;
      let message := i ∈ [Instr.health env m, .log env r, .logAck env pos, .release env w, .digest env pos ds, .verdict env pos ms, .test env e pass,
            .declare env reason pos h, .resync env pos words, .joinBoundary env b, .trigger env t80 mask];
      message ∧ here ∧ env.crcOk = false) ∧
    (let s : State := (zt (fun t => t));
      let env : TwinEnv := { env0 with epoch := 5 };
      let i : Instr := (.health { env0 with epoch := 5 } hm);
      let m : HealthMsg := hm;
      let r : LogRec := lr;
      let pos : Nat := 0;
      let w : ReleaseMsg := { owner := .line, cycle := 0, isNew := true, fb := [] };
      let ds : List (BitVec 32) := [];
      let ms : List Nat := [];
      let e : EngIx := 0;
      let pass : Bool := true;
      let reason : BitVec 8 := 0;
      let h : Option Nat := none;
      let words : List Word48 := [];
      let b : JoinMsg := jm;
      let t80 : T80 := { sec := 0, ns := 0 };
      let mask : BitVec 8 := 0;
      let twin := s.boot.twinPresent = true;
      let here := twin ∧ s.boot.booting = false;
      let wrong := env.epoch ≠ 0 ∧ s.twin.epoch ≠ 0 ∧ env.epoch ≠ s.twin.epoch;
      let message := i ∈ [Instr.health env m, .log env r, .logAck env pos, .release env w, .digest env pos ds, .verdict env pos ms, .test env e pass,
            .declare env reason pos h, .resync env pos words, .joinBoundary env b, .trigger env t80 mask];
      message ∧ here ∧ env.crcOk = true ∧ wrong) ∧
    (let s : State := (zt (fun t => t));
      let env : TwinEnv := env0;
      let i : Instr := (.health env0 hm);
      let m : HealthMsg := hm;
      let r : LogRec := lr;
      let pos : Nat := 0;
      let w : ReleaseMsg := { owner := .line, cycle := 0, isNew := true, fb := [] };
      let ds : List (BitVec 32) := [];
      let ms : List Nat := [];
      let e : EngIx := 0;
      let pass : Bool := true;
      let reason : BitVec 8 := 0;
      let h : Option Nat := none;
      let words : List Word48 := [];
      let b : JoinMsg := jm;
      let t80 : T80 := { sec := 0, ns := 0 };
      let mask : BitVec 8 := 0;
      let twin := s.boot.twinPresent = true;
      let here := twin ∧ s.boot.booting = false;
      let message := i ∈ [Instr.health env m, .log env r, .logAck env pos, .release env w, .digest env pos ds, .verdict env pos ms, .test env e pass,
            .declare env reason pos h, .resync env pos words, .joinBoundary env b, .trigger env t80 mask];
      message ∧ here ∧ env.crcOk = true ∧ env.epoch = s.twin.epoch ∧ env.epoch ≠ 0) ∧
    (let s : State := { (zt (fun t => { t with lane1 := true })) with coreTicks := 10000 };
      let twin := s.boot.twinPresent = true;
      let sends := twin ∧ s.twin.txHealth + 2000 ≤ s.coreTicks;
      let lost := twin ∧ (s.twin.lane0 = true ∨ s.twin.lane1 = true) ∧ s.twin.lastMsg + 10000 ≤ s.coreTicks;
      sends ∧ lost) ∧
    (let s : State := z;
      let twin := s.boot.twinPresent = true;
      let sends := twin ∧ s.twin.txHealth + 2000 ≤ s.coreTicks;
      let lost := twin ∧ (s.twin.lane0 = true ∨ s.twin.lane1 = true) ∧ s.twin.lastMsg + 10000 ≤ s.coreTicks;
      ¬ sends ∧ ¬ lost ∧ ¬ twin) ∧
    (let s : State := (zt (fun t => t));
      let lane : Fin 2 := 0;
      let twin := s.boot.twinPresent = true;
      twin ∧ lane = 0) ∧
    (let s : State := (zt (fun t => t));
      let lane : Fin 2 := 1;
      let twin := s.boot.twinPresent = true;
      twin ∧ lane = 1) := by
  refine ⟨?_, ?_, ?_, ?_, ?_, ?_, ?_, ?_⟩ <;> dsimp only [Takes, Acts, ActsExpert, Follows, Reads, Local, Runs] <;> decide +kernel

theorem test_TwinMessages_1 :
    (let s : State := (zt (fun t => t));
      let env : TwinEnv := env0;
      let heard := s.boot.twinPresent = true ∧ s.boot.booting = false ∧ env.crcOk = true ∧ env.epoch = s.twin.epoch ∧ env.epoch ≠ 0;
      let shadow := heard ∧ s.twin.standby = true ∧ s.twin.joining = false;
      let joins := heard ∧ s.twin.standby = true ∧ s.twin.joining = true;
      heard ∧ ¬ shadow ∧ s.twin.onMove = false ∧ s.twin.standby = false ∧ ¬ joins) ∧
    (let s : State := (zt (fun t => { t with standby := true }));
      let env : TwinEnv := env0;
      let r : LogRec := lr;
      let heard := s.boot.twinPresent = true ∧ s.boot.booting = false ∧ env.crcOk = true ∧ env.epoch = s.twin.epoch ∧ env.epoch ≠ 0;
      let shadow := heard ∧ s.twin.standby = true ∧ s.twin.joining = false;
      shadow ∧ r.trim = none) ∧
    (let s : State := (zt (fun t => { t with standby := true }));
      let env : TwinEnv := env0;
      let r : LogRec := { lr with trim := some 4 };
      let l : Nat := 4;
      let heard := s.boot.twinPresent = true ∧ s.boot.booting = false ∧ env.crcOk = true ∧ env.epoch = s.twin.epoch ∧ env.epoch ≠ 0;
      let shadow := heard ∧ s.twin.standby = true ∧ s.twin.joining = false;
      shadow ∧ r.trim = some l) ∧
    (let s : State := (wCyc (zt (fun t => { t with standby := true })) (fun y => { y with running := true, cycle := 5 }));
      let env : TwinEnv := env0;
      let w : ReleaseMsg := { owner := .line, cycle := 5, isNew := true, fb := [] };
      let heard := s.boot.twinPresent = true ∧ s.boot.booting = false ∧ env.crcOk = true ∧ env.epoch = s.twin.epoch ∧ env.epoch ≠ 0;
      let shadow := heard ∧ s.twin.standby = true ∧ s.twin.joining = false;
      let runs := s.cyc.running = true ∧ s.isReleased w.owner w.cycle = false;
      shadow ∧ runs ∧ w.owner = .line) ∧
    (let s : State := ((wCyc (zt (fun t => { t with standby := true })) (fun y => { y with running := true, cycle := 5 })).setPar 0x04005101 0);
      let env : TwinEnv := env0;
      let a : AxisIx := 5;
      let w : ReleaseMsg := { owner := .axis 5, cycle := 5, isNew := true, fb := [] };
      let heard := s.boot.twinPresent = true ∧ s.boot.booting = false ∧ env.crcOk = true ∧ env.epoch = s.twin.epoch ∧ env.epoch ≠ 0;
      let shadow := heard ∧ s.twin.standby = true ∧ s.twin.joining = false;
      let runs := s.cyc.running = true ∧ s.isReleased w.owner w.cycle = false;
      shadow ∧ runs ∧ w.owner = .axis a ∧ s.localAxis a.val = true) ∧
    (let s : State := (wCyc (zt (fun t => { t with standby := true })) (fun y => { y with running := true, cycle := 5 }));
      let env : TwinEnv := env0;
      let a : AxisIx := 5;
      let w : ReleaseMsg := { owner := .axis 5, cycle := 5, isNew := true, fb := [] };
      let heard := s.boot.twinPresent = true ∧ s.boot.booting = false ∧ env.crcOk = true ∧ env.epoch = s.twin.epoch ∧ env.epoch ≠ 0;
      let shadow := heard ∧ s.twin.standby = true ∧ s.twin.joining = false;
      let runs := s.cyc.running = true ∧ s.isReleased w.owner w.cycle = false;
      shadow ∧ runs ∧ w.owner = .axis a ∧ s.localAxis a.val = false) ∧
    (let s : State := (zt (fun t => t));
      let env : TwinEnv := env0;
      let w : ReleaseMsg := { owner := .line, cycle := 5, isNew := true, fb := [] };
      let heard := s.boot.twinPresent = true ∧ s.boot.booting = false ∧ env.crcOk = true ∧ env.epoch = s.twin.epoch ∧ env.epoch ≠ 0;
      let shadow := heard ∧ s.twin.standby = true ∧ s.twin.joining = false;
      let runs := s.cyc.running = true ∧ s.isReleased w.owner w.cycle = false;
      heard ∧ (¬ shadow ∨ ¬ runs)) ∧
    (let s : State := (zt (fun t => { t with standby := true }));
      let env : TwinEnv := env0;
      let pos : Nat := 0x40000;
      let heard := s.boot.twinPresent = true ∧ s.boot.booting = false ∧ env.crcOk = true ∧ env.epoch = s.twin.epoch ∧ env.epoch ≠ 0;
      let shadow := heard ∧ s.twin.standby = true ∧ s.twin.joining = false;
      let own := sget (fun _ => ([] : List (BitVec 32))) s.twin.digOwn pos;
      shadow ∧ own = []) := by
  refine ⟨?_, ?_, ?_, ?_, ?_, ?_, ?_, ?_⟩ <;> dsimp only [Takes, Acts, ActsExpert, Follows, Reads, Local, Runs] <;> decide +kernel

theorem test_TwinMessages_2 :
    (let s : State := (zt (fun t => { t with standby := true, digOwn := [(0x40000, [1])] }));
      let env : TwinEnv := env0;
      let pos : Nat := 0x40000;
      let heard := s.boot.twinPresent = true ∧ s.boot.booting = false ∧ env.crcOk = true ∧ env.epoch = s.twin.epoch ∧ env.epoch ≠ 0;
      let shadow := heard ∧ s.twin.standby = true ∧ s.twin.joining = false;
      let own := sget (fun _ => ([] : List (BitVec 32))) s.twin.digOwn pos;
      shadow ∧ own ≠ []) ∧
    (let s : State := (zt (fun t => { t with onMove := true }));
      let env : TwinEnv := env0;
      let heard := s.boot.twinPresent = true ∧ s.boot.booting = false ∧ env.crcOk = true ∧ env.epoch = s.twin.epoch ∧ env.epoch ≠ 0;
      heard ∧ s.twin.onMove = true) ∧
    (let s : State := (zt (fun t => { t with misTests := [{ owner := .line, cycle := 0, engine := 0, started := true, own := none, peer := none }] }));
      let env : TwinEnv := env0;
      let m : HealthMsg := hm;
      let x : MisTest := { owner := .line, cycle := 0, engine := 0, started := true, own := none, peer := none };
      let heard := s.boot.twinPresent = true ∧ s.boot.booting = false ∧ env.crcOk = true ∧ env.epoch = s.twin.epoch ∧ env.epoch ≠ 0;
      heard ∧ s.twin.misTests.find? (fun (m : MisTest) => m.peer.isNone) = some x) ∧
    (let s : State := (zt (fun t => t));
      let env : TwinEnv := env0;
      let m : HealthMsg := hm;
      let heard := s.boot.twinPresent = true ∧ s.boot.booting = false ∧ env.crcOk = true ∧ env.epoch = s.twin.epoch ∧ env.epoch ≠ 0;
      heard ∧ s.twin.misTests.find? (fun (m : MisTest) => m.peer.isNone) = none) ∧
    (let s : State := (zt (fun t => { t with standby := true }));
      let env : TwinEnv := env0;
      let pos : Nat := 0x40000;
      let words : List Word48 := [7];
      let heard := s.boot.twinPresent = true ∧ s.boot.booting = false ∧ env.crcOk = true ∧ env.epoch = s.twin.epoch ∧ env.epoch ≠ 0;
      let n := words.length;
      heard ∧ s.twin.standby = true ∧ 0x40000 ≤ pos ∧ pos + n ≤ 0x80000) ∧
    (let s : State := (zt (fun t => { t with standby := true }));
      let env : TwinEnv := env0;
      let pos : Nat := 0x80000;
      let words : List Word48 := [7];
      let heard := s.boot.twinPresent = true ∧ s.boot.booting = false ∧ env.crcOk = true ∧ env.epoch = s.twin.epoch ∧ env.epoch ≠ 0;
      let n := words.length;
      heard ∧ s.twin.standby = true ∧ 0x80000 ≤ pos ∧ pos + n ≤ 0xC0000 ∧ n ≠ 0) ∧
    (let s : State := (zt (fun t => { t with standby := true, joining := true }));
      let env : TwinEnv := env0;
      let heard := s.boot.twinPresent = true ∧ s.boot.booting = false ∧ env.crcOk = true ∧ env.epoch = s.twin.epoch ∧ env.epoch ≠ 0;
      let joins := heard ∧ s.twin.standby = true ∧ s.twin.joining = true;
      joins) := by
  refine ⟨?_, ?_, ?_, ?_, ?_, ?_, ?_⟩ <;> dsimp only [Takes, Acts, ActsExpert, Follows, Reads, Local, Runs] <;> decide +kernel

namespace HandOverW

/-- A healthy synchronised standby of a twin pair. -/
def zy (f : Twin → Twin) : State := wSaf (wEng (wFld (zt (fun t => f { t with standby := true, synced := true })) (fun d => { d with lastM := some 0, lastH := some 0 })) (fun e => (List.range 8).foldl (fun e i => e) e)) (fun p => { p with p := { p.p with ok := true, paramOk := true }, h := { p.h with ok := true, paramOk := true } })
def zh (f : Twin → Twin) : State := (List.range 8).foldl (fun s e => s.setEngine e { (s.engine e) with inService := true }) ((zy f).setPar 0x07300002 0)
def swp : Swap := { h := 3, reason := 3, outgoing := false, ctx := none }
def mtt : MisTest := { owner := .line, cycle := 0, engine := 0, started := false, own := none, peer := none }
def wt (s : State) (f : Twin → Twin) : State := wBoot (wTwin s f) (fun b => { b with twinPresent := true })
def zo (f : Twin → Twin) : State := wt w0 (fun t => f { t with onMove := true, lane0 := true, peerHealthy := true, peerSynced := true, peerEngines := 255 })

theorem test_HandOver_1 :
    (let s : State := (zh (fun t => t));
      let env : TwinEnv := env0;
      let x := s.twin;
      let u : State := { s with twin := { x with zero := false, lastMsg := s.coreTicks, lane0 := x.lane0 || env.lane == 0, lane1 := x.lane1 || env.lane == 1 } };
      let heard := s.boot.twinPresent = true ∧ s.boot.booting = false ∧ env.crcOk = true ∧ env.epoch = x.epoch ∧ env.epoch ≠ 0;
      let able := heard ∧ x.standby = true ∧ x.synced = true ∧ u.healthy = true;
      able) ∧
    (let s : State := (zh (fun t => t));
      let env : TwinEnv := env0;
      let last : Nat := 0;
      let x := s.twin;
      let u : State := { s with twin := { x with zero := false, lastMsg := s.coreTicks, lane0 := x.lane0 || env.lane == 0, lane1 := x.lane1 || env.lane == 1 } };
      let heard := s.boot.twinPresent = true ∧ s.boot.booting = false ∧ env.crcOk = true ∧ env.epoch = x.epoch ∧ env.epoch ≠ 0;
      let able := heard ∧ x.standby = true ∧ x.synced = true ∧ u.healthy = true;
      able ∧ s.cyc.cycle ≤ last ∧ s.cyc.sealedFor ≠ some last) ∧
    (let s : State := (wCyc (zh (fun t => t)) (fun c => { c with cycle := 2 }));
      let env : TwinEnv := env0;
      let last : Nat := 1;
      let x := s.twin;
      let u : State := { s with twin := { x with zero := false, lastMsg := s.coreTicks, lane0 := x.lane0 || env.lane == 0, lane1 := x.lane1 || env.lane == 1 } };
      let heard := s.boot.twinPresent = true ∧ s.boot.booting = false ∧ env.crcOk = true ∧ env.epoch = x.epoch ∧ env.epoch ≠ 0;
      let able := heard ∧ x.standby = true ∧ x.synced = true ∧ u.healthy = true;
      able ∧ (last < s.cyc.cycle ∨ s.cyc.sealedFor = some last)) ∧
    (let s : State := (zt (fun t => t));
      let env : TwinEnv := env0;
      let x := s.twin;
      let u : State := { s with twin := { x with zero := false, lastMsg := s.coreTicks, lane0 := x.lane0 || env.lane == 0, lane1 := x.lane1 || env.lane == 1 } };
      let heard := s.boot.twinPresent = true ∧ s.boot.booting = false ∧ env.crcOk = true ∧ env.epoch = x.epoch ∧ env.epoch ≠ 0;
      let able := heard ∧ x.standby = true ∧ x.synced = true ∧ u.healthy = true;
      heard ∧ ¬ able) ∧
    (let s : State := (wCyc (zh (fun t => { t with missCycles := 2 })) (fun c => { c with running := true }));
      let x := s.twin;
      let alone := s.boot.twinPresent = true ∧ x.standby = true ∧ x.synced = true ∧ s.healthy = true ∧ x.lane0 = false ∧ x.lane1 = false
            ∧ 2 ≤ x.missCycles ∧ s.cyc.running = true ∧ x.swap = none;
      alone) ∧
    (let s : State := z;
      let x := s.twin;
      let alone := s.boot.twinPresent = true ∧ x.standby = true ∧ x.synced = true ∧ s.healthy = true ∧ x.lane0 = false ∧ x.lane1 = false
            ∧ 2 ≤ x.missCycles ∧ s.cyc.running = true ∧ x.swap = none;
      let whole := ∃ y, x.healthySince = some y ∧ y + s.parN 0x09000002 0 * 1000000000 ≤ s.coreTicks;
      let back := x.onMove = true ∧ s.isBlack = true ∧ s.twinUp = true ∧ s.parN 0x09000001 0 = 1 ∧ whole ∧ x.peerHealthy = true ∧ x.peerSynced = true
            ∧ s.quiet = true ∧ x.swap = none ∧ x.revertLock = false ∧ s.recentReverts.length < 3;
      ¬ alone ∧ x.swap = none ∧ x.fwdUntil = none ∧ ¬ back) ∧
    (let s : State := (wCyc (zt (fun t => { t with standby := true, swap := some swp })) (fun c => { c with running := true, cycle := 3 }));
      let w : Swap := swp;
      let x := s.twin;
      let head := x.standby = true ∧ w.outgoing = false ∧ s.cyc.running = true ∧ w.h ≤ s.cyc.cycle;
      x.swap = some w ∧ head) ∧
    (let s : State := (zt (fun t => { t with swap := some swp }));
      let w : Swap := swp;
      let x := s.twin;
      let head := x.standby = true ∧ w.outgoing = false ∧ s.cyc.running = true ∧ w.h ≤ s.cyc.cycle;
      x.swap = some w ∧ ¬ head) := by
  refine ⟨?_, ?_, ?_, ?_, ?_, ?_, ?_, ?_⟩ <;> dsimp only [Takes, Acts, ActsExpert, Follows, Reads, Local, Runs] <;> decide +kernel

theorem test_HandOver_2 :
    (let s : State := (zt (fun t => { t with swap := some { swp with outgoing := true } }));
      let w : Swap := { swp with outgoing := true };
      let x := s.twin;
      let peerOk := w.outgoing = false ∨ (s.twinUp = true ∧ x.peerHealthy = true ∧ x.peerSynced = true ∧ x.peerEngines = 0xFF);
      let off := (w.reason = 3 ∨ w.reason = 4) ∧ s.cyc.cycle < w.h ∧ (s.quiet = false ∨ ¬ peerOk);
      x.swap = some w ∧ off) ∧
    (let s : State := (wCyc (zt (fun t => { t with swap := some swp })) (fun c => { c with cycle := 3 }));
      let w : Swap := swp;
      let x := s.twin;
      let peerOk := w.outgoing = false ∨ (s.twinUp = true ∧ x.peerHealthy = true ∧ x.peerSynced = true ∧ x.peerEngines = 0xFF);
      let off := (w.reason = 3 ∨ w.reason = 4) ∧ s.cyc.cycle < w.h ∧ (s.quiet = false ∨ ¬ peerOk);
      x.swap = some w ∧ ¬ off) ∧
    (let s : State := (zt (fun t => { t with fwdUntil := some 0 }));
      let n : Nat := 0;
      let x := s.twin;
      x.fwdUntil = some n ∧ n ≤ s.cyc.cycle) ∧
    (let s : State := (zt (fun t => { t with fwdUntil := some 1 }));
      let n : Nat := 1;
      let x := s.twin;
      x.fwdUntil = some n ∧ s.cyc.cycle < n) ∧
    (let s : State := { (wBoot ((zo (fun t => { t with healthySince := some 0 })).setPar 0x09000001 1) (fun b => { b with twinRole := true })) with coreTicks := 100000000000000 };
      let x := s.twin;
      let whole := ∃ y, x.healthySince = some y ∧ y + s.parN 0x09000002 0 * 1000000000 ≤ s.coreTicks;
      let back := x.onMove = true ∧ s.isBlack = true ∧ s.twinUp = true ∧ s.parN 0x09000001 0 = 1 ∧ whole ∧ x.peerHealthy = true ∧ x.peerSynced = true
            ∧ s.quiet = true ∧ x.swap = none ∧ x.revertLock = false ∧ s.recentReverts.length < 3;
      back ∧ s.boot.testEn = false) ∧
    (let s : State := (zt (fun t => { t with standby := true, lane0 := true, lastMatch := true, cleanVerdicts := 100000 }));
      let c : CmdCtx := c0;
      let x := s.twin;
      let clean := x.standby = true ∧ x.joining = false ∧ s.twinUp = true ∧ x.synced = false ∧ x.lastMatch = true ∧ s.parN 0x09000004 0 ≤ x.cleanVerdicts
            ∧ ∀ c ∈ x.copies, c.2 + 2 ≤ s.cyc.cycle;
      clean) ∧
    (let s : State := z;
      let c : CmdCtx := c0;
      let x := s.twin;
      let clean := x.standby = true ∧ x.joining = false ∧ s.twinUp = true ∧ x.synced = false ∧ x.lastMatch = true ∧ s.parN 0x09000004 0 ≤ x.cleanVerdicts
            ∧ ∀ c ∈ x.copies, c.2 + 2 ≤ s.cyc.cycle;
      ¬ clean) ∧
    (let s : State := z;
      let m : MisTest := mtt;
      let x := s.twin;
      let rotated := ∃ e < 8, (s.engine e).rotated = true;
      let testing := x.misTests.find? (fun (m : MisTest) => !m.started && decide (m.cycle + 2 ≤ s.cyc.cycle));
      (testing = none ∨ rotated)) := by
  refine ⟨?_, ?_, ?_, ?_, ?_, ?_, ?_, ?_⟩ <;> dsimp only [Takes, Acts, ActsExpert, Follows, Reads, Local, Runs] <;> decide +kernel

theorem test_HandOver_3 :
    (let s : State := (wCyc (zt (fun t => { t with misTests := [mtt] })) (fun c => { c with cycle := 2 }));
      let m : MisTest := mtt;
      let x := s.twin;
      let rotated := ∃ e < 8, (s.engine e).rotated = true;
      let testing := x.misTests.find? (fun (m : MisTest) => !m.started && decide (m.cycle + 2 ≤ s.cyc.cycle));
      testing = some m ∧ ¬ rotated) ∧
    (let s : State := z;
      let f : RxFrame := fr 0 ({ hd 1 12 with slotN := 0 }) (zeros 48);
      let h : Hdr := { hd 1 12 with slotN := 0 };
      let pl : List Byte := zeros 48;
      let rf := s.relay f;
      let foreign := rf.rx f = .ok h pl ∧ h.kind = tCsf ∧ rf.twin.onMove = true ∧ field pl 40 6 ≠ Config.serial.toNat;
      rf.rx f = .ok h pl ∧ ¬ foreign ∧ (h.kind ≠ tCsf ∨ h.loop = true ∨ (rf.opening.phase ≠ .listen ∧ (rf.twin.standby = false ∨ rf.cyc.running = false)))) ∧
    (let s : State := (wOpen z (fun o => { o with phase := .listen }));
      let f : RxFrame := fr 0 ({ hd 1 12 with slotN := 0 }) (zeros 48);
      let h : Hdr := { hd 1 12 with slotN := 0 };
      let pl : List Byte := zeros 48;
      let rf := s.relay f;
      rf.rx f = .ok h pl ∧ h.kind = tCsf ∧ h.loop = false ∧ rf.opening.phase = .listen) ∧
    (let s : State := (wCyc (wTwin (wOpen z (fun o => { o with phase := .standby })) (fun t => { t with standby := true })) (fun c => { c with running := true }));
      let f : RxFrame := fr 0 ({ hd 1 12 with slotN := 0 }) (zeros 48);
      let h : Hdr := { hd 1 12 with slotN := 0 };
      let pl : List Byte := zeros 48;
      let rf := s.relay f;
      rf.rx f = .ok h pl ∧ h.kind = tCsf ∧ h.loop = false ∧ rf.opening.phase ≠ .listen ∧ rf.twin.standby = true ∧ rf.cyc.running = true) ∧
    (let s : State := w0;
      let c : CmdCtx := c0;
      let t := s.takeUp c;
      let peer := t.twinUp = true ∧ t.twin.peerHealthy = true;
      let onMove := t.boot.twinPresent = false ∨ t.twin.onMove = true;
      Reads s c 0x0901 1 ∧ onMove ∧ ¬ peer ∧ Reads s c 0x0902 3) ∧
    (let s : State := (wt w0 (fun t => t));
      let c : CmdCtx := c0;
      let t := s.takeUp c;
      let onMove := t.boot.twinPresent = false ∨ t.twin.onMove = true;
      ¬ onMove ∧ Reads s c 0x0902 3) ∧
    (let s : State := (zo (fun t => { t with peerSynced := false }));
      let c : CmdCtx := c0;
      let t := s.takeUp c;
      let peer := t.twinUp = true ∧ t.twin.peerHealthy = true;
      let onMove := t.boot.twinPresent = false ∨ t.twin.onMove = true;
      onMove ∧ peer ∧ t.twin.peerSynced = false ∧ Reads s c 0x0902 3) ∧
    (let s : State := (zo (fun t => { t with swap := some swp }));
      let c : CmdCtx := c0;
      let t := s.takeUp c;
      let peer := t.twinUp = true ∧ t.twin.peerHealthy = true;
      let onMove := t.boot.twinPresent = false ∨ t.twin.onMove = true;
      onMove ∧ peer ∧ t.twin.peerSynced = true ∧ t.twin.swap ≠ none ∧ Reads s c 0x0902 3) := by
  refine ⟨?_, ?_, ?_, ?_, ?_, ?_, ?_, ?_⟩ <;> dsimp only [Takes, Acts, ActsExpert, Follows, Reads, Local, Runs] <;> decide +kernel

theorem test_HandOver_4 :
    (let s : State := (zo (fun t => { t with peerEngines := 0 }));
      let c : CmdCtx := c0;
      let t := s.takeUp c;
      let peer := t.twinUp = true ∧ t.twin.peerHealthy = true;
      let onMove := t.boot.twinPresent = false ∨ t.twin.onMove = true;
      onMove ∧ peer ∧ t.twin.peerSynced = true ∧ t.twin.swap = none ∧ (t.quiet = false ∨ t.twin.peerEngines ≠ 0xFF) ∧ Reads s c 0x0902 3) ∧
    (let s : State := (zo (fun t => t));
      let c : CmdCtx := c0;
      let t := s.takeUp c;
      let peer := t.twinUp = true ∧ t.twin.peerHealthy = true;
      let onMove := t.boot.twinPresent = false ∨ t.twin.onMove = true;
      onMove ∧ peer ∧ t.twin.peerSynced = true ∧ t.twin.swap = none ∧ t.quiet = true ∧ t.twin.peerEngines = 0xFF ∧ Reads s c 0x0902 3) := by
  refine ⟨?_, ?_⟩ <;> dsimp only [Takes, Acts, ActsExpert, Follows, Reads, Local, Runs] <;> decide +kernel

end HandOverW

namespace BootChoiceW

def bk : BankImage := { readable := true, magic := 0x455A5658, format := 1, part := 0x7256, minRev := 0, keyHashOk := true, sigOk := true, sectionsOk := true, imgSeq := 5, fwVer := 1, hashes := [], programs := [], constants := [], schedules := [], items := [], coefs := [], segments := [], moves := [], safety := [], keys := [] }
def bx : BankImage := { bk with sigOk := false }
def zb (n : BitVec 2) : State := wBoot z (fun b => { b with booting := true, bootsel := n })

theorem test_BootChoice_1 :
    (let s : State := (wBoot z (fun b => { b with booting := false }));
      let on := s.boot.booting = true ∧ s.boot.testEn = false;
      ¬ on) ∧
    (let s : State := z;
      let a : BankImage := bk;
      let b : BankImage := bk;
      let ok : Bool := true;
      let va := (s.loadBank a).bankValid a;
      let vb := (s.loadBank b).bankValid b;
      let free := s.boot.bootsel = 0 ∨ s.boot.bootsel = 3;
      let on := s.boot.booting = true ∧ s.boot.testEn = false;
      on ∧ ok = true ∧ free ∧ va = true ∧ vb = true ∧ b.imgSeq ≤ a.imgSeq) ∧
    (let s : State := z;
      let a : BankImage := bk;
      let b : BankImage := { bk with imgSeq := 6 };
      let ok : Bool := true;
      let va := (s.loadBank a).bankValid a;
      let vb := (s.loadBank b).bankValid b;
      let free := s.boot.bootsel = 0 ∨ s.boot.bootsel = 3;
      let on := s.boot.booting = true ∧ s.boot.testEn = false;
      on ∧ ok = true ∧ free ∧ va = true ∧ vb = true ∧ a.imgSeq < b.imgSeq) ∧
    (let s : State := z;
      let a : BankImage := bk;
      let b : BankImage := bx;
      let ok : Bool := true;
      let va := (s.loadBank a).bankValid a;
      let vb := (s.loadBank b).bankValid b;
      let free := s.boot.bootsel = 0 ∨ s.boot.bootsel = 3;
      let on := s.boot.booting = true ∧ s.boot.testEn = false;
      on ∧ ok = true ∧ free ∧ va = true ∧ vb = false) ∧
    (let s : State := z;
      let a : BankImage := bx;
      let b : BankImage := bk;
      let ok : Bool := true;
      let va := (s.loadBank a).bankValid a;
      let vb := (s.loadBank b).bankValid b;
      let free := s.boot.bootsel = 0 ∨ s.boot.bootsel = 3;
      let on := s.boot.booting = true ∧ s.boot.testEn = false;
      on ∧ ok = true ∧ free ∧ va = false ∧ vb = true) ∧
    (let s : State := (zb 1);
      let a : BankImage := bk;
      let ok : Bool := true;
      let va := (s.loadBank a).bankValid a;
      let on := s.boot.booting = true ∧ s.boot.testEn = false;
      on ∧ ok = true ∧ s.boot.bootsel = 1 ∧ va = true) ∧
    (let s : State := (zb 2);
      let b : BankImage := bk;
      let ok : Bool := true;
      let vb := (s.loadBank b).bankValid b;
      let on := s.boot.booting = true ∧ s.boot.testEn = false;
      on ∧ ok = true ∧ s.boot.bootsel = 2 ∧ vb = true) ∧
    (let s : State := (zb 1);
      let a : BankImage := bx;
      let ok : Bool := true;
      let va := (s.loadBank a).bankValid a;
      let on := s.boot.booting = true ∧ s.boot.testEn = false;
      on ∧ ok = true ∧ s.boot.bootsel = 1 ∧ va = false) := by
  refine ⟨?_, ?_, ?_, ?_, ?_, ?_, ?_, ?_⟩ <;> dsimp only [Takes, Acts, ActsExpert, Follows, Reads, Local, Runs] <;> decide +kernel

theorem test_BootChoice_2 :
    (let s : State := (zb 2);
      let b : BankImage := bx;
      let ok : Bool := true;
      let vb := (s.loadBank b).bankValid b;
      let on := s.boot.booting = true ∧ s.boot.testEn = false;
      on ∧ ok = true ∧ s.boot.bootsel = 2 ∧ vb = false) ∧
    (let s : State := z;
      let a : BankImage := bx;
      let b : BankImage := bx;
      let ok : Bool := true;
      let va := (s.loadBank a).bankValid a;
      let vb := (s.loadBank b).bankValid b;
      let on := s.boot.booting = true ∧ s.boot.testEn = false;
      on ∧ (ok = false ∨ (va = false ∧ vb = false))) := by
  refine ⟨?_, ?_⟩ <;> dsimp only [Takes, Acts, ActsExpert, Follows, Reads, Local, Runs] <;> decide +kernel

end BootChoiceW

theorem test_ImageCommands_1 :
    (let s : State := w0;
      let c : CmdCtx := c0;
      let offset : BitVec 32 := 0x01000000;
      let data : List Byte := [1];
      16777216 < offset.toNat + data.length ∧ Local s c 0x0E01 5) ∧
    (let s : State := (wBoot w0 (fun b => { b with flashWrite := some (c0, 0, 0, []) }));
      let c : CmdCtx := c0;
      let offset : BitVec 32 := 0;
      let data : List Byte := [1];
      let t := s.takeUp c;
      let busy := t.boot.flashWrite ≠ none ∨ t.host.keys.pendingSet ≠ none;
      offset.toNat + data.length ≤ 16777216 ∧ busy ∧ Local s c 0x0E01 5) ∧
    (let s : State := w0;
      let c : CmdCtx := c0;
      let offset : BitVec 32 := 0;
      let data : List Byte := [1];
      let t := s.takeUp c;
      let busy := t.boot.flashWrite ≠ none ∨ t.host.keys.pendingSet ≠ none;
      offset.toNat + data.length ≤ 16777216 ∧ ¬ busy ∧ Local s c 0x0E01 5) ∧
    (let s : State := (wBoot w0 (fun b => { b with bank := some 0 }));
      let c : CmdCtx := c0;
      let t := s.takeUp c;
      t.boot.bank = some 0) ∧
    (let s : State := (wBoot w0 (fun b => { b with bank := some 1 }));
      let c : CmdCtx := c0;
      let t := s.takeUp c;
      t.boot.bank = some 1) ∧
    (let s : State := (wBoot w0 (fun b => { b with flashWrite := some (c0, 0, 0, []) }));
      let c : CmdCtx := c0;
      let t := s.takeUp c;
      let busy := t.boot.flashWrite ≠ none ∨ t.host.keys.pendingSet ≠ none;
      busy ∧ Local s c 0x0E02 5) ∧
    (let s : State := w0;
      let c : CmdCtx := c0;
      let t := s.takeUp c;
      let busy := t.boot.flashWrite ≠ none ∨ t.host.keys.pendingSet ≠ none;
      let n := t.spareBank;
      let b := (t.bankOf n).view;
      ¬ busy ∧ b.valid = false ∧ Local s c 0x0E02 5) ∧
    (let s : State := (wBoot w0 (fun b => { b with bank := some 0, bankB := { b.bankB with valid := true } }));
      let c : CmdCtx := c0;
      let t := s.takeUp c;
      let busy := t.boot.flashWrite ≠ none ∨ t.host.keys.pendingSet ≠ none;
      let n := t.spareBank;
      let b := (t.bankOf n).view;
      ¬ busy ∧ b.valid = true ∧ Local s c 0x0E02 5) := by
  refine ⟨?_, ?_, ?_, ?_, ?_, ?_, ?_, ?_⟩ <;> dsimp only [Takes, Acts, ActsExpert, Follows, Reads, Local, Runs] <;> decide +kernel

theorem test_ImageCommands_2 :
    (let s : State := w0;
      let c : CmdCtx := c0;
      let bank : BitVec 8 := 2;
      1 < bank.toNat ∧ Reads s c 0x0E03 1) ∧
    (let s : State := w0;
      let c : CmdCtx := c0;
      let bank : BitVec 8 := 0;
      bank.toNat ≤ 1 ∧ Reads s c 0x0E03 1) := by
  refine ⟨?_, ?_⟩ <;> dsimp only [Takes, Acts, ActsExpert, Follows, Reads, Local, Runs] <;> decide +kernel

namespace AdmissionOrderW

def qr : Request := { (z.makeRequest 0 (.profile 5 false) none none) with pReq := 0, eReq := 0, brake := 0, group := 0 }

theorem test_AdmissionOrder :
    (let s : State := z;
      let g : Nat := 0;
      let a : Nat := 0;
      let q : Request := qr;
      let start := s.isChange a q.kind = false ∧ q.change = false ∧ q.group = g ∧ g < 16;
      start) ∧
    (let s : State := (wAxis z (fun x => { x with req := some qr }));
      let k : Nat := 4;
      let g : Nat := 0;
      let a : Nat := 0;
      let q : Request := qr;
      let first := 5;
      let rel := false;
      let start := s.isChange a q.kind = false ∧ q.change = false ∧ q.group = g ∧ g < 16;
      start ∧ s.waitingReqs g = [(a, q)] ∧ s.fits a k q = true ∧ q.kind = .profile first rel ∧ (s.axis a).span = none ∧ (s.axis a).prof.group = none) ∧
    (let s : State := (wAxis z (fun x => { x with req := some { qr with pReq := 100000000 } }));
      let k : Nat := 4;
      let g : Nat := 0;
      let x : Nat × Request := (0, { qr with pReq := 100000000 });
      let xs : List (Nat × Request) := [];
      g < 16 ∧ s.waitingReqs g = x :: xs ∧ s.fits x.1 k x.2 = false ∧ ((∀ y ∈ x :: xs, s.tooLong y.1 k y.2.kind = false))) := by
  refine ⟨?_, ?_, ?_⟩ <;> dsimp only [Takes, Acts, ActsExpert, Follows, Reads, Local, Runs] <;> decide +kernel

end AdmissionOrderW

theorem test_HarsherStateHolds :
    (let ch : Chan := .p;
      let other : Chan := .h;
      other ≠ ch) ∧
    (let g : Nat := 0;
      let h : Nat := 1;
      h ≠ g) ∧
    (let s : State := z;
      let ch : Chan := .p;
      let g : Nat := 0;
      let x := (s.chan ch).group g;
      x.code = 2) ∧
    (let s : State := (wSaf z (fun x => { x with p := x.p.setGroup 0 { (x.p.group 0) with code := 1 } }));
      let ch : Chan := .p;
      let g : Nat := 0;
      let sto : Bool := false;
      let x := (s.chan ch).group g;
      x.code = 1 ∧ sto = false) ∧
    (let s : State := (wSaf z (fun x => { x with p := x.p.setGroup 0 { (x.p.group 0) with code := 0 } }));
      let ch : Chan := .p;
      let g : Nat := 0;
      let x := (s.chan ch).group g;
      x.code = 0) ∧
    (let s : State := (wSaf z (fun x => { x with p := x.p.setGroup 0 { (x.p.group 0) with code := 1 } }));
      let ch : Chan := .p;
      let g : Nat := 0;
      let sto : Bool := true;
      let x := (s.chan ch).group g;
      x.code = 1 ∧ sto = true) ∧
    (let s : State := (wSaf z (fun x => { x with p := x.p.setGroup 0 { (x.p.group 0) with code := 0 }, h := x.h.setGroup 0 { (x.h.group 0) with code := 0 } }));
      let g : Nat := 0;
      s.groupState g = 0) ∧
    (let s : State := z;
      let g : Nat := 0;
      s.groupState g ≠ 0) := by
  refine ⟨?_, ?_, ?_, ?_, ?_, ?_, ?_, ?_⟩ <;> dsimp only [Takes, Acts, ActsExpert, Follows, Reads, Local, Runs] <;> decide +kernel

theorem test_BarrierLossDemands :
    (let s : State := { z with coreTicks := 100000 };
      let ch : Chan := .p;
      let c := s.chan ch;
      let gone := c.linkLost = false ∧ c.lastFrame + 62500 ≤ s.coreTicks;
      gone) ∧
    (let s : State := z;
      let ch : Chan := .p;
      let c := s.chan ch;
      let gone := c.linkLost = false ∧ c.lastFrame + 62500 ≤ s.coreTicks;
      ¬ gone ∧ c.linkLost = false) ∧
    (let s : State := ((z.setChan .p { (z.chan .p) with linkLost := true }).setPar 0x08300001 1);
      let ch : Chan := .p;
      let i : PairIx := 0;
      let c := s.chan ch;
      c.linkLost = true ∧ c.recover < 64 ∧ s.pairUsed i.val = true) ∧
    (let s : State := (z.setChan .p { (z.chan .p) with linkLost := true, recover := 64 });
      let ch : Chan := .p;
      let c := s.chan ch;
      c.linkLost = true ∧ 64 ≤ c.recover) ∧
    (let s : State := ((z.setChan .p { (z.chan .p) with linkLost := true }).setPar 0x08300001 1);
      let ch : Chan := .p;
      let c := s.chan ch;
      c.linkLost = true) := by
  refine ⟨?_, ?_, ?_, ?_, ?_⟩ <;> dsimp only [Takes, Acts, ActsExpert, Follows, Reads, Local, Runs] <;> decide +kernel

theorem test_ResumeArmsHeld :
    (let s : State := (wItems w0 [mvI .held]);
      let c : CmdCtx := c0;
      let x : MoveItem := (mvI .held);
      Acts s c 0x0604 2 ∧ (s.moves.items.map (fun (y : MoveItem) => y.seqN)).Nodup ∧ x ∈ s.moves.items) := by
  dsimp only [Takes, Acts, ActsExpert, Follows, Reads, Local, Runs]
  decide +kernel

namespace EventRingW

def ev : Event := { seq := 0, code := 1, sev := 1, flags := 0, sec := 0, ns := 0, cycle := 0, inst := 0, status := 0, session := 0, cmdSeq := 0, opcode := 0, data := [] }

theorem test_EventRing :
    (let s : State := (wBar z (fun b => { b with hostCtrl := 0 }));
      let b := s.host.bar0;
      let on := nbit b.hostCtrl.toNat 1 = true;
      ¬ on) ∧
    (let s : State := (wBar z (fun b => { b with hostCtrl := 2, eqSize := 16 }));
      let b := s.host.bar0;
      let on := nbit b.hostCtrl.toNat 1 = true;
      let out := s.boot.testEn = false;
      let numbers := s.host.gathered = none;
      let next := if b.eqSize = 0 then 0 else (b.eqTail.toNat + 1) % b.eqSize.toNat;
      on ∧ next ≠ b.eqHead.toNat ∧ out ∧ numbers) ∧
    (let s : State := ((wBar z (fun b => { b with hostCtrl := 2, eqSize := 16, eqHead := 1 })).put (.ringEvent 0 []));
      let e : Event := ev;
      let i := 0;
      let bs := [];
      let b := s.host.bar0;
      let on := nbit b.hostCtrl.toNat 1 = true;
      let next := if b.eqSize = 0 then 0 else (b.eqTail.toNat + 1) % b.eqSize.toNat;
      let t := s.ringEvent e;
      on ∧ next = b.eqHead.toNat ∧ .ringEvent i bs ∈ t.out) ∧
    (let s : State := (wBar z (fun b => { b with hostCtrl := 2, eqSize := 16, eqHead := 1 }));
      let b := s.host.bar0;
      let on := nbit b.hostCtrl.toNat 1 = true;
      let numbers := s.host.gathered = none;
      let next := if b.eqSize = 0 then 0 else (b.eqTail.toNat + 1) % b.eqSize.toNat;
      on ∧ next = b.eqHead.toNat ∧ numbers) := by
  refine ⟨?_, ?_, ?_, ?_⟩ <;> dsimp only [Takes, Acts, ActsExpert, Follows, Reads, Local, Runs] <;> decide +kernel

end EventRingW

end Sys2Proof.Tests
end

section
/-! The special registers of Table ENG-3 and the moves over them (R157, R162). -/

namespace Sys2Proof.Machine

open Sys2Proof.Claims

theorem Engine.readSpr_address (x : Engine) (n : Nat) (h : n < 8) : x.readSpr n = some ((x.ar n).setWidth 48) := by
  simp [Engine.readSpr, h, BitVec.ofNat_toNat]

theorem Engine.readSpr_offset (x : Engine) (n : Nat) (h : 8 ≤ n) (h' : n < 16) :
    x.readSpr n = some ((x.or (n - 8)).signExtend 48) := by
  simp [Engine.readSpr, Nat.not_lt.mpr h, h', w48, BitVec.signExtend]

theorem Engine.readSpr_loopCounter (x : Engine) (n : Nat) (h : n = 16 ∨ n = 17) :
    x.readSpr n = some ((x.lcr (n - 16)).setWidth 48) := by
  rcases h with rfl | rfl <;> simp [Engine.readSpr, BitVec.ofNat_toNat]

theorem Engine.readSpr_scale (x : Engine) (n : Nat) (h : 20 ≤ n) (h' : n ≤ 23) :
    x.readSpr n = some ((x.sclr (n - 20)).setWidth 48) := by
  have h8 : ¬ n < 8 := by omega
  have h16 : ¬ n < 16 := by omega
  have hlc : ¬ (n = 16 ∨ n = 17) := by omega
  simp [Engine.readSpr, h8, h16, hlc, h, h', BitVec.ofNat_toNat]

theorem Engine.readSpr_flags (x : Engine) : x.readSpr 24 = some (x.flags.setWidth 48) := by
  simp [Engine.readSpr, BitVec.ofNat_toNat]

theorem Engine.readSpr_w_isSome (x : Engine) (n : Nat) (h : 28 ≤ n) (h' : n ≤ 31) : (x.readSpr n).isSome = true := by
  have h8 : ¬ n < 8 := by omega
  have h16 : ¬ n < 16 := by omega
  have hlc : ¬ (n = 16 ∨ n = 17) := by omega
  have hscl : ¬ (20 ≤ n ∧ n ≤ 23) := by omega
  have hfl : ¬ n = 24 := by omega
  simp [Engine.readSpr, h8, h16, hlc, hscl, hfl, h, h']

/-- The numbers of Table ENG-3 that name no register. -/
theorem Engine.readSpr_reserved (x : Engine) (n : Nat) (h : n = 18 ∨ n = 19 ∨ (25 ≤ n ∧ n ≤ 27) ∨ 32 ≤ n) : x.readSpr n = none := by
  have h8 : ¬ n < 8 := by omega
  have h16 : ¬ n < 16 := by omega
  have hlc : ¬ (n = 16 ∨ n = 17) := by omega
  have hscl : ¬ (20 ≤ n ∧ n ≤ 23) := by omega
  have hfl : ¬ n = 24 := by omega
  have hw : ¬ (28 ≤ n ∧ n ≤ 31) := by omega
  simp [Engine.readSpr, h8, h16, hlc, hscl, hfl, hw]


/-- The numbers of Table ENG-3 that no instruction writes: W and the reserved ones. -/
theorem Engine.writeSpr_readOnly (x : Engine) (n : Nat) (v : Word48) (h : n = 18 ∨ n = 19 ∨ 25 ≤ n) : x.writeSpr n v = none := by
  have h8 : ¬ n < 8 := by omega
  have h16 : ¬ n < 16 := by omega
  have hlc : ¬ (n = 16 ∨ n = 17) := by omega
  have hscl : ¬ (20 ≤ n ∧ n ≤ 23) := by omega
  have hfl : ¬ n = 24 := by omega
  simp [Engine.writeSpr, h8, h16, hlc, hscl, hfl]

/-- A write of a special register touches the registers that Table ENG-3 numbers only. -/
theorem Engine.writeSpr_rest (x y : Engine) (n : Nat) (v : Word48) (h : x.writeSpr n v = some y) :
    y = { x with a := y.a, o := y.o, lc := y.lc, scl := y.scl, flags := y.flags } := by
  unfold Engine.writeSpr at h
  split at h
  · obtain rfl := Option.some.inj h; rfl
  split at h
  · obtain rfl := Option.some.inj h; rfl
  split at h
  · obtain rfl := Option.some.inj h; rfl
  split at h
  · obtain rfl := Option.some.inj h; rfl
  split at h
  · obtain rfl := Option.some.inj h; rfl
  · cases h

/-- What a special register reads back after a write (Table ENG-3). -/
def Engine.sprBack (x : Engine) (n : Nat) (v : Word48) : Option Word48 := (x.writeSpr n v).bind (fun y => y.readSpr n)

theorem Engine.sprBack_address (x : Engine) (n : Nat) (v : Word48) (h : n < 8) :
    x.sprBack n v = some ((v.setWidth 20).setWidth 48) := by
  simp [Engine.sprBack, Engine.writeSpr, h, Engine.readSpr_address, Engine.ar_setA]

theorem Engine.sprBack_offset (x : Engine) (n : Nat) (v : Word48) (h : 8 ≤ n) (h' : n < 16) :
    x.sprBack n v = some ((v.setWidth 20).signExtend 48) := by
  simp [Engine.sprBack, Engine.writeSpr, Nat.not_lt.mpr h, h', Engine.readSpr_offset _ n h h', Engine.or_setO]

theorem Engine.sprBack_loopCounter (x : Engine) (n : Nat) (v : Word48) (h : n = 16 ∨ n = 17) :
    x.sprBack n v = some ((v.setWidth 16).setWidth 48) := by
  have h8 : ¬ n < 8 := by omega
  have h16 : ¬ n < 16 := by omega
  simp [Engine.sprBack, Engine.writeSpr, h8, h16, h, Engine.readSpr_loopCounter _ n h, Engine.lcr_setLc]

theorem Engine.sprBack_scale (x : Engine) (n : Nat) (v : Word48) (h : 20 ≤ n) (h' : n ≤ 23) :
    x.sprBack n v = some ((v.setWidth 6).setWidth 48) := by
  have h8 : ¬ n < 8 := by omega
  have h16 : ¬ n < 16 := by omega
  have hlc : ¬ (n = 16 ∨ n = 17) := by omega
  simp [Engine.sprBack, Engine.writeSpr, h8, h16, hlc, h, h', Engine.readSpr_scale _ n h h', Engine.sclr_setScl]

/-- FLAGS keeps its reserved bits at 0 (R10). -/
theorem Engine.sprBack_flags (x : Engine) (v : Word48) : x.sprBack 24 v = some (v &&& 0xF007) := by
  have keep : (v.setWidth 16).setWidth 48 &&& 0xF007 = v &&& 0xF007 := by
    ext i hi
    by_cases h : i < 16
    · simp [h, BitVec.getLsbD_eq_getElem hi]
    · have high : Nat.testBit 0xF007 i = false :=
        Nat.testBit_lt_two_pow (Nat.lt_of_lt_of_le (by decide : 0xF007 < 2 ^ 16) (Nat.pow_le_pow_right (by decide) (by omega)))
      simp [← BitVec.getLsbD_eq_getElem, BitVec.getLsbD_ofNat, high]
  simpa [Engine.sprBack, Engine.writeSpr, Engine.readSpr_flags] using keep

/-- AMOD: Aa becomes Aa + Oo (R157). -/
theorem Engine.postMod_postModified (x : Engine) (a o : Nat) : PostModified x (x.postMod a o true) a o true := by
  refine ⟨(x.ar_setA a a _).trans (if_pos rfl), fun j hj => (x.ar_setA a j _).trans (if_neg hj)⟩

theorem Engine.setX_putsX (x : Engine) (d : Nat) (v : Word48) : PutsX x (x.setX d v) d v :=
  ⟨(x.xr_setX d d v).trans (if_pos rfl), fun j hj => (x.xr_setX d j v).trans (if_neg hj)⟩

section EngineStep

variable {i : Instr} {s : State} {e cost : Nat} {r : Running} {f : State → Engine → Running → EngOut} {y : Engine}

/-- An instruction that does not branch, and leaves the engine's task and its store buffer as they are. -/
theorem exec_onward_of_seq (h : Runs s e r) (hi : exec i s = s.engineStep e cost f) (hf : f s (s.engine e) r = EngOut.seq y)
    (ht : y.task = (s.engine e).task) (hs : y.stores = (s.engine e).stores) : exec i s = .next (Onward s e r cost y) :=
  hi.trans ((s.engineStep_onward e cost r r f y h hf (ht.trans h.1) (hs ▸ h.2)).trans (by simp))

/-- A write of a special register that the table gives. -/
theorem exec_onward_of_writeSpr {n : Nat} {v : Word48} (h : Runs s e r) (hy : (s.engine e).writeSpr n v = some y)
    (hi : exec i s = s.engineStep e cost f) (hf : f s (s.engine e) r = EngOut.seq y) : exec i s = .next (Onward s e r cost y) := by
  have hrest := Engine.writeSpr_rest _ _ _ _ hy
  exact exec_onward_of_seq h hi hf (by rw [hrest]) (by rw [hrest])

theorem exec_taskFault_of_illegal (h : Runs s e r) (hi : exec i s = s.engineStep e cost f)
    (hf : f s (s.engine e) r = EngOut.illegal) : exec i s = .next (s.taskFault e 0 0 3) :=
  hi.trans (s.engineStep_illegal e cost r f h hf)

end EngineStep

theorem exec_ceAmod (e : EngIx) (a o : Fin 8) (s : State) : exec (.ceAmod e a o) s = execCeAmod e a o s := rfl

theorem exec_ceLds (e : EngIx) (n : BitVec 8) (imm : BitVec 32) (s : State) : exec (.ceLds e n imm) s = execCeLds e n imm s := rfl

theorem exec_ceMva (e : EngIx) (fromSpr : Bool) (d : Fin 32) (n : BitVec 8) (s : State) :
    exec (.ceMva e fromSpr d n) s = execCeMva e fromSpr d n s := rfl

theorem exec_ceNop (e : EngIx) (s : State) : exec (.ceNop e) s = execCeNop e s := rfl

/-- Settles O8: Table ENG-3 read back number by number, and each move as one sequential step of its engine. -/
theorem engineSpecialMoves : Obligations.EngineSpecialMoves := by
  unfold Obligations.EngineSpecialMoves
  refine ⟨fun x n v => ⟨x.sprBack_address n v, x.sprBack_offset n v, x.sprBack_loopCounter n v, x.sprBack_scale n v,
    fun h => h ▸ x.sprBack_flags v, fun h h' => ⟨x.writeSpr_readOnly n v (by omega), x.readSpr_w_isSome n h h'⟩,
    fun h => ⟨x.writeSpr_readOnly n v (by omega), x.readSpr_reserved n h⟩, fun y => x.writeSpr_rest y n v⟩, ?_⟩
  intro s e r a o d n imm h
  refine ⟨?amod, ?lds, ?ldsIllegal, ?toSpr, ?toSprIllegal, ?fromSpr, ?fromSprIllegal, ?nop⟩
  case amod =>
    exact ⟨_, exec_onward_of_seq h (exec_ceAmod e a o s) rfl rfl rfl, Engine.postMod_postModified _ _ _, rfl⟩
  case lds =>
    intro y hy
    exact exec_onward_of_writeSpr h hy (exec_ceLds e n imm s) (by simp only [hy])
  case ldsIllegal =>
    intro hn
    exact exec_taskFault_of_illegal h (exec_ceLds e n imm s) (by simp only [hn])
  case toSpr =>
    intro y hy
    exact exec_onward_of_writeSpr h hy (exec_ceMva e false d n s) (by simp [hy])
  case toSprIllegal =>
    intro hn
    exact exec_taskFault_of_illegal h (exec_ceMva e false d n s) (by simp [hn])
  case fromSpr =>
    intro v hv
    exact ⟨(s.engine e.val).setX d.val v, exec_onward_of_seq h (exec_ceMva e true d n s) (by simp [hv]) rfl rfl,
      Engine.setX_putsX _ _ _, rfl⟩
  case fromSprIllegal =>
    intro hn
    exact exec_taskFault_of_illegal h (exec_ceMva e true d n s) (by simp [hn])
  case nop =>
    exact exec_onward_of_seq h (exec_ceNop e s) rfl rfl rfl

end Sys2Proof.Machine
end

section
/-! The segment pool and the linear groups (R218, R222, R226 to R229). -/

namespace Sys2Proof.Machine

open Sys2Proof.Claims

/-- The state that an answer leaves, with the one reply it asks for (R420). -/
def Ans.result (t : State) (c : CmdCtx) (op : Nat) : Ans → State
  | .refuse st d => t.reply c op st d
  | .ok u st d => u.reply c op st d
  | .quiet u => u

@[simp] theorem Ans.result_refuse (t : State) (c : CmdCtx) (op st : Nat) (d : List Byte) :
    (Ans.refuse st d).result t c op = t.reply c op st d := rfl

@[simp] theorem Ans.result_ok (t u : State) (c : CmdCtx) (op st : Nat) (d : List Byte) :
    (Ans.ok u st d).result t c op = u.reply c op st d := rfl

@[simp] theorem Ans.result_quiet (t u : State) (c : CmdCtx) (op : Nat) : (Ans.quiet u).result t c op = u := rfl

section HostCommand

variable {s : State} {c : CmdCtx} {i : Instr} {k : Cmd} {lenOk : Bool} {body : State → Ans} {a : Ans}

/-- A host command that passes R450's checks leaves what its body answers. -/
theorem exec_host_takes (hi : exec i s = s.host_ c k lenOk body) (h : Takes s c k.op k.need k.expert k.move k.logged)
    (hlen : lenOk = true) (ha : body (s.takeUp c) = a) : exec i s = .next (a.result (s.takeUp c) c k.op) := by
  subst hlen ha
  rw [hi, State.host_, s.command_takes c k body h]
  cases body (s.takeUp c) <;> rfl

/-- A host command with a parameter length that its row does not allow is answered BAD_LENGTH (R450). -/
theorem exec_host_badLength (hi : exec i s = s.host_ c k lenOk body) (h : Takes s c k.op k.need k.expert k.move k.logged)
    (hlen : lenOk = false) : exec i s = .next ((s.takeUp c).reply c k.op stBadLength []) := by
  subst hlen
  obtain ⟨hopen, -, -, -, hmove, -⟩ := h
  obtain ⟨hses, -⟩ := s.takeUp_facts c
  have hon : (s.twin.standby && k.move) = false := by
    cases hst : s.twin.standby
    · rfl
    · exact hmove hst
  rw [hi, State.host_, State.command]
  simp [hses, hon, hopen]

/-- The same for a command that AT_BOUNDARY can delay and that does not wait. -/
theorem exec_hostAt_takes (hi : exec i s = s.hostAt c i k true body)
    (h : Takes s c k.op k.need k.expert k.move k.logged) (hb : boundaryOp k.op = true) (ha : body (s.takeUp c) = a) :
    exec i s = .next (a.result (s.takeUp c) c k.op) := by
  subst ha
  rw [hi, s.hostAt_takes c i k body h hb]
  cases body (s.takeUp c) <;> rfl

end HostCommand

theorem exec_proSegWrite (c : CmdCtx) (first : BitVec 16) (segs : List PvtSeg) (s : State) :
    exec (.proSegWrite c first segs) s = execProSegWrite c first segs s := rfl

theorem exec_proSegRead (c : CmdCtx) (first : BitVec 16) (n : BitVec 8) (s : State) :
    exec (.proSegRead c first n) s = execProSegRead c first n s := rfl

theorem exec_segmentWriteLand (s : State) : exec .segmentWriteLand s = execSegmentWriteLand s := rfl

theorem exec_proGroupLinear (c : CmdCtx) (group : BitVec 8) (f a dp j : Word48) (targets : List (BitVec 16 × Word48)) (s : State) :
    exec (.proGroupLinear c group f a dp j targets) s = execProGroupLinear c group f a dp j targets s := rfl

/-! The segments of the pool. -/

theorem State.segWord_putPvt (s : State) (i j : Nat) (g : PvtSeg) : (s.putPvt i g).segWord j =
    if j = 4 * i + 3 then (keptSeg g).w3 else if j = 4 * i + 2 then (keptSeg g).w2
    else if j = 4 * i + 1 then (keptSeg g).w1 else if j = 4 * i then (keptSeg g).w0 else s.segWord j := by
  simp [State.putPvt, State.segWord, sputs, sget_sput]

theorem State.pvtAt_putPvt_same (s : State) (i : Nat) (g : PvtSeg) : (s.putPvt i g).pvtAt i = keptSeg g := by
  simp [State.pvtAt, State.segWord_putPvt]

theorem State.pvtAt_putPvt_other (s : State) (i j : Nat) (g : PvtSeg) (h : j ≠ i) : (s.putPvt i g).pvtAt j = s.pvtAt j := by
  simp (disch := omega) only [State.pvtAt, State.segWord_putPvt, if_neg]

/-- A list of segments is put into the pool, from an index on. -/
def State.putPvts (s : State) (first : Nat) (segs : List PvtSeg) : State :=
  ((List.range segs.length).zip segs).foldl (fun s (p : Nat × PvtSeg) => s.putPvt (first + p.1) p.2) s

theorem State.putPvts_concat (s : State) (first : Nat) (segs : List PvtSeg) (g : PvtSeg) :
    s.putPvts first (segs ++ [g]) = (s.putPvts first segs).putPvt (first + segs.length) g := by
  simp [State.putPvts, List.range_succ, List.zip_append]

theorem State.pvtAt_putPvts (s : State) (first i : Nat) (segs : List PvtSeg) (g : PvtSeg) (h : segs[i]? = some g) :
    (s.putPvts first segs).pvtAt (first + i) = keptSeg g := by
  induction segs using List.reverseRecOn with
  | nil => simp at h
  | append_singleton segs last ih =>
    rw [State.putPvts_concat]
    rcases Nat.lt_trichotomy i segs.length with hi | hi | hi
    · rw [List.getElem?_append_left hi] at h
      rw [State.pvtAt_putPvt_other _ _ _ _ (by omega), ih h]
    · subst hi
      obtain rfl : last = g := by simpa using h
      exact State.pvtAt_putPvt_same _ _ _
    · rw [List.getElem?_eq_none (by simp; omega)] at h
      cases h

theorem State.putPvts_eng (s : State) (first : Nat) (segs : List PvtSeg) :
    (s.putPvts first segs).eng = { s.eng with segPool := (s.putPvts first segs).eng.segPool } := by
  induction segs using List.reverseRecOn with
  | nil => rfl
  | append_singleton segs last ih =>
    rw [State.putPvts_concat]
    simp only [State.putPvt]
    rw [ih]

/-- The segments of a write land in the pool, and count as written (R218). -/
def State.landSegs (s : State) (w : SegWrite) : State :=
  let t := s.putPvts w.first w.segs
  { t with eng := { t.eng with
      segWritten := t.eng.segWritten ++ ((List.range w.segs.length).map (w.first + ·)).filter (fun i => !t.segIsWritten i) } }

theorem State.segWaiting_landSegs (s : State) (w : SegWrite) : (s.landSegs w).eng.segWaiting = s.eng.segWaiting := by
  simp only [State.landSegs]
  rw [State.putPvts_eng]

theorem State.segIsWritten_landSegs (s : State) (w : SegWrite) (i : Nat) (hi : i < w.segs.length) :
    (s.landSegs w).segIsWritten (w.first + i) = true := by
  simp only [State.landSegs, State.segIsWritten, List.contains_eq_mem, List.mem_append, List.mem_filter, List.mem_map, List.mem_range,
    decide_eq_true_eq]
  by_cases h : w.first + i ∈ (s.putPvts w.first w.segs).eng.segWritten
  · exact .inl h
  · exact .inr ⟨⟨i, hi, rfl⟩, by simpa using h⟩

theorem State.pvtAt_landSegs (s : State) (w : SegWrite) (i : Nat) (g : PvtSeg) (h : w.segs[i]? = some g) :
    (s.landSegs w).pvtAt (w.first + i) = keptSeg g :=
  s.pvtAt_putPvts w.first i w.segs g h

/-- The one write that waits lands once its boundary has passed, and is answered (R40, R218). -/
theorem exec_segmentWriteLand_one (s : State) (w : SegWrite) (hw : s.eng.segWaiting = [w]) (hpast : s.boundaryPast w.cycle = true) :
    exec .segmentWriteLand s
      = .next (({ s with eng := { s.eng with segWaiting := [] } } : State).landSegs w |>.replyLater w.ctx 0x0501 stDone []) := by
  rw [exec_segmentWriteLand]
  simp [execSegmentWriteLand, hw, hpast, State.landSegs, State.putPvts]

/-! PRO_SEG_WRITE and PRO_SEG_READ. -/

/-- A segment that PRO_SEG_WRITE refuses: shorter than a cycle, or at rest nowhere where the chain ends or holds (R218). -/
def State.segRefused (s : State) (g : PvtSeg) : Prop :=
  (pvtVal g).dur < s.period ∨ (((pvtVal g).next = 0xFFFF ∨ (pvtVal g).hold = true) ∧ (pvtVal g).vEnd ≠ 0)

/-- A running profile is in one of k segments, or goes on to one (R218). -/
def State.segsInUse (s : State) (first k : Nat) : Prop :=
  ∃ a i, a < 256 ∧ i < k ∧ (s.axis a).prof.running = true
    ∧ (first + i = (s.axis a).prof.seg ∨ first + i = (s.segAt (s.axis a).prof.seg).next)

theorem State.segsRefused_iff (s : State) (first : Nat) (segs : List PvtSeg) :
    (segFirm < first + segs.length ∨ segs.any (fun x => decide ((pvtVal x).dur < s.period)
        || ((decide ((pvtVal x).next = segNone) || (pvtVal x).hold) && decide ((pvtVal x).vEnd ≠ 0))) = true)
    ↔ ¬ first + segs.length ≤ 0xF000 ∨ ∃ g ∈ segs, s.segRefused g := by
  simp only [List.any_eq_true, Bool.or_eq_true, Bool.and_eq_true, decide_eq_true_eq, Nat.not_le]
  rfl

theorem State.segsInUse_iff (s : State) (first k : Nat) :
    ((List.range 256).any (fun a => (s.axis a).prof.running && (List.range k).any (fun i =>
      decide (first + i = (s.axis a).prof.seg) || decide (first + i = (s.segAt (s.axis a).prof.seg).next)))) = true
    ↔ s.segsInUse first k := by
  simp only [List.any_eq_true, List.mem_range, Bool.and_eq_true, Bool.or_eq_true, decide_eq_true_eq]
  constructor
  · rintro ⟨a, ha, hrun, i, hi, hseg⟩
    exact ⟨a, i, ha, hi, hrun, hseg⟩
  · rintro ⟨a, i, ha, hi, hrun, hseg⟩
    exact ⟨a, ha, hrun, i, hi, hseg⟩

section SegCommands

variable {s : State} {c : CmdCtx} {first : BitVec 16} {segs : List PvtSeg} {n : BitVec 8}

theorem exec_proSegWrite_badLength (hacts : Acts s c 0x0501 2) (hform : ¬ (1 ≤ segs.length ∧ segs.length ≤ 9)) :
    Replies (.proSegWrite c first segs) s c 0x0501 0x0101 [] (s.takeUp c) :=
  (exec_host_badLength (exec_proSegWrite c first segs s) hacts (by simpa using hform) :)

theorem exec_proSegWrite_badValue (hacts : Acts s c 0x0501 2) (hform : 1 ≤ segs.length ∧ segs.length ≤ 9)
    (hvalue : ¬ first.toNat + segs.length ≤ 0xF000 ∨ ∃ g ∈ segs, (s.takeUp c).segRefused g) :
    Replies (.proSegWrite c first segs) s c 0x0501 0x0105 [] (s.takeUp c) :=
  (exec_host_takes (a := .refuse 0x0105 []) (exec_proSegWrite c first segs s) hacts (by simpa using hform)
    (if_pos (((s.takeUp c).segsRefused_iff _ _).mpr hvalue)) :)

theorem exec_proSegWrite_inUse (hacts : Acts s c 0x0501 2) (hform : 1 ≤ segs.length ∧ segs.length ≤ 9)
    (hvalue : ¬ (¬ first.toNat + segs.length ≤ 0xF000 ∨ ∃ g ∈ segs, (s.takeUp c).segRefused g))
    (hused : (s.takeUp c).segsInUse first.toNat segs.length) :
    Replies (.proSegWrite c first segs) s c 0x0501 0x0301 [] (s.takeUp c) :=
  (exec_host_takes (a := .refuse 0x0301 []) (exec_proSegWrite c first segs s) hacts (by simpa using hform)
    ((if_neg (mt ((s.takeUp c).segsRefused_iff _ _).mp hvalue)).trans (if_pos (((s.takeUp c).segsInUse_iff _ _).mpr hused))) :)

/-- An accepted write waits for the boundary, and the landing replies. -/
theorem exec_proSegWrite_waits (hacts : Acts s c 0x0501 2) (hform : 1 ≤ segs.length ∧ segs.length ≤ 9)
    (hvalue : ¬ (¬ first.toNat + segs.length ≤ 0xF000 ∨ ∃ g ∈ segs, (s.takeUp c).segRefused g))
    (hused : ¬ (s.takeUp c).segsInUse first.toNat segs.length) :
    Leaves (.proSegWrite c first segs) s { s.takeUp c with eng := { (s.takeUp c).eng with
      segWaiting := (s.takeUp c).eng.segWaiting ++ [⟨c, first.toNat, segs, s.cyc.cycle⟩] } } :=
  (exec_host_takes (exec_proSegWrite c first segs s) hacts (by simpa using hform)
    ((if_neg (mt ((s.takeUp c).segsRefused_iff _ _).mp hvalue)).trans
      (if_neg (mt ((s.takeUp c).segsInUse_iff _ _).mp hused))) :).trans (by simp)

theorem exec_proSegRead_done (hreads : Reads s c 0x0505 1)
    (hrd : 1 ≤ n.toNat ∧ n.toNat ≤ 9 ∧ first.toNat + n.toNat ≤ 65536) :
    Replies (.proSegRead c first n) s c 0x0505 0 ((List.range n.toNat).flatMap (fun i =>
      let g := (s.takeUp c).pvtAt (first.toNat + i)
      be 6 g.w0.toNat ++ be 6 g.w1.toNat ++ be 6 g.w2.toNat ++ be 6 g.w3.toNat)) (s.takeUp c) :=
  (exec_hostAt_takes (exec_proSegRead c first n s) hreads rfl (if_neg (by omega)) :)

theorem exec_proSegRead_badValue (hreads : Reads s c 0x0505 1)
    (hrd : ¬ (1 ≤ n.toNat ∧ n.toNat ≤ 9 ∧ first.toNat + n.toNat ≤ 65536)) :
    Replies (.proSegRead c first n) s c 0x0505 0x0105 [] (s.takeUp c) :=
  (exec_hostAt_takes (exec_proSegRead c first n s) hreads rfl (if_pos (by omega)) :)

end SegCommands

/-! SEGMENT_WRITE_LAND. -/

theorem exec_segmentWriteLand_none (s : State) (hw : s.eng.segWaiting = []) :
    Leaves .segmentWriteLand s { s with eng := { s.eng with segWaiting := [] } } := by
  rw [Leaves, exec_segmentWriteLand]
  simp [execSegmentWriteLand, hw]

/-- The one write that waits lands once its boundary has passed (R40, R218). -/
theorem exec_segmentWriteLand_lands (s : State) (w : SegWrite) (hw : s.eng.segWaiting = [w]) (hpast : s.boundaryPast w.cycle = true) :
    ∃ u, exec .segmentWriteLand s = .next u ∧ u.eng.segWaiting = []
      ∧ (∀ i, i < w.segs.length → u.segIsWritten (w.first + i) = true)
      ∧ ∀ i g, w.segs[i]? = some g → u.pvtAt (w.first + i) = keptSeg g := by
  refine ⟨_, exec_segmentWriteLand_one s w hw hpast, ?_, ?_, ?_⟩
  · simp [State.segWaiting_landSegs]
  · intro i hi
    simp only [State.segIsWritten, State.replyLater_frame]
    exact State.segIsWritten_landSegs _ w i hi
  · intro i g hg
    simp only [State.pvtAt, State.segWord, State.replyLater_frame]
    exact State.pvtAt_landSegs _ w i g hg

/-! PRO_GROUP_LINEAR. -/

/-- A check that does not refuse. -/
theorem ite_passes {α : Type} {p q : Prop} [Decidable p] {x y : α} (h : p ↔ ¬ q) (hq : q) : (if p then x else y) = y :=
  if_neg fun hp => h.mp hp hq

/-- A request within the budget of its power group is accepted (R285, R286). -/
theorem State.askStart_accepted (s : State) (c : CmdCtx) (a : Nat) (kind : ReqKind)
    (h : s.beyondBudget (s.makeRequest a kind (some c) none).group (s.reqCost a s.cyc.cycle kind []) = false) :
    s.askStart c a kind = .ok (s.modAxis a (fun x => { x with req := some (s.makeRequest a kind (some c) none) })) stAccepted [] := by
  simp [State.askStart, h]

/-- Settles O27: the checks of each command in their order, and the landed segments word by word. -/
theorem segmentsAndGroups : Obligations.SegmentsAndGroups := by
  unfold Obligations.SegmentsAndGroups
  constructor
  · intro s c first segs n w
    refine ⟨?length, ?value, ?inUse, ?waits, ?read, ?readValue, ?none, ?lands⟩
    case length => exact fun hform hacts => exec_proSegWrite_badLength hacts hform
    case value => exact fun hform hvalue hacts => exec_proSegWrite_badValue hacts hform hvalue
    case inUse =>
      exact fun hform hfits hgood hused hacts => exec_proSegWrite_inUse hacts hform
        (not_or.mpr ⟨not_not.mpr hfits, fun ⟨g, hg, hbad⟩ => hgood g hg hbad⟩) hused
    case waits =>
      exact fun hform hfits hgood hused hacts => exec_proSegWrite_waits hacts hform
        (not_or.mpr ⟨not_not.mpr hfits, fun ⟨g, hg, hbad⟩ => hgood g hg hbad⟩) hused
    case read => exact fun hreads hrd => exec_proSegRead_done hreads hrd
    case readValue => exact fun hreads hrd => exec_proSegRead_badValue hreads hrd
    case none => exact exec_segmentWriteLand_none s
    case lands => exact fun hw hpast _ => exec_segmentWriteLand_lands s w hw hpast
  · intro s c group f am dp j targets t mem tgt good ms shape lead short kind q one ans
    have hexec := exec_proGroupLinear c group f am dp j targets s
    have hform : (32 ≤ group.toNat ∨ f.toInt ≤ 0 ∨ am.toInt ≤ 0 ∨ dp.toInt ≤ 0 ∨ targets.length ≠ mem.length ∨ mem = []
        ∨ mem.any (fun x => (tgt x).isNone) = true) ↔ ¬ good := by
      simp only [good, not_and_or, Nat.not_lt, Int.not_lt, not_not, List.any_eq_true, not_forall, Option.isNone_iff_eq_none,
        Option.isSome_iff_ne_none, exists_prop, ne_eq]
    have hready : mem.any (fun x => decide (t.axState x ≠ .ready)) = true ↔ ¬ ∀ x ∈ mem, t.axState x = .ready := by simp
    have hmoves : ms.all (fun (m : Nat × Int) => decide (m.2 = 0)) = true ↔ ¬ ∃ m ∈ ms, m.2 ≠ 0 := by simp
    have hshort : ms.any (fun (m : Nat × Int) => decide (8 < (memberPieces (t.axis m.1).prof.r m.2 shape).length)) = true ↔ ¬ short := by
      simp [short]
    have hidle : mem.any (fun x => (t.reqOwner x).isSome) = true ↔ ¬ ∀ x ∈ mem, t.reqOwner x = none := by
      simp [Option.isSome_iff_ne_none]
    have hone : mem.any (fun x => decide (t.parN 0x040001C3 x ≠ t.parN 0x040001C3 lead)) = true ↔ ¬ one := by simp [one]
    refine ⟨?form, ?notReady, ?rest, ?long, ?busy, ?groups, ?asks⟩
    case form =>
      exact fun bad hacts => (exec_host_takes (a := .refuse 0x0105 []) hexec hacts rfl (if_pos (hform.mpr bad)) :)
    case notReady =>
      intro ok ⟨x, hx, notReady⟩ hacts
      exact (exec_host_takes (a := .refuse 0x0301 []) hexec hacts rfl
        ((ite_passes hform ok).trans (if_pos (hready.mpr fun ready => notReady (ready x hx)))) :)
    case rest =>
      intro ok ready rest hacts
      exact (exec_host_takes (a := .ok t 0 []) hexec hacts rfl
        ((ite_passes hform ok).trans ((ite_passes hready ready).trans (if_pos (hmoves.mpr fun ⟨m, hm, moves⟩ => moves (rest m hm))))) :)
    case long =>
      intro ok ready moves long hacts
      exact (exec_host_takes (a := .refuse 0x0105 []) hexec hacts rfl
        ((ite_passes hform ok).trans ((ite_passes hready ready).trans ((ite_passes hmoves moves).trans (if_pos (hshort.mpr long))))) :)
    case busy =>
      intro ok ready moves short ⟨x, hx, busy⟩ hacts
      exact (exec_host_takes (a := .refuse 0x0303 []) hexec hacts rfl
        ((ite_passes hform ok).trans ((ite_passes hready ready).trans ((ite_passes hmoves moves).trans ((ite_passes hshort short).trans
          (if_pos (hidle.mpr fun idle => by simp [idle x hx] at busy)))))) :)
    case groups =>
      intro ok ready moves short idle apart hacts
      exact (exec_host_takes (a := .refuse 0x0408 []) hexec hacts rfl
        ((ite_passes hform ok).trans ((ite_passes hready ready).trans ((ite_passes hmoves moves).trans ((ite_passes hshort short).trans
          ((ite_passes hidle idle).trans (if_pos (hone.mpr apart))))))) :)
    case asks =>
      intro ok ready moves short idle together within hacts
      exact (exec_host_takes hexec hacts rfl
        ((ite_passes hform ok).trans ((ite_passes hready ready).trans ((ite_passes hmoves moves).trans ((ite_passes hshort short).trans
          ((ite_passes hidle idle).trans ((ite_passes hone together).trans (t.askStart_accepted c lead kind within))))))) :)

end Sys2Proof.Machine
end

section
/-! What a command that waited for the boundary leaves of the cycle (R418). -/

namespace Sys2Proof.Machine

/-- Whether what a command answers has the cycle of s. -/
def Ans.KeepsCyc (s : State) : Ans → Prop
  | .refuse _ _ => True
  | .ok t _ _ => t.cyc = s.cyc
  | .quiet t => t.cyc = s.cyc

@[simp] theorem Ans.keepsCyc_refuse (s : State) (st : Nat) (d : List Byte) : (Ans.refuse st d).KeepsCyc s := trivial

@[simp] theorem Ans.keepsCyc_ok (s t : State) (st : Nat) (d : List Byte) : (Ans.ok t st d).KeepsCyc s ↔ t.cyc = s.cyc := Iff.rfl

@[simp] theorem Ans.keepsCyc_quiet (s t : State) : (Ans.quiet t).KeepsCyc s ↔ t.cyc = s.cyc := Iff.rfl

@[simp] theorem Ans.keepsCyc_ite (s : State) (p : Prop) [Decidable p] (x y : Ans) :
    (if p then x else y).KeepsCyc s ↔ (p → x.KeepsCyc s) ∧ (¬ p → y.KeepsCyc s) := by
  split <;> simp [*]

theorem State.landLogged_cyc (s t : State) (c : CmdCtx) (k : Cmd) (fin : State → State) (ht : t.cyc = s.cyc)
    (hfin : (fin t).cyc = t.cyc) : (s.landLogged t c k fin).cyc = s.cyc := by
  unfold State.landLogged
  split
  · split
    · simp
    · split
      · exact hfin.trans ht
      · rfl
  · exact hfin.trans ht

/-- A host command changes the cycle only by what its body does. -/
theorem State.command_cyc (s : State) (c : CmdCtx) (k : Cmd) (lenOk : Bool) (body : State → Ans)
    (h : ∀ t, (body t).KeepsCyc t) : (s.command c k lenOk body).cyc = s.cyc := by
  have logged := h ((s.takeUp c).unlog c k.op)
  have checked := h (s.takeUp c)
  unfold State.command
  dsimp only
  split
  · cases hb : body ((s.takeUp c).unlog c k.op) <;> simp_all
  -- The six checks of R450 reply, and change nothing else.
  iterate 6
    split
    · simp
  cases hb : body (s.takeUp c) with
  | refuse st d => simp
  | ok t st d => exact (State.landLogged_cyc _ _ _ _ _ (by simpa [hb] using checked) (by simp)).trans (by simp)
  | quiet t => exact (State.landLogged_cyc _ _ _ _ _ (by simpa [hb] using checked) rfl).trans (by simp)

theorem State.hostAt_cyc {s t : State} {c : CmdCtx} {i : Instr} {k : Cmd} {lenOk : Bool} {body : State → Ans}
    (ht : s.hostAt c i k lenOk body = .next t) (h : ∀ u, (body u).KeepsCyc u) : t.cyc = s.cyc := by
  unfold State.hostAt State.host_ at ht
  split at ht <;> cases ht
  · simp
  · exact s.command_cyc c k lenOk body h

theorem State.runHeld_cyc (s : State) (i : Instr) : (s.runHeld i).cyc = s.cyc := by
  generalize hu : s.runHeld i = u
  unfold State.runHeld at hu
  dsimp only at hu
  split at hu
  · rename_i ht
    subst hu
    -- PAR_GET folds over its identifiers, PAR_INFO and MOV_READ look one record up; the other bodies are choices only.
    split at ht
    case h_6 ids =>
      refine State.hostAt_cyc ht fun u => ?_
      refine (Ans.keepsCyc_ite _ _ _ _).mpr ⟨fun _ => trivial, fun _ => State.foldl_cyc _ (fun v i => ?_) ids u⟩
      split <;> simp
    case h_7 =>
      refine State.hostAt_cyc ht fun u => ?_
      split <;> simp
    case h_10 =>
      refine State.hostAt_cyc ht fun u => ?_
      split <;> simp
    case h_21 => cases ht; rfl
    all_goals
      refine State.hostAt_cyc ht fun u => ?_
      simp
  · exact hu ▸ rfl

theorem State.takeBoundary_cyc (s : State) : s.takeBoundary.cyc = s.cyc := by
  unfold State.takeBoundary
  refine State.foldl_cyc _ (fun t q => ?_) _ _
  split
  · exact t.runHeld_cyc q.2
  · rfl

end Sys2Proof.Machine
end

section
/-! The commands of the control cycle and of its tasks (R13, R18 to R22, R94). -/

namespace Sys2Proof.Machine

open Sys2Proof.Claims

theorem exec_cycleStart (s : State) : exec .cycleStart s = execCycleStart s := rfl

theorem exec_localDispatch (s : State) : exec .localDispatch s = execLocalDispatch s := rfl

theorem exec_refSeal (s : State) : exec .refSeal s = execRefSeal s := rfl

theorem exec_engineDispatch (e : EngIx) (s : State) : exec (.engineDispatch e) s = execEngineDispatch e s := rfl

theorem exec_fbkRelease (a : AxisIx) (s : State) : exec (.fbkRelease a) s = execFbkRelease a s := rfl

theorem exec_axisDeadline (a : AxisIx) (s : State) : exec (.axisDeadline a) s = execAxisDeadline a s := rfl

theorem State.enterCycle_cyc (s : State) (k : Nat) : (s.enterCycle k).cyc.cycle = k ∧ (s.enterCycle k).cyc.running = true := by
  simp [State.enterCycle]

/-- A cycle start that is due enters the next cycle (R13). -/
theorem exec_cycleStart_due (s : State) (hsil : s.saf.silent = false) (hend : s.saf.endgame = none)
    (hrun : s.cyc.running = true ∨ (s.opening.phase = .segments ∧ s.surveysDone = true))
    (hdue : s.tCycle (if s.cyc.running then s.cyc.cycle + 1 else 0) ≤ s.now) :
    ∃ t, exec .cycleStart s = .next t ∧ t.cyc.cycle = s.nextCycle ∧ t.cyc.running = true := by
  rw [exec_cycleStart]
  have hgo : (!(s.cyc.running || (decide (s.opening.phase = .segments) && s.surveysDone)) ||
      decide (s.now < s.tCycle (if s.cyc.running then s.cyc.cycle + 1 else 0))) = false := by
    have := Int.not_lt.mpr hdue
    rcases hrun with h | ⟨h, h'⟩ <;> simp_all
  unfold execCycleStart
  simp only [hsil, hend, hgo, Option.isSome_none, Bool.or_self, Bool.false_eq_true, if_false]
  refine ⟨_, rfl, ?_⟩
  simp [State.takeBoundary_cyc, State.enterCycle_cyc]

/-- The control die is silent or in Endgame, no cycle can be the first, or the next one is not due. -/
theorem exec_cycleStart_waits (s : State) (h : (s.saf.silent = true ∨ s.saf.endgame ≠ none)
      ∨ (s.cyc.running = false ∧ s.opening.phase ≠ .segments) ∨ (s.cyc.running = true ∧ s.now < s.tCycle (s.cyc.cycle + 1))) :
    exec .cycleStart s = .next s := by
  rw [exec_cycleStart]
  unfold execCycleStart
  rcases h with h | ⟨hrun, hphase⟩ | ⟨hrun, hnow⟩
  · rw [if_pos (by simpa [Option.isSome_iff_ne_none] using h)]
  · simp [hrun, hphase]
  · simp [hrun, hnow]

/-- A dispatch that is due leaves the cycle dispatched (R18). -/
theorem exec_localDispatch_due (s : State) (hrun : s.cyc.running = true) (hdis : s.cyc.dispatched = false)
    (hdue : s.tCycle s.cyc.cycle + 400 ≤ s.now) :
    ∃ t, exec .localDispatch s = .next t ∧ t.cyc = { s.cyc with dispatched := true }
      ∧ (s.twin.standby = true → t = { s with cyc := { s.cyc with dispatched := true } }) := by
  have hgo : (s.cyc.running && !s.cyc.dispatched && decide (s.tCycle s.cyc.cycle + 400 ≤ s.now)) = true := by
    simp [hrun, hdis, hdue]
  rw [exec_localDispatch]
  unfold execLocalDispatch
  dsimp only
  rw [if_pos hgo]
  cases hst : s.twin.standby
  · refine ⟨_, rfl, ?_, by simp⟩
    refine (State.foldl_cyc _ (fun t a => ?_) _ _).trans (by simp)
    split
    · simp
    · rfl
  · exact ⟨_, rfl, rfl, fun _ => rfl⟩

theorem exec_localDispatch_waits (s : State)
    (h : s.cyc.running = false ∨ s.cyc.dispatched = true ∨ s.now < s.tCycle s.cyc.cycle + 400) : exec .localDispatch s = .next s := by
  rw [exec_localDispatch]
  unfold execLocalDispatch
  rcases h with h | h | h <;> simp [h]

/-- What a seal does before it marks its cycle as sealed: the axes, the plans, the starts, the SAF parts, the trains and the digests. -/
def State.sealWork (s : State) (k : Nat) : State :=
  let s1 := (List.range 256).foldl (fun s a => s.sealAxis k a) s
  let s2 := s1.noteTrains.alignStops k
  let s3 := (List.range 256).foldl (fun s a => if s.axisUsed a then s.flushPlan a k else s) s2
  let s4 := ((s3.startMoves k).sealArbiter k).settleStarts
  let s5 := s4.sealSaf.answerDemands
  let s6 := s5.closeTrain k
  (s6.sealDigests k).scsSeal k

theorem State.sealWork_cyc (s : State) (k : Nat) : (s.sealWork k).cyc = s.cyc := by
  simp [State.sealWork]

theorem State.sealWork_pending (s : State) (k : Nat) : (s.sealWork k).pending = s.pending := by
  simp [State.sealWork]

theorem State.sealWork_coreTicks (s : State) (k : Nat) : (s.sealWork k).coreTicks = s.coreTicks := by
  simp [State.sealWork]

theorem exec_refSeal_open (s : State) (hrun : s.cyc.running = true) (hdue : s.tCycle (s.cyc.cycle + 1) - 1000 ≤ s.now)
    (hopen : s.cyc.sealedFor ≠ some s.cyc.cycle) :
    exec .refSeal s = .next { s.sealWork s.cyc.cycle with
      cyc := { (s.sealWork s.cyc.cycle).cyc with sealedFor := some s.cyc.cycle } } := by
  have hgo : (!s.cyc.running || decide (s.now < s.tCycle (s.cyc.cycle + 1) - 1000) || decide (s.cyc.sealedFor = some s.cyc.cycle)) = false := by
    simp [hrun, hopen, hdue]
  rw [exec_refSeal]
  exact if_neg (by simp only [hgo, Bool.false_eq_true, not_false_eq_true])

/-- A seal that is due seals the cycle (R22). -/
theorem exec_refSeal_due (s : State) (hrun : s.cyc.running = true) (hdue : s.tCycle (s.cyc.cycle + 1) - 1000 ≤ s.now)
    (hopen : s.cyc.sealedFor ≠ some s.cyc.cycle) :
    ∃ t, exec .refSeal s = .next t ∧ t.cyc = { s.cyc with sealedFor := some s.cyc.cycle } ∧ t.pending = s.pending
      ∧ t.coreTicks = s.coreTicks := by
  -- The state before the mark is named, so that the kernel does not run the seal to read a field of its result.
  obtain ⟨u, hexec, hcyc, hpend, hticks⟩ : ∃ u : State, exec .refSeal s = .next { u with cyc := { u.cyc with sealedFor := some s.cyc.cycle } }
      ∧ u.cyc = s.cyc ∧ u.pending = s.pending ∧ u.coreTicks = s.coreTicks :=
    ⟨s.sealWork s.cyc.cycle, exec_refSeal_open s hrun hdue hopen, s.sealWork_cyc _, s.sealWork_pending _, s.sealWork_coreTicks _⟩
  exact ⟨_, hexec, by rw [hcyc], hpend, hticks⟩

theorem exec_refSeal_waits (s : State) (h : s.cyc.running = false ∨ s.now < s.tCycle (s.cyc.cycle + 1) - 1000
    ∨ s.cyc.sealedFor = some s.cyc.cycle) : exec .refSeal s = .next s := by
  rw [exec_refSeal]
  unfold execRefSeal
  rcases h with h | h | h <;> simp [h]

/-- An engine that the dispatcher can give a task (R19, R364). -/
def State.engineFree (s : State) (e : Nat) : Prop :=
  (s.engine e).inService = true ∧ (s.engine e).task = none ∧ (s.engine e).failed = false
    ∧ ∀ d, (s.engine e).testDue = some d → d ≤ s.coreTicks

theorem exec_engineDispatch_free (s : State) (e : EngIx) (t : ReadyTask) (h : s.engineFree e.val) (ht : s.nextTask = some t) :
    exec (.engineDispatch e) s = .next (s.startTask e.val t) := by
  obtain ⟨hin, htask, hfail, htest⟩ := h
  rw [exec_engineDispatch]
  unfold execEngineDispatch
  dsimp only
  cases hd : (s.engine e.val).testDue with
  | none => simp [hin, htask, hfail, ht]
  | some d => simp [hin, htask, hfail, ht, htest d hd]

theorem exec_engineDispatch_idle (s : State) (e : EngIx) (h : ¬ s.engineFree e.val ∨ s.nextTask = none) :
    exec (.engineDispatch e) s = .next s := by
  rw [exec_engineDispatch]
  unfold execEngineDispatch
  dsimp only
  rcases h with h | h
  · rw [if_neg]
    intro hfree
    apply h
    cases hd : (s.engine e.val).testDue <;> simp_all [State.engineFree]
  · simp [h]

section FbkRelease

variable {s : State} {a : AxisIx} {n : Nat} {r : SlotRec} {p : Nat × List Byte}

/-- The release phase of the due cycle has come, and its task is still to be released. -/
def State.releaseDue (s : State) (a : AxisIx) (grace : Nat) : Prop :=
  s.cyc.running = true ∧ s.twin.standby = false ∧ s.isReleased (.axis a) (s.dueCycle a.val) = false
    ∧ s.phaseReached a.val (s.dueCycle a.val) grace = true

/-- The frame of sample k − d makes the task of a network axis ready (R94). -/
theorem exec_fbkRelease_axis (hslot : s.axisSlot a.val useFbk = some (n, r))
    (hfresh : s.freshFrame n r (s.sampleOf a.val (s.dueCycle a.val)) = some p) (hdue : s.releaseDue a 0)
    (hline : s.isLineAxis a.val = false) (hnet : s.networkAxis a.val = true) :
    let m := s.sampleOf a.val (s.dueCycle a.val)
    let f := fbkOf p.2 p.1 m
    let taken := (s.dropWait n r m).takeFbk a.val f
    exec (.fbkRelease a) s = .next (taken.makeReady (.axis a) (s.dueCycle a.val) m f.measures (taken.remoteWindow a.val)) := by
  obtain ⟨hrun, hst, hrel, hph⟩ := hdue
  rw [exec_fbkRelease]
  simp [execFbkRelease, hslot, hfresh, hrun, hst, hrel, hph, hline, hnet]

/-- The frame of the line axis is the remote source of the line master. -/
theorem exec_fbkRelease_line (hslot : s.axisSlot a.val useFbk = some (n, r))
    (hfresh : s.freshFrame n r (s.sampleOf a.val (s.dueCycle a.val)) = some p) (hdue : s.releaseDue a 0)
    (hline : s.isLineAxis a.val = true) (hmeas : (fbkOf p.2 p.1 (s.sampleOf a.val (s.dueCycle a.val))).measures = true) :
    let m := s.sampleOf a.val (s.dueCycle a.val)
    exec (.fbkRelease a) s = .next { s.dropWait n r m with line := { (s.dropWait n r m).line with remote := fbkOf p.2 p.1 m } } := by
  obtain ⟨hrun, hst, hrel, hph⟩ := hdue
  rw [exec_fbkRelease]
  simp [execFbkRelease, hslot, hfresh, hrun, hst, hrel, hph, hline, hmeas]

theorem exec_fbkRelease_waits (h : s.axisSlot a.val useFbk = none ∨ ¬ s.releaseDue a 0) : exec (.fbkRelease a) s = .next s := by
  rw [exec_fbkRelease]
  unfold execFbkRelease
  dsimp only
  split
  · rfl
  · split
    · rfl
    · rw [if_neg]
      simp only [Bool.and_eq_true, Bool.not_eq_true', not_and]
      grind [State.releaseDue]

/-- The deadline makes the task ready without a measurement, and counts the frame that its slot did not bring (R20, R105). -/
theorem exec_axisDeadline_missed (hdue : s.releaseDue a (s.parN 0x01050001 0 * 100)) (hnet : s.networkAxis a.val = true)
    (hline : s.isLineAxis a.val = false) (hslot : s.axisSlot a.val useFbk = some (n, r))
    (hmux : s.sampleOf a.val (s.dueCycle a.val) % 2 ^ r.mux = r.phase) :
    let missed := (s.modNode n r.node (fun x => { x with missCnt := inc32 x.missCnt })).modSeg n (fun g => { g with missNow := g.missNow + 1 })
    let stale := missed.modAxis a.val (fun x => { x with fbk := { x.fbk with isNew := false } })
    exec (.axisDeadline a) s = .next (stale.makeReady (.axis a) (s.dueCycle a.val) (s.sampleOf a.val (s.dueCycle a.val)) false
      (stale.remoteWindow a.val)) := by
  obtain ⟨hrun, hst, hrel, hph⟩ := hdue
  rw [exec_axisDeadline]
  simp [execAxisDeadline, hslot, hrun, hst, hrel, hph, hline, hnet, hmux]

theorem exec_axisDeadline_waits (h : ¬ s.releaseDue a (s.parN 0x01050001 0 * 100) ∨ s.networkAxis a.val = false
    ∨ s.isLineAxis a.val = true) : exec (.axisDeadline a) s = .next s := by
  rw [exec_axisDeadline]
  unfold execAxisDeadline
  dsimp only
  rw [if_neg]
  rcases h with h | h | h
  · grind [State.releaseDue]
  · simp [h]
  · simp [h]

end FbkRelease

/-- Settles O38: each event of the cycle where it is due and where it waits, the frames of the operations giving the cycle it leaves. -/
theorem cyclesAndTasks : Obligations.CyclesAndTasks := by
  unfold Obligations.CyclesAndTasks
  constructor
  · intro s
    refine ⟨?next, ?first, ?early, ?still, ?dispatch, ?noDispatch, ?refSeal, ?noSeal⟩
    case next =>
      rintro ⟨hsil, hend⟩ hrun hdue
      obtain ⟨t, ht, hk, hr⟩ := exec_cycleStart_due s hsil hend (.inl hrun) (by simpa [hrun] using hdue)
      exact ⟨t, ht, by simpa [State.nextCycle, hrun] using hk, hr⟩
    case first =>
      rintro ⟨hsil, hend⟩ hrun hphase hsur hdue
      obtain ⟨t, ht, hk, hr⟩ := exec_cycleStart_due s hsil hend (.inr ⟨hphase, hsur⟩) (by simpa [hrun] using hdue)
      exact ⟨t, ht, by simpa [State.nextCycle, hrun] using hk, hr⟩
    case early =>
      exact fun _ hrun hnow => exec_cycleStart_waits s (.inr (.inr ⟨hrun, hnow⟩))
    case still =>
      rintro (hheld | hfirst)
      · exact exec_cycleStart_waits s (.inl (by simpa [imp_iff_not_or] using hheld))
      · exact exec_cycleStart_waits s (.inr (.inl hfirst))
    case dispatch =>
      intro hrun hdis hdue
      obtain ⟨t, ht, hcyc, hst⟩ := exec_localDispatch_due s hrun hdis hdue
      exact ⟨t, ht, by rw [hcyc], by rw [hcyc], hst⟩
    case noDispatch => exact exec_localDispatch_waits s
    case refSeal =>
      intro hrun hdue hopen
      obtain ⟨t, ht, hcyc, hpend, hticks⟩ := exec_refSeal_due s hrun hdue hopen
      exact ⟨t, ht, by rw [hcyc], by rw [hcyc], hpend, hticks⟩
    case noSeal => exact exec_refSeal_waits s
  · intro s e a n m r p t
    refine ⟨?starts, ?idle, ?axis, ?line, ?noRelease, ?missed, ?noDeadline⟩
    case starts => exact exec_engineDispatch_free s e t
    case idle => exact exec_engineDispatch_idle s e
    case axis =>
      rintro hslot hfresh rfl ⟨hrun, hst, hrel⟩ hph hline hnet
      exact exec_fbkRelease_axis hslot hfresh ⟨hrun, hst, hrel, hph⟩ hline hnet
    case line =>
      rintro hslot hfresh rfl ⟨hrun, hst, hrel⟩ hph hline hmeas
      exact exec_fbkRelease_line hslot hfresh ⟨hrun, hst, hrel, hph⟩ hline hmeas
    case noRelease =>
      rintro (h | h)
      · exact exec_fbkRelease_waits (.inl h)
      · refine exec_fbkRelease_waits (.inr fun hdue => ?_)
        obtain ⟨hrun, hst, hrel, -⟩ := hdue
        simp_all
    case missed =>
      rintro ⟨hrun, hst, hrel⟩ hph hnet hline hslot hmux
      exact exec_axisDeadline_missed ⟨hrun, hst, hrel, hph⟩ hnet hline hslot hmux
    case noDeadline =>
      refine fun h => exec_axisDeadline_waits (h.imp_left fun hopen hdue => hopen ?_)
      obtain ⟨hrun, hst, hrel, -⟩ := hdue
      exact ⟨hrun, hst, hrel⟩

end Sys2Proof.Machine
end

section
/-! The dispatcher's order and the start of a task (R19, R169). -/

namespace Sys2Proof.Machine

open Sys2Proof.Claims

/-! What the parts of the library's chain leave of the engines: they write the context block and the learner pool. -/

@[simp] theorem State.setCtx_engines (s : State) (a off : Nat) (v : Int) : (s.setCtx a off v).eng.eng = s.eng.eng := rfl

@[simp] theorem State.setUHist_engines (s : State) (a c : Nat) (v : Int) : (s.setUHist a c v).eng.eng = s.eng.eng := rfl

@[simp] theorem State.setRHist_engines (s : State) (a c : Nat) (v : Int) : (s.setRHist a c v).eng.eng = s.eng.eng := rfl

@[simp] theorem State.setBin_engines (s : State) (a i : Nat) (v : Int) : (s.setBin a i v).eng.eng = s.eng.eng := rfl

@[simp] theorem State.setCtxs_engines (s : State) (a off : Nat) (vs : List Int) : (s.setCtxs a off vs).eng.eng = s.eng.eng := by
  induction vs generalizing s off with
  | nil => rfl
  | cons v vs ih => simp [State.setCtxs, ih]

/-- A fold whose steps leave the engines leaves the engines. -/
theorem State.foldl_engines {α : Type} (f : State → α → State) (hf : ∀ s x, (f s x).eng.eng = s.eng.eng) (xs : List α) (s : State) :
    (xs.foldl f s).eng.eng = s.eng.eng := by
  induction xs generalizing s with
  | nil => rfl
  | cons x xs ih => exact (ih (f s x)).trans (hf s x)

@[simp] theorem State.lawSats_engines (s : State) (a : Nat) (moves adds : List Bool) : (s.lawSats a moves adds).eng.eng = s.eng.eng := by
  unfold State.lawSats
  dsimp only
  simp

@[simp] theorem State.moveOrigin_engines (s : State) (a np d : Nat) (ra : Int) : (s.moveOrigin a np d ra).eng.eng = s.eng.eng := by
  unfold State.moveOrigin
  dsimp only
  split
  · exact (State.foldl_engines _ (fun _ _ => State.setCtx_engines _ _ _ _) _ _).trans (by simp)
  · rfl

@[simp] theorem State.sf8_engines (s : State) (a k : Nat) (isNew : Bool) (fpos ra va acca : Int) :
    (s.sf8 a k isNew fpos ra va acca).1.eng.eng = s.eng.eng := by
  simp [State.sf8]

@[simp] theorem State.cfSection_engines (s : State) (a i : Nat) (x : Int) : (s.cfSection a i x).1.eng.eng = s.eng.eng := by
  simp [State.cfSection]

theorem State.cfSections_engines (a : Nat) (is : List Nat) (p : State × Int) :
    (is.foldl (fun (p : State × Int) i => p.1.cfSection a i p.2) p).1.eng.eng = p.1.eng.eng := by
  induction is generalizing p with
  | nil => rfl
  | cons i is ih => simp [ih]

@[simp] theorem State.cf4_engines (s : State) (a k : Nat) (va acca : Int) : (s.cf4 a k va acca).1.eng.eng = s.eng.eng := by
  unfold State.cf4
  dsimp only
  split
  · simp
  · simp [State.cfSections_engines]

@[simp] theorem State.zeroOrigin_engines (s : State) (a : Nat) : (s.zeroOrigin a).eng.eng = s.eng.eng := by
  unfold State.zeroOrigin
  split <;> simp

@[simp] theorem State.initLaw_engines (s : State) (a n : Nat) : (s.initLaw a n).eng.eng = s.eng.eng := by
  unfold State.initLaw
  dsimp only
  split
  · simp
  · simp only [State.modLaw_frame, State.modProf_frame]
    exact (State.foldl_engines _ (fun _ _ => State.setCtxs_engines _ _ _ _) _ _).trans (by simp)

@[simp] theorem State.followError_engines (s : State) (a : Nat) (t : ReadyTask) : (s.followError a t).eng.eng = s.eng.eng := by
  unfold State.followError
  dsimp only
  split
  · split <;> simp
  · rfl

@[simp] theorem State.runLaw_engines (s : State) (a : Nat) (t : ReadyTask) : (s.runLaw a t).1.eng.eng = s.eng.eng := by
  unfold State.runLaw
  dsimp only
  split <;> simp

@[simp] theorem State.runLearner_engines (s : State) (a : Nat) (t : ReadyTask) : (s.runLearner a t).1.eng.eng = s.eng.eng := by
  unfold State.runLearner
  dsimp only
  split <;> simp [State.lrnUpdate]

@[simp] theorem State.commitServo_engines (s : State) (a tag : Nat) (u : Int) : (s.commitServo a tag u).eng.eng = s.eng.eng := by
  unfold State.commitServo
  dsimp only
  split
  all_goals split <;> simp

/-! A task that has started runs on its engine. -/

/-- Engine e runs a task. -/
def State.runsTask (s : State) (e : Nat) : Bool := (s.engine e).task.isSome

theorem State.runsTask_congr {s u : State} (e : Nat) (h : u.eng.eng = s.eng.eng) : u.runsTask e = s.runsTask e := by
  simp only [State.runsTask, State.engine, h]

@[simp] theorem State.runsTask_putEntry (s : State) (e : Nat) (r : RefEntry) : (s.putEntry e r).runsTask e = s.runsTask e := by
  simp [State.runsTask, State.putEntry]

@[simp] theorem State.runsTask_servoTask (s : State) (e a tag : Nat) (t : ReadyTask) : (s.servoTask e a tag t).runsTask e = s.runsTask e := by
  unfold State.servoTask
  dsimp only
  exact (State.runsTask_putEntry _ e _).trans (State.runsTask_congr e (by simp))

@[simp] theorem State.runsTask_stepperTask (s : State) (e a tag : Nat) (t : ReadyTask) :
    (s.stepperTask e a tag t).runsTask e = s.runsTask e := by
  unfold State.stepperTask
  dsimp only
  refine (State.runsTask_putEntry _ e _).trans (State.runsTask_congr e ?_)
  split
  all_goals split <;> simp

/-- The library's chain writes the output window of its engine, and the engine runs its task on. -/
theorem State.runsTask_axisChain (s : State) (e a : Nat) (t : ReadyTask) : (s.axisChain e a t).runsTask e = s.runsTask e := by
  unfold State.axisChain
  dsimp only
  split
  · exact (State.runsTask_putEntry _ e _).trans (State.runsTask_congr e (by simp))
  · split
    · refine (State.runsTask_stepperTask _ e a _ t).trans (State.runsTask_congr e ?_)
      split <;> simp
    · split
      · refine (State.runsTask_putEntry _ e _).trans (State.runsTask_congr e ?_)
        split <;> simp
      · refine (State.runsTask_servoTask _ e a _ t).trans (State.runsTask_congr e ?_)
        split <;> simp

@[simp] theorem State.runsTask_modLaw (s : State) (e a : Nat) (f : LawSt → LawSt) : (s.modLaw a f).runsTask e = s.runsTask e :=
  State.runsTask_congr e (by simp)

@[simp] theorem State.runsTask_writeDeviceWords (s : State) (e a : Nat) : (s.writeDeviceWords a).runsTask e = s.runsTask e :=
  State.runsTask_congr e (by simp)

@[simp] theorem State.runsTask_stick (s : State) (e i : Nat) (b : Bool) :
    (s.modEngine e (fun x => x.stick i b)).runsTask e = s.runsTask e := by
  rw [State.runsTask, State.modEngine_eq, State.setEngine_self, Engine.stick]
  split <;> rfl

@[simp] theorem State.runsTask_modEngine (s : State) (e : Nat) (f : Engine → Engine) :
    (s.modEngine e f).runsTask e = (f (s.engine e)).task.isSome := by
  simp [State.runsTask]

theorem State.startTask_runsTask (s : State) (e : Nat) (t : ReadyTask) : (s.startTask e t).runsTask e = true := by
  unfold State.startTask
  dsimp only
  cases t.owner with
  | line => exact State.runsTask_modEngine _ e _
  | axis a =>
    dsimp only
    split
    case isTrue =>
      rw [State.runsTask_writeDeviceWords]
      split
      case isTrue => rw [State.runsTask_stick, State.runsTask_axisChain, State.runsTask_modLaw, State.runsTask_modEngine]; rfl
      case isFalse => rw [State.runsTask_axisChain, State.runsTask_modLaw, State.runsTask_modEngine]; rfl
    case isFalse => exact State.runsTask_modEngine _ e _

/-! The order of R19. -/

theorem State.taskBefore_line {s : State} {v u : ReadyTask} (h : s.taskBefore v u = true) (hu : u.owner = .line) : v.owner = .line := by
  cases hv : v.owner with
  | line => rfl
  | axis a => simp [State.taskBefore, hv, hu] at h

theorem State.taskBefore_axis {s : State} {v u : ReadyTask} {a b : AxisIx} (h : s.taskBefore v u = true) (hv : v.owner = .axis a)
    (hu : u.owner = .axis b) : s.taskSeal v < s.taskSeal u ∨ (s.taskSeal v = s.taskSeal u ∧ a ≤ b) := by
  simpa [State.taskBefore, hv, hu] using h

theorem State.taskBefore_total (s : State) (x y : ReadyTask) : s.taskBefore x y = true ∨ s.taskBefore y x = true := by
  cases hx : x.owner with
  | line =>
    cases hy : y.owner with
    | line => simpa [State.taskBefore, hx, hy] using Nat.le_total x.cycle y.cycle
    | axis b => simp [State.taskBefore, hx, hy]
  | axis a =>
    cases hy : y.owner with
    | line => simp [State.taskBefore, hx, hy]
    | axis b =>
      simp only [State.taskBefore, hx, hy, Bool.or_eq_true, Bool.and_eq_true, decide_eq_true_eq, Fin.le_def]
      omega

theorem State.taskBefore_trans (s : State) (x y z : ReadyTask) (hxy : s.taskBefore x y = true) (hyz : s.taskBefore y z = true) :
    s.taskBefore x z = true := by
  cases hz : z.owner with
  | line =>
    have hy := State.taskBefore_line hyz hz
    have hx := State.taskBefore_line hxy hy
    simp only [State.taskBefore, hx, hy, hz, decide_eq_true_eq] at *
    omega
  | axis c =>
    cases hx : x.owner with
    | line => simp [State.taskBefore, hx, hz]
    | axis a =>
      cases hy : y.owner with
      | line => exact absurd (State.taskBefore_line hxy hy) (by simp [hx])
      | axis b =>
        have hab := State.taskBefore_axis hxy hx hy
        have hbc := State.taskBefore_axis hyz hy hz
        simp only [State.taskBefore, hx, hz, Bool.or_eq_true, Bool.and_eq_true, decide_eq_true_eq, Fin.le_def] at *
        omega

/-- Of the task kept so far and one more, the one that R19 puts first. -/
def State.keepFirst (s : State) (b : Option ReadyTask) (t : ReadyTask) : Option ReadyTask :=
  match b with
  | none => some t
  | some u => if s.taskBefore u t then some u else some t

theorem State.nextTask_eq (s : State) : s.nextTask = (s.eng.ready.filter (fun t => s.mayStart t)).foldl s.keepFirst none := rfl

/-- A fold that keeps the one of two that comes before ends with one that comes before all. -/
theorem foldl_least {α : Type} {before : α → α → Bool} (total : ∀ x y, before x y = true ∨ before y x = true)
    (trans : ∀ x y z, before x y = true → before y z = true → before x z = true) {f : Option α → α → Option α}
    (hf : ∀ u t, f (some u) t = if before u t then some u else some t) (ts : List α) (u : α) :
    ∃ v, ts.foldl f (some u) = some v ∧ v ∈ u :: ts ∧ ∀ w ∈ u :: ts, before v w = true := by
  induction ts generalizing u with
  | nil => exact ⟨u, rfl, by simp, by simpa using total u u⟩
  | cons t ts ih =>
    rw [List.foldl_cons, hf]
    by_cases hut : before u t = true
    · obtain ⟨v, hv, hmem, hle⟩ := ih u
      refine ⟨v, by rw [if_pos hut, hv], by grind, ?_⟩
      have hvu : before v u = true := hle u (by simp)
      grind
    · obtain ⟨v, hv, hmem, hle⟩ := ih t
      refine ⟨v, by rw [if_neg hut, hv], by grind, ?_⟩
      have hvt : before v t = true := hle t (by simp)
      have htu : before t u = true := (total u t).resolve_left hut
      grind

/-- Where a task may start, the dispatcher chooses one of R19's first. -/
theorem State.nextTask_least (s : State) (u : ReadyTask) (hu : u ∈ s.eng.ready) (hmay : s.mayStart u = true) :
    ∃ v, s.nextTask = some v ∧ v ∈ s.eng.ready ∧ s.mayStart v = true ∧ s.taskBefore v u = true := by
  have hmem : u ∈ s.eng.ready.filter (fun t => s.mayStart t) := List.mem_filter.mpr ⟨hu, hmay⟩
  rw [State.nextTask_eq]
  cases hl : s.eng.ready.filter (fun t => s.mayStart t) with
  | nil => rw [hl] at hmem; cases hmem
  | cons t ts =>
    obtain ⟨v, hv, hin, hle⟩ := foldl_least s.taskBefore_total s.taskBefore_trans (f := s.keepFirst) (fun _ _ => rfl) ts t
    have hready := hl ▸ hin
    exact ⟨v, hv, (List.mem_filter.mp hready).1, (List.mem_filter.mp hready).2, hle u (hl ▸ hmem)⟩

/-- Settles O39: the dispatcher's fold ends with a task that R19 puts before every other, and its engine runs it. -/
theorem tasksStartInOrder : Obligations.TasksStartInOrder := by
  unfold Obligations.TasksStartInOrder
  intro s e t u
  refine ⟨?chosen, s.startTask_runsTask e.val t⟩
  intro hfree hready
  obtain ⟨v, hnext, hin, hmay, hbefore⟩ := s.nextTask_least u hready.1 hready.2
  exact ⟨v, exec_engineDispatch_free s e v hfree hnext, ⟨hin, hmay⟩, State.taskBefore_line hbefore,
    fun a b => State.taskBefore_axis hbefore⟩

end Sys2Proof.Machine
end

section
/-! Parameter access and the coefficients of an axis (R40, R154, R204, R441 to R446). -/

namespace Sys2Proof.Machine

open Sys2Proof.Claims

/-! A host command that AT_BOUNDARY can delay, with its length check (R418). -/

section HostCommandShapes

variable {s : State} {c : CmdCtx} {i : Instr} {k : Cmd} {lenOk : Bool} {body : State → Ans}

/-- A command that does not wait for the boundary is the plain host command (R418). -/
theorem exec_host_of_hostAt (hi : exec i s = s.hostAt c i k lenOk body) (h : Takes s c k.op k.need k.expert k.move k.logged)
    (hb : boundaryOp k.op = true) : exec i s = s.host_ c k lenOk body := by
  obtain ⟨-, -, -, -, -, -, -, hwait⟩ := h
  rw [hi, State.hostAt, hwait hb]
  rfl

end HostCommandShapes

/-- The length limit of a packet, as the statements write it (R413, R415). -/
theorem State.perPacket_eq (s : State) (c : CmdCtx) (ring udp : Nat) :
    s.perPacket c ring udp = if ((s.takeUp c).session c.slot.val).source = .pcie then ring else udp := by
  obtain ⟨hses, -⟩ := s.takeUp_facts c
  rw [hses, State.perPacket]
  cases (s.session c.slot.val).source <;> simp

/-! PAR_GET and PAR_INFO (R443, R446). -/

theorem exec_parGet (c : CmdCtx) (ids : List (BitVec 32)) (s : State) : exec (.parGet c ids) s = execParGet c ids s := rfl

theorem exec_parInfo (c : CmdCtx) (id : BitVec 32) (s : State) : exec (.parInfo c id) s = execParInfo c id s := rfl

section ParGet

variable {s : State} {c : CmdCtx} {ids : List (BitVec 32)}

theorem parGet_lenOk_iff : (decide (1 ≤ ids.length) && decide (ids.length ≤ s.perPacket c 13 89)) = true
    ↔ 1 ≤ ids.length ∧ ids.length ≤ if ((s.takeUp c).session c.slot.val).source = .pcie then 13 else 89 := by
  rw [s.perPacket_eq c]
  simp

theorem exec_parGet_badLength (hreads : Reads s c 0x0301 1)
    (hlen : ¬ (1 ≤ ids.length ∧ ids.length ≤ if ((s.takeUp c).session c.slot.val).source = .pcie then 13 else 89)) :
    Replies (.parGet c ids) s c 0x0301 0x0101 [] (s.takeUp c) :=
  (exec_host_badLength (exec_host_of_hostAt (exec_parGet c ids s) hreads rfl) hreads
    (Bool.eq_false_iff.mpr (mt parGet_lenOk_iff.mp hlen)) :)

theorem exec_parGet_badId (hreads : Reads s c 0x0301 1)
    (hlen : 1 ≤ ids.length ∧ ids.length ≤ if ((s.takeUp c).session c.slot.val).source = .pcie then 13 else 89)
    (hid : ∃ j ∈ ids, objOf j.toNat = none) : Replies (.parGet c ids) s c 0x0301 0x0106 [] (s.takeUp c) :=
  (exec_host_takes (a := .refuse 0x0106 []) (exec_host_of_hostAt (exec_parGet c ids s) hreads rfl) hreads
    (parGet_lenOk_iff.mpr hlen) (if_pos (by simpa using hid)) :)

/-- Every value is of the state before, and what clears on read clears then. -/
theorem exec_parGet_done (hreads : Reads s c 0x0301 1)
    (hlen : 1 ≤ ids.length ∧ ids.length ≤ if ((s.takeUp c).session c.slot.val).source = .pcie then 13 else 89)
    (hid : ∀ j ∈ ids, (objOf j.toNat).isSome = true) :
    Replies (.parGet c ids) s c 0x0301 0 (ids.flatMap (fun j => (s.takeUp c).item j.toNat))
      (ids.foldl (fun (u : State) j => (objOf j.toNat).elim u u.afterRead) (s.takeUp c)) := by
  have hknown : ¬ ids.any (fun j => (objOf j.toNat).isNone) = true := by
    simpa [Option.isSome_iff_ne_none] using hid
  have hfold : (fun (u : State) (j : BitVec 32) => (objOf j.toNat).elim u u.afterRead) = fun u j => match objOf j.toNat with
      | none => u
      | some o => u.afterRead o := by
    funext u j
    cases objOf j.toNat <;> rfl
  rw [hfold]
  exact (exec_host_takes (exec_host_of_hostAt (exec_parGet c ids s) hreads rfl) hreads (parGet_lenOk_iff.mpr hlen) (if_neg hknown) :)

end ParGet

theorem exec_parInfo_done {s : State} {c : CmdCtx} {id : BitVec 32} {r : ParamRow} {i : Nat} (hreads : Reads s c 0x0303 1)
    (hrow : paramFind id.toNat = some (r, i)) :
    Replies (.parInfo c id) s c 0x0303 0 (infoBytes r id.toNat) (s.takeUp c) :=
  (exec_host_takes (a := .ok (s.takeUp c) 0 (infoBytes r id.toNat)) (exec_host_of_hostAt (exec_parInfo c id s) hreads rfl) hreads rfl
    (by simp only [hrow]; rfl) :)

theorem exec_parInfo_badId {s : State} {c : CmdCtx} {id : BitVec 32} (hreads : Reads s c 0x0303 1) (hrow : paramFind id.toNat = none) :
    Replies (.parInfo c id) s c 0x0303 0x0106 [] (s.takeUp c) :=
  (exec_host_takes (a := .refuse 0x0106 []) (exec_host_of_hostAt (exec_parInfo c id s) hreads rfl) hreads rfl
    (by simp only [hrow]; rfl) :)

/-! PAR_SET and the writes of status words (R444). -/

theorem exec_parSet (c : CmdCtx) (item : ParItem) (s : State) : exec (.parSet c item) s = execParSet c item s := rfl

theorem exec_statusW1cWrite (c : CmdCtx) (item : ParItem) (s : State) :
    exec (.statusW1cWrite c item) s = execStatusW1cWrite c item s := rfl

theorem exec_switchBackRequest (c : CmdCtx) (s : State) : exec (.switchBackRequest c) s = s.statusWrite c 0x041101D8 0x10000000 := rfl

theorem exec_disagreeClear (c : CmdCtx) (s : State) : exec (.disagreeClear c) s = s.statusWrite c 0x041101D8 0x20000000 := rfl

theorem exec_puClear (c : CmdCtx) (o : Owner) (s : State) :
    exec (.puClear c o) s = s.statusWrite c (0x04000180 + ownerInst o * 4096) 0x10000000 := rfl

/-- The write waits in the queue of the taken-up command's state. -/
theorem State.queuePar_takeUp (s : State) (c : CmdCtx) (id : Nat) (v : Int) : (s.takeUp c).queuePar c id v
    = { s.takeUp c with host := { (s.takeUp c).host with
        parQueue := (s.takeUp c).host.parQueue ++ [{ ctx := c, id := id, value := v, cycle := s.cyc.cycle }] } } := by
  simp [State.queuePar]

section ParSet

variable {s : State} {c : CmdCtx} {item : ParItem} {st : Nat} {v : Int}

theorem exec_parSet_refused (htakes : Takes s c 0x0302 3 (parExpert item) true true) (hcheck : (s.takeUp c).parCheck item = .error st) :
    Replies (.parSet c item) s c 0x0302 st [] (s.takeUp c) :=
  (exec_host_takes (a := .refuse st []) (exec_parSet c item s) htakes rfl (by simp only [hcheck]) :)

theorem exec_parSet_waits (htakes : Takes s c 0x0302 3 (parExpert item) true true) (hcheck : (s.takeUp c).parCheck item = .ok v) :
    Leaves (.parSet c item) s ((s.takeUp c).queuePar c item.id.toNat v) :=
  (exec_host_takes (a := .quiet ((s.takeUp c).queuePar c item.id.toNat v)) (exec_parSet c item s) htakes rfl (by simp only [hcheck]) :)

theorem exec_statusW1cWrite_waits {x : ObjRow} {i : Nat} (htakes : Takes s c 0x0302 3 (parExpert item) true true)
    (hobj : objOf item.id.toNat = some (.word x i)) (hw1c : x.w1c ≠ 0) :
    Leaves (.statusW1cWrite c item) s ((s.takeUp c).queuePar c item.id.toNat (item.value.toNat % 4294967296 : Nat)) :=
  (exec_host_takes (a := .quiet ((s.takeUp c).queuePar c item.id.toNat (item.value.toNat % 4294967296 : Nat)))
    (exec_statusW1cWrite c item s) htakes rfl (by simp only [State.parCheck, hobj, if_neg hw1c]) :)

/-- A status word without a W1C bit is read-only. -/
theorem exec_statusW1cWrite_noW1c {x : ObjRow} {i : Nat} (htakes : Takes s c 0x0302 3 (parExpert item) true true)
    (hobj : objOf item.id.toNat = some (.word x i)) (hw1c : x.w1c = 0) :
    Replies (.statusW1cWrite c item) s c 0x0302 0x0107 [] (s.takeUp c) :=
  (exec_host_takes (a := .refuse 0x0107 []) (exec_statusW1cWrite c item s) htakes rfl
    (by simp only [State.parCheck, hobj, if_pos hw1c]; rfl) :)

theorem exec_statusW1cWrite_param {r : ParamRow} {i : Nat} (htakes : Takes s c 0x0302 3 (parExpert item) true true)
    (hobj : objOf item.id.toNat = some (.param r i)) : Replies (.statusW1cWrite c item) s c 0x0302 0x0107 [] (s.takeUp c) :=
  (exec_host_takes (a := .refuse 0x0107 []) (exec_statusW1cWrite c item s) htakes rfl (by simp only [hobj]; rfl) :)

theorem exec_statusWrite_waits {i : Instr} {id value : Nat} (hi : exec i s = s.statusWrite c id value) (hacts : Acts s c 0x0302 3) :
    Leaves i s ((s.takeUp c).queuePar c id value) :=
  (exec_host_takes (a := .quiet _) hi hacts rfl rfl :)

end ParSet

/-! PARAMETER_WRITE_LAND (R40, R444). -/

theorem exec_parameterWriteLand (s : State) : exec .parameterWriteLand s = execParameterWriteLand s := rfl

theorem exec_parameterWriteLand_all (s : State) (hpast : ∀ w ∈ s.host.parQueue, s.boundaryPast w.cycle = true) :
    Leaves .parameterWriteLand s (s.host.parQueue.foldl (State.landOne s.host.parQueue) { s with host := { s.host with parQueue := [] } }) := by
  have hready : s.host.parQueue.filter (fun w => s.boundaryPast w.cycle) = s.host.parQueue := List.filter_eq_self.mpr hpast
  have hlater : s.host.parQueue.filter (fun w => !s.boundaryPast w.cycle) = [] := by
    simpa [List.filter_eq_nil_iff] using hpast
  rw [Leaves, exec_parameterWriteLand, execParameterWriteLand, hready, hlater]

/-- No other write of the object at this boundary is of a lower slot. -/
def ParWrite.isFirst (ready : List ParWrite) (w : ParWrite) : Prop :=
  ∀ v ∈ ready, v.cycle = w.cycle → v.id = w.id → w.ctx.slot ≤ v.ctx.slot

theorem ParWrite.isFirst_iff (ready : List ParWrite) (w : ParWrite) :
    ready.all (fun (v : ParWrite) => decide (v.cycle ≠ w.cycle ∨ v.id ≠ w.id ∨ w.ctx.slot ≤ v.ctx.slot)) = true ↔ w.isFirst ready := by
  simp only [List.all_eq_true, decide_eq_true_eq, ParWrite.isFirst, imp_iff_not_or]

theorem State.landOne_first {ready : List ParWrite} {s : State} {w : ParWrite} (h : w.isFirst ready) :
    State.landOne ready s w = (if s.landStatus w.id w.value = 0 then s.landWrite w.id w.value else s).replyLater w.ctx 0x0302
      (s.landStatus w.id w.value) [] :=
  if_pos ((ParWrite.isFirst_iff ready w).mpr h)

theorem State.landOne_conflict {ready : List ParWrite} {s : State} {w : ParWrite} (h : ¬ w.isFirst ready) :
    State.landOne ready s w = s.replyLater w.ctx 0x0302 0x0310 [] :=
  if_neg (mt (ParWrite.isFirst_iff ready w).mp h)

theorem State.landStatus_param {s : State} {id : Nat} {v : Int} {r : ParamRow} {i : Nat} (h : objOf id = some (.param r i)) :
    s.landStatus id v = (s.writeStatus r i v).getD 0 := by
  simp only [State.landStatus, h]
  rfl

theorem State.landStatus_word {s : State} {id : Nat} {v : Int} {x : ObjRow} {i : Nat} (h : objOf id = some (.word x i)) :
    s.landStatus id v = 0 := by
  simp only [State.landStatus, h]
  rfl

theorem State.landWrite_word {s : State} {id : Nat} {v : Int} {x : ObjRow} {i : Nat} (h : objOf id = some (.word x i)) :
    s.landWrite id v = s.w1c x.base i (v.toNat &&& x.w1c) := by
  simp only [State.landWrite, h]

theorem State.w1c_line (s : State) (i mask : Nat) : s.w1c 0x041101D8 i mask = s.lineW1c mask := by
  simp [State.w1c]

theorem State.w1c_feedback (s : State) (i mask : Nat) : s.w1c 0x04000180 i mask = s.fbW1c (ownerAt i) mask := by
  simp [State.w1c]

/-! The checks of a write, in the order of R450. -/

/-- The state that a parameter write would leave: the one in force, and the one that the next Opening brings (log 144). -/
def State.writtenNext (s : State) (r : ParamRow) (i : Nat) (v : Int) : State := s.planned.setPar (r.base + i * 4096) v

def State.writtenNow (s : State) (r : ParamRow) (i : Nat) (v : Int) : State :=
  if heldForOpening r = true then s.writtenNext r i v else s.setPar (r.base + i * 4096) v

section WriteStatus

variable {s : State} {r : ParamRow} {i : Nat} {v : Int}

theorem State.writeStatus_badValue (hv : r.admits v = false) : s.writeStatus r i v = some 0x0105 := by
  simp [State.writeStatus, hv, stBadValue]

theorem State.writeStatus_badId (hv : r.admits v = true) (hnamed : ¬ (r.base = 0x0A100001 → probeOk v.toNat = true)) :
    s.writeStatus r i v = some 0x0106 := by
  obtain ⟨hbase, hprobe⟩ := Classical.not_imp.mp hnamed
  simp [State.writeStatus, hv, hbase, Bool.eq_false_iff.mpr hprobe, stBadId]

/-- The status of a write whose value is in range and names a channel that can be probed. -/
theorem State.writeStatus_named (hv : r.admits v = true) (hnamed : r.base = 0x0A100001 → probeOk v.toNat = true) :
    s.writeStatus r i v = if isSafetyId r.base then some stSafetyParam
      else if !(s.writtenNow r i v).joined r.base i || !(s.writtenNext r i v).joined r.base i then some stBadComb
      else if !r.live && !s.stopped r.base i then some stNotStopped
      else match (s.writtenNow r i v).writeState r.base i with
        | some st => some st
        | none => (((s.writtenNow r i v).writeRoom r.base i).orElse (fun _ => (s.writtenNext r i v).writeRoom r.base i)) := by
  have hprobe : ¬ (r.base = 0x0A100001 ∧ probeOk v.toNat = false) := by
    rintro ⟨hbase, hbad⟩
    simp [hnamed hbase] at hbad
  simp only [State.writeStatus, hv, if_neg hprobe]
  rfl

/-- The value fits those in force and those held for the next Opening. -/
def State.writeFits (s : State) (r : ParamRow) (i : Nat) (v : Int) : Prop :=
  (s.writtenNow r i v).joined r.base i = true ∧ (s.writtenNext r i v).joined r.base i = true

theorem State.writeFits_iff : ¬ s.writeFits r i v ↔
    (!(s.writtenNow r i v).joined r.base i || !(s.writtenNext r i v).joined r.base i) = true := by
  simp [State.writeFits, imp_iff_not_or]

theorem State.writeStatus_badComb (hv : r.admits v = true) (hnamed : r.base = 0x0A100001 → probeOk v.toNat = true)
    (hsafety : isSafetyId r.base = false) (hfits : ¬ s.writeFits r i v) : s.writeStatus r i v = some 0x0108 := by
  rw [State.writeStatus_named hv hnamed, hsafety]
  exact if_pos (State.writeFits_iff.mp hfits)

theorem State.writeStatus_fits (hv : r.admits v = true) (hnamed : r.base = 0x0A100001 → probeOk v.toNat = true)
    (hsafety : isSafetyId r.base = false) (hfits : s.writeFits r i v) :
    s.writeStatus r i v = if !r.live && !s.stopped r.base i then some 0x0302
      else match (s.writtenNow r i v).writeState r.base i with
        | some st => some st
        | none => (((s.writtenNow r i v).writeRoom r.base i).orElse (fun _ => (s.writtenNext r i v).writeRoom r.base i)) := by
  rw [State.writeStatus_named hv hnamed, hsafety]
  exact if_neg (mt State.writeFits_iff.mpr (not_not.mpr hfits))

theorem State.writeStatus_passes (hv : r.admits v = true) (hnamed : r.base = 0x0A100001 → probeOk v.toNat = true)
    (hsafety : isSafetyId r.base = false) (hfits : s.writeFits r i v) (hmay : r.live = true ∨ s.stopped r.base i = true)
    (hstate : (s.writtenNow r i v).writeState r.base i = none) (hroom : (s.writtenNow r i v).writeRoom r.base i = none)
    (hroomNext : (s.writtenNext r i v).writeRoom r.base i = none) : s.writeStatus r i v = none := by
  have hgo : (!r.live && !s.stopped r.base i) = false := by
    rcases hmay with h | h <;> simp [h]
  rw [State.writeStatus_fits hv hnamed hsafety hfits, hgo]
  simp [hstate, hroom, hroomNext]

end WriteStatus

/-! The context block of an axis (R154, R204). -/

theorem exec_axCoefWrite (c : CmdCtx) (axis off : BitVec 16) (v : Word48) (s : State) :
    exec (.axCoefWrite c axis off v) s = execAxCoefWrite c axis off v s := rfl

theorem exec_axCoefRead (c : CmdCtx) (axis off : BitVec 16) (n : BitVec 8) (s : State) :
    exec (.axCoefRead c axis off n) s = execAxCoefRead c axis off n s := rfl

theorem exec_coefWriteLand (a : AxisIx) (s : State) : exec (.coefWriteLand a) s = execCoefWriteLand a s := rfl

theorem axisArg_of_lt {axis : BitVec 16} (h : axis.toNat < 256) : axisArg axis = true := decide_eq_true h

section Coefficients

variable {s : State} {c : CmdCtx} {axis off : BitVec 16} {v : Word48} {n : BitVec 8}

/-- A word that nobody writes, or a negative torque limit. -/
def coefRefused (off : BitVec 16) (v : Word48) : Prop := coefAccess off.toNat = 0 ∨ (off = 0x73 ∧ v.toInt < 0)

theorem coefRefused_iff (haxis : axis.toNat < 256) :
    (!axisArg axis || decide (coefAccess off.toNat = 0) || (decide (off = 0x073) && v.msb)) = true ↔ coefRefused off v := by
  simp [axisArg_of_lt haxis, coefRefused, BitVec.msb_eq_toInt]

theorem exec_axCoefWrite_badValue (haxis : axis.toNat < 256)
    (htakes : Takes s c 0x0407 3 (decide (coefAccess off.toNat = 3)) true true) (hbad : coefRefused off v) :
    Replies (.axCoefWrite c axis off v) s c 0x0407 0x0105 [] (s.takeUp c) :=
  (exec_host_takes (a := .refuse 0x0105 []) (exec_axCoefWrite c axis off v s) htakes rfl (if_pos ((coefRefused_iff haxis).mpr hbad)) :)

theorem exec_axCoefWrite_notDisabled (haxis : axis.toNat < 256)
    (htakes : Takes s c 0x0407 3 (decide (coefAccess off.toNat = 3)) true true) (hgood : ¬ coefRefused off v)
    (hstate : ¬ (coefAccess off.toNat = 1 → (s.takeUp c).axState axis.toNat = .disabled)) :
    Replies (.axCoefWrite c axis off v) s c 0x0407 0x0301 [] (s.takeUp c) :=
  (exec_host_takes (a := .refuse 0x0301 []) (exec_axCoefWrite c axis off v s) htakes rfl
    ((if_neg (mt (coefRefused_iff haxis).mp hgood)).trans (if_pos (Classical.not_imp.mp hstate))) :)

theorem exec_axCoefWrite_full (haxis : axis.toNat < 256)
    (htakes : Takes s c 0x0407 3 (decide (coefAccess off.toNat = 3)) true true) (hgood : ¬ coefRefused off v)
    (hstate : coefAccess off.toNat = 1 → (s.takeUp c).axState axis.toNat = .disabled)
    (hfull : 16 ≤ ((s.takeUp c).axis axis.toNat).law.coefQ.length) :
    Replies (.axCoefWrite c axis off v) s c 0x0407 0x0404 [] (s.takeUp c) :=
  (exec_host_takes (a := .refuse 0x0404 []) (exec_axCoefWrite c axis off v s) htakes rfl
    ((if_neg (mt (coefRefused_iff haxis).mp hgood)).trans ((if_neg (fun h => h.2 (hstate h.1))).trans (if_pos hfull))) :)

theorem exec_axCoefWrite_waits (haxis : axis.toNat < 256)
    (htakes : Takes s c 0x0407 3 (decide (coefAccess off.toNat = 3)) true true) (hgood : ¬ coefRefused off v)
    (hstate : coefAccess off.toNat = 1 → (s.takeUp c).axState axis.toNat = .disabled)
    (hroom : ¬ 16 ≤ ((s.takeUp c).axis axis.toNat).law.coefQ.length) :
    Leaves (.axCoefWrite c axis off v) s ((s.takeUp c).modLaw axis.toNat (fun l =>
      { l with coefQ := insertCoef ⟨c, off.toNat, v, s.cyc.cycle⟩ l.coefQ })) :=
  (exec_host_takes (exec_axCoefWrite c axis off v s) htakes rfl
    ((if_neg (mt (coefRefused_iff haxis).mp hgood)).trans ((if_neg (fun h => h.2 (hstate h.1))).trans (if_neg hroom))) :).trans
    (by simp)

theorem exec_axCoefRead_done (haxis : axis.toNat < 256) (hreads : Reads s c 0x040A 1)
    (hfits : 1 ≤ n.toNat ∧ n.toNat ≤ 32 ∧ off.toNat + n.toNat ≤ 0x400) :
    Replies (.axCoefRead c axis off n) s c 0x040A 0
      ((List.range n.toNat).flatMap (fun i => be 6 ((s.takeUp c).readCtx axis.toNat (off.toNat + i)).toNat)) (s.takeUp c) :=
  (exec_host_takes (exec_host_of_hostAt (exec_axCoefRead c axis off n s) hreads rfl) hreads rfl
    (if_neg (by simp [axisArg_of_lt haxis, hfits])) :)

theorem exec_axCoefRead_badValue (hreads : Reads s c 0x040A 1)
    (hfits : ¬ (1 ≤ n.toNat ∧ n.toNat ≤ 32 ∧ off.toNat + n.toNat ≤ 0x400)) :
    Replies (.axCoefRead c axis off n) s c 0x040A 0x0105 [] (s.takeUp c) :=
  (exec_host_takes (a := .refuse 0x0105 []) (exec_host_of_hostAt (exec_axCoefRead c axis off n s) hreads rfl) hreads rfl
    (if_pos (by rw [decide_eq_false hfits]; simp)) :)

end Coefficients

section CoefLanding

variable {s : State} {a : AxisIx}

theorem exec_coefWriteLand_busy (hbusy : s.axisBusy a.val = true) : Leaves (.coefWriteLand a) s s := by
  rw [Leaves, exec_coefWriteLand, execCoefWriteLand, if_pos hbusy]

/-- Between the tasks of an axis, where no table waits, the event only lands coefficients. -/
theorem exec_coefWriteLand_settled (hidle : ¬ s.axisBusy a.val = true) (htable : (s.axis a.val).law.tableNext = none) :
    Leaves (.coefWriteLand a) s (s.landCoefs a.val) := by
  rw [Leaves, exec_coefWriteLand, execCoefWriteLand, if_neg hidle, State.swapTable, htable]

theorem State.landCoefs_nil {a : Nat} (hq : (s.axis a).law.coefQ = []) : s.landCoefs a = s := by
  simp [State.landCoefs, hq]

/-- A change of the law's state depends on the function only where the axis stands. -/
theorem State.modLaw_congr (s : State) (a : Nat) {f g : LawSt → LawSt} (h : f (s.axis a).law = g (s.axis a).law) :
    s.modLaw a f = s.modLaw a g := by
  simp only [State.modLaw, State.modAxis_eq, h]

/-- The one write whose boundary has passed lands, and is answered. -/
theorem State.landCoefs_one {a : Nat} {w : CoefWrite} {q : List CoefWrite} (hfresh : (s.axis a).law.coefLanded ≠ some s.cyc.cycle)
    (hq : (s.axis a).law.coefQ = w :: q) (hpast : s.boundaryPast w.cycle = true) (hnext : ∀ x ∈ q.head?, s.boundaryPast x.cycle = false) :
    s.landCoefs a = ((s.modLaw a (fun l => { l with coefQ := q, coefLanded := some s.cyc.cycle })).setCtx a w.offset
      (hostWord w.offset w.value).toInt).replyLater w.ctx 0x0407 0 [] := by
  have hrest : q.takeWhile (fun w => s.boundaryPast w.cycle) = [] := by
    cases q with
    | nil => rfl
    | cons x q => simp [hnext x rfl]
  have hready : ((s.axis a).law.coefQ.takeWhile (fun w => s.boundaryPast w.cycle)).take landsAtMost = [w] := by
    simp [hq, hpast, hrest, landsAtMost]
  have hleft : s.modLaw a (fun l => { l with coefQ := l.coefQ.drop [w].length, coefLanded := some s.cyc.cycle })
      = s.modLaw a (fun l => { l with coefQ := q, coefLanded := some s.cyc.cycle }) :=
    s.modLaw_congr a (by simp [hq])
  simp only [State.landCoefs, hready, hleft, hfresh]
  simp [stDone]

end CoefLanding

/-- Settles O23: each command answered by its body's branch, the landings one write at a time, and the checks in the order of R450. -/
theorem parameterAccess : Obligations.ParameterAccess := by
  unfold Obligations.ParameterAccess
  refine ⟨?access, ?checks, ?coefs⟩
  case access =>
    intro s c ids id item r i v st w ready x o t most get set waits queued first
    refine ⟨?get, ?getBadId, ?getLength, ?info, ?infoBadId, ?refused, ?accepted, ?word, ?wordReadOnly, ?wordParam, ?flags, ?lineW1c, ?fbW1c,
      ?land, ?lands, ?landRefused, ?param, ?wordLands, ?conflict⟩
    case get => exact fun hreads h1 h2 hid => exec_parGet_done hreads ⟨h1, h2⟩ hid
    case getBadId => exact fun hreads h1 h2 hid => exec_parGet_badId hreads ⟨h1, h2⟩ hid
    case getLength =>
      intro hreads hlen
      refine exec_parGet_badLength hreads fun ⟨h1, h2⟩ => ?_
      rcases hlen with rfl | hlong
      · cases h1
      · exact absurd h2 (Nat.not_le.mpr hlong)
    case info => exact exec_parInfo_done
    case infoBadId => exact exec_parInfo_badId
    case refused => exact exec_parSet_refused
    case accepted => exact fun hset hcheck => (exec_parSet_waits hset hcheck).trans (by rw [State.queuePar_takeUp])
    case word => exact fun hset hobj hw => (exec_statusW1cWrite_waits hset hobj hw).trans (by rw [State.queuePar_takeUp])
    case wordReadOnly => exact exec_statusW1cWrite_noW1c
    case wordParam => exact exec_statusW1cWrite_param
    case flags =>
      intro hacts
      exact ⟨(exec_statusWrite_waits (exec_switchBackRequest c s) hacts).trans (by rw [State.queuePar_takeUp]; rfl),
        (exec_statusWrite_waits (exec_disagreeClear c s) hacts).trans (by rw [State.queuePar_takeUp]; rfl),
        (exec_statusWrite_waits (exec_puClear c o s) hacts).trans (by rw [State.queuePar_takeUp]; rfl)⟩
    case lineW1c => exact s.w1c_line i st
    case fbW1c => exact s.w1c_feedback i st
    case land =>
      rintro rfl hpast
      exact exec_parameterWriteLand_all s hpast
    case lands =>
      intro hfirst hst
      rw [State.landOne_first hfirst, if_pos hst, hst]
    case landRefused =>
      intro hfirst hst hne
      rw [State.landOne_first hfirst, if_neg (hst ▸ hne), hst]
    case param => exact State.landStatus_param
    case wordLands => exact fun h => ⟨State.landStatus_word h, State.landWrite_word h⟩
    case conflict => exact State.landOne_conflict
  case checks =>
    intro s item r i hobj v next now fits err named
    have hcheck : s.parCheck item = match s.writeStatus r i v with
        | some st => .error st
        | none => .ok v := by
      simp only [State.parCheck, hobj]
      rfl
    have refused : ∀ st, s.writeStatus r i v = some st → err st := fun st h => by
      simp only [err, hcheck, h]
    refine ⟨?range, ?probe, ?safety, ?joined, ?stopped, ?fits⟩
    case range => exact fun hv => refused _ (State.writeStatus_badValue hv)
    case probe => exact fun hv hnamed => refused _ (State.writeStatus_badId hv hnamed)
    case safety =>
      intro hv hnamed hsafety
      exact refused _ ((State.writeStatus_named hv hnamed).trans (if_pos hsafety))
    case joined =>
      intro hv hnamed hsafety hfits
      exact refused _ (State.writeStatus_badComb hv hnamed hsafety hfits)
    case stopped =>
      intro hv hnamed hsafety hfits hlive hstop
      exact refused _ ((State.writeStatus_fits hv hnamed hsafety hfits).trans (by simp [hlive, hstop]))
    case fits =>
      intro hv hnamed hsafety hfits hmay hstate hroom hroomNext
      rw [hcheck, State.writeStatus_passes hv hnamed hsafety hfits hmay hstate hroom hroomNext]
  case coefs =>
    intro s c axis off v n a w q haxis t k acc may write full dis bad busy settled fits
    refine ⟨?badValue, ?notDisabled, ?full, ?waits, ?read, ?readBadValue, ?busy, ?nothing, ?lands⟩
    case badValue => exact exec_axCoefWrite_badValue haxis
    case notDisabled => exact exec_axCoefWrite_notDisabled haxis
    case full => exact exec_axCoefWrite_full haxis
    case waits => exact exec_axCoefWrite_waits haxis
    case read => exact exec_axCoefRead_done haxis
    case readBadValue => exact exec_axCoefRead_badValue
    case busy => exact exec_coefWriteLand_busy
    case nothing =>
      intro ⟨hidle, htable⟩ hq
      exact (exec_coefWriteLand_settled hidle htable).trans (by rw [State.landCoefs_nil hq])
    case lands =>
      intro ⟨hidle, htable⟩ hfresh hq hpast hnext
      exact (exec_coefWriteLand_settled hidle htable).trans (by rw [State.landCoefs_one hfresh hq hpast hnext])

end Sys2Proof.Machine
end

section
/-! The commands that enable, disable, reset and park an axis (R43, R184 to R186, R191, R299, R482). -/

namespace Sys2Proof.Machine

open Sys2Proof.Claims

theorem exec_axEnable (c : CmdCtx) (axis : BitVec 16) (s : State) : exec (.axEnable c axis) s = execAxEnable c axis s := rfl

theorem exec_axDisable (c : CmdCtx) (axis : BitVec 16) (s : State) : exec (.axDisable c axis) s = execAxDisable c axis s := rfl

theorem exec_axFaultReset (c : CmdCtx) (axis : BitVec 16) (s : State) : exec (.axFaultReset c axis) s = execAxFaultReset c axis s := rfl

theorem exec_axPark (c : CmdCtx) (axis : BitVec 16) (on : BitVec 8) (s : State) : exec (.axPark c axis on) s = execAxPark c axis on s := rfl

theorem notAxisArg_eq_false {axis : BitVec 16} (h : axis.toNat < 256) : (!axisArg axis) = false := by
  simp [axisArg, h]

/-! What a command's body answers of an axis of 0 to 255, as a function of the state of Table LAW-3. -/

/-- The answer of AX_ENABLE (R185, R191). -/
def State.enableAnswer (t : State) (c : CmdCtx) (a : Nat) : Ans :=
  if (t.axis a).life.held.isSome then .ok (t.noteEnable a) stDeferred []
  else
    match t.axState a with
    | .enabling | .ready | .running => .quiet (t.modLife a (fun l => { l with enableWait := l.enableWait ++ [(c, t.cyc.cycle)] }))
    | .stopping | .torqueOff => .ok ((t.modLife a (fun l => { l with held := some c })).noteEnable a) stDeferred []
    | _ =>
      match t.enableRefusal a with
      | some st => .refuse st []
      | none => .ok ((t.beginEnable a (some c)).noteEnable a) stAccepted []

/-- The answer of AX_DISABLE (R184, R191). -/
def State.disableAnswer (t : State) (a : Nat) : Ans :=
  if t.enableStands a then .ok t stDone []
  else
    match t.axState a with
    | .enabling => .ok (t.torqueOffSto a) stDone []
    | .ready | .running => .ok (t.startStop a 1 2 (t.par 0x04000137 a)) stDone []
    | _ => .ok (t.dropHeld a) stDone []

section EnableCommands

variable {s : State} {c : CmdCtx} {axis : BitVec 16} {on : BitVec 8} {a : Ans}

theorem exec_axEnable_acts (haxis : axis.toNat < 256) (hacts : Acts s c 0x0401 2) (ha : (s.takeUp c).enableAnswer c axis.toNat = a) :
    exec (.axEnable c axis) s = .next (a.result (s.takeUp c) c 0x0401) :=
  (exec_host_takes (exec_axEnable c axis s) hacts rfl
    ((if_neg (by simp [notAxisArg_eq_false haxis])).trans ha) :)

theorem exec_axDisable_acts (haxis : axis.toNat < 256) (hacts : Acts s c 0x0402 2) (ha : (s.takeUp c).disableAnswer axis.toNat = a) :
    exec (.axDisable c axis) s = .next (a.result (s.takeUp c) c 0x0402) :=
  (exec_host_takes (exec_axDisable c axis s) hacts rfl ((if_neg (by simp [notAxisArg_eq_false haxis])).trans ha) :)

end EnableCommands

section EnableAnswer

variable {t : State} {c : CmdCtx} {a : Nat}

theorem State.enableAnswer_held (hheld : (t.axis a).life.held ≠ none) : t.enableAnswer c a = .ok (t.noteEnable a) 2 [] :=
  if_pos (Option.isSome_iff_ne_none.mpr hheld)

theorem State.noteEnable_held (t : State) (a : Nat) : ((t.noteEnable a).axis a).life.held = (t.axis a).life.held := by
  simp [State.noteEnable, State.modLife]

theorem State.enableAnswer_enabled (hst : t.axState a = .enabling ∨ t.axState a = .ready ∨ t.axState a = .running)
    (hfree : (t.axis a).life.held = none) :
    t.enableAnswer c a = .quiet (t.modLife a (fun l => { l with enableWait := l.enableWait ++ [(c, t.cyc.cycle)] })) := by
  rcases hst with h | h | h <;> simp [State.enableAnswer, hfree, h]

theorem State.enableAnswer_stopping (hst : t.axState a = .stopping ∨ t.axState a = .torqueOff)
    (hfree : (t.axis a).life.held = none) :
    t.enableAnswer c a = .ok ((t.modLife a (fun l => { l with held := some c })).noteEnable a) 2 [] := by
  rcases hst with h | h <;> simp [State.enableAnswer, hfree, h, stDeferred]

theorem State.enableAnswer_refused {k : Nat} (hst : t.axState a = .disabled ∨ t.axState a = .fault)
    (hfree : (t.axis a).life.held = none) (hk : t.enableRefusal a = some k) : t.enableAnswer c a = .refuse k [] := by
  rcases hst with h | h <;> simp [State.enableAnswer, hfree, h, hk]

theorem State.enableAnswer_accepted (hst : t.axState a = .disabled ∨ t.axState a = .fault)
    (hfree : (t.axis a).life.held = none) (hk : t.enableRefusal a = none) :
    t.enableAnswer c a = .ok ((t.beginEnable a (some c)).noteEnable a) 1 [] := by
  rcases hst with h | h <;> simp [State.enableAnswer, hfree, h, hk, stAccepted]

theorem State.disableAnswer_stands (hstands : t.enableStands a = true) : t.disableAnswer a = .ok t 0 [] := if_pos hstands

theorem State.disableAnswer_enabling (hstands : ¬ t.enableStands a = true) (hst : t.axState a = .enabling) :
    t.disableAnswer a = .ok (t.torqueOffSto a) 0 [] := by
  simp [State.disableAnswer, hstands, hst, stDone]

theorem State.disableAnswer_enabled (hstands : ¬ t.enableStands a = true) (hst : t.axState a = .ready ∨ t.axState a = .running) :
    t.disableAnswer a = .ok (t.startStop a 1 2 (t.par 0x04000137 a)) 0 [] := by
  rcases hst with h | h <;> simp [State.disableAnswer, hstands, h, stDone]

theorem State.disableAnswer_stopped (hstands : ¬ t.enableStands a = true)
    (hst : t.axState a = .stopping ∨ t.axState a = .torqueOff ∨ t.axState a = .disabled ∨ t.axState a = .fault) :
    t.disableAnswer a = .ok (t.dropHeld a) 0 [] := by
  rcases hst with h | h | h | h <;> simp [State.disableAnswer, hstands, h, stDone]

theorem State.enableStands_iff (t : State) (a : Nat) :
    t.enableStands a = true ↔ t.cyc.running = true ∧ (t.axis a).life.enabledAt = some t.cyc.cycle := by
  simp [State.enableStands]

end EnableAnswer

section ResetAndPark

variable {s : State} {c : CmdCtx} {axis : BitVec 16} {on : BitVec 8}

/-- A fault reset takes the axis to DISABLED (R184, R189). -/
def State.mayReset (t : State) (a : Nat) : Prop :=
  (t.axis a).life.state = .fault ∧ ((t.axis a).life.stoPath = true ∨ (t.axis a).life.reactDone = true) ∧ (t.axis a).fbk.torqueOn = false
    ∧ t.causeGone a = true

theorem exec_axFaultReset_refused (haxis : axis.toNat < 256) (hacts : Acts s c 0x0403 2) (hmay : ¬ (s.takeUp c).mayReset axis.toNat) :
    Replies (.axFaultReset c axis) s c 0x0403 0x0301 [] (s.takeUp c) :=
  (exec_host_takes (a := .refuse 0x0301 []) (exec_axFaultReset c axis s) hacts rfl
    ((if_neg (by simp [notAxisArg_eq_false haxis])).trans (if_neg hmay)) :)

/-- A reset of a fault that is not the learner's leaves the learner's table. -/
theorem exec_axFaultReset_done (haxis : axis.toNat < 256) (hacts : Acts s c 0x0403 2) (hmay : (s.takeUp c).mayReset axis.toNat)
    (hcause : ((s.takeUp c).axis axis.toNat).life.cause ≠ 8) :
    Replies (.axFaultReset c axis) s c 0x0403 0 [] ((s.takeUp c).modLife axis.toNat (fun l => { l with
      state := AxState.disabled, cause := 0, stopKind := 0, stopDec := 0, stoPath := false, reactDone := false, brakeTick := none
      firstBrake := none, enteredTick := s.coreTicks })) :=
  (exec_host_takes (exec_axFaultReset c axis s) hacts rfl
    ((if_neg (by simp [notAxisArg_eq_false haxis])).trans ((if_pos hmay).trans (by rw [if_neg hcause]))) :).trans (by simp [stDone])

theorem exec_axPark_badValue (hacts : Acts s c 0x0408 3) (hon : 1 < on.toNat) :
    Replies (.axPark c axis on) s c 0x0408 0x0105 [] (s.takeUp c) :=
  (exec_host_takes (a := .refuse 0x0105 []) (exec_axPark c axis on s) hacts rfl
    (if_pos (by simp [Nat.not_le.mpr hon])) :)

theorem exec_axPark_notDisabled (haxis : axis.toNat < 256) (hacts : Acts s c 0x0408 3) (hon : on.toNat ≤ 1)
    (hst : (s.takeUp c).axState axis.toNat ≠ .disabled) : Replies (.axPark c axis on) s c 0x0408 0x0301 [] (s.takeUp c) :=
  (exec_host_takes (a := .refuse 0x0301 []) (exec_axPark c axis on s) hacts rfl
    ((if_neg (by simp [notAxisArg_eq_false haxis, hon])).trans (if_pos hst)) :)

theorem exec_axPark_done (haxis : axis.toNat < 256) (hacts : Acts s c 0x0408 3) (hon : on.toNat ≤ 1)
    (hst : (s.takeUp c).axState axis.toNat = .disabled) :
    Replies (.axPark c axis on) s c 0x0408 0 [] ((s.takeUp c).modLife axis.toNat (fun l => { l with parked := decide (on = 1) })) :=
  (exec_host_takes (exec_axPark c axis on s) hacts rfl
    ((if_neg (by simp [notAxisArg_eq_false haxis, hon])).trans (if_neg (not_not.mpr hst))) :)

end ResetAndPark

/-! What refuses an enable of a DISABLED axis (R185, R299, R450). -/

/-- A servo under the state feedback law, as the checks of an enable ask. -/
abbrev State.underSf (s : State) (a : Nat) : Prop := s.parN 0x04000130 a = 1 ∧ s.isStepper a = false

/-- The gains of a rotary axis do not add up. -/
abbrev State.gainsApart (s : State) (a : Nat) : Prop :=
  s.underSf a ∧ s.parN 0x04000134 a = 1 ∧ s.ctx a 0x70 ≠ s.ctx a (0x68 + s.parN 0x04000132 a)

/-- The state of the axis, its source or its law does not allow an enable. -/
abbrev State.notEnableable (s : State) (a : Nat) : Prop :=
  (s.axis a).life.parked = true ∨ s.groupRead a = false ∨ s.sourceOk a = false ∨ (s.underSf a ∧ s.parN 0x04000133 a ≠ s.span a)

theorem State.enableRefusal_of_disabled {s : State} {a : Nat} (hst : s.axState a = .disabled) :
    s.enableRefusal a = if s.gainsApart a then some 0x0108 else if s.notEnableable a then some 0x0301
      else if s.saf.p.paramOk = false ∨ s.saf.h.paramOk = false then some 0x0504
      else if s.groupState (s.parN 0x08200001 a) ≠ 0 then some 0x0501 else none := by
  have hlife : (s.axis a).life.state = .disabled := hst
  have hcomb : (decide (s.parN 0x04000130 a = 1) && !s.isStepper a && decide (s.parN 0x04000134 a = 1)
      && decide (s.ctx a 0x70 ≠ s.ctx a (0x68 + s.parN 0x04000132 a))) = true ↔ s.gainsApart a := by
    simp [State.gainsApart, State.underSf, and_assoc]
  have hstate : (decide ((s.axis a).life.state = .fault) || (s.axis a).life.parked || !s.groupRead a || !s.sourceOk a
      || (decide (s.parN 0x04000130 a = 1) && !s.isStepper a && decide (s.parN 0x04000133 a ≠ s.span a))) = true
      ↔ s.notEnableable a := by
    simp [State.notEnableable, State.underSf, hlife, or_assoc]
  have hparams : (!s.saf.p.paramOk || !s.saf.h.paramOk) = true ↔ s.saf.p.paramOk = false ∨ s.saf.h.paramOk = false := by simp
  simp only [State.enableRefusal, hcomb, hstate, hparams]
  rfl

/-- Settles O24: each command by the branch of its body that the axis's state selects. -/
theorem axisEnableCommands : Obligations.AxisEnableCommands := by
  unfold Obligations.AxisEnableCommands
  constructor
  · intro s c axis on haxis t a st l enable disable reset park free stands may
    have hcyc : t.cyc = s.cyc := by simp [t]
    have hticks : t.coreTicks = s.coreTicks := by simp [t]
    refine ⟨?waits, ?defers, ?held, ?refused, ?accepted, ?stands, ?offEnabling, ?offEnabled, ?offStopped, ?standsIff, ?noReset, ?reset,
      ?parkValue, ?parkState, ?parks⟩
    case waits =>
      intro hst hfree hacts
      exact (exec_axEnable_acts haxis hacts (State.enableAnswer_enabled hst hfree)).trans (by rw [← hcyc]; rfl)
    case defers => exact fun hst hfree hacts => exec_axEnable_acts haxis hacts (State.enableAnswer_stopping hst hfree)
    case held =>
      exact fun hheld => ⟨fun hacts => exec_axEnable_acts haxis hacts (State.enableAnswer_held hheld), t.noteEnable_held a⟩
    case refused => exact fun hst hfree k hk hacts => exec_axEnable_acts haxis hacts (State.enableAnswer_refused hst hfree hk)
    case accepted =>
      intro hst hfree hk hacts
      exact (exec_axEnable_acts haxis hacts (State.enableAnswer_accepted hst hfree hk)).trans (by rw [← hticks]; rfl)
    case stands => exact fun h hacts => exec_axDisable_acts haxis hacts (State.disableAnswer_stands h)
    case offEnabling => exact fun h hst hacts => exec_axDisable_acts haxis hacts (State.disableAnswer_enabling h hst)
    case offEnabled => exact fun h hst hacts => exec_axDisable_acts haxis hacts (State.disableAnswer_enabled h hst)
    case offStopped => exact fun h hst hacts => exec_axDisable_acts haxis hacts (State.disableAnswer_stopped h hst)
    case standsIff =>
      rw [← hcyc]
      exact t.enableStands_iff a
    case noReset => exact fun hmay hacts => exec_axFaultReset_refused haxis hacts hmay
    case reset => exact fun hmay hcause hacts => exec_axFaultReset_done haxis hacts hmay hcause
    case parkValue => exact fun hon hacts => exec_axPark_badValue hacts hon
    case parkState => exact fun hon hst hacts => exec_axPark_notDisabled haxis hacts hon hst
    case parks => exact fun hon hst hacts => exec_axPark_done haxis hacts hon hst
  · intro s a hst l sf comb state params group
    exact State.enableRefusal_of_disabled hst

end Sys2Proof.Machine
end

section
/-! What a fault does to an axis's life and to the event history (R189, R190, R456). -/

namespace Sys2Proof.Machine

/-! The life of an axis under the shared operations. -/

theorem State.axis_congr {s u : State} (h : u.axes = s.axes) (a : Nat) : u.axis a = s.axis a := by
  simp only [State.axis, h]

@[simp] theorem State.raise_axis (s : State) (code sev inst : Nat) (data : List Byte) (a : Nat) :
    (s.raise code sev inst data).axis a = s.axis a := State.axis_congr (by simp) a

@[simp] theorem State.cmdDone?_axis (s : State) (c : Option CmdCtx) (opcode inst status a : Nat) :
    (s.cmdDone? c opcode inst status).axis a = s.axis a := State.axis_congr (by simp) a

theorem State.axis_setAxis (s : State) (a b : Nat) (x : Axis) : (s.setAxis a x).axis b = if b = a then x else s.axis b := by
  split
  · next h => rw [h, State.setAxis_self]
  · next h => exact State.setAxis_ne s a x b h

@[simp] theorem State.modLife_life (s : State) (a : Nat) (f : Life → Life) : ((s.modLife a f).axis a).life = f (s.axis a).life := by
  simp [State.modLife]

@[simp] theorem State.modProf_life (s : State) (a b : Nat) (f : Prof → Prof) : ((s.modProf a f).axis b).life = (s.axis b).life := by
  rw [State.modProf, State.modAxis_eq, State.axis_setAxis]
  split
  · next h => rw [h]
  · rfl

theorem State.foldl_life {α : Type} (f : State → α → State) (a : Nat) (hf : ∀ s x, ((f s x).axis a).life = (s.axis a).life) (xs : List α)
    (s : State) : ((xs.foldl f s).axis a).life = (s.axis a).life := by
  induction xs generalizing s with
  | nil => rfl
  | cons x xs ih => exact (ih (f s x)).trans (hf s x)

@[simp] theorem State.leaveGroup_life (s : State) (a b : Nat) : ((s.leaveGroup a).axis b).life = (s.axis b).life := by
  unfold State.leaveGroup
  dsimp only
  split
  · rfl
  · split
    · rw [State.raise_axis]
      exact (State.foldl_life _ b (fun _ _ => State.modProf_life _ _ _ _) _ _).trans (s.modProf_life _ _ _)
    · exact s.modProf_life _ _ _

@[simp] theorem State.finishMotion_life (s : State) (a status b : Nat) : ((s.finishMotion a status).axis b).life = (s.axis b).life := by
  simp [State.finishMotion]

@[simp] theorem State.planStop_life (s : State) (a kind : Nat) (dec : Int) : ((s.planStop a kind dec).axis a).life
    = { (s.axis a).life with stopKind := kind, stopDec := max (s.axis a).life.stopDec dec } := by
  simp [State.planStop]

@[simp] theorem State.stoPath_life (s : State) (a : Nat) : ((s.stoPath a).axis a).life
    = { (s.axis a).life with stopKind := 4, stoPath := true, stoPlan := true, direct := false, brakeTick := none } := by
  simp [State.stoPath]

@[simp] theorem State.dropHeld_life (s : State) (a : Nat) : ((s.dropHeld a).axis a).life = { (s.axis a).life with held := none } := by
  unfold State.dropHeld
  split
  · next h => rw [← h]
  · simp

@[simp] theorem State.finishEnable_life (s : State) (a status : Nat) :
    ((s.finishEnable a status).axis a).life = { (s.axis a).life with enableCtx := none } := by
  simp [State.finishEnable]

/-! An event of a state that gathers none is numbered at once (R457). -/

/-- The event history and the gathering of a boundary's events are those of s. -/
def State.SameEvents (s u : State) : Prop := u.host.history = s.host.history ∧ u.host.gathered = s.host.gathered

theorem State.SameEvents.trans {s u v : State} (h : s.SameEvents u) (h' : u.SameEvents v) : s.SameEvents v :=
  ⟨h'.1.trans h.1, h'.2.trans h.2⟩

theorem State.SameEvents.ite {s u v : State} (p : Prop) [Decidable p] (hu : s.SameEvents u) (hv : s.SameEvents v) :
    s.SameEvents (if p then u else v) := by
  split
  · exact hu
  · exact hv

theorem State.sendMsi_sameEvents (s : State) (v : Nat) : s.SameEvents (s.sendMsi v) :=
  State.SameEvents.ite _ ⟨rfl, rfl⟩ ⟨rfl, rfl⟩

theorem State.setInt_sameEvents (s : State) (i : Nat) : s.SameEvents (s.setInt i) :=
  State.SameEvents.ite _ (State.SameEvents.trans ⟨rfl, rfl⟩ (State.sendMsi_sameEvents _ _)) ⟨rfl, rfl⟩

theorem State.push_sameEvents (s : State) (i : Nat) (e : Event) : s.SameEvents (s.push i e) := ⟨rfl, rfl⟩

theorem State.pushAll_sameEvents (s : State) (e : Event) : s.SameEvents (s.pushAll e) := by
  unfold State.pushAll
  generalize List.range 8 = is
  induction is generalizing s with
  | nil => exact ⟨rfl, rfl⟩
  | cons i is ih => exact (State.SameEvents.ite _ (s.push_sameEvents i e) ⟨rfl, rfl⟩).trans (ih _)

theorem State.ringEvent_sameEvents (s : State) (e : Event) : s.SameEvents (s.ringEvent e) :=
  State.SameEvents.ite _
    (State.SameEvents.ite _ (State.SameEvents.trans ⟨rfl, rfl⟩ (State.setInt_sameEvents _ 2))
      (State.SameEvents.trans ⟨rfl, rfl⟩ (State.setInt_sameEvents _ 1)))
    ⟨rfl, rfl⟩

theorem State.number_events (s : State) (d : Event) : (s.number d).host.gathered = s.host.gathered
    ∧ ∃ e, (s.number d).host.history = (e :: s.host.history).take 256 ∧ e.code = d.code ∧ e.inst = d.inst ∧ e.data = d.data := by
  unfold State.number
  extract_lets e h s1 s2
  have hsame : s1.SameEvents s2 := (State.ringEvent_sameEvents s1 e).trans (State.pushAll_sameEvents _ e)
  have hlast : s1.SameEvents (if e.sev = 2 then s2.setInt 4 else s2) :=
    State.SameEvents.ite _ (hsame.trans (s2.setInt_sameEvents 4)) hsame
  exact ⟨hlast.2, e, hlast.1, rfl, rfl, rfl⟩

/-- A record of a state that gathers none is the newest of the history. -/
theorem State.record_events {s : State} (hg : s.host.gathered = none) (code sev inst status : Nat) (cmd : Option (CmdCtx × Nat))
    (data : List Byte) : (s.record code sev inst status cmd data).host.gathered = none
    ∧ ∃ e rest, (s.record code sev inst status cmd data).host.history = e :: rest ∧ e.code = code ∧ e.inst = inst ∧ e.data = data := by
  unfold State.record
  extract_lets ses e
  simp only [hg]
  obtain ⟨hgather, e', hhist, hcode, hinst, hdata⟩ := s.number_events e
  exact ⟨hgather.trans hg, e', _, hhist, hcode, hinst, hdata⟩

theorem State.raise_gathered {s : State} (hg : s.host.gathered = none) (code sev inst : Nat) (data : List Byte) :
    (s.raise code sev inst data).host.gathered = none := (State.record_events hg code sev inst 0 none data).1

theorem State.cmdDone?_gathered {s : State} (hg : s.host.gathered = none) (c : Option CmdCtx) (opcode inst status : Nat) :
    (s.cmdDone? c opcode inst status).host.gathered = none := by
  cases c with
  | none => exact hg
  | some c =>
    simp only [State.cmdDone?, State.cmdDone]
    split
    · exact hg
    · exact (State.record_events hg _ _ _ _ _ _).1

theorem State.leaveGroup_gathered {s : State} (hg : s.host.gathered = none) (a : Nat) : (s.leaveGroup a).host.gathered = none := by
  have hfold : ∀ (f : Nat → Prof → Prof) (bs : List Nat) (u : State), u.host.gathered = none →
      (bs.foldl (fun s b => s.modProf b (f b)) u).host.gathered = none := by
    intro f bs
    induction bs with
    | nil => exact fun _ h => h
    | cons b bs ih => exact fun u h => ih _ (by simpa using h)
  unfold State.leaveGroup
  dsimp only
  split
  · exact hg
  · split
    · exact State.raise_gathered (hfold _ _ _ (by simpa using hg)) _ _ _ _
    · simpa using hg

theorem State.finishMotion_gathered {s : State} (hg : s.host.gathered = none) (a status : Nat) :
    (s.finishMotion a status).host.gathered = none := by
  simpa [State.finishMotion] using State.cmdDone?_gathered hg _ _ _ _

theorem State.planStop_gathered {s : State} (hg : s.host.gathered = none) (a kind : Nat) (dec : Int) :
    (s.planStop a kind dec).host.gathered = none := by
  simpa [State.planStop] using State.finishMotion_gathered (State.leaveGroup_gathered hg a) a 0x0301

theorem State.stoPath_gathered {s : State} (hg : s.host.gathered = none) (a : Nat) : (s.stoPath a).host.gathered = none := by
  simpa [State.stoPath] using State.finishMotion_gathered (State.leaveGroup_gathered hg a) a 0x0301

theorem State.dropHeld_gathered {s : State} (hg : s.host.gathered = none) (a : Nat) : (s.dropHeld a).host.gathered = none := by
  unfold State.dropHeld
  split
  · exact hg
  · exact State.raise_gathered (by simpa using hg) _ _ _ _

theorem State.finishEnable_gathered {s : State} (hg : s.host.gathered = none) (a status : Nat) :
    (s.finishEnable a status).host.gathered = none := by
  simpa [State.finishEnable] using State.cmdDone?_gathered hg _ _ _ _

theorem State.dropRequest_gathered {s : State} (hg : s.host.gathered = none) (a cause : Nat) :
    (s.dropRequest a cause).host.gathered = none := by
  unfold State.dropRequest
  split
  · exact hg
  · split
    · exact hg
    · dsimp only
      refine State.cmdDone?_gathered ?_ _ _ _ _
      split
      · exact State.raise_gathered (by simpa using hg) _ _ _ _
      · exact State.raise_gathered (State.raise_gathered (by simpa using hg) _ _ _ _) _ _ _ _

/-! A fault of an axis that has none (R189, Table LAW-5). -/

/-- What a fault leaves behind it before the axis is in FAULT: the request, the held enable and the running enable dropped, and the
reaction begun. -/
def State.faultReaction (s : State) (a cause : Nat) : State :=
  let s1 := ((s.dropRequest a 1).dropHeld a).finishEnable a 0x0301
  if s.axState a = .disabled then s1.modLife a (fun l => { l with stoPath := true })
  else if s.reactionSto a cause || (s.axis a).life.stoPath then s1.stoPath a
  else if decide (s.axState a = .disabled ∨ s.axState a = .torqueOff) then s1 else s1.planStop a 2 (s.par 0x04000138 a)

/-- The life of an axis that has just faulted. -/
def Life.faulted (l : Life) (cause tick : Nat) (was : AxState) : Life :=
  { l with state := .fault, cause := cause, ageSeenZero := false, reactDone := decide (was = .disabled), enteredTick := tick, confirm := 0
           direct := false }

theorem State.axisFault_of_not_fault {s : State} {a : Nat} (hst : s.axState a ≠ .fault) (cause : Nat) :
    s.axisFault a cause = ((s.faultReaction a cause).modLife a (fun l => l.faulted cause s.coreTicks (s.axState a))).raise 0x0401 1 a
      [BitVec.ofNat 8 cause] :=
  if_neg hst

theorem State.axisFault_of_fault {s : State} {a cause : Nat} (hst : s.axState a = .fault) :
    s.axisFault a cause = if s.reactionSto a cause && !(s.axis a).life.stoPath && !(s.axis a).life.reactDone then s.stoPath a else s :=
  if_pos hst

theorem State.axisFault_life {s : State} {a : Nat} (hst : s.axState a ≠ .fault) (cause : Nat) :
    ((s.axisFault a cause).axis a).life = ((s.faultReaction a cause).axis a).life.faulted cause s.coreTicks (s.axState a) := by
  rw [State.axisFault_of_not_fault hst, State.raise_axis, State.modLife_life]

theorem State.faultReaction_held (s : State) (a cause : Nat) : ((s.faultReaction a cause).axis a).life.held = none := by
  unfold State.faultReaction
  dsimp only
  split
  · simp
  · split
    · simp
    · split <;> simp

theorem State.faultReaction_stoPath_of_disabled {s : State} {a : Nat} (hst : s.axState a = .disabled) (cause : Nat) :
    ((s.faultReaction a cause).axis a).life.stoPath = true := by
  simp [State.faultReaction, hst]

theorem State.faultReaction_stoPath_of_sto {s : State} {a cause : Nat} (hst : s.axState a ≠ .disabled)
    (hsto : s.reactionSto a cause = true) : ((s.faultReaction a cause).axis a).life.stoPath = true := by
  simp [State.faultReaction, hst, hsto]

theorem State.faultReaction_gathered {s : State} (hg : s.host.gathered = none) (a cause : Nat) :
    (s.faultReaction a cause).host.gathered = none := by
  have hdropped := State.finishEnable_gathered (State.dropHeld_gathered (State.dropRequest_gathered hg a 1) a) a 0x0301
  unfold State.faultReaction
  dsimp only
  split
  · simpa using hdropped
  · split
    · exact State.stoPath_gathered hdropped a
    · split
      · exact hdropped
      · exact State.planStop_gathered hdropped a _ _

theorem State.axisFault_history {s : State} {a : Nat} (hst : s.axState a ≠ .fault) (hg : s.host.gathered = none) (cause : Nat) :
    ∃ e rest, (s.axisFault a cause).host.history = e :: rest ∧ e.code = 0x0401 ∧ e.inst = a ∧ e.data = [BitVec.ofNat 8 cause] := by
  rw [State.axisFault_of_not_fault hst]
  exact (State.record_events (by simpa using State.faultReaction_gathered hg a cause) _ _ _ _ _ _).2

end Sys2Proof.Machine
end

section
/-! The transitions of an axis by time, by faults and by held enables (R43, R184 to R191, R207). -/

namespace Sys2Proof.Machine

open Sys2Proof.Claims

theorem exec_enableComplete (a : AxisIx) (s : State) : exec (.enableComplete a) s = execEnableComplete a s := rfl
theorem exec_enTimeout (a : AxisIx) (s : State) : exec (.enTimeout a) s = execEnTimeout a s := rfl
theorem exec_stopConfirm (a : AxisIx) (s : State) : exec (.stopConfirm a) s = execStopConfirm a s := rfl
theorem exec_brakeTElapsed (a : AxisIx) (s : State) : exec (.brakeTElapsed a) s = execBrakeTElapsed a s := rfl
theorem exec_holdMax (a : AxisIx) (s : State) : exec (.holdMax a) s = execHoldMax a s := rfl
theorem exec_ageFault (a : AxisIx) (s : State) : exec (.ageFault a) s = execAgeFault a s := rfl
theorem exec_heldEnableExecute (u : EnableUnit) (s : State) : exec (.heldEnableExecute u) s = execHeldEnableExecute u s := rfl

/-- An event row whose guard holds acts, and one whose guard does not leaves the state (log 2). -/
theorem whenB_of_true {b : Bool} (hb : b = true) (s u : State) : whenB b s u = .next u := by
  rw [whenB, if_pos hb]

theorem whenB_of_false {b : Bool} (hb : b = false) (s u : State) : whenB b s u = .next s := by
  rw [whenB, if_neg (Bool.eq_false_iff.mp hb)]

/-! Time and the node's reports. -/

section ByTime

variable {s : State} {a : AxisIx} {k : Nat}

theorem exec_enableComplete_due (hst : (s.axis a.val).life.state = .enabling) (hready : (s.axis a.val).fbk.ready = true)
    (htorque : (s.axis a.val).fbk.torqueOn = true) (hbrake : (s.axis a.val).life.firstBrake = some k)
    (hdue : s.tCycle k + (s.parN 0x0400013B a.val * 1000000 : Nat) ≤ s.now) :
    Leaves (.enableComplete a) s
      ((s.modLife a.val (fun l => { l with state := AxState.ready, enteredTick := s.coreTicks, confirm := 0 })).finishEnable a.val 0) := by
  rw [Leaves, exec_enableComplete]
  exact whenB_of_true (by simpa [hst, hready, htorque, hbrake, msTicks] using hdue) _ _

theorem exec_enableComplete_waits (h : (s.axis a.val).life.state ≠ .enabling ∨ (s.axis a.val).fbk.ready = false
    ∨ (s.axis a.val).fbk.torqueOn = false ∨ (s.axis a.val).life.firstBrake = none) : Leaves (.enableComplete a) s s := by
  rw [Leaves, exec_enableComplete]
  exact whenB_of_false (by rcases h with h | h | h | h <;> simp [h]) _ _

theorem exec_enTimeout_due (hst : (s.axis a.val).life.state = .enabling ∨ (s.axis a.val).life.state = .torqueOff)
    (hdue : (s.axis a.val).life.enteredTick + s.parN 0x0400013C a.val * 1000000 ≤ s.coreTicks) :
    Leaves (.enTimeout a) s (s.axisFault a.val 1) := by
  rw [Leaves, exec_enTimeout]
  exact whenB_of_true (by simp [hst, hdue, msTicks]) _ _

theorem exec_stopConfirm_waits (h : ¬ s.parN 0x0400013A a.val ≤ (s.axis a.val).life.confirm) : Leaves (.stopConfirm a) s s := by
  rw [Leaves, exec_stopConfirm, execStopConfirm, if_neg h]

theorem exec_stopConfirm_stopping (h : s.parN 0x0400013A a.val ≤ (s.axis a.val).life.confirm)
    (hst : (s.axis a.val).life.state = .stopping) (hkind : (s.axis a.val).life.stopKind ≠ 3) :
    Leaves (.stopConfirm a) s (s.modLife a.val (fun l => l.brakeStep s.coreTicks .torqueOff)) := by
  rw [Leaves, exec_stopConfirm, execStopConfirm, if_pos h, if_pos ⟨hst, hkind⟩]

theorem exec_stopConfirm_fault (h : s.parN 0x0400013A a.val ≤ (s.axis a.val).life.confirm)
    (hst : (s.axis a.val).life.state = .fault) (hsto : (s.axis a.val).life.stoPath = false)
    (hdone : (s.axis a.val).life.reactDone = false) (hbrake : (s.axis a.val).life.brakeTick = none) :
    Leaves (.stopConfirm a) s (s.modLife a.val (fun l => l.brakeStep s.coreTicks .fault)) := by
  rw [Leaves, exec_stopConfirm, execStopConfirm, if_pos h, if_neg (by simp [hst]), if_pos ⟨hst, hsto, hdone, hbrake⟩]

theorem exec_brakeTElapsed_due (hbrake : (s.axis a.val).life.brakeTick = some k) (hsto : (s.axis a.val).life.stoPath = false)
    (hst : (s.axis a.val).life.state = .torqueOff ∨ (s.axis a.val).life.state = .fault)
    (hdue : k + s.parN 0x0400013B a.val * 1000000 ≤ s.coreTicks) :
    Leaves (.brakeTElapsed a) s (s.modLife a.val (fun l => { l with stoPath := true })) := by
  simp only [Leaves, exec_brakeTElapsed, execBrakeTElapsed, hbrake]
  exact whenB_of_true (by simp [hst, hsto, hdue, msTicks]) _ _

theorem exec_holdMax_over (hdis : (s.axis a.val).life.state ≠ .disabled) (hfault : (s.axis a.val).life.state ≠ .fault)
    (hrun : s.parN 0x0400013F a.val < (s.axis a.val).life.holdRun) : Leaves (.holdMax a) s (s.axisFault a.val 6) := by
  rw [Leaves, exec_holdMax]
  exact whenB_of_true (by simp [hdis, hfault, hrun]) _ _

theorem exec_ageFault_over (hdis : s.axState a.val ≠ .disabled) (hfault : s.axState a.val ≠ .fault)
    (hparked : (s.axis a.val).life.parked = false) (hage : s.parN 0x04000135 a.val < (s.axis a.val).obs.age) :
    Leaves (.ageFault a) s (s.axisFault a.val 2) := by
  rw [Leaves, exec_ageFault]
  exact whenB_of_true (by simp [hdis, hfault, hparked, hage]) _ _

theorem exec_ageFault_parked (hparked : (s.axis a.val).life.parked = true) : Leaves (.ageFault a) s s := by
  rw [Leaves, exec_ageFault]
  exact whenB_of_false (by simp [hparked]) _ _

end ByTime

/-! The enables that wait (R43, R191). -/

theorem State.modLife_congr (s : State) (a : Nat) {f g : Life → Life} (h : f (s.axis a).life = g (s.axis a).life) :
    s.modLife a f = s.modLife a g := by
  simp only [State.modLife, State.modAxis_eq, h]

/-- The answer of one AX_ENABLE that found nothing to do, by the state that its boundary has left of the axis. -/
def State.answerEnable (s : State) (a : Nat) (c : CmdCtx) : State :=
  match s.axState a with
  | .enabling | .ready | .running => s.replyLater c 0x0401 stDone []
  | .stopping | .torqueOff => (s.modLife a (fun l => { l with held := some (l.held.getD c) })).replyLater c 0x0401 stDeferred []
  | _ =>
    match s.enableRefusal a with
    | some st => s.replyLater c 0x0401 st []
    | none => (s.beginEnable a (some c)).replyLater c 0x0401 stAccepted []

theorem State.answerEnables_eq (s : State) (a : Nat) :
    s.answerEnables a = ((s.axis a).life.enableWait.filter (fun w => s.boundaryPast w.2)).foldl (fun s w => s.answerEnable a w.1)
      (s.modLife a (fun l => { l with enableWait := l.enableWait.filter (fun w => !s.boundaryPast w.2) })) := rfl

section AnswerEnables

variable {s : State} {a k : Nat} {c : CmdCtx}

theorem State.answerEnable_enabled (hst : s.axState a = .enabling ∨ s.axState a = .ready ∨ s.axState a = .running) :
    s.answerEnable a c = s.replyLater c 0x0401 0 [] := by
  rcases hst with h | h | h <;> simp only [State.answerEnable, h] <;> rfl

theorem State.answerEnable_stopping (hst : s.axState a = .stopping ∨ s.axState a = .torqueOff) (hfree : (s.axis a).life.held = none) :
    s.answerEnable a c = (s.modLife a (fun l => { l with held := some c })).replyLater c 0x0401 2 [] := by
  have hheld : s.modLife a (fun l => { l with held := some (l.held.getD c) }) = s.modLife a (fun l => { l with held := some c }) :=
    s.modLife_congr a (by simp [hfree])
  rcases hst with h | h <;> simp only [State.answerEnable, h, hheld] <;> rfl

theorem State.answerEnables_nil (hwait : (s.axis a).life.enableWait = []) :
    s.answerEnables a = s.modLife a (fun l => { l with enableWait := [] }) := by
  rw [State.answerEnables_eq, hwait]
  exact s.modLife_congr a (by simp [hwait])

theorem State.answerEnables_one (hwait : (s.axis a).life.enableWait = [(c, k)]) (hpast : s.boundaryPast k = true) :
    s.answerEnables a = (s.modLife a (fun l => { l with enableWait := [] })).answerEnable a c := by
  have hbare : s.modLife a (fun l => { l with enableWait := l.enableWait.filter (fun w => !s.boundaryPast w.2) })
      = s.modLife a (fun l => { l with enableWait := [] }) := s.modLife_congr a (by simp [hwait, hpast])
  simp [State.answerEnables_eq, hwait, hpast, hbare]

@[simp] theorem State.axState_clearWait (s : State) (a : Nat) :
    (s.modLife a (fun l => { l with enableWait := [] })).axState a = s.axState a := by
  simp only [State.axState, State.modLife_life]

theorem State.answerEnables_enabled (hwait : (s.axis a).life.enableWait = [(c, k)]) (hpast : s.boundaryPast k = true)
    (hst : s.axState a = .enabling ∨ s.axState a = .ready ∨ s.axState a = .running) :
    s.answerEnables a = (s.modLife a (fun l => { l with enableWait := [] })).replyLater c 0x0401 0 [] :=
  (State.answerEnables_one hwait hpast).trans (State.answerEnable_enabled (by simpa using hst))

theorem State.answerEnables_stopping (hwait : (s.axis a).life.enableWait = [(c, k)]) (hpast : s.boundaryPast k = true)
    (hst : s.axState a = .stopping ∨ s.axState a = .torqueOff) (hfree : (s.axis a).life.held = none) :
    s.answerEnables a = ((s.modLife a (fun l => { l with enableWait := [] })).modLife a (fun l => { l with held := some c })).replyLater c
      0x0401 2 [] :=
  (State.answerEnables_one hwait hpast).trans (State.answerEnable_stopping (by simpa using hst) (by simpa using hfree))

end AnswerEnables

section HeldAxis

variable {s : State} {a : AxisIx} {c : CmdCtx}

theorem exec_heldEnable_none (hheld : ((s.answerEnables a.val).axis a.val).life.held = none) :
    Leaves (.heldEnableExecute (.axis a)) s (s.answerEnables a.val) := by
  simp [Leaves, exec_heldEnableExecute, execHeldEnableExecute, hheld]

theorem exec_heldEnable_waits (hheld : ((s.answerEnables a.val).axis a.val).life.held = some c)
    (hst : (s.answerEnables a.val).axState a.val ≠ .disabled) :
    Leaves (.heldEnableExecute (.axis a)) s (s.answerEnables a.val) := by
  simp [Leaves, exec_heldEnableExecute, execHeldEnableExecute, hheld, hst]

/-- A held enable of an axis that is DISABLED again is tried once, and leaves its event. -/
theorem exec_heldEnable_accepted (hheld : ((s.answerEnables a.val).axis a.val).life.held = some c)
    (hst : (s.answerEnables a.val).axState a.val = .disabled)
    (hok : ((s.answerEnables a.val).modLife a.val (fun l => { l with held := none })).enableRefusal a.val = none) :
    Leaves (.heldEnableExecute (.axis a)) s ((((s.answerEnables a.val).modLife a.val (fun l => { l with held := none })).beginEnable a.val
      none).heldOutcome c 0x0401 a.val 0 0) := by
  simp [Leaves, exec_heldEnableExecute, execHeldEnableExecute, hheld, hst, hok]

theorem exec_heldEnable_refused {k : Nat} (hheld : ((s.answerEnables a.val).axis a.val).life.held = some c)
    (hst : (s.answerEnables a.val).axState a.val = .disabled)
    (hno : ((s.answerEnables a.val).modLife a.val (fun l => { l with held := none })).enableRefusal a.val = some k) :
    Leaves (.heldEnableExecute (.axis a)) s (((s.answerEnables a.val).modLife a.val (fun l => { l with held := none })).heldOutcome c
      0x0401 a.val 1 k) := by
  simp [Leaves, exec_heldEnableExecute, execHeldEnableExecute, hheld, hst, hno]

end HeldAxis

section HeldOutput

variable {s : State} {j : FqIx} {c : CmdCtx}

theorem exec_heldOutput_waits (hheld : s.heldOut j.val = some c) (hbusy : (s.fq j.val).therm = true ∨ (s.fq j.val).demag = true) :
    Leaves (.heldEnableExecute (.output j)) s s := by
  simp [Leaves, exec_heldEnableExecute, execHeldEnableExecute, hheld, hbusy]

theorem exec_heldOutput_on (hheld : s.heldOut j.val = some c) (htherm : (s.fq j.val).therm = false) (hdemag : (s.fq j.val).demag = false)
    (hlatch : (s.setHeldOut j.val none).fqLatched j.val = false) (hsafety : (s.setHeldOut j.val none).safetyOut j.val = false) :
    Leaves (.heldEnableExecute (.output j)) s (((s.setHeldOut j.val none).setCmd j.val true).heldOutcome c 0x0D01 j.val 0 0) := by
  simp [Leaves, exec_heldEnableExecute, execHeldEnableExecute, hheld, htherm, hdemag, hlatch, hsafety]

end HeldOutput

/-- Settles O25: each event at its guard, the fault by its reaction, and the enables that waited by the state of their axis. -/
theorem axisTransitions : Obligations.AxisTransitions := by
  unfold Obligations.AxisTransitions
  refine ⟨?byTime, ?byFault, ?held⟩
  case byTime =>
    intro s a k x l ms goes stop braking
    exact ⟨exec_enableComplete_due, exec_enableComplete_waits, exec_enTimeout_due, exec_stopConfirm_stopping, exec_stopConfirm_fault,
      exec_stopConfirm_waits, exec_brakeTElapsed_due, exec_holdMax_over, exec_ageFault_over, exec_ageFault_parked⟩
  case byFault =>
    intro s a cause _ t l l0 harder
    have hharder : (s.reactionSto a cause && !(s.axis a).life.stoPath && !(s.axis a).life.reactDone) = true ↔ harder := by
      simp [harder, l0, and_assoc]
    refine ⟨?again, ?harder, ?enters, ?disabled, ?sto, ?event⟩
    case again => exact fun hst h => (State.axisFault_of_fault hst).trans (if_neg (mt hharder.mp h))
    case harder => exact fun hst h => (State.axisFault_of_fault hst).trans (if_pos (hharder.mpr h))
    case enters =>
      intro hst
      simp only [l, t, State.axisFault_life hst]
      exact ⟨rfl, rfl, rfl, rfl, rfl, s.faultReaction_held a cause⟩
    case disabled =>
      intro hst
      simp only [l, t, State.axisFault_life (hst ▸ (by decide) : s.axState a ≠ .fault)]
      exact ⟨decide_eq_true hst, State.faultReaction_stoPath_of_disabled hst cause⟩
    case sto =>
      intro hst hdis hsto
      simp only [l, t, State.axisFault_life hst]
      exact State.faultReaction_stoPath_of_sto hdis hsto
    case event => exact fun hst hg => State.axisFault_history hst hg cause
  case held =>
    intro s a j c u bare dropped
    exact ⟨exec_heldEnable_none, exec_heldEnable_waits, State.answerEnables_nil,
      fun k hwait hpast => ⟨State.answerEnables_enabled hwait hpast, State.answerEnables_stopping hwait hpast⟩,
      exec_heldEnable_accepted, fun k => exec_heldEnable_refused, exec_heldOutput_on, exec_heldOutput_waits⟩

end Sys2Proof.Machine
end

section
/-! The move list: its commands, the checks of an entry, and its events (R244 to R249, R264, R447 to R452). -/

namespace Sys2Proof.Machine

open Sys2Proof.Claims

theorem exec_movAdd (c : CmdCtx) (entries : List MoveEntry) (s : State) : exec (.movAdd c entries) s = execMovAdd c entries s := rfl
theorem exec_movDelete (c : CmdCtx) (seq : BitVec 32) (s : State) : exec (.movDelete c seq) s = execMovDelete c seq s := rfl
theorem exec_movClear (c : CmdCtx) (grp : BitVec 8) (s : State) : exec (.movClear c grp) s = execMovClear c grp s := rfl
theorem exec_movResume (c : CmdCtx) (s : State) : exec (.movResume c) s = execMovResume c s := rfl
theorem exec_movRead (c : CmdCtx) (seq : BitVec 32) (s : State) : exec (.movRead c seq) s = execMovRead c seq s := rfl
theorem exec_movAddLand (s : State) : exec .movAddLand s = execMovAddLand s := rfl
theorem exec_moveListPass (s : State) : exec .moveListPass s = execMoveListPass s := rfl
theorem exec_captureEvent (seq : BitVec 32) (s : State) : exec (.captureEvent seq) s = execCaptureEvent seq s := rfl
theorem exec_flushLost (seq : BitVec 32) (s : State) : exec (.flushLost seq) s = execFlushLost seq s := rfl
theorem exec_lineDisagree (s : State) : exec .lineDisagree s = execLineDisagree s := rfl
theorem exec_lineLost (s : State) : exec .lineLost s = execLineLost s := rfl
theorem exec_lineRevalid (s : State) : exec .lineRevalid s = execLineRevalid s := rfl
theorem exec_switchBack (s : State) : exec .switchBack s = execSwitchBack s := rfl

/-! MOV_ADD (R248, R451). -/

/-- The entries of a MOV_ADD with their statuses. -/
def State.addResults (t : State) (entries : List MoveEntry) : List (MoveEntry × Nat) := t.moveStatuses t.seqsTaken entries

/-- The new entries of those that passed their checks. -/
def acceptedItems (rs : List (MoveEntry × Nat)) : List MoveItem := (rs.filter (fun r => decide (r.2 = 0))).map (fun r => newItem r.1)

section MovAdd

variable {s : State} {c : CmdCtx} {entries : List MoveEntry}

theorem movAdd_lenOk_iff : (decide (1 ≤ entries.length) && decide (entries.length ≤ s.perPacket c 6 44)) = true
    ↔ 1 ≤ entries.length ∧ entries.length ≤ if ((s.takeUp c).session c.slot.val).source = .pcie then 6 else 44 := by
  rw [s.perPacket_eq c]
  simp

theorem exec_movAdd_badLength (hacts : Acts s c 0x0601 2) (hform : ¬ (1 ≤ entries.length ∧ entries.length
    ≤ if ((s.takeUp c).session c.slot.val).source = .pcie then 6 else 44)) :
    Replies (.movAdd c entries) s c 0x0601 0x0101 [] (s.takeUp c) :=
  (exec_host_badLength (exec_movAdd c entries s) hacts (Bool.eq_false_iff.mpr (mt movAdd_lenOk_iff.mp hform)) :)

theorem exec_movAdd_refused (hacts : Acts s c 0x0601 2) (hform : 1 ≤ entries.length ∧ entries.length
    ≤ if ((s.takeUp c).session c.slot.val).source = .pcie then 6 else 44) (hok : acceptedItems ((s.takeUp c).addResults entries) = []) :
    Replies (.movAdd c entries) s c 0x0601 (firstRefusal (((s.takeUp c).addResults entries).map (·.2)))
      ((((s.takeUp c).addResults entries).map (·.2)).flatMap (be 2)) (s.takeUp c) :=
  (exec_host_takes (a := .refuse _ _) (exec_movAdd c entries s) hacts (movAdd_lenOk_iff.mpr hform) (if_pos hok) :)

/-- The accepted entries wait for the boundary, with the statuses of all. -/
theorem exec_movAdd_waits (hacts : Acts s c 0x0601 2) (hform : 1 ≤ entries.length ∧ entries.length
    ≤ if ((s.takeUp c).session c.slot.val).source = .pcie then 6 else 44) (hok : acceptedItems ((s.takeUp c).addResults entries) ≠ []) :
    Leaves (.movAdd c entries) s ((s.takeUp c).modMoves (fun m => { m with waiting := m.waiting ++ [⟨c,
      acceptedItems ((s.takeUp c).addResults entries), ((s.takeUp c).addResults entries).map (·.2), s.cyc.cycle⟩] })) :=
  (exec_host_takes (exec_movAdd c entries s) hacts (movAdd_lenOk_iff.mpr hform) (if_neg hok) :).trans (by simp; rfl)

end MovAdd

/-- Where every accepted entry's SEQ is free and the list has room, landing changes no status. -/
theorem landStatuses_eq_self {taken : List Nat} (sts : List Nat) (room : Nat) (xs : List MoveItem)
    (hfree : ∀ x ∈ xs, x.seqN ∉ taken) (hroom : xs.length ≤ room)
    (hcount : (sts.filter (fun st => decide (st = 0))).length = xs.length) : landStatuses taken room sts xs = sts := by
  induction sts generalizing room xs with
  | nil => simp [landStatuses]
  | cons st sts ih =>
    cases xs with
    | nil => rfl
    | cons x xs =>
      by_cases hst : st = 0
      · have hx : x.seqN ∉ taken := hfree x (by simp)
        have hrest := ih (room - 1) xs (fun y hy => hfree y (by simp [hy])) (by simp at hroom; omega) (by simpa [hst] using hcount)
        have hplace : room ≠ 0 := by
          rintro rfl
          simp at hroom
        simp [landStatuses, stDone, hst, hx, hplace, hrest]
      · have hrest := ih room (x :: xs) hfree hroom (by simpa [hst] using hcount)
        simp [landStatuses, stDone, hst, hrest]

theorem State.landMoves_free {s : State} {w : MovWait} (hfree : ∀ x ∈ w.items, ∀ y ∈ s.moves.items, x.seqN ≠ y.seqN)
    (hroom : s.moves.items.length + w.items.length ≤ 4096)
    (hcount : (w.statuses.filter (fun st => decide (st = 0))).length = w.items.length) :
    s.landMoves w = (s.modMoves (fun m => { m with items := m.items ++ w.items })).replyLater w.ctx 0x0601 (firstRefusal w.statuses)
      (w.statuses.flatMap (be 2)) := by
  have htaken : ∀ x ∈ w.items, x.seqN ∉ s.seqsTaken := by
    intro x hx hin
    obtain ⟨y, hy, heq⟩ := List.mem_map.mp hin
    exact hfree x hx y hy heq.symm
  have hplaces : w.items.length ≤ 4096 - s.seqsTaken.length := by
    simp only [State.seqsTaken, List.length_map]
    omega
  have hfits : (w.items.filter (fun x => !s.seqsTaken.contains x.seqN)).take (4096 - s.seqsTaken.length) = w.items := by
    rw [List.filter_eq_self.mpr (by simpa using htaken), List.take_of_length_le hplaces]
  simp only [State.landMoves, hfits, landStatuses_eq_self w.statuses _ w.items htaken hplaces hcount]

theorem exec_movAddLand_one {s : State} {w : MovWait} (hw : s.moves.waiting = [w]) (hpast : s.boundaryPast w.cycle = true)
    (hfree : ∀ x ∈ w.items, ∀ y ∈ s.moves.items, x.seqN ≠ y.seqN) (hroom : s.moves.items.length + w.items.length ≤ 4096)
    (hcount : (w.statuses.filter (fun st => decide (st = 0))).length = w.items.length) :
    Leaves .movAddLand s ((s.modMoves (fun m => { m with waiting := [], items := m.items ++ w.items })).replyLater w.ctx 0x0601
      (firstRefusal w.statuses) (w.statuses.flatMap (be 2))) := by
  have hland : (s.modMoves (fun m => { m with waiting := [] })).landMoves w = _ := State.landMoves_free hfree hroom hcount
  rw [Leaves, exec_movAddLand]
  simp only [execMovAddLand, hw, hpast, List.filter_cons, List.filter_nil, if_true, Bool.not_true, Bool.false_eq_true, if_false,
    List.foldr_cons, List.foldr_nil, insertWait, List.foldl_cons, List.foldl_nil]
  exact congrArg Host.Outcome.next hland

/-! MOV_DELETE, MOV_CLEAR, MOV_RESUME and MOV_READ (R249, R450, R452). -/

/-- An entry leaves the list, and its order is taken back when it has left. -/
def State.dropMove (s : State) (x : MoveItem) : State := (if x.state = .dispatched then s.cancelMove x else s).freeMove x.seqN

section MoveCommands

variable {s : State} {c : CmdCtx} {seq : BitVec 32} {grp : BitVec 8} {x : MoveItem}

theorem exec_movDelete_none (hacts : Acts s c 0x0602 2) (hx : (s.takeUp c).move seq.toNat = none) :
    Replies (.movDelete c seq) s c 0x0602 0x0105 [] (s.takeUp c) :=
  (exec_host_takes (a := .refuse 0x0105 []) (exec_movDelete c seq s) hacts rfl (by simp only [hx]; rfl) :)

theorem exec_movDelete_committed (hacts : Acts s c 0x0602 2) (hx : (s.takeUp c).move seq.toNat = some x) (hst : x.state = .committed) :
    Replies (.movDelete c seq) s c 0x0602 0x0301 [] (s.takeUp c) :=
  (exec_host_takes (a := .refuse 0x0301 []) (exec_movDelete c seq s) hacts rfl (by simp only [hx, if_pos hst]; rfl) :)

theorem exec_movDelete_done (hacts : Acts s c 0x0602 2) (hx : (s.takeUp c).move seq.toNat = some x) (hseq : x.seqN = seq.toNat)
    (hst : x.state ≠ .committed) : Replies (.movDelete c seq) s c 0x0602 0 [] ((s.takeUp c).dropMove x) :=
  (exec_host_takes (a := .ok ((s.takeUp c).dropMove x) 0 []) (exec_movDelete c seq s) hacts rfl
    (by simp only [hx, if_neg hst]; rw [State.dropMove, hseq]; rfl) :)

/-- The entries that MOV_CLEAR of a group, or of all, takes. -/
def State.clearedMoves (t : State) (grp : BitVec 8) : List MoveItem :=
  t.moves.items.filter (fun x => (decide (grp = 0xFE) || decide (x.e.grp = grp)) && decide (x.state ≠ .committed))

theorem exec_movClear_badValue (hacts : Acts s c 0x0603 2) (hgrp : 31 < grp.toNat ∧ grp.toNat < 0xFE) :
    Replies (.movClear c grp) s c 0x0603 0x0105 [] (s.takeUp c) :=
  (exec_host_takes (a := .refuse 0x0105 []) (exec_movClear c grp s) hacts rfl (if_pos hgrp) :)

theorem exec_movClear_done (hacts : Acts s c 0x0603 2) (hgrp : ¬ (31 < grp.toNat ∧ grp.toNat < 0xFE)) :
    Replies (.movClear c grp) s c 0x0603 0 (be 2 ((s.takeUp c).clearedMoves grp).length)
      (((s.takeUp c).clearedMoves grp).foldl State.dropMove (s.takeUp c)) :=
  (exec_host_takes (a := .ok (((s.takeUp c).clearedMoves grp).foldl State.dropMove (s.takeUp c)) 0 _) (exec_movClear c grp s) hacts rfl
    (if_neg hgrp) :)

/-- The HELD entries whose groups are in NORMAL. -/
def State.resumedMoves (t : State) : List MoveItem :=
  t.moves.items.filter (fun x => decide (x.state = .held) && (decide (x.e.grp = 0xFF) || decide (t.groupState x.e.grp.toNat = 0))
    && (decide (x.act ≠ actStart) || decide (t.groupState (t.parN 0x08200001 x.e.axis.toNat) = 0)))

theorem exec_movResume_done (hacts : Acts s c 0x0604 2) : Replies (.movResume c) s c 0x0604 0 (be 2 (s.takeUp c).resumedMoves.length)
    ((s.takeUp c).resumedMoves.foldl (fun (u : State) x => u.setMove x.arm) (s.takeUp c)) :=
  (exec_host_takes (exec_movResume c s) hacts rfl rfl :)

theorem exec_movRead_none (hreads : Reads s c 0x0605 1) (hx : (s.takeUp c).move seq.toNat = none) :
    Replies (.movRead c seq) s c 0x0605 0x0105 [] (s.takeUp c) :=
  (exec_host_takes (a := .refuse 0x0105 []) (exec_host_of_hostAt (exec_movRead c seq s) hreads rfl) hreads rfl
    (by simp only [hx]; rfl) :)

theorem exec_movRead_done (hreads : Reads s c 0x0605 1) (hx : (s.takeUp c).move seq.toNat = some x) :
    Replies (.movRead c seq) s c 0x0605 0 (entryBytes x.e ++ be 1 (moveCode x.state) ++ t80Bytes x.ts
      ++ beI 4 (clampI (-2147483648) 2147483647 x.resid)) (s.takeUp c) :=
  (exec_host_takes (a := .ok (s.takeUp c) 0 _) (exec_host_of_hostAt (exec_movRead c seq s) hreads rfl) hreads rfl
    (by simp only [hx]; rfl) :)

end MoveCommands

/-! The status of an entry (R247, R248). -/

/-- An entry whose fields are outside Table RUN-1, or whose SEQ is taken. -/
def State.entryMalformed (s : State) (taken : List Nat) (e : MoveEntry) : Prop :=
  e.seq = 0 ∨ e.seq.toNat ∈ taken ∨ e.action.toNat = 0 ∨ 4 < e.action.toNat
    ∨ (e.action.toNat = 1 ∧ (7 < e.target.toNat ∨ 1 < e.outAct.toNat))
    ∨ (e.action.toNat = 2 ∧ (7 < e.seg.toNat ∨ e.target = 0 ∨ 127 < e.target.toNat ∨ 2 < e.outAct.toNat))
    ∨ ((e.action.toNat = 3 ∨ e.action.toNat = 4) ∧ 255 < e.axis.toNat)
    ∨ (e.action.toNat = 3 ∧ segFirm ≤ e.segment.toNat ∧ e.segment ≠ 0xFFFF)
    ∨ 10000 < e.tol.toNat ∨ (31 < e.grp.toNat ∧ e.grp ≠ 0xFF) ∨ (s.loopLen ≠ 0 ∧ s.loopLen ≤ e.trigger.toNat)

section MoveStatus

variable {s : State} {taken : List Nat} {e : MoveEntry}

theorem State.moveStatus_malformed (h : s.entryMalformed taken e) : s.moveStatus taken e = 0x0105 :=
  if_pos (by simpa [State.entryMalformed, or_assoc, and_assoc] using h)

/-- A well-formed entry meets the state of its node, the safety outputs and the room of the list. -/
theorem State.moveStatus_wellFormed (h : ¬ s.entryMalformed taken e) : s.moveStatus taken e =
    if e.action.toNat = 2 ∧ ((s.exchange e.seg.toNat e.target.toNat).isNone = true ∨ (s.seg e.seg.toNat).phase = .test) then 0x0301
    else if e.action.toNat = 1 ∧ s.safetyOut e.target.toNat = true then 0x0505
    else if 4096 ≤ taken.length then 0x0404 else 0 :=
  if_neg (mt (by simp [State.entryMalformed, or_assoc, and_assoc]) h)

theorem State.moveStatus_values (s : State) (taken : List Nat) (e : MoveEntry) : s.moveStatus taken e = 0
    ∨ s.moveStatus taken e = 0x0105 ∨ s.moveStatus taken e = 0x0301 ∨ s.moveStatus taken e = 0x0505 ∨ s.moveStatus taken e = 0x0404 := by
  by_cases h : s.entryMalformed taken e
  · exact .inr (.inl (State.moveStatus_malformed h))
  · rw [State.moveStatus_wellFormed h]
    split_ifs <;> simp

theorem State.moveStatus_done (h : s.moveStatus taken e = 0) : ¬ s.entryMalformed taken e ∧ taken.length < 4096 := by
  have hform : ¬ s.entryMalformed taken e := fun hbad => by simp [State.moveStatus_malformed hbad] at h
  rw [State.moveStatus_wellFormed hform] at h
  refine ⟨hform, ?_⟩
  split_ifs at h
  omega

end MoveStatus

/-! The events of the list and of the line (R27, R244 to R246, R264). -/

section Events

variable {s : State} {seq : BitVec 32} {x : MoveItem} {q : Capture} {f : FposHist} {hs : List FposHist}

theorem exec_moveListPass_due (hdone : s.eng.lineDone = some s.cyc.cycle) (hrun : s.cyc.running = true)
    (hpass : s.cyc.movePassed ≠ some s.cyc.cycle) : Leaves .moveListPass s (s.movePass s.cyc.cycle) := by
  simp [Leaves, exec_moveListPass, execMoveListPass, whenB, hdone, hrun, hpass]

theorem exec_moveListPass_waits (h : s.eng.lineDone = none ∨ s.cyc.running = false) : Leaves .moveListPass s s := by
  rw [Leaves, exec_moveListPass, execMoveListPass]
  rcases h with h | h
  · rw [h]
  · cases s.eng.lineDone <;> simp [whenB, h]

theorem exec_captureEvent_none (hq : s.moves.captures.find? (fun (c : Capture) => decide (c.seq = seq)) = none) :
    Leaves (.captureEvent seq) s s := by
  rw [Leaves, exec_captureEvent, execCaptureEvent, hq]

/-- The newest position of the axis is that of the capture's sample: its task has run. -/
theorem exec_captureEvent_newest (hq : s.moves.captures.find? (fun (c : Capture) => decide (c.seq = seq)) = some q)
    (hhist : (s.axis q.axis).law.fposHist = f :: hs) (hsample : f.n = q.sample) :
    Leaves (.captureEvent seq) s ((s.modMoves (fun m => { m with captures := m.captures.erase q })).raise 0x0601 0 q.axis
      (be 4 seq.toNat ++ t80Bytes q.fire ++ beI 6 q.pos ++ beI 6 f.fpos ++ [BitVec.ofNat 8 (b2n f.predicted)])) := by
  simp [Leaves, exec_captureEvent, execCaptureEvent, hq, hhist, hsample]

theorem exec_flushLost_lost (hx : s.move seq.toNat = some x) (hwatch : x.watch = true) (hst : x.state = .committed)
    (hexch : 3 ≤ x.exchanges) :
    Leaves (.flushLost seq) s ((s.moveDone x).modMoves (fun m => { m with flushLost := inc32 m.flushLost })) := by
  simp [Leaves, exec_flushLost, execFlushLost, whenB, hx, hwatch, hst, hexch]

theorem exec_flushLost_waits (hx : s.move seq.toNat = some x) (h : x.watch = false ∨ x.state ≠ .committed ∨ x.exchanges < 2) :
    Leaves (.flushLost seq) s s := by
  simp only [Leaves, exec_flushLost, execFlushLost, hx, whenB]
  rw [if_neg]
  rcases h with h | h | h
  · simp [h]
  · simp [h]
  · have h3 : ¬ 3 ≤ x.exchanges := by omega
    have h2 : ¬ x.exchanges = 2 := by omega
    simp [h3, h2]

theorem exec_lineDisagree_due (hdis : s.line.disagree = false) (hrun : s.parN 0x041101D5 0 ≤ s.line.discRun) :
    Leaves .lineDisagree s (State.raise { s with line := { s.line with disagree := true } } 0x0604 1 0
      (beI 4 (clampI (-2147483648) 2147483647 s.line.disc))) := by
  simp [Leaves, exec_lineDisagree, execLineDisagree, whenB, hdis, hrun]

theorem exec_lineDisagree_waits (h : s.line.disagree = true ∨ s.line.discRun < s.parN 0x041101D5 0) : Leaves .lineDisagree s s := by
  rcases h with h | h <;> simp [Leaves, exec_lineDisagree, execLineDisagree, whenB, h, Nat.not_le.mpr]

theorem exec_lineLost_fault (hvalid : s.line.valid = true) (hfault : s.line.taskFault = true) :
    Leaves .lineLost s ((State.raise { s with line := { s.line with valid := false, lost := true, lostCause := 0, taskFault := false } }
      0x0606 2 0 [BitVec.ofNat 8 0]).holdForLine) := by
  simp [Leaves, exec_lineLost, execLineLost, hvalid, hfault]

theorem exec_lineLost_noCount (hvalid : s.line.valid = true) (hfault : s.line.taskFault = false)
    (hrun : s.parN 0x041101D6 0 < s.line.noCount) :
    Leaves .lineLost s ((State.raise { s with line := { s.line with valid := false, lost := true, lostCause := 1, taskFault := false } }
      0x0606 2 0 [BitVec.ofNat 8 1]).holdForLine) := by
  simp [Leaves, exec_lineLost, execLineLost, hvalid, hfault, hrun]

theorem exec_lineLost_invalid (hvalid : s.line.valid = false) : Leaves .lineLost s s := by
  simp [Leaves, exec_lineLost, execLineLost, hvalid]

theorem exec_lineRevalid_due (hvalid : s.line.valid = false) (hever : s.line.everValid = true) (hnew : s.line.newCount = true)
    (hdone : s.eng.lineDone = some s.cyc.cycle) :
    Leaves .lineRevalid s { s with line := { s.line with valid := true, taskFault := false } } := by
  simp [Leaves, exec_lineRevalid, execLineRevalid, whenB, hvalid, hever, hnew, hdone]

theorem exec_switchBack_unasked (h : s.line.switchBack = false) : Leaves .switchBack s s := by
  simp [Leaves, exec_switchBack, execSwitchBack, h]

theorem exec_switchBack_onPrimary (h : s.line.switchBack = true) (hon : s.line.onB = false) :
    Leaves .switchBack s { s with line := { s.line with switchBack := false } } := by
  simp [Leaves, exec_switchBack, execSwitchBack, h, hon]

theorem exec_switchBack_done (h : s.line.switchBack = true) (hon : s.line.onB = true) (hdelivers : s.primaryDelivers = true)
    (hsound : s.primaryFaulted = false) : Leaves .switchBack s
      (({ s with line := { s.line with switchBack := false, onB := false, switched := false } }).captureLineOfs) := by
  simp [Leaves, exec_switchBack, execSwitchBack, h, hon, hdelivers, hsound]

end Events

/-- Settles O30: each command by its body's branch, the checks of an entry, the landing whole, and each event at its guard. -/
theorem moveList : Obligations.MoveList := by
  unfold Obligations.MoveList
  refine ⟨?commands, ?status, ?events⟩
  case commands =>
    intro s c entries seq grp x w t most form rs sts ok drop hit named ready del clear
    exact ⟨exec_movAdd_badLength, exec_movAdd_refused, exec_movAdd_waits, exec_movAddLand_one,
      fun hx hacts => exec_movDelete_none hacts hx, fun hx hst hacts => exec_movDelete_committed hacts hx hst,
      fun hx hseq hst hacts => exec_movDelete_done hacts hx hseq hst,
      fun hgrp hacts => exec_movClear_badValue hacts (not_not.mp hgrp), fun hgrp hacts => exec_movClear_done hacts hgrp,
      exec_movResume_done, exec_movRead_none, exec_movRead_done⟩
  case status =>
    intro s taken e a st
    refine ⟨?identity, ?group, ?tolerance, ?trigger, ?axis, ?accepted, s.moveStatus_values taken e⟩
    case identity => exact fun h => State.moveStatus_malformed (h.imp_right (Or.imp_right (Or.imp_right Or.inl)))
    case group =>
      exact fun h h' => State.moveStatus_malformed (by simp [State.entryMalformed, h, show e.grp ≠ 255#8 from h'])
    case tolerance => exact fun h => State.moveStatus_malformed (by simp [State.entryMalformed, h])
    case trigger => exact fun h h' => State.moveStatus_malformed (by simp [State.entryMalformed, h, h'])
    case axis =>
      intro (h : e.action.toNat = 3 ∨ e.action.toNat = 4) h'
      exact State.moveStatus_malformed (by simp [State.entryMalformed, h, h'])
    case accepted =>
      intro h
      obtain ⟨hform, hroom⟩ := State.moveStatus_done h
      simp only [State.entryMalformed, not_or, Nat.not_lt] at hform
      obtain ⟨hseq, hfree, haction, hkind, -⟩ := hform
      exact ⟨hseq, hfree, Nat.pos_of_ne_zero haction, hkind, hroom⟩
  case events =>
    intro s seq k x q f hs l lost
    exact ⟨exec_moveListPass_due, exec_moveListPass_waits, exec_captureEvent_newest, exec_captureEvent_none, exec_flushLost_lost,
      exec_flushLost_waits, exec_lineDisagree_due, exec_lineDisagree_waits, exec_lineLost_fault, exec_lineLost_noCount,
      exec_lineLost_invalid, exec_lineRevalid_due, exec_switchBack_unasked, exec_switchBack_onPrimary, exec_switchBack_done⟩

end Sys2Proof.Machine
end

section
/-! The frame codec: what is sealed is read back (R50, R52, R54, R55, Tables FRM-2 and FRM-4). -/

namespace Sys2Proof.Machine

/-! Bytes. -/

theorem length_leBytes (n v : Nat) : (le n v).length = n := by
  induction n generalizing v with
  | zero => rfl
  | succ n ih => simp [le, ih]

theorem unle_le (n v : Nat) : unle (le n v) = v % 256 ^ n := by
  induction n generalizing v with
  | zero => simp [le, unle, Nat.mod_one]
  | succ n ih =>
    have hrest : unle (le n (v / 256)) = v / 256 % 256 ^ n := ih (v / 256)
    calc unle (le (n + 1) v) = unle (le n (v / 256)) * 256 + v % 256 := by simp [le, unle]
      _ = v % 256 + 256 * (v / 256 % 256 ^ n) := by rw [hrest]; ring
      _ = v % 256 ^ (n + 1) := by rw [pow_succ', Nat.mod_mul]

theorem unbe_be2 (v : Nat) (h : v < 65536) : unbe (be 2 v) = v := by
  simp [unbe, be]
  omega

theorem unbe_be4 (v : Nat) (h : v < 4294967296) : unbe (be 4 v) = v := by
  simp [unbe, be]
  omega

/-- The reversal of n bits has n bits. -/
theorem reflect_lt (n v : Nat) : reflect n v < 2 ^ n := by
  induction n generalizing v with
  | zero => simp [reflect]
  | succ n ih =>
    have hrest : reflect n (v / 2) < 2 ^ n := ih (v / 2)
    have hbit : v % 2 * 2 ^ n ≤ 1 * 2 ^ n := Nat.mul_le_mul_right _ (by omega)
    rw [reflect, pow_succ]
    omega

/-! The check code of a sealed frame (R52, R55). -/

theorem unle_le_crc32 (bs : List Byte) : unle (le 4 (crc32 bs)) = crc32 bs := by
  rw [unle_le]
  exact Nat.mod_eq_of_lt (reflect_lt 32 _)

/-- A CRC put behind a header and a payload fits. -/
theorem frameCrcOk_append_crc (body : List Byte) (h : 12 ≤ body.length) : frameCrcOk (body ++ le 4 (crc32 body)) = true := by
  simp [frameCrcOk, length_leBytes, unle_le_crc32, h]

/-! The header (Table FRM-2). -/

theorem Hdr.length_bytes (h : Hdr) : h.bytes.length = 12 := rfl

theorem length_sealFrame (h : Hdr) (pl : List Byte) : (sealFrame h pl).length = 16 + pl.length := by
  simp only [sealFrame, List.length_append, Hdr.length_bytes, length_leBytes]
  omega

theorem sealFrame_payload (h : Hdr) (pl : List Byte) : ((sealFrame h pl).drop 12).take pl.length = pl := by
  rw [sealFrame, List.append_assoc, List.drop_left' h.length_bytes, List.take_left]

/-- The first payload byte follows the header. -/
theorem byteAt_sealFrame_payload (h : Hdr) (pl : List Byte) (hpl : pl ≠ []) : byteAt (sealFrame h pl) 12 = byteAt pl 0 := by
  obtain ⟨b, bs, rfl⟩ := List.exists_cons_of_ne_nil hpl
  rfl

/-- The flags of byte 1 are read back bit by bit. -/
theorem nbit_flagByte (aged loop dir safe takeBack : Bool) :
    let b := (BitVec.ofNat 8 (flagWord [(7, aged), (6, loop), (5, dir), (4, safe), (3, takeBack)])).toNat
    nbit b 7 = aged ∧ nbit b 6 = loop ∧ nbit b 5 = dir ∧ nbit b 4 = safe ∧ nbit b 3 = takeBack := by
  revert aged loop dir safe takeBack
  decide

/-- The M bit of SLOT stands over the 15 bits of N. -/
theorem slotWord_bounds (m : Bool) (n : Nat) (h : n < 32768) :
    b2n m * 0x8000 + n < 65536 ∧ nbit (b2n m * 0x8000 + n) 15 = m ∧ (b2n m * 0x8000 + n) % 0x8000 = n := by
  cases m <;> simp [b2n, nbit] <;> omega

/-- The values that the fields of a header hold without loss (Table FRM-2). -/
structure Hdr.Fits (h : Hdr) : Prop where
  kind : h.kind < 16
  ver : h.ver < 16
  seg : h.seg < 8
  src : h.src < 256
  slotN : h.slotN < 32768
  cyc : h.cyc < 4294967296
  age : h.age < 256
  len : h.len < 256

theorem parseHdr_append (h : Hdr) (rest : List Byte) (hf : h.Fits) : parseHdr (h.bytes ++ rest) = h := by
  obtain ⟨hkind, hver, hseg, hsrc, hslot, hcyc, hage, hlen⟩ := hf
  obtain ⟨h7, h6, h5, h4, h3⟩ := nbit_flagByte h.aged h.loop h.dir h.safe h.takeBack
  obtain ⟨hword, hm, hn⟩ := slotWord_bounds h.slotM h.slotN hslot
  have slot : field (h.bytes ++ rest) 4 2 = b2n h.slotM * 0x8000 + h.slotN := unbe_be2 _ hword
  have cyc : field (h.bytes ++ rest) 6 4 = h.cyc := unbe_be4 _ hcyc
  have b0 : (byteAt (h.bytes ++ rest) 0).toNat = h.kind * 16 + h.ver := Nat.mod_eq_of_lt (by omega)
  have b2 : (byteAt (h.bytes ++ rest) 2).toNat = h.seg := Nat.mod_eq_of_lt (by omega)
  have b3 : (byteAt (h.bytes ++ rest) 3).toNat = h.src := Nat.mod_eq_of_lt (by omega)
  have b10 : (byteAt (h.bytes ++ rest) 10).toNat = h.age := Nat.mod_eq_of_lt (by omega)
  have b11 : (byteAt (h.bytes ++ rest) 11).toNat = h.len := Nat.mod_eq_of_lt (by omega)
  have b1 : byteAt (h.bytes ++ rest) 1 =
    BitVec.ofNat 8 (flagWord [(7, h.aged), (6, h.loop), (5, h.dir), (4, h.safe), (3, h.takeBack)]) := rfl
  have kind : (h.kind * 16 + h.ver) / 16 = h.kind := by omega
  have ver : (h.kind * 16 + h.ver) % 16 = h.ver := by omega
  simp only [parseHdr, slot, cyc, b0, b1, b2, b3, b10, b11, kind, ver, h7, h6, h5, h4, h3, hm, hn, Nat.mod_eq_of_lt hseg]

/-- What R54 and R55 ask of the version, the length and the source. -/
theorem hdrOk_facts {n : Nat} {h : Hdr} {total op : Nat} (hok : hdrOk n h total op = true) :
    h.ver = 1 ∧ lenOk h.kind h.len h.src op = true ∧ h.src < 128 := by
  simp only [hdrOk, Bool.and_eq_true, decide_eq_true_eq] at hok
  obtain ⟨⟨⟨⟨⟨⟨⟨hver, hlen⟩, hsrc⟩, -⟩, -⟩, -⟩, -⟩, -⟩ := hok
  exact ⟨hver, hlen, hsrc⟩

/-- No type goes without a payload (Table FRM-4). -/
@[simp] theorem lenOk_zero (kind src op : Nat) : lenOk kind 0 src op = false := by
  unfold lenOk
  split <;> simp [eq_ite_iff]

/-- Settles O32: the sealed CRC fits, the header parses back, and the payload lies where LEN says. -/
theorem frameCodecRoundTrip : Obligations.FrameCodecRoundTrip := by
  unfold Obligations.FrameCodecRoundTrip
  intro p h pl sfd hkind hlen hage hcyc hslot hseg hpl hok
  obtain ⟨hver, hlenOk, hsrc⟩ := hdrOk_facts hok
  have hne : pl ≠ [] := by
    rintro rfl
    have hzero : h.len = 0 := by simpa using hpl
    simp [hzero] at hlenOk
  have fits : h.Fits := ⟨hkind, by omega, hseg, by omega, hslot, hcyc, hage, hlen⟩
  have hcrc : frameCrcOk (sealFrame h pl) = true := frameCrcOk_append_crc _ (by simp [h.length_bytes])
  have hparse : parseHdr (sealFrame h pl) = h := by
    rw [sealFrame, List.append_assoc]
    exact parseHdr_append h _ fits
  have hpayload : ((sealFrame h pl).drop 12).take (4 * h.len) = pl := hpl ▸ sealFrame_payload h pl
  simp [rxClass, hcrc, hparse, length_sealFrame, hpl, byteAt_sealFrame_payload h pl hne, hok, hpayload]

end Sys2Proof.Machine
end

section
/-! The in-band and MDIO reports of a link that is down already (R48), on a table of ports that is not in canonical form. -/

namespace Sys2Proof.Machine

open Sys2Proof.Claims

theorem exec_portLinkDown (p : PortIx) (src : LinkSource) (s : State) : exec (.portLinkDown p src) s = execPortLinkDown p src s := rfl

/-- An in-band down report of a link that is down already writes the port back as it was. -/
theorem exec_portLinkDown_inBand_down {p : PortIx} {s : State} (hmode : s.parN 0x07000001 p.val = 1) (hlink : (s.port p.val).link = false) :
    exec (.portLinkDown p .inBand) s = .next (s.setPort p.val (s.port p.val)) := by
  have back : { s.port p.val with link := false } = s.port p.val := by rw [← hlink]
  simp [exec_portLinkDown, execPortLinkDown, hmode, hlink, back]

/-- In canonical form (log 18), a table is not changed by writing a value back. -/
theorem sput_sget_of_swf {α : Type} [DecidableEq α] (d : Nat → α) (m : Sparse α) (lo k : Nat) (w : swf d lo m = true) :
    sput d m k (sget d m k) = m := by
  induction m generalizing lo with
  | nil => simp [sput, sget]
  | cons x m ih =>
    obtain ⟨j, v⟩ := x
    simp only [swf, Bool.and_eq_true, decide_eq_true_eq] at w
    obtain ⟨⟨-, hv⟩, hm⟩ := w
    rcases lt_trichotomy k j with hlt | rfl | hgt
    · simp [sput, sget, hlt]
    · simp [sput, sget, hv]
    · simp [sput, sget, hgt.not_gt, hgt.ne', ih _ hm]

/-- On ports in canonical form the report changes nothing: the premise that the clause of O33 lacks. -/
theorem exec_portLinkDown_inBand_unchanged {p : PortIx} {s : State} (hcanon : swf (fun _ => RingPort.reset) 0 s.ports = true)
    (hmode : s.parN 0x07000001 p.val = 1) (hlink : (s.port p.val).link = false) : Leaves (.portLinkDown p .inBand) s s := by
  rw [Leaves, exec_portLinkDown_inBand_down hmode hlink, State.setPort, State.port, sput_sget_of_swf _ _ 0 _ hcanon]

/-- The reset state, but its table lists port 0 with the reset values that an unlisted port has. -/
def listedResetPort : State := { State.reset with ports := [(0, RingPort.reset)] }

/-- The write-back of the listed reset port removes its entry. -/
theorem listedResetPort_writeBack : (listedResetPort.setPort 0 (listedResetPort.port 0)).ports = [] := by decide

/-- Refutes O33: with PORT_MODE = 1 and the link down, an in-band down report is said to change nothing, but it writes the port back, which
removes the entry of a port that the table lists at its reset values.  No state in canonical form (log 18) has such an entry. -/
theorem not_framesAndLinks : ¬ Obligations.FramesAndLinks := by
  unfold Obligations.FramesAndLinks
  rintro ⟨-, events⟩
  obtain ⟨-, -, -, -, -, -, -, -, -, -, -, -, unchanged, -⟩ := events listedResetPort ⟨0, [], false, 0⟩
    { kind := 0, seg := 0, slotN := 0, cyc := 0, len := 0 } [] 0 0 0 0 0 0 ⟨false, .m10, false⟩
  obtain ⟨inBand, -⟩ := unchanged (.inl rfl)
  have hmode : listedResetPort.parN 0x07000001 (0 : PortIx).val = 1 := by decide
  have hstate : listedResetPort.setPort 0 (listedResetPort.port 0) = listedResetPort :=
    Host.Outcome.next.inj ((exec_portLinkDown_inBand_down hmode rfl).symm.trans inBand)
  have hports : listedResetPort.ports = [] := (congrArg State.ports hstate).symm.trans listedResetPort_writeBack
  cases hports

end Sys2Proof.Machine
end

section
/-! The dynamic segment at the head: the messages of the nodes, its own turn, and the repeat (R76, R89, R97, R102, R103, R299, R481). -/

namespace Sys2Proof.Machine

open Sys2Proof.Claims

theorem exec_admissionRequest (f : RxFrame) (s : State) : exec (.admissionRequest f) s = execAdmissionRequest f s := rfl

theorem exec_diagnosticResponse (f : RxFrame) (s : State) : exec (.diagnosticResponse f) s = execDiagnosticResponse f s := rfl

theorem exec_nodeParameterAccess (f : RxFrame) (s : State) : exec (.nodeParameterAccess f) s = execNodeParameterAccess f s := rfl

theorem exec_acknowledge (f : RxFrame) (s : State) : exec (.acknowledge f) s = execAcknowledge f s := rfl

theorem exec_dynTurn (seg : SegIx) (ms : BitVec 8) (s : State) : exec (.dynTurn seg ms) s = execDynTurn seg ms s := rfl

theorem exec_dynRepeat (seg : SegIx) (s : State) : exec (.dynRepeat seg) s = execDynRepeat seg s := rfl

/-! What the head takes from a DYN frame (R76). -/

/-- The head after it has judged and counted a DYN frame, before any effect of its message. -/
def State.heardDyn (s : State) (f : RxFrame) : State := ((s.relay f).countDyn f ((s.relay f).judgeDyn f)).noteLoop f

/-- The frame is accepted, and brings the head on move a fragment of a MSG for node 0, the head. -/
structure State.TakesFragment (s : State) (f : RxFrame) (msg : Nat) (h : Hdr) (pl : List Byte) (r : SlotRec) (k d : Int) : Prop where
  accepted : (s.relay f).judgeDyn f = .ok h pl r k d
  onMove : (s.heardDyn f).twin.onMove = true
  msg : (byteAt pl 0).toNat = msg
  dest : byteAt pl 4 = 0

/-- The frame brings a whole message: no fragment follows it, and it is the first. -/
structure State.TakesMessage (s : State) (f : RxFrame) (msg : Nat) (h : Hdr) (pl : List Byte) (r : SlotRec) (k d : Int) : Prop
    extends s.TakesFragment f msg h pl r k d where
  last : nbit (byteAt pl 1).toNat 7 = false
  first : byteAt pl 5 = 0

section TakeDyn

variable {i : Instr} {s : State} {f : RxFrame} {msg : Nat} {h : Hdr} {pl : List Byte} {r : SlotRec} {k d : Int}
  {g : State → Nat → Nat → List Byte → State}

theorem takeDyn_message (t : s.TakesMessage f msg h pl r k d) :
    s.takeDyn f msg g = .next (g (s.heardDyn f) (f.port.val / 2) h.src pl) := by
  obtain ⟨⟨hv, hon, hmsg, hdest⟩, hlast, hfirst⟩ := t
  rw [State.heardDyn, hv] at hon
  simp only [State.takeDyn, State.heardDyn, hv]
  rw [if_pos ⟨hon, hmsg, hdest⟩, if_pos ⟨hlast, hfirst⟩]

/-- A message that is not for this row, or that no head on move hears, changes only what every frame changes. -/
theorem leaves_takeDyn_other (hi : exec i s = s.takeDyn f msg g) (hv : (s.relay f).judgeDyn f = .ok h pl r k d)
    (ho : (byteAt pl 0).toNat ≠ msg ∨ (s.heardDyn f).twin.onMove = false) : Leaves i s (s.heardDyn f) := by
  rw [State.heardDyn, hv] at ho
  simp only [Leaves, hi, State.takeDyn, State.heardDyn, hv]
  rw [if_neg]
  rintro ⟨hon, hmsg, -⟩
  rcases ho with ho | ho
  · exact ho hmsg
  · cases ho.symm.trans hon

/-- A fragment that does not complete its message joins its parts and is acknowledged. -/
theorem leaves_takeDyn_fragment (hi : exec i s = s.takeDyn f msg g) (t : s.TakesFragment f msg h pl r k d)
    (hfrag : nbit (byteAt pl 1).toNat 7 = true ∨ byteAt pl 5 ≠ 0)
    (hpart : (((s.heardDyn f).seg (f.port.val / 2)).joinFrag h.src pl).whole = none) :
    Leaves i s (((s.heardDyn f).modSeg (f.port.val / 2) (fun q => { q with
      dynParts := ((s.heardDyn f).seg (f.port.val / 2)).dynParts.filter (fun (y : DynParts) => decide (y.src ≠ h.src))
        ++ [((s.heardDyn f).seg (f.port.val / 2)).joinFrag h.src pl] })).ackDyn (f.port.val / 2) h.src pl) := by
  obtain ⟨hv, hon, hmsg, hdest⟩ := t
  have hwhole : ¬ (nbit (byteAt pl 1).toNat 7 = false ∧ byteAt pl 5 = 0) := by
    rintro ⟨hl, hf⟩
    rcases hfrag with hmore | hnext
    · simp [hl] at hmore
    · exact hnext hf
  rw [State.heardDyn, hv] at hon hpart
  simp only [Leaves, hi, State.takeDyn, State.heardDyn, hv]
  rw [if_pos ⟨hon, hmsg, hdest⟩, if_neg hwhole, hpart]

/-! The four messages (Table FRM-16). -/

theorem exec_admissionRequest_new (t : s.TakesMessage f 1 h pl r k d) (hsrc : h.src = 0) (hlen : 24 ≤ pl.length)
    (hnone : ((s.heardDyn f).seg (f.port.val / 2)).admitReq = []) :
    Leaves (.admissionRequest f) s (((s.heardDyn f).modSeg (f.port.val / 2) (fun g => { g with
      admitReq := g.admitReq ++ [⟨BitVec.ofNat 48 (field pl 8 6), (byteAt pl 14).toNat, (byteAt pl 15).toNat, field pl 16 2⟩] })).ackDyn
        (f.port.val / 2) 0 pl) := by
  rw [Leaves, exec_admissionRequest, execAdmissionRequest, takeDyn_message t]
  simp [hsrc, hlen, hnone]

theorem exec_admissionRequest_dropped (t : s.TakesMessage f 1 h pl r k d) (hbad : h.src ≠ 0 ∨ pl.length < 24) :
    Leaves (.admissionRequest f) s (s.heardDyn f) := by
  rw [Leaves, exec_admissionRequest, execAdmissionRequest, takeDyn_message t]
  simp [hbad]

theorem exec_diagnosticResponse_refused (t : s.TakesMessage f 3 h pl r k d) (hst : byteAt pl 9 ≠ 0) :
    Leaves (.diagnosticResponse f) s
      (((s.heardDyn f).ackDyn (f.port.val / 2) h.src pl).answered (f.port.val / 2) h.src (field pl 10 2)) := by
  rw [Leaves, exec_diagnosticResponse, execDiagnosticResponse, takeDyn_message t]
  simp only [if_pos hst]

/-- The node's identity (DIAG 2). -/
theorem exec_diagnosticResponse_identity (t : s.TakesMessage f 3 h pl r k d) (hst : byteAt pl 9 = 0) (hdiag : byteAt pl 8 = 2)
    (hlen : 24 ≤ pl.length) :
    Leaves (.diagnosticResponse f) s
      ((((s.heardDyn f).ackDyn (f.port.val / 2) h.src pl).answered (f.port.val / 2) h.src (field pl 10 2)).modNode (f.port.val / 2) h.src
        (fun x => { x with serial := BitVec.ofNat 48 (field pl 16 6), kind := (byteAt pl 22).toNat, axes := (byteAt pl 23).toNat })) := by
  rw [Leaves, exec_diagnosticResponse, execDiagnosticResponse, takeDyn_message t]
  simp only [hst, hdiag, hlen]
  rfl

theorem exec_nodeParameterAccess_unheeded (t : s.TakesMessage f 4 h pl r k d)
    (hbad : pl.length < 24 ∨ byteAt pl 9 ≠ 0 ∨ field pl 10 2 ≠ 1
      ∨ ((s.heardDyn f).seg (f.port.val / 2)).reqs.contains (h.src, field pl 14 2) = false) :
    Leaves (.nodeParameterAccess f) s
      (((s.heardDyn f).ackDyn (f.port.val / 2) h.src pl).answered (f.port.val / 2) h.src (field pl 14 2)) := by
  rw [Leaves, exec_nodeParameterAccess, execNodeParameterAccess, takeDyn_message t]
  simp only [if_pos hbad]

/-- A reply of STOP_GROUP that names a request of the head (R299). -/
structure State.StopGroupReply (s : State) (f : RxFrame) (h : Hdr) (pl : List Byte) : Prop where
  length : 24 ≤ pl.length
  done : byteAt pl 9 = 0
  param : field pl 10 2 = 1
  named : ((s.heardDyn f).seg (f.port.val / 2)).reqs.contains (h.src, field pl 14 2) = true

theorem State.StopGroupReply.heeded (q : s.StopGroupReply f h pl) :
    ¬ (pl.length < 24 ∨ byteAt pl 9 ≠ 0 ∨ field pl 10 2 ≠ 1
      ∨ ((s.heardDyn f).seg (f.port.val / 2)).reqs.contains (h.src, field pl 14 2) = false) := by
  obtain ⟨hlen, hst, hpar, hnamed⟩ := q
  simp only [hst, hpar, hnamed]
  simp [hlen]

/-- The write is done: the group is read back. -/
theorem exec_nodeParameterAccess_written (t : s.TakesMessage f 4 h pl r k d) (q : s.StopGroupReply f h pl) (hop : byteAt pl 8 = 0x82) :
    Leaves (.nodeParameterAccess f) s
      ((((s.heardDyn f).ackDyn (f.port.val / 2) h.src pl).answered (f.port.val / 2) h.src (field pl 14 2)).queueStopGroup
        (f.port.val / 2) h.src (field pl 12 2) 1) := by
  rw [Leaves, exec_nodeParameterAccess, execNodeParameterAccess, takeDyn_message t]
  simp only [if_neg q.heeded, hop]
  rfl

/-- The value read back is kept. -/
theorem exec_nodeParameterAccess_read (t : s.TakesMessage f 4 h pl r k d) (q : s.StopGroupReply f h pl) (hop : byteAt pl 8 = 0x81) :
    Leaves (.nodeParameterAccess f) s
      ((((s.heardDyn f).ackDyn (f.port.val / 2) h.src pl).answered (f.port.val / 2) h.src (field pl 14 2)).modNode (f.port.val / 2) h.src
        (fun x => { x with
          groupsRead := (x.groupsRead.filter (fun (p : Nat × Nat) => decide (p.1 ≠ field pl 12 2))) ++ [(field pl 12 2, field pl 16 8)] })) := by
  rw [Leaves, exec_nodeParameterAccess, execNodeParameterAccess, takeDyn_message t]
  simp only [if_neg q.heeded, hop]
  rfl

/-- The fragment that an ACK names waits no longer, and is not sent again (R89). -/
theorem exec_acknowledge_delivered (t : s.TakesMessage f 5 h pl r k d) :
    Leaves (.acknowledge f) s ((s.heardDyn f).modSeg (f.port.val / 2) (fun g =>
      let hit := fun (m : DynMsg) => decide (m.msgId = field pl 8 2 ∧ m.frag = (byteAt pl 10).toNat ∧ m.dest = h.src)
      { g with dynWait := g.dynWait.filter (fun m => !hit m), dynQ := g.dynQ.filter (fun m => !(hit m && decide (0 < m.turns))) })) := by
  rw [Leaves, exec_acknowledge, execAcknowledge, takeDyn_message t]

end TakeDyn

/-! The head's own turn and its repeats (R89, R102). -/

section Turn

variable {s : State} {seg : SegIx} {ms : BitVec 8} {m : DynMsg}

/-- Every message that waits for its ACK has seen one more turn of the head. -/
def State.turnCounted (s : State) (n : Nat) : State :=
  s.modSeg n (fun g => { g with dynWait := g.dynWait.map (fun (m : DynMsg) => { m with turns := m.turns + 1 }) })

@[simp] theorem State.turnCounted_dynQ (s : State) (n : Nat) : ((s.turnCounted n).seg n).dynQ = (s.seg n).dynQ := by
  simp [State.turnCounted]

/-- The minislot starts the head's turn, on a segment whose train runs. -/
def State.headTurn (s : State) (n i : Nat) : Bool :=
  s.twin.onMove && s.segRuns n && decide (i < (s.sched n).minislots) && decide (turnOf (s.sched n).minislots s.cyc.cycle i = 0)

theorem State.headTurn_iff (s : State) (n i : Nat) : s.headTurn n i = true ↔
    s.twin.onMove = true ∧ s.segRuns n = true ∧ i < (s.sched n).minislots ∧ turnOf (s.sched n).minislots s.cyc.cycle i = 0 := by
  simp [State.headTurn, and_assoc]

theorem exec_dynTurn_notTurn (ht : s.headTurn seg.val ms.toNat = false) : Leaves (.dynTurn seg ms) s s := by
  rw [State.headTurn] at ht
  simp only [Leaves, exec_dynTurn, execDynTurn, ht]
  rfl

/-- The first message of the queue goes out when it may not be deferred and fits. -/
theorem exec_dynTurn_sends (ht : s.headTurn seg.val ms.toNat = true) (hdefer : m.deferrable = false)
    (hfits : minislotFits (s.sched seg.val) ms.toNat (24 + (dynPayload m).length) = true) (hfirst : (s.seg seg.val).dynQ.head? = some m) :
    Leaves (.dynTurn seg ms) s ((s.turnCounted seg.val).sendDyn seg.val ms.toNat m) := by
  obtain ⟨later, hq⟩ := List.head?_eq_some_iff.mp hfirst
  have hfind : ((s.turnCounted seg.val).seg seg.val).dynQ.find?
      (fun m => !m.deferrable && minislotFits (s.sched seg.val) ms.toNat (24 + (dynPayload m).length)) = some m := by
    rw [State.turnCounted_dynQ, hq]
    simp [hdefer, hfits]
  rw [State.headTurn] at ht
  rw [State.turnCounted] at hfind
  simp only [Leaves, exec_dynTurn, execDynTurn, ht, State.turnCounted, hfind]
  rfl

theorem exec_dynTurn_idle (ht : s.headTurn seg.val ms.toNat = true) (hq : (s.seg seg.val).dynQ = [])
    (hsur : (s.turnCounted seg.val).surDue seg.val = none) : Leaves (.dynTurn seg ms) s (s.turnCounted seg.val) := by
  have hempty : ((s.turnCounted seg.val).seg seg.val).dynQ = [] := (s.turnCounted_dynQ seg.val).trans hq
  rw [State.headTurn] at ht
  rw [State.turnCounted] at hempty hsur
  simp only [Leaves, exec_dynTurn, execDynTurn, ht, State.turnCounted, hempty, hsur, List.find?_nil]
  rfl

theorem exec_dynRepeat_due (hon : s.twin.onMove = true) (hdue : ∃ m ∈ (s.seg seg.val).dynWait, decide (2 ≤ m.turns) = true) :
    Leaves (.dynRepeat seg) s (s.modSeg seg.val (fun g =>
      { g with dynQ := g.dynWait.filter (fun (m : DynMsg) => decide (2 ≤ m.turns)) ++ g.dynQ
               dynWait := g.dynWait.filter (fun (m : DynMsg) => decide (m.turns < 2)) })) := by
  have hany : (s.seg seg.val).dynWait.any (fun (m : DynMsg) => decide (2 ≤ m.turns)) = true := List.any_eq_true.mpr hdue
  rw [Leaves, exec_dynRepeat, execDynRepeat, whenB, hon, hany]
  rfl

theorem exec_dynRepeat_none (hnone : ∀ m ∈ (s.seg seg.val).dynWait, decide (2 ≤ m.turns) = false) : Leaves (.dynRepeat seg) s s := by
  have hany : (s.seg seg.val).dynWait.any (fun (m : DynMsg) => decide (2 ≤ m.turns)) = false :=
    List.any_eq_false.mpr (fun m hm => by simp [hnone m hm])
  rw [Leaves, exec_dynRepeat, execDynRepeat, whenB, hany, Bool.and_false]
  rfl

end Turn

/-- Settles O35: each row of a node's message by its effect on the message, the head's turn by what its queue holds, and the repeat. -/
theorem dynamicMessages : Obligations.DynamicMessages := by
  unfold Obligations.DynamicMessages
  intro s f h pl r k d seg ms m u v heard n taken mine part rest waits acked replied named g due c counted others
  have fragment (msg : Nat) (t : taken msg) : s.TakesFragment f msg h pl r k d := by
    obtain ⟨hv, hon, hmsg, hdest⟩ := t
    exact ⟨hv, hon, hmsg, hdest⟩
  have message (msg : Nat) (t : mine msg) : s.TakesMessage f msg h pl r k d := by
    obtain ⟨ht, hlast, hfirst⟩ := t
    exact { toTakesFragment := fragment msg ht, last := hlast, first := hfirst }
  have turn (hon : s.twin.onMove = true) (hrun : s.segRuns seg.val = true) (hms : ms.toNat < c.minislots)
      (hturn : turnOf c.minislots s.cyc.cycle ms.toNat = 0) : s.headTurn seg.val ms.toNat = true :=
    (s.headTurn_iff _ _).mpr ⟨hon, hrun, hms, hturn⟩
  refine ⟨leaves_takeDyn_other (exec_admissionRequest f s), leaves_takeDyn_other (exec_diagnosticResponse f s),
    leaves_takeDyn_other (exec_nodeParameterAccess f s), leaves_takeDyn_other (exec_acknowledge f s), ?admitted, ?diagPart, ?accessPart,
    ?unadmitted, ?identity, ?diagRefused, ?written, ?read, ?unheeded, ?acknowledged, ?sends, ?idle, ?notTurn, exec_dynRepeat_due,
    exec_dynRepeat_none⟩
  case admitted => exact fun t => exec_admissionRequest_new (message 1 t)
  case diagPart => exact fun t => leaves_takeDyn_fragment (exec_diagnosticResponse f s) (fragment 3 t)
  case accessPart => exact fun t => leaves_takeDyn_fragment (exec_nodeParameterAccess f s) (fragment 4 t)
  case unadmitted => exact fun t => exec_admissionRequest_dropped (message 1 t)
  case identity => exact fun t => exec_diagnosticResponse_identity (message 3 t)
  case diagRefused => exact fun t => exec_diagnosticResponse_refused (message 3 t)
  case written =>
    exact fun t hlen hst hpar hop hnamed => exec_nodeParameterAccess_written (message 4 t) ⟨hlen, hst, hpar, hnamed⟩ hop
  case read =>
    exact fun t hlen hst hpar hop hnamed => exec_nodeParameterAccess_read (message 4 t) ⟨hlen, hst, hpar, hnamed⟩ hop
  case unheeded => exact fun t => exec_nodeParameterAccess_unheeded (message 4 t)
  case acknowledged => exact fun t => exec_acknowledge_delivered (message 5 t)
  case sends =>
    exact fun hon hrun hms hturn hdefer hfits hfirst => exec_dynTurn_sends (turn hon hrun hms hturn) hdefer hfits hfirst
  case idle => exact fun hon hrun hms hturn hq hsur => exec_dynTurn_idle (turn hon hrun hms hturn) hq hsur
  case notTurn =>
    intro hno
    apply exec_dynTurn_notTurn
    rw [Bool.eq_false_iff, ne_eq, s.headTurn_iff]
    rintro ⟨hon, hrun, hms, hturn⟩
    rcases hno with hoff | hstill | hlate | hother
    · simp [hoff] at hon
    · simp [hstill] at hrun
    · exact absurd hms (Nat.not_lt.mpr hlate)
    · exact hother hturn

end Sys2Proof.Machine
end

section
/-! The static slots at the head: what it takes from FBK, IOD and node status frames, and what it counts and drops (R91 to R93, R98,
R101, R105, R115). -/

namespace Sys2Proof.Machine

open Sys2Proof.Claims

theorem exec_fbkFrameReceive (f : RxFrame) (s : State) : exec (.fbkFrameReceive f) s = execFbkFrameReceive f s := rfl

theorem exec_iodReceive (f : RxFrame) (s : State) : exec (.iodReceive f) s = execIodReceive f s := rfl

theorem exec_supStatusReceive (f : RxFrame) (s : State) : exec (.supStatusReceive f) s = execSupStatusReceive f s := rfl

/-! A break that a frame locates leaves the releases of the axes (R20, R110): of an axis it changes FOLD_LATE only. -/

theorem State.pastRelease_of_axes {s u : State} (h : u.axes = s.axes) (a : Nat) (k : Int) : u.pastRelease a k = s.pastRelease a k := by
  simp only [State.pastRelease, State.axis_congr h]

theorem State.raise_pastRelease (s : State) (code sev inst : Nat) (data : List Byte) (a : Nat) (k : Int) :
    (s.raise code sev inst data).pastRelease a k = s.pastRelease a k := State.pastRelease_of_axes (by simp) a k

theorem State.modLaw_pastRelease (s : State) (b : Nat) {f : LawSt → LawSt} (hf : ∀ l, (f l).d = l.d) (a : Nat) (k : Int) :
    (s.modLaw b f).pastRelease a k = s.pastRelease a k := by
  by_cases h : a = b
  · simp [State.pastRelease, State.modLaw, h, hf]
  · simp only [State.pastRelease, State.modLaw, State.modAxis_eq, State.setAxis_ne _ _ _ _ h]

@[simp] theorem State.markFoldLate_pastRelease (s : State) (a : Nat) (k : Int) : s.markFoldLate.pastRelease a k = s.pastRelease a k := by
  unfold State.markFoldLate
  refine List.foldlRecOn (motive := fun u : State => u.pastRelease a k = s.pastRelease a k) _ _ rfl (fun u hu b _ => ?_)
  dsimp only
  split
  · exact (State.raise_pastRelease _ _ _ _ _ a k).trans ((u.modLaw_pastRelease b (fun _ => by rfl) a k).trans hu)
  · split
    · exact (u.modLaw_pastRelease b (fun _ => by rfl) a k).trans hu
    · exact hu

theorem State.breakAt_pastRelease (s : State) (n i j a : Nat) (k : Int) : (s.breakAt n i j).pastRelease a k = s.pastRelease a k := by
  unfold State.breakAt
  dsimp only
  split
  · unfold State.foldAt
    dsimp only
    split
    · exact State.pastRelease_of_axes (by simp) a k
    · exact (State.markFoldLate_pastRelease _ a k).trans (State.pastRelease_of_axes (by simp) a k)
  · split
    · rfl
    · exact State.pastRelease_of_axes (by simp) a k

theorem State.sourceLocate_pastRelease (s : State) (f : RxFrame) (h : Hdr) (m : Int) (a : Nat) (k : Int) :
    (s.sourceLocate f h m).pastRelease a k = s.pastRelease a k := by
  unfold State.sourceLocate
  dsimp only
  split
  · rfl
  split
  · split
    · exact (State.breakAt_pastRelease _ _ _ _ a k).trans (State.pastRelease_of_axes (by simp) a k)
    · exact State.pastRelease_of_axes (by simp) a k
  split
  · split
    · rfl
    · split
      · split
        · exact State.breakAt_pastRelease _ _ _ _ a k
        · rfl
      · rfl
  · rfl

/-! The judgement of a frame in its slot (R93, R101, R105). -/

theorem offEdge_ne_ok (c : Schedule) (x : Hdr) (q : SlotRec) (m e : Int) (h : Hdr) (pl : List Byte) (r : SlotRec) (k d : Int) :
    offEdge c x q m e ≠ .ok h pl r k d := by
  unfold offEdge
  dsimp only
  split
  · exact nofun
  split
  · exact nofun
  · split <;> exact nofun

/-- What R101 asks of a frame that the head accepts in a slot of a USE, with the place of AXIS in its payload. -/
structure State.Accepts (s : State) (f : RxFrame) (use kind axisOff : Nat) (h : Hdr) (pl : List Byte) (r : SlotRec) (k d : Int) : Prop where
  sound : s.rx f = .ok h pl
  cycle : k = s.rebuildCycle h.cyc
  owner : schedOwner (s.sched (f.port.val / 2)) h.slotN k = some r
  static : h.slotM = false
  node : r.node = h.src
  ofUse : r.use = use
  ofKind : h.kind = kind
  ofAxis : use = useFbk ∨ use = useSaf → (byteAt pl axisOff).toNat = r.axis
  source : h.src ≠ 0
  window : s.twin.standby = false → ∀ lam, s.pathDelay (f.port.val / 2) r.node (decide (f.port.val % 2 = 1)) k = some lam →
    d = s.offset (f.port.val / 2) lam k h.slotN f.sfd ∧ -schedW (s.sched (f.port.val / 2)) ≤ d ∧ d < schedW (s.sched (f.port.val / 2))

section Judge

variable {s : State} {f : RxFrame} {use kind axisOff : Nat} {h : Hdr} {pl : List Byte} {r : SlotRec} {k d : Int}

theorem State.judge_accepts (hv : s.judge f use kind axisOff = .ok h pl r k d) : s.Accepts f use kind axisOff h pl r k d := by
  unfold State.judge at hv
  dsimp only at hv
  split at hv
  · cases hv
  · split at hv
    · cases hv
    · split at hv <;> cases hv
  · cases hv
  · cases hv
  next h' pl' hrx =>
  split at hv
  · cases hv
  next hsrc =>
  split at hv
  · cases hv
  next r' howner =>
  split at hv
  · cases hv
  next hfields =>
  obtain ⟨hstatic, hnode, huse, hkind, haxis⟩ : h'.slotM = false ∧ r'.node = h'.src ∧ r'.use = use ∧ h'.kind = kind
      ∧ (use = useFbk ∨ use = useSaf → (byteAt pl' axisOff).toNat = r'.axis) := by
    simpa only [not_or, not_and, ne_eq, not_not, Bool.not_eq_true] using hfields
  split at hv
  · next hpath =>
    cases hv
    refine ⟨hrx, rfl, howner, hstatic, hnode, huse, hkind, haxis, hsrc, fun hon lam hlam => ?_⟩
    rw [hon, if_neg Bool.false_ne_true, hlam] at hpath
    cases hpath
  · next lam hpath =>
    split at hv
    · next hin =>
      cases hv
      refine ⟨hrx, rfl, howner, hstatic, hnode, huse, hkind, haxis, hsrc, fun hon lam' hlam => ?_⟩
      rw [hon, if_neg Bool.false_ne_true, hlam] at hpath
      cases hpath
      exact ⟨rfl, hin⟩
    · exact absurd hv (offEdge_ne_ok _ _ _ _ _ _ _ _ _ _)

end Judge

/-- The head after it has judged and counted a frame of a static slot, before any effect of its content. -/
def State.heardSlot (s : State) (f : RxFrame) (v : Verdict) : State := ((s.relay f).countVerdict f v).noteLoop f

/-- A node as its status frame tells it (R81, R113). -/
def NodeSt.told (x : NodeSt) (pl : List Byte) (ticks : Nat) : NodeSt :=
  { x with
    supSeen := true, supA := byteAt pl 4, supB := byteAt pl 5, supCounts := (List.range 7).map (fun i => field pl (6 + 2 * i) 2)
    loopback := (byteAt pl 4).getLsbD 6 || (byteAt pl 5).getLsbD 6
    upA := if (byteAt pl 4).getLsbD 7 && !(x.supA.getLsbD 7 && x.supSeen) then ticks else x.upA
    upB := if (byteAt pl 5).getLsbD 7 && !(x.supB.getLsbD 7 && x.supSeen) then ticks else x.upB }

theorem NodeSt.told_loopback {x : NodeSt} {pl : List Byte} {ticks : Nat} (ha : (byteAt pl 4).getLsbD 6 = false)
    (hb : (byteAt pl 5).getLsbD 6 = false) : (x.told pl ticks).loopback = false := by
  rw [NodeSt.told, ha, hb]
  rfl

theorem State.modNode_node (s : State) (n i : Nat) (f : NodeSt → NodeSt) : ((s.modNode n i f).seg n).node i = f ((s.seg n).node i) := by
  simp

section SlotFrames

variable {s : State} {f : RxFrame} {h : Hdr} {pl : List Byte} {r : SlotRec} {k d : Int} {v : Verdict}

/-! A frame that is not accepted changes only the counts. -/

theorem exec_fbkFrameReceive_dropped (hv : (s.relay f).judge f useFbk tFbk 0 = v) (hno : ∀ h pl r k d, v ≠ .ok h pl r k d) :
    Leaves (.fbkFrameReceive f) s (s.heardSlot f v) := by
  simp only [Leaves, exec_fbkFrameReceive, execFbkFrameReceive, hv]
  cases v with
  | ok h pl r k d => exact absurd rfl (hno h pl r k d)
  | _ => rfl

theorem exec_iodReceive_dropped (hv : ((s.relay f).judge f useIod tIod 0).content iodFits = v) (hno : ∀ h pl r k d, v ≠ .ok h pl r k d) :
    Leaves (.iodReceive f) s (s.heardSlot f v) := by
  simp only [Leaves, exec_iodReceive, execIodReceive, hv]
  cases v with
  | ok h pl r k d => exact absurd rfl (hno h pl r k d)
  | _ => rfl

theorem exec_supStatusReceive_dropped (hv : ((s.relay f).judge f useSup tSup 0).content supFits = v)
    (hno : ∀ h pl r k d, v ≠ .ok h pl r k d) : Leaves (.supStatusReceive f) s (s.heardSlot f v) := by
  simp only [Leaves, exec_supStatusReceive, execSupStatusReceive, hv]
  cases v with
  | ok h pl r k d => exact absurd rfl (hno h pl r k d)
  | _ => rfl

/-! The content of an accepted frame (R62, R70, R81). -/

theorem Verdict.content_ok {ok : Hdr → List Byte → Bool} (hok : ok h pl = true) :
    (Verdict.ok h pl r k d).content ok = .ok h pl r k d := if_pos hok

theorem Verdict.content_misfit {ok : Hdr → List Byte → Bool} (hok : ok h pl = false) : (Verdict.ok h pl r k d).content ok = .discard :=
  if_neg (Bool.eq_false_iff.mp hok)

theorem iodFits_iff : iodFits h pl = true
    ↔ ((byteAt pl 0).toNat = 1 ∨ (byteAt pl 0).toNat = 3) ∧ field pl 2 2 ≤ 1016 ∧ 4 + field pl 2 2 ≤ pl.length := by
  simp [iodFits, and_assoc]

theorem supFits_iff : supFits h pl = true ↔ byteAt pl 0 = 1 := decide_eq_true_iff

/-! An accepted frame. -/

/-- A feedback frame in time for its task, from a node that reports no loopback. -/
theorem exec_fbkFrameReceive_taken (hv : (s.relay f).judge f useFbk tFbk 0 = .ok h pl r k d) (hthru : (byteAt pl 1).getLsbD 2 = false)
    (hin : (s.heardSlot f (.ok h pl r k d)).pastRelease r.axis k = false) :
    Leaves (.fbkFrameReceive f) s ((((s.heardSlot f (.ok h pl r k d)).sourceLocate f h k).storeImage (f.port.val / 2) r k h.age pl).modNode
      (f.port.val / 2) r.node (fun x => { x with loopback := false })) := by
  have hlate : ((s.heardSlot f (.ok h pl r k d)).sourceLocate f h k).pastRelease r.axis k = false :=
    (State.sourceLocate_pastRelease _ f h k r.axis k).trans hin
  rw [State.heardSlot] at hlate
  simp only [Leaves, exec_fbkFrameReceive, execFbkFrameReceive, hv, hthru, hlate]
  rfl

/-- An IOD without act records (FORMAT 1). -/
theorem exec_iodReceive_taken (hv : ((s.relay f).judge f useIod tIod 0).content iodFits = .ok h pl r k d)
    (hfmt : (byteAt pl 0).toNat = 1) :
    Leaves (.iodReceive f) s ((((s.heardSlot f (.ok h pl r k d)).sourceLocate f h k).storeImage (f.port.val / 2) r k h.age pl).modNode
      (f.port.val / 2) r.node (fun x => { x with inStatus := byteAt pl 1, inImage := (pl.drop 4).take (field pl 2 2) })) := by
  simp only [Leaves, exec_iodReceive, execIodReceive, hv, hfmt]
  rfl

/-- The status of a node neither of whose ports is in loopback. -/
theorem exec_supStatusReceive_taken (hv : ((s.relay f).judge f useSup tSup 0).content supFits = .ok h pl r k d)
    (ha : (byteAt pl 4).getLsbD 6 = false) (hb : (byteAt pl 5).getLsbD 6 = false) :
    Leaves (.supStatusReceive f) s ((((s.heardSlot f (.ok h pl r k d)).sourceLocate f h k).storeImage (f.port.val / 2) r k h.age pl).modNode
      (f.port.val / 2) r.node (fun x => x.told pl (s.relay f).coreTicks)) := by
  simp only [Leaves, exec_supStatusReceive, execSupStatusReceive, hv, ha, hb, NodeSt.told]
  rfl

end SlotFrames

/-- Settles O37: each frame by its verdict, whose acceptance is what R101 asks, and then by its content. -/
theorem slotFrames : Obligations.SlotFrames := by
  unfold Obligations.SlotFrames
  intro s f h pl r k d v n fb iov io suv su taken fmt ok len ioFits
  refine ⟨?fbDiscard, exec_fbkFrameReceive_dropped rfl, ?fbTaken, exec_iodReceive_dropped rfl, ?ioMisfit, ?ioTaken,
    exec_supStatusReceive_dropped rfl, ?suMisfit, ?suTaken, ?accepts, ?window⟩
  case fbDiscard => exact fun hfb => exec_fbkFrameReceive_dropped hfb nofun
  case fbTaken =>
    intro hfb _ hthru hin
    have heard : taken fb = s.heardSlot f (.ok h pl r k d) := congrArg taken hfb
    rw [heard] at hin ⊢
    exact exec_fbkFrameReceive_taken hfb hthru hin
  case ioMisfit =>
    intro hio hbad
    exact exec_iodReceive_dropped
      ((congrArg (·.content iodFits) hio).trans (Verdict.content_misfit (Bool.eq_false_iff.mpr (mt iodFits_iff.mp hbad)))) nofun
  case ioTaken =>
    intro hio hfits _ hfmt
    have hok : io = ok := (congrArg (·.content iodFits) hio).trans (Verdict.content_ok (iodFits_iff.mpr hfits))
    rw [show taken io = s.heardSlot f (.ok h pl r k d) from congrArg taken hok]
    exact exec_iodReceive_taken hok hfmt
  case suMisfit =>
    intro hsu hbad
    exact exec_supStatusReceive_dropped
      ((congrArg (·.content supFits) hsu).trans (Verdict.content_misfit (Bool.eq_false_iff.mpr (mt supFits_iff.mp hbad)))) nofun
  case suTaken =>
    intro hsu hop _ ha hb
    have hok : su = ok := (congrArg (·.content supFits) hsu).trans (Verdict.content_ok (supFits_iff.mpr hop))
    exact ⟨_, exec_supStatusReceive_taken hok ha hb, by
      rw [State.modNode_node]
      exact ⟨rfl, rfl, rfl, NodeSt.told_loopback ha hb⟩⟩
  case accepts =>
    intro hfb
    obtain ⟨-, hcycle, howner, hstatic, hnode, huse, hkind, haxis, hsrc, -⟩ := State.judge_accepts hfb
    exact ⟨hcycle, howner, hstatic, hnode, huse, hkind, haxis (.inl rfl), hsrc⟩
  case window => exact fun hfb => (State.judge_accepts hfb).window

end Sys2Proof.Machine
end

section
/-! The Opening and the Survey (R96, R116 to R120, R353, Table SLT-5). -/

namespace Sys2Proof.Machine

open Sys2Proof.Claims

theorem exec_netOpening (c : CmdCtx) (s : State) : exec (.netOpening c) s = execNetOpening c s := rfl
theorem exec_listenEnd (s : State) : exec .listenEnd s = execListenEnd s := rfl
theorem exec_claimPeriod (s : State) : exec .claimPeriod s = execClaimPeriod s := rfl
theorem exec_clmReceive (f : RxFrame) (s : State) : exec (.clmReceive f) s = execClmReceive f s := rfl
theorem exec_claimEnd (s : State) : exec .claimEnd s = execClaimEnd s := rfl
theorem exec_synchroniseEnd (seg : SegIx) (s : State) : exec (.synchroniseEnd seg) s = execSynchroniseEnd seg s := rfl
theorem exec_surResponse (f : RxFrame) (s : State) : exec (.surResponse f) s = execSurResponse f s := rfl
theorem exec_surRequestReturn (seg : SegIx) (b : Bool) (s : State) : exec (.surRequestReturn seg b) s = execSurRequestReturn seg b s := rfl
theorem exec_surveyTimeout (seg : SegIx) (s : State) : exec (.surveyTimeout seg) s = execSurveyTimeout seg s := rfl
theorem exec_surRequestReceive (f : RxFrame) (s : State) : exec (.surRequestReceive f) s = execSurRequestReceive f s := rfl

/-! NET_OPENING (R116). -/

section NetOpening

variable {s : State} {c : CmdCtx}

/-- What NET_OPENING does once every axis is DISABLED. -/
def State.openingAnswer (t : State) (c : CmdCtx) : Ans :=
  if t.saf.silent || t.saf.endgame.isSome then .refuse stState []
  else if t.boot.openCtx.isSome then .refuse stBusy []
  else .ok { t.beginOpening with boot := { t.beginOpening.boot with openCtx := some c } } stAccepted []

theorem exec_netOpening_notStopped (hacts : Acts s c 0x0701 5) (hdis : ¬ (s.takeUp c).allDisabled = true) :
    Replies (.netOpening c) s c 0x0701 0x0302 [] (s.takeUp c) :=
  (exec_host_takes (a := .refuse 0x0302 []) (exec_netOpening c s) hacts rfl (if_pos (by simp [hdis])) :)

theorem exec_netOpening_stopped {a : Ans} (hacts : Acts s c 0x0701 5) (hdis : (s.takeUp c).allDisabled = true)
    (ha : (s.takeUp c).openingAnswer c = a) : exec (.netOpening c) s = .next (a.result (s.takeUp c) c 0x0701) :=
  (exec_host_takes (exec_netOpening c s) hacts rfl ((if_neg (by simp [hdis])).trans ha) :)

theorem State.openingAnswer_silent {t : State} (hfree : ¬ (t.saf.silent = false ∧ t.saf.endgame = none)) :
    t.openingAnswer c = .refuse 0x0301 [] := by
  have hstop : (t.saf.silent || t.saf.endgame.isSome) = true := by
    rw [Bool.or_eq_true, Option.isSome_iff_ne_none, ← Bool.not_eq_false]
    exact not_and_or.mp hfree
  exact if_pos hstop

theorem State.mayOpen_of_free {t : State} (hfree : t.saf.silent = false ∧ t.saf.endgame = none) :
    ¬ (t.saf.silent || t.saf.endgame.isSome) = true := by
  simp [hfree]

theorem State.openingAnswer_busy {t : State} (hfree : t.saf.silent = false ∧ t.saf.endgame = none) (hopen : t.boot.openCtx.isSome = true) :
    t.openingAnswer c = .refuse 0x0303 [] :=
  (if_neg (State.mayOpen_of_free hfree)).trans (if_pos hopen)

theorem State.openingAnswer_begins {t : State} (hfree : t.saf.silent = false ∧ t.saf.endgame = none) (hopen : t.boot.openCtx = none) :
    t.openingAnswer c = .ok { t.beginOpening with boot := { t.beginOpening.boot with openCtx := some c } } 1 [] :=
  (if_neg (State.mayOpen_of_free hfree)).trans (if_neg (by simp [hopen]))

end NetOpening

/-! The Claim (R116 to R118). -/

/-- State `u` is `s` but for what it has sent. -/
def State.OnlySends (s u : State) : Prop := ∃ out, u = { s with out := out }

theorem State.OnlySends.trans {s u v : State} (hu : s.OnlySends u) (hv : u.OnlySends v) : s.OnlySends v := by
  obtain ⟨_, rfl⟩ := hu
  obtain ⟨out, rfl⟩ := hv
  exact ⟨out, rfl⟩

theorem State.sendHead_onlySends (s : State) (n : Nat) (b : Bool) (h : Hdr) (pl : List Byte) : s.OnlySends (s.sendHead n b h pl) := by
  unfold State.sendHead State.sendFrame
  split
  · exact ⟨s.out, rfl⟩
  · exact ⟨_, rfl⟩

theorem State.foldl_onlySends {α : Type} {f : State → α → State} (hf : ∀ (u : State) x, u.OnlySends (f u x)) (xs : List α)
    (s : State) : s.OnlySends (xs.foldl f s) :=
  List.foldlRecOn (motive := s.OnlySends) xs f ⟨s.out, rfl⟩ (fun u hu x _ => hu.trans (hf u x))

/-- A claim is counted in the same way whatever was sent. -/
theorem State.OnlySends.claimed {s u : State} (h : s.OnlySends u) :
    { u with opening := { u.opening with claims := inc32 u.opening.claims, periods := u.opening.periods + 1 } }
      = { s with out := u.out, opening := { s.opening with claims := inc32 s.opening.claims, periods := s.opening.periods + 1 } } := by
  obtain ⟨_, rfl⟩ := h
  rfl

section Claim

variable {s : State}

theorem exec_listenEnd_due (hphase : s.opening.phase = .listen) (hdue : s.opening.since + s.listenTime ≤ s.coreTicks) :
    Leaves .listenEnd s { s with opening := { s.opening with phase := .claim, since := s.coreTicks, claims := 0, periods := 0 } } :=
  (exec_listenEnd s).trans (whenB_of_true (by simp [hphase, hdue]) _ _)

theorem exec_listenEnd_notDue (h : s.opening.phase ≠ .listen ∨ s.coreTicks < s.opening.since + s.listenTime) : Leaves .listenEnd s s :=
  (exec_listenEnd s).trans (whenB_of_false (by rcases h with h | h <;> simp [h]) _ _)

/-- A claim period sends the CLM frames, and counts. -/
theorem exec_claimPeriod_due (hphase : s.opening.phase = .claim) (hdue : s.opening.since + s.opening.periods * 100000 ≤ s.coreTicks)
    (hmore : s.opening.periods < 50) : ∃ u, exec .claimPeriod s = .next u
      ∧ u = { s with out := u.out, opening := { s.opening with claims := inc32 s.opening.claims, periods := s.opening.periods + 1 } } := by
  refine ⟨_, (exec_claimPeriod s).trans (whenB_of_true (by simp [hphase, hdue, hmore]) _ _),
    State.OnlySends.claimed (State.foldl_onlySends (fun u n => ?_) _ s)⟩
  split
  · exact (u.sendHead_onlySends _ _ _ _).trans (State.sendHead_onlySends _ _ _ _ _)
  · exact ⟨u.out, rfl⟩

theorem exec_claimPeriod_over (h : s.opening.phase ≠ .claim ∨ 50 ≤ s.opening.periods) : Leaves .claimPeriod s s :=
  (exec_claimPeriod s).trans (whenB_of_false (by rcases h with h | h <;> simp [h, Nat.not_lt.mpr]) _ _)

/-- After 50 claim periods the contender surveys each active segment as its head. -/
theorem exec_claimEnd_due (hphase : s.opening.phase = .claim) (hall : 50 ≤ s.opening.periods)
    (hdue : s.opening.since + 5000000 ≤ s.coreTicks) :
    Leaves .claimEnd s ((List.range 8).foldl (fun (s : State) n => if s.segActive n then s.beginSurvey n else s) (State.driveClocks { s with
      opening := { s.opening with phase := .segments, since := s.coreTicks }
      twin := { s.twin with onMove := true, standby := false }
      cyc := { s.cyc with running := false, cycle := 0 } } true)) :=
  (exec_claimEnd s).trans (whenB_of_true (by simp [hphase, hall, hdue]) _ _)

theorem exec_claimEnd_early (h : s.opening.phase ≠ .claim ∨ s.opening.periods < 50) : Leaves .claimEnd s s :=
  (exec_claimEnd s).trans (whenB_of_false (by rcases h with h | h <;> simp [h, Nat.not_le.mpr]) _ _)

section ClmReceive

variable {f : RxFrame} {h : Hdr} {pl : List Byte}

@[simp] theorem State.relay_ownKey (s : State) (f : RxFrame) : (s.relay f).ownKey = s.ownKey := by
  simp [State.ownKey, State.isBlack]

/-- A CLM of a lower key makes a contender the standby. -/
theorem exec_clmReceive_lower (hrx : (s.relay f).rx f = .ok h pl) (hkind : h.kind = 8)
    (hphase : s.opening.phase = .listen ∨ s.opening.phase = .claim) (hkey : field pl 0 8 % 562949953421312 < s.ownKey) :
    exec (.clmReceive f) s = .next (((s.relay f).seeLoop f).countRx f.port.val (.ok h pl)).becomeStandby := by
  simp only [exec_clmReceive, execClmReceive, hrx]
  exact whenB_of_true (by simp [hkind, tClm, hphase, hkey]) _ _

theorem exec_clmReceive_higher (hrx : (s.relay f).rx f = .ok h pl) (hkey : s.ownKey ≤ field pl 0 8 % 562949953421312) :
    exec (.clmReceive f) s = .next (((s.relay f).seeLoop f).countRx f.port.val (.ok h pl)) := by
  simp only [exec_clmReceive, execClmReceive, hrx]
  exact whenB_of_false (by simp [Nat.not_lt.mpr hkey]) _ _

end ClmReceive

end Claim

/-! The end of Synchronise (R116, R299). -/

theorem State.seg_congr {s u : State} (h : u.segs = s.segs) (n : Nat) : u.seg n = s.seg n := by
  simp only [State.seg, h]

theorem State.seg_setSeg (s : State) (n m : Nat) (x : Segment) : (s.setSeg n x).seg m = if m = n then x else s.seg m := by
  split
  · next h => rw [h, State.setSeg_self]
  · next h => exact State.setSeg_ne s n x m h

theorem State.modSeg_phase (s : State) (n m : Nat) {f : Segment → Segment} (hf : ∀ g, (f g).phase = g.phase) :
    ((s.modSeg n f).seg m).phase = (s.seg m).phase := by
  rw [State.modSeg_eq, State.seg_setSeg]
  split
  · next h => rw [hf, h]
  · rfl

theorem State.foldl_phase {α : Type} {f : State → α → State} {m : Nat} (hf : ∀ s x, ((f s x).seg m).phase = (s.seg m).phase) (xs : List α)
    (s : State) : ((xs.foldl f s).seg m).phase = (s.seg m).phase :=
  List.foldlRecOn (motive := fun u : State => (u.seg m).phase = (s.seg m).phase) xs f rfl (fun u hu x _ => (hf u x).trans hu)

@[simp] theorem State.writeGroups_phase (s : State) (n node m : Nat) : ((s.writeGroups n node).seg m).phase = (s.seg m).phase := by
  unfold State.writeGroups
  refine (State.foldl_phase (fun u a => ?_) _ _).trans (s.modSeg_phase n m (fun _ => rfl))
  exact (State.modSeg_phase _ n m (fun _ => by rfl)).trans (u.modSeg_phase n m (fun _ => by rfl))

theorem State.openingDone_seg (s : State) (n : Nat) : s.openingDone.seg n = s.seg n := State.seg_congr (by simp) n

/-- The segment runs once its owners have synchronised, or 50 ms have passed. -/
theorem exec_synchroniseEnd_due {s : State} {seg : SegIx} (hon : s.twin.onMove = true) (hrun : s.cyc.running = true)
    (hphase : (s.seg seg.val).phase = .synchronise)
    (hdue : ((∀ i ∈ s.owners seg.val, (s.seg seg.val).ownerDone i = true) ∧ (s.seg seg.val).syncFrom + 64 ≤ s.cyc.cycle)
      ∨ (s.seg seg.val).phaseTick + 50000000 ≤ s.coreTicks) :
    ∃ u, exec (.synchroniseEnd seg) s = .next u ∧ (u.seg seg.val).phase = .run := by
  have hok : ((s.owners seg.val).all (fun i => (s.seg seg.val).ownerDone i) && decide ((s.seg seg.val).syncFrom + 64 ≤ s.cyc.cycle)) = true
      ∨ (s.seg seg.val).phaseTick + 50000000 ≤ s.coreTicks := by
    simpa using hdue
  simp only [exec_synchroniseEnd, execSynchroniseEnd]
  rw [if_pos ⟨hon, hrun, hphase, hok⟩]
  refine ⟨_, rfl, ?_⟩
  rw [apply_ite (fun u : State => (u.seg seg.val).phase), State.openingDone_seg, ite_self,
    State.foldl_phase (fun u i => u.writeGroups_phase _ i _), State.foldl_phase]
  · simp
  · intro u i
    rw [apply_ite (fun v : State => (v.seg seg.val).phase)]
    simp only [State.put_fields, ite_self]
    exact u.modSeg_phase _ _ (fun _ => rfl)

theorem exec_synchroniseEnd_other {s : State} {seg : SegIx} (h : (s.seg seg.val).phase ≠ .synchronise ∨ s.cyc.running = false) :
    Leaves (.synchroniseEnd seg) s s := by
  simp only [Leaves, exec_synchroniseEnd, execSynchroniseEnd]
  rw [if_neg]
  rintro ⟨-, hrun, hphase, -⟩
  rcases h with h | h
  · exact h hphase
  · simp [h] at hrun

/-! The Survey of the head (R96, R118, R119). -/

section Survey

variable {s : State} {f : RxFrame} {h : Hdr} {pl : List Byte} {seg : SegIx} {b : Bool}

/-- The head after it has counted a frame and looked at its LOOP bit. -/
def State.heardFrame (s : State) (f : RxFrame) : State :=
  (((s.relay f).seeLoop f).countRx f.port.val ((s.relay f).rx f)).noteLoop f

/-- The head waits for a response in the segment of the frame, and the frame is one. -/
abbrev State.AwaitsResponse (s : State) (f : RxFrame) (h : Hdr) (pl : List Byte) : Prop :=
  h.kind = tSur ∧ h.len = 6 ∧ (s.relay f).twin.onMove = true ∧ ((s.relay f).seg (f.port.val / 2)).surveyOut = true
    ∧ ((byteAt pl 0).toNat = 0x82 ∨ (byteAt pl 0).toNat = 0x83)

/-- A response of the hop asked is taken. -/
theorem exec_surResponse_taken (hrx : (s.relay f).rx f = .ok h pl) (hawaits : s.AwaitsResponse f h pl)
    (hphase : ((s.relay f).seg (f.port.val / 2)).phase = .survey)
    (hhop : (byteAt pl 1).toNat = ((s.relay f).seg (f.port.val / 2)).surveyHop) :
    Leaves (.surResponse f) s ((s.heardFrame f).surveyTake (f.port.val / 2) pl f.sfd.toNat (field pl 12 4) (field pl 16 4)) := by
  simp only [Leaves, exec_surResponse, execSurResponse, State.heardFrame, hrx]
  rw [if_pos hawaits, if_pos hphase, if_pos hhop]

theorem exec_surResponse_unasked (hrx : (s.relay f).rx f = .ok h pl) (hno : ¬ s.AwaitsResponse f h pl) :
    Leaves (.surResponse f) s (s.heardFrame f) := by
  simp only [Leaves, exec_surResponse, execSurResponse, State.heardFrame, hrx]
  rw [if_neg hno]

theorem exec_surResponse_bad (hrx : ∀ h pl, (s.relay f).rx f ≠ .ok h pl) : Leaves (.surResponse f) s (s.heardFrame f) := by
  simp only [Leaves, exec_surResponse, execSurResponse, State.heardFrame]

/-- A request of the head comes back on the other port: a pass of the Survey ends. -/
abbrev State.PassEnds (s : State) (n : Nat) (b : Bool) : Prop :=
  s.twin.onMove = true ∧ (s.seg n).phase = .survey ∧ (s.seg n).surveyOut = true ∧ b ≠ (s.seg n).surveyB

theorem exec_surRequestReturn_first (hends : s.PassEnds seg.val b) (hpass : (s.seg seg.val).surveyB = false) :
    Leaves (.surRequestReturn seg b) s ((s.modSeg seg.val (fun g => { g with
      surveyOut := false, surveyB := true, surveyHop := 1, surveyRetry := 0, closed := true, nNodes := g.known.length })).surveyNext seg.val) := by
  simp only [Leaves, exec_surRequestReturn, execSurRequestReturn]
  rw [if_pos hends, if_neg (Bool.eq_false_iff.mp hpass)]

theorem exec_surRequestReturn_second (hends : s.PassEnds seg.val b) (hpass : (s.seg seg.val).surveyB = true) :
    Leaves (.surRequestReturn seg b) s
      (((s.modSeg seg.val (fun g => { g with surveyOut := false })).lamGuess seg.val).surveyEnds seg.val) := by
  simp only [Leaves, exec_surRequestReturn, execSurRequestReturn]
  rw [if_pos hends, if_pos hpass]

theorem exec_surRequestReturn_other (hends : ¬ s.PassEnds seg.val b) : Leaves (.surRequestReturn seg b) s s := by
  simp only [Leaves, exec_surRequestReturn, execSurRequestReturn]
  rw [if_neg hends]

/-- The request of the head has been out for 1.2 ms (R116). -/
abbrev State.surveyLate (s : State) (n : Nat) : Bool :=
  (s.seg n).surveyOut && s.twin.onMove && decide ((s.seg n).surveySent + 1200000 ≤ s.coreTicks)

theorem exec_surveyTimeout_repeats (hlate : s.surveyLate seg.val = true) (hphase : (s.seg seg.val).phase = .survey)
    (hmore : (s.seg seg.val).surveyRetry < 2) : Leaves (.surveyTimeout seg) s
      ((s.modSeg seg.val (fun g => { g with surveyRetry := g.surveyRetry + 1, surveyOut := false })).surveyNext seg.val) := by
  simp only [Leaves, exec_surveyTimeout, execSurveyTimeout]
  rw [if_pos hlate, if_pos hmore, if_pos hphase]

theorem exec_surveyTimeout_open (hlate : s.surveyLate seg.val = true) (hphase : (s.seg seg.val).phase = .survey)
    (hlast : 2 ≤ (s.seg seg.val).surveyRetry) : Leaves (.surveyTimeout seg) s (s.surveyOpen seg.val) := by
  simp only [Leaves, exec_surveyTimeout, execSurveyTimeout]
  rw [if_pos hlate, if_neg (Nat.not_lt.mpr hlast), if_pos hphase]

theorem exec_surveyTimeout_waits (hlate : s.surveyLate seg.val = false) : Leaves (.surveyTimeout seg) s s := by
  simp only [Leaves, exec_surveyTimeout, execSurveyTimeout]
  rw [if_neg (Bool.eq_false_iff.mp hlate)]

end Survey

/-! The standby in the Survey (R353). -/

theorem State.modPort_idle (s : State) (q p : Nat) {f : RingPort → RingPort} (hf : ∀ x, (f x).idle = x.idle) :
    ((s.modPort q f).port p).idle = (s.port p).idle := by
  by_cases h : p = q
  · rw [h, State.modPort_eq, State.setPort_self, hf]
  · rw [State.modPort_eq, State.setPort_ne s q _ p h]

@[simp] theorem State.seeLoop_idle (s : State) (f : RxFrame) (p : Nat) : ((s.seeLoop f).port p).idle = (s.port p).idle := by
  unfold State.seeLoop
  split
  · split
    · exact s.modPort_idle _ p (fun _ => rfl)
    · rfl
  · rfl

@[simp] theorem State.countRx_idle (s : State) (q p : Nat) (r : Rx) : ((s.countRx q r).port p).idle = (s.port p).idle := by
  cases r with
  | off => rfl
  | abort | crc | format | ok => exact s.modPort_idle q p (fun _ => rfl)

@[simp] theorem State.sendFrame_freeCtr (s : State) (p : Nat) (bytes : List Byte) : (s.sendFrame p bytes).freeCtr = s.freeCtr := by
  unfold State.sendFrame
  split <;> rfl

/-- A frame that no idle port and no test mode holds back. -/
theorem State.sendFrame_out {s : State} {p : Nat} (hidle : (s.port p).idle = false) (htest : s.boot.testEn = false) (bytes : List Byte) :
    (s.sendFrame p bytes).out = .frame ⟨p % 16, by omega⟩ (preamble ++ bytes) :: s.out := by
  simp [State.sendFrame, State.put, hidle, htest]

section SurRequest

variable {s : State} {f : RxFrame} {h : Hdr} {pl : List Byte}

/-- A standby that has counted the request of a frame takes its HOP as its name from White's port A. -/
def State.takesHop (s : State) (f : RxFrame) (h : Hdr) (pl : List Byte) : State :=
  ((s.seeLoop f).countRx f.port.val (.ok h pl)).modSeg (f.port.val / 2) (fun g => { g with ownHopA := (byteAt pl 1).toNat })

/-- The response of a standby to a request of OP 0x03 (Table FRM-12), under the request's place in the train. -/
def State.hopAnswer (s : State) (n : Nat) (h : Hdr) (hop : Nat) : List Byte :=
  sealFrame { kind := tSur, dir := true, seg := n, src := 0, slotM := h.slotM, slotN := h.slotN, cyc := h.cyc, len := 6 }
    ([0x83, BitVec.ofNat 8 hop, 0, 4] ++ be 6 Config.serial.toNat ++ [0, 0] ++ be 4 (Config.freeNat s.freeCtr % 200001) ++ be 4 5000
      ++ [0, 0, 0, 0])

@[simp] theorem State.takesHop_ownHopA (s : State) (f : RxFrame) (h : Hdr) (pl : List Byte) :
    ((s.takesHop f h pl).seg (f.port.val / 2)).ownHopA = (byteAt pl 1).toNat := by
  simp [State.takesHop]

@[simp] theorem State.takesHop_out (s : State) (f : RxFrame) (h : Hdr) (pl : List Byte) : (s.takesHop f h pl).out = s.out := by
  simp [State.takesHop]

@[simp] theorem State.takesHop_frame (s : State) (f : RxFrame) (h : Hdr) (pl : List Byte) : (s.takesHop f h pl).freeCtr = s.freeCtr
    ∧ (s.takesHop f h pl).boot = s.boot ∧ ∀ p, ((s.takesHop f h pl).port p).idle = (s.port p).idle := by
  simp [State.takesHop]

/-- A standby without a hop name takes the one that a request from White's port A gives, and answers. -/
theorem exec_surRequestReceive_named (hrx : s.rx f = .ok h pl) (hkind : h.kind = 9) (hlen : h.len = 4) (hstandby : s.twin.standby = true)
    (hop : (byteAt pl 0).toNat = 3) (hdir : h.dir = false) (hnew : (s.seg (f.port.val / 2)).ownHopA = 0) :
    exec (.surRequestReceive f) s = .next (((s.takesHop f h pl).useFree 1).sendFrame (2 * (f.port.val / 2) + b2n (!s.isBlack))
      (s.hopAnswer (f.port.val / 2) h (byteAt pl 1).toNat)) := by
  simp only [exec_surRequestReceive, execSurRequestReceive, hrx]
  rw [if_pos ⟨hkind, hlen, .inl hstandby, .inl ⟨hop, by simpa [hdir] using hnew⟩⟩]
  simp only [hop, hdir]
  rfl

theorem exec_surRequestReceive_forwarded (hrx : s.rx f = .ok h pl) (hkind : h.kind ≠ 9) :
    Leaves (.surRequestReceive f) s (((s.relay f).seeLoop f).countRx f.port.val (s.rx f)) := by
  simp only [Leaves, exec_surRequestReceive, execSurRequestReceive, hrx]
  rw [if_neg (fun hsur => hkind hsur.1)]

end SurRequest

/-- Settles O34: each step of the Opening and of the Survey by its guard. -/
theorem openingAndSurvey : Obligations.OpeningAndSurvey := by
  unfold Obligations.OpeningAndSurvey
  constructor
  · intro s c f h pl seg t o opening dis free b heard g own synced
    refine ⟨fun hdis hacts => exec_netOpening_notStopped hacts hdis,
      fun hdis hfree hacts => exec_netOpening_stopped hacts hdis (State.openingAnswer_silent hfree),
      fun hdis hfree hopen hacts => exec_netOpening_stopped hacts hdis (State.openingAnswer_busy hfree hopen),
      fun hdis hfree hopen hacts => exec_netOpening_stopped hacts hdis (State.openingAnswer_begins hfree hopen),
      ⟨rfl, ?since, rfl, rfl, rfl⟩, exec_listenEnd_due, exec_listenEnd_notDue, exec_claimPeriod_due, exec_claimPeriod_over, ?lower, ?higher,
      exec_claimEnd_due, exec_claimEnd_early, exec_synchroniseEnd_due, exec_synchroniseEnd_other⟩
    case since =>
      change t.coreTicks = s.coreTicks
      simp [t]
    case lower =>
      exact fun hrx hkind hphase hkey => ⟨_, exec_clmReceive_lower hrx hkind hphase hkey, rfl, rfl, rfl⟩
    case higher =>
      intro hrx _ hkey
      rw [show heard = _ from congrArg (State.countRx _ _) hrx]
      exact exec_clmReceive_higher hrx hkey
  · intro s f h pl seg b v n heard g op q
    refine ⟨fun hrx hkind hlen hon hout hop hphase hhop => exec_surResponse_taken hrx ⟨hkind, hlen, hon, hout, hop⟩ hphase hhop, ?unasked,
      ?bad, ?first, ?second, ?noPass, ?repeats, ?gaveUp, ?waits, ?answers, exec_surRequestReceive_forwarded⟩
    case unasked =>
      intro hrx hno
      refine exec_surResponse_unasked hrx ?_
      rintro ⟨hkind, -, hon, hout, -⟩
      rcases hno with hno | hno | hno
      · exact hno hkind
      · exact Bool.eq_false_iff.mp hno hon
      · exact Bool.eq_false_iff.mp hno hout
    case bad =>
      intro hbad
      refine exec_surResponse_bad (fun h pl hok => ?_)
      rcases hbad with hbad | hbad | hbad | hbad <;> cases hbad.symm.trans hok
    case first =>
      exact fun hon hphase hout hpass hb => exec_surRequestReturn_first ⟨hon, hphase, hout, by simp [q, hpass, hb]⟩ hpass
    case second =>
      exact fun hon hphase hout hpass hb => exec_surRequestReturn_second ⟨hon, hphase, hout, by simp [q, hpass, hb]⟩ hpass
    case noPass =>
      intro hno
      refine exec_surRequestReturn_other ?_
      rintro ⟨hon, hphase, hout, hport⟩
      rcases hno with hno | hno | hno | hno
      · exact Bool.eq_false_iff.mp hno hon
      · exact hno hphase
      · exact Bool.eq_false_iff.mp hno hout
      · exact hport hno
    case repeats =>
      exact fun hout hon hdue hphase hmore => exec_surveyTimeout_repeats (by simp [State.surveyLate, q, hout, hon, hdue]) hphase hmore
    case gaveUp =>
      exact fun hout hon hdue hphase hlast => exec_surveyTimeout_open (by simp [State.surveyLate, q, hout, hon, hdue]) hphase hlast
    case waits =>
      intro hno
      refine exec_surveyTimeout_waits ?_
      rcases hno with hno | hno | hno <;> simp [State.surveyLate, q, hno, Nat.not_le.mpr]
    case answers =>
      intro hrx hkind hlen hstandby hop hdir hnew hidle htest
      have hport : (((s.takesHop f h pl).useFree 1).port (2 * n + b2n (!s.isBlack))).idle = false := by simp [hidle]
      have hboot : ((s.takesHop f h pl).useFree 1).boot.testEn = false := by simp [htest]
      refine ⟨_, _, exec_surRequestReceive_named hrx hkind hlen hstandby hop hdir hnew, ?name, by simp, _,
        (State.sendFrame_out hport hboot _).trans (congrArg _ (s.takesHop_out f h pl)), ?place⟩
      case name => exact (congrArg Segment.ownHopA (State.seg_congr (by simp) n)).trans (s.takesHop_ownHopA f h pl)
      case place =>
        have hf := f.port.isLt
        have hb : b2n (!s.isBlack) ≤ 1 := by cases s.isBlack <;> decide
        exact Nat.mod_eq_of_lt (by omega)

end Sys2Proof.Machine
end

section
/-! The engine load that a new schedule is checked against, and the status that NET_SCHED_LOAD answers (R36, R95, Table CMD-4). -/

namespace Sys2Proof.Machine

open Sys2Proof.Claims

theorem exec_netSchedLoad (c : CmdCtx) (seg : BitVec 8) (sch : Schedule) (s : State) :
    exec (.netSchedLoad c seg sch) s = execNetSchedLoad c seg sch s := rfl

/-- A schedule is checked against the one in force while the segment runs, and else against the parameters of Table SLT-2. -/
abbrev State.schedFits (t : State) (n : Nat) (sch : Schedule) : Bool :=
  if (t.seg n).phase = .run then t.reloadOk n sch else t.planned.layoutFits n sch && t.planned.scheduleOk n sch

/-- A schedule that fits, but whose period leaves the engines above 87.5 %, is answered LOAD_LIMIT (0x0405). -/
theorem exec_netSchedLoad_overload {s : State} {c : CmdCtx} {seg : BitVec 8} {sch : Schedule} (hacts : Acts s c 0x0702 5)
    (hnamed : (s.takeUp c).segNamed seg = true) (hform : scheduleForm sch = true) (hidle : ((s.takeUp c).seg seg.toNat).busy = false)
    (hfits : (s.takeUp c).schedFits seg.toNat sch = true) (hload : 7 * periodOf sch.period < (s.takeUp c).engineLoad) :
    Replies (.netSchedLoad c seg sch) s c 0x0702 0x0405 [] (s.takeUp c) :=
  (exec_host_takes (a := .refuse 0x0405 []) (exec_netSchedLoad c seg sch s) hacts rfl ((if_neg (by simp [hnamed, hform])).trans
    ((if_neg (Bool.eq_false_iff.mp hidle)).trans ((if_neg (Bool.eq_false_iff.mp (congrArg not hfits))).trans (if_pos hload)))) :)

/-! The status of a reply can be read back from it (R420, Table HST-2). -/

theorem packet_params_inj {op : Nat} {seq : BitVec 16} {id : BitVec 32} {flags : Nat} {key ps qs : List Byte} (hlen : ps.length = qs.length)
    (h : packet op seq id flags key ps = packet op seq id flags key qs) : ps = qs := by
  simp only [packet] at h
  exact List.append_inj_right' h hlen

/-- The newest of the replies that the session keeps (R421). -/
theorem State.reply_newest (s : State) (c : CmdCtx) (op st : Nat) (data : List Byte) :
    ((s.reply c op st data).session c.slot.val).replies.head? = some ⟨c.seq, packet op c.seq (s.session c.slot.val).id (replyFlagsOf c)
      (s.session c.slot.val).key (be 2 st ++ data)⟩ := by
  simp [State.reply, State.replyRaw]

theorem State.reply_status_inj {s : State} {c : CmdCtx} {op st st' : Nat} (h : s.reply c op st [] = s.reply c op st' []) :
    be 2 st = be 2 st' := by
  have hnewest := s.reply_newest c op st []
  rw [h, s.reply_newest c op st' []] at hnewest
  have hbytes := congrArg HeldReply.bytes (Option.some.inj hnewest)
  exact (packet_params_inj (ps := be 2 st') (qs := be 2 st) rfl hbytes).symm

/-- A chip whose session 0 is open for role 5, with one million cycles for the task of the line master. -/
def overloadedChip : State :=
  ((State.reset.setSession 0 { Session.reset with phase := .opened, role := 5 }).setPar (0x04000120 + lineInst * 4096) 1).setPar
    (0x04000121 + lineInst * 4096) 1000000

/-- A command of session 0. -/
def firstCmd : CmdCtx := { slot := 0, seq := 1, expert := false, atBoundary := false }

theorem overloadedChip_acts : Acts overloadedChip firstCmd 0x0702 5 := by
  dsimp only [Acts, Takes]
  decide +kernel

theorem overloadedChip_named : (overloadedChip.takeUp firstCmd).segNamed 0 = true := by decide +kernel

theorem overloadedChip_idle : ((overloadedChip.takeUp firstCmd).seg 0).busy = false := by decide +kernel

theorem overloadedChip_fits : (overloadedChip.takeUp firstCmd).schedFits 0 scheduleDefault = true := by decide +kernel

theorem overloadedChip_load : 7 * periodOf scheduleDefault.period < (overloadedChip.takeUp firstCmd).engineLoad := by decide +kernel

theorem scheduleDefault_form : scheduleForm scheduleDefault = true := by decide

/-- Refutes O36: a schedule that fits, on a chip whose engines it overloads, is said to be answered 0x0402, which is the QUEUE_FULL of Table
HST-2.  The answer is 0x0405, the LOAD_LIMIT of Table CMD-4. -/
theorem not_networkCommands : ¬ Obligations.NetworkCommands := by
  unfold Obligations.NetworkCommands
  intro holds
  obtain ⟨-, -, -, overload, -⟩ := holds overloadedChip firstCmd 0 0 0 0 0 0 0 0 0 0 0 0 0 0 scheduleDefault 0 0 0
    { mode := 1, endTick := 0, ctx := firstCmd }
  have said : Replies (.netSchedLoad firstCmd 0 scheduleDefault) overloadedChip firstCmd 0x0702 0x0402 [] (overloadedChip.takeUp firstCmd) :=
    overload ⟨overloadedChip_named, scheduleDefault_form⟩ overloadedChip_idle overloadedChip_fits (Nat.not_le.mpr overloadedChip_load)
      overloadedChip_acts
  have given : Replies (.netSchedLoad firstCmd 0 scheduleDefault) overloadedChip firstCmd 0x0702 0x0405 [] (overloadedChip.takeUp firstCmd) :=
    exec_netSchedLoad_overload overloadedChip_acts overloadedChip_named scheduleDefault_form overloadedChip_idle overloadedChip_fits
      overloadedChip_load
  have hstatus : be 2 0x0405 = be 2 0x0402 := State.reply_status_inj (Host.Outcome.next.inj (given.symm.trans said))
  exact absurd hstatus (by decide)

end Sys2Proof.Machine
end

section
/-! The local feedback ports and the standstill of an observer (R122 to R129, R133, R134, R138). -/

namespace Sys2Proof.Machine

open Sys2Proof.Claims

theorem exec_fbEdge (n : FbIx) (onB level : Bool) (p : PinTime) (s : State) : exec (.fbEdge n onB level p) s = execFbEdge n onB level p s := rfl
theorem exec_phaseError (n : FbIx) (a b : Bool) (p : PinTime) (s : State) : exec (.phaseError n a b p) s = execPhaseError n a b p s := rfl
theorem exec_hallCodeChange (n : FbIx) (code : BitVec 3) (p : PinTime) (s : State) :
    exec (.hallCodeChange n code p) s = execHallCodeChange n code p s := rfl
theorem exec_indexMark (n : FbIx) (rising : Bool) (p : PinTime) (s : State) : exec (.indexMark n rising p) s = execIndexMark n rising p s := rfl
theorem exec_ssiBurstStart (n : FbIx) (s : State) : exec (.ssiBurstStart n) s = execSsiBurstStart n s := rfl
theorem exec_ssiReading (n : FbIx) (word : BitVec 56) (s : State) : exec (.ssiReading n word) s = execSsiReading n word s := rfl
theorem exec_stillEntry (o : Owner) (s : State) : exec (.stillEntry o) s = execStillEntry o s := rfl
theorem exec_settlingEnd (o : Owner) (s : State) : exec (.settlingEnd o) s = execSettlingEnd o s := rfl

section FeedbackPort

variable {s : State} {n : FbIx} {held : Nat} {came : Int}

/-- Port n counts edges, and its filter passes a level that stood for `held` samples (R123, R124). -/
abbrev State.PassesEdge (s : State) (n held : Nat) : Prop := s.fbMode n = 1 ∧ s.fbPasses n held = true

/-! Quadrature edges and phase errors (R124 to R126, R131). -/

section Quadrature

variable {onB level a b : Bool}

theorem exec_fbEdge_counts (hedge : s.PassesEdge n held) (hnew : (if onB then (s.fb n.val).b else (s.fb n.val).a) ≠ level) :
    Leaves (.fbEdge n onB level ⟨held, came⟩) s (s.changeFb n.val (sampleTime came) (fun x =>
      { x.counted ((if onB then level == (s.fb n.val).a else level != (s.fb n.val).b) != decide (s.parN 0x04100003 n.val = 1))
          (sampleTime came) with
        a := if onB then x.a else level, b := if onB then level else x.b })) :=
  (exec_fbEdge n onB level ⟨held, came⟩ s).trans (if_pos (by simp [hedge, hnew]))

theorem exec_fbEdge_unmoved (h : ¬ s.PassesEdge n held ∨ (if onB then (s.fb n.val).b else (s.fb n.val).a) = level) :
    Leaves (.fbEdge n onB level ⟨held, came⟩) s s :=
  (exec_fbEdge n onB level ⟨held, came⟩ s).trans (if_neg (by
    simp only [Bool.and_eq_true, decide_eq_true_eq, bne_iff_ne]
    exact not_and_or.mpr (h.imp_right not_not_intro)))

theorem exec_phaseError_both (hedge : s.PassesEdge n held) (ha : (s.fb n.val).a ≠ a) (hb : (s.fb n.val).b ≠ b) :
    Leaves (.phaseError n a b ⟨held, came⟩) s (s.phaseErr n.val (sampleTime came) a b true) :=
  (exec_phaseError n a b ⟨held, came⟩ s).trans (whenB_of_true (by simp [hedge, ha, hb]) _ _)

theorem exec_phaseError_notBoth (h : ¬ s.PassesEdge n held ∨ (s.fb n.val).a = a ∨ (s.fb n.val).b = b) :
    Leaves (.phaseError n a b ⟨held, came⟩) s s :=
  (exec_phaseError n a b ⟨held, came⟩ s).trans (whenB_of_false (by
    rcases h with hedge | ha | hb
    · rw [show (decide (s.fbMode n.val = 1) && s.fbPasses n.val held) = false by simpa using hedge]
      rfl
    · simp [ha]
    · simp [hb]) _ _)

end Quadrature

/-! Hall codes (R127, Table FBK-2). -/

section Hall

variable {code old : BitVec 3} {i j : Nat}

/-- Port n reads Hall codes, and its filter passes a code that stood for `held` samples (R123, R124). -/
abbrev State.PassesHall (s : State) (n held : Nat) : Prop := s.fbMode n = 2 ∧ s.fbPasses n held = true

/-- The pins of a port show a Hall code U V W. -/
def FbPort.showHall (x : FbPort) (code : BitVec 3) : FbPort := { x with a := code.getLsbD 2, b := code.getLsbD 1, z := code.getLsbD 0 }

/-- A change from the legal code at step i of Table FBK-2 to the legal code at step j. -/
def State.hallMove (s : State) (n : Nat) (code : BitVec 3) (stamp : Int) (i j : Nat) : Result :=
  let inv := decide (s.parN 0x04100003 n = 1)
  if j = i then .next (s.modFb n (fun x => x.showHall code))
  else if j = (i + 1) % 6 then .next (s.changeFb n stamp (fun x => { (x.showHall code).counted (!inv) stamp with hall := some code }))
  else if i = (j + 1) % 6 then .next (s.changeFb n stamp (fun x => { (x.showHall code).counted inv stamp with hall := some code }))
  else .next ((s.phaseErr n stamp (code.getLsbD 2) (code.getLsbD 1) false).modFb n (fun x => { x.showHall code with hall := some code }))

theorem State.hallMove_up (hnext : j = (i + 1) % 6) (hne : i ≠ j) (stamp : Int) : s.hallMove n.val code stamp i j
    = .next (s.changeFb n.val stamp (fun x =>
        { (x.showHall code).counted (!decide (s.parN 0x04100003 n.val = 1)) stamp with hall := some code })) :=
  (if_neg hne.symm).trans (if_pos hnext)

theorem State.hallMove_apart (hne : j ≠ i) (hup : j ≠ (i + 1) % 6) (hdown : i ≠ (j + 1) % 6) (stamp : Int) : s.hallMove n.val code stamp i j
    = .next ((s.phaseErr n.val stamp (code.getLsbD 2) (code.getLsbD 1) false).modFb n.val (fun x => { x.showHall code with hall := some code })) :=
  (if_neg hne).trans ((if_neg hup).trans (if_neg hdown))

theorem exec_hallCodeChange_unread (h : ¬ s.PassesHall n held) : Leaves (.hallCodeChange n code ⟨held, came⟩) s s :=
  (exec_hallCodeChange n code ⟨held, came⟩ s).trans (if_pos ((not_and_or.mp h).imp_right eq_false_of_ne_true))

theorem State.PassesHall.not_unread (hpass : s.PassesHall n held) : ¬ (s.fbMode n.val ≠ 2 ∨ s.fbPasses n.val held = false) := by
  simp [hpass]

theorem exec_hallCodeChange_illegal (hpass : s.PassesHall n held) (hcode : hallStep code.toNat = none) :
    Leaves (.hallCodeChange n code ⟨held, came⟩) s (s.modFb n.val (fun x =>
      { x.showHall code with herr := true, hallErrs := inc32 x.hallErrs, hallIllegal := true })) := by
  refine (exec_hallCodeChange n code ⟨held, came⟩ s).trans ((if_neg hpass.not_unread).trans ?_)
  simp only [hcode, FbPort.showHall]

/-- Counting resumes from the first legal code (R127). -/
theorem exec_hallCodeChange_resumes (hpass : s.PassesHall n held) (hcode : hallStep code.toNat = some j)
    (hfirst : (s.fb n.val).hallIllegal = true ∨ (s.fb n.val).hall = none) :
    Leaves (.hallCodeChange n code ⟨held, came⟩) s (s.modFb n.val (fun x => { x.showHall code with hall := some code, hallIllegal := false })) := by
  refine (exec_hallCodeChange n code ⟨held, came⟩ s).trans ((if_neg hpass.not_unread).trans ?_)
  rcases hfirst with hillegal | hnone
  · simp only [hcode, hillegal, FbPort.showHall]
  · cases hillegal : (s.fb n.val).hallIllegal <;> simp only [hcode, hnone, FbPort.showHall]

theorem exec_hallCodeChange_legal (hpass : s.PassesHall n held) (hcode : hallStep code.toNat = some j)
    (hlegal : (s.fb n.val).hallIllegal = false) (hhall : (s.fb n.val).hall = some old) (hold : hallStep old.toNat = some i) :
    exec (.hallCodeChange n code ⟨held, came⟩) s = s.hallMove n.val code (sampleTime came) i j := by
  refine (exec_hallCodeChange n code ⟨held, came⟩ s).trans ((if_neg hpass.not_unread).trans ?_)
  simp only [hcode, hlegal, hhall, hold, State.hallMove, FbPort.showHall]

end Hall

/-! The index mark (R133, R134). -/

section Index

variable {rising : Bool}

theorem exec_indexMark_passes (hedge : s.PassesEdge n held) (hindex : s.parN 0x04100004 n.val = 1) :
    Leaves (.indexMark n rising ⟨held, came⟩) s (s.modFb n.val (fun x =>
      let y := { x with z := rising }
      if rising == (s.fb n.val).lastUp then y.indexLatch (sampleTime came) (s.par 0x04100005 n.val) (s.par 0x04100006 n.val) else y)) :=
  (exec_indexMark n rising ⟨held, came⟩ s).trans (if_pos (by simp [hedge, hindex]))

theorem exec_indexMark_latches (hedge : s.PassesEdge n held) (hindex : s.parN 0x04100004 n.val = 1) (hlead : rising = (s.fb n.val).lastUp) :
    Leaves (.indexMark n rising ⟨held, came⟩) s (s.modFb n.val (fun x =>
      ({ x with z := rising } : FbPort).indexLatch (sampleTime came) (s.par 0x04100005 n.val) (s.par 0x04100006 n.val))) := by
  simpa only [beq_iff_eq.mpr hlead, if_true] using exec_indexMark_passes (came := came) (rising := rising) hedge hindex

theorem exec_indexMark_trails (hedge : s.PassesEdge n held) (hindex : s.parN 0x04100004 n.val = 1) (htrail : rising ≠ (s.fb n.val).lastUp) :
    Leaves (.indexMark n rising ⟨held, came⟩) s (s.modFb n.val (fun x => { x with z := rising })) := by
  simpa only [beq_false_of_ne htrail, Bool.false_eq_true, if_false] using exec_indexMark_passes (came := came) (rising := rising) hedge hindex

theorem exec_indexMark_unread (h : ¬ s.PassesEdge n held ∨ s.parN 0x04100004 n.val ≠ 1) : Leaves (.indexMark n rising ⟨held, came⟩) s s :=
  (exec_indexMark n rising ⟨held, came⟩ s).trans (if_neg (by
    simp only [Bool.and_eq_true, decide_eq_true_eq]
    rw [and_comm (a := s.fbPasses n.val held = true)]
    exact not_and_or.mpr h))

end Index

/-! SSI bursts and readings (R128, R129). -/

section Ssi

variable {word : BitVec 56}

/-- Port n is in one of the SSI modes (R123). -/
abbrev State.IsSsi (s : State) (n : Nat) : Prop := s.fbMode n = 3 ∨ s.fbMode n = 4

/-- The position bits of an SSI word, as they came. -/
def State.ssiRaw (s : State) (n : Nat) (word : BitVec 56) : Nat :=
  (word.toNat / 2 ^ s.parN 0x04100011 n) % 2 ^ s.parN 0x04100010 n

/-- The last tail bit of an SSI word says that the reading is invalid (R129). -/
def State.ssiBad (s : State) (n : Nat) (word : BitVec 56) : Bool :=
  decide (s.parN 0x04100011 n ≠ 0)
    && ((decide (s.parN 0x04100012 n = 1) && nbit word.toNat 0) || (decide (s.parN 0x04100012 n = 2) && !nbit word.toNat 0))

theorem getLsbD_eq_nbit {w : Nat} (v : BitVec w) (i : Nat) : v.getLsbD i = nbit v.toNat i :=
  Nat.testBit_eq_decide_div_mod_eq

theorem State.ssiBad_noTail (htail : s.parN 0x04100011 n.val = 0) : s.ssiBad n.val word = false := by
  simp [State.ssiBad, htail]

theorem State.ssiBad_high (htail : s.parN 0x04100011 n.val ≠ 0) (hpol : s.parN 0x04100012 n.val = 1) (hlast : word.getLsbD 0 = true) :
    s.ssiBad n.val word = true := by
  simp [State.ssiBad, htail, hpol, ← getLsbD_eq_nbit, hlast]

theorem exec_ssiReading_taken (hssi : s.IsSsi n) : Leaves (.ssiReading n word) s (s.modFb n.val (fun x =>
    x.ssiTake (if s.fbMode n.val = 4 then grayToBin (s.ssiRaw n.val word) (s.parN 0x04100010 n.val) else s.ssiRaw n.val word)
      (s.parN 0x04100010 n.val) (s.ssiBad n.val word) (s.parN 0x04100015 n.val))) :=
  (exec_ssiReading n word s).trans (whenB_of_true (decide_eq_true hssi) _ _)

theorem exec_ssiReading_binary (hmode : s.fbMode n.val = 3) : Leaves (.ssiReading n word) s (s.modFb n.val (fun x =>
    x.ssiTake (s.ssiRaw n.val word) (s.parN 0x04100010 n.val) (s.ssiBad n.val word) (s.parN 0x04100015 n.val))) := by
  have hbinary : s.fbMode n.val ≠ 4 := by simp [hmode]
  simpa only [if_neg hbinary] using exec_ssiReading_taken (word := word) (.inl hmode)

theorem exec_ssiReading_gray (hmode : s.fbMode n.val = 4) : Leaves (.ssiReading n word) s (s.modFb n.val (fun x =>
    x.ssiTake (grayToBin (s.ssiRaw n.val word) (s.parN 0x04100010 n.val)) (s.parN 0x04100010 n.val) (s.ssiBad n.val word)
      (s.parN 0x04100015 n.val))) := by
  simpa only [if_pos hmode] using exec_ssiReading_taken (word := word) (.inr hmode)

theorem exec_ssiReading_otherMode (h : ¬ s.IsSsi n) : Leaves (.ssiReading n word) s s :=
  (exec_ssiReading n word s).trans (whenB_of_false (decide_eq_false h) _ _)

theorem exec_ssiBurstStart_due (hssi : s.IsSsi n) (hmove : s.twin.standby = false) (hloud : s.saf.silent = false)
    (hrun : s.cyc.running = true) (hnew : (s.fb n.val).burstFor ≠ some (s.cyc.cycle + 1))
    (hdue : s.tCycle (s.cyc.cycle + 1) - s.tSsi n.val ≤ s.now) :
    Leaves (.ssiBurstStart n) s ((s.modFb n.val (fun x => { x with cDriven := true, c := true, burstFor := some (s.cyc.cycle + 1) })).put
      (.ssiBurst n (s.parN 0x04100010 n.val + s.parN 0x04100011 n.val + 1))) :=
  (exec_ssiBurstStart n s).trans (whenB_of_true (by simp [decide_eq_true hssi, hmove, hloud, hrun, hnew, hdue]) _ _)

theorem exec_ssiBurstStart_notDue (h : ¬ s.IsSsi n ∨ s.twin.standby = true ∨ s.cyc.running = false
    ∨ (s.fb n.val).burstFor = some (s.cyc.cycle + 1)) : Leaves (.ssiBurstStart n) s s :=
  (exec_ssiBurstStart n s).trans (whenB_of_false (by
    rcases h with hother | hstandby | hstopped | hdone
    · simp [decide_eq_false hother]
    · simp [hstandby]
    · simp [hstopped]
    · simp [hdone]) _ _)

end Ssi

end FeedbackPort

/-! Standstill and settling (R138). -/

section Standstill

variable {s : State} {o : Owner}

theorem exec_stillEntry_due (hmoving : (s.ownerObs o).still = false) (hdue : s.nStill o ≤ (s.ownerObs o).stillTimer) :
    Leaves (.stillEntry o) s (s.modOwnerObs o (fun x => x.freeze x.rawPrev (s.normPos o (x.rawPrev * 65536)))) :=
  (exec_stillEntry o s).trans (whenB_of_true (by simp [hmoving, hdue]) _ _)

theorem exec_stillEntry_still (hstill : (s.ownerObs o).still = true) : Leaves (.stillEntry o) s s :=
  (exec_stillEntry o s).trans (whenB_of_false (by simp [hstill]) _ _)

theorem exec_settlingEnd_due (hflag : (s.ownerObs o).settlingFlag = true) (hdone : (s.ownerObs o).settling = 0) :
    Leaves (.settlingEnd o) s (s.modOwnerObs o (fun x => { x with settlingFlag := false })) :=
  (exec_settlingEnd o s).trans (whenB_of_true (by simp [hflag, hdone]) _ _)

theorem exec_settlingEnd_notDue (h : (s.ownerObs o).settlingFlag = false ∨ (s.ownerObs o).settling ≠ 0) : Leaves (.settlingEnd o) s s :=
  (exec_settlingEnd o s).trans (whenB_of_false (by rcases h with h | h <;> simp [h]) _ _)

end Standstill

/-- Settles O41: each event of a port where its filter passes it, the Hall codes by their steps of Table FBK-2, the SSI words by their tail,
and the observer's two events at their guards. -/
theorem feedbackPorts : Obligations.FeedbackPorts := by
  unfold Obligations.FeedbackPorts
  intro s n onB lv a b rising code held came word o i j old m stamp passes edges x inv fwd up pins hall bits tail raw ob ssi
  refine ⟨exec_fbEdge_counts, exec_fbEdge_unmoved, exec_phaseError_both, exec_phaseError_notBoth,
    fun hm hp => exec_hallCodeChange_illegal ⟨hm, hp⟩, fun hm hp => exec_hallCodeChange_resumes ⟨hm, hp⟩, ?hallUp, ?hallApart,
    fun h => exec_hallCodeChange_unread (not_and_or.mpr h), exec_indexMark_latches, exec_indexMark_trails, exec_indexMark_unread,
    exec_ssiBurstStart_due, exec_ssiBurstStart_notDue, ?binary, ?gray, ?badTail, exec_ssiReading_otherMode,
    exec_stillEntry_due, exec_stillEntry_still, exec_settlingEnd_due, exec_settlingEnd_notDue⟩
  case hallUp =>
    intro hm hp hcode hlegal hhall hold hnext hne
    exact (exec_hallCodeChange_legal ⟨hm, hp⟩ hcode hlegal hhall hold).trans (State.hallMove_up hnext hne stamp)
  case hallApart =>
    intro hm hp hcode hlegal hhall hold hne hup hdown
    exact (exec_hallCodeChange_legal ⟨hm, hp⟩ hcode hlegal hhall hold).trans (State.hallMove_apart hne hup hdown stamp)
  case binary =>
    intro hm htail
    rw [← State.ssiBad_noTail (word := word) htail]
    exact exec_ssiReading_binary hm
  case gray =>
    intro hm htail
    rw [← State.ssiBad_noTail (word := word) htail]
    exact exec_ssiReading_gray hm
  case badTail =>
    intro hm htail hpol hlast
    rw [← State.ssiBad_high htail hpol hlast]
    exact exec_ssiReading_binary hm

end Sys2Proof.Machine
end

section
/-! What the dispatcher does for the instructions of Table ENG-12 (R162): each command is its own definition. -/

namespace Sys2Proof.Machine

section EngineInstructions

variable {s : State} {e : EngIx} {d a b m n : Fin 32} {ar o : Fin 8} {sh : Fin 64} {k : Fin 4} {pm clr neg bcast auto reg : Bool} {ecc : Ecc}
  {imm : Word48} {imm32 : BitVec 32} {mask cond : BitVec 4} {target count : BitVec 16} {lc : Fin 2}

theorem exec_ceLd : exec (.ceLd e d ar pm o ecc) s = execCeLd e d ar pm o ecc s := rfl
theorem exec_ceLdq : exec (.ceLdq e d ar pm o ecc) s = execCeLdq e d ar pm o ecc s := rfl
theorem exec_ceSt : exec (.ceSt e d ar pm o) s = execCeSt e d ar pm o s := rfl
theorem exec_ceStq : exec (.ceStq e d ar pm o) s = execCeStq e d ar pm o s := rfl
theorem exec_ceLdi : exec (.ceLdi e d imm) s = execCeLdi e d imm s := rfl
theorem exec_ceMov : exec (.ceMov e d a) s = execCeMov e d a s := rfl
theorem exec_ceAdd : exec (.ceAdd e d a b) s = execCeAdd e d a b s := rfl
theorem exec_ceSub : exec (.ceSub e d a b) s = execCeSub e d a b s := rfl
theorem exec_ceAdds : exec (.ceAdds e d a b) s = execCeAdds e d a b s := rfl
theorem exec_ceSubs : exec (.ceSubs e d a b) s = execCeSubs e d a b s := rfl
theorem exec_ceAnd : exec (.ceAnd e d a b) s = execCeAnd e d a b s := rfl
theorem exec_ceOr : exec (.ceOr e d a b) s = execCeOr e d a b s := rfl
theorem exec_ceXor : exec (.ceXor e d a b) s = execCeXor e d a b s := rfl
theorem exec_ceShl : exec (.ceShl e d a sh) s = execCeShl e d a sh s := rfl
theorem exec_ceAsr : exec (.ceAsr e d a sh) s = execCeAsr e d a sh s := rfl
theorem exec_ceCmp : exec (.ceCmp e a b) s = execCeCmp e a b s := rfl
theorem exec_ceMin : exec (.ceMin e d a b) s = execCeMin e d a b s := rfl
theorem exec_ceMax : exec (.ceMax e d a b) s = execCeMax e d a b s := rfl
theorem exec_ceAbs : exec (.ceAbs e d a) s = execCeAbs e d a s := rfl
theorem exec_ceNeg : exec (.ceNeg e d a) s = execCeNeg e d a s := rfl
theorem exec_ceAddi : exec (.ceAddi e d a imm32) s = execCeAddi e d a imm32 s := rfl
theorem exec_ceWrapm : exec (.ceWrapm e d a b) s = execCeWrapm e d a b s := rfl
theorem exec_ceMac : exec (.ceMac e k clr neg m n) s = execCeMac e k clr neg m n s := rfl
theorem exec_ceMac4 : exec (.ceMac4 e clr neg bcast m n) s = execCeMac4 e clr neg bcast m n s := rfl
theorem exec_ceAcclr : exec (.ceAcclr e mask) s = execCeAcclr e mask s := rfl
theorem exec_ceAccld : exec (.ceAccld e k n sh) s = execCeAccld e k n sh s := rfl
theorem exec_ceMvs : exec (.ceMvs e d k auto sh) s = execCeMvs e d k auto sh s := rfl
theorem exec_ceMvs4 : exec (.ceMvs4 e d auto sh) s = execCeMvs4 e d auto sh s := rfl
theorem exec_ceBr : exec (.ceBr e cond target) s = execCeBr e cond target s := rfl
theorem exec_ceLoop : exec (.ceLoop e lc reg a count target) s = execCeLoop e lc reg a count target s := rfl
theorem exec_ceCall : exec (.ceCall e target) s = execCeCall e target s := rfl
theorem exec_ceRet : exec (.ceRet e) s = execCeRet e s := rfl
theorem exec_ceEnd : exec (.ceEnd e) s = execCeEnd e s := rfl
theorem exec_ceTflt : exec (.ceTflt e count) s = execCeTflt e count s := rfl
theorem exec_ceFence : exec (.ceFence e) s = execCeFence e s := rfl

end EngineInstructions

end Sys2Proof.Machine
end

section
/-! The arithmetic, logic and move instructions (R160 to R162, Table ENG-12). -/

namespace Sys2Proof.Machine

open Sys2Proof.Claims

theorem w48_add_toInt (u w : Word48) : w48 (u.toInt + w.toInt) = u + w := by
  simp [w48, BitVec.ofInt_add]

theorem w48_sub_toInt (u w : Word48) : w48 (u.toInt - w.toInt) = u - w :=
  BitVec.eq_of_toInt_eq (by simp [w48, BitVec.toInt_sub])

/-- An immediate of 32 bits is extended with its sign. -/
theorem w48_add_imm (u : Word48) (imm : BitVec 32) : w48 (u.toInt + imm.toInt) = u + imm.signExtend 48 := by
  simp [w48, BitVec.ofInt_add, BitVec.signExtend]

theorem engWrap_value (d : Nat) (f : Engine → Int) (x : Engine) : engWrap d f x = engWrap d (fun _ => f x) x := rfl

theorem engSat_value (d : Nat) (f : Engine → Int) (x : Engine) : engSat d f x = engSat d (fun _ => f x) x := rfl

theorem engSatZN_value (d : Nat) (f : Engine → Int) (x : Engine) : engSatZN d f x = engSatZN d (fun _ => f x) x := rfl

theorem engAlu_value (d : Nat) (f : Engine → Word48) (x : Engine) : engAlu d f x = engAlu d (fun _ => f x) x := rfl

/-- Settles O1: each of the three is the wrapping instruction of its exact result. -/
theorem engineWrappingSums : Obligations.EngineWrappingSums := by
  unfold Obligations.EngineWrappingSums
  intro s e r d a b imm h
  refine ⟨?add, ?sub, ?addi⟩
  case add =>
    rw [← w48_add_toInt]
    exact State.engineStep_wrap _ s _ _ r _ _ exec_ceAdd h (engWrap_value _ _ _)
  case sub =>
    rw [← w48_sub_toInt]
    exact State.engineStep_wrap _ s _ _ r _ _ exec_ceSub h (engWrap_value _ _ _)
  case addi =>
    rw [← w48_add_imm]
    exact State.engineStep_wrap _ s _ _ r _ _ exec_ceAddi h (engWrap_value _ _ _)

/-- Settles O2: each is the saturating instruction of its exact result. -/
theorem engineSaturatingResults : Obligations.EngineSaturatingResults := by
  unfold Obligations.EngineSaturatingResults
  intro s e r d a b sh h
  refine ⟨?adds, ?subs, ?shl, ?shlIllegal, ?abs, ?neg⟩
  case adds => exact State.engineStep_sat _ s _ _ r _ _ exec_ceAdds h (engSat_value _ _ _)
  case subs => exact State.engineStep_sat _ s _ _ r _ _ exec_ceSubs h (engSat_value _ _ _)
  case shl =>
    intro hsh
    exact State.engineStep_satZN _ s _ _ r _ _ exec_ceShl h ((if_pos hsh).trans (engSatZN_value _ _ _))
  case shlIllegal =>
    intro hsh
    exact exec_taskFault_of_illegal h exec_ceShl (if_neg (Nat.not_le.mpr hsh))
  case abs =>
    rw [← Int.natCast_natAbs]
    exact State.engineStep_satZN _ s _ _ r _ _ exec_ceAbs h (engSatZN_value _ _ _)
  case neg => exact State.engineStep_satZN _ s _ _ r _ _ exec_ceNeg h (engSatZN_value _ _ _)

theorem w48_min (u w : Word48) : w48 (min u.toInt w.toInt) = if u.toInt ≤ w.toInt then u else w := by
  rw [min_def]
  split <;> exact w48_toInt _

theorem w48_max (u w : Word48) : w48 (max u.toInt w.toInt) = if u.toInt ≤ w.toInt then w else u := by
  rw [max_def]
  split <;> exact w48_toInt _

/-- WRAPM: the representative of v in −t/2 ≤ r < t/2. -/
theorem wrapMod_bounds (v t : Int) (ht : 2 ≤ t) :
    -t ≤ 2 * wrapMod v t ∧ 2 * wrapMod v t < t ∧ (v - wrapMod v t) % t = 0 := by
  have hlo : 0 ≤ v % t := Int.emod_nonneg v (by omega)
  have hhi : v % t < t := Int.emod_lt_of_pos v (by omega)
  have hself : (v - v % t) % t = 0 := by simp [Int.sub_emod]
  have hsub : v - (v % t - t) = (v - v % t) + t := by omega
  unfold wrapMod
  dsimp only
  split
  · refine ⟨by omega, by omega, ?_⟩
    rw [hsub, Int.add_emod_right, hself]
  · exact ⟨by omega, by omega, hself⟩

theorem w48_toInt_of_fits {v : Int} (hlo : -140737488355328 ≤ v) (hhi : v ≤ 140737488355327) : (w48 v).toInt = v := by
  rw [w48, BitVec.toInt_ofInt]
  exact Int.bmod_eq_of_le (by norm_num; omega) (by norm_num; omega)

theorem toInt_word48_lt (u : Word48) : u.toInt < 140737488355328 := BitVec.toInt_lt (x := u)

/-- Settles O3: each instruction by its result, and CMP by the flags of the difference. -/
theorem engineMovesLogicAndCompares : Obligations.EngineMovesLogicAndCompares := by
  unfold Obligations.EngineMovesLogicAndCompares
  intro s e r d a b imm sh h x u w asr
  refine ⟨?mov, ?ldi, ?and, ?or, ?xor, ?min, ?max, ?asr, ?asrIllegal, ?cmp, ?wrapm, ?wrapmIllegal⟩
  case mov => exact ⟨_, exec_onward_of_seq h exec_ceMov rfl rfl rfl, Engine.setX_putsX _ _ _, fun _ => rfl, rfl⟩
  case ldi => exact ⟨_, exec_onward_of_seq h exec_ceLdi rfl rfl rfl, Engine.setX_putsX _ _ _, fun _ => rfl, rfl⟩
  case and => exact State.engineStep_alu _ s _ _ r _ _ exec_ceAnd h (engAlu_value _ _ _)
  case or => exact State.engineStep_alu _ s _ _ r _ _ exec_ceOr h (engAlu_value _ _ _)
  case xor => exact State.engineStep_alu _ s _ _ r _ _ exec_ceXor h (engAlu_value _ _ _)
  case min =>
    rw [← w48_min]
    exact State.engineStep_alu _ s _ _ r _ _ exec_ceMin h (engAlu_value _ _ _)
  case max =>
    rw [← w48_max]
    exact State.engineStep_alu _ s _ _ r _ _ exec_ceMax h (engAlu_value _ _ _)
  case asr =>
    intro hsh
    exact State.engineStep_alu _ s _ _ r _ _ exec_ceAsr h ((if_pos hsh).trans (engAlu_value _ _ _))
  case asrIllegal =>
    intro hsh
    exact exec_taskFault_of_illegal h exec_ceAsr (if_neg (Nat.not_le.mpr hsh))
  case cmp =>
    refine ⟨_, exec_onward_of_seq h exec_ceCmp rfl rfl rfl, rfl, ?_⟩
    rw [← w48_sub_toInt]
    exact setZNV_flag _ _ _
  case wrapm =>
    intro hw
    obtain ⟨hlo, hhi, hmod⟩ := wrapMod_bounds u.toInt w.toInt hw
    have hwlt := toInt_word48_lt w
    have hv : (w48 (wrapMod u.toInt w.toInt)).toInt = wrapMod u.toInt w.toInt := w48_toInt_of_fits (by omega) (by omega)
    refine ⟨w48 (wrapMod u.toInt w.toInt), ?_, ?_⟩
    · exact State.engineStep_alu _ s _ _ r _ _ exec_ceWrapm h ((if_pos hw).trans (engAlu_value _ _ _))
    · rw [hv]
      exact ⟨hlo, hhi, hmod⟩
  case wrapmIllegal =>
    intro hw
    exact exec_taskFault_of_illegal h exec_ceWrapm (if_neg (Int.not_le.mpr hw))

end Sys2Proof.Machine
end

section
/-! The accumulators (R158, R159): a MAC step, a run of them, and the instructions that write them. -/

namespace Sys2Proof.Machine

open Sys2Proof.Claims

theorem Acc.reg_bounds (c : Acc) : -2 ^ 103 ≤ c.reg.toInt ∧ c.reg.toInt < 2 ^ 103 :=
  ⟨BitVec.le_toInt c.reg, BitVec.toInt_lt⟩

theorem Acc.add_reg (c : Acc) (t : Int) : (c.add t).reg = BitVec.ofInt 104 (c.reg.toInt + t) := by
  simp only [Acc.add]
  split
  · split <;> rfl
  · split
    · split <;> rfl
    · rfl

theorem Acc.add_inside (c : Acc) (t : Int) (hlo : -2 ^ 103 ≤ c.reg.toInt + t) (hhi : c.reg.toInt + t < 2 ^ 103) :
    c.add t = { c with reg := BitVec.ofInt 104 (c.reg.toInt + t) } := by
  simp only [Acc.add]
  rw [if_neg (by omega), if_neg (by omega)]

theorem Acc.add_above (c : Acc) (t : Int) (h : 2 ^ 103 ≤ c.reg.toInt + t) (hw : c.w < 3) :
    c.add t = { c with reg := BitVec.ofInt 104 (c.reg.toInt + t), w := c.w + 1 } := by
  simp only [Acc.add]
  rw [if_pos (by omega), if_pos hw]

theorem Acc.add_above_lost (c : Acc) (t : Int) (h : 2 ^ 103 ≤ c.reg.toInt + t) (hw : 3 ≤ c.w) :
    c.add t = { c with reg := BitVec.ofInt 104 (c.reg.toInt + t), lost := true, lostUp := true } := by
  simp only [Acc.add]
  rw [if_pos (by omega), if_neg (by omega)]

theorem Acc.add_below (c : Acc) (t : Int) (h : c.reg.toInt + t < -2 ^ 103) (hw : -3 < c.w) :
    c.add t = { c with reg := BitVec.ofInt 104 (c.reg.toInt + t), w := c.w - 1 } := by
  simp only [Acc.add]
  rw [if_neg (by omega), if_pos (by omega), if_pos hw]

theorem Acc.add_below_lost (c : Acc) (t : Int) (h : c.reg.toInt + t < -2 ^ 103) (hw : c.w ≤ -3) :
    c.add t = { c with reg := BitVec.ofInt 104 (c.reg.toInt + t), lost := true, lostUp := false } := by
  simp only [Acc.add]
  rw [if_neg (by omega), if_pos (by omega), if_neg (by omega)]

/-- What a 104-bit register holds of a sum that wraps at most once. -/
theorem toInt_ofInt_104 (v k : Int) (hlo : -2 ^ 103 ≤ v - k * 2 ^ 104) (hhi : v - k * 2 ^ 104 < 2 ^ 103) :
    (BitVec.ofInt 104 v).toInt = v - k * 2 ^ 104 := by
  have hmod : v.bmod (2 ^ 104) = (v - k * ((2 ^ 104 : Nat) : Int)).bmod (2 ^ 104) := (Int.sub_mul_bmod_self_right v k (2 ^ 104)).symm
  rw [BitVec.toInt_ofInt, hmod]
  push_cast
  exact Int.bmod_eq_of_le (by push_cast; omega) (by push_cast; omega)

/-- One step of at most 2^94 keeps |W| ≤ 3, and the true value unless it loses a wrap. -/
theorem Acc.add_true (c : Acc) (t : Int) (hw : c.w.natAbs ≤ 3) (ht : t.natAbs ≤ 2 ^ 94) :
    (c.add t).w.natAbs ≤ 3 ∧ (c.lost = true → (c.add t).lost = true)
      ∧ ((c.add t).lost = false → trueValue (c.add t) = trueValue c + t) := by
  obtain ⟨hlo, hhi⟩ := c.reg_bounds
  by_cases hup : 2 ^ 103 ≤ c.reg.toInt + t
  · by_cases h3 : c.w < 3
    · have hreg := toInt_ofInt_104 (c.reg.toInt + t) 1 (by omega) (by omega)
      rw [c.add_above t hup h3]
      refine ⟨by dsimp only; omega, id, fun _ => ?_⟩
      simp only [trueValue, hreg]
      omega
    · rw [c.add_above_lost t hup (by omega)]
      exact ⟨hw, fun _ => rfl, nofun⟩
  · by_cases hdn : c.reg.toInt + t < -2 ^ 103
    · by_cases h3 : -3 < c.w
      · have hreg := toInt_ofInt_104 (c.reg.toInt + t) (-1) (by omega) (by omega)
        rw [c.add_below t hdn h3]
        refine ⟨by dsimp only; omega, id, fun _ => ?_⟩
        simp only [trueValue, hreg]
        omega
      · rw [c.add_below_lost t hdn (by omega)]
        exact ⟨hw, fun _ => rfl, nofun⟩
    · have hreg := toInt_ofInt_104 (c.reg.toInt + t) 0 (by omega) (by omega)
      rw [c.add_inside t (by omega) (by omega)]
      refine ⟨hw, id, fun _ => ?_⟩
      simp only [trueValue, hreg]
      omega

/-- The product that a MAC step adds (R158). -/
def macTerm (neg : Bool) (m n : Word48) : Int := (if neg then -1 else 1) * (m.toInt * n.toInt)

theorem Acc.mac_eq (c : Acc) (clr neg : Bool) (m n : Word48) :
    c.mac clr neg m n = if clr then Acc.load (macTerm neg m n) else c.add (macTerm neg m n) := by
  cases neg <;> simp [Acc.mac, macTerm]

theorem macTerm_natAbs (neg : Bool) (m n : Word48) : (macTerm neg m n).natAbs ≤ 2 ^ 94 := by
  have hm : m.toInt.natAbs ≤ 2 ^ 47 := by
    have := BitVec.le_toInt m; have := BitVec.toInt_lt (x := m); omega
  have hn : n.toInt.natAbs ≤ 2 ^ 47 := by
    have := BitVec.le_toInt n; have := BitVec.toInt_lt (x := n); omega
  have hmn : m.toInt.natAbs * n.toInt.natAbs ≤ 2 ^ 47 * 2 ^ 47 := Nat.mul_le_mul hm hn
  cases neg <;> simpa [macTerm, Int.natAbs_mul] using hmn

/-- A run of MAC steps (R158). -/
def Acc.macs (c : Acc) (ps : List (Word48 × Word48 × Bool)) : Acc :=
  ps.foldl (fun (a : Acc) p => a.mac false p.2.2 p.1 p.2.1) c

theorem Acc.macs_cons (c : Acc) (p : Word48 × Word48 × Bool) (ps : List (Word48 × Word48 × Bool)) :
    c.macs (p :: ps) = (c.add (macTerm p.2.2 p.1 p.2.1)).macs ps := by
  simp [Acc.macs, Acc.mac_eq]

theorem Acc.macs_true (ps : List (Word48 × Word48 × Bool)) (c : Acc) (hw : c.w.natAbs ≤ 3) :
    (c.macs ps).w.natAbs ≤ 3 ∧ (c.lost = true → (c.macs ps).lost = true)
      ∧ ((c.macs ps).lost = false → trueValue (c.macs ps) = trueValue c + (ps.map (fun p => macTerm p.2.2 p.1 p.2.1)).sum) := by
  induction ps generalizing c with
  | nil => exact ⟨hw, id, fun _ => by simp [Acc.macs]⟩
  | cons p ps ih =>
    obtain ⟨hw1, hl1, ht1⟩ := c.add_true (macTerm p.2.2 p.1 p.2.1) hw (macTerm_natAbs _ _ _)
    obtain ⟨hw2, hl2, ht2⟩ := ih _ hw1
    rw [c.macs_cons]
    refine ⟨hw2, fun h => hl2 (hl1 h), fun h => ?_⟩
    have hfirst : (c.add (macTerm p.2.2 p.1 p.2.1)).lost = false := by
      by_contra hlost
      rw [hl2 (by simpa using hlost)] at h
      cases h
    rw [ht2 h, ht1 hfirst, List.map_cons, List.sum_cons]
    omega

/-- Settles O4, by induction on the run: each step keeps |W| ≤ 3, LOST once set, and the true value while LOST is clear. -/
theorem accumulatorHoldsTrueSum : Obligations.AccumulatorHoldsTrueSum := by
  unfold Obligations.AccumulatorHoldsTrueSum
  intro ps c hw
  obtain ⟨hbound, -, htrue⟩ := Acc.macs_true ps c hw
  exact ⟨hbound, htrue⟩

/-- The accumulators below n that b marks are written, the others stay. -/
theorem Engine.accr_foldl_setAcc (b : Nat → Bool) (g : Nat → Acc) (x : Engine) (n j : Nat) :
    ((List.range n).foldl (fun y i => if b i then y.setAcc i (g i) else y) x).accr j
      = if j < n ∧ b j = true then g j else x.accr j := by
  induction n with
  | zero => simp
  | succ n ih =>
    rw [List.range_succ, List.foldl_append]
    simp only [List.foldl_cons, List.foldl_nil]
    by_cases hj : j = n
    · subst hj
      cases hb : b j <;> simp [hb, Engine.accr_setAcc, ih]
    · have hlt : (j < n + 1 ∧ b j = true) ↔ (j < n ∧ b j = true) := and_congr_left' (by omega)
      rw [if_congr hlt rfl rfl, ← ih]
      split
      · exact (Engine.accr_setAcc _ _ _ _).trans (if_neg hj)
      · rfl

theorem Engine.foldl_setAcc_rest (b : Nat → Bool) (g : Nat → Acc) (is : List Nat) (x : Engine) :
    is.foldl (fun y i => if b i then y.setAcc i (g i) else y) x
      = { x with acc := (is.foldl (fun y i => if b i then y.setAcc i (g i) else y) x).acc } := by
  induction is generalizing x with
  | nil => rfl
  | cons i is ih =>
    rw [List.foldl_cons, ih]
    split <;> rfl

theorem Engine.accr_foldl_setAcc_all (g : Nat → Acc) (x : Engine) (n j : Nat) :
    ((List.range n).foldl (fun y i => y.setAcc i (g i)) x).accr j = if j < n then g j else x.accr j := by
  simpa using Engine.accr_foldl_setAcc (fun _ => true) g x n j

theorem Engine.foldl_setAcc_all_rest (g : Nat → Acc) (is : List Nat) (x : Engine) :
    is.foldl (fun y i => y.setAcc i (g i)) x = { x with acc := (is.foldl (fun y i => y.setAcc i (g i)) x).acc } := by
  simpa using Engine.foldl_setAcc_rest (fun _ => true) g is x

/-- What R158 says of one MAC step without CLR on an accumulator. -/
theorem Acc.add_steps (c : Acc) (t : Int) : (c.add t).reg = BitVec.ofInt 104 (c.reg.toInt + t)
    ∧ (-2 ^ 103 ≤ c.reg.toInt + t → c.reg.toInt + t < 2 ^ 103 →
        (c.add t).w = c.w ∧ (c.add t).lost = c.lost ∧ (c.add t).lostUp = c.lostUp)
    ∧ (2 ^ 103 ≤ c.reg.toInt + t → c.w < 3 → (c.add t).w = c.w + 1 ∧ (c.add t).lost = c.lost)
    ∧ (2 ^ 103 ≤ c.reg.toInt + t → 3 ≤ c.w → (c.add t).w = c.w ∧ (c.add t).lost = true ∧ (c.add t).lostUp = true)
    ∧ (c.reg.toInt + t < -2 ^ 103 → -3 < c.w → (c.add t).w = c.w - 1 ∧ (c.add t).lost = c.lost)
    ∧ (c.reg.toInt + t < -2 ^ 103 → c.w ≤ -3 → (c.add t).w = c.w ∧ (c.add t).lost = true ∧ (c.add t).lostUp = false) := by
  refine ⟨c.add_reg t, fun h1 h2 => ?_, fun h1 h2 => ?_, fun h1 h2 => ?_, fun h1 h2 => ?_, fun h1 h2 => ?_⟩
  · rw [c.add_inside t h1 h2]; exact ⟨rfl, rfl, rfl⟩
  · rw [c.add_above t h1 h2]; exact ⟨rfl, rfl⟩
  · rw [c.add_above_lost t h1 h2]; exact ⟨rfl, rfl, rfl⟩
  · rw [c.add_below t h1 h2]; exact ⟨rfl, rfl⟩
  · rw [c.add_below_lost t h1 h2]; exact ⟨rfl, rfl, rfl⟩

/-- Settles O5: each instruction writes the accumulators it names, one by one, and nothing else of its engine. -/
theorem engineAccumulatorWrites : Obligations.EngineAccumulatorWrites := by
  unfold Obligations.EngineAccumulatorWrites
  intro s e r k clr neg bcast m n mask sh h x p load step only
  have hstep : ∀ (c : Acc) (i j : Nat), step c (p i j) (c.mac clr neg (x.xr i) (x.xr j)) := by
    intro c i j
    simp only [step, Acc.mac_eq]
    cases clr
    · exact c.add_steps _
    · rfl
  refine ⟨?mac, ?mac4, ?mac4Illegal, ?acclr, ?accld, ?accldIllegal⟩
  case mac =>
    refine ⟨_, exec_onward_of_seq h exec_ceMac rfl rfl rfl, rfl, fun j => ?_⟩
    rw [Engine.accr_setAcc]
    by_cases hj : j = k.val
    · simpa only [hj, if_true] using hstep _ _ _
    · simp only [hj, if_false]; rfl
  case mac4 =>
    intro hm hn
    have hrest := Engine.foldl_setAcc_all_rest (fun i => (x.accr i).mac clr neg (x.xr (m.val + i))
      (x.xr (if bcast then n.val else n.val + i))) (List.range 4) x
    refine ⟨_, exec_onward_of_seq h exec_ceMac4 (if_pos ⟨hm, hn⟩) (by rw [hrest]) (by rw [hrest]), hrest, fun j => ?_⟩
    rw [Engine.accr_foldl_setAcc_all]
    by_cases hj : j < 4
    · simpa only [hj, if_true] using hstep _ _ _
    · simp only [hj, if_false]; rfl
  case mac4Illegal =>
    intro hbad
    have hno : ¬ (m.val % 4 = 0 ∧ (bcast = true ∨ n.val % 4 = 0)) := by
      rintro ⟨hm, hb | hn⟩
      · rcases hbad with h4 | ⟨hb', -⟩
        · exact h4 hm
        · rw [hb] at hb'; cases hb'
      · rcases hbad with h4 | ⟨-, h4⟩
        · exact h4 hm
        · exact h4 hn
    exact exec_taskFault_of_illegal h exec_ceMac4 (if_neg hno)
  case acclr =>
    have hrest := Engine.foldl_setAcc_rest (fun i => mask.getLsbD i) (fun _ => {}) (List.range 4) x
    exact ⟨_, exec_onward_of_seq h exec_ceAcclr rfl (by rw [hrest]) (by rw [hrest]), hrest,
      fun j => Engine.accr_foldl_setAcc (fun i => mask.getLsbD i) (fun _ => {}) x 4 j⟩
  case accld =>
    intro hsh
    exact ⟨_, exec_onward_of_seq h exec_ceAccld (if_pos hsh) rfl rfl, rfl, fun j => Engine.accr_setAcc _ _ _ _⟩
  case accldIllegal =>
    intro hsh
    exact exec_taskFault_of_illegal h exec_ceAccld (if_neg (Nat.not_le.mpr hsh))

end Sys2Proof.Machine
end

section
/-! The moves of an accumulator (R160, R176, Table ENG-8). -/

namespace Sys2Proof.Machine

open Sys2Proof.Claims

theorem fits48_eq_not_outside (v : Int) : fits48 v = !outside v := by
  rw [← fits48_eq, Bool.not_not]

/-- From a shift by 57 on every content of an accumulator fits 48 bits. -/
theorem rhu_fits (v : Int) (n : Nat) (hlo : -2 ^ 103 ≤ v) (hhi : v < 2 ^ 103) (hn : 57 ≤ n) : outside (rhu v n) = false := by
  obtain ⟨m, rfl⟩ : ∃ m, n = m + 1 := ⟨n - 1, by omega⟩
  have hP : (2 ^ 56 : Int) ≤ 2 ^ m := pow_le_pow_right₀ (by norm_num) (by omega)
  have hsucc : (2 ^ (m + 1) : Int) = 2 * 2 ^ m := by rw [pow_succ]; ring
  have hge : -140737488355328 ≤ (v + 2 ^ m) / (2 * 2 ^ m) := by
    rw [Int.le_ediv_iff_mul_le (by positivity)]
    linarith
  have hlt : (v + 2 ^ m) / (2 * 2 ^ m) < 140737488355328 := by
    rw [Int.ediv_lt_iff_lt_mul (by positivity)]
    linarith
  simp only [rhu, Nat.add_one_ne_zero, if_false, Nat.add_sub_cancel, hsucc, outside, decide_eq_false_iff_not]
  omega

/-- The added shifts of a move with AUTO: the least total at which the rounded value fits, where one within the fuel does. -/
theorem autoShift_spec (v : Int) (fuel : Nat) : ∀ (s m : Nat), s ≤ m → m ≤ s + fuel → outside (rhu v m) = false →
    s ≤ (autoShift v s fuel).1 ∧ (autoShift v s fuel).1 ≤ m ∧ (autoShift v s fuel).2 = rhu v (autoShift v s fuel).1
      ∧ outside (rhu v (autoShift v s fuel).1) = false ∧ ∀ k, s ≤ k → k < (autoShift v s fuel).1 → outside (rhu v k) = true := by
  induction fuel with
  | zero =>
    intro s m hsm hms hm
    obtain rfl : m = s := by omega
    exact ⟨le_rfl, le_rfl, rfl, hm, fun k h1 h2 => absurd h2 (Nat.not_lt.mpr h1)⟩
  | succ fuel ih =>
    intro s m hsm hms hm
    by_cases hfit : outside (rhu v s) = false
    · have hs : autoShift v s (fuel + 1) = (s, rhu v s) := by simp [autoShift, fits48_eq_not_outside, hfit]
      rw [hs]
      exact ⟨le_rfl, hsm, rfl, hfit, fun k h1 h2 => absurd h2 (Nat.not_lt.mpr h1)⟩
    · have hout : outside (rhu v s) = true := by simpa using hfit
      have hs : autoShift v s (fuel + 1) = autoShift v (s + 1) fuel := by simp [autoShift, fits48_eq_not_outside, hout]
      have hne : s ≠ m := fun he => hfit (he ▸ hm)
      obtain ⟨h1, h2, h3, h4, h5⟩ := ih (s + 1) m (by omega) (by omega) hm
      rw [hs]
      refine ⟨by omega, h2, h3, h4, fun k hk hlt => ?_⟩
      rcases Nat.eq_or_lt_of_le hk with rfl | hk'
      · exact hout
      · exact h5 k hk' hlt

/-- The row of Table ENG-8 that adds shifts. -/
theorem Acc.move_auto (c : Acc) (n : Nat) (hl : c.lost = false) (hw : c.w = 0) (hout : outside (rhu c.reg.toInt n) = true) :
    1 ≤ (c.move n true).scl ∧ (c.move n true).scl ≤ 57 ∧ outside (rhu c.reg.toInt (n + (c.move n true).scl)) = false
      ∧ (∀ k, k < (c.move n true).scl → outside (rhu c.reg.toInt (n + k)) = true)
      ∧ c.move n true = { value := rhu c.reg.toInt (n + (c.move n true).scl), scl := (c.move n true).scl
                          sat := false, resc := true, wrap := false, lost := false } := by
  obtain ⟨hlo, hhi⟩ := c.reg_bounds
  have hn : n < 57 := by
    by_contra hge
    rw [rhu_fits _ n hlo hhi (by omega)] at hout
    cases hout
  obtain ⟨h1, h2, h3, h4, h5⟩ := autoShift_spec c.reg.toInt 57 (n + 1) 57 (by omega) (by omega) (rhu_fits _ 57 hlo hhi le_rfl)
  have hm : c.move n true = { value := (autoShift c.reg.toInt (n + 1) 57).2, scl := (autoShift c.reg.toInt (n + 1) 57).1 - n
                              sat := false, resc := true, wrap := false, lost := false } := by
    simp [Acc.move, hl, hw, fits48_eq_not_outside, hout]
  have hsum : n + ((autoShift c.reg.toInt (n + 1) 57).1 - n) = (autoShift c.reg.toInt (n + 1) 57).1 := by omega
  rw [hm]
  dsimp only
  rw [hsum]
  refine ⟨by omega, by omega, h4, fun k hk => ?_, by rw [h3]⟩
  rcases Nat.eq_zero_or_pos k with rfl | hpos
  · exact hout
  · exact h5 (n + k) (by omega) (by omega)

/-- The sticky flag that a move sets at bit i (Table ENG-8). -/
def MoveOut.raises (o : MoveOut) (i : Nat) : Bool :=
  (decide (i = 13) && o.sat) || (decide (i = 12) && o.resc) || (decide (i = 14) && o.wrap) || (decide (i = 15) && o.lost)

theorem Engine.arithFault_flag (x : Engine) (b : Bool) (i : Nat) : (x.arithFault b).flag i = x.flag i := by
  cases b <;> rfl

theorem Engine.moveOut_flag (x : Engine) (i d s j : Nat) (auto : Bool) :
    (x.moveOut i d s auto).flag j = (x.flag j || ((x.accr i).move s auto).raises j) := by
  simp only [Engine.moveOut, Engine.arithFault_flag, stick_flag _ _ _ _ (show flagLost < 16 by decide),
    stick_flag _ _ _ _ (show flagWrap < 16 by decide), stick_flag _ _ _ _ (show flagResc < 16 by decide),
    stick_flag _ _ _ _ (show flagSat < 16 by decide), MoveOut.raises]
  by_cases h12 : j = 12
  · subst h12; simp [flagSat, flagResc, flagWrap, flagLost, Engine.flag, Engine.setScl, Engine.setX]
  by_cases h13 : j = 13
  · subst h13; simp [flagSat, flagResc, flagWrap, flagLost, Engine.flag, Engine.setScl, Engine.setX]
  by_cases h14 : j = 14
  · subst h14; simp [flagSat, flagResc, flagWrap, flagLost, Engine.flag, Engine.setScl, Engine.setX]
  by_cases h15 : j = 15
  · subst h15; simp [flagSat, flagResc, flagWrap, flagLost, Engine.flag, Engine.setScl, Engine.setX]
  simp [flagSat, flagResc, flagWrap, flagLost, h12, h13, h14, h15, Engine.flag, Engine.setScl, Engine.setX]

theorem flagsOnly_trans {x y z : Engine} (hxy : y = { x with flags := y.flags }) (hyz : z = { y with flags := z.flags }) :
    z = { x with flags := z.flags } := hyz.trans (by rw [hxy])

theorem Engine.arithFault_eq (x : Engine) (b : Bool) :
    x.arithFault b = { x with task := x.task.map (fun r => { r with arith := r.arith || b }) } := by
  cases b
  · obtain ⟨⟩ := x
    simp [Engine.arithFault]
  · simp [Engine.arithFault]

/-- A move writes Xd, SCL, FLAGS and the task's mark. -/
theorem Engine.moveOut_rest (x : Engine) (i d s : Nat) (auto : Bool) : x.moveOut i d s auto =
    { x with x := (x.setX d (w48 ((x.accr i).move s auto).value)).x
             scl := (x.setScl i (BitVec.ofNat 6 ((x.accr i).move s auto).scl)).scl
             flags := (x.moveOut i d s auto).flags
             task := x.task.map (fun r => { r with arith := r.arith || ((x.accr i).move s auto).lost }) } := by
  have hsticks := flagsOnly_trans (flagsOnly_trans (flagsOnly_trans
    (stick_rest ((x.setX d (w48 ((x.accr i).move s auto).value)).setScl i (BitVec.ofNat 6 ((x.accr i).move s auto).scl))
      flagSat ((x.accr i).move s auto).sat)
    (stick_rest _ flagResc ((x.accr i).move s auto).resc)) (stick_rest _ flagWrap ((x.accr i).move s auto).wrap))
    (stick_rest _ flagLost ((x.accr i).move s auto).lost)
  generalize ho : (x.accr i).move s auto = o at *
  simp only [Engine.moveOut, ho, Engine.arithFault_eq]
  rw [hsticks]
  rfl

theorem Engine.moveOut_accr (x : Engine) (i d s j : Nat) (auto : Bool) : (x.moveOut i d s auto).accr j = x.accr j := by
  rw [Engine.moveOut_rest]; rfl

theorem Engine.moveOut_xr (x : Engine) (i d s j : Nat) (auto : Bool) :
    (x.moveOut i d s auto).xr j = if j = d then w48 ((x.accr i).move s auto).value else x.xr j := by
  rw [Engine.moveOut_rest]; exact x.xr_setX d j _

theorem Engine.moveOut_sclr (x : Engine) (i d s j : Nat) (auto : Bool) :
    (x.moveOut i d s auto).sclr j = if j = i then BitVec.ofNat 6 ((x.accr i).move s auto).scl else x.sclr j := by
  rw [Engine.moveOut_rest]; exact x.sclr_setScl i j _

theorem Engine.moveOut_task (x : Engine) (i d s : Nat) (auto : Bool) (r : Running) (h : x.task = some r) :
    (x.moveOut i d s auto).task = some { r with arith := r.arith || ((x.accr i).move s auto).lost } := by
  rw [Engine.moveOut_rest, h]; rfl

/-- The moves of the first n accumulators, into Xd and on (MVS4). -/
def Engine.movesOut (x : Engine) (d s : Nat) (auto : Bool) (n : Nat) : Engine :=
  (List.range n).foldl (fun y i => y.moveOut i (d + i) s auto) x

theorem Engine.movesOut_succ (x : Engine) (d s n : Nat) (auto : Bool) :
    x.movesOut d s auto (n + 1) = (x.movesOut d s auto n).moveOut n (d + n) s auto := by
  simp [Engine.movesOut, List.range_succ, List.foldl_append]

/-- What the first n accumulators move. -/
def Engine.moves (x : Engine) (s : Nat) (auto : Bool) (n : Nat) : List MoveOut := (List.range n).map (fun i => (x.accr i).move s auto)

theorem Engine.moves_succ (x : Engine) (s n : Nat) (auto : Bool) :
    x.moves s auto (n + 1) = x.moves s auto n ++ [(x.accr n).move s auto] := by
  simp [Engine.moves, List.range_succ]

section MovesOut

variable (x : Engine) (d s n : Nat) (auto : Bool)

theorem Engine.movesOut_accr (j : Nat) : (x.movesOut d s auto n).accr j = x.accr j := by
  induction n with
  | zero => rfl
  | succ n ih => rw [Engine.movesOut_succ, Engine.moveOut_accr, ih]

theorem Engine.movesOut_xr (j : Nat) : (x.movesOut d s auto n).xr j
    = if d ≤ j ∧ j < d + n then w48 ((x.accr (j - d)).move s auto).value else x.xr j := by
  induction n with
  | zero => rw [if_neg (by omega)]; rfl
  | succ n ih =>
    rw [Engine.movesOut_succ, Engine.moveOut_xr, Engine.movesOut_accr, ih]
    by_cases hj : j = d + n
    · subst hj
      rw [if_pos rfl, if_pos (by omega), Nat.add_sub_cancel_left]
    · rw [if_neg hj]
      exact if_congr (by omega) rfl rfl

theorem Engine.movesOut_sclr (j : Nat) : (x.movesOut d s auto n).sclr j
    = if j < n then BitVec.ofNat 6 ((x.accr j).move s auto).scl else x.sclr j := by
  induction n with
  | zero => rfl
  | succ n ih =>
    rw [Engine.movesOut_succ, Engine.moveOut_sclr, Engine.movesOut_accr, ih]
    by_cases hj : j = n
    · subst hj
      rw [if_pos rfl, if_pos (by omega)]
    · rw [if_neg hj]
      exact if_congr (by omega) rfl rfl

theorem Engine.movesOut_flag (j : Nat) :
    (x.movesOut d s auto n).flag j = (x.flag j || (x.moves s auto n).any (fun o => o.raises j)) := by
  induction n with
  | zero => simp [Engine.movesOut, Engine.moves]
  | succ n ih => simp [Engine.movesOut_succ, Engine.moveOut_flag, Engine.movesOut_accr, ih, Engine.moves_succ, Bool.or_assoc]

theorem Engine.movesOut_task (r : Running) (h : x.task = some r) :
    (x.movesOut d s auto n).task = some { r with arith := r.arith || (x.moves s auto n).any (·.lost) } := by
  induction n with
  | zero => simp [Engine.movesOut, Engine.moves, h]
  | succ n ih =>
    rw [Engine.movesOut_succ, Engine.moveOut_task _ _ _ _ _ _ ih, Engine.movesOut_accr, Engine.moves_succ]
    simp [Bool.or_assoc]

theorem Engine.movesOut_rest : x.movesOut d s auto n =
    { x with x := (x.movesOut d s auto n).x, scl := (x.movesOut d s auto n).scl, flags := (x.movesOut d s auto n).flags
             task := (x.movesOut d s auto n).task } := by
  induction n with
  | zero => rfl
  | succ n ih =>
    rw [Engine.movesOut_succ, Engine.moveOut_rest, ih]

end MovesOut

/-- The sticky flags of Table ENG-8, listed. -/
theorem flags_of_raises (x y : Engine) (l : List MoveOut) (h : ∀ j, y.flag j = (x.flag j || l.any (fun o => o.raises j))) :
    Flags x y [(13, x.flag 13 || l.any (·.sat)), (12, x.flag 12 || l.any (·.resc)), (14, x.flag 14 || l.any (·.wrap)),
      (15, x.flag 15 || l.any (·.lost))] := by
  intro j
  rw [h j]
  simp only [lookup_cons_if, List.lookup_nil]
  by_cases h13 : j = 13
  · subst h13; simp [MoveOut.raises]
  by_cases h12 : j = 12
  · subst h12; simp [MoveOut.raises]
  by_cases h14 : j = 14
  · subst h14; simp [MoveOut.raises]
  by_cases h15 : j = 15
  · subst h15; simp [MoveOut.raises]
  simp [MoveOut.raises, h12, h13, h14, h15]

/-- Settles O6: Table ENG-8 row by row, MVS as one move and MVS4 as four. -/
theorem engineAccumulatorMoves : Obligations.EngineAccumulatorMoves := by
  unfold Obligations.EngineAccumulatorMoves
  refine ⟨?rows, ?moves⟩
  case rows =>
    intro c n auto _ rounded o
    refine ⟨?lost, ?wrapped, ?fits, ?saturates, ?rescales⟩
    case lost => intro hl; simp [o, Acc.move, hl]
    case wrapped => intro hl hw; simp [o, Acc.move, hl, hw]
    case fits =>
      intro hl hw hin
      have hfit : fits48 (rhu c.reg.toInt n) = true := by rw [fits48_eq_not_outside]; exact congrArg not hin
      simp [o, Acc.move, hl, hw, hfit]
      rfl
    case saturates =>
      intro hl hw hout hauto
      have hfit : fits48 (rhu c.reg.toInt n) = false := by rw [fits48_eq_not_outside]; exact congrArg not hout
      simp [o, Acc.move, hl, hw, hfit, hauto, sat48_eq]
      rfl
    case rescales =>
      intro hl hw hout hauto
      subst hauto
      exact c.move_auto n hl hw hout
  case moves =>
    intro s e r d k auto n h x o bits rest
    refine ⟨?mvs, ?mvs4, ?mvs4Illegal⟩
    case mvs =>
      have htask := x.moveOut_task k.val d.val n.val auto r h.1
      have hstores : (x.moveOut k.val d.val n.val auto).stores = x.stores := by rw [Engine.moveOut_rest]
      have hrest : x.moveOut k.val d.val n.val auto = { x with
          x := (x.moveOut k.val d.val n.val auto).x, scl := (x.moveOut k.val d.val n.val auto).scl
          flags := (x.moveOut k.val d.val n.val auto).flags, task := (x.moveOut k.val d.val n.val auto).task } := by
        rw [Engine.moveOut_rest]
      refine ⟨x.moveOut k.val d.val n.val auto, ?_, ⟨?_, fun j hj => ?_⟩, ?_, ⟨hrest, htask⟩, ?_, fun j hj => ?_⟩
      · refine exec_ceMvs.trans ((s.engineStep_onward e.val 1 r _ _ _ h rfl htask (hstores ▸ h.2)).trans ?_)
        simp [o]
      · rw [Engine.moveOut_xr, if_pos rfl]; rfl
      · rw [Engine.moveOut_xr, if_neg hj]
      · exact flags_of_raises x _ [o k.val] (fun j => by simp [Engine.moveOut_flag, o])
      · rw [Engine.moveOut_sclr, if_pos rfl]
      · rw [Engine.moveOut_sclr, if_neg hj]
    case mvs4 =>
      intro hd l
      have htask := x.movesOut_task d.val n.val 4 auto r h.1
      have hrest := x.movesOut_rest d.val n.val 4 auto
      have hstores : (x.movesOut d.val n.val auto 4).stores = x.stores := by rw [hrest]
      refine ⟨x.movesOut d.val n.val auto 4, ?_, fun i hi => ⟨?_, ?_⟩, fun j hj => ?_, ?_, ⟨hrest, htask⟩⟩
      · refine exec_ceMvs4.trans ((s.engineStep_onward e.val 1 r _ _ _ h (if_pos hd) htask (hstores ▸ h.2)).trans ?_)
        simp [l, o, Engine.moves, List.range_succ]
      · rw [Engine.movesOut_xr, if_pos (by omega), Nat.add_sub_cancel_left]; rfl
      · rw [Engine.movesOut_sclr, if_pos hi]
      · rw [Engine.movesOut_xr, if_neg (by omega)]
      · exact flags_of_raises x _ l (fun j => x.movesOut_flag d.val n.val 4 auto j)
    case mvs4Illegal =>
      intro hd
      exact exec_taskFault_of_illegal h exec_ceMvs4 (if_neg hd)

end Sys2Proof.Machine
end

section
/-! The PC rule and the branching instructions (R162 to R164, Table ENG-13). -/

namespace Sys2Proof.Machine

open Sys2Proof.Claims

section Advance

variable (x : Engine) (l m : LoopRec) (ls ms : List LoopRec)

theorem Engine.advance_noLoop (h : x.loops = []) : x.advance = { x with pc := x.pc + 1 } := by
  obtain ⟨⟩ := x
  subst h
  rfl

theorem Engine.advance_inside (h : x.loops = l :: ls) (hpc : x.pc ≠ l.last) : x.advance = { x with pc := x.pc + 1 } := by
  obtain ⟨⟩ := x
  subst h
  exact if_neg hpc

/-- The counter of a loop that ends at the PC falls. -/
theorem Engine.endBodies_last (hpc : x.pc = l.last) : x.endBodies (l :: ls) =
    if x.lcr l.lc.val - 1 = 0 then (x.setLc l.lc.val (x.lcr l.lc.val - 1)).endBodies ls
    else { x.setLc l.lc.val (x.lcr l.lc.val - 1) with loops := l :: ls, pc := l.first } := by
  conv_lhs => unfold Engine.endBodies
  exact if_pos hpc

theorem Engine.endBodies_again (hpc : x.pc = l.last) (hn : x.lcr l.lc.val ≠ 1) : x.endBodies (l :: ls) =
    { x.setLc l.lc.val (x.lcr l.lc.val - 1) with loops := l :: ls, pc := l.first } := by
  rw [x.endBodies_last l ls hpc, if_neg (fun h0 => hn (by simpa using BitVec.sub_eq_iff_eq_add.mp h0))]

theorem Engine.endBodies_done (hpc : x.pc = l.last) (hn : x.lcr l.lc.val = 1) :
    x.endBodies (l :: ls) = (x.setLc l.lc.val 0).endBodies ls := by
  rw [x.endBodies_last l ls hpc, hn]
  rfl

theorem Engine.endBodies_outside (h : ∀ m ms, ls = m :: ms → x.pc ≠ m.last) :
    x.endBodies ls = { x with loops := ls, pc := x.pc + 1 } := by
  cases ls with
  | nil => rfl
  | cons m ms => exact if_neg (h m ms rfl)

end Advance

/-- An instruction that branches, and leaves the engine's task and its store buffer as they are. -/
theorem exec_jump_of_go {i : Instr} {s : State} {e cost : Nat} {r : Running} {f : State → Engine → Running → EngOut} {y : Engine}
    {p : BitVec 13} (h : Runs s e r) (hi : exec i s = s.engineStep e cost f) (hf : f s (s.engine e) r = EngOut.go y (some p) [])
    (ht : y.task = (s.engine e).task) (hs : y.stores = (s.engine e).stores) : exec i s = .next (Jump s e r cost y p) :=
  hi.trans (s.engineStep_jump e cost r f y p h hf (ht.trans h.1) (hs ▸ h.2))

/-- BR with its cost known. -/
theorem exec_ceBr_cost {s : State} {e : EngIx} {cond : BitVec 4} {target : BitVec 16} {cost : Nat}
    (h : (if (s.engine e.val).cond cond.toNat = some true then 4 else 1) = cost) :
    exec (.ceBr e cond target) s = s.engineStep e.val cost (fun _ x _ =>
      match x.cond cond.toNat with
      | none => .illegal
      | some false => .seq x
      | some true => .go x (some (target.setWidth 13)) []) := by
  rw [← h]
  rfl

/-- Table ENG-13. -/
theorem Engine.cond_listed (x : Engine) (c : Nat) (h : c ≤ 9) : x.cond c = some ([true, x.flag 0, !x.flag 0, x.flag 1 != x.flag 2,
    x.flag 1 == x.flag 2, x.flag 0 || x.flag 1 != x.flag 2, !x.flag 0 && x.flag 1 == x.flag 2, x.flag 2, !x.flag 2, x.flag 13].getD c false) := by
  interval_cases c <;> rfl

theorem Engine.cond_reserved (x : Engine) (c : Nat) (h : 9 < c) : x.cond c = none := by
  obtain ⟨k, rfl⟩ : ∃ k, c = k + 10 := ⟨c - 10, by omega⟩
  rfl

/-- Which nesting R164 allows (log 17). -/
theorem loop_nests_iff (lc : Fin 2) (loops : List LoopRec) : loops.any (fun l => decide (l.lc = lc) || decide (lc = 0)) = false
    ↔ loops = [] ∨ (lc = 1 ∧ ∀ l ∈ loops, l.lc = 0) := by
  have hlc : lc = 0 ∨ lc = 1 := by omega
  rcases hlc with rfl | rfl
  · cases loops <;> simp
  · have hne : ∀ l : LoopRec, ¬ l.lc = 1 ↔ l.lc = 0 := fun l => by omega
    simp only [List.any_eq_false, hne, decide_eq_true_eq, Bool.or_eq_true, not_or]
    constructor
    · intro h
      exact Or.inr ⟨trivial, fun l hl => (h l hl).1⟩
    · rintro (rfl | ⟨-, h⟩) l hl
      · cases hl
      · exact ⟨h l hl, by decide⟩

theorem clampI_eq (v : Int) : clampI 0 65535 v = max 0 (min 65535 v) := by
  unfold clampI
  split
  · omega
  · split <;> omega

/-- Settles O9: the PC rule by the loops that end at the PC, and each branching instruction as one jump of its engine. -/
theorem engineControlFlow : Obligations.EngineControlFlow := by
  unfold Obligations.EngineControlFlow
  refine ⟨?pcRule, ?branches⟩
  case pcRule =>
    intro x l ls t
    refine ⟨x.advance_noLoop, x.advance_inside l ls, fun hl hpc hn => ?again, fun hl hpc hn hout => ?done,
      fun m ms hl hpc hn hls hm hne hmn => ?outer, rfl⟩
    case again =>
      rw [Engine.advance, hl, x.endBodies_again l ls hpc hn]
      exact ⟨rfl, rfl, (x.lcr_setLc _ _ _).trans (if_pos rfl)⟩
    case done =>
      rw [Engine.advance, hl, x.endBodies_done l ls hpc hn, Engine.endBodies_outside (x.setLc l.lc.val 0) ls hout]
      exact ⟨rfl, rfl, (x.lcr_setLc _ _ _).trans (if_pos rfl)⟩
    case outer =>
      subst hls
      have hval : m.lc.val ≠ l.lc.val := fun h => hne (Fin.ext h)
      have hkeep : (x.setLc l.lc.val 0).lcr m.lc.val = x.lcr m.lc.val := (x.lcr_setLc _ _ _).trans (if_neg hval)
      rw [Engine.advance, hl, x.endBodies_done l _ hpc hn, Engine.endBodies_again (x.setLc l.lc.val 0) m ms hm (hkeep.symm ▸ hmn), hkeep]
      refine ⟨rfl, rfl, ?_, (Engine.lcr_setLc _ _ _ _).trans (if_pos rfl)⟩
      exact ((Engine.lcr_setLc _ _ _ _).trans (if_neg hval.symm)).trans ((x.lcr_setLc _ _ _).trans (if_pos rfl))
  case branches =>
    intro s e r cond target lc reg xs count h x holds illegal n last nests
    have hcount : (if reg then (clampI 0 65535 (x.xr xs.val).toInt).toNat else count.toNat) = n := by
      simp only [n, clampI_eq]
    have hnests : x.loops.any (fun l => decide (l.lc = lc) || decide (lc = 0)) = false ↔ nests := loop_nests_iff lc x.loops
    refine ⟨?taken, ?notTaken, ?reserved, ?skips, ?loops, ?noNest, ?call, ?callIllegal, ?ret, ?retIllegal⟩
    case taken =>
      intro hc hh
      have hcond : (s.engine e.val).cond cond.toNat = some true := (x.cond_listed _ hc).trans (congrArg some hh)
      exact exec_jump_of_go h (exec_ceBr_cost (if_pos hcond)) (by rw [hcond]) rfl rfl
    case notTaken =>
      intro hc hh
      have hcond : (s.engine e.val).cond cond.toNat = some false := (x.cond_listed _ hc).trans (congrArg some hh)
      exact exec_onward_of_seq h (exec_ceBr_cost (if_neg (by simp [hcond]))) (by rw [hcond]) rfl rfl
    case reserved =>
      intro hc
      have hcond : (s.engine e.val).cond cond.toNat = none := x.cond_reserved _ hc
      exact exec_taskFault_of_illegal h exec_ceBr (by rw [hcond])
    case skips =>
      intro hn h0
      exact exec_onward_of_seq h exec_ceLoop ((if_neg (Bool.not_eq_true _ ▸ hnests.mpr hn)).trans (if_pos (hcount.trans h0))) rfl rfl
    case loops =>
      intro hn h0
      refine ⟨_, exec_jump_of_go h exec_ceLoop ((if_neg (Bool.not_eq_true _ ▸ hnests.mpr hn)).trans (if_neg (fun hc => h0 (hcount.symm.trans hc))))
        rfl rfl, rfl, ?_, fun j hj => ?_⟩
      · exact (x.lcr_setLc _ _ _).trans ((if_pos rfl).trans (congrArg (BitVec.ofNat 16) hcount))
      · exact (x.lcr_setLc _ _ _).trans (if_neg hj)
    case noNest =>
      intro hn
      have hany : x.loops.any (fun l => decide (l.lc = lc) || decide (lc = 0)) = true := by
        by_contra hf
        exact hn (hnests.mp (by simpa using hf))
      exact exec_taskFault_of_illegal h exec_ceLoop (if_pos hany)
    case call =>
      intro hl hr
      exact exec_jump_of_go h exec_ceCall (if_neg (by rw [not_or, Nat.not_le]; exact ⟨not_not.mpr hl, hr⟩)) rfl rfl
    case callIllegal =>
      intro hbad
      exact exec_taskFault_of_illegal h exec_ceCall (if_pos hbad)
    case ret =>
      intro p ps hp
      exact exec_jump_of_go h exec_ceRet (by rw [show (s.engine e.val).ret = p :: ps from hp]) rfl rfl
    case retIllegal =>
      intro hp
      exact exec_taskFault_of_illegal h exec_ceRet (by rw [show (s.engine e.val).ret = [] from hp])

end Sys2Proof.Machine
end

section
/-! The engine's words: the map of Table ENG-4, the store buffer, loads and stores (R151, R152, R157, R168). -/

namespace Sys2Proof.Machine

open Sys2Proof.Claims

/-- Two writes of one index are the second. -/
theorem sput_sput_self {α : Type} [DecidableEq α] (d : Nat → α) (m : Sparse α) (k : Nat) (v w : α) :
    sput d (sput d m k v) k w = sput d m k w := by
  induction m with
  | nil =>
    by_cases hv : v = d k
    · simp [sput, hv]
    · simp [sput, hv, sabove]
  | cons p m ih =>
    obtain ⟨j, u⟩ := p
    by_cases hlt : k < j
    · by_cases hv : v = d k
      · simp [sput, hlt, hv]
      · simp [sput, hlt, hv, sabove]
    · by_cases he : k = j
      · subst he
        by_cases hv : v = d k ∧ sabove k m = true
        · obtain ⟨hv1, hv2⟩ := hv
          cases m with
          | nil => simp [sput, hv1, sabove]
          | cons q m =>
            have hk : k < q.1 := by simpa [sabove] using hv2
            simp [sput, hv1, sabove, hk]
        · simp [sput, hv]
      · simp [sput, hlt, he, ih]

@[simp] theorem State.setEngine_setEngine (s : State) (e : Nat) (x y : Engine) : (s.setEngine e x).setEngine e y = s.setEngine e y := by
  simp [State.setEngine, sput_sput_self]

/-! What a word of each writable region reads after a write (Table ENG-4). -/

section WriteWord

variable (s : State) (e : Nat) (o : Owner) (addr b : Nat) (v : Word48)

theorem State.writeWord_scratch (h : addr < 0xF000) : s.writeWord e addr v = s.setEngine e { s.engine e with
    scratch := sput (scratchDefault (s.engine e).scratchCtr) (s.engine e).scratch addr v } := by
  simp [State.writeWord, h]

theorem State.writeWord_line (h : 0x30000 ≤ addr) (h' : addr < 0x30400) : s.writeWord e addr v =
    { s with eng := { s.eng with lineBlock := sput (fun _ => 0) s.eng.lineBlock (addr - 0x30000) v } } := by
  unfold State.writeWord
  rw [if_neg (by omega), if_neg (by omega), if_neg (by omega), if_neg (by omega), if_pos h']

theorem State.writeWord_device (h : 0x40000 ≤ addr) (h' : addr < 0x80000) (hd : isDeviceWord (addr % 1024) = true) :
    s.writeWord e addr v = s.setDeviceWord ((addr - 0x40000) / 1024) (addr % 1024) v := by
  unfold State.writeWord
  rw [if_neg (by omega), if_neg (by omega), if_neg (by omega), if_neg (by omega), if_neg (by omega), if_neg (by omega), if_pos h', if_pos hd]

theorem State.writeWord_context (h : 0x40000 ≤ addr) (h' : addr < 0x80000) (hd : isDeviceWord (addr % 1024) = false) :
    s.writeWord e addr v = { s with eng := { s.eng with context := sput (fun _ => 0) s.eng.context (addr - 0x40000) v } } := by
  unfold State.writeWord
  rw [if_neg (by omega), if_neg (by omega), if_neg (by omega), if_neg (by omega), if_neg (by omega), if_neg (by omega), if_pos h',
    if_neg (by simp [hd])]

theorem State.writeWord_pool (h : 0x80000 ≤ addr) (h' : addr < 0xC0000) : s.writeWord e addr v =
    { s with eng := { s.eng with pool := sput (fun _ => 0) s.eng.pool (addr - 0x80000) v } } := by
  unfold State.writeWord
  rw [if_neg (by omega), if_neg (by omega), if_neg (by omega), if_neg (by omega), if_neg (by omega), if_neg (by omega), if_neg (by omega),
    if_pos h']

end WriteWord

/-- Two states whose shared memories agree at b read the same word there, through one engine. -/
theorem State.wordAt_congr {s t : State} {x : Engine} {o : Owner} {b : Nat}
    (hline : 0x30000 ≤ b → sget (fun _ => 0) t.eng.lineBlock (b - 0x30000) = sget (fun _ => 0) s.eng.lineBlock (b - 0x30000))
    (hctx : 0x40000 ≤ b → sget (fun _ => 0) t.eng.context (b - 0x40000) = sget (fun _ => 0) s.eng.context (b - 0x40000))
    (hdev : 0x40000 ≤ b → t.deviceWord ((b - 0x40000) / 1024) (b % 1024) = s.deviceWord ((b - 0x40000) / 1024) (b % 1024))
    (hpool : 0x80000 ≤ b → sget (fun _ => 0) t.eng.pool (b - 0x80000) = sget (fun _ => 0) s.eng.pool (b - 0x80000))
    (htable : ∀ a, (t.axis a).law.lrnBase = (s.axis a).law.lrnBase ∧ (t.axis a).law.lrnBins = (s.axis a).law.lrnBins)
    (hseg : t.eng.segPool = s.eng.segPool) : t.wordAt x o b = s.wordAt x o b := by
  unfold State.wordAt
  iterate 6 refine ite_congr rfl (fun _ => rfl) (fun _ => ?_)
  refine ite_congr rfl (fun _ => ?_) (fun _ => ?_)
  · rw [hline (by omega)]
  refine ite_congr rfl (fun _ => rfl) (fun _ => ?_)
  refine ite_congr rfl (fun _ => ?_) (fun _ => ?_)
  · cases o with
    | line => rfl
    | axis a =>
      refine ite_congr rfl (fun ha => ?_) (fun _ => rfl)
      rw [hctx (by omega), ← ha, hdev (by omega)]
  refine ite_congr rfl (fun _ => ?_) (fun _ => ?_)
  · cases o with
    | line => rfl
    | axis a =>
      dsimp only
      rw [(htable a.val).1, (htable a.val).2, hpool (by omega)]
  · rw [hseg]

/-- What a written word reads, and the words beside it. -/
def ReadsBack (s t : State) (e : Nat) (o : Owner) (addr : Nat) (v : Word48) : Prop :=
  t.wordAt (t.engine e) o addr = some v ∧ ∀ b, b ≠ addr → t.wordAt (t.engine e) o b = s.wordAt (s.engine e) o b

section ReadsBack

variable (s : State) (e : Nat) (o : Owner) (addr : Nat) (v : Word48)

theorem State.writeWord_scratch_back (h : addr < 0xF000) : ReadsBack s (s.writeWord e addr v) e o addr v := by
  rw [s.writeWord_scratch e addr v h, ReadsBack, State.setEngine_self]
  refine ⟨?_, fun b hb => ?_⟩
  · simp [State.wordAt, h]
  · unfold State.wordAt
    rw [sget_sput_ne _ _ _ _ _ hb]
    rfl

theorem State.writeWord_line_back (h : 0x30000 ≤ addr) (h' : addr < 0x30400) :
    ReadsBack s (s.writeWord e addr v) e .line addr v := by
  rw [s.writeWord_line e addr v h h']
  refine ⟨?_, fun b hb => State.wordAt_congr (fun hb' => sget_sput_ne _ _ _ _ _ (by omega)) (fun _ => rfl) (fun _ => rfl) (fun _ => rfl)
    (fun _ => ⟨rfl, rfl⟩) rfl⟩
  unfold State.wordAt
  rw [if_neg (by omega), if_neg (by omega), if_neg (by omega), if_neg (by omega), if_neg (by omega), if_neg (by omega), if_pos h']
  exact congrArg some (sget_sput_self _ _ _ _)

/-- A word of the axis's own context block. -/
theorem State.wordAt_context {x : Engine} {a : AxisIx} (h : 0x40000 ≤ addr) (h' : addr < 0x80000) (ha : (addr - 0x40000) / 1024 = a.val) :
    s.wordAt x (.axis a) addr = some (if isDeviceWord (addr % 1024) then s.deviceWord a.val (addr % 1024)
      else sget (fun _ => 0) s.eng.context (addr - 0x40000)) := by
  unfold State.wordAt
  rw [if_neg (by omega), if_neg (by omega), if_neg (by omega), if_neg (by omega), if_neg (by omega), if_neg (by omega), if_neg (by omega),
    if_neg (by omega), if_pos h']
  exact if_pos ha

theorem State.setDeviceWord_deviceWord (a off b k : Nat) : (s.setDeviceWord a off v).deviceWord b k
    = if b = a ∧ k = off then v else s.deviceWord b k := by
  by_cases hb : b = a
  · subst hb
    simp [State.deviceWord, State.setDeviceWord, State.modLaw, sget_sput]
  · simp [State.deviceWord, State.setDeviceWord, State.modLaw, hb]

theorem State.setDeviceWord_table (a off b : Nat) : ((s.setDeviceWord a off v).axis b).law.lrnBase = (s.axis b).law.lrnBase
    ∧ ((s.setDeviceWord a off v).axis b).law.lrnBins = (s.axis b).law.lrnBins := by
  by_cases hb : b = a
  · subst hb
    simp [State.setDeviceWord, State.modLaw]
  · simp [State.setDeviceWord, State.modLaw, hb]

theorem State.writeWord_context_back (a : AxisIx) (h : 0x40000 ≤ addr) (h' : addr < 0x80000) (ha : (addr - 0x40000) / 1024 = a.val) :
    ReadsBack s (s.writeWord e addr v) e (.axis a) addr v := by
  refine ⟨(State.wordAt_context _ _ h h' ha).trans (congrArg some ?_), fun b hb => ?_⟩
  · cases hd : isDeviceWord (addr % 1024)
    · rw [s.writeWord_context e addr v h h' hd]
      exact sget_sput_self _ _ _ _
    · rw [s.writeWord_device e addr v h h' hd]
      exact (s.setDeviceWord_deviceWord v _ _ _ _).trans (if_pos ⟨ha.symm, rfl⟩)
  · cases hd : isDeviceWord (addr % 1024)
    · rw [s.writeWord_context e addr v h h' hd]
      exact State.wordAt_congr (fun _ => rfl) (fun hb' => sget_sput_ne _ _ _ _ _ (by omega)) (fun _ => rfl) (fun _ => rfl)
        (fun _ => ⟨rfl, rfl⟩) rfl
    · rw [s.writeWord_device e addr v h h' hd]
      have heng : (s.setDeviceWord ((addr - 0x40000) / 1024) (addr % 1024) v).eng = s.eng := by simp
      rw [show (s.setDeviceWord ((addr - 0x40000) / 1024) (addr % 1024) v).engine e = s.engine e from by rw [State.engine, heng]; rfl]
      refine State.wordAt_congr (fun _ => by rw [heng]) (fun _ => by rw [heng]) (fun hb' => ?_) (fun _ => by rw [heng])
        (fun i => s.setDeviceWord_table v _ _ i) (by rw [heng])
      rw [State.setDeviceWord_deviceWord, if_neg (by omega)]

theorem State.writeWord_pool_back (a : AxisIx) (h : 0x80000 ≤ addr) (h' : addr < 0xC0000)
    (ht : (s.axis a.val).law.lrnBase ≤ addr - 0x80000 ∧ addr - 0x80000 < (s.axis a.val).law.lrnBase + (s.axis a.val).law.lrnBins) :
    ReadsBack s (s.writeWord e addr v) e (.axis a) addr v := by
  rw [s.writeWord_pool e addr v h h']
  refine ⟨?_, fun b hb => State.wordAt_congr (fun _ => rfl) (fun _ => rfl) (fun _ => rfl) (fun hb' => sget_sput_ne _ _ _ _ _ (by omega))
    (fun _ => ⟨rfl, rfl⟩) rfl⟩
  unfold State.wordAt
  rw [if_neg (by omega), if_neg (by omega), if_neg (by omega), if_neg (by omega), if_neg (by omega), if_neg (by omega), if_neg (by omega),
    if_neg (by omega), if_neg (by omega), if_pos h']
  exact (if_pos ht).trans (congrArg some (sget_sput_self _ _ _ _))

/-- The places that Table ENG-4 lets a task write, the output window aside. -/
theorem State.writable_places (hw : s.writable o addr = true) (hout : addr < 0x20100 ∨ 0x20200 ≤ addr) :
    addr < 0xF000 ∨ (0x30000 ≤ addr ∧ addr < 0x30400 ∧ o = .line)
    ∨ (∃ a, o = .axis a ∧ 0x40000 ≤ addr ∧ addr < 0x80000 ∧ (addr - 0x40000) / 1024 = a.val)
    ∨ (∃ a, o = .axis a ∧ 0x80000 ≤ addr ∧ addr < 0xC0000 ∧ (s.axis a.val).law.lrnBase ≤ addr - 0x80000
        ∧ addr - 0x80000 < (s.axis a.val).law.lrnBase + (s.axis a.val).law.lrnBins) := by
  unfold State.writable at hw
  by_cases h1 : addr < 0xF000
  · exact Or.inl h1
  rw [if_neg h1] at hw
  by_cases h2 : addr < 0x20100
  · rw [if_pos h2] at hw; cases hw
  rw [if_neg h2, if_neg (by omega)] at hw
  by_cases h3 : addr < 0x30000
  · rw [if_pos h3] at hw; cases hw
  rw [if_neg h3] at hw
  by_cases h4 : addr < 0x30400
  · rw [if_pos h4] at hw
    exact Or.inr (Or.inl ⟨by omega, h4, of_decide_eq_true hw⟩)
  rw [if_neg h4] at hw
  by_cases h5 : addr < 0x40000
  · rw [if_pos h5] at hw; cases hw
  rw [if_neg h5] at hw
  cases o with
  | line =>
    by_cases h6 : addr < 0x80000
    · rw [if_pos h6] at hw; cases hw
    rw [if_neg h6] at hw
    by_cases h7 : addr < 0xC0000
    · rw [if_pos h7] at hw; cases hw
    · rw [if_neg h7] at hw; cases hw
  | axis a =>
    by_cases h6 : addr < 0x80000
    · rw [if_pos h6] at hw
      exact Or.inr (Or.inr (Or.inl ⟨a, rfl, by omega, h6, of_decide_eq_true hw⟩))
    rw [if_neg h6] at hw
    by_cases h7 : addr < 0xC0000
    · rw [if_pos h7] at hw
      exact Or.inr (Or.inr (Or.inr ⟨a, rfl, by omega, h7, of_decide_eq_true hw⟩))
    · rw [if_neg h7] at hw; cases hw

theorem State.writeWord_readsBack (hw : s.writable o addr = true) (hout : addr < 0x20100 ∨ 0x20200 ≤ addr) :
    ReadsBack s (s.writeWord e addr v) e o addr v := by
  rcases s.writable_places o addr hw hout with h | ⟨h, h', rfl⟩ | ⟨a, rfl, h, h', ha⟩ | ⟨a, rfl, h, h', ht⟩
  · exact s.writeWord_scratch_back e o addr v h
  · exact s.writeWord_line_back e addr v h h'
  · exact s.writeWord_context_back e addr v a h h' ha
  · exact s.writeWord_pool_back e addr v a h h' ht

end ReadsBack

/-! The store buffer (R168). -/

section LoadWord

variable (s : State) (x : Engine) (o : Owner) (addr : Nat) (v : Word48) (older newer : List (Nat × Word48))

theorem State.wordAt_stores (ws : List (Nat × Word48)) : s.wordAt { x with stores := ws } o addr = s.wordAt x o addr := rfl

theorem find?_of_no_match {ws : List (Nat × Word48)} (h : ∀ w ∈ ws, w.1 ≠ addr) : ws.reverse.find? (fun p => p.1 == addr) = none := by
  rw [List.find?_eq_none]
  intro w hw
  simpa using h w (List.mem_reverse.mp hw)

/-- A load takes the newest value that the buffer holds for its address. -/
theorem State.loadWord_newest (hnew : ∀ w ∈ newer, w.1 ≠ addr) (hread : (s.wordAt x o addr).isSome = true) :
    s.loadWord { x with stores := older ++ (addr, v) :: newer } o addr = some v := by
  obtain ⟨m, hm⟩ := Option.isSome_iff_exists.mp hread
  simp [State.loadWord, State.wordAt_stores, hm, List.reverse_append, List.find?_append, find?_of_no_match addr hnew]

theorem State.loadWord_unbuffered (hws : ∀ w ∈ older ++ newer, w.1 ≠ addr) :
    s.loadWord { x with stores := older ++ newer } o addr = s.wordAt x o addr := by
  simp only [State.loadWord, State.wordAt_stores, find?_of_no_match addr hws]
  cases s.wordAt x o addr <;> rfl

end LoadWord

/-! Loads (R157, R174, R175). -/

section Loads

variable (s : State) (x : Engine) (o : Owner) (addr : Nat)

/-- The i-th word that a load takes from an address on; the addresses wrap at 2^20. -/
def State.nthWord (i : Nat) : Option Word48 := s.loadWord x o ((addr + i) % 1048576)

theorem State.loadWords_all (n : Nat) (h : ∀ i, i < n → (s.nthWord x o addr i).isSome = true) :
    ∃ vs, s.loadWords x o addr n = some vs ∧ vs.length = n ∧ ∀ i, i < n → vs[i]? = s.nthWord x o addr i := by
  induction n generalizing addr with
  | zero => exact ⟨[], rfl, rfl, nofun⟩
  | succ n ih =>
    have hnext : ∀ i, s.nthWord x o (addr + 1) i = s.nthWord x o addr (i + 1) := fun i => by
      rw [State.nthWord, State.nthWord, Nat.add_right_comm, Nat.add_assoc]
    obtain ⟨vs, hvs, hlen, hget⟩ := ih (addr + 1) (fun i hi => by rw [hnext]; exact h (i + 1) (by omega))
    obtain ⟨v, hv⟩ := Option.isSome_iff_exists.mp (h 0 (by omega))
    refine ⟨v :: vs, ?_, by rw [List.length_cons, hlen], fun i hi => ?_⟩
    · have hv' : s.loadWord x o (addr % 1048576) = some v := hv
      simp only [State.loadWords, hv', hvs]
    · cases i with
      | zero => exact hv.symm
      | succ i => rw [List.getElem?_cons_succ, hget i (by omega), hnext]

theorem State.loadWords_none (n : Nat) (h : ∃ i, i < n ∧ s.nthWord x o addr i = none) : s.loadWords x o addr n = none := by
  induction n generalizing addr with
  | zero => obtain ⟨i, hi, -⟩ := h; omega
  | succ n ih =>
    obtain ⟨i, hi, hnone⟩ := h
    cases i with
    | zero =>
      have hv : s.loadWord x o (addr % 1048576) = none := hnone
      simp only [State.loadWords, hv]
    | succ i =>
      have hrest := ih (addr + 1) ⟨i, by omega, by rwa [State.nthWord, Nat.add_right_comm, Nat.add_assoc]⟩
      unfold State.loadWords
      rw [hrest]
      split
      · rename_i hsome; cases hsome
      · rfl

theorem Engine.setXs_rest (vs : List Word48) (d : Nat) : x.setXs d vs = { x with x := (x.setXs d vs).x } := by
  induction vs generalizing x d with
  | nil => rfl
  | cons v vs ih => rw [Engine.setXs, ih]; rfl

/-- Consecutive X registers after a load. -/
theorem Engine.xr_setXs (vs : List Word48) (d j : Nat) : (x.setXs d vs).xr j = if d ≤ j then (vs[j - d]?).getD (x.xr j) else x.xr j := by
  induction vs generalizing x d with
  | nil => simp [Engine.setXs]
  | cons v vs ih =>
    rw [Engine.setXs, ih, Engine.xr_setX]
    rcases Nat.lt_trichotomy j d with hlt | rfl | hgt
    · rw [if_neg (by omega), if_neg (by omega), if_neg (by omega)]
    · rw [if_neg (by omega), if_pos rfl, if_pos le_rfl, Nat.sub_self]; rfl
    · rw [if_pos (by omega), if_neg (by omega), if_pos (by omega), show j - d = (j - (d + 1)) + 1 by omega, List.getElem?_cons_succ]

theorem Engine.postMod_eq (a k : Nat) (pm : Bool) : x.postMod a k pm = { x with a := (x.postMod a k pm).a } := by
  cases pm <;> rfl

theorem Engine.postMod_modified (a k : Nat) (pm : Bool) : PostModified x (x.postMod a k pm) a k pm := by
  cases pm
  · exact ⟨rfl, fun _ _ => rfl⟩
  · exact x.postMod_postModified a k

end Loads

theorem sharedAddr_cost (addr : Nat) : (if sharedAddr addr = true then 4 else 1) = if 0x30000 ≤ addr then 4 else 1 := by
  simp [sharedAddr]

/-- What a load gives when every word can be read and SECDED finds no double-bit error. -/
theorem engLoad_good {s : State} {x : Engine} {r : Running} {n d a o : Nat} {pm : Bool} {ecc : Ecc}
    (h : ∀ i, i < n → (s.nthWord x r.owner (x.ar a).toNat i).isSome = true) (hecc : ecc ≠ .double) :
    ∃ y, engLoad n d a o pm ecc s x r = EngOut.seq y ∧ PostModified x y a o pm
      ∧ (∀ j, j < n → some (y.xr (d + j)) = s.nthWord x r.owner (x.ar a).toNat j) ∧ (∀ j, j < d ∨ d + n ≤ j → y.xr j = x.xr j)
      ∧ y = { x with x := y.x, a := y.a, eccCorr := x.eccCorr || decide (ecc = .corrected) } := by
  obtain ⟨vs, hvs, hlen, hget⟩ := s.loadWords_all x r.owner (x.ar a).toNat n h
  have hload : engLoad n d a o pm ecc s x r
      = EngOut.seq ((({ x with eccCorr := x.eccCorr || decide (ecc = .corrected) } : Engine).setXs d vs).postMod a o pm) := by
    simp only [engLoad, hvs]
    cases ecc with
    | clean => simp [eccOut]
    | corrected => simp [eccOut]
    | double => exact absurd rfl hecc
  generalize hx' : ({ x with eccCorr := x.eccCorr || decide (ecc = .corrected) } : Engine) = x' at hload
  have hxr : ∀ j, ((x'.setXs d vs).postMod a o pm).xr j = if d ≤ j then (vs[j - d]?).getD (x.xr j) else x.xr j := fun j => by
    rw [Engine.postMod_eq]
    refine (x'.xr_setXs vs d j).trans ?_
    rw [← hx']; rfl
  refine ⟨_, hload, ?_, fun j hj => ?_, fun j hj => ?_, ?_⟩
  · have hpost := (x'.setXs d vs).postMod_modified a o pm
    rw [Engine.setXs_rest, ← hx'] at hpost
    rw [Engine.setXs_rest, ← hx']
    exact hpost
  · obtain ⟨v, hv⟩ := Option.isSome_iff_exists.mp (h j hj)
    rw [hxr, if_pos (by omega), Nat.add_sub_cancel_left, hget j hj, hv]
    rfl
  · rw [hxr]
    split
    · rw [List.getElem?_eq_none (by omega)]; rfl
    · rfl
  · rw [Engine.postMod_eq, Engine.setXs_rest, ← hx']

/-- A double-bit error (R174, R175). -/
theorem engLoad_double {s : State} {x : Engine} {r : Running} {n d a o : Nat} {pm : Bool}
    (h : ∀ i, i < n → (s.nthWord x r.owner (x.ar a).toNat i).isSome = true) : engLoad n d a o pm .double s x r =
      if 0x30000 ≤ (x.ar a).toNat then .fault 5 0 (if 0x80000 ≤ (x.ar a).toNat ∧ (x.ar a).toNat < 0xC0000 then 8 else 3) else .failed := by
  obtain ⟨vs, hvs, -, -⟩ := s.loadWords_all x r.owner (x.ar a).toNat n h
  simp only [engLoad, hvs, eccOut, sharedAddr, decide_eq_true_eq]

theorem engLoad_address {s : State} {x : Engine} {r : Running} {n d a o : Nat} {pm : Bool} {ecc : Ecc}
    (h : ∃ i, i < n ∧ s.nthWord x r.owner (x.ar a).toNat i = none) : engLoad n d a o pm ecc s x r = .address := by
  simp only [engLoad, s.loadWords_none x r.owner (x.ar a).toNat n h]

section EngineStepFaults

variable {i : Instr} {s : State} {e cost : Nat} {r : Running} {f : State → Engine → Running → EngOut}

theorem exec_taskFault_of_fault {c code ax : Nat} (h : Runs s e r) (hi : exec i s = s.engineStep e cost f)
    (hf : f s (s.engine e) r = .fault c code ax) : exec i s = .next (s.taskFault e c code ax) := by
  rw [hi]
  simp only [State.engineStep, h.1, hf]

theorem exec_engineFail_of_failed (h : Runs s e r) (hi : exec i s = s.engineStep e cost f)
    (hf : f s (s.engine e) r = .failed) : exec i s = .next (s.engineFail e 0) := by
  rw [hi]
  simp only [State.engineStep, h.1, hf]

/-- A load with a double-bit error: an ECC fault of the task in shared memory, a failure of the engine in its own. -/
theorem exec_double {addr ax : Nat} (h : Runs s e r) (hi : exec i s = s.engineStep e cost f)
    (hf : f s (s.engine e) r = if 0x30000 ≤ addr then .fault 5 0 ax else .failed) :
    exec i s = .next (if 0x30000 ≤ addr then s.taskFault e 5 0 ax else s.engineFail e 0) := by
  by_cases ha : 0x30000 ≤ addr
  · rw [if_pos ha] at hf ⊢
    exact exec_taskFault_of_fault h hi hf
  · rw [if_neg ha] at hf ⊢
    exact exec_engineFail_of_failed h hi hf

end EngineStepFaults

end Sys2Proof.Machine
end

section
/-! The stores (R157, R162, R168): what enters the buffer of four, and what leaves it. -/

namespace Sys2Proof.Machine

open Sys2Proof.Claims

/-- Stores go to memory, oldest first. -/
def State.writeWords (s : State) (e : Nat) (ws : List (Nat × Word48)) : State := ws.foldl (fun (t : State) w => t.writeWord e w.1 w.2) s

theorem State.writeWords_cons (s : State) (e : Nat) (w : Nat × Word48) (ws : List (Nat × Word48)) :
    s.writeWords e (w :: ws) = (s.writeWord e w.1 w.2).writeWords e ws := rfl

/-- The engine e with its store buffer replaced. -/
def State.withStores (s : State) (e : Nat) (ws : List (Nat × Word48)) : State := s.modEngine e (fun x => { x with stores := ws })

theorem State.withStores_eq (s : State) (e : Nat) (ws : List (Nat × Word48)) :
    s.withStores e ws = s.setEngine e { s.engine e with stores := ws } := rfl

theorem State.withStores_engine (s : State) (e : Nat) (ws : List (Nat × Word48)) :
    (s.withStores e ws).engine e = { s.engine e with stores := ws } := State.setEngine_self _ _ _

theorem State.withStores_withStores (s : State) (e : Nat) (ws ws' : List (Nat × Word48)) :
    (s.withStores e ws).withStores e ws' = s.withStores e ws' := by
  rw [State.withStores_eq (s.withStores e ws), State.withStores_engine, s.withStores_eq e ws, State.setEngine_setEngine]
  rfl

/-- What a write of a word can be (Table ENG-4): of the engine's scratch or output window, of the line block, of a context block's
device word or program word, of the learner pool, or nothing. -/
theorem State.writeWord_cases (e addr : Nat) (v : Word48) :
    (∀ s : State, s.writeWord e addr v = s.setEngine e { s.engine e with
      scratch := sput (scratchDefault (s.engine e).scratchCtr) (s.engine e).scratch addr v })
    ∨ (∀ s : State, s.writeWord e addr v = s.setEngine e { s.engine e with
      outWin := sput (fun _ => 0) (s.engine e).outWin (addr - 0x20100) v })
    ∨ (∀ s : State, s.writeWord e addr v =
      { s with eng := { s.eng with lineBlock := sput (fun _ => 0) s.eng.lineBlock (addr - 0x30000) v } })
    ∨ (∀ s : State, s.writeWord e addr v = s.setDeviceWord ((addr - 0x40000) / 1024) (addr % 1024) v)
    ∨ (∀ s : State, s.writeWord e addr v =
      { s with eng := { s.eng with context := sput (fun _ => 0) s.eng.context (addr - 0x40000) v } })
    ∨ (∀ s : State, s.writeWord e addr v = { s with eng := { s.eng with pool := sput (fun _ => 0) s.eng.pool (addr - 0x80000) v } })
    ∨ (∀ s : State, s.writeWord e addr v = s) := by
  by_cases h1 : addr < 0xF000
  · exact Or.inl fun s => s.writeWord_scratch e addr v h1
  refine Or.inr ?_
  by_cases h2 : addr < 0x20100
  · exact Or.inr (Or.inr (Or.inr (Or.inr (Or.inr fun s => by rw [State.writeWord, if_neg h1, if_pos h2]))))
  by_cases h3 : addr < 0x20110
  · exact Or.inl fun s => by rw [State.writeWord, if_neg h1, if_neg h2, if_pos h3, State.modEngine_eq]
  refine Or.inr ?_
  by_cases h4 : addr < 0x30000
  · exact Or.inr (Or.inr (Or.inr (Or.inr fun s => by rw [State.writeWord, if_neg h1, if_neg h2, if_neg h3, if_pos h4])))
  by_cases h5 : addr < 0x30400
  · exact Or.inl fun s => s.writeWord_line e addr v (by omega) h5
  refine Or.inr ?_
  by_cases h6 : addr < 0x40000
  · exact Or.inr (Or.inr (Or.inr fun s => by rw [State.writeWord, if_neg h1, if_neg h2, if_neg h3, if_neg h4, if_neg h5, if_pos h6]))
  by_cases h7 : addr < 0x80000
  · cases hd : isDeviceWord (addr % 1024)
    · exact Or.inr (Or.inl fun s => s.writeWord_context e addr v (by omega) h7 hd)
    · exact Or.inl fun s => s.writeWord_device e addr v (by omega) h7 hd
  refine Or.inr (Or.inr ?_)
  by_cases h8 : addr < 0xC0000
  · exact Or.inl fun s => s.writeWord_pool e addr v (by omega) h8
  · exact Or.inr fun s => by
      rw [State.writeWord, if_neg h1, if_neg h2, if_neg h3, if_neg h4, if_neg h5, if_neg h6, if_neg h7, if_neg h8]

theorem State.setDeviceWord_engine (s : State) (a off e : Nat) (v : Word48) : (s.setDeviceWord a off v).engine e = s.engine e := by
  have heng : (s.setDeviceWord a off v).eng = s.eng := by simp
  rw [State.engine, heng]
  rfl

/-- A write of memory and a change of the buffer do not meet. -/
theorem State.writeWord_withStores (s : State) (e addr : Nat) (v : Word48) (ws : List (Nat × Word48)) :
    (s.withStores e ws).writeWord e addr v = (s.writeWord e addr v).withStores e ws := by
  rcases State.writeWord_cases e addr v with h | h | h | h | h | h | h
  · rw [h, h, State.withStores_engine, State.withStores_eq, State.withStores_eq, State.setEngine_self, State.setEngine_setEngine,
      State.setEngine_setEngine]
  · rw [h, h, State.withStores_engine, State.withStores_eq, State.withStores_eq, State.setEngine_self, State.setEngine_setEngine,
      State.setEngine_setEngine]
  · rw [h, h]; rfl
  · rw [h, h, State.withStores_eq, State.withStores_eq, State.setDeviceWord_engine]; rfl
  · rw [h, h]; rfl
  · rw [h, h]; rfl
  · rw [h, h]

/-- The writes touch the scratch and the output window of the engine only. -/
theorem State.writeWord_engine (s : State) (e addr : Nat) (v : Word48) : (s.writeWord e addr v).engine e =
    { s.engine e with scratch := ((s.writeWord e addr v).engine e).scratch, outWin := ((s.writeWord e addr v).engine e).outWin } := by
  rcases State.writeWord_cases e addr v with h | h | h | h | h | h | h
  · rw [h, State.setEngine_self]
  · rw [h, State.setEngine_self]
  · rw [h]; rfl
  · rw [h, State.setDeviceWord_engine]
  · rw [h]; rfl
  · rw [h]; rfl
  · rw [h]

/-- A state in which the entry of engine e stands as a write leaves it. -/
def State.Settled (s : State) (e : Nat) : Prop := s.withStores e (s.engine e).stores = s

theorem State.setEngine_settled (s : State) (e : Nat) (x : Engine) : (s.setEngine e x).Settled e := by
  rw [State.Settled, State.withStores_eq, State.setEngine_setEngine, State.setEngine_self]

theorem State.withStores_settled (s : State) (e : Nat) (ws : List (Nat × Word48)) : (s.withStores e ws).Settled e :=
  s.setEngine_settled e _

theorem State.Settled.writeWord {s : State} {e : Nat} (h : s.Settled e) (addr : Nat) (v : Word48) : (s.writeWord e addr v).Settled e := by
  rw [State.Settled, State.writeWord_engine, ← State.writeWord_withStores, h]

/-- The oldest k stores leave the buffer for memory. -/
theorem State.retire_eq (k : Nat) (s : State) (e : Nat) (hs : s.Settled e) :
    s.retire e k = (s.withStores e ((s.engine e).stores.drop k)).writeWords e ((s.engine e).stores.take k) := by
  induction k generalizing s with
  | zero => exact hs.symm
  | succ k ih =>
    cases hws : (s.engine e).stores with
    | nil =>
      rw [State.Settled, hws] at hs
      simp only [State.retire, hws]
      exact hs.symm
    | cons w ws =>
      obtain ⟨addr, v⟩ := w
      have hstores : (((s.withStores e ws).writeWord e addr v).engine e).stores = ws := by
        rw [State.writeWord_engine, State.withStores_engine]
      simp only [State.retire, hws]
      rw [← State.withStores, ih _ ((s.withStores_settled e ws).writeWord addr v), hstores, ← State.writeWord_withStores,
        State.withStores_withStores, List.drop_succ_cons, List.take_succ_cons, State.writeWords_cons]

/-- The stores that leave the buffer touch the scratch and the output window of the engine only. -/
theorem State.retire_engine (k : Nat) (s : State) (e : Nat) : (s.retire e k).engine e = { s.engine e with
    stores := (s.engine e).stores.drop k
    scratch := ((s.retire e k).engine e).scratch, outWin := ((s.retire e k).engine e).outWin } := by
  induction k generalizing s with
  | zero => rfl
  | succ k ih =>
    cases hws : (s.engine e).stores with
    | nil =>
      simp only [State.retire, hws, List.drop_nil]
      rw [← hws]
    | cons w ws =>
      obtain ⟨addr, v⟩ := w
      simp only [State.retire, hws, List.drop_succ_cons]
      rw [← State.withStores, ih, State.writeWord_engine, State.withStores_engine]

/-- FENCE and END: every store leaves the buffer (R168, R170). -/
theorem State.drain_engine (s : State) (e : Nat) : (s.drain e).engine e =
    { s.engine e with stores := [], scratch := ((s.drain e).engine e).scratch, outWin := ((s.drain e).engine e).outWin } := by
  rw [State.drain, State.retire_engine, List.drop_length]

/-- The words that a store takes from Xd on. -/
def Engine.storeWords (x : Engine) (d a n : Nat) : List (Nat × Word48) :=
  (List.range n).map (fun i => (((x.ar a).toNat + i) % 1048576, x.xr (d + i)))

theorem Engine.endBodies_stores (ws : List (Nat × Word48)) (ls : List LoopRec) (x : Engine) :
    ({ x with stores := ws } : Engine).endBodies ls = { x.endBodies ls with stores := ws } := by
  induction ls generalizing x with
  | nil => rfl
  | cons l ls ih =>
    by_cases hpc : x.pc = l.last
    · rw [Engine.endBodies_last x l ls hpc, Engine.endBodies_last { x with stores := ws } l ls hpc]
      by_cases hn : x.lcr l.lc.val - 1 = 0
      · rw [if_pos hn]
        exact (if_pos hn).trans (ih (x.setLc l.lc.val (x.lcr l.lc.val - 1)))
      · rw [if_neg hn]
        exact if_neg hn
    · rw [show x.endBodies (l :: ls) = { x with loops := l :: ls, pc := x.pc + 1 } from if_neg hpc]
      exact if_neg hpc

theorem Engine.advance_stores (ws : List (Nat × Word48)) (x : Engine) :
    ({ x with stores := ws } : Engine).advance = { x.advance with stores := ws } := Engine.endBodies_stores ws x.loops x

section Stores

variable {i : Instr} {s : State} {e cost n d a o : Nat} {pm : Bool} {r : Running} {f : State → Engine → Running → EngOut}

/-- The words that leave a buffer with new words, and those that stay. -/
def leaving (ws : List (Nat × Word48)) : List (Nat × Word48) := ws.take (ws.length - 4)
def staying (ws : List (Nat × Word48)) : List (Nat × Word48) := ws.drop (ws.length - 4)

/-- An instruction that puts words into the store buffer. -/
theorem State.engineStep_stores (h : Runs s e r) {y z : Engine} {ws : List (Nat × Word48)} (hf : f s (s.engine e) r = .go y none ws)
    (ht : y.task = some r) (hz : z = { y with stores := staying y.stores }) : s.engineStep e cost f
      = .next ((Onward s e { r with written := r.written ++ ws } cost z).writeWords e (leaving y.stores)) := by
  have hadv : y.advance.stores = y.stores := by rw [Engine.advance_rest]
  have hzadv : z.advance = { y.advance with stores := staying y.stores } := hz ▸ y.advance_stores (staying y.stores)
  simp only [State.engineStep, h.1, hf, State.engApply, ht, Bool.or_self, hadv]
  rw [State.retire_eq _ _ _ (State.setEngine_settled _ _ _), State.setEngine_self, State.withStores_eq, State.setEngine_self,
    State.setEngine_setEngine, Onward, hzadv]
  rfl

/-- A store that Table ENG-4 allows. -/
theorem exec_store_good (h : Runs s e r) (hi : exec i s = s.engineStep e cost f)
    (hf : f s (s.engine e) r = engStore n d a o pm s (s.engine e) r)
    (hw : ∀ j, j < n → s.writable r.owner ((((s.engine e).ar a).toNat + j) % 1048576) = true) :
    ∃ y, PostModified (s.engine e) y a o pm
      ∧ y = { s.engine e with a := y.a, stores := staying ((s.engine e).stores ++ (s.engine e).storeWords d a n) }
      ∧ exec i s = .next ((Onward s e { r with written := r.written ++ (s.engine e).storeWords d a n } cost y).writeWords e
          (leaving ((s.engine e).stores ++ (s.engine e).storeWords d a n))) := by
  have hall : ((s.engine e).storeWords d a n).all (fun p => s.writable r.owner p.1) = true := by
    simpa [Engine.storeWords] using hw
  have hgo : f s (s.engine e) r = .go (({ s.engine e with stores := (s.engine e).stores ++ (s.engine e).storeWords d a n } : Engine).postMod a o pm)
      none ((s.engine e).storeWords d a n) := hf.trans (if_pos hall)
  refine ⟨{ s.engine e with
    a := ((s.engine e).postMod a o pm).a, stores := staying ((s.engine e).stores ++ (s.engine e).storeWords d a n) }, ?_, rfl, ?_⟩
  · have hpost := (s.engine e).postMod_modified a o pm
    rw [Engine.postMod_eq] at hpost
    exact hpost
  · have hstores : (({ s.engine e with stores := (s.engine e).stores ++ (s.engine e).storeWords d a n } : Engine).postMod a o pm).stores
        = (s.engine e).stores ++ (s.engine e).storeWords d a n := by rw [Engine.postMod_eq]
    refine hi.trans ((State.engineStep_stores h hgo (by rw [Engine.postMod_eq]; exact h.1) ?_).trans (by rw [hstores]))
    cases pm <;> rfl

theorem exec_store_address (h : Runs s e r) (hi : exec i s = s.engineStep e cost f)
    (hf : f s (s.engine e) r = engStore n d a o pm s (s.engine e) r)
    (hw : ∃ j, j < n ∧ s.writable r.owner ((((s.engine e).ar a).toNat + j) % 1048576) = false) :
    exec i s = .next (s.taskFault e 1 0 3) := by
  have hall : ¬ ((s.engine e).storeWords d a n).all (fun p => s.writable r.owner p.1) = true := by
    obtain ⟨j, hj, hno⟩ := hw
    intro hyes
    have := List.all_eq_true.mp hyes _ (List.mem_map_of_mem (List.mem_range.mpr hj))
    rw [hno] at this
    cases this
  exact exec_taskFault_of_fault h hi (hf.trans (if_neg hall))

end Stores

/-- Settles O7: the map read back region by region, the buffer searched from its newest store, and each load and store as one step of its
engine. -/
theorem engineMemory : Obligations.EngineMemory := by
  unfold Obligations.EngineMemory
  refine ⟨fun s e o addr v hw hout => s.writeWord_readsBack e o addr v hw hout, ?newest, ?loads, ?stores⟩
  case newest =>
    intro s x o addr v older newer hnew hread
    refine ⟨s.loadWord_newest x o addr v older newer hnew hread, fun hold => s.loadWord_unbuffered x o addr older newer (fun w hw => ?_)⟩
    exact (List.mem_append.mp hw).elim (hold w) (hnew w)
  case loads =>
    intro s e r d a o pm ecc h x addr word cost good double
    have hcost : (if sharedAddr addr = true then 4 else 1) = cost := sharedAddr_cost addr
    have hldq : exec (.ceLdq e d a pm o ecc) s = s.engineStep e.val cost (fun s x r =>
        if d.val % 4 = 0 then engLoad 4 d.val a.val o.val pm ecc s x r else .illegal) := by
      rw [← hcost]; exact exec_ceLdq
    have hgood : ∀ (i : Instr) (n k : Nat) (f : State → Engine → Running → EngOut), exec i s = s.engineStep e.val k f →
        f s x r = engLoad n d.val a.val o.val pm ecc s x r → (∀ j, j < n → (word j).isSome = true) → ecc ≠ .double → good i n k := by
      intro i n k f hi hf hread hecc
      obtain ⟨y, hy, hpost, hwords, hothers, hrest⟩ := engLoad_good (d := d.val) (o := o.val) (pm := pm) hread hecc
      exact ⟨y, exec_onward_of_seq h hi (hf.trans hy) (by rw [hrest]) (by rw [hrest]), hpost, hwords, hothers, hrest⟩
    have hone : (word 0).isSome = true → ∀ j, j < 1 → (word j).isSome = true := fun hr j hj => by
      obtain rfl : j = 0 := by omega
      exact hr
    refine ⟨?ld, ?ldDouble, ?ldAddress, ?ldq, ?ldqDouble, ?ldqAddress, ?ldqIllegal⟩
    case ld => exact fun hr hecc => hgood _ 1 1 _ exec_ceLd rfl (hone hr) hecc
    case ldDouble =>
      rintro hr rfl
      exact exec_double h exec_ceLd (engLoad_double (hone hr))
    case ldAddress => exact fun hn => exec_taskFault_of_fault h exec_ceLd (engLoad_address ⟨0, Nat.one_pos, hn⟩)
    case ldq => exact fun hd hr hecc => hgood _ 4 cost _ hldq (if_pos hd) hr hecc
    case ldqDouble =>
      rintro hd hr rfl
      exact exec_double h hldq ((if_pos hd).trans (engLoad_double hr))
    case ldqAddress => exact fun hd hn => exec_taskFault_of_fault h hldq ((if_pos hd).trans (engLoad_address hn))
    case ldqIllegal => exact fun hd => exec_taskFault_of_illegal h hldq (if_neg hd)
  case stores =>
    intro s e r d a o pm h x addr at_ word cost good
    have hcost : (if sharedAddr addr = true then 4 else 1) = cost := sharedAddr_cost addr
    have hstq : exec (.ceStq e d a pm o) s = s.engineStep e.val cost (fun s x r =>
        if d.val % 4 = 0 then engStore 4 d.val a.val o.val pm s x r else .illegal) := by
      rw [← hcost]; exact exec_ceStq
    have haddr : addr % 1048576 = addr := Nat.mod_eq_of_lt (x.ar a.val).isLt
    refine ⟨?st, ?stAddress, ?stq, ?stqAddress, ?stqIllegal⟩
    case st =>
      intro hw
      refine exec_store_good (n := 1) h exec_ceSt rfl (fun j hj => ?_)
      obtain rfl : j = 0 := by omega
      exact (congrArg (s.writable r.owner) haddr).trans hw
    case stAddress =>
      intro hw
      exact exec_store_address (n := 1) h exec_ceSt rfl ⟨0, Nat.one_pos, (congrArg (s.writable r.owner) haddr).trans hw⟩
    case stq => exact fun hd hw => exec_store_good (n := 4) h hstq (if_pos hd) hw
    case stqAddress => exact fun hd hw => exec_store_address (n := 4) h hstq (if_pos hd) hw
    case stqIllegal => exact fun hd => exec_taskFault_of_illegal h hstq (if_neg hd)

end Sys2Proof.Machine
end

section
/-! The idle step (R161, R172, R399; log 1, 168): the core clock, and the programs of the engines; and what reset leaves. -/

namespace Sys2Proof.Machine

open Sys2Proof.Claims

theorem step_idle {s : State} (h : s.pending = []) : step s = .next s.idle := by
  simp only [step, h]

theorem State.runEngine_quiet {s : State} {e : EngIx} (h : s.issues e.val = false) : s.runEngine e = s := by
  rw [State.runEngine, h]
  rfl

/-- The turn of the engine that i names, one of the eight. -/
def State.turn (s : State) (i : Nat) : State := s.runEngine ⟨i % 8, by omega⟩

theorem State.idle_eq (s : State) : s.idle = (List.range 8).foldl State.turn s.idleTick := rfl

theorem State.turn_quiet {s : State} {i : Nat} (hi : i < 8) (h : s.issues i = false) : s.turn i = s :=
  State.runEngine_quiet ((congrArg s.issues (Nat.mod_eq_of_lt hi)).trans h)

theorem State.turns_quiet {s : State} (is : List Nat) (h : ∀ i ∈ is, i < 8 ∧ s.issues i = false) : is.foldl State.turn s = s := by
  induction is with
  | nil => rfl
  | cons i is ih =>
    obtain ⟨hi, hq⟩ := h i List.mem_cons_self
    rw [List.foldl_cons, State.turn_quiet hi hq]
    exact ih (fun j hj => h j (List.mem_cons_of_mem _ hj))

/-- The eight turns: those before engine e, its own, and those behind it. -/
theorem State.idle_around (s : State) (e : EngIx) : s.idle
    = ((List.range (7 - e.val)).map (fun k => e.val + 1 + k)).foldl State.turn (((List.range e.val).foldl State.turn s.idleTick).turn e.val) := by
  have hsplit : List.range 8 = List.range e.val ++ (e.val :: (List.range (7 - e.val)).map (fun k => e.val + 1 + k)) := by
    have h8 : 8 = e.val + 1 + (7 - e.val) := by omega
    conv_lhs => rw [h8, List.range_add, List.range_succ, List.append_assoc]
    rfl
  rw [State.idle_eq, hsplit, List.foldl_append, List.foldl_cons]

/-- The served clock in units of 2^-32 ns. -/
def WallTime.units (t : WallTime) : Int := (t.sec * 1000000000 + t.ns) * 4294967296 + t.frac

/-- One tick of the core clock adds ADDEND = 2^32 + R, and the clock stays normalised (R399). -/
theorem WallTime.tick_units (t : WallTime) (hf : t.frac < 4294967296) (hn : t.ns < 1000000000) (hs : t.sec < 281474976710656)
    (hlo : -2147483 ≤ t.rate) (hhi : t.rate ≤ 2147483) :
    t.tick.units = (t.units + 4294967296 + t.rate) % (281474976710656 * 1000000000 * 4294967296)
      ∧ t.tick.frac < 4294967296 ∧ t.tick.ns < 1000000000 ∧ t.tick.sec < 281474976710656 := by
  simp only [WallTime.units, WallTime.tick]
  split
  · refine ⟨?_, by omega, by omega, by omega⟩
    omega
  · refine ⟨?_, by omega, by omega, by omega⟩
    omega

theorem decodeEngine_none {e : EngIx} {w : BitVec 64} (h : engBits w 58 6 = 0 ∨ engBits w 58 6 = 0x0F ∨ 0x38 ≤ engBits w 58 6) :
    decodeEngine e w = none := by
  rcases h with h | h | h
  · simp only [decodeEngine, h]
  · simp only [decodeEngine, h]
  · obtain ⟨k, hk⟩ := Nat.exists_eq_add_of_le' h
    simp only [decodeEngine, hk]

theorem decodeEngine_add {e : EngIx} {w : BitVec 64} (h : engBits w 58 6 = 0x10) :
    decodeEngine e w = some (exec (.ceAdd e (engReg w 53) (engReg w 48) (engReg w 43))) := by
  simp only [decodeEngine, h]
  rfl

theorem decodeEngine_end {e : EngIx} {w : BitVec 64} (h : engBits w 58 6 = 0x34) : decodeEngine e w = some (exec (.ceEnd e)) := by
  simp only [decodeEngine, h]
  rfl

/-- Settles O12: eight quiet turns leave the tick alone; with one engine to issue, seven turns are quiet and its own runs its word. -/
theorem idleStepServesTime : Obligations.IdleStepServesTime := by
  unfold Obligations.IdleStepServesTime
  refine ⟨?clock, ?program⟩
  case clock =>
    intro s hp hf hn hs hlo hhi hquiet units
    obtain ⟨hunits, hf', hn', hs'⟩ := s.time.tick_units hf hn hs hlo hhi
    have hidle : s.idle = s.idleTick := State.turns_quiet _ (fun i hi => ⟨List.mem_range.mp hi, hquiet i (List.mem_range.mp hi)⟩)
    exact ⟨s.idleTick, (step_idle hp).trans (congrArg _ hidle), hunits, hf', hn', hs', rfl⟩
  case program =>
    intro s t e f hp honly w others
    have hbefore : (List.range e.val).foldl State.turn s.idleTick = s.idleTick := State.turns_quiet _ (fun i hi => by
      have hlt : i < e.val := List.mem_range.mp hi
      refine ⟨by omega, ?_⟩
      by_contra hno
      have := (honly i (by omega)).mp (by simpa using hno)
      omega)
    have hissue : s.idleTick.issues e.val = true := (honly e.val e.isLt).mpr rfl
    have hturn : ∀ u, s.idleTick.turn e.val = u → others u → step s = .next u := by
      intro u hu hrest
      rw [step_idle hp, s.idle_around e, hbefore, hu]
      refine congrArg _ (State.turns_quiet _ (fun i hi => ?_))
      obtain ⟨k, hk, rfl⟩ := List.mem_map.mp hi
      have := List.mem_range.mp hk
      exact ⟨by omega, hrest _ (by omega) (by omega)⟩
    have hself : s.idleTick.turn e.val = s.idleTick.runEngine e := congrArg s.idleTick.runEngine (Fin.ext (Nat.mod_eq_of_lt e.isLt))
    refine ⟨fun hd hfn hrest => ?runs, fun hd hrest => ?illegal, decodeEngine_none, decodeEngine_add, decodeEngine_end⟩
    case runs =>
      refine hturn t (hself.trans ?_) hrest
      rw [State.runEngine, hissue, show decodeEngine e (s.idleTick.programWord e.val) = some f from hd]
      simp only [hfn, if_true]
    case illegal =>
      refine hturn _ (hself.trans ?_) hrest
      rw [State.runEngine, hissue, show decodeEngine e (s.idleTick.programWord e.val) = none from hd]
      rfl

/-- Settles O14: the reset state holds each value by its definition. -/
theorem resetLeaves : Obligations.ResetLeaves := by
  unfold Obligations.ResetLeaves
  refine ⟨⟨rfl, rfl, rfl, rfl, fun _ => rfl, fun _ _ => rfl, fun _ => rfl, fun _ => ⟨rfl, rfl, rfl, fun _ => rfl⟩, rfl, rfl, rfl, rfl, rfl, rfl,
    rfl, rfl, rfl, rfl, rfl, rfl, rfl, rfl, rfl, rfl, rfl, rfl⟩, rfl, rfl⟩

end Sys2Proof.Machine
end

section
/-! What ends a task (R156, R170, R171, R174, R176, R177): the engine after each operation. -/

namespace Sys2Proof.Machine

open Sys2Proof.Claims

/-! The chip's fatal reactions leave the engines and their memories (R314, R317, R367). -/

@[simp] theorem State.idlePort_eng (s : State) (p : Nat) : (s.idlePort p).eng = s.eng := by
  unfold State.idlePort
  split <;> simp

@[simp] theorem State.goSilent_eng (s : State) : s.goSilent.eng = s.eng := by
  simp [State.goSilent]

@[simp] theorem State.enterEndgame_eng (s : State) : s.enterEndgame.eng = s.eng := by
  unfold State.enterEndgame
  split <;> simp

@[simp] theorem State.fatal_eng (s : State) (reason : Nat) : (s.fatal reason).eng = s.eng := by
  unfold State.fatal
  split
  · rfl
  split
  · simp
  split <;> simp

theorem State.engine_congr {s t : State} (h : t.eng = s.eng) (e : Nat) : t.engine e = s.engine e := by
  rw [State.engine, h]
  rfl

/-- An engine without a task leaves service when a rotation waited for it (R177). -/
def Engine.rotateNow (x : Engine) (now : Nat) : Engine :=
  if x.rotWait then { x with rotWait := false, rotated := true, inService := false, rotStart := now } else x

theorem State.takeRotation_engine (s : State) (e : Nat) : (s.takeRotation e).engine e = (s.engine e).rotateNow s.coreTicks := by
  unfold State.takeRotation Engine.rotateNow
  split
  · exact State.setEngine_self _ _ _
  · rfl

theorem State.stalled_engine (s : State) (e : Nat) (r : Running) : (s.stalled e r).1.engine e =
    { s.engine e with bankStalls := ((s.stalled e r).1.engine e).bankStalls } := by
  have h : (s.stalled e r).1.engine e = { s.engine e with bankStalls := add32 (s.engine e).bankStalls (Config.freeNat s.freeCtr) } :=
    State.setEngine_self _ _ _
  rw [h]

theorem State.modOwnerTask_engine (s : State) (o : Owner) (f : TaskSt → TaskSt) (e : Nat) : (s.modOwnerTask o f).engine e = s.engine e :=
  State.engine_congr (by simp) e

theorem State.taskEnded_engine (s : State) (o : Owner) (cycle e : Nat) : (s.taskEnded o cycle).engine e = s.engine e := by
  cases o <;> rfl

/-- The readings of an engine whose task has ended (Table ENG-21). -/
theorem State.recordTask_engine (s : State) (e : Nat) (r : Running) : (s.recordTask e r).engine e = { s.engine e with
    task := none, busyNow := (s.engine e).busyNow + r.cycles, cycBusy := (s.engine e).cycBusy + r.cycles, lastTask := ownerInst r.owner } := by
  simp only [State.recordTask]
  rw [State.taskEnded_engine, State.modEngine_eq, State.setEngine_self, State.modOwnerTask_engine]

theorem State.costEvent_engine (s : State) (r : Running) (e : Nat) : (s.costEvent r).engine e = s.engine e :=
  State.engine_congr (by simp) e

theorem State.noteDigest_engine (s : State) (r : Running) (q : Option RefEntry) (e : Nat) : (s.noteDigest r q).engine e = s.engine e := by
  unfold State.noteDigest
  dsimp only
  cases r.library <;> rfl

/-- The engine whose task a fault has ended, before a rotation takes it (Table ENG-18). -/
def State.faulted (s : State) (e cause : Nat) (r : Running) : State :=
  let q := (s.drain e).stalled e r
  ((((q.1.modEngine e (fun x =>
    { x with
      illegal := x.illegal || cause == 0, addrFault := x.addrFault || cause == 1, arith := x.arith || cause == 2
      watchdog := x.watchdog || cause == 3, eccUnc := x.eccUnc || cause == 5 })).recordTask e q.2).modOwnerTask q.2.owner
        (fun t => { t with faults := inc32 t.faults })).costEvent q.2)

theorem State.taskFault_engine_eq {s : State} {e : Nat} {r : Running} (h : (s.engine e).task = some r) (cause code ax : Nat) :
    (s.taskFault e cause code ax).engine e = ((s.faulted e cause r).takeRotation e).engine e := by
  simp only [State.taskFault, h, State.faulted]
  generalize (s.drain e).stalled e r = q
  cases q.2.owner with
  | line => exact State.engine_congr (by simp) e
  | axis a => exact State.engine_congr (by simp) e

/-- What a task fault leaves of its engine: no task, an empty store buffer, the bit of its cause, and the rotation that waited. -/
theorem State.taskFault_engine {s : State} {e : Nat} {r : Running} (h : (s.engine e).task = some r) (cause code ax : Nat) :
    ∃ (y : Engine) (now : Nat), (s.taskFault e cause code ax).engine e = y.rotateNow now ∧ y.task = none ∧ y.stores = []
      ∧ y.rotWait = (s.engine e).rotWait ∧ y.inService = (s.engine e).inService ∧ y.arith = ((s.engine e).arith || cause == 2)
      ∧ y.watchdog = ((s.engine e).watchdog || cause == 3) := by
  have hy : (s.faulted e cause r).engine e = _ :=
    (State.costEvent_engine _ _ e).trans ((State.modOwnerTask_engine _ _ _ e).trans (State.recordTask_engine _ e _))
  rw [State.modEngine_eq, State.setEngine_self, State.stalled_engine, State.drain_engine] at hy
  refine ⟨_, _, (State.taskFault_engine_eq h cause code ax).trans (State.takeRotation_engine _ _), ?_, ?_, ?_, ?_, ?_, ?_⟩ <;> rw [hy]

theorem Engine.rotateNow_rest (y : Engine) (now : Nat) : y.rotateNow now = { y with
    rotWait := (y.rotateNow now).rotWait, rotated := (y.rotateNow now).rotated, inService := (y.rotateNow now).inService
    rotStart := (y.rotateNow now).rotStart } := by
  unfold Engine.rotateNow
  split <;> rfl

/-- A fault leaves the engine in service, unless a rotation waits for it. -/
theorem Engine.rotateNow_stays (y : Engine) (now : Nat) : (y.rotWait = false → (y.rotateNow now).inService = y.inService)
    ∧ (y.rotWait = true → (y.rotateNow now).rotated = true ∧ (y.rotateNow now).inService = false) := by
  unfold Engine.rotateNow
  split
  · rename_i h; exact ⟨fun h' => absurd h (by simp [h']), fun _ => ⟨rfl, rfl⟩⟩
  · rename_i h; exact ⟨fun _ => rfl, fun h' => absurd h' h⟩

/-- The task fault of any cause, as its engine shows it. -/
theorem State.taskFault_leaves {s : State} {e : Nat} {r : Running} (h : (s.engine e).task = some r) (cause code ax : Nat) :
    ((s.taskFault e cause code ax).engine e).task = none ∧ ((s.taskFault e cause code ax).engine e).stores = []
      ∧ ((s.taskFault e cause code ax).engine e).arith = ((s.engine e).arith || cause == 2)
      ∧ ((s.taskFault e cause code ax).engine e).watchdog = ((s.engine e).watchdog || cause == 3)
      ∧ ((s.engine e).rotWait = false → ((s.taskFault e cause code ax).engine e).inService = (s.engine e).inService)
      ∧ ((s.engine e).rotWait = true → ((s.taskFault e cause code ax).engine e).rotated = true
          ∧ ((s.taskFault e cause code ax).engine e).inService = false) := by
  obtain ⟨y, now, hy, htask, hstores, hwait, hserv, harith, hdog⟩ := State.taskFault_engine h cause code ax
  obtain ⟨hfree, hrot⟩ := y.rotateNow_stays now
  rw [hy]
  refine ⟨?_, ?_, ?_, ?_, fun hw => (hfree (hwait.trans hw)).trans hserv, fun hw => hrot (hwait.trans hw)⟩
  · rw [Engine.rotateNow_rest]; exact htask
  · rw [Engine.rotateNow_rest]; exact hstores
  · rw [Engine.rotateNow_rest]; exact harith
  · rw [Engine.rotateNow_rest]; exact hdog

/-- The engine whose task has ended, before it publishes. -/
def State.ended (s : State) (e : Nat) (r : Running) : State :=
  let q := s.stalled e r
  ((q.1.recordTask e q.2).modEngine e (fun x => { x with tasks := inc32 x.tasks })).costEvent q.2

theorem State.modLife_engine (s : State) (a : Nat) (f : Life → Life) (e : Nat) : (s.modLife a f).engine e = s.engine e := rfl

theorem State.addTrain_engine (s : State) (sl : Nat) (q : RefEntry) (e : Nat) : (s.addTrain sl q).engine e = s.engine e := rfl

/-- What the task of an engine x publishes, and its digest (R156, R359). -/
def State.publish (s : State) (x : Engine) (r : Running) : State :=
  let pub := decide ((sget (fun _ => (0 : Word48)) x.outWin 3).toNat = 1)
  match r.owner with
  | .line => s.noteDigest r none
  | .axis a =>
    let sl := r.cycle + (s.axis a.val).law.sigma
    let q := x.refEntry a.val r.apply
    let s3 := s.noteDigest r (if pub then some q else none)
    if pub then
      let s4 := s3.modLife a.val (fun l =>
        { l with
          lastEnable := q.ctrl.getLsbD 4
          firstBrake := if decide (l.state = AxState.enabling) && l.firstBrake.isNone && q.ctrl.getLsbD 3 then some r.apply else l.firstBrake })
      if s4.sealPast sl then s4 else s4.addTrain sl q
    else s3

theorem State.endTask_eq (s : State) (e : Nat) (r : Running) :
    s.endTask e r = ((s.ended e r).publish (s.engine e) (s.stalled e r).2).takeRotation e := rfl

theorem State.ended_engine (s : State) (e : Nat) (r : Running) : ((s.ended e r).engine e).task = none
    ∧ ((s.ended e r).engine e).stores = (s.engine e).stores ∧ ((s.ended e r).engine e).tasks = inc32 (s.engine e).tasks
    ∧ ((s.ended e r).engine e).arith = (s.engine e).arith := by
  have hy : (s.ended e r).engine e = _ := State.costEvent_engine _ _ e
  rw [State.modEngine_eq, State.setEngine_self, State.recordTask_engine, State.stalled_engine] at hy
  rw [hy]
  exact ⟨rfl, rfl, rfl, rfl⟩

theorem State.publish_engine (s : State) (x : Engine) (r : Running) (e : Nat) : (s.publish x r).engine e = s.engine e := by
  unfold State.publish
  cases r.owner with
  | line => exact State.noteDigest_engine _ _ _ e
  | axis a =>
    dsimp only
    by_cases hpub : (sget (fun _ => (0 : Word48)) x.outWin 3).toNat = 1
    · rw [decide_eq_true hpub, if_pos rfl, if_pos rfl]
      generalize hd : s.noteDigest r _ = s3
      have h3 : s3.engine e = s.engine e := by rw [← hd, State.noteDigest_engine]
      generalize hm : s3.modLife a.val _ = s4
      have h4 : s4.engine e = s.engine e := by rw [← hm, State.modLife_engine, h3]
      by_cases hpast : s4.sealPast (r.cycle + (s.axis a.val).law.sigma) = true
      · rw [if_pos hpast, h4]
      · rw [if_neg hpast, State.addTrain_engine, h4]
    · rw [decide_eq_false hpub, if_neg Bool.false_ne_true, State.noteDigest_engine]

/-- END without a fault, as its engine shows it (R156, R170). -/
theorem State.endTask_leaves (s : State) (e : Nat) (r : Running) : ((s.endTask e r).engine e).task = none
    ∧ ((s.endTask e r).engine e).stores = (s.engine e).stores ∧ ((s.endTask e r).engine e).tasks = inc32 (s.engine e).tasks := by
  obtain ⟨htask, hstores, htasks, -⟩ := s.ended_engine e r
  rw [State.endTask_eq, State.takeRotation_engine, Engine.rotateNow_rest, State.publish_engine]
  exact ⟨htask, hstores, htasks⟩

/-- The state in which the task of a failing engine has ended (R174). -/
def State.failing (s : State) (e : Nat) : State :=
  match (s.engine e).task with
  | none => s
  | some r =>
    let q := (s.drain e).stalled e r
    (q.1.recordTask e q.2).modOwnerTask r.owner (fun t => { t with overruns := inc32 t.overruns })

/-- An engine that fails, for its cause (R174, R175). -/
def State.failed (s : State) (e cause : Nat) : State :=
  (s.failing e).modEngine e (fun x =>
    { x with failed := true, inService := false, rotated := false, rotWait := false, stores := []
             eccUnc := x.eccUnc || cause == 0 })

/-- The event of a failed engine, and the Endgame after a second one (R174). -/
def State.failNote (s : State) (e cause : Nat) : State :=
  if 2 ≤ ((List.range 8).filter (fun i => ((s.raise 0x0102 2 e [BitVec.ofNat 8 cause]).engine i).failed)).length
  then (s.raise 0x0102 2 e [BitVec.ofNat 8 cause]).fatal 0x01 else s.raise 0x0102 2 e [BitVec.ofNat 8 cause]

theorem State.engineFail_eq {s : State} {e : Nat} (h : (s.engine e).failed = false) (cause : Nat) :
    s.engineFail e cause = (s.failed e cause).failNote e cause :=
  if_neg (by rw [h]; exact Bool.false_ne_true)

@[simp] theorem State.failNote_eng (s : State) (e cause : Nat) : (s.failNote e cause).eng = s.eng := by
  unfold State.failNote
  split <;> simp

theorem State.engineFail_engine_eq {s : State} {e : Nat} (h : (s.engine e).failed = false) (cause : Nat) :
    (s.engineFail e cause).engine e = (s.failed e cause).engine e := by
  rw [State.engineFail_eq h cause]
  exact State.engine_congr (State.failNote_eng _ e cause) e

/-- A failure of an engine leaves it FAILED, out of service and without a task (R174, R175). -/
theorem State.engineFail_leaves {s : State} {e : Nat} (h : (s.engine e).failed = false) (cause : Nat) :
    ((s.engineFail e cause).engine e).task = none ∧ ((s.engineFail e cause).engine e).failed = true
      ∧ ((s.engineFail e cause).engine e).inService = false := by
  have hend : ((s.failing e).engine e).task = none := by
    unfold State.failing
    split
    · rename_i hnone; exact hnone
    · rw [State.modOwnerTask_engine, State.recordTask_engine]
  have hy : (s.engineFail e cause).engine e = _ := (State.engineFail_engine_eq h cause).trans (State.setEngine_self _ _ _)
  rw [hy]
  exact ⟨hend, rfl, rfl⟩

theorem exec_ceEnd_runs {s : State} {e : EngIx} {r : Running} (h : (s.engine e.val).task = some r) : exec (.ceEnd e) s = .next
    (if r.arith then
      ((s.drain e.val).modEngine e.val (fun x => { x with
        task := some { r with cycles := r.cycles + 1 + (s.engine e.val).stores.length } })).taskFault e.val 2 0 3
     else
      ((s.drain e.val).modEngine e.val (fun x => { x with
        task := some { r with cycles := r.cycles + 1 + (s.engine e.val).stores.length } })).endTask e.val
          { r with cycles := r.cycles + 1 + (s.engine e.val).stores.length }) := by
  simp only [exec_ceEnd, execCeEnd, h]

theorem exec_ceFence_runs {s : State} {e : EngIx} {r : Running} (h : (s.engine e.val).task = some r) : exec (.ceFence e) s
    = (s.drain e.val).engineStep e.val (1 + (s.engine e.val).stores.length) (fun _ x _ => .seq x) := by
  simp only [exec_ceFence, execCeFence, h]

theorem Engine.endBodies_pc_of_lc (ls : List LoopRec) (x y : Engine) (hpc : y.pc = x.pc) (hlc : y.lc = x.lc) :
    (y.endBodies ls).pc = (x.endBodies ls).pc := by
  induction ls generalizing x y with
  | nil => exact congrArg (· + 1) hpc
  | cons l ls ih =>
    have hcount : y.lcr l.lc.val = x.lcr l.lc.val := by rw [Engine.lcr, hlc, Engine.lcr]
    by_cases hend : x.pc = l.last
    · rw [Engine.endBodies_last x l ls hend, Engine.endBodies_last y l ls (hpc.trans hend), hcount]
      by_cases hn : x.lcr l.lc.val - 1 = 0
      · rw [if_pos hn, if_pos hn]
        exact ih _ _ hpc (by rw [Engine.setLc, hlc, Engine.setLc])
      · rw [if_neg hn, if_neg hn]
    · rw [show x.endBodies (l :: ls) = { x with loops := l :: ls, pc := x.pc + 1 } from if_neg hend,
        show y.endBodies (l :: ls) = { y with loops := l :: ls, pc := y.pc + 1 } from if_neg (hpc ▸ hend), hpc]

/-- Where the PC goes depends on the PC, the loops and their counters only. -/
theorem Engine.advance_of_loops (x y : Engine) (hpc : y.pc = x.pc) (hloops : y.loops = x.loops) (hlc : y.lc = x.lc) :
    y.advance.pc = x.advance.pc := by
  rw [Engine.advance, Engine.advance, hloops, Engine.endBodies_pc_of_lc x.loops x y hpc hlc]

theorem exec_engineWatchdog_runs {s : State} {e : EngIx} {r : Running} (h : (s.engine e.val).task = some r) :
    exec (.engineWatchdog e) s = .next (if s.parN 0x01050002 0 ≤ r.cycles then s.taskFault e.val 3 0 3 else s) := by
  have hi : exec (.engineWatchdog e) s = execEngineWatchdog e s := rfl
  simp only [hi, execEngineWatchdog, h]

/-- Settles O10: each end of a task by what its operation leaves of the engine. -/
theorem engineTaskEnds : Obligations.EngineTaskEnds := by
  unfold Obligations.EngineTaskEnds
  intro s e r code self h x stays
  refine ⟨?fence, ?ends, ?tflt, ?watchdog, ?inTime, ?fails⟩
  case fence =>
    have hdrain := s.drain_engine e.val
    have hruns : Runs (s.drain e.val) e.val r := by
      refine ⟨?_, ?_⟩
      · rw [hdrain]; exact h.1
      · rw [hdrain]; exact Nat.zero_le _
    have hexec : exec (.ceFence e) s = _ := exec_ceFence_runs h.1
    refine ⟨_, hexec.trans ((s.drain e.val).engineStep_onward e.val _ r r _ _ hruns rfl hruns.1 hruns.2), ?_⟩
    beta_reduce
    rw [Onward, State.setEngine_self]
    refine ⟨?_, ?_, ?_⟩
    · rw [Engine.advance_rest, hdrain]
    · exact Engine.advance_of_loops x _ (by rw [hdrain]) (by rw [hdrain]) (by rw [hdrain])
    · rw [Bool.or_self, ← Nat.add_assoc]
  case ends =>
    have hdrain := s.drain_engine e.val
    generalize hu : (s.drain e.val).modEngine e.val (fun x => { x with
      task := some { r with cycles := r.cycles + 1 + (s.engine e.val).stores.length } }) = u at *
    have hue : u.engine e.val = { (s.drain e.val).engine e.val with
        task := some { r with cycles := r.cycles + 1 + (s.engine e.val).stores.length } } := by
      rw [← hu]; exact State.setEngine_self _ _ _
    have hexec := exec_ceEnd_runs h.1
    rw [hu] at hexec
    cases ha : r.arith with
    | true =>
      obtain ⟨htask, hstores, harith, -⟩ := State.taskFault_leaves (s := u) (e := e.val) (by rw [hue]) 2 0 3
      refine ⟨_, hexec.trans (congrArg _ (if_pos ha)), htask, hstores, fun _ => harith.trans (by simp), nofun⟩
    | false =>
      obtain ⟨htask, hstores, htasks⟩ := u.endTask_leaves e.val { r with cycles := r.cycles + 1 + (s.engine e.val).stores.length }
      rw [hue, hdrain] at hstores htasks
      refine ⟨_, hexec.trans (congrArg _ (if_neg (by rw [ha]; exact Bool.false_ne_true))), htask, hstores, nofun, fun _ => htasks⟩
  case tflt =>
    obtain ⟨htask, -, -, -, hfree, hrot⟩ := State.taskFault_leaves h.1 4 code.toNat 3
    exact ⟨_, exec_taskFault_of_fault h exec_ceTflt rfl, htask, hfree, hrot⟩
  case watchdog =>
    intro hlate
    obtain ⟨htask, -, -, hdog, hfree, hrot⟩ := State.taskFault_leaves h.1 3 0 3
    refine ⟨_, (exec_engineWatchdog_runs h.1).trans (congrArg _ (if_pos hlate)), htask, hdog.trans (by simp), hfree, hrot⟩
  case inTime =>
    intro htime
    exact (exec_engineWatchdog_runs h.1).trans (congrArg _ (if_neg (Nat.not_le.mpr htime)))
  case fails =>
    intro hf
    exact ⟨_, rfl, State.engineFail_leaves hf _⟩

end Sys2Proof.Machine
end
section
/-! O40: rotation, self-test and scrubbing (R174, R473, R484, R485). -/

namespace Sys2Proof.Machine

open Sys2Proof.Claims

theorem exec_svcEngineRotate (c : CmdCtx) (engine : BitVec 8) (s : State) :
    exec (.svcEngineRotate c engine) s = execSvcEngineRotate c engine s := rfl

section RotateCommand

variable {s : State} {c : CmdCtx} {engine : BitVec 8} {st : Nat}

theorem exec_svcEngineRotate_badValue (hacts : Acts s c 0x0F01 3) (hwide : 8 ≤ engine.toNat) :
    Replies (.svcEngineRotate c engine) s c 0x0F01 0x0105 [] (s.takeUp c) :=
  (exec_host_takes (a := .refuse 0x0105 []) (exec_svcEngineRotate c engine s) hacts rfl (if_pos hwide) :)

theorem exec_svcEngineRotate_refused (hacts : Acts s c 0x0F01 3) (hix : engine.toNat < 8)
    (hst : (s.takeUp c).rotateRefusal engine.toNat = some st) : Replies (.svcEngineRotate c engine) s c 0x0F01 st [] (s.takeUp c) :=
  (exec_host_takes (a := .refuse st []) (exec_svcEngineRotate c engine s) hacts rfl
    (by simp only [if_neg (Nat.not_le.mpr hix), hst]) :)

theorem exec_svcEngineRotate_accepted (hacts : Acts s c 0x0F01 3) (hix : engine.toNat < 8)
    (hst : (s.takeUp c).rotateRefusal engine.toNat = none) (hmove : (s.takeUp c).twin.standby = false) :
    Replies (.svcEngineRotate c engine) s c 0x0F01 1 []
      { (s.takeUp c).beginRotation engine.toNat with
        boot := { ((s.takeUp c).beginRotation engine.toNat).boot with rotCtx := some c } } :=
  (exec_host_takes (a := .ok _ 1 []) (exec_svcEngineRotate c engine s) hacts rfl
    (by simp only [if_neg (Nat.not_le.mpr hix), hst, hmove, Bool.false_eq_true, if_false]; rfl) :)

theorem State.rotateRefusal_unlog (s : State) (c : CmdCtx) (op e : Nat) : (s.unlog c op).rotateRefusal e = s.rotateRefusal e := rfl

/-- The standby drops a logged rotation (R357, R484). -/
theorem exec_svcEngineRotate_follows (hix : engine.toNat < 8) (hst : (s.takeUp c).rotateRefusal engine.toNat = none)
    (hfollows : Follows (s.takeUp c) c 0x0F01) : Leaves (.svcEngineRotate c engine) s ((s.takeUp c).unlog c 0x0F01) := by
  obtain ⟨hstandby, hlogged⟩ := hfollows
  have hfree : ((s.takeUp c).unlog c 0x0F01).rotateRefusal engine.toNat = none := (State.rotateRefusal_unlog _ c _ _).trans hst
  have hstill : ((s.takeUp c).unlog c 0x0F01).twin.standby = true := hstandby
  rw [Leaves, exec_svcEngineRotate, execSvcEngineRotate, State.host_, State.command]
  rw [if_pos (by rw [hstandby, hlogged]; rfl)]
  simp only [if_neg (Nat.not_le.mpr hix), hfree, hstill, if_true]

end RotateCommand

/-- The engine after its self-test, which draws a free counter, and the answers that waited for it (R484). -/
def State.testEnded (s : State) (e : Nat) (pass : Bool) : State :=
  let s1 := s.modEngine e (fun x =>
    { x with rotated := false, inService := pass, scratch := [], scratchCtr := s.freeCtr + 1 })
  let s2 := (s1.useFree 1).raise 0x0105 0 e [BitVec.ofNat 8 (b2n (!pass))]
  let s3 := s2.cmdDone? s2.boot.rotCtx 0x0F01 e stDone
  { s3 with boot := { s3.boot with rotCtx := none } }

section SelfTest

variable {s : State} {e : EngIx} {pass : Bool}

theorem exec_rotationDone_due (hdone : (s.engine e.val).rotated = true ∧ (s.engine e.val).rotStart + 40000000 ≤ s.coreTicks) :
    exec (.rotationDone e pass) s
      = .next (if pass then s.testEnded e.val pass else (s.testEnded e.val pass).engineFail e.val 1) :=
  if_pos (by rw [hdone.1, decide_eq_true hdone.2]; rfl)

theorem exec_rotationDone_early (hdone : ¬ ((s.engine e.val).rotated = true ∧ (s.engine e.val).rotStart + 40000000 ≤ s.coreTicks)) :
    exec (.rotationDone e pass) s = .next s :=
  if_neg (by rwa [Bool.and_eq_true, decide_eq_true_iff])

theorem State.testEnded_engine (s : State) (e : Nat) (pass : Bool) : (s.testEnded e pass).engine e =
    { s.engine e with rotated := false, inService := pass, scratch := [], scratchCtr := s.freeCtr + 1 } := by
  have heng : (s.testEnded e pass).eng = (s.modEngine e (fun x =>
      { x with rotated := false, inService := pass, scratch := [], scratchCtr := s.freeCtr + 1 })).eng := by
    simp [State.testEnded]
  exact (State.engine_congr heng e).trans (State.setEngine_self _ _ _)

theorem State.testEnded_freeCtr (s : State) (e : Nat) (pass : Bool) : (s.testEnded e pass).freeCtr = s.freeCtr + 1 := by
  simp [State.testEnded, State.useFree]

end SelfTest

/-- Settles O40: the answers of SVC_ENGINE_ROTATE, the rotation by time, the self-test's end and the scrubber's rounds, each by the
branch of its command. -/
theorem engineService : Obligations.EngineService := by
  unfold Obligations.EngineService
  intro s c engine e pass corrected st doubles t x rot b auto due done period
  refine ⟨?badValue, ?refused, ?follows, ?accepted, ?due, ?early, ?passes, ?fails, ?rotating, ?scrubs, ?rests⟩
  case badValue => exact fun hwide hacts => exec_svcEngineRotate_badValue hacts hwide
  case refused => exact fun hix hst hacts => exec_svcEngineRotate_refused hacts hix hst
  case follows => exact fun hix hst hfollows => exec_svcEngineRotate_follows hix hst hfollows
  case accepted => exact fun hix hst hmove hacts => exec_svcEngineRotate_accepted hacts hix hst hmove
  case due =>
    rintro ⟨hready, hauto, htime⟩
    exact if_pos (by rw [hready, decide_eq_true hauto, decide_eq_true htime]; rfl)
  case early =>
    intro hnot
    exact if_neg (by rwa [Bool.and_eq_true, Bool.and_eq_true, decide_eq_true_iff, decide_eq_true_iff, and_assoc])
  case passes =>
    intro hdone hpass
    have hx := s.testEnded_engine e.val pass
    refine ⟨_, (exec_rotationDone_due hdone).trans (congrArg _ (if_pos hpass)), ?_⟩
    rw [hx]
    exact ⟨rfl, hpass, rfl, s.testEnded_freeCtr e.val pass, rfl⟩
  case fails =>
    intro hdone hpass hworks
    have hx : ((s.testEnded e.val pass).engine e.val).failed = false := by rw [State.testEnded_engine]; exact hworks
    obtain ⟨-, hfailed, hout⟩ := State.engineFail_leaves hx 1
    exact ⟨_, (exec_rotationDone_due hdone).trans (congrArg _ (if_neg (by rw [hpass]; exact Bool.false_ne_true))), hfailed, hout⟩
  case rotating => exact exec_rotationDone_early
  case scrubs => exact fun htime => if_pos (decide_eq_true htime)
  case rests => exact fun htime => if_neg (by rw [decide_eq_true_iff]; exact Nat.not_le.mpr htime)

end Sys2Proof.Machine
end
section
/-! O60, part 1: the memories of the device, and what keeps their canonical form (log 18, R168). -/

namespace Sys2Proof.Machine

open Sys2Proof.Claims

theorem swf_filter {α : Type} [DecidableEq α] (d : Nat → α) (p : Nat × α → Bool) (m : Sparse α) (lo : Nat) (w : swf d lo m = true) :
    swf d lo (m.filter p) = true := by
  induction m generalizing lo with
  | nil => rfl
  | cons x m ih =>
    obtain ⟨j, v⟩ := x
    simp only [swf, Bool.and_eq_true, decide_eq_true_eq] at w
    obtain ⟨⟨hj, hv⟩, hm⟩ := w
    have hrest := ih (j + 1) hm
    rw [List.filter_cons]
    split
    · simp only [swf, Bool.and_eq_true, decide_eq_true_eq]
      exact ⟨⟨hj, hv⟩, hrest⟩
    · exact swf_mono d _ lo (j + 1) (Nat.le_succ_of_le hj) hrest

theorem swf_foldl_sput {α β : Type} [DecidableEq α] (d : Nat → α) (i : β → Nat) (v : β → α) (l : List β) (m : Sparse α)
    (w : swf d 0 m = true) : swf d 0 (l.foldl (fun m x => sput d m (i x) (v x)) m) = true := by
  induction l generalizing m with
  | nil => exact w
  | cons x l ih => exact ih _ (swf_sput d m 0 _ _ (Nat.zero_le _) w)

theorem all_sput {α : Type} [DecidableEq α] (d : Nat → α) (p : α → Bool) (m : Sparse α) (k : Nat) (v : α) (hv : p v = true)
    (hm : m.all (fun q => p q.2) = true) : (sput d m k v).all (fun q => p q.2) = true := by
  induction m with
  | nil =>
    rw [sput]
    split
    · rfl
    · rw [List.all_cons, hv]; rfl
  | cons x m ih =>
    obtain ⟨j, w⟩ := x
    rw [List.all_cons, Bool.and_eq_true] at hm
    obtain ⟨hw, hrest⟩ := hm
    simp only [sput]
    split
    · split <;> simp only [List.all_cons, Bool.and_eq_true] <;> [exact ⟨hw, hrest⟩; exact ⟨hv, hw, hrest⟩]
    · split
      · split
        · exact hrest
        · rw [List.all_cons, Bool.and_eq_true]; exact ⟨hv, hrest⟩
      · rw [List.all_cons, Bool.and_eq_true]; exact ⟨hw, ih hrest⟩

theorem of_all_sget {α : Type} (d : Nat → α) (p : α → Bool) (m : Sparse α) (k : Nat) (hd : p (d k) = true)
    (hm : m.all (fun q => p q.2) = true) : p (sget d m k) = true := by
  induction m with
  | nil => exact hd
  | cons x m ih =>
    obtain ⟨j, w⟩ := x
    rw [List.all_cons, Bool.and_eq_true] at hm
    rw [sget]
    split
    · exact hd
    · split
      · exact hm.1
      · exact ih hm.2

/-- The memories of t are those of s. -/
@[simp] abbrev SameMemories (s t : State) : Prop :=
  t.eng.lineBlock = s.eng.lineBlock ∧ t.eng.context = s.eng.context ∧ t.eng.pool = s.eng.pool ∧ t.eng.segPool = s.eng.segPool
    ∧ t.eng.eng = s.eng.eng ∧ t.scs.trace = s.scs.trace ∧ t.boot.bankA = s.boot.bankA ∧ t.boot.bankB = s.boot.bankB ∧ t.params = s.params

/-- What has memories in canonical form in s has them in t, and so with the store buffers of at most four entries. -/
def Kept (s t : State) : Prop := (s.memWf = true → t.memWf = true) ∧ (s.storesWf = true → t.storesWf = true)

/-- Every state that a result leads to keeps what s has. -/
def Keeps (s : State) (r : Result) : Prop := ∀ t, r = .next t → Kept s t

/-- Every state that a host command's body answers keeps what s has. -/
def AnsKept (s : State) (a : Ans) : Prop :=
  match a with
  | .refuse _ _ => True
  | .ok t _ _ => Kept s t
  | .quiet t => Kept s t

section Kept

variable {s t u : State}

@[simp] theorem Kept.refl (s : State) : Kept s s := ⟨id, id⟩

theorem Kept.trans (h : Kept s t) (k : Kept t u) : Kept s u := ⟨k.1 ∘ h.1, k.2 ∘ h.2⟩

theorem Kept.foldl {β : Type} {f : State → β → State} (h : ∀ s x, Kept s (f s x)) (l : List β) (s : State) : Kept s (l.foldl f s) := by
  induction l generalizing s with
  | nil => exact Kept.refl s
  | cons x l ih => exact (h s x).trans (ih (f s x))

theorem Kept.ite {p : Prop} [Decidable p] (ht : Kept s t) (hu : Kept s u) : Kept s (if p then t else u) := by
  split
  · exact ht
  · exact hu

@[simp] theorem keeps_next : Keeps s (.next t) ↔ Kept s t :=
  ⟨fun h => h t rfl, fun h u hu => by cases hu; exact h⟩

@[simp] theorem ansKept_refuse {st : Nat} {d : List Byte} : AnsKept s (.refuse st d) ↔ True := Iff.rfl
@[simp] theorem ansKept_ok {st : Nat} {d : List Byte} : AnsKept s (.ok t st d) ↔ Kept s t := Iff.rfl
@[simp] theorem ansKept_quiet : AnsKept s (.quiet t) ↔ Kept s t := Iff.rfl

theorem Keeps.ite {p : Prop} [Decidable p] {q r : Result} (hq : Keeps s q) (hr : Keeps s r) : Keeps s (if p then q else r) := by
  split
  · exact hq
  · exact hr

theorem AnsKept.ite {p : Prop} [Decidable p] {a b : Ans} (ha : AnsKept s a) (hb : AnsKept s b) : AnsKept s (if p then a else b) := by
  split
  · exact ha
  · exact hb

/-- The memories are those of the engines, the trace memory, the two flash banks and the parameters. -/
theorem State.memWf_iff (s : State) : s.memWf = true ↔ s.eng.memWf = true ∧ swf (fun _ => 0) 0 s.scs.trace = true
    ∧ swf (fun _ => 0xFF) 0 s.boot.bankA.flash = true ∧ swf (fun _ => 0xFF) 0 s.boot.bankB.flash = true
    ∧ swf paramDefault 0 s.params = true := by
  simp only [State.memWf, Bool.and_eq_true, and_assoc]

theorem EngineSpace.memWf_iff (g : EngineSpace) : g.memWf = true ↔ swf (fun _ => 0) 0 g.lineBlock = true
    ∧ swf (fun _ => 0) 0 g.context = true ∧ swf (fun _ => 0) 0 g.pool = true ∧ swf (fun _ => 0) 0 g.segPool = true
    ∧ g.eng.all (fun p => p.2.memWf) = true := by
  simp only [EngineSpace.memWf, Bool.and_eq_true, and_assoc]

/-- What a step does to each of the memories by itself keeps them all. -/
theorem Kept.of_parts (heng : s.eng.memWf = true → t.eng.memWf = true) (hstores : s.storesWf = true → t.storesWf = true)
    (htrace : swf (fun _ => 0) 0 s.scs.trace = true → swf (fun _ => 0) 0 t.scs.trace = true)
    (hA : swf (fun _ => 0xFF) 0 s.boot.bankA.flash = true → swf (fun _ => 0xFF) 0 t.boot.bankA.flash = true)
    (hB : swf (fun _ => 0xFF) 0 s.boot.bankB.flash = true → swf (fun _ => 0xFF) 0 t.boot.bankB.flash = true)
    (hpar : swf paramDefault 0 s.params = true → swf paramDefault 0 t.params = true) : Kept s t := by
  refine ⟨fun h => ?_, hstores⟩
  obtain ⟨h1, h2, h3, h4, h5⟩ := s.memWf_iff.mp h
  exact t.memWf_iff.mpr ⟨heng h1, htrace h2, hA h3, hB h4, hpar h5⟩

/-- What changes none of the memories keeps them. -/
@[simp] theorem Kept.of_same (h : SameMemories s t) : Kept s t := by
  obtain ⟨hline, hctx, hpool, hseg, heng, htrace, hA, hB, hpar⟩ := h
  refine Kept.of_parts ?_ ?_ ?_ ?_ ?_ ?_
  · rw [EngineSpace.memWf, EngineSpace.memWf, hline, hctx, hpool, hseg, heng]; exact id
  · rw [State.storesWf, State.storesWf, heng]; exact id
  · rw [htrace]; exact id
  · rw [hA]; exact id
  · rw [hB]; exact id
  · rw [hpar]; exact id

/-- An operation that changes no memory, at the end of a chain. -/
theorem Kept.frame (f : State → State) (hf : ∀ t, SameMemories t (f t)) (h : Kept s t) : Kept s (f t) :=
  h.trans (Kept.of_same (hf t))

theorem kept_eng (g : EngineSpace) (hmem : s.eng.memWf = true → g.memWf = true)
    (hstores : s.storesWf = true → g.eng.all (fun p => decide (p.2.stores.length ≤ 4)) = true) : Kept s { s with eng := g } :=
  Kept.of_parts hmem hstores id id id id

theorem kept_params {m : Sparse Int} (hpar : swf paramDefault 0 s.params = true → swf paramDefault 0 m = true) :
    Kept s { s with params := m } :=
  Kept.of_parts id id id id id hpar

theorem State.withBoot_kept (s : State) {b : BootSt} (hA : b.bankA = s.boot.bankA) (hB : b.bankB = s.boot.bankB) :
    Kept s { s with boot := b } :=
  Kept.of_same ⟨rfl, rfl, rfl, rfl, rfl, rfl, hA, hB, rfl⟩

theorem State.withCyc_kept (s : State) (c : Cycle) : Kept s { s with cyc := c } :=
  Kept.of_same ⟨rfl, rfl, rfl, rfl, rfl, rfl, rfl, rfl, rfl⟩

theorem State.withHost_kept (s : State) (h : HostSt) : Kept s { s with host := h } :=
  Kept.of_same ⟨rfl, rfl, rfl, rfl, rfl, rfl, rfl, rfl, rfl⟩

theorem State.withSaf_kept (s : State) (x : Safety) : Kept s { s with saf := x } :=
  Kept.of_same ⟨rfl, rfl, rfl, rfl, rfl, rfl, rfl, rfl, rfl⟩

end Kept

section HostCommand

variable {body : State → Ans}

theorem State.takeUp_kept (s : State) (c : CmdCtx) : Kept s (s.takeUp c) := by
  rw [State.takeUp_rest]
  exact Kept.of_same ⟨rfl, rfl, rfl, rfl, rfl, rfl, rfl, rfl, rfl⟩

theorem State.reply_kept (s : State) (c : CmdCtx) (op st : Nat) (d : List Byte) : Kept s (s.reply c op st d) := by
  simp

theorem State.unlog_kept (s : State) (c : CmdCtx) (op : Nat) : Kept s (s.unlog c op) := Kept.of_same ⟨rfl, rfl, rfl, rfl, rfl, rfl, rfl, rfl, rfl⟩

theorem State.landLogged_kept {s s' : State} (c : CmdCtx) (k : Cmd) {fin : State → State} (hs' : Kept s s') (hfin : Kept s' (fin s')) :
    Kept s (s.landLogged s' c k fin) := by
  unfold State.landLogged
  split
  · split
    · simp
    · split
      · exact (hs'.trans hfin).trans (Kept.of_same ⟨rfl, rfl, rfl, rfl, rfl, rfl, rfl, rfl, rfl⟩)
      · exact Kept.refl s
  · exact hs'.trans hfin

/-- A host command keeps what its body keeps. -/
theorem State.command_kept (s : State) (c : CmdCtx) (k : Cmd) (lenOk : Bool) (hbody : ∀ t, AnsKept t (body t)) :
    Kept s (s.command c k lenOk body) := by
  refine (s.takeUp_kept c).trans ?_
  unfold State.command
  generalize s.takeUp c = t
  dsimp only
  split
  · have hb := hbody (t.unlog c k.op)
    refine (t.unlog_kept c k.op).trans ?_
    generalize body (t.unlog c k.op) = a at hb
    cases a with
    | refuse st d => exact Kept.refl _
    | ok t' st d => exact hb
    | quiet t' => exact hb
  split
  · simp
  split
  · exact t.reply_kept c k.op _ _
  split
  · exact t.reply_kept c k.op _ _
  split
  · exact t.reply_kept c k.op _ _
  split
  · exact t.reply_kept c k.op _ _
  split
  · exact t.reply_kept c k.op _ _
  have hb := hbody t
  generalize body t = a at hb
  cases a with
  | refuse st d => exact t.reply_kept c k.op _ _
  | ok t' st d => exact State.landLogged_kept c k hb (t'.reply_kept c k.op _ _)
  | quiet t' => exact State.landLogged_kept c k hb (Kept.refl t')

theorem State.hostCommand_keeps (s : State) (c : CmdCtx) (k : Cmd) (lenOk : Bool) (hbody : ∀ t, AnsKept t (body t)) :
    Keeps s (s.host_ c k lenOk body) :=
  keeps_next.mpr (s.command_kept c k lenOk hbody)

theorem State.holdCommand_kept (s : State) (c : CmdCtx) (i : Instr) : Kept s (s.holdCommand c i) :=
  (s.takeUp_kept c).trans (Kept.of_same ⟨rfl, rfl, rfl, rfl, rfl, rfl, rfl, rfl, rfl⟩)

theorem State.hostAt_keeps (s : State) (c : CmdCtx) (i : Instr) (k : Cmd) (lenOk : Bool) (hbody : ∀ t, AnsKept t (body t)) :
    Keeps s (s.hostAt c i k lenOk body) := by
  unfold State.hostAt
  split
  · exact keeps_next.mpr (s.holdCommand_kept c i)
  · exact s.hostCommand_keeps c k lenOk hbody

end HostCommand

end Sys2Proof.Machine
end
section
/-! O60, part 2: the operations that change no memory. -/

namespace Sys2Proof.Machine

@[simp] theorem State.modScs_scs (s : State) (f : Scs → Scs) : (s.modScs f).scs = f s.scs := rfl

@[simp] theorem State.modEngine_memories (s : State) (e : Nat) (f : Engine → Engine) : (s.modEngine e f).eng.lineBlock = s.eng.lineBlock
    ∧ (s.modEngine e f).eng.context = s.eng.context ∧ (s.modEngine e f).eng.pool = s.eng.pool
    ∧ (s.modEngine e f).eng.segPool = s.eng.segPool := ⟨rfl, rfl, rfl, rfl⟩

theorem SameMemories.trans {s t u : State} (h : SameMemories s t) (k : SameMemories t u) : SameMemories s u := by
  obtain ⟨h1, h2, h3, h4, h5, h6, h7, h8, h9⟩ := h
  obtain ⟨k1, k2, k3, k4, k5, k6, k7, k8, k9⟩ := k
  exact ⟨k1.trans h1, k2.trans h2, k3.trans h3, k4.trans h4, k5.trans h5, k6.trans h6, k7.trans h7, k8.trans h8, k9.trans h9⟩

@[simp] theorem SameMemories.foldl {β : Type} (f : State → β → State) (h : ∀ s x, SameMemories s (f s x)) (l : List β) (s : State) :
    SameMemories s (l.foldl f s) := by
  induction l generalizing s with
  | nil => simp
  | cons x l ih => exact (h s x).trans (ih (f s x))

@[simp] theorem SameMemories.foldl_fst {β γ : Type} (f : State × γ → β → State × γ) (h : ∀ p x, SameMemories p.1 (f p x).1) (l : List β)
    (p : State × γ) : SameMemories p.1 (l.foldl f p).1 := by
  induction l generalizing p with
  | nil => simp
  | cons x l ih => exact (h p x).trans (ih (f p x))

@[simp] theorem State.sendFrame_eng (s : State) (p : Nat) (bytes : List Byte) : (s.sendFrame p bytes).eng = s.eng := by
  simp [State.sendFrame]

@[simp] theorem State.sendAbort_eng (s : State) (p : Nat) (bytes : List Byte) : (s.sendAbort p bytes).eng = s.eng := by
  simp [State.sendAbort]

@[simp] theorem State.relay_eng (s0 : State) (f : RxFrame) : (s0.relay f).eng = s0.eng := by
  unfold State.relay
  dsimp only
  repeat' split
  all_goals simp

@[simp] theorem State.sendHead_eng (s : State) (n : Nat) (portB : Bool) (h : Hdr) (payload : List Byte) :
    (s.sendHead n portB h payload).eng = s.eng := by
  simp [State.sendHead]

@[simp] theorem State.replaceInTrain_same (s : State) (r : RefEntry) : SameMemories s (s.replaceInTrain r).1 := by
  unfold State.replaceInTrain
  dsimp only
  split <;> simp

@[simp] theorem State.taskEnded_same (s : State) (o : Owner) (cycle : Nat) : SameMemories s (s.taskEnded o cycle) := by
  unfold State.taskEnded
  split <;> simp

@[simp] theorem State.addTrain_same (s : State) (sl : Nat) (r : RefEntry) : SameMemories s (s.addTrain sl r) := by
  simp [State.addTrain]

@[simp] theorem State.noteDigest_same (s : State) (r : Running) (q : Option RefEntry) : SameMemories s (s.noteDigest r q) := by
  simp [State.noteDigest]

@[simp] theorem State.channelPFails_eng (s : State) : s.channelPFails.eng = s.eng := by
  simp [State.channelPFails]

@[simp] theorem State.setTrim_same (s : State) (level : Nat) : SameMemories s (s.setTrim level) := by
  simp [State.setTrim]

@[simp] theorem State.injectSaf_eng (s : State) : s.injectSaf.eng = s.eng := by
  unfold State.injectSaf
  dsimp only
  repeat' split
  all_goals simp

@[simp] theorem State.channelHFails_eng (s : State) : s.channelHFails.eng = s.eng := by
  simp [State.channelHFails]

@[simp] theorem State.islandDown_eng (s : State) : s.islandDown.eng = s.eng := by
  simp [State.islandDown]

@[simp] theorem State.makeReady_same (s : State) (o : Owner) (k sample : Nat) (isNew : Bool) (win : List Word48) :
    SameMemories s (s.makeReady o k sample isNew win) := by
  simp [State.makeReady]

@[simp] theorem State.releaseLine_same (s : State) (k : Nat) : SameMemories s (s.releaseLine k) := by
  simp [State.releaseLine]

@[simp] theorem State.sendSur_eng (s : State) (n : Nat) (portB : Bool) (op hop newAddr : Nat) (minislot : Nat) :
    (s.sendSur n portB op hop newAddr minislot).eng = s.eng := by
  simp [State.sendSur]

@[simp] theorem State.surveyNext_eng (s : State) (n : Nat) : (s.surveyNext n).eng = s.eng := by
  simp [State.surveyNext]

@[simp] theorem State.beginSurvey_eng (s : State) (n : Nat) : (s.beginSurvey n).eng = s.eng := by
  simp [State.beginSurvey]

@[simp] theorem State.loadSchedule_eng (s : State) (n act : Nat) : (s.loadSchedule n act).eng = s.eng := by
  simp [State.loadSchedule]

@[simp] theorem State.surveyEnds_eng (s : State) (n : Nat) : (s.surveyEnds n).eng = s.eng := by
  simp [State.surveyEnds]

@[simp] theorem State.sendDyn_eng (s : State) (n i : Nat) (m : DynMsg) : (s.sendDyn n i m).eng = s.eng := by
  simp [State.sendDyn]

@[simp] theorem State.surveyTake_eng (s : State) (n : Nat) (pl : List Byte) (rtt turn fwd : Nat) :
    (s.surveyTake n pl rtt turn fwd).eng = s.eng := by
  simp [State.surveyTake]

@[simp] theorem State.surveyOpen_eng (s : State) (n : Nat) : (s.surveyOpen n).eng = s.eng := by
  simp [State.surveyOpen]

@[simp] theorem State.openingDone_same (s : State) : SameMemories s s.openingDone := by
  simp [State.openingDone]

@[simp] theorem State.queueWrite_same (s : State) (rank index : Nat) (e : BitVec 64) : SameMemories s (s.queueWrite rank index e) := by
  simp [State.queueWrite]

@[simp] theorem State.capChannel_same (s : State) (c : Nat) : SameMemories s (s.capChannel c) := by
  unfold State.capChannel
  dsimp only
  split <;> simp

@[simp] theorem State.judgeUnit_same (s : State) (t : Int) (u : Nat) : SameMemories s (s.judgeUnit t u).1 := by
  unfold State.judgeUnit
  dsimp only
  repeat' split
  all_goals simp

@[simp] theorem State.judgeUnits_same (s : State) (t : Int) : SameMemories s (s.judgeUnits t).1 := by
  simp [State.judgeUnits]

@[simp] theorem State.fireRecord_same (s : State) (i kind : Nat) (t : Int) (mask : Nat) (forced : Bool) :
    SameMemories s (s.fireRecord i kind t mask forced) := by
  simp [State.fireRecord]

@[simp] theorem State.markPins_same (s : State) (event : Nat) : SameMemories s (s.markPins event) := by
  unfold State.markPins
  exact SameMemories.foldl _ (fun t p => by split <;> simp) _ s

@[simp] theorem State.capture_same (s : State) (t : Int) (mask : Nat) (forced : Bool) : SameMemories s (s.capture t mask forced) := by
  simp [State.capture]

@[simp] theorem State.actFires_same (s : State) (t : Int) (hits : List Nat) : SameMemories s (s.actFires t hits) := by
  unfold State.actFires
  dsimp only
  repeat' split
  all_goals simp

@[simp] theorem State.sealDigests_same (s : State) (k : Nat) : SameMemories s (s.sealDigests k) := by
  unfold State.sealDigests
  repeat' split
  all_goals simp

@[simp] theorem State.closeTrain_same (s : State) (k : Nat) : SameMemories s (s.closeTrain k) := by
  simp [State.closeTrain]

@[simp] theorem State.sendTrain_eng (s : State) (n : Nat) (h : Hdr) (pl : List Byte) : (s.sendTrain n h pl).eng = s.eng := by
  simp [State.sendTrain]

@[simp] theorem State.sendCsf_eng (s : State) (n : Nat) : (s.sendCsf n).eng = s.eng := by
  simp [State.sendCsf]

@[simp] theorem State.runFrame_eng (s : State) (n kind : Nat) (p : Nat) (pl : List Byte) : (s.runFrame n kind p pl).1.eng = s.eng := by
  simp [State.runFrame]

@[simp] theorem State.runSup_eng (s : State) (n p : Nat) (q : Bool × List Byte) : (s.runSup n p q).1.eng = s.eng := by
  simp [State.runSup]

@[simp] theorem State.runSups_eng (s : State) (n k p : Nat) : (s.runSups n k p).eng = s.eng := by
  induction k generalizing s p with
  | zero => rfl
  | succ k ih =>
    unfold State.runSups
    split
    · rfl
    · split
      · simp [ih]
      · rfl

@[simp] theorem State.runSch_eng (s0 : State) (n p : Nat) : (s0.runSch n p).1.eng = s0.eng := by
  unfold State.runSch
  dsimp only
  repeat' split
  all_goals simp

@[simp] theorem State.headRun_eng (s : State) (n : Nat) : (s.headRun n).eng = s.eng := by
  simp [State.headRun]

@[simp] theorem State.sendExchanges_eng (s : State) (n : Nat) : (s.sendExchanges n).eng = s.eng := by
  simp [State.sendExchanges]

@[simp] theorem State.cycleStops_eng (s : State) : s.cycleStops.eng = s.eng := by
  simp [State.cycleStops]

@[simp] theorem State.headSend_eng (s : State) : s.headSend.eng = s.eng := by
  simp [State.headSend]

@[simp] theorem State.rejoin_eng (s : State) : s.rejoin.eng = s.eng := by
  simp [State.rejoin]

@[simp] theorem State.takeHealth_eng (s : State) (m : HealthMsg) : (s.takeHealth m).eng = s.eng := by
  simp [State.takeHealth]

@[simp] theorem State.declareSilent_eng (s : State) (reason : Nat) : (s.declareSilent reason).eng = s.eng := by
  simp [State.declareSilent]

@[simp] theorem State.takeHead_same (s : State) (w : Swap) : SameMemories s (s.takeHead w) := by
  simp [State.takeHead]

@[simp] theorem State.releaseRemote_same (s : State) (a k : Nat) (isNew : Bool) : SameMemories s (s.releaseRemote a k isNew) := by
  unfold State.releaseRemote
  dsimp only
  repeat' split
  all_goals simp

@[simp] theorem State.releaseLocal_same (s : State) (a k : Nat) (isNew : Bool) (fb : List Word48) :
    SameMemories s (s.releaseLocal a k isNew fb) := by
  simp [State.releaseLocal]

@[simp] theorem State.releaseLineTwin_same (s : State) (k : Nat) (isNew : Bool) (fb : List Word48) :
    SameMemories s (s.releaseLineTwin k isNew fb) := by
  simp [State.releaseLineTwin]

@[simp] theorem State.dropCommands_same (s : State) (i : Nat) : SameMemories s (s.dropCommands i) := by
  simp [State.dropCommands]

@[simp] theorem State.closeSession_same (s : State) (i : Nat) : SameMemories s (s.closeSession i) := by
  simp [State.closeSession]

@[simp] theorem State.closeWhere_same (s : State) (f : HostSource → Bool) : SameMemories s (s.closeWhere f) := by
  unfold State.closeWhere
  exact SameMemories.foldl _ (fun t i => by split <;> simp) _ s

@[simp] theorem State.loadMoves_same (s : State) (l : List MoveEntry) : SameMemories s (s.loadMoves l) := by
  unfold State.loadMoves
  exact SameMemories.foldl _ (fun t e => by split <;> simp) l s


@[simp] theorem State.enterRecovery_same (s : State) (keysA keysB : List KeySlot) : SameMemories s (s.enterRecovery keysA keysB) := by
  simp [State.enterRecovery]

end Sys2Proof.Machine
end
section
/-! O60, part 3: the commands that change no memory keep every memory. -/

namespace Sys2Proof.Machine

@[simp] theorem keeps_whenB {s t u : State} (b : Bool) : Keeps s (whenB b t u) ↔ (b = false → Kept s t) ∧ (b = true → Kept s u) := by
  cases b with
  | false => exact keeps_next.trans ⟨fun h => ⟨fun _ => h, nofun⟩, fun h => h.1 rfl⟩
  | true => exact keeps_next.trans ⟨fun h => ⟨nofun, fun _ => h⟩, fun h => h.2 rfl⟩

@[simp] theorem State.answerEnables_kept (s : State) (a : Nat) : Kept s (s.answerEnables a) := by
  unfold State.answerEnables
  refine Kept.trans (t := s.modLife a _) ?_ (Kept.foldl (fun t w => ?_) _ _)
  · simp
  · repeat' split
    all_goals simp

@[simp] theorem State.askStart_kept (s : State) (c : CmdCtx) (a : Nat) (kind : ReqKind) : AnsKept s (s.askStart c a kind) := by
  unfold State.askStart
  dsimp only
  split <;> simp

@[simp] theorem State.statusWrite_keeps (s : State) (c : CmdCtx) (id value : Nat) : Keeps s (s.statusWrite c id value) :=
  State.hostCommand_keeps _ _ _ _ (fun t => by simp)

/-- A message of a node keeps what its effect keeps (R76). -/
theorem State.takeDyn_keeps {g : State → Nat → Nat → List Byte → State} (hg : ∀ t n src pl, Kept t (g t n src pl)) (s : State)
    (f : RxFrame) (msg : Nat) : Keeps s (s.takeDyn f msg g) := by
  unfold State.takeDyn
  dsimp only
  generalize (s.relay f).judgeDyn f = v
  generalize hu : ((s.relay f).countDyn f v).noteLoop f = u
  have hsu : Kept s u := by rw [← hu]; simp
  split
  · refine keeps_next.mpr (hsu.trans (Kept.ite ?_ (Kept.refl u)))
    refine Kept.ite (hg u _ _ _) ?_
    split
    · refine Kept.trans ?_ (hg (u.modSeg _ _) _ _ _)
      simp
    · simp
  · exact keeps_next.mpr hsu

/-- A message over the twin link keeps what its effect keeps. -/
theorem State.twinTake_keeps {g : State → State} (hg : ∀ t, Kept t (g t)) (s : State) (env : TwinEnv) : Keeps s (s.twinTake env g) := by
  unfold State.twinTake
  split
  · simp
  split
  · simp
  dsimp only
  split
  · refine keeps_next.mpr (Kept.trans ?_ (hg _))
    simp
  · simp

end Sys2Proof.Machine
end
section
/-! O60, part 4: the operations that write the shared memories of the engines and the parameters. -/

namespace Sys2Proof.Machine

section Shared

variable (s : State)

theorem State.lineBlock_kept {m : Sparse Word48} (h : swf (fun _ => 0) 0 s.eng.lineBlock = true → swf (fun _ => 0) 0 m = true) :
    Kept s { s with eng := { s.eng with lineBlock := m } } := by
  refine kept_eng _ (fun hs => ?_) id
  obtain ⟨hline, hctx, hpool, hseg, heng⟩ := s.eng.memWf_iff.mp hs
  exact (EngineSpace.memWf_iff _).mpr ⟨h hline, hctx, hpool, hseg, heng⟩

theorem State.context_kept {m : Sparse Word48} (h : swf (fun _ => 0) 0 s.eng.context = true → swf (fun _ => 0) 0 m = true) :
    Kept s { s with eng := { s.eng with context := m } } := by
  refine kept_eng _ (fun hs => ?_) id
  obtain ⟨hline, hctx, hpool, hseg, heng⟩ := s.eng.memWf_iff.mp hs
  exact (EngineSpace.memWf_iff _).mpr ⟨hline, h hctx, hpool, hseg, heng⟩

theorem State.pool_kept {m : Sparse Word48} (h : swf (fun _ => 0) 0 s.eng.pool = true → swf (fun _ => 0) 0 m = true) :
    Kept s { s with eng := { s.eng with pool := m } } := by
  refine kept_eng _ (fun hs => ?_) id
  obtain ⟨hline, hctx, hpool, hseg, heng⟩ := s.eng.memWf_iff.mp hs
  exact (EngineSpace.memWf_iff _).mpr ⟨hline, hctx, h hpool, hseg, heng⟩

theorem State.segPool_kept {m : Sparse Word48} (h : swf (fun _ => 0) 0 s.eng.segPool = true → swf (fun _ => 0) 0 m = true) :
    Kept s { s with eng := { s.eng with segPool := m } } := by
  refine kept_eng _ (fun hs => ?_) id
  obtain ⟨hline, hctx, hpool, hseg, heng⟩ := s.eng.memWf_iff.mp hs
  exact (EngineSpace.memWf_iff _).mpr ⟨hline, hctx, hpool, h hseg, heng⟩

@[simp] theorem State.setCtx_kept (a off : Nat) (v : Int) : Kept s (s.setCtx a off v) :=
  s.context_kept (swf_sput _ _ 0 _ _ (Nat.zero_le _))

@[simp] theorem State.setCtxs_kept (a off : Nat) (vs : List Int) : Kept s (s.setCtxs a off vs) := by
  induction vs generalizing s off with
  | nil => exact Kept.refl s
  | cons v vs ih => exact (s.setCtx_kept a off v).trans (ih _ _)

@[simp] theorem State.setUHist_kept (a c : Nat) (v : Int) : Kept s (s.setUHist a c v) := s.setCtx_kept a _ v
@[simp] theorem State.setRHist_kept (a c : Nat) (v : Int) : Kept s (s.setRHist a c v) := s.setCtx_kept a _ v

@[simp] theorem State.setBin_kept (a i : Nat) (v : Int) : Kept s (s.setBin a i v) :=
  s.pool_kept (swf_sput _ _ 0 _ _ (Nat.zero_le _))

@[simp] theorem State.putPvt_kept (i : Nat) (g : PvtSeg) : Kept s (s.putPvt i g) :=
  s.segPool_kept (swf_sputs _ _ _ _)

@[simp] theorem State.putSegs_kept (first : Nat) (gs : List SegVal) : Kept s (s.putSegs first gs) :=
  Kept.foldl (fun t p => t.putPvt_kept _ _) _ s

@[simp] theorem State.setPar_kept (id : Nat) (v : Int) : Kept s (s.setPar id v) :=
  kept_params (swf_sput _ _ 0 _ _ (Nat.zero_le _))

end Shared

/-! The learner's tables (R151, R152). -/

section Learner

variable (s : State) (a : Nat)

@[simp] theorem State.swapTable_kept : Kept s (s.swapTable a) := by
  unfold State.swapTable
  dsimp only
  split
  · exact Kept.refl s
  · exact (s.pool_kept (swf_filter _ _ _ 0)).trans (Kept.of_same ⟨rfl, rfl, rfl, rfl, rfl, rfl, rfl, rfl, rfl⟩)

@[simp] theorem State.changeTable_kept (t : Nat × Nat) : Kept s (s.changeTable a t) := by
  unfold State.changeTable
  refine Kept.trans (t := s.modLaw a _) (by simp) (Kept.ite (Kept.refl _) (State.swapTable_kept _ a))

@[simp] theorem State.configLearner_kept (clear : Bool) : Kept s (s.configLearner a clear) := by
  unfold State.configLearner
  dsimp only
  generalize (if s.parN 0x04000150 a = 1 then _ else _ : Nat) = bins
  split
  · exact Kept.refl s
  · split
    · exact s.changeTable_kept a _
    · exact s.changeTable_kept a _

@[simp] theorem State.clearLearner_kept : Kept s (s.clearLearner a) := s.changeTable_kept a _

@[simp] theorem State.lrnUpdate_kept (n : Nat) (fe : Int) : Kept s (s.lrnUpdate a n fe) := s.setBin_kept a _ _

end Learner

/-! The axis laws (R145 to R150). -/

section Laws

variable (s : State) (a : Nat)

@[simp] theorem State.moveOrigin_kept (np d : Nat) (ra : Int) : Kept s (s.moveOrigin a np d ra) := by
  unfold State.moveOrigin
  dsimp only
  split
  · exact ((s.setCtx_kept a _ _).trans (State.setCtx_kept _ a _ _)).trans (Kept.foldl (fun t j => t.setCtx_kept a _ _) _ _)
  · exact Kept.refl s

theorem State.lawSats_kept (moves adds : List Bool) : Kept s (s.lawSats a moves adds) := by simp

@[simp] theorem State.sf8_kept (k : Nat) (isNew : Bool) (fpos ra va acca : Int) : Kept s (s.sf8 a k isNew fpos ra va acca).1 := by
  unfold State.sf8
  refine Kept.trans ?_ (State.setCtx_kept _ a _ _)
  refine Kept.trans ?_ (State.lawSats_kept _ a _ _)
  exact ((s.moveOrigin_kept a _ _ ra).trans (State.setCtxs_kept _ a _ _)).trans (State.setCtxs_kept _ a _ _)

@[simp] theorem State.cfSection_kept (i : Nat) (x : Int) : Kept s (s.cfSection a i x).1 :=
  (s.setCtxs_kept a _ _).trans (State.setCtxs_kept _ a _ _)

theorem Kept.foldl_fst {β γ : Type} {f : State × γ → β → State × γ} (h : ∀ p x, Kept p.1 (f p x).1) (l : List β) (p : State × γ) :
    Kept p.1 (l.foldl f p).1 := by
  induction l generalizing p with
  | nil => exact Kept.refl p.1
  | cons x l ih => exact (h p x).trans (ih (f p x))

@[simp] theorem State.cf4_kept (k : Nat) (va acca : Int) : Kept s (s.cf4 a k va acca).1 := by
  unfold State.cf4
  split
  · exact s.setCtx_kept a _ _
  · refine Kept.trans ?_ (State.setCtx_kept _ a _ _)
    refine Kept.trans ?_ (State.lawSats_kept _ a _ _)
    exact Kept.foldl_fst (fun p i => p.1.cfSection_kept a i p.2) _ (s, _)

end Laws

end Sys2Proof.Machine
end
section
/-! O60, part 5: the engines' memories and store buffers under the operations of an engine. -/

namespace Sys2Proof.Machine

/-- The memories of engine y, and its store buffer, are those of x. -/
@[simp] abbrev SameEngine (x y : Engine) : Prop :=
  y.scratch = x.scratch ∧ y.scratchCtr = x.scratchCtr ∧ y.consts = x.consts ∧ y.prog = x.prog ∧ y.taskWin = x.taskWin
    ∧ y.fbWin = x.fbWin ∧ y.outWin = x.outWin ∧ y.stores = x.stores

theorem Engine.memWf_iff (x : Engine) : x.memWf = true ↔ swf (scratchDefault x.scratchCtr) 0 x.scratch = true
    ∧ swf (fun _ => 0) 0 x.consts = true ∧ swf (fun _ => 0) 0 x.prog = true ∧ swf (fun _ => 0) 0 x.taskWin = true
    ∧ swf (fun _ => 0) 0 x.fbWin = true ∧ swf (fun _ => 0) 0 x.outWin = true := by
  simp only [Engine.memWf, Bool.and_eq_true, and_assoc]

theorem swf_listWin (ws : List Word48) : swf (fun _ => (0 : Word48)) 0 (listWin ws) = true := swf_sputs _ _ _ _ rfl

section Engine

variable {s t : State} {e : Nat}

theorem Engine.memWf_of_state (s : State) (e : Nat) (h : s.eng.memWf = true) : (s.engine e).memWf = true :=
  of_all_sget _ Engine.memWf _ _ rfl ((EngineSpace.memWf_iff _).mp h).2.2.2.2

theorem Engine.stores_of_state (s : State) (e : Nat) (h : s.storesWf = true) : (s.engine e).stores.length ≤ 4 :=
  of_decide_eq_true (of_all_sget _ (fun x : Engine => decide (x.stores.length ≤ 4)) _ _ rfl h)

/-- A write of an engine keeps the memories of the device when it keeps the engine's. -/
theorem State.setEngine_kept (e : Nat) {x : Engine} (hmem : (s.engine e).memWf = true → x.memWf = true)
    (hstores : (s.engine e).stores.length ≤ 4 → x.stores.length ≤ 4) : Kept s (s.setEngine e x) := by
  refine kept_eng _ (fun hs => ?_) (fun hs => ?_)
  · obtain ⟨hline, hctx, hpool, hseg, heng⟩ := s.eng.memWf_iff.mp hs
    exact (EngineSpace.memWf_iff _).mpr ⟨hline, hctx, hpool, hseg,
      all_sput _ Engine.memWf _ _ _ (hmem (Engine.memWf_of_state s e hs)) heng⟩
  · exact all_sput _ (fun x : Engine => decide (x.stores.length ≤ 4)) _ _ _ (decide_eq_true (hstores (Engine.stores_of_state s e hs))) hs

/-- A write of an engine's registers and flags keeps every memory. -/
@[simp] theorem State.setEngine_kept_of_same {x : Engine} (h : SameEngine (s.engine e) x) : Kept s (s.setEngine e x) := by
  obtain ⟨hscratch, hctr, hconsts, hprog, htask, hfb, hout, hstores⟩ := h
  refine State.setEngine_kept e ?_ ?_
  · rw [Engine.memWf, Engine.memWf, hscratch, hctr, hconsts, hprog, htask, hfb, hout]; exact id
  · rw [hstores]; exact id

end Engine

section Stores

variable (s : State) (e : Nat)

@[simp] theorem State.writeWord_kept (addr : Nat) (v : Word48) : Kept s (s.writeWord e addr v) := by
  rcases State.writeWord_cases e addr v with h | h | h | h | h | h | h <;> rw [h]
  · refine State.setEngine_kept e (fun hx => ?_) id
    obtain ⟨hscratch, hrest⟩ := (Engine.memWf_iff _).mp hx
    exact (Engine.memWf_iff _).mpr ⟨swf_sput _ _ 0 _ _ (Nat.zero_le _) hscratch, hrest⟩
  · refine State.setEngine_kept e (fun hx => ?_) id
    obtain ⟨hscratch, hconsts, hprog, htask, hfb, hout⟩ := (Engine.memWf_iff _).mp hx
    exact (Engine.memWf_iff _).mpr ⟨hscratch, hconsts, hprog, htask, hfb, swf_sput _ _ 0 _ _ (Nat.zero_le _) hout⟩
  · exact s.lineBlock_kept (swf_sput _ _ 0 _ _ (Nat.zero_le _))
  · simp
  · exact s.context_kept (swf_sput _ _ 0 _ _ (Nat.zero_le _))
  · exact s.pool_kept (swf_sput _ _ 0 _ _ (Nat.zero_le _))
  · exact Kept.refl s

@[simp] theorem State.retire_kept (k : Nat) : Kept s (s.retire e k) := by
  induction k generalizing s with
  | zero => exact Kept.refl s
  | succ k ih =>
    unfold State.retire
    split
    · exact Kept.refl s
    · rename_i addr v rest hstores
      have hpop : Kept s (s.modEngine e (fun x => { x with stores := rest })) := by
        refine State.setEngine_kept e id (fun h => ?_)
        rw [hstores] at h
        exact Nat.le_of_succ_le h
      exact hpop.trans ((State.writeWord_kept _ e addr v).trans (ih _))

@[simp] theorem State.drain_kept : Kept s (s.drain e) := s.retire_kept e _

@[simp] theorem State.writeWords_kept (ws : List (Nat × Word48)) : Kept s (s.writeWords e ws) :=
  Kept.foldl (fun t w => t.writeWord_kept e _ _) ws s

end Stores

/-! The ends of a task (R156, R174 to R177). -/

section Tasks

variable (s : State) (e : Nat)

theorem State.modEngine_kept {f : Engine → Engine} (h : SameEngine (s.engine e) (f (s.engine e))) : Kept s (s.modEngine e f) :=
  State.setEngine_kept_of_same h

@[simp] theorem State.stalled_kept (r : Running) : Kept s (s.stalled e r).1 :=
  Kept.frame (State.useFree · 1) (by simp) (s.modEngine_kept e (by simp))

@[simp] theorem State.recordTask_kept (r : Running) : Kept s (s.recordTask e r) := by
  unfold State.recordTask
  refine Kept.frame (State.taskEnded · _ _) (by simp) ?_
  refine Kept.trans ?_ (State.modEngine_kept _ e (by simp))
  exact Kept.frame (State.modOwnerTask · _ _) (by simp) (Kept.refl s)

@[simp] theorem State.takeRotation_kept : Kept s (s.takeRotation e) := by
  unfold State.takeRotation
  split <;> simp

@[simp] theorem State.beginRotation_kept : Kept s (s.beginRotation e) := by
  refine s.modEngine_kept e ?_
  split <;> simp

/-- What a fault of a task does to its engine. -/
theorem State.faulted_kept (cause : Nat) (r : Running) : Kept s (s.faulted e cause r) := by
  unfold State.faulted
  refine Kept.frame (State.costEvent · _) (by simp) ?_
  refine Kept.frame (State.modOwnerTask · _ _) (by simp) ?_
  refine Kept.trans ?_ (State.recordTask_kept _ e _)
  refine Kept.trans ?_ (State.modEngine_kept _ e (by simp))
  exact (s.drain_kept e).trans (State.stalled_kept _ e r)

@[simp] theorem State.taskFault_kept (cause code axCause : Nat) : Kept s (s.taskFault e cause code axCause) := by
  unfold State.taskFault
  split
  · exact Kept.refl s
  · rename_i r _
    have hfault := (s.faulted_kept e cause r).trans (State.takeRotation_kept _ e)
    dsimp only
    split
    · exact hfault.trans (by simp [State.faulted])
    · exact hfault.trans (by simp [State.faulted])

@[simp] theorem State.failing_kept : Kept s (s.failing e) := by
  unfold State.failing
  split
  · exact Kept.refl s
  · refine Kept.frame (State.modOwnerTask · _ _) (by simp) ?_
    exact ((s.drain_kept e).trans (State.stalled_kept _ e _)).trans (State.recordTask_kept _ e _)

@[simp] theorem State.engineFail_kept (cause : Nat) : Kept s (s.engineFail e cause) := by
  cases hf : (s.engine e).failed with
  | true => rw [State.engineFail, if_pos hf]; exact Kept.refl s
  | false =>
    rw [State.engineFail_eq hf]
    refine Kept.frame (State.failNote · e cause) (by simp [State.failNote]) ?_
    refine (s.failing_kept e).trans (State.setEngine_kept e id (fun _ => Nat.zero_le 4))

@[simp] theorem State.ended_kept (r : Running) : Kept s (s.ended e r) := by
  unfold State.ended
  refine Kept.frame (State.costEvent · _) (by simp) ?_
  refine Kept.trans ?_ (State.modEngine_kept _ e (by simp))
  exact (s.stalled_kept e r).trans (State.recordTask_kept _ e _)

theorem State.publish_same (x : Engine) (r : Running) : SameMemories s (s.publish x r) := by
  unfold State.publish
  dsimp only
  repeat' split
  all_goals simp

@[simp] theorem State.endTask_kept (r : Running) : Kept s (s.endTask e r) := by
  rw [State.endTask_eq]
  refine Kept.trans ?_ (State.takeRotation_kept _ e)
  exact Kept.frame (State.publish · _ _) (fun t => t.publish_same _ _) (s.ended_kept e r)

@[simp] theorem State.takeBusy_kept : Kept s s.takeBusy := Kept.foldl (fun t i => t.modEngine_kept i (by simp)) _ s

end Tasks

end Sys2Proof.Machine
end
section
/-! O60, part 6: the engine instructions keep every memory (Table ENG-12). -/

namespace Sys2Proof.Machine

/-- The own memories of an engine (Table ENG-4). -/
structure EngineMem where
  scratch : Sparse Word48
  scratchCtr : Nat
  consts : Sparse Word48
  prog : Sparse (BitVec 64)
  taskWin : Sparse Word48
  fbWin : Sparse Word48
  outWin : Sparse Word48

def Engine.mem (x : Engine) : EngineMem :=
  { scratch := x.scratch, scratchCtr := x.scratchCtr, consts := x.consts, prog := x.prog, taskWin := x.taskWin, fbWin := x.fbWin
    outWin := x.outWin }

theorem Engine.memWf_of_mem {x y : Engine} (h : y.mem = x.mem) (hx : x.memWf = true) : y.memWf = true := by
  obtain ⟨hscratch, hctr, hconsts, hprog, htask, hfb, hout⟩ := EngineMem.mk.inj h
  rw [Engine.memWf, hscratch, hctr, hconsts, hprog, htask, hfb, hout]
  exact hx

section Registers

variable (x : Engine)

@[simp] theorem Engine.setX_mem (i : Nat) (v : Word48) : (x.setX i v).mem = x.mem := rfl
@[simp] theorem Engine.setA_mem (i : Nat) (v : BitVec 20) : (x.setA i v).mem = x.mem := rfl
@[simp] theorem Engine.setO_mem (i : Nat) (v : BitVec 20) : (x.setO i v).mem = x.mem := rfl
@[simp] theorem Engine.setLc_mem (i : Nat) (v : BitVec 16) : (x.setLc i v).mem = x.mem := rfl
@[simp] theorem Engine.setScl_mem (i : Nat) (v : BitVec 6) : (x.setScl i v).mem = x.mem := rfl
@[simp] theorem Engine.setAcc_mem (i : Nat) (v : Acc) : (x.setAcc i v).mem = x.mem := rfl
@[simp] theorem Engine.setZN_mem (v : Word48) : (x.setZN v).mem = x.mem := rfl
@[simp] theorem Engine.setZNV_mem (v : Word48) (t : Int) : (x.setZNV v t).mem = x.mem := rfl
@[simp] theorem Engine.goto_mem (t : BitVec 13) : (x.goto t).mem = x.mem := rfl

@[simp] theorem Engine.stick_mem (i : Nat) (b : Bool) : (x.stick i b).mem = x.mem := by
  unfold Engine.stick
  split <;> rfl

@[simp] theorem Engine.postMod_mem (a o : Nat) (pm : Bool) : (x.postMod a o pm).mem = x.mem := by
  unfold Engine.postMod
  split <;> rfl

@[simp] theorem Engine.arithFault_mem (b : Bool) : (x.arithFault b).mem = x.mem := by
  unfold Engine.arithFault
  split <;> rfl

@[simp] theorem Engine.setXs_mem (d : Nat) (vs : List Word48) : (x.setXs d vs).mem = x.mem := by
  induction vs generalizing x d with
  | nil => rfl
  | cons v vs ih => exact ih (x.setX d v) (d + 1)

@[simp] theorem Engine.moveOut_mem (i d sh : Nat) (auto : Bool) : (x.moveOut i d sh auto).mem = x.mem := by
  simp [Engine.moveOut]

@[simp] theorem Engine.advance_mem : x.advance.mem = x.mem := by
  rw [Engine.advance_rest]
  rfl

theorem Engine.foldl_mem {β : Type} {f : Engine → β → Engine} (h : ∀ y b, (f y b).mem = y.mem) (l : List β) : (l.foldl f x).mem = x.mem := by
  induction l generalizing x with
  | nil => rfl
  | cons b l ih => exact (ih (f x b)).trans (h x b)

theorem Engine.writeSpr_mem {y : Engine} {n : Nat} {v : Word48} (h : x.writeSpr n v = some y) : y.mem = x.mem := by
  unfold Engine.writeSpr at h
  repeat' split at h
  all_goals cases h
  all_goals rfl

end Registers

/-- An instruction that goes on leaves the engine's memories to the store buffer. -/
def EngOut.Keeps (x : Engine) (o : EngOut) : Prop :=
  match o with
  | .go y _ _ => y.mem = x.mem
  | .fault _ _ _ => True
  | .failed => True

section Out

variable {x : Engine}

@[simp] theorem EngOut.keeps_go {y : Engine} {pc : Option (BitVec 13)} {w : List (Nat × Word48)} :
    EngOut.Keeps x (.go y pc w) ↔ y.mem = x.mem := Iff.rfl
@[simp] theorem EngOut.keeps_seq {y : Engine} : EngOut.Keeps x (.seq y) ↔ y.mem = x.mem := Iff.rfl
@[simp] theorem EngOut.keeps_fault {c code ax : Nat} : EngOut.Keeps x (.fault c code ax) := trivial
@[simp] theorem EngOut.keeps_illegal : EngOut.Keeps x .illegal := trivial
@[simp] theorem EngOut.keeps_address : EngOut.Keeps x .address := trivial
@[simp] theorem EngOut.keeps_failed : EngOut.Keeps x .failed := trivial

@[simp] theorem engAlu_keeps (d : Nat) (f : Engine → Word48) : (engAlu d f x).Keeps x := by simp [engAlu]
@[simp] theorem engWrap_keeps (d : Nat) (f : Engine → Int) : (engWrap d f x).Keeps x := by simp [engWrap]
@[simp] theorem engSat_keeps (d : Nat) (f : Engine → Int) : (engSat d f x).Keeps x := by simp [engSat]
@[simp] theorem engSatZN_keeps (d : Nat) (f : Engine → Int) : (engSatZN d f x).Keeps x := by simp [engSatZN]

@[simp] theorem engLoad_keeps (n d a o : Nat) (pm : Bool) (ecc : Ecc) (s : State) (r : Running) : (engLoad n d a o pm ecc s x r).Keeps x := by
  unfold engLoad
  dsimp only
  split
  · simp
  · cases ecc with
    | clean => simp [eccOut]
    | corrected =>
      simp only [eccOut, EngOut.keeps_seq, Engine.postMod_mem, Engine.setXs_mem]
      rfl
    | double =>
      unfold eccOut
      dsimp only
      split <;> simp

@[simp] theorem engStore_keeps (n d a o : Nat) (pm : Bool) (s : State) (r : Running) : (engStore n d a o pm s x r).Keeps x := by
  unfold engStore
  dsimp only
  split
  · simp only [EngOut.keeps_go, Engine.postMod_mem]
    rfl
  · simp

end Out

/-- The engine comes into force, and what its store buffer cannot hold leaves it (R168). -/
theorem State.setEngine_retire_kept (s : State) (e : Nat) {y : Engine} (q : Running) (hmem : y.mem = (s.engine e).mem) :
    Kept s ((s.setEngine e { y with task := some q }).retire e (y.stores.length - 4)) := by
  rw [State.retire_eq _ _ _ (s.setEngine_settled e _), State.withStores_eq, State.setEngine_setEngine, State.setEngine_self]
  refine Kept.trans ?_ (State.writeWords_kept _ e _)
  refine State.setEngine_kept e (Engine.memWf_of_mem hmem) (fun _ => ?_)
  simp only [List.length_drop]
  omega

theorem State.engApply_kept (s : State) (e cost : Nat) (r : Running) {x : Engine} (pc : Option (BitVec 13)) (w : List (Nat × Word48))
    (hx : x.mem = (s.engine e).mem) : Kept s (s.engApply e cost r x pc w) := by
  cases pc with
  | none => exact s.setEngine_retire_kept e _ (x.advance_mem.trans hx)
  | some t => exact s.setEngine_retire_kept e _ ((x.goto_mem t).trans hx)

theorem State.engineStep_keeps (s : State) (e cost : Nat) {f : State → Engine → Running → EngOut}
    (hf : ∀ r, (f s (s.engine e) r).Keeps (s.engine e)) : Keeps s (s.engineStep e cost f) := by
  unfold State.engineStep
  split
  · simp
  · rename_i r _
    have hout := hf r
    generalize f s (s.engine e) r = o at hout
    cases o with
    | go y pc w => exact keeps_next.mpr (s.engApply_kept e cost r pc w hout)
    | fault c code ax => simp
    | failed => simp

end Sys2Proof.Machine
end
section
/-! O60, part 7: every engine instruction, and what an idle block runs, keep every memory (Table ENG-12, R38). -/

namespace Sys2Proof.Machine

@[simp] theorem execCeLd_keeps (e : EngIx) (d : Fin 32) (a : Fin 8) (pm : Bool) (o : Fin 8) (ecc : Ecc) (s : State) :
    Keeps s (execCeLd e d a pm o ecc s) := by
  exact State.engineStep_keeps _ _ _ (fun r => by simp)

@[simp] theorem execCeLdq_keeps (e : EngIx) (d : Fin 32) (a : Fin 8) (pm : Bool) (o : Fin 8) (ecc : Ecc) (s : State) :
    Keeps s (execCeLdq e d a pm o ecc s) := by
  refine State.engineStep_keeps _ _ _ (fun r => ?_)
  split <;> simp

@[simp] theorem execCeSt_keeps (e : EngIx) (d : Fin 32) (a : Fin 8) (pm : Bool) (o : Fin 8) (s : State) : Keeps s (execCeSt e d a pm o s) := by
  exact State.engineStep_keeps _ _ _ (fun r => by simp)

@[simp] theorem execCeStq_keeps (e : EngIx) (d : Fin 32) (a : Fin 8) (pm : Bool) (o : Fin 8) (s : State) : Keeps s (execCeStq e d a pm o s) := by
  refine State.engineStep_keeps _ _ _ (fun r => ?_)
  split <;> simp

@[simp] theorem execCeLdi_keeps (e : EngIx) (d : Fin 32) (imm : Word48) (s : State) : Keeps s (execCeLdi e d imm s) := by
  exact State.engineStep_keeps _ _ _ (fun r => by simp)

@[simp] theorem execCeLds_keeps (e : EngIx) (spr : BitVec 8) (imm : BitVec 32) (s : State) : Keeps s (execCeLds e spr imm s) := by
  refine State.engineStep_keeps _ _ _ (fun r => ?_)
  split
  · simp
  · rename_i y hy; exact Engine.writeSpr_mem _ hy

@[simp] theorem execCeMov_keeps (e : EngIx) (d s : Fin 32) (st : State) : Keeps st (execCeMov e d s st) := by
  exact State.engineStep_keeps _ _ _ (fun r => by simp)

@[simp] theorem execCeMva_keeps (e : EngIx) (fromSpecial : Bool) (x : Fin 32) (spr : BitVec 8) (s : State) :
    Keeps s (execCeMva e fromSpecial x spr s) := by
  refine State.engineStep_keeps _ _ _ (fun r => ?_)
  split
  · split <;> simp
  · split
    · simp
    · rename_i y hy; exact Engine.writeSpr_mem _ hy

@[simp] theorem execCeAmod_keeps (e : EngIx) (a : Fin 8) (o : Fin 8) (s : State) : Keeps s (execCeAmod e a o s) := by
  exact State.engineStep_keeps _ _ _ (fun r => by simp)

@[simp] theorem execCeAdd_keeps (e : EngIx) (d s t : Fin 32) (st : State) : Keeps st (execCeAdd e d s t st) := by
  exact State.engineStep_keeps _ _ _ (fun r => by simp)

@[simp] theorem execCeSub_keeps (e : EngIx) (d s t : Fin 32) (st : State) : Keeps st (execCeSub e d s t st) := by
  exact State.engineStep_keeps _ _ _ (fun r => by simp)

@[simp] theorem execCeAdds_keeps (e : EngIx) (d s t : Fin 32) (st : State) : Keeps st (execCeAdds e d s t st) := by
  exact State.engineStep_keeps _ _ _ (fun r => by simp)

@[simp] theorem execCeSubs_keeps (e : EngIx) (d s t : Fin 32) (st : State) : Keeps st (execCeSubs e d s t st) := by
  exact State.engineStep_keeps _ _ _ (fun r => by simp)

@[simp] theorem execCeAnd_keeps (e : EngIx) (d s t : Fin 32) (st : State) : Keeps st (execCeAnd e d s t st) := by
  exact State.engineStep_keeps _ _ _ (fun r => by simp)

@[simp] theorem execCeOr_keeps (e : EngIx) (d s t : Fin 32) (st : State) : Keeps st (execCeOr e d s t st) := by
  exact State.engineStep_keeps _ _ _ (fun r => by simp)

@[simp] theorem execCeXor_keeps (e : EngIx) (d s t : Fin 32) (st : State) : Keeps st (execCeXor e d s t st) := by
  exact State.engineStep_keeps _ _ _ (fun r => by simp)

@[simp] theorem execCeShl_keeps (e : EngIx) (d s : Fin 32) (sh : Fin 64) (st : State) : Keeps st (execCeShl e d s sh st) := by
  refine State.engineStep_keeps _ _ _ (fun r => ?_)
  split <;> simp

@[simp] theorem execCeAsr_keeps (e : EngIx) (d s : Fin 32) (sh : Fin 64) (st : State) : Keeps st (execCeAsr e d s sh st) := by
  refine State.engineStep_keeps _ _ _ (fun r => ?_)
  split <;> simp

@[simp] theorem execCeCmp_keeps (e : EngIx) (s t : Fin 32) (st : State) : Keeps st (execCeCmp e s t st) := by
  exact State.engineStep_keeps _ _ _ (fun r => by simp)

@[simp] theorem execCeMin_keeps (e : EngIx) (d s t : Fin 32) (st : State) : Keeps st (execCeMin e d s t st) := by
  exact State.engineStep_keeps _ _ _ (fun r => by simp)

@[simp] theorem execCeMax_keeps (e : EngIx) (d s t : Fin 32) (st : State) : Keeps st (execCeMax e d s t st) := by
  exact State.engineStep_keeps _ _ _ (fun r => by simp)

@[simp] theorem execCeAbs_keeps (e : EngIx) (d s : Fin 32) (st : State) : Keeps st (execCeAbs e d s st) := by
  exact State.engineStep_keeps _ _ _ (fun r => by simp)

@[simp] theorem execCeNeg_keeps (e : EngIx) (d s : Fin 32) (st : State) : Keeps st (execCeNeg e d s st) := by
  exact State.engineStep_keeps _ _ _ (fun r => by simp)

@[simp] theorem execCeAddi_keeps (e : EngIx) (d s : Fin 32) (imm : BitVec 32) (st : State) : Keeps st (execCeAddi e d s imm st) := by
  exact State.engineStep_keeps _ _ _ (fun r => by simp)

@[simp] theorem execCeWrapm_keeps (e : EngIx) (d s t : Fin 32) (st : State) : Keeps st (execCeWrapm e d s t st) := by
  refine State.engineStep_keeps _ _ _ (fun r => ?_)
  split <;> simp

@[simp] theorem execCeMac_keeps (e : EngIx) (acc : Fin 4) (clr neg : Bool) (m n : Fin 32) (s : State) :
    Keeps s (execCeMac e acc clr neg m n s) := by
  exact State.engineStep_keeps _ _ _ (fun r => by simp)

@[simp] theorem execCeMac4_keeps (e : EngIx) (clr neg bcast : Bool) (m n : Fin 32) (s : State) : Keeps s (execCeMac4 e clr neg bcast m n s) := by
  refine State.engineStep_keeps _ _ _ (fun r => ?_)
  split
  · exact Engine.foldl_mem _ (fun y i => by simp) _
  · simp

@[simp] theorem execCeAcclr_keeps (e : EngIx) (mask : BitVec 4) (s : State) : Keeps s (execCeAcclr e mask s) :=
  State.engineStep_keeps _ _ _ (fun r => Engine.foldl_mem _ (fun y i => by split <;> simp) _)

@[simp] theorem execCeAccld_keeps (e : EngIx) (acc : Fin 4) (n : Fin 32) (shift : Fin 64) (s : State) : Keeps s (execCeAccld e acc n shift s) := by
  refine State.engineStep_keeps _ _ _ (fun r => ?_)
  split <;> simp

@[simp] theorem execCeMvs_keeps (e : EngIx) (d : Fin 32) (acc : Fin 4) (auto : Bool) (sh : Fin 64) (s : State) :
    Keeps s (execCeMvs e d acc auto sh s) := by
  exact State.engineStep_keeps _ _ _ (fun r => by simp)

@[simp] theorem execCeMvs4_keeps (e : EngIx) (d : Fin 32) (auto : Bool) (sh : Fin 64) (s : State) : Keeps s (execCeMvs4 e d auto sh s) := by
  refine State.engineStep_keeps _ _ _ (fun r => ?_)
  split
  · exact Engine.foldl_mem _ (fun y i => by simp) _
  · simp

@[simp] theorem execCeBr_keeps (e : EngIx) (cond : BitVec 4) (target : BitVec 16) (s : State) : Keeps s (execCeBr e cond target s) := by
  refine State.engineStep_keeps _ _ _ (fun r => ?_)
  split <;> simp

@[simp] theorem execCeLoop_keeps (e : EngIx) (lc : Fin 2) (reg : Bool) (xs : Fin 32) (count : BitVec 16) (last : BitVec 16) (s : State) :
    Keeps s (execCeLoop e lc reg xs count last s) := by
  refine State.engineStep_keeps _ _ _ (fun r => ?_)
  dsimp only
  generalize (if reg then _ else _ : Nat) = n
  split
  · simp
  · split <;> rfl

@[simp] theorem execCeCall_keeps (e : EngIx) (target : BitVec 16) (s : State) : Keeps s (execCeCall e target s) := by
  refine State.engineStep_keeps _ _ _ (fun r => ?_)
  split
  · simp
  · rfl

@[simp] theorem execCeRet_keeps (e : EngIx) (s : State) : Keeps s (execCeRet e s) := by
  refine State.engineStep_keeps _ _ _ (fun r => ?_)
  split
  · simp
  · rfl

@[simp] theorem execCeEnd_keeps (e : EngIx) (s : State) : Keeps s (execCeEnd e s) := by
  unfold execCeEnd
  split
  · simp
  · rename_i r _
    dsimp only
    generalize hu : (s.drain e.val).modEngine e.val _ = u
    have hsu : Kept s u := by
      rw [← hu]
      exact (s.drain_kept e.val).trans (State.modEngine_kept _ e.val (by simp))
    refine keeps_next.mpr (hsu.trans (Kept.ite ?_ ?_))
    · exact State.taskFault_kept _ _ _ _ _
    · exact State.endTask_kept _ _ _

@[simp] theorem execCeTflt_keeps (e : EngIx) (code : BitVec 16) (s : State) : Keeps s (execCeTflt e code s) := by
  exact State.engineStep_keeps _ _ _ (fun r => by simp)

@[simp] theorem execCeNop_keeps (e : EngIx) (s : State) : Keeps s (execCeNop e s) := by
  exact State.engineStep_keeps _ _ _ (fun r => by simp)

@[simp] theorem execCeFence_keeps (e : EngIx) (s : State) : Keeps s (execCeFence e s) := by
  unfold execCeFence
  split
  · simp
  · intro t ht
    exact (s.drain_kept e.val).trans (State.engineStep_keeps _ _ _ (fun r => by simp) t ht)

/-- What a word of program memory spells keeps every memory. -/
theorem decodeEngine_keeps {e : EngIx} {w : BitVec 64} {f : State → Result} (h : decodeEngine e w = some f) (s : State) : Keeps s (f s) := by
  unfold decodeEngine engMem engAlu3 at h
  dsimp only at h
  split at h
  all_goals cases h
  all_goals simp

@[simp] theorem State.runEngine_kept (s : State) (e : EngIx) : Kept s (s.runEngine e) := by
  unfold State.runEngine
  split
  · split
    · simp
    · rename_i f hf
      have hkeeps := decodeEngine_keeps hf s
      split
      · rename_i t ht; exact hkeeps t ht
      · exact Kept.refl s
  · exact Kept.refl s

theorem State.idle_kept (s : State) : Kept s s.idle := by
  rw [State.idle_eq]
  exact Kept.trans (t := s.idleTick) (by simp [State.idleTick]) (Kept.foldl (fun t i => t.runEngine_kept _) _ _)

end Sys2Proof.Machine
end
section
/-! O60, part 8: the profile, the axis tasks and the arbiter keep every memory. -/

namespace Sys2Proof.Machine

section Plan

variable (s : State)

@[simp] theorem State.replanOne_kept (a c sh : Nat) (sto : Bool) : Kept s (s.replanOne a c sh sto).1 := by
  unfold State.replanOne
  dsimp only
  refine Kept.frame (fun t => (State.replaceInTrain t _).1) (by simp) ?_
  refine Kept.frame (State.noteEntry · _) (by simp) ?_
  refine Kept.frame (State.noteRef · _ _ _) (by simp) ?_
  have hadv : Kept s (s.advanceRef a (c - sh + 1)) := by simp
  cases s.isStepper a with
  | true =>
    rw [if_pos rfl, if_pos rfl]
    exact Kept.frame (State.modProf · _ _) (by simp) (hadv.trans (State.setRHist_kept _ a _ _))
  | false =>
    cases sto with
    | true => exact hadv.trans (State.setUHist_kept _ a _ _)
    | false => exact (hadv.trans (State.setUHist_kept _ a _ _)).trans (State.setRHist_kept _ a _ _)

@[simp] theorem State.replanGo_kept (a sh : Nat) (sto : Bool) (n c : Nat) : Kept s (s.replanGo a sh sto n c).1 := by
  induction n generalizing s c with
  | zero => exact Kept.refl s
  | succ n ih => exact (s.replanOne_kept a c sh sto).trans (ih _ _)

@[simp] theorem State.replaceFrom_kept (a a0 : Nat) (sto : Bool) : Kept s (s.replaceFrom a a0 sto) := by
  unfold State.replaceFrom
  dsimp only
  split
  · simp
  · split
    · exact Kept.refl s
    · refine Kept.frame (State.sendRange · _ _ _) (by simp) (Kept.trans ?_ (State.replanGo_kept _ a _ sto _ _))
      simp

@[simp] theorem State.flushPlan_kept (a k : Nat) : Kept s (s.flushPlan a k) := by
  unfold State.flushPlan
  dsimp only
  split
  · refine Kept.trans ?_ (State.replaceFrom_kept _ a _ true)
    simp
  · split
    · exact Kept.refl s
    · refine Kept.ite (Kept.refl s) (Kept.trans ?_ (State.replaceFrom_kept _ a _ false))
      simp

@[simp] theorem State.beginOne_kept (a k : Nat) (kind : ReqKind) : Kept s (s.beginOne a k kind) := by
  have hlast : ∀ (p : Prop) [Decidable p] (tag : Nat) (u : State), Kept s u → Kept s (if p then u.replaceFrom a tag false else u) :=
    fun p _ tag u hu => Kept.ite (hu.trans (u.replaceFrom_kept a tag false)) hu
  unfold State.beginOne
  refine hlast _ _ _ ?_
  cases kind with
  | basic t vm am dm jm =>
    refine Kept.frame (State.runProfile · _ _ _ _ _ _) (by simp) ?_
    exact Kept.frame (State.modProf · _ _) (by simp) (s.putSegs_kept _ _)
  | profile first rel => simp
  | resume => simp
  | home pos => simp
  | group g ms f ac dp j => simp

@[simp] theorem State.beginGroup_kept (k g : Nat) (ms : List (Nat × Int)) (h : Shape) : Kept s (s.beginGroup k g ms h) := by
  refine Kept.foldl (fun t m => ?_) ms s
  dsimp only
  refine Kept.frame (State.runProfile · _ _ _ _ _ _) (by simp) ?_
  exact Kept.frame (State.modProf · _ _) (by simp) (t.putSegs_kept _ _)

@[simp] theorem State.admitStart_kept (a k : Nat) (q : Request) : Kept s (s.admitStart a k q) := by
  unfold State.admitStart
  dsimp only
  split
  · refine Kept.trans ?_ (State.beginGroup_kept _ k _ _ _)
    simp
  · refine Kept.frame (State.takeMotion · _ _ _) (by simp) (Kept.trans ?_ (State.beginOne_kept _ a k _))
    simp

@[simp] theorem State.admitGroup_kept (k g : Nat) : Kept s (s.admitGroup k g) := by
  unfold State.admitGroup
  refine Kept.foldl_fst (fun p x => ?_) _ (s, false)
  repeat' split
  all_goals simp

end Plan

section Arbiter

variable (s : State)

@[simp] theorem State.landBudgetOne_kept (ws : List BudgetWrite) (w : BudgetWrite) : Kept s (State.landBudgetOne ws s w) := by
  unfold State.landBudgetOne
  split
  · simp
  · refine Kept.frame (State.replyLater · _ _ _ _) (by simp) ?_
    split
    · exact Kept.ite (((s.setPar_kept _ _).trans (State.setPar_kept _ _ _)).trans (State.setPar_kept _ _ _)) (Kept.refl s)
    · exact Kept.ite (s.setPar_kept _ _) (Kept.refl s)
    · exact Kept.refl s

@[simp] theorem State.landBudget_kept : Kept s s.landBudget :=
  Kept.trans (Kept.of_same (by simp)) (Kept.foldl (fun t w => t.landBudgetOne_kept _ w) _ { s with arb := { s.arb with budget := [] } })

@[simp] theorem State.sealArbiter_kept (k : Nat) : Kept s (s.sealArbiter k) := by
  unfold State.sealArbiter
  refine Kept.frame State.noteQueues (by simp) (Kept.trans ?_ (Kept.foldl (fun t g => t.admitGroup_kept k g) _ _))
  refine Kept.trans ?_ (Kept.foldl (fun t a => by simp) _ _)
  refine Kept.trans ?_ (Kept.foldl (fun t a => by simp) _ _)
  exact s.landBudget_kept.trans (Kept.foldl (fun t a => by simp) _ _)

end Arbiter

section Parameters

variable (s : State)

theorem State.setPars_kept {β : Type} (id : β → Nat) (v : β → Int) (ps : List β) : Kept s (ps.foldl (fun s p => s.setPar (id p) (v p)) s) :=
  Kept.foldl (fun t p => t.setPar_kept _ _) ps s

@[simp] theorem State.applySection_kept (bs : List Byte) : Kept s (s.applySection bs) := by
  unfold State.applySection
  refine Kept.frame State.checkSection (by simp) ?_
  refine Kept.trans ?_ (Kept.of_same ⟨rfl, rfl, rfl, rfl, rfl, rfl, rfl, rfl, rfl⟩)
  exact (kept_params (swf_filter _ _ _ 0)).trans (State.setPars_kept _ _ _ _)

@[simp] theorem State.applyNet_kept : Kept s s.applyNet := by
  unfold State.applyNet
  refine Kept.frame State.checkSection (by simp) ?_
  refine Kept.trans ?_ (Kept.of_same ⟨rfl, rfl, rfl, rfl, rfl, rfl, rfl, rfl, rfl⟩)
  refine Kept.trans (Kept.foldl (fun t n => ?_) _ s) (State.setPars_kept _ _ _ _)
  split <;> simp

@[simp] theorem State.beginOpening_kept : Kept s s.beginOpening := by
  unfold State.beginOpening
  refine Kept.trans s.applyNet_kept ?_
  simp

end Parameters

section Task

variable (s : State) (a : Nat)

@[simp] theorem State.landCoefs_kept : Kept s (s.landCoefs a) := by
  unfold State.landCoefs
  dsimp only
  split
  · exact Kept.refl s
  split
  · exact Kept.refl s
  refine Kept.trans (Kept.frame (State.modLaw · a _) (by simp) (Kept.refl s)) (Kept.foldl (fun t w => ?_) _ _)
  split
  · simp
  · exact Kept.frame (State.replyLater · _ _ _ _) (by simp) (t.setCtx_kept _ _ _)

@[simp] theorem State.initLaw_kept (n : Nat) : Kept s (s.initLaw a n) := by
  unfold State.initLaw
  generalize hu : s.modLife a _ = u
  have hsu : Kept s u := by rw [← hu]; simp
  refine hsu.trans ?_
  dsimp only
  split
  · simp
  refine Kept.frame (State.modLaw · _ _) (by simp) ?_
  refine Kept.frame (State.modProf · _ _) (by simp) ?_
  refine Kept.trans ?_ (Kept.foldl (fun t i => t.setCtxs_kept _ _ _) _ _)
  exact ((State.setCtxs_kept _ a _ _).trans (State.setCtxs_kept _ a _ _)).trans (State.setCtxs_kept _ a _ _)

@[simp] theorem State.followError_kept (t : ReadyTask) : Kept s (s.followError a t) := by
  unfold State.followError
  split
  · refine (s.setCtx_kept a _ _).trans (Kept.ite ?_ (Kept.refl _))
    simp
  · exact Kept.refl s

@[simp] theorem State.runLaw_kept (t : ReadyTask) : Kept s (s.runLaw a t).1 := by
  unfold State.runLaw
  dsimp only
  split
  · exact s.sf8_kept a _ _ _ _ _ _
  · exact s.cf4_kept a _ _ _
  · exact Kept.refl s

@[simp] theorem State.runLearner_kept (t : ReadyTask) : Kept s (s.runLearner a t).1 := by
  unfold State.runLearner
  refine Kept.trans (Kept.frame (State.modLife · a _) (by simp) (Kept.refl s)) (Kept.ite ?_ (Kept.refl _))
  exact State.lrnUpdate_kept _ a _ _

@[simp] theorem State.commitServo_kept (tag : Nat) (u : Int) : Kept s (s.commitServo a tag u) := by
  unfold State.commitServo
  have hlife : ∀ f, Kept s (s.modLife a f) := fun f => Kept.frame (State.modLife · a _) (by simp) (Kept.refl s)
  refine Kept.ite (hlife _) ?_
  refine Kept.frame (State.noteRef · _ _ _) (by simp) ?_
  exact ((hlife _).trans (State.setUHist_kept _ a _ _)).trans (State.setRHist_kept _ a _ _)

@[simp] theorem State.putEntry_kept (e : Nat) (r : RefEntry) : Kept s (s.putEntry e r) := by
  refine State.setEngine_kept e (fun hx => ?_) id
  obtain ⟨hscratch, hconsts, hprog, htask, hfb, -⟩ := (Engine.memWf_iff _).mp hx
  exact (Engine.memWf_iff _).mpr ⟨hscratch, hconsts, hprog, htask, hfb, swf_listWin _⟩

@[simp] theorem State.servoTask_kept (e tag : Nat) (t : ReadyTask) : Kept s (s.servoTask e a tag t) := by
  unfold State.servoTask
  refine Kept.trans ?_ (State.putEntry_kept _ e _)
  refine Kept.frame (State.advanceRef · _ _) (by simp) ?_
  refine Kept.frame (State.countConfirm · _) (by simp) ?_
  refine Kept.trans ?_ (State.commitServo_kept _ a _ _)
  refine Kept.trans ?_ (State.setCtx_kept _ a _ _)
  refine Kept.trans ?_ (State.runLearner_kept _ a _)
  refine Kept.trans ?_ (State.runLaw_kept _ a _)
  exact Kept.frame (State.modLife · _ _) (by simp) (s.followError_kept a t)

@[simp] theorem State.stepperTask_kept (e tag : Nat) (t : ReadyTask) : Kept s (s.stepperTask e a tag t) := by
  unfold State.stepperTask
  refine Kept.trans ?_ (State.putEntry_kept _ e _)
  generalize hu : (((s.checkSteps a t).countConfirm a).advanceRef a _).modProf a _ = u
  have hsu : Kept s u := by rw [← hu]; simp
  refine Kept.ite hsu ?_
  exact Kept.frame (State.noteRef · _ _ _) (by simp) (hsu.trans (State.setRHist_kept _ a _ _))

@[simp] theorem State.zeroOrigin_kept : Kept s (s.zeroOrigin a) :=
  Kept.ite (s.setCtx_kept a _ _) (Kept.refl s)

@[simp] theorem State.axisChain_kept (e : Nat) (t : ReadyTask) : Kept s (s.axisChain e a t) := by
  unfold State.axisChain
  refine (s.zeroOrigin_kept a).trans ?_
  generalize s.zeroOrigin a = s0
  dsimp only
  split
  · refine Kept.trans ?_ (State.putEntry_kept _ e _)
    simp
  generalize hu : s0.modLife a _ = u
  have hsu : Kept s0 u := by rw [← hu]; simp
  refine hsu.trans ?_
  have hinit : Kept u (if (s0.axis a).life.init then u.initLaw a t.sample else u) := Kept.ite (u.initLaw_kept a _) (Kept.refl u)
  generalize (if (s0.axis a).life.init then u.initLaw a t.sample else u) = v at hinit
  refine hinit.trans ?_
  split
  · exact v.stepperTask_kept a e _ t
  split
  · refine Kept.trans ?_ (State.putEntry_kept _ e _)
    refine Kept.frame (State.advanceRef · _ _) (by simp) ?_
    refine Kept.trans ?_ (State.commitServo_kept _ a _ _)
    simp
  · exact v.servoTask_kept a e _ t

theorem State.startRegs_rest (t : ReadyTask) (x : Engine) : (s.startRegs t x).mem = x.mem ∧ (s.startRegs t x).stores = [] := ⟨rfl, rfl⟩

/-- The registers and windows with which a task starts (R169). -/
theorem State.startEngine_kept (s : State) (e : Nat) (u : State) (t : ReadyTask) (tw fw : List Word48) (run : Running) :
    Kept s (s.modEngine e (fun x => { u.startRegs t x with taskWin := listWin tw, fbWin := listWin fw, outWin := [], task := some run })) := by
  obtain ⟨hmem, hstores⟩ := u.startRegs_rest t (s.engine e)
  refine State.setEngine_kept e (fun hx => ?_) (fun _ => ?_)
  · obtain ⟨hscratch, hconsts, hprog, -⟩ := (Engine.memWf_iff _).mp (Engine.memWf_of_mem hmem hx)
    exact (Engine.memWf_iff _).mpr ⟨hscratch, hconsts, hprog, swf_listWin _, swf_listWin _, rfl⟩
  · rw [hstores]
    exact Nat.zero_le 4

/-- The state in which the observer of a task has run (R141, R169). -/
def State.observed (s : State) (lib : Bool) (t : ReadyTask) : State :=
  match t.owner with
  | .line =>
    let x := s.line.obs
    let s1 := s.lineObserve t
    let s2 := if lib then s1
      else { s1 with line := { s1.line with obs := { s1.line.obs with pHat := x.pHat, vHat := x.vHat, aHat := x.aHat, dir := x.dir } } }
    s2.noteLine t.cycle
  | .axis a => (((s.swapTable a.val).landCoefs a.val).observeAxis a.val t).taskReadings a.val t

/-- The engine takes the task that the observer has run for, from the start time on. -/
def State.taken (s : State) (lib : Bool) (e : Nat) (t : ReadyTask) (start : Nat) : State :=
  let obs := s.ownerObs t.owner
  let apply := match t.owner with
    | .line => 0
    | .axis a => t.cycle + 1 + s.span a.val + s.tagShift a.val
  let cycles := if lib then min (s.taskCost t.owner - 1) (Config.taskCycles s.freeCtr) else 0
  let run : Running := { owner := t.owner, cycle := t.cycle, apply := apply, cycles := cycles
                         start := start, arith := false, library := lib, written := [] }
  (if lib then s.useFree 1 else s).modEngine e (fun x =>
    { s.startRegs t x with
      taskWin := listWin (s.taskWindow t obs), fbWin := listWin (t.win.set 1 (w48 obs.fpos)), outWin := [], task := some run })

/-- A task of the library computes at once. -/
def State.computed (s : State) (lib : Bool) (e : Nat) (t : ReadyTask) : State :=
  match t.owner with
  | .line => s
  | .axis a =>
    if lib then
      let s3 := (s.modLaw a.val (fun l => { l with satNow := false })).axisChain e a.val t
      let s4 := if (s3.axis a.val).law.satNow then s3.modEngine e (fun x => x.stick flagSat true) else s3
      s4.writeDeviceWords a.val
    else s

theorem State.startTask_eq (e : Nat) (t : ReadyTask) : s.startTask e t =
    ((({ s with eng := { s.eng with ready := s.eng.ready.erase t } } : State).observed
        (decide (s.parN 0x04000120 (ownerInst t.owner) = 0)) t).taken (decide (s.parN 0x04000120 (ownerInst t.owner) = 0)) e t s.coreTicks).computed
      (decide (s.parN 0x04000120 (ownerInst t.owner) = 0)) e t := rfl

theorem State.observed_kept (lib : Bool) (t : ReadyTask) : Kept s (s.observed lib t) := by
  unfold State.observed
  split
  · refine Kept.frame (State.noteLine · _) (by simp) (Kept.ite ?_ ?_)
    · simp
    · simp
  · refine Kept.frame (State.taskReadings · _ _) (by simp) (Kept.frame (State.observeAxis · _ _) (by simp) ?_)
    exact (s.swapTable_kept _).trans (State.landCoefs_kept _ _)

theorem State.taken_kept (lib : Bool) (e : Nat) (t : ReadyTask) (start : Nat) : Kept s (s.taken lib e t start) := by
  refine Kept.trans (Kept.ite ?_ (Kept.refl s)) (State.startEngine_kept _ e s t _ _ _)
  exact Kept.frame (State.useFree · 1) (by simp) (Kept.refl s)

theorem State.computed_kept (lib : Bool) (e : Nat) (t : ReadyTask) : Kept s (s.computed lib e t) := by
  unfold State.computed
  split
  · exact Kept.refl s
  · rename_i a _
    refine Kept.ite ?_ (Kept.refl s)
    refine Kept.frame (State.writeDeviceWords · _) (by simp) ?_
    generalize hu : State.axisChain _ e a.val t = u
    have hsu : Kept s u := by
      rw [← hu]
      exact (Kept.frame (State.modLaw · _ _) (by simp) (Kept.refl s)).trans (State.axisChain_kept _ _ e t)
    refine Kept.ite (hsu.trans (State.modEngine_kept _ e ?_)) hsu
    unfold Engine.stick
    simp

@[simp] theorem State.startTask_kept (e : Nat) (t : ReadyTask) : Kept s (s.startTask e t) := by
  rw [State.startTask_eq]
  refine Kept.trans (t := { s with eng := { s.eng with ready := s.eng.ready.erase t } }) (Kept.of_same (by simp)) ?_
  exact ((State.observed_kept _ _ t).trans (State.taken_kept _ _ e t _)).trans (State.computed_kept _ _ e t)

end Task

end Sys2Proof.Machine
end
section
/-! O60, part 9: the Scoresheet, the seal, the flash banks, the boot and the resets keep every memory. -/

namespace Sys2Proof.Machine

section Trace

variable (s : State)

/-- A change of the Scoresheet keeps every memory when it keeps the trace memory. -/
theorem State.modScs_kept {f : Scs → Scs} (h : swf (fun _ => 0) 0 s.scs.trace = true → swf (fun _ => 0) 0 (f s.scs).trace = true) :
    Kept s (s.modScs f) :=
  Kept.of_parts id id h id id id

@[simp] theorem State.writePort_kept : Kept s s.writePort := s.modScs_kept (swf_foldl_sput _ _ _ _ _)

@[simp] theorem State.keepUnit_same (c : Nat) (es : List (BitVec 64)) : SameMemories s (s.keepUnit c es) := by
  simp [State.keepUnit]

@[simp] theorem State.takeSample_same (c : Nat) (v : Int) (fresh : Bool) : SameMemories s (s.takeSample c v fresh) := by
  unfold State.takeSample
  dsimp only
  repeat' split
  all_goals simp

@[simp] theorem State.sampleTick_kept (t : Int) : Kept s (s.sampleTick t) := by
  unfold State.sampleTick
  extract_lets armed s0 s1
  have h0 : Kept s s0 := Kept.foldl (fun u c => by split <;> simp) _ s
  have h1 : Kept s s1 := Kept.ite (h0.trans (Kept.foldl (fun u f => by split <;> simp) _ s0)) h0
  clear_value s1
  split
  · exact h1
  split
  · refine Kept.trans (h1.trans (Kept.ite (Kept.foldl (fun u c => ?_) _ s1) (Kept.refl s1))) (State.modScs_kept _ id)
    split <;> simp
  · exact h1

@[simp] theorem State.landArm_kept (k : Nat) : Kept s (s.landArm k) := by
  unfold State.landArm
  split
  · exact Kept.refl s
  · rename_i c _
    refine Kept.frame (State.replyLater · c 0x0A01 stDone []) (by simp) ?_
    generalize hu : s.modScs _ = u
    have hsu : Kept s u := by
      rw [← hu]
      exact s.modScs_kept (swf_smap _ _ _ 0)
    refine hsu.trans ?_
    refine Kept.trans (Kept.foldl (fun t i => ?_) _ u) (Kept.foldl (fun t i => ?_) _ _)
    · simp
    · dsimp only
      split <;> simp

@[simp] theorem State.stepClock_same (d : Int) : SameMemories s (s.stepClock d) := by
  simp [State.stepClock]

@[simp] theorem State.scsSeal_kept (k : Nat) : Kept s (s.scsSeal k) := by
  unfold State.scsSeal
  refine Kept.trans (Kept.foldl (fun t e => t.modEngine_kept e (by simp)) _ s) (State.modScs_kept _ id)

end Trace

section Seal

variable (s : State)

@[simp] theorem State.sealAxis_kept (k a : Nat) : Kept s (s.sealAxis k a) := by
  unfold State.sealAxis
  dsimp only
  split
  · exact Kept.refl s
  have hdone : ∀ (b : Bool) (f : TaskSt → TaskSt), Kept s (if b then s else s.modTask a f) := fun b f => Kept.ite (Kept.refl s) (by simp)
  exact Kept.ite (hdone _ _) (((hdone _ _).trans (State.setUHist_kept _ a _ _)).trans (State.setRHist_kept _ a _ _))

@[simp] theorem State.settleTest_kept (m : MisTest) (own peer : Bool) : Kept s (s.settleTest m own peer) := by
  unfold State.settleTest
  refine (Kept.ite (Kept.refl s) (s.engineFail_kept _ 1) : Kept s (if own then s else s.engineFail m.engine.val 1)).trans ?_
  generalize (if own then s else s.engineFail m.engine.val 1) = t
  dsimp only
  repeat' split
  all_goals simp

@[simp] theorem State.settleTests_kept : Kept s s.settleTests := by
  unfold State.settleTests
  exact Kept.trans (Kept.frame (State.modTwin · _) (by simp) (Kept.refl s)) (Kept.foldl (fun t m => t.settleTest_kept m _ _) _ _)

@[simp] theorem State.retryRotation_kept : Kept s s.retryRotation := by
  unfold State.retryRotation
  split
  · exact Kept.refl s
  split
  · exact Kept.refl s
  · rename_i e _ _
    exact (s.beginRotation_kept e).trans (Kept.of_same (by simp))

@[simp] theorem State.scrubError_kept (d : ScrubSite) : Kept s (s.scrubError d) := by
  cases d with
  | engineLocal e => exact s.engineFail_kept _ 0
  | channelP => simp [State.scrubError]
  | supervisor => simp [State.scrubError]
  | shared w =>
    unfold State.scrubError
    dsimp only
    split
    · simp
    split
    · simp
    split
    · refine Kept.foldl (fun t a => ?_) _ s
      split <;> simp
    · exact Kept.refl s

end Seal

section Writes

variable (s : State)

@[simp] theorem State.w1c_kept (base i mask : Nat) : Kept s (s.w1c base i mask) := by
  unfold State.w1c
  dsimp only
  exact Kept.ite (by simp) <| Kept.ite (by simp) <| Kept.ite (by simp) <| Kept.ite (by simp) <| Kept.ite (by simp) <|
    Kept.ite (by simp) <| Kept.ite (by simp) <| Kept.ite (by simp) <| Kept.ite (by simp) <| Kept.ite (by simp) <|
    Kept.ite (by simp) <| Kept.ite (by simp) <| Kept.ite (by simp) <| Kept.ite (by simp) <| Kept.ite (by simp) (Kept.refl s)

@[simp] theorem State.clearReading_kept (base i : Nat) : Kept s (s.clearReading base i) := by
  unfold State.clearReading
  dsimp only
  refine Kept.ite ?_ <| Kept.ite (by simp) <| Kept.ite ?_ <| Kept.ite (by simp) <| Kept.ite (by simp) <| Kept.ite (by simp) <|
    Kept.ite (by simp) <| Kept.ite (by simp) <| Kept.ite ?_ <| Kept.ite (by simp) <| Kept.ite (by simp) <| Kept.ite (by simp) <|
    Kept.ite (by simp) ?_
  · exact Kept.ite (by simp) <| Kept.ite (by simp) <| Kept.ite (by simp) <| Kept.ite (by simp) <| Kept.ite (by simp) <|
      Kept.ite (by simp) <| Kept.ite (by simp) (by simp)
  · refine s.modEngine_kept i ?_
    split <;> simp
  · refine s.modScs_kept (fun h => ?_)
    repeat' split
    all_goals exact h
  · split <;> simp

@[simp] theorem State.afterRead_kept (o : Obj) : Kept s (s.afterRead o) := by
  unfold State.afterRead
  repeat' split
  all_goals simp

@[simp] theorem State.afterSet_kept (s0 : State) (base i : Nat) : Kept s (s.afterSet s0 base i) := by
  unfold State.afterSet
  have htiming : ∀ (b : Bool) (u : State), Kept s u → Kept s (if b then u.setTiming i else u) := fun b u hu =>
    Kept.ite (Kept.frame (State.setTiming · i) (by simp) hu) hu
  have hboot : ∀ b : BootSt, b.bankA = s.boot.bankA → b.bankB = s.boot.bankB → Kept s { s with boot := b } := fun b hA hB =>
    Kept.of_same ⟨rfl, rfl, rfl, rfl, rfl, rfl, hA, hB, rfl⟩
  refine Kept.frame (State.queueConfig · s0) (by simp) (htiming _ _ ?_)
  dsimp only
  generalize decide (s0.par base i ≠ s.par base i) = changed
  exact Kept.ite (by simp) <| Kept.ite (by cases changed <;> simp) <| Kept.ite (by cases changed <;> simp) <|
    Kept.ite (by cases changed <;> simp) <| Kept.ite (by simp) <| Kept.ite (by cases changed <;> simp) <|
    Kept.ite (by simp) <| Kept.ite (hboot _ rfl rfl) <| Kept.ite (hboot _ rfl rfl) (Kept.refl s)

@[simp] theorem State.landWrite_kept (id : Nat) (v : Int) : Kept s (s.landWrite id v) := by
  unfold State.landWrite
  split
  · split
    · simp
    · exact (s.setPar_kept _ _).trans (State.afterSet_kept _ _ _ _)
  · exact s.w1c_kept _ _ _
  · exact Kept.refl s

@[simp] theorem State.landOne_kept (ready : List ParWrite) (w : ParWrite) : Kept s (State.landOne ready s w) := by
  unfold State.landOne
  dsimp only
  split
  · exact Kept.frame (State.replyLater · _ _ _ _) (by simp) (Kept.ite (s.landWrite_kept _ _) (Kept.refl s))
  · simp

end Writes

section Flash

variable (s : State)

/-- A change of the boot state keeps every memory when it keeps the two banks. -/
theorem State.boot_kept {b : BootSt} (hA : swf (fun _ => 0xFF) 0 s.boot.bankA.flash = true → swf (fun _ => 0xFF) 0 b.bankA.flash = true)
    (hB : swf (fun _ => 0xFF) 0 s.boot.bankB.flash = true → swf (fun _ => 0xFF) 0 b.bankB.flash = true) : Kept s { s with boot := b } :=
  Kept.of_parts id id id hA hB id

theorem Bank.write_wf {b : Bank} (off : Nat) (data : List Byte) (h : swf (fun _ => 0xFF) 0 b.flash = true) :
    swf (fun _ => 0xFF) 0 (b.write off data).flash = true := swf_sputs _ _ _ _ h

@[simp] theorem State.writeKeys_kept (k : KeyStore) : Kept s (s.writeKeys k) := by
  unfold State.writeKeys
  refine Kept.frame (State.put · _) (by simp) (Kept.frame (State.put · _) (by simp) ?_)
  exact Kept.of_parts id id id (Bank.write_wf _ _) (Bank.write_wf _ _) id

@[simp] theorem State.takeKeys_kept (keys : List (List Byte)) : Kept s (s.takeKeys keys) :=
  Kept.ite (s.writeKeys_kept _) (Kept.refl s)

@[simp] theorem State.storeKey_kept (role : Nat) (key : List Byte) : Kept s (s.storeKey role key) := by
  unfold State.storeKey
  exact Kept.frame (State.raise · _ _ _ _) (by simp) (s.writeKeys_kept _)

end Flash

section Boot

variable (s : State)

@[simp] theorem State.loadItem_kept (x : ParItem) : Kept s (s.loadItem x) := by
  unfold State.loadItem
  split <;> simp

@[simp] theorem State.loadItems_kept (items : List ParItem) : Kept s (s.loadItems items) := Kept.foldl State.loadItem_kept items s

@[simp] theorem State.bootSchedule_kept (n : Nat) (c : Schedule) : Kept s (s.bootSchedule n c) := by
  unfold State.bootSchedule
  refine Kept.frame (State.modSeg · _ _) (by simp) ?_
  exact ((((((((s.setPar_kept _ _).trans (State.setPar_kept _ _ _)).trans (State.setPar_kept _ _ _)).trans (State.setPar_kept _ _ _)).trans
    (State.setPar_kept _ _ _)).trans (State.setPar_kept _ _ _)).trans (State.setPar_kept _ _ _)).trans (State.setPar_kept _ _ _))

@[simp] theorem State.loadEngines_kept (programs : List (BitVec 64)) (consts : List Word48) : Kept s (s.loadEngines programs consts) := by
  refine Kept.foldl (fun t e => ?_) _ s
  refine State.setEngine_kept e (fun _ => ?_) (fun _ => Nat.zero_le 4)
  exact (Engine.memWf_iff _).mpr ⟨rfl, swf_sputs _ _ _ _ rfl, swf_sputs _ _ _ _ rfl, rfl, rfl, rfl⟩

@[simp] theorem State.loadSegments_kept (l : List (BitVec 16 × PvtSeg)) : Kept s (s.loadSegments l) := by
  refine Kept.foldl (fun t x => Kept.ite ((t.putPvt_kept _ _).trans (Kept.ite (Kept.refl _) ?_)) (Kept.refl t)) l s
  exact Kept.of_same (by simp)

@[simp] theorem State.loadBank_kept (b : BankImage) : Kept s (s.loadBank b) := by
  unfold State.loadBank
  refine Kept.trans ?_ (State.applySection_kept _ _)
  refine Kept.frame State.setTimings (by simp) ?_
  refine Kept.trans ?_ (Kept.foldl (fun t n => by split <;> simp) _ _)
  refine Kept.trans ?_ (Kept.foldl (fun t a => by split <;> simp) _ _)
  refine Kept.trans ?_ (Kept.foldl (fun t x => by simp) _ _)
  refine Kept.trans ?_ (State.loadSegments_kept _ _)
  refine Kept.trans ?_ (State.loadEngines_kept _ _ _)
  exact (s.loadItems_kept _).trans (Kept.foldl (fun t x => by simp) _ _)

@[simp] theorem State.finishBoot_kept (n : Nat) (b : BankImage) : Kept s (s.finishBoot n b) := by
  unfold State.finishBoot
  refine Kept.ite ?_ (Kept.trans ?_ (State.beginOpening_kept _))
  · simp
  · simp

end Boot

end Sys2Proof.Machine
end
section
/-! O60, part 10: the commands that write a memory keep every memory. -/

namespace Sys2Proof.Machine

/-! Engine service (R174, R484, R485). -/

section Service

variable (s : State)

@[simp] theorem execRotationDue_keeps : Keeps s (execRotationDue s) := by
  unfold execRotationDue
  dsimp only
  split
  · refine keeps_next.mpr (Kept.trans ?_ (State.retryRotation_kept _))
    exact s.withBoot_kept rfl rfl
  · simp

@[simp] theorem execSvcEngineRotate_keeps (c : CmdCtx) (engine : BitVec 8) : Keeps s (execSvcEngineRotate c engine s) := by
  refine State.hostCommand_keeps _ _ _ _ (fun t => ?_)
  split
  · simp
  split
  · simp
  split
  · simp
  · exact (t.beginRotation_kept engine.toNat).trans (Kept.of_same (by simp))

theorem State.withArb_kept (x : Arbiter) : Kept s { s with arb := x } :=
  Kept.of_same ⟨rfl, rfl, rfl, rfl, rfl, rfl, rfl, rfl, rfl⟩

@[simp] theorem execHeatTick_keeps (temps : List Int) (act : Activity) : Keeps s (execHeatTick temps act s) := by
  unfold execHeatTick
  extract_lets oks good tMax busy pEst mask allowed fault hot calm p exhausted tell s1 arb s2 s3
  clear_value oks good tMax busy pEst mask allowed fault hot calm p exhausted tell
  have h1 : Kept s s1 := Kept.trans (by simp) (State.takeBusy_kept _)
  clear_value s1
  have h2 : Kept s1 s2 := s1.withArb_kept _
  clear_value s2
  have h3 : Kept s2 s3 := Kept.ite (by simp) (Kept.refl s2)
  clear_value s3
  split
  · refine keeps_next.mpr (Kept.trans ?_ (State.retryRotation_kept _))
    exact Kept.frame (State.setTrim · _) (by simp) ((h1.trans h2).trans h3)
  · simp

/-- The end of a self-test keeps every memory: the engine's scratch memory starts anew. -/
theorem State.testEnded_kept (e : Nat) (pass : Bool) : Kept s (s.testEnded e pass) := by
  unfold State.testEnded
  refine Kept.trans (t := State.cmdDone? _ _ 0x0F01 e stDone) ?_ (State.withBoot_kept _ rfl rfl)
  refine Kept.frame (State.cmdDone? · _ _ _ _) (by simp) ?_
  refine Kept.frame (State.raise · _ _ _ _) (by simp) ?_
  refine Kept.frame (State.useFree · 1) (by simp) ?_
  refine State.setEngine_kept e (fun hx => ?_) id
  obtain ⟨-, hrest⟩ := (Engine.memWf_iff _).mp hx
  exact (Engine.memWf_iff _).mpr ⟨rfl, hrest⟩

@[simp] theorem execRotationDone_keeps (e : EngIx) (pass : Bool) : Keeps s (execRotationDone e pass s) := by
  by_cases hdone : (s.engine e.val).rotated = true ∧ (s.engine e.val).rotStart + 40000000 ≤ s.coreTicks
  · have hexec : execRotationDone e pass s = _ := exec_rotationDone_due hdone
    rw [hexec]
    exact keeps_next.mpr (Kept.ite (s.testEnded_kept e.val pass) ((s.testEnded_kept e.val pass).trans (State.engineFail_kept _ _ _)))
  · have hexec : execRotationDone e pass s = _ := exec_rotationDone_early hdone
    rw [hexec]
    simp

@[simp] theorem execEngineFailed_keeps (e : EngIx) (self : Bool) : Keeps s (execEngineFailed e self s) :=
  keeps_next.mpr (s.engineFail_kept _ _)

@[simp] theorem execEngineWatchdog_keeps (e : EngIx) : Keeps s (execEngineWatchdog e s) := by
  unfold execEngineWatchdog
  split
  · simp
  · exact keeps_next.mpr (Kept.ite (s.taskFault_kept _ _ _ _) (Kept.refl s))

@[simp] theorem execScrubPeriod_keeps (corrected : Nat) (doubles : List ScrubSite) : Keeps s (execScrubPeriod corrected doubles s) := by
  unfold execScrubPeriod
  split
  · refine keeps_next.mpr (Kept.trans ?_ (Kept.foldl (fun t d => t.scrubError_kept d) doubles _))
    exact s.withBoot_kept rfl rfl
  · simp

@[simp] theorem execEngineDispatch_keeps (e : EngIx) : Keeps s (execEngineDispatch e s) := by
  unfold execEngineDispatch
  extract_lets x tested
  clear_value tested
  split
  · split <;> simp
  · simp

end Service

/-! The axes and the profiles. -/

section Axes

variable (s : State)

@[simp] theorem execSegmentWriteLand_keeps : Keeps s (execSegmentWriteLand s) := by
  unfold execSegmentWriteLand
  extract_lets now later
  refine keeps_next.mpr (Kept.trans (t := { s with eng := { s.eng with segWaiting := later } }) (by simp) (Kept.foldl (fun t w => ?_) _ _))
  clear_value now later
  split
  · simp
  · extract_lets t1 g t2
    have h1 : Kept t t1 := Kept.foldl (fun u p => u.putPvt_kept _ _) _ t
    have h2 : Kept t1 t2 := Kept.of_same ⟨rfl, rfl, rfl, rfl, rfl, rfl, rfl, rfl, rfl⟩
    clear_value t2
    exact (h1.trans h2).trans (by simp)

@[simp] theorem execCoefWriteLand_keeps (a : AxisIx) : Keeps s (execCoefWriteLand a s) :=
  keeps_next.mpr (Kept.ite (Kept.refl s) ((s.swapTable_kept _).trans (State.landCoefs_kept _ _)))

@[simp] theorem execLineLost_keeps : Keeps s (execLineLost s) := by
  unfold execLineLost
  dsimp only
  split <;> simp

@[simp] theorem execAxFaultReset_keeps (c : CmdCtx) (axis : BitVec 16) : Keeps s (execAxFaultReset c axis s) := by
  refine State.hostCommand_keeps _ _ _ _ (fun t => ?_)
  dsimp only
  split
  · simp
  split
  · exact Kept.frame (State.modLife · _ _) (by simp) (Kept.ite (t.clearLearner_kept _) (Kept.refl t))
  · simp

@[simp] theorem execRefSeal_keeps : Keeps s (execRefSeal s) := by
  unfold execRefSeal
  extract_lets k s1 s2 s3 s4 s5 s6 s7
  have h1 : Kept s s1 := Kept.foldl (fun t a => t.sealAxis_kept k a) _ s
  have h2 : Kept s1 s2 := by simp [s2]
  have h3 : Kept s2 s3 := Kept.foldl (fun t a => Kept.ite (t.flushPlan_kept a k) (Kept.refl t)) _ s2
  clear_value s1 s2 s3
  have h4 : Kept s3 s4 := by
    refine Kept.frame State.settleStarts (by simp) (Kept.trans ?_ (State.sealArbiter_kept _ k))
    simp
  have h5 : Kept s4 s5 := by simp [s5]
  have h6 : Kept s5 s6 := by simp [s6]
  have h7 : Kept s6 s7 := Kept.trans (by simp) (State.scsSeal_kept _ k)
  clear_value s4 s5 s6 s7
  split
  · simp
  · exact keeps_next.mpr (h1.trans (h2.trans (h3.trans (h4.trans (h5.trans (h6.trans (h7.trans (s7.withCyc_kept _))))))))

end Axes

/-! The parameters and the network. -/

section Parameters

variable (s : State)

@[simp] theorem execSafParamActivate_keeps : Keeps s (execSafParamActivate s) := by
  unfold execSafParamActivate
  split
  · simp
  · rename_i p _
    extract_lets _ s1
    have h1 : Kept s s1 := Kept.frame (State.queueConfig · s) (by simp) ((s.withSaf_kept _).trans (State.applySection_kept _ _))
    clear_value s1
    split
    · exact keeps_next.mpr (h1.trans (by simp))
    · simp

@[simp] theorem execNetOpening_keeps (c : CmdCtx) : Keeps s (execNetOpening c s) := by
  refine State.hostCommand_keeps _ _ _ _ (fun t => ?_)
  extract_lets t1 _
  have h1 : Kept t t1 := t.beginOpening_kept
  clear_value t1
  split
  · simp
  split
  · simp
  split
  · simp
  · exact h1.trans (t1.withBoot_kept rfl rfl)

theorem State.setSeg_kept (n : Nat) (x : Segment) : Kept s (s.setSeg n x) :=
  Kept.of_same ⟨rfl, rfl, rfl, rfl, rfl, rfl, rfl, rfl, rfl⟩

@[simp] theorem execNetSchedLoad_keeps (c : CmdCtx) (seg : BitVec 8) (sched : Schedule) : Keeps s (execNetSchedLoad c seg sched s) := by
  refine State.hostCommand_keeps _ _ _ _ (fun t => ?_)
  extract_lets n
  have hstored : Kept t (t.modSeg n (fun g => { g with pending := some sched })) := t.setSeg_kept n _
  refine AnsKept.ite trivial ?_
  refine AnsKept.ite trivial ?_
  refine AnsKept.ite trivial ?_
  generalize t.modSeg n (fun g => { g with pending := some sched }) = u at hstored ⊢
  generalize t.engineLoad = load
  generalize periodOf sched.period = period
  exact AnsKept.ite (a := .refuse stLoad []) trivial hstored

@[simp] theorem execNetNodeRemove_keeps (c : CmdCtx) (seg addr : BitVec 8) : Keeps s (execNetNodeRemove c seg addr s) := by
  refine State.hostCommand_keeps _ _ _ _ (fun t => ?_)
  extract_lets n a axes t1 t2
  have h1 : Kept t t1 := Kept.foldl (fun u i => by simp) axes t
  have h2 : Kept t1 t2 := by simp [t2]
  clear_value axes t1 t2
  split
  · simp
  split
  · simp
  split
  · simp
  · exact (h1.trans h2).trans (t2.setPar_kept _ _)

@[simp] theorem execParGet_keeps (c : CmdCtx) (ids : List (BitVec 32)) : Keeps s (execParGet c ids s) := by
  refine State.hostAt_keeps _ _ _ _ _ (fun t => ?_)
  split
  · simp
  · refine Kept.foldl (fun u i => ?_) ids t
    split <;> simp

@[simp] theorem execParameterWriteLand_keeps : Keeps s (execParameterWriteLand s) :=
  keeps_next.mpr ((s.withHost_kept _).trans (Kept.foldl (fun t w => t.landOne_kept _ w) _ _))

end Parameters

/-! The Scoresheet and wall time. -/

section Trace

variable (s : State)

@[simp] theorem execScsTick_keeps : Keeps s (execScsTick s) := by
  unfold execScsTick
  extract_lets t s0 s1 q
  have h0 : Kept s s0 := s.modScs_kept id
  have h1 : Kept s0 s1 := s0.sampleTick_kept t
  have hq : Kept s1 q.1 := by simp [q]
  have hplain : Kept s (s0.sampleTick t).writePort := (h0.trans h1).trans (State.writePort_kept _)
  have hacts : Kept q.1 (q.1.actFires t q.2).writePort := Kept.trans (Kept.of_same (by simp)) (State.writePort_kept _)
  clear_value s0 s1 q
  split
  · split
    · exact keeps_next.mpr hplain
    · exact keeps_next.mpr hplain
    · exact keeps_next.mpr (((h0.trans h1).trans hq).trans hacts)
  · simp

@[simp] theorem execScsArm_keeps (c : CmdCtx) : Keeps s (execScsArm c s) := by
  refine State.hostCommand_keeps _ _ _ _ (fun t => ?_)
  repeat' split
  all_goals simp

@[simp] theorem execTimeStep_keeps : Keeps s (execTimeStep s) := by
  unfold execTimeStep
  split <;> simp

end Trace

/-! The twin link. -/

section Twin

variable (s : State)

@[simp] theorem execMismatchTestStart_keeps : Keeps s (execMismatchTestStart s) := by
  unfold execMismatchTestStart
  dsimp only
  split
  · simp
  split
  · simp
  · refine keeps_next.mpr (Kept.trans ?_ (State.settleTests_kept _))
    refine Kept.frame (State.modTwin · _) (by simp) (Kept.frame (State.put · _) (by simp) ?_)
    refine Kept.trans ?_ (State.modEngine_kept _ _ (by simp))
    simp

@[simp] theorem execTest_keeps (env : TwinEnv) (engine : EngIx) (peerPass : Bool) : Keeps s (execTest env engine peerPass s) := by
  refine State.twinTake_keeps (fun t => ?_) s env
  split
  · simp
  · refine Kept.trans ?_ (State.settleTests_kept _)
    simp

@[simp] theorem execResync_keeps (env : TwinEnv) (addr : Nat) (words : List Word48) : Keeps s (execResync env addr words s) := by
  refine State.twinTake_keeps (fun t => ?_) s env
  split
  · refine Kept.frame (State.modTwin · _) (by simp) ?_
    refine Kept.ite (t.context_kept (swf_sputs _ _ _ _)) <| Kept.ite (t.pool_kept (swf_sputs _ _ _ _)) <|
      Kept.ite (t.segPool_kept (swf_sputs _ _ _ _)) <| Kept.ite (t.lineBlock_kept (swf_sputs _ _ _ _)) (Kept.refl t)
  · simp

/-- What a joining unit takes from the JOIN message keeps every memory: its parameters start from the defaults. -/
@[simp] theorem execJoinBoundary_keeps (env : TwinEnv) (m : JoinMsg) : Keeps s (execJoinBoundary env m s) := by
  refine State.twinTake_keeps (fun t => ?_) s env
  extract_lets st u _ _ _ _ _ s1 _ s2 s3
  have hu : Kept t u := t.takeKeys_kept m.keys
  have h1 : Kept u s1 := Kept.of_parts id id id id id (fun _ => swf_foldl_sput paramDefault _ _ m.params [] rfl)
  clear_value u s1
  have h2 : Kept s1 s2 := (s1.withSaf_kept _).trans (State.applyNet_kept _)
  clear_value s2
  have h3 : Kept s2 s3 := Kept.foldl (fun v n => Kept.ite (by simp) (Kept.refl v)) _ s2
  clear_value s3
  split
  · exact (((hu.trans h1).trans h2).trans h3).trans (Kept.foldl (fun v x => by simp) _ s3)
  · simp

end Twin

/-! Keys, flash, boot and resets. -/

section Boot

variable (s : State)

@[simp] theorem execFlashWriteComplete_keeps (ok : Bool) : Keeps s (execFlashWriteComplete ok s) := by
  unfold execFlashWriteComplete
  split
  · split
    · exact keeps_next.mpr (Kept.frame (State.replyLater · _ _ _ _) (by simp) (s.storeKey_kept _ _))
    · simp
  split
  · simp
  · rename_i c bank off data _
    extract_lets _ s1 _ a b s2
    have h1 : Kept s s1 := s.withBoot_kept rfl rfl
    have h2 : Kept s1 s2 := Kept.ite (s1.boot_kept (Bank.write_wf _ _) id) (s1.boot_kept id (Bank.write_wf _ _))
    clear_value s1 s2
    split
    · exact keeps_next.mpr ((h1.trans h2).trans (by simp))
    · exact keeps_next.mpr (h1.trans (by simp))

@[simp] theorem execPorstN_keeps (twinPresent twinRole : Bool) (bootsel : ResetPins) : Keeps s (execPorstN twinPresent twinRole bootsel s) := by
  refine keeps_next.mpr (Kept.of_parts (fun _ => rfl) (fun _ => rfl) (fun _ => rfl) id id (fun _ => rfl))

/-- A reset of the control side keeps every memory: all but the flash banks and the given parameters start anew. -/
theorem State.controlReset_kept (cause : Nat) (saf : Safety) (time : WallTime) {params : Sparse Int} (fld : FieldCtl)
    (hpar : swf paramDefault 0 s.params = true → swf paramDefault 0 params = true) :
    Kept s (s.controlReset cause saf time params fld) :=
  Kept.of_parts (fun _ => rfl) (fun _ => rfl) (fun _ => rfl) id id hpar

@[simp] theorem execResetN_keeps (bootsel : ResetPins) : Keeps s (execResetN bootsel s) := by
  unfold execResetN
  extract_lets due cause held quiet s0 _ _ _ saf params s1
  have h0 : Kept s s0 := Kept.ite (Kept.refl s) (by simp)
  have hparams : swf paramDefault 0 s0.params = true → swf paramDefault 0 params = true := fun h => by
    unfold params
    split
    · exact h
    · rfl
  have h1 : Kept s0 s1 := s0.controlReset_kept _ _ _ _ hparams
  clear_value s0 s1
  exact keeps_next.mpr ((h0.trans h1).trans (s1.withBoot_kept rfl rfl))

/-- A boot that has read the two banks keeps every memory: what it notes about the banks leaves their flash as it was. -/
theorem State.withBanks_kept {s t : State} {b : BootSt} (h : Kept s t) (hA : b.bankA.flash = s.boot.bankA.flash)
    (hB : b.bankB.flash = s.boot.bankB.flash) : Kept s { t with boot := b } := by
  refine ⟨fun w => ?_, h.2⟩
  obtain ⟨heng, htrace, -, -, hpar⟩ := t.memWf_iff.mp (h.1 w)
  obtain ⟨-, -, hflashA, hflashB, -⟩ := s.memWf_iff.mp w
  exact (State.memWf_iff _).mpr ⟨heng, htrace, hA.symm ▸ hflashA, hB.symm ▸ hflashB, hpar⟩

@[simp] theorem execBootComplete_keeps (flashOk : Bool) (a b : BankImage) : Keeps s (execBootComplete flashOk a b s) := by
  unfold execBootComplete
  extract_lets ta tb va vb know
  have hknow : ∀ t, Kept s t → Kept s (know t) := fun t h => State.withBanks_kept h rfl rfl
  have ha : Kept s ta := s.loadBank_kept a
  have hb : Kept s tb := s.loadBank_kept b
  clear_value ta tb va vb know
  refine (keeps_whenB _).mpr ⟨fun _ => Kept.refl s, fun _ => ?_⟩
  split
  · exact (hknow ta ha).trans (State.finishBoot_kept _ _ _)
  · exact (hknow tb hb).trans (State.finishBoot_kept _ _ _)
  · exact (hknow s (Kept.refl s)).trans (by simp)

theorem State.setBank_kept (n : Nat) {b : Bank} (hb : swf (fun _ => 0xFF) 0 (s.bankOf n).flash = true → swf (fun _ => 0xFF) 0 b.flash = true) :
    Kept s (s.setBank n b) := by
  unfold State.setBank
  unfold State.bankOf at hb
  split at hb
  · rw [if_pos ‹_›]
    exact s.boot_kept hb id
  · rw [if_neg ‹_›]
    exact s.boot_kept id hb

theorem Bank.view_flash (b : Bank) : b.view.flash = b.flash := by
  unfold Bank.view
  split <;> rfl

@[simp] theorem execImgActivate_keeps (c : CmdCtx) : Keeps s (execImgActivate c s) := by
  refine State.hostAt_keeps _ _ _ _ _ (fun t => ?_)
  extract_lets n b other q _ s1
  have h1 : Kept t s1 := t.setBank_kept n (fun h => Bank.write_wf _ _ (by rw [Bank.view_flash]; exact h))
  clear_value s1
  split
  · simp
  split
  · simp
  · exact h1.trans (by simp)

end Boot

end Sys2Proof.Machine
end
section
/-! O60, part 11: the commands that write no memory. -/

namespace Sys2Proof.Machine

@[simp] theorem execDmax_keeps (a : AxisIx) (s : State) : Keeps s (execDmax a s) := by
  unfold execDmax
  repeat' split
  all_goals simp

@[simp] theorem execArbQueueRead_keeps (c : CmdCtx) (group : BitVec 8) (start : BitVec 16) (s : State) :
    Keeps s (execArbQueueRead c group start s) := by
  refine State.hostAt_keeps _ _ _ _ _ (fun t => ?_)
  split <;> simp

@[simp] theorem execArbBudgetSet_keeps (c : CmdCtx) (which : BitVec 8) (values : List (BitVec 32)) (s : State) :
    Keeps s (execArbBudgetSet c which values s) := by
  refine State.hostCommand_keeps _ _ _ _ (fun t => ?_)
  dsimp only
  generalize Bool.not _ = bad
  cases bad <;> simp

@[simp] theorem execBarrierFramePeriod_keeps (s : State) : Keeps s (execBarrierFramePeriod s) := by
  unfold execBarrierFramePeriod
  split <;> simp

@[simp] theorem execFieldDownlinkReceive_keeps (b : Barrier) (bytes : List Byte) (s : State) : Keeps s (execFieldDownlinkReceive b bytes s) := by
  unfold execFieldDownlinkReceive
  repeat' split
  all_goals simp

@[simp] theorem execFieldMUplinkReceive_keeps (bytes : List Byte) (s : State) : Keeps s (execFieldMUplinkReceive bytes s) := by
  unfold execFieldMUplinkReceive
  dsimp only
  repeat' split
  all_goals simp

@[simp] theorem execFieldHUplinkReceive_keeps (bytes : List Byte) (s : State) : Keeps s (execFieldHUplinkReceive bytes s) := by
  unfold execFieldHUplinkReceive
  dsimp only
  repeat' split
  all_goals simp

@[simp] theorem execFiSampleWindow_keeps (test : Bool) (deciVolts : List Nat) (s : State) : Keeps s (execFiSampleWindow test deciVolts s) := by
  simp [execFiSampleWindow]

@[simp] theorem execTestPulse_keeps (k : Fin 2) (s : State) : Keeps s (execTestPulse k s) := by
  simp [execTestPulse]

@[simp] theorem execTestPulseEnd_keeps (k : Fin 2) (s : State) : Keeps s (execTestPulseEnd k s) := by
  unfold execTestPulseEnd
  split <;> simp

@[simp] theorem execOffPulse_keeps (j : FqIx) (s : State) : Keeps s (execOffPulse j s) := by
  unfold execOffPulse
  dsimp only
  split <;> simp

@[simp] theorem execOffPulseJudge_keeps (j : FqIx) (s : State) : Keeps s (execOffPulseJudge j s) := by
  unfold execOffPulseJudge
  dsimp only
  repeat' split
  all_goals simp

@[simp] theorem execOffPulseEnd_keeps (j : FqIx) (s : State) : Keeps s (execOffPulseEnd j s) := by
  unfold execOffPulseEnd
  repeat' split
  all_goals simp

@[simp] theorem execReadbackSample_keeps (deciVolts : List Int) (s : State) : Keeps s (execReadbackSample deciVolts s) := by
  unfold execReadbackSample
  split
  · dsimp only
    generalize hu : List.foldl _ s _ = u
    have hsu : Kept s u := by rw [← hu]; simp
    generalize hv : List.foldl _ u _ = v
    have huv : Kept u v := by
      rw [← hv]
      exact Kept.foldl (fun w j => by repeat' split <;> simp) _ u
    refine keeps_next.mpr ((hsu.trans huv).trans (Kept.ite (Kept.refl v) ?_))
    exact Kept.foldl (fun w j => Kept.foldl (fun z k => by split <;> simp) _ w) _ v
  · simp

@[simp] theorem execOverload_keeps (j : FqIx) (limiting : Bool) (s : State) : Keeps s (execOverload j limiting s) := by
  simp [execOverload]

@[simp] theorem execThermalShutdown_keeps (j : FqIx) (tj : Int) (s : State) : Keeps s (execThermalShutdown j tj s) := by
  simp [execThermalShutdown]

@[simp] theorem execCoolDownEnd_keeps (j : FqIx) (tj : Int) (s : State) : Keeps s (execCoolDownEnd j tj s) := by
  simp [execCoolDownEnd]

@[simp] theorem execDemagEnd_keeps (j : FqIx) (pinMilliVolts : Int) (s : State) : Keeps s (execDemagEnd j pinMilliVolts s) := by
  simp [execDemagEnd]

@[simp] theorem execDemagLong_keeps (j : FqIx) (s : State) : Keeps s (execDemagLong j s) := by
  simp [execDemagLong]

@[simp] theorem execSafetyLinkDisagree_keeps (j : FqIx) (s : State) : Keeps s (execSafetyLinkDisagree j s) := by
  unfold execSafetyLinkDisagree
  dsimp only
  split <;> simp

@[simp] theorem execTimedOrderFire_keeps (tag : BitVec 16) (s : State) : Keeps s (execTimedOrderFire tag s) := by
  unfold execTimedOrderFire
  repeat' split
  all_goals simp

@[simp] theorem execSupplyMeasure_keeps (vf : BitVec 16) (vqa : BitVec 16) (vqb : BitVec 16) (s : State) :
    Keeps s (execSupplyMeasure vf vqa vqb s) := by
  simp [execSupplyMeasure]

@[simp] theorem execVfWarn_keeps (s : State) : Keeps s (execVfWarn s) := by
  simp [execVfWarn]

@[simp] theorem execVfLow_keeps (s : State) : Keeps s (execVfLow s) := by
  simp [execVfLow]

@[simp] theorem execVfOff_keeps (grp : Fin 2) (s : State) : Keeps s (execVfOff grp s) := by
  simp [execVfOff]

@[simp] theorem execSupplyThresholdClear_keeps (s : State) : Keeps s (execSupplyThresholdClear s) := by
  simp [execSupplyThresholdClear]

@[simp] theorem execRestartOk_keeps (grp : Fin 2) (s : State) : Keeps s (execRestartOk grp s) := by
  unfold execRestartOk
  split <;> simp

@[simp] theorem execFieldDieReset_keeps (vf : BitVec 16) (s : State) : Keeps s (execFieldDieReset vf s) := by
  simp [execFieldDieReset]

@[simp] theorem execFieldDieResetRelease_keeps (vf : BitVec 16) (s : State) : Keeps s (execFieldDieResetRelease vf s) := by
  simp [execFieldDieResetRelease]

@[simp] theorem execFieldWatchdog_keeps (s : State) : Keeps s (execFieldWatchdog s) := by
  simp [execFieldWatchdog]

@[simp] theorem execTHoldExpiry_keeps (s : State) : Keeps s (execTHoldExpiry s) := by
  simp [execTHoldExpiry]

@[simp] theorem execFieldWatchdogClear_keeps (s : State) : Keeps s (execFieldWatchdogClear s) := by
  simp [execFieldWatchdogClear]

@[simp] theorem execFldOutSet_keeps (c : CmdCtx) (mask levels : BitVec 8) (s : State) : Keeps s (execFldOutSet c mask levels s) := by
  refine State.hostCommand_keeps _ _ _ _ (fun t => ?_)
  dsimp only
  repeat' split
  all_goals simp

@[simp] theorem execFldLatchClear_keeps (c : CmdCtx) (mask : BitVec 8) (s : State) : Keeps s (execFldLatchClear c mask s) := by
  refine State.hostCommand_keeps _ _ _ _ (fun t => ?_)
  dsimp only
  split <;> simp

@[simp] theorem execFldRestart_keeps (c : CmdCtx) (s : State) : Keeps s (execFldRestart c s) := by
  refine State.hostCommand_keeps _ _ _ _ (fun t => ?_)
  split <;> simp

@[simp] theorem execAxMoveAbs_keeps (c : CmdCtx) (axis : BitVec 16) (target vm am dm : Word48) (jm : Word48) (s : State) :
    Keeps s (execAxMoveAbs c axis target vm am dm jm s) := by
  refine State.hostCommand_keeps _ _ _ _ (fun t => ?_)
  dsimp only
  repeat' split
  all_goals simp

@[simp] theorem execAxHalt_keeps (c : CmdCtx) (axis : BitVec 16) (dec : Word48) (s : State) : Keeps s (execAxHalt c axis dec s) := by
  refine State.hostCommand_keeps _ _ _ _ (fun t => ?_)
  dsimp only
  repeat' split
  all_goals simp

@[simp] theorem execAxHome_keeps (c : CmdCtx) (axis : BitVec 16) (dir : BitVec 8) (s : State) : Keeps s (execAxHome c axis dir s) := by
  refine State.hostCommand_keeps _ _ _ _ (fun t => ?_)
  dsimp only
  repeat' split
  all_goals simp

@[simp] theorem execProStart_keeps (c : CmdCtx) (axis : BitVec 16) (first : BitVec 16) (mode : BitVec 8) (s : State) :
    Keeps s (execProStart c axis first mode s) := by
  refine State.hostCommand_keeps _ _ _ _ (fun t => ?_)
  dsimp only
  repeat' split
  all_goals simp

@[simp] theorem execProContinue_keeps (c : CmdCtx) (axis : BitVec 16) (s : State) : Keeps s (execProContinue c axis s) := by
  refine State.hostCommand_keeps _ _ _ _ (fun t => ?_)
  dsimp only
  repeat' split
  all_goals simp

@[simp] theorem execProGroupLinear_keeps (c : CmdCtx) (group : BitVec 8) (f a dp j : Word48) (targets : List (BitVec 16 × Word48)) (s : State) :
    Keeps s (execProGroupLinear c group f a dp j targets s) := by
  refine State.hostCommand_keeps _ _ _ _ (fun t => ?_)
  dsimp only
  repeat' split
  all_goals simp

@[simp] theorem execProSegWrite_keeps (c : CmdCtx) (first : BitVec 16) (segs : List PvtSeg) (s : State) :
    Keeps s (execProSegWrite c first segs s) := by
  refine State.hostCommand_keeps _ _ _ _ (fun t => ?_)
  dsimp only
  repeat' split
  all_goals simp

@[simp] theorem execProSegRead_keeps (c : CmdCtx) (first : BitVec 16) (count : BitVec 8) (s : State) :
    Keeps s (execProSegRead c first count s) := by
  refine State.hostAt_keeps _ _ _ _ _ (fun t => ?_)
  dsimp only
  split <;> simp

@[simp] theorem execStallDetect_keeps (a : AxisIx) (s : State) : Keeps s (execStallDetect a s) := by
  unfold execStallDetect
  dsimp only
  split <;> simp

@[simp] theorem execHomeFail_keeps (a : AxisIx) (s : State) : Keeps s (execHomeFail a s) := by
  unfold execHomeFail
  dsimp only
  split <;> simp

@[simp] theorem execHomingComplete_keeps (a : AxisIx) (s : State) : Keeps s (execHomingComplete a s) := by
  unfold execHomingComplete
  dsimp only
  split <;> simp

@[simp] theorem execDirectMiss_keeps (a : AxisIx) (s : State) : Keeps s (execDirectMiss a s) := by
  unfold execDirectMiss
  dsimp only
  split <;> simp

@[simp] theorem execAxDirect_keeps (c : CmdCtx) (axis : BitVec 16) (op : BitVec 8) (refs : List DirectRef) (s : State) :
    Keeps s (execAxDirect c axis op refs s) := by
  refine State.hostCommand_keeps _ _ _ _ (fun t => ?_)
  dsimp only
  repeat' split
  all_goals simp

@[simp] theorem execSpeedDiscrepancy_keeps (a : AxisIx) (s : State) : Keeps s (execSpeedDiscrepancy a s) := by
  simp [execSpeedDiscrepancy]

@[simp] theorem execSs1Tmax_keeps (ch : Chan) (g : GroupIx) (s : State) : Keeps s (execSs1Tmax ch g s) := by
  unfold execSs1Tmax
  dsimp only
  split <;> simp

@[simp] theorem execStandstillConfirm_keeps (ch : Chan) (g : GroupIx) (s : State) : Keeps s (execStandstillConfirm ch g s) := by
  unfold execStandstillConfirm
  dsimp only
  repeat' split
  all_goals simp

@[simp] theorem execUplinkInvalidRun_keeps (a : AxisIx) (s : State) : Keeps s (execUplinkInvalidRun a s) := by
  simp [execUplinkInvalidRun]

@[simp] theorem execUpTimeout_keeps (a : AxisIx) (s : State) : Keeps s (execUpTimeout a s) := by
  simp [execUpTimeout]

@[simp] theorem execIslandSeqReport_keeps (s : State) : Keeps s (execIslandSeqReport s) := by
  simp [execIslandSeqReport]

@[simp] theorem execSafTapReceive_keeps (f : RxFrame) (s0 : State) : Keeps s0 (execSafTapReceive f s0) := by
  unfold execSafTapReceive
  dsimp only
  repeat' split
  all_goals simp

@[simp] theorem execChannelPFailure_keeps (selfCheck : Bool) (s : State) : Keeps s (execChannelPFailure selfCheck s) := by
  simp [execChannelPFailure]

@[simp] theorem execChannelHFailure_keeps (crcUnits : Bool) (s : State) : Keeps s (execChannelHFailure crcUnits s) := by
  simp [execChannelHFailure]

@[simp] theorem execTemperatureTrip_keeps (tds : Int) (s : State) : Keeps s (execTemperatureTrip tds s) := by
  unfold execTemperatureTrip
  dsimp only
  split <;> simp

@[simp] theorem execFatalFault_keeps (cause : FatalCause) (s : State) : Keeps s (execFatalFault cause s) := by
  unfold execFatalFault
  split <;> simp

@[simp] theorem execEndgameStopAll_keeps (s : State) : Keeps s (execEndgameStopAll s) := by
  unfold execEndgameStopAll
  repeat' split
  all_goals simp

@[simp] theorem execEndgameOutputDrop_keeps (s : State) : Keeps s (execEndgameOutputDrop s) := by
  unfold execEndgameOutputDrop
  split <;> simp

@[simp] theorem execTwinBitExpiry_keeps (s : State) : Keeps s (execTwinBitExpiry s) := by
  simp [execTwinBitExpiry]

@[simp] theorem execHsafeOkToggle_keeps (s : State) : Keeps s (execHsafeOkToggle s) := by
  simp [execHsafeOkToggle]

@[simp] theorem execSiDiscrepancy_keeps (ch : Chan) (i : PairIx) (s : State) : Keeps s (execSiDiscrepancy ch i s) := by
  unfold execSiDiscrepancy
  dsimp only
  split <;> simp

@[simp] theorem execBarrierLinkLost_keeps (ch : Chan) (s : State) : Keeps s (execBarrierLinkLost ch s) := by
  simp [execBarrierLinkLost]

@[simp] theorem execBarrierLinkRecover_keeps (ch : Chan) (s : State) : Keeps s (execBarrierLinkRecover ch s) := by
  simp [execBarrierLinkRecover]

@[simp] theorem execAckWinExpiry_keeps (s : State) : Keeps s (execAckWinExpiry s) := by
  simp [execAckWinExpiry]

@[simp] theorem execSafParamDiscard_keeps (s : State) : Keeps s (execSafParamDiscard s) := by
  unfold execSafParamDiscard
  split <;> simp

@[simp] theorem execSafParamLoad_keeps (c : CmdCtx) (sect : List Byte) (s : State) : Keeps s (execSafParamLoad c sect s) := by
  refine State.hostCommand_keeps _ _ _ _ (fun t => ?_)
  dsimp only
  repeat' split
  all_goals simp

@[simp] theorem execSafDemand_keeps (c : CmdCtx) (mask : BitVec 32) (kind : BitVec 8) (s : State) : Keeps s (execSafDemand c mask kind s) := by
  refine State.hostCommand_keeps _ _ _ _ (fun t => ?_)
  split <;> simp

@[simp] theorem execMoveListPass_keeps (s : State) : Keeps s (execMoveListPass s) := by
  unfold execMoveListPass
  split <;> simp

@[simp] theorem execCaptureEvent_keeps (seq : BitVec 32) (s : State) : Keeps s (execCaptureEvent seq s) := by
  unfold execCaptureEvent
  dsimp only
  repeat' split
  all_goals simp

@[simp] theorem execFlushLost_keeps (seq : BitVec 32) (s : State) : Keeps s (execFlushLost seq s) := by
  unfold execFlushLost
  split <;> simp

@[simp] theorem execMovAdd_keeps (c : CmdCtx) (entries : List MoveEntry) (s : State) : Keeps s (execMovAdd c entries s) := by
  refine State.hostCommand_keeps _ _ _ _ (fun t => ?_)
  dsimp only
  split <;> simp

@[simp] theorem execMovAddLand_keeps (s : State) : Keeps s (execMovAddLand s) := by
  simp [execMovAddLand]

@[simp] theorem execMovDelete_keeps (c : CmdCtx) (seq : BitVec 32) (s : State) : Keeps s (execMovDelete c seq s) := by
  refine State.hostCommand_keeps _ _ _ _ (fun t => ?_)
  repeat' split
  all_goals simp

@[simp] theorem execMovClear_keeps (c : CmdCtx) (grp : BitVec 8) (s : State) : Keeps s (execMovClear c grp s) := by
  refine State.hostCommand_keeps _ _ _ _ (fun t => ?_)
  split <;> simp

@[simp] theorem execMovResume_keeps (c : CmdCtx) (s : State) : Keeps s (execMovResume c s) := by
  exact State.hostCommand_keeps _ _ _ _ (fun t => by simp)

@[simp] theorem execMovRead_keeps (c : CmdCtx) (seq : BitVec 32) (s : State) : Keeps s (execMovRead c seq s) := by
  refine State.hostAt_keeps _ _ _ _ _ (fun t => ?_)
  split <;> simp

@[simp] theorem execSafAck_keeps (c : CmdCtx) (mask : BitVec 32) (s : State) : Keeps s (execSafAck c mask s) := by
  refine State.hostCommand_keeps _ _ _ _ (fun t => ?_)
  dsimp only
  repeat' split
  all_goals simp

@[simp] theorem execLocalDispatch_keeps (s : State) : Keeps s (execLocalDispatch s) := by
  unfold execLocalDispatch
  dsimp only
  split
  · split
    · simp
    · refine keeps_next.mpr (Kept.trans (t := State.releaseLine _ _) ?_ (Kept.foldl (fun u a => ?_) _ _))
      · simp
      · split <;> simp
  · simp

@[simp] theorem execFbkRelease_keeps (a : AxisIx) (s : State) : Keeps s (execFbkRelease a s) := by
  unfold execFbkRelease
  dsimp only
  repeat' split
  all_goals simp

@[simp] theorem execAxisDeadline_keeps (a : AxisIx) (s : State) : Keeps s (execAxisDeadline a s) := by
  unfold execAxisDeadline
  dsimp only
  repeat' split
  all_goals simp

@[simp] theorem execAgeFault_keeps (a : AxisIx) (s : State) : Keeps s (execAgeFault a s) := by
  simp [execAgeFault]

@[simp] theorem execLineDisagree_keeps (s : State) : Keeps s (execLineDisagree s) := by
  simp [execLineDisagree]

@[simp] theorem execLineRevalid_keeps (s : State) : Keeps s (execLineRevalid s) := by
  simp [execLineRevalid]

@[simp] theorem execSwitchBack_keeps (s : State) : Keeps s (execSwitchBack s) := by
  unfold execSwitchBack
  split <;> simp

@[simp] theorem execSwitchBackRequest_keeps (c : CmdCtx) (s : State) : Keeps s (execSwitchBackRequest c s) := by
  simp [execSwitchBackRequest]

@[simp] theorem execDisagreeClear_keeps (c : CmdCtx) (s : State) : Keeps s (execDisagreeClear c s) := by
  simp [execDisagreeClear]

@[simp] theorem execPuClear_keeps (c : CmdCtx) (o : Owner) (s : State) : Keeps s (execPuClear c o s) := by
  simp [execPuClear]

@[simp] theorem execEnableComplete_keeps (a : AxisIx) (s : State) : Keeps s (execEnableComplete a s) := by
  simp [execEnableComplete]

@[simp] theorem execEnTimeout_keeps (a : AxisIx) (s : State) : Keeps s (execEnTimeout a s) := by
  simp [execEnTimeout]

@[simp] theorem execStopConfirm_keeps (a : AxisIx) (s : State) : Keeps s (execStopConfirm a s) := by
  unfold execStopConfirm
  dsimp only
  repeat' split
  all_goals simp

@[simp] theorem execBrakeTElapsed_keeps (a : AxisIx) (s : State) : Keeps s (execBrakeTElapsed a s) := by
  unfold execBrakeTElapsed
  dsimp only
  split <;> simp

@[simp] theorem execHoldMax_keeps (a : AxisIx) (s : State) : Keeps s (execHoldMax a s) := by
  simp [execHoldMax]

@[simp] theorem execAxEnable_keeps (c : CmdCtx) (axis : BitVec 16) (s : State) : Keeps s (execAxEnable c axis s) := by
  refine State.hostCommand_keeps _ _ _ _ (fun t => ?_)
  dsimp only
  repeat' split
  all_goals simp

@[simp] theorem execAxDisable_keeps (c : CmdCtx) (axis : BitVec 16) (s : State) : Keeps s (execAxDisable c axis s) := by
  refine State.hostCommand_keeps _ _ _ _ (fun t => ?_)
  dsimp only
  repeat' split
  all_goals simp

@[simp] theorem execHeldEnableExecute_keeps (u : EnableUnit) (s : State) : Keeps s (execHeldEnableExecute u s) := by
  cases u with
  | axis a =>
    intro v hv
    refine (s.answerEnables_kept a.val).trans ?_
    rw [execHeldEnableExecute] at hv
    generalize s.answerEnables a.val = t at hv
    revert hv
    refine (?_ : Keeps t _) v
    split
    · simp
    · split
      · dsimp only
        split <;> simp
      · simp
  | output j =>
    unfold execHeldEnableExecute
    dsimp only
    repeat' split
    all_goals simp

@[simp] theorem execAxCoefWrite_keeps (c : CmdCtx) (axis : BitVec 16) (offset : BitVec 16) (value : Word48) (s : State) :
    Keeps s (execAxCoefWrite c axis offset value s) := by
  refine State.hostCommand_keeps _ _ _ _ (fun t => ?_)
  dsimp only
  repeat' split
  all_goals simp

@[simp] theorem execAxCoefRead_keeps (c : CmdCtx) (axis : BitVec 16) (offset : BitVec 16) (count : BitVec 8) (s : State) :
    Keeps s (execAxCoefRead c axis offset count s) := by
  refine State.hostAt_keeps _ _ _ _ _ (fun t => ?_)
  dsimp only
  split <;> simp

@[simp] theorem execAxPark_keeps (c : CmdCtx) (axis : BitVec 16) (on : BitVec 8) (s : State) : Keeps s (execAxPark c axis on s) := by
  refine State.hostCommand_keeps _ _ _ _ (fun t => ?_)
  dsimp only
  repeat' split
  all_goals simp

@[simp] theorem execStepGeneratorTick_keeps (n : StIx) (s : State) : Keeps s (execStepGeneratorTick n s) := by
  unfold execStepGeneratorTick
  dsimp only
  repeat' split
  all_goals simp

@[simp] theorem execStnFlt_keeps (n : StIx) (active : FltLevel) (s : State) : Keeps s (execStnFlt n active s) := by
  unfold execStnFlt
  dsimp only
  repeat' split
  all_goals simp

@[simp] theorem execStEnDelayElapsed_keeps (n : StIx) (s : State) : Keeps s (execStEnDelayElapsed n s) := by
  unfold execStEnDelayElapsed
  dsimp only
  split <;> simp

@[simp] theorem execCsfReturn_keeps (seg : SegIx) (lam : LoopTime) (s : State) : Keeps s (execCsfReturn seg lam s) := by
  unfold execCsfReturn
  dsimp only
  repeat' split
  all_goals simp

@[simp] theorem execLoopDrift_keeps (seg : SegIx) (s : State) : Keeps s (execLoopDrift seg s) := by
  simp [execLoopDrift]

@[simp] theorem execCsfReturnMissing_keeps (seg : SegIx) (s : State) : Keeps s (execCsfReturnMissing seg s) := by
  simp [execCsfReturnMissing]

@[simp] theorem execPortLinkDown_keeps (p : PortIx) (src : LinkSource) (s : State) : Keeps s (execPortLinkDown p src s) := by
  simp [execPortLinkDown]

@[simp] theorem execPortLinkUp_keeps (p : PortUp) (s : State) : Keeps s (execPortLinkUp p s) := by
  unfold execPortLinkUp
  dsimp only
  repeat' split
  all_goals simp

@[simp] theorem execResetFenceRelease_keeps (site : FenceSite) (s : State) : Keeps s (execResetFenceRelease site s) := by
  unfold execResetFenceRelease
  repeat' split
  all_goals simp

@[simp] theorem execMdioLinkPoll_keeps (p : PortIx) (bmsr : BitVec 16) (s : State) : Keeps s (execMdioLinkPoll p bmsr s) := by
  unfold execMdioLinkPoll
  dsimp only
  split <;> simp

@[simp] theorem execLoopFrameReceive_keeps (f : RxFrame) (s0 : State) : Keeps s0 (execLoopFrameReceive f s0) := by
  simp [execLoopFrameReceive]

@[simp] theorem execRingRestoreAuto_keeps (seg : SegIx) (s : State) : Keeps s (execRingRestoreAuto seg s) := by
  unfold execRingRestoreAuto
  dsimp only
  split <;> simp

@[simp] theorem execRingRestored_keeps (seg : SegIx) (s : State) : Keeps s (execRingRestored seg s) := by
  unfold execRingRestored
  dsimp only
  split <;> simp

@[simp] theorem execFbkFrameReceive_keeps (f : RxFrame) (s0 : State) : Keeps s0 (execFbkFrameReceive f s0) := by
  unfold execFbkFrameReceive
  dsimp only
  split <;> simp

@[simp] theorem execIodReceive_keeps (f : RxFrame) (s0 : State) : Keeps s0 (execIodReceive f s0) := by
  unfold execIodReceive
  dsimp only
  repeat' split
  all_goals simp

@[simp] theorem execSupStatusReceive_keeps (f : RxFrame) (s0 : State) : Keeps s0 (execSupStatusReceive f s0) := by
  unfold execSupStatusReceive
  dsimp only
  split <;> simp

@[simp] theorem execSafUplinkReceive_keeps (f : RxFrame) (s0 : State) : Keeps s0 (execSafUplinkReceive f s0) := by
  unfold execSafUplinkReceive
  dsimp only
  repeat' split
  all_goals simp

@[simp] theorem execAdmissionRequest_keeps (f : RxFrame) (s : State) : Keeps s (execAdmissionRequest f s) := by
  refine State.takeDyn_keeps (fun t n src pl => ?_) s f _
  dsimp only
  repeat' split
  all_goals simp

@[simp] theorem execDiagnosticResponse_keeps (f : RxFrame) (s : State) : Keeps s (execDiagnosticResponse f s) := by
  refine State.takeDyn_keeps (fun t n src pl => ?_) s f _
  dsimp only
  repeat' split
  all_goals simp

@[simp] theorem execNodeParameterAccess_keeps (f : RxFrame) (s : State) : Keeps s (execNodeParameterAccess f s) := by
  refine State.takeDyn_keeps (fun t n src pl => ?_) s f _
  dsimp only
  repeat' split
  all_goals simp

@[simp] theorem execAcknowledge_keeps (f : RxFrame) (s : State) : Keeps s (execAcknowledge f s) :=
  State.takeDyn_keeps (fun t n src pl => by simp) s f _

@[simp] theorem execDynTurn_keeps (seg : SegIx) (minislot : BitVec 8) (s : State) : Keeps s (execDynTurn seg minislot s) := by
  unfold execDynTurn
  dsimp only
  repeat' split
  all_goals simp

@[simp] theorem execDynRepeat_keeps (seg : SegIx) (s : State) : Keeps s (execDynRepeat seg s) := by
  simp [execDynRepeat]

@[simp] theorem execSurResponse_keeps (f : RxFrame) (s0 : State) : Keeps s0 (execSurResponse f s0) := by
  unfold execSurResponse
  dsimp only
  repeat' split
  all_goals simp

@[simp] theorem execSurRequestReturn_keeps (seg : SegIx) (portB : Bool) (s : State) : Keeps s (execSurRequestReturn seg portB s) := by
  unfold execSurRequestReturn
  dsimp only
  repeat' split
  all_goals simp

@[simp] theorem execSurveyTimeout_keeps (seg : SegIx) (s : State) : Keeps s (execSurveyTimeout seg s) := by
  unfold execSurveyTimeout
  dsimp only
  repeat' split
  all_goals simp

@[simp] theorem execSurRequestReceive_keeps (f : RxFrame) (s : State) : Keeps s (execSurRequestReceive f s) := by
  unfold execSurRequestReceive
  dsimp only
  repeat' split
  all_goals simp

@[simp] theorem execListenEnd_keeps (s : State) : Keeps s (execListenEnd s) := by
  simp [execListenEnd]

@[simp] theorem execClaimPeriod_keeps (s : State) : Keeps s (execClaimPeriod s) := by
  simp [execClaimPeriod]

@[simp] theorem execClmReceive_keeps (f : RxFrame) (s0 : State) : Keeps s0 (execClmReceive f s0) := by
  unfold execClmReceive
  dsimp only
  split <;> simp

@[simp] theorem execClaimEnd_keeps (s : State) : Keeps s (execClaimEnd s) := by
  simp [execClaimEnd]

@[simp] theorem execSynchroniseEnd_keeps (seg : SegIx) (s : State) : Keeps s (execSynchroniseEnd seg s) := by
  unfold execSynchroniseEnd
  dsimp only
  repeat' split
  all_goals simp

@[simp] theorem execNetSchedActivate_keeps (c : CmdCtx) (seg : BitVec 8) (s : State) : Keeps s (execNetSchedActivate c seg s) := by
  refine State.hostCommand_keeps _ _ _ _ (fun t => ?_)
  dsimp only
  repeat' split
  all_goals simp

@[simp] theorem execRemeasureComplete_keeps (seg : SegIx) (s : State) : Keeps s (execRemeasureComplete seg s) := by
  unfold execRemeasureComplete
  dsimp only
  repeat' split
  all_goals simp

@[simp] theorem execScheduleActivate_keeps (seg : SegIx) (s : State) : Keeps s (execScheduleActivate seg s) := by
  unfold execScheduleActivate
  dsimp only
  repeat' split
  all_goals simp

@[simp] theorem execNetNodeAdmit_keeps (c : CmdCtx) (seg : BitVec 8) (addr : BitVec 8) (serial : BitVec 48) (s : State) :
    Keeps s (execNetNodeAdmit c seg addr serial s) := by
  refine State.hostCommand_keeps _ _ _ _ (fun t => ?_)
  dsimp only
  repeat' split
  all_goals simp

@[simp] theorem execNetRingRestore_keeps (c : CmdCtx) (seg : BitVec 8) (s : State) : Keeps s (execNetRingRestore c seg s) := by
  refine State.hostCommand_keeps _ _ _ _ (fun t => ?_)
  dsimp only
  repeat' split
  all_goals simp

@[simp] theorem execNetMdio_keeps (c : CmdCtx) (bus op phy devad : BitVec 8) (reg data answer : BitVec 16) (s : State) :
    Keeps s (execNetMdio c bus op phy devad reg data answer s) := by
  refine State.hostAt_keeps _ _ _ _ _ (fun t => ?_)
  split <;> simp

@[simp] theorem execNetMeasure_keeps (c : CmdCtx) (seg port hop : BitVec 8) (s : State) : Keeps s (execNetMeasure c seg port hop s) := by
  refine State.hostAt_keeps _ _ _ _ _ (fun t => ?_)
  dsimp only
  repeat' split
  all_goals simp

@[simp] theorem execSvcSegTest_keeps (c : CmdCtx) (seg mode : BitVec 8) (duration : BitVec 16) (s : State) :
    Keeps s (execSvcSegTest c seg mode duration s) := by
  refine State.hostCommand_keeps _ _ _ _ (fun t => ?_)
  dsimp only
  repeat' split
  all_goals simp

@[simp] theorem execSegTestEnd_keeps (seg : SegIx) (errors : BitVec 32) (s : State) : Keeps s (execSegTestEnd seg errors s) := by
  unfold execSegTestEnd
  dsimp only
  repeat' split
  all_goals simp

@[simp] theorem execCaptureDone_keeps (s : State) : Keeps s (execCaptureDone s) := by
  simp [execCaptureDone]

@[simp] theorem execTrgPinEdge_keeps (pin : Fin 4) (level : Bool) (stamp : PinTime) (s : State) : Keeps s (execTrgPinEdge pin level stamp s) := by
  unfold execTrgPinEdge
  split
  · simp
  · refine keeps_next.mpr (Kept.trans (t := State.modScs _ _) ?_ (Kept.foldl (fun u n => ?_) _ _))
    · simp
    · split <;> simp

@[simp] theorem execTrgOutputEnd_keeps (pin : Fin 4) (s : State) : Keeps s (execTrgOutputEnd pin s) := by
  simp [execTrgOutputEnd]

@[simp] theorem execScsForce_keeps (c : CmdCtx) (s : State) : Keeps s (execScsForce c s) := by
  refine State.hostCommand_keeps _ _ _ _ (fun t => ?_)
  split <;> simp

@[simp] theorem execScsStop_keeps (c : CmdCtx) (s : State) : Keeps s (execScsStop c s) := by
  refine State.hostCommand_keeps _ _ _ _ (fun t => ?_)
  split <;> simp

@[simp] theorem execScsRead_keeps (c : CmdCtx) (first : BitVec 32) (count : BitVec 16) (s : State) : Keeps s (execScsRead c first count s) := by
  refine State.hostAt_keeps _ _ _ _ _ (fun t => ?_)
  dsimp only
  repeat' split
  all_goals simp

@[simp] theorem execPtpSync_keeps (d : Fin 2) (domain : BitVec 8) (twoStep : Bool) (seq : BitVec 16) (origin : Int) (rx : Int) (s : State) :
    Keeps s (execPtpSync d domain twoStep seq origin rx s) := by
  unfold execPtpSync
  repeat' split
  all_goals simp

@[simp] theorem execPtpFollowUp_keeps (d : Fin 2) (domain : BitVec 8) (seq : BitVec 16) (origin : Int) (s : State) :
    Keeps s (execPtpFollowUp d domain seq origin s) := by
  unfold execPtpFollowUp
  repeat' split
  all_goals simp

@[simp] theorem execPtpAnnounce_keeps (d : Fin 2) (domain : BitVec 8) (rank : Nat) (source : BitVec 64) (s : State) :
    Keeps s (execPtpAnnounce d domain rank source s) := by
  unfold execPtpAnnounce
  split <;> simp

@[simp] theorem execPtpDelayResp_keeps (d : Fin 2) (domain : BitVec 8) (seq : BitVec 16) (t4 : Int) (s : State) :
    Keeps s (execPtpDelayResp d domain seq t4 s) := by
  unfold execPtpDelayResp
  dsimp only
  repeat' split
  all_goals simp

@[simp] theorem execPtpDelayReqSend_keeps (d : Fin 2) (tx : Int) (s : State) : Keeps s (execPtpDelayReqSend d tx s) := by
  simp [execPtpDelayReqSend]

@[simp] theorem execSyncLoss_keeps (d : Fin 2) (s : State) : Keeps s (execSyncLoss d s) := by
  simp [execSyncLoss]

@[simp] theorem execPpsEdge_keeps (p : Fin 2) (stamp : Int) (s : State) : Keeps s (execPpsEdge p stamp s) := by
  unfold execPpsEdge
  dsimp only
  repeat' split
  all_goals simp

@[simp] theorem execPpsLoss_keeps (p : Fin 2) (s : State) : Keeps s (execPpsLoss p s) := by
  simp [execPpsLoss]

@[simp] theorem execSourceSwitch_keeps (s : State) : Keeps s (execSourceSwitch s) := by
  simp [execSourceSwitch]

@[simp] theorem execSourceTakeover_keeps (s : State) : Keeps s (execSourceTakeover s) := by
  unfold execSourceTakeover
  split <;> simp

@[simp] theorem execSlewEnd_keeps (s : State) : Keeps s (execSlewEnd s) := by
  simp [execSlewEnd]

@[simp] theorem execTimeFault_keeps (s : State) : Keeps s (execTimeFault s) := by
  simp [execTimeFault]

@[simp] theorem execRestepAbandoned_keeps (s : State) : Keeps s (execRestepAbandoned s) := by
  unfold execRestepAbandoned
  split <;> simp

@[simp] theorem execPpsOutPulse_keeps (s : State) : Keeps s (execPpsOutPulse s) := by
  simp [execPpsOutPulse]

@[simp] theorem execPpsOutEnd_keeps (s : State) : Keeps s (execPpsOutEnd s) := by
  simp [execPpsOutEnd]

@[simp] theorem execTimGet_keeps (c : CmdCtx) (s : State) : Keeps s (execTimGet c s) := by
  exact State.hostAt_keeps _ _ _ _ _ (fun t => by simp)

@[simp] theorem execTimSrcRead_keeps (c : CmdCtx) (src : BitVec 8) (s : State) : Keeps s (execTimSrcRead c src s) := by
  refine State.hostAt_keeps _ _ _ _ _ (fun t => ?_)
  split <;> simp

@[simp] theorem execTimRestep_keeps (c : CmdCtx) (s : State) : Keeps s (execTimRestep c s) := by
  refine State.hostCommand_keeps _ _ _ _ (fun t => ?_)
  repeat' split
  all_goals simp

@[simp] theorem execForeignCsfReceive_keeps (f : RxFrame) (s0 : State) : Keeps s0 (execForeignCsfReceive f s0) := by
  unfold execForeignCsfReceive
  dsimp only
  repeat' split
  all_goals simp

@[simp] theorem execStandbyCsfReceive_keeps (f : RxFrame) (s0 : State) : Keeps s0 (execStandbyCsfReceive f s0) := by
  unfold execStandbyCsfReceive
  dsimp only
  repeat' split
  all_goals simp

@[simp] theorem execTakeoverUndetected_keeps (s : State) : Keeps s (execTakeoverUndetected s) := by
  simp [execTakeoverUndetected]

@[simp] theorem execHealthSend_keeps (s : State) : Keeps s (execHealthSend s) := by
  simp [execHealthSend]

@[simp] theorem execHealth_keeps (env : TwinEnv) (m : HealthMsg) (s : State) : Keeps s (execHealth env m s) :=
  State.twinTake_keeps (fun t => by simp) s env

@[simp] theorem execTwinLinkLost_keeps (s : State) : Keeps s (execTwinLinkLost s) := by
  simp [execTwinLinkLost]

@[simp] theorem execTwinLaneFail_keeps (lane : Fin 2) (s : State) : Keeps s (execTwinLaneFail lane s) := by
  simp [execTwinLaneFail]

@[simp] theorem execLog_keeps (env : TwinEnv) (r : LogRec) (s : State) : Keeps s (execLog env r s) := by
  refine State.twinTake_keeps (fun t => ?_) s env
  dsimp only
  repeat' split
  all_goals simp

@[simp] theorem execLogAck_keeps (env : TwinEnv) (pos : Nat) (s : State) : Keeps s (execLogAck env pos s) :=
  State.twinTake_keeps (fun t => by simp) s env

@[simp] theorem execRelease_keeps (env : TwinEnv) (m : ReleaseMsg) (s : State) : Keeps s (execRelease env m s) := by
  refine State.twinTake_keeps (fun t => ?_) s env
  repeat' split
  all_goals simp

@[simp] theorem execDigest_keeps (env : TwinEnv) (cycle : Nat) (ds : List (BitVec 32)) (s : State) : Keeps s (execDigest env cycle ds s) := by
  refine State.twinTake_keeps (fun t => ?_) s env
  repeat' split
  all_goals simp

@[simp] theorem execVerdict_keeps (env : TwinEnv) (cycle : Nat) (mismatches : List Nat) (s : State) :
    Keeps s (execVerdict env cycle mismatches s) := by
  refine State.twinTake_keeps (fun t => ?_) s env
  split <;> simp

@[simp] theorem execDeclare_keeps (env : TwinEnv) (reason : BitVec 8) (last : Nat) (h : Option Nat) (s : State) :
    Keeps s (execDeclare env reason last h s) := by
  refine State.twinTake_keeps (fun t => ?_) s env
  split <;> simp

@[simp] theorem execSynchronised_keeps (s : State) : Keeps s (execSynchronised s) := by
  simp [execSynchronised]

@[simp] theorem execTrigger_keeps (env : TwinEnv) (stamp : T80) (mask : BitVec 8) (s : State) : Keeps s (execTrigger env stamp mask s) :=
  State.twinTake_keeps (fun t => Kept.foldl (fun u n => by split <;> simp) _ t) s env

@[simp] theorem execHandoverStart_keeps (s : State) : Keeps s (execHandoverStart s) := by
  unfold execHandoverStart
  split <;> simp

@[simp] theorem execOldTrainForwardEnd_keeps (s : State) : Keeps s (execOldTrainForwardEnd s) := by
  unfold execOldTrainForwardEnd
  split <;> simp

@[simp] theorem execSwapAbandon_keeps (s : State) : Keeps s (execSwapAbandon s) := by
  unfold execSwapAbandon
  split <;> simp

@[simp] theorem execRevert_keeps (s : State) : Keeps s (execRevert s) := by
  simp [execRevert]

@[simp] theorem execTwnInfo_keeps (c : CmdCtx) (s : State) : Keeps s (execTwnInfo c s) := by
  exact State.hostAt_keeps _ _ _ _ _ (fun t => by simp)

@[simp] theorem execTwnSwap_keeps (c : CmdCtx) (s : State) : Keeps s (execTwnSwap c s) := by
  refine State.hostCommand_keeps _ _ _ _ (fun t => ?_)
  dsimp only
  repeat' split
  all_goals simp

@[simp] theorem execUdpDatagram_keeps (plant : PlantIx) (ip : UdpPath) (port : BitVec 16) (mf : Bool) (fragOffset : BitVec 13) (bytes : List Byte) (s : State) :
    Keeps s (execUdpDatagram plant ip port mf fragOffset bytes s) := by
  unfold execUdpDatagram
  dsimp only
  repeat' split
  all_goals simp

@[simp] theorem execArpRequest_keeps (plant : PlantIx) (target : PlantTarget) (s : State) : Keeps s (execArpRequest plant target s) := by
  simp [execArpRequest]

@[simp] theorem execIcmpEcho_keeps (plant : PlantIx) (target : PlantTarget) (data : List Byte) (s : State) :
    Keeps s (execIcmpEcho plant target data s) := by
  simp [execIcmpEcho]

@[simp] theorem execCommandPart_keeps (c : CmdCtx) (opcode : BitVec 16) (isPart : Bool) (final : Bool) (data : List Byte) (s0 : State) :
    Keeps s0 (execCommandPart c opcode isPart final data s0) := by
  unfold execCommandPart
  dsimp only
  repeat' split
  all_goals simp

@[simp] theorem execEvtPush_keeps (c : CmdCtx) (s : State) : Keeps s (execEvtPush c s) := by
  unfold execEvtPush
  dsimp only
  split <;> simp

@[simp] theorem execSesHello_keeps (src : HostSource) (seq : BitVec 16) (role : BitVec 8) (nonce : List Byte) (s0 : State) :
    Keeps s0 (execSesHello src seq role nonce s0) := by
  unfold execSesHello
  dsimp only
  repeat' split
  all_goals simp

@[simp] theorem execSesProve_keeps (c : CmdCtx) (proof : List Byte) (s0 : State) : Keeps s0 (execSesProve c proof s0) := by
  unfold execSesProve
  dsimp only
  repeat' split
  all_goals simp

@[simp] theorem execChallengeTimeout_keeps (slot : SlotIx) (s : State) : Keeps s (execChallengeTimeout slot s) := by
  simp [execChallengeTimeout]

@[simp] theorem execSesIdle_keeps (slot : SlotIx) (s : State) : Keeps s (execSesIdle slot s) := by
  simp [execSesIdle]

@[simp] theorem execLockoutEnd_keeps (src : HostSource) (s : State) : Keeps s (execLockoutEnd src s) := by
  unfold execLockoutEnd
  repeat' split
  all_goals simp

@[simp] theorem execSesClose_keeps (c : CmdCtx) (s : State) : Keeps s (execSesClose c s) := by
  exact State.hostAt_keeps _ _ _ _ _ (fun t => by simp)

@[simp] theorem execSesKeySet_keeps (c : CmdCtx) (role : BitVec 8) (wrapped : List Byte) (s : State) :
    Keeps s (execSesKeySet c role wrapped s) := by
  refine State.hostCommand_keeps _ _ _ _ (fun t => ?_)
  generalize (if t.twin.standby then _ else _ : Option (List Byte)) = key
  repeat' split
  all_goals simp

@[simp] theorem execParInfo_keeps (c : CmdCtx) (id : BitVec 32) (s : State) : Keeps s (execParInfo c id s) := by
  refine State.hostAt_keeps _ _ _ _ _ (fun t => ?_)
  split <;> simp

@[simp] theorem execParSet_keeps (c : CmdCtx) (item : ParItem) (s : State) : Keeps s (execParSet c item s) := by
  refine State.hostCommand_keeps _ _ _ _ (fun t => ?_)
  split <;> simp

@[simp] theorem execStatusW1cWrite_keeps (c : CmdCtx) (item : ParItem) (s : State) : Keeps s (execStatusW1cWrite c item s) := by
  refine State.hostCommand_keeps _ _ _ _ (fun t => ?_)
  repeat' split
  all_goals simp

@[simp] theorem execVddHMonitor_keeps (s : State) : Keeps s (execVddHMonitor s) := by
  simp [execVddHMonitor]

@[simp] theorem execIslandPorRelease_keeps (s : State) : Keeps s (execIslandPorRelease s) := by
  simp [execIslandPorRelease]

@[simp] theorem execControlDieSilent_keeps (s : State) : Keeps s (execControlDieSilent s) := by
  simp [execControlDieSilent]

@[simp] theorem execImgWrite_keeps (c : CmdCtx) (offset : BitVec 32) (data : List Byte) (s : State) : Keeps s (execImgWrite c offset data s) := by
  refine State.hostAt_keeps _ _ _ _ _ (fun t => ?_)
  repeat' split
  all_goals simp

@[simp] theorem execImgInfo_keeps (c : CmdCtx) (bank : BitVec 8) (s : State) : Keeps s (execImgInfo c bank s) := by
  refine State.hostAt_keeps _ _ _ _ _ (fun t => ?_)
  split <;> simp

@[simp] theorem execSqTail_keeps (value : BitVec 32) (entries : List (List Byte)) (s : State) : Keeps s (execSqTail value entries s) := by
  simp [execSqTail]

@[simp] theorem execCqHead_keeps (value : BitVec 32) (s : State) : Keeps s (execCqHead value s) := by
  simp [execCqHead]

@[simp] theorem execEqHead_keeps (value : BitVec 32) (s : State) : Keeps s (execEqHead value s) := by
  simp [execEqHead]

@[simp] theorem execRingEn_keeps (s : State) : Keeps s (execRingEn s) := by
  simp [execRingEn]

@[simp] theorem execEqEn_keeps (s : State) : Keeps s (execEqEn s) := by
  simp [execEqEn]

@[simp] theorem execIntStatus_keeps (value : BitVec 32) (s : State) : Keeps s (execIntStatus value s) := by
  simp [execIntStatus]

@[simp] theorem execRegisterWrite_keeps (offset : BitVec 16) (value : BitVec 32) (s : State) : Keeps s (execRegisterWrite offset value s) := by
  simp [execRegisterWrite]

@[simp] theorem execMsiCoalesceEnd_keeps (vector : Fin 4) (s : State) : Keeps s (execMsiCoalesceEnd vector s) := by
  simp [execMsiCoalesceEnd]

@[simp] theorem execPcieReset_keeps (s : State) : Keeps s (execPcieReset s) := by
  simp [execPcieReset]

@[simp] theorem execDevInfo_keeps (c : CmdCtx) (s : State) : Keeps s (execDevInfo c s) := by
  exact State.hostAt_keeps _ _ _ _ _ (fun t => by simp)

@[simp] theorem execSysEvtMask_keeps (c : CmdCtx) (classes : BitVec 16) (minSev : BitVec 8) (s : State) :
    Keeps s (execSysEvtMask c classes minSev s) := by
  refine State.hostAt_keeps _ _ _ _ _ (fun t => ?_)
  split <;> simp

@[simp] theorem execSysReset_keeps (c : CmdCtx) (kind : BitVec 8) (s : State) : Keeps s (execSysReset c kind s) := by
  refine State.hostAt_keeps _ _ _ _ _ (fun t => ?_)
  repeat' split
  all_goals simp

@[simp] theorem execSysEvtRead_keeps (c : CmdCtx) (start : BitVec 32) (count : BitVec 8) (s : State) :
    Keeps s (execSysEvtRead c start count s) := by
  refine State.hostAt_keeps _ _ _ _ _ (fun t => ?_)
  dsimp only
  repeat' split
  all_goals simp

@[simp] theorem execFbEdge_keeps (n : FbIx) (onB : Bool) (level : Bool) (stamp : PinTime) (s : State) :
    Keeps s (execFbEdge n onB level stamp s) := by
  unfold execFbEdge
  dsimp only
  repeat' split
  all_goals simp

@[simp] theorem execPhaseError_keeps (n : FbIx) (levelA : Bool) (levelB : Bool) (stamp : PinTime) (s : State) :
    Keeps s (execPhaseError n levelA levelB stamp s) := by
  simp [execPhaseError]

@[simp] theorem execHallCodeChange_keeps (n : FbIx) (code : BitVec 3) (stamp : PinTime) (s : State) :
    Keeps s (execHallCodeChange n code stamp s) := by
  unfold execHallCodeChange
  dsimp only
  repeat' split
  all_goals simp

@[simp] theorem execIndexMark_keeps (n : FbIx) (rising : Bool) (stamp : PinTime) (s : State) : Keeps s (execIndexMark n rising stamp s) := by
  unfold execIndexMark
  dsimp only
  split <;> simp

@[simp] theorem execSsiBurstStart_keeps (n : FbIx) (s : State) : Keeps s (execSsiBurstStart n s) := by
  simp [execSsiBurstStart]

@[simp] theorem execSsiReading_keeps (n : FbIx) (word : BitVec 56) (s : State) : Keeps s (execSsiReading n word s) := by
  simp [execSsiReading]

@[simp] theorem execStillEntry_keeps (o : Owner) (s : State) : Keeps s (execStillEntry o s) := by
  simp [execStillEntry]

@[simp] theorem execSettlingEnd_keeps (o : Owner) (s : State) : Keeps s (execSettlingEnd o s) := by
  simp [execSettlingEnd]

end Sys2Proof.Machine
end
section
/-! O60, part 12: the start of a cycle, and the memories over every step. -/

namespace Sys2Proof.Machine

section CycleStart

variable (s : State)

/-- A command held for the boundary executes there as any command does. -/
theorem State.runHeld_kept (i : Instr) : Kept s (s.runHeld i) := by
  unfold State.runHeld
  extract_lets r
  have hr : Keeps s r := by
    unfold r
    split <;> simp
  clear_value r
  split
  · rename_i t
    exact hr t rfl
  · exact Kept.refl s

theorem State.takeBoundary_kept : Kept s s.takeBoundary := by
  unfold State.takeBoundary
  refine Kept.trans ?_ (State.withHost_kept _ _)
  refine Kept.trans (s.withHost_kept _) (Kept.foldl (fun t q => ?_) _ _)
  exact Kept.ite (t.runHeld_kept q.2) (Kept.refl t)

@[simp] theorem State.joinStandby_params : s.joinStandby.params = s.params := by
  unfold State.joinStandby
  split
  · rfl
  · split <;> rfl

theorem State.landOutputs_kept : Kept s s.landOutputs := by
  unfold State.landOutputs
  exact Kept.trans (by simp) (Kept.foldl (fun t w => by simp) _ _)

theorem State.numberAll_kept : Kept s s.numberAll := by
  unfold State.numberAll
  exact (s.withHost_kept _).trans (Kept.foldl (fun t e => by simp [State.number]) _ _)

/-- Before the first cycle the segments of the schedule load start to synchronise. -/
def State.firstCycle (s : State) : State :=
  let t := (List.range 8).foldl (fun s n =>
    if (s.seg n).phase = .scheduleLoad then
      s.modSeg n (fun g => { g with phase := .synchronise, phaseTick := s.coreTicks, syncFrom := 0, activateAt := none })
    else s) s
  { t with cyc := { t.cyc with sealedFor := none, movePassed := none } }

theorem State.firstCycle_kept : Kept s s.firstCycle := by
  unfold State.firstCycle
  exact (Kept.foldl (fun t n => Kept.ite (by simp) (Kept.refl t)) _ s).trans (State.withCyc_kept _ _)

/-- What a cycle takes up and sends at its start, before what has waited for the boundary. -/
def State.openCycle (s : State) (k : Nat) : State :=
  let s0 := if s.cyc.running then s.wrapCycle else s.firstCycle
  let s1 := (s0.gather.swapOut k).enterCycle k
  let s2 := if s1.twin.onMove then s1.headSend else s1.cycleStops.shadowRun
  s2.estimates k

theorem State.openCycle_kept (k : Nat) : Kept s (s.openCycle k) := by
  unfold State.openCycle
  extract_lets s0 s1 s2
  have h0 : Kept s s0 := Kept.ite (by simp) s.firstCycle_kept
  have h1 : Kept s0 s1 := by simp [s1]
  have h2 : Kept s1 s2 := Kept.ite (by simp) (by simp)
  clear_value s0 s1 s2
  exact ((h0.trans h1).trans h2).trans (by simp)

/-- What has waited for the boundary lands, and the cycle's replies and events get their numbers. -/
def State.landCycle (s : State) (k : Nat) : State :=
  ((s.landArm k).joinStandby.landOutputs.takeBoundary).numberAll

theorem State.landCycle_kept (k : Nat) : Kept s (s.landCycle k) := by
  unfold State.landCycle
  refine Kept.trans ?_ (State.numberAll_kept _)
  refine Kept.trans ?_ (State.takeBoundary_kept _)
  refine Kept.trans ?_ (State.landOutputs_kept _)
  exact Kept.frame State.joinStandby (by simp) (s.landArm_kept k)

@[simp] theorem execCycleStart_keeps : Keeps s (execCycleStart s) := by
  unfold execCycleStart
  refine Keeps.ite (by simp) (Keeps.ite (by simp) ?_)
  exact keeps_next.mpr ((s.openCycle_kept s.nextCycle).trans (State.landCycle_kept _ s.nextCycle))

end CycleStart

/-- Every command keeps every memory canonical and every store buffer within four. -/
theorem exec_keeps (i : Instr) (s : State) : Keeps s (exec i s) := by
  unfold exec
  split
  all_goals simp

theorem step_keeps (s : State) : Keeps s (step s) := by
  unfold step
  split
  · exact keeps_next.mpr s.idle_kept
  · rename_i i rest _
    intro t ht
    have hqueue : Kept s { s with pending := rest } := Kept.of_same ⟨rfl, rfl, rfl, rfl, rfl, rfl, rfl, rfl, rfl⟩
    exact hqueue.trans (exec_keeps i _ t ht)

/-- Settles O60: a step keeps both properties, since each command and the idle step do. -/
theorem storedFormKept : Obligations.StoredFormKept := by
  unfold Obligations.StoredFormKept
  exact ⟨fun s t w h => (step_keeps s t h).1 w, fun s t w h => (step_keeps s t h).2 w⟩

end Sys2Proof.Machine
end

section
/-! The motion commands of one axis: AX_MOVE_ABS, AX_HALT, AX_HOME, PRO_START and PRO_CONTINUE (R216 to R223, R230, R283, R450). -/

namespace Sys2Proof.Machine

open Sys2Proof.Claims

theorem exec_axMoveAbs (c : CmdCtx) (axis : BitVec 16) (target vm am dm jm : Word48) (s : State) :
    exec (.axMoveAbs c axis target vm am dm jm) s = execAxMoveAbs c axis target vm am dm jm s := rfl

theorem exec_axHalt (c : CmdCtx) (axis : BitVec 16) (dec : Word48) (s : State) : exec (.axHalt c axis dec) s = execAxHalt c axis dec s := rfl

theorem exec_axHome (c : CmdCtx) (axis : BitVec 16) (dir : BitVec 8) (s : State) :
    exec (.axHome c axis dir) s = execAxHome c axis dir s := rfl

theorem exec_proStart (c : CmdCtx) (axis first : BitVec 16) (mode : BitVec 8) (s : State) :
    exec (.proStart c axis first mode) s = execProStart c axis first mode s := rfl

theorem exec_proContinue (c : CmdCtx) (axis : BitVec 16) (s : State) : exec (.proContinue c axis) s = execProContinue c axis s := rfl

/-! The request that a start makes (R283, R285). -/

/-- A request beyond the budget of its power group is refused (R285, R286). -/
theorem State.askStart_refused (s : State) (c : CmdCtx) (a : Nat) (kind : ReqKind)
    (h : s.beyondBudget (s.makeRequest a kind (some c) none).group (s.reqCost a s.cyc.cycle kind []) = true) :
    s.askStart c a kind = .refuse 0x0408 [] := by
  simp [State.askStart, h]

/-- A command that answers with a start of axis a: refused beyond the budget, and else ACCEPTED with its request waiting. -/
theorem exec_asks_of_askStart {i : Instr} {s : State} {c : CmdCtx} {op a : Nat} {kind : ReqKind}
    (hi : exec i s = .next (((s.takeUp c).askStart c a kind).result (s.takeUp c) c op)) :
    let t := s.takeUp c
    let q := t.makeRequest a kind (some c) none
    let never := t.beyondBudget q.group (t.reqCost a t.cyc.cycle kind [])
    (never = true → Replies i s c op 0x0408 [] t)
      ∧ (never = false → Replies i s c op 1 [] (t.modAxis a (fun x => { x with req := some q }))) := by
  intro t q never
  constructor
  · intro hnever
    rw [Replies, hi, State.askStart_refused _ c a kind hnever]
    rfl
  · intro hnever
    rw [Replies, hi, State.askStart_accepted _ c a kind hnever]
    rfl

/-! AX_MOVE_ABS (R216, R224, R225). -/

/-- The limits of a basic move are positive, and within those of the axis (R224). -/
abbrev State.moveWithin (t : State) (a : Nat) (vm am dm : Word48) : Prop :=
  0 < vm.toInt ∧ 0 < am.toInt ∧ 0 < dm.toInt ∧ vm.toInt ≤ t.par 0x04000161 a ∧ am.toInt ≤ t.par 0x04000162 a
    ∧ dm.toInt ≤ t.par 0x04000162 a

theorem State.not_moveWithin_iff (t : State) (a : Nat) (vm am dm : Word48) :
    (vm.toInt ≤ 0 ∨ am.toInt ≤ 0 ∨ dm.toInt ≤ 0 ∨ t.par 0x04000161 a < vm.toInt ∨ t.par 0x04000162 a < am.toInt
      ∨ t.par 0x04000162 a < dm.toInt) ↔ ¬ t.moveWithin a vm am dm := by
  simp only [not_and_or, Int.not_lt, Int.not_le]

/-- A basic move to a target under its limits. -/
abbrev basicMove (target vm am dm jm : Word48) : ReqKind := .basic target.toInt vm.toInt am.toInt dm.toInt jm.toNat

/-- The move fits a bank of 8 segments (R224). -/
abbrev State.moveShort (t : State) (a : Nat) (target vm am dm jm : Word48) : Prop :=
  (t.basicPlan a (t.startRef a t.cyc.cycle (basicMove target vm am dm jm)) target.toInt vm.toInt am.toInt dm.toInt jm.toNat).length ≤ 8

/-- The target is the position that a READY axis holds (R224). -/
abbrev State.moveThere (t : State) (a : Nat) (target vm am dm jm : Word48) : Prop :=
  t.axState a = .ready
    ∧ smod 48 (target.toInt + (t.axis a).prof.homeZero - (t.startRef a t.cyc.cycle (basicMove target vm am dm jm)).r) = 0

/-- The answer of AX_MOVE_ABS within the limits, for an axis that can move: the checks of its curve and of the start. -/
def State.moveStart (t : State) (c : CmdCtx) (a : Nat) (target vm am dm jm : Word48) : Ans :=
  if 8 < (t.basicPlan a (t.startRef a t.cyc.cycle (basicMove target vm am dm jm)) target.toInt vm.toInt am.toInt dm.toInt
      jm.toNat).length then .refuse stBadValue []
  else if (t.reqOwner a).isSome then .refuse stBusy []
  else if t.curveBlocked a t.cyc.cycle (basicMove target vm am dm jm) then .refuse stState []
  else if t.moveThere a target vm am dm jm then .ok t stDone []
  else t.askStart c a (basicMove target vm am dm jm)

section MoveStart

variable {t : State} {c : CmdCtx} {a : Nat} {target vm am dm jm : Word48}

theorem State.moveStart_long (hlong : ¬ t.moveShort a target vm am dm jm) :
    t.moveStart c a target vm am dm jm = .refuse 0x0105 [] := if_pos (Nat.lt_of_not_le hlong)

theorem State.moveStart_busy (hshort : t.moveShort a target vm am dm jm) (hbusy : (t.reqOwner a).isSome = true) :
    t.moveStart c a target vm am dm jm = .refuse 0x0303 [] := (if_neg (Nat.not_lt.mpr hshort)).trans (if_pos hbusy)

/-- An axis whose start waits for no other: only its curve and its place are left to check. -/
theorem State.moveStart_free (hshort : t.moveShort a target vm am dm jm) (hfree : ¬ (t.reqOwner a).isSome = true) :
    t.moveStart c a target vm am dm jm = if t.curveBlocked a t.cyc.cycle (basicMove target vm am dm jm) then .refuse 0x0301 []
      else if t.moveThere a target vm am dm jm then .ok t 0 [] else t.askStart c a (basicMove target vm am dm jm) :=
  (if_neg (Nat.not_lt.mpr hshort)).trans (if_neg hfree)

end MoveStart

section MoveAbs

variable {s : State} {c : CmdCtx} {axis : BitVec 16} {target vm am dm jm : Word48}

theorem exec_axMoveAbs_badLimits (haxis : axis.toNat < 256) (hacts : Acts s c 0x0404 2)
    (hlim : ¬ (s.takeUp c).moveWithin axis.toNat vm am dm) :
    Replies (.axMoveAbs c axis target vm am dm jm) s c 0x0404 0x0105 [] (s.takeUp c) :=
  (exec_host_takes (a := .refuse 0x0105 []) (exec_axMoveAbs c axis target vm am dm jm s) hacts rfl
    ((if_neg (by simp [notAxisArg_eq_false haxis])).trans (if_pos ((State.not_moveWithin_iff _ _ _ _ _).mpr hlim))) :)

theorem exec_axMoveAbs_cannotMove (haxis : axis.toNat < 256) (hacts : Acts s c 0x0404 2)
    (hlim : (s.takeUp c).moveWithin axis.toNat vm am dm) (hcan : (s.takeUp c).canMove axis.toNat = false) :
    Replies (.axMoveAbs c axis target vm am dm jm) s c 0x0404 0x0301 [] (s.takeUp c) :=
  (exec_host_takes (a := .refuse 0x0301 []) (exec_axMoveAbs c axis target vm am dm jm s) hacts rfl
    ((if_neg (by simp [notAxisArg_eq_false haxis])).trans
      ((ite_passes (State.not_moveWithin_iff _ _ _ _ _) hlim).trans (if_pos (by simp [hcan])))) :)

theorem exec_axMoveAbs_starts {ans : Ans} (haxis : axis.toNat < 256) (hacts : Acts s c 0x0404 2)
    (hlim : (s.takeUp c).moveWithin axis.toNat vm am dm) (hcan : (s.takeUp c).canMove axis.toNat = true)
    (hans : (s.takeUp c).moveStart c axis.toNat target vm am dm jm = ans) :
    exec (.axMoveAbs c axis target vm am dm jm) s = .next (ans.result (s.takeUp c) c 0x0404) :=
  (exec_host_takes (exec_axMoveAbs c axis target vm am dm jm s) hacts rfl
    ((if_neg (by simp [notAxisArg_eq_false haxis])).trans
      ((ite_passes (State.not_moveWithin_iff _ _ _ _ _) hlim).trans ((if_neg (by simp [hcan])).trans hans))) :)

end MoveAbs

/-! AX_HALT (R184, R258). -/

/-- The reference of an axis comes to rest under torque at a deceleration (R184, R258, R483). -/
def State.haltAxis (t : State) (a : Nat) (dec : Int) : State :=
  (t.planStop a 0 dec).modLife a (fun l => { l with stopKind := 0, stopDec := 0, direct := false })

section Halt

variable {s : State} {c : CmdCtx} {axis : BitVec 16} {dec : Word48}

theorem exec_axHalt_badValue (hdec : dec.toInt < 0) (hacts : Acts s c 0x0405 2) :
    Replies (.axHalt c axis dec) s c 0x0405 0x0105 [] (s.takeUp c) :=
  (exec_host_takes (a := .refuse 0x0105 []) (exec_axHalt c axis dec s) hacts rfl (if_pos (.inr hdec)) :)

theorem exec_axHalt_notRunning (haxis : axis.toNat < 256) (hdec : 0 ≤ dec.toInt) (hst : (s.takeUp c).axState axis.toNat ≠ .running)
    (hacts : Acts s c 0x0405 2) : Replies (.axHalt c axis dec) s c 0x0405 0x0301 [] (s.takeUp c) :=
  (exec_host_takes (a := .refuse 0x0301 []) (exec_axHalt c axis dec s) hacts rfl
    ((if_neg (by simp [notAxisArg_eq_false haxis, hdec])).trans (if_pos hst)) :)

theorem exec_axHalt_halts (haxis : axis.toNat < 256) (hdec : 0 ≤ dec.toInt) (hst : (s.takeUp c).axState axis.toNat = .running)
    (hacts : Acts s c 0x0405 2) : Replies (.axHalt c axis dec) s c 0x0405 0 []
      ((s.takeUp c).haltAxis axis.toNat (if dec = 0 then (s.takeUp c).par 0x04000137 axis.toNat else dec.toInt)) :=
  (exec_host_takes (exec_axHalt c axis dec s) hacts rfl
    ((if_neg (by simp [notAxisArg_eq_false haxis, hdec])).trans (if_neg (not_not.mpr hst))) :)

end Halt

/-! AX_HOME (R230, R237, R238). -/

/-- The axis can home: a stepper in READY with an encoder, and ST_MODE_PIN = 1 on its local port if it has one (R237, R238). -/
abbrev State.canHome (t : State) (a : Nat) : Prop :=
  t.isStepper a = true ∧ t.axState a = .ready ∧ t.parN 0x04000101 a ≠ 0xFF ∧ ∀ n, t.localPort a = some n → t.parN 0x04200005 n = 1

section Home

variable {s : State} {c : CmdCtx} {axis : BitVec 16} {dir : BitVec 8} {ans : Ans}

theorem exec_axHome_badValue (hdir : 1 < dir.toNat) (hacts : Acts s c 0x0406 2) :
    Replies (.axHome c axis dir) s c 0x0406 0x0105 [] (s.takeUp c) :=
  (exec_host_takes (a := .refuse 0x0105 []) (exec_axHome c axis dir s) hacts rfl (if_pos (.inr hdir)) :)

theorem exec_axHome_notReady (haxis : axis.toNat < 256) (hdir : dir.toNat ≤ 1)
    (hst : (s.takeUp c).isStepper axis.toNat = false ∨ (s.takeUp c).axState axis.toNat ≠ .ready) (hacts : Acts s c 0x0406 2) :
    Replies (.axHome c axis dir) s c 0x0406 0x0301 [] (s.takeUp c) :=
  (exec_host_takes (a := .refuse 0x0301 []) (exec_axHome c axis dir s) hacts rfl
    ((if_neg (by simp [notAxisArg_eq_false haxis, hdir])).trans (if_pos (by rcases hst with h | h <;> simp [h]))) :)

/-- An axis that can home is left with the check for a start that waits. -/
theorem exec_axHome_starts (haxis : axis.toNat < 256) (hdir : dir.toNat ≤ 1) (hhome : (s.takeUp c).canHome axis.toNat)
    (hacts : Acts s c 0x0406 2) (hans : (if ((s.takeUp c).reqOwner axis.toNat).isSome then Ans.refuse 0x0303 []
      else (s.takeUp c).askStart c axis.toNat (.home (decide (dir = 0)))) = ans) :
    exec (.axHome c axis dir) s = .next (ans.result (s.takeUp c) c 0x0406) := by
  obtain ⟨hstepper, hready, hsource, hport⟩ := hhome
  have hmode : (match (s.takeUp c).localPort axis.toNat with
      | none => false
      | some n => decide ((s.takeUp c).parN 0x04200005 n ≠ 1)) = false := by
    cases hn : (s.takeUp c).localPort axis.toNat with
    | none => rfl
    | some n => exact decide_eq_false (not_not.mpr (hport n hn))
  exact (exec_host_takes (exec_axHome c axis dir s) hacts rfl
    ((if_neg (by simp [notAxisArg_eq_false haxis, hdir])).trans ((if_neg (by simp [hstepper, hready, hsource])).trans
      ((if_neg (Bool.eq_false_iff.mp hmode)).trans hans))) :)

end Home

/-! PRO_START and PRO_CONTINUE (R219 to R223). -/

section Profile

variable {s : State} {c : CmdCtx} {axis first : BitVec 16} {mode : BitVec 8} {k : Nat} {ans : Ans}

theorem exec_proStart_badValue (hmode : 1 < mode.toNat) (hacts : Acts s c 0x0502 2) :
    Replies (.proStart c axis first mode) s c 0x0502 0x0105 [] (s.takeUp c) :=
  (exec_host_takes (a := .refuse 0x0105 []) (exec_proStart c axis first mode s) hacts rfl (if_pos (.inr hmode)) :)

theorem exec_proStart_badSegment (haxis : axis.toNat < 256) (hmode : mode.toNat ≤ 1) (hseg : (s.takeUp c).segRefusal first.toNat = some k)
    (hacts : Acts s c 0x0502 2) : Replies (.proStart c axis first mode) s c 0x0502 k [] (s.takeUp c) :=
  (exec_host_takes (a := .refuse k []) (exec_proStart c axis first mode s) hacts rfl
    ((if_neg (by simp [notAxisArg_eq_false haxis, hmode])).trans (by simp only [hseg])) :)

theorem exec_proStart_cannotMove (haxis : axis.toNat < 256) (hmode : mode.toNat ≤ 1)
    (hseg : (s.takeUp c).segRefusal first.toNat = none) (hcan : (s.takeUp c).canMove axis.toNat = false) (hacts : Acts s c 0x0502 2) :
    Replies (.proStart c axis first mode) s c 0x0502 0x0301 [] (s.takeUp c) :=
  (exec_host_takes (a := .refuse 0x0301 []) (exec_proStart c axis first mode s) hacts rfl
    ((if_neg (by simp [notAxisArg_eq_false haxis, hmode])).trans (by simp only [hseg]; exact if_pos (by simp [hcan]))) :)

/-- An axis that can move, with a segment to move along, is left with the check for a start that waits. -/
theorem exec_proStart_starts (haxis : axis.toNat < 256) (hmode : mode.toNat ≤ 1) (hseg : (s.takeUp c).segRefusal first.toNat = none)
    (hcan : (s.takeUp c).canMove axis.toNat = true) (hacts : Acts s c 0x0502 2)
    (hans : (if ((s.takeUp c).reqOwner axis.toNat).isSome then Ans.refuse 0x0303 []
      else (s.takeUp c).askStart c axis.toNat (.profile first.toNat (decide (mode = 1)))) = ans) :
    exec (.proStart c axis first mode) s = .next (ans.result (s.takeUp c) c 0x0502) :=
  (exec_host_takes (exec_proStart c axis first mode s) hacts rfl
    ((if_neg (by simp [notAxisArg_eq_false haxis, hmode])).trans
      (by simp only [hseg]; exact (if_neg (by simp [hcan])).trans hans)) :)

theorem exec_proContinue_notWaiting (haxis : axis.toNat < 256) (hwait : (s.takeUp c).isWaiting axis.toNat = false)
    (hacts : Acts s c 0x0504 2) : Replies (.proContinue c axis) s c 0x0504 0x0301 [] (s.takeUp c) :=
  (exec_host_takes (a := .refuse 0x0301 []) (exec_proContinue c axis s) hacts rfl
    ((if_neg (by simp [notAxisArg_eq_false haxis])).trans (if_pos (by simp [hwait]))) :)

/-- The segment that a waiting profile goes on to. -/
abbrev State.nextSeg (t : State) (a : Nat) : Nat := (t.segAt (t.axis a).prof.seg).next

theorem exec_proContinue_badSegment (haxis : axis.toNat < 256) (hwait : (s.takeUp c).isWaiting axis.toNat = true)
    (hseg : (s.takeUp c).segRefusal ((s.takeUp c).nextSeg axis.toNat) = some k) (hacts : Acts s c 0x0504 2) :
    Replies (.proContinue c axis) s c 0x0504 k [] (s.takeUp c) :=
  (exec_host_takes (a := .refuse k []) (exec_proContinue c axis s) hacts rfl
    ((if_neg (by simp [notAxisArg_eq_false haxis])).trans ((if_neg (by simp [hwait])).trans (by simp only [hseg]))) :)

/-- A waiting profile with a segment to go on to is left with the check for a start that waits. -/
theorem exec_proContinue_starts (haxis : axis.toNat < 256) (hwait : (s.takeUp c).isWaiting axis.toNat = true)
    (hseg : (s.takeUp c).segRefusal ((s.takeUp c).nextSeg axis.toNat) = none) (hacts : Acts s c 0x0504 2)
    (hans : (if ((s.takeUp c).reqOwner axis.toNat).isSome then Ans.refuse 0x0303 []
      else (s.takeUp c).askStart c axis.toNat .resume) = ans) :
    exec (.proContinue c axis) s = .next (ans.result (s.takeUp c) c 0x0504) :=
  (exec_host_takes (exec_proContinue c axis s) hacts rfl
    ((if_neg (by simp [notAxisArg_eq_false haxis])).trans ((if_neg (by simp [hwait])).trans (by simp only [hseg]; exact hans))) :)

end Profile

/-- Settles O26: each command's checks in their order, and the one rule for the request of an accepted start. -/
theorem motionCommands : Obligations.MotionCommands := by
  unfold Obligations.MotionCommands
  intro s c axis first target vm am dm jm dec dir mode k haxis t a busy kind from_ short there limits move asked halt home homes start more
    next
  refine ⟨?limits, ?state, ?long, ?busy, ?blocked, ?rests, ?moves, ?haltValue, ?haltState, ?halts, ?homeValue, ?homeState, ?homeBusy,
    ?homes, ?startValue, ?segment, ?startState, ?startBusy, ?starts, ?noWait, ?nextSegment, ?continueBusy, ?continues⟩
  case limits => exact fun hacts hlim => exec_axMoveAbs_badLimits haxis hacts hlim
  case state => exact fun hacts hlim hcan => exec_axMoveAbs_cannotMove haxis hacts hlim hcan
  case long => exact fun hacts hlim hcan hlong => exec_axMoveAbs_starts haxis hacts hlim hcan (State.moveStart_long hlong)
  case busy =>
    exact fun hacts hlim hcan hshort hbusy => exec_axMoveAbs_starts haxis hacts hlim hcan (State.moveStart_busy hshort hbusy)
  case blocked =>
    exact fun hacts hlim hcan hshort hfree hblock => exec_axMoveAbs_starts haxis hacts hlim hcan
      ((State.moveStart_free hshort hfree).trans (if_pos hblock))
  case rests =>
    exact fun hacts hlim hcan hshort hfree hopen hthere => exec_axMoveAbs_starts haxis hacts hlim hcan
      ((State.moveStart_free hshort hfree).trans ((if_neg (Bool.eq_false_iff.mp hopen)).trans (if_pos hthere)))
  case moves =>
    exact fun hacts hlim hcan hshort hfree hopen haway => exec_asks_of_askStart (exec_axMoveAbs_starts haxis hacts hlim hcan
      ((State.moveStart_free hshort hfree).trans ((if_neg (Bool.eq_false_iff.mp hopen)).trans (if_neg haway))))
  case haltValue => exact exec_axHalt_badValue
  case haltState => exact exec_axHalt_notRunning haxis
  case halts => exact exec_axHalt_halts haxis
  case homeValue => exact fun hacts hdir => exec_axHome_badValue hdir hacts
  case homeState => exact fun hacts hdir hst => exec_axHome_notReady haxis hdir hst hacts
  case homeBusy => exact fun hacts hdir hhome hbusy => exec_axHome_starts haxis hdir hhome hacts (if_pos hbusy)
  case homes =>
    exact fun hacts hdir hhome hfree => exec_asks_of_askStart (exec_axHome_starts haxis hdir hhome hacts (if_neg hfree))
  case startValue => exact fun hacts hmode => exec_proStart_badValue hmode hacts
  case segment => exact fun hacts hmode hseg => exec_proStart_badSegment haxis hmode hseg hacts
  case startState => exact fun hacts hmode hseg hcan => exec_proStart_cannotMove haxis hmode hseg hcan hacts
  case startBusy => exact fun hacts hmode hseg hcan hbusy => exec_proStart_starts haxis hmode hseg hcan hacts (if_pos hbusy)
  case starts =>
    exact fun hacts hmode hseg hcan hfree => exec_asks_of_askStart (exec_proStart_starts haxis hmode hseg hcan hacts (if_neg hfree))
  case noWait => exact exec_proContinue_notWaiting haxis
  case nextSegment => exact exec_proContinue_badSegment haxis
  case continueBusy => exact fun hwait hseg hbusy hacts => exec_proContinue_starts haxis hwait hseg hacts (if_pos hbusy)
  case continues =>
    exact fun hacts hwait hseg hfree => exec_asks_of_askStart (exec_proContinue_starts haxis hwait hseg hacts (if_neg hfree))

end Sys2Proof.Machine
end

section
/-! AX_DIRECT and its references, the end of a direct motion, and the stages of homing (R237, R238, R483). -/

namespace Sys2Proof.Machine

open Sys2Proof.Claims

theorem exec_axDirect (c : CmdCtx) (axis : BitVec 16) (op : BitVec 8) (refs : List DirectRef) (s : State) :
    exec (.axDirect c axis op refs) s = execAxDirect c axis op refs s := rfl
theorem exec_directMiss (a : AxisIx) (s : State) : exec (.directMiss a) s = execDirectMiss a s := rfl
theorem exec_stallDetect (a : AxisIx) (s : State) : exec (.stallDetect a) s = execStallDetect a s := rfl
theorem exec_homeFail (a : AxisIx) (s : State) : exec (.homeFail a) s = execHomeFail a s := rfl
theorem exec_homingComplete (a : AxisIx) (s : State) : exec (.homingComplete a) s = execHomingComplete a s := rfl

/-! AX_DIRECT (R483). -/

/-- A READY axis begins to follow direct references, from its reference at rest. -/
def State.beginDirect (t : State) (a : Nat) : State :=
  (t.modLife a (fun l => { l with state := .running, direct := true })).modProf a (fun p =>
    { p with direct := [], directLast := some (p.r, 0), directMiss := 0, ended := false })

/-- A direct reference takes its place, or counts as late when the span of the axis has passed its apply cycle. -/
def State.placeDirect (a : Nat) (t : State) (r : DirectRef) : State :=
  if t.cyc.cycle + 2 + t.span a ≤ t.rebuildApply r.apply.toNat then
    t.modProf a (fun p =>
      { p with direct := sput (fun _ => none) p.direct (t.rebuildApply r.apply.toNat) (some (r.r.toInt, r.v.toInt)) })
  else t.modProf a (fun p => { p with directLate := inc32 p.directLate })

/-- The answer of AX_DIRECT for an axis of 0 to 255. -/
def State.directAnswer (t : State) (a : Nat) (op : BitVec 8) (refs : List DirectRef) : Ans :=
  if 2 < op.toNat then .refuse stBadValue []
  else if op = 1 then if t.axState a ≠ .ready then .refuse stState [] else .ok (t.beginDirect a) stDone []
  else if !(t.axis a).life.direct then .refuse stState []
  else if op = 0 then .ok (t.haltAxis a (t.par 0x04000137 a)) stDone []
  else .ok (refs.foldl (State.placeDirect a) t) stDone []

section Direct

variable {s : State} {c : CmdCtx} {axis : BitVec 16} {op : BitVec 8} {refs : List DirectRef} {r : DirectRef} {a : Ans}

theorem exec_axDirect_acts (haxis : axis.toNat < 256) (hacts : ActsExpert s c 0x0409 3)
    (hlen : (if op = 2 then decide (1 ≤ refs.length ∧ refs.length ≤ s.perPacket c 15 102) else decide (refs = [])) = true)
    (ha : (s.takeUp c).directAnswer axis.toNat op refs = a) :
    exec (.axDirect c axis op refs) s = .next (a.result (s.takeUp c) c 0x0409) := by
  refine (exec_host_takes (exec_axDirect c axis op refs s) hacts hlen (Eq.trans ?_ ha) :)
  simp only [notAxisArg_eq_false haxis, Bool.false_eq_true, false_or]
  rfl

/-- A packet holds one reference at least, whichever way it came (R483). -/
theorem State.one_le_perPacket (s : State) (c : CmdCtx) : 1 ≤ s.perPacket c 15 102 := by
  rw [s.perPacket_eq c]
  split <;> decide

theorem exec_axDirect_bare (haxis : axis.toNat < 256) (hop : op ≠ 2) (hacts : ActsExpert s c 0x0409 3)
    (ha : (s.takeUp c).directAnswer axis.toNat op [] = a) :
    exec (.axDirect c axis op []) s = .next (a.result (s.takeUp c) c 0x0409) :=
  exec_axDirect_acts haxis hacts ((if_neg hop).trans (by simp)) ha

/-- A packet with one reference, for an axis under direct references. -/
theorem exec_axDirect_places (haxis : axis.toNat < 256) (hdirect : ((s.takeUp c).axis axis.toNat).life.direct = true)
    (hacts : ActsExpert s c 0x0409 3) :
    Replies (.axDirect c axis 2 [r]) s c 0x0409 0 [] (State.placeDirect axis.toNat (s.takeUp c) r) :=
  exec_axDirect_acts (a := .ok _ 0 []) haxis hacts (by simpa using s.one_le_perPacket c) (by simp [State.directAnswer, hdirect, stDone])

end Direct

section DirectAnswer

variable {t : State} {a : Nat}

theorem State.directAnswer_badOp {op : BitVec 8} {refs : List DirectRef} (hop : 2 < op.toNat) :
    t.directAnswer a op refs = .refuse 0x0105 [] := if_pos hop

theorem State.directAnswer_begin_notReady (hst : t.axState a ≠ .ready) : t.directAnswer a 1 [] = .refuse 0x0301 [] := by
  simp [State.directAnswer, hst, stState]

theorem State.directAnswer_begin (hst : t.axState a = .ready) : t.directAnswer a 1 [] = .ok (t.beginDirect a) 0 [] := by
  simp [State.directAnswer, hst, stDone]

theorem State.directAnswer_end_notDirect (hdirect : (t.axis a).life.direct = false) : t.directAnswer a 0 [] = .refuse 0x0301 [] := by
  simp [State.directAnswer, hdirect, stState]

theorem State.directAnswer_end (hdirect : (t.axis a).life.direct = true) :
    t.directAnswer a 0 [] = .ok (t.haltAxis a (t.par 0x04000137 a)) 0 [] := by
  simp [State.directAnswer, hdirect, stDone]

end DirectAnswer

/-! The profile and the events under the end of a motion. -/

@[simp] theorem State.modProf_prof (s : State) (a : Nat) (f : Prof → Prof) : ((s.modProf a f).axis a).prof = f (s.axis a).prof := by
  simp [State.modProf]

@[simp] theorem State.modLife_prof (s : State) (a : Nat) (f : Life → Life) : ((s.modLife a f).axis a).prof = (s.axis a).prof := by
  simp [State.modLife]

@[simp] theorem State.finishMotion_prof (s : State) (a status : Nat) :
    ((s.finishMotion a status).axis a).prof = { (s.axis a).prof with motionCtx := none } := by
  simp [State.finishMotion]

/-- What the end of a motion leaves of homing: its stage and its two outcomes. -/
theorem State.motionEnds_homing (s : State) (a : Nat) : ((s.motionEnds a).axis a).prof.homing = (s.axis a).prof.homing
    ∧ ((s.motionEnds a).axis a).prof.homeFail = (s.axis a).prof.homeFail
    ∧ ((s.motionEnds a).axis a).prof.homed = (s.axis a).prof.homed := by
  unfold State.motionEnds
  split <;> simp

theorem State.motionEnds_gathered {s : State} (hg : s.host.gathered = none) (a : Nat) : (s.motionEnds a).host.gathered = none := by
  unfold State.motionEnds
  split
  · exact State.finishMotion_gathered (by simpa using hg) a 0
  · simpa using hg

/-! The events of a direct motion and of homing. -/

section Events

variable {s : State} {a : AxisIx}

theorem exec_directMiss_halts (hdirect : (s.axis a.val).life.direct = true)
    (hmiss : s.parN 0x040001E0 a.val ≤ (s.axis a.val).prof.directMiss) :
    Leaves (.directMiss a) s (s.haltAxis a.val (s.par 0x04000138 a.val)) := by
  rw [Leaves, exec_directMiss, execDirectMiss, if_pos (by simp [hdirect, hmiss])]
  rfl

theorem exec_directMiss_stays
    (h : (s.axis a.val).life.direct = false ∨ (s.axis a.val).prof.directMiss < s.parN 0x040001E0 a.val) : Leaves (.directMiss a) s s := by
  rw [Leaves, exec_directMiss, execDirectMiss, if_neg (by rcases h with h | h <;> simp [h])]

/-- The position of the stall is recorded, and the zero lies HOME_OFFSET from it, away from the stop (R238). -/
theorem exec_stallDetect_stopping (hstage : (s.axis a.val).prof.homing = .stopping) :
    let stall := smod 48 (s.encPos a.val + (s.axis a.val).prof.stepOfs)
    let ofs : Int := (s.parN 0x0400016E a.val * 65536 : Nat)
    Leaves (.stallDetect a) s (s.modProf a.val (fun p =>
      { p with pStall := stall, homeZero := smod 48 (if p.homePos then stall - ofs else stall + ofs), homing := .backOff })) := by
  rw [Leaves, exec_stallDetect, execStallDetect, if_pos hstage]

theorem exec_stallDetect_otherStage (hstage : (s.axis a.val).prof.homing ≠ .stopping) : Leaves (.stallDetect a) s s := by
  rw [Leaves, exec_stallDetect, execStallDetect, if_neg hstage]

/-- The motion of a search that has found no stop is left, and has failed. -/
def State.failSearch (s : State) (a : Nat) : State :=
  ((s.modProf a (fun p => { p with homing := .none, homeFail := true, v := 0, acc := 0 })).finishMotion a 0x0301).motionEnds a

theorem exec_homeFail_farEnough (hstage : (s.axis a.val).prof.homing = .search)
    (hfar : (s.axis a.val).prof.homeTravel ≤ (smod 48 ((s.axis a.val).prof.r - (s.axis a.val).prof.r0)).natAbs) :
    exec (.homeFail a) s = .next ((s.failSearch a.val).raise 0x0404 1 a.val []) := by
  rw [exec_homeFail, execHomeFail, if_pos (by simpa [hstage] using hfar)]
  rfl

theorem State.failSearch_homing (s : State) (a : Nat) :
    ((s.failSearch a).axis a).prof.homing = .none ∧ ((s.failSearch a).axis a).prof.homeFail = true := by
  obtain ⟨hstage, hfail, -⟩ := State.motionEnds_homing
    ((s.modProf a (fun p => { p with homing := .none, homeFail := true, v := 0, acc := 0 })).finishMotion a 0x0301) a
  exact ⟨hstage.trans (by simp), hfail.trans (by simp)⟩

theorem State.failSearch_gathered (hg : s.host.gathered = none) (a : Nat) : (s.failSearch a).host.gathered = none :=
  State.motionEnds_gathered (State.finishMotion_gathered (by simpa using hg) a 0x0301) a

/-- The axis rests at its zero: homing is complete, and the step offset makes the deviation 0 there (R237, R238). -/
theorem exec_homingComplete_atZero (hstage : (s.axis a.val).prof.homing = .backOff)
    (hzero : (s.axis a.val).prof.r = (s.axis a.val).prof.homeZero) (hrest : (s.axis a.val).prof.v = 0) :
    exec (.homingComplete a) s = .next (((s.captureOfs a.val (s.axis a.val).fbk.sampleCycle).modProf a.val
      (fun p => { p with homing := .none, homed := true })).motionEnds a.val) := by
  rw [exec_homingComplete, execHomingComplete, if_pos (by simp [hstage, hzero, hrest])]

end Events

/-- Settles O28: AX_DIRECT by its operation and the state it finds, and each event at its guard. -/
theorem directAndHoming : Obligations.DirectAndHoming := by
  unfold Obligations.DirectAndHoming
  intro s c axis op r a haxis t k x direct halt n p stall ofs
  refine ⟨?badOp, ?notReady, ?begins, ?notDirect, ?ends, ?places, ?late, ?misses, ?noMiss, ?stalls, ?noStall, ?fails, ?completes⟩
  case badOp =>
    exact fun hop hacts => exec_axDirect_bare haxis (by rintro rfl; exact absurd hop (by decide)) hacts (State.directAnswer_badOp hop)
  case notReady =>
    rintro rfl hst hacts
    exact exec_axDirect_bare haxis (by decide) hacts (State.directAnswer_begin_notReady hst)
  case begins =>
    rintro rfl hst hacts
    exact exec_axDirect_bare haxis (by decide) hacts (State.directAnswer_begin hst)
  case notDirect =>
    rintro rfl hdirect hacts
    exact exec_axDirect_bare haxis (by decide) hacts (State.directAnswer_end_notDirect hdirect)
  case ends =>
    rintro rfl hdirect hacts
    exact exec_axDirect_bare haxis (by decide) hacts (State.directAnswer_end hdirect)
  case places =>
    rintro rfl hdirect hcycle hacts
    exact (exec_axDirect_places haxis hdirect hacts).trans (by rw [State.placeDirect, if_pos hcycle])
  case late =>
    rintro rfl hdirect hcycle hacts
    exact (exec_axDirect_places haxis hdirect hacts).trans (by rw [State.placeDirect, if_neg (Nat.not_le.mpr hcycle)])
  case misses => exact exec_directMiss_halts
  case noMiss => exact exec_directMiss_stays
  case stalls => exact exec_stallDetect_stopping
  case noStall => exact exec_stallDetect_otherStage
  case fails =>
    intro hstage hfar
    obtain ⟨hnone, hfail⟩ := s.failSearch_homing a.val
    refine ⟨_, exec_homeFail_farEnough hstage hfar, by simpa using hnone, by simpa using hfail, fun hg => ?_⟩
    obtain ⟨-, e, rest, hhist, hcode, -⟩ := State.record_events (State.failSearch_gathered hg a.val) 0x0404 1 a.val 0 none []
    exact ⟨e, rest, hhist, hcode⟩
  case completes =>
    intro hstage hzero hrest
    obtain ⟨hnone, -, hhomed⟩ := State.motionEnds_homing ((s.captureOfs a.val (s.axis a.val).fbk.sampleCycle).modProf a.val
      (fun p => { p with homing := .none, homed := true })) a.val
    exact ⟨_, exec_homingComplete_atZero hstage hzero hrest, hnone.trans (by simp), hhomed.trans (by simp)⟩

end Sys2Proof.Machine
end

section
/-! The local step ports: the driver's fault input, the delay of its enable, and the step generator (R232 to R236, Table PRO-4). -/

namespace Sys2Proof.Machine

open Sys2Proof.Claims

theorem exec_stnFlt (n : StIx) (f : FltLevel) (s : State) : exec (.stnFlt n f) s = execStnFlt n f s := rfl
theorem exec_stEnDelayElapsed (n : StIx) (s : State) : exec (.stEnDelayElapsed n) s = execStEnDelayElapsed n s := rfl
theorem exec_stepGeneratorTick (n : StIx) (s : State) : exec (.stepGeneratorTick n) s = execStepGeneratorTick n s := rfl

/-- The pins of a port follow what it has become. -/
theorem State.stepPort_putStep (s : State) (n : Nat) (p : StepPort) :
    (s.putStep n p).stepPort n = p.drivePins (s.parN 0x04200004 n) (s.parN 0x04200005 n) s.coreTicks := State.setStep_self _ _ _

theorem StepPort.drivePins_undriven {p : StepPort} (h : p.driven = false) (pol modePin now : Nat) :
    (p.drivePins pol modePin now).pins = none := by
  simp [StepPort.drivePins, h]

/-- A level of STn_FLT that has passed the filter is the state of the driver's fault, by its polarity (R235). -/
def State.setDriverFault (s : State) (n : Nat) (level : Bool) : State :=
  s.modStep n (fun p => { p with flt := decide (level = nbit (s.parN 0x04200004 n) 3) })

section StepPort

variable {s : State} {n : StIx} {level : Bool} {held a k : Nat}

/-- A level shorter than the filter of 1 µs changes nothing. -/
theorem exec_stnFlt_short (hheld : held < 1000) : Leaves (.stnFlt n ⟨level, held⟩) s s := by
  rw [Leaves, exec_stnFlt]
  exact if_pos hheld

/-- The fault state of a port that no axis uses has no further effect. -/
theorem exec_stnFlt_noAxis (hheld : 1000 ≤ held) (haxis : s.portAxis n.val = none) :
    Leaves (.stnFlt n ⟨level, held⟩) s (s.setDriverFault n.val level) := by
  rw [Leaves, exec_stnFlt]
  exact (if_neg (Nat.not_lt.mpr hheld)).trans (by simp only [haxis]; rfl)

/-- The axis of the port takes the driver's state, and faults with cause 0x04 while the driver does (R235, Table LAW-5). -/
theorem exec_stnFlt_axis (hheld : 1000 ≤ held) (haxis : s.portAxis n.val = some a) :
    Leaves (.stnFlt n ⟨level, held⟩) s (if decide (level = nbit (s.parN 0x04200004 n.val) 3)
      then ((s.setDriverFault n.val level).localDrive a).axisFault a 4 else (s.setDriverFault n.val level).localDrive a) := by
  rw [Leaves, exec_stnFlt]
  exact (if_neg (Nat.not_lt.mpr hheld)).trans (by simp only [haxis]; rfl)

theorem exec_stEnDelayElapsed_due (hen : (s.stepPort n.val).en = true) (hoff : (s.stepPort n.val).torqueOn = false)
    (htick : (s.stepPort n.val).enTick = some k) (hdue : k + s.parN 0x04200006 n.val * 1000000 ≤ s.coreTicks) :
    Leaves (.stEnDelayElapsed n) s (s.modStep n.val (fun p => { p with torqueOn := true })) := by
  simp only [Leaves, exec_stEnDelayElapsed, execStEnDelayElapsed, htick]
  exact whenB_of_true (by simp [hen, hoff, hdue, msTicks]) _ _

theorem exec_stEnDelayElapsed_stays
    (h : (s.stepPort n.val).en = false ∨ (s.stepPort n.val).torqueOn = true ∨ (s.stepPort n.val).enTick = none) :
    Leaves (.stEnDelayElapsed n) s s := by
  simp only [Leaves, exec_stEnDelayElapsed, execStEnDelayElapsed]
  cases htick : (s.stepPort n.val).enTick with
  | none => rfl
  | some k =>
    have hstill : (s.stepPort n.val).en = false ∨ (s.stepPort n.val).torqueOn = true := by simpa [htick] using h
    exact whenB_of_false (by rcases hstill with h | h <;> simp [h]) _ _

/-- The generator of a driven port runs on every fifth tick of the core clock, and a step that had to wait is told to its axis. -/
theorem exec_stepGeneratorTick_runs (hdriven : (s.stepPort n.val).driven = true) (htick : s.coreTicks % 5 = 0)
    (haxis : s.portAxis n.val = some a) :
    let q := (s.stepPort n.val).tick s.coreTicks (s.parN 0x04200002 n.val) (s.parN 0x04200003 n.val) (s.parN 0x04000166 a) s.period
    Leaves (.stepGeneratorTick n) s ((s.putStep n.val q.1).modProf a (fun x => { x with dirAdj := x.dirAdj || q.2 })) := by
  rw [Leaves, exec_stepGeneratorTick]
  exact (if_pos (by simp [hdriven, htick])).trans (by simp only [haxis])

theorem exec_stepGeneratorTick_stays (h : (s.stepPort n.val).driven = false ∨ s.coreTicks % 5 ≠ 0) :
    Leaves (.stepGeneratorTick n) s s := by
  rw [Leaves, exec_stepGeneratorTick]
  exact if_neg (by rcases h with h | h <;> simp [h])

end StepPort

/-- Settles O29: each event of a port at its guard, and the pins by what the port has become. -/
theorem stepPorts : Obligations.StepPorts := by
  unfold Obligations.StepPorts
  intro s n level held a k p active q flt
  refine ⟨exec_stnFlt_short, exec_stnFlt_noAxis, ?faulted, ?cleared, exec_stEnDelayElapsed_due, exec_stEnDelayElapsed_stays,
    exec_stepGeneratorTick_runs, exec_stepGeneratorTick_stays, ?pins⟩
  case faulted => exact fun hheld haxis hactive => (exec_stnFlt_axis hheld haxis).trans (congrArg Host.Outcome.next (if_pos hactive))
  case cleared =>
    exact fun hheld haxis hactive => (exec_stnFlt_axis hheld haxis).trans
      (congrArg Host.Outcome.next (if_neg (Bool.eq_false_iff.mp hactive)))
  case pins =>
    intro hdriven
    rw [State.stepPort_putStep, StepPort.drivePins_undriven hdriven]

end Sys2Proof.Machine
end

section
/-! The field die's input windows, test pulses and timed orders, and the frames of the barrier links (R255, R322 to R324, R328, R338, R339,
R341 to R344, R470, R471). -/

namespace Sys2Proof.Machine

open Sys2Proof.Claims

theorem exec_fiSampleWindow (test : Bool) (volts : List Nat) (s : State) :
    exec (.fiSampleWindow test volts) s = execFiSampleWindow test volts s := rfl
theorem exec_timedOrderFire (tag : BitVec 16) (s : State) : exec (.timedOrderFire tag) s = execTimedOrderFire tag s := rfl
theorem exec_testPulse (k : Fin 2) (s : State) : exec (.testPulse k) s = execTestPulse k s := rfl
theorem exec_testPulseEnd (k : Fin 2) (s : State) : exec (.testPulseEnd k) s = execTestPulseEnd k s := rfl
theorem exec_barrierFramePeriod (s : State) : exec .barrierFramePeriod s = execBarrierFramePeriod s := rfl
theorem exec_fieldMUplinkReceive (bytes : List Byte) (s : State) : exec (.fieldMUplinkReceive bytes) s = execFieldMUplinkReceive bytes s := rfl
theorem exec_fieldHUplinkReceive (bytes : List Byte) (s : State) : exec (.fieldHUplinkReceive bytes) s = execFieldHUplinkReceive bytes s := rfl
theorem exec_fieldDownlinkReceive (b : Barrier) (bytes : List Byte) (s : State) :
    exec (.fieldDownlinkReceive b bytes) s = execFieldDownlinkReceive b bytes s := rfl

/-! Input windows (R322, R323, R328). -/

/-- Bit n of a word is the n-th of the Bools that form it. -/
theorem testBit_ofBools (bs : List Bool) (n : Nat) : (ofBools bs).testBit n = bs.getD n false := by
  induction bs generalizing n with
  | nil => simp [ofBools]
  | cons b bs ih =>
    have hb : b2n b < 2 := by cases b <;> decide
    cases n with
    | zero => cases b <;> simp [ofBools, b2n, Nat.testBit_zero, Nat.add_mod]
    | succ n =>
      have hdiv : ofBools (b :: bs) / 2 = ofBools bs := by rw [ofBools]; omega
      rw [Nat.testBit_succ, hdiv, ih, List.getD_cons_succ]

theorem getLsbD_ofBools_range (f : Nat → Bool) {n : Nat} (hn : n < 16) : (BitVec.ofNat 16 (ofBools ((List.range 16).map f))).getLsbD n = f n := by
  rw [BitVec.getLsbD_ofNat, testBit_ofBools]
  simp [hn]

/-- How a regular window decides input n: high from 11 V, low up to 5 V, and between them, or while the levels are invalid, as before. -/
def FieldDie.windowLevel (d : FieldDie) (volts : List Nat) (n : Nat) : Bool :=
  if d.invalid = true then d.level.getLsbD n else if 110 ≤ volts.getD n 0 then true
    else if volts.getD n 0 ≤ 50 then false else d.level.getLsbD n

theorem FieldDie.windowLevel_eq (d : FieldDie) (volts : List Nat) : d.windowLevel volts = fun n => if d.invalid = true then d.level.getLsbD n
    else decide (110 ≤ volts[n]?.getD 0) || !decide (volts[n]?.getD 0 ≤ 50) && d.level.getLsbD n := by
  funext n
  simp [FieldDie.windowLevel]

section Windows

variable {s : State} {test : Bool} {volts : List Nat}

/-- A window that both periods open reads every input. -/
theorem exec_fiSampleWindow_regular (hrun : s.die.running = true) (hsafe : s.die.winNextS ≤ s.coreTicks) (hrest : s.die.winNext ≤ s.coreTicks) :
    Leaves (.fiSampleWindow false volts) s { s with die := { s.die with
      level := BitVec.ofNat 16 (ofBools ((List.range 16).map (s.die.windowLevel volts))), sno := (s.die.sno + 1) % 256, test := false
      winNextS := s.coreTicks + 125000, winNext := s.coreTicks + s.parN 0x0D000001 0 * 31250 } } := by
  rw [Leaves, exec_fiSampleWindow, execFiSampleWindow]
  refine (whenB_of_true (by simp [hrun, hsafe]) _ _).trans ?_
  simp [hsafe, hrest, FieldDie.windowLevel_eq]

theorem exec_fiSampleWindow_idle (h : s.die.running = false ∨ (test = false ∧ s.coreTicks < s.die.winNextS ∧ s.coreTicks < s.die.winNext)
    ∨ (test = true ∧ s.testWindowDue = false)) : Leaves (.fiSampleWindow test volts) s s := by
  rw [Leaves, exec_fiSampleWindow]
  refine whenB_of_false ?_ _ _
  rcases h with hrun | ⟨htest, hsafe, hrest⟩ | ⟨htest, hdue⟩
  · simp [hrun]
  · simp [htest, hsafe, hrest]
  · simp [htest, hdue]

end Windows

/-! Timed orders (R255, R332, R338). -/

section Orders

variable {s : State} {o : Order} {tag : BitVec 16}

/-- The pending orders of an order's output that act with it, in the order in which they act. -/
def State.orderTurn (s : State) (o : Order) : List Order :=
  (s.die.orders.filter (fun p => decide (p.fq = o.fq) && dieBefore p o)).foldr insertDie []

/-- A due order acts behind those of its output that come before it. -/
theorem exec_timedOrderFire_due (hfound : s.die.orders.find? (fun o => decide (o.tag = tag.toNat)) = some o) (hfire : o.fire ≤ s.coreTicks)
    (hrun : s.die.running = true) : Leaves (.timedOrderFire tag) s ((s.orderTurn o).foldl State.fireOrder s) := by
  simp [Leaves, exec_timedOrderFire, execTimedOrderFire, State.orderTurn, hfound, hfire, hrun]

/-- Nothing of its output stands before the due order, which acts alone. -/
theorem exec_timedOrderFire_alone (hfound : s.die.orders.find? (fun o => decide (o.tag = tag.toNat)) = some o) (hfire : o.fire ≤ s.coreTicks)
    (hrun : s.die.running = true) (hturn : s.orderTurn o = [o]) : Leaves (.timedOrderFire tag) s (s.fireOrder o) :=
  (exec_timedOrderFire_due hfound hfire hrun).trans (by rw [hturn, List.foldl_cons, List.foldl_nil])

theorem exec_timedOrderFire_unknown (hnone : s.die.orders.find? (fun o => decide (o.tag = tag.toNat)) = none) :
    Leaves (.timedOrderFire tag) s s := by
  simp [Leaves, exec_timedOrderFire, execTimedOrderFire, hnone]

theorem exec_timedOrderFire_early (hfound : s.die.orders.find? (fun o => decide (o.tag = tag.toNat)) = some o)
    (h : s.coreTicks < o.fire ∨ s.die.running = false) : Leaves (.timedOrderFire tag) s s := by
  rcases h with h | h <;> simp [Leaves, exec_timedOrderFire, execTimedOrderFire, hfound, h]

/-- An output that a latch holds off loses its orders. -/
abbrev Fq.Latched (x : Fq) : Prop := x.wired = true ∨ x.latch = true ∨ x.offLatch = true

/-- An order that switches a hot or demagnetising output on waits. -/
abbrev Fq.Holds (x : Fq) (o : Order) : Prop := o.level = true ∧ (x.therm = true ∨ x.demag = true)

/-- An order is no longer pending. -/
def State.withoutOrder (s : State) (o : Order) : State :=
  { s with die := { s.die with orders := s.die.orders.filter (fun p => decide (p.tag ≠ o.tag)) } }

theorem State.fireOrder_latched (h : (s.fq o.fq).Latched) :
    s.fireOrder o = { s.withoutOrder o with fld := { s.fld with orderLost := inc32 s.fld.orderLost } } :=
  if_pos (by simpa [or_assoc] using h)

theorem State.fireOrder_waits (hfree : ¬ (s.fq o.fq).Latched) (hwait : (s.fq o.fq).Holds o) :
    s.fireOrder o = { (s.withoutOrder o).modFq o.fq (fun x => { x with holdOrder := some o.tag }) with
      fld := { s.fld with orderLate := inc32 s.fld.orderLate } } :=
  (if_neg (by simpa [or_assoc] using hfree)).trans (if_pos (by simpa using hwait))

theorem State.fireOrder_acts (hfree : ¬ (s.fq o.fq).Latched) (hgo : ¬ (s.fq o.fq).Holds o) :
    s.fireOrder o = ((({ s.withoutOrder o with die := { (s.withoutOrder o).die with orderAck := o.tag } }.modFq o.fq
      (fun x => { x with on := o.level, holdOrder := none })).setCmd o.fq o.level).fqDrive o.fq) :=
  (if_neg (by simpa [or_assoc] using hfree)).trans (if_neg (by simpa using hgo))

end Orders

/-! Test pulses (R328). -/

section Pulses

variable {s : State} {k : Fin 2}

/-- What a test pulse of supply k does to the die. -/
def State.lowerSupply (s : State) (k : Fin 2) : State :=
  let d := s.die
  let per := s.parN 0x0D000002 0 * 1000000
  let fin := s.coreTicks + s.parN 0x0D000003 0 * 1000
  { s with die :=
      if k = 0 then { d with ftp0 := false, tpSrc := false, tpEnd0 := fin, tpNext0 := nextTest d.bootTick per s.coreTicks }
      else { d with ftp1 := false, tpSrc := true, tpEnd1 := fin, tpNext1 := nextTest (d.bootTick + per / 2) per s.coreTicks } }

/-- When a test pulse of supply k may begin: the tests are on, its time has come, and a window follows within 77.5 µs. -/
abbrev State.PulseDue (s : State) (k : Fin 2) : Prop :=
  s.die.running = true ∧ s.die.ftpEn = true ∧ s.die.low = false ∧ (if k = 0 then s.die.tpNext0 else s.die.tpNext1) ≤ s.coreTicks
    ∧ s.die.winNextS ≤ s.coreTicks + 77500

theorem execTestPulse_eq (k : Fin 2) (s : State) : execTestPulse k s = whenB (decide (s.PulseDue k)) s (s.lowerSupply k) := by
  simp [execTestPulse, State.lowerSupply, Bool.decide_and, Bool.and_assoc]

theorem exec_testPulse_due (h : s.PulseDue k) : Leaves (.testPulse k) s (s.lowerSupply k) :=
  (execTestPulse_eq k s).trans (whenB_of_true (decide_eq_true h) _ _)

theorem exec_testPulse_stays (h : ¬ s.PulseDue k) : Leaves (.testPulse k) s s :=
  (execTestPulse_eq k s).trans (whenB_of_false (decide_eq_false h) _ _)

/-- When a test pulse of supply k ends. -/
abbrev State.PulseOver (s : State) (k : Fin 2) : Prop :=
  s.die.running = true ∧ s.die.ftpEn = true ∧ (if k = 0 then s.die.ftp0 else s.die.ftp1) = false
    ∧ (if k = 0 then s.die.tpEnd0 else s.die.tpEnd1) ≤ s.coreTicks

theorem execTestPulseEnd_eq (k : Fin 2) (s : State) : execTestPulseEnd k s
    = whenB (decide (s.PulseOver k)) s { s with die := if k = 0 then { s.die with ftp0 := true } else { s.die with ftp1 := true } } := by
  by_cases hk : k = 0 <;> simp [execTestPulseEnd, hk, Bool.decide_and, Bool.and_assoc]

theorem exec_testPulseEnd_over (h : s.PulseOver k) :
    Leaves (.testPulseEnd k) s { s with die := if k = 0 then { s.die with ftp0 := true } else { s.die with ftp1 := true } } :=
  (execTestPulseEnd_eq k s).trans (whenB_of_true (decide_eq_true h) _ _)

theorem exec_testPulseEnd_stays (h : ¬ s.PulseOver k) : Leaves (.testPulseEnd k) s s :=
  (execTestPulseEnd_eq k s).trans (whenB_of_false (decide_eq_false h) _ _)

end Pulses

/-! The frame period (R333, R341). -/

/-- A fold whose steps leave a reading leaves the reading. -/
theorem foldl_reading {σ β γ : Type} (g : σ → γ) {f : σ → β → σ} (hf : ∀ s x, g (f s x) = g s) (l : List β) (s : σ) :
    g (l.foldl f s) = g s := by
  induction l generalizing s with
  | nil => rfl
  | cons x l ih => exact (ih (f s x)).trans (hf s x)

/-- One change of each of the first n outputs. -/
theorem State.foldl_modFq (f : Fq → Fq) (s : State) (n i : Nat) :
    ((List.range n).foldl (fun s j => s.modFq j f) s).fq i = if i < n then f (s.fq i) else s.fq i := by
  induction n with
  | zero => rfl
  | succ n ih =>
    rw [List.range_succ, List.foldl_append, List.foldl_cons, List.foldl_nil, State.modFq_eq]
    rcases Nat.lt_trichotomy i n with h | rfl | h
    · rw [State.setFq_ne _ _ _ _ h.ne, ih, if_pos h, if_pos (Nat.lt_succ_of_lt h)]
    · rw [State.setFq_self, ih, if_neg (lt_irrefl i), if_pos (Nat.lt_succ_self i)]
    · rw [State.setFq_ne _ _ _ _ h.ne', ih, if_neg (by omega), if_neg (by omega)]

theorem State.fqDrive_permit (s : State) (j i : Nat) : ((s.fqDrive j).fq i).permit = (s.fq i).permit := by
  rw [State.fqDrive, State.modFq_eq]
  by_cases hi : i = j
  · subst hi
    rw [State.setFq_self]
    repeat' split
    all_goals rfl
  · rw [State.setFq_ne _ _ _ _ hi]

theorem State.fqDriveAll_permit (s : State) (i : Nat) : (s.fqDriveAll.fq i).permit = (s.fq i).permit :=
  foldl_reading (fun t => (t.fq i).permit) (fun t j => t.fqDrive_permit j i) _ s

theorem State.fqDriveAll_seqM (s : State) : s.fqDriveAll.die.seqM = s.die.seqM :=
  foldl_reading (fun t => t.die.seqM) (f := State.fqDrive) (fun _ _ => rfl) _ s

/-- The permit of one output goes. -/
def State.dropPermit (s : State) (j : Nat) : State := s.modFq j (fun x => { x with permit := false })

/-- No output has its permit. -/
def State.dropPermits (s : State) : State := (List.range 8).foldl State.dropPermit s

theorem State.dropPermits_permit (s : State) {i : Nat} (hi : i < 8) : (s.dropPermits.fq i).permit = false :=
  (congrArg Fq.permit (State.foldl_modFq _ s 8 i)).trans (by rw [if_pos hi])

theorem State.dropPermits_seqM (s : State) : s.dropPermits.die.seqM = s.die.seqM :=
  foldl_reading (fun t => t.die.seqM) (f := State.dropPermit) (fun _ _ => rfl) _ s

theorem State.dropPermits_fld (s : State) : s.dropPermits.fld = s.fld :=
  foldl_reading State.fld (f := State.dropPermit) (fun _ _ => rfl) _ s

theorem State.dropPermits_out (s : State) : s.dropPermits.out = s.out :=
  foldl_reading State.out (f := State.dropPermit) (fun _ _ => rfl) _ s

section FramePeriod

variable {s : State}

/-- Each side that is awake puts its frames on the links. -/
def State.sendFrames (s : State) : State :=
  let s0 := if s.boot.booting then s else s.put (.barrierDown .m s.mDownlink)
  let s1 := if s.saf.islandRunning then s0.put (.barrierDown .h s.hDownlink) else s0
  if s.die.running then (s1.put (.barrierUp .m (s.dieUplink .m))).put (.barrierUp .h (s.dieUplink .h)) else s1

theorem State.sendFrames_die (s : State) : s.sendFrames.die = s.die := by
  unfold State.sendFrames
  dsimp only
  split_ifs <;> rfl

theorem State.sendFrames_coreTicks (s : State) : s.sendFrames.coreTicks = s.coreTicks := by
  unfold State.sendFrames
  dsimp only
  split_ifs <;> rfl

theorem State.sendFrames_out (h : s.boot.testEn = false) : s.sendFrames.out
    = (if s.die.running then [.barrierUp .h (s.dieUplink .h), .barrierUp .m (s.dieUplink .m)] else [])
      ++ (if s.saf.islandRunning then [.barrierDown .h s.hDownlink] else []) ++ (if s.boot.booting then [] else [.barrierDown .m s.mDownlink])
      ++ s.out := by
  unfold State.sendFrames
  dsimp only
  split_ifs <;> simp [State.put, h]

/-- The frames are sent, the control die's side has become f, and the die's frame period and sequence numbers move on. -/
def State.frameSent (s : State) (f : FieldCtl) : State :=
  { s.sendFrames with
    fld := f
    die := { s.sendFrames.die with frameStart := s.coreTicks, seqM := (s.sendFrames.die.seqM + 1) % 256, seqH := (s.sendFrames.die.seqH + 1) % 256 } }

/-- After a frame period the permits are off where the last channel H frame is four periods old, and each output follows its target. -/
def State.afterFrames (s : State) (f : FieldCtl) : State :=
  (if s.die.lastH + 62500 ≤ s.coreTicks then (s.frameSent f).dropPermits else s.frameSent f).fqDriveAll

theorem State.afterFrames_fld (s : State) (f : FieldCtl) : (s.afterFrames f).fld = f := by
  simp [State.afterFrames, State.dropPermits_fld, State.frameSent]

theorem State.afterFrames_out (s : State) (f : FieldCtl) : (s.afterFrames f).out = s.sendFrames.out := by
  simp [State.afterFrames, State.dropPermits_out, State.frameSent]

theorem State.afterFrames_seqM (s : State) (f : FieldCtl) : (s.afterFrames f).die.seqM = (s.die.seqM + 1) % 256 := by
  have hsent : (s.frameSent f).die.seqM = (s.die.seqM + 1) % 256 := by rw [State.frameSent, State.sendFrames_die]
  rw [State.afterFrames, State.fqDriveAll_seqM]
  split
  · exact (State.dropPermits_seqM _).trans hsent
  · exact hsent

theorem State.afterFrames_permit (f : FieldCtl) (hlost : s.die.lastH + 62500 ≤ s.coreTicks) {i : Nat} (hi : i < 8) :
    ((s.afterFrames f).fq i).permit = false := by
  rw [State.afterFrames, if_pos hlost, State.fqDriveAll_permit, State.dropPermits_permit _ hi]

theorem exec_barrierFramePeriod_early (h : s.coreTicks < s.fld.nextM) : Leaves .barrierFramePeriod s s := by
  rw [Leaves, exec_barrierFramePeriod, execBarrierFramePeriod, if_neg (Nat.not_le.mpr h)]

theorem exec_barrierFramePeriod_due (h : s.fld.nextM ≤ s.coreTicks) : ∃ f : FieldCtl, Leaves .barrierFramePeriod s (s.afterFrames f)
    ∧ f.nextM = s.coreTicks + 15625 ∧ f.seqM = (s.fld.seqM + 1) % 256 ∧ f.seqH = (s.fld.seqH + 1) % 256 ∧ f.ftpEn = s.ftpCommand := by
  have hlost : decide (s.sendFrames.die.lastH + 62500 ≤ s.sendFrames.coreTicks) = true ↔ s.die.lastH + 62500 ≤ s.coreTicks := by
    rw [State.sendFrames_die, State.sendFrames_coreTicks, decide_eq_true_iff]
  refine ⟨_, (if_pos h).trans (congrArg (fun u => Host.Outcome.next (State.fqDriveAll u)) (if_congr hlost rfl rfl)), ?_⟩
  exact ⟨rfl, rfl, rfl, rfl⟩

end FramePeriod

/-! Epochs and check codes (R342 to R344, R470, R471). -/

/-- The receiver's own epoch is used, and its peer is not joining. -/
theorem epochSee_own {own : BitVec 4} (h : own ≠ 0) (zero designated : Bool) : epochSee own own zero designated = (own, false, true, false) := by
  rw [epochSee, if_neg h, if_neg h, if_pos rfl]

/-- Of two running epochs that differ, the receiver keeps its own and does not use the frame. -/
theorem epochSee_other {own e : BitVec 4} (he : e ≠ 0) (hown : own ≠ 0) (hne : e ≠ own) (zero designated : Bool) :
    epochSee own e zero designated = (own, false, false, zero) := by
  rw [epochSee, if_neg he, if_neg hown, if_neg hne]

/-! A frame of a channel stamps the channel, and what the channel finds in it leaves the stamp and the link's count (R301, R310, R329, R335). -/

/-- When a channel had its last frame. -/
def State.lastFrame (s : State) (ch : Chan) : Nat := (s.chan ch).lastFrame

/-- The last frame of channel M at the control die: when it came, its SEQ, and how many were discarded. -/
def FieldCtl.linkM (f : FieldCtl) : Option Nat × Option Nat × Nat := (f.lastM, f.rxSeqM, f.mErrs)

theorem FieldCtl.linkM_eq_iff {f : FieldCtl} {last seq : Option Nat} {errs : Nat} :
    f.linkM = (last, seq, errs) ↔ f.lastM = last ∧ f.rxSeqM = seq ∧ f.mErrs = errs := by
  simp [FieldCtl.linkM]

theorem State.chan_setChan (s : State) (ch : Chan) (c : Channel) : (s.setChan ch c).chan ch = c := by
  cases ch <;> rfl

theorem State.lastFrame_setChan (s : State) (ch : Chan) (c : Channel) : (s.setChan ch c).lastFrame ch = c.lastFrame :=
  congrArg Channel.lastFrame (s.chan_setChan ch c)

theorem State.lastFrame_congr {s t : State} (h : s.saf = t.saf) (ch : Chan) : s.lastFrame ch = t.lastFrame ch := by
  cases ch <;> simp [State.lastFrame, State.chan, h]

theorem State.lastFrame_ite {c : Prop} [Decidable c] (s t : State) (ch : Chan) :
    (if c then s else t).lastFrame ch = if c then s.lastFrame ch else t.lastFrame ch := apply_ite (State.lastFrame · ch) c s t

theorem State.ite_lastFrame {c : Prop} [Decidable c] {s t : State} {ch : Chan} {n : Nat} (hs : s.lastFrame ch = n) (ht : t.lastFrame ch = n) :
    (if c then s else t).lastFrame ch = n := by
  rw [State.lastFrame_ite, hs, ht, ite_self]

theorem State.linkM_ite {c : Prop} [Decidable c] (s t : State) :
    (if c then s else t).fld.linkM = if c then s.fld.linkM else t.fld.linkM := apply_ite (fun u : State => u.fld.linkM) c s t

theorem Channel.restartRuns_lastFrame (c : Channel) (axes : List Nat) : (c.restartRuns axes).lastFrame = c.lastFrame :=
  foldl_reading Channel.lastFrame (f := fun c a => c.setMon a { c.mon a with belowRun := 0, belowSince := none, confirmed := false })
    (fun _ _ => rfl) axes c

theorem State.raise_lastFrame (s : State) (code sev inst : Nat) (data : List Byte) (ch : Chan) :
    (s.raise code sev inst data).lastFrame ch = s.lastFrame ch := State.lastFrame_congr (by simp) ch

theorem State.raise_linkM (s : State) (code sev inst : Nat) (data : List Byte) : (s.raise code sev inst data).fld.linkM = s.fld.linkM :=
  congrArg FieldCtl.linkM (by simp only [State.raise_frame])

theorem State.groupChanged_lastFrame (s0 s : State) (g : Nat) (ch : Chan) : (State.groupChanged s0 s g).lastFrame ch = s.lastFrame ch := by
  have hcount (n : Nat) : ({ s with saf := { s.saf with demands := n } } : State).lastFrame ch = s.lastFrame ch := by cases ch <;> rfl
  unfold State.groupChanged
  simp only [State.lastFrame_ite, State.raise_lastFrame, hcount, ite_self]

theorem State.demand_lastFrame (s : State) (ch : Chan) (g : Nat) (sto : Bool) (cause : Nat) :
    (s.demand ch g sto cause).lastFrame ch = s.lastFrame ch := by
  rw [State.demand, State.groupChanged_lastFrame]
  have hchan (t : State) (f : GrpFlags → GrpFlags) : (t.modGrpFlags g f).lastFrame ch = t.lastFrame ch := by cases ch <;> rfl
  rw [apply_ite (State.lastFrame · ch), hchan, ite_self, State.lastFrame_setChan]
  change (if _ then _ else _ : Channel).lastFrame = _
  rw [apply_ite Channel.lastFrame, Channel.restartRuns_lastFrame, ite_self]
  rfl

theorem State.demandMask_lastFrame (s : State) (ch : Chan) (mask : Nat) (sto : Bool) (cause : Nat) :
    (s.demandMask ch mask sto cause).lastFrame ch = s.lastFrame ch := by
  refine foldl_reading (State.lastFrame · ch) (fun t g => ?_) _ s
  split
  · exact t.demand_lastFrame ch g sto cause
  · rfl

theorem State.demandPair_lastFrame (s : State) (ch : Chan) (i cause : Nat) (sto : Bool) :
    (s.demandPair ch i cause sto).lastFrame ch = s.lastFrame ch := s.demandMask_lastFrame ch _ sto cause

theorem State.pairWindow_lastFrame (s : State) (ch : Chan) (fi flags i : Nat) : (s.pairWindow ch fi flags i).lastFrame ch = s.lastFrame ch := by
  unfold State.pairWindow
  dsimp only
  split_ifs
  · exact (State.lastFrame_congr rfl ch).trans ((State.demandPair_lastFrame _ ch i _ _).trans (State.lastFrame_setChan _ _ _))
  · rfl
  · exact State.lastFrame_setChan _ _ _
  · rfl

theorem State.pairWindow_linkM (s : State) (ch : Chan) (fi flags i : Nat) : (s.pairWindow ch fi flags i).fld.linkM = s.fld.linkM := by
  unfold State.pairWindow
  dsimp only
  split_ifs <;> simp [FieldCtl.linkM]

theorem State.ackWindow_lastFrame (s : State) (ch : Chan) (level : Bool) : (s.ackWindow ch level).lastFrame ch = s.lastFrame ch := by
  have hset (c : Channel) (h : c.lastFrame = s.lastFrame ch) : (s.setChan ch c).lastFrame ch = s.lastFrame ch :=
    (s.lastFrame_setChan ch c).trans h
  have hbad (t : State) (n : Nat) (a : Option Int) : ({ t with saf := { t.saf with ackBad := n, ackBadAt := a } } : State).lastFrame ch
      = t.lastFrame ch := by cases ch <;> rfl
  unfold State.ackWindow
  dsimp only
  split
  · exact hset _ rfl
  · split
    · split
      · exact hset _ rfl
      · exact State.ite_lastFrame (hset _ rfl) (State.ite_lastFrame (hset _ rfl) ((hbad _ _ _).trans (hset _ rfl)))
    · exact hset _ rfl

theorem State.pairsInvalid_lastFrame (s : State) (ch : Chan) (invalid : Bool) : (s.pairsInvalid ch invalid).lastFrame ch = s.lastFrame ch := by
  rw [State.pairsInvalid, State.lastFrame_setChan]
  refine foldl_reading Channel.lastFrame (fun c i => ?_) _ _
  split <;> rfl

theorem State.pairDemands_lastFrame (s : State) (ch : Chan) : (s.pairDemands ch).lastFrame ch = s.lastFrame ch := by
  refine foldl_reading (State.lastFrame · ch) (fun t i => ?_) _ s
  simp only [State.lastFrame_ite, State.demandPair_lastFrame, ite_self]

theorem State.outputDemands_lastFrame (s : State) (ch : Chan) (bytes : List Byte) : (s.outputDemands ch bytes).lastFrame ch = s.lastFrame ch :=
  (foldl_reading (State.lastFrame · ch) (fun t _ => t.demandMask_lastFrame ch _ _ _) _ _).trans (State.lastFrame_setChan _ _ _)

/-- The eight pairs take a window. -/
theorem State.pairWindows_lastFrame (s : State) (ch : Chan) (fi flags : Nat) :
    ((List.range 8).foldl (fun s i => s.pairWindow ch fi flags i) s).lastFrame ch = s.lastFrame ch :=
  foldl_reading (State.lastFrame · ch) (fun t i => t.pairWindow_lastFrame ch fi flags i) _ s

theorem State.pairWindows_linkM (s : State) (ch : Chan) (fi flags : Nat) :
    ((List.range 8).foldl (fun s i => s.pairWindow ch fi flags i) s).fld.linkM = s.fld.linkM :=
  foldl_reading (fun t : State => t.fld.linkM) (fun t i => t.pairWindow_linkM ch fi flags i) _ s

/-- A valid frame is the channel's last one. -/
theorem State.channelUplink_lastFrame (s : State) (ch : Chan) (bytes : List Byte) : (s.channelUplink ch bytes).lastFrame ch = s.coreTicks := by
  unfold State.channelUplink
  simp only [State.outputDemands_lastFrame, State.pairDemands_lastFrame, State.pairsInvalid_lastFrame, State.lastFrame_ite,
    State.ackWindow_lastFrame, State.pairWindows_lastFrame, State.lastFrame_setChan, State.chan_setChan, ite_self]

theorem State.channelUplink_linkM (s : State) (ch : Chan) (bytes : List Byte) : (s.channelUplink ch bytes).fld.linkM = s.fld.linkM := by
  unfold State.channelUplink
  simp only [State.outputDemands_frame, State.pairDemands_frame, State.pairsInvalid_frame, State.ackWindow_frame, State.setChan_fields,
    State.linkM_ite, State.pairWindows_linkM, ite_self]

/-! What the control die does with a frame of channel M beside the channel (R324, R335, R344) leaves the link's count too. -/

theorem State.filterInput_linkM (s : State) (fi n : Nat) : (s.filterInput fi n).fld.linkM = s.fld.linkM := by
  unfold State.filterInput
  exact (State.linkM_ite _ _).trans (ite_self s.fld.linkM)

theorem State.takeInputs_linkM (s : State) (fi : Nat) (take : Bool) : (s.takeInputs fi take).fld.linkM = s.fld.linkM := by
  unfold State.takeInputs
  refine (foldl_reading (fun t : State => t.fld.linkM) (fun t n => ?_) (List.range 16) _).trans
    ((State.linkM_ite _ _).trans (ite_self s.fld.linkM))
  have hlevels (v : BitVec 16) : ({ t with fld := { t.fld with fiLevels := v } } : State).fld.linkM = t.fld.linkM := rfl
  simp only [State.linkM_ite, hlevels, State.filterInput_linkM, ite_self]

/-- The events of one output's findings, of those that a frame brings for the first time (R335). -/
def State.outputEvent (bytes : List Byte) (s : State) (j : Nat) : State :=
  let st := (byteAt bytes (8 + j)).toNat
  let p := BitVec.ofNat 8 (s.fq j).partner
  let s := if nbit st 3 && !s.fld.shortPrev.getLsbD j then s.raise 0x0D01 2 j [0, 0] else s
  let s := if s.shortFound bytes j then { s with fld := { s.fld with shortVf := BitVec.ofNat 8 (nsetBit s.fld.shortVf.toNat j true) } } else s
  let s := if nbit st 2 && !s.fld.wiredPrev.getLsbD j then s.raise 0x0D01 2 j [1, p] else s
  if nbit st 1 && !s.fld.latchPrev.getLsbD j then s.raise 0x0D01 2 j [2, p] else s

theorem State.outputEvent_linkM (bytes : List Byte) (s : State) (j : Nat) : (s.outputEvent bytes j).fld.linkM = s.fld.linkM := by
  have hshort (u : State) (v : BitVec 8) : ({ u with fld := { u.fld with shortVf := v } } : State).fld.linkM = u.fld.linkM := rfl
  unfold State.outputEvent
  simp only [State.linkM_ite, State.raise_linkM, hshort, ite_self]

/-- Beside the events of the eight outputs only the findings of the last frame change. -/
theorem State.outputEvents_fld (s : State) (bytes : List Byte) : ∃ short wired latch : BitVec 8, (s.outputEvents bytes).fld
    = { ((List.range 8).foldl (State.outputEvent bytes) s).fld with shortPrev := short, wiredPrev := wired, latchPrev := latch } :=
  ⟨_, _, _, rfl⟩

theorem State.outputEvents_linkM (s : State) (bytes : List Byte) : (s.outputEvents bytes).fld.linkM = s.fld.linkM := by
  obtain ⟨short, wired, latch, hfld⟩ := s.outputEvents_fld bytes
  rw [hfld]
  exact foldl_reading (fun t : State => t.fld.linkM) (State.outputEvent_linkM bytes) (List.range 8) s

theorem State.dropHeldOut_linkM (s : State) (j : Nat) : (s.dropHeldOut j).fld.linkM = s.fld.linkM := by
  have hheld : (s.setHeldOut j none).fld.linkM = s.fld.linkM := rfl
  unfold State.dropHeldOut
  simp only [State.linkM_ite, State.raise_linkM, hheld, ite_self]

theorem State.seeRestarted_linkM (s : State) (restarted : Bool) : (s.seeRestarted restarted).fld.linkM = s.fld.linkM := by
  unfold State.seeRestarted
  dsimp only
  split_ifs
  · exact (State.raise_linkM _ _ _ _ _).trans
      (foldl_reading (fun t : State => t.fld.linkM) (f := State.dropHeldOut) State.dropHeldOut_linkM _ _)
  · rfl
  · rfl

/-! The frames of the uplink at the chip (R343, R344, R470, R471). -/

section Uplink

variable {s : State} {bytes : List Byte}

theorem exec_fieldMUplink_booting (h : s.boot.booting = true) : Leaves (.fieldMUplinkReceive bytes) s s := by
  rw [Leaves, exec_fieldMUplinkReceive]
  exact if_pos h

theorem exec_fieldHUplink_islandOff (h : s.saf.islandRunning = false) : Leaves (.fieldHUplinkReceive bytes) s s := by
  rw [Leaves, exec_fieldHUplinkReceive]
  exact if_pos (by simp [h])

theorem exec_fieldMUplink_crc (h : s.boot.booting = false) (hcrc : barrierCrcOk .m bytes = false) :
    Leaves (.fieldMUplinkReceive bytes) s { s with fld := { s.fld with mErrs := inc32 s.fld.mErrs } } := by
  simp [Leaves, exec_fieldMUplinkReceive, execFieldMUplinkReceive, h, hcrc]

theorem exec_fieldHUplink_crc (h : s.saf.islandRunning = true) (hcrc : barrierCrcOk .h bytes = false) :
    Leaves (.fieldHUplinkReceive bytes) s { s with fld := { s.fld with hErrs := inc32 s.fld.hErrs } } := by
  simp [Leaves, exec_fieldHUplinkReceive, execFieldHUplinkReceive, h, hcrc]

theorem exec_fieldMUplink_otherEpoch (h : s.boot.booting = false) (hcrc : barrierCrcOk .m bytes = true) (hep : epochOf bytes ≠ 0)
    (hown : s.fld.epochM ≠ 0) (hne : epochOf bytes ≠ s.fld.epochM) :
    Leaves (.fieldMUplinkReceive bytes) s { s with fld := { s.fld with mErrs := inc32 s.fld.mErrs } } := by
  simp [Leaves, exec_fieldMUplinkReceive, execFieldMUplinkReceive, h, hcrc, epochSee_other hep hown hne]

theorem exec_fieldHUplink_otherEpoch (h : s.saf.islandRunning = true) (hcrc : barrierCrcOk .h bytes = true) (hep : epochOf bytes ≠ 0)
    (hown : s.fld.epochH ≠ 0) (hne : epochOf bytes ≠ s.fld.epochH) :
    Leaves (.fieldHUplinkReceive bytes) s { s with fld := { s.fld with hErrs := inc32 s.fld.hErrs } } := by
  simp [Leaves, exec_fieldHUplinkReceive, execFieldHUplinkReceive, h, hcrc, epochSee_other hep hown hne]

theorem exec_fieldHUplink_taken (h : s.saf.islandRunning = true) (hcrc : barrierCrcOk .h bytes = true) (hep : epochOf bytes ≠ 0)
    (hown : epochOf bytes = s.fld.epochH) :
    Leaves (.fieldHUplinkReceive bytes) s (State.channelUplink { s with fld := { s.fld with
      zeroH := false, lastH := some s.coreTicks, hGaps := seqGap s.fld.rxSeqH bytes s.fld.hGaps
      rxSeqH := some (byteAt bytes 1).toNat } } .h bytes) := by
  simp [Leaves, exec_fieldHUplinkReceive, execFieldHUplinkReceive, h, hcrc, hown, epochSee_own (hown ▸ hep)]

/-- What the control die notes of a frame of its epoch before channel P takes it. -/
def State.noteUplinkM (s : State) (bytes : List Byte) : State :=
  let f := s.fld
  let flags := (byteAt bytes 5).toNat
  { s with fld := { f with
    zeroM := false, lastM := some s.coreTicks, lastUp := f.up, up := bytes, mGaps := seqGap f.rxSeqM bytes f.mGaps
    snoM := some (byteAt bytes 4).toNat, rxSeqM := some (byteAt bytes 1).toNat, wdExpired := f.wdExpired || nbit flags 1
    winM := if nbit flags 7 then none else f.winM, filt := if nbit flags 7 then [] else f.filt } }

/-- Whether the inputs of a frame of channel M are those of a new window (R323, R324). -/
def State.takesUplinkInputs (s : State) (bytes : List Byte) : Bool :=
  ((s.noteUplinkM bytes).channelUplink .p bytes).takesInputs (byteAt bytes 5).toNat (decide (s.fld.snoM ≠ some (byteAt bytes 4).toNat))

/-- A frame of the epoch goes to channel P, to the inputs, to the events of the outputs, and to the die's restart mark. -/
def State.takeUplinkM (s : State) (bytes : List Byte) : State :=
  (((((s.noteUplinkM bytes).channelUplink .p bytes).takeInputs (field bytes 2 2) (s.takesUplinkInputs bytes)).outputEvents bytes).seeRestarted
    (nbit (byteAt bytes 5).toNat 2))

theorem exec_fieldMUplink_taken (h : s.boot.booting = false) (hcrc : barrierCrcOk .m bytes = true) (hep : epochOf bytes ≠ 0)
    (hown : epochOf bytes = s.fld.epochM) : Leaves (.fieldMUplinkReceive bytes) s (s.takeUplinkM bytes) := by
  have hsee := epochSee_own (hown ▸ hep) s.fld.zeroM true
  rw [Leaves, exec_fieldMUplinkReceive, execFieldMUplinkReceive, if_neg (Bool.eq_false_iff.mp h), if_pos hcrc, hown, hsee]
  rfl

theorem State.takeUplinkM_link (s : State) (bytes : List Byte) :
    (s.takeUplinkM bytes).fld.lastM = some s.coreTicks ∧ (s.takeUplinkM bytes).fld.rxSeqM = some (byteAt bytes 1).toNat
      ∧ (s.takeUplinkM bytes).fld.mErrs = s.fld.mErrs := by
  rw [← FieldCtl.linkM_eq_iff, State.takeUplinkM, State.seeRestarted_linkM, State.outputEvents_linkM, State.takeInputs_linkM,
    State.channelUplink_linkM]
  rfl

theorem State.takeUplinkM_lastFrame (s : State) (bytes : List Byte) : (s.takeUplinkM bytes).lastFrame .p = s.coreTicks :=
  (State.lastFrame_congr (by simp only [State.takeUplinkM, State.seeRestarted_frame, State.outputEvents_frame, State.takeInputs_frame]) .p).trans
    (State.channelUplink_lastFrame (s.noteUplinkM bytes) .p bytes)

end Uplink

/-! The frames of the downlink at the field die (R342, R344, R470, R471). -/

section Downlink

variable {s : State} {b : Barrier} {bytes : List Byte}

theorem exec_fieldDownlink_dieOff (h : s.die.running = false) : Leaves (.fieldDownlinkReceive b bytes) s s := by
  simp [Leaves, exec_fieldDownlinkReceive, execFieldDownlinkReceive, h]

theorem exec_fieldDownlinkM_crc (h : s.die.running = true) (hcrc : barrierCrcOk .m bytes = false) :
    Leaves (.fieldDownlinkReceive .m bytes) s { s with fld := { s.fld with mErrs := inc32 s.fld.mErrs } } := by
  simp [Leaves, exec_fieldDownlinkReceive, execFieldDownlinkReceive, h, hcrc]

theorem exec_fieldDownlinkH_crc (h : s.die.running = true) (hcrc : barrierCrcOk .h bytes = false) :
    Leaves (.fieldDownlinkReceive .h bytes) s { s with fld := { s.fld with hErrs := inc32 s.fld.hErrs } } := by
  simp [Leaves, exec_fieldDownlinkReceive, execFieldDownlinkReceive, h, hcrc]

theorem exec_fieldDownlinkH_taken (h : s.die.running = true) (hcrc : barrierCrcOk .h bytes = true) (hep : epochOf bytes ≠ 0)
    (hown : epochOf bytes = s.die.epochH) : Leaves (.fieldDownlinkReceive .h bytes) s
      ((State.dieTakesH { s with die := { s.die with zeroH := false } } bytes).trackDisagree) := by
  simp [Leaves, exec_fieldDownlinkReceive, execFieldDownlinkReceive, h, hcrc, hown, epochSee_own (hown ▸ hep)]

theorem exec_fieldDownlinkM_taken (h : s.die.running = true) (hcrc : barrierCrcOk .m bytes = true) (hep : epochOf bytes ≠ 0)
    (hown : epochOf bytes = s.die.epochM) : Leaves (.fieldDownlinkReceive .m bytes) s
      ((State.dieTakesM { s with die := { s.die with zeroM := false } } bytes).trackDisagree) := by
  simp [Leaves, exec_fieldDownlinkReceive, execFieldDownlinkReceive, h, hcrc, hown, epochSee_own (hown ▸ hep)]

end Downlink

/-- Settles O55: each event of the field die at its guard, and each frame by its receiver, its check code and its epoch. -/
theorem fieldLinks : Obligations.FieldLinks := by
  unfold Obligations.FieldLinks
  refine ⟨?die, ?links⟩
  case die =>
    intro s test volts tag o k d t regular idle x turn gone held acked found due latched waits tp low per fin
    refine ⟨?regular, exec_fiSampleWindow_idle, ?due, ?latched, ?waits, ?acts, ?stays, ?first, ?second, exec_testPulse_stays,
      exec_testPulseEnd_over, exec_testPulseEnd_stays⟩
    case regular =>
      rintro ⟨rfl, hrun, hsafe, hrest⟩
      exact ⟨_, exec_fiSampleWindow_regular hrun hsafe hrest, rfl, rfl, rfl, rfl, fun n hn => getLsbD_ofBools_range _ hn, rfl⟩
    case due => exact fun ⟨hfound, hfire, hrun⟩ => exec_timedOrderFire_due hfound hfire hrun
    case latched =>
      exact fun ⟨hfound, hfire, hrun⟩ hturn hlatch =>
        (exec_timedOrderFire_alone hfound hfire hrun hturn).trans (congrArg _ (State.fireOrder_latched hlatch))
    case waits =>
      exact fun ⟨hfound, hfire, hrun⟩ hturn hfree hwait =>
        (exec_timedOrderFire_alone hfound hfire hrun hturn).trans (congrArg _ (State.fireOrder_waits hfree hwait))
    case acts =>
      exact fun ⟨hfound, hfire, hrun⟩ hturn hfree hgo =>
        (exec_timedOrderFire_alone hfound hfire hrun hturn).trans (congrArg _ (State.fireOrder_acts hfree hgo))
    case stays =>
      rintro (hnone | ⟨hfound, hearly⟩)
      · exact exec_timedOrderFire_unknown hnone
      · exact exec_timedOrderFire_early hfound hearly
    case first =>
      rintro hlow rfl
      exact exec_testPulse_due hlow
    case second =>
      rintro hlow rfl
      exact exec_testPulse_due hlow
  case links =>
    intro s b bytes ep mErr hErr good upM upH sent
    have hbad {b : Barrier} (h : ¬ good b) : barrierCrcOk b bytes = false := Bool.eq_false_iff.mpr h
    refine ⟨exec_barrierFramePeriod_early, ?period, ?sends, ?upMOff, ?upHOff, fun hup h => exec_fieldMUplink_crc hup (hbad h),
      fun hup h => exec_fieldHUplink_crc hup (hbad h), exec_fieldDownlink_dieOff, ?downM, ?downH, exec_fieldMUplink_otherEpoch,
      exec_fieldHUplink_otherEpoch, ?upMTaken, exec_fieldHUplink_taken, ?downHTaken, ?downMTaken⟩
    case period =>
      intro hdue _
      obtain ⟨f, hexec, hfld⟩ := exec_barrierFramePeriod_due hdue
      rw [← s.afterFrames_fld f] at hfld
      obtain ⟨hnext, hseqM, hseqH, hftp⟩ := hfld
      exact ⟨_, hexec, hnext, hseqM, hseqH, s.afterFrames_seqM f, hftp, fun hlost i hi => State.afterFrames_permit f hlost hi⟩
    case sends =>
      intro hdue htest
      obtain ⟨f, hexec, -⟩ := exec_barrierFramePeriod_due hdue
      exact ⟨_, hexec, (s.afterFrames_out f).trans (State.sendFrames_out htest)⟩
    case upMOff => exact fun h => exec_fieldMUplink_booting (Bool.eq_true_of_not_eq_false h)
    case upHOff => exact fun h => exec_fieldHUplink_islandOff (Bool.eq_false_iff.mpr h)
    case downM =>
      rintro hrun h rfl
      exact exec_fieldDownlinkM_crc hrun (hbad h)
    case downH =>
      rintro hrun h rfl
      exact exec_fieldDownlinkH_crc hrun (hbad h)
    case upMTaken =>
      intro hup hcrc hep hown
      obtain ⟨hlast, hseq, herrs⟩ := s.takeUplinkM_link bytes
      exact ⟨_, exec_fieldMUplink_taken hup hcrc hep hown, hlast, hseq, herrs, s.takeUplinkM_lastFrame bytes⟩
    case downHTaken =>
      rintro hrun hcrc rfl hep hown
      exact exec_fieldDownlinkH_taken hrun hcrc hep hown
    case downMTaken =>
      rintro hrun hcrc rfl hep hown
      exact exec_fieldDownlinkM_taken hrun hcrc hep hown

end Sys2Proof.Machine
end

section
/-! The admission of the waiting requests of a power group at a seal (R281, R282). -/

namespace Sys2Proof.Machine

/-! The order of R40. -/

theorem reqBefore_iff (x y : Nat × Request) : reqBefore x y = true ↔
    x.2.prio < y.2.prio ∨ (x.2.prio = y.2.prio ∧ (x.2.cycle < y.2.cycle ∨ (x.2.cycle = y.2.cycle ∧ x.1 ≤ y.1))) := by
  simp [reqBefore]

theorem reqBefore_trans {x y z : Nat × Request} (hxy : reqBefore x y = true) (hyz : reqBefore y z = true) : reqBefore x z = true := by
  rw [reqBefore_iff] at *
  omega

theorem reqBefore_of_not {x y : Nat × Request} (h : reqBefore x y ≠ true) : reqBefore y x = true := by
  rw [Ne, reqBefore_iff] at h
  rw [reqBefore_iff]
  omega

@[simp] theorem mem_insertReq (x z : Nat × Request) (l : List (Nat × Request)) : z ∈ insertReq x l ↔ z = x ∨ z ∈ l := by
  induction l with
  | nil => simp [insertReq]
  | cons y ys ih =>
    simp only [insertReq]
    split
    · simp
    · simp only [List.mem_cons, ih]
      tauto

theorem insertReq_pairwise (x : Nat × Request) (l : List (Nat × Request)) (h : l.Pairwise (fun x y => reqBefore x y = true)) :
    (insertReq x l).Pairwise (fun x y => reqBefore x y = true) := by
  induction l with
  | nil => simp [insertReq]
  | cons y ys ih =>
    obtain ⟨hy, hys⟩ := List.pairwise_cons.mp h
    simp only [insertReq]
    split
    · next hxy =>
      refine List.pairwise_cons.mpr ⟨fun z hz => ?_, h⟩
      rcases List.mem_cons.mp hz with rfl | hz
      · exact hxy
      · exact reqBefore_trans hxy (hy z hz)
    · next hxy =>
      refine List.pairwise_cons.mpr ⟨fun z hz => ?_, ih hys⟩
      rcases (mem_insertReq x z ys).mp hz with rfl | hz
      · exact reqBefore_of_not hxy
      · exact hy z hz

/-- The requests of group g among xs, put in their places in l. -/
def placeReqs (g : Nat) (xs l : List (Nat × Request)) : List (Nat × Request) :=
  xs.foldl (fun l x => if x.2.group = g then insertReq x l else l) l

theorem mem_placeReqs (g : Nat) (z : Nat × Request) (xs l : List (Nat × Request)) :
    z ∈ placeReqs g xs l ↔ z ∈ l ∨ (z ∈ xs ∧ z.2.group = g) := by
  induction xs generalizing l with
  | nil => simp [placeReqs]
  | cons x xs ih =>
    rw [placeReqs, List.foldl_cons, ← placeReqs, ih]
    split
    · next hx =>
      rw [mem_insertReq, List.mem_cons]
      constructor
      · rintro ((rfl | hz) | hz)
        · exact .inr ⟨.inl rfl, hx⟩
        · exact .inl hz
        · exact .inr ⟨.inr hz.1, hz.2⟩
      · rintro (hz | ⟨rfl | hz, hg⟩)
        · exact .inl (.inr hz)
        · exact .inl (.inl rfl)
        · exact .inr ⟨hz, hg⟩
    · next hx =>
      rw [List.mem_cons]
      refine or_congr_right ⟨fun h => ⟨.inr h.1, h.2⟩, ?_⟩
      rintro ⟨rfl | hz, hg⟩
      · exact absurd hg hx
      · exact ⟨hz, hg⟩

theorem placeReqs_pairwise (g : Nat) (xs l : List (Nat × Request)) (h : l.Pairwise (fun x y => reqBefore x y = true)) :
    (placeReqs g xs l).Pairwise (fun x y => reqBefore x y = true) := by
  induction xs generalizing l with
  | nil => exact h
  | cons x xs ih =>
    rw [placeReqs, List.foldl_cons, ← placeReqs]
    split
    · exact ih _ (insertReq_pairwise x l h)
    · exact ih _ h

theorem State.waitingReqs_eq (s : State) (g : Nat) : s.waitingReqs g =
    placeReqs g (s.axes.filterMap (fun (p : Nat × Axis) => p.2.req.map (fun q => (p.1, q)))) [] := rfl

theorem State.waitingReqs_pairwise (s : State) (g : Nat) : (s.waitingReqs g).Pairwise (fun x y => reqBefore x y = true) :=
  placeReqs_pairwise g _ [] List.Pairwise.nil

/-- The requests of a group are those of the listed axes. -/
theorem State.mem_waitingReqs (s : State) (g a : Nat) (q : Request) :
    (a, q) ∈ s.waitingReqs g ↔ q.group = g ∧ ∃ y, (a, y) ∈ s.axes ∧ y.req = some q := by
  rw [State.waitingReqs_eq, mem_placeReqs, and_comm (b := q.group = g)]
  simp

/-! A start that does not change a plan (R278, R281). -/

section Start

variable {s : State} {a k g : Nat} {q : Request}

theorem State.costNow_start (hrest : s.isChange a q.kind = false) (hnew : q.change = false) :
    s.costNow a k q = (q.pReq, q.eReq, q.brake) := by
  simp [State.costNow, hrest, hnew]

theorem State.curveBlocked_start (hrest : s.isChange a q.kind = false) : s.curveBlocked a k q.kind = false := by
  unfold State.curveBlocked
  split
  · next hk => simp [hrest]
  · rfl

/-- The condition of R281 for a start from rest. -/
theorem State.fits_start (hrest : s.isChange a q.kind = false) (hnew : q.change = false) (hgrp : q.group < 16) :
    s.fits a k q = true ↔ (q.eReq * 1000 : Nat) ≤ (s.pgroup q.group).e ∧ (s.pgroup q.group).pRun + q.pReq ≤ s.pgMax q.group := by
  unfold State.fits
  rw [State.costNow_start hrest hnew, State.curveBlocked_start hrest, hrest]
  have hout : ¬ 16 ≤ q.group := by omega
  cases (s.axis a).span <;> simp [hout]

end Start

/-! What an admission writes beside the plan (R221, R281). -/

@[simp] theorem State.pgroup_setPgroup (s : State) (g i : Nat) (w : PowerGroup) :
    (s.setPgroup g w).pgroup i = if i = g then w else s.pgroup i := by
  split
  · next h => rw [h, State.setPgroup_self]
  · next h => exact State.setPgroup_ne s g w i h

/-- The tokens and the running power of group g, which only an admission or step 1 of R280 takes or gives. -/
def State.tokens (s : State) (g : Nat) : Int × Nat := ((s.pgroup g).e, (s.pgroup g).pRun)

theorem State.tokens_congr {s u : State} (h : u.groups = s.groups) (g : Nat) : u.tokens g = s.tokens g := by
  simp only [State.tokens, State.pgroup, h]

@[simp] theorem State.tokens_modPgroup (s : State) (i g : Nat) (f : PowerGroup → PowerGroup) (he : ∀ w, (f w).e = w.e)
    (hp : ∀ w, (f w).pRun = w.pRun) : (s.modPgroup i f).tokens g = s.tokens g := by
  simp only [State.tokens, State.modPgroup, State.pgroup_setPgroup]
  split
  · next h => rw [he, hp, h]
  · rfl

@[simp] theorem State.tokens_modAxis (s : State) (a g : Nat) (f : Axis → Axis) : (s.modAxis a f).tokens g = s.tokens g := rfl

@[simp] theorem State.tokens_modProf (s : State) (a g : Nat) (f : Prof → Prof) : (s.modProf a f).tokens g = s.tokens g := rfl

/-- The request and the state of Table LAW-3 of an axis. -/
def State.standing (s : State) (a : Nat) : Option Request × AxState := ((s.axis a).req, (s.axis a).life.state)

theorem State.standing_congr {s u : State} {a : Nat} (h : u.axis a = s.axis a) : u.standing a = s.standing a := by
  simp only [State.standing, h]

theorem State.standing_setAxis (s : State) (b a : Nat) (x : Axis) (hr : x.req = (s.axis b).req) (hl : x.life = (s.axis b).life) :
    (s.setAxis b x).standing a = s.standing a := by
  simp only [State.standing, State.axis_setAxis]
  split
  · next h => rw [hr, hl, h]
  · rfl

@[simp] theorem State.standing_modProf (s : State) (b a : Nat) (f : Prof → Prof) : (s.modProf b f).standing a = s.standing a :=
  s.standing_setAxis b a _ rfl rfl

@[simp] theorem State.standing_modPgroup (s : State) (g a : Nat) (f : PowerGroup → PowerGroup) : (s.modPgroup g f).standing a = s.standing a := rfl

@[simp] theorem State.endSpan_tokens (s : State) (a g : Nat) : (s.endSpan a).tokens g = s.tokens g := by
  unfold State.endSpan
  split
  · rfl
  · split
    · simp [-State.modAxis_eq]
    · rfl

@[simp] theorem State.endSpan_standing (s : State) (a b : Nat) : (s.endSpan a).standing b = s.standing b := by
  unfold State.endSpan
  split
  · rfl
  · split
    · exact State.standing_setAxis _ a b _ rfl rfl
    · rfl

/-- A segment that comes into force takes no tokens before the next seal (R279). -/
@[simp] theorem State.enterSeg_tokens (s : State) (a i : Nat) (t p v base : Int) (g : Nat) :
    (s.enterSeg a i t p v base).tokens g = s.tokens g := by
  unfold State.enterSeg
  dsimp only
  split
  · split
    · simp
    · simp
  · simp

@[simp] theorem State.enterSeg_standing (s : State) (a i : Nat) (t p v base : Int) (b : Nat) :
    (s.enterSeg a i t p v base).standing b = s.standing b := by
  unfold State.enterSeg
  dsimp only
  split
  · split <;> simp
  · simp

@[simp] theorem State.runProfile_tokens (s : State) (a a0 first : Nat) (base r0 v0 : Int) (g : Nat) :
    (s.runProfile a a0 first base r0 v0).tokens g = s.tokens g := by
  simp [State.runProfile]

@[simp] theorem State.runProfile_standing (s : State) (a a0 first : Nat) (base r0 v0 : Int) (b : Nat) :
    (s.runProfile a a0 first base r0 v0).standing b = s.standing b := by
  simp [State.runProfile]

theorem State.foldl_standing {α : Type} (f : State → α → State) (a : Nat) (hf : ∀ s x, (f s x).standing a = s.standing a) (xs : List α)
    (s : State) : (xs.foldl f s).standing a = s.standing a := by
  induction xs generalizing s with
  | nil => rfl
  | cons x xs ih => exact (ih (f s x)).trans (hf s x)

@[simp] theorem State.leaveGroup_standing (s : State) (a b : Nat) : (s.leaveGroup a).standing b = s.standing b := by
  unfold State.leaveGroup
  dsimp only
  split
  · rfl
  · split
    · refine (State.standing_congr (State.raise_axis ..)).trans ?_
      rw [State.foldl_standing _ b (fun _ _ => State.standing_modProf ..), State.standing_modProf]
    · exact State.standing_modProf ..

@[simp] theorem State.finishMotion_standing (s : State) (a status b : Nat) : (s.finishMotion a status).standing b = s.standing b := by
  simp only [State.finishMotion, State.standing_modProf]
  exact State.standing_congr (State.cmdDone?_axis ..)

/-- The axis RUNS, and its request is as before. -/
theorem State.takeMotion_standing (s : State) (a op : Nat) (ctx : Option CmdCtx) :
    (s.takeMotion a op ctx).standing a = ((s.standing a).1, .running) := by
  have hreq : (((s.leaveGroup a).finishMotion a 0x0301).axis a).req = (s.axis a).req :=
    congrArg Prod.fst ((State.finishMotion_standing ..).trans (s.leaveGroup_standing a a))
  simp only [State.takeMotion, State.standing_modProf]
  simp [State.standing, State.modLife, hreq]

@[simp] theorem State.takeMotion_tokens (s : State) (a op : Nat) (ctx : Option CmdCtx) (g : Nat) :
    (s.takeMotion a op ctx).tokens g = s.tokens g := State.tokens_congr (by simp) g

/-- A profile that starts from rest changes no plan (R215). -/
theorem State.beginOne_profile {s : State} {a k first : Nat} {rel : Bool} (hrest : s.isChange a (.profile first rel) = false) :
    ∃ a0 base r0 v0, s.beginOne a k (.profile first rel) = s.runProfile a a0 first base r0 v0 := by
  unfold State.beginOne
  simp only [hrest, Bool.false_eq_true, if_false]
  exact ⟨_, _, _, _, rfl⟩

theorem State.dropSpan_none {s : State} {a : Nat} (h : (s.axis a).span = none) : s.dropSpan a = s := by
  simp only [State.dropSpan, h]

/-- The state in which the request has left the queue, and its span, its tokens, its power and its power parameters are taken (R281, R288). -/
def State.charged (s : State) (a pReq brake : Nat) (eReq : Nat) (q : Request) : State :=
  (((s.modAxis a (fun x => { x with req := none, dmaxHit := false })).setSpan a pReq brake q.group).modPgroup q.group (fun w =>
    { w with e := w.e - (eReq * 1000 : Nat), pRun := w.pRun + pReq })).modProf a (fun p => { p with coef := s.coefIn q.coefs a })

theorem State.charged_tokens (s : State) (a pReq brake eReq : Nat) (q : Request) : (s.charged a pReq brake eReq q).tokens q.group
    = ((s.pgroup q.group).e - (eReq * 1000 : Nat), (s.pgroup q.group).pRun + pReq) := by
  simp [State.charged, State.tokens, State.modPgroup, State.setSpan, State.modProf]

theorem State.charged_standing (s : State) (a pReq brake eReq : Nat) (q : Request) : (s.charged a pReq brake eReq q).standing a
    = (none, s.axState a) := by
  rw [State.charged, State.standing_modProf, State.standing_modPgroup]
  simp [State.standing, State.setSpan, State.axState]

/-- A start from rest of one axis without a span is charged, begins and RUNS (R281). -/
theorem State.admitStart_profile {s : State} {a k first : Nat} {rel : Bool} {q : Request} (hk : q.kind = .profile first rel)
    (hrest : s.isChange a q.kind = false) (hnew : q.change = false) (hgrp : q.group < 16) (hspan : (s.axis a).span = none) :
    s.admitStart a k q = ((s.charged a q.pReq q.brake q.eReq q).beginOne a k (.profile first rel)).takeMotion a 0x0502 q.ctx := by
  have hcost := State.costNow_start (k := k) hrest hnew
  have hdrop : (s.modAxis a (fun x => { x with req := none, dmaxHit := false })).dropSpan a
      = s.modAxis a (fun x => { x with req := none, dmaxHit := false }) := State.dropSpan_none (by simp [hspan])
  unfold State.admitStart
  dsimp only
  simp only [hcost, hdrop, hk, hgrp, if_true]
  rfl

/-- A profile that is admitted from rest takes its energy and power, and its axis RUNS (R281). -/
theorem State.admitStart_profile_takes {s : State} {a k first : Nat} {rel : Bool} {q : Request} (hk : q.kind = .profile first rel)
    (hrest : s.isChange a q.kind = false) (hnew : q.change = false) (hgrp : q.group < 16) (hspan : (s.axis a).span = none) :
    (s.admitStart a k q).tokens q.group = ((s.pgroup q.group).e - (q.eReq * 1000 : Nat), (s.pgroup q.group).pRun + q.pReq)
      ∧ (s.admitStart a k q).standing a = (none, .running) := by
  have htok := s.charged_tokens a q.pReq q.brake q.eReq q
  have hst := s.charged_standing a q.pReq q.brake q.eReq q
  rw [State.admitStart_profile hk hrest hnew hgrp hspan]
  generalize s.charged a q.pReq q.brake q.eReq q = u at htok hst ⊢
  have hu : u.isChange a (.profile first rel) = false := by
    have hstate : u.axState a = s.axState a := congrArg Prod.snd hst
    rw [hk] at hrest
    simpa only [State.isChange, hstate] using hrest
  obtain ⟨a0, base, r0, v0, hrun⟩ := State.beginOne_profile (k := k) hu
  rw [hrun]
  refine ⟨by simpa using htok, ?_⟩
  rw [State.takeMotion_standing, State.runProfile_standing, hst]

/-! Deferral (R281, R282). -/

/-- What a plan is made from is the same in s and u: the parameters, the schedules, and of each axis its life, its law and its profile. -/
structure State.SamePlans (s u : State) : Prop where
  params : u.params = s.params
  segs : u.segs = s.segs
  axis (a : Nat) : (u.axis a).life = (s.axis a).life ∧ (u.axis a).law = (s.axis a).law ∧ (u.axis a).prof = (s.axis a).prof

section SamePlans

variable {s u : State} (h : s.SamePlans u)
include h

theorem State.SamePlans.parN : u.parN = s.parN := by
  funext base i
  simp only [State.parN, State.par, h.params]

theorem State.SamePlans.isChange (a : Nat) (kind : ReqKind) : u.isChange a kind = s.isChange a kind := by
  simp only [State.isChange, State.axState, (h.axis a).1] <;> rfl

theorem State.SamePlans.axisSlot (a use : Nat) : u.axisSlot a use = s.axisSlot a use := by
  simp only [State.axisSlot, State.segActive, State.sched, State.seg, h.parN, h.segs] <;> rfl

theorem State.SamePlans.firstReplaced (a k : Nat) : u.firstReplaced a k = s.firstReplaced a k := by
  simp only [State.firstReplaced, State.runAhead, State.dPath, State.onFold, State.seg, h.parN, h.segs, h.axisSlot, (h.axis a).2.1] <;> rfl

theorem State.SamePlans.planStart (a k : Nat) : u.planStart a k = s.planStart a k := by
  simp only [State.planStart, State.tagShift, State.runAhead, h.firstReplaced, h.parN, (h.axis a).2]

theorem State.SamePlans.startRef (a k : Nat) (kind : ReqKind) : u.startRef a k kind = s.startRef a k kind := by
  simp only [State.startRef, State.oldRef, h.isChange, h.planStart, (h.axis a).2]

theorem State.SamePlans.tooLong (a k : Nat) (kind : ReqKind) : u.tooLong a k kind = s.tooLong a k kind := by
  simp only [State.tooLong, State.basicPlan, State.period, h.startRef, h.parN, (h.axis a).2.2] <;> rfl

end SamePlans

/-- u comes from s by deferring requests of group g: no plan, no request and no token of the group has gone. -/
structure State.Deferred (g : Nat) (s u : State) : Prop extends s.SamePlans u where
  waits (a : Nat) : (u.axis a).req.isSome = (s.axis a).req.isSome
  tokens : u.tokens g = s.tokens g

theorem State.Deferred.refl (g : Nat) (s : State) : State.Deferred g s s := ⟨⟨rfl, rfl, fun _ => ⟨rfl, rfl, rfl⟩⟩, fun _ => rfl, rfl⟩

theorem State.defer_axis (s : State) (a g b : Nat) : (s.defer a g).axis b = if b = a then
    { s.axis a with req := (s.axis a).req.map (fun q => { q with defer := min 0xFFFFFF (q.defer + 1) }) } else s.axis b :=
  State.axis_setAxis ..

theorem State.Deferred.defer {g : Nat} {s u : State} (h : State.Deferred g s u) (a : Nat) : State.Deferred g s (u.defer a g) where
  params := h.params
  segs := h.segs
  axis b := by
    rw [State.defer_axis]
    split
    · next hb => exact hb ▸ h.axis b
    · exact h.axis b
  waits b := by
    rw [State.defer_axis]
    split
    · next hb => simpa [hb] using h.waits a
    · exact h.waits b
  tokens := by simpa [State.defer, -State.modAxis_eq] using h.tokens

/-- One request in the order of R281; the flag says that an earlier one was deferred. -/
def State.admitNext (k g : Nat) (p : State × Bool) (x : Nat × Request) : State × Bool :=
  if p.1.tooLong x.1 k x.2.kind then (p.1.dropLong x.1 x.2, p.2)
  else if !p.2 && p.1.fits x.1 k x.2 then (p.1.admitStart x.1 k x.2, false)
  else if g < 16 then (p.1.defer x.1 g, true)
  else (p.1.modAxis x.1 (fun y => { y with req := y.req.map (fun q => { q with defer := min 0xFFFFFF (q.defer + 1) }) }), false)

theorem State.admitGroup_eq (s : State) (k g : Nat) : s.admitGroup k g = ((s.waitingReqs g).foldl (State.admitNext k g) (s, false)).1 := rfl

theorem State.admitNext_fits {s : State} {k g : Nat} {x : Nat × Request} (hlong : s.tooLong x.1 k x.2.kind = false)
    (hfit : s.fits x.1 k x.2 = true) : State.admitNext k g (s, false) x = (s.admitStart x.1 k x.2, false) := by
  simp [State.admitNext, hlong, hfit]

/-- A request is deferred that does not fit, and every one behind a deferred one. -/
theorem State.admitNext_defers {s : State} {k g : Nat} {x : Nat × Request} {b : Bool} (hg : g < 16) (hlong : s.tooLong x.1 k x.2.kind = false)
    (hwait : b = true ∨ s.fits x.1 k x.2 = false) : State.admitNext k g (s, b) x = (s.defer x.1 g, true) := by
  rcases hwait with h | h <;> simp [State.admitNext, hlong, hg, h]

/-- Behind a deferred request every one waits. -/
theorem State.admitNext_waits {s : State} {k g : Nat} (hg : g < 16) (xs : List (Nat × Request)) (u : State) (hu : State.Deferred g s u)
    (hlong : ∀ y ∈ xs, s.tooLong y.1 k y.2.kind = false) : State.Deferred g s (xs.foldl (State.admitNext k g) (u, true)).1 := by
  induction xs generalizing u with
  | nil => exact hu
  | cons x xs ih =>
    have hx : u.tooLong x.1 k x.2.kind = false := (hu.tooLong ..).trans (hlong x List.mem_cons_self)
    rw [List.foldl_cons, State.admitNext_defers hg hx (.inl rfl)]
    exact ih _ (hu.defer x.1) (fun y hy => hlong y (List.mem_cons_of_mem x hy))

/-- A first request that does not fit holds up the group. -/
theorem State.admitGroup_waits {s : State} {k g : Nat} (hg : g < 16) {x : Nat × Request} {xs : List (Nat × Request)}
    (hreqs : s.waitingReqs g = x :: xs) (hfit : s.fits x.1 k x.2 = false) (hlong : ∀ y ∈ x :: xs, s.tooLong y.1 k y.2.kind = false) :
    State.Deferred g s (s.admitGroup k g) := by
  rw [State.admitGroup_eq, hreqs, List.foldl_cons, State.admitNext_defers hg (hlong x List.mem_cons_self) (.inr hfit)]
  exact State.admitNext_waits hg xs _ ((State.Deferred.refl g s).defer x.1) (fun y hy => hlong y (List.mem_cons_of_mem x hy))

/-- The only request of a group is admitted when it fits. -/
theorem State.admitGroup_only {s : State} {k g a : Nat} {q : Request} (hreqs : s.waitingReqs g = [(a, q)])
    (hlong : s.tooLong a k q.kind = false) (hfit : s.fits a k q = true) : s.admitGroup k g = s.admitStart a k q := by
  rw [State.admitGroup_eq, hreqs, List.foldl_cons, State.admitNext_fits hlong hfit, List.foldl_nil]

/-- Settles O44: the queue is an insertion sort by R40's order, and behind the first deferred request the fold of the seal only defers. -/
theorem admissionOrder : Obligations.AdmissionOrder := by
  intro s k g a q x xs w t before start
  refine ⟨?order, s.mem_waitingReqs g a q, ?fits, ?admitted, ?deferred⟩
  case order => exact (s.waitingReqs_pairwise g).imp (fun h => (reqBefore_iff _ _).mp h)
  case fits =>
    rintro ⟨hrest, hnew, rfl, hg⟩
    exact State.fits_start hrest hnew hg
  case admitted =>
    rintro ⟨hrest, hnew, rfl, hg⟩ hreqs hfit first rel hk hspan -
    have hlong : s.tooLong a k q.kind = false := by simp [hk, State.tooLong]
    have ht : t = s.admitStart a k q := State.admitGroup_only hreqs hlong hfit
    obtain ⟨htok, hst⟩ := State.admitStart_profile_takes (k := k) hk hrest hnew hg hspan
    rw [ht]
    exact ⟨congrArg Prod.fst htok, congrArg Prod.snd htok, congrArg Prod.fst hst, congrArg Prod.snd hst⟩
  case deferred =>
    intro hg hreqs hfit hlong
    have h : State.Deferred g s t := State.admitGroup_waits hg hreqs hfit hlong
    exact ⟨congrArg Prod.fst h.tokens, congrArg Prod.snd h.tokens, fun b => ⟨h.waits b, congrArg Life.state (h.axis b).1⟩⟩

end Sys2Proof.Machine
end

section
/-! The heat tick, the trim level and the Arbiter's commands (R28, R268 to R272, R276, R282, R287, R289). -/

namespace Sys2Proof.Machine

open Sys2Proof.Claims

theorem exec_heatTick (temps : List Int) (act : Activity) (s : State) : exec (.heatTick temps act) s = execHeatTick temps act s := rfl

theorem exec_dmax (a : AxisIx) (s : State) : exec (.dmax a) s = execDmax a s := rfl

theorem exec_arbQueueRead (c : CmdCtx) (group : BitVec 8) (start : BitVec 16) (s : State) :
    exec (.arbQueueRead c group start) s = execArbQueueRead c group start s := rfl

theorem exec_arbBudgetSet (c : CmdCtx) (which : BitVec 8) (values : List (BitVec 32)) (s : State) :
    exec (.arbBudgetSet c which values) s = execArbBudgetSet c which values s := rfl

/-! The hottest valid sensor (R269). -/

/-- The valid sensors of a tick. -/
def goodSensors (temps : List Int) : List Nat := (List.range 8).filter (fun i => sensorOk temps i)

theorem goodSensors_eq (temps : List Int) :
    (List.range 8).filter (fun i => ((List.range 8).map (sensorOk temps)).getD i false) = goodSensors temps :=
  List.filter_congr (fun i hi => by simp [List.mem_range.mp hi])

/-- The temperature of the hottest of the sensors, or the last known one. -/
def hottest (temps : List Int) (last : Int) : List Nat → Int
  | [] => last
  | i :: is => is.foldl (fun m j => max m (temps.getD j 0)) (temps.getD i 0)

theorem le_foldl_max (f : Nat → Int) (is : List Nat) (m : Int) : m ≤ is.foldl (fun m j => max m (f j)) m
    ∧ ∀ i ∈ is, f i ≤ is.foldl (fun m j => max m (f j)) m := by
  induction is generalizing m with
  | nil => simp
  | cons j js ih =>
    obtain ⟨hm, hjs⟩ := ih (max m (f j))
    refine ⟨(le_max_left _ _).trans hm, fun i hi => ?_⟩
    rcases List.mem_cons.mp hi with rfl | hi
    · exact (le_max_right _ _).trans hm
    · exact hjs i hi

theorem foldl_max_attained (f : Nat → Int) (is : List Nat) (m : Int) : is.foldl (fun m j => max m (f j)) m = m
    ∨ ∃ i ∈ is, is.foldl (fun m j => max m (f j)) m = f i := by
  induction is generalizing m with
  | nil => exact .inl rfl
  | cons j js ih =>
    rcases ih (max m (f j)) with h | ⟨i, hi, h⟩
    · rcases max_choice m (f j) with hm | hm
      · exact .inl (h.trans hm)
      · exact .inr ⟨j, List.mem_cons_self, h.trans hm⟩
    · exact .inr ⟨i, List.mem_cons_of_mem j hi, h⟩

theorem le_hottest (temps : List Int) (last : Int) (is : List Nat) (i : Nat) (hi : i ∈ is) : temps.getD i 0 ≤ hottest temps last is := by
  cases is with
  | nil => simp at hi
  | cons j js =>
    obtain ⟨hj, hjs⟩ := le_foldl_max (fun j => temps.getD j 0) js (temps.getD j 0)
    rcases List.mem_cons.mp hi with rfl | hi
    · exact hj
    · exact hjs i hi

theorem hottest_attained (temps : List Int) (last : Int) (is : List Nat) (h : is ≠ []) : ∃ i ∈ is, hottest temps last is = temps.getD i 0 := by
  cases is with
  | nil => exact absurd rfl h
  | cons j js =>
    rcases foldl_max_attained (fun j => temps.getD j 0) js (temps.getD j 0) with hj | ⟨i, hi, hmax⟩
    · exact ⟨j, List.mem_cons_self, hj⟩
    · exact ⟨i, List.mem_cons_of_mem j hi, hmax⟩

/-! The procedure of R272. -/

section TrimLevel

variable {hot calm : Bool} {allowed least relaxMax level relax : Nat}

theorem trimLevel_fault : trimLevel true hot calm allowed least relaxMax level relax = (max allowed (min least allowed), 0) := rfl

theorem trimLevel_hot : trimLevel false true calm allowed least relaxMax level relax
    = (max (min (level + 1) allowed) (min least allowed), 0) := rfl

theorem trimLevel_relaxed (h : relaxMax ≤ relax + 1) : trimLevel false false true allowed least relaxMax level relax
    = (max (level - 1) (min least allowed), 0) := by
  simp [trimLevel, h]

theorem trimLevel_relaxing (h : relax + 1 < relaxMax) : trimLevel false false true allowed least relaxMax level relax
    = (max level (min least allowed), relax + 1) := by
  simp [trimLevel, Nat.not_le.mpr h]

theorem trimLevel_between : trimLevel false false false allowed least relaxMax level relax = (max level (min least allowed), 0) := rfl

end TrimLevel

/-! The heat tick (R268, R272). -/

section HeatTick

variable {s : State} {temps : List Int} {act : Activity}

/-- The trim levels that ARB_MASK allows (R274). -/
def State.allowedTrims (s : State) : Nat := ((List.range 5).filter (fun j => nbit (s.parN 0x0C000006 0) j)).length

/-- The estimate or the hottest valid sensor is over its limit. -/
def State.overHeated (s : State) (temps : List Int) (tMax : Int) (pEst : Nat) : Bool :=
  decide (s.parN 0x0C000001 0 < pEst) || (decide (goodSensors temps ≠ []) && decide (s.par 0x0C000002 0 ≤ tMax))

/-- Both are below their limits by the hysteresis. -/
def State.cooledDown (s : State) (temps : List Int) (tMax : Int) (pEst : Nat) : Bool :=
  decide (pEst + s.parN 0x0C000003 0 ≤ s.parN 0x0C000001 0)
    && (decide (goodSensors temps = []) || decide (tMax ≤ s.par 0x0C000002 0 - s.par 0x0C000004 0))

/-- The level and the relax count after a tick that found tMax and pEst. -/
def State.trimAfter (s : State) (temps : List Int) (tMax : Int) (pEst : Nat) : Nat × Nat :=
  trimLevel (decide ((goodSensors temps).length < 6)) (s.overHeated temps tMax pEst) (s.cooledDown temps tMax pEst) s.allowedTrims
    (s.parN 0x0C000007 0) (s.parN 0x0C000005 0) (min s.arb.level s.allowedTrims) s.arb.relax

theorem State.trimAfter_of {tMax : Int} {pEst : Nat} {fault hot calm : Bool} (hfault : decide ((goodSensors temps).length < 6) = fault)
    (hhot : s.overHeated temps tMax pEst = hot) (hcalm : s.cooledDown temps tMax pEst = calm) : s.trimAfter temps tMax pEst
      = trimLevel fault hot calm s.allowedTrims (s.parN 0x0C000007 0) (s.parN 0x0C000005 0) (min s.arb.level s.allowedTrims) s.arb.relax := by
  rw [State.trimAfter, hfault, hhot, hcalm]

/-- A tick before its time, or without its eight readings, does nothing. -/
theorem exec_heatTick_waits (h : s.coreTicks < s.arb.nextTick ∨ temps.length ≠ 8) : exec (.heatTick temps act) s = .next s := by
  rw [exec_heatTick]
  unfold execHeatTick
  rw [if_neg]
  rcases h with h | h <;> simp [h]

/-- A level that is set is the next one to land on the chip on move (R28, R276). -/
theorem State.setTrim_next {s : State} (h : s.twin.standby = false) (level : Nat) :
    (s.setTrim level).cyc.trimNext.getD (s.setTrim level).cyc.trim = level := by
  unfold State.setTrim
  split
  · next hsame => simpa [h] using hsame
  · dsimp only
    split <;> rfl

theorem exec_heatTick_due (hdue : s.arb.nextTick ≤ s.coreTicks) (hlen : temps.length = 8) :
    ∃ t, exec (.heatTick temps act) s = .next t ∧ t.arb.nextTick = s.coreTicks + 1000000 ∧ t.arb.temps = temps
      ∧ t.arb.sensorFault = decide ((goodSensors temps).length < 6) ∧ t.arb.tMax = hottest temps s.arb.tMax (goodSensors temps)
      ∧ (t.arb.level, t.arb.relax) = s.trimAfter temps t.arb.tMax t.arb.pEst
      ∧ (s.twin.standby = false → t.cyc.trimNext.getD t.cyc.trim = t.arb.level) := by
  rw [exec_heatTick]
  unfold execHeatTick
  rw [if_pos (by simp [hdue, hlen])]
  extract_lets oks good tMax busy pEst mask allowed fault hot calm p exhausted tell s1 old s2 s3
  have hgood : good = goodSensors temps := goodSensors_eq temps
  have hmax : tMax = hottest temps s.arb.tMax (goodSensors temps) := by
    rw [← hgood]
    dsimp only [tMax]
    clear_value good
    cases good <;> rfl
  have hp : p = s.trimAfter temps tMax pEst := by
    simp only [p, State.trimAfter, fault, hot, calm, hgood]
    rfl
  have harb : ((s3.setTrim p.1).retryRotation).arb = s2.arb := by
    simp only [s3]
    split <;> simp
  have hstand : s3.twin.standby = s.twin.standby := by
    simp only [s3]
    split <;> simp [s2, s1]
  refine ⟨_, rfl, ?_⟩
  rw [harb]
  refine ⟨rfl, rfl, congrArg (fun l : List Nat => decide (l.length < 6)) hgood, hmax, hp, fun h => ?_⟩
  simpa using State.setTrim_next (hstand.trans h) p.1

end HeatTick

/-! The frames of a cycle start leave the cycle (R15, R25, R88, R293). -/

@[simp] theorem State.sendCsf_cyc (s : State) (n : Nat) : (s.sendCsf n).cyc = s.cyc := by
  unfold State.sendCsf
  dsimp only
  split <;> simp

@[simp] theorem State.runFrame_cyc (s : State) (n kind p : Nat) (pl : List Byte) : (s.runFrame n kind p pl).1.cyc = s.cyc := by
  simp [State.runFrame]

@[simp] theorem State.runSup_cyc (s : State) (n p : Nat) (q : Bool × List Byte) : (s.runSup n p q).1.cyc = s.cyc := by
  unfold State.runSup
  split <;> simp

@[simp] theorem State.runSups_cyc (s : State) (n f p : Nat) : (s.runSups n f p).cyc = s.cyc := by
  induction f generalizing s p with
  | zero => rfl
  | succ f ih =>
    rw [State.runSups]
    split
    · rfl
    · dsimp only
      split
      · simp [ih]
      · rfl

@[simp] theorem State.runSch_cyc (s : State) (n p : Nat) : (s.runSch n p).1.cyc = s.cyc := by
  unfold State.runSch
  extract_lets g u
  have hu : u.cyc = s.cyc := by
    simp only [u]
    split
    · rfl
    · split <;> simp
    · rfl
  split
  · exact hu
  · split
    · simpa using hu
    · exact hu

@[simp] theorem State.headRun_cyc (s : State) (n : Nat) : (s.headRun n).cyc = s.cyc := by
  simp [State.headRun]

@[simp] theorem State.sendExchanges_cyc (s : State) (n : Nat) : (s.sendExchanges n).cyc = s.cyc := by
  simp [State.sendExchanges]

@[simp] theorem State.injectSaf_cyc (s : State) : s.injectSaf.cyc = s.cyc := by
  unfold State.injectSaf
  split
  · rfl
  · split
    · split
      · rfl
      · split <;> simp
    · split
      · rfl
      · extract_lets k ok
        clear_value ok
        cases ok with
        | none => rfl
        | some p =>
          simp only [State.safStops_frame, State.startMonitors_frame]
          refine State.foldl_cyc _ (fun t n => ?_) _ _
          split
          · split <;> simp
          · rfl

@[simp] theorem State.cycleStops_cyc (s : State) : s.cycleStops.cyc = s.cyc := by
  simp [State.cycleStops]

@[simp] theorem State.headSend_cyc (s : State) : s.headSend.cyc = s.cyc := by
  unfold State.headSend
  extract_lets s1 s2
  have hs1 : s1.cyc = s.cyc := by
    refine State.foldl_cyc _ (fun t n => ?_) _ _
    split <;> simp
  have hs2 : s2.cyc = s.cyc := (State.cycleStops_cyc s1).trans hs1
  refine Eq.trans (State.foldl_cyc _ (fun t n => ?_) _ _) hs2
  split <;> simp

/-- A trim level that waits without a log record in flight takes effect at the cycle start (R28). -/
theorem State.enterCycle_trim {s : State} {k : Nat} (hlog : s.twin.trimLog = none) (hat : s.cyc.trimAt ≤ k) :
    (s.enterCycle k).cyc.trim = s.cyc.trimNext.getD s.cyc.trim := by
  simp [State.enterCycle, hlog, hat]

theorem State.swapOut_trimLog (s : State) (k : Nat) : (s.swapOut k).twin.trimLog = s.twin.trimLog := by
  unfold State.swapOut
  split
  · rfl
  · split
    · rfl
    · split
      · simp
      · split
        · simp
        · rfl

theorem exec_cycleStart_trim {s : State} (hsil : s.saf.silent = false) (hend : s.saf.endgame = none) (hrun : s.cyc.running = true)
    (hdue : s.tCycle (s.cyc.cycle + 1) ≤ s.now) (hlog : s.twin.trimLog = none) (hat : s.cyc.trimAt ≤ s.nextCycle) :
    ∃ t, exec .cycleStart s = .next t ∧ t.cyc.trim = s.cyc.trimNext.getD s.cyc.trim := by
  have hwait : ((s.wrapCycle.gather.swapOut s.nextCycle).twin.trimLog = none)
      ∧ (s.wrapCycle.gather.swapOut s.nextCycle).cyc.trimAt = s.cyc.trimAt
      ∧ (s.wrapCycle.gather.swapOut s.nextCycle).cyc.trimNext.getD (s.wrapCycle.gather.swapOut s.nextCycle).cyc.trim
        = s.cyc.trimNext.getD s.cyc.trim := by
    refine ⟨(State.swapOut_trimLog ..).trans ?_, ?_, ?_⟩
    · simpa using hlog
    all_goals
      simp only [State.swapOut_frame, State.gather_frame, State.wrapCycle]
      split <;> rfl
  obtain ⟨hlog', hat', htrim⟩ := hwait
  have htrims := State.enterCycle_trim (k := s.nextCycle) hlog' (hat'.trans_le hat)
  rw [exec_cycleStart]
  unfold execCycleStart
  simp only [hsil, hend, hrun, Int.not_lt.mpr hdue, Option.isSome_none, Bool.or_self, Bool.true_or, Bool.not_true, decide_false, Bool.false_eq_true,
    if_false, if_true]
  refine ⟨_, rfl, ?_⟩
  rw [← htrim, ← htrims]
  simp [State.takeBoundary_cyc]

/-- Settles O42: the procedure of R272 case by case, on what the tick found, and the landing of its level at a cycle start. -/
theorem heatTickTrims : Obligations.HeatTickTrims := by
  intro s temps act good allowed least level fault too calm ends
  refine ⟨exec_heatTick_waits, ?tick, exec_cycleStart_trim⟩
  intro hdue hlen
  obtain ⟨t, ht, hnext, htemps, hfault, hmax, htrim, hlands⟩ := exec_heatTick_due (act := act) hdue hlen
  have hends {l r : Nat} (h : s.trimAfter temps t.arb.tMax t.arb.pEst = (max l least, r)) : ends t l r :=
    Prod.mk.inj (htrim.trans h)
  have hhot : s.overHeated temps t.arb.tMax t.arb.pEst = true ↔ too t := by
    simp [State.overHeated, too, good, goodSensors]
  have hcalm : s.cooledDown temps t.arb.tMax t.arb.pEst = true ↔ calm t := by
    simp [State.cooledDown, calm, good, goodSensors]
  have hcold (h : ¬ too t) : s.overHeated temps t.arb.tMax t.arb.pEst = false := Bool.eq_false_iff.mpr (mt hhot.mp h)
  have hwarm (h : ¬ calm t) : s.cooledDown temps t.arb.tMax t.arb.pEst = false := Bool.eq_false_iff.mpr (mt hcalm.mp h)
  refine ⟨t, ht, hnext, htemps, hfault, ?_, ?_, ?_, ?_, ?_, ?_, ?_, hlands⟩
  · exact hmax ▸ le_hottest temps s.arb.tMax _
  · exact hmax ▸ hottest_attained temps s.arb.tMax _
  · exact fun hf => hends ((State.trimAfter_of (decide_eq_true hf) rfl rfl).trans trimLevel_fault)
  · exact fun hf hh => hends ((State.trimAfter_of (decide_eq_false hf) (hhot.mpr hh) rfl).trans trimLevel_hot)
  · exact fun hf hh hc hr => hends ((State.trimAfter_of (decide_eq_false hf) (hcold hh) (hcalm.mpr hc)).trans (trimLevel_relaxed hr))
  · exact fun hf hh hc hr => hends ((State.trimAfter_of (decide_eq_false hf) (hcold hh) (hcalm.mpr hc)).trans (trimLevel_relaxing hr))
  · exact fun hf hh hc => hends ((State.trimAfter_of (decide_eq_false hf) (hcold hh) (hwarm hc)).trans trimLevel_between)

/-! D_max (R282). -/

section Dmax

variable {s : State} {a : AxisIx} {q : Request}

theorem exec_dmax_none (h : (s.axis a.val).req = none) : exec (.dmax a) s = .next s := by
  simp only [exec_dmax, execDmax, h]

theorem exec_dmax_early (h : (s.axis a.val).req = some q) (hd : ¬ (s.parN 0x0C000008 0 ≤ q.defer ∧ q.dmaxDone = false)) :
    exec (.dmax a) s = .next s := by
  have hno : (decide (s.parN 0x0C000008 0 ≤ q.defer) && !q.dmaxDone) = false :=
    Bool.eq_false_iff.mpr (by simpa using hd)
  simp only [exec_dmax, execDmax, h, hno]
  rfl

/-- The request of axis a is marked as told of. -/
def State.markDmax (s : State) (a : Nat) (q : Request) : State :=
  s.modAxis a (fun x => { x with req := some { q with dmaxDone := true }, dmaxHit := true })

/-- The event is told once, and marks the group of an axis within the budget. -/
theorem exec_dmax_told (h : (s.axis a.val).req = some q) (hd : s.parN 0x0C000008 0 ≤ q.defer ∧ q.dmaxDone = false) : exec (.dmax a) s
    = .next ((if q.group < 16 then (s.markDmax a.val q).modPgroup q.group (fun w => { w with dmax := true }) else s.markDmax a.val q).raise
      0x0C03 1 a.val (be 4 q.defer)) := by
  have hyes : (decide (s.parN 0x0C000008 0 ≤ q.defer) && !q.dmaxDone) = true := by simpa using hd
  simp only [exec_dmax, execDmax, h, hyes]
  rfl

end Dmax

/-! ARB_QUEUE_READ and ARB_BUDGET_SET (R287, R289, Table ARB-4). -/

section ArbiterHost

variable {s : State} {c : CmdCtx} {group which : BitVec 8} {start : BitVec 16} {p e r : BitVec 32}

/-- The part of a queue that a packet carries, as the bytes of its entries. -/
def queueBytes (queue part : List (Nat × Nat × Nat)) : List Byte :=
  be 2 queue.length ++ be 2 part.length ++ part.flatMap (fun (x : Nat × Nat × Nat) => be 2 x.1 ++ be 1 x.2.1 ++ [0] ++ be 4 x.2.2)

theorem exec_arbQueueRead_badValue (hreads : Reads s c 0x0C01 1) (hg : 16 ≤ group.toNat) :
    Replies (.arbQueueRead c group start) s c 0x0C01 0x0105 [] (s.takeUp c) :=
  (exec_host_takes (a := .refuse 0x0105 []) (exec_host_of_hostAt (exec_arbQueueRead c group start s) hreads rfl) hreads rfl (if_pos hg) :)

theorem exec_arbQueueRead_done (hreads : Reads s c 0x0C01 1) (hg : group.toNat < 16) :
    Replies (.arbQueueRead c group start) s c 0x0C01 0
      (queueBytes (sget (fun _ => []) (s.takeUp c).arb.queues group.toNat)
        (((sget (fun _ => []) (s.takeUp c).arb.queues group.toNat).drop start.toNat).take ((s.takeUp c).perPacket c 27 179))) (s.takeUp c) :=
  (exec_host_takes (a := .ok (s.takeUp c) 0 _) (exec_host_of_hostAt (exec_arbQueueRead c group start s) hreads rfl) hreads rfl
    (if_neg (Nat.not_le.mpr hg)) :)

/-- The ranges of Table ARB-4 that a budget is checked against. -/
theorem parAdmits_pgMax (v : Nat) : parAdmits 0x0C100001 v = true ↔ 1 ≤ v ∧ v ≤ 1000000 := by
  have h : parAdmits 0x0C100001 v = (decide ((1 : Int) ≤ v) && decide ((v : Int) ≤ 1000000) && true) := rfl
  rw [h, Bool.and_true, Bool.and_eq_true, decide_eq_true_iff, decide_eq_true_iff]
  omega

theorem parAdmits_pgEmax (v : Nat) : parAdmits 0x0C100002 v = true ↔ 1 ≤ v ∧ v ≤ 10000000 := by
  have h : parAdmits 0x0C100002 v = (decide ((1 : Int) ≤ v) && decide ((v : Int) ≤ 10000000) && true) := rfl
  rw [h, Bool.and_true, Bool.and_eq_true, decide_eq_true_iff, decide_eq_true_iff]
  omega

theorem parAdmits_pgRefill (v : Nat) : parAdmits 0x0C100003 v = true ↔ v ≤ 1000000 := by
  have h : parAdmits 0x0C100003 v = (decide ((0 : Int) ≤ v) && decide ((v : Int) ≤ 1000000) && true) := rfl
  rw [h, Bool.and_true, Bool.and_eq_true, decide_eq_true_iff, decide_eq_true_iff]
  omega

theorem parAdmits_pMax (v : Nat) : parAdmits 0x0C000001 v = true ↔ 400 ≤ v ∧ v ≤ 1200 := by
  have h : parAdmits 0x0C000001 v = (decide ((400 : Int) ≤ v) && decide ((v : Int) ≤ 1200) && true) := rfl
  rw [h, Bool.and_true, Bool.and_eq_true, decide_eq_true_iff, decide_eq_true_iff]
  omega

/-- The budget that waits for the next seal. -/
def State.queueBudget (s : State) (c : CmdCtx) (which : Nat) (vs : List (BitVec 32)) : State :=
  { s with arb := { s.arb with budget := s.arb.budget ++ [⟨c, which, vs.map (·.toNat)⟩] } }

/-- What ARB_BUDGET_SET answers of values of the right number, by whether they are in range. -/
def budgetAnswer (s : State) (c : CmdCtx) (which : BitVec 8) (vs : List (BitVec 32)) (ok : Bool) : Ans :=
  if !ok then .refuse stBadValue [] else .quiet (s.queueBudget c which.toNat vs)

theorem exec_arbBudgetSet_group (hacts : Acts s c 0x0C02 3) (hw : which.toNat < 16) :
    exec (.arbBudgetSet c which [p, e, r]) s = .next ((budgetAnswer (s.takeUp c) c which [p, e, r]
      (decide (which.toNat < 16) && parAdmits 0x0C100001 p.toNat && parAdmits 0x0C100002 e.toNat && parAdmits 0x0C100003 r.toNat)).result
        (s.takeUp c) c 0x0C02) := by
  have hne : which ≠ 0xFF := by
    rintro rfl
    exact absurd hw (by decide)
  exact (exec_host_takes (exec_arbBudgetSet c which [p, e, r] s) hacts (by simpa using hne) rfl :)

theorem exec_arbBudgetSet_limit (hacts : Acts s c 0x0C02 3) :
    exec (.arbBudgetSet c 0xFF [p]) s = .next ((budgetAnswer (s.takeUp c) c 0xFF [p] (decide ((0xFF : BitVec 8) = 0xFF) && parAdmits 0x0C000001 p.toNat)).result
        (s.takeUp c) c 0x0C02) :=
  (exec_host_takes (exec_arbBudgetSet c 0xFF [p] s) hacts rfl rfl :)

end ArbiterHost

/-- Settles O43: each command by its checks, a budget by the ranges of its parameters. -/
theorem arbiterCommands : Obligations.ArbiterCommands := by
  intro s c a q group which start p e r t d hit queue part rd inRange budget
  refine ⟨exec_dmax_none, exec_dmax_early, ?outside, ?inside, fun hg hreads => exec_arbQueueRead_badValue hreads hg,
    fun hg hreads => exec_arbQueueRead_done hreads hg, ?groupSet, ?groupRefused, ?limitSet, ?limitRefused⟩
  case outside => exact fun h hd hg => (exec_dmax_told h hd).trans (by rw [if_neg (Nat.not_lt.mpr hg)]; rfl)
  case inside => exact fun h hd hg => (exec_dmax_told h hd).trans (by rw [if_pos hg]; rfl)
  case groupSet =>
    rintro hacts hw ⟨hp, hp', he, he', hr⟩
    rw [Leaves, exec_arbBudgetSet_group hacts hw, decide_eq_true hw, (parAdmits_pgMax _).mpr ⟨hp, hp'⟩, (parAdmits_pgEmax _).mpr ⟨he, he'⟩,
      (parAdmits_pgRefill _).mpr hr]
    rfl
  case groupRefused =>
    intro hacts hw hno
    have hbad : (decide (which.toNat < 16) && parAdmits 0x0C100001 p.toNat && parAdmits 0x0C100002 e.toNat && parAdmits 0x0C100003 r.toNat)
        = false := by
      rw [Bool.eq_false_iff]
      simp only [ne_eq, Bool.and_eq_true, parAdmits_pgMax, parAdmits_pgEmax, parAdmits_pgRefill]
      exact fun ⟨⟨⟨_, hp, hp'⟩, he, he'⟩, hr⟩ => hno ⟨hp, hp', he, he', hr⟩
    rw [Replies, exec_arbBudgetSet_group hacts hw, hbad]
    rfl
  case limitSet =>
    rintro hacts rfl hp hp'
    rw [Leaves, exec_arbBudgetSet_limit hacts, (parAdmits_pMax _).mpr ⟨hp, hp'⟩]
    rfl
  case limitRefused =>
    rintro hacts rfl hno
    have hbad : parAdmits 0x0C000001 p.toNat = false := by
      rw [Bool.eq_false_iff, ne_eq, parAdmits_pMax]
      omega
    rw [Replies, exec_arbBudgetSet_limit hacts, hbad]
    rfl

end Sys2Proof.Machine
end

section
/-! The envelope of a twin message, and what no message but its envelope changes of the link (R356, R470). -/

namespace Sys2Proof.Machine

open Sys2Proof.Claims

/-! The two entries of the link: the tick of the last message, and the count of errors (R356). -/

def State.link (s : State) : Nat × Nat := (s.twin.lastMsg, s.twin.linkErrs)

theorem State.link_congr {s u : State} (h : u.twin = s.twin) : u.link = s.link := by
  simp only [State.link, h]

theorem State.link_of {s u v : State} (hv : v.link = s.link) (hmsg : u.twin.lastMsg = v.twin.lastMsg)
    (herr : u.twin.linkErrs = v.twin.linkErrs) : u.link = s.link := by
  rw [← hv]
  simp only [State.link, hmsg, herr]

theorem State.link_ite {s u v : State} (p : Prop) [Decidable p] (hu : u.link = s.link) (hv : v.link = s.link) :
    (if p then u else v).link = s.link := by
  split
  · exact hu
  · exact hv

theorem State.foldl_link {α : Type} (f : State → α → State) (hf : ∀ s x, (f s x).link = s.link) (xs : List α) (s : State) :
    (xs.foldl f s).link = s.link := by
  induction xs generalizing s with
  | nil => rfl
  | cons x xs ih => exact (ih (f s x)).trans (hf s x)

@[simp] theorem State.modTwin_link (s : State) (f : Twin → Twin) (hmsg : ∀ t, (f t).lastMsg = t.lastMsg)
    (herr : ∀ t, (f t).linkErrs = t.linkErrs) : (s.modTwin f).link = s.link := by
  simp only [State.link, State.modTwin, hmsg, herr]

@[simp] theorem State.put_link (s : State) (o : Output) : (s.put o).link = s.link := rfl

@[simp] theorem State.raise_link (s : State) (code sev inst : Nat) (data : List Byte) : (s.raise code sev inst data).link = s.link :=
  State.link_congr (by simp)

@[simp] theorem State.becomeStandby_link (s : State) : s.becomeStandby.link = s.link := by
  simp [State.link, State.becomeStandby]

/-! Silence and Endgame mode (R317, R367). -/

@[simp] theorem State.goSilent_link (s : State) : s.goSilent.link = s.link := by
  simp [State.link, State.goSilent]

@[simp] theorem State.enterEndgame_link (s : State) : s.enterEndgame.link = s.link := by
  unfold State.enterEndgame
  refine State.link_ite _ rfl ?_
  simp [State.link]

@[simp] theorem State.fatal_link (s : State) (reason : Nat) : (s.fatal reason).link = s.link := by
  unfold State.fatal
  extract_lets s1
  have hs1 : s1.link = s.link := (State.goSilent_link _).trans (s.put_link _)
  clear_value s1
  exact State.link_ite _ rfl (State.link_ite _ s.goSilent_link (State.link_ite _ (State.link_of hs1 rfl rfl) s.enterEndgame_link))

@[simp] theorem State.declareSilent_link (s : State) (reason : Nat) : (s.declareSilent reason).link = s.link := by
  simp [State.declareSilent]

theorem State.engineFail_link (s : State) (e cause : Nat) : (s.engineFail e cause).link = s.link := by
  unfold State.engineFail
  refine State.link_ite _ rfl ?_
  extract_lets s1 s2 s3
  have hs1 : s1.twin = s.twin := by
    simp only [s1]
    split <;> simp
  have hs3 : s3.link = s.link := State.link_congr (by simp [s3, s2, hs1])
  exact State.link_ite _ ((State.fatal_link _ _).trans hs3) hs3

/-! Split brain and joins (R362, R371). -/

@[simp] theorem State.splitWith_link (s : State) (peer : Nat) : (s.splitWith peer).link = s.link := by
  have hmark : (s.markSplit peer).link = s.link := State.link_ite _ rfl (by simp)
  unfold State.splitWith
  extract_lets s1 s2
  have hs1 : s1.link = s.link := hmark
  have hs2 : s2.link = s.link := by simpa [s2] using hs1
  clear_value s2 s1
  exact State.link_ite _ (State.link_of hs2 rfl rfl) hs1

@[simp] theorem State.startJoin_link (s : State) (peer : List (BitVec 64)) : (s.startJoin peer).link = s.link :=
  State.link_ite _ (by simp) (by simp)

@[simp] theorem State.rejoin_link (s : State) : s.rejoin.link = s.link := by
  refine (State.becomeStandby_link _).trans (State.link_congr ?_)
  refine State.foldl_twin _ (fun t p => ?_) _ _
  split <;> simp

theorem State.takeHealth_link (s : State) (m : HealthMsg) : (s.takeHealth m).link = s.link := by
  unfold State.takeHealth
  extract_lets whole s1 s2 opening twin s3 opening' twin'
  have hs1 : s1.link = s.link := by simp [s1]
  have hs2 : s2.link = s.link := (State.rejoin_link s1).trans hs1
  have hs3 : s3.link = s.link := State.link_ite _ ((State.becomeStandby_link s1).trans hs1) hs1
  clear_value s3 s2 s1
  refine State.link_ite _ (State.link_ite _ ((State.splitWith_link s1 _).trans hs1) (State.link_ite _ (State.link_of hs2 rfl rfl)
    (State.link_ite _ hs1 (State.link_ite _ (State.link_of hs3 rfl rfl) hs3)))) (State.link_ite _ ((State.startJoin_link s1 _).trans hs1) hs1)

/-! Copies, digests and mismatch tests (R358, R364). -/

@[simp] theorem State.copyOwner_link (s : State) (o : Owner) : (s.copyOwner o).link = s.link :=
  State.link_ite _ (by simp) (State.link_ite _ (by simp) (by simp))

@[simp] theorem State.compareCount_link (s : State) (a n : Nat) (pub : Int) : (s.compareCount a n pub).link = s.link :=
  State.link_ite _ (by simp) (by simp)

@[simp] theorem State.takeVerdict_link (s : State) (k : Nat) (ms : List Nat) : (s.takeVerdict k ms).link = s.link := by
  unfold State.takeVerdict
  refine State.link_ite _ rfl ?_
  exact State.foldl_link _ (fun t i => t.raise_link ..) ms s

@[simp] theorem State.compareDigests_link (s : State) (k : Nat) (own peer : List (BitVec 32)) : (s.compareDigests k own peer).link = s.link := by
  simp [State.compareDigests]

theorem State.settleTest_link (s : State) (m : MisTest) (own peer : Bool) : (s.settleTest m own peer).link = s.link := by
  unfold State.settleTest
  extract_lets s1 s2
  have hs1 : s1.link = s.link := State.link_ite _ rfl (s.engineFail_link ..)
  have hs2 : s2.link = s.link := (State.declareSilent_link s1 2).trans hs1
  have hcopy : (s1.copyOwner m.owner).link = s.link := (State.copyOwner_link s1 _).trans hs1
  clear_value s2 s1
  exact State.link_ite _ hs1 (State.link_ite _ (State.link_ite _ (State.link_of hs2 rfl rfl) hcopy) (State.link_ite _ hs1 hcopy))

@[simp] theorem State.settleTests_link (s : State) : s.settleTests.link = s.link := by
  unfold State.settleTests
  rw [State.foldl_link _ (fun t m => t.settleTest_link m _ _)]
  simp

/-! The tasks of a standby (R358). -/

@[simp] theorem State.makeReady_link (s : State) (o : Owner) (k sample : Nat) (isNew : Bool) (win : List Word48) :
    (s.makeReady o k sample isNew win).link = s.link := State.link_congr (by simp)

theorem State.releaseRemote_link (s : State) (a k : Nat) (isNew : Bool) : (s.releaseRemote a k isNew).link = s.link := by
  unfold State.releaseRemote
  dsimp only
  split
  · simp
  · split
    · rw [State.makeReady_link]
      exact State.link_congr (by simp)
    · rw [State.makeReady_link]
      exact State.link_ite _ ((State.copyOwner_link ..).trans (State.modTwin_link _ _ (fun _ => rfl) (fun _ => rfl))) rfl

theorem State.releaseLocal_link (s : State) (a k : Nat) (isNew : Bool) (fb : List Word48) : (s.releaseLocal a k isNew fb).link = s.link := by
  unfold State.releaseLocal
  extract_lets n raw s1 s2 s3
  have hs1 : s1.link = s.link := State.link_congr (by simp [s1])
  have hs2 : s2.link = s.link := State.link_ite _ ((State.compareCount_link ..).trans hs1) hs1
  rw [State.makeReady_link]
  exact State.link_ite _ ((State.link_congr (by simp)).trans hs2) hs2

theorem State.releaseLineTwin_link (s : State) (k : Nat) (isNew : Bool) (fb : List Word48) : (s.releaseLineTwin k isNew fb).link = s.link := by
  unfold State.releaseLineTwin
  extract_lets s1 line s2 n s3 s4
  have hs1 : s1.link = s.link := State.link_congr (by simp [s1])
  have hs2 : s2.link = s.link := hs1
  have hs3 : s3.link = s.link := State.link_ite _ ((State.compareCount_link ..).trans hs2) hs2
  rw [State.makeReady_link]
  exact (State.link_congr (by simp [s4])).trans hs3

/-! The envelope (R356, R470, R471). -/

/-- The chip takes the message: a twin's control die that does not boot, a right CRC, and the epoch of the link. -/
def Hears (s : State) (env : TwinEnv) : Prop :=
  s.boot.twinPresent = true ∧ s.boot.booting = false ∧ env.crcOk = true ∧ env.epoch = s.twin.epoch ∧ env.epoch ≠ 0

/-- The state in which a message that the chip takes has been noted, before its effect. -/
def State.stamped (s : State) (env : TwinEnv) : State :=
  { s with twin := { s.twin with
    zero := false, lastMsg := s.coreTicks, lane0 := s.twin.lane0 || env.lane == 0, lane1 := s.twin.lane1 || env.lane == 1 } }

section Envelope

variable {s : State} {env : TwinEnv} {g : State → State}

theorem State.twinTake_deaf (h : ¬ (s.boot.twinPresent = true ∧ s.boot.booting = false)) : s.twinTake env g = .next s := by
  have hdeaf : (!s.boot.twinPresent || s.boot.booting) = true := by
    cases hp : s.boot.twinPresent <;> simp_all
  rw [State.twinTake, if_pos hdeaf]

theorem State.twinTake_crc (h : s.boot.twinPresent = true ∧ s.boot.booting = false) (hcrc : env.crcOk = false) :
    s.twinTake env g = .next { s with twin := { s.twin with linkErrs := inc32 s.twin.linkErrs } } := by
  simp [State.twinTake, h, hcrc, State.modTwin]

/-- A message of another epoch is noted and counted, and has no effect. -/
theorem State.twinTake_wrong (h : s.boot.twinPresent = true ∧ s.boot.booting = false) (hcrc : env.crcOk = true) (he : env.epoch ≠ 0)
    (hown : s.twin.epoch ≠ 0) (hne : env.epoch ≠ s.twin.epoch) : s.twinTake env g = .next { s with twin := { s.twin with
      lastMsg := s.coreTicks, lane0 := s.twin.lane0 || env.lane == 0, lane1 := s.twin.lane1 || env.lane == 1
      linkErrs := inc32 s.twin.linkErrs } } := by
  simp only [State.twinTake, h, hcrc, epochSee_other he hown hne, State.modTwin]
  simp only [ne_eq, he]
  rfl

theorem State.twinTake_heard (h : Hears s env) : s.twinTake env g = .next (g (s.stamped env)) := by
  obtain ⟨hp, hb, hcrc, he, hne⟩ := h
  rw [State.twinTake, ← he, epochSee_own hne]
  simp [hp, hb, hcrc, State.stamped, State.modTwin, ← he]

end Envelope

/-! The copied memories, the join and the trigger (R362, R386). -/

/-- A unit on the twin-link source fires (R386). -/
def State.fireUnit (s : State) (u : Nat) : State :=
  if s.unitSrc u = 0x58 ∧ s.unitCond u = 2 then s.setTunit u { s.tunit u with fired := true, fireStamp := some s.now } else s

theorem State.fireUnit_rest (s : State) (u : Nat) : s.fireUnit u = { s with scs := (s.fireUnit u).scs } := by
  unfold State.fireUnit
  split <;> rfl

theorem State.fireUnit_link (s : State) (u : Nat) : (s.fireUnit u).link = s.link := by
  unfold State.fireUnit
  split <;> rfl

theorem State.fireUnit_tunit (s : State) (u i : Nat) : (s.fireUnit u).tunit i
    = if i = u ∧ s.unitSrc i = 0x58 ∧ s.unitCond i = 2 then { s.tunit i with fired := true, fireStamp := some s.now } else s.tunit i := by
  unfold State.fireUnit
  by_cases hi : i = u
  · subst hi
    split <;> simp [*]
  · split <;> simp [hi]

theorem State.fireUnits_rest (us : List Nat) (s : State) : us.foldl State.fireUnit s = { s with scs := (us.foldl State.fireUnit s).scs } := by
  induction us generalizing s with
  | nil => rfl
  | cons u us ih =>
    have hu := s.fireUnit_rest u
    rw [List.foldl_cons]
    generalize s.fireUnit u = t at hu ⊢
    rw [ih t, hu]

theorem State.fireUnits_tunit (us : List Nat) (s : State) (i : Nat) : (us.foldl State.fireUnit s).tunit i
    = if i ∈ us ∧ s.unitSrc i = 0x58 ∧ s.unitCond i = 2 then { s.tunit i with fired := true, fireStamp := some s.now } else s.tunit i := by
  induction us generalizing s with
  | nil => simp
  | cons u us ih =>
    have hsrc : (s.fireUnit u).unitSrc i = s.unitSrc i := by rw [s.fireUnit_rest u]; rfl
    have hcond : (s.fireUnit u).unitCond i = s.unitCond i := by rw [s.fireUnit_rest u]; rfl
    have hnow : (s.fireUnit u).now = s.now := by rw [s.fireUnit_rest u]; rfl
    rw [List.foldl_cons, ih, hsrc, hcond, hnow, State.fireUnit_tunit]
    by_cases hfire : s.unitSrc i = 0x58 ∧ s.unitCond i = 2
    · rcases eq_or_ne i u with rfl | hu
      · simp [hfire]
      · simp [hfire, hu]
    · simp [hfire]

@[simp] theorem State.applyNet_link (s : State) : s.applyNet.link = s.link := State.link_congr (by simp)

@[simp] theorem State.modSeg_link (s : State) (n : Nat) (f : Segment → Segment) : (s.modSeg n f).link = s.link := rfl

@[simp] theorem State.modLaw_link (s : State) (a : Nat) (f : LawSt → LawSt) : (s.modLaw a f).link = s.link := rfl

/-! The messages (R356). -/

/-- The instruction is a message that passes the envelope, and its effect leaves the two entries of the link. -/
def LinkMessage (env : TwinEnv) (i : Instr) : Prop := ∃ g : State → State, (∀ s, exec i s = s.twinTake env g) ∧ ∀ s, (g s).link = s.link

section Messages

variable (env : TwinEnv)

theorem exec_health (m : HealthMsg) (s : State) : exec (.health env m) s = execHealth env m s := rfl

theorem exec_log (r : LogRec) (s : State) : exec (.log env r) s = execLog env r s := rfl

theorem exec_logAck (pos : Nat) (s : State) : exec (.logAck env pos) s = execLogAck env pos s := rfl

theorem exec_release (w : ReleaseMsg) (s : State) : exec (.release env w) s = execRelease env w s := rfl

theorem exec_digest (pos : Nat) (ds : List (BitVec 32)) (s : State) : exec (.digest env pos ds) s = execDigest env pos ds s := rfl

theorem exec_verdict (pos : Nat) (ms : List Nat) (s : State) : exec (.verdict env pos ms) s = execVerdict env pos ms s := rfl

theorem exec_test (e : EngIx) (pass : Bool) (s : State) : exec (.test env e pass) s = execTest env e pass s := rfl

theorem exec_declare (reason : BitVec 8) (last : Nat) (h : Option Nat) (s : State) :
    exec (.declare env reason last h) s = execDeclare env reason last h s := rfl

theorem exec_resync (addr : Nat) (words : List Word48) (s : State) : exec (.resync env addr words) s = execResync env addr words s := rfl

theorem exec_joinBoundary (b : JoinMsg) (s : State) : exec (.joinBoundary env b) s = execJoinBoundary env b s := rfl

theorem exec_trigger (stamp : T80) (mask : BitVec 8) (s : State) : exec (.trigger env stamp mask) s
    = s.twinTake env (fun t => (List.range 8).foldl State.fireUnit t) := rfl

theorem linkMessage_health (m : HealthMsg) : LinkMessage env (.health env m) := ⟨_, fun s => (exec_health env m s).trans rfl, fun s => s.takeHealth_link m⟩

theorem linkMessage_log (r : LogRec) : LinkMessage env (.log env r) := by
  refine ⟨_, fun s => (exec_log env r s).trans rfl, fun s => ?_⟩
  refine State.link_ite _ ?_ rfl
  dsimp only
  split <;> rfl

theorem linkMessage_logAck (pos : Nat) : LinkMessage env (.logAck env pos) := by
  refine ⟨_, fun s => (exec_logAck env pos s).trans rfl, fun s => ?_⟩
  exact State.modTwin_link _ _ (fun _ => rfl) (fun _ => rfl)

theorem linkMessage_release (w : ReleaseMsg) : LinkMessage env (.release env w) := by
  refine ⟨_, fun s => (exec_release env w s).trans rfl, fun s => ?_⟩
  refine State.link_ite _ ?_ rfl
  cases w.owner with
  | line => exact s.releaseLineTwin_link ..
  | axis a => exact State.link_ite _ (s.releaseLocal_link ..) (s.releaseRemote_link ..)

theorem linkMessage_digest (pos : Nat) (ds : List (BitVec 32)) : LinkMessage env (.digest env pos ds) := by
  refine ⟨_, fun s => (exec_digest env pos ds s).trans rfl, fun s => ?_⟩
  refine State.link_ite _ ?_ rfl
  split
  · rfl
  · exact (State.compareDigests_link ..).trans (State.modTwin_link _ _ (fun _ => rfl) (fun _ => rfl))

theorem linkMessage_verdict (pos : Nat) (ms : List Nat) : LinkMessage env (.verdict env pos ms) := by
  refine ⟨_, fun s => (exec_verdict env pos ms s).trans rfl, fun s => ?_⟩
  exact State.link_ite _ (s.takeVerdict_link ..) rfl

theorem linkMessage_test (e : EngIx) (pass : Bool) : LinkMessage env (.test env e pass) := by
  refine ⟨_, fun s => (exec_test env e pass s).trans rfl, fun s => ?_⟩
  split
  · rfl
  · exact (State.settleTests_link _).trans (State.modTwin_link _ _ (fun _ => rfl) (fun _ => rfl))

theorem linkMessage_declare (reason : BitVec 8) (last : Nat) (h : Option Nat) : LinkMessage env (.declare env reason last h) := by
  refine ⟨_, fun s => (exec_declare env reason last h s).trans rfl, fun s => ?_⟩
  exact State.link_ite _ (State.modTwin_link _ _ (fun _ => rfl) (fun _ => rfl)) rfl

theorem linkMessage_resync (addr : Nat) (words : List Word48) : LinkMessage env (.resync env addr words) := by
  refine ⟨_, fun s => (exec_resync env addr words s).trans rfl, fun s => ?_⟩
  refine State.link_ite _ ?_ rfl
  refine (State.modTwin_link _ _ (fun _ => rfl) (fun _ => rfl)).trans ?_
  exact State.link_ite _ rfl (State.link_ite _ rfl (State.link_ite _ rfl (State.link_ite _ rfl rfl)))

theorem linkMessage_joinBoundary (b : JoinMsg) : LinkMessage env (.joinBoundary env b) := by
  refine ⟨_, fun s => (exec_joinBoundary env b s).trans rfl, fun s => ?_⟩
  refine State.link_ite _ ?_ rfl
  rw [State.foldl_link _ (fun t x => t.modLaw_link _ _), State.foldl_link _ (fun t n => State.link_ite _ (t.modSeg_link _ _) rfl),
    State.applyNet_link]
  rfl

theorem linkMessage_trigger (stamp : T80) (mask : BitVec 8) : LinkMessage env (.trigger env stamp mask) := by
  refine ⟨fun s => (List.range 8).foldl State.fireUnit s, exec_trigger env stamp mask, fun s => ?_⟩
  exact State.foldl_link _ State.fireUnit_link (List.range 8) s

end Messages

/-- Every message of the link is one (R356). -/
theorem linkMessage_of_mem {env : TwinEnv} {i : Instr} {m : HealthMsg} {r : LogRec} {pos : Nat} {w : ReleaseMsg} {ds : List (BitVec 32)}
    {ms : List Nat} {e : EngIx} {pass : Bool} {reason : BitVec 8} {h : Option Nat} {words : List Word48} {b : JoinMsg} {stamp : T80} {mask : BitVec 8}
    (hi : i ∈ [Instr.health env m, .log env r, .logAck env pos, .release env w, .digest env pos ds, .verdict env pos ms, .test env e pass,
      .declare env reason pos h, .resync env pos words, .joinBoundary env b, .trigger env stamp mask]) : LinkMessage env i := by
  simp only [List.mem_cons, List.not_mem_nil, or_false] at hi
  rcases hi with rfl | rfl | rfl | rfl | rfl | rfl | rfl | rfl | rfl | rfl | rfl
  · exact linkMessage_health env m
  · exact linkMessage_log env r
  · exact linkMessage_logAck env pos
  · exact linkMessage_release env w
  · exact linkMessage_digest env pos ds
  · exact linkMessage_verdict env pos ms
  · exact linkMessage_test env e pass
  · exact linkMessage_declare env reason pos h
  · exact linkMessage_resync env pos words
  · exact linkMessage_joinBoundary env b
  · exact linkMessage_trigger env stamp mask

section LinkMessage

variable {s : State} {env : TwinEnv} {i : Instr} (hi : LinkMessage env i)
include hi

theorem LinkMessage.deaf (h : ¬ (s.boot.twinPresent = true ∧ s.boot.booting = false)) : Leaves i s s := by
  obtain ⟨g, hexec, -⟩ := hi
  exact (hexec s).trans (State.twinTake_deaf h)

theorem LinkMessage.crc (h : s.boot.twinPresent = true ∧ s.boot.booting = false) (hcrc : env.crcOk = false) :
    Leaves i s { s with twin := { s.twin with linkErrs := inc32 s.twin.linkErrs } } := by
  obtain ⟨g, hexec, -⟩ := hi
  exact (hexec s).trans (State.twinTake_crc h hcrc)

theorem LinkMessage.wrong (h : s.boot.twinPresent = true ∧ s.boot.booting = false) (hcrc : env.crcOk = true)
    (hwrong : env.epoch ≠ 0 ∧ s.twin.epoch ≠ 0 ∧ env.epoch ≠ s.twin.epoch) :
    ∃ t, exec i s = .next t ∧ t.twin.linkErrs = inc32 s.twin.linkErrs ∧ t = { s with twin := t.twin } ∧ t.twin.epoch = s.twin.epoch
      ∧ t.twin.onMove = s.twin.onMove ∧ t.twin.synced = s.twin.synced ∧ t.twin.swap = s.twin.swap := by
  obtain ⟨g, hexec, -⟩ := hi
  obtain ⟨he, hown, hne⟩ := hwrong
  exact ⟨_, (hexec s).trans (State.twinTake_wrong h hcrc he hown hne), rfl, rfl, rfl, rfl, rfl, rfl⟩

theorem LinkMessage.heard (h : Hears s env) : ∃ t, exec i s = .next t ∧ t.twin.lastMsg = s.coreTicks ∧ t.twin.linkErrs = s.twin.linkErrs := by
  obtain ⟨g, hexec, hlink⟩ := hi
  have hg : (g (s.stamped env)).link = (s.coreTicks, s.twin.linkErrs) := hlink (s.stamped env)
  exact ⟨_, (hexec s).trans (State.twinTake_heard h), congrArg Prod.fst hg, congrArg Prod.snd hg⟩

end LinkMessage

/-! The health messages and the lanes (R356, R469). -/

theorem exec_healthSend (s : State) : exec .healthSend s = execHealthSend s := rfl

theorem exec_twinLinkLost (s : State) : exec .twinLinkLost s = execTwinLinkLost s := rfl

theorem exec_twinLaneFail (lane : Fin 2) (s : State) : exec (.twinLaneFail lane) s = execTwinLaneFail lane s := rfl

section Lanes

variable {s : State}

theorem exec_healthSend_due (h : s.boot.twinPresent = true ∧ s.twin.txHealth + 2000 ≤ s.coreTicks) :
    exec .healthSend s = .next { s.put (.twin (.health s.healthMsg)) with twin := { s.twin with txHealth := s.coreTicks } } :=
  (exec_healthSend s).trans (whenB_of_true (by simpa using h) _ _)

theorem exec_healthSend_early (h : ¬ (s.boot.twinPresent = true ∧ s.twin.txHealth + 2000 ≤ s.coreTicks)) : exec .healthSend s = .next s :=
  (exec_healthSend s).trans (whenB_of_false (Bool.eq_false_iff.mpr (by simpa using h)) _ _)

theorem exec_twinLinkLost_due (h : s.boot.twinPresent = true ∧ (s.twin.lane0 = true ∨ s.twin.lane1 = true)
      ∧ s.twin.lastMsg + 10000 ≤ s.coreTicks) :
    ∃ t, exec .twinLinkLost s = .next t ∧ t.twin.lane0 = false ∧ t.twin.lane1 = false ∧ t.twin.peerHealthy = false ∧ t.twin.peerSynced = false
      ∧ t.twin.healthySince = none ∧ t = { s with twin := t.twin } :=
  ⟨_, (exec_twinLinkLost s).trans (whenB_of_true (by simpa [and_assoc] using h) _ _), rfl, rfl, rfl, rfl, rfl, rfl⟩

theorem exec_twinLinkLost_waits (h : ¬ (s.boot.twinPresent = true ∧ (s.twin.lane0 = true ∨ s.twin.lane1 = true)
      ∧ s.twin.lastMsg + 10000 ≤ s.coreTicks)) : exec .twinLinkLost s = .next s :=
  (exec_twinLinkLost s).trans (whenB_of_false (Bool.eq_false_iff.mpr (by simpa [and_assoc] using h)) _ _)

theorem exec_twinLaneFail_twin (h : s.boot.twinPresent = true) (lane : Fin 2) : exec (.twinLaneFail lane) s
    = .next (s.modTwin (fun t => if lane = 0 then { t with lane0 := false } else { t with lane1 := false })) :=
  (exec_twinLaneFail lane s).trans (whenB_of_true h _ _)

theorem exec_twinLaneFail_single (h : ¬ s.boot.twinPresent = true) (lane : Fin 2) : exec (.twinLaneFail lane) s = .next s :=
  (exec_twinLaneFail lane s).trans (whenB_of_false (Bool.eq_false_iff.mpr h) _ _)

end Lanes

end Sys2Proof.Machine
end

section
/-! What each twin message does on a chip that hears it (R276, R357 to R359, R361, R362, R364, R386). -/

namespace Sys2Proof.Machine

open Sys2Proof.Claims

theorem shadows_iff (s : State) : s.shadows = true ↔ s.twin.standby = true ∧ s.twin.joining = false := by
  simp [State.shadows]

section Heard

variable {s : State} {env : TwinEnv} (h : Hears s env)
include h

theorem exec_health_heard (m : HealthMsg) : exec (.health env m) s = .next ((s.stamped env).takeHealth m) :=
  (exec_health env m s).trans (State.twinTake_heard h)

/-! LOG and LOG_ACK (R276, R357). -/

/-- The state in which the standby has acknowledged a record (R357). -/
def State.acked (s : State) (env : TwinEnv) (pos : Nat) : State :=
  { (s.stamped env).put (.twin (.logAck pos)) with twin := { (s.stamped env).twin with logPos := pos } }

theorem exec_log_command (hsh : s.shadows = true) {r : LogRec} (hr : r.trim = none) : exec (.log env r) s
    = .next { s.acked env r.pos with twin := { (s.acked env r.pos).twin with landed := s.twin.landed ++ [r] } } := by
  rw [exec_log, execLog, State.twinTake_heard h, if_pos (show (s.stamped env).shadows = true from hsh)]
  simp only [hr]
  rfl

theorem exec_log_trim (hsh : s.shadows = true) {r : LogRec} {l : Nat} (hr : r.trim = some l) : exec (.log env r) s
    = .next { s.acked env r.pos with cyc := { s.cyc with trimNext := some l, trimAt := r.cycle } } := by
  rw [exec_log, execLog, State.twinTake_heard h, if_pos (show (s.stamped env).shadows = true from hsh)]
  simp only [hr]
  rfl

theorem exec_log_ignored (hsh : s.shadows = false) (r : LogRec) : exec (.log env r) s = .next (s.stamped env) := by
  rw [exec_log, execLog, State.twinTake_heard h, if_neg (show ¬ (s.stamped env).shadows = true from Bool.eq_false_iff.mp hsh)]

theorem exec_logAck_heard (pos : Nat) : exec (.logAck env pos) s = .next { s.stamped env with twin := { (s.stamped env).twin with
    logs := s.twin.logs.map (fun (l : LogEntry) => if l.pos = pos then { l with acked := true } else l)
    trimLog := if s.twin.trimLog = some pos then none else s.twin.trimLog } } :=
  (exec_logAck env pos s).trans (State.twinTake_heard h)

/-! RELEASE (R358). -/

section Release

variable {w : ReleaseMsg}

theorem exec_release_ignored (hno : ¬ (s.shadows = true ∧ s.cyc.running = true ∧ s.isReleased w.owner w.cycle = false)) :
    exec (.release env w) s = .next (s.stamped env) := by
  rw [exec_release, execRelease, State.twinTake_heard h, if_neg]
  simpa [and_assoc] using show ¬ ((s.stamped env).shadows = true ∧ (s.stamped env).cyc.running = true
    ∧ (s.stamped env).isReleased w.owner w.cycle = false) from hno

theorem exec_release_runs (hsh : s.shadows = true) (hrun : s.cyc.running = true) (hrel : s.isReleased w.owner w.cycle = false) :
    exec (.release env w) s = .next (match w.owner with
      | .line => (s.stamped env).releaseLineTwin w.cycle w.isNew w.fb
      | .axis a => if s.localAxis a.val then (s.stamped env).releaseLocal a.val w.cycle w.isNew w.fb
          else (s.stamped env).releaseRemote a.val w.cycle w.isNew) := by
  have hgo : ((s.stamped env).shadows && (s.stamped env).cyc.running && !(s.stamped env).isReleased w.owner w.cycle) = true := by
    rw [Bool.and_eq_true, Bool.and_eq_true, Bool.not_eq_true']
    exact ⟨⟨hsh, hrun⟩, hrel⟩
  rw [exec_release, execRelease, State.twinTake_heard h, if_pos hgo]
  cases w.owner <;> rfl

end Release

/-! DIGEST and VERDICT (R359, R364). -/

section Digest

variable {pos : Nat} {ds : List (BitVec 32)}

theorem exec_digest_kept (hsh : s.shadows = true) (hown : sget (fun _ => ([] : List (BitVec 32))) s.twin.digOwn pos = []) :
    exec (.digest env pos ds) s = .next { s.stamped env with twin := { (s.stamped env).twin with
      digPeer := (sput (fun _ => []) s.twin.digPeer pos ds).filter (fun (p : Nat × List (BitVec 32)) => decide (pos < p.1 + 4)) } } := by
  rw [exec_digest, execDigest, State.twinTake_heard h, if_pos (show (s.stamped env).shadows = true from hsh)]
  simp only [State.stamped, hown]
  rfl

theorem exec_digest_compared (hsh : s.shadows = true) (hown : sget (fun _ => ([] : List (BitVec 32))) s.twin.digOwn pos ≠ []) :
    exec (.digest env pos ds) s = .next (State.compareDigests { s.stamped env with twin := { (s.stamped env).twin with
      digOwn := s.twin.digOwn.filter (fun (p : Nat × List (BitVec 32)) => decide (pos < p.1)) } } pos
        (sget (fun _ => ([] : List (BitVec 32))) s.twin.digOwn pos) ds) := by
  rw [exec_digest, execDigest, State.twinTake_heard h, if_pos (show (s.stamped env).shadows = true from hsh)]
  split
  · next he => exact absurd he hown
  · rfl

theorem exec_digest_ignored (hsh : s.shadows = false) : exec (.digest env pos ds) s = .next (s.stamped env) := by
  rw [exec_digest, execDigest, State.twinTake_heard h, if_neg (show ¬ (s.stamped env).shadows = true from Bool.eq_false_iff.mp hsh)]

theorem exec_verdict_onMove (hon : s.twin.onMove = true) (pos : Nat) (ms : List Nat) :
    exec (.verdict env pos ms) s = .next ((s.stamped env).takeVerdict pos ms) := by
  rw [exec_verdict, execVerdict, State.twinTake_heard h, if_pos (show (s.stamped env).twin.onMove = true from hon)]

theorem exec_verdict_ignored (hon : s.twin.onMove = false) (pos : Nat) (ms : List Nat) :
    exec (.verdict env pos ms) s = .next (s.stamped env) := by
  rw [exec_verdict, execVerdict, State.twinTake_heard h, if_neg (show ¬ (s.stamped env).twin.onMove = true from Bool.eq_false_iff.mp hon)]

end Digest

/-! TEST (R364). -/

theorem exec_test_waited {x : MisTest} (hx : s.twin.misTests.find? (fun (m : MisTest) => m.peer.isNone) = some x) (e : EngIx) (pass : Bool) :
    exec (.test env e pass) s = .next (State.settleTests { s.stamped env with twin := { (s.stamped env).twin with
      misTests := s.twin.misTests.map (fun (y : MisTest) => if y.owner = x.owner then { y with peer := some pass } else y) } }) := by
  rw [exec_test, execTest, State.twinTake_heard h]
  simp only [State.stamped, hx]
  rfl

theorem exec_test_ignored (hx : s.twin.misTests.find? (fun (m : MisTest) => m.peer.isNone) = none) (e : EngIx) (pass : Bool) :
    exec (.test env e pass) s = .next (s.stamped env) := by
  rw [exec_test, execTest, State.twinTake_heard h]
  simp only [State.stamped, hx]

/-! RESYNC and JOIN (R362). -/

section Copies

variable {pos : Nat} {words : List Word48}

theorem exec_resync_context (hst : s.twin.standby = true) (hlo : 0x40000 ≤ pos) (hhi : pos + words.length ≤ 0x80000) :
    ∃ t, exec (.resync env pos words) s = .next t
      ∧ t.eng = { s.eng with context := sputs (fun _ => 0) s.eng.context (pos - 0x40000) words } := by
  rw [exec_resync, execResync, State.twinTake_heard h, if_pos (show (s.stamped env).twin.standby = true from hst)]
  refine ⟨_, rfl, ?_⟩
  dsimp only [State.modTwin]
  rw [if_pos ⟨hlo, hhi⟩]
  rfl

theorem exec_resync_pool (hst : s.twin.standby = true) (hlo : 0x80000 ≤ pos) (hhi : pos + words.length ≤ 0xC0000) (hne : words.length ≠ 0) :
    ∃ t, exec (.resync env pos words) s = .next t
      ∧ t.eng = { s.eng with pool := sputs (fun _ => 0) s.eng.pool (pos - 0x80000) words } := by
  rw [exec_resync, execResync, State.twinTake_heard h, if_pos (show (s.stamped env).twin.standby = true from hst)]
  refine ⟨_, rfl, ?_⟩
  dsimp only [State.modTwin]
  rw [if_neg (by omega), if_pos ⟨hlo, hhi⟩]
  rfl

theorem exec_resync_ignored (hst : s.twin.standby = false) : exec (.resync env pos words) s = .next (s.stamped env) := by
  rw [exec_resync, execResync, State.twinTake_heard h, if_neg (show ¬ (s.stamped env).twin.standby = true from Bool.eq_false_iff.mp hst)]

end Copies

/-- A joining standby takes the served time and the cycle of b, and its place in the log (R362 step 3, R405). -/
theorem exec_joinBoundary_joins (hst : s.twin.standby = true) (hjoin : s.twin.joining = true) (b : JoinMsg) :
    ∃ t, exec (.joinBoundary env b) s = .next t ∧ t.time.sec = b.sec ∧ t.time.ns = b.ns ∧ t.time.rate = b.rate ∧ t.cyc.cycle = b.cycle
      ∧ t.cyc.running = true ∧ t.cyc.tEpoch = b.tEpoch ∧ t.opening.phase = .standby ∧ t.twin.joining = false ∧ t.twin.cleanVerdicts = 0
      ∧ t.twin.logPos = b.logPos := by
  have hgo : ((s.stamped env).twin.standby && (s.stamped env).twin.joining) = true := (Bool.and_eq_true _ _).mpr ⟨hst, hjoin⟩
  rw [exec_joinBoundary, execJoinBoundary, State.twinTake_heard h, if_pos hgo]
  refine ⟨_, rfl, ?_⟩
  simp

theorem exec_joinBoundary_ignored (hno : ¬ (s.twin.standby = true ∧ s.twin.joining = true)) (b : JoinMsg) :
    exec (.joinBoundary env b) s = .next (s.stamped env) := by
  rw [exec_joinBoundary, execJoinBoundary, State.twinTake_heard h, if_neg]
  simpa [State.stamped] using hno

/-! TRIGGER (R386). -/

theorem exec_trigger_heard (stamp : T80) (mask : BitVec 8) : ∃ t, exec (.trigger env stamp mask) s = .next t
    ∧ t = { s.stamped env with scs := t.scs }
    ∧ ∀ i < 8, t.tunit i = if s.unitSrc i = 0x58 ∧ s.unitCond i = 2 then { s.tunit i with fired := true, fireStamp := some s.now }
        else s.tunit i := by
  refine ⟨(List.range 8).foldl State.fireUnit (s.stamped env), (exec_trigger env stamp mask s).trans (State.twinTake_heard h),
    State.fireUnits_rest _ _, fun i hi => ?_⟩
  rw [State.fireUnits_tunit]
  simp only [List.mem_range.mpr hi, true_and]
  rfl

end Heard

/-- Settles O56: the envelope once for all messages, then each message on a chip that hears it. -/
theorem twinLink : Obligations.TwinLink := by
  refine ⟨?envelope, ?effects⟩
  case envelope =>
    intro s env i m r pos w ds ms e pass reason h words b t80 mask lane twin here worse sends lost wrong message
    refine ⟨fun hi => (linkMessage_of_mem hi).deaf, fun hi => (linkMessage_of_mem hi).crc, fun hi => (linkMessage_of_mem hi).wrong,
      fun hi hhere hcrc he hne => (linkMessage_of_mem hi).heard ⟨hhere.1, hhere.2, hcrc, he, hne⟩, exec_healthSend_due, exec_healthSend_early,
      exec_twinLinkLost_due, exec_twinLinkLost_waits, ?_, ?_, fun h => exec_twinLaneFail_single h lane⟩
    · rintro htwin rfl
      exact exec_twinLaneFail_twin htwin 0
    · rintro htwin rfl
      exact exec_twinLaneFail_twin htwin 1
  case effects =>
    intro s env m r pos a w ds ms e pass words b t80 mask l x u heard shadow logged runs own n joins
    have hshadow (h : shadow) : s.shadows = true := (shadows_iff s).mpr h.2
    have hdark (hh : heard) (h : ¬ shadow) : s.shadows = false := Bool.eq_false_iff.mpr (fun hs => h ⟨hh, (shadows_iff s).mp hs⟩)
    have hrelease (h : shadow) (hr : runs) := exec_release_runs (w := w) h.1 (hshadow h) hr.1 hr.2
    refine ⟨fun h => exec_health_heard h m, fun h => exec_log_command h.1 (hshadow h), fun h => exec_log_trim h.1 (hshadow h),
      fun hh h => exec_log_ignored hh (hdark hh h) r, fun h => exec_logAck_heard h pos, ?line, ?localTask, ?remoteTask, ?notReleased,
      fun h => exec_digest_kept h.1 (hshadow h), fun h => exec_digest_compared h.1 (hshadow h), fun hh h => exec_digest_ignored hh (hdark hh h),
      fun h hon => exec_verdict_onMove h hon pos ms, fun h hon => exec_verdict_ignored h hon pos ms, fun h hx => exec_test_waited h hx e pass,
      fun h hx => exec_test_ignored h hx e pass, fun h => exec_resync_context h, fun h => exec_resync_pool h, fun h => exec_resync_ignored h,
      fun h => exec_joinBoundary_joins h.1 h.2.1 h.2.2 b, ?notJoining, fun h => exec_trigger_heard h t80 mask⟩
    case line =>
      intro h hr ho
      rw [Leaves, hrelease h hr, ho]
      rfl
    case localTask =>
      intro h hr ho hloc
      rw [Leaves, hrelease h hr, ho]
      exact congrArg _ (if_pos hloc)
    case remoteTask =>
      intro h hr ho hloc
      rw [Leaves, hrelease h hr, ho]
      exact congrArg _ (if_neg (Bool.eq_false_iff.mp hloc))
    case notReleased =>
      rintro hh hno
      refine exec_release_ignored hh (fun hgo => ?_)
      exact hno.elim (fun h => h ⟨hh, (shadows_iff s).mp hgo.1⟩) (fun h => h hgo.2)
    case notJoining => exact fun hh hno => exec_joinBoundary_ignored hh (fun hj => hno ⟨hh, hj⟩) b

end Sys2Proof.Machine
end

section
/-! A demand on a stop group: what it does to the group in its channel and to the group's flags, and what it leaves (R296 to R298). -/

namespace Sys2Proof.Machine

open Sys2Proof.Claims

/-- What an operation that ends in P for one element of a list, and keeps P for every other, ends in after the whole list. -/
theorem foldl_reaches {σ β : Type} {f : σ → β → σ} {I P : σ → Prop} {l : List β} {x : β} (hx : x ∈ l) (hkeepI : ∀ s y, I s → I (f s y))
    (hkeep : ∀ s y, P s → P (f s y)) (hstep : ∀ s, I s → P (f s x)) {s : σ} (hs : I s) : P (l.foldl f s) := by
  obtain ⟨before, after, rfl⟩ := List.append_of_mem hx
  rw [List.foldl_append, List.foldl_cons]
  exact List.foldlRecOn _ f (hstep _ (List.foldlRecOn _ f hs (fun t ht y _ => hkeepI t y ht))) (fun t ht y _ => hkeep t y ht)

/-! A group as one channel keeps it. -/

section Group

variable {x : ChGroup} {sto : Bool} {cause k : Nat} {now : Int}

theorem ChGroup.demand_of_sto (hx : x.code = 2) : x.demand sto cause now k = { x with lastDemand := some k } := by
  simp [ChGroup.demand, hx]

theorem ChGroup.demand_of_ss1 (hx : x.code = 1) : x.demand false cause now k = { x with lastDemand := some k } := by
  simp [ChGroup.demand, hx]

theorem ChGroup.demand_of_normal (hx : x.code = 0) :
    (x.demand sto cause now k).code = (if sto then 2 else 1) ∧ (x.demand sto cause now k).cause = cause := by
  cases sto <;> simp [ChGroup.demand, hx]

/-- CAUSE is that of the demand that moved the group out of NORMAL (R298). -/
theorem ChGroup.demand_cause (hx : x.code ≠ 0) : (x.demand sto cause now k).cause = x.cause := by
  unfold ChGroup.demand
  dsimp only
  split_ifs <;> rfl

theorem ChGroup.demand_sto_code : (x.demand true cause now k).code = 2 := by
  by_cases hsto : x.code = 2
  · rw [ChGroup.demand_of_sto hsto]
    exact hsto
  · by_cases hnormal : x.code = 0 <;> simp [ChGroup.demand, hsto, hnormal]

theorem ChGroup.demand_code_ne_zero : (x.demand sto cause now k).code ≠ 0 := by
  by_cases hnormal : x.code = 0
  · rw [(ChGroup.demand_of_normal hnormal).1]
    cases sto <;> decide
  · cases sto
    · by_cases hsto : x.code = 2 <;> simp [ChGroup.demand, hsto, hnormal]
    · rw [ChGroup.demand_sto_code]
      decide

end Group

/-! A channel. -/

/-- What a demand leaves of a channel: everything but its groups and its speed monitors. -/
def Channel.core (c : Channel) : Channel := { c with groups := [], axes := [] }

theorem Channel.restartRuns_groups (c : Channel) (axes : List Nat) : (c.restartRuns axes).groups = c.groups :=
  foldl_reading Channel.groups (f := fun c a => c.setMon a { c.mon a with belowRun := 0, belowSince := none, confirmed := false })
    (fun _ _ => rfl) axes c

theorem Channel.restartRuns_core (c : Channel) (axes : List Nat) : (c.restartRuns axes).core = c.core :=
  foldl_reading Channel.core (f := fun c a => c.setMon a { c.mon a with belowRun := 0, belowSince := none, confirmed := false })
    (fun _ _ => rfl) axes c

theorem State.chan_setChan_ne (s : State) {ch other : Chan} (h : other ≠ ch) (c : Channel) : (s.setChan ch c).chan other = s.chan other := by
  match ch, other, h with
  | .p, .h, _ => rfl
  | .h, .p, _ => rfl

theorem State.chan_congr {s t : State} (h : t.saf.p = s.saf.p ∧ t.saf.h = s.saf.h) (ch : Chan) : t.chan ch = s.chan ch := by
  cases ch
  · exact h.1
  · exact h.2

/-! The device. -/

/-- The event of a group leaves the safety state but the count of demands. -/
theorem State.groupChanged_saf (s0 s : State) (g : Nat) :
    (State.groupChanged s0 s g).saf = { s.saf with demands := (State.groupChanged s0 s g).saf.demands } := by
  unfold State.groupChanged
  dsimp only
  split_ifs <;> simp

theorem State.groupChanged_chan (s0 s : State) (g : Nat) (ch : Chan) : (State.groupChanged s0 s g).chan ch = s.chan ch :=
  State.chan_congr (by rw [State.groupChanged_saf]; exact ⟨rfl, rfl⟩) ch

/-- The channel after a demand: a group that leaves NORMAL starts the runs of its axes again, and takes the demand. -/
def State.demanded (s : State) (ch : Chan) (g : Nat) (sto : Bool) (cause : Nat) : Channel :=
  (if ((s.chan ch).group g).code = 0 then (s.chan ch).restartRuns (s.groupAxes g) else s.chan ch).setGroup g
    (((s.chan ch).group g).demand sto cause (s.chTime ch) s.cyc.cycle)

section Demand

variable (s : State) (ch : Chan) (g : Nat) (sto : Bool) (cause : Nat)

/-- A demand changes its channel, the flags of the group and the count of demands. -/
theorem State.demand_saf : (s.demand ch g sto cause).saf = { (s.setChan ch (s.demanded ch g sto cause)).saf with
    grpFlags := (if s.groupState g = 0 then s.modGrpFlags g (fun f => { f with cause := cause }) else s).saf.grpFlags
    demands := (s.demand ch g sto cause).saf.demands } := by
  rw [State.demand, State.groupChanged_saf]
  by_cases h : s.groupState g = 0
  · rw [if_pos h, if_pos h]
    cases ch <;> rfl
  · rw [if_neg h, if_neg h]
    cases ch <;> rfl

theorem State.demand_chan : (s.demand ch g sto cause).chan ch = s.demanded ch g sto cause := by
  rw [← s.chan_setChan ch (s.demanded ch g sto cause)]
  exact State.chan_congr (by rw [State.demand_saf]; exact ⟨rfl, rfl⟩) ch

theorem State.demand_chan_ne {other : Chan} (h : other ≠ ch) : (s.demand ch g sto cause).chan other = s.chan other := by
  rw [← s.chan_setChan_ne h (s.demanded ch g sto cause)]
  exact State.chan_congr (by rw [State.demand_saf]; exact ⟨rfl, rfl⟩) other

theorem State.demand_group : ((s.demand ch g sto cause).chan ch).group g
    = ((s.chan ch).group g).demand sto cause (s.chTime ch) s.cyc.cycle := by
  rw [State.demand_chan, State.demanded, Channel.setGroup_self]

theorem State.demand_group_ne {h : Nat} (hne : h ≠ g) : ((s.demand ch g sto cause).chan ch).group h = (s.chan ch).group h := by
  rw [State.demand_chan, State.demanded, Channel.setGroup_ne _ _ _ _ hne]
  split_ifs
  · exact congrArg (fun m => sget (fun _ => ChGroup.reset) m h) (Channel.restartRuns_groups _ _)
  · rfl

theorem State.demand_core : ((s.demand ch g sto cause).chan ch).core = (s.chan ch).core := by
  rw [State.demand_chan]
  change (if _ then _ else _ : Channel).core = _
  split_ifs
  · exact Channel.restartRuns_core _ _
  · rfl

theorem State.demand_grpFlags : (s.demand ch g sto cause).grpFlags g
    = if s.groupState g = 0 then { s.grpFlags g with cause := cause } else s.grpFlags g := by
  rw [State.grpFlags, State.demand_saf]
  split_ifs
  · exact sget_sput_self _ _ _ _
  · rfl

end Demand

/-- Settles O48: a demand reaches one group of one channel, where the state code tells what it does. -/
theorem harsherStateHolds : Obligations.HarsherStateHolds := by
  unfold Obligations.HarsherStateHolds
  intro s ch other g h cause cause2 sto t x y same
  have hy : y = x.demand sto cause (s.chTime ch) s.cyc.cycle := s.demand_group ch g sto cause
  refine ⟨s.demand_chan_ne ch g sto cause, s.demand_group_ne ch g sto cause, fun hx => hy.trans (ChGroup.demand_of_sto hx), ?again,
    fun hx => hy ▸ ChGroup.demand_of_normal hx, ?harsher, ?firstCause, ?laterCause, ?ss1ThenSto, ?stoThenSs1⟩
  case again =>
    rintro hx rfl
    exact hy.trans (ChGroup.demand_of_ss1 hx)
  case harsher =>
    rintro hx rfl
    exact hy ▸ ⟨ChGroup.demand_sto_code, ChGroup.demand_cause (by rw [hx]; decide)⟩
  case firstCause => exact fun hg => by rw [State.demand_grpFlags, if_pos hg]
  case laterCause => exact fun hg => by rw [State.demand_grpFlags, if_neg hg]
  case ss1ThenSto => rw [State.demand_group, ChGroup.demand_sto_code]
  case stoThenSs1 => rw [State.demand_group, ChGroup.demand_of_sto (by rw [State.demand_group, ChGroup.demand_sto_code]), State.demand_group,
      ChGroup.demand_sto_code]

end Sys2Proof.Machine
end

section
/-! The monitors of the stop groups, the input pairs and the acknowledge edges (R296, R302, R303, R305 to R308, R310). -/

namespace Sys2Proof.Machine

open Sys2Proof.Claims

theorem exec_ss1Tmax (ch : Chan) (g : GroupIx) (s : State) : exec (.ss1Tmax ch g) s = execSs1Tmax ch g s := rfl
theorem exec_standstillConfirm (ch : Chan) (g : GroupIx) (s : State) : exec (.standstillConfirm ch g) s = execStandstillConfirm ch g s := rfl
theorem exec_speedDiscrepancy (a : AxisIx) (s : State) : exec (.speedDiscrepancy a) s = execSpeedDiscrepancy a s := rfl
theorem exec_upTimeout (a : AxisIx) (s : State) : exec (.upTimeout a) s = execUpTimeout a s := rfl
theorem exec_siDiscrepancy (ch : Chan) (i : PairIx) (s : State) : exec (.siDiscrepancy ch i) s = execSiDiscrepancy ch i s := rfl
theorem exec_barrierLinkLost (ch : Chan) (s : State) : exec (.barrierLinkLost ch) s = execBarrierLinkLost ch s := rfl
theorem exec_barrierLinkRecover (ch : Chan) (s : State) : exec (.barrierLinkRecover ch) s = execBarrierLinkRecover ch s := rfl

section Monitors

variable {s : State} {ch : Chan} {g : GroupIx} {a : AxisIx}

/-! SS1 (R305, R307). -/

theorem exec_ss1Tmax_past {t0 : Int} (hstart : ((s.chan ch).group g.val).ss1Start = some t0) (hss1 : ((s.chan ch).group g.val).code = 1)
    (hpast : t0 + (s.parN 0x08100005 g.val : Int) * 1000000 ≤ s.chTime ch) :
    Leaves (.ss1Tmax ch g) s ((s.modGrpFlags g.val (fun f => { f with tMax := true })).demand ch g.val true 0x05) := by
  rw [Leaves, exec_ss1Tmax, execSs1Tmax, hstart]
  exact whenB_of_true (by simp [hss1, hpast]) _ _

theorem exec_ss1Tmax_waits (h : ∀ t0, ¬ (((s.chan ch).group g.val).ss1Start = some t0 ∧ ((s.chan ch).group g.val).code = 1
    ∧ t0 + (s.parN 0x08100005 g.val : Int) * 1000000 ≤ s.chTime ch)) : Leaves (.ss1Tmax ch g) s s := by
  rw [Leaves, exec_ss1Tmax, execSs1Tmax]
  cases hstart : ((s.chan ch).group g.val).ss1Start with
  | none => rfl
  | some t0 => exact whenB_of_false (by simpa [hstart] using h t0) _ _

theorem exec_standstillConfirm_ss1 (hstill : s.groupStill ch g.val = true) (hss1 : ((s.chan ch).group g.val).code = 1)
    (hstart : ((s.chan ch).group g.val).ss1Start ≠ none) : Leaves (.standstillConfirm ch g) s
      ((s.setChan ch ((s.chan ch).setGroup g.val { (s.chan ch).group g.val with confirmed := true, still := true })).demand ch g.val true 0x06) := by
  rw [Leaves, exec_standstillConfirm, execStandstillConfirm, if_pos (by simp [hstill, hss1, Option.isSome_iff_ne_none, hstart])]

theorem exec_standstillConfirm_sto (hstill : s.groupStill ch g.val = true) (hsto : ((s.chan ch).group g.val).code = 2) :
    Leaves (.standstillConfirm ch g) s (s.setChan ch ((s.chan ch).setGroup g.val { (s.chan ch).group g.val with still := true })) := by
  rw [Leaves, exec_standstillConfirm, execStandstillConfirm, if_neg (by simp [hsto]), if_pos (by simp [hstill, hsto])]

theorem exec_standstillConfirm_waits (h : ¬ s.groupStill ch g.val = true ∨ ((s.chan ch).group g.val).code = 0
    ∨ (((s.chan ch).group g.val).code = 1 ∧ ((s.chan ch).group g.val).ss1Start = none)) : Leaves (.standstillConfirm ch g) s s := by
  rw [Leaves, exec_standstillConfirm, execStandstillConfirm]
  obtain hmoves | hnormal | ⟨hss1, hstart⟩ := h
  · simp [hmoves]
  · simp [hnormal]
  · simp [hss1, hstart]

/-- The speeds of a monitored axis disagree, and its group is not in STO (R307). -/
def State.SpeedsApart (s : State) (a : Nat) : Prop :=
  s.monitored a = true ∧ s.discrepant a = true ∧ (s.saf.p.group (s.parN 0x08200001 a)).code ≠ 2

theorem exec_speedDiscrepancy_apart (h : s.SpeedsApart a.val) : Leaves (.speedDiscrepancy a) s
    ((s.flagGroup a.val (fun f => { f with fbDisc := true })).demand .p (s.parN 0x08200001 a.val) true 0x09) := by
  obtain ⟨hmon, hdisc, hcode⟩ := h
  rw [Leaves, exec_speedDiscrepancy]
  exact whenB_of_true (by simp [hmon, hdisc, hcode]) _ _

theorem exec_speedDiscrepancy_together (h : ¬ s.SpeedsApart a.val) : Leaves (.speedDiscrepancy a) s s := by
  rw [Leaves, exec_speedDiscrepancy]
  exact whenB_of_false (by simpa [State.SpeedsApart] using h) _ _

/-! Uplinks that stay away (R308). -/

/-- A channel has had three invalid uplinks of a monitored axis in a row. -/
def State.uplinkBad (s : State) (ch : Chan) (a : Nat) : Bool := s.monitored a && decide (3 ≤ ((s.chan ch).mon a).invalidRun)

/-- A channel has had no valid uplink of a monitored axis for the cycles of UP_TIMEOUT. -/
def State.uplinkQuiet (s : State) (ch : Chan) (a : Nat) : Bool :=
  s.monitored a && decide (((s.chan ch).mon a).lastArrival + s.parN 0x08200007 a ≤ s.cyc.cycle)

theorem State.uplinkBad_of_lt {n : Nat} (h : ((s.chan ch).mon n).invalidRun < 3) : s.uplinkBad ch n = false := by
  rw [State.uplinkBad, decide_eq_false (Nat.not_le.mpr h), Bool.and_false]

theorem State.uplinkBad_of_le {n : Nat} (hmon : s.monitored n = true) (h : 3 ≤ ((s.chan ch).mon n).invalidRun) : s.uplinkBad ch n = true := by
  rw [State.uplinkBad, hmon, decide_eq_true h, Bool.and_self]

theorem State.uplinkQuiet_eq_false {n : Nat} : s.uplinkQuiet ch n = false
    ↔ s.monitored n = false ∨ ¬ ((s.chan ch).mon n).lastArrival + s.parN 0x08200007 n ≤ s.cyc.cycle := by
  rw [State.uplinkQuiet, Bool.and_eq_false_iff, decide_eq_false_iff_not]

theorem exec_uplinkInvalidRun_eq : exec (.uplinkInvalidRun a) s =
    let t := if s.uplinkBad .p a.val then s.upFault .p a.val else s
    .next (if t.uplinkBad .h a.val then t.upFault .h a.val else t) := rfl

theorem exec_upTimeout_running (hrun : s.cyc.running = true) (hp : s.uplinkQuiet .p a.val = false) :
    exec (.upTimeout a) s = .next (if s.uplinkQuiet .h a.val then s.upFault .h a.val else s) := by
  have hsame : exec (.upTimeout a) s = .next (if s.cyc.running then
      let t := if s.uplinkQuiet .p a.val then s.upFault .p a.val else s
      if t.monitored a.val && decide (((t.chan .h).mon a.val).lastArrival + s.parN 0x08200007 a.val ≤ t.cyc.cycle) then t.upFault .h a.val else t
    else s) := rfl
  rw [hsame, if_pos hrun, hp]
  rfl

theorem exec_upTimeout_stopped (hrun : s.cyc.running = false) : Leaves (.upTimeout a) s s := by
  rw [Leaves, exec_upTimeout, execUpTimeout, hrun]
  rfl

end Monitors

section Links

variable {s : State} {ch : Chan} {i : PairIx}

/-! Input pairs and barrier links (R302, R303). -/

/-- Pair i, used and not latched, has disagreed since t for longer than SI_DISC (R302). -/
def State.PairLate (s : State) (ch : Chan) (i t : Nat) : Prop :=
  ((s.chan ch).pair i).disagreeSince = some t ∧ s.pairUsed i = true ∧ ((s.chan ch).pair i).latch = false
    ∧ t + s.parN 0x08300004 i * 1000000 < s.coreTicks

theorem exec_siDiscrepancy_late {t : Nat} (h : s.PairLate ch i.val t) : Leaves (.siDiscrepancy ch i) s
    ((s.setChan ch ((s.chan ch).setPair i.val { (s.chan ch).pair i.val with latch := true, sawDemand := false })).demandPair ch i.val 0x02 true) := by
  obtain ⟨hsince, hused, hlatch, hlate⟩ := h
  rw [Leaves, exec_siDiscrepancy, execSiDiscrepancy]
  dsimp only
  split
  next hnone => cases hnone.symm.trans hsince
  next t' ht =>
    cases ht.symm.trans hsince
    exact whenB_of_true (by simp [hused, hlatch, hlate]) _ _

theorem exec_siDiscrepancy_waits (h : ∀ t, ¬ s.PairLate ch i.val t) : Leaves (.siDiscrepancy ch i) s s := by
  rw [Leaves, exec_siDiscrepancy, execSiDiscrepancy]
  cases hsince : ((s.chan ch).pair i.val).disagreeSince with
  | none => rfl
  | some t => exact whenB_of_false (by simpa [State.PairLate, hsince] using h t) _ _

/-- A channel whose link stands has had no frame for four frame periods. -/
def State.LinkGone (s : State) (ch : Chan) : Prop := (s.chan ch).linkLost = false ∧ (s.chan ch).lastFrame + 62500 ≤ s.coreTicks

/-- A channel loses its barrier link. -/
def State.loseLink (s : State) (ch : Chan) : State := s.setChan ch { s.chan ch with linkLost := true, recover := 0 }

theorem exec_barrierLinkLost_gone (h : s.LinkGone ch) : Leaves (.barrierLinkLost ch) s ((s.loseLink ch).pairDemands ch) := by
  rw [Leaves, exec_barrierLinkLost]
  exact whenB_of_true (by simp [h.1, h.2]) _ _

theorem exec_barrierLinkLost_waits (h : ¬ s.LinkGone ch) : Leaves (.barrierLinkLost ch) s s := by
  rw [Leaves, exec_barrierLinkLost]
  exact whenB_of_false (by simpa [State.LinkGone] using h) _ _

theorem exec_barrierLinkRecover_back (hlost : (s.chan ch).linkLost = true) (hback : 64 ≤ (s.chan ch).recover) :
    Leaves (.barrierLinkRecover ch) s (s.setChan ch { s.chan ch with linkLost := false, recover := 0 }) := by
  rw [Leaves, exec_barrierLinkRecover]
  exact whenB_of_true (by simp [hlost, hback]) _ _

theorem exec_barrierLinkRecover_waits (h : ¬ ((s.chan ch).linkLost = true ∧ 64 ≤ (s.chan ch).recover)) :
    Leaves (.barrierLinkRecover ch) s s := by
  rw [Leaves, exec_barrierLinkRecover]
  exact whenB_of_false (by simpa using h) _ _

/-! Acknowledge edges (R310). -/

/-- A channel as ACK_WIN_EXPIRY leaves it. -/
def State.expireAck (s : State) (c : Channel) : Channel :=
  match c.ackEdge with
  | none => c
  | some t => if s.edgeRecent t then c else { c with ackEdge := none, ackUsed := false }

theorem exec_ackWinExpiry_eq (s : State) : exec .ackWinExpiry s
    = .next { s with saf := { s.saf with p := s.expireAck s.saf.p, h := s.expireAck s.saf.h } } := rfl

theorem State.expireAck_edge {c : Channel} {e : Int} (h : c.ackEdge = some e) :
    (s.expireAck c).ackEdge = (if s.edgeRecent e then some e else none) ∧ (s.edgeRecent e = false → (s.expireAck c).ackUsed = false) := by
  simp only [State.expireAck, h]
  cases hrecent : s.edgeRecent e
  · exact ⟨rfl, fun _ => rfl⟩
  · exact ⟨h, nofun⟩

end Links

/-- Settles O47: each monitor acts when its condition holds, and leaves the device as it is when it does not. -/
theorem safetyMonitors : Obligations.SafetyMonitors := by
  unfold Obligations.SafetyMonitors
  refine ⟨?monitors, ?links⟩
  case monitors =>
    intro s ch g a t0 x past still ga apart quiet
    refine ⟨fun h => exec_ss1Tmax_past h.1 h.2.1 h.2.2, exec_ss1Tmax_waits, exec_standstillConfirm_ss1, exec_standstillConfirm_sto,
      exec_standstillConfirm_waits, exec_speedDiscrepancy_apart, exec_speedDiscrepancy_together, ?sound, ?unmonitored, ?badP, ?badH, ?quietH,
      ?heard⟩
    case sound =>
      intro hp hh
      have hgoodP : s.uplinkBad .p a.val = false := State.uplinkBad_of_lt hp
      have hgoodH : s.uplinkBad .h a.val = false := State.uplinkBad_of_lt hh
      simp [Leaves, exec_uplinkInvalidRun_eq, hgoodP, hgoodH]
    case unmonitored =>
      intro hmon
      simp [Leaves, exec_uplinkInvalidRun_eq, State.uplinkBad, hmon]
    case badP =>
      intro hmon hp hh
      have hbad : s.uplinkBad .p a.val = true := State.uplinkBad_of_le hmon hp
      have hgood : (s.upFault .p a.val).uplinkBad .h a.val = false := State.uplinkBad_of_lt hh
      simp [Leaves, exec_uplinkInvalidRun_eq, hbad, hgood]
    case badH =>
      intro hmon hp hh
      have hgood : s.uplinkBad .p a.val = false := State.uplinkBad_of_lt hp
      have hbad : s.uplinkBad .h a.val = true := State.uplinkBad_of_le hmon hh
      simp [Leaves, exec_uplinkInvalidRun_eq, hbad, hgood]
    case quietH =>
      intro hrun hmon hp hh
      have hheard : s.uplinkQuiet .p a.val = false := State.uplinkQuiet_eq_false.mpr (.inr hp)
      have hquiet : s.uplinkQuiet .h a.val = true := by
        rw [State.uplinkQuiet, hmon, decide_eq_true hh, Bool.and_self]
      rw [Leaves, exec_upTimeout_running hrun hheard, if_pos hquiet]
    case heard =>
      intro h
      cases hrun : s.cyc.running with
      | false => exact exec_upTimeout_stopped hrun
      | true =>
        have hboth : s.uplinkQuiet .p a.val = false ∧ s.uplinkQuiet .h a.val = false := by
          rw [State.uplinkQuiet_eq_false, State.uplinkQuiet_eq_false]
          obtain hstop | hmon | ⟨hp, hh⟩ := h
          · exact absurd (hstop.symm.trans hrun) Bool.false_ne_true
          · exact ⟨.inl hmon, .inl hmon⟩
          · exact ⟨.inr hp, .inr hh⟩
        rw [Leaves, exec_upTimeout_running hrun hboth.1, hboth.2]
        rfl
  case links =>
    intro s ch i n e c x late gone back
    refine ⟨exec_siDiscrepancy_late, exec_siDiscrepancy_waits, exec_barrierLinkLost_gone, exec_barrierLinkLost_waits,
      fun h => exec_barrierLinkRecover_back h.1 h.2, exec_barrierLinkRecover_waits, fun hedge => ?_⟩
    refine ⟨_, exec_ackWinExpiry_eq s, ?_⟩
    cases ch
    · exact ⟨(State.expireAck_edge hedge).1, (State.expireAck_edge hedge).2, rfl⟩
    · exact ⟨(State.expireAck_edge hedge).1, (State.expireAck_edge hedge).2, rfl⟩

end Sys2Proof.Machine
end

section
/-! Demands on every group of a mask, and a channel that has lost its barrier link (R296, R301, R303). -/

namespace Sys2Proof.Machine

open Sys2Proof.Claims

/-! What two channels that differ in their groups and speed monitors only have in common. -/

section Core

variable {c d : Channel} (h : c.core = d.core)
include h

theorem Channel.pair_of_core (i : Nat) : c.pair i = d.pair i := show c.core.pair i = d.core.pair i by rw [h]
theorem Channel.linkLost_of_core : c.linkLost = d.linkLost := show c.core.linkLost = d.core.linkLost by rw [h]
theorem Channel.recover_of_core : c.recover = d.recover := show c.core.recover = d.core.recover by rw [h]

end Core

section DemandMask

variable (s : State) (ch : Chan) (mask : Nat) (sto : Bool) (cause : Nat)

/-- What every demand on a group of a channel keeps, the demands of a mask keep. -/
theorem State.demandMask_induction {P : State → Prop} (hstep : ∀ t g, P t → P (t.demand ch g sto cause)) (hs : P s) :
    P (s.demandMask ch mask sto cause) := by
  refine List.foldlRecOn _ _ hs (fun t ht g _ => ?_)
  split
  · exact hstep t g ht
  · exact ht

theorem State.demandMask_chan_ne {other : Chan} (h : other ≠ ch) : (s.demandMask ch mask sto cause).chan other = s.chan other :=
  s.demandMask_induction ch mask sto cause (P := fun t => t.chan other = s.chan other)
    (fun t g ht => (t.demand_chan_ne ch g sto cause h).trans ht) rfl

theorem State.demandMask_core : ((s.demandMask ch mask sto cause).chan ch).core = (s.chan ch).core :=
  s.demandMask_induction ch mask sto cause (P := fun t => (t.chan ch).core = (s.chan ch).core)
    (fun t g ht => (t.demand_core ch g sto cause).trans ht) rfl

/-- What a demand does to one group it names and keeps of a group it does not is so of the group after the demands of a mask. -/
theorem State.demandMask_group {P : ChGroup → Prop} {g : Nat} (hP : ∀ (x : ChGroup) (now : Int) (k : Nat), P (x.demand sto cause now k))
    (hg : g < 32) (hmask : nbit mask g = true) : P (((s.demandMask ch mask sto cause).chan ch).group g) := by
  refine foldl_reaches (I := fun _ => True) (P := fun t : State => P ((t.chan ch).group g)) (List.mem_range.mpr hg) (fun _ _ _ => trivial)
    (fun t y ht => ?_) (fun t _ => ?_) trivial
  · split
    · by_cases hy : g = y
      · subst hy
        rw [State.demand_group]
        exact hP _ _ _
      · rw [State.demand_group_ne _ _ _ _ _ hy]
        exact ht
    · exact ht
  · rw [if_pos hmask, State.demand_group]
    exact hP _ _ _

/-- What a demand keeps of a group, the demands of a mask keep. -/
theorem State.demandMask_group_keeps {P : ChGroup → Prop} {g : Nat}
    (hP : ∀ (x : ChGroup) (now : Int) (k : Nat), P x → P (x.demand sto cause now k)) (hs : P ((s.chan ch).group g)) :
    P (((s.demandMask ch mask sto cause).chan ch).group g) := by
  refine s.demandMask_induction ch mask sto cause (P := fun t => P ((t.chan ch).group g)) (fun t y ht => ?_) hs
  by_cases hy : g = y
  · subst hy
    rw [State.demand_group]
    exact hP _ _ _ ht
  · rw [State.demand_group_ne _ _ _ _ _ hy]
    exact ht

end DemandMask

/-! What a channel demands without its link (R303). -/

/-- A pair is in demand by what a demand leaves of its channel, and by the parameters. -/
theorem State.pairDemand_congr {s t : State} {ch : Chan} (hcore : (t.chan ch).core = (s.chan ch).core) (hpar : t.params = s.params) (i : Nat) :
    t.pairDemand ch i = s.pairDemand ch i := by
  have hparN (base j : Nat) : t.parN base j = s.parN base j := congrArg (fun m => (sget paramDefault m (base + j * 4096)).toNat) hpar
  simp only [State.pairDemand, State.pairUsed, Channel.pair_of_core hcore, Channel.linkLost_of_core hcore, hparN]

/-- Every pair in use is in demand in a channel without its link. -/
theorem State.pairDemand_of_lost {s : State} {ch : Chan} {i : Nat} (hlost : (s.chan ch).linkLost = true) (hused : s.pairUsed i = true) :
    s.pairDemand ch i = true := by
  simp [State.pairDemand, hlost, hused]

/-- The demand of one pair of a channel, as its fold takes them. -/
def State.takePairDemand (ch : Chan) (s : State) (i : Nat) : State :=
  if s.pairDemand ch i then
    if ((s.chan ch).pair i).latch then s.demandPair ch i 0x02 true
    else s.demandPair ch i (if (s.chan ch).linkLost then 0x0A else 0x01) (decide (s.parN 0x08300002 i = 0))
  else s

theorem State.pairDemands_eq (s : State) (ch : Chan) : s.pairDemands ch = (List.range 8).foldl (State.takePairDemand ch) s := rfl

/-- The demand of a pair is one demand on the pair's groups, with 0x0A for the lost link and no latch. -/
theorem State.takePairDemand_cases (s : State) (ch : Chan) (i : Nat) :
    (s.pairDemand ch i = false ∧ s.takePairDemand ch i = s)
    ∨ (s.pairDemand ch i = true ∧ ∃ cause sto, s.takePairDemand ch i = s.demandMask ch (s.parN 0x08300003 i) sto cause
        ∧ ((s.chan ch).linkLost = true → ((s.chan ch).pair i).latch = false → cause = 0x0A)) := by
  unfold State.takePairDemand
  cases hd : s.pairDemand ch i
  · exact .inl ⟨rfl, rfl⟩
  · refine .inr ⟨rfl, ?_⟩
    cases hl : ((s.chan ch).pair i).latch
    · exact ⟨_, _, rfl, fun hlost _ => if_pos hlost⟩
    · exact ⟨_, _, rfl, nofun⟩

theorem State.takePairDemand_core (s : State) (ch : Chan) (i : Nat) : ((s.takePairDemand ch i).chan ch).core = (s.chan ch).core := by
  obtain ⟨-, heq⟩ | ⟨-, cause, sto, heq, -⟩ := s.takePairDemand_cases ch i
  · rw [heq]
  · rw [heq, State.demandMask_core]

theorem State.takePairDemand_params (s : State) (ch : Chan) (i : Nat) : (s.takePairDemand ch i).params = s.params := by
  obtain ⟨-, heq⟩ | ⟨-, cause, sto, heq, -⟩ := s.takePairDemand_cases ch i
  · rw [heq]
  · rw [heq]
    simp only [State.demandMask_frame]

theorem State.pairDemands_core (s : State) (ch : Chan) : ((s.pairDemands ch).chan ch).core = (s.chan ch).core :=
  foldl_reading (fun t : State => (t.chan ch).core) (fun t i => t.takePairDemand_core ch i) _ s

theorem State.takePairDemand_code_ne_zero {s : State} {ch : Chan} {i g : Nat} (h : ((s.chan ch).group g).code ≠ 0) :
    (((s.takePairDemand ch i).chan ch).group g).code ≠ 0 := by
  obtain ⟨-, heq⟩ | ⟨-, cause, sto, heq, -⟩ := s.takePairDemand_cases ch i
  · rwa [heq]
  · rw [heq]
    exact State.demandMask_group_keeps _ _ _ _ _ (P := fun x => x.code ≠ 0) (fun _ _ _ _ => ChGroup.demand_code_ne_zero) h

/-- The groups of a pair in demand leave NORMAL. -/
theorem State.pairDemands_code_ne_zero {s : State} {ch : Chan} {i g : Nat} (hi : i < 8) (hg : g < 32) (hd : s.pairDemand ch i = true)
    (hmask : nbit (s.parN 0x08300003 i) g = true) : (((s.pairDemands ch).chan ch).group g).code ≠ 0 := by
  rw [State.pairDemands_eq]
  refine foldl_reaches (I := fun t : State => (t.chan ch).core = (s.chan ch).core ∧ t.params = s.params)
    (P := fun t : State => ((t.chan ch).group g).code ≠ 0) (List.mem_range.mpr hi)
    (fun t j ht => ⟨(t.takePairDemand_core ch j).trans ht.1, (t.takePairDemand_params ch j).trans ht.2⟩)
    (fun t j ht => State.takePairDemand_code_ne_zero ht) ?_ ⟨rfl, rfl⟩
  intro t ⟨hcore, hpar⟩
  have hdt : t.pairDemand ch i = true := (State.pairDemand_congr hcore hpar i).trans hd
  have hmask' : nbit (t.parN 0x08300003 i) g = true := by rw [State.parN, State.par, hpar]; exact hmask
  obtain ⟨hno, -⟩ | ⟨-, cause, sto, heq, -⟩ := t.takePairDemand_cases ch i
  · rw [hdt] at hno
    cases hno
  · rw [heq]
    exact State.demandMask_group _ _ _ _ _ (P := fun x => x.code ≠ 0) (fun _ _ _ => ChGroup.demand_code_ne_zero) hg hmask'

/-- Where no pair is latched, what a channel without its link demands moves groups out of NORMAL with cause 0x0A. -/
theorem State.pairDemands_cause {s : State} {ch : Chan} {g : Nat} (hlost : (s.chan ch).linkLost = true)
    (hclean : ∀ j < 8, ((s.chan ch).pair j).latch = false) (hs : ((s.chan ch).group g).code = 0) :
    (((s.pairDemands ch).chan ch).group g).code = 0 ∨ (((s.pairDemands ch).chan ch).group g).cause = 0x0A := by
  have hkeeps : ∀ (sto : Bool) (x : ChGroup) (now : Int) (k : Nat), x.code = 0 ∨ x.cause = 0x0A →
      (x.demand sto 0x0A now k).code = 0 ∨ (x.demand sto 0x0A now k).cause = 0x0A := by
    intro sto x now k hx
    by_cases hcode : x.code = 0
    · exact .inr (ChGroup.demand_of_normal hcode).2
    · exact .inr ((ChGroup.demand_cause hcode).trans (hx.resolve_left hcode))
  refine (List.foldlRecOn (motive := fun t : State => (t.chan ch).core = (s.chan ch).core
    ∧ (((t.chan ch).group g).code = 0 ∨ ((t.chan ch).group g).cause = 0x0A)) (List.range 8) (State.takePairDemand ch) ⟨rfl, .inl hs⟩ ?_).2
  intro t ⟨hcore, ht⟩ i hi
  refine ⟨(t.takePairDemand_core ch i).trans hcore, ?_⟩
  obtain ⟨-, heq⟩ | ⟨-, cause, sto, heq, hcause⟩ := t.takePairDemand_cases ch i
  · rwa [heq]
  · have hlatch : ((t.chan ch).pair i).latch = false :=
      (congrArg PairSt.latch (Channel.pair_of_core hcore i)).trans (hclean i (List.mem_range.mp hi))
    obtain rfl := hcause ((Channel.linkLost_of_core hcore).trans hlost) hlatch
    rw [heq]
    exact State.demandMask_group_keeps _ _ _ _ _ (P := fun x => x.code = 0 ∨ x.cause = 0x0A) (hkeeps sto) ht

/-! The count of valid frames of a channel (R303). -/

/-- Whether a channel has lost its link, and its run of valid frames since. -/
def State.linkState (s : State) (ch : Chan) : Bool × Nat := ((s.chan ch).linkLost, (s.chan ch).recover)

theorem State.linkState_congr {s t : State} {ch : Chan} (h : (t.chan ch).core = (s.chan ch).core) : t.linkState ch = s.linkState ch :=
  Prod.ext (Channel.linkLost_of_core h) (Channel.recover_of_core h)

theorem State.linkState_setChan (s : State) (ch : Chan) (c : Channel) : (s.setChan ch c).linkState ch = (c.linkLost, c.recover) := by
  cases ch <;> rfl

theorem State.linkState_ite {p : Prop} [Decidable p] (s t : State) (ch : Chan) :
    (if p then s else t).linkState ch = if p then s.linkState ch else t.linkState ch := apply_ite (State.linkState · ch) p s t

theorem State.ite_linkState {p : Prop} [Decidable p] {s t : State} {ch : Chan} {x : Bool × Nat} (hs : s.linkState ch = x)
    (ht : t.linkState ch = x) : (if p then s else t).linkState ch = x := by
  rw [State.linkState_ite, hs, ht, ite_self]

theorem State.pairWindow_linkState (s : State) (ch : Chan) (fi flags i : Nat) : (s.pairWindow ch fi flags i).linkState ch = s.linkState ch := by
  have hfld (t : State) (b : Bool) : ({ t with fld := { t.fld with tpFail := b } } : State).linkState ch = t.linkState ch := by cases ch <;> rfl
  have hpair (t : State) (x : PairSt) : (t.setChan ch ((t.chan ch).setPair i x)).linkState ch = t.linkState ch := t.linkState_setChan ch _
  unfold State.pairWindow
  dsimp only
  split_ifs
  · exact (hfld _ _).trans ((State.linkState_congr (State.demandMask_core _ _ _ _ _)).trans (hpair _ _))
  · rfl
  · exact hpair _ _
  · rfl

theorem State.ackWindow_linkState (s : State) (ch : Chan) (level : Bool) : (s.ackWindow ch level).linkState ch = s.linkState ch := by
  have hset (c : Channel) (h : (c.linkLost, c.recover) = s.linkState ch) : (s.setChan ch c).linkState ch = s.linkState ch :=
    (s.linkState_setChan ch c).trans h
  have hbad (t : State) (n : Nat) (a : Option Int) : ({ t with saf := { t.saf with ackBad := n, ackBadAt := a } } : State).linkState ch
      = t.linkState ch := by cases ch <;> rfl
  unfold State.ackWindow
  dsimp only
  split
  · exact hset _ rfl
  · split
    · split
      · exact hset _ rfl
      · exact State.ite_linkState (hset _ rfl) (State.ite_linkState (hset _ rfl) ((hbad _ _ _).trans (hset _ rfl)))
    · exact hset _ rfl

theorem State.pairsInvalid_linkState (s : State) (ch : Chan) (invalid : Bool) : (s.pairsInvalid ch invalid).linkState ch = s.linkState ch := by
  rw [State.pairsInvalid, State.linkState_setChan]
  refine foldl_reading (fun c : Channel => (c.linkLost, c.recover)) (fun c i => ?_) _ _
  split <;> rfl

theorem State.outputDemands_linkState (s : State) (ch : Chan) (bytes : List Byte) : (s.outputDemands ch bytes).linkState ch = s.linkState ch :=
  (foldl_reading (State.linkState · ch) (fun _ _ => State.linkState_congr (State.demandMask_core _ _ _ _ _)) _ _).trans
    (State.linkState_setChan _ _ _)

/-- A valid frame counts in the run of a channel without its link, 1.5 frame periods at most after the one before (log 37). -/
theorem State.channelUplink_linkState (s : State) (ch : Chan) (bytes : List Byte) : (s.channelUplink ch bytes).linkState ch
    = ((s.chan ch).linkLost, if (s.chan ch).linkLost then
        (if s.coreTicks ≤ (s.chan ch).lastFrame + 23437 then (s.chan ch).recover + 1 else 1) else 0) := by
  have hwin (t : State) : (t.setChan ch { t.chan ch with lastWin := some s.coreTicks }).linkState ch = t.linkState ch :=
    t.linkState_setChan ch _
  have hpairs (t : State) (fi flags : Nat) : ((List.range 8).foldl (fun u i => u.pairWindow ch fi flags i) t).linkState ch = t.linkState ch :=
    foldl_reading (State.linkState · ch) (fun u i => u.pairWindow_linkState ch fi flags i) _ t
  unfold State.channelUplink
  simp only [State.outputDemands_linkState, State.linkState_congr (State.pairDemands_core _ _), State.pairsInvalid_linkState, State.linkState_ite,
    State.ackWindow_linkState, hpairs, hwin, ite_self]
  exact State.linkState_setChan _ _ _

/-- Settles O49: without its link a channel holds every used pair in demand, and each of their groups has left NORMAL. -/
theorem barrierLossDemands : Obligations.BarrierLossDemands := by
  unfold Obligations.BarrierLossDemands
  intro s ch i g bytes c gone clean u
  have hlink : u.linkState ch = _ := s.channelUplink_linkState ch bytes
  refine ⟨?lost, exec_barrierLinkLost_waits, ?held, fun hlost hback => exec_barrierLinkRecover_back hlost hback, ?stands,
    s.channelUplink_lastFrame ch bytes, congrArg Prod.fst hlink, fun hlost => (congrArg Prod.snd hlink).trans (if_pos hlost)⟩
  case lost =>
    intro hgone
    have hchan : (s.loseLink ch).chan ch = { s.chan ch with linkLost := true, recover := 0 } := s.chan_setChan ch _
    have hcore := (s.loseLink ch).pairDemands_core ch
    have hpar : (s.loseLink ch).parN = s.parN := by simp only [State.loseLink, State.setChan_fields]
    have hlost : ((s.loseLink ch).chan ch).linkLost = true := congrArg Channel.linkLost hchan
    have hdemand (hused : s.pairUsed i.val = true) : (s.loseLink ch).pairDemand ch i.val = true :=
      State.pairDemand_of_lost hlost (by rw [State.pairUsed, hpar]; exact hused)
    refine ⟨_, exec_barrierLinkLost_gone hgone, (Channel.linkLost_of_core hcore).trans hlost,
      (Channel.recover_of_core hcore).trans (congrArg Channel.recover hchan), fun hused => ?_, fun hused hmask => ?_⟩
    · exact (State.pairDemand_congr hcore (by simp only [State.pairDemands_frame]) i.val).trans (hdemand hused)
    · have hleft := State.pairDemands_code_ne_zero i.isLt g.isLt (hdemand hused) (by rw [hpar]; exact hmask)
      refine ⟨hleft, fun hclean hnormal => (State.pairDemands_cause hlost ?_ ?_).resolve_left hleft⟩
      · exact fun j hj => (congrArg (fun c => (Channel.pair c j).latch) hchan).trans (hclean j hj)
      · exact (congrArg (fun c => (Channel.group c g.val).code) hchan).trans hnormal
  case held =>
    intro hlost hfew hused
    exact ⟨exec_barrierLinkRecover_waits (fun h => absurd h.2 (Nat.not_le.mpr hfew)), State.pairDemand_of_lost hlost hused⟩
  case stands => exact fun hstands => exec_barrierLinkRecover_waits (fun h => absurd (hstands.symm.trans h.1) Bool.false_ne_true)

end Sys2Proof.Machine
end

section
/-! SAF_DEMAND, SAF_ACK and SAF_PARAM_LOAD (R298, R300, R310, R311, R313). -/

namespace Sys2Proof.Machine

open Sys2Proof.Claims

theorem exec_safDemand (c : CmdCtx) (mask : BitVec 32) (kind : BitVec 8) (s : State) :
    exec (.safDemand c mask kind) s = execSafDemand c mask kind s := rfl
theorem exec_safParamActivate (s : State) : exec .safParamActivate s = execSafParamActivate s := rfl
theorem exec_safParamDiscard (s : State) : exec .safParamDiscard s = execSafParamDiscard s := rfl

/-! SAF_DEMAND (R298, R300). -/

/-- The groups of a mask are in demand in both channels. -/
def State.demandBoth (s : State) (mask : Nat) (sto : Bool) : State :=
  (s.demandMask .p mask sto 0x03).demandMask .h mask sto 0x03

/-- An STO demand of both channels stops each of its groups in both. -/
theorem State.demandBoth_sto (s : State) {mask g : Nat} (hg : g < 32) (hmask : nbit mask g = true) :
    ((s.demandBoth mask true).saf.p.group g).code = 2 ∧ ((s.demandBoth mask true).saf.h.group g).code = 2 := by
  have hstop (t : State) (ch : Chan) : (((t.demandMask ch mask true 0x03).chan ch).group g).code = 2 :=
    t.demandMask_group ch mask true 0x03 (P := fun x => x.code = 2) (fun _ _ _ => ChGroup.demand_sto_code) hg hmask
  have hp : (s.demandBoth mask true).chan .p = (s.demandMask .p mask true 0x03).chan .p :=
    State.demandMask_chan_ne _ .h mask true 0x03 (by decide)
  exact ⟨(congrArg (fun c => (Channel.group c g).code) hp).trans (hstop s .p), hstop _ .h⟩

/-- The groups of a SAF_DEMAND are in demand, and its reply waits for the seal. -/
def State.takeDemand (s : State) (c : CmdCtx) (mask : Nat) (sto : Bool) : State :=
  let d := s.demandBoth mask sto
  { d with saf := { d.saf with demandWait := d.saf.demandWait ++ [c] } }

section HostCommands

variable {s : State} {c : CmdCtx} {mask : BitVec 32} {kind : BitVec 8} {sect : List Byte}

theorem exec_safDemand_taken (hacts : Acts s c 0x0801 2) (hkind : kind.toNat < 2) :
    Leaves (.safDemand c mask kind) s ((s.takeUp c).takeDemand c mask.toNat (decide (kind = 0))) :=
  exec_host_takes (exec_safDemand c mask kind s) hacts rfl (if_neg (Nat.not_le.mpr hkind))

theorem exec_safDemand_badValue (hacts : Acts s c 0x0801 2) (hkind : 2 ≤ kind.toNat) :
    Replies (.safDemand c mask kind) s c 0x0801 0x0105 [] (s.takeUp c) :=
  exec_host_takes (exec_safDemand c mask kind s) hacts rfl (if_pos hkind)

/-! SAF_ACK (R310, R311). -/

/-- The groups of a mask, in order. -/
def maskGroups (mask : Nat) : List Nat := (List.range 32).filter (fun g => nbit mask g)

theorem mem_maskGroups {mask g : Nat} : g ∈ maskGroups mask ↔ g < 32 ∧ nbit mask g = true := by
  rw [maskGroups, List.mem_filter, List.mem_range]

/-- A group is in STO in both channels. -/
def State.InSto (s : State) (g : Nat) : Prop := (s.saf.p.group g).code = 2 ∧ (s.saf.h.group g).code = 2

/-- A demand for a group stands in a channel, or landed in this cycle. -/
def State.Demanded (s : State) (g : Nat) : Prop := s.demandActive .p g = true ∨ s.demandActive .h g = true
  ∨ (s.saf.p.group g).lastDemand = some s.cyc.cycle ∨ (s.saf.h.group g).lastDemand = some s.cyc.cycle

/-- Both channels take a group back to NORMAL. -/
def State.resetGroup (s : State) (g : Nat) : State :=
  State.groupChanged s ((s.setChan .p (s.saf.p.resetGroup g)).setChan .h (s.saf.h.resetGroup g)) g

/-- The groups of a mask are NORMAL again, the edge is consumed, and the moves that a stop held return (R261, R311). -/
def State.acknowledged (s : State) (mask : Nat) : State :=
  let t := (maskGroups mask).foldl State.resetGroup s
  State.returnMoves { t with saf := { t.saf with p := { t.saf.p with ackUsed := true }, h := { t.saf.h with ackUsed := true } } } mask

/-- What SAF_ACK answers. -/
def State.ackAnswer (s : State) (mask : Nat) : Ans :=
  if (maskGroups mask).any (fun g => decide ((s.saf.p.group g).code ≠ 2) || decide ((s.saf.h.group g).code ≠ 2)) then .refuse 0x0507 []
  else if (maskGroups mask).any (fun g => s.demandActive .p g || s.demandActive .h g
    || decide ((s.saf.p.group g).lastDemand = some s.cyc.cycle) || decide ((s.saf.h.group g).lastDemand = some s.cyc.cycle)) then
    .refuse 0x0503 []
  else if !s.ackEdgeOk then .refuse 0x0502 []
  else .ok (s.acknowledged mask) 0 []

theorem exec_safAck_eq (c : CmdCtx) (mask : BitVec 32) (s : State) : exec (.safAck c mask) s
    = s.host_ c { op := 0x0802, need := roleOperate, params := be 4 mask.toNat } true (fun t => t.ackAnswer mask.toNat) := rfl

theorem exec_safAck_acts {a : Ans} (hacts : Acts s c 0x0802 2) (ha : (s.takeUp c).ackAnswer mask.toNat = a) :
    exec (.safAck c mask) s = .next (a.result (s.takeUp c) c 0x0802) :=
  (exec_host_takes (exec_safAck_eq c mask s) hacts rfl ha :)

theorem State.anyNotSto_iff (mask : Nat) :
    ((maskGroups mask).any (fun g => decide ((s.saf.p.group g).code ≠ 2) || decide ((s.saf.h.group g).code ≠ 2))) = true
      ↔ ¬ ∀ g, g < 32 ∧ nbit mask g = true → s.InSto g := by
  simp only [List.any_eq_true, mem_maskGroups, Bool.or_eq_true, decide_eq_true_eq, State.InSto, not_forall, not_and_or, exists_prop]

theorem State.anyDemanded_iff (mask : Nat) :
    ((maskGroups mask).any (fun g => s.demandActive .p g || s.demandActive .h g
      || decide ((s.saf.p.group g).lastDemand = some s.cyc.cycle) || decide ((s.saf.h.group g).lastDemand = some s.cyc.cycle))) = true
      ↔ ∃ g, (g < 32 ∧ nbit mask g = true) ∧ s.Demanded g := by
  simp only [List.any_eq_true, mem_maskGroups, Bool.or_eq_true, decide_eq_true_eq, State.Demanded, or_assoc]

section Answers

variable {t : State} {m : Nat}

theorem State.ackAnswer_notSto (hsto : ¬ ∀ g, g < 32 ∧ nbit m g = true → t.InSto g) : t.ackAnswer m = .refuse 0x0507 [] :=
  if_pos ((State.anyNotSto_iff m).mpr hsto)

theorem State.ackAnswer_demanded (hsto : ∀ g, g < 32 ∧ nbit m g = true → t.InSto g)
    (hdemand : ∃ g, (g < 32 ∧ nbit m g = true) ∧ t.Demanded g) : t.ackAnswer m = .refuse 0x0503 [] := by
  rw [State.ackAnswer, if_neg (fun h => (State.anyNotSto_iff m).mp h hsto), if_pos ((State.anyDemanded_iff m).mpr hdemand)]

theorem State.ackAnswer_edge (hsto : ∀ g, g < 32 ∧ nbit m g = true → t.InSto g)
    (hdemand : ¬ ∃ g, (g < 32 ∧ nbit m g = true) ∧ t.Demanded g) :
    t.ackAnswer m = if !t.ackEdgeOk then .refuse 0x0502 [] else .ok (t.acknowledged m) 0 [] := by
  rw [State.ackAnswer, if_neg (fun h => (State.anyNotSto_iff m).mp h hsto), if_neg (fun h => hdemand ((State.anyDemanded_iff m).mp h))]

end Answers

/-! SAF_PARAM_LOAD (R313). -/

/-- An axis that is not DISABLED lies in a group that the section touches. -/
def State.sectionTouches (s : State) (sect : List Byte) : Prop :=
  ∃ a < 256, nbit (s.touchedMask sect) (s.parN 0x08200001 a) = true ∧ s.axState a ≠ .disabled

/-- A section waits for its edge. -/
def State.keepSection (s : State) (sect : List Byte) : State :=
  { s with saf := { s.saf with pendingSec := some { items := sectionValues sect, since := s.now, raw := sect } } }

/-- What SAF_PARAM_LOAD answers. -/
def State.loadAnswer (s : State) (sect : List Byte) : Ans :=
  if s.saf.pendingSec.isSome then .refuse 0x0303 []
  else if (List.range 256).any (fun a => nbit (s.touchedMask sect) (s.parN 0x08200001 a) && decide (s.axState a ≠ .disabled)) then
    .refuse 0x0506 []
  else .ok (s.keepSection sect) 1 (be 4 (sectionCrc sect) ++ be 4 (sectionCrc sect))

theorem exec_safParamLoad_eq (c : CmdCtx) (sect : List Byte) (s : State) : exec (.safParamLoad c sect) s
    = s.host_ c { op := 0x0803, need := roleSafety, params := sect } (decide (sect.length % 16 = 4)) (fun t => t.loadAnswer sect) := rfl

theorem exec_safParamLoad_acts {a : Ans} (hacts : Acts s c 0x0803 4) (hlen : sect.length % 16 = 4) (ha : (s.takeUp c).loadAnswer sect = a) :
    exec (.safParamLoad c sect) s = .next (a.result (s.takeUp c) c 0x0803) :=
  (exec_host_takes (exec_safParamLoad_eq c sect s) hacts (decide_eq_true hlen) ha :)

theorem State.sectionTouches_iff : ((List.range 256).any (fun a => nbit (s.touchedMask sect) (s.parN 0x08200001 a)
    && decide (s.axState a ≠ .disabled))) = true ↔ s.sectionTouches sect := by
  simp only [List.any_eq_true, List.mem_range, Bool.and_eq_true, decide_eq_true_eq, State.sectionTouches]

section Answers

variable {t : State}

theorem State.loadAnswer_busy (hpend : t.saf.pendingSec ≠ none) : t.loadAnswer sect = .refuse 0x0303 [] :=
  if_pos (Option.isSome_iff_ne_none.mpr hpend)

theorem State.loadAnswer_touched (hpend : t.saf.pendingSec = none) (htouch : t.sectionTouches sect) :
    t.loadAnswer sect = .refuse 0x0506 [] := by
  rw [State.loadAnswer, hpend, if_neg (by simp), if_pos (State.sectionTouches_iff.mpr htouch)]

theorem State.loadAnswer_kept (hpend : t.saf.pendingSec = none) (htouch : ¬ t.sectionTouches sect) :
    t.loadAnswer sect = .ok (t.keepSection sect) 1 (be 4 (sectionCrc sect) ++ be 4 (sectionCrc sect)) := by
  rw [State.loadAnswer, hpend, if_neg (by simp), if_neg (fun h => htouch (State.sectionTouches_iff.mp h))]

end Answers

theorem State.now_takeUp (s : State) (c : CmdCtx) : (s.takeUp c).now = s.now := by
  rw [State.takeUp_rest]
  rfl

end HostCommands

/-! What an acknowledge leaves (R311). -/

section Acknowledge

variable (s : State) (g : Nat)

theorem State.resetGroup_chans : (s.resetGroup g).saf.p = s.saf.p.resetGroup g ∧ (s.resetGroup g).saf.h = s.saf.h.resetGroup g :=
  ⟨State.groupChanged_chan s _ g .p, State.groupChanged_chan s _ g .h⟩

theorem Channel.resetGroup_code (x : Channel) (h : Nat) : ((x.resetGroup g).group h).code = if h = g then 0 else (x.group h).code := by
  by_cases hh : h = g
  · subst hh
    simp [Channel.resetGroup]
  · simp [Channel.resetGroup, hh]

/-- Every group of the mask is NORMAL in both channels, whose edges are consumed. -/
theorem State.acknowledged_saf {mask : Nat} : ((s.acknowledged mask).saf.p.ackUsed = true ∧ (s.acknowledged mask).saf.h.ackUsed = true)
    ∧ ∀ g, g < 32 ∧ nbit mask g = true → ((s.acknowledged mask).saf.p.group g).code = 0 ∧ ((s.acknowledged mask).saf.h.group g).code = 0 := by
  simp only [State.acknowledged, State.returnMoves_frame]
  refine ⟨⟨trivial, trivial⟩, fun g hg => ?_⟩
  change (((maskGroups mask).foldl State.resetGroup s).saf.p.group g).code = 0 ∧ (((maskGroups mask).foldl State.resetGroup s).saf.h.group g).code = 0
  refine foldl_reaches (I := fun _ => True) (P := fun t : State => (t.saf.p.group g).code = 0 ∧ (t.saf.h.group g).code = 0)
    (mem_maskGroups.mpr hg) (fun _ _ _ => trivial) (fun t y ht => ?_) (fun t _ => ?_) trivial
  · rw [(t.resetGroup_chans y).1, (t.resetGroup_chans y).2, Channel.resetGroup_code, Channel.resetGroup_code, ht.1, ht.2, ite_self]
    exact ⟨rfl, rfl⟩
  · rw [(t.resetGroup_chans g).1, (t.resetGroup_chans g).2, Channel.resetGroup_code, Channel.resetGroup_code, if_pos rfl, if_pos rfl]
    exact ⟨rfl, rfl⟩

end Acknowledge

/-! The section that waits (R313). -/

section Pending

variable {s : State} {p : PendingSection}

/-- No section waits any more. -/
def State.dropSection (s : State) : State := { s with saf := { s.saf with pendingSec := none } }

theorem exec_safParam_none (h : s.saf.pendingSec = none) : Leaves .safParamActivate s s ∧ Leaves .safParamDiscard s s := by
  simp only [Leaves, exec_safParamActivate, exec_safParamDiscard, execSafParamActivate, execSafParamDiscard, h, and_self]

theorem exec_safParamActivate_waits (h : s.saf.pendingSec = some p)
    (hedge : ¬ (s.edgeSince p.since = true ∧ s.now ≤ p.since + 60000000000)) : Leaves .safParamActivate s s := by
  rw [← decide_eq_true_iff (p := s.now ≤ _), ← Bool.and_eq_true] at hedge
  simp only [Leaves, exec_safParamActivate, execSafParamActivate, h, if_neg hedge]

theorem exec_safParamActivate_edge (h : s.saf.pendingSec = some p) (hedge : s.edgeSince p.since = true)
    (htime : s.now ≤ p.since + 60000000000) : Leaves .safParamActivate s
      (((s.dropSection.applySection p.raw).queueConfig s).raise 0x0802 0 0 ([0] ++ be 4 (sectionCrc p.raw))) := by
  simp only [Leaves, exec_safParamActivate, execSafParamActivate, h, hedge, decide_eq_true htime, Bool.and_self, if_true]
  rfl

theorem exec_safParamDiscard_late (h : s.saf.pendingSec = some p) (hlate : p.since + 60000000000 < s.now) :
    Leaves .safParamDiscard s (s.dropSection.raise 0x0802 0 0 ([1] ++ be 4 (sectionCrc p.raw))) := by
  simp only [Leaves, exec_safParamDiscard, execSafParamDiscard, h]
  exact whenB_of_true (decide_eq_true hlate) _ _

theorem exec_safParamDiscard_waits (h : s.saf.pendingSec = some p) (htime : s.now ≤ p.since + 60000000000) :
    Leaves .safParamDiscard s s := by
  simp only [Leaves, exec_safParamDiscard, execSafParamDiscard, h]
  exact whenB_of_false (decide_eq_false (Int.not_lt.mpr htime)) _ _

end Pending

/-- Settles O50: each command by what its body answers, and the section that waits by its edge and its 60 s. -/
theorem safetyCommands : Obligations.SafetyCommands := by
  unfold Obligations.SafetyCommands
  intro s c mask kind sect p t sto d named allSto demanded ack touched load crc edge none_
  refine ⟨exec_safDemand_taken, ?stops, exec_safDemand_badValue, ?notSto, ?demanded, ?noEdge, ?acknowledged, ?busy, ?touched, ?kept,
    exec_safParam_none, exec_safParamActivate_waits, fun h hedge => exec_safParamActivate_edge h hedge.1 hedge.2,
    exec_safParamDiscard_late, exec_safParamDiscard_waits⟩
  case stops =>
    rintro hacts rfl
    exact ⟨_, exec_safDemand_taken hacts (by decide), fun g hg => t.demandBoth_sto hg.1 hg.2⟩
  case notSto => exact fun hsto hacts => exec_safAck_acts hacts (State.ackAnswer_notSto hsto)
  case demanded =>
    exact fun hsto ⟨g, hg, hdemand⟩ hacts => exec_safAck_acts hacts (State.ackAnswer_demanded hsto ⟨g, hg, hdemand⟩)
  case noEdge =>
    intro hsto hdemand hno hacts
    exact exec_safAck_acts hacts ((State.ackAnswer_edge hsto hdemand).trans (if_pos (by rw [hno]; rfl)))
  case acknowledged =>
    intro hacts hsto hdemand hedge
    exact ⟨t.acknowledged mask.toNat,
      exec_safAck_acts hacts ((State.ackAnswer_edge hsto hdemand).trans (if_neg (by rw [hedge]; exact Bool.false_ne_true))),
      t.acknowledged_saf⟩
  case busy => exact fun hpend hacts hlen => exec_safParamLoad_acts hacts hlen (State.loadAnswer_busy hpend)
  case touched => exact fun hpend htouch hacts hlen => exec_safParamLoad_acts hacts hlen (State.loadAnswer_touched hpend htouch)
  case kept =>
    intro hpend htouch hacts hlen
    rw [← s.now_takeUp c]
    exact exec_safParamLoad_acts hacts hlen (State.loadAnswer_kept hpend htouch)

end Sys2Proof.Machine
end

section
/-! The schedules of the segments, which no judgement and no break of the ring changes, and an uplink in its slot (R101, R107, R110). -/

namespace Sys2Proof.Machine

open Sys2Proof.Claims

theorem State.sched_of_segs {s t : State} (h : t.segs = s.segs) : t.sched = s.sched := by
  funext n
  simp only [State.sched, State.seg, h]

theorem State.modSeg_sched (s : State) (n : Nat) {f : Segment → Segment} (hf : ∀ g, (f g).sched = g.sched) :
    (s.modSeg n f).sched = s.sched := by
  funext m
  by_cases h : m = n
  · subst h
    simp [State.sched, hf]
  · simp [State.sched, h]

theorem State.sched_ite (p : Prop) [Decidable p] (s t : State) : (if p then s else t).sched = if p then s.sched else t.sched :=
  apply_ite State.sched p s t

theorem State.ite_sched {p : Prop} [Decidable p] {s t u : State} (hs : s.sched = u.sched) (ht : t.sched = u.sched) :
    (if p then s else t).sched = u.sched := by
  rw [State.sched_ite, hs, ht, ite_self]

/-! Breaks (R107, R110, R114). -/

theorem State.breakEvent_sched (s : State) (n a b : Nat) (second : Bool) : (s.breakEvent n a b second).sched = s.sched :=
  State.sched_of_segs (by simp)

theorem State.markFoldLate_sched (s : State) : s.markFoldLate.sched = s.sched := State.sched_of_segs (by simp only [State.markFoldLate_frame])

theorem State.queueSupB_sched (s : State) (n : Nat) (pl : List Byte) : (s.queueSupB n pl).sched = s.sched := s.modSeg_sched n (fun _ => rfl)

theorem State.foldAt_sched (s : State) (n a b : Nat) : (s.foldAt n a b).sched = s.sched := by
  unfold State.foldAt
  refine State.ite_sched ?_ ?_
  · exact (State.breakEvent_sched _ _ _ _ _).trans (s.modSeg_sched n (fun _ => rfl))
  · refine (State.markFoldLate_sched _).trans ((State.breakEvent_sched _ _ _ _ _).trans ?_)
    refine (State.queueSupB_sched _ _ _).trans (s.modSeg_sched n (fun _ => ?_))
    rfl

theorem State.breakAt_sched (s : State) (n a b : Nat) : (s.breakAt n a b).sched = s.sched := by
  refine State.ite_sched (s.foldAt_sched n a b) (State.ite_sched rfl (State.ite_sched rfl ?_))
  exact (State.breakEvent_sched _ _ _ _ _).trans (s.modSeg_sched n (fun _ => rfl))

theorem State.markBroken_sched (s : State) (n : Nat) : (s.markBroken n).sched = s.sched :=
  State.ite_sched (s.modSeg_sched n (fun _ => rfl)) rfl

theorem State.portBreak_sched (s : State) (p : Nat) : (s.portBreak p).sched = s.sched := by
  have hbreak (a b : Nat) : ((s.markBroken (p / 2)).breakAt (p / 2) a b).sched = s.sched :=
    (State.breakAt_sched _ _ a b).trans (s.markBroken_sched _)
  exact State.ite_sched rfl
    (State.ite_sched (State.ite_sched (hbreak _ _) (hbreak _ _)) (State.ite_sched (hbreak _ _) (hbreak _ _)))

theorem State.locate_sched (s : State) (n : Nat) : (s.locate n).sched = s.sched :=
  State.ite_sched rfl (State.ite_sched (s.portBreak_sched _) (State.ite_sched (s.portBreak_sched _) rfl))

theorem State.noteLoop_sched (s : State) (f : RxFrame) : (s.noteLoop f).sched = s.sched := by
  unfold State.noteLoop
  dsimp only
  split
  · exact State.ite_sched ((State.locate_sched _ _).trans (s.markBroken_sched _)) rfl
  · rfl

/-! The counts of a verdict (R62, R105). -/

theorem State.modPort_sched (s : State) (p : Nat) (f : RingPort → RingPort) : (s.modPort p f).sched = s.sched :=
  State.sched_of_segs (by simp)

theorem State.modNode_sched (s : State) (n i : Nat) (f : NodeSt → NodeSt) : (s.modNode n i f).sched = s.sched :=
  s.modSeg_sched n (fun _ => rfl)

theorem State.edgeViolation_sched (s : State) (n : Nat) (r : SlotRec) : (s.edgeViolation n r).sched = s.sched := by
  refine (State.modSeg_sched _ n (fun _ => ?_)).trans (s.modNode_sched _ _ _)
  rfl

theorem State.countRx_sched (s : State) (p : Nat) (x : Rx) : (s.countRx p x).sched = s.sched := by
  cases x with
  | off => rfl
  | _ => exact s.modPort_sched p _

theorem State.seeLoop_sched (s : State) (f : RxFrame) : (s.seeLoop f).sched = s.sched := by
  unfold State.seeLoop
  split
  · exact State.ite_sched (s.modPort_sched _ _) rfl
  · rfl

theorem State.countVerdict_sched (s : State) (f : RxFrame) (v : Verdict) : (s.countVerdict f v).sched = s.sched := by
  refine Eq.trans ?_ (s.seeLoop_sched f)
  cases v with
  | bad x => exact State.countRx_sched _ _ x
  | discard => exact State.modPort_sched _ _ _
  | ownerAbort r => exact (State.edgeViolation_sched _ _ r).trans (State.modPort_sched _ _ _)
  | edge r => exact (State.edgeViolation_sched _ _ r).trans (State.modPort_sched _ _ _)
  | own => exact State.countRx_sched _ _ _
  | ok h pl r k d =>
    refine (State.modSeg_sched _ _ (fun _ => ?_)).trans ((State.modNode_sched _ _ _ _).trans (State.countRx_sched _ _ _))
    rfl

theorem State.storeImage_sched (s : State) (n : Nat) (r : SlotRec) (k : Int) (age : Nat) (pl : List Byte) :
    (s.storeImage n r k age pl).sched = s.sched := by
  refine s.modSeg_sched n (fun g => ?_)
  dsimp only
  split_ifs <;> rfl

/-- A frame that the head has judged, counted and stored leaves the safety state, the cycle and the schedules of the relay. -/
theorem State.heardSlot_facts (s : State) (f : RxFrame) (v : Verdict) : (s.heardSlot f v).saf = s.saf ∧ (s.heardSlot f v).cyc = s.cyc
    ∧ (s.heardSlot f v).sched = (s.relay f).sched :=
  ⟨by simp [State.heardSlot], by simp [State.heardSlot], (State.noteLoop_sched _ f).trans (State.countVerdict_sched _ f v)⟩

/-! A frame that a port takes whole (R54, R55). -/

theorem State.rx_ok {s : State} {f : RxFrame} {h : Hdr} {pl : List Byte} (hrx : s.rx f = .ok h pl) :
    h = parseHdr f.bytes ∧ hdrOk (f.port.val / 2) h f.bytes.length (byteAt f.bytes 12).toNat = true := by
  unfold State.rx rxClass at hrx
  dsimp only at hrx
  split_ifs at hrx with _ _ _ _ hok
  cases hrx
  exact ⟨rfl, hok⟩

end Sys2Proof.Machine
end

section
/-! SAF frames: the tap, the uplinks in both channels, and the island's report (R293 to R295, R308). -/

namespace Sys2Proof.Machine

open Sys2Proof.Claims

theorem exec_safTapReceive (f : RxFrame) (s : State) : exec (.safTapReceive f) s = execSafTapReceive f s := rfl
theorem exec_safUplinkReceive (f : RxFrame) (s : State) : exec (.safUplinkReceive f) s = execSafUplinkReceive f s := rfl
theorem exec_islandSeqReport (s : State) : exec .islandSeqReport s = execIslandSeqReport s := rfl

/-! What a channel keeps of an axis's uplinks (R308). -/

/-- The run of invalid uplinks, the cycle of the last valid one, and its count with its cycle. -/
def AxMon.uplinks (m : AxMon) : Nat × Nat × Option (Nat × Nat) := (m.invalidRun, m.lastArrival, m.lastCount)

theorem AxMon.uplinks_eq_iff {m : AxMon} {run arrival : Nat} {count : Option (Nat × Nat)} :
    m.uplinks = (run, arrival, count) ↔ m.invalidRun = run ∧ m.lastArrival = arrival ∧ m.lastCount = count := by
  simp [AxMon.uplinks]

/-- What a channel keeps of the uplinks of every axis. -/
def Channel.uplinks (c : Channel) (a : Nat) : Nat × Nat × Option (Nat × Nat) := (c.mon a).uplinks

theorem Channel.uplinks_setMon (c : Channel) (b : Nat) {m : AxMon} (hm : m.uplinks = c.uplinks b) : (c.setMon b m).uplinks = c.uplinks := by
  funext a
  by_cases h : a = b
  · subst h
    exact (congrArg AxMon.uplinks (c.setMon_self a m)).trans hm
  · exact congrArg AxMon.uplinks (c.setMon_ne b m a h)

theorem Channel.restartRuns_uplinks (c : Channel) (axes : List Nat) : (c.restartRuns axes).uplinks = c.uplinks :=
  foldl_reading Channel.uplinks (f := fun c b => c.setMon b { c.mon b with belowRun := 0, belowSince := none, confirmed := false })
    (fun c b => c.uplinks_setMon b rfl) axes c

theorem State.demand_uplinks (s : State) (ch : Chan) (g : Nat) (sto : Bool) (cause : Nat) :
    ((s.demand ch g sto cause).chan ch).uplinks = (s.chan ch).uplinks := by
  rw [State.demand_chan]
  change (if _ then _ else _ : Channel).uplinks = _
  split_ifs
  · exact Channel.restartRuns_uplinks _ _
  · rfl

theorem State.flagGroup_chan (s : State) (a : Nat) (f : GrpFlags → GrpFlags) (ch : Chan) : (s.flagGroup a f).chan ch = s.chan ch := by
  cases ch <;> rfl

/-! What a channel does with an uplink leaves the other channel, and beside the uplink's own entries what it keeps of the uplinks. -/

section Channels

variable (s : State) (ch : Chan)

/-- The node's watchdog mark of one axis. -/
def State.markWd (on : Bool) (s : State) (a : Nat) : State :=
  let s1 := s.setChan ch ((s.chan ch).setMon a { (s.chan ch).mon a with wd := on })
  if on then (s1.flagGroup a (fun f => { f with wdNode := true })).demand ch (s.parN 0x08200001 a) true 0x08 else s1

theorem State.markWd_chan_ne {other : Chan} (h : other ≠ ch) (on : Bool) (a : Nat) : (State.markWd ch on s a).chan other = s.chan other := by
  unfold State.markWd
  dsimp only
  split_ifs
  · exact (State.demand_chan_ne _ ch _ _ _ h).trans ((State.flagGroup_chan _ _ _ _).trans (s.chan_setChan_ne h _))
  · exact s.chan_setChan_ne h _

theorem State.markWd_uplinks (on : Bool) (a : Nat) : ((State.markWd ch on s a).chan ch).uplinks = (s.chan ch).uplinks := by
  have hset : ((s.setChan ch ((s.chan ch).setMon a { (s.chan ch).mon a with wd := on })).chan ch).uplinks = (s.chan ch).uplinks := by
    rw [State.chan_setChan]
    exact Channel.uplinks_setMon _ a rfl
  unfold State.markWd
  dsimp only
  split_ifs
  · rw [State.demand_uplinks, State.flagGroup_chan]
    exact hset
  · exact hset

theorem State.wdTripped_chan_ne {other : Chan} (h : other ≠ ch) (n node : Nat) (on : Bool) :
    (s.wdTripped ch n node on).chan other = s.chan other :=
  foldl_reading (State.chan · other) (fun t a => t.markWd_chan_ne ch h on a) _ s

theorem State.wdTripped_uplinks (n node : Nat) (on : Bool) : ((s.wdTripped ch n node on).chan ch).uplinks = (s.chan ch).uplinks :=
  foldl_reading (fun t : State => (t.chan ch).uplinks) (fun t a => t.markWd_uplinks ch on a) _ s

theorem State.trackDiscrepancy_chan_ne {other : Chan} (h : other ≠ .p) (a : Nat) : (s.trackDiscrepancy a).chan other = s.chan other :=
  s.chan_setChan_ne h _

theorem State.trackDiscrepancy_uplinks (a : Nat) : ((s.trackDiscrepancy a).chan .p).uplinks = (s.chan .p).uplinks :=
  Channel.uplinks_setMon s.saf.p a rfl

/-- An estimate writes the monitor of its axis, and where the speed breaks the envelope it demands STO (R305). -/
theorem State.estimate_cases (a : Nat) (v : Int) : ∃ m : AxMon, m.uplinks = (s.chan ch).uplinks a
    ∧ (s.estimate ch a v = s.setChan ch ((s.chan ch).setMon a m) ∨ s.estimate ch a v =
      ((s.setChan ch ((s.chan ch).setMon a m)).flagGroup a (fun f => { f with envBreak := true })).demand ch (s.parN 0x08200001 a) true 0x04) := by
  generalize hu : s.estimate ch a v = u
  unfold State.estimate at hu
  extract_lets g c m below now tc run since conf s1 x at hu
  refine ⟨{ m with v := v, seen := true, belowRun := run, belowSince := since, confirmed := conf }, rfl, ?_⟩
  split at hu
  · exact .inl hu.symm
  · split at hu
    · exact .inr hu.symm
    · exact .inl hu.symm

theorem State.estimate_chan_ne {other : Chan} (h : other ≠ ch) (a : Nat) (v : Int) : (s.estimate ch a v).chan other = s.chan other := by
  obtain ⟨m, -, heq | heq⟩ := s.estimate_cases ch a v
  · rw [heq]
    exact s.chan_setChan_ne h _
  · rw [heq, State.demand_chan_ne _ ch _ _ _ h, State.flagGroup_chan]
    exact s.chan_setChan_ne h _

theorem State.estimate_uplinks (a : Nat) (v : Int) : ((s.estimate ch a v).chan ch).uplinks = (s.chan ch).uplinks := by
  obtain ⟨m, hm, heq | heq⟩ := s.estimate_cases ch a v
  · rw [heq, State.chan_setChan]
    exact Channel.uplinks_setMon _ a hm
  · rw [heq, State.demand_uplinks, State.flagGroup_chan, State.chan_setChan]
    exact Channel.uplinks_setMon _ a hm

end Channels

/-! An uplink that a channel accepts, and one that it does not. -/

section Uplink

variable (s : State) (ch : Chan) (n : Nat) (r : SlotRec) (k : Int) (pl : List Byte)

/-- What a channel keeps of a valid uplink: no invalid run, its cycle, its count. -/
def State.validUplink : Nat × Nat × Option (Nat × Nat) := (0, s.cyc.cycle, some (field pl 4 6, k.toNat))

/-- A valid uplink is written to its axis's monitor, and what follows of it leaves what the channel keeps of the uplinks. -/
theorem State.upValid_cases : ∃ (c : Channel) (t : State), c.uplinks r.axis = s.validUplink k pl ∧ t = (s.setChan ch c).wdTripped ch n r.node
      (nbit (byteAt pl 1).toNat 6)
    ∧ (s.upValid ch n r k pl = t ∨ (ch = .p ∧ s.upValid ch n r k pl = t.trackDiscrepancy r.axis)
      ∨ ∃ v, s.upValid ch n r k pl = t.estimate ch r.axis v) := by
  generalize hu : s.upValid ch n r k pl = u
  unfold State.upValid at hu
  extract_lets a key c src c1 m count vh c2 s1 at hu
  clear_value vh
  refine ⟨c2, s1, congrArg AxMon.uplinks (c1.setMon_self a _), rfl, ?_⟩
  split at hu
  · split at hu
    · exact .inr (.inl ⟨rfl, hu.symm⟩)
    · exact .inr (.inr ⟨_, hu.symm⟩)
    · exact .inl hu.symm
  · exact .inl hu.symm

theorem State.upValid_uplinks : ((s.upValid ch n r k pl).chan ch).uplinks r.axis = s.validUplink k pl := by
  obtain ⟨c, t, hc, ht, heq⟩ := s.upValid_cases ch n r k pl
  have hkept : (t.chan ch).uplinks = c.uplinks := by rw [ht, State.wdTripped_uplinks, State.chan_setChan]
  rw [← hc, ← hkept]
  obtain heq | ⟨rfl, heq⟩ | ⟨v, heq⟩ := heq
  · rw [heq]
  · rw [heq, State.trackDiscrepancy_uplinks]
  · rw [heq, State.estimate_uplinks]

theorem State.upValid_chan_ne {other : Chan} (h : other ≠ ch) : (s.upValid ch n r k pl).chan other = s.chan other := by
  obtain ⟨c, t, -, ht, heq⟩ := s.upValid_cases ch n r k pl
  have hkept : t.chan other = s.chan other := by rw [ht, State.wdTripped_chan_ne _ ch h, State.chan_setChan_ne _ h]
  rw [← hkept]
  obtain heq | ⟨rfl, heq⟩ | ⟨v, heq⟩ := heq
  · rw [heq]
  · rw [heq, State.trackDiscrepancy_chan_ne _ h]
  · rw [heq, State.estimate_chan_ne _ ch h]

theorem State.upInvalid_run (a : Nat) : (((s.upInvalid ch a).chan ch).mon a).invalidRun = ((s.chan ch).mon a).invalidRun + 1 := by
  rw [State.upInvalid, State.chan_setChan, Channel.setMon_self]

/-- A channel's judgement rests on what it keeps itself, and on the schedules. -/
theorem State.judgeUplink_congr {s t : State} (hchan : t.chan ch = s.chan ch) (hsched : t.sched = s.sched) :
    t.judgeUplink ch n r k pl = s.judgeUplink ch n r k pl := by
  have hkey : t.seqKey n r.node r.axis = s.seqKey n r.node r.axis := by rw [State.seqKey, State.seqKey, hsched]
  have howned : t.ownedBetween n r.node = s.ownedBetween n r.node := by
    funext k0 s0 k1 s1
    rw [State.ownedBetween, State.ownedBetween, hsched]
  rw [State.judgeUplink, State.judgeUplink, hchan, hkey, howned]

/-- A CRC_N that does not fit is so in both channels. -/
theorem State.judgeUplink_crc_iff : s.judgeUplink ch n r k pl = .crc ↔ field pl 12 4 ≠ crc32c (pl.take 12) := by
  unfold State.judgeUplink
  split_ifs with hcrc
  · exact iff_of_true rfl hcrc
  · exact iff_of_false nofun hcrc
  · refine iff_of_false (fun h => ?_) hcrc
    dsimp only at h
    split at h
    · cases h
    · split at h <;> cases h

/-- Channel P takes the content of an uplink. -/
def State.uplinkP : State :=
  match s.judgeUplink .p n r k pl with
  | .valid =>
    let gap := match (s.saf.p.mon (s.seqKey n r.node r.axis)).lastSeq with
      | none => false
      | some q => decide (field pl 10 2 ≠ (q + 1) % 65536)
    let t := s.upValid .p n r k pl
    if gap then { t with saf := { t.saf with upSeq := inc32 t.saf.upSeq } } else t
  | .crc => ({ s with saf := { s.saf with upCrc := inc32 s.saf.upCrc } } : State).upInvalid .p r.axis
  | .seq => ({ s with saf := { s.saf with upSeq := inc32 s.saf.upSeq } } : State).upInvalid .p r.axis
  | .axis => s.upInvalid .p r.axis

/-- Channel H takes the content of an uplink. -/
def State.uplinkH : State :=
  match s.judgeUplink .h n r k pl with
  | .valid => s.upValid .h n r k pl
  | _ => s.upInvalid .h r.axis

theorem State.uplinkP_valid (h : s.judgeUplink .p n r k pl = .valid) : (s.uplinkP n r k pl).chan .p = (s.upValid .p n r k pl).chan .p
    ∧ (s.uplinkP n r k pl).chan .h = s.chan .h ∧ (s.uplinkP n r k pl).sched = s.sched ∧ (s.uplinkP n r k pl).cyc = s.cyc := by
  have hh : (s.upValid .p n r k pl).chan .h = s.chan .h := s.upValid_chan_ne .p n r k pl (by decide)
  have hsched : (s.upValid .p n r k pl).sched = s.sched := State.sched_of_segs (by simp)
  have hcyc : (s.upValid .p n r k pl).cyc = s.cyc := by simp
  unfold State.uplinkP
  rw [h]
  dsimp only
  generalize (match (s.saf.p.mon (s.seqKey n r.node r.axis)).lastSeq with
      | none => false
      | some q => decide (field pl 10 2 ≠ (q + 1) % 65536)) = gap
  cases gap
  · exact ⟨rfl, hh, hsched, hcyc⟩
  · exact ⟨rfl, hh, hsched, hcyc⟩

end Uplink

/-! SAF_UPLINK_RECEIVE (R308). -/

/-- The owner of the slot that a frame's header names. -/
def State.slotOwner (s : State) (f : RxFrame) : Option SlotRec :=
  schedOwner (s.sched (f.port.val / 2)) (parseHdr f.bytes).slotN (s.rebuildCycle (parseHdr f.bytes).cyc)

/-- The head has judged, counted and stored an uplink, before the channels take it. -/
def State.storedUplink (s : State) (f : RxFrame) (h : Hdr) (pl : List Byte) (r : SlotRec) (k d : Int) : State :=
  (s.heardSlot f (.ok h pl r k d)).storeImage (f.port.val / 2) r k h.age pl

section Receive

variable {s : State} {f : RxFrame} {h : Hdr} {pl : List Byte} {r : SlotRec} {k d : Int}

theorem exec_safUplinkReceive_unowned (howner : (s.relay f).slotOwner f = none) :
    Leaves (.safUplinkReceive f) s (s.heardSlot f ((s.relay f).judge f useSaf tSaf 0)) := by
  unfold State.slotOwner at howner
  simp only [Leaves, exec_safUplinkReceive, execSafUplinkReceive, howner]
  rfl

theorem exec_safUplinkReceive_other (howner : (s.relay f).slotOwner f = some r) (hother : r.use ≠ useSaf ∨ (parseHdr f.bytes).src = 0) :
    Leaves (.safUplinkReceive f) s (s.heardSlot f ((s.relay f).judge f useSaf tSaf 0)) := by
  have hcond : (decide (r.use ≠ useSaf) || decide ((parseHdr f.bytes).src = 0)) = true := by simpa using hother
  unfold State.slotOwner at howner
  simp only [Leaves, exec_safUplinkReceive, execSafUplinkReceive, howner, hcond, if_true]
  rfl

theorem exec_safUplinkReceive_unsound (howner : (s.relay f).slotOwner f = some r) (huse : r.use = useSaf) (hsrc : (parseHdr f.bytes).src ≠ 0)
    (hrx : ∀ h pl, (s.relay f).rx f ≠ .ok h pl) : Leaves (.safUplinkReceive f) s
      (((s.heardSlot f ((s.relay f).judge f useSaf tSaf 0)).upInvalid .p r.axis).upInvalid .h r.axis) := by
  have hcond : (decide (r.use ≠ useSaf) || decide ((parseHdr f.bytes).src = 0)) = false := by simp [huse, hsrc]
  unfold State.slotOwner at howner
  simp only [Leaves, exec_safUplinkReceive, execSafUplinkReceive, howner, hcond]
  have hv : ∀ h pl r k d, (s.relay f).judge f useSaf tSaf 0 ≠ .ok h pl r k d :=
    fun h pl r k d hok => hrx h pl (State.judge_accepts hok).sound
  unfold State.heardSlot
  generalize (s.relay f).judge f useSaf tSaf 0 = v at hv ⊢
  generalize (s.relay f).rx f = x at hrx ⊢
  cases x with
  | ok h pl => exact absurd rfl (hrx h pl)
  | _ =>
    cases v with
    | ok h pl r k d => exact absurd rfl (hv h pl r k d)
    | _ => rfl

/-- A frame that the head accepts goes to channel P and then to channel H, which reads the same slot and the same content. -/
theorem exec_safUplinkReceive_ok (hv : (s.relay f).judge f useSaf tSaf 0 = .ok h pl r k d) :
    Leaves (.safUplinkReceive f) s
      (((s.storedUplink f h pl r k d).uplinkP (f.port.val / 2) r k pl).uplinkH (f.port.val / 2) r k pl) := by
  obtain ⟨hrx, hcycle, howner, -, hnode, huse, hkind, -, hsrc, -⟩ := State.judge_accepts hv
  obtain ⟨hhdr, hok⟩ := State.rx_ok hrx
  have hlen : h.len = 4 := by
    have := (hdrOk_facts hok).2.1
    rw [hkind] at this
    simpa [lenOk, tSaf, hsrc] using this
  have hcond : (decide (r.use ≠ useSaf) || decide (h.src = 0)) = false := by simp [huse, hsrc]
  have htype : h.kind = tSaf ∧ h.src = r.node ∧ h.len = 4 := ⟨hkind, hnode.symm, hlen⟩
  subst hcycle
  simp only [Leaves, exec_safUplinkReceive, execSafUplinkReceive, ← hhdr, howner, hcond, hv, hrx, if_pos htype]
  rfl

variable (s f h pl r k d) in
theorem State.storedUplink_facts : (s.storedUplink f h pl r k d).saf = s.saf ∧ (s.storedUplink f h pl r k d).cyc = s.cyc
    ∧ (s.storedUplink f h pl r k d).sched = (s.relay f).sched := by
  obtain ⟨hsaf, hcyc, hsched⟩ := s.heardSlot_facts f (.ok h pl r k d)
  simp only [State.storedUplink, State.storeImage_frame, State.storeImage_sched]
  exact ⟨hsaf, hcyc, hsched⟩

theorem State.storedUplink_judge (ch : Chan) : (s.storedUplink f h pl r k d).judgeUplink ch (f.port.val / 2) r k pl
    = (s.relay f).judgeUplink ch (f.port.val / 2) r k pl := by
  obtain ⟨hsaf, -, hsched⟩ := s.storedUplink_facts f h pl r k d
  refine State.judgeUplink_congr ch _ r k pl (State.chan_congr ?_ ch) hsched
  simp only [hsaf, State.relay_frame, and_self]

/-- An uplink that is valid for both channels ends their runs, and both keep its cycle and its count. -/
theorem State.uplink_valid (hp : (s.relay f).judgeUplink .p (f.port.val / 2) r k pl = .valid)
    (hh : (s.relay f).judgeUplink .h (f.port.val / 2) r k pl = .valid) (ch : Chan) :
    ((((s.storedUplink f h pl r k d).uplinkP (f.port.val / 2) r k pl).uplinkH (f.port.val / 2) r k pl).chan ch).uplinks r.axis
      = s.validUplink k pl := by
  have hcyc := (s.storedUplink_facts f h pl r k d).2.1
  rw [← State.storedUplink_judge (h := h) (d := d)] at hp hh
  obtain ⟨hchanP, hchanH, hsched, hcycP⟩ := State.uplinkP_valid _ _ r k pl hp
  rw [← State.judgeUplink_congr .h _ r k pl hchanH hsched] at hh
  simp only [State.uplinkH, hh]
  cases ch with
  | p =>
    rw [State.upValid_chan_ne _ .h _ r k pl (by decide), hchanP, State.upValid_uplinks, State.validUplink, hcyc]
    rfl
  | h =>
    rw [State.upValid_uplinks, State.validUplink, hcycP, hcyc]
    rfl

/-- An uplink whose CRC_N fails is counted, and is invalid for both channels. -/
theorem State.uplink_crc (hp : (s.relay f).judgeUplink .p (f.port.val / 2) r k pl = .crc) :
    ((s.storedUplink f h pl r k d).uplinkP (f.port.val / 2) r k pl).uplinkH (f.port.val / 2) r k pl
      = (State.upInvalid { s.storedUplink f h pl r k d with saf := { s.saf with upCrc := inc32 s.saf.upCrc } } .p r.axis).upInvalid .h r.axis := by
  have hcrc := (State.judgeUplink_crc_iff _ _ _ _ _ _).mp hp
  have hsaf := (s.storedUplink_facts f h pl r k d).1
  rw [← State.storedUplink_judge (h := h) (d := d)] at hp
  simp only [State.uplinkP, State.uplinkH, hp, (State.judgeUplink_crc_iff _ .h _ _ _ _).mpr hcrc, hsaf]

/-- An uplink that neither channel accepts is one more in the run of each, and counts nothing else. -/
theorem State.upInvalid_both (s : State) (a : Nat) : ((s.upInvalid .p a).upInvalid .h a).saf.upCrc = s.saf.upCrc
    ∧ (((s.upInvalid .p a).upInvalid .h a).saf.p.mon a).invalidRun = (s.saf.p.mon a).invalidRun + 1
    ∧ (((s.upInvalid .p a).upInvalid .h a).saf.h.mon a).invalidRun = (s.saf.h.mon a).invalidRun + 1 :=
  ⟨rfl, s.upInvalid_run .p a, (s.upInvalid .p a).upInvalid_run .h a⟩

/-! SAF_TAP_RECEIVE (R295, R368). -/

/-- A frame of the head's safety channel that a port in service brings. -/
def State.tapsFrame (s : State) (f : RxFrame) : Prop :=
  (parseHdr f.bytes).kind = tSaf ∧ (parseHdr f.bytes).len = 7 ∧ (parseHdr f.bytes).src = 0 ∧ s.rx f ≠ .off

/-- What the island sent on the frame's segment in the frame's cycle. -/
def State.injectedOf (s : State) (f : RxFrame) : List Byte :=
  sget (fun _ => ([] : List Byte)) s.saf.injected (f.port.val / 2 * 8 + (parseHdr f.bytes).cyc % 8)

/-- A frame that returns on port B to the chip on move is compared with what the island sent. -/
def State.tapCompares (s : State) (f : RxFrame) : Prop :=
  f.port.val % 2 = 1 ∧ (parseHdr f.bytes).loop = false ∧ s.twin.standby = false ∧ s.injectedOf f ≠ []

/-- The tap keeps the SEQ of a frame that passes. -/
def State.keepTapSeq (s : State) (pl : List Byte) : State := { s with saf := { s.saf with tapSeq := some (field pl 8 2) } }

/-- The tap's run of mismatches, counted in the state u, is kept in the state t. -/
def State.keepTapRun (u : State) (f : RxFrame) (t : State) : State :=
  let n := f.port.val / 2
  let run := u.tapAfter n (u.rebuildCycle (parseHdr f.bytes).cyc).toNat (decide (u.injectedOf f = f.bytes) && !f.error)
  { t with saf := { t.saf with tapRun := sput (fun _ => ((0, 0) : Nat × Nat)) t.saf.tapRun n run } }

theorem exec_safTapReceive_other (h : ¬ (s.relay f).tapsFrame f) : Leaves (.safTapReceive f) s (s.relay f) := by
  rw [Leaves, exec_safTapReceive]
  exact if_neg h

/-- The state in which the tap has kept the SEQ of a frame that it could read. -/
def State.tapRead (s : State) (f : RxFrame) : State :=
  match s.rx f with
  | .ok _ pl => s.keepTapSeq pl
  | _ => s

theorem State.tapCompares_iff : (f.port.val % 2 = 1 ∧ (!(parseHdr f.bytes).loop) = true ∧ (!s.twin.standby) = true
    ∧ s.injectedOf f ≠ []) ↔ s.tapCompares f := by
  simp only [Bool.not_eq_true', State.tapCompares]

theorem exec_safTapReceive_compares (h : (s.relay f).tapsFrame f) (hc : (s.relay f).tapCompares f) :
    Leaves (.safTapReceive f) s ((s.relay f).keepTapRun f ((s.relay f).tapRead f)) := by
  rw [Leaves, exec_safTapReceive]
  exact (if_pos h).trans (if_pos (State.tapCompares_iff.mpr hc) :)

theorem exec_safTapReceive_reads (h : (s.relay f).tapsFrame f) (hc : ¬ (s.relay f).tapCompares f) :
    Leaves (.safTapReceive f) s ((s.relay f).tapRead f) := by
  rw [Leaves, exec_safTapReceive]
  exact (if_pos h).trans (if_neg (mt State.tapCompares_iff.mp hc) :)

theorem State.tapRead_ok (hrx : s.rx f = .ok h pl) : s.tapRead f = s.keepTapSeq pl := by
  simp only [State.tapRead, hrx]

theorem State.tapRead_unsound (hrx : ∀ h pl, s.rx f ≠ .ok h pl) : s.tapRead f = s := by
  unfold State.tapRead
  split
  next h pl hok => exact absurd hok (hrx h pl)
  next => rfl

/-- The run after the frame of a cycle: none where it matches, one more where the last mismatch was in the cycle before (R295). -/
theorem State.tapAfter_run (s : State) (n c : Nat) : let last := sget (fun _ => ((0, 0) : Nat × Nat)) s.saf.tapRun n
    s.tapAfter n c true = (0, c) ∧ (last.1 ≠ 0 → last.2 + 1 = c → s.tapAfter n c false = (last.1 + 1, c))
      ∧ (last.1 ≠ 0 → last.2 = c → s.tapAfter n c false = last)
      ∧ (last.1 = 0 ∨ (last.2 ≠ c ∧ last.2 + 1 ≠ c) → s.tapAfter n c false = (1, c)) := by
  intro last
  have hrun : s.tapAfter n c false = if last.1 ≠ 0 ∧ last.2 = c then last else if last.1 ≠ 0 ∧ last.2 + 1 = c then (last.1 + 1, c) else (1, c) := rfl
  refine ⟨rfl, fun hne hc => ?_, fun hne hc => hrun.trans (if_pos ⟨hne, hc⟩), fun hno => ?_⟩
  · rw [hrun, if_neg (by omega), if_pos ⟨hne, hc⟩]
  · rw [hrun, if_neg (by omega), if_neg (by omega)]

/-! ISLAND_SEQ_REPORT (R294). -/

/-- The island runs, and the chip is neither silent nor in Endgame mode. -/
def State.islandReports (s : State) : Prop := s.saf.islandRunning = true ∧ s.saf.endgame = none ∧ s.saf.silent = false

theorem exec_islandSeqReport_runs (h : s.islandReports) : Leaves .islandSeqReport s
    { s with saf := { s.saf with reported := s.saf.islandSeq, reportTick := s.coreTicks } } := by
  obtain ⟨hrun, hend, hsil⟩ := h
  rw [Leaves, exec_islandSeqReport]
  exact whenB_of_true (by simp [hrun, hend, hsil]) _ _

theorem exec_islandSeqReport_waits (h : ¬ s.islandReports) : Leaves .islandSeqReport s s := by
  rw [Leaves, exec_islandSeqReport]
  exact whenB_of_false (by simpa [State.islandReports] using h) _ _

end Receive

/-- Settles O51: the tap by what it reads and compares, an uplink by its slot and then by each channel's judgement. -/
theorem safetyFrames : Obligations.SafetyFrames := by
  unfold Obligations.SafetyFrames
  intro s f h pl r k d u n hd sent down kept checked same ran last runs owner v heard a p q
  refine ⟨exec_safTapReceive_other, ?unsoundUnchecked, ?unsoundChecked, ?soundUnchecked, ?soundChecked, s.tapAfter_run n,
    exec_safUplinkReceive_unowned, exec_safUplinkReceive_other, exec_safUplinkReceive_unsound, ?valid, ?crc, exec_islandSeqReport_runs,
    exec_islandSeqReport_waits⟩
  case unsoundUnchecked =>
    intro hdown hrx hno
    exact State.tapRead_unsound hrx ▸ exec_safTapReceive_reads hdown hno
  case unsoundChecked =>
    intro hdown hrx hchk
    exact State.tapRead_unsound hrx ▸ exec_safTapReceive_compares hdown hchk
  case soundUnchecked =>
    intro hrx hdown hno
    have hkept : u.tapRead f = kept := State.tapRead_ok hrx
    exact hkept ▸ exec_safTapReceive_reads hdown hno
  case soundChecked =>
    intro hrx hdown hchk
    have hkept : u.tapRead f = kept := State.tapRead_ok hrx
    exact hkept ▸ exec_safTapReceive_compares hdown hchk
  case valid =>
    intro hv hp hh
    have hk (ch : Chan) := State.uplink_valid (h := h) (d := d) hp hh ch
    exact ⟨_, exec_safUplinkReceive_ok hv, AxMon.uplinks_eq_iff.mp (hk .p), AxMon.uplinks_eq_iff.mp (hk .h)⟩
  case crc =>
    intro hv hp
    have hboth := State.upInvalid_both { s.storedUplink f h pl r k d with saf := { s.saf with upCrc := inc32 s.saf.upCrc } } a
    rw [← State.uplink_crc hp] at hboth
    exact ⟨_, exec_safUplinkReceive_ok hv, hboth⟩

end Sys2Proof.Machine
end

section
/-! Fatal faults: Endgame mode, the hand-over, and silence (R314 to R317, R367, R461). -/

namespace Sys2Proof.Machine

open Sys2Proof.Claims

theorem exec_temperatureTrip (tds : Int) (s : State) : exec (.temperatureTrip tds) s = execTemperatureTrip tds s := rfl
theorem exec_endgameStopAll (s : State) : exec .endgameStopAll s = execEndgameStopAll s := rfl
theorem exec_endgameOutputDrop (s : State) : exec .endgameOutputDrop s = execEndgameOutputDrop s := rfl
theorem exec_vddHMonitor (s : State) : exec .vddHMonitor s = execVddHMonitor s := rfl
theorem exec_islandPorRelease (s : State) : exec .islandPorRelease s = execIslandPorRelease s := rfl

/-- An event row that acts or leaves the state, by its guard. -/
theorem whenB_iff {b : Bool} {p : Prop} (hb : b = true ↔ p) (s u : State) : (p → whenB b s u = .next u) ∧ (¬ p → whenB b s u = .next s) :=
  ⟨fun h => whenB_of_true (hb.mpr h) s u, fun h => whenB_of_false (Bool.eq_false_iff.mpr (mt hb.mp h)) s u⟩

/-! The step ports. -/

theorem State.stepPort_driveStep (s : State) (n m : Nat) (f : StepPort → StepPort) : (s.driveStep n f).stepPort m
    = if m = n then (f (s.stepPort n)).drivePins (s.parN 0x04200004 n) (s.parN 0x04200005 n) s.coreTicks else s.stepPort m := by
  split_ifs with h
  · subst h
    exact s.stepPort_putStep m _
  · exact s.setStep_ne n _ m h

/-- Every step port after all have been driven: what the drive gives, and what neither pins nor another port's drive changes. -/
theorem State.driveSteps_stepPort {f : StepPort → StepPort} {P : StepPort → Prop} (hf : ∀ p, P (f p))
    (hpins : ∀ p pol mode now, P p → P (p.drivePins pol mode now)) (s : State) {n : Nat} (hn : n < 8) :
    P (((List.range 8).foldl (fun t m => t.driveStep m f) s).stepPort n) := by
  refine foldl_reaches (I := fun _ => True) (P := fun t : State => P (t.stepPort n)) (List.mem_range.mpr hn) (fun _ _ _ => trivial)
    (fun t m ht => ?_) (fun t _ => ?_) trivial
  · rw [State.stepPort_driveStep]
    split_ifs
    · exact hpins _ _ _ _ (hf _)
    · exact ht
  · rw [State.stepPort_driveStep, if_pos rfl]
    exact hpins _ _ _ _ (hf _)

theorem State.stepPort_of_steps {s t : State} (h : t.steps = s.steps) (n : Nat) : t.stepPort n = s.stepPort n := by
  rw [State.stepPort, State.stepPort, h]

/-! Silence (R367). -/

/-- All sixteen ring ports idle. -/
def State.idlePorts (s : State) : State := (List.range 16).foldl (fun s p => s.idlePort p) s

/-- The step ports are released. -/
def State.stepsReleased (s : State) : State :=
  (List.range 8).foldl (fun s n => s.driveStep n (fun x => { x with driven := false, en := false, torqueOn := false })) s.idlePorts

theorem State.goSilent_steps (s : State) : s.goSilent.steps = s.stepsReleased.steps := by
  unfold State.goSilent State.stepsReleased State.idlePorts
  dsimp only
  rw [State.foldl_steps _ (fun _ _ => by simp)]

theorem State.goSilent_facts (s : State) : s.goSilent.saf.silent = true ∧ s.goSilent.fld.cmd = 0
    ∧ ∀ n < 8, (s.goSilent.stepPort n).driven = false := by
  refine ⟨rfl, rfl, fun n hn => ?_⟩
  rw [State.stepPort_of_steps s.goSilent_steps]
  unfold State.stepsReleased
  exact State.driveSteps_stepPort (P := fun p => p.driven = false) (fun _ => rfl) (fun _ _ _ _ h => h) s.idlePorts hn

/-! Endgame mode (R317). -/

theorem State.demandMask_hsafe (s : State) (ch : Chan) (mask : Nat) (sto : Bool) (cause : Nat) :
    (s.demandMask ch mask sto cause).saf.hsafe0 = s.saf.hsafe0 ∧ (s.demandMask ch mask sto cause).saf.hsafe1 = s.saf.hsafe1 := by
  refine s.demandMask_induction ch mask sto cause (P := fun t => t.saf.hsafe0 = s.saf.hsafe0 ∧ t.saf.hsafe1 = s.saf.hsafe1)
    (fun t g ht => ?_) ⟨rfl, rfl⟩
  rw [State.demand_saf]
  cases ch <;> exact ht

theorem nbit_allGroups {g : Nat} (hg : g < 32) : nbit allGroups g = true := by
  revert g
  decide

/-- The step ports are off. -/
def State.stepsOff (s : State) : State :=
  (List.range 8).foldl (fun s n => s.driveStep n (fun x => { x with en := false, torqueOn := false })) s.idlePorts

/-- The chip as Endgame mode finds it before its demand: the ports idle, the step ports off, HSAFE_OK low, no cycle running. -/
def State.endgameStart (s : State) : State :=
  let t := s.stepsOff
  let e : Endgame :=
    { entry := t.coreTicks, next := t.coreTicks + t.period
      v0 := ((List.range 256).filter t.monitored).map (fun a => (a, Int.ofNat (t.saf.h.mon a).v.natAbs)), confirmed := [], dropped := false }
  { t with
    saf := { t.saf with endgame := some e, hsafe0 := false, hsafe1 := false }
    cyc := { t.cyc with running := false }
    twin := { t.twin with onMove := false } }

/-- The chip may still react to a fatal fault: it is neither in Endgame mode nor silent. -/
def State.Fresh (s : State) : Prop := s.saf.endgame = none ∧ s.saf.silent = false

theorem State.fresh_guard {s : State} : (s.saf.endgame.isSome || s.saf.silent) = true ↔ ¬ s.Fresh := by
  rw [State.Fresh, Bool.or_eq_true, Option.isSome_iff_ne_none, not_and_or, Bool.not_eq_false]

theorem State.enterEndgame_eq {s : State} (h : s.Fresh) : s.enterEndgame = s.endgameStart.demandMask .h allGroups true 0x0C := by
  unfold State.enterEndgame
  rw [if_neg (fun hg => State.fresh_guard.mp hg h)]
  unfold State.endgameStart State.stepsOff State.idlePorts
  dsimp only

theorem State.endgameStart_steps (s : State) {n : Nat} (hn : n < 8) :
    (s.endgameStart.stepPort n).en = false ∧ (s.endgameStart.stepPort n).torqueOn = false := by
  have hsteps : s.endgameStart.steps = s.stepsOff.steps := by
    unfold State.endgameStart
    generalize s.stepsOff = t
    rfl
  rw [State.stepPort_of_steps hsteps]
  unfold State.stepsOff
  exact State.driveSteps_stepPort (P := fun p => p.en = false ∧ p.torqueOn = false) (fun _ => ⟨rfl, rfl⟩) (fun _ _ _ _ h => h) s.idlePorts hn

theorem State.endgameStart_facts (s : State) : s.endgameStart.saf.endgame ≠ none ∧ s.endgameStart.saf.hsafe0 = false
    ∧ s.endgameStart.saf.hsafe1 = false ∧ s.endgameStart.cyc.running = false ∧ s.endgameStart.twin.onMove = false :=
  ⟨Option.some_ne_none _, rfl, rfl, rfl, rfl⟩

/-- Endgame mode: the chip is not silent, HSAFE_OK is low, no cycle runs, the chip is not on move, channel H stops every group, and no step
port is enabled. -/
theorem State.enterEndgame_facts {s : State} (h : s.Fresh) : s.enterEndgame.saf.endgame ≠ none ∧ s.enterEndgame.saf.silent = false
    ∧ s.enterEndgame.saf.hsafe0 = false ∧ s.enterEndgame.saf.hsafe1 = false ∧ s.enterEndgame.cyc.running = false
    ∧ s.enterEndgame.twin.onMove = false ∧ (∀ g < 32, (s.enterEndgame.saf.h.group g).code = 2)
    ∧ ∀ n < 8, (s.enterEndgame.stepPort n).en = false ∧ (s.enterEndgame.stepPort n).torqueOn = false := by
  have hsilent : s.enterEndgame.saf.silent = false := by simp only [State.enterEndgame_frame, h.2]
  have hsteps : (s.endgameStart.demandMask .h allGroups true 0x0C).steps = s.endgameStart.steps := by simp only [State.demandMask_frame]
  obtain ⟨hend, h0, h1, hrun, hmove⟩ := s.endgameStart_facts
  obtain ⟨hkeep0, hkeep1⟩ := s.endgameStart.demandMask_hsafe .h allGroups true 0x0C
  rw [State.enterEndgame_eq h] at hsilent ⊢
  refine ⟨?_, hsilent, hkeep0.trans h0, hkeep1.trans h1, ?_, ?_, fun g hg => ?_, fun n hn => ?_⟩
  · simpa only [State.demandMask_frame] using hend
  · simpa only [State.demandMask_frame] using hrun
  · simpa only [State.demandMask_frame] using hmove
  · exact State.demandMask_group s.endgameStart .h allGroups true 0x0C (P := fun x => x.code = 2) (fun _ _ _ => ChGroup.demand_sto_code) hg
      (nbit_allGroups hg)
  · rw [State.stepPort_of_steps hsteps]
    exact s.endgameStart_steps hn

/-! A fatal fault (R314, R315). -/

section Fatal

variable {s : State} {reason : Nat}

theorem State.fatal_again (h : ¬ s.Fresh) : s.fatal reason = s := if_pos (State.fresh_guard.mpr h)

/-- The chip has declared a hand-over, and is silent (R314, R367). -/
def State.declared (s : State) (reason : Nat) : State :=
  let t := (s.put (.twin (.declare reason s.cyc.cycle none))).goSilent
  { t with twin := { t.twin with lastReason := reason, handovers := inc32 t.twin.handovers } }

theorem State.fatal_fresh (h : s.Fresh) : s.fatal reason =
    if s.twin.standby then s.goSilent else if s.saf.twinBit then s.declared reason else s.enterEndgame :=
  if_neg (fun hg => State.fresh_guard.mp hg h)

theorem State.fatal_standby (h : s.Fresh) (hstandby : s.twin.standby = true) : s.fatal reason = s.goSilent := by
  rw [State.fatal_fresh h, if_pos hstandby]

theorem State.fatal_alone (h : s.Fresh) (hstandby : s.twin.standby = false) (htwin : s.saf.twinBit = false) :
    s.fatal reason = s.enterEndgame := by
  rw [State.fatal_fresh h, if_neg (Bool.eq_false_iff.mp hstandby), if_neg (Bool.eq_false_iff.mp htwin)]

theorem State.fatal_twinned (h : s.Fresh) (hstandby : s.twin.standby = false) (htwin : s.saf.twinBit = true) :
    s.fatal reason = s.declared reason := by
  rw [State.fatal_fresh h, if_neg (Bool.eq_false_iff.mp hstandby), if_pos htwin]

theorem State.declared_facts (s : State) (reason : Nat) : (s.declared reason).saf.endgame = s.saf.endgame
    ∧ (s.declared reason).saf.silent = true ∧ (s.declared reason).twin.lastReason = reason
    ∧ (∀ n < 8, ((s.declared reason).stepPort n).driven = false) ∧ (s.declared reason).fld.cmd = 0 := by
  obtain ⟨hsilent, hcmd, hsteps⟩ := (s.put (.twin (.declare reason s.cyc.cycle none))).goSilent_facts
  have hend : (s.put (.twin (.declare reason s.cyc.cycle none))).goSilent.saf.endgame = s.saf.endgame := by
    simp only [State.goSilent_frame, State.put]
  unfold State.declared
  generalize (s.put (.twin (.declare reason s.cyc.cycle none))).goSilent = t at hsilent hcmd hsteps hend ⊢
  exact ⟨hend, hsilent, rfl, hsteps, hcmd⟩

/-- HEALTH is low until READY, in Endgame mode and while the chip is silent (R461). -/
theorem State.healthPin_low (h : s.boot.ready = false ∨ s.saf.silent = true ∨ s.saf.endgame ≠ none) : s.healthPin = false := by
  obtain hready | hsilent | hend := h
  · simp [State.healthPin, hready]
  · simp [State.healthPin, State.healthy, hsilent]
  · simp [State.healthPin, State.healthy, Option.isNone_eq_false_iff.mpr (Option.isSome_iff_ne_none.mpr hend)]

end Fatal

/-! The events that find a fatal fault. -/

section Events

variable {s : State} {b : Bool} {tds : Int}

theorem exec_fatalFault_secondEngine : let failed := ((List.range 8).filter (fun i => (s.engine i).failed)).length
    (2 ≤ failed → Leaves (.fatalFault .secondEngine) s (s.fatal 1)) ∧ (failed < 2 → Leaves (.fatalFault .secondEngine) s s) := by
  have hguard := whenB_iff (p := 2 ≤ ((List.range 8).filter (fun i => (s.engine i).failed)).length) decide_eq_true_iff s (s.fatal 1)
  exact ⟨hguard.1, fun h => hguard.2 (Nat.not_le.mpr h)⟩

theorem exec_fatalFault_temperature : Leaves (.fatalFault .temperature) s (if s.saf.tempTrip then s.fatal 1 else s) := rfl

theorem exec_channelPFailure_iff : (b = true ∨ 2 ≤ s.saf.missRun → Leaves (.channelPFailure b) s s.channelPFails)
    ∧ (¬ (b = true ∨ 2 ≤ s.saf.missRun) → Leaves (.channelPFailure b) s s) :=
  whenB_iff (by simp) s s.channelPFails

theorem exec_channelHFailure_iff : ((b = true ∨ ∃ p ∈ s.saf.tapRun, 3 ≤ p.2.1) → Leaves (.channelHFailure b) s s.channelHFails)
    ∧ (¬ (b = true ∨ ∃ p ∈ s.saf.tapRun, 3 ≤ p.2.1) → Leaves (.channelHFailure b) s s) :=
  whenB_iff (by simp only [Bool.or_eq_true, List.any_eq_true, decide_eq_true_eq]) s s.channelHFails

/-- T_max is judged at 128 °C or more (R314). -/
def State.hotP (s : State) : Prop := 1280 ≤ s.arb.tMax ∧ s.arb.judged = true

/-- A temperature trip is noted with the temperature of the die. -/
def State.tripped (s : State) (tds : Int) : State := { s with saf := { s.saf with tds := tds, tempTrip := true } }

theorem State.hotP_iff : (decide (1280 ≤ s.arb.tMax) && s.arb.judged) = true ↔ s.hotP := by
  rw [Bool.and_eq_true, decide_eq_true_iff, State.hotP]

theorem exec_temperatureTrip_hotP (h : s.hotP) :
    Leaves (.temperatureTrip tds) s (((s.tripped tds).demandMask .p allGroups true 0x0B).fatal 1) := by
  rw [Leaves, exec_temperatureTrip, execTemperatureTrip, State.hotP_iff.mpr h, Bool.or_true]
  rfl

theorem exec_temperatureTrip_hotH (h : ¬ s.hotP) (htds : 1280 ≤ tds) :
    Leaves (.temperatureTrip tds) s (((s.tripped tds).demandMask .h allGroups true 0x0B).fatal 1) := by
  rw [Leaves, exec_temperatureTrip, execTemperatureTrip, Bool.eq_false_iff.mpr (mt State.hotP_iff.mp h), decide_eq_true htds]
  rfl

theorem exec_temperatureTrip_cool (h : ¬ s.hotP) (htds : tds < 1280) :
    Leaves (.temperatureTrip tds) s { s with saf := { s.saf with tds := tds } } := by
  rw [Leaves, exec_temperatureTrip, execTemperatureTrip, Bool.eq_false_iff.mpr (mt State.hotP_iff.mp h),
    decide_eq_false (Int.not_le.mpr htds)]
  rfl

/-- The control die has given no cycle strobe for two periods (R314). -/
def State.strobeMissing (s : State) : Prop :=
  s.saf.islandRunning = true ∧ s.cyc.running = true ∧ s.tCycle s.cyc.cycle + 2 * s.period ≤ s.now

theorem exec_controlDieSilent_iff : (s.strobeMissing → Leaves .controlDieSilent s (s.fatal 1))
    ∧ (¬ s.strobeMissing → Leaves .controlDieSilent s s) :=
  whenB_iff (by simp [State.strobeMissing, and_assoc]) s (s.fatal 1)

/-- The twin bit has not been refreshed for two periods (R314). -/
theorem exec_twinBitExpiry_iff : let expired := s.saf.twinBit = true ∧ s.saf.twinBitCycle + 2 * s.period ≤ s.coreTicks
    (expired → Leaves .twinBitExpiry s { s with saf := { s.saf with twinBit := false } }) ∧ (¬ expired → Leaves .twinBitExpiry s s) :=
  whenB_iff (by simp) s _

theorem exec_hsafeOkToggle_iff :
    let beats := s.saf.islandRunning = true ∧ s.saf.endgame = none ∧ s.saf.h.ok = true ∧ s.saf.silent = false ∧ s.saf.hsafeTick + 500000 ≤ s.coreTicks
    (beats → Leaves .hsafeOkToggle s { s with saf := { s.saf with hsafe0 := true, hsafe1 := !s.saf.hsafe1, hsafeTick := s.coreTicks } })
      ∧ (¬ beats → Leaves .hsafeOkToggle s s) :=
  whenB_iff (by simp [and_assoc]) s _

theorem exec_island_running (h : s.saf.islandRunning = true) : Leaves .vddHMonitor s s.islandDown ∧ Leaves .islandPorRelease s s := by
  simp only [Leaves, exec_vddHMonitor, exec_islandPorRelease, execVddHMonitor, execIslandPorRelease, h]
  exact ⟨rfl, rfl⟩

theorem exec_island_stopped (h : s.saf.islandRunning = false) : Leaves .vddHMonitor s s ∧ Leaves .islandPorRelease s
    { s with saf := { s.saf with islandRunning := true, hsafe0 := false, hsafe1 := false, h := { s.saf.h with ok := false } } } := by
  simp only [Leaves, exec_vddHMonitor, exec_islandPorRelease, execVddHMonitor, execIslandPorRelease, h]
  exact ⟨rfl, rfl⟩

end Events

/-! The events of Endgame mode (R317). -/

section EndgameEvents

variable {s : State} {e : Endgame}

theorem exec_endgame_none (h : s.saf.endgame = none) : Leaves .endgameStopAll s s ∧ Leaves .endgameOutputDrop s s := by
  simp only [Leaves, exec_endgameStopAll, exec_endgameOutputDrop, execEndgameStopAll, execEndgameOutputDrop, h, and_self]

theorem exec_endgameStopAll_due (h : s.saf.endgame = some e) (hdue : e.next ≤ s.coreTicks) (hrun : s.saf.islandRunning = true)
    (hlost : s.saf.islandLost = false) : ∃ t, exec .endgameStopAll s = .next t
      ∧ t.saf.endgame = some { e with next := e.next + s.period } ∧ t.saf.stopAllAt = some s.coreTicks ∧ t.freeCtr = s.freeCtr := by
  simp only [exec_endgameStopAll, execEndgameStopAll, h, if_pos (And.intro hdue (And.intro hrun hlost))]
  refine ⟨_, rfl, rfl, rfl, State.foldl_freeCtr _ (fun t n => ?_) _ _⟩
  split_ifs
  · simp only [State.injectPort_frame]
  · rfl

theorem exec_endgameStopAll_waits (h : s.saf.endgame = some e)
    (hno : s.coreTicks < e.next ∨ s.saf.islandRunning = false ∨ s.saf.islandLost = true) : Leaves .endgameStopAll s s := by
  simp only [Leaves, exec_endgameStopAll, execEndgameStopAll, h]
  refine if_neg (fun ⟨hdue, hrun, hlost⟩ => ?_)
  obtain hearly | hstop | hgone := hno
  · exact absurd hdue (Nat.not_le.mpr hearly)
  · exact Bool.false_ne_true (hstop.symm.trans hrun)
  · exact Bool.false_ne_true (hlost.symm.trans hgone)

/-- Every monitored axis, of which there is one at least, has its standstill confirmed in channel H. -/
def State.endgameStill (s : State) : Prop :=
  (List.range 256).filter s.monitored ≠ [] ∧ ∀ a ∈ (List.range 256).filter s.monitored, (s.saf.h.mon a).confirmed = true

/-- END_TMAX has passed. -/
def State.endgameOver (s : State) (e : Endgame) : Prop := e.entry + s.parN 0x08000005 0 * 1000000 ≤ s.coreTicks

/-- A monitored axis has become faster than it was at the entry, by more than its margin. -/
def State.endgameRise (s : State) (e : Endgame) : Prop :=
  ∃ p ∈ e.v0, ((s.saf.h.mon p.1).v.natAbs : Int) > p.2 + s.par 0x08100002 (s.parN 0x08200001 p.1) * 1000

theorem exec_endgameOutputDrop_iff (h : s.saf.endgame = some e) :
    (s.endgameStill ∨ s.endgameOver e ∨ s.endgameRise e →
      Leaves .endgameOutputDrop s { s with saf := { s.saf with endgame := some { e with dropped := true } } })
    ∧ (¬ (s.endgameStill ∨ s.endgameOver e ∨ s.endgameRise e) → Leaves .endgameOutputDrop s s) := by
  simp only [Leaves, exec_endgameOutputDrop, execEndgameOutputDrop, h]
  refine whenB_iff ?_ s _
  simp only [Bool.or_eq_true, Bool.and_eq_true, List.all_eq_true, List.any_eq_true, decide_eq_true_eq, or_assoc, State.endgameStill,
    State.endgameOver, State.endgameRise]

end EndgameEvents

/-- Settles O52: each event by its guard, and a fatal fault by what the twin can take over. -/
theorem fatalFaults : Obligations.FatalFaults := by
  unfold Obligations.FatalFaults
  intro s b tds cause e fresh alone twinned missed tapped failed read tripped hotP quiet mons still tmax rise expired beats
  have hsupervisor : exec (.fatalFault .supervisor) s = .next (s.fatal 1) := rfl
  refine ⟨State.healthPin_low, ?alone, ?twinned, ?standby, ?again, ⟨rfl, rfl, rfl, rfl⟩, exec_fatalFault_secondEngine.1,
    exec_fatalFault_secondEngine.2, exec_fatalFault_temperature, exec_channelPFailure_iff.1, exec_channelPFailure_iff.2,
    exec_channelHFailure_iff.1, exec_channelHFailure_iff.2, exec_temperatureTrip_hotP, exec_temperatureTrip_hotH, exec_temperatureTrip_cool,
    exec_controlDieSilent_iff.1, exec_controlDieSilent_iff.2, exec_endgame_none, exec_endgameStopAll_due, exec_endgameStopAll_waits,
    fun h => (exec_endgameOutputDrop_iff h).1, fun h hstill htmax hrise => (exec_endgameOutputDrop_iff h).2 (not_or.mpr ⟨hstill, not_or.mpr ⟨htmax, hrise⟩⟩),
    exec_twinBitExpiry_iff.1, exec_twinBitExpiry_iff.2, exec_hsafeOkToggle_iff.1, exec_hsafeOkToggle_iff.2, exec_island_running,
    exec_island_stopped⟩
  case alone =>
    rintro ⟨hfresh, hstandby, htwin⟩
    exact ⟨_, hsupervisor.trans (congrArg _ (State.fatal_alone hfresh hstandby htwin)), State.enterEndgame_facts hfresh⟩
  case twinned =>
    rintro ⟨hfresh, hstandby, htwin⟩
    obtain ⟨hend, hrest⟩ := s.declared_facts 1
    exact ⟨_, hsupervisor.trans (congrArg _ (State.fatal_twinned hfresh hstandby htwin)), hend.trans hfresh.1, hrest⟩
  case standby => exact fun hfresh hstandby => hsupervisor.trans (congrArg _ (State.fatal_standby hfresh hstandby))
  case again => exact fun hno => hsupervisor.trans (congrArg _ (State.fatal_again hno))

end Sys2Proof.Machine
end

section
/-! The field die's outputs as they follow their targets, and its supplies, reset and watchdog (R321, R339, R340, R345, R346, R472). -/

namespace Sys2Proof.Machine

open Sys2Proof.Claims

/-! An output that follows its target (R331, R334). -/

/-- What an output makes of its target: a switch-off starts demagnetisation, and during an off-pulse the switch is off. -/
def Fq.drive (x : Fq) (target : Bool) (now : Nat) : Fq :=
  if x.pulse.isSome then { x with driven := false }
  else if target then { x with driven := true }
  else if x.driven then { x with driven := false, demag := true, demagStart := now, demagLong := false, overload := false }
  else x

theorem State.fqDrive_eq (s : State) (j : Nat) : s.fqDrive j = s.setFq j ((s.fq j).drive (s.fqTarget j) s.coreTicks) := rfl

theorem Fq.drive_driven_of_off (x : Fq) (now : Nat) : (x.drive false now).driven = false := by
  rw [Fq.drive, if_neg Bool.false_ne_true]
  split_ifs with hpulse hdriven
  · rfl
  · rfl
  · exact Bool.eq_false_iff.mpr hdriven

theorem Fq.drive_of_pulse {x : Fq} (h : x.pulse.isSome = true) (target : Bool) (now : Nat) :
    x.drive target now = { x with driven := false } := if_pos h

/-- What of an output its target does not move: all but the switch, its demagnetisation and its overload. -/
def Fq.steady (x : Fq) : Fq := { x with driven := false, demag := false, demagStart := 0, demagLong := false, overload := false }

theorem Fq.drive_steady (x : Fq) (target : Bool) (now : Nat) : (x.drive target now).steady = x.steady := by
  unfold Fq.drive
  split_ifs <;> rfl

/-- Outputs that agree in what their targets do not move agree in their latch, their safe state and their held order. -/
theorem Fq.steady_fields {x y : Fq} (h : x.steady = y.steady) :
    x.offLatch = y.offLatch ∧ x.safe = y.safe ∧ x.safeOn = y.safeOn ∧ x.holdOrder = y.holdOrder :=
  ⟨(congrArg Fq.offLatch h :), (congrArg Fq.safe h :), (congrArg Fq.safeOn h :), (congrArg Fq.holdOrder h :)⟩

theorem State.fq_setFq (s : State) (j i : Nat) (x : Fq) : (s.setFq j x).fq i = if i = j then x else s.fq i := by
  split_ifs with hi
  · rw [hi, State.setFq_self]
  · exact State.setFq_ne s j x i hi

theorem State.fqDrive_steady (s : State) (j i : Nat) : ((s.fqDrive j).fq i).steady = (s.fq i).steady := by
  rw [State.fqDrive_eq, State.fq_setFq]
  split_ifs with hi
  · rw [hi, Fq.drive_steady]
  · rfl

theorem State.fqDriveAll_steady (s : State) (i : Nat) : (s.fqDriveAll.fq i).steady = (s.fq i).steady :=
  foldl_reading (fun t => (t.fq i).steady) (fun t j => t.fqDrive_steady j i) _ s

/-! The die beside its outputs, and one change of each output. -/

/-- The die without its outputs. -/
def FieldDie.core (d : FieldDie) : FieldDie := { d with fq := [] }

theorem FieldDie.eq_of_core {d e : FieldDie} (h : d.core = e.core) : d = { e with fq := d.fq } :=
  (congrArg (fun c : FieldDie => { c with fq := d.fq }) h :)

theorem State.fqDriveAll_core (s : State) : s.fqDriveAll.die.core = s.die.core :=
  foldl_reading (fun t => t.die.core) (f := State.fqDrive) (fun _ _ => rfl) _ s

theorem State.fqDriveAll_orders (s : State) : s.fqDriveAll.die.orders = s.die.orders := by
  rw [FieldDie.eq_of_core s.fqDriveAll_core]

/-- Each output after an operation that changes the outputs one by one. -/
theorem foldl_fq {step : State → Nat → State} {f : Nat → Fq → Fq}
    (hstep : ∀ s j i, (step s j).fq i = if i = j then f i (s.fq i) else s.fq i) (s : State) (n i : Nat) :
    ((List.range n).foldl step s).fq i = if i < n then f i (s.fq i) else s.fq i := by
  induction n with
  | zero => rfl
  | succ n ih =>
    rw [List.range_succ, List.foldl_append, List.foldl_cons, List.foldl_nil, hstep, ih]
    rcases Nat.lt_trichotomy i n with h | rfl | h
    · rw [if_neg h.ne, if_pos h, if_pos (Nat.lt_succ_of_lt h)]
    · rw [if_pos rfl, if_neg (lt_irrefl i), if_pos (Nat.lt_succ_self i)]
    · rw [if_neg h.ne', if_neg (by omega), if_neg (by omega)]

/-- Each output changes by a function of its own. -/
def State.modFqs (s : State) (f : Nat → Fq → Fq) : State := (List.range 8).foldl (fun s j => s.modFq j (f j)) s

section Outputs

variable (s : State) (f : Nat → Fq → Fq)

theorem State.modFqs_fq {i : Nat} (hi : i < 8) : (s.modFqs f).fq i = f i (s.fq i) := by
  refine (foldl_fq (f := f) (fun t j i => ?_) s 8 i).trans (if_pos hi)
  rw [State.modFq_eq, State.fq_setFq]
  split_ifs with h
  · rw [h]
  · rfl

theorem State.modFqs_core : (s.modFqs f).die.core = s.die.core :=
  foldl_reading (fun t => t.die.core) (f := fun t j => t.modFq j (f j)) (fun _ _ => rfl) _ s

theorem State.modFqs_fld : (s.modFqs f).fld = s.fld := foldl_reading State.fld (f := fun t j => t.modFq j (f j)) (fun _ _ => rfl) _ s

end Outputs

/-! Outputs that the die holds off (R339, R345). -/

/-- Output i is off by its supply's latch, or by the watchdog. -/
def State.HeldOff (s : State) (i : Nat) : Prop := (s.fq i).offLatch = true ∨ (s.die.wd = true ∧ (s.fq i).safeOn = false)

section HeldOff

variable {s : State} {i : Nat}

theorem State.HeldOff.target (h : s.HeldOff i) : s.fqTarget i = false := by
  obtain hlatch | ⟨hwd, hsafe⟩ := h
  · simp [State.fqTarget, hlatch]
  · simp [State.fqTarget, hwd, hsafe]

theorem State.HeldOff.fqDrive (h : s.HeldOff i) (j : Nat) : (s.fqDrive j).HeldOff i := by
  obtain ⟨hlatch, -, hsafe, -⟩ := Fq.steady_fields (s.fqDrive_steady j i)
  rw [State.HeldOff, hlatch, hsafe]
  exact h

theorem State.HeldOff.driven_fqDrive (h : s.HeldOff i) : ((s.fqDrive i).fq i).driven = false := by
  rw [State.fqDrive_eq, State.setFq_self, h.target, Fq.drive_driven_of_off]

/-- Once each output follows its target, one that is held off does not conduct. -/
theorem State.HeldOff.driven (h : s.HeldOff i) (hi : i < 8) : (s.fqDriveAll.fq i).driven = false := by
  refine (foldl_reaches (I := fun t : State => t.HeldOff i) (P := fun t : State => t.HeldOff i ∧ (t.fq i).driven = false)
    (List.mem_range.mpr hi) (fun t j ht => ht.fqDrive j) (fun t j ⟨ht, hoff⟩ => ⟨ht.fqDrive j, ?_⟩)
    (fun t ht => ⟨ht.fqDrive i, ht.driven_fqDrive⟩) h).2
  by_cases hij : i = j
  · exact hij ▸ ht.driven_fqDrive
  · rwa [State.fqDrive_eq, State.setFq_ne _ _ _ _ hij]

end HeldOff

/-! The supplies (R321, R339, R340). -/

section Supply

variable {s : State} {vf a b : BitVec 16} {g : Fin 2} {n : Nat}

theorem exec_supplyMeasure_iff :
    let d := s.die
    let va := min vf.toNat a.toNat
    let vb := min vf.toNat b.toNat
    let sa := sinceAbove d.aboveA va 180 s.coreTicks
    let sb := sinceAbove d.aboveB vb 180 s.coreTicks
    (d.running = true → Leaves (.supplyMeasure vf a b) s { s with die := { d with
      vf := vf.toNat, vqa := a.toNat, vqb := b.toNat, warnRun := runBelow d.warnRun vf.toNat 190, warnClr := runAbove d.warnClr vf.toNat 195,
      lowRun := runBelow d.lowRun vf.toNat 160, lowClr := runAbove d.lowClr vf.toNat 165, offRunA := runBelow d.offRunA va 120,
      offRunB := runBelow d.offRunB vb 120, aboveA := sa, aboveB := sb,
      restartOkA := d.restartOkA && sa.isSome, restartOkB := d.restartOkB && sb.isSome } })
    ∧ (¬ d.running = true → Leaves (.supplyMeasure vf a b) s s) :=
  whenB_iff Iff.rfl s _

/-- A threshold acts when the die runs, it has not been told, and enough measurements in a row have crossed it. -/
theorem not_thresholdDue {on : Prop} {told : Bool} {enough run : Nat} (hno : ¬ on ∨ told = true ∨ run < enough) :
    ¬ (on ∧ told = false ∧ enough ≤ run) := by
  rintro ⟨hon, htold, hrun⟩
  obtain hoff | hset | hfew := hno
  · exact hoff hon
  · exact Bool.false_ne_true (htold.symm.trans hset)
  · exact Nat.not_le.mpr hfew hrun

/-- VF_WARN is set in the die. -/
def State.warned (s : State) : State := { s with die := { s.die with warn := true } }

theorem exec_vfWarn_iff : let due := s.die.running = true ∧ s.die.warn = false ∧ 4 ≤ s.die.warnRun
    (due → Leaves .vfWarn s (s.warned.raise 0x0D03 1 0 ([BitVec.ofNat 8 s.warned.vfState] ++ be 2 s.die.vf))) ∧ (¬ due → Leaves .vfWarn s s) :=
  whenB_iff (by simp [and_assoc]) s _

theorem exec_vfLow_iff : let due := s.die.running = true ∧ s.die.low = false ∧ 4 ≤ s.die.lowRun
    (due → Leaves .vfLow s { s with die := { s.die with low := true, invalid := true } }) ∧ (¬ due → Leaves .vfLow s s) :=
  whenB_iff (by simp [and_assoc]) s _

/-- Output j is latched off, with no order held, if it lies in the group. -/
def State.latchOff (s : State) (g : Fin 2) (j : Nat) : State :=
  if inGroup g j then s.modFq j (fun x => { x with offLatch := true, holdOrder := none }) else s

theorem State.latchOff_fq (s : State) (g : Fin 2) (j i : Nat) : (s.latchOff g j).fq i
    = if i = j then (if inGroup g i then { s.fq i with offLatch := true, holdOrder := none } else s.fq i) else s.fq i := by
  by_cases hi : i = j
  · subst hi
    rw [if_pos rfl, State.latchOff]
    split_ifs
    · rw [State.modFq_eq, State.setFq_self]
    · rfl
  · rw [if_neg hi, State.latchOff]
    split_ifs
    · exact State.setFq_ne _ _ _ _ hi
    · rfl

theorem State.latchOff_orders (s : State) (g : Fin 2) (j : Nat) : (s.latchOff g j).die.orders = s.die.orders := by
  unfold State.latchOff
  split_ifs <;> rfl

/-- A group loses its supply: its pending orders go, and its outputs are latched off. -/
def State.groupOff (s : State) (g : Fin 2) : State :=
  (List.range 8).foldl (fun s j => s.latchOff g j)
    { s with die := { s.die with orders := s.die.orders.filter (fun o => !inGroup g o.fq) } }

theorem exec_vfOff_iff : let due := s.die.running = true ∧ 4 ≤ (if g = 0 then s.die.offRunA else s.die.offRunB)
    (due → Leaves (.vfOff g) s (s.groupOff g).fqDriveAll) ∧ (¬ due → Leaves (.vfOff g) s s) :=
  whenB_iff (by simp) s _

theorem State.groupOff_orders (s : State) (g : Fin 2) : (s.groupOff g).die.orders = s.die.orders.filter (fun o => !inGroup g o.fq) :=
  foldl_reading (fun t : State => t.die.orders) (f := fun t j => t.latchOff g j) (fun t j => t.latchOff_orders g j) _ _

theorem State.groupOff_fq (s : State) (g : Fin 2) {i : Nat} (hi : i < 8) :
    (s.groupOff g).fq i = if inGroup g i then { s.fq i with offLatch := true, holdOrder := none } else s.fq i :=
  (foldl_fq (f := fun i x => if inGroup g i then { x with offLatch := true, holdOrder := none } else x) (fun t j i => t.latchOff_fq g j i) _ 8 i).trans
    (if_pos hi)

/-- The outputs of the group that lost its supply are latched off and do not conduct; the other group keeps its latches. -/
theorem State.groupOff_driven (s : State) (g : Fin 2) {i : Nat} (hi : i < 8) :
    (inGroup g i = true → ((s.groupOff g).fqDriveAll.fq i).offLatch = true ∧ ((s.groupOff g).fqDriveAll.fq i).driven = false)
    ∧ (¬ inGroup g i = true → ((s.groupOff g).fqDriveAll.fq i).offLatch = (s.fq i).offLatch) := by
  rw [(Fq.steady_fields ((s.groupOff g).fqDriveAll_steady i)).1]
  refine ⟨fun hmine => ?_, fun hother => ?_⟩
  · have hlatch : ((s.groupOff g).fq i).offLatch = true := by rw [s.groupOff_fq g hi, if_pos hmine]
    exact ⟨hlatch, State.HeldOff.driven (.inl hlatch) hi⟩
  · rw [s.groupOff_fq g hi, if_neg hother]

theorem exec_supplyThresholdClear_iff :
    let d := s.die
    let w := d.warn && decide (4 ≤ d.warnClr)
    let l := d.low && decide (4 ≤ d.lowClr)
    let due := d.running = true ∧ (w || l) = true
    (due → Leaves .supplyThresholdClear s { s with
        die := { d with warn := d.warn && !w, low := d.low && !l, invalid := d.invalid && !l }
        fld := { s.fld with filt := if l then [] else s.fld.filt } })
    ∧ (¬ due → Leaves .supplyThresholdClear s s) :=
  whenB_iff Bool.and_eq_true_iff s _

theorem exec_restartOk_below (h : (if g = 0 then s.die.aboveA else s.die.aboveB) = none) : Leaves (.restartOk g) s s := by
  change execRestartOk g s = _
  simp only [execRestartOk, h]

theorem exec_restartOk_iff (h : (if g = 0 then s.die.aboveA else s.die.aboveB) = some n) :
    let due := s.die.running = true ∧ n + 100000000 ≤ s.coreTicks
    (due → Leaves (.restartOk g) s
      { s with die := if g = 0 then { s.die with restartOkA := true } else { s.die with restartOkB := true } })
    ∧ (¬ due → Leaves (.restartOk g) s s) := by
  have hexec : exec (.restartOk g) s = whenB (s.die.running && decide (n + 100000000 ≤ s.coreTicks)) s
      { s with die := if g = 0 then { s.die with restartOkA := true } else { s.die with restartOkB := true } } := by
    change execRestartOk g s = _
    simp only [execRestartOk, h]
  simp only [Leaves, hexec]
  exact whenB_iff (by simp) s _

end Supply

/-! The reset of the die (R321, R344). -/

section Reset

variable {s : State} {vf : BitVec 16}

theorem exec_fieldDieReset_iff : (vf.toNat < 90 → Leaves (.fieldDieReset vf) s { s with die := { FieldDie.reset with vf := vf.toNat } })
    ∧ (¬ vf.toNat < 90 → Leaves (.fieldDieReset vf) s s) :=
  whenB_iff decide_eq_true_iff s _

/-- The die has just left its reset. -/
def State.dieBoots (s : State) (vf : Nat) : State :=
  let t := s.coreTicks
  let tp := s.parN 0x0D000002 0 * 1000000
  { s with die := { FieldDie.reset with
    running := true, restarted := true, bootTick := t, vf := vf, lastM := t, lastH := t, frameStart := t
    tpNext0 := t + tp, tpNext1 := t + tp + tp / 2 } }

/-- The first off-pulse of output j comes OP_PERIOD after the reset, at the output's offset. -/
def State.firstPulse (s : State) (j : Nat) (x : Fq) : Fq :=
  let op := s.parN 0x0D000004 0 * 1000000
  { x with pulseNext := s.coreTicks + op + j * op / 8 }

theorem exec_fieldDieResetRelease_iff : let due := s.die.running = false ∧ 100 < vf.toNat
    (due → Leaves (.fieldDieResetRelease vf) s ((s.dieBoots vf.toNat).modFqs s.firstPulse)) ∧ (¬ due → Leaves (.fieldDieResetRelease vf) s s) :=
  whenB_iff (by simp) s _

theorem State.dieBoots_fq (s : State) (vf i : Nat) : (s.dieBoots vf).fq i = Fq.reset := rfl

/-- After the reset the die runs as restarted, with no order and no epoch, and no output is on. -/
theorem State.dieBoots_facts (s : State) (vf : Nat) : let u := (s.dieBoots vf).modFqs s.firstPulse
    u.die.running = true ∧ u.die.restarted = true ∧ u.die.orders = [] ∧ u.die.epochM = 0 ∧ u.die.epochH = 0
      ∧ ∀ i < 8, (u.fq i).on = false ∧ (u.fq i).driven = false ∧ (u.fq i).permit = false := by
  dsimp only
  rw [FieldDie.eq_of_core ((s.dieBoots vf).modFqs_core s.firstPulse)]
  refine ⟨rfl, rfl, rfl, rfl, rfl, fun i hi => ?_⟩
  rw [State.modFqs_fq _ _ hi, State.dieBoots_fq]
  exact ⟨rfl, rfl, rfl⟩

end Reset

/-! The watchdog of the die (R345, R346). -/

section Watchdog

variable {s : State}

/-- The watchdog has expired: every pending and held order is lost, and the test supplies are off. -/
def State.dogBites (s : State) : State :=
  { s with
    die := { s.die with wd := true, wdAt := s.coreTicks, orders := [], ftpEn := false, ftp0 := false, ftp1 := false }
    fld := { s.fld with orderLost := add32 s.fld.orderLost (s.die.orders.length + s.heldOrders) } }

/-- Whether output j is on in its safe state: a safety output never, FQ_SAFE 1 always, and from 2 on as it was. -/
def State.safeLevel (s : State) (j : Nat) (x : Fq) : Bool :=
  !s.safetyOut j && (match s.parN 0x0D200002 j with
    | 0 => false
    | 1 => true
    | _ => x.driven || x.pulse.isSome)

theorem State.safeLevel_eq (s : State) (j : Nat) (x : Fq) : s.safeLevel j x
    = (!s.safetyOut j && (decide (s.parN 0x0D200002 j = 1) || (decide (2 ≤ s.parN 0x0D200002 j) && (x.driven || x.pulse.isSome)))) := by
  unfold State.safeLevel
  generalize s.parN 0x0D200002 j = p
  match p with
  | 0 => simp
  | 1 => simp
  | p + 2 => simp

/-- An output takes its safe state, and holds no order. -/
def State.goSafe (s : State) (j : Nat) (x : Fq) : Fq :=
  { x with safe := !s.safetyOut j, safeOn := s.safeLevel j x, holdOrder := none }

theorem exec_fieldWatchdog_iff : let due := s.die.running = true ∧ s.die.wd = false ∧ s.die.lastM + s.parN 0x0D000006 0 * 100000 ≤ s.coreTicks
    (due → Leaves .fieldWatchdog s (s.dogBites.modFqs s.goSafe).fqDriveAll) ∧ (¬ due → Leaves .fieldWatchdog s s) :=
  whenB_iff (by simp [and_assoc]) s _

/-- The die beside its outputs after each output has changed and follows its target. -/
theorem State.modFqs_drive_core (s : State) (f : Nat → Fq → Fq) : (s.modFqs f).fqDriveAll.die.core = s.die.core :=
  (s.modFqs f).fqDriveAll_core.trans (s.modFqs_core f)

theorem State.modFqs_drive_steady (s : State) (f : Nat → Fq → Fq) {i : Nat} (hi : i < 8) :
    ((s.modFqs f).fqDriveAll.fq i).steady = (f i (s.fq i)).steady :=
  ((s.modFqs f).fqDriveAll_steady i).trans (congrArg Fq.steady (s.modFqs_fq f hi))

theorem State.modFqs_drive_fld (s : State) (f : Nat → Fq → Fq) : (s.modFqs f).fqDriveAll.fld = s.fld := by
  simp only [State.fqDriveAll_frame, State.modFqs_fld]

theorem State.dogBites_facts (s : State) : let u := (s.dogBites.modFqs s.goSafe).fqDriveAll
    u.die.wd = true ∧ u.die.wdAt = s.coreTicks ∧ u.die.orders = [] ∧ u.die.ftpEn = false
      ∧ u.fld.orderLost = add32 s.fld.orderLost (s.die.orders.length + s.heldOrders)
      ∧ ∀ i < 8, (u.fq i).safeOn = s.safeLevel i (s.fq i) ∧ (u.fq i).holdOrder = none := by
  dsimp only
  rw [FieldDie.eq_of_core (s.dogBites.modFqs_drive_core s.goSafe), State.modFqs_drive_fld]
  refine ⟨rfl, rfl, rfl, rfl, rfl, fun i hi => ?_⟩
  obtain ⟨-, -, hsafe, hhold⟩ := Fq.steady_fields (s.dogBites.modFqs_drive_steady s.goSafe hi)
  exact ⟨hsafe, hhold⟩

/-- An output leaves the level of its safe state. -/
def Fq.safeEnds (x : Fq) : Fq := { x with safeOn := false }

theorem exec_tHoldExpiry_iff : let due := s.die.running = true ∧ s.die.wd = true ∧ s.die.wdAt + s.parN 0x0D000007 0 * 1000000 ≤ s.coreTicks
    (due → Leaves .tHoldExpiry s (s.modFqs (fun _ => Fq.safeEnds)).fqDriveAll) ∧ (¬ due → Leaves .tHoldExpiry s s) :=
  whenB_iff (by simp [and_assoc]) s _

/-- When SAFE_HOLD ends under the watchdog, no output conducts. -/
theorem State.safeEnds_facts (s : State) (hwd : s.die.wd = true) : let u := (s.modFqs (fun _ => Fq.safeEnds)).fqDriveAll
    u.die.wd = true ∧ ∀ i < 8, (u.fq i).safeOn = false ∧ (u.fq i).driven = false := by
  have hbite : (s.modFqs (fun _ => Fq.safeEnds)).die.wd = true := by rwa [FieldDie.eq_of_core (s.modFqs_core _)]
  have hsafe {i : Nat} (hi : i < 8) : ((s.modFqs (fun _ => Fq.safeEnds)).fq i).safeOn = false := by rw [State.modFqs_fq _ _ hi, Fq.safeEnds]
  dsimp only
  refine ⟨?_, fun i hi => ⟨?_, State.HeldOff.driven (.inr ⟨hbite, hsafe hi⟩) hi⟩⟩
  · rw [FieldDie.eq_of_core (s.modFqs_drive_core _)]
    exact hwd
  · rw [(Fq.steady_fields (s.modFqs_drive_steady _ hi)).2.2.1, Fq.safeEnds]

/-- An output is no longer in its safe state. -/
def Fq.safeLeft (x : Fq) : Fq := { x with safe := false, safeOn := false }

/-- The watchdog is cleared: each output follows its command again. -/
def State.dogCleared (s : State) : State :=
  (State.modFqs { s with die := { s.die with wd := false } } (fun _ => Fq.safeLeft)).fqDriveAll

theorem exec_fieldWatchdogClear_iff : let due := s.die.running = true ∧ s.die.wd = true ∧ s.die.wdAt < s.die.lastM
    (due → Leaves .fieldWatchdogClear s (s.dogCleared.raise 0x0D04 2 0 [])) ∧ (¬ due → Leaves .fieldWatchdogClear s s) :=
  whenB_iff (by simp [and_assoc]) s _

theorem State.fq_raise (s : State) (code sev inst : Nat) (data : List Byte) (i : Nat) : (s.raise code sev inst data).fq i = s.fq i := by
  simp only [State.fq, State.raise_frame]

theorem State.dogCleared_facts (s : State) : let u := s.dogCleared.raise 0x0D04 2 0 []
    u.die.wd = false ∧ ∀ i < 8, (u.fq i).safe = false ∧ (u.fq i).safeOn = false := by
  simp only [State.fq_raise, State.raise_frame]
  unfold State.dogCleared
  refine ⟨?_, fun i hi => ?_⟩
  · rw [FieldDie.eq_of_core (State.modFqs_drive_core _ _)]
  · obtain ⟨-, hsafe, hsafeOn, -⟩ := Fq.steady_fields
      (State.modFqs_drive_steady { s with die := { s.die with wd := false } } (fun _ => Fq.safeLeft) hi)
    exact ⟨hsafe, hsafeOn⟩

end Watchdog

/-- Settles O54: each event by its guard, and the die and its outputs by what the event makes of them. -/
theorem fieldSupply : Obligations.FieldSupply := by
  unfold Obligations.FieldSupply
  intro s vf a b g n d on v va vb sa sb warned mine w l above off wait t dog hold back
  refine ⟨exec_supplyMeasure_iff.2, exec_supplyMeasure_iff.1, fun hon hwarn hrun => exec_vfWarn_iff.1 ⟨hon, hwarn, hrun⟩,
    fun hno => exec_vfWarn_iff.2 (not_thresholdDue hno),
    fun hon hlow hrun => exec_vfLow_iff.1 ⟨hon, hlow, hrun⟩,
    fun hno => exec_vfLow_iff.2 (not_thresholdDue hno), ?offs, ?offStays,
    fun hon hclear => exec_supplyThresholdClear_iff.1 ⟨hon, hclear⟩, ?clearStays, ?restartStays,
    fun habove hon hwait => (exec_restartOk_iff habove).1 ⟨hon, hwait⟩, exec_fieldDieReset_iff.1,
    fun h => exec_fieldDieReset_iff.2 (Nat.not_lt.mpr h), fun hoff hv => ⟨_, exec_fieldDieResetRelease_iff.1 ⟨hoff, hv⟩, s.dieBoots_facts v⟩,
    ?releaseStays, ?dog, exec_fieldWatchdog_iff.2, fun h => ⟨_, exec_tHoldExpiry_iff.1 h, s.safeEnds_facts h.2.1⟩, exec_tHoldExpiry_iff.2,
    fun h => ⟨_, exec_fieldWatchdogClear_iff.1 h, s.dogCleared_facts⟩, exec_fieldWatchdogClear_iff.2⟩
  case offs =>
    exact fun hon hrun => ⟨_, exec_vfOff_iff.1 ⟨hon, hrun⟩, (s.groupOff g).fqDriveAll_orders.trans (s.groupOff_orders g),
      fun i hi => s.groupOff_driven g hi⟩
  case offStays =>
    refine fun hno => exec_vfOff_iff.2 (fun ⟨hon, hrun⟩ => ?_)
    obtain hoff | hfew := hno
    · exact hoff hon
    · exact Nat.not_le.mpr hfew hrun
  case clearStays =>
    refine fun hno => exec_supplyThresholdClear_iff.2 (fun ⟨hon, hclear⟩ => ?_)
    obtain hoff | hnone := hno
    · exact hoff hon
    · exact Bool.false_ne_true (hnone.symm.trans hclear)
  case restartStays =>
    intro hno
    cases habove : above with
    | none => exact exec_restartOk_below habove
    | some m =>
      refine (exec_restartOk_iff habove).2 (fun ⟨hon, hwait⟩ => ?_)
      obtain hnone | hoff | ⟨hsome, hearly⟩ := hno
      · exact Option.some_ne_none m (habove.symm.trans hnone)
      · exact hoff hon
      · obtain rfl : m = n := Option.some.inj (habove.symm.trans hsome)
        exact hearly hwait
  case releaseStays =>
    refine fun hno => exec_fieldDieResetRelease_iff.2 (fun ⟨hoff, hv⟩ => ?_)
    obtain hon | hlow := hno
    · exact Bool.false_ne_true (hoff.symm.trans hon)
    · exact Nat.not_lt.mpr hlow hv
  case dog =>
    intro hdog
    obtain ⟨hwd, hat, horders, hftp, hlost, hsafe⟩ := s.dogBites_facts
    exact ⟨_, exec_fieldWatchdog_iff.1 hdog, hwd, hat, horders, hftp, hlost,
      fun i hi => ⟨(hsafe i hi).1.trans (s.safeLevel_eq i _), (hsafe i hi).2⟩⟩

end Sys2Proof.Machine
end

section
/-! The outputs of the field die: their protection, off-pulses and readback, and the host's commands (R330 to R337, R340, R453). -/

namespace Sys2Proof.Machine

open Sys2Proof.Claims

theorem exec_offPulse (j : FqIx) (s : State) : exec (.offPulse j) s = execOffPulse j s := rfl
theorem exec_offPulseJudge (j : FqIx) (s : State) : exec (.offPulseJudge j) s = execOffPulseJudge j s := rfl
theorem exec_offPulseEnd (j : FqIx) (s : State) : exec (.offPulseEnd j) s = execOffPulseEnd j s := rfl
theorem exec_readbackSample (volts : List Int) (s : State) : exec (.readbackSample volts) s = execReadbackSample volts s := rfl
theorem exec_safetyLinkDisagree (j : FqIx) (s : State) : exec (.safetyLinkDisagree j) s = execSafetyLinkDisagree j s := rfl

/-! One bit of a word. -/

theorem nbit_nsetBit_self (v i : Nat) (b : Bool) : nbit (nsetBit v i b) i = b := by
  have hpos : 0 < 2 ^ i := Nat.two_pow_pos i
  unfold nsetBit
  cases hbit : nbit v i <;> cases b
  · exact hbit
  · have hodd : ¬ v / 2 ^ i % 2 = 1 := of_decide_eq_false hbit
    have hset : (v + 2 ^ i) / 2 ^ i % 2 = 1 := by rw [Nat.add_div_right _ hpos]; omega
    exact decide_eq_true hset
  · have hodd : v / 2 ^ i % 2 = 1 := of_decide_eq_true hbit
    have hclear : ¬ (v - 2 ^ i) / 2 ^ i % 2 = 1 := by
      have hdiv : (v - 2 ^ i) / 2 ^ i = v / 2 ^ i - 1 := by simpa using Nat.sub_mul_div v (2 ^ i) 1
      omega
    exact decide_eq_false hclear
  · exact hbit

theorem getLsbD_nsetBit (v : Nat) {j : Nat} (hj : j < 8) (b : Bool) : (BitVec.ofNat 8 (nsetBit v j b)).getLsbD j = b := by
  have htest : (nsetBit v j b).testBit j = b := Nat.testBit_eq_decide_div_mod_eq.trans (nbit_nsetBit_self v j b)
  rw [BitVec.getLsbD_ofNat, htest, decide_eq_true hj, Bool.true_and]

/-! Protection (R330 to R333). -/

theorem Fq.drive_fields (x : Fq) (target : Bool) (now : Nat) :
    (x.drive target now).therm = x.therm ∧ (x.drive target now).on = x.on ∧ (x.drive target now).pulse = x.pulse := by
  unfold Fq.drive
  split_ifs <;> exact ⟨rfl, rfl, rfl⟩

theorem State.fqTarget_of_therm {s : State} {j : Nat} (h : (s.fq j).therm = true) : s.fqTarget j = false := by
  simp [State.fqTarget, h]

section Protection

variable {s : State} {j : FqIx} {b : Bool} {tj mv : Int} {n : Nat}

theorem exec_overload_iff : let due := s.die.running = true ∧ ((s.fq j.val).driven = true ∨ b = false)
    (due → Leaves (.overload j b) s (s.modFq j.val (fun x => { x with overload := b }))) ∧ (¬ due → Leaves (.overload j b) s s) :=
  whenB_iff (by simp) s _

/-- Output j is too hot: it is off, its command is off, and no off-pulse of it runs. -/
def State.shutHot (s : State) (j : Nat) : State :=
  (s.modFq j (fun x => { x with therm := true, on := false, pulse := none, pulseJudge := false })).setCmd j false

theorem exec_thermalShutdown_iff : let shut := s.die.running = true ∧ 1750 ≤ tj
    (shut → Leaves (.thermalShutdown j tj) s ((s.shutHot j.val).fqDrive j.val)) ∧ (¬ shut → Leaves (.thermalShutdown j tj) s s) :=
  whenB_iff (by simp) s _

theorem State.shutHot_fq (s : State) (j : Nat) :
    (s.shutHot j).fq j = { s.fq j with therm := true, on := false, pulse := none, pulseJudge := false } := State.setFq_self _ _ _

/-- A thermal shutdown touches one output and its command. -/
theorem State.shutHot_facts (s : State) {j : Nat} (hj : j < 8) : let t := (s.shutHot j).fqDrive j
    (t.fq j).therm = true ∧ (t.fq j).on = false ∧ (t.fq j).driven = false ∧ (t.fq j).pulse = none
      ∧ (∀ i, i ≠ j → t.fq i = s.fq i) ∧ t.fld.cmd.getLsbD j = false := by
  dsimp only
  have hoff : (s.shutHot j).fqTarget j = false := State.fqTarget_of_therm (by rw [s.shutHot_fq])
  rw [State.fqDrive_eq, State.setFq_self, hoff, s.shutHot_fq]
  obtain ⟨htherm, hon, hpulse⟩ := Fq.drive_fields { s.fq j with therm := true, on := false, pulse := none, pulseJudge := false } false
    (s.shutHot j).coreTicks
  refine ⟨htherm, hon, Fq.drive_driven_of_off _ _, hpulse, fun i hi => ?_, getLsbD_nsetBit _ hj false⟩
  exact (State.setFq_ne _ _ _ _ hi).trans (State.setFq_ne _ _ _ _ hi)

theorem exec_coolDownEnd_iff : let cool := (s.fq j.val).therm = true ∧ tj ≤ 1600
    (cool → Leaves (.coolDownEnd j tj) s (((s.modFq j.val (fun x => { x with therm := false, on := false })).setCmd j.val false).runHeldOrder j.val))
    ∧ (¬ cool → Leaves (.coolDownEnd j tj) s s) :=
  whenB_iff (by simp) s _

/-- A held order of a latched output is lost. -/
theorem State.runHeldOrder_latched {j : Nat} (hhold : (s.fq j).holdOrder = some n) (htherm : (s.fq j).therm = false)
    (hdemag : (s.fq j).demag = false) (hlatch : (s.fq j).Latched) : s.runHeldOrder j
      = { s.modFq j (fun x => { x with holdOrder := none }) with fld := { s.fld with orderLost := inc32 s.fld.orderLost } } := by
  have hlost : ((s.fq j).wired || (s.fq j).latch || (s.fq j).offLatch) = true := by simpa [or_assoc] using hlatch
  simp only [State.runHeldOrder, hhold, htherm, hdemag, Bool.or_self, Bool.false_eq_true, if_false, hlost, if_true]

theorem exec_demagEnd_iff : let ended := (s.fq j.val).demag = true ∧ -1000 < mv
    (ended → Leaves (.demagEnd j mv) s (((s.modFq j.val (fun x => { x with demag := false })).runHeldOrder j.val).fqDrive j.val))
    ∧ (¬ ended → Leaves (.demagEnd j mv) s s) :=
  whenB_iff (by simp) s _

/-- The demagnetisation of output j has taken too long: the die and the control die note it. -/
def State.noteDemagLong (s : State) (j : Nat) : State :=
  { s.modFq j (fun x => { x with demagLong := true }) with
    fld := { s.fld with demagLong := BitVec.ofNat 8 (nsetBit s.fld.demagLong.toNat j true) } }

theorem exec_demagLong_iff :
    let long_ := (s.fq j.val).demag = true ∧ (s.fq j.val).demagLong = false ∧ (s.fq j.val).demagStart + 20000000 < s.coreTicks
    (long_ → Leaves (.demagLong j) s ((s.noteDemagLong j.val).raise 0x0D02 1 j.val [])) ∧ (¬ long_ → Leaves (.demagLong j) s s) :=
  whenB_iff (by simp [and_assoc]) s _

theorem State.noteDemagLong_facts (s : State) {j : Nat} (hj : j < 8) : let t := (s.noteDemagLong j).raise 0x0D02 1 j []
    (t.fq j).demagLong = true ∧ t.fld.demagLong.getLsbD j = true ∧ ∀ i, i ≠ j → t.fq i = s.fq i := by
  simp only [State.fq_raise, State.raise_frame]
  exact ⟨congrArg Fq.demagLong (State.setFq_self s j { s.fq j with demagLong := true }), getLsbD_nsetBit _ hj true,
    fun i hi => State.setFq_ne s j { s.fq j with demagLong := true } i hi⟩

theorem exec_safetyLinkDisagree_apart (hsince : (s.fq j.val).disagreeSince = some n) (htold : (s.fq j.val).disagreeTold = false)
    (hlate : n + 10000000 < s.coreTicks) :
    Leaves (.safetyLinkDisagree j) s ((s.modFq j.val (fun x => { x with disagreeTold := true })).raise 0x0D06 1 j.val []) := by
  simp only [Leaves, exec_safetyLinkDisagree, execSafetyLinkDisagree, hsince]
  exact whenB_of_true (by simp [htold, hlate]) _ _

theorem exec_safetyLinkDisagree_stays (h : (s.fq j.val).disagreeSince = none ∨ (s.fq j.val).disagreeTold = true) :
    Leaves (.safetyLinkDisagree j) s s := by
  simp only [Leaves, exec_safetyLinkDisagree, execSafetyLinkDisagree]
  cases hsince : (s.fq j.val).disagreeSince with
  | none => rfl
  | some n =>
    obtain hnone | htold := h
    · exact absurd (hsince.symm.trans hnone) (Option.some_ne_none n)
    · exact whenB_of_false (by simp [htold]) _ _

end Protection

/-! Off-pulses (R334, R335, R337). -/

section OffPulses

variable {s : State} {j : FqIx} {n : Nat}

/-- An off-pulse of output j may begin: the tests are on, the output conducts and is tested, its time has come, and no other off-pulse runs. -/
def State.OffPulseDue (s : State) (j : Nat) : Prop :=
  s.die.running = true ∧ s.die.low = false ∧ (s.fq j).driven = true ∧ (s.safetyOut j = true ∨ s.parN 0x0D200001 j = 1)
    ∧ (s.fq j).pulseNext ≤ s.coreTicks ∧ ∀ i < 8, (s.fq i).pulse = none

/-- The model's guard of an off-pulse. -/
def State.offPulseReady (s : State) (j : Nat) : Bool :=
  s.die.running && !s.testsOff && (s.fq j).driven && (s.safetyOut j || decide (s.parN 0x0D200001 j = 1))
    && decide ((s.fq j).pulseNext ≤ s.coreTicks) && (List.range 8).all (fun i => !(s.fq i).pulse.isSome)

theorem State.offPulseReady_iff {j : Nat} : s.offPulseReady j = true ↔ s.OffPulseDue j := by
  simp [State.offPulseReady, State.OffPulseDue, State.testsOff, and_assoc]

/-- When the off-pulse of output j comes again: a whole number of periods after its offset. -/
def State.pulseAfter (s : State) (j : Nat) : Nat :=
  let per := s.parN 0x0D000004 0 * 1000000
  nextTest (s.die.bootTick + j * per / 8) per s.coreTicks

/-- An off-pulse of output j begins. -/
def State.beginPulse (s : State) (j : Nat) : State :=
  s.modFq j (fun x => { x with pulse := some s.coreTicks, pulseJudge := true, pulseNext := s.pulseAfter j })

theorem execOffPulse_free (h : s.nextOrder j.val = none) :
    execOffPulse j s = whenB (s.offPulseReady j.val) s ((s.beginPulse j.val).fqDrive j.val) := by
  simp only [execOffPulse, h]
  rfl

theorem execOffPulse_soon (h : s.nextOrder j.val = some n) (hsoon : n < s.coreTicks + s.parN 0x0D000005 0 * 1000 + 50000) :
    execOffPulse j s = whenB (s.offPulseReady j.val) s (s.modFq j.val (fun x => { x with pulseNext := n + 100000 })) := by
  simp only [execOffPulse, h, if_pos hsoon]
  rfl

theorem exec_offPulse_begins (hdue : s.OffPulseDue j.val) (h : s.nextOrder j.val = none) :
    Leaves (.offPulse j) s ((s.beginPulse j.val).fqDrive j.val) :=
  (execOffPulse_free h).trans (whenB_of_true (State.offPulseReady_iff.mpr hdue) _ _)

theorem exec_offPulse_moves (hdue : s.OffPulseDue j.val) (h : s.nextOrder j.val = some n)
    (hsoon : n < s.coreTicks + s.parN 0x0D000005 0 * 1000 + 50000) :
    Leaves (.offPulse j) s (s.modFq j.val (fun x => { x with pulseNext := n + 100000 })) :=
  (execOffPulse_soon h hsoon).trans (whenB_of_true (State.offPulseReady_iff.mpr hdue) _ _)

theorem exec_offPulse_idle (hidle : ¬ s.OffPulseDue j.val) : Leaves (.offPulse j) s s := by
  have hready : s.offPulseReady j.val = false := Bool.eq_false_iff.mpr (mt State.offPulseReady_iff.mp hidle)
  rw [Leaves, exec_offPulse, execOffPulse]
  split
  · exact whenB_of_false hready _ _
  · exact whenB_of_false hready _ _

/-- During an off-pulse the switch is off, and no demagnetisation begins. -/
theorem State.beginPulse_fq (s : State) (j : Nat) : ((s.beginPulse j).fqDrive j).fq j
    = { s.fq j with pulse := some s.coreTicks, pulseJudge := true, pulseNext := s.pulseAfter j, driven := false } := by
  have hfq : (s.beginPulse j).fq j = { s.fq j with pulse := some s.coreTicks, pulseJudge := true, pulseNext := s.pulseAfter j } :=
    State.setFq_self _ _ _
  rw [State.fqDrive_eq, State.setFq_self, hfq, Fq.drive_of_pulse rfl]

theorem exec_offPulse_none (h : (s.fq j.val).pulse = none) : Leaves (.offPulseJudge j) s s ∧ Leaves (.offPulseEnd j) s s := by
  simp only [Leaves, exec_offPulseJudge, exec_offPulseEnd, execOffPulseJudge, execOffPulseEnd, h, and_self]

/-- The off-pulse of output j has been judged. -/
def State.pulseJudged (s : State) (j : Nat) : State := s.modFq j (fun x => { x with pulseJudge := false })

/-- One more off-pulse is counted. -/
def State.pulseCounted (s : State) (j : Nat) : State :=
  { s.pulseJudged j with fld := { s.fld with opPulses := inc32 s.fld.opPulses } }

theorem exec_offPulseJudge_due (h : (s.fq j.val).pulse = some n) (hjudge : (s.fq j.val).pulseJudge = true) (hdue : n + 150000 ≤ s.coreTicks) :
    Leaves (.offPulseJudge j) s (if s.die.low then s.pulseJudged j.val else if (s.fq j.val).readback then (s.pulseCounted j.val).shortToVf j.val
      else (s.pulseCounted j.val).modFq j.val (fun x => { x with shortVf := false })) := by
  simp only [Leaves, exec_offPulseJudge, execOffPulseJudge, h, hjudge, decide_eq_true hdue, Bool.and_self, if_true, State.testsOff]
  split_ifs <;> rfl

theorem exec_offPulseJudge_waits (h : (s.fq j.val).pulse = some n) (hwait : (s.fq j.val).pulseJudge = false ∨ s.coreTicks < n + 150000) :
    Leaves (.offPulseJudge j) s s := by
  simp only [Leaves, exec_offPulseJudge, execOffPulseJudge, h]
  refine if_neg ?_
  obtain hjudged | hearly := hwait
  · simp [hjudged]
  · simp [hearly]

theorem exec_offPulseEnd_due (h : (s.fq j.val).pulse = some n) (hdue : n + s.parN 0x0D000005 0 * 1000 ≤ s.coreTicks) :
    Leaves (.offPulseEnd j) s (s.modFq j.val (fun x => { x with pulse := none, pulseJudge := false, driven := s.fqTarget j.val })) := by
  simp only [Leaves, exec_offPulseEnd, execOffPulseEnd, h, if_pos hdue]

theorem exec_offPulseEnd_waits (h : (s.fq j.val).pulse = some n) (hearly : s.coreTicks < n + s.parN 0x0D000005 0 * 1000) :
    Leaves (.offPulseEnd j) s s := by
  simp only [Leaves, exec_offPulseEnd, execOffPulseEnd, h, if_neg (Nat.not_le.mpr hearly)]

end OffPulses

/-! Readback (R334, R335). -/

section Readback

variable {s : State} {volts : List Int}

/-- Each output takes its sample. -/
def State.sampled (s : State) (volts : List Int) : State := s.modFqs (fun j x => x.sample (volts.getD j 0))

/-- What a sample finds of an output that is off: a short to VF, or none. -/
def State.findShort (s : State) (j : Nat) : State :=
  let x := s.fq j
  let off := !x.on && !x.demag && !x.driven && x.pulse.isNone && decide (x.rbRun = 3)
  if off && x.readback && !x.shortVf then s.shortToVf j
  else if off && !x.readback then s.modFq j (fun x => { x with shortVf := false })
  else s

theorem State.findShort_on {j : Nat} (h : (s.fq j).on = true) : s.findShort j = s := by
  simp [State.findShort, h]

/-- An output that is on is not searched for a short. -/
theorem State.findShorts_on (h : ∀ i < 8, (s.fq i).on = true) : (List.range 8).foldl State.findShort s = s :=
  List.foldlRecOn (motive := fun t => t = s) _ _ rfl (fun t ht j hj => by rw [ht, State.findShort_on (h j (List.mem_range.mp hj))])

/-- What a sample finds of two outputs of which one is in its off-pulse and the other one follows it. -/
def State.findWired (s : State) : State :=
  ((List.range 8).filter (fun j => (s.fq j).pulse.isSome)).foldl (fun s j =>
    (List.range 8).foldl (fun s k =>
      let y := s.fq k
      if decide (k ≠ j) && y.driven && !y.readback && decide (y.rbRun = 3) && !y.wired then s.wiredTogether j k else s) s) s

theorem execReadbackSample_eq (volts : List Int) (s : State) : execReadbackSample volts s =
    let t := (List.range 8).foldl State.findShort (s.sampled volts)
    if s.die.running then .next (if t.testsOff then t else t.findWired) else .next s := rfl

theorem exec_readbackSample_stopped (h : s.die.running = false) : Leaves (.readbackSample volts) s s := by
  rw [Leaves, exec_readbackSample, execReadbackSample_eq, if_neg (Bool.eq_false_iff.mp h)]

theorem State.sampled_low (s : State) (volts : List Int) : (s.sampled volts).die.low = s.die.low := by
  rw [State.sampled, FieldDie.eq_of_core (s.modFqs_core _)]

theorem State.sampled_fq (s : State) (volts : List Int) {i : Nat} (hi : i < 8) :
    (s.sampled volts).fq i = (s.fq i).sample (volts.getD i 0) := State.modFqs_fq _ _ hi

/-- With VF low and every output on, a sample is all that happens. -/
theorem exec_readbackSample_on (hrun : s.die.running = true) (hlow : s.die.low = true) (hon : ∀ i < 8, (s.fq i).on = true) :
    Leaves (.readbackSample volts) s (s.sampled volts) := by
  have hstays : (List.range 8).foldl State.findShort (s.sampled volts) = s.sampled volts :=
    State.findShorts_on (fun i hi => (congrArg Fq.on (s.sampled_fq volts hi)).trans (hon i hi))
  rw [Leaves, exec_readbackSample, execReadbackSample_eq, if_pos hrun, hstays, State.testsOff, if_pos ((s.sampled_low volts).trans hlow)]

end Readback

/-! The host's commands (R332, R336, R340, R453). -/

section HostCommands

variable {s : State} {c : CmdCtx} {mask levels : BitVec 8}

/-- The model's answer of a FLD_OUT_SET. -/
def State.outSetAnswer (s : State) (c : CmdCtx) (mask levels : BitVec 8) : Ans :=
  let t := s.outputsSet ⟨c, mask, levels⟩
  if (maskOutputs mask.toNat).any s.fqLatched then .refuse 0x0301 []
  else if (maskOutputs mask.toNat).any s.safetyOut then .refuse 0x0505 []
  else if s.cyc.running then .quiet { s with fld := { s.fld with outWait := s.fld.outWait ++ [⟨c, mask, levels⟩] } }
  else .ok t.1 (heldStatus t.2) (be 1 t.2)

theorem exec_fldOutSet_eq (c : CmdCtx) (mask levels : BitVec 8) (s : State) : exec (.fldOutSet c mask levels) s
    = s.host_ c { op := 0x0D01, need := roleOperate, params := [mask, levels] } true (fun t => t.outSetAnswer c mask levels) := rfl

theorem exec_fldOutSet_acts {a : Ans} (hacts : Acts s c 0x0D01 2) (ha : (s.takeUp c).outSetAnswer c mask levels = a) :
    exec (.fldOutSet c mask levels) s = .next (a.result (s.takeUp c) c 0x0D01) :=
  (exec_host_takes (exec_fldOutSet_eq c mask levels s) hacts rfl ha :)

theorem not_any_of_false {α : Type} {p : α → Bool} {l : List α} (h : ∀ x ∈ l, p x = false) : ¬ l.any p = true := fun hany =>
  let ⟨x, hx, hp⟩ := List.any_eq_true.mp hany
  Bool.false_ne_true ((h x hx).symm.trans hp)

theorem State.outSetAnswer_latched (h : ∃ j ∈ maskOutputs mask.toNat, s.fqLatched j = true) :
    s.outSetAnswer c mask levels = .refuse 0x0301 [] := if_pos (List.any_eq_true.mpr h)

theorem State.outSetAnswer_safety (hfree : ∀ j ∈ maskOutputs mask.toNat, s.fqLatched j = false)
    (h : ∃ j ∈ maskOutputs mask.toNat, s.safetyOut j = true) : s.outSetAnswer c mask levels = .refuse 0x0505 [] := by
  rw [State.outSetAnswer, if_neg (not_any_of_false hfree), if_pos (List.any_eq_true.mpr h)]

/-- Outputs that are neither latched nor safety outputs are set, or wait for the boundary. -/
theorem State.outSetAnswer_free (hfree : ∀ j ∈ maskOutputs mask.toNat, s.fqLatched j = false ∧ s.safetyOut j = false) :
    s.outSetAnswer c mask levels = if s.cyc.running then .quiet { s with fld := { s.fld with outWait := s.fld.outWait ++ [⟨c, mask, levels⟩] } }
      else .ok (s.outputsSet ⟨c, mask, levels⟩).1 (heldStatus (s.outputsSet ⟨c, mask, levels⟩).2) (be 1 (s.outputsSet ⟨c, mask, levels⟩).2) := by
  rw [State.outSetAnswer, if_neg (not_any_of_false (fun j hj => (hfree j hj).1)),
    if_neg (not_any_of_false (fun j hj => (hfree j hj).2))]

theorem State.cyc_takeUp (s : State) (c : CmdCtx) : (s.takeUp c).cyc = s.cyc := by simp only [State.takeUp_frame]

theorem exec_fldOutSet_sets (hacts : Acts s c 0x0D01 2) (hstop : s.cyc.running = false)
    (hfree : ∀ j ∈ maskOutputs mask.toNat, (s.takeUp c).fqLatched j = false ∧ (s.takeUp c).safetyOut j = false) :
    Replies (.fldOutSet c mask levels) s c 0x0D01 (heldStatus ((s.takeUp c).outputsSet ⟨c, mask, levels⟩).2)
      (be 1 ((s.takeUp c).outputsSet ⟨c, mask, levels⟩).2) ((s.takeUp c).outputsSet ⟨c, mask, levels⟩).1 :=
  exec_fldOutSet_acts hacts ((State.outSetAnswer_free hfree).trans (if_neg (by rw [s.cyc_takeUp, hstop]; exact Bool.false_ne_true)))

theorem exec_fldOutSet_waits (hacts : Acts s c 0x0D01 2) (hrun : s.cyc.running = true)
    (hfree : ∀ j ∈ maskOutputs mask.toNat, (s.takeUp c).fqLatched j = false ∧ (s.takeUp c).safetyOut j = false) :
    Leaves (.fldOutSet c mask levels) s
      { s.takeUp c with fld := { (s.takeUp c).fld with outWait := (s.takeUp c).fld.outWait ++ [⟨c, mask, levels⟩] } } :=
  exec_fldOutSet_acts hacts ((State.outSetAnswer_free hfree).trans (if_pos (by rw [s.cyc_takeUp, hrun])))

/-- A FLD_OUT_SET that waits alone lands at the boundary, and is answered. -/
theorem State.landOutputs_one {w : OutWait} (h : s.fld.outWait = [w]) : s.landOutputs
    = let t := State.outputsSet { s with fld := { s.fld with outWait := [] } } w
      t.1.replyLater w.ctx 0x0D01 (heldStatus t.2) (be 1 t.2) := by
  rw [State.landOutputs, h, List.foldl_cons, List.foldl_nil]

/-- A latch of output j may be cleared: it and its partner are commanded off and read low. -/
def State.latchClears (s : State) (j : Nat) : Prop :=
  s.fqLatched j = false ∨ (s.fld.cmd.getLsbD j = false ∧ s.fld.cmd.getLsbD (s.fq j).partner = false
    ∧ (s.fq j).readback = false ∧ (s.fq (s.fq j).partner).readback = false)

/-- The model's answer of a FLD_LATCH_CLEAR. -/
def State.latchClearAnswer (s : State) (mask : BitVec 8) : Ans :=
  if (maskOutputs mask.toNat).all (fun j => !s.fqLatched j || (!s.fld.cmd.getLsbD j && !s.fld.cmd.getLsbD (s.fq j).partner
    && !(s.fq j).readback && !(s.fq (s.fq j).partner).readback)) then
    .ok { s with fld := { s.fld with clr := some (mask.toNat, 2) } } 0 []
  else .refuse 0x0301 []

theorem exec_fldLatchClear_eq (c : CmdCtx) (mask : BitVec 8) (s : State) : exec (.fldLatchClear c mask) s
    = s.host_ c { op := 0x0D02, need := roleOperate, params := [mask] } true (fun t => t.latchClearAnswer mask) := rfl

theorem exec_fldLatchClear_acts {a : Ans} (hacts : Acts s c 0x0D02 2) (ha : (s.takeUp c).latchClearAnswer mask = a) :
    exec (.fldLatchClear c mask) s = .next (a.result (s.takeUp c) c 0x0D02) :=
  (exec_host_takes (exec_fldLatchClear_eq c mask s) hacts rfl ha :)

theorem State.latchClears_all : ((maskOutputs mask.toNat).all (fun j => !s.fqLatched j || (!s.fld.cmd.getLsbD j
    && !s.fld.cmd.getLsbD (s.fq j).partner && !(s.fq j).readback && !(s.fq (s.fq j).partner).readback))) = true
    ↔ ∀ j ∈ maskOutputs mask.toNat, s.latchClears j := by
  simp only [List.all_eq_true, Bool.or_eq_true, Bool.and_eq_true, Bool.not_eq_true', State.latchClears, and_assoc]

/-- The model's answer of a FLD_RESTART. -/
def State.restartAnswer (s : State) : Ans :=
  if s.die.restartOkA || s.die.restartOkB then .ok { s with fld := { s.fld with restart := 2 } } 0 [] else .refuse 0x0301 []

theorem exec_fldRestart_eq (c : CmdCtx) (s : State) :
    exec (.fldRestart c) s = s.host_ c { op := 0x0D03, need := roleOperate } true State.restartAnswer := rfl

theorem exec_fldRestart_acts {a : Ans} (hacts : Acts s c 0x0D03 2) (ha : (s.takeUp c).restartAnswer = a) :
    exec (.fldRestart c) s = .next (a.result (s.takeUp c) c 0x0D03) :=
  (exec_host_takes (exec_fldRestart_eq c s) hacts rfl ha :)

end HostCommands

/-- Settles O53: each event of an output at its guard, and each command by what its body answers. -/
theorem fieldOutputs : Obligations.FieldOutputs := by
  unfold Obligations.FieldOutputs
  refine ⟨?die, ?host⟩
  case die =>
    intro s j b tj mv n volts x d shut cool ended long_ apart pulse width per judged told
    refine ⟨fun hrun h => exec_overload_iff.1 ⟨hrun, h⟩, ?overloadStays, fun h => ⟨_, exec_thermalShutdown_iff.1 h, s.shutHot_facts j.isLt⟩,
      exec_thermalShutdown_iff.2, exec_coolDownEnd_iff.1, exec_coolDownEnd_iff.2, State.runHeldOrder_latched, exec_demagEnd_iff.1,
      exec_demagEnd_iff.2, fun h => ⟨_, exec_demagLong_iff.1 h, s.noteDemagLong_facts j.isLt⟩, exec_demagLong_iff.2,
      fun ⟨hsince, htold, hlate⟩ => exec_safetyLinkDisagree_apart hsince htold hlate, exec_safetyLinkDisagree_stays, ?pulseBegins,
      exec_offPulse_moves, exec_offPulse_idle, exec_offPulse_none, ?judgedLow, ?judgedOn, exec_offPulseJudge_waits, exec_offPulseEnd_due,
      exec_offPulseEnd_waits, exec_readbackSample_stopped, ?sample⟩
    case overloadStays =>
      refine fun hno => exec_overload_iff.2 (fun ⟨hrun, h⟩ => ?_)
      obtain hstop | ⟨hoff, hb⟩ := hno
      · exact Bool.false_ne_true (hstop.symm.trans hrun)
      · obtain hdriven | hclear := h
        · exact Bool.false_ne_true (hoff.symm.trans hdriven)
        · exact Bool.false_ne_true (hclear.symm.trans hb)
    case pulseBegins =>
      intro hpulse hnone
      refine ⟨_, exec_offPulse_begins hpulse hnone, ?_⟩
      rw [s.beginPulse_fq j.val]
      exact ⟨rfl, rfl, rfl, rfl⟩
    case judgedLow =>
      intro hpulse hjudge hdue hlow
      exact (exec_offPulseJudge_due hpulse hjudge hdue).trans (congrArg Host.Outcome.next (if_pos hlow))
    case judgedOn =>
      intro hpulse hjudge hdue hlow
      exact (exec_offPulseJudge_due hpulse hjudge hdue).trans (congrArg Host.Outcome.next (if_neg (Bool.eq_false_iff.mp hlow)))
    case sample =>
      exact fun hrun hlow hon => ⟨_, exec_readbackSample_on hrun hlow (fun i hi => (hon i hi).1), fun i hi => s.sampled_fq volts hi⟩
  case host =>
    intro s c mask levels t js setIn heldIn set held out clear free w wait ready
    refine ⟨fun h hacts => exec_fldOutSet_acts hacts (State.outSetAnswer_latched h),
      fun hfree h hacts => exec_fldOutSet_acts hacts (State.outSetAnswer_safety hfree h), ?done, ?deferred,
      fun hfree hrun hacts => exec_fldOutSet_waits hacts hrun hfree, State.landOutputs_one, ?clears, ?latched, ?restarts, ?below⟩
    case done =>
      intro hfree hstop hheld hacts
      have hsets := exec_fldOutSet_sets (levels := levels) hacts hstop hfree
      rw [show ((s.takeUp c).outputsSet ⟨c, mask, levels⟩).2 = 0 from hheld] at hsets
      exact hsets
    case deferred =>
      intro hfree hstop hheld hacts
      have hsets := exec_fldOutSet_sets (levels := levels) hacts hstop hfree
      rw [show heldStatus ((s.takeUp c).outputsSet ⟨c, mask, levels⟩).2 = 2 from if_neg hheld] at hsets
      exact hsets
    case clears =>
      exact fun h hacts => exec_fldLatchClear_acts hacts (if_pos (State.latchClears_all.mpr h))
    case latched =>
      exact fun ⟨j, hj, hno⟩ hacts => exec_fldLatchClear_acts hacts (if_neg (fun hall => hno (State.latchClears_all.mp hall j hj)))
    case restarts =>
      exact fun h hacts => exec_fldRestart_acts hacts (if_pos (Bool.or_eq_true_iff.mpr h))
    case below =>
      exact fun h hacts => exec_fldRestart_acts hacts (if_neg (mt Bool.or_eq_true_iff.mp h))

end Sys2Proof.Machine
end

section
/-! Which operations keep the gathering of events (R457): all but the start of a cycle and the resets. -/

namespace Sys2Proof.Machine

@[simp] theorem State.foldl_isNone {β : Type} (f : State → β → State)
    (h : ∀ s x, (f s x).host.gathered.isNone = s.host.gathered.isNone) (l : List β) (s : State) :
    (l.foldl f s).host.gathered.isNone = s.host.gathered.isNone := by
  induction l generalizing s with
  | nil => rfl
  | cons x l ih => simp [ih, h]

@[simp] theorem State.foldl_fst_isNone {β γ : Type} (f : State × γ → β → State × γ)
    (h : ∀ p x, (f p x).1.host.gathered.isNone = p.1.host.gathered.isNone) (l : List β) (p : State × γ) :
    (l.foldl f p).1.host.gathered.isNone = p.1.host.gathered.isNone := by
  induction l generalizing p with
  | nil => rfl
  | cons x l ih => simp [ih, h]

@[simp] theorem HostSt.ite_gathered (c : Prop) [Decidable c] (a b : HostSt) :
    (if c then a else b).gathered = if c then a.gathered else b.gathered := by
  split <;> rfl

@[simp] theorem Option.ite_isNone {α : Type} (c : Prop) [Decidable c] (a b : Option α) :
    (if c then a else b).isNone = if c then a.isNone else b.isNone := by
  split <;> rfl

@[simp] theorem State.sendMsi_isNone (s : State) (v : Nat) :
    (State.sendMsi s v).host.gathered.isNone = s.host.gathered.isNone := by
  simp [State.sendMsi]

@[simp] theorem State.setInt_isNone (s : State) (i : Nat) :
    (State.setInt s i).host.gathered.isNone = s.host.gathered.isNone := by
  simp [State.setInt]

@[simp] theorem State.ringReply_isNone (s : State) (bytes : List Byte) :
    (State.ringReply s bytes).host.gathered.isNone = s.host.gathered.isNone := by
  simp [State.ringReply]

@[simp] theorem State.sendTo_isNone (s : State) (dest : HostSource) (bytes : List Byte) :
    (State.sendTo s dest bytes).host.gathered.isNone = s.host.gathered.isNone := by
  cases dest with
  | pcie => exact s.ringReply_isNone bytes
  | udp p ip port => rfl

@[simp] theorem State.replyRaw_isNone (s : State) (c : CmdCtx) (opcode flags status : Nat) (data : List Byte) :
    (State.replyRaw s c opcode flags status data).host.gathered.isNone = s.host.gathered.isNone := by
  simp [State.replyRaw]

@[simp] theorem State.reply_isNone (s : State) (c : CmdCtx) (opcode status : Nat) (data : List Byte) :
    (State.reply s c opcode status data).host.gathered.isNone = s.host.gathered.isNone := by
  simp [State.reply]

@[simp] theorem State.push_isNone (s : State) (i : Nat) (e : Event) :
    (State.push s i e).host.gathered.isNone = s.host.gathered.isNone := by
  simp [State.push]

@[simp] theorem State.pushAll_isNone (s : State) (e : Event) :
    (State.pushAll s e).host.gathered.isNone = s.host.gathered.isNone := by
  simp [State.pushAll]

@[simp] theorem State.ringEvent_isNone (s : State) (e : Event) :
    (State.ringEvent s e).host.gathered.isNone = s.host.gathered.isNone := by
  simp [State.ringEvent]

@[simp] theorem State.number_isNone (s : State) (d : Event) :
    (State.number s d).host.gathered.isNone = s.host.gathered.isNone := by
  simp [State.number]

@[simp] theorem State.record_isNone (s : State) (code sev inst status : Nat) (cmd : Option (CmdCtx × Nat)) (data : List Byte) :
    (State.record s code sev inst status cmd data).host.gathered.isNone = s.host.gathered.isNone := by
  unfold State.record
  dsimp only
  split
  · rename_i es h
    simp [h]
  · simp

@[simp] theorem State.raise_isNone (s : State) (code sev inst : Nat) (data : List Byte) :
    (State.raise s code sev inst data).host.gathered.isNone = s.host.gathered.isNone := by
  simp [State.raise]

@[simp] theorem State.cmdDone_isNone (s : State) (c : CmdCtx) (opcode inst status : Nat) (data : List Byte) :
    (State.cmdDone s c opcode inst status data).host.gathered.isNone = s.host.gathered.isNone := by
  simp [State.cmdDone]

@[simp] theorem State.cmdDone?_isNone (s : State) (c : Option CmdCtx) (opcode inst status : Nat) :
    (State.cmdDone? s c opcode inst status).host.gathered.isNone = s.host.gathered.isNone := by
  cases c with
  | none => rfl
  | some c => exact s.cmdDone_isNone c _ _ _ _

@[simp] theorem State.groupChanged_isNone (s0 s : State) (g : Nat) :
    (State.groupChanged s0 s g).host.gathered.isNone = s.host.gathered.isNone := by
  simp [State.groupChanged]

@[simp] theorem State.demand_isNone (s : State) (ch : Chan) (g : Nat) (sto : Bool) (cause : Nat) :
    (State.demand s ch g sto cause).host.gathered.isNone = s.host.gathered.isNone := by
  simp [State.demand]

@[simp] theorem State.demandMask_isNone (s : State) (ch : Chan) (mask : Nat) (sto : Bool) (cause : Nat) :
    (State.demandMask s ch mask sto cause).host.gathered.isNone = s.host.gathered.isNone := by
  simp [State.demandMask]

@[simp] theorem State.idlePort_isNone (s : State) (p : Nat) :
    (State.idlePort s p).host.gathered.isNone = s.host.gathered.isNone := by
  simp [State.idlePort]

@[simp] theorem State.goSilent_isNone (s : State) :
    (State.goSilent s).host.gathered.isNone = s.host.gathered.isNone := by
  simp [State.goSilent]

@[simp] theorem State.enterEndgame_isNone (s : State) :
    (State.enterEndgame s).host.gathered.isNone = s.host.gathered.isNone := by
  simp [State.enterEndgame]

@[simp] theorem State.fatal_isNone (s : State) (reason : Nat) :
    (State.fatal s reason).host.gathered.isNone = s.host.gathered.isNone := by
  simp [State.fatal]

@[simp] theorem State.finishMotion_isNone (s : State) (a status : Nat) :
    (State.finishMotion s a status).host.gathered.isNone = s.host.gathered.isNone := by
  simp [State.finishMotion]

@[simp] theorem State.dropRequest_isNone (s : State) (a cause : Nat) :
    (State.dropRequest s a cause).host.gathered.isNone = s.host.gathered.isNone := by
  unfold State.dropRequest
  dsimp only
  repeat' split
  all_goals simp

@[simp] theorem State.leaveGroup_isNone (s : State) (a : Nat) :
    (State.leaveGroup s a).host.gathered.isNone = s.host.gathered.isNone := by
  unfold State.leaveGroup
  dsimp only
  repeat' split
  all_goals simp

@[simp] theorem State.planStop_isNone (s : State) (a kind : Nat) (dec : Int) :
    (State.planStop s a kind dec).host.gathered.isNone = s.host.gathered.isNone := by
  simp [State.planStop]

@[simp] theorem State.stoPath_isNone (s : State) (a : Nat) :
    (State.stoPath s a).host.gathered.isNone = s.host.gathered.isNone := by
  simp [State.stoPath]

@[simp] theorem State.dropHeld_isNone (s : State) (a : Nat) :
    (State.dropHeld s a).host.gathered.isNone = s.host.gathered.isNone := by
  unfold State.dropHeld
  split <;> simp

@[simp] theorem State.finishEnable_isNone (s : State) (a status : Nat) :
    (State.finishEnable s a status).host.gathered.isNone = s.host.gathered.isNone := by
  simp [State.finishEnable]

@[simp] theorem State.axisFault_isNone (s : State) (a cause : Nat) :
    (State.axisFault s a cause).host.gathered.isNone = s.host.gathered.isNone := by
  simp [State.axisFault]

@[simp] theorem State.torqueOffSto_isNone (s : State) (a : Nat) :
    (State.torqueOffSto s a).host.gathered.isNone = s.host.gathered.isNone := by
  simp [State.torqueOffSto]

@[simp] theorem State.axisSto_isNone (s : State) (a : Nat) :
    (State.axisSto s a).host.gathered.isNone = s.host.gathered.isNone := by
  unfold State.axisSto
  split <;> simp

@[simp] theorem State.startStop_isNone (s : State) (a kind cause : Nat) (dec : Int) :
    (State.startStop s a kind cause dec).host.gathered.isNone = s.host.gathered.isNone := by
  simp [State.startStop]

@[simp] theorem State.axisSs1_isNone (s : State) (a : Nat) :
    (State.axisSs1 s a).host.gathered.isNone = s.host.gathered.isNone := by
  unfold State.axisSs1
  split <;> simp

@[simp] theorem State.safStops_isNone (s : State) (sto ss1 : Nat) :
    (State.safStops s sto ss1).host.gathered.isNone = s.host.gathered.isNone := by
  simp [State.safStops]

@[simp] theorem State.setPlantQueue_isNone (s : State) (p : Nat) (q : List (List Byte)) :
    (State.setPlantQueue s p q).host.gathered.isNone = s.host.gathered.isNone := by
  simp [State.setPlantQueue]

@[simp] theorem State.takeUp_isNone (s : State) (c : CmdCtx) :
    (State.takeUp s c).host.gathered.isNone = s.host.gathered.isNone := by
  unfold State.takeUp
  dsimp only
  repeat' split
  all_goals simp

@[simp] theorem State.holdCommand_isNone (s : State) (c : CmdCtx) (i : Instr) :
    (State.holdCommand s c i).host.gathered.isNone = s.host.gathered.isNone := by
  simp [State.holdCommand]

@[simp] theorem State.replyLater_isNone (s : State) (c : CmdCtx) (op status : Nat) (data : List Byte) :
    (State.replyLater s c op status data).host.gathered.isNone = s.host.gathered.isNone := by
  simp [State.replyLater]

@[simp] theorem State.queuePar_isNone (s : State) (c : CmdCtx) (id : Nat) (v : Int) :
    (State.queuePar s c id v).host.gathered.isNone = s.host.gathered.isNone := by
  simp [State.queuePar]

@[simp] theorem State.sendFrame_isNone (s : State) (p : Nat) (bytes : List Byte) :
    (State.sendFrame s p bytes).host.gathered.isNone = s.host.gathered.isNone := by
  simp [State.sendFrame]

@[simp] theorem State.sendAbort_isNone (s : State) (p : Nat) (bytes : List Byte) :
    (State.sendAbort s p bytes).host.gathered.isNone = s.host.gathered.isNone := by
  simp [State.sendAbort]

@[simp] theorem State.relay_isNone (s0 : State) (f : RxFrame) :
    (State.relay s0 f).host.gathered.isNone = s0.host.gathered.isNone := by
  unfold State.relay
  dsimp only
  repeat' split
  all_goals simp

@[simp] theorem State.sendHead_isNone (s : State) (n : Nat) (portB : Bool) (h : Hdr) (payload : List Byte) :
    (State.sendHead s n portB h payload).host.gathered.isNone = s.host.gathered.isNone := by
  simp [State.sendHead]

@[simp] theorem State.motionEnds_isNone (s : State) (a : Nat) :
    (State.motionEnds s a).host.gathered.isNone = s.host.gathered.isNone := by
  simp [State.motionEnds]

@[simp] theorem State.profileEvent_isNone (s : State) (a : Nat) (g : SegVal) (tEnd : Int) :
    (State.profileEvent s a g tEnd).host.gathered.isNone = s.host.gathered.isNone := by
  simp [State.profileEvent]

@[simp] theorem State.advSeg_isNone (s : State) (a c : Nat) (k0 : Nat) :
    (State.advSeg s a c k0).host.gathered.isNone = s.host.gathered.isNone := by
  induction k0 generalizing s with
  | zero => rfl
  | succ n ih =>
    unfold State.advSeg
    dsimp only
    repeat' split
    all_goals simp [ih]

@[simp] theorem State.advanceRef_isNone (s : State) (a c : Nat) :
    (State.advanceRef s a c).host.gathered.isNone = s.host.gathered.isNone := by
  simp [State.advanceRef]

@[simp] theorem State.replanOne_isNone (s : State) (a c sh : Nat) (sto : Bool) :
    (State.replanOne s a c sh sto).1.host.gathered.isNone = s.host.gathered.isNone := by
  simp [State.replanOne]

@[simp] theorem State.replanGo_isNone (s : State) (a sh : Nat) (sto : Bool) (k0 : Nat) (k1 : Nat) :
    (State.replanGo s a sh sto k0 k1).1.host.gathered.isNone = s.host.gathered.isNone := by
  induction k0 generalizing s k1 with
  | zero => rfl
  | succ n ih => simp [State.replanGo, ih]

@[simp] theorem State.replaceFrom_isNone (s : State) (a a0 : Nat) (sto : Bool) :
    (State.replaceFrom s a a0 sto).host.gathered.isNone = s.host.gathered.isNone := by
  unfold State.replaceFrom
  dsimp only
  repeat' split
  all_goals simp

@[simp] theorem State.flushPlan_isNone (s : State) (a k : Nat) :
    (State.flushPlan s a k).host.gathered.isNone = s.host.gathered.isNone := by
  unfold State.flushPlan
  dsimp only
  repeat' split
  all_goals simp

@[simp] theorem State.takeMotion_isNone (s : State) (a op : Nat) (ctx : Option CmdCtx) :
    (State.takeMotion s a op ctx).host.gathered.isNone = s.host.gathered.isNone := by
  simp [State.takeMotion]

@[simp] theorem State.beginOne_isNone (s : State) (a k : Nat) (kind : ReqKind) :
    (State.beginOne s a k kind).host.gathered.isNone = s.host.gathered.isNone := by
  unfold State.beginOne
  dsimp only
  repeat' split
  all_goals simp

@[simp] theorem State.admitStart_isNone (s : State) (a k : Nat) (q : Request) :
    (State.admitStart s a k q).host.gathered.isNone = s.host.gathered.isNone := by
  unfold State.admitStart
  dsimp only
  repeat' split
  all_goals simp

@[simp] theorem State.dropLong_isNone (s : State) (a : Nat) (q : Request) :
    (State.dropLong s a q).host.gathered.isNone = s.host.gathered.isNone := by
  simp [State.dropLong]

@[simp] theorem State.admitGroup_isNone (s : State) (k g : Nat) :
    (State.admitGroup s k g).host.gathered.isNone = s.host.gathered.isNone := by
  simp [State.admitGroup]

@[simp] theorem State.landBudgetOne_isNone (ws : List BudgetWrite) (s : State) (w : BudgetWrite) :
    (State.landBudgetOne ws s w).host.gathered.isNone = s.host.gathered.isNone := by
  unfold State.landBudgetOne
  dsimp only
  repeat' split
  all_goals simp

@[simp] theorem State.landBudget_isNone (s : State) :
    (State.landBudget s).host.gathered.isNone = s.host.gathered.isNone := by
  simp [State.landBudget]

@[simp] theorem State.sealArbiter_isNone (s : State) (k : Nat) :
    (State.sealArbiter s k).host.gathered.isNone = s.host.gathered.isNone := by
  simp [State.sealArbiter]

@[simp] theorem State.costEvent_isNone (s : State) (r : Running) :
    (State.costEvent s r).host.gathered.isNone = s.host.gathered.isNone := by
  simp [State.costEvent]

@[simp] theorem State.taskFault_isNone (s : State) (e cause code axCause : Nat) :
    (State.taskFault s e cause code axCause).host.gathered.isNone = s.host.gathered.isNone := by
  unfold State.taskFault
  dsimp only
  repeat' split
  all_goals simp

@[simp] theorem State.engineFail_isNone (s : State) (e cause : Nat) :
    (State.engineFail s e cause).host.gathered.isNone = s.host.gathered.isNone := by
  unfold State.engineFail
  dsimp only
  repeat' split
  all_goals simp

@[simp] theorem State.endTask_isNone (s : State) (e : Nat) (r0 : Running) :
    (State.endTask s e r0).host.gathered.isNone = s.host.gathered.isNone := by
  unfold State.endTask
  dsimp only
  repeat' split
  all_goals simp

@[simp] theorem State.channelPFails_isNone (s : State) :
    (State.channelPFails s).host.gathered.isNone = s.host.gathered.isNone := by
  simp [State.channelPFails]

@[simp] theorem State.scrubError_isNone (s : State) (d : ScrubSite) :
    (State.scrubError s d).host.gathered.isNone = s.host.gathered.isNone := by
  unfold State.scrubError
  dsimp only
  repeat' split
  all_goals simp

@[simp] theorem State.sensorEvents_isNone (s : State) (oks : List Bool) :
    (State.sensorEvents s oks).host.gathered.isNone = s.host.gathered.isNone := by
  simp [State.sensorEvents]

@[simp] theorem State.demandPair_isNone (s : State) (ch : Chan) (i cause : Nat) (sto : Bool) :
    (State.demandPair s ch i cause sto).host.gathered.isNone = s.host.gathered.isNone := by
  simp [State.demandPair]

@[simp] theorem State.pairWindow_isNone (s : State) (ch : Chan) (fi flags i : Nat) :
    (State.pairWindow s ch fi flags i).host.gathered.isNone = s.host.gathered.isNone := by
  simp [State.pairWindow]

@[simp] theorem State.pairDemands_isNone (s : State) (ch : Chan) :
    (State.pairDemands s ch).host.gathered.isNone = s.host.gathered.isNone := by
  simp [State.pairDemands]

@[simp] theorem State.outputDemands_isNone (s : State) (ch : Chan) (bytes : List Byte) :
    (State.outputDemands s ch bytes).host.gathered.isNone = s.host.gathered.isNone := by
  simp [State.outputDemands]

@[simp] theorem State.channelUplink_isNone (s : State) (ch : Chan) (bytes : List Byte) :
    (State.channelUplink s ch bytes).host.gathered.isNone = s.host.gathered.isNone := by
  simp [State.channelUplink]

@[simp] theorem State.outputEvents_isNone (s : State) (bytes : List Byte) :
    (State.outputEvents s bytes).host.gathered.isNone = s.host.gathered.isNone := by
  simp [State.outputEvents]

@[simp] theorem State.dropHeldOut_isNone (s : State) (j : Nat) :
    (State.dropHeldOut s j).host.gathered.isNone = s.host.gathered.isNone := by
  simp [State.dropHeldOut]

@[simp] theorem State.seeRestarted_isNone (s : State) (restarted : Bool) :
    (State.seeRestarted s restarted).host.gathered.isNone = s.host.gathered.isNone := by
  simp [State.seeRestarted]

@[simp] theorem State.outSet_isNone (s : State) (c : CmdCtx) (j : Nat) (level : Bool) :
    (State.outSet s c j level).host.gathered.isNone = s.host.gathered.isNone := by
  unfold State.outSet
  dsimp only
  repeat' split
  all_goals simp

@[simp] theorem State.outputsSet_isNone (s : State) (w : OutWait) :
    (State.outputsSet s w).1.host.gathered.isNone = s.host.gathered.isNone := by
  simp [State.outputsSet]

@[simp] theorem State.landOutputs_isNone (s : State) :
    (State.landOutputs s).host.gathered.isNone = s.host.gathered.isNone := by
  simp [State.landOutputs]

@[simp] theorem State.startMove_isNone (s : State) (x : MoveItem) (t : Int) (late : Bool) :
    (State.startMove s x t late).host.gathered.isNone = s.host.gathered.isNone := by
  unfold State.startMove
  dsimp only
  repeat' split
  all_goals simp

@[simp] theorem State.startDue_isNone (k : Nat) (s : State) (x : MoveItem) :
    (State.startDue k s x).host.gathered.isNone = s.host.gathered.isNone := by
  unfold State.startDue
  dsimp only
  repeat' split
  all_goals simp

@[simp] theorem State.startMoves_isNone (s : State) (k : Nat) :
    (State.startMoves s k).host.gathered.isNone = s.host.gathered.isNone := by
  simp [State.startMoves]

@[simp] theorem State.returnMoves_isNone (s : State) (mask : Nat) :
    (State.returnMoves s mask).host.gathered.isNone = s.host.gathered.isNone := by
  simp [State.returnMoves]

@[simp] theorem State.injectSaf_isNone (s : State) :
    (State.injectSaf s).host.gathered.isNone = s.host.gathered.isNone := by
  unfold State.injectSaf
  dsimp only
  repeat' split
  all_goals simp

@[simp] theorem State.estimate_isNone (s : State) (ch : Chan) (a : Nat) (v : Int) :
    (State.estimate s ch a v).host.gathered.isNone = s.host.gathered.isNone := by
  unfold State.estimate
  dsimp only
  repeat' split
  all_goals simp

@[simp] theorem State.estimateP_isNone (s : State) (a n : Nat) :
    (State.estimateP s a n).host.gathered.isNone = s.host.gathered.isNone := by
  unfold State.estimateP
  dsimp only
  repeat' split
  all_goals simp

@[simp] theorem State.wdTripped_isNone (s : State) (ch : Chan) (n node : Nat) (on : Bool) :
    (State.wdTripped s ch n node on).host.gathered.isNone = s.host.gathered.isNone := by
  simp [State.wdTripped]

@[simp] theorem State.upValid_isNone (s : State) (ch : Chan) (n : Nat) (r : SlotRec) (k : Int) (pl : List Byte) :
    (State.upValid s ch n r k pl).host.gathered.isNone = s.host.gathered.isNone := by
  unfold State.upValid
  dsimp only
  repeat' split
  all_goals simp

@[simp] theorem State.upFault_isNone (s : State) (ch : Chan) (a : Nat) :
    (State.upFault s ch a).host.gathered.isNone = s.host.gathered.isNone := by
  simp [State.upFault]

@[simp] theorem State.channelHFails_isNone (s : State) :
    (State.channelHFails s).host.gathered.isNone = s.host.gathered.isNone := by
  simp [State.channelHFails]

@[simp] theorem State.islandDown_isNone (s : State) :
    (State.islandDown s).host.gathered.isNone = s.host.gathered.isNone := by
  simp [State.islandDown]

@[simp] theorem State.checkSection_isNone (s : State) :
    (State.checkSection s).host.gathered.isNone = s.host.gathered.isNone := by
  simp [State.checkSection]

@[simp] theorem State.applySection_isNone (s : State) (bs : List Byte) :
    (State.applySection s bs).host.gathered.isNone = s.host.gathered.isNone := by
  simp [State.applySection]

@[simp] theorem State.answerDemands_isNone (s : State) :
    (State.answerDemands s).host.gathered.isNone = s.host.gathered.isNone := by
  simp [State.answerDemands]

@[simp] theorem State.landMoves_isNone (s : State) (w : MovWait) :
    (State.landMoves s w).host.gathered.isNone = s.host.gathered.isNone := by
  simp [State.landMoves]

@[simp] theorem State.torqueReported_isNone (s : State) (a : Nat) :
    (State.torqueReported s a).host.gathered.isNone = s.host.gathered.isNone := by
  simp [State.torqueReported]

@[simp] theorem State.lineSwitch_isNone (s : State) :
    (State.lineSwitch s).host.gathered.isNone = s.host.gathered.isNone := by
  simp [State.lineSwitch]

@[simp] theorem State.releaseLine_isNone (s : State) (k : Nat) :
    (State.releaseLine s k).host.gathered.isNone = s.host.gathered.isNone := by
  simp [State.releaseLine]

@[simp] theorem State.landCoefs_isNone (s : State) (a : Nat) :
    (State.landCoefs s a).host.gathered.isNone = s.host.gathered.isNone := by
  simp [State.landCoefs]

@[simp] theorem State.taskReadings_isNone (s : State) (a : Nat) (t : ReadyTask) :
    (State.taskReadings s a t).host.gathered.isNone = s.host.gathered.isNone := by
  simp [State.taskReadings]

@[simp] theorem State.followError_isNone (s : State) (a : Nat) (t : ReadyTask) :
    (State.followError s a t).host.gathered.isNone = s.host.gathered.isNone := by
  simp [State.followError]

@[simp] theorem State.checkSteps_isNone (s : State) (a : Nat) (t : ReadyTask) :
    (State.checkSteps s a t).host.gathered.isNone = s.host.gathered.isNone := by
  unfold State.checkSteps
  dsimp only
  repeat' split
  all_goals simp

@[simp] theorem State.countConfirm_isNone (s : State) (a : Nat) :
    (State.countConfirm s a).host.gathered.isNone = s.host.gathered.isNone := by
  simp [State.countConfirm]

@[simp] theorem State.servoTask_isNone (s : State) (e a tag : Nat) (t : ReadyTask) :
    (State.servoTask s e a tag t).host.gathered.isNone = s.host.gathered.isNone := by
  simp [State.servoTask]

@[simp] theorem State.stepperTask_isNone (s : State) (e a tag : Nat) (t : ReadyTask) :
    (State.stepperTask s e a tag t).host.gathered.isNone = s.host.gathered.isNone := by
  simp [State.stepperTask]

@[simp] theorem State.axisChain_isNone (s : State) (e a : Nat) (t : ReadyTask) :
    (State.axisChain s e a t).host.gathered.isNone = s.host.gathered.isNone := by
  simp [State.axisChain]

@[simp] theorem State.startTask_isNone (s : State) (e : Nat) (t : ReadyTask) :
    (State.startTask s e t).host.gathered.isNone = s.host.gathered.isNone := by
  unfold State.startTask
  dsimp only
  repeat' split
  all_goals simp

@[simp] theorem State.takeFbk_isNone (s : State) (a : Nat) (f : FbkLast) :
    (State.takeFbk s a f).host.gathered.isNone = s.host.gathered.isNone := by
  simp [State.takeFbk]

@[simp] theorem State.beginEnable_isNone (s : State) (a : Nat) (c : Option CmdCtx) :
    (State.beginEnable s a c).host.gathered.isNone = s.host.gathered.isNone := by
  simp [State.beginEnable]

@[simp] theorem State.heldOutcome_isNone (s : State) (c : CmdCtx) (op inst outcome status : Nat) :
    (State.heldOutcome s c op inst outcome status).host.gathered.isNone = s.host.gathered.isNone := by
  simp [State.heldOutcome]

@[simp] theorem State.markFoldLate_isNone (s : State) :
    (State.markFoldLate s).host.gathered.isNone = s.host.gathered.isNone := by
  simp [State.markFoldLate]

@[simp] theorem State.breakEvent_isNone (s : State) (n a b : Nat) (second : Bool) :
    (State.breakEvent s n a b second).host.gathered.isNone = s.host.gathered.isNone := by
  simp [State.breakEvent]

@[simp] theorem State.foldAt_isNone (s : State) (n a b : Nat) :
    (State.foldAt s n a b).host.gathered.isNone = s.host.gathered.isNone := by
  simp [State.foldAt]

@[simp] theorem State.secondBreak_isNone (s : State) (n a b : Nat) :
    (State.secondBreak s n a b).host.gathered.isNone = s.host.gathered.isNone := by
  simp [State.secondBreak]

@[simp] theorem State.breakAt_isNone (s : State) (n a b : Nat) :
    (State.breakAt s n a b).host.gathered.isNone = s.host.gathered.isNone := by
  simp [State.breakAt]

@[simp] theorem State.reportLoop_isNone (s : State) (n node : Nat) (atB : Bool) :
    (State.reportLoop s n node atB).host.gathered.isNone = s.host.gathered.isNone := by
  simp [State.reportLoop]

@[simp] theorem State.unfold_isNone (s : State) (n : Nat) :
    (State.unfold s n).host.gathered.isNone = s.host.gathered.isNone := by
  simp [State.unfold]

@[simp] theorem State.sendSur_isNone (s : State) (n : Nat) (portB : Bool) (op hop newAddr : Nat) (minislot : Nat) :
    (State.sendSur s n portB op hop newAddr minislot).host.gathered.isNone = s.host.gathered.isNone := by
  simp [State.sendSur]

@[simp] theorem State.surveyNext_isNone (s : State) (n : Nat) :
    (State.surveyNext s n).host.gathered.isNone = s.host.gathered.isNone := by
  simp [State.surveyNext]

@[simp] theorem State.beginSurvey_isNone (s : State) (n : Nat) :
    (State.beginSurvey s n).host.gathered.isNone = s.host.gathered.isNone := by
  simp [State.beginSurvey]

@[simp] theorem State.loadSchedule_isNone (s : State) (n act : Nat) :
    (State.loadSchedule s n act).host.gathered.isNone = s.host.gathered.isNone := by
  simp [State.loadSchedule]

@[simp] theorem State.surveyEnds_isNone (s : State) (n : Nat) :
    (State.surveyEnds s n).host.gathered.isNone = s.host.gathered.isNone := by
  simp [State.surveyEnds]

@[simp] theorem State.portBreak_isNone (s : State) (p : Nat) :
    (State.portBreak s p).host.gathered.isNone = s.host.gathered.isNone := by
  simp [State.portBreak]

@[simp] theorem State.locate_isNone (s : State) (n : Nat) :
    (State.locate s n).host.gathered.isNone = s.host.gathered.isNone := by
  simp [State.locate]

@[simp] theorem State.linkDown_isNone (s : State) (p : Nat) (sync : Bool) :
    (State.linkDown s p sync).host.gathered.isNone = s.host.gathered.isNone := by
  simp [State.linkDown]

@[simp] theorem State.noteLoop_isNone (s : State) (f : RxFrame) :
    (State.noteLoop s f).host.gathered.isNone = s.host.gathered.isNone := by
  unfold State.noteLoop
  dsimp only
  repeat' split
  all_goals simp

@[simp] theorem State.sourceLocate_isNone (s : State) (f : RxFrame) (h : Hdr) (k : Int) :
    (State.sourceLocate s f h k).host.gathered.isNone = s.host.gathered.isNone := by
  unfold State.sourceLocate
  dsimp only
  repeat' split
  all_goals simp

@[simp] theorem State.sendDyn_isNone (s : State) (n i : Nat) (m : DynMsg) :
    (State.sendDyn s n i m).host.gathered.isNone = s.host.gathered.isNone := by
  simp [State.sendDyn]

@[simp] theorem State.endActivation_isNone (s : State) (n status : Nat) :
    (State.endActivation s n status).host.gathered.isNone = s.host.gathered.isNone := by
  simp [State.endActivation]

@[simp] theorem State.surveyTake_isNone (s : State) (n : Nat) (pl : List Byte) (rtt turn fwd : Nat) :
    (State.surveyTake s n pl rtt turn fwd).host.gathered.isNone = s.host.gathered.isNone := by
  simp [State.surveyTake]

@[simp] theorem State.runTake_isNone (s : State) (n : Nat) (pl : List Byte) (rtt turn fwd : Nat) :
    (State.runTake s n pl rtt turn fwd).host.gathered.isNone = s.host.gathered.isNone := by
  unfold State.runTake
  dsimp only
  repeat' split
  all_goals simp

@[simp] theorem State.surveyOpen_isNone (s : State) (n : Nat) :
    (State.surveyOpen s n).host.gathered.isNone = s.host.gathered.isNone := by
  simp [State.surveyOpen]

@[simp] theorem State.surFails_isNone (s : State) (n : Nat) :
    (State.surFails s n).host.gathered.isNone = s.host.gathered.isNone := by
  unfold State.surFails
  dsimp only
  repeat' split
  all_goals simp

@[simp] theorem State.applyNet_isNone (s : State) :
    (State.applyNet s).host.gathered.isNone = s.host.gathered.isNone := by
  simp [State.applyNet]

@[simp] theorem State.beginOpening_isNone (s : State) :
    (State.beginOpening s).host.gathered.isNone = s.host.gathered.isNone := by
  simp [State.beginOpening]

@[simp] theorem State.openingDone_isNone (s : State) :
    (State.openingDone s).host.gathered.isNone = s.host.gathered.isNone := by
  simp [State.openingDone]

@[simp] theorem State.writeKeys_isNone (s : State) (k : KeyStore) :
    (State.writeKeys s k).host.gathered.isNone = s.host.gathered.isNone := by
  simp [State.writeKeys]

@[simp] theorem State.takeKeys_isNone (s : State) (keys : List (List Byte)) :
    (State.takeKeys s keys).host.gathered.isNone = s.host.gathered.isNone := by
  simp [State.takeKeys]

@[simp] theorem State.admitNode_isNone (s : State) (n a : Nat) (serial : BitVec 48) :
    (State.admitNode s n a serial).host.gathered.isNone = s.host.gathered.isNone := by
  simp [State.admitNode]

@[simp] theorem State.activate_isNone (s : State) (n : Nat) :
    (State.activate s n).host.gathered.isNone = s.host.gathered.isNone := by
  unfold State.activate
  dsimp only
  repeat' split
  all_goals simp

@[simp] theorem State.actFires_isNone (s : State) (t : Int) (hits : List Nat) :
    (State.actFires s t hits).host.gathered.isNone = s.host.gathered.isNone := by
  unfold State.actFires
  dsimp only
  repeat' split
  all_goals simp

@[simp] theorem State.landArm_isNone (s : State) (k : Nat) :
    (State.landArm s k).host.gathered.isNone = s.host.gathered.isNone := by
  unfold State.landArm
  dsimp only
  repeat' split
  all_goals simp

@[simp] theorem State.noticeMismatch_isNone (s : State) (i : Nat) :
    (State.noticeMismatch s i).host.gathered.isNone = s.host.gathered.isNone := by
  simp [State.noticeMismatch]

@[simp] theorem State.takeVerdict_isNone (s : State) (k : Nat) (ms : List Nat) :
    (State.takeVerdict s k ms).host.gathered.isNone = s.host.gathered.isNone := by
  simp [State.takeVerdict]

@[simp] theorem State.compareDigests_isNone (s : State) (k : Nat) (own peer : List (BitVec 32)) :
    (State.compareDigests s k own peer).host.gathered.isNone = s.host.gathered.isNone := by
  simp [State.compareDigests]

@[simp] theorem State.sealDigests_isNone (s : State) (k : Nat) :
    (State.sealDigests s k).host.gathered.isNone = s.host.gathered.isNone := by
  unfold State.sealDigests
  dsimp only
  repeat' split
  all_goals simp

@[simp] theorem State.selectSource_isNone (s : State) (c : Nat) :
    (State.selectSource s c).host.gathered.isNone = s.host.gathered.isNone := by
  simp [State.selectSource]

@[simp] theorem State.stepClock_isNone (s : State) (d : Int) :
    (State.stepClock s d).host.gathered.isNone = s.host.gathered.isNone := by
  simp [State.stepClock]

@[simp] theorem State.sendTrain_isNone (s : State) (n : Nat) (h : Hdr) (pl : List Byte) :
    (State.sendTrain s n h pl).host.gathered.isNone = s.host.gathered.isNone := by
  simp [State.sendTrain]

@[simp] theorem State.sendCsf_isNone (s : State) (n : Nat) :
    (State.sendCsf s n).host.gathered.isNone = s.host.gathered.isNone := by
  simp [State.sendCsf]

@[simp] theorem State.runFrame_isNone (s : State) (n kind : Nat) (p : Nat) (pl : List Byte) :
    (State.runFrame s n kind p pl).1.host.gathered.isNone = s.host.gathered.isNone := by
  simp [State.runFrame]

@[simp] theorem State.runSup_isNone (s : State) (n p : Nat) (q : Bool × List Byte) :
    (State.runSup s n p q).1.host.gathered.isNone = s.host.gathered.isNone := by
  simp [State.runSup]

@[simp] theorem State.runSups_isNone (s : State) (n : Nat) (k0 : Nat) (k1 : Nat) :
    (State.runSups s n k0 k1).host.gathered.isNone = s.host.gathered.isNone := by
  induction k0 generalizing s k1 with
  | zero => rfl
  | succ f ih =>
    unfold State.runSups
    split
    · rfl
    · split
      · simp [ih]
      · rfl

@[simp] theorem State.runSch_isNone (s0 : State) (n p : Nat) :
    (State.runSch s0 n p).1.host.gathered.isNone = s0.host.gathered.isNone := by
  unfold State.runSch
  dsimp only
  repeat' split
  all_goals simp

@[simp] theorem State.headRun_isNone (s : State) (n : Nat) :
    (State.headRun s n).host.gathered.isNone = s.host.gathered.isNone := by
  simp [State.headRun]

@[simp] theorem State.sendExchanges_isNone (s : State) (n : Nat) :
    (State.sendExchanges s n).host.gathered.isNone = s.host.gathered.isNone := by
  simp [State.sendExchanges]

@[simp] theorem State.cycleStops_isNone (s : State) :
    (State.cycleStops s).host.gathered.isNone = s.host.gathered.isNone := by
  simp [State.cycleStops]

@[simp] theorem State.estimates_isNone (s : State) (k : Nat) :
    (State.estimates s k).host.gathered.isNone = s.host.gathered.isNone := by
  simp [State.estimates]

@[simp] theorem State.headSend_isNone (s : State) :
    (State.headSend s).host.gathered.isNone = s.host.gathered.isNone := by
  simp [State.headSend]

@[simp] theorem State.swapOut_isNone (s : State) (k : Nat) :
    (State.swapOut s k).host.gathered.isNone = s.host.gathered.isNone := by
  unfold State.swapOut
  dsimp only
  repeat' split
  all_goals simp

@[simp] theorem State.markSplit_isNone (s : State) (peer : Nat) :
    (State.markSplit s peer).host.gathered.isNone = s.host.gathered.isNone := by
  simp [State.markSplit]

@[simp] theorem State.splitWith_isNone (s : State) (peer : Nat) :
    (State.splitWith s peer).host.gathered.isNone = s.host.gathered.isNone := by
  simp [State.splitWith]

@[simp] theorem State.startJoin_isNone (s : State) (peer : List (BitVec 64)) :
    (State.startJoin s peer).host.gathered.isNone = s.host.gathered.isNone := by
  simp [State.startJoin]

@[simp] theorem State.rejoin_isNone (s : State) :
    (State.rejoin s).host.gathered.isNone = s.host.gathered.isNone := by
  simp [State.rejoin]

@[simp] theorem State.takeHealth_isNone (s : State) (m : HealthMsg) :
    (State.takeHealth s m).host.gathered.isNone = s.host.gathered.isNone := by
  simp [State.takeHealth]

@[simp] theorem State.declareSilent_isNone (s : State) (reason : Nat) :
    (State.declareSilent s reason).host.gathered.isNone = s.host.gathered.isNone := by
  simp [State.declareSilent]

@[simp] theorem State.settleTest_isNone (s : State) (m : MisTest) (own peer : Bool) :
    (State.settleTest s m own peer).host.gathered.isNone = s.host.gathered.isNone := by
  simp [State.settleTest]

@[simp] theorem State.settleTests_isNone (s : State) :
    (State.settleTests s).host.gathered.isNone = s.host.gathered.isNone := by
  simp [State.settleTests]

@[simp] theorem State.breakAtTwin_isNone (s : State) (n : Nat) :
    (State.breakAtTwin s n).host.gathered.isNone = s.host.gathered.isNone := by
  simp [State.breakAtTwin]

@[simp] theorem State.takeHead_isNone (s : State) (w : Swap) :
    (State.takeHead s w).host.gathered.isNone = s.host.gathered.isNone := by
  simp [State.takeHead]

@[simp] theorem State.followSchedule_isNone (s : State) (n ver : Nat) :
    (State.followSchedule s n ver).host.gathered.isNone = s.host.gathered.isNone := by
  simp [State.followSchedule]

@[simp] theorem State.compareCount_isNone (s : State) (a n : Nat) (pub : Int) :
    (State.compareCount s a n pub).host.gathered.isNone = s.host.gathered.isNone := by
  simp [State.compareCount]

@[simp] theorem State.releaseRemote_isNone (s : State) (a k : Nat) (isNew : Bool) :
    (State.releaseRemote s a k isNew).host.gathered.isNone = s.host.gathered.isNone := by
  unfold State.releaseRemote
  dsimp only
  repeat' split
  all_goals simp

@[simp] theorem State.releaseLocal_isNone (s : State) (a k : Nat) (isNew : Bool) (fb : List Word48) :
    (State.releaseLocal s a k isNew fb).host.gathered.isNone = s.host.gathered.isNone := by
  simp [State.releaseLocal]

@[simp] theorem State.releaseLineTwin_isNone (s : State) (k : Nat) (isNew : Bool) (fb : List Word48) :
    (State.releaseLineTwin s k isNew fb).host.gathered.isNone = s.host.gathered.isNone := by
  simp [State.releaseLineTwin]

@[simp] theorem State.clearReading_isNone (s : State) (base i : Nat) :
    (State.clearReading s base i).host.gathered.isNone = s.host.gathered.isNone := by
  simp [State.clearReading]

@[simp] theorem State.afterRead_isNone (s : State) (k0 : Obj) :
    (State.afterRead s k0).host.gathered.isNone = s.host.gathered.isNone := by
  unfold State.afterRead
  split <;> simp

@[simp] theorem State.dropCommands_isNone (s : State) (i : Nat) :
    (State.dropCommands s i).host.gathered.isNone = s.host.gathered.isNone := by
  simp [State.dropCommands]

@[simp] theorem State.closeSession_isNone (s : State) (i : Nat) :
    (State.closeSession s i).host.gathered.isNone = s.host.gathered.isNone := by
  simp [State.closeSession]

@[simp] theorem State.closeWhere_isNone (s : State) (f : HostSource → Bool) :
    (State.closeWhere s f).host.gathered.isNone = s.host.gathered.isNone := by
  simp [State.closeWhere]

@[simp] theorem State.answerBare_isNone (s : State) (src : HostSource) (op seq session flags : Nat) (params : List Byte) :
    (State.answerBare s src op seq session flags params).host.gathered.isNone = s.host.gathered.isNone := by
  simp [State.answerBare]

@[simp] theorem State.tagFail_isNone (s : State) :
    (State.tagFail s).host.gathered.isNone = s.host.gathered.isNone := by
  simp [State.tagFail]

@[simp] theorem State.enqueue_isNone (s : State) (src : HostSource) (b : List Byte) :
    (State.enqueue s src b).host.gathered.isNone = s.host.gathered.isNone := by
  cases src with
  | pcie => rfl
  | udp p ip port => simp [State.enqueue]

@[simp] theorem State.admitPacket_isNone (s : State) (slot : SlotIx) (b : List Byte) :
    (State.admitPacket s slot b).host.gathered.isNone = s.host.gathered.isNone := by
  unfold State.admitPacket
  dsimp only
  repeat' split
  all_goals simp

@[simp] theorem State.sequencePacket_isNone (s : State) (slot : SlotIx) (b : List Byte) :
    (State.sequencePacket s slot b).host.gathered.isNone = s.host.gathered.isNone := by
  unfold State.sequencePacket
  dsimp only
  repeat' split
  all_goals simp

@[simp] theorem State.takePacket_isNone (s : State) (src : HostSource) (b : List Byte) :
    (State.takePacket s src b).host.gathered.isNone = s.host.gathered.isNone := by
  simp [State.takePacket]

@[simp] theorem State.setLock_isNone (s : State) (src : HostSource) (es : List LockEntry) :
    (State.setLock s src es).host.gathered.isNone = s.host.gathered.isNone := by
  simp [State.setLock]

@[simp] theorem State.lockRoom_isNone (s : State) (src : HostSource) :
    (State.lockRoom s src).host.gathered.isNone = s.host.gathered.isNone := by
  unfold State.lockRoom
  dsimp only
  repeat' split
  all_goals simp

@[simp] theorem State.countFailure_isNone (s : State) (src : HostSource) :
    (State.countFailure s src).host.gathered.isNone = s.host.gathered.isNone := by
  simp [State.countFailure]

@[simp] theorem State.clearFailures_isNone (s : State) (src : HostSource) :
    (State.clearFailures s src).host.gathered.isNone = s.host.gathered.isNone := by
  unfold State.clearFailures
  split <;> simp

@[simp] theorem State.storeKey_isNone (s : State) (role : Nat) (key : List Byte) :
    (State.storeKey s role key).host.gathered.isNone = s.host.gathered.isNone := by
  simp [State.storeKey]

@[simp] theorem State.landOne_isNone (ready : List ParWrite) (s : State) (w : ParWrite) :
    (State.landOne ready s w).host.gathered.isNone = s.host.gathered.isNone := by
  simp [State.landOne]

@[simp] theorem State.loadBank_isNone (s : State) (b : BankImage) :
    (State.loadBank s b).host.gathered.isNone = s.host.gathered.isNone := by
  simp [State.loadBank]

@[simp] theorem State.enterRecovery_isNone (s : State) (keysA keysB : List KeySlot) :
    (State.enterRecovery s keysA keysB).host.gathered.isNone = s.host.gathered.isNone := by
  simp [State.enterRecovery]

@[simp] theorem State.finishBoot_isNone (s : State) (n : Nat) (b : BankImage) :
    (State.finishBoot s n b).host.gathered.isNone = s.host.gathered.isNone := by
  simp [State.finishBoot]

@[simp] theorem State.drainRing_isNone (s : State) (k0 : List (List Byte)) :
    (State.drainRing s k0).host.gathered.isNone = s.host.gathered.isNone := by
  induction k0 generalizing s with
  | nil => rfl
  | cons e rest ih =>
    unfold State.drainRing
    dsimp only
    split
    · simp [ih]
    · rfl

@[simp] theorem State.readRing_isNone (s : State) :
    (State.readRing s).host.gathered.isNone = s.host.gathered.isNone := by
  simp [State.readRing]

@[simp] theorem State.writeSqTail_isNone (s : State) (value : Nat) (entries : List (List Byte)) :
    (State.writeSqTail s value entries).host.gathered.isNone = s.host.gathered.isNone := by
  simp [State.writeSqTail]

@[simp] theorem State.clearInts_isNone (s : State) (value : BitVec 32) :
    (State.clearInts s value).host.gathered.isNone = s.host.gathered.isNone := by
  simp [State.clearInts]

@[simp] theorem State.lockedWrite_isNone (s : State) (running : Bool) (f : Bar0 → Bar0) :
    (State.lockedWrite s running f).host.gathered.isNone = s.host.gathered.isNone := by
  simp [State.lockedWrite]

@[simp] theorem State.writeRegister_isNone (s : State) (off : Nat) (v : BitVec 32) :
    (State.writeRegister s off v).host.gathered.isNone = s.host.gathered.isNone := by
  simp [State.writeRegister]

end Sys2Proof.Machine
end

section
/-! What every command but PORST_N and SES_PROVE keeps (R431, R457, R460): the queue, Endgame mode and closed sessions; the host commands. -/

namespace Sys2Proof.Machine

open Sys2Proof.Claims

/-- The queue, Endgame mode and the holders of the sessions are the same, and events are gathered in the one state as in the other. -/
@[simp] abbrev SameBounds (s t : State) : Prop :=
  t.pending = s.pending ∧ t.saf.endgame = s.saf.endgame ∧ t.idents = s.idents ∧ t.host.gathered.isNone = s.host.gathered.isNone

/-- The queue stays, Endgame mode does not end, and no session opens. -/
structure Guarded (s t : State) : Prop where
  pending : t.pending = s.pending
  endgame : s.saf.endgame ≠ none → t.saf.endgame ≠ none
  opened : ∀ i, (t.session i).phase = .opened → (s.session i).phase = .opened

/-- What every command but PORST_N and SES_PROVE keeps of a state: besides, it leaves no event without its number. -/
structure Bounded (s t : State) : Prop extends Guarded s t where
  gathered : s.host.gathered = none → t.host.gathered = none

/-- The command answers a next state, and it is bounded. -/
def Answers (s : State) (r : Result) : Prop := ∃ t, r = .next t ∧ Bounded s t

/-- What a command's body answers is bounded. -/
def AnsBounded (s : State) (a : Ans) : Prop :=
  match a with
  | .refuse _ _ => True
  | .ok t _ _ => Bounded s t
  | .quiet t => Bounded s t

section Bounded

variable {s t u : State}

theorem Guarded.trans (h : Guarded s t) (k : Guarded t u) : Guarded s u :=
  ⟨k.pending.trans h.pending, k.endgame ∘ h.endgame, fun i => h.opened i ∘ k.opened i⟩

theorem Bounded.refl (s : State) : Bounded s s := ⟨⟨rfl, id, fun _ => id⟩, id⟩

theorem Bounded.trans (h : Bounded s t) (k : Bounded t u) : Bounded s u := ⟨h.toGuarded.trans k.toGuarded, k.gathered ∘ h.gathered⟩

theorem opened_of_idents (h : t.idents = s.idents) (i : Nat) (hi : (t.session i).phase = .opened) : (s.session i).phase = .opened :=
  (congrArg Ident.phase (congrFun h i)).symm.trans hi

theorem gathered_of_isNone (h : t.host.gathered.isNone = s.host.gathered.isNone) (hs : s.host.gathered = none) :
    t.host.gathered = none := by
  simpa [hs] using h

@[simp] theorem Bounded.of_same (h : SameBounds s t) : Bounded s t := by
  obtain ⟨hpending, hend, hidents, hgathered⟩ := h
  exact ⟨⟨hpending, fun he => hend ▸ he, opened_of_idents hidents⟩, gathered_of_isNone hgathered⟩

theorem Bounded.foldl {β : Type} {f : State → β → State} (h : ∀ s x, Bounded s (f s x)) (l : List β) (s : State) :
    Bounded s (l.foldl f s) := by
  induction l generalizing s with
  | nil => exact Bounded.refl s
  | cons x l ih => exact (h s x).trans (ih (f s x))

theorem Bounded.ite {p : Prop} [Decidable p] (ht : Bounded s t) (hu : Bounded s u) : Bounded s (if p then t else u) := by
  split
  · exact ht
  · exact hu

@[simp] theorem answers_next : Answers s (.next t) ↔ Bounded s t :=
  ⟨fun ⟨_, h, k⟩ => by cases h; exact k, fun h => ⟨t, rfl, h⟩⟩

@[simp] theorem ansBounded_refuse {st : Nat} {d : List Byte} : AnsBounded s (.refuse st d) ↔ True := Iff.rfl
@[simp] theorem ansBounded_ok {st : Nat} {d : List Byte} : AnsBounded s (.ok t st d) ↔ Bounded s t := Iff.rfl
@[simp] theorem ansBounded_quiet : AnsBounded s (.quiet t) ↔ Bounded s t := Iff.rfl

theorem Answers.ite {p : Prop} [Decidable p] {q r : Result} (hq : Answers s q) (hr : Answers s r) : Answers s (if p then q else r) := by
  split
  · exact hq
  · exact hr

@[simp] theorem answers_whenB (b : Bool) (h : Bounded s t) : Answers s (whenB b s t) :=
  answers_next.mpr (Bounded.ite h (Bounded.refl s))

end Bounded

/-! A host command: its taking up, its checks, its landing and its reply. -/

theorem State.takeUp_bounded (s : State) (c : CmdCtx) : Bounded s (s.takeUp c) := Bounded.of_same (by simp)
theorem State.reply_bounded (s : State) (c : CmdCtx) (op st : Nat) (d : List Byte) : Bounded s (s.reply c op st d) := Bounded.of_same (by simp)
theorem State.unlog_bounded (s : State) (c : CmdCtx) (op : Nat) : Bounded s (s.unlog c op) := Bounded.of_same (by simp)

theorem State.landLogged_bounded {s s' : State} (c : CmdCtx) (k : Cmd) {fin : State → State} (hs' : Bounded s s')
    (hfin : Bounded s' (fin s')) : Bounded s (s.landLogged s' c k fin) := by
  unfold State.landLogged
  split
  · split
    · exact Bounded.of_same (by simp)
    · split
      · exact (hs'.trans hfin).trans (Bounded.of_same (by simp))
      · exact Bounded.refl s
  · exact hs'.trans hfin

theorem State.command_bounded (s : State) (c : CmdCtx) (k : Cmd) (lenOk : Bool) {body : State → Ans}
    (hbody : ∀ t, AnsBounded t (body t)) : Bounded s (s.command c k lenOk body) := by
  refine (s.takeUp_bounded c).trans ?_
  unfold State.command
  generalize s.takeUp c = t
  dsimp only
  split
  · have hb := hbody (t.unlog c k.op)
    refine (t.unlog_bounded c k.op).trans ?_
    generalize body (t.unlog c k.op) = a at hb
    cases a with
    | refuse st d => exact Bounded.refl _
    | ok t' st d => exact hb
    | quiet t' => exact hb
  split
  · exact Bounded.of_same (by simp)
  iterate 5
    split
    · exact t.reply_bounded c k.op _ _
  have hb := hbody t
  generalize body t = a at hb
  cases a with
  | refuse st d => exact t.reply_bounded c k.op _ _
  | ok t' st d => exact State.landLogged_bounded c k hb (t'.reply_bounded c k.op _ _)
  | quiet t' => exact State.landLogged_bounded c k hb (Bounded.refl t')

theorem State.hostCommand_answers (s : State) (c : CmdCtx) (k : Cmd) (lenOk : Bool) {body : State → Ans}
    (hbody : ∀ t, AnsBounded t (body t)) : Answers s (s.host_ c k lenOk body) :=
  answers_next.mpr (s.command_bounded c k lenOk hbody)

theorem State.holdCommand_bounded (s : State) (c : CmdCtx) (i : Instr) : Bounded s (s.holdCommand c i) := Bounded.of_same (by simp)

theorem State.hostAt_answers (s : State) (c : CmdCtx) (i : Instr) (k : Cmd) (lenOk : Bool) {body : State → Ans}
    (hbody : ∀ t, AnsBounded t (body t)) : Answers s (s.hostAt c i k lenOk body) := by
  unfold State.hostAt
  split
  · exact answers_next.mpr (s.holdCommand_bounded c i)
  · exact s.hostCommand_answers c k lenOk hbody

end Sys2Proof.Machine
end

section
/-! Operations that are bounded though they drive the host's sessions or Endgame mode. -/

namespace Sys2Proof.Machine

open Sys2Proof.Claims

@[simp] theorem State.activate_pending (s : State) (n : Nat) : (s.activate n).pending = s.pending := by
  unfold State.activate
  dsimp only
  repeat' split
  all_goals simp
@[simp] theorem State.loadSchedule_pending (s : State) (n act : Nat) : (s.loadSchedule n act).pending = s.pending := by
  simp [State.loadSchedule]
@[simp] theorem State.surveyEnds_pending (s : State) (n : Nat) : (s.surveyEnds n).pending = s.pending := by
  simp [State.surveyEnds]
@[simp] theorem State.surveyOpen_pending (s : State) (n : Nat) : (s.surveyOpen n).pending = s.pending := by
  simp [State.surveyOpen]
@[simp] theorem State.applyNet_pending (s : State) : s.applyNet.pending = s.pending := by
  simp [State.applyNet]
@[simp] theorem State.beginOpening_pending (s : State) : s.beginOpening.pending = s.pending := by
  simp [State.beginOpening]
@[simp] theorem State.followSchedule_pending (s : State) (n ver : Nat) : (s.followSchedule n ver).pending = s.pending := by
  simp [State.followSchedule]
@[simp] theorem State.finishBoot_pending (s : State) (n : Nat) (b : BankImage) : (s.finishBoot n b).pending = s.pending := by
  simp [State.finishBoot]

@[simp] theorem State.sequencePacket_idents (s : State) (slot : SlotIx) (b : List Byte) : (s.sequencePacket slot b).idents = s.idents := by
  unfold State.sequencePacket
  dsimp only
  split
  · simp
  · split
    · simp
    · refine (State.idents_eq _ (s.modSession slot.val (fun x => { x with lastTick := s.coreTicks })) rfl).symm.trans ?_
      simp
@[simp] theorem State.takePacket_idents (s : State) (src : HostSource) (b : List Byte) : (s.takePacket src b).idents = s.idents := by
  unfold State.takePacket
  dsimp only
  repeat' split
  all_goals simp
@[simp] theorem State.drainRing_idents (s : State) (es : List (List Byte)) : (s.drainRing es).idents = s.idents := by
  induction es generalizing s with
  | nil => rfl
  | cons e es ih =>
    unfold State.drainRing
    dsimp only
    split
    · simp [ih]
    · rfl
@[simp] theorem State.readRing_idents (s : State) : s.readRing.idents = s.idents := by
  simp [State.readRing]
@[simp] theorem State.writeSqTail_idents (s : State) (v : Nat) (es : List (List Byte)) : (s.writeSqTail v es).idents = s.idents := by
  simp [State.writeSqTail]
@[simp] theorem State.writeRegister_idents (s : State) (off : Nat) (v : BitVec 32) : (s.writeRegister off v).idents = s.idents := by
  simp [State.writeRegister]
@[simp] theorem State.outputEvents_idents (s : State) (bytes : List Byte) : (s.outputEvents bytes).idents = s.idents := by
  unfold State.outputEvents
  extract_lets col u
  have hu : u.idents = s.idents := by
    refine State.foldl_idents _ (fun t j => ?_) _ s
    extract_lets st p t1 f t2 t3
    have h1 : t1.idents = t.idents := by simp [t1]
    have h2 : t2.idents = t1.idents := by simp [t2]
    have h3 : t3.idents = t2.idents := by simp [t3]
    clear_value t1 t2 t3
    simp [h1, h2, h3]
  clear_value u col
  exact (State.idents_eq u _ rfl).trans hu

/-- A session that closes is free; no other one changes hands. -/
theorem State.closeSession_bounded (s : State) (i : Nat) : Bounded s (s.closeSession i) := by
  refine ⟨⟨by simp, by simp, fun j hj => ?_⟩, fun hg => hg⟩
  by_cases hij : j = i
  · subst hij
    simp [State.closeSession, Session.reset] at hj
  · simpa [State.closeSession, hij, State.session, State.dropCommands] using hj

theorem State.closeWhere_bounded (s : State) (f : HostSource → Bool) : Bounded s (s.closeWhere f) := by
  unfold State.closeWhere
  exact Bounded.foldl (fun t i => Bounded.ite (t.closeSession_bounded i) (Bounded.refl t)) _ s

theorem State.enterEndgame_bounded (s : State) : Bounded s s.enterEndgame := by
  refine ⟨⟨by simp, fun hend => ?_, opened_of_idents s.enterEndgame_idents⟩, gathered_of_isNone s.enterEndgame_isNone⟩
  unfold State.enterEndgame
  rwa [if_pos (by simp [Option.isSome_iff_ne_none.mpr hend])]

theorem State.fatal_bounded (s : State) (reason : Nat) : Bounded s (s.fatal reason) := by
  unfold State.fatal
  refine Bounded.ite (Bounded.refl s) (Bounded.ite (Bounded.of_same (by simp)) (Bounded.ite ?_ s.enterEndgame_bounded))
  exact Bounded.of_same (by simp)

theorem State.engineFail_bounded (s : State) (e cause : Nat) : Bounded s (s.engineFail e cause) := by
  unfold State.engineFail
  refine Bounded.ite (Bounded.refl s) ?_
  extract_lets s1 s2 s3
  have h1 : Bounded s s1 := by
    unfold s1
    split <;> exact Bounded.of_same (by simp)
  have h3 : Bounded s1 s3 := Bounded.of_same (by simp [s3, s2])
  clear_value s1 s3
  exact (h1.trans h3).trans (Bounded.ite (s3.fatal_bounded 1) (Bounded.refl s3))

theorem State.channelPFails_bounded (s : State) : Bounded s s.channelPFails := by
  unfold State.channelPFails
  refine Bounded.ite ?_ (Bounded.refl s)
  refine Bounded.trans ?_ (State.fatal_bounded _ _)
  exact Bounded.of_same (by simp)

/-- A fatal fault that follows what is bounded is bounded. -/
theorem Bounded.fatalWhen {s t : State} {p : Prop} [Decidable p] {reason : Nat} (h : Bounded s t) :
    Bounded s (if p then t.fatal reason else t) :=
  h.trans (Bounded.ite (t.fatal_bounded reason) (Bounded.refl t))

theorem State.channelHFails_bounded (s : State) : Bounded s s.channelHFails := by
  unfold State.channelHFails
  refine Bounded.ite ?_ (Bounded.refl s)
  refine Bounded.fatalWhen (Bounded.of_same ?_)
  simp

theorem State.islandDown_bounded (s : State) : Bounded s s.islandDown := by
  unfold State.islandDown
  refine Bounded.fatalWhen (Bounded.of_same ?_)
  simp

theorem State.scrubError_bounded (s : State) (d : ScrubSite) : Bounded s (s.scrubError d) := by
  cases d with
  | engineLocal e => exact s.engineFail_bounded e.val 0
  | shared w =>
    unfold State.scrubError
    refine Bounded.ite (Bounded.of_same (by simp)) (Bounded.ite (Bounded.of_same (by simp)) (Bounded.ite ?_ (Bounded.refl s)))
    exact Bounded.foldl (fun t a => Bounded.ite (Bounded.of_same (by simp)) (Bounded.refl t)) _ s
  | channelP => exact s.channelPFails_bounded
  | supervisor => exact s.fatal_bounded 1

theorem State.settleTest_bounded (s : State) (m : MisTest) (own peer : Bool) : Bounded s (s.settleTest m own peer) := by
  unfold State.settleTest
  extract_lets s1 s2
  have h1 : Bounded s s1 := Bounded.ite (Bounded.refl s) (s.engineFail_bounded _ _)
  clear_value s1
  refine h1.trans (Bounded.ite (Bounded.refl s1) (Bounded.ite (Bounded.ite ?_ ?_) (Bounded.ite (Bounded.refl s1) ?_)))
  all_goals exact Bounded.of_same (by simp [s2])

theorem State.settleTests_bounded (s : State) : Bounded s s.settleTests := by
  unfold State.settleTests
  refine Bounded.trans ?_ (Bounded.foldl (fun t m => t.settleTest_bounded m _ _) _ _)
  exact Bounded.of_same (by simp)

end Sys2Proof.Machine
end

section
/-! Bounded commands, part 1: faults, Endgame mode, sessions, and the writes of the host. -/

namespace Sys2Proof.Machine

open Sys2Proof.Claims

/-- A message of a node is bounded as its effect is (R76). -/
theorem State.takeDyn_answers {g : State → Nat → Nat → List Byte → State} (hg : ∀ t n src pl, Bounded t (g t n src pl)) (s : State)
    (f : RxFrame) (msg : Nat) : Answers s (s.takeDyn f msg g) := by
  unfold State.takeDyn
  dsimp only
  generalize (s.relay f).judgeDyn f = v
  generalize hu : ((s.relay f).countDyn f v).noteLoop f = u
  have hsu : Bounded s u := Bounded.of_same (by rw [← hu]; simp)
  split
  · refine answers_next.mpr (hsu.trans (Bounded.ite (Bounded.ite (hg u _ _ _) ?_) (Bounded.refl u)))
    split
    · refine Bounded.trans ?_ (hg (u.modSeg _ _) _ _ _)
      simp
    · simp
  · exact answers_next.mpr hsu

/-- A message over the twin link is bounded as its effect is. -/
theorem State.twinTake_answers {g : State → State} (hg : ∀ t, Bounded t (g t)) (s : State) (env : TwinEnv) :
    Answers s (s.twinTake env g) := by
  unfold State.twinTake
  split
  · simp
  split
  · simp
  dsimp only
  split
  · refine answers_next.mpr (Bounded.trans ?_ (hg _))
    simp
  · simp

theorem State.statusWrite_answers (s : State) (c : CmdCtx) (id value : Nat) : Answers s (s.statusWrite c id value) :=
  State.hostCommand_answers _ _ _ _ (fun t => by simp)

theorem State.askStart_bounded (s : State) (c : CmdCtx) (a : Nat) (kind : ReqKind) : AnsBounded s (s.askStart c a kind) := by
  unfold State.askStart
  dsimp only
  split <;> simp

@[simp] theorem execControlDieSilent_answers (s : State) : Answers s (execControlDieSilent s) :=
  answers_whenB _ (s.fatal_bounded 1)
@[simp] theorem execChannelPFailure_answers (self : Bool) (s : State) : Answers s (execChannelPFailure self s) :=
  answers_whenB _ s.channelPFails_bounded
@[simp] theorem execChannelHFailure_answers (crc : Bool) (s : State) : Answers s (execChannelHFailure crc s) :=
  answers_whenB _ s.channelHFails_bounded
@[simp] theorem execVddHMonitor_answers (s : State) : Answers s (execVddHMonitor s) := answers_whenB _ s.islandDown_bounded

/-- A state in Endgame mode is bounded by any with its queue, sessions and events. -/
theorem Bounded.endgameSome {s t : State} (e : Endgame) (hp : t.pending = s.pending) (he : t.saf.endgame = some e)
    (hi : t.idents = s.idents) (hg : t.host.gathered.isNone = s.host.gathered.isNone) : Bounded s t :=
  ⟨⟨hp, fun _ => by simp [he], opened_of_idents hi⟩, gathered_of_isNone hg⟩

@[simp] theorem execEndgameStopAll_answers (s : State) : Answers s (execEndgameStopAll s) := by
  unfold execEndgameStopAll
  split
  · simp
  · refine Answers.ite (answers_next.mpr (Bounded.endgameSome _ ?_ rfl ?_ ?_)) (by simp)
    all_goals simp

@[simp] theorem execEndgameOutputDrop_answers (s : State) : Answers s (execEndgameOutputDrop s) := by
  unfold execEndgameOutputDrop
  split
  · simp
  · exact answers_whenB _ (Bounded.endgameSome _ rfl rfl rfl rfl)

@[simp] theorem execTemperatureTrip_answers (tds : Int) (s : State) : Answers s (execTemperatureTrip tds s) := by
  refine Answers.ite (answers_next.mpr (Bounded.trans ?_ (State.fatal_bounded _ 1))) (by simp)
  exact Bounded.of_same (by simp)

@[simp] theorem execFatalFault_answers (cause : FatalCause) (s : State) : Answers s (execFatalFault cause s) := by
  cases cause with
  | secondEngine => exact answers_whenB _ (s.fatal_bounded 1)
  | supervisor => exact answers_next.mpr (s.fatal_bounded 1)
  | controlDieSilent => exact answers_next.mpr (s.fatal_bounded 1)
  | channelP => exact answers_next.mpr s.channelPFails_bounded
  | temperature => exact answers_whenB _ (s.fatal_bounded 1)
  | islandReset => exact answers_next.mpr s.islandDown_bounded
  | channelH => exact answers_next.mpr s.channelHFails_bounded

theorem State.withBoot_bounded (s : State) (b : BootSt) : Bounded s { s with boot := b } := Bounded.of_same ⟨rfl, rfl, rfl, rfl⟩

theorem State.raise_bounded (s : State) (code sev inst : Nat) (data : List Byte) : Bounded s (s.raise code sev inst data) := by simp

theorem State.fqDriveAll_bounded (s : State) : Bounded s s.fqDriveAll := by simp

@[simp] theorem execVfOff_answers (grp : Fin 2) (s : State) : Answers s (execVfOff grp s) := by
  refine answers_whenB _ (Bounded.trans ?_ (State.fqDriveAll_bounded _))
  refine Bounded.trans ?_ (Bounded.foldl (fun t j => Bounded.ite (by simp) (Bounded.refl t)) _ _)
  simp

@[simp] theorem execScrubPeriod_answers (corrected : Nat) (doubles : List ScrubSite) (s : State) :
    Answers s (execScrubPeriod corrected doubles s) := by
  exact Answers.ite (answers_next.mpr ((s.withBoot_bounded _).trans (Bounded.foldl (fun t d => t.scrubError_bounded d) _ _))) (by simp)

@[simp] theorem execPcieReset_answers (s : State) : Answers s (execPcieReset s) := by
  refine answers_next.mpr (Bounded.trans (s.closeWhere_bounded (fun src => decide (src = .pcie))) ?_)
  simp

@[simp] theorem execSesIdle_answers (slot : SlotIx) (s : State) : Answers s (execSesIdle slot s) :=
  answers_whenB _ (s.closeSession_bounded slot.val)

@[simp] theorem execSesClose_answers (c : CmdCtx) (s : State) : Answers s (execSesClose c s) :=
  State.hostAt_answers _ _ _ _ _ (fun t => (t.reply_bounded c 0x0203 stDone []).trans (State.closeSession_bounded _ _))

/-- A session that takes another phase than opened opens nothing. -/
theorem State.setSession_bounded (s : State) (i : Nat) {x : Session} (hx : x.phase ≠ .opened) : Bounded s (s.setSession i x) := by
  refine ⟨⟨rfl, id, fun j hj => ?_⟩, id⟩
  by_cases hij : j = i
  · subst hij
    exact absurd (by simpa using hj) hx
  · simpa [hij] using hj

@[simp] theorem execChallengeTimeout_answers (slot : SlotIx) (s : State) : Answers s (execChallengeTimeout slot s) :=
  answers_whenB _ (s.setSession_bounded slot.val nofun)

@[simp] theorem execSesHello_answers (src : HostSource) (seq : BitVec 16) (role : BitVec 8) (nonce : List Byte) (s : State) :
    Answers s (execSesHello src seq role nonce s) := by
  unfold execSesHello
  extract_lets t answer
  have ht : Bounded s t := by
    unfold t
    split <;> simp
  have ha : ∀ u b, Bounded s u → Bounded s (answer u b) := fun u b hu => hu.trans (Bounded.of_same (by simp [answer]))
  clear_value t answer
  have hn : ∀ b, Answers s (.next (answer t b)) := fun b => answers_next.mpr (ha t b ht)
  refine Answers.ite (answers_next.mpr ht) (Answers.ite (hn _) (Answers.ite (hn _) ?_))
  split
  · exact hn _
  refine Answers.ite (hn _) ?_
  split
  · exact hn _
  · refine answers_next.mpr (ha _ _ ((ht.trans ?_).trans (State.setSession_bounded _ _ nofun)))
    simp

@[simp] theorem execSysEvtMask_answers (c : CmdCtx) (classes : BitVec 16) (minSev : BitVec 8) (s : State) :
    Answers s (execSysEvtMask c classes minSev s) := by
  refine State.hostAt_answers _ _ _ _ _ (fun t => ?_)
  split <;> simp

@[simp] theorem execRotationDone_answers (e : EngIx) (pass : Bool) (s : State) : Answers s (execRotationDone e pass s) := by
  unfold execRotationDone
  extract_lets x s1 s2 s3
  refine Answers.ite ?_ (by simp)
  have h3 : Bounded s s3 := Bounded.of_same (by simp [s3, s2, s1])
  clear_value s3
  have h4 := s3.withBoot_bounded { s3.boot with rotCtx := none }
  exact answers_next.mpr (h3.trans (h4.trans (Bounded.ite (Bounded.refl _) (State.engineFail_bounded _ _ _))))

@[simp] theorem execEngineFailed_answers (e : EngIx) (cause : Bool) (s : State) : Answers s (execEngineFailed e cause s) := by
  simp [execEngineFailed, State.engineFail_bounded]

@[simp] theorem execMismatchTestStart_answers (s : State) : Answers s (execMismatchTestStart s) := by
  unfold execMismatchTestStart
  extract_lets rotated
  split
  · simp
  · refine Answers.ite (by simp) (answers_next.mpr (Bounded.trans ?_ (State.settleTests_bounded _)))
    simp

@[simp] theorem execFieldWatchdogClear_answers (s : State) : Answers s (execFieldWatchdogClear s) := by
  refine answers_whenB _ (Bounded.trans ?_ (State.raise_bounded _ _ _ _ _))
  refine Bounded.trans ?_ (State.fqDriveAll_bounded _)
  refine Bounded.trans ?_ (Bounded.foldl (fun t j => by simp) _ _)
  simp

@[simp] theorem execDisagreeClear_answers (c : CmdCtx) (s : State) : Answers s (execDisagreeClear c s) := s.statusWrite_answers c _ _
@[simp] theorem execPuClear_answers (c : CmdCtx) (o : Owner) (s : State) : Answers s (execPuClear c o s) := s.statusWrite_answers c _ _
@[simp] theorem execSwitchBackRequest_answers (c : CmdCtx) (s : State) : Answers s (execSwitchBackRequest c s) := s.statusWrite_answers c _ _

@[simp] theorem execStatusW1cWrite_answers (c : CmdCtx) (item : ParItem) (s : State) : Answers s (execStatusW1cWrite c item s) := by
  refine State.hostCommand_answers _ _ _ _ (fun t => ?_)
  split
  · simp
  · split <;> simp
@[simp] theorem execParSet_answers (c : CmdCtx) (item : ParItem) (s : State) : Answers s (execParSet c item s) := by
  refine State.hostCommand_answers _ _ _ _ (fun t => ?_)
  split <;> simp
@[simp] theorem execParGet_answers (c : CmdCtx) (ids : List (BitVec 32)) (s : State) : Answers s (execParGet c ids s) := by
  refine State.hostAt_answers _ _ _ _ _ (fun t => ?_)
  split
  · simp
  · refine Bounded.foldl (fun u i => ?_) _ _
    split <;> simp
@[simp] theorem execParInfo_answers (c : CmdCtx) (id : BitVec 32) (s : State) : Answers s (execParInfo c id s) := by
  refine State.hostAt_answers _ _ _ _ _ (fun t => ?_)
  split <;> simp
@[simp] theorem execMovDelete_answers (c : CmdCtx) (seq : BitVec 32) (s : State) : Answers s (execMovDelete c seq s) := by
  refine State.hostCommand_answers _ _ _ _ (fun t => ?_)
  repeat' split
  all_goals simp
@[simp] theorem execNetMdio_answers (c : CmdCtx) (bus op phy devad : BitVec 8) (reg data answer : BitVec 16) (s : State) :
    Answers s (execNetMdio c bus op phy devad reg data answer s) := by
  refine State.hostAt_answers _ _ _ _ _ (fun t => ?_)
  split <;> simp
@[simp] theorem execScsForce_answers (c : CmdCtx) (s : State) : Answers s (execScsForce c s) := by
  refine State.hostCommand_answers _ _ _ _ (fun t => ?_)
  split <;> simp
@[simp] theorem execScsArm_answers (c : CmdCtx) (s : State) : Answers s (execScsArm c s) := by
  refine State.hostCommand_answers _ _ _ _ (fun t => ?_)
  repeat' split
  all_goals simp
@[simp] theorem execDevInfo_answers (c : CmdCtx) (s : State) : Answers s (execDevInfo c s) :=
  State.hostAt_answers _ _ _ _ _ (fun t => Bounded.refl t)
@[simp] theorem execTwnInfo_answers (c : CmdCtx) (s : State) : Answers s (execTwnInfo c s) :=
  State.hostAt_answers _ _ _ _ _ (fun t => Bounded.refl t)
@[simp] theorem execTimGet_answers (c : CmdCtx) (s : State) : Answers s (execTimGet c s) :=
  State.hostAt_answers _ _ _ _ _ (fun t => Bounded.refl t)
@[simp] theorem execAxHome_answers (c : CmdCtx) (axis : BitVec 16) (dir : BitVec 8) (s : State) : Answers s (execAxHome c axis dir s) := by
  refine State.hostCommand_answers _ _ _ _ (fun t => ?_)
  dsimp only
  generalize (match t.localPort axis.toNat with | none => false | some n => decide (t.parN 0x04200005 n ≠ 1)) = b
  repeat' split
  all_goals simp [State.askStart_bounded]
@[simp] theorem execProContinue_answers (c : CmdCtx) (axis : BitVec 16) (s : State) : Answers s (execProContinue c axis s) := by
  refine State.hostCommand_answers _ _ _ _ (fun t => ?_)
  dsimp only
  repeat' split
  all_goals simp [State.askStart_bounded]

end Sys2Proof.Machine
end

section
/-! Bounded commands, part 2: the field die, the network, the twin link, the starts of motion, the resets and the engines. -/

namespace Sys2Proof.Machine

open Sys2Proof.Claims

@[simp] theorem execTHoldExpiry_answers (s : State) : Answers s (execTHoldExpiry s) := by
  refine answers_whenB _ (Bounded.trans ?_ (State.fqDriveAll_bounded _))
  exact Bounded.foldl (fun t j => by simp) _ _

@[simp] theorem execFieldWatchdog_answers (s : State) : Answers s (execFieldWatchdog s) := by
  refine answers_whenB _ (Bounded.trans ?_ (State.fqDriveAll_bounded _))
  refine Bounded.trans ?_ (Bounded.foldl (fun t j => by simp) _ _)
  simp

@[simp] theorem execReadbackSample_answers (deciVolts : List Int) (s : State) : Answers s (execReadbackSample deciVolts s) := by
  unfold execReadbackSample
  refine Answers.ite ?_ (by simp)
  dsimp only
  generalize hu : List.foldl _ s _ = u
  have hsu : Bounded s u := hu ▸ Bounded.foldl (fun w j => by simp) _ s
  generalize hv : List.foldl _ u _ = v
  have huv : Bounded u v := hv ▸ Bounded.foldl (fun w j => by repeat' split <;> simp) _ u
  refine answers_next.mpr ((hsu.trans huv).trans (Bounded.ite (Bounded.refl v) ?_))
  exact Bounded.foldl (fun w j => Bounded.foldl (fun z k => by split <;> simp) _ w) _ v

@[simp] theorem execFieldDieResetRelease_answers (vf : BitVec 16) (s : State) : Answers s (execFieldDieResetRelease vf s) := by
  refine answers_whenB _ (Bounded.trans ?_ (Bounded.foldl (fun t j => by simp) _ _))
  exact Bounded.of_same ⟨rfl, rfl, rfl, rfl⟩

@[simp] theorem execAdmissionRequest_answers (f : RxFrame) (s : State) : Answers s (execAdmissionRequest f s) := by
  refine State.takeDyn_answers (fun t n src pl => ?_) s f 1
  dsimp only
  repeat' split
  all_goals simp

@[simp] theorem execAcknowledge_answers (f : RxFrame) (s : State) : Answers s (execAcknowledge f s) :=
  State.takeDyn_answers (fun t n src pl => by simp) s f 5

@[simp] theorem execNodeParameterAccess_answers (f : RxFrame) (s : State) : Answers s (execNodeParameterAccess f s) := by
  refine State.takeDyn_answers (fun t n src pl => ?_) s f 4
  dsimp only
  repeat' split
  all_goals simp

@[simp] theorem execDiagnosticResponse_answers (f : RxFrame) (s : State) : Answers s (execDiagnosticResponse f s) := by
  refine State.takeDyn_answers (fun t n src pl => ?_) s f 3
  dsimp only
  repeat' split
  all_goals simp

@[simp] theorem execClaimPeriod_answers (s : State) : Answers s (execClaimPeriod s) := by
  refine answers_whenB _ (Bounded.of_same ?_)
  simp

@[simp] theorem execClaimEnd_answers (s : State) : Answers s (execClaimEnd s) := by
  refine answers_whenB _ (Bounded.trans ?_ (Bounded.foldl (fun t n => Bounded.ite (by simp) (Bounded.refl t)) _ _))
  simp

@[simp] theorem execClmReceive_answers (f : RxFrame) (s : State) : Answers s (execClmReceive f s) := by
  unfold execClmReceive
  extract_lets t r u
  have hu : Bounded s u := Bounded.of_same (by simp [u, t])
  clear_value t r u
  have hb : Bounded s u.becomeStandby := hu.trans (by simp)
  split
  · exact answers_next.mpr (Bounded.ite hb hu)
  · exact answers_next.mpr hu

theorem State.answerEnables_bounded (s : State) (a : Nat) : Bounded s (s.answerEnables a) := by
  unfold State.answerEnables
  refine Bounded.trans (t := s.modLife a _) ?_ (Bounded.foldl (fun t w => ?_) _ _)
  · simp
  · repeat' split
    all_goals simp

@[simp] theorem execHeldEnableExecute_answers (u : EnableUnit) (s : State) : Answers s (execHeldEnableExecute u s) := by
  cases u with
  | axis a =>
    unfold execHeldEnableExecute
    dsimp only
    have ht := s.answerEnables_bounded a.val
    generalize s.answerEnables a.val = t at ht ⊢
    repeat' split
    all_goals
      refine answers_next.mpr (ht.trans ?_)
      simp
  | output j =>
    unfold execHeldEnableExecute
    dsimp only
    repeat' split
    all_goals simp

@[simp] theorem execLog_answers (env : TwinEnv) (r : LogRec) (s : State) : Answers s (execLog env r s) := by
  refine State.twinTake_answers (fun t => ?_) s env
  split
  · dsimp only
    split <;> simp
  · simp

@[simp] theorem execVerdict_answers (env : TwinEnv) (cycle : Nat) (mismatches : List Nat) (s : State) :
    Answers s (execVerdict env cycle mismatches s) :=
  State.twinTake_answers (fun t => Bounded.ite (by simp) (Bounded.refl t)) s env

@[simp] theorem execResync_answers (env : TwinEnv) (addr : Nat) (words : List Word48) (s : State) : Answers s (execResync env addr words s) := by
  refine State.twinTake_answers (fun t => Bounded.ite ?_ (Bounded.refl t)) s env
  dsimp only
  repeat' split
  all_goals simp

@[simp] theorem execDigest_answers (env : TwinEnv) (cycle : Nat) (ds : List (BitVec 32)) (s : State) :
    Answers s (execDigest env cycle ds s) := by
  refine State.twinTake_answers (fun t => Bounded.ite ?_ (Bounded.refl t)) s env
  split <;> simp

@[simp] theorem execDeclare_answers (env : TwinEnv) (reason : BitVec 8) (last : Nat) (h : Option Nat) (s : State) :
    Answers s (execDeclare env reason last h s) :=
  State.twinTake_answers (fun t => Bounded.ite (by simp) (Bounded.refl t)) s env

@[simp] theorem execHealth_answers (env : TwinEnv) (m : HealthMsg) (s : State) : Answers s (execHealth env m s) :=
  State.twinTake_answers (fun t => by simp) s env

@[simp] theorem execLogAck_answers (env : TwinEnv) (pos : Nat) (s : State) : Answers s (execLogAck env pos s) :=
  State.twinTake_answers (fun t => by simp) s env

@[simp] theorem execRelease_answers (env : TwinEnv) (m : ReleaseMsg) (s : State) : Answers s (execRelease env m s) := by
  refine State.twinTake_answers (fun t => Bounded.ite ?_ (Bounded.refl t)) s env
  split
  · simp
  · split <;> simp

@[simp] theorem execTest_answers (env : TwinEnv) (e : EngIx) (pass : Bool) (s : State) : Answers s (execTest env e pass s) := by
  refine State.twinTake_answers (fun t => ?_) s env
  split
  · exact Bounded.refl t
  · refine Bounded.trans ?_ (State.settleTests_bounded _)
    simp

@[simp] theorem execTrigger_answers (env : TwinEnv) (at_ : T80) (mask : BitVec 8) (s : State) : Answers s (execTrigger env at_ mask s) :=
  State.twinTake_answers (fun t => Bounded.foldl (fun v u => Bounded.ite (by simp) (Bounded.refl v)) _ t) s env

theorem State.withSaf_bounded (s : State) {x : Safety} (hx : x.endgame = s.saf.endgame) : Bounded s { s with saf := x } :=
  Bounded.of_same ⟨rfl, hx, rfl, rfl⟩

theorem State.applyNet_bounded (s : State) : Bounded s s.applyNet := by
  simp

@[simp] theorem execJoinBoundary_answers (env : TwinEnv) (m : JoinMsg) (s : State) : Answers s (execJoinBoundary env m s) := by
  refine State.twinTake_answers (fun t => ?_) s env
  extract_lets st u _ _ _ _ _ s1 saf1 s2 s3
  have hu : Bounded t u := by simp [u]
  have h1 : Bounded u s1 := Bounded.of_same ⟨rfl, rfl, rfl, rfl⟩
  clear_value u s1
  have h2 : Bounded s1 s2 := Bounded.of_same (by simp [s2, saf1])
  clear_value s2
  have h3 : Bounded s2 s3 := Bounded.foldl (fun v n => Bounded.ite (by simp) (Bounded.refl v)) _ s2
  clear_value s3
  exact Bounded.ite ((((hu.trans h1).trans h2).trans h3).trans (Bounded.foldl (fun v x => by simp) _ s3)) (Bounded.refl t)

@[simp] theorem execProGroupLinear_answers (c : CmdCtx) (group : BitVec 8) (f a dp j : Word48) (targets : List (BitVec 16 × Word48)) (s : State) :
    Answers s (execProGroupLinear c group f a dp j targets s) := by
  refine State.hostCommand_answers _ _ _ _ (fun t => ?_)
  dsimp only
  repeat' split
  all_goals simp [State.askStart_bounded]

@[simp] theorem execAxMoveAbs_answers (c : CmdCtx) (axis : BitVec 16) (target vm am dm jm : Word48) (s : State) :
    Answers s (execAxMoveAbs c axis target vm am dm jm s) := by
  refine State.hostCommand_answers _ _ _ _ (fun t => ?_)
  dsimp only
  repeat' split
  all_goals simp [State.askStart_bounded]

@[simp] theorem execProStart_answers (c : CmdCtx) (axis first : BitVec 16) (mode : BitVec 8) (s : State) :
    Answers s (execProStart c axis first mode s) := by
  refine State.hostCommand_answers _ _ _ _ (fun t => ?_)
  dsimp only
  repeat' split
  all_goals simp [State.askStart_bounded]

@[simp] theorem execMovRead_answers (c : CmdCtx) (seq : BitVec 32) (s : State) : Answers s (execMovRead c seq s) := by
  refine State.hostAt_answers _ _ _ _ _ (fun t => ?_)
  split <;> simp

theorem State.withCyc_bounded (s : State) (x : Cycle) : Bounded s { s with cyc := x } := Bounded.of_same ⟨rfl, rfl, rfl, rfl⟩

@[simp] theorem execRefSeal_answers (s : State) : Answers s (execRefSeal s) := by
  unfold execRefSeal
  extract_lets k s1 s2 s3 s4 s5 s6 s7
  have h1 : Bounded s s1 := Bounded.foldl (fun t a => by simp) _ s
  have h2 : Bounded s1 s2 := by simp [s2]
  have h3 : Bounded s2 s3 := Bounded.foldl (fun t a => Bounded.ite (by simp) (Bounded.refl t)) _ s2
  clear_value s1 s2 s3
  have h4 : Bounded s3 s4 := by simp [s4]
  have h5 : Bounded s4 s5 := by simp [s5]
  have h7 : Bounded s5 s7 := by simp [s7, s6]
  clear_value s4 s5 s6 s7
  split
  · simp
  · exact answers_next.mpr (h1.trans (h2.trans (h3.trans (h4.trans (h5.trans (h7.trans (s7.withCyc_bounded _)))))))

theorem State.retryRotation_bounded (s : State) : Bounded s s.retryRotation := by simp

@[simp] theorem execRotationDue_answers (s : State) : Answers s (execRotationDue s) := by
  unfold execRotationDue
  dsimp only
  split
  · refine answers_next.mpr (Bounded.trans ?_ (State.retryRotation_bounded _))
    exact s.withBoot_bounded _
  · simp

/-- A device that resets lets no session live; what its queue holds it keeps, and Endgame mode where its safety state has it. -/
theorem State.controlReset_bounded (s : State) (cause : Nat) {saf : Safety} (time : WallTime) (params : Sparse Int) (fld : FieldCtl)
    (hsaf : s.saf.endgame ≠ none → saf.endgame ≠ none) : Bounded s (s.controlReset cause saf time params fld) :=
  ⟨⟨rfl, hsaf, fun _ => nofun⟩, fun _ => rfl⟩

@[simp] theorem execResetN_answers (pins : ResetPins) (s : State) : Answers s (execResetN pins s) := by
  unfold execResetN
  extract_lets due cause held quiet s0 f0 f1 f2 saf params s1
  have h0 : Bounded s s0 := Bounded.ite (Bounded.refl s) (s.fatal_bounded 1)
  have hsaf : s0.saf.endgame ≠ none → saf.endgame ≠ none := by
    by_cases hq : quiet = true
    · have hs : s.saf.endgame = none := by
        have hheld : held = false := by simp_all [quiet]
        simpa [held] using (Bool.or_eq_false_iff.mp hheld).2
      have hs0 : s0 = s := if_pos (by simp [hq])
      rw [hs0, hs]
      exact fun h => absurd rfl h
    · simp [saf, hq, f2]
  have h1 : Bounded s0 s1 := s0.controlReset_bounded cause _ params _ hsaf
  clear_value s0 s1
  exact answers_next.mpr ((h0.trans h1).trans (s1.withBoot_bounded _))

theorem State.engineStep_answers (s : State) (e cost : Nat) (f : State → Engine → Running → EngOut) : Answers s (s.engineStep e cost f) := by
  unfold State.engineStep
  split
  · simp
  · split
    · exact answers_next.mpr (Bounded.of_same (by simp))
    · exact answers_next.mpr (Bounded.of_same (by simp))
    · exact answers_next.mpr (s.engineFail_bounded e 0)

@[simp] theorem execCeEnd_answers (e : EngIx) (s : State) : Answers s (execCeEnd e s) := by
  unfold execCeEnd
  split
  · simp
  · rename_i r _
    dsimp only
    generalize hu : (s.drain e.val).modEngine e.val _ = u
    have hsu : Bounded s u := by simp [← hu]
    refine answers_next.mpr (hsu.trans (Bounded.ite ?_ ?_))
    all_goals simp

@[simp] theorem execCeFence_answers (e : EngIx) (s : State) : Answers s (execCeFence e s) := by
  unfold execCeFence
  split
  · simp
  · obtain ⟨t, ht, hst⟩ := (s.drain e.val).engineStep_answers e.val (1 + (s.engine e.val).stores.length) (fun _ x _ => .seq x)
    exact ⟨t, ht, Bounded.trans (by simp) hst⟩

end Sys2Proof.Machine
end

section
/-! Bounded commands, part 3: those whose operations are bounded one by one. -/

namespace Sys2Proof.Machine

open Sys2Proof.Claims

/-! The host's commands. -/

@[simp] theorem execSysReset_answers (c : CmdCtx) (kind : BitVec 8) (s : State) : Answers s (execSysReset c kind s) := by
  refine State.hostAt_answers _ _ _ _ _ (fun t => ?_)
  dsimp only
  repeat' split
  all_goals simp

@[simp] theorem execSysEvtRead_answers (c : CmdCtx) (start : BitVec 32) (count : BitVec 8) (s : State) :
    Answers s (execSysEvtRead c start count s) := by
  refine State.hostAt_answers _ _ _ _ _ (fun t => ?_)
  dsimp only
  repeat' split
  all_goals simp

@[simp] theorem execAxCoefRead_answers (c : CmdCtx) (axis : BitVec 16) (offset : BitVec 16) (count : BitVec 8) (s : State) :
    Answers s (execAxCoefRead c axis offset count s) := by
  refine State.hostAt_answers _ _ _ _ _ (fun t => ?_)
  dsimp only
  repeat' split
  all_goals simp

@[simp] theorem execProSegRead_answers (c : CmdCtx) (first : BitVec 16) (count : BitVec 8) (s : State) :
    Answers s (execProSegRead c first count s) := by
  refine State.hostAt_answers _ _ _ _ _ (fun t => ?_)
  dsimp only
  repeat' split
  all_goals simp

@[simp] theorem execNetMeasure_answers (c : CmdCtx) (seg port hop : BitVec 8) (s : State) : Answers s (execNetMeasure c seg port hop s) := by
  refine State.hostAt_answers _ _ _ _ _ (fun t => ?_)
  dsimp only
  repeat' split
  all_goals simp

@[simp] theorem execScsRead_answers (c : CmdCtx) (first : BitVec 32) (count : BitVec 16) (s : State) :
    Answers s (execScsRead c first count s) := by
  refine State.hostAt_answers _ _ _ _ _ (fun t => ?_)
  dsimp only
  repeat' split
  all_goals simp

@[simp] theorem execTimSrcRead_answers (c : CmdCtx) (src : BitVec 8) (s : State) : Answers s (execTimSrcRead c src s) := by
  refine State.hostAt_answers _ _ _ _ _ (fun t => ?_)
  dsimp only
  repeat' split
  all_goals simp

@[simp] theorem execArbQueueRead_answers (c : CmdCtx) (group : BitVec 8) (start : BitVec 16) (s : State) :
    Answers s (execArbQueueRead c group start s) := by
  refine State.hostAt_answers _ _ _ _ _ (fun t => ?_)
  dsimp only
  repeat' split
  all_goals simp

@[simp] theorem execImgWrite_answers (c : CmdCtx) (offset : BitVec 32) (data : List Byte) (s : State) :
    Answers s (execImgWrite c offset data s) := by
  refine State.hostAt_answers _ _ _ _ _ (fun t => ?_)
  dsimp only
  repeat' split
  all_goals simp

@[simp] theorem execImgActivate_answers (c : CmdCtx) (s : State) : Answers s (execImgActivate c s) := by
  refine State.hostAt_answers _ _ _ _ _ (fun t => ?_)
  dsimp only
  repeat' split
  all_goals simp

@[simp] theorem execImgInfo_answers (c : CmdCtx) (bank : BitVec 8) (s : State) : Answers s (execImgInfo c bank s) := by
  refine State.hostAt_answers _ _ _ _ _ (fun t => ?_)
  dsimp only
  repeat' split
  all_goals simp

@[simp] theorem execSesKeySet_answers (c : CmdCtx) (role : BitVec 8) (wrapped : List Byte) (s : State) :
    Answers s (execSesKeySet c role wrapped s) := by
  refine State.hostCommand_answers _ _ _ _ (fun t => ?_)
  dsimp only
  repeat' split
  all_goals simp

@[simp] theorem execAxEnable_answers (c : CmdCtx) (axis : BitVec 16) (s : State) : Answers s (execAxEnable c axis s) := by
  refine State.hostCommand_answers _ _ _ _ (fun t => ?_)
  dsimp only
  repeat' split
  all_goals simp

@[simp] theorem execAxDisable_answers (c : CmdCtx) (axis : BitVec 16) (s : State) : Answers s (execAxDisable c axis s) := by
  refine State.hostCommand_answers _ _ _ _ (fun t => ?_)
  dsimp only
  repeat' split
  all_goals simp

@[simp] theorem execAxFaultReset_answers (c : CmdCtx) (axis : BitVec 16) (s : State) : Answers s (execAxFaultReset c axis s) := by
  refine State.hostCommand_answers _ _ _ _ (fun t => ?_)
  dsimp only
  repeat' split
  all_goals simp

@[simp] theorem execAxHalt_answers (c : CmdCtx) (axis : BitVec 16) (dec : Word48) (s : State) : Answers s (execAxHalt c axis dec s) := by
  refine State.hostCommand_answers _ _ _ _ (fun t => ?_)
  dsimp only
  repeat' split
  all_goals simp

@[simp] theorem execAxCoefWrite_answers (c : CmdCtx) (axis : BitVec 16) (offset : BitVec 16) (value : Word48) (s : State) :
    Answers s (execAxCoefWrite c axis offset value s) := by
  refine State.hostCommand_answers _ _ _ _ (fun t => ?_)
  dsimp only
  repeat' split
  all_goals simp

@[simp] theorem execAxPark_answers (c : CmdCtx) (axis : BitVec 16) (on : BitVec 8) (s : State) : Answers s (execAxPark c axis on s) := by
  refine State.hostCommand_answers _ _ _ _ (fun t => ?_)
  dsimp only
  repeat' split
  all_goals simp

@[simp] theorem execAxDirect_answers (c : CmdCtx) (axis : BitVec 16) (op : BitVec 8) (refs : List DirectRef) (s : State) :
    Answers s (execAxDirect c axis op refs s) := by
  refine State.hostCommand_answers _ _ _ _ (fun t => ?_)
  dsimp only
  repeat' split
  all_goals simp

@[simp] theorem execProSegWrite_answers (c : CmdCtx) (first : BitVec 16) (segs : List PvtSeg) (s : State) :
    Answers s (execProSegWrite c first segs s) := by
  refine State.hostCommand_answers _ _ _ _ (fun t => ?_)
  dsimp only
  repeat' split
  all_goals simp

@[simp] theorem execMovAdd_answers (c : CmdCtx) (entries : List MoveEntry) (s : State) : Answers s (execMovAdd c entries s) := by
  refine State.hostCommand_answers _ _ _ _ (fun t => ?_)
  dsimp only
  repeat' split
  all_goals simp

@[simp] theorem execMovClear_answers (c : CmdCtx) (grp : BitVec 8) (s : State) : Answers s (execMovClear c grp s) := by
  refine State.hostCommand_answers _ _ _ _ (fun t => ?_)
  dsimp only
  repeat' split
  all_goals simp

@[simp] theorem execMovResume_answers (c : CmdCtx) (s : State) : Answers s (execMovResume c s) := by
  refine State.hostCommand_answers _ _ _ _ (fun t => ?_)
  dsimp only
  repeat' split
  all_goals simp

@[simp] theorem execNetOpening_answers (c : CmdCtx) (s : State) : Answers s (execNetOpening c s) := by
  refine State.hostCommand_answers _ _ _ _ (fun t => ?_)
  dsimp only
  repeat' split
  all_goals simp

@[simp] theorem execNetSchedActivate_answers (c : CmdCtx) (seg : BitVec 8) (s : State) : Answers s (execNetSchedActivate c seg s) := by
  refine State.hostCommand_answers _ _ _ _ (fun t => ?_)
  dsimp only
  repeat' split
  all_goals simp

@[simp] theorem execNetNodeAdmit_answers (c : CmdCtx) (seg : BitVec 8) (addr : BitVec 8) (serial : BitVec 48) (s : State) :
    Answers s (execNetNodeAdmit c seg addr serial s) := by
  refine State.hostCommand_answers _ _ _ _ (fun t => ?_)
  dsimp only
  repeat' split
  all_goals simp

@[simp] theorem execNetNodeRemove_answers (c : CmdCtx) (seg : BitVec 8) (addr : BitVec 8) (s : State) :
    Answers s (execNetNodeRemove c seg addr s) := by
  refine State.hostCommand_answers _ _ _ _ (fun t => ?_)
  dsimp only
  repeat' split
  all_goals simp

@[simp] theorem execNetRingRestore_answers (c : CmdCtx) (seg : BitVec 8) (s : State) : Answers s (execNetRingRestore c seg s) := by
  refine State.hostCommand_answers _ _ _ _ (fun t => ?_)
  dsimp only
  repeat' split
  all_goals simp

@[simp] theorem execSafDemand_answers (c : CmdCtx) (mask : BitVec 32) (kind : BitVec 8) (s : State) :
    Answers s (execSafDemand c mask kind s) := by
  refine State.hostCommand_answers _ _ _ _ (fun t => ?_)
  dsimp only
  repeat' split
  all_goals simp

@[simp] theorem execSafAck_answers (c : CmdCtx) (mask : BitVec 32) (s : State) : Answers s (execSafAck c mask s) := by
  refine State.hostCommand_answers _ _ _ _ (fun t => ?_)
  dsimp only
  repeat' split
  all_goals simp

@[simp] theorem execSafParamLoad_answers (c : CmdCtx) (sect : List Byte) (s : State) : Answers s (execSafParamLoad c sect s) := by
  refine State.hostCommand_answers _ _ _ _ (fun t => ?_)
  dsimp only
  repeat' split
  all_goals simp

@[simp] theorem execTwnSwap_answers (c : CmdCtx) (s : State) : Answers s (execTwnSwap c s) := by
  refine State.hostCommand_answers _ _ _ _ (fun t => ?_)
  dsimp only
  repeat' split
  all_goals simp

@[simp] theorem execScsStop_answers (c : CmdCtx) (s : State) : Answers s (execScsStop c s) := by
  refine State.hostCommand_answers _ _ _ _ (fun t => ?_)
  dsimp only
  repeat' split
  all_goals simp

@[simp] theorem execTimRestep_answers (c : CmdCtx) (s : State) : Answers s (execTimRestep c s) := by
  refine State.hostCommand_answers _ _ _ _ (fun t => ?_)
  dsimp only
  repeat' split
  all_goals simp

@[simp] theorem execArbBudgetSet_answers (c : CmdCtx) (which : BitVec 8) (values : List (BitVec 32)) (s : State) :
    Answers s (execArbBudgetSet c which values s) := by
  refine State.hostCommand_answers _ _ _ _ (fun t => ?_)
  dsimp only
  repeat' split
  all_goals simp

@[simp] theorem execFldOutSet_answers (c : CmdCtx) (mask levels : BitVec 8) (s : State) : Answers s (execFldOutSet c mask levels s) := by
  refine State.hostCommand_answers _ _ _ _ (fun t => ?_)
  dsimp only
  repeat' split
  all_goals simp

@[simp] theorem execFldLatchClear_answers (c : CmdCtx) (mask : BitVec 8) (s : State) : Answers s (execFldLatchClear c mask s) := by
  refine State.hostCommand_answers _ _ _ _ (fun t => ?_)
  dsimp only
  repeat' split
  all_goals simp

@[simp] theorem execFldRestart_answers (c : CmdCtx) (s : State) : Answers s (execFldRestart c s) := by
  refine State.hostCommand_answers _ _ _ _ (fun t => ?_)
  dsimp only
  repeat' split
  all_goals simp

@[simp] theorem execSvcEngineRotate_answers (c : CmdCtx) (engine : BitVec 8) (s : State) : Answers s (execSvcEngineRotate c engine s) := by
  refine State.hostCommand_answers _ _ _ _ (fun t => ?_)
  dsimp only
  repeat' split
  all_goals simp

@[simp] theorem execSvcSegTest_answers (c : CmdCtx) (seg mode : BitVec 8) (duration : BitVec 16) (s : State) :
    Answers s (execSvcSegTest c seg mode duration s) := by
  refine State.hostCommand_answers _ _ _ _ (fun t => ?_)
  dsimp only
  repeat' split
  all_goals simp

/-! The events of the device. -/

@[simp] theorem execLocalDispatch_answers (s : State) : Answers s (execLocalDispatch s) := by
  unfold execLocalDispatch
  dsimp only
  repeat' split
  all_goals simp

@[simp] theorem execEngineDispatch_answers (e : EngIx) (s : State) : Answers s (execEngineDispatch e s) := by
  unfold execEngineDispatch
  dsimp only
  repeat' split
  all_goals simp

@[simp] theorem execStillEntry_answers (o : Owner) (s : State) : Answers s (execStillEntry o s) := by
  simp [execStillEntry]

@[simp] theorem execSettlingEnd_answers (o : Owner) (s : State) : Answers s (execSettlingEnd o s) := by
  simp [execSettlingEnd]

@[simp] theorem execFbkFrameReceive_answers (f : RxFrame) (s0 : State) : Answers s0 (execFbkFrameReceive f s0) := by
  unfold execFbkFrameReceive
  dsimp only
  repeat' split
  all_goals simp

@[simp] theorem execFbkRelease_answers (a : AxisIx) (s : State) : Answers s (execFbkRelease a s) := by
  unfold execFbkRelease
  dsimp only
  repeat' split
  all_goals simp

@[simp] theorem execAxisDeadline_answers (a : AxisIx) (s : State) : Answers s (execAxisDeadline a s) := by
  unfold execAxisDeadline
  dsimp only
  repeat' split
  all_goals simp

@[simp] theorem execAgeFault_answers (a : AxisIx) (s : State) : Answers s (execAgeFault a s) := by
  simp [execAgeFault]

@[simp] theorem execMoveListPass_answers (s : State) : Answers s (execMoveListPass s) := by
  unfold execMoveListPass
  repeat' split
  all_goals simp

@[simp] theorem execCaptureEvent_answers (seq : BitVec 32) (s : State) : Answers s (execCaptureEvent seq s) := by
  unfold execCaptureEvent
  dsimp only
  repeat' split
  all_goals simp

@[simp] theorem execHeatTick_answers (temps : List Int) (act : Activity) (s : State) : Answers s (execHeatTick temps act s) := by
  unfold execHeatTick
  dsimp only
  repeat' split
  all_goals simp

@[simp] theorem execDmax_answers (a : AxisIx) (s : State) : Answers s (execDmax a s) := by
  unfold execDmax
  dsimp only
  repeat' split
  all_goals simp

@[simp] theorem execCsfReturn_answers (seg : SegIx) (lam : LoopTime) (s : State) : Answers s (execCsfReturn seg lam s) := by
  unfold execCsfReturn
  dsimp only
  repeat' split
  all_goals simp

@[simp] theorem execLoopDrift_answers (seg : SegIx) (s : State) : Answers s (execLoopDrift seg s) := by
  simp [execLoopDrift]

@[simp] theorem execCsfReturnMissing_answers (seg : SegIx) (s : State) : Answers s (execCsfReturnMissing seg s) := by
  simp [execCsfReturnMissing]

@[simp] theorem execPortLinkDown_answers (p : PortIx) (src : LinkSource) (s : State) : Answers s (execPortLinkDown p src s) := by
  simp [execPortLinkDown]

@[simp] theorem execMdioLinkPoll_answers (p : PortIx) (bmsr : BitVec 16) (s : State) : Answers s (execMdioLinkPoll p bmsr s) := by
  unfold execMdioLinkPoll
  dsimp only
  repeat' split
  all_goals simp

@[simp] theorem execLoopFrameReceive_answers (f : RxFrame) (s0 : State) : Answers s0 (execLoopFrameReceive f s0) := by
  simp [execLoopFrameReceive]

@[simp] theorem execRingRestoreAuto_answers (seg : SegIx) (s : State) : Answers s (execRingRestoreAuto seg s) := by
  unfold execRingRestoreAuto
  dsimp only
  repeat' split
  all_goals simp

@[simp] theorem execRingRestored_answers (seg : SegIx) (s : State) : Answers s (execRingRestored seg s) := by
  unfold execRingRestored
  dsimp only
  repeat' split
  all_goals simp

@[simp] theorem execSafUplinkReceive_answers (f : RxFrame) (s0 : State) : Answers s0 (execSafUplinkReceive f s0) := by
  unfold execSafUplinkReceive
  dsimp only
  repeat' split
  all_goals simp

@[simp] theorem execUplinkInvalidRun_answers (a : AxisIx) (s : State) : Answers s (execUplinkInvalidRun a s) := by
  simp [execUplinkInvalidRun]

@[simp] theorem execUpTimeout_answers (a : AxisIx) (s : State) : Answers s (execUpTimeout a s) := by
  simp [execUpTimeout]

@[simp] theorem execSs1Tmax_answers (ch : Chan) (g : GroupIx) (s : State) : Answers s (execSs1Tmax ch g s) := by
  unfold execSs1Tmax
  dsimp only
  repeat' split
  all_goals simp

@[simp] theorem execStandstillConfirm_answers (ch : Chan) (g : GroupIx) (s : State) : Answers s (execStandstillConfirm ch g s) := by
  unfold execStandstillConfirm
  dsimp only
  repeat' split
  all_goals simp

@[simp] theorem execSpeedDiscrepancy_answers (a : AxisIx) (s : State) : Answers s (execSpeedDiscrepancy a s) := by
  simp [execSpeedDiscrepancy]

@[simp] theorem execIslandSeqReport_answers (s : State) : Answers s (execIslandSeqReport s) := by
  simp [execIslandSeqReport]

@[simp] theorem execTwinBitExpiry_answers (s : State) : Answers s (execTwinBitExpiry s) := by
  simp [execTwinBitExpiry]

@[simp] theorem execSiDiscrepancy_answers (ch : Chan) (i : PairIx) (s : State) : Answers s (execSiDiscrepancy ch i s) := by
  unfold execSiDiscrepancy
  dsimp only
  repeat' split
  all_goals simp

@[simp] theorem execBarrierLinkLost_answers (ch : Chan) (s : State) : Answers s (execBarrierLinkLost ch s) := by
  simp [execBarrierLinkLost]

@[simp] theorem execBarrierLinkRecover_answers (ch : Chan) (s : State) : Answers s (execBarrierLinkRecover ch s) := by
  simp [execBarrierLinkRecover]

@[simp] theorem execAckWinExpiry_answers (s : State) : Answers s (execAckWinExpiry s) := by
  simp [execAckWinExpiry]

@[simp] theorem execSafParamActivate_answers (s : State) : Answers s (execSafParamActivate s) := by
  unfold execSafParamActivate
  dsimp only
  repeat' split
  all_goals simp

@[simp] theorem execSafParamDiscard_answers (s : State) : Answers s (execSafParamDiscard s) := by
  unfold execSafParamDiscard
  dsimp only
  repeat' split
  all_goals simp

@[simp] theorem execFieldMUplinkReceive_answers (bytes : List Byte) (s : State) : Answers s (execFieldMUplinkReceive bytes s) := by
  unfold execFieldMUplinkReceive
  dsimp only
  repeat' split
  all_goals simp

@[simp] theorem execFieldHUplinkReceive_answers (bytes : List Byte) (s : State) : Answers s (execFieldHUplinkReceive bytes s) := by
  unfold execFieldHUplinkReceive
  dsimp only
  repeat' split
  all_goals simp

@[simp] theorem execFieldDownlinkReceive_answers (b : Barrier) (bytes : List Byte) (s : State) :
    Answers s (execFieldDownlinkReceive b bytes s) := by
  unfold execFieldDownlinkReceive
  dsimp only
  repeat' split
  all_goals simp

@[simp] theorem execTimedOrderFire_answers (tag : BitVec 16) (s : State) : Answers s (execTimedOrderFire tag s) := by
  unfold execTimedOrderFire
  repeat' split
  all_goals simp

@[simp] theorem execFiSampleWindow_answers (test : Bool) (deciVolts : List Nat) (s : State) :
    Answers s (execFiSampleWindow test deciVolts s) := by
  simp [execFiSampleWindow]

@[simp] theorem execBarrierFramePeriod_answers (s : State) : Answers s (execBarrierFramePeriod s) := by
  unfold execBarrierFramePeriod
  dsimp only
  repeat' split
  all_goals simp

@[simp] theorem execTestPulse_answers (k : Fin 2) (s : State) : Answers s (execTestPulse k s) := by
  simp [execTestPulse]

@[simp] theorem execOffPulse_answers (j : FqIx) (s : State) : Answers s (execOffPulse j s) := by
  unfold execOffPulse
  dsimp only
  repeat' split
  all_goals simp

@[simp] theorem execOffPulseJudge_answers (j : FqIx) (s : State) : Answers s (execOffPulseJudge j s) := by
  unfold execOffPulseJudge
  dsimp only
  repeat' split
  all_goals simp

@[simp] theorem execOverload_answers (j : FqIx) (limiting : Bool) (s : State) : Answers s (execOverload j limiting s) := by
  simp [execOverload]

@[simp] theorem execThermalShutdown_answers (j : FqIx) (tj : Int) (s : State) : Answers s (execThermalShutdown j tj s) := by
  simp [execThermalShutdown]

@[simp] theorem execCoolDownEnd_answers (j : FqIx) (tj : Int) (s : State) : Answers s (execCoolDownEnd j tj s) := by
  simp [execCoolDownEnd]

@[simp] theorem execDemagEnd_answers (j : FqIx) (pinMilliVolts : Int) (s : State) : Answers s (execDemagEnd j pinMilliVolts s) := by
  simp [execDemagEnd]

@[simp] theorem execDemagLong_answers (j : FqIx) (s : State) : Answers s (execDemagLong j s) := by
  simp [execDemagLong]

@[simp] theorem execSafetyLinkDisagree_answers (j : FqIx) (s : State) : Answers s (execSafetyLinkDisagree j s) := by
  unfold execSafetyLinkDisagree
  dsimp only
  repeat' split
  all_goals simp

@[simp] theorem execSupplyMeasure_answers (vf : BitVec 16) (vqa : BitVec 16) (vqb : BitVec 16) (s : State) :
    Answers s (execSupplyMeasure vf vqa vqb s) := by
  simp [execSupplyMeasure]

@[simp] theorem execVfWarn_answers (s : State) : Answers s (execVfWarn s) := by
  simp [execVfWarn]

@[simp] theorem execVfLow_answers (s : State) : Answers s (execVfLow s) := by
  simp [execVfLow]

@[simp] theorem execSupplyThresholdClear_answers (s : State) : Answers s (execSupplyThresholdClear s) := by
  simp [execSupplyThresholdClear]

@[simp] theorem execRestartOk_answers (grp : Fin 2) (s : State) : Answers s (execRestartOk grp s) := by
  unfold execRestartOk
  dsimp only
  repeat' split
  all_goals simp

@[simp] theorem execFieldDieReset_answers (vf : BitVec 16) (s : State) : Answers s (execFieldDieReset vf s) := by
  simp [execFieldDieReset]

@[simp] theorem execFbEdge_answers (n : FbIx) (onB : Bool) (level : Bool) (stamp : PinTime) (s : State) :
    Answers s (execFbEdge n onB level stamp s) := by
  unfold execFbEdge
  dsimp only
  repeat' split
  all_goals simp

@[simp] theorem execPhaseError_answers (n : FbIx) (levelA : Bool) (levelB : Bool) (stamp : PinTime) (s : State) :
    Answers s (execPhaseError n levelA levelB stamp s) := by
  simp [execPhaseError]

@[simp] theorem execHallCodeChange_answers (n : FbIx) (code : BitVec 3) (stamp : PinTime) (s : State) :
    Answers s (execHallCodeChange n code stamp s) := by
  unfold execHallCodeChange
  dsimp only
  repeat' split
  all_goals simp

@[simp] theorem execIndexMark_answers (n : FbIx) (rising : Bool) (stamp : PinTime) (s : State) :
    Answers s (execIndexMark n rising stamp s) := by
  unfold execIndexMark
  dsimp only
  repeat' split
  all_goals simp

@[simp] theorem execSsiBurstStart_answers (n : FbIx) (s : State) : Answers s (execSsiBurstStart n s) := by
  simp [execSsiBurstStart]

@[simp] theorem execSsiReading_answers (n : FbIx) (word : BitVec 56) (s : State) : Answers s (execSsiReading n word s) := by
  simp [execSsiReading]

@[simp] theorem execEnableComplete_answers (a : AxisIx) (s : State) : Answers s (execEnableComplete a s) := by
  simp [execEnableComplete]

@[simp] theorem execEnTimeout_answers (a : AxisIx) (s : State) : Answers s (execEnTimeout a s) := by
  simp [execEnTimeout]

@[simp] theorem execStopConfirm_answers (a : AxisIx) (s : State) : Answers s (execStopConfirm a s) := by
  unfold execStopConfirm
  dsimp only
  repeat' split
  all_goals simp

@[simp] theorem execBrakeTElapsed_answers (a : AxisIx) (s : State) : Answers s (execBrakeTElapsed a s) := by
  unfold execBrakeTElapsed
  dsimp only
  repeat' split
  all_goals simp

@[simp] theorem execHoldMax_answers (a : AxisIx) (s : State) : Answers s (execHoldMax a s) := by
  simp [execHoldMax]

@[simp] theorem execStallDetect_answers (a : AxisIx) (s : State) : Answers s (execStallDetect a s) := by
  unfold execStallDetect
  dsimp only
  repeat' split
  all_goals simp

@[simp] theorem execHomeFail_answers (a : AxisIx) (s : State) : Answers s (execHomeFail a s) := by
  unfold execHomeFail
  dsimp only
  repeat' split
  all_goals simp

@[simp] theorem execHomingComplete_answers (a : AxisIx) (s : State) : Answers s (execHomingComplete a s) := by
  unfold execHomingComplete
  dsimp only
  repeat' split
  all_goals simp

@[simp] theorem execDirectMiss_answers (a : AxisIx) (s : State) : Answers s (execDirectMiss a s) := by
  unfold execDirectMiss
  dsimp only
  repeat' split
  all_goals simp

@[simp] theorem execStnFlt_answers (n : StIx) (active : FltLevel) (s : State) : Answers s (execStnFlt n active s) := by
  unfold execStnFlt
  dsimp only
  repeat' split
  all_goals simp

@[simp] theorem execStEnDelayElapsed_answers (n : StIx) (s : State) : Answers s (execStEnDelayElapsed n s) := by
  unfold execStEnDelayElapsed
  dsimp only
  repeat' split
  all_goals simp

@[simp] theorem execCoefWriteLand_answers (a : AxisIx) (s : State) : Answers s (execCoefWriteLand a s) := by
  simp [execCoefWriteLand]

@[simp] theorem execSegmentWriteLand_answers (s : State) : Answers s (execSegmentWriteLand s) := by
  simp [execSegmentWriteLand]

@[simp] theorem execParameterWriteLand_answers (s : State) : Answers s (execParameterWriteLand s) := by
  simp [execParameterWriteLand]

@[simp] theorem execMovAddLand_answers (s : State) : Answers s (execMovAddLand s) := by
  simp [execMovAddLand]

@[simp] theorem execLineDisagree_answers (s : State) : Answers s (execLineDisagree s) := by
  simp [execLineDisagree]

@[simp] theorem execLineLost_answers (s : State) : Answers s (execLineLost s) := by
  unfold execLineLost
  dsimp only
  repeat' split
  all_goals simp

@[simp] theorem execLineRevalid_answers (s : State) : Answers s (execLineRevalid s) := by
  simp [execLineRevalid]

@[simp] theorem execSwitchBack_answers (s : State) : Answers s (execSwitchBack s) := by
  unfold execSwitchBack
  dsimp only
  repeat' split
  all_goals simp

@[simp] theorem execIodReceive_answers (f : RxFrame) (s0 : State) : Answers s0 (execIodReceive f s0) := by
  unfold execIodReceive
  dsimp only
  repeat' split
  all_goals simp

@[simp] theorem execFlushLost_answers (seq : BitVec 32) (s : State) : Answers s (execFlushLost seq s) := by
  unfold execFlushLost
  dsimp only
  repeat' split
  all_goals simp

@[simp] theorem execSupStatusReceive_answers (f : RxFrame) (s0 : State) : Answers s0 (execSupStatusReceive f s0) := by
  unfold execSupStatusReceive
  dsimp only
  repeat' split
  all_goals simp

@[simp] theorem execDynTurn_answers (seg : SegIx) (minislot : BitVec 8) (s : State) : Answers s (execDynTurn seg minislot s) := by
  unfold execDynTurn
  dsimp only
  repeat' split
  all_goals simp

@[simp] theorem execDynRepeat_answers (seg : SegIx) (s : State) : Answers s (execDynRepeat seg s) := by
  simp [execDynRepeat]

@[simp] theorem execSurResponse_answers (f : RxFrame) (s0 : State) : Answers s0 (execSurResponse f s0) := by
  unfold execSurResponse
  dsimp only
  repeat' split
  all_goals simp

@[simp] theorem execSurRequestReturn_answers (seg : SegIx) (portB : Bool) (s : State) : Answers s (execSurRequestReturn seg portB s) := by
  unfold execSurRequestReturn
  dsimp only
  repeat' split
  all_goals simp

@[simp] theorem execSurveyTimeout_answers (seg : SegIx) (s : State) : Answers s (execSurveyTimeout seg s) := by
  unfold execSurveyTimeout
  dsimp only
  repeat' split
  all_goals simp

@[simp] theorem execListenEnd_answers (s : State) : Answers s (execListenEnd s) := by
  simp [execListenEnd]

@[simp] theorem execSynchroniseEnd_answers (seg : SegIx) (s : State) : Answers s (execSynchroniseEnd seg s) := by
  unfold execSynchroniseEnd
  dsimp only
  repeat' split
  all_goals simp

@[simp] theorem execForeignCsfReceive_answers (f : RxFrame) (s0 : State) : Answers s0 (execForeignCsfReceive f s0) := by
  unfold execForeignCsfReceive
  dsimp only
  repeat' split
  all_goals simp

@[simp] theorem execStandbyCsfReceive_answers (f : RxFrame) (s0 : State) : Answers s0 (execStandbyCsfReceive f s0) := by
  unfold execStandbyCsfReceive
  dsimp only
  repeat' split
  all_goals simp

@[simp] theorem execTakeoverUndetected_answers (s : State) : Answers s (execTakeoverUndetected s) := by
  simp [execTakeoverUndetected]

@[simp] theorem execHealthSend_answers (s : State) : Answers s (execHealthSend s) := by
  simp [execHealthSend]

@[simp] theorem execSynchronised_answers (s : State) : Answers s (execSynchronised s) := by
  simp [execSynchronised]

@[simp] theorem execTwinLinkLost_answers (s : State) : Answers s (execTwinLinkLost s) := by
  simp [execTwinLinkLost]

@[simp] theorem execTwinLaneFail_answers (lane : Fin 2) (s : State) : Answers s (execTwinLaneFail lane s) := by
  simp [execTwinLaneFail]

@[simp] theorem execHandoverStart_answers (s : State) : Answers s (execHandoverStart s) := by
  unfold execHandoverStart
  repeat' split
  all_goals simp

@[simp] theorem execOldTrainForwardEnd_answers (s : State) : Answers s (execOldTrainForwardEnd s) := by
  unfold execOldTrainForwardEnd
  repeat' split
  all_goals simp

@[simp] theorem execSwapAbandon_answers (s : State) : Answers s (execSwapAbandon s) := by
  unfold execSwapAbandon
  dsimp only
  repeat' split
  all_goals simp

@[simp] theorem execRevert_answers (s : State) : Answers s (execRevert s) := by
  simp [execRevert]

@[simp] theorem execPtpSync_answers (d : Fin 2) (domain : BitVec 8) (twoStep : Bool) (seq : BitVec 16) (origin : Int) (rx : Int) (s : State) :
    Answers s (execPtpSync d domain twoStep seq origin rx s) := by
  unfold execPtpSync
  dsimp only
  repeat' split
  all_goals simp

@[simp] theorem execPtpFollowUp_answers (d : Fin 2) (domain : BitVec 8) (seq : BitVec 16) (origin : Int) (s : State) :
    Answers s (execPtpFollowUp d domain seq origin s) := by
  unfold execPtpFollowUp
  repeat' split
  all_goals simp

@[simp] theorem execPtpAnnounce_answers (d : Fin 2) (domain : BitVec 8) (rank : Nat) (source : BitVec 64) (s : State) :
    Answers s (execPtpAnnounce d domain rank source s) := by
  unfold execPtpAnnounce
  dsimp only
  repeat' split
  all_goals simp

@[simp] theorem execPtpDelayResp_answers (d : Fin 2) (domain : BitVec 8) (seq : BitVec 16) (t4 : Int) (s : State) :
    Answers s (execPtpDelayResp d domain seq t4 s) := by
  unfold execPtpDelayResp
  dsimp only
  repeat' split
  all_goals simp

@[simp] theorem execPtpDelayReqSend_answers (d : Fin 2) (tx : Int) (s : State) : Answers s (execPtpDelayReqSend d tx s) := by
  simp [execPtpDelayReqSend]

@[simp] theorem execSyncLoss_answers (d : Fin 2) (s : State) : Answers s (execSyncLoss d s) := by
  simp [execSyncLoss]

@[simp] theorem execPpsEdge_answers (p : Fin 2) (stamp : Int) (s : State) : Answers s (execPpsEdge p stamp s) := by
  unfold execPpsEdge
  dsimp only
  repeat' split
  all_goals simp

@[simp] theorem execPpsLoss_answers (p : Fin 2) (s : State) : Answers s (execPpsLoss p s) := by
  simp [execPpsLoss]

@[simp] theorem execSourceSwitch_answers (s : State) : Answers s (execSourceSwitch s) := by
  simp [execSourceSwitch]

@[simp] theorem execSourceTakeover_answers (s : State) : Answers s (execSourceTakeover s) := by
  unfold execSourceTakeover
  repeat' split
  all_goals simp

@[simp] theorem execSlewEnd_answers (s : State) : Answers s (execSlewEnd s) := by
  simp [execSlewEnd]

@[simp] theorem execTimeFault_answers (s : State) : Answers s (execTimeFault s) := by
  simp [execTimeFault]

@[simp] theorem execTimeStep_answers (s : State) : Answers s (execTimeStep s) := by
  unfold execTimeStep
  repeat' split
  all_goals simp

@[simp] theorem execRestepAbandoned_answers (s : State) : Answers s (execRestepAbandoned s) := by
  unfold execRestepAbandoned
  dsimp only
  repeat' split
  all_goals simp

@[simp] theorem execPpsOutPulse_answers (s : State) : Answers s (execPpsOutPulse s) := by
  simp [execPpsOutPulse]

@[simp] theorem execScsTick_answers (s : State) : Answers s (execScsTick s) := by
  unfold execScsTick
  dsimp only
  repeat' split
  all_goals simp

@[simp] theorem execCaptureDone_answers (s : State) : Answers s (execCaptureDone s) := by
  simp [execCaptureDone]

@[simp] theorem execTrgPinEdge_answers (pin : Fin 4) (level : Bool) (stamp : PinTime) (s : State) :
    Answers s (execTrgPinEdge pin level stamp s) := by
  unfold execTrgPinEdge
  dsimp only
  repeat' split
  all_goals simp

@[simp] theorem execTrgOutputEnd_answers (pin : Fin 4) (s : State) : Answers s (execTrgOutputEnd pin s) := by
  simp [execTrgOutputEnd]

@[simp] theorem execSqTail_answers (value : BitVec 32) (entries : List (List Byte)) (s : State) : Answers s (execSqTail value entries s) := by
  simp [execSqTail]

@[simp] theorem execCqHead_answers (value : BitVec 32) (s : State) : Answers s (execCqHead value s) := by
  simp [execCqHead]

@[simp] theorem execEqHead_answers (value : BitVec 32) (s : State) : Answers s (execEqHead value s) := by
  simp [execEqHead]

@[simp] theorem execRingEn_answers (s : State) : Answers s (execRingEn s) := by
  simp [execRingEn]

@[simp] theorem execEqEn_answers (s : State) : Answers s (execEqEn s) := by
  simp [execEqEn]

@[simp] theorem execIntStatus_answers (value : BitVec 32) (s : State) : Answers s (execIntStatus value s) := by
  simp [execIntStatus]

@[simp] theorem execRegisterWrite_answers (offset : BitVec 16) (value : BitVec 32) (s : State) :
    Answers s (execRegisterWrite offset value s) := by
  simp [execRegisterWrite]

@[simp] theorem execMsiCoalesceEnd_answers (vector : Fin 4) (s : State) : Answers s (execMsiCoalesceEnd vector s) := by
  simp [execMsiCoalesceEnd]

@[simp] theorem execUdpDatagram_answers (plant : PlantIx) (ip : UdpPath) (port : BitVec 16) (mf : Bool) (fragOffset : BitVec 13) (bytes : List Byte) (s : State) :
    Answers s (execUdpDatagram plant ip port mf fragOffset bytes s) := by
  unfold execUdpDatagram
  dsimp only
  repeat' split
  all_goals simp

@[simp] theorem execArpRequest_answers (plant : PlantIx) (target : PlantTarget) (s : State) : Answers s (execArpRequest plant target s) := by
  simp [execArpRequest]

@[simp] theorem execIcmpEcho_answers (plant : PlantIx) (target : PlantTarget) (data : List Byte) (s : State) :
    Answers s (execIcmpEcho plant target data s) := by
  simp [execIcmpEcho]

@[simp] theorem execCommandPart_answers (c : CmdCtx) (opcode : BitVec 16) (isPart : Bool) (final : Bool) (data : List Byte) (s0 : State) :
    Answers s0 (execCommandPart c opcode isPart final data s0) := by
  unfold execCommandPart
  dsimp only
  repeat' split
  all_goals simp

@[simp] theorem execEvtPush_answers (c : CmdCtx) (s : State) : Answers s (execEvtPush c s) := by
  unfold execEvtPush
  dsimp only
  repeat' split
  all_goals simp

@[simp] theorem execLockoutEnd_answers (src : HostSource) (s : State) : Answers s (execLockoutEnd src s) := by
  unfold execLockoutEnd
  repeat' split
  all_goals simp

@[simp] theorem execFlashWriteComplete_answers (ok : Bool) (s : State) : Answers s (execFlashWriteComplete ok s) := by
  unfold execFlashWriteComplete
  dsimp only
  repeat' split
  all_goals simp

@[simp] theorem execRemeasureComplete_answers (seg : SegIx) (s : State) : Answers s (execRemeasureComplete seg s) := by
  unfold execRemeasureComplete
  dsimp only
  repeat' split
  all_goals simp

@[simp] theorem execScheduleActivate_answers (seg : SegIx) (s : State) : Answers s (execScheduleActivate seg s) := by
  unfold execScheduleActivate
  dsimp only
  repeat' split
  all_goals simp

@[simp] theorem execSegTestEnd_answers (seg : SegIx) (errors : BitVec 32) (s : State) : Answers s (execSegTestEnd seg errors s) := by
  unfold execSegTestEnd
  dsimp only
  repeat' split
  all_goals simp

@[simp] theorem execEngineWatchdog_answers (e : EngIx) (s : State) : Answers s (execEngineWatchdog e s) := by
  unfold execEngineWatchdog
  repeat' split
  all_goals simp

@[simp] theorem execIslandPorRelease_answers (s : State) : Answers s (execIslandPorRelease s) := by
  simp [execIslandPorRelease]

@[simp] theorem execBootComplete_answers (flashOk : Bool) (a b : BankImage) (s : State) : Answers s (execBootComplete flashOk a b s) := by
  unfold execBootComplete
  dsimp only
  repeat' split
  all_goals simp

@[simp] theorem execPortLinkUp_answers (p : PortUp) (s : State) : Answers s (execPortLinkUp p s) := by
  unfold execPortLinkUp
  dsimp only
  repeat' split
  all_goals simp

@[simp] theorem execResetFenceRelease_answers (site : FenceSite) (s : State) : Answers s (execResetFenceRelease site s) := by
  unfold execResetFenceRelease
  dsimp only
  repeat' split
  all_goals simp

@[simp] theorem execStepGeneratorTick_answers (n : StIx) (s : State) : Answers s (execStepGeneratorTick n s) := by
  unfold execStepGeneratorTick
  dsimp only
  repeat' split
  all_goals simp

@[simp] theorem execPpsOutEnd_answers (s : State) : Answers s (execPpsOutEnd s) := by
  simp [execPpsOutEnd]

@[simp] theorem execHsafeOkToggle_answers (s : State) : Answers s (execHsafeOkToggle s) := by
  simp [execHsafeOkToggle]

@[simp] theorem execOffPulseEnd_answers (j : FqIx) (s : State) : Answers s (execOffPulseEnd j s) := by
  unfold execOffPulseEnd
  dsimp only
  repeat' split
  all_goals simp

@[simp] theorem execTestPulseEnd_answers (k : Fin 2) (s : State) : Answers s (execTestPulseEnd k s) := by
  unfold execTestPulseEnd
  dsimp only
  repeat' split
  all_goals simp

@[simp] theorem execSafTapReceive_answers (f : RxFrame) (s0 : State) : Answers s0 (execSafTapReceive f s0) := by
  unfold execSafTapReceive
  dsimp only
  repeat' split
  all_goals simp

@[simp] theorem execSurRequestReceive_answers (f : RxFrame) (s : State) : Answers s (execSurRequestReceive f s) := by
  unfold execSurRequestReceive
  dsimp only
  repeat' split
  all_goals simp

end Sys2Proof.Machine
end

section
/-! Bounded commands, part 4: the engine instructions. -/

namespace Sys2Proof.Machine

open Sys2Proof.Claims

/-! The engine instructions. -/

@[simp] theorem execCeLd_answers (e : EngIx) (d : Fin 32) (a : Fin 8) (pm : Bool) (o : Fin 8) (ecc : Ecc) (s : State) :
    Answers s (execCeLd e d a pm o ecc s) := State.engineStep_answers _ _ _ _
@[simp] theorem execCeLdq_answers (e : EngIx) (d : Fin 32) (a : Fin 8) (pm : Bool) (o : Fin 8) (ecc : Ecc) (s : State) :
    Answers s (execCeLdq e d a pm o ecc s) := State.engineStep_answers _ _ _ _
@[simp] theorem execCeSt_answers (e : EngIx) (d : Fin 32) (a : Fin 8) (pm : Bool) (o : Fin 8) (s : State) :
    Answers s (execCeSt e d a pm o s) := State.engineStep_answers _ _ _ _
@[simp] theorem execCeStq_answers (e : EngIx) (d : Fin 32) (a : Fin 8) (pm : Bool) (o : Fin 8) (s : State) :
    Answers s (execCeStq e d a pm o s) := State.engineStep_answers _ _ _ _
@[simp] theorem execCeLdi_answers (e : EngIx) (d : Fin 32) (imm : Word48) (s : State) :
    Answers s (execCeLdi e d imm s) := State.engineStep_answers _ _ _ _
@[simp] theorem execCeLds_answers (e : EngIx) (spr : BitVec 8) (imm : BitVec 32) (s : State) :
    Answers s (execCeLds e spr imm s) := State.engineStep_answers _ _ _ _
@[simp] theorem execCeMov_answers (e : EngIx) (d s : Fin 32) (st : State) :
    Answers st (execCeMov e d s st) := State.engineStep_answers _ _ _ _
@[simp] theorem execCeMva_answers (e : EngIx) (fromSpecial : Bool) (x : Fin 32) (spr : BitVec 8) (s : State) :
    Answers s (execCeMva e fromSpecial x spr s) := State.engineStep_answers _ _ _ _
@[simp] theorem execCeAmod_answers (e : EngIx) (a : Fin 8) (o : Fin 8) (s : State) :
    Answers s (execCeAmod e a o s) := State.engineStep_answers _ _ _ _
@[simp] theorem execCeAdd_answers (e : EngIx) (d s t : Fin 32) (st : State) :
    Answers st (execCeAdd e d s t st) := State.engineStep_answers _ _ _ _
@[simp] theorem execCeSub_answers (e : EngIx) (d s t : Fin 32) (st : State) :
    Answers st (execCeSub e d s t st) := State.engineStep_answers _ _ _ _
@[simp] theorem execCeAdds_answers (e : EngIx) (d s t : Fin 32) (st : State) :
    Answers st (execCeAdds e d s t st) := State.engineStep_answers _ _ _ _
@[simp] theorem execCeSubs_answers (e : EngIx) (d s t : Fin 32) (st : State) :
    Answers st (execCeSubs e d s t st) := State.engineStep_answers _ _ _ _
@[simp] theorem execCeAnd_answers (e : EngIx) (d s t : Fin 32) (st : State) :
    Answers st (execCeAnd e d s t st) := State.engineStep_answers _ _ _ _
@[simp] theorem execCeOr_answers (e : EngIx) (d s t : Fin 32) (st : State) :
    Answers st (execCeOr e d s t st) := State.engineStep_answers _ _ _ _
@[simp] theorem execCeXor_answers (e : EngIx) (d s t : Fin 32) (st : State) :
    Answers st (execCeXor e d s t st) := State.engineStep_answers _ _ _ _
@[simp] theorem execCeShl_answers (e : EngIx) (d s : Fin 32) (sh : Fin 64) (st : State) :
    Answers st (execCeShl e d s sh st) := State.engineStep_answers _ _ _ _
@[simp] theorem execCeAsr_answers (e : EngIx) (d s : Fin 32) (sh : Fin 64) (st : State) :
    Answers st (execCeAsr e d s sh st) := State.engineStep_answers _ _ _ _
@[simp] theorem execCeCmp_answers (e : EngIx) (s t : Fin 32) (st : State) :
    Answers st (execCeCmp e s t st) := State.engineStep_answers _ _ _ _
@[simp] theorem execCeMin_answers (e : EngIx) (d s t : Fin 32) (st : State) :
    Answers st (execCeMin e d s t st) := State.engineStep_answers _ _ _ _
@[simp] theorem execCeMax_answers (e : EngIx) (d s t : Fin 32) (st : State) :
    Answers st (execCeMax e d s t st) := State.engineStep_answers _ _ _ _
@[simp] theorem execCeAbs_answers (e : EngIx) (d s : Fin 32) (st : State) :
    Answers st (execCeAbs e d s st) := State.engineStep_answers _ _ _ _
@[simp] theorem execCeNeg_answers (e : EngIx) (d s : Fin 32) (st : State) :
    Answers st (execCeNeg e d s st) := State.engineStep_answers _ _ _ _
@[simp] theorem execCeAddi_answers (e : EngIx) (d s : Fin 32) (imm : BitVec 32) (st : State) :
    Answers st (execCeAddi e d s imm st) := State.engineStep_answers _ _ _ _
@[simp] theorem execCeWrapm_answers (e : EngIx) (d s t : Fin 32) (st : State) :
    Answers st (execCeWrapm e d s t st) := State.engineStep_answers _ _ _ _
@[simp] theorem execCeMac_answers (e : EngIx) (acc : Fin 4) (clr neg : Bool) (m n : Fin 32) (s : State) :
    Answers s (execCeMac e acc clr neg m n s) := State.engineStep_answers _ _ _ _
@[simp] theorem execCeMac4_answers (e : EngIx) (clr neg bcast : Bool) (m n : Fin 32) (s : State) :
    Answers s (execCeMac4 e clr neg bcast m n s) := State.engineStep_answers _ _ _ _
@[simp] theorem execCeAcclr_answers (e : EngIx) (mask : BitVec 4) (s : State) :
    Answers s (execCeAcclr e mask s) := State.engineStep_answers _ _ _ _
@[simp] theorem execCeAccld_answers (e : EngIx) (acc : Fin 4) (n : Fin 32) (shift : Fin 64) (s : State) :
    Answers s (execCeAccld e acc n shift s) := State.engineStep_answers _ _ _ _
@[simp] theorem execCeMvs_answers (e : EngIx) (d : Fin 32) (acc : Fin 4) (auto : Bool) (sh : Fin 64) (s : State) :
    Answers s (execCeMvs e d acc auto sh s) := State.engineStep_answers _ _ _ _
@[simp] theorem execCeMvs4_answers (e : EngIx) (d : Fin 32) (auto : Bool) (sh : Fin 64) (s : State) :
    Answers s (execCeMvs4 e d auto sh s) := State.engineStep_answers _ _ _ _
@[simp] theorem execCeBr_answers (e : EngIx) (cond : BitVec 4) (target : BitVec 16) (s : State) :
    Answers s (execCeBr e cond target s) := State.engineStep_answers _ _ _ _
@[simp] theorem execCeLoop_answers (e : EngIx) (lc : Fin 2) (reg : Bool) (xs : Fin 32) (count last : BitVec 16) (s : State) :
    Answers s (execCeLoop e lc reg xs count last s) := State.engineStep_answers _ _ _ _
@[simp] theorem execCeCall_answers (e : EngIx) (target : BitVec 16) (s : State) :
    Answers s (execCeCall e target s) := State.engineStep_answers _ _ _ _
@[simp] theorem execCeRet_answers (e : EngIx) (s : State) : Answers s (execCeRet e s) := State.engineStep_answers _ _ _ _
@[simp] theorem execCeTflt_answers (e : EngIx) (code : BitVec 16) (s : State) :
    Answers s (execCeTflt e code s) := State.engineStep_answers _ _ _ _
@[simp] theorem execCeNop_answers (e : EngIx) (s : State) : Answers s (execCeNop e s) := State.engineStep_answers _ _ _ _

end Sys2Proof.Machine
end

section
/-! Bounded commands, part 5: the schedule load, the start of a cycle, and every command. -/

namespace Sys2Proof.Machine

open Sys2Proof.Claims

theorem AnsBounded.ite {s : State} {p : Prop} [Decidable p] {a b : Ans} (ha : AnsBounded s a) (hb : AnsBounded s b) :
    AnsBounded s (if p then a else b) := by
  split
  · exact ha
  · exact hb

@[simp] theorem execNetSchedLoad_answers (c : CmdCtx) (seg : BitVec 8) (sched : Schedule) (s : State) :
    Answers s (execNetSchedLoad c seg sched s) := by
  refine State.hostCommand_answers _ _ _ _ (fun t => ?_)
  extract_lets n
  have hstored : Bounded t (t.modSeg n (fun g => { g with pending := some sched })) := by simp
  refine AnsBounded.ite trivial (AnsBounded.ite trivial (AnsBounded.ite trivial ?_))
  generalize t.modSeg n (fun g => { g with pending := some sched }) = u at hstored ⊢
  generalize t.engineLoad = load
  generalize periodOf sched.period = period
  exact AnsBounded.ite (a := .refuse stLoad []) trivial hstored

/-! The start of a cycle. -/

theorem State.withHost_bounded (s : State) (h : HostSt) (hs : h.sessions = s.host.sessions) (hg : h.gathered.isNone = s.host.gathered.isNone) :
    Bounded s { s with host := h } :=
  Bounded.of_same ⟨rfl, rfl, State.idents_eq _ _ hs, hg⟩

/-- A command held for the boundary executes there as any command does. -/
theorem State.runHeld_bounded (s : State) (i : Instr) : Bounded s (s.runHeld i) := by
  unfold State.runHeld
  extract_lets r
  have hr : Answers s r := by
    unfold r
    split <;> simp
  clear_value r
  obtain ⟨t, rfl, ht⟩ := hr
  exact ht

theorem State.takeBoundary_bounded (s : State) : Bounded s s.takeBoundary := by
  unfold State.takeBoundary
  refine Bounded.trans ?_ (State.withHost_bounded _ _ rfl rfl)
  refine Bounded.trans (s.withHost_bounded _ ?_ ?_) (Bounded.foldl (fun t q => ?_) _ _)
  · rfl
  · rfl
  · exact Bounded.ite (t.runHeld_bounded q.2) (Bounded.refl t)

theorem State.number_bounded (s : State) (e : Event) : Bounded s (s.number e) := by simp

theorem State.numberAll_gathered (s : State) : s.numberAll.host.gathered = none := by
  unfold State.numberAll
  exact (Bounded.foldl (fun t e => t.number_bounded e) _ _).gathered rfl

/-- The gathered events get their numbers, and none is left. -/
theorem State.numberAll_bounded (s : State) : Bounded s s.numberAll := by
  refine ⟨?_, fun _ => s.numberAll_gathered⟩
  unfold State.numberAll
  refine Guarded.trans (t := { s with host := { s.host with gathered := none } }) ⟨rfl, id, fun _ => id⟩ ?_
  exact (Bounded.foldl (fun t e => t.number_bounded e) _ _).toGuarded

theorem State.landOutputs_bounded (s : State) : Bounded s s.landOutputs := by
  simp

theorem State.joinStandby_bounded (s : State) : Bounded s s.joinStandby := by
  simp

theorem State.landCycle_bounded (s : State) (k : Nat) : Bounded s (s.landCycle k) := by
  unfold State.landCycle
  refine Bounded.trans ?_ (State.numberAll_bounded _)
  refine Bounded.trans ?_ (State.takeBoundary_bounded _)
  refine Bounded.trans ?_ (State.landOutputs_bounded _)
  refine Bounded.trans ?_ (State.joinStandby_bounded _)
  simp

theorem State.firstCycle_bounded (s : State) : Bounded s s.firstCycle := by
  unfold State.firstCycle
  exact (Bounded.foldl (fun t n => Bounded.ite (by simp) (Bounded.refl t)) _ s).trans (State.withCyc_bounded _ _)

/-- A cycle opens with its events gathered. -/
theorem State.openCycle_guarded (s : State) (k : Nat) : Guarded s (s.openCycle k) := by
  unfold State.openCycle
  extract_lets s0 s1 s2
  have h0 : Bounded s s0 := Bounded.ite (by simp) s.firstCycle_bounded
  have h1 : Guarded s0 s1 := by
    refine Guarded.trans (t := s0.gather) ⟨rfl, id, fun _ => id⟩ (Bounded.toGuarded ?_)
    simp [s1]
  have h2 : Bounded s1 s2 := Bounded.ite (by simp) (by simp)
  have h3 : Bounded s2 (s2.estimates k) := by simp
  clear_value s0 s1 s2
  exact (h0.toGuarded.trans h1).trans (h2.trans h3).toGuarded

@[simp] theorem execCycleStart_answers (s : State) : Answers s (execCycleStart s) := by
  unfold execCycleStart
  refine Answers.ite (by simp) (Answers.ite (by simp) (answers_next.mpr ⟨?_, fun _ => State.numberAll_gathered _⟩))
  exact (s.openCycle_guarded s.nextCycle).trans (State.landCycle_bounded _ s.nextCycle).toGuarded

/-! Every command. -/

theorem exec_porstN (a b : Bool) (pins : ResetPins) (s : State) : exec (.porstN a b pins) s = execPorstN a b pins s := rfl
theorem exec_sesProve (c : CmdCtx) (proof : List Byte) (s : State) : exec (.sesProve c proof) s = execSesProve c proof s := rfl

/-- PORST_N and SES_PROVE are the two commands that end Endgame mode or open a session. -/
theorem exec_answers (i : Instr) (s : State) (hporst : ∀ a b pins, i ≠ .porstN a b pins) (hprove : ∀ c proof, i ≠ .sesProve c proof) :
    Answers s (exec i s) := by
  cases i with
  | porstN a b pins => exact absurd rfl (hporst a b pins)
  | sesProve c proof => exact absurd rfl (hprove c proof)
  | _ => simp [exec]

end Sys2Proof.Machine
end

section
/-! Every command answers; sessions, Endgame mode and runs (O11, O13, O19, O59). -/

namespace Sys2Proof.Machine

open Sys2Proof.Claims

theorem decodeEngine_answers {e : EngIx} {w : BitVec 64} {f : State → Result} (h : decodeEngine e w = some f) (s : State) :
    Answers s (f s) := by
  unfold decodeEngine engMem engAlu3 at h
  dsimp only at h
  split at h
  all_goals cases h
  all_goals simp

/-- PORST_N answers a state with the same queue, no session and no gathered event. -/
theorem execPorstN_answer (a b : Bool) (pins : ResetPins) (s : State) :
    ∃ t, execPorstN a b pins s = .next t ∧ t.pending = s.pending ∧ t.host.gathered = none ∧ ∀ i, (t.session i).phase ≠ .opened :=
  ⟨_, rfl, rfl, rfl, fun _ => nofun⟩

/-- What a proof for slot j keeps: all that a bounded command keeps, but for session j. -/
structure OpensOnly (j : Nat) (s t : State) : Prop where
  pending : t.pending = s.pending
  endgame : s.saf.endgame ≠ none → t.saf.endgame ≠ none
  opened : ∀ i, i ≠ j → (t.session i).phase = .opened → (s.session i).phase = .opened
  gathered : s.host.gathered = none → t.host.gathered = none

theorem Bounded.opensOnly {s t : State} (j : Nat) (h : Bounded s t) : OpensOnly j s t := 
  ⟨h.pending, h.endgame, fun i _ => h.opened i, h.gathered⟩

theorem OpensOnly.trans {j : Nat} {s t u : State} (h : OpensOnly j s t) (k : OpensOnly j t u) : OpensOnly j s u :=
  ⟨k.pending.trans h.pending, k.endgame ∘ h.endgame, fun i hi => h.opened i hi ∘ k.opened i hi, k.gathered ∘ h.gathered⟩

theorem State.setSession_opensOnly (s : State) (j : Nat) (x : Session) : OpensOnly j s (s.setSession j x) :=
  ⟨rfl, id, fun i hi h => by simpa [hi] using h, id⟩

theorem State.sendTo_bounded (s : State) (dest : HostSource) (bytes : List Byte) : Bounded s (s.sendTo dest bytes) := by simp

theorem State.clearFailures_bounded (s : State) (src : HostSource) : Bounded s (s.clearFailures src) := by simp

theorem State.countFailure_bounded (s : State) (src : HostSource) : Bounded s (s.countFailure src) := by simp

/-- A proof opens its own session at most. -/
theorem execSesProve_answer (c : CmdCtx) (proof : List Byte) (s : State) :
    ∃ t, execSesProve c proof s = .next t ∧ OpensOnly c.slot.val s t := by
  unfold execSesProve
  extract_lets u x bare k ks s1
  have hu : Bounded s u := s.takeUp_bounded c
  have hbare : ∀ st, Bounded s (bare st u) := fun st => hu.trans (u.sendTo_bounded _ _)
  have h1 : OpensOnly c.slot.val s s1 := ((hu.trans (u.clearFailures_bounded _)).opensOnly _).trans (State.setSession_opensOnly _ _ _)
  clear_value u bare s1
  split
  · exact ⟨_, rfl, (hbare _).opensOnly _⟩
  split
  · exact ⟨_, rfl, (hbare _).opensOnly _⟩
  split
  · exact ⟨_, rfl, h1.trans ((s1.reply_bounded c _ _ _).opensOnly _)⟩
  · exact ⟨_, rfl, (((hbare _).opensOnly _).trans (State.setSession_opensOnly _ _ _)).trans ((State.countFailure_bounded _ _).opensOnly _)⟩

/-! Every command, every step and every run. -/

/-- Every command answers a next state, with the same queue and no event left without its number. -/
theorem exec_answersNext (i : Instr) (s : State) :
    ∃ t, exec i s = .next t ∧ t.pending = s.pending ∧ (s.host.gathered = none → t.host.gathered = none) := by
  by_cases hporst : ∃ a b pins, i = .porstN a b pins
  · obtain ⟨a, b, pins, rfl⟩ := hporst
    obtain ⟨t, ht, hpending, hgathered, _⟩ := execPorstN_answer a b pins s
    exact ⟨t, ht, hpending, fun _ => hgathered⟩
  by_cases hprove : ∃ c proof, i = .sesProve c proof
  · obtain ⟨c, proof, rfl⟩ := hprove
    obtain ⟨t, ht, hopens⟩ := execSesProve_answer c proof s
    exact ⟨t, ht, hopens.pending, hopens.gathered⟩
  · obtain ⟨t, ht, hbounded⟩ := exec_answers i s (fun a b pins h => hporst ⟨a, b, pins, h⟩) (fun c proof h => hprove ⟨c, proof, h⟩)
    exact ⟨t, ht, hbounded.pending, hbounded.gathered⟩

theorem State.runEngine_bounded (s : State) (e : EngIx) : Bounded s (s.runEngine e) := by
  unfold State.runEngine
  split
  · split
    · simp
    · rename_i f hf
      obtain ⟨t, ht, hst⟩ := decodeEngine_answers hf s
      rw [ht]
      exact hst
  · exact Bounded.refl s

theorem State.idle_bounded (s : State) : Bounded s s.idle := by
  rw [State.idle_eq]
  refine Bounded.trans (t := s.idleTick) ?_ (Bounded.foldl (fun t i => t.runEngine_bounded _) _ _)
  simp

theorem step_answersNext (s : State) : ∃ t, step s = .next t ∧ (s.host.gathered = none → t.host.gathered = none) := by
  unfold step
  split
  · exact ⟨_, rfl, s.idle_bounded.gathered⟩
  · rename_i i rest _
    obtain ⟨t, ht, _, hgathered⟩ := exec_answersNext i { s with pending := rest }
    exact ⟨t, ht, hgathered⟩

theorem safeRun (n : Nat) (s : State) : SafeRun n s := by
  induction n generalizing s with
  | zero => trivial
  | succ n ih =>
    obtain ⟨t, ht, _⟩ := step_answersNext s
    exact ⟨t, ht, ih t⟩

/-- Settles O13: every command answers a next state with the same queue, so every step of a run does. -/
theorem everyCommandAnswers : Obligations.EveryCommandAnswers := by
  unfold Obligations.EveryCommandAnswers
  refine ⟨fun c s => ?_, safeRun⟩
  obtain ⟨t, ht, hpending, _⟩ := exec_answersNext c s
  exact ⟨t, ht, hpending⟩

/-- Settles O19: a command other than SES_PROVE opens no session, and SES_PROVE its own at most. -/
theorem sessionsOpenOnlyByProof : Obligations.SessionsOpenOnlyByProof := by
  unfold Obligations.SessionsOpenOnlyByProof
  intro s t i slot hexec hclosed hopen
  by_cases hprove : ∃ c proof, i = .sesProve c proof
  · obtain ⟨c, proof, rfl⟩ := hprove
    obtain ⟨u, hu, hopens⟩ := execSesProve_answer c proof s
    obtain rfl : u = t := Host.Outcome.next.inj (hu.symm.trans hexec)
    refine ⟨c, proof, rfl, ?_⟩
    by_contra hslot
    exact hclosed (hopens.opened slot.val (fun h => hslot (Fin.ext h.symm)) hopen)
  by_cases hporst : ∃ a b pins, i = .porstN a b pins
  · obtain ⟨a, b, pins, rfl⟩ := hporst
    obtain ⟨u, hu, _, _, hnone⟩ := execPorstN_answer a b pins s
    obtain rfl : u = t := Host.Outcome.next.inj (hu.symm.trans hexec)
    exact absurd hopen (hnone slot.val)
  · obtain ⟨u, hu, hbounded⟩ := exec_answers i s (fun a b pins h => hporst ⟨a, b, pins, h⟩) (fun c proof h => hprove ⟨c, proof, h⟩)
    obtain rfl : u = t := Host.Outcome.next.inj (hu.symm.trans hexec)
    exact absurd (hbounded.opened slot.val hopen) hclosed

/-- Settles O59: every command but PORST_N that finds Endgame mode leaves it. -/
theorem endgameEndsByPorst : Obligations.EndgameEndsByPorst := by
  unfold Obligations.EndgameEndsByPorst
  intro s t i hexec hporst hend
  by_cases hprove : ∃ c proof, i = .sesProve c proof
  · obtain ⟨c, proof, rfl⟩ := hprove
    obtain ⟨u, hu, hopens⟩ := execSesProve_answer c proof s
    obtain rfl : u = t := Host.Outcome.next.inj (hu.symm.trans hexec)
    exact hopens.endgame hend
  · obtain ⟨u, hu, hbounded⟩ := exec_answers i s hporst (fun c proof h => hprove ⟨c, proof, h⟩)
    obtain rfl : u = t := Host.Outcome.next.inj (hu.symm.trans hexec)
    exact hbounded.endgame hend

/-- Settles O11: `step` is by definition `exec` of the front command, and `decodeTableWord` spells no command. -/
theorem stepRunsFront : Obligations.StepRunsFront := by
  unfold Obligations.StepRunsFront
  exact fun _ _ _ _ => ⟨rfl, rfl, rfl⟩

end Sys2Proof.Machine
end

section
/-! Bits of words, the outputs, the ring registers, and the causes of interrupts (R424 to R426). -/

namespace Sys2Proof.Machine

open Sys2Proof.Claims

/-! Bits of a word. -/

theorem nbit_eq_testBit (v i : Nat) : nbit v i = v.testBit i := Nat.testBit_eq_decide_div_mod_eq.symm

theorem nbit_or_two_pow {w : Nat} (x : BitVec w) {i : Nat} (hi : i < w) (j : Nat) :
    nbit (x ||| BitVec.ofNat w (2 ^ i)).toNat j = (nbit x.toNat j || decide (i = j)) := by
  have hlt : 2 ^ i % 2 ^ w = 2 ^ i := Nat.mod_eq_of_lt (Nat.pow_lt_pow_right (by decide) hi)
  simp only [nbit_eq_testBit, BitVec.toNat_or, BitVec.toNat_ofNat, hlt, Nat.testBit_or, Nat.testBit_two_pow]

/-! Outputs: the newest first; none is taken back. -/

theorem State.mem_out_put {s : State} {o : Output} (x : Output) (h : o ∈ s.out) : o ∈ (s.put x).out := by
  unfold State.put
  split_ifs
  · exact h
  · exact List.mem_cons_of_mem x h

theorem State.mem_out_put_self {s : State} (x : Output) (h : s.boot.testEn = false) : x ∈ (s.put x).out := by
  simp [State.put, h]

theorem State.mem_of_mem_out_put {s : State} {o x : Output} (hne : o ≠ x) (h : o ∈ (s.put x).out) : o ∈ s.out := by
  unfold State.put at h
  split_ifs at h
  · exact h
  · exact (List.mem_cons.mp h).resolve_left hne

/-! What changes the registers of the rings, and the outputs, only. -/

/-- t is s but for its outputs and its BAR0 registers. -/
def State.RingOnly (s t : State) : Prop := ∃ o b, t = { s with out := o, host := { s.host with bar0 := b } }

theorem State.RingOnly.refl (s : State) : s.RingOnly s := ⟨s.out, s.host.bar0, rfl⟩

theorem State.RingOnly.trans {s t u : State} (h : s.RingOnly t) (k : t.RingOnly u) : s.RingOnly u := by
  obtain ⟨o, b, rfl⟩ := h
  obtain ⟨o', b', rfl⟩ := k
  exact ⟨o', b', rfl⟩

theorem State.RingOnly.ite {s t u : State} {p : Prop} [Decidable p] (ht : s.RingOnly t) (hu : s.RingOnly u) :
    s.RingOnly (if p then t else u) := by
  split
  · exact ht
  · exact hu

theorem State.RingOnly.eq {s t : State} (h : s.RingOnly t) : t = { s with out := t.out, host := { s.host with bar0 := t.host.bar0 } } := by
  obtain ⟨o, b, rfl⟩ := h
  rfl

theorem State.put_ringOnly (s : State) (o : Output) : s.RingOnly (s.put o) := ⟨_, s.host.bar0, rfl⟩
theorem State.modBar_ringOnly (s : State) (f : Bar0 → Bar0) : s.RingOnly (s.modBar f) := ⟨s.out, _, rfl⟩

/-! Messages and causes of interrupts (R426). -/

/-- The gap of INT_COAL, in ticks. -/
def State.msiGap (s : State) : Nat := s.host.bar0.intCoal.toNat % 65536 * 1000

theorem nbits_low16 (v : Nat) : nbits v 0 16 = v % 65536 := by simp [nbits]

theorem State.sendMsi_due {s : State} {v : Nat} (h : ∀ k, s.msiLast v = some k → k + s.msiGap ≤ s.coreTicks) :
    s.sendMsi v = (s.modBar (fun b => { b with msiLast := sput (fun _ => none) b.msiLast v (some s.coreTicks) })).put (.msi v) := by
  unfold State.sendMsi
  extract_lets gap free
  refine if_pos ?_
  unfold free
  split
  · rfl
  · rename_i k hk
    have hgap : gap = s.msiGap := congrArg (· * 1000) (nbits_low16 _)
    exact decide_eq_true (hgap ▸ h k hk)

theorem State.sendMsi_held {s : State} {v k : Nat} (hk : s.msiLast v = some k) (h : s.coreTicks < k + s.msiGap) :
    s.sendMsi v = s.modBar (fun b => { b with msiHeld := b.msiHeld ||| BitVec.ofNat 4 (2 ^ v) }) := by
  unfold State.sendMsi
  extract_lets gap free
  refine if_neg ?_
  have hgap : gap = s.msiGap := congrArg (· * 1000) (nbits_low16 _)
  simp [free, hk, hgap, Nat.not_le.mpr h]

theorem State.sendMsi_ringOnly (s : State) (v : Nat) : s.RingOnly (s.sendMsi v) :=
  State.RingOnly.ite ((s.modBar_ringOnly _).trans (State.put_ringOnly _ _)) (s.modBar_ringOnly _)

/-- A message changes of BAR0 only what it keeps of the messages. -/
theorem State.sendMsi_bar0 (s : State) (v : Nat) : ∃ last held, (s.sendMsi v).host.bar0 = { s.host.bar0 with msiLast := last, msiHeld := held } := by
  unfold State.sendMsi
  extract_lets gap free
  split_ifs
  · exact ⟨_, s.host.bar0.msiHeld, rfl⟩
  · exact ⟨s.host.bar0.msiLast, _, rfl⟩

theorem State.sendMsi_out (s : State) (v : Nat) : (s.sendMsi v).out = s.out ∨ (s.sendMsi v).out = (s.put (.msi v)).out := by
  unfold State.sendMsi
  extract_lets gap free
  split_ifs
  · exact Or.inr rfl
  · exact Or.inl rfl

/-- Cause i is set in INT_STATUS. -/
def State.causeSet (s : State) (i : Nat) : State :=
  s.modBar (fun b => { b with intStatus := b.intStatus ||| BitVec.ofNat 32 (2 ^ i) })

theorem State.setInt_silent {s : State} {i : Nat}
    (h : nbit s.host.bar0.intStatus.toNat i = true ∨ nbit s.host.bar0.intEnable.toNat i = false) : s.setInt i = s.causeSet i := by
  unfold State.setInt State.causeSet
  refine if_neg ?_
  rcases h with h | h <;> simp [h]

theorem State.setInt_sends {s : State} {i : Nat} (hwas : nbit s.host.bar0.intStatus.toNat i = false)
    (hon : nbit s.host.bar0.intEnable.toNat i = true) : s.setInt i = (s.causeSet i).sendMsi (s.msiVector i) :=
  if_pos (by simp [hwas, hon])

theorem State.setInt_ringOnly (s : State) (i : Nat) : s.RingOnly (s.setInt i) :=
  State.RingOnly.ite ((s.modBar_ringOnly _).trans (State.sendMsi_ringOnly _ _)) (s.modBar_ringOnly _)

/-- A cause that is set changes of BAR0 its bit of INT_STATUS and what is kept of the messages. -/
theorem State.setInt_bar0 (s : State) (i : Nat) : ∃ last held, (s.setInt i).host.bar0
    = { s.host.bar0 with intStatus := s.host.bar0.intStatus ||| BitVec.ofNat 32 (2 ^ i), msiLast := last, msiHeld := held } := by
  unfold State.setInt
  extract_lets was s1
  split_ifs
  · obtain ⟨last, held, h⟩ := s1.sendMsi_bar0 (s1.msiVector i)
    exact ⟨last, held, h⟩
  · exact ⟨s.host.bar0.msiLast, s.host.bar0.msiHeld, rfl⟩

theorem State.setInt_out (s : State) (i : Nat) : (s.setInt i).out = s.out ∨ (s.setInt i).out = (s.put (.msi (s.msiVector i))).out := by
  unfold State.setInt
  extract_lets was s1
  split_ifs
  · exact s1.sendMsi_out (s.msiVector i)
  · exact Or.inl rfl

theorem State.setInt_nbit (s : State) {i : Nat} (hi : i < 6) (j : Nat) :
    nbit (s.setInt i).host.bar0.intStatus.toNat j = (nbit s.host.bar0.intStatus.toNat j || decide (i = j)) := by
  obtain ⟨last, held, h⟩ := s.setInt_bar0 i
  rw [h]
  exact nbit_or_two_pow _ (by omega) j

theorem State.mem_out_setInt {s : State} {o : Output} (i : Nat) (h : o ∈ s.out) : o ∈ (s.setInt i).out := by
  rcases s.setInt_out i with he | he <;> rw [he]
  · exact h
  · exact State.mem_out_put _ h

theorem State.mem_of_mem_out_setInt {s : State} {o : Output} {i : Nat} (hne : ∀ v, o ≠ .msi v) (h : o ∈ (s.setInt i).out) : o ∈ s.out := by
  rcases s.setInt_out i with he | he <;> rw [he] at h
  · exact h
  · exact State.mem_of_mem_out_put (hne _) h

/-- What a cause of Table HST-4 does that becomes set: its bit, its message, and nothing else. -/
theorem State.setInt_spec (s : State) {i : Nat} (hi : i < 6) :
    let b := s.host.bar0
    let t := s.setInt i
    let v := s.msiVector i
    let gap := b.intCoal.toNat % 65536 * 1000
    nbit t.host.bar0.intStatus.toNat i = true ∧ (∀ j, j ≠ i → nbit t.host.bar0.intStatus.toNat j = nbit b.intStatus.toNat j)
    ∧ (nbit b.intStatus.toNat i = true ∨ nbit b.intEnable.toNat i = false → t.out = s.out)
    ∧ (nbit b.intStatus.toNat i = false → nbit b.intEnable.toNat i = true → (∀ k, s.msiLast v = some k → k + gap ≤ s.coreTicks) →
        t.out = (s.put (.msi v)).out)
    ∧ (∀ k, nbit b.intStatus.toNat i = false → nbit b.intEnable.toNat i = true → s.msiLast v = some k → s.coreTicks < k + gap →
        t.out = s.out ∧ t.host.bar0.msiHeld = b.msiHeld ||| BitVec.ofNat 4 (2 ^ v))
    ∧ t = { s with out := t.out, host := { s.host with bar0 := t.host.bar0 } } := by
  intro b t v gap
  refine ⟨?_, fun j hj => ?_, fun h => ?_, fun hwas hon hdue => ?_, fun k hwas hon hk hlt => ?_, (s.setInt_ringOnly i).eq⟩
  · simp [t, s.setInt_nbit hi]
  · simp [t, b, s.setInt_nbit hi, Ne.symm hj]
  · exact (congrArg State.out (State.setInt_silent h)).trans rfl
  · rw [show t = _ from State.setInt_sends hwas hon, State.sendMsi_due (s := s.causeSet i) hdue]
    rfl
  · rw [show t = _ from State.setInt_sends hwas hon, State.sendMsi_held (s := s.causeSet i) hk hlt]
    exact ⟨rfl, rfl⟩

end Sys2Proof.Machine
end

section
/-! Replies and the delivery of events (R416, R425, R457). -/

namespace Sys2Proof.Machine

open Sys2Proof.Claims

/-! Replies (R416, R420, R421). -/

theorem State.ringReply_ringOnly (s : State) (bytes : List Byte) : s.RingOnly (s.ringReply bytes) :=
  ((s.put_ringOnly _).trans (State.modBar_ringOnly _ _)).trans (State.setInt_ringOnly _ 0)

theorem State.sendTo_ringOnly (s : State) (dest : HostSource) (bytes : List Byte) : s.RingOnly (s.sendTo dest bytes) := by
  cases dest with
  | pcie => exact s.ringReply_ringOnly bytes
  | udp p ip port => exact s.put_ringOnly _

theorem State.sendTo_udp {dest : HostSource} (s : State) (bytes : List Byte) (h : dest ≠ .pcie) : s.sendTo dest bytes = s.put (.reply dest bytes) := by
  cases dest with
  | pcie => exact absurd rfl h
  | udp p ip port => rfl

/-- A reply on the completion ring is written at CQ_TAIL, sets its cause, and reads nothing. -/
theorem State.ringReply_facts (s : State) (bytes : List Byte) :
    (s.boot.testEn = false → .ringReply s.host.bar0.cqTail.toNat bytes ∈ (s.ringReply bytes).out)
    ∧ nbit (s.ringReply bytes).host.bar0.intStatus.toNat 0 = true
    ∧ (s.ringReply bytes).host.bar0.sqHead = s.host.bar0.sqHead ∧ (s.ringReply bytes).host.bar0.cqHead = s.host.bar0.cqHead := by
  unfold State.ringReply
  extract_lets b size s1
  obtain ⟨last, held, h⟩ := s1.setInt_bar0 0
  refine ⟨fun hout => State.mem_out_setInt 0 (State.mem_out_put_self _ hout), ?_, ?_, ?_⟩
  · simp [s1.setInt_nbit (i := 0) (by decide)]
  · rw [h]
    rfl
  · rw [h]
    rfl

/-- The session of a command after its reply. -/
def Session.replied (x : Session) (c : CmdCtx) (bytes : List Byte) : Session :=
  { x with replies := (⟨c.seq, bytes⟩ :: x.replies).take 16, waiting := x.waiting.filter (fun p => field p 4 2 != c.seq.toNat) }

/-- The packet of the reply to a command. -/
def State.replyBytes (s : State) (c : CmdCtx) (op st : Nat) (data : List Byte) : List Byte :=
  packet op c.seq (s.session c.slot.val).id (replyFlagsOf c) (s.session c.slot.val).key (be 2 st ++ data)

theorem State.RingOnly.session {s t : State} (h : s.RingOnly t) (i : Nat) : t.session i = s.session i := by
  obtain ⟨o, b, rfl⟩ := h
  rfl

theorem State.RingOnly.evtLost {s t : State} (h : s.RingOnly t) : t.host.evtLost = s.host.evtLost := by
  obtain ⟨o, b, rfl⟩ := h
  rfl

theorem State.reply_eq (s : State) (c : CmdCtx) (op st : Nat) (data : List Byte) :
    s.reply c op st data = (s.sendTo (s.session c.slot.val).source (s.replyBytes c op st data)).modSession c.slot.val
      (fun x => x.replied c (s.replyBytes c op st data)) := rfl

theorem State.reply_session (s : State) (c : CmdCtx) (op st : Nat) (data : List Byte) :
    (s.reply c op st data).session c.slot.val = (s.session c.slot.val).replied c (s.replyBytes c op st data) := by
  rw [State.reply_eq, State.modSession, State.setSession_self, (s.sendTo_ringOnly _ _).session]

theorem State.reply_session_ne (s : State) (c : CmdCtx) (op st : Nat) (data : List Byte) {i : Nat} (hi : i ≠ c.slot.val) :
    (s.reply c op st data).session i = s.session i := by
  rw [State.reply_eq, State.modSession, State.setSession_ne _ _ _ _ hi, (s.sendTo_ringOnly _ _).session]

/-- What a reply leaves: the rings, the outputs, and the session of its command. -/
theorem State.reply_spec (s : State) (c : CmdCtx) (op st : Nat) (data : List Byte) :
    let x := s.session c.slot.val
    let bytes := packet op c.seq x.id (replyFlagsOf c) x.key (be 2 st ++ data)
    let t := s.reply c op st data
    (t.session c.slot.val).replies = (⟨c.seq, bytes⟩ :: x.replies).take 16
    ∧ (t.session c.slot.val).waiting = x.waiting.filter (fun p => field p 4 2 != c.seq.toNat)
    ∧ t.session c.slot.val = { x with replies := (t.session c.slot.val).replies, waiting := (t.session c.slot.val).waiting }
    ∧ (∀ i, i ≠ c.slot.val → t.session i = s.session i)
    ∧ (x.source ≠ .pcie → t.out = (s.put (.reply x.source bytes)).out ∧ t.host.bar0 = s.host.bar0)
    ∧ (x.source = .pcie → (s.boot.testEn = false → .ringReply s.host.bar0.cqTail.toNat bytes ∈ t.out) ∧ nbit t.host.bar0.intStatus.toNat 0 = true
        ∧ t.host.bar0.sqHead = s.host.bar0.sqHead ∧ t.host.bar0.cqHead = s.host.bar0.cqHead)
    ∧ t = { s with out := t.out, host := { s.host with bar0 := t.host.bar0, sessions := t.host.sessions } } := by
  intro x bytes t
  have hsession : t.session c.slot.val = x.replied c bytes := s.reply_session c op st data
  refine ⟨by rw [hsession]; rfl, by rw [hsession]; rfl, by rw [hsession]; rfl, fun i hi => s.reply_session_ne c op st data hi,
    fun hudp => ?_, fun hpcie => ?_, ?_⟩
  · have ht : t = (s.put (.reply x.source bytes)).modSession c.slot.val (fun x => x.replied c bytes) := by
      rw [← State.sendTo_udp s bytes hudp]
      rfl
    rw [ht]
    exact ⟨rfl, rfl⟩
  · have ht : t = (s.ringReply bytes).modSession c.slot.val (fun x => x.replied c bytes) := by
      rw [show s.ringReply bytes = s.sendTo x.source bytes by rw [hpcie]; rfl]
      rfl
    rw [ht]
    exact s.ringReply_facts bytes
  · obtain ⟨o, b, h⟩ := s.sendTo_ringOnly x.source bytes
    have ht : t = (s.sendTo x.source bytes).modSession c.slot.val (fun x => x.replied c bytes) := rfl
    rw [ht, h]
    rfl

/-! Events (R456, R457). -/

/-- t is s but for its outputs, its BAR0 registers, its sessions, and what is told of lost records. -/
def State.Delivers (s t : State) : Prop :=
  ∃ o b ss lost before, t = { s with out := o, host := { s.host with bar0 := b, sessions := ss, evtLost := lost, lostBefore := before } }

theorem State.Delivers.trans {s t u : State} (h : s.Delivers t) (k : t.Delivers u) : s.Delivers u := by
  obtain ⟨o, b, ss, lost, before, rfl⟩ := h
  obtain ⟨o', b', ss', lost', before', rfl⟩ := k
  exact ⟨o', b', ss', lost', before', rfl⟩

theorem State.RingOnly.delivers {s t : State} (h : s.RingOnly t) : s.Delivers t := by
  obtain ⟨o, b, rfl⟩ := h
  exact ⟨o, b, s.host.sessions, s.host.evtLost, s.host.lostBefore, rfl⟩

theorem State.Delivers.ite {s t u : State} {p : Prop} [Decidable p] (ht : s.Delivers t) (hu : s.Delivers u) : s.Delivers (if p then t else u) := by
  split
  · exact ht
  · exact hu

/-- The record of an event as it stands in the history. -/
def State.numbered (s : State) (d : Event) : Event :=
  { d with seq := s.host.evtSeq, flags := BitVec.ofNat 8 (b2n s.twin.standby * 128 + b2n s.host.lostBefore * 64) }

/-- The history has taken a record. -/
def State.recorded (s : State) (d : Event) : State :=
  { s with host := { s.host with evtSeq := s.host.evtSeq + 1, lostBefore := false, history := (s.numbered d :: s.host.history).take 256 } }

theorem State.number_eq (s : State) (d : Event) :
    s.number d = (if d.sev = 2 then (((s.recorded d).ringEvent (s.numbered d)).pushAll (s.numbered d)).setInt 4
      else ((s.recorded d).ringEvent (s.numbered d)).pushAll (s.numbered d)) := rfl

/-- The next place of the event ring. -/
def Bar0.eqNext (b : Bar0) : Nat := if b.eqSize = 0 then 0 else (b.eqTail.toNat + 1) % b.eqSize.toNat

theorem Bar0.eqNext_eq (b : Bar0) : b.eqNext = if b.eqSize.toNat = 0 then 0 else (b.eqTail.toNat + 1) % b.eqSize.toNat := by
  have hzero : b.eqSize = 0 ↔ b.eqSize.toNat = 0 := ⟨fun h => by simp [h], fun h => BitVec.eq_of_toNat_eq (by simpa using h)⟩
  exact if_congr hzero rfl rfl

section Ring

variable {s : State} {e : Event}

theorem State.ringEvent_off (h : ¬ nbit s.host.bar0.hostCtrl.toNat 1 = true) : s.ringEvent e = s := if_neg h

/-- The full event ring drops a record. -/
theorem State.ringEvent_full (h : nbit s.host.bar0.hostCtrl.toNat 1 = true) (hfull : s.host.bar0.eqNext = s.host.bar0.eqHead.toNat) :
    s.ringEvent e = State.setInt { s with host := { s.host with evtLost := inc32 s.host.evtLost, lostBefore := true } } 2 := by
  rw [Bar0.eqNext_eq] at hfull
  exact (if_pos h).trans (if_pos hfull)

/-- The event ring with room takes a record at EQ_TAIL. -/
theorem State.ringEvent_room (h : nbit s.host.bar0.hostCtrl.toNat 1 = true) (hroom : s.host.bar0.eqNext ≠ s.host.bar0.eqHead.toNat) :
    s.ringEvent e = ((s.put (.ringEvent s.host.bar0.eqTail.toNat e.bytes)).modBar
      (fun b => { b with eqTail := BitVec.ofNat 32 s.host.bar0.eqNext })).setInt 1 := by
  rw [Bar0.eqNext_eq] at hroom ⊢
  exact (if_pos h).trans (if_neg hroom)

theorem State.ringEvent_delivers (s : State) (e : Event) : s.Delivers (s.ringEvent e) := by
  refine State.Delivers.ite (State.Delivers.ite ?_ ?_) (State.RingOnly.refl s).delivers
  · refine State.Delivers.trans ⟨s.out, s.host.bar0, s.host.sessions, _, _, rfl⟩ (State.setInt_ringOnly _ 2).delivers
  · exact (((s.put_ringOnly _).trans (State.modBar_ringOnly _ _)).trans (State.setInt_ringOnly _ 1)).delivers

theorem State.push_delivers (s : State) (i : Nat) (e : Event) : s.Delivers (s.push i e) :=
  ⟨_, s.host.bar0, _, s.host.evtLost, s.host.lostBefore, rfl⟩

/-- What holds of a state and stays with each push holds after all. -/
theorem State.pushAll_induction {P : State → Prop} (e : Event) (hpush : ∀ t i, P t → P (t.push i e)) (s : State) (hs : P s) :
    P (s.pushAll e) := by
  unfold State.pushAll
  refine List.foldlRecOn _ _ hs (fun t ht i _ => ?_)
  split
  · exact hpush t i ht
  · exact ht

theorem State.pushAll_delivers (s : State) (e : Event) : s.Delivers (s.pushAll e) :=
  State.pushAll_induction e (fun t i ht => ht.trans (t.push_delivers i e)) s (State.RingOnly.refl s).delivers

/-- Pushes write no register of BAR0 and lose no record. -/
theorem State.pushAll_bar0 (s : State) (e : Event) : (s.pushAll e).host.bar0 = s.host.bar0 ∧ (s.pushAll e).host.evtLost = s.host.evtLost :=
  State.pushAll_induction (P := fun t => t.host.bar0 = s.host.bar0 ∧ t.host.evtLost = s.host.evtLost) e (fun _ _ ht => ht) s ⟨rfl, rfl⟩

theorem State.mem_out_pushAll {s : State} {o : Output} (e : Event) (h : o ∈ s.out) : o ∈ (s.pushAll e).out :=
  State.pushAll_induction (P := fun t => o ∈ t.out) e (fun _ _ ht => State.mem_out_put _ ht) s h

end Ring

theorem State.number_delivers (s : State) (d : Event) : (s.recorded d).Delivers (s.number d) := by
  rw [State.number_eq]
  have h := ((s.recorded d).ringEvent_delivers (s.numbered d)).trans (State.pushAll_delivers _ (s.numbered d))
  exact State.Delivers.ite (h.trans (State.setInt_ringOnly _ 4).delivers) h

end Sys2Proof.Machine
end

section
/-! A reply, an event and the event ring (O16, O17). -/

namespace Sys2Proof.Machine

open Sys2Proof.Claims

section Numbering

variable (s : State) (d : Event)

/-- What a numbered event leaves of the host space. -/
theorem State.number_host : (s.number d).host.evtSeq = s.host.evtSeq + 1
    ∧ (s.number d).host.history = (s.numbered d :: s.host.history).take 256 := by
  obtain ⟨o, b, ss, lost, before, h⟩ := s.number_delivers d
  rw [h]
  exact ⟨rfl, rfl⟩

theorem State.number_only : s.number d = { s with out := (s.number d).out, host := (s.number d).host }
    ∧ (s.number d).host.keys = s.host.keys := by
  obtain ⟨o, b, ss, lost, before, h⟩ := s.number_delivers d
  rw [h]
  exact ⟨rfl, rfl⟩

theorem State.number_important (h : d.sev = 2) : nbit (s.number d).host.bar0.intStatus.toNat 4 = true := by
  rw [State.number_eq, if_pos h, State.setInt_nbit _ (by decide)]
  simp

theorem State.mem_out_number {o : Output} (h : o ∈ ((s.recorded d).ringEvent (s.numbered d)).out) : o ∈ (s.number d).out := by
  rw [State.number_eq]
  split_ifs
  · exact State.mem_out_setInt 4 (State.mem_out_pushAll _ h)
  · exact State.mem_out_pushAll _ h

/-- After its record has gone to the ring, an event loses none, and leaves set what causes are set. -/
theorem State.number_ring : (s.number d).host.evtLost = ((s.recorded d).ringEvent (s.numbered d)).host.evtLost
    ∧ ∀ j, nbit ((s.recorded d).ringEvent (s.numbered d)).host.bar0.intStatus.toNat j = true → nbit (s.number d).host.bar0.intStatus.toNat j = true := by
  rw [State.number_eq]
  generalize (s.recorded d).ringEvent (s.numbered d) = u
  obtain ⟨hbar, hlost⟩ := u.pushAll_bar0 (s.numbered d)
  split_ifs
  · refine ⟨((u.pushAll (s.numbered d)).setInt_ringOnly 4).evtLost.trans hlost, fun j hj => ?_⟩
    rw [State.setInt_nbit _ (by decide), hbar, hj]
    rfl
  · refine ⟨hlost, fun j hj => ?_⟩
    rwa [hbar]

end Numbering

/-- The event that RAISE forms. -/
def State.raised (s : State) (code sev inst : Nat) (data : List Byte) : Event :=
  { seq := 0, code := code, sev := sev, flags := 0, sec := s.time.sec, ns := s.time.ns, cycle := s.cyc.cycle, inst := inst, status := 0
    session := 0, cmdSeq := 0, opcode := 0, data := data }

section Raise

variable {s : State} (code sev inst : Nat) (data : List Byte)

theorem State.raise_numbers (h : s.host.gathered = none) : s.raise code sev inst data = s.number (s.raised code sev inst data) := by
  simp [State.raise, State.record, h, State.raised]

theorem State.raise_waits {es : List Event} (h : s.host.gathered = some es) :
    s.raise code sev inst data = { s with host := { s.host with gathered := some (s.raised code sev inst data :: es) } } := by
  simp [State.raise, State.record, h, State.raised]

theorem State.raise_only (s : State) : s.raise code sev inst data
      = { s with out := (s.raise code sev inst data).out, host := (s.raise code sev inst data).host }
    ∧ (s.raise code sev inst data).host.keys = s.host.keys := by
  cases h : s.host.gathered with
  | none =>
    rw [State.raise_numbers code sev inst data h]
    exact s.number_only _
  | some es =>
    rw [State.raise_waits code sev inst data h]
    exact ⟨rfl, rfl⟩

end Raise

/-! The order of the events of a boundary (R457). -/

/-- Ascending CODE, then ascending INSTANCE. -/
abbrev Event.ordered (x y : Event) : Prop := x.code < y.code ∨ (x.code = y.code ∧ x.inst ≤ y.inst)

theorem Event.before_iff (d e : Event) : d.before e = true ↔ d.code < e.code ∨ (d.code = e.code ∧ d.inst < e.inst) := by
  simp [Event.before]

theorem Event.mem_insert (d x : Event) (l : List Event) : x ∈ d.insert l ↔ x = d ∨ x ∈ l := by
  induction l with
  | nil => simp [Event.insert]
  | cons e es ih =>
    unfold Event.insert
    split
    · simp
    · simp only [List.mem_cons, ih]
      tauto

/-- An event put in its place among ordered events leaves them ordered. -/
theorem Event.insert_pairwise (d : Event) {l : List Event} (h : l.Pairwise Event.ordered) : (d.insert l).Pairwise Event.ordered := by
  induction l with
  | nil => simp [Event.insert]
  | cons e es ih =>
    obtain ⟨hhead, htail⟩ := List.pairwise_cons.mp h
    unfold Event.insert
    split
    · rename_i hbefore
      have hde := (Event.before_iff d e).mp hbefore
      refine List.pairwise_cons.mpr ⟨fun x hx => ?_, h⟩
      rcases List.mem_cons.mp hx with rfl | hx
      · show _ ∨ _
        omega
      · have hex := hhead x hx
        show _ ∨ _
        omega
    · rename_i hbefore
      have hde := mt (Event.before_iff d e).mpr hbefore
      refine List.pairwise_cons.mpr ⟨fun x hx => ?_, ih htail⟩
      rcases (Event.mem_insert d x es).mp hx with rfl | hx
      · show _ ∨ _
        omega
      · exact hhead x hx

/-- Of two gathered events the one that comes before is numbered first. -/
theorem State.numberAll_two {s : State} {d e : Event} (h : s.host.gathered = some [d, e]) :
    s.numberAll = (if d.before e then (State.number { s with host := { s.host with gathered := none } } d).number e
      else (State.number { s with host := { s.host with gathered := none } } e).number d) := by
  unfold State.numberAll
  simp only [h, Option.getD_some, List.reverse_cons, List.reverse_nil, List.nil_append, List.cons_append, List.foldl_cons, List.foldl_nil,
    Event.insert]
  split <;> rfl

/-- Settles O16: a reply is `State.reply_spec`, and an event is numbered at once or waits for the boundary that gathers it. -/
theorem repliesAndEvents : Obligations.RepliesAndEvents := by
  unfold Obligations.RepliesAndEvents
  refine ⟨fun s c op st data => s.reply_spec c op st data, fun s code sev inst data d e es l => ?_⟩
  intro t is order
  obtain ⟨honly, hkeys⟩ := State.raise_only code sev inst data s
  refine ⟨fun hnone => ?_, fun hsome => ?_, State.numberAll_two, fun hl => ?_, honly, hkeys, fun i => congrFun (s.raise_idents code sev inst data) i⟩
  · have ht : t = s.number (s.raised code sev inst data) := State.raise_numbers code sev inst data hnone
    obtain ⟨hseq, hhist⟩ := s.number_host (s.raised code sev inst data)
    rw [ht]
    exact ⟨hseq, ⟨_, hhist, rfl, rfl, rfl, rfl, rfl, rfl⟩, s.number_important (s.raised code sev inst data)⟩
  · exact ⟨_, ⟨rfl, rfl, rfl, rfl, rfl⟩, State.raise_waits code sev inst data hsome⟩
  · exact ⟨d.insert_pairwise hl, fun x => d.mem_insert x l⟩

/-! The event ring (R425). -/

section EventRing

variable {s : State} {e : Event}

/-- The event ring with room: the record stands at EQ_TAIL, and none is lost. -/
theorem State.ringEvent_room_facts (hon : nbit s.host.bar0.hostCtrl.toNat 1 = true) (hroom : s.host.bar0.eqNext ≠ s.host.bar0.eqHead.toNat) :
    (s.boot.testEn = false → .ringEvent s.host.bar0.eqTail.toNat e.bytes ∈ (s.ringEvent e).out)
    ∧ (s.ringEvent e).host.bar0.eqTail = BitVec.ofNat 32 s.host.bar0.eqNext
    ∧ (s.ringEvent e).host.evtLost = s.host.evtLost ∧ (s.ringEvent e).host.bar0.eqHead = s.host.bar0.eqHead := by
  rw [State.ringEvent_room hon hroom]
  refine ⟨fun hout => State.mem_out_setInt 1 (State.mem_out_put_self _ hout), ?_, ?_, ?_⟩
  · obtain ⟨last, held, h⟩ := State.setInt_bar0 ((s.put (.ringEvent s.host.bar0.eqTail.toNat e.bytes)).modBar
      (fun b => { b with eqTail := BitVec.ofNat 32 s.host.bar0.eqNext })) 1
    rw [h]
    rfl
  · obtain ⟨o, b, h⟩ := State.setInt_ringOnly ((s.put (.ringEvent s.host.bar0.eqTail.toNat e.bytes)).modBar
      (fun b => { b with eqTail := BitVec.ofNat 32 s.host.bar0.eqNext })) 1
    rw [h]
    rfl
  · obtain ⟨last, held, h⟩ := State.setInt_bar0 ((s.put (.ringEvent s.host.bar0.eqTail.toNat e.bytes)).modBar
      (fun b => { b with eqTail := BitVec.ofNat 32 s.host.bar0.eqNext })) 1
    rw [h]
    rfl

/-- The full event ring: no record is written, and the lost one is counted. -/
theorem State.ringEvent_full_facts (hon : nbit s.host.bar0.hostCtrl.toNat 1 = true) (hfull : s.host.bar0.eqNext = s.host.bar0.eqHead.toNat) :
    (∀ i bs, .ringEvent i bs ∈ (s.ringEvent e).out → .ringEvent i bs ∈ s.out) ∧ (s.ringEvent e).host.bar0.eqTail = s.host.bar0.eqTail
    ∧ (s.ringEvent e).host.evtLost = inc32 s.host.evtLost ∧ nbit (s.ringEvent e).host.bar0.intStatus.toNat 2 = true := by
  rw [State.ringEvent_full hon hfull]
  generalize hu : ({ s with host := { s.host with evtLost := inc32 s.host.evtLost, lostBefore := true } } : State) = u
  have hout : u.out = s.out := by rw [← hu]
  have htail : u.host.bar0.eqTail = s.host.bar0.eqTail := by rw [← hu]
  have hlost : u.host.evtLost = inc32 s.host.evtLost := by rw [← hu]
  obtain ⟨last, held, hbar⟩ := u.setInt_bar0 2
  refine ⟨fun i bs h => hout ▸ State.mem_of_mem_out_setInt (fun _ => nofun) h, ?_, ?_, ?_⟩
  · rw [hbar]
    exact htail
  · exact (u.setInt_ringOnly 2).evtLost.trans hlost
  · simp [u.setInt_nbit (i := 2) (by decide)]

end EventRing

/-- Settles O17: the event ring takes a record when it has room, and a step of the block leaves no event without its number. -/
theorem eventRing : Obligations.EventRing := by
  unfold Obligations.EventRing
  refine ⟨fun s code sev inst data e => ?_, rfl, fun s t hnone hstep => ?_⟩
  · intro b on out numbers next t u
    have hraise : numbers → u = s.number (s.raised code sev inst data) := State.raise_numbers code sev inst data
    generalize s.raised code sev inst data = d at hraise
    refine ⟨State.ringEvent_off, State.ringEvent_room_facts, State.ringEvent_full_facts, fun hon hnum hout hroom => ?_, fun hon hnum hfull => ?_⟩
    · obtain ⟨hmem, _⟩ := State.ringEvent_room_facts (s := s.recorded d) (e := s.numbered d) hon hroom
      rw [hraise hnum]
      exact ⟨s.numbered d, _, (s.number_host d).2, s.mem_out_number d (hmem hout)⟩
    · obtain ⟨_, _, hlost, hset⟩ := State.ringEvent_full_facts (s := s.recorded d) (e := s.numbered d) hon hfull
      obtain ⟨hlost', hset'⟩ := s.number_ring d
      rw [hraise hnum]
      exact ⟨hlost'.trans hlost, hset' 2 hset⟩
  · obtain ⟨u, hu, hgathered⟩ := step_answersNext s
    obtain rfl : u = t := Host.Outcome.next.inj (hu.symm.trans hstep)
    exact hgathered hnone

end Sys2Proof.Machine
end

section
/-! SES_HELLO and SES_PROVE (R430, R431). -/

namespace Sys2Proof.Machine

open Sys2Proof.Claims

theorem exec_sesHello (src : HostSource) (seq : BitVec 16) (role : BitVec 8) (nonce : List Byte) (s : State) :
    exec (.sesHello src seq role nonce) s = execSesHello src seq role nonce s := rfl
theorem exec_sesClose (c : CmdCtx) (s : State) : exec (.sesClose c) s = execSesClose c s := rfl
theorem exec_sesIdle (slot : SlotIx) (s : State) : exec (.sesIdle slot) s = execSesIdle slot s := rfl
theorem exec_challengeTimeout (slot : SlotIx) (s : State) : exec (.challengeTimeout slot) s = execChallengeTimeout slot s := rfl
theorem exec_lockoutEnd (src : HostSource) (s : State) : exec (.lockoutEnd src) s = execLockoutEnd src s := rfl

/-! SES_HELLO (R430, R431, R435, R438). -/

/-- The receive queue of a plant port without the SES_HELLO packet that is being taken. -/
def State.helloTaken (s : State) (src : HostSource) (seq : BitVec 16) : State :=
  match src with
  | .pcie => s
  | .udp p _ _ => s.setPlantQueue p.val ((s.plantQueue p.val).filter (fun b => !decide (pktOp b = 0x0201 ∧ pktSeq b = seq.toNat)))

/-- What a SES_HELLO reads stays when its packet is taken. -/
theorem State.helloTaken_reads (s : State) (src : HostSource) (seq : BitVec 16) :
    (s.helloTaken src seq).serves = s.serves ∧ (s.helloTaken src seq).lockedFor src = s.lockedFor src
    ∧ (s.helloTaken src seq).host.keys = s.host.keys ∧ (∀ i, (s.helloTaken src seq).session i = s.session i)
    ∧ (s.helloTaken src seq).coreTicks = s.coreTicks := by
  cases src <;> exact ⟨rfl, rfl, rfl, fun _ => rfl, rfl⟩

/-- The answer to a SES_HELLO. -/
abbrev State.helloAnswer (t : State) (src : HostSource) (seq : BitVec 16) (params : List Byte) : State :=
  t.sendTo src (packet 0x0201 seq 0 0x8000 [] params)

section Hello

variable {s : State} {src : HostSource} {seq : BitVec 16} {role : BitVec 8} {nonce : List Byte}

/-- SES_HELLO with its reads made of the state before its packet is taken. -/
theorem exec_sesHello_eq : exec (.sesHello src seq role nonce) s =
    let v := s.helloTaken src seq
    let answer := fun (t : State) (params : List Byte) => t.helloAnswer src seq params
    if !s.serves then .next v
    else if nonce.length ≠ 16 then .next (answer v (be 2 stBadLength))
    else if !decide (1 ≤ role.toNat ∧ role.toNat ≤ 5) then .next (answer v (be 2 stBadValue))
    else match s.lockedFor src with
      | some n => .next (answer v (be 2 stLocked ++ be 4 n))
      | none =>
        if s.host.keys.default && !(decide (src = .pcie) && decide (role.toNat = 5)) then .next (answer v (be 2 stRole))
        else match (List.range 8).find? (fun i => decide ((s.session i).phase = .free)) with
          | none => .next (answer v (be 2 0x0401))
          | some i =>
            let nd := (v.random 20).drop 4
            let id := field (v.random 20) 0 4 / 8 * 8 + i
            .next (answer ((v.useFree 20).setSession i
              { phase := .challenged, id := BitVec.ofNat 32 id, role := role.toNat, source := src, nh := nonce, nd := nd
                lastTick := s.coreTicks, helloSeq := seq }) (be 2 stAccepted ++ be 4 id ++ nd ++ be 6 Config.serial.toNat)) := by
  rw [exec_sesHello]
  unfold execSesHello State.answerBare
  simp only [BitVec.ofNat_toNat, BitVec.setWidth_eq]
  cases src <;> rfl

/-- A request that a SES_HELLO may make: the device serves, the nonce has 16 bytes, and the role is one of the five. -/
abbrev helloAsks (s : State) (role : BitVec 8) (nonce : List Byte) : Prop := s.serves = true ∧ nonce.length = 16 ∧ 1 ≤ role.toNat ∧ role.toNat ≤ 5

theorem exec_sesHello_asks (h : helloAsks s role nonce) : exec (.sesHello src seq role nonce) s =
    match s.lockedFor src with
    | some n => .next ((s.helloTaken src seq).helloAnswer src seq (be 2 stLocked ++ be 4 n))
    | none =>
      if s.host.keys.default && !(decide (src = .pcie) && decide (role.toNat = 5)) then
        .next ((s.helloTaken src seq).helloAnswer src seq (be 2 stRole))
      else match (List.range 8).find? (fun i => decide ((s.session i).phase = .free)) with
        | none => .next ((s.helloTaken src seq).helloAnswer src seq (be 2 0x0401))
        | some i =>
          let nd := ((s.helloTaken src seq).random 20).drop 4
          let id := field ((s.helloTaken src seq).random 20) 0 4 / 8 * 8 + i
          .next ((((s.helloTaken src seq).useFree 20).setSession i
            { phase := .challenged, id := BitVec.ofNat 32 id, role := role.toNat, source := src, nh := nonce, nd := nd
              lastTick := s.coreTicks, helloSeq := seq }).helloAnswer src seq (be 2 stAccepted ++ be 4 id ++ nd ++ be 6 Config.serial.toNat)) := by
  obtain ⟨hserves, hlen, hrole⟩ := h
  rw [exec_sesHello_eq]
  simp only [hserves, hlen, hrole]
  rfl

/-- The role and the way of a SES_HELLO that KEYS_DEFAULT lets through (R438). -/
theorem helloKeys_iff : (s.host.keys.default && !(decide (src = .pcie) && decide (role.toNat = 5))) = true
    ↔ ¬ (s.host.keys.default = true → src = .pcie ∧ role = 5) := by
  have hrole : role.toNat = 5 ↔ role = 5 := ⟨fun h => BitVec.eq_of_toNat_eq h, fun h => by rw [h]; rfl⟩
  simp only [Bool.and_eq_true, Bool.not_eq_true', Bool.and_eq_false_iff, decide_eq_false_iff_not, hrole]
  tauto

/-- A host that is not locked out and may ask gets the lowest free slot, under an identifier and a nonce of the device. -/
theorem exec_sesHello_challenges (h : helloAsks s role nonce) (hlock : s.lockedFor src = none)
    (hkeys : s.host.keys.default = true → src = .pcie ∧ role = 5) {i : Nat} (hi : i < 8) (hfree : (s.session i).phase = .free)
    (hlow : ∀ j, j < i → (s.session j).phase ≠ .free) : ∃ (id : Nat) (nd : List Byte), id % 8 = i ∧ nd.length = 16
      ∧ exec (.sesHello src seq role nonce) s = .next ((((s.helloTaken src seq).useFree 20).setSession i
        { phase := .challenged, id := BitVec.ofNat 32 id, role := role.toNat, source := src, nh := nonce, nd := nd
          lastTick := s.coreTicks, helloSeq := seq }).helloAnswer src seq (be 2 1 ++ be 4 id ++ nd ++ be 6 Config.serial.toNat)) := by
  have hfind : (List.range 8).find? (fun i => decide ((s.session i).phase = .free)) = some i := by
    rw [List.find?_eq_some_iff_getElem]
    exact ⟨decide_eq_true hfree, i, by simpa using hi, by simp, fun j hj => by simpa using hlow j hj⟩
  refine ⟨field ((s.helloTaken src seq).random 20) 0 4 / 8 * 8 + i, ((s.helloTaken src seq).random 20).drop 4, by omega,
    by simp [State.random], ?_⟩
  rw [exec_sesHello_asks h, hlock, hfind]
  exact if_neg (mt helloKeys_iff.mp (not_not.mpr hkeys))

theorem exec_sesHello_noSlot (h : helloAsks s role nonce) (hlock : s.lockedFor src = none)
    (hkeys : s.host.keys.default = true → src = .pcie ∧ role = 5) (hfull : ∀ i, i < 8 → (s.session i).phase ≠ .free) :
    exec (.sesHello src seq role nonce) s = .next ((s.helloTaken src seq).helloAnswer src seq (be 2 0x0401)) := by
  have hfind : (List.range 8).find? (fun i => decide ((s.session i).phase = .free)) = none := by
    rw [List.find?_eq_none]
    exact fun i hi => by simpa using hfull i (List.mem_range.mp hi)
  rw [exec_sesHello_asks h, hlock, hfind]
  exact if_neg (mt helloKeys_iff.mp (not_not.mpr hkeys))

end Hello

/-! SES_PROVE (R431, R435), and the end of a challenge. -/

section Prove

variable {s : State} {c : CmdCtx} {proof : List Byte}

/-- The bare answer to a SES_PROVE, without a TAG. -/
abbrev State.proveAnswer (t : State) (x : Session) (c : CmdCtx) (st : Nat) : State :=
  t.sendTo x.source (packet 0x0202 c.seq x.id (replyFlagsOf c) [] (be 2 st))

theorem exec_sesProve_noSession (h : let x := (s.takeUp c).session c.slot.val
      x.phase = .free ∨ (x.phase = .challenged ∧ ¬ s.coreTicks ≤ x.lastTick + 2000000000)) :
    exec (.sesProve c proof) s = .next ((s.takeUp c).proveAnswer ((s.takeUp c).session c.slot.val) c 0x0204) := by
  obtain ⟨-, -, -, -, -, hticks⟩ := s.takeUp_facts c
  refine if_pos ?_
  rw [hticks]
  exact h.imp_right (And.imp_right Nat.lt_of_not_le)

theorem exec_sesProve_opened (h : ((s.takeUp c).session c.slot.val).phase = .opened) :
    exec (.sesProve c proof) s = .next ((s.takeUp c).proveAnswer ((s.takeUp c).session c.slot.val) c 0x0301) :=
  (if_neg (by simp [h])).trans (if_pos h)

theorem exec_sesProve_challenged (h : ((s.takeUp c).session c.slot.val).phase = .challenged)
    (htime : s.coreTicks ≤ ((s.takeUp c).session c.slot.val).lastTick + 2000000000) : exec (.sesProve c proof) s =
      let u := s.takeUp c
      let x := u.session c.slot.val
      let k := u.roleKey x.role
      if proof = hmac k (x.nh ++ x.nd) then
        .next (((u.clearFailures x.source).setSession c.slot.val
          { x with phase := .opened, key := hkdf32 k (x.nh ++ x.nd) (sessionInfo ++ be 4 x.id.toNat ++ be 1 x.role), lastSeq := c.seq
                   lastTick := s.coreTicks, nh := [], nd := [] }).reply c 0x0202 stDone (hmac k (x.nd ++ x.nh)))
      else .next (((u.proveAnswer x c stAuth).setSession c.slot.val Session.reset).countFailure x.source) := by
  obtain ⟨-, -, -, -, -, hticks⟩ := s.takeUp_facts c
  have hstale : ¬ (((s.takeUp c).session c.slot.val).phase = .free ∨ (((s.takeUp c).session c.slot.val).phase = .challenged
      ∧ ((s.takeUp c).session c.slot.val).lastTick + 2000000000 < (s.takeUp c).coreTicks)) := by
    rw [hticks, h]
    rintro (hfree | ⟨-, hlate⟩)
    · exact nomatch hfree
    · omega
  refine ((if_neg hstale).trans (if_neg (by simp [h]))).trans ?_
  rw [hticks]

end Prove

end Sys2Proof.Machine
end

section
/-! The lockout and the closing of sessions (O18). -/

namespace Sys2Proof.Machine

open Sys2Proof.Claims

/-! The lockout of a source (R435). -/

theorem exec_lockoutEnd_of {s : State} {src : HostSource} {e : LockEntry} {until_ : Nat} (he : s.lockOf src = some e)
    (hu : e.until_ = some until_) (hdue : until_ ≤ s.coreTicks) :
    exec (.lockoutEnd src) s = .next (s.setLock src [{ e with until_ := none }]) := by
  rw [exec_lockoutEnd, execLockoutEnd, he]
  simp only [hu]
  exact whenB_of_true (decide_eq_true hdue) s _

theorem State.lockOf_setLock (s : State) {src : HostSource} {e : LockEntry} (he : e.src = lockSource src) :
    (s.setLock src [e]).lockOf src = some e := by
  have hnone : (s.host.lock.filter (fun (e : LockEntry) => !decide (e.src = lockSource src))).find?
      (fun (e : LockEntry) => decide (e.src = lockSource src)) = none := by
    rw [List.find?_eq_none]
    exact fun x hx => by simpa using (List.mem_filter.mp hx).2
  unfold State.setLock State.lockOf
  rw [List.find?_append, hnone]
  simp [he]

/-- What an event leaves of the table of failed proofs, and of the clock. -/
theorem State.raise_lock (s : State) (code sev inst : Nat) (data : List Byte) :
    (s.raise code sev inst data).host.lock = s.host.lock ∧ (s.raise code sev inst data).host.lockouts = s.host.lockouts
    ∧ (s.raise code sev inst data).host.proveFail = s.host.proveFail ∧ (s.raise code sev inst data).coreTicks = s.coreTicks := by
  cases h : s.host.gathered with
  | none =>
    rw [State.raise_numbers code sev inst data h]
    obtain ⟨o, b, ss, lost, before, hnum⟩ := s.number_delivers (s.raised code sev inst data)
    rw [hnum]
    exact ⟨rfl, rfl, rfl, rfl⟩
  | some es =>
    rw [State.raise_waits code sev inst data h]
    exact ⟨rfl, rfl, rfl, rfl⟩

/-- The length of the next lockout, in s. -/
def LockEntry.nextDuration (e : LockEntry) : Nat := if e.duration = 0 then 10 else min 3600 (2 * e.duration)

theorem LockEntry.nextDuration_pos (e : LockEntry) : 0 < e.nextDuration := by
  unfold LockEntry.nextDuration
  split_ifs <;> omega

/-- The entry of a source that fails again. -/
def LockEntry.again (e : LockEntry) (now : Nat) : LockEntry :=
  if e.fails + 1 < 5 then { e with fails := e.fails + 1, lastFail := now }
  else { e with fails := 0, until_ := some (now + e.nextDuration * 1000000000), duration := e.nextDuration, lastFail := now }

section CountFailure

variable {s : State} {src : HostSource} {e : LockEntry}

/-- A failed proof is counted. -/
def State.proveFailed (s : State) : State := { s with host := { s.host with proveFail := inc32 s.host.proveFail } }

/-- A source that the table holds keeps its place in it. -/
theorem State.countFailure_eq (he : s.lockOf src = some e) : s.countFailure src =
    if e.fails + 1 < 5 then s.proveFailed.setLock src [e.again s.coreTicks]
    else
      let u := s.proveFailed.setLock src [e.again s.coreTicks]
      ({ u with host := { u.host with lockouts := inc32 u.host.lockouts } }).raise 0x0201 1 0 (be 4 (sourceIp src) ++ be 4 e.nextDuration) := by
  have he' : s.proveFailed.lockOf src = some e := he
  have hroom : s.proveFailed.lockHasRoom src = true := by simp [State.lockHasRoom, he']
  have hstays : s.proveFailed.lockRoom src = s.proveFailed := if_pos (by simp [he'])
  unfold State.countFailure
  extract_lets _ s0 e' s1 d u
  have hs0 : s0 = s.proveFailed := rfl
  have hee : e' = e := by simp [e', hs0, he']
  have hs1 : s1 = s.proveFailed := hstays
  rw [hs0, hroom]
  by_cases hfew : e.fails + 1 < 5
  · simp [hee, hs1, hfew, LockEntry.again]
  · have hd : d = e.nextDuration := by simp only [d, hee, LockEntry.nextDuration]
    have hu : u = s.proveFailed.setLock src [e.again s.coreTicks] := by simp only [u, hd, hee, hs1, LockEntry.again, if_neg hfew]
    rw [if_neg (by simp), if_neg (by rwa [hee]), if_neg hfew]
    show State.raise { u with host := { u.host with lockouts := inc32 u.host.lockouts } } 0x0201 1 0 (be 4 (sourceIp src) ++ be 4 d) = _
    rw [hu, hd]

theorem State.countFailure_few (he : s.lockOf src = some e) (hsrc : e.src = lockSource src) (hfew : e.fails < 4) :
    (s.countFailure src).lockOf src = some { e with fails := e.fails + 1, lastFail := s.coreTicks }
    ∧ (s.countFailure src).host.lockouts = s.host.lockouts ∧ (s.countFailure src).host.proveFail = inc32 s.host.proveFail := by
  have hfew' : e.fails + 1 < 5 := by omega
  rw [State.countFailure_eq he, if_pos hfew']
  have hagain : e.again s.coreTicks = { e with fails := e.fails + 1, lastFail := s.coreTicks } := if_pos hfew'
  rw [hagain]
  exact ⟨State.lockOf_setLock _ hsrc, rfl, rfl⟩

/-- The fifth failure locks the source out for its next duration. -/
theorem State.countFailure_locks (he : s.lockOf src = some e) (hsrc : e.src = lockSource src) (hmany : 4 ≤ e.fails) :
    (s.countFailure src).host.lockouts = inc32 s.host.lockouts
    ∧ (s.countFailure src).lockOf src = some
        { e with fails := 0, until_ := some (s.coreTicks + e.nextDuration * 1000000000), duration := e.nextDuration, lastFail := s.coreTicks }
    ∧ (s.countFailure src).lockedFor src = some e.nextDuration ∧ (s.countFailure src).host.proveFail = inc32 s.host.proveFail := by
  have hmany' : ¬ e.fails + 1 < 5 := by omega
  rw [State.countFailure_eq he, if_neg hmany']
  have hagain : e.again s.coreTicks =
      { e with fails := 0, until_ := some (s.coreTicks + e.nextDuration * 1000000000), duration := e.nextDuration, lastFail := s.coreTicks } :=
    if_neg hmany'
  generalize hx : e.again s.coreTicks = x at hagain
  have hlock := s.proveFailed.lockOf_setLock (e := x) (src := src) (by rw [hagain]; exact hsrc)
  extract_lets u
  obtain ⟨hl, hlo, hp, ht⟩ := State.raise_lock { u with host := { u.host with lockouts := inc32 u.host.lockouts } } 0x0201 1 0
    (be 4 (sourceIp src) ++ be 4 e.nextDuration)
  generalize State.raise _ 0x0201 1 0 _ = t at hl hlo hp ht ⊢
  have hof : t.lockOf src = some x := by
    rw [State.lockOf, hl]
    exact hlock
  refine ⟨hlo, hagain ▸ hof, ?_, hp⟩
  have hpos := e.nextDuration_pos
  have hticks : t.coreTicks = s.coreTicks := ht
  rw [State.lockedFor, hof, hagain]
  simp only [hticks]
  rw [if_pos (by omega), Nat.add_sub_cancel_left]
  congr 1
  unfold cdiv
  omega

end CountFailure

/-! Closing (R432). -/

section Close

variable (s : State) (i : Nat)

theorem State.closeSession_session : (s.closeSession i).session i = Session.reset := by
  simp [State.closeSession]

theorem State.closeSession_session_ne {j : Nat} (h : j ≠ i) : (s.closeSession i).session j = s.session j := by
  rw [State.closeSession, State.setSession_ne _ _ _ _ h]
  rfl

/-- What waits on the commands of a closed session is dropped, and nothing else is. -/
theorem State.closeSession_drops :
    (∀ w, w ∈ (s.closeSession i).host.parQueue ↔ w ∈ s.host.parQueue ∧ w.ctx.slot.val ≠ i)
    ∧ (∀ w, w ∈ (s.closeSession i).eng.segWaiting ↔ w ∈ s.eng.segWaiting ∧ w.ctx.slot.val ≠ i)
    ∧ (∀ w, w ∈ (s.closeSession i).arb.budget ↔ w ∈ s.arb.budget ∧ w.ctx.slot.val ≠ i)
    ∧ (∀ w, w ∈ (s.closeSession i).host.boundary ↔ w ∈ s.host.boundary ∧ w.1.slot.val ≠ i)
    ∧ (∀ w, w ∈ (s.closeSession i).fld.outWait ↔ w ∈ s.fld.outWait ∧ w.ctx.slot.val ≠ i) := by
  refine ⟨fun w => ?_, fun w => ?_, fun w => ?_, fun w => ?_, fun w => ?_⟩
  all_goals
    refine List.mem_filter.trans (and_congr_right fun _ => ?_)
    simp

theorem State.closeSession_only : s.closeSession i =
    { s with host := (s.closeSession i).host, eng := (s.closeSession i).eng, moves := (s.closeSession i).moves, arb := (s.closeSession i).arb
             axes := (s.closeSession i).axes, fld := { s.fld with outWait := (s.closeSession i).fld.outWait }
             scs := { s.scs with armPending := (s.closeSession i).scs.armPending, forceCtx := (s.closeSession i).scs.forceCtx }
             time := { s.time with step := (s.closeSession i).time.step } } := rfl

end Close

/-- Settles O18: SES_HELLO, SES_PROVE, the closing of sessions, and the count of failed proofs, each by its lemmas above. -/
theorem sessions : Obligations.Sessions := by
  unfold Obligations.Sessions
  refine ⟨fun s c src seq role nonce proof slot => ?_, fun s c slot src e until_ => ?_, fun s src e he hsrc => ?_⟩
  · intro v answer hello inRole ask mayAsk free u x k bare inTime
    have hv : v = s.helloTaken src seq := rfl
    refine ⟨fun h => ?_, fun h hlen => ?_, fun h hlen hrole => ?_, fun hask n hlock => ?_, fun hask hlock hkeys => ?_,
      fun hask hlock hkeys hfull => exec_sesHello_noSlot hask hlock hkeys hfull,
      fun hask hlock hkeys i ⟨hi, hfree, hlow⟩ => exec_sesHello_challenges hask hlock hkeys hi hfree hlow,
      exec_sesProve_noSession, exec_sesProve_opened, fun hph htime hproof => ?_, fun hph htime hproof => ?_, fun hph hlate => ?_⟩
    · exact exec_sesHello_eq.trans (if_pos (by simp [h]))
    · exact exec_sesHello_eq.trans ((if_neg (by simp [h])).trans (if_pos hlen))
    · exact exec_sesHello_eq.trans ((if_neg (by simp [h])).trans ((if_neg (not_not.mpr hlen)).trans (if_pos (by simpa only [Bool.not_eq_true', decide_eq_false_iff_not] using hrole))))
    · exact (exec_sesHello_asks hask).trans (by rw [hlock]; rfl)
    · exact (exec_sesHello_asks hask).trans (by rw [hlock]; exact if_pos (helloKeys_iff.mpr hkeys))
    · exact (exec_sesProve_challenged hph htime).trans (if_pos hproof)
    · exact (exec_sesProve_challenged hph htime).trans (if_neg hproof)
    · exact whenB_of_true (by simp [hph, hlate]) s _
  · obtain ⟨hpar, hseg, hbudget, hboundary, hout⟩ := s.closeSession_drops slot.val
    exact ⟨fun h => exec_hostAt_takes (exec_sesClose c s) h rfl rfl, fun hph hidle => whenB_of_true (by simp [hph, hidle]) s _,
      s.closeSession_session slot.val, fun i hi => s.closeSession_session_ne slot.val hi, hpar, hseg, hbudget, hboundary, hout,
      s.closeSession_only slot.val, exec_lockoutEnd_of⟩
  · intro t d
    by_cases hfew : e.fails < 4
    · obtain ⟨hof, hlo, hp⟩ := State.countFailure_few he hsrc hfew
      exact ⟨hp, fun _ => ⟨hof, hlo⟩, fun hmany => absurd hmany (by omega)⟩
    · obtain ⟨hlo, hof, hfor, hp⟩ := State.countFailure_locks he hsrc (Nat.le_of_not_lt hfew)
      exact ⟨hp, fun h => absurd h hfew, fun _ => ⟨hlo, hof, hfor⟩⟩

end Sys2Proof.Machine
end

section
/-! The BAR0 registers and the rings (O21). -/

namespace Sys2Proof.Machine

open Sys2Proof.Claims

theorem exec_registerWrite (off : BitVec 16) (v : BitVec 32) (s : State) :
    exec (.registerWrite off v) s = .next (s.writeRegister off.toNat v) := rfl
theorem exec_ringEn (s : State) : exec .ringEn s = .next (s.modBar (fun b => b.writeCtrl true b.eqOn)) := rfl
theorem exec_eqEn (s : State) : exec .eqEn s = .next (s.modBar (fun b => b.writeCtrl b.ringOn true)) := rfl
theorem exec_eqHead (v : BitVec 32) (s : State) : exec (.eqHead v) s = .next (s.modBar (fun b => { b with eqHead := v })) := rfl
theorem exec_cqHead (v : BitVec 32) (s : State) : exec (.cqHead v) s = .next ((s.modBar (fun b => { b with cqHead := v })).readRing) := rfl
theorem exec_sqTail (v : BitVec 32) (entries : List (List Byte)) (s : State) :
    exec (.sqTail v entries) s = .next (s.writeSqTail v.toNat entries) := rfl
theorem exec_intStatus (v : BitVec 32) (s : State) : exec (.intStatus v) s = .next (s.clearInts v) := rfl
theorem exec_msiCoalesceEnd (k : Fin 4) (s : State) : exec (.msiCoalesceEnd k) s = execMsiCoalesceEnd k s := rfl
theorem exec_pcieReset (s : State) :
    exec .pcieReset s = .next ((s.closeWhere (fun src => decide (src = .pcie))).modBar (fun _ => Bar0.reset)) := rfl

/-! RING_EN and EQ_EN (Table HST-3). -/

theorem nbit_toNat {w : Nat} (x : BitVec w) (i : Nat) : nbit x.toNat i = x.getLsbD i := nbit_eq_testBit x.toNat i

theorem Bar0.ringOn_eq (b : Bar0) : b.ringOn = b.hostCtrl.getLsbD 0 := nbit_toNat _ 0
theorem Bar0.eqOn_eq (b : Bar0) : b.eqOn = b.hostCtrl.getLsbD 1 := nbit_toNat _ 1

/-- RING_EN set from 0 to 1 clears SQ_STOPPED and the indices (R424). -/
theorem Bar0.writeCtrl_starts {b : Bar0} (h : b.hostCtrl.getLsbD 0 = false) (eq : Bool) : b.writeCtrl true eq =
    { b with hostCtrl := BitVec.ofNat 32 (1 + 2 * b2n eq), sqStopped := false, sqTail := 0, sqHead := 0, cqHead := 0, cqTail := 0, sqQueue := [] } :=
  if_pos (by rw [Bar0.ringOn_eq, h]; rfl)

theorem Bar0.writeCtrl_keeps {b : Bar0} {ring : Bool} (h : ring = true → b.hostCtrl.getLsbD 0 = true) (eq : Bool) :
    b.writeCtrl ring eq = { b with hostCtrl := BitVec.ofNat 32 (b2n ring + 2 * b2n eq) } := by
  refine if_neg ?_
  rw [Bar0.ringOn_eq]
  cases ring with
  | false => simp
  | true => simp [h rfl]

/-! A write of a register (Table HST-3). -/

theorem ringSizeOk_iff (lo hi v : Nat) : ringSizeOk lo hi v = true ↔ lo ≤ v ∧ v ≤ hi ∧ ∃ n, n ≤ 12 ∧ v = 2 ^ n := by
  simp [ringSizeOk, and_assoc, Nat.lt_succ_iff]

section Register

variable {s : State} {off : Nat} {v : BitVec 32}

/-- The state with other BAR0 registers. -/
abbrev State.withBar (s : State) (b : Bar0) : State := { s with host := { s.host with bar0 := b } }

theorem State.lockedWrite_on (f : Bar0 → Bar0) : s.lockedWrite true f = s.setInt 5 := rfl
theorem State.lockedWrite_off (f : Bar0 → Bar0) : s.lockedWrite false f = s.withBar (f s.host.bar0) := rfl

/-- A register of a running ring keeps its value. -/
theorem State.lockedWrite_ignored {on : Bool} (h : on = true) (f : Bar0 → Bar0) : s.lockedWrite on f = s.setInt 5 := if_pos h

theorem State.lockedWrite_writes {on : Bool} (h : on = false) (f : Bar0 → Bar0) : s.lockedWrite on f = s.withBar (f s.host.bar0) :=
  if_neg (by simp [h])

theorem State.writeRegister_sqcq (h : off = 0x10 ∨ off = 0x14 ∨ off = 0x18 ∨ off = 0x30 ∨ off = 0x34 ∨ off = 0x38) :
    ∃ f, s.writeRegister off v = s.lockedWrite s.host.bar0.ringOn f := by
  rcases h with rfl | rfl | rfl | rfl | rfl | rfl
  all_goals exact ⟨_, rfl⟩

theorem State.writeRegister_eq (h : off = 0x50 ∨ off = 0x54 ∨ off = 0x58) : ∃ f, s.writeRegister off v = s.lockedWrite s.host.bar0.eqOn f := by
  rcases h with rfl | rfl | rfl
  all_goals exact ⟨_, rfl⟩

/-- A size register of a stopped ring takes a size in its range, and no other (log 122). -/
theorem State.lockedWrite_size {on : Bool} {b' : Bar0} {lo hi : Nat} (hoff : on = false) :
    (lo ≤ v.toNat ∧ v.toNat ≤ hi ∧ (∃ n, n ≤ 12 ∧ v.toNat = 2 ^ n) →
      s.lockedWrite on (fun b => if ringSizeOk lo hi v.toNat then b' else b) = s.withBar b')
    ∧ (¬ (lo ≤ v.toNat ∧ v.toNat ≤ hi ∧ ∃ n, n ≤ 12 ∧ v.toNat = 2 ^ n) →
      s.lockedWrite on (fun b => if ringSizeOk lo hi v.toNat then b' else b) = s) := by
  rw [State.lockedWrite_writes hoff]
  refine ⟨fun h => ?_, fun h => ?_⟩
  · rw [if_pos ((ringSizeOk_iff _ _ _).mpr h)]
  · rw [if_neg (mt (ringSizeOk_iff _ _ _).mp h)]

/-- An offset that Table HST-3 does not list. -/
theorem State.writeRegister_unlisted (h : 0x84 ≤ off ∨ off % 4 ≠ 0) : s.writeRegister off v = s := by
  unfold State.writeRegister
  repeat rw [if_neg (by omega)]

end Register

/-! The rings (R424). -/

section Rings

variable {s : State}

theorem State.writeSqTail_off (h : s.host.bar0.hostCtrl.getLsbD 0 = false) (v : BitVec 32) (entries : List (List Byte)) :
    s.writeSqTail v.toNat entries = s.withBar { s.host.bar0 with sqTail := v } := by
  refine (if_pos (by rw [Bar0.ringOn_eq, h]; rfl)).trans ?_
  rw [BitVec.ofNat_toNat, BitVec.setWidth_eq]
  rfl

theorem State.writeSqTail_beyond (hon : s.host.bar0.hostCtrl.getLsbD 0 = true) {v : BitVec 32} (h : s.host.bar0.sqSize.toNat ≤ v.toNat)
    (entries : List (List Byte)) : s.writeSqTail v.toNat entries = (s.withBar { s.host.bar0 with sqTail := v, sqStopped := true }).setInt 3 := by
  refine (if_neg (by rw [Bar0.ringOn_eq, hon]; decide)).trans ((if_pos h).trans ?_)
  rw [BitVec.ofNat_toNat, BitVec.setWidth_eq]
  rfl

theorem map_getD_range (l : List (List Byte)) : (List.range l.length).map (fun i => l.getD i []) = l := by
  refine List.ext_getElem (by simp) (fun i _ hi => ?_)
  simp [hi]

/-- The doorbell of a running ring: what the host wrote up to the new tail waits, and the device reads. -/
theorem State.writeSqTail_reads (hon : s.host.bar0.hostCtrl.getLsbD 0 = true) {v : BitVec 32} (hv : v.toNat < s.host.bar0.sqSize.toNat)
    (htail : s.host.bar0.sqTail.toNat < s.host.bar0.sqSize.toNat) {entries : List (List Byte)}
    (hlen : entries.length = (v.toNat + s.host.bar0.sqSize.toNat - s.host.bar0.sqTail.toNat) % s.host.bar0.sqSize.toNat) :
    s.writeSqTail v.toNat entries =
      (s.withBar { s.host.bar0 with sqTail := v, sqQueue := s.host.bar0.sqQueue ++ entries }).drainRing (s.host.bar0.sqQueue ++ entries) := by
  refine (if_neg (by rw [Bar0.ringOn_eq, hon]; decide)).trans ((if_neg (Nat.not_le.mpr hv)).trans ?_)
  simp only [Nat.mod_eq_of_lt htail, ← hlen, map_getD_range, BitVec.ofNat_toNat, BitVec.setWidth_eq]
  rfl

/-- The device may read an entry: the ring runs, and the completion ring has room. -/
theorem mayRead_iff (b : Bar0) : (b.ringOn && !b.sqStopped && !b.cqFull) = true
    ↔ b.hostCtrl.getLsbD 0 = true ∧ b.sqStopped = false ∧ ¬ (b.cqTail.toNat + 1) % b.cqSize.toNat = b.cqHead.toNat := by
  rw [Bar0.ringOn_eq]
  simp [Bar0.cqFull, and_assoc]

end Rings

/-! The message that the gap held back (R426). -/

theorem getLsbD_ofNat_nsetBit (v : Nat) {j : Nat} (hj : j < 4) (b : Bool) : (BitVec.ofNat 4 (nsetBit v j b)).getLsbD j = b := by
  rw [BitVec.getLsbD_ofNat, decide_eq_true hj, Bool.true_and, ← nbit_eq_testBit, nbit_nsetBit_self]

theorem exec_msiCoalesceEnd_sends {s : State} {k : Fin 4} (hheld : s.host.bar0.msiHeld.getLsbD k.val = true)
    (hdue : ∀ t, s.msiLast k.val = some t → t + s.msiGap ≤ s.coreTicks) : exec (.msiCoalesceEnd k) s =
      .next ((s.withBar { s.host.bar0 with
        msiHeld := BitVec.ofNat 4 (nsetBit s.host.bar0.msiHeld.toNat k.val false)
        msiLast := sput (fun _ => none) s.host.bar0.msiLast k.val (some s.coreTicks) }).put (.msi k.val)) := by
  rw [exec_msiCoalesceEnd]
  unfold execMsiCoalesceEnd
  extract_lets b gap past
  have hgap : gap = s.msiGap := congrArg (· * 1000) (nbits_low16 _)
  have hpast : past = true := by
    unfold past
    split
    · rfl
    · rename_i t ht
      exact decide_eq_true (hgap ▸ hdue t ht)
  exact whenB_of_true (by rw [hpast, nbit_toNat, hheld]; rfl) s _

/-! PCIE_RESET (R469). -/

/-- Every session that a closing reaches is free, and no other one changes. -/
theorem State.closeUpTo_session (s : State) (f : HostSource → Bool) (n i : Nat) :
    ((List.range n).foldl (fun s i => if (s.session i).phase ≠ .free ∧ f (s.session i).source = true then s.closeSession i else s) s).session i
      = if i < n ∧ (s.session i).phase ≠ .free ∧ f (s.session i).source = true then Session.reset else s.session i := by
  induction n generalizing i with
  | zero => simp
  | succ n ih =>
    rw [List.range_succ, List.foldl_append, List.foldl_cons, List.foldl_nil]
    generalize List.foldl _ s (List.range n) = t at ih
    have hn : t.session n = s.session n := by simpa using ih n
    rw [hn]
    by_cases hi : i = n
    · subst hi
      by_cases hc : (s.session i).phase ≠ .free ∧ f (s.session i).source = true
      · rw [if_pos hc, if_pos ⟨Nat.lt_succ_self i, hc⟩, State.closeSession_session]
      · rw [if_neg hc, if_neg (fun h => hc h.2), hn]
    · have hlt : i < n + 1 ↔ i < n := by omega
      simp only [hlt]
      rw [← ih i]
      split_ifs
      · exact t.closeSession_session_ne n hi
      · rfl

/-- What each register takes that has no ring to guard it (Table HST-3). -/
theorem exec_registerWrite_plain (s : State) (v : BitVec 32) :
    Leaves (.registerWrite 0x74 v) s (s.withBar { s.host.bar0 with intEnable := v &&& 0x3F })
    ∧ Leaves (.registerWrite 0x7C v) s (s.withBar { s.host.bar0 with msiMap := v &&& 0xFFF })
    ∧ (v.toNat % 65536 ≤ 1000 → Leaves (.registerWrite 0x78 v) s (s.withBar { s.host.bar0 with intCoal := v &&& 0xFFFF }))
    ∧ Leaves (.registerWrite 0x80 v) s (s.withBar { s.host.bar0 with alertMask := v &&& 0x3F }) := by
  refine ⟨rfl, rfl, fun h => ?_, rfl⟩
  have hgap : nbits v.toNat 0 16 ≤ 1000 := (nbits_low16 _).trans_le h
  refine congrArg Host.Outcome.next (?_ : s.modBar (fun b => if nbits v.toNat 0 16 ≤ 1000 then { b with intCoal := v &&& 0xFFFF#32 } else b) = _)
  rw [State.modBar, if_pos hgap]
  rfl

section LockedRegisters

variable {s : State} {off : BitVec 16} {v : BitVec 32} {on : Bool}

theorem leaves_registerWrite {t : State} (h : s.writeRegister off.toNat v = t) : Leaves (.registerWrite off v) s t :=
  congrArg Host.Outcome.next h

/-- A register of a ring that does not run takes its value. -/
theorem leaves_lockedWrite {f : Bar0 → Bar0} (h : s.writeRegister off.toNat v = s.lockedWrite on f) (hstopped : on = false) :
    Leaves (.registerWrite off v) s (s.withBar (f s.host.bar0)) :=
  leaves_registerWrite (h.trans (State.lockedWrite_writes hstopped f))

/-- A size register of a ring that does not run takes a size within its range. -/
theorem leaves_sizeWrite {f : Bar0 → Bar0} {lo hi : Nat}
    (h : s.writeRegister off.toNat v = s.lockedWrite on (fun b => if ringSizeOk lo hi v.toNat then f b else b)) (hstopped : on = false)
    (hsize : lo ≤ v.toNat ∧ v.toNat ≤ hi ∧ ∃ n, n ≤ 12 ∧ v.toNat = 2 ^ n) :
    Leaves (.registerWrite off v) s (s.withBar (f s.host.bar0)) := by
  refine leaves_registerWrite (h.trans ((State.lockedWrite_writes hstopped _).trans ?_))
  rw [if_pos ((ringSizeOk_iff _ _ _).mpr hsize)]

theorem leaves_sizeIgnored {f : Bar0 → Bar0} {lo hi : Nat}
    (h : s.writeRegister off.toNat v = s.lockedWrite on (fun b => if ringSizeOk lo hi v.toNat then f b else b)) (hstopped : on = false)
    (hsize : ¬ (lo ≤ v.toNat ∧ v.toNat ≤ hi ∧ ∃ n, n ≤ 12 ∧ v.toNat = 2 ^ n)) :
    Leaves (.registerWrite off v) s (s.withBar s.host.bar0) := by
  refine leaves_registerWrite (h.trans ((State.lockedWrite_writes hstopped _).trans ?_))
  rw [if_neg (mt (ringSizeOk_iff _ _ _).mp hsize)]

theorem writeRegister_unlisted_of (h : off = 0x20 ∨ off = 0x40 ∨ off = 0x60 ∨ off = 0 ∨ off = 8 ∨ 0x84 ≤ off.toNat ∨ off.toNat % 4 ≠ 0) :
    s.writeRegister off.toNat v = s := by
  rcases h with rfl | rfl | rfl | rfl | rfl | h
  iterate 5 rfl
  exact State.writeRegister_unlisted h

end LockedRegisters

/-- The doorbells, the enables and the causes of the rings. -/
theorem ring_doorbells (s : State) (v : BitVec 32) :
    let b := s.host.bar0
    (¬ b.hostCtrl.getLsbD 0 = true → Leaves .ringEn s (s.withBar
      { b with hostCtrl := BitVec.ofNat 32 (1 + 2 * b2n (b.hostCtrl.getLsbD 1)), sqStopped := false
               sqTail := 0, sqHead := 0, cqHead := 0, cqTail := 0, sqQueue := [] }))
    ∧ (b.hostCtrl.getLsbD 0 = true → Leaves .ringEn s (s.withBar { b with hostCtrl := BitVec.ofNat 32 (1 + 2 * b2n (b.hostCtrl.getLsbD 1)) }))
    ∧ Leaves .eqEn s (s.withBar { b with hostCtrl := BitVec.ofNat 32 (b2n (b.hostCtrl.getLsbD 0) + 2) })
    ∧ Leaves (.eqHead v) s (s.withBar { b with eqHead := v })
    ∧ Leaves (.cqHead v) s ((s.withBar { b with cqHead := v }).drainRing b.sqQueue) := by
  intro b
  have hmod : ∀ {f : Bar0 → Bar0} {b' : Bar0}, f b = b' → Host.Outcome.next (s.modBar f) = (.next (s.withBar b') : Result) :=
    fun h => congrArg (fun x => Host.Outcome.next (s.withBar x)) h
  refine ⟨fun h => hmod ?_, fun h => hmod ?_, hmod ?_, rfl, rfl⟩
  · rw [Bar0.writeCtrl_starts (Bool.eq_false_iff.mpr h), Bar0.eqOn_eq]
  · rw [Bar0.writeCtrl_keeps (fun _ => h), Bar0.eqOn_eq]
    rfl
  · rw [Bar0.writeCtrl_keeps (fun h => b.ringOn_eq ▸ h), Bar0.ringOn_eq]
    rfl

theorem State.closeWhere_session (s : State) (f : HostSource → Bool) {i : Nat} (hi : i < 8) : (s.closeWhere f).session i
    = if (s.session i).phase ≠ .free ∧ f (s.session i).source = true then Session.reset else s.session i := by
  rw [State.closeWhere, s.closeUpTo_session f 8 i]
  simp only [hi, true_and]

/-- What PCIE_RESET leaves. -/
theorem exec_pcieReset_leaves (s : State) : ∃ t, exec .pcieReset s = .next t ∧ t.host.bar0 = Bar0.reset ∧ ∀ i, i < 8 →
    t.session i = if (s.session i).source = .pcie ∧ (s.session i).phase ≠ .free then Session.reset else s.session i := by
  refine ⟨_, exec_pcieReset s, rfl, fun i hi => ?_⟩
  have hclosed := s.closeWhere_session (fun src => decide (src = .pcie)) hi
  generalize s.closeWhere (fun src => decide (src = .pcie)) = u at hclosed ⊢
  rw [show (u.modBar (fun _ => Bar0.reset)).session i = u.session i from rfl, hclosed]
  simp only [decide_eq_true_eq, and_comm]

theorem State.msiLast_sput (s : State) (k : Nat) : sget (fun _ => none) (sput (fun _ => none) s.host.bar0.msiLast k (some s.coreTicks)) k
    = some s.coreTicks := by
  simp

/-- Settles O21: the registers, the rings and the causes, each by its lemmas above. -/
theorem registersAndRings : Obligations.RegistersAndRings := by
  unfold Obligations.RegistersAndRings
  refine ⟨fun s off v => ?_, fun s v entries e rest k => ?_, fun s i hi => s.setInt_spec hi⟩
  · intro b writes ignored sqcq eq size
    have hring : ∀ {x : Bool}, b.hostCtrl.getLsbD 0 = x → b.ringOn = x := b.ringOn_eq.trans
    have heq : ∀ {x : Bool}, b.hostCtrl.getLsbD 1 = x → b.eqOn = x := b.eqOn_eq.trans
    have hoff : ∀ {n : BitVec 16}, off = n → off.toNat = n.toNat := congrArg BitVec.toNat
    obtain ⟨henable, hmap, hcoal, hmask⟩ := exec_registerWrite_plain s v
    refine ⟨fun h hon => ?_, fun h hon => ?_, ?_⟩
    · obtain ⟨f, hf⟩ := State.writeRegister_sqcq (s := s) (v := v) (h.imp hoff (Or.imp hoff (Or.imp hoff (Or.imp hoff (Or.imp hoff hoff)))))
      exact leaves_registerWrite (hf.trans (State.lockedWrite_ignored (hring hon) f))
    · obtain ⟨f, hf⟩ := State.writeRegister_eq (s := s) (v := v) (h.imp hoff (Or.imp hoff hoff))
      exact leaves_registerWrite (hf.trans (State.lockedWrite_ignored (heq hon) f))
    · refine ⟨?_, ?_, ?_, ?_, ?_, ?_, ?_, ?_, ?_, ?_, ?_, ?_, ?_, ?_, fun h => leaves_registerWrite (writeRegister_unlisted_of h)⟩
      all_goals
        intro h
        subst h
      · exact fun hstopped => leaves_lockedWrite (f := fun b => { b with sqBaseLo := basePage v }) rfl (hring hstopped)
      · exact fun hstopped => leaves_lockedWrite (f := fun b => { b with sqBaseHi := v }) rfl (hring hstopped)
      · exact fun hstopped => leaves_sizeWrite (f := fun b => { b with sqSize := v }) rfl (hring hstopped)
      · exact fun hstopped => leaves_sizeIgnored (f := fun b => { b with sqSize := v }) rfl (hring hstopped)
      · exact fun hstopped => leaves_lockedWrite (f := fun b => { b with cqBaseLo := basePage v }) rfl (hring hstopped)
      · exact fun hstopped => leaves_lockedWrite (f := fun b => { b with cqBaseHi := v }) rfl (hring hstopped)
      · exact fun hstopped => leaves_sizeWrite (f := fun b => { b with cqSize := v }) rfl (hring hstopped)
      · exact fun hstopped => leaves_lockedWrite (f := fun b => { b with eqBaseLo := basePage v }) rfl (heq hstopped)
      · exact fun hstopped => leaves_lockedWrite (f := fun b => { b with eqBaseHi := v }) rfl (heq hstopped)
      · exact fun hstopped => leaves_sizeWrite (f := fun b => { b with eqSize := v }) rfl (heq hstopped)
      · exact henable
      · exact hmap
      · exact hcoal
      · exact hmask
  · intro b bar on next full
    obtain ⟨hstarts, hkeeps, heqEn, heqHead, hcqHead⟩ := ring_doorbells s v
    refine ⟨hstarts, hkeeps, heqEn, heqHead, hcqHead, fun h => ?_, fun hon h => ?_, fun hon hv htail hlen => ?_, rfl, fun hon hstop hfull => ?_,
      fun h => ?_, rfl, fun hheld hdue => ?_, ?_⟩
    · exact congrArg Host.Outcome.next (State.writeSqTail_off (Bool.eq_false_iff.mpr h) v entries)
    · exact congrArg Host.Outcome.next (State.writeSqTail_beyond hon h entries)
    · exact congrArg Host.Outcome.next (State.writeSqTail_reads hon hv htail hlen)
    · exact if_pos ((mayRead_iff b).mpr ⟨hon, hstop, hfull⟩)
    · refine if_neg (mt (mayRead_iff b).mp ?_)
      rintro ⟨hon, hstop, hroom⟩
      rcases h with h | h | h
      · exact h hon
      · exact Bool.false_ne_true (hstop.symm.trans h)
      · exact hroom h
    · exact ⟨_, exec_msiCoalesceEnd_sends hheld hdue, rfl, State.msiLast_sput s k.val, getLsbD_ofNat_nsetBit _ k.isLt false, rfl⟩
    · exact exec_pcieReset_leaves s

end Sys2Proof.Machine
end

section
/-! Packets of the plant network (O22). -/

namespace Sys2Proof.Machine

open Sys2Proof.Claims

theorem exec_udpDatagram (p : PlantIx) (path : UdpPath) (port : BitVec 16) (mf : Bool) (fo : BitVec 13) (bytes : List Byte) (s : State) :
    exec (.udpDatagram p path port mf fo bytes) s = execUdpDatagram p path port mf fo bytes s := rfl
theorem exec_arpRequest (p : PlantIx) (target : PlantTarget) (s : State) : exec (.arpRequest p target) s = execArpRequest p target s := rfl
theorem exec_icmpEcho (p : PlantIx) (target : PlantTarget) (data : List Byte) (s : State) :
    exec (.icmpEcho p target data) s = execIcmpEcho p target data s := rfl
theorem exec_commandPart (c : CmdCtx) (op : BitVec 16) (isPart final : Bool) (data : List Byte) (s : State) :
    exec (.commandPart c op isPart final data) s = execCommandPart c op isPart final data s := rfl
theorem exec_evtPush (c : CmdCtx) (s : State) : exec (.evtPush c) s = execEvtPush c s := rfl

/-! The addresses of a plant port (R427, R429). -/

theorem State.ownsIp_iff (s : State) (p : Nat) (vlan : BitVec 12) (ip : BitVec 32) : s.ownsIp p vlan ip = true ↔
    s.serves = true ∧ s.parN 0x02100001 p ≠ 0 ∧ vlan.toNat = s.parN 0x02100004 p
      ∧ (ip.toNat = s.parN 0x02100001 p ∨ (s.twin.onMove = true ∧ s.parN 0x02100007 p ≠ 0 ∧ ip.toNat = s.parN 0x02100007 p)) := by
  simp [State.ownsIp, and_assoc]

section Datagram

variable {s : State} {p : PlantIx} {dest : UdpDest} {ip : BitVec 32} {port : BitVec 16} {mf : Bool} {fo : BitVec 13} {bytes : List Byte}

/-- A count of a plant port goes up by one. -/
abbrev countPort (m : Sparse Nat) (p : Nat) : Sparse Nat := sput (fun _ => 0) m p (inc32 (sget (fun _ => 0) m p))

theorem exec_udpDatagram_foreign (h : ¬ s.ownsIp p.val dest.vlan dest.ip = true) : exec (.udpDatagram p ⟨dest, ip⟩ port mf fo bytes) s = .next s :=
  if_pos (by simpa using h)

theorem exec_udpDatagram_owned (h : s.ownsIp p.val dest.vlan dest.ip = true) : exec (.udpDatagram p ⟨dest, ip⟩ port mf fo bytes) s =
    if mf || decide (fo ≠ 0) then .next { s with host := { s.host with fragDrop := countPort s.host.fragDrop p.val } }
    else if dest.port.toNat ≠ s.parN 0x02100005 p.val then .next s
    else if 64 ≤ (s.plantQueue p.val).length then .next { s with host := { s.host with queueDrop := countPort s.host.queueDrop p.val } }
    else .next (s.takePacket (.udp p ip port) bytes) :=
  if_neg (by simpa using h)

theorem fragment_iff : (mf || decide (fo ≠ 0)) = true ↔ mf = true ∨ fo ≠ 0 := by simp

theorem exec_udpDatagram_whole (h : s.ownsIp p.val dest.vlan dest.ip = true) (hmf : mf = false) (hfo : fo = 0) :
    exec (.udpDatagram p ⟨dest, ip⟩ port mf fo bytes) s =
    if dest.port.toNat ≠ s.parN 0x02100005 p.val then .next s
    else if 64 ≤ (s.plantQueue p.val).length then .next { s with host := { s.host with queueDrop := countPort s.host.queueDrop p.val } }
    else .next (s.takePacket (.udp p ip port) bytes) :=
  (exec_udpDatagram_owned h).trans (if_neg (by simp [hmf, hfo]))

end Datagram

/-! The parts of a command (R419). -/

section Parts

variable {s : State} {c : CmdCtx} {op : BitVec 16} {fin : Bool} {data : List Byte}

/-- The session without an assembly. -/
def Session.noParts (x : Session) : Session := { x with partOp := none, partLen := 0, partData := [] }

/-- Whether a part continues the assembly, or begins one. -/
def Session.partFits (x : Session) (c : CmdCtx) (op : BitVec 16) : Bool :=
  match x.partOp with
  | none => true
  | some o => decide (o = op.toNat) && decide (c.seq = x.partSeq + 1)

/-- The flags of the reply to a part. -/
def partFlags (c : CmdCtx) (fin : Bool) : Nat := replyFlagsOf c + 4 + b2n fin * 8

/-- A part of an open session: it fits or breaks the assembly, is too long, ends the command, or is kept. -/
theorem exec_commandPart_opened (h : ((s.takeUp c).session c.slot.val).phase = .opened) : exec (.commandPart c op true fin data) s =
    let u := s.takeUp c
    let x := u.session c.slot.val
    let whole := x.partData ++ data
    if !x.partFits c op then .next ((u.modSession c.slot.val Session.noParts).replyRaw c op.toNat (partFlags c fin) stPart [])
    else if 65535 < whole.length then .next ((u.modSession c.slot.val Session.noParts).replyRaw c op.toNat (partFlags c fin) 0x0403 [])
    else if fin then .next (u.modSession c.slot.val Session.noParts)
    else .next ((u.modSession c.slot.val (fun x =>
      { x with partOp := some op.toNat, partSeq := c.seq, partLen := whole.length, partData := whole })).replyRaw c op.toNat (partFlags c fin)
        stAccepted []) := by
  rw [exec_commandPart]
  unfold execCommandPart
  extract_lets u x op' flags set broken whole fits
  have hfits : fits = x.partFits c op := by
    unfold fits Session.partFits
    cases x.partOp <;> rfl
  rw [if_neg (not_not.mpr h), if_neg (by simp), hfits]
  rfl

theorem Session.partFits_iff {x : Session} {o : Nat} (h : x.partOp = some o) :
    x.partFits c op = true ↔ o = op.toNat ∧ c.seq = x.partSeq + 1 := by
  simp [Session.partFits, h]

end Parts

/-! What becomes of a packet (R416, R417, R420, R421, R431). -/

section Packet

variable {s : State} {src : HostSource} {b : List Byte} {slot : SlotIx}

theorem not_ahead {n : Nat} (h : n = 0 ∨ 32768 < n) : ¬ (1 ≤ n ∧ n ≤ 32768) := by omega

theorem State.setSession_setSession (s : State) (i : Nat) (x y : Session) : (s.setSession i x).setSession i y = s.setSession i y := by
  unfold State.setSession
  dsimp only
  rw [sput_sput_self]

/-- Two changes of a session in a row are one. -/
theorem State.modSession_modSession (s : State) (i : Nat) (f g : Session → Session) :
    (s.modSession i f).modSession i g = s.modSession i (g ∘ f) := by
  simp only [State.modSession, State.setSession_self, State.setSession_setSession, Function.comp_apply]

theorem packetForm_iff : packetForm b = true ↔ field b 0 2 = 0x4A51 ∧ 32 ≤ b.length ∧ 32 + field b 6 2 ≤ b.length := by
  simp only [packetForm, Bool.and_eq_true, decide_eq_true_eq, and_assoc]
  rfl

theorem State.takePacket_formless (hserves : s.serves = true) (h : ¬ packetForm b = true) : s.takePacket src b = s.tagFail :=
  (if_neg (by simp [hserves])).trans (if_pos (by simpa using h))

/-- A packet with its form that is no SES_HELLO, by the session it names. -/
theorem State.takePacket_named (hserves : s.serves = true) (hform : packetForm b = true) (hop : pktOp b ≠ 0x0201)
    (hslot : pktSession b % 8 = slot.val) : s.takePacket src b =
      let op := pktOp b
      let id := pktSession b
      let x := s.session slot.val
      if x.phase = .free ∨ x.id.toNat ≠ id ∨ (x.phase = .challenged ∧ op ≠ 0x0202) then
        s.answerBare src op (pktSeq b) id (pktFlags b) (be 2 stNoSession)
      else if x.source ≠ src then s.tagFail
      else if op = 0x0202 then
        if pktLen b ≠ 32 then s.answerBare src op (pktSeq b) id (pktFlags b) (be 2 stBadLength) else s.enqueue src b
      else if !packetTagOk x.key b then s.tagFail
      else s.sequencePacket slot b := by
  obtain rfl : slot = ⟨pktSession b % 8, Nat.mod_lt _ (by decide)⟩ := Fin.ext hslot.symm
  exact (if_neg (by simp [hserves])).trans ((if_neg (by simp [hform])).trans (if_neg (fun h => hop h.1)))

theorem State.takePacket_noSession (hserves : s.serves = true) (hform : packetForm b = true) (hop : pktOp b ≠ 0x0201)
    (hslot : pktSession b % 8 = slot.val) (h : (s.session slot.val).phase = .free ∨ (s.session slot.val).id.toNat ≠ pktSession b) :
    s.takePacket src b = s.answerBare src (pktOp b) (pktSeq b) (pktSession b) (pktFlags b) (be 2 stNoSession) :=
  (State.takePacket_named hserves hform hop hslot).trans (if_pos (h.imp_right Or.inl))

/-- A packet of an open session, by its source and its TAG. -/
theorem State.takePacket_opened (hserves : s.serves = true) (hform : packetForm b = true) (hop : pktOp b ≠ 0x0201)
    (hslot : pktSession b % 8 = slot.val) (hopen : (s.session slot.val).phase = .opened) (hid : (s.session slot.val).id.toNat = pktSession b) :
    s.takePacket src b =
      if (s.session slot.val).source ≠ src then s.tagFail
      else if pktOp b = 0x0202 then
        if pktLen b ≠ 32 then s.answerBare src (pktOp b) (pktSeq b) (pktSession b) (pktFlags b) (be 2 stBadLength) else s.enqueue src b
      else if !packetTagOk (s.session slot.val).key b then s.tagFail
      else s.sequencePacket slot b := by
  refine (State.takePacket_named hserves hform hop hslot).trans (if_neg ?_)
  simp [hopen, hid]

end Packet

/-- Settles O22: the datagrams of a plant port, the parts of a command, and what becomes of a packet. -/
theorem plantPackets : Obligations.PlantPackets := by
  unfold Obligations.PlantPackets
  refine ⟨fun s p dest ip port mf fo bytes data c op fin => ?_, fun s slot b r => ?_, fun s src b slot hserves => ?_⟩
  · intro addr count udp dst vlan holds whole u x flags drop opened
    have hown : s.ownsIp p.val vlan dst = true ↔ holds := s.ownsIp_iff p.val vlan dst
    refine ⟨fun h => exec_udpDatagram_foreign (mt hown.mp h), fun h hfrag => (exec_udpDatagram_owned (hown.mpr h)).trans (if_pos (fragment_iff.mpr hfrag)),
      fun ⟨h, hmf, hfo⟩ hport => (exec_udpDatagram_whole (hown.mpr h) hmf hfo).trans (if_pos hport),
      fun ⟨h, hmf, hfo⟩ hport hfull => (exec_udpDatagram_whole (hown.mpr h) hmf hfo).trans ((if_neg (not_not.mpr hport)).trans (if_pos hfull)),
      fun ⟨h, hmf, hfo⟩ hport hroom => (exec_udpDatagram_whole (hown.mpr h) hmf hfo).trans
        ((if_neg (not_not.mpr hport)).trans (if_neg (Nat.not_le.mpr hroom))),
      fun h => whenB_of_true (hown.mpr h) s _, fun h => whenB_of_false (Bool.eq_false_iff.mpr (mt hown.mp h)) s _,
      fun h hon => whenB_of_true (by simp [hown.mpr h, hon]) s _, fun h => whenB_of_false ?_ s _, fun ho hpart hdata hfin hlen => ?_,
      fun ho hpart hseq hfin hlen => ?_, fun ho hpart hseq hlen => ?_, fun ho hbroken => ?_, fun ho => if_neg (not_not.mpr ho)⟩
    · rcases h with h | h
      · simp [Bool.eq_false_iff.mpr (mt hown.mp h)]
      · simp [h]
    · have hfits : x.partFits c op = true := by simp [Session.partFits, hpart]
      rw [Leaves, exec_commandPart_opened ho, if_neg (by simpa using hfits), if_neg (by simpa [x, u, hdata] using hlen), if_neg (by simp [hfin])]
      simp only [u, x] at hdata
      simp only [hdata, List.nil_append]
      rfl
    · have hfits : x.partFits c op = true := (Session.partFits_iff hpart).mpr ⟨rfl, hseq⟩
      rw [Leaves, exec_commandPart_opened ho, if_neg (by simpa using hfits), if_neg (Nat.not_lt.mpr hlen), if_pos hfin]
      rfl
    · have hfits : x.partFits c op = true := (Session.partFits_iff hpart).mpr ⟨rfl, hseq⟩
      rw [Leaves, exec_commandPart_opened ho, if_neg (by simpa using hfits), if_pos hlen]
      rfl
    · obtain ⟨o, ho'⟩ := Option.isSome_iff_exists.mp hbroken.1
      have hfits : ¬ x.partFits c op = true := by
        rw [Session.partFits_iff ho']
        rintro ⟨rfl, hseq⟩
        exact hbroken.2.elim (fun h => h ho') (fun h => h hseq)
      rw [Leaves, exec_commandPart_opened ho, if_pos (by simpa using hfits)]
      rfl
  · intro x q ahead t live
    refine ⟨fun hlo hhi => (if_pos ⟨hlo, hhi⟩).trans ?_, fun hout hfound => ?_, fun hout hnone => ?_⟩
    · exact congrArg (State.admitPacket · slot b) (s.modSession_modSession slot.val _ _)
    · refine (if_neg (not_ahead hout)).trans ?_
      rw [show x.replies.find? (fun (r : HeldReply) => decide (r.seq.toNat = pktSeq b)) = some r from hfound]
    · refine (if_neg (not_ahead hout)).trans ?_
      rw [show x.replies.find? (fun (r : HeldReply) => decide (r.seq.toNat = pktSeq b)) = none from hnone]
  · intro id x form counted op
    have hform : packetForm b = true ↔ form := packetForm_iff
    refine ⟨fun h => State.takePacket_formless hserves (mt hform.mp h), fun h hop hslot hopen hid hsrc => ?_,
      fun h hop hprove hslot hopen hid hsrc htag => ?_, fun h hop hprove hslot hopen hid hsrc htag => ?_,
      fun h hop hslot hno => State.takePacket_noSession hserves (hform.mpr h) hop hslot hno⟩
    · exact (State.takePacket_opened hserves (hform.mpr h) hop hslot hopen hid).trans (if_pos hsrc)
    · refine (State.takePacket_opened hserves (hform.mpr h) hop hslot hopen hid).trans ?_
      exact (if_neg (not_not.mpr hsrc)).trans ((if_neg hprove).trans (if_pos (by simp [x, htag])))
    · refine (State.takePacket_opened hserves (hform.mpr h) hop hslot hopen hid).trans ?_
      exact (if_neg (not_not.mpr hsrc)).trans ((if_neg hprove).trans (if_neg (by simp [x, htag])))

end Sys2Proof.Machine
end

section
/-! SES_KEY_SET, flash writes and the device commands (O20). -/

namespace Sys2Proof.Machine

open Sys2Proof.Claims

theorem exec_sesKeySet (c : CmdCtx) (role : BitVec 8) (wrapped : List Byte) (s : State) :
    exec (.sesKeySet c role wrapped) s = execSesKeySet c role wrapped s := rfl
theorem exec_flashWriteComplete (ok : Bool) (s : State) : exec (.flashWriteComplete ok) s = execFlashWriteComplete ok s := rfl
theorem exec_devInfo (c : CmdCtx) (s : State) : exec (.devInfo c) s = execDevInfo c s := rfl
theorem exec_sysEvtMask (c : CmdCtx) (classes : BitVec 16) (sev : BitVec 8) (s : State) :
    exec (.sysEvtMask c classes sev) s = execSysEvtMask c classes sev s := rfl
theorem exec_sysReset (c : CmdCtx) (kind : BitVec 8) (s : State) : exec (.sysReset c kind) s = execSysReset c kind s := rfl
theorem exec_sysEvtRead (c : CmdCtx) (start : BitVec 32) (n : BitVec 8) (s : State) :
    exec (.sysEvtRead c start n) s = execSysEvtRead c start n s := rfl

/-! SES_KEY_SET (R436, R437). -/

section KeySet

variable {s : State} {c d : CmdCtx} {role : BitVec 8} {wrapped key data : List Byte}

/-- The role that SES_KEY_SET needs. -/
def keySetNeed (s : State) (role : BitVec 8) : Nat := if role = 4 ∧ s.host.keys.default = false then 4 else 5

theorem keySetNeed_eq (s : State) (role : BitVec 8) :
    keySetNeed s role = (if role = 4 && !s.host.keys.default then roleSafety else roleAdmin) := by
  unfold keySetNeed
  simp only [Bool.and_eq_true, decide_eq_true_eq, Bool.not_eq_true']
  rfl

/-- What SES_KEY_SET answers on the on-move chip: the key unwraps under the session key, its role is one of the five, and no flash write is
under way. -/
def State.keySetAnswer (t : State) (c : CmdCtx) (role : BitVec 8) (key : Option (List Byte)) : Ans :=
  if !decide (1 ≤ role.toNat ∧ role.toNat ≤ 5) then .refuse stBadValue []
  else match key with
    | none => .refuse stBadValue []
    | some k =>
      if t.host.keys.pendingSet.isSome || t.boot.flashWrite.isSome then .refuse stBusy []
      else .quiet { t with host := { t.host with keys := { t.host.keys with pendingSet := some (c, role.toNat, k) } } }

theorem exec_sesKeySet_takes (h : Acts s c 0x0204 (keySetNeed s role)) (hlen : wrapped.length = 40) :
    exec (.sesKeySet c role wrapped) s =
      .next (((s.takeUp c).keySetAnswer c role (keyUnwrap (s.session c.slot.val).key wrapped)).result (s.takeUp c) c 0x0204) := by
  have hmove : s.twin.standby = false := by
    obtain ⟨-, -, -, -, hstandby, -⟩ := h
    exact Bool.eq_false_iff.mpr fun hs => Bool.false_ne_true (hstandby hs).symm
  rw [keySetNeed_eq] at h
  refine exec_host_takes (k := { op := 0x0204, need := _, params := _ }) (exec_sesKeySet c role wrapped s) h (decide_eq_true hlen) ?_
  rw [if_neg (Bool.eq_false_iff.mp hmove)]
  rfl

/-- The end of the writing of a key slot. -/
theorem exec_flashWriteComplete_key (ok : Bool) {r : Nat} (h : s.host.keys.pendingSet = some (d, r, key)) : exec (.flashWriteComplete ok) s =
    if ok then .next ((s.storeKey r key).replyLater d 0x0204 stDone [])
    else .next (({ s with host := { s.host with keys := { s.host.keys with pendingSet := none } } }).replyLater d 0x0204 stFlash []) := by
  rw [exec_flashWriteComplete, execFlashWriteComplete, h]

/-- The end of the writing of a part of an image. -/
theorem exec_flashWriteComplete_image (ok : Bool) {bank off : Nat} (hkey : s.host.keys.pendingSet = none)
    (h : s.boot.flashWrite = some (d, bank, off, data)) : exec (.flashWriteComplete ok) s =
    let s1 := { s with boot := { s.boot with flashWrite := none } }
    if ok then
      let s2 := if bank = 0 then { s1 with boot := { s1.boot with bankA := { s1.boot.bankA.write off data with written := true } } }
        else { s1 with boot := { s1.boot with bankB := { s1.boot.bankB.write off data with written := true } } }
      .next ((s2.put (.flash bank off data)).replyLater d 0x0E01 stDone [])
    else .next (s1.replyLater d 0x0E01 stFlash []) := by
  rw [exec_flashWriteComplete, execFlashWriteComplete, hkey]
  simp only [h]

end KeySet

/-! The device commands (R447, R457, Table CMD-3). -/

section Device

variable {s : State} {c : CmdCtx} {classes : BitVec 16} {sev kind n : BitVec 8} {start : BitVec 32}

theorem State.allDisabled_iff (s : State) : s.allDisabled = true ↔ ∀ a, a < 256 → s.axState a = .disabled := by
  simp [State.allDisabled]

theorem State.perPacket_ite (t : State) (c : CmdCtx) (ring udp : Nat) :
    t.perPacket c ring udp = if (t.session c.slot.val).source = .pcie then ring else udp := by
  unfold State.perPacket
  cases (t.session c.slot.val).source <;> simp

theorem exec_sysEvtMask_takes (h : Local s c 0x0102 1) : exec (.sysEvtMask c classes sev) s = .next (Ans.result (s.takeUp c) c 0x0102
    (if 2 < sev.toNat then .refuse stBadValue []
     else .ok ((s.takeUp c).modSession c.slot.val (fun x => { x with evtClasses := classes, evtSev := sev.toNat })) stDone [])) :=
  exec_hostAt_takes (k := { op := 0x0102, need := roleView, logged := false }) (exec_sysEvtMask c classes sev s) h rfl rfl

theorem exec_sysReset_takes (h : Local s c 0x0103 5) : exec (.sysReset c kind) s = .next (Ans.result (s.takeUp c) c 0x0103
    (if kind ≠ 1 then .refuse stBadValue []
     else if !(s.takeUp c).allDisabled then .refuse stNotStopped []
     else .ok { s.takeUp c with boot := { (s.takeUp c).boot with resetDue := some { tick := (s.takeUp c).coreTicks + 10000000 } } } stDone [])) :=
  exec_hostAt_takes (k := { op := 0x0103, need := roleAdmin, logged := false }) (exec_sysReset c kind s) h rfl rfl

/-- The records of the history that SYS_EVT_READ asks for. -/
def State.recordsFrom (t : State) (start : BitVec 32) (n : Nat) : List Event :=
  (List.range n).filterMap (fun i => t.host.history.find? (fun (e : Event) => decide (e.seq = start + BitVec.ofNat 32 i)))

theorem exec_sysEvtRead_takes (h : Reads s c 0x0104 1) : exec (.sysEvtRead c start n) s = .next (Ans.result (s.takeUp c) c 0x0104
    (if !decide (1 ≤ n.toNat) || !decide (n.toNat ≤ (s.takeUp c).perPacket c 3 22) then .refuse stBadValue []
     else if (s.takeUp c).recordsFrom start n.toNat = [] then .refuse stBadValue []
     else .ok (s.takeUp c) stDone (((s.takeUp c).recordsFrom start n.toNat).flatMap Event.bytes))) :=
  exec_hostAt_takes (k := { op := 0x0104, need := roleView, move := false, logged := false }) (exec_sysEvtRead c start n s) h rfl rfl

end Device

/-- Settles O20: SES_KEY_SET and the end of its write, the end of an image write, and the device commands. -/
theorem keysAndDeviceCommands : Obligations.KeysAndDeviceCommands := by
  unfold Obligations.KeysAndDeviceCommands
  refine ⟨fun s c d role wrapped key r bank off data => ?_, fun s c classes sev kind n start => ?_⟩
  · intro t need key? inRole set
    have htakes : Acts s c 0x0204 need → wrapped.length = 40 →
        exec (.sesKeySet c role wrapped) s = .next ((t.keySetAnswer c role key?).result t c 0x0204) := exec_sesKeySet_takes
    have hset : ∀ {a : Ans}, t.keySetAnswer c role key? = a → Acts s c 0x0204 need → wrapped.length = 40 →
        exec (.sesKeySet c role wrapped) s = .next (a.result t c 0x0204) := fun ha h hlen => ha ▸ htakes h hlen
    have hin : inRole → ¬ (!decide inRole) = true := fun h => by simp [h]
    refine ⟨fun h hlen hrole => hset (if_pos (by simpa only [Bool.not_eq_true', decide_eq_false_iff_not] using hrole)) h hlen,
      fun h hlen hkey => hset (a := .refuse stBadValue []) ?_ h hlen,
      fun h hlen hrole hkey hbusy => hset (a := .refuse stBusy []) ?_ h hlen, fun h hlen hrole hkey hset' hflash =>
        hset (a := .quiet { t with host := { t.host with keys := { t.host.keys with pendingSet := some (c, role.toNat, key) } } }) ?_ h hlen,
      fun h => exec_flashWriteComplete_key true h, fun h => exec_flashWriteComplete_key false h,
      fun hk h => exec_flashWriteComplete_image false hk h, fun hk h => exec_flashWriteComplete_image true hk h,
      fun hk h => exec_flashWriteComplete_image true hk h⟩
    · rw [hkey, State.keySetAnswer]
      split <;> rfl
    · rw [hkey, State.keySetAnswer, if_neg (hin hrole)]
      exact if_pos (by simpa using hbusy)
    · rw [hkey, State.keySetAnswer, if_neg (hin hrole)]
      exact if_neg (by simp [hset', hflash])
  · intro t recs mask reset most
    have hmost : t.perPacket c 3 22 = most := t.perPacket_ite c 3 22
    have hticks : t.coreTicks = s.coreTicks := (s.takeUp_facts c).2.2.2.2.2
    refine ⟨fun h => exec_hostAt_takes (exec_devInfo c s) h rfl rfl, fun h hsev => ?_, fun h hsev => ?_, fun h hkind => ?_, fun h hkind hon => ?_,
      fun h hkind hoff => ?_, fun h hlo hhi hrecs => ?_, fun h hbad => ?_⟩
    · refine (exec_sysEvtMask_takes h).trans ?_
      rw [if_neg (Nat.not_lt.mpr hsev)]
      rfl
    · refine (exec_sysEvtMask_takes h).trans ?_
      rw [if_pos hsev]
      rfl
    · refine (exec_sysReset_takes h).trans ?_
      rw [if_pos hkind]
      rfl
    · obtain ⟨a, ha, hstate⟩ := hon
      have hnot : ¬ t.allDisabled = true := fun hall => hstate (t.allDisabled_iff.mp hall a ha)
      refine (exec_sysReset_takes h).trans ?_
      rw [if_neg (not_not.mpr hkind), if_pos (by simpa using hnot)]
      rfl
    · have hall : t.allDisabled = true := t.allDisabled_iff.mpr fun a _ => hoff a
      refine (exec_sysReset_takes h).trans ?_
      rw [if_neg (not_not.mpr hkind), if_neg (by simpa using hall), ← hticks]
      rfl
    · refine (exec_sysEvtRead_takes h).trans ?_
      rw [if_neg (by rw [hmost]; simp [hlo, hhi]), if_neg (c := State.recordsFrom _ start n.toNat = []) hrecs]
      rfl
    · refine (exec_sysEvtRead_takes h).trans ?_
      rw [hmost]
      rcases hbad with hzero | hbeyond | hnone
      · rw [if_pos (by simp [hzero])]
        rfl
      · rw [if_pos (by simp [hbeyond])]
        rfl
      · rw [if_pos (c := State.recordsFrom _ start n.toNat = []) hnone]
        split <;> rfl

end Sys2Proof.Machine
end

section
/-! The order of a command's checks (O15). -/

namespace Sys2Proof.Machine

open Sys2Proof.Claims

/-! The checks of a command in their order (R450). -/

section Checks

variable {s : State} {c : CmdCtx} {k : Cmd} {lenOk : Bool} {body : State → Ans}

theorem State.command_logged (h : let t := s.takeUp c
      t.twin.standby = true ∧ k.move = true ∧ t.isLogged c k.op = true) : s.command c k lenOk body =
    match body ((s.takeUp c).unlog c k.op) with
    | .refuse _ _ => (s.takeUp c).unlog c k.op
    | .ok s' _ _ => s'
    | .quiet s' => s' := by
  obtain ⟨hstandby, hmove, hlog⟩ := h
  exact if_pos (by rw [hstandby, hmove, hlog]; rfl)

/-- A command that is no entry of the log goes through the checks. -/
theorem State.command_checked (h : let t := s.takeUp c
      ¬ (t.twin.standby = true ∧ k.move = true ∧ t.isLogged c k.op = true)) : s.command c k lenOk body =
    let t := s.takeUp c
    let x := t.session c.slot.val
    if x.phase ≠ .opened then t.sendTo x.source (packet k.op c.seq x.id (replyFlagsOf c) [] (be 2 stNoSession))
    else if lenOk = false then t.reply c k.op stBadLength []
    else if ¬ (roleAllows x.role k.need = true ∧ (t.host.keys.default = true → defaultKeyOk k.op = true)) then t.reply c k.op stRole []
    else if ¬ (k.expert = true → c.expert = true) then t.reply c k.op stExpert []
    else if ¬ (t.twin.standby = true → k.move = false) then t.reply c k.op stNotOnMove []
    else if ¬ (t.boot.recovery = true → recoveryOk k.op = true) then t.reply c k.op stState []
    else match body t with
      | .refuse st d => t.reply c k.op st d
      | .ok s' st d => t.landLogged s' c k (fun u => u.reply c k.op st d)
      | .quiet s' => t.landLogged s' c k (fun u => u) := by
  have hand : ∀ {p q : Bool}, (p && !q) = true ↔ ¬ (p = true → q = true) := by decide
  have hrole : ∀ {a p q : Bool}, (!a || (p && !q)) = true ↔ ¬ (a = true ∧ (p = true → q = true)) := by decide
  have hmove : ∀ {p q : Bool}, (p && q) = true ↔ ¬ (p = true → q = false) := by decide
  have hlen : ∀ {p : Bool}, (!p) = true ↔ p = false := by decide
  refine (if_neg (by simpa [and_assoc] using h)).trans ?_
  simp only [hlen, hrole, hand, hmove] <;> rfl

/-- The landing of a command whose log is not asked for. -/
theorem State.landLogged_direct {s' : State} {fin : State → State} (h : k.logged = false ∨ s.standbySynced = false) :
    s.landLogged s' c k fin = fin s' :=
  if_neg (by rcases h with h | h <;> simp [h])

end Checks

/-! AT_BOUNDARY (R418, R443). -/

section Boundary

variable {s u : State} {c : CmdCtx} {i : Instr}

theorem State.waitsBoundary_iff (s : State) (c : CmdCtx) : s.waitsBoundary c = true
    ↔ c.atBoundary = true ∧ s.cyc.running = true ∧ s.host.atBoundary = false ∧ (s.session c.slot.val).phase = .opened := by
  simp [State.waitsBoundary, and_assoc]

theorem exec_atBoundary_waits (hi : AtBoundary c i) (hwait : s.waitsBoundary c = true) : exec i s = .next (s.holdCommand c i) := by
  cases i with
  | devInfo | sysEvtMask | sysReset | sysEvtRead | sesClose | parGet | parInfo | axCoefRead | proSegRead | movRead | netMdio | netMeasure
  | twnInfo | scsRead | timGet | timSrcRead | arbQueueRead | imgWrite | imgActivate | imgInfo =>
    obtain rfl := hi
    exact State.hostAt_waits _ _ _ _ _ _ hwait
  | _ => exact hi.elim

/-- A held command executes as any command does. -/
theorem State.runHeld_eq (hi : AtBoundary c i) (hu : exec i s = .next u) : s.runHeld i = u := by
  have hrun : s.runHeld i = match exec i s with
      | .next t => t
      | _ => s := by
    cases i with
    | devInfo | sysEvtMask | sysReset | sysEvtRead | sesClose | parGet | parInfo | axCoefRead | proSegRead | movRead | netMdio | netMeasure
    | twnInfo | scsRead | timGet | timSrcRead | arbQueueRead | imgWrite | imgActivate | imgInfo => rfl
    | _ => exact hi.elim
  rw [hrun, hu]

/-- The state in which what has waited for the boundary executes. -/
abbrev State.boundaryTaken (s : State) : State := { s with host := { s.host with boundary := [], atBoundary := true } }

theorem State.takeBoundary_one (h : s.host.boundary = [(c, i)]) : s.takeBoundary =
    let v := if (s.session c.slot.val).phase = .opened then s.boundaryTaken.runHeld i else s.boundaryTaken
    { v with host := { v.host with atBoundary := false } } := by
  unfold State.takeBoundary
  rw [h]
  rfl

end Boundary

/-! LOG and LOG_ACK (R357). -/

section Log

variable {s s' : State} {c : CmdCtx} {k : Cmd} {fin : State → State} {l : LogEntry}

theorem State.landLogged_waits (hlog : k.logged = true) (hsync : s.standbySynced = true) (he : s.logEntry c k.op = some l)
    (hack : l.acked = false) : s.landLogged s' c k fin = s := by
  unfold State.landLogged
  rw [if_pos (by simp [hlog, hsync]), he]
  exact if_neg (by simp [hack])

theorem State.landLogged_lands (hlog : k.logged = true) (hsync : s.standbySynced = true) (he : s.logEntry c k.op = some l)
    (hack : l.acked = true) : s.landLogged s' c k fin =
      { fin s' with twin := { (fin s').twin with
        logs := (fin s').twin.logs.filter (fun m => decide (m.pos ≠ l.pos))
        logLate := if l.cycle < s.cyc.cycle then inc32 (fin s').twin.logLate else (fin s').twin.logLate } } := by
  unfold State.landLogged
  rw [if_pos (by simp [hlog, hsync]), he]
  exact if_pos hack

/-- The LOG of a command. -/
def State.logRecord (s : State) (c : CmdCtx) (k : Cmd) : LogRec :=
  { pos := s.twin.logPos + 1, cycle := s.cyc.cycle + 1, slot := c.slot, seq := c.seq, opcode := BitVec.ofNat 16 k.op, params := k.params, trim := none }

theorem State.landLogged_sends (hlog : k.logged = true) (hsync : s.standbySynced = true) (he : s.logEntry c k.op = none) :
    s.landLogged s' c k fin = { s.put (.twin (.log (s.logRecord c k))) with twin := { s.twin with
      logPos := s.twin.logPos + 1, logs := s.twin.logs ++ [⟨s.twin.logPos + 1, c.slot, c.seq, k.op, s.cyc.cycle + 1, false⟩] } } := by
  unfold State.landLogged
  rw [if_pos (by simp [hlog, hsync]), he]
  rfl

end Log

/-- Settles O15: the checks in their order, AT_BOUNDARY, and the landing after LOG_ACK. -/
theorem commandChecks : Obligations.CommandChecks := by
  unfold Obligations.CommandChecks
  refine ⟨fun s0 c k lenOk body => ?_, fun s u c i => ?_, fun s s' c k fin l hlog hsync => ?_⟩
  · intro s x logged t allowed expert mine here
    refine ⟨fun h => (State.command_logged h).trans ?_, fun hl hopen => ?_, fun hl hopen hlen => ?_, fun hl hopen hlen hrole => ?_,
      fun hl hopen hlen hrole hexp => ?_, fun hl hopen hlen hrole hexp hmine => ?_, fun hl hopen hlen hrole hexp hmine hhere => ?_,
      fun hl hopen hlen hrole hexp hmine hhere => ?_⟩
    · rfl
    · exact (State.command_checked hl).trans (if_pos hopen)
    · exact (State.command_checked hl).trans ((if_neg (not_not.mpr hopen)).trans (if_pos hlen))
    · rw [show t = _ from State.command_checked hl]
      exact (if_neg (not_not.mpr hopen)).trans ((if_neg (by simp [hlen])).trans (if_pos hrole))
    · rw [show t = _ from State.command_checked hl]
      exact (if_neg (not_not.mpr hopen)).trans ((if_neg (by simp [hlen])).trans ((if_neg (not_not.mpr hrole)).trans (if_pos hexp)))
    · rw [show t = _ from State.command_checked hl]
      exact (if_neg (not_not.mpr hopen)).trans ((if_neg (by simp [hlen])).trans ((if_neg (not_not.mpr hrole)).trans
        ((if_neg (not_not.mpr hexp)).trans (if_pos hmine))))
    · rw [show t = _ from State.command_checked hl]
      exact (if_neg (not_not.mpr hopen)).trans ((if_neg (by simp [hlen])).trans ((if_neg (not_not.mpr hrole)).trans
        ((if_neg (not_not.mpr hexp)).trans ((if_neg (not_not.mpr hmine)).trans (if_pos hhere)))))
    · have ht : t = match body s with
          | .refuse st d => s.reply c k.op st d
          | .ok s' st d => s.landLogged s' c k (fun u => u.reply c k.op st d)
          | .quiet s' => s.landLogged s' c k (fun u => u) := by
        rw [show t = _ from State.command_checked hl]
        exact (if_neg (not_not.mpr hopen)).trans ((if_neg (by simp [hlen])).trans ((if_neg (not_not.mpr hrole)).trans
          ((if_neg (not_not.mpr hexp)).trans ((if_neg (not_not.mpr hmine)).trans (if_neg (not_not.mpr hhere))))))
      refine ⟨fun st d hb => ?_, fun hdirect => ⟨fun s' st d hb => ?_, fun s' hb => ?_⟩⟩
      · rw [ht, hb]
      · rw [ht, hb]
        exact State.landLogged_direct hdirect
      · rw [ht, hb]
        exact State.landLogged_direct hdirect
  · intro t opened boundary
    have hheld : t = { s.takeUp c with host := { (s.takeUp c).host with boundary := (s.takeUp c).host.boundary ++ [(c, i)] } } := rfl
    have hrest := s.takeUp_rest c
    refine ⟨s.waitsBoundary_iff c, fun hi hwait => exec_atBoundary_waits hi hwait, ?_, ?_, ?_, fun h hi hopen hu => ?_, fun h hclosed => ?_⟩
    · rw [hheld, hrest]
    · rw [hheld, hrest]
    · rw [hheld, hrest]
    · rw [State.takeBoundary_one h, if_pos hopen, State.runHeld_eq hi hu]
    · rw [State.takeBoundary_one h, if_neg hclosed]
  · refine ⟨fun he => ?_, fun he hack => State.landLogged_waits hlog hsync he hack, fun he hack => State.landLogged_lands hlog hsync he hack⟩
    intro t
    rw [show t = _ from State.landLogged_sends hlog hsync he]
    exact ⟨rfl, rfl, s.logRecord c k, rfl, rfl, BitVec.toNat_ofNat _ _, rfl, rfl, rfl⟩

end Sys2Proof.Machine
end

section
/-! MOV_RESUME (O31). -/

namespace Sys2Proof.Machine

open Sys2Proof.Claims

/-! Entries of the move list that are armed again (R452). -/

/-- The entry that stands in the place of y after the entries of l have been armed, one after another. -/
def armedIn (l : List MoveItem) (y : MoveItem) : MoveItem := l.foldl (fun z x => if z.seqN = x.seqN then x.arm else z) y

theorem State.foldl_setMove_items (l : List MoveItem) (s : State) :
    (l.foldl (fun (u : State) x => u.setMove x.arm) s).moves.items = s.moves.items.map (armedIn l) := by
  induction l generalizing s with
  | nil => exact (List.map_id s.moves.items).symm
  | cons x l ih =>
    rw [List.foldl_cons, ih]
    exact List.map_map

/-- An entry whose SEQ no other entry of l has is armed when it is one of l, and else stays. -/
theorem armedIn_eq {x : MoveItem} {l : List MoveItem} (hl : ∀ w ∈ l, w.seqN = x.seqN → w = x) {z : MoveItem} (hz : z.seqN = x.seqN) :
    armedIn l z = if x ∈ l then x.arm else z := by
  induction l generalizing z with
  | nil => rfl
  | cons w l ih =>
    have hrest : ∀ w ∈ l, w.seqN = x.seqN → w = x := fun v hv => hl v (List.mem_cons_of_mem w hv)
    show armedIn l (if z.seqN = w.seqN then w.arm else z) = _
    by_cases hw : w = x
    · subst hw
      rw [if_pos hz, ih hrest (z := w.arm) rfl, ite_self, if_pos List.mem_cons_self]
    · have hseq : z.seqN ≠ w.seqN := fun h => hw (hl w List.mem_cons_self (h.symm.trans hz))
      rw [if_neg hseq, ih hrest hz]
      exact if_congr (by simp [Ne.symm hw]) rfl rfl

theorem mem_resumedMoves (t : State) (x : MoveItem) : x ∈ t.resumedMoves ↔ x ∈ t.moves.items ∧ x.state = .held
    ∧ (x.e.grp = 0xFF ∨ t.groupState x.e.grp.toNat = 0) ∧ (x.act = actStart → t.groupState (t.parN 0x08200001 x.e.axis.toNat) = 0) := by
  have himp : ∀ {p q : Prop}, (¬ p ∨ q) ↔ (p → q) := imp_iff_not_or.symm
  simp only [State.resumedMoves, List.mem_filter, Bool.and_eq_true, Bool.or_eq_true, decide_eq_true_eq, ne_eq, himp, and_assoc]

/-- Settles O31: of the entries, whose SEQs differ, those that `State.resumedMoves` lists are armed, and no other one changes. -/
theorem resumeArmsHeld : Obligations.ResumeArmsHeld := by
  unfold Obligations.ResumeArmsHeld
  intro s c x hacts hseqs hx
  have hrest := s.takeUp_rest c
  have hitems : (s.takeUp c).moves.items = s.moves.items := by rw [hrest]
  have hmem : x ∈ (s.takeUp c).resumedMoves ↔ x.state = .held ∧ (x.e.grp = 0xFF ∨ s.groupState x.e.grp.toNat = 0)
      ∧ (x.act = actStart → s.groupState (s.parN 0x08200001 x.e.axis.toNat) = 0) := by
    rw [mem_resumedMoves, hrest]
    exact and_iff_right hx
  have hlist : ∀ w ∈ (s.takeUp c).resumedMoves, w.seqN = x.seqN → w = x := fun w hw hseq =>
    List.inj_on_of_nodup_map hseqs (hitems ▸ ((mem_resumedMoves _ w).mp hw).1) hx hseq
  have harmed := armedIn_eq hlist (z := x) rfl
  refine ⟨_, exec_movResume_done hacts, ?_⟩
  have hafter : (((s.takeUp c).resumedMoves.foldl (fun (u : State) x => u.setMove x.arm) (s.takeUp c)).reply c 0x0604 0
      (be 2 (s.takeUp c).resumedMoves.length)).moves.items = s.moves.items.map (armedIn (s.takeUp c).resumedMoves) := by
    rw [← hitems, ← State.foldl_setMove_items]
    simp
  rw [hafter]
  refine ⟨List.length_map _, ?_⟩
  split
  · rename_i h
    rw [if_pos (hmem.mpr h)] at harmed
    exact ⟨List.mem_map.mpr ⟨x, hx, harmed⟩, rfl⟩
  · rename_i h
    rw [if_neg (mt hmem.mp h)] at harmed
    exact List.mem_map.mpr ⟨x, hx, harmed⟩

end Sys2Proof.Machine
end

section
/-! The Scoresheet and its commands (O45). -/

namespace Sys2Proof.Machine

open Sys2Proof.Claims

theorem exec_scsTick (s : State) : exec .scsTick s = execScsTick s := rfl
theorem exec_captureDone (s : State) : exec .captureDone s = execCaptureDone s := rfl
theorem exec_trgPinEdge (pin : Fin 4) (level : Bool) (stamp : PinTime) (s : State) :
    exec (.trgPinEdge pin level stamp) s = execTrgPinEdge pin level stamp s := rfl
theorem exec_trgOutputEnd (pin : Fin 4) (s : State) : exec (.trgOutputEnd pin) s = execTrgOutputEnd pin s := rfl
theorem exec_scsArm (c : CmdCtx) (s : State) : exec (.scsArm c) s = execScsArm c s := rfl
theorem exec_scsForce (c : CmdCtx) (s : State) : exec (.scsForce c) s = execScsForce c s := rfl
theorem exec_scsStop (c : CmdCtx) (s : State) : exec (.scsStop c) s = execScsStop c s := rfl
theorem exec_scsRead (c : CmdCtx) (first : BitVec 32) (count : BitVec 16) (s : State) :
    exec (.scsRead c first count) s = execScsRead c first count s := rfl

/-! The tick that a pass over the Scoresheet has reached stays (R380). -/

/-- The Scoresheet has reached the same tick in both states. -/
structure State.SameTick (s u : State) : Prop where
  tick_eq : u.scs.tick = s.scs.tick

section Tick

variable {s u w : State}

theorem State.SameTick.refl : State.SameTick s s := ⟨rfl⟩

theorem State.SameTick.trans (h : State.SameTick s u) (h' : State.SameTick u w) : State.SameTick s w := ⟨h'.tick_eq.trans h.tick_eq⟩

theorem State.SameTick.of_scs_eq (h : u.scs = s.scs) : State.SameTick s u := ⟨congrArg Scs.tick h⟩

theorem State.SameTick.foldl {β : Type} {f : State → β → State} (h : ∀ u x, State.SameTick u (f u x)) (l : List β) (s : State) :
    State.SameTick s (l.foldl f s) :=
  List.foldlRecOn (motive := fun u => State.SameTick s u) l f .refl (fun u hu x _ => hu.trans (h u x))

theorem State.setSchan_sameTick (s : State) (c : Nat) (x : ScsChan) : State.SameTick s (s.setSchan c x) := ⟨rfl⟩
theorem State.setTunit_sameTick (s : State) (i : Nat) (x : TrigUnit) : State.SameTick s (s.setTunit i x) := ⟨rfl⟩
theorem State.queueWrite_sameTick (s : State) (rank index : Nat) (e : BitVec 64) : State.SameTick s (s.queueWrite rank index e) := ⟨rfl⟩
theorem State.writePort_sameTick (s : State) : State.SameTick s s.writePort := ⟨rfl⟩
theorem State.modScs_sameTick (s : State) {f : Scs → Scs} (h : ∀ x, (f x).tick = x.tick := by intro x; rfl) : State.SameTick s (s.modScs f) := ⟨h s.scs⟩

theorem State.keepUnit_sameTick (s : State) (c : Nat) (es : List (BitVec 64)) : State.SameTick s (s.keepUnit c es) :=
  (State.SameTick.foldl (fun u (p : BitVec 64 × Nat) => u.queueWrite_sameTick _ _ _) es.zipIdx s).trans (State.setSchan_sameTick _ c _)

theorem State.takeSample_sameTick (s : State) (c : Nat) (v : Int) (fresh : Bool) : State.SameTick s (s.takeSample c v fresh) := by
  unfold State.takeSample
  extract_lets _ x n y s1
  have h1 : State.SameTick s s1 := s.setSchan_sameTick c _
  clear_value s1
  split
  · exact s.setSchan_sameTick c x
  · split
    · exact (s.setSchan_sameTick c x).trans (State.keepUnit_sameTick _ c _)
    · split
      · exact s.setSchan_sameTick c y
      · split
        · exact (h1.trans (State.modScs_sameTick s1)).trans (State.keepUnit_sameTick _ c _)
        · exact h1.trans (State.keepUnit_sameTick _ c _)

/-- A pass of samples over channels. -/
theorem State.foldl_sample_sameTick {β : Type} (skip : State → β → Prop) [∀ u x, Decidable (skip u x)] (chan : β → Nat) (v : State → β → Int)
    (fresh : β → Bool) (l : List β) (s : State) :
    State.SameTick s (l.foldl (fun u x => if skip u x then u else u.takeSample (chan x) (v u x) (fresh x)) s) := by
  refine State.SameTick.foldl (fun u x => ?_) l s
  split
  · exact .refl
  · exact u.takeSample_sameTick _ _ _

theorem State.sampleTick_sameTick (s : State) (t : Int) : State.SameTick s (s.sampleTick t) := by
  unfold State.sampleTick
  extract_lets armed s0 s1
  have h0 : State.SameTick s s0 := by
    refine State.SameTick.foldl (fun u c => ?_) _ s
    split
    · exact u.setSchan_sameTick c _
    · exact .refl
  have h1 : State.SameTick s s1 := by
    unfold s1
    split
    · exact h0.trans (State.foldl_sample_sameTick (fun u f => u.parN 0x0A200001 f = 0xFF) (fun f => 64 + f) (fun u f => u.fastValue f) (fun _ => false) _ s0)
    · exact h0
  clear_value s0 s1
  split
  · exact h1
  · rename_i stamp k vals _
    split
    · extract_lets s2
      refine State.SameTick.trans ?_ (State.modScs_sameTick s2)
      unfold s2
      split
      · exact h1.trans (State.foldl_sample_sameTick (fun u c => u.parN 0x0A100001 c = 0) (fun c => c) (fun _ c => (vals.getD c (0, false)).1)
          (fun c => (vals.getD c (0, false)).2) _ s1)
      · exact h1
    · exact h1

theorem State.judgeUnit_sameTick (s : State) (t : Int) (i : Nat) : State.SameTick s (s.judgeUnit t i).1 := by
  unfold State.judgeUnit
  extract_lets src cond x c r y due
  split
  · split
    · exact s.setTunit_sameTick i _
    · exact .refl
  · exact s.setTunit_sameTick i _

theorem State.judgeUnits_sameTick (s : State) (t : Int) : State.SameTick s (s.judgeUnits t).1 :=
  List.foldlRecOn (motive := fun q : State × List Nat => State.SameTick s q.1) (List.range 8) _ .refl
    (fun q hq i _ => hq.trans (q.1.judgeUnit_sameTick t i))

theorem State.fireRecord_sameTick (s : State) (i kind : Nat) (t : Int) (mask : Nat) (forced : Bool) :
    State.SameTick s (s.fireRecord i kind t mask forced) :=
  State.SameTick.foldl (fun u (p : BitVec 64 × Nat) => u.queueWrite_sameTick _ _ _) _ s

theorem State.markPins_sameTick (s : State) (event : Nat) : State.SameTick s (s.markPins event) := by
  refine State.SameTick.foldl (fun u p => ?_) _ s
  split
  · exact State.modScs_sameTick u
  · exact .refl

theorem State.capChannel_sameTick (s : State) (c : Nat) : State.SameTick s (s.capChannel c) := by
  unfold State.capChannel
  extract_lets x units inside kept pre post
  split
  · exact .refl
  · exact s.setSchan_sameTick c _

theorem State.put_sameTick (s : State) (o : Output) : State.SameTick s (s.put o) := .of_scs_eq (by simp)

theorem State.replyLater_sameTick (s : State) (c : CmdCtx) (op st : Nat) (d : List Byte) : State.SameTick s (s.replyLater c op st d) :=
  .of_scs_eq (by simp)

theorem State.capture_sameTick (s : State) (t : Int) (mask : Nat) (forced : Bool) : State.SameTick s (s.capture t mask forced) := by
  unfold State.capture
  extract_lets s1 short s2 s3
  have h1 : State.SameTick s s1 := State.SameTick.foldl (fun u c => u.capChannel_sameTick c) _ s
  have h2 : State.SameTick s1 s2 := State.modScs_sameTick s1
  have h3 : State.SameTick s2 s3 := (s2.fireRecord_sameTick 0 1 t mask forced).trans (State.markPins_sameTick _ 0)
  clear_value s3
  split
  · exact ((h1.trans h2).trans h3).trans (s3.put_sameTick _)
  · exact (h1.trans h2).trans h3

/-- A forced capture answers the command that forced it. -/
theorem State.forced_sameTick (s : State) (t : Int) (mask : Nat) (c : CmdCtx) :
    State.SameTick s (((s.modScs (fun x => { x with forceCtx := none })).capture t mask true).replyLater c 0x0A02 stDone []) :=
  ((State.modScs_sameTick s).trans (State.capture_sameTick _ t mask true)).trans (State.replyLater_sameTick _ _ _ _ _)

theorem State.actFires_sameTick (s : State) (t : Int) (hits : List Nat) : State.SameTick s (s.actFires t hits) := by
  unfold State.actFires
  extract_lets units on mask master
  split
  · split
    · exact s.forced_sameTick t 0 _
    · split
      · exact ((s.fireRecord_sameTick 1 2 t _ false).trans (State.modScs_sameTick _)).trans (State.markPins_sameTick _ 1)
      · exact .refl
  · split
    · exact s.forced_sameTick t mask _
    · split
      · exact .refl
      · exact s.capture_sameTick t mask false
  · split
    · exact .refl
    · split
      · exact (s.fireRecord_sameTick _ 3 t mask false).trans (State.modScs_sameTick _)
      · exact State.modScs_sameTick s
  · exact .refl

end Tick

/-! SCS_TICK (R380). -/

section ScsTick

variable {s : State}

theorem exec_scsTick_old (h : s.now / 1000 * 1000 - 1000 ≤ s.scs.tick) : exec .scsTick s = .next s := by
  rw [exec_scsTick, execScsTick, if_neg (not_lt.mpr h)]

theorem exec_scsTick_idle (hnew : s.scs.tick < s.now / 1000 * 1000 - 1000) (h : s.scs.phase = .idle ∨ s.scs.phase = .done) :
    exec .scsTick s = .next ((s.modScs (fun x => { x with tick := s.now / 1000 * 1000 - 1000 })).sampleTick (s.now / 1000 * 1000 - 1000)).writePort := by
  rw [exec_scsTick, execScsTick, if_pos hnew]
  rcases h with h | h <;> rw [h]

/-- What a tick of a Scoresheet at work leaves. -/
def State.scsWorked (s : State) (t : Int) : State :=
  let q := ((s.modScs (fun x => { x with tick := t })).sampleTick t).judgeUnits t
  (q.1.actFires t q.2).writePort

theorem exec_scsTick_active (hnew : s.scs.tick < s.now / 1000 * 1000 - 1000) (h : ¬ (s.scs.phase = .idle ∨ s.scs.phase = .done)) :
    exec .scsTick s = .next (s.scsWorked (s.now / 1000 * 1000 - 1000)) := by
  rw [exec_scsTick, execScsTick, if_pos hnew]
  cases hp : s.scs.phase with
  | idle => exact absurd (Or.inl hp) h
  | done => exact absurd (Or.inr hp) h
  | _ => rfl

theorem State.scsWorked_tick (s : State) (t : Int) : (s.scsWorked t).scs.tick = t :=
  have h := (State.sampleTick_sameTick (s.modScs (fun x => { x with tick := t })) t).trans (State.judgeUnits_sameTick _ t)
  ((h.trans (State.actFires_sameTick _ t _)).trans (State.writePort_sameTick _)).tick_eq

theorem State.scsWorked_coreTicks (s : State) (t : Int) : (s.scsWorked t).coreTicks = s.coreTicks := by simp [State.scsWorked]
theorem State.scsWorked_arb (s : State) (t : Int) : (s.scsWorked t).arb = s.arb := by simp [State.scsWorked]

end ScsTick

/-! The trigger pins (R386, R393). -/

/-- Setting one pin leaves the others. -/
theorem getLsbD_pin_ne (x : BitVec 4) (p : Fin 4) (b : Bool) {i : Nat} (hi : i ≠ p.val) :
    (BitVec.ofNat 4 (nsetBit x.toNat p.val b)).getLsbD i = x.getLsbD i := by
  have hpins : ∀ (x : BitVec 4) (p : Fin 4) (b : Bool) (i : Fin 4), i ≠ p →
      (BitVec.ofNat 4 (nsetBit x.toNat p.val b)).getLsbD i.val = x.getLsbD i.val := by decide
  by_cases hlt : i < 4
  · exact hpins x p b ⟨i, hlt⟩ (fun h => hi (congrArg Fin.val h))
  · rw [BitVec.getLsbD_of_ge _ _ (Nat.le_of_not_lt hlt), BitVec.getLsbD_of_ge _ _ (Nat.le_of_not_lt hlt)]

section Pins

variable {s : State} {pin : Fin 4} {level : Bool} {held : Nat} {stamp : Int}

theorem exec_trgPinEdge_level (h : ¬ (s.parN 0x0A400001 pin.val = 1 ∨ held < 2 ∨ s.scs.pinLevel.getLsbD pin.val = level)) :
    ∃ u, exec (.trgPinEdge pin level ⟨held, stamp⟩) s = .next u ∧ u.scs.pinLevel = BitVec.ofNat 4 (nsetBit s.scs.pinLevel.toNat pin.val level)
      ∧ u = { s with scs := u.scs } := by
  rw [exec_trgPinEdge, execTrgPinEdge, if_neg h]
  refine ⟨_, rfl, ?_⟩
  refine List.foldlRecOn (motive := fun u : State => u.scs.pinLevel = BitVec.ofNat 4 (nsetBit s.scs.pinLevel.toNat pin.val level)
    ∧ u = { s with scs := u.scs }) (List.range 8) _ ⟨rfl, rfl⟩ (fun u hu i _ => ?_)
  obtain ⟨hlevel, honly⟩ := hu
  split
  · refine ⟨hlevel, ?_⟩
    rw [honly]
    rfl
  · exact ⟨hlevel, honly⟩

theorem exec_trgPinEdge_none (h : s.parN 0x0A400001 pin.val = 1 ∨ held < 2 ∨ s.scs.pinLevel.getLsbD pin.val = level) :
    exec (.trgPinEdge pin level ⟨held, stamp⟩) s = .next s := by
  rw [exec_trgPinEdge, execTrgPinEdge, if_pos h]

theorem exec_trgOutputEnd_due (h : s.scs.pinOut.getLsbD pin.val = true ∧ sget (fun _ => 0) s.scs.pinEnd pin.val ≤ s.coreTicks) :
    ∃ u, exec (.trgOutputEnd pin) s = .next u ∧ u.scs.pinOut = BitVec.ofNat 4 (nsetBit s.scs.pinOut.toNat pin.val false)
      ∧ u = { s with scs := u.scs } := by
  obtain ⟨hout, hend⟩ := h
  exact ⟨_, (exec_trgOutputEnd pin s).trans (whenB_of_true (by simp [hout, hend]) s _), rfl, rfl⟩

theorem exec_trgOutputEnd_not (h : ¬ (s.scs.pinOut.getLsbD pin.val = true ∧ sget (fun _ => 0) s.scs.pinEnd pin.val ≤ s.coreTicks)) :
    exec (.trgOutputEnd pin) s = .next s :=
  (exec_trgOutputEnd pin s).trans (whenB_of_false (by simpa using h) s _)

end Pins

/-! The end of a capture (R390). -/

theorem exec_captureDone_iff (s : State) :
    (s.scs.phase = .post ∧ s.scsFull = true → exec .captureDone s = .next ((s.modScs (fun x => { x with phase := .done })).raise 0x0A01 0 0
      [BitVec.ofNat 8 s.scs.fireMask, BitVec.ofNat 8 (s.scs.first.getD 0xFF)]))
    ∧ (¬ (s.scs.phase = .post ∧ s.scsFull = true) → exec .captureDone s = .next s) := by
  rw [exec_captureDone]
  exact whenB_iff (by simp) s _

/-! The commands of the Scoresheet (R383 to R394). -/

section Commands

variable {s : State} {c : CmdCtx} {first : BitVec 32} {count : BitVec 16}

/-- What SCS_ARM answers. -/
def State.armAnswer (t : State) (c : CmdCtx) : Ans :=
  if t.unitsBad then .refuse stBadComb []
  else if (t.scs.phase ≠ .idle ∧ t.scs.phase ≠ .done) ∨ t.scs.armPending.isSome = true then .refuse stState []
  else if (List.range 72).any (fun i => decide (0 < t.chanWeight i ∧ t.ringLen i < 64)) then .refuse stNoRoom []
  else .quiet (t.modScs (fun x => { x with armPending := some c }))

theorem exec_scsArm_takes (h : Acts s c 0x0A01 3) : exec (.scsArm c) s = .next (((s.takeUp c).armAnswer c).result (s.takeUp c) c 0x0A01) :=
  exec_host_takes (k := { op := 0x0A01, need := roleEngineer }) (exec_scsArm c s) h rfl rfl

theorem exec_scsForce_takes (h : Acts s c 0x0A02 3) : exec (.scsForce c) s = .next (Ans.result (s.takeUp c) c 0x0A02
    (if ((s.takeUp c).scs.phase ≠ .waitMaster ∧ (s.takeUp c).scs.phase ≠ .waitFire) ∨ (s.takeUp c).scs.forceCtx.isSome = true then .refuse stState []
     else .quiet ((s.takeUp c).modScs (fun x => { x with forceCtx := some c })))) :=
  exec_host_takes (k := { op := 0x0A02, need := roleEngineer }) (exec_scsForce c s) h rfl rfl

/-- What SCS_STOP answers: a command that waits to force a capture is refused first. -/
def State.stopAnswer (t : State) : Ans :=
  let s1 := match t.scs.forceCtx with
    | none => t
    | some f => (t.modScs (fun x => { x with forceCtx := none })).replyLater f 0x0A02 stState []
  .ok (s1.modScs (fun x => { x with phase := .done, armTick := none })) stDone []

theorem exec_scsStop_takes (h : Acts s c 0x0A03 3) : exec (.scsStop c) s = .next ((s.takeUp c).stopAnswer.result (s.takeUp c) c 0x0A03) :=
  exec_host_takes (k := { op := 0x0A03, need := roleEngineer }) (exec_scsStop c s) h rfl rfl

theorem exec_scsRead_takes (h : Reads s c 0x0A04 1) : exec (.scsRead c first count) s = .next (Ans.result (s.takeUp c) c 0x0A04
    (if count = 0 ∨ (if ((s.takeUp c).session c.slot.val).source = .pcie then 27 else 179) < count.toNat ∨ 524288 < first.toNat + count.toNat
     then .refuse stBadValue []
     else .ok (s.takeUp c) stDone
      ((List.range count.toNat).flatMap (fun i => be 8 (sget (fun _ => (0 : BitVec 64)) (s.takeUp c).scs.trace (first.toNat + i)).toNat)))) :=
  exec_hostAt_takes (k := { op := 0x0A04, need := roleView, move := false, logged := false }) (exec_scsRead c first count s) h rfl rfl

/-- A channel in use whose ring would be too short. -/
theorem ringsShort_iff (t : State) : (List.range 72).any (fun i => decide (0 < t.chanWeight i ∧ t.ringLen i < 64)) = true
    ↔ ∃ i < 72, 0 < t.chanWeight i ∧ t.ringLen i < 64 := by
  simp

end Commands

/-- Settles O45: the tick, the end of a capture, the trigger pins, and the commands of the Scoresheet. -/
theorem scoresheet : Obligations.Scoresheet := by
  unfold Obligations.Scoresheet
  intro s c f pin level held stamp first count t tick idle waits s0 full high short arm most inTrace
  have harm : ∀ {a : Ans}, t.armAnswer c = a → Acts s c 0x0A01 3 → exec (.scsArm c) s = .next (a.result t c 0x0A01) := fun ha h =>
    ha ▸ exec_scsArm_takes h
  have hidle : (t.scs.phase ≠ .idle ∧ t.scs.phase ≠ .done) ↔ ¬ idle t := not_or.symm
  have hwaits : (t.scs.phase ≠ .waitMaster ∧ t.scs.phase ≠ .waitFire) ↔ ¬ waits t := not_or.symm
  have hready : idle t → t.scs.armPending = none → ¬ ((t.scs.phase ≠ .idle ∧ t.scs.phase ≠ .done) ∨ t.scs.armPending.isSome = true) := fun hi hp => by
    rw [hidle, Option.isSome_iff_ne_none]
    exact not_or.mpr ⟨not_not.mpr hi, not_not.mpr hp⟩
  have htrace : (count = 0 ∨ most < count.toNat ∨ 524288 < first.toNat + count.toNat) ↔ ¬ inTrace := by
    simp only [inTrace, not_and_or, not_le, ne_eq, not_not]
  refine ⟨fun h => exec_scsTick_old h, fun h hi => exec_scsTick_idle h hi, fun h hi => ?_, (exec_captureDone_iff s).1, (exec_captureDone_iff s).2,
    exec_trgPinEdge_none, fun hin hheld hlevel => ?_, fun h => ?_, exec_trgOutputEnd_not, fun hb => harm (if_pos hb), fun hb hno => harm (a := .refuse stState []) ?_,
    fun hb hi hp hs => harm (a := .refuse stNoRoom []) ?_,
    fun h hb hi hp hs => harm (a := .quiet (t.modScs (fun x => { x with armPending := some c }))) ?_ h, fun h hno => ?_, fun h hw hf => ?_, fun h hf => ?_, fun h hf => ?_, fun h hno => ?_,
    fun h hin => ?_⟩
  · exact ⟨_, exec_scsTick_active h hi, s.scsWorked_tick _, s.scsWorked_coreTicks _, s.scsWorked_arb _⟩
  · obtain ⟨u, hu, hpins, honly⟩ := exec_trgPinEdge_level (stamp := stamp) (not_or.mpr ⟨hin, not_or.mpr ⟨Nat.not_lt.mpr hheld, hlevel⟩⟩)
    exact ⟨u, hu, hpins ▸ getLsbD_ofNat_nsetBit _ pin.isLt _, fun i hi => hpins ▸ getLsbD_pin_ne _ pin _ hi, honly⟩
  · obtain ⟨u, hu, hpins, honly⟩ := exec_trgOutputEnd_due h
    exact ⟨u, hu, hpins ▸ getLsbD_ofNat_nsetBit _ pin.isLt _, fun i hi => hpins ▸ getLsbD_pin_ne _ pin _ hi, honly⟩
  · refine (if_neg (by simp [hb])).trans (if_pos ?_)
    rwa [hidle, Option.isSome_iff_ne_none]
  · exact (if_neg (by simp [hb])).trans ((if_neg (hready hi hp)).trans (if_pos ((ringsShort_iff t).mpr hs)))
  · exact (if_neg (by simp [hb])).trans ((if_neg (hready hi hp)).trans (if_neg (mt (ringsShort_iff t).mp hs)))
  · refine (exec_scsForce_takes h).trans ?_
    rw [if_pos (by rwa [hwaits, Option.isSome_iff_ne_none])]
    rfl
  · refine (exec_scsForce_takes h).trans ?_
    rw [if_neg (by rw [hwaits, Option.isSome_iff_ne_none]; exact not_or.mpr ⟨not_not.mpr hw, not_not.mpr hf⟩)]
    rfl
  · refine (exec_scsStop_takes h).trans ?_
    rw [State.stopAnswer, hf]
    rfl
  · refine (exec_scsStop_takes h).trans ?_
    rw [State.stopAnswer, hf]
    rfl
  · refine (exec_scsRead_takes h).trans ?_
    rw [if_pos (htrace.mpr hno)]
    rfl
  · refine (exec_scsRead_takes h).trans ?_
    rw [if_neg (mt htrace.mp (not_not.mpr hin))]
    rfl

end Sys2Proof.Machine
end

section
/-! The wall time: sources, the served clock, and the time commands (O46). -/

namespace Sys2Proof.Machine

open Sys2Proof.Claims

theorem exec_ptpSync (d : Fin 2) (dom : BitVec 8) (two : Bool) (seq : BitVec 16) (origin rx : Int) (s : State) :
    exec (.ptpSync d dom two seq origin rx) s = execPtpSync d dom two seq origin rx s := rfl
theorem exec_ptpFollowUp (d : Fin 2) (dom : BitVec 8) (seq : BitVec 16) (origin : Int) (s : State) :
    exec (.ptpFollowUp d dom seq origin) s = execPtpFollowUp d dom seq origin s := rfl
theorem exec_ptpAnnounce (d : Fin 2) (dom : BitVec 8) (rank : Nat) (src : BitVec 64) (s : State) :
    exec (.ptpAnnounce d dom rank src) s = execPtpAnnounce d dom rank src s := rfl
theorem exec_ptpDelayResp (d : Fin 2) (dom : BitVec 8) (seq : BitVec 16) (t4 : Int) (s : State) :
    exec (.ptpDelayResp d dom seq t4) s = execPtpDelayResp d dom seq t4 s := rfl
theorem exec_ptpDelayReqSend (d : Fin 2) (tx : Int) (s : State) : exec (.ptpDelayReqSend d tx) s = execPtpDelayReqSend d tx s := rfl
theorem exec_syncLoss (d : Fin 2) (s : State) : exec (.syncLoss d) s = execSyncLoss d s := rfl
theorem exec_ppsEdge (d : Fin 2) (stamp : Int) (s : State) : exec (.ppsEdge d stamp) s = execPpsEdge d stamp s := rfl
theorem exec_ppsLoss (d : Fin 2) (s : State) : exec (.ppsLoss d) s = execPpsLoss d s := rfl
theorem exec_sourceSwitch (s : State) : exec .sourceSwitch s = execSourceSwitch s := rfl
theorem exec_sourceTakeover (s : State) : exec .sourceTakeover s = execSourceTakeover s := rfl
theorem exec_slewEnd (s : State) : exec .slewEnd s = execSlewEnd s := rfl
theorem exec_timeFault (s : State) : exec .timeFault s = execTimeFault s := rfl
theorem exec_timeStep (s : State) : exec .timeStep s = execTimeStep s := rfl
theorem exec_restepAbandoned (s : State) : exec .restepAbandoned s = execRestepAbandoned s := rfl
theorem exec_ppsOutPulse (s : State) : exec .ppsOutPulse s = execPpsOutPulse s := rfl
theorem exec_ppsOutEnd (s : State) : exec .ppsOutEnd s = execPpsOutEnd s := rfl
theorem exec_timGet (c : CmdCtx) (s : State) : exec (.timGet c) s = execTimGet c s := rfl
theorem exec_timSrcRead (c : CmdCtx) (src : BitVec 8) (s : State) : exec (.timSrcRead c src) s = execTimSrcRead c src s := rfl
theorem exec_timRestep (c : CmdCtx) (s : State) : exec (.timRestep c) s = execTimRestep c s := rfl

/-! PTP (R401, R403). -/

section Ptp

variable {s : State} {d : Fin 2} {dom : BitVec 8} {two : Bool} {seq q : BitVec 16} {origin rx t3 tx : Int} {rank r0 : Nat} {src w0 : BitVec 64}

theorem State.inDomain_iff (s : State) (d : Nat) (dom : BitVec 8) : s.inDomain d dom = true ↔ dom.toNat = s.parN 0x0B100001 d := by
  simp [State.inDomain]

/-- A message of another domain is counted. -/
theorem exec_ptp_otherDomain (h : dom.toNat ≠ s.parN 0x0B100001 d.val) :
    exec (.ptpSync d dom two seq origin rx) s = .next (s.otherDomain d.val)
    ∧ exec (.ptpFollowUp d dom seq origin) s = .next (s.otherDomain d.val)
    ∧ exec (.ptpAnnounce d dom rank src) s = .next (s.otherDomain d.val)
    ∧ exec (.ptpDelayResp d dom seq origin) s = .next (s.otherDomain d.val) := by
  have hout : (!s.inDomain d.val dom) = true := by simpa [State.inDomain] using h
  exact ⟨if_pos hout, if_pos hout, if_pos hout, if_pos hout⟩

theorem inDomain_not (h : dom.toNat = s.parN 0x0B100001 d.val) : ¬ (!s.inDomain d.val dom) = true := by
  rw [(s.inDomain_iff d.val dom).mpr h]
  decide

theorem exec_ptpSync_mine (h : dom.toNat = s.parN 0x0B100001 d.val) : exec (.ptpSync d dom two seq origin rx) s =
    if (s.ptp d.val).transmitter.isNone then .next s
    else if two then .next (s.setPtp d.val { s.ptp d.val with waiting := some (seq, rx) })
    else .next (s.takeSync d.val origin rx) := if_neg (inDomain_not h)

theorem exec_ptpFollowUp_mine (h : dom.toNat = s.parN 0x0B100001 d.val) (hw : (s.ptp d.val).waiting = some (q, rx)) :
    exec (.ptpFollowUp d dom seq origin) s = whenB (decide (q = seq)) s (s.takeSync d.val origin rx) := by
  rw [exec_ptpFollowUp, execPtpFollowUp, if_neg (inDomain_not h), hw]

theorem exec_ptpFollowUp_alone (h : dom.toNat = s.parN 0x0B100001 d.val) (hw : (s.ptp d.val).waiting = none) :
    exec (.ptpFollowUp d dom seq origin) s = .next s := by
  rw [exec_ptpFollowUp, execPtpFollowUp, if_neg (inDomain_not h), hw]

/-- A transmitter is followed when none is, when it is the one that is, or when it is the better one. -/
theorem exec_ptpAnnounce_better (h : dom.toNat = s.parN 0x0B100001 d.val)
    (hb : (s.ptp d.val).transmitter = none ∨ ((s.ptp d.val).transmitter = some (r0, w0) ∧ (w0 = src ∨ rank < r0))) :
    exec (.ptpAnnounce d dom rank src) s = .next (s.setPtp d.val { s.ptp d.val with transmitter := some (rank, src) }) := by
  rw [exec_ptpAnnounce, execPtpAnnounce, if_neg (inDomain_not h)]
  rcases hb with hnone | ⟨hsome, hb⟩
  · simp only [hnone]
    exact whenB_of_true rfl s _
  · simp only [hsome]
    exact whenB_of_true (by simpa using hb) s _

theorem exec_ptpAnnounce_worse (h : dom.toNat = s.parN 0x0B100001 d.val) (hsome : (s.ptp d.val).transmitter = some (r0, w0)) (hw : w0 ≠ src)
    (hr : r0 ≤ rank) : exec (.ptpAnnounce d dom rank src) s = .next s := by
  rw [exec_ptpAnnounce, execPtpAnnounce, if_neg (inDomain_not h)]
  simp only [hsome]
  exact whenB_of_false (by simp [hw, hr]) s _

theorem exec_ptpDelayResp_none (h : dom.toNat = s.parN 0x0B100001 d.val) (hno : (s.ptp d.val).reqTx = none ∨ seq ≠ (s.ptp d.val).reqSeq) :
    exec (.ptpDelayResp d dom seq origin) s = .next s := by
  rw [exec_ptpDelayResp, execPtpDelayResp, if_neg (inDomain_not h)]
  cases hreq : (s.ptp d.val).reqTx with
  | none => rfl
  | some t3 => exact whenB_of_false (decide_eq_false (hno.resolve_left (by simp [hreq]))) s _

theorem exec_ptpDelayResp_takes (h : dom.toNat = s.parN 0x0B100001 d.val) (hreq : (s.ptp d.val).reqTx = some t3)
    (hseq : seq = (s.ptp d.val).reqSeq) : exec (.ptpDelayResp d dom seq origin) s =
      let p := s.ptp d.val
      let delay := if s.parN 0x0B100002 d.val = 1 then (origin - t3) / 2 else (p.t2 - p.t1 + (origin - t3)) / 2
      let s1 := s.setPtp d.val { p with delay := delay, delayTick := some s.coreTicks, reqTx := none }
      .next ((if p.delayTick = none ∧ p.lastSync ≠ none then s1.measureSource (d.val + 1) (p.t1 - p.t2 + delay) p.t2 else s1).checkPtp d.val) := by
  have hfirst : ((s.ptp d.val).delayTick.isNone && (s.ptp d.val).lastSync.isSome) = true
      ↔ (s.ptp d.val).delayTick = none ∧ (s.ptp d.val).lastSync ≠ none := by
    rw [Bool.and_eq_true, Option.isNone_iff_eq_none, Option.isSome_iff_ne_none]
  rw [exec_ptpDelayResp, execPtpDelayResp, if_neg (inDomain_not h), hreq]
  refine (whenB_of_true (decide_eq_true hseq) s _).trans ?_
  simp only [hfirst]

theorem exec_ptpDelayReqSend_iff (s : State) (d : Fin 2) (tx : Int) :
    ((s.ptp d.val).transmitter ≠ none ∨ s.parN 0x0B100002 d.val = 1 → exec (.ptpDelayReqSend d tx) s =
      .next ((s.setPtp d.val { s.ptp d.val with reqSeq := (s.ptp d.val).reqSeq + 1, reqTx := some (tx + s.par 0x0B100006 d.val) }).put
        (.delayReq d ((s.ptp d.val).reqSeq + 1))))
    ∧ (¬ ((s.ptp d.val).transmitter ≠ none ∨ s.parN 0x0B100002 d.val = 1) → exec (.ptpDelayReqSend d tx) s = .next s) :=
  whenB_iff (by simp [Option.isSome_iff_ne_none]) s _

/-- The instant is none, or lies at least n core periods back. -/
def Stale (now : Nat) (n : Nat) (t : Option Nat) : Prop := t = none ∨ ∃ t0, t = some t0 ∧ t0 + n ≤ now

theorem stale_iff (now n : Nat) (t : Option Nat) : (match t with | none => true | some t0 => decide (t0 + n ≤ now)) = true ↔ Stale now n t := by
  cases t <;> simp [Stale]

/-- SYNC_LOSS: the Syncs or the delay measurements stay away (R402). -/
theorem exec_syncLoss_iff (s : State) (d : Fin 2) :
    ((s.source (d.val + 1)).valid = true ∧ (Stale s.coreTicks (s.parN 0x0B100004 d.val * (s.ptp d.val).interval) (s.ptp d.val).lastSync
        ∨ Stale s.coreTicks 16000000000 (s.ptp d.val).delayTick) → exec (.syncLoss d) s = .next (s.sourceInvalid (d.val + 1)))
    ∧ (¬ ((s.source (d.val + 1)).valid = true ∧ (Stale s.coreTicks (s.parN 0x0B100004 d.val * (s.ptp d.val).interval) (s.ptp d.val).lastSync
        ∨ Stale s.coreTicks 16000000000 (s.ptp d.val).delayTick)) → exec (.syncLoss d) s = .next s) :=
  whenB_iff (by rw [Bool.and_eq_true, Bool.or_eq_true]; exact and_congr_right' (or_congr (stale_iff _ _ _) (stale_iff _ _ _))) s _

end Ptp

/-! The PPS pins (R402, R403, R506). -/

section Pps

variable {s : State} {d : Fin 2} {stamp e0 : Int}

theorem TimeSource.again_iff (x : TimeSource) (stamp t : Int) (h : x.pinAt = some t) : x.again stamp = true ↔ stamp - t < 1000 := by
  rw [TimeSource.again, h, decide_eq_true_iff]

theorem exec_ppsEdge_again (h : (s.source (d.val + 3)).again stamp = true) : exec (.ppsEdge d stamp) s = .next s := if_pos h

/-- An edge more than 100 µs off the second is a bad one: the first of a run only counts. -/
theorem exec_ppsEdge_bad (hnew : (s.source (d.val + 3)).again stamp = false) (hlast : (s.source (d.val + 3)).lastEdge = some e0)
    (hoff : 100000 < (stamp - e0 - 1000000000).natAbs) (hvalid : (s.source (d.val + 3)).valid = true) : exec (.ppsEdge d stamp) s =
      if (s.source (d.val + 3)).badRun = 0 then
        .next (s.setSource (d.val + 3) { s.source (d.val + 3) with
          pinAt := some stamp, bad := inc32 (s.source (d.val + 3)).bad, badRun := 1, lastEdgeTick := s.coreTicks })
      else
        .next (s.setSource (d.val + 3) { s.source (d.val + 3) with
          pinAt := some stamp, bad := inc32 (s.source (d.val + 3)).bad, badRun := 0, valid := false, run := 1, lastEdge := some stamp
          lastEdgeTick := s.coreTicks }) := by
  rw [exec_ppsEdge, execPpsEdge, if_neg (Bool.eq_false_iff.mp hnew)]
  simp only [hlast, hvalid, decide_eq_false (Nat.not_le.mpr hoff)]
  by_cases h : (s.source (d.val + 3)).badRun = 0 <;> simp [h]

theorem State.judgeOffset_source (t : State) (c i : Nat) : (t.judgeOffset c).source i = t.source i := by
  unfold State.judgeOffset
  split <;> rfl

theorem State.measureSource_source (t : State) (c : Nat) (theta at_ : Int) : ∃ rate, (t.measureSource c theta at_).source c =
    { t.source c with theta := theta, rate := rate, lastMeas := some at_ } :=
  ⟨_, (State.judgeOffset_source _ c c).trans (State.setSource_self t c _)⟩

theorem State.sourceValid_source (t : State) (c : Nat) : ((t.sourceValid c).source c).valid = true
    ∧ ((t.sourceValid c).source c).run = (t.source c).run := by
  unfold State.sourceValid
  split
  · rename_i h
    exact ⟨h, rfl⟩
  · simp

/-- The third good edge and each later one measure the source and make it valid. -/
theorem exec_ppsEdge_good (hnew : (s.source (d.val + 3)).again stamp = false) (hlast : (s.source (d.val + 3)).lastEdge = some e0)
    (hon : ¬ 100000 < (stamp - e0 - 1000000000).natAbs) (hrun : 2 ≤ (s.source (d.val + 3)).run)
    (htime : s.time.timeValid = true ∨ s.time.tod = true) :
    ∃ (s1 : State) (theta at_ : Int), (s1.source (d.val + 3)).run = (s.source (d.val + 3)).run + 1
      ∧ exec (.ppsEdge d stamp) s = .next ((s1.measureSource (d.val + 3) theta at_).sourceValid (d.val + 3)) := by
  rw [exec_ppsEdge, execPpsEdge, if_neg (Bool.eq_false_iff.mp hnew)]
  simp only [hlast, decide_eq_true (Nat.not_lt.mp hon)]
  rw [if_neg (by simp), if_neg (by simp), if_pos ⟨Nat.succ_le_succ hrun, htime⟩]
  refine ⟨_, _, _, ?_, rfl⟩
  rw [State.setSource_self]
  rfl

theorem exec_ppsLoss_iff (s : State) (d : Fin 2) :
    ((s.source (d.val + 3)).valid = true ∧ (s.source (d.val + 3)).lastEdgeTick + 1500000000 ≤ s.coreTicks →
      exec (.ppsLoss d) s = .next (s.sourceInvalid (d.val + 3)))
    ∧ (¬ ((s.source (d.val + 3)).valid = true ∧ (s.source (d.val + 3)).lastEdgeTick + 1500000000 ≤ s.coreTicks) →
      exec (.ppsLoss d) s = .next s) :=
  whenB_iff (by simp) s _

end Pps

/-! The selected source (R404, R407, R408). -/

section Selection

variable {s : State}

theorem exec_sourceSwitch_iff (s : State) : (s.choice ≠ s.time.selected → exec .sourceSwitch s = .next (s.selectSource s.choice))
    ∧ (¬ s.choice ≠ s.time.selected → exec .sourceSwitch s = .next s) :=
  whenB_iff decide_eq_true_iff s _

/-- The sources that the list puts before the selected one. -/
def State.aheadSources (s : State) : List Nat := s.prio.takeWhile (fun c => decide (c ≠ s.time.selected))

/-- A source that has been valid for 10 s. -/
def State.settled (s : State) (c : Nat) : Bool := (s.source c).valid && decide ((s.source c).validSince + 10000000000 ≤ s.coreTicks)

theorem State.settled_iff (s : State) (c : Nat) : s.settled c = true
    ↔ (s.source c).valid = true ∧ (s.source c).validSince + 10000000000 ≤ s.coreTicks := by
  simp [State.settled]

theorem exec_sourceTakeover_found {n : Nat} (h : s.aheadSources.find? s.settled = some n) :
    exec .sourceTakeover s = whenB (decide (s.time.selected ≠ 0) && s.prio.contains s.time.selected) s (s.selectSource n) := by
  have hm : (s.prio.takeWhile (fun c => decide (c ≠ s.time.selected))).find? (fun c =>
      (s.source c).valid && decide ((s.source c).validSince + 10000000000 ≤ s.coreTicks)) = some n := h
  rw [exec_sourceTakeover, execSourceTakeover, hm]

theorem exec_sourceTakeover_none (h : s.aheadSources.find? s.settled = none) : exec .sourceTakeover s = .next s := by
  have hm : (s.prio.takeWhile (fun c => decide (c ≠ s.time.selected))).find? (fun c =>
      (s.source c).valid && decide ((s.source c).validSince + 10000000000 ≤ s.coreTicks)) = none := h
  rw [exec_sourceTakeover, execSourceTakeover, hm]

theorem exec_sourceTakeover_takes {n : Nat} (h : s.aheadSources.find? s.settled = some n) (hsel : s.time.selected ≠ 0) (hin : s.time.selected ∈ s.prio) :
    exec .sourceTakeover s = .next (s.selectSource n) :=
  (exec_sourceTakeover_found h).trans (whenB_of_true (by simp [hsel, hin]) s _)

theorem exec_sourceTakeover_keeps (h : (∀ c ∈ s.aheadSources, ¬ s.settled c = true) ∨ s.time.selected = 0 ∨ s.time.selected ∉ s.prio) :
    exec .sourceTakeover s = .next s := by
  cases hf : s.aheadSources.find? s.settled with
  | none => exact exec_sourceTakeover_none hf
  | some n =>
    refine (exec_sourceTakeover_found hf).trans (whenB_of_false ?_ s _)
    have hsel := h.resolve_left fun hall => hall n (List.mem_of_find?_eq_some hf) (List.find?_some hf)
    simpa [← or_iff_not_imp_left] using hsel

theorem exec_slewEnd_iff (s : State) :
    (s.time.state = .slew ∧ s.twin.standby = false ∧ (s.source s.time.selected).theta.natAbs ≤ 1000 →
      exec .slewEnd s = .next { s with time := { s.time with state := .locked, switched := false, slewDir := 0 } })
    ∧ (¬ (s.time.state = .slew ∧ s.twin.standby = false ∧ (s.source s.time.selected).theta.natAbs ≤ 1000) → exec .slewEnd s = .next s) :=
  whenB_iff (by simp [and_assoc]) s _

theorem exec_timeFault_iff (s : State) :
    (s.time.timeValid = true ∧ s.time.selected ≠ 0 ∧ s.time.offsetHigh = true ∧ s.time.faultTold = false → exec .timeFault s =
      .next (State.raise { s with time := { s.time with timeFault := true, faultTold := true, timeFaults := inc32 s.time.timeFaults } } 0x0B02 2 0
        (beI 6 (s.source s.time.selected).theta)))
    ∧ (¬ (s.time.timeValid = true ∧ s.time.selected ≠ 0 ∧ s.time.offsetHigh = true ∧ s.time.faultTold = false) → exec .timeFault s = .next s) :=
  whenB_iff (by simp [and_assoc]) s _

theorem exec_ppsOutPulse_iff (s : State) :
    (s.time.timeValid = true ∧ s.time.ppsSec ≠ s.time.sec → exec .ppsOutPulse s = .next { s with time := { s.time with
      ppsOut := true, ppsSec := s.time.sec, ppsEnd := s.coreTicks + s.parN 0x0B000004 0 * 1000000 } })
    ∧ (¬ (s.time.timeValid = true ∧ s.time.ppsSec ≠ s.time.sec) → exec .ppsOutPulse s = .next s) :=
  whenB_iff (by simp) s _

theorem exec_ppsOutEnd_iff (s : State) :
    (s.time.ppsOut = true ∧ s.time.ppsEnd ≤ s.coreTicks → exec .ppsOutEnd s = .next { s with time := { s.time with ppsOut := false } })
    ∧ (¬ (s.time.ppsOut = true ∧ s.time.ppsEnd ≤ s.coreTicks) → exec .ppsOutEnd s = .next s) :=
  whenB_iff (by simp) s _

end Selection

/-! The step of the clock (R405, R409). -/

section Step

variable {s : State} {p : PendingStep}

theorem exec_timeStep_none (h : s.time.step = none) : exec .timeStep s = .next s ∧ exec .restepAbandoned s = .next s := by
  constructor
  · rw [exec_timeStep, execTimeStep, h]
  · rw [exec_restepAbandoned, execRestepAbandoned, h]

theorem exec_timeStep_some (h : s.time.step = some p) : exec .timeStep s =
    whenB (s.stepDue && !s.restepBlocked p) s ((s.stepClock p.delta).cmdDone? p.ctx 0x0B03 0 stDone) := by
  rw [exec_timeStep, execTimeStep, h]

theorem exec_restepAbandoned_some (h : s.time.step = some p) : exec .restepAbandoned s = whenB (s.stepDue && s.restepBlocked p) s
    ((State.raise { s with time := { s.time with step := none } } 0x0B04 1 0 []).cmdDone? p.ctx 0x0B03 0 stState) := by
  rw [exec_restepAbandoned, execRestepAbandoned, h]

theorem exec_timeStep_notDue (h : ¬ s.stepDue = true) : exec .timeStep s = .next s ∧ exec .restepAbandoned s = .next s := by
  cases hstep : s.time.step with
  | none => exact exec_timeStep_none hstep
  | some p =>
    rw [exec_timeStep_some hstep, exec_restepAbandoned_some hstep]
    exact ⟨whenB_of_false (by simp [h]) s _, whenB_of_false (by simp [h]) s _⟩

theorem exec_timeStep_lands (h : s.time.step = some p) (hdue : s.stepDue = true) (hfree : s.restepBlocked p = false) :
    exec .timeStep s = .next ((s.stepClock p.delta).cmdDone? p.ctx 0x0B03 0 0) ∧ exec .restepAbandoned s = .next s := by
  rw [exec_timeStep_some h, exec_restepAbandoned_some h]
  exact ⟨whenB_of_true (by simp [hdue, hfree]) s _, whenB_of_false (by simp [hfree]) s _⟩

theorem exec_timeStep_abandoned (h : s.time.step = some p) (hdue : s.stepDue = true) (hblocked : s.restepBlocked p = true) :
    exec .timeStep s = .next s ∧ exec .restepAbandoned s =
      .next ((State.raise { s with time := { s.time with step := none } } 0x0B04 1 0 []).cmdDone? p.ctx 0x0B03 0 0x0301) := by
  rw [exec_timeStep_some h, exec_restepAbandoned_some h]
  exact ⟨whenB_of_false (by simp [hblocked]) s _, whenB_of_true (by simp [hdue, hblocked]) s _⟩

end Step

/-! The commands of the wall time (R409, R410). -/

section Commands

variable {s : State} {c : CmdCtx} {src : BitVec 8}

theorem exec_timGet_takes (h : Reads s c 0x0B01 1) : exec (.timGet c) s = .next ((s.takeUp c).reply c 0x0B01 0
    (t80Bytes s.now ++ be 1 (clockCode s.time.state) ++ be 1 s.time.selected
      ++ beI 6 (if s.time.selected = 0 then 0 else (s.source s.time.selected).theta))) := by
  refine (exec_hostAt_takes (k := { op := 0x0B01, need := roleView, move := false, logged := false }) (exec_timGet c s) h rfl rfl).trans ?_
  rw [s.takeUp_rest c]
  rfl

theorem exec_timSrcRead_takes (h : Reads s c 0x0B02 1) : exec (.timSrcRead c src) s = .next (Ans.result (s.takeUp c) c 0x0B02
    (if src.toNat < 1 ∨ 4 < src.toNat then .refuse stBadValue []
     else .ok (s.takeUp c) stDone (be 1 (b2n (s.source src.toNat).valid) ++ beI 6 (s.source src.toNat).theta ++ beI 4 (s.source src.toNat).rate))) := by
  refine (exec_hostAt_takes (k := { op := 0x0B02, need := roleView, move := false, logged := false }) (exec_timSrcRead c src s) h rfl rfl).trans ?_
  rw [s.takeUp_rest c]
  rfl

/-- What TIM_RESTEP answers. -/
def State.restepAnswer (t : State) (c : CmdCtx) : Ans :=
  if (List.range 256).any (fun a => decide (t.axState a = .running)) || !(t.source t.time.selected).valid then .refuse stState []
  else if t.time.step.isSome then .refuse stBusy []
  else .ok { t with time := { t.time with step := some (⟨rdiv (t.source t.time.selected).theta 10, some c⟩ : PendingStep) } } stAccepted []

theorem exec_timRestep_takes (h : ActsExpert s c 0x0B03 3) :
    exec (.timRestep c) s = .next (((s.takeUp c).restepAnswer c).result (s.takeUp c) c 0x0B03) :=
  exec_host_takes (k := { op := 0x0B03, need := roleEngineer, expert := true }) (exec_timRestep c s) h rfl rfl

theorem anyRunning_iff (t : State) : (List.range 256).any (fun a => decide (t.axState a = .running)) = true ↔ ∃ a < 256, t.axState a = .running := by
  simp

end Commands

/-- The time sources (O46, first part). -/
theorem timeSources (s : State) (d : Fin 2) (stamp e0 : Int) :
    let y := s.source (d.val + 3)
    let off := fun (a b : Int) => 100000 < (a - b - 1000000000).natAbs
    (y.again stamp = false → y.lastEdge = some e0 → off stamp e0 → y.valid = true → y.badRun ≠ 0 → ∃ t, exec (.ppsEdge d stamp) s = .next t
           ∧ (t.source (d.val + 3)).valid = false ∧ (t.source (d.val + 3)).bad = inc32 y.bad)
    ∧ (y.again stamp = false → y.lastEdge = some e0 → ¬ off stamp e0 → 2 ≤ y.run → s.time.timeValid = true ∨ s.time.tod = true →
           ∃ t, exec (.ppsEdge d stamp) s = .next t ∧ (t.source (d.val + 3)).valid = true ∧ (t.source (d.val + 3)).run = y.run + 1) := by
  refine ⟨fun hnew hlast hoff hvalid hrun => ?_, fun hnew hlast hon hrun htime => ?_⟩
  · refine ⟨_, (exec_ppsEdge_bad hnew hlast hoff hvalid).trans (if_neg hrun), ?_⟩
    rw [State.setSource_self]
    exact ⟨rfl, rfl⟩
  · obtain ⟨s1, theta, at_, hs1, hexec⟩ := exec_ppsEdge_good hnew hlast hon hrun htime
    obtain ⟨rate, hmeas⟩ := s1.measureSource_source (d.val + 3) theta at_
    obtain ⟨hv, hr⟩ := (s1.measureSource (d.val + 3) theta at_).sourceValid_source (d.val + 3)
    refine ⟨_, hexec, hv, hr.trans ?_⟩
    rw [hmeas]
    exact hs1

/-- Settles O46: the PTP domains and the PPS pins, the selection of the source, the step of the clock, and the commands. -/
theorem wallTime : Obligations.WallTime := by
  unfold Obligations.WallTime
  refine ⟨fun s d dom two seq q origin rx t3 tx stamp e0 rank r0 src w0 => ?_, fun s c src p n => ?_⟩
  · intro p mine x other y off lostSync lostDelay lost peer delay answered
    obtain ⟨hbad, hgood⟩ := timeSources s d stamp e0
    have htransmits : ∀ {r0 : Nat} {w0 : BitVec 64}, p.transmitter = some (r0, w0) → ¬ p.transmitter.isNone = true := fun h => by simp [h]
    refine ⟨exec_ptp_otherDomain, fun hm hp => (exec_ptpSync_mine hm).trans (if_pos (Option.isNone_iff_eq_none.mpr hp)),
      fun hm hp h2 => (exec_ptpSync_mine hm).trans ((if_neg (htransmits hp)).trans (if_pos h2)),
      fun hm hp h2 => (exec_ptpSync_mine hm).trans ((if_neg (htransmits hp)).trans (if_neg (Bool.eq_false_iff.mp h2))),
      exec_ptpFollowUp_alone, fun hm hw hq => (exec_ptpFollowUp_mine hm hw).trans (whenB_of_false (decide_eq_false hq) s _),
      fun hm hw hq => (exec_ptpFollowUp_mine hm hw).trans (whenB_of_true (decide_eq_true hq) s _), exec_ptpAnnounce_better, exec_ptpAnnounce_worse,
      exec_ptpDelayResp_none, exec_ptpDelayResp_takes, (exec_ptpDelayReqSend_iff s d tx).1,
      fun hp hpeer => (exec_ptpDelayReqSend_iff s d tx).2 (not_or.mpr ⟨not_not.mpr hp, hpeer⟩), fun hv hl => (exec_syncLoss_iff s d).1 ⟨hv, hl⟩,
      fun h => (exec_syncLoss_iff s d).2 ?_, exec_ppsEdge_again, fun t => TimeSource.again_iff y stamp t,
      fun hn hl ho hv hb => (exec_ppsEdge_bad hn hl ho hv).trans (if_pos hb), hbad, hgood, fun hv hl => (exec_ppsLoss_iff s d).1 ⟨hv, hl⟩,
      fun h => (exec_ppsLoss_iff s d).2 ?_⟩
    · rintro ⟨hv, hl⟩
      exact h.elim (fun hno => Bool.false_ne_true (hno.symm.trans hv)) (fun hno => hl.elim hno.1 hno.2)
    · rintro ⟨hv, hl⟩
      exact h.elim (fun hno => Bool.false_ne_true (hno.symm.trans hv)) (fun hno => Nat.not_lt.mpr hl hno)
  · intro t x th ahead stable due moving rs
    have hrs : ∀ {a : Ans}, t.restepAnswer c = a → ActsExpert s c 0x0B03 3 → exec (.timRestep c) s = .next (a.result t c 0x0B03) := fun ha h =>
      ha ▸ exec_timRestep_takes h
    refine ⟨(exec_sourceSwitch_iff s).1, fun h => (exec_sourceSwitch_iff s).2 (not_not.mpr h),
      fun hf => ⟨(s.settled_iff n).mp (List.find?_some hf), exec_sourceTakeover_takes hf⟩,
      fun h => exec_sourceTakeover_keeps (h.imp_left fun hall c hc => mt (s.settled_iff c).mp (hall c hc)),
      fun h1 h2 h3 => (exec_slewEnd_iff s).1 ⟨h1, h2, h3⟩, fun h => (exec_slewEnd_iff s).2 ?_,
      fun h1 h2 h3 h4 => (exec_timeFault_iff s).1 ⟨h1, h2, h3, h4⟩, fun h => (exec_timeFault_iff s).2 ?_,
      fun h => h.elim exec_timeStep_none exec_timeStep_notDue, exec_timeStep_lands, exec_timeStep_abandoned,
      fun h1 h2 => (exec_ppsOutPulse_iff s).1 ⟨h1, h2⟩, fun h => (exec_ppsOutPulse_iff s).2 ?_,
      fun h1 h2 => (exec_ppsOutEnd_iff s).1 ⟨h1, h2⟩, fun h => (exec_ppsOutEnd_iff s).2 ?_, exec_timGet_takes,
      fun h hsrc => (exec_timSrcRead_takes h).trans ?_, fun h h0 h4 => (exec_timSrcRead_takes h).trans ?_,
      fun h => hrs (a := .refuse stState []) ?_, fun hm hv hs => hrs (a := .refuse stBusy []) ?_, fun hm hv hs =>
        hrs (a := .ok { t with time := { t.time with step := some (⟨rdiv (t.source t.time.selected).theta 10, some c⟩ : PendingStep) } } stAccepted []) ?_⟩
    · rintro ⟨h1, h2, h3⟩
      rcases h with h | h | h
      · exact h h1
      · exact Bool.false_ne_true (h2.symm.trans h)
      · exact Nat.not_lt.mpr h3 h
    · rintro ⟨h1, h2, h3, h4⟩
      rcases h with h | h | h | h
      · exact Bool.false_ne_true (h.symm.trans h1)
      · exact h2 h
      · exact Bool.false_ne_true (h.symm.trans h3)
      · exact Bool.false_ne_true (h4.symm.trans h)
    · rintro ⟨h1, h2⟩
      exact h.elim (fun hno => Bool.false_ne_true (hno.symm.trans h1)) h2
    · rintro ⟨h1, h2⟩
      exact h.elim (fun hno => Bool.false_ne_true (hno.symm.trans h1)) (Nat.not_lt.mpr h2)
    · rw [if_pos (hsrc.imp_left fun h => by rw [h]; decide)]
      rfl
    · rw [if_neg (not_or.mpr ⟨Nat.not_lt.mpr (Nat.pos_of_ne_zero fun hz => h0 (BitVec.eq_of_toNat_eq hz)), Nat.not_lt.mpr h4⟩)]
      rfl
    · refine if_pos ?_
      rw [Bool.or_eq_true, anyRunning_iff, Bool.not_eq_true']
      exact h
    · refine (if_neg ?_).trans (if_pos (Option.isSome_iff_ne_none.mpr hs))
      rw [Bool.or_eq_true, anyRunning_iff, hv]
      exact not_or.mpr ⟨hm, Bool.false_ne_true⟩
    · refine (if_neg ?_).trans (if_neg (by simp [hs]))
      rw [Bool.or_eq_true, anyRunning_iff, hv]
      exact not_or.mpr ⟨hm, Bool.false_ne_true⟩

end Sys2Proof.Machine
end

section
/-! Hand-over (O57). -/

namespace Sys2Proof.Machine

open Sys2Proof.Claims

theorem exec_mismatchTestStart (s : State) : exec .mismatchTestStart s = execMismatchTestStart s := rfl

/-- A task of axis 1 that engine 1 runs. -/
def testedTask : Running :=
  { owner := .axis 1, cycle := 3, apply := 5, cycles := 0, start := 0, arith := false, library := false, written := [] }

/-- A test of axis 0 that waits for its start. -/
def waitingTest : MisTest := { owner := .axis 0, cycle := 0, engine := 0, started := false, own := none, peer := none }

/-- A test of axis 1 on engine 1, which failed here and passed at the peer. -/
def failedTest : MisTest := { owner := .axis 1, cycle := 0, engine := 1, started := true, own := some false, peer := some true }

/-- A chip in cycle 3 with both tests, whose engine 1 runs a task. -/
def testingChip : State :=
  let s := State.reset.setEngine 1 { Engine.reset with task := some testedTask }
  { s with cyc := { s.cyc with cycle := 3 }, twin := { s.twin with misTests := [waitingTest, failedTest] } }

/-- The chip starts the waiting test and settles the failed one: engine 1 fails, and its task, which ends, draws a free value for the clocks
that shared banks cost it (log 23), after the one that the test's own outcome is. -/
theorem testingChip_drawsTwice : ∃ u, exec .mismatchTestStart testingChip = .next u ∧ u.freeCtr = testingChip.freeCtr + 2 := ⟨_, rfl, rfl⟩

/-- Every test has still to hear of the peer, so that none is settled: the premise that the clause of O57 lacks. -/
theorem State.settleTests_open {s : State} (h : ∀ x ∈ s.twin.misTests, x.peer = none) : s.settleTests = s := by
  have hnone : s.twin.misTests.filter (fun (x : MisTest) => x.own.isSome && x.peer.isSome) = [] :=
    List.filter_eq_nil_iff.mpr fun x hx => by simp [h x hx]
  have hall : s.twin.misTests.filter (fun (x : MisTest) => !(x.own.isSome && x.peer.isSome)) = s.twin.misTests :=
    List.filter_eq_self.mpr fun x hx => by simp [h x hx]
  rw [State.settleTests, hnone]
  show s.modTwin _ = s
  rw [State.modTwin, hall]

/-- While no test is settled, the start of one draws one free value. -/
theorem exec_mismatchTestStart_drawsOnce {s : State} {m : MisTest}
    (hm : s.twin.misTests.find? (fun (x : MisTest) => !x.started && decide (x.cycle + 2 ≤ s.cyc.cycle)) = some m)
    (hrotated : ¬ ∃ e < 8, (s.engine e).rotated = true) (hpeer : ∀ x ∈ s.twin.misTests, x.peer = none) :
    ∃ u, exec .mismatchTestStart s = .next u ∧ u.freeCtr = s.freeCtr + 1 := by
  have hnone : ¬ (List.range 8).any (fun e => (s.engine e).rotated) = true := by simpa using hrotated
  rw [exec_mismatchTestStart, execMismatchTestStart, hm]
  refine ⟨_, if_neg hnone, ?_⟩
  rw [State.settleTests_open]
  · simp [State.modTwin]
  · simp only [State.modTwin, List.mem_map]
    rintro _ ⟨x, hx, rfl⟩
    have hx' : x ∈ s.twin.misTests := by simpa using hx
    split
    · exact hpeer x hx'
    · exact hpeer x hx'

/-- Refutes O57: the start of a mismatch test is said to draw one free value, but the same step settles each test that both chips have reported,
and a test that failed here fails its engine, whose running task draws another. -/
theorem not_handOver : ¬ Obligations.HandOver := by
  unfold Obligations.HandOver
  intro holds
  obtain ⟨-, -, -, -, -, -, -, -, -, -, -, -, -, -, -, -, -, -, -, starts, -⟩ := holds testingChip ⟨0, 0, false, false⟩ ⟨0, true, 0⟩ 0 0 0
    ⟨0, [], false, 0⟩ { kind := 0, seg := 0, slotN := 0, cyc := 0, len := 0 } [] ⟨0, 0, false, none⟩ waitingTest
  have hnone : ¬ ∃ e < 8, (testingChip.engine e).rotated = true := by decide
  obtain ⟨t, said, hsaid⟩ := starts rfl hnone
  obtain ⟨u, given, hgiven⟩ := testingChip_drawsTwice
  have htu : t = u := Host.Outcome.next.inj (said.symm.trans given)
  have hctr : testingChip.freeCtr + 1 = testingChip.freeCtr + 2 := hsaid.symm.trans ((congrArg State.freeCtr htu).trans hgiven)
  exact absurd hctr (by decide)

end Sys2Proof.Machine
end

section
/-! Resets, the boot and the image commands (O58). -/

namespace Sys2Proof.Machine

open Sys2Proof.Claims

theorem exec_resetN (pins : ResetPins) (s : State) : exec (.resetN pins) s = execResetN pins s := rfl
theorem exec_bootComplete (ok : Bool) (a b : BankImage) (s : State) : exec (.bootComplete ok a b) s = execBootComplete ok a b s := rfl
theorem exec_imgWrite (c : CmdCtx) (offset : BitVec 32) (data : List Byte) (s : State) :
    exec (.imgWrite c offset data) s = execImgWrite c offset data s := rfl
theorem exec_imgActivate (c : CmdCtx) (s : State) : exec (.imgActivate c) s = execImgActivate c s := rfl
theorem exec_imgInfo (c : CmdCtx) (bank : BitVec 8) (s : State) : exec (.imgInfo c bank) s = execImgInfo c bank s := rfl

/-! What no reset changes: the core clock, the queue of commands and the free values (R459, R460). -/

/-- The counters and the inputs that a fatal fault leaves. -/
structure State.SameClock (s u : State) : Prop where
  coreTicks : u.coreTicks = s.coreTicks
  freeCtr : u.freeCtr = s.freeCtr

section SameClock

variable {s u w : State}

theorem State.SameClock.refl : State.SameClock s s := ⟨rfl, rfl⟩

theorem State.SameClock.trans (h : State.SameClock s u) (h' : State.SameClock u w) : State.SameClock s w :=
  ⟨h'.coreTicks.trans h.coreTicks, h'.freeCtr.trans h.freeCtr⟩

theorem State.SameClock.foldl {β : Type} {f : State → β → State} (h : ∀ u x, State.SameClock u (f u x)) (l : List β) (s : State) :
    State.SameClock s (l.foldl f s) :=
  List.foldlRecOn (motive := fun u => State.SameClock s u) l f .refl (fun u hu x _ => hu.trans (h u x))

theorem State.idlePort_sameClock (s : State) (p : Nat) : State.SameClock s (s.idlePort p) := by
  unfold State.idlePort
  split
  · exact .refl
  · exact ⟨by simp, by simp⟩

theorem State.idlePorts_sameClock (s : State) : State.SameClock s s.idlePorts := State.SameClock.foldl State.idlePort_sameClock _ s

theorem State.driveSteps_sameClock (f : StepPort → StepPort) (s : State) :
    State.SameClock s ((List.range 8).foldl (fun s n => s.driveStep n f) s) :=
  State.SameClock.foldl (fun u n => ⟨by simp, by simp⟩) _ s

theorem State.goSilent_sameClock (s : State) : State.SameClock s s.goSilent := by
  unfold State.goSilent
  extract_lets s1 s2 s3
  have h1 : State.SameClock s s1 := State.SameClock.foldl State.idlePort_sameClock _ s
  have h2 : State.SameClock s1 s2 := State.driveSteps_sameClock _ s1
  clear_value s1 s2
  have h3 : State.SameClock s2 s3 := by
    refine State.SameClock.foldl (fun u n => ?_) _ s2
    exact ⟨rfl, rfl⟩
  have h : State.SameClock s s3 := (h1.trans h2).trans h3
  clear_value s3
  exact ⟨h.coreTicks, h.freeCtr⟩

theorem State.endgameStart_sameClock (s : State) : State.SameClock s s.endgameStart := by
  have h : State.SameClock s s.stepsOff := s.idlePorts_sameClock.trans (State.driveSteps_sameClock _ _)
  unfold State.endgameStart
  generalize s.stepsOff = t at h ⊢
  exact ⟨h.coreTicks, h.freeCtr⟩

theorem State.enterEndgame_sameClock (h : s.Fresh) : State.SameClock s s.enterEndgame := by
  rw [State.enterEndgame_eq h]
  exact s.endgameStart_sameClock.trans ⟨by simp only [State.demandMask_frame], by simp only [State.demandMask_frame]⟩

theorem State.fatal_sameClock (h : s.Fresh) (reason : Nat) : State.SameClock s (s.fatal reason) := by
  rw [State.fatal_fresh h]
  split
  · exact s.goSilent_sameClock
  · split
    · have hput : State.SameClock s (s.put (.twin (.declare reason s.cyc.cycle none))) := ⟨by simp, by simp⟩
      have hsilent := hput.trans (State.goSilent_sameClock _)
      unfold State.declared
      generalize (s.put (.twin (.declare reason s.cyc.cycle none))).goSilent = t at hsilent ⊢
      exact ⟨hsilent.coreTicks, hsilent.freeCtr⟩
    · exact State.enterEndgame_sameClock h

end SameClock

/-! PORST_N and RESET_N (R459, R460, R472, R494). -/

/-- What every reset gives: reset values but for the core clock, the field die, the flash, and the straps that are read. -/
def IsReset (s t : State) (test : Bool) (sel : BitVec 2) : Prop :=
  t.coreTicks = s.coreTicks ∧ t.pending = s.pending ∧ t.freeCtr = s.freeCtr ∧ t.die = s.die ∧ t.cyc.running = false
    ∧ t.axes = [] ∧ t.moves = State.reset.moves ∧ t.host = State.reset.host ∧ t.twin = Twin.reset ∧ t.saf.p = Channel.reset
    ∧ t.opening = State.reset.opening ∧ t.boot.ready = false ∧ t.boot.bankA.flash = s.boot.bankA.flash
    ∧ t.boot.bankB.flash = s.boot.bankB.flash ∧ t.boot.bootsel = sel ∧ t.boot.testEn = test ∧ t.arb = State.reset.arb

/-- The control die reset warm from the state that the reset has found, with the straps read again; the parameters stay in Endgame mode only. -/
def State.warmReset (u : State) (cause : Nat) (saf : Safety) (pins : ResetPins) : State :=
  let s1 := u.controlReset cause saf u.time.warm (if saf.endgame.isSome then u.params else []) u.fld.hSide
  { s1 with boot := { s1.boot with testEn := pins.testEn, bootsel := pins.bootsel } }

theorem State.warmReset_isReset {s u : State} (hclock : State.SameClock s u) (hpending : u.pending = s.pending) (hdie : u.die = s.die)
    (hboot : u.boot = s.boot) {saf : Safety} (hp : saf.p = Channel.reset) (cause : Nat) (pins : ResetPins) :
    IsReset s (u.warmReset cause saf pins) pins.testEn pins.bootsel :=
  ⟨hclock.coreTicks, hpending, hclock.freeCtr, hdie, rfl, rfl, rfl, rfl, rfl, hp, rfl, rfl, congrArg (fun b => b.bankA.flash) hboot,
    congrArg (fun b => b.bankB.flash) hboot, rfl, rfl, rfl⟩

/-- The safety unit of a chip that RESET_N finds quiet. -/
def Safety.quietReset (x : Safety) : Safety :=
  { Safety.reset with
    islandRunning := x.islandRunning, islandLost := x.islandLost
    h := { Channel.reset with linkLost := x.h.linkLost, lastFrame := x.h.lastFrame } }

/-- The safety unit whose island goes on through RESET_N. -/
def Safety.heldReset (x : Safety) : Safety := { x with p := Channel.reset, twinBit := false, sealed := none, demandWait := [], pendingSec := none }

theorem State.resetQuiet_iff (s : State) : s.resetQuiet = true ↔ s.twin.standby = true ∨ ∀ g < 32, (s.saf.h.group g).code = 2 := by
  simp [State.resetQuiet]

/-- 2 for the reset that SYS_RESET announced, else 1. -/
def State.resetCause (s : State) : Nat :=
  if (match s.boot.resetDue with
    | none => false
    | some d => decide (d.tick ≤ s.coreTicks)) then 2 else 1

theorem State.resetCause_cases (s : State) : s.resetCause = 1 ∨ s.resetCause = 2 := (ite_eq_or_eq _ 2 1).symm

section ResetN

variable {s : State} (pins : ResetPins)

/-- RESET_N of a chip that has reacted to a fatal fault before. -/
theorem exec_resetN_held (h : (s.saf.silent || s.saf.endgame.isSome) = true) :
    exec (.resetN pins) s = .next (s.warmReset s.resetCause s.saf.heldReset pins) := by
  rw [exec_resetN]
  unfold execResetN
  rw [h]
  rfl

theorem exec_resetN_quiet (h : (s.saf.silent || s.saf.endgame.isSome) = false) (hq : s.resetQuiet = true) :
    exec (.resetN pins) s = .next (s.warmReset s.resetCause s.saf.quietReset pins) := by
  rw [exec_resetN]
  unfold execResetN
  rw [h, hq]
  rfl

/-- RESET_N of a chip with a stop group that still moves is a fatal fault. -/
theorem exec_resetN_moving (h : (s.saf.silent || s.saf.endgame.isSome) = false) (hq : s.resetQuiet = false) :
    exec (.resetN pins) s = .next ((s.fatal 0x01).warmReset s.resetCause (s.fatal 0x01).saf.heldReset pins) := by
  rw [exec_resetN]
  unfold execResetN
  rw [h, hq]
  rfl

/-- A chip that goes silent leaves channel H as it is. -/
theorem State.goSilent_h (s : State) : s.goSilent.saf.h = s.saf.h := by
  unfold State.goSilent
  extract_lets s1 s2 s3
  have h1 : s1.saf = s.saf := by
    refine List.foldlRecOn (motive := fun u : State => u.saf = s.saf) _ _ rfl (fun u hu n _ => ?_)
    simp [hu]
  have h2 : s2.saf = s1.saf := by
    refine List.foldlRecOn (motive := fun u : State => u.saf = s1.saf) _ _ rfl (fun u hu n _ => ?_)
    simp [hu]
  have h3 : s3.saf = s2.saf := by
    refine List.foldlRecOn (motive := fun u : State => u.saf = s2.saf) _ _ rfl (fun u hu n _ => ?_)
    exact hu
  have hsaf : s3.saf = s.saf := h3.trans (h2.trans h1)
  clear_value s3
  exact (congrArg Safety.h hsaf :)

theorem State.declared_h (s : State) (reason : Nat) : (s.declared reason).saf.h = s.saf.h := by
  have hsilent : (s.put (.twin (.declare reason s.cyc.cycle none))).goSilent.saf.h = s.saf.h := (State.goSilent_h _).trans (by simp)
  unfold State.declared
  generalize (s.put (.twin (.declare reason s.cyc.cycle none))).goSilent = t at hsilent ⊢
  exact hsilent

theorem State.fresh_iff : s.Fresh ↔ (s.saf.silent || s.saf.endgame.isSome) = false := by
  rw [Bool.or_comm, ← not_iff_not, ← State.fresh_guard, Bool.not_eq_false]

theorem State.fresh_iff_not : s.Fresh ↔ ¬ (s.saf.silent = true ∨ s.saf.endgame ≠ none) := by
  rw [State.Fresh, not_or, not_not, Bool.not_eq_true, and_comm]

/-- What RESET_N leaves of Endgame mode, of the silence, of channel H and of the parameters. -/
structure ResetNKeeps (s t : State) : Prop where
  held : ¬ s.Fresh → t.saf.endgame = s.saf.endgame ∧ t.saf.silent = s.saf.silent ∧ t.saf.h = s.saf.h
  quiet : s.Fresh → s.resetQuiet = true → t.saf.endgame = none ∧ t.saf.silent = false ∧ t.params = []
  alone : s.Fresh → ¬ s.resetQuiet = true → s.saf.twinBit = false →
    t.saf.endgame ≠ none ∧ t.params = s.params ∧ ∀ g < 32, (t.saf.h.group g).code = 2
  twinned : s.Fresh → ¬ s.resetQuiet = true → s.saf.twinBit = true → t.saf.endgame = none ∧ t.saf.silent = true ∧ t.saf.h = s.saf.h

/-- RESET_N: a reset from the state u that the chip, or a fatal fault of it, has reached. -/
theorem exec_resetN_facts (s : State) (pins : ResetPins) : ∃ t, exec (.resetN pins) s = .next t ∧ IsReset s t pins.testEn pins.bootsel
    ∧ t.boot.twinPresent = s.boot.twinPresent ∧ t.boot.twinRole = s.boot.twinRole ∧ (t.boot.cause = 1 ∨ t.boot.cause = 2)
    ∧ ResetNKeeps s t := by
  by_cases hfresh : s.Fresh
  · cases hq : s.resetQuiet with
    | true =>
      exact ⟨_, exec_resetN_quiet pins (State.fresh_iff.mp hfresh) hq, State.warmReset_isReset .refl rfl rfl rfl rfl _ pins, rfl, rfl,
        s.resetCause_cases, fun h => absurd hfresh h, fun _ _ => ⟨rfl, rfl, rfl⟩, fun _ h => absurd hq h, fun _ h => absurd hq h⟩
    | false =>
      have hnotQuiet := mt s.resetQuiet_iff.mpr (Bool.eq_false_iff.mp hq)
      have hmove : s.twin.standby = false := Bool.eq_false_iff.mpr fun hs => hnotQuiet (.inl hs)
      have hboot : (s.fatal 0x01).boot = s.boot := by simp
      refine ⟨_, exec_resetN_moving pins (State.fresh_iff.mp hfresh) hq,
        State.warmReset_isReset (State.fatal_sameClock hfresh 0x01) (by simp) (by simp) hboot rfl _ pins, (congrArg BootSt.twinPresent hboot :),
        (congrArg BootSt.twinRole hboot :), s.resetCause_cases, fun h => absurd hfresh h, fun _ h => absurd (hq.symm.trans h) Bool.false_ne_true, fun _ _ htwin => ?_,
        fun _ _ htwin => ?_⟩
      · have hfatal := State.fatal_alone (reason := 0x01) hfresh hmove htwin
        obtain ⟨hend, -, -, -, -, -, hgroups, -⟩ := State.enterEndgame_facts hfresh
        rw [← hfatal] at hend hgroups
        have hparams : (s.fatal 0x01).params = s.params := by simp
        exact ⟨hend, (if_pos (Option.isSome_iff_ne_none.mpr hend)).trans hparams, hgroups⟩
      · have hfatal := State.fatal_twinned (reason := 0x01) hfresh hmove htwin
        obtain ⟨hend, hsilent, -⟩ := s.declared_facts 0x01
        have hh := s.declared_h 0x01
        rw [← hfatal] at hend hsilent hh
        exact ⟨hend.trans hfresh.1, hsilent, hh⟩
  · have hheld : (s.saf.silent || s.saf.endgame.isSome) = true := Bool.eq_true_of_not_eq_false (mt State.fresh_iff.mpr hfresh)
    exact ⟨_, exec_resetN_held pins hheld, State.warmReset_isReset .refl rfl rfl rfl rfl _ pins, rfl, rfl, s.resetCause_cases,
      fun _ => ⟨rfl, rfl, rfl⟩, fun h => absurd h hfresh, fun h => absurd h hfresh, fun h => absurd h hfresh⟩

end ResetN

/-- PORST_N resets everything but the core clock, the queue, the free values, the field die and the flash. -/
theorem exec_porstN_facts (s : State) (present role : Bool) (pins : ResetPins) : ∃ t, exec (.porstN present role pins) s = .next t
    ∧ IsReset s t pins.testEn pins.bootsel ∧ t.time = WallTime.reset ∧ t.params = [] ∧ t.cyc = Cycle.reset
    ∧ t.saf = { Safety.reset with islandRunning := s.saf.islandRunning } ∧ t.boot.cause = 0 ∧ t.boot.twinPresent = present
    ∧ t.boot.twinRole = role :=
  ⟨_, rfl, ⟨rfl, rfl, rfl, rfl, rfl, rfl, rfl, rfl, rfl, rfl, rfl, rfl, rfl, rfl, rfl, rfl, rfl⟩, rfl, rfl, rfl, rfl, rfl, rfl, rfl⟩

/-! The boot (R465 to R467, R494). -/

section Boot

variable {s : State} {n : Nat} {b : BankImage}

theorem Channel.restartRuns_ok (c : Channel) (axes : List Nat) : (c.restartRuns axes).ok = c.ok :=
  List.foldlRecOn (motive := fun x : Channel => x.ok = c.ok) axes _ rfl (fun x hx a _ => (show (x.setMon a _).ok = x.ok from rfl).trans hx)

theorem State.demanded_ok (s : State) (ch : Chan) (g : Nat) (sto : Bool) (cause : Nat) : (s.demanded ch g sto cause).ok = (s.chan ch).ok := by
  unfold State.demanded
  split
  · exact (s.chan ch).restartRuns_ok _
  · rfl

theorem State.demandMask_ok (s : State) (ch : Chan) (mask : Nat) (sto : Bool) (cause : Nat) :
    (s.demandMask ch mask sto cause).saf.p.ok = s.saf.p.ok := by
  refine s.demandMask_induction ch mask sto cause (P := fun t => t.saf.p.ok = s.saf.p.ok) (fun t g ht => ?_) rfl
  rw [State.demand_saf]
  cases ch with
  | p => exact (t.demanded_ok .p g sto cause).trans ht
  | h => exact ht

/-- The boot has found the same, and channel P is as usable, in both states. -/
structure State.SameBoot (s u : State) : Prop where
  boot : u.boot = { s.boot with pendingNet := u.boot.pendingNet }
  ok : u.saf.p.ok = s.saf.p.ok

theorem State.SameBoot.refl (s : State) : State.SameBoot s s := ⟨rfl, rfl⟩

theorem State.SameBoot.of_eq {s u : State} (hboot : u.boot = s.boot) (hsaf : u.saf = s.saf) : State.SameBoot s u :=
  ⟨by rw [hboot], by rw [hsaf]⟩

theorem State.SameBoot.trans {s u w : State} (h : State.SameBoot s u) (h' : State.SameBoot u w) : State.SameBoot s w :=
  ⟨h'.boot.trans (by rw [h.boot]), h'.ok.trans h.ok⟩

theorem State.SameBoot.foldl {β : Type} {f : State → β → State} (h : ∀ u x, State.SameBoot u (f u x)) (l : List β) (s : State) :
    State.SameBoot s (l.foldl f s) :=
  List.foldlRecOn (motive := fun u => State.SameBoot s u) l f (.refl s) (fun u hu x _ => hu.trans (h u x))

theorem State.demandMask_sameBoot (s : State) (ch : Chan) (mask : Nat) (sto : Bool) (cause : Nat) :
    State.SameBoot s (s.demandMask ch mask sto cause) :=
  ⟨by simp only [State.demandMask_frame], s.demandMask_ok ch mask sto cause⟩

theorem State.checkSection_sameBoot (s : State) : State.SameBoot s s.checkSection := by
  unfold State.checkSection
  extract_lets rules _ _ _ s1 s2
  have h1 : State.SameBoot s s1 := ⟨rfl, rfl⟩
  have h2 : State.SameBoot s1 s2 := by
    unfold s2
    split
    · exact .refl s1
    · exact s1.demandMask_sameBoot _ _ _ _
  clear_value s2
  split
  · exact h1.trans h2
  · exact (h1.trans h2).trans (s2.demandMask_sameBoot _ _ _ _)

theorem State.applyNet_sameBoot (s : State) : State.SameBoot s s.applyNet := by
  unfold State.applyNet
  extract_lets s1 s2
  have h1 : State.SameBoot s s1 := by
    refine State.SameBoot.foldl (fun u n => ?_) _ s
    split
    · exact .refl u
    · exact ⟨rfl, rfl⟩
  have h2 : State.SameBoot s1 s2 := by
    refine State.SameBoot.foldl (fun u p => ?_) _ s1
    exact ⟨rfl, rfl⟩
  clear_value s2
  have h3 : State.SameBoot s2 { s2 with boot := { s2.boot with pendingNet := [] } } := ⟨rfl, rfl⟩
  exact ((h1.trans h2).trans h3).trans (State.checkSection_sameBoot _)

theorem State.beginOpening_sameBoot (s : State) : State.SameBoot s s.beginOpening := by
  unfold State.beginOpening
  extract_lets s1 s2 s3
  have h2 : State.SameBoot s1 s2 := by
    refine State.SameBoot.foldl (fun u p => ?_) _ s1
    exact ⟨rfl, rfl⟩
  have h3 : State.SameBoot s2 s3 := by
    refine State.SameBoot.foldl (fun u n => ?_) _ s2
    exact ⟨rfl, rfl⟩
  have h : State.SameBoot s s3 := (s.applyNet_sameBoot.trans h2).trans h3
  clear_value s3
  exact ⟨h.boot, h.ok⟩

/-- The device has booted bank n, and channel P may be used. -/
def Booted (t : State) (n : Nat) (seq : BitVec 32) : Prop :=
  t.boot.bank = some n ∧ t.boot.ready = true ∧ t.boot.recovery = false ∧ t.boot.booting = false ∧ t.boot.imgSeq = seq ∧ t.saf.p.ok = true

theorem Booted.of_sameBoot {s u : State} {n : Nat} {seq : BitVec 32} (h : Booted s n seq) (hsame : State.SameBoot s u) : Booted u n seq := by
  obtain ⟨hboot, hok⟩ := hsame
  rw [Booted, hboot, hok]
  exact h

theorem State.finishBoot_booted (s : State) (n : Nat) (b : BankImage) : Booted (s.finishBoot n b) n b.imgSeq := by
  unfold State.finishBoot
  extract_lets s1 _ _ _ _ _ _ s2 s3
  have h2 : Booted s2 n b.imgSeq := ⟨rfl, rfl, rfl, rfl, rfl, rfl⟩
  have h3 : Booted s3 n b.imgSeq := h2.of_sameBoot (.of_eq (by simp [s3]) (by simp [s3]))
  clear_value s3
  split
  · exact h3
  · exact h3.of_sameBoot s3.beginOpening_sameBoot

theorem bootChoice_bankA (va vb : Bool) (seqA seqB : Nat) : bootChoice 1 va vb seqA seqB = if va then some 0 else none := rfl

theorem bootChoice_bankB (va vb : Bool) (seqA seqB : Nat) : bootChoice 2 va vb seqA seqB = if vb then some 1 else none := rfl

theorem bootChoice_free {sel : BitVec 2} (h : sel = 0 ∨ sel = 3) (va vb : Bool) (seqA seqB : Nat) : bootChoice sel va vb seqA seqB =
    if va && vb then (if seqA < seqB then some 1 else some 0) else if va then some 0 else if vb then some 1 else none := by
  rcases h with rfl | rfl <;> rfl

theorem bootChoice_none (sel : BitVec 2) (seqA seqB : Nat) : bootChoice sel false false seqA seqB = none := by simp [bootChoice]

/-- The device has found no bank to boot. -/
def Recovering (t : State) : Prop := t.boot.recovery = true ∧ t.boot.ready = false ∧ t.boot.booting = false ∧ t.boot.bank = none

theorem State.enterRecovery_recovering (s : State) (ka kb : List KeySlot) : Recovering (s.enterRecovery ka kb) := ⟨rfl, rfl, rfl, rfl⟩

variable {ok : Bool} {a b : BankImage}

theorem exec_bootComplete_off (h : ¬ (s.boot.booting = true ∧ s.boot.testEn = false)) : exec (.bootComplete ok a b) s = .next s :=
  whenB_of_false (by simpa using h) s _

/-- What the boot does when it may: the bank that `bootChoice` takes, or recovery. -/
theorem exec_bootComplete_on (h : s.boot.booting = true ∧ s.boot.testEn = false) :
    (bootChoice s.boot.bootsel (ok && (s.loadBank a).bankValid a) (ok && (s.loadBank b).bankValid b) a.imgSeq.toNat b.imgSeq.toNat = some 0 →
      ∃ t, exec (.bootComplete ok a b) s = .next t ∧ Booted t 0 a.imgSeq)
    ∧ (bootChoice s.boot.bootsel (ok && (s.loadBank a).bankValid a) (ok && (s.loadBank b).bankValid b) a.imgSeq.toNat b.imgSeq.toNat = some 1 →
      ∃ t, exec (.bootComplete ok a b) s = .next t ∧ Booted t 1 b.imgSeq)
    ∧ (bootChoice s.boot.bootsel (ok && (s.loadBank a).bankValid a) (ok && (s.loadBank b).bankValid b) a.imgSeq.toNat b.imgSeq.toNat = none →
      ∃ t, exec (.bootComplete ok a b) s = .next t ∧ Recovering t) := by
  have hon : (s.boot.booting && !s.boot.testEn) = true := by simpa using h
  rw [exec_bootComplete]
  unfold execBootComplete
  extract_lets ta tb va vb know
  rw [whenB_of_true hon]
  refine ⟨fun hc => ⟨_, rfl, ?_⟩, fun hc => ⟨_, rfl, ?_⟩, fun hc => ⟨_, rfl, ?_⟩⟩
  · rw [hc]
    exact State.finishBoot_booted _ 0 a
  · rw [hc]
    exact State.finishBoot_booted _ 1 b
  · rw [hc]
    exact State.enterRecovery_recovering _ _ _

end Boot

/-! The image commands (R447, R454, R466). -/

section Image

variable {s : State} {c : CmdCtx} {offset : BitVec 32} {data : List Byte} {bank : BitVec 8}

/-- A write of the flash is under way. -/
def State.flashBusy (t : State) : Prop := t.boot.flashWrite ≠ none ∨ t.host.keys.pendingSet ≠ none

theorem State.flashBusy_iff (t : State) : (t.boot.flashWrite.isSome || t.host.keys.pendingSet.isSome) = true ↔ t.flashBusy := by
  rw [Bool.or_eq_true, Option.isSome_iff_ne_none, Option.isSome_iff_ne_none, State.flashBusy]

/-- What IMG_WRITE answers. -/
def State.imgWriteAnswer (t : State) (c : CmdCtx) (offset : BitVec 32) (data : List Byte) : Ans :=
  if 16777216 < offset.toNat + data.length then .refuse stBadValue []
  else if t.boot.flashWrite.isSome || t.host.keys.pendingSet.isSome then .refuse stBusy []
  else .quiet { t with boot := { t.boot with flashWrite := some (c, t.spareBank, offset.toNat, data) } }

theorem exec_imgWrite_takes (h : Local s c 0x0E01 5) :
    exec (.imgWrite c offset data) s = .next (((s.takeUp c).imgWriteAnswer c offset data).result (s.takeUp c) c 0x0E01) :=
  exec_hostAt_takes (k := { op := 0x0E01, need := roleAdmin, logged := false }) (exec_imgWrite c offset data s) h rfl rfl

/-- The IMG_SEQ that IMG_ACTIVATE gives the spare bank: the higher one. -/
def State.nextImgSeq (t : State) : Nat :=
  let b := (t.bankOf t.spareBank).view
  let other := (t.bankOf (1 - t.spareBank)).view.imgSeq
  if other < b.imgSeq then b.imgSeq else min 0xFFFFFFFE (other + 1)

/-- The spare bank with its new IMG_SEQ. -/
def State.activated (t : State) : State :=
  t.setBank t.spareBank { (t.bankOf t.spareBank).view.write 8 (be 4 t.nextImgSeq) with imgSeq := t.nextImgSeq, written := false }

/-- What IMG_ACTIVATE answers. -/
def State.imgActivateAnswer (t : State) : Ans :=
  if t.boot.flashWrite.isSome || t.host.keys.pendingSet.isSome then .refuse stBusy []
  else if !(t.bankOf t.spareBank).view.valid then .refuse stBadValue []
  else .ok (t.activated.put (.flash t.spareBank 8 (be 4 t.nextImgSeq))) stDone (be 4 t.nextImgSeq)

theorem exec_imgActivate_takes (h : Local s c 0x0E02 5) :
    exec (.imgActivate c) s = .next ((s.takeUp c).imgActivateAnswer.result (s.takeUp c) c 0x0E02) :=
  exec_hostAt_takes (k := { op := 0x0E02, need := roleAdmin, logged := false }) (exec_imgActivate c s) h rfl rfl

theorem exec_imgInfo_takes (h : Reads s c 0x0E03 1) : exec (.imgInfo c bank) s = .next (Ans.result (s.takeUp c) c 0x0E03
    (if 1 < bank.toNat then .refuse stBadValue []
     else .ok (s.takeUp c) stDone (be 1 (b2n ((s.takeUp c).bankOf bank.toNat).view.valid) ++ be 4 ((s.takeUp c).bankOf bank.toNat).view.imgSeq
      ++ ((s.takeUp c).bankOf bank.toNat).view.hashes.flatMap (fun (h : BitVec 64) => be 8 h.toNat)))) :=
  exec_hostAt_takes (k := { op := 0x0E03, need := roleView, move := false, logged := false }) (exec_imgInfo c bank s) h rfl rfl

end Image

/-- Settles O58: PORST_N and RESET_N, the choice of the bank that the boot makes, and the image commands. -/
theorem resetsAndBoot : Obligations.ResetsAndBoot := by
  unfold Obligations.ResetsAndBoot
  refine ⟨fun s test present role sel => ?_, fun s a b ok => ?_, fun s c offset data bank => ?_⟩
  · intro held quiet reset
    refine ⟨exec_porstN_facts s present role ⟨test, sel⟩, ?_⟩
    obtain ⟨t, hexec, hreset, hpresent, hrole, hcause, hkeeps⟩ := exec_resetN_facts s ⟨test, sel⟩
    have hfresh : s.Fresh ↔ ¬ held := State.fresh_iff_not
    have hquiet : s.resetQuiet = true ↔ quiet := s.resetQuiet_iff
    exact ⟨t, hexec, hreset, hpresent, hrole, hcause, fun h => hkeeps.held (mt hfresh.mp (not_not.mpr h)),
      fun h hq => hkeeps.quiet (hfresh.mpr h) (hquiet.mpr hq), fun h hq => hkeeps.alone (hfresh.mpr h) (mt hquiet.mp hq),
      fun h hq => hkeeps.twinned (hfresh.mpr h) (mt hquiet.mp hq)⟩
  · intro va vb free boots recovers on
    have hcase : on → _ := exec_bootComplete_on (ok := ok) (a := a) (b := b)
    have hread : ok = true → (ok && (s.loadBank a).bankValid a) = va ∧ (ok && (s.loadBank b).bankValid b) = vb := fun hok => by
      rw [hok]
      exact ⟨rfl, rfl⟩
    refine ⟨exec_bootComplete_off, fun h hok hsel ha hb hseq => (hcase h).1 ?_, fun h hok hsel ha hb hseq => (hcase h).2.1 ?_,
      fun h hok hsel ha hb => (hcase h).1 ?_, fun h hok hsel ha hb => (hcase h).2.1 ?_, fun h hok hsel ha => (hcase h).1 ?_,
      fun h hok hsel hb => (hcase h).2.1 ?_, fun h hok hsel ha => (hcase h).2.2 ?_, fun h hok hsel hb => (hcase h).2.2 ?_,
      fun h hno => (hcase h).2.2 ?_⟩
    · rw [(hread hok).1, (hread hok).2, bootChoice_free hsel, ha, hb]
      exact if_neg (Nat.not_lt.mpr hseq)
    · rw [(hread hok).1, (hread hok).2, bootChoice_free hsel, ha, hb]
      exact if_pos hseq
    · rw [(hread hok).1, (hread hok).2, bootChoice_free hsel, ha, hb]
      rfl
    · rw [(hread hok).1, (hread hok).2, bootChoice_free hsel, ha, hb]
      rfl
    · rw [(hread hok).1, hsel, bootChoice_bankA, ha]
      rfl
    · rw [(hread hok).2, hsel, bootChoice_bankB, hb]
      rfl
    · rw [(hread hok).1, hsel, bootChoice_bankA, ha]
      rfl
    · rw [(hread hok).2, hsel, bootChoice_bankB, hb]
      rfl
    · have hnone : (ok && (s.loadBank a).bankValid a) = false ∧ (ok && (s.loadBank b).bankValid b) = false := by
        rcases hno with hbad | ⟨ha, hb⟩
        · rw [hbad]
          exact ⟨rfl, rfl⟩
        · exact ⟨Bool.and_eq_false_imp.mpr fun _ => ha, Bool.and_eq_false_imp.mpr fun _ => hb⟩
      rw [hnone.1, hnone.2]
      exact bootChoice_none _ _ _
  · intro t busy n b other q kept v wr act
    have hwrite : ∀ {x : Ans}, t.imgWriteAnswer c offset data = x → Local s c 0x0E01 5 →
        exec (.imgWrite c offset data) s = .next (x.result t c 0x0E01) := fun hx h => hx ▸ exec_imgWrite_takes h
    have hact : ∀ {x : Ans}, t.imgActivateAnswer = x → Local s c 0x0E02 5 → exec (.imgActivate c) s = .next (x.result t c 0x0E02) :=
      fun hx h => hx ▸ exec_imgActivate_takes h
    have hbusy : (t.boot.flashWrite.isSome || t.host.keys.pendingSet.isSome) = true ↔ busy := t.flashBusy_iff
    refine ⟨fun hlong => hwrite (x := .refuse stBadValue []) (if_pos hlong),
      fun hfits hb => hwrite (x := .refuse stBusy []) ((if_neg (Nat.not_lt.mpr hfits)).trans (if_pos (hbusy.mpr hb))),
      fun hfits hb => hwrite (x := .quiet { t with boot := { t.boot with flashWrite := some (c, n, offset.toNat, data) } })
        ((if_neg (Nat.not_lt.mpr hfits)).trans (if_neg (mt hbusy.mp hb))),
      fun hbank => ?_, fun hbank => ?_, fun hb => hact (x := .refuse stBusy []) (if_pos (hbusy.mpr hb)),
      fun hb hv => hact (x := .refuse stBadValue []) ((if_neg (mt hbusy.mp hb)).trans (if_pos (Bool.not_eq_true' _ ▸ hv))),
      fun hb hv => hact (x := .ok (kept.put (.flash n 8 (be 4 q))) stDone (be 4 q)) ((if_neg (mt hbusy.mp hb)).trans (if_neg ?_)),
      fun hbank h => (exec_imgInfo_takes h).trans ?_, fun hbank h => (exec_imgInfo_takes h).trans ?_⟩
    · simp only [n, State.spareBank, hbank]
    · simp only [n, State.spareBank, hbank]
    · rw [Bool.not_eq_true', Bool.not_eq_false]
      exact hv
    · rw [if_pos hbank]
      rfl
    · rw [if_neg (Nat.not_lt.mpr hbank)]
      rfl

end Sys2Proof.Machine
end
